-- ==== Sys2Proof/Word.lean ====
section
/-!
DEFINITION. Sys2Proof/Word.lean: the octet and the words the manual numbers by bits (R9: the dictionary's integer types;
R334, R345: the colour engine's 32-bit lane). Numbers that the manual only counts with (periods, levels, line numbers)
are `Nat` or `Int`, not bit vectors.
-/

namespace Sys2Proof

/-- One octet. -/
abbrev Byte := BitVec 8

/-- One 32-bit lane value of a colour engine (R334), and any U32 the manual treats as bits. -/
abbrev W32 := BitVec 32

/-- A 16-bit word: an H24 half, a mask of 16 lanes, an instruction field. -/
abbrev W16 := BitVec 16

/-- Octets, lowest address first. -/
abbrev Bytes := List Byte

end Sys2Proof
end

