-- ==== Sys2Proof/Syntax.lean ====
section
/-!
DEFINITION. Sys2Proof/Syntax.lean: the commands the module takes from outside, one constructor per row of the table of
operations and events, with the values a command carries. Instance numbers are bounded by their type where the manual
fixes the count; measured quantities (a voltage, a slack, a time) are numbers in the unit the manual reports them in.
-/

namespace Sys2Proof

/-- The roles of R12, lowest first. -/
inductive Role where
  | observer | operator | integrator | custodian | kilvan
  deriving DecidableEq, Repr

/-- Who writes an entry: path rank (R127), role, session; session 0 is the one that needs no set-up (R152). -/
structure Writer where
  path : Fin 9
  role : Role
  session : BitVec 16
  deriving DecidableEq, Repr

/-- A firmware image (R109, R177, R179): its epoch and its code, which the signature covers in this order, and the key that is said to have signed it
(log entry 43). -/
structure Firmware where
  epoch : BitVec 8
  code : Bytes
  key : Bytes
  signature : Bytes
  deriving DecidableEq, Repr

/-- What a power-up finds (R80, R81, R109, R748). -/
structure BootInputs where
  /-- Levels of ROLE[1:0], ARRAY_POS[1:0], TWIN_EN, BOOT_SRC, VSEL_SC, VSEL_ACC, VSEL_AUD and VSEL_TIO, and which of the balls follow both pulls. -/
  pins : BitVec 10
  opens : BitVec 10
  /-- Failed self-tests: bit of 0x1301:04, instance. CORES names the core; MRAM the structure of event 0x0131, and 16 more where both its copies are
  lost; REPLICA the rail and twice the replica's index; SRAMBIST 0 to 23 a Troupe, 24 to 31 a raw front end, above that any other bank. -/
  fails : List (BitVec 3 × BitVec 16)
  deriving DecidableEq, Repr

/-- What training on a lane is heard as (R236, R238): 16 consecutive training blocks as they stand at the balls, each with the 64 bits before it; or, on
an ETH100 lane, the lane that Clause 82's alignment markers name, and whether they arrive inverted. -/
inductive TrainingInput where
  | blocks (l : List (BitVec 64 × BitVec 66))
  | markers (lane : Fin 4) (inverted : Bool)
  deriving DecidableEq, Repr

/-- What a lane's receiver reports of the time since its last report: invalid headers, those of the last 125 µs window (R230, R231); the bits that a PRBS
quad's lane received (R247); codewords corrected and uncorrected on an ETH100 quad (R249). -/
structure LaneReport where
  invalid : BitVec 32
  window : BitVec 32
  bits : List Bool
  corrected : BitVec 32
  uncorrected : BitVec 32
  deriving DecidableEq, Repr

/-- How a Denval frame arrives (R146, R148, R149, R151): `fd` false is a classical, remote or base-identifier CAN
frame, and `passive` that the error counters of the port, with this frame in, make it error-passive. -/
inductive DenvalPath where
  | mailbox | twin | udp (fragmented : Bool) | can (port : Fin 4) (fd passive : Bool)
  deriving DecidableEq, Repr

/-- A Denval frame: source address and port on UDP (0 elsewhere), header word, body (R139, R141). -/
structure DenvalFrame where
  path : DenvalPath
  source : BitVec 48
  word : BitVec 32
  body : Bytes
  deriving DecidableEq, Repr

/-- What a Frame Start packet carries (R256). -/
structure FrameStart where
  stream : Fin 16
  gidx : Fin 8
  /-- Group count G of the header. -/
  groups : BitVec 8
  counter : BitVec 16
  width : BitVec 16
  height : BitVec 16
  depth : BitVec 8
  before : BitVec 8
  after : BitVec 8
  testPattern : Bool
  time : BitVec 64
  sensorBytes : Bytes
  /-- The camera head's latch T96 where the packet came over Felley (R284); 0 otherwise. -/
  upstream : Nat
  /-- The CRC of each logical lane's trailer (R258). -/
  trailers : List (BitVec 32)
  deriving DecidableEq, Repr

/-- Header of a line, embedded-line or Frame End packet (R256): `number` is the line, the embedded line's index, or the frame counter. -/
structure PacketHeader where
  stream : Fin 16
  gidx : Fin 8
  number : BitVec 16
  deriving DecidableEq, Repr

/-- Modes of a sensor context (0x3000:01). -/
inductive CtxMode where
  | disabled | run | test
  deriving DecidableEq, Repr
/-- One H24 pixel as the raw front end writes it (R311). -/
structure Px where
  r : BitVec 24
  g : BitVec 24
  b : BitVec 24
  deriving DecidableEq, Repr

/-- What an array neighbour sends across a band edge (R427). -/
inductive HaloPart where
  /-- Raw band lines: frame line number and packed codes. -/
  | raw (lines : List (Nat × Bytes))
  /-- Developed rows of one segment: window line and pixels, aprons included. -/
  | rows (seg : Nat) (rows : List (Nat × List Px))
  deriving DecidableEq, Repr

/-- Modes of BRP (R360); MODE 0 is no word of the instruction set. -/
inductive BranchMode where
  | any | all | none
  deriving DecidableEq, Repr

/-- A directory entry as it stands on a volume, with the extents found by walking back from its last one (R527). -/
structure DirEntry where
  slot : Nat
  entry : Bytes
  extents : List Nat
  deriving DecidableEq, Repr

/-- What a drive shows at attachment (R522, R526). -/
structure DriveInfo where
  capacity : BitVec 64
  model : Bytes
  serial : Bytes
  link : BitVec 8
  header : Bytes
  directory : List DirEntry
  deriving DecidableEq, Repr

/-- What a parity error in an engine struck (event 0x0A02). -/
inductive EngineFault where
  | instructionStore | localMemory | registerFile
  deriving DecidableEq, Repr

/-- What a parity error in a Troupe struck (event 0x0A03). -/
inductive TroupeFault where
  | stripeMemory | tableMemory | outputPath
  deriving DecidableEq, Repr


/-- What the controller finds in a line it reads (R568): no error, an error it corrects, an uncorrectable one, or a tag that disagrees. -/
inductive EccFound where
  | clean | corrected | uncorrectable | addressError
  deriving DecidableEq, Repr

/-- The kind of a coded picture, as the decoder tells them apart (R496). -/
inductive PicKind where
  | idr | cra | rasl | other
  deriving DecidableEq, Repr

/-- The coding tools of a stream, in the order of the table of R473. -/
structure CodingTools where
  /-- CTB size, and the ranges of CU and TU sizes. -/
  ctb : Nat
  cuMin : Nat
  cuMax : Nat
  tuMin : Nat
  tuMax : Nat
  /-- Asymmetric PU shapes; strong intra smoothing; weighted prediction. -/
  amp : Bool
  smoothing : Bool
  weighted : Bool
  /-- Search range in samples, horizontal and vertical. -/
  searchX : Nat
  searchY : Nat
  temporalMv : Bool
  /-- B slices, and sps_max_num_reorder_pics. -/
  bSlices : Bool
  reorder : Nat
  longTerm : Nat
  deblock : Bool
  sao : Bool
  signHiding : Bool
  transformSkip : Bool
  /-- Scaling lists: 0 flat, 1 default, 2 explicit. -/
  scaling : Nat
  pcm : Bool
  tileColumns : Nat
  tileRows : Nat
  wavefront : Bool
  /-- CTU rows of an independent slice where every slice is of whole rows, else none; and dependent slice segments. -/
  sliceRows : Option Nat
  dependent : Bool
  rangeExtension : Bool
  deriving DecidableEq, Repr

/-- What a decode core reads at the head of an access unit (R471, R472, R495): parameter sets, picture kind, and faults found there, in the
row order of the decoder fault table. -/
structure AuInfo where
  kind : PicKind
  recovery : Bool
  profile : BitVec 8
  level : BitVec 8
  /-- 0 4:0:0, 1 4:2:0, 2 4:2:2, 3 4:4:4. -/
  chroma : Fin 4
  depth : BitVec 8
  width : BitVec 16
  height : BitVec 16
  tools : CodingTools
  /-- colour_primaries, transfer_characteristics, matrix_coeffs, video_full_range_flag. -/
  colour : BitVec 32
  /-- Pictures missing by the POC step, in a bare byte stream. -/
  missing : BitVec 16
  faults : List (Fin 10)
  deriving DecidableEq, Repr

/-- A decoded picture (ISO/IEC 23008-2 fixes its samples): planes of codes, top row first, output index, and what went wrong. -/
structure DecodedPic where
  output : BitVec 64
  width : BitVec 16
  height : BitVec 16
  chroma : Fin 4
  depth : BitVec 8
  /-- chroma_sample_loc_type. -/
  loc : Fin 6
  luma : List (List (BitVec 16))
  cb : List (List (BitVec 16))
  cr : List (List (BitVec 16))
  /-- Coding tree unit size in luma samples, and the addresses that were not decoded. -/
  ctu : BitVec 8
  lost : List (BitVec 32)
  missingRef : Bool
  hashChecked : Bool
  hashBad : Bool
  /-- Every reference of the picture is clean, or it has none. -/
  refsClean : Bool
  faults : List (Fin 10)
  deriving DecidableEq, Repr

/-- A chunk of a clip as a playback feed reads it (R528): kind, stream, frame number, and payload as it stands on the volume. -/
structure FeedChunk where
  kind : BitVec 8
  stream : BitVec 32
  frame : BitVec 32
  payload : Bytes
  deriving DecidableEq, Repr

/-- Time sources (R199). -/
inductive TimeSource where
  | tref | trefPps | ptp | felley | garos
  deriving DecidableEq, Repr

/-- Reference faults (R207). -/
inductive RefFault where
  | stopped | glitch | rate | grandmaster
  deriving DecidableEq, Repr

/-- What an Announce message carries (IEEE 1588-2019). -/
structure PtpAnnounce where
  domain : BitVec 8
  priority1 : BitVec 8
  clockClass : BitVec 8
  accuracy : BitVec 8
  variance : BitVec 16
  priority2 : BitVec 8
  grandmaster : BitVec 64
  steps : BitVec 16
  sender : BitVec 64
  timeSource : BitVec 8
  deriving DecidableEq, Repr


/-- A frame on a wake port as the AON wake controller measures it (R658): low pulses and the high gaps between them, in ns. -/
structure WakeFrame where
  pulses : List Nat
  gaps : List Nat
  deriving DecidableEq, Repr


/-- Sixteen output pixels that another array member has developed: binding, first column, lanes written, packed pixels (R356, R686). -/
structure StoreGroup where
  binding : Fin 16
  line : BitVec 16
  col : BitVec 16
  lanes : BitVec 16
  px : List (BitVec 64)
  deriving DecidableEq, Repr

/-- A remote access through a window (R687). -/
inductive WindowAccess where
  | read (length : BitVec 16)
  | write (data : Bytes)
  deriving DecidableEq, Repr

/-- The commands: one constructor per row of the table of operations and events. The instructions of the colour engines stand first: instrOf builds
them from words. -/
inductive Instr where
  /-- FADD (R345): Lane-wise FP32 add. -/
  | fadd (e : Fin 384) (d a b : Fin 64) (pr : Fin 8) (pn : Bool)
  /-- FSUB (R345): Lane-wise FP32 subtract. -/
  | fsub (e : Fin 384) (d a b : Fin 64) (pr : Fin 8) (pn : Bool)
  /-- FMUL (R345): Lane-wise FP32 multiply. -/
  | fmul (e : Fin 384) (d a b : Fin 64) (pr : Fin 8) (pn : Bool)
  /-- FMIN (R348): Lane-wise FP32 minimum. -/
  | fmin (e : Fin 384) (d a b : Fin 64) (pr : Fin 8) (pn : Bool)
  /-- FMAX (R348): Lane-wise FP32 maximum. -/
  | fmax (e : Fin 384) (d a b : Fin 64) (pr : Fin 8) (pn : Bool)
  /-- FABS (R345): Clear the sign bit. -/
  | fabs (e : Fin 384) (d a : Fin 64) (pr : Fin 8) (pn : Bool)
  /-- FNEG (R345): Invert the sign bit. -/
  | fneg (e : Fin 384) (d a : Fin 64) (pr : Fin 8) (pn : Bool)
  /-- FSAT (R348): Clamp to +0 and 1.0. -/
  | fsat (e : Fin 384) (d a : Fin 64) (pr : Fin 8) (pn : Bool)
  /-- FFLOOR (R345): Largest integral value not above a. -/
  | ffloor (e : Fin 384) (d a : Fin 64) (pr : Fin 8) (pn : Bool)
  /-- FFRAC (R345): a minus floor(a). -/
  | ffrac (e : Fin 384) (d a : Fin 64) (pr : Fin 8) (pn : Bool)
  /-- FRND (R345): Round to integral, ties to even. -/
  | frnd (e : Fin 384) (d a : Fin 64) (pr : Fin 8) (pn : Bool)
  /-- FMA (R346): Fused a × b + d. -/
  | fma (e : Fin 384) (d a b : Fin 64) (pr : Fin 8) (pn : Bool)
  /-- FMS (R346): Fused a × b − d. -/
  | fms (e : Fin 384) (d a b : Fin 64) (pr : Fin 8) (pn : Bool)
  /-- FNMA (R346): Fused d − a × b. -/
  | fnma (e : Fin 384) (d a b : Fin 64) (pr : Fin 8) (pn : Bool)
  /-- FADD_S (R345): FADD with a scalar operand. -/
  | faddS (e : Fin 384) (d a : Fin 64) (b : Fin 16) (pr : Fin 8) (pn : Bool)
  /-- FSUB_S (R345): FSUB with a scalar operand. -/
  | fsubS (e : Fin 384) (d a : Fin 64) (b : Fin 16) (pr : Fin 8) (pn : Bool)
  /-- FMUL_S (R345): FMUL with a scalar operand. -/
  | fmulS (e : Fin 384) (d a : Fin 64) (b : Fin 16) (pr : Fin 8) (pn : Bool)
  /-- FMIN_S (R345): FMIN with a scalar operand. -/
  | fminS (e : Fin 384) (d a : Fin 64) (b : Fin 16) (pr : Fin 8) (pn : Bool)
  /-- FMAX_S (R345): FMAX with a scalar operand. -/
  | fmaxS (e : Fin 384) (d a : Fin 64) (b : Fin 16) (pr : Fin 8) (pn : Bool)
  /-- FMA_S (R345): FMA with a scalar operand. -/
  | fmaS (e : Fin 384) (d a : Fin 64) (b : Fin 16) (pr : Fin 8) (pn : Bool)
  /-- FMS_S (R345): FMS with a scalar operand. -/
  | fmsS (e : Fin 384) (d a : Fin 64) (b : Fin 16) (pr : Fin 8) (pn : Bool)
  /-- FNMA_S (R345): FNMA with a scalar operand. -/
  | fnmaS (e : Fin 384) (d a : Fin 64) (b : Fin 16) (pr : Fin 8) (pn : Bool)
  /-- RCP (R349): Reciprocal. -/
  | rcp (e : Fin 384) (d a : Fin 64) (pr : Fin 8) (pn : Bool)
  /-- RSQ (R349): Reciprocal square root. -/
  | rsq (e : Fin 384) (d a : Fin 64) (pr : Fin 8) (pn : Bool)
  /-- SQRT (R349): Square root. -/
  | sqrt (e : Fin 384) (d a : Fin 64) (pr : Fin 8) (pn : Bool)
  /-- LOG2 (R349): Base-2 logarithm. -/
  | log2 (e : Fin 384) (d a : Fin 64) (pr : Fin 8) (pn : Bool)
  /-- EXP2 (R349): Base-2 exponential. -/
  | exp2 (e : Fin 384) (d a : Fin 64) (pr : Fin 8) (pn : Bool)
  /-- IADD (R351): Integer add. -/
  | iadd (e : Fin 384) (d a b : Fin 64) (pr : Fin 8) (pn : Bool)
  /-- ISUB (R351): Integer subtract. -/
  | isub (e : Fin 384) (d a b : Fin 64) (pr : Fin 8) (pn : Bool)
  /-- IMUL (R351): Low 32 bits of the integer product. -/
  | imul (e : Fin 384) (d a b : Fin 64) (pr : Fin 8) (pn : Bool)
  /-- IMIN (R345): Signed minimum. -/
  | imin (e : Fin 384) (d a b : Fin 64) (pr : Fin 8) (pn : Bool)
  /-- IMAX (R345): Signed maximum. -/
  | imax (e : Fin 384) (d a b : Fin 64) (pr : Fin 8) (pn : Bool)
  /-- AND (R345): Bitwise AND. -/
  | and (e : Fin 384) (d a b : Fin 64) (pr : Fin 8) (pn : Bool)
  /-- OR (R345): Bitwise OR. -/
  | or (e : Fin 384) (d a b : Fin 64) (pr : Fin 8) (pn : Bool)
  /-- XOR (R345): Bitwise XOR. -/
  | xor (e : Fin 384) (d a b : Fin 64) (pr : Fin 8) (pn : Bool)
  /-- SHL (R351): Shift left. -/
  | shl (e : Fin 384) (d a b : Fin 64) (pr : Fin 8) (pn : Bool)
  /-- SHR (R351): Logical shift right. -/
  | shr (e : Fin 384) (d a b : Fin 64) (pr : Fin 8) (pn : Bool)
  /-- SAR (R351): Arithmetic shift right. -/
  | sar (e : Fin 384) (d a b : Fin 64) (pr : Fin 8) (pn : Bool)
  /-- SADD (R345): Scalar add. -/
  | sadd (e : Fin 384) (d a b : Fin 16)
  /-- SSUB (R345): Scalar subtract. -/
  | ssub (e : Fin 384) (d a b : Fin 16)
  /-- SMUL (R345): Scalar multiply. -/
  | smul (e : Fin 384) (d a b : Fin 16)
  /-- SMIN (R345): Scalar signed minimum. -/
  | smin (e : Fin 384) (d a b : Fin 16)
  /-- SMAX (R345): Scalar signed maximum. -/
  | smax (e : Fin 384) (d a b : Fin 16)
  /-- SAND (R345): Scalar AND. -/
  | sand (e : Fin 384) (d a b : Fin 16)
  /-- SOR (R345): Scalar OR. -/
  | sor (e : Fin 384) (d a b : Fin 16)
  /-- SXOR (R345): Scalar XOR. -/
  | sxor (e : Fin 384) (d a b : Fin 16)
  /-- SSHL (R345): Scalar shift left. -/
  | sshl (e : Fin 384) (d a b : Fin 16)
  /-- SSHR (R345): Scalar logical shift right. -/
  | sshr (e : Fin 384) (d a b : Fin 16)
  /-- SSAR (R345): Scalar arithmetic shift right. -/
  | ssar (e : Fin 384) (d a b : Fin 16)
  /-- MOVL (R345): Load an immediate into the low half. -/
  | movl (e : Fin 384) (d : Fin 64) (imm : BitVec 16)
  /-- MOVH (R345): Load an immediate into the high half. -/
  | movh (e : Fin 384) (d : Fin 64) (imm : BitVec 16)
  /-- MOVF (R345): Load an FP16 immediate as FP32. -/
  | movf (e : Fin 384) (d : Fin 64) (imm : BitVec 16)
  /-- SMOVL (R345): Scalar low-half immediate. -/
  | smovl (e : Fin 384) (d : Fin 16) (imm : BitVec 16)
  /-- SMOVH (R345): Scalar high-half immediate. -/
  | smovh (e : Fin 384) (d : Fin 16) (imm : BitVec 16)
  /-- SADDI (R345): Scalar add of a sign-extended immediate. -/
  | saddi (e : Fin 384) (d : Fin 16) (imm : BitVec 16)
  /-- MOV (R345): Vector move. -/
  | mov (e : Fin 384) (d a : Fin 64) (pr : Fin 8) (pn : Bool)
  /-- BCAST (R345): Broadcast a scalar to every lane. -/
  | bcast (e : Fin 384) (d : Fin 64) (a : Fin 16) (pr : Fin 8) (pn : Bool)
  /-- EXTR (R345): Extract one lane to a scalar. -/
  | extr (e : Fin 384) (d : Fin 16) (a : Fin 64) (b : Fin 16)
  /-- SEL (R345): Select per lane by predicate. -/
  | sel (e : Fin 384) (d a b : Fin 64) (pr : Fin 8) (pn : Bool)
  /-- LANEID (R345): Write each lane's index. -/
  | laneid (e : Fin 384) (d : Fin 64) (pr : Fin 8) (pn : Bool)
  /-- SMOV (R345): Scalar move. -/
  | smov (e : Fin 384) (d a : Fin 16)
  /-- FCMP_EQ (R348): FP compare equal into a predicate. -/
  | fcmpEq (e : Fin 384) (d : Fin 8) (a b : Fin 64) (pr : Fin 8) (pn : Bool)
  /-- FCMP_LT (R348): FP compare less-than. -/
  | fcmpLt (e : Fin 384) (d : Fin 8) (a b : Fin 64) (pr : Fin 8) (pn : Bool)
  /-- FCMP_LE (R348): FP compare less-or-equal. -/
  | fcmpLe (e : Fin 384) (d : Fin 8) (a b : Fin 64) (pr : Fin 8) (pn : Bool)
  /-- FCMP_NE (R348): FP compare not-equal. -/
  | fcmpNe (e : Fin 384) (d : Fin 8) (a b : Fin 64) (pr : Fin 8) (pn : Bool)
  /-- FCMP_UN (R348): FP compare unordered. -/
  | fcmpUn (e : Fin 384) (d : Fin 8) (a b : Fin 64) (pr : Fin 8) (pn : Bool)
  /-- ICMP_EQ (R345): Integer compare equal. -/
  | icmpEq (e : Fin 384) (d : Fin 8) (a b : Fin 64) (pr : Fin 8) (pn : Bool)
  /-- ICMP_LT (R345): Signed integer less-than. -/
  | icmpLt (e : Fin 384) (d : Fin 8) (a b : Fin 64) (pr : Fin 8) (pn : Bool)
  /-- ICMP_LTU (R345): Unsigned integer less-than. -/
  | icmpLtu (e : Fin 384) (d : Fin 8) (a b : Fin 64) (pr : Fin 8) (pn : Bool)
  /-- PAND (R345): Predicate AND. -/
  | pand (e : Fin 384) (d a b : Fin 8)
  /-- POR (R345): Predicate OR. -/
  | por (e : Fin 384) (d a b : Fin 8)
  /-- PXOR (R345): Predicate XOR. -/
  | pxor (e : Fin 384) (d a b : Fin 8)
  /-- PNOT (R345): Predicate NOT. -/
  | pnot (e : Fin 384) (d a : Fin 8)
  /-- PFROMS (R345): Predicate from a scalar. -/
  | pfroms (e : Fin 384) (d : Fin 8) (a : Fin 16)
  /-- PTOS (R345): Scalar from a predicate. -/
  | ptos (e : Fin 384) (d : Fin 16) (a : Fin 8)
  /-- CVT_F_I (R350): Signed integer to FP32. -/
  | cvtFI (e : Fin 384) (d a : Fin 64) (pr : Fin 8) (pn : Bool)
  /-- CVT_I_F (R350): FP32 to signed integer, saturating. -/
  | cvtIF (e : Fin 384) (d a : Fin 64) (pr : Fin 8) (pn : Bool)
  /-- CVT_F_U (R350): Unsigned integer to FP32. -/
  | cvtFU (e : Fin 384) (d a : Fin 64) (pr : Fin 8) (pn : Bool)
  /-- CVT_U_F (R350): FP32 to unsigned integer, saturating. -/
  | cvtUF (e : Fin 384) (d a : Fin 64) (pr : Fin 8) (pn : Bool)
  /-- CVT_H_F (R350): FP32 to FP16. -/
  | cvtHF (e : Fin 384) (d a : Fin 64) (pr : Fin 8) (pn : Bool)
  /-- CVT_F_H (R350): FP16 to FP32. -/
  | cvtFH (e : Fin 384) (d a : Fin 64) (pr : Fin 8) (pn : Bool)
  /-- LD_V (R340): Vector load of 16 words from local memory. -/
  | ldV (e : Fin 384) (d : Fin 64) (b : Fin 16) (off : BitVec 12) (pr : Fin 8) (pn : Bool)
  /-- ST_V (R340): Vector store to scratch. -/
  | stV (e : Fin 384) (d : Fin 64) (b : Fin 16) (off : BitVec 12) (pr : Fin 8) (pn : Bool)
  /-- LD_S (R340): Scalar load. -/
  | ldS (e : Fin 384) (d : Fin 16) (b : Fin 16) (off : BitVec 12)
  /-- ST_S (R340): Scalar store. -/
  | stS (e : Fin 384) (d : Fin 16) (b : Fin 16) (off : BitVec 12)
  /-- LD_B (R340): Broadcast load of one word. -/
  | ldB (e : Fin 384) (d : Fin 64) (b : Fin 16) (off : BitVec 12) (pr : Fin 8) (pn : Bool)
  /-- LD_G (R340): Gather load. -/
  | ldG (e : Fin 384) (d a : Fin 64) (b : Fin 16) (pr : Fin 8) (pn : Bool)
  /-- ST_G (R340): Scatter store. -/
  | stG (e : Fin 384) (d a : Fin 64) (b : Fin 16) (pr : Fin 8) (pn : Bool)
  /-- PIX_IN (R353): Read source pixels from stripe memory. -/
  | pixIn (e : Fin 384) (d : Fin 62) (dx dy : Fin 17) (pr : Fin 8) (pn : Bool)
  /-- PIX_FRAC (R354): Write the source-position fractions. -/
  | pixFrac (e : Fin 384) (d : Fin 63) (pr : Fin 8) (pn : Bool)
  /-- PIX_OUT (R355): Convert and queue output pixels for a binding. -/
  | pixOut (e : Fin 384) (a : Fin 62) (binding : Fin 16) (pr : Fin 8) (pn : Bool)
  /-- LUT1 (R357): One-dimensional table lookup. -/
  | lut1 (e : Fin 384) (d a : Fin 64) (table : Fin 8) (pr : Fin 8) (pn : Bool)
  /-- LUT3 (R357): Three-dimensional table lookup. -/
  | lut3 (e : Fin 384) (d a : Fin 62) (table : Fin 8) (pr : Fin 8) (pn : Bool)
  /-- LUT3_OUT (R357): Three-dimensional lookup delivered to a binding. -/
  | lut3Out (e : Fin 384) (binding : Fin 16) (a : Fin 62) (table : Fin 8) (pr : Fin 8) (pn : Bool)
  /-- BR (R360): Unconditional relative branch. -/
  | br (e : Fin 384) (off : BitVec 21)
  /-- BRP (R360): Predicated branch by ANY, ALL or NONE. -/
  | brp (e : Fin 384) (pr : Fin 8) (mode : BranchMode) (off : BitVec 21)
  /-- LOOP (R361): Hardware loop over a body. -/
  | loop (e : Fin 384) (c : Fin 16) (len : BitVec 12)
  /-- CALL (R362): Push the return address and branch. -/
  | call (e : Fin 384) (off : BitVec 21)
  /-- RET (R362): Pop the return address and return. -/
  | ret (e : Fin 384)
  /-- SYNC (R363): Wait for every pending result class. -/
  | sync (e : Fin 384)
  /-- WAIT (R363): Wait for the masked result classes. -/
  | wait (e : Fin 384) (mask : BitVec 4)
  /-- HALT (R364): End the group. -/
  | halt (e : Fin 384)
  /-- NOP (R345): No operation. -/
  | nop (e : Fin 384)
  /-- VIN_VALID (R99): VIN has been at or above 9.0 V for 5 ms, so power-up begins. -/
  | vinValid (vin : BitVec 16) (boot : BootInputs)
  /-- HOST_FIRMWARE_IMAGE (R110): With BOOT_SRC = 1, a firmware image written by the host through the endpoint is verified and boot continues. -/
  | hostFirmwareImage (image : Firmware) (fails : List (BitVec 3 × BitVec 16))
  /-- HOST_FIRMWARE_TIMEOUT (R110): No verified host image has arrived 30 s after strap sampling, so event 0x010C is raised and the module keeps waiting. -/
  | hostFirmwareTimeout
  /-- DRAM_TRAINING_COMPLETE (R588): Cached or full DRAM training ends, and boot goes on. -/
  | dramTrainingComplete (identities : Bytes) (firmware : BitVec 32) (band : Fin 4) (verifyOk : Bool) (failed : BitVec 36) (ms : BitVec 32)
  /-- LOW_INPUT_ENTER (R99): VIN has been below 9.0 V for the 50 µs filter, so low-input operation starts. -/
  | lowInputEnter (vin : BitVec 16)
  /-- LOW_INPUT_LEAVE (R99): A sample at or above 9.0 V ends low-input operation and clears k_cap. -/
  | lowInputLeave (vin : BitVec 16)
  /-- SUPPLY_CAP_TICK (R102): Every 1 ms in low-input operation, the skip request k_cap is adjusted from the mean input current. -/
  | supplyCapTick (vin current : BitVec 16)
  /-- SUPPLY_WARNING (R104): VIN has passed below the warning level through the filter; WARNING is set, the journal is committed and the listed loads are shed. -/
  | supplyWarning (vin : BitVec 16)
  /-- SUPPLY_WARNING_CLEAR (R105): VIN has stayed above warning + 0.3 V for 10 ms; the warning clears and the shed loads resume. -/
  | supplyWarningClear (vin minVin : BitVec 16)
  /-- CURRENT_LIMIT_ENGAGE (R97): Input current reaches 32 A, and the power stage lowers both governed rails. -/
  | currentLimitEngage (vin : BitVec 16)
  /-- CURRENT_LIMIT_RELEASE (R97): The current limit releases, the rails return to the governor, and event 0x0104 is raised. -/
  | currentLimitRelease (vin coreT coreS : BitVec 16)
  /-- OVERVOLTAGE_EPISODE_END (R98): VIN has stayed at or below 60 V for 10 s, so the overvoltage episode ends with event 0x0105. -/
  | overvoltageEpisodeEnd (highest : BitVec 16) (above : BitVec 16)
  /-- INPUT_SWITCH_OPEN (R98): The overvoltage time budget is exceeded, or the 82 V comparator fires; the input switch opens and a supply reset follows. -/
  | inputSwitchOpen (vin highest above : BitVec 16)
  /-- INPUT_SWITCH_CLOSE (R98): VIN has been at or below 60 V for 1 s, so the input switch closes again. -/
  | inputSwitchClose
  /-- SUPPLY_RESET (R111): VIN falls below 7.0 V; reset is asserted, every domain but AON goes off, and CC15 logs the shutdown. -/
  | supplyReset (vin : BitVec 16)
  /-- HOLD_UP_END (R111): The hold-up time ends while VIN is still low, so AON goes off and every output is high-impedance. -/
  | holdUpEnd
  /-- RESET_N_FALL (R112): A low on RESET_N of at least 1 µs starts a warm reset. -/
  | resetNFall
  /-- RESET_N_HELD (R112): RESET_N is still low 100 ms after its fall, so the reset becomes a cold reset. -/
  | resetNHeld
  /-- RESET_COMMAND_WARM (R113): WARM is written to 0x2003:01; a warm reset runs and keeps DRAM in self-refresh. -/
  | resetCommandWarm
  /-- RESET_COMMAND_COLD (R113): COLD is written to 0x2003:01; a cold reset cycles every rail except AON. -/
  | resetCommandCold (boot : BootInputs)
  /-- RESET_COMMAND_DOMAIN (R115): DOMAIN is written to 0x2003:01, and the named domain is reset within 20 ms. -/
  | resetCommandDomain
  /-- CORE_CHECK_TICK (R116): Every 1 ms, CC15 checks every other control core. -/
  | coreCheckTick (responded : BitVec 15)
  /-- WATCHDOG_TIMEOUT (R116): A core has not responded for 10 ms, so event 0x010A is raised and a warm reset follows. -/
  | watchdogTimeout (core : Fin 16)
  /-- GOVERNOR_WINDOW (R53): Every 50 µs, each AUTO rail is raised, held or lowered from the minimum slack of the window. -/
  | governorWindow
  /-- RAIL_CEILING_WRITE (R68): A ceiling write takes effect at its commit; the rail is lowered to it, or AT_CEILING is cleared. -/
  | railCeilingWrite (by_ : Writer) (system : Bool) (value : BitVec 16)
  /-- POWER_MANAGER_TICK (R760): Every 1 ms, k_pwr is adjusted against the power limit. -/
  | powerManagerTick (power : BitVec 16)
  /-- IDLE_TOKEN_END (R57): An idle token's duration expires, and its Troupe becomes free. -/
  | idleTokenEnd (troupe : Fin 24)
  /-- FRAME_DEADLINE (R64): A frame deadline passes with stripes unfinished, so the frame is abandoned and its remaining stripes run statistics-only. -/
  | frameDeadline (ctx : Fin 16)
  /-- DENVAL_READ (R126): A REQUEST READ returns the live value within 100 µs. -/
  | denvalRead (frame : DenvalFrame)
  /-- DENVAL_READ_SHADOW (R126): A REQUEST READ_SHADOW returns the value that will become live next. -/
  | denvalReadShadow (frame : DenvalFrame)
  /-- DENVAL_WRITE (R132): A REQUEST WRITE passes the arrival checks and enters the commit slot of its stamp. -/
  | denvalWrite (frame : DenvalFrame)
  /-- GROUP_BEGIN (R134): A write group opens with a scope and an optional target frame. -/
  | groupBegin (frame : DenvalFrame)
  /-- GROUP_MEMBER (R136): A group member is checked on arrival and held, or marks the group failed. -/
  | groupMember (frame : DenvalFrame)
  /-- GROUP_COMMIT (R136): The group enters the commit point as one unit, or is refused when a member failed. -/
  | groupCommit (frame : DenvalFrame)
  /-- GROUP_TIMEOUT (R134): A group still open 1 s after GROUP_BEGIN is discarded with TIMEOUT. -/
  | groupTimeout (session : BitVec 16)
  /-- SEG_READ_INIT (R144): A segmented read captures the value whole and starts sending SEG_UP frames. -/
  | segReadInit (frame : DenvalFrame)
  /-- SEG_WRITE_INIT (R144): A segmented write is opened with its total length. -/
  | segWriteInit (frame : DenvalFrame)
  /-- SEG_DOWN (R144): A segment of a segmented write arrives and is acknowledged, discarded or completed. -/
  | segDown (frame : DenvalFrame)
  /-- SEG_ACK (R144): The requester's acknowledgement of a segmented read releases further SEG_UP segments. -/
  | segAck (frame : DenvalFrame)
  /-- DENVAL_ABORT (R145): ABORT ends a transfer or an open group with ABORTED. -/
  | denvalAbort (frame : DenvalFrame)
  /-- TRANSFER_TIMEOUT (R145): More than 100 ms pass between frames of a transfer, so it is discarded with TIMEOUT. -/
  | transferTimeout (path : DenvalPath) (source : BitVec 48) (session : BitVec 16) (tag : BitVec 10)
  /-- COMMIT_INSTANT (R128): At the end of slot n + 1, the units of slot n are ordered, re-checked and applied together. -/
  | commitInstant
  /-- ENTRY_WRITE (R132): A write to an entry that has no row of its own is applied at its commit instant. -/
  | entryWrite (by_ : Writer) (entry : BitVec 24) (value : Bytes)
  /-- SESSION_HELLO (R153): SESSION_REQ HELLO is checked, and HELLO_REPLY and the device signature are returned. -/
  | sessionHello (frame : DenvalFrame)
  /-- LOCKOUT_END (R156): The 10 s lockout of a source expires. -/
  | lockoutEnd (path : DenvalPath) (source : BitVec 48)
  /-- SESSION_PROOF_A (R153): The first half of the credential proof is received. -/
  | sessionProofA (frame : DenvalFrame)
  /-- SESSION_PROOF_B (R153): The second half of the proof completes verification, derives the keys and sends ESTABLISHED. -/
  | sessionProofB (frame : DenvalFrame)
  /-- SESSION_SETUP_TIMEOUT (R153): The proof has not arrived 1 s after HELLO, so the set-up fails. -/
  | sessionSetupTimeout (session : BitVec 16)
  /-- SESSION_CLOSE (R156): SESSION_REQ CLOSE closes the session. -/
  | sessionClose (frame : DenvalFrame)
  /-- SESSION_IDLE_TIMEOUT (R156): A session with no valid frame for its idle timeout closes. -/
  | sessionIdleTimeout (session : BitVec 16)
  /-- HEARTBEAT_SEND (R157): A Denval HEARTBEAT frame is sent every heartbeat period. -/
  | heartbeatSend
  /-- TIME_SYNC_SEND (R159): A SYNC time frame is sent on each enabled CAN port at the time message period. -/
  | timeSyncSend
  /-- TIME_FOLLOW_SEND (R159): At the SYNC transmit-complete interrupt, a FOLLOW frame carrying its T96 is sent. -/
  | timeFollowSend (port : Fin 4)
  /-- CAN_BUS_OFF (R147): A CAN port reaches bus-off and raises event 0x0407. -/
  | canBusOff (port : Fin 4)
  /-- CAN_BUS_RECOVERED (R147): After 128 × 11 recessive bits, the port recovers and raises event 0x0408. -/
  | canBusRecovered (port : Fin 4)
  /-- CONSOLE_IDENTIFY (R150): The console command I returns the die ID, life-cycle state and straps. -/
  | consoleIdentify (line : Bytes)
  /-- CONSOLE_READ (R150): The console command R returns up to 256 bytes of an entry's value. -/
  | consoleRead (line : Bytes)
  /-- CONSOLE_WRITE (R150): The console command W enters a session-0 write at path rank 8. -/
  | consoleWrite (line : Bytes)
  /-- PARAMETER_STORE_SAVE (R124): STORE saves every storable live value to the alternate MRAM copy. -/
  | parameterStoreSave (by_ : Writer)
  /-- PARAMETER_STORE_CLEAR (R124): CLEAR empties the parameter store. -/
  | parameterStoreClear (by_ : Writer)
  /-- PARAMETER_STORE_DONE (R124): A save completes and switches copies by one MRAM write. -/
  | parameterStoreDone
  /-- LIFE_CYCLE_TRANSITION (R168): A transition written to 0x1001:02 erases keys where required, fuses the state and warm-resets the module. -/
  | lifeCycleTransition (by_ : Writer) (target : BitVec 16)
  /-- REKEY (R171): REKEY generates a pending device key, fuses a change and posts the certificate request. -/
  | rekey (by_ : Writer)
  /-- CERTIFICATE_INSTALL (R171): A customer certificate is verified, the pending key is activated and every manifest chain restarts. -/
  | certificateInstall (by_ : Writer) (certificate : Bytes)
  /-- CUSTOMER_ROOT_WRITE (R175): The customer root is fused and the module moves to PROVISIONED. -/
  | customerRootWrite (by_ : Writer) (root : Bytes)
  /-- CREDENTIAL_INSTALL (R176): A credential accepted under R173 is written into a slot. -/
  | credentialInstall (by_ : Writer) (slot : Fin 64) (credential : Bytes)
  /-- CREDENTIAL_REMOVE (R176): A zero-length write removes a credential and closes its sessions. -/
  | credentialRemove (by_ : Writer) (slot : Fin 64)
  /-- CREDENTIAL_REVOKE (R176): A credential ID is revoked and the sessions bound to it are closed. -/
  | credentialRevoke (by_ : Writer) (id : BitVec 32)
  /-- EPOCH_RAISE (R177): A new anti-rollback epoch is fused. -/
  | epochRaise (by_ : Writer) (epoch : BitVec 8)
  /-- LOOK_IMAGE_WRITE (R371): A look-program image is checked, verified and placed in a slot, or refused with event 0x0502. -/
  | lookImageWrite (by_ : Writer) (slot : Fin 16) (image : Bytes)
  /-- MANIFEST_ISSUE (R187): A signed manifest is issued for a frame within 2 ms of its end, in frame order. -/
  | manifestIssue (ctx : Fin 16) (delay : BitVec 16)
  /-- RECIPIENT_KEY_WRITE (R191): A recipient key is set, for clips that open afterwards. -/
  | recipientKeyWrite (by_ : Writer) (recipient : Fin 4) (key : Bytes)
  /-- ENCRYPTION_ENABLE (R191): Recording encryption is turned on or off, for clips that open afterwards. -/
  | encryptionEnable (by_ : Writer) (on : Bool)
  /-- ATTESTATION_NONCE (R192): A nonce write starts the building of a signed attestation report. -/
  | attestationNonce (by_ : Writer) (nonce : Bytes)
  /-- ATTESTATION_REPORT_READY (R192): The attestation report is placed in 0x1406:02. -/
  | attestationReportReady
  /-- TIME_BASE_SAVE (R198): T96 is saved to MRAM every 60 s. -/
  | timeBaseSave (temp : BitVec 32)
  /-- SOURCE_QUALIFIED (R202): A source has been fault-free for the qualification time, and acquisition starts. -/
  | sourceQualified (source : TimeSource) (offset : Int) (traceable : Bool) (timeSource : BitVec 8)
  /-- FREQUENCY_ACQUIRED (R203): The increment is within 0.01 ppm of the source, and the offset is stepped or slewed. -/
  | frequencyAcquired (incr : BitVec 40) (offset : Int)
  /-- TIME_LOCKED (R203): The offset has stayed within the lock threshold for 10 s, so STATE becomes LOCKED. -/
  | timeLocked (offset : Int)
  /-- LOCK_LOST (R203): The offset has been above the lock threshold for 1 s, so STATE returns to ACQUIRING. -/
  | lockLost (offset : Int)
  /-- REFERENCE_FAULT (R207): A reference fault disqualifies its source. -/
  | referenceFault (source : TimeSource) (fault : RefFault) (temp : BitVec 32)
  /-- HOLDOVER_LIMIT_EXCEEDED (R209): The estimated error passes the holdover limit, so STATE becomes HOLDOVER_EXCEEDED. -/
  | holdoverLimitExceeded (temp : BitVec 32)
  /-- TIME_SET (R201): A write of a time of day to 0x2300:0C is applied as a measured offset. -/
  | timeSet (value : BitVec 96)
  /-- PPS_IN_EDGE (R201): A PPS edge on the TIO input gives a phase measurement. -/
  | ppsInEdge (time : BitVec 96) (width : BitVec 32)
  /-- PTP_ANNOUNCE_RECEIVE (R211): An Announce message is received and fed to the BMCA. -/
  | ptpAnnounceReceive (port : Fin 9) (announce : PtpAnnounce)
  /-- PTP_SYNC_RECEIVE (R211): A Sync message is received and timestamped. -/
  | ptpSyncReceive (port : Fin 9) (domain : BitVec 8) (seq : BitVec 16) (received : BitVec 96) (origin : Option (BitVec 96))
  /-- PTP_FOLLOW_UP_RECEIVE (R211): A Follow_Up completes an offset sample. -/
  | ptpFollowUpReceive (port : Fin 9) (domain : BitVec 8) (seq : BitVec 16) (origin : BitVec 96)
  /-- PTP_DELAY_REQ_RECEIVE (R211): A Delay_Req is received on a MASTER port and answered with Delay_Resp. -/
  | ptpDelayReqReceive (port : Fin 9) (domain : BitVec 8) (seq : BitVec 16) (requester : BitVec 64) (received : BitVec 96)
  /-- PTP_DELAY_RESP_RECEIVE (R211): A Delay_Resp completes a path-delay measurement. -/
  | ptpDelayRespReceive (port : Fin 9) (domain : BitVec 8) (seq : BitVec 16) (received : BitVec 96)
  /-- PTP_ANNOUNCE_SEND (R211): An Announce is sent on a MASTER port at logAnnounceInterval. -/
  | ptpAnnounceSend (port : Fin 9)
  /-- PTP_SYNC_SEND (R211): A two-step Sync and its Follow_Up are sent on a MASTER port. -/
  | ptpSyncSend (port : Fin 9)
  /-- PTP_DELAY_REQ_SEND (R211): A Delay_Req is sent on a SLAVE port. -/
  | ptpDelayReqSend (port : Fin 9)
  /-- PTP_METADATA_SEND (R211): The ST 2059-2 metadata TLV is sent each second while a port is MASTER. -/
  | ptpMetadataSend (port : Fin 9)
  /-- PTP_ANNOUNCE_TIMEOUT (R207): announceReceiptTimeout expires on the slave port. -/
  | ptpAnnounceTimeout (port : Fin 9)
  /-- TIO_EDGE_OUT (R218): A rate-based TIO output places its next aligned edge. -/
  | tioEdgeOut (ball : Fin 32)
  /-- TIO_CAPTURE (R219): A CAPTURE_IN edge is stamped into its FIFO, or dropped when the FIFO is full. -/
  | tioCapture (ball : Fin 32) (time : BitVec 96) (falling : Bool) (width : BitVec 32)
  /-- CAPTURE_FIFO_READ (R224): A READ of 0x2320:08 returns the oldest capture and removes it. -/
  | captureFifoRead (ball : Fin 32)
  /-- LAUNCH_SUBMIT (R220): A launch-queue entry joins the queue at its commit instant. -/
  | launchSubmit (entry : Bytes) (session : BitVec 16) (rank : Fin 9)
  /-- LAUNCH_CANCEL (R223): The session's pending entries with the given ID are cancelled. -/
  | launchCancel (id : BitVec 16) (session : BitVec 16)
  /-- LAUNCH_CANCEL_ANY (R223): Every pending host entry with the given ID is cancelled, whatever its submitter. -/
  | launchCancelAny (id : BitVec 16)
  /-- LAUNCH_CANCEL_ALL (R223): Every pending host entry is cancelled. -/
  | launchCancelAll
  /-- LAUNCH_DUE (R222): A launch-queue entry reaches its launch time and launches. -/
  | launchDue
  /-- LANE_REQUESTED_STATE (R244): A lane's requested state is committed and applied under the coincidence rules. -/
  | laneRequestedState (by_ : Writer) (lane : Fin 80) (state : Fin 4)
  /-- LANE_PLL_LOCKED (R240): The lane PLL locks during bring-up. -/
  | lanePllLocked (lane : Fin 80)
  /-- LOS_ASSERT (R233): The amplitude has been below the threshold for 1 µs, so LOS is set. -/
  | losAssert (lane : Fin 80)
  /-- LOS_CLEAR (R233): The amplitude has been above threshold + 20 mV for 10 µs, so LOS clears. -/
  | losClear (lane : Fin 80)
  /-- CDR_LOCK (R234): The CDR locks within ±300 ppm. -/
  | cdrLock (lane : Fin 80) (offset : BitVec 32)
  /-- CDR_LOCK_LOST (R234): The CDR offset has exceeded ±400 ppm for 1 µs, or the data is lost. -/
  | cdrLockLost (lane : Fin 80) (invalid : BitVec 32)
  /-- ADAPTATION_DONE (R240): The initial CTLE and DFE adaptation completes. -/
  | adaptationDone (lane : Fin 80) (peaking : BitVec 8) (taps : BitVec 64)
  /-- BLOCK_LOCK (R230): 64 consecutive valid headers give block lock. -/
  | blockLock (lane : Fin 80) (headers : List (BitVec 2))
  /-- BLOCK_LOCK_LOST (R230): 16 invalid headers in 64 lose block lock. -/
  | blockLockLost (lane : Fin 80) (invalid : BitVec 32) (headers : List (BitVec 2))
  /-- HI_BER_SET (R231): More than 97 invalid headers in 125 µs set HI_BER. -/
  | hiBerSet (lane : Fin 80) (report : LaneReport)
  /-- HI_BER_CLEAR (R231): A clean 125 µs window clears HI_BER. -/
  | hiBerClear (lane : Fin 80) (report : LaneReport)
  /-- TRAINING_BLOCK_RECEIVE (R239): After 16 consistent training blocks, the lane sets its polarity and logical index. -/
  | trainingBlockReceive (lane : Fin 80) (heard : TrainingInput)
  /-- TRAINING_TIMEOUT (R239): No valid training has arrived within the timeout, so training fails. -/
  | trainingTimeout (lane : Fin 80)
  /-- LANE_BRINGUP_RETRY (R240): 10 ms after a failure at step 4 or 6, the lane restarts from step 2. -/
  | laneBringupRetry (lane : Fin 80)
  /-- REFERENCE_MISSING (R228): A reference shows no edge for 1 µs, so its lanes go down. -/
  | referenceMissing (reference : Fin 16) (invalid : List (BitVec 32))
  /-- EYE_SCAN_REQUEST (R246): A margining scan starts at the requested offsets. -/
  | eyeScanRequest (by_ : Writer) (lane : Fin 80) (request : Bytes)
  /-- EYE_SCAN_DONE (R246): The scan dwell ends and the result is posted. -/
  | eyeScanDone (lane : Fin 80) (compared mismatches : BitVec 64)
  /-- RETRAIN (R241): Retrain clears the stored lane maps of a group or a quad. -/
  | retrain (by_ : Writer) (target : Fin 16)
  /-- QUAD_FUNCTION_WRITE (R248): A quad's function changes, its lanes drop and come up under the new function. -/
  | quadFunctionWrite (by_ : Writer) (quad : Fin 8) (function : BitVec 16)
  /-- INGEST_LANE_RATE_WRITE (R249): A group lane rate change restarts the lanes from step 2. -/
  | ingestLaneRateWrite (by_ : Writer) (group : Fin 8) (rate : BitVec 32)
  /-- ALIGNMENT_MARKER (R254): An alignment marker aligns the lanes of a group. -/
  | alignmentMarker (group : Fin 8) (lane : Fin 6) (count : BitVec 32) (skew : Nat)
  /-- MALFORMED_BLOCK (R252): A control block with a bad type or check is discarded and its packet is lost. -/
  | malformedBlock (group : Fin 8)
  /-- FRAME_START_ACCEPT (R261): The lead group accepts a Frame Start; this is the context's latch point. -/
  | frameStartAccept (group : Fin 8) (start : FrameStart)
  /-- NON_LEAD_FRAME_START (R262): A non-lead group accepts its matching Frame Start. -/
  | nonLeadFrameStart (group : Fin 8) (start : FrameStart)
  /-- GROUP_SKEW (R262): A group's Frame Start is not within the skew limit, so its lines are lost and the frame is marked GROUP_SKEW. -/
  | groupSkew (group : Fin 8)
  /-- LINE_PACKET (R257): A line packet is accepted into the group's ingest buffer. -/
  | linePacket (group : Fin 8) (header : PacketHeader) (payload : Bytes) (trailers : List (BitVec 32))
  /-- EMBEDDED_LINE (R276): An embedded line is stored beside the frame and exposed in 0x3008:06. -/
  | embeddedLine (group : Fin 8) (header : PacketHeader) (payload : Bytes) (trailers : List (BitVec 32))
  /-- FRAME_END_ACCEPT (R263): A group accepts its Frame End; missing lines of its share are lost. -/
  | frameEndAccept (group : Fin 8) (header : PacketHeader) (lines : BitVec 16)
  /-- FRAME_TIMEOUT (R263): The frame timeout passes; outstanding lines are lost and the frame is marked LATE. -/
  | frameTimeout (ctx : Fin 16)
  /-- INGEST_LOCK_LOSS (R274): LANE_DOWN reaches a group mid-frame; the frame is marked LOCK and substituted or cut. -/
  | ingestLockLoss (group : Fin 8)
  /-- QUIET_BLOCK (R275): Quiet on all lanes after Frame End puts the group's lanes in QUIET. -/
  | quietBlock (group : Fin 8)
  /-- BLANKING_WAKE (R275): At the wake lead before the next frame, the lanes return to ACTIVE. -/
  | blankingWake (ctx : Fin 8)
  /-- CONTEXT_MODE_WRITE (R268): A context Mode commit enters DISABLED, STARTUP or TEST. -/
  | contextModeWrite (by_ : Writer) (ctx : Fin 8) (mode : CtxMode)
  /-- EXPOSURE_LIST_START (R279): At the send offset, the frame's sensor write list starts on its port. -/
  | exposureListStart (port : Fin 8)
  /-- EXPOSURE_LIST_DONE (R280): The sensor write list finishes sending. -/
  | exposureListDone (port : Fin 8)
  /-- EXPOSURE_LIST_OVERRUN (R280): The send guard passes with the list unfinished, so EXPOSURE_LATE is set. -/
  | exposureListOverrun (port : Fin 8) (overrunUs : BitVec 32)
  /-- SENSOR_WRITE_ERROR (R281): An I²C NACK or stretch timeout ends a write; the list continues. -/
  | sensorWriteError (port : Fin 8) (timeout : Bool) (reg : BitVec 16)
  /-- SENSOR_TRANSACTION (R283): A host transaction is queued on a sensor control port. -/
  | sensorTransaction (port : Fin 8) (request : Bytes)
  /-- SENSOR_TRANSACTION_DONE (R283): The host transaction completes and its result is posted. -/
  | sensorTransactionDone (port : Fin 8) (status : Fin 3) (data : Bytes)
  /-- STRIPE_OPEN (R409): A ready stripe is given a token, a Troupe and a raw front end. -/
  | stripeOpen
  /-- RFE_SEGMENT_WRITTEN (R312): A raw front end writes one column segment of a stripe into a segment buffer. -/
  | rfeSegmentWritten (rfe : Fin 8) (waitUs : BitVec 32)
  /-- RFE_PASS_COMPLETE (R419): A stripe's raw front-end pass finishes and reports its slack. -/
  | rfePassComplete (rfe : Fin 8)
  /-- STATISTICS_RECORD_ISSUE (R325): A frame's statistics record is issued to its slot with STATS_READY. -/
  | statisticsRecordIssue (ctx : Fin 16) (delay : BitVec 16)
  /-- STATS_RECORD_MERGE (R326): The array head issues a merged statistics record. -/
  | statsRecordMerge (ctx : Fin 16) (members : List (Bytes × List Nat)) (delay : BitVec 16)
  /-- RFE_PARITY_ERROR (R314): A parity error fences a raw front end and reissues the stripe. -/
  | rfeParityError (rfe : Fin 8) (cache : Bool)
  /-- RFE_RETEST_DONE (R314): The raw front-end retest ends, and the unit returns or stays fenced. -/
  | rfeRetestDone (rfe : Fin 8) (passed : Bool)
  /-- STATS_ONLY_STRIPE (R425): A stripe of an abandoned or shut-out frame runs through a raw front end without a Troupe. -/
  | statsOnlyStripe
  /-- STRIPE_COMPLETE (R419): A stripe's last segment buffer is freed; its Troupe slack is reported. -/
  | stripeComplete (troupe : Fin 24)
  /-- ARRAY_HALO_RECEIVE (R427): Band-edge raw lines or halo rows arrive from a neighbour over Garos. -/
  | arrayHaloReceive (ctx : Fin 8) (frame : BitVec 32) (neighbour : Fin 4) (part : HaloPart) (delayUs : BitVec 16)
  /-- ARRAY_LOOK_DECISION (R428): A member's seam or abandon decision is applied to the same frame. -/
  | arrayLookDecision (ctx : Fin 16) (frame : BitVec 32) (origin : Fin 4) (abandon : Bool)
  /-- ENGINE_GROUP_DISPATCH (R335): A free engine takes a group and runs the entry of its binding. -/
  | engineGroupDispatch (e : Fin 384)
  /-- LUT_REQUEST_ACCEPT (R358): The LUT unit accepts a waiting request in rotating order. -/
  | lutRequestAccept (troupe : Fin 24)
  /-- LUT_RESULT (R358): A LUT request delivers its result 20 slots after acceptance. -/
  | lutResult (e : Fin 384)
  /-- ENGINE_GROUP_TIMEOUT (R364): A group has not halted after 65,536 slots and faults with TIMEOUT. -/
  | engineGroupTimeout (e : Fin 384)
  /-- ENGINE_PARITY_ERROR (R369): An engine parity error fences the engine and reruns the group elsewhere. -/
  | engineParityError (e : Fin 384) (cause : EngineFault)
  /-- ENGINE_RETEST_DONE (R369): The engine retest ends, and the engine returns or stays fenced. -/
  | engineRetestDone (e : Fin 384) (passed : Bool)
  /-- TROUPE_PARITY_ERROR (R370): A Troupe parity error fences the Troupe and abandons its stripe's frame. -/
  | troupeParityError (troupe : Fin 24) (cause : TroupeFault)
  /-- TROUPE_RETEST_DONE (R370): The Troupe retest and table reload end, and the Troupe returns or stays FAILED. -/
  | troupeRetestDone (troupe : Fin 24) (passed : Bool)
  /-- IMAGE_LOAD_DONE (R374): A newly resident image finishes loading into every engine. -/
  | imageLoadDone (slot : Fin 16)
  /-- TABLE_LOAD_DONE (R359): A table finishes loading into the Troupe table pages. -/
  | tableLoadDone (entry : Fin 64)
  /-- KEEP_RESIDENT_WRITE (R372): Keep resident places and loads the image, or releases it. -/
  | keepResidentWrite (by_ : Writer) (slot : Fin 16) (value : BitVec 8)
  /-- LOOK_SLOT_SELECT (R373): A context's look slot selection is checked and staged. -/
  | lookSlotSelect (by_ : Writer) (ctx : Fin 16) (slot : BitVec 8)
  /-- CALIBRATION_COMMIT (R381): The staged calibration set is fused and becomes live at the next latch point. -/
  | calibrationCommit (by_ : Writer) (slot : Fin 8)
  /-- REVERT_STAGING (R383): The committed calibration set is copied into staging. -/
  | revertStaging (by_ : Writer) (slot : Fin 8) (value : BitVec 8)
  /-- TABLE_HEADER_WRITE (R388): A library entry header is written; its data is cleared and it enters LOADING. -/
  | tableHeaderWrite (by_ : Writer) (entry : Fin 64) (header : Bytes)
  /-- TABLE_DATA_WRITE (R388): Table data is written at a byte offset. -/
  | tableDataWrite (by_ : Writer) (entry : Fin 64) (value : Bytes)
  /-- TABLE_SEAL (R388): The entry is sealed READY with its table hash. -/
  | tableSeal (by_ : Writer) (entry : Fin 64) (value : BitVec 8)
  /-- TABLE_GENERATE (R392): The module builds a standard one-dimensional table itself. -/
  | tableGenerate (by_ : Writer) (entry : Fin 64) (value : Bytes)
  /-- COLOUR_RECORD_ISSUE (R402): A signed colour record is issued when the colour state changes or a chain starts. -/
  | colourRecordIssue (ctx : Fin 16)
  /-- OUTPUT_ORIGIN (R440): Output frame k of a channel begins at its origin. -/
  | outputOrigin (channel : Fin 24) (index : BitVec 64)
  /-- LINE_FETCH (R442): A line is fetched into the channel's FIFO at or after its fetch instant. -/
  | lineFetch (channel : Fin 24)
  /-- LINE_COMMIT_INSTANT (R443): A line's commit instant arrives, and it is checked for presence in the FIFO. -/
  | lineCommitInstant (channel : Fin 24) (line : BitVec 16)
  /-- OUTPUT_FRAME_BOUNDARY (R440): The start of blanking applies the channel's RWC entries and resumes shed outputs. -/
  | outputFrameBoundary (channel : Fin 24)
  /-- LOCK_GROUP_SIGNAL (R447): A lock-group switch decision arrives from another member. -/
  | lockGroupSignal (group : Fin 8) (position : Fin 4) (line : BitVec 16) (reason : Fin 4)
  /-- TWIN_SIGNATURE (R451): The twin's output signature is compared, and a mismatch is counted. -/
  | twinSignature (channel : Fin 24) (index : BitVec 64) (frame : BitVec 32) (signature : BitVec 32)
  /-- SDI_INPUT_FRAME (R454): An SDI input frame is written to its store with a T96 stamp. -/
  | sdiInputFrame (input : Fin 4) (stamp : BitVec 96) (rows : List (List (BitVec 48))) (crcLines : BitVec 16) (timeCode : BitVec 32)
  /-- SDI_INPUT_STATE (R454): An SDI input changes state, with event 0x0C07. -/
  | sdiInputState (input : Fin 4) (state : Fin 4) (format : Fin 15)
  /-- SDI_INPUT_HOLD_END (R454): The hold time ends and the channel shows black. -/
  | sdiInputHoldEnd (input : Fin 4)
  /-- EDP_ENABLE (R456): An eDP port enable starts the power-up sequence. -/
  | edpEnable (port : Fin 2)
  /-- EDP_DISABLE (R456): An eDP port disable runs the off sequence. -/
  | edpDisable (port : Fin 2)
  /-- EDP_HPD_HIGH (R456): HPD rises during power-up, so the DPCD is read and training begins. -/
  | edpHpdHigh (port : Fin 2) (psr fast : Bool)
  /-- EDP_HPD_TIMEOUT (R456): HPD has not risen within T3, so the port is FAILED. -/
  | edpHpdTimeout (port : Fin 2)
  /-- EDP_TRAINING_DONE (R456): Link training completes, or fails after three attempts. -/
  | edpTrainingDone (port : Fin 2) (passed : Bool)
  /-- EDP_HPD_IRQ (R455): An HPD IRQ pulse makes the port check its link status and retrain if needed. -/
  | edpHpdIrq (port : Fin 2) (lockLost : Bool)
  /-- EDP_UNPLUG (R455): HPD has been low for over 2 ms, so the port powers down. -/
  | edpUnplug (port : Fin 2)
  /-- ST2110_PACKET_SEND (R458): A video stream packet leaves at its scheduled time. -/
  | st2110PacketSend (stream : Fin 8) (packet : BitVec 32) (late : Bool)
  /-- ST2110_ANC_SEND (R460): The ST 2110-40 companion packet is sent at O_k + TRO. -/
  | st2110AncSend (stream : Fin 8)
  /-- ST2110_AUDIO_SEND (R460): An ST 2110-30 audio packet is sent. -/
  | st2110AudioSend (sender : Fin 8)
  /-- ENCODE_PICTURE_START (R468): A free encode core takes the ready picture with the earliest deadline. -/
  | encodePictureStart (core : Fin 4)
  /-- ENCODE_PICTURE_DONE (R477): A picture completes and is handed on as an access unit record. -/
  | encodePictureDone (core : Fin 4)
  /-- MARK_KEEP (R486): A KEEP request marks a future picture as a long-term reference. -/
  | markKeep (stream : Fin 16) (mark : Fin 2) (frame : BitVec 32)
  /-- MARK_RELEASE (R486): A RELEASE empties a mark. -/
  | markRelease (stream : Fin 16) (mark : Fin 2)
  /-- RECOVERY_REFRESH (R487): The next picture is coded as IDR. -/
  | recoveryRefresh (stream : Fin 16)
  /-- RECOVERY_FROM_MARK (R487): The next picture references only the named mark. -/
  | recoveryFromMark (stream : Fin 16) (mark : Fin 2)
  /-- LOSS_REPORT (R488): A decoder loss report over Felley triggers auto recovery. -/
  | lossReport (stream : Fin 16) (mark : Fin 3)
  /-- DECODE_PICTURE_START (R493): A decode core starts decoding an access unit. -/
  | decodePictureStart (core : Fin 2) (unit : Bytes) (info : AuInfo)
  /-- DECODE_PICTURE_DONE (R493): A picture finishes decoding, with concealment where needed. -/
  | decodePictureDone (core : Fin 2) (picture : DecodedPic)
  /-- PICTURE_DUE (R493): A TIMED picture's due instant arrives; it latches, or is late. -/
  | pictureDue (ctx : Fin 8)
  /-- DECODE_SEEK (R498): Seek discards unread input and restarts TIMED pacing. -/
  | decodeSeek (ctx : Fin 8)
  /-- RAW_STRIPE_CODED (R509): A raw codec unit codes a stripe's lines into blocks. -/
  | rawStripeCoded (unit ctx : Fin 8)
  /-- RAW_EXPAND_FRAME_BLOCK (R513): A FRAME block is accepted as the latch point of expansion. -/
  | rawExpandFrameBlock (channel : Fin 64) (ring : Bytes)
  /-- RAW_EXPAND_BLOCK (R513): A raw block is expanded into ingest lines. -/
  | rawExpandBlock (channel : Fin 64) (ring : Bytes)
  /-- COMPRESS_JOB (R514): A COMPRESS descriptor is run as DEFLATE blocks, with its completion written. -/
  | compressJob (channel : Fin 64) (desc input : Bytes) (fault : Bool)
  /-- EXPAND_JOB (R515): An EXPAND descriptor inflates blocks, stopping at FORMAT or CHECK. -/
  | expandJob (channel : Fin 64) (desc input : Bytes) (fault : Bool)
  /-- HELD_TAIL_DISCARD (R514): Disabling a channel discards its held tail. -/
  | heldTailDiscard (channel : Fin 64)
  /-- RING_HOLD (R518): Hold stops overwriting in a context's ring share. -/
  | ringHold (by_ : Writer) (ctx : Fin 8)
  /-- RING_RELEASE (R518): The hold is released. -/
  | ringRelease (by_ : Writer) (ctx : Fin 8)
  /-- RING_EXTRACT (R518): A range of ring frames is pinned and handed to recording. -/
  | ringExtract (by_ : Writer) (ctx : Fin 8) (first last : BitVec 32)
  /-- MQ_WRITE (R538): A WRITE command is accepted and buffered, then completes. -/
  | mqWrite (queue : Fin 16) (entry data : Bytes) (fault : Bool)
  /-- MQ_READ (R535): A READ command is served in acceptance order. -/
  | mqRead (queue : Fin 16) (entry : Bytes) (fault : Bool)
  /-- MQ_FLUSH (R539): A FLUSH completes once the queue's earlier writes are on media. -/
  | mqFlush (queue : Fin 16) (entry : Bytes)
  /-- MQ_BUFFER_SPACE_FREED (R541): A waiting HOST WRITE continues when buffer space frees. -/
  | mqBufferSpaceFreed (queue : Fin 16)
  /-- DRIVE_COMMAND_DONE (R539): An NVMe command completes at the drive. -/
  | driveCommandDone (drive : Fin 4) (cid : BitVec 32) (sct sc : BitVec 8) (data : Bytes) (fatal : Bool)
  /-- DRIVE_TIMEOUT (R551): A drive command exceeds the drive timeout. -/
  | driveTimeout (drive : Fin 4)
  /-- QUEUE_RESTART (R544): RESTART resumes a frozen queue after its log is read. -/
  | queueRestart (by_ : Option Writer) (queue : Fin 16)
  /-- QUEUE_RESET (R545): QUEUE RESET abandons uncompleted commands and starts a new epoch. -/
  | queueReset (by_ : Option Writer) (queue : Fin 16)
  /-- QUEUE_RESET_DONE (R545): The reset's drive commands settle, and the queue is RUNNING in its new epoch. -/
  | queueResetDone (queue : Fin 16)
  /-- CQ_HEAD_WRITE (R531): The host returns completion slots, releasing held completions and fetches. -/
  | cqHeadWrite (queue : Fin 16) (head : BitVec 32)
  /-- ERROR_LOG_READ (R544): A READ of 0x4920:01 returns the oldest unread entry and marks it read. -/
  | errorLogRead (queue : Fin 16)
  /-- VOLUME_CREATE (R526): CREATE initialises a new volume on the member drives. -/
  | volumeCreate (present : BitVec 4)
  /-- VOLUME_ATTACH (R526): ATTACH brings up the drives and reads the headers and directory. -/
  | volumeAttach (present : BitVec 4)
  /-- ATTACH_DRIVE_READY (R526): A drive controller becomes ready during attachment, or is refused at timeout. -/
  | attachDriveReady (drive : Fin 4) (ok : Bool) (info : DriveInfo)
  /-- VOLUME_DETACH (R562): DETACH takes the volume offline. -/
  | volumeDetach
  /-- VOLUME_REBUILD (R554): REBUILD starts copying a mirrored member from its partner. -/
  | volumeRebuild
  /-- REBUILD_COMPLETE (R554): The rebuild copy ends and the member is IN_SERVICE. -/
  | rebuildComplete
  /-- CLIP_DELETE (R562): A clip's extents are deallocated and its entry set FREE. -/
  | clipDelete (clip : BitVec 64)
  /-- JOURNAL_COMMIT (R548): The Media Queue journal is committed to MRAM. -/
  | journalCommit
  /-- RECORD_CHECKPOINT (R556): The clip's directory entry is written as an ORDERED INDEX checkpoint. -/
  | recordCheckpoint (ctx : Fin 16)
  /-- PLAYBACK_FEED_START (R560): A playback feed starts reading a clip stream into a playback context. -/
  | playbackFeedStart (ctx : Fin 8) (chunks : List FeedChunk)
  /-- LOST_RANGES_CLEAR (R562): The lost-range list is emptied. -/
  | lostRangesClear (value : BitVec 8)
  /-- PATROL_SCRUB (R570): The controller patrols a line of an active or spare rank. -/
  | patrolScrub (rank : Fin 18) (channel : Fin 4) (line : BitVec 32) (requester : Fin 8) (found : EccFound)
  /-- RANK_MIGRATE (R573): The MIGRATE command takes a rank out of service. -/
  | rankMigrate (by_ : Writer)
  /-- MIGRATION_BLOCK_DONE (R576): A 256 MiB block is copied, verified and journalled. -/
  | migrationBlockDone (mismatch : Bool) (poisoned : BitVec 32)
  /-- RANK_RETEST (R584): The RETEST command starts march passes over a rank. -/
  | rankRetest (by_ : Writer)
  /-- RETEST_DONE (R585): The retest ends, and the rank becomes SPARE or RETIRED. -/
  | retestDone (rank : Fin 18) (errors : Bool) (distinct : BitVec 32)
  /-- RANK_MARGIN_SCAN (R592): The MARGIN_SCAN command sweeps a rank's eyes. -/
  | rankMarginScan (by_ : Writer)
  /-- MARGIN_SCAN_DONE (R592): The margin scan result is posted. -/
  | marginScanDone (result : List (BitVec 16))
  /-- DRAM_INIT_DONE (R583): Zero initialisation of every active rank completes. -/
  | dramInitDone
  /-- REFRESH_RATE_CHANGE (R587): A package's refresh multiple changes with its temperature. -/
  | refreshRateChange (package : Fin 9)
  /-- DQS_DRIFT_CHECK (R591): Every 100 ms, each channel's DQS oscillator is read and timing is corrected. -/
  | dqsDriftCheck
  /-- TRAINING_CACHE_CLEAR (R589): Every training cache entry is cleared. -/
  | trainingCacheClear (by_ : Writer)
  /-- AUDIO_BLOCK (R601): A block of audio samples completes with its T96 time. -/
  | audioBlock (port : Fin 48) (time period : BitVec 96) (samples : List (W32 × W32))
  /-- AUDIO_CLOCK_LOSS (R607): A SLAVE port loses its clock. -/
  | audioClockLoss (port : Fin 48) (rate : Bool)
  /-- AUDIO_CLOCK_RESTORED (R607): 64 good WS periods restore the clock. -/
  | audioClockRestored (port : Fin 48)
  /-- QUADRATURE_COUNT (R618): A filtered A or B transition is counted up or down. -/
  | quadratureCount (channel : Fin 24) (a b : Bool)
  /-- TOOTH_EDGE (R621): A tooth edge counts a pitch and may be a reference edge. -/
  | toothEdge (channel : Fin 24) (b : Bool)
  /-- SINCOS_SAMPLE (R622): A sine/cosine sample updates the interpolated position. -/
  | sincosSample (channel : Fin 24) (sin cos : BitVec 12)
  /-- INDEX_LATCH (R625): An index edge latches the position and its T96. -/
  | indexLatch (channel : Fin 24) (rising : Bool)
  /-- REFERENCE_ARM (R626): The next index is made the reference. -/
  | referenceArm (channel : Fin 24)
  /-- POSITION_CORRECT (R627): A value is added to the counter only. -/
  | positionCorrect (channel : Fin 24) (value : BitVec 32)
  /-- POSITION_SHIFT (R627): A value is added to the counter and to the reference. -/
  | positionShift (channel : Fin 24) (value : BitVec 32)
  /-- PROBE_LATCH (R628): A probe edge latches the position into the FIFO. -/
  | probeLatch (channel : Fin 24) (rising : Bool)
  /-- PROBE_FIFO_READ (R628): A READ of 0x2620:0C returns and removes the oldest probe. -/
  | probeFifoRead (channel : Fin 24)
  /-- SPEED_UPDATE (R630): Each speed interval, the speed and direction are recomputed. -/
  | speedUpdate (channel : Fin 24)
  /-- STOP_TIMEOUT (R630): No count within the stop timeout sets STOPPED. -/
  | stopTimeout (channel : Fin 24)
  /-- POSITION_CLEAR_FLAGS (R632): The sticky position flags are cleared. -/
  | positionClearFlags (channel : Fin 24)
  /-- MB_GO (R636): GO sends a mailbox message into the far inbox, or leaves it pending. -/
  | mbGo (mailbox : Fin 32) (message : Bytes) (wake : Bool)
  /-- MB_ACCEPT (R639): A pending GO is accepted once an inbox slot frees or the domain wakes. -/
  | mbAccept (mailbox : Fin 32)
  /-- MB_POP (R638): POP releases the oldest inbox message. -/
  | mbPop (mailbox : Fin 32)
  /-- MB_CANCEL (R639): CANCEL withdraws a pending GO. -/
  | mbCancel (mailbox : Fin 32)
  /-- RELAY_FORWARD (R642): A relay message is accepted by the partner and released from the inbox. -/
  | relayForward (pair : Fin 16)
  /-- EP_PERST_ASSERT (R643): EP_PERST_N assertion empties every mailbox. -/
  | epPerstAssert
  /-- STANDBY_COMMAND (R653): STANDBY starts the Standby entry. -/
  | standbyCommand
  /-- STANDBY_FRAMES_DRAINED (R653): Frames in flight complete, and the buffer flush begins. -/
  | standbyFramesDrained
  /-- STANDBY_FLUSH_DONE (R653): The write buffer is flushed and the domains enter their Standby modes. -/
  | standbyFlushDone
  /-- DOMAIN_WAIT (R646): A controller's WAIT starts a domain's entry to Retain or Off. -/
  | domainWait (domain : Fin 38) (off : Bool)
  /-- DOMAIN_EXIT_DONE (R648): A domain returns to Run. -/
  | domainExitDone (domain : Fin 38)
  /-- ACTIVE_COMMAND (R654): ACTIVE in Standby is the DENVAL wake source. -/
  | activeCommand
  /-- DORMANT_COMMAND (R655): DORMANT runs the Standby entry and then turns off MEM and SYS. -/
  | dormantCommand
  /-- WAKE_FRAME_WAKE (R658): A WAKE frame on a wake port, accepted, wakes the module and may be answered. -/
  | wakeFrameWake (port : Fin 2) (frame : WakeFrame) (boot : BootInputs)
  /-- WAKE_FRAME_PING (R659): A PING frame is answered with the module's state. -/
  | wakeFramePing (port : Fin 2) (frame : WakeFrame)
  /-- WAKE_TIO_EDGE (R657): The selected TIO edge wakes the module. -/
  | wakeTioEdge (ball : Fin 32) (falling : Bool) (boot : BootInputs)
  /-- WAKE_ALARM (R657): T96 reaches the alarm time and wakes the module. -/
  | wakeAlarm (boot : BootInputs)
  /-- WAKE_EP_PERST (R657): EP_PERST_N release wakes the module from Dormant. -/
  | wakeEpPerst (boot : BootInputs)
  /-- CORE_SENSOR_SAMPLE (R664): A core sensor sample is taken and tested for agreement. -/
  | coreSensorSample (sensor : Fin 64) (reading : Option (BitVec 32))
  /-- DRAM_SENSOR_SAMPLE (R664): A DRAM package sensor sample is taken. -/
  | dramSensorSample (package : Fin 9) (reading : Option (BitVec 32))
  /-- TSP_SAMPLE (R664): The power-stage sensor sample is taken. -/
  | tspSample (reading : Option (BitVec 32))
  /-- THERMAL_LOOP_TICK (R668): Every 1 ms, the thermal loops adjust k_core, k_dram and k_psu. -/
  | thermalLoopTick
  /-- TRIP_HOLD_CHECK (R673): Every 100 ms in trip hold, the restart condition is tested. -/
  | tripHoldCheck (boot : BootInputs)
  /-- GAROS_LINK_HELLO (R683): LINK_HELLO identifies a partner and is checked for formation faults. -/
  | garosLinkHello (link : Fin 4) (die : BitVec 64) (straps size : BitVec 8) (fwHash : Bytes)
  /-- GAROS_CONTROL_FRAME (R680): A CONTROL frame is received and acknowledged. -/
  | garosControlFrame (link : Fin 4) (seq : BitVec 16) (ack : Bool) (kind : BitVec 8) (body : Bytes) (checkOk : Bool)
  /-- GAROS_CONTROL_RESEND (R680): An unacknowledged CONTROL frame is resent after 20 µs. -/
  | garosControlResend (link : Fin 4)
  /-- GAROS_STORE_FRAME (R686): Output groups arrive for a local frame store. -/
  | garosStoreFrame (link : Fin 4) (seq : BitVec 16) (ctx : Fin 16) (frame : BitVec 32) (groups : List StoreGroup) (last checkOk : Bool)
  /-- GAROS_WINDOW_FRAME (R687): A remote memory access is served. -/
  | garosWindowFrame (link : Fin 4) (seq : BitVec 16) (address : BitVec 64) (access : WindowAccess) (checkOk : Bool)
  /-- GAROS_MARKER_SEND (R681): A time marker is sent every 100 µs. -/
  | garosMarkerSend (link : Fin 4)
  /-- GAROS_TIME_MARKER (R681): A marker pair yields the offset and delay. -/
  | garosTimeMarker (link : Fin 4) (sent partnerReceived partnerSent received : BitVec 96)
  /-- MARIONETTE_SEND (R698): A Marionette heartbeat is sent every 250 µs. -/
  | marionetteSend (link : Fin 4)
  /-- MARIONETTE_RECEIVE (R699): A heartbeat is received and the arming conditions are rechecked. -/
  | marionetteReceive (link : Fin 4) (heartbeat : Bytes)
  /-- MARIONETTE_MISS (R698): An expected heartbeat is missed. -/
  | marionetteMiss (link : Fin 4)
  /-- PARTNER_LINK_DOWN_TIMEOUT (R689): A link has been DOWN for 100 µs, so the link condition holds. -/
  | partnerLinkDownTimeout (link : Fin 4)
  /-- PARTNER_HEARTBEAT_SILENT (R700): The partner HEARTBEAT input has shown no edge for 0.6 ms. -/
  | partnerHeartbeatSilent
  /-- PARTNER_LOST (R700): A partner is declared lost, and SHADOW becomes PRIMARY or ORPHAN. -/
  | partnerLost (link : Fin 4)
  /-- TAKEOVER_INSTANT (R702): At the takeover instant, the control outputs are driven and recordings open. -/
  | takeoverInstant
  /-- TWIN_TAKEOVER (R702): TAKEOVER makes an ORPHAN take over. -/
  | twinTakeover (by_ : Writer)
  /-- TWIN_RESYNC (R705): RESYNC resynchronises a SHADOW. -/
  | twinResync (by_ : Writer)
  /-- MIRRORED_UNIT (R696): A mirrored unit from PRIMARY is applied and acknowledged. -/
  | mirroredUnit (number live : BitVec 32) (unit : Bytes)
  /-- GENERATION_CLOSE (R697): On SHADOW, a latch point's generation closes 50 µs after it. -/
  | generationClose (ctx : Fin 16) (frame : BitVec 32)
  /-- STANDBY_NOTICE (R707): A partner's STANDBY_NOTICE suspends loss detection. -/
  | standbyNotice (link : Fin 4)
  /-- ARRAY_FORMATION_TIMEOUT (R683): The formation timeout ends, and the array forms DEGRADED. -/
  | arrayFormationTimeout
  /-- TWIN_FORMATION_WINDOW (R694): The 2 s formation window ends and the twin role is taken. -/
  | twinFormationWindow
  /-- FELLEY_LINK_HELLO (R714): A Felley LINK_HELLO brings a receive direction UP, or refuses it. -/
  | felleyLinkHello (role : Fin 4) (lanes : BitVec 8) (die : BitVec 64) (twinState twinIndex node : BitVec 8)
  /-- FELLEY_CONTROL_FRAME (R715): A Felley CONTROL frame is received and acknowledged. -/
  | felleyControlFrame (seq : BitVec 16) (ack : Bool) (kind : BitVec 8) (body : Bytes) (checkOk : Bool)
  /-- FELLEY_CONTROL_RESEND (R715): An unacknowledged CONTROL frame is resent; after eight resends, the direction is DOWN. -/
  | felleyControlResend
  /-- FELLEY_STREAM_SEND (R719): The sender serves a stream message in weighted rotation. -/
  | felleyStreamSend (stream : Fin 64)
  /-- FELLEY_STREAM_FRAME (R720): A stream frame is received and delivered, or discarded as damaged. -/
  | felleyStreamFrame (stream : Fin 64) (seq : BitVec 16) (first last : Bool) (payload : Bytes) (checkOk : Bool)
  /-- FELLEY_FRAME_INFO (R717): FRAME_INFO gives the frame number, exposure record and marks to the receiving context. -/
  | felleyFrameInfo (stream : Fin 16) (info : Bytes)
  /-- FELLEY_TIME_MARKER (R723): A Felley time marker pair updates the head's FELLEY source. -/
  | felleyTimeMarker (sent partnerReceived partnerSent received : BitVec 96)
  /-- UPSTREAM_MANIFEST_TIMEOUT (R722): The head's manifest has not arrived within the wait, so Upstream is 0. -/
  | upstreamManifestTimeout (ctx : Fin 16)
  /-- FELLEY_CALIBRATE (R724): CALIBRATE starts measuring the asymmetry over 64 PPS pulses. -/
  | felleyCalibrate (by_ : Writer)
  /-- FELLEY_CALIBRATION_DONE (R724): The calibration sets the asymmetry, or fails. -/
  | felleyCalibrationDone
  /-- FELLEY_RESTART (R728): RESTART restarts every receive lane from step 2. -/
  | felleyRestart (by_ : Writer)
  /-- SELF_TEST_REPLICA (R749): The on-demand REPLICA test runs on a rail. -/
  | selfTestReplica (system : Bool)
  /-- SELF_TEST_TROUPE (R749): The on-demand TROUPE test fences and tests a Troupe. -/
  | selfTestTroupe (troupe : Fin 24)
  /-- SELF_TEST_RFE (R749): The on-demand RFE test fences and tests a raw front end. -/
  | selfTestRfe (rfe : Fin 8)
  /-- SELF_TEST_FUSE (R749): The on-demand FUSE test reads back the fuses. -/
  | selfTestFuse
  /-- SELF_TEST_MRAM (R749): The on-demand MRAM test checks the MRAM structures. -/
  | selfTestMram
  /-- SELF_TEST_SENSORS (R749): The on-demand SENSORS test compares each sensor with its neighbours. -/
  | selfTestSensors
  /-- SELF_TEST_LOOPBACK (R749): The on-demand LOOPBACK test runs internal PRBS31 on a quad. -/
  | selfTestLoopback (quad : Fin 8)
  /-- SELF_TEST_DONE (R749): A test result is posted with event 0x0130. -/
  | selfTestDone (passed : Bool) (detail : BitVec 32)
  /-- EVENT_LOG_WRITE (R751): A raised event is written as a record into the MRAM ring. -/
  | eventLogWrite
  /-- EVENT_RECORD_READ (R754): A READ of the record entries returns records and advances the session cursor. -/
  | eventRecordRead (by_ : Writer) (many : Bool)
  /-- EVENT_CURSOR_WRITE (R754): A session sets its own event-log cursor. -/
  | eventCursorWrite (by_ : Writer) (cursor : BitVec 32)
  /-- EVENT_ACKNOWLEDGE (R755): ACKNOWLEDGE sets the acknowledged sequence to the cursor. -/
  | eventAcknowledge (by_ : Writer)
  /-- EVENT_ERASE (R755): ERASE empties the ring and logs event 0x0133. -/
  | eventErase (by_ : Writer)
  /-- INTERRUPT_PENDING_READ (R756): A READ of a pending entry returns its bits and clears them. -/
  | interruptPendingRead (by_ : Writer) (which : Fin 4)
  /-- RESET_N_RISE (R112): RESET_N rises after a cold reset, and the straps are sampled at that edge. -/
  | resetNRise (boot : BootInputs)
  /-- WARM_RESET_COMPLETE (R113): A warm reset completes within 400 ms; HEARTBEAT resumes, a migration resumes and a twin returns as SHADOW. -/
  | warmResetComplete
  /-- DOMAIN_RESET_COMPLETE (R115): A domain reset completes within 20 ms, and the domain's ports restart as their chapters define. -/
  | domainResetComplete (domain : Fin 35)
  /-- OVERVOLTAGE_EPISODE_START (R98): The first VIN sample above 60 V sets OVERVOLTAGE and begins an overvoltage episode. -/
  | overvoltageEpisodeStart (vin : BitVec 16)
  /-- RAIL_OUT_OF_REGULATION (R118): An internal rail of a running domain leaves its regulation band, so PWR_GOOD falls within 10 µs. -/
  | railOutOfRegulation
  /-- REFERENCE_RESTORED (R228): A missing lane reference shows edges again, and its lanes restart from step 2 of bring-up. -/
  | referenceRestored (reference : Fin 16)
  /-- DRIVE_LINK_DOWN (R551): A drive's PCIe link goes down or it reports controller fatal status, so the drive is declared LOST. -/
  | driveLinkDown (drive : Fin 4)
  /-- DHCPV4_LEASE (R160): A DHCPv4 lease is obtained or lost, and the present address and the UDP path's service change accordingly. -/
  | dhcpv4Lease (address : Option (BitVec 32))
  /-- ENDPOINT_LINK_UP (R757): The host endpoint link comes up, and the MSI-X vectors of still-pending classes are sent. -/
  | endpointLinkUp
  /-- EDP_BACKLIGHT_ON (R456): T8 after video starts, ED_BLEN goes high and ED_PWM starts at the set frequency and duty. -/
  | edpBacklightOn (port : Fin 2)
  deriving DecidableEq, Repr

end Sys2Proof
end

