-- ==== Sys2Proof/Decode.lean ====
section
/-!
DEFINITION. Sys2Proof/Decode.lean: words of the table. The table gives bits to no row, so that no word spells a command.
-/

namespace Sys2Proof

/-- The command that a word spells by the bits of the table: none of its rows has any. -/
def decodeTableWord (_nbits _w : Nat) : Option Instr := none

end Sys2Proof
end

