-- ==== Sys2Proof/Config.lean ====
section
/-!
DEFINITION. Sys2Proof/Config.lean: what the manual leaves open. Every constant here is opaque: it has no body, so no proof
can depend on a value of it. `freeValue` is applied to a counter of the state that each draw advances
(`State.sys.seed`), so that every draw is a fresh unconstrained value; the others are functions of their operands.
-/

namespace Sys2Proof.Config

/-- The free values, one for each value of the state's draw counter (log entry 1). -/
opaque freeValue : Nat → BitVec 256

/-- Which of the results that R349 admits a transcendental gives: operation (0 RCP, 1 RSQ, 3 LOG2, 4 EXP2) and operand
(log entry 21). -/
opaque transPick : Nat → W32 → Nat

/-- The error of the noise filter's exponential, which R310 bounds by 2^-10: argument (log entry 23). -/
opaque expPick : W32 → Nat

/-- Payload of a LOSSLESS block: bit depth and packed pixels (R508: the coder is Kilvan's own; log entry 29). -/
opaque losslessCode : Nat → Bytes → Bytes

/-- Payload of a COMPANDED block: step q and the quantised codes (R509; log entry 29). -/
opaque compandCode : Nat → List Nat → Bytes

/-- The codes that a LOSSLESS or COMPANDED payload expands to: kind, step, count of pixels, payload (log entry 29). -/
opaque rawDecode : Nat → Nat → Nat → Bytes → List Nat

/-- The raw DEFLATE stream the compressor makes of a block (R514: RFC 1951 leaves the choice; log entry 29). -/
opaque deflate : Bytes → Bytes

/-- What an encode core makes of a picture, from its coding tools, source pixels, settings and history (R473, R481): octets of the access unit after its
delimiter, mean QP, CPB fullness, and the first CTU row in emergency coding, if any (log entry 30). -/
opaque codePicture : Bytes → Bytes × Nat × Nat × Option Nat

/-- The ratio of a colour to white at an RGBW site whose white is 0 (R309 gives none): the colour (log entry 23). -/
opaque whiteRatio : W32 → W32

/-- A word of local memory below scratch that no resident image and no parameter copy has filled (R339, R340): context, frame, byte address (log
entry 21). -/
opaque localWord : Nat → Nat → Nat → W32

/-- The error of the sine/cosine angle, which R622 bounds by 2^-10 of a cycle: the two codes (log entry 31). -/
opaque anglePick : Nat → Nat → Nat

/-- Sample of the test tone (R602: a sine at fs / 48 and -20 dBFS; its phase and rounding are not stated): place in the period of 48
(log entry 32). -/
opaque toneSample : Nat → W32

/-- A credential with the Kilvan role verifies under the Kilvan firmware key, of which the module holds the hash only (R173): credential, hash
(log entry 43). -/
opaque kilvanIssued : Bytes → Bytes → Bool

/-- Octets at which a channel's line FIFO stands at its minimum depth (R38, R52: no chapter gives the depth; log entry 60). -/
opaque fifoMinimum : Nat

/-- KE3's derivation of the die key from its fuses (R165; log entry 43). -/
opaque dieKey : Bytes → Bytes

/-- Kilvan's signature in a certificate of its device CA (R170; log entry 43). -/
opaque kilvanSignature : Bytes → Bytes

/-- What a module without a device key puts where a signature by that key belongs (log entry 43). -/
opaque noSignature : Bytes → Bytes

/-- The increment that the drift model predicts: bins, ageing rate, temperature in 0.01 °C, T96 (R208; log entry 36). -/
opaque driftPredict : List (Nat × Nat × Nat) → Int → Int → Nat → Nat

/-- The ageing rate after a bin was learned anew: the rate before, the bin's old contents, increment and T96 (R208; log entry 36). -/
opaque driftAgeing : Int → Option (Nat × Nat) → Nat → Nat → Int

end Sys2Proof.Config
end

