-- ==== Sys2Proof/Machine/Octets.lean ====
section
/-!
DEFINITION. Sys2Proof/Machine/Octets.lean: numbers as octets, and fields of octets (R6).
-/

namespace Sys2Proof.Machine

/-! ## Little-endian -/

/-- The `n` low octets of a number, little-endian (R6). -/
def le (n v : Nat) : Bytes :=
  match n with
  | 0 => []
  | m + 1 => BitVec.ofNat 8 v :: le m (v / 256)

/-- The number that little-endian octets spell (R6). -/
def unLe : Bytes → Nat
  | [] => 0
  | b :: r => b.toNat + 256 * unLe r

/-- `len` octets from offset `off`; octets past the end read 0. -/
def slice (b : Bytes) (off len : Nat) : Bytes :=
  let r := (b.drop off).take len
  r ++ List.replicate (len - r.length) 0

/-- The little-endian number of `len` octets at `off`. -/
def rdLe (b : Bytes) (off len : Nat) : Nat := unLe ((b.drop off).take len)

/-- `b` with the octets from `off` replaced by `v`; the length of `b` is kept. -/
def poke (b : Bytes) (off : Nat) (v : Bytes) : Bytes :=
  (b.take off ++ v ++ b.drop (off + v.length)).take b.length

/-- `len` octets, 0 but for the listed fields: offset, width in octets, value (R6). -/
def pack (len : Nat) (fields : List (Nat × Nat × Nat)) : Bytes :=
  fields.foldl (fun b f => poke b f.1 (le f.2.1 f.2.2)) (List.replicate len 0)

/-! ## Octets, big-endian -/

/-- The `n` low octets of a number, most significant first. -/
def be (n v : Nat) : Bytes := (le n v).reverse

/-- The number that big-endian octets spell. -/
def unBe (b : Bytes) : Nat := unLe b.reverse

/-- Exclusive or, octet by octet. -/
def xorB (a b : Bytes) : Bytes := a.zipWith (· ^^^ ·) b

end Sys2Proof.Machine
end

