-- ==== Sys2Proof/Machine/Aes.lean ====
section
/-!
DEFINITION. Sys2Proof/Machine/Aes.lean: AES-256-GCM (R165, R188, R190).
-/

namespace Sys2Proof.Machine

/-! ## AES-256-GCM -/

/-- Product in GF(2^8) of AES, over the low `n` bits of b. -/
def gmul8 (a b : Nat) : Nat → Nat
  | 0 => 0
  | n + 1 =>
    let a2 := if a < 128 then 2 * a else (2 * a) ^^^ 0x11B
    (if b % 2 = 1 then a else 0) ^^^ gmul8 a2 (b / 2) n

/-- a^n in GF(2^8). -/
def gpow8 (a : Nat) : Nat → Nat
  | 0 => 1
  | n + 1 => gmul8 a (gpow8 a n) 8

/-- The S-box. -/
def sboxOf (a : Nat) : Nat :=
  let i := if a = 0 then 0 else gpow8 a 254
  let rot (k : Nat) : Nat := (i * 2 ^ k ||| i / 2 ^ (8 - k)) % 256
  i ^^^ rot 1 ^^^ rot 2 ^^^ rot 3 ^^^ rot 4 ^^^ 0x63
def sbox : List Nat := (List.range 256).map sboxOf
def sub8 (b : BitVec 8) : BitVec 8 := BitVec.ofNat 8 (sbox.getD b.toNat 0)

/-- The key schedule: words of four octets, newest last; word i from i - 8 and i - 1. -/
def expandKey : Nat → Nat → List Bytes → List Bytes
  | 0, _, ws => ws
  | n + 1, i, ws =>
    let t := ws.getD (i - 1) []
    let t := if i % 8 = 0 then
        xorB ((t.drop 1 ++ t.take 1).map sub8) [BitVec.ofNat 8 (gpow8 2 (i / 8 - 1)), 0, 0, 0]
      else if i % 8 = 4 then t.map sub8 else t
    expandKey n (i + 1) (ws ++ [xorB (ws.getD (i - 8) []) t])

/-- The 15 round keys of AES-256. -/
def roundKeys (key : Bytes) : List Bytes :=
  let ws := expandKey 52 8 ((List.range 8).map fun i => (key.drop (4 * i)).take 4)
  (List.range 15).map fun r => ((ws.drop (4 * r)).take 4).flatten

def shiftRows (s : Bytes) : Bytes := (List.range 16).map fun i => s.getD ((i + 4 * (i % 4)) % 16) 0
def mixColumns (s : Bytes) : Bytes :=
  (List.range 16).map fun i =>
    let c (j : Nat) : Nat := (s.getD (i / 4 * 4 + (i + j) % 4) 0).toNat
    BitVec.ofNat 8 (gmul8 (c 0) 2 8 ^^^ gmul8 (c 1) 3 8 ^^^ c 2 ^^^ c 3)

/-- One block under AES-256. -/
def aesBlock (ks : List Bytes) (b : Bytes) : Bytes :=
  let s := xorB b (ks.headD [])
  let s := ((ks.drop 1).take 13).foldl (fun s k => xorB (mixColumns (shiftRows (s.map sub8))) k) s
  xorB (shiftRows (s.map sub8)) (ks.getD 14 [])

/-- Product in GF(2^128) of GCM, bit by bit from the first. -/
def gmul128 (v : Nat) (x : Nat) : Nat → Nat → Nat
  | 0, z => z
  | n + 1, z =>
    let z := if x.testBit n then z ^^^ v else z
    gmul128 (if v % 2 = 1 then v / 2 ^^^ 0xE1 * 2 ^ 120 else v / 2) x n z

/-- GHASH over octets padded to blocks of 16. -/
def ghash (h : Nat) (m : Bytes) : Nat → Nat → Nat
  | 0, y => y
  | n + 1, y => ghash h (m.drop 16) n (gmul128 h (y ^^^ unBe (slice m 0 16)) 128 0)

/-- Padding to a multiple of 16. -/
def pad16 (m : Bytes) : Bytes := m ++ List.replicate ((16 - m.length % 16) % 16) 0

/-- The key stream over a message of n octets (GCM counters from 2). -/
def gcmStream (ks : List Bytes) (nonce : Bytes) (n : Nat) : Bytes := (List.range ((n + 15) / 16)).flatMap fun i => aesBlock ks (nonce ++ be 4 (i + 2))

/-- The tag over a ciphertext and its additional data. -/
def gcmTag (ks : List Bytes) (nonce aad c : Bytes) : Bytes :=
  let h := unBe (aesBlock ks (List.replicate 16 0))
  let g := pad16 aad ++ pad16 c ++ be 8 (8 * aad.length) ++ be 8 (8 * c.length)
  xorB (be 16 (ghash h g (g.length / 16) 0)) (aesBlock ks (nonce ++ be 4 1))

/-- AES-256-GCM with a 12-octet nonce: ciphertext and tag. -/
def gcmSeal (key nonce aad m : Bytes) : Bytes × Bytes :=
  let ks := roundKeys key
  let c := xorB m (gcmStream ks nonce m.length)
  (c, gcmTag ks nonce aad c)

/-- The message of a ciphertext whose tag is right. -/
def gcmOpen (key nonce aad c tag : Bytes) : Option Bytes :=
  let ks := roundKeys key
  if gcmTag ks nonce aad c == tag then some (xorB c (gcmStream ks nonce c.length)) else none

/-! ## Keys at rest (R165) -/

/-- A private key as MRAM holds it. -/
structure SealedKey where
  nonce : Bytes
  cipher : Bytes
  tag : Bytes
  deriving DecidableEq, Repr

/-- A key encrypted under the die key, and in the clear again. -/
def sealKey (die nonce key : Bytes) : SealedKey := let c := gcmSeal die nonce [] key; ⟨nonce, c.1, c.2⟩
def openKey (die : Bytes) (k : SealedKey) : Option Bytes := gcmOpen die k.nonce [] k.cipher k.tag

end Sys2Proof.Machine
end

