-- ==== Sys2Proof/Machine/State.lean ====
section
/-!
DEFINITION. Sys2Proof/Machine/State.lean: the state of the module, as plain data. The object dictionary holds every register the
manual lists in a table (R8, R122: "all configuration and status is held in one object dictionary"); the structures
beside it hold what the manual gives the module but no entry shows: queues, frames in flight, engines, sessions, links.
-/

namespace Sys2Proof.Machine

/-! ## Dictionary vocabulary (R8 to R12) -/

/-- The data types of R9. `blob` lists the lengths the entry's table admits, as ranges. -/
inductive EntryType where
  | u8 | u16 | u32 | u64 | i32 | f32 | t96 | enum
  | bits (octets : Nat)
  | str
  | blob (lengths : List (Nat × Nat))
  deriving DecidableEq, Repr

/-- The access codes of R10. -/
inductive Access where
  | ro | rw | wo | rwc | rwl
  deriving DecidableEq, Repr

/-- A row of a dictionary table: the entries `first`..`last` of the `count` indices from `base`. -/
structure EntryDef where
  base : Nat
  count : Nat
  first : Nat
  last : Nat
  type : EntryType
  access : Access
  role : Role
  dnum : Nat
  dbytes : List Nat
  /-- Inclusive ranges a write may take; empty where every value of the type may be written. -/
  allowed : List (Int × Int)
  /-- Bits of a BITS entry that the table reserves. -/
  reservedBits : Nat
  /-- Held by the parameter store (R124). -/
  stored : Bool
  deriving DecidableEq, Repr

/-- The row covers the index. -/
def EntryDef.holds (r : EntryDef) (index : Nat) : Bool := r.base ≤ index && index < r.base + r.count

/-- The response statuses of R133. -/
inductive Status where
  | ok | staged | superseded | noEntry | noSubindex | readOnly | writeOnly | type | range | role | exhausted | state
  | overbudget | scope | late | auth | session | busy | timeout | aborted | protocol
  deriving DecidableEq, Repr

/-! ## Output -/

/-- What the module hands to one of its ports. `State.sys.tx` lists these oldest first; a partner takes them away, which
no command of the table does, so the list is a record of what has been sent (log entry 6). -/
inductive Tx where
  /-- A Denval frame on a path (path rank of R127): address and port of the receiver on UDP (else 0), destination node, function, tag and body
  (R139 to R142). -/
  | denval (path dest dst func tag : Nat) (body : Bytes)
  /-- A line on the debug UART: a console reply (R150). -/
  | console (line : Bytes)
  /-- A boot report line (R747): power-up step, test or step number, passed, detail. -/
  | report (step item : Nat) (pass : Bool) (detail : Nat)
  /-- A PTP message (R211): port, domainNumber, message type, sequence number, T96 carried, extra octets. -/
  | ptp (port domain kind seq t96 : Nat) (body : Bytes)
  /-- A wake-port frame (R658, R659). -/
  | wake (port : Nat) (body : Bytes)
  /-- A frame on a Garos link: link, channel (R680), message kind, sequence, payload. -/
  | garos (link channel kind seq : Nat) (body : Bytes)
  /-- A frame on the Felley link: stream or 255 for CONTROL, sequence, flags, payload. -/
  | felley (stream seq flags : Nat) (body : Bytes)
  /-- An MSI-X message (R756). -/
  | msix (vector : Nat)
  /-- An ST 2110 datagram: stream kind, stream, path, sequence, payload. -/
  | rtp (kind stream path seq : Nat) (body : Bytes)
  /-- A write list or transaction on a sensor control port (R279, R283). -/
  | sensor (port : Nat) (body : Bytes)
  /-- An edge placed on a timing output (R217): ball, T96, pulse width in ns (0: the level stays), level. -/
  | tio (ball t96 width : Nat) (level : Bool)
  /-- Sample frames that a TX audio port shifts out: port, T96 of the first WS edge, left and right samples. -/
  | audio (port t96 : Nat) (samples : List (Nat × Nat))
  /-- A command to an NVMe drive: drive, command identifier, operation (0 write, 1 read, 2 flush), LBA, blocks, data. -/
  | drive (drive cid op lba count : Nat) (data : Bytes)
  /-- Training blocks on a lane from here on (R236, R237): the payload of the first, and how many (none: until the lane sends something else); the
  sequence count goes on by one with each. -/
  | training (lane : Nat) (payload : Bytes) (count : Option Nat)
  /-- A PRBS pattern on a lane from here on (R247, R249). -/
  | prbs (lane pattern : Nat)
  /-- A DMA write to host memory: address and octets (R516). -/
  | host (addr : Nat) (data : Bytes)
  deriving DecidableEq, Repr

/-! ## Events (R13, R751) -/

/-- One event record before or after it is written: 32 octets in the ring. -/
structure EventRecord where
  t96 : Nat
  code : Nat
  severity : Nat
  source : Nat
  data : Bytes
  deriving DecidableEq, Repr

/-- The part of the event log that is not in MRAM. -/
structure EventLog where
  /-- Records awaiting their MRAM write, at most 256 (R753). -/
  pending : List EventRecord
  /-- Records dropped since the buffer was last found full (R753). -/
  dropped : Nat
  /-- When a rate-limited event was last logged: key of the limit, instant (R70, R162, R195 and their like). -/
  limited : List (Nat × Nat)
  deriving DecidableEq, Repr

/-! ## Supply, boot and pins (chapters 3, 4) -/

/-- Where the module stands in power-up and reset (R108 to R113, R672). -/
inductive BootPhase where
  /-- No VIN, or AON off. -/
  | off
  /-- Supply reset with AON held up, waiting for VIN (R111). -/
  | supplyReset
  /-- BOOT_SRC = 1: waiting for a host image (R110). -/
  | waitImage
  /-- Both firmware banks failed, or a self-test of R748 keeps the module in reset. -/
  | failed
  /-- Steps 5 and 6 passed; DRAM is being trained (step 7). -/
  | training
  /-- RESET_N low, or a commanded cold reset under way. -/
  | coldReset
  /-- A warm reset is running. -/
  | warmReset
  /-- Held off after a thermal trip (R672). -/
  | tripHold
  /-- Dormant: only AON is powered (R655). -/
  | dormant
  /-- Step 8 reached: the dictionary serves. -/
  | running
  deriving DecidableEq, Repr

structure Boot where
  phase : BootPhase
  /-- Active firmware image: bank A (0), bank B (1) or a host image (2), the SHA-256 of the image, and its epoch (R109, R110). -/
  bank : Nat
  fwHash : Bytes
  fwEpoch : Nat
  /-- Present reset's cause, codes of 0x2003:03. -/
  cause : Nat
  /-- Uptime (ns) at VIN valid or at the release of the reset. -/
  startAt : Nat
  strapFault : Bool
  /-- The trip whose hold this power-up ends: uptime of the trip, and the sensor (R673). -/
  trip : Option (Nat × Nat) := none
  /-- A failed self-test lets the module continue DEGRADED until the next cold reset (R748). -/
  degraded : Bool
  /-- HEARTBEAT toggles (R117). -/
  heartbeat : Bool
  /-- PWR_GOOD is high (R118). -/
  pwrGood : Bool
  /-- INT_N is driven low (R756). -/
  intLow : Bool
  /-- The host endpoint link is up (R757). -/
  epLink : Bool
  /-- MSI-X vectors the host has masked (R757). -/
  masked : List Nat
  /-- A mailbox pair counts as pending (R756). -/
  mbPending : Bool
  /-- A media queue counts as pending (R756). -/
  mqPending : Bool
  /-- RESET_N is low. -/
  resetNLow : Bool
  /-- Uptime (ns) of the fall of RESET_N. -/
  resetFell : Nat
  /-- Domains whose reset is under way (R115), as codes of 0x2003:02. -/
  domainResets : List Nat
  /-- Milliseconds without response per control core; 0 where absent (R116). -/
  coreSilent : List (Nat × Nat)
  /-- A host firmware timeout was reported for this wait (R110). -/
  imageTimeout : Bool
  /-- Test of R749 that runs: code, instance. -/
  test : Option (Nat × Nat)
  /-- A reset that a write asked for, once its answer is out: 1 warm, 2 cold (R113, R168). -/
  due : Option Nat
  /-- Where a warm reset of a module that was not running began, and returns to (R112; log entry 42). -/
  warmFrom : BootPhase := .running
  deriving DecidableEq, Repr

structure Supply where
  /-- Present skip request of the supply cap (R102). -/
  kCap : Nat
  /-- Milliseconds since k_cap last changed. -/
  capAge : Nat
  /-- Event 0x0106 has been raised in this low-input episode (R103). -/
  capTold : Bool
  /-- Uptime (ns) at which the warning was detected (R104). -/
  warnAt : Nat
  warnMinVin : Nat
  warnLost : Nat
  /-- Highest VIN and summed milliseconds above 60 V of the overvoltage episode (R98). -/
  ovMax : Nat
  ovMs : Nat
  inputOpen : Bool
  /-- Hold-up is running (R107). -/
  holdUp : Bool
  /-- The AON domain is powered. -/
  aon : Bool
  /-- Loads of 0x2002:01 to :06 shed now, as one number per subindex (R104). -/
  shed : List (Nat × Nat)
  /-- Skip request of the power manager (R760) and its two millisecond counters. -/
  kPwr : Nat
  pwrRaiseAge : Nat
  pwrChangeAge : Nat
  deriving DecidableEq, Repr

/-! ## Governor (chapter 2) -/

/-- A slack (R52): a time ahead of a deadline over a period, or a spare capacity over the whole. It is kept exactly, as the quotient of the two. -/
structure Slack where
  /-- The time ahead, or the spare capacity. -/
  num : Int
  /-- The frame period, or the whole capacity. -/
  den : Nat
  deriving DecidableEq, Repr

/-- A commit whose first frame the governor watches (R54). -/
structure RailWatch where
  /-- Its context. -/
  ctx : Nat
  /-- Number from which on the context's frames have the new configuration. -/
  first : Nat
  /-- Predicted voltage, 0.1 mV. -/
  predicted : Nat
  deriving DecidableEq, Repr

/-- What the governor keeps for one governed rail beside its entries. -/
structure Rail where
  /-- calm(r) of R53. -/
  calm : Nat
  /-- Consecutive windows in which no raise was wanted (R55). -/
  quiet : Nat
  /-- Minimum slack reported in the open window (R52). -/
  minSlack : Option Slack
  /-- Commits whose first frame has not ended, oldest first (R54). -/
  watches : List RailWatch
  deriving DecidableEq, Repr

structure Gov where
  railT : Rail
  railS : Rail
  /-- The current limit of R97 holds both rails. -/
  limited : Bool
  deriving DecidableEq, Repr

/-! ## Denval and the commit point (chapter 5) -/

/-- The scope of a unit (R135): a lone write or an IMMEDIATE group, or a latched scope. -/
inductive Scope where
  | single | immediate | context (x : Nat) | output (c : Nat) | lockGroup (l : Nat)
  deriving DecidableEq, Repr

/-- A unit of the commit point (R127): a write, a group, or a completed segmented write. -/
structure CommitUnit where
  slot : Nat
  path : Nat
  role : Role
  stamp : Nat
  counter : Nat
  session : Nat
  /-- Source address and port on UDP, and source node: where the response goes. -/
  source : Nat
  node : Nat
  tag : Nat
  gtag : Nat
  op : Nat
  scope : Scope
  target : Option Nat
  /-- Packed entry name (index × 256 + subindex) and value. -/
  members : List (Nat × Bytes)
  /-- In an array: the position whose dictionary is addressed, and the link it came over with its number there (R684). -/
  position : Option Nat
  origin : Option (Nat × Nat)
  /-- On SHADOW: the number under which PRIMARY forwarded it (R696). -/
  mirror : Option Nat := none
  deriving DecidableEq, Repr

/-- An open write group (R134). -/
structure Group where
  gtag : Nat
  tag : Nat
  scope : Scope
  target : Option Nat
  members : List (Nat × Bytes)
  /-- First refused member: status, entry, position (R136). -/
  failed : Option (Status × Nat × Nat)
  openedAt : Nat
  deriving DecidableEq, Repr

/-- A session, set up or being set up (R153 to R156). -/
structure Session where
  id : Nat
  established : Bool
  path : Nat
  /-- The source the session is bound to: node, address and port, as the path has them (R155). -/
  source : Nat
  /-- Node ID of the HELLO's sender. -/
  node : Nat
  role : Role
  credential : Nat
  /-- SHA-256 over the HELLO and HELLO_REPLY bodies (R153). -/
  transcript : Bytes
  /-- Keys of the two directions (R154). -/
  keyIn : Bytes
  keyOut : Bytes
  proofA : Option Bytes
  counterIn : Nat
  counterOut : Nat
  helloAt : Nat
  lastFrame : Nat
  idleTimeout : Nat
  /-- Uptimes of the last authentication failures (R155). -/
  authFails : List Nat
  group : Option Group
  /-- Event-log cursor (R754). -/
  cursor : Nat
  deriving DecidableEq, Repr

/-- An open segmented transfer (R144). -/
structure Transfer where
  path : Nat
  session : Nat
  source : Nat
  node : Nat
  tag : Nat
  write : Bool
  entry : Nat
  total : Nat
  data : Bytes
  /-- Next expected (write) or next unsent (read) segment. -/
  next : Nat
  /-- Read: segments acknowledged. Write: next + 1 once the gap at `next` has been told (R144 step 5). -/
  acked : Nat
  lastFrame : Nat
  deriving DecidableEq, Repr

structure Denval where
  /-- Units waiting for their commit instant, in arrival order. -/
  units : List CommitUnit
  /-- Committed units that wait for a latch point, in commit order (R137). -/
  latched : List CommitUnit
  sessions : List Session
  transfers : List Transfer
  /-- Cursors of session 0, one per source (R152). -/
  cursors0 : List (Nat × Nat)
  /-- Failed set-ups: source, uptime (R156). -/
  helloFails : List (Nat × Nat)
  /-- Locked-out sources and the uptime at which the lockout ends (R156). -/
  lockouts : List (Nat × Nat)
  nextSession : Nat
  heartbeatSeq : Nat
  timeSeq : Nat
  /-- Denval frames counted and discarded (R140). -/
  discarded : Nat
  /-- Frames queued on a CAN port in bus-off, oldest first, with the uptime (ns) of each, and how many were dropped: by port (R147). -/
  canQueued : List (Nat × List (Nat × Tx))
  canDropped : List (Nat × Nat)
  /-- Event frames dropped per path (R158). -/
  eventDrops : List (Nat × Nat)
  /-- The set of a STORE that is being saved, with the STORE's commit instant as T96 (R124, R160). -/
  saving : Option (Nat × List (Nat × Bytes))
  deriving DecidableEq, Repr

/-! ## Security (chapter 6) -/

/-- A manifest chain of one context (R186). -/
structure Chain where
  started : Bool
  sequence : Nat
  previous : Bytes
  /-- Cause carried by event 0x050A when the chain starts: 0 reset, 1 re-certification, 2 enable. -/
  cause : Nat
  deriving DecidableEq, Repr

structure Security where
  chains : List (Nat × Chain)
  /-- Attestation nonce waiting for its report (R192). -/
  nonce : Option Bytes
  /-- Inside the security engines alone (R165): the die key that KE3 derived at this boot, and the active and the pending private key in the clear. -/
  dieKey : Bytes := []
  key : Option Bytes := none
  pending : Option Bytes := none
  deriving DecidableEq, Repr

/-- The fuse array (R16, R167, R175 to R178). Nothing clears a fuse: every change is an `OtpOp`. -/
structure Otp where
  dieId : Nat
  /-- 0x2010:04: PQX-4800-M1. -/
  orderM1 : Bool
  revision : Nat
  /-- One fuse per life-cycle state 1 to 6; the state is the highest programmed one (log entry 12). -/
  stateFuses : List Nat
  /-- Fused changes of re-certification, 0 to 8 (R171). -/
  rekeys : Nat
  /-- Programmed epoch slots, oldest first (R177). -/
  epochs : List Nat
  /-- The customer root (R175). -/
  root : Option Bytes
  /-- The root's kill fuse (R168). -/
  rootErased : Bool
  /-- Fused calibration commits of slots SX0 to SX7; 0 where absent (R178). -/
  calibration : List (Nat × Nat)
  /-- SHA-256 of the Kilvan firmware key (R179). -/
  kilvanKeyHash : Bytes
  /-- The fuses that the die key is derived from; nothing but KE3 reads them (R165). -/
  dieSecret : Bytes
  deriving DecidableEq, Repr

/-- Programming of fuses. -/
inductive OtpOp where
  | programState (state : Nat)
  | fuseRekey
  | fuseEpoch (epoch : Nat)
  | fuseRoot (root : Bytes)
  | eraseRoot
  | fuseCalibration (slot : Nat)
  | fuseKilvan (hash : Bytes)
  deriving DecidableEq, Repr

/-- A calibration set (R380): what a fused commit makes live. -/
structure CalSet where
  /-- Fused commits of the slot when it was made (R178). -/
  epoch : Nat
  mode : Nat
  knots : Bytes
  defects : Bytes
  grids : List Bytes
  deriving DecidableEq, Repr

/-! ## Frames in flight (chapters 9, 10, 13) -/

/-- A parameter generation: the dictionary as it stood at a frame's latch point (R129, R290, R336). -/
structure Gen where
  dict : List (Nat × Nat)
  blobs : List (Nat × Bytes)
  /-- The parameter block after injection of the camera and output blocks (R387, R398). -/
  param : Bytes
  /-- The calibration set of the context's slot (R302, R381). -/
  cal : CalSet
  /-- Bit depth of a playback frame's lines, from its FRAME block (R507, R513). -/
  bits : Nat
  deriving DecidableEq, Repr

/-- A line descriptor of a frame (R257, R269): `source` is the line whose slot it points to. -/
structure Line where
  num : Nat
  group : Nat
  source : Nat
  data : Bytes
  /-- Every raw front-end pass that uses the line has read it (R272). -/
  readOut : Bool
  /-- The raw codec unit has read it, or the raw path is off (R272). -/
  coded : Bool
  deriving DecidableEq, Repr

/-- One ingest group's part in a frame (R260 to R264). -/
structure FrameGroup where
  group : Nat
  gidx : Nat
  started : Bool
  ended : Bool
  skewed : Bool
  last : Option Nat
  deriving DecidableEq, Repr

inductive StripeMode where
  | waiting | opened | statsOnly | dropped
  deriving DecidableEq, Repr

/-- A stripe of a frame (R406, R409, R425). -/
structure Stripe where
  k : Nat
  mode : StripeMode
  reduced : Bool
  rfe : Option Nat
  troupe : Option Nat
  /-- Column segments the raw front end has written. -/
  written : Nat
  /-- Segment buffers freed. -/
  freed : Nat
  /-- The raw front-end pass is complete. -/
  passed : Bool
  /-- The Troupe stage is complete. -/
  done : Bool
  openedAt : Nat
  deriving DecidableEq, Repr

/-- A frame from its latch point until its statistics, manifest and outputs are done with. -/
structure Frame where
  ctx : Nat
  num : Nat
  counter : Nat
  /-- T96 of the latch point. -/
  latch : Nat
  /-- Uptime (ns) of the latch point. -/
  since : Nat
  gen : Gen
  groups : List FrameGroup
  lines : List Line
  lost : Nat
  substituted : Nat
  /-- Frame marks, field map of 0x3008:05. -/
  marks : Nat
  /-- First line cut under R270. -/
  cut : Option Nat
  /-- Every Frame End accepted, or the frame timed out (R263). -/
  complete : Bool
  stripes : List Stripe
  /-- The frame's first token has been issued (R61). -/
  decided : Bool
  reduced : Bool
  seam : Option Nat
  abandoned : Bool
  /-- Cut in the raw front end (R291). -/
  cutRaw : Bool
  /-- A program fault was reported for the frame (R367). -/
  faulted : Bool
  /-- Stripes that carried statistics but no Troupe stage (R323). -/
  statsOnly : Bool
  /-- A FULL entry of the frame had a program fault (R368). -/
  fullFault : Bool := false
  /-- Black level in use per channel, once the first stripe has started, and what was measured (R299, R300). -/
  black : Option (List W32)
  measured : List W32
  exposure : Bytes
  statsIssued : Bool
  manifestIssued : Bool
  /-- The frame's colour record has been issued, or none is due (R402). -/
  recordIssued : Bool
  /-- The frame's manifest will carry CHAIN_START (R186). -/
  chainStart : Bool
  /-- Bytes of embedded lines kept (R276). -/
  embedded : Bytes
  /-- Band-edge raw lines received from an array neighbour: line number and data (R427). -/
  halo : List (Nat × Bytes)
  /-- A frame that came over Felley: the head's latch T96 and source context (R284, R717). -/
  upstream : Option (Nat × Nat)
  /-- Hash of the head's manifest, once it has arrived, and whether the manifest waits for it (R722). -/
  upHash : Bytes
  upWait : Bool
  /-- Lines with a CRC error (R184). -/
  crcErrors : Nat
  /-- The frame ran under an emptied context calibration (kept for its manifest): calibration epoch and slot. -/
  calEpoch : Nat
  /-- Slots used and groups run per binding and kind, for R366: binding × 2 + kind, slots, groups. -/
  cost : List (Nat × Nat × Nat)
  /-- Recorded streams of the frame and whether space was reserved (R542). -/
  reserved : List (Nat × Bool)
  /-- Frame Start payload as received (R256). -/
  start : Bytes
  /-- What the decoder or the expansion read for a playback frame (R182). -/
  source : Bytes
  /-- The decoded picture of a playback frame in H24, from the top (R494). -/
  picture : List (List Px)
  /-- Next line the raw codec codes, and whether its FRAME_END is written (R507). -/
  rawLine : Nat
  rawEnded : Bool
  /-- Coded streams of the frame: kind, instance, octets, digest (R185). -/
  coded : List (Nat × Nat × Nat × Bytes)
  /-- Voltages of VCORE_T and VCORE_S at the latch point, 0.1 mV (R69). -/
  rails : Nat × Nat
  deriving DecidableEq, Repr

/-- Exposure settings live at one latch point (R316). -/
structure Exposure where
  num : Nat
  params : List Nat
  changed : Bool
  late : Bool
  /-- Uptime (ns) at which its write list ended (R703). -/
  sentAt : Option Nat
  deriving DecidableEq, Repr

/-- What a context keeps between frames. -/
structure Ctx where
  /-- Sensor counter and frame number of the last latch point since cold reset (R265). -/
  last : Option (Nat × Nat)
  lastLatch : Nat
  lastAt : Nat
  /-- Clean frames toward RUN (R268). -/
  clean : Nat
  /-- RUN from the next latch point (R268). -/
  toRun : Bool
  expo : List Exposure
  /-- Settings of the first latch point since the context left DISABLED. -/
  firstExpo : Option Exposure
  /-- Frame number of that latch point. -/
  firstNum : Nat
  /-- Trigger edges (T96) not yet taken, oldest first (R318). -/
  triggers : List Nat
  /-- Accepted black levels per channel since the context was enabled (R300), FP32; -/
  black : List (Nat × W32)
  /-- Black level in use and measurement of the previous frame, by channel, for PREVIOUS (R299). -/
  prevBlack : Option (List (W32 × W32))
  /-- Mean line interval over the previous frame in 2^-32 ns (R421). -/
  lineTime : Nat
  firstLineAt : Nat
  lastLineAt : Nat
  linesSeen : Nat
  /-- Order of service among equal priorities (R412): a rising mark of the last opening. -/
  served : Nat
  /-- Consecutive frames with a program fault in FULL entries (R368). -/
  faults : Nat
  /-- The previous frame ran the reduced look (R61). -/
  prevReduced : Bool
  /-- The context has been shut out (R424). -/
  shutOut : Bool
  /-- Counter of a frame that was refused as early: the packets of that frame are discarded (R266). -/
  discarding : Option Nat
  /-- Exposure parameters 0 to 7 as they were last live (R279). -/
  params : List Nat := []
  /-- Waiting since: a ready stripe that has not opened (R409). -/
  waitingSince : Option Nat
  /-- Last colour state issued (R402). -/
  colour : Bytes
  /-- The next write list is sent as EVERY_FRAME (R702). -/
  fullList : Bool
  deriving DecidableEq, Repr

/-- An ingest group between frames. -/
structure IngestGroup where
  /-- Count that the markers of the present set carry, and the logical lanes that have shown theirs (R254). -/
  marker : Nat
  marked : List Nat := []
  /-- A Frame Start of this group that came before the latch point: its counter and T96 (R262). -/
  early : Option (Nat × Nat) := none
  /-- Its packets belong to a frame that was refused as early (R266). -/
  discarding : Bool := false
  /-- Lock was lost: nothing is accepted until the next Frame Start (R274). -/
  resync : Bool
  /-- All lanes are in QUIET (R275). -/
  quiet : Bool
  deriving DecidableEq, Repr

/-- One sensor write list on its way (R279, R280). -/
structure SensorList where
  ctx : Nat
  frame : Nat
  latch : Nat
  body : Bytes
  started : Bool
  /-- Uptime (ns) from which it is due: the latch point plus the send offset (R279, R280). -/
  due : Nat := 0
  deriving DecidableEq, Repr

/-- A sensor control port (R277 to R283). -/
structure SensorPort where
  lists : List SensorList
  host : Option Bytes
  hostOnWire : Bool
  /-- The mode that stays in force until the list or transaction on the wire ends, where another has been written (R285). -/
  mode : Option Nat := none
  deriving DecidableEq, Repr

/-- A segment buffer of a Troupe (R312, R408). Rows are keyed by window line plus 8. -/
structure SegBuf where
  ctx : Nat
  frame : Nat
  stripe : Nat
  seg : Nat
  rows : List (Nat × List Px)
  own : Bool
  top : Bool
  bottom : Bool
  dispatched : Bool
  /-- Groups dispatched and groups committed (R335). -/
  started : Nat
  finished : Nat
  /-- Groups to run again after an engine fence (R369): binding, column, line, lanes. -/
  again : List (Nat × Nat × Nat × Nat)
  deriving DecidableEq, Repr

/-- A Troupe (R330, R411). -/
structure Troupe where
  /-- Context, frame and stripe it holds. -/
  held : Option (Nat × Nat × Nat)
  bufs : List SegBuf
  /-- An idle token runs, of this length in ns (R57). -/
  idle : Option Nat
  /-- Admission count i (R57). -/
  admission : Nat
  /-- Times of the last 16 stripes, ns. -/
  times : List Nat
  /-- Uptime (ns) since which it has been free. -/
  freeSince : Nat
  /-- It passed its retest and enters the pool at the next latch point (R424). -/
  returning : Bool
  /-- Engines that passed their retest and return at the next frame boundary (R369). -/
  enginesReturning : List Nat
  /-- Engines whose retest failed: fenced until the next cold reset (R369). -/
  enginesFailed : List Nat
  /-- Engine served last by the LUT unit (R358). -/
  lutLast : Nat
  /-- T96 from which a frame must have latched to give it a stripe, after its return (R424). -/
  notBefore : Nat
  deriving DecidableEq, Repr

/-- A raw front end (R292, R294). -/
structure Rfe where
  /-- Generations in the parameter cache: context and frame number, newest last (R294). -/
  cache : List (Nat × Nat)
  returning : Bool
  failed : Bool
  /-- T96 from which a frame must have latched to give it a stripe, after its return (R314). -/
  notBefore : Nat := 0
  deriving DecidableEq, Repr

/-- A frame-store buffer of a binding (R26, R435): pixels keyed by line × 65536 + column, channels packed. -/
structure StoreBuf where
  frame : Nat
  complete : Bool
  /-- Uptime (ns) at which it became complete. -/
  doneAt : Nat
  px : List (Nat × Nat)
  /-- Positions of an array whose groups have all arrived (R686). -/
  parts : List Nat
  deriving DecidableEq, Repr

/-- The frame store of one binding of one context. -/
structure Store where
  ctx : Nat
  binding : Nat
  bufs : List StoreBuf
  /-- The frame being dropped because every buffer is held (R435). -/
  dropping : Option Nat
  deriving DecidableEq, Repr

/-! ## Colour engines (chapter 11) -/

/-- A loop of the loop stack: body start, word after the body, iterations left (R361). -/
structure Loop where
  first : Nat
  past : Nat
  left : Nat
  deriving DecidableEq, Repr

/-- The classes of R363. -/
inductive WaitClass where
  | load | pixel | lut | trans
  deriving DecidableEq, Repr

inductive LutKind where
  | one | three | threeOut
  deriving DecidableEq, Repr

/-- A LUT request (R357, R358). -/
structure LutReq where
  kind : LutKind
  /-- Destination register, or binding for LUT3.OUT. -/
  dst : Nat
  table : Nat
  lanes : W16
  /-- Coordinates, 16 lanes each. -/
  x : List W32
  y : List W32
  z : List W32
  accepted : Bool
  /-- The engine's slot at acceptance: the result is usable 20 slots later (R358). -/
  slot : Nat := 0
  deriving DecidableEq, Repr

/-- A held output write: binding, and per lane the packed pixel (R355, R356). -/
structure Held where
  binding : Nat
  lanes : W16
  px : List Nat
  deriving DecidableEq, Repr

/-- A group that has halted and waits for its LUT3.OUT deliveries or for the output path (R356). -/
structure Halted where
  ctx : Nat
  frame : Nat
  stripe : Nat
  seg : Nat
  reduced : Bool
  binding : Nat
  col : Nat
  line : Nat
  lanes : Nat
  slots : Nat
  outs : List Held
  reqs : List LutReq
  deriving DecidableEq, Repr

/-- A register that a result is still on its way to: class of register (0 V, 1 S, 2 P), number, slot at which it is usable,
class of R363. -/
structure Due where
  file : Nat
  reg : Nat
  slot : Nat
  cls : Option WaitClass
  deriving DecidableEq, Repr

/-- One colour engine CE(16t + k) (R330, R337). -/
structure Engine where
  busy : Bool
  ctx : Nat
  frame : Nat
  binding : Nat
  reduced : Bool
  stripe : Nat
  seg : Nat
  /-- Output column of lane 0, output line and valid lanes (R338). -/
  col : Nat
  line : Nat
  lanes : Nat
  /-- Word index of the next instruction, from the image's code base. -/
  pc : Nat
  s : List W32
  /-- Vector registers written by this group: register × 16 + lane (R338: unspecified before that). -/
  v : List (Nat × W32)
  /-- Predicates written by this group. -/
  p : List (Nat × W16)
  /-- Scratch words, by word number from byte 49,152; they outlive a group. -/
  scratch : List (Nat × W32)
  /-- Draw number of what unwritten registers and words hold. -/
  entrySeed : Nat
  calls : List Nat
  loops : List Loop
  /-- Issue slot of the next instruction, from 0 at dispatch. -/
  slot : Nat
  stalls : Nat
  due : List Due
  /-- First slot at which a transcendental may issue (R345). -/
  transFree : Nat
  outs : List Held
  writes : Nat
  reqs : List LutReq
  halted : List Halted
  /-- Context and frame of the previous group, for R341. -/
  copied : Option (Nat × Nat)
  /-- Slots that this group's parameter copy took (R341), and the blocks last copied into the parameter regions of local memory, by image slot. -/
  copy : Nat := 0
  params : List (Nat × Bytes) := []
  /-- LUT requests of groups that have ended, whose results nobody takes; they are accepted and delivered all the same (R358). -/
  spent : List LutReq := []
  /-- T96 from which a frame must have latched to give it a group, after its return (R369). -/
  notBefore : Nat
  deriving DecidableEq, Repr

/-- A resident image (R372): slot, placement, and whether every engine holds it. -/
structure Resident where
  slot : Nat
  codeBase : Nat
  constBase : Nat
  loaded : Bool
  /-- Uptime (ns) since which stripes wait for it (R374). -/
  since : Option Nat
  deriving DecidableEq, Repr

/-- A table-library entry's data (R388): the octets written so far. -/
structure LibTable where
  data : Bytes
  /-- Ranges of data octets written, as start and end. -/
  filled : List (Nat × Nat)
  /-- What a generated table was made from (R392). -/
  formula : Option Bytes
  deriving DecidableEq, Repr

/-- A table in the Troupes' table pages (R359): library entry, its hash and the pages it takes. -/
structure PageTable where
  entry : Nat
  hash : Bytes
  pages : Nat
  /-- Troupes in which it has its pages, and in which it is loaded. -/
  placed : List Nat
  loaded : List Nat
  /-- By Troupe: uptime (ns) since which stripes wait for it there (R359). -/
  since : List (Nat × Nat)
  deriving DecidableEq, Repr

/-! ## Garos and Felley links (chapters 23, 24) -/

/-- A CONTROL frame that awaits its acknowledgement (R680, R715). -/
structure CtlFrame where
  seq : Nat
  kind : Nat
  body : Bytes
  resends : Nat
  deriving DecidableEq, Repr

/-- One end of a link. Garos links are 0 to 3, the Felley link is 4. -/
structure Link where
  /-- Next CONTROL sequence to send, and frames awaiting acknowledgement, oldest first. -/
  next : Nat
  unacked : List CtlFrame
  /-- Next expected receive sequence per channel or stream. -/
  expect : List (Nat × Nat)
  /-- Uptime (ns) since which the link has been DOWN. -/
  downAt : Option Nat
  /-- Last local time markers: sequence, T96 at sending (R681, R723). -/
  sentMarker : Nat × Nat
  /-- Heartbeats: next sequence to send, next expected, consecutive misses (R698). -/
  hbOut : Nat
  hbIn : Nat
  misses : Nat
  /-- The partner announced Standby (R707). -/
  notice : Bool
  /-- PPS captures of a running Felley calibration, T96: the head's and the base's (R724). -/
  heads : List Nat
  bases : List Nat
  /-- Node ID that the partner's LINK_HELLO named (R721). -/
  node : Nat
  /-- The partner's receive direction has been declared DOWN: CONTROL frames wait (R715). -/
  peerDown : Bool
  /-- The partner's last heartbeat (R698), empty before one has come, and the uptime (ns) of its arrival. -/
  heard : Bytes
  heardAt : Nat
  /-- The link condition of R689 holds. -/
  cond : Bool
  deriving DecidableEq, Repr

/-! ## Lanes and mailboxes (chapters 8, 21) -/

/-- What the transmitter of a link lane sends (R237, R242): electrical idle; the same, held in QUIET; training blocks; its protocol's blocks; the
pattern of a PRBS quad. -/
inductive LaneTx where
  | idle | held | training | traffic | prbs
  deriving DecidableEq, Repr

/-- A lane's receiver beside its entries (R238 to R244). -/
structure Lane where
  /-- Bring-up step whose event is awaited (R240); 8 once its own steps are done, 0 while no bring-up runs. -/
  step : Nat
  /-- Stored map: byte 1 of its training blocks, and inverted polarity (R241). -/
  stored : Option (Nat × Bool)
  /-- A QUIET or DEEP request that waits for step 8 or FAILED (R244). -/
  later : Option Nat
  /-- Uptimes (ns) at which LOS was set and at which the lane stopped delivering. -/
  losAt : Option Nat
  downAt : Option Nat
  /-- The bring-up resumes from held equaliser values (R235). -/
  resume : Bool
  /-- Logical index that training blocks last reported, and the round of reports it belongs to (R239). -/
  heard : Option Nat := none
  round : Nat := 0
  /-- RX_TRAINED in the partner's training blocks (R236, R237). -/
  partner : Bool := false
  sends : LaneTx := .idle
  /-- Blocks handed to the protocol marked errored (R230). -/
  errored : Nat := 0
  /-- Bits slipped in the hunt for block lock, mod 66 (R230). -/
  slip : Nat := 0
  /-- Step 7 of R240 is to be run whatever map is stored: the lane comes up from DISABLED; and the lane leaves QUIET, on its kept alignment (R242). -/
  fresh : Bool := false
  quick : Bool := false
  /-- Sequence count of the next training block sent, as it stood at the uptime from which training blocks go out (R236). -/
  seq : Nat := 0
  seqAt : Option Nat := none
  /-- Sequence count of the last training block heard and its uptime, for the first alignment of an ingest group (R254). -/
  train : Option (Nat × Nat) := none
  /-- Register of the PRBS checker, once 31 bits have set it (R247). -/
  prbs : Option (BitVec 31) := none
  /-- Uncorrected codewords reported within the last second, with their uptimes (R250). -/
  fec : List (Nat × Nat) := []
  deriving DecidableEq, Repr

/-- A mailbox (R635): the message in its words, GO and its companions, the inbox it sends into, and SEQ. -/
structure Mailbox where
  msg : Bytes
  go : Bool
  wake : Bool
  accepted : Bool
  busy : Bool
  waking : Bool
  /-- ERR_CODE: 0 none, 1 DOMAIN_OFF, 2 DISABLED, 3 CANCELLED; ERROR is set where it is not 0. -/
  error : Nat
  inbox : List Bytes
  seq : Nat
  deriving DecidableEq, Repr

/-! ## Media queue and recording (chapter 17) -/

/-- A part of a buffered write, or of a read, on one drive: LBA, blocks, offset of its first octet in the command's data. -/
structure Piece where
  drive : Nat
  lba : Nat
  count : Nat
  off : Nat
  /-- Command identifier once it has been issued to the drive. -/
  cid : Option Nat
  deriving DecidableEq, Repr

/-- A WRITE in the write buffer (R534 to R541): octet address and data on the volume, and the parts not yet on media. -/
structure BufWrite where
  order : Nat
  queue : Nat
  tag : Nat
  epoch : Nat
  index : Bool
  ordered : Bool
  irq : Bool
  host : Bool
  addr : Nat
  data : Bytes
  /-- Accepted, but its data waits for host-share space since this uptime (R541). -/
  waiting : Option Nat
  /-- Its completion has been posted. -/
  done : Bool
  pieces : List Piece
  deriving DecidableEq, Repr

/-- A READ in progress. -/
structure MqRead where
  order : Nat
  queue : Nat
  tag : Nat
  epoch : Nat
  irq : Bool
  flags : Nat
  block : Nat
  count : Nat
  dest : Nat
  data : Bytes
  pieces : List Piece
  deriving DecidableEq, Repr

/-- A FLUSH in progress: drives whose NVMe Flush is outstanding, once issued. -/
structure MqFlush where
  order : Nat
  queue : Nat
  tag : Nat
  epoch : Nat
  irq : Bool
  flags : Nat
  issued : Bool
  pieces : List Piece
  deriving DecidableEq, Repr

/-- One queue MQq beside its entries (R530 to R545). -/
structure Mq where
  cqHead : Nat
  phase : Bool
  /-- Completions that wait for a slot: entry and interrupt. -/
  held : List (Bytes × Bool)
  /-- Slots with a completion that set INTERRUPT and is unread (R756). -/
  unread : List Nat
  /-- Unread error-log entries, oldest first. -/
  log : List Bytes
  /-- Ring bases and sizes in force. -/
  sqBase : Nat
  sqN : Nat
  cqBase : Nat
  cqN : Nat
  /-- Writes, and reads and flushes, that a running reset has abandoned. -/
  lostW : Nat
  lostR : Nat
  deriving DecidableEq, Repr

/-- A clip (R527). -/
structure Clip where
  slot : Nat
  id : Nat
  die : Nat
  /-- 1 OPEN, 2 CLOSED, 3 RECOVERED. -/
  state : Nat
  ctx : Nat
  flags : Nat
  start : Nat
  finish : Nat
  firstFrame : Nat
  lastFrame : Nat
  /-- Extents in order, by number. -/
  extents : List Nat
  committed : Nat
  reason : Nat
  /-- Streams: ID and payload octets committed. -/
  streams : List (Nat × Nat)
  deriving DecidableEq, Repr

/-- A recording (R555 to R559). -/
structure Recording where
  /-- Directory slot of the clip being written. -/
  slot : Option Nat
  /-- The clip key; none where the clip is in the clear (R188). -/
  key : Option Bytes
  /-- Extents of the clip, by number; the directory lists those of the last checkpoint. -/
  extents : List Nat
  /-- Next octet in the last extent, and the octets of the block it lies in. -/
  offset : Nat
  tail : Bytes
  /-- Streams: ID, payload octets placed, encrypted units. -/
  placed : List (Nat × Nat × Nat)
  /-- Reserved octets by frame and stream (R542). -/
  reserved : List (Nat × Nat × Nat)
  /-- Frames and streams that record no chunk because the reservation failed (R542). -/
  refused : List (Nat × Nat)
  /-- First frame that the clip leaves out: STOP was live at its latch point (R555). -/
  stopAt : Option Nat
  /-- Latest frame placed: number and latch T96. -/
  last : Nat × Nat
  /-- A new write of RUN is needed before the recorder tries again (R557). -/
  tried : Bool
  /-- The clip was opened for an extraction alone (R559). -/
  extractOnly : Bool
  deriving DecidableEq, Repr

/-- The volume (R523 to R526). -/
structure Volume where
  layout : Nat
  /-- Drive of each member, by member index. -/
  members : List Nat
  id : Nat
  gen : Nat
  cap : Nat
  created : Nat
  /-- Drives whose controller has not reported yet during an attachment; creating rather than attaching. -/
  awaiting : List Nat
  creating : Bool
  /-- Member headers read: drive, header. -/
  headers : List (Nat × Bytes)
  capacities : List (Nat × Nat)
  directory : List (Nat × Clip)
  /-- A rebuild: member index, uptime of its start. -/
  rebuild : Option (Nat × Nat)
  deriving DecidableEq, Repr

/-- The journal as last committed (R548). -/
structure Journal where
  volume : Nat
  gen : Nat
  at_ : Nat
  units : List Nat
  clips : List (Nat × Nat × Nat)
  rebuild : Option Nat
  deriving DecidableEq, Repr

/-- A write of the module to one member alone, in the write buffer until the drive has it (R29): its command as in `Tx.drive`. -/
structure DirectWrite where
  drive : Nat
  cid : Nat
  op : Nat
  lba : Nat
  count : Nat
  data : Bytes
  deriving DecidableEq, Repr

structure Media where
  /-- Next place in the module-wide order (R534). -/
  order : Nat
  nextCid : Nat
  writes : List BufWrite
  reads : List MqRead
  flushes : List MqFlush
  queues : List (Nat × Mq)
  volume : Volume
  recs : List (Nat × Recording)
  /-- Writes of the module to one member alone (R29). -/
  direct : List DirectWrite
  /-- Blocks being rewritten on a failing member, and blocks rewritten once: drive, block (R551, R552). -/
  repaired : List (Nat × Nat)
  deriving DecidableEq, Repr

/-! ## The pre-roll ring and compression (chapter 16) -/

/-- A frame in the ring (R517). -/
structure RingFrame where
  frame : Nat
  latch : Nat
  zc : Nat
  blocks : Bytes
  manifest : Bytes
  colour : Bytes
  pinned : Bool
  deriving DecidableEq, Repr

structure Ring where
  frames : List RingFrame
  /-- Event 0x0E03 was raised in this hold. -/
  told : Bool
  deriving DecidableEq, Repr

/-- A compression channel beside its entries (R505 to R516). -/
structure Zc where
  /-- Frame being coded, its blocks so far, lines coded, highest step. -/
  frame : Option Nat
  coded : Bytes
  lines : Nat
  highest : Nat
  /-- Blocks handed on to destinations that refused: the recording takes no more of the frame. -/
  noRecord : Bool
  /-- Held input of a CONTINUE job (R514), and the descriptor the channel reads next. -/
  tail : Bytes
  next : Nat
  /-- RAW_EXPAND: octets delivered and not read, frame being expanded, next line, next column. -/
  input : List Bytes
  expand : Option Nat
  line : Nat
  row : Bytes
  bad : Bool
  deriving DecidableEq, Repr

/-! ## Felley streams and the codec (chapters 15, 24) -/

/-- One Felley stream end (R716, R719, R720). -/
structure FelleyStream where
  /-- Direction, kind, source and binding in force since the last boundary. -/
  dir : Nat
  kind : Nat
  src : Nat
  binding : Nat
  /-- A sender has started at a boundary, and is not discarding to the next one. -/
  running : Bool
  /-- A message was discarded: the later messages of the frame are discarded too, up to the next boundary. -/
  dropping : Bool
  /-- Messages that wait: frame number and octets. -/
  queue : List (Nat × Bytes)
  seq : Nat
  /-- Messages served, for the weighted rotation. -/
  served : Nat
  /-- Receiver: the message that is coming in, and whether it is damaged. -/
  part : Bytes
  damaged : Bool
  /-- Receiver: the last FRAME_INFO (R717). -/
  info : Bytes
  deriving DecidableEq, Repr

/-- A picture slot of an encode stream context (R474, R476). -/
structure EncPic where
  frame : Nat
  latch : Nat
  gen : Gen
  /-- Uptime (ns) at which it became ready. -/
  readyAt : Option Nat
  /-- Cause of a fallback picture: 0 abandoned, 1 cut, 2 overtaken with the frame that overwrote it. -/
  gone : Option (Nat × Nat)
  deriving DecidableEq, Repr

/-- The picture on an encode core. -/
structure EncRun where
  core : Nat
  pic : EncPic
  startAt : Nat
  /-- 0 IDR, 1 CRA, 2 P, 3 B, 4 SKIP. -/
  type : Nat
  /-- Flags of the record header but for EMERGENCY, LATE and KEPT (R489). -/
  flags : Nat
  mark : Nat
  coded : Nat
  deriving DecidableEq, Repr

/-- An encode stream context (R466 to R491). -/
structure Enc where
  queue : List EncPic
  run : Option EncRun
  /-- Picture index of the next picture, and pictures since the last IRAP picture. -/
  index : Nat
  sinceIrap : Nat
  /-- An IRAP picture is wanted; the next picture starts a resumed stream. -/
  irap : Bool
  idr : Bool
  discont : Bool
  /-- A recovery request: the mark, or none for REFRESH; whether a Felley report asked (R487, R488). -/
  recovery : Option (Option Nat × Bool)
  /-- Frames held as marks 0 and 1, and frames named by KEEP requests: mark, frame. -/
  marks : List (Option Nat)
  keeps : List (Nat × Nat)
  /-- Settings of the last picture whose change asks for an IDR picture (R470). -/
  config : Bytes
  offset : Nat
  /-- Destinations that wait for an IRAP picture: RECORD, FELLEY (R491). -/
  refused : Nat
  latencies : List Nat
  /-- Uptime (ns) until which further loss reports are ignored (R488). -/
  deafUntil : Nat
  /-- Digest of every choice so far, on which the encoder's choices depend (R481). -/
  history : Bytes
  cpb : Nat
  /-- Frame last coded, and the fallback frame's number. -/
  last : Nat
  stopped : Bool
  deriving DecidableEq, Repr

/-- A decoded picture that waits for its due instant (R493): output index, coded octets, pixels, status bits of 0x4450:0B. -/
structure DecPic where
  out : Nat
  au : Bytes
  rows : List (List Px)
  status : Nat
  deriving DecidableEq, Repr

/-- The access unit on a decode core. -/
structure DecRun where
  core : Nat
  au : Bytes
  /-- Frame number latched at the start of decoding, in CHASE. -/
  frame : Option Nat
  index : Nat
  /-- Taint ends here: an IRAP picture or a recovery point. -/
  clean : Bool
  damaged : Bool
  startAt : Nat
  deriving DecidableEq, Repr

/-- The decoder of a playback context (R492 to R498). -/
structure Dec where
  /-- Units the playback feed or the Felley link has delivered and the decoder has not read. -/
  input : List Bytes
  run : Option DecRun
  /-- Decoded pictures that have not latched. -/
  ready : List DecPic
  /-- Output index of the next picture that falls due. -/
  due : Nat
  /-- Its due instant has passed. -/
  late : Bool
  /-- Planes Y′, Cb, Cr of the last decoded picture, for concealment. -/
  last : List (List (List Nat))
  /-- Picture index of the last record read. -/
  lastIndex : Option Nat
  /-- Taint runs on (R497), and event 0x0D08 was raised in this run. -/
  tainted : Bool
  told : Bool
  /-- RASL pictures are discarded up to the next IRAP picture. -/
  dropRasl : Bool
  /-- Newest mark known clean (R488). -/
  cleanMark : Option Nat
  /-- Manifests of the clip that a playback feed delivered: frame number and manifest (R319, R184). -/
  manifests : List (Nat × Bytes)
  deriving DecidableEq, Repr

/-! ## MRAM (R16): what survives every reset -/

/-- A rank migration as the journal lists it (R576): checked blocks, and the block's first comparison has failed. -/
structure Migration where
  source : Nat
  target : Nat
  logical : Nat
  cause : Nat
  checked : Nat
  recopied : Bool
  /-- Uptime (ns) of its start. -/
  since : Nat
  deriving DecidableEq, Repr

/-- What TCXO frequency the drift model has learned (R208): by 1 °C bin from -55 °C, the increment that followed the source and the T96 at which it was
learned, and the ageing rate. -/
structure Drift where
  bins : List (Nat × Nat × Nat)
  ageing : Int
  deriving DecidableEq, Repr

/-- The contents of the MRAM that no dictionary entry holds by itself. -/
structure Mram where
  /-- The migration journal: the map entry that has a source and a target (R576). -/
  mig : Option Migration
  /-- Ranks whose migration is queued, in the order of their causes: rank, cause (R574). -/
  rankQueue : List (Nat × Nat)
  /-- The training cache: band, die ID, package identities, training firmware version (R589). -/
  training : List (Nat × Nat × Bytes × Nat)
  /-- The event ring (R751): sequence and record, oldest first. -/
  ring : List (Nat × EventRecord)
  /-- Committed calibration sets by slot (R381). -/
  cal : List (Nat × CalSet)
  /-- The active device key's private half, and the pending one, encrypted under the die key (R165, R171). -/
  key : Option SealedKey
  pendingKey : Option SealedKey
  /-- A life-cycle transition whose keys are erased and whose fuse is not programmed yet (R168). -/
  transition : Option Nat
  /-- Revoked credential IDs, oldest first (R176). -/
  revoked : List Nat
  /-- Clip counter (R527) and the journal of the media queue (R548). -/
  clips : Nat
  journal : Option Journal
  /-- The last saved T96 (R198), and the drift model (R208); its LOCKED intervals are below, in T96. -/
  savedTime : Nat
  drift : Drift
  /-- Firmware banks 0 and 1, and the active one (R109). -/
  banks : List (Nat × Firmware)
  active : Nat
  /-- The parameter store: entries that it holds with a value other than their default, and the copy in force (R124). A save that a reset
  cut short leaves the other copy incomplete. -/
  store : List (Nat × Bytes)
  copy : Nat
  broken : Bool
  /-- A thermal trip holds the module: uptime (ns) of the trip, and the slot of its entry, 255 when not logged (R672, R673). -/
  tripped : Option (Nat × Nat)
  locked : List (Nat × Nat)
  deriving DecidableEq, Repr

/-! ## Scan-out (chapter 14) -/

/-- A scan-out channel beside its entries (R434 to R449). -/
structure Channel where
  /-- A raster runs (R440). -/
  running : Bool
  /-- A restart waits for the next origin of the new raster, with the cause of event 0x0C06 (R441). -/
  restart : Option Nat
  /-- Output frame index and T96 of the origin of the output frame in progress. -/
  index : Nat
  origin : Nat
  /-- Frame shown or chased, and fallback frame (R434). -/
  shown : Option Nat
  fallback : Option Nat
  /-- First line taken from the fallback frame; 0 for the whole frame (R438, R443, R444). -/
  switch : Option Nat
  /-- Frame due that event 0x0C02 names, and reason, until the output frame boundary. -/
  fell : Option (Nat × Nat)
  underran : Bool
  /-- The selection for this output frame has been made (R436). -/
  picked : Bool
  /-- Next line to fetch, and lines whose commit instant has passed (R442). -/
  nextFetch : Nat
  committed : Nat
  lastSig : Option W32
  lastShown : Option Nat
  /-- Equal signatures in a row, and whether the frame shown changed meanwhile (R449). -/
  frozen : Nat
  moved : Bool
  /-- Frames made due in DELAY mode (R437), newest last. -/
  due : List Nat
  /-- Selection of the last FRAME launch (R461): none before the first. -/
  host : Option Nat
  /-- Output frames for which the same frame has been shown (R457). -/
  same : Nat
  /-- Output frames in which the freeze alarm has lasted. -/
  frozenFor : Nat
  /-- The partner's report: output frame index, frame shown, signature (R451). -/
  twin : Option (Nat × Nat × Nat)
  deriving DecidableEq, Repr

/-- An SDI input's store: complete frames by count and stamp, at most three (R454). -/
structure SdiIn where
  frames : List (Nat × Nat × List (Nat × Nat))
  /-- Uptime (ns) at which the input left LOCKED, while its last frame is repeated. -/
  holdFrom : Option Nat
  /-- The hold time has ended: black is shown until the input is LOCKED again. -/
  expired : Bool
  deriving DecidableEq, Repr

/-- An eDP port (R455 to R457). -/
structure EdpPort where
  /-- ED_VDDEN, ED_BLEN and ED_PWM as driven. -/
  vdd : Bool
  blen : Bool
  pwm : Bool
  /-- The port waits for HPD or trains. -/
  waitHpd : Bool
  attempts : Nat
  /-- Trained: video waits for the channel's next origin. -/
  trained : Bool
  /-- The panel supports PSR (noted from the DPCD). -/
  psrOk : Bool
  fastTrain : Bool
  /-- The main link carries video. -/
  video : Bool
  /-- Uptime (ns) before which the port is not enabled again (T12). -/
  notBefore : Nat
  /-- Why self-refresh was entered: 0 idle, 1 shed, 2 force. -/
  psrCause : Option Nat
  /-- A power-up that T12 holds back. -/
  due : Bool := false
  deriving DecidableEq, Repr

/-! ## Time base, PTP, timing I/O, launch queue (chapter 7) -/

/-- A holdover that runs (R209). Times are uptimes in ns, temperatures 0.01 °C, errors ns. -/
structure Holdover where
  since : Nat
  temp : Int
  /-- Error accrued up to `at_`, and the temperature since then. -/
  err : Rat
  at_ : Nat
  now : Int
  /-- The drift model was trained at entry, and the increment follows TREF (R207). -/
  trained : Bool
  tref : Bool
  /-- Uptime (ns) up to which 0x2300:09 has counted it (R224). -/
  counted : Nat
  deriving DecidableEq, Repr

/-- What the discipline keeps beside its entries. Offsets are in 2^-32 ns, source time minus local time. -/
structure TimeBase where
  /-- STATE has been LOCKED at least once since power-on (R199). -/
  disciplined : Bool
  /-- Qualified sources, as codes of SOURCE. -/
  qualified : List Nat
  offset : Int
  /-- The frequency that the discipline works towards, as an increment: of the source followed, or in holdover what the drift model predicts; and the
  uptime up to which the increment has been carried to it. -/
  freq : Nat
  adjAt : Nat
  /-- The selected source's frequency has been acquired (R203 step 2). -/
  acquired : Bool
  /-- The running acquisition began in FREE_RUN (R204), and event 0x0607 was raised in it. -/
  fromFree : Bool
  withheld : Bool
  /-- Time of day that the next PPS edge has (R201). -/
  timeSet : Option Nat
  hold : Option Holdover
  /-- T96 at which the running LOCKED interval began (R208). -/
  lockedAt : Option Nat
  /-- Last offset sample of each source, its uptime, and samples in a row that missed the prediction (R207). -/
  samples : List (Nat × Int × Nat × Nat)
  /-- TRACEABLE and timeSource that a source brings (R213). -/
  origin : List (Nat × Bool × Nat)
  deriving DecidableEq, Repr

/-- A foreign master as a port knows it. -/
structure Foreign where
  /-- priority1, clockClass, clockAccuracy, offsetScaledLogVariance, priority2, grandmasterIdentity. -/
  rank : List Nat
  steps : Nat
  sender : Nat
  timeSource : Nat
  /-- Announce messages heard from it. -/
  heard : Nat
  deriving DecidableEq, Repr

/-- One PTP port (R211, R212); port 0 stands for MGE, 1 to 8 for LQ0 to LQ7. -/
structure PtpPort where
  /-- Foreign masters heard on the port. -/
  foreign : List Foreign
  /-- A two-step Sync that waits for its Follow_Up: sequence and receive time. -/
  sync : Option (Nat × Nat)
  /-- The last Sync pair: origin and receive time. -/
  pair : Option (Nat × Nat)
  /-- A Delay_Req that waits for its Delay_Resp: sequence and send time. -/
  delay : Option (Nat × Nat)
  seqs : List (Nat × Nat)
  deriving DecidableEq, Repr

/-- A timing ball (R217 to R219). -/
structure Tio where
  /-- Captures: T96 and falling. -/
  fifo : List (Nat × Bool)
  /-- T96 of the last edge placed since the last step. -/
  last : Option Nat
  /-- Level that a LEVEL entry set. -/
  level : Bool
  /-- T96 at which the pulse in progress ends (R222). -/
  pulse : Nat := 0
  deriving DecidableEq, Repr

/-- A launch-queue entry (R221). -/
structure Launch where
  time : Nat
  kind : Nat
  target : Nat
  policy : Nat
  flags : Nat
  window : Nat
  param : Nat
  period : Nat
  left : Nat
  id : Nat
  session : Nat
  /-- False for the reserved entries of DELAY mode (R437). -/
  host : Bool
  deriving DecidableEq, Repr

/-- STANDBY or DORMANT as the head of an array has put it to its members (R688). -/
structure PowerAsk where
  dormant : Bool
  /-- Links to the members that have not answered. -/
  links : List Nat
  /-- The write that waits for the outcome. -/
  unit : Option CommitUnit
  /-- No member refuses: all of them enter, and the write completes with the entry. -/
  entered : Bool
  deriving DecidableEq, Repr

/-- What a twin or array member keeps beside its entries (chapter 23). -/
structure Twin where
  /-- Uptime (ns) of the last edge on the partner HEARTBEAT input, and that 0.6 ms have gone by without one (R700). -/
  beat : Option Nat
  silent : Bool
  /-- Numbers of the last mirrored unit sent, and applied (R696, R698). -/
  sent : Nat
  applied : Nat
  /-- Units that SHADOW has not acknowledged: number, uptime sent, unit, and the status that its writer is to get (R696). -/
  waits : List (Nat × Nat × CommitUnit × Status)
  /-- T96 at which this module became PRIMARY (R701). -/
  since : Nat
  /-- The takeover instant is to come (R702): uptime of step 1. -/
  taking : Option Nat
  /-- A mirrored RWL write found this twin's own count spent (R696). -/
  exhausted : Bool
  /-- Resynchronisation: step reached, and cause (R705, event 0x140D). -/
  step : Nat
  cause : Nat
  /-- Latch points whose generation has not closed on SHADOW: context, frame (R697). -/
  open_ : List (Nat × Nat)
  /-- Units of an array on their way to another member, by number (R684). -/
  fronted : List (Nat × CommitUnit)
  nextFront : Nat
  /-- Bands of the array's members, as the head has ordered them: position × 2^24 + entry (R684, R690). -/
  bands : List (Nat × Nat)
  /-- Uptime (ns) of the module's own exit to Active, while notices are outstanding (R707). -/
  exitAt : Option Nat
  /-- Numbers that the contexts take from PRIMARY at their next latch points: context, sensor counter, frame (R705 step 4). -/
  adopt : List (Nat × Nat × Nat)
  /-- The power command under way in the array (R688). -/
  ask : Option PowerAsk
  deriving DecidableEq, Repr

/-! ## Position feedback (chapter 20) -/

/-- A position channel beside its entries (R616 to R632). -/
structure PosCh where
  /-- Filtered levels of A and B. -/
  a : Bool
  b : Bool
  /-- Uptime (ns) of the last active tooth edge, the interval before it, and whether the next interval goes untested (R621). -/
  lastEdge : Option Nat
  lastGap : Option Nat
  untested : Bool
  /-- SINCOS: whole cycles, last angle in 2^-32 cycles, what the counter holds beyond them, and runs of bad and good samples. -/
  cycle : Int
  phi : Option Nat
  base : Nat
  rebase : Bool
  bad : Nat
  good : Nat
  /-- Counts, newest first: uptime (ns) and position after the count (R630). -/
  hist : List (Nat × Nat)
  /-- Reference arm waits for an index; counts of travel since the last index; event 0x1203 was raised since (R626). -/
  armed : Bool
  travel : Nat
  told : Bool
  probes : List Bytes
  deriving DecidableEq, Repr

/-! ## Audio (chapter 19) -/

/-- A sample frame: T96 of its WS edge, left and right samples left-justified in 32 bits (R597, R601). -/
structure ASample where
  time : Nat
  left : Nat
  right : Nat
  deriving DecidableEq, Repr

/-- A receiving port beside its entries (R601, R607, R611). -/
structure AudioIn where
  /-- Uptime (ns) of the clock loss, while the clock is lost. -/
  lostAt : Option Nat
  /-- The next block holds the start of a clock loss. -/
  lostMark : Bool
  /-- Samples that wait for their chunk, and the latch point they count from: frame number and T96. -/
  wait : List ASample
  recFrom : Option (Nat × Nat)
  deriving DecidableEq, Repr

/-- A destination: a TX port, or one source port of an ST 2110-30 sender (R602 to R609). -/
structure AudioOut where
  buf : List ASample
  /-- Frame output last. -/
  prev : Nat × Nat
  /-- Zero frames of the underrun that runs. -/
  under : Option Nat
  /-- Sum of level error times frames, the loop's integrator times fs (R604). -/
  integ : Int
  /-- A time step is being followed: frames discarded or zeroed so far (R609). -/
  resync : Option Nat
  /-- Sample frames of tone sent. -/
  phase : Nat
  deriving DecidableEq, Repr

/-! ## DRAM (chapter 18) -/

/-- What the DRAM controller keeps beside its entries. -/
structure DramMem where
  /-- Poisoned lines, as usable address / 64 (R571). -/
  poison : List Nat
  /-- Per rank: uptime (ns) at which the 24 h window began, and the distinct lines in it (R569). -/
  seen : List (Nat × Nat × List Nat)
  /-- Rank whose margins are being scanned (R592). -/
  scan : Option Nat
  /-- Zero initialisation runs (R583). -/
  initialising : Bool
  /-- Temperature at which a package's eyes were last centred, 0.01 °C (R591). -/
  centred : List (Nat × Int)
  deriving DecidableEq, Repr

/-! ## Power states (chapter 21) -/

/-- A domain's entry to Retain or Off (R646): the state it goes to (2 RETAIN, 3 OFF), uptime (ns) of its controller's WAIT, and whether a wake
has reached it in step 6, so that its exit follows at once (R647). -/
structure DomEntry where
  target : Nat
  since : Nat
  wake : Bool
  deriving DecidableEq, Repr

/-- A domain's exit to Run (R648): uptime of the wake, and state it leaves (2 RETAIN, 3 OFF); where an entry unwinds nothing was lost: 0, or 1 once its
outputs had been isolated. -/
structure DomExit where
  since : Nat
  from_ : Nat
  deriving DecidableEq, Repr

/-- The wake that ended Standby or Dormant or cut an entry: source of R657, port or ball, uptime. -/
structure WakeCause where
  source : Nat
  port : Nat
  at_ : Nat
  deriving DecidableEq, Repr

structure Power where
  /-- Step of R653 under way, 2 to 6; 0 while no entry to Standby runs. -/
  step : Nat
  /-- Uptimes of the command and of step 5. -/
  since : Nat
  stepAt : Nat
  /-- DORMANT was written. -/
  dormant : Bool
  entries : List (Nat × DomEntry)
  exits : List (Nat × DomExit)
  wake : Option WakeCause
  /-- State of 0x2700:01 that the running exit leaves. -/
  from_ : Nat
  /-- A wake request of R673 that waits for the temperatures. -/
  asked : Option WakeCause
  /-- Messages that the Denval firmware still has to put into MB1 (R149); an EVENT frame has the uptime (ns) after which it is dropped (R158). -/
  mbOut : List (Option Nat × Bytes)
  deriving DecidableEq, Repr

/-! ## Thermal management (chapter 22) -/

/-- Runs of samples of one sensor (R664, R665, R671): that disagree, that agree while excluded, and at or above the trip level. -/
structure SensorRun where
  bad : Nat
  good : Nat
  hot : Nat
  deriving DecidableEq, Repr

/-- A loop of R668: its request and the milliseconds since its last raise and its last change. -/
structure ThermalLoop where
  k : Nat
  raised : Nat
  changed : Nat
  deriving DecidableEq, Repr

structure Thermal where
  /-- By sensor: 0 to 63 TS, 64 to 72 TSM, 73 TSP. -/
  runs : List (Nat × SensorRun)
  core : ThermalLoop
  dram : ThermalLoop
  psu : ThermalLoop
  /-- Milliseconds since the power-stage request last fell for want of a reading (R665). -/
  psuAge : Nat
  /-- Uptime (ns) at which k_th rose above 0. -/
  since : Nat
  /-- Last TSP sample (R664). -/
  tsp : Option Int
  /-- Input current is limited to 24 A (R665, R667). -/
  limit24 : Bool
  deriving DecidableEq, Repr

/-! ## The machine -/

/-- Everything but the queue and the fuses. -/
structure Sys where
  /-- Numbers of the object dictionary that differ from their defaults, by packed entry name (R8, R123). -/
  dict : List (Nat × Nat)
  /-- Octet strings of the object dictionary that differ from their defaults. -/
  blobs : List (Nat × Bytes)
  /-- T96 in units of 2^-32 ns (R7). -/
  t96 : Nat
  /-- Nanoseconds of the time-base tick; never set, for intervals. -/
  up : Nat
  /-- Draw counter of the free values; the model's own field (log entry 1). -/
  seed : Nat
  tx : List Tx
  log : EventLog
  boot : Boot
  sup : Supply
  gov : Gov
  den : Denval
  sec : Security
  mram : Mram
  /-- Frames from latch point to retirement, oldest first. -/
  frames : List Frame
  ctxs : List (Nat × Ctx)
  igs : List (Nat × IngestGroup)
  ports : List (Nat × SensorPort)
  troupes : List (Nat × Troupe)
  rfes : List (Nat × Rfe)
  stores : List Store
  /-- Frame-store buffers that encoders and links hold (R27): consumer, context, binding, frame. -/
  holds : List (Nat × Nat × Nat × Nat)
  engines : List (Nat × Engine)
  resident : List Resident
  tables : List (Nat × LibTable)
  pages : List PageTable
  channels : List (Nat × Channel)
  sdis : List (Nat × SdiIn)
  edps : List (Nat × EdpPort)
  /-- Stream paths that are down: stream (8 and up for audio senders), path (R459). -/
  pathsDown : List (Nat × Nat)
  links : List (Nat × Link)
  lanes : List (Nat × Lane)
  mailboxes : List (Nat × Mailbox)
  power : Power
  /-- The usable DRAM as the host, jobs and the media queue see it (R566); 0 where nothing has been written (R583). -/
  dram : List (Nat × Byte)
  mem : DramMem
  media : Media
  rings : List (Nat × Ring)
  zcs : List (Nat × Zc)
  positions : List (Nat × PosCh)
  time : TimeBase
  ptp : List (Nat × PtpPort)
  tios : List (Nat × Tio)
  twin : Twin
  thermal : Thermal
  /-- The launch queue in launch-time order (R220). -/
  launches : List Launch
  audioIn : List (Nat × AudioIn)
  /-- TX port n under n; source port p of audio sender a under 64 + 48a + p. -/
  audioOut : List (Nat × AudioOut)
  felley : List (Nat × FelleyStream)
  encs : List (Nat × Enc)
  decs : List (Nat × Dec)
  /-- Stream context last served by each codec core (R468). -/
  cores : List (Nat × Nat)
  /-- Rising mark of stripe openings (R412). -/
  turn : Nat
  deriving DecidableEq, Repr

/-- The machine. -/
structure State where
  /-- Commands that wait, first in first out. -/
  pending : List Instr
  otp : Otp
  sys : Sys
  deriving DecidableEq, Repr

/-- The model's faults. None is raised: no command of the table runs into an access the manual calls non-existent without
naming what the module answers. -/
inductive Fault where
  /-- Raised by nothing: Lean wants one constructor. Safe, since no command stops in it. -/
  | none
  deriving DecidableEq, Repr

/-- The model's refusals. -/
inductive Refusal where
  /-- The command has no meaning yet. No arm of exec answers so; safe, since it stops. -/
  | notModelled (mnemonic : String)
  deriving DecidableEq, Repr

/-! ## Reset -/

/-- A volume that is not attached, and the media engine with nothing under way. -/
def volume0 : Volume :=
  { layout := 0, members := [], id := 0, gen := 0, cap := 0, created := 0, awaiting := [], creating := false, headers := [],
    capacities := [], directory := [], rebuild := none }
def media0 : Media :=
  { order := 0, nextCid := 0, writes := [], reads := [], flushes := [], queues := [], volume := volume0, recs := [], direct := [], repaired := [] }

/-- The die key that KE3 derives from its fuses (R165). -/
def dieKeyOf (secret : Bytes) : Bytes := (Config.dieKey secret ++ List.replicate 32 0).take 32

/-- The firmware of a delivered module: 32 octets of 0 as its code, epoch 0, signed by the private key of 32 octets of 1, which stands for Kilvan's
(log entry 3). -/
def deliveredFirmware : Firmware :=
  { epoch := 0, code := List.replicate 32 0
    key :=
  [0x8a, 0x88, 0xe3, 0xdd, 0x74, 0x09, 0xf1, 0x95, 0xfd, 0x52, 0xdb, 0x2d, 0x3c, 0xba, 0x5d, 0x72,
   0xca, 0x67, 0x09, 0xbf, 0x1d, 0x94, 0x12, 0x1b, 0xf3, 0x74, 0x88, 0x01, 0xb4, 0x0f, 0x6f, 0x5c]
    signature :=
  [0x29, 0x2e, 0xb6, 0x33, 0x8f, 0x1d, 0xef, 0x1a, 0x9a, 0xa7, 0xb0, 0x7d, 0x62, 0x3d, 0x2f, 0x45,
   0xc2, 0x4a, 0xf2, 0x1b, 0xa1, 0xdf, 0x02, 0x5b, 0x79, 0xdd, 0x7a, 0x44, 0x0b, 0x15, 0x5c, 0x26,
   0x22, 0x38, 0x34, 0xc5, 0x94, 0x4f, 0xaf, 0xcc, 0x47, 0x61, 0xa4, 0xf9, 0x7b, 0x02, 0x6e, 0x4e,
   0x2f, 0x26, 0x1c, 0xfd, 0xaf, 0x5b, 0xef, 0x99, 0x16, 0x66, 0x69, 0xfd, 0x09, 0x02, 0x43, 0x07] }

/-- SHA-256 of its octets, and of the key that signs it. -/
def deliveredFwHash : Bytes :=
  [0x7f, 0x9c, 0x9e, 0x31, 0xac, 0x82, 0x56, 0xca, 0x2f, 0x25, 0x85, 0x83, 0xdf, 0x26, 0x2d, 0xbc,
   0x7d, 0x6f, 0x68, 0xf2, 0xa0, 0x30, 0x43, 0xd5, 0xc9, 0x9a, 0x4a, 0xe5, 0xa7, 0x39, 0x6c, 0xe9]
def deliveredKilvanHash : Bytes :=
  [0x34, 0x75, 0x0f, 0x98, 0xbd, 0x59, 0xfc, 0xfc, 0x94, 0x6d, 0xa4, 0x5a, 0xaa, 0xbe, 0x93, 0x3b,
   0xe1, 0x54, 0xa4, 0xb5, 0x09, 0x4e, 0x1c, 0x4a, 0xbf, 0x42, 0x86, 0x65, 0x05, 0xf3, 0xc9, 0x7e]

/-- The MRAM at delivery: no events, no clips, no calibration, the same firmware in both banks. The device's private key is 32 octets of 0, sealed
with a nonce of 0 under the die key (log entry 3). -/
def Mram.blank : Mram :=
  { mig := none, rankQueue := [], training := [], ring := [], cal := []
    key := some (sealKey (dieKeyOf (List.replicate 32 0)) (List.replicate 12 0) (List.replicate 32 0)), pendingKey := none, transition := none
    revoked := [], clips := 0, journal := none, savedTime := 0, drift := { bins := [], ageing := 0 }
    banks := [(0, deliveredFirmware), (1, deliveredFirmware)], active := 0, store := [], copy := 0, broken := false, tripped := none, locked := [] }

/-- Everything but the queue and the fuses, with nothing under way: every entry at its default. -/
def Sys.blank : Sys :=
  let rail : Rail := { calm := 0, quiet := 0, minSlack := none, watches := [] }
  let loop : ThermalLoop := { k := 0, raised := 1000, changed := 1000 }
  { dict := [], blobs := [], t96 := 0, up := 0, seed := 0, tx := []
    log := { pending := [], dropped := 0, limited := [] }
    boot := { phase := .off, bank := 0, fwHash := List.replicate 32 0, fwEpoch := 0, cause := 0, startAt := 0, strapFault := false, degraded := false,
              heartbeat := false, pwrGood := false, intLow := false, epLink := false, masked := [], mbPending := false, mqPending := false,
              resetNLow := false, resetFell := 0, domainResets := [], coreSilent := [], imageTimeout := false, test := none, due := none }
    sup := { kCap := 0, capAge := 0, capTold := false, warnAt := 0, warnMinVin := 0, warnLost := 0, ovMax := 0, ovMs := 0, inputOpen := false,
             holdUp := false, aon := false, shed := [], kPwr := 0, pwrRaiseAge := 0, pwrChangeAge := 0 }
    gov := { railT := rail, railS := rail, limited := false }
    den := { units := [], latched := [], sessions := [], transfers := [], cursors0 := [], helloFails := [], lockouts := [], nextSession := 1,
             heartbeatSeq := 0, timeSeq := 0, discarded := 0, canQueued := [], canDropped := [], eventDrops := [], saving := none }
    sec := { chains := [], nonce := none }
    mram := Mram.blank
    frames := [], ctxs := [], igs := [], ports := [], troupes := [], rfes := [], stores := [], holds := [], engines := [], resident := [], tables := [],
    pages := [], channels := [], sdis := [], edps := [], pathsDown := [], links := [], lanes := [], mailboxes := []
    power := { step := 0, since := 0, stepAt := 0, dormant := false, entries := [], exits := [], wake := none, from_ := 0, asked := none, mbOut := [] }
    dram := [], mem := { poison := [], seen := [], scan := none, initialising := false, centred := [] }
    media := media0, rings := [], zcs := [], positions := []
    time := { disciplined := false, qualified := [], offset := 0, freq := 8589934592, adjAt := 0, acquired := false, fromFree := false, withheld := false, timeSet := none,
              hold := none, lockedAt := none, samples := [], origin := [] }
    ptp := [], tios := []
    twin := { beat := none, silent := false, sent := 0, applied := 0, waits := [], since := 0, taking := none, exhausted := false, step := 0,
              cause := 0, open_ := [], fronted := [], nextFront := 0, bands := [], exitAt := none, adopt := [], ask := none }
    thermal := { runs := [], core := loop, dram := loop, psu := loop, psuAge := 0, since := 0, tsp := none, limit24 := false }
    launches := [], audioIn := [], audioOut := [], felley := [], encs := [], decs := [], cores := [], turn := 0 }

/-- The public half of the device key of `Mram.blank`. -/
def deliveredKey : Bytes :=
  [0x3b, 0x6a, 0x27, 0xbc, 0xce, 0xb6, 0xa4, 0x2d, 0x62, 0xa3, 0xa8, 0xd0, 0x2a, 0x6f, 0x0d, 0x73,
   0x65, 0x32, 0x15, 0x77, 0x1d, 0xe2, 0x43, 0xa6, 0x3a, 0xc0, 0x48, 0xa1, 0x8b, 0x59, 0xda, 0x29]

/-- The fuses of a PQX-4800-M0 as delivered: states FACTORY_TEST and DELIVERED (R167; log entry 12). -/
def Otp.delivered : Otp :=
  { dieId := 0, orderM1 := false, revision := 0, stateFuses := [1, 2], rekeys := 0, epochs := [], root := none, rootErased := false, calibration := [],
    kilvanKeyHash := deliveredKilvanHash, dieSecret := List.replicate 32 0 }

/-- Domains of the eight quads, whose function is OFF, are Off (R645), and the PTP ports are DISABLED; every other entry is at its default. -/
def resetDict : List (Nat × Nat) := (List.range 8).map fun q => ((0x2720 + 27 + q) * 256 + 1, 3)
/-- The Kilvan certificate of the delivered key (R170): die ID 0, key serial 0, issued at 0; Kilvan's signature is as issued (log entry 3). -/
def deliveredCertificate : Bytes :=
  let body := [0x4B, 0x44, 0x43, 0x31] ++ List.replicate 28 0 ++ deliveredKey
  body ++ (Config.kilvanSignature body ++ List.replicate 64 0).take 64
def resetBlobs : List (Nat × Bytes) :=
  [(0x1000 * 256 + 2, deliveredCertificate), (0x1000 * 256 + 4, deliveredKey), (0x2303 * 256 + 7, List.replicate 9 3)]

/-- A delivered module whose power-up (R108) has just ended: straps 0, no fault, nothing stored and nothing under way (log entry 11). The queue is
empty. -/
def State.reset : State :=
  { pending := [], otp := Otp.delivered
    sys := { Sys.blank with
      dict := resetDict, blobs := resetBlobs
      boot := { Sys.blank.boot with phase := .running, heartbeat := true, pwrGood := true, fwHash := deliveredFwHash }
      sec := { Sys.blank.sec with dieKey := dieKeyOf (List.replicate 32 0), key := some (List.replicate 32 0) }
      sup := { Sys.blank.sup with aon := true } } }


end Sys2Proof.Machine
end

