-- ==== Sys2Proof/Machine/DictFrame.lean ====
section
/-!
DEFINITION. Sys2Proof/Machine/DictFrame.lean: rows of the object dictionary, copied from the tables of the manual: ingest, raw pipeline, colour engines, colour science and scheduling (R285, R330, R375, R403, R429).
Each row: first index, number of instances (one index each), first and last subindex, type, access, minimum role, default
(a number, or octets), the values a write may take (empty: every value of the type), the reserved bits of a BITS entry, and
whether the parameter store holds it (R124). A default the tables leave open ("—") is 0 or empty (DESIGN CHOICE, log entry 3).
-/

namespace Sys2Proof.Machine

/-- Dictionary rows of indices 0x30XX, part 1. -/
def dict30a : List EntryDef := [
  ⟨0x3000, 8, 0x00, 0x00, .u8, .ro, .observer, 27, [], [], 0x00, false⟩,  -- Highest subindex
  ⟨0x3000, 8, 0x01, 0x01, .enum, .rw, .integrator, 0, [], [(0, 2)], 0x00, true⟩,  -- Mode
  ⟨0x3000, 8, 0x02, 0x02, .enum, .rwc, .integrator, 0, [], [(0, 1)], 0x00, true⟩,  -- Source
  ⟨0x3000, 8, 0x03, 0x03, .bits 1, .rwc, .integrator, 0, [], [], 0x00, true⟩,  -- Ingest groups
  ⟨0x3000, 8, 0x04, 0x04, .u8, .rwc, .integrator, 0, [], [(0, 15)], 0x00, true⟩,  -- Stream
  ⟨0x3000, 8, 0x05, 0x05, .u16, .rwc, .integrator, 4096, [], [(16, 32768)], 0x00, true⟩,  -- Width
  ⟨0x3000, 8, 0x06, 0x06, .u16, .rwc, .integrator, 2160, [], [(16, 24576)], 0x00, true⟩,  -- Height
  ⟨0x3000, 8, 0x07, 0x07, .u8, .rwc, .integrator, 12, [], [(10, 10), (12, 12), (14, 14), (16, 16)], 0x00, true⟩,  -- Bit depth
  ⟨0x3000, 8, 0x08, 0x08, .u32, .rwc, .integrator, 0x027BC86B, [], [(800000, 1000000000)], 0x00, true⟩,  -- Frame period
  ⟨0x3000, 8, 0x09, 0x09, .u8, .rwc, .integrator, 0, [], [(0, 8)], 0x00, true⟩,  -- Embedded before
  ⟨0x3000, 8, 0x0A, 0x0A, .u8, .rwc, .integrator, 0, [], [(0, 8)], 0x00, true⟩,  -- Embedded after
  ⟨0x3000, 8, 0x0B, 0x0B, .u16, .rwc, .integrator, 20, [], [(1, 1000)], 0x00, true⟩,  -- Group skew limit
  ⟨0x3000, 8, 0x0C, 0x0C, .u8, .rw, .integrator, 2, [], [(1, 16)], 0x00, true⟩,  -- Start-up frames
  ⟨0x3000, 8, 0x0D, 0x0D, .u16, .rwc, .integrator, 150, [], [(110, 400)], 0x00, true⟩,  -- Frame timeout
  ⟨0x3000, 8, 0x0E, 0x0E, .u8, .rwc, .integrator, 0, [], [(0, 1)], 0x00, true⟩,  -- Blanking quiet
  ⟨0x3000, 8, 0x0F, 0x0F, .u16, .rwc, .integrator, 20, [], [(5, 1000)], 0x00, true⟩,  -- Wake lead
  ⟨0x3000, 8, 0x10, 0x10, .u32, .rwc, .integrator, 0, [], [], 0x00, true⟩,  -- Exposure send offset
  ⟨0x3000, 8, 0x11, 0x11, .u32, .rwc, .integrator, 100, [], [], 0x00, true⟩,  -- Exposure send guard
  ⟨0x3000, 8, 0x12, 0x12, .enum, .rwc, .integrator, 0, [], [(0, 1)], 0x00, true⟩,  -- Exposure send mode
  ⟨0x3000, 8, 0x13, 0x1A, .u32, .rwc, .operator, 0, [], [], 0x00, true⟩,  -- Exposure parameter 0–7
  ⟨0x3000, 8, 0x1B, 0x1B, .blob [(0, 512)], .rwc, .integrator, 0, [], [], 0x00, true⟩,  -- Write template
  ⟨0x3008, 8, 0x00, 0x00, .u8, .ro, .observer, 11, [], [], 0x00, false⟩,  -- Highest subindex
  ⟨0x3008, 8, 0x01, 0x01, .enum, .ro, .observer, 0, [], [], 0x00, false⟩,  -- State
  ⟨0x3008, 8, 0x02, 0x02, .u32, .ro, .observer, 0, [], [], 0x00, false⟩,  -- Last frame number
  ⟨0x3008, 8, 0x03, 0x03, .u16, .ro, .observer, 0, [], [], 0x00, false⟩,  -- Last sensor counter
  ⟨0x3008, 8, 0x04, 0x04, .t96, .ro, .observer, 0, [], [], 0x00, false⟩,  -- Last latch point
  ⟨0x3008, 8, 0x05, 0x05, .bits 2, .ro, .observer, 0, [], [], 0x00, false⟩,  -- Last frame marks
  ⟨0x3008, 8, 0x06, 0x06, .blob [(0, 1024)], .ro, .observer, 0, [], [], 0x00, false⟩,  -- Embedded data
  ⟨0x3008, 8, 0x07, 0x07, .u64, .ro, .observer, 0, [], [], 0x00, false⟩,  -- Sensor time
  ⟨0x3008, 8, 0x08, 0x08, .blob [(16, 16)], .ro, .observer, 0, (List.replicate 16 0), [], 0x00, false⟩,  -- Sensor bytes
  ⟨0x3008, 8, 0x09, 0x09, .u16, .ro, .observer, 0, [], [], 0x00, false⟩,  -- Buffer occupancy
  ⟨0x3008, 8, 0x0A, 0x0A, .u16, .ro, .observer, 0, [], [], 0x00, false⟩,  -- Peak occupancy
  ⟨0x3008, 8, 0x0B, 0x0B, .t96, .ro, .observer, 0, [], [], 0x00, false⟩,  -- Upstream latch time
  ⟨0x3010, 8, 0x00, 0x00, .u8, .ro, .observer, 12, [], [], 0x00, false⟩,  -- Highest subindex
  ⟨0x3010, 8, 0x01, 0x01, .u64, .ro, .observer, 0, [], [], 0x00, false⟩,  -- Frames latched
  ⟨0x3010, 8, 0x02, 0x02, .u32, .ro, .observer, 0, [], [], 0x00, false⟩,  -- Frames marked
  ⟨0x3010, 8, 0x03, 0x03, .u32, .ro, .observer, 0, [], [], 0x00, false⟩,  -- CRC error lines
  ⟨0x3010, 8, 0x04, 0x04, .u64, .ro, .observer, 0, [], [], 0x00, false⟩,  -- Substituted lines
  ⟨0x3010, 8, 0x05, 0x05, .u64, .ro, .observer, 0, [], [], 0x00, false⟩,  -- Overflow lines
  ⟨0x3010, 8, 0x06, 0x06, .u32, .ro, .observer, 0, [], [], 0x00, false⟩]  -- Truncated frames

/-- Dictionary rows of indices 0x30XX, part 2. -/
def dict30b : List EntryDef := [
  ⟨0x3010, 8, 0x07, 0x07, .u32, .ro, .observer, 0, [], [], 0x00, false⟩,  -- Early frames
  ⟨0x3010, 8, 0x08, 0x08, .u32, .ro, .observer, 0, [], [], 0x00, false⟩,  -- Late frames
  ⟨0x3010, 8, 0x09, 0x09, .u32, .ro, .observer, 0, [], [], 0x00, false⟩,  -- Skipped frames
  ⟨0x3010, 8, 0x0A, 0x0A, .u32, .ro, .observer, 0, [], [], 0x00, false⟩,  -- Counter breaks
  ⟨0x3010, 8, 0x0B, 0x0B, .u32, .ro, .observer, 0, [], [], 0x00, false⟩,  -- Stray packets
  ⟨0x3010, 8, 0x0C, 0x0C, .u32, .ro, .observer, 0, [], [], 0x00, false⟩,  -- Exposure overruns
  ⟨0x3018, 8, 0x00, 0x00, .u8, .ro, .observer, 8, [], [], 0x00, false⟩,  -- Highest subindex
  ⟨0x3018, 8, 0x01, 0x01, .u8, .ro, .observer, 255, [], [], 0x00, false⟩,  -- Owner
  ⟨0x3018, 8, 0x02, 0x02, .u8, .ro, .observer, 255, [], [], 0x00, false⟩,  -- GIDX
  ⟨0x3018, 8, 0x03, 0x03, .enum, .ro, .observer, 0, [], [], 0x00, false⟩,  -- Deskew state
  ⟨0x3018, 8, 0x04, 0x04, .u8, .ro, .observer, 0, [], [], 0x00, false⟩,  -- Peak skew
  ⟨0x3018, 8, 0x05, 0x05, .blob [(24, 24)], .ro, .observer, 0, (List.replicate 24 0), [], 0x00, false⟩,  -- Lane CRC errors
  ⟨0x3018, 8, 0x06, 0x06, .u64, .ro, .observer, 0, [], [], 0x00, false⟩,  -- Lines received
  ⟨0x3018, 8, 0x07, 0x07, .u16, .ro, .observer, 0, [], [], 0x00, false⟩,  -- Buffer occupancy
  ⟨0x3018, 8, 0x08, 0x08, .u32, .ro, .observer, 0, [], [], 0x00, false⟩,  -- Malformed blocks
  ⟨0x3028, 8, 0x00, 0x00, .u8, .ro, .observer, 9, [], [], 0x00, false⟩,  -- Highest subindex
  ⟨0x3028, 8, 0x01, 0x01, .enum, .rw, .integrator, 0, [], [(0, 2)], 0x00, true⟩,  -- Mode
  ⟨0x3028, 8, 0x02, 0x02, .u32, .rw, .integrator, 10000, [], [(1000, 50000)], 0x00, true⟩,  -- SPI clock
  ⟨0x3028, 8, 0x03, 0x03, .u8, .rw, .integrator, 0, [], [(0, 3)], 0x00, true⟩,  -- SPI mode
  ⟨0x3028, 8, 0x04, 0x04, .enum, .rw, .integrator, 1, [], [(0, 2)], 0x00, true⟩,  -- I²C rate
  ⟨0x3028, 8, 0x05, 0x05, .u16, .rw, .integrator, 10, [], [(1, 100)], 0x00, true⟩,  -- Stretch timeout
  ⟨0x3028, 8, 0x06, 0x06, .blob [(6, 70)], .wo, .integrator, 0, (List.replicate 6 0), [], 0x00, false⟩,  -- Transaction request
  ⟨0x3028, 8, 0x07, 0x07, .blob [(0, 66)], .ro, .integrator, 0, [], [], 0x00, false⟩,  -- Transaction result
  ⟨0x3028, 8, 0x08, 0x08, .u32, .ro, .observer, 0, [], [], 0x00, false⟩,  -- Errors
  ⟨0x3028, 8, 0x09, 0x09, .enum, .ro, .observer, 4, [], [], 0x00, false⟩]  -- Port state

/-- Dictionary rows of indices 0x30XX. -/
def dict30 : List EntryDef := dict30a ++ dict30b

/-- Dictionary rows of indices 0x34XX, part 1. -/
def dict34a : List EntryDef := [
  ⟨0x3400, 16, 0x00, 0x00, .u8, .ro, .observer, 11, [], [], 0x00, false⟩,  -- Highest subindex
  ⟨0x3400, 16, 0x01, 0x01, .enum, .rwc, .integrator, 1, [], [], 0x00, true⟩,  -- CFA pattern
  ⟨0x3400, 16, 0x02, 0x02, .u8, .rwc, .integrator, 0, [], [(0, 3)], 0x00, true⟩,  -- CFA phase
  ⟨0x3400, 16, 0x03, 0x03, .u16, .rwc, .integrator, 0, [], [], 0x00, true⟩,  -- Window left
  ⟨0x3400, 16, 0x04, 0x04, .u16, .rwc, .integrator, 0, [], [], 0x00, true⟩,  -- Window top
  ⟨0x3400, 16, 0x05, 0x05, .u16, .rwc, .integrator, 0, [], [], 0x00, true⟩,  -- Window width
  ⟨0x3400, 16, 0x06, 0x06, .u16, .rwc, .integrator, 0, [], [], 0x00, true⟩,  -- Window height
  ⟨0x3400, 16, 0x07, 0x07, .bits 1, .rwc, .integrator, 255, [], [], 0x00, true⟩,  -- RFE mask
  ⟨0x3400, 8, 0x08, 0x08, .u8, .rw, .integrator, 2, [], [], 0x00, true⟩,  -- Exposure latency
  ⟨0x3408, 8, 0x08, 0x08, .u8, .rw, .integrator, 0, [], [], 0x00, true⟩,  -- Exposure latency of a playback context (R315)
  ⟨0x3400, 16, 0x09, 0x09, .u8, .rwc, .integrator, 1, [], [(0, 1)], 0x00, true⟩,  -- Statistics enable
  ⟨0x3400, 16, 0x0A, 0x0A, .u8, .rwc, .integrator, 32, [], [(1, 64)], 0x00, true⟩,  -- Zone columns
  ⟨0x3400, 16, 0x0B, 0x0B, .u8, .rwc, .integrator, 18, [], [(1, 48)], 0x00, true⟩,  -- Zone rows
  ⟨0x3410, 16, 0x00, 0x00, .u8, .ro, .observer, 11, [], [], 0x00, false⟩,  -- Highest subindex
  ⟨0x3410, 16, 0x01, 0x01, .enum, .rwc, .integrator, 0, [], [(0, 1)], 0x00, true⟩,  -- Linearisation mode
  ⟨0x3410, 16, 0x02, 0x02, .blob [(0, 0), (4100, 4100)], .rwc, .integrator, 0, [], [], 0x00, true⟩,  -- Linearisation table
  ⟨0x3410, 16, 0x03, 0x03, .enum, .rwc, .integrator, 0, [], [], 0x00, true⟩,  -- Black mode
  ⟨0x3410, 16, 0x04, 0x04, .blob [(16, 16)], .rwc, .integrator, 0, [0, 0, 128, 61, 0, 0, 128, 61, 0, 0, 128, 61, 0, 0, 128, 61], [], 0x00, true⟩,  -- Fixed black
  ⟨0x3410, 16, 0x05, 0x05, .f32, .rwc, .integrator, 0x3F800000, [], [], 0x00, true⟩,  -- White level
  ⟨0x3410, 16, 0x06, 0x06, .u16, .rwc, .integrator, 0, [], [], 0x00, true⟩,  -- Optical-black top rows
  ⟨0x3410, 16, 0x07, 0x07, .u16, .rwc, .integrator, 0, [], [], 0x00, true⟩,  -- Optical-black bottom rows
  ⟨0x3410, 16, 0x08, 0x08, .u16, .rwc, .integrator, 0, [], [], 0x00, true⟩,  -- Optical-black left columns
  ⟨0x3410, 16, 0x09, 0x09, .u16, .rwc, .integrator, 0, [], [], 0x00, true⟩,  -- Optical-black right columns
  ⟨0x3410, 16, 0x0A, 0x0A, .u8, .rwc, .integrator, 3, [], [(0, 8)], 0x00, true⟩,  -- Black filter shift
  ⟨0x3410, 16, 0x0B, 0x0B, .f32, .rwc, .integrator, 0x3F7AE148, [], [(1056964608, 1065353216)], 0x00, true⟩,  -- Clip threshold
  ⟨0x3420, 16, 0x00, 0x00, .u8, .ro, .observer, 10, [], [], 0x00, false⟩,  -- Highest subindex
  ⟨0x3420, 16, 0x01, 0x01, .u8, .rwc, .integrator, 1, [], [(0, 1)], 0x00, true⟩,  -- Static defects
  ⟨0x3420, 16, 0x02, 0x02, .enum, .rwc, .integrator, 1, [], [(0, 2)], 0x00, true⟩,  -- Dynamic detection
  ⟨0x3420, 16, 0x03, 0x03, .f32, .rwc, .integrator, 0x3D4CCCCD, [], [(1000593162, 1065353216)], 0x00, true⟩,  -- Dynamic threshold
  ⟨0x3420, 16, 0x04, 0x04, .u32, .rw, .integrator, 0, [], [], 0x00, true⟩,  -- Defect alarm level
  ⟨0x3420, 16, 0x05, 0x05, .u8, .rwc, .integrator, 1, [], [(0, 1)], 0x00, true⟩,  -- Shading
  ⟨0x3420, 16, 0x06, 0x06, .u8, .rwc, .integrator, 0, [], [(0, 3)], 0x00, true⟩,  -- Shading grid A
  ⟨0x3420, 16, 0x07, 0x07, .u8, .rwc, .integrator, 0, [], [(0, 3)], 0x00, true⟩,  -- Shading grid B
  ⟨0x3420, 16, 0x08, 0x08, .u16, .rwc, .operator, 0, [], [(0, 4096)], 0x00, true⟩,  -- Shading weight
  ⟨0x3420, 16, 0x09, 0x09, .blob [(16, 16)], .rwc, .operator, 0, [0, 0, 128, 63, 0, 0, 128, 63, 0, 0, 128, 63, 0, 0, 128, 63], [], 0x00, true⟩,  -- White-balance gains
  ⟨0x3420, 16, 0x0A, 0x0A, .f32, .rwc, .integrator, 0x3E800000, [], [(1008981770, 1056964608)], 0x00, true⟩,  -- Black limit
  ⟨0x3430, 16, 0x00, 0x00, .u8, .ro, .observer, 6, [], [], 0x00, false⟩,  -- Highest subindex
  ⟨0x3430, 16, 0x01, 0x01, .enum, .rwc, .integrator, 1, [], [(0, 2)], 0x00, true⟩,  -- Highlight mode
  ⟨0x3430, 16, 0x02, 0x02, .enum, .rwc, .integrator, 2, [], [(0, 3)], 0x00, true⟩,  -- Noise window
  ⟨0x3430, 16, 0x03, 0x03, .f32, .rwc, .integrator, 0x3951B717, [], [(0, 1065353216)], 0x00, true⟩,  -- Noise model a
  ⟨0x3430, 16, 0x04, 0x04, .f32, .rwc, .integrator, 0x358637BD, [], [(1, 1065353216)], 0x00, true⟩]  -- Noise model b

/-- Dictionary rows of indices 0x34XX, part 2. -/
def dict34b : List EntryDef := [
  ⟨0x3430, 16, 0x05, 0x05, .f32, .rwc, .operator, 0x3F800000, [], [(0, 1073741824)], 0x00, true⟩,  -- Luma strength
  ⟨0x3430, 16, 0x06, 0x06, .f32, .rwc, .operator, 0x3FC00000, [], [(0, 1082130432)], 0x00, true⟩,  -- Chroma strength
  ⟨0x3440, 16, 0x00, 0x00, .u8, .ro, .observer, 12, [], [], 0x00, false⟩,  -- Highest subindex
  ⟨0x3440, 16, 0x01, 0x01, .u8, .ro, .observer, 7, [], [], 0x00, false⟩,  -- Halo radius in use
  ⟨0x3440, 16, 0x02, 0x02, .blob [(16, 16)], .ro, .observer, 0, (List.replicate 16 0), [], 0x00, false⟩,  -- Measured black
  ⟨0x3440, 16, 0x03, 0x03, .blob [(16, 16)], .ro, .observer, 0, (List.replicate 16 0), [], 0x00, false⟩,  -- Black in use
  ⟨0x3440, 16, 0x04, 0x04, .u64, .ro, .observer, 0, [], [], 0x00, false⟩,  -- Frames processed
  ⟨0x3440, 16, 0x05, 0x05, .u32, .ro, .observer, 0, [], [], 0x00, false⟩,  -- Frames cut
  ⟨0x3440, 16, 0x06, 0x06, .u64, .ro, .observer, 0, [], [], 0x00, false⟩,  -- Stripes processed
  ⟨0x3440, 16, 0x07, 0x07, .u32, .ro, .observer, 0, [], [], 0x00, false⟩,  -- Dynamic defects
  ⟨0x3440, 16, 0x08, 0x08, .u32, .ro, .observer, 0, [], [], 0x00, false⟩,  -- Clipped pixels
  ⟨0x3440, 16, 0x09, 0x09, .u32, .ro, .observer, 0, [], [], 0x00, false⟩,  -- Reconstructed pixels
  ⟨0x3440, 16, 0x0A, 0x0A, .u8, .ro, .observer, 0, [], [], 0x00, false⟩,  -- Generations held
  ⟨0x3440, 16, 0x0B, 0x0B, .u32, .ro, .observer, 0, [], [], 0x00, false⟩,  -- Black holds
  ⟨0x3440, 16, 0x0C, 0x0C, .u32, .ro, .observer, 0, [], [], 0x00, false⟩,  -- Defect alarms
  ⟨0x3450, 16, 0x00, 0x00, .u8, .ro, .observer, 18, [], [], 0x00, false⟩,  -- Highest subindex
  ⟨0x3450, 16, 0x01, 0x01, .u32, .ro, .observer, 0, [], [], 0x00, false⟩,  -- Record sequence
  ⟨0x3450, 16, 0x02, 0x11, .blob [(0, 29832)], .ro, .observer, 0, [], [], 0x00, false⟩,  -- Record slot 0–15
  ⟨0x3450, 16, 0x12, 0x12, .u32, .ro, .observer, 0, [], [], 0x00, false⟩,  -- Late records
  ⟨0x3470, 8, 0x00, 0x00, .u8, .ro, .observer, 7, [], [], 0x00, false⟩,  -- Highest subindex
  ⟨0x3470, 8, 0x01, 0x01, .enum, .ro, .observer, 0, [], [], 0x00, false⟩,  -- State
  ⟨0x3470, 8, 0x02, 0x02, .u8, .ro, .observer, 255, [], [], 0x00, false⟩,  -- Present context
  ⟨0x3470, 8, 0x03, 0x03, .u64, .ro, .observer, 0, [], [], 0x00, false⟩,  -- Stripes processed
  ⟨0x3470, 8, 0x04, 0x04, .u64, .ro, .observer, 0, [], [], 0x00, false⟩,  -- Context changes
  ⟨0x3470, 8, 0x05, 0x05, .u32, .ro, .observer, 0, [], [], 0x00, false⟩,  -- Cache stalls
  ⟨0x3470, 8, 0x06, 0x06, .u64, .ro, .observer, 0, [], [], 0x00, false⟩,  -- Segment wait
  ⟨0x3470, 8, 0x07, 0x07, .u32, .ro, .observer, 0, [], [], 0x00, false⟩]  -- Faults

/-- Dictionary rows of indices 0x34XX. -/
def dict34 : List EntryDef := dict34a ++ dict34b

/-- Dictionary rows of indices 0x38XX, part 1. -/
def dict38a : List EntryDef := [
  ⟨0x3800, 16, 0x00, 0x00, .u8, .ro, .observer, 8, [], [], 0x00, false⟩,  -- Highest subindex
  ⟨0x3800, 16, 0x01, 0x01, .u8, .rwc, .integrator, 255, [], [(0, 15), (255, 255)], 0x00, true⟩,  -- Look slot
  ⟨0x3800, 16, 0x02, 0x02, .blob [(0, 4096)], .rwc, .operator, 0, [], [], 0x00, true⟩,  -- Look parameters
  ⟨0x3800, 16, 0x03, 0x03, .f32, .ro, .observer, 0, [], [], 0x00, false⟩,  -- Operations, full look
  ⟨0x3800, 16, 0x04, 0x04, .f32, .ro, .observer, 0, [], [], 0x00, false⟩,  -- Operations, reduced look
  ⟨0x3800, 16, 0x05, 0x05, .f32, .ro, .observer, 0, [], [], 0x00, false⟩,  -- Measured slots per group
  ⟨0x3800, 16, 0x06, 0x06, .u32, .ro, .observer, 0, [], [], 0x00, false⟩,  -- Program-faulted frames
  ⟨0x3800, 16, 0x07, 0x07, .u8, .ro, .observer, 0, [], [], 0x00, false⟩,  -- Reduced look forced
  ⟨0x3800, 16, 0x08, 0x08, .u32, .ro, .observer, 0, [], [], 0x00, false⟩,  -- Declared-cost events
  ⟨0x3820, 16, 0x00, 0x00, .u8, .ro, .observer, 16, [], [], 0x00, false⟩,  -- Highest subindex
  ⟨0x3820, 16, 0x01, 0x10, .blob [(0, 0), (16, 16)], .rwc, .integrator, 0, [], [], 0x00, true⟩,  -- Binding 0–15
  ⟨0x3840, 16, 0x00, 0x00, .u8, .ro, .observer, 7, [], [], 0x00, false⟩,  -- Highest subindex
  ⟨0x3840, 16, 0x01, 0x01, .blob [(0, 98304)], .rw, .integrator, 0, [], [], 0x00, true⟩,  -- Image
  ⟨0x3840, 16, 0x02, 0x02, .blob [(32, 32)], .ro, .observer, 0, (List.replicate 32 0), [], 0x00, false⟩,  -- Look-program hash
  ⟨0x3840, 16, 0x03, 0x03, .u32, .ro, .observer, 0, [], [], 0x00, false⟩,  -- Signer
  ⟨0x3840, 16, 0x04, 0x04, .bits 4, .ro, .observer, 0, [], [], 0x00, false⟩,  -- Entry mask
  ⟨0x3840, 16, 0x05, 0x05, .u16, .ro, .observer, 0, [], [], 0x00, false⟩,  -- Code bytes
  ⟨0x3840, 16, 0x06, 0x06, .u32, .ro, .observer, 0, [], [], 0x00, false⟩,  -- Local memory bytes
  ⟨0x3840, 16, 0x07, 0x07, .u8, .rw, .integrator, 0, [], [], 0x00, true⟩,  -- Keep resident
  ⟨0x3860, 24, 0x00, 0x00, .u8, .ro, .observer, 12, [], [], 0x00, false⟩,  -- Highest subindex
  ⟨0x3860, 24, 0x01, 0x01, .enum, .ro, .observer, 0, [], [], 0x00, false⟩,  -- State
  ⟨0x3860, 24, 0x02, 0x02, .bits 2, .ro, .observer, 65535, [], [], 0x00, false⟩,  -- Engines in service
  ⟨0x3860, 24, 0x03, 0x03, .u64, .ro, .observer, 0, [], [], 0x00, false⟩,  -- Groups
  ⟨0x3860, 24, 0x04, 0x04, .u64, .ro, .observer, 0, [], [], 0x00, false⟩,  -- Issue slots
  ⟨0x3860, 24, 0x05, 0x05, .u64, .ro, .observer, 0, [], [], 0x00, false⟩,  -- Stall slots
  ⟨0x3860, 24, 0x06, 0x06, .u64, .ro, .observer, 0, [], [], 0x00, false⟩,  -- LUT requests
  ⟨0x3860, 24, 0x07, 0x07, .u64, .ro, .observer, 0, [], [], 0x00, false⟩,  -- LUT back-pressure slots
  ⟨0x3860, 24, 0x08, 0x08, .u64, .ro, .observer, 0, [], [], 0x00, false⟩,  -- NaN outputs
  ⟨0x3860, 24, 0x09, 0x09, .u32, .ro, .observer, 0, [], [], 0x00, false⟩,  -- Program faults
  ⟨0x3860, 24, 0x0A, 0x0A, .u32, .ro, .observer, 0, [], [], 0x00, false⟩,  -- Hardware faults
  ⟨0x3860, 24, 0x0B, 0x0B, .u8, .ro, .observer, 0, [], [], 0x00, false⟩,  -- Table pages in use
  ⟨0x3860, 24, 0x0C, 0x0C, .u32, .ro, .observer, 0, [], [], 0x00, false⟩,  -- Table load waits
  ⟨0x3880, 1, 0x00, 0x00, .u8, .ro, .observer, 4, [], [], 0x00, false⟩,  -- Highest subindex
  ⟨0x3880, 1, 0x01, 0x01, .u8, .ro, .observer, 1, [], [], 0x00, false⟩,  -- Instruction-set version
  ⟨0x3880, 1, 0x02, 0x02, .u16, .ro, .observer, 16384, [], [], 0x00, false⟩,  -- Instruction store free
  ⟨0x3880, 1, 0x03, 0x03, .u32, .ro, .observer, 49152, [], [], 0x00, false⟩,  -- Local memory free
  ⟨0x3880, 1, 0x04, 0x04, .bits 2, .ro, .observer, 0, [], [], 0x00, false⟩]  -- Resident slots

/-- Dictionary rows of indices 0x38XX. -/
def dict38 : List EntryDef := dict38a

/-- Dictionary rows of indices 0x3CXX, part 1. -/
def dict3Ca : List EntryDef := [
  ⟨0x3C00, 8, 0x00, 0x00, .u8, .ro, .observer, 13, [], [], 0x00, false⟩,  -- Highest subindex
  ⟨0x3C00, 8, 0x01, 0x01, .enum, .rw, .integrator, 0, [], [(0, 1)], 0x00, false⟩,  -- Matrix mode
  ⟨0x3C00, 8, 0x02, 0x02, .blob [(0, 1088)], .rw, .integrator, 0, [], [], 0x00, false⟩,  -- CCT knots
  ⟨0x3C00, 8, 0x03, 0x03, .blob [(0, 262144)], .rw, .integrator, 0, [], [], 0x00, false⟩,  -- Static defect list
  ⟨0x3C00, 8, 0x04, 0x07, .blob [(0, 33808)], .rw, .integrator, 0, [], [], 0x00, false⟩,  -- Shading grid 0–3
  ⟨0x3C00, 8, 0x08, 0x08, .enum, .rwl, .integrator, 0, [], [(1, 1)], 0x00, false⟩,  -- Commit
  ⟨0x3C00, 8, 0x09, 0x09, .u8, .ro, .observer, 32, [], [], 0x00, false⟩,  -- Commits remaining
  ⟨0x3C00, 8, 0x0A, 0x0A, .u8, .ro, .observer, 0, [], [], 0x00, false⟩,  -- Calibration epoch
  ⟨0x3C00, 8, 0x0B, 0x0B, .blob [(32, 32)], .ro, .observer, 0, [], [], 0x00, false⟩,  -- Committed set hash
  ⟨0x3C00, 8, 0x0C, 0x0C, .blob [(32, 32)], .ro, .observer, 0, [], [], 0x00, false⟩,  -- Staged set hash
  ⟨0x3C00, 8, 0x0D, 0x0D, .u8, .wo, .integrator, 0, [], [], 0x00, false⟩,  -- Revert staging
  ⟨0x3C10, 16, 0x00, 0x00, .u8, .ro, .observer, 9, [], [], 0x00, false⟩,  -- Highest subindex
  ⟨0x3C10, 1, 0x01, 0x01, .u8, .rwc, .integrator, 0, [], [], 0x00, true⟩,  -- Calibration slot
  ⟨0x3C10, 16, 0x02, 0x02, .enum, .rwc, .integrator, 0, [], [(0, 1)], 0x00, true⟩,  -- Working primaries
  ⟨0x3C10, 16, 0x03, 0x03, .u16, .rwc, .operator, 5600, [], [(1500, 20000)], 0x00, true⟩,  -- Scene CCT
  ⟨0x3C10, 16, 0x04, 0x04, .f32, .rwc, .operator, 0x3F800000, [], [(998244352, 1132462080)], 0x00, true⟩,  -- Exposure scale
  ⟨0x3C10, 16, 0x05, 0x05, .u16, .rwc, .integrator, 65535, [], [], 0x00, true⟩,  -- Camera block offset
  ⟨0x3C10, 16, 0x06, 0x06, .blob [(16, 16)], .rwc, .integrator, 0, (List.replicate 16 255), [], 0x00, true⟩,  -- Table slots
  ⟨0x3C10, 16, 0x07, 0x07, .blob [(160, 160)], .ro, .observer, 0, (List.replicate 160 0), [], 0x00, false⟩,  -- Camera block in use
  ⟨0x3C10, 16, 0x08, 0x08, .blob [(0, 0), (256, 256)], .ro, .observer, 0, [], [], 0x00, false⟩,  -- Last colour record
  ⟨0x3C10, 16, 0x09, 0x09, .u32, .ro, .observer, 0, [], [], 0x00, false⟩,  -- Colour records issued
  ⟨0x3C11, 1, 0x01, 0x01, .u8, .rwc, .integrator, 1, [], [], 0x00, true⟩,  -- Calibration slot
  ⟨0x3C12, 1, 0x01, 0x01, .u8, .rwc, .integrator, 2, [], [], 0x00, true⟩,  -- Calibration slot
  ⟨0x3C13, 1, 0x01, 0x01, .u8, .rwc, .integrator, 3, [], [], 0x00, true⟩,  -- Calibration slot
  ⟨0x3C14, 1, 0x01, 0x01, .u8, .rwc, .integrator, 4, [], [], 0x00, true⟩,  -- Calibration slot
  ⟨0x3C15, 1, 0x01, 0x01, .u8, .rwc, .integrator, 5, [], [], 0x00, true⟩,  -- Calibration slot
  ⟨0x3C16, 1, 0x01, 0x01, .u8, .rwc, .integrator, 6, [], [], 0x00, true⟩,  -- Calibration slot
  ⟨0x3C17, 1, 0x01, 0x01, .u8, .rwc, .integrator, 7, [], [], 0x00, true⟩,  -- Calibration slot
  ⟨0x3C18, 1, 0x01, 0x01, .u8, .rwc, .integrator, 255, [], [], 0x00, true⟩,  -- Calibration slot
  ⟨0x3C19, 1, 0x01, 0x01, .u8, .rwc, .integrator, 255, [], [], 0x00, true⟩,  -- Calibration slot
  ⟨0x3C1A, 1, 0x01, 0x01, .u8, .rwc, .integrator, 255, [], [], 0x00, true⟩,  -- Calibration slot
  ⟨0x3C1B, 1, 0x01, 0x01, .u8, .rwc, .integrator, 255, [], [], 0x00, true⟩,  -- Calibration slot
  ⟨0x3C1C, 1, 0x01, 0x01, .u8, .rwc, .integrator, 255, [], [], 0x00, true⟩,  -- Calibration slot
  ⟨0x3C1D, 1, 0x01, 0x01, .u8, .rwc, .integrator, 255, [], [], 0x00, true⟩,  -- Calibration slot
  ⟨0x3C1E, 1, 0x01, 0x01, .u8, .rwc, .integrator, 255, [], [], 0x00, true⟩,  -- Calibration slot
  ⟨0x3C1F, 1, 0x01, 0x01, .u8, .rwc, .integrator, 255, [], [], 0x00, true⟩,  -- Calibration slot
  ⟨0x3C20, 16, 0x00, 0x00, .u8, .ro, .observer, 16, [], [], 0x00, false⟩,  -- Highest subindex
  ⟨0x3C20, 16, 0x01, 0x10, .blob [(0, 0), (16, 16)], .rwc, .integrator, 0, [], [], 0x00, true⟩,  -- Output colour record 0–15
  ⟨0x3C40, 64, 0x00, 0x00, .u8, .ro, .observer, 8, [], [], 0x00, false⟩,  -- Highest subindex
  ⟨0x3C40, 64, 0x01, 0x01, .blob [(0, 0), (32, 32)], .rw, .integrator, 0, [], [], 0x00, false⟩]  -- Header

/-- Dictionary rows of indices 0x3CXX, part 2. -/
def dict3Cb : List EntryDef := [
  ⟨0x3C40, 64, 0x02, 0x02, .blob [(5, 1048576)], .wo, .integrator, 0, (List.replicate 5 0), [], 0x00, false⟩,  -- Data
  ⟨0x3C40, 64, 0x03, 0x03, .blob [(16, 16)], .wo, .integrator, 0, (List.replicate 16 0), [], 0x00, false⟩,  -- Generate
  ⟨0x3C40, 64, 0x04, 0x04, .u8, .wo, .integrator, 0, [], [], 0x00, false⟩,  -- Seal
  ⟨0x3C40, 64, 0x05, 0x05, .enum, .ro, .observer, 0, [], [], 0x00, false⟩,  -- State
  ⟨0x3C40, 64, 0x06, 0x06, .blob [(32, 32)], .ro, .observer, 0, (List.replicate 32 0), [], 0x00, false⟩,  -- Table hash
  ⟨0x3C40, 64, 0x07, 0x07, .u8, .rw, .integrator, 0, [], [], 0x00, false⟩,  -- Persistent
  ⟨0x3C40, 64, 0x08, 0x08, .bits 2, .ro, .observer, 0, [], [], 0x00, false⟩,  -- Users
  ⟨0x3C80, 1, 0x00, 0x00, .u8, .ro, .observer, 2, [], [], 0x00, false⟩,  -- Highest subindex
  ⟨0x3C80, 1, 0x01, 0x01, .u32, .ro, .observer, 0, [], [], 0x00, false⟩,  -- Persistent bytes used
  ⟨0x3C80, 1, 0x02, 0x02, .u8, .ro, .observer, 0, [], [], 0x00, false⟩]  -- Table pages required

/-- Dictionary rows of indices 0x3CXX. -/
def dict3C : List EntryDef := dict3Ca ++ dict3Cb

/-- Dictionary rows of indices 0x40XX, part 1. -/
def dict40a : List EntryDef := [
  ⟨0x4000, 16, 0x00, 0x00, .u8, .ro, .observer, 6, [], [], 0x00, false⟩,  -- Highest subindex
  ⟨0x4000, 16, 0x01, 0x01, .u16, .rwc, .integrator, 64, [], [(32, 256)], 0x00, true⟩,  -- Stripe height
  ⟨0x4000, 16, 0x02, 0x02, .u8, .rwc, .integrator, 8, [], [(0, 15)], 0x00, true⟩,  -- Priority
  ⟨0x4000, 16, 0x03, 0x03, .u32, .rwc, .integrator, 2000, [], [(100, 100000)], 0x00, true⟩,  -- Deadline allowance
  ⟨0x4000, 16, 0x04, 0x04, .u16, .rwc, .integrator, 20, [], [(5, 1000)], 0x00, true⟩,  -- Chase guard
  ⟨0x4000, 16, 0x05, 0x05, .u16, .rwc, .integrator, 0, [], [], 0x00, true⟩,  -- Band first line
  ⟨0x4000, 16, 0x06, 0x06, .u16, .rwc, .integrator, 0, [], [], 0x00, true⟩,  -- Band lines
  ⟨0x4010, 16, 0x00, 0x00, .u8, .ro, .observer, 12, [], [], 0x00, false⟩,  -- Highest subindex
  ⟨0x4010, 16, 0x01, 0x01, .u16, .ro, .observer, 0, [], [], 0x00, false⟩,  -- Stripes per frame
  ⟨0x4010, 16, 0x02, 0x02, .u8, .ro, .observer, 0, [], [], 0x00, false⟩,  -- Segments per stripe
  ⟨0x4010, 16, 0x03, 0x03, .u16, .ro, .observer, 0, [], [], 0x00, false⟩,  -- Segment width
  ⟨0x4010, 16, 0x04, 0x04, .u8, .ro, .observer, 0, [], [], 0x00, false⟩,  -- Troupes reserved
  ⟨0x4010, 16, 0x05, 0x05, .enum, .ro, .observer, 0, [], [], 0x00, false⟩,  -- Operation
  ⟨0x4010, 16, 0x06, 0x06, .u32, .ro, .observer, 0, [], [], 0x00, false⟩,  -- Minimum chase offset
  ⟨0x4010, 16, 0x07, 0x07, .i32, .ro, .observer, 0, [], [], 0x00, false⟩,  -- Last frame margin
  ⟨0x4010, 16, 0x08, 0x08, .i32, .ro, .observer, 0, [], [], 0x00, false⟩,  -- Lowest frame margin
  ⟨0x4010, 16, 0x09, 0x09, .u64, .ro, .observer, 0, [], [], 0x00, false⟩,  -- Stripes opened
  ⟨0x4010, 16, 0x0A, 0x0A, .u32, .ro, .observer, 0, [], [], 0x00, false⟩,  -- Late stripes
  ⟨0x4010, 16, 0x0B, 0x0B, .u64, .ro, .observer, 0, [], [], 0x00, false⟩,  -- Halo wait
  ⟨0x4010, 16, 0x0C, 0x0C, .u64, .ro, .observer, 0, [], [], 0x00, false⟩,  -- Troupe wait
  ⟨0x4020, 1, 0x00, 0x00, .u8, .ro, .observer, 6, [], [], 0x00, false⟩,  -- Highest subindex
  ⟨0x4020, 1, 0x01, 0x01, .u8, .ro, .observer, 24, [], [], 0x00, false⟩,  -- Troupes in service
  ⟨0x4020, 1, 0x02, 0x02, .u8, .ro, .observer, 0, [], [], 0x00, false⟩,  -- Troupes reserved
  ⟨0x4020, 1, 0x03, 0x03, .u8, .ro, .observer, 0, [], [], 0x00, false⟩,  -- Troupes open
  ⟨0x4020, 1, 0x04, 0x04, .bits 2, .ro, .observer, 0, [], [], 0x00, false⟩,  -- Shut-out contexts
  ⟨0x4020, 1, 0x05, 0x05, .u32, .ro, .observer, 0, [], [], 0x00, false⟩,  -- Shortage abandonments
  ⟨0x4020, 1, 0x06, 0x06, .u32, .ro, .observer, 0, [], [], 0x00, false⟩]  -- Array halo late

/-- Dictionary rows of indices 0x40XX. -/
def dict40 : List EntryDef := dict40a

end Sys2Proof.Machine
end

