-- ==== Sys2Proof/Machine/DictIdentity.lean ====
section
/-!
DEFINITION. Sys2Proof/Machine/DictIdentity.lean: rows of the object dictionary, copied from the tables of the manual: identity, Denval, roles, event log and provenance (R160, R193, R759).
Each row: first index, number of instances (one index each), first and last subindex, type, access, minimum role, default
(a number, or octets), the values a write may take (empty: every value of the type), the reserved bits of a BITS entry, and
whether the parameter store holds it (R124). A default the tables leave open ("—") is 0 or empty (DESIGN CHOICE, log entry 3).
-/

namespace Sys2Proof.Machine

/-- Dictionary rows of indices 0x10XX, part 1. -/
def dict10a : List EntryDef := [
  ⟨0x1000, 1, 0x00, 0x00, .u8, .ro, .observer, 5, [], [], 0x00, false⟩,  -- Highest subindex
  ⟨0x1000, 1, 0x01, 0x01, .u64, .ro, .observer, 0, [], [], 0x00, false⟩,  -- Die ID
  ⟨0x1000, 1, 0x02, 0x02, .blob [(128, 128)], .ro, .observer, 0, (List.replicate 128 0), [], 0x00, false⟩,  -- Kilvan certificate
  ⟨0x1000, 1, 0x03, 0x03, .blob [(128, 128)], .ro, .observer, 0, [], [], 0x00, false⟩,  -- Customer certificate
  ⟨0x1000, 1, 0x04, 0x04, .blob [(32, 32)], .ro, .observer, 0, (List.replicate 32 0), [], 0x00, false⟩,  -- Device public key
  ⟨0x1000, 1, 0x05, 0x05, .u8, .ro, .observer, 0, [], [], 0x00, false⟩,  -- Key serial
  ⟨0x1001, 1, 0x00, 0x00, .u8, .ro, .observer, 3, [], [], 0x00, false⟩,  -- Highest subindex
  ⟨0x1001, 1, 0x01, 0x01, .enum, .ro, .observer, 0, [], [], 0x00, false⟩,  -- Life-cycle state
  ⟨0x1001, 1, 0x02, 0x02, .enum, .rwl, .custodian, 0, [], [], 0x00, false⟩,  -- Transition
  ⟨0x1001, 1, 0x03, 0x03, .u8, .ro, .observer, 0, [], [], 0x00, false⟩,  -- Transitions remaining
  ⟨0x1002, 1, 0x00, 0x00, .u8, .ro, .observer, 4, [], [], 0x00, false⟩,  -- Highest subindex
  ⟨0x1002, 1, 0x01, 0x01, .enum, .rwl, .custodian, 0, [], [(1, 1)], 0x00, false⟩,  -- Re-certify
  ⟨0x1002, 1, 0x02, 0x02, .u8, .ro, .observer, 8, [], [], 0x00, false⟩,  -- Re-certifications remaining
  ⟨0x1002, 1, 0x03, 0x03, .blob [(80, 80)], .ro, .custodian, 0, [], [], 0x00, false⟩,  -- Certificate request
  ⟨0x1002, 1, 0x04, 0x04, .blob [(128, 128)], .wo, .custodian, 0, (List.replicate 128 0), [], 0x00, false⟩,  -- Certificate install
  ⟨0x1003, 1, 0x00, 0x00, .u8, .ro, .observer, 4, [], [], 0x00, false⟩,  -- Highest subindex
  ⟨0x1003, 1, 0x01, 0x01, .u8, .rwl, .custodian, 0, [], [], 0x00, false⟩,  -- Fused epoch
  ⟨0x1003, 1, 0x02, 0x02, .u8, .ro, .observer, 64, [], [], 0x00, false⟩,  -- Epoch writes remaining
  ⟨0x1003, 1, 0x03, 0x03, .u8, .ro, .observer, 0, [], [], 0x00, false⟩,  -- Bank 0 epoch
  ⟨0x1003, 1, 0x04, 0x04, .u8, .ro, .observer, 0, [], [], 0x00, false⟩]  -- Bank 1 epoch

/-- Dictionary rows of indices 0x10XX. -/
def dict10 : List EntryDef := dict10a

/-- Dictionary rows of indices 0x11XX, part 1. -/
def dict11a : List EntryDef := [
  ⟨0x1100, 1, 0x00, 0x00, .u8, .ro, .observer, 6, [], [], 0x00, false⟩,  -- Highest subindex
  ⟨0x1100, 1, 0x01, 0x01, .u8, .rw, .integrator, 32, [], [(1, 127)], 0x00, true⟩,  -- Node ID
  ⟨0x1100, 1, 0x02, 0x02, .u16, .rw, .integrator, 100, [], [(10, 1000)], 0x00, true⟩,  -- Heartbeat period
  ⟨0x1100, 1, 0x03, 0x03, .u16, .rw, .integrator, 1000, [], [(0, 0), (10, 10000)], 0x00, true⟩,  -- Time message period
  ⟨0x1100, 1, 0x04, 0x04, .enum, .rw, .integrator, 2, [], [(1, 4)], 0x00, true⟩,  -- Event frame threshold
  ⟨0x1100, 1, 0x05, 0x05, .u16, .ro, .observer, 100, [], [], 0x00, false⟩,  -- Commit slot length
  ⟨0x1100, 1, 0x06, 0x06, .t96, .ro, .observer, 0, [], [], 0x00, false⟩,  -- Last commit instant
  ⟨0x1101, 1, 0x00, 0x00, .u8, .ro, .observer, 8, [], [], 0x00, false⟩,  -- Highest subindex
  ⟨0x1101, 1, 0x01, 0x01, .u8, .rw, .integrator, 1, [], [(0, 1)], 0x00, true⟩,  -- Enable
  ⟨0x1101, 1, 0x02, 0x02, .enum, .rw, .integrator, 1, [], [(0, 1)], 0x00, true⟩,  -- Address mode
  ⟨0x1101, 1, 0x03, 0x03, .blob [(4, 4)], .rw, .integrator, 0, [192, 168, 0, 32], [], 0x00, true⟩,  -- Static address
  ⟨0x1101, 1, 0x04, 0x04, .blob [(4, 4)], .rw, .integrator, 0, [255, 255, 255, 0], [], 0x00, true⟩,  -- Netmask
  ⟨0x1101, 1, 0x05, 0x05, .blob [(4, 4)], .rw, .integrator, 0, [0, 0, 0, 0], [], 0x00, true⟩,  -- Gateway
  ⟨0x1101, 1, 0x06, 0x06, .blob [(4, 4)], .rw, .integrator, 0, [0, 0, 0, 0], [], 0x00, true⟩,  -- Report destination
  ⟨0x1101, 1, 0x07, 0x07, .u16, .rw, .integrator, 48214, [], [(1, 65535)], 0x00, true⟩,  -- Report port
  ⟨0x1101, 1, 0x08, 0x08, .blob [(4, 4)], .ro, .observer, 0, [0, 0, 0, 0], [], 0x00, false⟩,  -- Present address
  ⟨0x1102, 1, 0x00, 0x00, .u8, .ro, .observer, 2, [], [], 0x00, false⟩,  -- Highest subindex
  ⟨0x1102, 1, 0x01, 0x01, .u8, .rw, .integrator, 1, [], [(0, 1)], 0x00, true⟩,  -- Enable
  ⟨0x1102, 1, 0x02, 0x02, .u8, .rw, .integrator, 1, [], [(0, 1)], 0x00, true⟩,  -- Events on MB1
  ⟨0x1103, 1, 0x00, 0x00, .u8, .ro, .observer, 5, [], [], 0x00, false⟩,  -- Highest subindex
  ⟨0x1103, 1, 0x01, 0x01, .u8, .ro, .observer, 0, [], [], 0x00, false⟩,  -- Open sessions
  ⟨0x1103, 1, 0x02, 0x02, .u16, .rw, .integrator, 60, [], [(5, 3600)], 0x00, true⟩,  -- Idle timeout
  ⟨0x1103, 1, 0x03, 0x03, .u32, .ro, .observer, 0, [], [], 0x00, false⟩,  -- Set-up failures
  ⟨0x1103, 1, 0x04, 0x04, .u32, .ro, .observer, 0, [], [], 0x00, false⟩,  -- Authentication failures
  ⟨0x1103, 1, 0x05, 0x05, .u32, .ro, .observer, 0, [], [], 0x00, false⟩,  -- Lockouts
  ⟨0x1104, 1, 0x00, 0x00, .u8, .ro, .observer, 9, [], [], 0x00, false⟩,  -- Highest subindex
  ⟨0x1104, 1, 0x01, 0x01, .enum, .wo, .integrator, 0, [], [(1, 2)], 0x00, false⟩,  -- Parameter store command
  ⟨0x1104, 1, 0x02, 0x02, .enum, .ro, .observer, 0, [], [], 0x00, false⟩,  -- Store state
  ⟨0x1104, 1, 0x03, 0x03, .t96, .ro, .observer, 0, [], [], 0x00, false⟩,  -- Last store time
  ⟨0x1104, 1, 0x04, 0x04, .u64, .ro, .observer, 0, [], [], 0x00, false⟩,  -- Units committed
  ⟨0x1104, 1, 0x05, 0x05, .u32, .ro, .observer, 0, [], [], 0x00, false⟩,  -- Units superseded
  ⟨0x1104, 1, 0x06, 0x06, .u32, .ro, .observer, 0, [], [], 0x00, false⟩,  -- Groups committed
  ⟨0x1104, 1, 0x07, 0x07, .u32, .ro, .observer, 0, [], [], 0x00, false⟩,  -- Groups replaced
  ⟨0x1104, 1, 0x08, 0x08, .u32, .ro, .observer, 0, [], [], 0x00, false⟩,  -- Slot overflows
  ⟨0x1104, 1, 0x09, 0x09, .u32, .ro, .observer, 0, [], [], 0x00, false⟩,  -- OVERBUDGET refusals
  ⟨0x1108, 4, 0x00, 0x00, .u8, .ro, .observer, 7, [], [], 0x00, false⟩,  -- Highest subindex
  ⟨0x1108, 4, 0x01, 0x01, .u8, .rw, .integrator, 0, [], [(0, 1)], 0x00, true⟩,  -- Enable
  ⟨0x1108, 4, 0x02, 0x02, .enum, .rw, .integrator, 3, [], [(0, 3)], 0x00, true⟩,  -- Arbitration rate
  ⟨0x1108, 4, 0x03, 0x03, .enum, .rw, .integrator, 3, [], [(0, 4)], 0x00, true⟩,  -- Data rate
  ⟨0x1108, 4, 0x04, 0x04, .u32, .ro, .observer, 0, [], [], 0x00, false⟩]  -- Frames received

/-- Dictionary rows of indices 0x11XX, part 2. -/
def dict11b : List EntryDef := [
  ⟨0x1108, 4, 0x05, 0x05, .u32, .ro, .observer, 0, [], [], 0x00, false⟩,  -- Frames refused
  ⟨0x1108, 4, 0x06, 0x06, .u32, .ro, .observer, 0, [], [], 0x00, false⟩,  -- Bus-off count
  ⟨0x1108, 4, 0x07, 0x07, .enum, .ro, .observer, 3, [], [], 0x00, false⟩]  -- Bus state

/-- Dictionary rows of indices 0x11XX. -/
def dict11 : List EntryDef := dict11a ++ dict11b

/-- Dictionary rows of indices 0x12XX, part 1. -/
def dict12a : List EntryDef := [
  ⟨0x1200, 1, 0x00, 0x00, .u8, .ro, .observer, 2, [], [], 0x00, false⟩,  -- Highest subindex
  ⟨0x1200, 1, 0x01, 0x01, .blob [(32, 32)], .rwl, .observer, 0, [], [], 0x00, false⟩,  -- Customer root
  ⟨0x1200, 1, 0x02, 0x02, .u8, .ro, .observer, 1, [], [], 0x00, false⟩,  -- Root writes remaining
  ⟨0x1210, 1, 0x00, 0x00, .u8, .ro, .observer, 64, [], [], 0x00, false⟩,  -- Highest subindex
  ⟨0x1210, 1, 0x01, 0x40, .blob [(0, 0), (128, 128)], .rw, .observer, 0, [], [], 0x00, false⟩,  -- Credential slot
  ⟨0x1211, 1, 0x00, 0x00, .u8, .ro, .observer, 2, [], [], 0x00, false⟩,  -- Highest subindex
  ⟨0x1211, 1, 0x01, 0x01, .u32, .wo, .custodian, 0, [], [], 0x00, false⟩,  -- Revoke
  ⟨0x1211, 1, 0x02, 0x02, .u16, .ro, .observer, 0, [], [], 0x00, false⟩]  -- Revoked count

/-- Dictionary rows of indices 0x12XX. -/
def dict12 : List EntryDef := dict12a

/-- Dictionary rows of indices 0x13XX, part 1. -/
def dict13a : List EntryDef := [
  ⟨0x1300, 1, 0x00, 0x00, .u8, .ro, .observer, 8, [], [], 0x00, false⟩,  -- Highest subindex
  ⟨0x1300, 1, 0x01, 0x01, .u32, .ro, .observer, 0, [], [], 0x00, false⟩,  -- Next sequence
  ⟨0x1300, 1, 0x02, 0x02, .u32, .ro, .observer, 0, [], [], 0x00, false⟩,  -- Oldest sequence
  ⟨0x1300, 1, 0x03, 0x03, .blob [(0, 0), (32, 32)], .ro, .observer, 0, [], [], 0x00, false⟩,  -- Record
  ⟨0x1300, 1, 0x04, 0x04, .u32, .ro, .observer, 0, [], [], 0x00, false⟩,  -- Acknowledged sequence
  ⟨0x1300, 1, 0x05, 0x05, .u32, .rw, .observer, 0, [], [], 0x00, false⟩,  -- Cursor
  ⟨0x1300, 1, 0x06, 0x06, .blob [(0, 1024)], .ro, .observer, 0, [], [], 0x00, false⟩,  -- Records
  ⟨0x1300, 1, 0x07, 0x07, .u32, .ro, .observer, 0, [], [], 0x00, false⟩,  -- Records skipped
  ⟨0x1300, 1, 0x08, 0x08, .enum, .wo, .operator, 0, [], [(1, 2)], 0x00, false⟩,  -- Log command
  ⟨0x1301, 1, 0x00, 0x00, .u8, .ro, .observer, 4, [], [], 0x00, false⟩,  -- Highest subindex
  ⟨0x1301, 1, 0x01, 0x01, .blob [(2, 2)], .wo, .integrator, 0, [0, 0], [], 0x00, false⟩,  -- Start
  ⟨0x1301, 1, 0x02, 0x02, .enum, .ro, .observer, 0, [], [], 0x00, false⟩,  -- State
  ⟨0x1301, 1, 0x03, 0x03, .blob [(8, 8)], .ro, .observer, 0, [], [], 0x00, false⟩,  -- Last result
  ⟨0x1301, 1, 0x04, 0x04, .bits 1, .ro, .observer, 0, [], [], 0x00, false⟩,  -- Boot results
  ⟨0x1310, 1, 0x00, 0x00, .u8, .ro, .observer, 7, [], [], 0x00, false⟩,  -- Highest subindex
  ⟨0x1310, 1, 0x01, 0x01, .u8, .rw, .integrator, 16, [], [(0, 63)], 0x00, true⟩,  -- Event vector
  ⟨0x1310, 1, 0x02, 0x02, .enum, .rw, .integrator, 2, [], [(1, 4)], 0x00, true⟩,  -- Interrupt threshold
  ⟨0x1310, 1, 0x03, 0x03, .u8, .rw, .integrator, 17, [], [(0, 63)], 0x00, true⟩,  -- Statistics vector
  ⟨0x1310, 1, 0x04, 0x04, .u8, .rw, .integrator, 18, [], [(0, 63)], 0x00, true⟩,  -- Compression vector
  ⟨0x1310, 1, 0x05, 0x05, .u8, .rw, .integrator, 19, [], [(0, 63)], 0x00, true⟩,  -- Scan-out vector
  ⟨0x1310, 1, 0x06, 0x06, .u8, .rw, .integrator, 20, [], [(0, 63)], 0x00, true⟩,  -- Position vector
  ⟨0x1310, 1, 0x07, 0x07, .bits 1, .rw, .integrator, 1, [], [], 0x80, true⟩,  -- INT_N sources
  ⟨0x1311, 1, 0x00, 0x00, .u8, .ro, .observer, 4, [], [], 0x00, false⟩,  -- Highest subindex
  ⟨0x1311, 1, 0x01, 0x01, .bits 2, .ro, .observer, 0, [], [], 0x00, false⟩,  -- Statistics
  ⟨0x1311, 1, 0x02, 0x02, .bits 8, .ro, .observer, 0, [], [], 0x00, false⟩,  -- Compression
  ⟨0x1311, 1, 0x03, 0x03, .blob [(24, 24)], .ro, .observer, 0, (List.replicate 24 0), [], 0x00, false⟩,  -- Scan-out
  ⟨0x1311, 1, 0x04, 0x04, .blob [(24, 24)], .ro, .observer, 0, (List.replicate 24 0), [], 0x00, false⟩]  -- Position

/-- Dictionary rows of indices 0x13XX. -/
def dict13 : List EntryDef := dict13a

/-- Dictionary rows of indices 0x14XX, part 1. -/
def dict14a : List EntryDef := [
  ⟨0x1400, 1, 0x00, 0x00, .u8, .ro, .observer, 3, [], [], 0x00, false⟩,  -- Highest subindex
  ⟨0x1400, 1, 0x01, 0x01, .u64, .ro, .observer, 0, [], [], 0x00, false⟩,  -- Manifests issued
  ⟨0x1400, 1, 0x02, 0x02, .u32, .ro, .observer, 0, [], [], 0x00, false⟩,  -- Chain starts
  ⟨0x1400, 1, 0x03, 0x03, .u32, .ro, .observer, 0, [], [], 0x00, false⟩,  -- Late manifests
  ⟨0x1402, 1, 0x00, 0x00, .u8, .ro, .observer, 16, [], [], 0x00, false⟩,  -- Highest subindex
  ⟨0x1402, 1, 0x01, 0x10, .blob [(0, 616)], .ro, .observer, 0, [], [], 0x00, false⟩,  -- Latest manifest
  ⟨0x1404, 1, 0x00, 0x00, .u8, .ro, .observer, 5, [], [], 0x00, false⟩,  -- Highest subindex
  ⟨0x1404, 1, 0x01, 0x01, .u8, .rw, .custodian, 0, [], [(0, 1)], 0x00, false⟩,  -- Encrypt recordings
  ⟨0x1404, 1, 0x02, 0x05, .blob [(0, 0), (32, 32)], .rw, .custodian, 0, [], [], 0x00, false⟩,  -- Recipient key 0–3
  ⟨0x1406, 1, 0x00, 0x00, .u8, .ro, .observer, 2, [], [], 0x00, false⟩,  -- Highest subindex
  ⟨0x1406, 1, 0x01, 0x01, .blob [(32, 32)], .wo, .observer, 0, (List.replicate 32 0), [], 0x00, false⟩,  -- Attestation nonce
  ⟨0x1406, 1, 0x02, 0x02, .blob [(792, 792)], .ro, .observer, 0, [], [], 0x00, false⟩]  -- Attestation report

/-- Dictionary rows of indices 0x14XX. -/
def dict14 : List EntryDef := dict14a

end Sys2Proof.Machine
end

