-- ==== Sys2Proof/Machine/DictOutput.lean ====
section
/-!
DEFINITION. Sys2Proof/Machine/DictOutput.lean: rows of the object dictionary, copied from the tables of the manual: outputs and codec (R463, R499).
Each row: first index, number of instances (one index each), first and last subindex, type, access, minimum role, default
(a number, or octets), the values a write may take (empty: every value of the type), the reserved bits of a BITS entry, and
whether the parameter store holds it (R124). A default the tables leave open ("—") is 0 or empty (DESIGN CHOICE, log entry 3).
-/

namespace Sys2Proof.Machine

/-- Dictionary rows of indices 0x41XX, part 1. -/
def dict41a : List EntryDef := [
  ⟨0x4100, 24, 0x00, 0x00, .u8, .ro, .observer, 14, [], [], 0x00, false⟩,  -- Highest subindex
  ⟨0x4100, 24, 0x01, 0x01, .u8, .rwc, .integrator, 0, [], [(0, 1)], 0x00, true⟩,  -- Enable
  ⟨0x4100, 24, 0x02, 0x02, .enum, .rwc, .integrator, 0, [], [], 0x00, true⟩,  -- Source kind
  ⟨0x4100, 24, 0x03, 0x03, .u8, .rwc, .integrator, 0, [], [(0, 15)], 0x00, true⟩,  -- Context
  ⟨0x4100, 24, 0x04, 0x04, .u8, .rwc, .integrator, 0, [], [(0, 15)], 0x00, true⟩,  -- Binding
  ⟨0x4100, 24, 0x05, 0x05, .u8, .rwc, .integrator, 0, [], [(0, 3)], 0x00, true⟩,  -- SDI input
  ⟨0x4100, 24, 0x06, 0x06, .enum, .rwc, .integrator, 1, [], [], 0x00, true⟩,  -- Selection mode
  ⟨0x4100, 24, 0x07, 0x07, .u32, .rwc, .integrator, 0, [], [], 0x00, true⟩,  -- Presentation delay
  ⟨0x4100, 24, 0x08, 0x08, .u8, .rwc, .integrator, 1, [], [(1, 16)], 0x00, true⟩,  -- Frame divisor
  ⟨0x4100, 24, 0x09, 0x09, .u8, .rwc, .integrator, 0, [], [], 0x00, true⟩,  -- Divisor phase
  ⟨0x4100, 24, 0x0A, 0x0A, .u16, .rw, .integrator, 0, [], [], 0x00, true⟩,  -- Line-match line
  ⟨0x4100, 24, 0x0B, 0x0B, .blob [(6, 6)], .rwc, .integrator, 0, [64, 0, 0, 2, 0, 2], [], 0x00, true⟩,  -- Test codes
  ⟨0x4100, 24, 0x0C, 0x0C, .blob [(0, 1024)], .rwc, .operator, 0, [], [], 0x00, true⟩,  -- Host ancillary
  ⟨0x4100, 24, 0x0D, 0x0D, .u16, .rw, .integrator, 50, [], [(0, 0), (2, 10000)], 0x00, true⟩,  -- Freeze threshold
  ⟨0x4100, 24, 0x0E, 0x0E, .bits 1, .rw, .integrator, 0, [], [], 0xF0, true⟩,  -- Interrupt mask
  ⟨0x4120, 24, 0x00, 0x00, .u8, .ro, .observer, 4, [], [], 0x00, false⟩,  -- Highest subindex
  ⟨0x4120, 24, 0x01, 0x01, .enum, .rwc, .integrator, 11, [], [(0, 17)], 0x00, true⟩,  -- Timing format
  ⟨0x4120, 24, 0x02, 0x02, .i32, .rwc, .integrator, 0, [], [(-500000000, 500000000)], 0x00, true⟩,  -- Origin offset
  ⟨0x4120, 24, 0x03, 0x03, .blob [(0, 0), (32, 32)], .rwc, .integrator, 0, [], [], 0x00, true⟩,  -- Custom timing
  ⟨0x4120, 24, 0x04, 0x04, .blob [(32, 32)], .ro, .observer, 0, (List.replicate 32 0), [], 0x00, false⟩,  -- Timing in use
  ⟨0x4140, 24, 0x00, 0x00, .u8, .ro, .observer, 15, [], [], 0x00, false⟩,  -- Highest subindex
  ⟨0x4140, 24, 0x01, 0x01, .enum, .ro, .observer, 0, [], [], 0x00, false⟩,  -- State
  ⟨0x4140, 24, 0x02, 0x02, .u64, .ro, .observer, 0, [], [], 0x00, false⟩,  -- Output frame index
  ⟨0x4140, 24, 0x03, 0x03, .t96, .ro, .observer, 0, [], [], 0x00, false⟩,  -- Last SOB
  ⟨0x4140, 24, 0x04, 0x04, .u32, .ro, .observer, 0, [], [], 0x00, false⟩,  -- Frame shown
  ⟨0x4140, 24, 0x05, 0x05, .u32, .ro, .observer, 0, [], [], 0x00, false⟩,  -- Fallback frame
  ⟨0x4140, 24, 0x06, 0x06, .u32, .ro, .observer, 0, [], [], 0x00, false⟩,  -- Last signature
  ⟨0x4140, 24, 0x07, 0x07, .i32, .ro, .observer, 0, [], [], 0x00, false⟩,  -- Selection margin
  ⟨0x4140, 24, 0x08, 0x08, .u32, .ro, .observer, 0, [], [], 0x00, false⟩,  -- Chase offset
  ⟨0x4140, 24, 0x09, 0x09, .u64, .ro, .observer, 0, [], [], 0x00, false⟩,  -- Output frames
  ⟨0x4140, 24, 0x0A, 0x0A, .u32, .ro, .observer, 0, [], [], 0x00, false⟩,  -- Fallback frames
  ⟨0x4140, 24, 0x0B, 0x0B, .u32, .ro, .observer, 0, [], [], 0x00, false⟩,  -- Underruns
  ⟨0x4140, 24, 0x0C, 0x0C, .u32, .ro, .observer, 0, [], [], 0x00, false⟩,  -- Store drops
  ⟨0x4140, 24, 0x0D, 0x0D, .u32, .ro, .observer, 0, [], [], 0x00, false⟩,  -- Frames overtaken
  ⟨0x4140, 24, 0x0E, 0x0E, .enum, .ro, .observer, 0, [], [], 0x00, false⟩,  -- Freeze alarm
  ⟨0x4140, 24, 0x0F, 0x0F, .u32, .ro, .observer, 0, [], [], 0x00, false⟩,  -- Twin mismatches
  ⟨0x4160, 8, 0x00, 0x00, .u8, .ro, .observer, 6, [], [], 0x00, false⟩,  -- Highest subindex
  ⟨0x4160, 8, 0x01, 0x04, .bits 4, .rw, .integrator, 0, [], [], 0xFF000000, true⟩,  -- Members, positions 0–3
  ⟨0x4160, 8, 0x05, 0x05, .u32, .ro, .observer, 0, [], [], 0x00, false⟩,  -- Switches
  ⟨0x4160, 8, 0x06, 0x06, .u16, .ro, .observer, 0, [], [], 0x00, false⟩]  -- Last switch line

/-- Dictionary rows of indices 0x41XX, part 2. -/
def dict41b : List EntryDef := [
  ⟨0x4170, 16, 0x00, 0x00, .u8, .ro, .observer, 4, [], [], 0x00, false⟩,  -- Highest subindex
  ⟨0x4170, 16, 0x01, 0x01, .u8, .rwc, .integrator, 255, [], [(0, 23), (255, 255)], 0x00, true⟩,  -- Channel
  ⟨0x4170, 16, 0x02, 0x02, .u8, .rwc, .integrator, 0, [], [(0, 3)], 0x00, true⟩,  -- Sub-image
  ⟨0x4170, 16, 0x03, 0x03, .enum, .ro, .observer, 3, [], [], 0x00, false⟩,  -- State
  ⟨0x4170, 16, 0x04, 0x04, .enum, .ro, .observer, 0, [], [], 0x00, false⟩,  -- Link rate
  ⟨0x4180, 4, 0x00, 0x00, .u8, .ro, .observer, 8, [], [], 0x00, false⟩,  -- Highest subindex
  ⟨0x4180, 4, 0x01, 0x01, .u8, .rw, .integrator, 0, [], [(0, 1)], 0x00, true⟩,  -- Enable
  ⟨0x4180, 4, 0x02, 0x02, .enum, .ro, .observer, 0, [], [], 0x00, false⟩,  -- State
  ⟨0x4180, 4, 0x03, 0x03, .enum, .ro, .observer, 0, [], [], 0x00, false⟩,  -- Format detected
  ⟨0x4180, 4, 0x04, 0x04, .u16, .rw, .integrator, 500, [], [(0, 10000)], 0x00, true⟩,  -- Hold time
  ⟨0x4180, 4, 0x05, 0x05, .u64, .ro, .observer, 0, [], [], 0x00, false⟩,  -- Frames received
  ⟨0x4180, 4, 0x06, 0x06, .u32, .ro, .observer, 0, [], [], 0x00, false⟩,  -- CRC error lines
  ⟨0x4180, 4, 0x07, 0x07, .blob [(4, 4)], .ro, .observer, 0, [0, 0, 0, 0], [], 0x00, false⟩,  -- Last time code
  ⟨0x4180, 4, 0x08, 0x08, .t96, .ro, .observer, 0, [], [], 0x00, false⟩,  -- Last frame time
  ⟨0x4188, 2, 0x00, 0x00, .u8, .ro, .observer, 12, [], [], 0x00, false⟩,  -- Highest subindex
  ⟨0x4188, 2, 0x01, 0x01, .u8, .rwc, .integrator, 255, [], [(0, 23), (255, 255)], 0x00, true⟩,  -- Channel
  ⟨0x4188, 2, 0x02, 0x02, .u8, .rw, .integrator, 0, [], [(0, 1)], 0x00, true⟩,  -- Enable
  ⟨0x4188, 2, 0x03, 0x03, .u8, .rw, .integrator, 4, [], [(1, 2), (4, 4)], 0x00, true⟩,  -- Lanes
  ⟨0x4188, 2, 0x04, 0x04, .enum, .rw, .integrator, 7, [], [(0, 7)], 0x00, true⟩,  -- Link rate
  ⟨0x4188, 2, 0x05, 0x05, .u8, .rwc, .integrator, 10, [], [(8, 8), (10, 10)], 0x00, true⟩,  -- Bits per colour
  ⟨0x4188, 2, 0x06, 0x06, .enum, .rw, .integrator, 0, [], [(0, 2)], 0x00, true⟩,  -- PSR mode
  ⟨0x4188, 2, 0x07, 0x07, .u8, .rw, .integrator, 4, [], [(2, 255)], 0x00, true⟩,  -- PSR idle count
  ⟨0x4188, 2, 0x08, 0x08, .u8, .rw, .operator, 0, [], [(0, 1)], 0x00, true⟩,  -- PSR force
  ⟨0x4188, 2, 0x09, 0x09, .u32, .rw, .integrator, 20000, [], [(200, 50000)], 0x00, true⟩,  -- Backlight frequency
  ⟨0x4188, 2, 0x0A, 0x0A, .u16, .rw, .operator, 4095, [], [(0, 4095)], 0x00, true⟩,  -- Backlight duty
  ⟨0x4188, 2, 0x0B, 0x0B, .blob [(8, 8)], .rw, .integrator, 0, [200, 0, 10, 0, 10, 0, 244, 1], [], 0x00, true⟩,  -- Power sequence
  ⟨0x4188, 2, 0x0C, 0x0C, .enum, .ro, .observer, 0, [], [], 0x00, false⟩,  -- Port state
  ⟨0x4190, 8, 0x00, 0x00, .u8, .ro, .observer, 15, [], [], 0x00, false⟩,  -- Highest subindex
  ⟨0x4190, 8, 0x01, 0x01, .u8, .rwc, .integrator, 255, [], [(0, 23), (255, 255)], 0x00, true⟩,  -- Channel
  ⟨0x4190, 8, 0x02, 0x02, .u8, .rw, .integrator, 255, [], [(0, 7), (255, 255)], 0x00, true⟩,  -- Path A quad
  ⟨0x4190, 8, 0x03, 0x03, .u8, .rw, .integrator, 255, [], [(0, 7), (255, 255)], 0x00, true⟩,  -- Path B quad
  ⟨0x4190, 8, 0x04, 0x04, .blob [(28, 28)], .rw, .integrator, 0, (List.replicate 28 0), [], 0x00, true⟩,  -- Addressing
  ⟨0x4190, 8, 0x05, 0x05, .u8, .rw, .integrator, 96, [], [(96, 127)], 0x00, true⟩,  -- Payload type
  ⟨0x4190, 8, 0x06, 0x06, .enum, .rw, .integrator, 0, [], [(0, 1)], 0x00, true⟩,  -- Sender type
  ⟨0x4190, 8, 0x07, 0x07, .u32, .rw, .integrator, 0, [], [], 0x00, true⟩,  -- TRO
  ⟨0x4190, 8, 0x08, 0x08, .enum, .ro, .observer, 0, [], [], 0x00, false⟩,  -- State
  ⟨0x4190, 8, 0x09, 0x09, .u8, .rw, .integrator, 0, [], [(0, 1)], 0x00, true⟩,  -- Ancillary stream
  ⟨0x4190, 8, 0x0A, 0x0A, .blob [(28, 28)], .rw, .integrator, 0, (List.replicate 28 0), [], 0x00, true⟩,  -- Ancillary addressing
  ⟨0x4190, 8, 0x0B, 0x0B, .blob [(0, 1400)], .rw, .integrator, 0, [], [], 0x00, true⟩,  -- Packet template
  ⟨0x4190, 8, 0x0C, 0x0C, .u64, .ro, .observer, 0, [], [], 0x00, false⟩]  -- Packets sent

/-- Dictionary rows of indices 0x41XX, part 3. -/
def dict41c : List EntryDef := [
  ⟨0x4190, 8, 0x0D, 0x0D, .u32, .ro, .observer, 0, [], [], 0x00, false⟩,  -- Packets late
  ⟨0x4190, 8, 0x0E, 0x0E, .u32, .ro, .observer, 0, [], [], 0x00, false⟩,  -- Path faults
  ⟨0x4190, 8, 0x0F, 0x0F, .u32, .ro, .observer, 0, [], [], 0x00, false⟩,  -- Packets per frame
  ⟨0x4198, 8, 0x00, 0x00, .u8, .ro, .observer, 7, [], [], 0x00, false⟩,  -- Highest subindex
  ⟨0x4198, 8, 0x01, 0x01, .u8, .rw, .integrator, 0, [], [(0, 1)], 0x00, true⟩,  -- Enable
  ⟨0x4198, 8, 0x02, 0x02, .u8, .rw, .integrator, 255, [], [(0, 7), (255, 255)], 0x00, true⟩,  -- Path A quad
  ⟨0x4198, 8, 0x03, 0x03, .u8, .rw, .integrator, 255, [], [(0, 7), (255, 255)], 0x00, true⟩,  -- Path B quad
  ⟨0x4198, 8, 0x04, 0x04, .blob [(28, 28)], .rw, .integrator, 0, (List.replicate 28 0), [], 0x00, true⟩,  -- Addressing
  ⟨0x4198, 8, 0x05, 0x05, .enum, .rw, .integrator, 1, [], [(0, 1)], 0x00, true⟩,  -- Encoding
  ⟨0x4198, 8, 0x06, 0x06, .enum, .rw, .integrator, 0, [], [(0, 1)], 0x00, true⟩,  -- Packet time
  ⟨0x4198, 8, 0x07, 0x07, .u8, .rw, .integrator, 2, [], [(1, 64)], 0x00, true⟩,  -- Channels
  ⟨0x41B0, 1, 0x00, 0x00, .u8, .ro, .observer, 3, [], [], 0x00, false⟩,  -- Highest subindex
  ⟨0x41B0, 1, 0x01, 0x01, .bits 4, .ro, .observer, 0, [], [], 0x00, false⟩,  -- Channels enabled
  ⟨0x41B0, 1, 0x02, 0x02, .u8, .rw, .integrator, 1, [], [(0, 1)], 0x00, true⟩,  -- Twin compare
  ⟨0x41B0, 1, 0x03, 0x03, .u8, .ro, .observer, 0, [], [], 0x00, false⟩]  -- Reserved launch entries in use

/-- Dictionary rows of indices 0x41XX. -/
def dict41 : List EntryDef := dict41a ++ dict41b ++ dict41c

/-- Dictionary rows of indices 0x44XX, part 1. -/
def dict44a : List EntryDef := [
  ⟨0x4400, 16, 0x00, 0x00, .u8, .ro, .observer, 28, [], [], 0x00, false⟩,  -- Highest subindex
  ⟨0x4400, 16, 0x01, 0x01, .u8, .rwc, .integrator, 0, [], [(0, 1)], 0x00, true⟩,  -- Enable
  ⟨0x4400, 1, 0x02, 0x02, .u8, .rwc, .integrator, 0, [], [(0, 3)], 0x00, true⟩,  -- Core
  ⟨0x4400, 16, 0x03, 0x03, .u8, .rwc, .integrator, 0, [], [(0, 15)], 0x00, true⟩,  -- Context
  ⟨0x4400, 16, 0x04, 0x04, .u8, .rwc, .integrator, 0, [], [(0, 15)], 0x00, true⟩,  -- Binding
  ⟨0x4400, 16, 0x05, 0x05, .u8, .rwc, .integrator, 1, [], [(1, 16)], 0x00, true⟩,  -- Frame divisor
  ⟨0x4400, 16, 0x06, 0x06, .u8, .rwc, .integrator, 0, [], [], 0x00, true⟩,  -- Divisor phase
  ⟨0x4400, 16, 0x07, 0x07, .enum, .rwc, .integrator, 3, [], [(0, 4)], 0x00, true⟩,  -- Profile
  ⟨0x4400, 16, 0x08, 0x08, .enum, .rwc, .integrator, 1, [], [(0, 1)], 0x00, true⟩,  -- Tier
  ⟨0x4400, 16, 0x09, 0x09, .enum, .rwc, .integrator, 1, [], [], 0x00, true⟩,  -- Structure
  ⟨0x4400, 16, 0x0A, 0x0A, .u8, .rwc, .integrator, 1, [], [(1, 4)], 0x00, true⟩,  -- References
  ⟨0x4400, 16, 0x0B, 0x0B, .u16, .rwc, .integrator, 60, [], [], 0x00, true⟩,  -- IRAP period
  ⟨0x4400, 16, 0x0C, 0x0C, .enum, .rwc, .integrator, 0, [], [(0, 1)], 0x00, true⟩,  -- IRAP kind
  ⟨0x4400, 16, 0x0D, 0x0D, .enum, .rwc, .integrator, 1, [], [(0, 2)], 0x00, true⟩,  -- Rate mode
  ⟨0x4400, 16, 0x0E, 0x0E, .u32, .rwc, .operator, 400000, [], [(1000, 3000000)], 0x00, true⟩,  -- Target bit rate
  ⟨0x4400, 16, 0x0F, 0x0F, .u32, .rwc, .operator, 600000, [], [(1000, 3000000)], 0x00, true⟩,  -- Maximum bit rate
  ⟨0x4400, 16, 0x10, 0x10, .u16, .rwc, .integrator, 1000, [], [(10, 10000)], 0x00, true⟩,  -- CPB length
  ⟨0x4400, 16, 0x11, 0x11, .u8, .rwc, .operator, 22, [], [(0, 51)], 0x00, true⟩,  -- Intra QP
  ⟨0x4400, 16, 0x12, 0x12, .u8, .rwc, .operator, 24, [], [(0, 51)], 0x00, true⟩,  -- Inter QP
  ⟨0x4400, 16, 0x13, 0x13, .u8, .rwc, .integrator, 0, [], [(0, 51)], 0x00, true⟩,  -- QP minimum
  ⟨0x4400, 16, 0x14, 0x14, .u8, .rwc, .integrator, 51, [], [(0, 51)], 0x00, true⟩,  -- QP maximum
  ⟨0x4400, 16, 0x15, 0x15, .u32, .rwc, .integrator, 0, [], [], 0x00, true⟩,  -- Picture size cap
  ⟨0x4400, 16, 0x16, 0x16, .u8, .rwc, .integrator, 1, [], [(1, 68)], 0x00, true⟩,  -- Slice rows
  ⟨0x4400, 16, 0x17, 0x17, .blob [(8, 8)], .wo, .operator, 0, (List.replicate 8 0), [], 0x00, false⟩,  -- Mark request
  ⟨0x4400, 16, 0x18, 0x18, .enum, .wo, .operator, 0, [], [(0, 2)], 0x00, false⟩,  -- Recovery request
  ⟨0x4400, 16, 0x19, 0x19, .u8, .rwc, .integrator, 0, [], [(0, 1)], 0x00, true⟩,  -- Auto recovery
  ⟨0x4400, 16, 0x1A, 0x1A, .bits 1, .rwc, .integrator, 1, [], [], 0xFC, true⟩,  -- Destinations
  ⟨0x4400, 16, 0x1B, 0x1B, .blob [(0, 0), (28, 28)], .rwc, .integrator, 0, [], [], 0x00, true⟩,  -- HDR SEI payloads
  ⟨0x4400, 16, 0x1C, 0x1C, .u8, .rwc, .integrator, 0, [], [(0, 1)], 0x00, true⟩,  -- Picture hash SEI
  ⟨0x4401, 1, 0x02, 0x02, .u8, .rwc, .integrator, 1, [], [(0, 3)], 0x00, true⟩,  -- Core
  ⟨0x4402, 1, 0x02, 0x02, .u8, .rwc, .integrator, 2, [], [(0, 3)], 0x00, true⟩,  -- Core
  ⟨0x4403, 1, 0x02, 0x02, .u8, .rwc, .integrator, 3, [], [(0, 3)], 0x00, true⟩,  -- Core
  ⟨0x4404, 1, 0x02, 0x02, .u8, .rwc, .integrator, 0, [], [(0, 3)], 0x00, true⟩,  -- Core
  ⟨0x4405, 1, 0x02, 0x02, .u8, .rwc, .integrator, 1, [], [(0, 3)], 0x00, true⟩,  -- Core
  ⟨0x4406, 1, 0x02, 0x02, .u8, .rwc, .integrator, 2, [], [(0, 3)], 0x00, true⟩,  -- Core
  ⟨0x4407, 1, 0x02, 0x02, .u8, .rwc, .integrator, 3, [], [(0, 3)], 0x00, true⟩,  -- Core
  ⟨0x4408, 1, 0x02, 0x02, .u8, .rwc, .integrator, 0, [], [(0, 3)], 0x00, true⟩,  -- Core
  ⟨0x4409, 1, 0x02, 0x02, .u8, .rwc, .integrator, 1, [], [(0, 3)], 0x00, true⟩,  -- Core
  ⟨0x440A, 1, 0x02, 0x02, .u8, .rwc, .integrator, 2, [], [(0, 3)], 0x00, true⟩,  -- Core
  ⟨0x440B, 1, 0x02, 0x02, .u8, .rwc, .integrator, 3, [], [(0, 3)], 0x00, true⟩]  -- Core

/-- Dictionary rows of indices 0x44XX, part 2. -/
def dict44b : List EntryDef := [
  ⟨0x440C, 1, 0x02, 0x02, .u8, .rwc, .integrator, 0, [], [(0, 3)], 0x00, true⟩,  -- Core
  ⟨0x440D, 1, 0x02, 0x02, .u8, .rwc, .integrator, 1, [], [(0, 3)], 0x00, true⟩,  -- Core
  ⟨0x440E, 1, 0x02, 0x02, .u8, .rwc, .integrator, 2, [], [(0, 3)], 0x00, true⟩,  -- Core
  ⟨0x440F, 1, 0x02, 0x02, .u8, .rwc, .integrator, 3, [], [(0, 3)], 0x00, true⟩,  -- Core
  ⟨0x4420, 16, 0x00, 0x00, .u8, .ro, .observer, 13, [], [], 0x00, false⟩,  -- Highest subindex
  ⟨0x4420, 16, 0x01, 0x01, .enum, .ro, .observer, 0, [], [], 0x00, false⟩,  -- State
  ⟨0x4420, 16, 0x02, 0x02, .u8, .ro, .observer, 0, [], [], 0x00, false⟩,  -- Level
  ⟨0x4420, 16, 0x03, 0x03, .u64, .ro, .observer, 0, [], [], 0x00, false⟩,  -- Pictures
  ⟨0x4420, 16, 0x04, 0x04, .u64, .ro, .observer, 0, [], [], 0x00, false⟩,  -- Bytes
  ⟨0x4420, 16, 0x05, 0x05, .u32, .ro, .observer, 0, [], [], 0x00, false⟩,  -- Fallback pictures
  ⟨0x4420, 16, 0x06, 0x06, .u32, .ro, .observer, 0, [], [], 0x00, false⟩,  -- Frames overtaken
  ⟨0x4420, 16, 0x07, 0x07, .u32, .ro, .observer, 0, [], [], 0x00, false⟩,  -- Late pictures
  ⟨0x4420, 16, 0x08, 0x08, .u32, .ro, .observer, 0, [], [], 0x00, false⟩,  -- Emergency pictures
  ⟨0x4420, 16, 0x09, 0x09, .blob [(8, 8)], .ro, .observer, 0, (List.replicate 8 255), [], 0x00, false⟩,  -- Marks held
  ⟨0x4420, 16, 0x0A, 0x0A, .blob [(64, 64)], .ro, .observer, 0, [], [], 0x00, false⟩,  -- Last record header
  ⟨0x4420, 16, 0x0B, 0x0B, .u32, .ro, .observer, 0, [], [], 0x00, false⟩,  -- Mean latency
  ⟨0x4420, 16, 0x0C, 0x0C, .u32, .ro, .observer, 0, [], [], 0x00, false⟩,  -- CPB fullness
  ⟨0x4420, 16, 0x0D, 0x0D, .u32, .ro, .observer, 0, [], [], 0x00, false⟩,  -- Records discarded
  ⟨0x4440, 8, 0x00, 0x00, .u8, .ro, .observer, 14, [], [], 0x00, false⟩,  -- Highest subindex
  ⟨0x4440, 8, 0x01, 0x01, .enum, .rwc, .integrator, 0, [], [(0, 2)], 0x00, true⟩,  -- Input
  ⟨0x4440, 8, 0x02, 0x02, .enum, .rwc, .integrator, 0, [], [(0, 1)], 0x00, true⟩,  -- Source
  ⟨0x4440, 8, 0x03, 0x03, .enum, .rwc, .integrator, 0, [], [(0, 1)], 0x00, true⟩,  -- Input format
  ⟨0x4440, 8, 0x04, 0x04, .u8, .rwc, .integrator, 0, [], [], 0x00, true⟩,  -- Felley stream
  ⟨0x4440, 8, 0x05, 0x05, .enum, .rwc, .integrator, 0, [], [(0, 1)], 0x00, true⟩,  -- Pacing
  ⟨0x4440, 8, 0x06, 0x06, .u32, .rwc, .integrator, 0x00FE502B, [], [(4166667, 1000000000)], 0x00, true⟩,  -- Frame period
  ⟨0x4440, 8, 0x07, 0x07, .t96, .rw, .operator, 0, [], [], 0x00, true⟩,  -- Start time
  ⟨0x4440, 8, 0x08, 0x08, .u8, .wo, .operator, 0, [], [], 0x00, false⟩,  -- Seek
  ⟨0x4440, 1, 0x09, 0x09, .u8, .rwc, .integrator, 4, [], [(4, 5)], 0x00, true⟩,  -- Core
  ⟨0x4440, 8, 0x0A, 0x0A, .blob [(4, 4)], .rwc, .integrator, 0, [0, 30, 224, 16], [], 0x00, true⟩,  -- Maximum picture
  ⟨0x4440, 8, 0x0B, 0x0B, .u8, .rwc, .integrator, 0, [], [(0, 1)], 0x00, true⟩,  -- Feedback
  ⟨0x4440, 8, 0x0C, 0x0C, .u8, .rwc, .integrator, 4, [], [(1, 6)], 0x00, true⟩,  -- Maximum references
  ⟨0x4440, 8, 0x0D, 0x0D, .enum, .rwc, .integrator, 0, [], [(0, 1)], 0x00, true⟩,  -- Maximum format
  ⟨0x4440, 8, 0x0E, 0x0E, .u16, .rwc, .integrator, 64, [], [(8, 1024)], 0x00, true⟩,  -- Ring size
  ⟨0x4441, 1, 0x09, 0x09, .u8, .rwc, .integrator, 5, [], [(4, 5)], 0x00, true⟩,  -- Core
  ⟨0x4442, 1, 0x09, 0x09, .u8, .rwc, .integrator, 4, [], [(4, 5)], 0x00, true⟩,  -- Core
  ⟨0x4443, 1, 0x09, 0x09, .u8, .rwc, .integrator, 5, [], [(4, 5)], 0x00, true⟩,  -- Core
  ⟨0x4444, 1, 0x09, 0x09, .u8, .rwc, .integrator, 4, [], [(4, 5)], 0x00, true⟩,  -- Core
  ⟨0x4445, 1, 0x09, 0x09, .u8, .rwc, .integrator, 5, [], [(4, 5)], 0x00, true⟩,  -- Core
  ⟨0x4446, 1, 0x09, 0x09, .u8, .rwc, .integrator, 4, [], [(4, 5)], 0x00, true⟩,  -- Core
  ⟨0x4447, 1, 0x09, 0x09, .u8, .rwc, .integrator, 5, [], [(4, 5)], 0x00, true⟩]  -- Core

/-- Dictionary rows of indices 0x44XX, part 3. -/
def dict44c : List EntryDef := [
  ⟨0x4450, 8, 0x00, 0x00, .u8, .ro, .observer, 12, [], [], 0x00, false⟩,  -- Highest subindex
  ⟨0x4450, 8, 0x01, 0x01, .enum, .ro, .observer, 0, [], [], 0x00, false⟩,  -- State
  ⟨0x4450, 8, 0x02, 0x02, .u8, .ro, .observer, 0, [], [], 0x00, false⟩,  -- Profile
  ⟨0x4450, 8, 0x03, 0x03, .u8, .ro, .observer, 0, [], [], 0x00, false⟩,  -- Level
  ⟨0x4450, 8, 0x04, 0x04, .u64, .ro, .observer, 0, [], [], 0x00, false⟩,  -- Pictures decoded
  ⟨0x4450, 8, 0x05, 0x05, .u32, .ro, .observer, 0, [], [], 0x00, false⟩,  -- Concealed pictures
  ⟨0x4450, 8, 0x06, 0x06, .u64, .ro, .observer, 0, [], [], 0x00, false⟩,  -- Concealed CTUs
  ⟨0x4450, 8, 0x07, 0x07, .u32, .ro, .observer, 0, [], [], 0x00, false⟩,  -- Tainted pictures
  ⟨0x4450, 8, 0x08, 0x08, .u32, .ro, .observer, 0, [], [], 0x00, false⟩,  -- Faults
  ⟨0x4450, 8, 0x09, 0x09, .u32, .ro, .observer, 0, [], [], 0x00, false⟩,  -- Missing pictures
  ⟨0x4450, 8, 0x0A, 0x0A, .u32, .ro, .observer, 0, [], [], 0x00, false⟩,  -- Late pictures
  ⟨0x4450, 8, 0x0B, 0x0B, .bits 1, .ro, .observer, 0, [], [], 0x00, false⟩,  -- Last picture status
  ⟨0x4450, 8, 0x0C, 0x0C, .blob [(4, 4)], .ro, .observer, 0, [0, 0, 0, 0], [], 0x00, false⟩,  -- Colour code points
  ⟨0x4460, 6, 0x00, 0x00, .u8, .ro, .observer, 6, [], [], 0x00, false⟩,  -- Highest subindex
  ⟨0x4460, 6, 0x01, 0x01, .enum, .ro, .observer, 0, [], [], 0x00, false⟩,  -- State
  ⟨0x4460, 6, 0x02, 0x02, .bits 2, .ro, .observer, 0, [], [], 0x00, false⟩,  -- Stream contexts
  ⟨0x4460, 6, 0x03, 0x03, .u16, .ro, .observer, 0, [], [], 0x00, false⟩,  -- Admitted load
  ⟨0x4460, 6, 0x04, 0x04, .u64, .ro, .observer, 0, [], [], 0x00, false⟩,  -- Pictures
  ⟨0x4460, 6, 0x05, 0x05, .u64, .ro, .observer, 0, [], [], 0x00, false⟩,  -- Context switches
  ⟨0x4460, 6, 0x06, 0x06, .u64, .ro, .observer, 0, [], [], 0x00, false⟩,  -- Busy time
  ⟨0x4470, 1, 0x00, 0x00, .u8, .ro, .observer, 4, [], [], 0x00, false⟩,  -- Highest subindex
  ⟨0x4470, 1, 0x01, 0x01, .u16, .rw, .integrator, 2048, [], [(256, 16384)], 0x00, true⟩,  -- Pool size
  ⟨0x4470, 1, 0x02, 0x02, .u64, .ro, .observer, 0, [], [], 0x00, false⟩,  -- Bytes allocated
  ⟨0x4470, 1, 0x03, 0x03, .u8, .ro, .observer, 0, [], [], 0x00, false⟩,  -- Slots allocated
  ⟨0x4470, 1, 0x04, 0x04, .f32, .ro, .observer, 0, [], [], 0x00, false⟩]  -- Measured ratio

/-- Dictionary rows of indices 0x44XX. -/
def dict44 : List EntryDef := dict44a ++ dict44b ++ dict44c

end Sys2Proof.Machine
end

