-- ==== Sys2Proof/Machine/DictPorts.lean ====
section
/-!
DEFINITION. Sys2Proof/Machine/DictPorts.lean: rows of the object dictionary, copied from the tables of the manual: lanes, audio, position feedback, mailboxes and power states (R250, R613, R634, R661).
Each row: first index, number of instances (one index each), first and last subindex, type, access, minimum role, default
(a number, or octets), the values a write may take (empty: every value of the type), the reserved bits of a BITS entry, and
whether the parameter store holds it (R124). A default the tables leave open ("—") is 0 or empty (DESIGN CHOICE, log entry 3).
-/

namespace Sys2Proof.Machine

/-- Dictionary rows of indices 0x24XX, part 1. -/
def dict24a : List EntryDef := [
  ⟨0x2400, 48, 0x00, 0x00, .u8, .ro, .observer, 15, [], [], 0x00, false⟩,  -- Highest subindex
  ⟨0x2400, 48, 0x01, 0x01, .enum, .rw, .integrator, 3, [], [(0, 3)], 0x00, true⟩,  -- Requested state
  ⟨0x2400, 48, 0x02, 0x02, .enum, .ro, .observer, 3, [], [], 0x00, false⟩,  -- Present state
  ⟨0x2400, 48, 0x03, 0x03, .bits 1, .ro, .observer, 0, [], [], 0x00, false⟩,  -- Lane flags
  ⟨0x2400, 48, 0x04, 0x04, .u8, .ro, .observer, 255, [], [], 0x00, false⟩,  -- Logical index
  ⟨0x2400, 48, 0x05, 0x05, .enum, .rw, .integrator, 0, [], [(0, 2)], 0x00, true⟩,  -- Polarity
  ⟨0x2400, 48, 0x06, 0x06, .u8, .rw, .integrator, 80, [], [(50, 150)], 0x00, true⟩,  -- LOS threshold
  ⟨0x2400, 48, 0x07, 0x07, .enum, .rw, .integrator, 0, [], [(0, 1)], 0x00, false⟩,  -- Adaptation
  ⟨0x2400, 48, 0x08, 0x08, .u8, .ro, .observer, 0, [], [], 0x00, false⟩,  -- CTLE peaking
  ⟨0x2400, 48, 0x09, 0x09, .blob [(8, 8)], .ro, .observer, 0, (List.replicate 8 0), [], 0x00, false⟩,  -- DFE taps
  ⟨0x2400, 48, 0x0A, 0x0A, .i32, .ro, .observer, 0, [], [], 0x00, false⟩,  -- Frequency offset
  ⟨0x2400, 48, 0x0B, 0x0B, .u64, .ro, .observer, 0, [], [], 0x00, false⟩,  -- Invalid headers
  ⟨0x2400, 48, 0x0C, 0x0C, .u32, .ro, .observer, 0, [], [], 0x00, false⟩,  -- Lock losses
  ⟨0x2400, 48, 0x0D, 0x0D, .u32, .ro, .observer, 0, [], [], 0x00, false⟩,  -- LOS events
  ⟨0x2400, 48, 0x0E, 0x0E, .blob [(8, 8)], .wo, .integrator, 0, (List.replicate 8 0), [], 0x00, false⟩,  -- Eye scan request
  ⟨0x2400, 48, 0x0F, 0x0F, .blob [(24, 24)], .ro, .observer, 0, (List.replicate 24 0), [], 0x00, false⟩,  -- Eye scan result
  ⟨0x2430, 32, 0x00, 0x00, .u8, .ro, .observer, 16, [], [], 0x00, false⟩,  -- Highest subindex
  ⟨0x2430, 32, 0x01, 0x01, .enum, .rw, .integrator, 3, [], [(0, 3)], 0x00, true⟩,  -- Requested state
  ⟨0x2430, 32, 0x02, 0x02, .enum, .ro, .observer, 3, [], [], 0x00, false⟩,  -- Present state
  ⟨0x2430, 32, 0x03, 0x03, .bits 1, .ro, .observer, 0, [], [], 0x00, false⟩,  -- Lane flags
  ⟨0x2430, 32, 0x04, 0x04, .u8, .ro, .observer, 255, [], [], 0x00, false⟩,  -- Logical index
  ⟨0x2430, 32, 0x05, 0x05, .enum, .rw, .integrator, 0, [], [(0, 2)], 0x00, true⟩,  -- Polarity
  ⟨0x2430, 32, 0x06, 0x06, .u8, .rw, .integrator, 80, [], [(50, 150)], 0x00, true⟩,  -- LOS threshold
  ⟨0x2430, 32, 0x07, 0x07, .enum, .rw, .integrator, 0, [], [(0, 1)], 0x00, false⟩,  -- Adaptation
  ⟨0x2430, 32, 0x08, 0x08, .u8, .ro, .observer, 0, [], [], 0x00, false⟩,  -- CTLE peaking
  ⟨0x2430, 32, 0x09, 0x09, .blob [(8, 8)], .ro, .observer, 0, (List.replicate 8 0), [], 0x00, false⟩,  -- DFE taps
  ⟨0x2430, 32, 0x0A, 0x0A, .i32, .ro, .observer, 0, [], [], 0x00, false⟩,  -- Frequency offset
  ⟨0x2430, 32, 0x0B, 0x0B, .u64, .ro, .observer, 0, [], [], 0x00, false⟩,  -- Invalid headers
  ⟨0x2430, 32, 0x0C, 0x0C, .u32, .ro, .observer, 0, [], [], 0x00, false⟩,  -- Lock losses
  ⟨0x2430, 32, 0x0D, 0x0D, .u32, .ro, .observer, 0, [], [], 0x00, false⟩,  -- LOS events
  ⟨0x2430, 32, 0x0E, 0x0E, .blob [(8, 8)], .wo, .integrator, 0, (List.replicate 8 0), [], 0x00, false⟩,  -- Eye scan request
  ⟨0x2430, 32, 0x0F, 0x0F, .blob [(24, 24)], .ro, .observer, 0, (List.replicate 24 0), [], 0x00, false⟩,  -- Eye scan result
  ⟨0x2430, 32, 0x10, 0x10, .u8, .rw, .integrator, 4, [], [(0, 7)], 0x00, true⟩,  -- Transmitter preset
  ⟨0x2480, 8, 0x00, 0x00, .u8, .ro, .observer, 6, [], [], 0x00, false⟩,  -- Highest subindex
  ⟨0x2480, 8, 0x01, 0x01, .u32, .rw, .integrator, 0x013AB668, [], [(2500000, 20625000)], 0x00, true⟩,  -- Lane rate
  ⟨0x2480, 8, 0x02, 0x02, .enum, .ro, .observer, 0, [], [], 0x00, false⟩,  -- Group state
  ⟨0x2480, 8, 0x03, 0x03, .blob [(6, 6)], .ro, .observer, 0, (List.replicate 6 255), [], 0x00, false⟩,  -- Lane map
  ⟨0x2480, 8, 0x04, 0x04, .u16, .rw, .integrator, 100, [], [(10, 10000)], 0x00, true⟩,  -- Training timeout
  ⟨0x2480, 8, 0x05, 0x05, .u8, .wo, .integrator, 0, [], [], 0x00, false⟩,  -- Retrain
  ⟨0x2480, 8, 0x06, 0x06, .u8, .ro, .observer, 0, [], [], 0x00, false⟩]  -- Reference present

/-- Dictionary rows of indices 0x24XX, part 2. -/
def dict24b : List EntryDef := [
  ⟨0x2488, 8, 0x00, 0x00, .u8, .ro, .observer, 11, [], [], 0x00, false⟩,  -- Highest subindex
  ⟨0x2488, 8, 0x01, 0x01, .enum, .rw, .integrator, 0, [], [(0, 4)], 0x00, true⟩,  -- Function
  ⟨0x2488, 8, 0x02, 0x02, .u32, .rw, .integrator, 0, [], [(1250000, 32500000)], 0x00, true⟩,  -- Lane rate
  ⟨0x2488, 8, 0x03, 0x03, .u8, .ro, .observer, 255, [], [], 0x00, false⟩,  -- Link position
  ⟨0x2488, 8, 0x04, 0x04, .enum, .ro, .observer, 0, [], [], 0x00, false⟩,  -- Quad state
  ⟨0x2488, 8, 0x05, 0x05, .enum, .rw, .integrator, 2, [], [(0, 2)], 0x00, true⟩,  -- PRBS pattern
  ⟨0x2488, 8, 0x06, 0x06, .u64, .ro, .observer, 0, [], [], 0x00, false⟩,  -- PRBS errors
  ⟨0x2488, 8, 0x07, 0x07, .u64, .ro, .observer, 0, [], [], 0x00, false⟩,  -- FEC corrected
  ⟨0x2488, 8, 0x08, 0x08, .u64, .ro, .observer, 0, [], [], 0x00, false⟩,  -- FEC uncorrected
  ⟨0x2488, 8, 0x09, 0x09, .u16, .rw, .integrator, 1000, [], [(10, 10000)], 0x00, true⟩,  -- Training timeout
  ⟨0x2488, 8, 0x0A, 0x0A, .u8, .wo, .integrator, 0, [], [], 0x00, false⟩,  -- Retrain
  ⟨0x2488, 8, 0x0B, 0x0B, .u8, .ro, .observer, 0, [], [], 0x00, false⟩]  -- Reference present

/-- Dictionary rows of indices 0x24XX. -/
def dict24 : List EntryDef := dict24a ++ dict24b

/-- Dictionary rows of indices 0x25XX, part 1. -/
def dict25a : List EntryDef := [
  ⟨0x2500, 48, 0x00, 0x00, .u8, .ro, .observer, 17, [], [], 0x00, false⟩,  -- Highest subindex
  ⟨0x2500, 48, 0x01, 0x01, .enum, .rw, .integrator, 0, [], [(0, 2)], 0x00, true⟩,  -- Direction
  ⟨0x2500, 48, 0x02, 0x02, .enum, .rw, .integrator, 1, [], [(0, 2)], 0x00, true⟩,  -- Clocking
  ⟨0x2500, 48, 0x03, 0x03, .enum, .rw, .integrator, 0, [], [(0, 2)], 0x00, true⟩,  -- Format
  ⟨0x2500, 48, 0x04, 0x04, .enum, .rw, .integrator, 2, [], [(0, 6)], 0x00, true⟩,  -- Sample rate
  ⟨0x2500, 48, 0x05, 0x05, .u8, .rw, .integrator, 24, [], [(16, 16), (20, 20), (24, 24), (32, 32)], 0x00, true⟩,  -- Word length
  ⟨0x2500, 48, 0x06, 0x06, .u8, .rw, .integrator, 32, [], [(16, 16), (32, 32)], 0x00, true⟩,  -- Slot width
  ⟨0x2500, 48, 0x07, 0x07, .u16, .rw, .integrator, 48, [], [(6, 192)], 0x00, true⟩,  -- Block length
  ⟨0x2500, 48, 0x08, 0x08, .enum, .rw, .integrator, 0, [], [(0, 3)], 0x00, true⟩,  -- Source
  ⟨0x2500, 48, 0x09, 0x09, .u8, .rw, .integrator, 0, [], [], 0x00, true⟩,  -- Source instance
  ⟨0x2500, 48, 0x0A, 0x0A, .u16, .rw, .integrator, 96, [], [(8, 4096)], 0x00, true⟩,  -- Target level
  ⟨0x2500, 48, 0x0B, 0x0B, .u32, .rw, .integrator, 2000, [], [(250, 100000)], 0x00, true⟩,  -- Presentation delay
  ⟨0x2500, 48, 0x0C, 0x0C, .u8, .rw, .integrator, 1, [], [(1, 16)], 0x00, true⟩,  -- Slip threshold
  ⟨0x2500, 48, 0x0D, 0x0D, .u16, .rw, .integrator, 50, [], [(5, 1000)], 0x00, true⟩,  -- Steering bandwidth
  ⟨0x2500, 48, 0x0E, 0x0E, .u16, .rw, .integrator, 100, [], [(10, 500)], 0x00, true⟩,  -- Steering range
  ⟨0x2500, 48, 0x0F, 0x0F, .u8, .rw, .integrator, 255, [], [(0, 15), (255, 255)], 0x00, true⟩,  -- Record context
  ⟨0x2500, 48, 0x10, 0x10, .u8, .rw, .integrator, 255, [], [(0, 63), (255, 255)], 0x00, true⟩,  -- Felley stream
  ⟨0x2500, 48, 0x11, 0x11, .u8, .rw, .integrator, 0, [], [(0, 1)], 0x00, true⟩,  -- Drive on SHADOW
  ⟨0x2530, 48, 0x00, 0x00, .u8, .ro, .observer, 11, [], [], 0x00, false⟩,  -- Highest subindex
  ⟨0x2530, 48, 0x01, 0x01, .enum, .ro, .observer, 0, [], [], 0x00, false⟩,  -- State
  ⟨0x2530, 48, 0x02, 0x02, .bits 1, .ro, .observer, 0, [], [], 0x00, false⟩,  -- Port flags
  ⟨0x2530, 48, 0x03, 0x03, .u16, .ro, .observer, 0, [], [], 0x00, false⟩,  -- Buffer level
  ⟨0x2530, 48, 0x04, 0x04, .i32, .ro, .observer, 0, [], [], 0x00, false⟩,  -- Steering offset
  ⟨0x2530, 48, 0x05, 0x05, .t96, .ro, .observer, 0, [], [], 0x00, false⟩,  -- Last block time
  ⟨0x2530, 48, 0x06, 0x06, .i32, .ro, .observer, 0, [], [], 0x00, false⟩,  -- Timing error
  ⟨0x2530, 48, 0x07, 0x07, .u32, .ro, .observer, 0, [], [], 0x00, false⟩,  -- Frames dropped
  ⟨0x2530, 48, 0x08, 0x08, .u32, .ro, .observer, 0, [], [], 0x00, false⟩,  -- Frames repeated
  ⟨0x2530, 48, 0x09, 0x09, .u64, .ro, .observer, 0, [], [], 0x00, false⟩,  -- Zero frames
  ⟨0x2530, 48, 0x0A, 0x0A, .u32, .ro, .observer, 0, [], [], 0x00, false⟩,  -- Clock losses
  ⟨0x2530, 48, 0x0B, 0x0B, .u32, .ro, .observer, 0, [], [], 0x00, false⟩,  -- Overflow frames
  ⟨0x2560, 1, 0x00, 0x00, .u8, .ro, .observer, 8, [], [], 0x00, false⟩,  -- Highest subindex
  ⟨0x2560, 1, 0x01, 0x04, .u8, .rw, .integrator, 255, [], [(0, 47), (255, 255)], 0x00, true⟩,  -- AMCLK[0–3] port
  ⟨0x2560, 1, 0x05, 0x08, .enum, .rw, .integrator, 1, [], [(0, 2)], 0x00, true⟩,  -- AMCLK[0–3] multiple
  ⟨0x2568, 8, 0x00, 0x00, .u8, .ro, .observer, 65, [], [], 0x00, false⟩,  -- Highest subindex
  ⟨0x2568, 8, 0x01, 0x40, .u16, .rw, .integrator, 65535, [], [], 0x00, true⟩,  -- Channel 0–63
  ⟨0x2568, 8, 0x41, 0x41, .u32, .rw, .integrator, 2000, [], [(250, 100000)], 0x00, true⟩]  -- Presentation delay

/-- Dictionary rows of indices 0x25XX. -/
def dict25 : List EntryDef := dict25a

/-- Dictionary rows of indices 0x26XX, part 1. -/
def dict26a : List EntryDef := [
  ⟨0x2600, 24, 0x00, 0x00, .u8, .ro, .observer, 31, [], [], 0x00, false⟩,  -- Highest subindex
  ⟨0x2600, 24, 0x01, 0x01, .enum, .rw, .integrator, 0, [], [], 0x00, true⟩,  -- Mode
  ⟨0x2600, 24, 0x02, 0x02, .u8, .rw, .integrator, 4, [], [(1, 64)], 0x00, true⟩,  -- Filter length
  ⟨0x2600, 24, 0x03, 0x03, .enum, .rw, .integrator, 2, [], [(0, 2)], 0x00, true⟩,  -- Multiplier
  ⟨0x2600, 24, 0x04, 0x04, .u8, .rw, .integrator, 0, [], [(0, 1)], 0x00, true⟩,  -- Invert direction
  ⟨0x2600, 24, 0x05, 0x05, .u32, .rw, .integrator, 0, [], [], 0x00, true⟩,  -- Counts per revolution
  ⟨0x2600, 24, 0x06, 0x06, .u32, .rw, .integrator, 2, [], [], 0x00, true⟩,  -- Drift window
  ⟨0x2600, 24, 0x07, 0x07, .enum, .rw, .integrator, 0, [], [(0, 2)], 0x00, true⟩,  -- Z function
  ⟨0x2600, 24, 0x08, 0x08, .enum, .rw, .integrator, 0, [], [(0, 1)], 0x00, true⟩,  -- Index polarity
  ⟨0x2600, 24, 0x09, 0x09, .enum, .rw, .integrator, 0, [], [(0, 1)], 0x00, true⟩,  -- Tooth polarity
  ⟨0x2600, 24, 0x0A, 0x0A, .u8, .rw, .integrator, 0, [], [(0, 1)], 0x00, true⟩,  -- Index gating
  ⟨0x2600, 24, 0x0B, 0x0B, .u8, .wo, .operator, 0, [], [], 0x00, false⟩,  -- Reference arm
  ⟨0x2600, 24, 0x0C, 0x0C, .i32, .wo, .operator, 0, [], [], 0x00, false⟩,  -- Correct
  ⟨0x2600, 24, 0x0D, 0x0D, .i32, .wo, .operator, 0, [], [], 0x00, false⟩,  -- Shift
  ⟨0x2600, 24, 0x0E, 0x0E, .enum, .rw, .integrator, 0, [], [(0, 2)], 0x00, true⟩,  -- Probe source
  ⟨0x2600, 24, 0x0F, 0x0F, .u8, .rw, .integrator, 0, [], [(0, 31)], 0x00, true⟩,  -- Probe TIO ball
  ⟨0x2600, 24, 0x10, 0x10, .enum, .rw, .integrator, 0, [], [(0, 2)], 0x00, true⟩,  -- Probe edge
  ⟨0x2600, 24, 0x11, 0x11, .enum, .rw, .integrator, 0, [], [(0, 2)], 0x00, true⟩,  -- Tooth reference
  ⟨0x2600, 24, 0x12, 0x12, .u8, .rw, .integrator, 1, [], [(1, 4)], 0x00, true⟩,  -- Missing teeth
  ⟨0x2600, 24, 0x13, 0x13, .u8, .rw, .integrator, 24, [], [(20, 64)], 0x00, true⟩,  -- Gap ratio
  ⟨0x2600, 24, 0x14, 0x14, .enum, .rw, .integrator, 0, [], [(0, 2)], 0x00, true⟩,  -- Tooth direction
  ⟨0x2600, 24, 0x15, 0x15, .u8, .rw, .integrator, 8, [], [(2, 12)], 0x00, true⟩,  -- Interpolation
  ⟨0x2600, 24, 0x16, 0x16, .i32, .rw, .integrator, 0, [], [(-512, 512)], 0x00, true⟩,  -- Sine offset
  ⟨0x2600, 24, 0x17, 0x17, .i32, .rw, .integrator, 0, [], [(-512, 512)], 0x00, true⟩,  -- Cosine offset
  ⟨0x2600, 24, 0x18, 0x18, .f32, .rw, .integrator, 0x3F800000, [], [(1056964608, 1073741824)], 0x00, true⟩,  -- Cosine gain
  ⟨0x2600, 24, 0x19, 0x19, .u16, .rw, .integrator, 400, [], [(100, 2047)], 0x00, true⟩,  -- Amplitude low
  ⟨0x2600, 24, 0x1A, 0x1A, .u16, .rw, .integrator, 1950, [], [(0, 2047)], 0x00, true⟩,  -- Amplitude high
  ⟨0x2600, 24, 0x1B, 0x1B, .u8, .rw, .integrator, 255, [], [(0, 15), (255, 255)], 0x00, true⟩,  -- Frame-latch context
  ⟨0x2600, 24, 0x1C, 0x1C, .u32, .rw, .integrator, 1000, [], [(10, 100000)], 0x00, true⟩,  -- Speed interval
  ⟨0x2600, 24, 0x1D, 0x1D, .u32, .rw, .integrator, 100000, [], [(100, 10000000)], 0x00, true⟩,  -- Stop timeout
  ⟨0x2600, 24, 0x1E, 0x1E, .bits 1, .rw, .integrator, 0, [], [], 0x80, true⟩,  -- Interrupt mask
  ⟨0x2600, 24, 0x1F, 0x1F, .u8, .wo, .operator, 0, [], [], 0x00, false⟩,  -- Clear flags
  ⟨0x2620, 24, 0x00, 0x00, .u8, .ro, .observer, 15, [], [], 0x00, false⟩,  -- Highest subindex
  ⟨0x2620, 24, 0x01, 0x01, .enum, .ro, .observer, 0, [], [], 0x00, false⟩,  -- State
  ⟨0x2620, 24, 0x02, 0x02, .u32, .ro, .observer, 0, [], [], 0x00, false⟩,  -- Position
  ⟨0x2620, 24, 0x03, 0x03, .bits 1, .ro, .observer, 2, [], [], 0x00, false⟩,  -- Flags
  ⟨0x2620, 24, 0x04, 0x04, .f32, .ro, .observer, 0, [], [], 0x00, false⟩,  -- Speed
  ⟨0x2620, 24, 0x05, 0x05, .u32, .ro, .observer, 0, [], [], 0x00, false⟩,  -- Last index latch
  ⟨0x2620, 24, 0x06, 0x06, .t96, .ro, .observer, 0, [], [], 0x00, false⟩,  -- Last index time
  ⟨0x2620, 24, 0x07, 0x07, .u32, .ro, .observer, 0, [], [], 0x00, false⟩]  -- Reference

/-- Dictionary rows of indices 0x26XX, part 2. -/
def dict26b : List EntryDef := [
  ⟨0x2620, 24, 0x08, 0x08, .i32, .ro, .observer, 0, [], [], 0x00, false⟩,  -- Last drift
  ⟨0x2620, 24, 0x09, 0x09, .u32, .ro, .observer, 0, [], [], 0x00, false⟩,  -- Phase errors
  ⟨0x2620, 24, 0x0A, 0x0A, .u32, .ro, .observer, 0, [], [], 0x00, false⟩,  -- Amplitude errors
  ⟨0x2620, 24, 0x0B, 0x0B, .u32, .ro, .observer, 0, [], [], 0x00, false⟩,  -- Indexes
  ⟨0x2620, 24, 0x0C, 0x0C, .blob [(0, 0), (20, 20)], .ro, .observer, 0, [], [], 0x00, false⟩,  -- Oldest probe
  ⟨0x2620, 24, 0x0D, 0x0D, .u32, .ro, .observer, 0, [], [], 0x00, false⟩,  -- Probes dropped
  ⟨0x2620, 24, 0x0E, 0x0E, .blob [(0, 0), (20, 20)], .ro, .observer, 0, [], [], 0x00, false⟩,  -- Frame latch
  ⟨0x2620, 24, 0x0F, 0x0F, .u16, .ro, .observer, 0, [], [], 0x00, false⟩]  -- Last amplitude

/-- Dictionary rows of indices 0x26XX. -/
def dict26 : List EntryDef := dict26a ++ dict26b

/-- Dictionary rows of indices 0x27XX, part 1. -/
def dict27a : List EntryDef := [
  ⟨0x2700, 1, 0x00, 0x00, .u8, .ro, .observer, 6, [], [], 0x00, false⟩,  -- Highest subindex
  ⟨0x2700, 1, 0x01, 0x01, .enum, .ro, .observer, 0, [], [], 0x00, false⟩,  -- State
  ⟨0x2700, 1, 0x02, 0x02, .enum, .wo, .integrator, 0, [], [(1, 3)], 0x00, false⟩,  -- Command
  ⟨0x2700, 1, 0x03, 0x03, .u32, .ro, .observer, 0, [], [], 0x00, false⟩,  -- Standby entries
  ⟨0x2700, 1, 0x04, 0x04, .u32, .ro, .observer, 0, [], [], 0x00, false⟩,  -- Aborted entries
  ⟨0x2700, 1, 0x05, 0x05, .enum, .ro, .observer, 0, [], [], 0x00, false⟩,  -- Last wake source
  ⟨0x2700, 1, 0x06, 0x06, .u32, .ro, .observer, 0, [], [], 0x00, false⟩,  -- Last exit time
  ⟨0x2701, 1, 0x00, 0x00, .u8, .ro, .observer, 5, [], [], 0x00, false⟩,  -- Highest subindex
  ⟨0x2701, 1, 0x01, 0x01, .bits 1, .rw, .integrator, 7, [], [], 0xC0, true⟩,  -- Wake enables
  ⟨0x2701, 1, 0x02, 0x02, .u8, .rw, .integrator, 255, [], [(0, 31), (255, 255)], 0x00, true⟩,  -- Wake TIO ball
  ⟨0x2701, 1, 0x03, 0x03, .t96, .rw, .integrator, 0, [], [], 0x00, false⟩,  -- Alarm
  ⟨0x2701, 1, 0x04, 0x04, .enum, .rw, .integrator, 0, [], [(0, 2)], 0x00, true⟩,  -- Wake TIO edge
  ⟨0x2701, 1, 0x05, 0x05, .bits 1, .rw, .integrator, 7, [], [], 0xF8, true⟩,  -- Retained SRAM
  ⟨0x2704, 2, 0x00, 0x00, .u8, .ro, .observer, 5, [], [], 0x00, false⟩,  -- Highest subindex
  ⟨0x2704, 2, 0x01, 0x01, .u8, .rw, .integrator, 1, [], [(0, 1)], 0x00, true⟩,  -- Enable
  ⟨0x2704, 2, 0x02, 0x02, .u8, .rw, .integrator, 32, [], [(0, 254)], 0x00, true⟩,  -- Address
  ⟨0x2704, 2, 0x03, 0x03, .u32, .ro, .observer, 0, [], [], 0x00, false⟩,  -- Frames accepted
  ⟨0x2704, 2, 0x04, 0x04, .u32, .ro, .observer, 0, [], [], 0x00, false⟩,  -- Frames rejected
  ⟨0x2704, 2, 0x05, 0x05, .u32, .ro, .observer, 0, [], [], 0x00, false⟩,  -- Replies sent
  ⟨0x2710, 16, 0x00, 0x00, .u8, .ro, .observer, 6, [], [], 0x00, false⟩,  -- Highest subindex
  ⟨0x2710, 16, 0x01, 0x01, .enum, .ro, .observer, 0, [], [], 0x00, false⟩,  -- Function
  ⟨0x2710, 1, 0x02, 0x02, .u8, .rw, .integrator, 32, [], [(0, 63)], 0x00, true⟩,  -- MSI-X vector
  ⟨0x2710, 16, 0x03, 0x03, .u32, .ro, .observer, 0, [], [], 0x00, false⟩,  -- Messages to module
  ⟨0x2710, 16, 0x04, 0x04, .u32, .ro, .observer, 0, [], [], 0x00, false⟩,  -- Messages to host
  ⟨0x2710, 16, 0x05, 0x05, .u32, .ro, .observer, 0, [], [], 0x00, false⟩,  -- BUSY episodes
  ⟨0x2710, 16, 0x06, 0x06, .u32, .ro, .observer, 0, [], [], 0x00, false⟩,  -- Refusals
  ⟨0x2711, 1, 0x02, 0x02, .u8, .rw, .integrator, 33, [], [(0, 63)], 0x00, true⟩,  -- MSI-X vector
  ⟨0x2712, 1, 0x02, 0x02, .u8, .rw, .integrator, 34, [], [(0, 63)], 0x00, true⟩,  -- MSI-X vector
  ⟨0x2713, 1, 0x02, 0x02, .u8, .rw, .integrator, 35, [], [(0, 63)], 0x00, true⟩,  -- MSI-X vector
  ⟨0x2714, 1, 0x02, 0x02, .u8, .rw, .integrator, 36, [], [(0, 63)], 0x00, true⟩,  -- MSI-X vector
  ⟨0x2715, 1, 0x02, 0x02, .u8, .rw, .integrator, 37, [], [(0, 63)], 0x00, true⟩,  -- MSI-X vector
  ⟨0x2716, 1, 0x02, 0x02, .u8, .rw, .integrator, 38, [], [(0, 63)], 0x00, true⟩,  -- MSI-X vector
  ⟨0x2717, 1, 0x02, 0x02, .u8, .rw, .integrator, 39, [], [(0, 63)], 0x00, true⟩,  -- MSI-X vector
  ⟨0x2718, 1, 0x02, 0x02, .u8, .rw, .integrator, 40, [], [(0, 63)], 0x00, true⟩,  -- MSI-X vector
  ⟨0x2719, 1, 0x02, 0x02, .u8, .rw, .integrator, 41, [], [(0, 63)], 0x00, true⟩,  -- MSI-X vector
  ⟨0x271A, 1, 0x02, 0x02, .u8, .rw, .integrator, 42, [], [(0, 63)], 0x00, true⟩,  -- MSI-X vector
  ⟨0x271B, 1, 0x02, 0x02, .u8, .rw, .integrator, 43, [], [(0, 63)], 0x00, true⟩,  -- MSI-X vector
  ⟨0x271C, 1, 0x02, 0x02, .u8, .rw, .integrator, 44, [], [(0, 63)], 0x00, true⟩,  -- MSI-X vector
  ⟨0x271D, 1, 0x02, 0x02, .u8, .rw, .integrator, 45, [], [(0, 63)], 0x00, true⟩,  -- MSI-X vector
  ⟨0x271E, 1, 0x02, 0x02, .u8, .rw, .integrator, 46, [], [(0, 63)], 0x00, true⟩]  -- MSI-X vector

/-- Dictionary rows of indices 0x27XX, part 2. -/
def dict27b : List EntryDef := [
  ⟨0x271F, 1, 0x02, 0x02, .u8, .rw, .integrator, 47, [], [(0, 63)], 0x00, true⟩,  -- MSI-X vector
  ⟨0x2720, 38, 0x00, 0x00, .u8, .ro, .observer, 5, [], [], 0x00, false⟩,  -- Highest subindex
  ⟨0x2720, 38, 0x01, 0x01, .enum, .ro, .observer, 0, [], [], 0x00, false⟩,  -- State
  ⟨0x2720, 24, 0x02, 0x02, .enum, .rw, .integrator, 1, [], [(1, 2)], 0x00, true⟩,  -- Standby mode
  ⟨0x2720, 38, 0x03, 0x03, .u32, .ro, .observer, 0, [], [], 0x00, false⟩,  -- Entries
  ⟨0x2720, 38, 0x04, 0x04, .u32, .ro, .observer, 0, [], [], 0x00, false⟩,  -- Aborts
  ⟨0x2720, 38, 0x05, 0x05, .u32, .ro, .observer, 0, [], [], 0x00, false⟩,  -- Last exit time
  ⟨0x2738, 12, 0x02, 0x02, .enum, .rw, .integrator, 2, [], [(1, 2)], 0x00, true⟩,  -- Standby mode
  ⟨0x2744, 1, 0x02, 0x02, .enum, .rw, .integrator, 1, [], [(1, 2)], 0x00, true⟩,  -- Standby mode
  ⟨0x2745, 1, 0x02, 0x02, .enum, .rw, .integrator, 2, [], [(1, 2)], 0x00, true⟩]  -- Standby mode

/-- Dictionary rows of indices 0x27XX. -/
def dict27 : List EntryDef := dict27a ++ dict27b

end Sys2Proof.Machine
end

