-- ==== Sys2Proof/Machine/DictStore.lean ====
section
/-!
DEFINITION. Sys2Proof/Machine/DictStore.lean: rows of the object dictionary, copied from the tables of the manual: compression, media queue, DRAM, arrays and Felley (R519, R563, R594, R710, R728).
Each row: first index, number of instances (one index each), first and last subindex, type, access, minimum role, default
(a number, or octets), the values a write may take (empty: every value of the type), the reserved bits of a BITS entry, and
whether the parameter store holds it (R124). A default the tables leave open ("—") is 0 or empty (DESIGN CHOICE, log entry 3).
-/

namespace Sys2Proof.Machine

/-- Dictionary rows of indices 0x48XX, part 1. -/
def dict48a : List EntryDef := [
  ⟨0x4800, 64, 0x00, 0x00, .u8, .ro, .observer, 17, [], [], 0x00, false⟩,  -- Highest subindex
  ⟨0x4800, 64, 0x01, 0x01, .enum, .rwc, .integrator, 0, [], [], 0x00, true⟩,  -- Function
  ⟨0x4800, 64, 0x02, 0x02, .u8, .rwc, .integrator, 0, [], [(0, 15)], 0x00, true⟩,  -- Context
  ⟨0x4800, 64, 0x03, 0x03, .enum, .rwc, .integrator, 0, [], [(0, 1)], 0x00, true⟩,  -- Coding
  ⟨0x4800, 64, 0x04, 0x04, .u16, .rwc, .integrator, 12, [], [(12, 48)], 0x00, true⟩,  -- Ratio
  ⟨0x4800, 64, 0x05, 0x05, .bits 1, .rwc, .integrator, 0, [], [], 0xF8, true⟩,  -- Destinations
  ⟨0x4800, 8, 0x06, 0x06, .u8, .rw, .integrator, 1, [], [(0, 1)], 0x00, true⟩,  -- Keeper
  ⟨0x4800, 64, 0x07, 0x07, .u8, .rw, .integrator, 32, [], [(4, 32)], 0x00, true⟩,  -- Block size
  ⟨0x4800, 64, 0x08, 0x08, .u64, .rw, .integrator, 0, [], [], 0x00, true⟩,  -- Job ring base
  ⟨0x4800, 64, 0x09, 0x09, .u16, .rw, .integrator, 64, [], [(16, 1024)], 0x00, true⟩,  -- Job ring entries
  ⟨0x4800, 64, 0x0A, 0x0A, .enum, .ro, .observer, 0, [], [], 0x00, false⟩,  -- State
  ⟨0x4800, 64, 0x0B, 0x0B, .u64, .ro, .observer, 0, [], [], 0x00, false⟩,  -- Original bytes
  ⟨0x4800, 64, 0x0C, 0x0C, .u64, .ro, .observer, 0, [], [], 0x00, false⟩,  -- Coded bytes
  ⟨0x4800, 64, 0x0D, 0x0D, .u32, .ro, .observer, 0, [], [], 0x00, false⟩,  -- NOSHRINK stops
  ⟨0x4800, 64, 0x0E, 0x0E, .u32, .ro, .observer, 0, [], [], 0x00, false⟩,  -- Stored blocks
  ⟨0x4800, 64, 0x0F, 0x0F, .u32, .ro, .observer, 0, [], [], 0x00, false⟩,  -- Fallback blocks
  ⟨0x4800, 64, 0x10, 0x10, .u32, .ro, .observer, 0, [], [], 0x00, false⟩,  -- Check failures
  ⟨0x4800, 64, 0x11, 0x11, .u8, .ro, .observer, 0, [], [], 0x00, false⟩,  -- Highest step
  ⟨0x4808, 56, 0x06, 0x06, .u8, .rw, .integrator, 0, [], [(0, 1)], 0x00, true⟩,  -- Keeper
  ⟨0x4848, 8, 0x00, 0x00, .u8, .ro, .observer, 8, [], [], 0x00, false⟩,  -- Highest subindex
  ⟨0x4848, 8, 0x01, 0x01, .u32, .rw, .integrator, 0, [], [(0, 163840)], 0x00, true⟩,  -- Share
  ⟨0x4848, 8, 0x02, 0x02, .u8, .rw, .operator, 0, [], [(0, 1)], 0x00, true⟩,  -- Hold
  ⟨0x4848, 8, 0x03, 0x03, .u32, .ro, .observer, 0, [], [], 0x00, false⟩,  -- Oldest frame
  ⟨0x4848, 8, 0x04, 0x04, .u32, .ro, .observer, 0, [], [], 0x00, false⟩,  -- Newest frame
  ⟨0x4848, 8, 0x05, 0x05, .t96, .ro, .observer, 0, [], [], 0x00, false⟩,  -- Oldest latch time
  ⟨0x4848, 8, 0x06, 0x06, .u32, .ro, .observer, 0, [], [], 0x00, false⟩,  -- Frames dropped
  ⟨0x4848, 8, 0x07, 0x07, .blob [(8, 8)], .wo, .operator, 0, (List.replicate 8 0), [], 0x00, false⟩,  -- Extract
  ⟨0x4848, 8, 0x08, 0x08, .u32, .ro, .observer, 0, [], [], 0x00, false⟩]  -- Frames pinned

/-- Dictionary rows of indices 0x48XX. -/
def dict48 : List EntryDef := dict48a

/-- Dictionary rows of indices 0x49XX, part 1. -/
def dict49a : List EntryDef := [
  ⟨0x4900, 16, 0x00, 0x00, .u8, .ro, .observer, 8, [], [], 0x00, false⟩,  -- Highest subindex
  ⟨0x4900, 1, 0x01, 0x01, .enum, .rw, .integrator, 2, [], [(0, 2)], 0x00, true⟩,  -- Owner
  ⟨0x4900, 16, 0x02, 0x02, .u64, .rw, .integrator, 0, [], [], 0x00, true⟩,  -- SQ base
  ⟨0x4900, 16, 0x03, 0x03, .u16, .rw, .integrator, 256, [], [(16, 16), (32, 32), (64, 64), (128, 128), (256, 256), (512, 512), (1024, 1024), (2048, 2048), (4096, 4096)], 0x00, true⟩,  -- SQ entries
  ⟨0x4900, 16, 0x04, 0x04, .u64, .rw, .integrator, 0, [], [], 0x00, true⟩,  -- CQ base
  ⟨0x4900, 16, 0x05, 0x05, .u16, .rw, .integrator, 256, [], [(16, 16), (32, 32), (64, 64), (128, 128), (256, 256), (512, 512), (1024, 1024), (2048, 2048), (4096, 4096)], 0x00, true⟩,  -- CQ entries
  ⟨0x4900, 1, 0x06, 0x06, .u8, .rw, .integrator, 0, [], [(0, 63)], 0x00, true⟩,  -- MSI-X vector
  ⟨0x4900, 16, 0x07, 0x07, .u8, .rw, .integrator, 1, [], [(1, 16)], 0x00, true⟩,  -- Weight
  ⟨0x4900, 16, 0x08, 0x08, .enum, .wo, .integrator, 0, [], [(1, 2)], 0x00, false⟩,  -- Control
  ⟨0x4901, 15, 0x01, 0x01, .enum, .rw, .integrator, 0, [], [(0, 2)], 0x00, true⟩,  -- Owner
  ⟨0x4901, 1, 0x06, 0x06, .u8, .rw, .integrator, 1, [], [(0, 63)], 0x00, true⟩,  -- MSI-X vector
  ⟨0x4902, 1, 0x06, 0x06, .u8, .rw, .integrator, 2, [], [(0, 63)], 0x00, true⟩,  -- MSI-X vector
  ⟨0x4903, 1, 0x06, 0x06, .u8, .rw, .integrator, 3, [], [(0, 63)], 0x00, true⟩,  -- MSI-X vector
  ⟨0x4904, 1, 0x06, 0x06, .u8, .rw, .integrator, 4, [], [(0, 63)], 0x00, true⟩,  -- MSI-X vector
  ⟨0x4905, 1, 0x06, 0x06, .u8, .rw, .integrator, 5, [], [(0, 63)], 0x00, true⟩,  -- MSI-X vector
  ⟨0x4906, 1, 0x06, 0x06, .u8, .rw, .integrator, 6, [], [(0, 63)], 0x00, true⟩,  -- MSI-X vector
  ⟨0x4907, 1, 0x06, 0x06, .u8, .rw, .integrator, 7, [], [(0, 63)], 0x00, true⟩,  -- MSI-X vector
  ⟨0x4908, 1, 0x06, 0x06, .u8, .rw, .integrator, 8, [], [(0, 63)], 0x00, true⟩,  -- MSI-X vector
  ⟨0x4909, 1, 0x06, 0x06, .u8, .rw, .integrator, 9, [], [(0, 63)], 0x00, true⟩,  -- MSI-X vector
  ⟨0x490A, 1, 0x06, 0x06, .u8, .rw, .integrator, 10, [], [(0, 63)], 0x00, true⟩,  -- MSI-X vector
  ⟨0x490B, 1, 0x06, 0x06, .u8, .rw, .integrator, 11, [], [(0, 63)], 0x00, true⟩,  -- MSI-X vector
  ⟨0x490C, 1, 0x06, 0x06, .u8, .rw, .integrator, 12, [], [(0, 63)], 0x00, true⟩,  -- MSI-X vector
  ⟨0x490D, 1, 0x06, 0x06, .u8, .rw, .integrator, 13, [], [(0, 63)], 0x00, true⟩,  -- MSI-X vector
  ⟨0x490E, 1, 0x06, 0x06, .u8, .rw, .integrator, 14, [], [(0, 63)], 0x00, true⟩,  -- MSI-X vector
  ⟨0x490F, 1, 0x06, 0x06, .u8, .rw, .integrator, 15, [], [(0, 63)], 0x00, true⟩,  -- MSI-X vector
  ⟨0x4910, 16, 0x00, 0x00, .u8, .ro, .observer, 10, [], [], 0x00, false⟩,  -- Highest subindex
  ⟨0x4910, 16, 0x01, 0x01, .enum, .ro, .observer, 0, [], [], 0x00, false⟩,  -- State
  ⟨0x4910, 16, 0x02, 0x02, .u16, .ro, .observer, 0, [], [], 0x00, false⟩,  -- Epoch
  ⟨0x4910, 16, 0x03, 0x03, .u16, .ro, .observer, 0, [], [], 0x00, false⟩,  -- SQ head
  ⟨0x4910, 16, 0x04, 0x04, .u16, .ro, .observer, 0, [], [], 0x00, false⟩,  -- CQ tail
  ⟨0x4910, 16, 0x05, 0x05, .u64, .ro, .observer, 0, [], [], 0x00, false⟩,  -- Commands
  ⟨0x4910, 16, 0x06, 0x06, .u64, .ro, .observer, 0, [], [], 0x00, false⟩,  -- Blocks written
  ⟨0x4910, 16, 0x07, 0x07, .u64, .ro, .observer, 0, [], [], 0x00, false⟩,  -- Blocks read
  ⟨0x4910, 16, 0x08, 0x08, .u64, .ro, .observer, 0, [], [], 0x00, false⟩,  -- Buffer wait
  ⟨0x4910, 16, 0x09, 0x09, .u32, .ro, .observer, 0, [], [], 0x00, false⟩,  -- Freezes
  ⟨0x4910, 16, 0x0A, 0x0A, .u8, .ro, .observer, 0, [], [], 0x00, false⟩,  -- Unread log entries
  ⟨0x4920, 16, 0x00, 0x00, .u8, .ro, .observer, 3, [], [], 0x00, false⟩,  -- Highest subindex
  ⟨0x4920, 16, 0x01, 0x01, .blob [(0, 0), (64, 64)], .ro, .integrator, 0, [], [], 0x00, false⟩,  -- Oldest unread
  ⟨0x4920, 16, 0x02, 0x02, .u32, .ro, .observer, 0, [], [], 0x00, false⟩,  -- Entries overwritten
  ⟨0x4920, 16, 0x03, 0x03, .blob [(0, 0), (64, 64)], .ro, .observer, 0, [], [], 0x00, false⟩]  -- Latest entry

/-- Dictionary rows of indices 0x49XX, part 2. -/
def dict49b : List EntryDef := [
  ⟨0x4940, 4, 0x00, 0x00, .u8, .ro, .observer, 10, [], [], 0x00, false⟩,  -- Highest subindex
  ⟨0x4940, 4, 0x01, 0x01, .enum, .ro, .observer, 0, [], [], 0x00, false⟩,  -- State
  ⟨0x4940, 4, 0x02, 0x02, .u64, .ro, .observer, 0, [], [], 0x00, false⟩,  -- Capacity
  ⟨0x4940, 4, 0x03, 0x03, .str, .ro, .observer, 0, [], [], 0x00, false⟩,  -- Model
  ⟨0x4940, 4, 0x04, 0x04, .str, .ro, .observer, 0, [], [], 0x00, false⟩,  -- Serial
  ⟨0x4940, 4, 0x05, 0x05, .bits 1, .ro, .observer, 0, [], [], 0x00, false⟩,  -- Link
  ⟨0x4940, 4, 0x06, 0x06, .u32, .rw, .integrator, 7000, [], [(500, 15000)], 0x00, true⟩,  -- Rated write rate
  ⟨0x4940, 4, 0x07, 0x07, .u32, .ro, .observer, 0, [], [], 0x00, false⟩,  -- Measured write rate
  ⟨0x4940, 4, 0x08, 0x08, .u32, .ro, .observer, 0, [], [], 0x00, false⟩,  -- Timeouts
  ⟨0x4940, 4, 0x09, 0x09, .u32, .ro, .observer, 0, [], [], 0x00, false⟩,  -- Media errors
  ⟨0x4940, 4, 0x0A, 0x0A, .u8, .ro, .observer, 0, [], [], 0x00, false⟩,  -- Critical warning
  ⟨0x4948, 1, 0x00, 0x00, .u8, .ro, .observer, 13, [], [], 0x00, false⟩,  -- Highest subindex
  ⟨0x4948, 1, 0x01, 0x01, .enum, .wo, .integrator, 0, [], [(1, 4)], 0x00, false⟩,  -- Command
  ⟨0x4948, 1, 0x02, 0x02, .enum, .rw, .integrator, 0, [], [], 0x00, true⟩,  -- Layout
  ⟨0x4948, 1, 0x03, 0x03, .bits 1, .rw, .integrator, 1, [], [], 0xF0, true⟩,  -- Members
  ⟨0x4948, 1, 0x04, 0x04, .enum, .ro, .observer, 0, [], [], 0x00, false⟩,  -- State
  ⟨0x4948, 1, 0x05, 0x05, .u8, .rw, .integrator, 1, [], [], 0x00, true⟩,  -- Attach at boot
  ⟨0x4948, 1, 0x06, 0x06, .u16, .rw, .integrator, 2000, [], [(100, 30000)], 0x00, true⟩,  -- Drive timeout
  ⟨0x4948, 1, 0x07, 0x07, .u8, .rw, .integrator, 0, [], [(0, 3)], 0x00, true⟩,  -- Rebuild drive
  ⟨0x4948, 1, 0x08, 0x08, .u16, .rw, .integrator, 2000, [], [(100, 8000)], 0x00, true⟩,  -- Rebuild rate
  ⟨0x4948, 1, 0x09, 0x09, .u8, .ro, .observer, 0, [], [], 0x00, false⟩,  -- Rebuild progress
  ⟨0x4948, 1, 0x0A, 0x0A, .u64, .ro, .observer, 0, [], [], 0x00, false⟩,  -- Capacity
  ⟨0x4948, 1, 0x0B, 0x0B, .u32, .ro, .observer, 0, [], [], 0x00, false⟩,  -- Free extents
  ⟨0x4948, 1, 0x0C, 0x0C, .u64, .ro, .observer, 0, [], [], 0x00, false⟩,  -- Volume ID
  ⟨0x4948, 1, 0x0D, 0x0D, .u64, .wo, .integrator, 0, [], [], 0x00, false⟩,  -- Delete clip
  ⟨0x4950, 1, 0x00, 0x00, .u8, .ro, .observer, 8, [], [], 0x00, false⟩,  -- Highest subindex
  ⟨0x4950, 1, 0x01, 0x01, .u8, .rw, .integrator, 16, [], [(1, 16)], 0x00, true⟩,  -- Buffer size
  ⟨0x4950, 1, 0x02, 0x02, .u16, .rw, .integrator, 1024, [], [(256, 8192)], 0x00, true⟩,  -- Host share
  ⟨0x4950, 1, 0x03, 0x03, .u64, .ro, .observer, 0, [], [], 0x00, false⟩,  -- Buffered bytes
  ⟨0x4950, 1, 0x04, 0x04, .u16, .rw, .integrator, 100, [], [(10, 1000)], 0x00, true⟩,  -- Journal period
  ⟨0x4950, 1, 0x05, 0x05, .t96, .ro, .observer, 0, [], [], 0x00, false⟩,  -- Last journal commit
  ⟨0x4950, 1, 0x06, 0x06, .u32, .ro, .observer, 0, [], [], 0x00, false⟩,  -- Lost units
  ⟨0x4950, 1, 0x07, 0x07, .blob [(0, 131072)], .ro, .observer, 0, [], [], 0x00, false⟩,  -- Lost ranges
  ⟨0x4950, 1, 0x08, 0x08, .u8, .wo, .integrator, 0, [], [], 0x00, false⟩,  -- Clear lost ranges
  ⟨0x4960, 16, 0x00, 0x00, .u8, .ro, .observer, 9, [], [], 0x00, false⟩,  -- Highest subindex
  ⟨0x4960, 16, 0x01, 0x01, .enum, .rwc, .operator, 0, [], [(0, 1)], 0x00, false⟩,  -- Record
  ⟨0x4960, 16, 0x02, 0x02, .u8, .rwc, .integrator, 0, [], [(0, 15)], 0x00, true⟩,  -- Queue
  ⟨0x4960, 16, 0x03, 0x03, .enum, .ro, .observer, 0, [], [], 0x00, false⟩,  -- State
  ⟨0x4960, 16, 0x04, 0x04, .u16, .rw, .integrator, 250, [], [(50, 5000)], 0x00, true⟩,  -- Checkpoint interval
  ⟨0x4960, 16, 0x05, 0x05, .u64, .ro, .observer, 0, [], [], 0x00, false⟩]  -- Clip ID

/-- Dictionary rows of indices 0x49XX, part 3. -/
def dict49c : List EntryDef := [
  ⟨0x4960, 16, 0x06, 0x06, .u16, .ro, .observer, 65535, [], [], 0x00, false⟩,  -- Directory slot
  ⟨0x4960, 16, 0x07, 0x07, .u64, .ro, .observer, 0, [], [], 0x00, false⟩,  -- Bytes recorded
  ⟨0x4960, 16, 0x08, 0x08, .u32, .ro, .observer, 0, [], [], 0x00, false⟩,  -- Frames not recorded
  ⟨0x4960, 16, 0x09, 0x09, .enum, .ro, .observer, 0, [], [], 0x00, false⟩,  -- Last refusal
  ⟨0x4980, 8, 0x00, 0x00, .u8, .ro, .observer, 5, [], [], 0x00, false⟩,  -- Highest subindex
  ⟨0x4980, 8, 0x01, 0x01, .u64, .rwc, .operator, 0, [], [], 0x00, true⟩,  -- Clip ID
  ⟨0x4980, 8, 0x02, 0x02, .u32, .rwc, .integrator, 0, [], [], 0x00, true⟩,  -- Stream ID
  ⟨0x4980, 8, 0x03, 0x03, .u32, .rwc, .operator, 0, [], [], 0x00, true⟩,  -- First frame
  ⟨0x4980, 8, 0x04, 0x04, .u8, .rwc, .integrator, 0, [], [(0, 15)], 0x00, true⟩,  -- Queue
  ⟨0x4980, 8, 0x05, 0x05, .enum, .ro, .observer, 0, [], [], 0x00, false⟩]  -- State

/-- Dictionary rows of indices 0x49XX. -/
def dict49 : List EntryDef := dict49a ++ dict49b ++ dict49c

/-- Dictionary rows of indices 0x4BXX, part 1. -/
def dict4Ba : List EntryDef := [
  ⟨0x4B00, 1, 0x00, 0x00, .u8, .ro, .observer, 12, [], [], 0x00, false⟩,  -- Highest subindex
  ⟨0x4B00, 1, 0x01, 0x01, .enum, .ro, .observer, 1, [], [], 0x00, false⟩,  -- State
  ⟨0x4B00, 1, 0x02, 0x02, .u64, .ro, .observer, 0x2D00000000, [], [], 0x00, false⟩,  -- Usable capacity
  ⟨0x4B00, 1, 0x03, 0x03, .u8, .ro, .observer, 16, [], [], 0x00, false⟩,  -- Ranks in service
  ⟨0x4B00, 1, 0x04, 0x04, .u8, .ro, .observer, 2, [], [], 0x00, false⟩,  -- Spares available
  ⟨0x4B00, 1, 0x05, 0x05, .u16, .rw, .integrator, 8000, [], [(1000, 16000)], 0x00, true⟩,  -- Migration rate
  ⟨0x4B00, 1, 0x06, 0x06, .u16, .rw, .integrator, 256, [], [(16, 65535)], 0x00, true⟩,  -- Correctable threshold
  ⟨0x4B00, 1, 0x07, 0x07, .u16, .rw, .integrator, 24, [], [(1, 168)], 0x00, true⟩,  -- Scrub period
  ⟨0x4B00, 1, 0x08, 0x08, .u8, .rw, .integrator, 1, [], [(0, 1)], 0x00, true⟩,  -- Auto retest
  ⟨0x4B00, 1, 0x09, 0x09, .enum, .wo, .integrator, 0, [], [(1, 3)], 0x00, false⟩,  -- Rank command
  ⟨0x4B00, 1, 0x0A, 0x0A, .u8, .rw, .integrator, 0, [], [(0, 17)], 0x00, true⟩,  -- Command rank
  ⟨0x4B00, 1, 0x0B, 0x0B, .bits 1, .rw, .integrator, 255, [], [], 0x00, true⟩,  -- Standby retention
  ⟨0x4B00, 1, 0x0C, 0x0C, .u8, .wo, .integrator, 0, [], [], 0x00, false⟩,  -- Clear training cache
  ⟨0x4B01, 1, 0x00, 0x00, .u8, .ro, .observer, 9, [], [], 0x00, false⟩,  -- Highest subindex
  ⟨0x4B01, 1, 0x01, 0x01, .enum, .ro, .observer, 0, [], [], 0x00, false⟩,  -- State
  ⟨0x4B01, 1, 0x02, 0x02, .u8, .ro, .observer, 255, [], [], 0x00, false⟩,  -- Source
  ⟨0x4B01, 1, 0x03, 0x03, .u8, .ro, .observer, 255, [], [], 0x00, false⟩,  -- Target
  ⟨0x4B01, 1, 0x04, 0x04, .u8, .ro, .observer, 255, [], [], 0x00, false⟩,  -- Logical rank
  ⟨0x4B01, 1, 0x05, 0x05, .u8, .ro, .observer, 0, [], [], 0x00, false⟩,  -- Blocks checked
  ⟨0x4B01, 1, 0x06, 0x06, .t96, .ro, .observer, 0, [], [], 0x00, false⟩,  -- Started
  ⟨0x4B01, 1, 0x07, 0x07, .u32, .ro, .observer, 0, [], [], 0x00, false⟩,  -- Poisoned lines copied
  ⟨0x4B01, 1, 0x08, 0x08, .bits 4, .ro, .observer, 0, [], [], 0x00, false⟩,  -- Queued ranks
  ⟨0x4B01, 1, 0x09, 0x09, .u32, .ro, .observer, 0, [], [], 0x00, false⟩,  -- Migrations completed
  ⟨0x4B10, 18, 0x00, 0x00, .u8, .ro, .observer, 11, [], [], 0x00, false⟩,  -- Highest subindex
  ⟨0x4B10, 16, 0x01, 0x01, .enum, .ro, .observer, 0, [], [], 0x00, false⟩,  -- State
  ⟨0x4B10, 1, 0x02, 0x02, .u8, .ro, .observer, 0, [], [], 0x00, false⟩,  -- Logical rank
  ⟨0x4B10, 18, 0x03, 0x03, .u64, .ro, .observer, 0, [], [], 0x00, false⟩,  -- Correctable errors
  ⟨0x4B10, 18, 0x04, 0x04, .u16, .ro, .observer, 0, [], [], 0x00, false⟩,  -- Distinct lines, window
  ⟨0x4B10, 18, 0x05, 0x05, .u32, .ro, .observer, 0, [], [], 0x00, false⟩,  -- Uncorrectable errors
  ⟨0x4B10, 18, 0x06, 0x06, .u32, .ro, .observer, 0, [], [], 0x00, false⟩,  -- Address errors
  ⟨0x4B10, 18, 0x07, 0x07, .u32, .ro, .observer, 0, [], [], 0x00, false⟩,  -- Poisoned lines
  ⟨0x4B10, 18, 0x08, 0x08, .enum, .ro, .observer, 0, [], [], 0x00, false⟩,  -- Last retest
  ⟨0x4B10, 18, 0x09, 0x09, .t96, .ro, .observer, 0, [], [], 0x00, false⟩,  -- Last retest time
  ⟨0x4B10, 18, 0x0A, 0x0A, .blob [(0, 0), (32, 32)], .ro, .observer, 0, [], [], 0x00, false⟩,  -- Margin result
  ⟨0x4B10, 18, 0x0B, 0x0B, .enum, .ro, .observer, 0, [], [], 0x00, false⟩,  -- Out-of-service cause
  ⟨0x4B11, 1, 0x02, 0x02, .u8, .ro, .observer, 1, [], [], 0x00, false⟩,  -- Logical rank
  ⟨0x4B12, 1, 0x02, 0x02, .u8, .ro, .observer, 2, [], [], 0x00, false⟩,  -- Logical rank
  ⟨0x4B13, 1, 0x02, 0x02, .u8, .ro, .observer, 3, [], [], 0x00, false⟩,  -- Logical rank
  ⟨0x4B14, 1, 0x02, 0x02, .u8, .ro, .observer, 4, [], [], 0x00, false⟩,  -- Logical rank
  ⟨0x4B15, 1, 0x02, 0x02, .u8, .ro, .observer, 5, [], [], 0x00, false⟩]  -- Logical rank

/-- Dictionary rows of indices 0x4BXX, part 2. -/
def dict4Bb : List EntryDef := [
  ⟨0x4B16, 1, 0x02, 0x02, .u8, .ro, .observer, 6, [], [], 0x00, false⟩,  -- Logical rank
  ⟨0x4B17, 1, 0x02, 0x02, .u8, .ro, .observer, 7, [], [], 0x00, false⟩,  -- Logical rank
  ⟨0x4B18, 1, 0x02, 0x02, .u8, .ro, .observer, 8, [], [], 0x00, false⟩,  -- Logical rank
  ⟨0x4B19, 1, 0x02, 0x02, .u8, .ro, .observer, 9, [], [], 0x00, false⟩,  -- Logical rank
  ⟨0x4B1A, 1, 0x02, 0x02, .u8, .ro, .observer, 10, [], [], 0x00, false⟩,  -- Logical rank
  ⟨0x4B1B, 1, 0x02, 0x02, .u8, .ro, .observer, 11, [], [], 0x00, false⟩,  -- Logical rank
  ⟨0x4B1C, 1, 0x02, 0x02, .u8, .ro, .observer, 12, [], [], 0x00, false⟩,  -- Logical rank
  ⟨0x4B1D, 1, 0x02, 0x02, .u8, .ro, .observer, 13, [], [], 0x00, false⟩,  -- Logical rank
  ⟨0x4B1E, 1, 0x02, 0x02, .u8, .ro, .observer, 14, [], [], 0x00, false⟩,  -- Logical rank
  ⟨0x4B1F, 1, 0x02, 0x02, .u8, .ro, .observer, 15, [], [], 0x00, false⟩,  -- Logical rank
  ⟨0x4B20, 2, 0x01, 0x01, .enum, .ro, .observer, 1, [], [], 0x00, false⟩,  -- State
  ⟨0x4B20, 2, 0x02, 0x02, .u8, .ro, .observer, 255, [], [], 0x00, false⟩,  -- Logical rank
  ⟨0x4B30, 9, 0x00, 0x00, .u8, .ro, .observer, 5, [], [], 0x00, false⟩,  -- Highest subindex
  ⟨0x4B30, 9, 0x01, 0x01, .i32, .ro, .observer, 0, [], [], 0x00, false⟩,  -- Temperature
  ⟨0x4B30, 9, 0x02, 0x02, .u8, .ro, .observer, 1, [], [], 0x00, false⟩,  -- Refresh multiplier
  ⟨0x4B30, 9, 0x03, 0x03, .blob [(8, 8)], .ro, .observer, 0, (List.replicate 8 0), [], 0x00, false⟩,  -- Identity
  ⟨0x4B30, 9, 0x04, 0x04, .bits 1, .ro, .observer, 15, [], [], 0x00, false⟩,  -- Channels trained
  ⟨0x4B30, 9, 0x05, 0x05, .u32, .ro, .observer, 0, [], [], 0x00, false⟩,  -- Refresh changes
  ⟨0x4B40, 1, 0x00, 0x00, .u8, .ro, .observer, 5, [], [], 0x00, false⟩,  -- Highest subindex
  ⟨0x4B40, 1, 0x01, 0x01, .enum, .ro, .observer, 0, [], [], 0x00, false⟩,  -- Last mode
  ⟨0x4B40, 1, 0x02, 0x02, .u32, .ro, .observer, 0, [], [], 0x00, false⟩,  -- Last duration
  ⟨0x4B40, 1, 0x03, 0x03, .bits 1, .ro, .observer, 0, [], [], 0x00, false⟩,  -- Cached bands
  ⟨0x4B40, 1, 0x04, 0x04, .u8, .ro, .observer, 0, [], [], 0x00, false⟩,  -- Last band
  ⟨0x4B40, 1, 0x05, 0x05, .u32, .ro, .observer, 0, [], [], 0x00, false⟩]  -- Full trainings

/-- Dictionary rows of indices 0x4BXX. -/
def dict4B : List EntryDef := dict4Ba ++ dict4Bb

/-- Dictionary rows of indices 0x4CXX, part 1. -/
def dict4Ca : List EntryDef := [
  ⟨0x4C00, 1, 0x00, 0x00, .u8, .ro, .observer, 9, [], [], 0x00, false⟩,  -- Highest subindex
  ⟨0x4C00, 1, 0x01, 0x01, .u8, .rw, .integrator, 2, [], [(2, 4)], 0x00, true⟩,  -- Array size
  ⟨0x4C00, 1, 0x02, 0x02, .u16, .rw, .integrator, 10, [], [(1, 600)], 0x00, true⟩,  -- Formation timeout
  ⟨0x4C00, 1, 0x03, 0x03, .u8, .rw, .integrator, 255, [], [(0, 3), (255, 255)], 0x00, true⟩,  -- Cover position
  ⟨0x4C00, 1, 0x04, 0x04, .bits 1, .rw, .integrator, 0, [], [], 0x00, true⟩,  -- Cover groups
  ⟨0x4C00, 1, 0x05, 0x05, .u8, .rw, .integrator, 255, [], [(0, 31), (255, 255)], 0x00, true⟩,  -- Partner HEARTBEAT input
  ⟨0x4C00, 1, 0x06, 0x06, .u8, .rw, .integrator, 0, [], [(0, 1)], 0x00, true⟩,  -- SHADOW recording
  ⟨0x4C00, 1, 0x07, 0x07, .u8, .rw, .integrator, 1, [], [(0, 1)], 0x00, true⟩,  -- Record on takeover
  ⟨0x4C00, 1, 0x08, 0x08, .enum, .wo, .integrator, 0, [], [(1, 2)], 0x00, false⟩,  -- Command
  ⟨0x4C00, 1, 0x09, 0x09, .u16, .rw, .integrator, 8, [], [(1, 16)], 0x00, true⟩,  -- Window rate
  ⟨0x4C01, 1, 0x00, 0x00, .u8, .ro, .observer, 9, [], [], 0x00, false⟩,  -- Highest subindex
  ⟨0x4C01, 1, 0x01, 0x01, .enum, .ro, .observer, 0, [], [], 0x00, false⟩,  -- Array state
  ⟨0x4C01, 1, 0x02, 0x02, .enum, .ro, .observer, 0, [], [], 0x00, false⟩,  -- Twin role
  ⟨0x4C01, 1, 0x03, 0x03, .enum, .ro, .observer, 0, [], [], 0x00, false⟩,  -- Twin state
  ⟨0x4C01, 1, 0x04, 0x04, .bits 1, .ro, .observer, 0, [], [], 0x00, false⟩,  -- Unarmed causes
  ⟨0x4C01, 1, 0x05, 0x05, .bits 1, .ro, .observer, 0, [], [], 0x00, false⟩,  -- Positions present
  ⟨0x4C01, 1, 0x06, 0x06, .u8, .ro, .observer, 0, [], [], 0x00, false⟩,  -- Acting head
  ⟨0x4C01, 1, 0x07, 0x07, .u64, .ro, .observer, 0, [], [], 0x00, false⟩,  -- Partner die ID
  ⟨0x4C01, 1, 0x08, 0x08, .u32, .ro, .observer, 0, [], [], 0x00, false⟩,  -- Takeovers
  ⟨0x4C01, 1, 0x09, 0x09, .t96, .ro, .observer, 0, [], [], 0x00, false⟩,  -- Last takeover
  ⟨0x4C08, 4, 0x00, 0x00, .u8, .ro, .observer, 10, [], [], 0x00, false⟩,  -- Highest subindex
  ⟨0x4C08, 4, 0x01, 0x01, .enum, .ro, .observer, 0, [], [], 0x00, false⟩,  -- State
  ⟨0x4C08, 4, 0x02, 0x02, .enum, .ro, .observer, 0, [], [], 0x00, false⟩,  -- Partner
  ⟨0x4C08, 4, 0x03, 0x03, .u64, .ro, .observer, 0, [], [], 0x00, false⟩,  -- Partner die ID
  ⟨0x4C08, 4, 0x04, 0x04, .u8, .ro, .observer, 0, [], [], 0x00, false⟩,  -- Partner straps
  ⟨0x4C08, 4, 0x05, 0x05, .i32, .rw, .integrator, 0, [], [(-100000, 100000)], 0x00, true⟩,  -- Asymmetry
  ⟨0x4C08, 4, 0x06, 0x06, .i32, .ro, .observer, 0, [], [], 0x00, false⟩,  -- Time offset
  ⟨0x4C08, 4, 0x07, 0x07, .u32, .ro, .observer, 0, [], [], 0x00, false⟩,  -- Path delay
  ⟨0x4C08, 4, 0x08, 0x08, .u32, .ro, .observer, 0, [], [], 0x00, false⟩,  -- Frames discarded
  ⟨0x4C08, 4, 0x09, 0x09, .u32, .ro, .observer, 0, [], [], 0x00, false⟩,  -- Heartbeats missed
  ⟨0x4C08, 4, 0x0A, 0x0A, .blob [(16, 16)], .ro, .observer, 0, (List.replicate 16 0), [], 0x00, false⟩]  -- Traffic

/-- Dictionary rows of indices 0x4CXX. -/
def dict4C : List EntryDef := dict4Ca

/-- Dictionary rows of indices 0x4DXX, part 1. -/
def dict4Da : List EntryDef := [
  ⟨0x4D00, 1, 0x00, 0x00, .u8, .ro, .observer, 7, [], [], 0x00, false⟩,  -- Highest subindex
  ⟨0x4D00, 1, 0x01, 0x01, .u8, .ro, .observer, 0, [], [], 0x00, false⟩,  -- Lanes
  ⟨0x4D00, 1, 0x02, 0x02, .u8, .rw, .integrator, 1, [], [(0, 1)], 0x00, true⟩,  -- Forwarding
  ⟨0x4D00, 1, 0x03, 0x03, .i32, .rw, .integrator, 0, [], [(-1000000, 1000000)], 0x00, true⟩,  -- Asymmetry, twin index 0
  ⟨0x4D00, 1, 0x04, 0x04, .i32, .rw, .integrator, 0, [], [(-1000000, 1000000)], 0x00, true⟩,  -- Asymmetry, twin index 1
  ⟨0x4D00, 1, 0x05, 0x05, .u8, .rw, .integrator, 255, [], [(0, 31), (255, 255)], 0x00, true⟩,  -- Calibration PPS ball
  ⟨0x4D00, 1, 0x06, 0x06, .enum, .wo, .integrator, 0, [], [(1, 2)], 0x00, false⟩,  -- Command
  ⟨0x4D00, 1, 0x07, 0x07, .u16, .rw, .integrator, 5, [], [(1, 20)], 0x00, true⟩,  -- Upstream manifest wait
  ⟨0x4D01, 1, 0x00, 0x00, .u8, .ro, .observer, 12, [], [], 0x00, false⟩,  -- Highest subindex
  ⟨0x4D01, 1, 0x01, 0x01, .enum, .ro, .observer, 0, [], [], 0x00, false⟩,  -- Receive state
  ⟨0x4D01, 1, 0x02, 0x02, .enum, .ro, .observer, 0, [], [], 0x00, false⟩,  -- Partner role
  ⟨0x4D01, 1, 0x03, 0x03, .u64, .ro, .observer, 0, [], [], 0x00, false⟩,  -- Partner die ID
  ⟨0x4D01, 1, 0x04, 0x04, .u8, .ro, .observer, 255, [], [], 0x00, false⟩,  -- Partner twin index
  ⟨0x4D01, 1, 0x05, 0x05, .i32, .ro, .observer, 0, [], [], 0x00, false⟩,  -- Time offset
  ⟨0x4D01, 1, 0x06, 0x06, .u32, .ro, .observer, 0, [], [], 0x00, false⟩,  -- Path delay
  ⟨0x4D01, 1, 0x07, 0x07, .u32, .ro, .observer, 0, [], [], 0x00, false⟩,  -- Frames discarded
  ⟨0x4D01, 1, 0x08, 0x08, .u32, .ro, .observer, 0, [], [], 0x00, false⟩,  -- CONTROL resends
  ⟨0x4D01, 1, 0x09, 0x09, .u32, .ro, .observer, 0, [], [], 0x00, false⟩,  -- Down episodes
  ⟨0x4D01, 1, 0x0A, 0x0A, .u32, .ro, .observer, 0, [], [], 0x00, false⟩,  -- Last down duration
  ⟨0x4D01, 1, 0x0B, 0x0B, .u32, .ro, .observer, 0, [], [], 0x00, false⟩,  -- Send demand
  ⟨0x4D01, 1, 0x0C, 0x0C, .enum, .ro, .observer, 0, [], [], 0x00, false⟩,  -- Calibration state
  ⟨0x4D10, 64, 0x00, 0x00, .u8, .ro, .observer, 9, [], [], 0x00, false⟩,  -- Highest subindex
  ⟨0x4D10, 64, 0x01, 0x01, .enum, .rw, .integrator, 0, [], [(0, 2)], 0x00, true⟩,  -- Direction
  ⟨0x4D10, 64, 0x02, 0x02, .enum, .rw, .integrator, 1, [], [(1, 5)], 0x00, true⟩,  -- Kind
  ⟨0x4D10, 64, 0x03, 0x03, .u8, .rw, .integrator, 0, [], [(0, 63)], 0x00, true⟩,  -- Source instance
  ⟨0x4D10, 64, 0x04, 0x04, .u8, .rw, .integrator, 0, [], [(0, 15)], 0x00, true⟩,  -- Binding
  ⟨0x4D10, 64, 0x05, 0x05, .u32, .ro, .observer, 0, [], [], 0x00, false⟩,  -- Admitted rate
  ⟨0x4D10, 64, 0x06, 0x06, .u64, .ro, .observer, 0, [], [], 0x00, false⟩,  -- Messages sent
  ⟨0x4D10, 64, 0x07, 0x07, .u32, .ro, .observer, 0, [], [], 0x00, false⟩,  -- Messages discarded
  ⟨0x4D10, 64, 0x08, 0x08, .u64, .ro, .observer, 0, [], [], 0x00, false⟩,  -- Frames received
  ⟨0x4D10, 64, 0x09, 0x09, .u32, .ro, .observer, 0, [], [], 0x00, false⟩]  -- Frames lost

/-- Dictionary rows of indices 0x4DXX. -/
def dict4D : List EntryDef := dict4Da

end Sys2Proof.Machine
end

