-- ==== Sys2Proof/Machine/DictSystem.lean ====
section
/-!
DEFINITION. Sys2Proof/Machine/DictSystem.lean: rows of the object dictionary, copied from the tables of the manual: supply, straps, thermal, governor and time base (R67, R93, R120, R225, R675).
Each row: first index, number of instances (one index each), first and last subindex, type, access, minimum role, default
(a number, or octets), the values a write may take (empty: every value of the type), the reserved bits of a BITS entry, and
whether the parameter store holds it (R124). A default the tables leave open ("—") is 0 or empty (DESIGN CHOICE, log entry 3).
-/

namespace Sys2Proof.Machine

/-- Dictionary rows of indices 0x20XX, part 1. -/
def dict20a : List EntryDef := [
  ⟨0x2000, 1, 0x00, 0x00, .u8, .ro, .observer, 4, [], [], 0x00, false⟩,  -- Highest subindex
  ⟨0x2000, 1, 0x01, 0x01, .u16, .rw, .integrator, 860, [], [(800, 5600)], 0x00, true⟩,  -- Warning level
  ⟨0x2000, 1, 0x02, 0x02, .u16, .ro, .observer, 30, [], [], 0x00, false⟩,  -- Warning hysteresis
  ⟨0x2000, 1, 0x03, 0x03, .u16, .ro, .observer, 700, [], [], 0x00, false⟩,  -- Reset level
  ⟨0x2000, 1, 0x04, 0x04, .u16, .ro, .observer, 900, [], [], 0x00, false⟩,  -- Low-input level
  ⟨0x2001, 1, 0x00, 0x00, .u8, .ro, .observer, 10, [], [], 0x00, false⟩,  -- Highest subindex
  ⟨0x2001, 1, 0x01, 0x01, .u16, .ro, .observer, 0, [], [], 0x00, false⟩,  -- VIN
  ⟨0x2001, 1, 0x02, 0x02, .u16, .ro, .observer, 0, [], [], 0x00, false⟩,  -- Input current
  ⟨0x2001, 1, 0x03, 0x03, .u16, .ro, .observer, 0, [], [], 0x00, false⟩,  -- Input power
  ⟨0x2001, 1, 0x04, 0x04, .bits 1, .ro, .observer, 0, [], [], 0x00, false⟩,  -- Supply flags
  ⟨0x2001, 1, 0x05, 0x05, .u32, .ro, .observer, 0, [], [], 0x00, false⟩,  -- Warnings
  ⟨0x2001, 1, 0x06, 0x06, .u64, .ro, .observer, 0, [], [], 0x00, false⟩,  -- Time in warning
  ⟨0x2001, 1, 0x07, 0x07, .u16, .ro, .observer, 0, [], [], 0x00, false⟩,  -- Minimum VIN
  ⟨0x2001, 1, 0x08, 0x08, .u16, .ro, .observer, 0, [], [], 0x00, false⟩,  -- Maximum VIN
  ⟨0x2001, 1, 0x09, 0x09, .u32, .ro, .observer, 0, [], [], 0x00, false⟩,  -- Lost frames in warning
  ⟨0x2001, 1, 0x0A, 0x0A, .u32, .ro, .observer, 0, [], [], 0x00, false⟩,  -- Current-limit engagements
  ⟨0x2002, 1, 0x00, 0x00, .u8, .ro, .observer, 7, [], [], 0x00, false⟩,  -- Highest subindex
  ⟨0x2002, 1, 0x01, 0x01, .bits 2, .rw, .integrator, 0, [], [], 0x00, true⟩,  -- SDI outputs
  ⟨0x2002, 1, 0x02, 0x02, .bits 1, .rw, .integrator, 0, [], [], 0xFC, true⟩,  -- eDP ports
  ⟨0x2002, 1, 0x03, 0x03, .bits 1, .rw, .integrator, 0, [], [], 0xF0, true⟩,  -- Encode cores
  ⟨0x2002, 1, 0x04, 0x04, .bits 1, .rw, .integrator, 0, [], [], 0xFC, true⟩,  -- Decode cores
  ⟨0x2002, 1, 0x05, 0x05, .bits 1, .rw, .integrator, 0, [], [], 0x00, true⟩,  -- ST 2110 video streams
  ⟨0x2002, 1, 0x06, 0x06, .bits 1, .rw, .integrator, 0, [], [], 0xF8, true⟩,  -- Other loads
  ⟨0x2002, 1, 0x07, 0x07, .bits 1, .ro, .observer, 0, [], [], 0x00, false⟩,  -- Shed now
  ⟨0x2003, 1, 0x00, 0x00, .u8, .ro, .observer, 9, [], [], 0x00, false⟩,  -- Highest subindex
  ⟨0x2003, 1, 0x01, 0x01, .enum, .wo, .integrator, 0, [], [(1, 3)], 0x00, false⟩,  -- Reset command
  ⟨0x2003, 1, 0x02, 0x02, .enum, .rw, .integrator, 0, [], [(0, 34)], 0x00, true⟩,  -- Reset domain
  ⟨0x2003, 1, 0x03, 0x03, .enum, .ro, .observer, 0, [], [], 0x00, false⟩,  -- Last reset cause
  ⟨0x2003, 1, 0x04, 0x04, .u8, .ro, .observer, 0, [], [], 0x00, false⟩,  -- Boot bank
  ⟨0x2003, 1, 0x05, 0x05, .u32, .ro, .observer, 0, [], [], 0x00, false⟩,  -- Boot time
  ⟨0x2003, 1, 0x06, 0x06, .u32, .ro, .observer, 0, [], [], 0x00, false⟩,  -- First-frame time
  ⟨0x2003, 1, 0x07, 0x07, .enum, .ro, .observer, 0, [], [], 0x00, false⟩,  -- DRAM training mode
  ⟨0x2003, 1, 0x08, 0x08, .u32, .ro, .observer, 0, [], [], 0x00, false⟩,  -- Cold resets
  ⟨0x2003, 1, 0x09, 0x09, .u32, .ro, .observer, 0, [], [], 0x00, false⟩,  -- Warm resets
  ⟨0x2010, 1, 0x00, 0x00, .u8, .ro, .observer, 5, [], [], 0x00, false⟩,  -- Highest subindex
  ⟨0x2010, 1, 0x01, 0x01, .bits 1, .ro, .observer, 0, [], [], 0x00, false⟩,  -- Sampled straps
  ⟨0x2010, 1, 0x02, 0x02, .bits 2, .ro, .observer, 0, [], [], 0x00, false⟩,  -- Open straps
  ⟨0x2010, 1, 0x03, 0x03, .bits 1, .ro, .observer, 0, [], [], 0x00, false⟩,  -- Bank levels
  ⟨0x2010, 1, 0x04, 0x04, .enum, .ro, .observer, 0, [], [], 0x00, false⟩,  -- Ordering code
  ⟨0x2010, 1, 0x05, 0x05, .u8, .ro, .observer, 0, [], [], 0x00, false⟩]  -- Package revision

/-- Dictionary rows of indices 0x20XX. -/
def dict20 : List EntryDef := dict20a

/-- Dictionary rows of indices 0x21XX, part 1. -/
def dict21a : List EntryDef := [
  ⟨0x2100, 1, 0x00, 0x00, .u8, .ro, .observer, 10, [], [], 0x00, false⟩,  -- Highest subindex
  ⟨0x2100, 1, 0x01, 0x01, .i32, .ro, .observer, 11500, [], [], 0x00, false⟩,  -- Warn level
  ⟨0x2100, 1, 0x02, 0x02, .i32, .ro, .observer, 12500, [], [], 0x00, false⟩,  -- Throttle level
  ⟨0x2100, 1, 0x03, 0x03, .i32, .ro, .observer, 13500, [], [], 0x00, false⟩,  -- Heavy-throttle level
  ⟨0x2100, 1, 0x04, 0x04, .i32, .ro, .observer, 15000, [], [], 0x00, false⟩,  -- Trip level
  ⟨0x2100, 1, 0x05, 0x05, .i32, .ro, .observer, 11500, [], [], 0x00, false⟩,  -- DRAM throttle level
  ⟨0x2100, 1, 0x06, 0x06, .i32, .ro, .observer, 13000, [], [], 0x00, false⟩,  -- DRAM trip level
  ⟨0x2100, 1, 0x07, 0x07, .i32, .ro, .observer, 11000, [], [], 0x00, false⟩,  -- Restart level
  ⟨0x2100, 1, 0x08, 0x08, .i32, .rw, .integrator, 11500, [], [(9000, 12500)], 0x00, true⟩,  -- Power-stage limit
  ⟨0x2100, 1, 0x09, 0x09, .u16, .rw, .integrator, 100, [], [(20, 400)], 0x00, true⟩,  -- DRAM throttle Bulk cap
  ⟨0x2100, 1, 0x0A, 0x0A, .bits 1, .rw, .integrator, 15, [], [], 0xE0, true⟩,  -- Divisible domains
  ⟨0x2101, 1, 0x00, 0x00, .u8, .ro, .observer, 12, [], [], 0x00, false⟩,  -- Highest subindex
  ⟨0x2101, 1, 0x01, 0x01, .i32, .ro, .observer, 0, [], [], 0x00, false⟩,  -- T_die
  ⟨0x2101, 1, 0x02, 0x02, .u8, .ro, .observer, 0, [], [], 0x00, false⟩,  -- Hottest core sensor
  ⟨0x2101, 1, 0x03, 0x03, .i32, .ro, .observer, 0, [], [], 0x00, false⟩,  -- T_dram
  ⟨0x2101, 1, 0x04, 0x04, .i32, .ro, .observer, 0, [], [], 0x00, false⟩,  -- TSP reading
  ⟨0x2101, 1, 0x05, 0x05, .u8, .ro, .observer, 0, [], [], 0x00, false⟩,  -- Thermal request
  ⟨0x2101, 1, 0x06, 0x06, .bits 1, .ro, .observer, 0, [], [], 0x00, false⟩,  -- Thermal flags
  ⟨0x2101, 1, 0x07, 0x07, .u8, .ro, .observer, 1, [], [], 0x00, false⟩,  -- Edge division
  ⟨0x2101, 1, 0x08, 0x08, .bits 8, .ro, .observer, 0, [], [], 0x00, false⟩,  -- Excluded core sensors
  ⟨0x2101, 1, 0x09, 0x09, .bits 2, .ro, .observer, 0, [], [], 0x00, false⟩,  -- Excluded other sensors
  ⟨0x2101, 1, 0x0A, 0x0A, .u64, .ro, .observer, 0, [], [], 0x00, false⟩,  -- Time throttled
  ⟨0x2101, 1, 0x0B, 0x0B, .u64, .ro, .observer, 0, [], [], 0x00, false⟩,  -- Time in heavy throttle
  ⟨0x2101, 1, 0x0C, 0x0C, .u32, .ro, .observer, 0, [], [], 0x00, false⟩,  -- Trips
  ⟨0x2102, 1, 0x00, 0x00, .u8, .ro, .observer, 64, [], [], 0x00, false⟩,  -- Highest subindex
  ⟨0x2102, 1, 0x01, 0x40, .i32, .ro, .observer, 0, [], [], 0x00, false⟩,  -- TS0–TS63
  ⟨0x2103, 1, 0x00, 0x00, .u8, .ro, .observer, 10, [], [], 0x00, false⟩,  -- Highest subindex
  ⟨0x2103, 1, 0x01, 0x09, .i32, .ro, .observer, 0, [], [], 0x00, false⟩,  -- TSM0–TSM8
  ⟨0x2103, 1, 0x0A, 0x0A, .i32, .ro, .observer, 0, [], [], 0x00, false⟩,  -- TSP
  ⟨0x2110, 1, 0x00, 0x00, .u8, .ro, .observer, 66, [], [], 0x00, false⟩,  -- Highest subindex
  ⟨0x2110, 1, 0x01, 0x40, .blob [(0, 0), (32, 32)], .ro, .observer, 0, [], [], 0x00, false⟩,  -- Trip entry 0–63
  ⟨0x2110, 1, 0x41, 0x41, .blob [(0, 0), (32, 32)], .ro, .observer, 0, [], [], 0x00, false⟩,  -- Last shutdown
  ⟨0x2110, 1, 0x42, 0x42, .u32, .ro, .observer, 0, [], [], 0x00, false⟩]  -- Trips not logged

/-- Dictionary rows of indices 0x21XX. -/
def dict21 : List EntryDef := dict21a

/-- Dictionary rows of indices 0x22XX, part 1. -/
def dict22a : List EntryDef := [
  ⟨0x2200, 1, 0x00, 0x00, .u8, .ro, .observer, 10, [], [], 0x00, false⟩,  -- Highest subindex
  ⟨0x2200, 1, 0x01, 0x01, .enum, .rw, .integrator, 0, [], [(0, 1)], 0x00, true⟩,  -- Mode
  ⟨0x2200, 1, 0x02, 0x02, .u8, .rw, .integrator, 12, [], [(12, 40)], 0x00, true⟩,  -- Margin floor
  ⟨0x2200, 1, 0x03, 0x03, .u8, .rw, .integrator, 20, [], [(16, 60)], 0x00, true⟩,  -- Margin upper bound
  ⟨0x2200, 1, 0x04, 0x04, .u16, .rw, .integrator, 9500, [], [(6000, 9500)], 0x00, true⟩,  -- VCORE_T ceiling
  ⟨0x2200, 1, 0x05, 0x05, .u16, .rw, .integrator, 9500, [], [(6000, 9500)], 0x00, true⟩,  -- VCORE_S ceiling
  ⟨0x2200, 1, 0x06, 0x06, .u16, .rw, .integrator, 5000, [], [(5000, 9500)], 0x00, true⟩,  -- VCORE_T floor
  ⟨0x2200, 1, 0x07, 0x07, .u16, .rw, .integrator, 5500, [], [(5000, 9500)], 0x00, true⟩,  -- VCORE_S floor
  ⟨0x2200, 1, 0x08, 0x08, .u16, .rw, .integrator, 7500, [], [(5000, 9500)], 0x00, true⟩,  -- VCORE_T fixed value
  ⟨0x2200, 1, 0x09, 0x09, .u16, .rw, .integrator, 7500, [], [(5000, 9500)], 0x00, true⟩,  -- VCORE_S fixed value
  ⟨0x2200, 1, 0x0A, 0x0A, .u8, .rw, .integrator, 1, [], [(0, 1)], 0x00, true⟩,  -- Reduced look enable
  ⟨0x2201, 1, 0x00, 0x00, .u8, .ro, .observer, 12, [], [], 0x00, false⟩,  -- Highest subindex
  ⟨0x2201, 1, 0x01, 0x01, .u16, .ro, .observer, 7500, [], [], 0x00, false⟩,  -- VCORE_T set point
  ⟨0x2201, 1, 0x02, 0x02, .u16, .ro, .observer, 7500, [], [], 0x00, false⟩,  -- VCORE_S set point
  ⟨0x2201, 1, 0x03, 0x03, .enum, .ro, .observer, 0, [], [], 0x00, false⟩,  -- VCORE_T state
  ⟨0x2201, 1, 0x04, 0x04, .enum, .ro, .observer, 0, [], [], 0x00, false⟩,  -- VCORE_S state
  ⟨0x2201, 1, 0x05, 0x05, .i32, .ro, .observer, 0, [], [], 0x00, false⟩,  -- VCORE_T minimum slack
  ⟨0x2201, 1, 0x06, 0x06, .i32, .ro, .observer, 0, [], [], 0x00, false⟩,  -- VCORE_S minimum slack
  ⟨0x2201, 1, 0x07, 0x07, .u32, .ro, .observer, 0, [], [], 0x00, false⟩,  -- Reduced-look frames
  ⟨0x2201, 1, 0x08, 0x08, .u32, .ro, .observer, 0, [], [], 0x00, false⟩,  -- Seamed frames
  ⟨0x2201, 1, 0x09, 0x09, .u32, .ro, .observer, 0, [], [], 0x00, false⟩,  -- Abandoned frames
  ⟨0x2201, 1, 0x0A, 0x0A, .u64, .ro, .observer, 0, [], [], 0x00, false⟩,  -- Time at ceiling
  ⟨0x2201, 1, 0x0B, 0x0B, .u32, .ro, .observer, 0, [], [], 0x00, false⟩,  -- Ceiling events
  ⟨0x2201, 1, 0x0C, 0x0C, .u32, .ro, .observer, 0, [], [], 0x00, false⟩,  -- Raise-blocked events
  ⟨0x2202, 1, 0x00, 0x00, .u8, .ro, .observer, 4, [], [], 0x00, false⟩,  -- Highest subindex
  ⟨0x2202, 1, 0x01, 0x01, .u8, .ro, .observer, 0, [], [], 0x00, false⟩,  -- Skip count
  ⟨0x2202, 1, 0x02, 0x02, .bits 1, .ro, .observer, 0, [], [], 0x00, false⟩,  -- Limit sources
  ⟨0x2202, 1, 0x03, 0x03, .u64, .ro, .observer, 0, [], [], 0x00, false⟩,  -- Idle tokens issued
  ⟨0x2202, 1, 0x04, 0x04, .u16, .rw, .integrator, 225, [], [(60, 225)], 0x00, true⟩]  -- Power limit

/-- Dictionary rows of indices 0x22XX. -/
def dict22 : List EntryDef := dict22a

/-- Dictionary rows of indices 0x23XX, part 1. -/
def dict23a : List EntryDef := [
  ⟨0x2300, 1, 0x00, 0x00, .u8, .ro, .observer, 12, [], [], 0x00, false⟩,  -- Highest subindex
  ⟨0x2300, 1, 0x01, 0x01, .t96, .ro, .observer, 0, [], [], 0x00, false⟩,  -- Present time
  ⟨0x2300, 1, 0x02, 0x02, .bits 1, .ro, .observer, 0, [], [], 0x00, false⟩,  -- State
  ⟨0x2300, 1, 0x03, 0x03, .u64, .ro, .observer, 0x200000000, [], [], 0x00, false⟩,  -- Increment
  ⟨0x2300, 1, 0x04, 0x04, .i32, .ro, .observer, 0, [], [], 0x00, false⟩,  -- Phase offset
  ⟨0x2300, 1, 0x05, 0x05, .i32, .ro, .observer, 0, [], [], 0x00, false⟩,  -- Frequency offset
  ⟨0x2300, 1, 0x06, 0x06, .u32, .ro, .observer, 0, [], [], 0x00, false⟩,  -- Estimated error
  ⟨0x2300, 1, 0x07, 0x07, .i32, .ro, .observer, 0, [], [], 0x00, false⟩,  -- Oscillator temperature
  ⟨0x2300, 1, 0x08, 0x08, .u32, .ro, .observer, 0, [], [], 0x00, false⟩,  -- Holdover entries
  ⟨0x2300, 1, 0x09, 0x09, .u64, .ro, .observer, 0, [], [], 0x00, false⟩,  -- Time in holdover
  ⟨0x2300, 1, 0x0A, 0x0A, .u32, .ro, .observer, 0, [], [], 0x00, false⟩,  -- Steps
  ⟨0x2300, 1, 0x0B, 0x0B, .i32, .ro, .observer, 0, [], [], 0x00, false⟩,  -- Last step
  ⟨0x2300, 1, 0x0C, 0x0C, .t96, .wo, .integrator, 0, [], [], 0x00, false⟩,  -- Time set
  ⟨0x2301, 1, 0x00, 0x00, .u8, .ro, .observer, 11, [], [], 0x00, false⟩,  -- Highest subindex
  ⟨0x2301, 1, 0x01, 0x01, .enum, .rw, .integrator, 0, [], [(0, 3)], 0x00, true⟩,  -- Source 1
  ⟨0x2301, 1, 0x02, 0x02, .enum, .rw, .integrator, 0, [], [(0, 3)], 0x00, true⟩,  -- Source 2
  ⟨0x2301, 1, 0x03, 0x03, .enum, .rw, .integrator, 0, [], [(0, 3)], 0x00, true⟩,  -- TREF frequency
  ⟨0x2301, 1, 0x04, 0x04, .u8, .rw, .integrator, 255, [], [(0, 31), (255, 255)], 0x00, true⟩,  -- PPS input
  ⟨0x2301, 1, 0x05, 0x05, .u16, .rw, .integrator, 10, [], [(1, 600)], 0x00, true⟩,  -- Qualification time
  ⟨0x2301, 1, 0x06, 0x06, .u32, .rw, .integrator, 10000, [], [(100, 1000000)], 0x00, true⟩,  -- Holdover limit
  ⟨0x2301, 1, 0x07, 0x07, .u16, .rw, .integrator, 50, [], [(1, 100)], 0x00, true⟩,  -- Slew limit
  ⟨0x2301, 1, 0x08, 0x08, .u32, .rw, .integrator, 1000, [], [(100, 1000000000)], 0x00, true⟩,  -- Step threshold
  ⟨0x2301, 1, 0x09, 0x09, .enum, .rw, .integrator, 0, [], [(0, 1)], 0x00, true⟩,  -- Step policy
  ⟨0x2301, 1, 0x0A, 0x0A, .u32, .rw, .integrator, 100, [], [(20, 10000)], 0x00, true⟩,  -- Lock threshold
  ⟨0x2301, 1, 0x0B, 0x0B, .u16, .rw, .integrator, 37, [], [], 0x00, true⟩,  -- UTC offset
  ⟨0x2302, 1, 0x00, 0x00, .u8, .ro, .observer, 12, [], [], 0x00, false⟩,  -- Highest subindex
  ⟨0x2302, 1, 0x01, 0x01, .enum, .rw, .integrator, 0, [], [(0, 3)], 0x00, true⟩,  -- Mode
  ⟨0x2302, 1, 0x02, 0x02, .bits 2, .rw, .integrator, 1, [], [], 0xFE00, true⟩,  -- Ports
  ⟨0x2302, 1, 0x03, 0x03, .u8, .rw, .integrator, 127, [], [], 0x00, true⟩,  -- Domain
  ⟨0x2302, 1, 0x04, 0x04, .u8, .rw, .integrator, 128, [], [], 0x00, true⟩,  -- Priority1
  ⟨0x2302, 1, 0x05, 0x05, .u8, .rw, .integrator, 128, [], [], 0x00, true⟩,  -- Priority2
  ⟨0x2302, 1, 0x06, 0x06, .i32, .rw, .integrator, 0xFFFFFFFE, [], [], 0x00, true⟩,  -- logAnnounceInterval
  ⟨0x2302, 1, 0x07, 0x07, .u8, .rw, .integrator, 3, [], [], 0x00, true⟩,  -- announceReceiptTimeout
  ⟨0x2302, 1, 0x08, 0x08, .i32, .rw, .integrator, 0xFFFFFFFD, [], [], 0x00, true⟩,  -- logSyncInterval
  ⟨0x2302, 1, 0x09, 0x09, .i32, .rw, .integrator, 0xFFFFFFFD, [], [], 0x00, true⟩,  -- logMinDelayReqInterval
  ⟨0x2302, 1, 0x0A, 0x0A, .enum, .rw, .integrator, 0, [], [(0, 1)], 0x00, true⟩,  -- Delay request mode
  ⟨0x2302, 1, 0x0B, 0x0B, .u64, .rw, .integrator, 0x7530000003E9, [], [], 0x00, true⟩,  -- Default frame rate
  ⟨0x2302, 1, 0x0C, 0x0C, .bits 1, .rw, .integrator, 0, [], [], 0xFC, true⟩,  -- Leap flags
  ⟨0x2303, 1, 0x00, 0x00, .u8, .ro, .observer, 8, [], [], 0x00, false⟩,  -- Highest subindex
  ⟨0x2303, 1, 0x01, 0x01, .u8, .ro, .observer, 248, [], [], 0x00, false⟩]  -- Advertised clockClass

/-- Dictionary rows of indices 0x23XX, part 2. -/
def dict23b : List EntryDef := [
  ⟨0x2303, 1, 0x02, 0x02, .u8, .ro, .observer, 254, [], [], 0x00, false⟩,  -- Advertised clockAccuracy
  ⟨0x2303, 1, 0x03, 0x03, .blob [(8, 8)], .ro, .observer, 0, (List.replicate 8 0), [], 0x00, false⟩,  -- Grandmaster identity
  ⟨0x2303, 1, 0x04, 0x04, .u16, .ro, .observer, 0, [], [], 0x00, false⟩,  -- stepsRemoved
  ⟨0x2303, 1, 0x05, 0x05, .i32, .ro, .observer, 0, [], [], 0x00, false⟩,  -- Offset from master
  ⟨0x2303, 1, 0x06, 0x06, .u32, .ro, .observer, 0, [], [], 0x00, false⟩,  -- Mean path delay
  ⟨0x2303, 1, 0x07, 0x07, .blob [(9, 9)], .ro, .observer, 0, (List.replicate 9 0), [], 0x00, false⟩,  -- Port states
  ⟨0x2303, 1, 0x08, 0x08, .blob [(8, 8)], .ro, .observer, 0, (List.replicate 8 0), [], 0x00, false⟩,  -- Clock identity
  ⟨0x2310, 1, 0x00, 0x00, .u8, .ro, .observer, 10, [], [], 0x00, false⟩,  -- Highest subindex
  ⟨0x2310, 1, 0x01, 0x01, .blob [(32, 32)], .wo, .operator, 0, (List.replicate 32 0), [], 0x00, false⟩,  -- Submit
  ⟨0x2310, 1, 0x02, 0x02, .u16, .wo, .operator, 0, [], [], 0x00, false⟩,  -- Cancel
  ⟨0x2310, 1, 0x03, 0x03, .u16, .ro, .observer, 0, [], [], 0x00, false⟩,  -- Entries pending
  ⟨0x2310, 1, 0x04, 0x04, .u64, .ro, .observer, 0, [], [], 0x00, false⟩,  -- Launched
  ⟨0x2310, 1, 0x05, 0x05, .u32, .ro, .observer, 0, [], [], 0x00, false⟩,  -- Launched late
  ⟨0x2310, 1, 0x06, 0x06, .u32, .ro, .observer, 0, [], [], 0x00, false⟩,  -- Discarded
  ⟨0x2310, 1, 0x07, 0x07, .u32, .ro, .observer, 0, [], [], 0x00, false⟩,  -- Cancelled
  ⟨0x2310, 1, 0x08, 0x08, .u32, .ro, .observer, 10000, [], [], 0x00, false⟩,  -- Minimum lead
  ⟨0x2310, 1, 0x09, 0x09, .u16, .wo, .integrator, 0, [], [], 0x00, false⟩,  -- Cancel by ID, any submitter
  ⟨0x2310, 1, 0x0A, 0x0A, .u8, .wo, .integrator, 0, [], [], 0x00, false⟩,  -- Cancel all host entries
  ⟨0x2320, 32, 0x00, 0x00, .u8, .ro, .observer, 8, [], [], 0x00, false⟩,  -- Highest subindex
  ⟨0x2320, 32, 0x01, 0x01, .enum, .rw, .integrator, 0, [], [], 0x00, true⟩,  -- Function
  ⟨0x2320, 32, 0x02, 0x02, .u8, .rw, .integrator, 0, [], [(0, 1)], 0x00, true⟩,  -- Polarity
  ⟨0x2320, 32, 0x03, 0x03, .u64, .rw, .integrator, 0x100000001, [], [], 0x00, true⟩,  -- Rate
  ⟨0x2320, 32, 0x04, 0x04, .i32, .rw, .integrator, 0, [], [(-500000000, 500000000)], 0x00, true⟩,  -- Offset
  ⟨0x2320, 32, 0x05, 0x05, .u32, .rw, .integrator, 100000, [], [(10, 4294967295)], 0x00, true⟩,  -- Pulse width
  ⟨0x2320, 32, 0x06, 0x06, .u8, .rw, .integrator, 0, [], [(0, 7)], 0x00, true⟩,  -- Context
  ⟨0x2320, 32, 0x07, 0x07, .u32, .ro, .observer, 0, [], [], 0x00, false⟩,  -- Captures dropped
  ⟨0x2320, 32, 0x08, 0x08, .blob [(0, 0), (13, 13)], .ro, .observer, 0, [], [], 0x00, false⟩]  -- Oldest capture

/-- Dictionary rows of indices 0x23XX. -/
def dict23 : List EntryDef := dict23a ++ dict23b

end Sys2Proof.Machine
end

