-- ==== Sys2Proof/Machine/Dict.lean ====
section
/-!
DEFINITION. Sys2Proof/Machine/Dict.lean: looking an entry up in the dictionary (R8, R122): the row that defines it, its default,
and whether the index is defined at all.
-/

namespace Sys2Proof.Machine

/-- The rows of the index page `p` (the high octet of the index). -/
def dictPage (p : Nat) : List EntryDef :=
  match p with
  | 0x10 => dict10
  | 0x11 => dict11
  | 0x12 => dict12
  | 0x13 => dict13
  | 0x14 => dict14
  | 0x20 => dict20
  | 0x21 => dict21
  | 0x22 => dict22
  | 0x23 => dict23
  | 0x24 => dict24
  | 0x25 => dict25
  | 0x26 => dict26
  | 0x27 => dict27
  | 0x30 => dict30
  | 0x34 => dict34
  | 0x38 => dict38
  | 0x3C => dict3C
  | 0x40 => dict40
  | 0x41 => dict41
  | 0x44 => dict44
  | 0x48 => dict48
  | 0x49 => dict49
  | 0x4B => dict4B
  | 0x4C => dict4C
  | 0x4D => dict4D
  | _ => []

/-- The row that defines subindex `sub` of `index`, if any (R8). -/
def entryDef (index sub : Nat) : Option EntryDef :=
  (dictPage (index / 256)).find? fun r => r.holds index && r.first ≤ sub && sub ≤ r.last

/-- Some subindex of the index is defined (R122: NO_ENTRY otherwise). -/
def indexDefined (index : Nat) : Bool :=
  (dictPage (index / 256)).any fun r => r.holds index

/-- The row of a packed entry name. -/
def keyDef (k : Nat) : Option EntryDef := entryDef (k / 256) (k % 256)

/-- The default of a numeric entry (R123); 0 where no row defines the entry. -/
def dfltNum (k : Nat) : Nat := match keyDef k with | some r => r.dnum | none => 0

/-- The default of an octet-string entry; empty where no row defines it. -/
def dfltBytes (k : Nat) : Bytes :=
  match keyDef k with | some r => r.dbytes.map (BitVec.ofNat 8) | none => []

end Sys2Proof.Machine
end

