-- ==== Sys2Proof/Machine/Events.lean ====
section
/-!
DEFINITION. Sys2Proof/Machine/Events.lean: the severity of every event code, from the event tables of the chapters (R13, R751, R758).
Severities: 1 NOTICE, 2 WARNING, 3 ERROR, 4 CRITICAL. Where a table gives two severities, the one listed is that of the
ordinary case and the meaning that raises the event says when the other applies.
-/

namespace Sys2Proof.Machine

/-- Severities of the events with high byte 0x01. -/
def severity01 (low : Nat) : Nat :=
  match low with
  | 0x01 => 1  -- Low-input operation
  | 0x02 => 2  -- Supply warning
  | 0x03 => 1  -- Supply warning cleared
  | 0x04 => 3  -- Input current limit
  | 0x05 => 2  -- Overvoltage
  | 0x06 => 2  -- Supply cap throttling
  | 0x07 => 3  -- Supply reset
  | 0x08 => 1  -- Boot complete
  | 0x09 => 3  -- Firmware bank fallback
  | 0x0A => 3  -- Control-core watchdog
  | 0x0B => 1  -- Domain reset
  | 0x0C => 3  -- Host firmware timeout
  | 0x20 => 3  -- Strap fault
  | 0x30 => 1  -- Self-test result
  | 0x31 => 2  -- MRAM structure rebuilt
  | 0x32 => 2  -- Events lost
  | 0x33 => 2  -- Event log erased
  | _ => 1

/-- Severities of the events with high byte 0x02. -/
def severity02 (low : Nat) : Nat :=
  match low with
  | 0x01 => 2  -- Sensor excluded
  | 0x02 => 1  -- Sensor restored
  | 0x03 => 2  -- Warn level
  | 0x04 => 1  -- Warn cleared
  | 0x05 => 2  -- Throttling
  | 0x06 => 1  -- Throttling cleared
  | 0x07 => 3  -- Heavy throttle
  | 0x08 => 2  -- DRAM throttle
  | 0x09 => 1  -- DRAM throttle cleared
  | 0x0A => 2  -- Power-stage limit
  | 0x0B => 4  -- Thermal trip
  | 0x0C => 3  -- Trip reported at boot
  | 0x0D => 4  -- Sensor fail-safe
  | 0x0E => 2  -- Shutdown log full
  | _ => 1

/-- Severities of the events with high byte 0x03. -/
def severity03 (low : Nat) : Nat :=
  match low with
  | 0x01 => 2  -- Rail at ceiling
  | 0x02 => 1  -- Ceiling cleared
  | 0x03 => 2  -- Reduced look
  | 0x04 => 3  -- Frame abandoned
  | 0x05 => 2  -- Raise blocked
  | 0x06 => 1  -- Pre-raise short
  | 0x07 => 3  -- Replica-path self-test failed
  | _ => 1

/-- Severities of the events with high byte 0x04. -/
def severity04 (low : Nat) : Nat :=
  match low with
  | 0x01 => 1  -- Write superseded
  | 0x02 => 1  -- Group replaced
  | 0x03 => 2  -- Authentication failure
  | 0x04 => 2  -- Session set-up refused
  | 0x05 => 2  -- Source locked out
  | 0x06 => 2  -- Slot overflow
  | 0x07 => 3  -- CAN bus-off
  | 0x08 => 1  -- CAN bus recovered
  | 0x09 => 3  -- Parameter store failed
  | 0x0A => 1  -- Transfer timeout
  | 0x0B => 2  -- Commit refused, OVERBUDGET
  | 0x0C => 2  -- Stored value discarded
  | 0x0D => 1  -- Targeted frame skipped
  | _ => 1

/-- Severities of the events with high byte 0x05. -/
def severity05 (low : Nat) : Nat :=
  match low with
  | 0x01 => 3  -- Firmware image refused
  | 0x02 => 2  -- Look-program image refused
  | 0x03 => 1  -- Life-cycle transition
  | 0x04 => 1  -- Pending key generated
  | 0x05 => 1  -- Device key activated
  | 0x06 => 1  -- Epoch raised
  | 0x07 => 1  -- Credential slot changed
  | 0x08 => 2  -- Credential revoked
  | 0x09 => 1  -- Recipient keys changed
  | 0x0A => 1  -- Chain start
  | 0x0B => 2  -- Manifest late or truncated
  | 0x0C => 1  -- Attestation served
  | _ => 1

/-- Severities of the events with high byte 0x06. -/
def severity06 (low : Nat) : Nat :=
  match low with
  | 0x01 => 2  -- Source disqualified
  | 0x02 => 2  -- Holdover entered
  | 0x03 => 3  -- Holdover limit exceeded
  | 0x04 => 1  -- Source qualified
  | 0x05 => 1  -- Locked
  | 0x06 => 2  -- Time stepped
  | 0x07 => 1  -- Step withheld
  | 0x08 => 1  -- PTP grandmaster changed
  | 0x09 => 1  -- PTP port state
  | 0x0A => 1  -- Launch
  | 0x0B => 2  -- Launch discarded
  | 0x0C => 2  -- Launch queue full
  | 0x0D => 1  -- Capture overflow
  | 0x0E => 2  -- Lock lost
  | _ => 1

/-- Severities of the events with high byte 0x07. -/
def severity07 (low : Nat) : Nat :=
  match low with
  | 0x01 => 2  -- Loss of signal
  | 0x02 => 1  -- Signal restored
  | 0x03 => 2  -- Lock lost
  | 0x04 => 1  -- Lock regained
  | 0x05 => 2  -- High bit error rate
  | 0x06 => 1  -- Lane trained
  | 0x07 => 3  -- Training failed
  | 0x08 => 3  -- Reference missing
  | 0x09 => 1  -- Quad function changed
  | 0x0A => 2  -- FEC uncorrected
  | _ => 1

/-- Severities of the events with high byte 0x08. -/
def severity08 (low : Nat) : Nat :=
  match low with
  | 0x01 => 2  -- Line CRC error
  | 0x02 => 2  -- Overflow
  | 0x04 => 2  -- Lock lost in frame
  | 0x05 => 1  -- Resynchronised
  | 0x06 => 2  -- Geometry mismatch
  | 0x07 => 2  -- Early frame refused
  | 0x08 => 2  -- Frame late
  | 0x09 => 2  -- Counter break
  | 0x0A => 3  -- Deskew failure
  | 0x0B => 1  -- Stray packets
  | 0x0C => 1  -- Context state
  | 0x0D => 2  -- Exposure write overrun
  | 0x0E => 2  -- Sensor control error
  | 0x0F => 2  -- Group skew
  | _ => 1

/-- Severities of the events with high byte 0x09. -/
def severity09 (low : Nat) : Nat :=
  match low with
  | 0x01 => 2  -- Black level held
  | 0x02 => 3  -- Frame cut in raw front end
  | 0x03 => 2  -- Statistics record late
  | 0x04 => 2  -- Defect alarm
  | 0x05 => 3  -- Raw front end fenced
  | 0x06 => 1  -- Raw front end retest
  | _ => 1

/-- Severities of the events with high byte 0x0A. -/
def severity0A (low : Nat) : Nat :=
  match low with
  | 0x01 => 3  -- Program fault
  | 0x02 => 3  -- Engine fenced
  | 0x03 => 3  -- Troupe fenced
  | 0x04 => 1  -- Retest
  | 0x05 => 2  -- Table load wait
  | 0x06 => 2  -- Declared cost exceeded
  | 0x07 => 2  -- Program load late
  | 0x08 => 2  -- Reduced look forced
  | 0x10 => 1  -- Calibration committed
  | 0x11 => 1  -- Table sealed
  | 0x12 => 3  -- Table selection dropped
  | _ => 1

/-- Severities of the events with high byte 0x0B. -/
def severity0B (low : Nat) : Nat :=
  match low with
  | 0x01 => 2  -- Stripe late
  | 0x02 => 3  -- Troupe shortage
  | 0x03 => 1  -- Troupe shortage cleared
  | 0x04 => 2  -- Chase offset short
  | 0x05 => 2  -- Array halo late
  | 0x06 => 1  -- Array look decision
  | _ => 1

/-- Severities of the events with high byte 0x0C. -/
def severity0C (low : Nat) : Nat :=
  match low with
  | 0x01 => 2  -- Underrun
  | 0x02 => 1  -- Fallback frame
  | 0x03 => 2  -- Freeze alarm
  | 0x04 => 1  -- Freeze cleared
  | 0x05 => 2  -- Selection margin low
  | 0x06 => 1  -- Raster restarted
  | 0x07 => 1  -- SDI input state
  | 0x08 => 3  -- eDP port fault
  | 0x09 => 1  -- Panel self-refresh
  | 0x0A => 2  -- Store drop
  | 0x0B => 3  -- Twin mismatch
  | 0x0C => 2  -- Stream path down
  | 0x0D => 1  -- Stream path restored
  | 0x0E => 2  -- Lock-group signal late
  | _ => 1

/-- Severities of the events with high byte 0x0D. -/
def severity0D (low : Nat) : Nat :=
  match low with
  | 0x01 => 2  -- Picture late
  | 0x02 => 1  -- Fallback picture
  | 0x03 => 2  -- Frame overtaken
  | 0x04 => 2  -- Emergency coding
  | 0x05 => 1  -- Mark changed
  | 0x06 => 1  -- Recovery picture
  | 0x07 => 2  -- Decoder fault
  | 0x08 => 2  -- Picture concealed or tainted
  | 0x09 => 3  -- Stream unsupported
  | 0x0A => 1  -- Decoder resynchronised
  | 0x0B => 2  -- Decode late
  | 0x0C => 1  -- Stream shed
  | 0x0D => 2  -- Record discarded
  | _ => 1

/-- Severities of the events with high byte 0x0E. -/
def severity0E (low : Nat) : Nat :=
  match low with
  | 0x01 => 2  -- Check failure
  | 0x03 => 2  -- Ring frame dropped
  | 0x05 => 2  -- Block format error
  | 0x06 => 1  -- Held tail discarded
  | 0x07 => 1  -- Extraction complete
  | _ => 1

/-- Severities of the events with high byte 0x0F. -/
def severity0F (low : Nat) : Nat :=
  match low with
  | 0x01 => 3  -- Queue frozen
  | 0x02 => 1  -- Queue restarted
  | 0x03 => 1  -- Queue reset
  | 0x04 => 1  -- Drive attached
  | 0x05 => 3  -- Drive lost
  | 0x06 => 3  -- Volume degraded
  | 0x07 => 4  -- Volume failed
  | 0x08 => 1  -- Rebuild complete
  | 0x09 => 2  -- Mirror read repaired
  | 0x0B => 2  -- Frame not recorded
  | 0x0C => 1  -- Clip opened
  | 0x0D => 1  -- Clip closed
  | 0x0E => 3  -- Clip refused
  | 0x10 => 3  -- Lost ranges
  | 0x11 => 2  -- Clip recovered
  | 0x12 => 2  -- Drive warning
  | 0x13 => 2  -- Playback feed refused
  | _ => 1

/-- Severities of the events with high byte 0x10. -/
def severity10 (low : Nat) : Nat :=
  match low with
  | 0x01 => 1  -- Correctable error
  | 0x02 => 3  -- Uncorrectable error
  | 0x03 => 3  -- Address error
  | 0x04 => 2  -- Correctable threshold
  | 0x05 => 2  -- Migration started
  | 0x06 => 1  -- Migration complete
  | 0x07 => 1  -- Migration resumed
  | 0x08 => 3  -- Spare failed verification
  | 0x09 => 4  -- No spare
  | 0x0A => 1  -- Retest result
  | 0x0B => 1  -- Training complete
  | 0x0C => 2  -- Training cache rejected
  | 0x0D => 4  -- Training failed
  | 0x0E => 1  -- Refresh rate changed
  | 0x10 => 1  -- Margin scan complete
  | _ => 1

/-- Severities of the events with high byte 0x11. -/
def severity11 (low : Nat) : Nat :=
  match low with
  | 0x01 => 2  -- Clock lost
  | 0x02 => 1  -- Clock restored
  | 0x03 => 2  -- Underrun
  | 0x04 => 1  -- Underrun ended
  | 0x05 => 1  -- Sample slip
  | 0x06 => 2  -- Steering at range
  | 0x07 => 2  -- Buffer overflow
  | 0x08 => 1  -- Resynchronised after step
  | _ => 1

/-- Severities of the events with high byte 0x12. -/
def severity12 (low : Nat) : Nat :=
  match low with
  | 0x01 => 2  -- Phase error
  | 0x02 => 2  -- Index drift
  | 0x03 => 2  -- Reference missing
  | 0x04 => 3  -- Amplitude fault
  | 0x05 => 1  -- Probe dropped
  | 0x06 => 1  -- Reference set
  | _ => 1

/-- Severities of the events with high byte 0x13. -/
def severity13 (low : Nat) : Nat :=
  match low with
  | 0x01 => 1  -- Standby entered
  | 0x02 => 1  -- Entry aborted
  | 0x03 => 1  -- Active resumed
  | 0x04 => 1  -- Dormant entered
  | 0x05 => 2  -- Mailbox message refused or discarded
  | 0x06 => 1  -- Wake frame rejected
  | 0x07 => 1  -- Domain state changed
  | _ => 1

/-- Severities of the events with high byte 0x14. -/
def severity14 (low : Nat) : Nat :=
  match low with
  | 0x01 => 1  -- Link up
  | 0x02 => 2  -- Link down
  | 0x03 => 1  -- Array formed
  | 0x04 => 3  -- Member lost
  | 0x05 => 2  -- Band re-mapped
  | 0x06 => 2  -- Link relayed
  | 0x07 => 1  -- Member rejoined
  | 0x09 => 1  -- Armed
  | 0x0A => 2  -- Unarmed
  | 0x0B => 4  -- Partner lost
  | 0x0C => 3  -- Link split
  | 0x0D => 1  -- Resynchronisation
  | 0x0E => 3  -- Formation fault
  | 0x0F => 2  -- Mirrored unit late
  | 0x10 => 2  -- Acting head
  | _ => 1

/-- Severities of the events with high byte 0x15. -/
def severity15 (low : Nat) : Nat :=
  match low with
  | 0x01 => 1  -- Receive direction up
  | 0x02 => 2  -- Receive direction down
  | 0x03 => 3  -- Link refused
  | 0x04 => 2  -- Frame lost
  | 0x05 => 2  -- Send discard
  | 0x06 => 2  -- Upstream manifest missing
  | 0x07 => 1  -- Calibration
  | 0x08 => 2  -- CONTROL backlog dropped
  | 0x09 => 2  -- Forwarding disabled
  | _ => 1

/-- The severity with which an event is recorded (R751). -/
def severity (code : Nat) : Nat :=
  match code / 256 with
  | 0x01 => severity01 (code % 256)
  | 0x02 => severity02 (code % 256)
  | 0x03 => severity03 (code % 256)
  | 0x04 => severity04 (code % 256)
  | 0x05 => severity05 (code % 256)
  | 0x06 => severity06 (code % 256)
  | 0x07 => severity07 (code % 256)
  | 0x08 => severity08 (code % 256)
  | 0x09 => severity09 (code % 256)
  | 0x0A => severity0A (code % 256)
  | 0x0B => severity0B (code % 256)
  | 0x0C => severity0C (code % 256)
  | 0x0D => severity0D (code % 256)
  | 0x0E => severity0E (code % 256)
  | 0x0F => severity0F (code % 256)
  | 0x10 => severity10 (code % 256)
  | 0x11 => severity11 (code % 256)
  | 0x12 => severity12 (code % 256)
  | 0x13 => severity13 (code % 256)
  | 0x14 => severity14 (code % 256)
  | 0x15 => severity15 (code % 256)
  | _ => 1

end Sys2Proof.Machine
end

