-- ==== Sys2Proof/Machine/Table.lean ====
section
/-!
DEFINITION. Sys2Proof/Machine/Table.lean: sparse tables. A table is a list of (key, value) pairs in one canonical form: keys
strictly rising, and no pair whose value is what an unlisted key reads as. The object dictionary, the memories and every
numbered set of like things are held this way, so that equal contents are equal data.
-/

namespace Sys2Proof.Machine

/-- The value at `k`; `d k` where the table lists none. -/
def tget {β : Type} (d : Nat → β) : List (Nat × β) → Nat → β
  | [], k => d k
  | (a, b) :: r, k => if k = a then b else tget d r k

/-- A pair put in its place by key. -/
def tinsert {β : Type} (k : Nat) (v : β) : List (Nat × β) → List (Nat × β)
  | [] => [(k, v)]
  | (a, b) :: r => if k < a then (k, v) :: (a, b) :: r else (a, b) :: tinsert k v r

/-- The table without `k`. -/
def terase {β : Type} (k : Nat) (m : List (Nat × β)) : List (Nat × β) := m.filter (fun p => p.1 != k)

/-- The table made to read `v` at `k`; writing what an unlisted key reads as removes the pair. -/
def tset {β : Type} [DecidableEq β] (d : Nat → β) (m : List (Nat × β)) (k : Nat) (v : β) : List (Nat × β) :=
  if v = d k then terase k m else tinsert k v (terase k m)

/-- Keys strictly rise from `lo`, and no listed value is the unlisted one. -/
def twfFrom {β : Type} [DecidableEq β] (d : Nat → β) : Nat → List (Nat × β) → Bool
  | _, [] => true
  | lo, (a, b) :: r => lo ≤ a && b ≠ d a && twfFrom d (a + 1) r

/-- The canonical form of a table. -/
def twf {β : Type} [DecidableEq β] (d : Nat → β) (m : List (Nat × β)) : Bool := twfFrom d 0 m

end Sys2Proof.Machine
end

