-- ==== Sys2Proof/Machine/Ops.lean ====
section
/-!
DEFINITION. Sys2Proof/Machine/Ops.lean: the named operations every meaning is built from: reading and writing an entry
of the object dictionary (R8 to R10), counting, raising an event (R13, R751, R753), drawing a free value, and lifting a
function of the working state to a step.
-/

namespace Sys2Proof.Machine

/-! ## Packed entry names -/

/-- The packed name of entry index:subindex. -/
abbrev ent (index sub : Nat) : Nat := index * 256 + sub

/-! ## Two's complement and octets -/

/-- The integer a two's-complement number of `w` bits stands for. -/
def toI (w n : Nat) : Int := if n % 2 ^ w < 2 ^ (w - 1) then (n % 2 ^ w : Nat) else (n % 2 ^ w : Nat) - (2 ^ w : Nat)

/-- The `w`-bit two's-complement number of an integer. -/
def ofI (w : Nat) (i : Int) : Nat := (i % (2 ^ w : Nat)).toNat

/-- The value of `i` held to the range of an I32 ("saturates", R225). -/
def satI32 (i : Int) : Int := max (-2147483648) (min 2147483647 i)

/-- The 16 data octets of an event record, from its fields (R751). -/
def ev (fields : List (Nat × Nat × Nat)) : Bytes := pack 16 fields

/-- Bit `i` of a number. -/
abbrev bit (n i : Nat) : Bool := n.testBit i

/-- `n` with bit `i` set. -/
def setBit (n i : Nat) : Nat := n ||| 2 ^ i

/-- `n` with bit `i` cleared. -/
def clrBit (n i : Nat) : Nat := if n.testBit i then n ^^^ 2 ^ i else n

/-- `n` with bit `i` put to `v`. -/
def putBit (n i : Nat) (v : Bool) : Nat := if v then setBit n i else clrBit n i

/-- `f` applied to `n` times, from 0 up. -/
def upto {α : Type} (n : Nat) (f : Nat → α → α) (a : α) : α := (List.range n).foldl (fun a i => f i a) a

/-! ## The dictionary -/

/-- The live number of an entry (R123, R126). -/
def Sys.rd (y : Sys) (k : Nat) : Nat := tget dfltNum y.dict k

/-- The live octets of an entry. -/
def Sys.rdB (y : Sys) (k : Nat) : Bytes := tget dfltBytes y.blobs k

/-- The live number of an I32 entry, as an integer. -/
def Sys.rdI (y : Sys) (k : Nat) : Int := toI 32 (y.rd k)

/-- The entry made to hold a number. -/
def Sys.wr (y : Sys) (k v : Nat) : Sys := { y with dict := tset dfltNum y.dict k v }

/-- The entry made to hold octets. -/
def Sys.wrB (y : Sys) (k : Nat) (v : Bytes) : Sys := { y with blobs := tset dfltBytes y.blobs k v }

/-- The I32 entry made to hold an integer, held to its range. -/
def Sys.wrI (y : Sys) (k : Nat) (v : Int) : Sys := y.wr k (ofI 32 (satI32 v))

/-- The U32 counter of an entry advanced; it wraps at its type's maximum (log entry 9). -/
def Sys.inc (y : Sys) (k : Nat) : Sys := y.wr k ((y.rd k + 1) % 2 ^ 32)

/-- The U32 counter of an entry advanced by `n`. -/
def Sys.incBy (y : Sys) (k n : Nat) : Sys := y.wr k ((y.rd k + n) % 2 ^ 32)

/-- The U64 counter of an entry advanced by `n`. -/
def Sys.inc64 (y : Sys) (k n : Nat) : Sys := y.wr k ((y.rd k + n) % 2 ^ 64)

/-- Bit `i` of a BITS entry put to `v`. -/
def Sys.wrBit (y : Sys) (k i : Nat) (v : Bool) : Sys := y.wr k (putBit (y.rd k) i v)

/-- Bit `i` of a BITS entry. -/
def Sys.rdBit (y : Sys) (k i : Nat) : Bool := (y.rd k).testBit i

/-- A power domain is in Run (0x2720 + d:01, R645). -/
def Sys.domainRun (y : Sys) (d : Nat) : Bool := y.rd (ent (0x2720 + d) 1) == 0

/-- A reset is in force: it was asserted, or power-up has not reached step 8 (R87, R108). Dormant is no reset. -/
def Sys.inReset (y : Sys) : Bool := y.boot.phase != .running && y.boot.phase != .dormant

/-- The reset signal itself is asserted (R87). -/
def Sys.resetAsserted (y : Sys) : Bool := y.boot.phase == .off || y.boot.phase == .supplyReset || y.boot.phase == .coldReset || y.boot.phase == .warmReset

/-- The ports of domain d are not served: its reset runs, the module is in reset, or a strap fault holds them in their reset state (R83, R87, R115). -/
def Sys.portsHeld (y : Sys) (d : Nat) : Bool := y.inReset || y.boot.strapFault || y.boot.domainResets.contains d

/-- The select ball of a bank is open, so the bank is not powered: bit of 0x2010:02 (R83). -/
def Sys.bankOpen (y : Sys) (i : Nat) : Bool := y.rdBit (ent 0x2010 2) i

/-- The image in a firmware bank (R109). -/
def Sys.bankImage (y : Sys) (n : Nat) : Firmware := (y.mram.banks.lookup n).getD deliveredFirmware

/-- Values that units waiting for a latch point hold for an entry (R137). -/
def Sys.pendingFor (y : Sys) (k : Nat) : List Bytes :=
  y.den.latched.flatMap fun u => (u.members.filter fun m => m.1 == k).map Prod.snd

/-- The live numbers an entry has or will have at a latch point. -/
def Sys.liveOrPending (y : Sys) (k : Nat) : List Nat := y.rd k :: (y.pendingFor k).map unLe

/-- The value that entry k has in the shadow set, targeted groups left out: that of the last committed unit that writes it, else the live one
(R33, R126). -/
def Sys.shadow (y : Sys) (k : Nat) : Nat :=
  ((((y.den.latched.filter fun u => u.target.isNone).flatMap fun u => u.members.filter fun m => m.1 == k).getLast?).map fun m => unLe m.2).getD (y.rd k)

/-! ## Time -/

/-- Whole nanoseconds of the present T96 (R7). -/
def Sys.ns (y : Sys) : Nat := y.t96 / 2 ^ 32

/-- Uptime in milliseconds. -/
def Sys.ms (y : Sys) : Nat := y.up / 1000000

/-! ## Events -/

/-- A detected event waits for its MRAM write; a record that finds the buffer of 256 full is dropped (R753). -/
def Sys.raiseSev (y : Sys) (sev code source : Nat) (data : Bytes) : Sys :=
  if y.log.pending.length < 256 then
    { y with log := { y.log with pending := y.log.pending ++ [⟨y.t96, code, sev, source, data⟩] } }
  else { y with log := { y.log with dropped := y.log.dropped + 1 } }

/-- An event with the severity of its table (R751). Source 255 stands for an event without an instance. -/
def Sys.raise (y : Sys) (code source : Nat) (data : Bytes) : Sys := y.raiseSev (severity code) code source data

/-- The mark of a rate limit: the event code and the context, rail, entry or session it is kept for. -/
abbrev limitKey (code key : Nat) : Nat := code * 4294967296 + key

/-- An event of this code was logged for `key` within the last 100 ms. -/
def Sys.limitedNow (y : Sys) (code key : Nat) : Bool :=
  match y.log.limited.lookup (limitKey code key) with
  | some t => y.up < t + 100000000
  | none => false

/-- An event that is logged at most once per `key` in any 100 ms (R70 and its like); repeats within that time are not
logged. -/
def Sys.raiseLimited (y : Sys) (key code source : Nat) (data : Bytes) : Sys :=
  if y.limitedNow code key then y
  else
    let kept := y.log.limited.filter (fun p => p.1 != limitKey code key)
    Sys.raise { y with log := { y.log with limited := (limitKey code key, y.up) :: kept } } code source data

/-! ## Output -/

/-- The module hands something to a port. -/
def Sys.send (y : Sys) (m : Tx) : Sys := { y with tx := y.tx ++ [m] }

/-! ## Free values -/

/-- The next free number below `2 ^ w`: nothing constrains it. The counter advances, so two draws are unrelated. -/
def Sys.free (y : Sys) (w : Nat) : Nat × Sys :=
  ((Config.freeValue y.seed).toNat % 2 ^ w, { y with seed := y.seed + 1 })

/-- `n` free octets, as the TRNG or an unstated format gives them. -/
def Sys.freeBytes (y : Sys) (n : Nat) : Bytes × Sys :=
  ((List.range n).map (fun i => BitVec.ofNat 8 (Config.freeValue (y.seed + i)).toNat), { y with seed := y.seed + n })

/-! ## Fuses -/

/-- Calibration commits of a slot (R178). -/
def Otp.calEpoch (o : Otp) (slot : Nat) : Nat := tget (fun _ => 0) o.calibration slot

/-- One programming of the fuse array. Nothing is ever cleared (R167, R178), and the array has six state fuses, 8 changes of
re-certification (R171), 64 epoch slots (R177) and 32 bits for each of 8 context slots (R178). -/
def Otp.apply (o : Otp) : OtpOp → Otp
  | .programState n =>
    if n = 0 ∨ 6 < n ∨ o.stateFuses.contains n then o else { o with stateFuses := o.stateFuses ++ [n] }
  | .fuseRekey => if o.rekeys < 8 then { o with rekeys := o.rekeys + 1 } else o
  | .fuseEpoch e => if o.epochs.length < 64 then { o with epochs := o.epochs ++ [e] } else o
  | .fuseRoot r => match o.root with | some _ => o | none => { o with root := some r }
  | .fuseKilvan h => if o.kilvanKeyHash.isEmpty then { o with kilvanKeyHash := h } else o
  | .eraseRoot => { o with rootErased := true }
  | .fuseCalibration s =>
    if s < 8 ∧ o.calEpoch s < 32 then
      { o with calibration := tset (fun _ => 0) o.calibration s (o.calEpoch s + 1) }
    else o

/-- Several programmings, in order. -/
def Otp.applyAll (o : Otp) (l : List OtpOp) : Otp := l.foldl Otp.apply o

/-- The life-cycle state: the highest programmed state fuse (R167). -/
def Otp.life (o : Otp) : Nat := o.stateFuses.foldl max 0

/-- The fused epoch: the value in the last programmed slot (R177). -/
def Otp.epoch (o : Otp) : Nat := o.epochs.getLast?.getD 0

/-- The customer root in force: fused and not erased. -/
def Otp.liveRoot (o : Otp) : Option Bytes := if o.rootErased then none else o.root

/-- Changes left of the RWL entries (R168, R175, R171, R177, R178). -/
def Otp.statesLeft (o : Otp) : Nat := 6 - o.stateFuses.length
def Otp.rootLeft (o : Otp) : Nat := if o.orderM1 || o.root.isSome then 0 else 1
def Otp.rekeysLeft (o : Otp) : Nat := 8 - o.rekeys
def Otp.epochsLeft (o : Otp) : Nat := 64 - o.epochs.length

/-! ## Steps -/

/-- A command's effect: the fuses it programs and the working state it leaves. Every meaning of the model is one lift, so
no command touches the queue and none clears a fuse. -/
def run (s : State) (f : Otp → Sys → List OtpOp × Sys) : Host.Outcome State Fault Refusal :=
  .next { s with otp := s.otp.applyAll (f s.otp s.sys).1, sys := (f s.otp s.sys).2 }

/-- The effect of a command that programs no fuse. -/
def onSys (s : State) (f : Otp → Sys → Sys) : Host.Outcome State Fault Refusal := run s (fun o y => ([], f o y))

end Sys2Proof.Machine
end

