-- ==== Sys2Proof/Machine/Crypto.lean ====
section
/-!
DEFINITION. Sys2Proof/Machine/Crypto.lean: the published algorithms the manual names: SHA-256 (R183), HMAC and HKDF over it (R154, R190),
Ed25519 of RFC 8032 (R166), X25519 of RFC 7748 (R190) and the CRCs. AES-256-GCM is in Aes.lean.
-/

namespace Sys2Proof.Machine

/-! ## SHA-2 -/

/-- Largest r with r^k ≤ n, for r below 2^bits. -/
def iroot (k n : Nat) : Nat → Nat → Nat
  | 0, r => r
  | b + 1, r => if (r + 2 ^ b) ^ k ≤ n then iroot k n b (r + 2 ^ b) else iroot k n b r

/-- The first 80 primes. -/
def primes80 : List Nat := (List.range 410).filter fun n => 2 ≤ n && (List.range n).all fun d => d < 2 || n % d != 0

/-- 64 fraction bits of the cube roots of the first 80 primes. -/
def sha2K : List Nat := primes80.map fun p => iroot 3 (p * 2 ^ 192) 68 0 % 2 ^ 64

/-- 64 fraction bits of the square roots of the first 8 primes. -/
def sha2H : List Nat := (primes80.take 8).map fun p => iroot 2 (p * 2 ^ 128) 70 0 % 2 ^ 64

/-- The parameters that tell SHA-256 and SHA-512 apart: rotations of Σ0, Σ1, σ0, σ1 (the last of a σ is a shift), rounds. -/
structure Sha2 (w : Nat) where
  S0 : Nat × Nat × Nat
  S1 : Nat × Nat × Nat
  s0 : Nat × Nat × Nat
  s1 : Nat × Nat × Nat
  k : List (BitVec w)
  h : List (BitVec w)

def big {w : Nat} (r : Nat × Nat × Nat) (x : BitVec w) : BitVec w :=
  x.rotateRight r.1 ^^^ x.rotateRight r.2.1 ^^^ x.rotateRight r.2.2
def small {w : Nat} (r : Nat × Nat × Nat) (x : BitVec w) : BitVec w :=
  x.rotateRight r.1 ^^^ x.rotateRight r.2.1 ^^^ x >>> r.2.2

/-- The message schedule: `n` words from a window of 16. -/
def schedule {w : Nat} (q : Sha2 w) : Nat → List (BitVec w) → List (BitVec w)
  | 0, _ => []
  | n + 1, win =>
    let next := small q.s1 (win.getD 14 0) + win.getD 9 0 + small q.s0 (win.getD 1 0) + win.getD 0 0
    win.getD 0 0 :: schedule q n (win.drop 1 ++ [next])

/-- One round on a list of the eight working variables. -/
def round {w : Nat} (q : Sha2 w) (v : List (BitVec w)) (kw : BitVec w) : List (BitVec w) :=
  match v with
  | [a, b, c, d, e, f, g, h] =>
    let t1 := h + big q.S1 e + ((e &&& f) ^^^ (~~~e &&& g)) + kw
    let t2 := big q.S0 a + ((a &&& b) ^^^ (a &&& c) ^^^ (b &&& c))
    [t1 + t2, a, b, c, d + t1, e, f, g]
  | _ => v

/-- One block of 16 words. -/
def compress {w : Nat} (q : Sha2 w) (h block : List (BitVec w)) : List (BitVec w) :=
  ((q.k.zipWith (· + ·) (schedule q q.k.length block)).foldl (round q) h).zipWith (· + ·) h

/-- The padded message in blocks of 16 words of `w` bits, hashed. -/
def sha2 {w : Nat} (q : Sha2 w) (m : Bytes) : Bytes :=
  let wb := w / 8
  let pad := (32 * wb - (m.length + 1 + 2 * wb) % (16 * wb)) % (16 * wb)
  let p := m ++ [0x80] ++ List.replicate pad 0 ++ be (2 * wb) (8 * m.length)
  let rec go : Nat → Bytes → List (BitVec w) → List (BitVec w)
    | 0, _, h => h
    | n + 1, r, h =>
      go n (r.drop (16 * wb)) (compress q h ((List.range 16).map fun i => BitVec.ofNat w (unBe ((r.drop (i * wb)).take wb))))
  (go (p.length / (16 * wb)) p q.h).flatMap fun x => be wb x.toNat

def sha256P : Sha2 32 :=
  ⟨(2, 13, 22), (6, 11, 25), (7, 18, 3), (17, 19, 10), (sha2K.take 64).map fun n => BitVec.ofNat 32 (n / 2 ^ 32),
    sha2H.map fun n => BitVec.ofNat 32 (n / 2 ^ 32)⟩
def sha512P : Sha2 64 :=
  ⟨(28, 34, 39), (14, 18, 41), (1, 8, 7), (19, 61, 6), sha2K.map (BitVec.ofNat 64), sha2H.map (BitVec.ofNat 64)⟩

/-- SHA-256: 32 octets. -/
def sha256 (m : Bytes) : Bytes := sha2 sha256P m
/-- SHA-512: 64 octets. -/
def sha512 (m : Bytes) : Bytes := sha2 sha512P m

/-- HMAC-SHA256. -/
def hmac (key m : Bytes) : Bytes :=
  let k := if 64 < key.length then sha256 key else key
  let k := k ++ List.replicate (64 - k.length) 0
  sha256 (k.map (· ^^^ 0x5C) ++ sha256 (k.map (· ^^^ 0x36) ++ m))

/-- The blocks of HKDF's expansion. -/
def hkdfExpand (prk info : Bytes) : Nat → Nat → Bytes → Bytes
  | 0, _, _ => []
  | n + 1, i, prev =>
    let t := hmac prk (prev ++ info ++ [BitVec.ofNat 8 i])
    t ++ hkdfExpand prk info n (i + 1) t

/-- HKDF-SHA256 (RFC 5869). -/
def hkdf (ikm salt info : Bytes) (len : Nat) : Bytes := (hkdfExpand (hmac salt ikm) info ((len + 31) / 32) 1 []).take len

/-! ## Curve25519 -/

/-- 2^255 - 19. -/
def pC : Nat := 2 ^ 255 - 19
/-- The order of the base point of Ed25519. -/
def lC : Nat := 2 ^ 252 + 27742317777372353535851937790883648493

/-- b^e modulo m, for e below 2^bits. -/
def powMod (b e m : Nat) : Nat → Nat
  | 0 => 1 % m
  | n + 1 => let r := powMod b (e / 2) m n
             if e % 2 = 1 then r * r % m * b % m else r * r % m

def invC (a : Nat) : Nat := powMod a (pC - 2) pC 256
def subC (a b : Nat) : Nat := (a + pC - b % pC) % pC
/-- d of Ed25519. -/
def dC : Nat := subC 0 (121665 * invC 121666)

/-- A point in extended coordinates. -/
structure Pt where
  x : Nat
  y : Nat
  z : Nat
  t : Nat
  deriving DecidableEq, Repr

def Pt.add (p q : Pt) : Pt :=
  let a := subC p.y p.x * subC q.y q.x % pC
  let b := (p.y + p.x) * (q.y + q.x) % pC
  let c := 2 * p.t * q.t % pC * dC % pC
  let d := 2 * p.z * q.z % pC
  let e := subC b a
  let f := subC d c
  let g := (d + c) % pC
  let h := (b + a) % pC
  ⟨e * f % pC, g * h % pC, f * g % pC, e * h % pC⟩

/-- n × p, for n below 2^bits. -/
def Pt.mul (p : Pt) (n : Nat) : Nat → Pt
  | 0 => ⟨0, 1, 1, 0⟩
  | b + 1 => let r := p.mul (n / 2) b
             let r2 := r.add r
             if n % 2 = 1 then r2.add p else r2

/-- The x of a y, with the given low bit (RFC 8032, 5.1.3). -/
def recoverX (y sign : Nat) : Option Nat :=
  if pC ≤ y then none
  else
    let x2 := subC (y * y) 1 * invC ((dC * (y * y % pC) + 1) % pC) % pC
    let x := powMod x2 ((pC + 3) / 8) pC 256
    let x := if x * x % pC = x2 then x else x * powMod 2 ((pC - 1) / 4) pC 256 % pC
    if x * x % pC ≠ x2 then none
    else if x = 0 ∧ sign = 1 then none
    else some (if x % 2 = sign then x else pC - x)

/-- A point from its 32 octets. -/
def decodePt (b : Bytes) : Option Pt :=
  let n := unLe (b.take 32)
  let y := n % 2 ^ 255
  if b.length ≠ 32 then none else (recoverX y (n / 2 ^ 255)).map fun x => ⟨x, y, 1, x * y % pC⟩

/-- The 32 octets of a point. -/
def Pt.encode (p : Pt) : Bytes :=
  let i := invC p.z
  le 32 (p.y * i % pC + 2 ^ 255 * (p.x * i % pC % 2))

/-- The base point. -/
def basePt : Pt :=
  let y := 4 * invC 5 % pC
  let x := (recoverX y 0).getD 0
  ⟨x, y, 1, x * y % pC⟩

/-- The clamped scalar of a private key's hash. -/
def clamp (h : Bytes) : Nat := let n := unLe (h.take 32); n % 2 ^ 254 / 8 * 8 + 2 ^ 254

/-- The public key of an Ed25519 private key of 32 octets. -/
def edPublic (priv : Bytes) : Bytes := (basePt.mul (clamp (sha512 priv)) 256).encode

/-- Pure Ed25519 (RFC 8032): the 64-octet signature of a message. -/
def edSign (priv m : Bytes) : Bytes :=
  let h := sha512 priv
  let s := clamp h
  let r := unLe (sha512 (h.drop 32 ++ m)) % lC
  let rp := (basePt.mul r 256).encode
  let k := unLe (sha512 (rp ++ edPublic priv ++ m)) % lC
  rp ++ le 32 ((r + k * s) % lC)

/-- Verification. -/
def edVerify (pub m sig : Bytes) : Bool :=
  match decodePt pub, decodePt (sig.take 32) with
  | some a, some r =>
    let s := unLe (sig.drop 32)
    let k := unLe (sha512 (sig.take 32 ++ pub ++ m)) % lC
    sig.length == 64 && decide (s < lC) && (basePt.mul s 256).encode == (r.add (a.mul k 256)).encode
  | _, _ => false

/-- The Montgomery ladder of RFC 7748 over the bits of k below `n`, most significant first. -/
def ladder (u k : Nat) : Nat → Nat × Nat × Nat × Nat → Nat × Nat × Nat × Nat
  | 0, v => v
  | n + 1, (x2, z2, x3, z3) =>
    let sw := k.testBit n
    let (x2, z2, x3, z3) := if sw then (x3, z3, x2, z2) else (x2, z2, x3, z3)
    let a := (x2 + z2) % pC
    let aa := a * a % pC
    let b := subC x2 z2
    let bb := b * b % pC
    let e := subC aa bb
    let da := subC x3 z3 * a % pC
    let cb := (x3 + z3) * b % pC
    let s := (da + cb) % pC
    let d := subC da cb
    let r := (aa * bb % pC, e * ((aa + 121665 * e) % pC) % pC, s * s % pC, u * (d * d % pC) % pC)
    let r := if sw then (r.2.2.1, r.2.2.2, r.1, r.2.1) else r
    ladder u k n r

/-- X25519 (RFC 7748). -/
def x25519 (scalar u : Bytes) : Bytes :=
  let k := clamp scalar
  let x1 := unLe (u.take 32) % 2 ^ 255 % pC
  let r := ladder x1 k 255 (1, 0, x1, 1)
  le 32 (r.1 * invC r.2.1 % pC)

/-- The X25519 public key of a scalar. -/
def xPublic (scalar : Bytes) : Bytes := x25519 scalar (le 32 9)

/-! ## CRC -/

/-- Eight steps of a reflected CRC. -/
def crcBits (poly : W32) : Nat → W32 → W32
  | 0, c => c
  | n + 1, c => crcBits poly n (if c.getLsbD 0 then c >>> 1 ^^^ poly else c >>> 1)

/-- A reflected 32-bit CRC continued over octets. -/
def crcStep (poly : W32) (c : W32) (m : Bytes) : W32 := m.foldl (fun c b => crcBits poly 8 (c ^^^ b.setWidth 32)) c

/-- CRC-32C. -/
def crc32c (m : Bytes) : W32 := ~~~ crcStep 0x82F63B78 0xFFFFFFFF m

end Sys2Proof.Machine
end

