-- ==== Sys2Proof/Machine/Fabric.lean ====
section
/-!
DEFINITION. Sys2Proof/Machine/Fabric.lean: the speed of the fabric and the deadline governor (chapter 2: R36, R46 to R60, R68,
R70, R760). Voltages are in 0.1 mV, slacks in 0.01 %.
-/

namespace Sys2Proof.Machine

/-! ## Speed (R48, R49) -/

/-- Lane rate at 85 °C in results per second, interpolated between the listed voltages (R48). -/
def laneRate85 (v : Nat) : Nat :=
  let seg (v0 r0 v1 r1 : Nat) : Nat := r0 + (v - v0) * (r1 - r0) / (v1 - v0)
  if v ≤ 5000 then 700000000
  else if v ≤ 5500 then seg 5000 700000000 5500 850000000
  else if v ≤ 6500 then seg 5500 850000000 6500 1130000000
  else if v ≤ 7500 then seg 6500 1130000000 7500 1400000000
  else if v ≤ 8500 then seg 7500 1400000000 8500 1630000000
  else if v ≤ 9500 then seg 8500 1630000000 9500 1850000000
  else 1850000000

/-- The temperature factor f in millionths; `tj` in 0.01 °C (R49). -/
def tempFactor (tj : Int) : Nat :=
  if tj < -4000 then 1150000
  else if tj ≤ 8500 then (1000000 + 12 * (8500 - tj)).toNat
  else (1000000 - 35 * (tj - 8500)).toNat

/-- Lane rate at a rail voltage and junction temperature. -/
def laneRate (v : Nat) (tj : Int) : Nat := laneRate85 v * tempFactor tj / 1000000

/-- The lowest rail voltage, a multiple of 2.5 mV up to 0.95 V, whose lane rate reaches `rate` (R54). -/
def voltageFor (rate : Nat) (tj : Int) : Nat :=
  ((List.range 181).map (fun i => 5000 + 25 * i)).find? (fun v => rate ≤ laneRate v tj) |>.getD 9500

/-! ## The rails -/

/-- The rail's number in its entries and events. -/
inductive RailName where
  | t | s
  deriving DecidableEq, Repr

/-- 0 VCORE_T, 1 VCORE_S (R69). -/
def RailName.code : RailName → Nat | .t => 0 | .s => 1

/-- What the governor keeps for a rail. -/
def Sys.rail (y : Sys) : RailName → Rail | .t => y.gov.railT | .s => y.gov.railS

/-- That record replaced. -/
def Sys.setRail (y : Sys) (r : RailName) (x : Rail) : Sys :=
  match r with
  | .t => { y with gov := { y.gov with railT := x } }
  | .s => { y with gov := { y.gov with railS := x } }

/-- Set point (0x2201:01, :02). -/
def railKey (r : RailName) : Nat := ent 0x2201 (1 + r.code)
/-- State (0x2201:03, :04): 0 TRACKING, 1 AT_CEILING, 2 HELD, 3 FIXED. -/
def railStateKey (r : RailName) : Nat := ent 0x2201 (3 + r.code)
/-- Minimum slack (0x2201:05, :06). -/
def railSlackKey (r : RailName) : Nat := ent 0x2201 (5 + r.code)
/-- Ceiling (0x2200:04, :05). -/
def ceilKey (r : RailName) : Nat := ent 0x2200 (4 + r.code)
/-- Floor (0x2200:06, :07). -/
def floorKey (r : RailName) : Nat := ent 0x2200 (6 + r.code)
/-- Fixed value (0x2200:08, :09). -/
def fixedKey (r : RailName) : Nat := ent 0x2200 (8 + r.code)

/-- The governor is in FIXED mode (R56). -/
def Sys.govFixed (y : Sys) : Bool := y.rd (ent 0x2200 1) == 1

/-- The present skip count k (R57). -/
def Sys.skip (y : Sys) : Nat := y.rd (ent 0x2202 1)

/-- A power limit is active: some source holds k above 0 (R36, R59). -/
def Sys.powerLimited (y : Sys) : Bool := y.skip != 0

/-- The quotient of a slack. -/
def Slack.rat (m : Slack) : Rat := (m.num : Rat) / (m.den : Nat)

/-- A slack as the entries and events carry it, in 0.01 %, rounded down. -/
def Slack.shown (m : Slack) : Int := 10000 * m.num / (m.den : Int)

/-- A source's slack report (R52): the window keeps the least. -/
def Sys.reportSlack (y : Sys) (r : RailName) (slack : Slack) : Sys :=
  let x := y.rail r
  y.setRail r { x with minSlack := some (match x.minSlack with | none => slack | some m => if m.rat ≤ slack.rat then m else slack) }

/-- The slack of work that completes now against a deadline; the period in ns (R52). -/
def Sys.slackOf (y : Sys) (due period : Nat) : Slack := ⟨(due : Int) - y.t96, 2 ^ 32 * max 1 period⟩

/-- The voltage that the standing predictions ask for: the highest of them (R54). -/
def Rail.predicted (x : Rail) : Option Nat := (x.watches.map (·.predicted)).max?

/-- The skip count and its sources after a request changed: the largest request holds (R59). -/
def Sys.updateSkip (y : Sys) : Sys :=
  let kth := y.rd (ent 0x2101 5)
  let y := y.wr (ent 0x2202 1) (max kth (max y.sup.kCap y.sup.kPwr))
  let y := y.wr (ent 0x2202 2) ((if kth = 0 then 0 else 1) + (if y.sup.kCap = 0 then 0 else 2) + (if y.sup.kPwr = 0 then 0 else 4))
  y.wrBit (ent 0x2001 4) 2 (y.sup.kCap != 0)

/-- The rail lowered to its ceiling at once (R68), or to its FIXED target (R56). -/
def Sys.railTo (y : Sys) (r : RailName) (v : Nat) : Sys := y.wr (railKey r) v

/-- FIXED mode: the rail goes to the lower of its fixed value and its ceiling; while a limit is active it only falls (R56). AT_CEILING stays until
one of R55's two instants. -/
def Sys.govFixedRail (y : Sys) (r : RailName) : Sys :=
  let target := min (y.rd (fixedKey r)) (y.rd (ceilKey r))
  let y := if y.rd (railStateKey r) = 1 then y else y.wr (railStateKey r) 3
  if y.powerLimited && y.rd (railKey r) < target then y else y.railTo r target

/-- 0x0302: the rail leaves AT_CEILING (R55). -/
def Sys.ceilingCleared (y : Sys) (r : RailName) : Sys :=
  Sys.raise (y.wr (railStateKey r) 0) 0x0302 255 (ev [(0, 1, r.code), (1, 2, y.rd (railKey r))])

/-- A raise is wanted at the ceiling: 0x0301 once, and AT_CEILING (R55, R70). -/
def Sys.railAtCeiling (y : Sys) (r : RailName) (m : Int) : Sys :=
  if y.rd (railStateKey r) = 1 then y
  else
    let y := (y.wr (railStateKey r) 1).inc (ent 0x2201 0x0B)
    y.raiseLimited r.code 0x0301 255 (ev [(0, 1, r.code), (1, 2, y.rd (railKey r)), (4, 4, ofI 32 m)])

/-- A raise is wanted while a limit is active: the rail is held, 0x0305 (R53, R70); a rail that is AT_CEILING stays so (R55). -/
def Sys.raiseBlocked (y : Sys) (r : RailName) (m : Int) : Sys :=
  let y := (if y.rd (railStateKey r) = 1 then y else y.wr (railStateKey r) 2).inc (ent 0x2201 0x0C)
  y.raiseLimited r.code 0x0305 255 (ev [(0, 1, r.code), (1, 1, y.rd (ent 0x2202 2)), (4, 4, ofI 32 m)])

/-- Steps of 2.5 mV a shortfall below a floor in percent asks for: one per 0.5 %, at most 8 (R53). -/
def raiseSteps (floor : Nat) (m : Slack) : Nat := min 8 (Rat.ceil (((floor : Rat) / 100 - m.rat) * 200)).toNat

/-- The rail in AUTO mode at the end of a 50 µs window (R53 to R55). While a pre-raise prediction is above the rail the window wants a raise: it is not
calm, and a rail is not lowered below a prediction that stands (DESIGN CHOICE: the spec does not say how the two loops meet; log entry 59). Where a
pre-raise alone wants it and the window has no report, the slack that events 0x0301 and 0x0305 carry is 0 (DESIGN CHOICE: the spec gives none; log
entry 59). A rail that is AT_CEILING stays so while it rises below its ceiling, until one of R55's two instants. -/
def Sys.govAutoRail (y : Sys) (r : RailName) : Sys :=
  let x := y.rail r
  let v := y.rd (railKey r)
  let ceil := y.rd (ceilKey r)
  let floor := y.rd (ent 0x2200 2)
  let upper := y.rd (ent 0x2200 3)
  let short : Bool := match x.minSlack with | some m => decide (m.rat < (floor : Rat) / 100) | none => false
  let least := x.minSlack.getD ⟨0, 1⟩
  let m := least.shown
  let pre : Bool := match x.predicted with | some p => decide (v < p) | none => false
  if short || pre then
    let y := y.setRail r { x with calm := 0, quiet := 0, minSlack := none }
    if y.powerLimited then (if short then y.raiseBlocked r m else y)
    else if ceil ≤ v then y.railAtCeiling r m
    else
      let bySlack := if short then v + 25 * raiseSteps floor least else v
      let byPre := if pre then min (x.predicted.getD v) (v + 200) else v
      (if y.rd (railStateKey r) = 1 then y else y.wr (railStateKey r) 0).railTo r (min ceil (max bySlack byPre))
  else
    let quiet := x.quiet + 1
    let above : Bool := match x.minSlack with | some m => decide ((upper : Rat) / 100 < m.rat) | none => true
    let calm := if above then x.calm + 1 else 0
    let y := y.setRail r { x with calm := if calm ≥ 8 then 0 else calm, quiet := quiet, minSlack := none }
    let down := max (y.rd (floorKey r)) (v - 25)
    -- a rail below its floor is not raised to it while a power limit is active (R36)
    let y := if calm ≥ 8 && x.predicted.all (fun p => p + 25 ≤ v) && (!y.powerLimited || down ≤ v) then y.railTo r down else y
    if y.rd (railStateKey r) = 1 then (if quiet ≥ 8 then y.ceilingCleared r else y)
    else y.wr (railStateKey r) 0

/-- A FIXED window wants no raise: the eighth in a row ends AT_CEILING (R55). -/
def Sys.govFixedWindow (y : Sys) (r : RailName) : Sys :=
  let x := y.rail r
  let y := y.setRail r { x with minSlack := none, watches := [], quiet := x.quiet + 1 }
  Sys.govFixedRail (if y.rd (railStateKey r) = 1 ∧ 8 ≤ x.quiet + 1 then y.ceilingCleared r else y) r

/-- One rail at the end of a window: the slack is shown, then the mode decides (R53, R56). The minimum slack of the last window (0x2201:05, :06) keeps
its value after a window without a report (DESIGN CHOICE: the spec gives it none then; log entry 59). -/
def Sys.govRail (y : Sys) (r : RailName) : Sys :=
  let y := match (y.rail r).minSlack with | some m => y.wrI (railSlackKey r) m.shown | none => y
  if y.gov.limited then y.setRail r { y.rail r with minSlack := none }
  else if y.govFixed then y.govFixedWindow r
  else y.govAutoRail r

/-- GOVERNOR_WINDOW (R53 to R56). -/
def execGovernorWindow (s : State) : Host.Outcome State Fault Refusal :=
  onSys s fun _ y =>
    let y := (y.govRail .t).govRail .s
    if y.rd (railStateKey .t) = 1 || y.rd (railStateKey .s) = 1 then y.inc64 (ent 0x2201 0x0A) 50 else y

/-- A ceiling takes its new value at the commit instant: the rail falls to it, or leaves AT_CEILING (R55, R56, R68). -/
def Sys.ceilingWritten (y : Sys) (r : RailName) (v : Nat) : Sys :=
  let y := y.wr (ceilKey r) v
  if y.govFixed then Sys.govFixedRail (if y.rd (railStateKey r) = 1 && y.rd (railKey r) < v then y.ceilingCleared r else y) r
  else if v < y.rd (railKey r) then y.railTo r v
  else if y.rd (railStateKey r) = 1 && y.rd (railKey r) < v then y.ceilingCleared r
  else y

/-- A ceiling is refused with RANGE outside 0.60 V to 0.95 V, off the 2.5 mV grid or below the rail's floor (R67). -/
def Sys.ceilingOk (y : Sys) (r : RailName) (v : Nat) : Bool :=
  6000 ≤ v && v ≤ 9500 && v % 25 == 0 && y.rd (floorKey r) ≤ v

/-- The commit point passes a predicted voltage ahead of the latch point of `ctx` (R54): only in AUTO mode. The first frame under the new configuration
is watched: frame `first` of the context, or the first after it. A later commit for the same frame replaces the prediction; commits for other frames
keep their own watch (DEDUCED; log entry 59). -/
def Sys.preRaise (y : Sys) (r : RailName) (predicted ctx first : Nat) : Sys :=
  if y.govFixed then y
  else
    let x := y.rail r
    let y := y.setRail r { x with watches := x.watches.filter (fun w => !(w.ctx == ctx && w.first == first)) ++ [⟨ctx, first, predicted⟩] }
    let v := y.rd (railKey r)
    if y.powerLimited || predicted ≤ v then y
    else y.railTo r (min (y.rd (ceilKey r)) (min predicted (v + 200)))

/-- A frame of `ctx` has ended with this margin: the first under a new configuration, below the floor, raises 0x0306 with the prediction of its
commit (of the latest one, where it is the first frame of several), and then slack alone governs the rail (R54). `atLatch` is the rail's voltage at
the frame's latch point. -/
def Sys.watchedFrame (y : Sys) (r : RailName) (ctx num atLatch : Nat) (margin : Slack) : Sys :=
  let x := y.rail r
  let ended (w : RailWatch) : Bool := w.ctx == ctx && decide (w.first ≤ num)
  match (x.watches.filter ended).getLast? with
  | none => y
  | some w =>
    let y := y.setRail r { x with watches := x.watches.filter fun w => !ended w }
    if margin.rat < (y.rd (ent 0x2200 2) : Rat) / 100 && !y.govFixed then
      y.raise 0x0306 ctx (ev [(0, 1, r.code), (1, 2, atLatch), (3, 2, w.predicted), (5, 1, ctx)])
    else y

end Sys2Proof.Machine
end

