-- ==== Sys2Proof/Machine/Geometry.lean ====
section
/-!
DEFINITION. Sys2Proof/Machine/Geometry.lean: geometry of frames, stripes, segments, bindings and groups (R296, R312, R332 to R334,
R365, R371, R406, R407, R415, R417, R761), read from one generation of the dictionary.
-/

namespace Sys2Proof.Machine

/-- A number of a generation. -/
def Gen.rd (g : Gen) (k : Nat) : Nat := tget dfltNum g.dict k

/-- Octets of a generation. -/
def Gen.rdB (g : Gen) (k : Nat) : Bytes := tget dfltBytes g.blobs k

/-- The dictionary as it stands, seen as a generation. -/
def Sys.view (y : Sys) : Gen := ⟨y.dict, y.blobs, [], ⟨0, 0, [], [], []⟩, 16⟩

/-- The module's role: 0 standalone, 1 camera head, 2 base station, 3 array member (R82). -/
def Gen.role (g : Gen) : Nat := g.rd (ent 0x2010 1) % 4

/-! ## Contexts -/

/-- Context x is a sensor context SX0 to SX7. -/
def isSensor (x : Nat) : Bool := x < 8

/-- The context passes through the raw front end: a sensor context, or a playback context with RAW input (R289). -/
def Gen.usesRfe (g : Gen) (x : Nat) : Bool := isSensor x || g.rd (ent (0x4440 + x - 8) 1) == 2

/-- Width of the (declared) frame (R267, R761). -/
def Gen.width (g : Gen) (x : Nat) : Nat :=
  if isSensor x then g.rd (ent (0x3000 + x) 5) else rdLe (g.rdB (ent (0x4440 + x - 8) 0x0A)) 0 2

/-- Height of the (declared) frame. -/
def Gen.height (g : Gen) (x : Nat) : Nat :=
  if isSensor x then g.rd (ent (0x3000 + x) 6) else rdLe (g.rdB (ent (0x4440 + x - 8) 0x0A)) 2 2

/-- Frame period in ns. -/
def Gen.period (g : Gen) (x : Nat) : Nat :=
  if isSensor x then g.rd (ent (0x3000 + x) 8) else g.rd (ent (0x4440 + x - 8) 6)

/-- Window left edge, top edge (R296). -/
def Gen.winLeft (g : Gen) (x : Nat) : Nat := g.rd (ent (0x3400 + x) 3)
def Gen.winTop (g : Gen) (x : Nat) : Nat := g.rd (ent (0x3400 + x) 4)

/-- Window width; 0 stands for the frame's right edge. -/
def Gen.winWidth (g : Gen) (x : Nat) : Nat :=
  let w := g.rd (ent (0x3400 + x) 5)
  if w = 0 then g.width x - g.winLeft x else w

/-- Window height; 0 stands for the frame's last line. -/
def Gen.winHeight (g : Gen) (x : Nat) : Nat :=
  let h := g.rd (ent (0x3400 + x) 6)
  if h = 0 then g.height x - g.winTop x else h

/-- First window line of the member's band (R426). -/
def Gen.bandFirst (g : Gen) (x : Nat) : Nat := if g.role = 3 then g.rd (ent (0x4000 + x) 5) else 0

/-- Lines of the band: the window where the entry is 0 or the module is no array member (R406, R426). -/
def Gen.bandLines (g : Gen) (x : Nat) : Nat :=
  let b := g.rd (ent (0x4000 + x) 6)
  if g.role = 3 && b != 0 then b else g.winHeight x

/-- CFA periods, horizontal and vertical (R308). -/
def Gen.cfaH (g : Gen) (x : Nat) : Nat :=
  match g.rd (ent (0x3400 + x) 1) with | 0 => 1 | 1 => 2 | _ => 4
def Gen.cfaV (g : Gen) (x : Nat) : Nat := g.cfaH x

/-! ## Stripes (R406) -/

/-- Stripe height h. -/
def Gen.stripeH (g : Gen) (x : Nat) : Nat := max 1 (g.rd (ent (0x4000 + x) 1))

/-- Stripe count S. -/
def Gen.stripes (g : Gen) (x : Nat) : Nat :=
  let h := g.stripeH x
  let H := g.bandLines x
  if H % h = 0 ∨ H % h ≥ 32 then (H + h - 1) / h else H / h

/-- First window line of stripe k. -/
def Gen.stripeTop (g : Gen) (x k : Nat) : Nat := g.bandFirst x + k * g.stripeH x

/-- Lines of stripe k. -/
def Gen.stripeLines (g : Gen) (x k : Nat) : Nat :=
  if k + 1 < g.stripes x then g.stripeH x else g.bandLines x - (g.stripes x - 1) * g.stripeH x

/-- Height of the tallest stripe. -/
def Gen.stripeMax (g : Gen) (x : Nat) : Nat := max (g.stripeLines x 0) (g.stripeLines x (g.stripes x - 1))

/-- Segment width for a stripe height (R312). -/
def segWidthOf (h : Nat) : Nat := 64 * ((1048576 / (9 * (h + 16)) - 16) / 64)

/-- Segment width w of a frame (R407). -/
def Gen.segWidth (g : Gen) (x : Nat) : Nat := max 1 (segWidthOf (g.stripeMax x))

/-- Segments per stripe N_seg (R407). -/
def Gen.segs (g : Gen) (x : Nat) : Nat := (g.winWidth x + g.segWidth x - 1) / g.segWidth x

/-- Stripe that holds a window line. -/
def Gen.stripeOf (g : Gen) (x line : Nat) : Nat := min (g.stripes x - 1) ((line - g.bandFirst x) / g.stripeH x)

/-- The reserve D_x (R415). -/
def Gen.reserve (g : Gen) (x : Nat) : Nat := if g.usesRfe x then (g.segs x + 3) / 4 + 2 else 1

/-! ## Deadlines in frame-store operation (R417), T96 units -/

/-- Deadline of stripe k of a frame latched at L. -/
def Gen.stripeDeadline (g : Gen) (x latch k : Nat) : Nat :=
  latch + (g.rd (ent (0x4000 + x) 3) * 1000) * 2 ^ 32 + (k + 1) * g.period x * 2 ^ 32 / max 1 (g.stripes x)

/-- Frame deadline. -/
def Gen.frameDeadline (g : Gen) (x latch : Nat) : Nat :=
  latch + (g.rd (ent (0x4000 + x) 3) * 1000 + g.period x) * 2 ^ 32

/-- Raw front-end deadline of stripe k. -/
def Gen.rfeDeadline (g : Gen) (x latch k : Nat) : Nat :=
  g.stripeDeadline x latch k - g.period x * 2 ^ 32 / max 1 (g.stripes x)

/-! ## Bindings (R332, R333) -/

/-- A binding record, with 0 sizes resolved. -/
structure Binding where
  enabled : Bool
  left : Nat
  top : Nat
  w : Nat
  h : Nat
  outW : Nat
  outH : Nat
  format : Nat
  deriving DecidableEq, Repr

/-- Binding n of context x. -/
def Gen.binding (g : Gen) (x n : Nat) : Binding :=
  let b := g.rdB (ent (0x3820 + x) (n + 1))
  let left := rdLe b 0 2
  let top := rdLe b 2 2
  let w := rdLe b 4 2
  let h := rdLe b 6 2
  { enabled := b.length == 16 && (rdLe b 13 1).testBit 0, left := left, top := top,
    w := if w = 0 then g.winWidth x - left else w, h := if h = 0 then g.winHeight x - top else h,
    outW := rdLe b 8 2, outH := rdLe b 10 2, format := rdLe b 12 1 }

/-- A binding record that keeps R333 and lies within the window. -/
def Binding.ok (b : Binding) (winW winH : Nat) : Bool :=
  1 ≤ b.outW && b.outW ≤ 32768 && 1 ≤ b.outH && b.outH ≤ 32768 && b.format ≤ 4 &&
  b.left + b.w ≤ winW && b.top + b.h ≤ winH && 1 ≤ b.w && 1 ≤ b.h &&
  b.outW ≤ 8 * b.w && b.w ≤ 16 * b.outW && b.outH ≤ 8 * b.h && b.h ≤ 16 * b.outH

/-- Source position in 16.16 fixed point along one axis: origin, source size, output size, output index (R333). -/
def sourcePos (origin w W : Nat) (i : Nat) : Nat :=
  let p : Int := 65536 * origin + Int.fdiv (((2 * i + 1) * w * 65536 / W : Nat) - 65536) 2
  (max (65536 * origin : Int) (min (65536 * (origin + w - 1) : Int) p)).toNat

/-- x(i). -/
def Binding.srcX (b : Binding) (i : Nat) : Nat := sourcePos b.left b.w b.outW i
/-- y(j). -/
def Binding.srcY (b : Binding) (j : Nat) : Nat := sourcePos b.top b.h b.outH j

/-- Output columns whose source column lies in segment j of width sw (R334). -/
def Binding.segCols (b : Binding) (sw j : Nat) : List Nat :=
  (List.range b.outW).filter fun i => b.srcX i / 65536 / sw == j

/-- Output lines whose source line lies in stripe k. -/
def Gen.stripeOutLines (g : Gen) (x : Nat) (b : Binding) (k : Nat) : List Nat :=
  (List.range b.outH).filter fun j => g.stripeOf x (b.srcY j / 65536) == k && g.bandFirst x ≤ b.srcY j / 65536 &&
    b.srcY j / 65536 < g.bandFirst x + g.bandLines x

/-- Output lines of a binding whose source line the module takes: those of its band in an array, all elsewhere (R686). -/
def Gen.outLines (g : Gen) (x : Nat) (b : Binding) : Nat :=
  if g.bandLines x = g.winHeight x then b.outH
  else (List.range b.outH).countP fun j => decide (g.bandFirst x ≤ b.srcY j / 65536) && decide (b.srcY j / 65536 < g.bandFirst x + g.bandLines x)

/-- Groups of a binding that the module develops in one frame, G (R334, R365, R686). -/
def Gen.groups (g : Gen) (x : Nat) (b : Binding) : Nat :=
  g.outLines x b * ((List.range (g.segs x)).map fun j => ((b.segCols (g.segWidth x) j).length + 15) / 16).sum

/-- Groups of a segment of a stripe, over the enabled bindings: binding, first output column, output line, lanes (R334). -/
def Gen.segGroups (g : Gen) (x k j : Nat) : List (Nat × Nat × Nat × Nat) :=
  (List.range 16).flatMap fun n =>
    let b := g.binding x n
    if b.enabled then
      let cols := b.segCols (g.segWidth x) j
      match cols.head? with
      | none => []
      | some c0 =>
        (g.stripeOutLines x b k).flatMap fun line =>
          (List.range ((cols.length + 15) / 16)).map fun q => (n, c0 + 16 * q, line, min 16 (cols.length - 16 * q))
    else []

/-! ## Look-program images (R371) -/

/-- The image bytes of look slot s, empty where the slot is empty or 0xFF. -/
def Gen.image (g : Gen) (s : Nat) : Bytes := if s < 16 then g.rdB (ent (0x3840 + s) 1) else []

/-- The context's look slot; 0xFF none (R373). -/
def Gen.lookSlot (g : Gen) (x : Nat) : Nat := g.rd (ent (0x3800 + x) 1)

/-- HAS_REDUCED. -/
def imgReduced (img : Bytes) : Bool := (rdLe img 6 1).testBit 0

/-- Parameter block size. -/
def imgParam (img : Bytes) : Nat := rdLe img 34 2

/-- Entry of a kind (0 FULL, 1 REDUCED) for a binding: entry word, I, L. -/
def imgEntry (img : Bytes) (kind binding : Nat) : Option (Nat × Nat × Nat) :=
  (List.range (rdLe img 7 1)).findSome? fun e =>
    let o := rdLe img 40 4 + 16 * e
    if rdLe img o 1 = kind ∧ rdLe img (o + 1) 1 = binding then some (rdLe img (o + 2) 2, rdLe img (o + 4) 2, rdLe img (o + 6) 2)
    else none

/-- Code word w of an image. -/
def imgWord (img : Bytes) (w : Nat) : Nat := rdLe img (rdLe img 12 4 + 4 * w) 4

/-- Table slots an image references, with kind and size. -/
def imgTables (img : Bytes) : List (Nat × Nat × Nat) :=
  (List.range (rdLe img 18 2)).map fun i =>
    let o := rdLe img 44 4 + 8 * i
    (rdLe img o 1, rdLe img (o + 1) 1, rdLe img (o + 2) 2)

/-! ## Declared cost (R365) -/

/-- Pixels of the context's window, or of the member's band of it (R685). -/
def Gen.windowPixels (g : Gen) (x : Nat) : Nat := g.winWidth x * g.bandLines x

/-- Lane operations of a frame in the full (0) or reduced (1) look: the numerator of R365's ops. -/
def Gen.frameOps (g : Gen) (x kind : Nat) : Nat :=
  let img := g.image (g.lookSlot x)
  16 * ((List.range 16).map fun n =>
      let b := g.binding x n
      if b.enabled then
        match imgEntry img kind n with
        | some (_, i, l) => g.groups x b * max i (16 * l)
        | none => 0
      else 0).sum
  + 256 * ((imgParam img + 63) / 64) * g.stripes x

/-- The context has a look that renders something. -/
def Gen.hasLook (g : Gen) (x : Nat) : Bool := !(g.image (g.lookSlot x)).isEmpty

/-- The live image declares a reduced look (R63). -/
def Gen.hasReduced (g : Gen) (x : Nat) : Bool := imgReduced (g.image (g.lookSlot x))

end Sys2Proof.Machine
end

