-- ==== Sys2Proof/Machine/EngineWords.lean ====
section
/-!
DEFINITION. Sys2Proof/Machine/EngineWords.lean: the 32-bit words of the colour engines (R343 to R345): formats, fields, and the instruction that a word
spells for an engine. A word that spells none is illegal.
-/

namespace Sys2Proof.Machine

/-! ## Formats (R343) -/

/-- Bits hi..lo of a word. -/
def bitField (w hi lo : Nat) : Nat := w / 2 ^ lo % 2 ^ (hi + 1 - lo)

/-- A field that names one of n registers; its unused upper bits must be 0. -/
def finOf (n m : Nat) : Option (Fin n) := if h : m < n then some ⟨m, h⟩ else none

/-- Format R with three registers, of files with nd, na and nb registers, and a predicate. -/
def wR (w nd na nb : Nat) (c : Fin nd → Fin na → Fin nb → Fin 8 → Bool → Instr) : Option Instr :=
  match finOf nd (bitField w 25 20), finOf na (bitField w 19 14), finOf nb (bitField w 13 8), finOf 8 (bitField w 7 5) with
  | some d, some a, some b, some p => some (c d a b p (w.testBit 4))
  | _, _, _, _ => none

/-- With D and A alone. -/
def wR2 (w nd na : Nat) (c : Fin nd → Fin na → Fin 8 → Bool → Instr) : Option Instr := wR w nd na 1 fun d a _ => c d a

/-- With D alone. -/
def wR1 (w : Nat) (c : Fin 64 → Fin 8 → Bool → Instr) : Option Instr := wR w 64 1 1 fun d _ _ => c d

/-- Without a predicate: PR and PN are 0 (R344). -/
def wN (w nd na nb : Nat) (c : Fin nd → Fin na → Fin nb → Instr) : Option Instr :=
  if bitField w 7 4 = 0 then wR w nd na nb fun d a b _ _ => c d a b else none
def wN2 (w nd na : Nat) (c : Fin nd → Fin na → Instr) : Option Instr := wN w nd na 1 fun d a _ => c d a

/-- Format I. -/
def wI (w nd : Nat) (c : Fin nd → BitVec 16 → Instr) : Option Instr := (finOf nd (bitField w 25 20)).map fun d => c d (BitVec.ofNat 16 w)

/-- Format M with a predicate, and without one. -/
def wM (w nd : Nat) (c : Fin nd → Fin 16 → BitVec 12 → Fin 8 → Bool → Instr) : Option Instr :=
  match finOf nd (bitField w 25 20), finOf 16 (bitField w 19 16), finOf 8 (bitField w 15 13) with
  | some d, some b, some p => some (c d b (BitVec.ofNat 12 w) p (w.testBit 12))
  | _, _, _ => none
def wMn (w nd : Nat) (c : Fin nd → Fin 16 → BitVec 12 → Instr) : Option Instr :=
  if bitField w 15 12 = 0 then wM w nd fun d b o _ _ => c d b o else none

/-- A five-bit displacement from -8 to 8, given plus 8. -/
def dispOf (n : Nat) : Option (Fin 17) := if n ≤ 8 then finOf 17 (n + 8) else if 24 ≤ n then finOf 17 (n - 24) else none

/-- The predicate of format X, whose FN is 0. -/
def predX (w : Nat) : Option (Fin 8 × Bool) := if bitField w 1 0 = 0 then (finOf 8 (bitField w 5 3)).map fun p => (p, w.testBit 2) else none

/-! ## Instructions (R345, R353 to R364) -/

/-- The format-X rows. A register beyond V63 does not exist: PIX.FRAC writes D + 1 and PIX.OUT reads D + 2 (log entry 22). -/
def pixelWord (e : Fin 384) (w : Nat) : Option Instr :=
  match bitField w 31 26, predX w with
  | 0x20, some p =>
    match finOf 62 (bitField w 25 20), dispOf (bitField w 19 15), dispOf (bitField w 14 10) with
    | some d, some x, some y => if bitField w 9 6 = 0 then some (.pixIn e d x y p.1 p.2) else none
    | _, _, _ => none
  | 0x21, some p => if bitField w 19 6 = 0 then (finOf 63 (bitField w 25 20)).map fun d => .pixFrac e d p.1 p.2 else none
  | 0x22, some p =>
    match finOf 62 (bitField w 25 20), finOf 16 (bitField w 9 6) with
    | some a, some n => if bitField w 19 10 = 0 then some (.pixOut e a n p.1 p.2) else none
    | _, _ => none
  | _, _ => none

/-- The LUT rows: FN names the table slot. -/
def lutWord (e : Fin 384) (w : Nat) : Option Instr :=
  match finOf 8 (bitField w 3 0), bitField w 31 26 with
  | some n, 0x24 => wR2 w 64 64 fun d a p q => .lut1 e d a n p q
  | some n, 0x25 => wR2 w 62 62 fun d a p q => .lut3 e d a n p q
  | some n, 0x26 => wR2 w 16 62 fun m a p q => .lut3Out e m a n p q
  | _, _ => none

/-- The control rows. -/
def controlWord (e : Fin 384) (w : Nat) : Option Instr :=
  let off : BitVec 21 := BitVec.ofNat 21 w
  let bare (i : Instr) : Option Instr := if bitField w 25 0 = 0 then some i else none
  match bitField w 31 26 with
  | 0x30 => if bitField w 25 21 = 0 then some (.br e off) else none
  | 0x31 =>
    match bitField w 22 21, finOf 8 (bitField w 25 23) with
    | 1, some p => some (.brp e p .any off)
    | 2, some p => some (.brp e p .all off)
    | 3, some p => some (.brp e p .none off)
    | _, _ => none
  | 0x32 =>
    if bitField w 21 12 = 0 ∧ bitField w 11 0 ≠ 0 then (finOf 16 (bitField w 25 22)).map fun c => .loop e c (BitVec.ofNat 12 w) else none
  | 0x33 => if bitField w 25 21 = 0 then some (.call e off) else none
  | 0x34 => bare (.ret e)
  | 0x35 => bare (.sync e)
  | 0x36 => if bitField w 25 4 = 0 then some (.wait e (BitVec.ofNat 4 w)) else none
  | 0x37 => bare (.halt e)
  | 0x3E => bare (.nop e)
  | _ => none

/-- OP 0x01: the FP rows. -/
def word01 (e : Fin 384) (w : Nat) : Option Instr :=
  match bitField w 3 0 with
  | 0 => wR w 64 64 64 fun d a b p q => .fadd e d a b p q
  | 1 => wR w 64 64 64 fun d a b p q => .fsub e d a b p q
  | 2 => wR w 64 64 64 fun d a b p q => .fmul e d a b p q
  | 3 => wR w 64 64 64 fun d a b p q => .fmin e d a b p q
  | 4 => wR w 64 64 64 fun d a b p q => .fmax e d a b p q
  | 5 => wR2 w 64 64 fun d a p q => .fabs e d a p q
  | 6 => wR2 w 64 64 fun d a p q => .fneg e d a p q
  | 7 => wR2 w 64 64 fun d a p q => .fsat e d a p q
  | 8 => wR2 w 64 64 fun d a p q => .ffloor e d a p q
  | 9 => wR2 w 64 64 fun d a p q => .ffrac e d a p q
  | 10 => wR2 w 64 64 fun d a p q => .frnd e d a p q
  | _ => none

/-- OP 0x02: FMA, FMS, FNMA. -/
def word02 (e : Fin 384) (w : Nat) : Option Instr :=
  match bitField w 3 0 with
  | 0 => wR w 64 64 64 fun d a b p q => .fma e d a b p q
  | 1 => wR w 64 64 64 fun d a b p q => .fms e d a b p q
  | 2 => wR w 64 64 64 fun d a b p q => .fnma e d a b p q
  | _ => none

/-- OP 0x03: the FP rows with S[B]. -/
def word03 (e : Fin 384) (w : Nat) : Option Instr :=
  match bitField w 3 0 with
  | 0 => wR w 64 64 16 fun d a b p q => .faddS e d a b p q
  | 1 => wR w 64 64 16 fun d a b p q => .fsubS e d a b p q
  | 2 => wR w 64 64 16 fun d a b p q => .fmulS e d a b p q
  | 3 => wR w 64 64 16 fun d a b p q => .fminS e d a b p q
  | 4 => wR w 64 64 16 fun d a b p q => .fmaxS e d a b p q
  | _ => none

/-- OP 0x04: FMA.S, FMS.S, FNMA.S. -/
def word04 (e : Fin 384) (w : Nat) : Option Instr :=
  match bitField w 3 0 with
  | 0 => wR w 64 64 16 fun d a b p q => .fmaS e d a b p q
  | 1 => wR w 64 64 16 fun d a b p q => .fmsS e d a b p q
  | 2 => wR w 64 64 16 fun d a b p q => .fnmaS e d a b p q
  | _ => none

/-- OP 0x05: the transcendentals. -/
def word05 (e : Fin 384) (w : Nat) : Option Instr :=
  match bitField w 3 0 with
  | 0 => wR2 w 64 64 fun d a p q => .rcp e d a p q
  | 1 => wR2 w 64 64 fun d a p q => .rsq e d a p q
  | 2 => wR2 w 64 64 fun d a p q => .sqrt e d a p q
  | 3 => wR2 w 64 64 fun d a p q => .log2 e d a p q
  | 4 => wR2 w 64 64 fun d a p q => .exp2 e d a p q
  | _ => none

/-- OP 0x08: the integer rows. -/
def word08 (e : Fin 384) (w : Nat) : Option Instr :=
  match bitField w 3 0 with
  | 0 => wR w 64 64 64 fun d a b p q => .iadd e d a b p q
  | 1 => wR w 64 64 64 fun d a b p q => .isub e d a b p q
  | 2 => wR w 64 64 64 fun d a b p q => .imul e d a b p q
  | 3 => wR w 64 64 64 fun d a b p q => .imin e d a b p q
  | 4 => wR w 64 64 64 fun d a b p q => .imax e d a b p q
  | 5 => wR w 64 64 64 fun d a b p q => .and e d a b p q
  | 6 => wR w 64 64 64 fun d a b p q => .or e d a b p q
  | 7 => wR w 64 64 64 fun d a b p q => .xor e d a b p q
  | 8 => wR w 64 64 64 fun d a b p q => .shl e d a b p q
  | 9 => wR w 64 64 64 fun d a b p q => .shr e d a b p q
  | 10 => wR w 64 64 64 fun d a b p q => .sar e d a b p q
  | _ => none

/-- OP 0x09: the scalar rows. -/
def word09 (e : Fin 384) (w : Nat) : Option Instr :=
  match bitField w 3 0 with
  | 0 => wN w 16 16 16 fun d a b => .sadd e d a b
  | 1 => wN w 16 16 16 fun d a b => .ssub e d a b
  | 2 => wN w 16 16 16 fun d a b => .smul e d a b
  | 3 => wN w 16 16 16 fun d a b => .smin e d a b
  | 4 => wN w 16 16 16 fun d a b => .smax e d a b
  | 5 => wN w 16 16 16 fun d a b => .sand e d a b
  | 6 => wN w 16 16 16 fun d a b => .sor e d a b
  | 7 => wN w 16 16 16 fun d a b => .sxor e d a b
  | 8 => wN w 16 16 16 fun d a b => .sshl e d a b
  | 9 => wN w 16 16 16 fun d a b => .sshr e d a b
  | 10 => wN w 16 16 16 fun d a b => .ssar e d a b
  | _ => none

/-- OP 0x0D: the moves. -/
def word0D (e : Fin 384) (w : Nat) : Option Instr :=
  match bitField w 3 0 with
  | 0 => wR2 w 64 64 fun d a p q => .mov e d a p q
  | 1 => wR2 w 64 16 fun d a p q => .bcast e d a p q
  | 2 => wN w 16 64 16 fun d a b => .extr e d a b
  | 3 => wR w 64 64 64 fun d a b p q => .sel e d a b p q
  | 4 => wR1 w fun d p q => .laneid e d p q
  | 5 => wN2 w 16 16 fun d a => .smov e d a
  | _ => none

/-- OP 0x10: the compares. -/
def word10 (e : Fin 384) (w : Nat) : Option Instr :=
  match bitField w 3 0 with
  | 0 => wR w 8 64 64 fun d a b p q => .fcmpEq e d a b p q
  | 1 => wR w 8 64 64 fun d a b p q => .fcmpLt e d a b p q
  | 2 => wR w 8 64 64 fun d a b p q => .fcmpLe e d a b p q
  | 3 => wR w 8 64 64 fun d a b p q => .fcmpNe e d a b p q
  | 4 => wR w 8 64 64 fun d a b p q => .fcmpUn e d a b p q
  | 5 => wR w 8 64 64 fun d a b p q => .icmpEq e d a b p q
  | 6 => wR w 8 64 64 fun d a b p q => .icmpLt e d a b p q
  | 7 => wR w 8 64 64 fun d a b p q => .icmpLtu e d a b p q
  | _ => none

/-- OP 0x11: the predicate rows. -/
def word11 (e : Fin 384) (w : Nat) : Option Instr :=
  match bitField w 3 0 with
  | 0 => wN w 8 8 8 fun d a b => .pand e d a b
  | 1 => wN w 8 8 8 fun d a b => .por e d a b
  | 2 => wN w 8 8 8 fun d a b => .pxor e d a b
  | 3 => wN2 w 8 8 fun d a => .pnot e d a
  | 4 => wN2 w 8 16 fun d a => .pfroms e d a
  | 5 => wN2 w 16 8 fun d a => .ptos e d a
  | _ => none

/-- OP 0x14: the conversions. -/
def word14 (e : Fin 384) (w : Nat) : Option Instr :=
  match bitField w 3 0 with
  | 0 => wR2 w 64 64 fun d a p q => .cvtFI e d a p q
  | 1 => wR2 w 64 64 fun d a p q => .cvtIF e d a p q
  | 2 => wR2 w 64 64 fun d a p q => .cvtFU e d a p q
  | 3 => wR2 w 64 64 fun d a p q => .cvtUF e d a p q
  | 4 => wR2 w 64 64 fun d a p q => .cvtHF e d a p q
  | 5 => wR2 w 64 64 fun d a p q => .cvtFH e d a p q
  | _ => none

/-- OP 0x1D: LD.G. -/
def word1D (e : Fin 384) (w : Nat) : Option Instr :=
  match bitField w 3 0 with
  | 0 => wR w 64 64 16 fun d a b p q => .ldG e d a b p q
  | _ => none

/-- OP 0x1E: ST.G. -/
def word1E (e : Fin 384) (w : Nat) : Option Instr :=
  match bitField w 3 0 with
  | 0 => wR w 64 64 16 fun d a b p q => .stG e d a b p q
  | _ => none

/-- OP 0x0C: the immediates. -/
def word0C (e : Fin 384) (w : Nat) : Option Instr :=
  match bitField w 19 16 with
  | 0 => wI w 64 fun d i => .movl e d i
  | 1 => wI w 64 fun d i => .movh e d i
  | 2 => wI w 64 fun d i => .movf e d i
  | 4 => wI w 16 fun d i => .smovl e d i
  | 5 => wI w 16 fun d i => .smovh e d i
  | 6 => wI w 16 fun d i => .saddi e d i
  | _ => none

/-- OP 0x18 to 0x1C: local memory. -/
def memWord (e : Fin 384) (w : Nat) : Option Instr :=
  match bitField w 31 26 with
  | 0x18 => wM w 64 fun d b o p q => .ldV e d b o p q
  | 0x19 => wM w 64 fun d b o p q => .stV e d b o p q
  | 0x1A => wMn w 16 fun d b o => .ldS e d b o
  | 0x1B => wMn w 16 fun d b o => .stS e d b o
  | 0x1C => wM w 64 fun d b o p q => .ldB e d b o p q
  | _ => none

/-- The instruction that a word spells for engine e; none for an illegal word (R343, R345). -/
def instrOf (e : Fin 384) (w : Nat) : Option Instr :=
  match bitField w 31 26 with
  | 0x01 => word01 e w
  | 0x02 => word02 e w
  | 0x03 => word03 e w
  | 0x04 => word04 e w
  | 0x05 => word05 e w
  | 0x08 => word08 e w
  | 0x09 => word09 e w
  | 0x0D => word0D e w
  | 0x10 => word10 e w
  | 0x11 => word11 e w
  | 0x14 => word14 e w
  | 0x1D => word1D e w
  | 0x1E => word1E e w
  | 0x0C => word0C e w
  | 0x18 | 0x19 | 0x1A | 0x1B | 0x1C => memWord e w
  | 0x20 | 0x21 | 0x22 => pixelWord e w
  | 0x24 | 0x25 | 0x26 => lutWord e w
  | _ => controlWord e w

end Sys2Proof.Machine
end

