-- ==== Sys2Proof/Machine/Float.lean ====
section
/-!
DEFINITION. Sys2Proof/Machine/Float.lean: the colour engines' FP32 arithmetic (R345 to R350) on bit patterns. A finite value is taken
as an exact number m × 2^e, every operation is computed exactly, and one rounding to nearest, ties to even, ends it (R346).
-/

namespace Sys2Proof.Machine

/-! ## Reading a bit pattern -/

/-- What an FP32 pattern stands for once subnormal inputs have been read as zeros (R347). -/
inductive Fp where
  | nan
  | inf (neg : Bool)
  /-- (-1)^neg × mag × 2^exp; mag is 0 for a signed zero. -/
  | fin (neg : Bool) (mag : Nat) (exp : Int)
  deriving DecidableEq, Repr

/-- The FP result that is a NaN (R348). -/
def nan32 : W32 := 0x7FC00000

/-- Infinity of a sign. -/
def inf32 (neg : Bool) : W32 := if neg then 0xFF800000 else 0x7F800000

/-- Zero of a sign. -/
def zero32 (neg : Bool) : W32 := if neg then 0x80000000 else 0

/-- 1.0. -/
def one32 : W32 := 0x3F800000

/-- An FP32 input: exponent field 0 reads as a zero of the same sign (R347). -/
def fpOf (w : W32) : Fp :=
  let n := w.toNat
  let neg := n.testBit 31
  let e : Nat := n / 2 ^ 23 % 256
  let f : Nat := n % 2 ^ 23
  if e = 255 then (if f = 0 then .inf neg else .nan)
  else if e = 0 then .fin neg 0 0
  else .fin neg (2 ^ 23 + f) ((e : Int) - 150)

/-- `m` divided by 2^s, rounded to nearest, ties to even. -/
def shrRne (m s : Nat) : Nat :=
  let q := m / 2 ^ s
  let r := m % 2 ^ s
  if 2 * r > 2 ^ s then q + 1
  else if 2 * r = 2 ^ s ∧ s ≠ 0 then q + q % 2
  else q

/-- The FP32 number nearest to ± mag × 2^e, ties to even; below 2^-126 after rounding it becomes a zero, above the range an
infinity (R346 to R348, log entry 20). -/
def round32 (neg : Bool) (mag : Nat) (e : Int) : W32 :=
  if mag = 0 then zero32 neg
  else
    let q : Int := max ((Nat.log2 mag : Int) + e - 23) (-149)
    let m := if q ≤ e then mag * 2 ^ (e - q).toNat else shrRne mag (q - e).toNat
    let m' := if m = 2 ^ 24 then 2 ^ 23 else m
    let q' := if m = 2 ^ 24 then q + 1 else q
    if m' < 2 ^ 23 then zero32 neg
    else if q' + 150 ≥ 255 then inf32 neg
    else BitVec.ofNat 32 ((if neg then 2 ^ 31 else 0) + (q' + 150).toNat * 2 ^ 23 + (m' - 2 ^ 23))

/-- The FP32 number nearest to the integer `i` × 2^e; an exact zero takes the sign `z`. -/
def roundI (z : Bool) (i : Int) (e : Int) : W32 :=
  if i = 0 then zero32 z else round32 (i < 0) i.natAbs e

/-- A finite value as a signed integer mantissa. -/
def sgn (neg : Bool) (m : Nat) : Int := if neg then -(m : Int) else m

/-! ## Sum, product and fused product (R345, R346) -/

/-- a + b. -/
def fadd (a b : W32) : W32 :=
  match fpOf a, fpOf b with
  | .nan, _ => nan32
  | _, .nan => nan32
  | .inf s, .inf t => if s = t then inf32 s else nan32
  | .inf s, _ => inf32 s
  | _, .inf t => inf32 t
  | .fin s m e, .fin t n f =>
    let g := min e f
    roundI (s && t) (sgn s m * 2 ^ (e - g).toNat + sgn t n * 2 ^ (f - g).toNat) g

/-- a with bit 31 inverted (FNEG, R347). -/
def fneg (a : W32) : W32 := a ^^^ 0x80000000

/-- a with bit 31 cleared (FABS, R347). -/
def fabs (a : W32) : W32 := a &&& 0x7FFFFFFF

/-- a - b. -/
def fsub (a b : W32) : W32 := fadd a (fneg b)

/-- a × b. -/
def fmul (a b : W32) : W32 :=
  match fpOf a, fpOf b with
  | .nan, _ => nan32
  | _, .nan => nan32
  | .inf s, .inf t => inf32 (s != t)
  | .inf s, .fin t n _ => if n = 0 then nan32 else inf32 (s != t)
  | .fin s m _, .inf t => if m = 0 then nan32 else inf32 (s != t)
  | .fin s m e, .fin t n f => round32 (s != t) (m * n) (e + f)

/-- a × b + c with one rounding. -/
def ffma (a b c : W32) : W32 :=
  match fpOf a, fpOf b, fpOf c with
  | .nan, _, _ => nan32
  | _, .nan, _ => nan32
  | _, _, .nan => nan32
  | .inf s, .inf t, .inf u => if (s != t) = u then inf32 u else nan32
  | .inf s, .inf t, _ => inf32 (s != t)
  | .inf s, .fin t n _, c' =>
    if n = 0 then nan32 else (match c' with | .inf u => if (s != t) = u then inf32 u else nan32 | _ => inf32 (s != t))
  | .fin s m _, .inf t, c' =>
    if m = 0 then nan32 else (match c' with | .inf u => if (s != t) = u then inf32 u else nan32 | _ => inf32 (s != t))
  | .fin _ _ _, .fin _ _ _, .inf u => inf32 u
  | .fin s m e, .fin t n f, .fin u k g =>
    let h := min (e + f) g
    roundI ((s != t) && u) (sgn (s != t) (m * n) * 2 ^ (e + f - h).toNat + sgn u k * 2 ^ (g - h).toNat) h

/-! ## Order, minimum, maximum (R345, R348) -/

/-- a < b for inputs that are not NaN; zeros of either sign are equal. -/
def fpLt (a b : Fp) : Bool :=
  match a, b with
  | .nan, _ => false
  | _, .nan => false
  | .inf s, .inf t => s && !t
  | .inf s, .fin _ _ _ => s
  | .fin _ _ _, .inf t => !t
  | .fin s m e, .fin t n f =>
    let g := min e f
    sgn s m * 2 ^ (e - g).toNat < sgn t n * 2 ^ (f - g).toNat

/-- Both inputs are numbers of equal value. -/
def fpEq (a b : Fp) : Bool :=
  match a, b with
  | .nan, _ => false
  | _, .nan => false
  | a, b => !fpLt a b && !fpLt b a

/-- One of the inputs is NaN. -/
def fpUn (a b : Fp) : Bool := a = .nan || b = .nan

/-- The pattern as an FP instruction reads it: subnormals as zeros, every NaN as the one NaN. -/
def canon (a : W32) : W32 :=
  match fpOf a with
  | .nan => nan32
  | .inf s => inf32 s
  | .fin s m _ => if m = 0 then zero32 s else a

/-- Minimum (R348): one NaN gives the other operand, and -0 is below +0. -/
def fmin (a b : W32) : W32 :=
  if fpOf a = .nan then canon b
  else if fpOf b = .nan then canon a
  else if fpLt (fpOf a) (fpOf b) then canon a
  else if fpLt (fpOf b) (fpOf a) then canon b
  else if a.toNat.testBit 31 then canon a else canon b

/-- Maximum (R348): one NaN gives the other operand, and +0 is above -0. -/
def fmax (a b : W32) : W32 :=
  if fpOf a = .nan then canon b
  else if fpOf b = .nan then canon a
  else if fpLt (fpOf a) (fpOf b) then canon b
  else if fpLt (fpOf b) (fpOf a) then canon a
  else if a.toNat.testBit 31 then canon b else canon a

/-- min(max(a, +0), 1.0); NaN gives +0 (R345, R348). -/
def fsat (a : W32) : W32 := if fpOf a = .nan then 0 else fmin (fmax a 0) one32

/-! ## Integral values (R345) -/

/-- The integer floor of ± m × 2^e. -/
def floorInt (neg : Bool) (m : Nat) (e : Int) : Int :=
  if 0 ≤ e then sgn neg m * 2 ^ e.toNat else sgn neg m / 2 ^ (-e).toNat

/-- The integer nearest to ± m × 2^e, ties to even. -/
def rneInt (neg : Bool) (m : Nat) (e : Int) : Int :=
  if 0 ≤ e then sgn neg m * 2 ^ e.toNat else sgn neg (shrRne m (-e).toNat)

/-- Largest integral value at or below a. -/
def ffloor (a : W32) : W32 :=
  match fpOf a with
  | .nan => nan32
  | .inf s => inf32 s
  | .fin s m e => roundI s (floorInt s m e) 0

/-- a - floor(a). -/
def ffrac (a : W32) : W32 := fsub a (ffloor a)

/-- a rounded to an integral value, ties to even. -/
def frnd (a : W32) : W32 :=
  match fpOf a with
  | .nan => nan32
  | .inf s => inf32 s
  | .fin s m e => roundI s (rneInt s m e) 0

/-! ## Conversions (R350) -/

/-- CVT.F.I: a signed integer to FP32. -/
def cvtFI (a : W32) : W32 := roundI false a.toInt 0

/-- CVT.F.U: an unsigned integer to FP32. -/
def cvtFU (a : W32) : W32 := round32 false a.toNat 0

/-- The integer of ± m × 2^e rounded toward zero. -/
def truncInt (neg : Bool) (m : Nat) (e : Int) : Int :=
  if 0 ≤ e then sgn neg m * 2 ^ e.toNat else sgn neg (m / 2 ^ (-e).toNat)

/-- CVT.I.F: FP32 to a signed integer, toward zero, saturating; NaN gives 0. -/
def cvtIF (a : W32) : W32 :=
  match fpOf a with
  | .nan => 0
  | .inf s => if s then 0x80000000 else 0x7FFFFFFF
  | .fin s m e => BitVec.ofInt 32 (max (-2147483648) (min 2147483647 (truncInt s m e)))

/-- CVT.U.F: FP32 to an unsigned integer, toward zero, saturating; NaN and negative inputs give 0. -/
def cvtUF (a : W32) : W32 :=
  match fpOf a with
  | .nan => 0
  | .inf s => if s then 0 else 0xFFFFFFFF
  | .fin s m e => BitVec.ofInt 32 (max 0 (min 4294967295 (truncInt s m e)))

/-- The FP16 number nearest to ± mag × 2^e, ties to even, subnormals kept; `big` on overflow. -/
def round16 (neg : Bool) (mag : Nat) (e : Int) (big : Nat) : Nat :=
  let s := if neg then 2 ^ 15 else 0
  if mag = 0 then s
  else
    let q : Int := max ((Nat.log2 mag : Int) + e - 10) (-24)
    let m := if q ≤ e then mag * 2 ^ (e - q).toNat else shrRne mag (q - e).toNat
    let m' := if m = 2 ^ 11 then 2 ^ 10 else m
    let q' := if m = 2 ^ 11 then q + 1 else q
    if m' < 2 ^ 10 then s + m'
    else if q' + 25 ≥ 31 then s + big
    else s + (q' + 25).toNat * 2 ^ 10 + (m' - 2 ^ 10)

/-- CVT.H.F: FP32 to FP16 in bits [15:0]. -/
def cvtHF (a : W32) : W32 :=
  match fpOf a with
  | .nan => 0x7E00
  | .inf s => if s then 0xFC00 else 0x7C00
  | .fin s m e => BitVec.ofNat 32 (round16 s m e 0x7C00)

/-- CVT.F.H and MOVF: the FP16 value in bits [15:0], exactly; an FP16 NaN gives the one NaN. -/
def cvtFH (a : W32) : W32 :=
  let n := a.toNat % 2 ^ 16
  let neg := n.testBit 15
  let e : Nat := n / 2 ^ 10 % 32
  let f : Nat := n % 2 ^ 10
  if e = 31 then (if f = 0 then inf32 neg else nan32)
  else if e = 0 then round32 neg f (-24)
  else round32 neg (2 ^ 10 + f) ((e : Int) - 25)

/-! ## Transcendentals (R348, R349)

SQRT is correctly rounded. RCP, RSQ, EXP2 and LOG2 are bounded, not fixed: among the results the bound admits, the
opaque `Config.transPick` of the operation and the operand chooses. It is a function of the operand alone, because the same
program gives the same pixels on every engine (R339). -/

/-- ⌊√n⌋ for n below 2^(2k), bit by bit. -/
def isqrt (n : Nat) : Nat → Nat → Nat
  | 0, r => r
  | k + 1, r => if (r + 2 ^ k) * (r + 2 ^ k) ≤ n then isqrt n k (r + 2 ^ k) else isqrt n k r

/-- Correctly rounded square root of a positive m × 2^e. -/
def sqrtPos (m : Nat) (e : Int) : W32 :=
  let odd : Bool := e % 2 ≠ 0
  let n := (if odd then 2 * m else m) * 2 ^ 60
  let f := (if odd then e - 1 else e) - 60
  let r := isqrt n 44 0
  round32 false (2 * r + (if r * r = n then 0 else 1)) (f / 2 - 1)

/-- √a. -/
def fsqrt (a : W32) : W32 :=
  match fpOf a with
  | .nan => nan32
  | .inf s => if s then nan32 else inf32 false
  | .fin s m e => if m = 0 then zero32 s else if s then nan32 else sqrtPos m e

/-- n lies within `slack` below the next multiple of `unit`. -/
def nextClose (n unit slack : Nat) : Bool := decide (unit ≤ n % unit + slack)

/-- One of the `count` FP32 numbers whose mantissas, in units of 2^q, begin at `lo`. -/
def pickFrom (op : Nat) (a : W32) (neg : Bool) (lo count : Nat) (q : Int) : W32 := round32 neg (lo + Config.transPick op a % count) q

/-- The FP32 numbers next to a positive value whose mantissa, in units of 2^q, lies between `m` and `m + 1` (or is exactly `m`),
at most `k` units in the last place away; one of them is picked. -/
def pickNear (op : Nat) (a : W32) (neg : Bool) (m : Nat) (exact : Bool) (q : Int) (k : Nat) : W32 :=
  let lo := if exact then m - k else m + 1 - k
  let count := if exact then 2 * k + 1 else 2 * k
  pickFrom op a neg lo count q

/-- 1/a, within 1 ulp. -/
def frcp (a : W32) : W32 :=
  match fpOf a with
  | .nan => nan32
  | .inf s => zero32 s
  | .fin s m e =>
    if m = 0 then inf32 s
    else
      -- m is in [2^23, 2^24), so 2^47 / m is in (2^23, 2^24]
      pickNear 0 a s (2 ^ 47 / m) (2 ^ 47 % m = 0) (-e - 47) 1

/-- 1/√a, within 1 ulp. -/
def frsq (a : W32) : W32 :=
  match fpOf a with
  | .nan => nan32
  | .inf s => if s then nan32 else 0
  | .fin s m e =>
    if m = 0 then inf32 false
    else if s then nan32
    else
      -- a is n × 2^f with f even and n in [2^23, 2^25); √(2^(2p) / n) is in [2^23, 2^24]
      let odd : Bool := e % 2 ≠ 0
      let n := if odd then 2 * m else m
      let f := if odd then e - 1 else e
      let p : Nat := if n ≤ 2 ^ 24 then 35 else 36
      let r := isqrt (2 ^ (2 * p) / n) 26 0
      pickNear 1 a false r (r * r * n = 2 ^ (2 * p)) (-(f / 2) - p) 1

/-- √ in fixed point with 64 fraction bits: of x/2^64. -/
def sqrtFix (x : Nat) : Nat := isqrt (x * 2 ^ 64) 66 0

/-- 2^(f/2^n) with 64 fraction bits, for the `n` fraction bits of `f`, most significant first: the product of the roots of 2 the
bits name. -/
def exp2Frac (f : Nat) : Nat → Nat → Nat → Nat
  | 0, _, acc => acc
  | n + 1, root, acc =>
    let root' := sqrtFix root
    exp2Frac f n root' (if f.testBit n then acc * root' / 2 ^ 64 else acc)

/-- 2^a, within 2 ulp; below 2^-126 it is +0. -/
def fexp2 (a : W32) : W32 :=
  match fpOf a with
  | .nan => nan32
  | .inf s => if s then 0 else inf32 false
  | .fin s m e =>
    if m = 0 then one32
    else if 8 ≤ e then (if s then 0 else inf32 false)
    else
      -- a as an integer part and 40 fraction bits
      let x : Int := if -40 ≤ e then sgn s m * 2 ^ (e + 40).toNat else sgn s m / 2 ^ (-40 - e).toNat
      let i := x / 2 ^ 40
      let f := (x % 2 ^ 40).toNat
      if i < -127 then 0
      else if 128 ≤ i then inf32 false
      else
        -- v is at most 2^-15 of a last place below the power
        let v := exp2Frac f 40 (2 * 2 ^ 64) (2 ^ 64)
        let m := v / 2 ^ 41
        if nextClose v (2 ^ 41) (2 ^ 27) then pickFrom 4 a false m 3 (i - 23)
        else pickNear 4 a false m (f = 0 && -40 ≤ e) (i - 23) 2

/-- Fraction bits of log₂ of x/2^64 in [1, 2), by repeated squaring. -/
def log2Frac : Nat → Nat → Nat → Nat
  | 0, _, acc => acc
  | n + 1, x, acc =>
    let y := x * x / 2 ^ 64
    if 2 ^ 65 ≤ y then log2Frac n (y / 2) (2 * acc + 1) else log2Frac n y (2 * acc)

/-- log₂ a: within 2^-22 for a from 0.5 to 2, within 2 ulp elsewhere. -/
def flog2 (a : W32) : W32 :=
  match fpOf a with
  | .nan => nan32
  | .inf s => if s then nan32 else inf32 false
  | .fin s m e =>
    if m = 0 then inf32 true
    else if s then nan32
    else
      let i : Int := e + 23
      let f := log2Frac 40 (m * 2 ^ 41) 0
      -- log₂ a × 2^40
      let v : Int := i * 2 ^ 40 + f
      if -1 ≤ i ∧ (i < 1 ∨ v = 2 ^ 40) then
        -- 2^-22 is 2^18 units of 2^-40; the rounding that follows takes at most 2^15 of them, and v is less than 2 below the logarithm
        let d : Int := (Config.transPick 3 a % (2 ^ 19 - 2 ^ 16 - 3) : Nat) - (2 ^ 18 - 2 ^ 15 - 2)
        roundI false (v + d) (-40)
      else
        let n := v.natAbs
        let sh := Nat.log2 n - 23
        let top := n / 2 ^ sh
        let q : Int := (sh : Int) - 40
        if m = 2 ^ 23 then pickNear 3 a (v < 0) top true q 2
        -- the magnitude of the logarithm is less than 2 units above n, or below it where it is negative
        else if 0 < v && nextClose n (2 ^ sh) 2 then pickFrom 3 a false top 3 q
        else if v < 0 ∧ n % 2 ^ sh < 2 then pickFrom 3 a true (top - 1) 3 q
        else pickNear 3 a (v < 0) top false q 2

/-! ## Quotients and exact means (raw front end, colour science) -/

/-- ± n ÷ d, rounded once to nearest, ties to even; 0 for d = 0. -/
def roundQuot (neg : Bool) (n d : Nat) : W32 :=
  if d = 0 ∨ n = 0 then zero32 neg
  else
    let k := 40 + Nat.log2 d - min (Nat.log2 n) (Nat.log2 d)
    let q := n * 2 ^ k / d
    round32 neg (2 * q + (if n * 2 ^ k % d = 0 then 0 else 1)) (-(k : Int) - 1)

/-- The FP32 number nearest to a rational. -/
def roundRat (r : Rat) : W32 := roundQuot (decide (r.num < 0)) r.num.natAbs r.den

/-- The rational a finite FP32 pattern stands for; 0 for infinities and NaN. -/
def ratOf (w : W32) : Rat :=
  match fpOf w with
  | .fin neg m e =>
    let v : Rat := if 0 ≤ e then ((m * 2 ^ e.toNat : Nat) : Rat) else mkRat m (2 ^ (-e).toNat)
    if neg then -v else v
  | _ => 0

/-- a ÷ b in FP32, rounded once. -/
def fdiv (a b : W32) : W32 :=
  match fpOf a, fpOf b with
  | .nan, _ => nan32
  | _, .nan => nan32
  | .inf _, .inf _ => nan32
  | .inf s, .fin t _ _ => inf32 (s != t)
  | .fin s _ _, .inf t => zero32 (s != t)
  | .fin s m _, .fin t n _ =>
    if n = 0 then (if m = 0 then nan32 else inf32 (s != t))
    else if m = 0 then zero32 (s != t)
    else
      let q := ratOf a / ratOf b
      roundQuot (s != t) q.num.natAbs q.den

/-- The mean of FP32 values, rounded once; 0 for none. -/
def fmean (l : List W32) : W32 := if l.isEmpty then 0 else roundRat ((l.map ratOf).sum / (l.length : Rat))

end Sys2Proof.Machine
end

