-- ==== Sys2Proof/Machine/Lut.lean ====
section
/-!
DEFINITION. Sys2Proof/Machine/Lut.lean: the LUT unit's shaping and interpolation (R357, R388 to R390). Every operation is FP32 in the
order written, so every Troupe returns the same bits.
-/

namespace Sys2Proof.Machine

/-- A table as the LUT unit reads it: the header of R388 and its data. -/
structure LutTable where
  kind : Nat
  shaper : Nat
  n : Nat
  low : W32
  high : W32
  data : Bytes
  deriving DecidableEq, Repr

/-- A table from its 32-octet header and data. -/
def lutOf (h data : Bytes) : LutTable :=
  ⟨rdLe h 5 1, rdLe h 6 1, rdLe h 8 4, BitVec.ofNat 32 (rdLe h 12 4), BitVec.ofNat 32 (rdLe h 16 4), data⟩

/-- A decimal constant in FP32. -/
def dec32 (num den : Nat) : W32 := roundQuot false num den

/-- A coordinate after NaN has been read as 0 (R357). -/
def lutCoord (v : W32) : W32 := if fpOf v = .nan then 0 else v

/-- The shaper (R389). -/
def shape (t : LutTable) (v : W32) : W32 :=
  match t.shaper with
  | 0 => v
  | 1 => if fpLt (fpOf 0) (fpOf v) then flog2 v else t.low
  | _ =>
    if fpLt (fpOf 0x3C000000) (fpOf v) then fdiv (fadd (flog2 v) (dec32 972 100)) (dec32 1752 100)
    else fadd (fmul (dec32 105402377416545 10000000000000) v) (dec32 729055341958355 10000000000000000)

/-- The shaped coordinate u in [0, 1] (R389). -/
def shaped (t : LutTable) (v : W32) : W32 :=
  fmin (fmax (fdiv (fsub (shape t (lutCoord v)) t.low) (fsub t.high t.low)) 0) one32

/-- Cell index and fraction along an axis (R390). -/
def lutCell (n : Nat) (u : W32) : Nat × W32 :=
  let t := fmul u (round32 false (n - 1) 0)
  let i := min (ratOf (ffloor t)).num.toNat (n - 2)
  (i, fsub t (round32 false i 0))

/-- One-dimensional interpolation (R390). -/
def lut1 (t : LutTable) (v : W32) : W32 :=
  let (i, f) := lutCell t.n (shaped t v)
  let e (i : Nat) : W32 := BitVec.ofNat 32 (rdLe t.data (4 * i) 4)
  fadd (e i) (fmul f (fsub (e (i + 1)) (e i)))

/-- Knot (i, j, k), channel c: FP16 converted exactly. -/
def knot3 (t : LutTable) (c i j k : Nat) : W32 := cvtFH (BitVec.ofNat 32 (rdLe t.data (6 * (i + t.n * (j + t.n * k)) + 2 * c) 2))

/-- Three-dimensional interpolation of one output channel (R390). -/
def lut3 (t : LutTable) (c : Nat) (r g b : W32) : W32 :=
  let (i, fx) := lutCell t.n (shaped t r)
  let (j, fy) := lutCell t.n (shaped t g)
  let (k, fz) := lutCell t.n (shaped t b)
  let q (a b d : Nat) : W32 := knot3 t c (i + a) (j + b) (k + d)
  let ge (a b : W32) : Bool := !fpLt (fpOf a) (fpOf b)
  let sum (f0 a1 a0 f1 b1 b0 f2 c1 c0 : W32) : W32 :=
    fadd (fadd (fadd (q 0 0 0) (fmul f0 (fsub a1 a0))) (fmul f1 (fsub b1 b0))) (fmul f2 (fsub c1 c0))
  if ge fx fy then
    if ge fy fz then sum fx (q 1 0 0) (q 0 0 0) fy (q 1 1 0) (q 1 0 0) fz (q 1 1 1) (q 1 1 0)
    else if ge fx fz then sum fx (q 1 0 0) (q 0 0 0) fz (q 1 0 1) (q 1 0 0) fy (q 1 1 1) (q 1 0 1)
    else sum fz (q 0 0 1) (q 0 0 0) fx (q 1 0 1) (q 0 0 1) fy (q 1 1 1) (q 1 0 1)
  else
    if ge fx fz then sum fy (q 0 1 0) (q 0 0 0) fx (q 1 1 0) (q 0 1 0) fz (q 1 1 1) (q 1 1 0)
    else if ge fy fz then sum fy (q 0 1 0) (q 0 0 0) fz (q 0 1 1) (q 0 1 0) fx (q 1 1 1) (q 0 1 1)
    else sum fz (q 0 0 1) (q 0 0 0) fy (q 0 1 1) (q 0 0 1) fx (q 1 1 1) (q 0 1 1)

end Sys2Proof.Machine
end

