-- ==== Sys2Proof/Machine/Irq.lean ====
section
/-!
DEFINITION. Sys2Proof/Machine/Irq.lean: the interrupt source classes (R756, R757): their pending entries in 0x1311, their MSI-X
vectors in 0x1310 and INT_N.
-/

namespace Sys2Proof.Machine

/-- The source classes of 0x1310:07, by bit. -/
inductive IrqClass where
  | event | stats | zc | scanout | position
  deriving DecidableEq, Repr

/-- Bit of 0x1310:07. -/
def IrqClass.bit : IrqClass → Nat
  | .event => 0 | .stats => 1 | .zc => 2 | .scanout => 3 | .position => 4

/-- The entry that holds the class's MSI-X vector. -/
def IrqClass.vectorKey : IrqClass → Nat
  | .event => ent 0x1310 1 | .stats => ent 0x1310 3 | .zc => ent 0x1310 4 | .scanout => ent 0x1310 5
  | .position => ent 0x1310 6

/-- A record at or above the interrupt threshold lies after the acknowledged sequence (R756). -/
def Sys.eventPending (y : Sys) : Bool :=
  y.mram.ring.any fun p => y.rd (ent 0x1300 4) ≤ p.1 && y.rd (ent 0x1310 2) ≤ p.2.severity

/-- The class is pending (R756). -/
def Sys.irqPending (y : Sys) : IrqClass → Bool
  | .event => y.eventPending
  | .stats => y.rd (ent 0x1311 1) != 0
  | .zc => y.rd (ent 0x1311 2) != 0
  | .scanout => (y.rdB (ent 0x1311 3)).any (· != 0)
  | .position => (y.rdB (ent 0x1311 4)).any (· != 0)

/-- INT_N is low while a class enabled in 0x1310:07 is pending (R756); it is released in reset (R757). -/
def Sys.updateInt (y : Sys) : Sys :=
  let on (c : IrqClass) : Bool := y.rdBit (ent 0x1310 7) c.bit && y.irqPending c
  let low := on .event || on .stats || on .zc || on .scanout || on .position ||
    (y.rdBit (ent 0x1310 7) 5 && y.boot.mbPending) || (y.rdBit (ent 0x1310 7) 6 && y.boot.mqPending)
  { y with boot := { y.boot with intLow := low && y.boot.phase == .running } }

/-- An MSI-X message leaves while the endpoint link is up and the host has not masked the vector (R757). -/
def Sys.sendVector (y : Sys) (v : Nat) : Sys :=
  if y.boot.epLink && !y.boot.masked.contains v then y.send (.msix v) else y

/-- A source of a class is raised: its vector goes out and INT_N follows (R756). -/
def Sys.classRaised (y : Sys) (c : IrqClass) : Sys := Sys.updateInt (y.sendVector (y.rd c.vectorKey))

/-- STATS_READY of context x (R325). -/
def Sys.irqStats (y : Sys) (x : Nat) : Sys := Sys.classRaised (y.wrBit (ent 0x1311 1) x true) .stats

/-- ZC_DONE of channel n (R516). -/
def Sys.irqZc (y : Sys) (n : Nat) : Sys := Sys.classRaised (y.wrBit (ent 0x1311 2) n true) .zc

/-- Bit `b` of octet `i` of a pending BLOB of 24 octets. -/
def setOctetBit (v : Bytes) (i b : Nat) : Bytes := poke (slice v 0 24) i [(slice v 0 24).getD i 0 ||| BitVec.ofNat 8 (2 ^ b)]

/-- A scan-out source of channel c, where its mask (0x4100 + c:0E) lets it (R462). -/
def Sys.irqScan (y : Sys) (c b : Nat) : Sys :=
  if y.rdBit (ent (0x4100 + c) 0x0E) b then
    Sys.classRaised (y.wrB (ent 0x1311 3) (setOctetBit (y.rdB (ent 0x1311 3)) c b)) .scanout
  else y

/-- A position source of channel n, where its mask (0x2600 + n:1E) lets it (R631). -/
def Sys.irqPos (y : Sys) (n b : Nat) : Sys :=
  if y.rdBit (ent (0x2600 + n) 0x1E) b then
    Sys.classRaised (y.wrB (ent 0x1311 4) (setOctetBit (y.rdB (ent 0x1311 4)) n b)) .position
  else y

end Sys2Proof.Machine
end

