-- ==== Sys2Proof/Machine/Links.lean ====
section
/-!
DEFINITION. Sys2Proof/Machine/Links.lean: sending on the Garos and Felley links (R680, R715): a CONTROL frame takes the next
sequence and is kept until it is acknowledged. Message kinds are numbered by this model (log entry 22).
-/

namespace Sys2Proof.Machine

/-- A link at reset. -/
def link0 : Link :=
  { next := 0, unacked := [], expect := [], downAt := none, sentMarker := (0, 0), hbOut := 0, hbIn := 0, misses := 0,
    notice := false, heads := [], bases := [], node := 0, peerDown := false, heard := [], heardAt := 0, cond := false }

/-- Link k: Garos 0 to 3, Felley 4. -/
def Sys.link (y : Sys) (k : Nat) : Link := tget (fun _ => link0) y.links k
def Sys.setLink (y : Sys) (k : Nat) (l : Link) : Sys := { y with links := tset (fun _ => link0) y.links k l }

/-- State of Garos link k (0x4C08 + k:01): 2 is UP. -/
def Sys.garosUp (y : Sys) (k : Nat) : Bool := y.rd (ent (0x4C08 + k) 1) == 2

/-- Kinds of message on CONTROL, numbered by the model. -/
inductive Ctl where
  | linkHello | heartbeat | twinPath | mirror | mirrorAck | lockSwitch | look | statsSum | relay | power | signature | entries
  | resync | stamps | notice | frameInfo | manifest | lossReport | forward | audio | frontUnit | frontApply | frontAnswer
  deriving DecidableEq, Repr

/-- The number of a kind. -/
def Ctl.num : Ctl → Nat
  | .linkHello => 0 | .heartbeat => 1 | .twinPath => 2 | .mirror => 3 | .mirrorAck => 4 | .lockSwitch => 5 | .look => 6
  | .statsSum => 7 | .relay => 8 | .power => 9 | .signature => 10 | .entries => 11 | .resync => 12 | .stamps => 13
  | .notice => 14 | .frameInfo => 15 | .manifest => 16 | .lossReport => 17 | .forward => 18 | .audio => 19 | .frontUnit => 20 | .frontApply => 21
  | .frontAnswer => 22

/-- A full Felley backlog drops its oldest provenance records first, then forwarded Denval frames (R715): the frames kept, and how many
went. -/
def trimBacklog : Nat → List CtlFrame → Nat → List CtlFrame × Nat
  | 0, l, n => (l, n)
  | fuel + 1, l, n =>
    if (l.map fun f => f.body.length).sum ≤ 1048576 then (l, n)
    else
      match (l.findIdx? fun f => f.kind == Ctl.manifest.num) <|> (l.findIdx? fun f => f.kind == Ctl.forward.num) with
      | some i => trimBacklog fuel (l.eraseIdx i) (n + 1)
      | none => (l, n)

/-- A CONTROL frame goes out on Garos link k, or Felley link 4, and is kept for resending (R680, R715). -/
def Sys.control (y : Sys) (k : Nat) (c : Ctl) (body : Bytes) : Sys :=
  let l := y.link k
  let all := l.unacked ++ [⟨l.next, c.num, body, 0⟩]
  let kept := if k = 4 then trimBacklog all.length all 0 else (all, 0)
  let y := y.setLink k { l with next := (l.next + 1) % 65536, unacked := kept.1 }
  let y := if kept.2 = 0 then y else y.raise 0x1508 255 (ev [(4, 4, kept.2)])
  if k = 4 then y.send (.felley 255 l.next c.num body) else y.send (.garos k 0 c.num l.next body)

/-- The same frame on every Garos link that is UP. -/
def Sys.controlAll (y : Sys) (c : Ctl) (body : Bytes) : Sys :=
  [0, 1, 2, 3].foldl (fun y k => if y.garosUp k then y.control k c body else y) y

/-- The same frame on the twin's link. -/
def Sys.controlTwin (y : Sys) (c : Ctl) (body : Bytes) : Sys :=
  [0, 1, 2, 3].foldl (fun y k => if y.garosUp k && y.rd (ent (0x4C08 + k) 2) == 2 then y.control k c body else y) y

/-- Links that carry HALO and STORE traffic: to the neighbours, or to the peer, and over the cross link only while the peer is lost (R686, R708). -/
def Sys.shareLinks (y : Sys) : List Nat :=
  let kind (k : Nat) : Nat := y.rd (ent (0x4C08 + k) 2)
  let peer := (List.range 4).any fun k => y.garosUp k && kind k == 1
  (List.range 4).filter fun k => y.garosUp k && (kind k == 1 || kind k == 4 || (kind k == 3 && !peer))

/-- The twin role is SHADOW (0x4C01:02). -/
def Sys.roleShadow (y : Sys) : Bool := y.rd (ent 0x4C01 2) == 2

/-- The module keeps SHADOW's duties: until the takeover instant, which follows the change of role (R693, R702). -/
def Sys.isShadow (y : Sys) : Bool := y.roleShadow || y.twin.taking.isSome

/-- A frame latched now or at `latch` belongs to SHADOW's records: manifests and colour records lose the flag from the first frame latched at
or after the takeover instant (R703). -/
def Sys.shadowAt (y : Sys) (latch : Nat) : Bool := y.isShadow || (y.rd (ent 0x4C01 8) != 0 && decide (latch < y.rd (ent 0x4C01 9)))

/-- A returning twin keeps its outputs off until step 3 of its resynchronisation (R705). -/
def Sys.outputsHeld (y : Sys) : Bool := y.roleShadow && y.rd (ent 0x4C01 3) == 3 && y.twin.cause == 0 && decide (y.twin.step < 3)

def Sys.onTwin (y : Sys) (f : Twin → Twin) : Sys := { y with twin := f y.twin }

end Sys2Proof.Machine
end

