-- ==== Sys2Proof/Machine/ScanCore.lean ====
section
/-!
DEFINITION. Sys2Proof/Machine/ScanCore.lean: raster timing and the switch to a fallback frame (R434, R439, R440, R443 to R447,
R465), which scan-out and the abandonment of a frame share.
-/

namespace Sys2Proof.Machine

/-! ## Channels -/

/-- A channel at reset. -/
def channel0 : Channel :=
  { running := false, restart := none, index := 0, origin := 0, shown := none, fallback := none, switch := none, fell := none,
    underran := false, picked := false, nextFetch := 0, committed := 0, lastSig := none, lastShown := none, frozen := 0,
    moved := false, due := [], host := none, same := 0, frozenFor := 0, twin := none }

/-- Channel SOc. -/
def Sys.channel (y : Sys) (c : Nat) : Channel := tget (fun _ => channel0) y.channels c
def Sys.setChannel (y : Sys) (c : Nat) (x : Channel) : Sys := { y with channels := tset (fun _ => channel0) y.channels c x }

/-- The first frame reaches an output after power-up or a reset (0x2003:06, in µs). -/
def Sys.firstFrame (y : Sys) : Sys :=
  if y.rd (ent 0x2003 6) = 0 then y.wr (ent 0x2003 6) (min 0xFFFFFFFF (max 1 ((y.up - y.boot.startAt) / 1000))) else y

/-- The channel is enabled. -/
def Gen.chanOn (g : Gen) (c : Nat) : Bool := g.rd (ent (0x4100 + c) 1) == 1

/-- Its source is binding b of context x (R433). -/
def Gen.chanBinding (g : Gen) (c : Nat) : Option (Nat × Nat) :=
  if g.rd (ent (0x4100 + c) 2) = 1 then some (g.rd (ent (0x4100 + c) 3), g.rd (ent (0x4100 + c) 4)) else none

/-- Selection mode (R436): 0 LATEST, 1 DELAY, 2 HOST, 3 LINE_CHASE. -/
def Gen.chanMode (g : Gen) (c : Nat) : Nat := g.rd (ent (0x4100 + c) 6)

/-- The channel admits frame F of its context (R434). -/
def Gen.admits (g : Gen) (c F : Nat) : Bool := F % max 1 (g.rd (ent (0x4100 + c) 8)) == g.rd (ent (0x4100 + c) 9)

/-! ## Timing (R439, R440) -/

/-- A raster. -/
structure Timing where
  actW : Nat
  actH : Nat
  totW : Nat
  totH : Nat
  vFirst : Nat
  num : Nat
  den : Nat
  deriving DecidableEq, Repr

/-- The rates of a three-format row: 50, 60000/1001, 60. -/
def rate3 (i : Nat) : Nat × Nat := match i with | 0 => (50, 1) | 1 => (60000, 1001) | _ => (60, 1)

/-- The rates of codes 4 to 8. -/
def rate5 (i : Nat) : Nat × Nat :=
  match i with | 0 => (24000, 1001) | 1 => (24, 1) | 2 => (25, 1) | 3 => (30000, 1001) | _ => (30, 1)

/-- A standard timing format, by code 1 to 17. -/
def stdTiming (code : Nat) : Option Timing :=
  let mk (w h totW totH vf : Nat) (r : Nat × Nat) : Option Timing := some ⟨w, h, totW, totH, vf, r.1, r.2⟩
  if code = 0 then none
  else if code ≤ 3 then mk 1920 1080 (if code = 1 then 2640 else 2200) 1125 41 (rate3 (code - 1))
  else if code ≤ 8 then mk 3840 2160 (if code ≤ 5 then 5500 else if code = 6 then 5280 else 4400) 2250 82 (rate5 (code - 4))
  else if code ≤ 11 then mk 3840 2160 (if code = 9 then 5280 else 4400) 2250 82 (rate3 (code - 9))
  else if code ≤ 14 then mk 4096 2160 (if code = 12 then 5280 else 4400) 2250 82 (rate3 (code - 12))
  else if code ≤ 17 then mk 7680 4320 (if code = 15 then 10560 else 8800) 4500 164 (rate3 (code - 15))
  else none

/-- A custom timing record. -/
def customTiming (b : Bytes) : Timing :=
  ⟨rdLe b 0 2, rdLe b 2 2, rdLe b 4 2, rdLe b 6 2, rdLe b 10 2, rdLe b 24 4, rdLe b 28 4⟩

/-- The timing of channel c. -/
def Gen.timing (g : Gen) (c : Nat) : Timing :=
  (stdTiming (g.rd (ent (0x4120 + c) 1))).getD (customTiming (g.rdB (ent (0x4120 + c) 3)))

/-- A custom record that R439 admits. -/
def Timing.ok (t : Timing) : Bool :=
  0 < t.actW && 0 < t.actH && 0 < t.num && 0 < t.den && t.actW ≤ t.totW && t.actH ≤ t.totH &&
  t.vFirst + t.actH ≤ t.totH - 1 && t.totW * t.totH * t.num ≤ 2400000000 * t.den &&
  1500 * t.num * t.totH ≤ t.den * 1000000000

/-- `n` line periods in 2^-32 ns. -/
def Timing.lines (t : Timing) (n : Nat) : Nat := n * t.den * 1000000000 * 2 ^ 32 / max 1 (t.num * t.totH)

/-- Origin of output frame k as T96, before the offset (R440): whole ns. -/
def Timing.originNs (t : Timing) (k : Nat) : Nat := k * t.den * 1000000000 / max 1 t.num

/-- The same as a T96 with the channel's origin offset. -/
def Gen.originOf (g : Gen) (c k : Nat) : Nat :=
  ((((g.timing c).originNs k : Nat) : Int) + toI 32 (g.rd (ent (0x4120 + c) 2))).toNat * 2 ^ 32

/-- Output instant of active line j of an output frame with origin O. -/
def Timing.outAt (t : Timing) (o j : Nat) : Nat := o + t.lines (t.vFirst + j)

/-! ## Lock groups (R445) -/

/-- Members of lock group l on this module: array position p has its own mask. -/
def Sys.arrayPos (y : Sys) : Nat :=
  let straps := y.rd (ent 0x2010 1)
  if straps % 4 = 3 then (if straps.testBit 4 then straps / 4 % 2 else straps / 4 % 4) else 0

/-- The lock group that channel c belongs to here. -/
def Sys.lockGroup (y : Sys) (c : Nat) : Option Nat :=
  (List.range 8).find? fun l => y.rdBit (ent (0x4160 + l) (1 + y.arrayPos)) c

/-- The channels that switch with c: its lock group's members here, or itself alone. -/
def Sys.lockMembers (y : Sys) (c : Nat) : List Nat :=
  match y.lockGroup c with
  | none => [c]
  | some l => (List.range 24).filter fun d => y.rdBit (ent (0x4160 + l) (1 + y.arrayPos)) d

/-! ## Switching to the fallback frame (R443, R444) -/

/-- One member switches at a line: the output frame is counted, and its events wait for the output frame boundary, where
the worked example of R447 has them. Reasons: 0 NOT_READY, 1 UNDERRUN, 2 ABANDONED, 3 GROUP. -/
def Sys.switchOne (y : Sys) (c line reason : Nat) (under : Bool) : Sys :=
  let x := y.channel c
  match x.switch with
  | some l => if l ≤ line then y else y.setChannel c { x with switch := some line }
  | none =>
    let y := y.setChannel c { x with switch := some line, fell := some (x.shown.getD 0, reason), underran := x.underran || reason == 1 }
    let y := y.inc (ent (0x4140 + c) 0x0A)
    let y := if under then y.inc (ent (0x4140 + c) 0x0B) else y
    y.irqScan c 3

/-- The decision for channel c and its lock group, sent on to other array positions (R443 to R447). -/
def Sys.switchGroup (y : Sys) (c line reason : Nat) (under : Bool) : Sys :=
  let y := (y.lockMembers c).foldl
    (fun y d => y.switchOne d line (if reason = 1 ∧ d ≠ c then 3 else reason) under) y
  match y.lockGroup c with
  | none => y
  | some l =>
    let y := (y.inc (ent (0x4160 + l) 5)).wr (ent (0x4160 + l) 6) line
    y.controlAll .lockSwitch (pack 8 [(0, 1, l), (1, 1, reason), (2, 2, line), (4, 4, (y.channel c).shown.getD 0)])

/-- The first active line whose output starts at or after an instant (R444). -/
def Gen.lineAfter (g : Gen) (c origin at_ : Nat) : Nat :=
  let t := g.timing c
  ((List.range t.actH).find? fun j => at_ ≤ t.outAt origin j).getD t.actH

/-- A frame was abandoned or cut: the channels that show or chase it switch at the first line whose output starts two line
periods or more from now (R444). -/
def Sys.abandonSwitch (y : Sys) (ctx num : Nat) : Sys :=
  (List.range 24).foldl (fun y c =>
    let x := y.channel c
    let g := y.view
    if x.running && (g.chanBinding c).map Prod.fst == some ctx && x.shown == some num && x.switch.isNone then
      let line := g.lineAfter c x.origin (y.t96 + (g.timing c).lines 2)
      if line < (g.timing c).actH then y.switchGroup c line 2 false else y
    else y) y

end Sys2Proof.Machine
end

