-- ==== Sys2Proof/Machine/FelleySend.lean ====
section
/-!
DEFINITION. Sys2Proof/Machine/FelleySend.lean: the sending side of the Felley streams (R716, R719, R726).
-/

namespace Sys2Proof.Machine

def felley0 : FelleyStream :=
  { dir := 0, kind := 1, src := 0, binding := 0, running := false, dropping := false, queue := [], seq := 0, served := 0, part := [], damaged := false,
    info := [] }
def Sys.fstream (y : Sys) (s : Nat) : FelleyStream := tget (fun _ => felley0) y.felley s
def Sys.setFstream (y : Sys) (s : Nat) (v : FelleyStream) : Sys := { y with felley := tset (fun _ => felley0) y.felley s v }

/-- Stream kinds of R716. -/
inductive FelleyKind where
  | slp | rawCoded | developed | hevc | audio
  deriving DecidableEq, Repr
def FelleyKind.code : FelleyKind → Nat
  | .slp => 1 | .rawCoded => 2 | .developed => 3 | .hevc => 4 | .audio => 5

/-- The configuration entries of a stream: direction, kind, source instance, binding. -/
def Sys.felleyCfg (y : Sys) (s i : Nat) : Nat := y.rd (ent (0x4D10 + s) (i + 1))

/-- SEND streams of a kind with a source instance. At a boundary the written entries count, elsewhere those in force. -/
def Sys.felleyTargets (y : Sys) (k : FelleyKind) (src binding : Nat) (boundary : Bool) : List Nat :=
  (List.range 64).filter fun s =>
    let u := y.fstream s
    let c (i now : Nat) : Nat := if boundary then y.felleyCfg s i else now
    c 0 u.dir == 1 && c 1 u.kind == k.code && (k == .audio || c 2 u.src == src) && (k != .developed || c 3 u.binding == binding) &&
      (boundary || u.running || u.dropping)

/-- Octets a stream's buffer holds: two frame periods (ns) of its admitted rate, at least 4 MiB (R719). -/
def Sys.felleyRoom (y : Sys) (s period : Nat) : Nat := max 4194304 (2 * period * y.rd (ent (0x4D10 + s) 5) / 8000)

/-- A message is offered to a stream: `true` unless the buffer refuses it. SHADOW builds its messages and does not send them, which is
no refusal (R726). A stream starts or resumes only at a boundary. -/
def Sys.felleyPut (y : Sys) (s period frame : Nat) (boundary : Bool) (msg : Bytes) : Bool × Sys :=
  let u := y.fstream s
  let u := if boundary then
      { u with dir := y.felleyCfg s 0, kind := y.felleyCfg s 1, src := y.felleyCfg s 2, binding := y.felleyCfg s 3, running := true,
               dropping := false }
    else u
  if y.isShadow then (true, y)
  else if u.dropping then (false, y.inc (ent (0x4D10 + s) 7))
  else if !u.running then (true, y)
  else if (u.queue.map fun m => m.2.length).sum + msg.length ≤ y.felleyRoom s period then
    (true, y.setFstream s { u with queue := u.queue ++ [(frame, msg)] })
  else
    let y := (y.setFstream s { u with running := false, dropping := true }).inc (ent (0x4D10 + s) 7)
    (false, y.raiseLimited s 0x1505 s (ev [(0, 1, s), (4, 4, frame)]))

/-- A message is offered to every stream of its kind and source; false where one refuses. -/
def Sys.felleyOffer (y : Sys) (k : FelleyKind) (src binding period frame : Nat) (boundary : Bool) (msg : Bytes) : Bool × Sys :=
  (y.felleyTargets k src binding boundary).foldl (fun a s =>
    let r := a.2.felleyPut s period frame boundary msg
    (a.1 && r.1, r.2)) (true, y)

/-! ## SLP packets as messages (R256, R257, R717) -/

/-- A header block: type, STREAM and flags octet, and octets 2 to 6; the check is the XOR of the rest. -/
def slpHeader (type b1 : Nat) (rest : Bytes) : Bytes :=
  let h := le 1 type ++ le 1 b1 ++ slice rest 0 5
  h ++ [h.foldl (· ^^^ ·) 0]

/-- Frame Start packet of one group. -/
def slpStart (stream counter width height depth before after flags : Nat) (time sensor : Bytes) : Bytes :=
  slpHeader 0x78 stream (le 2 counter ++ le 1 1) ++ le 2 width ++ le 2 height ++ le 1 depth ++ le 1 before ++ le 1 after ++
    le 1 flags ++ slice time 0 8 ++ slice sensor 0 16
/-- Line packet. -/
def slpLine (stream line : Nat) (data : Bytes) : Bytes := slpHeader 0x2D stream (le 2 line ++ le 3 data.length) ++ data
/-- Frame End packet. -/
def slpEnd (stream counter lines : Nat) : Bytes := slpHeader 0xB4 stream (le 2 counter ++ le 2 lines)

/-- FRAME_INFO (R717). -/
def frameInfo (num latch marks ctx kind : Nat) (exposure : Bytes) : Bytes :=
  le 4 num ++ le 12 latch ++ le 2 marks ++ le 1 ctx ++ le 1 kind ++ slice exposure 0 32 ++ List.replicate 12 0

/-- Codes packed as R257 lays them out. -/
def packCodes (d : Nat) (l : List Nat) : Bytes :=
  le ((l.length * d + 7) / 8) (l.foldr (fun c a => c % 2 ^ d + 2 ^ d * a) 0)

/-- A message of frame `n` of context x to its SLP streams; Felley frames carry it whole, so a stream's number stands for STREAM
(log entry 33). -/
def Sys.slpMsg (y : Sys) (x n : Nat) (boundary : Bool) (msg : Bytes) : Sys :=
  (y.felleyOffer .slp x 0 (y.view.period x) n boundary msg).2

/-- The frames that carry a message: at most 8,192 octets each, from FIRST to LAST (R713). -/
def Sys.felleyFrames (y : Sys) (s : Nat) (msg : Bytes) : Sys :=
  let n := max 1 ((msg.length + 8191) / 8192)
  (List.range n).foldl (fun y i =>
    let u := y.fstream s
    let flags := (if i = 0 then 2 else 0) + (if i + 1 = n then 4 else 0)
    (y.setFstream s { u with seq := (u.seq + 1) % 65536 }).send (.felley s u.seq flags ((msg.drop (8192 * i)).take 8192))) y

/-- FELLEY_STREAM_SEND (R719): the sender serves a message of a stream; AUDIO goes before every other kind. -/
def execFelleyStreamSend (stream : Fin 64) (s : State) : Host.Outcome State Fault Refusal :=
  onSys s fun _ y =>
    let audio := (List.range 64).find? fun k => (y.fstream k).kind == 5 && !(y.fstream k).queue.isEmpty
    let k := audio.getD stream.val
    match (y.fstream k).queue with
    | [] => y
    | m :: r =>
      let y := y.setFstream k { y.fstream k with queue := r, served := (y.fstream k).served + 1 }
      (y.felleyFrames k m.2).inc64 (ent (0x4D10 + k) 6) 1

end Sys2Proof.Machine
end

