-- ==== Sys2Proof/Machine/FrameOps.lean ====
section
/-!
DEFINITION. Sys2Proof/Machine/FrameOps.lean: frames in flight (chapters 2, 9, 10, 13): their records, the prediction of work time
(R60), the look decision (R61 to R63), abandonment (R64), reserves and shut-out (R415, R424).
-/

namespace Sys2Proof.Machine

/-! ## Records at reset -/

/-- A context since cold reset. -/
def ctx0 : Ctx :=
  { last := none, lastLatch := 0, lastAt := 0, clean := 0, toRun := false, expo := [], firstExpo := none, firstNum := 0,
    triggers := [], black := [], prevBlack := none, lineTime := 0, firstLineAt := 0, lastLineAt := 0, linesSeen := 0,
    served := 0, faults := 0, prevReduced := false, shutOut := false, discarding := none, waitingSince := none, colour := [],
    fullList := false }
def ig0 : IngestGroup := { marker := 0, resync := false, quiet := false }
def port0 : SensorPort := { lists := [], host := none, hostOnWire := false }
/-- Troupe t; its admission count starts at t mod 16 (R57). -/
def troupe0 (t : Nat) : Troupe :=
  { held := none, bufs := [], idle := none, admission := t % 16, times := [], freeSince := 0, returning := false,
    enginesReturning := [], enginesFailed := [], lutLast := 0, notBefore := 0 }
def rfe0 : Rfe := { cache := [], returning := false, failed := false }

/-! ## Access -/

def Sys.ctx (y : Sys) (x : Nat) : Ctx := tget (fun _ => ctx0) y.ctxs x
def Sys.setCtx (y : Sys) (x : Nat) (c : Ctx) : Sys := { y with ctxs := tset (fun _ => ctx0) y.ctxs x c }
def Sys.ig (y : Sys) (g : Nat) : IngestGroup := tget (fun _ => ig0) y.igs g
def Sys.setIg (y : Sys) (g : Nat) (v : IngestGroup) : Sys := { y with igs := tset (fun _ => ig0) y.igs g v }
def Sys.port (y : Sys) (n : Nat) : SensorPort := tget (fun _ => port0) y.ports n
def Sys.setPort (y : Sys) (n : Nat) (v : SensorPort) : Sys := { y with ports := tset (fun _ => port0) y.ports n v }
def Sys.troupe (y : Sys) (t : Nat) : Troupe := tget troupe0 y.troupes t
def Sys.setTroupe (y : Sys) (t : Nat) (v : Troupe) : Sys := { y with troupes := tset troupe0 y.troupes t v }
def Sys.rfe (y : Sys) (r : Nat) : Rfe := tget (fun _ => rfe0) y.rfes r
def Sys.setRfe (y : Sys) (r : Nat) (v : Rfe) : Sys := { y with rfes := tset (fun _ => rfe0) y.rfes r v }

/-- A colour engine at reset: idle. -/
def engine0 : Engine :=
  { busy := false, ctx := 0, frame := 0, binding := 0, reduced := false, stripe := 0, seg := 0, col := 0, line := 0, lanes := 0,
    pc := 0, s := List.replicate 16 0, v := [], p := [], scratch := [], entrySeed := 0, calls := [], loops := [], slot := 0,
    stalls := 0, due := [], transFree := 0, outs := [], writes := 0, reqs := [], halted := [], copied := none, notBefore := 0 }

/-- Engine CEe; engine e belongs to Troupe e / 16 (R330). -/
def Sys.engine (y : Sys) (e : Nat) : Engine := tget (fun _ => engine0) y.engines e
def Sys.setEngine (y : Sys) (e : Nat) (v : Engine) : Sys := { y with engines := tset (fun _ => engine0) y.engines e v }

/-- The engine without its group: what it has asked of the LUT unit is still served (R358). -/
def Engine.idle (g : Engine) : Engine :=
  { g with busy := false, calls := [], loops := [], outs := [], writes := 0, reqs := [], due := [], spent := g.spent ++ g.reqs }

/-- The frame of a context with a number, if in flight. -/
def Sys.frame? (y : Sys) (x n : Nat) : Option Frame := y.frames.find? fun f => f.ctx == x && f.num == n

/-- The newest frame of a context in flight. -/
def Sys.newest? (y : Sys) (x : Nat) : Option Frame := (y.frames.filter fun f => f.ctx == x).getLast?

/-- A frame's record replaced. -/
def Sys.setFrame (y : Sys) (f : Frame) : Sys :=
  { y with frames := y.frames.map fun h => if h.ctx == f.ctx && h.num == f.num then f else h }

/-- A frame's record changed, where the frame is in flight. -/
def Sys.onFrame (y : Sys) (x n : Nat) (f : Frame → Frame) : Sys :=
  { y with frames := y.frames.map fun h => if h.ctx == x && h.num == n then f h else h }

/-- A stripe of a frame. -/
def Frame.stripe? (f : Frame) (k : Nat) : Option Stripe := f.stripes.find? (·.k == k)

/-- A stripe's record changed. -/
def Frame.onStripe (f : Frame) (k : Nat) (g : Stripe → Stripe) : Frame :=
  { f with stripes := f.stripes.map fun s => if s.k == k then g s else s }

/-- A frame's mark set (0x3008:05). -/
def Frame.mark (f : Frame) (b : Nat) : Frame := { f with marks := setBit f.marks b }

/-- Frame counters and entries speak of sensor contexts only (0x3008, 0x3010). -/
def Sys.incCtx (y : Sys) (x sub : Nat) : Sys := if isSensor x then y.inc (ent (0x3010 + x) sub) else y

/-- The trigger ball of a context (R318). -/
def Sys.triggerBall (y : Sys) (x : Nat) : Option Nat :=
  (List.range 32).find? fun n => y.rd (ent (0x2320 + n) 1) == 5 && y.rd (ent (0x2320 + n) 6) == x

/-! ## Capacity -/

/-- Troupe t is in service: state RUN (0x3860 + t:01), and its power domain in Run. -/
def Sys.troupeRun (y : Sys) (t : Nat) : Bool := y.rd (ent (0x3860 + t) 1) == 0 && y.domainRun t

/-- Bits set among the low `w`. -/
def popcount (w n : Nat) : Nat := ((List.range w).filter fun i => n.testBit i).length

/-- Troupes in service. -/
def Sys.troupesIn (y : Sys) : Nat := ((List.range 24).filter y.troupeRun).length

/-- Engines in service in Troupes in service: a Troupe counts as its engines divided by 16 (R369). -/
def Sys.enginesIn (y : Sys) : Nat :=
  ((List.range 24).map fun t => if y.troupeRun t then popcount 16 (y.rd (ent (0x3860 + t) 2)) else 0).sum

/-- Junction temperature in 0.01 °C. -/
def Sys.tDie (y : Sys) : Int := y.rdI (ent 0x2101 1)

/-- R60: the Troupe work time in ns of `pixels` of the window at the present rate, skip count and Troupes in service. `kind` is
0 for the full look, 1 for the reduced one. -/
def Sys.workNs (y : Sys) (f : Frame) (kind pixels : Nat) : Rat :=
  let rate := laneRate (y.rd (railKey .t)) y.tDie
  let den := max 1 (f.gen.windowPixels f.ctx) * 6144 * rate * (16 - y.skip) * y.enginesIn
  if den = 0 then 10 ^ 18
  else ((pixels * f.gen.frameOps f.ctx kind * 1000000000 * 16 * 384 : Nat) : Rat) / (den : Nat)

/-- Pixels of stripe k. -/
def Frame.stripePixels (f : Frame) (k : Nat) : Nat := f.gen.winWidth f.ctx * f.gen.stripeLines f.ctx k

/-- Pixels of the stripes not yet opened. -/
def Frame.pixelsLeft (f : Frame) : Nat :=
  ((f.stripes.filter fun s => s.mode == .waiting).map fun s => f.stripePixels s.k).sum

/-- Frame deadline in frame-store operation (R417). -/
def Frame.deadline (f : Frame) : Nat := f.gen.frameDeadline f.ctx f.latch

/-! ## Deadlines (R417, R418) -/

/-- Channels in line-chase operation on a binding of context x (R418). -/
def Gen.chasers (g : Gen) (x : Nat) : List Nat :=
  (List.range 24).filter fun c => g.chanOn c && g.chanMode c == 3 && (g.chanBinding c).map Prod.fst == some x

/-- When channel c begins to fetch the first output line that has a group in stripe k, if any (R418, R440). -/
def Sys.chaseFetch (y : Sys) (f : Frame) (k c : Nat) : Option Nat :=
  let g := y.view
  match g.chanBinding c with
  | none => none
  | some (_, n) =>
    let ch := y.channel c
    let origin := if ch.shown = some f.num then ch.origin else g.originOf c (ch.index + 1)
    (f.gen.stripeOutLines f.ctx (f.gen.binding f.ctx n) k).head?.map fun j =>
      (g.timing c).outAt origin j - (g.timing c).lines 8

/-- Deadline of stripe k by the channels that chase it; none where it feeds no such channel. -/
def Sys.chaseDue (y : Sys) (f : Frame) (k : Nat) : Option Nat :=
  ((f.gen.chasers f.ctx).filterMap fun c => y.chaseFetch f k c).foldl
    (fun a t => some (match a with | none => t | some b => min b t)) none
  |>.map fun t => t - (f.gen.rd (ent (0x4000 + f.ctx) 4) * 1000) * 2 ^ 32

/-- The stripe deadline d_k: by line-chase where the stripe, or the next one below that does, feeds a chasing channel; else in
frame-store operation. -/
def Sys.stripeDue (y : Sys) (f : Frame) (k : Nat) : Nat :=
  ((List.range (f.gen.stripes f.ctx - k)).findSome? fun i => y.chaseDue f (k + i)).getD (f.gen.stripeDeadline f.ctx f.latch k)

/-- The frame deadline: the later of d_(S-1) and L + A + P. -/
def Sys.frameDue (y : Sys) (f : Frame) : Nat := max (y.stripeDue f (f.gen.stripes f.ctx - 1)) f.deadline

/-! ## The look decision -/

/-- Full look is shed (0x2002:06 bit 2 while loads are shed, R105). -/
def Sys.fullLookShed (y : Sys) : Bool := y.rd (ent 0x2002 7) == 1 && y.rdBit (ent 0x2002 6) 2

/-- 0x0303 and its counter (R61, R62, R70). Mark 0 FRAME, 1 SEAM. -/
def Sys.reducedEvent (y : Sys) (f : Frame) (mark stripe : Nat) : Sys :=
  let y := y.inc (ent 0x2201 (if mark = 0 then 7 else 8))
  y.raiseLimited f.ctx 0x0303 f.ctx (ev [(0, 1, f.ctx), (1, 1, mark), (2, 2, stripe), (4, 4, f.num), (8, 1, y.skip)])

/-- Predicted margin of a whole frame, as a fraction of its period (R420). -/
def Sys.margin (y : Sys) (f : Frame) (kind : Nat) : Rat :=
  1 - y.workNs f kind ((f.stripes.map fun s => f.stripePixels s.k).sum) / (max 1 (f.gen.period f.ctx) : Nat)

/-- The look program's image declares a reduced look, and 0x2200:0A lets it be used (R63): the image is the frame's, the entry the present one. -/
def Sys.reducedUsable (y : Sys) (f : Frame) : Bool := f.gen.hasReduced f.ctx && y.rd (ent 0x2200 0x0A) == 1

/-- R61, R368, R105: the whole frame runs the reduced look. -/
def Sys.wantsReduced (y : Sys) (f : Frame) : Bool :=
  y.reducedUsable f &&
    (decide (y.margin f 0 < 0) || ((y.ctx f.ctx).prevReduced && decide (y.margin f 0 < 4 / 100)) ||
     y.rd (ent (0x3800 + f.ctx) 7) == 1 || y.fullLookShed)

/-- The decision at the frame's first token (R61). -/
def Sys.decideLook (y : Sys) (f : Frame) : Sys :=
  if f.decided then y
  else
    let red := y.wantsReduced f
    let y := y.onFrame f.ctx f.num fun f => { f with decided := true, reduced := red }
    let y := y.setCtx f.ctx { y.ctx f.ctx with prevReduced := red }
    if red then y.reducedEvent f 0 0 else y

/-- The frame is seamed: every stripe not yet opened runs the reduced look (R62). For the 4 % of R61 the next frame counts it as one that ran the
reduced look (DESIGN CHOICE: the spec does not say whether a seamed frame does; log entry 59). -/
def Sys.seamFrame (y : Sys) (f : Frame) : Sys :=
  let first := ((f.stripes.filter fun s => s.mode == .waiting).map (·.k)).head?.getD 0
  let y := y.onFrame f.ctx f.num fun f => { f with seam := some first }
  let y := y.setCtx f.ctx { y.ctx f.ctx with prevReduced := true }
  y.reducedEvent f 1 first

/-- Remaining margin of a started frame, as a fraction of its period (R420). -/
def Sys.marginLeft (y : Sys) (f : Frame) : Rat :=
  ((((y.frameDue f : Int) - y.t96 : Int) : Rat) / (2 ^ 32 : Nat) - y.workNs f 0 f.pixelsLeft) / (max 1 (f.gen.period f.ctx) : Nat)

/-- R428: the look decision goes to the other array members. -/
def Sys.tellLook (y : Sys) (f : Frame) (decision : Nat) : Sys :=
  if y.view.role = 3 then
    y.controlAll .look (pack 8 [(0, 1, f.ctx), (1, 1, decision), (2, 1, y.arrayPos), (4, 4, f.num)])
  else y

/-- After a rise in k, a fence or a late stripe: a frame that started in full look and now predicts a margin below 0 is seamed
(R62). -/
def Sys.checkSeam (y : Sys) (f : Frame) : Sys :=
  if f.decided && !f.reduced && f.seam.isNone && !f.abandoned && y.reducedUsable f && decide (0 < f.pixelsLeft) &&
      decide (y.marginLeft f < 0) then
    Sys.tellLook (y.seamFrame f) f 0
  else y

/-- The same for every frame in flight. -/
def Sys.checkSeams (y : Sys) : Sys := y.frames.foldl (fun y f => y.checkSeam f) y

/-- Frames of a context whose stripes the raw front ends still hold a generation for. -/
def Sys.heldFrames (y : Sys) (x : Nat) : List Frame :=
  y.frames.filter fun f => f.ctx == x && f.gen.usesRfe x && !f.cutRaw && f.stripes.any fun s => !s.passed && s.mode != .dropped

/-- Generations held (0x3440 + x:0A). -/
def Sys.showHeld (y : Sys) (x : Nat) : Sys := y.wr (ent (0x3440 + x) 0x0A) (min 4 (y.heldFrames x).length)

/-! ## Abandonment (R64) -/

/-- A frame's writes to the frame stores are given up: the store keeps its fallback frame. -/
def Sys.dropStores (y : Sys) (x n : Nat) : Sys :=
  { y with stores := y.stores.map fun st =>
      if st.ctx == x then { st with bufs := st.bufs.filter fun b => !(b.frame == n && !b.complete) } else st }

/-- R64: no further stripe opens, stripes in a Troupe complete unpublished, the rest run statistics-only, or not at all where no raw front end serves
the context (R289), and every consumer takes the fallback frame. -/
def Sys.abandon (y : Sys) (f : Frame) : Sys :=
  if f.abandoned then y
  else
    let done := (f.stripes.filter (·.done)).length
    let y := y.onFrame f.ctx f.num fun f =>
      { f with abandoned := true,
               stripes := f.stripes.map fun s =>
                 if s.mode == .waiting then { s with mode := if f.gen.usesRfe f.ctx then .statsOnly else .dropped } else s }
    let y := (y.inc (ent 0x2201 9)).dropStores f.ctx f.num
    let y := if y.sup.kCap != 0 then y.inc (ent 0x2001 9) else y
    let y := y.raise 0x0304 f.ctx
      (ev [(0, 1, f.ctx), (2, 2, done), (4, 4, f.num), (8, 1, y.skip), (9, 1, y.troupesIn)])
    -- the frame has ended past its deadline: a watched one is short (R54)
    let y := (y.watchedFrame .t f.ctx f.num f.rails.1 ⟨-1, 1⟩).watchedFrame .s f.ctx f.num f.rails.2 ⟨-1, 1⟩
    y.abandonSwitch f.ctx f.num

/-- Abandonment decided here: array members apply it to the same frame (R428). -/
def Sys.abandonTell (y : Sys) (f : Frame) : Sys := if f.abandoned then y else Sys.tellLook (y.abandon f) f 1

/-- A frame named by context and number is abandoned, where it is in flight. -/
def Sys.abandonNum (y : Sys) (x n : Nat) : Sys := match y.frame? x n with | some f => y.abandonTell f | none => y

/-- A frame without a fault in the FULL entries ends the row of R368, unless a later one has had one by then. -/
def Sys.endFaults (y : Sys) (f : Frame) : Sys :=
  let later := ((y.frames.filter fun h => h.ctx == f.ctx).dropWhile fun h => h.num != f.num).any (·.fullFault)
  if f.fullFault || later then y else y.setCtx f.ctx { y.ctx f.ctx with faults := 0 }

/-! ## Reserves and shut-out (R415, R424) -/

/-- The context takes part in the reserve: a sensor context not DISABLED, or an enabled playback context. -/
def Gen.active (g : Gen) (x : Nat) : Bool :=
  if isSensor x then g.rd (ent (0x3000 + x) 1) != 0 else g.rd (ent (0x4440 + x - 8) 1) != 0

/-- Sum of the reserves over the contexts in a list. -/
def Gen.reserveSum (g : Gen) (l : List Nat) : Nat := ((l.filter g.active).map g.reserve).sum

/-- Contexts in the order in which they are shut out: descending priority number, then descending index. -/
def Gen.shutOrder (g : Gen) : List Nat :=
  ((List.range 16).reverse.map fun p => (List.range 16).reverse.filter fun x => g.rd (ent (0x4000 + x) 2) == p).flatten

/-- The contexts to shut out until the sum fits `n` Troupes. -/
def Gen.shutSet (g : Gen) (n : Nat) : List Nat → List Nat → List Nat
  | [], _ => []
  | x :: r, kept =>
    if g.reserveSum kept ≤ n then []
    else if g.active x then x :: g.shutSet n r (kept.filter (· != x)) else g.shutSet n r kept

/-- The number whose bits are the listed ones. -/
def bitsOf (l : List Nat) : Nat := l.foldl setBit 0

/-- After a fence: contexts are shut out until the reserve fits, and their frames are abandoned (R424). -/
def Sys.shutOutCheck (y : Sys) : Sys :=
  let n := y.troupesIn
  let g := y.view
  let kept := (List.range 16).filter fun x => !(y.ctx x).shutOut
  let out := g.shutSet n (g.shutOrder.filter fun x => kept.contains x) kept
  let y := (y.wr (ent 0x4020 1) n).wr (ent 0x4020 2) (g.reserveSum (List.range 16))
  if out.isEmpty then y
  else
    let y := out.foldl (fun y x =>
      let y := y.setCtx x { y.ctx x with shutOut := true }
      let y := y.wr (ent (0x4010 + x) 5) 3
      (y.frames.filter fun f => f.ctx == x && !f.abandoned).foldl
        (fun y f => Sys.inc (y.abandonTell f) (ent 0x4020 5)) y) y
    let y := y.wr (ent 0x4020 4) (y.rd (ent 0x4020 4) ||| bitsOf out)
    y.raise 0x0B02 255 (ev [(0, 1, n), (1, 1, g.reserveSum kept), (2, 2, bitsOf out)])

/-- When the sum fits again, the shut-out contexts resume at their next frame boundary (R424). -/
def Sys.shutOutResume (y : Sys) : Sys :=
  let g := y.view
  let out := (List.range 16).filter fun x => (y.ctx x).shutOut
  let y := y.wr (ent 0x4020 1) y.troupesIn
  if out.isEmpty || y.troupesIn < g.reserveSum (List.range 16) then y
  else
    let y := out.foldl (fun y x => y.setCtx x { y.ctx x with shutOut := false }) y
    let y := y.wr (ent 0x4020 4) 0
    y.raise 0x0B03 255 (ev [(0, 1, y.troupesIn), (2, 2, bitsOf out)])

/-- The skip count follows its sources; where it rises, started frames are judged again (R59, R62). -/
def Sys.skipChanged (y : Sys) : Sys := if y.skip < y.updateSkip.skip then y.updateSkip.checkSeams else y.updateSkip

end Sys2Proof.Machine
end

