-- ==== Sys2Proof/Machine/Blocks.lean ====
section
/-!
DEFINITION. Sys2Proof/Machine/Blocks.lean: the 66-bit blocks of the serial lanes (R229), their scrambler, training blocks (R236, R238) and the PRBS
patterns (R249, ITU-T O.150). Bit i of a block is the i-th bit sent.
-/

namespace Sys2Proof.Machine

/-! ## Blocks (R229) -/

/-- A block's sync header: its first two bits. -/
inductive Header where
  | data | control | invalid
  deriving DecidableEq, Repr

/-- A data header is sent as 0 then 1, a control header as 1 then 0. -/
def headerOf (h : BitVec 2) : Header := if h = 2 then .data else if h = 1 then .control else .invalid
def Header.bits : Header → BitVec 2
  | .data => 2 | .control => 1 | .invalid => 0
def blockHeader (b : BitVec 66) : Header := headerOf (b.setWidth 2)

/-- The 64 payload bits as they are sent: scrambled. -/
def blockPayload (b : BitVec 66) : BitVec 64 := (b >>> 2).setWidth 64
def mkLaneBlock (h : Header) (payload : BitVec 64) : BitVec 66 := payload ++ h.bits

/-- Bits 39 and 58 places back of each bit of `cur`, which follows `prev` on the line. -/
def taps (prev cur : BitVec 64) : BitVec 64 :=
  let w : BitVec 128 := cur ++ prev
  (w >>> 25).setWidth 64 ^^^ (w >>> 6).setWidth 64

/-- The descrambler of 1 + x³⁹ + x⁵⁸; `prev` holds the 64 scrambled bits before. -/
def descramble (prev cur : BitVec 64) : BitVec 64 := cur ^^^ taps prev cur

/-- The scrambler: each bit takes in the scrambled bits 39 and 58 places before it, the earliest bits first. -/
def scramble (prev plain : BitVec 64) : BitVec 64 :=
  let pass (cur : BitVec 64) : BitVec 64 := plain ^^^ taps prev cur
  pass (pass 0)

/-! ## Training blocks (R236, R238) -/

/-- XOR of octets. -/
def xorAll (b : Bytes) : Byte := b.foldl (· ^^^ ·) 0

/-- A training block's payload: byte 1 (lane and quad index), protocol, RX_TRAINED, sequence count. -/
def trainingBytes (index protocol : Nat) (trained : Bool) (seq : Nat) : Bytes :=
  let b : Bytes := [0xD2] ++ le 1 index ++ le 1 protocol ++ [if trained then 1 else 0] ++ le 2 seq ++ [0x5A]
  b ++ [xorAll b]

/-- The training block a lane sends after the 64 scrambled bits `prev`. -/
def trainingBlock (prev : BitVec 64) (index protocol : Nat) (trained : Bool) (seq : Nat) : BitVec 66 :=
  mkLaneBlock .control (scramble prev (BitVec.ofNat 64 (unLe (trainingBytes index protocol trained seq))))

/-- What training blocks say alike: byte 1, the protocol, RX_TRAINED, and whether they arrive inverted. -/
structure Training where
  index : Nat
  protocol : Nat
  trained : Bool
  inverted : Bool
  deriving DecidableEq, Repr

/-- A descrambled payload read as a training block: none where a byte differs from the table. -/
def readPayload (p : BitVec 64) (inverted : Bool) : Option Training :=
  let b := le 8 p.toNat
  let at_ (i : Nat) : Nat := rdLe b i 1
  if at_ 0 = 0xD2 ∧ at_ 1 < 64 ∧ at_ 3 ≤ 1 ∧ at_ 6 = 0x5A ∧ xorAll b = 0 then some ⟨at_ 1, at_ 2, at_ 3 = 1, inverted⟩ else none

/-- A block with the 64 scrambled bits before it: a training block, or, under a data header, its bitwise inverse. -/
def readTraining (b : BitVec 64 × BitVec 66) : Option Training :=
  let p := descramble b.1 (blockPayload b.2)
  match blockHeader b.2 with
  | .control => readPayload p false
  | .data => readPayload (~~~p) true
  | .invalid => none

/-- 16 consecutive training blocks whose bytes 1 to 3 and whose sense agree (R238, R239). -/
def agreed (l : List (BitVec 64 × BitVec 66)) : Option Training :=
  match l.head?.bind readTraining with
  | some t => if l.length = 16 ∧ l.all (fun b => readTraining b == some t) = true then some t else none
  | none => none

/-- Sequence count of a training block, of whichever sense (R236). -/
def trainingSeq (b : BitVec 64 × BitVec 66) : Nat :=
  let p := descramble b.1 (blockPayload b.2)
  rdLe (le 8 (if blockHeader b.2 = .data then ~~~p else p).toNat) 4 2

/-! ## Hunting for block lock (R230) -/

/-- Valid headers in a row at the end of a list, and the bits slipped on the way: one after each invalid header. -/
def hunt (l : List (BitVec 2)) : Nat × Nat :=
  l.foldl (fun p h => if headerOf h == .invalid then (0, p.2 + 1) else (p.1 + 1, p.2)) (0, 0)

/-! ## PRBS patterns -/

/-- The next bit of pattern 0 PRBS7, 1 PRBS15 or 2 PRBS31 and the register after it; the register holds the last bits, the latest in bit 0. ITU-T O.150
sends the two longer ones inverted (PRESUMED, log entry 57). -/
def prbsNext (pattern : Nat) (r : BitVec 31) : Bool × BitVec 31 :=
  let b := match pattern with
    | 0 => r.getLsbD 6 ^^ r.getLsbD 5
    | 1 => !(r.getLsbD 14 ^^ r.getLsbD 13)
    | _ => !(r.getLsbD 30 ^^ r.getLsbD 27)
  (b, r <<< 1 ||| (if b then 1 else 0))

/-- Bits that differ from what the pattern goes on with after register `r`, and the register after them. -/
def prbsErrors (pattern : Nat) (r : BitVec 31) (bits : List Bool) : Nat × BitVec 31 :=
  bits.foldl (fun p b => let n := prbsNext pattern p.2; (p.1 + (if n.1 == b then 0 else 1), n.2)) (0, r)

/-- A checker takes bits: its register is set by the first 31 and then runs on by itself (DESIGN CHOICE, log entry 57). -/
def prbsTake (pattern : Nat) (r : Option (BitVec 31)) (bits : List Bool) : Nat × Option (BitVec 31) :=
  match r with
  | some r => let p := prbsErrors pattern r bits; (p.1, some p.2)
  | none =>
    if bits.length < 31 then (0, none)
    else
      let p := prbsErrors pattern ((bits.take 31).foldl (fun r b => r <<< 1 ||| (if b then 1 else 0)) 0) (bits.drop 31)
      (p.1, some p.2)

end Sys2Proof.Machine
end

