-- ==== Sys2Proof/Machine/LaneOps.lean ====
section
/-!
DEFINITION. Sys2Proof/Machine/LaneOps.lean: the lanes' states, flags, groups and quads (R242, R247, R249), and what their transmitters send (R237).
Lane codes are those of R250: 0 to 47 are IL0 to IL47 and 48 to 79 are LL0 to LL31.
-/

namespace Sys2Proof.Machine

def lane0 : Lane := { step := 0, stored := none, later := none, losAt := none, downAt := none, resume := false }
def Sys.lane (y : Sys) (n : Nat) : Lane := tget (fun _ => lane0) y.lanes n
def Sys.setLane (y : Sys) (n : Nat) (v : Lane) : Sys := { y with lanes := tset (fun _ => lane0) y.lanes n v }

/-- Present states (0x2400 + n:02). -/
inductive LaneState where
  | active | quiet | deep | disabled | bringup | failed | domainOff
  deriving DecidableEq, Repr
def LaneState.code : LaneState → Nat
  | .active => 0 | .quiet => 1 | .deep => 2 | .disabled => 3 | .bringup => 4 | .failed => 5 | .domainOff => 6
def Sys.laneIs (y : Sys) (n : Nat) (s : LaneState) : Bool := y.rd (ent (0x2400 + n) 2) == s.code

/-- Flags (0x2400 + n:03). -/
inductive LaneFlag where
  | los | cdr | block | hiBer | trained | inverted | frozen
  deriving DecidableEq, Repr
def LaneFlag.bit : LaneFlag → Nat
  | .los => 0 | .cdr => 1 | .block => 2 | .hiBer => 3 | .trained => 4 | .inverted => 5 | .frozen => 6
def Sys.laneFlag (y : Sys) (n : Nat) (f : LaneFlag) (v : Bool) : Sys := y.wrBit (ent (0x2400 + n) 3) f.bit v
def Sys.laneHas (y : Sys) (n : Nat) (f : LaneFlag) : Bool := y.rdBit (ent (0x2400 + n) 3) f.bit

/-! ## Groups and quads -/

/-- Codes of quad functions (R247). -/
inductive QuadFn where
  | off | eth100 | felley | garos | prbs
  deriving DecidableEq, Repr
def quadFnOf : Nat → QuadFn
  | 1 => .eth100 | 2 => .felley | 3 => .garos | 4 => .prbs | _ => .off
def Sys.quadFn (y : Sys) (q : Nat) : QuadFn := quadFnOf (y.rd (ent (0x2488 + q) 1))

/-- Quad of a link lane. -/
def quadOf (n : Nat) : Nat := (n - 48) / 4
/-- The lanes of the group or quad of lane n. -/
def laneMates (n : Nat) : List Nat := if n < 48 then (List.range 6).map (6 * (n / 6) + ·) else (List.range 4).map (48 + 4 * quadOf n + ·)
/-- Those that are enabled. -/
def Sys.enabledMates (y : Sys) (n : Nat) : List Nat := (laneMates n).filter fun m => y.rd (ent (0x2400 + m) 1) != 3

/-- Domain of lane n: ING, or its quad's (R644). -/
def laneDomain (n : Nat) : Nat := if n < 48 then 24 else 27 + quadOf n

/-- The reference of lane n is present. -/
def Sys.laneRef (y : Sys) (n : Nat) : Bool := if n < 48 then y.rd (ent (0x2480 + n / 6) 6) == 1 else y.rd (ent (0x2488 + quadOf n) 0x0B) == 1

/-- State of a group (0x2480 + g:02) or of a quad (0x2488 + q:04). -/
def Sys.showMates (y : Sys) (n : Nat) : Sys :=
  let on := y.enabledMates n
  let count (s : LaneState) : Nat := (on.filter fun m => y.laneIs m s).length
  if n < 48 then
    y.wr (ent (0x2480 + n / 6) 2)
      (if !y.domainRun 24 then 5 else if on.isEmpty then 0 else if count .active = on.length then 2 else if 0 < count .active then 3
       else if 0 < count .failed then 4 else if 0 < count .bringup then 1 else 0)
  else
    let q := quadOf n
    y.wr (ent (0x2488 + q) 4)
      (if y.quadFn q = .off then 0 else if !y.domainRun (27 + q) then 4 else if !on.isEmpty ∧ count .active = on.length then 2
       else if 0 < count .bringup then 1 else 3)

/-- Lanes of reference r: IGREF0 to IGREF7, then LQREF0 to LQREF7. -/
def refLanes (r : Nat) : List Nat := if r < 8 then (List.range 6).map (6 * r + ·) else (List.range 4).map (48 + 4 * (r - 8) + ·)
def refKey (r : Nat) : Nat := if r < 8 then ent (0x2480 + r) 6 else ent (0x2488 + (r - 8)) 0x0B

/-- A scan in progress is aborted by a change of lane state (R246). -/
def Sys.abortScan (y : Sys) (n : Nat) : Sys :=
  let r := y.rdB (ent (0x2400 + n) 0x0F)
  if rdLe r 0 1 = 1 then y.wrB (ent (0x2400 + n) 0x0F) (poke r 0 [3]) else y

/-- ADAPT_FROZEN: adaptation is held by the adaptation entry or in QUIET (R232, R242). -/
def Sys.showFrozen (y : Sys) (n : Nat) : Sys := y.laneFlag n .frozen (y.rd (ent (0x2400 + n) 7) == 1 || y.laneIs n .quiet)

/-- The lane's present state. -/
def Sys.laneTo (y : Sys) (n : Nat) (s : LaneState) : Sys :=
  if y.laneIs n s then y else (((y.abortScan n).wr (ent (0x2400 + n) 2) s.code).showFrozen n).showMates n

/-- A write of the adaptation entry (R232). -/
def Sys.laneAdapt (y : Sys) (n v : Nat) : Sys := Sys.showFrozen (y.wr (ent (0x2400 + n) 7) v) n

/-- A write of the polarity entry: NORMAL and INVERTED fix the lane's polarity (R238). -/
def Sys.lanePolarity (y : Sys) (n v : Nat) : Sys :=
  let y := y.wr (ent (0x2400 + n) 5) v
  if v = 0 then y
  else
    let u := y.lane n
    (y.setLane n { u with stored := u.stored.map fun p => (p.1, v == 2) }).laneFlag n .inverted (v == 2)

/-- Invalid headers of a locked lane that no command has reported yet: the blocks go to the protocol marked errored, and are counted (R230). -/
def Sys.countInvalid (y : Sys) (n k : Nat) : Sys :=
  (y.setLane n { y.lane n with errored := (y.lane n).errored + k }).inc64 (ent (0x2400 + n) 0x0B) k

/-- A report of a link lane: on a PRBS quad its bits against the pattern (R247), on an ETH100 quad its codewords, with event 0x070A (R249 to R251). -/
def Sys.laneReport (y : Sys) (n : Nat) (r : LaneReport) : Sys :=
  if n < 48 then y
  else
    let q := quadOf n
    match y.quadFn q with
    | .prbs =>
      let p := prbsTake (y.rd (ent (0x2488 + q) 5)) (y.lane n).prbs r.bits
      (y.setLane n { y.lane n with prbs := p.2 }).inc64 (ent (0x2488 + q) 6) p.1
    | .eth100 =>
      let y := (y.inc64 (ent (0x2488 + q) 7) r.corrected.toNat).inc64 (ent (0x2488 + q) 8) r.uncorrected.toNat
      let last (l : List (Nat × Nat)) : List (Nat × Nat) := l.filter fun p => decide (y.up < p.1 + 1000000000)
      let y := y.setLane n { y.lane n with fec := last (y.lane n).fec ++ [(y.up, r.uncorrected.toNat)] }
      if r.uncorrected = 0 then y
      else y.raiseLimited q 0x070A q (ev [(0, 1, q), (4, 4, (((laneMates n).flatMap fun m => last (y.lane m).fec).map Prod.snd).sum % 2 ^ 32)])
    | _ => y

/-- A lane leaves QUIET at its kept block alignment: it delivers after 4 valid headers (R242). -/
def Sys.laneResume (y : Sys) (n : Nat) : Sys :=
  (y.setLane n { y.lane n with step := 6, resume := false, quick := true }).laneTo n .bringup

/-- The lanes of a quad begin to send its PRBS pattern, and to check it anew (R247). -/
def Sys.prbsOut (y : Sys) (q : Nat) : Sys :=
  if y.quadFn q ≠ .prbs then y
  else (refLanes (8 + q)).foldl (fun y n =>
    let y := y.setLane n { y.lane n with prbs := none }
    if (y.lane n).sends = .prbs then y.send (.prbs n (y.rd (ent (0x2488 + q) 5))) else y) y

end Sys2Proof.Machine
end

