-- ==== Sys2Proof/Machine/IngestOps.lean ====
section
/-!
DEFINITION. Sys2Proof/Machine/IngestOps.lean: lines and groups of a frame (R260 to R274): acceptance, loss, substitution,
truncation, completion, and the states of a sensor context (R268).
-/

namespace Sys2Proof.Machine

/-! ## Groups -/

/-- The context's raw path is active: some RAW channel takes its lines (R272, R502). -/
def Gen.rawPath (g : Gen) (x : Nat) : Bool :=
  (List.range 64).any fun n => g.rd (ent (0x4800 + n) 1) == 1 && g.rd (ent (0x4800 + n) 2) == x

/-- Lanes of group g whose requested state is not DISABLED: the width W (R253). -/
def Gen.groupWidth (g : Gen) (ig : Nat) : Nat :=
  ((List.range 6).filter fun k => g.rd (ent (0x2400 + 6 * ig + k) 1) != 3).length

/-- Groups of context x in ascending order; the first is the lead group (R260). -/
def Gen.groupsOf (g : Gen) (x : Nat) : List Nat := (List.range 8).filter fun i => (g.rd (ent (0x3000 + x) 3)).testBit i

/-- The payload octets that logical lane k of W carries, padding included: every W-th block of 8 (R255). -/
def laneData (W k : Nat) (payload : Bytes) : Bytes :=
  let n := (payload.length + 8 * W - 1) / (8 * W)
  (List.range n).flatMap fun i => slice payload (8 * (i * W + k)) 8

/-- Logical lanes whose trailer differs from the CRC-32C of what they carried, as bits (R258). A packet without payload has no trailer (R255). -/
def failedLanes (W : Nat) (payload : Bytes) (trailers : List (BitVec 32)) : Nat :=
  if payload.isEmpty then 0
  else bitsOf ((List.range W).filter fun k => crc32c (laneData W k payload) != trailers.getD k 0)

/-- Owner of group g (0x3018 + g:01). -/
def Sys.owner (y : Sys) (g : Nat) : Option Nat := let o := y.rd (ent (0x3018 + g) 1); if o < 8 then some o else none

/-- The groups of the mask become those of context x and take their GIDX; a group it gave up becomes free (R260). -/
def Sys.takeGroups (y : Sys) (x mask : Nat) : Sys :=
  let gs := (List.range 8).filter mask.testBit
  (List.range 8).foldl (fun y g =>
    if gs.contains g then (y.wr (ent (0x3018 + g) 1) x).wr (ent (0x3018 + g) 2) (gs.idxOf g)
    else if y.rd (ent (0x3018 + g) 1) = x then (y.wr (ent (0x3018 + g) 1) 0xFF).wr (ent (0x3018 + g) 2) 0xFF
    else y) y

/-- Lines of group g that hold a slot: good lines until every descriptor that points to them is released (R269, R272). -/
def Sys.occupancy (y : Sys) (g : Nat) : Nat :=
  (y.frames.map fun f =>
    (f.lines.filter fun l => l.group == g && l.source == l.num &&
      f.lines.any fun d => d.source == l.num && d.group == g && !(d.readOut && d.coded)).length).sum

/-- Occupancy entries of a group and its context follow (0x3018:07, 0x3008:09, :0A); the most occupied group of a context with
raw recording reports its slack (R52). -/
def Sys.showOccupancy (y : Sys) (g : Nat) : Sys :=
  let n := y.occupancy g
  let y := y.wr (ent (0x3018 + g) 7) n
  match y.owner g with
  | none => y
  | some x =>
    let m := ((y.view.groupsOf x).map y.occupancy).foldl max 0
    let y := y.wr (ent (0x3008 + x) 9) m
    y.wr (ent (0x3008 + x) 0x0A) (max m (y.rd (ent (0x3008 + x) 0x0A)))

/-! ## Marks, states and completion -/

/-- The context's ingest state (0x3008 + c:01): 0 DISABLED, 1 STARTUP, 2 RUN, 3 TEST, 4 RECOVERY. -/
def Sys.ctxState (y : Sys) (x : Nat) : Nat := y.rd (ent (0x3008 + x) 1)

/-- A state change, with event 0x080C (R268). -/
def Sys.setCtxState (y : Sys) (x n : Nat) : Sys :=
  let old := y.ctxState x
  if old = n then y
  else Sys.raise (y.wr (ent (0x3008 + x) 1) n) 0x080C x (ev [(0, 1, x), (1, 1, old), (2, 1, n)])

/-- The lost-line policy is Substitute: in RUN, and for a playback context whatever its state (R268, R761). -/
def Sys.substitutes (y : Sys) (x : Nat) : Bool := !isSensor x || y.ctxState x == 2

/-- The marks that keep a frame from counting as clean: OVERFLOW, LOCK, GEOMETRY, LATE, TRUNCATED, GROUP_SKEW (R268). -/
def cleanMarks : List Nat := [2, 3, 4, 5, 6, 8]

/-- The module takes line l of context x: of the window's band in an array, every line elsewhere (R685). -/
def Gen.ownLine (g : Gen) (x l : Nat) : Bool :=
  g.role != 3 || g.rd (ent (0x4000 + x) 6) == 0 ||
    (g.winTop x + g.bandFirst x ≤ l && l < g.winTop x + g.bandFirst x + g.bandLines x)

/-- Lines of a frame that group index gidx carries (R259, R685). -/
def Gen.share (g : Gen) (x G gidx : Nat) : List Nat :=
  (List.range (g.height x)).filter fun l => l % max 1 G == gidx && g.ownLine x l

/-- Lines of the group's share that have not come and were not replaced. -/
def Frame.outstanding (f : Frame) (fg : FrameGroup) : List Nat :=
  (f.gen.share f.ctx f.groups.length fg.gidx).filter fun l =>
    f.cut.all (fun c => l < c) && !(f.lines.any fun d => d.num == l)

/-- The live length of a line's payload in octets (R257). -/
def Gen.lineBytes (g : Gen) (x depth : Nat) : Nat := (g.width x * depth + 7) / 8

/-- Bit depth of a context's lines. -/
def Gen.depth (g : Gen) (x : Nat) : Nat := if isSensor x then g.rd (ent (0x3000 + x) 7) else g.bits

/-- A stripe that is still to pass a raw front end reads line l, as its own or in its halo (R272). -/
def Frame.wanted (f : Frame) (l : Nat) : Bool :=
  f.stripes.any fun s =>
    !s.passed && s.mode != .dropped && decide (f.gen.winTop f.ctx + f.gen.stripeTop f.ctx s.k ≤ l + 8) &&
      decide (l < f.gen.winTop f.ctx + f.gen.stripeTop f.ctx s.k + f.gen.stripeLines f.ctx s.k + 8)

/-- R269: a lost line becomes a descriptor to the last good line of the same frame and group that is congruent to it modulo
the CFA period, or code 0 where there is none. -/
def Frame.substitute (f : Frame) (fg : FrameGroup) (line : Nat) : Frame :=
  let v := f.gen.cfaV f.ctx
  let good := (f.lines.filter fun l => l.group == fg.group && l.source == l.num && l.num < line && l.num % v == line % v)
  let d : Line := match good.getLast? with
    | some l => { l with num := line }
    | none => { num := line, group := fg.group, source := line + 1000000, readOut := false, coded := false,
                data := List.replicate (f.gen.lineBytes f.ctx (f.gen.depth f.ctx)) 0 }
  let d := { d with readOut := !f.wanted line, coded := !f.gen.rawPath f.ctx }
  { f with lines := f.lines ++ [d], lost := f.lost + 1, substituted := f.substituted + 1, marks := setBit f.marks 1 }

/-- A line of a sensor context as its ingest buffer holds it goes to the SLP streams (R716). -/
def Sys.slpLineOut (y : Sys) (x n line : Nat) : Sys :=
  match (y.frame? x n).bind fun f => f.lines.find? (·.num == line) with
  | some l => if isSensor x then y.slpMsg x n false (slpLine (y.rd (ent (0x3000 + x) 4)) line l.data) else y
  | none => y

/-- A lost line under the substitute policy. -/
def Sys.substituteLine (y : Sys) (x n : Nat) (fg : FrameGroup) (line : Nat) : Sys :=
  let y := (y.onFrame x n fun f => f.substitute fg line).slpLineOut x n line
  if isSensor x then y.inc64 (ent (0x3010 + x) 4) 1 else y

/-- Every line in the list is substituted. -/
def Sys.substituteAll (y : Sys) (x n : Nat) (fg : FrameGroup) (lines : List Nat) : Sys :=
  lines.foldl (fun y l => y.substituteLine x n fg l) y

/-- R270: the frame is cut from its first lost line on; it is abandoned. A line lost above a cut lowers it. -/
def Sys.truncate (y : Sys) (x n line : Nat) : Sys :=
  match y.frame? x n with
  | none => y
  | some f =>
    if f.cut.any (· ≤ line) then y
    else
      let y := y.onFrame x n fun f =>
        { f with cut := some line, lines := f.lines.filter fun l => l.num < line, marks := setBit f.marks 6, lost := f.lost + 1 }
      let y := if f.cut.isSome then y
        else
          let y := y.incCtx x 6
          match y.frame? x n with | some f => y.abandonTell f | none => y
      y.onFrame x n fun f =>
        { f with stripes := f.stripes.map fun s =>
            if s.mode == .statsOnly && !s.passed && decide (line ≤ f.gen.winTop x + f.gen.stripeTop x s.k) then
              { s with mode := .dropped } else s }

/-- A line lost to overflow or loss of lock: substituted in RUN, a cut otherwise (R269, R270). -/
def Sys.loseHard (y : Sys) (x n : Nat) (fg : FrameGroup) (line : Nat) : Sys :=
  if y.substitutes x then y.substituteLine x n fg line else y.truncate x n line

/-- The frame is complete (R263): its marks are shown and counted, and a clean frame counts toward RUN (R268). -/
def Sys.completeFrame (y : Sys) (x n : Nat) : Sys :=
  match y.frame? x n with
  | none => y
  | some f =>
    if f.complete then y
    else
      let y := y.onFrame x n fun f => { f with complete := true }
      if !isSensor x then y
      else
        let y := y.slpMsg x n false (slpEnd (y.rd (ent (0x3000 + x) 4)) f.counter f.lines.length)
        let y := y.wr (ent (0x3008 + x) 5) f.marks
        let y := if f.marks = 0 then y else y.inc (ent (0x3010 + x) 2)
        let c := y.ctx x
        let clean := if cleanMarks.any fun b => f.marks.testBit b then 0 else c.clean + 1
        let starting := y.ctxState x = 1 ∨ y.ctxState x = 4
        y.setCtx x { c with clean := if starting then clean else 0,
                            toRun := starting && decide (y.rd (ent (0x3000 + x) 0x0C) ≤ clean) }

/-- The frame completes once every group has ended or the frame was cut (R263). -/
def Sys.checkComplete (y : Sys) (x n : Nat) : Sys :=
  match y.frame? x n with
  | some f => if f.groups.all (·.ended) then y.completeFrame x n else y
  | none => y

/-- One group's record within a frame changed. -/
def Frame.onGroup (f : Frame) (g : Nat) (h : FrameGroup → FrameGroup) : Frame :=
  { f with groups := f.groups.map fun fg => if fg.group == g then h fg else fg }

/-- The frame that group g is receiving: the newest frame of its context, where the group has started and not ended. -/
def Sys.openFrame (y : Sys) (g : Nat) : Option (Frame × FrameGroup) :=
  match y.owner g with
  | none => none
  | some x =>
    match y.newest? x with
    | none => none
    | some f => (f.groups.find? fun fg => fg.group == g && fg.started && !fg.ended).map fun fg => (f, fg)

/-- The context that takes the packets of a group's lanes: one that is not DISABLED and has source SLP (R268, R284). -/
def Sys.lanesOf (y : Sys) (g : Nat) : Option Nat :=
  (y.owner g).filter fun x => y.ctxState x != 0 && y.rd (ent (0x3000 + x) 2) == 0

/-- A group whose lock was lost has its lanes and their alignment back (R274). -/
def Sys.groupBack (y : Sys) (g : Nat) : Bool :=
  (y.enabledMates (6 * g)).all (fun n => y.laneIs n .active) && y.rd (ent (0x3018 + g) 3) != 2

/-- Failed checks of a packet are counted against each lane that failed (R258). -/
def Sys.countCrc (y : Sys) (g bad : Nat) : Sys :=
  if bad = 0 then y
  else
    let k := ent (0x3018 + g) 5
    y.wrB k ((List.range 6).foldl (fun b i => if bad.testBit i then poke b (4 * i) (le 4 (rdLe b (4 * i) 4 + 1)) else b) (slice (y.rdB k) 0 24))

/-- A stray packet (R264), with its reason. -/
def Sys.stray (y : Sys) (g reason : Nat) : Sys :=
  match y.owner g with
  | none => y
  | some x =>
    let y := y.inc (ent (0x3010 + x) 0x0B)
    y.raiseLimited g 0x080B x (ev [(0, 1, x), (1, 1, g), (2, 1, reason)])

/-! ## Loss of lock (R274) -/

/-- LANE_DOWN or a deskew failure reaches a group. Where the group has accepted no line of the frame, event 0x0804 names line 0: R286 gives none (DESIGN
CHOICE, log entry 62). -/
def Sys.groupLost (y : Sys) (g : Nat) : Sys :=
  let y := y.setIg g { y.ig g with resync := true }
  match y.owner g with
  | none => y
  | some x =>
    let state := y.ctxState x
    let y := match y.openFrame g with
      | none => y
      | some (f, fg) =>
        let y := y.onFrame x f.num fun f => (f.mark 3).onGroup g fun h => { h with ended := true }
        let y := y.raiseLimited g 0x0804 x
          (ev [(0, 1, x), (1, 1, g), (2, 1, state), (4, 4, f.num), (8, 2, fg.last.getD 0)])
        let out := f.outstanding fg
        let y := if state = 2 then y.substituteAll x f.num fg out
          else match out.head? with | some l => y.truncate x f.num l | none => y
        y.checkComplete x f.num
    if state = 2 then Sys.setCtxState (y.setCtx x { y.ctx x with clean := 0, toRun := false }) x 4 else y

/-- The same from a group's own lanes: those of a context with source FELLEY are unused, and its link's rules stand in their place (R284). -/
def Sys.lanesLost (y : Sys) (g : Nat) : Sys := if (y.owner g).any fun x => y.rd (ent (0x3000 + x) 2) == 1 then y else y.groupLost g

/-- The frame timeout, or the next latch point, comes first: outstanding lines are lost and the frame is LATE (R263). -/
def Sys.timeoutFrame (y : Sys) (f : Frame) : Sys :=
  if f.complete then y
  else
    let lost := (f.groups.map fun fg => (f.outstanding fg).length).sum
    let y := f.groups.foldl (fun y fg => if fg.ended then y else y.substituteAll f.ctx f.num fg (f.outstanding fg)) y
    let y := y.onFrame f.ctx f.num fun h => { h.mark 5 with groups := h.groups.map fun fg => { fg with ended := true } }
    let y := y.incCtx f.ctx 8
    let y := y.raise 0x0808 f.ctx (ev [(0, 1, f.ctx), (4, 4, f.num), (8, 4, lost)])
    y.completeFrame f.ctx f.num

/-! ## Modes (R268) -/

/-- A context leaves DISABLED: its exposure history and black levels start anew, and it takes the groups of its shadow set (R260). -/
def Sys.enableCtx (y : Sys) (x : Nat) : Sys :=
  Sys.takeGroups (y.setCtx x { y.ctx x with expo := [], firstExpo := none, black := [], prevBlack := none }) x (y.shadow (ent (0x3000 + x) 3))

/-- A Mode commit: DISABLED, STARTUP or TEST is entered, and a disabled context takes its groups (R260, R268). -/
def Sys.setCtxMode (y : Sys) (x : Nat) (m : CtxMode) : Sys :=
  let code := match m with | .disabled => 0 | .run => 1 | .test => 2
  let was := y.ctxState x
  let y := y.wr (ent (0x3000 + x) 1) code
  let y := y.setCtx x { y.ctx x with clean := 0, toRun := false }
  match m with
  | .disabled => y.setCtxState x 0
  | .run => Sys.setCtxState (if was = 0 then y.enableCtx x else y) x 1
  | .test => Sys.setCtxState (if was = 0 then y.enableCtx x else y) x 3

/-! ## Sensor control ports (R277 to R283) -/

/-- A list or a transaction is on the wire. -/
def SensorPort.busy (p : SensorPort) : Bool := p.hostOnWire || p.lists.any (·.started)

/-- The mode in force: one written while the wire is busy comes after (R285). -/
def Sys.portMode (y : Sys) (n : Nat) : Nat := (y.port n).mode.getD (y.rd (ent (0x3028 + n) 1))

/-- State of a port (0x3028 + n:09). -/
def Sys.portState (y : Sys) (n : Nat) : Sys :=
  let p := y.port n
  let y := if p.busy then y else y.setPort n { p with mode := none }
  let st := if y.portMode n = 0 then 4 else if y.isShadow then 3
    else if p.hostOnWire then 2 else if p.lists.any (·.started) then 1 else 0
  y.wr (ent (0x3028 + n) 9) st

/-- Something goes out on the port's balls: nothing on SHADOW, whose ports float (R282), in Standby (R652), nor
under a strap fault (R83). -/
def Sys.portSend (y : Sys) (n : Nat) (body : Bytes) : Sys := if y.isShadow || y.boot.strapFault || y.rd (ent 0x2700 1) == 2 then y else y.send (.sensor n body)

/-- A new mode is written, where `old` was: it waits for the end of what is on the wire (R285). -/
def Sys.portModeWritten (y : Sys) (n old : Nat) : Sys :=
  let p := y.port n
  (if p.busy && p.mode.isNone then y.setPort n { p with mode := some old } else y).portState n

/-- A waiting host transaction goes on the wire once no list is due or being sent (R280). -/
def Sys.portNext (y : Sys) (n : Nat) : Sys :=
  let p := y.port n
  match p.host with
  | some h =>
    if !(p.lists.any fun l => l.started || decide (l.due ≤ y.up)) && !p.hostOnWire then Sys.portState (Sys.portSend (y.setPort n { p with hostOnWire := true }) n h) n
    else y.portState n
  | none => y.portState n

/-- The exposure settings of frame `num` of context x are marked EXPOSURE_LATE (R280, R281). -/
def Sys.exposureLate (y : Sys) (x num : Nat) : Sys :=
  let c := y.ctx x
  y.setCtx x { c with expo := c.expo.map fun e => if e.num == num then { e with late := true } else e }

/-- A host transaction's layout (R283). The rule does not say what a data length that differs from the octets that follow, or a device address above 127,
does: such a request is taken (DESIGN CHOICE, log entry 62). -/
def transactionOk (req : Bytes) : Bool :=
  6 ≤ req.length && req.length ≤ 70 && (rdLe req 0 1 == 1 || rdLe req 0 1 == 2) && rdLe req 2 1 ≤ 2 &&
  1 ≤ rdLe req 5 1 && rdLe req 5 1 ≤ 64

/-- A host transaction is queued, or refused: STATE on SHADOW (R282), BUSY while a result is PENDING (R283). On a port that is OFF the answer is STATE, of
which the rules say nothing (DESIGN CHOICE, log entry 62). -/
def Sys.hostTransaction (y : Sys) (n : Nat) (req : Bytes) : Status × Sys :=
  if !transactionOk req then (.range, y)
  else if y.isShadow || y.portMode n == 0 then (.state, y)
  else if (y.port n).host.isSome then (.busy, y)
  else
    let y := y.setPort n { y.port n with host := some req }
    (.ok, Sys.portNext (y.wrB (ent (0x3028 + n) 7) [3, 0]) n)

end Sys2Proof.Machine
end

