-- ==== Sys2Proof/Machine/Develop.lean ====
section
/-!
DEFINITION. Sys2Proof/Machine/Develop.lean: what the raw front end computes (R296 to R311): from the packed codes of a frame's lines
to camera-native RGB in H24. Every operation is FP32, rounded once, in the order written; a mean or a bilinear interpolation is
computed exactly and rounded once (log entry 23). Coordinates are those of the frame.
-/

namespace Sys2Proof.Machine

/-! ## Arithmetic (R311)

No stage produces an infinity or a NaN: a result beyond the range of FP32 is its largest finite value of that sign (DESIGN CHOICE, log entry 23). -/

def sfin (v : W32) : W32 := if v = inf32 false then 0x7F7FFFFF else if v = inf32 true then 0xFF7FFFFF else v
def sadd (a b : W32) : W32 := sfin (fadd a b)
def ssub (a b : W32) : W32 := sfin (fsub a b)
def smul (a b : W32) : W32 := sfin (fmul a b)
/-- A quotient; 0 of 0 over 0. -/
def sdiv (a b : W32) : W32 := if fpEq (fpOf a) (fpOf 0) && fpEq (fpOf b) (fpOf 0) then 0 else sfin (fdiv a b)

/-! ## Codes -/

/-- The octets of line l of a frame: received, substituted, or sent by an array neighbour (R427). -/
def Frame.lineData (f : Frame) (l : Nat) : Bytes :=
  match f.lines.find? (·.num == l) with
  | some d => d.data
  | none => (f.halo.lookup l).getD []

/-- Pixel i of a packed line of depth d (R257). -/
def codeAt (b : Bytes) (d i : Nat) : Nat := rdLe b (i * d / 8) 4 / 2 ^ (i * d % 8) % 2 ^ d

/-- F32 number k of an octet string. -/
def f32At (b : Bytes) (k : Nat) : W32 := BitVec.ofNat 32 (rdLe b (4 * k) 4)

/-- A small integer as FP32. -/
def fNat (n : Nat) : W32 := round32 false n 0

/-- Linearised value of a code (R298): the interpolation is exact and rounded once. -/
def Gen.linear (g : Gen) (x c : Nat) : W32 :=
  let d := g.depth x
  if g.rd (ent (0x3410 + x) 1) = 1 then
    let t := g.rdB (ent (0x3410 + x) 2)
    let i := c * 1024 / 2 ^ d
    let a := f32At t i
    roundRat (ratOf a + mkRat (c * 1024 % 2 ^ d) (2 ^ d) * (ratOf (f32At t (i + 1)) - ratOf a))
  else roundQuot false c (2 ^ d - 1)

/-- Linearised value at a frame position. -/
def Frame.lin (f : Frame) (col line : Nat) : W32 := f.gen.linear f.ctx (codeAt (f.lineData line) (f.gen.depth f.ctx) col)

/-! ## Colour filter (R308) -/

/-- CFA channel at a frame position. -/
def Gen.cfa (g : Gen) (x col line : Nat) : Nat :=
  let p := g.rd (ent (0x3400 + x) 2)
  let bayer (c l : Nat) : Nat := (c + p % 2) % 2 + 2 * ((l + p / 2) % 2)
  match g.rd (ent (0x3400 + x) 1) with
  | 0 => 0
  | 1 => bayer (col % 2) (line % 2)
  | 2 => bayer (col / 2 % 2) (line / 2 % 2)
  | _ =>
    let tile := [3, 0, 3, 1, 0, 3, 1, 3, 3, 1, 3, 2, 1, 3, 2, 3]
    tile.getD (4 * (line % 4) + (col + p) % 4) 3

/-- Channels of the pattern. -/
def Gen.channels (g : Gen) (x : Nat) : Nat := if g.rd (ent (0x3400 + x) 1) = 0 then 1 else 4

/-- R296 along one axis: the position inside lo .. lo + len - 1 that is nearest to i and has its phase. -/
def clampPhase (lo len period : Nat) (i : Int) : Nat :=
  let hi : Int := lo + len - 1
  if i < lo then lo + ((i - lo) % (period : Int)).toNat
  else if hi < i then (hi - ((hi - i) % (period : Int))).toNat
  else i.toNat

/-- Frame column and line that a stage reads for (i, j). -/
def Gen.inCol (g : Gen) (x : Nat) (i : Int) : Nat := clampPhase (g.winLeft x) (g.winWidth x) (g.cfaH x) i
def Gen.inLine (g : Gen) (x : Nat) (j : Int) : Nat := clampPhase (g.winTop x) (g.winHeight x) (g.cfaV x) j

/-! ## Static defects (R302, R303) -/

/-- Entries of a defect list: kind, column, line. -/
def defectList (b : Bytes) : List (Nat × Nat × Nat) :=
  (List.range (b.length / 4)).map fun i =>
    let v := rdLe b (4 * i) 4
    (v / 2 ^ 30, v % 2 ^ 15, v / 2 ^ 15 % 2 ^ 15)

/-- How the static list names a position, if it does: 0 PIXEL, 1 COLUMN, 2 ROW. -/
def Gen.inList (g : Gen) (x col line : Nat) : Option Nat :=
  ((defectList g.cal.defects).find? fun e =>
    match e.1 with
    | 0 => e.2.1 == col && e.2.2 == line
    | 1 => e.2.1 == col && decide (e.2.2 ≤ line) && decide (line < g.winTop x + g.winHeight x)
    | _ => e.2.2 == line && decide (e.2.1 ≤ col) && decide (col < g.winLeft x + g.winWidth x)).map (·.1)

/-- The same for the correction of defects, which 0x3420 + x:01 turns off. -/
def Gen.listed (g : Gen) (x col line : Nat) : Option Nat := if g.rd (ent (0x3420 + x) 1) = 0 then none else g.inList x col line

/-! ## Black level (R299, R300) -/

/-- A position is optical black: in the top rows, or in any region. -/
def Gen.obTop (g : Gen) (x line : Nat) : Bool := decide (line < g.rd (ent (0x3410 + x) 6))
def Gen.obAny (g : Gen) (x col line : Nat) : Bool :=
  g.obTop x line || decide (g.height x - g.rd (ent (0x3410 + x) 7) ≤ line) || decide (col < g.rd (ent (0x3410 + x) 8)) ||
  decide (g.width x - g.rd (ent (0x3410 + x) 9) ≤ col)

/-- Values of channel k over the positions that `want` selects, listed defects left out, on the lines the frame holds. -/
def Frame.obValues (f : Frame) (want : Nat → Nat → Bool) (k : Nat) : List W32 :=
  (f.lines.map (·.num)).flatMap fun l =>
    ((List.range (f.gen.width f.ctx)).filter fun c =>
      want c l && f.gen.cfa f.ctx c l == k && (f.gen.inList f.ctx c l).isNone).map fun c => f.lin c l

/-- A measurement of channel k: none where the frame delivered no optical-black pixel of it. -/
def Frame.measure (f : Frame) (top : Bool) (k : Nat) : Option W32 :=
  let l := f.obValues (fun c l => if top then f.gen.obTop f.ctx l else f.gen.obAny f.ctx c l) k
  if l.isEmpty then none else some (fmean l)

/-- Fixed black of channel k. -/
def Gen.fixedBlack (g : Gen) (x k : Nat) : W32 := f32At (g.rdB (ent (0x3410 + x) 4)) k

/-- The measurement is accepted: within 0 and the black limit (R300). -/
def Gen.blackOk (g : Gen) (x : Nat) (m : W32) : Bool :=
  decide (0 ≤ ratOf m) && decide (ratOf m ≤ ratOf (BitVec.ofNat 32 (g.rd (ent (0x3420 + x) 0x0A))))

/-- Mean of the line's optical-black column pixels of channel k, if it has any (R299). -/
def Frame.lineOb (f : Frame) (k line : Nat) : Option W32 :=
  let g := f.gen
  let l := ((List.range (g.width f.ctx)).filter fun c =>
    (decide (c < g.rd (ent (0x3410 + f.ctx) 8)) || decide (g.width f.ctx - g.rd (ent (0x3410 + f.ctx) 9) ≤ c)) &&
    g.cfa f.ctx c line == k && (g.inList f.ctx c line).isNone).map fun c => f.lin c line
  if l.isEmpty then none else some (fmean l)

/-- The filtered line offset of TOP_ROWS_LINE after the lines of one row phase, from the window's top (R299). -/
def Frame.lineOffset (f : Frame) (k line : Nat) : W32 :=
  let g := f.gen
  if g.rd (ent (0x3410 + f.ctx) 3) = 2 then
    let lines := (List.range (line + 1)).filter fun l => decide (g.winTop f.ctx ≤ l) && l % g.cfaV f.ctx == line % g.cfaV f.ctx
    lines.foldl (fun a l =>
      match f.lineOb k l with
      | none => a
      | some m =>
        let o := ssub m ((f.black.getD []).getD k 0)
        sadd a (sdiv (ssub o a) (fNat (2 ^ g.rd (ent (0x3410 + f.ctx) 0x0A))))) 0
  else 0

/-- u of a pixel: after black correction, normalised (R301). -/
def Frame.u (f : Frame) (col line : Nat) : W32 :=
  let k := f.gen.cfa f.ctx col line
  let b := (f.black.getD []).getD k 0
  let w := BitVec.ofNat 32 (f.gen.rd (ent (0x3410 + f.ctx) 5))
  sdiv (ssub (ssub (f.lin col line) b) (f.lineOffset k line)) (ssub w b)

/-- u where a stage reads (i, j), the window's edge extended by phase (R296). -/
def Frame.uAt (f : Frame) (i j : Int) : W32 := f.u (f.gen.inCol f.ctx i) (f.gen.inLine f.ctx j)

/-! ## Defect correction (R303, R304) -/

/-- The nearest same-colour pixel in a direction, within the CFA's vertical period, that is not listed. -/
def Frame.near (f : Frame) (i j : Int) (dx dy : Int) : Option W32 :=
  let g := f.gen
  let k := g.cfa f.ctx i.toNat j.toNat
  ((List.range (g.cfaV f.ctx)).map (· + 1)).findSome? fun d : Nat =>
    let c := g.inCol f.ctx (i + dx * d)
    let l := g.inLine f.ctx (j + dy * d)
    if g.cfa f.ctx c l = k ∧ (g.listed f.ctx c l).isNone then some (f.u c l) else none

/-- FP order as integers, for median and extremes of finite values. -/
def fLess (a b : W32) : Bool := decide (ratOf a < ratOf b)

/-- Values in rising order. -/
def fSort (l : List W32) : List W32 :=
  l.foldl (fun s v => (s.takeWhile fun a => !fLess v a) ++ [v] ++ (s.dropWhile fun a => !fLess v a)) []

/-- The median; the mean of the two middle values when their number is even. -/
def fMedian (l : List W32) : W32 :=
  let s := fSort l
  let n := s.length
  if n % 2 = 1 then s.getD (n / 2) 0 else fmean [s.getD (n / 2 - 1) 0, s.getD (n / 2) 0]

/-- The eight directions. -/
def dirs8 : List (Int × Int) := [(-1, 0), (1, 0), (0, -1), (0, 1), (-1, -1), (1, -1), (-1, 1), (1, 1)]

/-- A pixel is dynamically defective, with the value it takes (R304). -/
def Frame.dynamic (f : Frame) (col line : Nat) : Option W32 :=
  let g := f.gen
  let mode := g.rd (ent (0x3420 + f.ctx) 2)
  if mode = 0 ∨ (g.listed f.ctx col line).isSome then none
  else
    let nb := dirs8.filterMap fun d => f.near col line d.1 d.2
    let t := ratOf (BitVec.ofNat 32 (g.rd (ent (0x3420 + f.ctx) 3)))
    let v := ratOf (f.u col line)
    let s := fSort nb
    if nb.isEmpty then none
    else if ratOf (s.getLast?.getD 0) + t < v then some (fMedian nb)
    else if mode = 2 ∧ v < ratOf (s.headD 0) - t then some (fMedian nb)
    else none

/-- u after defect correction. -/
def Frame.fixed (f : Frame) (col line : Nat) : W32 :=
  let own := f.u col line
  let from_ (ds : List (Int × Int)) : W32 :=
    let nb := ds.filterMap fun d => f.near col line d.1 d.2
    if nb.isEmpty then own else fmean nb
  match f.gen.listed f.ctx col line with
  | some 0 => from_ [(-1, 0), (1, 0), (0, -1), (0, 1)]
  | some 1 => from_ [(-1, 0), (1, 0)]
  | some _ => from_ [(0, -1), (0, 1)]
  | none => (f.dynamic col line).getD own

/-! ## Shading, white balance and highlights (R305 to R307) -/

/-- Gain of a grid for a channel at a window position: bilinear over its knots, exact and rounded once (R305). -/
def gridGain (b : Bytes) (k col line w h : Nat) : W32 :=
  let gx := rdLe b 0 2
  let gy := rdLe b 2 2
  let c := if rdLe b 4 1 = 1 then 0 else k
  let knot (i j : Nat) : Rat := mkRat (rdLe b (8 + 2 * ((c * gy + min j (gy - 1)) * gx + min i (gx - 1))) 2) 4096
  let px : Rat := if w ≤ 1 then 0 else mkRat (col * (gx - 1)) (w - 1)
  let py : Rat := if h ≤ 1 then 0 else mkRat (line * (gy - 1)) (h - 1)
  let i := px.floor.toNat
  let j := py.floor.toNat
  let fx := px - (i : Rat)
  let fy := py - (j : Rat)
  let top := knot i j + fx * (knot (i + 1) j - knot i j)
  let bot := knot i (j + 1) + fx * (knot (i + 1) (j + 1) - knot i (j + 1))
  roundRat (top + fy * (bot - top))

/-- The live shading gain of channel k at a frame position (R305); 1 with shading off or without grids. -/
def Frame.shade (f : Frame) (k col line : Nat) : W32 :=
  let g := f.gen
  let x := f.ctx
  if g.rd (ent (0x3420 + x) 5) = 0 then one32
  else
    let at_ (sub : Nat) : Option W32 :=
      let b := g.cal.grids.getD (g.rd (ent (0x3420 + x) sub)) []
      if b.isEmpty then none else some (gridGain b k (col - g.winLeft x) (line - g.winTop x) (g.winWidth x) (g.winHeight x))
    match at_ 6, at_ 7 with
    | some a, some b => sadd a (smul (ssub b a) (roundQuot false (g.rd (ent (0x3420 + x) 8)) 4096))
    | some a, none => a
    | none, _ => one32

/-- White-balance gain of channel k (R306). -/
def Gen.wb (g : Gen) (x k : Nat) : W32 := f32At (g.rdB (ent (0x3420 + x) 9)) k

/-- Clip level of channel k at the shading gain of a pixel: t × g × G (R307). -/
def Frame.clipLevel (f : Frame) (k col line : Nat) : W32 :=
  smul (smul (BitVec.ofNat 32 (f.gen.rd (ent (0x3410 + f.ctx) 0x0B))) (f.shade (f.gen.cfa f.ctx col line) col line)) (f.gen.wb f.ctx k)

/-- The pixel is clipped: its u is at or above the threshold (R307). -/
def Frame.clipped (f : Frame) (col line : Nat) : Bool :=
  decide (ratOf (BitVec.ofNat 32 (f.gen.rd (ent (0x3410 + f.ctx) 0x0B))) ≤ ratOf (f.fixed col line))

/-- Value after shading and white balance (R306). -/
def Frame.balanced (f : Frame) (col line : Nat) : W32 :=
  let k := f.gen.cfa f.ctx col line
  smul (smul (f.fixed col line) (f.shade k col line)) (f.gen.wb f.ctx k)

/-- The least clip level over the pattern's channels at a position. -/
def Frame.clipFloor (f : Frame) (col line : Nat) : W32 :=
  (fSort ((List.range (f.gen.channels f.ctx)).map fun k => f.clipLevel k col line)).headD 0

/-- Value after highlight reconstruction (R307), and whether it was reconstructed. -/
def Frame.highlight (f : Frame) (col line : Nat) : W32 × Bool :=
  let g := f.gen
  let x := f.ctx
  let v := f.balanced col line
  match g.rd (ent (0x3430 + x) 1) with
  | 0 => (v, false)
  | 1 => (fmin v (f.clipFloor col line), false)
  | _ =>
    if !f.clipped col line then (v, false)
    else
      let k := g.cfa x col line
      let nb := dirs8.filterMap fun d =>
        let c := g.inCol x ((col : Int) + d.1)
        let l := g.inLine x ((line : Int) + d.2)
        if g.cfa x c l ≠ k ∧ !f.clipped c l then some (f.balanced c l) else none
      if nb.isEmpty then (f.clipFloor col line, true) else (fmax (f.clipLevel k col line) (fmean nb), true)

/-! ## Demosaic (R308, R309) -/

/-- A colour triple in FP32. -/
structure Rgb where
  r : W32
  g : W32
  b : W32
  deriving DecidableEq, Repr

/-- Half and a quarter of a value, exact. -/
def fHalf (a : W32) : W32 := smul a 0x3F000000
def fQuarter (a : W32) : W32 := smul a 0x3E800000

/-- The mosaic a demosaic reads: the value and colour (0 R, 1 G, 2 B) at a position, edges extended. For QUAD this is the BAYER
arrangement of the same phase: a pixel whose colour must change takes the mean of the nearest pixels of the needed colour along
the axis on which they differ less, horizontally on a tie; where its row and column hold none, along the diagonal on which they differ less (DEDUCED, log
entry 23). -/
def Frame.mosaic (f : Frame) (i j : Int) : W32 × Nat :=
  let g := f.gen
  let x := f.ctx
  let c := g.inCol x i
  let l := g.inLine x j
  let v (c l : Nat) : W32 := (f.highlight c l).1
  let colour (k : Nat) : Nat := if k = 0 then 0 else if k = 3 then 2 else 1
  if g.rd (ent (0x3400 + x) 1) = 2 then
    let p := g.rd (ent (0x3400 + x) 2)
    let want := colour ((c + p % 2) % 2 + 2 * ((l + p / 2) % 2))
    if colour (g.cfa x c l) = want then (v c l, want)
    else
      let find (dx dy : Int) : Option W32 :=
        [1, 2, 3, 4].findSome? fun d : Nat =>
          let cc := g.inCol x ((c : Int) + dx * d)
          let ll := g.inLine x ((l : Int) + dy * d)
          if colour (g.cfa x cc ll) = want then some (v cc ll) else none
      let pair (a b : Option W32) : Option (W32 × W32) :=
        match a, b with
        | some a, some b => some (fmean [a, b], fabs (ssub a b))
        | some a, none => some (a, inf32 false)
        | none, some b => some (b, inf32 false)
        | none, none => none
      let along (a b : Option (W32 × W32)) : Option W32 :=
        match a, b with
        | some h, some w => some (if fpLt (fpOf w.2) (fpOf h.2) then w.1 else h.1)
        | some h, none => some h.1
        | none, some w => some w.1
        | none, none => none
      let straight := along (pair (find (-1) 0) (find 1 0)) (pair (find 0 (-1)) (find 0 1))
      let diagonal := along (pair (find (-1) (-1)) (find 1 1)) (pair (find 1 (-1)) (find (-1) 1))
      ((straight <|> diagonal).getD (v c l), want)
  else (v c l, colour (g.cfa x c l))

/-- Green at an R or B site (R309). -/
def Frame.greenAt (f : Frame) (i j : Int) : W32 :=
  let m (di dj : Int) : W32 := (f.mosaic (i + di) (j + dj)).1
  if (f.mosaic i j).2 = 1 then m 0 0
  else
    let kh := ssub (ssub (sadd (m 0 0) (m 0 0)) (m (-2) 0)) (m 2 0)
    let kv := ssub (ssub (sadd (m 0 0) (m 0 0)) (m 0 (-2))) (m 0 2)
    let dh := sadd (fabs (ssub (m (-1) 0) (m 1 0))) (fabs kh)
    let dv := sadd (fabs (ssub (m 0 (-1)) (m 0 1))) (fabs kv)
    let gh := sadd (fHalf (sadd (m (-1) 0) (m 1 0))) (fQuarter kh)
    let gv := sadd (fHalf (sadd (m 0 (-1)) (m 0 1))) (fQuarter kv)
    let t := smul (sadd dh dv) 0x3D800000
    if fpLt (fpOf dh) (fpOf (ssub dv t)) then gh
    else if fpLt (fpOf dv) (fpOf (ssub dh t)) then gv
    else fHalf (sadd gh gv)

/-- Red (0) or blue (2) at a site: its own value, or G plus the mean of c - G over the nearest sites of that colour (R309). -/
def Frame.colourAt (f : Frame) (i j : Int) (k : Nat) : W32 :=
  if (f.mosaic i j).2 = k then (f.mosaic i j).1
  else
    let sites := [(-1, 0), (1, 0), (0, -1), (0, 1), (-1, -1), (1, -1), (-1, 1), (1, 1)].filter fun d : Int × Int =>
      (f.mosaic (i + d.1) (j + d.2)).2 == k
    sadd (f.greenAt i j) (fmean (sites.map fun d => ssub (f.mosaic (i + d.1) (j + d.2)).1 (f.greenAt (i + d.1) (j + d.2))))

/-- White at an RGBW site, taken as green is at a BAYER site; the second differences are left out because the sites two away
carry another colour, so that a uniform field would not come out exactly, and those of the site's own colour lie four away, beyond the radius of R295
(DEDUCED, log entry 23). -/
def Frame.whiteAt (f : Frame) (i j : Int) : W32 :=
  let g := f.gen
  let x := f.ctx
  let v (a b : Int) : W32 := (f.highlight (g.inCol x a) (g.inLine x b)).1
  if g.cfa x (g.inCol x i) (g.inLine x j) = 3 then v i j
  else
    let dh := fabs (ssub (v (i - 1) j) (v (i + 1) j))
    let dv := fabs (ssub (v i (j - 1)) (v i (j + 1)))
    let gh := fHalf (sadd (v (i - 1) j) (v (i + 1) j))
    let gv := fHalf (sadd (v i (j - 1)) (v i (j + 1)))
    let t := smul (sadd dh dv) 0x3D800000
    if fpLt (fpOf dh) (fpOf (ssub dv t)) then gh
    else if fpLt (fpOf dv) (fpOf (ssub dh t)) then gv
    else fHalf (sadd gh gv)

/-- A pattern of an infinity or a NaN read as a finite one; any other as it is. -/
def madeFinite (v : W32) : W32 := if v &&& 0x7F800000 = 0x7F800000 then v &&& 0xFF7FFFFF else v

/-- A ratio to W; a free finite one where W is 0 (log entry 23). -/
def ratioOf (c w : W32) : W32 := if fpEq (fpOf w) (fpOf 0) then madeFinite (Config.whiteRatio c) else sdiv c w

/-- W × the mean ratio of a colour to W over the nearest sites of that colour (R309). -/
def Frame.ratioAt (f : Frame) (i j : Int) (k : Nat) : W32 :=
  let g := f.gen
  let x := f.ctx
  let ring (r : Int) : List (Int × Int) :=
    ((List.range 7).flatMap fun a : Nat => (List.range 7).map fun b : Nat => ((a : Int) - 3, (b : Int) - 3)).filter fun d =>
      max d.1.natAbs d.2.natAbs == r.toNat && g.cfa x (g.inCol x (i + d.1)) (g.inLine x (j + d.2)) == k
  let sites := ([0, 1, 2, 3].find? fun r : Int => !(ring r).isEmpty).map ring |>.getD []
  smul (f.whiteAt i j) (fmean (sites.map fun d =>
    ratioOf (f.highlight (g.inCol x (i + d.1)) (g.inLine x (j + d.2))).1 (f.whiteAt (i + d.1) (j + d.2))))

/-- Camera-native RGB after demosaic (R309). -/
def Frame.demosaic (f : Frame) (i j : Int) : Rgb :=
  let g := f.gen
  let x := f.ctx
  let i : Int := g.inCol x i
  let j : Int := g.inLine x j
  match g.rd (ent (0x3400 + x) 1) with
  | 0 => let v := (f.highlight i.toNat j.toNat).1; ⟨v, v, v⟩
  | 3 => ⟨f.ratioAt i j 0, f.ratioAt i j 1, f.ratioAt i j 2⟩
  | _ => ⟨f.colourAt i j 0, f.greenAt i j, f.colourAt i j 2⟩

/-! ## Noise reduction (R310) -/

/-- Luma of a triple. -/
def Rgb.y (p : Rgb) : W32 := fQuarter (sadd (sadd p.r (sadd p.g p.g)) p.b)

/-- exp of a value not above 0: 2^(v log2 e), with a free error of less than 2^-10 of it. -/
def nearExp (v : W32) : W32 :=
  let e := fexp2 (smul v 0x3FB8AA3B)
  smul e (roundQuot false (65536 - 60 + (Config.expPick v) % 121) 65536)

/-- Offsets of an n × n window. -/
def window (n : Nat) : List (Int × Int) :=
  (List.range n).flatMap fun b : Nat => (List.range n).map fun a : Nat => ((a : Int) - (n / 2 : Nat), (b : Int) - (n / 2 : Nat))

/-- The weighted mean of one component over the window. -/
def Frame.filtered (f : Frame) (i j : Int) (n : Nat) (strength : W32) (part : Rgb → W32) : W32 :=
  let g := f.gen
  let p := f.demosaic i j
  if fpEq (fpOf strength) (fpOf 0) then part p
  else
    let a := BitVec.ofNat 32 (g.rd (ent (0x3430 + f.ctx) 3))
    let b := BitVec.ofNat 32 (g.rd (ent (0x3430 + f.ctx) 4))
    let s2 := sadd (smul a (fmax p.y 0)) b
    let den := smul (smul 0x40000000 (smul strength strength)) s2
    let w (q : Rgb) : W32 :=
      let d := ssub q.y p.y
      nearExp (fneg (sdiv (smul d d) den))
    let sums := (window n).foldl (fun acc o =>
      let q := f.demosaic (i + o.1) (j + o.2)
      let wq := w q
      (sadd acc.1 (smul wq (part q)), sadd acc.2 wq)) ((0 : W32), (0 : W32))
    sdiv sums.1 sums.2

/-- RGB after noise reduction. -/
def Frame.denoised (f : Frame) (i j : Int) : Rgb :=
  let g := f.gen
  let m := g.rd (ent (0x3430 + f.ctx) 2)
  if m = 0 then f.demosaic i j
  else
    let n := 2 * m + 1
    let kl := BitVec.ofNat 32 (g.rd (ent (0x3430 + f.ctx) 5))
    let kc := BitVec.ofNat 32 (g.rd (ent (0x3430 + f.ctx) 6))
    let yv := f.filtered i j n kl Rgb.y
    let cr := f.filtered i j n kc fun p => ssub p.r p.g
    let cb := f.filtered i j n kc fun p => ssub p.b p.g
    let gg := ssub yv (fQuarter (sadd cr cb))
    ⟨sadd cr gg, gg, sadd cb gg⟩

/-! ## Output (R311) -/

/-- FP32 to H24: the mantissa to 15 bits, ties to even; tiny becomes a zero, too large the largest finite value. -/
def toH24 (w : W32) : BitVec 24 :=
  let n := w.toNat
  let r := shrRne (n % 2 ^ 31) 8
  let m := if r < 0x008000 then 0 else min r 0x7F7FFF
  BitVec.ofNat 24 (n / 2 ^ 31 * 2 ^ 23 + m)

/-- The developed pixel of a window position in frame coordinates. -/
def Frame.pixel (f : Frame) (i j : Int) : Px :=
  let p := f.denoised i j
  ⟨toH24 p.r, toH24 p.g, toH24 p.b⟩

/-- H24 to FP32, exact (R353). -/
def ofH24 (h : BitVec 24) : W32 := BitVec.ofNat 32 (h.toNat * 256)

end Sys2Proof.Machine
end

