-- ==== Sys2Proof/Machine/Stats.lean ====
section
/-!
DEFINITION. Sys2Proof/Machine/Stats.lean: statistics records (R320 to R326): histograms, zones, counts, the record's octets, its
issue to a slot, and the merged record of an array.
-/

namespace Sys2Proof.Machine

/-! ## Accumulators -/

/-- Histogram bin of a value (R321). -/
def histBin (v : W32) : Nat :=
  let r := ratOf v
  if r < mkRat 1 65536 then 0
  else if 1 ≤ r then 257
  else 1 + ((List.range 255).filter fun n => decide (mkRat 1 (2 ^ (255 - n)) ≤ r ^ 16)).length

/-- The frame positions covered: the window's pixels on the lines of stripes that have passed, up to a cut (R324). -/
def Frame.coveredLines (f : Frame) : List Nat :=
  let g := f.gen
  ((f.stripes.filter (·.passed)).flatMap fun s =>
    (List.range (g.stripeLines f.ctx s.k)).map fun i => g.winTop f.ctx + g.stripeTop f.ctx s.k + i).filter fun l =>
      f.cut.all fun c => decide (l < c)

/-- Columns of the window. -/
def Frame.columns (f : Frame) : List Nat := (List.range (f.gen.winWidth f.ctx)).map fun i => f.gen.winLeft f.ctx + i

/-- The covered positions. -/
def Frame.covered (f : Frame) : List (Nat × Nat) := f.coveredLines.flatMap fun l => f.columns.map fun c => (c, l)

/-- Bins of a list of values, as 258 U32. -/
def histogram (vals : List W32) : Bytes :=
  let bins := vals.map histBin
  (List.range 258).flatMap fun b => le 4 (bins.count b)

/-- FP16 nearest to a rational, ties to even, saturating (R322). -/
def roundRat16 (r : Rat) : Nat :=
  if r = 0 then 0
  else
    let n := r.num.natAbs
    let k := 40 + Nat.log2 r.den
    round16 (decide (r.num < 0)) (2 * (n * 2 ^ k / r.den) + (if n * 2 ^ k % r.den = 0 then 0 else 1)) (-(k : Int) - 1) 0x7BFF

/-- Zone of a window column or row: the j with floor(j n / z) ≤ i < floor((j + 1) n / z) (R322). -/
def zoneOf (n z i : Nat) : Nat := ((List.range z).find? fun j => decide (i < (j + 1) * n / z)).getD (z - 1)

/-- One zone entry (R322). -/
def Frame.zone (f : Frame) (zx zy : Nat) (pos : List (Nat × Nat)) : Bytes :=
  let g := f.gen
  let x := f.ctx
  let inside := pos.filter fun p =>
    zoneOf (g.winWidth x) (g.rd (ent (0x3400 + x) 0x0A)) (p.1 - g.winLeft x) == zx &&
    zoneOf (g.winHeight x) (g.rd (ent (0x3400 + x) 0x0B)) (p.2 - g.winTop x) == zy
  if inside.isEmpty then le 2 0x7E00 ++ le 2 0x7E00 ++ le 2 0x7E00 ++ le 2 0
  else
    let n := inside.length
    let mean (part : Rgb → W32) : Nat := roundRat16 ((inside.map fun p => ratOf (part (f.demosaic p.1 p.2))).sum / (n : Rat))
    let clip := (inside.filter fun p => f.clipped p.1 p.2).length
    le 2 (mean Rgb.r) ++ le 2 (mean Rgb.g) ++ le 2 (mean Rgb.b) ++ le 2 ((2 * clip * 65535 + n) / (2 * n))

/-- Coverage octet: PARTIAL, ARRAY_PART, STATS_ONLY (R323). -/
def Frame.coverage (f : Frame) : Nat :=
  (if f.cut.isSome || f.cutRaw then 1 else 0) + (if f.gen.role = 3 then 2 else 0) + (if f.statsOnly then 8 else 0)

/-- Dynamic defects, clipped and reconstructed pixels of the covered positions (R320). -/
def Frame.counts (f : Frame) : Nat × Nat × Nat :=
  let pos := f.covered
  ((pos.filter fun p => (f.dynamic p.1 p.2).isSome).length, (pos.filter fun p => f.clipped p.1 p.2).length,
   (pos.filter fun p => (f.highlight p.1 p.2).2).length)

/-- The statistics record of a frame (R323). -/
def Frame.statsRecord (f : Frame) : Bytes :=
  let g := f.gen
  let x := f.ctx
  let zx := g.rd (ent (0x3400 + x) 0x0A)
  let zy := g.rd (ent (0x3400 + x) 0x0B)
  let pos := f.covered
  let n := f.counts
  let raw (k : Nat) : Bytes :=
    if k < g.channels x then histogram ((pos.filter fun p => g.cfa x p.1 p.2 == k).map fun p => f.u p.1 p.2)
    else List.replicate 1032 0
  [0x50, 0x51, 0x58, 0x53] ++ le 1 1 ++ le 1 x ++ le 2 (5256 + 8 * zx * zy) ++ le 4 f.num ++ le 12 f.latch ++
  le 2 (if isSensor x then f.marks else 0) ++ le 1 f.coverage ++
  le 1 (g.rd (ent (0x3400 + x) 1) % 4 + 4 * (g.rd (ent (0x3400 + x) 2) % 4)) ++ le 2 f.coveredLines.length ++ le 1 zx ++ le 1 zy ++
  slice f.exposure 0 32 ++ (List.range 4).flatMap (fun k => le 4 ((f.black.getD []).getD k 0).toNat) ++
  le 4 n.1 ++ le 4 n.2.1 ++ le 4 n.2.2 ++ le 4 pos.length ++
  raw 0 ++ raw 1 ++ raw 2 ++ raw 3 ++ histogram (pos.map fun p => (f.denoised p.1 p.2).y) ++
  (List.range zy).flatMap (fun j => (List.range zx).flatMap fun i => f.zone i j pos)

/-! ## Issue (R325) -/

/-- A record takes the next sequence s and the slot 2 + s mod 16, and raises STATS_READY (R325). -/
def Sys.storeStats (y : Sys) (x : Nat) (rec : Bytes) : Sys :=
  let s := (y.rd (ent (0x3450 + x) 1) + 1) % 2 ^ 32
  let y := y.wr (ent (0x3450 + x) 1) s
  let y := y.wrB (ent (0x3450 + x) (2 + s % 16)) rec
  y.irqStats x

/-- Every stripe has passed a raw front end, or was cut (R324, R325). -/
def Frame.passed (f : Frame) : Bool := f.stripes.all fun s => s.passed || s.mode == .dropped

/-- The counts a passed frame leaves in 0x3440 (R304, R327). A frame that measures no black leaves 0x3440 + x:02 as it stands (log entry 23). -/
def Sys.rawStatus (y : Sys) (f : Frame) : Sys :=
  let b := 0x3440 + f.ctx
  let n := f.counts
  let four (l : List W32) : Bytes := (List.range 4).flatMap fun k => le 4 (l.getD k 0).toNat
  let y := (if f.measured.isEmpty then y else y.wrB (ent b 2) (four f.measured)).wrB (ent b 3) (four (f.black.getD []))
  let y := (y.inc64 (ent b 4) 1).wr (ent b 7) n.1
  (y.wr (ent b 8) n.2.1).wr (ent b 9) n.2.2

/-- A record issued more than 1 ms after its time is counted and reported (R325). -/
def Sys.statsLate (y : Sys) (x n delay : Nat) : Sys :=
  if 10 < delay then (y.inc (ent (0x3450 + x) 0x12)).raiseLimited x 0x0903 x (ev [(0, 1, x), (2, 2, delay), (4, 4, n)]) else y

/-- The oldest frame of a context whose record is due. -/
def Sys.statsDue (y : Sys) (x : Nat) : Option Frame :=
  match y.frames.find? fun f => f.ctx == x && !f.statsIssued with
  | some f => if f.passed || f.cutRaw then some f else none
  | none => none

/-- STATISTICS_RECORD_ISSUE (R325): the context's records leave in frame order; one later than 1 ms is counted and reported.
`delay` is in 0.1 ms from the frame's last stripe. With statistics off, the frame leaves none (R320). -/
def execStatisticsRecordIssue (ctx : Fin 16) (delay : BitVec 16) (s : State) : Host.Outcome State Fault Refusal :=
  onSys s fun _ y =>
    let x := ctx.val
    match y.statsDue x with
    | none => y
    | some f =>
      let y := y.onFrame x f.num fun f => { f with statsIssued := true }
      let y := if f.gen.usesRfe x then y.rawStatus f else y
      if f.gen.rd (ent (0x3400 + x) 9) = 0 || !f.gen.usesRfe x then y
      else
        let y := y.storeStats x f.statsRecord
        let y := if f.gen.role = 3 then y.controlAll .statsSum (le 4 f.num ++ f.statsRecord) else y
        y.statsLate x f.num delay.toNat

/-! ## The merged record (R326) -/

/-- Sum of U32 number `o` over records. -/
def sumAt (recs : List Bytes) (o : Nat) : Nat := (recs.map fun r => rdLe r o 4).sum

/-- FP16 pattern as a rational; NaN as 0. -/
def ratOf16 (h : Nat) : Rat := ratOf (cvtFH (BitVec.ofNat 32 h))

/-- One merged zone: means weighted by the pixels each member contributed. -/
def mergedZone (recs : List (Bytes × List Nat)) (z : Nat) : Bytes :=
  let total := (recs.map fun r => r.2.getD z 0).sum
  if total = 0 then le 2 0x7E00 ++ le 2 0x7E00 ++ le 2 0x7E00 ++ le 2 0
  else
    let o := 5256 + 8 * z
    let mean (c : Nat) : Nat :=
      roundRat16 ((recs.map fun r => if r.2.getD z 0 = 0 then 0 else ratOf16 (rdLe r.1 (o + c) 2) * (r.2.getD z 0 : Rat)).sum / (total : Rat))
    let clip := (recs.map fun r => rdLe r.1 (o + 6) 2 * r.2.getD z 0).sum
    le 2 (mean 0) ++ le 2 (mean 2) ++ le 2 (mean 4) ++ le 2 ((2 * clip + total) / (2 * total))

/-- The merged record: sums of histograms and counts, weighted zones, the head's header (R326). -/
def mergedRecord (head : Bytes) (recs : List (Bytes × List Nat)) : Bytes :=
  let rs := recs.map (·.1)
  let sums := (List.range ((5256 - 80) / 4)).flatMap fun i => le 4 (sumAt rs (80 + 4 * i))
  let lines := (rs.map fun r => rdLe r 28 2).sum
  let h := poke (poke (slice head 0 80) 26 (le 1 (4 + (rdLe head 26 1) % 2 + (rdLe head 26 1) / 8 % 2 * 8))) 28 (le 2 lines)
  h ++ sums ++ (List.range (rdLe head 30 1 * rdLe head 31 1)).flatMap (mergedZone recs)

/-- STATS_RECORD_MERGE (R326): on the array head, the members' sums of one frame, each with the pixels it contributed to every
zone, make one merged record. The first is the head's own. `delay` is in 0.1 ms from the last member's arrival; more than 1 ms is late (R325). -/
def execStatsRecordMerge (ctx : Fin 16) (members : List (Bytes × List Nat)) (delay : BitVec 16) (s : State) : Host.Outcome State Fault Refusal :=
  onSys s fun _ y =>
    match members with
    | [] => y
    | head :: _ =>
      if y.view.role = 3 ∧ y.rd (ent 0x4C01 6) = y.arrayPos then
        (y.storeStats ctx.val (mergedRecord head.1 members)).statsLate ctx.val (rdLe head.1 8 4) delay.toNat
      else y

end Sys2Proof.Machine
end

