-- ==== Sys2Proof/Machine/Pipeline.lean ====
section
/-!
DEFINITION. Sys2Proof/Machine/Pipeline.lean: stripes on their way through the raw front ends and the Troupes (chapters 10 and 13:
R57, R294, R299, R300, R304, R312 to R314, R359, R374, R408 to R428).
-/

namespace Sys2Proof.Machine

/-! ## Deadlines of a stripe (R417) -/

/-- The raw front-end deadline of stripe k. -/
def Sys.rfeDue (y : Sys) (f : Frame) (k : Nat) : Nat :=
  y.stripeDue f k - f.gen.period f.ctx * 2 ^ 32 / max 1 (f.gen.stripes f.ctx)

/-- The time by which something finishes now ahead of a deadline, over the frame period. -/
def Sys.slack (y : Sys) (f : Frame) (due : Nat) : Slack := y.slackOf due (f.gen.period f.ctx)

/-! ## Ready stripes (R300, R409) -/

/-- The frame holds the line, received, substituted or as an array halo. -/
def Frame.hasLine (f : Frame) (l : Nat) : Bool := f.lines.any (·.num == l) || f.halo.any (·.1 == l)

/-- The ingest buffer holds the stripe's lines and the 8 below them within the window, of a frame that was cut those above the cut (R324); the first stripe also waits for the last
top optical-black row in the modes that measure it (R300). A picture of a decode core is there once it is decoded (R416). -/
def Frame.stripeReady (f : Frame) (k : Nat) : Bool :=
  let g := f.gen
  if g.usesRfe f.ctx then
    let top := g.stripeTop f.ctx k
    let last := min (g.winHeight f.ctx) (top + g.stripeLines f.ctx k + 8)
    let mode := g.rd (ent (0x3410 + f.ctx) 3)
    ((List.range (last - top)).all fun i => f.cut.any (fun c => decide (c ≤ g.winTop f.ctx + top + i)) || f.hasLine (g.winTop f.ctx + top + i)) &&
      (f.cut.isNone || f.abandoned) &&
      (mode == 0 || mode == 3 || (List.range (g.rd (ent (0x3410 + f.ctx) 6))).all f.hasLine)
  else f.complete

/-- The stripe runs statistics-only and has not passed its raw front end. -/
def Stripe.statsDue (s : Stripe) : Bool := s.mode == .statsOnly && !s.passed

/-- The stripes of a context in order, each with its frame: earlier frames first (R21, R409). -/
def Sys.stripesOf (y : Sys) (x : Nat) : List (Frame × Stripe) := (y.frames.filter fun f => f.ctx == x).flatMap fun f => f.stripes.map fun s => (f, s)

/-- Those ahead of stripe k of frame n. -/
def Sys.stripesAhead (y : Sys) (x n k : Nat) : List (Frame × Stripe) :=
  (y.stripesOf x).takeWhile fun p => !(p.1.num == n && p.2.k == k)

/-- The first stripe of a context that has not opened: its frame and number. Statistics-only stripes ahead of it must be runnable (R425). -/
def Sys.nextStripe (y : Sys) (x : Nat) : Option (Frame × Nat) :=
  match (y.stripesOf x).find? fun p => p.2.mode == .waiting && !p.1.cutRaw with
  | none => none
  | some p => if (y.stripesAhead x p.1.num p.2.k).all fun q => !q.2.statsDue || q.1.stripeReady q.2.k then some (p.1, p.2.k) else none

/-! ## Troupes (R411, R415, R422) -/

/-- In service and holding no stripe; an idle token does not count against a reserve (R422). -/
def Sys.troupeVacant (y : Sys) (t : Nat) : Bool :=
  y.troupeRun t && (y.troupe t).held.isNone && !(y.troupe t).returning

/-- Free to take a stripe (R411). -/
def Sys.troupeFree (y : Sys) (t : Nat) : Bool := y.troupeVacant t && (y.troupe t).idle.isNone

/-- Context z has a frame in flight whose Troupe stage is not done. -/
def Sys.inFlight (y : Sys) (z : Nat) : Bool :=
  y.frames.any fun f => f.ctx == z && !f.abandoned && f.stripes.any fun s => !s.done

/-- Opening a stripe of x leaves every other context with a frame in flight its reserve (R415). -/
def Sys.reserveKept (y : Sys) (x : Nat) : Bool :=
  let vacant := ((List.range 24).filter y.troupeVacant).length
  (List.range 16).all fun z =>
    z == x || !y.inFlight z ||
      decide (y.view.reserve z + 1 ≤ vacant + ((List.range 24).filter fun t => (y.troupe t).held.any fun h => h.1 == z).length)

/-- The image of the frame's generation is loaded (R374). -/
def Sys.imageLoaded (y : Sys) (f : Frame) : Bool :=
  let slot := f.gen.lookSlot f.ctx
  slot == 0xFF || y.resident.any fun r => r.slot == slot && r.loaded

/-- Library entries that a generation names. -/
def Gen.tableEntries (g : Gen) (x : Nat) : List Nat :=
  ((List.range 8).map fun i => rdLe (g.rdB (ent (0x3C10 + x) 6)) (2 * i) 2).filter (· != 0xFFFF)

/-- Every table of the frame's generation is loaded in Troupe t (R359). -/
def Sys.tablesIn (y : Sys) (f : Frame) (t : Nat) : Bool :=
  (f.gen.tableEntries f.ctx).all fun e => y.pages.any fun p => p.entry == e && p.loaded.contains t

/-- Troupe t may take a stripe of the frame but for its tables: it is free, and has returned before the frame latched (R411, R424). -/
def Sys.troupeOpenTo (y : Sys) (f : Frame) (t : Nat) : Bool := y.troupeFree t && decide ((y.troupe t).notBefore ≤ f.latch)

/-- The Troupe that has been free longest, or the lowest-numbered on a tie (R411); one that has returned takes stripes of frames
that latched after it (R424), and none takes a stripe whose tables it does not hold yet (R359). -/
def Sys.pickTroupe (y : Sys) (f : Frame) : Option Nat :=
  ((List.range 24).filter fun t => y.troupeOpenTo f t && y.tablesIn f t).foldl
    (fun a t => match a with
      | none => some t
      | some u => if (y.troupe t).freeSince < (y.troupe u).freeSince then some t else a) none

/-- R57: admission i of a Troupe is skipped at skip count k. -/
def skipped (k i : Nat) : Bool := decide (i * k / 16 < (i + 1) * k / 16)

/-! ## Raw front ends (R292, R294, R410) -/

/-- State of a raw front end (0x3470 + r:01): in service unless FENCED or in RETEST. -/
def Sys.rfeIn (y : Sys) (r : Nat) : Bool := y.rd (ent (0x3470 + r) 1) ≤ 1

/-- Segments queued to a raw front end (R410). -/
def Sys.rfeQueue (y : Sys) (r : Nat) : Nat :=
  (y.frames.map fun f => (f.stripes.map fun s =>
    if s.rfe == some r && !s.passed then f.gen.segs f.ctx - s.written else 0).sum).sum

/-- The unit with the fewest segments queued among those admitted, the lowest on a tie (R410). -/
def Sys.bestRfe (y : Sys) (ok : Nat → Bool) : Option Nat :=
  ((List.range 8).filter ok).foldl (fun a r => match a with
    | none => some r
    | some b => if y.rfeQueue r < y.rfeQueue b then some r else a) none

/-- The unit is in service to the frame: one that has returned takes stripes from the following frame on (R314). -/
def Sys.rfeTakes (y : Sys) (f : Frame) (r : Nat) : Bool := y.rfeIn r && decide ((y.rfe r).notBefore ≤ f.latch)

/-- The raw front end for a stripe of the frame: one of its mask (R292, R410). -/
def Sys.pickRfe (y : Sys) (f : Frame) : Option Nat :=
  y.bestRfe fun r => y.rfeTakes f r && (f.gen.rd (ent (0x3400 + f.ctx) 7)).testBit r

/-- The raw front end for a stripe that is issued again: any where the mask has no other (R314). -/
def Sys.pickOther (y : Sys) (f : Frame) : Option Nat :=
  match y.pickRfe f with
  | some r => some r
  | none => y.bestRfe (y.rfeTakes f)

/-- Generations of the unit's cache that it may still need: those of frames with stripes to pass (R294). -/
def Sys.cacheKept (y : Sys) (r : Nat) : List (Nat × Nat) :=
  (y.rfe r).cache.filter fun c => (y.frame? c.1 c.2).any fun f => !f.passed

/-- The generation of a queued stripe is loaded ahead into a free cache slot (R294). -/
def Sys.rfePrefetch (y : Sys) (r x n : Nat) : Sys :=
  let c := y.cacheKept r
  y.setRfe r { y.rfe r with cache := if c.contains (x, n) || 4 ≤ c.length then c else c ++ [(x, n)] }

/-- A pass starts on a raw front end: a generation not cached stalls it, and a change of context is counted (R294). -/
def Sys.rfeStart (y : Sys) (r x n : Nat) : Sys :=
  let u := y.rfe r
  let b := 0x3470 + r
  let y := if u.cache.contains (x, n) then y
    else Sys.inc (y.setRfe r { u with cache := (if 4 ≤ u.cache.length then u.cache.drop 1 else u.cache) ++ [(x, n)] }) (ent b 5)
  let y := if y.rd (ent b 2) = x then y else Sys.inc64 (y.wr (ent b 2) x) (ent b 4) 1
  y.wr (ent b 1) 1

/-- A Troupe and, where its pass needs one, a raw front end are there for a stripe of the frame. -/
def Sys.placeFor (y : Sys) (f : Frame) : Bool := (y.pickTroupe f).isSome && (!f.gen.usesRfe f.ctx || (y.pickRfe f).isSome)

/-- The context that opens next, of those with a ready stripe and a place for it: lowest priority number, then least recently served (R412). -/
def Sys.pickContext (y : Sys) : Option Nat :=
  ((List.range 16).filter fun x =>
      !(y.ctx x).shutOut && y.reserveKept x &&
      (match y.nextStripe x with | some (f, k) => f.stripeReady k && y.imageLoaded f && y.placeFor f | none => false)).foldl
    (fun a x => match a with
      | none => some x
      | some z =>
        let px := y.view.rd (ent (0x4000 + x) 2)
        let pz := y.view.rd (ent (0x4000 + z) 2)
        if px < pz ∨ (px = pz ∧ (y.ctx x).served < (y.ctx z).served) then some x else a) none

/-! ## Black level of a frame (R299, R300) -/

/-- A failed measurement: the last accepted value holds, or the fixed one (R300). -/
def Sys.blackHeld (y : Sys) (f : Frame) (k : Nat) (m : Option W32) : W32 × Sys :=
  let y := y.inc (ent (0x3440 + f.ctx) 0x0B)
  let y := y.raiseLimited f.ctx 0x0901 f.ctx
    (ev [(0, 1, f.ctx), (1, 1, k), (2, 1, if m.isSome then 0 else 1), (4, 4, (m.getD 0).toNat), (8, 4, f.num)])
  (((y.ctx f.ctx).black.lookup k).getD (f.gen.fixedBlack f.ctx k), y)

/-- A measurement of channel k, accepted or held. -/
def Sys.blackMeasured (y : Sys) (f : Frame) (top : Bool) (k : Nat) : W32 × Sys :=
  match f.measure top k with
  | some m =>
    if f.gen.blackOk f.ctx m then
      let c := y.ctx f.ctx
      (m, y.setCtx f.ctx { c with black := tset (fun _ => (0 : W32)) c.black k m })
    else y.blackHeld f k (some m)
  | none => y.blackHeld f k none

/-- The level of PREVIOUS: b(N) := b(N - 1) + (m(N - 1) - b(N - 1)) / 2^s; FIXED for the first frame (R299). -/
def Sys.previousLevel (y : Sys) (f : Frame) : List W32 :=
  (List.range 4).map fun k =>
    match (y.ctx f.ctx).prevBlack with
    | some l =>
      let p := l.getD k (f.gen.fixedBlack f.ctx k, f.gen.fixedBlack f.ctx k)
      fadd p.1 (fdiv (fsub p.2 p.1) (fNat (2 ^ f.gen.rd (ent (0x3410 + f.ctx) 0x0A))))
    | none => f.gen.fixedBlack f.ctx k

/-- The channels measured over the top rows or over every region; a failed measurement holds (R300). -/
def Sys.measureBlack (y : Sys) (f : Frame) (top : Bool) : List W32 × Sys :=
  (List.range (f.gen.channels f.ctx)).foldl (fun a k =>
    let m := a.2.blackMeasured f top k
    (a.1 ++ [m.1], m.2)) ([], y)

/-- What was measured, with the level in use of a channel that delivered no optical-black pixel (0x3440 + x:02; log entry 23). -/
def Frame.shownBlack (f : Frame) (top : Bool) (used : List W32) : List W32 :=
  (List.range used.length).map fun k => (f.measure top k).getD (used.getD k 0)

/-- The black level of a frame: at its latch point in FIXED and PREVIOUS, else when its first stripe starts. -/
def Sys.decideBlack (y : Sys) (f : Frame) : Sys :=
  if f.black.isSome || !f.gen.usesRfe f.ctx then y
  else
    let mode := f.gen.rd (ent (0x3410 + f.ctx) 3)
    if mode = 0 then y.onFrame f.ctx f.num fun h => { h with black := some ((List.range 4).map (f.gen.fixedBlack f.ctx)) }
    else if mode = 3 then y.onFrame f.ctx f.num fun h => { h with black := some (y.previousLevel f) }
    else
      let r := y.measureBlack f true
      r.2.onFrame f.ctx f.num fun h => { h with black := some r.1, measured := f.shownBlack true r.1 }

/-- The next latch point: the frame's level and its measurement over every optical-black region stand ready for PREVIOUS (R299). Only in PREVIOUS does a
failed one count as held. Its measurement there takes the last accepted value (R300; log entry 23). -/
def Sys.closeBlack (y : Sys) (f : Frame) : Sys :=
  if !f.gen.usesRfe f.ctx then y
  else
    let y := y.decideBlack f
    let b := match y.frame? f.ctx f.num with | some h => h.black.getD [] | none => []
    let r := if f.gen.rd (ent (0x3410 + f.ctx) 3) = 3 then y.measureBlack f false
      else ((List.range (f.gen.channels f.ctx)).map fun k =>
        match f.measure false k with
        | some m => if f.gen.blackOk f.ctx m then m else b.getD k 0
        | none => b.getD k 0, y)
    let y := r.2.setCtx f.ctx { r.2.ctx f.ctx with prevBlack := some ((List.range r.1.length).map fun k => (b.getD k 0, r.1.getD k 0)) }
    if f.gen.rd (ent (0x3410 + f.ctx) 3) = 3 then
      let m := f.shownBlack false r.1
      (y.onFrame f.ctx f.num fun h => { h with measured := m }).wrB (ent (0x3440 + f.ctx) 2)
        ((List.range 4).flatMap fun k => le 4 (m.getD k 0).toNat)
    else y

/-! ## Opening a stripe (R409 to R412, R57) -/

/-- Troupes open and the wait of the stripe that opens. -/
def Sys.troupesOpen (y : Sys) : Sys :=
  y.wr (ent 0x4020 3) ((List.range 24).filter fun t => (y.troupe t).held.isSome).length

/-- Stripe k of frame f opens on Troupe t and raw front end r. -/
def Sys.openStripe (y : Sys) (f : Frame) (k t : Nat) (r : Option Nat) : Sys :=
  let x := f.ctx
  let y := Sys.decideBlack (y.decideLook f) f
  let y := y.onFrame x f.num fun h => h.onStripe k fun s =>
    { s with mode := .opened, reduced := h.reduced || h.seam.isSome, rfe := r, troupe := some t, openedAt := y.up,
             passed := r.isNone }
  let y := y.setTroupe t { y.troupe t with held := some (x, f.num, k), admission := ((y.troupe t).admission + 1) % 16 }
  let c := y.ctx x
  let waited := match c.waitingSince with | some u => (y.up - u) / 1000 | none => 0
  let y := y.setCtx x { c with served := y.turn + 1, waitingSince := none }
  let y := { y with turn := y.turn + 1 }
  let y := (y.inc64 (ent (0x4010 + x) 9) 1).inc64 (ent (0x4010 + x) 0x0C) waited
  let y := match r with | some r => y.rfePrefetch r x f.num | none => y
  y.troupesOpen

/-- What a ready stripe of the frame waits for begins to be waited for: an image, or tables in a Troupe that would else take it (R359, R374). -/
def Sys.noteLoads (y : Sys) (f : Frame) : Sys :=
  { y with
    resident := y.resident.map fun r => if r.slot == f.gen.lookSlot f.ctx && !r.loaded && r.since.isNone then { r with since := some y.up } else r
    pages := y.pages.map fun p =>
      if (f.gen.tableEntries f.ctx).contains p.entry then
        { p with since := p.since ++ ((List.range 24).filter fun t =>
            y.troupeOpenTo f t && !p.loaded.contains t && !p.since.any (·.1 == t)).map fun t => (t, y.up) }
      else p }

/-- Ready stripes that do not open start to wait (R409). -/
def Sys.noteWaits (y : Sys) : Sys :=
  (List.range 16).foldl (fun y x =>
    match y.nextStripe x with
    | some (f, k) =>
      if f.stripeReady k then
        let y := y.noteLoads f
        let c := y.ctx x
        if c.waitingSince.isNone then y.setCtx x { c with waitingSince := some y.up } else y
      else y
    | none => y) y

/-- Mean of the last 16 stripe times of a Troupe, ns. Of a Troupe that has completed fewer it is the mean of those, and 0 for none (DESIGN CHOICE: R57
gives the idle token no length then; log entry 59). -/
def Troupe.mean (t : Troupe) : Nat := if t.times.isEmpty then 0 else t.times.sum / t.times.length

/-- IDLE_TOKEN_END (R57): the Troupe becomes free. -/
def execIdleTokenEnd (troupe : Fin 24) (s : State) : Host.Outcome State Fault Refusal :=
  onSys s fun _ y =>
    let t := troupe.val
    let u := y.troupe t
    if u.idle.isSome then y.setTroupe t { u with idle := none, freeSince := y.up } else y

/-! ## Segments and halos (R312, R408, R413, R414) -/

/-- Column of the window that column i of a segment's row stands for, its 8 apron columns included. -/
def Gen.segCol (g : Gen) (x j i : Nat) : Nat := min (g.winWidth x - 1) (j * g.segWidth x + i - 8)

/-- Own width of segment j. -/
def Gen.segOwn (g : Gen) (x j : Nat) : Nat := min (g.segWidth x) (g.winWidth x - j * g.segWidth x)

/-- One developed row of a segment: window line, pixels. -/
def Frame.segRow (f : Frame) (j line : Nat) : List Px :=
  let g := f.gen
  (List.range (g.segOwn f.ctx j + 16)).map fun i =>
    f.pixel ((g.winLeft f.ctx + g.segCol f.ctx j i : Nat) : Int) ((g.winTop f.ctx + line : Nat) : Int)

/-- The buffer a raw front end fills for segment j of stripe k: own rows, and the halo rows beyond the window's edges (R408). -/
def Frame.segBuf (f : Frame) (k j : Nat) : SegBuf :=
  let g := f.gen
  let x := f.ctx
  let top := g.stripeTop x k
  let n := g.stripeLines x k
  let own := (List.range n).map fun i => (top + i + 8, f.segRow j (top + i))
  let above := if top = 0 then (List.range 8).map fun i => (i, f.segRow j 0) else []
  let bottom := top + n == g.winHeight x
  let below := if bottom then (List.range 8).map fun i => (top + n + i + 8, f.segRow j (top + n - 1)) else []
  { ctx := x, frame := f.num, stripe := k, seg := j, rows := above ++ own ++ below, own := true, top := top == 0,
    bottom := bottom, dispatched := false, started := 0, finished := 0, again := [] }

/-- The buffer of segment j of stripe k of a frame, with its Troupe. -/
def Sys.segBuf? (y : Sys) (x n k j : Nat) : Option (Nat × SegBuf) :=
  (List.range 24).findSome? fun t =>
    ((y.troupe t).bufs.find? fun b => b.ctx == x && b.frame == n && b.stripe == k && b.seg == j).map fun b => (t, b)

/-- That buffer's record changed. -/
def Sys.onBuf (y : Sys) (t : Nat) (b : SegBuf) (h : SegBuf → SegBuf) : Sys :=
  let u := y.troupe t
  y.setTroupe t { u with bufs := u.bufs.map fun c =>
    if c.ctx == b.ctx && c.frame == b.frame && c.stripe == b.stripe && c.seg == b.seg then h c else c }

/-- Rows of a buffer whose keys lie in a range. -/
def SegBuf.pick (b : SegBuf) (lo n : Nat) : List (Nat × List Px) := b.rows.filter fun r => decide (lo ≤ r.1) && decide (r.1 < lo + n)

/-- The halo copier between segment j of stripes k - 1 and k, once both are written (R413). -/
def Sys.haloCopy (y : Sys) (f : Frame) (k j : Nat) : Sys :=
  if k = 0 then y
  else
    let edge := f.gen.stripeTop f.ctx k + 8
    match y.segBuf? f.ctx f.num (k - 1) j, y.segBuf? f.ctx f.num k j with
    | some (ta, a), some (tb, b) =>
      let y := y.onBuf ta a fun c => { c with rows := c.rows ++ b.pick edge 8, bottom := true }
      y.onBuf tb b fun c => { c with rows := c.rows ++ a.pick (edge - 8) 8, top := true }
    | _, _ => y

/-- Groups of a segment buffer. -/
def Sys.bufGroups (y : Sys) (b : SegBuf) : List (Nat × Nat × Nat × Nat) :=
  match y.frame? b.ctx b.frame with
  | some f => if f.gen.hasLook f.ctx then f.gen.segGroups f.ctx b.stripe b.seg else []
  | none => []

/-- A buffer is freed once every group of its segment has committed (R335). -/
def Sys.freeBufs (y : Sys) (t : Nat) : Sys :=
  let u := y.troupe t
  let finished (b : SegBuf) : Bool := b.dispatched && b.finished == (y.bufGroups b).length
  let gone := u.bufs.filter finished
  let y := y.setTroupe t { u with bufs := u.bufs.filter fun b => !finished b }
  gone.foldl (fun y b => y.onFrame b.ctx b.frame fun f => f.onStripe b.stripe fun s => { s with freed := s.freed + 1 }) y

/-- The buffer a mover engine fills for segment j of stripe k from the decoded picture, halos included (R416). -/
def Frame.moverBuf (f : Frame) (k j : Nat) : SegBuf :=
  let g := f.gen
  let x := f.ctx
  let top := g.stripeTop x k
  let row (l : Int) : List Px :=
    let line := g.winTop x + (max 0 (min l (g.winHeight x - 1 : Nat))).toNat
    (List.range (g.segOwn x j + 16)).map fun i => ((f.picture.getD line []).getD (g.winLeft x + g.segCol x j i) ⟨0, 0, 0⟩)
  { ctx := x, frame := f.num, stripe := k, seg := j,
    rows := (List.range (g.stripeLines x k + 16)).map fun i => (top + i, row ((top + i : Nat) - 8)), own := true, top := true,
    bottom := true, dispatched := true, started := 0, finished := 0, again := [] }

/-- The mover engine fills the next segment of the Troupe's stripe where a buffer is free. -/
def Sys.moverStep (y : Sys) (t : Nat) : Sys :=
  match (y.troupe t).held with
  | none => y
  | some (x, n, k) =>
    match y.frame? x n with
    | none => y
    | some f =>
      match f.stripe? k with
      | none => y
      | some st =>
        if f.gen.usesRfe x ∨ st.mode ≠ .opened ∨ f.gen.segs x ≤ st.written ∨ 4 ≤ (y.troupe t).bufs.length then y
        else
          let y := y.setTroupe t { y.troupe t with bufs := (y.troupe t).bufs ++ [f.moverBuf k st.written] }
          Sys.freeBufs (y.onFrame x n fun h => h.onStripe k fun s => { s with written := s.written + 1 }) t

/-- Freed buffers of a decode context's stripe are filled again. -/
def Sys.freeDone (y : Sys) (t : Nat) : Sys := upto 1024 (fun _ y => y.moverStep t) (y.freeBufs t)

/-- Segments whose own rows and both halos are present are dispatched (R414). -/
def Sys.dispatchReady (y : Sys) (t : Nat) : Sys :=
  let u := y.troupe t
  let y := y.setTroupe t { u with bufs := u.bufs.map fun b => if b.own && b.top && b.bottom then { b with dispatched := true } else b }
  y.freeDone t

/-- STRIPE_OPEN (R57, R409 to R412, R415): the next ready stripe takes a token, or its Troupe an idle token. -/
def execStripeOpen (s : State) : Host.Outcome State Fault Refusal :=
  onSys s fun _ y =>
    match y.pickContext with
    | none => y.noteWaits
    | some x =>
      match y.nextStripe x with
      | none => y
      | some (f, k) =>
       match y.pickTroupe f with
       | none => y.noteWaits
       | some t =>
        let u := y.troupe t
        if skipped y.skip u.admission then
          let y := y.setTroupe t { u with idle := some u.mean, admission := (u.admission + 1) % 16 }
          Sys.noteWaits (y.inc64 (ent 0x2202 3) 1)
        else
          let r := if f.gen.usesRfe x then y.pickRfe f else none
          if f.gen.usesRfe x && r.isNone then y.noteWaits else Sys.noteWaits (Sys.freeDone (y.openStripe f k t r) t)

/-- No rows will come from stripe k of a frame: it runs statistics-only, is dropped, or its Troupe stage is over (R423, R425). -/
def Frame.rowsLost (f : Frame) (k : Nat) : Bool :=
  match f.stripe? k with
  | some s => s.mode == .statsOnly || s.mode == .dropped || s.done
  | none => false

/-- The halo copier fills the halos that lost stripes owe a buffer with the buffer's own nearest rows (R423). -/
def Sys.fillBuf (y : Sys) (t : Nat) (f : Frame) (b : SegBuf) : Sys :=
  let g := f.gen
  let top := g.stripeTop f.ctx b.stripe
  let n := g.stripeLines f.ctx b.stripe
  let row (l : Nat) : List Px := (b.rows.lookup (l + 8)).getD []
  let y := if b.own && !b.top && decide (0 < b.stripe) && f.rowsLost (b.stripe - 1) then
    y.onBuf t b fun c => { c with top := true, rows := c.rows ++ (List.range 8).map fun i => (top + i, row top) } else y
  if b.own && !b.bottom && f.rowsLost (b.stripe + 1) then
    y.onBuf t b fun c => { c with bottom := true, rows := c.rows ++ (List.range 8).map fun i => (top + n + i + 8, row (top + n - 1)) }
  else y

/-- The same for every buffer, before dispatch. -/
def Sys.fillEdges (y : Sys) : Sys :=
  (List.range 24).foldl (fun y t =>
    ((y.troupe t).bufs.foldl (fun y b => match y.frame? b.ctx b.frame with
      | some f => y.fillBuf t f b
      | none => y) y).dispatchReady t) y

/-- A stripe ahead of another of its context lets segment j of that one be written: the front ends keep the order of a context (R21). -/
def Stripe.ahead (s : Stripe) (f : Frame) (j : Nat) : Bool :=
  s.passed || s.mode == .dropped || (s.mode == .opened && (decide (j < s.written) || s.written == f.gen.segs f.ctx))

/-- The open stripe of a raw front end whose next segment can be written: the earliest stripe deadline (R410, R312). -/
def Sys.rfeNext (y : Sys) (r : Nat) : Option (Frame × Stripe) :=
  let cands := y.frames.flatMap fun f =>
    (f.stripes.filter fun s =>
      s.mode == .opened && s.rfe == some r && decide (s.written < f.gen.segs f.ctx) &&
      (y.stripesAhead f.ctx f.num s.k).all (fun q => q.2.ahead q.1 s.written) &&
      s.troupe.any fun t => decide ((y.troupe t).bufs.length < 4)).map fun s => (f, s)
  cands.foldl (fun a c => match a with
    | none => some c
    | some b => if y.stripeDue c.1 c.2.k < y.stripeDue b.1 b.2.k then some c else a) none

/-- A stripe issued again (R314) takes the halo rows that a neighbour gave it before, where the neighbour's buffer has been freed since. -/
def Sys.haloAgain (y : Sys) (f : Frame) (k j : Nat) : Sys :=
  let top := f.gen.stripeTop f.ctx k
  let n := f.gen.stripeLines f.ctx k
  let gone (q : Nat) : Bool := !f.abandoned && (f.stripe? q).any (fun s => decide (j < s.written)) && (y.segBuf? f.ctx f.num q j).isNone
  match y.segBuf? f.ctx f.num k j with
  | none => y
  | some (t, b) => y.onBuf t b fun c =>
    let c := if !c.top && decide (0 < k) && gone (k - 1) then
      { c with top := true, rows := c.rows ++ (List.range 8).map fun i => (top + i, f.segRow j (top + i - 8)) } else c
    if !c.bottom && gone (k + 1) then
      { c with bottom := true, rows := c.rows ++ (List.range 8).map fun i => (top + n + i + 8, f.segRow j (top + n + i)) } else c

/-- RFE_SEGMENT_WRITTEN (R312, R408, R413, R414): the next segment of the raw front end's most urgent stripe is written, halos
are copied and complete segments dispatched. `waitUs` is the time it waited for a buffer. -/
def execRfeSegmentWritten (rfe : Fin 8) (waitUs : BitVec 32) (s : State) : Host.Outcome State Fault Refusal :=
  onSys s fun _ y =>
    let r := rfe.val
    match y.rfeNext r with
    | none => y
    | some (f, st) =>
      match st.troupe with
      | none => y
      | some t =>
        let j := st.written
        let y := if j = 0 then y.rfeStart r f.ctx f.num else y
        let y := y.inc64 (ent (0x3470 + r) 6) waitUs.toNat
        let y := y.setTroupe t { y.troupe t with bufs := (y.troupe t).bufs ++ [f.segBuf st.k j] }
        let y := y.onFrame f.ctx f.num fun h => h.onStripe st.k fun s => { s with written := j + 1 }
        let y := ((y.haloCopy f st.k j).haloCopy f (st.k + 1) j).haloAgain f st.k j
        let y := if f.gen.role = 3 ∧ (st.k = 0 ∨ st.k + 1 = f.gen.stripes f.ctx) then
          y.shareLinks.foldl (fun y l => y.send (.garos l 1 0 f.num (le 1 f.ctx ++ le 2 st.k ++ le 1 j))) y
          else y
        y.fillEdges

/-! ## The end of a pass (R272, R419) -/

/-- Lines of the frame that no stripe still to pass reads are released (R272). -/
def Frame.release (f : Frame) : Frame :=
  { f with lines := f.lines.map fun d => if f.wanted d.num then d else { d with readOut := true } }

/-- What follows every pass: the slack, the counters, the released lines, and at the frame's last pass the defect alarm
(R304), whose level is live at once (R129). -/
def Sys.passDone (y : Sys) (x n k : Nat) (r : Option Nat) : Sys :=
  match y.frame? x n with
  | none => y
  | some f =>
    let y := y.reportSlack .s (y.slack f (y.rfeDue f k))
    let y := y.onFrame x n fun h => Frame.release (h.onStripe k fun s => { s with passed := true })
    let y := y.inc64 (ent (0x3440 + x) 6) 1
    let y := match r with
      | some r => Sys.inc64 (if y.rfeQueue r = 0 then (y.wr (ent (0x3470 + r) 1) 0).wr (ent (0x3470 + r) 2) 0xFF else y)
          (ent (0x3470 + r) 3) 1
      | none => y
    let y := (List.range 8).foldl (fun y g => if y.owner g = some x then y.showOccupancy g else y) (y.showHeld x)
    match y.frame? x n with
    | none => y
    | some f =>
      if f.passed then
        let limit := y.rd (ent (0x3420 + x) 4)
        let n := f.counts.1
        if limit ≠ 0 ∧ limit < n then
          (y.inc (ent (0x3440 + x) 0x0C)).raiseLimited x 0x0904 x (ev [(0, 1, x), (4, 4, f.num), (8, 4, n)])
        else y
      else y

/-- RFE_PASS_COMPLETE (R419): the raw front end's stripe whose segments are all written has passed, those ahead of it in its context having passed (R21). -/
def execRfePassComplete (rfe : Fin 8) (s : State) : Host.Outcome State Fault Refusal :=
  onSys s fun _ y =>
    let r := rfe.val
    match y.frames.findSome? fun f => (f.stripes.find? fun st =>
        st.mode == .opened && st.rfe == some r && !st.passed && st.written == f.gen.segs f.ctx &&
          (y.stripesAhead f.ctx f.num st.k).all fun q => q.2.passed || q.2.mode == .dropped).map fun st => (f, st.k) with
    | some (f, k) => y.passDone f.ctx f.num k (some r)
    | none => y

/-- The statistics-only stripe that runs next: of every context the first that has not passed, since a stage keeps their order (R21), and of those that
are ready the one with the earliest raw front-end deadline (R425). -/
def Sys.nextStatsOnly (y : Sys) : Option (Frame × Nat) :=
  let cands := (List.range 16).filterMap fun x =>
    match (y.stripesOf x).find? fun p => !p.2.passed && p.2.mode != .dropped with
    | some p => if p.2.statsDue && p.1.stripeReady p.2.k then some (p.1, p.2.k) else none
    | none => none
  cands.foldl (fun a c => match a with
    | none => some c
    | some b => if y.rfeDue c.1 c.2 < y.rfeDue b.1 b.2 then some c else a) none

/-- Statistics-only stripes that have become runnable, every earlier one of their context having opened or become so (R425). -/
def Sys.runnable (y : Sys) : List (Frame × Stripe) :=
  (List.range 16).flatMap fun x =>
    ((y.stripesOf x).takeWhile fun p => p.2.mode != .waiting && (!p.2.statsDue || p.1.stripeReady p.2.k)).filter fun p =>
      p.2.statsDue && p.2.rfe.isNone

/-- They are queued to raw front ends of their masks, which load their generations ahead (R294, R425). -/
def Sys.queueStats (y : Sys) : Sys :=
  y.runnable.foldl (fun y p =>
    match y.pickRfe p.1 with
    | some r => (y.onFrame p.1.ctx p.1.num fun h => h.onStripe p.2.k fun s => { s with rfe := some r }).rfePrefetch r p.1.ctx p.1.num
    | none => y) y

/-- STATS_ONLY_STRIPE (R313, R425): it takes no token and no Troupe, passes every stage, writes no stripe memory and releases its
lines. -/
def execStatsOnlyStripe (s : State) : Host.Outcome State Fault Refusal :=
  onSys s fun _ y =>
    let y := y.queueStats
    match y.nextStatsOnly with
    | none => y
    | some (f, k) =>
      match (f.stripe? k).bind (·.rfe) with
      | none => y
      | some r =>
        let y := Sys.rfeStart (y.decideBlack f) r f.ctx f.num
        let y := y.onFrame f.ctx f.num fun h => { h with statsOnly := true }
        Sys.fillEdges (y.passDone f.ctx f.num k (some r))

/-! ## Faults of a raw front end (R314) -/

/-- The stripe that a raw front end runs: that of its next segment, else, while it waits for a buffer, the most urgent of those it has begun. -/
def Sys.rfePresent (y : Sys) (r : Nat) : Option (Frame × Stripe) :=
  match y.rfeNext r with
  | some p => some p
  | none =>
    (y.frames.flatMap fun f => (f.stripes.filter fun s =>
        s.mode == .opened && s.rfe == some r && !s.passed && decide (0 < s.written)).map fun s => (f, s)).foldl
      (fun a c => match a with
        | none => some c
        | some b => if y.stripeDue c.1 c.2.k < y.stripeDue b.1 b.2.k then some c else a) none

/-- Everything that has come of an open stripe is dropped: its buffers, and the groups that ran on them or had not committed. -/
def Sys.dropStripe (y : Sys) (f : Frame) (st : Stripe) : Sys :=
  match st.troupe with
  | none => y
  | some t =>
    let u := y.troupe t
    let y := y.setTroupe t { u with bufs := u.bufs.filter fun b => !(b.ctx == f.ctx && b.frame == f.num && b.stripe == st.k) }
    upto 16 (fun i y =>
      let e := y.engine (16 * t + i)
      let e := if e.busy && e.ctx == f.ctx && e.frame == f.num && e.stripe == st.k then e.idle else e
      y.setEngine (16 * t + i) { e with halted := e.halted.filter fun h => !(h.ctx == f.ctx && h.frame == f.num && h.stripe == st.k) }) y

/-- RFE_PARITY_ERROR (R314): the unit stops and the partial output of the stripe it runs is dropped; that stripe is issued from its start on another unit,
which also takes over the others queued here; the unit is fenced. DESIGN CHOICE (log entry 23): the rule speaks of one stripe, so another stripe that the
unit had begun goes on with its next segment. -/
def execRfeParityError (rfe : Fin 8) (cache : Bool) (s : State) : Host.Outcome State Fault Refusal :=
  onSys s fun _ y =>
    let r := rfe.val
    let hit := y.rfePresent r
    let y := match hit with
      | some (f, st) => Sys.onFrame (y.dropStripe f st) f.ctx f.num fun h => h.onStripe st.k fun q => { q with written := 0, freed := 0 }
      | none => y
    let y := Sys.inc ((y.wr (ent (0x3470 + r) 1) 2).wr (ent (0x3470 + r) 2) 0xFF) (ent (0x3470 + r) 7)
    let y := y.setRfe r { y.rfe r with cache := [], returning := false }
    let y := y.frames.foldl (fun y f => f.stripes.foldl (fun y st =>
      if st.rfe = some r ∧ !st.passed then
        let other := y.pickOther f
        let y := y.onFrame f.ctx f.num fun h => h.onStripe st.k fun q => { q with rfe := other }
        match other with | some o => y.rfePrefetch o f.ctx f.num | none => y
      else y) y) y
    y.raise 0x0905 r (ev [(0, 1, r), (1, 1, if cache then 1 else 0),
      (2, 1, (hit.map fun h => h.1.ctx).getD 0xFF), (4, 4, (hit.map fun h => h.1.num).getD 0)])

/-- A raw front end's retest ends (R314): a unit that passes returns at the next frame boundary of a context whose mask holds it. -/
def Sys.rfeRetested (y : Sys) (r : Nat) (passed : Bool) : Sys :=
  let y := y.wr (ent (0x3470 + r) 1) 2
  let y := y.setRfe r { y.rfe r with returning := passed, failed := !passed }
  y.raise 0x0906 r (ev [(0, 1, r), (1, 1, if passed then 0 else 1)])

/-- RFE_RETEST_DONE (R314). -/
def execRfeRetestDone (rfe : Fin 8) (passed : Bool) (s : State) : Host.Outcome State Fault Refusal :=
  onSys s fun _ y => y.rfeRetested rfe.val passed

/-! ## Deadlines (R64) -/

/-- FRAME_DEADLINE (R64): the oldest frame of the context with stripes unfinished is abandoned. -/
def execFrameDeadline (ctx : Fin 16) (s : State) : Host.Outcome State Fault Refusal :=
  onSys s fun _ y =>
    match y.frames.find? fun f => f.ctx == ctx.val && !f.abandoned && f.stripes.any fun st => !st.done with
    | some f => y.abandonTell f
    | none => y

/-! ## Arrays (R427, R428) -/

/-- Halo rows from a neighbour enter the edge stripe's buffer of their segment. -/
def Sys.haloRows (y : Sys) (f : Frame) (j : Nat) (rows : List (Nat × List Px)) : Sys :=
  let first := f.gen.bandFirst f.ctx
  let below := rows.any fun r => decide (first + f.gen.bandLines f.ctx ≤ r.1)
  let k := if below then f.gen.stripes f.ctx - 1 else 0
  match y.segBuf? f.ctx f.num k j with
  | none => y
  | some (t, b) =>
    let y := y.onBuf t b fun c =>
      { c with rows := c.rows ++ rows.map fun r => (r.1 + 8, r.2), top := c.top || !below, bottom := c.bottom || below }
    y.dispatchReady t

/-- ARRAY_HALO_RECEIVE (R427): raw lines enter as halo only and are not hashed; rows later than 50 µs are counted. -/
def execArrayHaloReceive (ctx : Fin 8) (frame : BitVec 32) (neighbour : Fin 4) (part : HaloPart) (delayUs : BitVec 16) (s : State) :
    Host.Outcome State Fault Refusal :=
  onSys s fun _ y =>
    match y.frame? ctx.val frame.toNat with
    | none => y
    | some f =>
      match part with
      | .raw lines => y.onFrame f.ctx f.num fun h => { h with halo := h.halo ++ lines }
      | .rows seg rows =>
        let y := y.haloRows f seg rows
        if 50 < delayUs.toNat then
          (y.inc (ent 0x4020 6)).raiseLimited f.ctx 0x0B05 f.ctx
            (ev [(0, 1, f.ctx), (1, 1, neighbour.val),
              (2, 2, if rows.any fun r => decide (f.gen.bandFirst f.ctx + f.gen.bandLines f.ctx ≤ r.1) then f.gen.stripes f.ctx - 1 else 0),
              (4, 4, f.num)])
        else y

/-- ARRAY_LOOK_DECISION (R428): a member's seam or abandonment is applied to the same frame here. -/
def execArrayLookDecision (ctx : Fin 16) (frame : BitVec 32) (origin : Fin 4) (abandon : Bool) (s : State) :
    Host.Outcome State Fault Refusal :=
  onSys s fun _ y =>
    match y.frame? ctx.val frame.toNat with
    | none => y
    | some f =>
      let y := if abandon then y.abandon f
        else if !f.reduced && f.seam.isNone && !f.abandoned then y.seamFrame f else y
      y.raise 0x0B06 f.ctx (ev [(0, 1, f.ctx), (1, 1, if abandon then 1 else 0), (2, 1, origin.val), (4, 4, f.num)])

/-! ## Throttling (R760) -/

/-- POWER_MANAGER_TICK (R760): mean module input power of the last millisecond in 0.1 W against 0x2202:04. -/
def execPowerManagerTick (power : BitVec 16) (s : State) : Host.Outcome State Fault Refusal :=
  onSys s fun _ y =>
    let p := power.toNat
    let limit := 10 * y.rd (ent 0x2202 4)
    let u := y.sup
    let raiseAge := u.pwrRaiseAge + 1
    let changeAge := u.pwrChangeAge + 1
    let y := { y with sup := { u with pwrRaiseAge := raiseAge, pwrChangeAge := changeAge } }
    -- at 12, and at 0, nothing changes, so no age starts anew
    if limit < p ∧ 10 ≤ raiseAge then
      if 12 ≤ u.kPwr then y else Sys.skipChanged { y with sup := { y.sup with kPwr := u.kPwr + 1, pwrRaiseAge := 0, pwrChangeAge := 0 } }
    else if 20 * p < 19 * limit ∧ 100 ≤ changeAge then
      if u.kPwr = 0 then y else Sys.skipChanged { y with sup := { y.sup with kPwr := u.kPwr - 1, pwrChangeAge := 0 } }
    else y

end Sys2Proof.Machine
end

