-- ==== Sys2Proof/Machine/EngineOps.lean ====
section
/-!
DEFINITION. Sys2Proof/Machine/EngineOps.lean: what the instructions of a colour engine share (R330 to R368): registers, issue,
local memory, stripe memory, output writes, the LUT unit, and the end of a group. Time inside an engine is counted in issue
slots (R331), from 0 at the group's dispatch.
-/

namespace Sys2Proof.Machine

/-! ## Engines -/

/-- The engine is in service, in a Troupe that runs. -/
def Sys.engineIn (y : Sys) (e : Nat) : Bool := y.troupeRun (e / 16) && y.rdBit (ent (0x3860 + e / 16) 2) (e % 16)

/-! ## Registers (R337, R338) -/

/-- A pair put in a table whose unlisted keys have no value of their own. -/
def kput {β : Type} (m : List (Nat × β)) (k : Nat) (v : β) : List (Nat × β) := tinsert k v (terase k m)

/-- What register or word number i holds that the group has not written: unspecified (R338). -/
def Engine.unwritten (e : Engine) (i : Nat) : W32 := BitVec.ofNat 32 (Config.freeValue (e.entrySeed + i)).toNat

/-- Lane k of V[r]. -/
def Engine.rv (e : Engine) (r k : Nat) : W32 := (e.v.lookup (16 * r + k)).getD (e.unwritten (16 * r + k))

/-- S[r]. -/
def Engine.rs (e : Engine) (r : Nat) : W32 := e.s.getD r 0

/-- P[r]: P0 always reads 0xFFFF. -/
def Engine.rp (e : Engine) (r : Nat) : W16 :=
  if r = 0 then 0xFFFF else (e.p.lookup r).getD ((e.unwritten (1024 + r)).truncate 16)

/-- Lane k takes part under P[pr], inverted when pn (R344). -/
def Engine.part (e : Engine) (pr : Nat) (pn : Bool) (k : Nat) : Bool := (e.rp pr).getLsbD k != pn

/-- V[r] written in the lanes that `take` selects. -/
def Engine.setV (e : Engine) (r : Nat) (take : Nat → Bool) (f : Nat → W32) : Engine :=
  { e with v := (List.range 16).foldl (fun m k => if take k then kput m (16 * r + k) (f k) else m) e.v }

/-- S[r] written. -/
def Engine.setS (e : Engine) (r : Nat) (v : W32) : Engine := { e with s := (List.range 16).map fun i => if i = r then v else e.rs i }

/-- P[r] written; a write to P0 is discarded. -/
def Engine.setP (e : Engine) (r : Nat) (v : W16) : Engine := if r = 0 then e else { e with p := kput e.p r v }

/-! ## Issue (R352) -/

/-- Register files as the scoreboard numbers them. -/
abbrev fileV : Nat := 0
abbrev fileS : Nat := 1
abbrev fileP : Nat := 2

/-- What an instruction asks of issue: sources, destinations, latency, class of R363, and rules of R345. -/
structure Need where
  srcs : List (Nat × Nat)
  dsts : List (Nat × Nat)
  lat : Nat
  cls : Option WaitClass := none
  /-- Slots for which issue is held, the instruction's own among them. -/
  hold : Nat := 1
  trans : Bool := false
  deriving DecidableEq, Repr

/-- A LUT request of this group will still write the register. -/
def Engine.lutPending (e : Engine) (regs : List (Nat × Nat)) : Bool :=
  e.reqs.any fun q =>
    match q.kind with
    | .one => regs.contains (fileV, q.dst)
    | .three => regs.contains (fileV, q.dst) || regs.contains (fileV, q.dst + 1) || regs.contains (fileV, q.dst + 2)
    | .threeOut => false

/-- The first slot at which the instruction may issue (R352). -/
def Engine.issueAt (e : Engine) (n : Need) : Nat :=
  let src := (e.due.filter fun d => n.srcs.contains (d.file, d.reg)).foldl (fun t d => max t d.slot) e.slot
  let dst := (e.due.filter fun d => n.dsts.contains (d.file, d.reg)).foldl (fun t d => max t (d.slot - n.lat)) src
  if n.trans then max dst e.transFree else dst

/-- The loops whose body ends at the word reached: the next iteration, or the loop is left (R361). -/
def loopBack : List Loop → Nat → List Loop × Nat
  | [], pc => ([], pc)
  | l :: r, pc =>
    if pc = l.past then
      if 1 < l.left then ({ l with left := l.left - 1 } :: r, l.first) else loopBack r pc
    else (l :: r, pc)

/-- The next word of the program, loops taken into account. -/
def Engine.next (e : Engine) : Engine :=
  let r := loopBack e.loops (e.pc + 1)
  { e with pc := r.2, loops := r.1 }

/-- One slot lost while the instruction cannot issue. -/
def Engine.stall (e : Engine) : Engine := { e with slot := e.slot + 1, stalls := e.stalls + 1 }

/-- The instruction issues at its slot and its effect takes place; its results are usable `lat` slots later. -/
def Engine.issue (e : Engine) (n : Need) (f : Engine → Engine) : Engine :=
  let t := e.issueAt n
  let e' := f e
  { e' with slot := t + n.hold, stalls := e.stalls + (t - e.slot),
            due := (e'.due.filter fun d => decide (t < d.slot)) ++ n.dsts.map fun d => ⟨d.1, d.2, t + n.lat, n.cls⟩,
            transFree := if n.trans then t + 4 else e'.transFree }

/-- An instruction that only reads and writes registers: nothing while the engine holds no group, one lost slot while a LUT
result is awaited, otherwise its effect and the next word. -/
def Engine.run (e : Engine) (n : Need) (f : Engine → Engine) : Engine :=
  if !e.busy then e
  else if e.lutPending (n.srcs ++ n.dsts) then e.stall
  else Engine.next (e.issue n f)

/-! ## The end of a group (R335, R356, R435) -/

/-- A consumer holds the buffer of a binding's frame: a channel that shows or falls back on it (R434), or an encoder (R27). -/
def Sys.bufHeld (y : Sys) (x n fr : Nat) : Bool :=
  ((List.range 24).any fun c => y.view.chanOn c && y.view.chanBinding c == some (x, n) &&
    ((y.channel c).shown == some fr || (y.channel c).fallback == some fr)) ||
  y.holds.any fun h => h.2.1 == x && h.2.2.1 == n && h.2.2.2 == fr

/-- The frame store of a binding. -/
def Sys.store? (y : Sys) (x n : Nat) : Option Store := y.stores.find? fun s => s.ctx == x && s.binding == n

/-- A frame store replaced or added. -/
def Sys.setStore (y : Sys) (st : Store) : Sys :=
  if y.stores.any fun s => s.ctx == st.ctx && s.binding == st.binding then
    { y with stores := y.stores.map fun s => if s.ctx == st.ctx && s.binding == st.binding then st else s }
  else { y with stores := y.stores ++ [st] }

/-- R435: every buffer is held, so the binding's frame is not written. -/
def Sys.storeDrop (y : Sys) (st : Store) (fr : Nat) : Sys :=
  let y := y.setStore { st with dropping := some fr }
  let y := (List.range 24).foldl (fun y c =>
    if y.view.chanOn c && y.view.chanBinding c == some (st.ctx, st.binding) then y.inc (ent (0x4140 + c) 0x0C) else y) y
  y.raiseLimited (256 * st.ctx + st.binding) 0x0C0A st.ctx (ev [(0, 1, st.ctx), (1, 1, st.binding), (4, 4, fr)])

/-- A buffer for frame fr: its own, a free one, or the oldest complete one that no consumer holds (R26, R27), the newest complete frame too where the
older ones are held; a buffer still being written is the writer's own. With none the frame is not written (R435). -/
def Sys.openBuf (y : Sys) (x n fr : Nat) : Sys :=
  let st := (y.store? x n).getD ⟨x, n, [], none⟩
  if st.bufs.any (·.frame == fr) || st.dropping == some fr then y
  else if st.bufs.length < 3 then y.setStore { st with bufs := st.bufs ++ [⟨fr, false, 0, [], []⟩], dropping := none }
  else
    match st.bufs.find? fun b => b.complete && !y.bufHeld x n b.frame with
    | some old => y.setStore { st with bufs := (st.bufs.filter fun b => b.frame != old.frame) ++ [⟨fr, false, 0, [], []⟩], dropping := none }
    | none => y.storeDrop st fr

/-- Key of an output pixel in a buffer. -/
def pxKey (line col : Nat) : Nat := line * 65536 + col

/-- One held write reaches the frame store. -/
def Sys.commitHeld (y : Sys) (x fr line col : Nat) (h : Held) : Sys :=
  let y := y.openBuf x h.binding fr
  match y.store? x h.binding with
  | none => y
  | some st =>
    if st.dropping = some fr then y
    else
      y.setStore { st with bufs := st.bufs.map fun b =>
        if b.frame == fr then
          { b with px := (List.range 16).foldl (fun m k =>
              if h.lanes.getLsbD k then kput m (pxKey line (col + k)) (h.px.getD k 0) else m) b.px }
        else b }

/-- A group's buffer count and Troupe counters; its segment may be freed (R335). -/
def Sys.groupFinished (y : Sys) (t x fr k j : Nat) : Sys :=
  let u := y.troupe t
  let y := y.setTroupe t { u with bufs := u.bufs.map fun b =>
    if b.ctx == x && b.frame == fr && b.stripe == k && b.seg == j then { b with finished := b.finished + 1 } else b }
  y.freeDone t

/-- An array member sends its groups to the other members' frame stores (R686). -/
def Sys.shareGroup (y : Sys) (h : Halted) : Sys :=
  if y.view.role ≠ 3 then y
  else y.shareLinks.foldl (fun y l => h.outs.foldl (fun y o =>
    y.send (.garos l 2 0 h.frame (le 1 h.ctx ++ le 1 o.binding ++ le 2 h.line ++ le 2 h.col ++ le 2 o.lanes.toNat ++ o.px.flatMap (le 8)))) y) y

/-- OUTPUT_GROUP_COMMIT (R356): the held writes go out, unless the frame is abandoned (R64); the Troupe counts the group. -/
def Sys.commitGroup (y : Sys) (t : Nat) (h : Halted) : Sys :=
  let live := match y.frame? h.ctx h.frame with | some f => !f.abandoned | none => false
  let y := if live then Sys.shareGroup (h.outs.foldl (fun y o => y.commitHeld h.ctx h.frame h.line h.col o) y) h else y
  let y := y.onFrame h.ctx h.frame fun f =>
    let key := 2 * h.binding + (if h.reduced then 1 else 0)
    { f with cost := if f.cost.any (·.1 == key) then
        f.cost.map fun c => if c.1 == key then (c.1, c.2.1 + h.slots, c.2.2 + 1) else c
        else f.cost ++ [(key, h.slots, 1)] }
  y.groupFinished t h.ctx h.frame h.stripe h.seg

/-- Every LUT3.OUT of the group has delivered its result. -/
def Halted.ready (h : Halted) : Bool := h.reqs.all fun q => q.kind != .threeOut

/-- The halted groups of engine e that await no LUT3.OUT commit, whatever an older one awaits (R356). -/
def Sys.drainHalted (y : Sys) (e : Nat) : Sys :=
  let g := y.engine e
  let ready := g.halted.filter Halted.ready
  let y := y.setEngine e { g with halted := g.halted.filter fun h => !h.ready, spent := g.spent ++ ready.flatMap (·.reqs) }
  ready.foldl (fun y h => y.commitGroup (e / 16) h) y

/-- The program image and generation the group runs with (R336). -/
def Sys.groupFrame (y : Sys) (g : Engine) : Option Frame := y.frame? g.ctx g.frame

/-! ## Program faults (R367, R368) -/

/-- Kinds of program fault, in the order of event 0x0A01. -/
inductive ProgFault where
  | memRange | memAlign | memPermission | stack | outLimit | binding | timeout
  deriving DecidableEq, Repr

def ProgFault.code : ProgFault → Nat
  | .memRange => 0 | .memAlign => 1 | .memPermission => 2 | .stack => 3 | .outLimit => 4 | .binding => 5 | .timeout => 6

/-- R368: the third faulting frame in a row in the FULL entries forces the reduced look. A frame before it that is still in flight and has had no such
fault begins the row anew. -/
def Sys.forceReduced (y : Sys) (f : Frame) : Sys :=
  let c := y.ctx f.ctx
  let before := ((y.frames.filter fun h => h.ctx == f.ctx).takeWhile fun h => h.num != f.num).getLast?
  let n := if before.any fun h => !h.fullFault then 1 else c.faults + 1
  let y := (y.setCtx f.ctx { c with faults := n }).onFrame f.ctx f.num fun h => { h with fullFault := true }
  if 3 ≤ n ∧ imgReduced (f.gen.image (f.gen.lookSlot f.ctx)) ∧ y.rd (ent (0x3800 + f.ctx) 7) = 0 then
    Sys.raise (y.wr (ent (0x3800 + f.ctx) 7) 1) 0x0A08 f.ctx (ev [(0, 1, f.ctx), (1, 1, f.gen.lookSlot f.ctx), (4, 4, f.num)])
  else y

/-- The slots of a group that ends without HALT count as those of one that halts do (R352). -/
def Sys.countSlots (y : Sys) (e : Nat) : Sys :=
  (y.inc64 (ent (0x3860 + e / 16) 4) (y.engine e).slot).inc64 (ent (0x3860 + e / 16) 5) (y.engine e).stalls

/-- PROGRAM_FAULT (R367): the group stops, its writes are discarded, its frame is abandoned; 0x0A01 once for the frame. -/
def Sys.progFault (y : Sys) (e : Nat) (kind : ProgFault) : Sys :=
  let g := y.engine e
  if !g.busy then y
  else
    let t := e / 16
    let y := (y.countSlots e).setEngine e g.idle
    let y := y.inc (ent (0x3860 + t) 9)
    let y := match y.groupFrame g with
      | some f => if g.reduced || f.fullFault then y else y.forceReduced f
      | none => y
    let y := match y.groupFrame g with
      | none => y
      | some f =>
        if f.faulted then y
        else
          let y := y.onFrame f.ctx f.num fun h => { h with faulted := true }
          let y := y.inc (ent (0x3800 + f.ctx) 6)
          let y := y.raiseLimited f.ctx 0x0A01 f.ctx
            (ev [(0, 1, f.ctx), (1, 1, f.gen.lookSlot f.ctx), (2, 1, kind.code), (3, 1, g.binding), (4, 4, f.num), (8, 2, g.pc), (10, 2, e)])
          y.abandonNum f.ctx f.num
    y.groupFinished t g.ctx g.frame g.stripe g.seg

/-! ## The time limit (R364) -/

/-- Engine e after an instruction: a group that has not halted after 65,536 issue slots, parameter copy included, faults. -/
def Sys.ran (y : Sys) (e : Nat) (g : Engine) : Sys :=
  if g.busy && decide (65536 ≤ g.slot) then (y.setEngine e g).progFault e .timeout else y.setEngine e g

/-- That on engine e of the machine. -/
def onEngine (s : State) (e : Nat) (n : Need) (f : Engine → Engine) : Host.Outcome State Fault Refusal :=
  onSys s fun _ y => y.ran e ((y.engine e).run n f)

/-! ### Shapes of operand lists -/

/-- d := f a b, lane by lane. -/
def vecBin (s : State) (e d a b pr : Nat) (pn : Bool) (lat : Nat) (f : W32 → W32 → W32) : Host.Outcome State Fault Refusal :=
  onEngine s e ⟨[(fileV, a), (fileV, b), (fileP, pr)], [(fileV, d)], lat, none, 1, false⟩ fun g =>
    g.setV d (g.part pr pn) fun k => f (g.rv a k) (g.rv b k)

/-- d := f a S[b] in every lane. -/
def vecBinS (s : State) (e d a b pr : Nat) (pn : Bool) (lat : Nat) (f : W32 → W32 → W32) : Host.Outcome State Fault Refusal :=
  onEngine s e ⟨[(fileV, a), (fileS, b), (fileP, pr)], [(fileV, d)], lat, none, 1, false⟩ fun g =>
    g.setV d (g.part pr pn) fun k => f (g.rv a k) (g.rs b)

/-- d := f a b d. -/
def vecTri (s : State) (e d a b pr : Nat) (pn : Bool) (f : W32 → W32 → W32 → W32) : Host.Outcome State Fault Refusal :=
  onEngine s e ⟨[(fileV, a), (fileV, b), (fileV, d), (fileP, pr)], [(fileV, d)], 4, none, 1, false⟩ fun g =>
    g.setV d (g.part pr pn) fun k => f (g.rv a k) (g.rv b k) (g.rv d k)

/-- d := f a S[b] d. -/
def vecTriS (s : State) (e d a b pr : Nat) (pn : Bool) (f : W32 → W32 → W32 → W32) : Host.Outcome State Fault Refusal :=
  onEngine s e ⟨[(fileV, a), (fileS, b), (fileV, d), (fileP, pr)], [(fileV, d)], 4, none, 1, false⟩ fun g =>
    g.setV d (g.part pr pn) fun k => f (g.rv a k) (g.rs b) (g.rv d k)

/-- d := f a. -/
def vecUn (s : State) (e d a pr : Nat) (pn : Bool) (lat : Nat) (f : W32 → W32) : Host.Outcome State Fault Refusal :=
  onEngine s e ⟨[(fileV, a), (fileP, pr)], [(fileV, d)], lat, none, 1, false⟩ fun g =>
    g.setV d (g.part pr pn) fun k => f (g.rv a k)

/-- A transcendental: 12 slots, and the next one no sooner than 4 slots later (R345). -/
def vecTrans (s : State) (e d a pr : Nat) (pn : Bool) (f : W32 → W32) : Host.Outcome State Fault Refusal :=
  onEngine s e ⟨[(fileV, a), (fileP, pr)], [(fileV, d)], 12, some .trans, 1, true⟩ fun g =>
    g.setV d (g.part pr pn) fun k => f (g.rv a k)

/-- S[d] := f S[a] S[b]. -/
def scaBin (s : State) (e d a b lat : Nat) (f : W32 → W32 → W32) : Host.Outcome State Fault Refusal :=
  onEngine s e ⟨[(fileS, a), (fileS, b)], [(fileS, d)], lat, none, 1, false⟩ fun g => g.setS d (f (g.rs a) (g.rs b))

/-- Bit k of P[d] := f a b AND the lane's predicate. -/
def cmpBin (s : State) (e d a b pr : Nat) (pn : Bool) (f : W32 → W32 → Bool) : Host.Outcome State Fault Refusal :=
  onEngine s e ⟨[(fileV, a), (fileV, b), (fileP, pr)], [(fileP, d)], 2, none, 1, false⟩ fun g =>
    g.setP d (BitVec.ofNat 16 (bitsOf ((List.range 16).filter fun k => f (g.rv a k) (g.rv b k) && g.part pr pn k)))

/-- P[d] := f P[a] P[b]. -/
def preBin (s : State) (e d a b : Nat) (f : W16 → W16 → W16) : Host.Outcome State Fault Refusal :=
  onEngine s e ⟨[(fileP, a), (fileP, b)], [(fileP, d)], 1, none, 1, false⟩ fun g => g.setP d (f (g.rp a) (g.rp b))

/-! ## Local memory (R340, R341) -/

/-- First byte of scratch. -/
def scratchBase : Nat := 49152

/-- A rounding up to 64 bytes (R372). -/
def ceil64 (n : Nat) : Nat := (n + 63) / 64 * 64

/-- Word i of a resident image's code as every engine holds it: where a relocation names the word, its base is added to the immediate (R372). -/
def Resident.word (r : Resident) (img : Bytes) (i : Nat) : Nat :=
  (List.range (rdLe img 32 2)).foldl (fun w n =>
    let o := rdLe img 28 4 + 4 * n
    if rdLe img o 2 = i then w + (if rdLe img (o + 2) 1 = 1 then r.constBase else r.constBase + ceil64 (rdLe img 24 4)) else w) (imgWord img i)

/-- The instruction that stands next in the program of the engine's group (R331, R343, R345). -/
def Sys.programNext (y : Sys) (e : Fin 384) : Option Instr :=
  let g := y.engine e.val
  if !g.busy then none
  else
    match y.groupFrame g with
    | none => none
    | some f =>
      match y.resident.find? fun r => r.slot == f.gen.lookSlot f.ctx with
      | none => none
      | some r => instrOf e (r.word (f.gen.image r.slot) g.pc)

/-- The word at a byte address below scratch: a resident image's constants, the group's own parameter block, or the block that this engine last copied
for another image (R340, R341). What no image and no copy has filled is not stated: it is free, and the same on every engine (R339; log entry 21). -/
def Sys.constWord (y : Sys) (g : Engine) (a : Nat) : W32 :=
  match y.groupFrame g with
  | none => Config.localWord g.ctx g.frame a
  | some f =>
    let hit (r : Resident) : Option W32 :=
      let img := f.gen.image r.slot
      let clen := rdLe img 24 4
      let pbase := r.constBase + ceil64 clen
      let own := if r.slot = f.gen.lookSlot f.ctx then some f.gen.param else g.params.lookup r.slot
      if r.constBase ≤ a ∧ a < r.constBase + clen then some (BitVec.ofNat 32 (rdLe img (rdLe img 20 4 + (a - r.constBase)) 4))
      else if pbase ≤ a ∧ a < pbase + imgParam img then own.map fun b => BitVec.ofNat 32 (rdLe b (a - pbase) 4)
      else none
    (y.resident.findSome? hit).getD (Config.localWord f.ctx f.num a)

/-- The word at a byte address. -/
def Sys.localWord (y : Sys) (g : Engine) (a : Nat) : W32 :=
  if a < scratchBase then y.constWord g a
  else (g.scratch.lookup ((a - scratchBase) / 4)).getD (g.unwritten (1032 + a / 4))

/-- How an access faults, if it does (R340). -/
def memFault (store : Bool) (a : Nat) : Option ProgFault :=
  if a % 4 ≠ 0 then some .memAlign
  else if 65535 < a then some .memRange
  else if store && decide (a < scratchBase) then some .memPermission
  else none

/-- The first fault among the accesses of the lanes that take part. -/
def memFaults (store : Bool) (as : List Nat) : Option ProgFault := as.findSome? (memFault store)

/-- A scratch word written. -/
def Engine.setWord (g : Engine) (a : Nat) (v : W32) : Engine := { g with scratch := kput g.scratch ((a - scratchBase) / 4) v }

/-- Address S[bs] + 4 × off + extra, modulo 2^32 (R351). -/
def Engine.addr (g : Engine) (bs : Nat) (extra : Nat) : Nat := ((g.rs bs).toNat + extra) % 2 ^ 32

/-- An instruction that accesses local memory: one lost slot while a LUT result is awaited, a program fault where an access faults,
otherwise its effect. -/
def Sys.memRun (y : Sys) (e : Nat) (n : Need) (store : Bool) (addrs : Engine → List Nat) (f : Engine → Engine) : Sys :=
  let g := y.engine e
  if !g.busy then y
  else if g.lutPending (n.srcs ++ n.dsts) then y.ran e g.stall
  else
    match memFaults store (addrs g) with
    | some k => y.progFault e k
    | none => y.ran e (Engine.next (g.issue n f))

/-! ## Stripe memory (R353) -/

/-- The pixel at a window column and line, the nearest inside the window, as the group's segment buffer holds it. -/
def Sys.stripePixel (y : Sys) (e : Nat) (g : Engine) (f : Frame) (cx ly : Int) : Px :=
  let w := f.gen
  let c := (max 0 (min cx ((w.winWidth f.ctx : Int) - 1))).toNat
  let l := (max 0 (min ly ((w.winHeight f.ctx : Int) - 1))).toNat
  match (y.troupe (e / 16)).bufs.find? fun b => b.ctx == g.ctx && b.frame == g.frame && b.stripe == g.stripe && b.seg == g.seg with
  | none => ⟨0, 0, 0⟩
  | some b => ((b.rows.lookup (l + 8)).getD []).getD (c + 8 - g.seg * w.segWidth f.ctx) ⟨0, 0, 0⟩

/-! ## Output pixels (R355) -/

/-- round(clamp(v, 0, 1) × n), ties to even; NaN gives 0. -/
def unorm (v : W32) (n : Nat) : Nat :=
  match fpOf v with
  | .nan => 0
  | .inf neg => if neg then 0 else n
  | .fin _ _ _ =>
    let r := max 0 (min 1 (ratOf v)) * (n : Rat)
    let q := r.floor.toNat
    let d := r - (q : Rat)
    if mkRat 1 2 < d then q + 1 else if d = mkRat 1 2 then q + q % 2 else q

/-- A lane's three FP32 values in a binding format, as 16-bit fields; odd columns of 4:2:2 carry Y′ alone. -/
def packPixel (fmt col : Nat) (a b c : W32) : Nat :=
  let h (v : W32) : Nat := match fpOf v with
    | .nan => 0
    | .inf neg => if neg then 0xFBFF else 0x7BFF
    | .fin s m e => round16 s m e 0x7BFF
  let three (x y z : Nat) : Nat := x + 65536 * (y + 65536 * z)
  match fmt with
  | 0 => three (h a) (h b) (h c)
  | 1 => three (unorm a 65535) (unorm b 65535) (unorm c 65535)
  | 2 => three (unorm a 1023) (unorm b 1023) (unorm c 1023)
  | 3 => if col % 2 = 0 then three (unorm a 1023) (unorm b 1023) (unorm c 1023) else three (unorm a 1023) 0 0
  | _ => if col % 2 = 0 then three (unorm a 4095) (unorm b 4095) (unorm c 4095) else three (unorm a 4095) 0 0

/-- NaN inputs among the lanes of an output write (R355). -/
def nanCount (lanes : W16) (a b c : Nat → W32) : Nat :=
  ((List.range 16).map fun k =>
    if lanes.getLsbD k then ([a k, b k, c k].filter fun v => fpOf v = .nan).length else 0).sum

/-- Binding n may take the group's writes: enabled, with the geometry of the group's own binding (R355). -/
def Frame.outOk (f : Frame) (own n : Nat) : Bool :=
  let a := f.gen.binding f.ctx own
  let b := f.gen.binding f.ctx n
  b.enabled && a.left == b.left && a.top == b.top && a.w == b.w && a.h == b.h && a.outW == b.outW && a.outH == b.outH

/-- A held write; a later one to the same binding replaces the earlier (R356). -/
def holdWrite (outs : List Held) (h : Held) : List Held := (outs.filter fun o => o.binding != h.binding) ++ [h]

/-- The lanes of an output write: in P1 and taking part. -/
def Engine.outLanes (g : Engine) (pr : Nat) (pn : Bool) : W16 :=
  BitVec.ofNat 16 (bitsOf ((List.range 16).filter fun k => (g.rp 1).getLsbD k && g.part pr pn k))

/-- The output path already holds the writes of two groups of this engine, and this group has none there yet (R356). -/
def Engine.outBlocked (g : Engine) : Bool := decide (2 ≤ g.halted.length) && g.outs.isEmpty

/-! ## The LUT unit (R357, R358) -/

/-- Requests of an engine that are outstanding, halted groups' among them (R358). -/
def Engine.outstanding (g : Engine) : Nat := g.reqs.length + g.spent.length + (g.halted.map fun h => h.reqs.length).sum

/-- The library entry a generation names for a table slot, with its table. -/
def Sys.tableOf (y : Sys) (f : Frame) (n : Nat) : LutTable :=
  let e := rdLe (f.gen.rdB (ent (0x3C10 + f.ctx) 6)) (2 * n) 2
  lutOf (f.gen.rdB (ent (0x3C40 + e) 1)) (((y.tables.lookup e).map (·.data)).getD [])

/-- A LUT instruction: held while two requests are outstanding (counted in 0x3860 + t:07), otherwise its request is queued. LUT3.OUT counts the NaN among
its inputs (R355). -/
def Sys.lutRequest (y : Sys) (e : Nat) (kind : LutKind) (d a n pr : Nat) (pn : Bool) : Sys :=
  let g := y.engine e
  let wide := kind != .one
  let srcs := if wide then [(fileV, a), (fileV, a + 1), (fileV, a + 2), (fileP, pr)] else [(fileV, a), (fileP, pr)]
  let dsts := match kind with
    | .one => [(fileV, d)] | .three => [(fileV, d), (fileV, d + 1), (fileV, d + 2)] | .threeOut => []
  if !g.busy then y
  else if g.lutPending (srcs ++ dsts) then y.ran e g.stall
  else if 2 ≤ g.outstanding then (y.ran e g.stall).inc64 (ent (0x3860 + e / 16) 7) 1
  else
    let lanes := match kind with
      | .threeOut => g.outLanes pr pn
      | _ => BitVec.ofNat 16 (bitsOf ((List.range 16).filter (g.part pr pn)))
    let at_ (r : Nat) : List W32 := (List.range 16).map (g.rv r)
    let q : LutReq := ⟨kind, d, n, lanes, at_ a, if wide then at_ (a + 1) else [], if wide then at_ (a + 2) else [], false, 0⟩
    let queued (g : Engine) : Engine := { g with reqs := g.reqs ++ [q] }
    let y := if kind = .threeOut then y.inc64 (ent (0x3860 + e / 16) 8) (nanCount lanes (g.rv a) (g.rv (a + 1)) (g.rv (a + 2))) else y
    -- the results are due from the unit, not from the scoreboard
    y.ran e (Engine.next (g.issue ⟨srcs, [], 0, none, 1, false⟩ queued))

/-- The three results of a request in lane k. -/
def lutLane (t : LutTable) (q : LutReq) (c k : Nat) : W32 :=
  match q.kind with
  | .one => lut1 t (q.x.getD k 0)
  | _ => lut3 t c (q.x.getD k 0) (q.y.getD k 0) (q.z.getD k 0)

/-- What LUT3.OUT delivers to its binding (R357). -/
def Frame.lutHeld (f : Frame) (t : LutTable) (q : LutReq) (col : Nat) : Held :=
  let fmt := (f.gen.binding f.ctx q.dst).format
  ⟨q.dst, q.lanes, (List.range 16).map fun k => packPixel fmt (col + k) (lutLane t q 0 k) (lutLane t q 1 k) (lutLane t q 2 k)⟩

end Sys2Proof.Machine
end

