-- ==== Sys2Proof/Machine/EngineMem.lean ====
section
/-!
DEFINITION. Sys2Proof/Machine/EngineMem.lean: the memory, pixel, LUT and control instructions (R340, R345, R353 to R364), the LUT unit,
the dispatch of groups (R335, R338) and their time limit (R364).
-/

namespace Sys2Proof.Machine

/-! ## Local memory -/

/-- LD_V (R340, R345): lane k := word at S[b] + 4 off + 4k. -/
def execLdV (e : Fin 384) (d : Fin 64) (b : Fin 16) (off : BitVec 12) (pr : Fin 8) (pn : Bool) (s : State) :
    Host.Outcome State Fault Refusal :=
  onSys s fun _ y =>
    y.memRun e.val ⟨[(fileS, b.val), (fileP, pr.val)], [(fileV, d.val)], 4, some .load, 1, false⟩ false
      (fun g => ((List.range 16).filter (g.part pr.val pn)).map fun k => g.addr b.val (4 * off.toNat + 4 * k))
      fun g => g.setV d.val (g.part pr.val pn) fun k => y.localWord g (g.addr b.val (4 * off.toNat + 4 * k))

/-- ST_V (R340, R345): word at S[b] + 4 off + 4k := lane k of d. -/
def execStV (e : Fin 384) (d : Fin 64) (b : Fin 16) (off : BitVec 12) (pr : Fin 8) (pn : Bool) (s : State) :
    Host.Outcome State Fault Refusal :=
  onSys s fun _ y =>
    y.memRun e.val ⟨[(fileV, d.val), (fileS, b.val), (fileP, pr.val)], [], 0, none, 1, false⟩ true
      (fun g => ((List.range 16).filter (g.part pr.val pn)).map fun k => g.addr b.val (4 * off.toNat + 4 * k))
      fun g => ((List.range 16).filter (g.part pr.val pn)).foldl
        (fun h k => h.setWord (g.addr b.val (4 * off.toNat + 4 * k)) (g.rv d.val k)) g

/-- LD_S (R340, R345): S[d] := word at S[b] + 4 off. -/
def execLdS (e : Fin 384) (d : Fin 16) (b : Fin 16) (off : BitVec 12) (s : State) : Host.Outcome State Fault Refusal :=
  onSys s fun _ y =>
    y.memRun e.val ⟨[(fileS, b.val)], [(fileS, d.val)], 4, some .load, 1, false⟩ false
      (fun g => [g.addr b.val (4 * off.toNat)]) fun g => g.setS d.val (y.localWord g (g.addr b.val (4 * off.toNat)))

/-- ST_S (R340, R345): word at S[b] + 4 off := S[d]. -/
def execStS (e : Fin 384) (d : Fin 16) (b : Fin 16) (off : BitVec 12) (s : State) : Host.Outcome State Fault Refusal :=
  onSys s fun _ y =>
    y.memRun e.val ⟨[(fileS, d.val), (fileS, b.val)], [], 0, none, 1, false⟩ true
      (fun g => [g.addr b.val (4 * off.toNat)]) fun g => g.setWord (g.addr b.val (4 * off.toNat)) (g.rs d.val)

/-- LD_B (R340, R345): d := the word at S[b] + 4 off in every lane that takes part. -/
def execLdB (e : Fin 384) (d : Fin 64) (b : Fin 16) (off : BitVec 12) (pr : Fin 8) (pn : Bool) (s : State) :
    Host.Outcome State Fault Refusal :=
  onSys s fun _ y =>
    y.memRun e.val ⟨[(fileS, b.val), (fileP, pr.val)], [(fileV, d.val)], 4, some .load, 1, false⟩ false
      (fun g => if (List.range 16).any (g.part pr.val pn) then [g.addr b.val (4 * off.toNat)] else [])
      fun g => g.setV d.val (g.part pr.val pn) fun _ => y.localWord g (g.addr b.val (4 * off.toNat))

/-- Address of lane k of a gather or scatter: S[b] + 4 × a_k, modulo 2^32. -/
def Engine.gather (g : Engine) (a b k : Nat) : Nat := g.addr b (4 * (g.rv a k).toNat)

/-- LD_G (R340, R345): lane k := word at S[b] + 4 a_k; issue is held 4 slots. -/
def execLdG (e : Fin 384) (d a : Fin 64) (b : Fin 16) (pr : Fin 8) (pn : Bool) (s : State) : Host.Outcome State Fault Refusal :=
  onSys s fun _ y =>
    y.memRun e.val ⟨[(fileV, a.val), (fileS, b.val), (fileP, pr.val)], [(fileV, d.val)], 8, some .load, 4, false⟩ false
      (fun g => ((List.range 16).filter (g.part pr.val pn)).map (g.gather a.val b.val))
      fun g => g.setV d.val (g.part pr.val pn) fun k => y.localWord g (g.gather a.val b.val k)

/-- ST_G (R340, R345): word at S[b] + 4 a_k := d_k; on equal addresses the highest lane wins; issue is held 4 slots. -/
def execStG (e : Fin 384) (d a : Fin 64) (b : Fin 16) (pr : Fin 8) (pn : Bool) (s : State) : Host.Outcome State Fault Refusal :=
  onSys s fun _ y =>
    y.memRun e.val ⟨[(fileV, d.val), (fileV, a.val), (fileS, b.val), (fileP, pr.val)], [], 0, none, 4, false⟩ true
      (fun g => ((List.range 16).filter (g.part pr.val pn)).map (g.gather a.val b.val))
      fun g => ((List.range 16).filter (g.part pr.val pn)).foldl
        (fun h k => h.setWord (g.gather a.val b.val k) (g.rv d.val k)) g

/-! ## Pixels -/

/-- The frame and binding of the engine's group. -/
def Sys.groupBinding (y : Sys) (g : Engine) : Option (Frame × Binding) :=
  (y.groupFrame g).map fun f => (f, f.gen.binding f.ctx g.binding)

/-- PIX_IN (R353): the pixel at column ⌊x_k⌋ + dx and line ⌊y⌋ + dy into V[d] to V[d + 2]; a lane outside P1 receives +0. The
offsets are given as -8 to 8 plus 8. -/
def execPixIn (e : Fin 384) (d : Fin 62) (dx dy : Fin 17) (pr : Fin 8) (pn : Bool) (s : State) : Host.Outcome State Fault Refusal :=
  onSys s fun _ y =>
    let g := y.engine e.val
    match y.groupBinding g with
    | none => y
    | some (f, b) =>
      let px (k : Nat) : Px :=
        if (g.rp 1).getLsbD k then
          y.stripePixel e.val g f ((b.srcX (g.col + k) / 65536 : Nat) + (dx.val : Int) - 8) ((b.srcY g.line / 65536 : Nat) + (dy.val : Int) - 8)
        else ⟨0, 0, 0⟩
      y.ran e.val (g.run
        ⟨[(fileP, pr.val), (fileP, 1)], [(fileV, d.val), (fileV, d.val + 1), (fileV, d.val + 2)], 6, some .pixel, 1, false⟩ fun g =>
          let t := g.part pr.val pn
          ((g.setV d.val t fun k => ofH24 (px k).r).setV (d.val + 1) t fun k => ofH24 (px k).g).setV (d.val + 2) t
            fun k => ofH24 (px k).b)

/-- A 16-bit fraction in [0, 1) as FP32, exact (R354). -/
def frac16 (n : Nat) : W32 := round32 false (n % 65536) (-16)

/-- PIX_FRAC (R354): the fractions of x_k and of y into V[d] and V[d + 1]. -/
def execPixFrac (e : Fin 384) (d : Fin 63) (pr : Fin 8) (pn : Bool) (s : State) : Host.Outcome State Fault Refusal :=
  onSys s fun _ y =>
    let g := y.engine e.val
    match y.groupBinding g with
    | none => y
    | some (_, b) =>
      y.ran e.val (g.run ⟨[(fileP, pr.val)], [(fileV, d.val), (fileV, d.val + 1)], 2, none, 1, false⟩ fun g =>
        let t := g.part pr.val pn
        (g.setV d.val t fun k => frac16 (b.srcX (g.col + k))).setV (d.val + 1) t fun _ => frac16 (b.srcY g.line))

/-- PIX_OUT (R355, R356): V[a] to V[a + 2] converted to the binding's format and held until the group commits. -/
def execPixOut (e : Fin 384) (a : Fin 62) (binding : Fin 16) (pr : Fin 8) (pn : Bool) (s : State) : Host.Outcome State Fault Refusal :=
  onSys s fun _ y =>
    let g := y.engine e.val
    let n := binding.val
    let srcs := [(fileV, a.val), (fileV, a.val + 1), (fileV, a.val + 2), (fileP, pr.val), (fileP, 1)]
    match y.groupFrame g with
    | none => y
    | some f =>
      if !g.busy then y
      else if g.lutPending srcs || g.outBlocked then y.ran e.val g.stall
      else if !f.outOk g.binding n then y.progFault e.val .binding
      else if 16 ≤ g.writes then y.progFault e.val .outLimit
      else
        let lanes := g.outLanes pr.val pn
        let fmt := (f.gen.binding f.ctx n).format
        let h : Held := ⟨n, lanes, (List.range 16).map fun k =>
          packPixel fmt (g.col + k) (g.rv a.val k) (g.rv (a.val + 1) k) (g.rv (a.val + 2) k)⟩
        let y := y.inc64 (ent (0x3860 + e.val / 16) 8) (nanCount lanes (g.rv a.val) (g.rv (a.val + 1)) (g.rv (a.val + 2)))
        y.ran e.val (g.run ⟨srcs, [], 0, none, 1, false⟩ fun g => { g with outs := holdWrite g.outs h, writes := g.writes + 1 })

/-! ## The LUT unit -/

/-- LUT1 (R357, R358). -/
def execLut1 (e : Fin 384) (d a : Fin 64) (table : Fin 8) (pr : Fin 8) (pn : Bool) (s : State) : Host.Outcome State Fault Refusal :=
  onSys s fun _ y => y.lutRequest e.val .one d.val a.val table.val pr.val pn

/-- LUT3 (R357, R358). -/
def execLut3 (e : Fin 384) (d a : Fin 62) (table : Fin 8) (pr : Fin 8) (pn : Bool) (s : State) : Host.Outcome State Fault Refusal :=
  onSys s fun _ y => y.lutRequest e.val .three d.val a.val table.val pr.val pn

/-- LUT3_OUT (R355 to R358): its binding and the write limit are checked as for PIX_OUT. -/
def execLut3Out (e : Fin 384) (binding : Fin 16) (a : Fin 62) (table : Fin 8) (pr : Fin 8) (pn : Bool) (s : State) :
    Host.Outcome State Fault Refusal :=
  onSys s fun _ y =>
    let g := y.engine e.val
    match y.groupFrame g with
    | none => y
    | some f =>
      if !g.busy then y
      else if !f.outOk g.binding binding.val then y.progFault e.val .binding
      else if 16 ≤ g.writes then y.progFault e.val .outLimit
      else
        let y := y.lutRequest e.val .threeOut binding.val a.val table.val pr.val pn
        if (y.engine e.val).reqs.length ≠ g.reqs.length + 1 then y
        else y.setEngine e.val { y.engine e.val with writes := g.writes + 1 }

/-- A request that the unit has not accepted waits on the engine. -/
def Engine.waiting (g : Engine) : Bool :=
  g.spent.any (fun q => !q.accepted) || g.reqs.any (fun q => !q.accepted) || g.halted.any fun h => h.reqs.any fun q => !q.accepted

/-- The first of a list of requests that is not accepted becomes so, at the engine's slot. -/
def acceptFirst (slot : Nat) : List LutReq → List LutReq
  | [] => []
  | q :: r => if q.accepted then q :: acceptFirst slot r else { q with accepted := true, slot := slot } :: r

/-- The oldest waiting request of an engine is accepted: those of ended groups come first, then halted groups'. -/
def Engine.accept (g : Engine) : Engine :=
  if g.spent.any (fun q => !q.accepted) then { g with spent := acceptFirst g.slot g.spent }
  else if g.halted.any fun h => h.reqs.any fun q => !q.accepted then
    let before := g.halted.takeWhile fun h => !(h.reqs.any fun q => !q.accepted)
    match g.halted.drop before.length with
    | [] => g
    | h :: r => { g with halted := before ++ { h with reqs := acceptFirst g.slot h.reqs } :: r }
  else { g with reqs := acceptFirst g.slot g.reqs }

/-- LUT_REQUEST_ACCEPT (R358): the unit accepts one request, serving the engines that wait in rotating order. -/
def execLutRequestAccept (troupe : Fin 24) (s : State) : Host.Outcome State Fault Refusal :=
  onSys s fun _ y =>
    let t := troupe.val
    let u := y.troupe t
    match ((List.range 16).map fun i => (u.lutLast + 1 + i) % 16).find? fun k => (y.engine (16 * t + k)).waiting with
    | none => y
    | some k =>
      let y := y.setTroupe t { u with lutLast := k }
      let y := y.setEngine (16 * t + k) (y.engine (16 * t + k)).accept
      y.inc64 (ent (0x3860 + t) 6) 1

/-- The registers that a request writes are usable 20 slots after its acceptance (R358). -/
def Engine.lutDue (g : Engine) (q : LutReq) (regs : List Nat) : Engine :=
  { g with due := g.due ++ regs.map fun r => ⟨fileV, r, q.slot + 20, some .lut⟩ }

/-- What a request of a halted group delivers: LUT3.OUT to its binding, the others to nobody. -/
def Sys.lutHaltedOut (y : Sys) (h : Halted) (q : LutReq) : Halted :=
  match q.kind, y.frame? h.ctx h.frame with
  | .threeOut, some f => { h with reqs := h.reqs.erase q, outs := holdWrite h.outs (f.lutHeld (y.tableOf f q.table) q h.col) }
  | _, _ => { h with reqs := h.reqs.erase q }

/-- What a request of the running group delivers. -/
def Sys.lutOwnOut (y : Sys) (g : Engine) (q : LutReq) (f : Frame) : Engine :=
  let t := y.tableOf f q.table
  let g1 := { g with reqs := g.reqs.erase q }
  let take (k : Nat) : Bool := q.lanes.getLsbD k
  match q.kind with
  | .one => (g1.setV q.dst take (lutLane t q 0)).lutDue q [q.dst]
  | .three =>
    Engine.lutDue (((g1.setV q.dst take (lutLane t q 0)).setV (q.dst + 1) take (lutLane t q 1)).setV (q.dst + 2) take (lutLane t q 2)) q
      [q.dst, q.dst + 1, q.dst + 2]
  | .threeOut => { g1 with outs := holdWrite g1.outs (f.lutHeld t q g.col) }

/-- LUT_RESULT (R357, R358): the engine's oldest accepted request delivers: to V registers, to a binding, or to nobody where its group has ended. -/
def execLutResult (e : Fin 384) (s : State) : Host.Outcome State Fault Refusal :=
  onSys s fun _ y =>
    let i := e.val
    let g := y.engine i
    match g.spent.find? (·.accepted) with
    | some q => y.setEngine i { g with spent := g.spent.erase q }
    | none =>
      match g.halted.findIdx? fun h => h.reqs.any (·.accepted) with
      | some n =>
        match g.halted[n]? with
        | none => y
        | some h =>
          match h.reqs.find? (·.accepted) with
          | some q => Sys.drainHalted (y.setEngine i { g with halted := g.halted.set n (y.lutHaltedOut h q) }) i
          | none => y
      | none =>
        match g.reqs.find? (·.accepted), y.groupFrame g with
        | some q, some f => y.setEngine i (y.lutOwnOut g q f)
        | _, _ => y

/-! ## Control -/

/-- A word offset applied to a word index (R360). -/
def jump (pc : Nat) (off : BitVec 21) : Nat := ((pc : Int) + off.toInt).toNat

/-- Control leaves the word: nothing while the engine holds no group. -/
def Sys.control1 (y : Sys) (e : Nat) (n : Need) (f : Engine → Engine) : Sys :=
  let g := y.engine e
  if g.busy then y.ran e (g.issue n f) else y

/-- BR (R360): the next instruction issues 2 slots later. -/
def execBr (e : Fin 384) (off : BitVec 21) (s : State) : Host.Outcome State Fault Refusal :=
  onSys s fun _ y => y.control1 e.val ⟨[], [], 0, none, 2, false⟩ fun g => { g with pc := jump g.pc off }

/-- BRP's condition: P[pr] AND P1 against ANY, ALL or NONE (R360). -/
def Engine.branches (g : Engine) (pr : Nat) (mode : BranchMode) : Bool :=
  let p := g.rp pr
  let v := g.rp 1
  match mode with
  | .any => p &&& v != 0
  | .all => p &&& v == v
  | .none => p &&& v == 0

/-- BRP (R360): 2 slots when taken, 1 when not. -/
def execBrp (e : Fin 384) (pr : Fin 8) (mode : BranchMode) (off : BitVec 21) (s : State) : Host.Outcome State Fault Refusal :=
  onSys s fun _ y =>
    let g := y.engine e.val
    let srcs := [(fileP, pr.val), (fileP, 1)]
    if g.branches pr.val mode then
      y.control1 e.val ⟨srcs, [], 0, none, 2, false⟩ fun g => { g with pc := jump g.pc off }
    else y.ran e.val (g.run ⟨srcs, [], 0, none, 1, false⟩ id)

/-- LOOP (R361): S[c] iterations of the len words that follow; a count of 0 skips them in 2 slots; a fifth level faults. -/
def execLoop (e : Fin 384) (c : Fin 16) (len : BitVec 12) (s : State) : Host.Outcome State Fault Refusal :=
  onSys s fun _ y =>
    let g := y.engine e.val
    let n := (g.rs c.val).toNat
    let srcs := [(fileS, c.val)]
    if !g.busy then y
    else if n = 0 then
      y.control1 e.val ⟨srcs, [], 0, none, 2, false⟩ fun g => Engine.next { g with pc := g.pc + len.toNat }
    else if 4 ≤ g.loops.length then y.progFault e.val .stack
    else y.control1 e.val ⟨srcs, [], 0, none, 1, false⟩ fun g =>
      { g with pc := g.pc + 1, loops := ⟨g.pc + 1, g.pc + 1 + len.toNat, n⟩ :: g.loops }

/-- CALL (R362): the ninth nested call faults. -/
def execCall (e : Fin 384) (off : BitVec 21) (s : State) : Host.Outcome State Fault Refusal :=
  onSys s fun _ y =>
    let g := y.engine e.val
    if g.busy && decide (8 ≤ g.calls.length) then y.progFault e.val .stack
    else y.control1 e.val ⟨[], [], 0, none, 2, false⟩ fun g => { g with pc := jump g.pc off, calls := (g.pc + 1) :: g.calls }

/-- RET (R362): an empty stack faults. -/
def execRet (e : Fin 384) (s : State) : Host.Outcome State Fault Refusal :=
  onSys s fun _ y =>
    let g := y.engine e.val
    if g.busy && g.calls.isEmpty then y.progFault e.val .stack
    else y.control1 e.val ⟨[], [], 0, none, 2, false⟩ fun g =>
      let r := loopBack g.loops (g.calls.headD 0)
      { g with pc := r.2, loops := r.1, calls := g.calls.drop 1 }

/-- Issue is held until no result is pending in the classes of the mask: [0] loads, [1] PIX.IN, [2] LUT, [3] transcendentals
(R363). The hold is the instruction's own; the slots that R352 counts as stalls are those of its four conditions. -/
def Sys.waitFor (y : Sys) (e : Nat) (mask : BitVec 4) : Sys :=
  let g := y.engine e
  let inMask (c : WaitClass) : Bool :=
    match c with | .load => mask.getLsbD 0 | .pixel => mask.getLsbD 1 | .lut => mask.getLsbD 2 | .trans => mask.getLsbD 3
  if !g.busy then y
  else if mask.getLsbD 2 && !g.reqs.isEmpty then y.ran e { g with slot := g.slot + 1 }
  else
    let t := (g.due.filter fun d => d.cls.any inMask).foldl (fun t d => max t d.slot) g.slot
    y.ran e (Engine.next { g with slot := t + 1 })

/-- SYNC (R363): WAIT with every class. -/
def execSync (e : Fin 384) (s : State) : Host.Outcome State Fault Refusal := onSys s fun _ y => y.waitFor e.val 0xF

/-- WAIT (R363). -/
def execWait (e : Fin 384) (mask : BitVec 4) (s : State) : Host.Outcome State Fault Refusal := onSys s fun _ y => y.waitFor e.val mask

/-- HALT (R356, R364): the group ends and both stacks empty; it commits once its LUT3.OUT deliveries are done. Its cost for R366 leaves out the
parameter copy, which I does not hold (R365). -/
def execHalt (e : Fin 384) (s : State) : Host.Outcome State Fault Refusal :=
  onSys s fun _ y =>
    let g := y.engine e.val
    if !g.busy then y
    else
      let t := e.val / 16
      let slots := g.slot + 1
      let y := (y.inc64 (ent (0x3860 + t) 3) 1).inc64 (ent (0x3860 + t) 4) slots
      let y := y.inc64 (ent (0x3860 + t) 5) g.stalls
      let h : Halted :=
        { ctx := g.ctx, frame := g.frame, stripe := g.stripe, seg := g.seg, reduced := g.reduced, binding := g.binding, col := g.col,
          line := g.line, lanes := g.lanes, slots := slots - g.copy, outs := g.outs, reqs := g.reqs }
      Sys.drainHalted (y.setEngine e.val { g with reqs := [], halted := g.halted ++ [h] }.idle) e.val

/-- NOP (R345): one slot. -/
def execNop (e : Fin 384) (s : State) : Host.Outcome State Fault Refusal :=
  onEngine s e.val ⟨[], [], 1, none, 1, false⟩ id

/-! ## Dispatch (R335, R338, R341) and the time limit (R364) -/

/-- The next group of a dispatched segment buffer: one to run again first. -/
def Sys.nextGroup (y : Sys) (b : SegBuf) : Option (Nat × Nat × Nat × Nat) :=
  match b.again with
  | q :: _ => some q
  | [] => (y.bufGroups b)[b.started]?

/-- ENGINE_GROUP_DISPATCH (R335, R338, R341): a free engine in service takes the next group of its Troupe's oldest dispatched
segment; the parameter block is copied first when context or frame changed. -/
def execEngineGroupDispatch (e : Fin 384) (s : State) : Host.Outcome State Fault Refusal :=
  onSys s fun _ y =>
    let i := e.val
    let t := i / 16
    let g := y.engine i
    if g.busy || !y.engineIn i then y
    else
      match (y.troupe t).bufs.find? fun b => b.dispatched && (y.nextGroup b).isSome &&
          (y.frame? b.ctx b.frame).any fun f => decide (g.notBefore ≤ f.latch) with
      | none => y
      | some b =>
        match y.nextGroup b, y.frame? b.ctx b.frame with
        | some (n, col, line, lanes), some f =>
          let red := match f.stripe? b.stripe with | some st => st.reduced | none => false
          let img := f.gen.image (f.gen.lookSlot f.ctx)
          let copy := if g.copied = some (f.ctx, f.num) then 0 else (imgParam img + 63) / 64
          let word (k : Nat) : W32 := if 4 * k < imgParam img then BitVec.ofNat 32 (rdLe f.gen.param (4 * k) 4) else 0
          let s15 := n + 16 * f.ctx + (if red then 256 else 0)
          let regs := (List.range 12).map word ++ [BitVec.ofNat 32 col, BitVec.ofNat 32 line, BitVec.ofNat 32 f.num, BitVec.ofNat 32 s15]
          let y := y.onBuf t b fun c => match c.again with
            | _ :: r => { c with again := r }
            | [] => { c with started := c.started + 1 }
          Sys.setEngine { y with seed := y.seed + 32768 } i
            { g with busy := true, ctx := f.ctx, frame := f.num, binding := n, reduced := red, stripe := b.stripe, seg := b.seg, col := col,
                     line := line, lanes := lanes, pc := ((imgEntry img (if red then 1 else 0) n).map (·.1)).getD 0, s := regs, v := [],
                     p := [(1, BitVec.ofNat 16 (2 ^ lanes - 1))], entrySeed := y.seed, calls := [], loops := [], slot := copy,
                     stalls := 0, due := [], transFree := 0, outs := [], writes := 0, reqs := [], copied := some (f.ctx, f.num), copy := copy,
                     params := tset (fun _ => []) g.params (f.gen.lookSlot f.ctx) f.gen.param }
        | _, _ => y

/-- ENGINE_GROUP_TIMEOUT (R364, R367): the slots up to the limit go by without an issue, which R352 counts as stalls. -/
def execEngineGroupTimeout (e : Fin 384) (s : State) : Host.Outcome State Fault Refusal :=
  onSys s fun _ y =>
    let g := y.engine e.val
    if g.busy then (y.setEngine e.val { g with slot := max g.slot 65536, stalls := g.stalls + (65536 - g.slot) }).progFault e.val .timeout else y

end Sys2Proof.Machine
end

