-- ==== Sys2Proof/Machine/Fences.lean ====
section
/-!
DEFINITION. Sys2Proof/Machine/Fences.lean: parity errors and retests of engines and Troupes (R369, R370, R423, R424), the loads of
images and tables (R359, R372, R374), and what is resident.
-/

namespace Sys2Proof.Machine

/-! ## Fencing -/

/-- The stripe in a fenced Troupe is given up: a pass that still runs goes on for its statistics alone (R370, R423). -/
def Frame.fenceStripe (f : Frame) (k : Nat) : Frame :=
  f.onStripe k fun s =>
    if s.passed then { s with done := true } else { s with mode := .statsOnly, rfe := none, written := 0, troupe := none }

/-- Every engine of a Troupe loses its group and what it had not committed. -/
def Sys.clearEngines (y : Sys) (t : Nat) : Sys :=
  upto 16 (fun k y => Sys.setEngine (if (y.engine (16 * t + k)).busy then y.countSlots (16 * t + k) else y) (16 * t + k)
    { (y.engine (16 * t + k)).idle with halted := [], copied := none, spent := [] }) y

/-- Troupe t is fenced: its stripe's frame is abandoned, its tables are to be loaded again, its neighbours get halos, and the reserve and every started
frame are judged again (R370, R423, R424, R62). `cause` is that of event 0x0A03. -/
def Sys.fenceTroupe (y : Sys) (t cause : Nat) : Sys :=
  let hit := (y.troupe t).held
  let y := y.wr (ent (0x3860 + t) 1) 1
  let y := match hit with
    | some (x, n, k) => (y.abandonNum x n).onFrame x n fun f => f.fenceStripe k
    | none => y
  let y := y.raise 0x0A03 t (ev [(0, 1, t), (1, 1, cause), (2, 1, (hit.map (·.1)).getD 0xFF), (4, 4, (hit.map (·.2.1)).getD 0)])
  let y : Sys := { y with pages := y.pages.map fun p => { p with loaded := p.loaded.filter (· != t) } }
  let y := y.setTroupe t { y.troupe t with held := none, bufs := [], idle := none, returning := false }
  Sys.checkSeams (Sys.shutOutCheck (Sys.troupesOpen (Sys.fillEdges (y.clearEngines t))))

/-- ENGINE_PARITY_ERROR (R369): the engine is fenced and its groups run again elsewhere; fewer than 8 engines fence the Troupe.
The cause that event 0x0A03 then carries is not stated: it is free (log entry 1). -/
def execEngineParityError (e : Fin 384) (cause : EngineFault) (s : State) : Host.Outcome State Fault Refusal :=
  onSys s fun _ y =>
    let i := e.val
    let t := i / 16
    let g := y.engine i
    let code := match cause with | .instructionStore => 0 | .localMemory => 1 | .registerFile => 2
    let lost := (if g.busy then [(g.ctx, g.frame, g.stripe, g.seg, g.binding, g.col, g.line, g.lanes)] else []) ++
      g.halted.map fun h => (h.ctx, h.frame, h.stripe, h.seg, h.binding, h.col, h.line, h.lanes)
    let y := if g.busy then y.countSlots i else y
    let y := y.wrBit (ent (0x3860 + t) 2) (i % 16) false
    let y := y.inc (ent (0x3860 + t) 0x0A)
    let y := y.setEngine i { g.idle with halted := [], copied := none }
    let u := y.troupe t
    let y := y.setTroupe t { u with
      enginesReturning := u.enginesReturning.filter (· != i % 16)
      bufs := u.bufs.map fun b => { b with again := b.again ++ lost.filterMap fun q =>
        if b.ctx == q.1 && b.frame == q.2.1 && b.stripe == q.2.2.1 && b.seg == q.2.2.2.1 then some q.2.2.2.2 else none } }
    let y := y.raise 0x0A02 t (ev [(0, 2, i), (2, 1, code), (3, 1, if g.busy then g.ctx else 0xFF), (4, 4, if g.busy then g.frame else 0)])
    if popcount 16 (y.rd (ent (0x3860 + t) 2)) < 8 ∧ y.troupeRun t then
      let (c, y) := y.free 8
      y.fenceTroupe t c
    else y

/-- Engine e is fenced, and no retest of it has ended (R369). -/
def Sys.engineInTest (y : Sys) (i : Nat) : Bool :=
  let u := y.troupe (i / 16)
  !y.rdBit (ent (0x3860 + i / 16) 2) (i % 16) && !u.enginesFailed.contains (i % 16) && !u.enginesReturning.contains (i % 16)

/-- ENGINE_RETEST_DONE (R369): an engine that passes returns at the next latch point of an active context; one that fails stays
fenced until the next cold reset. An engine that is not fenced, or whose retest has ended, has none. -/
def execEngineRetestDone (e : Fin 384) (passed : Bool) (s : State) : Host.Outcome State Fault Refusal :=
  onSys s fun _ y =>
    let i := e.val
    let u := y.troupe (i / 16)
    if !y.engineInTest i then y else
    let y := y.setTroupe (i / 16) (if passed then { u with enginesReturning := u.enginesReturning ++ [i % 16] }
      else { u with enginesFailed := u.enginesFailed ++ [i % 16] })
    y.raise 0x0A04 (i / 16) (ev [(1, 2, i), (3, 1, if passed then 0 else 1)])

/-- TROUPE_PARITY_ERROR (R370): one that is fenced or has failed already stays so; one that waits for its return is fenced anew. -/
def execTroupeParityError (troupe : Fin 24) (cause : TroupeFault) (s : State) : Host.Outcome State Fault Refusal :=
  onSys s fun _ y =>
    let code := match cause with | .stripeMemory => 0 | .tableMemory => 1 | .outputPath => 2
    let t := troupe.val
    let y := y.inc (ent (0x3860 + t) 0x0A)
    if y.rd (ent (0x3860 + t) 1) = 0 ∨ (y.troupe t).returning then y.fenceTroupe t code else y

/-- A Troupe's retest ends (R370): one that passes has its tables again and returns at the next latch point, one that fails stays FAILED. A Troupe that is
not fenced, or whose retest has ended, has none. -/
def Sys.troupeRetested (y : Sys) (t : Nat) (passed : Bool) : Sys :=
  if y.rd (ent (0x3860 + t) 1) = 0 ∨ y.rd (ent (0x3860 + t) 1) = 3 ∨ (y.troupe t).returning then y else
  let y : Sys := if passed then
      { y with pages := y.pages.map fun p => if p.placed.contains t && !p.loaded.isEmpty then { p with loaded := (t :: p.loaded).eraseDups } else p }
    else y
  let y := y.wr (ent (0x3860 + t) 1) (if passed then 2 else 3)
  let y := y.setTroupe t { y.troupe t with returning := passed }
  y.raise 0x0A04 t (ev [(0, 1, 1), (1, 2, t), (3, 1, if passed then 0 else 1)])

/-- TROUPE_RETEST_DONE (R370). -/
def execTroupeRetestDone (troupe : Fin 24) (passed : Bool) (s : State) : Host.Outcome State Fault Refusal :=
  onSys s fun _ y => y.troupeRetested troupe.val passed

/-- A frame boundary: engines and Troupes that passed their retest enter the pool, for frames that latch from now on (R369, R370,
R424); a Troupe with fewer than 8 engines in service stays fenced (R369). -/
def Sys.returnUnits (y : Sys) : Sys :=
  upto 24 (fun t y =>
    let u := y.troupe t
    let y := u.enginesReturning.foldl (fun y k =>
      let i := 16 * t + k
      Sys.setEngine (y.wrBit (ent (0x3860 + t) 2) k true) i { y.engine i with notBefore := y.t96 })
      (y.setTroupe t { u with enginesReturning := [] })
    if u.returning ∧ 8 ≤ popcount 16 (y.rd (ent (0x3860 + t) 2)) then
      Sys.setTroupe (y.wr (ent (0x3860 + t) 1) 0) t { y.troupe t with returning := false, notBefore := y.t96, freeSince := y.up }
    else y) y

/-! ## Resident images (R372) -/

/-- Code length and local bytes of an image. -/
def imgCode (img : Bytes) : Nat := rdLe img 16 2
def imgLocal (img : Bytes) : Nat := ceil64 (rdLe img 24 4) + ceil64 (imgParam img)

/-- First fit of `need` at a multiple of `step` between the listed (start, length) ranges, below `limit`: candidates are 0 and the
end of each range. -/
def firstFit (used : List (Nat × Nat)) (need step limit : Nat) : Option Nat :=
  let up (n : Nat) : Nat := (n + step - 1) / step * step
  let cands := 0 :: used.map fun r => up (r.1 + r.2)
  let ok (c : Nat) : Bool := decide (c + need ≤ limit) && used.all fun r => decide (c + need ≤ r.1) || decide (r.1 + r.2 ≤ c)
  (cands.filter ok).foldl (fun a c => match a with | none => some c | some b => some (min b c)) none

/-- Slots that are live or pending for a context, or kept resident. -/
def Sys.wantResident (y : Sys) : List Nat :=
  let pending := (List.range 16).flatMap fun x => (y.pendingFor (ent (0x3800 + x) 1)).map unLe
  (List.range 16).filter fun s =>
    pending.contains s || y.rd (ent (0x3840 + s) 7) == 1 ||
    ((List.range 16).any fun x => y.rd (ent (0x3800 + x) 1) == s) ||
    y.frames.any fun f => f.gen.lookSlot f.ctx == s

/-- The image slot s takes a placement; none where no space is left or a relocated sum exceeds 16 bits (R372). -/
def Sys.place (y : Sys) (s : Nat) : Option Resident :=
  let img := y.rdB (ent (0x3840 + s) 1)
  if img.isEmpty then none
  else
    let of (r : Resident) : Bytes := y.rdB (ent (0x3840 + r.slot) 1)
    let codes := y.resident.map fun r => (r.codeBase * 4, imgCode (of r))
    let locals := y.resident.map fun r => (r.constBase, imgLocal (of r))
    match firstFit codes (imgCode img) 4 16384, firstFit locals (imgLocal img) 64 scratchBase with
    | some c, some l =>
      let param := l + ceil64 (rdLe img 24 4)
      let fits := (List.range (rdLe img 32 2)).all fun i =>
        let o := rdLe img 28 4 + 4 * i
        decide ((imgWord img (rdLe img o 2)) % 65536 + (if rdLe img (o + 2) 1 = 1 then l else param) < 65536)
      if fits then some ⟨s, c / 4, l, false, none⟩ else none
    | _, _ => none

/-- The entries of 0x3880 follow the resident set. -/
def Sys.showResident (y : Sys) : Sys :=
  let of (r : Resident) : Bytes := y.rdB (ent (0x3840 + r.slot) 1)
  let y := y.wr (ent 0x3880 2) (16384 - (y.resident.map fun r => imgCode (of r)).sum)
  let y := y.wr (ent 0x3880 3) (scratchBase - (y.resident.map fun r => imgLocal (of r)).sum)
  y.wr (ent 0x3880 4) (bitsOf (y.resident.map (·.slot)))

/-- Images no longer wanted stop being resident. -/
def Sys.dropResident (y : Sys) : Sys :=
  let want := y.wantResident
  Sys.showResident { y with resident := y.resident.filter fun r => want.contains r.slot }

/-- Slot s is made resident: none where placement fails (R372). An image already resident keeps its placement; no block has been copied into a new one's
parameter region. -/
def Sys.makeResident (y : Sys) (s : Nat) : Option Sys :=
  if y.resident.any (·.slot == s) then some y
  else (y.place s).map fun r =>
    Sys.showResident (y.engines.foldl (fun y p => y.setEngine p.1 { p.2 with params := terase s p.2.params }) { y with resident := y.resident ++ [r] })

/-- KEEP_RESIDENT_WRITE (R372): an image without space is refused with RANGE, and the entry keeps its value. -/
def Sys.keepResident (y : Sys) (s v : Nat) : Status × Sys :=
  if 1 < v then (.range, y)
  else if v = 0 then (.ok, (y.wr (ent (0x3840 + s) 7) 0).dropResident)
  else if (y.rdB (ent (0x3840 + s) 1)).isEmpty then (.ok, y.wr (ent (0x3840 + s) 7) 1)
  else
    match y.makeResident s with
    | some z => (.ok, z.wr (ent (0x3840 + s) 7) 1)
    | none => (.range, y)

/-- IMAGE_LOAD_DONE (R374): every engine holds the image; a load that stripes waited for is reported. -/
def execImageLoadDone (slot : Fin 16) (s : State) : Host.Outcome State Fault Refusal :=
  onSys s fun _ y =>
    match y.resident.find? (fun (r : Resident) => r.slot == slot.val && !r.loaded) with
    | none => y
    | some r =>
      let y : Sys := { y with resident := y.resident.map fun q =>
        if q.slot = slot.val then { q with loaded := true, since := none } else q }
      match r.since, y.frames.find? (fun f => f.gen.lookSlot f.ctx == slot.val) with
      | some t, some f =>
        y.raise 0x0A07 f.ctx (ev [(0, 1, f.ctx), (1, 1, slot.val), (4, 4, (y.up - t) / 1000), (8, 4, f.num)])
      | _, _ => y

/-! ## Table pages (R359, R391) -/

/-- Pages of a library entry's table: its data size is fixed by its header (R388). -/
def tableSize (h : Bytes) : Nat :=
  let n := rdLe h 8 4
  if rdLe h 5 1 = 1 then 4 * n else 6 * n * n * n
def tablePages (h : Bytes) : Nat := (tableSize h + 65535) / 65536

/-- Pages in use in Troupe t (0x3860 + t:0B). -/
def Sys.pagesUsed (y : Sys) (t : Nat) : Nat := ((y.pages.filter fun p => p.placed.contains t).map (·.pages)).sum
def Sys.showPages (y : Sys) : Sys := upto 24 (fun t y => y.wr (ent (0x3860 + t) 0x0B) (y.pagesUsed t)) y

/-- Library entries that a context names, live or pending for a latch point. -/
def Sys.tablesNamed (y : Sys) : List Nat :=
  (List.range 16).flatMap fun x => y.view.tableEntries x ++
    (y.pendingFor (ent (0x3C10 + x) 6)).flatMap fun b => (List.range 8).map fun i => rdLe b (2 * i) 2

/-- A stripe of a frame in flight uses the table in Troupe t: one that it holds, or one that may still open there. -/
def Sys.tableInUse (y : Sys) (e t : Nat) : Bool :=
  y.frames.any fun f => (f.gen.tableEntries f.ctx).contains e && f.stripes.any fun s =>
    s.mode == .waiting || (s.mode == .opened && !s.done && s.troupe == some t)

/-- A table takes pages in every Troupe that has them free, in the order in which tables were named (R359). -/
def Sys.placeTables (y : Sys) : Sys :=
  y.pages.foldl (fun y p => { y with pages := y.pages.map fun q =>
    if q.entry = p.entry then
      { q with placed := q.placed ++ (List.range 24).filter fun t => !q.placed.contains t && decide (y.pagesUsed t + q.pages ≤ 32) }
    else q }) y

/-- Tables that no context names any longer are freed in each Troupe when the last stripe using them leaves it; tables that wait for pages take them
(R359). -/
def Sys.freeTables (y : Sys) : Sys :=
  let named := y.tablesNamed
  let pages := (y.pages.map fun p =>
    if named.contains p.entry then p
    else { p with placed := p.placed.filter (y.tableInUse p.entry), loaded := p.loaded.filter (y.tableInUse p.entry) }).filter fun p =>
      named.contains p.entry || !p.placed.isEmpty
  Sys.showPages (Sys.placeTables { y with pages := pages })

/-- Tables named from now on are queued for loading into free pages (R359). -/
def Sys.wantTables (y : Sys) (entries : List Nat) : Sys :=
  let y := entries.foldl (fun y e =>
    if y.pages.any (·.entry == e) then y
    else { y with pages := y.pages ++ [⟨e, y.rdB (ent (0x3C40 + e) 6), tablePages (y.rdB (ent (0x3C40 + e) 1)), [], [], []⟩] }) y
  y.placeTables.showPages

/-- A Troupe's wait for a table ends: it is counted and reported (R359, R377). -/
def Sys.tableWaited (y : Sys) (e t t0 : Nat) : Sys :=
  match y.frames.find? fun f => (f.gen.tableEntries f.ctx).contains e with
  | some f =>
    let slot := ((List.range 8).find? fun i => rdLe (f.gen.rdB (ent (0x3C10 + f.ctx) 6)) (2 * i) 2 == e).getD 0
    (y.inc (ent (0x3860 + t) 0x0C)).raiseLimited t 0x0A05 t
      (ev [(0, 1, t), (1, 1, slot), (2, 1, f.ctx), (4, 4, (y.up - t0) / 1000), (8, 4, f.num)])
  | none => y

/-- TABLE_LOAD_DONE (R359, R377): one read has brought the table to every Troupe that has pages for it; a wait of stripes is counted and reported for each
Troupe. -/
def execTableLoadDone (entry : Fin 64) (s : State) : Host.Outcome State Fault Refusal :=
  onSys s fun _ y =>
    let e := entry.val
    match y.pages.find? (fun p => p.entry == e && p.placed.any fun t => !p.loaded.contains t) with
    | none => y
    | some p =>
      let y : Sys := { y with pages := y.pages.map fun q =>
        if q.entry = e then { q with loaded := p.placed, since := p.since.filter fun w => !p.placed.contains w.1 } else q }
      (p.since.filter fun w => p.placed.contains w.1 && !p.loaded.contains w.1).foldl (fun y w => y.tableWaited e w.1 w.2) y

end Sys2Proof.Machine
end

