-- ==== Sys2Proof/Machine/Colour.lean ====
section
/-!
DEFINITION. Sys2Proof/Machine/Colour.lean: calibration sets, the camera and output blocks, and the table library (R380 to R400). The
manual computes matrices and tables in FP64 and rounds to FP32; the model computes them as exact rationals, or with 64
fraction bits where a logarithm is taken, and rounds once (log entry 24).
-/

namespace Sys2Proof.Machine

/-! ## Real functions -/

/-- log₂ of a positive rational, in units of 2^-56. -/
def log2R (r : Rat) : Int :=
  let n := r.num.toNat
  let d := r.den
  let e : Int := (Nat.log2 n : Int) - Nat.log2 d
  -- r / 2^e lies in (1/2, 2)
  let m := if 0 ≤ e then n * 2 ^ 64 / (d * 2 ^ e.toNat) else n * 2 ^ (64 + (-e).toNat) / d
  let (m, e) := if m < 2 ^ 64 then (2 * m, e - 1) else (m, e)
  e * 2 ^ 56 + log2Frac 56 m 0

/-- 2^(x / 2^56). -/
def exp2R (x : Int) : Rat :=
  let i := x / 2 ^ 56
  let v : Rat := mkRat (exp2Frac (x % 2 ^ 56).toNat 56 (2 * 2 ^ 64) (2 ^ 64)) (2 ^ 64)
  if 0 ≤ i then v * ((2 ^ i.toNat : Nat) : Rat) else v / ((2 ^ (-i).toNat : Nat) : Rat)

/-- r^p for r ≥ 0. -/
def powR (r p : Rat) : Rat := if r ≤ 0 then 0 else exp2R (p * (log2R r : Rat)).floor

/-- ln r and e^x. -/
def ln2 : Rat := mkRat 6931471805599453094172321214581 10000000000000000000000000000000
def lnR (r : Rat) : Rat := (log2R r : Rat) / ((2 ^ 56 : Nat) : Rat) * ln2
def expR (x : Rat) : Rat := exp2R (x / ln2 * ((2 ^ 56 : Nat) : Rat)).floor
/-- log₁₀ r. -/
def log10R (r : Rat) : Rat := (log2R r : Rat) / (log2R 10 : Rat)
/-- √r. -/
def sqrtR (r : Rat) : Rat := powR r (1 / 2)

/-! ## Matrices (R394, R395) -/

abbrev Mat := List (List Rat)

def Mat.at (m : Mat) (i j : Nat) : Rat := (m.getD i []).getD j 0
/-- Product of a 3 × 3 matrix and a matrix of three rows. -/
def Mat.mul (a b : Mat) : Mat :=
  (List.range 3).map fun i => (List.range (b.headD []).length).map fun j =>
    a.at i 0 * b.at 0 j + a.at i 1 * b.at 1 j + a.at i 2 * b.at 2 j
def Mat.scale (s : Rat) (a : Mat) : Mat := a.map fun r => r.map (s * ·)
def Mat.add (a b : Mat) : Mat := a.zipWith (fun r q => r.zipWith (· + ·) q) b
def Mat.id3 : Mat := [[1, 0, 0], [0, 1, 0], [0, 0, 1]]
def Mat.diag (v : List Rat) : Mat := [[v.getD 0 0, 0, 0], [0, v.getD 1 0, 0], [0, 0, v.getD 2 0]]
def Mat.inv (m : Mat) : Mat :=
  let c (i j : Nat) : Rat :=
    m.at ((j + 1) % 3) ((i + 1) % 3) * m.at ((j + 2) % 3) ((i + 2) % 3) -
    m.at ((j + 1) % 3) ((i + 2) % 3) * m.at ((j + 2) % 3) ((i + 1) % 3)
  let det := m.at 0 0 * c 0 0 + m.at 0 1 * c 1 0 + m.at 0 2 * c 2 0
  (List.range 3).map fun i => (List.range 3).map fun j => c i j / det
def Mat.col (v : List Rat) : Mat := v.map fun x => [x]

/-- A decimal. -/
def dec (n : Int) (d : Nat) : Rat := mkRat n d

/-- Chromaticities of a set: red, green, blue, white. -/
structure Primaries where
  r : Rat × Rat
  g : Rat × Rat
  b : Rat × Rat
  w : Rat × Rat

def acesWhite : Rat × Rat := (dec 32168 100000, dec 33767 100000)
def d65 : Rat × Rat := (dec 3127 10000, dec 3290 10000)
def ap0 : Primaries := ⟨(dec 7347 10000, dec 2653 10000), (0, 1), (dec 1 10000, dec (-770) 10000), acesWhite⟩
def ap1 : Primaries := ⟨(dec 713 1000, dec 293 1000), (dec 165 1000, dec 830 1000), (dec 128 1000, dec 44 1000), acesWhite⟩
def bt709 : Primaries := ⟨(dec 640 1000, dec 330 1000), (dec 300 1000, dec 600 1000), (dec 150 1000, dec 60 1000), d65⟩
def bt2020 : Primaries := ⟨(dec 708 1000, dec 292 1000), (dec 170 1000, dec 797 1000), (dec 131 1000, dec 46 1000), d65⟩
def p3d65 : Primaries := ⟨(dec 680 1000, dec 320 1000), (dec 265 1000, dec 690 1000), (dec 150 1000, dec 60 1000), d65⟩

/-- XYZ of a chromaticity with Y = 1. -/
def xyz (c : Rat × Rat) : List Rat := [c.1 / c.2, 1, (1 - c.1 - c.2) / c.2]

/-- The normalised primary matrix of SMPTE RP 177. -/
def Primaries.npm (p : Primaries) : Mat :=
  let m : Mat := [[p.r.1, p.g.1, p.b.1], [p.r.2, p.g.2, p.b.2], [1 - p.r.1 - p.r.2, 1 - p.g.1 - p.g.2, 1 - p.b.1 - p.b.2]]
  let s := m.inv.mul (Mat.col (xyz p.w))
  m.mul (Mat.diag [s.at 0 0, s.at 1 0, s.at 2 0])

/-- Bradford adaptation between whites. -/
def bradford (s d : Rat × Rat) : Mat :=
  if s = d then Mat.id3
  else
    let c : Mat := [[dec 8951 10000, dec 2664 10000, dec (-1614) 10000], [dec (-7502) 10000, dec 17135 10000, dec 367 10000],
      [dec 389 10000, dec (-685) 10000, dec 10296 10000]]
    let a := c.mul (Mat.col (xyz s))
    let b := c.mul (Mat.col (xyz d))
    c.inv.mul ((Mat.diag ((List.range 3).map fun i => b.at i 0 / a.at i 0)).mul c)

/-- The matrix from set s to set d (R395). -/
def convert (s d : Primaries) : Mat := d.npm.inv.mul ((bradford s.w d.w).mul s.npm)

/-! ## Calibration sets (R380 to R383) -/

def calSet0 : CalSet := ⟨0, 0, [], [], [[], [], [], []]⟩

/-- The committed set of slot s. -/
def Sys.cal (y : Sys) (s : Nat) : CalSet := tget (fun _ => calSet0) y.mram.cal s

/-- Staging as it stands. -/
def Sys.staged (y : Sys) (s epoch : Nat) : CalSet :=
  ⟨epoch, y.rd (ent (0x3C00 + s) 1), y.rdB (ent (0x3C00 + s) 2), y.rdB (ent (0x3C00 + s) 3),
    (List.range 4).map fun g => y.rdB (ent (0x3C00 + s) (4 + g))⟩

/-- The set hash (R382). -/
def CalSet.hash (c : CalSet) : Bytes :=
  let part (b : Bytes) : Bytes := le 4 b.length ++ b
  sha256 (le 1 c.mode ++ part c.knots ++ part c.defects ++ c.grids.flatMap part)

/-- A finite F32 pattern. -/
def finite32 (w : W32) : Bool := match fpOf w with | .fin _ _ _ => true | _ => false

/-- Knot i of a set: 34 F32 values. -/
def knotF (b : Bytes) (i k : Nat) : W32 := f32At (b.drop (136 * i)) k

/-- Strictly ascending. -/
def ascending : List Rat → Bool
  | a :: b :: r => decide (a < b) && ascending (b :: r)
  | _ => true

/-- Knot records of finite values in strictly ascending CCT (R381). -/
def knotsOk (b : Bytes) : Bool :=
  let n := b.length / 136
  b.length % 136 == 0 && (List.range n).all (fun i => (List.range 34).all fun k => finite32 (knotF b i k)) &&
    ascending ((List.range n).map fun i => ratOf (knotF b i 0))

/-- A defect list that keeps R302. -/
def defectsOk (b : Bytes) : Bool :=
  let e := (List.range (b.length / 4)).map fun i => rdLe b (4 * i) 4
  b.length % 4 == 0 && e.all (fun v => decide (v / 2 ^ 30 < 3)) &&
    ascending (e.map fun v => ((v % 2 ^ 30 : Nat) : Rat))

/-- A shading grid that keeps R305; an empty one is absent. -/
def gridOk (b : Bytes) : Bool :=
  b.isEmpty ||
    (let gx := rdLe b 0 2
     let gy := rdLe b 2 2
     let c := rdLe b 4 1
     8 ≤ b.length && 3 ≤ gx && gx ≤ 65 && 3 ≤ gy && gy ≤ 65 && (c == 1 || c == 4) && rdLe b 5 3 == 0 &&
       b.length == 8 + 2 * gx * gy * c)

/-- A grid the context's live or shadow parameters name while shading is on is missing from a set (R381). -/
def Sys.gridMissing (y : Sys) (s : Nat) (c : CalSet) : Bool :=
  (y.liveOrPending (ent (0x3420 + s) 5)).any (· == 1) &&
    ((y.liveOrPending (ent (0x3420 + s) 6)) ++ y.liveOrPending (ent (0x3420 + s) 7)).any fun g => (c.grids.getD g []).isEmpty

/-- CALIBRATION_COMMIT (R381, R178): one fuse; the set is copied to MRAM and is live from the context's next latch point. -/
def commitCal (o : Otp) (y : Sys) (s : Nat) : Status × List OtpOp × Sys :=
  let n := o.calEpoch s
  let c := y.staged s (n + 1)
  if !(knotsOk c.knots && defectsOk c.defects && c.grids.all gridOk) then (.range, [], y)
  else if y.gridMissing s c then (.state, [], y)
  else if c.hash = (y.cal s).hash then (.ok, [], y)
  else if 32 ≤ n then (.exhausted, [], y)
  else
    let b := 0x3C00 + s
    let y := { y with mram := { y.mram with cal := tset (fun _ => calSet0) y.mram.cal s c } }
    let y := ((y.wr (ent b 9) (32 - (n + 1))).wr (ent b 0x0A) (n + 1)).wrB (ent b 0x0B) c.hash
    (.ok, [.fuseCalibration s], y.raise 0x0A10 s (pack 16 [(0, 1, s), (1, 1, n + 1), (2, 1, 32 - (n + 1)), (4, 4, unLe (c.hash.take 4))]))

/-- REVERT_STAGING (R383): the committed set is copied into staging. -/
def Sys.revertStaging (y : Sys) (s v : Nat) : Status × Sys :=
  if v ≠ 1 then (.range, y)
  else
    let c := y.cal s
    let b := 0x3C00 + s
    let y := ((y.wr (ent b 1) c.mode).wrB (ent b 2) c.knots).wrB (ent b 3) c.defects
    let y := upto 4 (fun g y => y.wrB (ent b (4 + g)) (c.grids.getD g [])) y
    (.ok, y.wrB (ent b 0x0C) c.hash)

/-! ## The camera block (R386, R387) -/

/-- An F32 number in four octets. -/
def f32B (r : Rat) : Bytes := le 4 (roundRat r).toNat

/-- A matrix of `n` rows and `c` columns from F32 words at `k` of a knot. -/
def knotMat (b : Bytes) (i k c : Nat) : Mat :=
  (List.range 3).map fun r => (List.range c).map fun j => ratOf (knotF b i (k + c * r + j))

/-- M8 and M3 of a knot; in 3X3 mode M8 is [M3 | 0]. -/
def CalSet.knot (c : CalSet) (i : Nat) : Mat × Mat :=
  let m3 := knotMat c.knots i 25 3
  (if c.mode = 1 then knotMat c.knots i 1 8 else m3.map fun r => r ++ List.replicate 5 0, m3)

/-- The interpolated matrices at a CCT, before the working primaries and the exposure scale. -/
def CalSet.interp (c : CalSet) (cct : Rat) : Mat × Mat :=
  let n := c.knots.length / 136
  let mired (i : Nat) : Rat := 1000000 / ratOf (knotF c.knots i 0)
  let m := 1000000 / cct
  if n = 0 then (Mat.id3.map fun r => r ++ List.replicate 5 0, Mat.id3)
  else if mired 0 ≤ m then c.knot 0
  else if m ≤ mired (n - 1) then c.knot (n - 1)
  else
    match (List.range (n - 1)).find? fun i => decide (m ≤ mired i) && decide (mired (i + 1) < m) with
    | none => c.knot 0
    | some i =>
      let w := (m - mired (i + 1)) / (mired i - mired (i + 1))
      let mix (a b : Mat) : Mat := (a.scale w).add (b.scale (1 - w))
      (mix (c.knot i).1 (c.knot (i + 1)).1, mix (c.knot i).2 (c.knot (i + 1)).2)

/-- The working primaries of a context. -/
def Gen.working (g : Gen) (x : Nat) : Primaries := if g.rd (ent (0x3C10 + x) 2) = 1 then ap1 else ap0

/-- The calibration slot of a context, none where it has none (R384). -/
def Gen.calSlot (g : Gen) (x : Nat) : Option Nat := let s := g.rd (ent (0x3C10 + x) 1); if s < 8 then some s else none

/-- Calibration epoch as manifest octets 144 to 147 have it. -/
def Gen.calWord (g : Gen) (x : Nat) : Nat := match g.calSlot x with | some s => g.cal.epoch + 256 * s | none => 0

/-- The 160-octet camera block. -/
def Gen.cameraBlock (g : Gen) (x : Nat) : Bytes :=
  let cct : Rat := (g.rd (ent (0x3C10 + x) 3) : Nat)
  let scale := ratOf (BitVec.ofNat 32 (g.rd (ent (0x3C10 + x) 4)))
  let p := convert ap0 (g.working x)
  let m := g.cal.interp cct
  let out (a : Mat) : Bytes := ((p.mul a).scale scale).flatten.flatMap f32B
  out m.1 ++ out m.2 ++ f32B (1000000 / cct) ++ f32B cct ++ f32B scale ++ le 4 (g.calWord x) ++ le 4 g.cal.mode ++ List.replicate 8 0

/-! ## Output blocks (R396 to R399) -/

/-- An output target: primaries, Kr, Kb where Y′CbCr is allowed, default peak and its range. -/
structure Target where
  prim : Primaries
  k : Option (Rat × Rat)
  peak : Nat
  lo : Nat
  hi : Nat

/-- The targets of R396, by code. -/
def target? (code : Nat) : Option Target :=
  let k709 := some (dec 2126 10000, dec 722 10000)
  let k2020 := some (dec 2627 10000, dec 593 10000)
  match code with
  | 0 => some ⟨bt709, k709, 100, 100, 100⟩
  | 1 => some ⟨bt2020, k2020, 100, 100, 100⟩
  | 2 => some ⟨bt2020, k2020, 1000, 100, 10000⟩
  | 3 => some ⟨bt2020, k2020, 1000, 400, 4000⟩
  | 4 => some ⟨p3d65, none, 48, 48, 300⟩
  | 5 => some ⟨ap0, none, 0, 0, 0⟩
  | 6 => some ⟨ap1, none, 0, 0, 0⟩
  | _ => none

/-- The output colour record of a binding. -/
def Gen.outRecord (g : Gen) (x n : Nat) : Bytes := g.rdB (ent (0x3C20 + x) (n + 1))

/-- A record that keeps R397 with its binding's format; `size` is the parameter block's. -/
def outRecordOk (r : Bytes) (format size : Nat) : Bool :=
  r.isEmpty ||
    match target? (rdLe r 0 1) with
    | none => false
    | some t =>
      let coding := rdLe r 2 1
      let off := rdLe r 4 2
      let peak := rdLe r 6 2
      let white := rdLe r 8 2
      r.length == 16 && rdLe r 1 1 ≤ 1 && coding ≤ 1 && rdLe r 3 1 == 0 && rdLe r 10 6 == 0 &&
      (rdLe r 1 1 == 0 || (2 ≤ format && format ≤ 4)) && (coding == 0 || (t.k.isSome && (format == 3 || format == 4))) &&
      !(coding == 0 && (format == 3 || format == 4)) && (peak == 0 || (t.lo ≤ peak && peak ≤ t.hi)) &&
      (white == 0 || (80 ≤ white && white ≤ 1000)) && (off == 0xFFFF || (off % 4 == 0 && off + 128 ≤ size))

/-- The signal matrix (R399): three rows of four. -/
def signalMatrix (t : Target) (format range coding : Nat) : Mat :=
  let n : Nat := if format = 4 then 12 else 10
  let D : Rat := ((2 ^ n - 1 : Nat) : Rat)
  let p (k : Nat) : Rat := ((2 ^ k : Nat) : Rat)
  let row (a : List Rat) (gain off : Rat) : List Rat := a.map (gain * ·) ++ [off]
  if format < 2 then [[1, 0, 0, 0], [0, 1, 0, 0], [0, 0, 1, 0]]
  else
    let gain : Rat := if range = 1 then 219 * p (n - 8) / D else 1
    let off : Rat := if range = 1 then p (n - 4) / D else 0
    match coding, t.k with
    | 1, some (kr, kb) =>
      let y := [kr, 1 - kr - kb, kb]
      let cb := [-kr / (2 - 2 * kb), -(1 - kr - kb) / (2 - 2 * kb), (1 - kb) / (2 - 2 * kb)]
      let cr := [(1 - kr) / (2 - 2 * kr), -(1 - kr - kb) / (2 - 2 * kr), -kb / (2 - 2 * kr)]
      let cgain : Rat := if range = 1 then 224 * p (n - 8) / D else 1
      [row y gain off, row cb cgain (p (n - 1) / D), row cr cgain (p (n - 1) / D)]
    | _, _ => [row [1, 0, 0] gain off, row [0, 1, 0] gain off, row [0, 0, 1] gain off]

/-- The 128-octet output block of a record. -/
def Gen.outputBlock (g : Gen) (x n : Nat) : Bytes :=
  let r := g.outRecord x n
  match target? (rdLe r 0 1) with
  | none => List.replicate 128 0
  | some t =>
    let code := rdLe r 0 1
    let peak : Rat := ((if rdLe r 6 2 = 0 then t.peak else rdLe r 6 2 : Nat) : Rat)
    let white : Rat := ((if rdLe r 8 2 = 0 then 203 else rdLe r 8 2 : Nat) : Rat)
    let gamma : Rat := if code = 3 then dec 12 10 + dec 42 100 * log10R (peak / 1000) else 1
    let encode : Rat := if code = 2 then peak / 10000 else 1
    (convert (g.working x) t.prim).flatten.flatMap f32B ++
      (signalMatrix t (g.binding x n).format (rdLe r 1 1) (rdLe r 2 1)).flatten.flatMap f32B ++
      f32B peak ++ f32B white ++ f32B gamma ++ f32B encode ++ le 4 code ++ le 4 (rdLe r 1 1 + 2 * rdLe r 2 1) ++ List.replicate 20 0

/-- Where blocks go in a context's parameter block: offset and size. -/
def Gen.blockPlaces (g : Gen) (x : Nat) : List (Nat × Nat) :=
  let cam := g.rd (ent (0x3C10 + x) 5)
  (if cam = 0xFFFF then [] else [(cam, 160)]) ++
    (List.range 16).filterMap fun n =>
      let r := g.outRecord x n
      if r.isEmpty || rdLe r 4 2 == 0xFFFF then none else some (rdLe r 4 2, 128)

/-- No two of the ranges meet. -/
def apart : List (Nat × Nat) → Bool
  | [] => true
  | a :: r => r.all (fun b => decide (a.1 + a.2 ≤ b.1) || decide (b.1 + b.2 ≤ a.1)) && apart r

/-- The blocks of a context keep R387 for a parameter block of `size` octets. -/
def Gen.blocksOk (g : Gen) (x size : Nat) : Bool :=
  (g.blockPlaces x).all (fun p => p.1 % 4 == 0 && p.1 + p.2 ≤ size) && apart (g.blockPlaces x) &&
    (List.range 16).all fun n => outRecordOk (g.outRecord x n) (g.binding x n).format size

/-- The generation's parameter block: the look parameters with the camera and output blocks injected (R387, R398, R400). -/
def Gen.inject (g : Gen) (x : Nat) : Bytes :=
  let p := slice (g.rdB (ent (0x3800 + x) 2)) 0 (imgParam (g.image (g.lookSlot x)))
  let cam := g.rd (ent (0x3C10 + x) 5)
  let p := if cam = 0xFFFF then p else poke p cam (g.cameraBlock x)
  upto 16 (fun n p =>
    let r := g.outRecord x n
    if r.isEmpty || rdLe r 4 2 == 0xFFFF then p else poke p (rdLe r 4 2) (g.outputBlock x n)) p

/-! ## The table library (R388 to R393) -/

/-- Contexts that hold a library entry live or pending. -/
def Sys.tableUsers (y : Sys) (e : Nat) : List Nat :=
  let names (b : Bytes) : Bool := (List.range 8).any fun i => 2 * i + 2 ≤ b.length && rdLe b (2 * i) 2 == e
  (List.range 16).filter fun x =>
    names (y.rdB (ent (0x3C10 + x) 6)) || (y.pendingFor (ent (0x3C10 + x) 6)).any names ||
      y.frames.any fun f => f.ctx == x && (f.gen.tableEntries x).contains e

/-- Users entries follow (0x3C40 + k:08). -/
def Sys.showUsers (y : Sys) : Sys := upto 64 (fun e y => y.wr (ent (0x3C40 + e) 8) (bitsOf (y.tableUsers e))) y

/-- MRAM octets that persistent entries take; a generated entry takes none (R393). -/
def Sys.persistentBytes (y : Sys) : Nat :=
  ((List.range 64).map fun e =>
    if y.rd (ent (0x3C40 + e) 7) = 1 ∧ ((y.tables.lookup e).bind (·.formula)).isNone then
      tableSize (y.rdB (ent (0x3C40 + e) 1)) else 0).sum

def Sys.showPersistent (y : Sys) : Sys := y.wr (ent 0x3C80 1) y.persistentBytes

/-- A table's record replaced. -/
def Sys.setTable (y : Sys) (e : Nat) (t : LibTable) : Sys := { y with tables := tinsert e t (terase e y.tables) }

/-- A header that R388 admits. -/
def headerOk (h : Bytes) : Bool :=
  let n := rdLe h 8 4
  let lo := f32At h 3
  let hi := f32At h 4
  h.length == 32 && h.take 4 == [0x4B, 0x4C, 0x55, 0x54] && rdLe h 4 1 == 1 && rdLe h 6 1 ≤ 2 && rdLe h 7 1 == 0 &&
  (rdLe h 5 1 == 1 && 2 ≤ n && n ≤ 16384 || rdLe h 5 1 == 2 && 2 ≤ n && n ≤ 65) &&
  finite32 lo && finite32 hi && decide (ratOf lo < ratOf hi) && (h.drop 20).all (· == 0)

/-- TABLE_HEADER_WRITE (R388): the data is cleared and the entry is LOADING; an empty header empties it. -/
def Sys.tableHeader (y : Sys) (e : Nat) (h : Bytes) : Status × Sys :=
  if !(y.tableUsers e).isEmpty then (.state, y)
  else if !(h.isEmpty || headerOk h) then (.range, y)
  else
    let z := (((y.wrB (ent (0x3C40 + e) 1) h).wr (ent (0x3C40 + e) 5) (if h.isEmpty then 0 else 1)).wrB (ent (0x3C40 + e) 6)
      (List.replicate 32 0)).setTable e ⟨List.replicate (if h.isEmpty then 0 else tableSize h) 0, [], none⟩
    if 2097152 < z.persistentBytes then (.range, y) else (.ok, z.showPersistent)

/-- TABLE_DATA_WRITE (R388): an offset and data octets; a sealed entry takes none (log entry 25). -/
def Sys.tableData (y : Sys) (e : Nat) (v : Bytes) : Status × Sys :=
  let off := rdLe v 0 4
  let d := v.drop 4
  match y.tables.lookup e with
  | none => (.range, y)
  | some t =>
    if !(y.tableUsers e).isEmpty then (.state, y)
    else if v.length < 5 || 1048576 < v.length || t.data.length < off + d.length then (.range, y)
    else if y.rd (ent (0x3C40 + e) 5) ≠ 1 then (.state, y)
    else (.ok, y.setTable e { t with data := poke t.data off d, filled := t.filled ++ [(off, off + d.length)] })

/-- How far the ranges cover without a gap from `pos`. -/
def reach (l : List (Nat × Nat)) : Nat → Nat → Nat
  | 0, pos => pos
  | n + 1, pos => reach l n ((l.filter fun r => decide (r.1 ≤ pos)).foldl (fun p r => max p r.2) pos)

/-- Every value of a table is finite. -/
def tableFinite (h data : Bytes) : Bool :=
  if rdLe h 5 1 = 1 then (List.range (data.length / 4)).all fun i => finite32 (f32At data i)
  else (List.range (data.length / 2)).all fun i => rdLe data (2 * i) 2 / 1024 % 32 != 31

/-- TABLE_SEAL (R388). -/
def Sys.tableSeal (y : Sys) (e v : Nat) : Status × Sys :=
  let h := y.rdB (ent (0x3C40 + e) 1)
  match y.tables.lookup e with
  | none => (if v = 1 then .state else .range, y)
  | some t =>
    if v ≠ 1 then (.range, y)
    else if y.rd (ent (0x3C40 + e) 5) ≠ 1 then (.state, y)
    else if reach t.filled (t.filled.length + 1) 0 < t.data.length || !tableFinite h t.data then (.range, y)
    else
      let hash := sha256 (h ++ t.data)
      let y := (y.wr (ent (0x3C40 + e) 5) 2).wrB (ent (0x3C40 + e) 6) hash
      (.ok, y.raise 0x0A11 e (ev [(0, 1, e), (1, 1, rdLe h 5 1), (2, 2, rdLe h 8 4), (4, 4, unLe (hash.take 4))]))

/-- 0 to 1. -/
def clamp01 (r : Rat) : Rat := max 0 (min 1 r)

/-- The output of a generated table for input v (R392). -/
def generated (formula : Nat) (v param : Rat) : Rat :=
  let m1 := dec 1593017578125 10000000000000
  let m2 := dec 7884375 100000
  let c1 := dec 8359375 10000000
  let c2 := dec 188515625 10000000
  let c3 := dec 186875 10000
  let a := dec 17883277 100000000
  let b := dec 28466892 100000000
  let c := dec 55991073 100000000
  let k := dec 105402377416545 10000000000000
  let o := dec 729055341958355 10000000000000000
  let fix (r : Rat) : Rat := (log2R r : Rat) / ((2 ^ 56 : Nat) : Rat)
  match formula with
  | 1 => let p := powR (clamp01 v) m1
         powR ((c1 + c2 * p) / (1 + c3 * p)) m2
  | 2 => let u := clamp01 v
         if u ≤ 1 / 12 then sqrtR (3 * u) else a * lnR (12 * u - b) + c
  | 3 => powR (clamp01 v) (1 / param)
  | 4 => if v ≤ dec 78125 10000000 then k * v + o else (fix v + dec 972 100) / dec 1752 100
  | 5 => let q := powR (clamp01 v) (1 / m2)
         powR (max 0 (q - c1) / (c2 - c3 * q)) (1 / m1)
  | 6 => let u := clamp01 v
         if u ≤ 1 / 2 then u * u / 3 else (expR ((u - c) / a) + b) / 12
  | _ => if v ≤ k * dec 78125 10000000 + o then (v - o) / k
         else exp2R ((v * dec 1752 100 - dec 972 100) * ((2 ^ 56 : Nat) : Rat)).floor

/-- Shaper and domain of a formula. -/
def formulaDomain (formula : Nat) : Nat × Rat × Rat :=
  match formula with
  | 4 => (1, -30, 16)
  | 5 => (0, 0, 1)
  | 6 => (0, 0, 1)
  | 7 => (0, 0, dec 1468 1000)
  | _ => (1, -30, 0)

/-- Header and data of a generated table. -/
def generate (v : Bytes) : Bytes × Bytes :=
  let formula := rdLe v 0 1
  let n := if rdLe v 4 4 = 0 then 4096 else rdLe v 4 4
  let d := formulaDomain formula
  let h := [0x4B, 0x4C, 0x55, 0x54] ++ le 1 1 ++ le 1 1 ++ le 1 d.1 ++ le 1 0 ++ le 4 n ++ f32B d.2.1 ++ f32B d.2.2 ++ List.replicate 12 0
  let lo := ratOf (roundRat d.2.1)
  let hi := ratOf (roundRat d.2.2)
  let value (i : Nat) : Rat :=
    let f := lo + (hi - lo) * ((i : Nat) : Rat) / ((n - 1 : Nat) : Rat)
    generated formula (if d.1 = 1 then exp2R (f * ((2 ^ 56 : Nat) : Rat)).floor else f) (ratOf (f32At v 2))
  (h, (List.range n).flatMap fun i => f32B (value i))

/-- A Generate value that R392 admits. -/
def generateOk (v : Bytes) : Bool :=
  let f := rdLe v 0 1
  let n := rdLe v 4 4
  let g := ratOf (f32At v 2)
  v.length == 16 && 1 ≤ f && f ≤ 7 && rdLe v 1 3 == 0 && rdLe v 12 4 == 0 && (n == 0 || (2 ≤ n && n ≤ 16384)) &&
    (f != 3 || (finite32 (f32At v 2) && decide (1 ≤ g) && decide (g ≤ 4)))

/-- TABLE_GENERATE (R392): the module builds a READY table. -/
def Sys.tableGenerate (y : Sys) (e : Nat) (v : Bytes) : Status × Sys :=
  if !(y.tableUsers e).isEmpty then (.state, y)
  else if !generateOk v then (.range, y)
  else
    let t := generate v
    let y := ((y.wrB (ent (0x3C40 + e) 1) t.1).wr (ent (0x3C40 + e) 5) 2).wrB (ent (0x3C40 + e) 6) (sha256 (t.1 ++ t.2))
    (.ok, (y.setTable e ⟨t.2, [(0, t.2.length)], some v⟩).showPersistent)

/-- A write of Persistent (R393). -/
def Sys.tablePersistent (y : Sys) (e v : Nat) : Status × Sys :=
  let z := y.wr (ent (0x3C40 + e) 7) v
  if 1 < v || 2097152 < z.persistentBytes then (.range, y) else (.ok, z.showPersistent)

/-- Pages that the entries every context has live or pending need (R391). -/
def Sys.pagesNeeded (y : Sys) : Nat :=
  ((List.range 64).map fun e => if (y.tableUsers e).isEmpty then 0 else tablePages (y.rdB (ent (0x3C40 + e) 1))).sum

/-- After a cold reset persistent and generated entries are restored; the rest are empty (R393). -/
def Sys.restoreTables (y : Sys) (d : Nat → Nat) (b : Nat → Bytes) (tables : List (Nat × LibTable)) : Sys :=
  Sys.showPersistent ((List.range 64).foldl (fun y e =>
    match tables.lookup e with
    | none => y
    | some t =>
      if d (ent (0x3C40 + e) 7) = 1 ∨ t.formula.isSome then
        ((((y.wrB (ent (0x3C40 + e) 1) (b (ent (0x3C40 + e) 1))).wr (ent (0x3C40 + e) 5) (d (ent (0x3C40 + e) 5))).wrB
          (ent (0x3C40 + e) 6) (b (ent (0x3C40 + e) 6))).wr (ent (0x3C40 + e) 7) (d (ent (0x3C40 + e) 7))).setTable e t
      else y) y)

end Sys2Proof.Machine
end

