-- ==== Sys2Proof/Machine/Deflate.lean ====
section
/-!
DEFINITION. Sys2Proof/Machine/Deflate.lean: expansion of a raw DEFLATE stream under RFC 1951 (R514, R515). What the compressor makes
of a block is free (Config.deflate); what a stream expands to is not.
-/

namespace Sys2Proof.Machine

/-- A bit source: the octets as one number, and the count of bits. -/
structure BitSrc where
  n : Nat
  len : Nat

def bitSrc (b : Bytes) : BitSrc :=
  ⟨b.foldr (fun x a => x.toNat + 256 * a) 0, 8 * b.length⟩

/-- `k` bits from position `p`, least significant first; none past the end. -/
def BitSrc.take (s : BitSrc) (p k : Nat) : Option Nat := if p + k ≤ s.len then some (s.n / 2 ^ p % 2 ^ k) else none

/-- A Huffman code: how many codes each length has, and the symbols in code order. -/
structure Huff where
  count : Array Nat
  symbols : Array Nat

def huffOf (lens : List Nat) : Huff :=
  let count := (List.range 16).map fun l => if l = 0 then 0 else (lens.filter (· == l)).length
  let syms := (List.range 16).flatMap fun l => if l = 0 then [] else (lens.zipIdx.filter fun p => p.1 == l).map (·.2)
  ⟨count.toArray, syms.toArray⟩

/-- One symbol from position `p`: `len` is the length tried, `code`, `first` and `index` the canonical search. -/
def Huff.walk (h : Huff) (s : BitSrc) (p : Nat) : Nat → Nat → Nat → Nat → Nat → Option (Nat × Nat)
  | 0, _, _, _, _ => none
  | fuel + 1, len, code, first, index =>
    match s.take (p + len - 1) 1 with
    | none => none
    | some b =>
      let code := 2 * code + b
      let cnt := h.count.getD len 0
      if code < first + cnt then some (h.symbols.getD (index + (code - first)) 0, p + len)
      else h.walk s p fuel (len + 1) code (2 * (first + cnt)) (index + cnt)

def Huff.next (h : Huff) (s : BitSrc) (p : Nat) : Option (Nat × Nat) := h.walk s p 15 1 0 0 0

def lenBase : List Nat := [3, 4, 5, 6, 7, 8, 9, 10, 11, 13, 15, 17, 19, 23, 27, 31, 35, 43, 51, 59, 67, 83, 99, 115, 131, 163, 195, 227, 258]
def lenExtra : List Nat := [0, 0, 0, 0, 0, 0, 0, 0, 1, 1, 1, 1, 2, 2, 2, 2, 3, 3, 3, 3, 4, 4, 4, 4, 5, 5, 5, 5, 0]
def distBase : List Nat :=
  [1, 2, 3, 4, 5, 7, 9, 13, 17, 25, 33, 49, 65, 97, 129, 193, 257, 385, 513, 769, 1025, 1537, 2049, 3073, 4097, 6145, 8193, 12289, 16385,
   24577]
def distExtra : List Nat := [0, 0, 0, 0, 1, 1, 2, 2, 3, 3, 4, 4, 5, 5, 6, 6, 7, 7, 8, 8, 9, 9, 10, 10, 11, 11, 12, 12, 13, 13]

/-- `n` octets copied from `d` back. -/
def copyBack (out : Array Byte) (d : Nat) : Nat → Array Byte
  | 0 => out
  | n + 1 => copyBack (out.push (out.getD (out.size - d) 0)) d n

/-- Symbols of a compressed block up to its end; none where the stream is not one. -/
def inflateCodes (s : BitSrc) (lit dist : Huff) : Nat → Nat → Array Byte → Option (Nat × Array Byte)
  | 0, _, _ => none
  | fuel + 1, p, out =>
    match lit.next s p with
    | none => none
    | some (sym, p) =>
      if sym < 256 then inflateCodes s lit dist fuel p (out.push (BitVec.ofNat 8 sym))
      else if sym = 256 then some (p, out)
      else if 285 < sym then none
      else
        let e := lenExtra.getD (sym - 257) 0
        match s.take p e with
        | none => none
        | some x =>
          let len := lenBase.getD (sym - 257) 0 + x
          match dist.next s (p + e) with
          | none => none
          | some (ds, p) =>
            if 29 < ds then none
            else
              let e := distExtra.getD ds 0
              match s.take p e with
              | none => none
              | some x =>
                let d := distBase.getD ds 0 + x
                if out.size < d then none else inflateCodes s lit dist fuel (p + e) (copyBack out d len)

def fixedLit : Huff :=
  huffOf (List.replicate 144 8 ++ List.replicate 112 9 ++ List.replicate 24 7 ++ List.replicate 8 8)
def fixedDist : Huff := huffOf (List.replicate 30 5)

/-- Code lengths of a dynamic block. -/
def dynLens (s : BitSrc) (h : Huff) (total : Nat) : Nat → Nat → List Nat → Option (Nat × List Nat)
  | 0, _, _ => none
  | fuel + 1, p, acc =>
    if total ≤ acc.length then (if acc.length = total then some (p, acc.reverse) else none)
    else
      match h.next s p with
      | none => none
      | some (sym, p) =>
        let rep (v base bits : Nat) : Option (Nat × List Nat) :=
          match s.take p bits with
          | none => none
          | some x => dynLens s h total fuel (p + bits) (List.replicate (base + x) v ++ acc)
        if sym < 16 then dynLens s h total fuel p (sym :: acc)
        else if sym = 16 then (match acc.head? with | none => none | some v => rep v 3 2)
        else if sym = 17 then rep 0 3 3
        else rep 0 11 7

def clOrder : List Nat := [16, 17, 18, 0, 8, 7, 9, 6, 10, 5, 11, 4, 12, 3, 13, 2, 14, 1, 15]

/-- One block from position `p`, header bits read. -/
def inflateBlock (s : BitSrc) (type p : Nat) (out : Array Byte) : Option (Nat × Array Byte) :=
  match type with
  | 0 =>
    let p := (p + 7) / 8 * 8
    match s.take p 16, s.take (p + 16) 16 with
    | some l, some n =>
      if l + n ≠ 65535 ∨ s.len < p + 32 + 8 * l then none
      else some (p + 32 + 8 * l, (List.range l).foldl (fun o i => o.push (BitVec.ofNat 8 (s.n / 2 ^ (p + 32 + 8 * i)))) out)
    | _, _ => none
  | 1 => inflateCodes s fixedLit fixedDist (s.len + 1) p out
  | 2 =>
    match s.take p 5, s.take (p + 5) 5, s.take (p + 10) 4 with
    | some hl, some hd, some hc =>
      let raw := (List.range (hc + 4)).map fun i => (clOrder.getD i 0, (s.take (p + 14 + 3 * i) 3).getD 0)
      let cl := huffOf ((List.range 19).map fun i => (raw.lookup i).getD 0)
      match dynLens s cl (hl + 257 + hd + 1) (s.len + 1) (p + 14 + 3 * (hc + 4)) [] with
      | none => none
      | some (p, lens) => inflateCodes s (huffOf (lens.take (hl + 257))) (huffOf (lens.drop (hl + 257))) (s.len + 1) p out
    | _, _, _ => none
  | _ => none

def inflateAll (s : BitSrc) : Nat → Nat → Array Byte → Option (Array Byte)
  | 0, _, _ => none
  | fuel + 1, p, out =>
    match s.take p 1, s.take (p + 1) 2 with
    | some last, some type =>
      match inflateBlock s type (p + 3) out with
      | none => none
      | some (p, out) => if last = 1 then some out else inflateAll s fuel p out
    | _, _ => none

/-- The octets a raw DEFLATE stream expands to; none where it is not one. -/
def inflate (b : Bytes) : Option Bytes := (inflateAll (bitSrc b) (8 * b.length + 1) 0 #[]).map (·.toList)

end Sys2Proof.Machine
end

