-- ==== Sys2Proof/Machine/Publish.lean ====
section
/-!
DEFINITION. Sys2Proof/Machine/Publish.lean: the Troupe stage of a frame comes to its end (R335, R366, R419): costs, frame stores that become complete,
in an array once every member's groups are in (R686, R691), and the streams that take them.
-/

namespace Sys2Proof.Machine

/-- Means of measured slots against declared I, per entry, when the frame's Troupe stage ends (R366). -/
def Sys.costCheck (y : Sys) (f : Frame) : Sys :=
  let img := f.gen.image (f.gen.lookSlot f.ctx)
  let slots := (f.cost.map fun c => c.2.1).sum
  let groups := (f.cost.map fun c => c.2.2).sum
  let y := if groups = 0 then y else y.wr (ent (0x3800 + f.ctx) 5) (roundQuot false slots groups).toNat
  f.cost.foldl (fun y c =>
    match imgEntry img (c.1 % 2) (c.1 / 2) with
    | some (_, i, _) =>
      if i * c.2.2 < c.2.1 then
        (y.inc (ent (0x3800 + f.ctx) 8)).raiseLimited f.ctx 0x0A06 f.ctx
          (ev [(0, 1, f.ctx), (1, 1, c.1 / 2), (2, 1, c.1 % 2), (4, 2, i), (6, 2, (c.2.1 + c.2.2 - 1) / max 1 c.2.2), (8, 4, f.num)])
      else y
    | none => y) y

/-- Black as a pixel of a binding (R433). -/
def Gen.bindingBlack (g : Gen) (x n col : Nat) : Nat :=
  let fmt := (g.binding x n).format
  if (g.outRecord x n).isEmpty then packPixel fmt col 0 0 0
  else
    let b := g.outputBlock x n
    packPixel fmt col (f32At b 12) (f32At b 16) (f32At b 20)

/-- The groups of a lost band are black in a holder's copy (R691): every pixel that no present member has sent. -/
def Gen.fillLost (g : Gen) (x n : Nat) (px : List (Nat × Nat)) : List (Nat × Nat) :=
  let b := g.binding x n
  (List.range b.outH).foldl (fun px l => (List.range b.outW).foldl (fun px c =>
    if px.any fun p => p.1 == l * 65536 + c then px else tset (fun _ => 0) px (l * 65536 + c) (g.bindingBlack x n c)) px) px

/-- A buffer whose groups have arrived from every member present is complete (R686): from the module itself, outside an array. -/
def Sys.settleBuf (y : Sys) (x n : Nat) (b : StoreBuf) : StoreBuf :=
  let present := (List.range 4).filter fun p => y.rdBit (ent 0x4C01 5) p
  let whole := if y.view.role = 3 then present.all fun p => b.parts.contains p else !b.parts.isEmpty
  if b.complete || !whole then b
  else { b with complete := true, doneAt := y.up, px := if y.view.role = 3 && y.rd (ent 0x4C01 1) == 3 then y.view.fillLost x n b.px else b.px }

/-- The groups of frame n of context x that array position p develops are all in: its consumers may show the frame once every part is (R26, R335,
R686). -/
def Sys.publishPart (y : Sys) (x n p : Nat) : Sys :=
  { y with stores := y.stores.map fun st =>
      if st.ctx == x then
        { st with bufs := st.bufs.map fun b => if b.frame == n then y.settleBuf x st.binding { b with parts := (p :: b.parts).eraseDups } else b }
      else st }

/-- The frame's own groups are in. -/
def Sys.publish (y : Sys) (x n : Nat) : Sys :=
  let y : Sys := { y with stores := y.stores.map fun (st : Store) => if st.ctx == x && st.dropping == some n then { st with dropping := none } else st }
  let y := y.publishPart x n y.arrayPos
  if y.view.role = 3 then y.shareLinks.foldl (fun y l => y.send (.garos l 2 1 n (le 1 x))) y else y

/-- Line `l` of a DEVELOPED stream: 10-bit samples Cb, Y′0, Cr, Y′1 from a format 3 frame store (R717). -/
def StoreBuf.developed (b : StoreBuf) (outW l : Nat) : Bytes :=
  let px (i : Nat) : Nat := tget (fun _ => 0) b.px (l * 65536 + i)
  packCodes 10 ((List.range ((outW + 1) / 2)).flatMap fun i =>
    [px (2 * i) / 65536 % 65536, px (2 * i) % 65536, px (2 * i) / 4294967296, px (2 * i + 1) % 65536])

/-- A published frame goes to the DEVELOPED streams of its format 3 bindings (R716, R717); the whole frame is offered here
(log entry 33). -/
def Sys.sendDeveloped (y : Sys) (f : Frame) : Sys :=
  (List.range 16).foldl (fun y n =>
    let b := f.gen.binding f.ctx n
    if b.format ≠ 3 ∨ (y.felleyTargets .developed f.ctx n true).isEmpty then y
    else
      match y.stores.findSome? fun st => if st.ctx == f.ctx && st.binding == n then st.bufs.find? (·.frame == f.num) else none with
      | none => y
      | some u =>
        let put (y : Sys) (first : Bool) (m : Bytes) : Sys := (y.felleyOffer .developed f.ctx n (f.gen.period f.ctx) f.num first m).2
        let y := put y true (frameInfo f.num f.latch f.marks f.ctx 3 f.exposure)
        let y := put y false (slpStart 0 f.counter (2 * b.outW) b.outH 10 0 0 0 (slice f.start 8 8) (slice f.start 16 16))
        let y := (List.range b.outH).foldl (fun y l => put y false (slpLine 0 l (u.developed b.outW l))) y
        put y false (slpEnd 0 f.counter b.outH)) y

/-- The last stripe of a frame has completed its Troupe stage: its margin, its stores, its cost, and the governor's watch. -/
def Sys.frameDone (y : Sys) (f : Frame) : Sys :=
  let m := y.slack f (y.frameDue f)
  let y := (y.wrI (ent (0x4010 + f.ctx) 7) m.shown)
  let y := if m.shown < y.rdI (ent (0x4010 + f.ctx) 8) then y.wrI (ent (0x4010 + f.ctx) 8) m.shown else y
  let y := if f.abandoned then y else Sys.sendDeveloped (y.publish f.ctx f.num) f
  let y := y.costCheck f
  let y := y.endFaults f
  (y.watchedFrame .t f.ctx f.num f.rails.1 m).watchedFrame .s f.ctx f.num f.rails.2 m

/-- A stripe completed after its deadline is counted and reported (R419, R431). -/
def Sys.stripeLate (y : Sys) (f : Frame) (k due : Nat) : Sys :=
  if due < y.t96 then
    let y := y.inc (ent (0x4010 + f.ctx) 0x0A)
    y.raiseLimited f.ctx 0x0B01 f.ctx
      (ev [(0, 1, f.ctx), (1, 1, if (f.gen.chasers f.ctx).isEmpty then 1 else 2), (2, 2, k), (4, 4, f.num),
        (8, 4, (y.t96 - due) / 2 ^ 32 / 1000)])
  else y

/-- STRIPE_COMPLETE (R335, R419): the Troupe's stripe, whose segment buffers are all freed, has completed its Troupe stage. -/
def execStripeComplete (troupe : Fin 24) (s : State) : Host.Outcome State Fault Refusal :=
  onSys s fun _ y =>
    let t := troupe.val
    let u := y.troupe t
    match u.held with
    | none => y
    | some (x, n, k) =>
      match y.frame? x n with
      | none => Sys.troupesOpen (y.setTroupe t { u with held := none, bufs := [], freeSince := y.up })
      | some f =>
        match f.stripe? k with
        | none => y
        | some st =>
          if st.freed < f.gen.segs x then y
          else
            let due := y.stripeDue f k
            let y := y.reportSlack .t (y.slack f due)
            let y := y.stripeLate f k due
            let y := y.onFrame x n fun h => h.onStripe k fun q => { q with done := true }
            let y := Sys.troupesOpen (y.setTroupe t
              { u with held := none, freeSince := y.up, times := (u.times ++ [y.up - st.openedAt]).drop (u.times.length + 1 - 16) })
            let y := y.freeTables
            match y.frame? x n with
            | none => y
            | some h => if h.stripes.all (·.done) then y.frameDone h else if due < y.t96 then y.checkSeam h else y
end Sys2Proof.Machine
end

