-- ==== Sys2Proof/Machine/Scanout.lean ====
section
/-!
DEFINITION. Sys2Proof/Machine/Scanout.lean: scan-out channels, SDI inputs, eDP ports and ST 2110 streams (R432 to R465). Instants are
the commands' own: the sender says when an origin, a fetch or a packet time has come (log entry 8).
-/

namespace Sys2Proof.Machine

/-! ## Records at reset -/

def sdi0 : SdiIn := { frames := [], holdFrom := none, expired := false }
def edp0 : EdpPort :=
  { vdd := false, blen := false, pwm := false, waitHpd := false, attempts := 0, trained := false, psrOk := false, fastTrain := false,
    video := false, notBefore := 0, psrCause := none }
def Sys.sdi (y : Sys) (n : Nat) : SdiIn := tget (fun _ => sdi0) y.sdis n
def Sys.setSdi (y : Sys) (n : Nat) (v : SdiIn) : Sys := { y with sdis := tset (fun _ => sdi0) y.sdis n v }
def Sys.edp (y : Sys) (p : Nat) : EdpPort := tget (fun _ => edp0) y.edps p
def Sys.setEdp (y : Sys) (p : Nat) (v : EdpPort) : Sys := { y with edps := tset (fun _ => edp0) y.edps p v }

/-- A load of 0x2002 is shed now (R104). -/
def Sys.isShed (y : Sys) (sub i : Nat) : Bool := y.sup.shed.any fun p => p.1 == sub && p.2.testBit i

/-! ## What a channel outputs (R433, R434) -/

/-- Binding format of a channel: 3 for every source but BINDING. -/
def Gen.chanFormat (g : Gen) (c : Nat) : Nat :=
  match g.chanBinding c with | some (x, n) => (g.binding x n).format | none => 3

/-- Black as packed channel values (R433). -/
def Gen.black (g : Gen) (c col : Nat) : Nat :=
  match g.chanBinding c with
  | some (x, n) => g.bindingBlack x n col
  | none => if col % 2 = 0 then 64 + 65536 * (512 + 65536 * 512) else 64

/-- The complete frames of a channel's source, oldest first. -/
def Sys.ready (y : Sys) (c : Nat) : List Nat :=
  let g := y.view
  match g.rd (ent (0x4100 + c) 2) with
  | 1 => match g.chanBinding c with
    | some (x, n) => match y.store? x n with
      | some st => ((st.bufs.filter (·.complete)).map (·.frame)).filter (g.admits c)
      | none => []
    | none => []
  | 2 => (y.sdi (g.rd (ent (0x4100 + c) 5))).frames.map (·.1)
  | _ => []

/-- Pixels of frame F of the channel's source at (line, column); black where the store does not hold it. -/
def Sys.sourcePixel (y : Sys) (c F line col : Nat) : Nat :=
  let g := y.view
  let found : Option Nat :=
    match g.rd (ent (0x4100 + c) 2) with
    | 1 => (g.chanBinding c).bind fun b => (y.store? b.1 b.2).bind fun st =>
        (st.bufs.find? (·.frame == F)).bind fun u => u.px.lookup (pxKey line col)
    | 2 => ((y.sdi (g.rd (ent (0x4100 + c) 5))).frames.find? (·.1 == F)).bind fun u => u.2.2.lookup (pxKey line col)
    | _ => none
  found.getD (g.black c col)

/-- The test field with its bar (R433); the bar starts at column 16k of output frame k and wraps (log entry 26). -/
def Sys.testPixel (y : Sys) (c col : Nat) : Nat :=
  let b := y.rdB (ent (0x4100 + c) 0x0B)
  let w := max 1 (y.view.timing c).actW
  let bar := (col + w * (16 * (y.channel c).index / w + 1) - 16 * (y.channel c).index) % w < 64
  let v (i : Nat) : Nat := if bar then [940, 512, 512].getD i 0 else rdLe b (2 * i) 2
  if col % 2 = 0 then v 0 + 65536 * (v 1 + 65536 * v 2) else v 0

/-- What the channel outputs at (line, column): the frame shown above the switch line, the fallback frame from it (R443). -/
def Sys.outPixel (y : Sys) (c line col : Nat) : Nat :=
  let ch := y.channel c
  if y.rd (ent (0x4100 + c) 2) = 3 then y.testPixel c col
  else
    match (if ch.switch.any (· ≤ line) then ch.fallback else ch.shown) with
    | some F => y.sourcePixel c F line col
    | none => y.view.black c col

/-- Fields of fixed widths as octets, first field most significant. -/
def packBits (l : List (Nat × Nat)) : Bytes :=
  let v := l.foldl (fun (a : Nat × Nat) f => (a.1 * 2 ^ f.1 + f.2 % 2 ^ f.1, a.2 + f.1)) (0, 0)
  be ((v.2 + 7) / 8) (v.1 * 2 ^ ((8 - v.2 % 8) % 8))

/-- Channel i of a packed pixel. -/
def pxChan (p i : Nat) : Nat := p / 65536 ^ i % 65536

/-- The octets of an active line as fetched: by the binding format (R355), 4:2:2 pairs as Cb, Y′, Cr, Y′ (log entry 26). -/
def Sys.lineBytes (y : Sys) (c line : Nat) : Bytes :=
  let w := (y.view.timing c).actW
  let px (i : Nat) : Nat := y.outPixel c line i
  match y.view.chanFormat c with
  | 2 => (List.range w).flatMap fun i => le 4 (pxChan (px i) 0 + 1024 * pxChan (px i) 1 + 1048576 * pxChan (px i) 2)
  | 3 => (List.range ((w + 1) / 2)).flatMap fun i =>
      packBits [(10, pxChan (px (2 * i)) 1), (10, pxChan (px (2 * i)) 0), (10, pxChan (px (2 * i)) 2), (10, pxChan (px (2 * i + 1)) 0)]
  | 4 => (List.range ((w + 1) / 2)).flatMap fun i =>
      packBits [(12, pxChan (px (2 * i)) 1), (12, pxChan (px (2 * i)) 0), (12, pxChan (px (2 * i)) 2), (12, pxChan (px (2 * i + 1)) 0)]
  | _ => (List.range w).flatMap fun i => le 2 (pxChan (px i) 0) ++ le 2 (pxChan (px i) 1) ++ le 2 (pxChan (px i) 2)

/-- Octets of one line, for the capacity of the FIFO (R442). -/
def Gen.lineOctets (g : Gen) (c : Nat) : Nat :=
  let w := (g.timing c).actW
  match g.chanFormat c with | 2 => 4 * w | 3 => (w + 1) / 2 * 5 | 4 => (w + 1) / 2 * 6 | _ => 6 * w

/-! ## Selecting a frame (R436 to R438, R446) -/

/-- Latch T96 of a frame of a context still in flight. -/
def Sys.latchOf (y : Sys) (x F : Nat) : Option Nat := (y.frame? x F).map (·.latch)

/-- Largest of a list. -/
def newest (l : List Nat) : Option Nat := l.foldl (fun a n => some (match a with | none => n | some b => max b n)) none

/-- Presentation delay in 2^-32 ns: 0 is AUTO, P + A + 1 ms (R437). -/
def Gen.delayOf (g : Gen) (c : Nat) : Nat :=
  let d := g.rd (ent (0x4100 + c) 7)
  let x := g.rd (ent (0x4100 + c) 3)
  (if d = 0 then g.period x + g.rd (ent (0x4000 + x) 3) * 1000 + 1000000 else d * 1000) * 2 ^ 32

/-- Admitted frames of the channel's context in flight that have not been abandoned. -/
def Sys.chaseable (y : Sys) (c : Nat) : List Nat :=
  match y.view.chanBinding c with
  | some (x, _) => ((y.frames.filter fun f => f.ctx == x && y.view.admits c f.num && !f.abandoned).map (·.num))
  | none => []

/-- The frame a channel's mode selects: frame, and whether it may be shown (R436). -/
def Sys.modeSelect (y : Sys) (c : Nat) : Option Nat :=
  let g := y.view
  let ch := y.channel c
  let done := y.ready c
  if g.rd (ent (0x4100 + c) 2) = 2 then newest done
  else
    match g.chanMode c with
    | 0 => newest done
    | 1 => newest (ch.due.filter (g.admits c))
    | 2 => match ch.host with | none => none | some h => newest (done.filter (· ≤ h))
    | _ => newest (done ++ y.chaseable c)

/-- Frame F may be shown by channel c now: complete, or in flight for a chasing channel. -/
def Sys.showable (y : Sys) (c F : Nat) : Bool :=
  (y.ready c).contains F || (y.view.chanMode c == 3 && (y.chaseable c).contains F)

/-- The newest admitted frame that is complete in every one of the channels. -/
def Sys.newestCommon (y : Sys) (l : List Nat) : Option Nat :=
  match l with
  | [] => none
  | c :: r => newest ((y.ready c).filter fun F => r.all fun d => (y.ready d).contains F)

/-- The channel's fallback frame: the newest complete admitted frame before F (R434). -/
def Sys.fallbackOf (y : Sys) (c : Nat) (F : Option Nat) : Option Nat :=
  match F with
  | none => none
  | some F => newest ((y.ready c).filter (· < F))

/-- Whether the frame has been overwritten: neither in the store nor in flight (R435). -/
def Sys.overtaken (y : Sys) (c F : Nat) : Bool := !(y.ready c).contains F &&
  match y.view.chanBinding c with | some (x, _) => (y.frame? x F).isNone | none => true

/-- R437: the selection margin of output frame k in ns, and event 0x0C05 below 10 µs. -/
def Sys.showMargin (y : Sys) (c : Nat) : Sys :=
  let g := y.view
  let ch := y.channel c
  match g.chanBinding c with
  | none => y
  | some (x, _) =>
    let o : Int := g.originOf c ch.index
    let ms := (y.frames.filter fun f => f.ctx == x && g.admits c f.num).map fun f =>
      (((((f.latch + g.delayOf c : Nat) : Int) - o).natAbs / 2 ^ 32 : Nat), f.num)
    match ms.foldl (fun a m => some (match a with | none => m | some b => if m.1 < b.1 then m else b)) (none : Option (Nat × Nat)) with
    | none => y
    | some (m, F) =>
      let y := y.wrI (ent (0x4140 + c) 7) m
      if m < 10000 then y.raiseLimited c 0x0C05 c (ev [(0, 1, c), (4, 4, m), (8, 4, F)]) else y

/-- R421: the chase offset, and event 0x0B04 below the minimum. -/
def Sys.showChase (y : Sys) (c : Nat) (F : Option Nat) : Sys :=
  match y.view.chanBinding c, F with
  | some (x, _), some F =>
    match y.latchOf x F with
    | some l =>
      let off := (y.t96 - l) / 2 ^ 32
      let y := y.wr (ent (0x4140 + c) 8) off
      let m := y.rd (ent (0x4010 + x) 6)
      if off < m then y.raiseLimited x 0x0B04 x (ev [(0, 1, x), (1, 1, c), (4, 4, off), (8, 4, m)]) else y
    | none => y
  | _, _ => y

/-- Buffers no longer shown or held back are released: FRAME_DONE (R434, R462). -/
def Sys.releaseBufs (y : Sys) (c : Nat) (before : Channel) : Sys :=
  let now := y.channel c
  let kept (F : Option Nat) : Bool := F.isNone || F == now.shown || F == now.fallback
  let y := if kept before.shown then y else y.irqScan c 2
  if kept before.fallback || before.fallback == before.shown then y else y.irqScan c 2

/-- The selection is entered for channel c. -/
def Sys.enterSelection (y : Sys) (c : Nat) (sel : Option Nat) : Sys :=
  let before := y.channel c
  let mode := y.view.chanMode c
  let src := y.rd (ent (0x4100 + c) 2)
  -- a selected frame that has been overwritten gives way to the newer one
  let lost := sel.any fun F => y.overtaken c F
  let sel' := if lost then newest (y.ready c) else sel
  let y := if lost && sel.isSome then y.inc (ent (0x4140 + c) 0x0D) else y
  let fb := y.fallbackOf c sel'
  let ok := match sel' with | none => true | some F => y.showable c F
  let y := y.setChannel c { before with picked := true, shown := sel', fallback := fb, switch := if ok then none else some 0, fell := none,
                                        underran := false, same := if before.shown == sel' then before.same + 1 else 0 }
  let y := if sel'.isSome then y.firstFrame else y
  let y := if ok then y
    else Sys.raiseLimited (y.inc (ent (0x4140 + c) 0x0A)) c 0x0C02 c
      (ev [(0, 1, c), (4, 4, sel'.getD 0), (8, 4, fb.getD 0)])
  let y := if src = 1 ∧ mode = 1 then y.showMargin c else y
  let y := if src = 1 ∧ mode = 3 then y.showChase c sel' else y
  y.releaseBufs c before

/-- FRAME_SELECT at Φ_k (R436, R446): a lock group selects once for every member. -/
def Sys.selectFrame (y : Sys) (c : Nat) : Sys :=
  let ms := (y.lockMembers c).filter fun d => (y.channel d).running && !(y.channel d).picked && y.view.chanOn d
  if ms.length ≤ 1 then y.enterSelection c (y.modeSelect c)
  else
    let own := y.modeSelect c
    let sel := match own with
      | some F => if ms.all fun d => y.showable d F then own else y.newestCommon ms
      | none => none
    ms.foldl (fun y d => y.enterSelection d sel) y

/-! ## Panel self-refresh (R457) -/

/-- The port's reason to be in self-refresh: 2 force, 1 shed, 0 idle. -/
def Sys.psrReason (y : Sys) (p : Nat) : Option Nat :=
  let b := 0x4188 + p
  let ch := y.channel (y.rd (ent b 1))
  if y.rd (ent b 6) = 0 ∨ !(y.edp p).psrOk then none
  else if y.rd (ent b 8) = 1 then some 2
  else if y.isShed 2 p then some 1
  else if y.rd (ent b 7) ≤ ch.same then some 0
  else none

/-- PSR_ENTRY and PSR_EXIT at Φ_k of the port's channel. -/
def Sys.psrAtFetch (y : Sys) (c : Nat) : Sys :=
  [0, 1].foldl (fun y p =>
    let b := 0x4188 + p
    if y.rd (ent b 1) ≠ c then y
    else
      let e := y.edp p
      match y.rd (ent b 0x0C), y.psrReason p with
      | 3, some r =>
        let y := Sys.wr (y.setEdp p { e with psrCause := some r, blen := e.blen && r != 1 }) (ent b 0x0C) 4
        y.raise 0x0C09 p (ev [(0, 1, p), (1, 1, 1), (2, 1, r)])
      | 4, none =>
        let y := Sys.wr (y.setEdp p { e with psrCause := none, attempts := 0, trained := false }) (ent b 0x0C) 2
        y.raise 0x0C09 p (ev [(0, 1, p), (2, 1, e.psrCause.getD 0)])
      | _, _ => y) y

/-! ## Lines (R442, R443) -/

/-- Line j of the channel's frame can be fetched: the frame is complete, or the stripe with its groups is done (R442). -/
def Sys.lineThere (y : Sys) (c line : Nat) : Bool :=
  let ch := y.channel c
  match ch.shown, y.view.chanBinding c with
  | some F, some (x, n) =>
    if (y.ready c).contains F then true
    else
      match y.frame? x F with
      | some f =>
        let b := f.gen.binding x n
        match f.stripe? (f.gen.stripeOf x (b.srcY line / 65536)) with
        | some s => s.done && s.mode == .opened && !f.abandoned
        | none => false
      | none => false
  | _, _ => true

/-- Lines in the FIFO: those fetched whose output has not begun, 4 periods after their commit instant. -/
def Sys.fifoLines (y : Sys) (c : Nat) : Nat := (y.channel c).nextFetch - ((y.channel c).committed - 4)

/-- LINE_FETCH (R442, R436, R457): at the fetch of line 0 the frame is selected; then the next line enters the FIFO, where it is
available and the FIFO has room. -/
def execLineFetch (channel : Fin 24) (s : State) : Host.Outcome State Fault Refusal :=
  onSys s fun _ y =>
    let c := channel.val
    if !(y.channel c).running then y
    else
      let y := if (y.channel c).picked then y else Sys.psrAtFetch (y.selectFrame c) c
      let ch := y.channel c
      let t := y.view.timing c
      let held := y.fifoLines c
      if ch.nextFetch < t.actH && y.lineThere c ch.nextFetch && decide ((held + 1) * y.view.lineOctets c ≤ 262144) then
        y.setChannel c { ch with nextFetch := ch.nextFetch + 1 }
      else y

/-- LINE_MATCH (R462): raster line `n` of channel c starts. -/
def Sys.lineMatch (y : Sys) (c n : Nat) : Sys := if y.rd (ent (0x4100 + c) 0x0A) = n then y.irqScan c 1 else y

/-- LINE_COMMIT_INSTANT (R443): a raster line starts, 4 line periods before the active line's output (R440); an active line that is not in the FIFO switches the channel, or its lock group, to fallback lines. -/
def execLineCommitInstant (channel : Fin 24) (line : BitVec 16) (s : State) : Host.Outcome State Fault Refusal :=
  onSys s fun _ y =>
    let c := channel.val
    let u := line.toNat
    let ch := y.channel c
    if !ch.running then y
    else
      let y := y.setChannel c { ch with committed := max ch.committed (u + 1) }
      let first := (y.view.timing c).vFirst
      let y := if u < (y.view.timing c).actH ∧ 4 ≤ first + u then y.lineMatch c (first + u - 4) else y
      if decide (u < ch.nextFetch) || ch.shown.isNone || ch.switch.any (· ≤ u) || decide ((y.view.timing c).actH ≤ u) then y
      else y.switchGroup c u 1 true

/-! ## Origins and boundaries (R440, R441) -/

/-- State of a channel (0x4140 + c:01). -/
def Sys.showChannel (y : Sys) (c : Nat) : Sys :=
  let g := y.view
  let ch := y.channel c
  let st := if !g.chanOn c then 0 else if ch.restart.isSome || !ch.running then 4
    else if ch.shown.isNone && g.rd (ent (0x4100 + c) 2) != 3 then 1
    else if g.chanMode c == 3 && g.rd (ent (0x4100 + c) 2) == 1 then 3 else 2
  let y := y.wr (ent (0x4140 + c) 1) st
  y.wr (ent 0x41B0 1) (bitsOf ((List.range 24).filter y.view.chanOn))

/-- Link rate of SDI carriage for a timing code: 1 3G, 2 6G, 3 12G. -/
def sdiRate (code : Nat) : Nat := if code = 0 then 0 else if code ≤ 3 then 1 else if code ≤ 8 then 2 else 3

/-- SDI outputs follow their channel: RUN, IDLE while it restarts, SHED, OFF (R432, R441). -/
def Sys.showSdo (y : Sys) : Sys :=
  upto 16 (fun n y =>
    let c := y.rd (ent (0x4170 + n) 1)
    let on := c < 24 && y.view.chanOn c && !y.portsHeld 26
    let st := if !on then 3 else if y.isShed 1 n then 2 else if (y.channel c).running && (y.channel c).restart.isNone then 0 else 1
    (y.wr (ent (0x4170 + n) 3) st).wr (ent (0x4170 + n) 4) (if on then sdiRate (y.rd (ent (0x4120 + c) 1)) else 0)) y

/-- A raster restarts at the next origin, for a cause of event 0x0C06 (R441). -/
def Sys.restartRaster (y : Sys) (c cause : Nat) : Sys :=
  let ch := y.channel c
  Sys.showSdo (Sys.showChannel (y.setChannel c { ch with restart := some cause, running := false }) c)

/-- The channel is off: its sinks send nothing (R432). -/
def Sys.stopChannel (y : Sys) (c : Nat) : Sys :=
  let ch := y.channel c
  Sys.showSdo (Sys.showChannel (y.setChannel c { channel0 with index := ch.index, host := ch.host, due := ch.due }) c)

/-- ETH100 quad q is UP. -/
def Sys.quadUp (y : Sys) (q : Nat) : Bool := q < 8 && y.rd (ent (0x2488 + q) 4) == 2

/-- Packets per frame of a video stream: 1,260 octets of samples each (R458). -/
def Gen.streamBytes (g : Gen) (c : Nat) : Nat :=
  let t := g.timing c
  t.actH * (match g.chanFormat c with | 2 => (t.actW + 3) / 4 * 15 | 4 => (t.actW + 1) / 2 * 6 | _ => (t.actW + 1) / 2 * 5)
def Gen.packets (g : Gen) (c : Nat) : Nat := (g.streamBytes c + 1259) / 1260

/-- Paths of a stream (video n, audio sender n - 8): path number and quad. -/
def Sys.paths (y : Sys) (n : Nat) : List (Nat × Nat) :=
  let b := if n < 8 then 0x4190 + n else 0x4198 + (n - 8)
  ([(0, y.rd (ent b 2)), (1, y.rd (ent b 3))]).filter fun p => p.2 < 8

/-- Paths that carry packets now. -/
def Sys.pathsUp (y : Sys) (n : Nat) : List (Nat × Nat) :=
  (y.paths n).filter fun p => y.quadUp p.2 && !y.pathsDown.contains (n, p.1)

/-- State of a video stream (0x4190 + n:08). -/
def Sys.showStream (y : Sys) (n : Nat) : Sys :=
  let c := y.rd (ent (0x4190 + n) 1)
  let on := c < 24 && y.view.chanOn c
  let up := (y.pathsUp n).length
  let st := if !on then 0 else if y.isShed 5 n then 3 else if up = 0 then 0 else if up < (y.paths n).length then 2 else 1
  (y.wr (ent (0x4190 + n) 8) st).wr (ent (0x4190 + n) 0x0F) (if on then y.view.packets c else 0)

/-- STREAM_PATH_DOWN (R459): LANE_DOWN on quad q. -/
def Sys.quadPathsDown (y : Sys) (q : Nat) : Sys :=
  upto 16 (fun n y =>
    ((y.paths n).filter fun p => p.2 == q && !y.pathsDown.contains (n, p.1)).foldl (fun y p =>
      let y := { y with pathsDown := y.pathsDown ++ [(n, p.1)] }
      let y := if n < 8 then Sys.showStream (y.inc (ent (0x4190 + n) 0x0E)) n else y
      y.raise 0x0C0C n (ev [(0, 1, n), (1, 1, p.1), (2, 1, q)])) y) y

/-- STREAM_PATH_RESTORE (R459). -/
def Sys.restorePaths (y : Sys) (n : Nat) : Sys :=
  ((y.paths n).filter fun p => y.pathsDown.contains (n, p.1) && y.quadUp p.2).foldl (fun y p =>
    let y := { y with pathsDown := y.pathsDown.filter (· != (n, p.1)) }
    let y := if n < 8 then y.showStream n else y
    y.raise 0x0C0D n (ev [(0, 1, n), (1, 1, p.1), (2, 1, p.2)])) y

/-- The timing in use as a custom record (0x4120 + c:04). -/
def Gen.timingRecord (g : Gen) (c : Nat) : Bytes :=
  let r := g.rdB (ent (0x4120 + c) 3)
  match stdTiming (g.rd (ent (0x4120 + c) 1)) with
  | some t => pack 32 [(0, 2, t.actW), (2, 2, t.actH), (4, 2, t.totW), (6, 2, t.totH), (10, 2, t.vFirst), (24, 4, t.num), (28, 4, t.den)]
  | none => slice r 0 32

/-- A sequence time of 0x4188 + p:0B in ns: T3, T8, T9, T12. -/
def Sys.edpTime (y : Sys) (p i : Nat) : Nat := rdLe (y.rdB (ent (0x4188 + p) 0x0B)) (2 * i) 2 * 1000000

/-- The off sequence: ED_BLEN low, video off, ED_VDDEN low; T12 runs. -/
def Sys.edpOff (y : Sys) (p st : Nat) : Sys :=
  Sys.wr (y.setEdp p { edp0 with notBefore := y.up + y.edpTime p 3 }) (ent (0x4188 + p) 0x0C) st

/-- Link rate in 10 kb/s per lane. -/
def edpRate (code : Nat) : Nat := [162, 216, 243, 270, 324, 432, 540, 810].getD code 0 * 1000

/-- The port's main link carries its channel's pixels (R432). -/
def Gen.edpFits (g : Gen) (p : Nat) : Bool :=
  let b := 0x4188 + p
  let t := g.timing (g.rd (ent b 1))
  let clock := t.totW * t.totH * t.num
  decide (clock * 3 * g.rd (ent b 5) * 10 ≤ g.rd (ent b 3) * edpRate (g.rd (ent b 4)) * 10000 * 8 * t.den)

/-- Power-up from step 2 (R456). One that T12 still holds back follows at the first output frame of its channel after it; a port that is shed stays off
until it resumes (R101, R104). -/
def Sys.edpPower (y : Sys) (p : Nat) : Sys :=
  let c := y.rd (ent (0x4188 + p) 1)
  if y.portsHeld 26 || y.isShed 2 p || !(c < 24 && y.view.chanOn c) then y
  else if y.up < (y.edp p).notBefore then y.setEdp p { y.edp p with due := true }
  else if !y.view.edpFits p then
    Sys.raise (y.wr (ent (0x4188 + p) 0x0C) 5) 0x0C08 p (ev [(0, 1, p), (1, 1, 3)])
  else Sys.wr (y.setEdp p { edp0 with vdd := true, waitHpd := true }) (ent (0x4188 + p) 0x0C) 1

/-- OUTPUT_ORIGIN (R440, R441): output frame `index` begins; a restarting raster runs from here. -/
def execOutputOrigin (channel : Fin 24) (index : BitVec 64) (s : State) : Host.Outcome State Fault Refusal :=
  onSys s fun _ y =>
    let c := channel.val
    let k := index.toNat
    if !y.view.chanOn c || !y.domainRun 26 || y.portsHeld 26 || (y.outputsHeld && (y.channel c).restart.isSome) then y
    else
      let ch := y.channel c
      let y := y.setChannel c { ch with running := true, restart := none, index := k, origin := y.view.originOf c k }
      let y := match ch.restart with
        | some cause => y.raise 0x0C06 c (pack 16 [(0, 1, c), (1, 1, cause), (8, 8, k)])
        | none => y
      let y := (y.wr (ent (0x4140 + c) 2) k).wrB (ent (0x4120 + c) 4) (y.view.timingRecord c)
      let y := Sys.showSdo (y.showChannel c)
      let y := upto 8 (fun n y => if y.rd (ent (0x4190 + n) 1) = c then Sys.showStream (y.restorePaths n) n else y) y
      let y := [0, 1].foldl (fun y p =>
        let e := y.edp p
        if y.rd (ent (0x4188 + p) 1) = c ∧ e.trained then
          Sys.wr (y.setEdp p { e with trained := false, video := true }) (ent (0x4188 + p) 0x0C) 3
        else if y.rd (ent (0x4188 + p) 1) = c ∧ e.due then y.edpPower p
        else y) y
      y.lineMatch c 0

/-- Signature of the output frame (R448). -/
def Sys.frameSignature (y : Sys) (c : Nat) : W32 :=
  ~~~ (List.range (y.view.timing c).actH).foldl (fun r j => crcStep 0x82F63B78 r (y.lineBytes c j)) 0xFFFFFFFF

/-- FREEZE_ALARM (R449): `sig` against the previous signature. -/
def Sys.freeze (y : Sys) (c : Nat) (sig : W32) : Sys :=
  let ch := y.channel c
  let key := ent (0x4140 + c) 0x0E
  let equal := ch.lastSig == some sig && y.rd (ent (0x4100 + c) 2) != 0
  let moved := equal && (ch.moved || ch.lastShown != ch.shown)
  let count := if equal then ch.frozen + 1 else 0
  let limit := y.rd (ent (0x4100 + c) 0x0D)
  let y := y.setChannel c { ch with lastSig := some sig, lastShown := ch.shown, frozen := count, moved := moved,
                                    frozenFor := if equal then count else 0 }
  if equal then
    if limit ≠ 0 ∧ limit ≤ count ∧ y.rd key = 0 then
      let kind := if moved then 1 else 2
      Sys.raise (y.wr key kind) 0x0C03 c (ev [(0, 1, c), (1, 1, kind), (4, 4, sig.toNat), (8, 4, ch.shown.getD 0)])
    else y
  else if y.rd key = 0 then y
  else Sys.raise (y.wr key 0) 0x0C04 c (ev [(0, 1, c), (4, 4, ch.frozen)])

/-- Both twins have reported the same output frame: a difference is a mismatch (R451). -/
def Sys.compareTwin (y : Sys) (c : Nat) : Sys :=
  let ch := y.channel c
  match ch.twin, ch.lastSig with
  | some (k, F, sig), some own =>
    if k ≠ y.rd (ent (0x4140 + c) 2) then y
    else
      let y := y.setChannel c { ch with twin := none }
      if F = ch.lastShown.getD 0 ∧ sig = own.toNat then y
      else (y.inc (ent (0x4140 + c) 0x0F)).raiseLimited c 0x0C0B c
        (ev [(0, 1, c), (4, 4, ch.lastShown.getD 0), (8, 4, F), (12, 4, k)])
  | _, _ => y

/-- Events of a switched output frame, raised at its boundary as the worked example of R447 has them. -/
def Sys.switchEvents (y : Sys) (c : Nat) : Sys :=
  let ch := y.channel c
  match ch.fell with
  | none => y
  | some (due, reason) =>
    let line := ch.switch.getD 0
    let y := if ch.underran then
      y.raiseLimited c 0x0C01 c (ev [(0, 1, c), (1, 1, (y.lockGroup c).getD 0xFF), (2, 2, line), (4, 4, due), (8, 4, ch.fallback.getD 0)])
      else y
    y.raiseLimited c 0x0C02 c (ev [(0, 1, c), (1, 1, reason), (2, 2, line), (4, 4, due), (8, 4, ch.fallback.getD 0)])

/-- Shed sinks of a channel resume at its boundary once the warning has cleared, or once the list no longer names them (R104, R105). -/
def Sys.resumeSinks (y : Sys) (c : Nat) : Sys :=
    let drop (y : Sys) (sub i : Nat) : Sys :=
      if y.rd (ent 0x2002 7) = 1 && y.rdBit (ent 0x2002 sub) i then y
      else { y with sup := { y.sup with shed := y.sup.shed.map fun p => if p.1 == sub then (p.1, clrBit p.2 i) else p } }
    let y := upto 16 (fun n y => if y.rd (ent (0x4170 + n) 1) = c then drop y 1 n else y) y
    let y := upto 2 (fun p y => if y.rd (ent (0x4188 + p) 1) = c then drop y 2 p else y) y
    upto 8 (fun n y => if y.rd (ent (0x4190 + n) 1) = c then drop y 5 n else y) y

/-- What ends an output frame (R440, R448, R449, R451, R462), before its channel's RWC entries go live. -/
def Sys.endOutputFrame (y : Sys) (c : Nat) : Sys :=
  let ch := y.channel c
  let y := y.reportSlack .s ⟨((y.fifoLines c * y.view.lineOctets c : Nat) : Int) - (Config.fifoMinimum : Nat), 262144⟩
  let y := y.inc64 (ent (0x4140 + c) 9) 1
  let y := y.wr (ent (0x4140 + c) 3) y.t96
  let y := (y.wr (ent (0x4140 + c) 4) (ch.shown.getD 0)).wr (ent (0x4140 + c) 5) (ch.fallback.getD 0)
  let y := y.switchEvents c
  let sig := y.frameSignature c
  let y := (y.freeze c sig).wr (ent (0x4140 + c) 6) sig.toNat
  let mode := y.view.chanMode c
  let y := if y.rd (ent 0x41B0 2) = 1 ∧ (mode = 1 ∨ mode = 3) then
    y.controlTwin .signature (pack 17 [(0, 1, c), (1, 8, ch.index), (9, 4, ch.shown.getD 0), (13, 4, sig.toNat)]) else y
  let y := y.compareTwin c
  let y := (y.irqScan c 0).lineMatch c ((y.view.timing c).vFirst + (y.view.timing c).actH)
  let ch := y.channel c
  let y := y.setChannel c { ch with picked := false, nextFetch := 0, committed := 0, fell := none, underran := false,
                                    due := ch.due.drop (ch.due.length - 2) }
  Sys.showChannel (y.resumeSinks c) c

/-! ## Lock groups and twins -/

/-- LOCK_GROUP_SIGNAL (R447): a decision from another array position. -/
def execLockGroupSignal (group : Fin 8) (position : Fin 4) (line : BitVec 16) (reason : Fin 4) (s : State) :
    Host.Outcome State Fault Refusal :=
  onSys s fun _ y =>
    let l := group.val
    let ms := (List.range 24).filter fun d => y.rdBit (ent (0x4160 + l) (1 + y.arrayPos)) d && (y.channel d).running
    let late := ms.filterMap fun d =>
      let first := y.view.lineAfter d (y.channel d).origin (y.t96 + (y.view.timing d).lines 2)
      if line.toNat < first then some first else none
    let y := ms.foldl (fun y d =>
      let first := y.view.lineAfter d (y.channel d).origin (y.t96 + (y.view.timing d).lines 2)
      y.switchOne d (max line.toNat first) (if reason.val = 1 then 3 else reason.val) false) y
    let y := (y.inc (ent (0x4160 + l) 5)).wr (ent (0x4160 + l) 6) line.toNat
    match late.head? with
    | some first => y.raise 0x0C0E l (ev [(0, 1, l), (1, 1, position.val), (2, 2, line.toNat), (4, 2, first)])
    | none => y

/-- TWIN_SIGNATURE (R451). -/
def execTwinSignature (channel : Fin 24) (index : BitVec 64) (frame : BitVec 32) (signature : BitVec 32) (s : State) :
    Host.Outcome State Fault Refusal :=
  onSys s fun _ y =>
    let c := channel.val
    if y.rd (ent 0x41B0 2) = 1 then
      Sys.compareTwin (y.setChannel c { y.channel c with twin := some (index.toNat, frame.toNat, signature.toNat) }) c
    else y

/-! ## SDI inputs (R454) -/

/-- SDI_INPUT_FRAME: a complete frame enters the input's store of three. -/
def execSdiInputFrame (input : Fin 4) (stamp : BitVec 96) (rows : List (List (BitVec 48))) (crcLines : BitVec 16) (timeCode : BitVec 32)
    (s : State) : Host.Outcome State Fault Refusal :=
  onSys s fun _ y =>
    let n := input.val
    let b := 0x4180 + n
    if y.rd (ent b 2) ≠ 2 then y
    else
      let x := y.sdi n
      let px := rows.zipIdx.flatMap fun r => r.1.zipIdx.map fun p => (pxKey r.2 p.2, p.1.toNat)
      let y := y.inc64 (ent b 5) 1
      let y := y.setSdi n { x with frames := (x.frames ++ [(y.rd (ent b 5), stamp.toNat, px)]).drop (x.frames.length + 1 - 3) }
      let y := (y.incBy (ent b 6) crcLines.toNat).wrB (ent b 7) (le 4 timeCode.toNat)
      y.wr (ent b 8) stamp.toNat

/-- SDI_INPUT_STATE: 0 OFF, 1 NO_SIGNAL, 2 LOCKED, 3 UNSUPPORTED, and the timing code detected. -/
def execSdiInputState (input : Fin 4) (state : Fin 4) (format : Fin 15) (s : State) : Host.Outcome State Fault Refusal :=
  onSys s fun _ y =>
    let n := input.val
    let b := 0x4180 + n
    let old := y.rd (ent b 2)
    let new := if y.rd (ent b 1) = 1 ∧ !y.portsHeld 24 then state.val else 0
    if old = new ∧ y.rd (ent b 3) = format.val then y
    else
      let x := y.sdi n
      let y := (y.wr (ent b 2) new).wr (ent b 3) format.val
      let y := y.setSdi n (if new = 2 then { x with holdFrom := none, expired := false }
        else { x with holdFrom := if old = 2 then some y.up else x.holdFrom })
      y.raise 0x0C07 n (ev [(0, 1, n), (1, 1, old), (2, 1, new), (3, 1, format.val)])

/-- SDI_INPUT_HOLD_END: the last frame is no longer repeated. -/
def execSdiInputHoldEnd (input : Fin 4) (s : State) : Host.Outcome State Fault Refusal :=
  onSys s fun _ y =>
    let x := y.sdi input.val
    if x.holdFrom.isSome then y.setSdi input.val { x with frames := [], expired := true } else y

/-! ## eDP ports (R455, R456) -/

/-- EDP_ENABLE (R456): the enable is committed and ED_VDDEN goes high. -/
def execEdpEnable (port : Fin 2) (s : State) : Host.Outcome State Fault Refusal :=
  onSys s fun _ y =>
    let p := port.val
    let y := y.wr (ent (0x4188 + p) 2) 1
    if y.rd (ent (0x4188 + p) 0x0C) = 0 ∨ y.rd (ent (0x4188 + p) 0x0C) = 5 then y.edpPower p else y

/-- EDP_DISABLE (R456). -/
def execEdpDisable (port : Fin 2) (s : State) : Host.Outcome State Fault Refusal :=
  onSys s fun _ y => Sys.edpOff (y.wr (ent (0x4188 + port.val) 2) 0) port.val 0

/-- EDP_HPD_HIGH (R456 steps 3 and 4): the panel's DPCD says whether it supports PSR and fast training. -/
def execEdpHpdHigh (port : Fin 2) (psr fast : Bool) (s : State) : Host.Outcome State Fault Refusal :=
  onSys s fun _ y =>
    let p := port.val
    let e := y.edp p
    if e.vdd && e.waitHpd then
      Sys.wr (y.setEdp p { e with waitHpd := false, psrOk := psr, fastTrain := fast, attempts := 0 }) (ent (0x4188 + p) 0x0C) 2
    else y

/-- EDP_HPD_TIMEOUT (R456 step 3). -/
def execEdpHpdTimeout (port : Fin 2) (s : State) : Host.Outcome State Fault Refusal :=
  onSys s fun _ y =>
    let p := port.val
    if (y.edp p).waitHpd then Sys.raise (y.edpOff p 5) 0x0C08 p (ev [(0, 1, p)]) else y

/-- EDP_TRAINING_DONE (R456 step 5): video waits for the channel's next origin; the third failure makes the port FAILED. -/
def execEdpTrainingDone (port : Fin 2) (passed : Bool) (s : State) : Host.Outcome State Fault Refusal :=
  onSys s fun _ y =>
    let p := port.val
    let e := y.edp p
    if y.rd (ent (0x4188 + p) 0x0C) ≠ 2 then y
    else if passed then y.setEdp p { e with trained := true, attempts := 0 }
    else if e.attempts < 2 then y.setEdp p { e with attempts := e.attempts + 1 }
    else Sys.raise (y.edpOff p 5) 0x0C08 p (ev [(0, 1, p), (1, 1, 1)])

/-- EDP_HPD_IRQ (R455): the link status is read; a lost lock retrains. -/
def execEdpHpdIrq (port : Fin 2) (lockLost : Bool) (s : State) : Host.Outcome State Fault Refusal :=
  onSys s fun _ y =>
    let p := port.val
    let e := y.edp p
    if lockLost && (y.rd (ent (0x4188 + p) 0x0C) == 3 || y.rd (ent (0x4188 + p) 0x0C) == 4) then
      Sys.wr (y.setEdp p { e with attempts := 0, trained := false }) (ent (0x4188 + p) 0x0C) 2
    else y

/-- EDP_UNPLUG (R455): the off sequence, with event 0x0C08 cause 2. -/
def execEdpUnplug (port : Fin 2) (s : State) : Host.Outcome State Fault Refusal :=
  onSys s fun _ y =>
    let p := port.val
    if (y.edp p).vdd && !(y.edp p).waitHpd then Sys.raise (y.edpOff p 0) 0x0C08 p (ev [(0, 1, p), (1, 1, 2)]) else y

/-- EDP_BACKLIGHT_ON (R456 step 7): after T8 of video; a shed port holds ED_BLEN low (R457). -/
def execEdpBacklightOn (port : Fin 2) (s : State) : Host.Outcome State Fault Refusal :=
  onSys s fun _ y =>
    let p := port.val
    let e := y.edp p
    if e.video then y.setEdp p { e with blen := !y.isShed 2 p, pwm := true } else y

/-! ## ST 2110 (R458 to R460) -/

/-- An RTP header: marker, payload type, 16-bit sequence, timestamp, SSRC. -/
def rtpHeader (marker : Bool) (pt seq ts ssrc : Nat) : Bytes :=
  [0x80, BitVec.ofNat 8 ((if marker then 128 else 0) + pt)] ++ be 2 seq ++ be 4 ts ++ be 4 ssrc

/-- Samples of an active line as ST 2110-20 pixel groups. -/
def Sys.pgroups (y : Sys) (c line : Nat) : Bytes :=
  let w := (y.view.timing c).actW
  if y.view.chanFormat c = 2 then
    (List.range ((w + 3) / 4)).flatMap fun i => packBits ((List.range 4).flatMap fun j =>
      let p := y.outPixel c line (4 * i + j)
      [(10, pxChan p 0), (10, pxChan p 1), (10, pxChan p 2)])
  else y.lineBytes c line

/-- Sample row data headers and data of packet p: line segments of at most 1,260 octets in all (R458). -/
def Sys.srd (y : Sys) (c p : Nat) : Bytes :=
  let g := y.view
  let per := g.streamBytes c / max 1 (g.timing c).actH
  let perPx : Nat × Nat := match g.chanFormat c with | 2 => (4, 15) | 4 => (2, 6) | _ => (2, 5)
  let start := 1260 * p
  let stop := min (start + 1260) (g.streamBytes c)
  let l0 := start / max 1 per
  let l1 := (stop - 1) / max 1 per
  let segs := (List.range (l1 + 1 - l0)).map fun i =>
    let l := l0 + i
    let a := max start (l * per) - l * per
    let b := min stop ((l + 1) * per) - l * per
    (l, a, b, decide (l < l1))
  segs.flatMap (fun s => be 2 (s.2.2.1 - s.2.1) ++ be 2 s.1 ++
      be 2 (s.2.1 / perPx.2 * perPx.1 + if s.2.2.2 then 32768 else 0)) ++
    segs.flatMap fun s => slice (y.pgroups c s.1) s.2.1 (s.2.2.1 - s.2.1)

/-- RTP timestamp of output frame k at 90 kHz (R459). -/
def Sys.rtpStamp (y : Sys) (c : Nat) : Nat := y.view.originOf c (y.channel c).index / 2 ^ 32 * 90000 / 1000000000 % 2 ^ 32

/-- ST2110_PACKET_SEND (R458, R459): packet p of the channel's output frame goes out on every path that is up. -/
def execSt2110PacketSend (stream : Fin 8) (packet : BitVec 32) (late : Bool) (s : State) : Host.Outcome State Fault Refusal :=
  onSys s fun _ y =>
    let n := stream.val
    let b := 0x4190 + n
    let c := y.rd (ent b 1)
    let p := packet.toNat
    if !(c < 24 && (y.channel c).running) || y.isShed 5 n || decide (y.view.packets c ≤ p) then y.showStream n
    else
      let per := y.view.packets c
      let seq := ((y.channel c).index * per + p) % 2 ^ 32
      let body := rtpHeader (p + 1 == per) (y.rd (ent b 5)) (seq % 65536) (y.rtpStamp c) (rdLe (y.rdB (ent b 4)) 24 4) ++
        be 2 (seq / 65536) ++ y.srd c p
      let y := (y.pathsUp n).foldl (fun y q => y.send (.rtp 0 n q.1 seq body)) y
      let y := if (y.pathsUp n).isEmpty then y else y.inc64 (ent b 0x0C) 1
      let y := if late then y.inc (ent b 0x0D) else y
      y.showStream n

/-- Frames per second of a rate, rounded up, for time code. -/
def tcRate (t : Timing) : Nat := (t.num + t.den - 1) / max 1 t.den

/-- Time code of O_k (R453): hours, minutes, seconds, frames of the UTC time of day, drop-frame at rates with den 1001, counted in
frame pairs above 30 Hz. -/
def Sys.timeCode (y : Sys) (c : Nat) : List Nat :=
  let t := y.view.timing c
  let ns : Int := (y.view.originOf c (y.channel c).index / 2 ^ 32 : Nat) - y.rdI (ent 0x2301 0x0B) * 1000000000
  let day := (ns % 86400000000000).toNat
  let r := tcRate t
  let pair := if 30 < r then 2 else 1
  let fps := r / pair
  let frame := day * t.num / (max 1 t.den * 1000000000) / pair
  -- drop-frame: two numbers are skipped each minute but every tenth, at 30 frames
  let frame := if t.den = 1001 ∧ fps = 30 then
      let d := frame / 17982
      let m := frame % 17982
      frame + 18 * d + (if 2 ≤ m then 2 * ((m - 2) / 1798) else 0)
    else frame
  [frame / (fps * 3600) % 24, frame / (fps * 60) % 60, frame / fps % 60, frame % fps]

/-- ST2110_ANC_SEND (R460): time code and host packets of the output frame. -/
def execSt2110AncSend (stream : Fin 8) (s : State) : Host.Outcome State Fault Refusal :=
  onSys s fun _ y =>
    let n := stream.val
    let b := 0x4190 + n
    let c := y.rd (ent b 1)
    if y.rd (ent b 9) = 1 ∧ c < 24 ∧ (y.channel c).running then
      let k := (y.channel c).index
      let body := rtpHeader true (y.rd (ent b 5)) (k % 65536) (y.rtpStamp c) (rdLe (y.rdB (ent b 0x0A)) 24 4) ++ be 2 (k / 65536) ++
        (y.timeCode c).map (BitVec.ofNat 8) ++ y.rdB (ent (0x4100 + c) 0x0C)
      (y.pathsUp n).foldl (fun y q => y.send (.rtp 1 n q.1 (k % 2 ^ 32) body)) y
    else y

end Sys2Proof.Machine
end

