-- ==== Sys2Proof/Machine/Media.lean ====
section
/-!
DEFINITION. Sys2Proof/Machine/Media.lean: the media queues and the write buffer (R522 to R543). The drives are outside the module: what they hold comes with the commands that report a drive's answer, and what goes to them is in `tx`.
-/

namespace Sys2Proof.Machine

/-! ## Module DRAM and host memory (R516, R531, R566) -/

/-- Octets of the usable address space. -/
def usable : Nat := 193273528320

def Sys.dramRd (y : Sys) (a n : Nat) : Bytes := (List.range n).map fun i => tget (fun _ => (0 : Byte)) y.dram (a + i)
/-- A write; a line written whole is poisoned no longer (R571). -/
def Sys.dramWr (y : Sys) (a : Nat) (b : Bytes) : Sys :=
  let keep := y.mem.poison.filter fun l => !(a ≤ 64 * l && 64 * l + 64 ≤ a + b.length)
  { y with
    dram := b.zipIdx.foldl (fun m p => tset (fun _ => (0 : Byte)) m (a + p.2) p.1) y.dram,
    mem := { y.mem with poison := keep } }

/-- Bit 63 of an address selects host memory. -/
def toHost (a : Nat) : Bool := a.testBit 63

/-- A DMA read: module DRAM, or the octets the host memory holds, which come with the command. -/
def Sys.dmaRd (y : Sys) (a n : Nat) (host : Bytes) : Bytes := if toHost a then slice host 0 n else y.dramRd a n
def Sys.dmaWr (y : Sys) (a : Nat) (b : Bytes) : Sys := if toHost a then y.send (.host (a - 2 ^ 63) b) else y.dramWr a b
/-- A data address in module DRAM lies in the usable space. -/
def dmaOk (a n : Nat) : Bool := toHost a || decide (a + n ≤ usable)

/-- A read of module DRAM that meets a poisoned line: the transfer ends with ADDRESS (R572). -/
def Sys.dmaPoisoned (y : Sys) (a n : Nat) : Bool := !toHost a && y.mem.poison.any fun l => 64 * l < a + n && a < 64 * l + 64

/-! ## Records at reset -/

def mq0 : Mq :=
  { cqHead := 0, phase := true, held := [], unread := [], log := [], sqBase := 0, sqN := 256, cqBase := 0, cqN := 256, lostW := 0, lostR := 0 }
def rec0 : Recording :=
  { slot := none, key := none, extents := [], offset := 0, tail := [], placed := [], reserved := [], refused := [], stopAt := none,
    last := (0, 0), tried := false, extractOnly := false }
def Sys.mq (y : Sys) (q : Nat) : Mq := tget (fun _ => mq0) y.media.queues q
def Sys.setMq (y : Sys) (q : Nat) (v : Mq) : Sys := { y with media := { y.media with queues := tset (fun _ => mq0) y.media.queues q v } }
def Sys.vol (y : Sys) : Volume := y.media.volume
def Sys.setVol (y : Sys) (v : Volume) : Sys := { y with media := { y.media with volume := v } }
def Sys.recording (y : Sys) (x : Nat) : Recording := tget (fun _ => rec0) y.media.recs x
def Sys.setRec (y : Sys) (x : Nat) (v : Recording) : Sys := { y with media := { y.media with recs := tset (fun _ => rec0) y.media.recs x v } }

/-! ## Layout (R523, R524) -/

/-- Columns. -/
def Volume.columns (v : Volume) : Nat :=
  match v.layout with | 1 => max 1 v.members.length | 3 => 2 | _ => 1
/-- Member indices of a column. -/
def Volume.columnMembers (v : Volume) (c : Nat) : List Nat :=
  match v.layout with | 1 => [c] | 2 => [0, 1] | 3 => [2 * c, 2 * c + 1] | _ => [0]
/-- Drives of a column. -/
def Volume.columnDrives (v : Volume) (c : Nat) : List Nat := (v.columnMembers c).filterMap fun m => v.members[m]?
def Volume.mirrored (v : Volume) : Bool := v.layout == 2 || v.layout == 3

/-- State of a drive (0x4940 + d:01): 1 IN_SERVICE, 3 REBUILDING. -/
def Sys.driveState (y : Sys) (d : Nat) : Nat := if d < 4 then y.rd (ent (0x4940 + d) 1) else 0
def Sys.takesWrites (y : Sys) (d : Nat) : Bool := y.driveState d == 1 || y.driveState d == 3

/-- The runs of blocks of a range that lie in one stripe unit: column, drive LBA, blocks, block offset from the first. -/
def Volume.runs (v : Volume) (b n : Nat) : List (Nat × Nat × Nat × Nat) :=
  if n = 0 then []
  else (List.range ((b + n - 1) / 256 + 1 - b / 256)).map fun i =>
    let u := b / 256 + i
    let lo := max b (256 * u)
    let hi := min (b + n) (256 * (u + 1))
    (u % v.columns, 16384 + u / v.columns * 256 + lo % 256, hi - lo, lo - b)

/-- First and last block of an octet range. -/
def blockOf (a : Nat) : Nat := a / 4096
def blocksOf (a len : Nat) : Nat := if len = 0 then 0 else (a + len - 1) / 4096 + 1 - a / 4096

/-- The parts of a write, one for each member that takes writes. -/
def Sys.writePieces (y : Sys) (a len : Nat) : List Piece :=
  let v := y.vol
  (v.runs (blockOf a) (blocksOf a len)).flatMap fun r =>
    ((v.columnDrives r.1).filter y.takesWrites).map fun d => ⟨d, r.2.1, r.2.2.1, 4096 * r.2.2.2 - a % 4096, none⟩

/-- Volume states 2 ONLINE and 3 DEGRADED take commands. -/
def Sys.volumeUp (y : Sys) : Bool := y.rd (ent 0x4948 4) == 2 || y.rd (ent 0x4948 4) == 3

/-! ## The write buffer (R534 to R541) -/

/-- Drive commands outstanding at a drive. -/
def Media.outstanding (m : Media) (d : Nat) : Nat :=
  let n (l : List Piece) : Nat := (l.filter fun p => p.drive == d && p.cid.isSome).length
  (m.writes.map fun w => n w.pieces).sum + (m.reads.map fun r => n r.pieces).sum + (m.flushes.map fun f => n f.pieces).sum +
    (m.direct.filter fun w => w.drive == d).length

/-- Octet ranges meet. -/
def meets (a n b m : Nat) : Bool := decide (a < b + m) && decide (b < a + n)

/-- R535, R536: nothing accepted earlier keeps the write from the drives. -/
def Media.mayIssue (m : Media) (w : BufWrite) : Bool :=
  w.waiting.isNone &&
  (m.writes.all fun e => !(decide (e.order < w.order) && !e.pieces.isEmpty &&
    (meets (blockOf e.addr) (blocksOf e.addr e.data.length) (blockOf w.addr) (blocksOf w.addr w.data.length) ||
     (w.index && e.index && e.queue == w.queue) || (w.ordered && e.queue == w.queue)))) &&
  m.reads.all fun r => !(decide (r.order < w.order) && meets r.block r.count (blockOf w.addr) (blocksOf w.addr w.data.length))

/-- The parts of one write are issued, as far as the drives have room. -/
def Sys.issueWrite (y : Sys) (w : BufWrite) : Sys :=
  if !y.media.mayIssue w then y
  else w.pieces.foldl (fun y p =>
    if p.cid.isSome || decide (1024 ≤ y.media.outstanding p.drive) then y
    else
      let id := y.media.nextCid
      let set (u : BufWrite) : BufWrite :=
        if u.order = w.order then
          { u with pieces := u.pieces.map fun q => if q.drive == p.drive && q.lba == p.lba then { q with cid := some id } else q }
        else u
      let y := { y with media := { y.media with nextCid := id + 1, writes := y.media.writes.map set } }
      y.send (.drive p.drive id 0 p.lba p.count (slice w.data p.off (4096 * p.count)))) y

/-- The buffer drains: INDEX writes ahead of ESSENCE writes (R536). -/
def Sys.drain (y : Sys) : Sys :=
  let ws := y.media.writes
  (ws.filter (·.index) ++ ws.filter fun w => !w.index).foldl (fun y w => y.issueWrite w) y

/-- Octets of the buffer in use, and those of HOST queues. -/
def Media.buffered (m : Media) : Nat :=
  ((m.writes.filter fun w => w.waiting.isNone && !w.pieces.isEmpty).map fun w => w.data.length).sum + (m.direct.map fun w => w.data.length).sum
def Media.hostBuffered (m : Media) : Nat :=
  ((m.writes.filter fun w => w.host && w.waiting.isNone && !w.pieces.isEmpty).map fun w => w.data.length).sum
def Sys.showBuffered (y : Sys) : Sys := y.wr (ent 0x4950 3) y.media.buffered

/-! ## Completions (R531, R532) -/

/-- A queue counts as pending while a completion with INTERRUPT is unread (R756). -/
def Sys.mqPending (y : Sys) : Sys :=
  Sys.updateInt { y with boot := { y.boot with mqPending := (List.range 16).any fun q => !(y.mq q).unread.isEmpty } }

/-- A slot of the completion ring is filled. -/
def Sys.writeCq (y : Sys) (q : Nat) (e : Bytes) (irq : Bool) : Sys :=
  let u := y.mq q
  let tail := y.rd (ent (0x4910 + q) 4)
  let e := poke e 3 [if u.phase then 1 else 0]
  let y := y.dmaWr (u.cqBase + 16 * tail) e
  let next := (tail + 1) % max 1 u.cqN
  let y := y.setMq q { u with phase := if next = 0 then !u.phase else u.phase, unread := if irq then u.unread ++ [tail] else u.unread }
  let y := y.wr (ent (0x4910 + q) 4) next
  if irq then y.mqPending.sendVector (y.rd (ent (0x4900 + q) 6)) else y

/-- The completion ring has a free slot. -/
def Sys.cqRoom (y : Sys) (q : Nat) : Bool :=
  let u := y.mq q
  (y.rd (ent (0x4910 + q) 4) + 1) % max 1 u.cqN != u.cqHead % max 1 u.cqN

/-- A completion is posted: nothing of an old epoch, and nothing for a RECORDER queue's internal commands. -/
def Sys.post (y : Sys) (q tag status epoch blocks : Nat) (irq : Bool) : Sys :=
  if q ≥ 16 ∨ y.rd (ent (0x4900 + q) 1) ≠ 1 ∨ epoch ≠ y.rd (ent (0x4910 + q) 2) ∨ y.rd (ent (0x4910 + q) 1) = 3 then y
  else
    let e := pack 16 [(0, 2, tag), (2, 1, status), (4, 2, epoch), (6, 2, y.rd (ent (0x4910 + q) 3)), (8, 4, blocks)]
    let u := y.mq q
    if u.held.isEmpty && y.cqRoom q then y.writeCq q e irq else y.setMq q { u with held := u.held ++ [(e, irq)] }

/-! ## Freezing (R543) -/

/-- The log entries show (0x4920, 0x4910 + q:0A). -/
def Sys.showLog (y : Sys) (q : Nat) : Sys :=
  let l := (y.mq q).log
  (y.wrB (ent (0x4920 + q) 1) (l.headD [])).wr (ent (0x4910 + q) 0x0A) l.length

/-- A command ends with a status marked Freeze: the log, the completion, FROZEN, event 0x0F01. -/
def Sys.freezeQ (y : Sys) (q op flags tag epoch status drive sct sc block lba blocks : Nat) (irq : Bool) : Sys :=
  let e := pack 64 [(0, 12, y.t96), (12, 2, tag), (14, 2, epoch), (16, 1, op), (17, 1, flags), (18, 1, status), (19, 1, drive),
    (20, 1, sct), (21, 1, sc), (24, 8, block), (32, 8, lba), (40, 4, blocks)]
  let u := y.mq q
  let y := if u.log.length < 16 then y.setMq q { u with log := u.log ++ [e] }
    else Sys.inc (y.setMq q { u with log := u.log.drop 1 ++ [e] }) (ent (0x4920 + q) 2)
  let y := Sys.showLog (y.wrB (ent (0x4920 + q) 3) e) q
  let y := y.post q tag status epoch blocks irq
  let y := if y.rd (ent (0x4910 + q) 1) = 1 then y.wr (ent (0x4910 + q) 1) 2 else y
  let y := y.inc (ent (0x4910 + q) 9)
  y.raise 0x0F01 q (pack 16 [(0, 1, q), (1, 1, status), (2, 2, tag), (4, 2, epoch), (8, 8, block)])

/-! ## Settling: what a change of the buffer completes -/

/-- Flushes whose earlier writes are on media are issued to every member in service (R539). -/
def Sys.issueFlushes (y : Sys) : Sys :=
  y.media.flushes.foldl (fun y f =>
    if f.issued || y.media.writes.any fun w => w.queue == f.queue && decide (w.order < f.order) && !w.pieces.isEmpty then y
    else
      let ds := y.vol.members.filter fun d => y.driveState d == 1
      let ps : List Piece := ds.zipIdx.map fun d => ⟨d.1, 0, 0, 0, some (y.media.nextCid + d.2)⟩
      let set (g : MqFlush) : MqFlush := if g.order = f.order then { g with issued := true, pieces := ps } else g
      let y := { y with media := { y.media with nextCid := y.media.nextCid + ds.length, flushes := y.media.flushes.map set } }
      ps.foldl (fun y p => y.send (.drive p.drive (p.cid.getD 0) 2 0 0 [])) y) y

/-- Reads whose parts are all there, and flushes that are done, complete. -/
def Sys.completeDone (y : Sys) : Sys :=
  let rs := y.media.reads.filter fun r => r.pieces.isEmpty
  let fs := y.media.flushes.filter fun f => f.issued && f.pieces.isEmpty
  let y := { y with media := { y.media with
    reads := y.media.reads.filter fun r => !r.pieces.isEmpty,
    flushes := y.media.flushes.filter fun f => !(f.issued && f.pieces.isEmpty) } }
  let y := rs.foldl (fun y r =>
    Sys.inc64 ((y.dmaWr r.dest r.data).post r.queue r.tag 0 r.epoch r.count r.irq) (ent (0x4910 + r.queue) 7) r.count) y
  fs.foldl (fun y f => y.post f.queue f.tag 0 f.epoch 0 f.irq) y

/-- Writes that are on every member's media leave the buffer; an ORDERED one completes then (R538). -/
def Sys.retireWrites (y : Sys) : Sys :=
  let ws := y.media.writes.filter fun w => w.waiting.isNone && w.pieces.isEmpty
  let y := { y with media := { y.media with writes := y.media.writes.filter fun w => !(w.waiting.isNone && w.pieces.isEmpty) } }
  Sys.showBuffered (ws.foldl (fun y w =>
    if w.done then y else y.post w.queue w.tag 0 w.epoch (blocksOf w.addr w.data.length) w.irq) y)

def Sys.settle (y : Sys) : Sys := Sys.completeDone (Sys.issueFlushes (Sys.drain y.retireWrites))

/-- A write, deallocation or zeroing of one member alone goes out, and stays in the buffer until the drive has it (R29). -/
def Sys.directWrite (y : Sys) (d op lba count : Nat) (data : Bytes) : Sys :=
  let id := y.media.nextCid
  let w : DirectWrite := ⟨d, id, op, lba, count, data⟩
  Sys.showBuffered (Sys.send { y with media := { y.media with nextCid := id + 1, direct := y.media.direct ++ [w] } } (.drive d id op lba count data))

/-- An internal write of the recorder or the engine. -/
def Sys.putWrite (y : Sys) (q addr : Nat) (data : Bytes) (index ordered : Bool) : Sys :=
  let w : BufWrite :=
    { order := y.media.order, queue := q, tag := 0, epoch := 0, index := index, ordered := ordered, irq := false,
      host := false, addr := addr, data := data, waiting := none, done := true, pieces := y.writePieces addr data.length }
  Sys.settle { y with media := { y.media with order := y.media.order + 1, writes := y.media.writes ++ [w] } }

/-! ## Fetching commands (R532 to R541) -/

/-- The queue may fetch: RUNNING under a HOST owner, room for its completions, and no write that waits for space. -/
def Sys.fetches (y : Sys) (q : Nat) : Bool :=
  y.rd (ent (0x4900 + q) 1) == 1 && y.rd (ent (0x4910 + q) 1) == 1 && (y.mq q).held.isEmpty &&
  !(y.media.writes.any fun w => w.queue == q && w.waiting.isSome)

/-- The command after the fetched one is next. -/
def Sys.fetched (y : Sys) (q : Nat) : Sys :=
  (y.wr (ent (0x4910 + q) 3) ((y.rd (ent (0x4910 + q) 3) + 1) % max 1 (y.mq q).sqN)).inc64 (ent (0x4910 + q) 5) 1

/-- Extents of OPEN clips, by number. -/
def Sys.openExtents (y : Sys) : List Nat :=
  ((y.vol.directory.filter fun c => c.2.state == 1).flatMap fun c => c.2.extents) ++ y.media.recs.flatMap fun r => r.2.extents

/-- The status a submission entry gets before it runs, in the order the model checks (log entry 27). `kind` is the opcode of the
command that fetched it. -/
def Sys.entryStatus (y : Sys) (q kind : Nat) (e : Bytes) (fault : Bool) : Nat :=
  let op := rdLe e 0 1
  let flags := rdLe e 1 1
  let block := rdLe e 8 8
  let count := rdLe e 16 4
  let addr := rdLe e 24 8
  let index := flags.testBit 0
  let ordered := flags.testBit 1
  if op ≠ kind ∨ op = 0 ∨ 3 < op then 1
  else if 8 ≤ flags ∨ 4096 ≤ rdLe e 2 2 ∨ rdLe e 6 2 ≠ 0 ∨ rdLe e 20 4 ≠ 0 ∨ (e.drop 32).any (· != 0) ∨
      (ordered ∧ !(index && op == 1)) ∨
      (if op = 3 then block ≠ 0 ∨ count ≠ 0 ∨ addr ≠ 0 else count = 0 ∨ 4096 < count ∨ addr % 4096 ≠ 0) then 2
  else if rdLe e 4 2 ≠ y.rd (ent (0x4910 + q) 2) then 5
  else if !y.volumeUp then 9
  else if op ≠ 3 ∧ y.vol.cap < block + count then 3
  else if op = 1 ∧ (block < 262144 ∨ y.openExtents.any fun e => meets block count (262144 * (e + 1)) 262144) then 4
  else if op ≠ 3 ∧ (fault ∨ !dmaOk addr (4096 * count)) ∨ op = 1 ∧ y.dmaPoisoned addr (4096 * count) then 6
  else 0

/-- A command that ends at once with a status. -/
def Sys.rejectEntry (y : Sys) (q : Nat) (e : Bytes) (status : Nat) : Sys :=
  let irq := (rdLe e 1 1).testBit 2
  if status = 6 ∨ status = 9 then
    y.freezeQ q (rdLe e 0 1) (rdLe e 1 1) (rdLe e 2 2) (rdLe e 4 2) status 0xFF 0 0 (rdLe e 8 8) 0 0 irq
  else
    -- EPOCH completes in the epoch in which the command was accepted, the present one
    y.post q (rdLe e 2 2) status (y.rd (ent (0x4910 + q) 2)) 0 irq

/-- MQ_WRITE (R538, R541): the entry is fetched; its data enters the write buffer, or it waits for host-share space. -/
def execMqWrite (queue : Fin 16) (entry data : Bytes) (fault : Bool) (s : State) : Host.Outcome State Fault Refusal :=
  onSys s fun _ y =>
    let q := queue.val
    let e := slice entry 0 64
    if !y.fetches q then y
    else
      let y := y.fetched q
      let st := y.entryStatus q 1 e fault
      if st ≠ 0 then y.rejectEntry q e st
      else
        let count := rdLe e 16 4
        let addr := rdLe e 24 8
        let flags := rdLe e 1 1
        let fits := decide (y.media.hostBuffered + 4096 * count ≤ y.rd (ent 0x4950 2) * 1048576)
        let w : BufWrite :=
          { order := y.media.order, queue := q, tag := rdLe e 2 2, epoch := rdLe e 4 2, index := flags.testBit 0,
            ordered := flags.testBit 1, irq := flags.testBit 2, host := true, addr := 4096 * rdLe e 8 8,
            data := y.dmaRd addr (4096 * count) data, waiting := if fits then none else some y.up, done := fits && !flags.testBit 1,
            pieces := y.writePieces (4096 * rdLe e 8 8) (4096 * count) }
        let y := { y with media := { y.media with order := y.media.order + 1, writes := y.media.writes ++ [w] } }
        let y := y.inc64 (ent (0x4910 + q) 6) count
        let y := if w.done then y.post q w.tag 0 w.epoch count w.irq else y
        y.settle

/-- MQ_BUFFER_SPACE_FREED (R541): a waiting HOST write enters the buffer where it now fits. -/
def execMqBufferSpaceFreed (queue : Fin 16) (s : State) : Host.Outcome State Fault Refusal :=
  onSys s fun _ y =>
    let q := queue.val
    match y.media.writes.find? fun w => w.queue == q && w.waiting.isSome with
    | none => y
    | some w =>
      if y.rd (ent 0x4950 2) * 1048576 < y.media.hostBuffered + w.data.length then y
      else
        let us := (y.up - w.waiting.getD y.up) / 1000
        let set (u : BufWrite) : BufWrite := if u.order = w.order then { u with waiting := none, done := !u.ordered } else u
        let y := { y with media := { y.media with writes := y.media.writes.map set } }
        let y := y.inc64 (ent (0x4910 + q) 8) us
        let y := if w.ordered then y else y.post q w.tag 0 w.epoch (blocksOf w.addr w.data.length) w.irq
        y.settle

/-- The data of the latest earlier write that covers a block, if the buffer holds it (R535). -/
def Media.bufferedBlock (m : Media) (b : Nat) : Option Bytes :=
  ((m.writes.filter fun w => decide (w.addr ≤ 4096 * b) && decide (4096 * (b + 1) ≤ w.addr + w.data.length) &&
      (w.waiting.isSome || !w.pieces.isEmpty)).getLast?).map fun w => slice w.data (4096 * b - w.addr) 4096

/-- The drive that serves a read of a column: a member in service. -/
def Sys.readDrive (y : Sys) (c : Nat) : Option Nat := (y.vol.columnDrives c).find? fun d => y.driveState d == 1

/-- MQ_READ (R535): blocks the buffer holds come from it, the others from a member in service. -/
def execMqRead (queue : Fin 16) (entry : Bytes) (fault : Bool) (s : State) : Host.Outcome State Fault Refusal :=
  onSys s fun _ y =>
    let q := queue.val
    let e := slice entry 0 64
    if !y.fetches q then y
    else
      let y := y.fetched q
      let st := y.entryStatus q 2 e fault
      if st ≠ 0 then y.rejectEntry q e st
      else
        let b := rdLe e 8 8
        let n := rdLe e 16 4
        let runs := (y.vol.runs b n).filter fun r => (List.range r.2.2.1).any fun i => (y.media.bufferedBlock (b + r.2.2.2 + i)).isNone
        if runs.any fun r => (y.readDrive r.1).isNone then y.rejectEntry q e 9
        else
          let ps : List Piece := runs.zipIdx.map fun r =>
            ⟨(y.readDrive r.1.1).getD 0, r.1.2.1, r.1.2.2.1, 4096 * r.1.2.2.2, some (y.media.nextCid + r.2)⟩
          let rd : MqRead :=
            { order := y.media.order, queue := q, tag := rdLe e 2 2, epoch := rdLe e 4 2, irq := (rdLe e 1 1).testBit 2, flags := rdLe e 1 1,
              block := b, count := n, dest := rdLe e 24 8,
              data := (List.range n).flatMap fun i => (y.media.bufferedBlock (b + i)).getD (List.replicate 4096 0), pieces := ps }
          let y := { y with media := { y.media with order := y.media.order + 1, nextCid := y.media.nextCid + ps.length,
                                                    reads := y.media.reads ++ [rd] } }
          Sys.settle (ps.foldl (fun y p => y.send (.drive p.drive (p.cid.getD 0) 1 p.lba p.count [])) y)

/-- MQ_FLUSH (R539). -/
def execMqFlush (queue : Fin 16) (entry : Bytes) (s : State) : Host.Outcome State Fault Refusal :=
  onSys s fun _ y =>
    let q := queue.val
    let e := slice entry 0 64
    if !y.fetches q then y
    else
      let y := y.fetched q
      let st := y.entryStatus q 3 e false
      if st ≠ 0 then y.rejectEntry q e st
      else
        let f : MqFlush := { order := y.media.order, queue := q, tag := rdLe e 2 2, epoch := rdLe e 4 2, irq := (rdLe e 1 1).testBit 2,
                             flags := rdLe e 1 1, issued := false, pieces := [] }
        Sys.settle { y with media := { y.media with order := y.media.order + 1, flushes := y.media.flushes ++ [f] } }

/-- CQ_HEAD_WRITE (R531): freed slots take the completions that waited. -/
def execCqHeadWrite (queue : Fin 16) (head : BitVec 32) (s : State) : Host.Outcome State Fault Refusal :=
  onSys s fun _ y =>
    let q := queue.val
    let u := y.mq q
    let n := max 1 u.cqN
    let h := head.toNat % n
    let read (t : Nat) : Bool := decide ((t + n - u.cqHead % n) % n < (h + n - u.cqHead % n) % n)
    let y := Sys.mqPending (y.setMq q { u with cqHead := h, unread := u.unread.filter fun t => !read t })
    (y.mq q).held.foldl (fun y e =>
      if y.cqRoom q then (y.setMq q { y.mq q with held := (y.mq q).held.drop 1 }).writeCq q e.1 e.2 else y) y


end Sys2Proof.Machine
end

