-- ==== Sys2Proof/Machine/Recorder.lean ====
section
/-!
DEFINITION. Sys2Proof/Machine/Recorder.lean: clips on the volume: the directory, extents, chunks and their encryption, opening,
checkpoints and closing (R188 to R191, R527 to R529, R542, R555 to R559).
-/

namespace Sys2Proof.Machine

/-! ## What lies on the volume (R527, R528) -/

/-- A 4,096-octet structure with its CRC-32C in the last word. -/
def checked (h : Bytes) : Bytes := let h := slice h 0 4092; h ++ le 4 (crc32c h).toNat

/-- First block of an extent (R525). -/
def extentBlock (e : Nat) : Nat := 262144 * (e + 1)

/-- Directory entry of a clip. -/
def Clip.encode (c : Clip) : Bytes :=
  let h := pack 4096 [(0, 4, 0x52585150), (4, 1, 1), (5, 1, c.state), (6, 1, c.ctx), (7, 1, c.flags), (8, 8, c.id), (16, 8, c.die),
    (24, 12, c.start), (36, 12, if c.state = 1 then 0 else c.finish), (48, 4, c.firstFrame), (52, 4, c.lastFrame),
    (56, 8, (c.extents.head?.map extentBlock).getD 0), (64, 8, (c.extents.getLast?.map extentBlock).getD 0), (72, 8, c.committed),
    (80, 4, c.extents.length), (84, 1, c.streams.length), (85, 1, c.reason)]
  checked (c.streams.zipIdx.foldl (fun b p => poke b (128 + 32 * p.2) (pack 32 [(0, 4, p.1.1), (8, 8, p.1.2)])) h)

/-- The clip that a directory entry on the medium describes, with the extents found by walking back from its last one. -/
def Clip.decode (slot : Nat) (b : Bytes) (extents : List Nat) : Option Clip :=
  if b.length ≠ 4096 ∨ rdLe b 0 4 ≠ 0x52585150 ∨ rdLe b 4092 4 ≠ (crc32c (b.take 4092)).toNat ∨ rdLe b 5 1 = 0 then none
  else some { slot := slot, id := rdLe b 8 8, die := rdLe b 16 8, state := rdLe b 5 1, ctx := rdLe b 6 1, flags := rdLe b 7 1,
              start := rdLe b 24 12, finish := rdLe b 36 12, firstFrame := rdLe b 48 4, lastFrame := rdLe b 52 4, extents := extents,
              committed := rdLe b 72 8, reason := rdLe b 85 1,
              streams := (List.range (min 64 (rdLe b 84 1))).map fun i => (rdLe b (128 + 32 * i) 4, rdLe b (136 + 32 * i) 8) }

/-- Extent header. -/
def extentHeader (clip seq : Nat) (prev : Option Nat) (t96 : Nat) : Bytes :=
  checked (pack 4096 [(0, 4, 0x45585150), (4, 8, clip), (12, 4, seq), (16, 8, (prev.map extentBlock).getD (2 ^ 64 - 1)), (24, 12, t96)])

/-- Chunk header. -/
def chunkHeader (kind flags stream len frame time : Nat) : Bytes :=
  let h := pack 28 [(0, 1, 0xC9), (1, 1, kind), (2, 1, flags), (4, 4, stream), (8, 4, len), (12, 4, frame), (16, 12, time)]
  h ++ le 4 (crc32c h).toNat

/-- Chunk kinds. -/
inductive ChunkKind where
  | raw | au | manifest | colour | key | audio | gap
  deriving DecidableEq, Repr
def ChunkKind.code : ChunkKind → Nat
  | .raw => 1 | .au => 2 | .manifest => 3 | .colour => 4 | .key => 5 | .audio => 6 | .gap => 7

/-! ## The volume's free space -/

def Volume.extentCount (v : Volume) : Nat := (v.cap - 262144) / 262144
def Sys.usedExtents (y : Sys) : List Nat := (y.vol.directory.flatMap fun c => c.2.extents) ++ y.media.recs.flatMap fun r => r.2.extents
/-- The lowest-numbered free extent. -/
def Sys.freeExtent (y : Sys) : Option Nat :=
  let used := y.usedExtents
  (List.range y.vol.extentCount).find? fun e => !used.contains e
/-- 0x4948:0B. -/
def Sys.showExtents (y : Sys) : Sys := y.wr (ent 0x4948 0x0B) (y.vol.extentCount - y.usedExtents.eraseDups.length)

/-- The lowest FREE directory entry. -/
def Sys.freeSlot (y : Sys) : Option Nat :=
  let used := y.vol.directory.map (·.1)
  (List.range 16384).find? fun i => !used.contains i

def Volume.clip? (v : Volume) (slot : Nat) : Option Clip := v.directory.lookup slot
def Sys.setClip (y : Sys) (c : Clip) : Sys :=
  y.setVol { y.vol with directory := (y.vol.directory.filter fun p => p.1 != c.slot) ++ [(c.slot, c)] }

/-- The recording's queue is a running RECORDER queue. -/
def Sys.recQueue (y : Sys) (x : Nat) : Nat := y.rd (ent (0x4960 + x) 2)
def Sys.recQueueRuns (y : Sys) (x : Nat) : Bool :=
  let q := y.recQueue x
  y.rd (ent (0x4900 + q) 1) == 2 && y.rd (ent (0x4910 + q) 1) == 1

/-- The recorder submits a WRITE through its queue. -/
def Sys.recWrite (y : Sys) (x addr : Nat) (data : Bytes) (index : Bool) : Sys :=
  let q := y.recQueue x
  ((y.putWrite q addr data index index).inc64 (ent (0x4910 + q) 5) 1).inc64 (ent (0x4910 + q) 6) (blocksOf addr data.length)

/-- The directory entry is written, ORDERED and INDEX. -/
def Sys.writeEntry (y : Sys) (c : Clip) : Sys := (y.setClip c).recWrite c.ctx (4096 * c.slot) c.encode true

/-! ## Checkpoints and closing (R555, R556) -/

/-- The clip with everything placed so far. -/
def Recording.commit (r : Recording) (c : Clip) : Clip :=
  { c with extents := r.extents, committed := r.offset, lastFrame := r.last.1, streams := (r.placed.take 64).map fun p => (p.1, p.2.1) }

/-- The entry on the volume describes the chunks placed so far. -/
def Sys.checkpoint (y : Sys) (x : Nat) : Sys :=
  match (y.recording x).slot.bind y.vol.clip? with
  | none => y
  | some c => y.writeEntry ((y.recording x).commit c)

/-- RECORD_CHECKPOINT (R556). -/
def execRecordCheckpoint (ctx : Fin 16) (s : State) : Host.Outcome State Fault Refusal := onSys s fun _ y => y.checkpoint ctx.val

/-- The block of the directory entry is on a column with a member in service. -/
def Sys.entryReachable (y : Sys) (slot : Nat) : Bool := (y.readDrive (slot / 256 % y.vol.columns)).isSome

/-- The clip closes: 2 CLOSED or 3 RECOVERED, close reason, state of the recording afterwards (0x4960:03). A RECOVERED clip ends at its
last checkpoint. The clip key is erased (R188). -/
def Sys.closeClip (y : Sys) (x state reason after : Nat) : Sys :=
  let r := y.recording x
  match r.slot.bind y.vol.clip? with
  | none => y.wr (ent (0x4960 + x) 3) after
  | some c =>
    let c := if state = 2 then r.commit c else c
    let c := { c with state := state, reason := reason, finish := if state = 2 then r.last.2 else c.finish }
    let y := if y.entryReachable c.slot then y.writeEntry c else y.setClip c
    let y := y.setRec x { rec0 with tried := r.tried, reserved := [] }
    let y := y.showExtents.wr (ent (0x4960 + x) 3) after
    y.raise 0x0F0D x (pack 16 [(0, 1, x), (1, 1, reason), (2, 2, c.slot), (8, 8, c.id)])

/-! ## Placing chunks (R527 to R529) -/

/-- Octets go to the next place of the clip's last extent; the block that a chunk ends in is written again with the next one. -/
def Sys.putOctets (y : Sys) (x : Nat) (b : Bytes) : Sys :=
  let r := y.recording x
  match r.extents.getLast? with
  | none => y
  | some e =>
    let all := r.tail ++ b
    let start := r.offset - r.tail.length
    let pad := (4096 - all.length % 4096) % 4096
    let y := y.setRec x { r with offset := r.offset + b.length, tail := all.drop (all.length / 4096 * 4096) }
    y.recWrite x (4096 * extentBlock e + start) (all ++ List.replicate pad 0) false

/-- A further extent is taken and its header written; without a free one the clip closes as FULL (R556, R557). -/
def Sys.nextExtent (y : Sys) (x : Nat) : Bool × Sys :=
  let r := y.recording x
  match y.freeExtent, r.slot.bind y.vol.clip? with
  | some e, some c =>
    let y := y.setRec x { r with extents := r.extents ++ [e], offset := 4096, tail := [] }
    (true, (y.recWrite x (4096 * extentBlock e) (extentHeader c.id r.extents.length r.extents.getLast? y.t96) false).showExtents)
  | _, _ => (false, (y.closeClip x 2 1 2).wr (ent (0x4960 + x) 9) 3)

/-- Payload octets placed on a stream, and its encrypted units. -/
def Recording.stream (r : Recording) (id : Nat) : Nat × Nat := (r.placed.lookup id).getD (0, 0)

/-- A payload as it stands in a chunk: sealed as one unit where the clip is encrypted and the kind is not KEY or MANIFEST
(R189, R529). -/
def Recording.sealChunk (r : Recording) (kind : ChunkKind) (id : Nat) (payload : Bytes) : Bool × Bytes :=
  match r.key with
  | none => (false, payload)
  | some k =>
    if kind = .key ∨ kind = .manifest then (false, payload)
    else
      let p := r.stream id
      let e := gcmSeal k (le 4 id ++ le 8 p.2) (le 4 id ++ le 8 p.1) payload
      (true, e.1 ++ e.2)

/-- One chunk of at most 4 MiB of payload is placed in the open clip. -/
def Sys.placeChunk (y : Sys) (x : Nat) (kind : ChunkKind) (id frame time : Nat) (payload : Bytes) (preroll : Bool) : Sys :=
  let r := y.recording x
  if r.slot.isNone then y
  else
    let body := r.sealChunk kind id payload
    let flags := (if body.1 then 1 else 0) + (if preroll then 2 else 0)
    let chunk := pad16 (chunkHeader kind.code flags id payload.length frame time ++ body.2)
    let got := if r.offset + chunk.length ≤ 1073741824 then (true, y) else y.nextExtent x
    if !got.1 then got.2
    else
      let y := got.2.putOctets x chunk
      let r := y.recording x
      let p := r.stream id
      let placed := (r.placed.filter fun e => e.1 != id) ++ [(id, p.1 + payload.length, if body.1 then p.2 + 1 else p.2)]
      let y := y.setRec x { r with placed := placed, last := if r.last.2 ≤ time then (frame, time) else r.last }
      y.inc64 (ent (0x4960 + x) 7) payload.length

/-- A payload of any length, cut at the 4 MiB limit of a chunk. -/
def Sys.placeLong (y : Sys) (x : Nat) (kind : ChunkKind) (id frame time : Nat) (payload : Bytes) (preroll : Bool) : Sys :=
  (List.range ((payload.length + 4194303) / 4194304)).foldl (fun y i =>
    y.placeChunk x kind id frame time ((payload.drop (4194304 * i)).take 4194304) preroll) y

/-- GAP chunk of a stream: cause 0 buffer, 1 reset. -/
def Sys.placeGap (y : Sys) (x id frame time cause : Nat) : Sys :=
  y.placeChunk x .gap id frame time (pack 8 [(0, 4, frame), (4, 1, cause)]) false

/-! ## Opening (R190, R555, R557) -/

/-- Recipient keys that are set (0x1404:02 to :05). -/
def Sys.recipients (y : Sys) : List Bytes := ((List.range 4).map fun i => y.rdB (ent 0x1404 (2 + i))).filter fun k => !k.isEmpty

/-- The key record of a clip, or none where a recipient's shared secret is zero (R190). -/
def keyRecord (clip : Nat) (key eph : Bytes) (rs : List Bytes) : Option Bytes :=
  let head := pack 16 [(0, 4, 0x4B585150), (4, 1, 1), (5, 1, rs.length), (8, 8, clip)] ++ xPublic eph
  let part (p : Bytes × Nat) : Option Bytes :=
    let shared := x25519 eph p.1
    if shared.all (· == 0) then none
    else
      let kek := hkdf shared (le 8 clip) ([0x50, 0x51, 0x58, 0x57] ++ le 1 p.2) 32
      let w := gcmSeal kek (List.replicate 12 0) head key
      some ((sha256 p.1).take 8 ++ w.1 ++ w.2)
  (rs.zipIdx.mapM part).map fun l => head ++ l.flatten

/-- Reasons of 0x4960:09 that keep a clip from opening, in the order of R557. -/
def Sys.openReason (y : Sys) (x : Nat) : Option Nat :=
  if y.rd (ent 0x1404 1) = 1 ∧ y.recipients = [] then some 1
  else if y.freeSlot.isNone then some 2
  else if y.freeExtent.isNone then some 3
  else if !y.volumeUp then some 4
  else if !y.recQueueRuns x then some 5
  else none

/-- CLIP_REFUSED. -/
def Sys.refuseClip (y : Sys) (x reason : Nat) : Sys :=
  let y := (y.setRec x { y.recording x with tried := true }).wr (ent (0x4960 + x) 3) 2
  (y.wr (ent (0x4960 + x) 9) reason).raise 0x0F0E x (ev [(0, 1, x), (1, 1, reason)])

/-- CLIP_OPEN at the latch point of a frame. `extract` marks a clip opened for an extraction alone. A module that is RETURNED or RETIRED records
nothing (R169). A clip that R190 refuses, because X25519 gave all zeros for a recipient, shows reason 1 in 0x4960:09 and event 0x0F0E: the spec
gives no code for it (DESIGN CHOICE, log entry 43). -/
def Sys.openClip (o : Otp) (y : Sys) (x frame latch : Nat) (extract : Bool) : Sys :=
  if 5 ≤ o.life then y else
  match y.openReason x, y.freeSlot, y.freeExtent with
  | some r, _, _ => y.refuseClip x r
  | none, some slot, some e =>
    let id := y.mram.clips + 1
    let enc := y.rd (ent 0x1404 1) == 1
    let k := y.freeBytes 32
    let g := k.2.freeBytes 32
    let key := if enc then some k.1 else none
    let record := if enc then keyRecord id k.1 g.1 y.recipients else some []
    match record with
    | none => y.refuseClip x 1
    | some record =>
      let y := if enc then g.2 else y
      let flags := (if enc then 1 else 0) + (if y.isShadow then 2 else 0) + (if extract then 4 else 0)
      let c : Clip :=
        { slot := slot, id := id, die := o.dieId, state := 1, ctx := x, flags := flags, start := latch, finish := 0,
          firstFrame := frame, lastFrame := frame, extents := [e], committed := 4096, reason := 0, streams := [] }
      let y := { y with mram := { y.mram with clips := id } }
      let y := y.setRec x
        { rec0 with slot := some slot, key := key, extents := [e], offset := 4096, last := (frame, latch), extractOnly := extract }
      let y := y.setClip c
      let y := y.recWrite x (4096 * extentBlock e) (extentHeader id 0 none y.t96) false
      let y := if enc then y.placeChunk x .key 0 frame latch record false else y
      let y := y.checkpoint x
      let y := (((y.wr (ent (0x4960 + x) 3) 1).wr (ent (0x4960 + x) 5) id).wr (ent (0x4960 + x) 6) slot).wr (ent (0x4960 + x) 7) 0
      y.showExtents.raise 0x0F0C x (pack 16 [(0, 1, x), (2, 2, slot), (8, 8, id)])
  | _, _, _ => y

/-! ## Reservations (R542) -/

/-- The recording share: what the buffer holds beside the host share. -/
def Sys.recShare (y : Sys) : Nat := y.rd (ent 0x4950 1) * 1073741824 - y.rd (ent 0x4950 2) * 1048576
/-- Reserved, and written but not on media. -/
def Sys.recUsed (y : Sys) : Nat :=
  (y.media.recs.map fun r => (r.2.reserved.map fun p => p.2.2).sum).sum + (y.media.buffered - y.media.hostBuffered)

/-- A stream asks for space for a frame: reserved, or the frame is not recorded and its GAP is placed. -/
def Sys.reserve (y : Sys) (x id frame time octets : Nat) : Sys :=
  let r := y.recording x
  if r.slot.isNone then y
  else if y.recUsed + octets ≤ y.recShare then y.setRec x { r with reserved := r.reserved ++ [(frame, id, octets)] }
  else
    let y := y.setRec x { r with refused := r.refused ++ [(frame, id)] }
    let y := (y.placeGap x id frame time 0).inc (ent (0x4960 + x) 8)
    y.raiseLimited x 0x0F0B x (ev [(0, 1, x), (4, 4, id), (8, 4, frame)])

/-- The frame's chunks of a stream are placed, and its reservation is released. -/
def Sys.release (y : Sys) (x id frame : Nat) : Sys :=
  let r := y.recording x
  y.setRec x { r with reserved := r.reserved.filter fun p => !(p.1 == frame && p.2.1 == id) }

/-- The recording takes a frame's chunks of a stream: a clip is open, the frame is not past its STOP, and its reservation stood. -/
def Sys.records (y : Sys) (x id frame : Nat) : Bool :=
  let r := y.recording x
  r.slot.isSome && !(r.refused.contains (frame, id)) && (match r.stopAt with | some n => decide (frame < n) | none => true)

/-- A manifest (stream 0x30000) or colour record (0x40000) is handed to the recording of its context. -/
def Sys.recordAside (y : Sys) (x : Nat) (kind : ChunkKind) (id frame time : Nat) (b : Bytes) : Sys :=
  if y.records x id frame then y.placeChunk x kind id frame time b false else y

end Sys2Proof.Machine
end

