-- ==== Sys2Proof/Machine/Drives.lean ====
section
/-!
DEFINITION. Sys2Proof/Machine/Drives.lean: RESTART and QUEUE RESET, the journal, drives, the volume's attachment, loss and rebuild
(R522 to R526, R543 to R554).
-/

namespace Sys2Proof.Machine

/-! ## RESTART and QUEUE RESET (R544 to R547) -/

/-- RESTART: refused with STATE while unread log entries remain, and where the queue is not FROZEN. -/
def Sys.queueRestart (y : Sys) (q : Nat) : Status × Sys :=
  if y.rd (ent (0x4910 + q) 1) ≠ 2 ∨ !(y.mq q).log.isEmpty then (.state, y)
  else (.ok, Sys.raise (y.wr (ent (0x4910 + q) 1) 1) 0x0F02 q (ev [(0, 1, q)]))

/-- Steps 1 to 3 of QUEUE RESET: no further completion of the old epoch; what has no completion is abandoned, but drive commands
already issued run out. -/
def Sys.queueReset (y : Sys) (q : Nat) : Sys :=
  let st := y.rd (ent (0x4910 + q) 1)
  if st = 0 ∨ st = 3 then y
  else
    let m := y.media
    let gone := m.writes.filter fun w => w.queue == q && !w.done
    let lost := (m.reads.filter (·.queue == q)).length + (m.flushes.filter (·.queue == q)).length
    let y := y.setMq q { y.mq q with held := [], lostW := gone.length, lostR := lost }
    let keep (w : BufWrite) : BufWrite :=
      if w.queue == q && !w.done then
        { w with waiting := none, done := true,
                 pieces := if w.pieces.any fun p => p.cid.isSome then
                   w.pieces.filter fun p => p.cid.isSome || w.pieces.any fun r => r.cid.isSome && r.lba == p.lba else [] }
      else w
    let y := { y with media := { y.media with writes := y.media.writes.map keep, reads := y.media.reads.filter (·.queue != q),
                                              flushes := y.media.flushes.filter (·.queue != q) } }
    let y := Sys.settle (y.wr (ent (0x4910 + q) 1) 3)
    -- a clip recorded through the queue ends at its last checkpoint; a recording in RUN reopens at the next latch point (R558)
    (List.range 16).foldl (fun y x => if (y.recording x).slot.isSome && y.recQueue x == q then y.closeClip x 3 3 0 else y) y

/-- The journal of R548 as it stands. -/
def Sys.journalNow (y : Sys) : Journal :=
  let v := y.vol
  let units := (y.media.writes.filter fun w => w.waiting.isNone && !w.pieces.isEmpty).flatMap fun w =>
    (List.range ((w.addr + w.data.length - 1) / 1048576 + 1 - w.addr / 1048576)).map fun i => w.addr / 1048576 + i
  { volume := v.id, gen := v.gen, at_ := y.t96, units := units.eraseDups,
    clips := (v.directory.filter fun c => c.2.state == 1).map fun c => (c.1, c.2.extents.getLast?.getD 0, c.2.committed),
    rebuild := v.rebuild.map (·.1) }

/-- The journal is committed to MRAM. -/
def Sys.commitJournal (y : Sys) : Sys :=
  let y := { y with mram := { y.mram with journal := some y.journalNow } }
  y.wr (ent 0x4950 5) y.t96

/-- JOURNAL_COMMIT (R548). -/
def execJournalCommit (s : State) : Host.Outcome State Fault Refusal := onSys s fun _ y => y.commitJournal

/-- Ring bases and sizes written meanwhile come into force (R562). -/
def Sys.loadRings (y : Sys) (q : Nat) : Mq :=
  { mq0 with sqBase := y.rd (ent (0x4900 + q) 2), sqN := y.rd (ent (0x4900 + q) 3), cqBase := y.rd (ent (0x4900 + q) 4),
             cqN := y.rd (ent (0x4900 + q) 5) }

/-- Step 4: the queue runs in its new epoch; an owner of OFF leaves it OFF (R530). -/
def Sys.queueResetDone (y : Sys) (q : Nat) : Sys :=
  if y.rd (ent (0x4910 + q) 1) ≠ 3 then y
  else
    let u := y.mq q
    let epoch := (y.rd (ent (0x4910 + q) 2) + 1) % 65536
    let y := Sys.mqPending (y.setMq q (y.loadRings q))
    let y := ((y.wr (ent (0x4910 + q) 2) epoch).wr (ent (0x4910 + q) 3) 0).wr (ent (0x4910 + q) 4) 0
    let y := y.showLog q
    let y := y.wr (ent (0x4910 + q) 1) (if y.rd (ent (0x4900 + q) 1) = 0 then 0 else 1)
    let y := y.commitJournal
    y.raise 0x0F03 q (ev [(0, 1, q), (2, 2, epoch), (4, 4, u.lostW), (8, 4, u.lostR)])

/-- QUEUE_RESET_DONE (R545). -/
def execQueueResetDone (queue : Fin 16) (s : State) : Host.Outcome State Fault Refusal :=
  onSys s fun _ y => y.queueResetDone queue.val

/-- ERROR_LOG_READ (R544): a READ returns the oldest unread entry and marks it read. -/
def Sys.errorLogRead (y : Sys) (q : Nat) : Bytes × Sys :=
  let u := y.mq q
  (u.log.headD [], Sys.showLog (y.setMq q { u with log := u.log.drop 1 }) q)

def execErrorLogRead (queue : Fin 16) (s : State) : Host.Outcome State Fault Refusal :=
  onSys s fun _ y => (y.errorLogRead queue.val).2

/-! ## Drives (R551 to R553) -/

/-- Member header (R525). -/
def Sys.memberHeader (y : Sys) (die member rebuilding : Nat) : Bytes :=
  let v := y.vol
  let inService := bitsOf ((List.range v.members.length).filter fun m => y.driveState (v.members.getD m 255) == 1)
  let h := pack 4096 [(0, 4, 0x44585150), (4, 1, 1), (5, 1, v.layout), (6, 1, v.members.length), (7, 1, member), (8, 8, v.id), (16, 8, v.gen),
    (24, 8, v.cap), (32, 12, v.created), (44, 8, die), (52, 1, inService), (53, 1, rebuilding)]
  poke h 4092 (le 4 (crc32c (h.take 4092)).toNat)

/-- The headers of every member in service go out at the present generation. -/
def Sys.writeHeaders (y : Sys) (die : Nat) : Sys :=
  y.vol.members.zipIdx.foldl (fun y m =>
    if y.takesWrites m.1 then
      y.directWrite m.1 0 0 1 (y.memberHeader die m.2 (if y.driveState m.1 = 3 then 1 else 0))
    else y) y

/-- Columns without a member in service. -/
def Sys.lostColumns (y : Sys) : List Nat := (List.range y.vol.columns).filter fun c => (y.readDrive c).isNone
/-- Columns with a member that is not in service. -/
def Sys.weakColumns (y : Sys) : List Nat :=
  (List.range y.vol.columns).filter fun c => (y.vol.columnDrives c).any fun d => y.driveState d != 1

/-- 1 MiB units are appended to the lost-range list (0x4950:07). -/
def Sys.addLost (y : Sys) (units : List Nat) : Sys :=
  let y := y.wrB (ent 0x4950 7) ((y.rdB (ent 0x4950 7) ++ units.flatMap fun u => le 8 (256 * u)).take 131072)
  y.wr (ent 0x4950 6) ((y.rdB (ent 0x4950 7)).length / 8)

/-- A column lost every member: buffered data for it is lost (R553). -/
def Sys.dropColumn (y : Sys) (c : Nat) : Sys :=
  let ds := y.vol.columnDrives c
  let units := (y.media.writes.filter fun w => w.pieces.any fun p => ds.contains p.drive).flatMap fun w =>
    (List.range ((w.addr + w.data.length - 1) / 1048576 + 1 - w.addr / 1048576)).map fun i => w.addr / 1048576 + i
  let units := (units.filter fun u => u % y.vol.columns == c).eraseDups
  y.addLost units

/-- The volume's state follows its drives: DEGRADED or FAILED, with their events (R553). -/
def Sys.volumeCheck (y : Sys) : Sys :=
  let lost := y.lostColumns
  let st := y.rd (ent 0x4948 4)
  if st = 0 ∨ st = 1 then y
  else
    match lost.head? with
    | some c =>
      if st = 4 then y
      else
        let n := y.rd (ent 0x4950 6)
        let y := y.dropColumn c
        let y := Sys.raise (y.wr (ent 0x4948 4) 4) 0x0F07 255 (ev [(0, 1, c), (4, 4, y.rd (ent 0x4950 6) - n)])
        -- recordings on the volume enter FAILED
        (List.range 16).foldl (fun y x =>
          if (y.recording x).slot.isSome then y.closeClip x 2 4 3
          else if y.rd (ent (0x4960 + x) 1) = 1 then y.wr (ent (0x4960 + x) 3) 3 else y) y
    | none =>
      if y.weakColumns.isEmpty then y.wr (ent 0x4948 4) 2
      else if st = 3 then y
      else Sys.raise (y.wr (ent 0x4948 4) 3) 0x0F06 255 (ev [(0, 1, y.weakColumns.length)])

/-- What was outstanding on a lost drive: writes go on with the other members; reads go to the partner, or end with a status;
flushes end with it too. -/
def Sys.dropPieces (y : Sys) (d status : Nat) : Sys :=
  let m := y.media
  let strip (l : List Piece) : List Piece := l.filter fun p => p.drive != d
  let partner (_ : Piece) : Option Nat :=
    ((List.range y.vol.columns).find? fun c => (y.vol.columnDrives c).contains d).bind y.readDrive
  let badR := m.reads.filter fun r => r.pieces.any fun p => p.drive == d && (partner p).isNone
  let badF := m.flushes.filter fun f => f.pieces.any fun p => p.drive == d && !y.vol.mirrored
  let isBadR (r : MqRead) : Bool := badR.any fun b => b.order == r.order
  let isBadF (f : MqFlush) : Bool := badF.any fun b => b.order == f.order
  let writes := m.writes.map fun w => { w with pieces := strip w.pieces }
  let reads := (m.reads.filter fun r => !isBadR r).map fun r =>
    { r with pieces := r.pieces.map fun p => if p.drive == d then { p with drive := (partner p).getD d } else p }
  let flushes := (m.flushes.filter fun f => !isBadF f).map fun f => { f with pieces := strip f.pieces }
  let y := { y with media := { m with writes := writes, reads := reads, flushes := flushes, direct := m.direct.filter fun w => w.drive != d } }
  let y := badR.foldl (fun y r =>
    y.freezeQ r.queue 2 r.flags r.tag r.epoch status d 0 0 r.block (((r.pieces.find? (·.drive == d)).map (·.lba)).getD 0) 0 r.irq) y
  let y := badF.foldl (fun y f => y.freezeQ f.queue 3 f.flags f.tag f.epoch status d 0 0 0 0 0 f.irq) y
  -- reads moved to the partner are sent again
  y.media.reads.foldl (fun y r => r.pieces.foldl (fun y p =>
    if m.reads.any fun o => o.order == r.order && o.pieces.any fun q => q.cid == p.cid && q.drive == d then
      y.send (.drive p.drive (p.cid.getD 0) 1 p.lba p.count []) else y) y) y

/-- DRIVE_LOST (R551). Causes: 0 link, 1 fatal, 2 timeout, 3 write, 4 read. -/
def Sys.loseDrive (o : Otp) (y : Sys) (d cause : Nat) : Sys :=
  if !y.takesWrites d then y
  else
    let y := Sys.raise (y.wr (ent (0x4940 + d) 1) 2) 0x0F05 d (ev [(0, 1, d), (1, 1, cause)])
    if !y.vol.members.contains d then y
    else
      let y := y.setVol { y.vol with gen := y.vol.gen + 1, rebuild := match y.vol.rebuild with
        | some r => if y.vol.members[r.1]? = some d then none else some r | none => none }
      let y := y.volumeCheck
      let y := y.dropPieces d (if cause = 2 then 0x0A else 8)
      Sys.settle (Sys.commitJournal (y.writeHeaders o.dieId))

/-- DRIVE_TIMEOUT (R551). -/
def execDriveTimeout (drive : Fin 4) (s : State) : Host.Outcome State Fault Refusal :=
  onSys s fun o y => Sys.loseDrive o (y.inc (ent (0x4940 + drive.val) 8)) drive.val 2

/-- DRIVE_LINK_DOWN (R551). -/
def execDriveLinkDown (drive : Fin 4) (s : State) : Host.Outcome State Fault Refusal :=
  onSys s fun o y => Sys.loseDrive o y drive.val 0

/-- A read error on one member of a column with another in service: the other serves it, and the block is rewritten (R552). -/
def Sys.readRepair (o : Otp) (y : Sys) (r : MqRead) (p : Piece) (other : Nat) : Sys :=
  let d := p.drive
  let block := r.block + p.off / 4096
  if y.media.repaired.contains (d, block) then Sys.loseDrive o y d 4
  else
    let id := y.media.nextCid
    let set (q : MqRead) : MqRead := if q.order = r.order then
      { q with pieces := q.pieces.map fun s => if s.cid == p.cid then { s with drive := other, cid := some id } else s } else q
    let y := { y with media := { y.media with nextCid := id + 1, reads := y.media.reads.map set,
                                              repaired := y.media.repaired ++ [(d, block)] } }
    let y := (y.inc (ent (0x4940 + d) 9)).send (.drive other id 1 p.lba p.count [])
    y.raiseLimited d 0x0F09 d (pack 16 [(0, 1, d), (8, 8, block)])

/-- The data of a served read rewrites the block on the member that failed (R552). -/
def Sys.rewrite (y : Sys) (r : MqRead) (p : Piece) (data : Bytes) : Sys :=
  let block := r.block + p.off / 4096
  match (y.media.repaired.find? fun q => q.2 == block && q.1 != p.drive && y.takesWrites q.1) with
  | none => y
  | some q => y.directWrite q.1 0 p.lba p.count data

/-- DRIVE_COMMAND_DONE (R539, R543, R551, R552): a drive answers command `cid`: NVMe status code type and code (0, 0 for success), the
data of a read, and whether it reports controller fatal status. -/
def execDriveCommandDone (drive : Fin 4) (cid : BitVec 32) (sct sc : BitVec 8) (data : Bytes) (fatal : Bool) (s : State) :
    Host.Outcome State Fault Refusal :=
  onSys s fun o y =>
    let d := drive.val
    let ok := sct = 0 ∧ sc = 0
    let is (p : Piece) : Bool := p.drive == d && p.cid == some cid.toNat
    let m := y.media
    let mine (w : DirectWrite) : Bool := w.drive == d && w.cid == cid.toNat
    if fatal then Sys.loseDrive o y d 1
    else if m.direct.any mine then
      let y := Sys.showBuffered { y with media := { m with direct := m.direct.filter fun w => !mine w } }
      if ok then y else Sys.loseDrive o y d 3
    else
      match m.writes.find? fun w => w.pieces.any is with
      | some _ =>
        if ok then
          Sys.settle { y with media := { m with writes := m.writes.map fun w => { w with pieces := w.pieces.filter fun p => !is p } } }
        else Sys.loseDrive o y d 3
      | none =>
        match m.reads.find? fun r => r.pieces.any is with
        | some r =>
          match r.pieces.find? is with
          | none => y
          | some p =>
            if ok then
              let set (q : MqRead) : MqRead := if q.order = r.order then
                { q with data := poke q.data p.off (slice data 0 (4096 * p.count)), pieces := q.pieces.filter fun s => !is s } else q
              Sys.settle (Sys.rewrite { y with media := { m with reads := m.reads.map set } } r p data)
            else
              let other := ((List.range y.vol.columns).find? fun c => (y.vol.columnDrives c).contains d).bind fun c =>
                (y.vol.columnDrives c).find? fun e => e != d && y.driveState e == 1
              match other with
              | some e => y.readRepair o r p e
              | none =>
                let y := { y with media := { m with reads := m.reads.filter fun q => q.order != r.order } }
                Sys.settle (y.freezeQ r.queue 2 r.flags r.tag r.epoch (if sct = 2 then 7 else 8) d sct.toNat sc.toNat (r.block + p.off / 4096)
                  p.lba (p.off / 4096) r.irq)
        | none =>
          match m.flushes.find? fun f => f.pieces.any is with
          | some f =>
            if ok then
              Sys.settle { y with media := { m with flushes := m.flushes.map fun g => { g with pieces := g.pieces.filter fun p => !is p } } }
            else
              let y := { y with media := { m with flushes := m.flushes.filter fun g => g.order != f.order } }
              Sys.settle (y.freezeQ f.queue 3 f.flags f.tag f.epoch 8 d sct.toNat sc.toNat 0 0 0 f.irq)
          | none => y

/-! ## Attachment (R522 to R526, R550) -/

/-- A drive is told to deallocate (3) or to zero (4) a range; no data goes with it. -/
def Sys.driveRange (y : Sys) (d op lba count : Nat) : Sys := y.directWrite d op lba count []

/-- A member header that passes its check. -/
def memberHeaderOk (h : Bytes) : Bool :=
  h.length == 4096 && rdLe h 0 4 == 0x44585150 && rdLe h 4 1 == 1 && rdLe h 4092 4 == (crc32c (h.take 4092)).toNat

/-- The result of a drive's attachment is told: 0 in service, 1 refused, 2 stale. -/
def Sys.tellDrive (y : Sys) (d result : Nat) : Sys := y.raise 0x0F04 d (ev [(0, 1, d), (1, 1, result)])

/-- Steps 1 to 3 begin: every present drive is brought up. -/
def Sys.beginAttach (y : Sys) (present : BitVec 4) (creating : Bool) : Sys :=
  -- R83: a strap fault keeps the root ports in their reset state
  let ds := (List.range 4).filter fun d => present.getLsbD d && !y.boot.strapFault
  let y := y.setVol { volume0 with awaiting := ds, creating := creating }
  let y := (List.range 4).foldl (fun y d => y.wr (ent (0x4940 + d) 1) 0) y
  y.wr (ent 0x4948 4) 1

/-- D of R523 for the smallest member. -/
def memberBlocks (caps : List Nat) : Nat := (caps.foldl min (caps.headD 0) - 16384) / 262144 * 262144
def layoutCap (layout n d : Nat) : Nat := match layout with | 1 => n * d | 3 => 2 * d | _ => d

/-- The drive numbers a layout takes (R523). -/
def layoutDrives (layout n : Nat) : Bool :=
  match layout with | 0 => n == 1 | 1 => decide (2 ≤ n) && decide (n ≤ 4) | 2 => n == 2 | 3 => n == 4 | _ => false

/-- Step 7: the volume's entries, and its state by what is in service. -/
def Sys.volumeOn (y : Sys) : Sys :=
  let v := y.vol
  let y := ((y.wr (ent 0x4948 0x0A) v.cap).wr (ent 0x4948 0x0C) v.id).showExtents
  Sys.commitJournal (Sys.volumeCheck (y.wr (ent 0x4948 4) 2))

/-- CREATE, once every member's controller is ready. -/
def Sys.finishCreate (o : Otp) (y : Sys) : Sys :=
  let v := y.vol
  let want := (List.range 4).filter fun d => (y.rd (ent 0x4948 3)).testBit d
  let good := want.filter fun d => y.driveState d != 5 && v.capacities.any fun c => c.1 == d
  let g := y.freeBytes 8
  let y := g.2
  let d := memberBlocks (good.map fun d => (v.capacities.lookup d).getD 0)
  let layout := y.rd (ent 0x4948 2)
  let v := { v with layout := layout, members := want, id := unLe g.1, gen := 1, cap := layoutCap layout want.length d,
                    created := y.t96, directory := [], creating := false }
  let y := y.setVol v
  let y := good.foldl (fun y d => y.wr (ent (0x4940 + d) 1) 1) y
  let y := good.foldl (fun y d => y.driveRange d 3 16384 ((v.capacities.lookup d).getD 0 - 16384)) y
  let y := good.foldl (fun y d => y.driveRange d 4 1 16383) y
  let y := (v.runs 0 16384).foldl (fun y r => ((v.columnDrives r.1).filter y.takesWrites).foldl (fun y d => y.driveRange d 4 r.2.1 r.2.2.1) y) y
  let y := y.writeHeaders o.dieId
  (good.foldl (fun y d => y.tellDrive d 0) y).volumeOn

/-- CLIP_RECOVER: an OPEN clip of the directory ends at its committed offset (R550). -/
def Sys.recoverClip (y : Sys) (c : Clip) : Sys :=
  let c := { c with state := 3, reason := 5 }
  let y := (y.setClip c).putWrite 16 (4096 * c.slot) c.encode true true
  y.raise 0x0F11 c.ctx (pack 16 [(0, 1, c.ctx), (2, 2, c.slot), (8, 8, c.id)])

/-- The journal's units are lost (R550). -/
def Sys.readJournal (y : Sys) : Sys :=
  match y.mram.journal with
  | none => y
  | some j =>
    if j.volume ≠ y.vol.id ∨ j.units = [] then y
    else (y.addLost j.units).raise 0x0F10 255 (ev [(0, 4, j.units.length), (4, 8, j.at_ / 2 ^ 32)])

/-- Steps 5 to 7 of ATTACH: the members of the highest generation, the directory, recovery, and the volume's state. -/
def Sys.finishAttach (o : Otp) (y : Sys) (entries : List DirEntry) : Sys :=
  let v := y.vol
  let hs := v.headers.filter fun h => memberHeaderOk h.2
  let best := hs.foldl (fun (b : Nat × Bytes) h => if rdLe b.2 16 8 < rdLe h.2 16 8 then h else b) (hs.headD (9, []))
  if hs = [] then
    let y := v.capacities.foldl (fun y c => (y.wr (ent (0x4940 + c.1) 1) 5).tellDrive c.1 1) y
    Sys.commitJournal ((y.setVol { v with awaiting := [], headers := [] }).wr (ent 0x4948 4) 4)
  else
    let h := best.2
    let mine := hs.filter fun q => rdLe q.2 8 8 == rdLe h 8 8
    let live := mine.filter fun q => rdLe q.2 16 8 == rdLe h 16 8
    let n := rdLe h 6 1
    let members := (List.range n).map fun m => ((live.find? fun q => rdLe q.2 7 1 == m).map (·.1)).getD 255
    let state (d : Nat) : Nat :=
      match live.lookup d with
      | some q => if rdLe q 53 1 = 1 then 3 else 1
      | none => if mine.any fun q => q.1 == d then 4 else 5
    let y := y.setVol
      { v with layout := rdLe h 5 1, members := members, id := rdLe h 8 8, gen := rdLe h 16 8, cap := rdLe h 24 8, created := rdLe h 32 12,
               directory := entries.filterMap fun e => (Clip.decode e.slot e.entry e.extents).map fun c => (e.slot, c),
               rebuild := (live.find? fun q => rdLe q.2 53 1 == 1).map fun q => (rdLe q.2 7 1, y.up), headers := [] }
    let y := v.capacities.foldl (fun y c => y.wr (ent (0x4940 + c.1) 1) (state c.1)) y
    let y := y.readJournal
    let y := ((y.vol.directory.map (·.2)).filter fun c => c.state == 1).foldl (fun y c => y.recoverClip c) y
    let y := v.capacities.foldl (fun y c => y.tellDrive c.1 (match state c.1 with | 4 => 2 | 5 => 1 | _ => 0)) y
    -- a member in service at the last generation and missing now is a change of membership
    let served := (List.range n).filter fun m => y.driveState (members.getD m 255) == 1
    let y := if bitsOf served = rdLe h 52 1 then y
      else Sys.writeHeaders (y.setVol { y.vol with gen := y.vol.gen + 1 }) o.dieId
    y.volumeOn

def Sys.finishBringUp (o : Otp) (y : Sys) (entries : List DirEntry) : Sys :=
  if !y.vol.awaiting.isEmpty then y else if y.vol.creating then y.finishCreate o else y.finishAttach o entries

/-- CREATE and ATTACH: refused with STATE unless DETACHED; a CREATE whose members do not fit its layout is refused with RANGE. -/
def Sys.volumeAttach (o : Otp) (y : Sys) (present : BitVec 4) (creating : Bool) : Status × Sys :=
  if y.rd (ent 0x4948 4) ≠ 0 then (.state, y)
  else
    let want := (List.range 4).filter fun d => (y.rd (ent 0x4948 3)).testBit d
    if creating && !layoutDrives (y.rd (ent 0x4948 2)) want.length then (.range, y)
    else
      let y := y.beginAttach present creating
      (.ok, y.finishBringUp o [])

def execVolumeCreate (present : BitVec 4) (s : State) : Host.Outcome State Fault Refusal :=
  onSys s fun o y => (y.volumeAttach o present true).2

def execVolumeAttach (present : BitVec 4) (s : State) : Host.Outcome State Fault Refusal :=
  onSys s fun o y => (y.volumeAttach o present false).2

/-- ATTACH_DRIVE_READY (R522, R526): a controller reports, with what Identify, its header and its part of the directory hold; `ok` is
false where it was not ready in time or offers no 4,096-octet format. -/
def execAttachDriveReady (drive : Fin 4) (ok : Bool) (info : DriveInfo) (s : State) : Host.Outcome State Fault Refusal :=
  onSys s fun o y =>
    let d := drive.val
    let v := y.vol
    if y.rd (ent 0x4948 4) ≠ 1 ∨ !v.awaiting.contains d then y
    else
      let v := { v with awaiting := v.awaiting.filter (· != d) }
      let y := y.wr (ent (0x4940 + d) 5) info.link.toNat
      if !ok then Sys.finishBringUp o (((y.setVol v).wr (ent (0x4940 + d) 1) 5).tellDrive d 1) info.directory
      else
        let y := y.setVol { v with headers := v.headers ++ [(d, slice info.header 0 4096)],
                                   capacities := v.capacities ++ [(d, info.capacity.toNat)] }
        let y := ((y.wr (ent (0x4940 + d) 2) info.capacity.toNat).wrB (ent (0x4940 + d) 3) info.model).wrB (ent (0x4940 + d) 4) info.serial
        y.finishBringUp o info.directory

/-- DETACH (R562): refused with STATE while a recording is in RUN. What the buffer holds still drains to the drives. -/
def Sys.volumeDetach (y : Sys) : Status × Sys :=
  if (List.range 16).any fun x => y.rd (ent (0x4960 + x) 1) == 1 then (.state, y)
  else
    let y := (List.range 4).foldl (fun y d => if y.driveState d = 0 then y else y.wr (ent (0x4940 + d) 1) 0) y
    let y := ((y.setVol volume0).wr (ent 0x4948 4) 0).wr (ent 0x4948 0x0A) 0
    (.ok, Sys.commitJournal ((y.wr (ent 0x4948 0x0B) 0).wr (ent 0x4948 0x0C) 0))

def execVolumeDetach (s : State) : Host.Outcome State Fault Refusal := onSys s fun _ y => y.volumeDetach.2

/-! ## Rebuild (R554) -/

/-- The member a drive stands for in a rebuild: its own index, or the first index without a drive in service. -/
def Sys.rebuildMember (y : Sys) (d : Nat) : Option Nat :=
  match y.vol.members.findIdx? (· == d) with
  | some m => some m
  | none => y.vol.members.findIdx? fun e => y.driveState e != 1 && y.driveState e != 3

/-- REBUILD: STATE unless the layout is mirrored and the member is LOST, STALE or absent. -/
def Sys.volumeRebuild (o : Otp) (y : Sys) : Status × Sys :=
  let d := y.rd (ent 0x4948 7)
  match y.rebuildMember d with
  | none => (.state, y)
  | some m =>
    if !y.vol.mirrored || y.takesWrites d || !y.volumeUp || y.vol.rebuild.isSome then (.state, y)
    else
      let y := y.setVol { y.vol with members := y.vol.members.set m d, rebuild := some (m, y.up) }
      let y := (y.wr (ent (0x4940 + d) 1) 3).wr (ent 0x4948 9) 0
      (.ok, Sys.commitJournal (y.writeHeaders o.dieId))

def execVolumeRebuild (s : State) : Host.Outcome State Fault Refusal := onSys s fun o y => (y.volumeRebuild o).2

/-- REBUILD_COMPLETE (R554). -/
def execRebuildComplete (s : State) : Host.Outcome State Fault Refusal :=
  onSys s fun o y =>
    match y.vol.rebuild with
    | none => y
    | some r =>
      let d := y.vol.members.getD r.1 255
      if y.driveState d ≠ 3 then y
      else
        let y := (y.setVol { y.vol with rebuild := none, gen := y.vol.gen + 1 }).wr (ent (0x4940 + d) 1) 1
        let y := Sys.volumeCheck ((y.wr (ent 0x4948 9) 100).writeHeaders o.dieId)
        y.commitJournal.raise 0x0F08 d (ev [(0, 1, d), (4, 4, (y.up - r.2) / 1000000000)])

/-! ## Clips and lost ranges (R562) -/

/-- Delete clip: RANGE where it is unknown, STATE where it is OPEN. -/
def Sys.clipDelete (y : Sys) (id : Nat) : Status × Sys :=
  match (y.vol.directory.map (·.2)).find? fun c => c.id == id with
  | none => (.range, y)
  | some c =>
    if c.state = 1 then (.state, y)
    else
      let y := (c.extents.flatMap fun e => y.vol.runs (extentBlock e) 262144).foldl (fun y r =>
        ((y.vol.columnDrives r.1).filter y.takesWrites).foldl (fun y d => y.driveRange d 3 r.2.1 r.2.2.1) y) y
      let y := y.setVol { y.vol with directory := y.vol.directory.filter fun p => p.1 != c.slot }
      (.ok, (y.putWrite 16 (4096 * c.slot) (List.replicate 4096 0) true true).showExtents)

def execClipDelete (clip : BitVec 64) (s : State) : Host.Outcome State Fault Refusal := onSys s fun _ y => (y.clipDelete clip.toNat).2

/-- 0x4950:08: 1 empties the list. -/
def Sys.lostClear (y : Sys) (v : Nat) : Status × Sys :=
  if v = 1 then (.ok, (y.wrB (ent 0x4950 7) []).wr (ent 0x4950 6) 0) else (.range, y)

def execLostRangesClear (value : BitVec 8) (s : State) : Host.Outcome State Fault Refusal :=
  onSys s fun _ y => (y.lostClear value.toNat).2

end Sys2Proof.Machine
end

