-- ==== Sys2Proof/Machine/Compression.lean ====
section
/-!
DEFINITION. Sys2Proof/Machine/Compression.lean: the raw codec's coding side, compression jobs and the pre-roll ring (R502 to R518).
-/

namespace Sys2Proof.Machine

def zc0 : Zc :=
  { frame := none, coded := [], lines := 0, highest := 0, noRecord := false, tail := [], next := 0, input := [], expand := none, line := 0,
    row := [], bad := false }
def Sys.zc (y : Sys) (n : Nat) : Zc := tget (fun _ => zc0) y.zcs n
def Sys.setZc (y : Sys) (n : Nat) (v : Zc) : Sys := { y with zcs := tset (fun _ => zc0) y.zcs n v }
def ring0 : Ring := { frames := [], told := false }
def Sys.ring (y : Sys) (x : Nat) : Ring := tget (fun _ => ring0) y.rings x
def Sys.setRing (y : Sys) (x : Nat) (v : Ring) : Sys := { y with rings := tset (fun _ => ring0) y.rings x v }

/-- Loads shed now under a subindex of 0x2002 (R104). -/
def Sys.shedMask (y : Sys) (sub : Nat) : Nat := (y.sup.shed.lookup sub).getD 0

/-! ## Blocks (R505 to R507, R511) -/

/-- Codes of packed pixels. -/
def unpackCodes (d n : Nat) (b : Bytes) : List Nat := (List.range n).map fun i => codeAt b d i

/-- Blocks of a line of width W: first column and pixels of each (R505). -/
def blockCols (W : Nat) : List (Nat × Nat) :=
  let m := (W + 1023) / 1024
  let h := W / 2
  (List.range m).map fun i =>
    let big := min i (h % m)
    (2 * (h / m) * i + 2 * big, 2 * (h / m) + if i < h % m then 2 else 0)

/-- A block: header and payload. -/
def mkBlock (kind flags step orig check pos col : Nat) (payload : Bytes) : Bytes :=
  pack 16 [(0, 1, 0xB7), (1, 1, kind), (2, 1, flags), (3, 1, step), (4, 2, payload.length), (6, 2, orig), (8, 4, check), (12, 2, pos),
    (14, 2, col)] ++ payload

def crcNat (b : Bytes) : Nat := (crc32c b).toNat

/-- floor of a square root. -/
def floorSqrt (n : Nat) : Nat := iroot 2 n 32 0

/-- The forward arithmetic of R509 before the step: v. -/
def compandOf (d p : Nat) : Nat := floorSqrt (65536 * (p * 2 ^ (16 - d)))

/-- p' of a quantised code k at step q. -/
def expandOf (d q k : Nat) : Nat :=
  let s := 16 - d
  let v := k * 2 ^ q + 2 ^ q / 2
  let p16 := min 65535 ((2 * v + 1) ^ 2 / 262144)
  min (2 ^ d - 1) ((p16 + 2 ^ s / 2) / 2 ^ s)

/-- A LOSSLESS channel's block: LOSSLESS where that is smaller, else STORED (R508). -/
def losslessBlock (d flags line col : Nat) (packed : Bytes) : Bytes :=
  let payload := Config.losslessCode d packed
  if payload.length < packed.length then mkBlock 0 flags 0 packed.length (crcNat packed) line col payload
  else mkBlock 3 flags 0 packed.length (crcNat packed) line col packed

/-- A BOUNDED channel's block: the smallest step whose coding fits the cap, else FALLBACK (R509). -/
def boundedBlock (d r4 flags line col : Nat) (codes : List Nat) : Bytes :=
  let orig := (codes.length * d + 7) / 8
  let cap := orig * 4 / r4
  let n := 8 * (cap - 16) / max 1 codes.length
  let vs := codes.map (compandOf d)
  let check (q : Nat) : Nat := crcNat (packCodes d (vs.map fun v => expandOf d q (v / 2 ^ q)))
  let fits := (List.range (min 15 (16 - n) + 1)).find? fun q => (Config.compandCode q (vs.map (· / 2 ^ q))).length + 16 ≤ cap
  match fits with
  | some q => mkBlock 1 flags q orig (check q) line col (Config.compandCode q (vs.map (· / 2 ^ q)))
  | none =>
    let q := 16 - n
    mkBlock 2 flags q orig (check q) line col (packCodes n (vs.map (· / 2 ^ q)))

/-- The blocks of one line for a channel of a generation (R505, R508, R509). -/
def Frame.lineBlocks (f : Frame) (zc line : Nat) : List Bytes :=
  let g := f.gen
  let d := g.depth f.ctx
  let data := f.lineData line
  let flags := if f.lines.any fun l => l.num == line && l.source != line then 1 else 0
  (blockCols (g.width f.ctx)).map fun b =>
    let codes := (List.range b.2).map fun i => codeAt data d (b.1 + i)
    if g.rd (ent (0x4800 + zc) 3) = 0 then losslessBlock d flags line b.1 (packCodes d codes)
    else boundedBlock d (max 1 (g.rd (ent (0x4800 + zc) 4))) flags line b.1 codes

/-- FRAME block (R507). -/
def Frame.frameBlock (f : Frame) (zc : Nat) : Bytes :=
  let c := f.gen.rd (ent (0x4800 + zc) 3)
  let p := pack 32 [(0, 4, f.num), (4, 12, f.latch), (16, 1, f.ctx), (17, 1, c), (18, 2, f.marks),
    (20, 2, if c = 0 then 0 else f.gen.rd (ent (0x4800 + zc) 4))] ++ slice f.start 0 32 ++ slice f.exposure 0 32
  mkBlock 6 0 0 96 (crcNat p) 0 0 p

/-- FRAME_END block. -/
def frameEnd (num lines : Nat) (truncated : Bool) : Bytes :=
  let p := pack 8 [(0, 4, num), (4, 2, lines), (6, 2, if truncated then 1 else 0)]
  mkBlock 7 0 0 8 (crcNat p) 0 0 p

/-- RAW channels of a context in a generation. -/
def Gen.rawChannels (g : Gen) (x : Nat) : List Nat :=
  (List.range 64).filter fun n => g.rd (ent (0x4800 + n) 1) == 1 && g.rd (ent (0x4800 + n) 2) == x
def Gen.rawDest (g : Gen) (n b : Nat) : Bool := (g.rd (ent (0x4800 + n) 5)).testBit b

/-! ## The pre-roll ring (R517, R518) -/

def Ring.size (r : Ring) : Nat := (r.frames.map fun f => f.blocks.length + f.manifest.length + f.colour.length).sum

/-- 0x4848 + c:03 to :05 and :08. -/
def Sys.showRing (y : Sys) (x : Nat) : Sys :=
  let l := (y.ring x).frames
  let y := (y.wr (ent (0x4848 + x) 3) ((l.head?.map (·.frame)).getD 0)).wr (ent (0x4848 + x) 4) ((l.getLast?.map (·.frame)).getD 0)
  (y.wr (ent (0x4848 + x) 5) ((l.head?.map (·.latch)).getD 0)).wr (ent (0x4848 + x) 8) (l.filter (·.pinned)).length

/-- RING_FRAME_DROP: cause 0 hold, 1 pinned; once per hold. -/
def Sys.ringDrop (y : Sys) (x frame cause : Nat) : Sys :=
  let y := y.inc (ent (0x4848 + x) 6)
  if cause = 0 ∧ (y.ring x).told then y
  else
    let y := if cause = 0 then y.setRing x { y.ring x with told := true } else y
    y.raiseLimited x 0x0E03 x (ev [(0, 1, x), (1, 1, cause), (4, 4, frame)])

/-- Frames that leave, oldest first, until `need` octets are free; none where only pinned frames are left. -/
def makeRoom (share need : Nat) : Nat → List RingFrame → Option (List RingFrame)
  | 0, l => if ({ frames := l, told := false : Ring }).size + need ≤ share then some l else none
  | n + 1, l =>
    if ({ frames := l, told := false : Ring }).size + need ≤ share then some l
    else match l.findIdx? fun f => !f.pinned with
      | none => none
      | some i => makeRoom share need n (l.eraseIdx i)

/-- RING_FRAME_ENTER. -/
def Sys.ringEnter (y : Sys) (x : Nat) (f : RingFrame) : Sys :=
  let share := y.rd (ent (0x4848 + x) 1) * 1048576
  let r := y.ring x
  let held := y.rd (ent (0x4848 + x) 2) == 1
  if (y.shedMask 6).testBit 0 then y
  else if held then
    if r.size + f.blocks.length ≤ share then Sys.showRing (y.setRing x { r with frames := r.frames ++ [f] }) x
    else y.ringDrop x f.frame 0
  else
    match makeRoom share f.blocks.length r.frames.length r.frames with
    | some l => Sys.showRing (y.setRing x { r with frames := l ++ [f] }) x
    | none => y.ringDrop x f.frame 1

/-- A frame's manifest or colour record joins it in the ring. -/
def Sys.ringAside (y : Sys) (x frame : Nat) (manifest : Bool) (b : Bytes) : Sys :=
  let r := y.ring x
  y.setRing x { r with frames := r.frames.map fun f =>
    if f.frame == frame then (if manifest then { f with manifest := b } else { f with colour := b }) else f }

/-- Hold: 1 sets it, 0 releases it. -/
def Sys.ringHold (y : Sys) (x v : Nat) : Status × Sys :=
  if 1 < v then (.range, y)
  else (.ok, (y.setRing x { y.ring x with told := false }).wr (ent (0x4848 + x) 2) v)

/-- Pieces of a block sequence of at most 4 MiB each, cut at block boundaries (R528). -/
def blockPieces : Nat → Bytes → List Bytes → Bytes → List Bytes
  | 0, cur, acc, rest => acc ++ (if cur.isEmpty && rest.isEmpty then [] else [cur ++ rest])
  | n + 1, cur, acc, rest =>
    if rest.isEmpty then (if cur.isEmpty then acc else acc ++ [cur])
    else
      let len := 16 + rdLe rest 4 2
      if cur.length + len ≤ 4194304 then blockPieces n (cur ++ rest.take len) acc (rest.drop len)
      else blockPieces n (rest.take len) (acc ++ [cur]) (rest.drop len)

/-- Blocks of a raw channel go into the clip as RAW chunks. -/
def Sys.placeRaw (y : Sys) (x n frame time : Nat) (blocks : Bytes) (preroll : Bool) : Sys :=
  (blockPieces (blocks.length / 16 + 1) [] [] blocks).foldl (fun y b => y.placeChunk x .raw (0x10000 + n) frame time b preroll) y

/-- Pinned frames are handed to the recording, and unpinned (R518, R559). -/
def Sys.handRing (y : Sys) (x : Nat) (l : List RingFrame) : Sys :=
  let y := l.foldl (fun y f =>
    let y := y.placeRaw x f.zc f.frame f.latch f.blocks true
    let y := if f.manifest.isEmpty then y else y.placeChunk x .manifest 0x30000 f.frame f.latch f.manifest true
    if f.colour.isEmpty then y else y.placeChunk x .colour 0x40000 f.frame f.latch f.colour true) y
  let y := match (y.recording x).slot.bind y.vol.clip? with
    | some c => y.setClip { c with flags := setBit c.flags 2 }
    | none => y
  let r := y.ring x
  Sys.showRing (y.setRing x { r with frames := r.frames.map fun f => { f with pinned := false } }) x

/-- RING_EXTRACT (R518, R559): RANGE where no frame of the range is in the ring. -/
def Sys.ringExtract (o : Otp) (y : Sys) (x first last : Nat) : Status × Sys :=
  let l := (y.ring x).frames.filter fun f => decide (first ≤ f.frame) && decide (f.frame ≤ last)
  match l.head? with
  | none => (.range, y)
  | some h =>
    let open_ := (y.recording x).slot.isSome
    let y := if open_ then y else y.openClip o x h.frame h.latch true
    let handed := if (y.recording x).slot.isSome then l.length else 0
    let y := y.handRing x (if handed = 0 then [] else l)
    let y := if open_ ∨ (y.recording x).slot.isNone then y else y.closeClip x 2 0 0
    (.ok, y.raise 0x0E07 x (ev [(0, 1, x), (4, 4, first), (8, 4, last), (12, 4, handed)]))

/-- A clip whose STOP has been live closes once the frames latched before it have left their last chunk (R555). -/
def Sys.closeDone (y : Sys) (x : Nat) : Sys :=
  match (y.recording x).stopAt with
  | none => y
  | some n =>
    let waits := y.frames.any fun f => f.ctx == x && decide (f.num < n) &&
      (!f.manifestIssued || !f.recordIssued || (!(f.gen.rawChannels x).isEmpty && !f.rawEnded))
    let codes := y.encs.any fun p => (p.2.queue.any fun q => q.gen.rd (ent (0x4400 + p.1) 3) == x && decide (q.frame < n)) ||
      p.2.run.any fun r => r.pic.gen.rd (ent (0x4400 + p.1) 3) == x && decide (r.pic.frame < n)
    if waits || codes then y else y.closeClip x 2 0 0

/-! ## Coding a stripe (R505 to R509, R512) -/

/-- A channel's blocks go to its destinations. -/
def Sys.zcEmit (y : Sys) (f : Frame) (n : Nat) (boundary : Bool) (blocks : Bytes) : Sys :=
  let g := f.gen
  let y := y.setZc n { y.zc n with coded := (y.zc n).coded ++ blocks }
  let y := y.inc64 (ent (0x4800 + n) 0x0C) blocks.length
  let y := if g.rawDest n 1 && y.records f.ctx (0x10000 + n) f.num then y.placeRaw f.ctx n f.num f.latch blocks false else y
  if g.rawDest n 2 then (y.felleyOffer .rawCoded n 0 (g.period f.ctx) f.num boundary blocks).2 else y

/-- A line's blocks, and what they count. -/
def Sys.zcLine (y : Sys) (f : Frame) (n line : Nat) : Bytes × Sys :=
  let bs := f.lineBlocks n line
  let kinds (k : Nat) : Nat := (bs.filter fun b => rdLe b 1 1 == k).length
  let y := (y.inc64 (ent (0x4800 + n) 0x0B) (bs.map fun b => rdLe b 6 2).sum).incBy (ent (0x4800 + n) 0x0E) (kinds 3)
  let y := y.incBy (ent (0x4800 + n) 0x0F) (kinds 2)
  let top := ((bs.filter fun b => rdLe b 1 1 == 1 || rdLe b 1 1 == 2).map fun b => rdLe b 3 1).foldl max (y.zc n).highest
  (bs.flatten, y.setZc n { y.zc n with highest := top, lines := (y.zc n).lines + 1 })

/-- A raw coding of the frame that its manifest lists: one that is recorded or goes over the Felley link (R185). -/
def Sys.rawListed (y : Sys) (f : Frame) (n : Nat) : Bool := (f.gen.rawDest n 1 && y.records f.ctx (0x10000 + n) f.num) || f.gen.rawDest n 2

/-- RAW_FRAME_CLOSE: FRAME_END, the frame's stream entry, and the ring. -/
def Sys.zcClose (y : Sys) (f : Frame) (n unit : Nat) : Sys :=
  let y := y.zcEmit f n false (frameEnd f.num (y.zc n).lines f.cut.isSome)
  let z := y.zc n
  let y := y.wr (ent (0x4800 + n) 0x11) z.highest
  let y := if y.rawListed f n then y.onFrame f.ctx f.num fun h => { h with coded := h.coded ++ [(1, unit, z.coded.length, sha256 z.coded)] } else y
  let y := if f.gen.rawDest n 0 then
      y.ringEnter f.ctx { frame := f.num, latch := f.latch, zc := n, blocks := z.coded, manifest := [], colour := [], pinned := false }
    else y
  (y.setZc n { z with coded := [], lines := 0, highest := 0, frame := none }).release f.ctx (0x10000 + n) f.num

/-- RAW_STRIPE_CODED (R505 to R509): a unit codes the next stripe of the oldest uncoded frame of a context, in every RAW channel of the
context; the first also gives the FRAME block, the last the FRAME_END. A member of an array codes the lines of its band (R28, R685). -/
def execRawStripeCoded (unit ctx : Fin 8) (s : State) : Host.Outcome State Fault Refusal :=
  onSys s fun _ y =>
    let x := ctx.val
    match y.frames.find? fun f => f.ctx == x && !f.rawEnded && !(f.gen.rawChannels x).isEmpty with
    | none => y
    | some f =>
      let g := f.gen
      let stop := min (g.height x) (f.cut.getD (g.height x))
      let h := g.stripeH x
      let own := (List.range stop).filter fun l => decide (f.rawLine ≤ l) && g.ownLine x l
      let ends := (own.headD f.rawLine / h + 1) * h
      let ls := own.filter fun l => decide (l < ends)
      let next := if own.all fun l => decide (l < ends) then stop else ends
      if !ls.all fun l => f.lines.any fun d => d.num == l then y
      else
        let y := (g.rawChannels x).foldl (fun y n =>
          let y := if f.rawLine = 0 then y.zcEmit f n true (f.frameBlock n) else y
          let r := ls.foldl (fun (a : Bytes × Sys) l => let q := a.2.zcLine f n l; (a.1 ++ q.1, q.2)) ([], y)
          let y := if r.1.isEmpty then r.2 else r.2.zcEmit f n false r.1
          if next = stop then y.zcClose f n unit.val else y) y
        let y := y.onFrame x f.num fun e =>
          { e with rawLine := next, rawEnded := next == stop,
                   lines := e.lines.map fun d => if ls.contains d.num then { d with coded := true } else d }
        let y := (List.range 8).foldl (fun y g => if y.owner g = some x then y.showOccupancy g else y) y
        (y.reportSlack .s ⟨3072 - (y.rd (ent (0x3008 + x) 9) : Int), 3072⟩).closeDone x

/-! ## DEFLATE and INFLATE jobs (R514 to R516) -/

/-- A block of input as it leaves a DEFLATE channel; none where a channel that is no keeper finds that it does not shrink. -/
def deflateBlock (keeper partial_ : Bool) (seq : Nat) (b : Bytes) : Option Bytes :=
  let c := Config.deflate b
  let flags := if partial_ then 2 else 0
  if c.length < b.length then some (mkBlock 4 flags 0 b.length (crcNat b) (seq % 65536) 0 c)
  else if keeper then some (mkBlock 5 flags 0 b.length (crcNat b) (seq % 65536) 0 b)
  else none

/-- What a job has done so far. -/
structure JobRun where
  out : Bytes
  /-- Input octets in finished blocks, the held tail included. -/
  taken : Nat
  status : Nat
  stored : Nat
  stop : Bool
  deriving DecidableEq, Repr

/-- The blocks of a COMPRESS job. -/
def compressRun (keeper : Bool) (size cap : Nat) (hold : Bool) : Nat → Nat → Bytes → JobRun → JobRun
  | 0, _, _, r => r
  | n + 1, seq, rest, r =>
    if rest.isEmpty ∨ r.stop ∨ (hold ∧ rest.length < size) then r
    else
      let b := rest.take size
      match deflateBlock keeper (b.length < size) seq b with
      | none => { r with status := 1, stop := true }
      | some c =>
        if cap < r.out.length + c.length then { r with status := 4, stop := true }
        else compressRun keeper size cap hold n (seq + 1) (rest.drop size)
          { r with out := r.out ++ c, taken := r.taken + b.length, stored := r.stored + if rdLe c 1 1 = 5 then 1 else 0 }

/-- A DEFLATE-kind block header that keeps R506. -/
def deflateHeaderOk (b : Bytes) : Bool :=
  rdLe b 0 1 == 0xB7 && (rdLe b 1 1 == 4 || rdLe b 1 1 == 5) && rdLe b 2 1 % 2 == 0 && decide (rdLe b 2 1 < 4) && rdLe b 3 1 == 0 &&
    rdLe b 14 2 == 0 && decide (16 + rdLe b 4 2 ≤ b.length) && decide (0 < rdLe b 6 2) &&
    (rdLe b 1 1 == 4 || rdLe b 4 2 == rdLe b 6 2)

/-- The blocks of an EXPAND job. `status` 2 FORMAT, 3 CHECK, 4 SPACE. -/
def expandRun (cap : Nat) : Nat → Bytes → JobRun → JobRun
  | 0, _, r => r
  | n + 1, rest, r =>
    if rest.isEmpty ∨ r.stop then r
    else if rest.length < 16 ∨ !deflateHeaderOk rest then { r with status := 2, stop := true }
    else
      let len := rdLe rest 4 2
      let payload := slice rest 16 len
      let out := if rdLe rest 1 1 = 5 then some payload else inflate payload
      match out with
      | none => { r with status := 2, stop := true }
      | some b =>
        if b.length ≠ rdLe rest 6 2 then { r with status := 2, stop := true }
        else if crcNat b ≠ rdLe rest 8 4 then { r with status := 3, stop := true, stored := rdLe rest 12 2 }
        else if cap < r.out.length + b.length then { r with status := 4, stop := true }
        else expandRun cap n (rest.drop (16 + len)) { r with out := r.out ++ b, taken := r.taken + 16 + len }

/-- The descriptor at the head of the ring, from module DRAM or as host memory holds it. -/
def Sys.jobAt (y : Sys) (n : Nat) (desc : Bytes) : Nat × Bytes :=
  let a := y.rd (ent (0x4800 + n) 8) + 48 * (y.zc n).next
  (a, y.dmaRd a 32 desc)

/-- A job completes: its completion is written, the next entry is next, and INTERRUPT raises ZC_DONE. -/
def Sys.jobDone (y : Sys) (n at_ : Nat) (d : Bytes) (status taken out : Nat) : Sys :=
  let y := y.dmaWr (at_ + 32) (pack 16 [(0, 1, status), (1, 1, 1), (2, 2, rdLe d 2 2), (4, 4, taken), (8, 8, out)])
  let y := y.setZc n { y.zc n with next := ((y.zc n).next + 1) % max 1 (y.rd (ent (0x4800 + n) 9)) }
  if (rdLe d 1 1).testBit 1 then y.irqZc n else y

/-- The checks every job starts with: FORMAT for an op that is not the channel's, ADDRESS for a fault. -/
def jobStart (y : Sys) (d : Bytes) (op : Nat) (fault : Bool) : Nat :=
  if rdLe d 0 1 ≠ op then 2
  else if fault ∨ !dmaOk (rdLe d 8 8) (rdLe d 4 4) ∨ !dmaOk (rdLe d 16 8) (rdLe d 24 4) ∨ y.dmaPoisoned (rdLe d 8 8) (rdLe d 4 4) then 5 else 0

/-- COMPRESS_JOB (R514 to R516): the next descriptor of a DEFLATE channel runs. `desc` and `input` are what host memory holds where the
addresses point there. -/
def execCompressJob (channel : Fin 64) (desc input : Bytes) (fault : Bool) (s : State) : Host.Outcome State Fault Refusal :=
  onSys s fun _ y =>
    let n := channel.val
    if y.rd (ent (0x4800 + n) 1) ≠ 3 then y
    else
      let (at_, d) := y.jobAt n desc
      let st := jobStart y d 1 fault
      if st ≠ 0 then y.jobDone n at_ d st 0 0
      else
        let z := y.zc n
        let data := z.tail ++ y.dmaRd (rdLe d 8 8) (rdLe d 4 4) input
        let hold := (rdLe d 1 1).testBit 0
        let size := y.rd (ent (0x4800 + n) 7) * 1024
        let r := compressRun (y.rd (ent (0x4800 + n) 6) == 1) (max 1 size) (rdLe d 24 4) hold (data.length + 1) 0 data ⟨[], 0, 0, 0, false⟩
        let tail := if r.stop then z.tail.drop r.taken else data.drop r.taken
        let y := y.dmaWr (rdLe d 16 8) r.out
        let y := y.setZc n { z with tail := tail }
        let y := (y.inc64 (ent (0x4800 + n) 0x0B) r.taken).inc64 (ent (0x4800 + n) 0x0C) r.out.length
        let y := y.incBy (ent (0x4800 + n) 0x0E) r.stored
        let y := if r.status = 1 then y.inc (ent (0x4800 + n) 0x0D) else y
        let taken := if r.stop then r.taken - z.tail.length else rdLe d 4 4
        y.jobDone n at_ d r.status taken r.out.length

/-- EXPAND_JOB (R515, R516): the next descriptor of an INFLATE channel runs. -/
def execExpandJob (channel : Fin 64) (desc input : Bytes) (fault : Bool) (s : State) : Host.Outcome State Fault Refusal :=
  onSys s fun _ y =>
    let n := channel.val
    if y.rd (ent (0x4800 + n) 1) ≠ 4 then y
    else
      let (at_, d) := y.jobAt n desc
      let st := jobStart y d 2 fault
      if st ≠ 0 then y.jobDone n at_ d st 0 0
      else
        let data := y.dmaRd (rdLe d 8 8) (rdLe d 4 4) input
        let r := expandRun (rdLe d 24 4) (data.length + 1) data ⟨[], 0, 0, 0, false⟩
        let y := y.dmaWr (rdLe d 16 8) r.out
        let y := (y.inc64 (ent (0x4800 + n) 0x0B) r.out.length).inc64 (ent (0x4800 + n) 0x0C) r.taken
        let y := if r.status = 3 then
            (y.inc (ent (0x4800 + n) 0x10)).raiseLimited n 0x0E01 n (ev [(0, 1, n), (1, 1, 4), (2, 2, r.stored)])
          else y
        y.jobDone n at_ d r.status r.taken r.out.length

/-- A held tail is discarded (R514). -/
def Sys.discardTail (y : Sys) (n : Nat) : Sys :=
  let z := y.zc n
  if z.tail.isEmpty then y
  else (y.setZc n { z with tail := [] }).raise 0x0E06 n (ev [(0, 1, n), (4, 4, z.tail.length)])

/-- HELD_TAIL_DISCARD. -/
def execHeldTailDiscard (channel : Fin 64) (s : State) : Host.Outcome State Fault Refusal :=
  onSys s fun _ y => y.discardTail channel.val

end Sys2Proof.Machine
end

