-- ==== Sys2Proof/Machine/Dram.lean ====
section
/-!
DEFINITION. Sys2Proof/Machine/Dram.lean: the DRAM subsystem (R565 to R596): errors and poison, migration of a rank, retest, margin
scan, refresh and training. Ranks are physical ranks; the map and the states live in 0x4B10, which MRAM holds.
-/

namespace Sys2Proof.Machine

abbrev rankKey (r i : Nat) : Nat := ent (0x4B10 + r) i

/-- States of a rank (0x4B10 + r:01). -/
inductive RankState where
  | active | spare | out_ | in_ | out | retest | retired
  deriving DecidableEq, Repr
def RankState.code : RankState → Nat
  | .active => 0 | .spare => 1 | .out_ => 2 | .in_ => 3 | .out => 4 | .retest => 5 | .retired => 6
def Sys.rankIs (y : Sys) (r : Nat) (s : RankState) : Bool := y.rd (rankKey r 1) == s.code
def Sys.rankTo (y : Sys) (r : Nat) (s : RankState) : Sys := y.wr (rankKey r 1) s.code

/-- Causes of 0x4B10 + r:0B. -/
inductive RankCause where
  | uncorrectable | address | threshold | command | training | spareVerify
  deriving DecidableEq, Repr
def RankCause.code : RankCause → Nat
  | .uncorrectable => 1 | .address => 2 | .threshold => 3 | .command => 4 | .training => 5 | .spareVerify => 6

/-- The lowest SPARE rank (R574). -/
def Sys.spareRank (y : Sys) : Option Nat := (List.range 18).find? fun r => y.rankIs r .spare

/-- DRAM state, spares and migration entries (R594). -/
def Sys.showDram (y : Sys) : Sys :=
  let spares := ((List.range 18).filter fun r => y.rankIs r .spare).length
  let want := (List.range 18).any fun r => y.rankIs r .active && y.rd (rankKey r 0x0B) != 0
  let y := y.wr (ent 0x4B00 4) spares
  let y := y.wr (ent 0x4B01 8) (y.mram.rankQueue.foldl (fun b p => setBit b p.1) 0)
  let y := y.wr (ent 0x4B00 1) (if y.mram.mig.isSome then 2 else if want && spares = 0 then 3 else 1)
  match y.mram.mig with
  | some m => (((y.wr (ent 0x4B01 2) m.source).wr (ent 0x4B01 3) m.target).wr (ent 0x4B01 4) m.logical).wr (ent 0x4B01 5) m.checked
  | none => (((y.wr (ent 0x4B01 1) 0).wr (ent 0x4B01 2) 0xFF).wr (ent 0x4B01 3) 0xFF).wr (ent 0x4B01 4) 0xFF

def Sys.setMig (y : Sys) (m : Option Migration) : Sys := { y with mram := { y.mram with mig := m } }

/-! ## Migration (R573 to R582) -/

/-- Step 1 of a migration, or R575 where no spare is left. -/
def Sys.migStart (y : Sys) (r cause : Nat) : Sys :=
  let y := y.wr (rankKey r 0x0B) cause
  match y.spareRank with
  | none => Sys.raise y.showDram 0x1009 r (ev [(0, 1, r), (1, 1, cause)])
  | some t =>
    let lr := y.rd (rankKey r 2)
    let y := ((y.rankTo r .out_).rankTo t .in_).wr (rankKey t 2) lr
    let y := y.setMig (some ⟨r, t, lr, cause, 0, false, y.up⟩)
    let y := ((y.wr (ent 0x4B01 1) 1).wr (ent 0x4B01 6) y.t96).wr (ent 0x4B01 7) 0
    Sys.raise y.showDram 0x1005 r (ev [(0, 1, r), (1, 1, t), (2, 1, lr), (3, 1, cause)])

/-- RANK_OUT_OF_SERVICE (R573, R574): a rank that meets a cause starts its migration or queues for it. -/
def Sys.rankOut (y : Sys) (r : Nat) (cause : RankCause) : Sys :=
  if !y.rankIs r .active || y.rd (rankKey r 0x0B) != 0 then y
  else if y.mram.mig.isSome then
    let y := y.wr (rankKey r 0x0B) cause.code
    Sys.showDram { y with mram := { y.mram with rankQueue := y.mram.rankQueue ++ [(r, cause.code)] } }
  else y.migStart r cause.code

/-- The next queued rank starts (R574). -/
def Sys.migNext (y : Sys) : Sys :=
  match y.mram.rankQueue with
  | [] => y.showDram
  | p :: l => Sys.migStart { y with mram := { y.mram with rankQueue := l } } p.1 p.2

/-- A retest begins (R584). -/
def Sys.retestStart (y : Sys) (r : Nat) : Sys := y.rankTo r .retest

/-- Step 6 of R576: the map names the target alone. -/
def Sys.migComplete (y : Sys) (m : Migration) : Sys :=
  let poisoned := y.rd (ent 0x4B01 7)
  let y := ((y.rankTo m.target .active).rankTo m.source .out).wr (rankKey m.source 2) 0xFF
  let y := (y.wr (rankKey m.target 7) (y.rd (rankKey m.source 7))).wr (rankKey m.source 7) 0
  let y := (y.setMig none).inc (ent 0x4B01 9)
  let y := y.raise 0x1006 m.source (ev [(0, 1, m.source), (1, 1, m.target), (4, 4, (y.up - m.since) / 1000000), (8, 4, poisoned)])
  let y := if y.rd (ent 0x4B00 8) = 1 then y.retestStart m.source else y
  y.migNext

/-- SPARE_VERIFY_FAIL (R580): the target is faulty, and the source migrates to the next spare from block 0. -/
def Sys.spareFault (y : Sys) (m : Migration) : Sys :=
  let y := ((y.rankTo m.target .out).wr (rankKey m.target 2) 0xFF).wr (rankKey m.target 0x0B) RankCause.spareVerify.code
  let y := (y.rankTo m.source .active).setMig none
  let y := y.raise 0x1008 m.target (ev [(0, 1, m.target), (1, 1, m.checked)])
  let y := y.migStart m.source m.cause
  if y.rd (ent 0x4B00 8) = 1 then y.retestStart m.target else y

/-- MIGRATION_BLOCK_DONE (R576): a block is copied and read back; it is journalled, recopied once, or the spare is faulty. -/
def execMigrationBlockDone (mismatch : Bool) (poisoned : BitVec 32) (s : State) : Host.Outcome State Fault Refusal :=
  onSys s fun _ y =>
    match y.mram.mig with
    | none => y
    | some m =>
      if y.rd (ent 0x4B01 1) ≠ 1 then y
      else if mismatch then (if m.recopied then y.spareFault m else y.setMig (some { m with recopied := true }))
      else
        let y := y.incBy (ent 0x4B01 7) poisoned.toNat
        let m := { m with checked := m.checked + 1, recopied := false }
        let y := Sys.showDram (y.setMig (some m))
        if 45 ≤ m.checked then y.migComplete m else y

/-- The migration pauses and resumes (R578, R579). -/
def Sys.migPause (y : Sys) : Sys := if y.mram.mig.isSome then y.wr (ent 0x4B01 1) 2 else y
def Sys.migResume (y : Sys) : Sys := if y.mram.mig.isSome then y.wr (ent 0x4B01 1) 1 else y

/-- After a warm reset the migration goes on after the last checked block (R581). -/
def Sys.migAfterWarm (y : Sys) : Sys :=
  match y.mram.mig with
  | none => y
  | some m =>
    let y := (y.setMig (some { m with recopied := false })).migResume
    y.raise 0x1007 m.source (ev [(0, 1, m.source), (1, 1, m.target), (2, 1, m.checked)])

/-- A rank is replaced by a spare without copying (R582, R590). -/
def Sys.swapEmpty (y : Sys) (r cause : Nat) : Sys :=
  let y := y.wr (rankKey r 0x0B) cause
  match y.spareRank with
  | none => y
  | some t =>
    let y := ((y.rankTo t .active).wr (rankKey t 2) (y.rd (rankKey r 2))).rankTo r .out
    y.wr (rankKey r 2) 0xFF

/-- After a reset that loses DRAM contents: the map entry with a target is completed without copying, queued ranks start, and every line is
initialised with zeros (R582, R583). -/
def Sys.dramLost (y : Sys) : Sys :=
  let y := { y with dram := [], mem := { y.mem with poison := [], seen := [], scan := none, initialising := true } }
  let y := match y.mram.mig with
    | none => y
    | some m => (((y.rankTo m.target .active).rankTo m.source .out).wr (rankKey m.source 2) 0xFF).setMig none
  upto 18 (fun r y => if y.rankIs r .retest then y.rankTo r .out else y) y

/-! ## Errors found (R568 to R572, R586) -/

/-- The usable address of local line `line` of a channel of logical rank lr: the map of R566 read backwards. -/
def usableAddress (lr ch line : Nat) : Nat :=
  (line / 4 * 64 + lr % 2 * 32 + lr / 2 * 4 + ch) * 256 + line % 4 * 64

/-- ECC_CORRECT (R569): the line is written back and counted, once per distinct line of the window. -/
def Sys.eccCorrect (y : Sys) (r ch line addr : Nat) : Sys :=
  let y := y.inc64 (rankKey r 3) 1
  let e := (y.mem.seen.lookup r).getD (y.up, [])
  let e := if e.1 + 86400000000000 ≤ y.up then (y.up, []) else e
  let l := if e.2.contains (line * 4 + ch) then e.2 else e.2 ++ [line * 4 + ch]
  let others := y.mem.seen.filter fun p => p.1 != r
  let y := { y with mem := { y.mem with seen := (r, e.1, l) :: others } }
  let y := y.wr (rankKey r 4) (min 65535 l.length)
  let y := y.raiseLimited r 0x1001 r (ev [(0, 1, r), (1, 1, ch), (8, 8, addr)])
  if y.rd (ent 0x4B00 6) < l.length && y.rankIs r .active && y.rd (rankKey r 0x0B) == 0 then
    Sys.rankOut (y.raise 0x1004 r (ev [(0, 1, r), (2, 2, l.length)])) r .threshold
  else y

/-- ECC_POISON (R571): the line is poisoned and counted; the rank leaves service, or a SPARE rank becomes OUT (R586). -/
def Sys.eccPoison (y : Sys) (r ch requester addr : Nat) (cause : RankCause) : Sys :=
  let y := if y.rd (rankKey r 2) < 16 then
      { y with mem := { y.mem with poison := if y.mem.poison.contains (addr / 64) then y.mem.poison else addr / 64 :: y.mem.poison } }
    else y
  let key := if cause = .address then 6 else 5
  let y := (y.inc (rankKey r key)).inc (rankKey r 7)
  let y := y.raiseLimited r (if cause = .address then 0x1003 else 0x1002) r
    (ev [(0, 1, r), (1, 1, ch), (2, 1, requester), (8, 8, addr)])
  if y.rankIs r .spare then
    let y := (y.rankTo r .out).wr (rankKey r 0x0B) cause.code
    let y := if y.rd (ent 0x4B00 8) = 1 then y.retestStart r else y
    y.showDram
  else y.rankOut r cause

/-- PATROL_SCRUB (R570): a line is read, by the patrol or by another requester (event 0x1002), with this outcome. Ranks that are OUT, in
retest or RETIRED are not patrolled. -/
def execPatrolScrub (rank : Fin 18) (channel : Fin 4) (line : BitVec 32) (requester : Fin 8) (found : EccFound) (s : State) :
    Host.Outcome State Fault Refusal :=
  onSys s fun _ y =>
    let r := rank.val
    let lr := y.rd (rankKey r 2)
    let addr := if lr < 16 then usableAddress lr channel.val line.toNat else 0
    if y.rd (rankKey r 1) > 3 || decide (47185920 ≤ line.toNat) then y
    else match found with
    | .clean => y
    | .corrected => y.eccCorrect r channel.val line.toNat addr
    | .uncorrectable => y.eccPoison r channel.val requester.val addr .uncorrectable
    | .addressError => y.eccPoison r channel.val requester.val addr .address

/-! ## Rank commands (0x4B00:09) -/

/-- MIGRATE: the rank must be ACTIVE. -/
def Sys.rankMigrate (y : Sys) : Status × Sys :=
  let r := y.rd (ent 0x4B00 0x0A)
  if y.rankIs r .active && y.rd (rankKey r 0x0B) == 0 then (.ok, y.rankOut r .command) else (.state, y)
/-- RETEST: an OUT or RETIRED rank (R584). -/
def Sys.rankRetest (y : Sys) : Status × Sys :=
  let r := y.rd (ent 0x4B00 0x0A)
  if y.rankIs r .out || y.rankIs r .retired then (.ok, y.retestStart r) else (.state, y)
/-- MARGIN_SCAN: a SPARE, OUT or RETIRED rank (R592). -/
def Sys.rankScan (y : Sys) : Status × Sys :=
  let r := y.rd (ent 0x4B00 0x0A)
  if y.rankIs r .spare || y.rankIs r .out || y.rankIs r .retired then (.ok, { y with mem := { y.mem with scan := some r } })
  else (.state, y)

/-- RETEST_DONE (R585): SPARE, or RETIRED where an uncorrectable or address error or 16 distinct correctable lines were found. -/
def execRetestDone (rank : Fin 18) (errors : Bool) (distinct : BitVec 32) (s : State) : Host.Outcome State Fault Refusal :=
  onSys s fun _ y =>
    let r := rank.val
    if !y.rankIs r .retest then y
    else
      let pass := !errors && decide (distinct.toNat < 16)
      let y := (y.wr (rankKey r 8) (if pass then 1 else 2)).wr (rankKey r 9) y.t96
      let y := if pass then ((y.rankTo r .spare).wr (rankKey r 0x0B) 0).wr (rankKey r 7) 0 else y.rankTo r .retired
      Sys.raise y.showDram 0x100A r (ev [(0, 1, r), (1, 1, if pass then 0 else 1), (4, 4, distinct.toNat)])

/-- MARGIN_SCAN_DONE (R592): per channel read eye width and height, write eye width and height. -/
def execMarginScanDone (result : List (BitVec 16)) (s : State) : Host.Outcome State Fault Refusal :=
  onSys s fun _ y =>
    match y.mem.scan with
    | none => y
    | some r =>
      let y := { y with mem := { y.mem with scan := none } }
      (y.wrB (rankKey r 0x0A) (slice (result.flatMap fun v => le 2 v.toNat) 0 32)).raise 0x1010 r (ev [(0, 1, r)])

/-- DRAM_INIT_DONE (R583): every line of every active rank holds zero data or what was written since. -/
def execDramInitDone (s : State) : Host.Outcome State Fault Refusal :=
  onSys s fun _ y => { y with mem := { y.mem with initialising := false } }

/-! ## Refresh and training (R587 to R591) -/

/-- Refresh multiple a reading asks for, with the levels lowered by `h` (0.01 °C). -/
def refreshFor (t h : Int) : Nat := if 10500 - h < t then 4 else if 8500 - h < t then 2 else 1

/-- REFRESH_RATE_CHANGE (R587): the multiple rises on the first reading above its level; it falls once the reading has been 3 °C below the
level for 1 s, which the sender reports by this command. A package whose sensor is excluded stays at 4× (R665). -/
def execRefreshRateChange (package : Fin 9) (s : State) : Host.Outcome State Fault Refusal :=
  onSys s fun _ y =>
    let p := package.val
    let t := y.rdI (ent (0x4B30 + p) 1)
    let now := y.rd (ent (0x4B30 + p) 2)
    let m := if y.rdBit (ent 0x2101 9) p then 4 else if now < refreshFor t 0 then refreshFor t 0 else min now (refreshFor t 300)
    if m = now then y
    else ((y.wr (ent (0x4B30 + p) 2) m).inc (ent (0x4B30 + p) 5)).raise 0x100E p
      (ev [(0, 1, p), (1, 1, m), (2, 2, ofI 16 (t / 10))])

/-- DQS_DRIFT_CHECK (R591): timing is corrected; a package that has moved more than 20 °C is centred anew. -/
def execDqsDriftCheck (s : State) : Host.Outcome State Fault Refusal :=
  onSys s fun _ y =>
    upto 9 (fun p y =>
      let t := y.rdI (ent (0x4B30 + p) 1)
      let c := (y.mem.centred.lookup p).getD t
      let c := if 2000 < (t - c).natAbs then t else c
      { y with mem := { y.mem with centred := (p, c) :: y.mem.centred.filter fun q => q.1 != p } }) y

/-- A write to 0x4B00:0C clears every cached entry (R589). -/
def Sys.trainingClear (y : Sys) : Sys := Sys.wr { y with mram := { y.mram with training := [] } } (ent 0x4B40 3) 0


end Sys2Proof.Machine
end

