-- ==== Sys2Proof/Machine/CodecTools.lean ====
section
/-!
DEFINITION. Sys2Proof/Machine/CodecTools.lean: the coding tools of the HEVC cores (R473): what the encoder uses, what a decoder takes, and the layers
that it discards.
-/

namespace Sys2Proof.Machine

/-- The encode column of R473, with the CTU rows of a slice (0x4400 + e:16): the encoder uses these tools and no others. -/
def encodeTools (sliceRows : Nat) : CodingTools :=
  { ctb := 64, cuMin := 8, cuMax := 64, tuMin := 4, tuMax := 32, amp := true, smoothing := true, weighted := false, searchX := 256, searchY := 128,
    temporalMv := true, bSlices := true, reorder := 0, longTerm := 2, deblock := true, sao := true, signHiding := true, transformSkip := true,
    scaling := 0, pcm := false, tileColumns := 1, tileRows := 1, wavefront := false, sliceRows := some sliceRows, dependent := false,
    rangeExtension := false }

/-- The tools as octets, for what the coding of a picture depends on. -/
def toolOctets (t : CodingTools) : Bytes :=
  let b (v : Bool) : Nat := if v then 1 else 0
  [t.ctb, t.cuMin, t.cuMax, t.tuMin, t.tuMax, b t.amp, b t.smoothing, b t.weighted, t.searchX, t.searchY, b t.temporalMv, b t.bSlices, t.reorder,
    t.longTerm, b t.deblock, b t.sao, b t.signHiding, b t.transformSkip, t.scaling, b t.pcm, t.tileColumns, t.tileRows, b t.wavefront,
    t.sliceRows.getD 0, b t.dependent, b t.rangeExtension].flatMap (le 2)

/-- Most tile columns and rows of a level (ISO/IEC 23008-2, Annex A): general_level_idc is 30 times the level. -/
def tileLimit (level : Nat) : Nat × Nat :=
  if level ≤ 63 then (1, 1) else if level ≤ 90 then (2, 2) else if level ≤ 93 then (3, 3) else if level ≤ 123 then (5, 5)
  else if level ≤ 156 then (10, 11) else (20, 22)

/-- The limits of the decode column of R473: CTB size, reordering, tiles. Every other tool is decoded. -/
def decodes (t : CodingTools) (level : Nat) : Bool :=
  (t.ctb == 16 || t.ctb == 32 || t.ctb == 64) && t.reorder ≤ 4 && t.tileColumns ≤ (tileLimit level).1 && t.tileRows ≤ (tileLimit level).2

/-- nuh_layer_id of every NAL unit of a byte stream: the six bits after forbidden_zero_bit and nal_unit_type, behind each start code. -/
def nalLayers : Nat → Bytes → List Nat
  | 0, _ => []
  | n + 1, b =>
    match b with
    | 0 :: 0 :: 1 :: h :: k :: r => (h.toNat % 2 * 32 + k.toNat / 8) :: nalLayers n r
    | _ :: r => nalLayers n r
    | [] => []

/-- An access unit without a NAL unit of the base layer: it is discarded without error (R473). -/
def noBaseLayer (au : Bytes) : Bool := let l := nalLayers au.length au; !l.isEmpty && l.all (· != 0)

end Sys2Proof.Machine
end

