-- ==== Sys2Proof/Machine/Encode.lean ====
section
/-!
DEFINITION. Sys2Proof/Machine/Encode.lean: HEVC encode stream contexts (R466 to R491): picture slots, fallback pictures, structures, marks,
recovery and access unit records. What the coding of a picture yields is Config.codePicture.
-/

namespace Sys2Proof.Machine

def enc0 : Enc :=
  { queue := [], run := none, index := 0, sinceIrap := 0, irap := true, idr := true, discont := false, recovery := none,
    marks := [none, none], keeps := [], config := [], offset := 0, refused := 0, latencies := [], deafUntil := 0, history := [], cpb := 0,
    last := 0, stopped := false }
def Sys.enc (y : Sys) (e : Nat) : Enc := tget (fun _ => enc0) y.encs e
def Sys.setEnc (y : Sys) (e : Nat) (v : Enc) : Sys := { y with encs := tset (fun _ => enc0) y.encs e v }

/-- An entry of ESe in a generation. -/
def Gen.es (g : Gen) (e i : Nat) : Nat := g.rd (ent (0x4400 + e) i)
/-- The stream takes frame n (R474). -/
def Gen.esTakes (g : Gen) (e x n : Nat) : Bool :=
  g.es e 1 == 1 && g.es e 3 == x && n % max 1 (g.es e 5) == g.es e 6
/-- Picture period P_s in ns. -/
def Gen.esPeriod (g : Gen) (e : Nat) : Nat := g.period (g.es e 3) * max 1 (g.es e 5)
/-- Picture deadline, T96 units (R474). -/
def EncPic.due (p : EncPic) (e : Nat) : Nat := p.gen.frameDeadline (p.gen.es e 3) p.latch + p.gen.esPeriod e * 2 ^ 32

/-- What a change of makes the next picture an IDR picture (R470). -/
def Gen.esConfig (g : Gen) (e : Nat) : Bytes :=
  let x := g.es e 3
  let b := g.binding x (g.es e 4)
  [g.es e 2, g.es e 7, g.es e 8, b.outW, b.outH, g.es e 9, g.es e 10, g.es e 4, x].flatMap (le 2) ++ g.rdB (ent (0x3C20 + x) (g.es e 4 + 1))

/-- 0x4420 + e:09. -/
def Sys.showMarks (y : Sys) (e : Nat) : Sys :=
  y.wrB (ent (0x4420 + e) 9) ((y.enc e).marks.flatMap fun m => le 4 (m.getD 0xFFFFFFFF))

/-- Event 0x0D05: 0 KEEP, 1 KEEP refused, 2 RELEASE, 3 dropped. -/
def Sys.markEvent (y : Sys) (e m what frame : Nat) : Sys := y.raise 0x0D05 e (ev [(0, 1, e), (1, 1, m), (2, 1, what), (4, 4, frame)])

/-- Every mark is dropped: at a stop and at an IRAP picture (R482, R486). -/
def Sys.dropMarks (y : Sys) (e : Nat) : Sys :=
  let u := y.enc e
  let y := y.setEnc e { u with marks := [none, none] }
  Sys.showMarks (u.marks.zipIdx.foldl (fun y m => match m.1 with | some f => y.markEvent e m.2 3 f | none => y) y) e

/-! ## Slots, stops and resumptions (R470, R474, R482) -/

/-- At the latch point of frame f: streams start, stop, and take their slots. -/
def Sys.encSlots (y : Sys) (f : Frame) : Sys :=
  (List.range 16).foldl (fun y e =>
    let g := f.gen
    let on := g.es e 1 == 1 && g.es e 3 == f.ctx
    let st := y.rd (ent (0x4420 + e) 1)
    if on then
      let y := if st = 0 then (y.setEnc e enc0).wr (ent (0x4420 + e) 1) 1 else y
      if g.esTakes e f.ctx f.num && y.rd (ent (0x4420 + e) 1) == 1 then
        y.setEnc e { y.enc e with queue := (y.enc e).queue ++ [⟨f.num, f.latch, g, none, none⟩] }
      else y
    else if st ≠ 0 ∧ (g.es e 1 = 0) ∧ (y.rd (ent (0x4400 + e) 3) = f.ctx) then
      let y := y.dropMarks e
      (y.setEnc e { y.enc e with queue := [] }).wr (ent (0x4420 + e) 1) 0
    else y) y

/-- A frame leaves flight without having been published: its picture slots are fallback pictures (R476). -/
def Sys.encGone (y : Sys) (x n cause : Nat) : Sys :=
  { y with encs := y.encs.map fun p =>
      (p.1, { p.2 with queue := p.2.queue.map fun q =>
        if q.frame == n && q.gen.es p.1 3 == x && q.gone.isNone then { q with gone := some (cause, 0), readyAt := q.readyAt <|> some y.up } else q }) }

/-- A stream stops: its marks are dropped and nothing is coded for the frames of the stop (R482). -/
def Sys.encStop (y : Sys) (e : Nat) : Sys :=
  if y.rd (ent (0x4420 + e) 1) ≠ 1 then y
  else
    let u := y.enc e
    let y := (y.dropMarks e).wr (ent (0x4420 + e) 1) 2
    let y := y.setEnc e { y.enc e with queue := [], stopped := true }
    y.raise 0x0D0C e (ev [(0, 1, e), (1, 1, 1), (4, 4, (u.queue.head?.map (·.frame)).getD u.last)])

/-- It resumes with an IDR picture that sets DISCONTINUITY. -/
def Sys.encResume (y : Sys) (e : Nat) (tell : Bool) : Sys :=
  let u := y.enc e
  let y := (y.setEnc e { u with irap := true, idr := true, discont := true, stopped := false }).wr (ent (0x4420 + e) 1) 1
  if tell then y.raise 0x0D0C e (ev [(0, 1, e), (4, 4, u.last)]) else y

/-- A domain reset of CDC discards the picture in progress (R482). -/
def Sys.encReset (y : Sys) (e : Nat) : Sys :=
  if y.rd (ent (0x4420 + e) 1) = 0 then y
  else
    let y := y.dropMarks e
    let y := { y with holds := y.holds.filter fun h => h.1 != e }
    (y.setEnc e { y.enc e with run := none, queue := [] }).encResume e false

/-! ## Starting a picture (R468, R476, R478, R486, R487) -/

/-- The store's buffer of a binding's frame, complete. -/
def Sys.encSource (y : Sys) (x b n : Nat) : Option StoreBuf := (y.store? x b).bind fun s => s.bufs.find? fun u => u.frame == n && u.complete

/-- Why frame n is not available (R476): 0 abandoned, 1 cut, 2 overtaken, with the frame that overwrote it; none while it may still be
published. -/
def Sys.encLost (y : Sys) (p : EncPic) (x b : Nat) : Option (Nat × Nat) :=
  match p.gone with
  | some c => some c
  | none =>
    match y.frame? x p.frame with
    | some f => if f.cutRaw ∨ f.cut.isSome then some (1, 0) else if f.abandoned then some (0, 0) else none
    | none => some (2, (((y.store? x b).bind fun s => s.bufs.head?).map (·.frame)).getD 0)

/-- The head picture of a stream is ready on a core, with its source or the cause that it has none. -/
def Sys.encReady (y : Sys) (e core : Nat) : Option (EncPic × Option (Nat × Nat)) :=
  let u := y.enc e
  match u.queue with
  | [] => none
  | p :: _ =>
    let x := p.gen.es e 3
    let b := p.gen.es e 4
    if u.run.isSome || p.gen.es e 2 != core || y.rd (ent (0x4420 + e) 1) != 1 then none
    else if (y.encSource x b p.frame).isSome then some (p, none)
    else (y.encLost p x b).map fun c => (p, some c)

/-- The picture type and the recovery that applies: 0 IDR, 1 CRA, 2 P, 3 B, 4 SKIP, and the mark it references. -/
def Enc.choose (u : Enc) (g : Gen) (e : Nat) (lost : Bool) : Nat × Option Nat :=
  let intra := g.es e 9 == 0
  let kind := g.es e 12
  if lost && !intra && u.index != 0 then (4, none)
  else
    let forced := u.idr || u.config != g.esConfig e
    match u.recovery with
    | some (some m, _) =>
      if forced then (0, none)
      else match u.marks.getD m none with
        | some _ => (2, some m)
        | none => (0, none)
    | some (none, _) => (0, none)
    | none =>
      if forced then (0, none)
      else if intra || u.irap || (g.es e 11 != 0 && g.es e 11 ≤ u.sinceIrap) then (kind, none)
      else (if g.es e 9 = 1 then 2 else 3, none)

/-- Last complete frame of a binding: its fallback frame. -/
def Sys.lastComplete (y : Sys) (x b : Nat) : Nat :=
  (((y.store? x b).bind fun s => (s.bufs.filter (·.complete)).getLast?).map (·.frame)).getD 0

/-- ENCODE_PICTURE_START (R468): a free core takes the ready picture with the earliest deadline. -/
def execEncodePictureStart (core : Fin 4) (s : State) : Host.Outcome State Fault Refusal :=
  onSys s fun _ y =>
    let k := core.val
    if ((List.range 16).any fun e => (y.enc e).run.any fun r => r.core == k) || (y.shedMask 3).testBit k then y
    else
      let best := (List.range 16).foldl (fun (a : Option (Nat × EncPic × Option (Nat × Nat))) e =>
        match y.encReady e k, a with
        | some r, none => some (e, r)
        | some r, some b => if r.1.due e < b.2.1.due b.1 then some (e, r) else some b
        | none, a => a) none
      match best with
      | none => y
      | some (e, p, lost) =>
        let u := y.enc e
        let g := p.gen
        let x := g.es e 3
        let b := g.es e 4
        let choice := u.choose g e lost.isSome
        let type := choice.1
        let recovers := u.recovery.isSome && type != 4
        let skip := type == 4
        let flags := bitsOf ((if lost.isSome then [0] else []) ++ (if lost.any fun c => c.1 == 2 then [1] else []) ++
          (if u.discont && !skip then [3] else []) ++ (if choice.2.isSome then [4] else []))
        let run : EncRun := { core := k, pic := p, startAt := y.up, type := type, flags := flags, mark := choice.2.getD 0xFF,
                              coded := if lost.isSome && !skip then y.lastComplete x b else p.frame }
        let y := if type ≤ 1 then y.dropMarks e else y
        let y := y.setEnc e { y.enc e with
          queue := u.queue.drop 1, run := some run, irap := u.irap && skip, idr := u.idr && skip,
          discont := u.discont && skip, recovery := if recovers then none else u.recovery,
          config := if skip then u.config else g.esConfig e,
          deafUntil := if recovers && u.recovery.any (·.2) then y.up + 2 * g.esPeriod e else u.deafUntil }
        let y := { y with holds := y.holds ++ [(e, x, b, run.coded)] }
        let y := match lost with
          | none => y
          | some c =>
            let y := (y.inc (ent (0x4420 + e) 5)).raiseLimited e 0x0D02 e (ev [(0, 1, e), (1, 1, c.1), (4, 4, p.frame)])
            if c.1 = 2 then (y.inc (ent (0x4420 + e) 6)).raise 0x0D03 e (ev [(0, 1, e), (4, 4, p.frame), (8, 4, c.2)]) else y
        let y := if recovers then
            y.raise 0x0D06 e (ev [(0, 1, e), (1, 1, match choice.2 with | some m => m + 1 | none => 0),
              (2, 1, if u.recovery.any (·.2) then 1 else 0), (4, 4, p.frame)]) else y
        let y := y.wr (ent (0x4460 + k) 1) 1
        let y := if (y.cores.lookup k).all (fun (c : Nat) => c == e) then y else y.inc64 (ent (0x4460 + k) 5) 1
        { y with cores := (k, e) :: y.cores.filter fun c => c.1 != k }

/-! ## Completing a picture (R477 to R481, R486 to R491) -/

/-- Access unit delimiter of a picture type (R490). -/
def delimiter (type : Nat) : Bytes :=
  [0, 0, 0, 1, 0x46, 1, BitVec.ofNat 8 ((match type with | 0 => 0 | 1 => 0 | 3 => 2 | _ => 1) * 32 + 16)]

/-- The source pixels of a picture as octets. -/
def StoreBuf.octets (b : StoreBuf) : Bytes := b.px.flatMap fun p => le 4 p.1 ++ le 8 p.2

/-- Access unit record header (R489). -/
def auHeader (e len frame coded latch index type flags mark qp latency cpb offset : Nat) : Bytes :=
  pack 64 [(0, 4, 0x56585150), (4, 1, 1), (5, 1, e), (6, 2, 64), (8, 4, len), (12, 4, frame), (16, 4, coded), (20, 12, latch),
    (32, 8, index), (40, 1, type), (41, 1, flags), (42, 1, mark), (43, 1, qp), (44, 4, latency), (48, 4, cpb), (52, 8, offset)]

/-- The mark that the picture for frame n of index i (since the last IRAP picture) is kept as: by a KEEP request, or by Auto recovery
(R486, R488). -/
def Enc.keepsAs (u : Enc) (g : Gen) (e n i : Nat) : Option Nat :=
  match u.keeps.find? fun k => k.2 == n with
  | some k => some k.1
  | none => if g.es e 25 = 1 ∧ (g.es e 26).testBit 1 ∧ i ≠ 0 ∧ i % 32 = 0 then some (i / 32 % 2) else none

/-- A destination refuses a record (R491): 0 RECORD, 1 FELLEY. -/
def Sys.recordDiscard (y : Sys) (e dest frame : Nat) : Sys :=
  let u := y.enc e
  let u := { u with refused := setBit u.refused dest }
  let u := if u.recovery.isNone then { u with irap := true } else u
  ((y.setEnc e u).inc (ent (0x4420 + e) 0x0D)).raiseLimited e 0x0D0D e (ev [(0, 1, e), (1, 1, dest), (4, 4, frame)])

/-- The record goes to the recording of the context. -/
def Sys.auRecord (y : Sys) (e : Nat) (r : EncRun) (unit : Bytes) : Sys :=
  let x := r.pic.gen.es e 3
  let id := 0x20000 + e
  let irap := decide (r.type ≤ 1)
  if !(r.pic.gen.es e 26).testBit 0 ∨ (y.recording x).slot.isNone then y
  else if (y.recording x).refused.contains (r.pic.frame, id) then (y.recordDiscard e 0 r.pic.frame).release x id r.pic.frame
  else if (y.enc e).refused.testBit 0 && !irap then y.release x id r.pic.frame
  else
    let y := y.setEnc e { y.enc e with refused := clrBit (y.enc e).refused 0 }
    let y := if y.records x id r.pic.frame then y.placeLong x .au id r.pic.frame r.pic.latch unit false else y
    y.release x id r.pic.frame

/-- The record goes to the Felley streams of the context. -/
def Sys.auFelley (y : Sys) (e : Nat) (r : EncRun) (unit : Bytes) : Sys :=
  let irap := decide (r.type ≤ 1)
  if !(r.pic.gen.es e 26).testBit 1 then y
  else if (y.enc e).refused.testBit 1 && !irap then y
  else
    let y := y.setEnc e { y.enc e with refused := clrBit (y.enc e).refused 1 }
    let o := y.felleyOffer .hevc e 0 (r.pic.gen.esPeriod e) r.pic.frame irap unit
    if o.1 then o.2 else o.2.recordDiscard e 1 r.pic.frame

/-- The picture's bitstream is one that the manifest of its frame lists: it is recorded or goes over the Felley link (R185). -/
def Sys.auListed (y : Sys) (e : Nat) (r : EncRun) : Bool :=
  let d := r.pic.gen.es e 26
  (d.testBit 0 && y.records (r.pic.gen.es e 3) (0x20000 + e) r.pic.frame) || d.testBit 1

/-- ENCODE_PICTURE_DONE. -/
def execEncodePictureDone (core : Fin 4) (s : State) : Host.Outcome State Fault Refusal :=
  onSys s fun _ y =>
    let k := core.val
    match (List.range 16).find? fun e => (y.enc e).run.any fun r => r.core == k with
    | none => y
    | some e =>
      let u := y.enc e
      match u.run with
      | none => y
      | some r =>
        let g := r.pic.gen
        let x := g.es e 3
        let n := r.pic.frame
        let px := ((y.encSource x (g.es e 4) r.coded).map (·.octets)).getD []
        let settings := (List.range 28).flatMap fun i => le 4 (g.es e (i + 1))
        let c := Config.codePicture (toolOctets (encodeTools (g.es e 22)) ++ u.history ++ le 1 r.type ++ le 1 r.mark ++ settings ++ g.rdB (ent (0x4400 + e) 27) ++ px)
        let cap := g.es e 21
        let au := delimiter r.type ++ c.1
        let au := if cap = 0 then au else au.take cap
        let emergency := c.2.2.2
        let late := decide (r.pic.due e < y.t96)
        let skip := r.type == 4
        let since := if r.type ≤ 1 then 0 else u.sinceIrap
        let keep := u.keepsAs g e n since
        let kept := if r.flags.testBit 0 then none else keep
        let flags := r.flags ||| bitsOf ((if emergency.isSome then [2] else []) ++ (if late then [5] else []) ++
          (if kept.isSome then [6] else []))
        let ready := ((y.encSource x (g.es e 4) r.coded).map (·.doneAt)).getD (r.pic.readyAt.getD r.startAt)
        let us := (y.up - ready) / 1000
        let cpb := if g.es e 13 = 0 then 0 else c.2.2.1 % 2 ^ 32
        let qp := if skip then 0 else min (max (c.2.1) (g.es e 19)) (min 51 (g.es e 20))
        let head := auHeader e au.length n r.coded r.pic.latch u.index r.type flags (kept.getD r.mark) qp us cpb u.offset
        let unit := head ++ au
        let marks := match keep with | some m => u.marks.set m (if kept.isSome then some n else none) | none => u.marks
        let lat := (u.latencies ++ [us]).drop (u.latencies.length + 1 - 60)
        let y := y.setEnc e { u with
          run := none, index := u.index + 1, sinceIrap := since + 1, marks := marks, keeps := u.keeps.filter fun q => n < q.2,
          offset := u.offset + unit.length, latencies := lat, history := sha256 (u.history ++ au), cpb := cpb,
          last := if r.flags.testBit 0 then u.last else n }
        let y := { y with holds := y.holds.filter fun h => !(h.1 == e && h.2.1 == x && h.2.2.2 == r.coded) }
        let y := (y.inc64 (ent (0x4420 + e) 3) 1).inc64 (ent (0x4420 + e) 4) au.length
        let y := ((y.wrB (ent (0x4420 + e) 10) head).wr (ent (0x4420 + e) 11) (lat.sum / max 1 lat.length)).wr (ent (0x4420 + e) 12) cpb
        let y := y.showMarks e
        let y := match keep with | some m => y.markEvent e m (if kept.isSome then 0 else 1) n | none => y
        let y := if late then (y.inc (ent (0x4420 + e) 7)).raiseLimited e 0x0D01 e
            (ev [(0, 1, e), (1, 1, k), (4, 4, n), (8, 4, (y.t96 - r.pic.due e) / 2 ^ 32 / 1000)]) else y
        let y := match emergency with
          | some row => (y.inc (ent (0x4420 + e) 8)).raiseLimited e 0x0D04 e (ev [(0, 1, e), (1, 1, r.type), (2, 2, row), (4, 4, n)])
          | none => y
        let y := y.reportSlack .s (y.slackOf (r.pic.due e) (g.esPeriod e))
        let y := ((y.wr (ent (0x4460 + k) 1) 0).inc64 (ent (0x4460 + k) 4) 1).inc64 (ent (0x4460 + k) 6) ((y.up - r.startAt) / 1000)
        let y := if y.auListed e r then y.onFrame x n fun f => { f with coded := f.coded ++ [(2, e, au.length, sha256 au)] } else y
        Sys.closeDone ((y.auRecord e r unit).auFelley e r unit) x

/-! ## Requests (R486 to R488) -/

/-- The frame of the next picture to start. -/
def Sys.encNext (y : Sys) (e : Nat) : Nat :=
  match (y.enc e).queue with
  | p :: _ => p.frame
  | [] => match y.newest? (y.rd (ent (0x4400 + e) 3)) with | some f => f.num + 1 | none => (y.enc e).last

/-- KEEP: LATE below the next picture's frame, RANGE more than 256 frames beyond it. -/
def Sys.markKeep (y : Sys) (e m frame : Nat) : Status × Sys :=
  let next := y.encNext e
  if 1 < m ∨ next + 256 < frame then (.range, y)
  else if frame < next then (.late, y)
  else (.ok, y.setEnc e { y.enc e with keeps := ((y.enc e).keeps.filter fun k => k.1 != m) ++ [(m, frame)] })

def execMarkKeep (stream : Fin 16) (mark : Fin 2) (frame : BitVec 32) (s : State) : Host.Outcome State Fault Refusal :=
  onSys s fun _ y => (y.markKeep stream.val mark.val frame.toNat).2

/-- RELEASE. -/
def Sys.markRelease (y : Sys) (e m : Nat) : Status × Sys :=
  if 1 < m then (.range, y)
  else
    let u := y.enc e
    let y := (y.setEnc e { u with marks := u.marks.set m none, keeps := u.keeps.filter fun k => k.1 != m }).showMarks e
    match u.marks.getD m none with
    | some f => (.ok, y.markEvent e m 2 f)
    | none => (.ok, y)

def execMarkRelease (stream : Fin 16) (mark : Fin 2) (s : State) : Host.Outcome State Fault Refusal :=
  onSys s fun _ y => (y.markRelease stream.val mark.val).2

/-- A recovery request: none for REFRESH. -/
def Sys.recover (y : Sys) (e : Nat) (m : Option Nat) (report : Bool) : Sys := y.setEnc e { y.enc e with recovery := some (m, report) }

def execRecoveryRefresh (stream : Fin 16) (s : State) : Host.Outcome State Fault Refusal :=
  onSys s fun _ y => y.recover stream.val none false
def execRecoveryFromMark (stream : Fin 16) (mark : Fin 2) (s : State) : Host.Outcome State Fault Refusal :=
  onSys s fun _ y => y.recover stream.val (some mark.val) false

/-- LOSS_REPORT (R488): mark 0 or 1 is the newest the decoder holds clean, 2 none. Reports count under Auto recovery, and not in the two
picture periods after one was applied. -/
def execLossReport (stream : Fin 16) (mark : Fin 3) (s : State) : Host.Outcome State Fault Refusal :=
  onSys s fun _ y =>
    let e := stream.val
    if y.rd (ent (0x4400 + e) 25) ≠ 1 ∨ !(y.rd (ent (0x4400 + e) 26)).testBit 1 ∨ y.up < (y.enc e).deafUntil then y
    else y.recover e (if mark.val < 2 then some mark.val else none) true

end Sys2Proof.Machine
end

