-- ==== Sys2Proof/Machine/Ingest.lean ====
section
/-!
DEFINITION. Sys2Proof/Machine/Ingest.lean: the commands of sensor ingest (chapter 9) but for the latch point itself, which
Machine/Latch.lean holds.
-/

namespace Sys2Proof.Machine

/-- ALIGNMENT_MARKER (R254): the marker of one logical lane, `skew` slots from the others of its set. Markers of one count within 64 block slots, on
every lane, align the group; another count, a wider skew, or a lane that shows its next marker before the others have shown theirs fails deskew, which
acts as loss of lock of every lane. The lanes of a context with source FELLEY are unused (R284). -/
def execAlignmentMarker (group : Fin 8) (lane : Fin 6) (count : BitVec 32) (skew : Nat) (s : State) : Host.Outcome State Fault Refusal :=
  onSys s fun _ y =>
    let g := group.val
    let u := y.ig g
    if decide (64 < skew) || (!u.marked.isEmpty && (u.marker != count.toNat || u.marked.contains lane.val)) then
      let y := (y.setIg g { u with marked := [] }).wr (ent (0x3018 + g) 3) 2
      Sys.lanesLost (y.raise 0x080A g (ev [(0, 1, g), (1, 1, lane.val), (4, 4, count.toNat)])) g
    else
      let all := decide (y.view.groupWidth g ≤ u.marked.length + 1)
      let y := y.setIg g { u with marker := count.toNat, marked := if all then [] else u.marked ++ [lane.val] }
      let y := if all then y.wr (ent (0x3018 + g) 3) 1 else y
      y.wr (ent (0x3018 + g) 4) (max skew (y.rd (ent (0x3018 + g) 4)))

/-- MALFORMED_BLOCK (R252): the block is discarded and counted; its packet never arrives, so R263 finds its line missing. -/
def execMalformedBlock (group : Fin 8) (s : State) : Host.Outcome State Fault Refusal :=
  onSys s fun _ y => y.inc (ent (0x3018 + group.val) 8)

/-- The Frame Start payload as received (R256). -/
def startPayload (p : FrameStart) : Bytes :=
  le 2 p.width.toNat ++ le 2 p.height.toNat ++ le 1 p.depth.toNat ++ le 1 p.before.toNat ++ le 1 p.after.toNat ++
    le 1 (if p.testPattern then 1 else 0) ++ le 8 p.time.toNat ++ slice p.sensorBytes 0 16

/-- A group joins the frame that its Frame Start belongs to (R262); after a loss of lock this is where it resynchronises (R274). -/
def Sys.joinFrame (y : Sys) (x g num : Nat) : Sys :=
  let y := y.onFrame x num fun f => f.onGroup g fun fg => { fg with started := true }
  if (y.ig g).resync then
    Sys.raise (y.setIg g { y.ig g with resync := false }) 0x0805 x (ev [(0, 1, x), (1, 1, g), (4, 4, num)])
  else y

/-- T96 `t` lies within the group skew limit of a latch point. -/
def Frame.inSkew (f : Frame) (t : Nat) : Bool :=
  decide (((t : Int) - f.latch).natAbs ≤ f.gen.rd (ent (0x3000 + f.ctx) 0x0B) * 1000 * 2 ^ 32)

/-- The latch point of a frame: a non-lead group whose Frame Start came before it, with the same counter and within the group skew limit, joins (R262);
the packets of an early frame's Frame Start are over (R266). -/
def Sys.joinEarly (y : Sys) (x num : Nat) : Sys :=
  match y.frame? x num with
  | none => y
  | some f => f.groups.foldl (fun y fg =>
    match (y.ig fg.group).early with
    | none => y
    | some e =>
      let y := y.setIg fg.group { y.ig fg.group with early := none }
      if e.1 = f.counter ∧ !fg.started ∧ f.inSkew e.2 then y.joinFrame x fg.group num else y.stray fg.group 4) y

/-- NON_LEAD_FRAME_START (R258, R262, R264, R266, R274, R275): the group joins the frame whose counter it carries, within the group skew limit of its
latch point; one that comes before the latch point waits for it. -/
def execNonLeadFrameStart (group : Fin 8) (start : FrameStart) (s : State) : Host.Outcome State Fault Refusal :=
  onSys s fun _ y =>
    let g := group.val
    let n := start.counter.toNat
    match y.lanesOf g with
    | none => y
    | some x =>
      if (y.ig g).resync && !y.groupBack g then y
      else if (y.ig g).quiet then y.stray g 5
      else
        let y := y.countCrc g (failedLanes (y.view.groupWidth g) (startPayload start) start.trailers)
        if start.stream.val ≠ y.rd (ent (0x3000 + x) 4) then y.stray g 0
        else if start.gidx.val ≠ y.rd (ent (0x3018 + g) 2) then y.stray g 1
        else
          let early := (y.ctx x).discarding == some n
          let y := y.setIg g { y.ig g with discarding := early }
          let hold (y : Sys) : Sys := Sys.setIg (if (y.ig g).early.isSome then y.stray g 4 else y) g { y.ig g with early := some (n, y.t96) }
          if early then y
          else match y.newest? x with
            | none => hold y
            | some f =>
              if f.counter ≠ n then hold y
              else if (f.groups.any fun fg => fg.group == g && !fg.started && !fg.ended) && f.inSkew y.t96 then y.joinFrame x g f.num
              else y.stray g 4

/-- GROUP_SKEW (R262): the group contributes no lines; they are lost and the frame is marked. -/
def execGroupSkew (group : Fin 8) (s : State) : Host.Outcome State Fault Refusal :=
  onSys s fun _ y =>
    let g := group.val
    match y.owner g with
    | none => y
    | some x =>
      match y.newest? x with
      | none => y
      | some f =>
        match f.groups.find? fun fg => fg.group == g && !fg.started && !fg.ended with
        | none => y
        | some fg =>
          let y := y.onFrame x f.num fun f => (f.mark 8).onGroup g fun h => { h with ended := true, skewed := true }
          let y := y.substituteAll x f.num fg (f.outstanding fg)
          let y := y.raise 0x080F x (ev [(0, 1, x), (1, 1, g), (4, 4, f.num)])
          y.checkComplete x f.num

/-- A packet's STREAM or GIDX is not its group's (R264). -/
def headerStray (y : Sys) (x : Nat) (fg : FrameGroup) (stream gidx : Nat) : Option Nat :=
  if stream ≠ y.rd (ent (0x3000 + x) 4) then some 0 else if gidx ≠ fg.gidx then some 1 else none

/-- Why a line is stray (R264): stream, GIDX, order, height, or none. -/
def strayReason (y : Sys) (x : Nat) (f : Frame) (fg : FrameGroup) (stream gidx line : Nat) : Option Nat :=
  headerStray y x fg stream gidx <|>
    if line ≥ f.gen.height x then some 3
    else if line % max 1 f.groups.length ≠ fg.gidx ∨ (fg.last.any fun l => line ≤ l) then some 2
    else if !(f.gen.share x f.groups.length fg.gidx).contains line then some 3
    else if f.cut.any fun c => c ≤ line then some 2
    else none

/-- Failed lane CRCs mark the frame of a line and are counted for its context; the line is kept (R271). -/
def Sys.lineCrc (y : Sys) (g x n line bad : Nat) : Sys :=
  if bad = 0 then y
  else
    let y := (y.incCtx x 3).onFrame x n fun f => { f.mark 0 with crcErrors := f.crcErrors + 1 }
    y.raiseLimited g 0x0801 x (ev [(0, 1, x), (1, 1, g), (2, 1, bad), (4, 4, n), (8, 2, line)])

/-- Timing of line arrivals, for R421. -/
def Sys.lineSeen (y : Sys) (x : Nat) : Sys :=
  let c := y.ctx x
  y.setCtx x { c with firstLineAt := if c.linesSeen = 0 then y.t96 else c.firstLineAt, lastLineAt := y.t96,
                      linesSeen := c.linesSeen + 1 }

/-- A line of its share reaches group g of context x: missing lines before it are lost, a short one is lost, a long one cut, and one that finds
no slot is lost to overflow (R263, R267, R271, R272). A playback context has no group and no bound here. -/
def Sys.takeLine (y : Sys) (x g : Nat) (f : Frame) (fg : FrameGroup) (l : Nat) (payload : Bytes) (badLanes : Nat) : Sys :=
  let y := y.lineSeen x
  let missing := (f.outstanding fg).filter (· < l)
  let y := y.substituteAll x f.num fg missing
  let y := y.lineCrc g x f.num l badLanes
  let need := f.gen.lineBytes x (f.gen.depth x)
  let y := y.onFrame x f.num fun f => f.onGroup g fun h => { h with last := some l }
  if payload.length < need then y.substituteLine x f.num fg l
  else if isSensor x && decide (3072 ≤ y.occupancy g) then
    let first := !(f.marks.testBit 2)
    let y := y.inc64 (ent (0x3010 + x) 5) 1
    let y := y.onFrame x f.num fun f => f.mark 2
    let y := if first then y.raiseLimited g 0x0802 x
      (ev [(0, 1, x), (1, 1, g), (2, 1, y.ctxState x), (4, 4, f.num), (8, 2, l)]) else y
    y.loseHard x f.num fg l
  else
    let y := y.onFrame x f.num fun f =>
      { f with lines := f.lines ++ [{ num := l, group := g, source := l, data := payload.take need, readOut := !f.wanted l, coded := !f.gen.rawPath x }] }
    if isSensor x then Sys.showOccupancy (Sys.inc64 (y.slpLineOut x f.num l) (ent (0x3018 + g) 6) 1) g else y

/-- What every line or Frame End packet of a group meets first (R258, R264, R266, R268, R274, R275, R284): where the group takes packets, its CRC errors
are counted, and `take` gets it with the frame that is open on the group, unless it is stray. -/
def Sys.packet (y : Sys) (g : Nat) (h : PacketHeader) (bad : Nat) (take : Nat → Frame → FrameGroup → Sys → Sys) : Sys :=
  match y.lanesOf g with
  | none => y
  | some x =>
    if (y.ig g).resync then y
    else if (y.ig g).quiet then y.stray g 5
    else
      let y := y.countCrc g bad
      if (y.ig g).discarding then y
      else match y.openFrame g with
        | none => y.stray g 4
        | some (f, fg) => match headerStray y x fg h.stream.val h.gidx.val with
          | some r => y.stray g r
          | none => take x f fg y

/-- LINE_PACKET (R257, R258, R264, R271). -/
def execLinePacket (group : Fin 8) (header : PacketHeader) (payload : Bytes) (trailers : List (BitVec 32)) (s : State) :
    Host.Outcome State Fault Refusal :=
  onSys s fun _ y =>
    let g := group.val
    let l := header.number.toNat
    let bad := failedLanes (y.view.groupWidth g) payload trailers
    y.packet g header bad fun x f fg y =>
      match strayReason y x f fg header.stream.val header.gidx.val l with
      | some r => y.stray g r
      | none => y.takeLine x g f fg l payload bad

/-- An embedded line of frame f (R276). -/
def Sys.takeEmbedded (y : Sys) (f : Frame) (payload : Bytes) : Sys :=
  let y := y.onFrame f.ctx f.num fun f => { f with embedded := f.embedded ++ payload }
  y.wrB (ent (0x3008 + f.ctx) 6) ((y.rdB (ent (0x3008 + f.ctx) 6) ++ payload).take 1024)

/-- EMBEDDED_LINE (R258, R276): kept beside the frame, the first 1,024 octets readable. Embedded lines travel only on GIDX 0 (R259); one on another group
is discarded as stray with reason GIDX, of which R264 says nothing (DESIGN CHOICE, log entry 62). -/
def execEmbeddedLine (group : Fin 8) (header : PacketHeader) (payload : Bytes) (trailers : List (BitVec 32)) (s : State) :
    Host.Outcome State Fault Refusal :=
  onSys s fun _ y =>
    let g := group.val
    y.packet g header (failedLanes (y.view.groupWidth g) payload trailers) fun _ f fg y =>
      if fg.gidx ≠ 0 then y.stray g 1 else y.takeEmbedded f payload

/-- Every group of the frame ends: what is missing is lost, and the frame completes (R263). -/
def Sys.endFrame (y : Sys) (f : Frame) : Sys :=
  let y := f.groups.foldl (fun y fg => if fg.ended then y else y.substituteAll f.ctx f.num fg (f.outstanding fg)) y
  let y := y.onFrame f.ctx f.num fun h => { h with groups := h.groups.map fun fg => { fg with ended := true } }
  y.checkComplete f.ctx f.num

/-- FRAME_END_ACCEPT (R263): the group's missing lines are lost, and the frame completes with its last group. What is missing follows from the group's
share; the count of lines sent changes nothing. -/
def execFrameEndAccept (group : Fin 8) (header : PacketHeader) (_lines : BitVec 16) (s : State) : Host.Outcome State Fault Refusal :=
  onSys s fun _ y =>
    let g := group.val
    y.packet g header 0 fun _ f fg y =>
      if f.counter ≠ header.number.toNat then y.stray g 4
      else
        let y := y.substituteAll f.ctx f.num fg (f.outstanding fg)
        let y := y.onFrame f.ctx f.num fun f => f.onGroup g fun h => { h with ended := true }
        y.checkComplete f.ctx f.num

/-- FRAME_TIMEOUT (R263). -/
def execFrameTimeout (ctx : Fin 16) (s : State) : Host.Outcome State Fault Refusal :=
  onSys s fun _ y => match y.newest? ctx.val with | some f => y.timeoutFrame f | none => y

/-- INGEST_LOCK_LOSS (R274). -/
def execIngestLockLoss (group : Fin 8) (s : State) : Host.Outcome State Fault Refusal :=
  onSys s fun _ y => y.lanesLost group.val

/-- What happens to the lanes of a group that are requested ACTIVE and are in a state. -/
def Sys.groupLanes (y : Sys) (g : Nat) (from_ : LaneState) (go : Sys → Nat → Sys) : Sys :=
  (refLanes g).foldl (fun y n => if y.rd (ent (0x2400 + n) 1) = 0 ∧ y.laneIs n from_ then go y n else y) y

/-- QUIET_BLOCK (R275): after Frame End, Quiet on all lanes places them in QUIET where the context asks for it. -/
def execQuietBlock (group : Fin 8) (s : State) : Host.Outcome State Fault Refusal :=
  onSys s fun _ y =>
    let g := group.val
    match y.owner g with
    | none => y
    | some x =>
      let ended : Bool := match y.newest? x with | some f => f.groups.any fun fg => fg.group == g && fg.ended | none => false
      if y.rd (ent (0x3000 + x) 0x0E) = 1 ∧ ended then Sys.groupLanes (y.setIg g { y.ig g with quiet := true }) g .active (fun y n => y.laneTo n .quiet) else y

/-- BLANKING_WAKE (R275): the lanes of the context's groups return to ACTIVE, each after 4 valid headers (R242). -/
def execBlankingWake (ctx : Fin 8) (s : State) : Host.Outcome State Fault Refusal :=
  onSys s fun _ y =>
    (y.view.groupsOf ctx.val).foldl (fun y g =>
      if (y.ig g).quiet then Sys.groupLanes (y.setIg g { y.ig g with quiet := false }) g .quiet Sys.laneResume else y) y

/-- EXPOSURE_LIST_START (R279, R280): the port's next list starts, unless a host transaction is on the wire. -/
def execExposureListStart (port : Fin 8) (s : State) : Host.Outcome State Fault Refusal :=
  onSys s fun _ y =>
    let n := port.val
    let p := y.port n
    match p.lists with
    | l :: r =>
      if l.started || p.hostOnWire then y
      else Sys.portState (Sys.portSend (y.setPort n { p with lists := { l with started := true } :: r }) n l.body) n
    | [] => y

/-- EXPOSURE_LIST_DONE (R280): the list leaves; a host transaction that waited behind it may start. -/
def execExposureListDone (port : Fin 8) (s : State) : Host.Outcome State Fault Refusal :=
  onSys s fun _ y =>
    let n := port.val
    let p := y.port n
    let y := match p.lists.head? with
      | some l =>
        let c := y.ctx l.ctx
        y.setCtx l.ctx { c with expo := c.expo.map fun (e : Exposure) => if e.num == l.frame then { e with sentAt := some y.up } else e }
      | none => y
    Sys.portNext (y.setPort n { p with lists := p.lists.drop 1 }) n

/-- EXPOSURE_LIST_OVERRUN (R280): the list is still sent in full; the overrun is counted, reported and marked. -/
def execExposureListOverrun (port : Fin 8) (overrunUs : BitVec 32) (s : State) : Host.Outcome State Fault Refusal :=
  onSys s fun _ y =>
    match (y.port port.val).lists.head? with
    | none => y
    | some l =>
      let y := (y.incCtx l.ctx 0x0C).exposureLate l.ctx l.frame
      y.raise 0x080D l.ctx (ev [(0, 1, l.ctx), (1, 1, port.val), (4, 4, l.frame), (8, 4, overrunUs.toNat)])

/-- SENSOR_WRITE_ERROR (R281): the failing write ends, the rest of the list goes on, and there is no retry. -/
def execSensorWriteError (port : Fin 8) (timeout : Bool) (reg : BitVec 16) (s : State) : Host.Outcome State Fault Refusal :=
  onSys s fun _ y =>
    let n := port.val
    let p := y.port n
    let y := y.inc (ent (0x3028 + n) 8)
    let who := if p.hostOnWire then 0xFF else (p.lists.head?.map (·.ctx)).getD 0xFF
    let y := if p.hostOnWire then y else match p.lists.head? with
      | some l => y.exposureLate l.ctx l.frame
      | none => y
    y.raiseLimited n 0x080E n (ev [(0, 1, n), (1, 1, if timeout then 1 else 0), (2, 1, who), (4, 2, reg.toNat)])

/-- SENSOR_TRANSACTION (R283). -/
def execSensorTransaction (port : Fin 8) (request : Bytes) (s : State) : Host.Outcome State Fault Refusal :=
  onSys s fun _ y => (y.hostTransaction port.val request).2

/-- SENSOR_TRANSACTION_DONE (R283): status 0 OK, 1 NACK, 2 TIMEOUT, and the data read. -/
def execSensorTransactionDone (port : Fin 8) (status : Fin 3) (data : Bytes) (s : State) : Host.Outcome State Fault Refusal :=
  onSys s fun _ y =>
    let n := port.val
    let p := y.port n
    if p.hostOnWire then
      let d := data.take 64
      let y := y.wrB (ent (0x3028 + n) 7) (le 1 status.val ++ le 1 d.length ++ d)
      Sys.portState (y.setPort n { p with host := none, hostOnWire := false }) n
    else y

end Sys2Proof.Machine
end

