-- ==== Sys2Proof/Machine/Launch.lean ====
section
/-!
DEFINITION. Sys2Proof/Machine/Launch.lean: the timing balls and the launch queue (R217 to R223, R437, R461).
-/

namespace Sys2Proof.Machine

/-! ## Timing balls -/

def tio0 : Tio := { fifo := [], last := none, level := false }
def Sys.tio (y : Sys) (n : Nat) : Tio := tget (fun _ => tio0) y.tios n
def Sys.setTio (y : Sys) (n : Nat) (v : Tio) : Sys := { y with tios := tset (fun _ => tio0) y.tios n v }

/-- Function of ball n, codes of R217. -/
def Sys.tioFn (y : Sys) (n : Nat) : Nat := y.rd (ent (0x2320 + n) 1)
/-- Functions that drive their ball. -/
def tioOut (f : Nat) : Bool := f = 1 || (3 ≤ f && f ≤ 6) || f = 8
/-- The timing balls are not in service: a strap fault holds them in their reset state, or their bank is not powered (R83). -/
def Sys.tioHeld (y : Sys) : Bool := y.boot.strapFault || y.bankOpen 9
/-- The ball is driven: not in a reset, in Dormant, under a strap fault or in a bank without power (R83, R87, R655). SHADOW leaves EXPOSURE_TRIGGER and LAUNCH_OUT balls
high-impedance (R693). -/
def Sys.tioDriven (y : Sys) (n : Nat) : Bool := tioOut (y.tioFn n) && y.boot.phase == .running && !y.tioHeld && !(y.isShadow && (y.tioFn n = 5 || y.tioFn n = 6))

/-- An input shorter than 10 ns is ignored (R219): width in ns of the pulse that the edge begins or ends. -/
def tioRunt (width : BitVec 32) : Bool := decide (width.toNat < 10)

/-- The level of ball n's pin when it is active or not (polarity 0x2320 + n:02: 0 active high, 1 active low). -/
def Sys.tioPin (y : Sys) (n : Nat) (active : Bool) : Bool := active != (y.rd (ent (0x2320 + n) 2) == 1)

/-- Edge k of ball n in T96 units: k × den × 10^9 / num ns and the offset; PPS_OUT has one edge a second (R217, R218). -/
def Sys.tioEdge (y : Sys) (n k : Nat) : Int :=
  let r := y.rd (ent (0x2320 + n) 3)
  let p : Nat × Nat := if y.tioFn n = 1 then (1, 1) else (r / 2 ^ 32, r % 2 ^ 32)
  Int.ofNat (k * p.2 * 1000000000 * 2 ^ 32 / max 1 p.1) + y.rdI (ent (0x2320 + n) 4) * 2 ^ 32

/-- The first k from k0 up, of at most two, whose edge is at or after t. -/
def Sys.tioNext (y : Sys) (n : Nat) (t : Int) : Nat :=
  let r := y.rd (ent (0x2320 + n) 3)
  let p : Nat × Nat := if y.tioFn n = 1 then (1, 1) else (r / 2 ^ 32, r % 2 ^ 32)
  let k := ((t - y.rdI (ent (0x2320 + n) 4) * 2 ^ 32) * (p.1 : Int) / Int.ofNat (max 1 p.2 * 1000000000 * 2 ^ 32)).toNat
  if t ≤ y.tioEdge n k then k else if t ≤ y.tioEdge n (k + 1) then k + 1 else k + 2

/-- TIO_EDGE_OUT (R218, R219): the next aligned edge after the one placed last. An EXPOSURE_TRIGGER edge is passed to its context, driven or
not (R693). -/
def execTioEdgeOut (ball : Fin 32) (s : State) : Host.Outcome State Fault Refusal :=
  onSys s fun _ y =>
    let n := ball.val
    let f := y.tioFn n
    if !tioOut f || f = 6 then y
    else
      let from_ : Nat := match (y.tio n).last with | some l => max y.t96 (l + 1) | none => y.t96
      let at_ := (y.tioEdge n (y.tioNext n from_)).toNat
      let y := y.setTio n { y.tio n with last := some at_ }
      let y := if y.tioDriven n then y.send (.tio n at_ (if f = 4 then 0 else y.rd (ent (0x2320 + n) 5)) (y.tioPin n true)) else y
      let x := y.rd (ent (0x2320 + n) 6)
      if f = 5 ∧ x < 8 ∧ y.triggerBall x = some n then y.setCtx x { y.ctx x with triggers := (y.ctx x).triggers ++ [at_] } else y

/-- 0x2320 + n:08 shows the oldest capture. -/
def Sys.showCapture (y : Sys) (n : Nat) : Sys :=
  y.wrB (ent (0x2320 + n) 8) (match (y.tio n).fifo with | [] => [] | c :: _ => le 12 c.1 ++ le 1 (if c.2 then 1 else 0))

/-- TIO_CAPTURE (R219, R700, R724): an edge on a CAPTURE_IN ball that is in service. Edges of the partner HEARTBEAT input go to the twin monitor; the calibration PPS
is also measured for Felley. -/
def execTioCapture (ball : Fin 32) (time : BitVec 96) (falling : Bool) (width : BitVec 32) (s : State) : Host.Outcome State Fault Refusal :=
  onSys s fun _ y =>
    let n := ball.val
    if y.tioFn n ≠ 7 ∨ tioRunt width ∨ y.tioHeld then y
    else if y.rd (ent 0x4C00 5) = n then y.onTwin fun t => { t with beat := some y.up, silent := false }
    else
      let pps := y.rd (ent 0x4D00 5) = n ∧ !falling
      let y := if pps ∧ y.view.role = 1 ∧ y.rd (ent 0x4D01 0x0C) = 1 then
          y.setLink 4 { y.link 4 with heads := (y.link 4).heads ++ [time.toNat] }
        else if pps ∧ y.view.role = 2 ∧ !y.isShadow then y.control 4 .stamps (1 :: le 12 time.toNat)
        else y
      let u := y.tio n
      if u.fifo.length < 16 then Sys.showCapture (y.setTio n { u with fifo := u.fifo ++ [(time.toNat, falling)] }) n
      else Sys.raiseLimited (y.inc (ent (0x2320 + n) 7)) n 0x060D n (ev [(0, 1, n)])

/-- A READ of 0x2320 + n:08 removes the entry it returns. -/
def Sys.popCapture (y : Sys) (n : Nat) : Sys := Sys.showCapture (y.setTio n { y.tio n with fifo := (y.tio n).fifo.drop 1 }) n

/-- CAPTURE_FIFO_READ. -/
def execCaptureFifoRead (ball : Fin 32) (s : State) : Host.Outcome State Fault Refusal := onSys s fun _ y => y.popCapture ball.val

/-! ## The launch queue -/

/-- An entry joins in launch-time order, after those of its own time (R220). -/
def queueLaunch (e : Launch) : List Launch → List Launch
  | [] => [e]
  | h :: r => if h.time ≤ e.time then h :: queueLaunch e r else e :: h :: r

/-- Host entries of the queue. -/
def Sys.hostLaunches (y : Sys) : List Launch := y.launches.filter (·.host)

/-- The queue changed: 0x2310:03 follows. -/
def Sys.setLaunches (y : Sys) (l : List Launch) : Sys := Sys.wr { y with launches := l } (ent 0x2310 3) (l.filter (·.host)).length

/-- The entry that 32 octets spell (R221). -/
def launchOf (b : Bytes) (session : Nat) : Launch :=
  { time := rdLe b 0 12, kind := rdLe b 12 1, target := rdLe b 13 1, policy := rdLe b 14 1, flags := rdLe b 15 1, window := rdLe b 16 4,
    param := rdLe b 20 4, period := rdLe b 24 4, left := if (rdLe b 15 1).testBit 1 then rdLe b 28 2 else 0, id := rdLe b 30 2,
    session := session, host := true }

/-- The entry keeps R221 and R461. -/
def Sys.launchOk (y : Sys) (e : Launch) : Bool :=
  e.policy ≤ 2 && e.flags < 4 && (!(e.flags.testBit 1) || 1000 ≤ e.period) &&
  match e.kind with
  | 1 => e.target < 32 && y.tioFn e.target == 6 && 10 ≤ e.param
  | 2 => e.target < 32 && y.tioFn e.target == 6 && e.param ≤ 1
  | 3 => e.target < 24 && y.view.chanMode e.target == 2
  | 4 => e.target < 8 && e.param < 4
  | _ => false

/-- A submission (R220): BUSY when the 192 host entries are in use. -/
def Sys.submitLaunch (y : Sys) (b : Bytes) (session rank : Nat) : Status × Sys :=
  let e := launchOf b session
  if b.length ≠ 32 then (.type, y)
  else if !y.launchOk e then (.range, y)
  else if 192 ≤ y.hostLaunches.length then (.busy, y.raise 0x060C 255 (ev [(0, 1, rank)]))
  else (.ok, y.setLaunches (queueLaunch e y.launches))

/-- LAUNCH_SUBMIT. -/
def execLaunchSubmit (entry : Bytes) (session : BitVec 16) (rank : Fin 9) (s : State) : Host.Outcome State Fault Refusal :=
  onSys s fun _ y => (y.submitLaunch entry session.toNat rank.val).2

/-- R223: entries that `p` picks are cancelled. An occurrence due within 10 µs may still launch: a free bit says which. -/
def Sys.cancelLaunches (y : Sys) (p : Launch → Bool) : Status × Sys :=
  let n := (y.launches.filter fun e => e.host && p e).length
  if n = 0 then (.range, y)
  else
    let r := y.launches.foldl (fun (a : List Launch × Sys) e =>
      if !(e.host && p e) then (a.1 ++ [e], a.2)
      else if e.time < a.2.t96 + 10000 * 2 ^ 32 then
        let d := a.2.free 1
        (if d.1 = 1 then a.1 ++ [{ e with left := 0 }] else a.1, d.2)
      else a) ([], y)
    (.ok, (r.2.setLaunches r.1).incBy (ent 0x2310 7) n)

/-- LAUNCH_CANCEL: the session's own entries with the ID. -/
def Sys.cancelOwn (y : Sys) (id session : Nat) : Status × Sys := y.cancelLaunches fun e => e.id == id && e.session == session
/-- LAUNCH_CANCEL_ANY. -/
def Sys.cancelAny (y : Sys) (id : Nat) : Status × Sys := y.cancelLaunches fun e => e.id == id
/-- LAUNCH_CANCEL_ALL: a write of 1; an empty queue is no error. -/
def Sys.cancelEvery (y : Sys) (v : Nat) : Status × Sys := if v ≠ 1 then (.range, y) else (.ok, (y.cancelLaunches fun _ => true).2)

def execLaunchCancel (id session : BitVec 16) (s : State) : Host.Outcome State Fault Refusal :=
  onSys s fun _ y => (y.cancelOwn id.toNat session.toNat).2
def execLaunchCancelAny (id : BitVec 16) (s : State) : Host.Outcome State Fault Refusal := onSys s fun _ y => (y.cancelAny id.toNat).2
def execLaunchCancelAll (s : State) : Host.Outcome State Fault Refusal := onSys s fun _ y => (y.cancelEvery 1).2

/-! ## DELAY mode (R437) -/

/-- The channel that holds the reserved entries: the lowest of its lock group in DELAY mode, or the channel. -/
def Sys.delayHome (y : Sys) (c : Nat) : Nat := ((y.lockMembers c).filter fun d => y.view.chanMode d == 1).foldl min c

/-- Reserved entries of channel c. -/
def Sys.delayHeld (y : Sys) (c : Nat) : List Launch := y.launches.filter fun e => !e.host && e.target == c

/-- While fewer than two are held, the next admitted frame after the newest one placed or due gets its entry. -/
def Sys.fillDelay (y : Sys) (c : Nat) : Sys :=
  match y.view.chanBinding c with
  | none => y
  | some (x, _) =>
    let held := y.delayHeld c
    if 2 ≤ held.length || y.delayHome c != c || y.view.chanMode c != 1 || !y.view.chanOn c then y
    else
      let past := newest ((y.channel c).due ++ held.map (·.param))
      match y.frames.find? fun f => f.ctx == x && y.view.admits c f.num && past.all fun p => decide (p < f.num) with
      | none => y
      | some f =>
        let e : Launch := { time := f.latch + y.view.delayOf c, kind := 3, target := c, policy := 1, flags := 0, window := 0,
                            param := f.num, period := 0, left := 0, id := 0, session := 0, host := false }
        { y with launches := queueLaunch e y.launches }

/-- A latch point of context x places the entries of its channels. -/
def Sys.fillDelays (y : Sys) (x : Nat) : Sys :=
  (List.range 24).foldl (fun y c => if y.view.chanMode c = 1 ∧ (y.view.chanBinding c).any (fun b => b.1 == x) then y.fillDelay c else y) y

/-! ## LAUNCH_DUE (R222, R223, R461) -/

/-- A frame is due at channel c, and at every member of its lock group in DELAY mode. -/
def Sys.delayDue (y : Sys) (c F : Nat) : Sys :=
  let y := ((y.lockMembers c ++ [c]).eraseDups.filter fun d => y.view.chanMode d == 1).foldl (fun y d =>
    y.setChannel d { y.channel d with due := (y.channel d).due ++ [F] }) y
  y.fillDelay c

/-- What an entry does, at T96 `t`. -/
def Sys.launch (y : Sys) (e : Launch) (t : Nat) : Sys :=
  match e.kind with
  | 1 =>
    -- overlapping pulses combine as their logical OR: one that begins in another holds the ball active to the later end (R222)
    let stop := max (y.tio e.target).pulse (t + e.param * 2 ^ 32)
    let y := y.setTio e.target { y.tio e.target with pulse := stop }
    let ns := (stop - t + 2 ^ 32 - 1) / 2 ^ 32
    if y.tioDriven e.target ∧ y.tioFn e.target = 6 then y.send (.tio e.target t ns (y.tioPin e.target true)) else y
  | 2 =>
    let y := y.setTio e.target { y.tio e.target with level := e.param == 1 }
    if y.tioDriven e.target ∧ y.tioFn e.target = 6 then y.send (.tio e.target t 0 (y.tioPin e.target (e.param == 1))) else y
  | 3 =>
    if y.view.chanMode e.target ≠ 2 then y
    else
      let F := if e.param = 0xFFFFFFFF then newest (y.ready e.target) else some e.param
      y.setChannel e.target { y.channel e.target with host := F }
  | _ =>
    ((y.pathsUp e.target).filter fun p => e.param.testBit p.1).foldl
      (fun y p => y.send (.rtp 3 e.target p.1 0 (y.rdB (ent (0x4190 + e.target) 0x0B)))) y

/-- Key of the rate limit: one target. -/
def Launch.key (e : Launch) : Nat := (match e.kind with | 1 => 0 | 2 => 0 | 3 => 1 | _ => 2) * 256 + e.target

/-- A discard: counted, and event 0x060B. -/
def Sys.launchDiscard (y : Sys) (e : Launch) (late reason : Nat) : Sys :=
  (y.inc (ent 0x2310 6)).raiseLimited e.key 0x060B 255
    (ev [(0, 2, e.id), (2, 1, e.kind), (3, 1, e.target), (4, 4, min late 0xFFFFFFFF), (8, 1, reason)])

/-- LAUNCH_DUE: the entry at the head of the queue. -/
def execLaunchDue (s : State) : Host.Outcome State Fault Refusal :=
  onSys s fun _ y =>
    match y.launches with
    | [] => y
    | e :: r =>
      if !e.host then Sys.delayDue { y with launches := r } e.target e.param
      else
        let late := (y.t96 - e.time) / 2 ^ 32
        let now := y.t96
        let isLate := decide (e.time < now)
        let y := y.setLaunches (if e.left = 0 then r else queueLaunch { e with time := e.time + e.period * 2 ^ 32, left := e.left - 1 } r)
        if isLate && (e.policy == 0 || (e.policy == 2 && decide (e.time + e.window * 2 ^ 32 < now))) then y.launchDiscard e late 0
        else
          let y := (y.launch e (max e.time y.t96)).inc64 (ent 0x2310 4) 1
          let y := if isLate then y.inc (ent 0x2310 5) else y
          if isLate || e.flags.testBit 0 then
            y.raiseLimited e.key 0x060A 255 (ev [(0, 2, e.id), (2, 1, e.kind), (3, 1, e.target), (4, 4, min late 0xFFFFFFFF)])
          else y

end Sys2Proof.Machine
end

