-- ==== Sys2Proof/Machine/Position.lean ====
section
/-!
DEFINITION. Sys2Proof/Machine/Position.lean: position and speed feedback, channels PF0 to PF23 (R616 to R633). A command reports an
accepted transition, a sample or an edge; its instant is the present T96.
-/

namespace Sys2Proof.Machine

def pos0 : PosCh :=
  { a := false, b := false, lastEdge := none, lastGap := none, untested := false, cycle := 0, phi := none, base := 0, rebase := false,
    bad := 0, good := 0, hist := [], armed := false, travel := 0, told := false, probes := [] }
def Sys.pos (y : Sys) (n : Nat) : PosCh := tget (fun _ => pos0) y.positions n
def Sys.setPos (y : Sys) (n : Nat) (v : PosCh) : Sys := { y with positions := tset (fun _ => pos0) y.positions n v }

/-- Configuration and status entries of PFn. -/
abbrev pfCfg (n i : Nat) : Nat := ent (0x2600 + n) i
abbrev pfStat (n i : Nat) : Nat := ent (0x2620 + n) i

/-- Flags of 0x2620 + n:03. -/
inductive PosFlag where
  | direction | stopped | phaseError | drift | refValid | amplitude | refMissing
  deriving DecidableEq, Repr
def PosFlag.bit : PosFlag → Nat
  | .direction => 0 | .stopped => 1 | .phaseError => 2 | .drift => 3 | .refValid => 4 | .amplitude => 5 | .refMissing => 6
def Sys.posFlag (y : Sys) (n : Nat) (f : PosFlag) (v : Bool) : Sys := y.wrBit (pfStat n 3) f.bit v
def Sys.posHas (y : Sys) (n : Nat) (f : PosFlag) : Bool := y.rdBit (pfStat n 3) f.bit

/-- A strap fault holds the channels' inputs in their reset state (R83). -/
def Sys.posHeld (y : Sys) : Bool := y.boot.strapFault

/-- Running: 0x2620 + n:01 is not OFF, and the mode is the given one. -/
def Sys.posMode (y : Sys) (n m : Nat) : Bool := y.rd (pfCfg n 1) == m

/-! ## Counting (R620, R626, R630) -/

/-- A reference that has gone unchecked for 2 × N counts of travel is missing (R626). -/
def Sys.posTravel (y : Sys) (n : Nat) : Sys :=
  let u := y.pos n
  let N := y.rd (pfCfg n 5)
  if y.posHas n .refValid && N != 0 && decide (2 * N < u.travel) && !u.told then
    ((y.setPos n { u with told := true }).posFlag n .refMissing true).raise 0x1203 n (ev [(0, 1, n), (4, 4, y.rd (pfStat n 2))])
  else y

/-- Counts older than the speed interval, but for the latest of them, are of no more use. -/
def trimHist (before : Nat) : List (Nat × Nat) → List (Nat × Nat)
  | [] => []
  | h :: r => if h.1 ≤ before then h :: r.take 1 else h :: trimHist before r

/-- The counter moves by k: position, direction, the history of counts. -/
def Sys.posCount (y : Sys) (n : Nat) (k : Int) : Sys :=
  if k = 0 then y
  else
    let p := ofI 32 ((y.rd (pfStat n 2) : Int) + k)
    let down := decide (k < 0)
    let y := if y.posHas n .direction == down then y else Sys.irqPos (y.posFlag n .direction down) n 4
    let y := (y.wr (pfStat n 2) p).posFlag n .stopped false
    let u := y.pos n
    let y := y.setPos n { u with hist := trimHist (y.up - y.rd (pfCfg n 0x1C) * 1000) ((y.up, p) :: u.hist), travel := u.travel + k.natAbs }
    y.posTravel n

/-- Invert direction reverses the sign of every count (R618). -/
def Sys.posSigned (y : Sys) (n : Nat) (k : Int) : Int := if y.rd (pfCfg n 4) = 1 then -k else k

/-- PHASE_ERROR (R619). -/
def Sys.posPhaseError (y : Sys) (n : Nat) : Sys :=
  let y := ((y.posFlag n .phaseError true).inc (pfStat n 9)).irqPos n 2
  y.raiseLimited n 0x1201 n (ev [(0, 1, n), (4, 4, y.rd (pfStat n 2))])

/-! ## Index and drift (R625, R626) -/

/-- DRIFT_CHECK. -/
def Sys.driftCheck (y : Sys) (n latch : Nat) : Sys :=
  let N : Int := (y.rd (pfCfg n 5) : Nat)
  if N = 0 ∨ !y.posHas n .refValid then y
  else
    let d := toI 32 (ofI 32 ((latch : Int) - y.rd (pfStat n 7)))
    let drift := d - (d + N / 2) / N * N
    let y := y.wrI (pfStat n 8) drift
    if y.rd (pfCfg n 6) < drift.natAbs then
      Sys.irqPos ((y.posFlag n .drift true).raise 0x1202 n (ev [(0, 1, n), (4, 4, latch), (8, 4, ofI 32 drift)])) n 3
    else y

/-- An index latches the position and its T96, becomes the reference where that is armed, and is checked for drift. -/
def Sys.posIndex (y : Sys) (n : Nat) : Sys :=
  let p := y.rd (pfStat n 2)
  let y := (((y.wr (pfStat n 5) p).wr (pfStat n 6) y.t96).inc (pfStat n 0x0B)).irqPos n 0
  let u := y.pos n
  let y := y.setPos n { u with armed := false, travel := 0, told := false }
  if u.armed then ((y.wr (pfStat n 7) p).posFlag n .refValid true).raise 0x1206 n (ev [(0, 1, n), (4, 4, p)])
  else y.driftCheck n p

/-- INDEX_LATCH: an accepted edge of PF_Z; in TOOTH mode with a reference edge PF_Z is no index. -/
def execIndexLatch (channel : Fin 24) (rising : Bool) (s : State) : Host.Outcome State Fault Refusal :=
  onSys s fun _ y =>
    let n := channel.val
    let u := y.pos n
    if y.posHeld ∨ y.posMode n 0 ∨ y.rd (pfCfg n 7) ≠ 1 ∨ (y.posMode n 2 ∧ y.rd (pfCfg n 0x11) ≠ 0) ∨ rising ≠ (y.rd (pfCfg n 8) == 0) ∨
       (y.rd (pfCfg n 0x0A) = 1 ∧ !(u.a && u.b)) then y
    else y.posIndex n

/-! ## Quadrature (R618, R619) -/

/-- Place of the levels in the sequence 00, 10, 11, 01. -/
def quadPlace (a b : Bool) : Nat := match a, b with | false, false => 0 | true, false => 1 | true, true => 2 | false, true => 3

/-- QUADRATURE_COUNT: the filtered levels that A and B take. -/
def execQuadratureCount (channel : Fin 24) (a b : Bool) (s : State) : Host.Outcome State Fault Refusal :=
  onSys s fun _ y =>
    let n := channel.val
    if y.posHeld || !y.posMode n 1 then y
    else
      let u := y.pos n
      let step := (quadPlace a b + 4 - quadPlace u.a u.b) % 4
      let y := y.setPos n { u with a := a, b := b }
      let counts := match y.rd (pfCfg n 3) with | 2 => true | 1 => a != u.a | _ => a && !u.a
      match step with
      | 0 => y
      | 2 => y.posPhaseError n
      | 1 => if counts then y.posCount n (y.posSigned n 1) else y
      | _ => if counts then y.posCount n (y.posSigned n (-1)) else y

/-! ## Toothed wheels (R621) -/

/-- TOOTH_EDGE: an accepted edge of A of the active polarity, with the level of B. -/
def execToothEdge (channel : Fin 24) (b : Bool) (s : State) : Host.Outcome State Fault Refusal :=
  onSys s fun _ y =>
    let n := channel.val
    if y.posHeld || !y.posMode n 2 then y
    else
      let u := y.pos n
      let dir : Int := match y.rd (pfCfg n 0x14) with | 0 => 1 | 1 => -1 | _ => if b then -1 else 1
      let gap := u.lastEdge.map fun t => y.up - t
      let G := y.rd (pfCfg n 0x13)
      let kind := y.rd (pfCfg n 0x11)
      let test (f : Nat → Nat → Bool) : Bool := !u.untested && (match gap, u.lastGap with | some i, some j => f i j | _, _ => false)
      let y := y.setPos n { u with a := true, b := b, lastEdge := some y.up, lastGap := gap, untested := false }
      if kind = 1 ∧ test (fun i j => decide (G * j ≤ 16 * i)) then
        (y.posCount n (y.posSigned n (dir * (y.rd (pfCfg n 0x12) + 1 : Nat)))).posIndex n
      else if kind = 2 ∧ test (fun i j => decide (G * i ≤ 16 * j)) then
        (y.setPos n { y.pos n with untested := true }).posIndex n
      else y.posCount n (y.posSigned n dir)

/-! ## Sine and cosine (R622, R623) -/

/-- π. -/
def piR : Rat := mkRat 3141592653589793238462643383279502884197 1000000000000000000000000000000000000000

/-- atan(2^-i) in 2^-48 cycles. -/
def atanStep (i : Nat) : Int :=
  if i = 0 then 2 ^ 45
  else
    let x : Rat := mkRat 1 (2 ^ i)
    let t := (List.range 26).foldl (fun (a : Rat) k => a + (if k % 2 = 0 then 1 else -1) * x ^ (2 * k + 1) / ((2 * k + 1 : Nat) : Rat)) 0
    (t / (2 * piR) * ((2 ^ 48 : Nat) : Rat)).floor

/-- Rotation of (x, y), x ≥ 0, onto the x axis: the angle in 2^-48 cycles. -/
def cordic : Nat → Nat → Int → Int → Int → Int
  | 0, _, _, _, z => z
  | n + 1, i, x, y, z =>
    if y < 0 then cordic n (i + 1) (x - y / 2 ^ i) (y + x / 2 ^ i) (z - atanStep i)
    else cordic n (i + 1) (x + y / 2 ^ i) (y - x / 2 ^ i) (z + atanStep i)

/-- atan2 as a part of a cycle in 2^-32, 0 at the positive cosine axis. -/
def atan2C (s c : Rat) : Nat :=
  let big (r : Rat) : Int := (r * ((2 ^ 60 : Nat) : Rat)).floor
  let z := if c < 0 then cordic 46 0 (-(big c)) (-(big s)) 0 + 2 ^ 47 else cordic 46 0 (big c) (big s) 0
  (z / 2 ^ 16 % 2 ^ 32).toNat

/-- The corrected sample (R622). -/
def Sys.corrected (y : Sys) (n : Nat) (sin cos : Int) : Rat × Rat :=
  ((sin - y.rdI (pfCfg n 0x16) : Int), ((cos - y.rdI (pfCfg n 0x17) : Int) : Rat) * ratOf (BitVec.ofNat 32 (y.rd (pfCfg n 0x18))))

/-- The angle of a sample, with an error that the manual bounds by 2^-10 of a cycle. -/
def angleOf (s c : Rat) (sin cos : Int) : Nat :=
  let e := Config.anglePick (ofI 16 sin) (ofI 16 cos) % (2 ^ 23 + 1)
  (atan2C s c + e + 2 ^ 32 - 2 ^ 22) % 2 ^ 32

/-- A sample outside the amplitude window. -/
def Sys.amplitudeBad (y : Sys) (n : Nat) (r : Nat) : Sys :=
  let u := y.pos n
  let y := (y.inc (pfStat n 0x0A)).posFlag n .amplitude true
  let y := y.irqPos n 6
  let y := y.setPos n { u with bad := u.bad + 1, good := 0 }
  if u.bad + 1 = 16 ∧ y.rd (pfStat n 1) = 1 then
    ((y.wr (pfStat n 1) 2).posFlag n .refValid false).raise 0x1204 n (ev [(0, 1, n), (2, 2, r), (4, 4, y.rd (pfStat n 2))])
  else y

/-- A sample inside it: the position follows the angle, or is held in AMPLITUDE_FAULT and across a step of a quarter cycle. -/
def Sys.sincosGood (y : Sys) (n phi : Nat) : Sys :=
  let u := y.pos n
  let y := y.setPos n { u with bad := 0, good := min 16 (u.good + 1) }
  let back := decide (y.rd (pfStat n 1) = 2) && decide (16 ≤ u.good + 1)
  let y := if back then y.wr (pfStat n 1) 1 else y
  if y.rd (pfStat n 1) = 2 then y
  else
    let u := if back then { y.pos n with phi := none, rebase := true } else y.pos n
    let I := y.rd (pfCfg n 0x15)
    let code (cycle : Int) : Int := cycle * 2 ^ I + (phi * 2 ^ I / 2 ^ 32 : Nat)
    match u.phi with
    | none =>
      let base := if u.rebase then ofI 32 ((y.rd (pfStat n 2) : Int) - code u.cycle) else u.base
      let y := y.setPos n { u with phi := some phi, base := base, rebase := false }
      y.posCount n (toI 32 (ofI 32 ((base : Int) + code u.cycle - y.rd (pfStat n 2))))
    | some prev =>
      let d := (phi + 2 ^ 32 - prev) % 2 ^ 32
      let held := decide (2 ^ 30 ≤ d) && decide (d ≤ 3 * 2 ^ 30)
      let cycle := if 3 * 2 ^ 30 ≤ prev ∧ phi < 2 ^ 30 then u.cycle + 1 else if prev < 2 ^ 30 ∧ 3 * 2 ^ 30 ≤ phi then u.cycle - 1 else u.cycle
      if held then (y.setPos n { u with phi := some phi }).posPhaseError n
      else
        let y := y.setPos n { u with phi := some phi, cycle := cycle }
        y.posCount n (toI 32 (ofI 32 ((u.base : Int) + code cycle - y.rd (pfStat n 2))))

/-- SINCOS_SAMPLE: the converter's signed codes. -/
def execSincosSample (channel : Fin 24) (sin cos : BitVec 12) (s : State) : Host.Outcome State Fault Refusal :=
  onSys s fun _ y =>
    let n := channel.val
    if y.posHeld || !y.posMode n 3 then y
    else
      let v := y.corrected n sin.toInt cos.toInt
      let rr := v.1 * v.1 + v.2 * v.2
      let r := iroot2 rr.floor.toNat
      let y := y.wr (pfStat n 0x0F) r
      let lo : Rat := (y.rd (pfCfg n 0x19) : Nat)
      let hi : Rat := (y.rd (pfCfg n 0x1A) : Nat)
      if rr < lo * lo ∨ hi * hi < rr then y.amplitudeBad n r
      else y.sincosGood n (angleOf v.1 v.2 sin.toInt cos.toInt)
where
  /-- Integer square root. -/
  iroot2 (n : Nat) : Nat := (List.range 16).foldl (fun r i => let b := 2 ^ (15 - i); if (r + b) * (r + b) ≤ n then r + b else r) 0

/-! ## Reference arm, Correct, Shift (R626, R627) -/

/-- Reference arm: 1. -/
def Sys.posArm (y : Sys) (n v : Nat) : Status × Sys :=
  if v ≠ 1 then (.range, y) else (.ok, y.setPos n { y.pos n with armed := true })

def execReferenceArm (channel : Fin 24) (s : State) : Host.Outcome State Fault Refusal := onSys s fun _ y => (y.posArm channel.val 1).2

/-- The counter alone moves. -/
def Sys.posCorrect (y : Sys) (n v : Nat) : Sys :=
  (y.wr (pfStat n 2) ((y.rd (pfStat n 2) + v) % 2 ^ 32)).setPos n { y.pos n with base := ((y.pos n).base + v) % 2 ^ 32 }

/-- The counter and the reference move. -/
def Sys.posShift (y : Sys) (n v : Nat) : Sys := (y.posCorrect n v).wr (pfStat n 7) ((y.rd (pfStat n 7) + v) % 2 ^ 32)

def execPositionCorrect (channel : Fin 24) (value : BitVec 32) (s : State) : Host.Outcome State Fault Refusal :=
  onSys s fun _ y => y.posCorrect channel.val value.toNat
def execPositionShift (channel : Fin 24) (value : BitVec 32) (s : State) : Host.Outcome State Fault Refusal :=
  onSys s fun _ y => y.posShift channel.val value.toNat

/-- Clear flags: 1 clears PHASE_ERROR, DRIFT, AMPLITUDE and REF_MISSING. -/
def Sys.posClear (y : Sys) (n v : Nat) : Status × Sys :=
  if v ≠ 1 then (.range, y)
  else (.ok, (((y.posFlag n .phaseError false).posFlag n .drift false).posFlag n .amplitude false).posFlag n .refMissing false)

def execPositionClearFlags (channel : Fin 24) (s : State) : Host.Outcome State Fault Refusal :=
  onSys s fun _ y => (y.posClear channel.val 1).2

/-! ## Latches (R628, R629) -/

/-- 0x2620 + n:0C. -/
def Sys.showProbe (y : Sys) (n : Nat) : Sys := y.wrB (pfStat n 0x0C) ((y.pos n).probes.headD [])

/-- PROBE_LATCH: an edge at the probe source. -/
def execProbeLatch (channel : Fin 24) (rising : Bool) (s : State) : Host.Outcome State Fault Refusal :=
  onSys s fun _ y =>
    let n := channel.val
    let edge := y.rd (pfCfg n 0x10)
    let src := y.rd (pfCfg n 0x0E)
    if y.posHeld ∨ y.posMode n 0 ∨ src = 0 ∨ (src = 1 ∧ y.rd (pfCfg n 7) ≠ 2) ∨ (edge = 0 ∧ !rising) ∨ (edge = 1 ∧ rising) then y
    else
      let u := y.pos n
      let r := le 12 y.t96 ++ le 4 (y.rd (pfStat n 2)) ++ le 4 (if rising then 0 else 1)
      if 16 ≤ u.probes.length then (y.inc (pfStat n 0x0D)).raiseLimited n 0x1205 n (ev [(0, 1, n)])
      else Sys.irqPos ((y.setPos n { u with probes := u.probes ++ [r] }).showProbe n) n 1

/-- A READ of 0x2620 + n:0C returns the oldest probe and removes it. -/
def Sys.probeRead (y : Sys) (n : Nat) : Bytes × Sys :=
  let u := y.pos n
  (u.probes.headD [], (y.setPos n { u with probes := u.probes.drop 1 }).showProbe n)

def execProbeFifoRead (channel : Fin 24) (s : State) : Host.Outcome State Fault Refusal :=
  onSys s fun _ y => (y.probeRead channel.val).2

/-- FRAME_POSITION_LATCH: channels whose frame-latch context is x latch at its latch point. -/
def Sys.posFrame (y : Sys) (x num latch : Nat) : Sys :=
  (List.range 24).foldl (fun y n =>
    if y.rd (pfCfg n 0x1B) = x ∧ !y.posMode n 0 then y.wrB (pfStat n 0x0E) (le 4 num ++ le 4 (y.rd (pfStat n 2)) ++ le 12 latch) else y) y

/-! ## Speed (R630) -/

/-- Counts per second between two counts as F32. -/
def speedOf (new old : Nat × Nat) : Nat :=
  if new.1 ≤ old.1 then 0
  else (roundRat (mkRat (toI 32 (ofI 32 ((new.2 : Int) - old.2)) * 1000000000) (new.1 - old.1))).toNat

/-- SPEED_UPDATE: from the latest count and the latest one at or before the interval; where those are one and the same, from that count
and the one before it. -/
def execSpeedUpdate (channel : Fin 24) (s : State) : Host.Outcome State Fault Refusal :=
  onSys s fun _ y =>
    let n := channel.val
    if y.posMode n 0 then y
    else
      match (y.pos n).hist with
      | [] => y.wr (pfStat n 4) 0
      | te :: r =>
        if y.posHas n .stopped then y.wr (pfStat n 4) 0
        else
          let before := te.1 - y.rd (pfCfg n 0x1C) * 1000
          let t0 := ((r.find? fun h => decide (h.1 ≤ before)) <|> r.getLast?).getD te
          y.wr (pfStat n 4) (speedOf te t0)

/-- STOP_TIMEOUT. -/
def execStopTimeout (channel : Fin 24) (s : State) : Host.Outcome State Fault Refusal :=
  onSys s fun _ y =>
    let n := channel.val
    if y.posMode n 0 ∨ y.posHas n .stopped then y else Sys.irqPos ((y.wr (pfStat n 4) 0).posFlag n .stopped true) n 5

/-- A write of Mode or Filter length restarts the filters, keeps the counter and clears REF_VALID (R632). -/
def Sys.posRestart (y : Sys) (n : Nat) : Sys :=
  let u := y.pos n
  let y := y.setPos n { pos0 with base := y.rd (pfStat n 2), probes := u.probes, a := u.a, b := u.b }
  (y.posFlag n .refValid false).wr (pfStat n 1) (if y.posMode n 0 then 0 else 1)

end Sys2Proof.Machine
end

