-- ==== Sys2Proof/Machine/Provenance.lean ====
section
/-!
DEFINITION. Sys2Proof/Machine/Provenance.lean: the hash tree, manifests and their chains, and colour records (R181 to R187, R402).
-/

namespace Sys2Proof.Machine

/-! ## The device key (R166) -/

/-- A signature by the active device key; a module without one puts 64 octets there that the manual does not state (log entry 43). -/
def Sys.sign (y : Sys) (m : Bytes) : Bytes := match y.sec.key with | some k => edSign k m | none => slice (Config.noSignature m) 0 64

/-- Key serial of the active key. -/
def Sys.keySerial (y : Sys) : Nat := y.rd (ent 0x1000 5)

/-- Life-cycle states in which the module develops frames and issues manifests (R169). -/
def Otp.produces (o : Otp) : Bool := 1 ≤ o.life && o.life ≤ 4

/-- Array position and twin index as a byte, from the straps (R82). -/
def Gen.position (g : Gen) : Nat :=
  let s := g.rd (ent 0x2010 1)
  let pos := s / 4 % 4
  let twin := s.testBit 4
  let array := g.role == 3
  (if array then (if twin then pos % 2 else pos) else 0) + (if twin && pos.testBit 1 then 4 else 0)

/-! ## The hash tree (R182, R183) -/

def chain0 : Chain := { started := false, sequence := 0, previous := List.replicate 32 0, cause := 0 }
def Sys.chain (y : Sys) (x : Nat) : Chain := tget (fun _ => chain0) y.sec.chains x
def Sys.setChain (y : Sys) (x : Nat) (c : Chain) : Sys := { y with sec := { y.sec with chains := tset (fun _ => chain0) y.sec.chains x c } }

/-- One level of the tree: pairs are hashed, an unpaired node passes up. -/
def treeLevel : List Bytes → List Bytes
  | a :: b :: r => sha256 (1 :: (a ++ b)) :: treeLevel r
  | l => l

/-- The root over the leaves. DESIGN CHOICE (log entry 43): a sequence without an octet has no leaf, and its root is 32 octets of 0. -/
def treeRoot : Nat → List Bytes → Bytes
  | 0, l => l.headD (List.replicate 32 0)
  | n + 1, l => if l.length ≤ 1 then l.headD (List.replicate 32 0) else treeRoot n (treeLevel l)

/-- Leaves of a sequence. -/
def treeLeaves (b : Bytes) : List Bytes :=
  (List.range ((b.length + 65535) / 65536)).map fun i => sha256 (0 :: ((b.drop (65536 * i)).take 65536))

/-- Lines of the frame in order, as the ingest buffer holds them. -/
def Frame.inOrder (f : Frame) : List Line := (List.range (f.gen.height f.ctx)).filterMap fun l => f.lines.find? (·.num == l)

/-- The hashed sequence of a frame (R182). -/
def Frame.hashed (f : Frame) : Bytes :=
  if f.ctx < 8 ∧ f.source = [] then f.inOrder.flatMap (·.data) else f.source

/-! ## Manifests (R184 to R187) -/

/-- Look state of a frame: 0 FULL, 1 REDUCED, 2 SEAMED, 3 ABANDONED. -/
def Frame.lookState (f : Frame) : Nat := if f.abandoned then 3 else if f.seam.isSome then 2 else if f.reduced then 1 else 0

/-- Look-program hash of a frame (R180). -/
def Gen.lookHash (g : Gen) (x : Nat) : Bytes :=
  let i := g.image (g.lookSlot x)
  if i.isEmpty then List.replicate 32 0 else sha256 (i.take (i.length - 68))

/-- The stream entries of a manifest: at most eight, of the lowest kind and instance (R185). -/
def Frame.streamEntries (f : Frame) : List (Nat × Nat × Nat × Bytes) :=
  let ord (l : List (Nat × Nat × Nat × Bytes)) (k : Nat) : List (Nat × Nat × Nat × Bytes) :=
    (List.range 16).flatMap fun i => l.filter fun e => e.1 == k && e.2.1 == i
  (ord f.coded 1 ++ ord f.coded 2).take 8

/-- A manifest without its signature. -/
def Sys.manifestBody (o : Otp) (y : Sys) (f : Frame) (c : Chain) : Bytes :=
  let g := f.gen
  let es := f.streamEntries
  let seq := f.hashed
  let lines := f.inOrder
  let leaves := treeLeaves seq
  let flags := bitsOf ((if f.chainStart then [0] else []) ++ (if y.shadowAt f.latch then [1] else []) ++ (if g.role = 3 then [2] else []) ++
    (if o.life < 4 then [3] else []) ++ (if f.marks ≠ 0 then [4] else []))
  let n := es.length
  pack 40 [(0, 4, 0x4D585150), (4, 1, 1), (5, 1, flags), (6, 2, 296 + 40 * n), (8, 12, f.latch), (20, 1, f.ctx), (21, 1, f.lookState),
    (22, 2, if f.lookState = 2 then f.seam.getD 0 else 0), (24, 4, f.num), (28, 8, if f.chainStart then 0 else c.sequence),
    (36, 2, (lines.head?.map (·.num)).getD 0), (38, 2, lines.length)] ++
  treeRoot 40 leaves ++ le 4 leaves.length ++ le 4 seq.length ++ slice f.exposure 0 32 ++ g.lookHash f.ctx ++ le 4 (g.calWord f.ctx) ++
  le 1 (y.rd (ent 0x2300 2)) ++ le 1 y.keySerial ++ le 1 n ++ le 1 g.position ++ le 4 f.substituted ++ le 4 f.crcErrors ++
  (if f.chainStart then List.replicate 32 0 else slice c.previous 0 32) ++ slice f.upHash 0 32 ++ le 8 o.dieId ++
  es.flatMap fun e => le 1 e.1 ++ le 1 e.2.1 ++ le 2 0 ++ le 4 e.2.2.1 ++ slice e.2.2.2 0 32

/-- A frame whose codings have not all ended: the digest of each belongs into its manifest (R185; log entry 43). -/
def Sys.codingWaits (y : Sys) (f : Frame) : Bool :=
  let of_ (e : Nat) (p : EncPic) : Bool := p.frame == f.num && p.gen.es e 3 == f.ctx && p.gen.es e 26 % 4 != 0
  ((f.gen.rawChannels f.ctx).any fun n => y.rawListed f n) && !f.rawEnded ||
    y.encs.any fun u => u.2.queue.any (of_ u.1) || u.2.run.any fun r => of_ u.1 r.pic

/-- No seam or abandonment can still change the frame's look state (R65; log entry 43). -/
def Frame.lookSettled (f : Frame) : Bool := f.abandoned || f.stripes.all fun s => s.done || s.mode == .dropped || s.mode == .statsOnly

/-- The frame whose manifest is next: manifests of a context go in frame-number order, and one that waits for the head's manifest, for its codings
or for the end of its stripes holds the later ones back (R65, R185, R187, R722; log entry 43). -/
def Sys.manifestDue (y : Sys) (x : Nat) : Option Frame :=
  match y.frames.find? fun f => f.ctx == x && !f.manifestIssued with
  | some f => if f.complete && f.lookSettled && !f.upWait && !y.codingWaits f then some f else none
  | none => none

/-- Manifests and colour records of a context that feeds a SEND stream cross the Felley link (R722). -/
def Sys.feedsFelley (y : Sys) (x : Nat) : Bool :=
  (List.range 64).any fun s => y.felleyCfg s 0 == 1 &&
    (match y.felleyCfg s 1 with
     | 1 => y.felleyCfg s 2 == x
     | 2 => y.rd (ent (0x4800 + y.felleyCfg s 2) 2) == x
     | 3 => y.felleyCfg s 2 == x
     | 4 => y.rd (ent (0x4400 + y.felleyCfg s 2) 3) == x
     | _ => false)

/-- In the camera-head role a provenance record goes over the Felley link. -/
def Sys.provFelley (y : Sys) (x : Nat) (b : Bytes) : Sys :=
  if y.view.role = 1 ∧ y.feedsFelley x ∧ !y.isShadow then y.control 4 .manifest b else y

/-- MANIFEST_ISSUE (R181 to R187): the context's next manifest. `delay` is the time since the end of the frame in 0.1 ms. -/
def execManifestIssue (ctx : Fin 16) (delay : BitVec 16) (s : State) : Host.Outcome State Fault Refusal :=
  onSys s fun o y =>
    let x := ctx.val
    match y.manifestDue x with
    | none => y
    | some f =>
      if !o.produces then y
      else
        let c := y.chain x
        -- the first after a re-certification starts a chain, though its frame had latched (R186)
        let f : Frame := { f with chainStart := f.chainStart || !c.started }
        let body := y.manifestBody o f c
        let m := body ++ y.sign body
        let y := y.setChain x { c with started := true, sequence := if f.chainStart then 1 else c.sequence + 1, previous := sha256 m }
        let y := y.onFrame x f.num fun f => { f with manifestIssued := true }
        let y := (y.wrB (ent 0x1402 (x + 1)) m).inc64 (ent 0x1400 1) 1
        let y := if f.chainStart then
            (y.inc (ent 0x1400 2)).raise 0x050A x (ev [(0, 1, x), (1, 1, c.cause), (4, 4, f.num)]) else y
        let omitted := decide (8 < f.coded.length)
        let late := decide (20 < delay.toNat)
        -- a late manifest counts, and so does a truncated one whose event is a repeat (R195)
        let y := if late || (omitted && y.limitedNow 0x050B x) then y.inc (ent 0x1400 3) else y
        let y := if late || omitted then
            y.raiseLimited x 0x050B x (ev [(0, 1, x), (1, 2, delay.toNat), (4, 1, if omitted then 1 else 0), (8, 4, f.num)]) else y
        Sys.closeDone (((y.recordAside x .manifest 0x30000 f.num f.latch m).ringAside x f.num true m).provFelley x m) x

/-! ## Colour records (R402) -/

/-- The colour state of a generation: what a record binds. -/
def Gen.colourState (g : Gen) (y : Sys) (x : Nat) : Bytes :=
  let bindings := (List.range 16).flatMap fun n => slice (g.rdB (ent (0x3820 + x) (n + 1))) 0 16
  let slots := g.rdB (ent (0x3C10 + x) 6)
  let tables := (List.range 8).flatMap fun i =>
    let e := rdLe slots (2 * i) 2
    if e = 0xFFFF then List.replicate 32 0 else slice (y.rdB (ent (0x3C40 + e) 6)) 0 32
  g.lookHash x ++ sha256 g.param ++ sha256 bindings ++ sha256 tables ++
    (if (g.calSlot x).isSome then g.cal.hash else List.replicate 32 0) ++ le 4 (g.calWord x) ++ le 1 (g.rd (ent (0x3C10 + x) 2))

/-- A colour record without its signature. -/
def Sys.colourBody (y : Sys) (f : Frame) : Bytes :=
  pack 24 [(0, 4, 0x43585150), (4, 1, 1), (5, 1, f.ctx), (6, 2, 256), (8, 4, f.num), (12, 12, f.latch)] ++ f.gen.colourState y f.ctx ++
    le 1 y.keySerial ++ le 1 (bitsOf ((if f.chainStart then [0] else []) ++ (if y.shadowAt f.latch then [1] else []))) ++ le 1 0

/-- COLOUR_RECORD_ISSUE (R402): the context's next colour record. -/
def execColourRecordIssue (ctx : Fin 16) (s : State) : Host.Outcome State Fault Refusal :=
  onSys s fun o y =>
    let x := ctx.val
    match y.frames.find? fun f => f.ctx == x && !f.recordIssued with
    | none => y
    | some f =>
      if !o.produces then y
      else
        let body := y.colourBody f
        let r := body ++ y.sign body
        let y := y.onFrame x f.num fun f => { f with recordIssued := true }
        let y := (y.wrB (ent (0x3C10 + x) 8) r).inc (ent (0x3C10 + x) 9)
        Sys.closeDone (((y.recordAside x .colour 0x40000 f.num f.latch r).ringAside x f.num false r).provFelley x r) x

end Sys2Proof.Machine
end

