-- ==== Sys2Proof/Machine/Latch.lean ====
section
/-!
DEFINITION. Sys2Proof/Machine/Latch.lean: where RWC entries become live (R129, R137, R138), the latch point of a context (R261, R265 to
R267, R278 to R280, R284, R290, R291, R316 to R319, R336, R402, R421, R542, R555), and the output frame boundary (R440, R441).
-/

namespace Sys2Proof.Machine

/-! ## Where an RWC entry becomes live (R129, R135) -/

/-- The context is latching frames: a sensor context that is not DISABLED, or an enabled playback context. -/
def Sys.latching (y : Sys) (x : Nat) : Bool := y.view.active x

/-- An entry of context x becomes live at its next latch point, and waits for it where the context latches no frame yet (R33, R129, R267). -/
def homeCtx (x : Nat) : Scope := if x < 16 then .context x else .immediate

/-- An entry of channel c becomes live at its next output frame boundary (R129). The grid of R440 has boundaries while the channel is off, too. -/
def homeChan (c : Nat) : Scope := if c < 24 then .output c else .immediate

/-- A sink goes with the channel it leaves, else with the channel it takes (R463); one that concerns no channel takes effect at its commit
(log entry 34). -/
def Sys.homeSink (y : Sys) (k v : Nat) : Scope :=
  match homeChan (y.rd (k / 256 * 256 + 1)) with
  | .immediate => if k % 256 = 1 then homeChan v else .immediate
  | h => h

/-- The context or channel an RWC entry belongs to, as a scope: by its index. `v` is the value written. -/
def ownerOf (y : Sys) (k v : Nat) : Scope :=
  let i := k / 256
  let at_ (b n : Nat) : Bool := decide (b ≤ i) && decide (i < b + n)
  if at_ 0x3000 8 then .context (i - 0x3000)
  else if at_ 0x3400 16 || at_ 0x3410 16 || at_ 0x3420 16 || at_ 0x3430 16 || at_ 0x3800 16 || at_ 0x3820 16 || at_ 0x3C10 16 ||
    at_ 0x3C20 16 || at_ 0x4000 16 || at_ 0x4960 16 then .context (i % 16)
  else if at_ 0x4400 16 then .context (if k % 256 = 3 ∧ y.rd (ent i 1) = 0 then v else y.shadow (ent i 3))
  else if at_ 0x4440 8 then .context (8 + (i - 0x4440))
  else if at_ 0x4980 8 then .context (8 + (i - 0x4980))
  else if at_ 0x4800 64 then
    if (y.rd (ent i 1) == 3 || y.rd (ent i 1) == 4) && k % 256 != 1 then .immediate
    else .context (if k % 256 = 2 ∧ y.rd (ent i 1) = 0 then v else y.shadow (ent i 2))
  else if at_ 0x4100 24 then .output (i - 0x4100)
  else if at_ 0x4120 24 then .output (i - 0x4120)
  else if at_ 0x4170 16 || at_ 0x4188 2 || at_ 0x4190 8 then
    match y.homeSink k v with | .output c => .output c | _ => .output v
  else .immediate

/-- Where a write of entry k waits; nowhere where no context and no channel owns it. -/
def Sys.homeOf (y : Sys) (k v : Nat) : Scope :=
  let i := k / 256
  if (0x4170 ≤ i && i < 0x4180) || (0x4188 ≤ i && i < 0x418A) || (0x4190 ≤ i && i < 0x4198) then y.homeSink k v
  else
    match ownerOf y k v with
    | .context x => homeCtx x
    | .output c => homeChan c
    | h => h

/-! ## Making values live (R137, R138) -/

/-- An entry takes a value, by its type. -/
def Sys.putEntry (y : Sys) (k : Nat) (v : Bytes) : Sys :=
  match keyDef k with
  | none => y
  | some r => match r.type with
    | .str => y.wrB k v
    | .blob _ => y.wrB k v
    | _ => y.wr k (unLe v)

def Sys.putUnit (y : Sys) (u : CommitUnit) : Sys := u.members.foldl (fun y m => y.putEntry m.1 m.2) y

/-- Code and instance of a scope (R135). -/
def Scope.code : Scope → Nat × Nat
  | .single => (0, 0) | .immediate => (0, 0) | .context x => (1, x) | .output c => (2, c) | .lockGroup l => (3, l)

/-- A group leaves the list because a later one took its place. -/
def Sys.groupReplaced (y : Sys) (u : CommitUnit) : Sys :=
  (y.inc (ent 0x1104 7)).raise 0x0402 255 (ev [(0, 1, u.scope.code.1), (1, 1, u.scope.code.2), (2, 1, u.gtag), (3, 1, u.path),
    (4, 2, u.session), (8, 4, u.target.getD 0)])

/-- The unit is a group that a later group of its own scope in the list replaces (R137, R138). -/
def replacedIn (l : List CommitUnit) (u : CommitUnit) : Bool :=
  u.gtag != 0 && (l.filter fun t => t.gtag != 0 && t.scope == u.scope).getLast? != some u

/-- The list for a latch point or boundary is applied in commit order; of several groups of one scope only the last stays. -/
def Sys.applyList (y : Sys) (l : List CommitUnit) : Sys :=
  l.foldl (fun y u => if replacedIn l u then y.groupReplaced u else y.putUnit u) y

/-- The value that the list gives entry k, where it writes it. -/
def valueIn (l : List CommitUnit) (k : Nat) : Option Bytes :=
  (((l.filter fun u => !replacedIn l u).flatMap fun u => u.members.filter fun m => m.1 == k).getLast?).map Prod.snd

/-! ## What follows a context's new values (R473, R496, R514, R555) -/

abbrev pbCfg (p i : Nat) : Nat := ent (0x4440 + p) i
abbrev pbStat (p i : Nat) : Nat := ent (0x4450 + p) i

/-- Playback context p takes no input: its first latch point, at which its staged entries become live, is still to come. -/
def Sys.idlePb (y : Sys) (p : Nat) : Bool := y.rd (pbCfg p 1) == 0

/-- Entry i of playback context p as its decoder works under it: before the latch point that its first picture brings, the values staged for it
(log entry 34). -/
def Sys.pb (y : Sys) (p i : Nat) : Nat := if y.idlePb p then y.shadow (pbCfg p i) else y.rd (pbCfg p i)
def Sys.feedCfg (y : Sys) (p i : Nat) : Nat := if y.idlePb p then y.shadow (ent (0x4980 + p) i) else y.rd (ent (0x4980 + p) i)
def Sys.pbB (y : Sys) (p i : Nat) : Bytes :=
  if y.idlePb p then (y.pendingFor (pbCfg p i)).getLast?.getD (y.rdB (pbCfg p i)) else y.rdB (pbCfg p i)

/-- Input begins to reach an idle playback context, or no longer does: its decoder starts anew. -/
def Sys.startInput (y : Sys) (p : Nat) : Sys :=
  let y : Sys := { y with decs := terase p y.decs }
  let y := y.setCtx (8 + p) { y.ctx (8 + p) with firstExpo := none, black := [], prevBlack := none }
  y.wr (pbStat p 1) (if y.pb p 1 = 0 then 0 else 1)

/-- Entry i of compression channel n as an expansion works under it: before the first latch point of its context, the values staged for it. -/
def Sys.expandCfg (y : Sys) (n i : Nat) : Nat :=
  let x := y.shadow (ent (0x4800 + n) 2)
  let idle := if isSensor x then (y.ctx x).last.isNone else y.idlePb (x - 8)
  if x < 16 && idle then y.shadow (ent (0x4800 + n) i) else y.rd (ent (0x4800 + n) i)

/-- The decoder waits for an IRAP or recovery-point picture (R496). -/
def Sys.decWait (y : Sys) (p : Nat) : Sys := if y.rd (pbStat p 1) = 2 then y.wr (pbStat p 1) 1 else y

/-- A playback context changed its input: its decoder starts anew; an input source, format or core makes it wait (R473, R496). -/
def Sys.inputChanged (y : Sys) (p s : Nat) : Sys :=
  if s = 1 then
    y.startInput p
  else if s = 2 ∨ s = 3 ∨ s = 9 then y.decWait p
  else y

/-- RUN lets a clip be opened anew. -/
def Sys.recordLive (y : Sys) (x : Nat) : Sys :=
  if y.rd (ent (0x4960 + x) 1) = 1 then
    let y := y.setRec x { y.recording x with tried := false }
    if 2 ≤ y.rd (ent (0x4960 + x) 3) ∧ y.rd (ent (0x4960 + x) 3) ≤ 4 then y.wr (ent (0x4960 + x) 3) 0 else y
  else y

/-- A new look slot or new look parameters end a forced reduced look, and the row of faulting frames (R368). -/
def Sys.lookChanged (y : Sys) (x : Nat) : Sys := Sys.wr (y.setCtx x { y.ctx x with faults := 0 }) (ent (0x3800 + x) 7) 0

/-- What a context's entry changes when its new value is live, at a commit or at a latch point; `was` is the state before. -/
def Sys.contextLive (was y : Sys) (k : Nat) : Sys :=
  let i := k / 256
  let s := k % 256
  if 0x4440 ≤ i ∧ i < 0x4448 then (if y.rd k ≠ was.rd k ∧ !was.idlePb (i - 0x4440) then y.inputChanged (i - 0x4440) s else y)
  else if 0x4800 ≤ i ∧ i < 0x4840 ∧ s = 1 ∧ y.rd k ≠ was.rd k then y.discardTail (i - 0x4800)
  else if 0x4960 ≤ i ∧ i < 0x4970 ∧ s = 1 then y.recordLive (i - 0x4960)
  else if 0x3800 ≤ i ∧ i < 0x3810 ∧ ((s = 1 ∧ y.rd k ≠ was.rd k) ∨ (s = 2 ∧ y.rdB k ≠ was.rdB k)) then y.lookChanged (i - 0x3800)
  else y

/-- Units that take effect at the latch point of frame `num` of context x. -/
def dueAt (x num : Nat) (u : CommitUnit) : Bool :=
  u.scope == .context x && (match u.target with | none => true | some f => decide (f ≤ num))

/-- Libraries and images that no context holds any longer are given up. -/
def Sys.releaseUnused (y : Sys) : Sys := y.dropResident.freeTables.showUsers

/-- The list of a context's latch point goes live. DESIGN CHOICE (log entry 46): event 0x040D tells of every targeted group whose frame was skipped, also of
one that a later group of the list replaces (R138). -/
def Sys.latchUnits (y : Sys) (x num : Nat) : Sys :=
  let due := y.den.latched.filter (dueAt x num)
  let y := { y with den := { y.den with latched := y.den.latched.filter fun u => !dueAt x num u } }
  let y := due.foldl (fun y u => match u.target with
    | some f => if f < num then y.raise 0x040D x (ev [(0, 1, x), (2, 2, u.session), (4, 4, f), (8, 4, num)]) else y
    | none => y) y
  let z := y.applyList due
  Sys.releaseUnused (((due.flatMap (·.members)).map Prod.fst).eraseDups.foldl (fun z k => Sys.contextLive y z k) z)

/-- The value an entry of context x will have at the latch point of frame `num`, if it comes now. -/
def Sys.valueAt (y : Sys) (x num k : Nat) : Nat :=
  ((valueIn (y.den.latched.filter (dueAt x num)) k).map unLe).getD (y.rd k)

/-! ## Exposure (R278 to R280, R316 to R318) -/

/-- Exposure parameters 0 to 7 as they stand. -/
def Gen.exposureParams (g : Gen) (x : Nat) : List Nat := (List.range 8).map fun i => g.rd (ent (0x3000 + x) (0x13 + i))

/-- The octets of one template entry's write: length, device, register address and value. -/
def sensorWrite (t : Bytes) (params : List Nat) : Bytes :=
  let n := rdLe t 6 1
  let src := rdLe t 7 1
  let v := if src = 0 then rdLe t 8 4 else (params.getD (src - 1) 0 >>> rdLe t 12 1) &&& rdLe t 8 4
  let regLen := rdLe t 3 1
  let value := if (rdLe t 13 1).testBit 0 then (le n v).reverse else le n v
  let body := le 1 (rdLe t 2 1) ++ ((le 2 (rdLe t 4 2)).take regLen).reverse ++ value
  le 1 body.length ++ body

/-- The template entries a list holds (R279). -/
def Gen.listEntries (g : Gen) (x : Nat) (every : Bool) (changed : List Bool) : List Bytes :=
  let b := g.rdB (ent (0x3000 + x) 0x1B)
  let all := (List.range (b.length / 16)).map fun i => slice b (16 * i) 16
  let hit (t : Bytes) : Bool := rdLe t 7 1 != 0 && changed.getD (rdLe t 7 1 - 1) false
  if every then all
  else if changed.any id then all.filter fun t => (rdLe t 13 1).testBit 1 || hit t
  else []

/-- The list of frame `num` joins its ports' queues, in latch-point order. -/
def Sys.queueLists (y : Sys) (x num : Nat) (every : Bool) (changed : List Bool) (params : List Nat) : Sys :=
  let es := y.view.listEntries x every changed
  upto 8 (fun n y =>
    let mine := es.filter fun t => rdLe t 0 1 == n
    if mine.isEmpty then y
    else
      let l : SensorList :=
        { ctx := x, frame := num, latch := y.t96, body := mine.flatMap fun t => sensorWrite t params, started := false,
          due := y.up + y.rd (ent (0x3000 + x) 0x10) * 1000 }
      y.setPort n { y.port n with lists := (y.port n).lists ++ [l] }) y

/-- The trigger edge frame M takes: the latest at or before its latch point; earlier ones are not used. -/
def Sys.takeTrigger (y : Sys) (x latch : Nat) : Option Nat × Sys :=
  let c := y.ctx x
  let past := c.triggers.filter (· ≤ latch)
  (past.getLast?, y.setCtx x { c with triggers := c.triggers.filter fun t => !decide (t ≤ latch) })

/-- The exposure record of frame `num` (R317). -/
def exposureRecord (x num L : Nat) (c : Ctx) (ball : Option Nat) (edge : Option Nat) (latch : Nat) : Bytes :=
  let S := (num + 2 ^ 32 - L) % 2 ^ 32
  let early := decide (num < c.firstNum + L)
  let exact := c.expo.find? (·.num == S)
  let below := (c.expo.filter fun e => decide (e.num < S)).getLast?
  let e := if early then c.firstExpo else exact <|> below <|> c.firstExpo
  let skipped := !early && exact.isNone
  let late := e.any (·.late)
  let changed := e.any (·.changed)
  let flags := bitsOf ((if late then [0] else []) ++ (if early then [1] else []) ++ (if edge.isSome then [2] else []) ++
    (if changed then [3] else []) ++ (if skipped then [4] else []))
  let off : Int := match edge with | some t => ((t : Int) - latch) / (2 ^ 32 : Nat) | none => 0
  pack 12 [(0, 4, S), (4, 1, L), (5, 1, flags), (6, 1, x), (7, 1, if edge.isSome then ball.getD 0xFF else 0xFF), (8, 4, ofI 32 (satI32 off))] ++
    (List.range 5).flatMap fun i => le 4 (((e.map (·.params)).getD []).getD i 0)

/-- Exposure settings go live at the latch point: the write list, the history and the record (R279, R316). -/
def Sys.latchExposure (y : Sys) (x num latch : Nat) : Bytes × Sys :=
  let params := y.view.exposureParams x
  let c := y.ctx x
  let changed := (List.range 8).map fun i => params.getD i 0 != c.params.getD i 0
  let y := y.queueLists x num (y.rd (ent (0x3000 + x) 0x12) == 1 || c.fullList) changed params
  let e : Exposure := { num := num, params := params, changed := changed.any id, late := false, sentAt := none }
  let first := c.firstExpo.isNone
  let y := y.setCtx x { c with
    expo := (c.expo ++ [e]).drop (c.expo.length + 1 - 8), firstExpo := if first then some e else c.firstExpo,
    firstNum := if first then num else c.firstNum, fullList := false, params := params }
  let t := y.takeTrigger x latch
  (exposureRecord x num (t.2.rd (ent (0x3400 + x) 8)) (t.2.ctx x) (t.2.triggerBall x) t.1 latch, t.2)

/-! ## The frame's generation and its place (R290, R291, R336, R421) -/

/-- The parameter generation of a frame that latches now; `bits` is the depth of a playback frame's lines. -/
def Sys.snapshot (y : Sys) (x bits : Nat) : Gen :=
  let g : Gen := ⟨y.dict, y.blobs, [], (match y.view.calSlot x with | some s => y.cal s | none => calSet0), bits⟩
  { g with param := g.inject x }

/-- Sum of the radii of R295 (0x3440 + x:01). -/
def Gen.haloRadius (g : Gen) (x : Nat) : Nat :=
  (if g.rd (ent (0x3420 + x) 1) = 0 ∧ g.rd (ent (0x3420 + x) 2) = 0 then 0 else g.cfaV x) +
  (if g.rd (ent (0x3430 + x) 1) = 2 then 1 else 0) + (if g.rd (ent (0x3400 + x) 1) = 0 then 0 else 3) + g.rd (ent (0x3430 + x) 2)

/-- The fifth latch point cuts the oldest held frame with stripes that have not entered a raw front end (R291). -/
def Sys.cutOldest (y : Sys) (x : Nat) : Sys :=
  let held := y.heldFrames x
  match held with
  | f :: _ =>
    let left := (f.stripes.filter fun s => s.mode == .waiting || (s.mode == .statsOnly && !s.passed)).length
    if held.length < 4 ∨ left = 0 then y
    else
      let y := y.abandonTell f
      let y := y.onFrame x f.num fun h =>
        { h with cutRaw := true, stripes := h.stripes.map fun s =>
            if (s.mode == .waiting || s.mode == .statsOnly) && !s.passed then { s with mode := .dropped } else s }
      ((y.showHeld x).inc (ent (0x3440 + x) 5)).raise 0x0902 x (ev [(0, 1, x), (2, 2, left), (4, 4, f.num)])
  | [] => y

/-- O_min in ns (R421); 50 µs more on SHADOW, whose generations close later (R697). -/
def Sys.minChase (y : Sys) (x : Nat) : Nat :=
  let g := y.view
  let hm := g.stripeMax x
  let w := g.winWidth x
  let line := (y.ctx x).lineTime
  let rate (r : RailName) : Nat := max 1 (laneRate (y.rd (railKey r)) y.tDie)
  let lines := (g.stripeH x + hm + 8) * line / 2 ^ 32
  let rfe := hm * w * 1000000000 * 1400000000 / (6000000000 * rate .s)
  let troupe := hm * w * g.frameOps x 0 * 1000000000 / (max 1 (g.windowPixels x) * 256 * rate .t)
  lines + rfe + troupe + 1000 * g.rd (ent (0x4000 + x) 4) + (if y.isShadow then 50000 else 0)

/-- The status entries that follow a context's live generation (R327, R365, R403, R429). -/
def Sys.showLive (y : Sys) (x : Nat) (g : Gen) : Sys :=
  let px := g.windowPixels x
  let b := 0x4010 + x
  let y := ((y.wr (ent b 1) (g.stripes x)).wr (ent b 2) (g.segs x)).wr (ent b 3) (g.segWidth x)
  let y := (y.wr (ent b 4) (g.reserve x)).wr (ent 0x4020 2) (g.reserveSum (List.range 16))
  let chase := !(g.chasers x).isEmpty
  let y := y.wr (ent b 5) (if (y.ctx x).shutOut then 3 else if chase then 2 else 1)
  let y := if chase then y.wr (ent b 6) (y.minChase x % 2 ^ 32) else y
  let y := y.wr (ent (0x3800 + x) 3) (if g.hasLook x then (roundQuot false (g.frameOps x 0) px).toNat else 0)
  let y := y.wr (ent (0x3800 + x) 4) (if g.hasReduced x then (roundQuot false (g.frameOps x 1) px).toNat else 0)
  let y := if g.usesRfe x then y.wr (ent (0x3440 + x) 1) (g.haloRadius x) else y
  let y := y.showHeld x
  y.wrB (ent (0x3C10 + x) 7) (g.cameraBlock x)

/-- Frames that nothing waits for leave flight; the newest of a context stays (R184, R325). -/
def Sys.retireFrames (y : Sys) (x : Nat) : Sys :=
  let newest := (y.newest? x).map (·.num)
  let finished (f : Frame) : Bool :=
    f.ctx == x && newest != some f.num && f.complete && f.statsIssued && f.manifestIssued && f.recordIssued &&
      ((f.gen.rawChannels x).isEmpty || f.rawEnded) &&
      f.stripes.all fun s => s.done || s.mode == .dropped || (s.mode == .statsOnly && s.passed)
  let gone := y.frames.filter finished
  let y := gone.foldl Sys.endFaults y
  let y := gone.foldl (fun y f => if f.abandoned then y.encGone x f.num (if f.cutRaw || f.cut.isSome then 1 else 0) else y) y
  { y with frames := y.frames.filter fun f => !finished f }

/-- A unit that a test on demand covers is fenced at a frame boundary at which it carries no stripe (R749). -/
def Sys.testFence (y : Sys) : Sys :=
  match y.boot.test with
  | some (2, t) =>
    if y.rd (ent (0x3860 + t) 1) = 0 ∧ (y.troupe t).held.isNone then Sys.checkSeams (Sys.shutOutCheck (y.wr (ent (0x3860 + t) 1) 2)) else y
  | some (3, r) =>
    if y.rd (ent (0x3470 + r) 1) ≤ 1 ∧ !(y.frames.any fun f => f.stripes.any fun st => st.rfe == some r && !st.passed) then
      y.wr (ent (0x3470 + r) 1) 3
    else y
  | _ => y

/-- Units that passed their retest come back at a frame boundary, and shut-out contexts resume (R314, R369, R370, R424). -/
def Sys.unitsReturn (y : Sys) (x : Nat) : Sys :=
  let y := upto 8 (fun r y =>
    if (y.rfe r).returning && (y.rd (ent (0x3400 + x) 7)).testBit r then
      Sys.wr (y.setRfe r { y.rfe r with returning := false, notBefore := y.t96 }) (ent (0x3470 + r) 1) 0
    else y) y.returnUnits
  y.shutOutResume.testFence

/-! ## Recording at the latch point (R542, R555) -/

/-- The recorder may open a clip for a context: SHADOW only with its own recording on (R558, R704). -/
def Sys.mayRecord (y : Sys) (x : Nat) : Bool :=
  !(y.recording x).tried && y.rd (ent (0x4960 + x) 3) ≤ 1 && (!y.isShadow || (y.rd (ent 0x4C00 6) == 1 && !(y.shedMask 6).testBit 1))

/-- Space a stream asks for: the packed octets over the ratio plus 2 %, or its share of the rate (R542). -/
def Gen.rawNeed (g : Gen) (x n : Nat) : Nat :=
  let packed := g.lineBytes x (g.depth x) * g.height x
  let coded := if g.rd (ent (0x4800 + n) 3) = 0 then packed else packed * 4 / max 1 (g.rd (ent (0x4800 + n) 4))
  coded * 102 / 100
def Gen.auNeed (g : Gen) (e : Nat) : Nat :=
  let cap := g.es e 21
  if cap ≠ 0 then cap else g.es e 15 * 1000 * g.esPeriod e / 8000000000

/-- RUN opens a clip, STOP ends it, and an open clip reserves space for the frame. -/
def Sys.latchRecording (o : Otp) (y : Sys) (x num latch : Nat) (g : Gen) : Sys :=
  let wanted := g.rd (ent (0x4960 + x) 1) == 1
  let y := if wanted && (y.recording x).slot.isNone && y.mayRecord x then y.openClip o x num latch false else y
  let y := if !wanted && (y.recording x).slot.isSome && (y.recording x).stopAt.isNone then
      y.setRec x { y.recording x with stopAt := some num } else y
  if (y.recording x).slot.isNone ∨ (y.recording x).stopAt.isSome then y.closeDone x
  else
    let y := (g.rawChannels x).foldl (fun y n => if g.rawDest n 1 then y.reserve x (0x10000 + n) num latch (g.rawNeed x n) else y) y
    (List.range 16).foldl (fun y e =>
      if g.esTakes e x num && (g.es e 26).testBit 0 then y.reserve x (0x20000 + e) num latch (g.auNeed e) else y) y

/-! ## The latch point -/

/-- What a latch point brings: context, frame number, the sensor counter, marks so far, the Frame Start payload, a given exposure record,
the head's latch and context, the line depth, and, for a playback picture, its pixels and hashed octets. -/
structure LatchIn where
  x : Nat
  num : Nat
  counter : Nat
  marks : Nat
  start : Bytes
  exposure : Option Bytes
  upstream : Option (Nat × Nat)
  upHash : Bytes
  bits : Nat
  groups : List FrameGroup
  picture : List (List Px)
  source : Bytes
  complete : Bool

/-- The record of a frame that latches now. A Standby entry admits none of its stripes (R653 step 2). -/
def newFrame (y : Sys) (l : LatchIn) (g : Gen) (expo : Bytes) (chainStart manifest record wait : Bool) : Frame :=
  { ctx := l.x, num := l.num, counter := l.counter, latch := y.t96, since := y.up, gen := g, groups := l.groups, lines := [], lost := 0,
    substituted := 0, marks := l.marks, cut := none, complete := l.complete,
    stripes := (List.range (g.stripes l.x)).map fun k =>
      { k := k, mode := if y.power.step = 0 then .waiting else .dropped, reduced := false, rfe := none, troupe := none, written := 0, freed := 0, passed := false, done := false,
        openedAt := 0 },
    decided := false, reduced := false, seam := none, abandoned := false, cutRaw := false, faulted := false, statsOnly := false,
    black := none, measured := [], exposure := expo, statsIssued := false, manifestIssued := !manifest, recordIssued := !record,
    chainStart := chainStart, embedded := [], halo := [], upstream := l.upstream, upHash := l.upHash, upWait := wait, crcErrors := 0,
    calEpoch := 0, cost := [], reserved := [], start := l.start, source := l.source, picture := l.picture, rawLine := 0, rawEnded := false,
    coded := [], rails := (y.rd (railKey .t), y.rd (railKey .s)) }

/-- The latch point of a context: its list goes live, and the frame takes its generation and its place. -/
def Sys.latch (o : Otp) (y : Sys) (l : LatchIn) : Sys :=
  -- a module that is RETURNED or RETIRED develops no frames (R169)
  if 5 ≤ o.life then y else
  let x := l.x
  let y := y.latchUnits x l.num
  let y := if isSensor x then y.takeGroups x (y.rd (ent (0x3000 + x) 3)) else y
  let y := if isSensor x && (y.ctx x).toRun then Sys.setCtxState (y.setCtx x { y.ctx x with toRun := false, clean := 0 }) x 2 else y
  let y := (y.unitsReturn x).cutOldest x
  let g := y.snapshot x l.bits
  let first := (y.ctx x).firstExpo.isNone
  let y := match y.newest? x with | some f => if first then y else y.closeBlack f | none => y
  let r := match l.exposure with
    | some e => (e, if first then y.setCtx x { y.ctx x with firstExpo := some ⟨l.num, [], false, false, none⟩, firstNum := l.num } else y)
    | none => y.latchExposure x l.num y.t96
  let y := r.2
  let chain := y.chain x
  -- an earlier frame whose manifest is still to come starts the chain in this one's place (R186)
  let earlier := y.frames.any fun f => f.ctx == x && !f.manifestIssued
  let chainStart := first || (!chain.started && !earlier)
  let y := if first then y.setChain x { chain with cause := if chain.started then 2 else chain.cause } else y
  let state := g.colourState y x
  let record := state != (y.ctx x).colour || chainStart
  let wait := l.upstream.isSome && y.view.role == 2
  let f := newFrame y l g r.1 chainStart o.produces (record && o.produces) wait
  let y := Sys.retireFrames { y with frames := y.frames ++ [f] } x
  let y := if g.rd (ent (0x3410 + x) 3) = 0 ∨ g.rd (ent (0x3410 + x) 3) = 3 then y.decideBlack f else y
  let c := y.ctx x
  let t := if 2 ≤ c.linesSeen then (c.lastLineAt - c.firstLineAt) / (c.linesSeen - 1) else g.period x * 2 ^ 32 / max 1 (g.height x)
  let y := y.setCtx x { c with last := some (l.counter, l.num), lastLatch := y.t96, lastAt := y.up, discarding := none, colour := state,
                               lineTime := t, linesSeen := 0 }
  let y := if y.roleShadow then y.onTwin fun t => { t with open_ := t.open_ ++ [(x, l.num)], adopt := t.adopt.filter fun a => a.1 != x } else y
  let y := y.showLive x g
  let y := (y.latchRecording o x l.num y.t96 g).encSlots f
  let y := (if isSensor x then y.posFrame x l.num y.t96 else y).fillDelays x
  let y := if (y.ctx x).shutOut then Sys.inc (y.abandonTell f) (ent 0x4020 5) else y
  y

/-! ## FRAME_START_ACCEPT (R261, R265 to R267, R274, R284, R717) -/

/-- Number of the frame (R265): frames skipped, and whether the counter broke. -/
def extendCounter (last : Option (Nat × Nat)) (c : Nat) : Nat × Nat × Bool :=
  match last with
  | none => (c, 0, false)
  | some (cp, np) =>
    let d := (c + 65536 - cp) % 65536
    if 1 ≤ d ∧ d ≤ 32767 then ((np + d) % 2 ^ 32, d - 1, false) else ((np + 1) % 2 ^ 32, 0, true)

/-- A returning twin takes PRIMARY's number for the same sensor counter (R705 step 4). -/
def Sys.numberFor (y : Sys) (x counter : Nat) : Nat × Nat × Bool :=
  match y.twin.adopt.find? fun a => a.1 == x with
  | none => extendCounter (y.ctx x).last counter
  | some a =>
    let d := (counter + 65536 - a.2.1) % 65536
    ((if d ≤ 32767 then a.2.2 + d else a.2.2 + 2 ^ 32 + d - 65536) % 2 ^ 32, 0, false)

/-- Ingest entries that follow a Frame Start (0x3008). -/
def Sys.showStart (y : Sys) (x num counter upstream : Nat) (payload : Bytes) : Sys :=
  let b := 0x3008 + x
  let y := ((y.wr (ent b 2) num).wr (ent b 3) counter).wr (ent b 4) y.t96
  let y := ((y.wr (ent b 7) (rdLe payload 8 8)).wrB (ent b 8) (slice payload 16 16)).wr (ent b 11) upstream
  (y.wrB (ent b 6) []).inc64 (ent (0x3010 + x) 1) 1

/-- The camera head's SLP streams get the frame's FRAME_INFO and Frame Start (R717). -/
def Sys.slpFrameStart (y : Sys) (x num : Nat) : Sys :=
  match y.frame? x num with
  | none => y
  | some f =>
    let y := y.slpMsg x num true (frameInfo num f.latch f.marks x 1 f.exposure)
    y.slpMsg x num false (slpHeader 0x78 (y.rd (ent (0x3000 + x) 4)) (le 2 f.counter ++ le 1 1) ++ f.start)

/-- The FELLEY source's record of the frame, where the context has that source (R717): the FRAME_INFO of its stream. -/
def Sys.frameInfoOf (y : Sys) (x num : Nat) : Option Bytes :=
  if y.valueAt x num (ent (0x3000 + x) 2) = 1 then
    let i := (y.fstream (y.valueAt x num (ent (0x3000 + x) 4))).info
    some (if i.length = 64 then i else List.replicate 64 0)
  else none

/-- Event 0x0806: a Frame Start payload that disagrees with the declared frame (R267, R761). -/
def Sys.geometryEvent (y : Sys) (x num : Nat) (payload : Bytes) : Sys :=
  y.raise 0x0806 x (ev [(0, 1, x), (2, 2, rdLe payload 0 2), (4, 2, rdLe payload 2 2), (6, 1, rdLe payload 4 1), (8, 4, num)])

/-- A Frame Start on the lead group of context x, its STREAM and GIDX right: refused as early, or the latch point. -/
def Sys.frameStart (o : Otp) (y : Sys) (x g : Nat) (counter upstream : Nat) (test : Bool) (payload : Bytes) : Sys :=
  let c := y.ctx x
  let period := y.rd (ent (0x3000 + x) 8)
  let gap := y.up - c.lastAt
  if c.last.isSome && decide (100 * gap < 98 * period) then
    -- the packets of the early frame: on this group from here, on another one from the Frame Start of its counter, which may be here already
    let y := y.setCtx x { c with discarding := some counter }
    let felley := y.rd (ent (0x3000 + x) 2) == 1
    let y := (y.view.groupsOf x).foldl (fun y h =>
      let u := y.ig h
      if h = g ∨ felley then y.setIg h { u with discarding := true }
      else if u.early.any (·.1 == counter) then y.setIg h { u with discarding := true, early := none }
      else y) y
    (y.inc (ent (0x3010 + x) 7)).raise 0x0807 x (ev [(0, 1, x), (2, 2, counter), (4, 4, gap % 2 ^ 32)])
  else
    let n := y.numberFor x counter
    let info := y.frameInfoOf x n.1
    let num := match info with | some i => rdLe i 0 4 | none => n.1
    let y := match y.newest? x with | some f => y.timeoutFrame f | none => y
    let y := y.incBy (ent (0x3010 + x) 9) (if info.isSome then 0 else n.2.1)
    let broke := n.2.2 && info.isNone
    let st := y.ctxState x
    let geometry (k : Nat) : Nat := y.valueAt x num (ent (0x3000 + x) k)
    let mismatch := rdLe payload 0 2 != geometry 5 || rdLe payload 2 2 != geometry 6 || rdLe payload 4 1 != geometry 7 ||
      rdLe payload 5 1 != geometry 9 || rdLe payload 6 1 != geometry 10
    let run := st == 2 || ((y.ctx x).toRun && (st == 1 || st == 4))
    let marks := bitsOf ((if mismatch then [4] else []) ++ (if broke then [7] else []) ++ (if st = 3 || test then [9] else []) ++
      (if !run && st != 3 then [10] else [])) ||| (match info with | some i => rdLe i 16 2 | none => 0)
    let gs := y.valueAt x num (ent (0x3000 + x) 3)
    let groups : List FrameGroup := ((List.range 8).filter gs.testBit).zipIdx.map fun p =>
      { group := p.1, gidx := p.2, started := p.1 == g || info.isSome, ended := false, skewed := false, last := none }
    let y := y.latch o
      { x := x, num := num, counter := counter, marks := marks, start := payload, exposure := info.map fun i => slice i 20 32,
        upstream := info.map fun i => (rdLe i 4 12, rdLe i 18 1), upHash := [], bits := 0, groups := groups, picture := [], source := [],
        complete := false }
    let y := y.showStart x num counter (match info with | some i => max (rdLe i 4 12) upstream | none => upstream) payload
    let y := if broke then
        (y.inc (ent (0x3010 + x) 10)).raise 0x0809 x (ev [(0, 1, x), (2, 2, (c.last.map Prod.fst).getD 0), (4, 2, counter), (8, 4, num)])
      else y
    let y := if mismatch then y.geometryEvent x num payload else y
    let y := (if info.isSome then groups.map (·.group) else [g]).foldl (fun y h => y.setIg h { y.ig h with discarding := false }) y
    let y := (y.joinFrame x g num).joinEarly x num
    y.slpFrameStart x num

/-- The context a group leads once the units of the coming latch point are live: a group is taken at that latch point (R260). -/
def Sys.leads (y : Sys) (g : Nat) : Option Nat :=
  (List.range 8).find? fun x =>
    y.rd (ent (0x3000 + x) 1) != 0 &&
      (let m := y.valueAt x (((y.ctx x).last.map Prod.snd).getD 0 + 1) (ent (0x3000 + x) 3)
       ((List.range 8).find? m.testBit) == some g)

/-- FRAME_START_ACCEPT: the header on logical lane 0 of a lead group. A group whose lock was lost takes none before its lanes are back (R274). -/
def execFrameStartAccept (group : Fin 8) (start : FrameStart) (s : State) : Host.Outcome State Fault Refusal :=
  onSys s fun o y =>
    let g := group.val
    match y.leads g with
    | none => y.stray g 4
    | some x =>
      let next := ((y.ctx x).last.map Prod.snd).getD 0 + 1
      let lanes := y.valueAt x next (ent (0x3000 + x) 2) = 0
      if lanes ∧ (y.ig g).resync ∧ !y.groupBack g then y
      else if (y.ig g).quiet then y.stray g 5
      else
       let y := if lanes then y.countCrc g (failedLanes (y.view.groupWidth g) (startPayload start) start.trailers) else y
       if lanes ∧ start.stream.val ≠ y.valueAt x next (ent (0x3000 + x) 4) then y.stray g 0
       else if lanes ∧ start.gidx.val ≠ 0 then y.stray g 1
       else y.frameStart o x g start.counter.toNat start.upstream start.testPattern (startPayload start)

/-! ## Output frame boundaries (R129, R440, R441, R445) -/

/-- Units for the boundary of channel c, or of its lock group. -/
def dueOut (c : Nat) (l : Option Nat) (u : CommitUnit) : Bool :=
  u.scope == .output c || (match l with | some l => u.scope == .lockGroup l | none => false)

/-- What a change of a channel's own entries asks of its raster: on, off, or a restart for a new timing or offset. -/
def Sys.followChannel (y : Sys) (c : Nat) (was : Gen) : Sys :=
  let on := y.view.chanOn c
  let y :=
    if on && !was.chanOn c then y.restartRaster c 3
    else if !on && was.chanOn c then y.stopChannel c
    else if on && (y.rd (ent (0x4120 + c) 1) != was.rd (ent (0x4120 + c) 1) || y.rd (ent (0x4120 + c) 2) != was.rd (ent (0x4120 + c) 2) ||
      y.rdB (ent (0x4120 + c) 3) != was.rdB (ent (0x4120 + c) 3)) then y.restartRaster c 0
    else y
  let moved := [2, 3, 4].any fun i => y.rd (ent (0x4100 + c) i) != was.rd (ent (0x4100 + c) i)
  let y := if on && moved then y.setChannel c { y.channel c with shown := none, fallback := none, lastShown := none } else y
  upto 8 (fun n y => if y.rd (ent (0x4190 + n) 1) = c then y.showStream n else y) ((y.showChannel c).showSdo)

/-- OUTPUT_FRAME_BOUNDARY: the output frame ends and the channel's RWC entries go live; while the channel is off, its grid (R440) still brings the
boundary at which what was committed for it goes live. The units of a lock group, and a sink that moves to a channel, change several channels at once. -/
def execOutputFrameBoundary (channel : Fin 24) (s : State) : Host.Outcome State Fault Refusal :=
  onSys s fun _ y =>
    let c := channel.val
    let y := if y.view.chanOn c then y.endOutputFrame c else y
    let l := y.lockGroup c
    let due := y.den.latched.filter (dueOut c l)
    let was := y.view
    let y := { y with den := { y.den with latched := y.den.latched.filter fun u => !dueOut c l u } }
    let y := y.applyList due
    (List.range 24).foldl (fun y d => if (d = c ∧ (was.chanOn c ∨ due ≠ [])) ∨ due.any (fun u => u.members.any fun m => m.1 / 256 == 0x4100 + d || m.1 / 256 == 0x4120 + d)
      then y.followChannel d was else y) y

end Sys2Proof.Machine
end

