-- ==== Sys2Proof/Machine/Playback.lean ====
section
/-!
DEFINITION. Sys2Proof/Machine/Playback.lean: playback contexts: the decoder (R492 to R498), the raw expansion (R511, R513, R761) and playback
feeds (R560). What HEVC decoding yields is an operand of the command; framing, limits, pacing, concealment and conversion are the module's.
-/

namespace Sys2Proof.Machine

def dec0 : Dec :=
  { input := [], run := none, ready := [], due := 0, late := false, last := [], lastIndex := none, tainted := false, told := false,
    dropRasl := false, cleanMark := none, manifests := [] }
def Sys.dec (y : Sys) (p : Nat) : Dec := tget (fun _ => dec0) y.decs p
def Sys.setDec (y : Sys) (p : Nat) (v : Dec) : Sys := { y with decs := tset (fun _ => dec0) y.decs p v }


/-! ## Latch points of a playback context (R493) -/

/-- The frame number of a context fed by playback rises by 1 at each latch point. -/
def Sys.pbNum (y : Sys) (p : Nat) : Nat := match (y.ctx (8 + p)).last with | some l => (l.2 + 1) % 2 ^ 32 | none => 1

/-- Due instant of output index n (T96 units): S + n × P. -/
def Sys.dueAt (y : Sys) (p n : Nat) : Nat := y.pb p 7 + n * y.pb p 6 * 2 ^ 32

/-- The stored exposure record of a frame with PLAYBACK set; PLAYBACK and UNKNOWN where none was stored (R319). -/
def playbackRecord (stored : Option Bytes) : Bytes :=
  match stored with
  | some r => poke (slice r 0 32) 5 (le 1 (rdLe r 5 1 ||| 32))
  | none => pack 32 [(5, 1, 34)]

/-- The coded picture of an input unit: the octets that follow the record header, or all of a unit without one (R182, R489, R497). -/
def Sys.codedPicture (y : Sys) (p : Nat) (u : Bytes) : Bytes := if y.pb p 3 = 1 then u else u.drop 64

/-- The latch point of a decoded picture. -/
def Sys.latchPicture (o : Otp) (y : Sys) (p frame : Nat) (au : Bytes) (rows : List (List Px)) (complete : Bool) : Sys :=
  let m := (y.dec p).manifests.lookup frame
  y.latch o
    { x := 8 + p, num := y.pbNum p, counter := 0, marks := 0, start := [], exposure := some (playbackRecord (m.map fun b => slice b 80 32)),
      upstream := none, upHash := (m.map sha256).getD [], bits := 16, groups := [], picture := rows, source := y.codedPicture p au, complete := complete }

/-- Frame number of the AU record in front of an access unit. -/
def recordFrame (au : Bytes) : Nat := rdLe au 12 4

/-! ## Faults (R495) -/

/-- A fault of the decoder fault table, by its row: counted, and reported unless the table gives another event. -/
def Sys.decFault (y : Sys) (p index fault : Nat) : Sys :=
  let y := if fault = 8 then y else y.inc (pbStat p 8)
  if fault = 3 ∨ fault = 7 ∨ fault = 9 then y
  else y.raiseLimited p 0x0D07 p (ev [(0, 1, 16 + p), (1, 1, fault), (4, 4, index % 2 ^ 32)])

/-- A record header that keeps R489, with its access unit. -/
def recordOk (b : Bytes) : Bool :=
  64 ≤ b.length && rdLe b 0 4 == 0x56585150 && rdLe b 4 1 == 1 && rdLe b 6 2 == 64 && 64 + rdLe b 8 4 ≤ b.length && 0 < rdLe b 8 4

/-- Octets before the next valid record. -/
def findRecord : Nat → Bytes → Nat → Option Nat
  | 0, _, _ => none
  | n + 1, b, off => if b.isEmpty then none else if recordOk b then some off else findRecord n b.tail (off + 1)

/-- The profiles, formats, sizes and coding tools of R471 to R473 and the context's declared maximum. Profile codes are general_profile_idc 1 Main, 2 Main 10,
3 Main Still Picture and 4 the range extensions. -/
def Sys.auSupported (y : Sys) (p : Nat) (i : AuInfo) : Bool :=
  let w := i.width.toNat
  let h := i.height.toNat
  let d := i.depth.toNat
  let m := y.pbB p 10
  let format := match i.profile.toNat with
    | 1 => i.chroma.val == 1 && d == 8
    | 2 => i.chroma.val == 1 && 8 ≤ d && d ≤ 10
    | 3 => i.chroma.val == 1 && d == 8
    | 4 => i.chroma.val ≤ 2 && 8 ≤ d && d ≤ 12
    | _ => false
  format && i.level.toNat ≤ 186 && w % 2 == 0 && h % 2 == 0 && 128 ≤ w && 128 ≤ h && w ≤ 8192 && h ≤ 4352 && w * h ≤ 35651584 &&
    w ≤ rdLe m 0 2 && h ≤ rdLe m 2 2 && (d ≤ 10 || y.pb p 13 == 1) && !(i.tools.reorder != 0 && y.pb p 5 == 1) &&
    decodes i.tools i.level.toNat

/-! ## DECODE_PICTURE_START (R468, R492 to R496) -/

/-- The context can use the core: HEVC input, on this core, nothing on it, a free slot, and something to read. -/
def Sys.decReady (y : Sys) (core p : Nat) (unit : Bytes) : Bool :=
  let u := y.dec p
  y.pb p 1 == 1 && y.pb p 9 == 4 + core && u.run.isNone && u.ready.length ≤ y.pb p 12 &&
    (!u.input.isEmpty || (y.pb p 2 == 0 && !unit.isEmpty))

/-- Picture deadline of the next access unit (R493). -/
def Sys.decDue (y : Sys) (p : Nat) : Nat :=
  if y.pb p 5 = 1 then y.t96 + y.pb p 6 * 2 ^ 32 else y.dueAt p ((y.dec p).due + (y.dec p).ready.length)

/-- The access unit read next, after framing, and what is left of the octets it came in: none where no valid record is there. -/
def Sys.nextUnit (y : Sys) (p : Nat) (ring : Bytes) : Option Bytes × Bool × List Bytes :=
  let u := y.dec p
  let (b, rest) := match u.input with | b :: r => (b, r) | [] => (ring, [])
  if y.pb p 3 = 1 then (some b, false, rest)
  else
    match findRecord (b.length + 1) b 0 with
    | none => (none, true, rest)
    | some off =>
      let r := b.drop off
      let len := 64 + rdLe r 8 4
      (some (r.take len), off != 0, if (r.drop len).isEmpty then rest else r.drop len :: rest)

/-- DECODE_PICTURE_START: the free core takes the access unit with the earliest picture deadline. `unit` is what the host has put into the ring
where the module has nothing delivered, and `info` what the core reads at its head. -/
def execDecodePictureStart (core : Fin 2) (unit : Bytes) (info : AuInfo) (s : State) : Host.Outcome State Fault Refusal :=
  onSys s fun o y =>
    let k := core.val
    if ((List.range 8).any fun p => (y.dec p).run.any fun r => r.core == k) || (y.shedMask 4).testBit k then y
    else
      let best := ((List.range 8).filter fun p => y.decReady k p unit).foldl (fun (a : Option Nat) p =>
        match a with | none => some p | some q => if y.decDue p < y.decDue q then some p else some q) none
      match best with
      | none => y
      | some p =>
        let y := if y.rd (pbStat p 1) = 0 then y.wr (pbStat p 1) 1 else y
        let n := y.nextUnit p unit
        let y := y.setDec p { y.dec p with input := n.2.2 }
        let y := if n.2.1 then (y.decFault p ((((y.dec p).lastIndex).map (· + 1)).getD 0) 0).decWait p else y
        match n.1 with
        | none => y
        | some au =>
          if noBaseLayer (if y.pb p 3 = 0 then au.drop 64 else au) then y else
          let records := y.pb p 3 == 0
          let index := if records then rdLe au 32 8 else (((y.dec p).lastIndex).map (· + 1)).getD 0 + info.missing.toNat
          let gap := match (y.dec p).lastIndex with | some l => if l + 1 < index then index - l - 1 else 0 | none => 0
          let y := y.setDec p { y.dec p with lastIndex := some index }
          let y := if gap = 0 then y else (y.incBy (pbStat p 9) gap).decFault p index 8
          let y := info.faults.foldl (fun y f => y.decFault p index f.val) y
          let irap := info.kind == .idr || info.kind == .cra
          let y := if irap || info.recovery then
              (y.wr (pbStat p 2) info.profile.toNat).wr (pbStat p 3) info.level.toNat else y
          if !y.auSupported p info then
            let y := (y.decFault p index 3).wr (pbStat p 1) 3
            y.raise 0x0D09 p (ev [(0, 1, 16 + p), (1, 1, info.profile.toNat), (2, 1, info.level.toNat), (3, 1, info.chroma.val),
              (4, 1, info.depth.toNat), (6, 2, info.width.toNat / 8), (8, 2, info.height.toNat / 8)])
          else if y.rd (pbStat p 1) ≠ 2 ∧ !(irap || info.recovery) then y
          else if info.kind = .rasl ∧ (y.dec p).dropRasl then y
          else
            let resumes := y.rd (pbStat p 1) != 2
            let y := y.setDec p { y.dec p with dropRasl := if irap then resumes && info.kind == .cra else (y.dec p).dropRasl }
            let y := (y.wr (pbStat p 1) 2).wrB (pbStat p 12) ((le 4 info.colour.toNat).reverse)
            let y := if resumes then y.raise 0x0D0A p (ev [(0, 1, 16 + p), (1, 1, match info.kind with | .idr => 0 | .cra => 1 | _ => 2),
              (4, 4, y.pbNum p)]) else y
            let chase := y.pb p 5 == 1
            let num := y.pbNum p
            let damaged := records && (rdLe au 41 1).testBit 7
            let y := if damaged then y.decFault p index 5 else y
            let y := if chase then y.latchPicture o p (recordFrame au) au [] false else y
            let r : DecRun := { core := k, au := au, frame := if chase then some num else none, index := index, clean := irap || info.recovery, damaged := damaged,
                                startAt := y.up }
            let y := y.setDec p { y.dec p with run := some r }
            let y := y.wr (ent (0x4464 + k) 1) 1
            let y := if (y.cores.lookup (4 + k)).all (fun (c : Nat) => c == p) then y else y.inc64 (ent (0x4464 + k) 5) 1
            { y with cores := (4 + k, p) :: y.cores.filter fun c => c.1 != 4 + k }

/-! ## Conversion to H24 (R494, R497) -/

/-- Sample (line, column) of a plane, held to its edges. -/
def sampleAt (pl : List (List Nat)) (l c : Int) : Nat :=
  let row := pl.getD (max 0 (min l (pl.length - 1))).toNat []
  row.getD (max 0 (min c (row.length - 1))).toNat 0

/-- Chroma at luma line l and column c as a rational. -/
def chromaAt (pl : List (List Nat)) (chroma : Nat) (l c : Int) : Rat :=
  let line (i : Int) (j : Int) : Rat := (sampleAt pl i j : Nat)
  let at_ (j : Int) : Rat :=
    if chroma = 1 then
      let i := l / 2
      mkRat 3 4 * line i j + mkRat 1 4 * line (if l % 2 = 0 then i - 1 else i + 1) j
    else line l j
  if chroma = 3 then line l c else if c % 2 = 0 then at_ (c / 2) else (at_ (c / 2) + at_ (c / 2 + 1)) / 2

/-- The declared frame's pixels from the planes: the picture at its top-left, mid-grey elsewhere (R494, R761). -/
def convertPicture (W H chroma depth : Nat) (planes : List (List (List Nat))) : List (List Px) :=
  let y := planes.getD 0 []
  let top : Rat := ((2 ^ depth - 1 : Nat) : Rat)
  let grey : Rat := ((2 ^ (depth - 1) : Nat) : Rat)
  let h (r : Rat) : BitVec 24 := toH24 (roundRat (r / top))
  (List.range H).map fun l => (List.range W).map fun c =>
    if l < y.length ∧ c < (y.getD l []).length then
      let ch (pl : List (List Nat)) : BitVec 24 := if chroma = 0 then h grey else h (chromaAt pl chroma l c)
      ⟨h (((y.getD l []).getD c 0 : Nat) : Rat), ch (planes.getD 1 []), ch (planes.getD 2 [])⟩
    else ⟨h grey, h grey, h grey⟩

/-- A plane with its lost tree units taken from the last picture, or mid-grey where there is none. -/
def concealPlane (pl last : List (List Nat)) (lost : List Nat) (cw ch across grey : Nat) : List (List Nat) :=
  pl.zipIdx.map fun r => r.1.zipIdx.map fun p =>
    if lost.contains (r.2 / ch * across + p.2 / cw) then (if last.isEmpty then grey else (last.getD r.2 []).getD p.2 grey) else p.1

/-- The planes of a decoded picture after concealment. -/
def decodedPlanes (d : DecodedPic) (last : List (List (List Nat))) : List (List (List Nat)) :=
  let n (pl : List (List (BitVec 16))) : List (List Nat) := pl.map fun r => r.map (·.toNat)
  let size := max 1 d.ctu.toNat
  let across := (d.width.toNat + size - 1) / size
  let lost := d.lost.map (·.toNat)
  let grey := 2 ^ (d.depth.toNat - 1)
  let sx := if d.chroma.val = 3 then 1 else 2
  let sy := if d.chroma.val = 1 then 2 else 1
  [concealPlane (n d.luma) (last.getD 0 []) lost size size across grey,
   concealPlane (n d.cb) (last.getD 1 []) lost (size / sx) (size / sy) across grey,
   concealPlane (n d.cr) (last.getD 2 []) lost (size / sx) (size / sy) across grey]

/-! ## DECODE_PICTURE_DONE and PICTURE_DUE (R488, R493, R495, R497) -/

/-- A decoder with Feedback reports a concealed or tainted picture, naming the newest mark it holds clean. -/
def Sys.lossReportOut (y : Sys) (p : Nat) : Sys :=
  if y.pb p 11 = 1 ∧ y.pb p 2 = 1 ∧ y.view.role = 1 ∧ !y.isShadow then
    y.control 4 .lossReport (le 1 (y.pb p 4) ++ le 1 ((y.dec p).cleanMark.getD 0xFF))
  else y

/-- A TIMED picture latches; one past its due instant is late. -/
def Sys.latchReady (o : Otp) (y : Sys) (p : Nat) (d : DecPic) (late : Bool) : Sys :=
  let u := y.dec p
  let behind := (y.t96 - y.dueAt p u.due) / 2 ^ 32 / 1000
  let num := y.pbNum p
  let y := y.setDec p { u with ready := u.ready.filter (·.out != d.out), due := u.due + 1, late := false }
  let y := y.latchPicture o p (recordFrame d.au) d.au d.rows true
  let y := y.wr (pbStat p 11) (d.status ||| if late then 4 else 0)
  if late then (y.inc (pbStat p 10)).raiseLimited p 0x0D0B p (ev [(0, 1, 16 + p), (4, 4, num), (8, 4, behind)]) else y

/-- DECODE_PICTURE_DONE. -/
def execDecodePictureDone (core : Fin 2) (picture : DecodedPic) (s : State) : Host.Outcome State Fault Refusal :=
  onSys s fun o y =>
    let k := core.val
    match (List.range 8).find? fun p => (y.dec p).run.any fun r => r.core == k with
    | none => y
    | some p =>
      let u := y.dec p
      match u.run with
      | none => y
      | some r =>
        let d := picture
        let concealed := !d.lost.isEmpty
        let tainted := concealed || d.missingRef || d.hashBad || r.damaged || (!r.clean && !d.refsClean && u.tainted)
        let bad := concealed || tainted
        let planes := decodedPlanes d u.last
        let m := y.pbB p 10
        let rows := convertPicture (rdLe m 0 2) (rdLe m 2 2) d.chroma.val d.depth.toNat planes
        let status := bitsOf ((if concealed then [0] else []) ++ (if tainted then [1] else []) ++ (if d.hashChecked then [3] else []))
        let num := r.frame.getD (y.pbNum p)
        let kept := !bad && (rdLe r.au 41 1).testBit 6 && y.pb p 3 == 0
        let y := y.setDec p { u with run := none, last := planes, tainted := tainted, told := u.told && bad,
                                     cleanMark := if kept then some (rdLe r.au 42 1) else u.cleanMark }
        let y := (if concealed then d.faults ++ (if d.faults.contains 6 then [] else [6]) else d.faults).foldl
          (fun y f => y.decFault p r.index f.val) y
        let y := if d.missingRef ∧ !d.faults.contains 7 then y.decFault p r.index 7 else y
        let y := if d.hashBad ∧ !d.faults.contains 9 then y.decFault p r.index 9 else y
        let y := (y.inc64 (pbStat p 4) 1).wr (ent (0x4464 + k) 1) 0
        let y := (y.inc64 (ent (0x4464 + k) 4) 1).inc64 (ent (0x4464 + k) 6) ((y.up - r.startAt) / 1000)
        let y := if concealed then (y.inc (pbStat p 5)).inc64 (pbStat p 6) d.lost.length else y
        let y := if tainted then y.inc (pbStat p 7) else y
        let y := if bad ∧ !(y.dec p).told then
            Sys.raiseLimited (y.setDec p { y.dec p with told := true }) p 0x0D08 p
              (ev [(0, 1, 16 + p), (1, 1, status % 4 + if d.hashBad then 4 else 0), (4, 4, num), (8, 4, d.lost.length)])
          else y
        let y := if bad then y.lossReportOut p else y
        match r.frame with
        | some n =>
          let y := y.onFrame (8 + p) n fun f => { f with picture := rows, complete := true }
          let due : Nat := ((y.frame? (8 + p) n).map (·.latch)).getD y.t96 + y.pb p 6 * 2 ^ 32
          let y := y.reportSlack .s (y.slackOf due (y.pb p 6))
          y.wr (pbStat p 11) status
        | none =>
          let e : DecPic := { out := d.output.toNat, au := r.au, rows := rows, status := status }
          let due : Nat := y.dueAt p e.out
          let y := y.reportSlack .s (y.slackOf due (y.pb p 6))
          let y := y.setDec p { y.dec p with ready := (y.dec p).ready ++ [e] }
          if (y.dec p).late ∧ e.out = (y.dec p).due then y.latchReady o p e true else y

/-! ## Raw blocks (R506, R511, R513) -/

/-- A block header that R506 and R513 allow as a raw, FRAME or FRAME_END block; `W`, `H` and `d` are those of the frame being expanded. -/
def rawHeaderOk (b : Bytes) (W H d : Nat) : Bool :=
  let kind := rdLe b 1 1
  let len := rdLe b 4 2
  let orig := rdLe b 6 2
  16 ≤ b.length && rdLe b 0 1 == 0xB7 && 16 + len ≤ b.length && rdLe b 2 1 ≤ 1 &&
    (match kind with
     | 6 => len == 96 && orig == 96 && rdLe b 12 4 == 0 && rdLe b 3 1 == 0
     | 7 => len == 8 && orig == 8 && rdLe b 12 4 == 0 && rdLe b 3 1 == 0
     | k => k ≤ 3 && rdLe b 12 2 < H && rdLe b 14 2 < W && 0 < orig && 8 * orig / max 1 d ≤ 1024 && rdLe b 3 1 ≤ 15 &&
        (k != 3 || len == orig) && (k == 1 || k == 2 || rdLe b 3 1 == 0))

/-- Octets before the next valid block header. -/
def findBlock (W H d : Nat) : Nat → Bytes → Nat → Option Nat
  | 0, _, _ => none
  | n + 1, b, off => if b.isEmpty then none else if rawHeaderOk b W H d then some off else findBlock W H d n b.tail (off + 1)

/-- The packed pixels a raw block expands to; the check tells whether they are right (R511). -/
def expandBlock (d : Nat) (b : Bytes) : Bytes :=
  let orig := rdLe b 6 2
  let count := 8 * orig / max 1 d
  let payload := slice b 16 (rdLe b 4 2)
  let q := rdLe b 3 1
  match rdLe b 1 1 with
  | 3 => payload
  | 0 => packCodes d (Config.rawDecode 0 0 count payload)
  | 2 => packCodes d ((unpackCodes (16 - q) count payload).map (expandOf d q))
  | _ => packCodes d ((Config.rawDecode 1 q count payload).map (expandOf d q))

/-- Context of an expansion channel, where it is one: RAW_EXPAND with a context that takes it. -/
def Sys.expandCtx (y : Sys) (n : Nat) : Option Nat :=
  let x := y.expandCfg n 2
  if y.expandCfg n 1 ≠ 2 then none
  else if isSensor x then (if y.shadow (ent (0x3000 + x) 2) = 1 ∧ y.rd (ent (0x3000 + x) 1) ≠ 0 then some x else none)
  else if y.pb (x - 8) 1 = 2 then some x else none

/-- The frame an expansion fills. -/
def Sys.expanding (y : Sys) (n x : Nat) : Option Frame := ((y.zc n).expand.bind fun f => y.frame? x f).filter fun f => !f.complete

/-- Width, height and depth that positions and lengths are held against: those sent with the frame. -/
def sentSize (f : Option Frame) : Nat × Nat × Nat :=
  match f with
  | some f => (rdLe f.start 0 2, rdLe f.start 2 2, rdLe f.start 4 1)
  | none => (65536, 65536, 16)

/-- What the channel reads next: octets delivered by Felley or a feed, else the playback ring. -/
def Sys.expandInput (y : Sys) (n : Nat) (ring : Bytes) : Bytes :=
  let b := (y.zc n).input.flatten
  if b.isEmpty then ring else b

/-- Octets skipped to reach a valid header: 0x0E05 (R513). The lines they held are found missing when a later line arrives. -/
def Sys.skipOctets (y : Sys) (n k : Nat) : Sys :=
  if k = 0 then y else y.raiseLimited n 0x0E05 255 (ev [(0, 1, n), (4, 4, k)])

/-- A row is complete: its line goes to the frame, unless a block of it was bad, which loses it. -/
def Sys.expandRow (y : Sys) (n x : Nat) (f : Frame) : Sys :=
  let z := y.zc n
  let y := y.setZc n { z with row := [], bad := false, line := z.line + 1 }
  match f.groups[z.line % max 1 f.groups.length]? with
  | none => y
  | some fg =>
    if z.bad ∨ f.gen.height x ≤ z.line ∨ (fg.last.any fun l => decide (z.line ≤ l)) ∨ (f.cut.any fun c => decide (c ≤ z.line)) then y
    else y.takeLine x fg.group f fg z.line z.row 0

/-- A raw block of the frame being expanded: its pixels join their row. -/
def Sys.expandRaw (y : Sys) (n x : Nat) (f : Frame) (b : Bytes) : Sys :=
  let s := sentSize (some f)
  let d := s.2.2
  let line := rdLe b 12 2
  let col := rdLe b 14 2
  let px := expandBlock d b
  let good := px.length == rdLe b 6 2 && crcNat px == rdLe b 8 4
  let y := y.onFrame x f.num fun h => { h with source := h.source ++ b }
  let y := (y.inc64 (ent (0x4800 + n) 11) (rdLe b 6 2)).inc64 (ent (0x4800 + n) 12) b.length
  let y := if good then y
    else (y.inc (ent (0x4800 + n) 16)).raiseLimited n 0x0E01 255 (ev [(0, 1, n), (1, 1, rdLe b 1 1), (2, 2, line), (4, 4, f.num)])
  let z := y.zc n
  let z := if z.line = line then z else { z with line := line, row := [], bad := false }
  let have_ := 8 * z.row.length / max 1 d
  let count := 8 * rdLe b 6 2 / max 1 d
  let codes := unpackCodes d have_ z.row ++ unpackCodes d count px
  let y := y.setZc n { z with row := packCodes d codes, bad := z.bad || !good || have_ != col }
  if s.1 ≤ col + count then y.expandRow n x f else y

/-- FRAME block: the latch point, with its payload as the Frame Start (R513, R717, R761). A sensor context takes it as the Felley link's
FRAME_INFO and Frame Start. -/
def Sys.expandFrame (o : Otp) (y : Sys) (n x : Nat) (b : Bytes) : Sys :=
  let p := slice b 16 96
  let start := slice p 32 32
  let test := (rdLe start 7 1).testBit 0
  let y := match y.expanding n x with | some f => y.timeoutFrame f | none => y
  let y := (y.inc64 (ent (0x4800 + n) 12) b.length).setZc n { y.zc n with line := 0, row := [], bad := false }
  if isSensor x then
    let k := y.rd (ent (0x3000 + x) 4)
    let y := y.setFstream k { y.fstream k with info := frameInfo (rdLe p 0 4) (rdLe p 4 12) (rdLe p 18 2) (rdLe p 16 1) 2 (slice p 64 32) }
    match y.view.groupsOf x with
    | [] => y
    | g :: _ =>
      let y := y.frameStart o x g (rdLe p 0 4 % 65536) (rdLe p 4 12) test start
      let y := y.onFrame x (rdLe p 0 4) fun f => { f with source := b }
      y.setZc n { y.zc n with expand := some (rdLe p 0 4) }
  else
    let num := y.pbNum (x - 8)
    let g := y.view
    let mismatch := rdLe start 0 2 != g.width x || rdLe start 2 2 != g.height x
    let u := y.dec (x - 8)
    let y := y.setDec (x - 8) { u with due := u.due + 1, late := false }
    let m := u.manifests.lookup (rdLe p 0 4)
    let y := y.latch o
      { x := x, num := num, counter := rdLe p 0 4 % 65536, marks := if mismatch then 16 else 0, start := start,
        exposure := some (playbackRecord (some (slice p 64 32))), upstream := none, upHash := (m.map sha256).getD [],
        bits := rdLe start 4 1, groups := [⟨255, 0, true, false, false, none⟩], picture := [], source := b, complete := false }
    let y := if mismatch then y.geometryEvent x num start else y
    y.setZc n { y.zc n with expand := some num }

/-- FRAME_END: what is missing is lost, and the frame completes. -/
def Sys.expandEnd (y : Sys) (n x : Nat) (f : Frame) (b : Bytes) : Sys :=
  let y := y.onFrame x f.num fun h => { h with source := h.source ++ b }
  let y := Sys.inc64 (y.setZc n { y.zc n with expand := none, row := [], bad := false }) (ent (0x4800 + n) 12) b.length
  match y.frame? x f.num with | some h => y.endFrame h | none => y

/-- The next block of a channel: the octets skipped, the block, and what follows it. -/
def Sys.nextBlock (y : Sys) (n x : Nat) (ring : Bytes) : Option (Nat × Bytes × Bytes) :=
  let b := y.expandInput n ring
  let s := sentSize (y.expanding n x)
  (findBlock s.1 s.2.1 s.2.2 (b.length + 1) b 0).map fun off =>
    let r := b.drop off
    let len := 16 + rdLe r 4 2
    (off, r.take len, r.drop len)

/-- The block read leaves the channel's input. -/
def Sys.consume (y : Sys) (n : Nat) (rest : Bytes) : Sys := y.setZc n { y.zc n with input := if rest.isEmpty then [] else [rest] }

/-- RAW_EXPAND_FRAME_BLOCK (R513): the FRAME block at the head of the channel's input; a playback context expands it at the due instant. -/
def execRawExpandFrameBlock (channel : Fin 64) (ring : Bytes) (s : State) : Host.Outcome State Fault Refusal :=
  onSys s fun o y =>
    let n := channel.val
    match y.expandCtx n with
    | none => y
    | some x =>
      match y.nextBlock n x ring with
      | some (skip, b, rest) =>
        if rdLe b 1 1 ≠ 6 then y
        else if crcNat (slice b 16 96) ≠ rdLe b 8 4 then
          ((y.consume n rest).inc (ent (0x4800 + n) 16)).raiseLimited n 0x0E01 255 (ev [(0, 1, n), (1, 1, 6)])
        else ((y.consume n rest).skipOctets n skip).expandFrame o n x b
      | none => y

/-- RAW_EXPAND_BLOCK (R506, R511, R513): the next block of the frame being expanded. A FRAME block waits for its own command; octets with no valid
header in them are skipped. -/
def execRawExpandBlock (channel : Fin 64) (ring : Bytes) (s : State) : Host.Outcome State Fault Refusal :=
  onSys s fun _ y =>
    let n := channel.val
    match y.expandCtx n with
    | none => y
    | some x =>
      match y.nextBlock n x ring with
      | none => (y.consume n []).skipOctets n (y.expandInput n ring).length
      | some (skip, b, rest) =>
        let kind := rdLe b 1 1
        if kind = 6 then Sys.skipOctets (y.consume n (b ++ rest)) n skip
        else
          let y := (y.consume n rest).skipOctets n skip
          match y.expanding n x with
          | none => y
          | some f =>
            if kind = 7 then
              if crcNat (slice b 16 8) = rdLe b 8 4 then y.expandEnd n x f b
              else (y.inc (ent (0x4800 + n) 16)).raiseLimited n 0x0E01 255 (ev [(0, 1, n), (1, 1, 7), (4, 4, f.num)])
            else y.expandRaw n x f b

/-- PICTURE_DUE (R493): the next output index falls due. A decoded picture latches; else it is late, and latches when its decoding completes. The
FRAME block of a RAW context is expanded. -/
def execPictureDue (ctx : Fin 8) (s : State) : Host.Outcome State Fault Refusal :=
  onSys s fun o y =>
    let p := ctx.val
    let u := y.dec p
    if y.pb p 5 ≠ 0 then y
    else if y.pb p 1 = 1 then
      match u.ready.find? (·.out == u.due) with
      | some d => y.latchReady o p d false
      | none => y.setDec p { u with late := true }
    else
      match (List.range 64).find? fun n => y.expandCtx n == some (8 + p) with
      | none => y
      | some n =>
        match y.nextBlock n (8 + p) [] with
        | some (skip, b, rest) =>
          if rdLe b 1 1 = 6 ∧ crcNat (slice b 16 96) = rdLe b 8 4 then ((y.consume n rest).skipOctets n skip).expandFrame o n (8 + p) b
          else y
        | none => y

/-! ## Seek and feeds (R498, R560) -/

/-- Seek: unread input and pictures not yet output go, the decoder waits, and TIMED pacing restarts at output index 0. -/
def Sys.seek (y : Sys) (p v : Nat) : Status × Sys :=
  if v ≠ 1 then (.range, y)
  else
    let u := y.dec p
    let y := y.setDec p { u with input := [], ready := [], due := 0, late := false, lastIndex := none, dropRasl := false }
    let y := (List.range 64).foldl (fun y n =>
      if y.rd (ent (0x4800 + n) 1) = 2 ∧ y.rd (ent (0x4800 + n) 2) = 8 + p then
        y.setZc n { y.zc n with input := [], row := [], bad := false }
      else y) y
    (.ok, y.decWait p)

/-- DECODE_SEEK. -/
def execDecodeSeek (ctx : Fin 8) (s : State) : Host.Outcome State Fault Refusal := onSys s fun _ y => (y.seek ctx.val 1).2

/-- A sealed payload opened: none where the tag does not match (R189, R529). -/
def openChunk (key : Option Bytes) (id units octets : Nat) (b : Bytes) : Option Bytes :=
  match key with
  | none => some b
  | some k =>
    let body := b.take (b.length - 16)
    let plain := (gcmSeal k (le 4 id ++ le 8 units) (le 4 id ++ le 8 octets) body).1
    let again := gcmSeal k (le 4 id ++ le 8 units) (le 4 id ++ le 8 octets) plain
    if again.1 ++ again.2 = b then some plain else none

/-- Payloads of a stream in order, from a frame on: `units` and `octets` count the stream so far. -/
def feedPayloads (key : Option Bytes) (id first : Nat) : List FeedChunk → Nat → Nat → List Bytes
  | [], _, _ => []
  | c :: r, units, octets =>
    if c.stream.toNat ≠ id ∨ !(c.kind = 1 ∨ c.kind = 2) then feedPayloads key id first r units octets
    else
      match openChunk key id units octets c.payload with
      | none => feedPayloads key id first r (units + 1) (octets + (c.payload.length - 16))
      | some b =>
        let tail := feedPayloads key id first r (units + 1) (octets + b.length)
        if first ≤ c.frame.toNat then b :: tail else tail

/-- A feed is refused: 0 encrypted, 1 no such clip or stream. -/
def Sys.feedRefused (y : Sys) (p reason : Nat) : Sys :=
  (y.wr (ent (0x4980 + p) 5) 3).raise 0x0F13 p (ev [(0, 1, p), (1, 1, reason)])

/-- PLAYBACK_FEED_START (R560): the feed reads the clip's chunks, which the operand lists in order from its start to its committed end, and hands
the stream to the decoder or the expansion. -/
def execPlaybackFeedStart (ctx : Fin 8) (chunks : List FeedChunk) (s : State) : Host.Outcome State Fault Refusal :=
  onSys s fun _ y =>
    let p := ctx.val
    let id := y.feedCfg p 1
    let stream := y.feedCfg p 2
    if id = 0 then y.wr (ent (0x4980 + p) 5) 0
    else
      match y.vol.directory.find? fun c => c.2.id == id with
      | none => y.feedRefused p 1
      | some (slot, c) =>
        let key := (y.media.recs.find? fun r => r.2.slot == some slot).bind fun r => r.2.key
        if !(chunks.any fun c => c.stream.toNat == stream && (c.kind == 1 || c.kind == 2)) then y.feedRefused p 1
        else if c.flags.testBit 0 ∧ key.isNone then y.feedRefused p 0
        else
          let got := feedPayloads (if c.flags.testBit 0 then key else none) stream (y.feedCfg p 3) chunks 0 0
          let ms := (chunks.filter fun c => c.kind == 3).map fun c => (c.frame.toNat, c.payload)
          let y := y.setDec p { y.dec p with manifests := ms }
          let y := if y.pb p 1 = 1 then y.setDec p { y.dec p with input := (y.dec p).input ++ [got.flatten] }
            else match (List.range 64).find? fun n => y.expandCtx n == some (8 + p) with
              | some n => y.setZc n { y.zc n with input := (y.zc n).input ++ got }
              | none => y
          y.wr (ent (0x4980 + p) 5) 2

end Sys2Proof.Machine
end

