-- ==== Sys2Proof/Machine/Audio.lean ====
section
/-!
DEFINITION. Sys2Proof/Machine/Audio.lean: the audio ports and the ST 2110-30 senders (R597 to R615, R460). Instants are T96 in
2^-32 ns.
-/

namespace Sys2Proof.Machine

def audioIn0 : AudioIn := { lostAt := none, lostMark := false, wait := [], recFrom := none }
def audioOut0 : AudioOut := { buf := [], prev := (0, 0), under := none, integ := 0, resync := none, phase := 0 }
def Sys.ain (y : Sys) (n : Nat) : AudioIn := tget (fun _ => audioIn0) y.audioIn n
def Sys.setAin (y : Sys) (n : Nat) (v : AudioIn) : Sys := { y with audioIn := tset (fun _ => audioIn0) y.audioIn n v }
def Sys.aout (y : Sys) (k : Nat) : AudioOut := tget (fun _ => audioOut0) y.audioOut k
def Sys.setAout (y : Sys) (k : Nat) (v : AudioOut) : Sys := { y with audioOut := tset (fun _ => audioOut0) y.audioOut k v }

/-- Configuration and status entries of APn. -/
abbrev apCfg (n i : Nat) : Nat := ent (0x2500 + n) i
abbrev apStat (n i : Nat) : Nat := ent (0x2530 + n) i

/-- Sample rate of a code of 0x2500 + n:04 in Hz. -/
def audioFs : Nat → Nat
  | 0 => 32000 | 1 => 44100 | 2 => 48000 | 3 => 88200 | 4 => 96000 | 5 => 176400 | _ => 192000
def Sys.apFs (y : Sys) (n : Nat) : Nat := audioFs (y.rd (apCfg n 4))

/-- Nanoseconds in a second, in 2^-32 ns. -/
abbrev secT96 : Nat := 1000000000 * 2 ^ 32

/-- Sample frame of the grid that has begun at an instant, and the instant at which sample frame k begins (R600). -/
def gridSlot (fs t : Nat) : Nat := (t + 1) * fs / secT96
def gridTime (fs k : Nat) : Nat := k * secT96 / fs

inductive ApDir where
  | off | rx | tx
  deriving DecidableEq, Repr
def Sys.apDir (y : Sys) (n : Nat) : ApDir := match y.rd (apCfg n 1) with | 1 => .rx | 2 => .tx | _ => .off
inductive ApClock where
  | slave | aligned | free
  deriving DecidableEq, Repr
def Sys.apClock (y : Sys) (n : Nat) : ApClock := match y.rd (apCfg n 2) with | 0 => .slave | 1 => .aligned | _ => .free

/-- Flags of 0x2530 + n:02. -/
inductive ApFlag where
  | clockLost | held | atRange | zeros
  deriving DecidableEq, Repr
def ApFlag.bit : ApFlag → Nat
  | .clockLost => 0 | .held => 1 | .atRange => 2 | .zeros => 3
def Sys.apFlag (y : Sys) (n : Nat) (f : ApFlag) (v : Bool) : Sys := y.wrBit (apStat n 2) f.bit v

/-! ## Destinations (R602, R606) -/

/-- A destination: a TX port, or the part of a sender that one source port feeds. -/
inductive Dst where
  | port (n : Nat)
  | sender (a p : Nat)
  deriving DecidableEq, Repr
def Dst.key : Dst → Nat | .port n => n | .sender a p => 64 + 48 * a + p
/-- Octet 0 of the events of a destination (R614). -/
def Dst.code : Dst → Nat | .port n => n | .sender a _ => 48 + a

/-- Port and channel that a sender's channel k names (R612). -/
def Sys.senderChannel (y : Sys) (a k : Nat) : Option (Nat × Bool) :=
  let v := y.rd (ent (0x2568 + a) (k + 1))
  if v = 0xFFFF then none else some (v % 64, v.testBit 8)
/-- Ports that an enabled sender takes. -/
def Sys.senderPorts (y : Sys) (a : Nat) : List Nat :=
  if y.rd (ent (0x4198 + a) 1) = 0 then [] else
    ((List.range (y.rd (ent (0x4198 + a) 7))).filterMap fun k => (y.senderChannel a k).map (·.1)).eraseDups

/-- The destinations that RX port n feeds. -/
def Sys.apDests (y : Sys) (n : Nat) : List Dst :=
  ((List.range 48).filter fun m => y.apDir m == .tx && y.rd (apCfg m 8) == 1 && y.rd (apCfg m 9) == n).map Dst.port ++
    ((List.range 8).filter fun a => (y.senderPorts a).contains n).map fun a => Dst.sender a n

/-- Samples reach a destination: what its 8,192 frames cannot hold is discarded (R606). -/
def Sys.apArrive (y : Sys) (d : Dst) (l : List ASample) : Sys :=
  let u := y.aout d.key
  let room := 8192 - u.buf.length
  let y := y.setAout d.key { u with buf := u.buf ++ l.take room }
  let lost := l.length - room
  match d with
  | .port n =>
    let y := y.wr (apStat n 3) (y.aout n).buf.length
    if lost = 0 then y
    else (y.incBy (apStat n 0x0B) lost).raiseLimited n 0x1107 n (ev [(0, 1, n), (4, 4, lost)])
  | .sender a _ => if lost = 0 then y else y.raiseLimited (48 + a) 0x1107 a (ev [(0, 1, 48 + a), (4, 4, lost)])

/-! ## Slips, zeros and underrun (R603, R605, R608, R609) -/

/-- A slip is counted and raised (R603). -/
def Sys.apSlip (y : Sys) (d : Dst) (repeated : Bool) (e : Int) : Sys :=
  let y := match d with | .port n => y.inc (apStat n (if repeated then 8 else 7)) | .sender _ _ => y
  y.raiseLimited d.code 0x1105 (d.code % 48) (ev [(0, 1, d.code), (1, 1, if repeated then 1 else 0), (4, 4, ofI 32 (satI32 e))])

/-- A frame of zeros for want of a sample: an underrun begins or goes on (R608). -/
def Sys.apZero (y : Sys) (d : Dst) (source : Nat) : Sys :=
  let u := y.aout d.key
  let y := y.setAout d.key { u with under := some (u.under.getD 0 + 1), prev := (0, 0) }
  let y := match d with
    | .port n => (((y.inc64 (apStat n 9) 1).wr (apStat n 1) 3).apFlag n .zeros true)
    | .sender _ _ => y
  if u.under.isSome then y else y.raiseLimited d.code 0x1103 (d.code % 48) (ev [(0, 1, d.code), (1, 1, source)])

/-- The destination has resumed after an underrun (R608). -/
def Sys.apResume (y : Sys) (d : Dst) : Sys :=
  let u := y.aout d.key
  match u.under with
  | none => y
  | some z =>
    let y := y.setAout d.key { u with under := none }
    let y := match d with
      | .port n => ((y.apFlag n .zeros false).apFlag n .held false).wr (apStat n 1) 1
      | .sender _ _ => y
    y.raise 0x1104 (d.code % 48) (ev [(0, 1, d.code), (4, 4, z)])

/-- The oldest frame leaves the buffer and is output. -/
def Sys.apTake (y : Sys) (d : Dst) : (Nat × Nat) × Sys :=
  let u := y.aout d.key
  match u.buf with
  | f :: r => ((f.left, f.right), y.setAout d.key { u with buf := r, prev := (f.left, f.right) })
  | [] => (u.prev, y)

/-- The oldest frames that lie before the threshold are discarded, as many as there are. -/
def dropOld (limit : Int) : List ASample → List ASample × Nat
  | [] => ([], 0)
  | f :: r => if (f.time : Int) < limit then (dropOld limit r).map id (· + 1) else (f :: r, 0)

/-- One slot of an aligned destination: the frame it outputs (R603, R608, R609). `e` is the time of the source sample due next plus the
delay, minus the slot's grid time. While an underrun or a time step is being followed, frames older than the threshold are
discarded and zeros are output until a frame is due. -/
def Sys.alignedSlot (y : Sys) (d : Dst) (source delay thr slot : Nat) : (Nat × Nat) × Sys :=
  let u := y.aout d.key
  let err (l : List ASample) : Option Int := l.head?.map fun f => (f.time + delay : Nat) - (slot : Int)
  let show_ (e : Int) (y : Sys) : Sys :=
    match d with | .port n => y.wrI (apStat n 6) (e / (2 ^ 32 : Nat)) | .sender _ _ => y
  if u.resync.isSome || u.under.isSome then
    let kept := dropOld ((slot : Int) - delay - thr) u.buf
    let due : Bool := match err kept.1 with | some e => decide (e ≤ thr) | none => false
    let n := u.resync.map fun k => k + kept.2 + if due then 0 else 1
    let y := y.setAout d.key { u with buf := kept.1, resync := n }
    if due then
      let y := match n with
        | some k => (y.setAout d.key { y.aout d.key with resync := none }).raise 0x1108 (d.code % 48) (ev [(0, 1, d.code), (4, 4, k)])
        | none => y
      (show_ ((err kept.1).getD 0) (y.apResume d)).apTake d
    else if u.resync.isSome && u.under.isNone then ((0, 0), y)
    else ((0, 0), y.apZero d source)
  else
    match err u.buf with
    | none => ((0, 0), y.apZero d source)
    | some e =>
      let y := show_ e y
      if (thr : Int) < e then
        let y := (y.setAout d.key { u with buf := u.buf.drop 1 }).apSlip d false (e / (2 ^ 32 : Nat))
        if (y.aout d.key).buf.isEmpty then ((0, 0), y.apZero d source) else y.apTake d
      else if e < -(thr : Int) then (u.prev, y.apSlip d true (e / (2 ^ 32 : Nat)))
      else y.apTake d

/-- One slot of a FREE or SLAVE port: it takes the next frame, or outputs zeros until its level has refilled to the target. -/
def Sys.levelSlot (y : Sys) (n source : Nat) : (Nat × Nat) × Sys :=
  let u := y.aout n
  if u.under.isSome && decide (u.buf.length < y.rd (apCfg n 0x0A)) then ((0, 0), y.apZero (.port n) source)
  else if u.buf.isEmpty then ((0, 0), y.apZero (.port n) source)
  else (y.apResume (.port n)).apTake (.port n)

/-! ## The Yo-yo loop (R604) -/

/-- pi in 10^-15. -/
abbrev piFemto : Nat := 3141592653589793

/-- Integrator, and steering offset x in 0.001 ppm, after a block: exact rational arithmetic, the integrator held as i × fs (log
entry 32). -/
def yoyo (fs block bw range : Nat) (integ e : Int) : Int × Int :=
  let b := 2 * piFemto * bw
  let bound : Int := (range * fs * fs * 10 ^ 28 / (b * b) : Nat)
  let j := max (-bound) (min bound (integ + e * block))
  let x := (1414 * (b : Int) * e) / ((10 ^ 11 * fs : Nat) : Int) + (b : Int) * b * j / ((10 ^ 25 * fs * fs : Nat) : Int)
  (j, max (-(1000 * range : Nat) : Int) (min ((1000 * range : Nat) : Int) x))

/-- The loop runs once per block of a FREE port, unless it is held (R604, R607). -/
def Sys.apSteer (y : Sys) (n : Nat) : Sys :=
  if y.rdBit (apStat n 2) ApFlag.held.bit then y
  else
    let u := y.aout n
    let range := y.rd (apCfg n 0x0E)
    let e : Int := (u.buf.length : Int) - y.rd (apCfg n 0x0A)
    let r := yoyo (y.apFs n) (y.rd (apCfg n 7)) (y.rd (apCfg n 0x0D)) range u.integ e
    let y := (y.setAout n { u with integ := r.1 }).wrI (apStat n 4) r.2
    let atRange := decide (r.2.natAbs = 1000 * range)
    let was := y.rdBit (apStat n 2) ApFlag.atRange.bit
    let y := y.apFlag n .atRange atRange
    if atRange && !was then y.raise 0x1106 n (ev [(0, 1, n), (4, 4, ofI 32 r.2)]) else y

/-- A SLAVE port whose level has moved more than the threshold beyond the target drops or repeats one frame at the first sample of the
block (R605): whether the first slot repeats. -/
def Sys.apLevelSlip (y : Sys) (n : Nat) : Bool × Sys :=
  let u := y.aout n
  let level := u.buf.length
  let target := y.rd (apCfg n 0x0A)
  let thr := y.rd (apCfg n 0x0C)
  if u.under.isSome || u.buf.isEmpty then (false, y)
  else if target + thr < level then (false, (y.setAout n { u with buf := u.buf.drop 1 }).apSlip (.port n) false 0)
  else if level + thr < target then (true, y.apSlip (.port n) true 0)
  else (false, y)

/-! ## Receiving (R597, R601, R611) -/

/-- A sample as the module holds it: the bits below the word length are 0 (R597). -/
def heldSample (word : Nat) (v : W32) : Nat := v.toNat / 2 ^ (32 - word) * 2 ^ (32 - word)

/-- The recorded payload (R611). -/
def audioPayload (word flags fs : Nat) (l : List ASample) : Bytes :=
  let one (v : Nat) : Bytes := if 24 < word then le 4 v else le 3 (v / 256)
  le 4 l.length ++ le 1 word ++ le 1 flags ++ le 2 0 ++ le 4 fs ++ l.flatMap fun f => one f.left ++ one f.right

/-- The port's samples gather for its record context; once a later latch point of the context has passed, those before it make a chunk
(R611). -/
def Sys.apRecord (y : Sys) (n flags : Nat) (l : List ASample) : Sys :=
  let x := y.rd (apCfg n 0x0F)
  if 16 ≤ x then y.setAin n { y.ain n with wait := [], recFrom := none }
  else
    let u := y.ain n
    let all := u.wait ++ l
    let mark : Option (Nat × Nat) := (y.ctx x).last.map fun p => (p.2, (y.ctx x).lastLatch)
    match u.recFrom, mark with
    | none, none => y
    | none, some m => y.setAin n { u with wait := all.filter (fun f => decide (m.2 ≤ f.time)), recFrom := some m }
    | some _, none => y.setAin n { u with wait := [], recFrom := none }
    | some m0, some m =>
      if m.2 ≤ m0.2 || !(all.any fun f => decide (m.2 ≤ f.time)) then y.setAin n { u with wait := all }
      else
        let old := all.filter fun f => decide (f.time < m.2)
        let y := y.setAin n { u with wait := all.filter (fun f => decide (m.2 ≤ f.time)), recFrom := some m }
        y.recordAside x .audio (0x60000 + n) m0.1 m0.2 (audioPayload (y.rd (apCfg n 5)) flags (y.apFs n) old)

/-- A block received on an RX port goes to its destinations, its record context and its Felley stream (R602). -/
def Sys.apReceive (y : Sys) (n : Nat) (l : List ASample) : Sys :=
  let lost := (y.ain n).lostMark
  let y := y.setAin n { y.ain n with lostMark := false }
  let flags := if lost then 1 else 0
  let y := (y.apDests n).foldl (fun y d => y.apArrive d l) y
  let y := y.apRecord n flags l
  let s := y.rd (apCfg n 0x10)
  if s < 64 && y.felleyCfg s 0 == 1 && y.felleyCfg s 1 == 5 then
    (y.felleyPut s 0 0 true (audioPayload (y.rd (apCfg n 5)) flags (y.apFs n) l)).2
  else y

/-- A block that arrived on Felley stream s feeds the TX ports with that source; its samples are timed from the instant of arrival (log
entry 32). -/
def Sys.apFelley (y : Sys) (stream : Nat) (msg : Bytes) : Sys :=
  let f := rdLe msg 0 4
  let word := rdLe msg 4 1
  let fs := max 1 (rdLe msg 8 4)
  let sz := if 24 < word then 4 else 3
  let one (i : Nat) : Nat := if sz = 4 then rdLe msg (12 + sz * i) 4 else rdLe msg (12 + sz * i) 3 * 256
  let l := (List.range (min f (msg.length / (2 * sz)))).map fun i => ⟨y.t96 + i * secT96 / fs, one (2 * i), one (2 * i + 1)⟩
  ((List.range 48).filter fun m => y.apDir m == .tx && y.rd (apCfg m 8) == 2 && y.rd (apCfg m 9) == stream).foldl
    (fun y m => y.apArrive (.port m) l) y

/-! ## Blocks -/

/-- The balls of a port are driven: not in Standby (R652), and SHADOW floats a master-mode port unless told otherwise (R610). -/
def Sys.apDriven (y : Sys) (n : Nat) : Bool := !y.portsHeld 35 && y.rd (ent 0x2700 1) != 2 && !(y.roleShadow && y.apClock n != .slave && y.rd (apCfg n 0x11) != 1)

/-- A block of a TX port: its slots in order (R602 to R609). `first` is the T96 of the first WS edge, `period` the interval. -/
def Sys.apSend (y : Sys) (n first period : Nat) : Sys :=
  let count := y.rd (apCfg n 7)
  let fs := y.apFs n
  let src := y.rd (apCfg n 8)
  let from_ := if src = 1 then y.rd (apCfg n 9) else 255
  let slotAt (i : Nat) : Nat := if y.apClock n = .aligned then gridTime fs (gridSlot fs first + i) else first + i * period
  let r := match src with
    | 0 => (List.replicate count (0, 0), y.setAout n { y.aout n with buf := [], under := none })
    | 3 =>
      let p := (y.aout n).phase
      ((List.range count).map fun i =>
          let v := heldSample (y.rd (apCfg n 5)) (Config.toneSample ((p + i) % 48)); (v, v),
        y.setAout n { y.aout n with buf := [], under := none, phase := (p + count) % 48 })
    | _ =>
      let delay := y.rd (apCfg n 0x0B) * 1000 * 2 ^ 32
      let thr := y.rd (apCfg n 0x0C) * secT96 / fs
      let pre := match y.apClock n with
        | .aligned => (false, y)
        | .free => (false, y.apSteer n)
        | .slave => y.apLevelSlip n
      (List.range count).foldl (fun a i =>
        let o := match y.apClock n with
          | .aligned => a.2.alignedSlot (.port n) from_ delay thr (slotAt i)
          | _ => if i = 0 && pre.1 then ((a.2.aout n).prev, a.2) else a.2.levelSlot n from_
        (a.1 ++ [o.1], o.2)) ([], pre.2)
  let y := (r.2.wr (apStat n 3) (r.2.aout n).buf.length).wr (apStat n 5) (slotAt 0)
  if y.apDriven n then
    let y := if (y.aout n).under.isNone then y.wr (apStat n 1) 1 else y
    y.send (.audio n (slotAt 0) r.1)
  else y.wr (apStat n 1) 4

/-- AUDIO_BLOCK (R601): a block of port n completes. `time` is the T96 of the first sample's WS edge, received or driven, `period` the
measured interval of SLAVE and FREE ports, and `samples` what an RX port sampled. -/
def execAudioBlock (port : Fin 48) (time period : BitVec 96) (samples : List (W32 × W32)) (s : State) :
    Host.Outcome State Fault Refusal :=
  onSys s fun _ y =>
    let n := port.val
    let fs := y.apFs n
    match y.apDir n with
    | .off => ((y.setAin n audioIn0).setAout n audioOut0).wr (apStat n 1) 0
    | .rx =>
      if (y.ain n).lostAt.isSome || y.portsHeld 35 then y
      else
        let k := gridSlot fs time.toNat
        let at_ (i : Nat) : Nat := if y.apClock n = .slave then time.toNat + i * period.toNat else gridTime fs (k + i)
        let word := y.rd (apCfg n 5)
        let l := (samples.take (y.rd (apCfg n 7))).zipIdx.map fun p => ⟨at_ p.2, heldSample word p.1.1, heldSample word p.1.2⟩
        let y := (y.wr (apStat n 5) (at_ 0)).wr (apStat n 1) (if y.apDriven n then 1 else 4)
        y.apReceive n l
    | .tx =>
      if (y.ain n).lostAt.isSome || y.inReset then y else y.apSend n time.toNat period.toNat

/-! ## Clock loss (R607) -/

/-- FREE TX ports that take port n. -/
def Sys.freeDests (y : Sys) (n : Nat) : List Nat :=
  (List.range 48).filter fun m => (y.apDests n).contains (.port m) && y.apClock m == .free

/-- AUDIO_CLOCK_LOSS (R607): 4 periods without WS, or 10 ms more than 1,000 ppm off. -/
def execAudioClockLoss (port : Fin 48) (rate : Bool) (s : State) : Host.Outcome State Fault Refusal :=
  onSys s fun _ y =>
    let n := port.val
    if y.apDir n = .off || y.apClock n != .slave || (y.ain n).lostAt.isSome then y
    else
      let y := y.setAin n { y.ain n with lostAt := some y.up, lostMark := true }
      let y := ((y.apFlag n .clockLost true).wr (apStat n 1) 2).inc (apStat n 0x0A)
      let y := (y.freeDests n).foldl (fun y m => y.apFlag m .held true) y
      y.raise 0x1101 n (ev [(0, 1, n), (1, 1, if rate then 1 else 0)])

/-- AUDIO_CLOCK_RESTORED (R607): 64 good periods. A FREE destination that did not run out steers again. -/
def execAudioClockRestored (port : Fin 48) (s : State) : Host.Outcome State Fault Refusal :=
  onSys s fun _ y =>
    let n := port.val
    match (y.ain n).lostAt with
    | none => y
    | some t =>
      let y := y.setAin n { y.ain n with lostAt := none }
      let y := (y.apFlag n .clockLost false).wr (apStat n 1) 1
      let y := (y.freeDests n).foldl (fun y m => if (y.aout m).under.isNone then y.apFlag m .held false else y) y
      y.raise 0x1102 n (ev [(0, 1, n), (4, 4, (y.up - t) / 1000)])

/-- A time step moves the grid of every aligned destination (R609). -/
def Sys.audioStep (y : Sys) : Sys :=
  let ports := ((List.range 48).filter fun n => y.apDir n == .tx && y.apClock n == .aligned && 1 ≤ y.rd (apCfg n 8) &&
    y.rd (apCfg n 8) ≤ 2).map Dst.port
  let senders := (List.range 8).flatMap fun a => (y.senderPorts a).map fun p => Dst.sender a p
  (ports ++ senders).foldl (fun y d => y.setAout d.key { y.aout d.key with resync := some 0 }) y

/-! ## ST 2110-30 (R460, R612) -/

/-- ST2110_AUDIO_SEND (R460): the packet whose last sample frame has just begun. Its sequence number counts packets of the grid, so that
twins send identical packets (R459). -/
def execSt2110AudioSend (sender : Fin 8) (s : State) : Host.Outcome State Fault Refusal :=
  onSys s fun _ y =>
    let a := sender.val
    let b := 0x4198 + a
    if y.rd (ent b 1) = 0 then y
    else
      let spp := if y.rd (ent b 6) = 0 then 48 else 6
      let index := (gridSlot 48000 y.t96 + 1) / spp - 1
      let k0 := index * spp
      let delay := y.rd (ent (0x2568 + a) 0x41) * 1000 * 2 ^ 32
      let r := (y.senderPorts a).foldl (fun (acc : List (Nat × List (Nat × Nat)) × Sys) p =>
        let thr := y.rd (apCfg p 0x0C) * secT96 / 48000
        let o := (List.range spp).foldl (fun (c : List (Nat × Nat) × Sys) i =>
          let q := c.2.alignedSlot (.sender a p) p delay thr (gridTime 48000 (k0 + i))
          (c.1 ++ [q.1], q.2)) ([], acc.2)
        (acc.1 ++ [(p, o.1)], o.2)) ([], y)
      let octets (v : Nat) : Bytes := if y.rd (ent b 5) = 0 then be 2 (v / 65536) else be 3 (v / 256)
      let body := (List.range spp).flatMap fun i => (List.range (y.rd (ent b 7))).flatMap fun k =>
        octets (match y.senderChannel a k with
          | none => 0
          | some (p, right) => let f := ((r.1.lookup p).getD []).getD i (0, 0); if right then f.2 else f.1)
      let ts := gridTime 48000 k0 / 2 ^ 32 * 48000 / 1000000000 % 2 ^ 32
      let addr := y.rdB (ent b 4)
      -- the sender's table gives no payload type: the 7 bits are free
      let pt := r.2.free 7
      let msg := rtpHeader false pt.1 (index % 65536) ts (rdLe addr 24 4) ++ body
      (pt.2.pathsUp (8 + a)).foldl (fun y q => y.send (.rtp 2 a q.1 index msg)) pt.2

end Sys2Proof.Machine
end

