-- ==== Sys2Proof/Machine/Time.lean ====
section
/-!
DEFINITION. Sys2Proof/Machine/Time.lean: the time base and its discipline (R196 to R210, R213). Offsets are source time minus local time
in 2^-32 ns.
-/

namespace Sys2Proof.Machine

/-! ## The state byte (R199) -/

/-- STATE: 0 FREE_RUN, 1 ACQUIRING, 2 LOCKED, 3 HOLDOVER, 4 HOLDOVER_EXCEEDED. -/
def Sys.tbState (y : Sys) : Nat := y.rd (ent 0x2300 2) % 8
/-- SOURCE. -/
def Sys.tbSource (y : Sys) : Nat := y.rd (ent 0x2300 2) / 8 % 8
def Sys.setTbState (y : Sys) (n : Nat) : Sys := y.wr (ent 0x2300 2) (y.rd (ent 0x2300 2) / 8 * 8 + n)
def Sys.setTbSource (y : Sys) (n : Nat) : Sys :=
  let b := y.rd (ent 0x2300 2)
  y.wr (ent 0x2300 2) (b / 64 * 64 + n * 8 + b % 8)
/-- A source is selected: acquired or followed. -/
def Sys.tbFollows (y : Sys) : Bool := y.tbState == 1 || y.tbState == 2

end Sys2Proof.Machine

/-- Codes of SOURCE. -/
def Sys2Proof.TimeSource.code : TimeSource → Nat
  | .tref => 1 | .trefPps => 2 | .ptp => 3 | .felley => 4 | .garos => 5
/-- Reasons of event 0x0601. -/
def Sys2Proof.RefFault.code : RefFault → Nat
  | .stopped => 0 | .glitch => 1 | .rate => 2 | .grandmaster => 3

namespace Sys2Proof.Machine

def Sys.onTime (y : Sys) (f : TimeBase → TimeBase) : Sys := { y with time := f y.time }

/-- An offset in whole ns. -/
def offNs (o : Int) : Int := o / 2 ^ 32

/-! ## The increment (R196, R197, R206) -/

/-- 2.0 ns. -/
abbrev nominalIncr : Nat := 8589934592

/-- The increment set, with the frequency offset in 0.1 ppb. -/
def Sys.setIncr (y : Sys) (v : Nat) : Sys :=
  let v := max (nominalIncr - 214748) (min (nominalIncr + 214748) v)
  ((y.wr (ent 0x2300 3) v).wrI (ent 0x2300 5) (((v : Int) - nominalIncr) * 10000000000 / nominalIncr)).onTime fun b => { b with adjAt := y.up }

/-- The ramp of 0.5 ppm/s, in steps of the increment a nanosecond (R197). -/
abbrev rampRate : Rat := mkRat nominalIncr 2000000000000000

/-- `dt` ns of slewing (R203, R206): on the ramp from a departure `d` of the increment to the peak, at most the limit `s`, there as long as the offset
asks for it, and back on the ramp, which ends as the offset does. `o` is twice the offset, so that `d` a nanosecond takes it away; braking from `d` would
fall short of it. Answers the departure and the offset left. -/
def slewUp (o d s dt : Rat) : Rat × Rat :=
  let q := rampRate * o + d * d / 2
  let p : Rat := if s * s ≤ q then s else (iroot 2 q.floor.toNat 40 0 : Nat)
  let up := (if p < d then d - p else p - d) / rampRate
  let gone := (p + d) / 2 * up
  let flat := max 0 ((o - gone - p * p / (2 * rampRate)) / p)
  let left := up + flat + p / rampRate - dt
  if dt ≤ up then
    let v := if p < d then d - rampRate * dt else d + rampRate * dt
    (v, o - (d + v) / 2 * dt)
  else if dt ≤ up + flat then (p, o - gone - p * (dt - up))
  else if 0 < left then (rampRate * left, rampRate * left * left / 2)
  else (0, 0)

/-- The same for an offset of either sign: one that braking would overshoot is slewed from the other side. -/
def slewRun (o d s dt : Rat) : Rat × Rat :=
  let stop := d * (if d < 0 then -d else d) / (2 * rampRate)
  if o < stop then
    let r := slewUp (-o) (-d) s dt
    (-r.1, -r.2)
  else slewUp o d s dt

/-- The increment goes to a target as far as the ramp of 0.5 ppm/s since its last change lets it (R197). -/
def Sys.rampTo (y : Sys) (target : Nat) : Sys :=
  let old := y.rd (ent 0x2300 3)
  let ramp := nominalIncr * (y.up - y.time.adjAt) / 2000000000000000
  y.setIncr (max (old - ramp) (min (old + ramp) target))

/-- The increment and the offset are carried to now: on the ramp to the frequency worked towards, with the departure that slewing the offset takes. In
a reset the increment stands still (R198); before the frequency is acquired (R203 step 2) nothing is slewed. -/
def Sys.carryTime (y : Sys) : Sys :=
  if y.inReset ∨ (y.tbState = 1 ∧ !y.time.acquired) then y
  else if y.time.offset = 0 ∧ !y.tbFollows then y.rampTo y.time.freq
  else
    let r := slewRun (2 * y.time.offset : Int) ((y.rd (ent 0x2300 3) : Int) - y.time.freq : Int) (nominalIncr * y.rd (ent 0x2301 7) / 10000000 : Nat)
      (y.up - y.time.adjAt : Nat)
    (y.setIncr ((y.time.freq : Rat) + r.1).floor.toNat).onTime fun b => { b with offset := (r.2 / 2).floor }

/-- The frequency that the discipline works towards in holdover: TREF's while that is followed, else what the drift model predicts (R207, R208). -/
def Sys.driftFreq (y : Sys) : Sys :=
  if (y.tbState = 3 ∨ y.tbState = 4) ∧ !(y.time.hold.any (·.tref)) then
    y.onTime fun b => { b with freq := Config.driftPredict y.mram.drift.bins y.mram.drift.ageing (y.rdI (ent 0x2300 7)) y.t96 }
  else y

/-- The discipline moves the increment. -/
def Sys.steer (y : Sys) : Sys := y.carryTime.driftFreq

/-! ## Holdover (R207 to R209) -/

/-- LOCKED time of the drift model within the last 30 days is at least 2 h. -/
def Sys.trained (y : Sys) : Bool :=
  let now := if y.time.disciplined then y.t96 else max y.t96 y.mram.savedTime
  let first := now - 2592000 * secT96
  let spans := y.mram.locked ++ (match y.time.lockedAt with | some t => [(t, y.t96)] | none => [])
  decide (7200 * secT96 ≤ (spans.map fun p => min p.2 now - max p.1 first).sum)

/-- A LOCKED interval ends. -/
def Sys.endLocked (y : Sys) : Sys :=
  match y.time.lockedAt with
  | none => y
  | some t =>
    let y := y.onTime fun b => { b with lockedAt := none }
    { y with mram := { y.mram with locked := (y.mram.locked.filter fun p => decide (y.t96 < p.2 + 2592000 * secT96)) ++ [(t, y.t96)] } }

/-- Error of a running holdover at uptime t, in ns. -/
def holdError (h : Holdover) (t : Nat) : Rat :=
  let dt : Nat := t - h.at_
  if h.tref then h.err + mkRat (dt : Nat) 1000000000
  else
    let u0 : Rat := if h.trained then mkRat 5 100 else mkRat 5 10
    let u := u0 + mkRat ((h.now - h.temp).natAbs : Nat) 10000
    let a : Nat := h.at_ - h.since
    let b : Nat := t - h.since
    h.err + u * mkRat (dt : Nat) 1000000 + mkRat ((b * b - a * a : Nat) : Nat) (2 * 200000000 * 3600000000000)

/-- The estimated time error in ns, rounded up (0x2300:06): in FREE_RUN what the entry holds. -/
def Sys.estError (y : Sys) : Nat :=
  match y.time.hold with
  | some h => min 0xFFFFFFFF (holdError h y.up).ceil.toNat
  | none => if y.tbState = 0 then y.rd (ent 0x2300 6) else min 0xFFFFFFFF ((y.time.offset.natAbs + 2 ^ 32 - 1) / 2 ^ 32)

/-- While LOCKED to a source the drift model learns the increment at the present temperature, in its bin of 1 °C from -55 °C to 125 °C, and the
ageing rate (R208; log entry 36). -/
def Sys.learnDrift (y : Sys) (temp : Int) : Sys :=
  let bin := (temp + 5500) / 100
  if y.tbState ≠ 2 ∨ y.tbSource = 0 ∨ bin < 0 ∨ 180 ≤ bin then y
  else
    let d := y.mram.drift
    let incr := y.rd (ent 0x2300 3)
    { y with mram := { y.mram with drift :=
      { bins := (bin.toNat, incr, y.t96) :: d.bins.filter fun p => p.1 != bin.toNat
        ageing := Config.driftAgeing d.ageing (d.bins.lookup bin.toNat) incr y.t96 } } }

/-- The oscillator temperature is measured: a running holdover is carried to now, and the increment follows the drift model, or the model learns
(R208, R209). -/
def Sys.oscTemp (y : Sys) (temp : BitVec 32) : Sys :=
  let y := (y.wr (ent 0x2300 7) temp.toNat).learnDrift temp.toInt
  let y := y.onTime fun b => { b with hold := b.hold.map fun h => { h with err := holdError h y.up, at_ := y.up, now := temp.toInt } }
  if y.tbState = 3 ∨ y.tbState = 4 then y.steer else y

/-- Holdover ends: its time is counted. -/
def Sys.endHold (y : Sys) : Sys :=
  match y.time.hold with
  | none => y
  | some h => (y.inc64 (ent 0x2300 9) ((y.up - h.counted) / 1000)).onTime fun b => { b with hold := none }

/-- The time base enters holdover with the estimated error of this instant. -/
def Sys.beginHold (y : Sys) (tref : Bool) : Sys :=
  let y := y.carryTime
  let t := y.rdI (ent 0x2300 7)
  let h : Holdover :=
    { since := y.up, temp := t, err := mkRat (y.time.offset.natAbs : Nat) (2 ^ 32), at_ := y.up, now := t, trained := y.trained, tref := tref,
      counted := y.up }
  let y := y.endLocked
  Sys.driftFreq (((y.setTbState 3).inc (ent 0x2300 8)).onTime fun b => { b with hold := some h, offset := 0 })

/-- A running holdover no longer follows TREF (R207): its error so far is kept. -/
def Sys.trefGone (y : Sys) : Sys :=
  Sys.driftFreq <| y.carryTime.onTime fun b => { b with hold := b.hold.map fun h => if h.tref then { h with err := holdError h y.up, at_ := y.up, tref := false } else h }

/-- RESET_HOLDOVER_ENTRY (R198): the discipline stops; a time base with a reference is in holdover from here, with no event. -/
def Sys.timeOff (y : Sys) : Sys :=
  let st := y.tbState
  let y := if st = 1 ∨ st = 2 then y.beginHold false else y.trefGone
  y.onTime fun b => { b with qualified := [], samples := [], withheld := false, timeSet := none, offset := 0, acquired := false }

/-- Dormant (R210): every source is ignored, the increment follows the drift model, and a time base that was never disciplined runs free. -/
def Sys.timeDormant (y : Sys) : Sys :=
  let y := y.timeOff
  if y.time.disciplined then y.driftFreq
  else (y.setTbState 0).onTime fun b => { b with hold := none, freq := y.rd (ent 0x2300 3) }

/-! ## Clock quality (R213) -/

/-- The row of the clockClass table. -/
def Sys.clockRow (y : Sys) : Nat :=
  match y.tbState with
  | 1 => if y.time.offset.natAbs ≤ y.rd (ent 0x2301 6) * 2 ^ 32 then 3 else 4
  | 2 => if y.tbSource = 3 then 3 else 2
  | n => n

/-- Advertised clockClass. -/
def Sys.clockClass (y : Sys) : Nat :=
  let t := (y.rd (ent 0x2300 2)).testBit 6
  match y.clockRow with
  | 2 => if t then 6 else 13
  | 3 => if t then 7 else 14
  | 4 => if t then 52 else 58
  | _ => 248

/-- Bounds in ps of the clockAccuracy values from 0x17 up (IEEE 1588-2019). -/
def accuracyBounds : List Nat :=
  (List.range 13).flatMap (fun k => [10 ^ k, 25 * 10 ^ k / 10])

/-- Advertised clockAccuracy: the smallest whose bound is at or above the estimated error. -/
def Sys.clockAccuracy (y : Sys) : Nat :=
  if y.tbState = 0 then 0xFE
  else
    let e := y.estError * 1000
    let bounds := accuracyBounds.take 25
    match bounds.findIdx? fun b => decide (e ≤ b) with
    | some i => 0x17 + i
    | none => if e ≤ 10000000000000 then 0x30 else 0x31

/-- timeSource: that of the last source, kept through holdover. -/
def Sys.timeSourceCode (y : Sys) : Nat :=
  match y.tbSource with
  | 0 => 0xA0
  | 3 => 0x40
  | 4 => ((y.time.origin.lookup 4).map (·.2)).getD 0xA0
  | 5 => ((y.time.origin.lookup 5).map (·.2)).getD 0xA0
  | _ => 0x90

/-- The shown error and clock quality follow. -/
def Sys.showTime (y : Sys) : Sys := ((y.wr (ent 0x2300 6) y.estError).wr (ent 0x2303 1) y.clockClass).wr (ent 0x2303 2) y.clockAccuracy

/-! ## Sources (R200, R202) -/

/-- The sources the module may use, in priority order. -/
def Sys.timeSources (y : Sys) : List Nat :=
  if y.roleShadow then [5]
  else if y.view.role = 1 then [4]
  else if y.view.role = 3 ∧ y.arrayPos ≠ y.rd (ent 0x4C01 6) then [5]
  else ([y.rd (ent 0x2301 1), y.rd (ent 0x2301 2)].filter (· != 0)).eraseDups

/-- The role fixes the source. -/
def Sys.sourceFixed (y : Sys) : Bool := y.roleShadow || y.view.role == 1 || (y.view.role == 3 && y.arrayPos != y.rd (ent 0x4C01 6))

/-- A SHADOW whose PTP ports run in AUTO (R214): any but that of an array member other than the head (R215). -/
def Sys.shadowAuto (y : Sys) : Bool := y.isShadow && (y.view.role != 3 || y.arrayPos == y.rd (ent 0x4C01 6))

/-- Acquisition of a source begins (R203 step 1); the present frequency is kept until the source's own is acquired. -/
def Sys.acquire (y : Sys) (src : Nat) : Sys :=
  let y := y.carryTime
  let free := y.tbState = 0 ∨ (y.tbState = 1 ∧ y.time.fromFree)
  let o := ((y.time.samples.lookup src).map (·.1)).getD 0
  let y := (y.endHold.endLocked.setTbState 1).setTbSource src
  let y := y.onTime fun b => { b with fromFree := free, withheld := false, offset := o, acquired := false, adjAt := y.up }
  let y := y.wrBit (ent 0x2300 2) 6 (((y.time.origin.lookup src).map (·.1)).getD false)
  Sys.showTime ((y.wrI (ent 0x2300 4) (offNs o)).raise 0x0604 255 (ev [(0, 1, src), (4, 4, ofI 32 (satI32 (offNs o)))]))

/-- The highest-priority qualified source is selected (R202). -/
def Sys.reselect (y : Sys) : Sys :=
  let l := y.timeSources
  match l.find? y.time.qualified.contains with
  | none => y
  | some b =>
    if y.tbFollows ∧ l.idxOf y.tbSource ≤ l.idxOf b then y else y.acquire b

/-- A source is disqualified, with its reason (R207); the selected one takes the time base into HOLDOVER. -/
def Sys.disqualify (y : Sys) (src reason : Nat) : Sys :=
  let selected := y.tbFollows ∧ y.tbSource = src
  if !(y.time.qualified.contains src) ∧ ¬selected then y
  else
    let y := y.onTime fun b => { b with qualified := b.qualified.filter (· != src), samples := b.samples.filter fun p => p.1 != src }
    let told := selected ∨ y.timeSources.contains src ∨ reason = 4
    if ¬told then y
    else if ¬selected then y.raise 0x0601 255 (ev [(0, 1, src), (1, 1, reason), (2, 1, y.rd (ent 0x2300 2))])
    else
      let y := y.beginHold (src == 2 && y.time.qualified.contains 1)
      let y := y.raise 0x0601 255 (ev [(0, 1, src), (1, 1, reason), (2, 1, y.rd (ent 0x2300 2))])
      let y := y.raise 0x0602 255 (ev [(0, 1, src), (1, 1, if (y.time.hold.any (·.trained)) then 1 else 0), (4, 4, y.estError)])
      Sys.showTime (Sys.reselect y.steer)

/-- The configured sources, the role or the twin role changed: a selected source that is gone is removed (R207). -/
def Sys.sourcesChanged (y : Sys) : Sys :=
  let y := if y.tbFollows ∧ !(y.timeSources.contains y.tbSource) then y.disqualify y.tbSource 4 else y
  y.reselect

/-- A fault of R207. TREF_PPS is TREF and a pulse, so a fault of TREF is a fault of TREF_PPS. -/
def Sys.sourceFault (y : Sys) (src reason : Nat) : Sys :=
  let y := y.disqualify src reason
  if src = 1 then
    y.trefGone.disqualify 2 reason
  else y

/-- Standby (R210): TREF and its pulse go on; PTP and a link count as stopped. -/
def Sys.timeStandby (y : Sys) : Sys := [3, 4, 5].foldl (fun (y : Sys) (c : Nat) => y.sourceFault c 0) y

/-- Return to service (R198, R214): from here the increment follows the drift model, and sources qualify anew. -/
def Sys.timeBack (y : Sys) : Sys :=
  Sys.showTime (Sys.sourcesChanged (Sys.driftFreq (y.onTime fun b => { b with adjAt := y.up })))

/-! ## Steps and slewing (R204 to R206) -/

/-- An output is live. A returning twin keeps its outputs off until it is LOCKED to PRIMARY, so its first acquisition may step (R214). -/
def Sys.liveOutput (y : Sys) : Bool :=
  !y.outputsHeld &&
  ((List.range 24).any y.view.chanOn ||
  (List.range 8).any (fun n => y.rd (ent (0x4190 + n) 8) == 1 || y.rd (ent (0x4190 + n) 8) == 2) ||
  (List.range 8).any (fun a => y.rd (ent (0x4198 + a) 1) == 1 && !(y.pathsUp (8 + a)).isEmpty) ||
  (List.range 48).any (fun n => y.apDir n != .off && y.apClock n != .slave) ||
  (List.range 32).any (fun n => tioOut (y.tioFn n)) ||
  y.media.recs.any (fun r => r.2.slot.isSome) ||
  (y.rdB (ent 0x2303 7)).contains 6)

/-- The offset is added to T96 at one tick. -/
def Sys.stepTime (y : Sys) (o : Int) (cause : Nat) : Sys :=
  let free := y.tbState = 0 ∨ y.time.fromFree
  let y := { y with t96 := (((y.t96 : Int) + o) % 2 ^ 96).toNat }
  let y := y.onTime fun b => { b with offset := b.offset - o, fromFree := false,
                                      samples := b.samples.map fun (p : Nat × Int × Nat × Nat) => (p.1, p.2.1 - o, p.2.2) }
  let y := { y with tios := y.tios.map fun (p : Nat × Tio) => (p.1, { p.2 with last := none }) }
  let y := if free then y else y.wrBit (ent 0x2300 2) 7 true
  let y := ((y.inc (ent 0x2300 0x0A)).wrI (ent 0x2300 0x0B) (offNs o)).wrI (ent 0x2300 4) (offNs y.time.offset)
  Sys.audioStep (y.raise 0x0606 255 (ev [(0, 8, ofI 64 (offNs o)), (8, 1, cause)]))

/-- Expected slew time of an offset, in ms (R203 step 3'). -/
def Sys.slewMs (y : Sys) (ns : Nat) : Nat :=
  let l := max 1 (y.rd (ent 0x2301 7))
  if ns ≤ 20 * l * l then iroot 2 (8000 * ns) 32 0 else 10 * ns / l + 200 * l

/-- A measured offset is removed: by a step where R204 lets it, else by slewing, in holdover and in FREE_RUN as well. -/
def Sys.applyOffset (y : Sys) (o : Int) (cause : Nat) : Sys :=
  let y := (y.carryTime.onTime fun b => { b with offset := o }).wrI (ent 0x2300 4) (offNs o)
  let big := y.rd (ent 0x2301 8) * 2 ^ 32 < o.natAbs
  let free := y.tbState = 0 ∨ y.time.fromFree
  if big ∧ (free ∨ y.rd (ent 0x2301 9) = 1 ∨ !y.liveOutput) then y.stepTime o cause
  else if big ∧ !y.time.withheld then
    (y.onTime fun b => { b with withheld := true }).raise 0x0607 255
      (ev [(0, 4, ofI 32 (satI32 (offNs o))), (4, 4, min 0xFFFFFFFF (y.slewMs (o.natAbs / 2 ^ 32)))])
  else y

/-- An offset sample of a source. One that misses the prediction by more than `limit` ns is discarded, and `runs` of them in a row are a
glitch (R207); a followed source steers by the others. The prediction is the last sample with what slewing has since taken away. -/
def Sys.measure (y : Sys) (src : Nat) (o : Int) (limit runs : Nat) : Sys :=
  let y := y.carryTime
  let prev := y.time.samples.lookup src
  let followed := y.tbFollows ∧ y.tbSource = src
  let drift (at_ : Nat) : Int := ((y.up - at_ : Nat) : Int) * 2 ^ 32 * ((y.rd (ent 0x2300 3) : Int) - y.time.freq) / nominalIncr
  let miss := match prev with
    | some p => decide (limit * 2 ^ 32 < (o - (if followed ∧ y.time.acquired then y.time.offset else p.1 - drift p.2.1)).natAbs)
    | none => false
  let bad := if miss then ((prev.map (·.2.2)).getD 0) + 1 else 0
  let rest := y.time.samples.filter fun p => p.1 != src
  if miss then
    let y := y.onTime fun b => { b with samples := (src, (prev.map (·.1)).getD o, (prev.map (·.2.1)).getD y.up, bad) :: rest }
    if runs ≤ bad then y.sourceFault src 1 else y
  else
    let y := y.onTime fun b => { b with samples := (src, o, y.up, 0) :: rest }
    if followed then Sys.showTime ((y.onTime fun b => { b with offset := o }).wrI (ent 0x2300 4) (offNs o)) else y

/-! ## The commands -/

/-- TIME_BASE_SAVE (R198), with the oscillator's temperature. -/
def execTimeBaseSave (temp : BitVec 32) (s : State) : Host.Outcome State Fault Refusal :=
  onSys s fun _ y => Sys.showTime (Sys.oscTemp { y with mram := { y.mram with savedTime := y.t96 } } temp)

/-- A source can qualify now: the discipline runs, in Standby only TREF and its pulse count (R210), and PTP needs a SLAVE port in AUTO (R212). -/
def Sys.mayQualify (y : Sys) (c : Nat) : Bool :=
  y.boot.phase == .running && (c < 3 || y.rd (ent 0x2700 1) != 2) && (c != 3 || (y.rdB (ent 0x2303 7)).contains 9)

/-- What a source brings with its time (R213); TRACEABLE is shown at once while the source is followed. -/
def Sys.originIs (y : Sys) (src : Nat) (trace : Bool) (timeSource : Nat) : Sys :=
  let y := y.onTime fun b => { b with origin := (src, trace, timeSource) :: b.origin.filter fun q => q.1 != src }
  if y.tbFollows ∧ y.tbSource = src then Sys.showTime (y.wrBit (ent 0x2300 2) 6 trace) else y

/-- SOURCE_QUALIFIED (R202, R203). TREF counts as qualified whether or not it is configured (R207). What an Announce or a heartbeat has told of PTP's or
GAROS's clock goes before the operands, which stand for what FELLEY's upstream tells (R213; log entry 36). -/
def execSourceQualified (source : TimeSource) (offset : Int) (traceable : Bool) (timeSource : BitVec 8) (s : State) :
    Host.Outcome State Fault Refusal :=
  onSys s fun _ y =>
    let c := source.code
    let told := if c = 3 ∨ c = 5 then y.time.origin.lookup c else none
    let trace := match source with | .trefPps => true | .tref => false | _ => (told.map (·.1)).getD traceable
    if !y.mayQualify c then y else
    let y := y.onTime fun b =>
      { b with qualified := if b.qualified.contains c then b.qualified else b.qualified ++ [c],
               samples := (c, offset, y.up, 0) :: b.samples.filter fun p => p.1 != c,
               origin := (c, trace, if c = 3 then (told.map (·.2)).getD timeSource.toNat else timeSource.toNat) :: b.origin.filter fun p => p.1 != c }
    y.reselect

/-- FREQUENCY_ACQUIRED (R203 steps 2 and 3): the increment, on its ramp since step 1, is within 0.01 ppm of the source's frequency, which is the operand; the
offset is stepped or slewed. -/
def execFrequencyAcquired (incr : BitVec 40) (offset : Int) (s : State) : Host.Outcome State Fault Refusal :=
  onSys s fun _ y =>
    if y.tbState ≠ 1 then y
    else
      let f := max (nominalIncr - 214748) (min (nominalIncr + 214748) incr.toNat)
      let y := (if y.time.acquired then y.carryTime else y.rampTo f).onTime fun b => { b with freq := f }
      if !y.time.acquired ∧ 85 < ((f : Int) - y.rd (ent 0x2300 3)).natAbs then y.showTime
      else Sys.showTime (Sys.applyOffset (y.onTime fun b => { b with acquired := true }) (if y.tbSource = 1 then 0 else offset) 0)

/-- TIME_LOCKED (R203 step 4). -/
def execTimeLocked (offset : Int) (s : State) : Host.Outcome State Fault Refusal :=
  onSys s fun _ y =>
    if y.tbState ≠ 1 ∨ y.rd (ent 0x2301 0x0A) * 2 ^ 32 < offset.natAbs then y
    else
      let y := (y.carryTime.setTbState 2).onTime fun b => { b with offset := offset, acquired := true, disciplined := true, fromFree := false, lockedAt := some y.t96 }
      Sys.showTime ((y.wrI (ent 0x2300 4) (offNs offset)).raise 0x0605 255
        (ev [(0, 1, y.tbSource), (4, 4, ofI 32 (satI32 (offNs offset)))]))

/-- LOCK_LOST (R203): the source is kept. The rule does not say whether the acquisition that it begins is a new one for the one event 0x0607 of an
acquisition (R204): here it is (DESIGN CHOICE, log entry 36). -/
def execLockLost (offset : Int) (s : State) : Host.Outcome State Fault Refusal :=
  onSys s fun _ y =>
    if y.tbState ≠ 2 ∨ offset.natAbs ≤ y.rd (ent 0x2301 0x0A) * 2 ^ 32 then y
    else
      let y := (y.carryTime.endLocked.setTbState 1).onTime fun b => { b with offset := offset, withheld := false }
      let y := (y.wrI (ent 0x2300 4) (offNs offset)).raise 0x060E 255 (ev [(0, 1, y.tbSource), (4, 4, ofI 32 (satI32 (offNs offset)))])
      y.showTime

/-- REFERENCE_FAULT (R207), with the oscillator's temperature at the fault. -/
def execReferenceFault (source : TimeSource) (fault : RefFault) (temp : BitVec 32) (s : State) : Host.Outcome State Fault Refusal :=
  onSys s fun _ y => Sys.showTime ((y.oscTemp temp).sourceFault source.code fault.code)

/-- HOLDOVER_LIMIT_EXCEEDED (R209). -/
def execHoldoverLimitExceeded (temp : BitVec 32) (s : State) : Host.Outcome State Fault Refusal :=
  onSys s fun _ y =>
    let y := if y.tbState = 3 then y.oscTemp temp else y
    if y.tbState ≠ 3 ∨ !y.time.hold.any fun h => decide ((y.rd (ent 0x2301 6) : Rat) < holdError h y.up) then y.showTime
    else
      let y := Sys.showTime (y.setTbState 4)
      y.raise 0x0603 255 (ev [(0, 4, ((y.time.hold.map fun h => (y.up - h.since) / 1000000).getD 0)), (4, 1, y.clockClass)])

/-- A time of day written to 0x2300:0C (R201): the time of the next PPS edge under TREF_PPS, else the time now. -/
def Sys.setTimeOfDay (y : Sys) (v : Nat) : Sys :=
  if y.tbFollows ∧ y.tbSource = 2 then y.onTime fun b => { b with timeSet := some v }
  else Sys.showTime (y.applyOffset ((v : Int) - y.t96) 1)

/-- TIME_SET. -/
def execTimeSet (value : BitVec 96) (s : State) : Host.Outcome State Fault Refusal := onSys s fun _ y => y.setTimeOfDay value.toNat

/-- The whole second that an edge marks (R201): the one nearest to it by PTP's time of day, where PTP is the other configured source and has given a
sample, else by the module's own. -/
def Sys.ppsSecond (y : Sys) (t : Nat) : Int :=
  let o : Int := if y.timeSources.contains 3 then ((y.time.samples.lookup 3).map (·.1)).getD 0 else 0
  ((t : Int) + o + (secT96 / 2 : Nat)) / (secT96 : Int) * secT96

/-- PPS_IN_EDGE (R201): the edge marks a whole second, or the time of day written for it. -/
def execPpsInEdge (time : BitVec 96) (width : BitVec 32) (s : State) : Host.Outcome State Fault Refusal :=
  onSys s fun _ y =>
    let n := y.rd (ent 0x2301 4)
    if 32 ≤ n ∨ y.tioFn n ≠ 2 ∨ !(y.timeSources.contains 2) ∨ tioRunt width ∨ y.boot.phase ≠ .running ∨ y.tioHeld then y
    else
      match y.time.timeSet with
      | some v =>
        let y := y.onTime fun b => { b with timeSet := none }
        let o : Int := (v : Int) - time.toNat
        let y := y.onTime fun b => { b with samples := (2, o, y.up, 0) :: b.samples.filter fun p => p.1 != 2 }
        Sys.showTime (y.applyOffset o 1)
      | none =>
        y.measure 2 (y.ppsSecond time.toNat - time.toNat) 100 3

end Sys2Proof.Machine
end

