-- ==== Sys2Proof/Machine/Ptp.lean ====
section
/-!
DEFINITION. Sys2Proof/Machine/Ptp.lean: the PTP clock (R211 to R215). Port 0 is MGE and ports 1 to 8 are LQ0 to LQ7; portState codes are
those of IEEE 1588-2019.
-/

namespace Sys2Proof.Machine

def ptp0 : PtpPort := { foreign := [], sync := none, pair := none, delay := none, seqs := [] }
def Sys.ptpPort (y : Sys) (p : Nat) : PtpPort := tget (fun _ => ptp0) y.ptp p
def Sys.setPtp (y : Sys) (p : Nat) (v : PtpPort) : Sys := { y with ptp := tset (fun _ => ptp0) y.ptp p v }

/-- States of a port. -/
inductive PortState where
  | disabled | listening | master | passive | slave
  deriving DecidableEq, Repr
def PortState.code : PortState → Nat
  | .disabled => 3 | .listening => 4 | .master => 6 | .passive => 7 | .slave => 9

/-- The state shown for port p. -/
def Sys.ptpState (y : Sys) (p : Nat) : Nat := rdLe (y.rdB (ent 0x2303 7)) p 1

/-- A port takes a state, with event 0x0609. -/
def Sys.setPtpState (y : Sys) (p : Nat) (st : PortState) : Sys :=
  let old := y.ptpState p
  if old = st.code then y
  else Sys.raise (y.wrB (ent 0x2303 7) (poke (slice (y.rdB (ent 0x2303 7)) 0 9) p (le 1 st.code))) 0x0609 (p + 1)
    (ev [(0, 1, p + 1), (1, 1, old), (2, 1, st.code)])

/-- The mode in force: SHADOW runs AUTO (R214), and a returning twin's ports are off until it is LOCKED; where the source is fixed, any mode but
LISTEN leaves the ports DISABLED (R212, R215). -/
def Sys.ptpMode (y : Sys) : Nat :=
  let m := y.rd (ent 0x2302 1)
  if y.shadowAuto then (if y.rd (ent 0x4C01 3) = 3 ∧ y.tbState ≠ 2 then 0 else 2)
  else if y.sourceFixed then (if m = 3 then 3 else 0)
  else m

/-- The port takes part: its bit is set, and a LQ port has ETH100 and is up. -/
def Sys.ptpOn (y : Sys) (p : Nat) : Bool :=
  y.ptpMode != 0 && y.rdBit (ent 0x2302 2) p && (p == 0 || (y.rd (ent (0x2488 + (p - 1)) 1) == 1 && y.quadUp (p - 1)))

/-! ## The BMCA (R211, R213) -/

/-- clockIdentity as a number (R212): 0x02, then bits 55 to 0 of the die ID. -/
def clockIdentity (die : Nat) : Nat := 2 * 2 ^ 56 + die % 2 ^ 56

/-- The module's own data set, as a comparison key. SHADOW advertises priority2 one above PRIMARY's (R214): one above its own setting, since no entry
or message of the manual brings it PRIMARY's (log entry 36). -/
def Sys.ownRank (y : Sys) (die : Nat) : List Nat :=
  [y.rd (ent 0x2302 4), y.clockClass, y.clockAccuracy, 0xFFFF,
   if y.isShadow then min 255 (y.rd (ent 0x2302 5) + 1) else y.rd (ent 0x2302 5), clockIdentity die]

/-- Keys in order of quality: the lower is the better. -/
def rankLt : List Nat → List Nat → Bool
  | a :: r, b :: q => if a < b then true else if b < a then false else rankLt r q
  | [], _ :: _ => true
  | _, [] => false

/-- The comparison key of a foreign master: its grandmaster's, the steps, then the sender. -/
def Foreign.key (f : Foreign) : List Nat := f.rank ++ [f.steps, f.sender]

/-- The best of a list of foreign masters, with what comes with them. -/
def bestOf {α : Type} (l : List (α × Foreign)) : Option (α × Foreign) :=
  l.foldl (fun a f => match a with | none => some f | some b => if rankLt f.2.key b.2.key then some f else a) none

/-- Foreign masters that count on port p: those heard at least twice. -/
def Sys.heardOn (y : Sys) (p : Nat) : List (Nat × Foreign) :=
  ((y.ptpPort p).foreign.filter fun f => decide (2 ≤ f.heard)).map fun f => (p, f)

/-- The best foreign master of a port, and of all ports that are on. -/
def Sys.portBest (y : Sys) (p : Nat) : Option Foreign := (bestOf (y.heardOn p)).map (·.2)
def Sys.bestForeign (y : Sys) : Option (Nat × Foreign) := bestOf (((List.range 9).filter y.ptpOn).flatMap y.heardOn)

/-- The parent data set follows a grandmaster; a new one on the slave port disqualifies PTP (R207). The module's own identity as the first one is no
change. -/
def Sys.setParent (y : Sys) (gm : Nat) (cls steps : Nat) (slave : Bool) : Sys :=
  let old := y.rdB (ent 0x2303 3)
  let new_ := (le 8 gm).reverse
  let y := (y.wrB (ent 0x2303 3) new_).wr (ent 0x2303 4) steps
  if old = new_ ∨ (old = [] ∧ !slave) then y
  else
    let y := y.raise 0x0608 255 (new_ ++ le 1 cls ++ List.replicate 7 0)
    if slave ∧ old ≠ [] then y.sourceFault 3 3 else y

/-- The state decision: the better of the own data set and the best foreign one; the module's class never bars it from SLAVE (R213, log
entry 36). A port that has not yet heard or timed out stays LISTENING. -/
def Sys.bmca (y : Sys) (die : Nat) : Sys :=
  let own := y.ownRank die
  let best := y.bestForeign
  let y := (List.range 9).foldl (fun y p =>
    if !y.ptpOn p then y.setPtpState p .disabled
    else if y.ptpMode = 1 then y.setPtpState p .master
    else if y.ptpMode = 3 then (if y.ptpState p = 4 then y else y.setPtpState p .listening)
    else
      let mine := y.portBest p
      match best with
      | some (q, f) =>
        if rankLt own f.rank then
          (if mine.isNone ∧ y.ptpState p = 4 then y else y.setPtpState p .master)
        else if q = p then
          let y := y.setPtpState p .slave
          y.setParent (f.rank.getD 5 0) (f.rank.getD 1 0) (f.steps + 1) true
        else
          match mine with
          | some g => if g.rank = f.rank then y.setPtpState p .passive else y.setPtpState p .master
          | none => if y.ptpState p = 4 then y else y.setPtpState p .master
      | none => if y.ptpState p = 4 ∨ y.ptpState p = 6 then y
        else if y.ptpState p = 9 ∨ y.ptpState p = 7 then y.setPtpState p .master else y.setPtpState p .listening) y
  -- without a better clock the module is its own parent
  if (y.ptpMode = 1 ∨ y.ptpMode = 2) ∧ !best.any (fun b => !rankLt own b.2.rank) then y.setParent (clockIdentity die) y.clockClass 0 false else y

/-- Mode, ports or quads changed: every port starts again where its place has changed (R212). -/
def Sys.ptpRestart (y : Sys) (die : Nat) : Sys :=
  let y := (List.range 9).foldl (fun y p =>
    let want : PortState := if !y.ptpOn p then .disabled else if y.ptpMode = 1 then .master else .listening
    if y.ptpOn p ∧ y.ptpState p ≠ 3 ∧ y.ptpState p ≠ 0 ∧ y.ptpMode = 2 then y
    else Sys.setPtpState (y.setPtp p { y.ptpPort p with foreign := [], sync := none, delay := none }) p want) y
  y.bmca die

/-! ## Messages -/

/-- Next sequence of a message kind on a port. -/
def Sys.ptpSeq (y : Sys) (p kind : Nat) : Nat × Sys :=
  let u := y.ptpPort p
  let n := (u.seqs.lookup kind).getD 0
  (n, y.setPtp p { u with seqs := (kind, (n + 1) % 65536) :: u.seqs.filter fun q => q.1 != kind })

/-- Port p takes a message of its domain (R211). -/
def Sys.ptpHears (y : Sys) (p : Nat) (domain : BitVec 8) : Bool := y.ptpOn p && y.rd (ent 0x2302 3) == domain.toNat

/-- What the grandmaster of a SLAVE port brings: whether it is traceable, shown at once while PTP is selected, and its timeSource (R213). -/
def Sys.followOrigin (y : Sys) (p : Nat) : Sys :=
  match y.portBest p with
  | none => y
  | some g =>
    if y.ptpState p ≠ 9 then y
    else
      y.originIs 3 (g.rank.getD 1 0 == 6 || g.rank.getD 1 0 == 7) g.timeSource

/-- PTP_ANNOUNCE_RECEIVE. In LISTEN, where several grandmasters send, 0x2303 shows that of the last Announce: R212 names none (DESIGN CHOICE, log entry
36). -/
def execPtpAnnounceReceive (port : Fin 9) (announce : PtpAnnounce) (s : State) : Host.Outcome State Fault Refusal :=
  onSys s fun o y =>
    let p := port.val
    let a := announce
    if !y.ptpHears p a.domain ∨ y.ptpMode = 1 ∨ a.grandmaster.toNat = clockIdentity o.dieId then y
    else
      let f : Foreign :=
        { rank := [a.priority1.toNat, a.clockClass.toNat, a.accuracy.toNat, a.variance.toNat, a.priority2.toNat, a.grandmaster.toNat],
          steps := a.steps.toNat, sender := a.sender.toNat, timeSource := a.timeSource.toNat, heard := 1 }
      let u := y.ptpPort p
      let g : Foreign := { f with heard := ((u.foreign.find? fun q => q.sender == f.sender).map (·.heard)).getD 0 + 1 }
      let y := y.setPtp p { u with foreign := (u.foreign.filter fun q => q.sender != f.sender) ++ [g] }
      if y.ptpMode = 3 then
        let new_ := (le 8 (g.rank.getD 5 0)).reverse
        (y.wrB (ent 0x2303 3) new_).wr (ent 0x2303 4) g.steps
      else
        Sys.followOrigin (y.bmca o.dieId) p

/-- A Sync with its origin gives an offset sample: on a SLAVE port corrected for path delay, in LISTEN shown as it is (R212, R214). -/
def Sys.ptpSample (y : Sys) (p t1 t2 : Nat) : Sys :=
  let y := y.setPtp p { y.ptpPort p with pair := some (t1, t2), sync := none }
  if y.ptpMode = 3 then (y.wrI (ent 0x2303 5) (offNs ((t2 : Int) - t1))).wr (ent 0x2303 6) 0
  else if y.ptpState p ≠ 9 then y
  else
    let o : Int := (t2 : Int) - t1 - y.rd (ent 0x2303 6) * 2 ^ 32
    let y := y.wrI (ent 0x2303 5) (offNs o)
    if y.timeSources.contains 3 then y.measure 3 (-o) 1000 8 else y

/-- PTP_SYNC_RECEIVE. `origin` is the time a one-step Sync carries. -/
def execPtpSyncReceive (port : Fin 9) (domain : BitVec 8) (seq : BitVec 16) (received : BitVec 96) (origin : Option (BitVec 96)) (s : State) :
    Host.Outcome State Fault Refusal :=
  onSys s fun _ y =>
    let p := port.val
    if !y.ptpHears p domain ∨ !(y.ptpState p = 9 ∨ y.ptpMode = 3) then y
    else match origin with
      | some t => y.ptpSample p t.toNat received.toNat
      | none => y.setPtp p { y.ptpPort p with sync := some (seq.toNat, received.toNat) }

/-- PTP_FOLLOW_UP_RECEIVE. -/
def execPtpFollowUpReceive (port : Fin 9) (domain : BitVec 8) (seq : BitVec 16) (origin : BitVec 96) (s : State) : Host.Outcome State Fault Refusal :=
  onSys s fun _ y =>
    let p := port.val
    if !y.ptpHears p domain then y
    else match (y.ptpPort p).sync with
      | some (n, t2) => if n = seq.toNat then y.ptpSample p origin.toNat t2 else y
      | none => y

/-- PTP_DELAY_REQ_RECEIVE: a MASTER port answers with Delay_Resp. -/
def execPtpDelayReqReceive (port : Fin 9) (domain : BitVec 8) (seq : BitVec 16) (requester : BitVec 64) (received : BitVec 96) (s : State) :
    Host.Outcome State Fault Refusal :=
  onSys s fun _ y =>
    if y.ptpHears port.val domain ∧ y.ptpState port.val = 6 then y.send (.ptp port.val domain.toNat 9 seq.toNat received.toNat (le 8 requester.toNat)) else y

/-- PTP_DELAY_RESP_RECEIVE: the mean path delay. -/
def execPtpDelayRespReceive (port : Fin 9) (domain : BitVec 8) (seq : BitVec 16) (received : BitVec 96) (s : State) : Host.Outcome State Fault Refusal :=
  onSys s fun _ y =>
    let p := port.val
    let u := y.ptpPort p
    match u.delay, u.pair with
    | some (n, t3), some (t1, t2) =>
      if n ≠ seq.toNat ∨ !y.ptpHears p domain ∨ y.ptpState p ≠ 9 then y
      else
        let d : Int := ((t2 : Int) - t1 + ((received.toNat : Int) - t3)) / 2
        (y.setPtp p { u with delay := none }).wr (ent 0x2303 6) (min 0xFFFFFFFF (offNs d).toNat)
    | _, _ => y

/-- Data set a MASTER port announces: the grandmaster's while a port is SLAVE and PTP is the selected source, else the own one (R213). -/
def Sys.announced (y : Sys) (die : Nat) : List Nat × Nat × Nat :=
  match y.bestForeign with
  | some (q, f) => if y.ptpState q = 9 ∧ y.tbFollows ∧ y.tbSource = 3 then (f.rank, f.steps + 1, f.timeSource)
    else (y.ownRank die, 0, y.timeSourceCode)
  | none => (y.ownRank die, 0, y.timeSourceCode)

/-- PTP_ANNOUNCE_SEND. -/
def execPtpAnnounceSend (port : Fin 9) (s : State) : Host.Outcome State Fault Refusal :=
  onSys s fun o y =>
    let p := port.val
    if y.inReset ∨ !(y.ptpOn p ∧ y.ptpState p = 6) then y
    else
      let a := y.announced o.dieId
      let r (i : Nat) : Nat := a.1.getD i 0
      let n := y.ptpSeq p 11
      n.2.send (.ptp p (y.rd (ent 0x2302 3)) 11 n.1 0 (le 2 (y.rd (ent 0x2301 0x0B)) ++ le 1 (r 0) ++ le 1 (r 1) ++ le 1 (r 2) ++ le 2 (r 3) ++ le 1 (r 4) ++
        le 8 (r 5) ++ le 2 a.2.1 ++ le 1 a.2.2))

/-- PTP_SYNC_SEND: a two-step Sync and its Follow_Up. -/
def execPtpSyncSend (port : Fin 9) (s : State) : Host.Outcome State Fault Refusal :=
  onSys s fun _ y =>
    let p := port.val
    if y.inReset ∨ !(y.ptpOn p ∧ y.ptpState p = 6) then y
    else
      let n := y.ptpSeq p 0
      (n.2.send (.ptp p (y.rd (ent 0x2302 3)) 0 n.1 0 [])).send (.ptp p (y.rd (ent 0x2302 3)) 8 n.1 y.t96 [])

/-- PTP_DELAY_REQ_SEND: multicast, or unicast to the master (0x2302:0A). -/
def execPtpDelayReqSend (port : Fin 9) (s : State) : Host.Outcome State Fault Refusal :=
  onSys s fun _ y =>
    let p := port.val
    if !(y.ptpOn p ∧ y.ptpState p = 9) then y
    else
      let n := y.ptpSeq p 1
      (n.2.setPtp p { n.2.ptpPort p with delay := some (n.1, y.t96) }).send (.ptp p (y.rd (ent 0x2302 3)) 1 n.1 y.t96 (le 1 (y.rd (ent 0x2302 0x0A))))

/-- PTP_METADATA_SEND: the ST 2059-2 TLV with default frame rate, UTC offset and leap flags. -/
def execPtpMetadataSend (port : Fin 9) (s : State) : Host.Outcome State Fault Refusal :=
  onSys s fun _ y =>
    let p := port.val
    if y.inReset ∨ !(y.ptpOn p ∧ y.ptpState p = 6) then y
    else
      let n := y.ptpSeq p 13
      n.2.send (.ptp p (y.rd (ent 0x2302 3)) 13 n.1 0 (le 8 (y.rd (ent 0x2302 0x0B)) ++ le 2 (y.rd (ent 0x2301 0x0B)) ++ le 1 (y.rd (ent 0x2302 0x0C))))

/-- PTP_ANNOUNCE_TIMEOUT (R207): the port forgets its master; a SLAVE port's loss stops the PTP source. -/
def execPtpAnnounceTimeout (port : Fin 9) (s : State) : Host.Outcome State Fault Refusal :=
  onSys s fun o y =>
    let p := port.val
    if !y.ptpOn p ∨ y.ptpMode ≠ 2 then y
    else
      let slave := y.ptpState p == 9
      -- a SLAVE or PASSIVE port forgets the master it listened to; what else it hears may take its place
      let gone := if slave || y.ptpState p == 7 then (y.portBest p).map (·.sender) else none
      let left := match gone with | some n => (y.ptpPort p).foreign.filter fun f => f.sender != n | none => []
      let y := y.setPtp p { y.ptpPort p with foreign := left, sync := none, pair := none, delay := none }
      let y := if slave then y.sourceFault 3 0 else y
      let y := y.setPtpState p .master
      Sys.showTime (y.bmca o.dieId)

end Sys2Proof.Machine
end

