-- ==== Sys2Proof/Machine/FelleyReceive.lean ====
section
/-!
DEFINITION. Sys2Proof/Machine/FelleyReceive.lean: the receiving side of the Felley link (R714 to R725).
-/

namespace Sys2Proof.Machine

/-! ## The receive direction (R714, R725) -/

/-- Contexts that take their lines from Felley (R284). -/
def Sys.felleyCtxs (y : Sys) : List Nat := (List.range 8).filter fun x => y.rd (ent (0x3000 + x) 2) == 1 && y.rd (ent (0x3000 + x) 1) != 0

/-- The receive direction goes DOWN: 0 LANE_DOWN, 1 deskew, 2 CONTROL, 3 quad change. The contexts lose lock, the decoders wait for an IRAP
picture, and time transfer stops. -/
def Sys.felleyDown (y : Sys) (cause : Nat) : Sys :=
  if y.rd (ent 0x4D01 1) ≠ 2 then y
  else
    let y := (y.wr (ent 0x4D01 1) 3).inc (ent 0x4D01 9)
    let l := y.link 4
    let y := y.setLink 4 { l with downAt := some y.up, expect := [] }
    let y := y.raise 0x1502 255 (ev [(0, 1, cause)])
    let y := { y with felley := y.felley.map fun (p : Nat × FelleyStream) => (p.1, { p.2 with part := [], damaged := false }) }
    let y := y.felleyCtxs.foldl (fun y x => (y.view.groupsOf x).foldl (fun y g => y.groupLost g) y) y
    let y := (List.range 8).foldl (fun y p => if y.pb p 1 = 1 ∧ y.pb p 2 = 1 then y.decWait p else y) y
    Sys.showTime (if y.timeSources.contains 4 then y.sourceFault 4 0 else y)

/-- FELLEY_LINK_HELLO (R714 step 3): one end is the camera head and the other the base station, with equal lane counts, or the direction is
REFUSED. Equal node IDs turn forwarding off (R721). -/
def execFelleyLinkHello (role : Fin 4) (lanes : BitVec 8) (die : BitVec 64) (twinState twinIndex node : BitVec 8) (s : State) :
    Host.Outcome State Fault Refusal :=
  onSys s fun _ y =>
    let own := y.view.role
    let st := y.rd (ent 0x4D01 1)
    if y.rd (ent 0x4D00 1) = 0 then y
    else if !((own = 1 ∧ role.val = 2) ∨ (own = 2 ∧ role.val = 1)) then
      if st = 4 then y else (y.wr (ent 0x4D01 1) 4).raise 0x1503 255 (ev [(0, 1, 0)])
    else if lanes.toNat ≠ y.rd (ent 0x4D00 1) then
      if st = 4 then y else (y.wr (ent 0x4D01 1) 4).raise 0x1503 255 (ev [(0, 1, 1)])
    else
      let index := if twinState = 0xFF then 0xFF else twinIndex.toNat
      let y := ((y.wr (ent 0x4D01 2) role.val).wr (ent 0x4D01 3) die.toNat).wr (ent 0x4D01 4) index
      let l := y.link 4
      let y := y.setLink 4 { l with node := node.toNat, peerDown := false, downAt := none, expect := if st = 2 then l.expect else [] }
      if st = 2 then y
      else
        let y := y.wr (ent 0x4D01 1) 2
        let y := match l.downAt with | some t => y.wr (ent 0x4D01 0x0A) ((y.up - t) / 1000 % 2 ^ 32) | none => y
        let y := y.raise 0x1501 255 (ev [(0, 1, lanes.toNat), (1, 1, role.val), (2, 1, index), (8, 8, die.toNat)])
        if node.toNat = y.rd (ent 0x1100 1) then y.raise 0x1509 255 (ev [(0, 1, node.toNat)]) else y

/-- FELLEY_CONTROL_RESEND (R715): the frames without acknowledgement go out again in order; after eight resends the partner's receive
direction is declared DOWN and they wait for its next LINK_HELLO. -/
def execFelleyControlResend (s : State) : Host.Outcome State Fault Refusal :=
  onSys s fun _ y =>
    let l := y.link 4
    match l.unacked with
    | [] => y
    | f :: _ =>
      if l.peerDown then y
      else if 8 ≤ f.resends then
        Sys.raise (Sys.inc (y.setLink 4 { l with peerDown := true, unacked := l.unacked.map fun f => { f with resends := 0 } }) (ent 0x4D01 9))
          0x1502 255 (ev [(0, 1, 2)])
      else
        let y := y.setLink 4 { l with unacked := l.unacked.map fun f => { f with resends := f.resends + 1 } }
        let y := y.incBy (ent 0x4D01 8) l.unacked.length
        if y.isShadow then y else l.unacked.foldl (fun y f => y.send (.felley 255 f.seq f.kind f.body)) y

/-! ## Streams (R713, R716, R717, R720) -/

/-- A frame is discarded: cause 0 check, 1 sequence. -/
def Sys.felleyLost (y : Sys) (s cause lost : Nat) : Sys :=
  let y := (y.inc (ent (0x4D10 + s) 9)).inc (ent 0x4D01 7)
  y.raiseLimited s 0x1504 s (ev [(0, 1, s), (1, 1, cause), (4, 4, lost)])

/-- The header check of an SLP packet: octet 7 is the XOR of octets 0 to 6. -/
def slpCheckOk (m : Bytes) : Bool := 8 ≤ m.length && ((m.take 7).foldl (· ^^^ ·) 0) == m.getD 7 0

/-- A Frame Start packet from Felley reaches context x: its groups lock again, and the lead group accepts it (R274, R284). -/
def Sys.felleyStart (o : Otp) (y : Sys) (x : Nat) (m : Bytes) : Sys :=
  match y.view.groupsOf x with
  | [] => y
  | g :: r =>
    let y := r.foldl (fun y h => y.setIg h { y.ig h with resync := false }) y
    let payload := slice m 8 32
    y.frameStart o x g (rdLe m 2 2) 0 ((rdLe payload 7 1).testBit 0) payload

/-- A line packet from Felley: the group of line ℓ takes it, in the frame that is open. -/
def Sys.felleyLine (y : Sys) (x : Nat) (m : Bytes) : Sys :=
  let line := rdLe m 2 2
  let payload := (m.drop 8).take (rdLe m 4 3)
  match y.newest? x with
  | none => y
  | some f =>
    if f.complete ∨ f.groups.any (fun fg => (y.ig fg.group).discarding) then y
    else if (rdLe m 1 1).testBit 7 then y.takeEmbedded f payload
    else
      match f.groups[line % max 1 f.groups.length]? with
      | none => y
      | some fg =>
        if (y.ig fg.group).resync then y
        else match strayReason y x f fg (y.rd (ent (0x3000 + x) 4)) fg.gidx line with
          | some r => y.stray fg.group r
          | none => y.takeLine x fg.group f fg line payload 0

/-- An SLP or DEVELOPED message for stream s: FRAME_INFO, or an SLP packet. -/
def Sys.felleyPicture (o : Otp) (y : Sys) (s : Nat) (m : Bytes) : Sys :=
  if m.length = 64 then y.setFstream s { y.fstream s with info := m }
  else
    match y.felleyCtxs.find? fun x => y.rd (ent (0x3000 + x) 4) == s with
    | none => y
    | some x =>
      if !slpCheckOk m then y
      else match rdLe m 0 1 with
        | 0x78 => y.felleyStart o x m
        | 0x2D => y.felleyLine x m
        | 0xB4 => match y.newest? x with | some f => if f.complete then y else y.endFrame f | none => y
        | _ => y

/-- A message that has arrived whole, or damaged, goes to the stream's receiver (R716, R720). -/
def Sys.felleyDeliver (o : Otp) (y : Sys) (s : Nat) (m : Bytes) (damaged : Bool) : Sys :=
  match (y.fstream s).kind with
  | 4 =>
    let m := if damaged then poke m 41 (le 1 (rdLe m 41 1 ||| 128)) else m
    (List.range 8).foldl (fun y p =>
      if y.pb p 1 = 1 ∧ y.pb p 2 = 1 ∧ y.pb p 4 = s then y.setDec p { y.dec p with input := (y.dec p).input ++ [m] }
      else y) y
  | 5 => if damaged then y else y.apFelley s m
  | 2 =>
    if damaged then y
    else match (List.range 64).find? fun n => match y.expandCtx n with
        | some x => isSensor x && y.rd (ent (0x3000 + x) 4) == s
        | none => false with
      | some n => y.setZc n { y.zc n with input := (y.zc n).input ++ [m] }
      | none => y
  | _ => if damaged then y else y.felleyPicture o s m

/-- A message is a boundary of its kind, where the stream's written entries come into force (R716, R728). -/
def felleyBoundary (kind : Nat) (m : Bytes) : Bool :=
  match kind with
  | 1 => m.length == 64
  | 3 => m.length == 64
  | 2 => rdLe m 1 1 == 6
  | 4 => rdLe m 40 1 ≤ 1
  | _ => true

/-- FELLEY_STREAM_FRAME (R713, R720). -/
def execFelleyStreamFrame (stream : Fin 64) (seq : BitVec 16) (first last : Bool) (payload : Bytes) (checkOk : Bool) (s : State) :
    Host.Outcome State Fault Refusal :=
  onSys s fun o y =>
    let k := stream.val
    if y.rd (ent 0x4D01 1) ≠ 2 then y
    else
      let l := y.link 4
      let want := (l.expect.lookup k).getD seq.toNat
      let gap := (seq.toNat + 65536 - want) % 65536
      let y := y.setLink 4 { l with expect := (k, (seq.toNat + 1) % 65536) :: l.expect.filter fun p => p.1 != k }
      let u := y.fstream k
      if !checkOk ∨ gap ≠ 0 then
        let y := y.felleyLost k (if !checkOk then 0 else 1) (if !checkOk then 1 else gap + 1)
        let y := y.setFstream k { u with damaged := !last, part := if last then [] else u.part }
        if last ∧ u.dir = 2 then y.felleyDeliver o k u.part true else y
      else
        let y := y.inc64 (ent (0x4D10 + k) 8) 1
        let broken := first && (u.damaged || !u.part.isEmpty)
        let y := if broken ∧ u.dir = 2 then y.felleyDeliver o k u.part true else y
        let part := if first then payload else u.part ++ payload
        let damaged := !first && u.damaged
        if !last then y.setFstream k { y.fstream k with part := part, damaged := damaged }
        else
          let y := y.setFstream k { y.fstream k with part := [], damaged := false }
          let y := if felleyBoundary (y.felleyCfg k 1) part ∧ !damaged then
              y.setFstream k { y.fstream k with dir := y.felleyCfg k 0, kind := y.felleyCfg k 1, src := y.felleyCfg k 2, binding := y.felleyCfg k 3 }
            else y
          if (y.fstream k).dir = 2 then y.felleyDeliver o k part damaged else y

/-- FELLEY_FRAME_INFO (R717): the message that begins a frame. -/
def execFelleyFrameInfo (stream : Fin 16) (info : Bytes) (s : State) : Host.Outcome State Fault Refusal :=
  onSys s fun _ y =>
    let k := stream.val
    if info.length ≠ 64 ∨ y.felleyCfg k 0 ≠ 2 then y
    else y.setFstream k { y.fstream k with info := info, dir := 2, kind := y.felleyCfg k 1 }

/-! ## Time transfer (R723, R724) -/

/-- Offset and delay of a marker pair, in T96 units, for a link asymmetry in ps (R681). -/
def markerPair (t1 t2 t3 t4 : Nat) (asym : Int) : Int × Int :=
  let a : Int := (t2 : Int) - t1
  let b : Int := (t4 : Int) - t3
  ((a - b) / 2 - asym * 2 ^ 32 / 2000, (a + b) / 2)

/-- T96 units as ps. -/
def unitsPs (o : Int) : Int := o * 1000 / 2 ^ 32

/-- The asymmetry entry in use. -/
def Sys.felleyAsymKey (y : Sys) : Nat := if y.rd (ent 0x4D01 4) = 1 then ent 0x4D00 4 else ent 0x4D00 3

/-- FELLEY_TIME_MARKER. -/
def execFelleyTimeMarker (sent partnerReceived partnerSent received : BitVec 96) (s : State) : Host.Outcome State Fault Refusal :=
  onSys s fun _ y =>
    if y.rd (ent 0x4D01 1) ≠ 2 then y
    else
      let p := markerPair sent.toNat partnerReceived.toNat partnerSent.toNat received.toNat (y.rdI y.felleyAsymKey)
      let y := (y.wrI (ent 0x4D01 5) (unitsPs p.1)).wr (ent 0x4D01 6) (min 0xFFFFFFFF (unitsPs p.2).toNat)
      if y.timeSources.contains 4 then y.measure 4 p.1 20 8 else y

/-- CALIBRATE: at the camera head, LOCKED, with its PPS ball capturing. -/
def Sys.felleyCalibrate (y : Sys) : Status × Sys :=
  let n := y.rd (ent 0x4D00 5)
  if y.view.role ≠ 1 ∨ y.tbState ≠ 2 ∨ 32 ≤ n ∨ y.tioFn n ≠ 7 then (.state, y)
  else (.ok, (y.wr (ent 0x4D01 0x0C) 1).setLink 4 { y.link 4 with heads := [], bases := [] })

/-- Pulses that both ends captured: h - b in ps. -/
def pulsePairs (heads bases : List Nat) : List Int :=
  heads.filterMap fun (h : Nat) => (bases.find? fun (b : Nat) => decide (((h : Int) - b).natAbs < secT96 / 2)).map fun (b : Nat) => unitsPs ((h : Int) - b)

/-- FELLEY_CALIBRATION_DONE: over 64 pulses, at most 8 missed and a spread of at most 20 ns. -/
def execFelleyCalibrationDone (s : State) : Host.Outcome State Fault Refusal :=
  onSys s fun _ y =>
    if y.rd (ent 0x4D01 0x0C) ≠ 1 then y
    else
      let l := y.link 4
      let d := (pulsePairs l.heads l.bases).take 64
      let hi := d.foldl max (d.headD 0)
      let lo := d.foldl min (d.headD 0)
      let index := if y.rd (ent 0x4D01 4) = 1 then 1 else 0
      let old := y.rdI y.felleyAsymKey
      let y := y.setLink 4 { l with heads := [], bases := [] }
      if d.length < 56 ∨ 20000 < hi - lo then
        (y.wr (ent 0x4D01 0x0C) 3).raise 0x1507 255 (ev [(0, 1, index), (1, 1, 1), (4, 4, ofI 32 old)])
      else
        let change := 2 * d.sum / d.length
        let y := (y.wrI y.felleyAsymKey (old + change)).wr (ent 0x4D01 0x0C) 2
        y.raise 0x1507 255 (ev [(0, 1, index), (4, 4, ofI 32 (old + change)), (8, 4, ofI 32 change)])

/-! ## Provenance (R722) -/

/-- A manifest or colour record of the camera head: its hash goes into the frame's manifest, a colour record into the clips. -/
def Sys.felleyProvenance (y : Sys) (b : Bytes) : Sys :=
  let num := rdLe b 24 4
  if rdLe b 0 4 = 0x4D585150 then
    match y.frames.find? fun f => f.upWait && f.num == num && f.upstream.any fun u => u.2 == rdLe b 20 1 with
    | some f => y.onFrame f.ctx f.num fun f => { f with upHash := sha256 b, upWait := false }
    | none => y
  else if rdLe b 0 4 = 0x43585150 then
    match y.frames.find? fun f => f.num == rdLe b 8 4 && f.upstream.any fun u => u.2 == rdLe b 5 1 with
    | some f => y.recordAside f.ctx .colour 0x40000 f.num f.latch b
    | none => y
  else y

/-- UPSTREAM_MANIFEST_TIMEOUT: Upstream stays 0. -/
def execUpstreamManifestTimeout (ctx : Fin 16) (s : State) : Host.Outcome State Fault Refusal :=
  onSys s fun _ y =>
    match y.frames.find? fun f => f.ctx == ctx.val && f.upWait with
    | none => y
    | some f => Sys.raise (y.onFrame f.ctx f.num fun f => { f with upWait := false }) 0x1506 ctx.val (ev [(0, 1, ctx.val), (4, 4, f.num)])

end Sys2Proof.Machine
end

