-- ==== Sys2Proof/Machine/Lanes.lean ====
section
/-!
DEFINITION. Sys2Proof/Machine/Lanes.lean: the serial lanes (R227 to R250): bring-up, faults, training, margining and quad functions.
Lane codes are those of R250: 0 to 47 are IL0 to IL47 and 48 to 79 are LL0 to LL31.
-/

namespace Sys2Proof.Machine

/-! ## LANE_DOWN (R235) -/

/-- Garos link k transfers the time the module follows: from PRIMARY for a SHADOW, from the head for a member (R214, R215). -/
def Sys.garosTimeLink (y : Sys) (k : Nat) : Bool :=
  if y.roleShadow then y.rd (ent (0x4C08 + k) 2) == 2
  else
    let st := y.rd (ent (0x4C08 + k) 4)
    let pos := if st.testBit 4 then st / 4 % 2 else st / 4 % 4
    y.view.role == 3 && pos == y.rd (ent 0x4C01 6) && y.rd (ent (0x4C08 + k) 2) != 2

/-- Garos link k goes DOWN: 0 LANE_DOWN, 1 heartbeats missed. -/
def Sys.garosDown (y : Sys) (k cause : Nat) : Sys :=
  if y.rd (ent (0x4C08 + k) 1) ≠ 2 then y
  else
    let y := y.wr (ent (0x4C08 + k) 1) 3
    let y := y.setLink k { y.link k with downAt := some y.up, expect := [] }
    let y := y.raise 0x1402 k (ev [(0, 1, k), (1, 1, cause)])
    if y.timeSources.contains 5 ∧ y.garosTimeLink k then Sys.showTime (y.sourceFault 5 0) else y

/-- A lane hands LANE_DOWN to its protocol. -/
def Sys.laneDown (y : Sys) (n : Nat) : Sys :=
  if n < 48 then y.lanesLost (n / 6)
  else match y.quadFn (quadOf n) with
    | .felley => y.felleyDown 0
    | .garos => y.garosDown (quadOf n / 2) 0
    | .eth100 => y.quadPathsDown (quadOf n)
    | _ => y

/-! ## What the transmitters send (R237, R242) -/

/-- Protocol byte of the lane's group or quad; 0 where none trains with training blocks. -/
def Sys.laneProtocol (y : Sys) (n : Nat) : Nat :=
  if n < 48 then 1 else match y.quadFn (quadOf n) with | .felley => 2 | .garos => 3 | _ => 0

/-- Quads of the link that quad q belongs to. -/
def Sys.linkQuads (y : Sys) (q : Nat) : List Nat :=
  match y.quadFn q with
  | .felley => (List.range 8).filter fun r => y.quadFn r == .felley
  | .garos => [q / 2 * 2, q / 2 * 2 + 1]
  | _ => []

/-- Enabled lanes of that link. -/
def Sys.linkLanes (y : Sys) (q : Nat) : List Nat :=
  (y.linkQuads q).flatMap fun r => (refLanes (8 + r)).filter fun n => y.rd (ent (0x2400 + n) 1) != 3

/-- Sequence count of the training block that lane n sends now: one block is 66 bits at the lane's rate (R227, R236). -/
def Sys.trainSeq (y : Sys) (n : Nat) : Nat :=
  let u := y.lane n
  (u.seq + (match u.seqAt with | some t => (y.up - t) * y.rd (ent (0x2488 + quadOf n) 2) / 66000000 | none => 0)) % 65536

/-- Training blocks go out on link lane n, or 64 more of them; RX_TRAINED says that its receiver holds a map (R236, R237). -/
def Sys.trainOut (y : Sys) (n : Nat) (count : Option Nat) : Sys :=
  let s := y.trainSeq n
  let y := y.send (.training n (trainingBytes (n % 4 + 16 * (y.rd (ent (0x2488 + quadOf n) 3) % 4)) (y.laneProtocol n) (y.lane n).stored.isSome s) count)
  y.setLane n { y.lane n with seq := (s + count.getD 0) % 65536, seqAt := if count.isSome then none else some y.up }

/-- A lane's record when it stops sending. -/
def Sys.laneSilent (y : Sys) (n : Nat) (u : Lane) : Lane := { u with sends := .idle, seq := y.trainSeq n, seqAt := none }

/-- LINK_HELLO of a link whose quads are all up and whose lanes all carry traffic (R683, R714). -/
def Sys.linkHello (y : Sys) (q : Nat) : Sys :=
  let straps := y.rd (ent 0x2010 1)
  if !((y.linkQuads q).all y.quadUp && (y.linkLanes q).all fun n => (y.lane n).sends == .traffic) then y
  else match y.quadFn q with
    | .felley =>
      y.control 4 .linkHello (le 8 (y.rd (ent 0x1000 1)) ++ le 1 straps ++ le 1 (y.rd (ent 0x4C01 3)) ++
        le 1 (y.rd (ent 0x4D00 1)) ++ le 1 (y.rd (ent 0x1100 1)))
    | .garos =>
      y.control (q / 2) .linkHello (le 8 (y.rd (ent 0x1000 1)) ++ le 1 straps ++ le 1 (y.rd (ent 0x4C00 1)) ++ slice y.boot.fwHash 0 8)
    | _ => y

/-- Once the partner reports RX_TRAINED on every lane of the link, each sends 64 more training blocks and then its traffic (R237). -/
def Sys.linkRelease (y : Sys) (q : Nat) : Sys :=
  let l := y.linkLanes q
  let training (n : Nat) : Bool := (y.lane n).sends == .training
  if !(l.any training && l.all fun n => (y.lane n).sends == .traffic || (training n && (y.lane n).partner)) then y
  else Sys.linkHello ((l.filter training).foldl (fun y n => (y.trainOut n (some 64)).setLane n { y.lane n with sends := .traffic }) y) q

/-- The transmitter of link lane n starts once its PLL has locked. SHADOW holds its Felley transmitters in electrical idle (R726). -/
def Sys.transmit (y : Sys) (n : Nat) : Sys :=
  if n < 48 then y
  else
    let u := y.lane n
    let put (t : LaneTx) : Sys := y.setLane n { u with sends := t }
    match y.quadFn (quadOf n) with
    | .off => put .idle
    | .eth100 => put .traffic
    | .prbs => (put .prbs).send (.prbs n (y.rd (ent (0x2488 + quadOf n) 5)))
    | f =>
      if f = .felley ∧ y.isShadow then put .idle
      else match u.sends with
        | .held => put .traffic
        | .idle => Sys.trainOut (put .training) n none
        | _ => y

/-- A link start: every lane of the link that carries traffic sends training blocks again. -/
def Sys.linkStart (y : Sys) (q : Nat) : Sys :=
  (y.linkLanes q).foldl (fun y n =>
    if (y.lane n).sends = .traffic then Sys.trainOut (y.setLane n { y.lane n with sends := .training }) n none else y) y

/-- The Felley transmitters of a new PRIMARY start with its traffic, under the maps that stand (R727). -/
def Sys.felleyTransmit (y : Sys) : Sys :=
  match (List.range 8).find? fun q => y.quadFn q == .felley with
  | none => y
  | some q =>
    Sys.linkHello ((y.linkLanes q).foldl (fun y n =>
      if y.laneIs n .active || y.laneIs n .bringup || y.laneIs n .failed then y.setLane n { y.lane n with sends := .traffic } else y) y) q

/-- Those of a module that has become SHADOW go idle (R726). -/
def Sys.felleySilent (y : Sys) : Sys :=
  ((List.range 32).map (48 + ·)).foldl (fun y n =>
    if y.quadFn (quadOf n) = .felley then y.setLane n { y.laneSilent n (y.lane n) with partner := false } else y) y

/-- A lane stops delivering and looks for its signal again, from a step of R240. Without its PLL it sends nothing. -/
def Sys.laneLost (y : Sys) (n step : Nat) (resume : Bool) : Sys :=
  let was := y.laneIs n .active
  let u := y.lane n
  let y := y.setLane n { (if step ≤ 2 then y.laneSilent n u else u) with
    step := step, resume := resume, downAt := u.downAt <|> (if was then some y.up else none), heard := none, round := 0, quick := false, prbs := none,
    partner := decide (2 < step) && u.partner }
  let y := (y.laneFlag n .block false).laneFlag n .hiBer false
  let y := if step ≤ 4 then y.laneFlag n .cdr false else y
  let y := y.laneTo n .bringup
  if was then y.laneDown n else y

/-- A lock loss, with its cause: 0 CDR, 1 BLOCK, 2 REFERENCE (R235, R250). A lost reference takes the lock of every lane that has one. -/
def Sys.lockLost (y : Sys) (n cause invalid step : Nat) : Sys :=
  let was := y.laneIs n .active || (cause == 2 && y.laneHas n .cdr)
  let u := y.lane n
  let y := y.laneLost n step (cause != 2 && (u.resume || u.step == 0 || decide (6 ≤ u.step)))
  if was then (y.inc (ent (0x2400 + n) 0x0C)).raiseLimited n 0x0703 n (ev [(0, 1, n), (1, 1, cause), (4, 4, invalid)]) else y

/-! ## Bring-up (R240) -/

/-- Step 1: the lane starts once its domain runs and its reference is there; under a strap fault none does (R83). From DISABLED it trains whatever map
it holds (R240). -/
def Sys.laneStart (y : Sys) (n : Nat) : Sys :=
  if y.boot.strapFault then y else
  let y := y.setLane n { y.lane n with step := if y.laneRef n then 2 else 1, resume := false, quick := false, fresh := y.laneIs n .disabled }
  y.laneTo n .bringup

/-- A lane enters QUIET, DEEP or DISABLED (R242). -/
def Sys.laneRest (y : Sys) (n : Nat) (s : LaneState) : Sys :=
  let was := y.laneIs n .active
  let u := y.lane n
  let held := s = .quiet ∧ (u.sends = .traffic ∨ u.sends = .held)
  let y := y.setLane n { (if held then { u with sends := .held } else y.laneSilent n u) with
    step := 0, later := none, losAt := none, downAt := none, heard := none, round := 0, quick := false, prbs := none,
    partner := decide (s = .quiet) && u.partner }
  let y := if s = .quiet then y.laneFlag n .los false
    else (((y.laneFlag n .los false).laneFlag n .cdr false).laneFlag n .block false).laneFlag n .hiBer false
  let y := y.laneTo n s
  if was ∧ s = .disabled then y.laneDown n else y

/-- What a quad that has come up starts: LINK_HELLO on its link, stream paths (R459, R683, R714). -/
def Sys.quadCameUp (y : Sys) (q : Nat) : Sys :=
  match y.quadFn q with
  | .felley => y.linkHello q
  | .garos => y.linkHello q
  | .eth100 => upto 16 (fun n y => y.restorePaths n) y
  | _ => y

/-- Step 8: once every enabled lane of the group or quad has a map, those that have done their own steps deliver; a waiting request then
applies (R240, R244). -/
def Sys.lanesReady (y : Sys) (n : Nat) : Sys :=
  let on := y.enabledMates n
  let quad := 48 ≤ n
  let trains := n < 48 ∨ y.quadFn (quadOf n) ≠ .prbs
  if trains ∧ !(on.all fun m => (y.lane m).stored.isSome) then y
  else
    let wasUp := quad && y.quadUp (quadOf n)
    let y := on.foldl (fun y m =>
      let u := y.lane m
      if u.step ≠ 8 then y
      else
        let y := match u.downAt with
          | some t => y.raise 0x0704 m (ev [(0, 1, m), (4, 4, (y.up - t) / 1000 % 2 ^ 32)])
          | none => y
        let y := Sys.laneTo (y.setLane m { u with step := 0, downAt := none, later := none, fresh := false, quick := false }) m .active
        match u.later with
        | some 1 => y.laneRest m .quiet
        | some 2 => y.laneRest m .deep
        | _ => y) y
    if quad && !wasUp && y.quadUp (quadOf n) then y.quadCameUp (quadOf n) else y

/-- LANE_PLL_LOCKED (step 2). -/
def execLanePllLocked (lane : Fin 80) (s : State) : Host.Outcome State Fault Refusal :=
  onSys s fun _ y =>
    let u := y.lane lane.val
    if u.step ≠ 2 then y
    else
      let z := (y.setLane lane.val { u with step := if y.laneHas lane.val .los then 3 else 4 }).transmit lane.val
      if lane.val < 48 then z else z.linkRelease (quadOf lane.val)

/-- LOS_ASSERT (R233, R235): masked in QUIET, off in DEEP and DISABLED. -/
def execLosAssert (lane : Fin 80) (s : State) : Host.Outcome State Fault Refusal :=
  onSys s fun _ y =>
    let n := lane.val
    if !(y.laneIs n .active || y.laneIs n .bringup || y.laneIs n .failed) || y.laneHas n .los then y
    else
      let was := y.laneIs n .active
      let before := y.rd (ent (0x2400 + n) 2)
      let y := (y.laneFlag n .los true).inc (ent (0x2400 + n) 0x0D)
      let y := y.setLane n { y.lane n with losAt := some y.up }
      let y := y.raiseLimited n 0x0701 n (ev [(0, 1, n), (1, 1, before)])
      if was then y.laneLost n 3 true
      else if 4 ≤ (y.lane n).step then y.laneLost n 3 ((y.lane n).resume || decide (6 ≤ (y.lane n).step)) else y

/-- LOS_CLEAR (R233). -/
def execLosClear (lane : Fin 80) (s : State) : Host.Outcome State Fault Refusal :=
  onSys s fun _ y =>
    let n := lane.val
    if !y.laneHas n .los then y
    else
      let u := y.lane n
      let y := y.laneFlag n .los false
      let y := match u.losAt with
        | some t => y.raise 0x0702 n (ev [(0, 1, n), (4, 4, (y.up - t) / 1000 % 2 ^ 32)])
        | none => y
      y.setLane n { u with losAt := none, step := if u.step = 3 then 4 else u.step }

/-- CDR_LOCK (R234): the offset, in 0.1 ppm, is within ±300 ppm. -/
def execCdrLock (lane : Fin 80) (offset : BitVec 32) (s : State) : Host.Outcome State Fault Refusal :=
  onSys s fun _ y =>
    let n := lane.val
    let u := y.lane n
    if u.step ≠ 4 ∨ 3000 < offset.toInt.natAbs then y
    else
      let y := (y.laneFlag n .cdr true).wr (ent (0x2400 + n) 0x0A) offset.toNat
      y.setLane n { u with step := if u.resume then 6 else 5 }

/-- CDR_LOCK_LOST (R234, R235). -/
def execCdrLockLost (lane : Fin 80) (invalid : BitVec 32) (s : State) : Host.Outcome State Fault Refusal :=
  onSys s fun _ y =>
    let n := lane.val
    if !y.laneHas n .cdr || !(y.laneIs n .active || y.laneIs n .bringup || y.laneIs n .failed) then y
    else y.lockLost n 0 invalid.toNat (if y.laneHas n .los then 3 else 4)

/-- The values an equaliser can hold: peaking to 18 dB in 0.5 dB, tap 1 to ±254 mV and taps 2 to 8 to ±62 mV, in 2 mV (R232). -/
def equaliserOk (peaking : Nat) (taps : Bytes) : Bool :=
  decide (peaking ≤ 36) && (List.range 8).all fun k => decide ((toI 8 (rdLe taps k 1)).natAbs ≤ if k = 0 then 127 else 31)

/-- ADAPTATION_DONE (R232, R240): CTLE peaking and DFE taps, first at step 5 and then while the lane is ACTIVE. A lane whose adaptation is FROZEN
holds its present values. -/
def execAdaptationDone (lane : Fin 80) (peaking : BitVec 8) (taps : BitVec 64) (s : State) : Host.Outcome State Fault Refusal :=
  onSys s fun _ y =>
    let n := lane.val
    let u := y.lane n
    if !(u.step = 5 || y.laneIs n .active) || !equaliserOk peaking.toNat (le 8 taps.toNat) then y
    else
      let y := if y.laneHas n .frozen then y else (y.wr (ent (0x2400 + n) 8) peaking.toNat).wrB (ent (0x2400 + n) 9) (le 8 taps.toNat)
      if u.step = 5 then y.setLane n { u with step := 6 } else y

/-- Invalid ones among sync headers (R229). -/
def invalidHeaders (l : List (BitVec 2)) : Nat := l.countP fun h => headerOf h == .invalid

/-- Block lock is there: step 7 follows, or step 8 where a stored map counts or a PRBS quad needs no training (R240). -/
def Sys.blockLocked (y : Sys) (n : Nat) (u : Lane) : Sys :=
  let y := y.laneFlag n .block true
  if (u.stored.isSome ∧ !u.fresh) ∨ (48 ≤ n ∧ y.quadFn (quadOf n) = .prbs) then Sys.lanesReady (y.setLane n { u with step := 8 }) n
  else y.setLane n { u with step := 7 }

/-- BLOCK_LOCK (R230, step 6): the headers since the hunt began, with one bit slipped after each invalid one; the last 64 are valid. A lane that leaves
QUIET delivers after 4 valid headers, and hunts where they are not (R242). -/
def execBlockLock (lane : Fin 80) (headers : List (BitVec 2)) (s : State) : Host.Outcome State Fault Refusal :=
  onSys s fun _ y =>
    let n := lane.val
    let u := y.lane n
    let h := hunt headers
    if u.step ≠ 6 ∨ (u.quick ∧ headers.length < 4) then y
    else if u.quick ∧ invalidHeaders (headers.take 4) = 0 then y.blockLocked n u
    else
      let u := { u with slip := (u.slip + h.2) % 66, quick := false }
      if h.1 < 64 then (y.setLane n u).laneFlag n .block false else y.blockLocked n u

/-- BLOCK_LOCK_LOST (R230, R235): the invalid headers since the lane's last report, and the last 64 headers; lock goes with 16 invalid among those,
and with fewer the lane keeps it. -/
def execBlockLockLost (lane : Fin 80) (invalid : BitVec 32) (headers : List (BitVec 2)) (s : State) : Host.Outcome State Fault Refusal :=
  onSys s fun _ y =>
    let n := lane.val
    if !y.laneHas n .block || !(y.laneIs n .active || y.laneIs n .bringup || y.laneIs n .failed) then y
    else
      let y := y.countInvalid n invalid.toNat
      if headers.length = 64 ∧ 16 ≤ invalidHeaders headers then y.lockLost n 1 (invalidHeaders headers) 6 else y

/-- HI_BER_SET (R231): the invalid headers since the lane's last report, and those of the window; the lane keeps delivering. -/
def execHiBerSet (lane : Fin 80) (report : LaneReport) (s : State) : Host.Outcome State Fault Refusal :=
  onSys s fun _ y =>
    let n := lane.val
    if !y.laneIs n .active then y
    else
      let y := (y.countInvalid n report.invalid.toNat).laneReport n report
      let w := report.window.toNat
      if w ≤ 97 then y else (y.laneFlag n .hiBer true).raiseLimited n 0x0705 n (ev [(0, 1, n), (4, 4, w)])

/-- HI_BER_CLEAR (R231): a full window with 97 invalid headers or fewer. -/
def execHiBerClear (lane : Fin 80) (report : LaneReport) (s : State) : Host.Outcome State Fault Refusal :=
  onSys s fun _ y =>
    let n := lane.val
    let y := if y.laneHas n .block then (y.countInvalid n report.invalid.toNat).laneReport n report else y
    if report.window.toNat ≤ 97 then y.laneFlag n .hiBer false else y

/-! ## Training (R236 to R241) -/

/-- Training fails: 0 TIMEOUT, 1 DUPLICATE, 2 RANGE, 3 PROTOCOL. The lane keeps listening. -/
def Sys.trainingFailed (y : Sys) (n reason index : Nat) : Sys :=
  let was := y.laneIs n .active
  let y := y.raise 0x0707 n (ev [(0, 1, n), (1, 1, reason), (2, 1, index)])
  let later := (y.lane n).later
  let y := Sys.laneTo (y.setLane n { y.lane n with step := 7 }) n .failed
  let y := if was then y.laneDown n else y
  match later with
  | some 1 => y.laneRest n .quiet
  | some 2 => y.laneRest n .deep
  | _ => y

/-- The map of a group: logical index of each of its lanes (0x2480 + g:03). -/
def Sys.showMap (y : Sys) (n : Nat) : Sys :=
  if n < 48 then
    y.wrB (ent (0x2480 + n / 6) 3) ((laneMates n).map fun m => match (y.lane m).stored with | some p => BitVec.ofNat 8 (p.1 % 16) | none => 0xFF)
  else y

/-- The first alignment of an ingest group (R254): its lanes heard their training blocks' sequence counts, which the sender starts in one slot, within 64
block slots of one another. -/
def Sys.alignByTraining (y : Sys) (n : Nat) : Sys :=
  if 48 ≤ n then y
  else
    let g := n / 6
    let slot (m : Nat) : Option Int := (y.lane m).train.map fun p => (p.2 * y.rd (ent (0x2480 + g) 1) / 66000000 : Nat) - (p.1 : Int)
    let on := (y.enabledMates n).map slot
    let l := on.filterMap id
    let skew := (l.foldl max (l.headD 0)) - (l.foldl min (l.headD 0))
    if l.length < on.length ∨ 64 < skew then y
    else (y.wr (ent (0x3018 + g) 3) 1).wr (ent (0x3018 + g) 4) (max skew.toNat (y.rd (ent (0x3018 + g) 4)))

/-- What is heard on a lane: 16 training blocks that agree, or an ETH100 lane's alignment markers (R238). -/
def Sys.heardTraining (y : Sys) (n : Nat) : TrainingInput → Option Training
  | .blocks l => if y.laneProtocol n = 0 then none else agreed l
  | .markers lane inverted => if 48 ≤ n ∧ y.quadFn (quadOf n) = .eth100 then some ⟨lane.val, 0, true, inverted⟩ else none

/-- A lane reports a logical index: the round it belongs to. A lane's second report begins the next round, so that lanes are compared by what they
report at one time, and a lane that has no map yet against the maps as well (log entry 61). -/
def Sys.reportRound (y : Sys) (n : Nat) : Nat :=
  let now := (y.enabledMates n).foldl (fun m k => max m (y.lane k).round) 0
  if now = 0 ∨ (y.lane n).round = now then now + 1 else now

/-- Another lane reports index i in round r (R239, DUPLICATE). -/
def Sys.indexTaken (y : Sys) (n i r : Nat) : Bool :=
  (y.enabledMates n).any fun m => m != n &&
    (((y.lane m).round == r && (y.lane m).heard == some i) || ((y.lane n).stored.isNone && (y.lane m).stored.any fun p => p.1 % 16 == i))

/-- The partner's RX_TRAINED on a link lane. On a Garos lane that carries traffic its absence is a link start of the partner (log entry 61). -/
def Sys.partnerTrained (y : Sys) (n : Nat) (on : Bool) : Sys :=
  if n < 48 then y
  else
    let y := y.setLane n { y.lane n with partner := on }
    let y := if !on && y.quadFn (quadOf n) = .garos && (y.lane n).sends = .traffic then y.linkStart (quadOf n) else y
    y.linkRelease (quadOf n)

/-- A lane takes a map (R238, R239, R241). -/
def Sys.takeMap (y : Sys) (n : Nat) (t : Training) : Sys :=
  let u := y.lane n
  let new_ := (t.index % 64, t.inverted)
  let changed := u.stored.isSome && u.stored != some new_
  let y := if u.stored = some new_ then y
    else y.raise 0x0706 n (ev [(0, 1, n), (1, 1, t.index % 64), (2, 1, (if t.inverted then 1 else 0) + (if changed then 2 else 0))])
  let y := y.setLane n { y.lane n with stored := some new_, step := if y.laneIs n .active then 0 else 8 }
  let y := ((y.wr (ent (0x2400 + n) 4) (t.index % 64)).laneFlag n .trained true).laneFlag n .inverted t.inverted
  let y := y.showMap n
  let y := if u.stored.isNone && (y.lane n).sends = .training then y.trainOut n none else y
  if y.laneIs n .active then y else Sys.lanesReady (y.laneTo n .bringup) n

/-- TRAINING_BLOCK_RECEIVE (R236 to R239, R241, R254). A fixed polarity makes blocks of the other sense invalid. Of two lanes that report one index, only
the later to report fails as DUPLICATE, and the earlier keeps its map: R239 does not say which of them fails (DESIGN CHOICE, log entry 61). -/
def execTrainingBlockReceive (lane : Fin 80) (heard : TrainingInput) (s : State) : Host.Outcome State Fault Refusal :=
  onSys s fun _ y =>
    let n := lane.val
    let u := y.lane n
    let pol := y.rd (ent (0x2400 + n) 5)
    let listens := u.step = 7 ∨ y.laneIs n .failed ∨ (u.stored.isSome ∧ (y.laneIs n .active ∨ u.step = 8))
    match y.heardTraining n heard with
    | none => y
    | some t =>
      let i := t.index % 16
      if ¬listens ∨ (pol = 1 ∧ t.inverted) ∨ (pol = 2 ∧ !t.inverted) then y
      else if t.protocol ≠ y.laneProtocol n then y.trainingFailed n 3 (t.index % 64)
      else if (y.enabledMates n).length ≤ i then y.trainingFailed n 2 (t.index % 64)
      else
        let r := y.reportRound n
        let seq := match heard with | .blocks l => l.getLast?.map fun b => (trainingSeq b, y.up) | .markers _ _ => none
        let y := y.setLane n { u with heard := some i, round := r, train := seq }
        if y.indexTaken n i r then y.trainingFailed n 1 (t.index % 64)
        else Sys.partnerTrained ((y.takeMap n t).alignByTraining n) n t.trained

/-- TRAINING_TIMEOUT (R239). -/
def execTrainingTimeout (lane : Fin 80) (s : State) : Host.Outcome State Fault Refusal :=
  onSys s fun _ y => if (y.lane lane.val).step = 7 ∧ y.laneIs lane.val .bringup then y.trainingFailed lane.val 0 0xFF else y

/-- LANE_BRINGUP_RETRY (R240): 10 ms after a failure at step 4 or 6. -/
def execLaneBringupRetry (lane : Fin 80) (s : State) : Host.Outcome State Fault Refusal :=
  onSys s fun _ y =>
    let u := y.lane lane.val
    if (u.step = 4 ∨ u.step = 6) ∧ y.rd (ent (0x2400 + lane.val) 1) = 0 then y.laneLost lane.val 2 false else y

/-! ## References (R228) -/

/-- REFERENCE_MISSING, with the invalid headers among the last 64 blocks of each of its lanes. A QUIET lane hands LANE_DOWN to its protocol as well
(R235). -/
def execReferenceMissing (reference : Fin 16) (invalid : List (BitVec 32)) (s : State) : Host.Outcome State Fault Refusal :=
  onSys s fun _ y =>
    let r := reference.val
    let y := (y.wr (refKey r) 0).raise 0x0708 (r % 8) (ev [(0, 1, r)])
    (refLanes r).zipIdx.foldl (fun y p =>
      let n := p.1
      let bad := (invalid.getD p.2 0).toNat
      if y.laneIs n .quiet then
        let z := y.lockLost n 2 bad 1
        Sys.laneDown (z.setLane n { z.lane n with later := some 1 }) n
      else if y.laneIs n .active || y.laneIs n .bringup || y.laneIs n .failed then y.lockLost n 2 bad 1 else y) y

/-- REFERENCE_RESTORED: the lanes restart from step 2. -/
def execReferenceRestored (reference : Fin 16) (s : State) : Host.Outcome State Fault Refusal :=
  onSys s fun _ y =>
    let r := reference.val
    (refLanes r).foldl (fun y n => if (y.lane n).step = 1 then y.setLane n { y.lane n with step := 2 } else y) (y.wr (refKey r) 1)

/-! ## Requests (R242 to R244) -/

/-- A lane leaves QUIET for ACTIVE (R242): at its kept block alignment where it holds a map, else through steps 6 and 7. -/
def Sys.laneWake (y : Sys) (n : Nat) : Sys :=
  let y := y.transmit n
  if (y.lane n).stored.isSome || (decide (48 ≤ n) && y.quadFn (quadOf n) == .prbs) then y.laneResume n
  else Sys.laneTo ((y.setLane n { y.lane n with step := 6, resume := false }).laneFlag n .block false) n .bringup

/-- A requested state, at its commit (R243, R244). -/
def Sys.laneRequest (y : Sys) (n v : Nat) : Status × Sys :=
  if 48 ≤ n ∧ y.quadFn (quadOf n) = .eth100 ∧ (v = 1 ∨ v = 2) then (.state, y)
  else
    let y := y.wr (ent (0x2400 + n) 1) v
    let rest (s : LaneState) : Sys :=
      if y.laneIs n .active || y.laneIs n .failed || y.laneIs n .quiet then y.laneRest n s
      else if y.laneIs n .bringup then y.setLane n { y.lane n with later := some v }
      else if y.laneIs n s then y
      else Sys.laneStart (y.setLane n { y.lane n with later := some v }) n
    let z := if v = 3 ∧ !y.laneIs n .domainOff then y.laneRest n .disabled
      else if y.laneIs n .domainOff || !y.domainRun (laneDomain n) || (decide (48 ≤ n) && y.quadFn (quadOf n) == .off) then y
      else match v with
        | 0 =>
          if y.laneIs n .active then y
          else if y.laneIs n .quiet then y.laneWake n
          else if y.laneIs n .bringup || y.laneIs n .failed then y.setLane n { y.lane n with later := none }
          else y.laneStart n
        | 1 => rest .quiet
        | _ => rest .deep
    (.ok, Sys.lanesReady (z.showMates n) n)

/-- The record of a lane that is off: its map and its counts stay. -/
def Sys.laneDark (y : Sys) (n : Nat) : Lane :=
  let u := y.lane n
  { lane0 with stored := u.stored, errored := u.errored, seq := y.trainSeq n, fec := u.fec }

/-- The lanes of a domain that leaves Run (R244). -/
def Sys.lanesOff (y : Sys) (d : Nat) : Sys :=
  ((List.range 80).filter fun n => laneDomain n == d).foldl (fun y n =>
    let was := y.laneIs n .active
    let y := y.setLane n (y.laneDark n)
    let y := (((y.laneFlag n .los false).laneFlag n .cdr false).laneFlag n .block false).laneFlag n .hiBer false
    let y := y.laneTo n .domainOff
    if was then y.laneDown n else y) y

/-- On return to Run each lane goes to its requested state through R240; a stored map spares it step 7, but for one whose quad has since changed its
function. -/
def Sys.lanesOn (y : Sys) (d : Nat) : Sys :=
  ((List.range 80).filter fun n => laneDomain n == d).foldl (fun y n =>
    if y.laneIs n .domainOff then
      let fresh := (y.lane n).fresh
      let y := y.laneTo n .disabled
      let y := (y.laneRequest n (y.rd (ent (0x2400 + n) 1))).2
      y.setLane n { y.lane n with fresh := fresh }
    else y) y

/-! ## Margining (R246) -/

/-- A scan request. -/
def Sys.eyeScan (y : Sys) (n : Nat) (r : Bytes) : Status × Sys :=
  let h := toI 8 (rdLe r 0 1)
  let v := toI 8 (rdLe r 1 1)
  if r.length ≠ 8 then (.type, y)
  else if !(-32 ≤ h ∧ h ≤ 31 ∧ -31 ≤ v ∧ v ≤ 31) ∨ rdLe r 2 2 ≠ 0 ∨ rdLe r 4 4 = 0 ∨ 10000000 < rdLe r 4 4 then (.range, y)
  else if !y.laneIs n .active then (.state, y)
  else (.ok, y.wrB (ent (0x2400 + n) 0x0F) (pack 24 [(0, 1, 1), (1, 1, rdLe r 0 1), (2, 1, rdLe r 1 1)]))

/-- EYE_SCAN_DONE. -/
def execEyeScanDone (lane : Fin 80) (compared mismatches : BitVec 64) (s : State) : Host.Outcome State Fault Refusal :=
  onSys s fun _ y =>
    let k := ent (0x2400 + lane.val) 0x0F
    let r := y.rdB k
    if rdLe r 0 1 ≠ 1 then y
    else y.wrB k (poke (poke (poke (slice r 0 24) 0 [2]) 8 (le 8 compared.toNat)) 16 (le 8 mismatches.toNat))

/-! ## Retrain, rates and functions (R241, R247 to R249) -/

/-- The stored maps of the lanes go. -/
def Sys.clearMaps (y : Sys) (l : List Nat) : Sys :=
  l.foldl (fun y n =>
    let y := y.setLane n { y.lane n with stored := none }
    Sys.showMap (((y.wr (ent (0x2400 + n) 4) 0xFF).laneFlag n .trained false).laneFlag n .inverted (y.rd (ent (0x2400 + n) 5) == 2)) n) y

/-- A write to Retrain of group g (0 to 7) or quad q (8 to 15). -/
def Sys.retrain (y : Sys) (r v : Nat) : Status × Sys := if v ≠ 1 then (.range, y) else (.ok, y.clearMaps (refLanes r))

/-- A running lane restarts from step 2 of bring-up. -/
def Sys.laneRestart (y : Sys) (n : Nat) : Sys :=
  if y.laneIs n .active || y.laneIs n .bringup || y.laneIs n .failed then y.laneLost n (if y.laneRef n then 2 else 1) false else y

/-- A write of a group's lane rate. -/
def Sys.ingestRate (y : Sys) (g v : Nat) : Status × Sys :=
  if v < 2500000 ∨ 20625000 < v then (.range, y)
  else if (y.owner g).isSome then (.state, y)
  else (.ok, (refLanes g).foldl (fun y n => y.laneRestart n) (y.wr (ent (0x2480 + g) 1) v))

/-- The allocation of the eight quads keeps the quad-function table (R247, R248). -/
def quadsOk (role : Nat) (twin : Bool) (f : Nat → QuadFn) : Bool :=
  let felley := (List.range 8).filter fun q => f q == .felley
  let garos (m : Nat) : Bool := f (2 * m) == .garos && f (2 * m + 1) == .garos
  let broken := (List.range 4).any fun m => (f (2 * m) == .garos) != (f (2 * m + 1) == .garos)
  let place := felley.length ≤ 1 || (List.range 4).any (fun m => felley == [2 * m, 2 * m + 1]) || felley == [0, 1, 2, 3] || felley == [4, 5, 6, 7]
  (felley.isEmpty || role == 1 || role == 2) && place && !broken &&
    ((List.range 4).filter garos).length ≤ 3 && (!((List.range 4).any garos) || role == 3 || twin)

/-- Lane rate that a function sets, in kb/s; PRBS keeps the rate there was, where it is one of its own. -/
def fnRate (f : QuadFn) (old : Nat) : Nat :=
  match f with | .off => 0 | .eth100 => 25781250 | .felley => 28125000 | .garos => 32500000 | .prbs => max 1250000 old

/-- Links follow the functions: lanes of the Felley link, link positions, states OFF and TRAINING. -/
def Sys.showLinks (y : Sys) : Sys :=
  let felley := (List.range 8).filter fun q => y.quadFn q == .felley
  let y := (List.range 8).foldl (fun y q => y.wr (ent (0x2488 + q) 3)
    (match y.quadFn q with | .felley => felley.idxOf q | .garos => q % 2 | _ => 0xFF)) y
  let y := y.wr (ent 0x4D00 1) (4 * felley.length)
  let y := if felley.isEmpty then y.wr (ent 0x4D01 1) 0 else if y.rd (ent 0x4D01 1) = 0 then y.wr (ent 0x4D01 1) 1 else y
  (List.range 4).foldl (fun y k =>
    if y.quadFn (2 * k) = .garos then (if y.rd (ent (0x4C08 + k) 1) = 0 then y.wr (ent (0x4C08 + k) 1) 1 else y)
    else y.wr (ent (0x4C08 + k) 1) 0) y

/-- A mailbox since its last reset. -/
def mailbox0 : Mailbox := { msg := [], go := false, wake := false, accepted := false, busy := false, waking := false, error := 0, inbox := [], seq := 0 }
def Sys.mail (y : Sys) (m : Nat) : Mailbox := tget (fun _ => mailbox0) y.mailboxes m
def Sys.setMail (y : Sys) (m : Nat) (v : Mailbox) : Sys := { y with mailboxes := tset (fun _ => mailbox0) y.mailboxes m v }

/-- Both inboxes of pair p are emptied: 2 quad change, 3 domain reset (R642). -/
def Sys.emptyPair (y : Sys) (p cause : Nat) : Sys :=
  let n := (y.mail (2 * p)).inbox.length + (y.mail (2 * p + 1)).inbox.length
  let y := (y.setMail (2 * p) { y.mail (2 * p) with inbox := [] }).setMail (2 * p + 1) { y.mail (2 * p + 1) with inbox := [] }
  y.raise 0x1305 p (ev [(0, 1, p), (1, 1, cause), (2, 1, n)])

/-- Functions of quads have changed, at their commit: the lanes drop, the protocols see LANE_DOWN, the pair's mailboxes are emptied, and the
quad's domain is Off while its function is OFF (R248, R642, R645). -/
def Sys.quadsChanged (y : Sys) (die : Nat) (old : Nat → Nat) : Sys :=
  let moved := (List.range 8).filter fun q => y.rd (ent (0x2488 + q) 1) != old q
  let y := moved.foldl (fun (y : Sys) (q : Nat) =>
    let y := match quadFnOf (old q) with
      | .felley => y.felleyDown 3
      | .garos => y.garosDown (q / 2) 0
      | .eth100 => y.quadPathsDown q
      | _ => y
    let y := (refLanes (8 + q)).foldl (fun y n =>
      let y := y.setLane n { y.laneDark n with fresh := true }
      let y := (((y.laneFlag n .los false).laneFlag n .cdr false).laneFlag n .block false).laneFlag n .hiBer false
      y.laneTo n .disabled) y
    let f : QuadFn := y.quadFn q
    let y := y.wr (ent (0x2488 + q) 2) (fnRate f (y.rd (ent (0x2488 + q) 2)))
    let y := y.raise 0x0709 q (ev [(0, 1, q), (1, 1, old q), (2, 1, y.rd (ent (0x2488 + q) 1))])
    let y := y.emptyPair (q + 1) 2
    let d := 27 + q
    let was : Nat := y.rd (ent (0x2720 + d) 1)
    let exits := y.power.exits.filter fun p => p.1 != d
    let y := if f = QuadFn.off ∧ was ≠ 3 then
        Sys.raise { y.wr (ent (0x2720 + d) 1) 3 with power := { y.power with exits := exits } } 0x1307 d (ev [(0, 1, d), (1, 1, was), (2, 1, 3)])
      else if f ≠ QuadFn.off ∧ was = 3 then
        Sys.raise { y.wr (ent (0x2720 + d) 1) 4 with power := { y.power with exits := exits ++ [(d, ⟨y.up, 3⟩)] } } 0x1307 d
          (ev [(0, 1, d), (1, 1, 3), (2, 1, 4)])
      else y
    if y.domainRun d then (refLanes (8 + q)).foldl (fun y n => (y.laneRequest n (y.rd (ent (0x2400 + n) 1))).2) y
    else (refLanes (8 + q)).foldl (fun y n => y.laneTo n (if f = .off then .disabled else .domainOff)) y) y
  if moved.isEmpty then y else (y.showLinks).ptpRestart die

/-- A write of one quad's function; the allocation of all eight is judged with the set that would become live (R248). -/
def Sys.quadFunction (y : Sys) (die q v : Nat) : Sys :=
  let old (r : Nat) : Nat := y.rd (ent (0x2488 + r) 1)
  Sys.quadsChanged (y.wr (ent (0x2488 + q) 1) v) die old

/-- FELLEY_RESTART (0x4D00:06 = 2): every receive lane of the link restarts from step 2. -/
def Sys.felleyRestart (y : Sys) : Sys :=
  ((List.range 8).filter fun q => y.quadFn q == .felley).foldl (fun y q => (refLanes (8 + q)).foldl (fun y n => y.laneRestart n) y) y

end Sys2Proof.Machine
end

