-- ==== Sys2Proof/Machine/Supply.lean ====
section
/-!
DEFINITION. Sys2Proof/Machine/Supply.lean: the supply monitor, the supply cap, supply warning and shedding (R97 to R106). Voltages are
in 0.01 V and currents in 10 mA, as the module reports them.
-/

namespace Sys2Proof.Machine

/-- Supply flags (0x2001:04). -/
inductive SupplyFlag where
  | lowInput | warning | cap | overvoltage | hwLimit
  deriving DecidableEq, Repr
def SupplyFlag.bit : SupplyFlag → Nat
  | .lowInput => 0 | .warning => 1 | .cap => 2 | .overvoltage => 3 | .hwLimit => 4
def Sys.supplyFlag (y : Sys) (f : SupplyFlag) (v : Bool) : Sys := y.wrBit (ent 0x2001 4) f.bit v
def Sys.supplyHas (y : Sys) (f : SupplyFlag) : Bool := y.rdBit (ent 0x2001 4) f.bit
def Sys.onSupply (y : Sys) (f : Supply → Supply) : Sys := { y with sup := f y.sup }

/-- A sample enters the lowest and the highest (0x2001:07, :08; 0 stands for no sample yet). -/
def Sys.vinSeen (y : Sys) (v : Nat) : Sys :=
  let y := if y.rd (ent 0x2001 7) = 0 ∨ v < y.rd (ent 0x2001 7) then y.wr (ent 0x2001 7) v else y
  y.wr (ent 0x2001 8) (max v (y.rd (ent 0x2001 8)))

/-- A VIN sample: present value, lowest and highest (0x2001:01, :07, :08; 0 stands for no sample yet), and OVERVOLTAGE while it is above 60 V (R98). -/
def Sys.vinSample (y : Sys) (v : Nat) : Sys :=
  Sys.supplyFlag ((y.wr (ent 0x2001 1) v).vinSeen v) .overvoltage (decide (6000 < v))

/-! ## Shed loads (R104, R105) -/

/-- The mask of a subindex of the shed list. -/
def Sys.shedListed (y : Sys) (sub : Nat) : Nat := y.rd (ent 0x2002 sub)
/-- The shed list holds a load. -/
def Sys.shedAny (y : Sys) : Bool := (List.range 6).any fun i => y.shedListed (i + 1) != 0

/-- Streams of an encode core stop, or resume with an IDR picture (R482). -/
def Sys.shedEncode (y : Sys) (k : Nat) (on : Bool) : Sys :=
  let y := if on then y.wr (ent (0x4460 + k) 1) 2 else y.wr (ent (0x4460 + k) 1) (if (List.range 16).any fun e => (y.enc e).run.any fun r => r.core == k then 1 else 0)
  (List.range 16).foldl (fun y e =>
    if y.view.es e 2 ≠ k then y
    else if on then y.encStop e
    else if y.rd (ent (0x4420 + e) 1) = 2 then y.encResume e true else y) y

/-- Playback contexts of a decode core discard their input and hold their last picture, or wait for the next IRAP picture (R498). -/
def Sys.shedDecode (y : Sys) (k : Nat) (on : Bool) : Sys :=
  let y := y.wr (ent (0x4464 + k) 1) (if on then 2 else 0)
  (List.range 8).foldl (fun y p =>
    if y.pb p 9 ≠ 4 + k ∨ y.pb p 1 ≠ 1 then y
    else if on then Sys.wr (y.setDec p { y.dec p with input := [], run := none }) (pbStat p 1) 4
    else if y.rd (pbStat p 1) = 4 then y.wr (pbStat p 1) 1 else y) y

/-- An eDP port without self-refresh goes off, or powers up again (R457). -/
def Sys.shedEdp (y : Sys) (p : Nat) (on : Bool) : Sys :=
  let psr := y.rd (ent (0x4188 + p) 6) ≠ 0 ∧ (y.edp p).psrOk
  if on then
    (if psr then y.setEdp p { y.edp p with blen := false }
     else if y.rd (ent (0x4188 + p) 0x0C) = 0 ∨ y.rd (ent (0x4188 + p) 0x0C) = 5 then y else y.edpOff p 0)
  else if y.rd (ent (0x4188 + p) 0x0C) = 0 ∧ y.rd (ent (0x4188 + p) 2) = 1 then y.edpPower p
  else if (y.edp p).video then y.setEdp p { y.edp p with blen := true } else y

/-- The action of one load, as it is shed or resumes. Sinks of a channel resume at its next output frame boundary, unless they are off. -/
def Sys.shedLoad (y : Sys) (sub i : Nat) (on : Bool) : Sys :=
  match sub with
  | 2 => y.shedEdp i on
  | 3 => y.shedEncode i on
  | 4 => y.shedDecode i on
  | 6 =>
    if i = 1 ∧ on ∧ y.isShadow then
      (List.range 16).foldl (fun y x => if (y.recording x).slot.isSome then y.closeClip x 2 2 4 else y) y
    else if i = 1 ∧ !on then
      (List.range 16).foldl (fun y x => if y.rd (ent (0x4960 + x) 3) = 4 then y.wr (ent (0x4960 + x) 3) 0 else y) y
    else y
  | _ => y

/-- The loads shed become those of `want`; the sinks that a channel drives stay shed until its boundary (R105). -/
def Sys.setShed (y : Sys) (want : Nat → Nat) : Sys :=
  let old := y.sup.shed
  let was (sub : Nat) : Nat := (old.lookup sub).getD 0
  let keeps (sub : Nat) : Bool := sub == 1 || sub == 5
  let next := [1, 2, 3, 4, 5, 6].map fun sub => (sub, if keeps sub then was sub ||| want sub else want sub)
  let y := y.onSupply fun u => { u with shed := next }
  let y := [2, 3, 4, 6].foldl (fun y sub => (List.range 16).foldl (fun y i =>
    if (want sub).testBit i && !(was sub).testBit i then y.shedLoad sub i true
    else if !(want sub).testBit i && (was sub).testBit i then y.shedLoad sub i false else y) y) y
  upto 8 (fun n y => y.showStream n) (y.showSdo)

/-- The loads shed in a warning become those of the list (R104): the episode begins, or the list changed in it. -/
def Sys.shedNow (y : Sys) : Sys := Sys.wr (y.setShed y.shedListed) (ent 0x2002 7) (if y.shedAny then 1 else 0)

/-! ## The commands -/

/-- LOW_INPUT_ENTER (R99, R103). -/
def execLowInputEnter (vin : BitVec 16) (s : State) : Host.Outcome State Fault Refusal :=
  onSys s fun _ y =>
    let y := y.vinSample vin.toNat
    if y.supplyHas .lowInput then y
    else ((y.supplyFlag .lowInput true).onSupply fun u => { u with capTold := false, capAge := 0 }).raise 0x0101 255 (ev [(0, 2, vin.toNat)])

/-- LOW_INPUT_LEAVE: k_cap goes to 0 (R102). -/
def execLowInputLeave (vin : BitVec 16) (s : State) : Host.Outcome State Fault Refusal :=
  onSys s fun _ y =>
    let y := y.vinSample vin.toNat
    if !y.supplyHas .lowInput then y
    else Sys.skipChanged ((y.supplyFlag .lowInput false).onSupply fun u => { u with kCap := 0, capAge := 0 })

/-- SUPPLY_CAP_TICK (R102): `current` is the mean input current of the last millisecond, `vin` the present sample. -/
def execSupplyCapTick (vin current : BitVec 16) (s : State) : Host.Outcome State Fault Refusal :=
  onSys s fun _ y =>
    let i := current.toNat
    let y := y.vinSample vin.toNat
    let y := (y.wr (ent 0x2001 2) i).wr (ent 0x2001 3) (min 65535 (y.rd (ent 0x2001 1) * i / 1000))
    if !y.supplyHas .lowInput then y
    else
      let k := y.sup.kCap
      let age := y.sup.capAge + 1
      if 3100 < i then
        let y := if k = 12 then y.onSupply fun u => { u with capAge := age }
          else Sys.skipChanged (y.onSupply fun u => { u with kCap := k + 1, capAge := 0 })
        if k = 0 ∧ !y.sup.capTold then
          (y.onSupply fun u => { u with capTold := true }).raise 0x0106 255 (ev [(0, 2, y.rd (ent 0x2001 1)), (2, 1, 1)])
        else y
      else if i < 2900 ∧ 10 ≤ age ∧ 0 < k then Sys.skipChanged (y.onSupply fun u => { u with kCap := k - 1, capAge := 0 })
      else y.onSupply fun u => { u with capAge := age }

/-- Supply warning begins (R101, R104): the flag and event, the journal, then the shed list. -/
def Sys.enterWarning (y : Sys) (vin : Nat) : Sys :=
  if y.supplyHas .warning then y
  else
    let y := (y.supplyFlag .warning true).inc (ent 0x2001 5)
    let y := y.onSupply fun u => { u with warnAt := y.up, warnMinVin := vin, warnLost := y.rd (ent 0x2001 9) }
    let y := y.raise 0x0102 255 (ev [(0, 2, vin), (2, 2, y.rd (ent 0x2000 1)), (4, 1, if y.shedAny then 1 else 0)])
    y.commitJournal.shedNow

/-- SUPPLY_WARNING (R104). -/
def execSupplyWarning (vin : BitVec 16) (s : State) : Host.Outcome State Fault Refusal :=
  onSys s fun _ y => (y.vinSample vin.toNat).enterWarning vin.toNat

/-- SUPPLY_WARNING_CLEAR (R105): `minVin` is the lowest sample of the episode. Its time is added to 0x2001:06 here, when the episode ends (log entry
39). -/
def execSupplyWarningClear (vin minVin : BitVec 16) (s : State) : Host.Outcome State Fault Refusal :=
  onSys s fun _ y =>
    let y := y.vinSample vin.toNat
    if !y.supplyHas .warning then y
    else
      let us := (y.up - y.sup.warnAt) / 1000
      let low := min minVin.toNat y.sup.warnMinVin
      let y := y.vinSeen low
      let lost := (y.rd (ent 0x2001 9) + 2 ^ 32 - y.sup.warnLost) % 2 ^ 32
      let y := (y.supplyFlag .warning false).inc64 (ent 0x2001 6) us
      let y := y.raise 0x0103 255 (ev [(0, 4, us), (4, 2, low), (6, 4, lost)])
      Sys.setShed (y.wr (ent 0x2002 7) 0) fun _ => 0

/-- CURRENT_LIMIT_ENGAGE (R97): the power stage holds both rails. -/
def execCurrentLimitEngage (vin : BitVec 16) (s : State) : Host.Outcome State Fault Refusal :=
  onSys s fun _ y =>
    let y := y.vinSample vin.toNat
    if y.gov.limited then y
    else Sys.inc { (y.supplyFlag .hwLimit true) with gov := { y.gov with limited := true } } (ent 0x2001 0x0A)

/-- CURRENT_LIMIT_RELEASE (R97): the governor gets the rails back at the voltages they have, in 0.1 mV and never below 0.50 V. The event carries those
voltages; the set points from which the governor goes on lie on the grid of 2.5 mV, at or below them (R46). -/
def execCurrentLimitRelease (vin coreT coreS : BitVec 16) (s : State) : Host.Outcome State Fault Refusal :=
  onSys s fun _ y =>
    let y := y.vinSample vin.toNat
    if !y.gov.limited then y
    else
      let t := max 5000 (min coreT.toNat (y.rd (railKey .t)))
      let v := max 5000 (min coreS.toNat (y.rd (railKey .s)))
      let y : Sys := { (y.supplyFlag .hwLimit false) with gov := { y.gov with limited := false } }
      ((y.railTo .t (t / 25 * 25)).railTo .s (v / 25 * 25)).raise 0x0104 255 (ev [(0, 2, vin.toNat), (2, 2, t), (4, 2, v)])

/-- OVERVOLTAGE_EPISODE_START (R98): a sample above 60 V. -/
def execOvervoltageEpisodeStart (vin : BitVec 16) (s : State) : Host.Outcome State Fault Refusal :=
  onSys s fun _ y =>
    let y := y.vinSample vin.toNat
    if 6000 < vin.toNat then y.onSupply fun u => { u with ovMax := max u.ovMax vin.toNat } else y

/-- The running episode ends: `opened` when the input switch opened; else VIN has stayed at or below 60 V, so OVERVOLTAGE is clear. Its highest sample
is one of those that 0x2001:08 shows. -/
def Sys.overvoltageEnd (y : Sys) (highest above opened : Nat) : Sys :=
  if y.sup.ovMax = 0 then y
  else
    let high := max highest y.sup.ovMax
    let y := (y.onSupply fun u => { u with ovMax := 0 }).vinSeen high
    let y := if opened = 0 then y.supplyFlag .overvoltage false else y
    y.raise 0x0105 255 (ev [(0, 2, high), (2, 2, above), (4, 1, opened)])

/-- OVERVOLTAGE_EPISODE_END (R98): highest VIN and the summed milliseconds above 60 V. -/
def execOvervoltageEpisodeEnd (highest above : BitVec 16) (s : State) : Host.Outcome State Fault Refusal :=
  onSys s fun _ y => y.overvoltageEnd highest.toNat above.toNat 0

end Sys2Proof.Machine
end

