-- ==== Sys2Proof/Machine/Power.lean ====
section
/-!
DEFINITION. Sys2Proof/Machine/Power.lean: mailboxes, power domains and the way into Standby and out of it (R634 to R656, R660). Wakes that
restart a Dormant module are in Wake.lean.
-/

namespace Sys2Proof.Machine

/-! ## Mailboxes (R634 to R643) -/

def Sys.onPower (y : Sys) (f : Power → Power) : Sys := { y with power := f y.power }

/-- Function of pair p (R634). -/
inductive PairFn where
  | denval | relay | reserved
  deriving DecidableEq, Repr
def pairFn (p : Nat) : PairFn := if p = 0 then .denval else if p ≤ 8 then .relay else .reserved
/-- Domain of the pair's module end. -/
def pairDomain (p : Nat) : Nat := if p = 0 then 35 else 26 + p
/-- The pair is not DISABLED (R641). -/
def Sys.pairOn (y : Sys) (p : Nat) : Bool :=
  match pairFn p with
  | .denval => true
  | .relay => y.quadFn (p - 1) == .felley || y.quadFn (p - 1) == .garos
  | .reserved => false

/-- A pair counts as pending while a message waits for the host or a mailbox shows BUSY (R756). -/
def Sys.mailPending (y : Sys) : Sys :=
  let any := (List.range 32).any fun m => (y.mail m).busy || (m % 2 == 1 && !(y.mail m).inbox.isEmpty)
  Sys.updateInt { y with boot := { y.boot with mbPending := any } }

/-- MB_RX or MB_BUSY: the pair's vector goes out (R638). -/
def Sys.mailIrq (y : Sys) (m : Nat) : Sys := y.mailPending.sendVector (y.rd (ent (0x2710 + m / 2) 2))

/-- A pending GO of mailbox m is accepted (R636, R637). -/
def Sys.mailAccept (y : Sys) (m : Nat) : Sys :=
  let b := y.mail m
  let y := y.setMail m { b with go := false, accepted := true, busy := false, waking := false,
                                inbox := b.inbox ++ [b.msg], seq := (b.seq + 1) % 65536 }
  let y := y.inc (ent (0x2710 + m / 2) (3 + m % 2))
  if b.inbox.isEmpty then y.mailIrq m else y.mailPending

/-- A GO that finds the inbox full: BUSY, but for a module end whose host waits as well (R639, R640). -/
def Sys.mailBusy (y : Sys) (m : Nat) : Sys :=
  let b := y.mail m
  let host := y.mail (m / 2 * 2)
  if m % 2 = 1 ∧ host.go ∧ host.busy then y
  else if b.busy then y
  else
    let y := y.setMail m { b with busy := true }
    let y := if m % 2 = 0 ∧ (y.mail (m + 1)).busy then y.setMail (m + 1) { y.mail (m + 1) with busy := false } else y
    Sys.mailIrq (y.inc (ent (0x2710 + m / 2) 5)) m

/-- A GO is refused (R641). -/
def Sys.mailRefuse (y : Sys) (m error cause : Nat) : Sys :=
  let y := y.setMail m { y.mail m with go := false, busy := false, waking := false, error := error }
  Sys.raise (y.inc (ent (0x2710 + m / 2) 6)) 0x1305 (m / 2) (ev [(0, 1, m / 2), (1, 1, cause)])

/-- A pending GO meets an inbox with room, or not. -/
def Sys.mailTry (y : Sys) (m : Nat) : Sys := if (y.mail m).inbox.length < 4 then y.mailAccept m else y.mailBusy m

/-- The link that relay pair p forwards over, where it is UP: Garos k, or Felley 4. -/
def Sys.relayLink (y : Sys) (p : Nat) : Option Nat :=
  match y.quadFn (p - 1) with
  | .felley => if y.rd (ent 0x4D01 1) = 2 then some 4 else none
  | .garos => if y.garosUp ((p - 1) / 2) then some ((p - 1) / 2) else none
  | _ => none

/-- The oldest message of relay pair p goes to the partner (R642). -/
def Sys.relaySend (y : Sys) (p : Nat) : Sys :=
  match y.relayLink p, (y.mail (2 * p)).inbox with
  | some k, b :: _ => y.control k .relay (le 1 (y.rd (ent (0x2488 + (p - 1)) 3)) ++ b)
  | _, _ => y

/-- A message enters the inbox of a relay pair: it is forwarded at once where it is the oldest. -/
def Sys.mailEnter (y : Sys) (m : Nat) : Sys :=
  let first := (y.mail m).inbox.isEmpty
  let y := y.mailTry m
  if m % 2 = 0 ∧ pairFn (m / 2) = .relay ∧ first then y.relaySend (m / 2) else y

/-- What waits for MB1, without the EVENT frames whose 10 ms are over, which are counted as dropped (R158). -/
def Sys.mbFresh (y : Sys) : Sys :=
  let late := y.power.mbOut.filter fun e => e.1.any fun t => decide (t < y.up)
  if late.isEmpty then y
  else { y with
    power := { y.power with mbOut := y.power.mbOut.filter fun e => !(e.1.any fun t => decide (t < y.up)) }
    den := { y.den with eventDrops := tset (fun _ => 0) y.den.eventDrops 1 (tget (fun _ => 0) y.den.eventDrops 1 + late.length) } }

/-- The module's end puts a message into its odd mailbox; further messages of the Denval firmware wait for the one before (R149). -/
def Sys.mailSend (y : Sys) (m : Nat) (msg : Bytes) : Sys :=
  if (y.mail m).go then y.onPower fun w => { w with mbOut := w.mbOut ++ [(none, msg)] }
  else Sys.mailTry (y.setMail m { y.mail m with msg := slice msg 0 64, go := true, accepted := false, error := 0 }) m

/-- R643: every inbox is emptied and every mailbox cleared. -/
def Sys.mailReset (y : Sys) : Sys := Sys.mailPending { y with mailboxes := [], power := { y.power with mbOut := [] } }

/-! ## Domains (R644 to R648) -/

/-- A domain's state (0x2720 + d:01), with event 0x1307. -/
def Sys.domTo (y : Sys) (d st : Nat) : Sys :=
  let was := y.rd (ent (0x2720 + d) 1)
  if was = st then y else (y.wr (ent (0x2720 + d) 1) st).raise 0x1307 d (ev [(0, 1, d), (1, 1, was), (2, 1, st)])

/-- Active has the domain in Run (R645). -/
def Sys.activeRun (y : Sys) (d : Nat) : Bool :=
  if d < 24 then y.rd (ent (0x3860 + d) 1) != 3 else if 27 ≤ d ∧ d ≤ 34 then y.quadFn (d - 27) != .off else true

/-- A domain's parts stop (R88, R115, R482): what its ports and its protocols see. -/
def Sys.domainStop (y : Sys) (d : Nat) : Sys :=
  if d = 24 then
    let y := y.lanesOff 24
    upto 4 (fun n y =>
      let old := y.rd (ent (0x4180 + n) 2)
      if old ≤ 1 then y
      else
        let x := y.sdi n
        let y := Sys.setSdi (y.wr (ent (0x4180 + n) 2) 1) n { x with holdFrom := if old = 2 then some y.up else x.holdFrom }
        y.raise 0x0C07 n (ev [(0, 1, n), (1, 1, old), (2, 1, 1), (3, 1, y.rd (ent (0x4180 + n) 3))])) y
  else if d = 25 then
    let y := upto 16 (fun e y =>
      if y.rd (ent (0x4420 + e) 1) = 0 then y
      else
        let y := y.dropMarks e
        let y := { y with holds := y.holds.filter fun h => h.1 != e }
        Sys.setEnc (y.wr (ent (0x4420 + e) 1) 3) e { y.enc e with run := none, queue := [] }) y
    let y := upto 8 (fun p y =>
      let y := y.setDec p { y.dec p with input := [], run := none, ready := [] }
      y.decWait p) y
    upto 64 (fun n y =>
      let y := y.discardTail n
      y.setZc n { y.zc n with frame := none, coded := [], lines := 0, input := [], expand := none, line := 0, row := [] }) y
  else if d = 26 then
    let y := upto 24 (fun c y =>
      if y.view.chanOn c then
        Sys.showChannel (y.setChannel c { y.channel c with running := false, restart := some 2, switch := none, picked := false }) c
      else y) y
    Sys.showSdo (upto 2 (fun p y => if (y.edp p).vdd then y.edpOff p 0 else y) y)
  else if 27 ≤ d ∧ d ≤ 34 then y.lanesOff d
  else y

/-- Stored contents that Troupe t has lost on its return from a state (2 RETAIN, 3 OFF): unretained images and tables load again, and scratch
holds nothing in particular (R656). -/
def Sys.troupeBack (y : Sys) (t from_ : Nat) : Sys :=
  let kept (c : Nat) : Bool := from_ == 2 && y.rdBit (ent 0x2701 5) c
  let y := if kept 0 && kept 1 then y else { y with resident := y.resident.map fun r => { r with loaded := false } }
  let y := if kept 2 then y else { y with pages := y.pages.map fun p => { p with loaded := p.loaded.filter (· != t) } }
  if kept 1 then y
  else
    upto 16 (fun k y =>
      let y := y.setEngine (16 * t + k) { (y.engine (16 * t + k)).idle with scratch := [], entrySeed := y.seed, copied := none }
      { y with seed := y.seed + 8192 }) y

/-- Bytes of a DRAM segment (R593). -/
abbrev segmentBytes : Nat := 24159191040

/-- DRAM contents outside the retained segments are lost and read as zero (R593). -/
def Sys.dramRetain (y : Sys) : Sys :=
  let mask := y.rd (ent 0x4B00 0x0B)
  let keeps (a : Nat) : Bool := mask.testBit (a / segmentBytes)
  { y with dram := y.dram.filter fun p => keeps p.1, mem := { y.mem with poison := y.mem.poison.filter fun l => keeps (64 * l) } }

/-- A domain's parts start again (R648). -/
def Sys.domainStart (y : Sys) (d from_ : Nat) : Sys :=
  if d < 24 then y.troupeBack d from_
  else if d = 24 then y.lanesOn 24
  else if d = 25 then upto 16 (fun e y => if y.rd (ent (0x4420 + e) 1) = 3 then y.encResume e false else y) y
  else if d = 26 then
    let y := upto 24 (fun c y => if y.view.chanOn c then y.restartRaster c 2 else y) y
    upto 2 (fun p y => if y.rd (ent (0x4188 + p) 2) = 1 then y.edpPower p else y) y
  else if 27 ≤ d ∧ d ≤ 34 then y.lanesOn d
  else if d = 36 then y.dramRetain
  else y

/-- Ends of steps 1, 3, 5 and 6 of R646, in ns from WAIT, each step at its stated longest. -/
abbrev entryAbortEnd : Nat := 117000
abbrev entryEnd : Nat := 167000
/-- The end of step 4, at which the outputs are isolated. -/
abbrev entryIsolated : Nat := 112000

/-- The outputs of domain d are isolated: it is in Retain or Off, its entry has ended step 4, or it is on its way back from there (R88, R646). -/
def Sys.isolated (y : Sys) (d : Nat) : Bool :=
  let st := y.rd (ent (0x2720 + d) 1)
  st == 2 || st == 3 || (st == 1 && (y.power.entries.lookup d).any fun e => decide (e.since + entryIsolated ≤ y.up)) ||
    (st == 4 && (y.power.exits.lookup d).any fun e => e.from_ != 0)

/-- The state in which a reset finds domain d's outputs: those that are isolated stay so until the reset has ended (R89). -/
def Sys.restAtReset (y : Sys) (d : Nat) : Nat :=
  let st := y.rd (ent (0x2720 + d) 1)
  if !y.isolated d then 0
  else if st = 1 then ((y.power.entries.lookup d).map (·.target)).getD 3
  else if st = 4 then (if ((y.power.exits.lookup d).map (·.from_)) = some 2 then 2 else 3)
  else st

/-- A wake reaches a domain (R647, R648). -/
def Sys.domainExit (y : Sys) (d : Nat) : Sys :=
  match y.power.entries.lookup d with
  | some e =>
    if y.up < e.since + entryAbortEnd then
      let iso := y.isolated d
      let y := (y.inc (ent (0x2720 + d) 4)).domTo d 4
      y.onPower fun w => { w with entries := w.entries.filter (fun p => p.1 != d), exits := w.exits ++ [(d, ⟨y.up, if iso then 1 else 0⟩)] }
    else y.onPower fun w => { w with entries := w.entries.map fun (p : Nat × DomEntry) => if p.1 = d then (d, { p.2 with wake := true }) else p }
  | none =>
    let st := y.rd (ent (0x2720 + d) 1)
    if st = 2 ∨ st = 3 then (y.domTo d 4).onPower fun w => { w with exits := w.exits ++ [(d, ⟨y.up, st⟩)] } else y

/-- A controller's WAIT: the entry begins, and the domain admits no new work (R646). -/
def Sys.domainWait (y : Sys) (d target : Nat) : Sys :=
  if y.rd (ent (0x2720 + d) 1) ≠ 0 then y
  else
    let y := (y.domTo d 1).onPower fun w => { w with entries := w.entries ++ [(d, ⟨target, y.up, false⟩)] }
    -- the lanes of a domain that leaves Run (R244)
    if d = 24 ∨ 27 ≤ d ∧ d ≤ 34 then y.lanesOff d else y

/-- Step 6 of an entry has ended: the parts stop, and the state is shown. -/
def Sys.domainEntered (y : Sys) (d : Nat) (e : DomEntry) : Sys :=
  let y := y.onPower fun w => { w with entries := w.entries.filter fun p => p.1 != d }
  let y := ((y.domainStop d).inc (ent (0x2720 + d) 3)).domTo d e.target
  if e.wake then y.domainExit d else y

/-! ## Tests on demand (R749, R750) -/

/-- The running test ends: 0 PASS, 1 FAIL, 2 ABORTED; the result and event 0x0130, with the severity of its outcome. -/
def Sys.testEnd (y : Sys) (result detail : Nat) : Sys :=
  match y.boot.test with
  | none => y
  | some (code, i) =>
    let b := pack 8 [(0, 1, code), (1, 1, i), (2, 1, result), (4, 4, detail)]
    let y : Sys := { y with boot := { y.boot with test := none } }
    Sys.raiseSev ((y.wr (ent 0x1301 2) 0).wrB (ent 0x1301 3) b) (if result = 1 then 3 else 1) 0x0130 255 (slice b 0 16)

/-! ## Device states (R649 to R655) -/

/-- State of 0x2700:01. -/
def Sys.device (y : Sys) : Nat := y.rd (ent 0x2700 1)
def Sys.deviceTo (y : Sys) (n : Nat) : Sys := y.wr (ent 0x2700 1) n

/-- What Standby pauses goes on (R579, R653). -/
def Sys.resumeAll (y : Sys) : Sys :=
  let y := upto 2 (fun p y => if y.rd (ent (0x4188 + p) 2) = 1 ∧ y.rd (ent (0x4188 + p) 0x0C) = 0 then y.edpPower p else y) y
  y.migResume

/-- The exit is complete once every domain of Active is in Run (R654). -/
def Sys.activeDone (y : Sys) : Sys :=
  if y.device ≠ 3 ∨ (List.range 37).any (fun d => y.activeRun d && !y.domainRun d) then y
  else
    let c := y.power.wake.getD ⟨0, 0, y.up⟩
    let us := (y.up - c.at_) / 1000
    let old := y.power.from_
    let y := ((y.deviceTo 0).wr (ent 0x2700 6) us).onPower fun w => { w with wake := none, from_ := 0 }
    let y := y.onTwin fun t => { t with exitAt := some y.up }
    -- R651: buffers start empty, and a pre-roll ring is kept only where every segment that can hold its share was retained
    let y := if old = 1 ∨ old = 4 then y
      else { y with stores := [], rings := if y.rd (ent 0x4B00 0x0B) / 2 = 127 then y.rings else [] }
    Sys.resumeAll (y.raise 0x1303 255 (ev [(0, 1, old), (1, 1, c.source), (2, 1, c.port), (4, 4, us)]))

/-- Every domain begins its exit (R654). -/
def Sys.exitAll (y : Sys) (c : WakeCause) (from_ : Nat) : Sys :=
  let y := ((y.deviceTo 3).wr (ent 0x2700 5) c.source).onPower fun w => { w with step := 0, dormant := false, wake := some c, from_ := from_ }
  ((List.range 37).foldl (fun y d => if y.activeRun d then y.domainExit d else y) y).activeDone

/-- A source is enabled (R657): DENVAL always is. -/
def Sys.wakeEnabled (y : Sys) (source : Nat) : Bool := source == 0 || y.rdBit (ent 0x2701 1) (source - 1)

/-- A wake in a running module: it cuts an entry or starts the exit from Standby (R653, R654). -/
def Sys.wakeStandby (y : Sys) (source port : Nat) : Sys :=
  let st := y.device
  let c : WakeCause := ⟨source, port, y.up⟩
  if st = 2 then y.exitAll c 2
  else if st = 1 ∨ st = 4 then
    let done := ((List.range 37).filter fun d => y.activeRun d && 2 ≤ y.rd (ent (0x2720 + d) 1) && y.rd (ent (0x2720 + d) 1) ≤ 3).length
    let y := (y.inc (ent 0x2700 4)).raise 0x1302 255 (ev [(0, 1, if st = 1 then 2 else 3), (1, 1, source), (2, 1, done)])
    y.exitAll c st
  else y

/-- May this module be told to enter Standby: standalone, PRIMARY or array head (R653). -/
def Sys.leadsPower (y : Sys) : Bool :=
  let twin := y.rd (ent 0x4C01 2)
  twin != 2 && (twin == 1 || !y.rdBit (ent 0x2010 1) 4) && (y.view.role != 3 || y.arrayPos == y.rd (ent 0x4C01 6))

/-- Array position that straps give. -/
def strapPos (straps : Nat) : Nat := if straps.testBit 4 then straps / 4 % 2 else straps / 4 % 4

def Sys.arrayHead (y : Sys) : Bool := y.view.role == 3 && !y.roleShadow && y.arrayPos == y.rd (ent 0x4C01 6)

/-- The link to a position, not to the own twin and not to a SHADOW. -/
def Sys.posLink (y : Sys) (p : Nat) : Option Nat :=
  (List.range 4).find? fun k => y.garosUp k && y.rd (ent (0x4C08 + k) 2) != 2 && rdLe (y.link k).heard 1 1 != 2 &&
    strapPos (y.rd (ent (0x4C08 + k) 4)) == p

/-- The head's links to the other members. -/
def Sys.memberLinks (y : Sys) : List Nat :=
  if y.arrayHead then ((List.range 4).filter fun p => p != y.arrayPos).filterMap y.posLink else []

/-- The module would refuse STANDBY or DORMANT (R653, R660): a transition is under way, or a recording runs. -/
def Sys.powerBars (y : Sys) : Status :=
  let st := y.device
  if st = 1 ∨ st = 3 ∨ st = 4 ∨ (y.twin.ask.any fun a => !a.entered) = true then .busy
  else if (List.range 16).any (fun x => y.rd (ent (0x4960 + x) 1) == 1) then .state
  else .ok

/-- A write of STANDBY or DORMANT; `forced` when it comes from the partner that leads (R653, R655, R660, R688). -/
def Sys.standby (y : Sys) (dormant forced : Bool) : Status × Sys :=
  let st := y.device
  if y.powerBars ≠ .ok then (y.powerBars, y)
  else if !(y.leadsPower || forced) then (.state, y)
  else if st = 2 && !dormant then (.ok, y)
  else
    let y := y.testEnd 2 0
    let y := if forced then y else y.controlAll .power (le 1 (if dormant then 3 else 2))
    let y := (y.deviceTo (if dormant then 4 else 1)).onTwin fun t => { t with exitAt := none }
    let y := y.onPower fun w => { w with dormant := dormant, since := y.up, wake := none, step := if st = 2 then 6 else 2 }
    (.ok, y)

/-- STANDBY or DORMANT written here (R653, R688): the head of an array first asks every member whether it would refuse. -/
def Sys.powerWrite (y : Sys) (dormant : Bool) : Status × Sys :=
  let r := y.standby dormant false
  let links := y.memberLinks
  if r.1 ≠ .ok ∨ links = [] then r
  else
    let y := links.foldl (fun (y : Sys) k => y.control k .power (le 1 (if dormant then 3 else 2) ++ le 1 1)) y
    (.ok, y.onTwin fun t => { t with ask := some ⟨dormant, links, none, false⟩ })

/-- R655: MEM and SYS go off, HEARTBEAT and PWR_GOOD low; only AON remains. -/
def Sys.enterDormant (y : Sys) : Sys :=
  let y := (y.domTo 36 3).raise 0x1304 255 (ev [(4, 4, (y.up - y.power.since) / 1000)])
  let y := (y.domTo 35 3).onPower fun w => { w with step := 0, dormant := false }
  let y := (y.wr (ent 0x2700 5) 0).timeDormant
  { y with boot := { y.boot with phase := .dormant, heartbeat := false, pwrGood := false, intLow := false, epLink := false }, dram := [] }

/-- Step 6: Standby, or Dormant. -/
def Sys.standbyReached (y : Sys) : Sys :=
  if y.power.dormant then y.enterDormant
  else
    let y := ((y.deviceTo 2).inc (ent 0x2700 3)).timeStandby
    let y := y.raise 0x1301 255 (ev [(4, 4, (y.up - y.power.since) / 1000)])
    let y := y.onPower fun w => { w with step := 0 }
    let alarm := y.rd (ent 0x2701 3)
    if y.wakeEnabled 5 && alarm != 0 && decide (alarm ≤ y.t96) then y.wakeStandby 5 0 else y

/-- What elapses in an entry without a command: domains finish theirs, then MEM enters Retain, then the core group waits. -/
def Sys.powerTick (y : Sys) : Sys :=
  let due := y.power.entries.filter fun p => decide (p.2.since + entryEnd ≤ y.up)
  let y := due.foldl (fun (y : Sys) (p : Nat × DomEntry) => y.domainEntered p.1 p.2) y
  if y.power.step = 4 && y.power.entries.isEmpty then
    Sys.onPower (y.domainWait 36 2) fun w => { w with step := 5, stepAt := y.up }
  else if y.power.step = 5 && y.power.entries.isEmpty then y.standbyReached
  else if y.power.step = 6 then y.standbyReached
  else y

/-! ## The commands -/

/-- MB_GO (R636, R639 to R641). -/
def execMbGo (mailbox : Fin 32) (message : Bytes) (wake : Bool) (s : State) : Host.Outcome State Fault Refusal :=
  onSys s fun _ y =>
    let m := mailbox.val
    let b := y.mail m
    if b.go then y
    else
      let y := y.setMail m { b with msg := slice message 0 64, go := true, wake := wake, accepted := false, busy := false, waking := false, error := 0 }
      let d := pairDomain (m / 2)
      if !y.pairOn (m / 2) then y.mailRefuse m 2 1
      else if m % 2 = 0 ∧ (!y.domainRun d || y.device == 2) then
        if !wake then y.mailRefuse m 1 0
        else
          let y := y.setMail m { y.mail m with waking := true }
          if y.device = 0 then y.domainExit d else if y.wakeEnabled 1 then y.wakeStandby 1 (m / 2) else y
      else y.mailEnter m

/-- MB_ACCEPT: a pending GO is accepted once a slot has freed and the module's end runs; what the Denval firmware sends next goes after it. -/
def execMbAccept (mailbox : Fin 32) (s : State) : Host.Outcome State Fault Refusal :=
  onSys s fun _ y =>
    let m := mailbox.val
    let b := y.mail m
    if !b.go || decide (4 ≤ b.inbox.length) || (m % 2 == 0 && !y.domainRun (pairDomain (m / 2))) then y
    else
      let y := y.mailEnter m
      if m ≠ 1 then y
      else
        let y := y.mbFresh
        match y.power.mbOut with
        | e :: rest => Sys.mailSend (y.onPower fun w => { w with mbOut := rest }) 1 e.2
        | [] => y

/-- MB_POP (R638). -/
def execMbPop (mailbox : Fin 32) (s : State) : Host.Outcome State Fault Refusal :=
  onSys s fun _ y =>
    let b := y.mail mailbox.val
    Sys.mailPending (y.setMail mailbox.val { b with inbox := b.inbox.drop 1 })

/-- MB_CANCEL: an even mailbox withdraws its pending GO (R639). -/
def execMbCancel (mailbox : Fin 32) (s : State) : Host.Outcome State Fault Refusal :=
  onSys s fun _ y =>
    let b := y.mail mailbox.val
    if mailbox.val % 2 = 1 ∨ !b.go then y
    else Sys.mailPending (y.setMail mailbox.val { b with go := false, busy := false, waking := false, error := 3 })

/-- RELAY_FORWARD (R642): the partner has accepted the oldest message; the next one follows. -/
def execRelayForward (pair : Fin 16) (s : State) : Host.Outcome State Fault Refusal :=
  onSys s fun _ y =>
    let p := pair.val
    let b := y.mail (2 * p)
    if pairFn p ≠ .relay ∨ (y.relayLink p).isNone ∨ b.inbox.isEmpty then y
    else Sys.relaySend (y.setMail (2 * p) { b with inbox := b.inbox.drop 1 }) p

/-- EP_PERST_ASSERT (R643). -/
def execEpPerstAssert (s : State) : Host.Outcome State Fault Refusal :=
  onSys s fun _ y => Sys.mailReset { y with boot := { y.boot with epLink := false, masked := [] } }

/-- STANDBY_COMMAND (R653). -/
def execStandbyCommand (s : State) : Host.Outcome State Fault Refusal := onSys s fun _ y => (y.powerWrite false).2

/-- STANDBY_FRAMES_DRAINED: step 3 begins. -/
def execStandbyFramesDrained (s : State) : Host.Outcome State Fault Refusal :=
  onSys s fun _ y =>
    if y.power.step ≠ 2 then y
    else
      let y := upto 2 (fun p y => if (y.edp p).vdd then y.edpOff p 0 else y) y
      let y := (y.commitJournal.migPause).onPower fun w => { w with step := 3 }
      { y with frames := [], mem := { y.mem with scan := none } }

/-- STANDBY_FLUSH_DONE: partners are told (R707), and the domains enter their Standby modes in parallel (step 4). -/
def execStandbyFlushDone (s : State) : Host.Outcome State Fault Refusal :=
  onSys s fun _ y =>
    if y.power.step ≠ 3 then y
    else
      let y := y.commitJournal.controlAll .notice []
      let y := y.onPower fun w => { w with step := 4 }
      (List.range 35).foldl (fun y d => y.domainWait d (if d < 24 ∧ y.rd (ent (0x2720 + d) 2) = 1 then 2 else 3)) y

/-- DOMAIN_WAIT (R646): Retain is a state of TRP and MEM only; SYS, MEM and AON are never switched off by their controllers in Active. -/
def execDomainWait (domain : Fin 38) (off : Bool) (s : State) : Host.Outcome State Fault Refusal :=
  onSys s fun _ y =>
    let d := domain.val
    let ok := if off then decide (d < 35) else decide (d < 24) || d == 36
    if ok then y.domainWait d (if off then 3 else 2) else y

/-- DOMAIN_EXIT_DONE (R648). -/
def execDomainExitDone (domain : Fin 38) (s : State) : Host.Outcome State Fault Refusal :=
  onSys s fun _ y =>
    let d := domain.val
    match y.power.exits.lookup d with
    | none => y
    | some e =>
      let y := y.onPower fun w => { w with exits := w.exits.filter fun p => p.1 != d }
      let y := (y.wr (ent (0x2720 + d) 5) ((y.up - e.since) / 1000)).domTo d 0
      -- an entry that was cut has lost nothing, but the lanes of the domain stopped at its WAIT (R244)
      let y := if 2 ≤ e.from_ then y.domainStart d e.from_ else if d = 24 ∨ (27 ≤ d ∧ d ≤ 34) then y.lanesOn d else y
      y.activeDone

/-- ACTIVE_COMMAND (R654, R660): the DENVAL wake source. -/
def execActiveCommand (s : State) : Host.Outcome State Fault Refusal := onSys s fun _ y => y.wakeStandby 0 0

/-- DORMANT_COMMAND (R655). -/
def execDormantCommand (s : State) : Host.Outcome State Fault Refusal := onSys s fun _ y => (y.powerWrite true).2

end Sys2Proof.Machine
end

