-- ==== Sys2Proof/Machine/EventLog.lean ====
section
/-!
DEFINITION. Sys2Proof/Machine/EventLog.lean: Denval frames going out on their paths (R139 to R141, R146, R147), and the event ring in
MRAM with the EVENT frames it sends (R158, R751 to R753).
-/

namespace Sys2Proof.Machine

/-! ## Denval frames out -/

/-- The functions of R140. -/
inductive Func where
  | time | event | heartbeat | request | response | segDown | segUp | segAck | sessionReq | sessionRsp
  deriving DecidableEq, Repr
def Func.code : Func → Nat
  | .time => 0 | .event => 1 | .heartbeat => 2 | .request => 4 | .response => 5 | .segDown => 6 | .segUp => 7 | .segAck => 8
  | .sessionReq => 12 | .sessionRsp => 13

/-- The header word (R139). -/
def headerWord (func : Func) (dst src tag : Nat) : Nat := func.code * 2 ^ 24 + dst % 128 * 2 ^ 17 + src % 128 * 2 ^ 10 + tag % 1024

/-- Octets of the smallest CAN FD data length code that holds `n` (R146). -/
def canLength (n : Nat) : Nat := if n ≤ 8 then n else ([12, 16, 20, 24, 32, 48, 64].find? fun k => n ≤ k).getD 64

/-- Node ID of the module. -/
def Sys.node (y : Sys) : Nat := y.rd (ent 0x1100 1)
/-- CAN port n is enabled, and its bank is powered (R83). -/
def Sys.canOn (y : Sys) (n : Nat) : Bool := y.rd (ent (0x1108 + n) 1) == 1 && !y.bankOpen 7
/-- The UDP path serves: it is on and holds an address (R160). -/
def Sys.udpOn (y : Sys) : Bool := y.rd (ent 0x1101 1) == 1 && (y.rdB (ent 0x1101 8)).any (· != 0)

def Sys.onDen (y : Sys) (f : Denval → Denval) : Sys := { y with den := f y.den }

/-- A queued EVENT frame that its path could not carry within 10 ms (R158). -/
def Sys.eventLate (y : Sys) (q : Nat × Tx) : Bool :=
  match q.2 with | .denval _ _ _ func _ _ => func == 1 && decide (q.1 + 10000000 < y.up) | _ => false

/-- EVENT frames dropped from a path are counted for it (R158). -/
def Sys.eventDropped (y : Sys) (path n : Nat) : Sys :=
  y.onDen fun d => { d with eventDrops := tset (fun _ => 0) d.eventDrops path (tget (fun _ => 0) d.eventDrops path + n) }

/-- A Denval frame leaves on a path (rank of R127). During bus-off a CAN port keeps the newest 64 frames (R147); SHADOW transmits none (R693). -/
def Sys.frameRaw (y : Sys) (path dest word : Nat) (body : Bytes) : Sys :=
  let dst := word / 2 ^ 17 % 128
  let func := word / 2 ^ 24
  let tag := word % 1024
  if path = 1 then y.mailSend 1 (le 4 word ++ body)
  else if path = 2 then y.controlTwin .twinPath (le 4 word ++ body)
  else if 4 ≤ path ∧ path ≤ 7 then
    let n := path - 4
    let m := Tx.denval path 0 dst func tag (slice body 0 (canLength body.length))
    if y.isShadow then y
    else if y.rd (ent (0x1108 + n) 7) = 2 then
      let held := tget (fun _ => []) y.den.canQueued n
      let fresh := held.filter fun e => !y.eventLate e
      let q := fresh ++ [(y.up, m)]
      Sys.onDen (y.eventDropped path (held.length - fresh.length)) fun d =>
        { d with
          canQueued := tset (fun _ => []) d.canQueued n (q.drop (q.length - 64))
          canDropped := tset (fun _ => 0) d.canDropped n (tget (fun _ => 0) d.canDropped n + (q.length - 64)) }
    else y.send m
  else y.send (.denval path dest dst func tag body)

/-- The source of a frame that the Felley partner has forwarded: its path and source there (R721). -/
def farSource (path source : Nat) : Nat := 2 ^ 62 + path * 2 ^ 48 + source % 2 ^ 48
def isFar (source : Nat) : Bool := decide (2 ^ 62 ≤ source)

/-- A frame of the module's own. What answers a forwarded frame goes back over the link (R721). -/
def Sys.frameOut (y : Sys) (path dest dst : Nat) (func : Func) (tag : Nat) (body : Bytes) : Sys :=
  let word := headerWord func dst y.node tag
  if isFar dest then y.control 4 .forward (le 1 1 ++ le 1 path ++ le 6 (dest % 2 ^ 48) ++ le 4 word ++ body) else y.frameRaw path dest word body

/-- The UDP report destination: address in the upper part, port in the low 16 bits; none while it is 0.0.0.0. -/
def Sys.reportTo (y : Sys) : Option Nat :=
  let a := y.rdB (ent 0x1101 6)
  if y.udpOn && a.any (· != 0) then some (unLe a * 65536 + y.rd (ent 0x1101 7)) else none

/-- A broadcast on every enabled CAN port, and to the report destination where `udp` (R157 to R159). -/
def Sys.broadcast (y : Sys) (func : Func) (udp : Bool) (body : Bytes) : Sys :=
  let y := (List.range 4).foldl (fun y n => if y.canOn n then y.frameOut (4 + n) 0 0 func 0 body else y) y
  match udp, y.reportTo with
  | true, some t => y.frameOut 3 t 0 func 0 body
  | _, _ => y

/-! ## The event ring -/

/-- The 32 octets of a record (R751). -/
def EventRecord.octets (r : EventRecord) : Bytes := le 12 r.t96 ++ le 2 r.code ++ le 1 r.severity ++ le 1 r.source ++ slice r.data 0 16

/-- The EVENT frame of a record (R158). On MB1 it waits up to 10 ms for the messages before it; a path that is late drops and counts it when it next
carries a frame (log entry 41). -/
def Sys.eventFrames (y : Sys) (r : EventRecord) : Sys :=
  if r.severity < y.rd (ent 0x1100 4) then y
  else
    let body := le 2 34 ++ r.octets
    let y := y.broadcast .event true body
    if y.rd (ent 0x1102 1) = 0 ∨ y.rd (ent 0x1102 2) = 0 then y
    else if (y.mail 1).go then
      y.onPower fun w => { w with mbOut := w.mbOut ++ [(some (y.up + 10000000), le 4 (headerWord .event 0 y.node 0) ++ body)] }
    else y.frameOut 1 0 0 .event 0 body

/-- A record enters the ring at the next sequence; the oldest of 4,096 gives way (R751). -/
def Sys.ringPut (y : Sys) (r : EventRecord) : Sys :=
  let n := y.rd (ent 0x1300 1)
  let all := y.mram.ring ++ [(n, r)]
  let ring := all.drop (all.length - 4096)
  let y := { y with mram := { y.mram with ring := ring } }
  let y := y.wr (ent 0x1300 1) ((n + 1) % 2 ^ 32)
  y.wr (ent 0x1300 2) ((ring.head?.map fun p => p.1).getD ((n + 1) % 2 ^ 32))

/-- The oldest detected event is written, its frames go out and the EVENT class follows; once there is room again, the number of dropped records
is reported (R753). -/
def Sys.logWrite (y : Sys) : Sys :=
  match y.log.pending with
  | [] => y
  | r :: rest =>
    let y := Sys.ringPut { y with log := { y.log with pending := rest } } r
    let y := y.eventFrames r
    let y := if y.rd (ent 0x1310 2) ≤ r.severity then y.classRaised .event else y
    if y.log.dropped = 0 then y
    else Sys.raise { y with log := { y.log with dropped := 0 } } 0x0132 255 (ev [(0, 4, y.log.dropped)])

/-- A reset writes what was detected: the ring survives it (R107, R751). No path serves to carry a frame. -/
def Sys.logFlush (y : Sys) : Sys :=
  let rs := y.log.pending
  rs.foldl Sys.ringPut { y with log := { y.log with pending := [], limited := [] } }

end Sys2Proof.Machine
end

