-- ==== Sys2Proof/Machine/LookImage.lean ====
section
/-!
DEFINITION. Sys2Proof/Machine/LookImage.lean: the format of a look-program image (R343 to R345, R371): which words are legal, and
what an image must satisfy before a slot takes it.
-/

namespace Sys2Proof.Machine

/-! ## Legal words (R343 to R345, R360) -/

/-- The word is an instruction, with every unused field 0 and every register it names in its file (R343, R371). -/
def wordOk (w : Nat) : Bool := (instrOf 0 w).isSome

/-- Table slot of a LUT instruction. -/
def lutSlot (w : Nat) : Option Nat := let op := bitField w 31 26; if 0x24 ≤ op ∧ op ≤ 0x26 then some (bitField w 3 0) else none

/-- Target of BR, BRP or CALL at word i. -/
def branchTarget (i w : Nat) : Option Int :=
  let op := bitField w 31 26
  if op = 0x30 ∨ op = 0x31 ∨ op = 0x33 then some ((i : Int) + toI 21 w) else none

/-! ## The image (R371) -/

/-- A section: offset and length in octets. -/
abbrev Section := Nat × Nat

/-- The image's parts lie between its header and its trailer, aligned, apart from each other. -/
def sectionsOk (limit : Nat) (l : List Section) : Bool :=
  let l := l.filter fun s => s.2 != 0
  l.all (fun s => s.1 % 4 == 0 && 64 ≤ s.1 && s.1 + s.2 ≤ limit) &&
  l.Pairwise fun a b => a.1 + a.2 ≤ b.1 ∨ b.1 + b.2 ≤ a.1

/-- The words of the code. -/
def codeWords (img : Bytes) : List Nat :=
  let off := rdLe img 12 4
  (List.range (rdLe img 16 2 / 4)).map fun i => rdLe img (off + 4 * i) 4

/-- Branches stay in the code and in the loop body they stand in; loop bodies end before the code does. -/
def flowOk (code : List Nat) : Bool :=
  let n := code.length
  let bodies := code.zipIdx.filterMap fun (p : Nat × Nat) => if bitField p.1 31 26 = 0x32 then some (p.2 + 1, p.2 + bitField p.1 11 0) else none
  bodies.all (fun b => b.2 < n) &&
  code.zipIdx.all fun (p : Nat × Nat) =>
    match branchTarget p.2 p.1 with
    | none => true
    | some t =>
      decide (0 ≤ t) && decide (t < n) &&
      (bitField p.1 31 26 == 0x33 || bodies.all fun b => !(decide (b.1 ≤ p.2) && decide (p.2 ≤ b.2)) || (decide ((b.1 : Int) ≤ t) && decide (t ≤ b.2)))

/-- The entry records: each pair of binding and kind at most once, REDUCED entries exactly where HAS_REDUCED says. -/
def entriesOk (img : Bytes) (words : Nat) : Bool :=
  let n := rdLe img 7 1
  let off := rdLe img 40 4
  let l := (List.range n).map fun i => slice img (off + 16 * i) 16
  let pairs := l.map fun r => (rdLe r 0 1, rdLe r 1 1)
  let has := rdLe img 6 1 == 1
  1 ≤ n && n ≤ 32 &&
  l.all (fun r => rdLe r 0 1 ≤ 1 && rdLe r 1 1 ≤ 15 && rdLe r 2 2 < words && 1 ≤ rdLe r 4 2 && rdLe r 6 2 ≤ 16 && rdLe r 8 8 == 0) &&
  pairs.eraseDups.length == pairs.length &&
  pairs.all fun p => if p.1 = 0 then !has || pairs.contains (1, p.2) else has

/-- Table references and relocations. -/
def refsOk (img : Bytes) : Bool :=
  let t := rdLe img 18 2
  let off := rdLe img 44 4
  t ≤ 8 && (List.range t).all fun i =>
    let r := slice img (off + 8 * i) 8
    let kind := rdLe r 1 1
    let size := rdLe r 2 2
    rdLe r 0 1 ≤ 7 && 2 ≤ size && ((kind == 1 && size ≤ 16384) || (kind == 2 && size ≤ 65)) && rdLe r 4 4 == 0
def relocsOk (img : Bytes) (code : List Nat) : Bool :=
  let n := rdLe img 32 2
  let off := rdLe img 28 4
  n ≤ 4096 && (List.range n).all fun i =>
    let r := slice img (off + 4 * i) 4
    let w := code.getD (rdLe r 0 2) 0
    let fn := bitField w 19 16
    rdLe r 0 2 < code.length && bitField w 31 26 == 0x0C && (fn == 4 || fn == 6) && (rdLe r 2 1 == 1 || rdLe r 2 1 == 2) && rdLe r 3 1 == 0

/-- The image has the format of R371. -/
def imageOk (img : Bytes) : Bool :=
  let n := img.length
  let codeLen := rdLe img 16 2
  let consts := rdLe img 24 4
  let code := codeWords img
  let slots := (imgTables img).map (·.1)
  132 ≤ n && n ≤ 98304 && rdLe img 0 4 == 0x49504C4B && rdLe img 4 1 == 1 && rdLe img 5 1 == 1 && rdLe img 6 1 ≤ 1 && rdLe img 8 4 == n &&
  codeLen % 4 == 0 && 4 ≤ codeLen && codeLen ≤ 16384 && consts % 4 == 0 && consts ≤ 49152 && rdLe img 34 2 % 4 == 0 && rdLe img 34 2 ≤ 4096 &&
  rdLe img 36 4 ≤ 16384 &&
  sectionsOk (n - 68) [(rdLe img 12 4, codeLen), (rdLe img 20 4, consts), (rdLe img 28 4, 4 * rdLe img 32 2), (rdLe img 40 4, 16 * rdLe img 7 1),
    (rdLe img 44 4, 8 * rdLe img 18 2)] &&
  code.all (fun w => wordOk w && (lutSlot w).all slots.contains) && flowOk code && entriesOk img code.length && refsOk img &&
  relocsOk img code

end Sys2Proof.Machine
end

