-- ==== Sys2Proof/Machine/Thermal.lean ====
section
/-!
DEFINITION. Sys2Proof/Machine/Thermal.lean: temperature sensing, the thermal loops and the thermal trip (R663 to R677). Sensors are numbered 0
to 63 (TS), 64 to 72 (TSM) and 73 (TSP); temperatures are in 0.01 °C.
-/

namespace Sys2Proof.Machine

/-! ## Readings -/

def Sys.onThermal (y : Sys) (f : Thermal → Thermal) : Sys := { y with thermal := f y.thermal }

/-- The entry of a sensor's last sample. -/
def sensorKey (n : Nat) : Nat := if n < 64 then ent 0x2102 (n + 1) else ent 0x2103 (n - 63)
def Sys.sensor (y : Sys) (n : Nat) : Int := y.rdI (sensorKey n)
/-- The sensor is excluded (0x2101:08, :09). -/
def Sys.excluded (y : Sys) (n : Nat) : Bool := if n < 64 then y.rdBit (ent 0x2101 8) n else y.rdBit (ent 0x2101 9) (n - 64)
def Sys.setExcluded (y : Sys) (n : Nat) (v : Bool) : Sys :=
  if n < 64 then y.wrBit (ent 0x2101 8) n v else y.wrBit (ent 0x2101 9) (n - 64) v

/-- Sensors directly above, below, left and right of TSn (R664). -/
def neighbours (n : Nat) : List Nat :=
  (if 8 ≤ n then [n - 8] else []) ++ (if n < 56 then [n + 8] else []) ++ (if n % 8 = 0 then [] else [n - 1]) ++
  (if n % 8 = 7 then [] else [n + 1])

/-- The valid sensors that sensor n is compared with. -/
def Sys.peers (y : Sys) (n : Nat) : List Nat :=
  let all := if n < 64 then neighbours n else (List.range 9).map (fun p => p + 64) |>.filter (· != n)
  all.filter fun k => !y.excluded k

/-- Median; of an even count, the mean of the two in the middle. -/
def median (l : List Int) : Option Int :=
  let s := l.mergeSort (· ≤ ·)
  if s.isEmpty then none
  else if s.length % 2 = 1 then s[s.length / 2]?
  else some ((s.getD (s.length / 2 - 1) 0 + s.getD (s.length / 2) 0) / 2)

/-- The highest of a list, with the sensor that has it. -/
def hottest (l : List (Nat × Int)) : Option (Nat × Int) :=
  l.foldl (fun b p => match b with | none => some p | some q => if q.2 < p.2 then some p else b) none

/-- Valid core sensors with their readings. -/
def Sys.validCore (y : Sys) : List (Nat × Int) := ((List.range 64).filter fun n => !y.excluded n).map fun n => (n, y.sensor n)
def Sys.validDram (y : Sys) : List (Nat × Int) := ((List.range 9).filter fun p => !y.excluded (64 + p)).map fun p => (64 + p, y.sensor (64 + p))

/-- A reading as decisions see it: an excluded sensor is replaced (R665). -/
def Sys.reading (y : Sys) (n : Nat) : Option Int :=
  if !y.excluded n then some (y.sensor n)
  else if n < 64 then
    match hottest ((y.peers n).map fun k => (k, y.sensor k)) with
    | some p => some p.2
    | none => (hottest y.validCore).map fun p => p.2
  else if n < 73 then (hottest y.validDram).map fun p => p.2 + 1000
  else none

/-- T_die with the sensor it comes from, and T_dram likewise. -/
def Sys.hotCore (y : Sys) : Option (Nat × Int) := hottest ((List.range 64).filterMap fun n => (y.reading n).map fun t => (n, t))
def Sys.hotDram (y : Sys) : Option (Nat × Int) := hottest ((List.range 9).filterMap fun p => (y.reading (64 + p)).map fun t => (64 + p, t))

/-- Temperature field of an event or log entry: I16 in 0.1 °C. -/
def tenths (t : Int) : Nat := ofI 16 (t / 10)

/-! ## Trip (R671, R674) -/

/-- A shutdown log entry (R674). -/
def Sys.shutdownRecord (y : Sys) (cause sensor : Nat) (temp second : Int) : Bytes :=
  let excluded := ((List.range 74).filter y.excluded).length
  let b := pack 28 [(0, 12, y.t96), (12, 1, cause), (13, 1, sensor), (14, 2, tenths temp), (16, 2, y.rd (ent 0x2001 3)), (18, 2, y.rd (railKey .t)),
    (20, 1, y.skip), (21, 1, excluded), (22, 2, tenths second), (24, 4, y.rd (ent 0x2003 8))]
  b ++ le 4 (crc32c b).toNat

/-- Every domain but AON goes off (R107, R111 step 3, R671): lanes, links, channels and ports stop, and drive nothing. -/
def Sys.domainsOff (y : Sys) : Sys :=
  let y := upto 80 (fun n y => Sys.laneTo (y.setLane n { lane0 with stored := (y.lane n).stored }) n .domainOff) y
  let y := upto 37 (fun d y => y.wr (ent (0x2720 + d) 1) 3) y
  let y := upto 4 (fun k y => y.wr (ent (0x4C08 + k) 1) 0) (y.wr (ent 0x4D01 1) 0)
  let y := upto 4 (fun n y => if 1 < y.rd (ent (0x4180 + n) 2) then y.wr (ent (0x4180 + n) 2) 1 else y) y
  let y := upto 2 (fun p y => y.wr (ent (0x4188 + p) 0x0C) 0) y
  { y with links := [], edps := [], sdis := [], pathsDown := [], felley := [], ptp := []
           channels := y.channels.map fun (p : Nat × Channel) => (p.1, { channel0 with index := p.2.index })
           power := { y.power with entries := [], exits := [] } }

/-- Only AON stays powered: the volatile parts are gone, the outputs are in their reset states (R87, R671). -/
def Sys.powerDown (y : Sys) (p : BootPhase) : Sys :=
  let y := y.domainsOff
  Sys.showSdo
  { y with boot := { y.boot with phase := p, heartbeat := false, pwrGood := false, intLow := false, epLink := false, mbPending := false,
                                 mqPending := false, masked := [] },
           dram := [], mailboxes := [], power := { y.power with mbOut := [] }
           sec := { chains := [], nonce := none } }

/-- A thermal trip: sensor and triggering sample. The entry takes the next slot of the log; a full log counts it and says so. -/
def Sys.thermalTrip (y : Sys) (n : Nat) (t : Int) : Sys :=
  let cause := if n < 64 then 0 else 1
  let others := (if n < 64 then y.validCore else y.validDram).filter fun p => p.1 != n
  let rec_ := y.shutdownRecord cause n t (((hottest others).map fun p => p.2).getD 0)
  let y := (y.inc (ent 0x2101 0x0C)).wrB (ent 0x2110 0x41) rec_
  let slot := ((List.range 64).find? fun i => (y.rdB (ent 0x2110 (i + 1))).isEmpty)
  let y := match slot with
    | some i => y.wrB (ent 0x2110 (i + 1)) rec_
    | none =>
      let y := y.inc (ent 0x2110 0x42)
      y.raise 0x020E 255 (ev [(0, 4, y.rd (ent 0x2110 0x42))])
  let y := y.raise 0x020B 255 (ev [(0, 1, cause), (1, 1, n), (2, 2, tenths t), (4, 1, slot.getD 255)])
  let y := y.logFlush.timeOff
  Sys.powerDown { y with mram := { y.mram with tripped := some (y.up, slot.getD 255), savedTime := y.t96 } } .tripHold

/-! ## Levels and loops (R667, R668) -/

/-- Thermal flags (0x2101:06). -/
inductive ThermalFlag where
  | warn | throttle | heavy | dram | psu | failSafe
  deriving DecidableEq, Repr
def ThermalFlag.bit : ThermalFlag → Nat
  | .warn => 0 | .throttle => 1 | .heavy => 2 | .dram => 3 | .psu => 4 | .failSafe => 5
def Sys.thermalHas (y : Sys) (f : ThermalFlag) : Bool := y.rdBit (ent 0x2101 6) f.bit
def Sys.thermalFlag (y : Sys) (f : ThermalFlag) (v : Bool) : Sys := y.wrBit (ent 0x2101 6) f.bit v

/-- A level is reached at `a`, and clears 3 °C below it. -/
def levelNow (was : Bool) (t a : Int) : Bool := if was then decide (a - 300 < t) else decide (a ≤ t)

/-- k_th and the skip count, with events 0x0205 and 0x0206; loop and reading are those of the change. -/
def Sys.showThermal (y : Sys) (loop : Nat) (t : Int) : Sys :=
  let h := y.thermal
  let k := max h.core.k (max h.dram.k h.psu.k)
  let was := y.rd (ent 0x2101 5)
  if k = was then y
  else
    let y := Sys.skipChanged (y.wr (ent 0x2101 5) k)
    if was = 0 then
      Sys.raiseLimited (y.onThermal fun h => { h with since := y.up }) loop 0x0205 255 (ev [(0, 1, loop), (1, 1, k), (2, 2, tenths t)])
    else if k = 0 then y.raise 0x0206 255 (ev [(4, 4, (y.up - y.thermal.since) / 1000000)])
    else y

/-- Heavy throttle and the division of the divisible edge clocks (R667, R670). -/
def Sys.heavyLevel (y : Sys) (sensor : Nat) (t : Int) : Sys :=
  let on := levelNow (y.thermalHas .heavy) t (y.rdI (ent 0x2100 3))
  let div := y.rd (ent 0x2101 7)
  let want := if !on then 1 else if levelNow (div == 4) t 14200 then 4 else 2
  let entered := on && !y.thermalHas .heavy
  let y := (y.thermalFlag .heavy on).wr (ent 0x2101 7) want
  if entered || want != div then y.raise 0x0207 sensor (ev [(0, 1, sensor), (1, 1, want), (2, 2, tenths t)]) else y

/-- What the core readings set: T_die, its sensor, WARN, THROTTLE and HEAVY. -/
def Sys.coreLevels (y : Sys) : Sys :=
  match y.hotCore with
  | none => y
  | some (n, t) =>
    let y := (y.wrI (ent 0x2101 1) t).wr (ent 0x2101 2) n
    let was := y.thermalHas .warn
    let now := levelNow was t (y.rdI (ent 0x2100 1))
    let y := y.thermalFlag .warn now
    let y := if now && !was then y.raise 0x0203 n (ev [(0, 1, n), (2, 2, tenths t)])
      else if was && !now then y.raise 0x0204 255 (ev [(2, 2, tenths t)]) else y
    (y.thermalFlag .throttle (levelNow (y.thermalHas .throttle) t (y.rdI (ent 0x2100 2)))).heavyLevel n t

/-- What the package readings set: T_dram and the DRAM throttle, under which migration pauses (R669). -/
def Sys.dramLevels (y : Sys) : Sys :=
  match y.hotDram with
  | none => y
  | some (n, t) =>
    let y := y.wrI (ent 0x2101 3) t
    let was := y.thermalHas .dram
    let now := levelNow was t (y.rdI (ent 0x2100 5))
    let y := y.thermalFlag .dram now
    if now && !was then y.migPause.raise 0x0208 (n - 64) (ev [(0, 1, n - 64), (2, 2, tenths t)])
    else if was && !now then y.migResume.raise 0x0209 255 (ev [(2, 2, tenths t)]) else y

/-- What TSP sets: the power-stage limit, and 24 A of input current 15 °C above it or without a reading (R665, R667). -/
def Sys.psuLevels (y : Sys) : Sys :=
  if y.excluded 73 then (y.thermalFlag .psu false).onThermal fun h => { h with limit24 := true }
  else
    let t := y.sensor 73
    let a := y.rdI (ent 0x2100 8)
    let was := y.thermalHas .psu
    let now := levelNow was t a
    let y := (y.wrI (ent 0x2101 4) t).thermalFlag .psu now
    let y := if now && !was then y.raise 0x020A 255 (ev [(0, 1, 0), (2, 2, tenths t)]) else y
    let was24 := y.thermal.limit24
    let now24 := levelNow was24 t (a + 1500)
    let y := y.onThermal fun h => { h with limit24 := now24 }
    if now24 && !was24 then y.raise 0x020A 255 (ev [(0, 1, 1), (2, 2, tenths t)]) else y

/-- R666: fail-safe holds k_core at 6 or above. -/
def Sys.failSafe (y : Sys) : Sys :=
  let out := ((List.range 64).filter y.excluded).length
  let block := (List.range 64).any fun n =>
    decide (n < 56) && decide (n % 8 < 7) && y.excluded n && y.excluded (n + 1) && y.excluded (n + 8) && y.excluded (n + 9)
  let now := decide (8 < out) || block
  let was := y.thermalHas .failSafe
  let y := y.thermalFlag .failSafe now
  if now && !was then
    let y := y.raise 0x020D 255 (ev [(0, 1, out)])
    let k := y.thermal.core.k
    let y := if k < 6 then y.onThermal fun h => { h with core := { h.core with k := 6, raised := 0, changed := 0 } } else y
    y.showThermal 0 (y.rdI (ent 0x2101 1))
  else y

/-- One step of a loop of R668: reading, level, heavy level, lowest request. -/
def ThermalLoop.step (l : ThermalLoop) (t a : Int) (h : Option Int) (least : Nat) : ThermalLoop :=
  let l := { l with raised := l.raised + 1, changed := l.changed + 1 }
  let move (k : Nat) : ThermalLoop :=
    if k = l.k then l else { k := k, raised := if l.k < k then 0 else l.raised, changed := 0 }
  if h.any fun v => decide (v ≤ t) then move 12
  else if a ≤ t ∧ 10 ≤ l.raised then move (min 12 (l.k + 1))
  else if t < a - 300 ∧ 100 ≤ l.changed then move (max least (l.k - 1))
  else l

/-! ## Exclusion and return (R664, R665) -/

/-- A package whose sensor is excluded refreshes at 4×. -/
def Sys.refreshAt (y : Sys) (p m : Nat) : Sys :=
  if y.rd (ent (0x4B30 + p) 2) = m then y
  else ((y.wr (ent (0x4B30 + p) 2) m).inc (ent (0x4B30 + p) 5)).raise 0x100E p
    (ev [(0, 1, p), (1, 1, m), (2, 2, tenths (y.sensor (64 + p)))])

/-- SENSOR_EXCLUDE: reason 0 neighbours, 1 range, 2 no conversion, 3 step. -/
def Sys.excludeSensor (y : Sys) (n reason : Nat) (reading : Int) : Sys :=
  let y := y.setExcluded n true
  let y := y.onThermal fun h => { h with runs := tset (fun _ => ⟨0, 0, 0⟩) h.runs n ⟨0, 0, 0⟩, psuAge := if n = 73 then 0 else h.psuAge }
  let y := y.raiseLimited n 0x0201 n (ev [(0, 1, n), (1, 1, reason), (2, 2, tenths reading)])
  if 64 ≤ n ∧ n < 73 then y.refreshAt (n - 64) 4 else y

/-- SENSOR_RESTORE. -/
def Sys.restoreSensor (y : Sys) (n : Nat) : Sys :=
  let y := y.onThermal fun h => { h with runs := tset (fun _ => ⟨0, 0, 0⟩) h.runs n ⟨0, 0, 0⟩ }
  (y.setExcluded n false).raise 0x0202 n (ev [(0, 1, n)])

/-- Samples that disagree before a sensor is suspect, by kind. -/
def badRun (n : Nat) : Nat := if n < 64 then 100 else if n < 73 then 10 else 1

/-- The sample's disagreement: with the median of its peers, or for TSP with the sample before. A sensor without valid peers is not compared. -/
def Sys.disagrees (y : Sys) (n : Nat) (t : Int) : Bool :=
  if n < 73 then
    match median ((y.peers n).map y.sensor) with
    | some m => decide ((if n < 64 then 2000 else 2500) < (t - m).natAbs)
    | none => false
  else match y.thermal.tsp with | some p => decide (2000 < (t - p).natAbs) | none => false

/-- The tests of R664 and R665 on one sample. -/
def Sys.testSample (y : Sys) (n : Nat) (reading : Option Int) : Sys :=
  let fault : Option Nat := match reading with
    | none => some 2
    | some t => if t < -6000 ∨ 17500 < t then some 1 else none
  let off := match reading with | some t => y.disagrees n t | none => true
  let r := tget (fun _ => (⟨0, 0, 0⟩ : SensorRun)) y.thermal.runs n
  if y.excluded n then
    let r := { r with good := if fault.isSome || off then 0 else r.good + 1 }
    if 10000 ≤ r.good then y.restoreSensor n
    else y.onThermal fun h => { h with runs := tset (fun _ => ⟨0, 0, 0⟩) h.runs n r }
  else
    let r := { r with bad := if off then r.bad + 1 else 0 }
    match fault with
    | some c => y.excludeSensor n c (reading.getD (y.sensor n))
    | none =>
      if badRun n ≤ r.bad then y.excludeSensor n (if n < 73 then 0 else 3) (reading.getD 0)
      else y.onThermal fun h => { h with runs := tset (fun _ => ⟨0, 0, 0⟩) h.runs n r }

/-- The comparator's count of samples at or above the trip level; true at the second in a row of a valid sensor (R671). -/
def Sys.tripTest (y : Sys) (n : Nat) (reading : Option Int) : Bool × Sys :=
  let level : Int := y.rdI (ent 0x2100 (if n < 64 then 4 else 6))
  let hot := match reading with | some t => decide (level ≤ t) && !y.excluded n | none => false
  let r := tget (fun _ => (⟨0, 0, 0⟩ : SensorRun)) y.thermal.runs n
  let r := { r with hot := if hot then r.hot + 1 else 0 }
  (decide (2 ≤ r.hot), y.onThermal fun h => { h with runs := tset (fun _ => ⟨0, 0, 0⟩) h.runs n r })

/-- A sample is stored; while AON alone reads the sensors (R671 step 5), nothing else follows. -/
def Sys.takeSample (y : Sys) (n : Nat) (raw : Option (BitVec 32)) : Sys :=
  let reading := raw.map fun b => b.toInt
  let y := match reading with | some t => y.wrI (sensorKey n) t | none => y
  if y.boot.phase ≠ .running then y
  else
    let y := y.testSample n reading
    let y := if n = 73 then y.onThermal fun h => { h with tsp := reading } else y
    let y := if n < 64 then y.coreLevels.failSafe else if n < 73 then y.dramLevels else y.psuLevels
    if n = 73 then y
    else
      let p := y.tripTest n reading
      if p.1 then p.2.thermalTrip n (reading.getD 0) else p.2

/-! ## The commands -/

/-- CORE_SENSOR_SAMPLE (R664): no reading stands for no conversion. -/
def execCoreSensorSample (sensor : Fin 64) (reading : Option (BitVec 32)) (s : State) : Host.Outcome State Fault Refusal :=
  onSys s fun _ y => y.takeSample sensor.val reading

/-- DRAM_SENSOR_SAMPLE (R664): the package's refresh multiple rises on the first reading above its level (R587). -/
def execDramSensorSample (package : Fin 9) (reading : Option (BitVec 32)) (s : State) : Host.Outcome State Fault Refusal :=
  onSys s fun _ y =>
    let p := package.val
    let y := match reading with | some b => y.wrI (ent (0x4B30 + p) 1) b.toInt | none => y
    let y := y.takeSample (64 + p) reading
    if y.boot.phase ≠ .running then y
    else y.refreshAt p (max (y.rd (ent (0x4B30 + p) 2)) (if y.excluded (64 + p) then 4 else refreshFor (y.sensor (64 + p)) 0))

/-- TSP_SAMPLE (R664). -/
def execTspSample (reading : Option (BitVec 32)) (s : State) : Host.Outcome State Fault Refusal :=
  onSys s fun _ y => y.takeSample 73 reading

/-- THERMAL_LOOP_TICK (R668): one millisecond of the three loops, and of the two times of 0x2101:0A and :0B. -/
def execThermalLoopTick (s : State) : Host.Outcome State Fault Refusal :=
  onSys s fun _ y =>
    if y.boot.phase ≠ .running then y
    else
      let die := y.rdI (ent 0x2101 1)
      let least := if y.thermalHas .failSafe then 6 else 0
      let y := y.onThermal fun h => { h with core := h.core.step die (y.rdI (ent 0x2100 2)) (some (y.rdI (ent 0x2100 3))) least }
      let y := y.showThermal 0 die
      let t := y.rdI (ent 0x2101 3)
      let y := Sys.showThermal (y.onThermal fun h => { h with dram := h.dram.step t (y.rdI (ent 0x2100 5)) none 0 }) 1 t
      let psu := y.sensor 73
      let y := if y.excluded 73 then
          let age := y.thermal.psuAge + 1
          let falls := decide (100 ≤ age) && y.thermal.psu.k != 0
          y.onThermal fun h => { h with psuAge := if falls then 0 else age, psu := { h.psu with k := if falls then h.psu.k - 1 else h.psu.k } }
        else y.onThermal fun h => { h with psu := h.psu.step psu (y.rdI (ent 0x2100 8)) none 0 }
      let y := y.showThermal 2 psu
      let y := if y.rd (ent 0x2101 5) = 0 then y else y.inc64 (ent 0x2101 0x0A) 1000
      if y.thermalHas .heavy then y.inc64 (ent 0x2101 0x0B) 1000 else y

end Sys2Proof.Machine
end

