-- ==== Sys2Proof/Machine/Reset.lean ====
section
/-!
DEFINITION. Sys2Proof/Machine/Reset.lean: how resets begin and what they keep (R98, R107, R111 to R116, R118, R198). Power-up and the
completion of resets are in Boot.lean.
-/

namespace Sys2Proof.Machine

/-! ## What a reset keeps -/

/-- Entries held in MRAM, beside the fuses and the parameter store (R113, R123): they outlive a cold reset. -/
def persists (k : Nat) : Bool :=
  let i := k / 256
  let s := k % 256
  (i == 0x1000 && 2 ≤ s) || k == ent 0x1002 3 || (i == 0x1003 && 3 ≤ s) || i == 0x1210 || k == ent 0x1211 2 ||
  (i == 0x1300 && (s == 1 || s == 2 || s == 4)) || i == 0x1404 || (i == 0x2003 && 8 ≤ s) || k == ent 0x2101 0x0C || i == 0x2110 ||
  (0x3C00 ≤ i && i < 0x3C08 && (s == 0x0A || s == 0x0B)) || (0x4910 ≤ i && i < 0x4920 && s == 2) || (i == 0x4950 && (s == 6 || s == 7)) ||
  (0x4B10 ≤ i && i < 0x4B22 && (s == 1 || s == 2 || s == 5 || s == 6 || s == 0x0B)) || (i == 0x4B01 && (s == 8 || s == 9)) || k == ent 0x4B40 3 ||
  k == ent 0x4B40 5

/-- Entries kept in AON while it is powered: the time base, the last wake source, and the sensors' readings. The counts of 0x2300 run from cold
reset (R224). -/
def keptInAon (k : Nat) : Bool := (k / 256 == 0x2300 && k % 256 != 8 && k % 256 != 9 && k % 256 != 0x0A) || k == ent 0x2700 5 || k / 256 == 0x2102 || k / 256 == 0x2103 || k == ent 0x2101 1 || k == ent 0x2101 3 ||
  k == ent 0x2001 1

/-- Sessions, transfers, groups and staged units are discarded (R125, R156). -/
def Sys.dropDenval (y : Sys) : Sys :=
  let y := y.wr (ent 0x1103 1) 0
  let y := y.onDen fun d => { d with units := [], latched := [], sessions := [], transfers := [], cursors0 := [], helloFails := [], lockouts := [],
                                     canQueued := [], canDropped := [] }
  y.onTwin fun t => { t with ask := none }

/-! ## Warm reset (R112 to R114, R125, R549, R643) -/

/-- A context between frames again. -/
def Ctx.afterReset (c : Ctx) : Ctx :=
  { c with clean := 0, toRun := false, expo := [], firstExpo := none, triggers := [], black := [], prevBlack := none, linesSeen := 0,
           prevReduced := false, discarding := none, waitingSince := none, colour := [] }

/-- The reset is asserted: what runs stops, and committed live values stay. A module that was not running returns to where it stood (log entry 42). -/
def Sys.warmStart (y : Sys) (cause : Nat) : Sys :=
  let from_ := y.boot.phase
  let y := (y.testEnd 2 0).timeOff.dropDenval.mailReset
  -- clips close with reason RESET; every queue runs QUEUE RESET
  let y := (List.range 16).foldl (fun y x => if (y.recording x).slot.isSome then y.closeClip x 2 5 0 else y) y
  let y := (List.range 17).foldl Sys.queueReset y
  let y : Sys := if y.den.saving.isSome then { y with mram := { y.mram with broken := true } } else y
  let y := Sys.setLaunches (y.onDen fun d => { d with saving := none }) []
  -- a module in Standby returns to Active; unretained segments read as zero (R660)
  let y := if y.device = 2 then y.dramRetain else y
  let y := if y.device = 0 then y else (y.deviceTo 0).wr (ent 0x2700 5) 7
  -- a domain whose outputs are isolated keeps them so until the reset has ended (R89)
  let y := (List.range 37).foldl (fun y d => if y.activeRun d then y.wr (ent (0x2720 + d) 1) (y.restAtReset d) else y) y
  -- lanes keep their maps
  let y := upto 80 (fun n y =>
    let was := y.rd (ent (0x2400 + n) 3)
    ((y.setLane n { lane0 with stored := (y.lane n).stored, errored := (y.lane n).errored }).wr (ent (0x2400 + n) 3) (was &&& 0x30)).laneTo n .domainOff) y
  let y := [0, 1, 2, 3].foldl (fun y k => y.wr (ent (0x4C08 + k) 1) 0) y
  let y := (y.wr (ent 0x4D01 1) 0).wr (ent 0x2003 6) 0
  let y := upto 8 (fun x y => if y.ctxState x = 0 then y else y.wr (ent (0x3008 + x) 1) (if y.rd (ent (0x3000 + x) 1) = 2 then 3 else 1)) y
  let y := upto 8 (fun p y => if y.idlePb p then y.wr (pbStat p 1) 0 else y.decWait p) y
  let y := upto 4 (fun n y => if 1 < y.rd (ent (0x4180 + n) 2) then y.wr (ent (0x4180 + n) 2) 1 else y) y
  let y := upto 2 (fun p y => y.wr (ent (0x4188 + p) 0x0C) 0) y
  let y := upto 24 (fun t y => Sys.setTroupe (y.clearEngines t) t { y.troupe t with held := none, bufs := [], idle := none }) y
  let y := upto 8 (fun r y =>
    let y := y.setRfe r { y.rfe r with cache := [] }
    (if y.rfeIn r then y.wr (ent (0x3470 + r) 1) 0 else y).wr (ent (0x3470 + r) 2) 0xFF) y
  let y := ((y.wr (ent 0x1311 1) 0).wr (ent 0x1311 2) 0).wrB (ent 0x1311 3) (List.replicate 24 0) |>.wrB (ent 0x1311 4) (List.replicate 24 0)
  let y := y.wr (ent 0x2003 3) cause
  let y := y.logFlush
  Sys.showSdo
  { y with
    frames := [], stores := [], holds := [], ports := [], igs := [], sdis := [], edps := [], links := [], decs := [], zcs := [], audioIn := [], audioOut := [],
    felley := [], ptp := [], tios := [], pathsDown := [], cores := [],
    ctxs := y.ctxs.map fun (p : Nat × Ctx) => (p.1, p.2.afterReset)
    channels := y.channels.map fun (p : Nat × Channel) => (p.1, { channel0 with index := p.2.index })
    power := { y.power with step := 0, dormant := false, entries := [], exits := [], wake := none, from_ := 0, mbOut := [] }
    sec := { y.sec with chains := [], nonce := none }
    boot := { y.boot with phase := .warmReset, warmFrom := from_, cause := cause, startAt := y.up, heartbeat := false, intLow := false, epLink := false, masked := [],
                          mqPending := false, domainResets := [], coreSilent := [] } }

/-! ## Cold and supply resets (R111, R113) -/

/-- A cold reset is asserted: rails but AON's go, DRAM contents are lost (R113). -/
def Sys.coldStart (y : Sys) (cause : Nat) : Sys :=
  let y := (y.testEnd 2 0).timeOff.dropDenval
  let y : Sys := if y.den.saving.isSome then { y with mram := { y.mram with broken := true } } else y
  let y := y.logFlush
  let y := y.powerDown .coldReset
  { y with boot := { y.boot with cause := cause, startAt := y.up } }

/-- A supply reset: 1 SUPPLY or 7 OVERVOLTAGE. CC15 writes the event and the shutdown record, and saves T96 (R111, R198, R674). -/
def Sys.supplyReset (y : Sys) (vin cause : Nat) : Sys :=
  if y.boot.phase = .off ∨ y.boot.phase = .supplyReset then y
  else
    let y := y.vinSample vin
    let y := (y.testEnd 2 0).timeOff.dropDenval
    let y : Sys := if y.den.saving.isSome then { y with mram := { y.mram with broken := true } } else y
    let y := y.raise 0x0107 255 (ev [(0, 2, y.rd (ent 0x2001 1)), (2, 1, cause)])
    let y := y.wrB (ent 0x2110 0x41) (y.shutdownRecord (if cause = 7 then 3 else 2) 255 (y.rdI (ent 0x2101 1)) (y.rdI (ent 0x2101 3)))
    let y := y.logFlush
    let y := Sys.powerDown { y with mram := { y.mram with savedTime := y.t96 } } .supplyReset
    { y with boot := { y.boot with cause := cause }, sup := { y.sup with holdUp := true } }

/-- SUPPLY_RESET: VIN has fallen below 7.0 V. -/
def execSupplyReset (vin : BitVec 16) (s : State) : Host.Outcome State Fault Refusal := onSys s fun _ y => y.supplyReset vin.toNat 1

/-- INPUT_SWITCH_OPEN (R98): the episode ends, and a supply reset follows. -/
def execInputSwitchOpen (vin highest above : BitVec 16) (s : State) : Host.Outcome State Fault Refusal :=
  onSys s fun _ y =>
    let y := (y.vinSample vin.toNat).overvoltageEnd highest.toNat above.toNat 1
    Sys.supplyReset (y.onSupply fun u => { u with inputOpen := true }) vin.toNat 7

/-- INPUT_SWITCH_CLOSE (R98). -/
def execInputSwitchClose (s : State) : Host.Outcome State Fault Refusal :=
  onSys s fun _ y => y.onSupply fun u => { u with inputOpen := false }

/-- HOLD_UP_END (R111 step 5): AON goes off, and with it the counter. -/
def execHoldUpEnd (s : State) : Host.Outcome State Fault Refusal :=
  onSys s fun _ y =>
    if !y.sup.holdUp || y.boot.phase != .supplyReset then y
    else { y with sup := { y.sup with holdUp := false, aon := false }, boot := { y.boot with phase := .off } }

/-! ## RESET_N (R112) -/

/-- RESET_N falls: a warm reset starts (R112). -/
def execResetNFall (s : State) : Host.Outcome State Fault Refusal :=
  onSys s fun _ y =>
    let y : Sys := { y with boot := { y.boot with resetNLow := true, resetFell := y.up } }
    match y.boot.phase with
    | .running | .training | .waitImage | .failed => y.warmStart 2
    | .dormant => Sys.warmStart (y.wr (ent 0x2700 5) 7) 2
    | _ => y

/-- RESET_N is still low 100 ms after its fall: the reset becomes a cold reset. -/
def execResetNHeld (s : State) : Host.Outcome State Fault Refusal :=
  onSys s fun _ y =>
    if !y.boot.resetNLow then y
    else match y.boot.phase with
      | .warmReset | .coldReset => y.coldStart 3
      | _ => y

/-! ## Commanded resets, the watchdog and rails (R113, R115, R116, R118) -/

/-- RESET_COMMAND_WARM. -/
def execResetCommandWarm (s : State) : Host.Outcome State Fault Refusal :=
  onSys s fun _ y => if y.boot.phase = .running then y.warmStart 4 else y

/-- A domain reset: refused with STATE unless the domain is in Run (R660). -/
def Sys.domainReset (y : Sys) (d : Nat) : Status × Sys :=
  if 34 < d ∨ !y.domainRun d ∨ y.boot.domainResets.contains d then (.state, y)
  else
    let y := (y.testEnd 2 0).raise 0x010B 255 (ev [(0, 1, d)])
    let y : Sys := { y with boot := { y.boot with domainResets := y.boot.domainResets ++ [d] } }
    let aimed (e : Launch) : Bool := ((e.kind == 3 && d == 26) || (e.kind == 4 && (y.paths e.target).any fun p => d == 27 + p.2))
    let y := if d < 24 then y.fenceTroupe d 0
      else
        let gone := y.launches.filter aimed
        let y := Sys.setLaunches y (y.launches.filter fun e => !aimed e)
        let y := gone.foldl (fun (y : Sys) (e : Launch) => y.launchDiscard e 0 1) y
        let y := if 27 ≤ d then y.emptyPair (d - 26) 3 else y
        y.domainStop d
    (.ok, y)

/-- RESET_COMMAND_DOMAIN: the domain of 0x2003:02. -/
def execResetCommandDomain (s : State) : Host.Outcome State Fault Refusal :=
  onSys s fun _ y => if y.boot.phase = .running then (y.domainReset (y.rd (ent 0x2003 2))).2 else y

/-- DOMAIN_RESET_COMPLETE: the domain's ports restart; a Troupe waits for its retest (R115, R370). -/
def execDomainResetComplete (domain : Fin 35) (s : State) : Host.Outcome State Fault Refusal :=
  onSys s fun _ y =>
    let d := domain.val
    if !y.boot.domainResets.contains d then y
    else
      let y : Sys := { y with boot := { y.boot with domainResets := y.boot.domainResets.filter (· != d) } }
      if d < 24 then y.troupeBack d 3 else y.domainStart d 3

/-- CORE_CHECK_TICK (R116, R117): a core that has not responded stops HEARTBEAT until it does. -/
def execCoreCheckTick (responded : BitVec 15) (s : State) : Host.Outcome State Fault Refusal :=
  onSys s fun _ y =>
    if y.boot.phase ≠ .running then y
    else
      let silent := (List.range 15).foldl (fun l c =>
        tset (fun _ => 0) l c (if responded.getLsbD c then 0 else tget (fun _ => 0) l c + 1)) y.boot.coreSilent
      { y with boot := { y.boot with coreSilent := silent, heartbeat := silent.isEmpty && !y.boot.strapFault } }

/-- WATCHDOG_TIMEOUT (R116). -/
def execWatchdogTimeout (core : Fin 16) (s : State) : Host.Outcome State Fault Refusal :=
  onSys s fun _ y => if y.boot.phase = .running then (y.raise 0x010A 255 (ev [(0, 1, core.val)])).warmStart 8 else y

/-- RAIL_OUT_OF_REGULATION (R118). PWR_GOOD stays low until the next power-up has its rails in regulation: no command tells of a rail that regains
it (log entry 42). -/
def execRailOutOfRegulation (s : State) : Host.Outcome State Fault Refusal :=
  onSys s fun _ y => { y with boot := { y.boot with pwrGood := false } }

end Sys2Proof.Machine
end

