-- ==== Sys2Proof/Machine/Rules.lean ====
section
/-!
DEFINITION. Sys2Proof/Machine/Rules.lean: what a write is checked against (R132): its type and length, the range, list and reserved bits of
its table, the entry's own rules at arrival, the rules that the chapters state for the commit instant over the set that would become
live, and admission (R39, R40).
-/

namespace Sys2Proof.Machine

/-! ## Type and range (R9, R132 steps 4 and 5) -/

/-- The length fits the type. -/
def EntryDef.typeOk (r : EntryDef) (v : Bytes) : Bool :=
  match r.type with
  | .u8 => v.length == 1
  | .u16 | .enum => v.length == 2
  | .u32 | .i32 | .f32 => v.length == 4
  | .u64 => v.length == 8
  | .t96 => v.length == 12
  | .bits n => v.length == n
  | .str => decide (v.length ≤ 255)
  | .blob l => l.any fun p => decide (p.1 ≤ v.length) && decide (v.length ≤ p.2)

/-- The number a value stands for. -/
def EntryDef.number (r : EntryDef) (v : Bytes) : Int :=
  match r.type with | .i32 => toI 32 (unLe v) | .f32 => if unLe v = 0x80000000 then 0 else (unLe v : Nat) | _ => (unLe v : Nat)

/-- The value lies in the table's range or list; a reserved bit that is set, and an F32 that is not finite, lie outside it. -/
def EntryDef.valueOk (r : EntryDef) (v : Bytes) : Bool :=
  match r.type with
  | .str => true
  | .blob _ => true
  | .f32 => finite32 (BitVec.ofNat 32 (unLe v)) && (r.allowed.isEmpty || r.allowed.any fun p => decide (p.1 ≤ r.number v) && decide (r.number v ≤ p.2))
  | _ => (unLe v &&& r.reservedBits) == 0 && (r.allowed.isEmpty || r.allowed.any fun p => decide (p.1 ≤ r.number v) && decide (r.number v ≤ p.2))

/-! ## Rules of single entries -/

/-- A refusal where the condition fails. -/
def Status.unless (st : Status) (ok : Bool) : Status := if ok then .ok else st

/-- The first refusal of a list. -/
def Status.first : List Status → Status
  | [] => .ok
  | s :: r => if s = .ok then Status.first r else s

/-- F32 number `i` of an octet string as a rational; none where it is not finite. -/
def f32Q (b : Bytes) (i : Nat) : Option Rat :=
  let w := BitVec.ofNat 32 (rdLe b (4 * i) 4)
  if finite32 w then some (ratOf w) else none

/-- All values of a list of F32 are finite and lie within the bounds. -/
def f32Within (b : Bytes) (n : Nat) (lo hi : Rat) : Bool :=
  (List.range n).all fun i => match f32Q b i with | some q => decide (lo ≤ q) && decide (q ≤ hi) | none => false

/-- A linearisation table: 1,025 finite knots, not decreasing (R298). -/
def linTableOk (b : Bytes) : Bool :=
  b.isEmpty || ((List.range 1025).all (fun i => (f32Q b i).isSome) &&
    (List.range 1024).all fun i => decide ((f32Q b i).getD 0 ≤ (f32Q b (i + 1)).getD 0))

/-- A write template's fields, against the modes of the sensor control ports (R278). -/
def Sys.templateOk (y : Sys) (b : Bytes) : Bool :=
  b.length % 16 == 0 && (List.range (b.length / 16)).all fun i =>
    let f (o n : Nat) : Nat := rdLe b (16 * i + o) n
    f 0 1 ≤ 7 && f 1 1 ≤ 1 &&
    y.rd (ent (0x3028 + f 0 1) 1) == (if f 1 1 = 0 then 2 else 1) &&
    (if f 1 1 = 0 then f 2 1 ≤ 127 else f 2 1 == 0) && f 3 1 ≤ 2 && 1 ≤ f 6 1 && f 6 1 ≤ 4 && f 7 1 ≤ 8 && f 12 1 ≤ 31 && f 13 1 ≤ 3 && f 14 2 == 0

/-- A rate that WORD_CLOCK_OUT has (R217): 32, 44.1, 48, 88.2, 96, 176.4 or 192 kHz. -/
def wordClock (num den : Nat) : Bool := den != 0 && ([32000, 44100, 48000, 88200, 96000, 176400, 192000].any fun r => num == r * den)

/-- Supply, governor, time base, PTP and timing I/O entries (R67, R100, R200, R211, R214, R215, R218). -/
def Sys.ruleSystem (y : Sys) (i s n : Nat) : Status :=
  let si : Int := toI 32 n
  if i = 0x2000 ∧ s = 1 then
    -- R100, against the present VIN; 0 stands for no sample yet
    Status.range.unless (n % 10 == 0 && (y.rd (ent 0x2001 1) == 0 || decide (n + 30 < y.rd (ent 0x2001 1))))
  else if i = 0x2200 then
    match s with
    | 3 => Status.range.unless (decide (y.rd (ent 0x2200 2) + 4 ≤ n))
    | 4 => Status.range.unless (y.ceilingOk .t n)
    | 5 => Status.range.unless (y.ceilingOk .s n)
    | 6 => Status.range.unless (n % 25 == 0 && decide (n ≤ y.rd (ent 0x2200 4)))
    | 7 => Status.range.unless (n % 25 == 0 && decide (n ≤ y.rd (ent 0x2200 5)))
    | 8 => Status.range.unless (n % 25 == 0)
    | 9 => Status.range.unless (n % 25 == 0)
    | _ => .ok
  else if i = 0x2301 ∧ (s = 1 ∨ s = 2) then Status.state.unless (!y.sourceFixed)
  else if i = 0x2302 then
    match s with
    | 1 => if y.sourceFixed && !y.shadowAuto then Status.state.unless (n == 0 || n == 3) else .ok
    | 3 => Status.range.unless (decide (n ≤ 127))
    | 6 => Status.range.unless (decide (-3 ≤ si) && decide (si ≤ 1))
    | 7 => Status.range.unless (decide (2 ≤ n) && decide (n ≤ 10))
    | 8 => Status.range.unless (decide (-7 ≤ si) && decide (si ≤ -1) && decide (si ≤ y.rdI (ent 0x2302 9)) && decide (y.rdI (ent 0x2302 9) ≤ si + 5))
    | 9 => Status.range.unless (decide (y.rdI (ent 0x2302 8) ≤ si) && decide (si ≤ y.rdI (ent 0x2302 8) + 5))
    | _ => .ok
  else if 0x2320 ≤ i ∧ i < 0x2340 then
    let num := y.rd (ent i 3) / 2 ^ 32
    let den := y.rd (ent i 3) % 2 ^ 32
    match s with
    | 1 => Status.range.unless (decide (n ≤ 8) && (n != 4 || wordClock num den))
    | 3 => Status.range.unless (decide (0 < n / 2 ^ 32) && decide (0 < n % 2 ^ 32) && (y.tioFn (i - 0x2320) != 4 || wordClock (n / 2 ^ 32) (n % 2 ^ 32)))
    | 5 => Status.range.unless (decide ((n + 10) * num ≤ den * 1000000000))
    | _ => .ok
  else .ok

/-- Audio, position, power and DRAM entries (R593, R597, R598, R612, R616, R651, R656, R660). -/
def Sys.ruleUnits (y : Sys) (i s n : Nat) : Status :=
  if 0x2500 ≤ i ∧ i < 0x2530 then
    match s with
    | 1 => Status.range.unless (!(n == 1 && y.rd (ent i 2) == 2))
    | 2 => Status.range.unless (!(n == 2 && y.rd (ent i 1) == 1))
    | 5 => Status.range.unless (decide (n ≤ y.rd (ent i 6)))
    | 6 => Status.range.unless (decide (y.rd (ent i 5) ≤ n))
    | 8 => Status.range.unless (!(n == 1 && decide (47 < y.rd (ent i 9))))
    | 9 => Status.range.unless (decide (n ≤ (if y.rd (ent i 8) = 1 then 47 else 63)))
    | _ => .ok
  else if 0x2568 ≤ i ∧ i < 0x2570 ∧ 1 ≤ s ∧ s ≤ 64 then Status.range.unless (n == 0xFFFF || (decide (n % 64 ≤ 47) && n &&& 0xFEC0 == 0))
  else if 0x2600 ≤ i ∧ i < 0x2618 then
    match s with
    | 1 => Status.range.unless (decide (n ≤ 3))
    | 0x19 => Status.range.unless (decide (n ≤ y.rd (ent i 0x1A)))
    | 0x1A => Status.range.unless (decide (y.rd (ent i 0x19) ≤ n))
    | _ => .ok
  else if 0x2720 ≤ i ∧ i < 0x2746 ∧ s = 2 then
    let d := i - 0x2720
    Status.range.unless ((decide (d < 24) || (d == 28 && n == 1) || (n == 2 && decide (d ≠ 28) && decide (d < 36))))
  else if i = 0x4B00 ∧ s = 0x0B then Status.range.unless (n.testBit 0)
  else .ok

/-- The white level `n` leaves every fixed black value and the black limit at least 0.25 (R301). -/
def Gen.whiteOk (g : Gen) (x n : Nat) : Bool :=
  let w := BitVec.ofNat 32 n
  let white := ratOf w
  let limit := ratOf (BitVec.ofNat 32 (g.rd (ent (0x3420 + x) 0x0A)))
  finite32 w && decide (limit + 1 / 4 ≤ white) &&
    f32Within (g.rdB (ent (0x3410 + x) 4)) 4 (-340282366920938463463374607431768211456) (white - 1 / 4)

/-- Ingest, raw pipeline and look entries (R260, R278, R284, R292, R298, R299, R306, R308, R315, R384, R391). -/
def Sys.ruleContext (y : Sys) (i s n : Nat) (v : Bytes) : Status :=
  if 0x3000 ≤ i ∧ i < 0x3008 then
    let x := i - 0x3000
    match s with
    | 2 => Status.range.unless (n == 0 || y.view.role == 2)
    | 3 => Status.state.unless ((List.range 8).all fun c => c == x || (y.liveOrPending (ent (0x3000 + c) 3)).all fun m => m &&& n == 0)
    | 5 => Status.range.unless (n % 2 == 0)
    | _ => .ok
  else if 0x3400 ≤ i ∧ i < 0x3410 then
    match s with
    | 1 => Status.range.unless (decide (n ≤ 3))
    | 7 => Status.range.unless (n != 0)
    | 8 => if 8 ≤ i - 0x3400 ∨ n < 1 ∨ 4 < n then .range else Status.state.unless (y.rd (ent (0x3000 + (i - 0x3400)) 1) == 0)
    | _ => .ok
  else if 0x3410 ≤ i ∧ i < 0x3420 then
    match s with
    | 2 => Status.range.unless (linTableOk v)
    | 3 => Status.range.unless (decide (n ≤ 3))
    | 4 => Status.range.unless (f32Within v 4 (-340282366920938463463374607431768211456) 340282366920938463463374607431768211456)
    | 5 => Status.range.unless (y.view.whiteOk (i - 0x3410) n)
    | _ => .ok
  else if 0x3420 ≤ i ∧ i < 0x3430 then
    let grids := match y.view.calSlot (i - 0x3420) with | some c => (y.cal c).grids | none => []
    match s with
    | 6 => Status.range.unless (!(grids.getD n []).isEmpty)
    | 7 => Status.range.unless (!(grids.getD n []).isEmpty)
    | 9 => Status.range.unless (f32Within v 4 (1 / 4) 16)
    | _ => .ok
  else if 0x3C10 ≤ i ∧ i < 0x3C20 ∧ s = 1 then
    let x := i - 0x3C10
    Status.range.unless (if x < 8 then n == x else decide (n ≤ 7) || n == 255)
  else .ok

/-- Output entries (R433, R436, R437, R439). -/
def Sys.ruleOutput (i s n : Nat) (v : Bytes) : Status :=
  if 0x4100 ≤ i ∧ i < 0x4118 then
    match s with
    | 2 => Status.range.unless (decide (n ≤ 3))
    | 6 => Status.range.unless (decide (n ≤ 3))
    | 7 => Status.range.unless (n == 0 || (decide (1000 ≤ n) && decide (n ≤ 1000000)))
    | _ => .ok
  else if 0x4120 ≤ i ∧ i < 0x4138 ∧ s = 3 then
    Status.range.unless (v.isEmpty || ((customTiming v).ok && decide (rdLe v 16 1 ≤ 3) && rdLe v 17 7 == 0))
  else .ok

/-- Codec, compression, media, array and link entries (R483, R487, R502, R503, R517, R523, R682, R690). -/
def Sys.ruleStore (y : Sys) (i s n : Nat) : Status :=
  if 0x4400 ≤ i ∧ i < 0x4410 ∧ s = 9 then Status.range.unless (decide (n ≤ 2))
  else if 0x4440 ≤ i ∧ i < 0x4448 ∧ s = 4 then Status.range.unless (decide (n ≤ 63))
  else if i = 0x4470 ∧ s = 1 then
    Status.state.unless ((List.range 16).all (fun e => y.rd (ent (0x4400 + e) 1) == 0) && (List.range 8).all fun p => y.rd (ent (0x4440 + p) 1) != 1)
  else if 0x4800 ≤ i ∧ i < 0x4840 then
    match s with
    | 1 => Status.range.unless (decide (n ≤ 4))
    | 6 => Status.state.unless (y.rd (ent i 1) == 0)
    | 8 => Status.range.unless (n % 16 == 0)
    | _ => .ok
  else if 0x4848 ≤ i ∧ i < 0x4850 ∧ s = 1 then
    let c := i - 0x4848
    if (y.view.rawChannels c).any (fun z => y.view.rawDest z 0) then .state
    else Status.range.unless (decide (((List.range 8).map fun d => if d = c then n else y.rd (ent (0x4848 + d) 1)).sum ≤ 163840))
  else if i = 0x4948 then
    match s with
    | 2 => Status.range.unless (decide (n ≤ 3))
    | 5 => Status.range.unless (decide (n ≤ 1))
    | _ => .ok
  else if i = 0x4950 then
    match s with
    | 1 => Status.state.unless (y.rd (ent 0x4948 4) == 0)
    | 2 => Status.range.unless (decide (2 * n ≤ y.rd (ent 0x4950 1) * 1024))
    | _ => .ok
  else if i = 0x4C00 then
    match s with
    | 1 => Status.range.unless (n == 2 || !y.rdBit (ent 0x2010 1) 4)
    | 3 => Status.range.unless (n == 255 || n == y.arrayPos + 1 || n + 1 == y.arrayPos)
    | _ => .ok
  else .ok

/-- The entry's own rules as they stand (R132 step 5), for the entries whose write is a plain store. -/
def Sys.ownRule (y : Sys) (k : Nat) (v : Bytes) : Status :=
  let i := k / 256
  let s := k % 256
  let n := unLe v
  Status.first [y.ruleSystem i s n, y.ruleUnits i s n, y.ruleContext i s n v, Sys.ruleOutput i s n v, y.ruleStore i s n]

/-! ## The set that would become live -/

/-- The dictionary with every committed unit that waits applied (R126: the shadow set). -/
def Sys.planned (y : Sys) : Sys := y.den.latched.foldl Sys.putUnit y

/-- The radii of the raw pipeline sum to at most 8 (R295). -/
def Gen.radiiOk (g : Gen) (x : Nat) : Bool :=
  let defect := if g.rd (ent (0x3420 + x) 1) = 1 ∨ g.rd (ent (0x3420 + x) 2) ≠ 0 then g.cfaV x else 0
  let high := if g.rd (ent (0x3430 + x) 1) = 2 then 1 else 0
  let mosaic := if g.rd (ent (0x3400 + x) 1) = 0 then 0 else 3
  decide (defect + high + mosaic + g.rd (ent (0x3430 + x) 2) ≤ 8)

/-- The image window against the CFA period, the frame and the optical-black regions (R297). -/
def Gen.windowOk (g : Gen) (x : Nat) : Bool :=
  let l := g.winLeft x; let t := g.winTop x; let w := g.winWidth x; let h := g.winHeight x
  let ob (s : Nat) : Nat := g.rd (ent (0x3410 + x) s)
  l % g.cfaH x == 0 && w % g.cfaH x == 0 && t % g.cfaV x == 0 && h % g.cfaV x == 0 &&
  decide (1 ≤ w) && decide (1 ≤ h) && decide (l + w ≤ g.width x) && decide (t + h ≤ g.height x) &&
  decide (ob 6 ≤ t) && decide (t + h + ob 7 ≤ g.height x) && decide (ob 8 ≤ l) && decide (l + w + ob 9 ≤ g.width x)

/-- Black level modes have the regions they need, and the white level leaves every black 0.25 (R299, R301). -/
def Gen.blackSetOk (g : Gen) (x : Nat) : Bool :=
  let ob (s : Nat) : Nat := g.rd (ent (0x3410 + x) s)
  (match g.rd (ent (0x3410 + x) 3) with
    | 1 => decide (0 < ob 6)
    | 2 => decide (0 < ob 6) && decide (0 < ob 8 + ob 9)
    | 3 => decide (0 < ob 6 + ob 7 + ob 8 + ob 9)
    | _ => true) && g.whiteOk x (g.rd (ent (0x3410 + x) 5))

/-- Stripe height, the last stripe and the ingest buffer's half (R273, R406); bands on stripe edges (R426). -/
def Gen.stripesOk (g : Gen) (x : Nat) : Bool :=
  let h := g.rd (ent (0x4000 + x) 1)
  let H := g.bandLines x
  let groups := if isSensor x then (List.range 8).countP fun i => (g.rd (ent (0x3000 + x) 3)).testBit i else 0
  h % 8 == 0 && h % g.cfaV x == 0 && decide (32 ≤ H) && decide (g.stripeMax x ≤ 256) &&
  (groups == 0 || decide (2 * (h + 16) ≤ 3072 * groups)) &&
  (g.role != 3 || (g.bandFirst x % h == 0 && decide (g.bandFirst x + H ≤ g.winHeight x) && (H % h == 0 || g.bandFirst x + H == g.winHeight x)))

/-- Linearisation by table has its table (R298). Shading that is on without grids is no fault of a set: an absent grid refuses the write that names
it (0x3420:06, :07), and the gain is 1 until there is one. -/
def Gen.tableOk (g : Gen) (x : Nat) : Bool := g.rd (ent (0x3410 + x) 1) == 0 || !(g.rdB (ent (0x3410 + x) 2)).isEmpty

/-- Raw pipeline, window, stripes and bindings of a context (R295, R297, R333, R406, R761). A context fed by a decode core has its image
window alone of the raw pipeline's entries (R289). -/
def Gen.contextSet (g : Gen) (x : Nat) : Status :=
  Status.range.unless (g.windowOk x && g.stripesOk x && (!g.usesRfe x || (g.radiiOk x && g.blackSetOk x && g.tableOk x)) &&
    (List.range 16).all fun n => (g.rdB (ent (0x3820 + x) (n + 1))).isEmpty || (g.binding x n).ok (g.winWidth x) (g.winHeight x))

/-- The image a context selects, against its bindings, tables, parameters and blocks (R373, R387, R397). Without an image there is no
parameter block. -/
def Sys.lookSet (_y : Sys) (g : Gen) (x : Nat) : Status :=
  let s := g.lookSlot x
  let img := g.image s
  if 16 ≤ s then .ok
  else if img.isEmpty then .state
  else Status.range.unless (
    (List.range 16).all (fun n => !(g.binding x n).enabled || (imgEntry img 0 n).isSome) &&
    (imgTables img).all (fun t =>
      let e := rdLe (g.rdB (ent (0x3C10 + x) 6)) (2 * t.1) 2
      let h := g.rdB (ent (0x3C40 + e) 1)
      decide (e < 64) && rdLe h 5 1 == t.2.1 && rdLe h 8 4 == t.2.2) &&
    (g.rdB (ent (0x3800 + x) 2)).length == imgParam img && g.blocksOk x (imgParam img))

/-- The table slots name READY entries, and all that any context has live or pending fits the pages (R391). -/
def Sys.pageSet (y : Sys) (g : Gen) : Status :=
  let named := (List.range 16).flatMap fun x => g.tableEntries x
  let all := (named ++ (List.range 64).filter fun e => !(y.tableUsers e).isEmpty).eraseDups
  Status.range.unless (named.all (fun e => decide (e < 64) && g.rd (ent (0x3C40 + e) 5) == 2) &&
    decide ((all.map fun e => tablePages (g.rdB (ent (0x3C40 + e) 1))).sum ≤ 32))

/-- SDI outputs, eDP port and streams that channel c feeds. -/
def Gen.sdos (g : Gen) (c : Nat) : List Nat := (List.range 16).filter fun n => g.rd (ent (0x4170 + n) 1) == c
def Gen.eds (g : Gen) (c : Nat) : List Nat := (List.range 2).filter fun p => g.rd (ent (0x4188 + p) 1) == c
def Gen.streamsOf (g : Gen) (c : Nat) : List Nat := (List.range 8).filter fun n => g.rd (ent (0x4190 + n) 1) == c

/-- Wire rate of a channel's video stream in bits per second: 92 octets of header and framing per packet (R458). -/
def Gen.wireRate (g : Gen) (c : Nat) : Rat :=
  let t := g.timing c
  ((g.streamBytes c + 92 * g.packets c) * 8 * t.num : Nat) / (max 1 t.den : Nat)

/-- The channel's own settings and its sinks (R432, R433, R437, R439, R442, R452). -/
def Gen.channelOk (g : Gen) (c : Nat) : Bool :=
  let t := g.timing c
  let code := g.rd (ent (0x4120 + c) 1)
  let fmt := g.chanFormat c
  let sdos := g.sdos c
  let quad := 15 ≤ code && code ≤ 17
  let sub (k : Nat) : Nat := sdos.countP fun n => g.rd (ent (0x4170 + n) 2) == k
  t.ok && decide (g.rd (ent (0x4100 + c) 9) < g.rd (ent (0x4100 + c) 8)) &&
  (sdos.isEmpty || (fmt == 3 && code != 0 &&
    (match g.chanBinding c with
      | some (x, n) => !(g.outRecord x n).isEmpty && decide (rdLe (g.outRecord x n) 0 1 ≤ 3)
      | none => true) &&
    (!quad || (decide (0 < sub 0) && sub 0 == sub 1 && sub 1 == sub 2 && sub 2 == sub 3)))) &&
  decide ((g.eds c).length ≤ 1) && (g.eds c).all (fun p => fmt == 2 && g.edpFits p) &&
  ((g.streamsOf c).isEmpty || fmt == 2 || fmt == 3 || fmt == 4) &&
  ((sdos.isEmpty && (g.eds c).isEmpty && (g.streamsOf c).isEmpty) || decide (8 * g.lineOctets c ≤ 262144))

/-- What channels that share a binding, or a lock group, must have in common (R435, R445). -/
def Gen.chanKey (g : Gen) (c : Nat) : List Nat :=
  [g.rd (ent (0x4120 + c) 1), g.rd (ent (0x4120 + c) 2), unLe (if g.rd (ent (0x4120 + c) 1) = 0 then g.rdB (ent (0x4120 + c) 3) else []),
    g.rd (ent (0x4100 + c) 8), g.rd (ent (0x4100 + c) 9), g.chanMode c, g.rd (ent (0x4100 + c) 7)]

/-- Channels on one binding agree, the quads carry their streams, and every enabled channel keeps its own rules. -/
def Gen.outputSet (g : Gen) : Status :=
  let on := (List.range 24).filter g.chanOn
  let quadLoad (q : Nat) : Rat := ((List.range 8).map fun n =>
    let c := g.rd (ent (0x4190 + n) 1)
    if g.chanOn c && (g.rd (ent (0x4190 + n) 2) == q || g.rd (ent (0x4190 + n) 3) == q) then g.wireRate c else 0).foldl (· + ·) 0
  Status.range.unless (on.all g.channelOk &&
    on.all (fun c => on.all fun d => (g.chanBinding c).isNone || g.chanBinding c != g.chanBinding d || g.chanKey c == g.chanKey d) &&
    (List.range 8).all (fun q => decide (quadLoad q ≤ 90000000000)) &&
    (List.range 8).all fun a => g.rd (ent (0x4198 + a) 6) == 1 || decide (g.rd (ent (0x4198 + a) 7) ≤ 8))

/-- Lock groups: a channel belongs to one at most, the members here agree, and a group over several positions has time for its decisions
(R445, R447). -/
def Sys.lockSet (y : Sys) (g : Gen) : Status :=
  let pos := if g.role = 3 then y.arrayPos else 0
  let mask (l p : Nat) : Nat := g.rd (ent (0x4160 + l) (p + 1))
  let mine (l : Nat) : List Nat := (List.range 24).filter fun c => (mask l pos).testBit c
  Status.range.unless ((List.range 4).all (fun p => (List.range 24).all fun c => decide (((List.range 8).countP fun l => (mask l p).testBit c) ≤ 1)) &&
    (List.range 8).all (fun l => (mine l).all fun c => (mine l).all fun d => g.rd (ent (0x4100 + c) 3) == g.rd (ent (0x4100 + d) 3) && g.chanKey c == g.chanKey d) &&
    (List.range 8).all fun l => decide (((List.range 4).countP fun p => mask l p != 0) ≤ 1) || g.role != 3 ||
      (mine l).all fun c => let t := g.timing c; decide (2500 * t.num * t.totH ≤ t.den * 1000000000))

/-! ## Codec (R466, R469, R471, R472, R483, R484) -/

/-- Octets of a slot for a picture: chroma 1 for 4:2:0, 2 for 4:2:2; more than 10 bits. -/
def slotBytes (w h chroma : Nat) (deep : Bool) : Nat :=
  let u := if chroma = 1 then (if deep then 9 else 8) else if deep then 12 else 10
  let n := ((w + 15) / 16) * ((h + 3) / 4) * (16 * u + 1)
  (n + 4095) / 4096 * 4096

/-- Chroma (1 or 2) and depth above 10 of a profile of 0x4400 + e:07. -/
def profileFormat (p : Nat) : Nat × Bool := (if p ≤ 2 then 1 else 2, p == 2 || p == 4)

/-- Levels of ISO/IEC 23008-2, Annex A, lowest first: general_level_idc, luma samples of a picture, luma samples a second, bit rate of the Main and of
the High tier (0: the level has no such tier). -/
def levelTable : List (Nat × Nat × Nat × Nat × Nat) :=
  [(30, 36864, 552960, 128, 0), (60, 122880, 3686400, 1500, 0), (63, 245760, 7372800, 3000, 0), (90, 552960, 16588800, 6000, 0),
   (93, 983040, 33177600, 10000, 0), (120, 2228224, 66846720, 12000, 30000), (123, 2228224, 133693440, 20000, 50000),
   (150, 8912896, 267386880, 25000, 100000), (153, 8912896, 534773760, 40000, 160000), (156, 8912896, 1069547520, 60000, 240000),
   (180, 35651584, 1069547520, 60000, 240000), (183, 35651584, 2139095040, 120000, 480000), (186, 35651584, 4278190080, 240000, 800000)]

/-- What a level's bit rate counts in for a profile of 0x4400 + e:07, in b/s. -/
def rateFactor (profile : Nat) : Nat := match profile with | 0 => 1000 | 1 => 1000 | 2 => 1500 | 3 => 1667 | _ => 2000

/-- Highest bit rate in kb/s that level 6.2 gives the profile and tier. -/
def levelRate (profile tier : Nat) : Nat := (if tier = 0 then 240 else 800) * rateFactor profile

/-- A picture size a core takes. -/
def pictureOk (w h : Nat) : Bool :=
  decide (128 ≤ w) && decide (w ≤ 8192) && decide (128 ≤ h) && decide (h ≤ 4352) && decide (w * h ≤ 35651584) && w % 2 == 0 && h % 2 == 0

/-- Enabled encode streams, and playback contexts on a decode core. -/
def Gen.esOn (g : Gen) : List Nat := (List.range 16).filter fun e => g.es e 1 == 1
def Gen.decOn (g : Gen) : List Nat := (List.range 8).filter fun p => g.rd (ent (0x4440 + p) 1) == 1

/-- Slots of an encode stream (R478). -/
def Gen.esSlots (g : Gen) (e : Nat) : Nat := if g.es e 9 = 0 then 0 else g.es e 10 + 3

/-- An encode stream's own rules. A binding that is not enabled gives it no picture to judge. -/
def Gen.esOk (g : Gen) (e : Nat) : Bool :=
  let b := g.binding (g.es e 3) (g.es e 4)
  let rate := if g.es e 13 = 1 then g.es e 14 else if g.es e 13 = 2 then g.es e 15 else 0
  decide (g.es e 6 < g.es e 5) && (g.es e 13 != 2 || decide (g.es e 14 ≤ g.es e 15)) && decide (g.es e 19 ≤ g.es e 20) &&
  (!b.enabled || (pictureOk b.outW b.outH && b.format == (if (profileFormat (g.es e 7)).2 then 4 else 3) &&
    decide (rate ≤ levelRate (g.es e 7) (g.es e 8))))

/-- Octets and slots that the enabled stream contexts hold of the reference pool (R483). -/
def Gen.poolUse (g : Gen) : Nat × Nat :=
  let enc := g.esOn.map fun e =>
    let b := g.binding (g.es e 3) (g.es e 4)
    let f := profileFormat (g.es e 7)
    if b.enabled then (g.esSlots e * slotBytes b.outW b.outH f.1 f.2, g.esSlots e) else (0, 0)
  let dec := g.decOn.map fun p =>
    let n := g.rd (ent (0x4440 + p) 0x0C) + 1
    (n * slotBytes (g.width (8 + p)) (g.height (8 + p)) 2 (g.rd (ent (0x4440 + p) 0x0D) == 1), n)
  (((enc ++ dec).map (·.1)).sum, ((enc ++ dec).map (·.2)).sum)

/-- The codec's rules over all stream contexts. -/
def Gen.codecSet (g : Gen) : Status :=
  let taken (e : Nat) : Bool :=
    (List.range 24).any (fun c => g.chanOn c && g.chanBinding c == some (g.es e 3, g.es e 4)) ||
    g.esOn.any fun d => d != e && g.es d 3 == g.es e 3 && g.es d 4 == g.es e 4
  Status.range.unless (g.esOn.all g.esOk && g.esOn.all (fun e => !taken e) && g.decOn.all (fun p => pictureOk (g.width (8 + p)) (g.height (8 + p))) &&
    (List.range 4).all (fun c => decide ((g.esOn.countP fun e => g.es e 2 == c) ≤ 4)) &&
    (List.range 2).all (fun c => decide ((g.decOn.countP fun p => g.rd (ent (0x4440 + p) 9) == 4 + c) ≤ 4)) &&
    (List.range 8).all (fun p => !(g.rd (ent (0x4440 + p) 1) == 2 && g.rd (ent (0x4440 + p) 5) == 1)) &&
    decide (g.poolUse.1 ≤ g.rd (ent 0x4470 1) * 1048576))

/-! ## Compression (R503 to R505) -/

/-- Highest ratio × 4 at a bit depth (R504). -/
def ratioLimit (d : Nat) : Nat := if d ≤ 10 then 32 else if d ≤ 12 then 38 else if d ≤ 14 then 44 else 48

/-- A RAW or RAW_EXPAND channel's rules. -/
def Gen.zcOk (g : Gen) (n : Nat) : Bool :=
  let c (s : Nat) : Nat := g.rd (ent (0x4800 + n) s)
  let x := c 2
  match c 1 with
  | 1 =>
    decide (x < 8) && (c 3 == 1 || c 6 == 1) && (!g.rawDest n 0 || c 3 == 0) && (!g.rawDest n 2 || g.role == 1) &&
    (c 3 == 0 || (decide (12 ≤ c 4) && decide (c 4 ≤ ratioLimit (g.depth x)) && decide (1024 ≤ g.width x)))
  | 2 => if x < 8 then g.rd (ent (0x3000 + x) 2) == 1 else g.rd (ent (0x4440 + x - 8) 1) == 2
  | _ => true

def Gen.compressionSet (g : Gen) : Status :=
  Status.range.unless ((List.range 64).all g.zcOk && (List.range 8).all fun x => decide ((g.rawChannels x).length ≤ 2))

/-! ## Audio (R598, R602, R612) -/

/-- Every destination runs at its source's rate; a sender's ports run at 48 kHz; a Felley stream carries one port. -/
def Gen.audioSet (g : Gen) : Status :=
  let c (n s : Nat) : Nat := g.rd (ent (0x2500 + n) s)
  Status.range.unless (
    (List.range 48).all (fun n => !(c n 1 == 2 && c n 8 == 1) || (decide (c n 9 ≤ 47) && c n 4 == c (c n 9) 4)) &&
    (List.range 8).all (fun a => (List.range 64).all fun k =>
      let v := g.rd (ent (0x2568 + a) (k + 1))
      v == 0xFFFF || c (v % 64) 4 == 2) &&
    (List.range 16).all fun s => decide (((List.range 48).countP fun n => c n 1 == 1 && c n 0x10 == s) ≤ 1))

/-! ## The Felley link (R716) -/

def Gen.felleySet (g : Gen) : Status :=
  Status.range.unless ((List.range 64).all fun s =>
    let c (i : Nat) : Nat := g.rd (ent (0x4D10 + s) i)
    c 1 == 0 ||
      (if c 2 ≤ 3 then ((c 1 == 1 && g.role == 1) || (c 1 == 2 && g.role == 2)) && decide (s ≤ 15) else g.role == 1 || g.role == 2) &&
      (match c 2 with | 1 => decide (c 3 < 8) | 2 => decide (c 3 < 64) | 3 => decide (c 3 < 16) | 4 => decide (c 3 < 16) | _ => true))

/-! ## Admission (R39, R40) -/

/-- Frames per second of a context. -/
def Gen.fps (g : Gen) (x : Nat) : Rat := 1000000000 / (max 1 (g.period x) : Nat)

/-- Lines of a frame that the module takes: the band of an array member's sensor context, all elsewhere (R685). -/
def Gen.linesTaken (g : Gen) (x : Nat) : Nat := if isSensor x && g.role == 3 && g.rd (ent (0x4000 + x) 6) != 0 then g.bandLines x else g.height x

/-- Pixels per second that the module takes of a context's frames, and of its window (R40, R685). -/
def Gen.frameRate (g : Gen) (x : Nat) : Rat := (g.width x * g.linesTaken x : Nat) * g.fps x
def Gen.windowRate (g : Gen) (x : Nat) : Rat := (g.windowPixels x : Nat) * g.fps x

/-- Bit depth of a context's lines; a playback context is counted at 16 bits. -/
def Gen.depthOf (g : Gen) (x : Nat) : Nat := if isSensor x then g.rd (ent (0x3000 + x) 7) else 16

/-- Packed raw rate in octets per second. -/
def Gen.packedRate (g : Gen) (x : Nat) : Rat := g.frameRate x * (g.depthOf x : Nat) / 8

/-- Contexts that run, and those that pass the raw front end. -/
def Gen.running (g : Gen) : List Nat := (List.range 16).filter g.active
def Gen.rawRunning (g : Gen) : List Nat := g.running.filter g.usesRfe

def sumR (l : List Rat) : Rat := l.foldl (· + ·) 0

/-- Octets per pixel × 2 of a binding format (R355). -/
def formatHalves (f : Nat) : Nat := match f with | 2 => 8 | 3 => 5 | 4 => 6 | _ => 12

/-- Octets per second of a binding at a divisor. -/
def Gen.bindingRate (g : Gen) (x n div : Nat) : Rat :=
  let b := g.binding x n
  (b.outW * b.outH * formatHalves b.format : Nat) / 2 * g.fps x / (max 1 div : Nat)

/-- Luma samples per second of an encode stream and of a decoded context. -/
def Gen.esLuma (g : Gen) (e : Nat) : Rat :=
  let b := g.binding (g.es e 3) (g.es e 4)
  if b.enabled then (b.outW * b.outH : Nat) * g.fps (g.es e 3) / (max 1 (g.es e 5) : Nat) else 0
def Gen.decLuma (g : Gen) (p : Nat) : Rat := g.frameRate (8 + p)

/-- Octets per second of an AU stream (R561); none under CQP without a picture size cap. -/
def Gen.auRate (g : Gen) (e : Nat) : Option Rat :=
  match g.es e 13 with
  | 1 => some ((g.es e 14 * 125 : Nat) : Rat)
  | 2 => some ((g.es e 15 * 125 : Nat) : Rat)
  | _ => if g.es e 21 = 0 then none else some ((g.es e 21 : Nat) * g.fps (g.es e 3) / (max 1 (g.es e 5) : Nat))

/-- Octets per second of a RAW channel's coding at its minimum ratio. -/
def Gen.rawRate (g : Gen) (n : Nat) : Rat :=
  let p := g.packedRate (g.rd (ent (0x4800 + n) 2))
  if g.rd (ent (0x4800 + n) 3) = 0 then p else p * 4 / (max 1 (g.rd (ent (0x4800 + n) 4)) : Nat)

/-- RAW channels of running contexts. -/
def Gen.rawOn (g : Gen) : List Nat :=
  (List.range 64).filter fun n => g.rd (ent (0x4800 + n) 1) == 1 && g.active (g.rd (ent (0x4800 + n) 2))

/-- Recorded octets per second: the streams of every context in RUN (R561). -/
def Gen.recordRate (g : Gen) : Rat :=
  let rec_ (x : Nat) : Bool := x < 16 && g.rd (ent (0x4960 + x) 1) == 1
  sumR ((g.rawOn.filter fun n => g.rawDest n 1 && rec_ (g.rd (ent (0x4800 + n) 2))).map g.rawRate) +
  sumR ((g.esOn.filter fun e => (g.es e 26).testBit 0 && rec_ (g.es e 3)).map fun e => (g.auRate e).getD 0)

/-- An AU stream that is recorded or sent over Felley needs a rate (R561, R718). -/
def Gen.ratesKnown (g : Gen) : Bool :=
  g.esOn.all fun e => (g.auRate e).isSome || !(((g.es e 26).testBit 0 && decide (g.es e 3 < 16) && g.rd (ent (0x4960 + g.es e 3) 1) == 1) ||
    (List.range 64).any fun s => g.rd (ent (0x4D10 + s) 1) == 1 && g.rd (ent (0x4D10 + s) 2) == 4 && g.rd (ent (0x4D10 + s) 3) == e)

/-- Demand and limit of each resource, in the order of event 0x040B. -/
def Gen.ingestLoad (g : Gen) : List (Rat × Rat) :=
  (g.running.filter fun x => isSensor x && g.rd (ent (0x3000 + x) 2) == 0 && g.rd (ent (0x3000 + x) 3) != 0).map fun x =>
    (g.frameRate x * (g.depthOf x : Nat), sumR ((g.groupsOf x).map fun i => ((g.groupWidth i * g.rd (ent (0x2480 + i) 1) : Nat) : Rat) * 1000 * 64 / 66))

/-- Raw front ends: every set of them carries the contexts whose masks lie within it (R292); only those in service count (R314). -/
def Sys.rfeLoad (y : Sys) (g : Gen) : List (Rat × Rat) :=
  let up := (List.range 8).filter fun r => decide (y.rd (ent (0x3470 + r) 1) ≤ 1)
  (List.range 256).map fun m =>
    (sumR ((g.rawRunning.filter fun x => (g.rd (ent (0x3400 + x) 7)) ||| m == m).map g.windowRate),
      ((up.countP fun r => m.testBit r : Nat) : Rat) * 6000000000)

/-- Colour engines: declared operations, and the reserves against the Troupes in service (R365, R415). -/
def Sys.colourLoad (y : Sys) (g : Gen) : List (Rat × Rat) :=
  [(sumR (g.running.map fun x => if g.hasLook x then ((g.frameOps x 0 : Nat) : Rat) * g.fps x else 0), 8600000000000),
   (((g.reserveSum (List.range 16) : Nat) : Rat), ((y.troupesIn : Nat) : Rat))]

/-- Raw codec units: each RAW context once, and the output of expansions. -/
def Gen.rcuLoad (g : Gen) : Rat × Rat :=
  (sumR ((g.running.filter fun x => g.rawOn.any fun n => g.rd (ent (0x4800 + n) 2) == x).map g.frameRate) +
    sumR (((List.range 64).filter fun n => g.rd (ent (0x4800 + n) 1) == 2 && g.active (g.rd (ent (0x4800 + n) 2))).map fun n =>
      g.frameRate (g.rd (ent (0x4800 + n) 2))), 48000000000)

/-- The level that an encode stream signals (R472): the lowest whose limits hold; in CQP the bit rate is that of level 6.2. -/
def Gen.esLevel (g : Gen) (e : Nat) : Nat :=
  let b := g.binding (g.es e 3) (g.es e 4)
  let high := g.es e 8 ≠ 0
  let rate := if g.es e 13 = 1 then g.es e 14 else if g.es e 13 = 2 then g.es e 15 else levelRate (g.es e 7) (g.es e 8)
  let holds (l : Nat × Nat × Nat × Nat × Nat) : Bool :=
    let br := if high then l.2.2.2.2 else l.2.2.2.1
    decide (b.outW * b.outH ≤ l.2.1) && decide (b.outW * b.outW ≤ 8 * l.2.1) && decide (b.outH * b.outH ≤ 8 * l.2.1) &&
    decide (g.esLuma e ≤ (l.2.2.1 : Rat)) && decide (1000 * rate ≤ br * rateFactor (g.es e 7)) && br != 0
  if g.es e 1 ≠ 1 then 0 else match levelTable.find? holds with | some l => l.1 | none => 186

/-- Stream contexts of a core, encode cores 0 to 3 and decode cores 4 and 5, with pictures and luma samples a second (R468). -/
def Gen.coreStreams (g : Gen) (c : Nat) : List (Nat × Rat × Rat) :=
  if c < 4 then (g.esOn.filter fun e => g.es e 2 == c).map fun e => (e, g.fps (g.es e 3) / (max 1 (g.es e 5) : Nat), g.esLuma e)
  else (g.decOn.filter fun p => g.rd (ent (0x4440 + p) 9) == c).map fun p => (p, g.fps (8 + p), g.decLuma p)

/-- Load of a core, with its context switches (R468). -/
def Gen.coreLoad (g : Gen) (c : Nat) : Rat :=
  let l := g.coreStreams c
  sumR (l.map fun p => p.2.2 + p.2.1 * (if 1 < l.length then 48000 else 0))

/-- HEVC: all encodes, all decodes, and each core (R468). -/
def Gen.hevcLoad (g : Gen) : List (Rat × Rat) :=
  [(sumR (g.esOn.map g.esLuma), 8000000000), (sumR (g.decOn.map g.decLuma), 4000000000)] ++ (List.range 6).map fun c => (g.coreLoad c, 2000000000)

/-- Hash units: raw octets, and coded streams that a manifest lists (R185). -/
def Gen.hashLoad (g : Gen) : Rat × Rat :=
  (sumR (g.rawRunning.map g.packedRate) + sumR ((g.rawOn.filter fun n => g.rawDest n 1 || g.rawDest n 2).map g.rawRate) +
    sumR (g.esOn.map fun e => (g.auRate e).getD 0), 102000000000)

/-- Frame stores: written once per binding that a look renders, at the rate of its fastest consumer (the frame rate where it has none), and read once
for each consumer, a DEVELOPED stream among them (R25, R40). An array member holds no store without a consumer (R686). -/
def Gen.storeTraffic (g : Gen) : Rat :=
  let chans := (List.range 24).filter fun c => g.chanOn c && (match g.chanBinding c with | some (x, _) => decide (x < 16) && g.active x | none => false)
  let reads := chans.map fun c => match g.chanBinding c with | some (x, n) => ((x, n), g.bindingRate x n (g.rd (ent (0x4100 + c) 8))) | none => ((0, 0), 0)
  let encs := (g.esOn.filter fun e => g.active (g.es e 3)).map fun e => ((g.es e 3, g.es e 4), g.bindingRate (g.es e 3) (g.es e 4) (g.es e 5))
  let sent := ((List.range 64).filter fun s => g.rd (ent (0x4D10 + s) 1) == 1 && g.rd (ent (0x4D10 + s) 2) == 3 && g.active (g.rd (ent (0x4D10 + s) 3))).map fun s =>
    let x := g.rd (ent (0x4D10 + s) 3)
    let n := g.rd (ent (0x4D10 + s) 4)
    ((x, n), g.bindingRate x n 1)
  let all := reads ++ encs ++ sent
  let stores := (g.running.filter g.hasLook).flatMap fun x => ((List.range 16).filter fun n => (g.binding x n).enabled).map fun n => (x, n)
  let written (b : Nat × Nat) : Rat :=
    let l : List Rat := (all.filter fun r => r.1 == b).map Prod.snd
    if l.isEmpty && g.role != 3 then g.bindingRate b.1 b.2 1 else l.foldl max 0
  sumR (all.map Prod.snd) + sumR (stores.map written)

/-- Reference pictures at the nominal 2:1 (R485): an inter picture is one write and 1 + n reads, an intra picture one write, an INTRA stream nothing;
a decoded picture is one write, one read by its mover and n reads. -/
def Gen.referenceLoad (g : Gen) : Rat :=
  sumR (g.esOn.map fun e =>
    let intra : Rat := if g.es e 11 = 0 then 0 else 1 / (g.es e 11 : Nat)
    let pictures : Rat := if g.es e 9 = 0 then 0 else intra + (1 - intra) * (2 + (g.es e 10 : Nat))
    g.esLuma e * (formatHalves (g.binding (g.es e 3) (g.es e 4)).format : Nat) / 2 * pictures / 2) +
  sumR (g.decOn.map fun p =>
    g.decLuma p * (if g.rd (ent (0x4440 + p) 0x0D) = 1 then 6 else 5) / 2 * (2 + (g.rd (ent (0x4440 + p) 0x0C) : Nat)) / 2)
/-- Recording: the sum, and each drive of the volume (R561). -/
def Sys.recordLoad (y : Sys) (g : Gen) : List (Rat × Rat) :=
  let v := y.vol
  let cols := max 1 v.columns
  (g.recordRate, 40000000000) :: v.members.map fun d =>
    (g.recordRate * (if v.mirrored then 2 else 1) / (cols : Nat), ((g.rd (ent (0x4940 + d) 6) * 1000000 : Nat) : Rat))

/-- Rate of a Felley stream in bits per second, without framing (R718). -/
def Gen.felleyRate (g : Gen) (s : Nat) : Rat :=
  let c (i : Nat) : Nat := g.rd (ent (0x4D10 + s) i)
  match c 2 with
  | 1 => g.packedRate (c 3) * 8
  | 2 => g.rawRate (c 3) * 8
  | 3 => let b := g.binding (c 3) (c 4); (b.outW * b.outH : Nat) * g.fps (c 3) * 20
  | 4 => (g.auRate (c 3)).getD 0 * 8
  | _ => (((List.range 48).filter fun n => g.rd (ent (0x2500 + n) 1) == 1 && g.rd (ent (0x2500 + n) 0x10) == s).map fun n =>
      (((audioFs (g.rd (ent (0x2500 + n) 4))) * 64 : Nat) : Rat)).foldl (· + ·) 0

/-- The same with framing, as admitted: in Mb/s it is shown in 0x4D10 + s:05. -/
def Gen.felleyAdmitted (g : Gen) (s : Nat) : Rat := g.felleyRate s * (1 + 2 * (g.rd (ent 0x4D00 1) : Nat) / 1024)

/-- Traffic of the classes that the worked budget leaves at 0: audio samples in and out of their buffers, Felley streams in and out of theirs (R719),
and the remote windows of an array at the window rate on each link (R687). The host's own accesses have no declared rate (log entry 60). -/
def Gen.otherLoad (g : Gen) (felley : Nat → Rat) : Rat :=
  2 * sumR (((List.range 48).filter fun n => g.rd (ent (0x2500 + n) 1) != 0).map fun n => ((audioFs (g.rd (ent (0x2500 + n) 4)) * 8 : Nat) : Rat)) +
  2 * sumR (((List.range 64).filter fun s => g.rd (ent (0x4D10 + s) 1) == 1).map fun s => felley s / 8) +
  (if g.role = 3 then (((g.rd (ent 0x4C00 1) - 1) * g.rd (ent 0x4C00 9) * 1000000000 : Nat) : Rat) else 0)

/-- DRAM, after the worked budget of chapter 1: ingest writes, raw front-end reads with halo, one raw codec read, ring and recording
writes, frame stores, reference pictures, bitstreams and the drain to the drives; and the rest of the classes of R38. -/
def Gen.dramLoad (g : Gen) : Rat × Rat :=
  let raw := sumR (g.rawRunning.map fun x => let h : Rat := (max 1 (g.rd (ent (0x4000 + x) 1)) : Nat); g.packedRate x * (1 + (h + 16) / h))
  let rcu := sumR ((g.running.filter fun x => g.rawOn.any fun n => g.rd (ent (0x4800 + n) 2) == x).map g.packedRate)
  let coded := sumR (g.rawOn.map fun n => (if g.rawDest n 0 then g.packedRate (g.rd (ent (0x4800 + n) 2)) else 0) +
    (if g.rawDest n 1 || g.rawDest n 2 then g.rawRate n else 0))
  let au := sumR (g.esOn.map fun e => (g.auRate e).getD 0)
  (raw + rcu + coded + g.storeTraffic + g.referenceLoad + au + g.recordRate + g.otherLoad g.felleyAdmitted, 448000000000)

def Gen.felleyLoad (g : Gen) : List (Rat × Rat) :=
  let on := (List.range 64).filter fun s => g.rd (ent (0x4D10 + s) 1) == 1
  if on.isEmpty then [] else [(sumR (on.map g.felleyAdmitted) + 1000000000, ((g.rd (ent 0x4D00 1) * 109 / 4 : Nat) : Rat) * 1000000000)]

/-- Groups of the frame stores consumed here that come on STORE from one other member: the lines beyond the own band, shared among the others (R686;
log entry 60). -/
def Gen.storeIn (g : Gen) : Rat :=
  let stores := ((List.range 24).filter g.chanOn).filterMap g.chanBinding ++ g.esOn.map fun e => (g.es e 3, g.es e 4)
  sumR ((stores.eraseDups.filter fun b => b.1 < 16 && g.active b.1).map fun b =>
    g.bindingRate b.1 b.2 1 * 8 * ((g.winHeight b.1 - g.bandLines b.1 : Nat) : Rat) / (max 1 (g.winHeight b.1) * max 1 (g.rd (ent 0x4C00 1) - 1) : Nat))

/-- A Garos link to a neighbour in band order: window rate, the stores' groups, and per context 8 raw lines and 8 developed rows of H24 a frame
(R427, R686). -/
def Gen.garosLoad (g : Gen) : List (Rat × Rat) :=
  if g.role ≠ 3 then []
  else [(((g.rd (ent 0x4C00 9) : Nat) : Rat) * 8000000000 + g.storeIn +
    sumR (g.rawRunning.map fun x => (g.width x * 8 * g.depthOf x + g.winWidth x * 8 * 72 : Nat) * g.fps x), 252000000000)]

/-- The admitted rates of the Felley SEND streams and their sum with CONTROL's share, in Mb/s (R718). -/
def Sys.showAdmitted (y : Sys) (g : Gen) : Sys :=
  let mb (r : Rat) : Nat := (Rat.ceil (r / 1000000)).toNat
  let on (s : Nat) : Bool := g.rd (ent (0x4D10 + s) 1) == 1
  let y := upto 64 (fun s y => y.wr (ent (0x4D10 + s) 5) (if on s then mb (g.felleyAdmitted s) else 0)) y
  let all := (List.range 64).filter on
  y.wr (ent 0x4D01 0x0B) (if all.isEmpty then 0 else mb (sumR (all.map g.felleyAdmitted)) + 1000)

/-- Demand of every resource with its code. -/
def Sys.demands (y : Sys) (g : Gen) : List (Nat × Rat × Rat) :=
  g.ingestLoad.map (fun p => (0, p)) ++ (y.rfeLoad g).map (fun p => (1, p)) ++ (y.colourLoad g).map (fun p => (2, p)) ++ [(3, g.rcuLoad)] ++
    g.hevcLoad.map (fun p => (4, p)) ++ [(5, g.hashLoad), (6, g.dramLoad)] ++ (y.recordLoad g).map (fun p => (7, p)) ++
    g.felleyLoad.map (fun p => (8, p)) ++ g.garosLoad.map fun p => (9, p)

/-- Writes that R39 lists: what raises or moves demand, and enabling. `v` is the value written. -/
def demandEntry (k v : Nat) : Bool :=
  let i := k / 256
  let s := k % 256
  if 0x3000 ≤ i ∧ i < 0x3008 then (s == 1 && v != 0) || s == 2 || s == 3 || (5 ≤ s && s ≤ 8)
  else if 0x3400 ≤ i ∧ i < 0x3410 then 3 ≤ s && s ≤ 7
  else if 0x3800 ≤ i ∧ i < 0x3810 then s == 1
  else if 0x3820 ≤ i ∧ i < 0x3830 then true
  else if 0x4000 ≤ i ∧ i < 0x4010 then s == 1 || s == 6
  else if 0x4100 ≤ i ∧ i < 0x4118 then (s == 1 && v != 0) || s == 2 || s == 3 || s == 4 || s == 8
  else if 0x4400 ≤ i ∧ i < 0x4410 then (s == 1 && v != 0) || (2 ≤ s && s ≤ 15 && s != 8) || s == 0x15 || s == 0x1A
  else if 0x4440 ≤ i ∧ i < 0x4448 then (s == 1 && v != 0) || s == 6 || s == 9 || s == 10 || s == 12 || s == 13
  else if 0x4800 ≤ i ∧ i < 0x4840 then (s == 1 && v != 0) || (2 ≤ s && s ≤ 5)
  else if 0x4960 ≤ i ∧ i < 0x4970 then s == 1 && v != 0
  else if 0x4940 ≤ i ∧ i < 0x4944 then s == 6
  else if 0x4D10 ≤ i ∧ i < 0x4D50 then (s == 1 && v != 0) || (2 ≤ s && s ≤ 4)
  else if 0x2500 ≤ i ∧ i < 0x2530 then s == 1 || s == 4 || s == 0x10
  else if 0x2488 ≤ i ∧ i < 0x2490 then s == 1
  else i == 0x4C00 && s == 9

/-- Admission: the first exceeded resource in the order of event 0x040B, with its demand in permille of its limit; none where all hold. Where several
are exceeded the spec does not say which one the event names (DESIGN CHOICE; log entry 39). -/
def Sys.overBudget (y : Sys) (g : Gen) : Option (Nat × Nat) :=
  match (y.demands g).find? fun d => decide (d.2.2 < d.2.1) with
  | none => none
  | some d => some (d.1, if d.2.2 = 0 then 4294967295 else min 4294967295 (Rat.ceil (d.2.1 * 1000 / d.2.2)).toNat)

/-! ## The checks of the commit instant -/

/-- The entry's family of set rules: contexts and looks, outputs, codec, compression, audio, Felley. -/
def Sys.setRules (y : Sys) (g : Gen) (k : Nat) : Status :=
  let i := k / 256
  let s := k % 256
  let in_ (b n : Nat) : Bool := decide (b ≤ i) && decide (i < b + n)
  let ctx := in_ 0x3000 8 || in_ 0x3400 16 || in_ 0x3410 16 || in_ 0x3420 16 || in_ 0x3430 16 || in_ 0x3820 16 || in_ 0x4000 16 || in_ 0x4440 8
  let look := in_ 0x3800 16 || in_ 0x3820 16 || in_ 0x3C10 16 || in_ 0x3C20 16
  let x := if in_ 0x4440 8 then 8 + (i - 0x4440) else i % 16
  Status.first [
    if ctx then g.contextSet x else .ok,
    if look then y.lookSet g x else .ok,
    if in_ 0x3C10 16 && s == 6 then y.pageSet g else .ok,
    if ctx || look || in_ 0x4100 24 || in_ 0x4120 24 || in_ 0x4170 16 || in_ 0x4188 2 || in_ 0x4190 8 || in_ 0x4198 8 then g.outputSet else .ok,
    if in_ 0x4160 8 || in_ 0x4100 24 || in_ 0x4120 24 then y.lockSet g else .ok,
    if ctx || in_ 0x4100 24 || in_ 0x4400 16 then g.codecSet else .ok,
    if ctx || in_ 0x4800 64 then g.compressionSet else .ok,
    if in_ 0x2500 48 || in_ 0x2568 8 then g.audioSet else .ok,
    if in_ 0x4D10 64 then g.felleySet else .ok,
    -- R248: the allocation of all eight quads
    if in_ 0x2488 8 && s == 1 then
      Status.range.unless (quadsOk g.role ((g.rd (ent 0x2010 1)).testBit 4) fun q => quadFnOf (g.rd (ent (0x2488 + q) 1)))
    else .ok,
    if in_ 0x4400 16 || in_ 0x4960 16 || in_ 0x4D10 64 then Status.range.unless g.ratesKnown else .ok]

end Sys2Proof.Machine
end

