-- ==== Sys2Proof/Machine/Security.lean ====
section
/-!
DEFINITION. Sys2Proof/Machine/Security.lean: life-cycle, re-certification, credentials, epochs, look-program images and attestation (R163 to
R194, R371). Each write of this chapter is a function from the working state to its status, the fuses it programs and the state after it.
-/

namespace Sys2Proof.Machine

/-- What a write answers, the fuses it programs, and the working state it leaves. -/
abbrev Result := Status × List OtpOp × Sys

/-- A refusal: nothing changes. -/
def Sys.refuse (y : Sys) (st : Status) : Result := (st, [], y)

/-! ## Credentials (R172 to R174) -/

def credId (c : Bytes) : Nat := rdLe c 4 4
def credRole (c : Bytes) : Nat := rdLe c 8 1
def credIssuer (c : Bytes) : Nat := rdLe c 12 4
def credKey (c : Bytes) : Bytes := slice c 32 32

/-- The layout of R172. -/
def credFormat (c : Bytes) : Bool :=
  c.length == 128 && rdLe c 0 4 == 0x3152434B && 1 ≤ credId c && credId c ≤ 0xFFFFFFFE && 1 ≤ credRole c && credRole c ≤ 4 && rdLe c 9 1 ≤ 3 &&
  rdLe c 10 2 == 0

/-- The installed credential of an ID: the first slot that holds it. -/
def Sys.credential (y : Sys) (id : Nat) : Option Bytes :=
  ((List.range 64).map fun i => y.rdB (ent 0x1210 (i + 1))).find? fun c => !c.isEmpty && credId c == id

/-- Time for validity windows, in ns (R174). -/
def Sys.validityNow (y : Sys) : Nat := (if y.time.disciplined then y.t96 else max y.t96 y.mram.savedTime) / 2 ^ 32

/-- Within its window and not revoked. -/
def Sys.credCurrent (y : Sys) (c : Bytes) : Bool :=
  let now := y.validityNow
  (rdLe c 16 8 == 0 || rdLe c 16 8 ≤ now) && (rdLe c 24 8 == 0 || now ≤ rdLe c 24 8) && !y.mram.revoked.contains (credId c)

/-- The factory life-cycle states (R167). -/
def Otp.factory (o : Otp) : Bool := o.life == 0 || o.life == 1 || o.life == 5

/-- The chain from a credential to the root (R173): a credential the root issued is a Custodian's; otherwise its issuer is installed, has ISSUER,
ranks no lower and is itself accepted. The Kilvan role needs the Kilvan firmware key and a factory state. -/
def Sys.chained (o : Otp) (y : Sys) : Nat → Bytes → Bool
  | 0, _ => false
  | fuel + 1, c =>
    credFormat c && y.credCurrent c &&
    if credRole c = 4 then o.factory && Config.kilvanIssued c o.kilvanKeyHash
    else if credIssuer c = 0 then
      credRole c == 3 && (match o.liveRoot with | some r => edVerify r (slice c 0 64) (slice c 64 64) | none => false)
    else
      match y.credential (credIssuer c) with
      | none => false
      | some i => (rdLe i 9 1).testBit 0 && credRole i != 4 && credRole c ≤ credRole i && edVerify (credKey i) (slice c 0 64) (slice c 64 64) && y.chained o fuel i

/-- The credential is accepted under R173. -/
def Sys.credAccepted (o : Otp) (y : Sys) (c : Bytes) : Bool := y.chained o 65 c

/-- The credentials under an ID: itself, and every installed credential issued under it. -/
def Sys.credTree (y : Sys) : Nat → List Nat → List Nat
  | 0, l => l
  | fuel + 1, l =>
    let more := ((List.range 64).map fun i => y.rdB (ent 0x1210 (i + 1))).filterMap fun c =>
      if !c.isEmpty && l.contains (credIssuer c) && !l.contains (credId c) then some (credId c) else none
    if more.isEmpty then l else y.credTree fuel (l ++ more.eraseDups)

/-- Sessions whose credential is in the list close: how many, and the state after. -/
def Sys.closeByCredential (y : Sys) (ids : List Nat) : Nat × Sys :=
  let gone := y.den.sessions.filter fun s => ids.contains s.credential
  let keep := y.den.sessions.filter fun s => !ids.contains s.credential
  let y := y.onDen fun d => { d with sessions := keep, transfers := d.transfers.filter fun t => !gone.any (·.id == t.session) }
  ((gone.filter (·.established)).length, y.wr (ent 0x1103 1) (keep.filter (·.established)).length)

/-- A credential leaves: sessions bound to it or to any issued under it close, with event 0x0508 (R176). -/
def Sys.credGone (y : Sys) (ids : List Nat) (id : Nat) : Sys :=
  let p := y.closeByCredential ids
  p.2.raise 0x0508 255 (ev [(0, 4, id), (4, 1, p.1)])

/-- A filled credential slot is a Custodian's (R176); in the factory states Kilvan ranks above. -/
def mayFill (y : Sys) (w : Writer) (i : Nat) : Bool := (y.rdB (ent 0x1210 (i + 1))).isEmpty || w.role == .custodian || w.role == .kilvan

/-- A write to credential slot i: an empty slot takes an accepted credential from anybody; the rest is a Custodian's (R176). -/
def Sys.writeCredential (o : Otp) (y : Sys) (w : Writer) (i : Nat) (v : Bytes) : Result :=
  let k := ent 0x1210 (i + 1)
  let old := y.rdB k
  if !mayFill y w i then y.refuse .role
  else if v.isEmpty then
    if old.isEmpty then (.ok, [], y)
    else
      let ids := y.credTree 64 [credId old]
      let y := (y.wrB k []).raise 0x0507 255 (ev [(0, 1, i), (1, 1, 0), (4, 4, credId old)])
      (.ok, [], y.credGone ids (credId old))
  else if v.length ≠ 128 then y.refuse .type
  else if !y.credAccepted o v then y.refuse .range
  else (.ok, [], (y.wrB k v).raise 0x0507 255 (ev [(0, 1, i), (1, 1, 1), (4, 4, credId v)]))

/-- A write to 0x1211:01: the list holds 256 IDs (R176). -/
def Sys.revoke (y : Sys) (id : Nat) : Result :=
  if id = 0 ∨ id = 0xFFFFFFFF then y.refuse .range
  else if y.mram.revoked.contains id then (.ok, [], y)
  else if 256 ≤ y.mram.revoked.length then y.refuse .busy
  else
    let ids := y.credTree 64 [id]
    let l := y.mram.revoked ++ [id]
    (.ok, [], Sys.credGone (Sys.wr { y with mram := { y.mram with revoked := l } } (ent 0x1211 2) l.length) ids id)

/-! ## Life-cycle (R167, R168) -/

/-- The transitions of R168 that a write of 0x1001:02 can ask for. -/
def transitions (life : Nat) : List Nat :=
  match life with | 0 => [1] | 1 => [2, 3] | 2 => [6] | 3 => [4, 5, 6] | 4 => [5, 6] | 5 => [6] | _ => []

/-- Who may ask: Kilvan in the factory states, a Custodian in service, session 0 on the console in DELIVERED. -/
def mayTransit (life : Nat) (w : Writer) : Bool :=
  match life with
  | 0 | 1 | 5 => w.role == .kilvan
  | 2 => w.session == 0 && w.path == 8
  | _ => w.role == .custodian

/-- Erasure before the state fuse (R168): device key, pending key, credentials, revocations, recipient keys. The certificates of the erased keys
have length 0, and no public key is shown. -/
def Sys.eraseKeys (y : Sys) : Sys :=
  let y := (List.range 64).foldl (fun y i => y.wrB (ent 0x1210 (i + 1)) []) y
  let y := (List.range 4).foldl (fun y i => y.wrB (ent 0x1404 (i + 2)) []) y
  let y := (((y.wrB (ent 0x1000 2) []).wrB (ent 0x1000 3) []).wrB (ent 0x1000 4) (List.replicate 32 0)).wrB (ent 0x1002 3) []
  let y := y.wr (ent 0x1211 2) 0
  { y with mram := { y.mram with key := none, pendingKey := none, revoked := [] }, sec := { y.sec with key := none, pending := none } }

/-- A private key that KE3 has drawn, in the clear for the security engines, and sealed for MRAM with a nonce of its own (R165). -/
def Sys.drawKey (y : Sys) : Bytes × SealedKey × Sys :=
  let p := y.freeBytes 32
  let n := p.2.freeBytes 12
  (p.1, sealKey y.sec.dieKey n.1 p.1, n.2)

/-- A certificate's first 64 bytes (R170). -/
def certificateBody (die serial kind issued : Nat) (subject : Bytes) : Bytes :=
  poke (pack 64 [(0, 4, 0x3143444B), (4, 8, die), (12, 1, serial), (13, 1, kind), (16, 8, issued)]) 32 subject

/-- The device key of FACTORY_TEST, with the certificate that Kilvan issues for it; its issue is outside the module, so its signature is free. -/
def Sys.factoryKey (o : Otp) (y : Sys) : Sys :=
  let p := y.drawKey
  let pub := edPublic p.1
  let body := certificateBody o.dieId 0 0 y.ns pub
  let y := p.2.2
  let y : Sys := { y with mram := { y.mram with key := some p.2.1 }, sec := { y.sec with key := some p.1 } }
  ((y.wrB (ent 0x1000 4) pub).wr (ent 0x1000 5) 0).wrB (ent 0x1000 2) (body ++ slice (Config.kilvanSignature body) 0 64)

/-- The fuses of a transition: what its erasure leaves to fuse, then the state (R168). -/
def transitionFuses (target : Nat) : List OtpOp := (if target = 5 ∨ target = 6 then [.eraseRoot] else []) ++ [.programState target]

/-- A boot completes a transition that a reset has cut between its erasure and its fuse (R168). -/
def Sys.finishTransition (o : Otp) (y : Sys) : List OtpOp × Sys :=
  match y.mram.transition with
  | none => ([], y)
  | some t => (transitionFuses t, Sys.raise { y with mram := { y.mram with transition := none } } 0x0503 255 (ev [(0, 1, o.life), (1, 1, t)]))

/-- LIFE_CYCLE_TRANSITION: the fuse, event 0x0503, and a warm reset once the answer is out. 0 to 1 fuses the hash of the key that signed the running
firmware; the customer root of an M1 order is Kilvan's to give (log entry 43). -/
def Sys.transit (o : Otp) (y : Sys) (w : Writer) (target : Nat) : Result :=
  let life := o.life
  if !mayTransit life w then y.refuse .role
  else if !(transitions life).contains target then y.refuse .range
  else if o.statesLeft = 0 then y.refuse .exhausted
  else
    let y := if life = 0 then y.factoryKey o else if target = 5 ∨ (target = 6 ∧ life ≠ 5) then y.eraseKeys else y
    let root := y.freeBytes 32
    let ops : List OtpOp :=
      (if life = 0 then [.fuseKilvan (sha256 (y.bankImage y.mram.active).key)] else []) ++ (if life = 1 ∧ target = 3 then [.fuseRoot root.1] else []) ++
      transitionFuses target
    let y := if life = 1 ∧ target = 3 then root.2 else y
    -- the erasure is done, and the fuses follow at once
    let y : Sys := { y with mram := { y.mram with transition := none } }
    let y := y.raise 0x0503 255 (ev [(0, 1, life), (1, 1, target)])
    (.ok, ops, { y with boot := { y.boot with due := some 1 } })

/-- Who may fuse the customer root: session 0 on the console or the host mailboxes (R175). -/
def rootWriter (w : Writer) : Bool := w.session == 0 && (w.path == 8 || w.path == 1)

/-- CUSTOMER_ROOT_WRITE (R175): once, in DELIVERED, by session 0 on the console or the host mailboxes; the module is PROVISIONED. -/
def Sys.writeRoot (o : Otp) (y : Sys) (w : Writer) (v : Bytes) : Result :=
  if !rootWriter w then y.refuse .role
  else if v.length ≠ 32 then y.refuse .type
  else if o.life ≠ 2 then y.refuse .state
  else if o.root = some v then (.ok, [], y)
  else if o.rootLeft = 0 then y.refuse .exhausted
  else (.ok, [.fuseRoot v, .programState 3], y.raise 0x0503 255 (ev [(0, 1, 2), (1, 1, 3)]))

/-! ## Re-certification (R171) -/

/-- REKEY: a pending key, one fused change, and the request. -/
def Sys.rekey (o : Otp) (y : Sys) (v : Nat) : Result :=
  if v ≠ 1 then y.refuse .range
  else if o.life ≠ 3 ∧ o.life ≠ 4 then y.refuse .state
  else if o.rekeysLeft = 0 then y.refuse .exhausted
  else
    let p := y.drawKey
    let y := p.2.2
    let y : Sys := { y with mram := { y.mram with pendingKey := some p.2.1 }, sec := { y.sec with pending := some p.1 } }
    let body := certificateBody o.dieId (y.keySerial + 1) 1 y.ns (edPublic p.1)
    let y := y.wrB (ent 0x1002 3) (body ++ slice (edSign p.1 body) 0 16)
    (.ok, [.fuseRekey], y.raise 0x0504 255 (ev [(0, 1, y.keySerial + 1), (1, 1, o.rekeysLeft - 1)]))

/-- The certificate is one for the pending key, signed by the customer root. -/
def Sys.certificateOk (o : Otp) (y : Sys) (c pending : Bytes) : Bool :=
  match o.liveRoot with
  | none => false
  | some r => slice c 0 16 == slice (certificateBody o.dieId (y.keySerial + 1) 1 0 []) 0 16 && rdLe c 24 8 == 0 && slice c 32 32 == edPublic pending &&
    edVerify r (slice c 0 64) (slice c 64 64)

/-- CERTIFICATE_INSTALL: the pending key becomes active, and every chain starts again. -/
def Sys.installCertificate (o : Otp) (y : Sys) (c : Bytes) : Result :=
  if c.length ≠ 128 then y.refuse .type
  else match y.sec.pending with
    | none => y.refuse .state
    | some k =>
      if !y.certificateOk o c k then y.refuse .range
      else
        let serial := y.keySerial + 1
        let chains := (List.range 16).filter fun x => (y.chain x).started
        let y := (((y.wrB (ent 0x1000 3) c).wrB (ent 0x1000 4) (edPublic k)).wr (ent 0x1000 5) serial).wrB (ent 0x1002 3) []
        let y := chains.foldl (fun (y : Sys) (x : Nat) => y.setChain x { chain0 with cause := 1 }) y
        let y : Sys := { y with mram := { y.mram with key := y.mram.pendingKey, pendingKey := none }, sec := { y.sec with key := some k, pending := none } }
        (.ok, [], y.raise 0x0505 255 (ev [(0, 1, serial), (1, 1, chains.length)]))

/-! ## Firmware images and their epoch (R177, R179) -/

/-- The octets that an image's signature covers, and the SHA-256 of the image (log entry 43). -/
def fwSigned (f : Firmware) : Bytes := f.epoch :: f.code
def fwHash (f : Firmware) : Bytes := sha256 (fwSigned f)

/-- The format of an image: a key of 32 octets, a signature of 64, and code (log entry 43). -/
def fwFormed (f : Firmware) : Bool := f.key.length == 32 && f.signature.length == 64 && !f.code.isEmpty

/-- The signature verifies under the Kilvan firmware key, whose hash is fused; before FACTORY_TEST none is (R168, R179). -/
def fwVerifies (o : Otp) (f : Firmware) : Bool :=
  (o.kilvanKeyHash.isEmpty || sha256 f.key == o.kilvanKeyHash) && edVerify f.key (fwSigned f) f.signature

/-- Why an image is refused (R177, R179, R194): 2 its format, 0 its signature, 1 an epoch below the fused one. -/
def imageFault (o : Otp) (f : Firmware) : Option Nat :=
  if !fwFormed f then some 2 else if !fwVerifies o f then some 0 else if f.epoch.toNat < o.epoch then some 1 else none

/-- EPOCH_RAISE: both banks hold verified images of at least that epoch. -/
def Sys.raiseEpoch (o : Otp) (y : Sys) (v : Nat) : Result :=
  if v ≤ o.epoch then y.refuse .range
  else if !([0, 1].all fun n => (imageFault o (y.bankImage n)).isNone && decide (v ≤ (y.bankImage n).epoch.toNat)) then y.refuse .state
  else if o.epochsLeft = 0 then y.refuse .exhausted
  else (.ok, [.fuseEpoch v], y.raise 0x0506 255 (ev [(0, 1, v), (1, 1, o.epochsLeft - 1)]))

/-! ## Recording keys and attestation (R188 to R192) -/

/-- Event 0x0509 after a change of recipient keys or of encryption. -/
def Sys.recipientsChanged (y : Sys) : Sys :=
  y.raise 0x0509 255 (ev [(0, 1, ((List.range 4).filter fun i => !(y.rdB (ent 0x1404 (i + 2))).isEmpty).length), (1, 1, y.rd (ent 0x1404 1))])

/-- RECIPIENT_KEY_WRITE: recipient i. -/
def Sys.writeRecipient (y : Sys) (i : Nat) (v : Bytes) : Result :=
  if v.length ≠ 0 ∧ v.length ≠ 32 then y.refuse .type else (.ok, [], (y.wrB (ent 0x1404 (i + 2)) v).recipientsChanged)

/-- ENCRYPTION_ENABLE. -/
def Sys.writeEncryption (y : Sys) (v : Nat) : Result :=
  if 1 < v then y.refuse .range else (.ok, [], (y.wr (ent 0x1404 1) v).recipientsChanged)

/-- ATTESTATION_NONCE: the newest nonce is the one answered. -/
def Sys.attest (y : Sys) (v : Bytes) : Result :=
  if v.length ≠ 32 then y.refuse .type else (.ok, [], { y with sec := { y.sec with nonce := some v } })

/-- Octets, or as many zeros where there are none. -/
def orZeros (n : Nat) (b : Bytes) : Bytes := if b.isEmpty then List.replicate n 0 else b

/-- The first 728 bytes of an attestation report (R192). -/
def Sys.reportBody (o : Otp) (y : Sys) (nonce : Bytes) : Bytes :=
  let bank (i : Nat) : Firmware := y.bankImage i
  [0x50, 0x51, 0x58, 0x41, 1] ++ le 1 o.life ++ le 1 y.keySerial ++ le 1 o.epoch ++ le 8 o.dieId ++ slice nonce 0 32 ++ le 12 y.t96 ++
  le 1 (y.rd (ent 0x2300 2)) ++ le 1 (y.rd (ent 0x4C01 2)) ++ le 1 (y.rd (ent 0x2010 1)) ++ [0] ++ fwHash (bank 0) ++ fwHash (bank 1) ++
  [(bank 0).epoch, (bank 1).epoch] ++ le 1 o.rekeysLeft ++ le 1 o.epochsLeft ++
  sha256 ((List.range 64).flatMap fun i => orZeros 128 (y.rdB (ent 0x1210 (i + 1)))) ++
  sha256 ((List.range 4).flatMap fun i => orZeros 32 (y.rdB (ent 0x1404 (i + 2)))) ++ [0, 0, 0, 0] ++
  (List.range 16).flatMap (fun s => slice (y.rdB (ent (0x3840 + s) 2)) 0 32) ++
  (List.range 8).flatMap (fun s => le 1 (o.calEpoch s)) ++ (List.range 8).flatMap (fun s => le 1 (32 - o.calEpoch s))

/-- ATTESTATION_REPORT_READY. -/
def execAttestationReportReady (s : State) : Host.Outcome State Fault Refusal :=
  onSys s fun o y =>
    match y.sec.nonce with
    | none => y
    | some n =>
      let b := y.reportBody o n
      let y := Sys.wrB { y with sec := { y.sec with nonce := none } } (ent 0x1406 2) (b ++ y.sign b)
      y.raise 0x050C 255 (ev [(0, 8, rdLe n 0 8)])

/-! ## Look-program images (R180, R371, R373) -/

/-- Slot s is live or pending for a context. -/
def Sys.lookInUse (y : Sys) (s : Nat) : Bool :=
  ((List.range 16).any fun x => y.rd (ent (0x3800 + x) 1) == s) || (y.frames.any fun f => f.gen.lookSlot f.ctx == s) ||
  (y.den.latched.any fun u => u.members.any fun m => m.1 / 256 / 16 == 0x380 && m.1 % 256 == 1 && unLe m.2 == s)

/-- Why an image is refused: 3 format, 1 credential, 2 capability, 0 signature; none where it is accepted. -/
def Sys.imageRefused (o : Otp) (y : Sys) (img : Bytes) : Option Nat :=
  if !imageOk img then some 3
  else
    match y.credential (rdLe img (img.length - 68) 4) with
    | none => some 1
    | some c =>
      if !y.credAccepted o c then some 1
      else if !(rdLe c 9 1).testBit 1 ∨ credRole c < 2 then some 2
      else if !edVerify (credKey c) (img.take (img.length - 64)) (img.drop (img.length - 64)) then some 0
      else none

/-- The entries of a slot that describe its image. -/
def Sys.showImage (y : Sys) (s : Nat) (img : Bytes) (signer : Nat) : Sys :=
  let mask := if img.isEmpty then 0 else
    bitsOf ((List.range 16).filter fun n => (imgEntry img 0 n).isSome) + 65536 * bitsOf ((List.range 16).filter fun n => (imgEntry img 1 n).isSome)
  let k (i : Nat) : Nat := ent (0x3840 + s) i
  (((((y.wrB (k 1) img).wrB (k 2) (if img.isEmpty then List.replicate 32 0 else sha256 (img.take (img.length - 68)))).wr (k 3) signer).wr (k 4) mask).wr
    (k 5) (if img.isEmpty then 0 else imgCode img)).wr (k 6) (if img.isEmpty then 0 else imgLocal img)

/-- LOOK_IMAGE_WRITE: an empty value clears the slot. A slot kept resident places the new image in the room the old one leaves. -/
def Sys.writeImage (o : Otp) (y : Sys) (s : Nat) (img : Bytes) : Result :=
  if 98304 < img.length then y.refuse .type
  else if y.lookInUse s then y.refuse .state
  else if img.isEmpty then (.ok, [], Sys.showResident (Sys.showImage { y with resident := y.resident.filter (·.slot != s) } s [] 0))
  else
    match y.imageRefused o img with
    | some r => (.range, [], y.raise 0x0502 255 (ev [(0, 1, s), (1, 1, r), (4, 4, if img.length < 68 then 0 else rdLe img (img.length - 68) 4)]))
    | none =>
      let z := Sys.showImage { y with resident := y.resident.filter (·.slot != s) } s img (rdLe img (img.length - 68) 4)
      if z.rd (ent (0x3840 + s) 7) = 0 then (.ok, [], z.showResident)
      else match z.makeResident s with
        | some z => (.ok, [], z)
        | none => y.refuse .range

end Sys2Proof.Machine
end

