-- ==== Sys2Proof/Machine/SelfTest.lean ====
section
/-!
DEFINITION. Sys2Proof/Machine/SelfTest.lean: the self-tests on demand (R749, R750).
-/

namespace Sys2Proof.Machine

/-- Event 0x040B for an OVERBUDGET refusal, counted in 0x1104:09 (R39, R161). -/
def Sys.overEvent (y : Sys) (w : Writer) (b : Nat × Nat) : Sys :=
  (y.inc (ent 0x1104 9)).raise 0x040B 255 (ev [(0, 1, b.1), (1, 1, w.path.val), (2, 2, w.session.toNat), (4, 4, b.2)])

/-- Instances of a test: how many (R749). -/
def testInstances (code : Nat) : Nat :=
  match code with | 1 => 2 | 2 => 24 | 3 => 8 | 4 => 1 | 5 => 1 | 6 => 1 | 7 => 8 | _ => 0

/-- The configuration left without the unit: the resource it fails, if any (R750). -/
def Sys.lacking (y : Sys) (code i : Nat) : Option (Nat × Nat) :=
  match code with
  | 2 => let z := y.wr (ent (0x3860 + i) 1) 1; z.overBudget z.view
  | 3 => let z := y.wr (ent (0x3470 + i) 1) 2; z.overBudget z.view
  | _ => none

/-- A unit that is fenced, failed or in retest is not tested, nor a quad in use. -/
def Sys.testable (y : Sys) (code i : Nat) : Bool :=
  match code with
  | 2 => y.rd (ent (0x3860 + i) 1) == 0
  | 3 => decide (y.rd (ent (0x3470 + i) 1) ≤ 1)
  | 7 => y.rd (ent (0x2488 + i) 1) == 0
  | _ => true

/-- A test starts. Without a context that latches frames there is no boundary to wait for: the unit is fenced at once. -/
def Sys.startTest (y : Sys) (w : Writer) (code i : Nat) : Status × Sys :=
  if testInstances code ≤ i then (.range, y)
  else if y.boot.test.isSome then (.busy, y)
  else if !y.testable code i then (.state, y)
  else
    match y.lacking code i with
    | some b => (.overbudget, y.overEvent w b)
    | none =>
      let y := Sys.wr { y with boot := { y.boot with test := some (code, i) } } (ent 0x1301 2) 1
      (.ok, if (List.range 16).any y.latching then y else y.testFence)

/-- The writer of a command that names none: an Integrator on no path. -/
def integrator : Writer := { path := 0, role := .integrator, session := 0 }

/-- A start by a command of its own: the dictionary serves in a running module alone. -/
def Sys.selfTest (y : Sys) (code i : Nat) : Sys := if y.boot.phase = .running then (y.startTest integrator code i).2 else y

def execSelfTestReplica (system : Bool) (s : State) : Host.Outcome State Fault Refusal :=
  onSys s fun _ y => y.selfTest 1 (if system then 1 else 0)
def execSelfTestTroupe (troupe : Fin 24) (s : State) : Host.Outcome State Fault Refusal :=
  onSys s fun _ y => y.selfTest 2 troupe.val
def execSelfTestRfe (rfe : Fin 8) (s : State) : Host.Outcome State Fault Refusal :=
  onSys s fun _ y => y.selfTest 3 rfe.val
def execSelfTestFuse (s : State) : Host.Outcome State Fault Refusal := onSys s fun _ y => y.selfTest 4 0
def execSelfTestMram (s : State) : Host.Outcome State Fault Refusal := onSys s fun _ y => y.selfTest 5 0
def execSelfTestSensors (s : State) : Host.Outcome State Fault Refusal := onSys s fun _ y => y.selfTest 6 0
def execSelfTestLoopback (quad : Fin 8) (s : State) : Host.Outcome State Fault Refusal :=
  onSys s fun _ y => y.selfTest 7 quad.val

/-- SELF_TEST_DONE: the result, which for a Troupe or a raw front end is a retest's too. SENSORS passes where no sensor disagrees with its
neighbours (R664). -/
def execSelfTestDone (passed : Bool) (detail : BitVec 32) (s : State) : Host.Outcome State Fault Refusal :=
  onSys s fun _ y =>
    match y.boot.test with
    | none => y
    | some (code, i) =>
      let ok := if code = 6 then (List.range 73).all fun n => y.excluded n || !y.disagrees n (y.sensor n) else passed
      let y := y.testEnd (if ok then 0 else 1) detail.toNat
      match code with
      | 2 => y.troupeRetested i ok
      | 3 => y.rfeRetested i ok
      | _ => y

end Sys2Proof.Machine
end

