-- ==== Sys2Proof/Machine/TwinOps.lean ====
section
/-!
DEFINITION. Sys2Proof/Machine/TwinOps.lean: twin pairs (R693 to R707): which entries are mirrored, what PRIMARY forwards, when SHADOW is
armed, takeover and resynchronisation. The octets of a message are this model's own (log entry 22).
-/

namespace Sys2Proof.Machine

/-- Status codes (R133). -/
def Status.code : Status → Nat
  | .ok => 0x00 | .staged => 0x01 | .superseded => 0x02 | .noEntry => 0x10 | .noSubindex => 0x11 | .readOnly => 0x12 | .writeOnly => 0x13
  | .type => 0x14 | .range => 0x15 | .role => 0x16 | .exhausted => 0x17 | .state => 0x18 | .overbudget => 0x19 | .scope => 0x1A | .late => 0x1B
  | .auth => 0x20 | .session => 0x21 | .busy => 0x23 | .timeout => 0x24 | .aborted => 0x25 | .protocol => 0x26

/-! ## Roles and states (0x4C01) -/

def Sys.twinOn (y : Sys) : Bool := y.rdBit (ent 0x2010 1) 4
/-- Twin index (R82). -/
def twinIndex (straps : Nat) : Nat := straps / 8 % 2
def Sys.twinRole (y : Sys) : Nat := y.rd (ent 0x4C01 2)
def Sys.twinState (y : Sys) : Nat := y.rd (ent 0x4C01 3)
def Sys.setTwinState (y : Sys) (n : Nat) : Sys := y.wr (ent 0x4C01 3) n

/-- The link to the twin. -/
def Sys.twinLink (y : Sys) : Option Nat := (List.range 4).find? fun k => y.rd (ent (0x4C08 + k) 2) == 2
def Sys.twinUp (y : Sys) : Bool := match y.twinLink with | some k => y.garosUp k | none => false

/-! ## Mirroring (R695, R696) -/

/-- The mirrored entries. -/
def mirrored (k : Nat) : Bool :=
  let i := k / 256
  let s := k % 256
  let in_ (a b : Nat) : Bool := decide (a ≤ i) && decide (i ≤ b)
  (i == 0x1100 && (s == 1 || s == 2)) || in_ 0x1108 0x110B || in_ 0x2320 0x233F || (in_ 0x2500 0x26FF && !(in_ 0x2500 0x252F && s == 0x11)) ||
  (in_ 0x3000 0x47FF && !(in_ 0x4190 0x4197 && ((2 ≤ s && s ≤ 4) || s == 0x0A)) && !(in_ 0x4198 0x419F && 2 ≤ s && s ≤ 4)) ||
  (in_ 0x4800 0x48FF && !(in_ 0x4800 0x483F && (s == 8 || s == 9))) || (in_ 0x4960 0x496F && (s == 1 || s == 4))

/-- Rank of a role. -/
def Role.rank : Role → Nat
  | .observer => 0 | .operator => 1 | .integrator => 2 | .custodian => 3 | .kilvan => 4

/-- Octets of a value on a link: index, subindex, length, value. -/
def memberOctets (m : Nat × Bytes) : Bytes := le 2 (m.1 / 256) ++ le 1 (m.1 % 256) ++ le 4 m.2.length ++ m.2

/-- Octets of a unit: role, stamp, group tag, scope, target, path rank, session, members. -/
def CommitUnit.octets (u : CommitUnit) : Bytes :=
  le 1 (Role.rank u.role) ++ le 8 u.stamp ++ le 1 u.gtag ++ le 1 u.scope.code.1 ++ le 1 u.scope.code.2 ++
    le 4 (u.target.getD 0xFFFFFFFF) ++ le 1 u.path ++ le 2 u.session ++ u.members.flatMap memberOctets

/-- The units of a pair go to SHADOW while it is heard. -/
def Sys.mirroring (y : Sys) : Bool := y.twinRole == 1 && (y.twinState == 2 || y.twinState == 3) && y.twinUp

/-- Frame or output index at which a unit becomes live. -/
def Sys.liveAt (y : Sys) (u : CommitUnit) : Nat :=
  match u.scope with
  | .context x => u.target.getD ((((y.ctx x).last.map Prod.snd).getD 0 + 1) % 2 ^ 32)
  | .output c => (y.rd (ent (0x4140 + c) 2) + 1) % 2 ^ 32
  | _ => 0

/-- PRIMARY forwards the mirrored members of a unit; its writer waits for SHADOW (R696). -/
def Sys.mirrorUnit (y : Sys) (u : CommitUnit) (st : Status) : Bool × Sys :=
  let m := u.members.filter fun p => mirrored p.1
  if m.isEmpty || !y.mirroring then (false, y)
  else
    let n := (y.twin.sent + 1) % 2 ^ 32
    let y := y.onTwin fun t => { t with sent := n, waits := t.waits ++ [(n, y.up, u, st)] }
    (true, y.controlTwin .mirror (le 4 n ++ le 4 (y.liveAt u) ++ CommitUnit.octets { u with members := m }))

/-! ## Arming (R35, R699) -/

/-- First 8 octets of the configuration digest (R698). -/
def Sys.configDigest (y : Sys) : Bytes :=
  let on := (List.range 16).filter y.view.active
  (sha256 (on.flatMap fun x =>
    slice (y.rdB (ent (0x3840 + y.view.lookSlot x) 2)) 0 32 ++ le 1 (match y.view.calSlot x with | some c => y.rd (ent (0x3C00 + c) 0x0A) | none => 0))).take 8

/-- Causes for which SHADOW is not armed, from the partner's last heartbeat: FIRMWARE, CONFIG, TIME, SYNC, LINK, EXHAUSTED. -/
def Sys.unarmedNow (y : Sys) : Nat :=
  match y.twinLink with
  | none => 16
  | some k =>
    let h := slice (y.link k).heard 0 96
    let late := y.twin.waits.any fun w => decide (w.2.1 + 1000000 < y.up)
    let locked := if y.twinRole = 2 then y.tbState == 2 && y.tbSource == 5 else rdLe h 6 1 == 2
    bitsOf ((if slice h 20 8 != slice y.boot.fwHash 0 8 then [0] else []) ++ (if slice h 28 8 != y.configDigest then [1] else []) ++
      (if !locked then [2] else []) ++
      (if (y.twinState != 2 && y.twinState != 4) || late || (y.twinRole == 2 && (rdLe h 3 1).testBit 3) then [3] else []) ++
      (if y.twinState = 4 || !y.garosUp k then [4] else []) ++ (if y.twin.exhausted || (rdLe h 3 1).testBit 5 then [5] else []))

/-- The causes are shown, and a change is told. -/
def Sys.rearm (y : Sys) : Sys :=
  if y.twinRole = 0 ∨ y.twinState = 1 then y
  else
    let c := y.unarmedNow
    let was := y.rd (ent 0x4C01 4)
    if c = was then y
    else if c = 0 then (y.wr (ent 0x4C01 4) 0).raise 0x1409 255 (ev [(0, 1, y.twinRole)])
    else (y.wr (ent 0x4C01 4) c).raise 0x140A 255 (ev [(0, 1, c)])

/-- SHADOW tells PRIMARY the status of the mirrored unit of this number; a unit of a resynchronisation carries 0 (R696). -/
def Sys.mirrorAnswer (y : Sys) (number : Nat) (st : Status) : Sys :=
  Sys.rearm (Sys.controlTwin (if number = 0 then y else y.onTwin fun t => { t with applied := number }) .mirrorAck (le 4 number ++ le 1 st.code))

def Sys.armed (y : Sys) : Bool := y.twinState == 2 && y.rd (ent 0x4C01 4) == 0

/-! ## Takeover (R702 to R704) -/

/-- Event 0x140B: new role, ORPHAN, microseconds since the last heartbeat. -/
def Sys.lostEvent (y : Sys) (role : Nat) (orphan : Bool) : Sys :=
  let heard := match y.twinLink with | some k => (y.link k).heardAt | none => y.up
  y.raise 0x140B 255 (ev [(0, 1, role), (1, 1, if orphan then 1 else 0), (4, 4, (y.up - heard) / 1000)])

/-- Step 1: PRIMARY in SOLO, the time base in HOLDOVER; lists that ended after the last heartbeat are late (R703). -/
def Sys.becomePrimary (y : Sys) : Sys :=
  let heard := match y.twinLink with | some k => (y.link k).heardAt | none => y.up
  let y := y.sourceFault 5 0
  let y := ((y.wr (ent 0x4C01 2) 1).setTwinState 1).wr (ent 0x4C01 4) 0
  let y := y.onTwin fun t => { t with since := y.t96, taking := some y.up, waits := [], exhausted := false, step := 0 }
  let y := (List.range 8).foldl (fun (y : Sys) (x : Nat) =>
    let c := y.ctx x
    y.setCtx x { c with expo := c.expo.map fun e =>
      match e.sentAt with
      | some t => if heard < t then { e with late := true } else e
      | none => if (List.range 8).any (fun n => (y.port n).lists.any fun l => l.ctx == x && l.frame == e.num) then { e with late := true } else e }) y
  Sys.showTime y.reselect

/-- Step 2, the takeover instant: the duties of PRIMARY are driven; each context's first list is sent in full; recordings open at the latch
points that follow, where Record on takeover says so. -/
def Sys.takeoverInstant (o : Otp) (y : Sys) : Sys :=
  let y := Sys.felleyTransmit (y.onTwin fun t => { t with taking := none, open_ := [] })
  let y := (y.inc (ent 0x4C01 8)).wr (ent 0x4C01 9) y.t96
  let y := (List.range 8).foldl (fun (y : Sys) (x : Nat) => y.setCtx x { y.ctx x with fullList := true }) y
  let y := if y.rd (ent 0x4C00 7) = 1 then y
    else (List.range 16).foldl (fun (y : Sys) (x : Nat) =>
      if (y.recording x).slot.isNone then y.setRec x { y.recording x with tried := true } else y) y
  Sys.ptpRestart ((List.range 8).foldl (fun (y : Sys) (n : Nat) => y.portState n) y) o.dieId

/-- TAKEOVER (0x4C00:08): refused with STATE unless ORPHAN. -/
def Sys.twinTakeover (y : Sys) : Status × Sys :=
  if y.twinState ≠ 5 then (.state, y) else (.ok, y.becomePrimary.lostEvent 1 false)

/-! ## Resynchronisation (R705) -/

/-- A step is reached. -/
def Sys.resyncStep (y : Sys) (n : Nat) : Sys :=
  Sys.raise (y.onTwin fun t => { t with step := n }) 0x140D 255 (ev [(0, 1, n), (1, 1, y.twin.cause)])

/-- Step 1: SHADOW in SYNCING asks PRIMARY for the values. The outputs are off until step 3 unless they are being driven. -/
def Sys.resyncStart (y : Sys) (o : Otp) (cause : Nat) : Sys :=
  let y := ((y.wr (ent 0x4C01 2) 2).setTwinState 3).felleySilent
  let y := y.onTwin fun t => { t with cause := cause, taking := none, waits := [], exhausted := false, open_ := [] }
  let y := (List.range 8).foldl (fun (y : Sys) (n : Nat) => y.portState n) y
  Sys.rearm ((Sys.sourcesChanged ((y.resyncStep 1).ptpRestart o.dieId)).controlTwin .resync [1])

/-- RESYNC (0x4C00:08): refused with STATE unless SHADOW. -/
def Sys.twinResync (y : Sys) (o : Otp) : Status × Sys := if y.twinRole ≠ 2 then (.state, y) else (.ok, y.resyncStart o 0)


/-- TAKEOVER_INSTANT (R702 step 2). -/
def execTakeoverInstant (s : State) : Host.Outcome State Fault Refusal :=
  onSys s fun o y => if y.twin.taking.isSome then y.takeoverInstant o else y

end Sys2Proof.Machine
end

