-- ==== Sys2Proof/Machine/Write.lean ====
section
/-!
DEFINITION. Sys2Proof/Machine/Write.lean: what a write of each entry does when it is applied (R11, R123, R131 to R133): one function for every
path, called by the commit point and by every command that stands for a write.
-/

namespace Sys2Proof.Machine

/-! ## Event-log cursors (R754, R755) -/

/-- The source of a request that uses session 0: CAN port and node, UDP address and port, the mailbox pair, the console (R152). -/
def sourceKey (path source : Nat) : Nat := path * 2 ^ 64 + source

def Sys.session? (y : Sys) (id : Nat) : Option Session := if id = 0 then none else y.den.sessions.find? fun s => s.id == id
def Sys.setSession (y : Sys) (s : Session) : Sys := y.onDen fun d => { d with sessions := d.sessions.map fun t => if t.id == s.id then s else t }

/-- A cursor starts at the acknowledged sequence. -/
def Sys.cursorOf (y : Sys) (path source session : Nat) : Nat :=
  match y.session? session with
  | some s => s.cursor
  | none => (y.den.cursors0.lookup (sourceKey path source)).getD (y.rd (ent 0x1300 4))

def Sys.setCursor (y : Sys) (path source session v : Nat) : Sys :=
  match y.session? session with
  | some s => y.setSession { s with cursor := v }
  | none => y.onDen fun d =>
      { d with cursors0 := (sourceKey path source, v) :: d.cursors0.filter fun p => p.1 != sourceKey path source }

/-- ACKNOWLEDGE: the acknowledged sequence becomes the writer's cursor. -/
def Sys.acknowledge (y : Sys) (path source session : Nat) : Sys := Sys.updateInt (y.wr (ent 0x1300 4) (y.cursorOf path source session))

/-- ERASE: the ring is emptied, and event 0x0133 is the first record after it. Records that wait for their write come after it. -/
def Sys.eraseLog (y : Sys) (session : Nat) : Sys :=
  let first := y.rd (ent 0x1300 1)
  let cred := ((y.session? session).map (·.credential)).getD 0
  let y : Sys := { y with mram := { y.mram with ring := [] } }
  let y := y.onDen fun d => { d with sessions := d.sessions.map (fun s => { s with cursor := first }), cursors0 := d.cursors0.map fun p => (p.1, first) }
  let y := (y.wr (ent 0x1300 2) first).wr (ent 0x1300 4) first
  let r : EventRecord := ⟨y.t96, 0x0133, severity 0x0133, 255, ev [(0, 4, first), (4, 4, cred)]⟩
  Sys.updateInt { y with log := { y.log with pending := r :: y.log.pending } }

/-! ## The parameter store (R124) -/

/-- Octets of a number of the type (R6, R9). -/
def EntryType.octets : EntryType → Nat
  | .u8 => 1 | .u16 => 2 | .enum => 2 | .u32 => 4 | .i32 => 4 | .f32 => 4 | .u64 => 8 | .t96 => 12 | .bits n => n | .str => 0 | .blob _ => 0

/-- The storable entries in index order: those RW and RWC that their tables do not exempt (R123, R124). -/
def storedKeys : List Nat :=
  ((List.range 0x3D).map (0x11 + ·)).flatMap fun p => (List.range 256).flatMap fun i => (dictPage p).flatMap fun r =>
    if r.stored && (r.access == .rw || r.access == .rwc) && r.holds (256 * p + i) then
      (List.range (r.last + 1 - r.first)).map fun s => ent (256 * p + i) (r.first + s)
    else []

/-- The live value of an entry, as octets. -/
def Sys.entryOctets (y : Sys) (k : Nat) : Bytes :=
  match keyDef k with
  | some r => (match r.type with | .str => y.rdB k | .blob _ => y.rdB k | t => le t.octets (y.rd k))
  | none => []

/-- The storable entries with their live values (R124). -/
def Sys.storable (y : Sys) : List (Nat × Bytes) := storedKeys.map fun k => (k, y.entryOctets k)

/-- STORE begins: the values that stand are saved into the copy not in force. -/
def Sys.storeBegin (y : Sys) : Sys := (y.onDen fun d => { d with saving := some (y.rd (ent 0x1100 6), y.storable) }).wr (ent 0x1104 2) 1

/-- 0x1104:01: BUSY while a save runs. -/
def Sys.storeCommand (y : Sys) (v : Nat) : Status × Sys :=
  if y.den.saving.isSome then (.busy, y)
  else if v = 1 then (.ok, y.storeBegin)
  else (.ok, { y with mram := { y.mram with store := [] } })

/-- PARAMETER_STORE_DONE: the copies switch by one MRAM write (R124). -/
def Sys.storeDone (y : Sys) : Sys :=
  match y.den.saving with
  | none => y
  | some l =>
    let y : Sys := { y with mram := { y.mram with store := l.2, copy := 1 - y.mram.copy, broken := false } }
    ((y.onDen fun d => { d with saving := none }).wr (ent 0x1104 2) 2).wr (ent 0x1104 3) l.1

def execParameterStoreDone (s : State) : Host.Outcome State Fault Refusal := onSys s fun _ y => y.storeDone

/-! ## Addresses of the UDP path (R148, R160) -/

/-- Sessions of a path close. -/
def Sys.closePath (y : Sys) (p : Nat → Bool) : Sys :=
  let y := y.onDen fun d =>
    { d with sessions := d.sessions.filter (fun s => isFar s.source || !p s.path),
             transfers := d.transfers.filter fun t => isFar t.source || !p t.path }
  y.wr (ent 0x1103 1) (y.den.sessions.filter (·.established)).length

/-- A present address: static, or the lease that is held, or none before a lease; every UDP session closes. `leased`: DHCPV4 was the mode already. -/
def Sys.addressChanged (y : Sys) (leased : Bool) : Sys :=
  let a := if y.rd (ent 0x1101 2) = 0 then y.rdB (ent 0x1101 3) else if leased then y.rdB (ent 0x1101 8) else List.replicate 4 0
  Sys.closePath (y.wrB (ent 0x1101 8) a) (· == 3)

/-- DHCPV4_LEASE (R160): a lease, or its loss. -/
def execDhcpv4Lease (address : Option (BitVec 32)) (s : State) : Host.Outcome State Fault Refusal :=
  onSys s fun _ y =>
    if y.rd (ent 0x1101 2) ≠ 1 then y
    else
      let a := match address with | some w => le 4 w.toNat | none => List.replicate 4 0
      if a = y.rdB (ent 0x1101 8) then y else Sys.closePath (y.wrB (ent 0x1101 8) a) (· == 3)

/-! ## What follows a value (R219, R435, R493, R514, R545, R555, R632) -/

/-- What follows when an entry has taken a new value; `was` is the state before. -/
def Sys.entryLive (o : Otp) (was y : Sys) (k : Nat) : Sys :=
  let i := k / 256
  let s := k % 256
  let in_ (b n : Nat) : Bool := decide (b ≤ i) && decide (i < b + n)
  if i = 0x1101 then (if 2 ≤ s ∧ s ≤ 5 then y.addressChanged (was.rd (ent i 2) == 1) else if s = 1 ∧ y.rd k = 0 then y.closePath (· == 3) else y)
  else if i = 0x1102 then (if s = 1 ∧ y.rd k = 0 then y.closePath (· == 1) else y)
  else if in_ 0x1108 4 && s == 1 then
    let n := i - 0x1108
    if y.rd k = was.rd k then y
    else
      let y := (y.wr (ent i 7) (if y.rd k = 1 then 0 else 3)).onDen fun d => { d with canQueued := terase n d.canQueued, canDropped := terase n d.canDropped }
      if y.rd k = 1 then y else y.closePath (· == 4 + n)
  else if i = 0x1310 then y.updateInt
  else if i = 0x2002 then (if y.supplyHas .warning then y.shedNow else y)
  else if i = 0x2200 ∧ s = 4 then was.ceilingWritten .t (y.rd k)
  else if i = 0x2200 ∧ s = 5 then was.ceilingWritten .s (y.rd k)
  else if i = 0x2301 then Sys.showTime (if s = 1 ∨ s = 2 then y.sourcesChanged else y)
  else if i = 0x2302 then y.ptpRestart o.dieId
  else if in_ 0x2320 32 && s == 1 then
    let n := i - 0x2320
    if y.rd k = was.rd k then y else { y with tios := terase n y.tios }
  else if in_ 0x2320 32 && (s == 3 || s == 4) then
    -- the output resumes at its first aligned edge after the commit (R219)
    let n := i - 0x2320
    if y.rd k = was.rd k then y else y.setTio n { y.tio n with last := none }
  else if in_ 0x2600 24 && (s == 1 || s == 2) then y.posRestart (i - 0x2600)
  else if in_ 0x3028 8 && s == 1 then y.portModeWritten (i - 0x3028) (was.rd k)
  else if in_ 0x3C00 8 then (if 1 ≤ s ∧ s ≤ 7 then y.wrB (ent i 0x0C) (y.staged (i - 0x3C00) 0).hash else y)
  else if in_ 0x3800 16 || in_ 0x3C10 16 then y.releaseUnused
  else if in_ 0x4100 24 then y.followChannel (i - 0x4100) was.view
  else if in_ 0x4120 24 then y.followChannel (i - 0x4120) was.view
  else if in_ 0x4180 4 && s == 1 then
    let n := i - 0x4180
    if y.rd k = was.rd k then y
    else if y.rd k = 1 then y.wr (ent i 2) 1 else ({ y with sdis := terase n y.sdis }).wr (ent i 2) 0
  else if in_ 0x4188 2 && s == 2 then
    let p := i - 0x4188
    if y.rd k = 0 then y.edpOff p 0
    else if y.rd (ent i 0x0C) = 0 ∨ y.rd (ent i 0x0C) = 5 then y.edpPower p else y
  else if in_ 0x4170 16 || in_ 0x4188 2 || in_ 0x4190 8 then upto 8 (fun n y => y.showStream n) y.showSdo
  else if in_ 0x4800 64 && (s == 8 || s == 9) then y.setZc (i - 0x4800) { y.zc (i - 0x4800) with next := 0 }
  else if in_ 0x4900 16 && s == 1 then
    let q := i - 0x4900
    if y.rd k = was.rd k then y
    else if y.rd (ent (0x4910 + q) 1) = 0 then y.wr (ent (0x4910 + q) 1) 3 else y.queueReset q
  else Sys.contextLive was y k

/-- An entry takes a value at its commit. -/
def Sys.putLive (o : Otp) (y : Sys) (k : Nat) (v : Bytes) : Sys := Sys.entryLive o y (y.putEntry k v) k

/-! ## Entries that act (R11) -/

/-- A status with the state after it, as a result that programs no fuse. -/
def plainR (p : Status × Sys) : Result := (p.1, [], p.2)
/-- An action that cannot be refused. -/
def okR (y : Sys) : Result := (.ok, [], y)

/-- 0x2003:01 (R113): WARM and COLD run once the answer is out. -/
def Sys.resetCommand (y : Sys) (v : Nat) : Result :=
  if v = 3 then plainR (y.domainReset (y.rd (ent 0x2003 2))) else okR { y with boot := { y.boot with due := some v } }

/-- 0x2700:02. -/
def Sys.powerCommand (y : Sys) (v : Nat) : Result :=
  if v = 1 then okR (y.wakeStandby 0 0) else plainR (y.powerWrite (v == 3))

/-- 0x4948:01: CREATE and ATTACH wait for every drive port; a drive that is absent is reported so by its controller. -/
def Sys.volumeCommand (o : Otp) (y : Sys) (v : Nat) : Result :=
  match v with
  | 1 => plainR (y.volumeAttach o 15 true)
  | 2 => plainR (y.volumeAttach o 15 false)
  | 3 => plainR y.volumeDetach
  | _ => plainR (y.volumeRebuild o)

/-- 0x4900 + q:08. -/
def Sys.queueCommand (y : Sys) (q v : Nat) : Result := if v = 1 then plainR (y.queueRestart q) else okR (y.queueReset q)

/-- 0x4B00:09. -/
def Sys.rankCommand (y : Sys) (v : Nat) : Result :=
  match v with | 1 => plainR y.rankMigrate | 2 => plainR y.rankRetest | _ => plainR y.rankScan

/-- 0x4400 + e:17 (R486): mark, 1 KEEP or 2 RELEASE, frame. -/
def Sys.markCommand (y : Sys) (e : Nat) (v : Bytes) : Result :=
  if v.length ≠ 8 then y.refuse .type
  else if 1 < rdLe v 0 1 ∨ rdLe v 1 1 < 1 ∨ 2 < rdLe v 1 1 ∨ rdLe v 2 2 ≠ 0 then y.refuse .range
  else if rdLe v 1 1 = 1 then plainR (y.markKeep e (rdLe v 0 1) (rdLe v 4 4)) else plainR (y.markRelease e (rdLe v 0 1))

/-- 0x1300:08: ERASE is a Custodian's. -/
def Sys.logCommand (y : Sys) (w : Writer) (v : Nat) : Result :=
  if v = 1 then okR (y.acknowledge w.path.val 0 w.session.toNat)
  else if Role.rank w.role < 3 then y.refuse .role
  else okR (y.eraseLog w.session.toNat)

def ctxModeOf (n : Nat) : CtxMode := match n with | 0 => .disabled | 1 => .run | _ => .test

/-- Identity, roles, log and tests (pages 0x10 to 0x14). -/
def Sys.actIdentity (o : Otp) (y : Sys) (w : Writer) (i s : Nat) (v : Bytes) : Option Result :=
  let n := unLe v
  match i with
  | 0x1001 => if s = 2 then some (y.transit o w n) else none
  | 0x1002 => if s = 1 then some (y.rekey o n) else if s = 4 then some (y.installCertificate o v) else none
  | 0x1003 => if s = 1 then some (y.raiseEpoch o n) else none
  | 0x1104 => if s = 1 then some (plainR (y.storeCommand n)) else none
  | 0x1200 => if s = 1 then some (y.writeRoot o w v) else none
  | 0x1210 => some (y.writeCredential o w (s - 1) v)
  | 0x1211 => if s = 1 then some (y.revoke n) else none
  | 0x1300 =>
    if s = 5 then some (okR (y.setCursor w.path.val 0 w.session.toNat n)) else if s = 8 then some (y.logCommand w n) else none
  | 0x1301 => if s = 1 then some (plainR (y.startTest w (rdLe v 0 1) (rdLe v 1 1))) else none
  | 0x1404 => if s = 1 then some (y.writeEncryption n) else some (y.writeRecipient (s - 2) v)
  | 0x1406 => if s = 1 then some (y.attest v) else none
  | _ => none

/-- Supply, time, lanes, position and power (pages 0x20 to 0x27). -/
def Sys.actSystem (o : Otp) (y : Sys) (w : Writer) (i s : Nat) (v : Bytes) : Option Result :=
  let n := unLe v
  if i = 0x2003 ∧ s = 1 then some (y.resetCommand n)
  else if i = 0x2300 ∧ s = 0x0C then some (okR (y.setTimeOfDay n))
  else if i = 0x2310 then
    match s with
    | 1 => some (plainR (y.submitLaunch v w.session.toNat w.path.val))
    | 2 => some (plainR (y.cancelOwn n w.session.toNat))
    | 9 => some (plainR (y.cancelAny n))
    | 0x0A => some (plainR (y.cancelEvery n))
    | _ => none
  else if 0x2400 ≤ i ∧ i < 0x2450 then
    match s with
    | 1 => some (plainR (y.laneRequest (i - 0x2400) n))
    | 5 => some (okR (y.lanePolarity (i - 0x2400) n))
    | 7 => some (okR (y.laneAdapt (i - 0x2400) n))
    | 0x0E => some (plainR (y.eyeScan (i - 0x2400) v))
    | _ => none
  else if 0x2480 ≤ i ∧ i < 0x2488 then
    match s with
    | 1 => some (plainR (y.ingestRate (i - 0x2480) n))
    | 5 => some (plainR (y.retrain (i - 0x2480) n))
    | _ => none
  else if 0x2488 ≤ i ∧ i < 0x2490 then
    match s with
    | 1 => some (okR (y.quadFunction o.dieId (i - 0x2488) n))
    | 2 => if y.quadFn (i - 0x2488) = .prbs then none else some (y.refuse .state)
    | 5 => some (okR (Sys.prbsOut (y.wr (ent i 5) n) (i - 0x2488)))
    | 0x0A => some (plainR (y.retrain (8 + (i - 0x2488)) n))
    | _ => none
  else if 0x2600 ≤ i ∧ i < 0x2618 then
    match s with
    | 0x0B => some (plainR (y.posArm (i - 0x2600) n))
    | 0x0C => some (okR (y.posCorrect (i - 0x2600) n))
    | 0x0D => some (okR (y.posShift (i - 0x2600) n))
    | 0x1F => some (plainR (y.posClear (i - 0x2600) n))
    | _ => none
  else if i = 0x2700 ∧ s = 2 then some (y.powerCommand n)
  else none

/-- Contexts, looks, calibration and tables (pages 0x30 to 0x3C). -/
def Sys.actFrame (o : Otp) (y : Sys) (i s : Nat) (v : Bytes) : Option Result :=
  let n := unLe v
  if 0x3000 ≤ i ∧ i < 0x3008 ∧ s = 1 then some (okR (y.setCtxMode (i - 0x3000) (ctxModeOf n)))
  else if 0x3028 ≤ i ∧ i < 0x3030 ∧ s = 6 then some (plainR (y.hostTransaction (i - 0x3028) v))
  else if 0x3840 ≤ i ∧ i < 0x3850 then
    match s with
    | 1 => some (y.writeImage o (i - 0x3840) v)
    | 7 => some (plainR (y.keepResident (i - 0x3840) n))
    | _ => none
  else if 0x3C00 ≤ i ∧ i < 0x3C08 then
    match s with
    | 8 => some (commitCal o y (i - 0x3C00))
    | 0x0D => some (plainR (y.revertStaging (i - 0x3C00) n))
    | _ => none
  else if 0x3C40 ≤ i ∧ i < 0x3C80 then
    let e := i - 0x3C40
    match s with
    | 1 => some (plainR (y.tableHeader e v))
    | 2 => some (plainR (y.tableData e v))
    | 3 => some (plainR (y.tableGenerate e v))
    | 4 => some (plainR (y.tableSeal e n))
    | 7 => some (plainR (y.tablePersistent e n))
    | _ => none
  else none

/-- Codec, rings, media, DRAM, twins and Felley (pages 0x44 to 0x4D). -/
def Sys.actStore (o : Otp) (y : Sys) (i s : Nat) (v : Bytes) : Option Result :=
  let n := unLe v
  if 0x4400 ≤ i ∧ i < 0x4410 then
    match s with
    | 0x17 => some (y.markCommand (i - 0x4400) v)
    | 0x18 => some (okR (y.recover (i - 0x4400) (if n = 0 then none else some (n - 1)) false))
    | _ => none
  else if 0x4440 ≤ i ∧ i < 0x4448 ∧ s = 8 then some (plainR (y.seek (i - 0x4440) n))
  else if 0x4848 ≤ i ∧ i < 0x4850 then
    match s with
    | 2 => some (plainR (y.ringHold (i - 0x4848) n))
    | 7 => some (if v.length = 8 then plainR (y.ringExtract o (i - 0x4848) (rdLe v 0 4) (rdLe v 4 4)) else y.refuse .type)
    | _ => none
  else if 0x4900 ≤ i ∧ i < 0x4910 ∧ s = 8 then some (y.queueCommand (i - 0x4900) n)
  else if i = 0x4948 ∧ s = 1 then some (y.volumeCommand o n)
  else if i = 0x4948 ∧ s = 0x0D then some (plainR (y.clipDelete n))
  else if i = 0x4950 ∧ s = 8 then some (plainR (y.lostClear n))
  else if i = 0x4B00 ∧ s = 9 then some (y.rankCommand n)
  else if i = 0x4B00 ∧ s = 0x0C then some (if n = 1 then okR y.trainingClear else y.refuse .range)
  else if i = 0x4C00 ∧ s = 8 then some (if n = 1 then plainR y.twinTakeover else plainR (y.twinResync o))
  else if i = 0x4D00 ∧ s = 6 then some (if n = 1 then plainR y.felleyCalibrate else okR y.felleyRestart)
  else none

/-- The effect of a write of entry k: an entry that acts does so; any other keeps its own rules and takes the value at its commit. With `ranges` its
range is judged as well; at the commit instant it is not (R132). -/
def Sys.entryEffect (o : Otp) (y : Sys) (w : Writer) (k : Nat) (v : Bytes) (ranges : Bool) : Result :=
  let i := k / 256
  let s := k % 256
  match y.actIdentity o w i s v <|> y.actSystem o w i s v <|> y.actFrame o i s v <|> y.actStore o i s v with
  | some r => r
  | none =>
    let st := y.ownRule k v
    if st = .ok ∨ (st = .range ∧ !ranges) then okR (y.putLive o k v) else y.refuse st

/-- After the table of entry k has been checked, at arrival. -/
def Sys.entryWrite (o : Otp) (y : Sys) (w : Writer) (k : Nat) (v : Bytes) : Result := y.entryEffect o w k v true
/-- At the commit instant. -/
def Sys.entryApply (o : Otp) (y : Sys) (w : Writer) (k : Nat) (v : Bytes) : Result := y.entryEffect o w k v false

end Sys2Proof.Machine
end

