-- ==== Sys2Proof/Machine/Reply.lean ====
section
/-!
DEFINITION. Sys2Proof/Machine/Reply.lean: what goes back to a requester: responses with their trailers (R133, R141, R142, R155), console
lines (R150), and the closing of sessions.
-/

namespace Sys2Proof.Machine

/-! ## Console lines -/

/-- A hexadecimal digit in ASCII. -/
def hexDigit (n : Nat) : Byte := BitVec.ofNat 8 (if n < 10 then 48 + n else 55 + n)
/-- `w` hexadecimal digits, most significant first. -/
def hexNat (w n : Nat) : Bytes := (List.range w).map fun i => hexDigit (n / 16 ^ (w - 1 - i) % 16)
/-- Octets as pairs of digits. -/
def hexBytes (b : Bytes) : Bytes := b.flatMap fun c => hexNat 2 c.toNat
/-- A console line ends with CR LF. -/
def Sys.sayLine (y : Sys) (b : Bytes) : Sys := y.send (.console (b ++ [13, 10]))
/-- `ER` and a status. -/
def Sys.sayError (y : Sys) (st : Status) : Sys := y.sayLine ([69, 82, 32] ++ hexNat 2 st.code)
/-- `OK` and the rest of the line. -/
def Sys.sayOk (y : Sys) (b : Bytes) : Sys := y.sayLine ([79, 75] ++ b)

/-! ## Sessions -/

/-- 0x1103:01 follows the established sessions. -/
def Sys.showSessions (y : Sys) : Sys := y.wr (ent 0x1103 1) (y.den.sessions.filter (·.established)).length

/-- A session closes with its group and its transfers (R134, R156). -/
def Sys.closeSession (y : Sys) (id : Nat) : Sys :=
  Sys.showSessions (y.onDen fun d => { d with sessions := d.sessions.filter (fun s => s.id != id), transfers := d.transfers.filter fun t => t.session != id })

/-- The MAC (R155): over the header word and the body up to the MAC. -/
def macOf (key : Bytes) (word : Nat) (body : Bytes) : Bytes := (hmac key (le 4 word ++ body)).take 8

/-- An authenticated frame to the holder of a session: trailer of session, counter and MAC; on session 0 counter and MAC are 0. The session closes
with the frame that carries the module's last counter. -/
def Sys.reply (y : Sys) (path source node session : Nat) (func : Func) (tag : Nat) (payload : Bytes) : Sys :=
  let b := le 2 (payload.length + 16) ++ payload
  if session = 0 then y.frameOut path source node func tag (b ++ List.replicate 14 0)
  else
    match y.session? session with
    | none => y
    | some s =>
      let n := s.counterOut + 1
      let y := y.setSession { s with counterOut := n }
      let body := b ++ le 2 s.id ++ le 4 n
      let y := y.frameOut path source node func tag (body ++ macOf s.keyOut (headerWord func node y.node tag) body)
      if 0xFFFFFFFF ≤ n then y.closeSession s.id else y

/-- A RESPONSE (R142): operation, status, entry, position of a refused member, value. -/
def Sys.response (y : Sys) (path source node session tag op : Nat) (st : Status) (k pos : Nat) (value : Bytes) : Sys :=
  y.reply path source node session .response tag
    (le 1 op ++ le 1 st.code ++ le 2 (k / 256) ++ le 1 (k % 256) ++ le 1 pos ++ le 2 value.length ++ value)

/-- What another member of the array is told of its unit (R684): number, status, entry, place of a refused member, value. -/
def Sys.frontReply (y : Sys) (via : Nat × Nat) (st : Status) (k pos : Nat) (value : Bytes) : Sys :=
  y.control via.1 .frontAnswer (le 4 via.2 ++ le 1 st.code ++ le 2 (k / 256) ++ le 1 (k % 256) ++ le 1 pos ++ value)

/-- The entry that a RESPONSE to the unit names: that of a lone write, none for a group (R142). -/
def CommitUnit.key (u : CommitUnit) : Nat := if u.gtag = 0 then (u.members.head?.map Prod.fst).getD 0 else 0

/-- A unit of the session with its last counter still awaits its answer (R155). -/
def Sys.awaits (y : Sys) (sid : Nat) : Bool :=
  let last (u : CommitUnit) : Bool := u.session == sid && decide (0xFFFFFFFF ≤ u.counter)
  y.den.units.any last || y.twin.waits.any (fun w => last w.2.2.1) || y.twin.fronted.any (fun f => last f.2) ||
    (match y.twin.ask with | some a => a.unit.any last | none => false)

/-- The session closes once the request with its last counter has been answered (R155). -/
def Sys.lastAnswered (y : Sys) (sid counter : Nat) : Sys :=
  if sid ≠ 0 ∧ 0xFFFFFFFF ≤ counter ∧ !y.awaits sid then y.closeSession sid else y

/-- The answer to a unit: to PRIMARY for a mirrored one, to the member it came from, as a console line on the console, as a RESPONSE elsewhere; a
command that stands for a write has no requester. -/
def Sys.answer (y : Sys) (u : CommitUnit) (st : Status) (k pos : Nat) : Sys :=
  let k := if k = 0 then u.key else k
  if u.mirror.isSome then y.mirrorAnswer (u.mirror.getD 0) st
  else if u.origin.isSome then y.frontReply (u.origin.getD (0, 0)) st k pos []
  else if u.path = 0 ∨ u.op = 0 then y
  else if u.path = 8 then (if st.code < 0x10 then y.sayOk (32 :: hexNat 2 st.code) else y.sayError st)
  else Sys.lastAnswered (y.response u.path u.source u.node u.session u.tag u.op st k pos []) u.session u.counter

/-- The power command of an array is over (R688): the write that waits gets its status. -/
def Sys.askEnd (y : Sys) (st : Status) : Sys :=
  match y.twin.ask with
  | none => y
  | some a =>
    let y := y.onTwin fun t => { t with ask := none }
    match a.unit with
    | none => y
    | some u =>
      let i := u.members.findIdx fun m => m.1 == ent 0x2700 2
      if st = .ok then y.answer u .ok 0 0 else y.answer u st (ent 0x2700 2) (if u.gtag = 0 then 0 else i + 1)

end Sys2Proof.Machine
end

