-- ==== Sys2Proof/Machine/Clock.lean ====
section
/-!
DEFINITION. Sys2Proof/Machine/Clock.lean: what an idle block does (log entry 2): 2 ns of the 500 MHz clock go by.
-/

namespace Sys2Proof.Machine

/-- A power-state entry goes on; where it ends, so does the array's power command, and its write is answered (R688). -/
def Sys.powerPasses (y : Sys) : Sys :=
  let y := if (y.twin.ask.any fun a => a.entered) && y.powerTick.power.step == 0 then y.askEnd .ok else y
  y.powerTick

/-- One tick: T96 takes the increment (R196), the uptime 2 ns, and a power-state entry goes on. Without power nothing moves; in Dormant the counter
runs and nothing else does (R210). -/
def Sys.tick (y : Sys) : Sys :=
  if y.boot.phase = .off then y
  else
    let y : Sys := { y with t96 := (y.t96 + y.rd (ent 0x2300 3)) % 2 ^ 96, up := y.up + 2 }
    if y.boot.phase = .dormant then y else y.powerPasses

/-- The state after a tick. -/
def tick (s : State) : State := { s with sys := s.sys.tick }

end Sys2Proof.Machine
end

