-- ==== Sys2Proof/Machine/Commit.lean ====
section
/-!
DEFINITION. Sys2Proof/Machine/Commit.lean: the commit point: arrival checks (R132, R152), the order of a slot (R127, R128, R130), superseding
(R131), the checks of the commit instant and admission (R39, R132, R136, R138), staging (R129, R137), and mirroring to SHADOW (R696).
-/

namespace Sys2Proof.Machine

/-! ## Arrival checks (R132, R152) -/

/-- A write that session 0 admits (R152): the customer root in DELIVERED, RETIRED from DELIVERED, a credential into an empty slot, the nonce, the cursor. -/
def Sys.sessionZeroMay (o : Otp) (y : Sys) (path k : Nat) (v : Bytes) : Bool :=
  let i := k / 256
  let s := k % 256
  (i == 0x1200 && s == 1 && (path == 1 || path == 8) && o.life == 2) || (i == 0x1001 && s == 2 && path == 8 && o.life == 2 && unLe v == 6) ||
  (i == 0x1210 && 1 ≤ s && s ≤ 64 && !v.isEmpty && (y.rdB k).isEmpty) || (i == 0x1406 && s == 1) || (i == 0x1300 && s == 5)

/-- The writer uses session 0: every write on a path that has no session. What PRIMARY forwards on the twin path carries the role of its session
(R151), and a command that stands for a write names no path. -/
def sessionZero (w : Writer) : Bool := w.session == 0 && w.path.val != 0 && !(w.path.val == 2 && w.role != .observer)

/-- What an entry asks of a role beyond its minimum: who may ask for a transition (R168), fuse the root (R175), change a filled credential slot
(R176) or erase the log (R755). -/
def Sys.entryRole (o : Otp) (y : Sys) (w : Writer) (k : Nat) (v : Bytes) : Bool :=
  if k = ent 0x1001 2 then mayTransit o.life w
  else if k = ent 0x1200 1 then rootWriter w
  else if k / 256 = 0x1210 then mayFill y w (k % 256 - 1)
  else if k = ent 0x1300 8 then decide (unLe v ≠ 2 ∨ 3 ≤ Role.rank w.role)
  else true

/-- The role ranks at or above the entry's minimum; the Kilvan role is there in the factory states alone (R12). -/
def roleReaches (o : Otp) (role : Role) (r : EntryDef) : Bool :=
  decide (role ≠ .kilvan ∨ o.factory) && decide (Role.rank r.role ≤ Role.rank role)

/-- The writer's role suffices for the write (R12, R152). -/
def Sys.roleOk (o : Otp) (y : Sys) (w : Writer) (r : EntryDef) (k : Nat) (v : Bytes) : Bool :=
  if sessionZero w then y.sessionZeroMay o w.path.val k v else roleReaches o w.role r && y.entryRole o w k v

/-- The write would disable the path it arrives on (R133). -/
def disablesPath (w : Writer) (k : Nat) (v : Bytes) : Bool :=
  unLe v == 0 && ((w.path.val == 3 && k == ent 0x1101 1) || (w.path.val == 1 && k == ent 0x1102 1) ||
    (decide (4 ≤ w.path.val) && decide (w.path.val ≤ 7) && k == ent (0x1108 + (w.path.val - 4)) 1))

/-- A mirrored entry of a SHADOW takes writes from the twin path alone (R133, R693). -/
def Sys.mirrorOnly (y : Sys) (w : Writer) (k : Nat) : Bool := y.roleShadow && mirrored k && w.path.val != 2

/-- An index or subindex that is not defined. The Kilvan range asks for the role first in the factory states (R122). -/
def undefinedStatus (o : Otp) (w : Writer) (k : Nat) : Status :=
  if 0xF000 ≤ k / 256 ∧ o.factory ∧ w.role ≠ .kilvan then .role else if indexDefined (k / 256) then .noSubindex else .noEntry

/-- Steps 1 to 4 of the arrival checks, and the table's range. -/
def Sys.tableCheck (o : Otp) (y : Sys) (w : Writer) (k : Nat) (v : Bytes) : Status :=
  match keyDef k with
  -- a SEALED module refuses every write to the Kilvan diagnostics (R168)
  | none => if o.life = 4 ∧ k / 256 / 4096 = 10 then .state else undefinedStatus o w k
  | some r =>
    if r.access = .ro then .readOnly
    else if !y.roleOk o w r k v then .role
    else if !r.typeOk v then .type
    else if !r.valueOk v then .range
    else if y.mirrorOnly w k || disablesPath w k v then .state
    else .ok

def isRwc (k : Nat) : Bool := match keyDef k with | some r => r.access == .rwc | none => false

/-- The arrival checks of a write: the table's, then the entry's own as they stand, then the remaining count (R132). Admission is not among
them. The state that comes with a refusal holds what the refusal reports. -/
def Sys.arrival (o : Otp) (y : Sys) (w : Writer) (k : Nat) (v : Bytes) : Status × Sys :=
  let st := y.tableCheck o w k v
  if st ≠ .ok then (st, y)
  else if isRwc k then (y.ownRule k v, y)
  else
    let r := y.entryWrite o w k v
    if r.1 = .overbudget ∨ r.1 = .ok then (.ok, y) else (r.1, r.2.2)

/-! ## Admission and the pre-raise (R39, R54) -/

/-- Demand on the colour engines, and the highest share of the other fabric blocks (raw front end, raw codec units, HEVC cores, hash units) that
VCORE_S supplies (R46), in millionths of their limits. -/
def Sys.railDemand (y : Sys) (g : Gen) : Nat × Nat :=
  let part (d : Nat × Rat × Rat) : Nat := if d.2.2 = 0 then 0 else (Rat.ceil (d.2.1 * 1000000 / d.2.2)).toNat
  let l := y.demands g
  ((((l.filter fun d => d.1 == 2).head?).map part).getD 0, (l.filter fun d => d.1 == 1 || (3 ≤ d.1 && d.1 ≤ 5)).foldl (fun m d => max m (part d)) 0)

/-- The voltage that a demand needs at the present junction temperature, with the margin floor. -/
def Sys.predicted (y : Sys) (part : Nat) : Nat :=
  voltageFor (1400 * part * 100 / (100 - min 99 (y.rd (ent 0x2200 2)))) (y.rdI (ent 0x2101 1))

/-- An admitted rise of demand raises its rail ahead of the latch point (GOVERNOR_PRE_RAISE, R54). -/
def Sys.raiseAhead (y : Sys) (x : Nat) (target : Option Nat) (before after : Nat × Nat) : Sys :=
  -- the first frame that latches with the change: the target, or the next one
  let first := target.getD (match (y.ctx x).last with | some l => l.2 + 1 | none => 0)
  let y := if before.1 < after.1 then y.preRaise .t (y.predicted after.1) x first else y
  if before.2 < after.2 then y.preRaise .s (y.predicted after.2) x first else y

/-- What the set that would become live breaks for the members of a unit: a rule on sets, or admission (R39). -/
def Sys.setFault (y : Sys) (members : List (Nat × Bytes)) : Option (Status × Option (Nat × Nat)) :=
  let g := y.planned.view
  match members.find? fun m => y.setRules g m.1 != .ok with
  | some m => some (y.setRules g m.1, none)
  | none =>
    if members.any fun m => demandEntry m.1 (unLe m.2) then (y.overBudget g).map fun b => (.overbudget, some b) else none

/-- The set rules and admission for the members of a unit; `upTo n` is the state with its first n members. The unit is judged as a whole; where it
fails, the first member at which the set fails is named (R136; log entry 46). -/
def Sys.setCheck (upTo : Nat → Sys) (members : List (Nat × Bytes)) : Status × Nat × Option (Nat × Nat) :=
  match (upTo members.length).setFault members with
  | none => (.ok, 0, none)
  | some f =>
    match (List.range members.length).findSome? fun i => ((upTo (i + 1)).setFault (members.take (i + 1))).map fun g => (i, g) with
    | some p => (p.2.1, p.1, p.2.2)
    | none => (f.1, 0, f.2)

/-! ## One unit at its commit instant -/

/-- What a unit leaves: its status with the entry and the place of a refused member, the fuses, the state. -/
structure Done where
  status : Status
  key : Nat
  pos : Nat
  otp : Otp
  ops : List OtpOp
  sys : Sys

def CommitUnit.writer (u : CommitUnit) : Writer := { path := Fin.ofNat 9 u.path, role := u.role, session := BitVec.ofNat 16 u.session }

/-- The writer as the unit's own checks see it: that of another member's path has no path and no session here. -/
def CommitUnit.actor (u : CommitUnit) : Writer := if u.origin.isSome then { path := 0, role := u.role, session := 0 } else u.writer

/-- The context whose first frame under the new configuration the governor watches (R54): the unit's, or its first entry's; for a channel, that of
its binding. A unit whose first entry belongs to neither (a Felley stream, a quad, a drive) names no context: the one of its index modulo 16 is
watched (DESIGN CHOICE: the spec does not say whose first frame it is; log entry 59). -/
def Sys.unitCtx (y : Sys) (u : CommitUnit) : Nat :=
  match u.scope with
  | .context x => x
  | _ => match u.members.head? with
    | none => 0
    | some m => match ownerOf y m.1 (unLe m.2) with
      | .context x => x
      | .output c => y.rd (ent (0x4100 + c) 3)
      | _ => m.1 / 256 % 16

def Scope.waits : Scope → Bool
  | .context _ => true | .output _ => true | .lockGroup _ => true | _ => false

/-- Where the unit takes effect: a lone write goes to its entry's home, a group to its scope. -/
def Sys.unitHome (y : Sys) (u : CommitUnit) : Scope :=
  match u.scope with
  | .single => match u.members.head? with
    | some m => if isRwc m.1 then y.homeOf m.1 (unLe m.2) else .immediate
    | none => .immediate
  | sc => sc

/-- Checks of a targeted group against the context's last latched frame (R138). DESIGN CHOICE (log entry 46): a pending group for the same frame, which
this one will replace, is left out of the count of four. -/
def Sys.targetStatus (y : Sys) (u : CommitUnit) : Status :=
  match u.scope, u.target with
  | .context x, some f =>
    match (y.ctx x).last with
    | none => .state
    | some (_, n) =>
      if n + 256 < f then .range
      else if f ≤ n then .late
      else if 4 ≤ (y.den.latched.filter fun t => t.scope == .context x && t.target.isSome && t.target != some f).length then .busy
      else .ok
  | _, _ => .ok

/-- A group joins the list of its latch point; the group it finds there leaves (R137). The input of an idle playback context starts its decoder
(log entry 34). -/
def Sys.stage (y : Sys) (u : CommitUnit) : Sys :=
  let same (t : CommitUnit) : Bool := u.gtag != 0 && t.gtag != 0 && t.scope == u.scope && t.target == u.target
  let gone := y.den.latched.filter same
  let z := gone.foldl (fun y t => y.groupReplaced t) (y.onDen fun d => { d with latched := d.latched.filter (fun t => !same t) ++ [u] })
  (List.range 8).foldl (fun z p => if u.members.any (fun m => m.1 == pbCfg p 1) && z.idlePb p then z.startInput p else z) z

/-- A staged look selection makes its image resident, and staged table slots ask for their tables (R359, R372). -/
def Sys.prepare (y : Sys) (m : Nat × Bytes) : Option Sys :=
  let i := m.1 / 256
  if 0x3800 ≤ i ∧ i < 0x3810 ∧ m.1 % 256 = 1 ∧ unLe m.2 < 16 then y.makeResident (unLe m.2)
  else if 0x3C10 ≤ i ∧ i < 0x3C20 ∧ m.1 % 256 = 6 then
    some (Sys.showUsers (y.wantTables (((List.range 8).map fun j => rdLe m.2 (2 * j) 2).filter (· < 64))))
  else some y

/-- Every member's preparation; the place of the first without room. -/
def Sys.prepareAll (y : Sys) (l : List (Nat × Bytes)) : Nat ⊕ Sys :=
  (l.zipIdx).foldl (fun r m => match r with
    | .inl i => .inl i
    | .inr y => match y.prepare m.1 with | some z => .inr z | none => .inl m.2) (.inr y)

/-- The entry's own conditions at the commit instant: those that answer STATE or BUSY, and a write template's fields, which its rule has judged at
commit (R278); any other range was judged at arrival (R132). -/
def Sys.commitRule (y : Sys) (w : Writer) (m : Nat × Bytes) : Status :=
  let st := y.ownRule m.1 m.2
  let i := m.1 / 256
  if y.mirrorOnly w m.1 then .state else if st = .state ∨ st = .busy then st
  else if 0x3000 ≤ i ∧ i < 0x3008 ∧ m.1 % 256 = 0x1B ∧ !y.templateOk m.2 then .range
  else .ok

/-- One member with its own conditions; `lose` where a later unit writes the same entry: it is checked and not applied. An entry that acts is asked
anew whether it can. -/
def Sys.commitMember (o : Otp) (y : Sys) (w : Writer) (m : Nat × Bytes) (lose : Bool) : Result :=
  let st := if isRwc m.1 then y.commitRule w m else if y.mirrorOnly w m.1 then .state else .ok
  if st ≠ .ok then y.refuse st
  else if lose then
    if isRwc m.1 then okR y else let r := y.entryApply o w m.1 m.2; if r.1 = .ok then okR y else r
  else if isRwc m.1 then okR (y.putLive o m.1 m.2)
  else y.entryApply o w m.1 m.2

/-- The members in order, each against what the earlier ones leave. -/
def Sys.commitMembers (o : Otp) (w : Writer) (lose : Nat → Bool) : List (Nat × Bytes) → Nat → List OtpOp → Sys → Done
  | [], _, ops, y => ⟨.ok, 0, 0, o, ops, y⟩
  | m :: r, n, ops, y =>
    let c := y.commitMember (o.applyAll ops) w m (lose m.1)
    if c.1 = .ok then Sys.commitMembers o w lose r (n + 1) (ops ++ c.2.1) c.2.2
    else ⟨c.1, m.1, n + 1, o, [], c.2.2⟩

/-- A unit that changes a demand shows the admitted rates anew (R718). -/
def Sys.showRates (y : Sys) (members : List (Nat × Bytes)) : Sys :=
  if members.any fun m => demandEntry m.1 (unLe m.2) then y.showAdmitted y.planned.view else y

/-- What a refused group leaves: event 0x040B of a member that answered OVERBUDGET (R161), and nothing else. -/
def Sys.groupRefused (y : Sys) (r : Done) : Sys :=
  match r.sys.log.pending.getLast? with
  | some e => if r.status = .overbudget ∧ e.code = 0x040B then y.raise e.code e.source e.data else y
  | none => y

/-- What the first members leave, each applied where its own conditions hold, else only with its value in place. -/
def Sys.membersLeave (o : Otp) (w : Writer) (lose : Nat → Bool) (l : List (Nat × Bytes)) (y : Sys) : Sys :=
  l.foldl (fun y m => let c := y.commitMember o w m (lose m.1); if c.1 = .ok then c.2.2 else y.putEntry m.1 m.2) y

/-- Why a unit is refused: the status of the first member that fails, its place, and for OVERBUDGET the resource with its demand. -/
structure UnitFault where
  status : Status
  place : Nat
  load : Option (Nat × Nat)

/-- The first failing member of a unit (R136): of the faults that its own conditions, the set that would become live and the room for its image name,
the one of the earliest member; of those of one member, in this order. -/
def firstFault (own : Option (Status × Nat)) (set : Status × Nat × Option (Nat × Nat)) (room : Option Nat) : Option UnitFault :=
  let l := (own.map fun p => (⟨p.1, p.2, none⟩ : UnitFault)).toList ++ (if set.1 = .ok then [] else [⟨set.1, set.2.1, set.2.2⟩]) ++
    (room.map fun i => (⟨.range, i, none⟩ : UnitFault)).toList
  l.foldl (fun a f => match a with
    | none => some f
    | some g => if f.place < g.place then some f else a) none

/-- A unit at its commit instant: what fails leaves the state as it was, but for what a single refused write reports. -/
def Sys.commitUnit (o : Otp) (y : Sys) (u : CommitUnit) (lose : Nat → Bool) : Done :=
  let w := u.actor
  let fail (st : Status) (k pos : Nat) (z : Sys) : Done := ⟨st, k, pos, o, [], z⟩
  let at_ (i : Nat) : Nat × Nat := ((u.members.getD i (0, [])).1, if u.gtag = 0 then 0 else i + 1)
  let home := y.unitHome u
  let before := y.railDemand y.planned.view
  let target := y.targetStatus u
  let room (z : Sys) (l : List (Nat × Bytes)) : Option Nat := match z.prepareAll l with | .inl i => some i | .inr _ => none
  if target ≠ .ok then fail target 0 0 y
  else if home.waits then
    let upTo (n : Nat) : Sys := if n = 0 then y else y.stage { u with scope := home, members := u.members.take n }
    let own := u.members.zipIdx.findSome? fun m => let st := (upTo m.2).commitRule w m.1; if st = .ok then none else some (st, m.2)
    match firstFault own (Sys.setCheck upTo u.members) (room y u.members) with
    | some f => fail f.status (at_ f.place).1 (at_ f.place).2 (match f.load with | some b => y.overEvent u.writer b | none => y)
    | none =>
      let unit := { u with scope := home, members := u.members.filter fun m => !lose m.1 }
      match y.prepareAll u.members with
      | .inl i => fail .range (at_ i).1 (at_ i).2 y
      | .inr z =>
        let z := if unit.members.isEmpty then z else z.stage unit
        ⟨.staged, 0, 0, o, [], (z.raiseAhead (y.unitCtx u) u.target before (z.railDemand z.planned.view)).showRates u.members⟩
  else
    let r := Sys.commitMembers o w lose u.members 0 [] y
    let own := if r.status = .ok then none else some (r.status, r.pos - 1)
    let wanted := u.members.filter fun m => !lose m.1
    match firstFault own (Sys.setCheck (fun n => y.membersLeave o w lose (u.members.take n)) u.members)
        (if r.status = .ok then (room r.sys wanted).map fun i => u.members.findIdx fun m => m == wanted.getD i (0, []) else none) with
    | some f =>
      let z := if own = some (f.status, f.place) then (if u.gtag = 0 then r.sys else y.groupRefused r) else match f.load with | some b => y.overEvent u.writer b | none => y
      fail f.status (at_ f.place).1 (at_ f.place).2 z
    | none =>
      match r.sys.prepareAll wanted with
      | .inl i => fail .range (at_ i).1 (at_ i).2 y
      | .inr z => ⟨.ok, 0, 0, o.applyAll r.ops, r.ops, (z.raiseAhead (y.unitCtx u) u.target before (z.railDemand z.planned.view)).showRates u.members⟩

/-! ## The slot (R127 to R131) -/

/-- A unit moved from an earlier slot. -/
def CommitUnit.carried (u : CommitUnit) : Bool := decide (u.stamp / 100000 < u.slot)

/-- Order of R130, with units moved from an earlier slot ahead. -/
def CommitUnit.le (a b : CommitUnit) : Bool :=
  if a.carried || b.carried then a.carried
  else if a.role ≠ b.role then decide (Role.rank b.role < Role.rank a.role)
  else if a.path ≠ b.path then decide (a.path < b.path)
  else if a.stamp ≠ b.stamp then decide (a.stamp < b.stamp)
  else decide (a.counter ≤ b.counter)

/-- Octets of a unit's values. -/
def CommitUnit.size (u : CommitUnit) : Nat := (u.members.map fun m => m.2.length).sum

/-- The units a slot takes: 256 of them, or 16 KiB; the first always. The rest moves on. -/
def takeSlot : List CommitUnit → Nat → Nat → List CommitUnit × List CommitUnit
  | [], _, _ => ([], [])
  | u :: r, n, total =>
    if n = 0 ∨ (n < 256 ∧ total + u.size ≤ 16384) then
      let p := takeSlot r (n + 1) (total + u.size)
      (u :: p.1, p.2)
    else ([], u :: r)

/-- The last unit after place `i`, not refused, that writes entry k of the same dictionary: the winner, which is applied (R130, R131). -/
def winner (units : List CommitUnit) (refused : List Nat) (i k : Nat) : Option CommitUnit :=
  let at_ := (units[i]?).bind (·.position)
  ((units.zipIdx.filter fun p => decide (i < p.2) && !refused.contains p.2 && p.1.position == at_ && p.1.members.any fun m => m.1 == k).getLast?).map
    Prod.fst

/-- A lost member: event 0x0401, once per entry in 100 ms (R131, R162). -/
def Sys.superseded (y : Sys) (u v : CommitUnit) (k : Nat) : Sys :=
  y.raiseLimited k 0x0401 255 (ev [(0, 2, k / 256), (2, 1, k % 256), (3, 1, u.path), (4, 1, Role.rank u.role), (5, 1, v.path), (6, 1, Role.rank v.role),
    (8, 4, u.slot % 2 ^ 32)])

/-- The units in order, each with its status, entry and place; `refused` are those taken to be refused, which supersede nothing. -/
def Sys.runSlot (units : List CommitUnit) (refused : List Nat) :
    List (CommitUnit × Nat) → Otp → List OtpOp → Sys → List (CommitUnit × Status × Nat × Nat) → List (CommitUnit × Status × Nat × Nat) × List OtpOp × Sys
  | [], _, ops, y, acc => (acc, ops, y)
  | (u, i) :: r, o, ops, y, acc =>
    let lose (k : Nat) : Bool := (winner units refused i k).isSome
    let lost := u.members.filter fun m => lose m.1
    if u.position.isSome then Sys.runSlot units refused r o ops y (acc ++ [(u, .ok, 0, 0)])
    else
      let d := if u.gtag = 0 ∧ lost ≠ [] then (⟨.superseded, 0, 0, o, [], y⟩ : Done) else y.commitUnit o u lose
      let fine := d.status = .ok ∨ d.status = .staged ∨ d.status = .superseded
      let y := if fine then lost.foldl (fun y m => match winner units refused i m.1 with | some v => y.superseded u v m.1 | none => y) d.sys else d.sys
      let st := if fine ∧ lost ≠ [] then Status.superseded else d.status
      Sys.runSlot units refused r d.otp (ops ++ d.ops) y (acc ++ [(u, st, d.key, d.pos)])

def Status.fine (st : Status) : Bool := st == .ok || st == .staged || st == .superseded

/-- A unit refused at its commit instant supersedes nothing (R131): the slot is judged with a set of units taken to be refused until exactly those
are. `more` passes let a unit leave that set again; where they settle nothing (an earlier write on which the later one's own acceptance depends), the
last ones only add to it, and every unit has the effect its checks then give it (DESIGN CHOICE; log entry 46). -/
def Sys.settleSlot (o : Otp) (y : Sys) (units : List CommitUnit) :
    Nat → Nat → List Nat → List (CommitUnit × Status × Nat × Nat) × List OtpOp × Sys
  | 0, _, refused => Sys.runSlot units refused units.zipIdx o [] y []
  | fuel + 1, more, refused =>
    let r := Sys.runSlot units refused units.zipIdx o [] y []
    let bad := (r.1.zipIdx.filter fun p => !p.1.2.1.fine).map Prod.snd
    if bad = refused then r
    else if 0 < more then y.settleSlot o units fuel (more - 1) bad
    else
      let all := (List.range units.length).filter fun i => bad.contains i || refused.contains i
      if all = refused then r else y.settleSlot o units fuel 0 all

/-- An entry that every member of the array holds (R684). -/
def arrayWide (k : Nat) : Bool :=
  let i := k / 256
  let s := k % 256
  (decide (0x4160 ≤ i) && decide (i ≤ 0x4167)) || (decide (0x4000 ≤ i) && decide (i < 0x4010) && (s == 5 || s == 6)) || (i == 0x4C00 && 1 ≤ s && s ≤ 4)

/-- An array-wide entry of which each member has its own value: bands, and the cover of a position (R684, R690). -/
def perMember (k : Nat) : Bool := decide (k / 256 < 0x4010) || k == ent 0x4C00 3 || k == ent 0x4C00 4

/-- The head passes array-wide entries on: position, then the members (R684). -/
def Sys.shareArray (y : Sys) (p : Nat) (l : List (Nat × Bytes)) : Sys :=
  let m := l.filter fun m => arrayWide m.1
  if !y.arrayHead || m.isEmpty then y
  else
    let y := y.onTwin fun t => { t with bands := (m.filter fun e => perMember e.1).foldl (fun b e => kput b (p * 2 ^ 24 + e.1) (unLe e.2)) t.bands }
    y.controlAll .entries (le 1 p ++ m.flatMap memberOctets)

/-- The unit has put STANDBY or DORMANT to the members of the array: its answer waits for theirs (R688). -/
def Sys.asksFor (y : Sys) (u : CommitUnit) : Bool :=
  match y.twin.ask with
  | some a => !a.entered && a.unit.isNone && u.members.any fun m => m.1 == ent 0x2700 2
  | none => false

/-- What follows a unit's own effect: its counters, the array, SHADOW, and its answer. -/
def Sys.afterUnit (y : Sys) (r : CommitUnit × Status × Nat × Nat) : Sys :=
  let u := r.1
  let st := r.2.1
  match u.position with
  | some p =>
    -- the dictionary of another member: it applies the unit and answers
    match y.posLink p with
    | none => y.answer u .state 0 0
    | some k =>
      let n := y.twin.nextFront
      let y := y.onTwin fun t => { t with nextFront := (n + 1) % 2 ^ 32, fronted := t.fronted ++ [(n, u)] }
      y.control k .frontApply (le 4 n ++ le 1 u.op ++ u.octets)
  | none =>
    let y := if st = .superseded then y.inc (ent 0x1104 5) else y
    if st = .ok ∨ st = .staged ∨ st = .superseded then
      let y := y.inc64 (ent 0x1104 4) 1
      let y := if u.gtag ≠ 0 then y.inc (ent 0x1104 6) else y
      let y := y.shareArray y.arrayPos u.members
      let m := if st = .superseded then (false, y) else y.mirrorUnit u st
      if m.1 then m.2
      else if m.2.asksFor u then m.2.onTwin fun t => { t with ask := t.ask.map fun a => { a with unit := some u } }
      else m.2.answer u st r.2.2.1 r.2.2.2
    else y.answer u st r.2.2.1 r.2.2.2

/-- A reset that a write asked for begins once the answers are out (R113). -/
def Sys.resetDue (y : Sys) : Sys :=
  match y.boot.due with
  | some 1 => Sys.warmStart { y with boot := { y.boot with due := none } } 4
  | some 2 => Sys.coldStart { y with boot := { y.boot with due := none } } 5
  | _ => y

/-- A STORE that the slot applied saves what stands once every unit of the slot has been applied (R124); `was` is the state before the slot. -/
def Sys.storeSlot (y was : Sys) : Sys := if was.den.saving.isNone && y.den.saving.isSome then y.storeBegin else y

/-- The units of a slot, in order, take effect together. -/
def Sys.commitSlot (o : Otp) (y : Sys) (units : List CommitUnit) : List OtpOp × Sys :=
  let r := y.settleSlot o units (2 * units.length + 2) (units.length + 1) []
  (r.2.1, Sys.resetDue (r.1.foldl Sys.afterUnit (r.2.2.storeSlot y)))

/-- COMMIT_INSTANT (R128): the lowest slot that waits is taken; the clock says which one when none does. -/
def Sys.commitInstant (o : Otp) (y : Sys) : List OtpOp × Sys :=
  match y.den.units with
  | [] => ([], y.wr (ent 0x1100 6) (y.ns / 100000 * 100000 * 2 ^ 32))
  | u :: _ =>
    let n := y.den.units.foldl (fun m u => min m u.slot) u.slot
    let here := (y.den.units.filter fun u => u.slot == n).mergeSort CommitUnit.le
    let t := takeSlot here 0 0
    let moved := t.2.map fun u => { u with slot := n + 1 }
    let y := y.onDen fun d => { d with units := moved ++ d.units.filter fun u => u.slot != n }
    let y := if moved.isEmpty then y else (y.inc (ent 0x1104 8)).raise 0x0406 255 (ev [(0, 4, n % 2 ^ 32), (4, 2, moved.length)])
    Sys.commitSlot o (y.wr (ent 0x1100 6) ((n + 2) * 100000 * 2 ^ 32)) t.1

def execCommitInstant (s : State) : Host.Outcome State Fault Refusal := run s fun o y => y.commitInstant o

/-! ## Writes that commands of their own stand for -/

/-- A lone write as a unit. -/
def writeUnit (y : Sys) (w : Writer) (k : Nat) (v : Bytes) : CommitUnit :=
  { slot := y.ns / 100000, path := w.path.val, role := w.role, stamp := y.ns, counter := 0, session := w.session.toNat, source := 0, node := 0, tag := 0,
    gtag := 0, op := 0, scope := .single, target := none, members := [(k, v)], position := none, origin := none }

/-- A write that passes its arrival checks and commits at once, alone in its slot: status, fuses, state. The cursor is no unit of the commit
point (R754). -/
def Sys.writeNow (o : Otp) (y : Sys) (w : Writer) (k : Nat) (v : Bytes) : Result :=
  if y.boot.phase ≠ .running then y.refuse .state
  else
    let a := y.arrival o w k v
    if a.1 ≠ .ok then a.2.refuse a.1
    else if k = ent 0x1300 5 then (.ok, [], y.setCursor w.path.val 0 w.session.toNat (unLe v))
    else
      let u := writeUnit y w k v
      let d := y.commitUnit o u fun _ => false
      (d.status, d.ops, Sys.resetDue ((d.sys.storeSlot y).afterUnit (u, d.status, d.key, d.pos)))

/-- The step of such a command. -/
def writeStep (s : State) (w : Writer) (k : Nat) (v : Bytes) : Host.Outcome State Fault Refusal :=
  run s fun o y => (y.writeNow o w k v).2

/-- ENTRY_WRITE (R132). -/
def execEntryWrite (by_ : Writer) (entry : BitVec 24) (value : Bytes) (s : State) : Host.Outcome State Fault Refusal :=
  writeStep s by_ entry.toNat value

/-- LOOK_SLOT_SELECT (R373). -/
def execLookSlotSelect (by_ : Writer) (ctx : Fin 16) (slot : BitVec 8) (s : State) : Host.Outcome State Fault Refusal :=
  writeStep s by_ (ent (0x3800 + ctx.val) 1) (le 1 slot.toNat)

/-- PARAMETER_STORE_SAVE and PARAMETER_STORE_CLEAR (R124). -/
def execParameterStoreSave (by_ : Writer) (s : State) : Host.Outcome State Fault Refusal := writeStep s by_ (ent 0x1104 1) (le 2 1)
def execParameterStoreClear (by_ : Writer) (s : State) : Host.Outcome State Fault Refusal := writeStep s by_ (ent 0x1104 1) (le 2 2)

/-- LIFE_CYCLE_TRANSITION (R168). -/
def execLifeCycleTransition (by_ : Writer) (target : BitVec 16) (s : State) : Host.Outcome State Fault Refusal :=
  writeStep s by_ (ent 0x1001 2) (le 2 target.toNat)
/-- REKEY (R171). -/
def execRekey (by_ : Writer) (s : State) : Host.Outcome State Fault Refusal := writeStep s by_ (ent 0x1002 1) (le 2 1)
/-- CERTIFICATE_INSTALL (R171). -/
def execCertificateInstall (by_ : Writer) (certificate : Bytes) (s : State) : Host.Outcome State Fault Refusal :=
  writeStep s by_ (ent 0x1002 4) certificate
/-- CUSTOMER_ROOT_WRITE (R175). -/
def execCustomerRootWrite (by_ : Writer) (root : Bytes) (s : State) : Host.Outcome State Fault Refusal := writeStep s by_ (ent 0x1200 1) root
/-- CREDENTIAL_INSTALL and CREDENTIAL_REMOVE (R176). -/
def execCredentialInstall (by_ : Writer) (slot : Fin 64) (credential : Bytes) (s : State) : Host.Outcome State Fault Refusal :=
  writeStep s by_ (ent 0x1210 (slot.val + 1)) credential
def execCredentialRemove (by_ : Writer) (slot : Fin 64) (s : State) : Host.Outcome State Fault Refusal :=
  writeStep s by_ (ent 0x1210 (slot.val + 1)) []
/-- CREDENTIAL_REVOKE (R176). -/
def execCredentialRevoke (by_ : Writer) (id : BitVec 32) (s : State) : Host.Outcome State Fault Refusal :=
  writeStep s by_ (ent 0x1211 1) (le 4 id.toNat)
/-- EPOCH_RAISE (R177). -/
def execEpochRaise (by_ : Writer) (epoch : BitVec 8) (s : State) : Host.Outcome State Fault Refusal :=
  writeStep s by_ (ent 0x1003 1) (le 1 epoch.toNat)
/-- LOOK_IMAGE_WRITE (R371). -/
def execLookImageWrite (by_ : Writer) (slot : Fin 16) (image : Bytes) (s : State) : Host.Outcome State Fault Refusal :=
  writeStep s by_ (ent (0x3840 + slot.val) 1) image
/-- RECIPIENT_KEY_WRITE (R188). -/
def execRecipientKeyWrite (by_ : Writer) (recipient : Fin 4) (key : Bytes) (s : State) : Host.Outcome State Fault Refusal :=
  writeStep s by_ (ent 0x1404 (recipient.val + 2)) key
/-- ENCRYPTION_ENABLE (R191). -/
def execEncryptionEnable (by_ : Writer) (on : Bool) (s : State) : Host.Outcome State Fault Refusal :=
  writeStep s by_ (ent 0x1404 1) (le 1 (if on then 1 else 0))
/-- ATTESTATION_NONCE (R192). -/
def execAttestationNonce (by_ : Writer) (nonce : Bytes) (s : State) : Host.Outcome State Fault Refusal := writeStep s by_ (ent 0x1406 1) nonce
/-- EVENT_CURSOR_WRITE (R754). -/
def execEventCursorWrite (by_ : Writer) (cursor : BitVec 32) (s : State) : Host.Outcome State Fault Refusal :=
  writeStep s by_ (ent 0x1300 5) (le 4 cursor.toNat)
/-- EVENT_ACKNOWLEDGE and EVENT_ERASE (R755). -/
def execEventAcknowledge (by_ : Writer) (s : State) : Host.Outcome State Fault Refusal := writeStep s by_ (ent 0x1300 8) (le 2 1)
def execEventErase (by_ : Writer) (s : State) : Host.Outcome State Fault Refusal := writeStep s by_ (ent 0x1300 8) (le 2 2)

/-- The number of a mode of 0x3000 + x:01. -/
def ctxModeCode : CtxMode → Nat
  | .disabled => 0 | .run => 1 | .test => 2

/-- RAIL_CEILING_WRITE (R68): 0x2200:04 or :05. -/
def execRailCeilingWrite (by_ : Writer) (system : Bool) (value : BitVec 16) (s : State) :
    Host.Outcome State Fault Refusal := writeStep s by_ (ent 0x2200 (if system then 5 else 4)) (le 2 value.toNat)
/-- LANE_REQUESTED_STATE (R244). -/
def execLaneRequestedState (by_ : Writer) (lane : Fin 80) (state : Fin 4) (s : State) :
    Host.Outcome State Fault Refusal := writeStep s by_ (ent (0x2400 + lane.val) 1) (le 2 state.val)
/-- EYE_SCAN_REQUEST (R246). -/
def execEyeScanRequest (by_ : Writer) (lane : Fin 80) (request : Bytes) (s : State) :
    Host.Outcome State Fault Refusal := writeStep s by_ (ent (0x2400 + lane.val) 0x0E) request
/-- RETRAIN (R241): of group 0 to 7, or of quad 0 to 7 from 8 on. -/
def execRetrain (by_ : Writer) (target : Fin 16) (s : State) :
    Host.Outcome State Fault Refusal := writeStep s by_ (if target.val < 8 then ent (0x2480 + target.val) 5 else ent (0x2488 + (target.val - 8)) 0x0A) (le 1 1)
/-- QUAD_FUNCTION_WRITE (R248). -/
def execQuadFunctionWrite (by_ : Writer) (quad : Fin 8) (function : BitVec 16) (s : State) :
    Host.Outcome State Fault Refusal := writeStep s by_ (ent (0x2488 + quad.val) 1) (le 2 function.toNat)
/-- INGEST_LANE_RATE_WRITE (R249). -/
def execIngestLaneRateWrite (by_ : Writer) (group : Fin 8) (rate : BitVec 32) (s : State) :
    Host.Outcome State Fault Refusal := writeStep s by_ (ent (0x2480 + group.val) 1) (le 4 rate.toNat)
/-- CONTEXT_MODE_WRITE (R268). -/
def execContextModeWrite (by_ : Writer) (ctx : Fin 8) (mode : CtxMode) (s : State) :
    Host.Outcome State Fault Refusal := writeStep s by_ (ent (0x3000 + ctx.val) 1) (le 2 (ctxModeCode mode))
/-- KEEP_RESIDENT_WRITE (R372). -/
def execKeepResidentWrite (by_ : Writer) (slot : Fin 16) (value : BitVec 8) (s : State) :
    Host.Outcome State Fault Refusal := writeStep s by_ (ent (0x3840 + slot.val) 7) (le 1 value.toNat)
/-- CALIBRATION_COMMIT (R381). -/
def execCalibrationCommit (by_ : Writer) (slot : Fin 8) (s : State) :
    Host.Outcome State Fault Refusal := writeStep s by_ (ent (0x3C00 + slot.val) 8) (le 2 1)
/-- REVERT_STAGING (R383). -/
def execRevertStaging (by_ : Writer) (slot : Fin 8) (value : BitVec 8) (s : State) :
    Host.Outcome State Fault Refusal := writeStep s by_ (ent (0x3C00 + slot.val) 0x0D) (le 1 value.toNat)
/-- TABLE_HEADER_WRITE, TABLE_DATA_WRITE, TABLE_SEAL (R388) and TABLE_GENERATE (R392). -/
def execTableHeaderWrite (by_ : Writer) (entry : Fin 64) (header : Bytes) (s : State) :
    Host.Outcome State Fault Refusal := writeStep s by_ (ent (0x3C40 + entry.val) 1) header
def execTableDataWrite (by_ : Writer) (entry : Fin 64) (value : Bytes) (s : State) :
    Host.Outcome State Fault Refusal := writeStep s by_ (ent (0x3C40 + entry.val) 2) value
def execTableSeal (by_ : Writer) (entry : Fin 64) (value : BitVec 8) (s : State) :
    Host.Outcome State Fault Refusal := writeStep s by_ (ent (0x3C40 + entry.val) 4) (le 1 value.toNat)
def execTableGenerate (by_ : Writer) (entry : Fin 64) (value : Bytes) (s : State) :
    Host.Outcome State Fault Refusal := writeStep s by_ (ent (0x3C40 + entry.val) 3) value
/-- RING_HOLD, RING_RELEASE (R518): 0x4848 + x:02. -/
def execRingHold (by_ : Writer) (ctx : Fin 8) (s : State) : Host.Outcome State Fault Refusal := writeStep s by_ (ent (0x4848 + ctx.val) 2) (le 1 1)
def execRingRelease (by_ : Writer) (ctx : Fin 8) (s : State) : Host.Outcome State Fault Refusal := writeStep s by_ (ent (0x4848 + ctx.val) 2) (le 1 0)
/-- RING_EXTRACT (R518, R559): 0x4848 + x:07. -/
def execRingExtract (by_ : Writer) (ctx : Fin 8) (first last : BitVec 32) (s : State) : Host.Outcome State Fault Refusal :=
  writeStep s by_ (ent (0x4848 + ctx.val) 7) (le 4 first.toNat ++ le 4 last.toNat)
/-- RESTART (1) or QUEUE RESET (2) of a queue: written to 0x4900 + q:08, or by the host to CONTROL in BAR0, which is ignored where the owner is not
HOST (R544, R545). -/
def queueStep (s : State) (by_ : Option Writer) (q v : Nat) : Host.Outcome State Fault Refusal :=
  run s fun o y => match by_ with
    | some w => (y.writeNow o w (ent (0x4900 + q) 8) (le 2 v)).2
    | none => ([], if y.rd (ent (0x4900 + q) 1) = 1 then (y.queueCommand q v).2.2 else y)
/-- QUEUE_RESTART (R544), QUEUE_RESET (R545). -/
def execQueueRestart (by_ : Option Writer) (queue : Fin 16) (s : State) : Host.Outcome State Fault Refusal := queueStep s by_ queue.val 1
def execQueueReset (by_ : Option Writer) (queue : Fin 16) (s : State) : Host.Outcome State Fault Refusal := queueStep s by_ queue.val 2
/-- RANK_MIGRATE (R573), RANK_RETEST (R584), RANK_MARGIN_SCAN (R592): 0x4B00:09, for the rank of 0x4B00:0A. -/
def execRankMigrate (by_ : Writer) (s : State) : Host.Outcome State Fault Refusal := writeStep s by_ (ent 0x4B00 9) (le 2 1)
def execRankRetest (by_ : Writer) (s : State) : Host.Outcome State Fault Refusal := writeStep s by_ (ent 0x4B00 9) (le 2 2)
def execRankMarginScan (by_ : Writer) (s : State) : Host.Outcome State Fault Refusal := writeStep s by_ (ent 0x4B00 9) (le 2 3)
/-- TRAINING_CACHE_CLEAR (R589): 0x4B00:0C. -/
def execTrainingCacheClear (by_ : Writer) (s : State) : Host.Outcome State Fault Refusal := writeStep s by_ (ent 0x4B00 0x0C) (le 1 1)
/-- TWIN_TAKEOVER, TWIN_RESYNC (R702, R705): 0x4C00:08. -/
def execTwinTakeover (by_ : Writer) (s : State) : Host.Outcome State Fault Refusal := writeStep s by_ (ent 0x4C00 8) (le 2 1)
def execTwinResync (by_ : Writer) (s : State) : Host.Outcome State Fault Refusal := writeStep s by_ (ent 0x4C00 8) (le 2 2)
/-- FELLEY_CALIBRATE (R724), FELLEY_RESTART (R240): 0x4D00:06. -/
def execFelleyCalibrate (by_ : Writer) (s : State) : Host.Outcome State Fault Refusal := writeStep s by_ (ent 0x4D00 6) (le 2 1)
def execFelleyRestart (by_ : Writer) (s : State) : Host.Outcome State Fault Refusal := writeStep s by_ (ent 0x4D00 6) (le 2 2)

end Sys2Proof.Machine
end

