-- ==== Sys2Proof/Machine/Reads.lean ====
section
/-!
DEFINITION. Sys2Proof/Machine/Reads.lean: reading an entry (R126, R132): what a READ returns and takes away, what a READ_SHADOW returns, the event-log
cursor (R754), and the commands that are reads of one entry (R756).
-/

namespace Sys2Proof.Machine

/-! ## Values -/

/-- An entry whose value is not kept in the dictionary: what the fuses and the running counters give. -/
def Sys.computed (o : Otp) (y : Sys) (k : Nat) : Option Nat :=
  let held := match y.time.hold with | some h => (y.up - h.counted) / 1000 | none => 0
  let i := k / 256
  let s := k % 256
  if k = ent 0x1000 1 then some o.dieId
  else if k = ent 0x1001 1 then some o.life
  else if k = ent 0x1001 3 then some o.statesLeft
  else if k = ent 0x1002 2 then some o.rekeysLeft
  else if k = ent 0x1003 1 then some o.epoch
  else if k = ent 0x1003 2 then some o.epochsLeft
  else if k = ent 0x1003 3 then some (y.bankImage 0).epoch.toNat
  else if k = ent 0x1003 4 then some (y.bankImage 1).epoch.toNat
  else if k = ent 0x1200 2 then some o.rootLeft
  else if k = ent 0x2010 4 then some (if o.orderM1 then 1 else 0)
  else if k = ent 0x2010 5 then some o.revision
  else if 0x3C00 ≤ i ∧ i < 0x3C08 ∧ s = 9 then some (32 - o.calEpoch (i - 0x3C00))
  else if k = ent 0x2300 1 then some y.t96
  else if k = ent 0x2300 6 then some y.estError
  else if k = ent 0x2300 9 then some (y.rd k + held)
  else if k = ent 0x2303 1 then some y.clockClass
  else if k = ent 0x2303 2 then some y.clockAccuracy
  else if k = ent 0x3C80 2 then some ((((List.range 64).filter fun e => !(y.tableUsers e).isEmpty).map fun e => tablePages (y.rdB (ent (0x3C40 + e) 1))).sum)
  else if k = ent 0x41B0 3 then some (y.launches.length - y.hostLaunches.length)
  else if 0x4420 ≤ i ∧ i < 0x4430 ∧ s = 2 then some (y.view.esLevel (i - 0x4420))
  else if 0x4460 ≤ i ∧ i < 0x4466 ∧ s = 2 then some (bitsOf ((y.view.coreStreams (i - 0x4460)).map (·.1)))
  else if 0x4460 ≤ i ∧ i < 0x4466 ∧ s = 3 then some (Rat.ceil (y.view.coreLoad (i - 0x4460) * 1000 / 2000000000)).toNat
  else if k = ent 0x4470 2 then some y.view.poolUse.1
  else if k = ent 0x4470 3 then some y.view.poolUse.2
  else none

/-- The same for octet strings. -/
def Otp.computedB (o : Otp) (k : Nat) : Option Bytes :=
  if k = ent 0x1200 1 then some (o.liveRoot.getD [])
  else if k = ent 0x2303 8 then some (le 8 (clockIdentity o.dieId)).reverse
  else none

/-- The live value of an entry, whole (R126). -/
def Sys.liveValue (o : Otp) (y : Sys) (r : EntryDef) (k : Nat) : Bytes :=
  match r.type with
  | .str => (o.computedB k).getD (y.rdB k)
  | .blob _ => (o.computedB k).getD (y.rdB k)
  | t => le t.octets ((y.computed o k).getD (y.rd k))

/-- The value that the entry will have at the next latch point or boundary if nothing more is committed (R126): what the list that would be applied
there gives it. A targeted group waits for its frame, and a group that another replaces gives nothing (R137, R138). -/
def Sys.shadowValue (y : Sys) (k : Nat) : Option Bytes :=
  let due (u : CommitUnit) : Bool := match u.scope, u.target with
    | .context x, some f => (match (y.ctx x).last with | some l => decide (f ≤ l.2 + 1) | none => true)
    | _, _ => true
  valueIn (y.den.latched.filter due) k

/-! ## The event log (R754) -/

/-- The cursor as a READ finds it: moved to the oldest record where it points to one overwritten; and the records skipped. -/
def Sys.cursorFrom (y : Sys) (path source session : Nat) : Nat × Nat :=
  let c := y.cursorOf path source session
  let old := y.rd (ent 0x1300 2)
  if c < old then (old, old - c) else (c, 0)

/-- Up to n records from the cursor. -/
def Sys.recordsFrom (y : Sys) (c n : Nat) : List (Nat × EventRecord) := (y.mram.ring.filter fun p => decide (c ≤ p.1)).take n

/-- A READ of records: the cursor passes them, and those skipped are counted. -/
def Sys.readRecords (y : Sys) (path source session n : Nat) : Bytes × Sys :=
  let c := y.cursorFrom path source session
  let rs := y.recordsFrom c.1 n
  let y := if c.2 = 0 then y else y.incBy (ent 0x1300 7) c.2
  (rs.flatMap fun p => p.2.octets, y.setCursor path source session (match rs.getLast? with | some p => p.1 + 1 | none => c.1))

/-! ## A read -/

/-- What the requester gets, and the state after it: the reads of some entries take something away. -/
def Sys.readEntry (o : Otp) (y : Sys) (path source session : Nat) (role : Role) (k : Nat) (shadow : Bool) : Status × Bytes × Sys :=
  match keyDef k with
  | none => (undefinedStatus o { path := Fin.ofNat 9 path, role := role, session := BitVec.ofNat 16 session } k, [], y)
  | some r =>
    let i := k / 256
    let s := k % 256
    if r.access = .wo then (.writeOnly, [], y)
    else if !roleReaches o role r then (.role, [], y)
    else if i = 0x1300 ∧ (s = 3 ∨ s = 6) then
      let n := if s = 3 then 1 else 32
      if shadow then (.ok, (y.recordsFrom (y.cursorFrom path source session).1 n).flatMap fun p => p.2.octets, y)
      else
        let p := y.readRecords path source session n
        (.ok, p.1, p.2)
    else if k = ent 0x1300 5 then (.ok, le 4 (y.cursorOf path source session), y)
    else
      let v := y.liveValue o r k
      if shadow then (.ok, if r.access = .rwc then (y.shadowValue k).getD v else v, y)
      else if i = 0x1311 ∧ 1 ≤ s then (.ok, v, Sys.updateInt (if s ≤ 2 then y.wr k 0 else y.wrB k (List.replicate 24 0)))
      else if 0x2320 ≤ i ∧ i < 0x2340 ∧ s = 8 then (.ok, v, y.popCapture (i - 0x2320))
      else if 0x2620 ≤ i ∧ i < 0x2638 ∧ s = 0x0C then (.ok, v, (y.probeRead (i - 0x2620)).2)
      else if 0x4920 ≤ i ∧ i < 0x4930 ∧ s = 1 then (.ok, v, (y.errorLogRead (i - 0x4920)).2)
      else (.ok, v, y)

/-- EVENT_LOG_WRITE (R751 to R753): what was detected before step 8 of power-up is held until then. -/
def execEventLogWrite (s : State) : Host.Outcome State Fault Refusal :=
  onSys s fun _ y => if y.boot.phase = .running then y.logWrite else y

/-- EVENT_RECORD_READ (R754): a READ of 0x1300:03, or of 0x1300:06 where `many`. -/
def execEventRecordRead (by_ : Writer) (many : Bool) (s : State) : Host.Outcome State Fault Refusal :=
  onSys s fun o y =>
    (y.readEntry o by_.path.val 0 by_.session.toNat by_.role (ent 0x1300 (if many then 6 else 3)) false).2.2

/-- INTERRUPT_PENDING_READ (R756): a READ of 0x1311:01 to :04. -/
def execInterruptPendingRead (by_ : Writer) (which : Fin 4) (s : State) : Host.Outcome State Fault Refusal :=
  onSys s fun o y => (y.readEntry o by_.path.val 0 by_.session.toNat by_.role (ent 0x1311 (which.val + 1)) false).2.2

/-- ENDPOINT_LINK_UP (R757): vectors that could not be sent go out for the classes, mailbox pairs and queues that are still pending. -/
def execEndpointLinkUp (s : State) : Host.Outcome State Fault Refusal :=
  onSys s fun _ y =>
    let y : Sys := { y with boot := { y.boot with epLink := true } }
    let y := [IrqClass.event, .stats, .zc, .scanout, .position].foldl (fun (y : Sys) (c : IrqClass) =>
      if y.irqPending c then y.sendVector (y.rd c.vectorKey) else y) y
    let y := (List.range 16).foldl (fun (y : Sys) (p : Nat) =>
      if (y.mail (2 * p)).busy || (y.mail (2 * p + 1)).busy || !(y.mail (2 * p + 1)).inbox.isEmpty then y.sendVector (y.rd (ent (0x2710 + p) 2)) else y) y
    (List.range 16).foldl (fun (y : Sys) (q : Nat) => if (y.mq q).unread.isEmpty then y else y.sendVector (y.rd (ent (0x4900 + q) 6))) y

end Sys2Proof.Machine
end

