-- ==== Sys2Proof/Machine/Denval.lean ====
section
/-!
DEFINITION. Sys2Proof/Machine/Denval.lean: Denval frames coming in (R139 to R142): the checks a frame passes, the session it belongs to (R152,
R155), reads and writes (R126, R132, R143), and write groups (R134 to R136).
-/

namespace Sys2Proof.Machine

/-! ## A frame (R139 to R142) -/

/-- A frame that has passed the checks of its path: rank of the path, source, SRC, DST, word, function, tag, body up to BLEN. -/
structure Req where
  path : Nat
  source : Nat
  node : Nat
  dst : Nat
  word : Nat
  func : Nat
  tag : Nat
  body : Bytes
  /-- Arrival stamp in ns (R127). -/
  stamp : Nat
  deriving DecidableEq, Repr

/-- Operation: of a REQUEST or a SESSION_REQ. -/
def Req.op (r : Req) : Nat := rdLe r.body 2 1
def Req.gtag (r : Req) : Nat := rdLe r.body 3 1
/-- Packed entry name. -/
def Req.entry (r : Req) : Nat := rdLe r.body 4 2 * 256 + rdLe r.body 6 1
def Req.len (r : Req) : Nat := rdLe r.body 8 2
def Req.value (r : Req) : Bytes := slice r.body 10 r.len
/-- The trailer begins right after the value (R142). -/
def Req.wellFormed (r : Req) : Bool := r.len + 24 == r.body.length
/-- Trailer fields: session, counter, MAC. -/
def Req.session (r : Req) : Nat := rdLe r.body (r.body.length - 14) 2
def Req.counter (r : Req) : Nat := rdLe r.body (r.body.length - 12) 4
def Req.mac (r : Req) : Bytes := r.body.drop (r.body.length - 8)

/-- Rank of a path (R127). -/
def pathRank (p : DenvalPath) : Nat := match p with | .mailbox => 1 | .twin => 2 | .udp _ => 3 | .can n _ _ => 4 + n.val

/-- A path in service. -/
def Sys.pathOpen (y : Sys) (p : DenvalPath) : Bool :=
  y.boot.phase == .running && match p with
    | .mailbox => y.rd (ent 0x1102 1) == 1
    | .twin => y.twinUp
    | .udp _ => y.udpOn
    | .can n _ _ => y.canOn n.val

/-- A frame counted and discarded (R140, R146). -/
def Sys.frameRefused (y : Sys) (path : Nat) : Sys :=
  if 4 ≤ path then y.inc (ent (0x1108 + (path - 4)) 5) else y.onDen fun d => { d with discarded := (d.discarded + 1) % 2 ^ 32 }

/-- Longest body (R141), longest expedited value (R143) and segment (R144) of a path. -/
def bodyLimit (path : Nat) : Nat := if path = 2 ∨ path = 3 then 1432 else 60
def valueLimit (path : Nat) : Nat := if path = 2 ∨ path = 3 then 1408 else 36
def segmentSize (path : Nat) : Nat := if path = 2 ∨ path = 3 then 1024 else 42

/-- Functions that requesters send. -/
def isRequest (func : Nat) : Bool := func == 4 || func == 6 || func == 8 || func == 12
/-- Functions of R140 that are not reserved. -/
def isFunction (func : Nat) : Bool := func ≤ 2 || (4 ≤ func && func ≤ 8) || func == 12 || func == 13

/-- Least body of a function: what its fields and trailer take. -/
def bodyOk (func : Nat) (b : Bytes) : Bool :=
  match func with
  | 4 => decide (24 ≤ b.length)
  | 6 => decide (18 ≤ b.length)
  | 8 => b.length == 20
  | 12 => (match rdLe b 2 1 with | 1 => b.length == 48 | 2 => b.length == 38 | 3 => b.length == 38 | 5 => b.length == 17 | _ => false)
  | _ => true

/-- Nodes of the array that the head answers for (R684). -/
def Sys.fronts (y : Sys) (dst : Nat) : Bool := y.arrayHead && decide (y.node < dst) && decide (dst < y.node + y.rd (ent 0x4C00 1))

/-- A frame in MB0 leaves its inbox (R149). -/
def Sys.mailTaken (y : Sys) (f : DenvalFrame) : Sys :=
  match f.path with
  | .mailbox =>
    let b := y.mail 0
    if b.inbox.head? = some (slice (le 4 f.word.toNat ++ f.body) 0 64) then Sys.mailPending (y.setMail 0 { b with inbox := b.inbox.drop 1 }) else y
  | _ => y

/-- The bus state of the port a frame came on: ERROR_PASSIVE or ERROR_ACTIVE, as its error counters stand under ISO 11898-1 (R146, R160). -/
def Sys.canErrors (y : Sys) (f : DenvalFrame) : Sys :=
  match f.path with
  | .can n _ passive => if y.rd (ent (0x1108 + n.val) 7) ≤ 1 then y.wr (ent (0x1108 + n.val) 7) (if passive then 1 else 0) else y
  | _ => y

/-- A frame for the Felley partner goes to it with its path rank and its stamp (R721); with equal node IDs none does. -/
def Sys.forwards (y : Sys) (dst : Nat) : Bool :=
  y.rd (ent 0x4D00 1) != 0 && y.rd (ent 0x4D00 2) == 1 && dst != 0 && dst != y.node && dst == (y.link 4).node
def Sys.forward (y : Sys) (path source word : Nat) (body : Bytes) : Sys :=
  y.control 4 .forward (le 1 0 ++ le 1 path ++ le 6 source ++ le 8 y.ns ++ le 4 word ++ body)

/-- The checks that a frame passes before its function is looked at; counts follow. SHADOW answers nothing on CAN (R693). -/
def Sys.takeFrame (y : Sys) (f : DenvalFrame) : Option Req × Sys :=
  let path := pathRank f.path
  if !y.pathOpen f.path then (none, y)
  else
    let y := (y.mailTaken f).canErrors f
    let carried := match f.path with | .udp frag => !frag | .can _ fd _ => fd | _ => true
    let word := if 4 ≤ path then f.word.toNat % 2 ^ 29 else f.word.toNat
    let func := word / 2 ^ 24
    let dst := word / 2 ^ 17 % 128
    let node := word / 2 ^ 10 % 128
    let blen := rdLe f.body 0 2
    let body := f.body.take blen
    if !carried || 32 ≤ func || !isFunction func || (isRequest func && dst == 0) || node == 0 || decide (blen < 2) || decide (f.body.length < blen) ||
      decide (bodyLimit path < blen) || !bodyOk func body then (none, y.frameRefused path)
    else
      let y := if 4 ≤ path then y.inc (ent (0x1108 + (path - 4)) 4) else y
      let source := match f.path with | .udp _ => f.source.toNat | .can _ _ _ => node | _ => 0
      if y.forwards dst then (none, y.forward path source word body)
      else if (dst ≠ y.node ∧ !y.fronts dst) ∨ (y.isShadow ∧ 4 ≤ path ∧ isRequest func) then (none, y)
      else
        (some ⟨path, source, node, dst, word, func, word % 1024, body, y.ns⟩, y)

/-- The step of a command that is a frame: a frame of another function or operation is another command's, and changes nothing here. -/
def frameStep (s : State) (f : DenvalFrame) (mine : Req → Bool) (h : Otp → Sys → Req → Sys) : Host.Outcome State Fault Refusal :=
  onSys s fun o y => match y.takeFrame f with
    | (none, z) => z
    | (some r, z) => if mine r then h o z r else y

/-- A REQUEST with the operation. -/
def isOp (n : Nat) (r : Req) : Bool := r.func == 4 && r.op == n

/-! ## Sessions of frames (R152, R155) -/

/-- The answer to a frame. -/
def Sys.respond (y : Sys) (r : Req) (sid : Nat) (st : Status) (pos : Nat) (value : Bytes) : Sys :=
  if r.func = 4 then y.response r.path r.source r.node sid r.tag r.op st r.entry pos value
  else y.response r.path r.source r.node sid r.tag 0 st 0 pos value

/-- AUTH (R155, R162): in a response of session 0, without a value; five within a second close the session. -/
def Sys.authFailed (y : Sys) (r : Req) (s : Session) (reason : Nat) : Sys :=
  let y := (y.inc (ent 0x1103 4)).raiseLimited s.id 0x0403 255 (ev [(0, 1, r.path), (1, 1, r.node), (2, 2, s.id), (4, 1, reason)])
  let y := y.respond r 0 .auth 0 []
  let fails := (s.authFails.filter fun t => decide (y.up < t + 1000000000)) ++ [y.up]
  if 5 ≤ fails.length then y.closeSession s.id else y.setSession { s with authFails := fails }

/-- Session, role and counter of an authenticated frame; session 0 is not checked. -/
def Sys.authenticate (y : Sys) (r : Req) : Option (Nat × Role × Nat) × Sys :=
  if r.session = 0 then (some (0, .observer, r.counter), y)
  else
    match (y.session? r.session).filter (·.established) with
    | none => (none, y.respond r 0 .session 0 [])
    | some s =>
      if s.path ≠ r.path ∨ s.source ≠ r.source then (none, y.authFailed r s 2)
      else if macOf s.keyIn r.word (r.body.take (r.body.length - 8)) ≠ r.mac then (none, y.authFailed r s 0)
      else if r.counter ≤ s.counterIn then (none, y.authFailed r s 1)
      else (some (s.id, s.role, r.counter), y.setSession { s with counterIn := r.counter, lastFrame := y.up })

/-- Who sends, as the commit point knows it. -/
def Req.writer (r : Req) (sid : Nat) (role : Role) : Writer := { path := Fin.ofNat 9 r.path, role := role, session := BitVec.ofNat 16 sid }

/-- The array position addressed, where it is not the module's own (R684). -/
def Sys.positionOf (y : Sys) (dst : Nat) : Option Nat := if dst = y.node then none else some (dst - y.node)

/-- A unit as it arrives, with its stamp (R127). -/
def Sys.unitOf (y : Sys) (r : Req) (sid : Nat) (role : Role) (counter op : Nat) (members : List (Nat × Bytes)) : CommitUnit :=
  { slot := r.stamp / 100000, path := r.path, role := role, stamp := r.stamp, counter := counter, session := sid, source := r.source, node := r.node, tag := r.tag,
    gtag := 0, op := op, scope := .single, target := none, members := members, position := y.positionOf r.dst, origin := none }

/-- Another member does what is asked and answers; the head keeps the request (R684). -/
def Sys.frontSend (y : Sys) (p : Nat) (u : CommitUnit) : Sys :=
  match y.posLink p with
  | none => y.answer u .state 0 0
  | some k =>
    let n := y.twin.nextFront
    let y := y.onTwin fun t => { t with nextFront := (n + 1) % 2 ^ 32, fronted := t.fronted ++ [(n, u)] }
    y.control k .frontApply (le 4 n ++ le 1 u.op ++ u.octets)

/-- A unit enters the commit point. That of an array member goes to the head, with its stamp, role and path rank (R684). -/
def Sys.submitUnit (y : Sys) (u : CommitUnit) : Sys :=
  let head := y.rd (ent 0x4C01 6)
  match (if y.view.role = 3 ∧ !y.roleShadow ∧ y.arrayPos ≠ head then y.posLink head else none) with
  | some k =>
    let n := y.twin.nextFront
    let y := y.onTwin fun t => { t with nextFront := (n + 1) % 2 ^ 32, fronted := t.fronted ++ [(n, u)] }
    y.control k .frontUnit (le 4 n ++ le 1 y.arrayPos ++ le 1 u.path ++ le 1 u.op ++ le 4 u.counter ++ u.octets)
  | none => y.onDen fun d => { d with units := d.units ++ [u] }

/-! ## READ and WRITE (R126, R132, R143) -/

/-- A READ or READ_SHADOW: a value that does not fit is refused, and nothing is taken away. -/
def Sys.denvalRead (o : Otp) (y : Sys) (r : Req) (sid : Nat) (role : Role) (counter : Nat) (shadow : Bool) : Sys :=
  if !r.wellFormed || r.len != 0 then y.respond r sid .protocol 0 []
  else
    match y.positionOf r.dst with
    | some p => y.frontSend p (y.unitOf r sid role counter r.op [(r.entry, [])])
    | none =>
      let v := y.readEntry o r.path r.source sid role r.entry shadow
      if v.1 ≠ .ok then y.respond r sid v.1 0 []
      else if valueLimit r.path < v.2.1.length then y.respond r sid .type 0 []
      else v.2.2.respond r sid .ok 0 v.2.1

/-- The arrival checks as far as the addressed dictionary is at hand: another member's own rules are judged there, at its commit. -/
def Sys.arrivalAt (o : Otp) (y : Sys) (r : Req) (w : Writer) (k : Nat) (v : Bytes) : Status × Sys :=
  match y.positionOf r.dst with
  | none => y.arrival o w k v
  | some _ => (y.tableCheck o w k v, y)

/-- A WRITE, or a completed segmented write: refused at once, or a unit of the slot of its stamp; the cursor is no unit (R754). -/
def Sys.denvalWrite (o : Otp) (y : Sys) (r : Req) (sid : Nat) (role : Role) (counter op k : Nat) (v : Bytes) : Sys :=
  let w := r.writer sid role
  let tell (y : Sys) (st : Status) : Sys := y.response r.path r.source r.node sid r.tag op st k 0 []
  let a := y.arrivalAt o r w k v
  if a.1 ≠ .ok then tell a.2 a.1
  else if k = ent 0x1300 5 ∧ (y.positionOf r.dst).isNone then tell (y.setCursor r.path r.source sid (unLe v)) .ok
  else y.submitUnit (y.unitOf r sid role counter op [(k, v)])

/-- What a function does with an authenticated frame: session, role, counter. -/
abbrev Handler := Otp → Sys → Req → Nat → Role → Nat → Sys

/-- A frame is authenticated before it is handled; one with the session's last counter closes it, once answered (R155). -/
def authed (h : Handler) (o : Otp) (y : Sys) (r : Req) : Sys :=
  match y.authenticate r with
  | (none, z) => z
  | (some (sid, role, counter), z) => Sys.lastAnswered (h o z r sid role counter) sid counter

/-- An authenticated REQUEST. -/
def requestStep (s : State) (f : DenvalFrame) (mine : Req → Bool) (h : Handler) : Host.Outcome State Fault Refusal :=
  frameStep s f mine (authed h)

/-- DENVAL_READ; an operation that is not defined is answered here too. -/
def denvalReadFrame : Handler := fun o y r sid role counter =>
    if r.op = 1 then y.denvalRead o r sid role counter false else y.respond r sid (if sid = 0 then .role else .protocol) 0 []

def execDenvalRead (frame : DenvalFrame) (s : State) : Host.Outcome State Fault Refusal :=
  requestStep s frame (fun r => isOp 1 r || (r.func == 4 && (r.op == 0 || decide (9 < r.op)))) denvalReadFrame

/-- DENVAL_READ_SHADOW. -/
def denvalReadShadowFrame : Handler := fun o y r sid role counter =>
    y.denvalRead o r sid role counter true

def execDenvalReadShadow (frame : DenvalFrame) (s : State) : Host.Outcome State Fault Refusal :=
  requestStep s frame (isOp 2) denvalReadShadowFrame

/-- DENVAL_WRITE. -/
def denvalWriteFrame : Handler := fun o y r sid role counter =>
    if !r.wellFormed then y.respond r sid .protocol 0 [] else y.denvalWrite o r sid role counter 3 r.entry r.value

def execDenvalWrite (frame : DenvalFrame) (s : State) : Host.Outcome State Fault Refusal :=
  requestStep s frame (isOp 3) denvalWriteFrame

/-! ## Write groups (R134 to R136) -/

/-- The scope that a code and an instance name (R135). -/
def scopeOf (code inst : Nat) : Option Scope :=
  match code with
  | 0 => if inst = 0 then some .immediate else none
  | 1 => if inst < 16 then some (.context inst) else none
  | 2 => if inst < 24 then some (.output inst) else none
  | 3 => if inst < 8 then some (.lockGroup inst) else none
  | _ => none

/-- The member's entry lies in the scope, with an access code the scope admits. -/
def Sys.inScope (y : Sys) (sc : Scope) (k : Nat) (v : Bytes) : Bool :=
  let access := (keyDef k).map (·.access)
  match sc with
  | .context x => access == some .rwc && ownerOf y k (unLe v) == .context x
  | .output c => access == some .rwc && ownerOf y k (unLe v) == .output c
  | .lockGroup l => access == some .rwc && (match ownerOf y k (unLe v) with | .output c => y.lockGroup c == some l | _ => false)
  | _ => (access == some .rw || access == some .rwl || access == some .wo) && k != ent 0x1300 5

/-- A group request that concerns a group: session 0 has none (R152). -/
def groupHandler (h : Otp → Sys → Req → Session → Nat → Sys) : Handler := fun o y r sid _ counter =>
  if !r.wellFormed then y.respond r sid .protocol 0 []
  else match y.session? sid with
    | none => y.respond r sid .role 0 []
    | some g => h o y r g counter

/-- GROUP_BEGIN. -/
def Sys.groupBegin (y : Sys) (r : Req) (s : Session) : Sys :=
  let v := r.value
  let flags := rdLe v 2 1
  if s.group.isSome then y.respond r s.id .busy 0 []
  else if v.length ≠ 8 then y.respond r s.id .type 0 []
  else if r.gtag = 0 ∨ 1 < flags ∨ rdLe v 3 1 ≠ 0 then y.respond r s.id .range 0 []
  else
    match scopeOf (rdLe v 0 1) (rdLe v 1 1) with
    | none => y.respond r s.id .range 0 []
    | some sc =>
      if flags = 1 ∧ rdLe v 0 1 ≠ 1 then y.respond r s.id .scope 0 []
      else
        let g : Group := { gtag := r.gtag, tag := r.tag, scope := sc, target := if flags = 1 then some (rdLe v 4 4) else none, members := [], failed := none,
                           openedAt := y.up }
        Sys.respond (y.setSession { s with group := some g }) r s.id .ok 0 []

def groupBeginFrame : Handler := groupHandler fun _ y r g _ =>
    y.groupBegin r g

def execGroupBegin (frame : DenvalFrame) (s : State) : Host.Outcome State Fault Refusal := requestStep s frame (isOp 5) groupBeginFrame

/-- GROUP_MEMBER: held, or refused at once, which marks the group failed. Its arrival checks come before its scope. -/
def Sys.groupMember (o : Otp) (y : Sys) (r : Req) (s : Session) : Sys :=
  match s.group.filter fun g => g.gtag == r.gtag with
  | none => y.respond r s.id .protocol 0 []
  | some g =>
    let k := r.entry
    let v := r.value
    let a := y.arrivalAt o r (r.writer s.id s.role) k v
    let size := (g.members.map fun m => m.2.length).sum + v.length
    let st := if a.1 ≠ .ok then a.1 else if !y.inScope g.scope k v then .scope else if 64 ≤ g.members.length ∨ 4096 < size then .busy else .ok
    let g := { g with members := g.members ++ [(k, v)] }
    if st = .ok then y.setSession { s with group := some g }
    else
      let g := { g with failed := g.failed <|> some (st, k, g.members.length) }
      Sys.respond (y.setSession { s with group := some g }) r s.id st g.members.length []

def groupMemberFrame : Handler := groupHandler fun o y r g _ =>
    y.groupMember o r g

def execGroupMember (frame : DenvalFrame) (s : State) : Host.Outcome State Fault Refusal := requestStep s frame (isOp 4) groupMemberFrame

/-- GROUP_COMMIT: one unit, or the first refusal. -/
def Sys.groupCommit (y : Sys) (r : Req) (s : Session) (counter : Nat) : Sys :=
  match s.group.filter fun g => g.gtag == r.gtag with
  | none => y.respond r s.id .protocol 0 []
  | some g =>
    let y := y.setSession { s with group := none }
    match g.failed with
    | some f => y.response r.path r.source r.node s.id r.tag 6 f.1 f.2.1 f.2.2 []
    | none => y.submitUnit { y.unitOf r s.id s.role counter 6 g.members with gtag := g.gtag, scope := g.scope, target := g.target }

def groupCommitFrame : Handler := groupHandler fun _ y r g counter =>
    y.groupCommit r g counter

def execGroupCommit (frame : DenvalFrame) (s : State) : Host.Outcome State Fault Refusal := requestStep s frame (isOp 6) groupCommitFrame

/-- GROUP_TIMEOUT: the open group of a session is discarded. -/
def execGroupTimeout (session : BitVec 16) (s : State) : Host.Outcome State Fault Refusal :=
  onSys s fun _ y =>
    match y.session? session.toNat with
    | none => y
    | some u =>
      match u.group with
      | none => y
      | some g => Sys.response (y.setSession { u with group := none }) u.path u.source u.node u.id g.tag 5 .timeout 0 0 []

end Sys2Proof.Machine
end

