-- ==== Sys2Proof/Machine/Transfers.lean ====
section
/-!
DEFINITION. Sys2Proof/Machine/Transfers.lean: segmented transfers (R143 to R145) and the set-up, closing and lockout of sessions (R153, R154, R156).
-/

namespace Sys2Proof.Machine

/-! ## Segmented transfers (R144) -/

/-- The open transfer that a frame of a session belongs to. -/
def Sys.transfer? (y : Sys) (r : Req) (sid : Nat) (write : Bool) : Option Transfer :=
  y.den.transfers.find? fun t => t.session == sid && t.path == r.path && t.source == r.source && t.tag == r.tag && t.write == write

/-- The same transfer. -/
def Transfer.same (t u : Transfer) : Bool :=
  t.session == u.session && t.path == u.path && t.source == u.source && t.tag == u.tag && t.write == u.write

def Sys.setTransfer (y : Sys) (t : Transfer) : Sys := y.onDen fun d => { d with transfers := d.transfers.map fun u => if u.same t then t else u }
def Sys.endTransfer (y : Sys) (t : Transfer) : Sys := y.onDen fun d => { d with transfers := d.transfers.filter fun u => !u.same t }

/-- No further transfer: four of a session, or 32 in all (R145). -/
def Sys.transfersFull (y : Sys) (r : Req) (sid : Nat) : Bool :=
  decide (32 ≤ y.den.transfers.length) ||
    decide (4 ≤ (y.den.transfers.filter fun t => t.session == sid && t.path == r.path && t.source == r.source).length)

/-- Segments of the transfer. -/
def Transfer.count (t : Transfer) : Nat := (t.total + segmentSize t.path - 1) / segmentSize t.path

/-- One SEG_UP. -/
def Sys.segmentUp (y : Sys) (t : Transfer) (n : Nat) : Sys :=
  let size := segmentSize t.path
  y.reply t.path t.source t.node t.session .segUp t.tag (le 2 n ++ (t.data.drop (n * size)).take size)

/-- Segments go out until 16 are unacknowledged. -/
def Sys.segmentsUp (y : Sys) (t : Transfer) : Sys :=
  let last := min t.count (t.acked + 16)
  let y := y.setTransfer { t with next := max t.next last }
  (List.range (last - t.next)).foldl (fun (y : Sys) (i : Nat) => y.segmentUp t (t.next + i)) y

/-- A segmented read: the value is captured whole (also where another member's answer brings it). -/
def Sys.openRead (y : Sys) (r : Req) (sid : Nat) (v : Bytes) : Sys :=
  let y := y.respond r sid .ok 0 (le 4 v.length)
  if v.isEmpty then y
  else
    let t : Transfer := { path := r.path, session := sid, source := r.source, node := r.node, tag := r.tag, write := false, entry := r.entry,
                          total := v.length, data := v, next := 0, acked := 0, lastFrame := y.up }
    Sys.segmentsUp (y.onDen fun d => { d with transfers := d.transfers ++ [t] }) t

/-- SEG_READ_INIT. -/
def segReadInitFrame : Handler := fun o y r sid role counter =>
    if !r.wellFormed || (y.transfer? r sid false).isSome || (y.transfer? r sid true).isSome then y.respond r sid .protocol 0 []
    else if y.transfersFull r sid then y.respond r sid .busy 0 []
    else
      match y.positionOf r.dst with
      | some p => y.frontSend p (y.unitOf r sid role counter 7 [(r.entry, [])])
      | none =>
        let v := y.readEntry o r.path r.source sid role r.entry false
        if v.1 ≠ .ok then y.respond r sid v.1 0 [] else v.2.2.openRead r sid v.2.1

def execSegReadInit (frame : DenvalFrame) (s : State) : Host.Outcome State Fault Refusal :=
  requestStep s frame (isOp 7) segReadInitFrame

/-- A length that the entry's type admits. -/
def EntryDef.lengthOk (r : EntryDef) (n : Nat) : Bool :=
  match r.type with
  | .str => decide (n ≤ 255)
  | .blob l => l.any fun p => decide (p.1 ≤ n) && decide (n ≤ p.2)
  | t => n == t.octets

/-- What SEG_WRITE_INIT is refused for (R144 step 2). -/
def Sys.segmentedStatus (o : Otp) (w : Writer) (k n : Nat) : Status :=
  match keyDef k with
  | none => if o.life = 4 ∧ k / 256 / 4096 = 10 then .state else undefinedStatus o w k
  | some r =>
    if r.access = .ro then .readOnly
    else if sessionZero w || !roleReaches o w.role r then .role
    else if 1048576 < n ∨ !r.lengthOk n then .type
    else .ok

/-- SEG_WRITE_INIT. A value of no octets is complete at once. -/
def segWriteInitFrame : Handler := fun o y r sid role counter =>
    let total := rdLe r.value 0 4
    if !r.wellFormed || r.len != 4 || (y.transfer? r sid false).isSome || (y.transfer? r sid true).isSome then y.respond r sid .protocol 0 []
    else
      let st := Sys.segmentedStatus o (r.writer sid role) r.entry total
      if st ≠ .ok then y.respond r sid st 0 []
      else if y.transfersFull r sid then y.respond r sid .busy 0 []
      else
        let y := y.respond r sid .ok 0 []
        if total = 0 then y.denvalWrite o r sid role counter 8 r.entry []
        else
          let t : Transfer := { path := r.path, session := sid, source := r.source, node := r.node, tag := r.tag, write := true, entry := r.entry,
                                total := total, data := [], next := 0, acked := 0, lastFrame := y.up }
          y.onDen fun d => { d with transfers := d.transfers ++ [t] }

def execSegWriteInit (frame : DenvalFrame) (s : State) : Host.Outcome State Fault Refusal :=
  requestStep s frame (isOp 8) segWriteInitFrame

/-- The module's SEG_ACK: the next segment it expects. -/
def Sys.segmentAck (y : Sys) (t : Transfer) (n : Nat) : Sys := y.reply t.path t.source t.node t.session .segAck t.tag (le 2 n ++ [0, 0])

/-- A segment in order: an acknowledgement after each 16th and after the last; a segment out of order is discarded, and told once. -/
def Sys.segmentDown (o : Otp) (y : Sys) (r : Req) (t : Transfer) (role : Role) (counter : Nat) : Sys :=
  let n := rdLe r.body 2 2
  let data := (r.body.drop 4).take (r.body.length - 18)
  let size := segmentSize t.path
  let t := { t with lastFrame := y.up }
  if n ≠ t.next then
    if t.acked = t.next + 1 then y.setTransfer t else Sys.segmentAck (y.setTransfer { t with acked := t.next + 1 }) t t.next
  else if data.length ≠ min size (t.total - t.data.length) then Sys.respond (y.setTransfer t) r t.session .protocol 0 []
  else
    let u := { t with data := t.data ++ data, next := t.next + 1 }
    let done := t.total ≤ u.data.length
    let y := if done ∨ u.next % 16 = 0 then Sys.segmentAck (y.setTransfer u) u u.next else y.setTransfer u
    if done then Sys.denvalWrite o (y.endTransfer u) r t.session role counter 8 t.entry u.data else y

/-- SEG_DOWN. -/
def segDownFrame : Handler := fun o y r sid role counter =>
    match y.transfer? r sid true with
    | none => y.respond r sid .protocol 0 []
    | some t => y.segmentDown o r t role counter

def execSegDown (frame : DenvalFrame) (s : State) : Host.Outcome State Fault Refusal :=
  requestStep s frame (fun r => r.func == 6) segDownFrame

/-- SEG_ACK: the requester names the next segment it expects; a number below what has gone out asks for it again. -/
def segAckFrame : Handler := fun _ y r sid _ _ =>
    match y.transfer? r sid false with
    | none => y.respond r sid .protocol 0 []
    | some t =>
      let n := rdLe r.body 2 2
      if n < t.acked ∨ t.next < n then y.respond r sid .protocol 0 []
      else if t.count ≤ n then y.endTransfer t
      else y.segmentsUp { t with acked := n, next := n, lastFrame := y.up }

def execSegAck (frame : DenvalFrame) (s : State) : Host.Outcome State Fault Refusal :=
  requestStep s frame (fun r => r.func == 8) segAckFrame

/-- DENVAL_ABORT: the transfer or the open group of the TAG (R145). -/
def denvalAbortFrame : Handler := fun _ y r sid _ _ =>
    let tag := rdLe r.value 0 2
    if sid = 0 then y.respond r sid .role 0 []
    else if !r.wellFormed || r.len != 2 then y.respond r sid .protocol 0 []
    else
      let mine := y.den.transfers.filter fun t => t.session == sid && t.tag == tag
      match y.session? sid with
      | none => y
      | some u =>
        let group := u.group.any fun g => g.tag == tag
        if mine.isEmpty && !group then y.respond r sid .protocol 0 []
        else
          let y := y.onDen fun d => { d with transfers := d.transfers.filter fun t => !(t.session == sid && t.tag == tag) }
          let y := if group then y.setSession { u with group := none } else y
          y.respond r sid .aborted 0 []

def execDenvalAbort (frame : DenvalFrame) (s : State) : Host.Outcome State Fault Refusal :=
  requestStep s frame (isOp 9) denvalAbortFrame

/-- TRANSFER_TIMEOUT (R145), with the octets that its receiver has: those of the segments taken, or of those acknowledged: the transfer of a session and a tag; session 0 has them per path and source. -/
def execTransferTimeout (path : DenvalPath) (source : BitVec 48) (session : BitVec 16) (tag : BitVec 10) (s : State) : Host.Outcome State Fault Refusal :=
  onSys s fun _ y =>
    match y.den.transfers.find? fun t => t.path == pathRank path && t.source == source.toNat && t.session == session.toNat && t.tag == tag.toNat with
    | none => y
    | some t =>
      let y := Sys.response (y.endTransfer t) t.path t.source t.node t.session t.tag (if t.write then 8 else 7) .timeout t.entry 0 []
      y.raise 0x040A 255 (ev [(0, 1, t.path), (2, 2, t.session), (4, 2, t.tag), (6, 4, if t.write then t.data.length else min t.data.length (t.acked * segmentSize t.path))])

/-! ## Session set-up (R153, R154, R156) -/

/-- A SESSION_RSP that is not authenticated: operation and the fields from byte 3. -/
def Sys.sessionRsp (y : Sys) (r : Req) (op : Nat) (fields : Bytes) : Sys :=
  y.frameOut r.path r.source r.node .sessionRsp r.tag (le 2 (fields.length + 3) ++ le 1 op ++ fields)

/-- HELLO_REPLY without a session. -/
def Sys.helloRefused (y : Sys) (r : Req) (st : Status) : Sys := y.sessionRsp r 0x81 (le 1 st.code ++ List.replicate 42 0)

/-- A failed set-up (R156): event 0x0404; the eighth within 10 s locks its source out. -/
def Sys.setupFailed (y : Sys) (path source node role : Nat) (st : Status) (cred : Nat) : Sys :=
  let y := (y.inc (ent 0x1103 3)).raise 0x0404 255 (ev [(0, 1, path), (1, 1, node), (2, 1, role), (3, 1, st.code), (4, 4, cred)])
  let key := sourceKey path source
  let fails := (y.den.helloFails.filter fun p => p.1 == key && decide (y.up < p.2 + 10000000000)) ++ [(key, y.up)]
  let others := y.den.helloFails.filter fun p => p.1 != key
  if fails.length < 8 then y.onDen fun d => { d with helloFails := others ++ fails }
  else
    let y := y.onDen fun d => { d with helloFails := others, lockouts := (key, y.up + 10000000000) :: d.lockouts }
    (y.inc (ent 0x1103 5)).raise 0x0405 255 (ev [(0, 1, path), (1, 1, node), (4, 4, if path = 3 then source / 65536 else 0)])

/-- The role that a code asks for. -/
def roleOfCode (n : Nat) : Role := match n with | 1 => .operator | 2 => .integrator | 3 => .custodian | 4 => .kilvan | _ => .observer

/-- The role is available in the life-cycle state (R167). -/
def Otp.roleOpen (o : Otp) (n : Nat) : Bool :=
  if o.factory then n == 4 else if o.life == 3 || o.life == 4 then 1 ≤ n && n ≤ 3 else false

/-- A session identifier that is not in use, from 1 to 0xFFFF, next after the last given. -/
def Sys.freeSession (y : Sys) : Nat :=
  ((List.range 33).map fun i => (y.den.nextSession + i - 1) % 65535 + 1).find? (fun n => !(y.den.sessions.any fun s => s.id == n)) |>.getD 1

/-- SESSION_HELLO: the credential is looked up, the role checked, and the set-up begun; or HELLO_REPLY says why not. -/
def Sys.hello (o : Otp) (y : Sys) (r : Req) : Sys :=
  let role := rdLe r.body 3 1
  let cred := rdLe r.body 4 4
  let fail (y : Sys) (st : Status) : Sys := (y.helloRefused r st).setupFailed r.path r.source r.node role st cred
  let bound := (y.credential cred).filter fun c => y.credAccepted o c
  if (y.den.lockouts.lookup (sourceKey r.path r.source)).isSome then y.helloRefused r .auth
  else if 32 ≤ y.den.sessions.length then fail y .busy
  else if role = 0 ∨ 4 < role then fail y .protocol
  else if !o.roleOpen role then fail y .role
  else
    match bound with
    | none => fail y .auth
    | some c =>
      -- a module in a factory state may hold no device key yet, or none any more (R167)
      if y.sec.key.isNone && !o.factory then fail y .auth
      else if credRole c < role then fail y .role
      else
        let nonce := y.freeBytes 8
        let priv := nonce.2.freeBytes 32
        let y := priv.2
        let theirs := slice r.body 16 32
        let secret := x25519 priv.1 theirs
        if secret.all (· == 0) then fail y .auth
        else
          let id := y.freeSession
          let fields := le 1 0 ++ le 2 id ++ nonce.1 ++ xPublic priv.1
          let h := sha256 (r.body ++ le 2 46 ++ le 1 0x81 ++ fields)
          let keys := hkdf secret (slice r.body 8 8 ++ nonce.1) ([0x44, 0x4E, 0x56, 0x31] ++ le 2 id) 64
          let sig := y.sign h
          let u : Session := { id := id, established := false, path := r.path, source := r.source, node := r.node, role := roleOfCode role, credential := cred,
                               transcript := h, keyIn := slice keys 0 32, keyOut := slice keys 32 32, proofA := none, counterIn := 0, counterOut := 0,
                               helloAt := y.up, lastFrame := y.up, idleTimeout := y.rd (ent 0x1103 2), authFails := [], group := none, cursor := 0 }
          let y := y.onDen fun d => { d with sessions := d.sessions ++ [u], nextSession := id % 65535 + 1 }
          let y := y.sessionRsp r 0x81 fields
          let y := y.sessionRsp r 0x82 (le 1 0 ++ le 2 id ++ slice sig 0 32)
          y.sessionRsp r 0x83 (le 1 0 ++ le 2 id ++ slice sig 32 32)

def sessionHelloFrame : Otp → Sys → Req → Sys := fun o y r =>
    y.hello o r

def execSessionHello (frame : DenvalFrame) (s : State) : Host.Outcome State Fault Refusal :=
  frameStep s frame (fun r => r.func == 12 && r.op == 1) sessionHelloFrame

/-- The set-up that a PROOF belongs to. -/
def Sys.setup? (y : Sys) (r : Req) : Option Session :=
  y.den.sessions.find? fun s => !s.established && s.id == rdLe r.body 4 2 && s.path == r.path && s.source == r.source

/-- SESSION_PROOF_A: the first half waits for the second. -/
def sessionProofAFrame : Otp → Sys → Req → Sys := fun _ y r =>
    match y.setup? r with
    | none => y.respond r 0 .session 0 []
    | some u => y.setSession { u with proofA := some (slice r.body 6 32) }

def execSessionProofA (frame : DenvalFrame) (s : State) : Host.Outcome State Fault Refusal :=
  frameStep s frame (fun r => r.func == 12 && r.op == 2) sessionProofAFrame

/-- A set-up ends without a session. -/
def Sys.setupEnds (y : Sys) (u : Session) (st : Status) : Sys :=
  Sys.setupFailed (y.onDen fun d => { d with sessions := d.sessions.filter fun s => s.id != u.id }) u.path u.source u.node (Role.rank u.role) st u.credential

/-- SESSION_PROOF_B: the credential's signature over the transcript is verified, and ESTABLISHED goes out under the session's keys. -/
def sessionProofBFrame : Otp → Sys → Req → Sys := fun o y r =>
    match y.setup? r with
    | none => y.respond r 0 .session 0 []
    | some u =>
      let key := ((y.credential u.credential).filter fun c => y.credAccepted o c).map credKey
      let ok := match key, u.proofA with
        | some k, some a => edVerify k u.transcript (a ++ slice r.body 6 32)
        | _, _ => false
      let st := if ok then Status.ok else .auth
      let y := y.setSession { u with established := ok, lastFrame := y.up, cursor := y.rd (ent 0x1300 4) }
      let y := y.reply r.path r.source r.node u.id .sessionRsp r.tag (le 1 0x84 ++ le 1 st.code ++ le 2 u.id ++ le 1 (Role.rank u.role) ++ [0] ++ le 2 u.idleTimeout)
      if ok then y.showSessions else y.setupEnds u .auth

def execSessionProofB (frame : DenvalFrame) (s : State) : Host.Outcome State Fault Refusal :=
  frameStep s frame (fun r => r.func == 12 && r.op == 3) sessionProofBFrame

/-- SESSION_SETUP_TIMEOUT: no proof 1 s after HELLO. Byte 3 of event 0x0404 is TIMEOUT then: R161 names no status for this case (DESIGN CHOICE, log
entry 53). -/
def execSessionSetupTimeout (session : BitVec 16) (s : State) : Host.Outcome State Fault Refusal :=
  onSys s fun _ y =>
    match (y.session? session.toNat).filter (fun u => !u.established) with
    | none => y
    | some u => y.setupEnds u .timeout

/-- SESSION_CLOSE: an authenticated frame. -/
def sessionCloseFrame : Otp → Sys → Req → Sys := fun _ y r =>
    match y.authenticate r with
    | (none, z) => z
    | (some (sid, _, _), z) => if sid = 0 then z.respond r 0 .role 0 [] else z.closeSession sid

def execSessionClose (frame : DenvalFrame) (s : State) : Host.Outcome State Fault Refusal :=
  frameStep s frame (fun r => r.func == 12 && r.op == 5) sessionCloseFrame

/-- SESSION_IDLE_TIMEOUT. -/
def execSessionIdleTimeout (session : BitVec 16) (s : State) : Host.Outcome State Fault Refusal :=
  onSys s fun _ y => if (y.session? session.toNat).any (·.established) then y.closeSession session.toNat else y

/-- LOCKOUT_END. -/
def execLockoutEnd (path : DenvalPath) (source : BitVec 48) (s : State) : Host.Outcome State Fault Refusal :=
  onSys s fun _ y => y.onDen fun d => { d with lockouts := d.lockouts.filter fun p => p.1 != sourceKey (pathRank path) source.toNat }

end Sys2Proof.Machine
end

