-- ==== Sys2Proof/Machine/Paths.lean ====
section
/-!
DEFINITION. Sys2Proof/Machine/Paths.lean: heartbeats and time messages (R157, R159), CAN bus-off (R147) and the debug console (R150).
-/

namespace Sys2Proof.Machine

/-! ## Heartbeats and time messages -/

/-- HEARTBEAT_SEND (R157). -/
def execHeartbeatSend (s : State) : Host.Outcome State Fault Refusal :=
  onSys s fun _ y =>
    if y.boot.phase ≠ .running then y
    else
      let state := if y.boot.strapFault then 3 else if y.boot.degraded then 2 else 1
      let n := y.den.heartbeatSeq
      let body := le 2 16 ++ le 1 state ++ le 1 (y.rd (ent 0x2010 1)) ++ le 1 y.twinRole ++ le 1 (y.rd (ent 0x2300 2)) ++ le 2 n ++ le 8 y.ns
      Sys.broadcast (y.onDen fun d => { d with heartbeatSeq := (n + 1) % 65536 }) .heartbeat true body

/-- TIME_SYNC_SEND (R159): SYNC on every enabled CAN port, unless the period is 0. -/
def execTimeSyncSend (s : State) : Host.Outcome State Fault Refusal :=
  onSys s fun _ y =>
    if y.boot.phase ≠ .running ∨ y.rd (ent 0x1100 3) = 0 then y
    else
      let n := (y.den.timeSeq + 1) % 256
      Sys.broadcast (y.onDen fun d => { d with timeSeq := n }) .time false (le 2 4 ++ le 1 0 ++ le 1 n)

/-- TIME_FOLLOW_SEND (R159): the SYNC frame of a port has gone out at the present T96. -/
def execTimeFollowSend (port : Fin 4) (s : State) : Host.Outcome State Fault Refusal :=
  onSys s fun _ y =>
    if y.boot.phase ≠ .running ∨ y.rd (ent 0x1100 3) = 0 ∨ !y.canOn port.val then y
    else y.frameOut (4 + port.val) 0 0 .time 0 (le 2 18 ++ le 1 1 ++ le 1 y.den.timeSeq ++ le 1 (y.rd (ent 0x2300 2)) ++ [0] ++ le 12 y.t96)

/-! ## CAN (R147) -/

/-- CAN_BUS_OFF. -/
def execCanBusOff (port : Fin 4) (s : State) : Host.Outcome State Fault Refusal :=
  onSys s fun _ y =>
    let n := port.val
    if !y.canOn n || y.rd (ent (0x1108 + n) 7) == 2 then y
    else Sys.raise (Sys.inc (y.wr (ent (0x1108 + n) 7) 2) (ent (0x1108 + n) 6)) 0x0407 n (ev [(0, 1, n)])

/-- CAN_BUS_RECOVERED: what was queued goes out, but for EVENT frames that are late (R158). -/
def execCanBusRecovered (port : Fin 4) (s : State) : Host.Outcome State Fault Refusal :=
  onSys s fun _ y =>
    let n := port.val
    if y.rd (ent (0x1108 + n) 7) ≠ 2 then y
    else
      let held := tget (fun _ => []) y.den.canQueued n
      let waiting := held.filter fun e => !y.eventLate e
      let dropped := tget (fun _ => 0) y.den.canDropped n
      let y := (y.wr (ent (0x1108 + n) 7) 0).onDen fun d => { d with canQueued := terase n d.canQueued, canDropped := terase n d.canDropped }
      let y := (y.eventDropped (4 + n) (held.length - waiting.length)).raise 0x0408 n (ev [(0, 1, n), (1, 2, dropped)])
      (waiting.map Prod.snd).foldl Sys.send y

/-! ## The debug console (R150) -/

/-- Value of a hexadecimal digit, in either case. -/
def hexValue (b : Byte) : Option Nat :=
  let n := b.toNat
  if 48 ≤ n ∧ n ≤ 57 then some (n - 48) else if 65 ≤ n ∧ n ≤ 70 then some (n - 55) else if 97 ≤ n ∧ n ≤ 102 then some (n - 87) else none

/-- The number that hexadecimal digits spell. -/
def hexRead (l : Bytes) : Option Nat := l.foldl (fun a b => match a, hexValue b with | some n, some d => some (16 * n + d) | _, _ => none) (some 0)

/-- The octets that pairs of digits spell. -/
def hexPairs : Bytes → Option Bytes
  | [] => some []
  | [_] => none
  | a :: b :: r => match hexValue a, hexValue b, hexPairs r with
    | some x, some y, some l => some (BitVec.ofNat 8 (16 * x + y) :: l)
    | _, _, _ => none

/-- `iiii:ss` as a packed entry name. -/
def entryRead (l : Bytes) : Option Nat :=
  if l.length ≠ 7 ∨ l.getD 4 0 ≠ 58 then none
  else match hexRead (l.take 4), hexRead (l.drop 5) with
    | some i, some s => some (i * 256 + s)
    | _, _ => none

/-- The fields of a line, separated by single spaces. -/
def lineFields (l : Bytes) : List Bytes :=
  l.foldr (fun b a => if b = 32 then [] :: a else match a with | f :: r => (b :: f) :: r | [] => [[b]]) [[]]

/-- A console command, or none for a malformed or overlong line. -/
inductive ConsoleLine where
  | identify
  | read (entry offset : Nat)
  | write (entry : Nat) (value : Bytes)
  deriving DecidableEq, Repr

def consoleLine (l : Bytes) : Option ConsoleLine :=
  if 600 < l.length then none
  else match lineFields l with
    | [[73]] => some .identify
    | [[82], e] => (entryRead e).map fun k => .read k 0
    | [[82], e, off] => if off.length = 8 then (match entryRead e, hexRead off with | some k, some n => some (.read k n) | _, _ => none) else none
    | [[87], e, v] => if v.isEmpty then none else (match entryRead e, hexPairs v with | some k, some b => some (.write k b) | _, _ => none)
    | _ => none

/-- The console serves: from step 8, and closed for good once the module has been SEALED. -/
def Sys.consoleOpen (o : Otp) (y : Sys) : Bool := y.boot.phase == .running && !o.stateFuses.contains 4

/-- The reply to `I`. -/
def Sys.consoleIdentify (o : Otp) (y : Sys) : Sys :=
  y.sayOk ([32] ++ hexNat 16 o.dieId ++ [32] ++ hexNat 2 o.life ++ [32] ++ hexNat 2 (y.rd (ent 0x2010 1)))

/-- The reply to `R`: a read with the rights of session 0. -/
def Sys.consoleRead (o : Otp) (y : Sys) (k off : Nat) : Sys :=
  let v := y.readEntry o 8 0 0 .observer k false
  if v.1 ≠ .ok then y.sayError v.1
  else
    let part := (v.2.1.drop off).take 256
    v.2.2.sayOk ([32] ++ hexNat 8 v.2.1.length ++ (if part.isEmpty then [] else 32 :: hexBytes part))

/-- A write of session 0 at path rank 8: its answer follows its commit instant. -/
def Sys.consoleWrite (o : Otp) (y : Sys) (k : Nat) (v : Bytes) : Sys :=
  let a := y.arrival o { path := 8, role := .observer, session := 0 } k v
  if a.1 ≠ .ok then a.2.sayError a.1
  else if k = ent 0x1300 5 then Sys.sayOk (y.setCursor 8 0 0 (unLe v)) (32 :: hexNat 2 0)
  else
    y.submitUnit { slot := y.ns / 100000, path := 8, role := .observer, stamp := y.ns, counter := 0, session := 0, source := 0, node := 0, tag := 0, gtag := 0,
                   op := 3, scope := .single, target := none, members := [(k, v)], position := none, origin := none }

/-- A line that begins with the command's letter. -/
def consoleStep (s : State) (line : Bytes) (letter : Byte) (others : Bool) (h : Otp → Sys → ConsoleLine → Sys) : Host.Outcome State Fault Refusal :=
  onSys s fun o y =>
    let first := line.headD 0
    let mine := first == letter || (others && first != 73 && first != 82 && first != 87)
    if !y.consoleOpen o || !mine then y
    else match consoleLine line with
      | none => y.sayError .protocol
      | some c => h o y c

/-- CONSOLE_IDENTIFY; a line of no command is answered here too. -/
def execConsoleIdentify (line : Bytes) (s : State) : Host.Outcome State Fault Refusal :=
  consoleStep s line 73 true fun o y _ => y.consoleIdentify o

/-- CONSOLE_READ. -/
def execConsoleRead (line : Bytes) (s : State) : Host.Outcome State Fault Refusal :=
  consoleStep s line 82 false fun o y c => match c with
    | .read k off => y.consoleRead o k off
    | _ => y

/-- CONSOLE_WRITE. -/
def execConsoleWrite (line : Bytes) (s : State) : Host.Outcome State Fault Refusal :=
  consoleStep s line 87 false fun o y c => match c with
    | .write k v => y.consoleWrite o k v
    | _ => y

end Sys2Proof.Machine
end

