-- ==== Sys2Proof/Machine/Boot.lean ====
section
/-!
DEFINITION. Sys2Proof/Machine/Boot.lean: power-up (R80 to R83, R108 to R111, R123, R582, R588 to R590, R747, R748) and the end of resets (R112 to R114).
-/

namespace Sys2Proof.Machine

/-! ## What power-up starts from -/

/-- Everything volatile is at its default; MRAM, the counters and what AON kept stay, and persistent tables come back (R113, R393). -/
def Sys.coldRebuild (y : Sys) (aonKept : Bool) : Sys :=
  let keep (k : Nat) : Bool := persists k || (aonKept && keptInAon k)
  let z : Sys :=
    { Sys.blank with
      dict := y.dict.filter fun p => keep p.1
      blobs := y.blobs.filter fun p => keep p.1
      t96 := y.t96, up := y.up, seed := y.seed, tx := y.tx, log := { y.log with limited := [] }, mram := y.mram
      -- the milliseconds of holdover count from this reset (R224)
      time := if aonKept then { y.time with hold := y.time.hold.map fun h => { h with counted := y.up } } else Sys.blank.time
      power := { Sys.blank.power with wake := if y.boot.phase = .dormant then y.power.wake else none }
      sup := { Sys.blank.sup with aon := true, inputOpen := y.sup.inputOpen } }
  z.restoreTables y.rd y.rdB y.tables

/-- A boot report line (R747). -/
def Sys.report (y : Sys) (step item : Nat) (pass : Bool) (detail : Nat) : Sys := y.send (.report step item pass detail)

/-- Illegal straps (R82): a position outside an array must be 0, but for the twin index. -/
def strapsLegal (straps : Nat) : Bool :=
  straps % 4 == 3 || (if straps.testBit 4 then straps / 4 % 2 == 0 else straps / 4 % 4 == 0)

/-- Step 4: straps and bank selects (R80, R81, R83). DESIGN CHOICE (log entry 42): 0x2010:01 and :03 hold, for an open ball, the level that the
sampling reads there, and event 0x0120 comes where straps are sampled. -/
def Sys.sampleStraps (y : Sys) (b : BootInputs) : Sys :=
  let straps := b.pins.toNat % 64
  let opens := b.opens.toNat
  let bad := opens != 0 || !strapsLegal straps
  let y := ((y.wr (ent 0x2010 1) (putBit straps 6 bad)).wr (ent 0x2010 2) opens).wr (ent 0x2010 3) (b.pins.toNat / 64)
  let y : Sys := { y with boot := { y.boot with strapFault := bad } }
  let y := y.report 4 4 (!bad) (straps + opens * 65536)
  if bad then y.raise 0x0120 255 (ev [(0, 1, putBit straps 6 true), (1, 2, opens)]) else y

/-! ## Steps 5 and 6 (R109, R110, R748) -/

/-- Event 0x0501. -/
def Sys.imageBad (o : Otp) (y : Sys) (bank reason : Nat) (f : Firmware) : Sys :=
  Sys.raise (y.report 5 bank false reason) 0x0501 255 (ev [(0, 1, bank), (1, 1, reason), (2, 1, f.epoch.toNat), (3, 1, o.epoch)])

/-- A firmware update (R109): the inactive bank is written, and one MRAM write switches banks. No command of the table starts one (log entry 59). -/
def Sys.updateFirmware (y : Sys) (f : Firmware) : Sys :=
  let n := 1 - y.mram.active
  { y with mram := { y.mram with banks := tset (fun _ => deliveredFirmware) y.mram.banks n f, active := n } }

/-- KE3 derives the die key and opens the private keys with it (R165). -/
def Sys.deriveKeys (o : Otp) (y : Sys) : Sys :=
  let die := dieKeyOf o.dieSecret
  { y with sec := { y.sec with dieKey := die, key := y.mram.key.bind (openKey die), pending := y.mram.pendingKey.bind (openKey die) } }

/-- A boot test failed: its bit of 0x1301:04. -/
def Sys.bootFault (y : Sys) (test : Nat) : Sys := y.wrBit (ent 0x1301 4) test true
def Sys.degrade (y : Sys) : Sys := { y with boot := { y.boot with degraded := true } }
/-- The module stays in reset. -/
def Sys.stayInReset (y : Sys) : Sys := { y with boot := { y.boot with phase := .failed } }

/-- Contents of an MRAM structure whose copies are both lost: 0 parameter store, 1 journal, 2 event log, 3 shutdown log, 4 training cache. -/
def Sys.emptyStructure (y : Sys) (n : Nat) : Sys :=
  match n with
  | 0 => { y with mram := { y.mram with store := [] } }
  | 1 => { y with mram := { y.mram with journal := none } }
  | 2 => Sys.wr { y with mram := { y.mram with ring := [] } } (ent 0x1300 2) (y.rd (ent 0x1300 1))
  | 3 => upto 65 (fun i y => y.wrB (ent 0x2110 (i + 1)) []) y
  | 4 => { y with mram := { y.mram with training := [] } }
  | _ => y

/-- Effect of one failed boot test (R748). The copy of the parameter store that a save left incomplete is told by event 0x0409 alone (R124). -/
def Sys.bootTest (y : Sys) (test i : Nat) : Sys :=
  if test = 3 ∧ i = 0 ∧ y.mram.broken then y else
  let y := (y.bootFault test).report 6 test false i
  match test with
  | 3 =>
    let n := i % 16
    let lost := decide (16 ≤ i)
    let y := if lost then (y.emptyStructure n).degrade else y
    y.raise 0x0131 255 (ev [(0, 1, n), (1, 1, if lost then 1 else 0)])
  | 4 => Sys.raise y.degrade 0x0307 255 (ev [(0, 1, i % 2), (1, 2, i / 2)])
  | 5 =>
    if i < 24 then Sys.degrade ((y.wr (ent (0x3860 + i) 1) 3).wr (ent (0x2720 + i) 1) 3)
    else if i < 32 then Sys.degrade (Sys.wr (y.setRfe (i - 24) { y.rfe (i - 24) with failed := true }) (ent (0x3470 + (i - 24)) 1) 2)
    else y.stayInReset
  | 1 => y
  | _ => y.stayInReset

/-- An image is in force: step 6, and DRAM training follows unless a test keeps the module in reset. 0x2003:04 names the active bank, whichever
image runs (R109, R110, R120). -/
def Sys.imageRuns (y : Sys) (bank : Nat) (f : Firmware) (fails : List (BitVec 3 × BitVec 16)) : Sys :=
  let epoch := f.epoch.toNat
  let y := Sys.report { y with boot := { y.boot with bank := bank, fwHash := fwHash f, fwEpoch := epoch, phase := .training } } 5 bank true epoch
  let y := (y.wr (ent 0x2003 4) (if bank < 2 then bank else y.mram.active)).wr (ent 0x4B00 1) 0
  let y := fails.foldl (fun (y : Sys) (f : BitVec 3 × BitVec 16) => y.bootTest f.1.toNat f.2.toNat) y
  y.report 6 6 (y.boot.phase == .training) 0

/-- Step 5: the active bank, then the other; both failing keep the module in reset (R109). -/
def Sys.verifyBanks (o : Otp) (y : Sys) (fails : List (BitVec 3 × BitVec 16)) : Sys :=
  let a := y.mram.active
  match imageFault o (y.bankImage a) with
  | none => y.imageRuns a (y.bankImage a) fails
  | some r =>
    let f := y.bankImage (1 - a)
    let y := ((Sys.imageBad o y a r (y.bankImage a)).bootFault 1).degrade
    match imageFault o f with
    | none => (y.raise 0x0109 255 (ev [(0, 1, a)])).imageRuns (1 - a) f fails
    | some q => (Sys.imageBad o y (1 - a) q f).stayInReset

/-- Step 3: the rails are in regulation, and what power-up does not restore starts anew (R108, R113). -/
def Sys.railsUp (o : Otp) (y : Sys) (cause : Nat) (aonKept : Bool) : Sys :=
  let z := (y.coldRebuild aonKept).deriveKeys o
  let z := z.wr (ent 0x1000 1) o.dieId
  let z : Sys := { z with boot := { z.boot with cause := cause, startAt := y.up, pwrGood := true } }
  let z := ((z.wr (ent 0x2003 3) cause).wr (railKey .t) 7500).wr (railKey .s) 7500
  (List.range 8).foldl (fun (z : Sys) (q : Nat) => z.wr (ent (0x2720 + 27 + q) 1) 3) z

/-- Step 5: from the firmware banks, or by the host with BOOT_SRC = 1 (R110). -/
def Sys.startImage (o : Otp) (y : Sys) (fails : List (BitVec 3 × BitVec 16)) : Sys :=
  if (y.rd (ent 0x2010 1)).testBit 5 then { y with boot := { y.boot with phase := .waitImage } } else y.verifyBanks o fails

/-- Power-up from step 3: straps, firmware, self-tests. Every kind of cold start goes through here (R113). -/
def Sys.bootUp (o : Otp) (y : Sys) (b : BootInputs) (cause : Nat) (aonKept : Bool) : Sys :=
  let z := y.railsUp o cause aonKept
  let z := if cause = 0 then z else z.inc (ent 0x2003 8)
  (z.sampleStraps b).startImage o b.fails

/-- HOST_FIRMWARE_IMAGE (R110): an image that the host has written is verified as at step 5. -/
def execHostFirmwareImage (image : Firmware) (fails : List (BitVec 3 × BitVec 16)) (s : State) : Host.Outcome State Fault Refusal :=
  onSys s fun o y =>
    if y.boot.phase ≠ .waitImage then y
    else match imageFault o image with
      | some r => Sys.imageBad o y 2 r image
      | none => y.imageRuns 2 image fails

/-- HOST_FIRMWARE_TIMEOUT (R110): told once, and the module keeps waiting. -/
def execHostFirmwareTimeout (s : State) : Host.Outcome State Fault Refusal :=
  onSys s fun _ y =>
    if y.boot.phase ≠ .waitImage ∨ y.boot.imageTimeout then y
    else Sys.raise { y with boot := { y.boot with imageTimeout := true } } 0x010C 255 []

/-! ## Step 7 (R582, R588 to R590) -/

/-- Why the cached results of a band do not serve: 0 no entry, 1 identity, 2 training firmware, 3 the verify. -/
def Sys.cacheFault (o : Otp) (y : Sys) (identities : Bytes) (firmware band : Nat) (verifyOk : Bool) : Option Nat :=
  match y.mram.training.lookup band with
  | none => some 0
  | some (die, ids, fw) =>
    if die ≠ o.dieId ∨ ids ≠ identities then some 1 else if fw ≠ firmware then some 2 else if !verifyOk then some 3 else none

/-- Valid entries of the cache, by band. -/
def Sys.cachedBands (o : Otp) (y : Sys) (identities : Bytes) (firmware : Nat) : Nat :=
  bitsOf ((List.range 4).filter fun b => (y.cacheFault o identities firmware b true).isNone)

/-- A package with a channel that failed: its two ranks are untrainable, and spares take their places (R590). -/
def Sys.untrainable (y : Sys) (p : Nat) : Sys :=
  [2 * p, 2 * p + 1].foldl (fun (y : Sys) (r : Nat) =>
    if y.rankIs r .active then y.swapEmpty r RankCause.training.code
    else if y.rankIs r .spare then (y.rankTo r .out).wr (rankKey r 0x0B) RankCause.training.code
    else y) y

/-- The mapped ranks are all trained. -/
def Sys.ranksMapped (y : Sys) (bad : Nat → Bool) : Bool := decide (16 ≤ ((List.range 18).filter fun r => y.rankIs r .active && !bad (r / 2)).length)

/-! ## Step 8 (R108, R123, R393) -/

/-- One stored value: taken as a write of it would be, or discarded with event 0x040C (R123). -/
def Sys.loadStored (o : Otp) (y : Sys) (m : Nat × Bytes) : Sys :=
  let w : Writer := { path := 0, role := .custodian, session := 0 }
  let st := (y.arrival o w m.1 m.2).1
  -- the supply warning level is loaded whatever VIN is, and compared with it afterwards (R100, R101)
  let st := if m.1 = ent 0x2000 1 ∧ y.tableCheck o w m.1 m.2 = .ok ∧ unLe m.2 % 10 = 0 then .ok else st
  if st ≠ .ok then y.raise 0x040C 255 (ev [(0, 2, m.1 / 256), (2, 1, m.1 % 256), (3, 1, st.code)])
  else if isRwc m.1 then y.putLive o m.1 m.2
  else (y.entryApply o w m.1 m.2).2.2

/-- A context whose table slots name an entry that is not READY gets look slot 0xFF (R393). -/
def Sys.dropTables (y : Sys) (x : Nat) : Sys :=
  (List.range 8).foldl (fun (y : Sys) (j : Nat) =>
    let e := rdLe (y.rdB (ent (0x3C10 + x) 6)) (2 * j) 2
    if 64 ≤ e ∨ y.rd (ent (0x3C40 + e) 5) = 2 then y
    else Sys.raise (y.wr (ent (0x3800 + x) 1) 0xFF) 0x0A12 x (ev [(0, 1, x), (1, 1, j), (2, 1, e)])) y

/-- Selected looks and tables go where the Troupes find them. -/
def Sys.loadLooks (y : Sys) : Sys :=
  let y := (List.range 16).foldl (fun (y : Sys) (x : Nat) =>
    let n := y.rd (ent (0x3800 + x) 1)
    if n < 16 then (y.makeResident n).getD y else y) y
  Sys.showUsers (y.wantTables (((List.range 16).flatMap fun x => y.view.tableEntries x).filter (· < 64)).eraseDups)

/-- VIN is within 0.3 V of the level that the store restored, or below it: the module starts in supply warning (R101). -/
def Sys.bootLow (y : Sys) : Bool := decide (0 < y.rd (ent 0x2001 1)) && decide (y.rd (ent 0x2001 1) < y.rd (ent 0x2000 1) + 30)

/-- The listed eDP ports of a module that starts in warning stay off from the start; the other loads are shed when boot completes, before any of them
runs (R101). -/
def Sys.shedFromBoot (y : Sys) : Sys := if y.bootLow then y.onSupply fun u => { u with shed := [(2, y.shedListed 2)] } else y

/-- The parameter store, its failed copy, and the tables that contexts name. -/
def Sys.restoreDictionary (o : Otp) (y : Sys) : Sys :=
  -- the supply entries come first in index order; a listed eDP port is shed from its first use (R101)
  let early (m : Nat × Bytes) : Bool := decide (m.1 / 256 ≤ 0x2002)
  let y := ((y.mram.store.filter early).foldl (Sys.loadStored o) y).shedFromBoot
  let y := (y.mram.store.filter fun m => !early m).foldl (Sys.loadStored o) y
  let y := (List.range 16).foldl Sys.dropTables y
  let y := y.loadLooks
  if y.mram.broken then
    let y := Sys.wr { y with mram := { y.mram with broken := false } } (ent 0x1104 2) 3
    y.raise 0x0409 255 (ev [(0, 1, 1 - y.mram.copy)])
  else y

/-- Straps give the array and the pair their place; formation begins (R682, R683, R694). -/
def Sys.formationStart (y : Sys) : Sys :=
  let straps := y.rd (ent 0x2010 1)
  if y.boot.strapFault || straps % 4 != 3 then y
  else (y.wr (ent 0x4C01 1) 1).wr (ent 0x4C01 5) (2 ^ strapPos straps)

/-- What the end of a boot reports: event 0x0108, the trip and the wake that it follows (R108, R655, R673). -/
def Sys.bootTold (y : Sys) (mode : Nat) : Sys :=
  let us := (y.up - y.boot.startAt) / 1000 % 2 ^ 32
  let cause := y.boot.cause
  let y := ((y.wr (ent 0x2003 5) us).wr (ent 0x2003 7) mode).formationStart
  let y := (y.report 8 8 true us).raise 0x0108 255 (ev [(0, 1, cause), (1, 1, y.boot.bank), (2, 1, mode), (4, 4, us)])
  let y := match y.boot.trip with
    | some t =>
      if cause = 6 then
        Sys.raise { y with boot := { y.boot with trip := none } } 0x020C 255 (ev [(0, 1, t.2), (4, 4, (y.boot.startAt - t.1) / 1000000 % 2 ^ 32)])
      else y
    | none => y
  match y.power.wake with
  | some c =>
    let ms := (y.up - c.at_) / 1000 % 2 ^ 32
    (y.wr (ent 0x2700 6) ms |>.onPower fun w => { w with wake := none }).raise 0x1303 255 (ev [(0, 1, 4), (1, 1, c.source), (2, 1, c.port), (4, 4, ms)])
  | none => y

/-- The module starts in supply warning (R101). -/
def Sys.bootWarning (y : Sys) : Sys := if y.bootLow then y.enterWarning (y.rd (ent 0x2001 1)) else y

/-- BOOT_COMPLETE: the dictionary and the paths serve, HEARTBEAT toggles, lanes and sensor control start (steps 8 and 9). -/
def Sys.bootComplete (o : Otp) (y : Sys) (mode : Nat) : Sys :=
  let y := Sys.restoreDictionary o { y with boot := { y.boot with phase := .running, heartbeat := !y.boot.strapFault } }
  let y := y.bootTold mode
  let y := (y.addressChanged false).migNext
  let y := (y.bootWarning.ptpRestart o.dieId).timeBack
  let y := y.showAdmitted y.view
  let y := upto 80 (fun n y => (y.laneRequest n (y.rd (ent (0x2400 + n) 1))).2) y
  Sys.updateInt (upto 8 (fun n y => y.portState n) y)

/-- What training leaves: the cache, the packages' identities and channels, the entries of 0x4B40, and spares in place of untrainable ranks. `fault`
is why the cached results did not serve; `bad` are the packages with a failed channel. -/
def Sys.takeTraining (o : Otp) (y : Sys) (ids : Bytes) (firmware band failed ms : Nat) (fault : Option Nat) (bad : Nat → Bool) : Sys :=
  let y := match fault with
    | none => y
    | some r =>
      let y := (y.raise 0x100C 255 (ev [(0, 1, r), (1, 1, band)])).inc (ent 0x4B40 5)
      { y with mram := { y.mram with training := (y.mram.training.filter fun (e : Nat × Nat × Bytes × Nat) => e.1 != band) ++ [(band, o.dieId, ids, firmware)] } }
  let y := upto 9 (fun p y =>
    (y.wrB (ent (0x4B30 + p) 3) (slice ids (8 * p) 8)).wr (ent (0x4B30 + p) 4) (if fault.isSome then 15 - failed / 16 ^ p % 16 else 15)) y
  let y := (((y.wr (ent 0x4B40 1) (if fault.isSome then 1 else 0)).wr (ent 0x4B40 2) ms).wr (ent 0x4B40 4) band).wr (ent 0x4B40 3) (y.cachedBands o ids firmware)
  let y := y.dramLost
  (List.range 9).foldl (fun (y : Sys) (p : Nat) => if bad p then y.untrainable p else y) y

/-- DRAM_TRAINING_COMPLETE: training with the cached results of the band, or in full, and what follows (R588 to R590). `failed` marks the channels
that full training could not train, four bits a package. -/
def execDramTrainingComplete (identities : Bytes) (firmware : BitVec 32) (band : Fin 4) (verifyOk : Bool) (failed : BitVec 36) (ms : BitVec 32) (s : State) :
    Host.Outcome State Fault Refusal :=
  run s fun o y =>
    if y.boot.phase ≠ .training then ([], y)
    else
      let ids := slice identities 0 72
      let fault := y.cacheFault o ids firmware.toNat band.val verifyOk
      let bad (p : Nat) : Bool := fault.isSome && failed.toNat / 16 ^ p % 16 != 0
      let y := y.takeTraining o ids firmware.toNat band.val failed.toNat ms.toNat fault bad
      if !y.ranksMapped bad then
        let y := (y.report 7 7 false failed.toNat).stayInReset
        ([], (List.range 9).foldl (fun (y : Sys) (p : Nat) =>
          if bad p then y.raise 0x100D p (ev [(0, 1, p), (1, 1, failed.toNat / 16 ^ p % 16)]) else y) y)
      else
        let mode := if fault.isSome then 1 else 0
        let y := Sys.bootComplete o ((y.report 7 7 true ms.toNat).raise 0x100B 255 (ev [(0, 1, mode), (1, 1, band.val), (4, 4, ms.toNat)])) mode
        y.finishTransition o

/-! ## What starts a boot (R99, R111 to R113) -/

/-- AON has lost its supply: the counter goes on from the saved T96, nothing disciplines it, and its entries are at their defaults (R198). -/
def Sys.aonLost (y : Sys) : Sys :=
  { y with t96 := y.mram.savedTime, time := Sys.blank.time, dict := y.dict.filter fun p => !keptInAon p.1 || persists p.1 }

/-- VIN_VALID: VIN has been 9.0 V or more for long enough (R99): from step 1, or from step 3 while AON is held up (R111). After a trip the return of
VIN is a wake request (R673). DESIGN CHOICE (log entry 42): the reset cause stays that of the supply reset, though AON was off (R113). -/
def execVinValid (vin : BitVec 16) (boot : BootInputs) (s : State) : Host.Outcome State Fault Refusal :=
  onSys s fun o y =>
    if y.sup.inputOpen || !(y.boot.phase == .off || y.boot.phase == .supplyReset) || decide (vin.toNat < 900) then y
    else
      let kept := y.sup.aon
      let y := if kept then y else y.aonLost
      if y.mram.tripped.isSome then
        let y := (y.vinSample vin.toNat).onPower fun w => { w with asked := some ⟨7, 0, y.up⟩ }
        { y with boot := { y.boot with phase := .tripHold }, sup := { y.sup with aon := true, holdUp := false } }
      else (y.bootUp o boot y.boot.cause kept).vinSample vin.toNat

/-- RESET_COMMAND_COLD: the reset that a write of COLD starts, with its power-up. -/
def execResetCommandCold (boot : BootInputs) (s : State) : Host.Outcome State Fault Refusal :=
  onSys s fun o y =>
    if y.boot.phase = .running then (y.coldStart 5).bootUp o boot 5 true
    else if y.boot.phase = .coldReset ∧ !y.boot.resetNLow then y.bootUp o boot y.boot.cause true
    else y

/-- RESET_N_RISE: a cold reset samples the straps at this edge; a warm reset runs from here (R112). -/
def execResetNRise (boot : BootInputs) (s : State) : Host.Outcome State Fault Refusal :=
  onSys s fun o y =>
    let y : Sys := { y with boot := { y.boot with resetNLow := false } }
    match y.boot.phase with
    | .coldReset => y.bootUp o boot y.boot.cause true
    | .warmReset => { y with boot := { y.boot with startAt := y.up } }
    | _ => y

/-- The end of a warm reset (R113, R114): queues run again, a migration goes on, lanes and outputs restart, and a twin returns as SHADOW. DESIGN CHOICE
(log entry 42): a standing strap fault is not told again by event 0x0120, since no straps are sampled (R94). -/
def Sys.warmEnd (o : Otp) (y : Sys) : Sys :=
  let y := y.deriveKeys o
  let us := (y.up - y.boot.startAt) / 1000 % 2 ^ 32
  let y : Sys := { y with boot := { y.boot with phase := .running, heartbeat := !y.boot.strapFault } }
  -- the domains of Active return to Run (R89, R660)
  let y := (List.range 37).foldl (fun y d => if y.activeRun d then y.wr (ent (0x2720 + d) 1) 0 else y) y
  let y := ((y.inc (ent 0x2003 9)).wr (ent 0x2003 5) us).raise 0x0108 255
    (ev [(0, 1, y.boot.cause), (1, 1, y.boot.bank), (2, 1, y.rd (ent 0x2003 7)), (4, 4, us)])
  let y := (List.range 17).foldl Sys.queueResetDone y
  let y := if y.mram.broken then
      Sys.raise (Sys.wr { y with mram := { y.mram with broken := false } } (ent 0x1104 2) 3) 0x0409 255 (ev [(0, 1, 1 - y.mram.copy)])
    else y
  let y := if y.twinOn && !y.boot.strapFault then
      ((y.wr (ent 0x4C01 2) 2).setTwinState 3).onTwin fun t => { t with cause := 0, step := 0, taking := none, waits := [], open_ := [] }
    else y
  let y := y.formationStart.migAfterWarm
  let y := (y.ptpRestart o.dieId).timeBack
  let y := (List.range 16).foldl Sys.encReset y
  let y := upto 24 (fun c y => if y.view.chanOn c then y.restartRaster c 2 else y) y
  let y := upto 2 (fun p y => if y.rd (ent (0x4188 + p) 2) = 1 then y.edpPower p else y) y
  let y := (24 :: (List.range 8).map (· + 27)).foldl (fun (y : Sys) (d : Nat) => if y.activeRun d then y.lanesOn d else y) y
  Sys.updateInt (upto 8 (fun n y => y.portState n) y)

/-- A warm reset of a module that was not running ends where that stood: in its wait for an image, in training, or in reset (R112). From Dormant it
goes on with power-up, on the straps as they were sampled, since a reset ends in Active (R660; log entry 42). -/
def Sys.warmBack (o : Otp) (y : Sys) : Sys :=
  let y := y.inc (ent 0x2003 9)
  if y.boot.warmFrom = .dormant then
    let z := y.railsUp o y.boot.cause true
    let z := [1, 2, 3].foldl (fun (z : Sys) (i : Nat) => z.wr (ent 0x2010 i) (y.rd (ent 0x2010 i))) z
    Sys.startImage o { z with boot := { z.boot with strapFault := y.boot.strapFault } } []
  else { y with boot := { y.boot with phase := y.boot.warmFrom } }

/-- WARM_RESET_COMPLETE. -/
def execWarmResetComplete (s : State) : Host.Outcome State Fault Refusal :=
  run s fun o y =>
    if y.boot.phase ≠ .warmReset ∨ y.boot.resetNLow then ([], y)
    else if y.boot.warmFrom ≠ .running then ([], y.warmBack o)
    else (y.warmEnd o).finishTransition o

end Sys2Proof.Machine
end

