-- ==== Sys2Proof/Machine/EngineFp.lean ====
section
/-!
DEFINITION. Sys2Proof/Machine/EngineFp.lean: the FP, transcendental and conversion instructions (R345 to R350).
-/

namespace Sys2Proof.Machine

/-- FADD (R345): d := a + b, lane by lane. -/
def execFadd (e : Fin 384) (d a b : Fin 64) (pr : Fin 8) (pn : Bool) (s : State) :
    Host.Outcome State Fault Refusal :=
  vecBin s e.val d.val a.val b.val pr.val pn 4 fadd

/-- FSUB (R345): d := a - b, lane by lane. -/
def execFsub (e : Fin 384) (d a b : Fin 64) (pr : Fin 8) (pn : Bool) (s : State) :
    Host.Outcome State Fault Refusal :=
  vecBin s e.val d.val a.val b.val pr.val pn 4 fsub

/-- FMUL (R345): d := a × b, lane by lane. -/
def execFmul (e : Fin 384) (d a b : Fin 64) (pr : Fin 8) (pn : Bool) (s : State) :
    Host.Outcome State Fault Refusal :=
  vecBin s e.val d.val a.val b.val pr.val pn 4 fmul

/-- FMIN (R345): d := minimum of a and b, lane by lane. -/
def execFmin (e : Fin 384) (d a b : Fin 64) (pr : Fin 8) (pn : Bool) (s : State) :
    Host.Outcome State Fault Refusal :=
  vecBin s e.val d.val a.val b.val pr.val pn 4 fmin

/-- FMAX (R345): d := maximum of a and b, lane by lane. -/
def execFmax (e : Fin 384) (d a b : Fin 64) (pr : Fin 8) (pn : Bool) (s : State) :
    Host.Outcome State Fault Refusal :=
  vecBin s e.val d.val a.val b.val pr.val pn 4 fmax

/-- FABS (R345): d := a with bit 31 cleared. -/
def execFabs (e : Fin 384) (d a : Fin 64) (pr : Fin 8) (pn : Bool) (s : State) :
    Host.Outcome State Fault Refusal :=
  vecUn s e.val d.val a.val pr.val pn 2 fabs

/-- FNEG (R345): d := a with bit 31 inverted. -/
def execFneg (e : Fin 384) (d a : Fin 64) (pr : Fin 8) (pn : Bool) (s : State) :
    Host.Outcome State Fault Refusal :=
  vecUn s e.val d.val a.val pr.val pn 2 fneg

/-- FSAT (R345): d := min(max(a, +0), 1.0). -/
def execFsat (e : Fin 384) (d a : Fin 64) (pr : Fin 8) (pn : Bool) (s : State) :
    Host.Outcome State Fault Refusal :=
  vecUn s e.val d.val a.val pr.val pn 4 fsat

/-- FFLOOR (R345): d := the largest integral value not above a. -/
def execFfloor (e : Fin 384) (d a : Fin 64) (pr : Fin 8) (pn : Bool) (s : State) :
    Host.Outcome State Fault Refusal :=
  vecUn s e.val d.val a.val pr.val pn 4 ffloor

/-- FFRAC (R345): d := a - floor(a). -/
def execFfrac (e : Fin 384) (d a : Fin 64) (pr : Fin 8) (pn : Bool) (s : State) :
    Host.Outcome State Fault Refusal :=
  vecUn s e.val d.val a.val pr.val pn 4 ffrac

/-- FRND (R345): d := a rounded to an integral value, ties to even. -/
def execFrnd (e : Fin 384) (d a : Fin 64) (pr : Fin 8) (pn : Bool) (s : State) :
    Host.Outcome State Fault Refusal :=
  vecUn s e.val d.val a.val pr.val pn 4 frnd

/-- FMA (R345, R346): d := a × b + d, one rounding. -/
def execFma (e : Fin 384) (d a b : Fin 64) (pr : Fin 8) (pn : Bool) (s : State) :
    Host.Outcome State Fault Refusal :=
  vecTri s e.val d.val a.val b.val pr.val pn (fun a b d => ffma a b d)

/-- FMS (R345, R346): d := a × b - d, one rounding. -/
def execFms (e : Fin 384) (d a b : Fin 64) (pr : Fin 8) (pn : Bool) (s : State) :
    Host.Outcome State Fault Refusal :=
  vecTri s e.val d.val a.val b.val pr.val pn (fun a b d => ffma a b (fneg d))

/-- FNMA (R345, R346): d := d - a × b, one rounding. -/
def execFnma (e : Fin 384) (d a b : Fin 64) (pr : Fin 8) (pn : Bool) (s : State) :
    Host.Outcome State Fault Refusal :=
  vecTri s e.val d.val a.val b.val pr.val pn (fun a b d => ffma (fneg a) b d)

/-- FADD_S (R345): as FADD, with S[b] as b in every lane. -/
def execFaddS (e : Fin 384) (d a : Fin 64) (b : Fin 16) (pr : Fin 8) (pn : Bool) (s : State) :
    Host.Outcome State Fault Refusal :=
  vecBinS s e.val d.val a.val b.val pr.val pn 4 fadd

/-- FSUB_S (R345): as FSUB, with S[b] as b in every lane. -/
def execFsubS (e : Fin 384) (d a : Fin 64) (b : Fin 16) (pr : Fin 8) (pn : Bool) (s : State) :
    Host.Outcome State Fault Refusal :=
  vecBinS s e.val d.val a.val b.val pr.val pn 4 fsub

/-- FMUL_S (R345): as FMUL, with S[b] as b in every lane. -/
def execFmulS (e : Fin 384) (d a : Fin 64) (b : Fin 16) (pr : Fin 8) (pn : Bool) (s : State) :
    Host.Outcome State Fault Refusal :=
  vecBinS s e.val d.val a.val b.val pr.val pn 4 fmul

/-- FMIN_S (R345): as FMIN, with S[b] as b in every lane. -/
def execFminS (e : Fin 384) (d a : Fin 64) (b : Fin 16) (pr : Fin 8) (pn : Bool) (s : State) :
    Host.Outcome State Fault Refusal :=
  vecBinS s e.val d.val a.val b.val pr.val pn 4 fmin

/-- FMAX_S (R345): as FMAX, with S[b] as b in every lane. -/
def execFmaxS (e : Fin 384) (d a : Fin 64) (b : Fin 16) (pr : Fin 8) (pn : Bool) (s : State) :
    Host.Outcome State Fault Refusal :=
  vecBinS s e.val d.val a.val b.val pr.val pn 4 fmax

/-- FMA_S (R345): as FMA, with S[b] as b in every lane. -/
def execFmaS (e : Fin 384) (d a : Fin 64) (b : Fin 16) (pr : Fin 8) (pn : Bool) (s : State) :
    Host.Outcome State Fault Refusal :=
  vecTriS s e.val d.val a.val b.val pr.val pn (fun a b d => ffma a b d)

/-- FMS_S (R345): as FMS, with S[b] as b in every lane. -/
def execFmsS (e : Fin 384) (d a : Fin 64) (b : Fin 16) (pr : Fin 8) (pn : Bool) (s : State) :
    Host.Outcome State Fault Refusal :=
  vecTriS s e.val d.val a.val b.val pr.val pn (fun a b d => ffma a b (fneg d))

/-- FNMA_S (R345): as FNMA, with S[b] as b in every lane. -/
def execFnmaS (e : Fin 384) (d a : Fin 64) (b : Fin 16) (pr : Fin 8) (pn : Bool) (s : State) :
    Host.Outcome State Fault Refusal :=
  vecTriS s e.val d.val a.val b.val pr.val pn (fun a b d => ffma (fneg a) b d)

/-- RCP (R348, R349): d := 1/a, within 1 ulp. -/
def execRcp (e : Fin 384) (d a : Fin 64) (pr : Fin 8) (pn : Bool) (s : State) :
    Host.Outcome State Fault Refusal :=
  vecTrans s e.val d.val a.val pr.val pn frcp

/-- RSQ (R348, R349): d := 1/√a, within 1 ulp. -/
def execRsq (e : Fin 384) (d a : Fin 64) (pr : Fin 8) (pn : Bool) (s : State) :
    Host.Outcome State Fault Refusal :=
  vecTrans s e.val d.val a.val pr.val pn frsq

/-- SQRT (R348, R349): d := √a, correctly rounded. -/
def execSqrt (e : Fin 384) (d a : Fin 64) (pr : Fin 8) (pn : Bool) (s : State) :
    Host.Outcome State Fault Refusal :=
  vecTrans s e.val d.val a.val pr.val pn fsqrt

/-- LOG2 (R348, R349): d := log₂ a. -/
def execLog2 (e : Fin 384) (d a : Fin 64) (pr : Fin 8) (pn : Bool) (s : State) :
    Host.Outcome State Fault Refusal :=
  vecTrans s e.val d.val a.val pr.val pn flog2

/-- EXP2 (R348, R349): d := 2^a. -/
def execExp2 (e : Fin 384) (d a : Fin 64) (pr : Fin 8) (pn : Bool) (s : State) :
    Host.Outcome State Fault Refusal :=
  vecTrans s e.val d.val a.val pr.val pn fexp2

/-- CVT_F_I (R350): a signed integer to FP32. -/
def execCvtFI (e : Fin 384) (d a : Fin 64) (pr : Fin 8) (pn : Bool) (s : State) :
    Host.Outcome State Fault Refusal :=
  vecUn s e.val d.val a.val pr.val pn 4 cvtFI

/-- CVT_I_F (R350): FP32 to a signed integer, toward zero, saturating. -/
def execCvtIF (e : Fin 384) (d a : Fin 64) (pr : Fin 8) (pn : Bool) (s : State) :
    Host.Outcome State Fault Refusal :=
  vecUn s e.val d.val a.val pr.val pn 4 cvtIF

/-- CVT_F_U (R350): an unsigned integer to FP32. -/
def execCvtFU (e : Fin 384) (d a : Fin 64) (pr : Fin 8) (pn : Bool) (s : State) :
    Host.Outcome State Fault Refusal :=
  vecUn s e.val d.val a.val pr.val pn 4 cvtFU

/-- CVT_U_F (R350): FP32 to an unsigned integer, toward zero, saturating. -/
def execCvtUF (e : Fin 384) (d a : Fin 64) (pr : Fin 8) (pn : Bool) (s : State) :
    Host.Outcome State Fault Refusal :=
  vecUn s e.val d.val a.val pr.val pn 4 cvtUF

/-- CVT_H_F (R350): FP32 to FP16 in bits [15:0]. -/
def execCvtHF (e : Fin 384) (d a : Fin 64) (pr : Fin 8) (pn : Bool) (s : State) :
    Host.Outcome State Fault Refusal :=
  vecUn s e.val d.val a.val pr.val pn 4 cvtHF

/-- CVT_F_H (R350): FP16 in bits [15:0] to FP32, exactly. -/
def execCvtFH (e : Fin 384) (d a : Fin 64) (pr : Fin 8) (pn : Bool) (s : State) :
    Host.Outcome State Fault Refusal :=
  vecUn s e.val d.val a.val pr.val pn 4 cvtFH

/-- FCMP_EQ (R345, R348): bit k of P[d] := a = b, AND the lane's predicate. -/
def execFcmpEq (e : Fin 384) (d : Fin 8) (a b : Fin 64) (pr : Fin 8) (pn : Bool) (s : State) :
    Host.Outcome State Fault Refusal :=
  cmpBin s e.val d.val a.val b.val pr.val pn (fun a b => fpEq (fpOf a) (fpOf b))

/-- FCMP_LT (R345, R348): bit k of P[d] := a < b, AND the lane's predicate. -/
def execFcmpLt (e : Fin 384) (d : Fin 8) (a b : Fin 64) (pr : Fin 8) (pn : Bool) (s : State) :
    Host.Outcome State Fault Refusal :=
  cmpBin s e.val d.val a.val b.val pr.val pn (fun a b => fpLt (fpOf a) (fpOf b))

/-- FCMP_LE (R345, R348): bit k of P[d] := a ≤ b, AND the lane's predicate. -/
def execFcmpLe (e : Fin 384) (d : Fin 8) (a b : Fin 64) (pr : Fin 8) (pn : Bool) (s : State) :
    Host.Outcome State Fault Refusal :=
  cmpBin s e.val d.val a.val b.val pr.val pn (fun a b => fpLt (fpOf a) (fpOf b) || fpEq (fpOf a) (fpOf b))

/-- FCMP_NE (R345, R348): bit k of P[d] := a ≠ b, true when either is NaN, AND the lane's predicate. -/
def execFcmpNe (e : Fin 384) (d : Fin 8) (a b : Fin 64) (pr : Fin 8) (pn : Bool) (s : State) :
    Host.Outcome State Fault Refusal :=
  cmpBin s e.val d.val a.val b.val pr.val pn (fun a b => !fpEq (fpOf a) (fpOf b))

/-- FCMP_UN (R345, R348): bit k of P[d] := either operand is NaN, AND the lane's predicate. -/
def execFcmpUn (e : Fin 384) (d : Fin 8) (a b : Fin 64) (pr : Fin 8) (pn : Bool) (s : State) :
    Host.Outcome State Fault Refusal :=
  cmpBin s e.val d.val a.val b.val pr.val pn (fun a b => fpUn (fpOf a) (fpOf b))

end Sys2Proof.Machine
end

