-- ==== Sys2Proof/Machine/EngineInt.lean ====
section
/-!
DEFINITION. Sys2Proof/Machine/EngineInt.lean: the integer, scalar, immediate, move, compare and predicate instructions (R345, R351).
-/

namespace Sys2Proof.Machine

/-- Signed minimum and maximum (R345). -/
def smin32 (a b : W32) : W32 := if a.slt b then a else b
def smax32 (a b : W32) : W32 := if a.slt b then b else a

/-- IADD (R345, R351): d := sum, modulo 2^32. -/
def execIadd (e : Fin 384) (d a b : Fin 64) (pr : Fin 8) (pn : Bool) (s : State) :
    Host.Outcome State Fault Refusal :=
  vecBin s e.val d.val a.val b.val pr.val pn 2 (fun a b => a + b)

/-- ISUB (R345, R351): d := difference, modulo 2^32. -/
def execIsub (e : Fin 384) (d a b : Fin 64) (pr : Fin 8) (pn : Bool) (s : State) :
    Host.Outcome State Fault Refusal :=
  vecBin s e.val d.val a.val b.val pr.val pn 2 (fun a b => a - b)

/-- IMUL (R345, R351): d := low 32 bits of the product, modulo 2^32. -/
def execImul (e : Fin 384) (d a b : Fin 64) (pr : Fin 8) (pn : Bool) (s : State) :
    Host.Outcome State Fault Refusal :=
  vecBin s e.val d.val a.val b.val pr.val pn 4 (fun a b => a * b)

/-- IMIN (R345, R351): d := signed minimum, modulo 2^32. -/
def execImin (e : Fin 384) (d a b : Fin 64) (pr : Fin 8) (pn : Bool) (s : State) :
    Host.Outcome State Fault Refusal :=
  vecBin s e.val d.val a.val b.val pr.val pn 2 (smin32)

/-- IMAX (R345, R351): d := signed maximum, modulo 2^32. -/
def execImax (e : Fin 384) (d a b : Fin 64) (pr : Fin 8) (pn : Bool) (s : State) :
    Host.Outcome State Fault Refusal :=
  vecBin s e.val d.val a.val b.val pr.val pn 2 (smax32)

/-- AND (R345, R351): d := bitwise AND, modulo 2^32. -/
def execAnd (e : Fin 384) (d a b : Fin 64) (pr : Fin 8) (pn : Bool) (s : State) :
    Host.Outcome State Fault Refusal :=
  vecBin s e.val d.val a.val b.val pr.val pn 2 (fun a b => a &&& b)

/-- OR (R345, R351): d := bitwise OR, modulo 2^32. -/
def execOr (e : Fin 384) (d a b : Fin 64) (pr : Fin 8) (pn : Bool) (s : State) :
    Host.Outcome State Fault Refusal :=
  vecBin s e.val d.val a.val b.val pr.val pn 2 (fun a b => a ||| b)

/-- XOR (R345, R351): d := bitwise XOR, modulo 2^32. -/
def execXor (e : Fin 384) (d a b : Fin 64) (pr : Fin 8) (pn : Bool) (s : State) :
    Host.Outcome State Fault Refusal :=
  vecBin s e.val d.val a.val b.val pr.val pn 2 (fun a b => a ^^^ b)

/-- SHL (R345, R351): d := shift left by b mod 32, modulo 2^32. -/
def execShl (e : Fin 384) (d a b : Fin 64) (pr : Fin 8) (pn : Bool) (s : State) :
    Host.Outcome State Fault Refusal :=
  vecBin s e.val d.val a.val b.val pr.val pn 2 (fun a b => a <<< (b.toNat % 32))

/-- SHR (R345, R351): d := logical shift right by b mod 32, modulo 2^32. -/
def execShr (e : Fin 384) (d a b : Fin 64) (pr : Fin 8) (pn : Bool) (s : State) :
    Host.Outcome State Fault Refusal :=
  vecBin s e.val d.val a.val b.val pr.val pn 2 (fun a b => a >>> (b.toNat % 32))

/-- SAR (R345, R351): d := arithmetic shift right by b mod 32, modulo 2^32. -/
def execSar (e : Fin 384) (d a b : Fin 64) (pr : Fin 8) (pn : Bool) (s : State) :
    Host.Outcome State Fault Refusal :=
  vecBin s e.val d.val a.val b.val pr.val pn 2 (fun a b => a.sshiftRight (b.toNat % 32))

/-- SADD (R345, R351): S[d] := sum of S[a] and S[b]. -/
def execSadd (e : Fin 384) (d a b : Fin 16) (s : State) :
    Host.Outcome State Fault Refusal :=
  scaBin s e.val d.val a.val b.val 1 (fun a b => a + b)

/-- SSUB (R345, R351): S[d] := difference of S[a] and S[b]. -/
def execSsub (e : Fin 384) (d a b : Fin 16) (s : State) :
    Host.Outcome State Fault Refusal :=
  scaBin s e.val d.val a.val b.val 1 (fun a b => a - b)

/-- SMUL (R345, R351): S[d] := low 32 bits of the product of S[a] and S[b]. -/
def execSmul (e : Fin 384) (d a b : Fin 16) (s : State) :
    Host.Outcome State Fault Refusal :=
  scaBin s e.val d.val a.val b.val 2 (fun a b => a * b)

/-- SMIN (R345, R351): S[d] := signed minimum of S[a] and S[b]. -/
def execSmin (e : Fin 384) (d a b : Fin 16) (s : State) :
    Host.Outcome State Fault Refusal :=
  scaBin s e.val d.val a.val b.val 1 (smin32)

/-- SMAX (R345, R351): S[d] := signed maximum of S[a] and S[b]. -/
def execSmax (e : Fin 384) (d a b : Fin 16) (s : State) :
    Host.Outcome State Fault Refusal :=
  scaBin s e.val d.val a.val b.val 1 (smax32)

/-- SAND (R345, R351): S[d] := bitwise AND of S[a] and S[b]. -/
def execSand (e : Fin 384) (d a b : Fin 16) (s : State) :
    Host.Outcome State Fault Refusal :=
  scaBin s e.val d.val a.val b.val 1 (fun a b => a &&& b)

/-- SOR (R345, R351): S[d] := bitwise OR of S[a] and S[b]. -/
def execSor (e : Fin 384) (d a b : Fin 16) (s : State) :
    Host.Outcome State Fault Refusal :=
  scaBin s e.val d.val a.val b.val 1 (fun a b => a ||| b)

/-- SXOR (R345, R351): S[d] := bitwise XOR of S[a] and S[b]. -/
def execSxor (e : Fin 384) (d a b : Fin 16) (s : State) :
    Host.Outcome State Fault Refusal :=
  scaBin s e.val d.val a.val b.val 1 (fun a b => a ^^^ b)

/-- SSHL (R345, R351): S[d] := shift left by b mod 32 of S[a] and S[b]. -/
def execSshl (e : Fin 384) (d a b : Fin 16) (s : State) :
    Host.Outcome State Fault Refusal :=
  scaBin s e.val d.val a.val b.val 1 (fun a b => a <<< (b.toNat % 32))

/-- SSHR (R345, R351): S[d] := logical shift right by b mod 32 of S[a] and S[b]. -/
def execSshr (e : Fin 384) (d a b : Fin 16) (s : State) :
    Host.Outcome State Fault Refusal :=
  scaBin s e.val d.val a.val b.val 1 (fun a b => a >>> (b.toNat % 32))

/-- SSAR (R345, R351): S[d] := arithmetic shift right by b mod 32 of S[a] and S[b]. -/
def execSsar (e : Fin 384) (d a b : Fin 16) (s : State) :
    Host.Outcome State Fault Refusal :=
  scaBin s e.val d.val a.val b.val 1 (fun a b => a.sshiftRight (b.toNat % 32))

/-- MOVL (R345): every lane of d takes IMM in its low half and 0 above. -/
def execMovl (e : Fin 384) (d : Fin 64) (imm : BitVec 16) (s : State) :
    Host.Outcome State Fault Refusal :=
  onEngine s e.val ⟨[], [(fileV, d.val)], 2, none, 1, false⟩ fun g => 
    g.setV d.val (fun _ => true) fun _ => imm.zeroExtend 32

/-- MOVH (R345): every lane of d takes IMM in its high half and keeps its low half. -/
def execMovh (e : Fin 384) (d : Fin 64) (imm : BitVec 16) (s : State) :
    Host.Outcome State Fault Refusal :=
  onEngine s e.val ⟨[(fileV, d.val)], [(fileV, d.val)], 2, none, 1, false⟩ fun g => 
    g.setV d.val (fun _ => true) fun k => imm ++ (g.rv d.val k).truncate 16

/-- MOVF (R345): every lane of d takes IMM read as FP16, converted exactly. -/
def execMovf (e : Fin 384) (d : Fin 64) (imm : BitVec 16) (s : State) :
    Host.Outcome State Fault Refusal :=
  onEngine s e.val ⟨[], [(fileV, d.val)], 2, none, 1, false⟩ fun g => 
    g.setV d.val (fun _ => true) fun _ => cvtFH (imm.zeroExtend 32)

/-- SMOVL (R345): S[d] := IMM. -/
def execSmovl (e : Fin 384) (d : Fin 16) (imm : BitVec 16) (s : State) :
    Host.Outcome State Fault Refusal :=
  onEngine s e.val ⟨[], [(fileS, d.val)], 1, none, 1, false⟩ fun g => g.setS d.val (imm.zeroExtend 32)

/-- SMOVH (R345): the high half of S[d] := IMM, the low half kept. -/
def execSmovh (e : Fin 384) (d : Fin 16) (imm : BitVec 16) (s : State) :
    Host.Outcome State Fault Refusal :=
  onEngine s e.val ⟨[(fileS, d.val)], [(fileS, d.val)], 1, none, 1, false⟩ fun g => 
    g.setS d.val (imm ++ (g.rs d.val).truncate 16)

/-- SADDI (R345): S[d] := S[d] + IMM, sign-extended. -/
def execSaddi (e : Fin 384) (d : Fin 16) (imm : BitVec 16) (s : State) :
    Host.Outcome State Fault Refusal :=
  onEngine s e.val ⟨[(fileS, d.val)], [(fileS, d.val)], 1, none, 1, false⟩ fun g => 
    g.setS d.val (g.rs d.val + imm.signExtend 32)

/-- MOV (R345): d := a, its bits unchanged. -/
def execMov (e : Fin 384) (d a : Fin 64) (pr : Fin 8) (pn : Bool) (s : State) :
    Host.Outcome State Fault Refusal :=
  vecUn s e.val d.val a.val pr.val pn 2 id

/-- BCAST (R345): d := S[a] in every lane that takes part. -/
def execBcast (e : Fin 384) (d : Fin 64) (a : Fin 16) (pr : Fin 8) (pn : Bool) (s : State) :
    Host.Outcome State Fault Refusal :=
  onEngine s e.val ⟨[(fileS, a.val), (fileP, pr.val)], [(fileV, d.val)], 2, none, 1, false⟩ fun g => 
    g.setV d.val (g.part pr.val pn) fun _ => g.rs a.val

/-- EXTR (R345): S[d] := lane (S[b] mod 16) of a. -/
def execExtr (e : Fin 384) (d : Fin 16) (a : Fin 64) (b : Fin 16) (s : State) :
    Host.Outcome State Fault Refusal :=
  onEngine s e.val ⟨[(fileV, a.val), (fileS, b.val)], [(fileS, d.val)], 2, none, 1, false⟩ fun g => 
    g.setS d.val (g.rv a.val ((g.rs b.val).toNat % 16))

/-- SEL (R345): d := a where bit k of P[pr] XOR pn is 1, else b; the predicate selects and does not predicate. -/
def execSel (e : Fin 384) (d a b : Fin 64) (pr : Fin 8) (pn : Bool) (s : State) :
    Host.Outcome State Fault Refusal :=
  onEngine s e.val ⟨[(fileV, a.val), (fileV, b.val), (fileP, pr.val)], [(fileV, d.val)], 2, none, 1, false⟩ fun g => 
    g.setV d.val (fun _ => true) fun k => if g.part pr.val pn k then g.rv a.val k else g.rv b.val k

/-- LANEID (R345): d := k in lane k. -/
def execLaneid (e : Fin 384) (d : Fin 64) (pr : Fin 8) (pn : Bool) (s : State) :
    Host.Outcome State Fault Refusal :=
  onEngine s e.val ⟨[(fileP, pr.val)], [(fileV, d.val)], 2, none, 1, false⟩ fun g => 
    g.setV d.val (g.part pr.val pn) fun k => BitVec.ofNat 32 k

/-- SMOV (R345): S[d] := S[a]. -/
def execSmov (e : Fin 384) (d a : Fin 16) (s : State) :
    Host.Outcome State Fault Refusal :=
  onEngine s e.val ⟨[(fileS, a.val)], [(fileS, d.val)], 1, none, 1, false⟩ fun g => g.setS d.val (g.rs a.val)

/-- ICMP_EQ (R345): bit k of P[d] := a = b, AND the lane's predicate. -/
def execIcmpEq (e : Fin 384) (d : Fin 8) (a b : Fin 64) (pr : Fin 8) (pn : Bool) (s : State) :
    Host.Outcome State Fault Refusal :=
  cmpBin s e.val d.val a.val b.val pr.val pn (fun a b => a == b)

/-- ICMP_LT (R345): bit k of P[d] := a < b, signed, AND the lane's predicate. -/
def execIcmpLt (e : Fin 384) (d : Fin 8) (a b : Fin 64) (pr : Fin 8) (pn : Bool) (s : State) :
    Host.Outcome State Fault Refusal :=
  cmpBin s e.val d.val a.val b.val pr.val pn (fun a b => a.slt b)

/-- ICMP_LTU (R345): bit k of P[d] := a < b, unsigned, AND the lane's predicate. -/
def execIcmpLtu (e : Fin 384) (d : Fin 8) (a b : Fin 64) (pr : Fin 8) (pn : Bool) (s : State) :
    Host.Outcome State Fault Refusal :=
  cmpBin s e.val d.val a.val b.val pr.val pn (fun a b => a.ult b)

/-- PAND (R345): P[d] := P[a] AND P[b]; a write to P0 is discarded (R337). -/
def execPand (e : Fin 384) (d a b : Fin 8) (s : State) :
    Host.Outcome State Fault Refusal :=
  preBin s e.val d.val a.val b.val (fun a b => a &&& b)

/-- POR (R345): P[d] := P[a] OR P[b]; a write to P0 is discarded (R337). -/
def execPor (e : Fin 384) (d a b : Fin 8) (s : State) :
    Host.Outcome State Fault Refusal :=
  preBin s e.val d.val a.val b.val (fun a b => a ||| b)

/-- PXOR (R345): P[d] := P[a] XOR P[b]; a write to P0 is discarded (R337). -/
def execPxor (e : Fin 384) (d a b : Fin 8) (s : State) :
    Host.Outcome State Fault Refusal :=
  preBin s e.val d.val a.val b.val (fun a b => a ^^^ b)

/-- PNOT (R345): P[d] := NOT P[a]. -/
def execPnot (e : Fin 384) (d a : Fin 8) (s : State) :
    Host.Outcome State Fault Refusal :=
  onEngine s e.val ⟨[(fileP, a.val)], [(fileP, d.val)], 1, none, 1, false⟩ fun g => g.setP d.val (~~~ g.rp a.val)

/-- PFROMS (R345): P[d] := S[a][15:0]. -/
def execPfroms (e : Fin 384) (d : Fin 8) (a : Fin 16) (s : State) :
    Host.Outcome State Fault Refusal :=
  onEngine s e.val ⟨[(fileS, a.val)], [(fileP, d.val)], 1, none, 1, false⟩ fun g => g.setP d.val ((g.rs a.val).truncate 16)

/-- PTOS (R345): S[d] := P[a], the upper 16 bits 0. -/
def execPtos (e : Fin 384) (d : Fin 16) (a : Fin 8) (s : State) :
    Host.Outcome State Fault Refusal :=
  onEngine s e.val ⟨[(fileP, a.val)], [(fileS, d.val)], 1, none, 1, false⟩ fun g => g.setS d.val ((g.rp a.val).zeroExtend 32)

end Sys2Proof.Machine
end

