-- ==== Sys2Proof/Machine/Wake.lean ====
section
/-!
DEFINITION. Sys2Proof/Machine/Wake.lean: wake ports and the other wake sources of a module in Standby, Dormant or trip hold (R657 to R659, R673).
-/

namespace Sys2Proof.Machine

/-- A wake source acts: from Standby or its entry (R654), from Dormant through power-up (R655), or as the request of a trip hold (R673). -/
def Sys.wakeUp (o : Otp) (y : Sys) (source port : Nat) (b : BootInputs) : Sys :=
  let c : WakeCause := ⟨source, port, y.up⟩
  match y.boot.phase with
  | .running => if source = 6 then y else y.wakeStandby source port
  | .dormant => Sys.bootUp o ((y.wr (ent 0x2700 5) source).onPower fun w => { w with wake := some c }) b 9 true
  | .tripHold => if source = 6 then y else y.onPower fun w => { w with asked := some c }
  | _ => y

/-! ## Wake frames (R658, R659) -/

/-- The bit of a low pulse. -/
def pulseBit (ns : Nat) : Option Nat := if 1000 ≤ ns ∧ ns ≤ 3000 then some 0 else if 5000 ≤ ns ∧ ns ≤ 9000 then some 1 else none

/-- The word of a frame, most significant bit first, or the reason of event 0x1306. -/
def wakeWord (f : WakeFrame) : Nat ⊕ Nat :=
  let bits := (f.pulses.take 16).map pulseBit
  if bits.any (·.isNone) then .inl 0
  else if f.pulses.length < 16 ∨ (f.gaps.take 15).any (fun g => decide (20000 < g)) then .inl 1
  else
    let w : Nat := bits.foldl (fun (n : Nat) (b : Option Nat) => 2 * n + b.getD 0) 0
    if (w / 4096 ^^^ (w / 256 % 16) ^^^ (w / 16 % 16)) ≠ w % 16 then .inl 2
    else if w / 16 % 16 ≠ 1 ∧ w / 16 % 16 ≠ 2 then .inl 3
    else .inr w

/-- State in a reply (R659); a module on its way to step 8 is EXITING. -/
def Sys.wakeState (y : Sys) : Nat :=
  match y.boot.phase with
  | .running => (match y.device with | 0 => 1 | 2 => 2 | 3 => 5 | _ => 4)
  | .dormant => 3
  | .tripHold => 6
  | _ => 5

/-- The port answers at its own address, never to a broadcast. Its output drives only after power-up has sampled good straps (R83, R87). -/
def Sys.wakeReply (y : Sys) (n addr : Nat) : Sys :=
  let own := y.rd (ent (0x2704 + n) 2)
  if addr ≠ own then y
  else
    let st := y.wakeState
    Sys.send (y.inc (ent (0x2704 + n) 5)) (.wake n (le 2 (own * 256 + st * 16 + (own / 16 ^^^ own % 16 ^^^ st))))

/-- A frame with the command: a malformed one is rejected and counted, one for another address is ignored. -/
def Sys.wakeFrame (y : Sys) (n cmd : Nat) (f : WakeFrame) (h : Sys → Sys) : Sys :=
  let deaf := y.resetAsserted || y.boot.strapFault
  if deaf || y.rd (ent (0x2704 + n) 1) == 0 then y
  else match wakeWord f with
    | .inl r => (y.inc (ent (0x2704 + n) 4)).raiseLimited n 0x1306 n (ev [(0, 1, n), (1, 1, r)])
    | .inr w =>
      let addr := w / 256
      if w / 16 % 16 ≠ cmd ∨ (addr ≠ y.rd (ent (0x2704 + n) 2) ∧ addr ≠ 0xFF) then y
      else Sys.wakeReply (h (y.inc (ent (0x2704 + n) 3))) n addr

/-- WAKE_FRAME_WAKE. -/
def execWakeFrameWake (port : Fin 2) (frame : WakeFrame) (boot : BootInputs) (s : State) : Host.Outcome State Fault Refusal :=
  onSys s fun o y => y.wakeFrame port.val 1 frame fun z =>
    if z.wakeEnabled (2 + port.val) then z.wakeUp o (2 + port.val) port.val boot else z

/-- WAKE_FRAME_PING. -/
def execWakeFramePing (port : Fin 2) (frame : WakeFrame) (s : State) : Host.Outcome State Fault Refusal :=
  onSys s fun _ y => y.wakeFrame port.val 2 frame id

/-! ## The other sources (R657) -/

/-- WAKE_TIO_EDGE: the selected edge of the ball of 0x2701:02, whose function is CAPTURE_IN. -/
def execWakeTioEdge (ball : Fin 32) (falling : Bool) (boot : BootInputs) (s : State) : Host.Outcome State Fault Refusal :=
  onSys s fun o y =>
    let edge := y.rd (ent 0x2701 4)
    if y.tioHeld then y
    else if y.rd (ent 0x2701 2) = ball.val ∧ y.tioFn ball.val = 7 ∧ (edge = 2 ∨ edge = (if falling then 1 else 0)) ∧ y.wakeEnabled 4 then
      y.wakeUp o 4 ball.val boot
    else y

/-- WAKE_ALARM: T96 has reached 0x2701:03. -/
def execWakeAlarm (boot : BootInputs) (s : State) : Host.Outcome State Fault Refusal :=
  onSys s fun o y =>
    let a := y.rd (ent 0x2701 3)
    if a ≠ 0 ∧ a ≤ y.t96 ∧ y.wakeEnabled 5 then y.wakeUp o 5 0 boot else y

/-- WAKE_EP_PERST: the host releases EP_PERST_N; a source of Dormant alone. -/
def execWakeEpPerst (boot : BootInputs) (s : State) : Host.Outcome State Fault Refusal :=
  onSys s fun o y => if y.wakeEnabled 6 then y.wakeUp o 6 0 boot else y

/-- TRIP_HOLD_CHECK (R673): cool, by the valid sensors' own readings, and asked for. -/
def execTripHoldCheck (boot : BootInputs) (s : State) : Host.Outcome State Fault Refusal :=
  onSys s fun o y =>
    let cool (l : List (Nat × Int)) (limit : Int) : Bool := match hottest l with | some p => decide (p.2 < limit) | none => false
    if y.boot.phase ≠ .tripHold ∨ y.power.asked.isNone then y
    else if cool y.validCore 11000 && cool y.validDram 10000 then
      -- the hold is over with the restart: a reset in its power-up is a reset like any other (R111)
      let z := Sys.bootUp o { y with mram := { y.mram with tripped := none } } boot 6 true
      { z with boot := { z.boot with trip := y.mram.tripped } }
    else y

end Sys2Proof.Machine
end

