-- ==== Sys2Proof/Machine/Array.lean ====
section
/-!
DEFINITION. Sys2Proof/Machine/Array.lean: what the modules of an array and of a twin pair tell each other on CONTROL (R680, R684, R690, R695, R696,
R705): the messages, their sending and their effects. The octets of a message are this model's own (log entry 22).
-/

namespace Sys2Proof.Machine

/-! ## Places in the array (R682, R683) -/

/-- The partner of link k (0x4C08 + k:02): 1 PEER, 2 TWIN, 3 PEER_TWIN, 4 NEIGHBOUR. -/
def Sys.linkKind (y : Sys) (k : Nat) : Nat := y.rd (ent (0x4C08 + k) 2)
/-- Position of the partner of link k. -/
def Sys.linkPos (y : Sys) (k : Nat) : Nat := strapPos (y.rd (ent (0x4C08 + k) 4))
def Sys.present (y : Sys) (p : Nat) : Bool := y.rdBit (ent 0x4C01 5) p
/-- Every position of the array is present. -/
def Sys.allPresent (y : Sys) : Bool := (List.range (y.rd (ent 0x4C00 1))).all y.present

/-- A change of array state (0x4C01:01), with event 0x1403: 2 FORMED, 3 DEGRADED. -/
def Sys.arrayTo (y : Sys) (st : Nat) : Sys :=
  if y.rd (ent 0x4C01 1) = st then y else (y.wr (ent 0x4C01 1) st).raise 0x1403 255 (ev [(0, 1, st), (1, 1, y.rd (ent 0x4C01 5))])

/-- Buffers that wait for no one any longer become complete (R686, R691). -/
def Sys.settleStores (y : Sys) : Sys :=
  { y with stores := y.stores.map fun (st : Store) => { st with bufs := st.bufs.map fun b => y.settleBuf st.ctx st.binding b } }

/-- Another position takes the head's duties, or they return (R690, R692): the PTP ports and the sources follow it (R215). -/
def Sys.actingHead (y : Sys) (o : Otp) (p : Nat) : Sys :=
  if y.rd (ent 0x4C01 6) = p then y
  else Sys.sourcesChanged (((y.wr (ent 0x4C01 6) p).raise 0x1410 255 (ev [(0, 1, p)])).ptpRestart o.dieId)

/-! ## Entries of the members (R684, R690) -/

/-- Values as `memberOctets` writes them. -/
def membersOf : Nat → Bytes → List (Nat × Bytes)
  | 0, _ => []
  | fuel + 1, b =>
    if b.length < 7 then []
    else
      let n := rdLe b 3 4
      (rdLe b 0 2 * 256 + rdLe b 2 1, slice b 7 n) :: membersOf fuel (b.drop (7 + n))

def membersIn (b : Bytes) : List (Nat × Bytes) := membersOf (b.length / 7) b

/-- A unit as `CommitUnit.octets` writes it. -/
def unitIn (b : Bytes) (path : Nat) : CommitUnit :=
  let gtag := rdLe b 9 1
  let t := rdLe b 12 4
  let scope := if gtag = 0 ∧ rdLe b 10 1 = 0 then Scope.single else (scopeOf (rdLe b 10 1) (rdLe b 11 1)).getD .immediate
  { slot := rdLe b 1 8 / 100000, path := path, role := roleOfCode (rdLe b 0 1), stamp := rdLe b 1 8, counter := 0, session := 0, source := 0, node := 0, tag := 0,
    gtag := gtag, op := 0, scope := scope, target := if t = 0xFFFFFFFF then none else some t, members := membersIn (b.drop 19),
    position := none, origin := none }

/-- A unit of another member with the path rank and the session it arrived with (R684). -/
def frontedUnit (b : Bytes) : CommitUnit := { unitIn b (rdLe b 16 1) with session := rdLe b 17 2 }

/-- An entry of position p as the head has ordered it; the own dictionary has the module's own. -/
def Sys.memberEntry (y : Sys) (p k : Nat) : Nat :=
  if p = y.arrayPos then y.rd k else (y.twin.bands.lookup (p * 2 ^ 24 + k)).getD (dfltNum k)

/-- The per-member entries of position p. -/
def Sys.bandMembers (y : Sys) (p : Nat) : List (Nat × Bytes) :=
  ((List.range 16).flatMap fun x => [ent (0x4000 + x) 5, ent (0x4000 + x) 6].map fun k => (k, le 2 (y.memberEntry p k))) ++
    [(ent 0x4C00 3, le 1 (y.memberEntry p (ent 0x4C00 3))), (ent 0x4C00 4, le 1 (y.memberEntry p (ent 0x4C00 4)))]

/-- The module tells the partner of link k its own per-member entries; every member holds them all (R684). -/
def Sys.tellOwn (y : Sys) (k : Nat) : Sys := y.control k .entries (le 1 y.arrayPos ++ (y.bandMembers y.arrayPos).flatMap memberOctets)

/-- Step 4 of forming: the member of link k gets the entries that are the same on every member (R683). -/
def Sys.tellMember (y : Sys) (k : Nat) : Sys :=
  let locks := (List.range 8).flatMap fun l => (List.range 4).map fun i => (ent (0x4160 + l) (i + 1), le 4 (y.rd (ent (0x4160 + l) (i + 1))))
  let own := [(ent 0x4C00 1, le 1 (y.rd (ent 0x4C00 1))), (ent 0x4C00 2, le 2 (y.rd (ent 0x4C00 2)))]
  y.control k .entries (le 1 (y.linkPos k) ++ (locks ++ own).flatMap memberOctets)

/-- Values of position p are noted. -/
def Sys.noteBands (y : Sys) (p : Nat) (l : List (Nat × Bytes)) : Sys :=
  y.onTwin fun t => { t with bands := (l.filter fun m => perMember m.1).foldl (fun b m => kput b (p * 2 ^ 24 + m.1) (unLe m.2)) t.bands }

/-- Values for position p: noted, and live where they are the own dictionary's. -/
def Sys.takeEntries (o : Otp) (y : Sys) (p : Nat) (l : List (Nat × Bytes)) : Sys :=
  l.foldl (fun (y : Sys) (m : Nat × Bytes) =>
    if !arrayWide m.1 || (perMember m.1 && p != y.arrayPos) then y else y.putLive o m.1 m.2) (y.noteBands p l)

/-! ## Loss and return of a member (R689 to R692) -/

/-- The bands of a lost position and of its cover as one, by context: first line and lines. -/
def Sys.joinedBands (y : Sys) (lost cover : Nat) : List (Nat × Bytes) :=
  (List.range 16).flatMap fun x =>
    let f (p : Nat) : Nat := y.memberEntry p (ent (0x4000 + x) 5)
    let n (p : Nat) : Nat := y.memberEntry p (ent (0x4000 + x) 6)
    if n lost = 0 ∨ n cover = 0 then []
    else [(ent (0x4000 + x) 5, le 2 (min (f lost) (f cover))), (ent (0x4000 + x) 6, le 2 (n lost + n cover))]

/-- The bands go live at the cover's next latch points, where admission lets them (R39, R690); the first frame they cover. -/
def Sys.coverBands (y : Sys) (l : List (Nat × Bytes)) : Option Sys :=
  let w : Writer := { path := 0, role := .integrator, session := 0 }
  let z := l.foldl (fun (z : Sys) (m : Nat × Bytes) =>
    let u := writeUnit z w m.1 m.2
    z.stage { u with scope := .context (m.1 / 256 % 16) }) y
  if (z.overBudget z.planned.view).isSome then none else some z

/-- Number of the next frame of the lowest active context. -/
def Sys.nextFrame (y : Sys) : Nat :=
  match (List.range 8).find? y.view.active with
  | some x => (((y.ctx x).last.map Prod.snd).getD 0 + 1) % 2 ^ 32
  | none => 0

/-- Position p is lost, as the head has decided: 1 its bands are re-mapped to the cover, 2 DEGRADED. -/
def Sys.memberGone (y : Sys) (p response cover first : Nat) : Sys :=
  if !y.present p then y
  else
    let y := (y.wrBit (ent 0x4C01 5) p false).raise 0x1404 255 (ev [(0, 1, p), (1, 1, response)])
    let y := if response = 1 then y.raise 0x1405 255 (ev [(0, 1, p), (1, 1, cover), (4, 4, first)]) else y
    (y.wr (ent 0x4C01 1) 3).settleStores

/-- The head's response to the loss of a position: to its cover, or DEGRADED; the others are told (R690). -/
def Sys.headDecides (y : Sys) (p : Nat) : Sys :=
  let cover := y.memberEntry p (ent 0x4C00 3)
  let joined := y.joinedBands p cover
  let own := cover = y.arrayPos
  let covered := if cover = 255 ∨ !y.present cover ∨ joined.isEmpty then none
    else if own then (y.noteBands y.arrayPos (y.bandMembers y.arrayPos)).coverBands joined
    else (y.posLink cover).map fun k => y.control k .entries (le 1 (0xC0 + cover) ++ joined.flatMap memberOctets)
  let response := if covered.isSome then 1 else 2
  let first := y.nextFrame
  let y := (covered.getD y).memberGone p response cover first
  y.controlAll .entries (le 1 (0x80 + p) ++ le 1 response ++ le 1 cover ++ le 4 first)

/-- An armed twin, or one that is PRIMARY already, stands at a position (R690): its last heartbeat says so. -/
def Sys.twinStands (y : Sys) (p k : Nat) : Bool :=
  (List.range 4).any fun m => m != k && y.garosUp m && y.linkKind m != 2 && y.linkPos m == p &&
    (rdLe (y.link m).heard 1 1 == 1 || (rdLe (y.link m).heard 2 1 == 2 && rdLe (y.link m).heard 3 1 == 0))

/-- MEMBER_LOST: the partner of link k is gone (R689, R690). -/
def Sys.memberLost (y : Sys) (o : Otp) (k : Nat) : Sys :=
  let p := y.linkPos k
  let head := y.rd (ent 0x4C01 6)
  if y.rd (ent 0x4C01 1) < 2 ∨ !y.present p then y
  else if y.twinStands p k then y.raise 0x1404 255 (ev [(0, 1, p)])
  else if p = head then
    let left := (List.range 4).filter fun q => q != p && y.present q
    let y := y.actingHead o (left.headD y.arrayPos)
    if y.arrayHead then y.headDecides p else y.memberGone p 2 255 0
  else if y.arrayHead then y.headDecides p
  else if (y.posLink head).isSome then
    -- two members have lost their link; the head still has both (R689)
    (y.wr (ent 0x4C01 1) 3).raise 0x1406 255 (ev [(0, 1, min y.arrayPos p), (1, 1, max y.arrayPos p)])
  else y.memberGone p 2 255 0

/-- Position p is back (R692): it has its own bands again at the latch points that follow, and the cover has its own. -/
def Sys.memberBack (y : Sys) (o : Otp) (p : Nat) : Sys :=
  if y.present p then y
  else
    let y := (y.wrBit (ent 0x4C01 5) p true).raise 0x1407 255 (ev [(0, 1, p)])
    let y := if p = 0 then y.actingHead o 0 else y
    let y := if y.allPresent then y.wr (ent 0x4C01 1) 2 else y
    let cover := y.memberEntry p (ent 0x4C00 3)
    if !y.arrayHead || cover == 255 then y
    else
      let mine := ((y.bandMembers cover).filter fun m => m.1 / 256 < 0x4010).map fun m =>
        (m.1, le 2 ((y.twin.bands.lookup (cover * 2 ^ 24 + m.1)).getD (unLe m.2)))
      if cover = y.arrayPos then (y.coverBands mine).getD y
      else match y.posLink cover with
        | some k => y.control k .entries (le 1 (0xC0 + cover) ++ mine.flatMap memberOctets)
        | none => y

/-- An ENTRIES message: values of a position (0 to 3), a lost position (0x80), bands for the cover (0xC0). -/
def Sys.entriesIn (o : Otp) (y : Sys) (b : Bytes) : Sys :=
  let h := rdLe b 0 1
  let p := h % 4
  match h / 64 with
  | 0 => y.takeEntries o p (membersIn (b.drop 1))
  | 2 => y.memberGone p (rdLe b 1 1) (rdLe b 2 1) (rdLe b 3 4)
  | 3 => if p = y.arrayPos then (y.coverBands (membersIn (b.drop 1))).getD y else y
  | _ => y

/-! ## Units between members (R684) -/

/-- A member's unit reaches the head, which orders it by its stamp, role and path. -/
def Sys.frontUnitIn (y : Sys) (k : Nat) (b : Bytes) : Sys :=
  if !y.arrayHead then y
  else
    let u : CommitUnit := frontedUnit (b.drop 11)
    y.onDen fun d => { d with units := d.units ++
      [{ u with counter := rdLe b 7 4, op := rdLe b 6 1, position := some (rdLe b 4 1), origin := some (k, rdLe b 0 4) }] }

/-- The head's request arrives at the member it addresses: a read is served and the head gets its answer; a unit that passes its arrival checks waits
for the member's own next commit slot (R34). -/
def Sys.frontApplyIn (o : Otp) (y : Sys) (k : Nat) (b : Bytes) : Sys :=
  let op := rdLe b 4 1
  let via := (k, rdLe b 0 4)
  let u : CommitUnit := { frontedUnit (b.drop 5) with op := op, origin := some via }
  let key := (u.members.head?.map Prod.fst).getD 0
  if op = 1 ∨ op = 2 ∨ op = 7 then
    let v := y.readEntry o 0 0 0 u.role key (op == 2)
    if v.1 = .ok then v.2.2.frontReply via .ok key 0 v.2.1 else y.frontReply via v.1 key 0 []
  else
    let place (i : Nat) : Nat := if u.gtag = 0 then 0 else i + 1
    match u.members.zipIdx.find? fun m => (y.arrival o u.actor m.1.1 m.1.2).1 != .ok with
    | some m =>
      let a := y.arrival o u.actor m.1.1 m.1.2
      a.2.frontReply via a.1 m.1.1 (place m.2) []
    | none =>
      y.onDen fun d => { d with units := d.units ++ [u] }

/-- A status from its code (R133). -/
def statusOf (n : Nat) : Status :=
  ([Status.ok, .staged, .superseded, .noEntry, .noSubindex, .readOnly, .writeOnly, .type, .range, .role, .exhausted, .state, .overbudget, .scope, .late,
    .auth, .session, .busy, .timeout, .aborted].find? fun s => s.code == n).getD .protocol

/-- A request as it was, as far as its answer needs it. -/
def requestOf (u : CommitUnit) (key : Nat) : Req :=
  { path := u.path, source := u.source, node := u.node, dst := 0, word := 0, func := 4, tag := u.tag,
    body := le 2 24 ++ le 1 u.op ++ [0] ++ le 2 (key / 256) ++ le 1 (key % 256) ++ List.replicate 17 0, stamp := u.stamp }

/-- An answer from the member: to the requester, or on to the member that asked. -/
def Sys.frontAnswerIn (y : Sys) (b : Bytes) : Sys :=
  match y.twin.fronted.lookup (rdLe b 0 4) with
  | none => y
  | some u =>
    let st := statusOf (rdLe b 4 1)
    let key := rdLe b 5 2 * 256 + rdLe b 7 1
    let pos := rdLe b 8 1
    let v := b.drop 9
    let y := y.onTwin fun t => { t with fronted := t.fronted.filter fun p => p.1 != rdLe b 0 4 }
    if u.op = 7 ∧ st = .ok then y.openRead (requestOf u key) u.session v
    else if u.op = 1 ∨ u.op = 2 then
      let long := valueLimit u.path < v.length
      (y.response u.path u.source u.node u.session u.tag u.op (if long then .type else st) key pos (if long then [] else v)).lastAnswered u.session u.counter
    else
      let y := if st.fine then match u.position with | some p => y.shareArray p u.members | none => y else y
      y.answer u st key pos

/-! ## Mirroring (R695, R696) -/

/-- SHADOW has acknowledged a unit: its writer gets the answer; EXHAUSTED disarms (R696). -/
def Sys.mirrorAckIn (y : Sys) (b : Bytes) : Sys :=
  match y.twin.waits.find? fun w => w.1 == rdLe b 0 4 with
  | none => y
  | some w =>
    let y := y.onTwin fun t => { t with waits := t.waits.filter fun v => v.1 != w.1, exhausted := t.exhausted || rdLe b 4 1 == 0x17 }
    Sys.rearm (y.answer w.2.2.1 w.2.2.2 0 0)

/-- SHADOW is lost: the writers that wait get their answers (R696). -/
def Sys.flushWaits (y : Sys) : Sys :=
  let l := y.twin.waits
  l.foldl (fun (y : Sys) (w : Nat × Nat × CommitUnit × Status) => y.answer w.2.2.1 w.2.2.2 0 0) (y.onTwin fun t => { t with waits := [] })

/-! ## Resynchronisation (R701, R705) -/

/-- What a returning twin copies of an entry: values, and what shows the look slots and the table library. -/
def copied (k : Nat) : Bool :=
  let i := k / 256
  mirrored k && match keyDef k with
    | none => false
    | some r => r.access == .rw || r.access == .rwc || (decide (0x3840 ≤ i) && decide (i ≤ 0x384F)) || (decide (0x3C40 ≤ i) && decide (i ≤ 0x3C7F))

/-- Message pieces of at most about 1,900 octets. -/
def pieces : List Bytes → List Bytes
  | [] => []
  | m :: r =>
    match pieces r with
    | [] => [m]
    | p :: q => if m.length + p.length ≤ 1900 then (m ++ p) :: q else m :: p :: q

/-- PRIMARY sends the values, the tables, the units that wait, and the contexts' frame numbers (R705 step 2). -/
def Sys.resyncSend (o : Otp) (y : Sys) : Sys :=
  let say (b : Bytes) (y : Sys) : Sys := y.controlTwin .resync b
  let keys := ((y.dict.map Prod.fst) ++ (y.blobs.map Prod.fst)).filter copied
  let values := keys.filterMap fun k => (keyDef k).map fun r => memberOctets (k, y.liveValue o r k)
  let y := (pieces values).foldl (fun y p => say (le 1 3 ++ p) y) (say [2] y)
  let y := y.tables.foldl (fun (y : Sys) (t : Nat × LibTable) =>
    let head := le 1 4 ++ le 1 t.1 ++ le 1 (if t.2.formula.isSome then 1 else 0) ++ le 2 (t.2.formula.getD []).length ++ t.2.formula.getD [] ++
      t.2.filled.flatMap fun r => le 4 r.1 ++ le 4 r.2
    (List.range ((t.2.data.length + 1899) / 1900)).foldl (fun y i => say (le 1 5 ++ le 1 t.1 ++ (t.2.data.drop (1900 * i)).take 1900) y) (say head y)) y
  let y := y.den.latched.foldl (fun (y : Sys) (u : CommitUnit) =>
    y.controlTwin .mirror (le 4 0 ++ le 4 (y.liveAt u) ++ CommitUnit.octets { u with members := u.members.filter fun m => mirrored m.1 })) y
  say (le 1 6 ++ (List.range 8).flatMap fun x => match (y.ctx x).last with | some l => le 1 x ++ le 2 l.1 ++ le 4 l.2 | none => []) y

/-- The numbers of the contexts: 7 octets each. -/
def adoptIn : Nat → Bytes → List (Nat × Nat × Nat)
  | 0, _ => []
  | fuel + 1, b => if b.length < 7 then [] else (rdLe b 0 1, rdLe b 1 2, rdLe b 3 4) :: adoptIn fuel (b.drop 7)

/-- Pairs of 32-bit numbers. -/
def pairsIn : Nat → Bytes → List (Nat × Nat)
  | 0, _ => []
  | fuel + 1, b => if b.length < 8 then [] else (rdLe b 0 4, rdLe b 4 4) :: pairsIn fuel (b.drop 8)

/-- The mirrored entries take their defaults before PRIMARY's values come. -/
def Sys.clearMirrored (o : Otp) (y : Sys) : Sys :=
  let blank : Sys := { y with dict := [], blobs := [] }
  let keys := ((y.dict.map Prod.fst) ++ (y.blobs.map Prod.fst)).filter copied
  keys.foldl (fun (y : Sys) (k : Nat) => match keyDef k with | some r => y.putLive o k (blank.liveValue o r k) | none => y)
    { y with tables := [] }

/-- The looks and the tables that the copied values select are made ready. -/
def Sys.prepareLive (y : Sys) : Sys :=
  (List.range 16).foldl (fun (y : Sys) (x : Nat) =>
    [(ent (0x3800 + x) 1, le 1 (y.rd (ent (0x3800 + x) 1))), (ent (0x3C10 + x) 6, y.rdB (ent (0x3C10 + x) 6))].foldl (fun (y : Sys) (m : Nat × Bytes) =>
      if y.view.active x then (y.prepare m).getD y else y) y) y

/-- A RESYNC message: 0 role and its beginning, 1 SHADOW asks, 2 to 6 PRIMARY's values. -/
def Sys.resyncIn (o : Otp) (y : Sys) (b : Bytes) : Sys :=
  match rdLe b 0 1 with
  | 0 =>
    -- both PRIMARY: the later one yields, twin index 1 where they are equal (R701)
    let since := rdLe b 2 12
    let later := y.twin.since > since || (y.twin.since == since && twinIndex (y.rd (ent 0x2010 1)) == 1)
    if y.twinRole = 1 ∧ rdLe b 1 1 = 1 then (if later then y.resyncStart o 2 else y)
    else if y.twinRole = 2 ∧ y.twinState = 4 then y.resyncStart o 1
    else y
  | 1 => if y.twinRole ≠ 1 then y else Sys.resyncSend o (Sys.rearm (y.setTwinState 3))
  | 2 => if y.twinState = 3 then y.clearMirrored o else y
  | 3 => if y.twinState = 3 then (membersIn (b.drop 1)).foldl (fun (y : Sys) (m : Nat × Bytes) => if copied m.1 then y.putLive o m.1 m.2 else y) y else y
  | 4 =>
    if y.twinState ≠ 3 then y
    else
      let n := rdLe b 3 2
      y.setTable (rdLe b 1 1) { data := [], filled := pairsIn (b.length / 8) (b.drop (5 + n)), formula := if rdLe b 2 1 = 1 then some (slice b 5 n) else none }
  | 5 =>
    if y.twinState ≠ 3 then y
    else match y.tables.lookup (rdLe b 1 1) with
      | some t => y.setTable (rdLe b 1 1) { t with data := t.data ++ b.drop 2 }
      | none => y
  | 6 =>
    if y.twinState ≠ 3 then y
    else
      let y := y.onTwin fun t => { t with adopt := adoptIn (b.length / 7) (b.drop 1) }
      y.prepareLive.resyncStep 2
  | _ => y

/-! ## The mailbox relay (R642) -/

/-- The odd mailbox that takes a message from the quad at `pos` of link k. -/
def Sys.relayBox (y : Sys) (k pos : Nat) : Option Nat :=
  ((List.range 8).find? fun q => y.rd (ent (0x2488 + q) 3) == pos &&
    (if k = 4 then y.quadFn q == .felley else y.quadFn q == .garos && q / 2 == k)).map fun q => 2 * (q + 1) + 1

/-! ## A frame on CONTROL (R680, R715) -/

/-- A frame comes from the channel in its sequence: `some` with its acceptance noted; what came before is acknowledged again; a frame past a gap, or with
a failed check, is discarded. -/
inductive CtlIn where
  | fresh | again | lost
  deriving DecidableEq, Repr

def Sys.controlSeq (y : Sys) (k seq : Nat) (checkOk : Bool) : CtlIn :=
  let chan := if k = 4 then 255 else 0
  let want := ((y.link k).expect.lookup chan).getD seq
  let gap := (seq + 65536 - want) % 65536
  if !checkOk then .lost else if gap = 0 then .fresh else if 32768 ≤ gap then .again else .lost

/-- The next sequence of a channel. -/
def Sys.expectNext (y : Sys) (k chan seq : Nat) : Sys :=
  y.setLink k { y.link k with expect := (chan, (seq + 1) % 65536) :: (y.link k).expect.filter fun p => p.1 != chan }

/-- The partner has acknowledged a frame. -/
def Sys.acked (y : Sys) (k seq : Nat) : Sys := y.setLink k { y.link k with unacked := (y.link k).unacked.filter fun f => f.seq != seq }

/-- A relay message finds its mailbox with a message still waiting: it is not taken, and comes again. -/
def Sys.relayWaits (y : Sys) (k kind : Nat) (body : Bytes) : Bool :=
  kind == Ctl.relay.num && match y.relayBox k (rdLe body 0 1) with | some m => (y.mail m).go | none => false

/-! ## Power commands of an array (R688) -/

/-- No member refuses: the head enters with all of them. -/
def Sys.askEnter (y : Sys) (a : PowerAsk) : Sys :=
  let r := (y.onTwin fun t => { t with ask := some { a with links := [], entered := true } }).standby a.dormant false
  if r.1 = .ok then r.2 else r.2.askEnd r.1

/-- The member on link k has answered, or is lost: a refusal ends the command with STATE. -/
def Sys.askAnswer (y : Sys) (k : Nat) (ok : Bool) : Sys :=
  match y.twin.ask with
  | none => y
  | some a =>
    if a.entered || !a.links.contains k then y
    else if !ok then y.askEnd .state
    else
      let a := { a with links := a.links.filter fun n => n != k }
      if a.links = [] then y.askEnter a else y.onTwin fun t => { t with ask := some a }

/-- A power command on CONTROL: 0 enter, 1 would the module refuse, 2 it would not, 3 it would. -/
def Sys.powerIn (y : Sys) (k : Nat) (b : Bytes) : Sys :=
  match rdLe b 1 1 with
  | 0 => (y.standby (rdLe b 0 1 == 3) true).2
  | 1 => y.control k .power (le 1 (rdLe b 0 1) ++ le 1 (if y.powerBars = .ok then 2 else 3))
  | 2 => y.askAnswer k true
  | _ => y.askAnswer k false

/-- What a CONTROL frame of a Garos link does where no command of its own does it. -/
def Sys.controlEffect (o : Otp) (y : Sys) (k kind : Nat) (b : Bytes) : List OtpOp × Sys :=
  match kind with
  | 4 => ([], y.mirrorAckIn b)
  | 8 => ([], match y.relayBox k (rdLe b 0 1) with | some m => y.mailSend m (b.drop 1) | none => y)
  | 9 => ([], y.powerIn k b)
  | 11 => ([], y.entriesIn o b)
  | 12 => ([], y.resyncIn o b)
  | 20 => ([], y.frontUnitIn k b)
  | 21 => ([], y.frontApplyIn o k b)
  | 22 => ([], y.frontAnswerIn b)
  | _ => ([], y)

/-! ## Denval over Felley (R721) -/

/-- A request that the partner has forwarded is handled as one that came on its path. -/
def Sys.denvalFrame (o : Otp) (y : Sys) (r : Req) : Sys :=
  match r.func, r.op with
  | 4, 2 => authed denvalReadShadowFrame o y r
  | 4, 3 => authed denvalWriteFrame o y r
  | 4, 4 => authed groupMemberFrame o y r
  | 4, 5 => authed groupBeginFrame o y r
  | 4, 6 => authed groupCommitFrame o y r
  | 4, 7 => authed segReadInitFrame o y r
  | 4, 8 => authed segWriteInitFrame o y r
  | 4, 9 => authed denvalAbortFrame o y r
  | 4, _ => authed denvalReadFrame o y r
  | 6, _ => authed segDownFrame o y r
  | 8, _ => authed segAckFrame o y r
  | 12, 1 => sessionHelloFrame o y r
  | 12, 2 => sessionProofAFrame o y r
  | 12, 3 => sessionProofBFrame o y r
  | 12, 5 => sessionCloseFrame o y r
  | _, _ => y

/-- A forwarded frame: a request for this module, with its path rank and stamp, or the answer to one that this module forwarded. -/
def Sys.forwardIn (o : Otp) (y : Sys) (b : Bytes) : Sys :=
  let path := rdLe b 1 1
  let source := rdLe b 2 6
  if rdLe b 0 1 = 1 then y.frameRaw path source (rdLe b 8 4) (b.drop 12)
  else
    let word := rdLe b 16 4
    let dst := word / 2 ^ 17 % 128
    if dst ≠ y.node ∧ !y.fronts dst then y
    else y.denvalFrame o { path := path, source := farSource path source, node := word / 2 ^ 10 % 128, dst := dst, word := word, func := word / 2 ^ 24,
                           tag := word % 1024, body := b.drop 20, stamp := rdLe b 8 8 }

/-- What a CONTROL frame of the Felley link does where no command of its own does it. -/
def Sys.felleyEffect (o : Otp) (y : Sys) (kind : Nat) (b : Bytes) : Sys :=
  match kind with
  | 8 => (match y.relayBox 4 (rdLe b 0 1) with | some m => y.mailSend m (b.drop 1) | none => y)
  | 13 => if rdLe b 0 1 = 1 then y.setLink 4 { y.link 4 with bases := (y.link 4).bases ++ [rdLe b 1 12] } else y
  | 16 => y.felleyProvenance b
  | 18 => y.forwardIn o b
  | _ => y

end Sys2Proof.Machine
end

