-- ==== Sys2Proof/Machine/Twins.lean ====
section
/-!
DEFINITION. Sys2Proof/Machine/Twins.lean: arrays and twin pairs (R678 to R711): Garos links, time transfer, formation, Marionette heartbeats, loss and
return of partners, mirrored units, and the CONTROL channel of the Felley link (R715).
-/

namespace Sys2Proof.Machine

/-! ## Links come up (R678, R683, R694) -/

/-- The formation fault of a partner's straps and array size, by cause: 0 role, 1 size, 2 position, 3 twin index. -/
def Sys.formationFault (y : Sys) (straps size : Nat) : Option Nat :=
  let own := y.rd (ent 0x2010 1)
  let array := own % 4 == 3
  let twins := own.testBit 4 && straps.testBit 4
  let same := !array || strapPos own == strapPos straps
  if own % 4 ≠ straps % 4 then some 0
  else if array && size != y.rd (ent 0x4C00 1) then some 1
  else if array && decide (size ≤ strapPos straps) then some 2
  else if same && !twins then some 2
  else if same && twinIndex own == twinIndex straps then some 3
  else none

/-- What the partner is to this module (R708): 1 PEER, 2 TWIN, 3 PEER_TWIN, 4 NEIGHBOUR. -/
def Sys.partnerKind (y : Sys) (straps : Nat) : Nat :=
  let own := y.rd (ent 0x2010 1)
  if !own.testBit 4 then 4
  else if own % 4 != 3 || strapPos own == strapPos straps then 2
  else if twinIndex own == twinIndex straps then 1 else 3

/-- A role of the pair is taken: ports and sources follow it (R693). -/
def Sys.takeRole (o : Otp) (y : Sys) (role state : Nat) : Sys :=
  let y := (y.wr (ent 0x4C01 2) role).setTwinState state
  let y := y.onTwin fun t => { t with since := y.t96, taking := none }
  Sys.showTime (Sys.sourcesChanged (Sys.ptpRestart (upto 8 (fun n y => y.portState n) y) o.dieId))

/-- Both twins carry one index: the one with the lower die ID goes on as index 0, the other is REFUSED (R694). -/
def Sys.sameIndex (o : Otp) (y : Sys) (die : Nat) : Sys :=
  if die ≤ o.dieId then y.takeRole o 2 6 else if y.twinRole = 0 then y.takeRole o 1 1 else y

/-- The array is complete once every position is there (R683 step 2); one that comes later rejoins at its heartbeat (R692). -/
def Sys.formed (y : Sys) (k : Nat) : Sys :=
  if y.view.role ≠ 3 ∨ y.linkKind k = 2 then y
  else
    let y := y.tellOwn k
    if y.rd (ent 0x4C01 1) ≠ 1 then y
    else
      let y := y.wrBit (ent 0x4C01 5) (y.linkPos k) true
      if !y.allPresent then y
      else
        let y := y.arrayTo 2
        if y.arrayHead then (List.range 4).foldl (fun y m => if y.garosUp m && y.linkKind m != 2 then y.tellMember m else y) y else y

/-- GAROS_LINK_HELLO: the partner is identified and checked; the link is UP, or REFUSED. -/
def execGarosLinkHello (link : Fin 4) (die : BitVec 64) (straps size : BitVec 8) (_fwHash : Bytes) (s : State) : Host.Outcome State Fault Refusal :=
  onSys s fun o y =>
    let k := link.val
    let st := y.rd (ent (0x4C08 + k) 1)
    if st = 0 ∨ y.boot.phase ≠ .running then y
    else
      match y.formationFault straps.toNat size.toNat with
      | some cause =>
        if st = 4 then y
        else
          let y := (y.wr (ent (0x4C08 + k) 1) 4).raise 0x140E k (ev [(0, 1, k), (1, 1, cause)])
          if cause = 3 then y.sameIndex o die.toNat else y
      | none =>
        let kind := y.partnerKind straps.toNat
        let y := ((y.wr (ent (0x4C08 + k) 2) kind).wr (ent (0x4C08 + k) 3) die.toNat).wr (ent (0x4C08 + k) 4) straps.toNat
        let y := if kind = 2 then y.wr (ent 0x4C01 7) die.toNat else y
        if st = 2 then y
        else
          let l := y.link k
          let y := y.setLink k { l with downAt := none, cond := false, misses := 0, heard := [] }
          let y := (y.wr (ent (0x4C08 + k) 1) 2).raise 0x1401 k (ev [(0, 1, k), (1, 1, kind), (8, 8, die.toNat)])
          let y := y.formed k
          if kind = 2 then y.control k .resync (le 1 0 ++ le 1 y.twinRole ++ le 12 y.twin.since) else y

/-- ARRAY_FORMATION_TIMEOUT: DEGRADED, from the members present; the lowest of them performs the head's duties. -/
def execArrayFormationTimeout (s : State) : Host.Outcome State Fault Refusal :=
  onSys s fun o y =>
    if y.rd (ent 0x4C01 1) ≠ 1 then y
    else
      let y := y.arrayTo 3
      let y := y.actingHead o (((List.range 4).find? y.present).getD y.arrayPos)
      if y.arrayHead then (List.range 4).foldl (fun y m => if y.garosUp m && y.linkKind m != 2 then y.tellMember m else y) y else y

/-- TWIN_FORMATION_WINDOW (R694): who hears a partner that is forming too, and has twin index 1, waits for its PRIMARY. -/
def execTwinFormationWindow (s : State) : Host.Outcome State Fault Refusal :=
  onSys s fun o y =>
    if !y.twinOn ∨ y.twinRole ≠ 0 then y
    else
      let heard := match y.twinLink with | some k => (y.link k).heard | none => []
      if rdLe heard 1 1 = 1 then y.resyncStart o 0
      else if !heard.isEmpty ∧ twinIndex (y.rd (ent 0x2010 1)) = 1 then y
      else y.takeRole o 1 1

/-! ## CONTROL (R680) -/

/-- GAROS_CONTROL_FRAME: an acknowledgement, or a frame that is acknowledged and takes effect. LINK_HELLO comes before the link is UP. -/
def execGarosControlFrame (link : Fin 4) (seq : BitVec 16) (ack : Bool) (kind : BitVec 8) (body : Bytes) (checkOk : Bool) (s : State) :
    Host.Outcome State Fault Refusal :=
  run s fun o y =>
    let k := link.val
    let st := y.rd (ent (0x4C08 + k) 1)
    let n := seq.toNat
    if st = 0 ∨ (st ≠ 2 ∧ kind ≠ 0) then ([], y)
    else if ack && checkOk then ([], y.acked k n)
    else match y.controlSeq k n checkOk with
      | .lost => ([], y.inc (ent (0x4C08 + k) 8))
      | .again => ([], y.send (.garos k 0 255 n []))
      | .fresh =>
        if y.relayWaits k kind.toNat body then ([], y)
        else Sys.controlEffect o ((y.expectNext k 0 n).send (.garos k 0 255 n [])) k kind.toNat body

/-- GAROS_CONTROL_RESEND: what waits for its acknowledgement goes out again, in order. -/
def execGarosControlResend (link : Fin 4) (s : State) : Host.Outcome State Fault Refusal :=
  onSys s fun _ y =>
    let k := link.val
    let st := y.rd (ent (0x4C08 + k) 1)
    let l := y.link k
    let due := l.unacked.filter fun f => st == 2 || ((st == 1 || st == 3) && f.kind == 0)
    let y := y.setLink k { l with unacked := l.unacked.map fun f => if due.contains f then { f with resends := f.resends + 1 } else f }
    due.foldl (fun (y : Sys) (f : CtlFrame) => y.send (.garos k 0 f.kind f.seq f.body)) y

/-! ## STORE and WINDOW (R686, R687) -/

/-- A frame of a channel that is not resent on this level: in order, or counted and gone. -/
def Sys.channelFrame (y : Sys) (k chan seq : Nat) (checkOk : Bool) : Bool × Sys :=
  let ok := checkOk && ((y.link k).expect.lookup chan).getD seq == seq
  let y := y.expectNext k chan seq
  (ok, if ok then y else y.inc (ent (0x4C08 + k) 8))

/-- GAROS_STORE_FRAME: groups for the frame stores here; `last` ends the sender's share of the frame. What is lost leaves this copy incomplete. -/
def execGarosStoreFrame (link : Fin 4) (seq : BitVec 16) (ctx : Fin 16) (frame : BitVec 32) (groups : List StoreGroup) (last checkOk : Bool) (s : State) :
    Host.Outcome State Fault Refusal :=
  onSys s fun _ y =>
    let k := link.val
    let x := ctx.val
    let n := frame.toNat
    if !y.garosUp k then y
    else
      let c := y.channelFrame k 2 seq.toNat checkOk
      let y := c.2
      let here := (y.frame? x n).any (fun f => !f.abandoned) || y.stores.any fun st => st.ctx == x && st.bufs.any fun b => b.frame == n && !b.complete
      if !c.1 then y.dropStores x n
      else if !here then y
      else
        let y := groups.foldl (fun (y : Sys) (g : StoreGroup) =>
          y.commitHeld x n g.line.toNat g.col.toNat ⟨g.binding.val, g.lanes, g.px.map BitVec.toNat⟩) y
        if last then y.publishPart x n (y.linkPos k) else y

/-- GAROS_WINDOW_FRAME: a remote read or write of this member's memory. Bit 63 is 0, bit 62 is 1, bits 61 and 60 name this position. -/
def execGarosWindowFrame (link : Fin 4) (seq : BitVec 16) (address : BitVec 64) (access : WindowAccess) (checkOk : Bool) (s : State) :
    Host.Outcome State Fault Refusal :=
  onSys s fun _ y =>
    let k := link.val
    if !y.garosUp k then y
    else
      let c := y.channelFrame k 3 seq.toNat checkOk
      let y := c.2
      let reply (y : Sys) (status : Nat) (b : Bytes) : Sys := y.send (.garos k 3 status seq.toNat b)
      let a := address.toNat % 2 ^ 38
      let mine := address.toNat / 2 ^ 60 == 4 + y.arrayPos
      let size := match access with | .read n => n.toNat | .write b => b.length
      if !c.1 then y
      else if !mine || !dmaOk a size then reply y 1 []
      else match access with
        | .read n => if y.dmaPoisoned a n.toNat then reply y 1 [] else reply y 0 (y.dramRd a n.toNat)
        | .write b => reply (y.dramWr a b) 0 []

/-! ## Time transfer (R681) -/

/-- GAROS_MARKER_SEND: the next marker, stamped. -/
def execGarosMarkerSend (link : Fin 4) (s : State) : Host.Outcome State Fault Refusal :=
  onSys s fun _ y =>
    let k := link.val
    if !y.garosUp k then y
    else
      let n := ((y.link k).sentMarker.1 + 1) % 2 ^ 32
      let y := y.setLink k { y.link k with sentMarker := (n, y.t96) }
      Sys.control (y.send (.garos k 4 0 n [])) k .stamps (le 4 n ++ le 12 y.t96)

/-- GAROS_TIME_MARKER: offset and delay of a pair of markers; the followed link's offset is a measurement of GAROS. -/
def execGarosTimeMarker (link : Fin 4) (sent partnerReceived partnerSent received : BitVec 96) (s : State) : Host.Outcome State Fault Refusal :=
  onSys s fun _ y =>
    let k := link.val
    if !y.garosUp k then y
    else
      let p := markerPair sent.toNat partnerReceived.toNat partnerSent.toNat received.toNat (y.rdI (ent (0x4C08 + k) 5))
      let y := (y.wrI (ent (0x4C08 + k) 6) (satI32 (unitsPs p.1))).wr (ent (0x4C08 + k) 7) (min 0xFFFFFFFF (unitsPs p.2).toNat)
      if y.timeSources.contains 5 ∧ y.garosTimeLink k then y.measure 5 p.1 20 8 else y

/-! ## The Marionette heartbeat (R698, R699) -/

/-- The 96 octets. -/
def Sys.marionette (y : Sys) (k : Nat) : Bytes :=
  let last (x : Nat) : Bytes := le 4 (((y.ctx x).last.map Prod.snd).getD 0)
  le 1 1 ++ le 1 y.twinRole ++ le 1 y.twinState ++ le 1 (y.rd (ent 0x4C01 4)) ++ le 2 (y.link k).hbOut ++ le 1 y.tbState ++ le 1 (y.rd (ent 0x4C01 1)) ++
    le 12 y.t96 ++ slice y.boot.fwHash 0 8 ++ y.configDigest ++ (List.range 8).flatMap last ++ le 4 y.twin.applied ++ List.replicate 24 0

/-- MARIONETTE_SEND: none once the module has given its STANDBY_NOTICE (R707). -/
def execMarionetteSend (link : Fin 4) (s : State) : Host.Outcome State Fault Refusal :=
  onSys s fun _ y =>
    let k := link.val
    if !y.garosUp k ∨ 4 ≤ y.power.step then y
    else
      let b := y.marionette k
      Sys.control (y.setLink k { y.link k with hbOut := ((y.link k).hbOut + 1) % 65536 }) k .heartbeat b

/-- Steps 3 to 5 of resynchronisation, as their conditions come to hold (R705). -/
def Sys.resyncOn (y : Sys) : Sys :=
  if y.twinRole ≠ 2 ∨ y.twinState ≠ 3 then y
  else
    let y := if y.twin.step = 2 ∧ y.tbState = 2 ∧ y.tbSource = 5 then upto 8 (fun n y => y.portState n) (y.resyncStep 3) else y
    let y := if y.twin.step = 3 ∧ (y.twin.adopt.all fun a => !y.view.active a.1) then y.resyncStep 4 else y
    if y.twin.step = 4 then (y.setTwinState 2).resyncStep 5 else y

/-- What the twin's heartbeat changes: a forming module hears PRIMARY, PRIMARY follows SHADOW's state. -/
def Sys.twinHeard (o : Otp) (y : Sys) (b : Bytes) : Sys :=
  let role := rdLe b 1 1
  let state := rdLe b 2 1
  if y.twinRole = 0 then (if role = 1 then y.resyncStart o 0 else y)
  else if y.twinRole = 1 then
    Sys.rearm (if role = 2 ∧ (state = 2 ∨ state = 3) ∧ y.twinState ≠ state then y.setTwinState state else y)
  else if y.twinState = 6 then y
  else y.resyncOn.rearm

/-- What a member's heartbeat changes: a lost member that is LOCKED to the head rejoins (R692). -/
def Sys.memberHeard (o : Otp) (y : Sys) (k : Nat) (b : Bytes) : Sys :=
  let p := y.linkPos k
  if y.rd (ent 0x4C01 1) = 3 ∧ !y.present p ∧ rdLe b 6 1 % 64 = 42 then
    let y := if y.arrayHead then y.tellMember k else y
    y.memberBack o p
  else y

/-- MARIONETTE_RECEIVE. -/
def execMarionetteReceive (link : Fin 4) (heartbeat : Bytes) (s : State) : Host.Outcome State Fault Refusal :=
  onSys s fun o y =>
    let k := link.val
    if !y.garosUp k ∨ heartbeat.length ≠ 96 ∨ rdLe heartbeat 0 1 ≠ 1 then y
    else
      let y := y.setLink k { y.link k with heard := heartbeat, heardAt := y.up, hbIn := (rdLe heartbeat 4 2 + 1) % 65536, misses := 0, cond := false }
      -- the upstream's own TRACEABLE, of its state byte (R199, R213)
      let y := if y.timeSources.contains 5 ∧ y.garosTimeLink k then
          y.originIs 5 ((rdLe heartbeat 6 1).testBit 6) (((y.time.origin.lookup 5).map (·.2)).getD 0xA0) else y
      if y.linkKind k = 2 then y.twinHeard o heartbeat else if y.view.role = 3 then y.memberHeard o k heartbeat else y

/-! ## Detection and loss (R689, R700, R701, R702, R707) -/

/-- STANDBY_NOTICE holds until 2 s after the module's own exit (R707). -/
def Sys.noticed (y : Sys) (k : Nat) : Bool :=
  (y.link k).notice && match y.twin.exitAt with | some t => decide (y.up < t + 2000000000) | none => true

/-- A HEARTBEAT input is set. -/
def Sys.beatInput (y : Sys) : Bool := y.rd (ent 0x4C00 5) != 0xFF

/-- The link condition of R689 holds on link k; while the partner's HEARTBEAT edges still arrive, the pair is SPLIT (R701). -/
def Sys.linkCondition (y : Sys) (k : Nat) : Sys :=
  let y := y.setLink k { y.link k with cond := true }
  if y.linkKind k = 2 ∧ (y.twinRole = 1 ∨ y.twinRole = 2) ∧ y.twinState ≤ 3 ∧ y.twinState ≠ 1 ∧ y.beatInput ∧ !y.twin.silent then
    Sys.rearm ((y.setTwinState 4).raise 0x140C k (ev [(0, 1, k)]))
  else y

/-- MARIONETTE_MISS: the fourth in a row takes the link down. -/
def execMarionetteMiss (link : Fin 4) (s : State) : Host.Outcome State Fault Refusal :=
  onSys s fun _ y =>
    let k := link.val
    let l := y.link k
    if !y.garosUp k then y
    else
      let y := (y.inc (ent (0x4C08 + k) 9)).setLink k { l with misses := l.misses + 1, hbIn := (l.hbIn + 1) % 65536 }
      if l.misses + 1 < 4 ∨ y.noticed k then y else (y.garosDown k 1).linkCondition k

/-- PARTNER_LINK_DOWN_TIMEOUT. -/
def execPartnerLinkDownTimeout (link : Fin 4) (s : State) : Host.Outcome State Fault Refusal :=
  onSys s fun _ y => if y.rd (ent (0x4C08 + link.val) 1) ≠ 3 ∨ y.noticed link.val then y else y.linkCondition link.val

/-- PARTNER_HEARTBEAT_SILENT. -/
def execPartnerHeartbeatSilent (s : State) : Host.Outcome State Fault Refusal :=
  onSys s fun _ y => if y.beatInput then y.onTwin fun t => { t with silent := true } else y

/-- The partner of link k counts as lost: by the link condition, for a twin also by its HEARTBEAT; a noticed partner by HEARTBEAT alone, and by a
link that is not UP when the notice ends. -/
def Sys.lostNow (y : Sys) (k : Nat) : Bool :=
  let l := y.link k
  let twin := y.linkKind k == 2
  if y.noticed k then twin && y.beatInput && y.twin.silent
  else if l.notice then !y.garosUp k
  else l.cond && (!twin || !y.beatInput || y.twin.silent)

/-- The twin is lost (R700, R702). -/
def Sys.twinLost (y : Sys) : Sys :=
  if y.twinRole = 2 then
    if y.twinState = 5 ∨ y.twinState = 6 then y
    else if y.armed then y.becomePrimary.lostEvent 1 false
    else Sys.showTime (((y.setTwinState 5).sourceFault 5 0).lostEvent 2 true)
  else if y.twinRole = 1 then
    if y.twinState = 1 then y
    else (((y.setTwinState 1).wr (ent 0x4C01 4) 0).flushWaits.onTwin fun t => { t with exhausted := false }).lostEvent 1 false
  else y

/-- PARTNER_LOST. -/
def execPartnerLost (link : Fin 4) (s : State) : Host.Outcome State Fault Refusal :=
  onSys s fun o y =>
    let k := link.val
    if y.linkKind k = 0 ∨ !y.lostNow k then y
    else
      let y := if y.linkKind k = 2 then y.twinLost else (y.memberLost o k).askAnswer k true
      y.setLink k { y.link k with notice := false, cond := false }

/-- STANDBY_NOTICE (R707). -/
def execStandbyNotice (link : Fin 4) (s : State) : Host.Outcome State Fault Refusal :=
  onSys s fun _ y =>
    if !y.garosUp link.val then y
    else Sys.onTwin (y.setLink link.val { y.link link.val with notice := true }) fun t => { t with exitAt := none }

/-! ## Mirrored units on SHADOW (R696, R697) -/

/-- Settings that join a generation after its latch point: the frame has them, and its sensor list is built again. -/
def Sys.joinGeneration (y : Sys) (x n : Nat) : Sys :=
  match y.frame? x n with
  | none => y
  | some f =>
    let y := y.onFrame x n fun h => { h with gen := y.snapshot x f.gen.bits }
    let params := y.view.exposureParams x
    let c := y.ctx x
    let before := ((c.expo.filter fun e => e.num != n).getLast?.map (·.params)).getD (List.replicate 8 0)
    let changed := (List.range 8).map fun i => params.getD i 0 != before.getD i 0
    if isSensor x && c.expo.any (fun e => e.num == n && e.params != params) then
      let y := y.setCtx x { c with expo := c.expo.map fun e => if e.num == n then { e with params := params, changed := changed.any id } else e }
      let y := upto 8 (fun p y => y.setPort p { y.port p with lists := (y.port p).lists.filter fun l => !(l.ctx == x && l.frame == n && !l.started) }) y
      y.queueLists x n (y.rd (ent (0x3000 + x) 0x12) == 1) changed params
    else y

/-- A unit for a latch point: it joins a generation that is still open, waits for one to come, or is late and takes the next. -/
def Sys.mirrorLatched (o : Otp) (y : Sys) (u : CommitUnit) (x live : Nat) : Sys :=
  let next := match (y.ctx x).last with | some l => (l.2 + 1) % 2 ^ 32 | none => live
  let ready (y : Sys) : Sys := match y.prepareAll u.members with | .inr z => z | .inl _ => y
  if y.twin.open_.contains (x, live) then
    let was := ready y
    Sys.joinGeneration (u.members.foldl (fun (z : Sys) (m : Nat × Bytes) => z.putLive o m.1 m.2) was) x live
  else if live = next then (ready y).stage { u with scope := .context x, target := none }
  else if next < live then (ready y).stage { u with scope := .context x, target := some live }
  else
    Sys.raiseLimited ((ready y).stage { u with scope := .context x, target := none }) x 0x140F x (ev [(0, 1, x), (4, 4, live)])

/-- MIRRORED_UNIT: PRIMARY's role and stamp, path rank 2. Settings of a context join the generation of the latch point they name (R697), those of a
channel wait for its boundary, and the rest waits for SHADOW's own commit slot (R151, R696). -/
def execMirroredUnit (number live : BitVec 32) (unit : Bytes) (s : State) : Host.Outcome State Fault Refusal :=
  onSys s fun o y =>
    if y.twinRole ≠ 2 ∨ (y.twinState ≠ 2 ∧ y.twinState ≠ 3) then y
    else
      let u := unitIn unit 2
      let u := { u with members := u.members.filter fun m => mirrored m.1 }
      match y.unitHome u with
      | .context x => (y.mirrorLatched o u x live.toNat).mirrorAnswer number.toNat .ok
      | .output c => (y.stage { u with scope := .output c }).mirrorAnswer number.toNat .ok
      | .lockGroup l => (y.stage { u with scope := .lockGroup l }).mirrorAnswer number.toNat .ok
      | _ => y.onDen fun d => { d with units := d.units ++ [{ u with mirror := some number.toNat }] }

/-- GENERATION_CLOSE (R697). -/
def execGenerationClose (ctx : Fin 16) (frame : BitVec 32) (s : State) : Host.Outcome State Fault Refusal :=
  onSys s fun _ y => y.onTwin fun t => { t with open_ := t.open_.filter fun p => p != (ctx.val, frame.toNat) }

/-! ## Felley CONTROL (R715) -/

/-- FELLEY_CONTROL_FRAME. A frame that is out of sequence counts as R680 has it, on the link (0x4D01:07). -/
def execFelleyControlFrame (seq : BitVec 16) (ack : Bool) (kind : BitVec 8) (body : Bytes) (checkOk : Bool) (s : State) :
    Host.Outcome State Fault Refusal :=
  onSys s fun o y =>
    let st := y.rd (ent 0x4D01 1)
    let n := seq.toNat
    if st = 0 ∨ (st ≠ 2 ∧ kind ≠ 0) then y
    else if ack && checkOk then y.acked 4 n
    else match y.controlSeq 4 n checkOk with
      | .lost => y.inc (ent 0x4D01 7)
      | .again => y.send (.felley 255 n 255 [])
      | .fresh =>
        if y.relayWaits 4 kind.toNat body then y
        else Sys.felleyEffect o ((y.expectNext 4 255 n).send (.felley 255 n 255 [])) kind.toNat body

end Sys2Proof.Machine
end

