-- ==== Sys2Proof/Machine/Dispatch.lean ====
section
/-!
DEFINITION. Sys2Proof/Machine/Dispatch.lean: one arm per command, each a direct call of its meaning.
-/

namespace Sys2Proof.Machine

/-- The effect of one command on everything but the queue. -/
def exec (i : Instr) (s : State) : Host.Outcome State Fault Refusal :=
  match i with
  | .vinValid vin boot => Sys2Proof.Machine.execVinValid vin boot s
  | .hostFirmwareImage image fails => Sys2Proof.Machine.execHostFirmwareImage image fails s
  | .hostFirmwareTimeout => Sys2Proof.Machine.execHostFirmwareTimeout s
  | .dramTrainingComplete identities firmware band verifyOk failed ms => Sys2Proof.Machine.execDramTrainingComplete identities firmware band verifyOk failed ms s
  | .lowInputEnter vin => Sys2Proof.Machine.execLowInputEnter vin s
  | .lowInputLeave vin => Sys2Proof.Machine.execLowInputLeave vin s
  | .supplyCapTick vin current => Sys2Proof.Machine.execSupplyCapTick vin current s
  | .supplyWarning vin => Sys2Proof.Machine.execSupplyWarning vin s
  | .supplyWarningClear vin minVin => Sys2Proof.Machine.execSupplyWarningClear vin minVin s
  | .currentLimitEngage vin => Sys2Proof.Machine.execCurrentLimitEngage vin s
  | .currentLimitRelease vin coreT coreS => Sys2Proof.Machine.execCurrentLimitRelease vin coreT coreS s
  | .overvoltageEpisodeEnd highest above => Sys2Proof.Machine.execOvervoltageEpisodeEnd highest above s
  | .inputSwitchOpen vin highest above => Sys2Proof.Machine.execInputSwitchOpen vin highest above s
  | .inputSwitchClose => Sys2Proof.Machine.execInputSwitchClose s
  | .supplyReset vin => Sys2Proof.Machine.execSupplyReset vin s
  | .holdUpEnd => Sys2Proof.Machine.execHoldUpEnd s
  | .resetNFall => Sys2Proof.Machine.execResetNFall s
  | .resetNHeld => Sys2Proof.Machine.execResetNHeld s
  | .resetCommandWarm => Sys2Proof.Machine.execResetCommandWarm s
  | .resetCommandCold boot => Sys2Proof.Machine.execResetCommandCold boot s
  | .resetCommandDomain => Sys2Proof.Machine.execResetCommandDomain s
  | .coreCheckTick responded => Sys2Proof.Machine.execCoreCheckTick responded s
  | .watchdogTimeout core => Sys2Proof.Machine.execWatchdogTimeout core s
  | .governorWindow => Sys2Proof.Machine.execGovernorWindow s
  | .railCeilingWrite by_ system value => Sys2Proof.Machine.execRailCeilingWrite by_ system value s
  | .powerManagerTick power => Sys2Proof.Machine.execPowerManagerTick power s
  | .idleTokenEnd troupe => Sys2Proof.Machine.execIdleTokenEnd troupe s
  | .frameDeadline ctx => Sys2Proof.Machine.execFrameDeadline ctx s
  | .denvalRead frame => Sys2Proof.Machine.execDenvalRead frame s
  | .denvalReadShadow frame => Sys2Proof.Machine.execDenvalReadShadow frame s
  | .denvalWrite frame => Sys2Proof.Machine.execDenvalWrite frame s
  | .groupBegin frame => Sys2Proof.Machine.execGroupBegin frame s
  | .groupMember frame => Sys2Proof.Machine.execGroupMember frame s
  | .groupCommit frame => Sys2Proof.Machine.execGroupCommit frame s
  | .groupTimeout session => Sys2Proof.Machine.execGroupTimeout session s
  | .segReadInit frame => Sys2Proof.Machine.execSegReadInit frame s
  | .segWriteInit frame => Sys2Proof.Machine.execSegWriteInit frame s
  | .segDown frame => Sys2Proof.Machine.execSegDown frame s
  | .segAck frame => Sys2Proof.Machine.execSegAck frame s
  | .denvalAbort frame => Sys2Proof.Machine.execDenvalAbort frame s
  | .transferTimeout path source session tag => Sys2Proof.Machine.execTransferTimeout path source session tag s
  | .commitInstant => Sys2Proof.Machine.execCommitInstant s
  | .entryWrite by_ entry value => Sys2Proof.Machine.execEntryWrite by_ entry value s
  | .sessionHello frame => Sys2Proof.Machine.execSessionHello frame s
  | .lockoutEnd path source => Sys2Proof.Machine.execLockoutEnd path source s
  | .sessionProofA frame => Sys2Proof.Machine.execSessionProofA frame s
  | .sessionProofB frame => Sys2Proof.Machine.execSessionProofB frame s
  | .sessionSetupTimeout session => Sys2Proof.Machine.execSessionSetupTimeout session s
  | .sessionClose frame => Sys2Proof.Machine.execSessionClose frame s
  | .sessionIdleTimeout session => Sys2Proof.Machine.execSessionIdleTimeout session s
  | .heartbeatSend => Sys2Proof.Machine.execHeartbeatSend s
  | .timeSyncSend => Sys2Proof.Machine.execTimeSyncSend s
  | .timeFollowSend port => Sys2Proof.Machine.execTimeFollowSend port s
  | .canBusOff port => Sys2Proof.Machine.execCanBusOff port s
  | .canBusRecovered port => Sys2Proof.Machine.execCanBusRecovered port s
  | .consoleIdentify line => Sys2Proof.Machine.execConsoleIdentify line s
  | .consoleRead line => Sys2Proof.Machine.execConsoleRead line s
  | .consoleWrite line => Sys2Proof.Machine.execConsoleWrite line s
  | .parameterStoreSave by_ => Sys2Proof.Machine.execParameterStoreSave by_ s
  | .parameterStoreClear by_ => Sys2Proof.Machine.execParameterStoreClear by_ s
  | .parameterStoreDone => Sys2Proof.Machine.execParameterStoreDone s
  | .lifeCycleTransition by_ target => Sys2Proof.Machine.execLifeCycleTransition by_ target s
  | .rekey by_ => Sys2Proof.Machine.execRekey by_ s
  | .certificateInstall by_ certificate => Sys2Proof.Machine.execCertificateInstall by_ certificate s
  | .customerRootWrite by_ root => Sys2Proof.Machine.execCustomerRootWrite by_ root s
  | .credentialInstall by_ slot credential => Sys2Proof.Machine.execCredentialInstall by_ slot credential s
  | .credentialRemove by_ slot => Sys2Proof.Machine.execCredentialRemove by_ slot s
  | .credentialRevoke by_ id => Sys2Proof.Machine.execCredentialRevoke by_ id s
  | .epochRaise by_ epoch => Sys2Proof.Machine.execEpochRaise by_ epoch s
  | .lookImageWrite by_ slot image => Sys2Proof.Machine.execLookImageWrite by_ slot image s
  | .manifestIssue ctx delay => Sys2Proof.Machine.execManifestIssue ctx delay s
  | .recipientKeyWrite by_ recipient key => Sys2Proof.Machine.execRecipientKeyWrite by_ recipient key s
  | .encryptionEnable by_ on => Sys2Proof.Machine.execEncryptionEnable by_ on s
  | .attestationNonce by_ nonce => Sys2Proof.Machine.execAttestationNonce by_ nonce s
  | .attestationReportReady => Sys2Proof.Machine.execAttestationReportReady s
  | .timeBaseSave temp => Sys2Proof.Machine.execTimeBaseSave temp s
  | .sourceQualified source offset traceable timeSource => Sys2Proof.Machine.execSourceQualified source offset traceable timeSource s
  | .frequencyAcquired incr offset => Sys2Proof.Machine.execFrequencyAcquired incr offset s
  | .timeLocked offset => Sys2Proof.Machine.execTimeLocked offset s
  | .lockLost offset => Sys2Proof.Machine.execLockLost offset s
  | .referenceFault source fault temp => Sys2Proof.Machine.execReferenceFault source fault temp s
  | .holdoverLimitExceeded temp => Sys2Proof.Machine.execHoldoverLimitExceeded temp s
  | .timeSet value => Sys2Proof.Machine.execTimeSet value s
  | .ppsInEdge time width => Sys2Proof.Machine.execPpsInEdge time width s
  | .ptpAnnounceReceive port announce => Sys2Proof.Machine.execPtpAnnounceReceive port announce s
  | .ptpSyncReceive port domain seq received origin => Sys2Proof.Machine.execPtpSyncReceive port domain seq received origin s
  | .ptpFollowUpReceive port domain seq origin => Sys2Proof.Machine.execPtpFollowUpReceive port domain seq origin s
  | .ptpDelayReqReceive port domain seq requester received => Sys2Proof.Machine.execPtpDelayReqReceive port domain seq requester received s
  | .ptpDelayRespReceive port domain seq received => Sys2Proof.Machine.execPtpDelayRespReceive port domain seq received s
  | .ptpAnnounceSend port => Sys2Proof.Machine.execPtpAnnounceSend port s
  | .ptpSyncSend port => Sys2Proof.Machine.execPtpSyncSend port s
  | .ptpDelayReqSend port => Sys2Proof.Machine.execPtpDelayReqSend port s
  | .ptpMetadataSend port => Sys2Proof.Machine.execPtpMetadataSend port s
  | .ptpAnnounceTimeout port => Sys2Proof.Machine.execPtpAnnounceTimeout port s
  | .tioEdgeOut ball => Sys2Proof.Machine.execTioEdgeOut ball s
  | .tioCapture ball time falling width => Sys2Proof.Machine.execTioCapture ball time falling width s
  | .captureFifoRead ball => Sys2Proof.Machine.execCaptureFifoRead ball s
  | .launchSubmit entry session rank => Sys2Proof.Machine.execLaunchSubmit entry session rank s
  | .launchCancel id session => Sys2Proof.Machine.execLaunchCancel id session s
  | .launchCancelAny id => Sys2Proof.Machine.execLaunchCancelAny id s
  | .launchCancelAll => Sys2Proof.Machine.execLaunchCancelAll s
  | .launchDue => Sys2Proof.Machine.execLaunchDue s
  | .laneRequestedState by_ lane state => Sys2Proof.Machine.execLaneRequestedState by_ lane state s
  | .lanePllLocked lane => Sys2Proof.Machine.execLanePllLocked lane s
  | .losAssert lane => Sys2Proof.Machine.execLosAssert lane s
  | .losClear lane => Sys2Proof.Machine.execLosClear lane s
  | .cdrLock lane offset => Sys2Proof.Machine.execCdrLock lane offset s
  | .cdrLockLost lane invalid => Sys2Proof.Machine.execCdrLockLost lane invalid s
  | .adaptationDone lane peaking taps => Sys2Proof.Machine.execAdaptationDone lane peaking taps s
  | .blockLock lane headers => Sys2Proof.Machine.execBlockLock lane headers s
  | .blockLockLost lane invalid headers => Sys2Proof.Machine.execBlockLockLost lane invalid headers s
  | .hiBerSet lane report => Sys2Proof.Machine.execHiBerSet lane report s
  | .hiBerClear lane report => Sys2Proof.Machine.execHiBerClear lane report s
  | .trainingBlockReceive lane heard => Sys2Proof.Machine.execTrainingBlockReceive lane heard s
  | .trainingTimeout lane => Sys2Proof.Machine.execTrainingTimeout lane s
  | .laneBringupRetry lane => Sys2Proof.Machine.execLaneBringupRetry lane s
  | .referenceMissing reference invalid => Sys2Proof.Machine.execReferenceMissing reference invalid s
  | .eyeScanRequest by_ lane request => Sys2Proof.Machine.execEyeScanRequest by_ lane request s
  | .eyeScanDone lane compared mismatches => Sys2Proof.Machine.execEyeScanDone lane compared mismatches s
  | .retrain by_ target => Sys2Proof.Machine.execRetrain by_ target s
  | .quadFunctionWrite by_ quad function => Sys2Proof.Machine.execQuadFunctionWrite by_ quad function s
  | .ingestLaneRateWrite by_ group rate => Sys2Proof.Machine.execIngestLaneRateWrite by_ group rate s
  | .alignmentMarker group lane count skew => Sys2Proof.Machine.execAlignmentMarker group lane count skew s
  | .malformedBlock group => Sys2Proof.Machine.execMalformedBlock group s
  | .frameStartAccept group start => Sys2Proof.Machine.execFrameStartAccept group start s
  | .nonLeadFrameStart group start => Sys2Proof.Machine.execNonLeadFrameStart group start s
  | .groupSkew group => Sys2Proof.Machine.execGroupSkew group s
  | .linePacket group header payload trailers => Sys2Proof.Machine.execLinePacket group header payload trailers s
  | .embeddedLine group header payload trailers => Sys2Proof.Machine.execEmbeddedLine group header payload trailers s
  | .frameEndAccept group header lines => Sys2Proof.Machine.execFrameEndAccept group header lines s
  | .frameTimeout ctx => Sys2Proof.Machine.execFrameTimeout ctx s
  | .ingestLockLoss group => Sys2Proof.Machine.execIngestLockLoss group s
  | .quietBlock group => Sys2Proof.Machine.execQuietBlock group s
  | .blankingWake ctx => Sys2Proof.Machine.execBlankingWake ctx s
  | .contextModeWrite by_ ctx mode => Sys2Proof.Machine.execContextModeWrite by_ ctx mode s
  | .exposureListStart port => Sys2Proof.Machine.execExposureListStart port s
  | .exposureListDone port => Sys2Proof.Machine.execExposureListDone port s
  | .exposureListOverrun port overrunUs => Sys2Proof.Machine.execExposureListOverrun port overrunUs s
  | .sensorWriteError port timeout reg => Sys2Proof.Machine.execSensorWriteError port timeout reg s
  | .sensorTransaction port request => Sys2Proof.Machine.execSensorTransaction port request s
  | .sensorTransactionDone port status data => Sys2Proof.Machine.execSensorTransactionDone port status data s
  | .stripeOpen => Sys2Proof.Machine.execStripeOpen s
  | .rfeSegmentWritten rfe waitUs => Sys2Proof.Machine.execRfeSegmentWritten rfe waitUs s
  | .rfePassComplete rfe => Sys2Proof.Machine.execRfePassComplete rfe s
  | .statisticsRecordIssue ctx delay => Sys2Proof.Machine.execStatisticsRecordIssue ctx delay s
  | .statsRecordMerge ctx members delay => Sys2Proof.Machine.execStatsRecordMerge ctx members delay s
  | .rfeParityError rfe cache => Sys2Proof.Machine.execRfeParityError rfe cache s
  | .rfeRetestDone rfe passed => Sys2Proof.Machine.execRfeRetestDone rfe passed s
  | .statsOnlyStripe => Sys2Proof.Machine.execStatsOnlyStripe s
  | .stripeComplete troupe => Sys2Proof.Machine.execStripeComplete troupe s
  | .arrayHaloReceive ctx frame neighbour part delayUs => Sys2Proof.Machine.execArrayHaloReceive ctx frame neighbour part delayUs s
  | .arrayLookDecision ctx frame origin abandon => Sys2Proof.Machine.execArrayLookDecision ctx frame origin abandon s
  | .engineGroupDispatch e => Sys2Proof.Machine.execEngineGroupDispatch e s
  | .fadd e d a b pr pn => Sys2Proof.Machine.execFadd e d a b pr pn s
  | .fsub e d a b pr pn => Sys2Proof.Machine.execFsub e d a b pr pn s
  | .fmul e d a b pr pn => Sys2Proof.Machine.execFmul e d a b pr pn s
  | .fmin e d a b pr pn => Sys2Proof.Machine.execFmin e d a b pr pn s
  | .fmax e d a b pr pn => Sys2Proof.Machine.execFmax e d a b pr pn s
  | .fabs e d a pr pn => Sys2Proof.Machine.execFabs e d a pr pn s
  | .fneg e d a pr pn => Sys2Proof.Machine.execFneg e d a pr pn s
  | .fsat e d a pr pn => Sys2Proof.Machine.execFsat e d a pr pn s
  | .ffloor e d a pr pn => Sys2Proof.Machine.execFfloor e d a pr pn s
  | .ffrac e d a pr pn => Sys2Proof.Machine.execFfrac e d a pr pn s
  | .frnd e d a pr pn => Sys2Proof.Machine.execFrnd e d a pr pn s
  | .fma e d a b pr pn => Sys2Proof.Machine.execFma e d a b pr pn s
  | .fms e d a b pr pn => Sys2Proof.Machine.execFms e d a b pr pn s
  | .fnma e d a b pr pn => Sys2Proof.Machine.execFnma e d a b pr pn s
  | .faddS e d a b pr pn => Sys2Proof.Machine.execFaddS e d a b pr pn s
  | .fsubS e d a b pr pn => Sys2Proof.Machine.execFsubS e d a b pr pn s
  | .fmulS e d a b pr pn => Sys2Proof.Machine.execFmulS e d a b pr pn s
  | .fminS e d a b pr pn => Sys2Proof.Machine.execFminS e d a b pr pn s
  | .fmaxS e d a b pr pn => Sys2Proof.Machine.execFmaxS e d a b pr pn s
  | .fmaS e d a b pr pn => Sys2Proof.Machine.execFmaS e d a b pr pn s
  | .fmsS e d a b pr pn => Sys2Proof.Machine.execFmsS e d a b pr pn s
  | .fnmaS e d a b pr pn => Sys2Proof.Machine.execFnmaS e d a b pr pn s
  | .rcp e d a pr pn => Sys2Proof.Machine.execRcp e d a pr pn s
  | .rsq e d a pr pn => Sys2Proof.Machine.execRsq e d a pr pn s
  | .sqrt e d a pr pn => Sys2Proof.Machine.execSqrt e d a pr pn s
  | .log2 e d a pr pn => Sys2Proof.Machine.execLog2 e d a pr pn s
  | .exp2 e d a pr pn => Sys2Proof.Machine.execExp2 e d a pr pn s
  | .iadd e d a b pr pn => Sys2Proof.Machine.execIadd e d a b pr pn s
  | .isub e d a b pr pn => Sys2Proof.Machine.execIsub e d a b pr pn s
  | .imul e d a b pr pn => Sys2Proof.Machine.execImul e d a b pr pn s
  | .imin e d a b pr pn => Sys2Proof.Machine.execImin e d a b pr pn s
  | .imax e d a b pr pn => Sys2Proof.Machine.execImax e d a b pr pn s
  | .and e d a b pr pn => Sys2Proof.Machine.execAnd e d a b pr pn s
  | .or e d a b pr pn => Sys2Proof.Machine.execOr e d a b pr pn s
  | .xor e d a b pr pn => Sys2Proof.Machine.execXor e d a b pr pn s
  | .shl e d a b pr pn => Sys2Proof.Machine.execShl e d a b pr pn s
  | .shr e d a b pr pn => Sys2Proof.Machine.execShr e d a b pr pn s
  | .sar e d a b pr pn => Sys2Proof.Machine.execSar e d a b pr pn s
  | .sadd e d a b => Sys2Proof.Machine.execSadd e d a b s
  | .ssub e d a b => Sys2Proof.Machine.execSsub e d a b s
  | .smul e d a b => Sys2Proof.Machine.execSmul e d a b s
  | .smin e d a b => Sys2Proof.Machine.execSmin e d a b s
  | .smax e d a b => Sys2Proof.Machine.execSmax e d a b s
  | .sand e d a b => Sys2Proof.Machine.execSand e d a b s
  | .sor e d a b => Sys2Proof.Machine.execSor e d a b s
  | .sxor e d a b => Sys2Proof.Machine.execSxor e d a b s
  | .sshl e d a b => Sys2Proof.Machine.execSshl e d a b s
  | .sshr e d a b => Sys2Proof.Machine.execSshr e d a b s
  | .ssar e d a b => Sys2Proof.Machine.execSsar e d a b s
  | .movl e d imm => Sys2Proof.Machine.execMovl e d imm s
  | .movh e d imm => Sys2Proof.Machine.execMovh e d imm s
  | .movf e d imm => Sys2Proof.Machine.execMovf e d imm s
  | .smovl e d imm => Sys2Proof.Machine.execSmovl e d imm s
  | .smovh e d imm => Sys2Proof.Machine.execSmovh e d imm s
  | .saddi e d imm => Sys2Proof.Machine.execSaddi e d imm s
  | .mov e d a pr pn => Sys2Proof.Machine.execMov e d a pr pn s
  | .bcast e d a pr pn => Sys2Proof.Machine.execBcast e d a pr pn s
  | .extr e d a b => Sys2Proof.Machine.execExtr e d a b s
  | .sel e d a b pr pn => Sys2Proof.Machine.execSel e d a b pr pn s
  | .laneid e d pr pn => Sys2Proof.Machine.execLaneid e d pr pn s
  | .smov e d a => Sys2Proof.Machine.execSmov e d a s
  | .fcmpEq e d a b pr pn => Sys2Proof.Machine.execFcmpEq e d a b pr pn s
  | .fcmpLt e d a b pr pn => Sys2Proof.Machine.execFcmpLt e d a b pr pn s
  | .fcmpLe e d a b pr pn => Sys2Proof.Machine.execFcmpLe e d a b pr pn s
  | .fcmpNe e d a b pr pn => Sys2Proof.Machine.execFcmpNe e d a b pr pn s
  | .fcmpUn e d a b pr pn => Sys2Proof.Machine.execFcmpUn e d a b pr pn s
  | .icmpEq e d a b pr pn => Sys2Proof.Machine.execIcmpEq e d a b pr pn s
  | .icmpLt e d a b pr pn => Sys2Proof.Machine.execIcmpLt e d a b pr pn s
  | .icmpLtu e d a b pr pn => Sys2Proof.Machine.execIcmpLtu e d a b pr pn s
  | .pand e d a b => Sys2Proof.Machine.execPand e d a b s
  | .por e d a b => Sys2Proof.Machine.execPor e d a b s
  | .pxor e d a b => Sys2Proof.Machine.execPxor e d a b s
  | .pnot e d a => Sys2Proof.Machine.execPnot e d a s
  | .pfroms e d a => Sys2Proof.Machine.execPfroms e d a s
  | .ptos e d a => Sys2Proof.Machine.execPtos e d a s
  | .cvtFI e d a pr pn => Sys2Proof.Machine.execCvtFI e d a pr pn s
  | .cvtIF e d a pr pn => Sys2Proof.Machine.execCvtIF e d a pr pn s
  | .cvtFU e d a pr pn => Sys2Proof.Machine.execCvtFU e d a pr pn s
  | .cvtUF e d a pr pn => Sys2Proof.Machine.execCvtUF e d a pr pn s
  | .cvtHF e d a pr pn => Sys2Proof.Machine.execCvtHF e d a pr pn s
  | .cvtFH e d a pr pn => Sys2Proof.Machine.execCvtFH e d a pr pn s
  | .ldV e d b off pr pn => Sys2Proof.Machine.execLdV e d b off pr pn s
  | .stV e d b off pr pn => Sys2Proof.Machine.execStV e d b off pr pn s
  | .ldS e d b off => Sys2Proof.Machine.execLdS e d b off s
  | .stS e d b off => Sys2Proof.Machine.execStS e d b off s
  | .ldB e d b off pr pn => Sys2Proof.Machine.execLdB e d b off pr pn s
  | .ldG e d a b pr pn => Sys2Proof.Machine.execLdG e d a b pr pn s
  | .stG e d a b pr pn => Sys2Proof.Machine.execStG e d a b pr pn s
  | .pixIn e d dx dy pr pn => Sys2Proof.Machine.execPixIn e d dx dy pr pn s
  | .pixFrac e d pr pn => Sys2Proof.Machine.execPixFrac e d pr pn s
  | .pixOut e a binding pr pn => Sys2Proof.Machine.execPixOut e a binding pr pn s
  | .lut1 e d a table pr pn => Sys2Proof.Machine.execLut1 e d a table pr pn s
  | .lut3 e d a table pr pn => Sys2Proof.Machine.execLut3 e d a table pr pn s
  | .lut3Out e binding a table pr pn => Sys2Proof.Machine.execLut3Out e binding a table pr pn s
  | .lutRequestAccept troupe => Sys2Proof.Machine.execLutRequestAccept troupe s
  | .lutResult e => Sys2Proof.Machine.execLutResult e s
  | .br e off => Sys2Proof.Machine.execBr e off s
  | .brp e pr mode off => Sys2Proof.Machine.execBrp e pr mode off s
  | .loop e c len => Sys2Proof.Machine.execLoop e c len s
  | .call e off => Sys2Proof.Machine.execCall e off s
  | .ret e => Sys2Proof.Machine.execRet e s
  | .sync e => Sys2Proof.Machine.execSync e s
  | .wait e mask => Sys2Proof.Machine.execWait e mask s
  | .halt e => Sys2Proof.Machine.execHalt e s
  | .nop e => Sys2Proof.Machine.execNop e s
  | .engineGroupTimeout e => Sys2Proof.Machine.execEngineGroupTimeout e s
  | .engineParityError e cause => Sys2Proof.Machine.execEngineParityError e cause s
  | .engineRetestDone e passed => Sys2Proof.Machine.execEngineRetestDone e passed s
  | .troupeParityError troupe cause => Sys2Proof.Machine.execTroupeParityError troupe cause s
  | .troupeRetestDone troupe passed => Sys2Proof.Machine.execTroupeRetestDone troupe passed s
  | .imageLoadDone slot => Sys2Proof.Machine.execImageLoadDone slot s
  | .tableLoadDone entry => Sys2Proof.Machine.execTableLoadDone entry s
  | .keepResidentWrite by_ slot value => Sys2Proof.Machine.execKeepResidentWrite by_ slot value s
  | .lookSlotSelect by_ ctx slot => Sys2Proof.Machine.execLookSlotSelect by_ ctx slot s
  | .calibrationCommit by_ slot => Sys2Proof.Machine.execCalibrationCommit by_ slot s
  | .revertStaging by_ slot value => Sys2Proof.Machine.execRevertStaging by_ slot value s
  | .tableHeaderWrite by_ entry header => Sys2Proof.Machine.execTableHeaderWrite by_ entry header s
  | .tableDataWrite by_ entry value => Sys2Proof.Machine.execTableDataWrite by_ entry value s
  | .tableSeal by_ entry value => Sys2Proof.Machine.execTableSeal by_ entry value s
  | .tableGenerate by_ entry value => Sys2Proof.Machine.execTableGenerate by_ entry value s
  | .colourRecordIssue ctx => Sys2Proof.Machine.execColourRecordIssue ctx s
  | .outputOrigin channel index => Sys2Proof.Machine.execOutputOrigin channel index s
  | .lineFetch channel => Sys2Proof.Machine.execLineFetch channel s
  | .lineCommitInstant channel line => Sys2Proof.Machine.execLineCommitInstant channel line s
  | .outputFrameBoundary channel => Sys2Proof.Machine.execOutputFrameBoundary channel s
  | .lockGroupSignal group position line reason => Sys2Proof.Machine.execLockGroupSignal group position line reason s
  | .twinSignature channel index frame signature => Sys2Proof.Machine.execTwinSignature channel index frame signature s
  | .sdiInputFrame input stamp rows crcLines timeCode => Sys2Proof.Machine.execSdiInputFrame input stamp rows crcLines timeCode s
  | .sdiInputState input state format => Sys2Proof.Machine.execSdiInputState input state format s
  | .sdiInputHoldEnd input => Sys2Proof.Machine.execSdiInputHoldEnd input s
  | .edpEnable port => Sys2Proof.Machine.execEdpEnable port s
  | .edpDisable port => Sys2Proof.Machine.execEdpDisable port s
  | .edpHpdHigh port psr fast => Sys2Proof.Machine.execEdpHpdHigh port psr fast s
  | .edpHpdTimeout port => Sys2Proof.Machine.execEdpHpdTimeout port s
  | .edpTrainingDone port passed => Sys2Proof.Machine.execEdpTrainingDone port passed s
  | .edpHpdIrq port lockLost => Sys2Proof.Machine.execEdpHpdIrq port lockLost s
  | .edpUnplug port => Sys2Proof.Machine.execEdpUnplug port s
  | .st2110PacketSend stream packet late => Sys2Proof.Machine.execSt2110PacketSend stream packet late s
  | .st2110AncSend stream => Sys2Proof.Machine.execSt2110AncSend stream s
  | .st2110AudioSend sender => Sys2Proof.Machine.execSt2110AudioSend sender s
  | .encodePictureStart core => Sys2Proof.Machine.execEncodePictureStart core s
  | .encodePictureDone core => Sys2Proof.Machine.execEncodePictureDone core s
  | .markKeep stream mark frame => Sys2Proof.Machine.execMarkKeep stream mark frame s
  | .markRelease stream mark => Sys2Proof.Machine.execMarkRelease stream mark s
  | .recoveryRefresh stream => Sys2Proof.Machine.execRecoveryRefresh stream s
  | .recoveryFromMark stream mark => Sys2Proof.Machine.execRecoveryFromMark stream mark s
  | .lossReport stream mark => Sys2Proof.Machine.execLossReport stream mark s
  | .decodePictureStart core unit info => Sys2Proof.Machine.execDecodePictureStart core unit info s
  | .decodePictureDone core picture => Sys2Proof.Machine.execDecodePictureDone core picture s
  | .pictureDue ctx => Sys2Proof.Machine.execPictureDue ctx s
  | .decodeSeek ctx => Sys2Proof.Machine.execDecodeSeek ctx s
  | .rawStripeCoded unit ctx => Sys2Proof.Machine.execRawStripeCoded unit ctx s
  | .rawExpandFrameBlock channel ring => Sys2Proof.Machine.execRawExpandFrameBlock channel ring s
  | .rawExpandBlock channel ring => Sys2Proof.Machine.execRawExpandBlock channel ring s
  | .compressJob channel desc input fault => Sys2Proof.Machine.execCompressJob channel desc input fault s
  | .expandJob channel desc input fault => Sys2Proof.Machine.execExpandJob channel desc input fault s
  | .heldTailDiscard channel => Sys2Proof.Machine.execHeldTailDiscard channel s
  | .ringHold by_ ctx => Sys2Proof.Machine.execRingHold by_ ctx s
  | .ringRelease by_ ctx => Sys2Proof.Machine.execRingRelease by_ ctx s
  | .ringExtract by_ ctx first last => Sys2Proof.Machine.execRingExtract by_ ctx first last s
  | .mqWrite queue entry data fault => Sys2Proof.Machine.execMqWrite queue entry data fault s
  | .mqRead queue entry fault => Sys2Proof.Machine.execMqRead queue entry fault s
  | .mqFlush queue entry => Sys2Proof.Machine.execMqFlush queue entry s
  | .mqBufferSpaceFreed queue => Sys2Proof.Machine.execMqBufferSpaceFreed queue s
  | .driveCommandDone drive cid sct sc data fatal => Sys2Proof.Machine.execDriveCommandDone drive cid sct sc data fatal s
  | .driveTimeout drive => Sys2Proof.Machine.execDriveTimeout drive s
  | .queueRestart by_ queue => Sys2Proof.Machine.execQueueRestart by_ queue s
  | .queueReset by_ queue => Sys2Proof.Machine.execQueueReset by_ queue s
  | .queueResetDone queue => Sys2Proof.Machine.execQueueResetDone queue s
  | .cqHeadWrite queue head => Sys2Proof.Machine.execCqHeadWrite queue head s
  | .errorLogRead queue => Sys2Proof.Machine.execErrorLogRead queue s
  | .volumeCreate present => Sys2Proof.Machine.execVolumeCreate present s
  | .volumeAttach present => Sys2Proof.Machine.execVolumeAttach present s
  | .attachDriveReady drive ok info => Sys2Proof.Machine.execAttachDriveReady drive ok info s
  | .volumeDetach => Sys2Proof.Machine.execVolumeDetach s
  | .volumeRebuild => Sys2Proof.Machine.execVolumeRebuild s
  | .rebuildComplete => Sys2Proof.Machine.execRebuildComplete s
  | .clipDelete clip => Sys2Proof.Machine.execClipDelete clip s
  | .journalCommit => Sys2Proof.Machine.execJournalCommit s
  | .recordCheckpoint ctx => Sys2Proof.Machine.execRecordCheckpoint ctx s
  | .playbackFeedStart ctx chunks => Sys2Proof.Machine.execPlaybackFeedStart ctx chunks s
  | .lostRangesClear value => Sys2Proof.Machine.execLostRangesClear value s
  | .patrolScrub rank channel line requester found => Sys2Proof.Machine.execPatrolScrub rank channel line requester found s
  | .rankMigrate by_ => Sys2Proof.Machine.execRankMigrate by_ s
  | .migrationBlockDone mismatch poisoned => Sys2Proof.Machine.execMigrationBlockDone mismatch poisoned s
  | .rankRetest by_ => Sys2Proof.Machine.execRankRetest by_ s
  | .retestDone rank errors distinct => Sys2Proof.Machine.execRetestDone rank errors distinct s
  | .rankMarginScan by_ => Sys2Proof.Machine.execRankMarginScan by_ s
  | .marginScanDone result => Sys2Proof.Machine.execMarginScanDone result s
  | .dramInitDone => Sys2Proof.Machine.execDramInitDone s
  | .refreshRateChange package => Sys2Proof.Machine.execRefreshRateChange package s
  | .dqsDriftCheck => Sys2Proof.Machine.execDqsDriftCheck s
  | .trainingCacheClear by_ => Sys2Proof.Machine.execTrainingCacheClear by_ s
  | .audioBlock port time period samples => Sys2Proof.Machine.execAudioBlock port time period samples s
  | .audioClockLoss port rate => Sys2Proof.Machine.execAudioClockLoss port rate s
  | .audioClockRestored port => Sys2Proof.Machine.execAudioClockRestored port s
  | .quadratureCount channel a b => Sys2Proof.Machine.execQuadratureCount channel a b s
  | .toothEdge channel b => Sys2Proof.Machine.execToothEdge channel b s
  | .sincosSample channel sin cos => Sys2Proof.Machine.execSincosSample channel sin cos s
  | .indexLatch channel rising => Sys2Proof.Machine.execIndexLatch channel rising s
  | .referenceArm channel => Sys2Proof.Machine.execReferenceArm channel s
  | .positionCorrect channel value => Sys2Proof.Machine.execPositionCorrect channel value s
  | .positionShift channel value => Sys2Proof.Machine.execPositionShift channel value s
  | .probeLatch channel rising => Sys2Proof.Machine.execProbeLatch channel rising s
  | .probeFifoRead channel => Sys2Proof.Machine.execProbeFifoRead channel s
  | .speedUpdate channel => Sys2Proof.Machine.execSpeedUpdate channel s
  | .stopTimeout channel => Sys2Proof.Machine.execStopTimeout channel s
  | .positionClearFlags channel => Sys2Proof.Machine.execPositionClearFlags channel s
  | .mbGo mailbox message wake => Sys2Proof.Machine.execMbGo mailbox message wake s
  | .mbAccept mailbox => Sys2Proof.Machine.execMbAccept mailbox s
  | .mbPop mailbox => Sys2Proof.Machine.execMbPop mailbox s
  | .mbCancel mailbox => Sys2Proof.Machine.execMbCancel mailbox s
  | .relayForward pair => Sys2Proof.Machine.execRelayForward pair s
  | .epPerstAssert => Sys2Proof.Machine.execEpPerstAssert s
  | .standbyCommand => Sys2Proof.Machine.execStandbyCommand s
  | .standbyFramesDrained => Sys2Proof.Machine.execStandbyFramesDrained s
  | .standbyFlushDone => Sys2Proof.Machine.execStandbyFlushDone s
  | .domainWait domain off => Sys2Proof.Machine.execDomainWait domain off s
  | .domainExitDone domain => Sys2Proof.Machine.execDomainExitDone domain s
  | .activeCommand => Sys2Proof.Machine.execActiveCommand s
  | .dormantCommand => Sys2Proof.Machine.execDormantCommand s
  | .wakeFrameWake port frame boot => Sys2Proof.Machine.execWakeFrameWake port frame boot s
  | .wakeFramePing port frame => Sys2Proof.Machine.execWakeFramePing port frame s
  | .wakeTioEdge ball falling boot => Sys2Proof.Machine.execWakeTioEdge ball falling boot s
  | .wakeAlarm boot => Sys2Proof.Machine.execWakeAlarm boot s
  | .wakeEpPerst boot => Sys2Proof.Machine.execWakeEpPerst boot s
  | .coreSensorSample sensor reading => Sys2Proof.Machine.execCoreSensorSample sensor reading s
  | .dramSensorSample package reading => Sys2Proof.Machine.execDramSensorSample package reading s
  | .tspSample reading => Sys2Proof.Machine.execTspSample reading s
  | .thermalLoopTick => Sys2Proof.Machine.execThermalLoopTick s
  | .tripHoldCheck boot => Sys2Proof.Machine.execTripHoldCheck boot s
  | .garosLinkHello link die straps size fwHash => Sys2Proof.Machine.execGarosLinkHello link die straps size fwHash s
  | .garosControlFrame link seq ack kind body checkOk => Sys2Proof.Machine.execGarosControlFrame link seq ack kind body checkOk s
  | .garosControlResend link => Sys2Proof.Machine.execGarosControlResend link s
  | .garosStoreFrame link seq ctx frame groups last checkOk => Sys2Proof.Machine.execGarosStoreFrame link seq ctx frame groups last checkOk s
  | .garosWindowFrame link seq address access checkOk => Sys2Proof.Machine.execGarosWindowFrame link seq address access checkOk s
  | .garosMarkerSend link => Sys2Proof.Machine.execGarosMarkerSend link s
  | .garosTimeMarker link sent partnerReceived partnerSent received => Sys2Proof.Machine.execGarosTimeMarker link sent partnerReceived partnerSent received s
  | .marionetteSend link => Sys2Proof.Machine.execMarionetteSend link s
  | .marionetteReceive link heartbeat => Sys2Proof.Machine.execMarionetteReceive link heartbeat s
  | .marionetteMiss link => Sys2Proof.Machine.execMarionetteMiss link s
  | .partnerLinkDownTimeout link => Sys2Proof.Machine.execPartnerLinkDownTimeout link s
  | .partnerHeartbeatSilent => Sys2Proof.Machine.execPartnerHeartbeatSilent s
  | .partnerLost link => Sys2Proof.Machine.execPartnerLost link s
  | .takeoverInstant => Sys2Proof.Machine.execTakeoverInstant s
  | .twinTakeover by_ => Sys2Proof.Machine.execTwinTakeover by_ s
  | .twinResync by_ => Sys2Proof.Machine.execTwinResync by_ s
  | .mirroredUnit number live unit => Sys2Proof.Machine.execMirroredUnit number live unit s
  | .generationClose ctx frame => Sys2Proof.Machine.execGenerationClose ctx frame s
  | .standbyNotice link => Sys2Proof.Machine.execStandbyNotice link s
  | .arrayFormationTimeout => Sys2Proof.Machine.execArrayFormationTimeout s
  | .twinFormationWindow => Sys2Proof.Machine.execTwinFormationWindow s
  | .felleyLinkHello role lanes die twinState twinIndex node => Sys2Proof.Machine.execFelleyLinkHello role lanes die twinState twinIndex node s
  | .felleyControlFrame seq ack kind body checkOk => Sys2Proof.Machine.execFelleyControlFrame seq ack kind body checkOk s
  | .felleyControlResend => Sys2Proof.Machine.execFelleyControlResend s
  | .felleyStreamSend stream => Sys2Proof.Machine.execFelleyStreamSend stream s
  | .felleyStreamFrame stream seq first last payload checkOk => Sys2Proof.Machine.execFelleyStreamFrame stream seq first last payload checkOk s
  | .felleyFrameInfo stream info => Sys2Proof.Machine.execFelleyFrameInfo stream info s
  | .felleyTimeMarker sent partnerReceived partnerSent received => Sys2Proof.Machine.execFelleyTimeMarker sent partnerReceived partnerSent received s
  | .upstreamManifestTimeout ctx => Sys2Proof.Machine.execUpstreamManifestTimeout ctx s
  | .felleyCalibrate by_ => Sys2Proof.Machine.execFelleyCalibrate by_ s
  | .felleyCalibrationDone => Sys2Proof.Machine.execFelleyCalibrationDone s
  | .felleyRestart by_ => Sys2Proof.Machine.execFelleyRestart by_ s
  | .selfTestReplica system => Sys2Proof.Machine.execSelfTestReplica system s
  | .selfTestTroupe troupe => Sys2Proof.Machine.execSelfTestTroupe troupe s
  | .selfTestRfe rfe => Sys2Proof.Machine.execSelfTestRfe rfe s
  | .selfTestFuse => Sys2Proof.Machine.execSelfTestFuse s
  | .selfTestMram => Sys2Proof.Machine.execSelfTestMram s
  | .selfTestSensors => Sys2Proof.Machine.execSelfTestSensors s
  | .selfTestLoopback quad => Sys2Proof.Machine.execSelfTestLoopback quad s
  | .selfTestDone passed detail => Sys2Proof.Machine.execSelfTestDone passed detail s
  | .eventLogWrite => Sys2Proof.Machine.execEventLogWrite s
  | .eventRecordRead by_ many => Sys2Proof.Machine.execEventRecordRead by_ many s
  | .eventCursorWrite by_ cursor => Sys2Proof.Machine.execEventCursorWrite by_ cursor s
  | .eventAcknowledge by_ => Sys2Proof.Machine.execEventAcknowledge by_ s
  | .eventErase by_ => Sys2Proof.Machine.execEventErase by_ s
  | .interruptPendingRead by_ which => Sys2Proof.Machine.execInterruptPendingRead by_ which s
  | .resetNRise boot => Sys2Proof.Machine.execResetNRise boot s
  | .warmResetComplete => Sys2Proof.Machine.execWarmResetComplete s
  | .domainResetComplete domain => Sys2Proof.Machine.execDomainResetComplete domain s
  | .overvoltageEpisodeStart vin => Sys2Proof.Machine.execOvervoltageEpisodeStart vin s
  | .railOutOfRegulation => Sys2Proof.Machine.execRailOutOfRegulation s
  | .referenceRestored reference => Sys2Proof.Machine.execReferenceRestored reference s
  | .driveLinkDown drive => Sys2Proof.Machine.execDriveLinkDown drive s
  | .dhcpv4Lease address => Sys2Proof.Machine.execDhcpv4Lease address s
  | .endpointLinkUp => Sys2Proof.Machine.execEndpointLinkUp s
  | .edpBacklightOn port => Sys2Proof.Machine.execEdpBacklightOn port s

end Sys2Proof.Machine
end

