-- ==== Sys2Proof/Machine/Pins.lean ====
section
/-!
DEFINITION. Sys2Proof/Machine/Pins.lean: the module's balls (R75, R76), the slow I/O banks with their domains and levels (R84), and the state of
every output as the rest of State gives it: in reset, with its domain off, on SHADOW, and in service (R83, R85, R87 to R89, R92, R610, R624, R693).
-/

namespace Sys2Proof.Machine

/-- What an output does: it sends or drives a signal, holds a level, rests in electrical idle (common mode held), is released (open drain), or is
high-impedance. -/
inductive PinState where
  | drives | low | high | idle | released | floats
  deriving DecidableEq, Repr

/-- The slow I/O banks of R84. -/
inductive Bank where
  | aon | tio | sc | acc | aud | pf | mge | psb | esb
  deriving DecidableEq, Repr

/-- The outputs of R75, by group and number. -/
inductive Output where
  | linkLane (n : Nat) | pcieLane (n : Nat) | edpMain (p : Nat) | sdo (n : Nat) | heartbeat | intN | pwrGood | tio (n : Nat) | wsTx (n : Nat)
  | ioref (b : Bank) | pfVref | sensorControl (n : Nat) | canTx (n : Nat) | accessory (n : Nat) | audio (n : Nat) | amclk (m : Nat) | edpAux (p : Nat) | mge | dbgTx | perst (m : Nat)
  | epWake | edpSideband (p : Nat) | tdo
  deriving DecidableEq, Repr

/-! ## Groups, references and banks -/

/-- Reference of a PCIe lane, PCIEREF[m]: PCL0 to PCL15 form RP0 to RP3, PCL16 to PCL19 the endpoint (R76). -/
def pcieRef (lane : Nat) : Nat := lane / 4

/-- A root port is 0 to 3; 4 is the endpoint (R76). -/
def pciePort (lane : Nat) : Nat := lane / 4

/-- Power domain of a bank, as d of 0x2720 + d (R84). -/
def Bank.domain : Bank → Nat
  | .aon | .tio => 37
  | .esb => 26
  | _ => 35

/-- The bank's select ball, as its bit of 0x2010:02 and of 0x2010:03; none where the level is fixed (R84, R93). -/
def Bank.select : Bank → Option (Nat × Nat)
  | .sc => some (6, 0)
  | .acc => some (7, 1)
  | .aud => some (8, 2)
  | .tio => some (9, 3)
  | _ => none

/-- The bank runs at 3.3 V; else at 1.8 V (R84). -/
def Sys.bank33 (y : Sys) (b : Bank) : Bool :=
  match b.select with
  | some (_, bit) => y.rdBit (ent 0x2010 3) bit
  | none => b == .pf || b == .psb || b == .esb

/-- The bank's select ball is not open, so the bank is powered (R93). -/
def Sys.bankPowered (y : Sys) (b : Bank) : Bool :=
  match b.select with
  | some (bit, _) => !y.bankOpen bit
  | none => true

/-- Bank of a slow output (R75). -/
def Output.bank : Output → Option Bank
  | .heartbeat | .intN | .pwrGood | .wsTx _ | .tdo => some .aon
  | .tio _ => some .tio
  | .ioref b => some b
  | .pfVref => some .pf
  | .sensorControl _ => some .sc
  | .canTx _ | .accessory _ => some .acc
  | .audio _ | .amclk _ => some .aud
  | .mge | .dbgTx => some .mge
  | .perst _ | .epWake => some .psb
  | .edpSideband _ => some .esb
  | .linkLane _ | .pcieLane _ | .edpMain _ | .edpAux _ | .sdo _ => none

/-- Power domain of an output (R75). -/
def Output.domain (o : Output) : Nat :=
  match o with
  | .linkLane n => 27 + n / 4
  | .pcieLane _ => 35
  | .edpMain _ | .edpAux _ | .sdo _ => 26
  | _ => (o.bank.map Bank.domain).getD 35

/-! ## The columns of the output-state table -/

/-- The domain-off column holds for domain d: its outputs are isolated, or the module has no VIN (R88, R89). -/
def Sys.domainOff (y : Sys) (d : Nat) : Bool :=
  if d = 37 then y.boot.phase == .off || !y.sup.aon
  else y.boot.phase == .off || y.boot.phase == .supplyReset || y.isolated d

/-- The outputs that a strap fault leaves in service (R83). -/
def Output.faultServes : Output → Bool
  | .heartbeat | .intN | .pwrGood | .mge | .dbgTx | .canTx _ | .epWake => true
  | .pcieLane n => pciePort n == 4
  | .ioref _ | .tdo => true
  | _ => false

/-- The outputs that serve before step 8 of R108: the debug UART reports the power-up, and the endpoint takes a host image (R110, R747). -/
def Sys.bootServes (y : Sys) : Output → Bool
  | .dbgTx => y.boot.phase == .training || y.boot.phase == .waitImage || y.boot.phase == .failed
  | .pcieLane n => pciePort n == 4 && y.boot.phase == .waitImage
  | .epWake => y.boot.phase == .waitImage
  | _ => false

/-- The in-reset column holds for an output: the module or the output's domain is in reset, a strap fault holds it, or its bank is not powered
(R83, R87). -/
def Sys.outputReset (y : Sys) (o : Output) : Bool :=
  (y.inReset && !y.bootServes o) || y.boot.domainResets.contains o.domain || (y.boot.strapFault && !o.faultServes) ||
  (o.bank.any fun b => !y.bankPowered b)

/-- What an output shows in the in-reset column (R87). PWR_GOOD goes on showing the rails. -/
def Sys.inResetState (y : Sys) : Output → PinState
  | .linkLane _ | .pcieLane _ | .edpMain _ | .edpAux _ => .idle
  | .heartbeat => .low
  | .intN => .released
  | .pwrGood => if y.boot.pwrGood then .high else .low
  | .ioref .aon => .drives
  | _ => .floats

/-- What an output shows with its domain off, or with no VIN (R88): high-impedance; the open-drain INT_N is released. -/
def Output.offState : Output → PinState
  | .intN => .released
  | _ => .floats

/-! ## In service -/

/-- PF_VREF is driven while any channel is in SINCOS mode; on SHADOW it floats up to the takeover instant (R624). -/
def Sys.vrefDriven (y : Sys) : Bool := !y.isShadow && (List.range 24).any fun c => y.rd (ent (0x2600 + c) 1) == 3

/-- AMCLK[m] (R599): the port whose word select it follows and the multiple of that port's rate; none where no port that is on and ALIGNED or FREE is
named, so that the ball floats, and in Standby (R652). -/
def Sys.masterClock (y : Sys) (m : Nat) : Option (Nat × Nat) :=
  let n := y.rd (ent 0x2560 (m + 1))
  if n < 48 ∧ y.apDir n ≠ .off ∧ y.apClock n ≠ .slave ∧ y.apDriven n = true then some (n, 128 * 2 ^ y.rd (ent 0x2560 (m + 5))) else none

/-- Frequency of AMCLK[m] in hertz. -/
def Sys.masterHertz (y : Sys) (m : Nat) : Option Nat := (y.masterClock m).map fun p => p.2 * audioFs (y.rd (apCfg p.1 4))

/-- What an output shows while its domain runs and nothing resets it. Sensor control, accessory serial and audio float in Standby (R652); what
SHADOW leaves to PRIMARY floats (R89, R610, R624, R693); TDO answers in the factory states alone (R92). No rule says when the module drives
EP_WAKE_N low: it stays released (log entry 59). -/
def Sys.served (o : Otp) (y : Sys) (out : Output) : PinState :=
  let on (b : Bool) : PinState := if b then .drives else .floats
  let ring (b : Bool) : PinState := if b then .high else .low
  match out with
  | .linkLane n => if (y.lane (48 + n)).sends == .idle || (y.lane (48 + n)).sends == .held then .idle else .drives
  | .pcieLane n => if pciePort n = 4 then (if y.boot.epLink then .drives else .idle) else if y.driveState (pciePort n) = 0 then .idle else .drives
  | .edpMain p => if (y.edp p).video then .drives else .idle
  | .edpAux p => if (y.edp p).vdd then .drives else .idle
  | .sdo n => on (y.rd (ent (0x4170 + n) 3) == 0)
  | .heartbeat => if y.boot.heartbeat then .drives else .low
  | .intN => if y.boot.intLow then .low else .released
  | .pwrGood => ring y.boot.pwrGood
  | .tio n => on (y.tioDriven n)
  | .wsTx n => if y.rd (ent (0x2704 + n) 1) == 1 then .released else .floats
  | .ioref _ => .drives
  | .pfVref => on y.vrefDriven
  | .sensorControl n => on (y.portMode n != 0 && !y.isShadow && y.device != 2)
  | .canTx n => on (y.canOn n && !y.isShadow)
  | .accessory _ => on (!y.isShadow && y.device != 2)
  | .audio n => on (y.apDir n != .off && y.apDriven n)
  | .amclk m => on (y.masterClock m).isSome
  | .mge | .dbgTx => .drives
  | .perst m => ring (y.media.volume.awaiting.contains m || y.driveState m != 0)
  | .epWake => .released
  | .edpSideband p => ring ((y.edp p).vdd || (y.edp p).blen || (y.edp p).pwm)
  | .tdo => on o.factory

/-- The state of an output: the domain-off column first, then the in-reset column, then what the output does in service (R83, R87 to R89).
IOREF_AON follows VIN (R85). -/
def Sys.output (o : Otp) (y : Sys) (out : Output) : PinState :=
  if y.domainOff out.domain then out.offState
  else if out == .ioref .aon then .drives
  else if y.outputReset out then y.inResetState out
  else if out matches .ioref _ then (if y.domainRun out.domain then .drives else .floats)
  else y.served o out

/-- Level of an IOREF ball in 0.1 V; none where it is high-impedance (R85). -/
def Sys.iorefLevel (o : Otp) (y : Sys) (b : Bank) : Option Nat :=
  if y.output o (.ioref b) = .drives then some (if y.bank33 b then 33 else 18) else none

/-- The test port answers its inputs (R92). -/
def testPortAnswers (o : Otp) : Bool := o.factory

end Sys2Proof.Machine
end

