-- ==== Sys2Proof/Safety.lean ====
section
/-!
DEFINITION. Sys2Proof/Safety.lean: the terms in which claims about the block are made: what a command leaves alone, what it logs, what the fuse
array may hold, and that fuses only ever grow.
-/

namespace Sys2Proof.Machine

/-! ## Completion -/

/-- The command completes: it answers a next state, and `P` holds of that state. -/
def Completes (c : Instr) (s : State) (P : State → Prop) : Prop := ∃ t, exec c s = .next t ∧ P t

/-- The command runs and leaves the working state `y`; the queue and the fuses are as they were. -/
def Runs (c : Instr) (s : State) (y : Sys) : Prop := exec c s = .next { s with sys := y }

/-- The command runs: the fuses that `p` lists are programmed, and the working state becomes that of `p`. -/
def Programs (c : Instr) (s : State) (p : List OtpOp × Sys) : Prop := exec c s = .next { s with otp := s.otp.applyAll p.1, sys := p.2 }

/-! ## Frames -/

/-- The facets of the working state besides the object dictionary and the draw counter of the free values, which is the model's own. -/
inductive Facet where
  | t96 | up | tx | log | boot | sup | gov | den | sec | mram | frames | ctxs | igs | ports | troupes | rfes | stores | holds
  | engines | resident | tables | pages | channels | sdis | edps | pathsDown | links | lanes | mailboxes | power | dram | mem
  | media | rings | zcs | positions | time | ptp | tios | twin | thermal | launches | audioIn | audioOut | felley | encs | decs
  | cores | turn
  deriving DecidableEq, Repr

/-- Both states hold the same in a part. -/
def Facet.same : Facet → Sys → Sys → Prop
  | .t96, a, b => a.t96 = b.t96
  | .up, a, b => a.up = b.up
  | .tx, a, b => a.tx = b.tx
  | .log, a, b => a.log = b.log
  | .boot, a, b => a.boot = b.boot
  | .sup, a, b => a.sup = b.sup
  | .gov, a, b => a.gov = b.gov
  | .den, a, b => a.den = b.den
  | .sec, a, b => a.sec = b.sec
  | .mram, a, b => a.mram = b.mram
  | .frames, a, b => a.frames = b.frames
  | .ctxs, a, b => a.ctxs = b.ctxs
  | .igs, a, b => a.igs = b.igs
  | .ports, a, b => a.ports = b.ports
  | .troupes, a, b => a.troupes = b.troupes
  | .rfes, a, b => a.rfes = b.rfes
  | .stores, a, b => a.stores = b.stores
  | .holds, a, b => a.holds = b.holds
  | .engines, a, b => a.engines = b.engines
  | .resident, a, b => a.resident = b.resident
  | .tables, a, b => a.tables = b.tables
  | .pages, a, b => a.pages = b.pages
  | .channels, a, b => a.channels = b.channels
  | .sdis, a, b => a.sdis = b.sdis
  | .edps, a, b => a.edps = b.edps
  | .pathsDown, a, b => a.pathsDown = b.pathsDown
  | .links, a, b => a.links = b.links
  | .lanes, a, b => a.lanes = b.lanes
  | .mailboxes, a, b => a.mailboxes = b.mailboxes
  | .power, a, b => a.power = b.power
  | .dram, a, b => a.dram = b.dram
  | .mem, a, b => a.mem = b.mem
  | .media, a, b => a.media = b.media
  | .rings, a, b => a.rings = b.rings
  | .zcs, a, b => a.zcs = b.zcs
  | .positions, a, b => a.positions = b.positions
  | .time, a, b => a.time = b.time
  | .ptp, a, b => a.ptp = b.ptp
  | .tios, a, b => a.tios = b.tios
  | .twin, a, b => a.twin = b.twin
  | .thermal, a, b => a.thermal = b.thermal
  | .launches, a, b => a.launches = b.launches
  | .audioIn, a, b => a.audioIn = b.audioIn
  | .audioOut, a, b => a.audioOut = b.audioOut
  | .felley, a, b => a.felley = b.felley
  | .encs, a, b => a.encs = b.encs
  | .decs, a, b => a.decs = b.decs
  | .cores, a, b => a.cores = b.cores
  | .turn, a, b => a.turn = b.turn

/-- The listed entries. -/
abbrev only (l : List Nat) : Nat → Prop := fun k => k ∈ l

/-- Every subindex of the indices from `i`, `count` of them. -/
abbrev indices (i count : Nat) : Nat → Prop := fun k => i ≤ k / 256 ∧ k / 256 < i + count

/-- Two working states differ at most in the listed facets and in the numeric and octet-string entries that are named. -/
def SameBut (facets : List Facet) (nums blobs : Nat → Prop) (a b : Sys) : Prop :=
  (∀ p, p ∉ facets → p.same a b) ∧ (∀ k, ¬ nums k → b.rd k = a.rd k) ∧ (∀ k, ¬ blobs k → b.rdB k = a.rdB k)

/-- The frame of a command that programs no fuse: the queue and the fuses stay, and the working state differs at most in what is named. -/
def Leaves (facets : List Facet) (nums blobs : Nat → Prop) (s t : State) : Prop :=
  t.pending = s.pending ∧ t.otp = s.otp ∧ SameBut facets nums blobs s.sys t.sys

/-! ## Denval frames -/

/-- The frame passes every check of its path, and its trailer that of its session: the request, the session, role and counter it comes with, and the
state in which it is handled (R140 to R142, R155). -/
def Accepted (f : DenvalFrame) (s : State) (r : Req) (sid : Nat) (role : Role) (counter : Nat) (z : Sys) : Prop :=
  ∃ y, s.sys.takeFrame f = (some r, y) ∧ y.authenticate r = (some (sid, role, counter), z)

/-- The same for a frame that carries no trailer: HELLO and PROOF. -/
def Arrives (f : DenvalFrame) (s : State) (r : Req) (z : Sys) : Prop := s.sys.takeFrame f = (some r, z)

/-! ## Ingest packets -/

/-- Group g takes a packet with this header: its context x is served by lanes, frame f is open on it with the group's part fg, and the packet belongs to
it (R264, R266, R268, R274, R275). -/
def Takes (s : State) (g : Nat) (h : PacketHeader) (x : Nat) (f : Frame) (fg : FrameGroup) : Prop :=
  s.sys.lanesOf g = some x ∧ (s.sys.ig g).resync = false ∧ (s.sys.ig g).quiet = false ∧ (s.sys.ig g).discarding = false ∧
  s.sys.openFrame g = some (f, fg) ∧ headerStray s.sys x fg h.stream.val h.gidx.val = none

/-! ## Commands that stand for a write -/

/-- The writer, the entry and the value of a command that stands for a write of one entry. -/
def writeOf : Instr → Option (Writer × Nat × Bytes)
  | .entryWrite w k v => some (w, k.toNat, v)
  | .lookSlotSelect w x n => some (w, ent (0x3800 + x.val) 1, le 1 n.toNat)
  | .parameterStoreSave w => some (w, ent 0x1104 1, le 2 1)
  | .parameterStoreClear w => some (w, ent 0x1104 1, le 2 2)
  | .lifeCycleTransition w n => some (w, ent 0x1001 2, le 2 n.toNat)
  | .rekey w => some (w, ent 0x1002 1, le 2 1)
  | .certificateInstall w v => some (w, ent 0x1002 4, v)
  | .customerRootWrite w v => some (w, ent 0x1200 1, v)
  | .credentialInstall w i v => some (w, ent 0x1210 (i.val + 1), v)
  | .credentialRemove w i => some (w, ent 0x1210 (i.val + 1), [])
  | .credentialRevoke w id => some (w, ent 0x1211 1, le 4 id.toNat)
  | .epochRaise w e => some (w, ent 0x1003 1, le 1 e.toNat)
  | .lookImageWrite w i v => some (w, ent (0x3840 + i.val) 1, v)
  | .recipientKeyWrite w i v => some (w, ent 0x1404 (i.val + 2), v)
  | .encryptionEnable w on => some (w, ent 0x1404 1, le 1 (if on then 1 else 0))
  | .attestationNonce w v => some (w, ent 0x1406 1, v)
  | .eventCursorWrite w n => some (w, ent 0x1300 5, le 4 n.toNat)
  | .eventAcknowledge w => some (w, ent 0x1300 8, le 2 1)
  | .eventErase w => some (w, ent 0x1300 8, le 2 2)
  | .railCeilingWrite by_ system value => some (by_, ent 0x2200 (if system then 5 else 4), le 2 value.toNat)
  | .laneRequestedState by_ lane state => some (by_, ent (0x2400 + lane.val) 1, le 2 state.val)
  | .eyeScanRequest by_ lane request => some (by_, ent (0x2400 + lane.val) 0x0E, request)
  | .retrain by_ target => some (by_, if target.val < 8 then ent (0x2480 + target.val) 5 else ent (0x2488 + (target.val - 8)) 0x0A, le 1 1)
  | .quadFunctionWrite by_ quad function => some (by_, ent (0x2488 + quad.val) 1, le 2 function.toNat)
  | .ingestLaneRateWrite by_ group rate => some (by_, ent (0x2480 + group.val) 1, le 4 rate.toNat)
  | .contextModeWrite by_ ctx mode => some (by_, ent (0x3000 + ctx.val) 1, le 2 (ctxModeCode mode))
  | .keepResidentWrite by_ slot value => some (by_, ent (0x3840 + slot.val) 7, le 1 value.toNat)
  | .calibrationCommit by_ slot => some (by_, ent (0x3C00 + slot.val) 8, le 2 1)
  | .revertStaging by_ slot value => some (by_, ent (0x3C00 + slot.val) 0x0D, le 1 value.toNat)
  | .tableHeaderWrite by_ entry header => some (by_, ent (0x3C40 + entry.val) 1, header)
  | .tableDataWrite by_ entry value => some (by_, ent (0x3C40 + entry.val) 2, value)
  | .tableSeal by_ entry value => some (by_, ent (0x3C40 + entry.val) 4, le 1 value.toNat)
  | .tableGenerate by_ entry value => some (by_, ent (0x3C40 + entry.val) 3, value)
  | .ringHold by_ ctx => some (by_, ent (0x4848 + ctx.val) 2, le 1 1)
  | .ringRelease by_ ctx => some (by_, ent (0x4848 + ctx.val) 2, le 1 0)
  | .ringExtract by_ ctx first last => some (by_, ent (0x4848 + ctx.val) 7, le 4 first.toNat ++ le 4 last.toNat)
  | .queueRestart by_ queue => by_.map fun w => (w, ent (0x4900 + queue.val) 8, le 2 1)
  | .queueReset by_ queue => by_.map fun w => (w, ent (0x4900 + queue.val) 8, le 2 2)
  | .rankMigrate by_ => some (by_, ent 0x4B00 9, le 2 1)
  | .rankRetest by_ => some (by_, ent 0x4B00 9, le 2 2)
  | .rankMarginScan by_ => some (by_, ent 0x4B00 9, le 2 3)
  | .trainingCacheClear by_ => some (by_, ent 0x4B00 0x0C, le 1 1)
  | .twinTakeover by_ => some (by_, ent 0x4C00 8, le 2 1)
  | .twinResync by_ => some (by_, ent 0x4C00 8, le 2 2)
  | .felleyCalibrate by_ => some (by_, ent 0x4D00 6, le 2 1)
  | .felleyRestart by_ => some (by_, ent 0x4D00 6, le 2 2)
  | _ => none

/-- The module runs, the write passes its arrival checks, and no reset is owed. -/
def Admitted (s : State) (w : Writer) (k : Nat) (v : Bytes) : Prop :=
  s.sys.boot.phase = .running ∧ (s.sys.arrival s.otp w k v).1 = .ok ∧ s.sys.boot.due = none

/-- An admitted write that nothing stands against at its commit instant: no set rule and no limit (R136, R161). -/
def Granted (s : State) (w : Writer) (k : Nat) (v : Bytes) : Prop :=
  Admitted s w k v ∧ (s.sys.commitUnit s.otp (writeUnit s.sys w k v) fun _ => false).status = .ok

/-! ## Engine instructions -/

/-- The group has time left for an instruction: one that waits for every result that is due, and is held 4 slots itself, ends before the 65,536 slots of
R364 are over. -/
def InTime (s : State) (e : Nat) : Prop :=
  (s.sys.engine e).slot + 4 < 65536 ∧ (s.sys.engine e).transFree + 4 < 65536 ∧ ∀ d ∈ (s.sys.engine e).due, d.slot + 4 < 65536

/-- Engine e runs a group that has time left, and no LUT result is awaited that would write a register the instruction reads or writes. -/
def Ready (s : State) (e : Nat) (regs : List (Nat × Nat)) : Prop :=
  (s.sys.engine e).busy = true ∧ (s.sys.engine e).lutPending regs = false ∧ InTime s e

/-- Engine e went on to the next word of its program (R361), at least one issue slot later; every other engine, and the rest of the machine, is as it
was. -/
def Advances (e : Nat) (s t : State) : Prop :=
  (t.sys.engine e).pc = (s.sys.engine e).next.pc ∧ (t.sys.engine e).loops = (s.sys.engine e).next.loops ∧
  (s.sys.engine e).slot < (t.sys.engine e).slot ∧ (t.sys.engine e).busy = true ∧ (∀ j, j ≠ e → t.sys.engine j = s.sys.engine j) ∧
  Leaves [.engines] (only []) (only []) s t

/-- The engine's memory, stacks, held writes and LUT requests are as they were. -/
def Engine.keeps (g h : Engine) : Prop :=
  h.scratch = g.scratch ∧ h.outs = g.outs ∧ h.writes = g.writes ∧ h.calls = g.calls ∧ h.reqs = g.reqs ∧ h.halted = g.halted

/-- The V registers: d has `f k` in each lane that `take` selects, and every other lane and register is as it was. -/
def Engine.wroteV (g h : Engine) (d : Nat) (take : Nat → Bool) (f : Nat → W32) : Prop :=
  ∀ r k, k < 16 → h.rv r k = if r = d ∧ take k = true then f k else g.rv r k

/-- The S registers: d has the value, and every other is as it was. -/
def Engine.wroteS (g h : Engine) (d : Nat) (v : W32) : Prop := ∀ r, r < 16 → h.rs r = if r = d then v else g.rs r

/-- The predicates: d has the value unless it is P0, and every other is as it was (R337). -/
def Engine.wroteP (g h : Engine) (d : Nat) (v : W16) : Prop := ∀ r, h.rp r = if r = d ∧ r ≠ 0 then v else g.rp r

/-- No V register, no S register, no predicate was written. -/
def Engine.keepsV (g h : Engine) : Prop := ∀ r k, k < 16 → h.rv r k = g.rv r k
def Engine.keepsS (g h : Engine) : Prop := ∀ r, r < 16 → h.rs r = g.rs r
def Engine.keepsP (g h : Engine) : Prop := ∀ r, h.rp r = g.rp r

/-! ## Events -/

/-- There is room for one more record among those that wait for their MRAM write (R753). -/
def Room (s : State) : Prop := s.sys.log.pending.length < 256

/-- The event log of `t` is that of `s` with one record more: now, with the severity of the event's table. -/
def Logs (s t : State) (code source : Nat) (data : Bytes) : Prop :=
  t.sys.log.pending = s.sys.log.pending ++ [⟨s.sys.t96, code, severity code, source, data⟩]

/-! ## Fuses -/

/-- What the fuse array may hold: state fuses 1 to 6, each programmed once, and no more changes than each of the other fuse groups has. -/
def FuseInv (o : Otp) : Prop :=
  (∀ n ∈ o.stateFuses, 1 ≤ n ∧ n ≤ 6) ∧ o.stateFuses.Nodup ∧ o.rekeys ≤ 8 ∧ o.epochs.length ≤ 64 ∧
  (∀ k, o.calEpoch k ≤ 32) ∧ ∀ k, 8 ≤ k → o.calEpoch k = 0

/-- `b` is `a` after zero or more programmings: nothing that was fused has gone. -/
def Grown (a b : Otp) : Prop :=
  (∃ l, b.stateFuses = a.stateFuses ++ l) ∧ a.rekeys ≤ b.rekeys ∧ (∃ l, b.epochs = a.epochs ++ l) ∧
  (∀ r, a.root = some r → b.root = some r) ∧ (a.rootErased = true → b.rootErased = true) ∧ (∀ k, a.calEpoch k ≤ b.calEpoch k) ∧
  (a.kilvanKeyHash ≠ [] → b.kilvanKeyHash = a.kilvanKeyHash) ∧ b.dieId = a.dieId ∧ b.orderM1 = a.orderM1 ∧ b.revision = a.revision

/-! ## Runs -/

/-- `n` steps one after the other; none where one of them answers no next state. -/
def steps : Nat → State → Option State
  | 0, s => some s
  | n + 1, s =>
    match step s with
    | .next t => steps n t
    | _ => none

end Sys2Proof.Machine
end

