-- ==== Sys2Proof/WellFormed.lean ====
section
/-!
DEFINITION. Sys2Proof/WellFormed.lean: the commands that can arrive: an operand that the manual gives a fixed length on its wire has that length. A
value written to an entry may have any length, since the module answers a wrong one.
-/

namespace Sys2Proof

/-- A Denval frame that its path can carry: at most 60 octets of body beside the word in a mailbox, a 29-bit identifier and at most 64 octets of
payload on CAN, in a frame that holds the payload's length (R146, R148, R149). -/
def DenvalFrame.wf (f : DenvalFrame) : Bool :=
  match f.path with
  | .mailbox => decide (f.body.length ≤ 60)
  | .twin => true
  | .udp _ => true
  | .can _ _ _ => decide (f.word.toNat < 2 ^ 29) && decide (f.body.length ≤ 64)

/-- Between two pulses lies one gap (R658). -/
def WakeFrame.wf (f : WakeFrame) : Bool := f.gaps.length + 1 == f.pulses.length || (f.gaps.isEmpty && f.pulses.isEmpty)

/-- The command can arrive. -/
def Instr.wf : Instr → Bool
  | .vinValid _ _ => true
  | .hostFirmwareImage _ _ => true
  | .hostFirmwareTimeout => true
  | .dramTrainingComplete identities _ _ _ _ _ => identities.length == 72
  | .lowInputEnter _ => true
  | .lowInputLeave _ => true
  | .supplyCapTick _ _ => true
  | .supplyWarning _ => true
  | .supplyWarningClear _ _ => true
  | .currentLimitEngage _ => true
  | .currentLimitRelease _ _ _ => true
  | .overvoltageEpisodeEnd _ _ => true
  | .inputSwitchOpen _ _ _ => true
  | .inputSwitchClose => true
  | .supplyReset _ => true
  | .holdUpEnd => true
  | .resetNFall => true
  | .resetNHeld => true
  | .resetCommandWarm => true
  | .resetCommandCold _ => true
  | .resetCommandDomain => true
  | .coreCheckTick _ => true
  | .watchdogTimeout _ => true
  | .governorWindow => true
  | .railCeilingWrite _ _ _ => true
  | .powerManagerTick _ => true
  | .idleTokenEnd _ => true
  | .frameDeadline _ => true
  | .denvalRead frame => frame.wf
  | .denvalReadShadow frame => frame.wf
  | .denvalWrite frame => frame.wf
  | .groupBegin frame => frame.wf
  | .groupMember frame => frame.wf
  | .groupCommit frame => frame.wf
  | .groupTimeout _ => true
  | .segReadInit frame => frame.wf
  | .segWriteInit frame => frame.wf
  | .segDown frame => frame.wf
  | .segAck frame => frame.wf
  | .denvalAbort frame => frame.wf
  | .transferTimeout _ _ _ _ => true
  | .commitInstant => true
  | .entryWrite _ _ _ => true
  | .sessionHello frame => frame.wf
  | .lockoutEnd _ _ => true
  | .sessionProofA frame => frame.wf
  | .sessionProofB frame => frame.wf
  | .sessionSetupTimeout _ => true
  | .sessionClose frame => frame.wf
  | .sessionIdleTimeout _ => true
  | .heartbeatSend => true
  | .timeSyncSend => true
  | .timeFollowSend _ => true
  | .canBusOff _ => true
  | .canBusRecovered _ => true
  | .consoleIdentify _ => true
  | .consoleRead _ => true
  | .consoleWrite _ => true
  | .parameterStoreSave _ => true
  | .parameterStoreClear _ => true
  | .parameterStoreDone => true
  | .lifeCycleTransition _ _ => true
  | .rekey _ => true
  | .certificateInstall _ _ => true
  | .customerRootWrite _ _ => true
  | .credentialInstall _ _ _ => true
  | .credentialRemove _ _ => true
  | .credentialRevoke _ _ => true
  | .epochRaise _ _ => true
  | .lookImageWrite _ _ _ => true
  | .manifestIssue _ _ => true
  | .recipientKeyWrite _ _ _ => true
  | .encryptionEnable _ _ => true
  | .attestationNonce _ _ => true
  | .attestationReportReady => true
  | .timeBaseSave _ => true
  | .sourceQualified _ _ _ _ => true
  | .frequencyAcquired _ _ => true
  | .timeLocked _ => true
  | .lockLost _ => true
  | .referenceFault _ _ _ => true
  | .holdoverLimitExceeded _ => true
  | .timeSet _ => true
  | .ppsInEdge _ _ => true
  | .ptpAnnounceReceive _ _ => true
  | .ptpSyncReceive _ _ _ _ _ => true
  | .ptpFollowUpReceive _ _ _ _ => true
  | .ptpDelayReqReceive _ _ _ _ _ => true
  | .ptpDelayRespReceive _ _ _ _ => true
  | .ptpAnnounceSend _ => true
  | .ptpSyncSend _ => true
  | .ptpDelayReqSend _ => true
  | .ptpMetadataSend _ => true
  | .ptpAnnounceTimeout _ => true
  | .tioEdgeOut _ => true
  | .tioCapture _ _ _ _ => true
  | .captureFifoRead _ => true
  | .launchSubmit _ _ _ => true
  | .launchCancel _ _ => true
  | .launchCancelAny _ => true
  | .launchCancelAll => true
  | .launchDue => true
  | .laneRequestedState _ _ _ => true
  | .lanePllLocked _ => true
  | .losAssert _ => true
  | .losClear _ => true
  | .cdrLock _ _ => true
  | .cdrLockLost _ _ => true
  | .adaptationDone _ _ _ => true
  | .blockLock _ _ => true
  | .blockLockLost _ _ _ => true
  | .hiBerSet _ _ => true
  | .hiBerClear _ _ => true
  | .trainingBlockReceive _ _ => true
  | .trainingTimeout _ => true
  | .laneBringupRetry _ => true
  | .referenceMissing _ _ => true
  | .eyeScanRequest _ _ _ => true
  | .eyeScanDone _ _ _ => true
  | .retrain _ _ => true
  | .quadFunctionWrite _ _ _ => true
  | .ingestLaneRateWrite _ _ _ => true
  | .alignmentMarker _ _ _ _ => true
  | .malformedBlock _ => true
  | .frameStartAccept _ start => start.sensorBytes.length == 16
  | .nonLeadFrameStart _ _ => true
  | .groupSkew _ => true
  | .linePacket _ _ _ _ => true
  | .embeddedLine _ _ _ _ => true
  | .frameEndAccept _ _ _ => true
  | .frameTimeout _ => true
  | .ingestLockLoss _ => true
  | .quietBlock _ => true
  | .blankingWake _ => true
  | .contextModeWrite _ _ _ => true
  | .exposureListStart _ => true
  | .exposureListDone _ => true
  | .exposureListOverrun _ _ => true
  | .sensorWriteError _ _ _ => true
  | .sensorTransaction _ _ => true
  | .sensorTransactionDone _ _ _ => true
  | .stripeOpen => true
  | .rfeSegmentWritten _ _ => true
  | .rfePassComplete _ => true
  | .statisticsRecordIssue _ _ => true
  | .statsRecordMerge _ _ _ => true
  | .rfeParityError _ _ => true
  | .rfeRetestDone _ _ => true
  | .statsOnlyStripe => true
  | .stripeComplete _ => true
  | .arrayHaloReceive _ _ _ _ _ => true
  | .arrayLookDecision _ _ _ _ => true
  | .engineGroupDispatch _ => true
  | .fadd _ _ _ _ _ _ => true
  | .fsub _ _ _ _ _ _ => true
  | .fmul _ _ _ _ _ _ => true
  | .fmin _ _ _ _ _ _ => true
  | .fmax _ _ _ _ _ _ => true
  | .fabs _ _ _ _ _ => true
  | .fneg _ _ _ _ _ => true
  | .fsat _ _ _ _ _ => true
  | .ffloor _ _ _ _ _ => true
  | .ffrac _ _ _ _ _ => true
  | .frnd _ _ _ _ _ => true
  | .fma _ _ _ _ _ _ => true
  | .fms _ _ _ _ _ _ => true
  | .fnma _ _ _ _ _ _ => true
  | .faddS _ _ _ _ _ _ => true
  | .fsubS _ _ _ _ _ _ => true
  | .fmulS _ _ _ _ _ _ => true
  | .fminS _ _ _ _ _ _ => true
  | .fmaxS _ _ _ _ _ _ => true
  | .fmaS _ _ _ _ _ _ => true
  | .fmsS _ _ _ _ _ _ => true
  | .fnmaS _ _ _ _ _ _ => true
  | .rcp _ _ _ _ _ => true
  | .rsq _ _ _ _ _ => true
  | .sqrt _ _ _ _ _ => true
  | .log2 _ _ _ _ _ => true
  | .exp2 _ _ _ _ _ => true
  | .iadd _ _ _ _ _ _ => true
  | .isub _ _ _ _ _ _ => true
  | .imul _ _ _ _ _ _ => true
  | .imin _ _ _ _ _ _ => true
  | .imax _ _ _ _ _ _ => true
  | .and _ _ _ _ _ _ => true
  | .or _ _ _ _ _ _ => true
  | .xor _ _ _ _ _ _ => true
  | .shl _ _ _ _ _ _ => true
  | .shr _ _ _ _ _ _ => true
  | .sar _ _ _ _ _ _ => true
  | .sadd _ _ _ _ => true
  | .ssub _ _ _ _ => true
  | .smul _ _ _ _ => true
  | .smin _ _ _ _ => true
  | .smax _ _ _ _ => true
  | .sand _ _ _ _ => true
  | .sor _ _ _ _ => true
  | .sxor _ _ _ _ => true
  | .sshl _ _ _ _ => true
  | .sshr _ _ _ _ => true
  | .ssar _ _ _ _ => true
  | .movl _ _ _ => true
  | .movh _ _ _ => true
  | .movf _ _ _ => true
  | .smovl _ _ _ => true
  | .smovh _ _ _ => true
  | .saddi _ _ _ => true
  | .mov _ _ _ _ _ => true
  | .bcast _ _ _ _ _ => true
  | .extr _ _ _ _ => true
  | .sel _ _ _ _ _ _ => true
  | .laneid _ _ _ _ => true
  | .smov _ _ _ => true
  | .fcmpEq _ _ _ _ _ _ => true
  | .fcmpLt _ _ _ _ _ _ => true
  | .fcmpLe _ _ _ _ _ _ => true
  | .fcmpNe _ _ _ _ _ _ => true
  | .fcmpUn _ _ _ _ _ _ => true
  | .icmpEq _ _ _ _ _ _ => true
  | .icmpLt _ _ _ _ _ _ => true
  | .icmpLtu _ _ _ _ _ _ => true
  | .pand _ _ _ _ => true
  | .por _ _ _ _ => true
  | .pxor _ _ _ _ => true
  | .pnot _ _ _ => true
  | .pfroms _ _ _ => true
  | .ptos _ _ _ => true
  | .cvtFI _ _ _ _ _ => true
  | .cvtIF _ _ _ _ _ => true
  | .cvtFU _ _ _ _ _ => true
  | .cvtUF _ _ _ _ _ => true
  | .cvtHF _ _ _ _ _ => true
  | .cvtFH _ _ _ _ _ => true
  | .ldV _ _ _ _ _ _ => true
  | .stV _ _ _ _ _ _ => true
  | .ldS _ _ _ _ => true
  | .stS _ _ _ _ => true
  | .ldB _ _ _ _ _ _ => true
  | .ldG _ _ _ _ _ _ => true
  | .stG _ _ _ _ _ _ => true
  | .pixIn _ _ _ _ _ _ => true
  | .pixFrac _ _ _ _ => true
  | .pixOut _ _ _ _ _ => true
  | .lut1 _ _ _ _ _ _ => true
  | .lut3 _ _ _ _ _ _ => true
  | .lut3Out _ _ _ _ _ _ => true
  | .lutRequestAccept _ => true
  | .lutResult _ => true
  | .br _ _ => true
  | .brp _ _ _ _ => true
  | .loop _ _ _ => true
  | .call _ _ => true
  | .ret _ => true
  | .sync _ => true
  | .wait _ _ => true
  | .halt _ => true
  | .nop _ => true
  | .engineGroupTimeout _ => true
  | .engineParityError _ _ => true
  | .engineRetestDone _ _ => true
  | .troupeParityError _ _ => true
  | .troupeRetestDone _ _ => true
  | .imageLoadDone _ => true
  | .tableLoadDone _ => true
  | .keepResidentWrite _ _ _ => true
  | .lookSlotSelect _ _ _ => true
  | .calibrationCommit _ _ => true
  | .revertStaging _ _ _ => true
  | .tableHeaderWrite _ _ _ => true
  | .tableDataWrite _ _ _ => true
  | .tableSeal _ _ _ => true
  | .tableGenerate _ _ _ => true
  | .colourRecordIssue _ => true
  | .outputOrigin _ _ => true
  | .lineFetch _ => true
  | .lineCommitInstant _ _ => true
  | .outputFrameBoundary _ => true
  | .lockGroupSignal _ _ _ _ => true
  | .twinSignature _ _ _ _ => true
  | .sdiInputFrame _ _ _ _ _ => true
  | .sdiInputState _ _ _ => true
  | .sdiInputHoldEnd _ => true
  | .edpEnable _ => true
  | .edpDisable _ => true
  | .edpHpdHigh _ _ _ => true
  | .edpHpdTimeout _ => true
  | .edpTrainingDone _ _ => true
  | .edpHpdIrq _ _ => true
  | .edpUnplug _ => true
  | .st2110PacketSend _ _ _ => true
  | .st2110AncSend _ => true
  | .st2110AudioSend _ => true
  | .encodePictureStart _ => true
  | .encodePictureDone _ => true
  | .markKeep _ _ _ => true
  | .markRelease _ _ => true
  | .recoveryRefresh _ => true
  | .recoveryFromMark _ _ => true
  | .lossReport _ _ => true
  | .decodePictureStart _ _ _ => true
  | .decodePictureDone _ _ => true
  | .pictureDue _ => true
  | .decodeSeek _ => true
  | .rawStripeCoded _ _ => true
  | .rawExpandFrameBlock _ _ => true
  | .rawExpandBlock _ _ => true
  | .compressJob _ desc _ _ => desc.length == 32
  | .expandJob _ desc _ _ => desc.length == 32
  | .heldTailDiscard _ => true
  | .ringHold _ _ => true
  | .ringRelease _ _ => true
  | .ringExtract _ _ _ _ => true
  | .mqWrite _ entry _ _ => entry.length == 64
  | .mqRead _ entry _ => entry.length == 64
  | .mqFlush _ entry => entry.length == 64
  | .mqBufferSpaceFreed _ => true
  | .driveCommandDone _ _ _ _ _ _ => true
  | .driveTimeout _ => true
  | .queueRestart _ _ => true
  | .queueReset _ _ => true
  | .queueResetDone _ => true
  | .cqHeadWrite _ _ => true
  | .errorLogRead _ => true
  | .volumeCreate _ => true
  | .volumeAttach _ => true
  | .attachDriveReady _ _ _ => true
  | .volumeDetach => true
  | .volumeRebuild => true
  | .rebuildComplete => true
  | .clipDelete _ => true
  | .journalCommit => true
  | .recordCheckpoint _ => true
  | .playbackFeedStart _ _ => true
  | .lostRangesClear _ => true
  | .patrolScrub _ _ _ _ _ => true
  | .rankMigrate _ => true
  | .migrationBlockDone _ _ => true
  | .rankRetest _ => true
  | .retestDone _ _ _ => true
  | .rankMarginScan _ => true
  | .marginScanDone _ => true
  | .dramInitDone => true
  | .refreshRateChange _ => true
  | .dqsDriftCheck => true
  | .trainingCacheClear _ => true
  | .audioBlock _ _ _ _ => true
  | .audioClockLoss _ _ => true
  | .audioClockRestored _ => true
  | .quadratureCount _ _ _ => true
  | .toothEdge _ _ => true
  | .sincosSample _ _ _ => true
  | .indexLatch _ _ => true
  | .referenceArm _ => true
  | .positionCorrect _ _ => true
  | .positionShift _ _ => true
  | .probeLatch _ _ => true
  | .probeFifoRead _ => true
  | .speedUpdate _ => true
  | .stopTimeout _ => true
  | .positionClearFlags _ => true
  | .mbGo _ message _ => decide (message.length ≤ 64)
  | .mbAccept _ => true
  | .mbPop _ => true
  | .mbCancel _ => true
  | .relayForward _ => true
  | .epPerstAssert => true
  | .standbyCommand => true
  | .standbyFramesDrained => true
  | .standbyFlushDone => true
  | .domainWait _ _ => true
  | .domainExitDone _ => true
  | .activeCommand => true
  | .dormantCommand => true
  | .wakeFrameWake _ frame _ => frame.wf
  | .wakeFramePing _ frame => frame.wf
  | .wakeTioEdge _ _ _ => true
  | .wakeAlarm _ => true
  | .wakeEpPerst _ => true
  | .coreSensorSample _ _ => true
  | .dramSensorSample _ _ => true
  | .tspSample _ => true
  | .thermalLoopTick => true
  | .tripHoldCheck _ => true
  | .garosLinkHello _ _ _ _ fwHash => fwHash.length == 8
  | .garosControlFrame _ _ _ _ _ _ => true
  | .garosControlResend _ => true
  | .garosStoreFrame _ _ _ _ groups _ _ => groups.all fun g => g.px.length == 16
  | .garosWindowFrame _ _ _ _ _ => true
  | .garosMarkerSend _ => true
  | .garosTimeMarker _ _ _ _ _ => true
  | .marionetteSend _ => true
  | .marionetteReceive _ heartbeat => heartbeat.length == 96
  | .marionetteMiss _ => true
  | .partnerLinkDownTimeout _ => true
  | .partnerHeartbeatSilent => true
  | .partnerLost _ => true
  | .takeoverInstant => true
  | .twinTakeover _ => true
  | .twinResync _ => true
  | .mirroredUnit _ _ _ => true
  | .generationClose _ _ => true
  | .standbyNotice _ => true
  | .arrayFormationTimeout => true
  | .twinFormationWindow => true
  | .felleyLinkHello _ _ _ _ _ _ => true
  | .felleyControlFrame _ _ _ _ _ => true
  | .felleyControlResend => true
  | .felleyStreamSend _ => true
  | .felleyStreamFrame _ _ _ _ _ _ => true
  | .felleyFrameInfo _ info => info.length == 64
  | .felleyTimeMarker _ _ _ _ => true
  | .upstreamManifestTimeout _ => true
  | .felleyCalibrate _ => true
  | .felleyCalibrationDone => true
  | .felleyRestart _ => true
  | .selfTestReplica _ => true
  | .selfTestTroupe _ => true
  | .selfTestRfe _ => true
  | .selfTestFuse => true
  | .selfTestMram => true
  | .selfTestSensors => true
  | .selfTestLoopback _ => true
  | .selfTestDone _ _ => true
  | .eventLogWrite => true
  | .eventRecordRead _ _ => true
  | .eventCursorWrite _ _ => true
  | .eventAcknowledge _ => true
  | .eventErase _ => true
  | .interruptPendingRead _ _ => true
  | .resetNRise _ => true
  | .warmResetComplete => true
  | .domainResetComplete _ => true
  | .overvoltageEpisodeStart _ => true
  | .railOutOfRegulation => true
  | .referenceRestored _ => true
  | .driveLinkDown _ => true
  | .dhcpv4Lease _ => true
  | .endpointLinkUp => true
  | .edpBacklightOn _ => true

end Sys2Proof
end

