-- ==== Sys2Proof/Certificates/Slice0/Obligations.lean ====
section
/-!
DEFINITION. Sys2Proof/Certificates/Slice0/Obligations.lean: what is claimed of the block, for the provers.
-/

open Sys2Proof Sys2Proof.Machine

/-- A command with the queue's rest (tier 1): a step of a state with command c at the front of its queue is exec of c on the state with the rest. -/
def Obligations.StepRunsTheFrontCommand : Prop :=
  ∀ (s : State) (c : Instr) (rest : List Instr), step { s with pending := c :: rest } = exec c { s with pending := rest }

/-- On an empty queue a tick of the 500 MHz clock goes by (the model's choice, log entry 2): uptime rises by 2 ns and no fuse changes; a block without
power stays as it is, and in Dormant only the counters move. -/
def Obligations.AnEmptyQueueTicks : Prop :=
  ∀ s : State, s.pending = [] → ∃ t, step s = .next t ∧ t.pending = [] ∧ t.otp = s.otp ∧
    (s.sys.boot.phase ≠ .off → t.sys.up = s.sys.up + 2 ∧ t.sys.t96 = (s.sys.t96 + s.sys.rd (ent 0x2300 3)) % 2 ^ 96) ∧
    (s.sys.boot.phase = .off → t = s) ∧
    (s.sys.boot.phase = .dormant → t.sys = { s.sys with up := t.sys.up, t96 := t.sys.t96 })

/-- The queue is first in, first out, and no command stops the block: after as many steps as commands were taken, those commands are gone from the
front, the others still wait in their order, and nothing that was fused has gone. -/
def Obligations.TheQueueRunsInItsOrder : Prop :=
  ∀ (s : State) (k : Nat), k ≤ s.pending.length → ∃ t, steps k s = some t ∧ t.pending = s.pending.drop k ∧ Grown s.otp t.otp

/-- The state right after reset: the dictionary holds the values at delivery that its tables give (R123), the module serves, nothing is in flight and
nothing waits, memory lists nothing, and the fuse array is one that the module may hold. -/
def Obligations.ResetHoldsTheDeliveredValues : Prop :=
  (∀ p ∈ ([(0x2200, 1, 0), (0x2200, 2, 12), (0x2200, 3, 20), (0x2200, 4, 9500), (0x2200, 5, 9500), (0x2200, 6, 5000), (0x2200, 7, 5500),
      (0x2200, 8, 7500), (0x2200, 9, 7500), (0x2202, 4, 225), (0x2000, 1, 860), (0x2000, 3, 700), (0x1100, 1, 32), (0x1100, 2, 100), (0x1103, 2, 60),
      (0x2301, 5, 10), (0x2301, 6, 10000), (0x2302, 3, 127), (0x2302, 4, 128), (0x2320, 5, 100000), (0x2400, 1, 3), (0x2400, 6, 80),
      (0x2480, 1, 20625000), (0x3000, 1, 0), (0x3000, 5, 4096), (0x3000, 6, 2160), (0x3000, 8, 41666667), (0x3400, 7, 255), (0x3800, 1, 255),
      (0x3C10, 3, 5600), (0x4000, 1, 64), (0x4100, 6, 1), (0x4120, 1, 11), (0x4400, 7, 3), (0x4440, 12, 4), (0x4800, 7, 32), (0x4900, 1, 2),
      (0x4901, 1, 0), (0x4948, 6, 2000), (0x4950, 1, 16), (0x4B00, 7, 24), (0x2500, 5, 24), (0x2600, 0x1D, 100000), (0x2701, 1, 7), (0x2720, 2, 1),
      (0x2100, 8, 11500), (0x4C00, 1, 2), (0x4D00, 7, 5), (0x1310, 1, 16)] : List (Nat × Nat × Nat)),
    State.reset.sys.rd (ent p.1 p.2.1) = p.2.2) ∧
  State.reset.pending = [] ∧ State.reset.sys.dram = [] ∧ State.reset.sys.tx = [] ∧ State.reset.sys.frames = [] ∧
  State.reset.sys.log.pending = [] ∧ State.reset.sys.mailboxes = [] ∧ State.reset.sys.boot.phase = .running ∧ FuseInv State.reset.otp

/-- The fuse array (R167, R178): whatever a step does, state fuses stay 1 to 6 and are programmed once each, no group holds more changes than it has
fuses, and nothing that was fused is ever undone. -/
def Obligations.FusesStayLegalAndOnlyGrow : Prop :=
  ∀ s t : State, step s = .next t → (FuseInv s.otp → FuseInv t.otp) ∧ Grown s.otp t.otp

/-- R753: up to 256 records wait for their MRAM write; one that finds the buffer full is dropped and counted; when space returns, event 0x0132 is
logged with the number dropped; an event inside its rate limit reaches neither the buffer nor the count. -/
def Obligations.TheEventBufferHolds256Records : Prop :=
  (∀ (y : Sys) (code source : Nat) (data : Bytes), y.log.pending.length < 256 →
    (y.raise code source data).log.pending = y.log.pending ++ [⟨y.t96, code, severity code, source, data⟩] ∧
    (y.raise code source data).log.dropped = y.log.dropped) ∧
  (∀ (y : Sys) (code source : Nat) (data : Bytes), 256 ≤ y.log.pending.length →
    (y.raise code source data).log.pending = y.log.pending ∧ (y.raise code source data).log.dropped = y.log.dropped + 1) ∧
  (∀ (y : Sys) (key code source : Nat) (data : Bytes), y.limitedNow code key = true → y.raiseLimited key code source data = y) ∧
  (∀ (s : State) (r : EventRecord) (rest : List EventRecord), s.sys.boot.phase = .running → s.sys.log.pending = r :: rest → rest.length < 256 →
    s.sys.log.dropped ≠ 0 → Completes .eventLogWrite s fun t =>
      t.sys.log.pending = rest ++ [⟨s.sys.t96, 0x0132, severity 0x0132, 255, ev [(0, 4, s.sys.log.dropped)]⟩] ∧ t.sys.log.dropped = 0)

/-- R59: when sources ask for throttling at once, the skip count is the largest count that any of them asks for, and 0x2202:02 shows those that ask:
bit 0 the thermal manager, bit 1 the supply cap, bit 2 the power limit. While the count is above 0, the governor's window raises no rail that stands
at its floor or above (R36). -/
def Obligations.TheSkipCountIsTheLargestRequest : Prop :=
  (∀ y : Sys, let z := y.updateSkip
    let asks : List Nat := [y.rd (ent 0x2101 5), y.sup.kCap, y.sup.kPwr]
    z.rd (ent 0x2202 1) ∈ asks ∧ (∀ k ∈ asks, k ≤ z.rd (ent 0x2202 1)) ∧
    (∀ i, i < 3 → z.rdBit (ent 0x2202 2) i = (asks.getD i 0 != 0)) ∧ z.rd (ent 0x2202 2) < 8) ∧
  (∀ s : State, s.sys.rd (ent 0x2202 1) ≠ 0 → (∀ r, s.sys.rd (floorKey r) ≤ s.sys.rd (railKey r)) →
    Completes .governorWindow s fun t => ∀ r, t.sys.rd (railKey r) ≤ s.sys.rd (railKey r))

/-- R606: a destination's buffer holds 8,192 sample frames; frames that arrive at a full one are discarded and counted, and event 0x1107 is raised
(within its rate limit, R615). -/
def Obligations.AFullAudioBufferDiscardsWhatArrives : Prop :=
  ∀ (y : Sys) (n : Nat) (l : List ASample), (y.aout n).buf.length ≤ 8192 →
    let z := y.apArrive (.port n) l
    let lost := (y.aout n).buf.length + l.length - 8192
    (z.aout n).buf = ((y.aout n).buf ++ l).take 8192 ∧
    z.rd (ent (0x2530 + n) 0x0B) = (y.rd (ent (0x2530 + n) 0x0B) + lost) % 2 ^ 32 ∧
    (lost = 0 → z.log = y.log) ∧
    (lost ≠ 0 → y.limitedNow 0x1107 n = false → y.log.pending.length < 256 →
      z.log.pending = y.log.pending ++ [⟨y.t96, 0x1107, severity 0x1107, n, ev [(0, 1, n), (4, 4, lost)]⟩])

/-- R100: a write that sets the warning level at or above the present VIN less 0.3 V is refused, and the entry keeps its value; 0 in 0x2001:01 stands
for no sample yet (the model's choice, log entry 39). -/
def Obligations.TheWarningLevelStaysBelowTheSupply : Prop :=
  ∀ (s : State) (w : Writer) (n : BitVec 16), s.sys.rd (ent 0x2001 1) ≠ 0 → s.sys.rd (ent 0x2001 1) ≤ n.toNat + 30 →
    (s.sys.arrival s.otp w (ent 0x2000 1) (le 2 n.toNat)).1 ≠ .ok ∧
    Completes (.entryWrite w (BitVec.ofNat 24 (ent 0x2000 1)) (le 2 n.toNat)) s fun t =>
      t.sys.rd (ent 0x2000 1) = s.sys.rd (ent 0x2000 1) ∧ t.otp = s.otp ∧ t.pending = s.pending

/-- DRAM (R566): what is written is read back, every other byte reads as before, and the cells keep their canonical form. -/
def Obligations.DramReadsBackWhatWasWritten : Prop :=
  ∀ (y : Sys) (a : Nat) (b : Bytes),
    (y.dramWr a b).dramRd a b.length = b ∧
    (∀ c, c < a ∨ a + b.length ≤ c → (y.dramWr a b).dramRd c 1 = y.dramRd c 1) ∧
    (twf (fun _ => (0 : Byte)) y.dram = true → twf (fun _ => (0 : Byte)) (y.dramWr a b).dram = true) ∧
    SameBut [.dram, .mem] (only []) (only []) y (y.dramWr a b)

/-- The supply monitor's episodes (R98, R99, R102 to R105): entering low-input operation sets LOW_INPUT and logs 0x0101; leaving it clears the flag
and takes k_cap to 0, after which the skip count is the largest of the other two requests (R59); a VIN sample above 60 V opens an overvoltage episode,
whose end clears OVERVOLTAGE and logs 0x0105 once with the highest VIN; OVERVOLTAGE is set by a sample above 60 V and cleared by any other. Each names
all it changes, with no frame in flight where the skip count may change. The current limit (R97): engaging counts in 0x2001:0A and holds both rails; the
release hands them back at the voltages they have, never below 0.50 V or above the set points, logs 0x0104 with them, and goes on from the multiples of
2.5 mV at or below them (R46). The input switch closes again; hold-up ends with
AON off (R98, R111); a rail out of regulation takes PWR_GOOD low (R118). -/
def Obligations.SupplyEpisodesFlagLogAndHandBack : Prop :=
  ((∀ (s : State) (vin : BitVec 16), s.sys.rdBit (ent 0x2001 4) 0 = false → Room s →
    Completes (.lowInputEnter vin) s fun t =>
      t.sys.rdBit (ent 0x2001 4) 0 = true ∧ t.sys.rd (ent 0x2001 1) = vin.toNat ∧ Logs s t 0x0101 255 (ev [(0, 2, vin.toNat)]) ∧
      Leaves [.sup, .log] (only [ent 0x2001 1, ent 0x2001 4, ent 0x2001 7, ent 0x2001 8]) (only []) s t) ∧
  (∀ (s : State) (vin : BitVec 16), s.sys.rdBit (ent 0x2001 4) 0 = true →
    Completes (.lowInputLeave vin) s fun t =>
      t.sys.rdBit (ent 0x2001 4) 0 = false ∧ t.sys.rdBit (ent 0x2001 4) 2 = false ∧ t.sys.sup.kCap = 0 ∧
      t.sys.rd (ent 0x2202 1) = max (s.sys.rd (ent 0x2101 5)) s.sys.sup.kPwr ∧ t.otp = s.otp ∧ t.pending = s.pending ∧
      (s.sys.frames = [] → Leaves [.sup] (only [ent 0x2001 1, ent 0x2001 4, ent 0x2001 7, ent 0x2001 8, ent 0x2202 1, ent 0x2202 2]) (only []) s t)) ∧
  (∀ (s : State) (vin : BitVec 16), 6000 < vin.toNat →
    Completes (.overvoltageEpisodeStart vin) s fun t =>
      t.sys.rdBit (ent 0x2001 4) 3 = true ∧ t.sys.sup.ovMax = max s.sys.sup.ovMax vin.toNat ∧ t.sys.rd (ent 0x2001 1) = vin.toNat ∧
      Leaves [.sup] (only [ent 0x2001 1, ent 0x2001 4, ent 0x2001 7, ent 0x2001 8]) (only []) s t) ∧
  (∀ (s : State) (highest above : BitVec 16), s.sys.sup.ovMax ≠ 0 → Room s →
    Completes (.overvoltageEpisodeEnd highest above) s fun t =>
      t.sys.sup = { s.sys.sup with ovMax := 0 } ∧ t.sys.rdBit (ent 0x2001 4) 3 = false ∧
      Logs s t 0x0105 255 (ev [(0, 2, max highest.toNat s.sys.sup.ovMax), (2, 2, above.toNat), (4, 1, 0)]) ∧
      t.sys.rd (ent 0x2001 8) = max (max highest.toNat s.sys.sup.ovMax) (s.sys.rd (ent 0x2001 8)) ∧
      Leaves [.sup, .log] (only [ent 0x2001 4, ent 0x2001 7, ent 0x2001 8]) (only []) s t) ∧
  (∀ (y : Sys) (v : Nat), (y.vinSample v).rdBit (ent 0x2001 4) 3 = decide (6000 < v) ∧ (y.vinSample v).rd (ent 0x2001 1) = v ∧
    SameBut [] (only [ent 0x2001 1, ent 0x2001 4, ent 0x2001 7, ent 0x2001 8]) (only []) y (y.vinSample v))) ∧
  ((∀ (s : State) (vin : BitVec 16), s.sys.gov.limited = false →
    Completes (.currentLimitEngage vin) s fun t =>
      t.sys.gov = { s.sys.gov with limited := true } ∧ t.sys.rdBit (ent 0x2001 4) 4 = true ∧
      t.sys.rd (ent 0x2001 0x0A) = (s.sys.rd (ent 0x2001 0x0A) + 1) % 2 ^ 32 ∧
      Leaves [.gov] (only [ent 0x2001 1, ent 0x2001 4, ent 0x2001 7, ent 0x2001 8, ent 0x2001 0x0A]) (only []) s t) ∧
  (∀ (s : State) (vin coreT coreS : BitVec 16), s.sys.gov.limited = true → Room s →
    Completes (.currentLimitRelease vin coreT coreS) s fun t =>
      let v := max 5000 (min coreT.toNat (s.sys.rd (ent 0x2201 1)))
      let w := max 5000 (min coreS.toNat (s.sys.rd (ent 0x2201 2)))
      t.sys.gov = { s.sys.gov with limited := false } ∧ t.sys.rd (ent 0x2201 1) = v / 25 * 25 ∧
      t.sys.rd (ent 0x2201 2) = w / 25 * 25 ∧ t.sys.rdBit (ent 0x2001 4) 4 = false ∧ Logs s t 0x0104 255 (ev [(0, 2, vin.toNat), (2, 2, v), (4, 2, w)]) ∧
      Leaves [.gov, .log] (only [ent 0x2001 1, ent 0x2001 4, ent 0x2001 7, ent 0x2001 8, ent 0x2201 1, ent 0x2201 2]) (only []) s t) ∧
  (∀ s : State, Completes .inputSwitchClose s fun t =>
    t.sys.sup = { s.sys.sup with inputOpen := false } ∧ Leaves [.sup] (only []) (only []) s t) ∧
  (∀ s : State, s.sys.sup.holdUp = true → s.sys.boot.phase = .supplyReset →
    Completes .holdUpEnd s fun t =>
      t.sys.sup = { s.sys.sup with holdUp := false, aon := false } ∧ t.sys.boot = { s.sys.boot with phase := .off } ∧
      Leaves [.sup, .boot] (only []) (only []) s t) ∧
  (∀ s : State, Completes .railOutOfRegulation s fun t =>
    t.sys.boot = { s.sys.boot with pwrGood := false } ∧ Leaves [.boot] (only []) (only []) s t))

/-- The supply cap (R102, R103): above 31.0 A the request rises by one, to 12 at most, and the first rise of an episode logs
0x0106; below 29.0 A, once 10 ms have passed since the last change, it falls by one; the skip count is then the largest request (R59). The power
manager (R760): above the limit, and 10 ms after the last raise, its request rises by one to 12 at most; below 95 % of the limit, and 100 ms after the
last change, it falls by one; at 12 an over-limit tick raises nothing and restarts no count; the skip count then is the largest request (R59). With no
frame in flight, each names all it changes. -/
def Obligations.PowerRequestsFollowTheirReadings : Prop :=
  (∀ (s : State) (vin current : BitVec 16), s.sys.rdBit (ent 0x2001 4) 0 = true → Room s → s.sys.sup.kCap ≤ 12 →
    Completes (.supplyCapTick vin current) s fun t =>
      let k := if 3100 < current.toNat then min 12 (s.sys.sup.kCap + 1)
        else if current.toNat < 2900 ∧ 10 ≤ s.sys.sup.capAge + 1 then s.sys.sup.kCap - 1 else s.sys.sup.kCap
      t.sys.sup.kCap = k ∧ t.sys.rd (ent 0x2001 1) = vin.toNat ∧ t.sys.rd (ent 0x2001 2) = current.toNat ∧
      t.sys.rd (ent 0x2001 3) = min 65535 (vin.toNat * current.toNat / 1000) ∧
      (k ≠ s.sys.sup.kCap → t.sys.rd (ent 0x2202 1) = max (s.sys.rd (ent 0x2101 5)) (max k s.sys.sup.kPwr)) ∧
      (s.sys.frames = [] → (if 3100 < current.toNat ∧ s.sys.sup.kCap = 0 ∧ s.sys.sup.capTold = false then
        Logs s t 0x0106 255 (ev [(0, 2, vin.toNat), (2, 1, 1)]) else t.sys.log = s.sys.log) ∧
        Leaves [.sup, .log] (only [ent 0x2001 1, ent 0x2001 2, ent 0x2001 3, ent 0x2001 4, ent 0x2001 7, ent 0x2001 8, ent 0x2202 1, ent 0x2202 2])
          (only []) s t)) ∧
  (∀ (s : State) (power : BitVec 16),
    Completes (.powerManagerTick power) s fun t =>
      let limit := 10 * s.sys.rd (ent 0x2202 4)
      let up := decide (limit < power.toNat ∧ 10 ≤ s.sys.sup.pwrRaiseAge + 1)
      let down := decide (20 * power.toNat < 19 * limit ∧ 100 ≤ s.sys.sup.pwrChangeAge + 1)
      let k := if up then max s.sys.sup.kPwr (min 12 (s.sys.sup.kPwr + 1)) else if down then s.sys.sup.kPwr - 1 else s.sys.sup.kPwr
      t.sys.sup = { s.sys.sup with
        kPwr := k
        pwrRaiseAge := if up && k != s.sys.sup.kPwr then 0 else s.sys.sup.pwrRaiseAge + 1
        pwrChangeAge := if k != s.sys.sup.kPwr then 0 else s.sys.sup.pwrChangeAge + 1 } ∧
      (k ≠ s.sys.sup.kPwr → t.sys.rd (ent 0x2202 1) = max (s.sys.rd (ent 0x2101 5)) (max s.sys.sup.kCap k)) ∧ t.otp = s.otp ∧ t.pending = s.pending ∧
      (s.sys.frames = [] → Leaves [.sup] (only [ent 0x2202 1, ent 0x2202 2, ent 0x2001 4]) (only []) s t))

/-- Resets begin (R111 to R113, R116): each kind asserts its reset with the cause of its row, holds HEARTBEAT low, and ends what was in flight; a
supply reset also takes PWR_GOOD low, loses DRAM and runs on hold-up; RESET_N held for 100 ms makes a cold reset, and loses DRAM too. DRAM training
ends (R588, R590): on results that the cache of this module, its packages and this firmware holds, or after full training, with at least 16 mapped
ranks trained, power-up goes on to step 8 with the mode of training, and completes a life-cycle transition that a reset cut short (R168); with fewer
the module stays in reset. A warm reset ends (R113, R114) once RESET_N is high; one of a module that was not running returns it to where it stood
(R112). -/
def Obligations.ResetsBeginWithTheirCausesAndEndInService : Prop :=
  ((∀ (s : State) (vin : BitVec 16), s.sys.boot.phase ≠ .off → s.sys.boot.phase ≠ .supplyReset →
    Completes (.supplyReset vin) s fun t =>
      t.sys.boot.phase = .supplyReset ∧ t.sys.boot.cause = 1 ∧ t.sys.sup.holdUp = true ∧ t.sys.boot.heartbeat = false ∧
      t.sys.boot.pwrGood = false ∧ t.sys.dram = [] ∧ t.otp = s.otp ∧ t.pending = s.pending) ∧
  (∀ (s : State) (vin highest above : BitVec 16), s.sys.boot.phase ≠ .off → s.sys.boot.phase ≠ .supplyReset →
    Completes (.inputSwitchOpen vin highest above) s fun t =>
      t.sys.boot.phase = .supplyReset ∧ t.sys.boot.cause = 7 ∧ t.sys.sup.holdUp = true ∧ t.sys.boot.heartbeat = false ∧
      t.sys.boot.pwrGood = false ∧ t.sys.dram = [] ∧ t.otp = s.otp ∧ t.pending = s.pending) ∧
  (∀ s : State, s.sys.boot.phase = .running →
    Completes .resetNFall s fun t =>
      t.sys.boot.phase = .warmReset ∧ t.sys.boot.cause = 2 ∧ t.sys.boot.heartbeat = false ∧ t.sys.frames = [] ∧ t.otp = s.otp ∧
      t.pending = s.pending) ∧
  (∀ s : State, s.sys.boot.resetNLow = true → s.sys.boot.phase = .warmReset ∨ s.sys.boot.phase = .coldReset →
    Completes .resetNHeld s fun t =>
      t.sys.boot.phase = .coldReset ∧ t.sys.boot.cause = 3 ∧ t.sys.boot.heartbeat = false ∧ t.sys.dram = [] ∧ t.otp = s.otp ∧
      t.pending = s.pending) ∧
  (∀ s : State, s.sys.boot.phase = .running →
    Completes .resetCommandWarm s fun t =>
      t.sys.boot.phase = .warmReset ∧ t.sys.boot.cause = 4 ∧ t.sys.boot.heartbeat = false ∧ t.sys.frames = [] ∧ t.otp = s.otp ∧
      t.pending = s.pending) ∧
  (∀ (s : State) (core : Fin 16), s.sys.boot.phase = .running →
    Completes (.watchdogTimeout core) s fun t =>
      t.sys.boot.phase = .warmReset ∧ t.sys.boot.cause = 8 ∧ t.sys.boot.heartbeat = false ∧ t.sys.frames = [] ∧ t.otp = s.otp ∧
      t.pending = s.pending)) ∧
  ((∀ (s : State) (ids : Bytes) (firmware : BitVec 32) (band : Fin 4) (ok : Bool) (failed : BitVec 36) (ms : BitVec 32),
    s.sys.boot.phase = .training → ids.length = 72 →
    let fault := s.sys.cacheFault s.otp ids firmware.toNat band.val ok
    let bad (p : Nat) : Bool := fault.isSome && failed.toNat / 16 ^ p % 16 != 0
    let y := s.sys.takeTraining s.otp ids firmware.toNat band.val failed.toNat ms.toNat fault bad
    y.ranksMapped bad = true →
      Programs (.dramTrainingComplete ids firmware band ok failed ms) s
        ((((y.report 7 7 true ms.toNat).raise 0x100B 255 (ev [(0, 1, if fault.isSome then 1 else 0), (1, 1, band.val), (4, 4, ms.toNat)])).bootComplete
          s.otp (if fault.isSome then 1 else 0)).finishTransition s.otp)) ∧
  (∀ (s : State) (ids : Bytes) (firmware : BitVec 32) (band : Fin 4) (ok : Bool) (failed : BitVec 36) (ms : BitVec 32),
    s.sys.boot.phase = .training → ids.length = 72 →
    let fault := s.sys.cacheFault s.otp ids firmware.toNat band.val ok
    let bad (p : Nat) : Bool := fault.isSome && failed.toNat / 16 ^ p % 16 != 0
    let y := s.sys.takeTraining s.otp ids firmware.toNat band.val failed.toNat ms.toNat fault bad
    y.ranksMapped bad = false →
      Completes (.dramTrainingComplete ids firmware band ok failed ms) s fun t =>
        t.sys.boot.phase = .failed ∧ t.otp = s.otp ∧ t.pending = s.pending) ∧
  (∀ (s : State) (ids : Bytes) (firmware : BitVec 32) (band : Fin 4),
    s.sys.mram.training.lookup band.val = some (s.otp.dieId, ids, firmware.toNat) →
    s.sys.cacheFault s.otp ids firmware.toNat band.val true = none) ∧
  (∀ s : State, s.sys.boot.phase = .warmReset → s.sys.boot.resetNLow = false → s.sys.boot.warmFrom = .running →
    Programs .warmResetComplete s ((s.sys.warmEnd s.otp).finishTransition s.otp)) ∧
  (∀ s : State, s.sys.boot.phase = .warmReset → s.sys.boot.resetNLow = false → s.sys.boot.warmFrom ≠ .running → s.sys.boot.warmFrom ≠ .dormant →
    Completes .warmResetComplete s fun t =>
      t.sys.boot = { s.sys.boot with phase := s.sys.boot.warmFrom } ∧ t.sys.rd (ent 0x2003 9) = (s.sys.rd (ent 0x2003 9) + 1) % 2 ^ 32 ∧
      Leaves [.boot] (only [ent 0x2003 9]) (only []) s t) ∧
  (∀ (o : Otp) (y : Sys), (y.finishTransition o = ([], y) ↔ y.mram.transition = none) ∧
    (∀ n, y.mram.transition = some n → (y.finishTransition o).2.mram.transition = none ∧ (y.finishTransition o).1 = transitionFuses n)))

/-- Power-up (R99, R108 to R113): VIN of 9.0 V or more brings the module up with the cause of the reset before it, from the saved time where AON was
off; after a thermal trip it is the wake request that the trip hold waits for (R673). A commanded cold reset and the rising RESET_N of a cold reset
power it up again. Each power-up samples the straps and takes its cause; with BOOT_SRC = 1 it waits for the host's image, and else runs the image of
the active bank if that verifies. The host's image runs as image 2 if it verifies and stays out if not, and its absence logs 0x010C once (R110). -/
def Obligations.PowerUpRunsFromItsCause : Prop :=
  (∀ (s : State) (vin : BitVec 16) (b : BootInputs), s.sys.sup.inputOpen = false → s.sys.boot.phase = .off ∨ s.sys.boot.phase = .supplyReset →
    900 ≤ vin.toNat → s.sys.mram.tripped = none →
    Runs (.vinValid vin b) s
      ((Sys.bootUp s.otp (if s.sys.sup.aon then s.sys else s.sys.aonLost) b s.sys.boot.cause s.sys.sup.aon).vinSample vin.toNat)) ∧
  (∀ (s : State) (b : BootInputs), s.sys.boot.phase = .running →
    Runs (.resetCommandCold b) s (Sys.bootUp s.otp (s.sys.coldStart 5) b 5 true)) ∧
  (∀ (s : State) (b : BootInputs), s.sys.boot.phase = .coldReset →
    Runs (.resetNRise b) s (Sys.bootUp s.otp { s.sys with boot := { s.sys.boot with resetNLow := false } } b s.sys.boot.cause true)) ∧
  (∀ (o : Otp) (y : Sys) (b : BootInputs) (cause : Nat) (kept : Bool), b.pins.getLsbD 5 = true →
    (Sys.bootUp o y b cause kept).boot.phase = .waitImage) ∧
  (∀ (s : State) (image : Firmware), s.sys.boot.phase = .waitImage → imageFault s.otp image = none →
    Completes (.hostFirmwareImage image []) s fun t =>
      t.sys.boot = { s.sys.boot with phase := .training, bank := 2, fwHash := fwHash image, fwEpoch := image.epoch.toNat } ∧
      t.sys.rd (ent 0x2003 4) = s.sys.mram.active ∧ Leaves [.boot, .tx] (only [ent 0x2003 4, ent 0x4B00 1]) (only []) s t) ∧
  (∀ s : State, s.sys.boot.phase = .waitImage → s.sys.boot.imageTimeout = false → Room s →
    Completes .hostFirmwareTimeout s fun t =>
      t.sys.boot = { s.sys.boot with imageTimeout := true } ∧ Logs s t 0x010C 255 [] ∧ Leaves [.boot, .log] (only []) (only []) s t) ∧
  (∀ (s : State) (image : Firmware) (fails : List (BitVec 3 × BitVec 16)) (r : Nat), s.sys.boot.phase = .waitImage →
    imageFault s.otp image = some r → Room s →
    Completes (.hostFirmwareImage image fails) s fun t =>
      t.sys.boot = s.sys.boot ∧ Logs s t 0x0501 255 (ev [(0, 1, 2), (1, 1, r), (2, 1, image.epoch.toNat), (3, 1, s.otp.epoch)]) ∧
      Leaves [.log, .tx] (only []) (only []) s t) ∧
  (∀ (s : State) (vin : BitVec 16) (b : BootInputs), s.sys.sup.inputOpen = false → s.sys.boot.phase = .off ∨ s.sys.boot.phase = .supplyReset →
    900 ≤ vin.toNat → s.sys.mram.tripped ≠ none →
    Completes (.vinValid vin b) s fun t =>
      t.sys.boot.phase = .tripHold ∧ t.sys.power.asked = some ⟨7, 0, s.sys.up⟩ ∧ t.sys.sup.aon = true ∧ t.sys.sup.holdUp = false ∧
      t.sys.rd (ent 0x2001 1) = vin.toNat ∧ t.otp = s.otp ∧ t.pending = s.pending) ∧
  (∀ (o : Otp) (y : Sys) (b : BootInputs) (cause : Nat) (kept : Bool), b.fails = [] →
    let z := Sys.bootUp o y b cause kept
    let straps := b.pins.toNat % 64
    z.boot.cause = cause ∧ z.boot.startAt = y.up ∧ z.t96 = y.t96 ∧ z.up = y.up ∧
    (z.boot.strapFault = true ↔ b.opens ≠ 0 ∨ strapsLegal straps = false) ∧
    z.rd (ent 0x2010 1) = putBit straps 6 z.boot.strapFault ∧ z.rd (ent 0x2010 2) = b.opens.toNat ∧
    (b.pins.getLsbD 5 = false → imageFault o (y.bankImage y.mram.active) = none →
      z.boot.phase = .training ∧ z.boot.bank = y.mram.active ∧ z.boot.fwHash = fwHash (y.bankImage y.mram.active))) ∧
  (∀ (y : Sys), y.aonLost.t96 = y.mram.savedTime)

/-- The governor's window (R53): with AUTO mode, no current limit and no prediction that stands, each rail rises by 2.5 mV for every 0.5 % of shortfall,
eight steps and its ceiling at most, is held while a power limit is active, and falls by 2.5 mV to its floor at least after eight calm windows, unless that would raise it under a limit
(R36); a
window without a report is calm. A rail that stands above its ceiling is not in question. A ceiling (R67, R68): a value off the 2.5 mV grid, outside
0.60 V to 0.95 V or below the rail's floor is refused; an admitted one is the ceiling from its commit on, and a rail above it falls to it at once. -/
def Obligations.GovernorMovesTheRails : Prop :=
  (∀ s : State, s.sys.rd (ent 0x2200 1) = 0 → s.sys.gov.limited = false → (∀ r, (s.sys.rail r).watches = []) →
    (∀ r, s.sys.rd (railKey r) ≤ s.sys.rd (ceilKey r)) →
    Completes .governorWindow s fun t => ∀ r : RailName,
      let v := s.sys.rd (railKey r)
      let floor : Rat := (s.sys.rd (ent 0x2200 2) : Rat) / 100
      let upper : Rat := (s.sys.rd (ent 0x2200 3) : Rat) / 100
      let down := max (s.sys.rd (floorKey r)) (v - 25)
      let lowered := if 8 ≤ (s.sys.rail r).calm + 1 ∧ (s.sys.rd (ent 0x2202 1) = 0 ∨ down ≤ v) then down else v
      t.sys.rd (railKey r) = (match (s.sys.rail r).minSlack with
        | none => lowered
        | some m =>
          if m.rat < floor then
            (if s.sys.rd (ent 0x2202 1) ≠ 0 then v else min (s.sys.rd (ceilKey r)) (v + 25 * min 8 (Rat.ceil ((floor - m.rat) * 200)).toNat))
          else if upper < m.rat then lowered else v)) ∧
  (∀ (s : State) (w : Writer) (system : Bool) (value : BitVec 16), s.sys.govFixed = false →
    let r := if system then RailName.s else RailName.t
    Admitted s w (ceilKey r) (le 2 value.toNat) →
    Completes (.railCeilingWrite w system value) s fun t =>
      t.sys.rd (ceilKey r) = value.toNat ∧ t.sys.rd (railKey r) = min value.toNat (s.sys.rd (railKey r)) ∧ t.otp = s.otp ∧ t.pending = s.pending) ∧
  (∀ (s : State) (w : Writer) (r : RailName) (n : Nat), n < 65536 →
    n < 6000 ∨ 9500 < n ∨ n % 25 ≠ 0 ∨ n < s.sys.rd (floorKey r) → (s.sys.arrival s.otp w (ceilKey r) (le 2 n)).1 ≠ .ok)

/-- The thermal loops (R665, R668): in a running module a tick steps the three loops on T_die, T_dram and TSP, and 0x2101:05 shows the largest of their
requests; each step is the loop of the rule, temperatures in 0.01 °C; with TSP out of service the power-stage request falls by one every 100 ms. A
reading is stored in its entries whatever it decides, and while AON alone reads the sensors (R671) it decides nothing; T_die, its sensor and WARN follow
the hottest valid core reading (R667). A trip (R671) leaves the module in the trip hold with AON alone powered; it restarts as a cold reset once it
has been asked to and every valid reading is below its limit (R673), and does nothing while it is hot. A running module's sensor sample (R664, R665):
an excluded sensor returns to service, with event 0x0202, at its 10,000th agreeing sample in a row; a core sensor that is in service is excluded, with
event 0x0201, at its 100th sample in a row that is 20 °C off its neighbours' median, and any sensor at once when it gives no reading. -/
def Obligations.ThermalLoopsAndSensorsFollowTheirReadings : Prop :=
  ((∀ s : State, s.sys.boot.phase = .running →
    Completes .thermalLoopTick s fun t =>
      t.sys.thermal.core = s.sys.thermal.core.step (s.sys.rdI (ent 0x2101 1)) (s.sys.rdI (ent 0x2100 2)) (some (s.sys.rdI (ent 0x2100 3)))
        (if s.sys.rdBit (ent 0x2101 6) 5 then 6 else 0) ∧
      t.sys.thermal.dram = s.sys.thermal.dram.step (s.sys.rdI (ent 0x2101 3)) (s.sys.rdI (ent 0x2100 5)) none 0 ∧
      (s.sys.excluded 73 = false →
        t.sys.thermal.psu = s.sys.thermal.psu.step (s.sys.rdI (ent 0x2103 10)) (s.sys.rdI (ent 0x2100 8)) none 0) ∧
      (s.sys.excluded 73 = true →
        t.sys.thermal.psu.k = (if 100 ≤ s.sys.thermal.psuAge + 1 then s.sys.thermal.psu.k - 1 else s.sys.thermal.psu.k)) ∧
      t.otp = s.otp ∧ t.pending = s.pending ∧
      t.sys.rd (ent 0x2101 5) = max t.sys.thermal.core.k (max t.sys.thermal.dram.k t.sys.thermal.psu.k)) ∧
  (∀ (l : ThermalLoop) (t a : Int) (h : Option Int) (least : Nat),
    (l.step t a h least).k =
      if (∃ v, h = some v ∧ v ≤ t) then 12
      else if a ≤ t ∧ 10 ≤ l.raised + 1 then min 12 (l.k + 1)
      else if t < a - 300 ∧ 100 ≤ l.changed + 1 then max least (l.k - 1)
      else l.k)) ∧
  ((∀ (s : State) (n : Fin 64) (v : BitVec 32), s.sys.boot.phase ≠ .running →
    Runs (.coreSensorSample n (some v)) s (s.sys.wrI (ent 0x2102 (n.val + 1)) v.toInt)) ∧
  (∀ (s : State) (n : Fin 64) (p : Fin 9), s.sys.boot.phase ≠ .running →
    Runs (.coreSensorSample n none) s s.sys ∧ Runs (.dramSensorSample p none) s s.sys ∧ Runs (.tspSample none) s s.sys) ∧
  (∀ (s : State) (p : Fin 9) (v : BitVec 32), s.sys.boot.phase ≠ .running →
    Runs (.dramSensorSample p (some v)) s ((s.sys.wrI (ent (0x4B30 + p.val) 1) v.toInt).wrI (ent 0x2103 (p.val + 1)) v.toInt)) ∧
  (∀ (s : State) (v : BitVec 32), s.sys.boot.phase ≠ .running →
    Runs (.tspSample (some v)) s (s.sys.wrI (ent 0x2103 10) v.toInt)) ∧
  (∀ (s : State) (b : BootInputs) (n m : Nat) (t u : Int), s.sys.boot.phase = .tripHold → s.sys.power.asked ≠ none →
    hottest s.sys.validCore = some (n, t) → hottest s.sys.validDram = some (m, u) → t < 11000 → u < 10000 →
    let z := Sys.bootUp s.otp { s.sys with mram := { s.sys.mram with tripped := none } } b 6 true
    Runs (.tripHoldCheck b) s { z with boot := { z.boot with trip := s.sys.mram.tripped } }) ∧
  (∀ (s : State) (b : BootInputs) (n : Nat) (t : Int), hottest s.sys.validCore = some (n, t) → 11000 ≤ t →
    Runs (.tripHoldCheck b) s s.sys)) ∧
  ((∀ (y : Sys) (n : Nat) (v : Int), y.excluded n = true → -6000 ≤ v → v ≤ 17500 → y.disagrees n v = false →
    9999 ≤ (tget (fun _ => (⟨0, 0, 0⟩ : SensorRun)) y.thermal.runs n).good →
    (y.testSample n (some v)) = y.restoreSensor n ∧ (n < 73 → (y.restoreSensor n).excluded n = false)) ∧
  (∀ (y : Sys) (n : Nat) (v : Int), n < 64 → y.excluded n = false → -6000 ≤ v → v ≤ 17500 → y.disagrees n v = true →
    99 ≤ (tget (fun _ => (⟨0, 0, 0⟩ : SensorRun)) y.thermal.runs n).bad →
    (y.testSample n (some v)) = y.excludeSensor n 0 v ∧ (y.excludeSensor n 0 v).excluded n = true) ∧
  (∀ (y : Sys) (n : Nat), n < 74 → y.excluded n = false → y.testSample n none = y.excludeSensor n 2 (y.sensor n) ∧
    (y.excludeSensor n 2 (y.sensor n)).excluded n = true)) ∧
  ((∀ (s : State) (n : Fin 64) (v : Option (BitVec 32)), Completes (.coreSensorSample n v) s fun t =>
    t.sys.rdI (ent 0x2102 (n.val + 1)) = (v.map BitVec.toInt).getD (s.sys.rdI (ent 0x2102 (n.val + 1))) ∧ t.otp = s.otp ∧ t.pending = s.pending) ∧
  (∀ (s : State) (p : Fin 9) (v : Option (BitVec 32)), Completes (.dramSensorSample p v) s fun t =>
    t.sys.rdI (ent (0x4B30 + p.val) 1) = (v.map BitVec.toInt).getD (s.sys.rdI (ent (0x4B30 + p.val) 1)) ∧
    t.sys.rdI (ent 0x2103 (p.val + 1)) = (v.map BitVec.toInt).getD (s.sys.rdI (ent 0x2103 (p.val + 1))) ∧ t.otp = s.otp ∧ t.pending = s.pending) ∧
  (∀ (s : State) (v : Option (BitVec 32)), Completes (.tspSample v) s fun t =>
    t.sys.rdI (ent 0x2103 10) = (v.map BitVec.toInt).getD (s.sys.rdI (ent 0x2103 10)) ∧ t.otp = s.otp ∧ t.pending = s.pending) ∧
  (∀ (y : Sys) (n : Nat) (t : Int), y.hotCore = some (n, t) → -2147483648 ≤ t → t < 2147483648 →
    y.coreLevels.rdI (ent 0x2101 1) = t ∧ y.coreLevels.rd (ent 0x2101 2) = n ∧
    y.coreLevels.rdBit (ent 0x2101 6) 0 = levelNow (y.rdBit (ent 0x2101 6) 0) t (y.rdI (ent 0x2100 1))) ∧
  (∀ (y : Sys) (n : Nat) (t : Int), (y.thermalTrip n t).boot.phase = .tripHold ∧ (y.thermalTrip n t).boot.heartbeat = false ∧
    (y.thermalTrip n t).boot.pwrGood = false ∧ (y.thermalTrip n t).dram = [] ∧ (y.thermalTrip n t).mram.tripped.isSome = true ∧
    (y.thermalTrip n t).mram.savedTime = y.t96 ∧ ∀ d, d < 37 → (y.thermalTrip n t).domainRun d = false))

/-- Self-tests on demand (R749, R750): a test that may run takes the test slot and 0x1301:02 shows RUNNING; REPLICA, FUSE, MRAM, SENSORS and LOOPBACK
touch nothing else, and TROUPE and RFE fence their unit, at once where no context latches frames and at the next boundary otherwise. The end of a test
frees the slot, places the result in 0x1301:03 and logs 0x0130, and the sensors pass where each that counts agrees with its neighbours; a test of a Troupe or a raw front end counts as its retest, and a start while one runs
changes nothing. The fence without a context is the model's (log entry 47). Supply warning, domain resets and the core checks (R104, R105, R113,
R115, R116): a warning is counted and logged once, sheds what 0x2002 lists and commits the journal; its end is logged and ends the shedding; a domain
reset of a running domain stays in course until it completes; the heartbeat is on only while no core is silent and no strap fault
stands. -/
def Obligations.SelfTestsWarningsAndDomainResets : Prop :=
  ((∀ (s : State) (code i : Nat) (c : Instr), s.sys.boot.phase = .running → s.sys.boot.test = none →
    (c, code, i) ∈ [(.selfTestReplica false, 1, 0), (.selfTestReplica true, 1, 1), (.selfTestFuse, 4, 0), (.selfTestMram, 5, 0), (.selfTestSensors, 6, 0)] →
    Runs c s (Sys.wr { s.sys with boot := { s.sys.boot with test := some (code, i) } } (ent 0x1301 2) 1)) ∧
  (∀ (s : State) (q : Fin 8), s.sys.boot.phase = .running → s.sys.boot.test = none → s.sys.rd (ent (0x2488 + q.val) 1) = 0 →
    Runs (.selfTestLoopback q) s (Sys.wr { s.sys with boot := { s.sys.boot with test := some (7, q.val) } } (ent 0x1301 2) 1)) ∧
  (∀ (s : State) (t : Fin 24), s.sys.boot.phase = .running → s.sys.boot.test = none → s.sys.rd (ent (0x3860 + t.val) 1) = 0 → s.sys.lacking 2 t.val = none →
    let y := Sys.wr { s.sys with boot := { s.sys.boot with test := some (2, t.val) } } (ent 0x1301 2) 1
    Runs (.selfTestTroupe t) s (if (List.range 16).any y.latching then y else y.testFence)) ∧
  (∀ (s : State) (r : Fin 8), s.sys.boot.phase = .running → s.sys.boot.test = none → s.sys.rd (ent (0x3470 + r.val) 1) ≤ 1 → s.sys.lacking 3 r.val = none →
    let y := Sys.wr { s.sys with boot := { s.sys.boot with test := some (3, r.val) } } (ent 0x1301 2) 1
    Runs (.selfTestRfe r) s (if (List.range 16).any y.latching then y else y.testFence)) ∧
  (∀ (s : State) (c : Instr), s.sys.boot.test ≠ none → c ∈ [.selfTestReplica false, .selfTestReplica true, .selfTestFuse, .selfTestMram, .selfTestSensors] →
    Runs c s s.sys) ∧
  (∀ (s : State) (code i : Nat) (passed : Bool) (detail : BitVec 32), s.sys.boot.test = some (code, i) → code ≠ 2 → code ≠ 3 → code ≠ 6 →
    let b := pack 8 [(0, 1, code), (1, 1, i), (2, 1, if passed then 0 else 1), (4, 4, detail.toNat)]
    Runs (.selfTestDone passed detail) s
      (Sys.raiseSev ((Sys.wr { s.sys with boot := { s.sys.boot with test := none } } (ent 0x1301 2) 0).wrB (ent 0x1301 3) b)
        (if passed then 1 else 3) 0x0130 255 (slice b 0 16))) ∧
  (∀ (s : State) (i : Nat) (passed : Bool) (detail : BitVec 32), s.sys.boot.test = some (6, i) →
    Runs (.selfTestDone passed detail) s
      (s.sys.testEnd (if (List.range 73).all fun n => s.sys.excluded n || !s.sys.disagrees n (s.sys.sensor n) then 0 else 1) detail.toNat)) ∧
  (∀ (s : State) (i : Nat) (passed : Bool) (detail : BitVec 32),
    (s.sys.boot.test = some (2, i) → Runs (.selfTestDone passed detail) s ((s.sys.testEnd (if passed then 0 else 1) detail.toNat).troupeRetested i passed)) ∧
    (s.sys.boot.test = some (3, i) → Runs (.selfTestDone passed detail) s ((s.sys.testEnd (if passed then 0 else 1) detail.toNat).rfeRetested i passed)))) ∧
  ((∀ (s : State) (vin : BitVec 16), s.sys.rdBit (ent 0x2001 4) 1 = false → Room s →
    let y := (((s.sys.vinSample vin.toNat).supplyFlag .warning true).inc (ent 0x2001 5)).onSupply fun u =>
      { u with warnAt := s.sys.up, warnMinVin := vin.toNat, warnLost := s.sys.rd (ent 0x2001 9) }
    Runs (.supplyWarning vin) s
      ((y.raise 0x0102 255 (ev [(0, 2, vin.toNat), (2, 2, s.sys.rd (ent 0x2000 1)), (4, 1, if s.sys.shedAny then 1 else 0)])).commitJournal.shedNow)) ∧
  (∀ (s : State) (vin minVin : BitVec 16), s.sys.rdBit (ent 0x2001 4) 1 = true →
    Completes (.supplyWarningClear vin minVin) s fun t =>
      t.sys.rdBit (ent 0x2001 4) 1 = false ∧ t.sys.rd (ent 0x2002 7) = 0 ∧ t.sys.rd (ent 0x2001 1) = vin.toNat ∧
      t.sys.rd (ent 0x2001 6) = (s.sys.rd (ent 0x2001 6) + (s.sys.up - s.sys.sup.warnAt) / 1000) % 2 ^ 64 ∧ t.otp = s.otp ∧ t.pending = s.pending) ∧
  (∀ (s : State) (vin minVin : BitVec 16), s.sys.rdBit (ent 0x2001 4) 1 = true →
    let us := (s.sys.up - s.sys.sup.warnAt) / 1000
    let lost := (s.sys.rd (ent 0x2001 9) + 2 ^ 32 - s.sys.sup.warnLost) % 2 ^ 32
    let low := min minVin.toNat s.sys.sup.warnMinVin
    Runs (.supplyWarningClear vin minVin) s
      (Sys.setShed ((((((s.sys.vinSample vin.toNat).vinSeen low).supplyFlag .warning false).inc64 (ent 0x2001 6) us).raise 0x0103 255
        (ev [(0, 4, us), (4, 2, low), (6, 4, lost)])).wr (ent 0x2002 7) 0) fun _ => 0)) ∧
  (∀ (s : State), s.sys.boot.phase = .running → s.sys.rd (ent 0x2003 2) ≤ 34 → s.sys.domainRun (s.sys.rd (ent 0x2003 2)) = true →
    s.sys.rd (ent 0x2003 2) ∉ s.sys.boot.domainResets →
    Completes .resetCommandDomain s fun t =>
      t.sys.boot.domainResets = s.sys.boot.domainResets ++ [s.sys.rd (ent 0x2003 2)] ∧ t.otp = s.otp ∧ t.pending = s.pending) ∧
  (∀ (s : State) (d : Fin 35), d.val ∈ s.sys.boot.domainResets →
    Completes (.domainResetComplete d) s fun t =>
      t.sys.boot.domainResets = s.sys.boot.domainResets.filter (· != d.val) ∧ t.otp = s.otp ∧ t.pending = s.pending) ∧
  (∀ (s : State) (r : BitVec 15), s.sys.boot.phase = .running →
    Completes (.coreCheckTick r) s fun t =>
      (∀ c, c < 15 → tget (fun _ => 0) t.sys.boot.coreSilent c =
        if r.getLsbD c then 0 else tget (fun _ => 0) s.sys.boot.coreSilent c + 1) ∧
      (r = BitVec.allOnes 15 → s.sys.boot.coreSilent = [] → s.sys.boot.strapFault = false → t.sys.boot.heartbeat = true) ∧
      Leaves [.boot] (only []) (only []) s t))

/-- Mailboxes (R636 to R641, R643): a GO whose pair is in service, and whose module end runs, enters the inbox where it has room, with ACCEPTED set
and GO clear, and shows BUSY where it has none (unless the host's GO of the pair already waits with BUSY); a GO without WAKE to a module end that does
not run is refused with DOMAIN_OFF and event 0x1305, one on a pair that is out of service with DISABLED; POP releases the oldest message; CANCEL
withdraws a pending GO of an even mailbox; EP_PERST_N clears every mailbox. -/
def Obligations.MailboxesAcceptInOrder : Prop :=
  (∀ (s : State) (m : Fin 32) (msg : Bytes) (wake : Bool), (s.sys.mail m.val).go = false → s.sys.pairOn (m.val / 2) = true →
    (m.val % 2 = 0 → s.sys.domainRun (pairDomain (m.val / 2)) = true ∧ s.sys.rd (ent 0x2700 1) ≠ 2) → (s.sys.mail m.val).inbox.length < 4 →
    Completes (.mbGo m msg wake) s fun t =>
      (t.sys.mail m.val).go = false ∧ (t.sys.mail m.val).accepted = true ∧ (t.sys.mail m.val).busy = false ∧
      (t.sys.mail m.val).inbox = (s.sys.mail m.val).inbox ++ [slice msg 0 64] ∧
      (∀ k, k ≠ m.val → t.sys.mail k = s.sys.mail k) ∧ t.otp = s.otp ∧ t.pending = s.pending ∧ t.sys.dram = s.sys.dram) ∧
  (∀ (s : State) (m : Fin 32) (msg : Bytes) (wake : Bool), (s.sys.mail m.val).go = false → s.sys.pairOn (m.val / 2) = true → m.val % 2 = 0 →
    s.sys.domainRun (pairDomain (m.val / 2)) = true → s.sys.rd (ent 0x2700 1) ≠ 2 → 4 ≤ (s.sys.mail m.val).inbox.length →
    Completes (.mbGo m msg wake) s fun t =>
      (t.sys.mail m.val).go = true ∧ (t.sys.mail m.val).busy = true ∧ (t.sys.mail m.val).inbox = (s.sys.mail m.val).inbox ∧
      (t.sys.mail (m.val + 1)).busy = false) ∧
  (∀ (s : State) (m : Fin 32) (msg : Bytes) (wake : Bool), (s.sys.mail m.val).go = false →
    (s.sys.pairOn (m.val / 2) = false ∨ m.val % 2 = 0 ∧ s.sys.domainRun (pairDomain (m.val / 2)) = false ∧ wake = false) → Room s →
    Completes (.mbGo m msg wake) s fun t =>
      let cause := if s.sys.pairOn (m.val / 2) then 0 else 1
      (t.sys.mail m.val).go = false ∧ (t.sys.mail m.val).error = (if s.sys.pairOn (m.val / 2) then 1 else 2) ∧
      (t.sys.mail m.val).inbox = (s.sys.mail m.val).inbox ∧ Logs s t 0x1305 (m.val / 2) (ev [(0, 1, m.val / 2), (1, 1, cause)]) ∧
      Leaves [.mailboxes, .log] (only [ent (0x2710 + m.val / 2) 6]) (only []) s t) ∧
  (∀ (s : State) (m : Fin 32), (s.sys.mail m.val).go = true → (s.sys.mail m.val).inbox.length < 4 → s.sys.power.mbOut = [] →
    (m.val % 2 = 0 → s.sys.domainRun (pairDomain (m.val / 2)) = true) →
    Completes (.mbAccept m) s fun t =>
      (t.sys.mail m.val).go = false ∧ (t.sys.mail m.val).accepted = true ∧ (t.sys.mail m.val).waking = false ∧
      (t.sys.mail m.val).inbox = (s.sys.mail m.val).inbox ++ [(s.sys.mail m.val).msg]) ∧
  (∀ (s : State) (m : Fin 32), Completes (.mbPop m) s fun t =>
    t.sys.mail m.val = { s.sys.mail m.val with inbox := (s.sys.mail m.val).inbox.drop 1 } ∧ (∀ k, k ≠ m.val → t.sys.mail k = s.sys.mail k) ∧
    Leaves [.mailboxes, .boot] (only []) (only []) s t) ∧
  (∀ (s : State) (m : Fin 32), m.val % 2 = 0 → (s.sys.mail m.val).go = true →
    Completes (.mbCancel m) s fun t =>
      t.sys.mail m.val = { s.sys.mail m.val with go := false, busy := false, waking := false, error := 3 } ∧
      (∀ k, k ≠ m.val → t.sys.mail k = s.sys.mail k) ∧ Leaves [.mailboxes, .boot] (only []) (only []) s t) ∧
  (∀ (s : State) (p : Fin 16) (k : Nat), pairFn p.val = .relay → s.sys.relayLink p.val = some k → (s.sys.mail (2 * p.val)).inbox ≠ [] →
    Completes (.relayForward p) s fun t =>
      (t.sys.mail (2 * p.val)).inbox = (s.sys.mail (2 * p.val)).inbox.drop 1 ∧ (∀ j, j ≠ 2 * p.val → t.sys.mail j = s.sys.mail j)) ∧
  (∀ s : State, Completes .epPerstAssert s fun t =>
    t.sys.mailboxes = [] ∧ t.sys.boot.epLink = false ∧ Leaves [.mailboxes, .boot, .power] (only []) (only []) s t)

/-- Device states (R646 to R655), each command with the state it leaves: a module that leads its power state and records nothing begins the entry to
Standby or Dormant, and the head of an array first asks its members (R688); the entry drops no frame before they have drained, pauses migration, and
lets the domains enter their modes; a domain leaves Run through Entering, with event 0x1307, its lanes stopping with it (R244), and is back in Run when
its exit is done, its parts and its lanes starting again; ACTIVE starts the exit from Standby, cuts an entry that is under way, with event 0x1302, and
is nothing in Active. The outputs show it (R83, R85, R87 to R89, R92, R624): with its domain off an output is high-impedance and INT_N released, and
that precedes reset; in reset it shows the column of its row; IOREF is at its bank's level while the domain runs, and IOREF_AON whenever AON has
power; PF_VREF floats on SHADOW and without a SINCOS channel, and TDO outside the factory states. -/
def Obligations.DeviceStatesAreEnteredAndLeft : Prop :=
  (∀ s : State, s.sys.rd (ent 0x2700 1) = 0 → (∀ x, x < 16 → s.sys.rd (ent (0x4960 + x) 1) ≠ 1) → s.sys.leadsPower = true →
    s.sys.twin.ask = none → s.sys.memberLinks = [] →
    Completes .standbyCommand s fun t =>
      t.sys.rd (ent 0x2700 1) = 1 ∧ t.sys.power.step = 2 ∧ t.sys.power.dormant = false ∧ t.sys.power.since = t.sys.up ∧ t.otp = s.otp ∧ t.pending = s.pending) ∧
  (∀ s : State, s.sys.rd (ent 0x2700 1) = 0 ∨ s.sys.rd (ent 0x2700 1) = 2 → (∀ x, x < 16 → s.sys.rd (ent (0x4960 + x) 1) ≠ 1) →
    s.sys.leadsPower = true → s.sys.twin.ask = none → s.sys.memberLinks = [] →
    Completes .dormantCommand s fun t =>
      t.sys.rd (ent 0x2700 1) = 4 ∧ t.sys.power.step = (if s.sys.rd (ent 0x2700 1) = 2 then 6 else 2) ∧ t.sys.power.dormant = true ∧ t.otp = s.otp ∧
      t.pending = s.pending) ∧
  (∀ s : State, s.sys.rd (ent 0x2700 1) = 0 → (∀ x, x < 16 → s.sys.rd (ent (0x4960 + x) 1) ≠ 1) → s.sys.leadsPower = true →
    s.sys.twin.ask = none → s.sys.memberLinks ≠ [] →
    Completes .standbyCommand s fun t =>
      t.sys.twin.ask = some ⟨false, s.sys.memberLinks, none, false⟩ ∧ t.sys.rd (ent 0x2700 1) = 0 ∧ t.otp = s.otp ∧ t.pending = s.pending) ∧
  (∀ s : State, s.sys.power.step = 2 → Completes .standbyFramesDrained s fun t =>
    t.sys.power.step = 3 ∧ t.sys.frames = [] ∧ t.sys.mem.scan = none ∧ t.otp = s.otp ∧ t.pending = s.pending) ∧
  (∀ s : State, s.sys.power.step = 3 → Completes .standbyFlushDone s fun t => t.sys.power.step = 4 ∧ t.otp = s.otp ∧ t.pending = s.pending) ∧
  (∀ (s : State) (d : Fin 38) (off : Bool), s.sys.rd (ent (0x2720 + d.val) 1) = 0 → (if off then d.val < 35 else d.val < 24 ∨ d.val = 36) →
    Completes (.domainWait d off) s fun t =>
      let w := Sys.onPower ((s.sys.wr (ent (0x2720 + d.val) 1) 1).raise 0x1307 d.val (ev [(0, 1, d.val), (1, 1, 0), (2, 1, 1)])) fun w =>
        { w with entries := w.entries ++ [(d.val, ⟨if off then 3 else 2, s.sys.up, false⟩)] }
      t.sys = (if d.val = 24 ∨ 27 ≤ d.val ∧ d.val ≤ 34 then w.lanesOff d.val else w) ∧ t.otp = s.otp ∧ t.pending = s.pending) ∧
  (∀ (s : State) (d : Fin 38) (e : DomExit), s.sys.power.exits.lookup d.val = some e → e.from_ < 2 → d.val ≠ 24 → d.val < 27 ∨ 34 < d.val →
    s.sys.rd (ent 0x2700 1) ≠ 3 →
    Completes (.domainExitDone d) s fun t =>
      t.sys.rd (ent (0x2720 + d.val) 1) = 0 ∧ t.sys.rd (ent (0x2720 + d.val) 5) = (s.sys.up - e.since) / 1000 ∧
      t.sys.power.exits = s.sys.power.exits.filter (fun p => p.1 != d.val) ∧
      Leaves [.power, .log] (only [ent (0x2720 + d.val) 1, ent (0x2720 + d.val) 5]) (only []) s t) ∧
  (∀ (s : State) (d : Fin 38) (e : DomExit), s.sys.power.exits.lookup d.val = some e → 2 ≤ e.from_ ∨ d.val = 24 ∨ 27 ≤ d.val ∧ d.val ≤ 34 →
    Completes (.domainExitDone d) s fun t =>
      let y := (s.sys.onPower fun w => { w with exits := w.exits.filter fun p => p.1 != d.val }).wr (ent (0x2720 + d.val) 5) ((s.sys.up - e.since) / 1000)
      t.sys = (if 2 ≤ e.from_ then (y.domTo d.val 0).domainStart d.val e.from_ else (y.domTo d.val 0).lanesOn d.val).activeDone ∧
      t.otp = s.otp ∧ t.pending = s.pending) ∧
  (∀ s : State, s.sys.rd (ent 0x2700 1) = 2 → Completes .activeCommand s fun t =>
    t.sys = s.sys.exitAll ⟨0, 0, s.sys.up⟩ 2 ∧ t.otp = s.otp ∧ t.pending = s.pending) ∧
  (∀ s : State, s.sys.rd (ent 0x2700 1) = 0 ∨ s.sys.rd (ent 0x2700 1) = 3 → Completes .activeCommand s fun t => t = s) ∧
  (∀ s : State, s.sys.rd (ent 0x2700 1) = 1 ∨ s.sys.rd (ent 0x2700 1) = 4 → Completes .activeCommand s fun t =>
    let n := ((List.range 37).filter fun d => s.sys.activeRun d && 2 ≤ s.sys.rd (ent (0x2720 + d) 1) && s.sys.rd (ent (0x2720 + d) 1) ≤ 3).length
    t.sys = ((s.sys.inc (ent 0x2700 4)).raise 0x1302 255 (ev [(0, 1, if s.sys.rd (ent 0x2700 1) = 1 then 2 else 3), (1, 1, 0), (2, 1, n)])).exitAll
      ⟨0, 0, s.sys.up⟩ (s.sys.rd (ent 0x2700 1)) ∧ t.otp = s.otp ∧ t.pending = s.pending) ∧
  ((∀ (o : Otp) (y : Sys) (out : Output), y.domainOff out.domain = true → y.output o out = if out = .intN then .released else .floats) ∧
  (∀ (o : Otp) (y : Sys), y.boot.phase = .warmReset ∨ y.boot.phase = .coldReset → y.sup.aon = true →
    (∀ n, n < 32 → y.domainOff (27 + n / 4) = false → y.output o (.linkLane n) = .idle) ∧
    (∀ n, y.domainOff 26 = false → y.output o (.sdo n) = .floats ∧ y.output o (.edpMain n) = .idle ∧ y.output o (.edpAux n) = .idle) ∧
    (∀ n, y.output o (.tio n) = .floats) ∧ (∀ n, y.output o (.amclk n) = .floats) ∧ y.output o .heartbeat ≠ .drives ∧
    y.iorefLevel o .aon = some 18 ∧ (∀ b, b ≠ .aon → y.iorefLevel o b = none)) ∧
  (∀ (o : Otp) (y : Sys) (b : Bank), y.boot.phase = .running → y.sup.aon = true → y.boot.strapFault = false → y.bankPowered b = true →
    y.domainRun b.domain = true → b.domain ∉ y.boot.domainResets → y.iorefLevel o b = some (if y.bank33 b then 33 else 18)) ∧
  (∀ (o : Otp) (y : Sys), y.isShadow = true ∨ (∀ c, c < 24 → y.rd (ent (0x2600 + c) 1) ≠ 3) → y.output o .pfVref = .floats) ∧
  (∀ (o : Otp) (y : Sys), o.factory = false → y.output o .tdo = .floats))

/-- Wake sources (R657 to R659), each with the state it leaves: an accepted PING is counted and answered at the port's own address with the module's
state; an accepted WAKE on an enabled port also wakes the module; the selected TIO edge, where the inputs are not held (R83), the alarm and the host's
EP_PERST_N do, where they are enabled. Waking starts the exit in Standby, powers a Dormant module up with the cause WAKE, and is the request that a trip
hold waits for; EP_PERST_N acts on a Dormant module alone. A malformed frame is counted and changes nothing else but the log. -/
def Obligations.WakeSourcesWake : Prop :=
  (∀ (s : State) (p : Fin 2) (f : WakeFrame) (w : Nat), s.sys.resetAsserted = false → s.sys.boot.strapFault = false →
    s.sys.rd (ent (0x2704 + p.val) 1) ≠ 0 → wakeWord f = .inr w → w / 16 % 16 = 2 → w / 256 = s.sys.rd (ent (0x2704 + p.val) 2) →
    Completes (.wakeFramePing p f) s fun t =>
      (∃ b, t.sys.tx = s.sys.tx ++ [.wake p.val b] ∧ unLe b / 256 = w / 256 % 256 ∧ unLe b / 16 % 16 = s.sys.wakeState % 16) ∧
      Leaves [.tx] (only [ent (0x2704 + p.val) 3, ent (0x2704 + p.val) 5]) (only []) s t) ∧
  (∀ (s : State) (p : Fin 2) (f : WakeFrame) (b : BootInputs) (w : Nat), s.sys.resetAsserted = false → s.sys.boot.strapFault = false → s.sys.rd (ent (0x2704 + p.val) 1) ≠ 0 → wakeWord f = .inr w → w / 16 % 16 = 1 →
    w / 256 = s.sys.rd (ent (0x2704 + p.val) 2) ∨ w / 256 = 0xFF → s.sys.wakeEnabled (2 + p.val) = true →
    Completes (.wakeFrameWake p f b) s fun t =>
      t.sys = ((s.sys.inc (ent (0x2704 + p.val) 3)).wakeUp s.otp (2 + p.val) p.val b).wakeReply p.val (w / 256) ∧ t.otp = s.otp ∧
      t.pending = s.pending) ∧
  (∀ (s : State) (p : Fin 2) (f : WakeFrame) (b : BootInputs) (r : Nat), s.sys.resetAsserted = false → s.sys.boot.strapFault = false → s.sys.rd (ent (0x2704 + p.val) 1) ≠ 0 → wakeWord f = .inl r →
    Completes (.wakeFrameWake p f b) s fun t =>
      t.sys.rd (ent (0x2704 + p.val) 4) = (s.sys.rd (ent (0x2704 + p.val) 4) + 1) % 2 ^ 32 ∧
      Leaves [.log] (only [ent (0x2704 + p.val) 4]) (only []) s t) ∧
  (∀ (s : State) (ball : Fin 32) (falling : Bool) (b : BootInputs), s.sys.tioHeld = false → s.sys.rd (ent 0x2701 2) = ball.val →
    s.sys.tioFn ball.val = 7 → s.sys.rd (ent 0x2701 4) = 2 ∨ s.sys.rd (ent 0x2701 4) = (if falling then 1 else 0) → s.sys.wakeEnabled 4 = true →
    Completes (.wakeTioEdge ball falling b) s fun t => t.sys = s.sys.wakeUp s.otp 4 ball.val b ∧ t.otp = s.otp ∧ t.pending = s.pending) ∧
  (∀ (s : State) (ball : Fin 32) (falling : Bool) (b : BootInputs), s.sys.tioHeld = true → Completes (.wakeTioEdge ball falling b) s fun t => t = s) ∧
  (∀ (s : State) (b : BootInputs), s.sys.rd (ent 0x2701 3) ≠ 0 → s.sys.rd (ent 0x2701 3) ≤ s.sys.t96 → s.sys.wakeEnabled 5 = true →
    Completes (.wakeAlarm b) s fun t => t.sys = s.sys.wakeUp s.otp 5 0 b ∧ t.otp = s.otp ∧ t.pending = s.pending) ∧
  (∀ (s : State) (b : BootInputs), s.sys.wakeEnabled 6 = true →
    Completes (.wakeEpPerst b) s fun t => t.sys = s.sys.wakeUp s.otp 6 0 b ∧ t.otp = s.otp ∧ t.pending = s.pending) ∧
  (∀ (o : Otp) (y : Sys) (source port : Nat) (b : BootInputs),
    (y.boot.phase = .running → source ≠ 6 → y.wakeUp o source port b = y.wakeStandby source port) ∧
    (y.boot.phase = .running → y.wakeUp o 6 port b = y) ∧
    (y.boot.phase = .dormant → y.wakeUp o source port b =
      Sys.bootUp o ((y.wr (ent 0x2700 5) source).onPower fun w => { w with wake := some ⟨source, port, y.up⟩ }) b 9 true) ∧
    (y.boot.phase = .tripHold → source ≠ 6 → y.wakeUp o source port b = { y with power := { y.power with asked := some ⟨source, port, y.up⟩ } }))

/-- Stripes (R57, R64, R410 to R413, R417, R422, R425): the stripe that opens takes the Troupe free longest, whose admission count rises, or gives it
an idle token where its admission is to be skipped; a Troupe whose idle token ends is free from then on; at its deadline the oldest unfinished frame
of the context is abandoned; a segment written enters the Troupe's buffers, and a pass that is complete counts. Statistics-only stripes are first queued
to raw front ends of their masks (R294). -/
def Obligations.StripesOpenRunAndEnd : Prop :=
  (∀ (s : State) (x k r : Nat) (f : Frame), s.sys.pickContext = some x → s.sys.nextStripe x = some (f, k) → s.sys.pickTroupe f = some r →
    skipped s.sys.skip (s.sys.troupe r).admission = true →
    Completes .stripeOpen s fun t =>
      t.sys.troupe r = { s.sys.troupe r with idle := some (s.sys.troupe r).mean, admission := ((s.sys.troupe r).admission + 1) % 16 } ∧
      (∀ j, j ≠ r → t.sys.troupe j = s.sys.troupe j) ∧ t.sys.rd (ent 0x2202 3) = (s.sys.rd (ent 0x2202 3) + 1) % 2 ^ 64 ∧
      Leaves [.troupes, .ctxs, .resident, .pages] (only [ent 0x2202 3]) (only []) s t) ∧
  (∀ (s : State) (x k r : Nat) (f : Frame), s.sys.pickContext = some x → s.sys.nextStripe x = some (f, k) → s.sys.pickTroupe f = some r →
    skipped s.sys.skip (s.sys.troupe r).admission = false → f.gen.usesRfe x = false →
    Completes .stripeOpen s fun t =>
      (t.sys.troupe r).held = some (f.ctx, f.num, k) ∧ (t.sys.troupe r).admission = ((s.sys.troupe r).admission + 1) % 16 ∧
      (∀ j, j ≠ r → t.sys.troupe j = s.sys.troupe j) ∧ t.otp = s.otp ∧ t.pending = s.pending) ∧
  (∀ (s : State) (q : Fin 24), (s.sys.troupe q.val).idle.isSome = true →
    Completes (.idleTokenEnd q) s fun t =>
      t.sys.troupe q.val = { s.sys.troupe q.val with idle := none, freeSince := s.sys.up } ∧ (∀ j, j ≠ q.val → t.sys.troupe j = s.sys.troupe j) ∧
      Leaves [.troupes] (only []) (only []) s t) ∧
  (∀ (s : State) (x : Fin 16) (f : Frame), (s.sys.frames.find? fun f => f.ctx == x.val && !f.abandoned && f.stripes.any fun st => !st.done) = some f →
    Completes (.frameDeadline x) s fun t =>
      (∀ g ∈ t.sys.frames, g.ctx = f.ctx → g.num = f.num → g.abandoned = true ∧ ∀ st ∈ g.stripes, st.mode ≠ .waiting) ∧
      t.sys.rd (ent 0x2201 9) = (s.sys.rd (ent 0x2201 9) + 1) % 2 ^ 32 ∧ t.otp = s.otp ∧ t.pending = s.pending) ∧
  (∀ (s : State) (r : Fin 8) (w : BitVec 32) (f : Frame) (st : Stripe) (q : Nat), s.sys.rfeNext r.val = some (f, st) → st.troupe = some q →
    Completes (.rfeSegmentWritten r w) s fun t =>
      t.sys.rd (ent (0x3470 + r.val) 6) = (s.sys.rd (ent (0x3470 + r.val) 6) + w.toNat) % 2 ^ 64 ∧
      (st.written = 0 → t.sys.rd (ent (0x3470 + r.val) 1) = 1 ∧ t.sys.rd (ent (0x3470 + r.val) 2) = f.ctx) ∧ t.otp = s.otp ∧ t.pending = s.pending) ∧
  (∀ (s : State) (r : Fin 8) (f : Frame) (st : Stripe), st.mode = .opened → st.rfe = some r.val → st.passed = false → st.written = f.gen.segs f.ctx →
    f.stripes = [st] → s.sys.frames = [f] → Runs (.rfePassComplete r) s (s.sys.passDone f.ctx f.num st.k (some r.val))) ∧
  (∀ (s : State) (f : Frame) (k r : Nat), s.sys.queueStats.nextStatsOnly = some (f, k) → (f.stripe? k).bind (·.rfe) = some r →
    Runs .statsOnlyStripe s (Sys.fillEdges
      (((Sys.rfeStart (s.sys.queueStats.decideBlack f) r f.ctx f.num).onFrame f.ctx f.num fun h =>
        { h with statsOnly := true }).passDone f.ctx f.num k (some r)))) ∧
  (∀ (y : Sys) (x n k : Nat) (r : Option Nat) (f : Frame), y.frame? x n = some f →
    let z := y.passDone x n k r
    z.rd (ent (0x3440 + x) 6) = (y.rd (ent (0x3440 + x) 6) + 1) % 2 ^ 64 ∧
    ∀ j, r = some j → z.rd (ent (0x3470 + j) 3) = (y.rd (ent (0x3470 + j) 3) + 1) % 2 ^ 64)

/-- Raw front ends and arrays (R314, R427, R428): a parity error fences the unit, empties its parameter cache, counts and logs, its stripes
going to other units, whose caches alone may change; a retest that passes lets the unit return at a frame boundary; raw halo lines join the frame, and a member's decision is applied to the frame and logged. -/
def Obligations.FrontEndsAreFencedAndArraysAgree : Prop :=
  (∀ (s : State) (r : Fin 8) (cache : Bool), Completes (.rfeParityError r cache) s fun t =>
    t.sys.rd (ent (0x3470 + r.val) 1) = 2 ∧ t.sys.rd (ent (0x3470 + r.val) 7) = (s.sys.rd (ent (0x3470 + r.val) 7) + 1) % 2 ^ 32 ∧
    t.sys.rd (ent (0x3470 + r.val) 2) = 0xFF ∧ (t.sys.rfe r.val).cache = [] ∧
    (∀ j, j ≠ r.val → t.sys.rfe j = { s.sys.rfe j with cache := (t.sys.rfe j).cache }) ∧
    (Room s → s.sys.rfePresent r.val = none → Logs s t 0x0905 r.val (ev [(0, 1, r.val), (1, 1, if cache then 1 else 0), (2, 1, 0xFF), (4, 4, 0)])) ∧
    Leaves [.rfes, .troupes, .frames, .engines, .log] (only [ent (0x3470 + r.val) 1, ent (0x3470 + r.val) 2, ent (0x3470 + r.val) 7]) (only []) s t) ∧
  (∀ (s : State) (r : Fin 8) (passed : Bool), Room s → Completes (.rfeRetestDone r passed) s fun t =>
    t.sys.rd (ent (0x3470 + r.val) 1) = 2 ∧ t.sys.rfe r.val = { s.sys.rfe r.val with returning := passed, failed := !passed } ∧
    (∀ j, j ≠ r.val → t.sys.rfe j = s.sys.rfe j) ∧ Logs s t 0x0906 r.val (ev [(0, 1, r.val), (1, 1, if passed then 0 else 1)]) ∧
    Leaves [.rfes, .log] (only [ent (0x3470 + r.val) 1]) (only []) s t) ∧
  (∀ (s : State) (x : Fin 8) (n : BitVec 32) (nb : Fin 4) (lines : List (Nat × Bytes)) (us : BitVec 16) (f : Frame),
    s.sys.frame? x.val n.toNat = some f →
    Completes (.arrayHaloReceive x n nb (.raw lines) us) s fun t =>
      t.sys.frames = s.sys.frames.map (fun h => if h.ctx == x.val && h.num == n.toNat then { h with halo := h.halo ++ lines } else h) ∧
      Leaves [.frames] (only []) (only []) s t) ∧
  (∀ (s : State) (x : Fin 8) (n : BitVec 32) (nb : Fin 4) (seg : Nat) (rows : List (Nat × List Px)) (us : BitVec 16) (f : Frame),
    s.sys.frame? x.val n.toNat = some f → us.toNat ≤ 50 → Runs (.arrayHaloReceive x n nb (.rows seg rows) us) s (s.sys.haloRows f seg rows)) ∧
  (∀ (s : State) (x : Fin 16) (n : BitVec 32) (o : Fin 4) (f : Frame), s.sys.frame? x.val n.toNat = some f →
    f.reduced = true ∨ f.abandoned = true → Room s → Completes (.arrayLookDecision x n o false) s fun t =>
      Logs s t 0x0B06 x.val (ev [(0, 1, x.val), (1, 1, 0), (2, 1, o.val), (4, 4, n.toNat)]) ∧ Leaves [.log] (only []) (only []) s t) ∧
  (∀ (s : State) (x : Fin 16) (n : BitVec 32) (o : Fin 4) (f : Frame), s.sys.frame? x.val n.toNat = some f → f.abandoned = false →
    Completes (.arrayLookDecision x n o true) s fun t =>
      t.sys.rd (ent 0x2201 9) = (s.sys.rd (ent 0x2201 9) + 1) % 2 ^ 32 ∧ t.otp = s.otp ∧ t.pending = s.pending)

/-- Reads, writes and groups (R126, R127, R132, R134 to R136, R143, R155, R684): a frame that passes its checks is answered with the value it reads, or
becomes a unit of the commit point with its stamp; a group opens with the session, takes members, and becomes one unit. A unit enters the module's own
queue, but on an array member that is not the head it goes to the head. The last counter of a session closes it once its request is answered. -/
def Obligations.RequestsReadWriteAndGroup : Prop :=
  (∀ (s : State) (f : DenvalFrame) (r : Req) (sid n : Nat) (role : Role) (z x : Sys) (v : Bytes), Accepted f s r sid role n z → r.func = 4 → r.op = 1 →
    r.wellFormed = true → r.len = 0 → r.dst = z.node → z.readEntry s.otp r.path r.source sid role r.entry false = (.ok, v, x) →
    v.length ≤ valueLimit r.path → Runs (.denvalRead f) s ((x.respond r sid .ok 0 v).lastAnswered sid n)) ∧
  (∀ (s : State) (f : DenvalFrame) (r : Req) (sid n : Nat) (role : Role) (z x : Sys) (v : Bytes), Accepted f s r sid role n z → r.func = 4 → r.op = 2 →
    r.wellFormed = true → r.len = 0 → r.dst = z.node → z.readEntry s.otp r.path r.source sid role r.entry true = (.ok, v, x) →
    v.length ≤ valueLimit r.path → x = z ∧ Runs (.denvalReadShadow f) s ((z.respond r sid .ok 0 v).lastAnswered sid n)) ∧
  (∀ (s : State) (f : DenvalFrame) (r : Req) (sid n : Nat) (role : Role) (z : Sys), Accepted f s r sid role n z → r.func = 4 → r.op = 3 →
    r.wellFormed = true → (z.arrivalAt s.otp r (r.writer sid role) r.entry r.value).1 = .ok → r.entry ≠ ent 0x1300 5 →
    Runs (.denvalWrite f) s (z.submitUnit
      { slot := r.stamp / 100000, path := r.path, role := role, stamp := r.stamp, counter := n, session := sid, source := r.source, node := r.node,
        tag := r.tag, gtag := 0, op := 3, scope := .single, target := none, members := [(r.entry, r.value)], position := z.positionOf r.dst,
        origin := none })) ∧
  (∀ (y : Sys) (u : CommitUnit), y.view.role ≠ 3 ∨ y.roleShadow = true ∨ y.arrayPos = y.rd (ent 0x4C01 6) →
    y.submitUnit u = y.onDen fun d => { d with units := d.units ++ [u] }) ∧
  (∀ (y : Sys) (u : CommitUnit) (k : Nat), y.view.role = 3 → y.roleShadow = false → y.arrayPos ≠ y.rd (ent 0x4C01 6) →
    y.posLink (y.rd (ent 0x4C01 6)) = some k →
    (y.submitUnit u).twin.fronted = y.twin.fronted ++ [(y.twin.nextFront, u)] ∧ (y.submitUnit u).den = y.den) ∧
  (∀ (s : State) (f : DenvalFrame) (r : Req) (sid n : Nat) (role : Role) (z : Sys) (g : Session) (sc : Scope), Accepted f s r sid role n z →
    r.func = 4 → r.op = 5 → r.wellFormed = true → z.session? sid = some g → g.group = none → r.len = 8 → r.gtag ≠ 0 → rdLe r.value 2 1 = 0 →
    rdLe r.value 3 1 = 0 → scopeOf (rdLe r.value 0 1) (rdLe r.value 1 1) = some sc → r.value.length = 8 →
    let h : Group := { gtag := r.gtag, tag := r.tag, scope := sc, target := none, members := [], failed := none, openedAt := z.up }
    Runs (.groupBegin f) s (((z.setSession { g with group := some h }).respond r g.id .ok 0 []).lastAnswered sid n)) ∧
  (∀ (s : State) (f : DenvalFrame) (r : Req) (sid n : Nat) (role : Role) (z : Sys) (g : Session) (h : Group), Accepted f s r sid role n z →
    r.func = 4 → r.op = 4 → r.wellFormed = true → z.session? sid = some g → g.group = some h → h.gtag = r.gtag →
    (z.arrivalAt s.otp r (r.writer g.id g.role) r.entry r.value).1 = .ok → z.inScope h.scope r.entry r.value = true → h.members.length < 64 →
    (h.members.map fun m => m.2.length).sum + r.value.length ≤ 4096 →
    Runs (.groupMember f) s ((z.setSession { g with group := some { h with members := h.members ++ [(r.entry, r.value)] } }).lastAnswered sid n)) ∧
  (∀ (s : State) (f : DenvalFrame) (r : Req) (sid n : Nat) (role : Role) (z : Sys) (g : Session) (h : Group), Accepted f s r sid role n z →
    r.func = 4 → r.op = 6 → r.wellFormed = true → z.session? sid = some g → g.group = some h → h.gtag = r.gtag → h.failed = none →
    Runs (.groupCommit f) s ((z.setSession { g with group := none }).submitUnit
      { slot := r.stamp / 100000, path := r.path, role := g.role, stamp := r.stamp, counter := n, session := g.id, source := r.source, node := r.node,
        tag := r.tag, gtag := h.gtag, op := 6, scope := h.scope, target := h.target, members := h.members, position := z.positionOf r.dst,
        origin := none })) ∧
  (∀ (s : State) (i : BitVec 16) (u : Session) (g : Group), s.sys.session? i.toNat = some u → u.group = some g →
    Runs (.groupTimeout i) s ((s.sys.setSession { u with group := none }).response u.path u.source u.node u.id g.tag 5 .timeout 0 0 []))

/-- Segmented transfers (R143 to R145): a read captures the value whole and sends its segments, a write of a known length opens a transfer, each
segment in order joins it, an acknowledgement moves a read on and ends it, and an abort or the timeout closes it; the timeout logs 0x040A. -/
def Obligations.TransfersMoveSegments : Prop :=
  (∀ (s : State) (f : DenvalFrame) (r : Req) (sid n : Nat) (role : Role) (z x : Sys) (v : Bytes), Accepted f s r sid role n z → r.func = 4 → r.op = 7 →
    r.wellFormed = true → z.transfer? r sid false = none → z.transfer? r sid true = none → z.transfersFull r sid = false → r.dst = z.node →
    z.readEntry s.otp r.path r.source sid role r.entry false = (.ok, v, x) → Runs (.segReadInit f) s ((x.openRead r sid v).lastAnswered sid n)) ∧
  (∀ (s : State) (f : DenvalFrame) (r : Req) (sid n : Nat) (role : Role) (z : Sys), Accepted f s r sid role n z → r.func = 4 → r.op = 8 →
    r.wellFormed = true → r.len = 4 → z.transfer? r sid false = none → z.transfer? r sid true = none → z.transfersFull r sid = false →
    Sys.segmentedStatus s.otp (r.writer sid role) r.entry (rdLe r.value 0 4) = .ok → rdLe r.value 0 4 ≠ 0 →
    let x := z.respond r sid .ok 0 []
    Runs (.segWriteInit f) s ((x.onDen fun d => { d with transfers := d.transfers ++ [
      { path := r.path, session := sid, source := r.source, node := r.node, tag := r.tag, write := true, entry := r.entry, total := rdLe r.value 0 4,
        data := [], next := 0, acked := 0, lastFrame := x.up }] }).lastAnswered sid n)) ∧
  (∀ (s : State) (f : DenvalFrame) (r : Req) (sid n : Nat) (role : Role) (z : Sys) (u : Transfer), Accepted f s r sid role n z → r.func = 6 →
    z.transfer? r sid true = some u → rdLe r.body 2 2 = u.next → (u.next + 1) % 16 ≠ 0 →
    ((r.body.drop 4).take (r.body.length - 18)).length = segmentSize u.path → u.data.length + segmentSize u.path < u.total →
    Runs (.segDown f) s ((z.setTransfer { u with
      lastFrame := z.up, data := u.data ++ (r.body.drop 4).take (r.body.length - 18), next := u.next + 1 }).lastAnswered sid n)) ∧
  (∀ (s : State) (f : DenvalFrame) (r : Req) (sid n : Nat) (role : Role) (z : Sys) (u : Transfer), Accepted f s r sid role n z → r.func = 8 →
    z.transfer? r sid false = some u → u.acked ≤ rdLe r.body 2 2 → rdLe r.body 2 2 ≤ u.next →
    Runs (.segAck f) s (Sys.lastAnswered (if u.count ≤ rdLe r.body 2 2 then z.endTransfer u
      else z.segmentsUp { u with acked := rdLe r.body 2 2, next := rdLe r.body 2 2, lastFrame := z.up }) sid n)) ∧
  (∀ (s : State) (f : DenvalFrame) (r : Req) (sid n : Nat) (role : Role) (z : Sys) (g : Session), Accepted f s r sid role n z → r.func = 4 → r.op = 9 →
    sid ≠ 0 → r.wellFormed = true → r.len = 2 → z.session? sid = some g → g.group = none →
    (z.den.transfers.filter fun u => u.session == sid && u.tag == rdLe r.value 0 2) ≠ [] →
    Runs (.denvalAbort f) s (((z.onDen fun d =>
      { d with transfers := d.transfers.filter fun u => !(u.session == sid && u.tag == rdLe r.value 0 2) }).respond r sid .aborted 0 []).lastAnswered sid n)) ∧
  (∀ (s : State) (p : DenvalPath) (src : BitVec 48) (sid : BitVec 16) (tag : BitVec 10) (u : Transfer),
    (s.sys.den.transfers.find? fun t => t.path == pathRank p && t.source == src.toNat && t.session == sid.toNat && t.tag == tag.toNat) = some u →
    Room s → Completes (.transferTimeout p src sid tag) s fun t =>
      (∀ x ∈ t.sys.den.transfers, x ∈ s.sys.den.transfers ∧ x.same u = false) ∧
      (sid = 0 → t.sys.den.transfers = s.sys.den.transfers.filter (fun x => !x.same u)) ∧
      (t.sys.log.pending.map (·.code)).getLast? = some 0x040A ∧ t.otp = s.otp ∧ t.pending = s.pending)

/-- Sessions (R153 to R156): a HELLO of a source that is locked out is refused with AUTH and counts as no failed set-up; a HELLO that asks for a role
the life-cycle state does not open is refused and counted; the halves of a proof are taken in turn, and a set-up that no proof ends is over after its
time; a session closes on request or when it has been idle; a lockout ends. -/
def Obligations.SessionsOpenAndClose : Prop :=
  (∀ (s : State) (f : DenvalFrame) (r : Req) (z : Sys), Arrives f s r z → r.func = 12 → r.op = 1 →
    (z.den.lockouts.lookup (sourceKey r.path r.source)).isSome = true → Runs (.sessionHello f) s (z.helloRefused r .auth)) ∧
  (∀ (s : State) (f : DenvalFrame) (r : Req) (z : Sys), Arrives f s r z → r.func = 12 → r.op = 1 →
    (z.den.lockouts.lookup (sourceKey r.path r.source)).isSome = false → z.den.sessions.length < 32 → 1 ≤ rdLe r.body 3 1 → rdLe r.body 3 1 ≤ 4 →
    s.otp.roleOpen (rdLe r.body 3 1) = false →
    Runs (.sessionHello f) s ((z.helloRefused r .role).setupFailed r.path r.source r.node (rdLe r.body 3 1) .role (rdLe r.body 4 4))) ∧
  (∀ (s : State) (f : DenvalFrame) (r : Req) (z : Sys) (c : Bytes), Arrives f s r z → r.func = 12 → r.op = 1 →
    (z.den.lockouts.lookup (sourceKey r.path r.source)).isSome = false → z.den.sessions.length < 32 → 1 ≤ rdLe r.body 3 1 → rdLe r.body 3 1 ≤ 4 →
    s.otp.roleOpen (rdLe r.body 3 1) = true → ((z.credential (rdLe r.body 4 4)).filter fun c => z.credAccepted s.otp c) = some c →
    z.sec.key ≠ none ∨ s.otp.factory = true → rdLe r.body 3 1 ≤ credRole c →
    Completes (.sessionHello f) s fun t =>
      ((x25519 ((z.freeBytes 8).2.freeBytes 32).1 (slice r.body 16 32)).all (· == 0) = false →
        ∃ u, t.sys.den.sessions = z.den.sessions ++ [u] ∧ u.established = false ∧ u.role = roleOfCode (rdLe r.body 3 1) ∧ u.path = r.path ∧
          u.source = r.source ∧ u.credential = rdLe r.body 4 4 ∧ u.counterIn = 0 ∧ u.group = none ∧ t.sys.den.nextSession = u.id % 65535 + 1) ∧
      ((x25519 ((z.freeBytes 8).2.freeBytes 32).1 (slice r.body 16 32)).all (· == 0) = true →
        t.sys.den.sessions = z.den.sessions) ∧
      t.otp = s.otp ∧ t.pending = s.pending) ∧
  (∀ (s : State) (f : DenvalFrame) (r : Req) (z : Sys) (u : Session), Arrives f s r z → r.func = 12 → r.op = 2 → z.setup? r = some u →
    Runs (.sessionProofA f) s (z.setSession { u with proofA := some (slice r.body 6 32) })) ∧
  (∀ (s : State) (f : DenvalFrame) (r : Req) (z : Sys) (u : Session) (c a : Bytes), Arrives f s r z → r.func = 12 → r.op = 3 → z.setup? r = some u →
    ((z.credential u.credential).filter fun c => z.credAccepted s.otp c) = some c → u.proofA = some a →
    edVerify (credKey c) u.transcript (a ++ slice r.body 6 32) = true →
    Runs (.sessionProofB f) s (((z.setSession { u with established := true, lastFrame := z.up, cursor := z.rd (ent 0x1300 4) }).reply r.path r.source r.node
      u.id .sessionRsp r.tag (le 1 0x84 ++ le 1 0 ++ le 2 u.id ++ le 1 (Role.rank u.role) ++ [0] ++ le 2 u.idleTimeout)).showSessions)) ∧
  (∀ (s : State) (i : BitVec 16) (u : Session), s.sys.session? i.toNat = some u → u.established = false →
    Completes (.sessionSetupTimeout i) s fun t =>
      t.sys.den.sessions = s.sys.den.sessions.filter (fun x => x.id != i.toNat) ∧ (s.sys.rd (ent 0x1103 3) + 1) % 2 ^ 32 = t.sys.rd (ent 0x1103 3) ∧
      Leaves [.den, .log] (only [ent 0x1103 3, ent 0x1103 5]) (only []) s t) ∧
  (∀ (s : State) (f : DenvalFrame) (r : Req) (sid n : Nat) (role : Role) (z : Sys), Accepted f s r sid role n z → r.func = 12 → r.op = 5 → sid ≠ 0 →
    Completes (.sessionClose f) s fun t =>
      t.sys.den.sessions = z.den.sessions.filter (fun x => x.id != sid) ∧ t.sys.den.transfers = z.den.transfers.filter (fun x => x.session != sid) ∧
      t.sys.rd (ent 0x1103 1) = (t.sys.den.sessions.filter (·.established)).length) ∧
  (∀ (s : State) (i : BitVec 16) (u : Session), s.sys.session? i.toNat = some u → u.established = true →
    Completes (.sessionIdleTimeout i) s fun t =>
      t.sys.den.sessions = s.sys.den.sessions.filter (fun x => x.id != i.toNat) ∧
      t.sys.den.transfers = s.sys.den.transfers.filter (fun x => x.session != i.toNat) ∧ Leaves [.den] (only [ent 0x1103 1]) (only []) s t) ∧
  (∀ (s : State) (p : DenvalPath) (src : BitVec 48), Completes (.lockoutEnd p src) s fun t =>
    t.sys.den.lockouts = s.sys.den.lockouts.filter (fun x => x.1 != sourceKey (pathRank p) src.toNat) ∧ Leaves [.den] (only []) (only []) s t)

/-- Writes that commands stand for (R126 to R132, R754): one that passes its arrival checks is a unit of its own slot and is committed, stored and
answered; the cursor's is no unit; one that is refused leaves what the refusal reports, and before the module runs nothing happens. The commit instant
without a unit shows the slot of the clock, and with one takes it. What the writes of the fused entries do (R168, R171, R175, R177): an admitted
life-cycle transition programs its state, REKEY one change of key, EPOCH_RAISE the epoch it names, and the customer root is the one written; a
certificate makes the pending key the device key. -/
def Obligations.WritesAreCommittedAndFusesFollow : Prop :=
  ((∀ (s : State) (c : Instr) (w : Writer) (k : Nat) (v : Bytes), writeOf c = some (w, k, v) → s.sys.boot.phase = .running →
    (s.sys.arrival s.otp w k v).1 = .ok → k ≠ ent 0x1300 5 →
    let u := writeUnit s.sys w k v
    let d := s.sys.commitUnit s.otp u fun _ => false
    exec c s = .next { s with
      otp := s.otp.applyAll d.ops, sys := Sys.resetDue ((d.sys.storeSlot s.sys).afterUnit (u, d.status, d.key, d.pos)) }) ∧
  (∀ (s : State) (c : Instr) (w : Writer) (k : Nat) (v : Bytes), writeOf c = some (w, k, v) → s.sys.boot.phase = .running →
    (s.sys.arrival s.otp w k v).1 ≠ .ok → Runs c s (s.sys.arrival s.otp w k v).2) ∧
  (∀ (s : State) (c : Instr) (w : Writer) (k : Nat) (v : Bytes), writeOf c = some (w, k, v) → s.sys.boot.phase ≠ .running → Runs c s s.sys) ∧
  (∀ (s : State) (w : Writer) (n : BitVec 32), s.sys.boot.phase = .running → (s.sys.arrival s.otp w (ent 0x1300 5) (le 4 n.toNat)).1 = .ok →
    Completes (.eventCursorWrite w n) s fun t =>
      t.sys.cursorOf w.path.val 0 w.session.toNat = n.toNat ∧ Leaves [.den] (only []) (only []) s t) ∧
  (∀ s : State, s.sys.den.units = [] → Completes .commitInstant s fun t =>
    t.sys.rd (ent 0x1100 6) = s.sys.ns / 100000 * 100000 * 2 ^ 32 ∧ Leaves [] (only [ent 0x1100 6]) (only []) s t) ∧
  (∀ (s : State) (u : CommitUnit), s.sys.den.units = [u] → Completes .commitInstant s fun t => t.sys.den.units = [])) ∧
  ((∀ (s : State) (w : Writer) (n : BitVec 16), Admitted s w (ent 0x1001 2) (le 2 n.toNat) →
    Completes (.lifeCycleTransition w n) s fun t =>
      t.otp.stateFuses = s.otp.stateFuses ++ [n.toNat] ∧ (n.toNat = 5 ∨ n.toNat = 6 → t.otp.rootErased = true) ∧ t.pending = s.pending) ∧
  (∀ (s : State) (w : Writer), Admitted s w (ent 0x1002 1) (le 2 1) →
    Completes (.rekey w) s fun t => t.otp = { s.otp with rekeys := s.otp.rekeys + 1 } ∧ t.sys.sec.pending.isSome = true) ∧
  (∀ (s : State) (w : Writer) (e : BitVec 8), Admitted s w (ent 0x1003 1) (le 1 e.toNat) →
    Completes (.epochRaise w e) s fun t => t.otp = { s.otp with epochs := s.otp.epochs ++ [e.toNat] } ∧ t.otp.epoch = e.toNat ∧ s.otp.epoch < e.toNat) ∧
  (∀ (s : State) (w : Writer) (r : Bytes), Admitted s w (ent 0x1200 1) r →
    Completes (.customerRootWrite w r) s fun t => t.otp.root = some r ∧ (s.otp.root = none → 3 ∈ t.otp.stateFuses)) ∧
  (∀ (s : State) (w : Writer) (v : Bytes), Admitted s w (ent 0x1002 4) v →
    Completes (.certificateInstall w v) s fun t =>
      t.sys.sec.key = s.sys.sec.pending ∧ t.sys.sec.pending = none ∧ t.sys.mram.pendingKey = none ∧ t.sys.rdB (ent 0x1000 3) = v ∧
      t.sys.rd (ent 0x1000 5) = s.sys.keySerial + 1 ∧ t.otp = s.otp))

/-- What the other writes with rows of their own do (R124, R176, R188, R191, R192, R371, R755): an installed credential is held and a removed one is
not, a revoked ID is on the list, recipient keys, encryption and images are as written, the nonce waits for its report, a save is in course, a cleared
store is empty, the acknowledged sequence is the writer's cursor, and an erased log holds no record. A look slot that its commit instant takes waits
for the context's next latch point, and the live slot stays until then (R129, R373). -/
def Obligations.StoredItemsFollowTheirWrites : Prop :=
  (∀ (s : State) (w : Writer) (x : Fin 16) (n : BitVec 8),
    let k := ent (0x3800 + x.val) 1
    Admitted s w k (le 1 n.toNat) → (s.sys.commitUnit s.otp (writeUnit s.sys w k (le 1 n.toNat)) fun _ => false).status = .staged →
    Completes (.lookSlotSelect w x n) s fun t =>
      (∃ u ∈ t.sys.den.latched, u.scope = .context x.val ∧ u.members = [(k, le 1 n.toNat)]) ∧ t.sys.rd k = s.sys.rd k ∧ t.otp = s.otp ∧
      t.pending = s.pending) ∧
  (∀ (s : State) (w : Writer) (i : Fin 64) (v : Bytes), Admitted s w (ent 0x1210 (i.val + 1)) v →
    Completes (.credentialInstall w i v) s fun t => t.sys.rdB (ent 0x1210 (i.val + 1)) = v ∧ t.otp = s.otp) ∧
  (∀ (s : State) (w : Writer) (i : Fin 64), Admitted s w (ent 0x1210 (i.val + 1)) [] →
    Completes (.credentialRemove w i) s fun t => t.sys.rdB (ent 0x1210 (i.val + 1)) = [] ∧ t.otp = s.otp) ∧
  (∀ (s : State) (w : Writer) (id : BitVec 32), Admitted s w (ent 0x1211 1) (le 4 id.toNat) →
    Completes (.credentialRevoke w id) s fun t => id.toNat ∈ t.sys.mram.revoked ∧ t.otp = s.otp) ∧
  (∀ (s : State) (w : Writer) (i : Fin 16) (v : Bytes), Admitted s w (ent (0x3840 + i.val) 1) v →
    Completes (.lookImageWrite w i v) s fun t => t.sys.rdB (ent (0x3840 + i.val) 1) = v ∧ t.otp = s.otp) ∧
  (∀ (s : State) (w : Writer) (i : Fin 4) (v : Bytes), Admitted s w (ent 0x1404 (i.val + 2)) v →
    Completes (.recipientKeyWrite w i v) s fun t => t.sys.rdB (ent 0x1404 (i.val + 2)) = v ∧ t.otp = s.otp) ∧
  (∀ (s : State) (w : Writer) (on : Bool), Admitted s w (ent 0x1404 1) (le 1 (if on then 1 else 0)) →
    Completes (.encryptionEnable w on) s fun t => t.sys.rd (ent 0x1404 1) = (if on then 1 else 0) ∧ t.otp = s.otp) ∧
  (∀ (s : State) (w : Writer) (v : Bytes), Admitted s w (ent 0x1406 1) v →
    Completes (.attestationNonce w v) s fun t => t.sys.sec.nonce = some v ∧ t.otp = s.otp) ∧
  (∀ (s : State) (w : Writer), Admitted s w (ent 0x1104 1) (le 2 1) →
    Completes (.parameterStoreSave w) s fun t => t.sys.rd (ent 0x1104 2) = 1 ∧ t.sys.den.saving.isSome = true ∧ t.otp = s.otp) ∧
  (∀ (s : State) (w : Writer), Admitted s w (ent 0x1104 1) (le 2 2) →
    Completes (.parameterStoreClear w) s fun t => t.sys.mram.store = [] ∧ t.otp = s.otp) ∧
  (∀ (s : State) (w : Writer), Admitted s w (ent 0x1300 8) (le 2 1) →
    Completes (.eventAcknowledge w) s fun t => t.sys.rd (ent 0x1300 4) = s.sys.cursorOf w.path.val 0 w.session.toNat ∧ t.otp = s.otp) ∧
  (∀ (s : State) (w : Writer), Admitted s w (ent 0x1300 8) (le 2 2) →
    Completes (.eventErase w) s fun t =>
      t.sys.mram.ring = [] ∧ t.sys.rd (ent 0x1300 2) = s.sys.rd (ent 0x1300 1) ∧ (t.sys.log.pending.head?.map (·.code)) = some 0x0133 ∧ t.otp = s.otp)

/-- The paths of their own accord (R124, R147, R148, R150, R157 to R160): heartbeats and time messages count on; a CAN port that goes off the bus is
counted and logged once, and returns with what it queued, but for EVENT frames that are more than 10 ms late (R158); the console answers its three commands while it serves; the parameter store's copies switch
when a save is done; a new lease is the present address and closes the UDP sessions. -/
def Obligations.PathsKeepTheirTurn : Prop :=
  (∀ s : State, s.sys.boot.phase = .running →
    let y := s.sys.onDen fun d => { d with heartbeatSeq := (s.sys.den.heartbeatSeq + 1) % 65536 }
    Runs .heartbeatSend s (y.broadcast .heartbeat true (le 2 16 ++
      le 1 (if s.sys.boot.strapFault then 3 else if s.sys.boot.degraded then 2 else 1) ++ le 1 (s.sys.rd (ent 0x2010 1)) ++ le 1 s.sys.twinRole ++
      le 1 (s.sys.rd (ent 0x2300 2)) ++ le 2 s.sys.den.heartbeatSeq ++ le 8 s.sys.ns))) ∧
  (∀ s : State, s.sys.boot.phase = .running → s.sys.rd (ent 0x1100 3) ≠ 0 →
    let n := (s.sys.den.timeSeq + 1) % 256
    Runs .timeSyncSend s ((s.sys.onDen fun d => { d with timeSeq := n }).broadcast .time false (le 2 4 ++ le 1 0 ++ le 1 n))) ∧
  (∀ (s : State) (p : Fin 4), s.sys.boot.phase = .running → s.sys.rd (ent 0x1100 3) ≠ 0 → s.sys.canOn p.val = true →
    s.sys.rd (ent (0x1108 + p.val) 7) ≠ 2 → s.sys.isShadow = false →
    Completes (.timeFollowSend p) s fun t =>
      (∃ b, t.sys.tx = s.sys.tx ++ [.denval (4 + p.val) 0 0 0 0 b] ∧ rdLe b 4 1 = s.sys.rd (ent 0x2300 2) % 256 ∧ rdLe b 6 12 = s.sys.t96 % 2 ^ 96) ∧ Leaves [.tx] (only []) (only []) s t) ∧
  (∀ (s : State) (p : Fin 4), s.sys.canOn p.val = true → s.sys.rd (ent (0x1108 + p.val) 7) ≠ 2 → Room s →
    Completes (.canBusOff p) s fun t =>
      t.sys.rd (ent (0x1108 + p.val) 7) = 2 ∧ t.sys.rd (ent (0x1108 + p.val) 6) = (s.sys.rd (ent (0x1108 + p.val) 6) + 1) % 2 ^ 32 ∧
      Logs s t 0x0407 p.val (ev [(0, 1, p.val)]) ∧
      Leaves [.log] (only [ent (0x1108 + p.val) 6, ent (0x1108 + p.val) 7]) (only []) s t) ∧
  (∀ (s : State) (p : Fin 4), s.sys.rd (ent (0x1108 + p.val) 7) = 2 → Room s →
    Completes (.canBusRecovered p) s fun t =>
      t.sys.rd (ent (0x1108 + p.val) 7) = 0 ∧ 
      t.sys.tx = s.sys.tx ++ ((tget (fun _ => []) s.sys.den.canQueued p.val).filter fun e => !s.sys.eventLate e).map Prod.snd ∧
      Logs s t 0x0408 p.val (ev [(0, 1, p.val), (1, 2, tget (fun _ => 0) s.sys.den.canDropped p.val)]) ∧
      Leaves [.den, .tx, .log] (only [ent (0x1108 + p.val) 7]) (only []) s t) ∧
  (∀ s : State, s.sys.consoleOpen s.otp = true → Runs (.consoleIdentify [73]) s (s.sys.consoleIdentify s.otp)) ∧
  (∀ (s : State) (line : Bytes) (k off : Nat), s.sys.consoleOpen s.otp = true → line.head? = some 82 → consoleLine line = some (.read k off) →
    Runs (.consoleRead line) s (s.sys.consoleRead s.otp k off)) ∧
  (∀ (s : State) (line : Bytes) (k : Nat) (v : Bytes), s.sys.consoleOpen s.otp = true → line.head? = some 87 → consoleLine line = some (.write k v) →
    Runs (.consoleWrite line) s (s.sys.consoleWrite s.otp k v)) ∧
  (∀ (s : State) (at_ : Nat) (l : List (Nat × Bytes)), s.sys.den.saving = some (at_, l) →
    Completes .parameterStoreDone s fun t =>
      t.sys.mram = { s.sys.mram with store := l, copy := 1 - s.sys.mram.copy, broken := false } ∧ t.sys.den.saving = none ∧
      t.sys.rd (ent 0x1104 2) = 2 ∧ t.sys.rd (ent 0x1104 3) = at_ ∧
      Leaves [.mram, .den] (only [ent 0x1104 2, ent 0x1104 3]) (only []) s t) ∧
  (∀ (s : State) (a : BitVec 32), s.sys.rd (ent 0x1101 2) = 1 → s.sys.rdB (ent 0x1101 8) ≠ le 4 a.toNat →
    Completes (.dhcpv4Lease (some a)) s fun t =>
      t.sys.rdB (ent 0x1101 8) = le 4 a.toNat ∧ (∀ u ∈ t.sys.den.sessions, u.path = 3 → isFar u.source = true) ∧
      Leaves [.den] (only [ent 0x1103 1]) (only [ent 0x1101 8]) s t)

/-- Records and interrupts (R169, R181 to R187, R192, R402, R751 to R757): a manifest or a colour record that is due is signed, issued and counted, and
none is where the life-cycle state produces none; a report
answers the nonce that waits; the oldest record enters the ring; a read of records moves the reader's cursor behind them, and a read of a pending word
clears it; with its link up the endpoint sends its vectors. -/
def Obligations.RecordsAreIssuedReadAndTold : Prop :=
  (∀ (s : State) (x : Fin 16) (d : BitVec 16) (f : Frame), s.sys.manifestDue x.val = some f → s.otp.produces = true →
    Completes (.manifestIssue x d) s fun t =>
      let starts := f.chainStart || !(s.sys.chain x.val).started
      let m := s.sys.manifestBody s.otp { f with chainStart := starts } (s.sys.chain x.val)
      t.sys.rdB (ent 0x1402 (x.val + 1)) = m ++ s.sys.sign m ∧ t.sys.rd (ent 0x1400 1) = (s.sys.rd (ent 0x1400 1) + 1) % 2 ^ 64 ∧
      (t.sys.chain x.val).started = true ∧ (t.sys.chain x.val).previous = sha256 (m ++ s.sys.sign m) ∧
      (t.sys.chain x.val).sequence = (if starts then 1 else (s.sys.chain x.val).sequence + 1) ∧ t.otp = s.otp ∧ t.pending = s.pending) ∧
  (∀ (s : State) (x : Fin 16) (d : BitVec 16), s.otp.produces = false → Runs (.manifestIssue x d) s s.sys ∧ Runs (.colourRecordIssue x) s s.sys) ∧
  (∀ (s : State) (x : Fin 16) (f : Frame), (s.sys.frames.find? fun f => f.ctx == x.val && !f.recordIssued) = some f → s.otp.produces = true →
    Completes (.colourRecordIssue x) s fun t =>
      t.sys.rdB (ent (0x3C10 + x.val) 8) = s.sys.colourBody f ++ s.sys.sign (s.sys.colourBody f) ∧
      t.sys.rd (ent (0x3C10 + x.val) 9) = (s.sys.rd (ent (0x3C10 + x.val) 9) + 1) % 2 ^ 32 ∧ t.otp = s.otp) ∧
  (∀ (s : State) (n : Bytes), s.sys.sec.nonce = some n → Room s →
    Completes .attestationReportReady s fun t =>
      t.sys.sec = { s.sys.sec with nonce := none } ∧ t.sys.rdB (ent 0x1406 2) = s.sys.reportBody s.otp n ++ s.sys.sign (s.sys.reportBody s.otp n) ∧
      Logs s t 0x050C 255 (ev [(0, 8, rdLe n 0 8)]) ∧ Leaves [.sec, .log] (only []) (only [ent 0x1406 2]) s t) ∧
  (∀ (s : State) (r : EventRecord) (rest : List EventRecord), s.sys.boot.phase = .running → s.sys.log.pending = r :: rest →
    Completes .eventLogWrite s fun t =>
      (∃ n, t.sys.mram.ring.getLast? = some (n, r)) ∧ (∃ l, t.sys.log.pending = rest ++ l) ∧ t.otp = s.otp) ∧
  (∀ (s : State) (w : Writer), Completes (.eventRecordRead w true) s fun t =>
    t.sys.cursorOf w.path.val 0 w.session.toNat =
      (match ((s.sys.recordsFrom (s.sys.cursorFrom w.path.val 0 w.session.toNat).1 32).getLast?) with
        | some p => p.1 + 1 | none => (s.sys.cursorFrom w.path.val 0 w.session.toNat).1) ∧
    Leaves [.den] (only [ent 0x1300 7]) (only []) s t) ∧
  (∀ (s : State) (w : Writer), Completes (.eventRecordRead w false) s fun t =>
    t.sys.cursorOf w.path.val 0 w.session.toNat =
      (match ((s.sys.recordsFrom (s.sys.cursorFrom w.path.val 0 w.session.toNat).1 1).getLast?) with
        | some p => p.1 + 1 | none => (s.sys.cursorFrom w.path.val 0 w.session.toNat).1) ∧
    Leaves [.den] (only [ent 0x1300 7]) (only []) s t) ∧
  (∀ (s : State) (w : Writer) (i : Fin 4), Completes (.interruptPendingRead w i) s fun t =>
    (i.val < 2 → t.sys.rd (ent 0x1311 (i.val + 1)) = 0) ∧ (2 ≤ i.val → t.sys.rdB (ent 0x1311 (i.val + 1)) = List.replicate 24 0) ∧
    Leaves [.boot] (only [ent 0x1311 (i.val + 1)]) (only [ent 0x1311 (i.val + 1)]) s t) ∧
  (∀ s : State, Completes .endpointLinkUp s fun t =>
    t.sys.boot = { s.sys.boot with epLink := true } ∧ (∃ l, t.sys.tx = s.sys.tx ++ l ∧ ∀ m ∈ l, ∃ v, m = .msix v ∧ v ∉ s.sys.boot.masked) ∧
    Leaves [.boot, .tx] (only []) (only []) s t)

/-- The time base (R196 to R209): the saved time is T96; a source that may qualify while none is followed is acquired; the increment ramps to the
frequency found at 0.5 ppm/s at most and stays within 25 ppm, and the offset goes once it is there; lock follows the threshold both ways and is logged;
a fault of the selected source leads to holdover, and holdover past its limit is logged; a setting of the time waits for the PPS where that is the
source, and is applied at its edge; an edge that no setting waits for marks the nearest whole second, and one on a ball narrower than 10 ns nothing. -/
def Obligations.TimeBaseFollowsItsSources : Prop :=
  (∀ (s : State) (temp : BitVec 32), Completes (.timeBaseSave temp) s fun t =>
    t.sys.mram = { s.sys.mram with savedTime := s.sys.t96, drift := t.sys.mram.drift } ∧
    (s.sys.tbState ≠ 2 → t.sys.mram.drift = s.sys.mram.drift) ∧ t.sys.rd (ent 0x2300 7) = temp.toNat ∧
    Leaves [.mram, .time] (only [ent 0x2300 3, ent 0x2300 5, ent 0x2300 6, ent 0x2300 7, ent 0x2303 1, ent 0x2303 2]) (only []) s t) ∧
  (∀ (s : State) (c : TimeSource) (o : Int) (tr : Bool) (ts : BitVec 8), s.sys.tbState ≠ 1 → s.sys.tbState ≠ 2 → s.sys.timeSources = [c.code] →
    s.sys.mayQualify c.code = true →
    Completes (.sourceQualified c o tr ts) s fun t =>
      c.code ∈ t.sys.time.qualified ∧ t.sys.tbState = 1 ∧ t.sys.tbSource = c.code ∧ t.sys.time.offset = o ∧ t.otp = s.otp ∧ t.pending = s.pending) ∧
  (∀ (s : State) (incr : BitVec 40) (o : Int), s.sys.tbState = 1 → s.sys.tbSource = 1 → s.sys.time.acquired = false →
    Completes (.frequencyAcquired incr o) s fun t =>
      let f := max (nominalIncr - 214748) (min (nominalIncr + 214748) incr.toNat)
      let old := s.sys.rd (ent 0x2300 3)
      let ramp := nominalIncr * (s.sys.up - s.sys.time.adjAt) / 2000000000000000
      t.sys.time.freq = f ∧
      t.sys.rd (ent 0x2300 3) = max (nominalIncr - 214748) (min (nominalIncr + 214748) (max (old - ramp) (min (old + ramp) f))) ∧
      t.sys.time.acquired = decide (((f : Int) - t.sys.rd (ent 0x2300 3)).natAbs ≤ 85) ∧
      (t.sys.time.acquired = true → t.sys.time.offset = 0) ∧ (t.sys.time.acquired = false → t.sys.time.offset = s.sys.time.offset) ∧ t.sys.t96 = s.sys.t96 ∧ t.otp = s.otp ∧ t.pending = s.pending) ∧
  (∀ (s : State) (o : Int), s.sys.tbState = 1 → o.natAbs ≤ s.sys.rd (ent 0x2301 0x0A) * 2 ^ 32 → Room s →
    Completes (.timeLocked o) s fun t =>
      t.sys.tbState = 2 ∧ t.sys.tbSource = s.sys.tbSource ∧ t.sys.time.disciplined = true ∧ t.sys.time.offset = o ∧
      t.sys.time.lockedAt = some s.sys.t96 ∧ Logs s t 0x0605 255 (ev [(0, 1, s.sys.tbSource), (4, 4, ofI 32 (satI32 (offNs o)))]) ∧
      Leaves [.time, .log] (only [ent 0x2300 2, ent 0x2300 3, ent 0x2300 4, ent 0x2300 5, ent 0x2300 6, ent 0x2303 1, ent 0x2303 2]) (only []) s t) ∧
  (∀ (s : State) (o : Int), s.sys.tbState = 2 → s.sys.rd (ent 0x2301 0x0A) * 2 ^ 32 < o.natAbs → Room s →
    Completes (.lockLost o) s fun t =>
      t.sys.tbState = 1 ∧ t.sys.tbSource = s.sys.tbSource ∧ t.sys.time.offset = o ∧ t.sys.time.lockedAt = none ∧
      Logs s t 0x060E 255 (ev [(0, 1, s.sys.tbSource), (4, 4, ofI 32 (satI32 (offNs o)))]) ∧ t.sys.t96 = s.sys.t96) ∧
  (∀ (s : State) (c : TimeSource) (fault : RefFault) (temp : BitVec 32), s.sys.tbFollows = true → s.sys.tbSource = c.code → s.sys.timeSources = [c.code] →
    Completes (.referenceFault c fault temp) s fun t =>
      t.sys.tbState = 3 ∧ c.code ∉ t.sys.time.qualified ∧ t.sys.time.hold.isSome = true ∧ t.sys.t96 = s.sys.t96 ∧ t.otp = s.otp) ∧
  (∀ (s : State) (temp : BitVec 32) (h : Holdover), s.sys.tbState = 3 → s.sys.time.hold = some h →
    (s.sys.rd (ent 0x2301 6) : Rat) < holdError h s.sys.up → Room s →
    Completes (.holdoverLimitExceeded temp) s fun t =>
      t.sys.tbState = 4 ∧ (t.sys.log.pending.map (·.code)) = s.sys.log.pending.map (·.code) ++ [0x0603] ∧
      Leaves [.time, .log] (only [ent 0x2300 2, ent 0x2300 3, ent 0x2300 5, ent 0x2300 6, ent 0x2300 7, ent 0x2303 1, ent 0x2303 2]) (only []) s t) ∧
  (∀ (s : State) (v : BitVec 96), s.sys.tbFollows = true → s.sys.tbSource = 2 →
    Completes (.timeSet v) s fun t => t.sys.time = { s.sys.time with timeSet := some v.toNat } ∧ Leaves [.time] (only []) (only []) s t) ∧
  (∀ (s : State) (v : BitVec 96), s.sys.tbState = 0 → s.sys.rd (ent 0x2301 8) * 2 ^ 32 < ((v.toNat : Int) - s.sys.t96).natAbs → s.sys.tbFollows = false →
    Completes (.timeSet v) s fun t => t.sys.t96 = v.toNat ∧ t.sys.rd (ent 0x2300 0x0A) = (s.sys.rd (ent 0x2300 0x0A) + 1) % 2 ^ 32) ∧
  (∀ (s : State) (e : BitVec 96) (w : BitVec 32) (v : Nat), s.sys.boot.phase = .running → s.sys.tioHeld = false → s.sys.rd (ent 0x2301 4) < 32 →
    s.sys.tioFn (s.sys.rd (ent 0x2301 4)) = 2 → 2 ∈ s.sys.timeSources → 10 ≤ w.toNat → s.sys.time.timeSet = some v →
    let o : Int := (v : Int) - e.toNat
    Runs (.ppsInEdge e w) s (Sys.showTime (Sys.applyOffset (s.sys.onTime fun b =>
      { b with timeSet := none, samples := (2, o, s.sys.up, 0) :: b.samples.filter fun p => p.1 != 2 }) o 1))) ∧
  (∀ (s : State) (e : BitVec 96) (w : BitVec 32), s.sys.boot.phase = .running → s.sys.tioHeld = false → s.sys.rd (ent 0x2301 4) < 32 →
    s.sys.tioFn (s.sys.rd (ent 0x2301 4)) = 2 → 2 ∈ s.sys.timeSources → 10 ≤ w.toNat → s.sys.time.timeSet = none →
    Runs (.ppsInEdge e w) s (s.sys.measure 2 (s.sys.ppsSecond e.toNat - e.toNat) 100 3)) ∧
  (∀ (s : State) (e : BitVec 96) (w : BitVec 32), w.toNat < 10 → Runs (.ppsInEdge e w) s s.sys)

/-- PTP (R207, R211 to R214): a port takes messages of its domain alone; one that listens shows the grandmaster it hears, and in AUTO an Announce makes
its sender a foreign master and runs the BMCA; on a SLAVE port a Sync waits for its Follow_Up, which gives the offset, and a Delay_Resp the path delay;
a MASTER port answers delay requests and sends its messages with numbers that count up; a port that hears no master forgets it. -/
def Obligations.PtpPortsTalk : Prop :=
  (∀ (s : State) (p : Fin 9) (a : PtpAnnounce), s.sys.ptpHears p.val a.domain = true → s.sys.ptpMode = 3 →
    a.grandmaster.toNat ≠ clockIdentity s.otp.dieId →
    Completes (.ptpAnnounceReceive p a) s fun t =>
      t.sys.rdB (ent 0x2303 3) = (le 8 a.grandmaster.toNat).reverse ∧ t.sys.rd (ent 0x2303 4) = a.steps.toNat ∧
      Leaves [.ptp] (only [ent 0x2303 4]) (only [ent 0x2303 3]) s t) ∧
  (∀ (s : State) (p : Fin 9) (d : BitVec 8) (seq : BitVec 16) (rx : BitVec 96), s.sys.ptpHears p.val d = true → s.sys.ptpState p.val = 9 →
    Completes (.ptpSyncReceive p d seq rx none) s fun t =>
      t.sys.ptpPort p.val = { s.sys.ptpPort p.val with sync := some (seq.toNat, rx.toNat) } ∧ (∀ j, j ≠ p.val → t.sys.ptpPort j = s.sys.ptpPort j) ∧
      Leaves [.ptp] (only []) (only []) s t) ∧
  (∀ (s : State) (p : Fin 9) (d : BitVec 8) (seq : BitVec 16) (origin : BitVec 96) (t2 : Nat), s.sys.ptpHears p.val d = true → s.sys.ptpMode = 3 →
    (s.sys.ptpPort p.val).sync = some (seq.toNat, t2) →
    Completes (.ptpFollowUpReceive p d seq origin) s fun t =>
      t.sys.rdI (ent 0x2303 5) = satI32 (offNs ((t2 : Int) - origin.toNat)) ∧ t.sys.rd (ent 0x2303 6) = 0 ∧ (t.sys.ptpPort p.val).pair = some (origin.toNat, t2) ∧ t.otp = s.otp) ∧
  (∀ (s : State) (p : Fin 9) (d : BitVec 8) (seq : BitVec 16) (rq : BitVec 64) (rx : BitVec 96), s.sys.ptpHears p.val d = true →
    s.sys.ptpState p.val = 6 →
    Runs (.ptpDelayReqReceive p d seq rq rx) s (s.sys.send (.ptp p.val d.toNat 9 seq.toNat rx.toNat (le 8 rq.toNat)))) ∧
  (∀ (s : State) (p : Fin 9) (d : BitVec 8) (seq : BitVec 16) (rx : BitVec 96) (t1 t2 t3 : Nat), s.sys.ptpHears p.val d = true →
    (s.sys.ptpPort p.val).delay = some (seq.toNat, t3) →
    (s.sys.ptpPort p.val).pair = some (t1, t2) → s.sys.ptpState p.val = 9 →
    Completes (.ptpDelayRespReceive p d seq rx) s fun t =>
      t.sys.rd (ent 0x2303 6) = min 0xFFFFFFFF (offNs (((t2 : Int) - t1 + ((rx.toNat : Int) - t3)) / 2)).toNat ∧
      t.sys.ptpPort p.val = { s.sys.ptpPort p.val with delay := none } ∧ Leaves [.ptp] (only [ent 0x2303 6]) (only []) s t) ∧
  (∀ (s : State) (p : Fin 9) (c : Instr) (kind : Nat), (c, kind) ∈ [(.ptpAnnounceSend p, 11), (.ptpSyncSend p, 0), (.ptpMetadataSend p, 13)] →
    s.sys.inReset = false → s.sys.ptpOn p.val = true → s.sys.ptpState p.val = 6 →
    Completes c s fun t =>
      let n := ((s.sys.ptpPort p.val).seqs.lookup kind).getD 0
      (t.sys.ptpPort p.val).seqs.lookup kind = some ((n + 1) % 65536) ∧ (∃ b l, t.sys.tx = s.sys.tx ++ .ptp p.val (s.sys.rd (ent 0x2302 3)) kind n 0 b :: l) ∧
      (∀ j, j ≠ p.val → t.sys.ptpPort j = s.sys.ptpPort j) ∧ Leaves [.ptp, .tx] (only []) (only []) s t) ∧
  (∀ (s : State) (p : Fin 9), s.sys.ptpOn p.val = true → s.sys.ptpState p.val = 9 →
    Completes (.ptpDelayReqSend p) s fun t =>
      let n := ((s.sys.ptpPort p.val).seqs.lookup 1).getD 0
      (t.sys.ptpPort p.val).delay = some (n, s.sys.t96) ∧ (∃ b, t.sys.tx = s.sys.tx ++ [.ptp p.val (s.sys.rd (ent 0x2302 3)) 1 n s.sys.t96 b]) ∧
      Leaves [.ptp, .tx] (only []) (only []) s t) ∧
  (∀ (s : State) (p : Fin 9), s.sys.ptpOn p.val = true → s.sys.ptpMode = 2 →
    Completes (.ptpAnnounceTimeout p) s fun t =>
      (t.sys.ptpPort p.val).foreign = (if s.sys.ptpState p.val = 9 ∨ s.sys.ptpState p.val = 7 then
        (match s.sys.portBest p.val with
          | some g => (s.sys.ptpPort p.val).foreign.filter fun f => f.sender != g.sender
          | none => []) else []) ∧
      (t.sys.ptpPort p.val).pair = none ∧ (t.sys.ptpPort p.val).delay = none ∧ t.otp = s.otp ∧ t.pending = s.pending) ∧
  (∀ (s : State) (p : Fin 9) (a : PtpAnnounce), s.sys.ptpHears p.val a.domain = true → s.sys.ptpMode = 2 →
    a.grandmaster.toNat ≠ clockIdentity s.otp.dieId → (s.sys.ptpPort p.val).foreign = [] →
    let f : Foreign := ⟨[a.priority1.toNat, a.clockClass.toNat, a.accuracy.toNat, a.variance.toNat, a.priority2.toNat, a.grandmaster.toNat],
      a.steps.toNat, a.sender.toNat, a.timeSource.toNat, 1⟩
    Runs (.ptpAnnounceReceive p a) s
      (Sys.followOrigin ((s.sys.setPtp p.val { s.sys.ptpPort p.val with foreign := [f] }).bmca s.otp.dieId) p.val)) ∧
  (∀ (s : State) (p : Fin 9) (a : PtpAnnounce), s.sys.ptpHears p.val a.domain = false → Runs (.ptpAnnounceReceive p a) s s.sys)

/-- Timing balls and launches (R217 to R223): an output edge is placed after the last; a capture joins the ball's FIFO of 16 and a read takes the
oldest; an input shorter than 10 ns is ignored, and any while the inputs are held (R83); a valid entry is queued in launch-time order; a cancelled entry that is not due within 10 µs leaves the queue; the entry that is due launches
or is discarded by its policy. -/
def Obligations.TimingBallsAndLaunches : Prop :=
  (∀ (s : State) (b : Fin 32), s.sys.tioFn b.val = 1 →
    Completes (.tioEdgeOut b) s fun t =>
      (∃ e, (t.sys.tio b.val).last = some e ∧ (s.sys.tioDriven b.val = true →
        t.sys.tx = s.sys.tx ++ [.tio b.val e (s.sys.rd (ent (0x2320 + b.val) 5)) (s.sys.tioPin b.val true)])) ∧
      (t.sys.tio b.val).fifo = (s.sys.tio b.val).fifo ∧ (∀ j, j ≠ b.val → t.sys.tio j = s.sys.tio j) ∧ Leaves [.tios, .tx] (only []) (only []) s t) ∧
  (∀ (s : State) (b : Fin 32) (e : BitVec 96) (falling : Bool) (w : BitVec 32), s.sys.tioFn b.val = 7 → 10 ≤ w.toNat → s.sys.tioHeld = false →
    s.sys.rd (ent 0x4C00 5) ≠ b.val → s.sys.rd (ent 0x4D00 5) ≠ b.val →
    Completes (.tioCapture b e falling w) s fun t =>
      ((s.sys.tio b.val).fifo.length < 16 → (t.sys.tio b.val).fifo = (s.sys.tio b.val).fifo ++ [(e.toNat, falling)] ∧
        Leaves [.tios] (only []) (only [ent (0x2320 + b.val) 8]) s t) ∧
      (16 ≤ (s.sys.tio b.val).fifo.length → t.sys.tio b.val = s.sys.tio b.val ∧
        t.sys.rd (ent (0x2320 + b.val) 7) = (s.sys.rd (ent (0x2320 + b.val) 7) + 1) % 2 ^ 32 ∧
        Leaves [.log] (only [ent (0x2320 + b.val) 7]) (only []) s t)) ∧
  (∀ (s : State) (b : Fin 32) (e : BitVec 96) (falling : Bool) (w : BitVec 32), w.toNat < 10 ∨ s.sys.tioHeld = true →
    Runs (.tioCapture b e falling w) s s.sys) ∧
  (∀ (s : State) (b : Fin 32), Completes (.captureFifoRead b) s fun t =>
    t.sys.tio b.val = { s.sys.tio b.val with fifo := (s.sys.tio b.val).fifo.drop 1 } ∧ (∀ j, j ≠ b.val → t.sys.tio j = s.sys.tio j) ∧
    Leaves [.tios] (only []) (only [ent (0x2320 + b.val) 8]) s t) ∧
  (∀ (s : State) (b : Bytes) (i : BitVec 16) (r : Fin 9), b.length = 32 → s.sys.launchOk (launchOf b i.toNat) = true → s.sys.hostLaunches.length < 192 →
    Completes (.launchSubmit b i r) s fun t =>
      t.sys.launches = queueLaunch (launchOf b i.toNat) s.sys.launches ∧ t.sys.rd (ent 0x2310 3) = s.sys.hostLaunches.length + 1 ∧
      Leaves [.launches] (only [ent 0x2310 3]) (only []) s t) ∧
  (∀ (s : State) (b : Bytes) (i : BitVec 16) (r : Fin 9), b.length = 32 → s.sys.launchOk (launchOf b i.toNat) = true → 192 ≤ s.sys.hostLaunches.length →
    Room s → Completes (.launchSubmit b i r) s fun t => Logs s t 0x060C 255 (ev [(0, 1, r.val)]) ∧ Leaves [.log] (only []) (only []) s t) ∧
  (∀ (s : State) (c : Instr) (p : Launch → Bool) (id i : BitVec 16),
    c = .launchCancel id i ∧ p = (fun e => e.host && (e.id == id.toNat && e.session == i.toNat)) ∨ c = .launchCancelAny id ∧ p = (fun e => e.host && e.id == id.toNat) ∨
      c = .launchCancelAll ∧ p = (fun e => e.host) →
    s.sys.launches.any p = true → (∀ e ∈ s.sys.launches, p e = true → s.sys.t96 + 10000 * 2 ^ 32 ≤ e.time) →
    Completes c s fun t =>
      t.sys.launches = s.sys.launches.filter (fun e => !p e) ∧
      t.sys.rd (ent 0x2310 7) = (s.sys.rd (ent 0x2310 7) + (s.sys.launches.filter p).length) % 2 ^ 32 ∧
      Leaves [.launches] (only [ent 0x2310 3, ent 0x2310 7]) (only []) s t) ∧
  (∀ (s : State) (e : Launch) (l : List Launch), s.sys.launches = e :: l → e.host = true → e.left = 0 → s.sys.t96 ≤ e.time → e.kind = 1 →
    Completes .launchDue s fun t =>
      let stop := max (s.sys.tio e.target).pulse (e.time + e.param * 2 ^ 32)
      t.sys.launches = l ∧ t.sys.rd (ent 0x2310 4) = (s.sys.rd (ent 0x2310 4) + 1) % 2 ^ 64 ∧ (t.sys.tio e.target).pulse = stop ∧
      (s.sys.tioDriven e.target = true → s.sys.tioFn e.target = 6 →
        t.sys.tx = s.sys.tx ++ [.tio e.target e.time ((stop - e.time + 2 ^ 32 - 1) / 2 ^ 32) (s.sys.tioPin e.target true)]) ∧
      t.otp = s.otp ∧ t.pending = s.pending) ∧
  (∀ (s : State) (e : Launch) (l : List Launch), s.sys.launches = e :: l → e.host = true → e.left = 0 → e.time < s.sys.t96 →
    e.policy = 0 ∨ e.policy = 2 ∧ e.time + e.window * 2 ^ 32 < s.sys.t96 →
    Completes .launchDue s fun t =>
      t.sys.launches = l ∧ t.sys.rd (ent 0x2310 6) = (s.sys.rd (ent 0x2310 6) + 1) % 2 ^ 32 ∧ t.sys.rd (ent 0x2310 4) = s.sys.rd (ent 0x2310 4) ∧
      Leaves [.launches, .log] (only [ent 0x2310 3, ent 0x2310 6]) (only []) s t)

/-- Bring-up of a lane (R233, R234, R240, R241, R246): each event moves the lane from the step that waits for it to the next: the PLL to the signal or
to clock recovery, the end of loss of signal to clock recovery, recovery within 300 ppm to adaptation, or to block lock where it resumes, adaptation
to block lock, block lock to training, and a retry to the PLL. An enabled link lane whose PLL has locked sends training blocks (R237). Adaptation is
written at its step and while the lane is active, and held while it is frozen (R232). 64 valid headers in a row lock the blocks (R230), one bit being
slipped after each invalid one: a lane that needs a map, or comes up from DISABLED, trains, and one that holds its map delivers with its mates. One that
leaves QUIET delivers after 4 valid headers, and hunts where they are not valid (R242). A retry clears the locks. Eye scans are admitted on an active lane and end with their counts. -/
def Obligations.LaneBringUpGoesStepByStep : Prop :=
  (∀ (s : State) (n : Fin 80), (s.sys.lane n.val).step = 2 → n.val < 48 → Completes (.lanePllLocked n) s fun t =>
    t.sys.lane n.val = { s.sys.lane n.val with step := if s.sys.laneHas n.val .los then 3 else 4 } ∧ (∀ j, j ≠ n.val → t.sys.lane j = s.sys.lane j) ∧
    Leaves [.lanes] (only []) (only []) s t) ∧
  (∀ (s : State) (n : Fin 80), (s.sys.lane n.val).step = 2 → 48 ≤ n.val → (s.sys.lane n.val).sends = .idle → (s.sys.lane n.val).partner = false →
    s.sys.rd (ent (0x2400 + n.val) 1) ≠ 3 →
    s.sys.quadFn (quadOf n.val) = .garos ∨ s.sys.quadFn (quadOf n.val) = .felley ∧ s.sys.isShadow = false →
    Completes (.lanePllLocked n) s fun t =>
      t.sys.lane n.val = { s.sys.lane n.val with
        step := if s.sys.laneHas n.val .los then 3 else 4, sends := .training, seq := s.sys.trainSeq n.val, seqAt := some s.sys.up } ∧
      t.sys.tx = s.sys.tx ++ [.training n.val (trainingBytes (n.val % 4 + 16 * (s.sys.rd (ent (0x2488 + quadOf n.val) 3) % 4)) (s.sys.laneProtocol n.val)
        (s.sys.lane n.val).stored.isSome (s.sys.trainSeq n.val)) none] ∧ (∀ j, j ≠ n.val → t.sys.lane j = s.sys.lane j) ∧ Leaves [.lanes, .tx] (only []) (only []) s t) ∧
  (∀ (s : State) (n : Fin 80), s.sys.laneHas n.val .los = true → (s.sys.lane n.val).step = 3 → Completes (.losClear n) s fun t =>
    t.sys.laneHas n.val .los = false ∧ t.sys.lane n.val = { s.sys.lane n.val with losAt := none, step := 4 } ∧
    Leaves [.lanes, .log] (only [ent (0x2400 + n.val) 3]) (only []) s t) ∧
  (∀ (s : State) (n : Fin 80) (o : BitVec 32), (s.sys.lane n.val).step = 4 → o.toInt.natAbs ≤ 3000 → Completes (.cdrLock n o) s fun t =>
    t.sys.laneHas n.val .cdr = true ∧ t.sys.rd (ent (0x2400 + n.val) 0x0A) = o.toNat ∧
    t.sys.lane n.val = { s.sys.lane n.val with step := if (s.sys.lane n.val).resume then 6 else 5 } ∧
    Leaves [.lanes] (only [ent (0x2400 + n.val) 3, ent (0x2400 + n.val) 0x0A]) (only []) s t) ∧
  (∀ (s : State) (n : Fin 80) (o : BitVec 32), 3000 < o.toInt.natAbs → Runs (.cdrLock n o) s s.sys) ∧
  (∀ (s : State) (n : Fin 80) (pk : BitVec 8) (taps : BitVec 64), (s.sys.lane n.val).step = 5 → equaliserOk pk.toNat (le 8 taps.toNat) = true →
    Completes (.adaptationDone n pk taps) s fun t =>
      t.sys.lane n.val = { s.sys.lane n.val with step := 6 } ∧
      (s.sys.laneHas n.val .frozen = false → t.sys.rd (ent (0x2400 + n.val) 8) = pk.toNat ∧ t.sys.rdB (ent (0x2400 + n.val) 9) = le 8 taps.toNat) ∧
      (s.sys.laneHas n.val .frozen = true → Leaves [.lanes] (only []) (only []) s t) ∧
      Leaves [.lanes] (only [ent (0x2400 + n.val) 8]) (only [ent (0x2400 + n.val) 9]) s t) ∧
  (∀ (s : State) (n : Fin 80) (pk : BitVec 8) (taps : BitVec 64), s.sys.laneIs n.val .active = true → (s.sys.lane n.val).step ≠ 5 →
    equaliserOk pk.toNat (le 8 taps.toNat) = true → s.sys.laneHas n.val .frozen = false → Completes (.adaptationDone n pk taps) s fun t =>
      t.sys.rd (ent (0x2400 + n.val) 8) = pk.toNat ∧ t.sys.rdB (ent (0x2400 + n.val) 9) = le 8 taps.toNat ∧
      Leaves [] (only [ent (0x2400 + n.val) 8]) (only [ent (0x2400 + n.val) 9]) s t) ∧
  (∀ (s : State) (n : Fin 80) (h : List (BitVec 2)), (s.sys.lane n.val).step = 6 → (s.sys.lane n.val).quick = false →
    (s.sys.lane n.val).stored = none ∨ (s.sys.lane n.val).fresh = true → n.val < 48 ∨ s.sys.quadFn (quadOf n.val) ≠ .prbs → 64 ≤ (hunt h).1 →
    Completes (.blockLock n h) s fun t =>
      t.sys.laneHas n.val .block = true ∧
      t.sys.lane n.val = { s.sys.lane n.val with step := 7, slip := ((s.sys.lane n.val).slip + (hunt h).2) % 66 } ∧
      Leaves [.lanes] (only [ent (0x2400 + n.val) 3]) (only []) s t) ∧
  (∀ (s : State) (n : Fin 80) (h : List (BitVec 2)), (s.sys.lane n.val).step = 6 → (s.sys.lane n.val).quick = false →
    (s.sys.lane n.val).stored ≠ none → (s.sys.lane n.val).fresh = false → 64 ≤ (hunt h).1 →
    Runs (.blockLock n h) s (Sys.lanesReady ((s.sys.laneFlag n.val .block true).setLane n.val
      { s.sys.lane n.val with step := 8, slip := ((s.sys.lane n.val).slip + (hunt h).2) % 66 }) n.val)) ∧
  (∀ (s : State) (n : Fin 80) (h : List (BitVec 2)), (s.sys.lane n.val).step = 6 → (s.sys.lane n.val).quick = true → 4 ≤ h.length →
    invalidHeaders (h.take 4) = 0 → (s.sys.lane n.val).stored ≠ none → (s.sys.lane n.val).fresh = false →
    Runs (.blockLock n h) s (Sys.lanesReady ((s.sys.laneFlag n.val .block true).setLane n.val { s.sys.lane n.val with step := 8 }) n.val)) ∧
  (∀ (s : State) (n : Fin 80) (h : List (BitVec 2)), (s.sys.lane n.val).step = 6 → (hunt h).1 < 64 →
    (s.sys.lane n.val).quick = false ∨ 4 ≤ h.length ∧ invalidHeaders (h.take 4) ≠ 0 → Completes (.blockLock n h) s fun t =>
      t.sys.laneHas n.val .block = false ∧
      t.sys.lane n.val = { s.sys.lane n.val with slip := ((s.sys.lane n.val).slip + (hunt h).2) % 66, quick := false } ∧
      Leaves [.lanes] (only [ent (0x2400 + n.val) 3]) (only []) s t) ∧
  (∀ (l : List (BitVec 2)), (∀ b ∈ l, headerOf b ≠ .invalid) → hunt l = (l.length, 0)) ∧
  (∀ (l : List (BitVec 2)) (b : BitVec 2), headerOf b = .invalid → hunt (l ++ [b]) = (0, (hunt l).2 + 1)) ∧
  (∀ (s : State) (n : Fin 80), (s.sys.lane n.val).step = 4 ∨ (s.sys.lane n.val).step = 6 → s.sys.rd (ent (0x2400 + n.val) 1) = 0 →
    s.sys.laneIs n.val .bringup = true → Completes (.laneBringupRetry n) s fun t =>
      t.sys.lane n.val = { s.sys.lane n.val with
        step := 2, resume := false, heard := none, round := 0, quick := false, prbs := none, partner := false, sends := .idle,
        seq := s.sys.trainSeq n.val, seqAt := none } ∧
      t.sys.laneHas n.val .cdr = false ∧ t.sys.laneHas n.val .block = false ∧ Leaves [.lanes] (only [ent (0x2400 + n.val) 3]) (only []) s t) ∧
  (∀ (s : State) (w : Writer) (n : Fin 80) (r : Bytes), Admitted s w (ent (0x2400 + n.val) 0x0E) r → Completes (.eyeScanRequest w n r) s fun t =>
    t.sys.rdB (ent (0x2400 + n.val) 0x0F) = pack 24 [(0, 1, 1), (1, 1, rdLe r 0 1), (2, 1, rdLe r 1 1)] ∧ t.sys.lanes = s.sys.lanes ∧
    t.otp = s.otp ∧ t.pending = s.pending) ∧
  (∀ (s : State) (w : Writer) (n : Fin 80) (r : Bytes), (s.sys.arrival s.otp w (ent (0x2400 + n.val) 0x0E) r).1 = .ok →
    s.sys.laneIs n.val .active = true ∧ r.length = 8 ∧ rdLe r 2 2 = 0 ∧ 1 ≤ rdLe r 4 4 ∧ rdLe r 4 4 ≤ 10000000) ∧
  (∀ (s : State) (n : Fin 80) (a b : BitVec 64), rdLe (s.sys.rdB (ent (0x2400 + n.val) 0x0F)) 0 1 = 1 → Completes (.eyeScanDone n a b) s fun t =>
    let v := t.sys.rdB (ent (0x2400 + n.val) 0x0F)
    rdLe v 0 1 = 2 ∧ rdLe v 8 8 = a.toNat ∧ rdLe v 16 8 = b.toNat ∧ Leaves [] (only []) (only [ent (0x2400 + n.val) 0x0F]) s t)

/-- Loss on a lane (R230, R231, R233, R235, R239): loss of signal is flagged, counted and stored, and an active lane goes back to bring-up; a lost
clock or block lock on an active lane counts and goes back to the step that restores it; a high error rate is flagged while the lane keeps delivering;
a map that conforms is stored, and training that finds none fails. Headers that a lane reports while it keeps its lock are counted (R230), the codewords
of an ETH100 lane and the bits of a PRBS lane that differ from its pattern with them (R247, R249, R250). What a lane
scrambles its partner descrambles, and a training block is read back as it was sent, inverted where the lane inverts (R229, R236, R238). -/
def Obligations.LanesLoseAndRegainLock : Prop :=
  ((∀ before plain : BitVec 64, descramble before (scramble before plain) = plain) ∧
  (∀ (before : BitVec 64) (i p n : Nat) (trained : Bool), i < 64 → p < 256 →
    let b := trainingBlock before i p trained n
    readTraining (before, b) = some ⟨i, p, trained, false⟩ ∧ readTraining (~~~before, ~~~b) = some ⟨i, p, trained, true⟩)) ∧
  (∀ (s : State) (n : Fin 80), s.sys.laneIs n.val .active = true → s.sys.laneHas n.val .los = false → Completes (.losAssert n) s fun t =>
    t.sys.laneHas n.val .los = true ∧ t.sys.rd (ent (0x2400 + n.val) 0x0D) = (s.sys.rd (ent (0x2400 + n.val) 0x0D) + 1) % 2 ^ 32 ∧
    t.sys.laneIs n.val .bringup = true ∧ (t.sys.lane n.val).step = 3 ∧ (t.sys.lane n.val).losAt = some s.sys.up ∧ t.otp = s.otp) ∧
  (∀ (s : State) (n : Fin 80) (i : BitVec 32), s.sys.laneIs n.val .active = true → (s.sys.lane n.val).step = 0 → s.sys.laneHas n.val .cdr = true →
    s.sys.laneHas n.val .los = false → Completes (.cdrLockLost n i) s fun t =>
      t.sys.laneIs n.val .bringup = true ∧ (t.sys.lane n.val).step = 4 ∧ (t.sys.lane n.val).resume = true ∧ t.sys.laneHas n.val .cdr = false ∧
      t.sys.rd (ent (0x2400 + n.val) 0x0C) = (s.sys.rd (ent (0x2400 + n.val) 0x0C) + 1) % 2 ^ 32 ∧ t.otp = s.otp) ∧
  (∀ (s : State) (n : Fin 80) (i : BitVec 32) (h : List (BitVec 2)), s.sys.laneIs n.val .active = true → s.sys.laneHas n.val .block = true →
    h.length = 64 → 16 ≤ invalidHeaders h → Completes (.blockLockLost n i h) s fun t =>
      t.sys.laneIs n.val .bringup = true ∧ (t.sys.lane n.val).step = 6 ∧ t.sys.laneHas n.val .block = false ∧
      t.sys.rd (ent (0x2400 + n.val) 0x0B) = (s.sys.rd (ent (0x2400 + n.val) 0x0B) + i.toNat) % 2 ^ 64 ∧ t.otp = s.otp) ∧
  (∀ (s : State) (n : Fin 80) (i : BitVec 32) (h : List (BitVec 2)), s.sys.laneIs n.val .active = true → s.sys.laneHas n.val .block = true →
    h.length ≠ 64 ∨ invalidHeaders h < 16 → Runs (.blockLockLost n i h) s (s.sys.countInvalid n.val i.toNat)) ∧
  (∀ (s : State) (n : Fin 80) (r : LaneReport), s.sys.laneIs n.val .active = true → 97 < r.window.toNat →
    Completes (.hiBerSet n r) s fun t =>
    t.sys.laneHas n.val .hiBer = true ∧ t.sys.laneIs n.val .active = true ∧
    t.sys.rd (ent (0x2400 + n.val) 0x0B) = (s.sys.rd (ent (0x2400 + n.val) 0x0B) + r.invalid.toNat) % 2 ^ 64 ∧
    (t.sys.lane n.val).errored = (s.sys.lane n.val).errored + r.invalid.toNat ∧
    Leaves [.log, .lanes] (only ([ent (0x2400 + n.val) 3, ent (0x2400 + n.val) 0x0B] ++ [6, 7, 8].map (ent (0x2488 + quadOf n.val)))) (only []) s t) ∧
  (∀ (s : State) (n : Fin 80) (r : LaneReport), r.window.toNat ≤ 97 → Completes (.hiBerClear n r) s fun t =>
    t.sys.laneHas n.val .hiBer = false ∧
    (s.sys.laneHas n.val .block = true → t.sys.rd (ent (0x2400 + n.val) 0x0B) = (s.sys.rd (ent (0x2400 + n.val) 0x0B) + r.invalid.toNat) % 2 ^ 64) ∧
    Leaves [.log, .lanes] (only ([ent (0x2400 + n.val) 3, ent (0x2400 + n.val) 0x0B] ++ [6, 7, 8].map (ent (0x2488 + quadOf n.val)))) (only []) s t) ∧
  (∀ (y : Sys) (n : Nat) (r : LaneReport), 48 ≤ n → n < 80 → y.quadFn (quadOf n) = .eth100 →
    let z := y.laneReport n r
    z.rd (ent (0x2488 + quadOf n) 7) = (y.rd (ent (0x2488 + quadOf n) 7) + r.corrected.toNat) % 2 ^ 64 ∧
    z.rd (ent (0x2488 + quadOf n) 8) = (y.rd (ent (0x2488 + quadOf n) 8) + r.uncorrected.toNat) % 2 ^ 64 ∧
    (r.uncorrected = 0 → z.log = y.log) ∧
    (r.uncorrected ≠ 0 → y.limitedNow 0x070A (quadOf n) = false → y.log.pending.length < 256 →
      z.log.pending.map (·.code) = y.log.pending.map (·.code) ++ [0x070A])) ∧
  (∀ (y : Sys) (n : Nat) (r : LaneReport), 48 ≤ n → n < 80 → y.quadFn (quadOf n) = .prbs →
    (y.laneReport n r).rd (ent (0x2488 + quadOf n) 6) =
      (y.rd (ent (0x2488 + quadOf n) 6) + (prbsTake (y.rd (ent (0x2488 + quadOf n) 5)) (y.lane n).prbs r.bits).1) % 2 ^ 64) ∧
  (∀ (s : State) (n : Fin 80) (w : TrainingInput) (m : Training), (s.sys.lane n.val).step = 7 → s.sys.laneIs n.val .active = false →
    s.sys.heardTraining n.val w = some m → s.sys.laneProtocol n.val = m.protocol → s.sys.rd (ent (0x2400 + n.val) 5) = 0 →
    m.index % 16 < (s.sys.enabledMates n.val).length →
    let r := s.sys.reportRound n.val
    (s.sys.setLane n.val { s.sys.lane n.val with heard := some (m.index % 16), round := r }).indexTaken n.val (m.index % 16) r = false →
    Completes (.trainingBlockReceive n w) s fun t =>
      (t.sys.lane n.val).stored = some (m.index % 64, m.inverted) ∧ t.sys.rd (ent (0x2400 + n.val) 4) = m.index % 64 ∧ t.otp = s.otp) ∧
  (∀ (s : State) (n : Fin 80), (s.sys.lane n.val).step = 7 → s.sys.laneIs n.val .bringup = true → (s.sys.lane n.val).later = none →
    Completes (.trainingTimeout n) s fun t =>
      t.sys.laneIs n.val .failed = true ∧ (t.sys.lane n.val).step = 7 ∧ (t.sys.lane n.val).stored = (s.sys.lane n.val).stored ∧ t.otp = s.otp)

/-- What is asked of lanes, groups and quads (R228, R241 to R249): an admitted request is held, and reached where the lane can at once; a lane that rests
keeps its adaptation frozen, and one that leaves QUIET waits for its headers (R242); QUIET and DEEP are not admitted on an ETH100 lane; a missing reference is shown and takes down its ACTIVE and QUIET
lanes, and its return starts the waiting lanes again; RETRAIN forgets the stored maps; a group's rate is admitted while no context owns the group; a
function is taken where its commit finds the allocation of all eight quads legal, and is refused otherwise; the Felley lanes restart. -/
def Obligations.LanesGroupsAndQuadsObey : Prop :=
  (∀ (s : State) (w : Writer) (n : Fin 80), Admitted s w (ent (0x2400 + n.val) 1) (le 2 1) → s.sys.laneIs n.val .active = true → n.val < 48 →
    s.sys.domainRun 24 = true → Completes (.laneRequestedState w n 1) s fun t =>
    t.sys.rd (ent (0x2400 + n.val) 1) = 1 ∧ t.sys.laneIs n.val .quiet = true ∧ t.sys.laneHas n.val .frozen = true ∧ (t.sys.lane n.val).step = 0 ∧
    t.otp = s.otp) ∧
  (∀ (s : State) (w : Writer) (n : Fin 80), Admitted s w (ent (0x2400 + n.val) 1) (le 2 0) → s.sys.laneIs n.val .quiet = true →
    (s.sys.lane n.val).stored ≠ none → s.sys.domainRun (laneDomain n.val) = true → n.val < 48 ∨ s.sys.quadFn (quadOf n.val) ≠ .off →
    Completes (.laneRequestedState w n 0) s fun t =>
      t.sys.rd (ent (0x2400 + n.val) 1) = 0 ∧ t.sys.laneIs n.val .bringup = true ∧ (t.sys.lane n.val).step = 6 ∧ (t.sys.lane n.val).quick = true ∧
      t.otp = s.otp) ∧
  (∀ (s : State) (w : Writer) (n : Fin 80), Admitted s w (ent (0x2400 + n.val) 1) (le 2 3) → s.sys.laneIs n.val .domainOff = false →
    Completes (.laneRequestedState w n 3) s fun t =>
      t.sys.rd (ent (0x2400 + n.val) 1) = 3 ∧ t.sys.laneIs n.val .disabled = true ∧ t.otp = s.otp) ∧
  (∀ (s : State) (w : Writer) (n : Fin 80) (v : Nat), 48 ≤ n.val → s.sys.quadFn (quadOf n.val) = .eth100 → v = 1 ∨ v = 2 →
    (s.sys.arrival s.otp w (ent (0x2400 + n.val) 1) (le 2 v)).1 ≠ .ok) ∧
  (∀ (s : State) (r : Fin 16) (bad : List (BitVec 32)), Completes (.referenceMissing r bad) s fun t =>
    t.sys.rd (refKey r.val) = 0 ∧ (∀ n ∈ refLanes r.val, s.sys.laneIs n .active = true ∨ s.sys.laneIs n .quiet = true →
      t.sys.laneIs n .bringup = true ∧ (t.sys.lane n).step = 1) ∧ t.otp = s.otp) ∧
  (∀ (s : State) (r : Fin 16), Completes (.referenceRestored r) s fun t =>
    t.sys.rd (refKey r.val) = 1 ∧ (∀ n ∈ refLanes r.val, t.sys.lane n = if (s.sys.lane n).step = 1 then { s.sys.lane n with step := 2 } else s.sys.lane n) ∧
    Leaves [.lanes] (only [refKey r.val]) (only []) s t) ∧
  (∀ (s : State) (w : Writer) (r : Fin 16), Admitted s w (if r.val < 8 then ent (0x2480 + r.val) 5 else ent (0x2488 + (r.val - 8)) 0x0A) (le 1 1) →
    Completes (.retrain w r) s fun t =>
    (∀ n ∈ refLanes r.val, t.sys.lane n = { s.sys.lane n with stored := none } ∧ t.sys.rd (ent (0x2400 + n) 4) = 0xFF ∧
      t.sys.laneHas n .trained = false ∧ t.sys.laneHas n .inverted = (s.sys.rd (ent (0x2400 + n) 5) == 2)) ∧ t.otp = s.otp) ∧
  (∀ (s : State) (w : Writer) (g : Fin 8) (r : BitVec 32), Admitted s w (ent (0x2480 + g.val) 1) (le 4 r.toNat) →
    Completes (.ingestLaneRateWrite w g r) s fun t =>
      t.sys.rd (ent (0x2480 + g.val) 1) = r.toNat ∧
      (∀ n ∈ refLanes g.val, s.sys.laneIs n .active = true → t.sys.laneIs n .bringup = true) ∧ t.otp = s.otp) ∧
  (∀ (s : State) (w : Writer) (g : Fin 8) (r : BitVec 32), (s.sys.owner g.val).isSome = true ∨ r.toNat < 2500000 ∨ 20625000 < r.toNat →
    (s.sys.arrival s.otp w (ent (0x2480 + g.val) 1) (le 4 r.toNat)).1 ≠ .ok) ∧
  (∀ (s : State) (w : Writer) (q : Fin 8) (f : BitVec 16), Granted s w (ent (0x2488 + q.val) 1) (le 2 f.toNat) →
    Completes (.quadFunctionWrite w q f) s fun t =>
      f.toNat ≤ 4 ∧ t.sys.rd (ent (0x2488 + q.val) 1) = f.toNat ∧
      (f.toNat ≠ s.sys.rd (ent (0x2488 + q.val) 1) → (t.sys.mail (2 * (q.val + 1))).inbox = []) ∧
      quadsOk t.sys.view.role (t.sys.rdBit (ent 0x2010 1) 4) t.sys.quadFn = true ∧ t.otp = s.otp) ∧
  (∀ (s : State) (w : Writer), Granted s w (ent 0x4D00 6) (le 2 2) → Completes (.felleyRestart w) s fun t =>
    t.sys.lanes = (((List.range 8).filter fun q => s.sys.quadFn q == .felley).foldl (fun y q => (refLanes (8 + q)).foldl (fun y n => y.laneRestart n) y)
      s.sys).lanes ∧ t.otp = s.otp ∧ t.pending = s.pending)

/-- Frames arrive (R254, R256 to R258, R262 to R264, R266, R274 to R276): markers of one count within 64 slots align their group, others fail its
deskew; a Frame Start of a context's leading group opens its next frame, and one that comes too early is refused; another group joins the frame whose
counter it carries; a line of the group's share that is neither short nor damaged joins the frame as it came; an embedded line is kept beside it; a Frame
End closes the group, and what is missing is substituted or lost. A packet that has no place is counted as stray; one of a refused frame is discarded.
Lane CRCs that fail are counted whatever the packet was. -/
def Obligations.FramesArriveLineByLine : Prop :=
  ((∀ (s : State) (g : Fin 8) (l : Fin 6) (n : BitVec 32) (skew : Nat), skew ≤ 64 →
    (s.sys.ig g.val).marked = [] ∨ (s.sys.ig g.val).marker = n.toNat ∧ l.val ∉ (s.sys.ig g.val).marked →
    Completes (.alignmentMarker g l n skew) s fun t =>
      let m := (s.sys.ig g.val).marked
      let all := decide (s.sys.view.groupWidth g.val ≤ m.length + 1)
      t.sys.ig g.val = { s.sys.ig g.val with marker := n.toNat, marked := if all then [] else m ++ [l.val] } ∧
      t.sys.rd (ent (0x3018 + g.val) 3) = (if all then 1 else s.sys.rd (ent (0x3018 + g.val) 3)) ∧
      t.sys.rd (ent (0x3018 + g.val) 4) = max skew (s.sys.rd (ent (0x3018 + g.val) 4)) ∧
      Leaves [.igs] (only [ent (0x3018 + g.val) 3, ent (0x3018 + g.val) 4]) (only []) s t) ∧
  (∀ (s : State) (g : Fin 8) (l : Fin 6) (n : BitVec 32) (skew : Nat),
    64 < skew ∨ (s.sys.ig g.val).marked ≠ [] ∧ ((s.sys.ig g.val).marker ≠ n.toNat ∨ l.val ∈ (s.sys.ig g.val).marked) →
    s.sys.owner g.val = none → Room s → Completes (.alignmentMarker g l n skew) s fun t =>
      t.sys.ig g.val = { s.sys.ig g.val with marked := [], resync := true } ∧ t.sys.rd (ent (0x3018 + g.val) 3) = 2 ∧
      Logs s t 0x080A g.val (ev [(0, 1, g.val), (1, 1, l.val), (4, 4, n.toNat)]) ∧
      Leaves [.igs, .log] (only [ent (0x3018 + g.val) 3]) (only []) s t) ∧
  (∀ (s : State) (g : Fin 8), Completes (.malformedBlock g) s fun t =>
    t.sys.rd (ent (0x3018 + g.val) 8) = (s.sys.rd (ent (0x3018 + g.val) 8) + 1) % 2 ^ 32 ∧ Leaves [] (only [ent (0x3018 + g.val) 8]) (only []) s t)) ∧
  ((∀ (s : State) (g : Fin 8) (p : FrameStart) (x : Nat), s.sys.leads g.val = some x → (s.sys.ig g.val).quiet = false →
    let n := ((s.sys.ctx x).last.map Prod.snd).getD 0 + 1
    let lanes := s.sys.valueAt x n (ent (0x3000 + x) 2) = 0
    (lanes → (s.sys.ig g.val).resync = false ∧ p.stream.val = s.sys.valueAt x n (ent (0x3000 + x) 4) ∧ p.gidx.val = 0) →
    Runs (.frameStartAccept g p) s
      (Sys.frameStart s.otp (if lanes then s.sys.countCrc g.val (failedLanes (s.sys.view.groupWidth g.val) (startPayload p) p.trailers) else s.sys)
        x g.val p.counter.toNat p.upstream p.testPattern (startPayload p))) ∧
  (∀ (s : State) (o : Otp) (x g n upstream : Nat) (test : Bool) (p : Bytes), (s.sys.ctx x).last.isSome = true →
    100 * (s.sys.up - (s.sys.ctx x).lastAt) < 98 * s.sys.rd (ent (0x3000 + x) 8) → Room s →
    let t := s.sys.frameStart o x g n upstream test p
    (t.ctx x).discarding = some n ∧ t.frames = s.sys.frames ∧
    t.rd (ent (0x3010 + x) 7) = (s.sys.rd (ent (0x3010 + x) 7) + 1) % 2 ^ 32 ∧
    t.log.pending = s.sys.log.pending ++ [⟨s.sys.t96, 0x0807, severity 0x0807, x,
      ev [(0, 1, x), (2, 2, n), (4, 4, (s.sys.up - (s.sys.ctx x).lastAt) % 2 ^ 32)]⟩] ∧
    (g ∈ s.sys.view.groupsOf x → (t.ig g).discarding = true) ∧
    SameBut [.ctxs, .igs, .log] (only [ent (0x3010 + x) 7]) (only []) s.sys t) ∧
  (∀ (s : State) (g : Fin 8) (p : FrameStart) (x : Nat) (f : Frame), s.sys.lanesOf g.val = some x → (s.sys.ig g.val).resync = false →
    (s.sys.ig g.val).quiet = false → p.stream.val = s.sys.rd (ent (0x3000 + x) 4) → p.gidx.val = s.sys.rd (ent (0x3018 + g.val) 2) →
    (s.sys.ctx x).discarding ≠ some p.counter.toNat → s.sys.newest? x = some f → f.counter = p.counter.toNat → f.inSkew s.sys.t96 = true →
    (f.groups.any fun fg => fg.group == g.val && !fg.started && !fg.ended) = true →
    Runs (.nonLeadFrameStart g p) s
      (Sys.onFrame (Sys.setIg (s.sys.countCrc g.val (failedLanes (s.sys.view.groupWidth g.val) (startPayload p) p.trailers)) g.val
        { s.sys.ig g.val with discarding := false }) x f.num fun f => f.onGroup g.val fun fg => { fg with started := true })) ∧
  (∀ (s : State) (g : Fin 8) (x : Nat) (f : Frame) (fg : FrameGroup), s.sys.owner g.val = some x → s.sys.newest? x = some f →
    (f.groups.find? fun fg => fg.group == g.val && !fg.started && !fg.ended) = some fg →
    let y := s.sys.onFrame x f.num fun f => (f.mark 8).onGroup g.val fun h => { h with ended := true, skewed := true }
    Runs (.groupSkew g) s (((y.substituteAll x f.num fg (f.outstanding fg)).raise 0x080F x
      (ev [(0, 1, x), (1, 1, g.val), (4, 4, f.num)])).checkComplete x f.num))) ∧
  ((∀ (s : State) (g : Fin 8) (h : PacketHeader) (b : Bytes) (tr : List (BitVec 32)) (x : Nat) (f : Frame) (fg : FrameGroup),
    Takes s g.val h x f fg → strayReason s.sys x f fg h.stream.val h.gidx.val h.number.toNat = none →
    (f.outstanding fg).filter (· < h.number.toNat) = [] → failedLanes (s.sys.view.groupWidth g.val) b tr = 0 →
    f.gen.lineBytes x (f.gen.depth x) ≤ b.length → x < 8 → s.sys.occupancy g.val < 3072 →
    Completes (.linePacket g h b tr) s fun t =>
      (∀ j ∈ t.sys.frames, j.ctx = x → j.num = f.num → ∃ d ∈ j.lines, d.num = h.number.toNat ∧ d.data = b.take (f.gen.lineBytes x (f.gen.depth x))) ∧
      t.sys.rd (ent (0x3018 + g.val) 6) = (s.sys.rd (ent (0x3018 + g.val) 6) + 1) % 2 ^ 64 ∧ t.otp = s.otp ∧ t.pending = s.pending) ∧
  (∀ (s : State) (g : Fin 8) (h : PacketHeader) (b : Bytes) (tr : List (BitVec 32)) (x : Nat) (f : Frame) (fg : FrameGroup),
    Takes s g.val h x f fg → strayReason s.sys x f fg h.stream.val h.gidx.val h.number.toNat = none →
    let bad := failedLanes (s.sys.view.groupWidth g.val) b tr
    Runs (.linePacket g h b tr) s ((s.sys.countCrc g.val bad).takeLine x g.val f fg h.number.toNat b bad)) ∧
  (∀ (s : State) (g : Fin 8) (h : PacketHeader) (b : Bytes) (tr : List (BitVec 32)) (x r : Nat) (f : Frame) (fg : FrameGroup),
    Takes s g.val h x f fg → strayReason s.sys x f fg h.stream.val h.gidx.val h.number.toNat = some r →
    Runs (.linePacket g h b tr) s ((s.sys.countCrc g.val (failedLanes (s.sys.view.groupWidth g.val) b tr)).stray g.val r)) ∧
  (∀ (s : State) (g : Fin 8) (h : PacketHeader) (b : Bytes) (tr : List (BitVec 32)), (s.sys.lanesOf g.val).isSome = true →
    (s.sys.ig g.val).resync = false → (s.sys.ig g.val).quiet = false → (s.sys.ig g.val).discarding = true →
    Runs (.linePacket g h b tr) s (s.sys.countCrc g.val (failedLanes (s.sys.view.groupWidth g.val) b tr))) ∧
  (∀ (s : State) (g : Fin 8) (h : PacketHeader) (b : Bytes) (tr : List (BitVec 32)) (x : Nat) (f : Frame) (fg : FrameGroup),
    Takes s g.val h x f fg → fg.gidx = 0 → Completes (.embeddedLine g h b tr) s fun t =>
      t.sys.rdB (ent (0x3008 + f.ctx) 6) = (s.sys.rdB (ent (0x3008 + f.ctx) 6) ++ b).take 1024 ∧
      t.sys.rdB (ent (0x3018 + g.val) 5) = (s.sys.countCrc g.val (failedLanes (s.sys.view.groupWidth g.val) b tr)).rdB (ent (0x3018 + g.val) 5) ∧
      (∀ j ∈ t.sys.frames, j.ctx = f.ctx → j.num = f.num → ∃ e ∈ s.sys.frames, j.embedded = e.embedded ++ b) ∧
      Leaves [.frames] (only []) (only [ent (0x3008 + f.ctx) 6, ent (0x3018 + g.val) 5]) s t) ∧
  (∀ (s : State) (g : Fin 8) (h : PacketHeader) (n : BitVec 16) (x : Nat) (f : Frame) (fg : FrameGroup), Takes s g.val h x f fg →
    f.counter = h.number.toNat →
    Runs (.frameEndAccept g h n) s (((s.sys.substituteAll f.ctx f.num fg (f.outstanding fg)).onFrame f.ctx f.num fun f =>
      f.onGroup g.val fun h => { h with ended := true }).checkComplete f.ctx f.num)) ∧
  (∀ (s : State) (x : Fin 16) (f : Frame), s.sys.newest? x.val = some f → f.complete = false →
    (∀ h ∈ s.sys.frames, h.ctx = f.ctx → h.num = f.num → h = f) → Completes (.frameTimeout x) s fun t =>
    (∀ h ∈ t.sys.frames, h.ctx = f.ctx → h.num = f.num → h.complete = true ∧ ∀ fg ∈ h.groups, fg.ended = true) ∧ t.otp = s.otp)) ∧
  (∀ (s : State) (g : Fin 8), s.sys.owner g.val = none → Completes (.ingestLockLoss g) s fun t =>
    t.sys.ig g.val = { s.sys.ig g.val with resync := true } ∧ (∀ j, j ≠ g.val → t.sys.ig j = s.sys.ig j) ∧ Leaves [.igs] (only []) (only []) s t) ∧
  (∀ (s : State) (g : Fin 8) (x : Nat), s.sys.owner g.val = some x → s.sys.rd (ent (0x3000 + x) 2) ≠ 1 → s.sys.openFrame g.val = none →
    s.sys.ctxState x = 2 → Completes (.ingestLockLoss g) s fun t =>
      (t.sys.ig g.val).resync = true ∧ t.sys.ctxState x = 4 ∧ (t.sys.ctx x).toRun = false ∧
      Leaves [.igs, .ctxs, .log] (only [ent (0x3008 + x) 1]) (only []) s t) ∧
  (∀ (s : State) (g : Fin 8) (x : Nat), s.sys.owner g.val = some x → s.sys.rd (ent (0x3000 + x) 2) = 1 → Runs (.ingestLockLoss g) s s.sys) ∧
  (∀ (y : Sys) (g reason x : Nat), y.owner g = some x → (y.stray g reason).rd (ent (0x3010 + x) 0x0B) = (y.rd (ent (0x3010 + x) 0x0B) + 1) % 2 ^ 32)

/-- Contexts and sensor ports (R268, R275, R279 to R283): Quiet after Frame End puts the group's lanes to rest and blanking wakes them; a context
takes its mode and state; a port sends its lists one after the other and counts overruns and errors; a host transaction waits its turn, is sent and
answered. -/
def Obligations.ContextsAndSensorPortsObey : Prop :=
  (∀ (s : State) (g : Fin 8) (x : Nat) (f : Frame), s.sys.owner g.val = some x → s.sys.newest? x = some f →
    (f.groups.any fun fg => fg.group == g.val && fg.ended) = true → s.sys.rd (ent (0x3000 + x) 0x0E) = 1 → Completes (.quietBlock g) s fun t =>
      t.sys.ig g.val = { s.sys.ig g.val with quiet := true } ∧
      (∀ n ∈ refLanes g.val, s.sys.rd (ent (0x2400 + n) 1) = 0 → s.sys.laneIs n .active = true →
        t.sys.laneIs n .quiet = true ∧ t.sys.laneHas n .frozen = true ∧ rdLe (t.sys.rdB (ent (0x2400 + n) 0x0F)) 0 1 ≠ 1) ∧
      Leaves [.igs] (fun k => k = ent (0x2480 + g.val) 2 ∨ ∃ n ∈ refLanes g.val, k = ent (0x2400 + n) 2 ∨ k = ent (0x2400 + n) 3)
        (fun k => ∃ n ∈ refLanes g.val, k = ent (0x2400 + n) 0x0F) s t) ∧
  (∀ (s : State) (x : Fin 8), Completes (.blankingWake x) s fun t =>
    (∀ g ∈ s.sys.view.groupsOf x.val, (t.sys.ig g).quiet = false ∧
      ((s.sys.ig g).quiet = true → ∀ n ∈ refLanes g, s.sys.rd (ent (0x2400 + n) 1) = 0 → s.sys.laneIs n .quiet = true →
        t.sys.laneIs n .bringup = true ∧ t.sys.lane n = { s.sys.lane n with step := 6, resume := false, quick := true })) ∧
    Leaves [.igs, .lanes] (fun k => indices 0x2400 48 k ∨ indices 0x2480 8 k) (indices 0x2400 48) s t) ∧
  (∀ (s : State) (w : Writer) (x : Fin 8) (m : CtxMode), Granted s w (ent (0x3000 + x.val) 1) (le 2 (ctxModeCode m)) →
    Completes (.contextModeWrite w x m) s fun t =>
      t.sys.rd (ent (0x3000 + x.val) 1) = ctxModeCode m ∧
      t.sys.ctxState x.val = (match m with | .disabled => 0 | .run => 1 | .test => 3) ∧
      (t.sys.ctx x.val).toRun = false ∧ (t.sys.ctx x.val).clean = 0 ∧ t.otp = s.otp ∧ t.pending = s.pending) ∧
  (∀ (s : State) (p : Fin 8) (l : SensorList) (r : List SensorList), (s.sys.port p.val).lists = l :: r → l.started = false →
    (s.sys.port p.val).hostOnWire = false → Completes (.exposureListStart p) s fun t =>
      (t.sys.port p.val).lists = { l with started := true } :: r ∧
      (s.sys.isShadow = false → s.sys.boot.strapFault = false → s.sys.rd (ent 0x2700 1) ≠ 2 → t.sys.tx = s.sys.tx ++ [.sensor p.val l.body]) ∧
      Leaves [.ports, .tx] (only [ent (0x3028 + p.val) 9]) (only []) s t) ∧
  (∀ (s : State) (p : Fin 8), Completes (.exposureListDone p) s fun t =>
    (t.sys.port p.val).lists = (s.sys.port p.val).lists.drop 1 ∧ Leaves [.ports, .ctxs, .tx] (only [ent (0x3028 + p.val) 9]) (only []) s t) ∧
  (∀ (s : State) (p : Fin 8) (us : BitVec 32) (l : SensorList), (s.sys.port p.val).lists.head? = some l → l.ctx < 8 → Room s →
    Completes (.exposureListOverrun p us) s fun t =>
      t.sys.rd (ent (0x3010 + l.ctx) 0x0C) = (s.sys.rd (ent (0x3010 + l.ctx) 0x0C) + 1) % 2 ^ 32 ∧
      Logs s t 0x080D l.ctx (ev [(0, 1, l.ctx), (1, 1, p.val), (4, 4, l.frame), (8, 4, us.toNat)]) ∧
      Leaves [.ctxs, .log] (only [ent (0x3010 + l.ctx) 0x0C]) (only []) s t) ∧
  (∀ (s : State) (p : Fin 8) (timeout : Bool) (reg : BitVec 16), Completes (.sensorWriteError p timeout reg) s fun t =>
    t.sys.rd (ent (0x3028 + p.val) 8) = (s.sys.rd (ent (0x3028 + p.val) 8) + 1) % 2 ^ 32 ∧
    Leaves [.ctxs, .log] (only [ent (0x3028 + p.val) 8]) (only []) s t) ∧
  (∀ (s : State) (p : Fin 8) (r : Bytes), transactionOk r = true → s.sys.isShadow = false → s.sys.portMode p.val ≠ 0 → (s.sys.port p.val).host = none →
    (s.sys.port p.val).hostOnWire = false → Completes (.sensorTransaction p r) s fun t =>
      (t.sys.port p.val).host = some r ∧ t.sys.rdB (ent (0x3028 + p.val) 7) = [3, 0] ∧
      ((∃ l ∈ (s.sys.port p.val).lists, l.started = true ∨ l.due ≤ s.sys.up) → (t.sys.port p.val).hostOnWire = false ∧ t.sys.tx = s.sys.tx) ∧
      ((∀ l ∈ (s.sys.port p.val).lists, l.started = false ∧ s.sys.up < l.due) → (t.sys.port p.val).hostOnWire = true ∧
        (s.sys.boot.strapFault = false → s.sys.rd (ent 0x2700 1) ≠ 2 → t.sys.tx = s.sys.tx ++ [.sensor p.val r])) ∧
      Leaves [.ports, .tx] (only [ent (0x3028 + p.val) 9]) (only [ent (0x3028 + p.val) 7]) s t) ∧
  (∀ (s : State) (p : Fin 8) (st : Fin 3) (d : Bytes), (s.sys.port p.val).hostOnWire = true → Completes (.sensorTransactionDone p st d) s fun t =>
    t.sys.rdB (ent (0x3028 + p.val) 7) = le 1 st.val ++ le 1 (d.take 64).length ++ d.take 64 ∧
    t.sys.port p.val = { s.sys.port p.val with
      host := none, hostOnWire := false, mode := if (s.sys.port p.val).lists.any (·.started) then (s.sys.port p.val).mode else none } ∧
    Leaves [.ports] (only [ent (0x3028 + p.val) 9]) (only [ent (0x3028 + p.val) 7]) s t)

/-- Boundaries, statistics and finished stripes (R129, R325, R326, R411, R448): an output boundary counts the frame that ends and applies what waits
for it; statistics that are due go to the next record, and a head's merged record too, each counted late after more than 1 ms; a stripe whose buffers have all been freed gives its Troupe
back. -/
def Obligations.BoundariesRecordsAndStripesEnd : Prop :=
  (∀ (s : State) (c : Fin 24), s.sys.view.chanOn c.val = true → s.sys.den.latched = [] → Completes (.outputFrameBoundary c) s fun t =>
    t.sys.rd (ent (0x4140 + c.val) 9) = (s.sys.rd (ent (0x4140 + c.val) 9) + 1) % 2 ^ 64 ∧ t.sys.rd (ent (0x4140 + c.val) 3) = s.sys.t96 ∧
    t.sys.rd (ent (0x4140 + c.val) 6) = (s.sys.frameSignature c.val).toNat ∧ t.otp = s.otp ∧ t.pending = s.pending) ∧
  (∀ (s : State) (c : Fin 24), Completes (.outputFrameBoundary c) s fun t =>
    (∀ u ∈ t.sys.den.latched, u ∈ s.sys.den.latched ∧ dueOut c.val (s.sys.lockGroup c.val) u = false) ∧ t.otp = s.otp ∧ t.pending = s.pending) ∧
  (∀ (s : State) (x : Fin 16) (d : BitVec 16) (f : Frame), s.sys.statsDue x.val = some f → f.gen.rd (ent (0x3400 + x.val) 9) ≠ 0 →
    f.gen.usesRfe x.val = true → Completes (.statisticsRecordIssue x d) s fun t =>
      let n := (s.sys.rd (ent (0x3450 + x.val) 1) + 1) % 2 ^ 32
      t.sys.rd (ent (0x3450 + x.val) 1) = n ∧ t.sys.rdB (ent (0x3450 + x.val) (2 + n % 16)) = f.statsRecord ∧
      (10 < d.toNat → t.sys.rd (ent (0x3450 + x.val) 0x12) = (s.sys.rd (ent (0x3450 + x.val) 0x12) + 1) % 2 ^ 32) ∧ t.otp = s.otp) ∧
  (∀ (s : State) (x : Fin 16) (h : Bytes × List Nat) (r : List (Bytes × List Nat)) (d : BitVec 16), s.sys.view.role = 3 → s.sys.rd (ent 0x4C01 6) = s.sys.arrayPos →
    Completes (.statsRecordMerge x (h :: r) d) s fun t =>
      let n := (s.sys.rd (ent (0x3450 + x.val) 1) + 1) % 2 ^ 32
      t.sys.rd (ent (0x3450 + x.val) 1) = n ∧ t.sys.rdB (ent (0x3450 + x.val) (2 + n % 16)) = mergedRecord h.1 (h :: r) ∧ t.sys.frames = s.sys.frames ∧
      t.sys.rd (ent (0x3450 + x.val) 0x12) = (if 10 < d.toNat then (s.sys.rd (ent (0x3450 + x.val) 0x12) + 1) % 2 ^ 32 else s.sys.rd (ent (0x3450 + x.val) 0x12)) ∧
      t.otp = s.otp) ∧
  (∀ (s : State) (q : Fin 24) (x n k : Nat) (f : Frame) (st : Stripe), (s.sys.troupe q.val).held = some (x, n, k) → s.sys.frame? x n = some f →
    f.stripe? k = some st → f.gen.segs x ≤ st.freed → Completes (.stripeComplete q) s fun t =>
      (t.sys.troupe q.val).held = none ∧ (t.sys.troupe q.val).freeSince = s.sys.up ∧ t.otp = s.otp ∧ t.pending = s.pending) ∧
  (∀ (s : State) (q : Fin 24), (s.sys.troupe q.val).held = none → Runs (.stripeComplete q) s s.sys)

/-- Integer and move instructions on V registers (R344, R345, R351): each writes its destination lane by lane, where the lane takes part, and nothing
else. Scalar instructions (R345, R351): each writes its S register and nothing else. -/
def Obligations.VectorAndScalarIntegerInstructions : Prop :=
  ((∀ (s : State) (e : Fin 384) (d a b : Fin 64) (pr : Fin 8) (pn : Bool) (c : Instr) (f : W32 → W32 → W32),
    (c, f) ∈ ([(.iadd e d a b pr pn, fun x y => x + y), (.isub e d a b pr pn, fun x y => x - y), (.imul e d a b pr pn, fun x y => x * y),
      (.imin e d a b pr pn, fun x y => if x.slt y then x else y), (.imax e d a b pr pn, fun x y => if x.slt y then y else x),
      (.and e d a b pr pn, fun x y => x &&& y), (.or e d a b pr pn, fun x y => x ||| y), (.xor e d a b pr pn, fun x y => x ^^^ y),
      (.shl e d a b pr pn, fun x y => x <<< (y.toNat % 32)), (.shr e d a b pr pn, fun x y => x >>> (y.toNat % 32)),
      (.sar e d a b pr pn, fun x y => x.sshiftRight (y.toNat % 32))] : List (Instr × (W32 → W32 → W32))) →
    Ready s e.val [(fileV, a.val), (fileV, b.val), (fileP, pr.val), (fileV, d.val)] →
    let g := s.sys.engine e.val
    Completes c s fun t => Advances e.val s t ∧ g.keeps (t.sys.engine e.val) ∧ g.keepsS (t.sys.engine e.val) ∧ g.keepsP (t.sys.engine e.val) ∧
      g.wroteV (t.sys.engine e.val) d.val (g.part pr.val pn) fun k => f (g.rv a.val k) (g.rv b.val k)) ∧
  (∀ (s : State) (e : Fin 384) (d : Fin 64) (imm : BitVec 16) (c : Instr) (f : W32 → W32),
    (c, f) ∈ ([(.movl e d imm, fun _ => imm.zeroExtend 32), (.movh e d imm, fun x => imm ++ x.truncate 16), (.movf e d imm, fun _ => cvtFH (imm.zeroExtend 32))] : List (Instr × (W32 → W32))) →
    Ready s e.val [(fileV, d.val)] →
    let g := s.sys.engine e.val
    Completes c s fun t => Advances e.val s t ∧ g.keeps (t.sys.engine e.val) ∧ g.keepsS (t.sys.engine e.val) ∧ g.keepsP (t.sys.engine e.val) ∧
      g.wroteV (t.sys.engine e.val) d.val (fun _ => true) fun k => f (g.rv d.val k)) ∧
  (∀ (s : State) (e : Fin 384) (d a b : Fin 64) (i : Fin 16) (pr : Fin 8) (pn : Bool) (c : Instr) (take : Nat → Bool) (f : Nat → W32),
    let g := s.sys.engine e.val
    c = .mov e d a pr pn ∧ take = g.part pr.val pn ∧ f = g.rv a.val ∨ c = .bcast e d i pr pn ∧ take = g.part pr.val pn ∧ f = (fun _ => g.rs i.val) ∨
      c = .laneid e d pr pn ∧ take = g.part pr.val pn ∧ f = BitVec.ofNat 32 ∨
      c = .sel e d a b pr pn ∧ take = (fun _ => true) ∧ f = (fun k => if g.part pr.val pn k then g.rv a.val k else g.rv b.val k) →
    Ready s e.val [(fileV, a.val), (fileV, b.val), (fileS, i.val), (fileP, pr.val), (fileV, d.val)] →
    Completes c s fun t => Advances e.val s t ∧ g.keeps (t.sys.engine e.val) ∧ g.keepsS (t.sys.engine e.val) ∧ g.keepsP (t.sys.engine e.val) ∧
      g.wroteV (t.sys.engine e.val) d.val take f)) ∧
  ((∀ (s : State) (e : Fin 384) (d a b : Fin 16) (c : Instr) (f : W32 → W32 → W32),
    (c, f) ∈ ([(.sadd e d a b, fun x y => x + y), (.ssub e d a b, fun x y => x - y), (.smul e d a b, fun x y => x * y),
      (.smin e d a b, fun x y => if x.slt y then x else y), (.smax e d a b, fun x y => if x.slt y then y else x), (.sand e d a b, fun x y => x &&& y),
      (.sor e d a b, fun x y => x ||| y), (.sxor e d a b, fun x y => x ^^^ y), (.sshl e d a b, fun x y => x <<< (y.toNat % 32)),
      (.sshr e d a b, fun x y => x >>> (y.toNat % 32)), (.ssar e d a b, fun x y => x.sshiftRight (y.toNat % 32)), (.smov e d a, fun x _ => x)] : List (Instr × (W32 → W32 → W32))) →
    Ready s e.val [(fileS, a.val), (fileS, b.val), (fileS, d.val)] →
    let g := s.sys.engine e.val
    Completes c s fun t => Advances e.val s t ∧ g.keeps (t.sys.engine e.val) ∧ g.keepsV (t.sys.engine e.val) ∧ g.keepsP (t.sys.engine e.val) ∧
      g.wroteS (t.sys.engine e.val) d.val (f (g.rs a.val) (g.rs b.val))) ∧
  (∀ (s : State) (e : Fin 384) (d : Fin 16) (imm : BitVec 16) (c : Instr) (f : W32 → W32),
    (c, f) ∈ ([(.smovl e d imm, fun _ => imm.zeroExtend 32), (.smovh e d imm, fun x => imm ++ x.truncate 16), (.saddi e d imm, fun x => x + imm.signExtend 32)] : List (Instr × (W32 → W32))) →
    Ready s e.val [(fileS, d.val)] →
    let g := s.sys.engine e.val
    Completes c s fun t => Advances e.val s t ∧ g.keeps (t.sys.engine e.val) ∧ g.keepsV (t.sys.engine e.val) ∧ g.keepsP (t.sys.engine e.val) ∧
      g.wroteS (t.sys.engine e.val) d.val (f (g.rs d.val))) ∧
  (∀ (s : State) (e : Fin 384) (d b : Fin 16) (a : Fin 64) (p : Fin 8) (c : Instr) (v : W32),
    let g := s.sys.engine e.val
    c = .extr e d a b ∧ v = g.rv a.val ((g.rs b.val).toNat % 16) ∨ c = .ptos e d p ∧ v = (g.rp p.val).zeroExtend 32 →
    Ready s e.val [(fileV, a.val), (fileS, b.val), (fileP, p.val), (fileS, d.val)] →
    Completes c s fun t => Advances e.val s t ∧ g.keeps (t.sys.engine e.val) ∧ g.keepsV (t.sys.engine e.val) ∧ g.keepsP (t.sys.engine e.val) ∧
      g.wroteS (t.sys.engine e.val) d.val v))

/-- Compares and predicate instructions (R337, R344, R345, R348): each writes its predicate and nothing else; a compare's bit is that of the lanes
that take part; a write to P0 is discarded, and the program goes on. -/
def Obligations.CompareAndPredicateInstructions : Prop :=
  (∀ (s : State) (e : Fin 384) (d : Fin 8) (a b : Fin 64) (pr : Fin 8) (pn : Bool) (c : Instr) (f : W32 → W32 → Bool),
    (c, f) ∈ ([(.icmpEq e d a b pr pn, fun x y => x == y), (.icmpLt e d a b pr pn, fun x y => x.slt y), (.icmpLtu e d a b pr pn, fun x y => x.ult y),
      (.fcmpEq e d a b pr pn, fun x y => fpEq (fpOf x) (fpOf y)), (.fcmpLt e d a b pr pn, fun x y => fpLt (fpOf x) (fpOf y)),
      (.fcmpLe e d a b pr pn, fun x y => fpLt (fpOf x) (fpOf y) || fpEq (fpOf x) (fpOf y)), (.fcmpNe e d a b pr pn, fun x y => !fpEq (fpOf x) (fpOf y)),
      (.fcmpUn e d a b pr pn, fun x y => fpOf x == .nan || fpOf y == .nan)] : List (Instr × (W32 → W32 → Bool))) →
    Ready s e.val [(fileV, a.val), (fileV, b.val), (fileP, pr.val), (fileP, d.val)] →
    let g := s.sys.engine e.val
    Completes c s fun t => Advances e.val s t ∧ g.keeps (t.sys.engine e.val) ∧ g.keepsV (t.sys.engine e.val) ∧ g.keepsS (t.sys.engine e.val) ∧
      (∀ r, r ≠ d.val → (t.sys.engine e.val).rp r = g.rp r) ∧
      (d.val ≠ 0 → ∀ k, k < 16 → ((t.sys.engine e.val).rp d.val).getLsbD k = (f (g.rv a.val k) (g.rv b.val k) && g.part pr.val pn k)) ∧
      (t.sys.engine e.val).rp 0 = 0xFFFF) ∧
  (∀ (s : State) (e : Fin 384) (d a b : Fin 8) (i : Fin 16) (c : Instr) (v : W16),
    let g := s.sys.engine e.val
    (c, v) ∈ ([(.pand e d a b, g.rp a.val &&& g.rp b.val), (.por e d a b, g.rp a.val ||| g.rp b.val), (.pxor e d a b, g.rp a.val ^^^ g.rp b.val),
      (.pnot e d a, ~~~ g.rp a.val), (.pfroms e d i, (g.rs i.val).truncate 16)] : List (Instr × W16)) →
    Ready s e.val [(fileP, a.val), (fileP, b.val), (fileS, i.val), (fileP, d.val)] →
    Completes c s fun t => Advances e.val s t ∧ g.keeps (t.sys.engine e.val) ∧ g.keepsV (t.sys.engine e.val) ∧ g.keepsS (t.sys.engine e.val) ∧
      g.wroteP (t.sys.engine e.val) d.val v)

/-- Floating-point instructions (R345 to R350): each writes its destination lane by lane, where the lane takes part, and nothing else; a
transcendental lets the next one issue no sooner than four slots after it. -/
def Obligations.FloatingPointInstructions : Prop :=
  (∀ (s : State) (e : Fin 384) (d a b : Fin 64) (i : Fin 16) (pr : Fin 8) (pn : Bool) (c : Instr) (f : W32 → W32 → W32 → W32) (scalar : Bool),
    (c, f, scalar) ∈ ([(.fadd e d a b pr pn, fun x y _ => fadd x y, false), (.fsub e d a b pr pn, fun x y _ => fsub x y, false),
      (.fmul e d a b pr pn, fun x y _ => fmul x y, false), (.fmin e d a b pr pn, fun x y _ => fmin x y, false),
      (.fmax e d a b pr pn, fun x y _ => fmax x y, false), (.fma e d a b pr pn, fun x y z => ffma x y z, false),
      (.fms e d a b pr pn, fun x y z => ffma x y (fneg z), false), (.fnma e d a b pr pn, fun x y z => ffma (fneg x) y z, false),
      (.faddS e d a i pr pn, fun x y _ => fadd x y, true), (.fsubS e d a i pr pn, fun x y _ => fsub x y, true),
      (.fmulS e d a i pr pn, fun x y _ => fmul x y, true), (.fminS e d a i pr pn, fun x y _ => fmin x y, true),
      (.fmaxS e d a i pr pn, fun x y _ => fmax x y, true), (.fmaS e d a i pr pn, fun x y z => ffma x y z, true),
      (.fmsS e d a i pr pn, fun x y z => ffma x y (fneg z), true), (.fnmaS e d a i pr pn, fun x y z => ffma (fneg x) y z, true)] : List (Instr × (W32 → W32 → W32 → W32) × Bool)) →
    Ready s e.val [(fileV, a.val), (fileV, b.val), (fileS, i.val), (fileP, pr.val), (fileV, d.val)] →
    let g := s.sys.engine e.val
    Completes c s fun t => Advances e.val s t ∧ g.keeps (t.sys.engine e.val) ∧ g.keepsS (t.sys.engine e.val) ∧ g.keepsP (t.sys.engine e.val) ∧
      g.wroteV (t.sys.engine e.val) d.val (g.part pr.val pn) fun k => f (g.rv a.val k) (if scalar then g.rs i.val else g.rv b.val k) (g.rv d.val k)) ∧
  (∀ (s : State) (e : Fin 384) (d a : Fin 64) (pr : Fin 8) (pn : Bool) (c : Instr) (f : W32 → W32) (trans : Bool),
    (c, f, trans) ∈ ([(.fabs e d a pr pn, fun x => x &&& 0x7FFFFFFF, false), (.fneg e d a pr pn, fun x => x ^^^ 0x80000000, false),
      (.fsat e d a pr pn, fsat, false), (.ffloor e d a pr pn, ffloor, false), (.ffrac e d a pr pn, ffrac, false), (.frnd e d a pr pn, frnd, false),
      (.cvtFI e d a pr pn, cvtFI, false), (.cvtIF e d a pr pn, cvtIF, false), (.cvtFU e d a pr pn, cvtFU, false), (.cvtUF e d a pr pn, cvtUF, false),
      (.cvtHF e d a pr pn, cvtHF, false), (.cvtFH e d a pr pn, cvtFH, false), (.rcp e d a pr pn, frcp, true), (.rsq e d a pr pn, frsq, true),
      (.sqrt e d a pr pn, fsqrt, true), (.log2 e d a pr pn, flog2, true), (.exp2 e d a pr pn, fexp2, true)] : List (Instr × (W32 → W32) × Bool)) →
    Ready s e.val [(fileV, a.val), (fileP, pr.val), (fileV, d.val)] →
    let g := s.sys.engine e.val
    Completes c s fun t => Advances e.val s t ∧ g.keeps (t.sys.engine e.val) ∧ g.keepsS (t.sys.engine e.val) ∧ g.keepsP (t.sys.engine e.val) ∧
      g.wroteV (t.sys.engine e.val) d.val (g.part pr.val pn) (fun k => f (g.rv a.val k)) ∧
      (trans = true → g.transFree ≤ (t.sys.engine e.val).slot - 1 ∧ (t.sys.engine e.val).transFree = (t.sys.engine e.val).slot + 3))

/-- Loads and stores (R340, R345): where every access is in range, aligned and permitted, a load writes its register from the words addressed, and a
store the words addressed in scratch and no other, the highest lane last; an access that faults ends the group with its fault (R367). -/
def Obligations.LoadsAndStores : Prop :=
  (∀ (s : State) (e : Fin 384) (d a : Fin 64) (b : Fin 16) (off : BitVec 12) (pr : Fin 8) (pn : Bool) (c : Instr) (addr : Nat → Nat),
    let g := s.sys.engine e.val
    (c, addr) ∈ ([(.ldV e d b off pr pn, fun k => g.addr b.val (4 * off.toNat + 4 * k)), (.ldB e d b off pr pn, fun _ => g.addr b.val (4 * off.toNat)),
      (.ldG e d a b pr pn, fun k => g.addr b.val (4 * (g.rv a.val k).toNat))] : List (Instr × (Nat → Nat))) →
    Ready s e.val [(fileV, a.val), (fileS, b.val), (fileP, pr.val), (fileV, d.val)] →
    (∀ k, k < 16 → g.part pr.val pn k = true → memFault false (addr k) = none) →
    Completes c s fun t => Advances e.val s t ∧ g.keeps (t.sys.engine e.val) ∧ g.keepsS (t.sys.engine e.val) ∧ g.keepsP (t.sys.engine e.val) ∧
      g.wroteV (t.sys.engine e.val) d.val (g.part pr.val pn) fun k => s.sys.localWord g (addr k)) ∧
  (∀ (s : State) (e : Fin 384) (d b : Fin 16) (off : BitVec 12), Ready s e.val [(fileS, b.val), (fileS, d.val)] →
    let g := s.sys.engine e.val
    memFault false (g.addr b.val (4 * off.toNat)) = none →
    Completes (.ldS e d b off) s fun t => Advances e.val s t ∧ g.keeps (t.sys.engine e.val) ∧ g.keepsV (t.sys.engine e.val) ∧
      g.keepsP (t.sys.engine e.val) ∧ g.wroteS (t.sys.engine e.val) d.val (s.sys.localWord g (g.addr b.val (4 * off.toNat)))) ∧
  (∀ (s : State) (e : Fin 384) (d a : Fin 64) (b : Fin 16) (off : BitVec 12) (pr : Fin 8) (pn : Bool) (c : Instr) (addr : Nat → Nat),
    let g := s.sys.engine e.val
    (c, addr) ∈ ([(.stV e d b off pr pn, fun k => g.addr b.val (4 * off.toNat + 4 * k)), (.stG e d a b pr pn, fun k => g.addr b.val (4 * (g.rv a.val k).toNat))] : List (Instr × (Nat → Nat))) →
    Ready s e.val [(fileV, d.val), (fileV, a.val), (fileS, b.val), (fileP, pr.val)] →
    (∀ k, k < 16 → g.part pr.val pn k = true → memFault true (addr k) = none) →
    Completes c s fun t =>
      let h := t.sys.engine e.val
      Advances e.val s t ∧ g.keepsV h ∧ g.keepsS h ∧ g.keepsP h ∧ h.outs = g.outs ∧ h.reqs = g.reqs ∧
      (∀ k, k < 16 → g.part pr.val pn k = true → (∀ j, k < j → j < 16 → g.part pr.val pn j = true → addr j ≠ addr k) →
        t.sys.localWord h (addr k) = g.rv d.val k) ∧
      (∀ w, scratchBase ≤ w → w % 4 = 0 → (∀ k, k < 16 → g.part pr.val pn k = true → addr k ≠ w) → t.sys.localWord h w = s.sys.localWord g w)) ∧
  (∀ (s : State) (e : Fin 384) (d b : Fin 16) (off : BitVec 12), Ready s e.val [(fileS, d.val), (fileS, b.val)] →
    let g := s.sys.engine e.val
    memFault true (g.addr b.val (4 * off.toNat)) = none →
    Completes (.stS e d b off) s fun t =>
      let h := t.sys.engine e.val
      Advances e.val s t ∧ g.keepsV h ∧ g.keepsS h ∧ g.keepsP h ∧ h.outs = g.outs ∧ h.reqs = g.reqs ∧
      t.sys.localWord h (g.addr b.val (4 * off.toNat)) = g.rs d.val ∧
      (∀ w, scratchBase ≤ w → w % 4 = 0 → w ≠ g.addr b.val (4 * off.toNat) → t.sys.localWord h w = s.sys.localWord g w)) ∧
  (∀ (s : State) (e : Fin 384) (d b : Fin 16) (off : BitVec 12) (k : ProgFault), Ready s e.val [(fileS, d.val), (fileS, b.val)] →
    memFault true ((s.sys.engine e.val).addr b.val (4 * off.toNat)) = some k → Runs (.stS e d b off) s (s.sys.progFault e.val k))

/-- Pixel and LUT instructions (R353 to R358): PIX_IN reads the pixel of each lane inside P1 and 0 outside it, PIX_FRAC the fractions of the source
place; PIX_OUT holds its write until the group commits; LUT requests are queued, accepted in rotating order, and delivered to their registers. -/
def Obligations.PixelAndLutInstructions : Prop :=
  (∀ (s : State) (e : Fin 384) (d : Fin 62) (dx dy : Fin 17) (pr : Fin 8) (pn : Bool) (f : Frame) (b : Binding),
    let g := s.sys.engine e.val
    s.sys.groupBinding g = some (f, b) → Ready s e.val [(fileP, pr.val), (fileP, 1), (fileV, d.val), (fileV, d.val + 1), (fileV, d.val + 2)] →
    Completes (.pixIn e d dx dy pr pn) s fun t =>
      let px (k : Nat) : Px := if (g.rp 1).getLsbD k then
        s.sys.stripePixel e.val g f ((b.srcX (g.col + k) / 65536 : Nat) + (dx.val : Int) - 8) ((b.srcY g.line / 65536 : Nat) + (dy.val : Int) - 8) else ⟨0, 0, 0⟩
      Advances e.val s t ∧ g.keeps (t.sys.engine e.val) ∧ g.keepsS (t.sys.engine e.val) ∧ g.keepsP (t.sys.engine e.val) ∧
      ∀ r k, k < 16 → (t.sys.engine e.val).rv r k =
        if g.part pr.val pn k = true then
          (if r = d.val then ofH24 (px k).r else if r = d.val + 1 then ofH24 (px k).g else if r = d.val + 2 then ofH24 (px k).b else g.rv r k)
        else g.rv r k) ∧
  (∀ (s : State) (e : Fin 384) (d : Fin 63) (pr : Fin 8) (pn : Bool) (f : Frame) (b : Binding),
    let g := s.sys.engine e.val
    s.sys.groupBinding g = some (f, b) → Ready s e.val [(fileP, pr.val), (fileV, d.val), (fileV, d.val + 1)] →
    Completes (.pixFrac e d pr pn) s fun t =>
      Advances e.val s t ∧ g.keeps (t.sys.engine e.val) ∧ g.keepsS (t.sys.engine e.val) ∧ g.keepsP (t.sys.engine e.val) ∧
      ∀ r k, k < 16 → (t.sys.engine e.val).rv r k =
        if g.part pr.val pn k = true then
          (if r = d.val then frac16 (b.srcX (g.col + k)) else if r = d.val + 1 then frac16 (b.srcY g.line) else g.rv r k)
        else g.rv r k) ∧
  (∀ (s : State) (e : Fin 384) (a : Fin 62) (n : Fin 16) (pr : Fin 8) (pn : Bool) (f : Frame),
    let g := s.sys.engine e.val
    s.sys.groupFrame g = some f → Ready s e.val [(fileV, a.val), (fileV, a.val + 1), (fileV, a.val + 2), (fileP, pr.val), (fileP, 1)] →
    g.outBlocked = false → f.outOk g.binding n.val = true → g.writes < 16 →
    Completes (.pixOut e a n pr pn) s fun t =>
      let h := t.sys.engine e.val
      h.outs = holdWrite g.outs ⟨n.val, g.outLanes pr.val pn, (List.range 16).map fun k =>
        packPixel (f.gen.binding f.ctx n.val).format (g.col + k) (g.rv a.val k) (g.rv (a.val + 1) k) (g.rv (a.val + 2) k)⟩ ∧
      h.writes = g.writes + 1 ∧ h.pc = g.next.pc ∧ g.keepsV h ∧ g.keepsS h ∧ g.keepsP h ∧
      Leaves [.engines] (only [ent (0x3860 + e.val / 16) 8]) (only []) s t) ∧
  (∀ (s : State) (e : Fin 384) (d a : Fin 64) (w v : Fin 62) (n pr : Fin 8) (pn : Bool) (c : Instr) (kind : LutKind) (dst : Nat),
    let g := s.sys.engine e.val
    (c, kind, dst) ∈ ([(.lut1 e d a n pr pn, .one, d.val), (.lut3 e w v n pr pn, .three, w.val)] : List (Instr × LutKind × Nat)) →
    Ready s e.val [(fileV, a.val), (fileV, d.val), (fileP, pr.val), (fileV, w.val), (fileV, w.val + 1), (fileV, w.val + 2), (fileV, v.val),
      (fileV, v.val + 1), (fileV, v.val + 2)] → g.outstanding < 2 →
    Completes c s fun t =>
      let h := t.sys.engine e.val
      (∃ q, h.reqs = g.reqs ++ [q] ∧ q.kind = kind ∧ q.dst = dst ∧ q.table = n.val ∧ q.accepted = false) ∧ Advances e.val s t ∧ g.keepsV h ∧
      g.keepsS h ∧ g.keepsP h ∧ h.outs = g.outs) ∧
  (∀ (s : State) (e : Fin 384) (b : Fin 16) (a : Fin 62) (n pr : Fin 8) (pn : Bool) (f : Frame),
    let g := s.sys.engine e.val
    s.sys.groupFrame g = some f → Ready s e.val [(fileV, a.val), (fileV, a.val + 1), (fileV, a.val + 2), (fileP, pr.val)] →
    f.outOk g.binding b.val = true → g.writes < 16 → g.outstanding < 2 →
    Completes (.lut3Out e b a n pr pn) s fun t =>
      let h := t.sys.engine e.val
      (∃ q, h.reqs = g.reqs ++ [q] ∧ q.kind = .threeOut ∧ q.dst = b.val ∧ q.table = n.val ∧ q.lanes = g.outLanes pr.val pn) ∧ h.writes = g.writes + 1 ∧
      h.pc = g.next.pc ∧ h.loops = g.next.loops ∧ g.slot < h.slot ∧ h.busy = true ∧ (∀ j, j ≠ e.val → t.sys.engine j = s.sys.engine j) ∧
      t.sys.rd (ent (0x3860 + e.val / 16) 8) = (s.sys.rd (ent (0x3860 + e.val / 16) 8) +
        nanCount (g.outLanes pr.val pn) (g.rv a.val) (g.rv (a.val + 1)) (g.rv (a.val + 2))) % 2 ^ 64 ∧
      g.keepsV h ∧ g.keepsS h ∧ g.keepsP h ∧ Leaves [.engines] (only [ent (0x3860 + e.val / 16) 8]) (only []) s t) ∧
  (∀ (s : State) (q : Fin 24) (k : Nat),
    (((List.range 16).map fun i => ((s.sys.troupe q.val).lutLast + 1 + i) % 16).find? fun k => (s.sys.engine (16 * q.val + k)).waiting) = some k →
    Completes (.lutRequestAccept q) s fun t =>
      t.sys.troupe q.val = { s.sys.troupe q.val with lutLast := k } ∧ t.sys.engine (16 * q.val + k) = (s.sys.engine (16 * q.val + k)).accept ∧
      t.sys.rd (ent (0x3860 + q.val) 6) = (s.sys.rd (ent (0x3860 + q.val) 6) + 1) % 2 ^ 64 ∧
      Leaves [.troupes, .engines] (only [ent (0x3860 + q.val) 6]) (only []) s t) ∧
  (∀ (s : State) (e : Fin 384) (q : LutReq) (f : Frame),
    let g := s.sys.engine e.val
    g.spent.find? (·.accepted) = none → (g.halted.findIdx? fun h => h.reqs.any (·.accepted)) = none → g.reqs.find? (·.accepted) = some q → s.sys.groupFrame g = some f → q.kind = .one →
    Completes (.lutResult e) s fun t =>
      g.wroteV (t.sys.engine e.val) q.dst q.lanes.getLsbD (lutLane (s.sys.tableOf f q.table) q 0) ∧ (t.sys.engine e.val).reqs = g.reqs.erase q ∧
      (t.sys.engine e.val).due = g.due ++ [⟨fileV, q.dst, q.slot + 20, some .lut⟩] ∧
      Leaves [.engines] (only []) (only []) s t)

/-- Control and groups (R334 to R338, R341, R352, R356, R360 to R367): branches, loops, calls and returns go where they say; SYNC and WAIT hold issue
for what is pending; HALT ends the group and counts it; a free engine takes the next group with its registers set; a group out of time faults. The 32-bit words spell the
instructions, and a word that breaks a format spells none (R343, R345). -/
def Obligations.ControlInstructionsAndGroups : Prop :=
  (∀ e : Fin 384, instrOf e 0x11234100 = some (.fmaS e 18 13 1 0 false) ∧ instrOf e 0x80308000 = some (.pixIn e 3 9 8 0 false) ∧
    instrOf e 0xC0000005 = some (.br e 5) ∧ instrOf e 0xDC000000 = some (.halt e) ∧ instrOf e 0xF8000000 = some (.nop e) ∧
    instrOf e 0 = none ∧ instrOf e 0xF8000001 = none ∧ instrOf e 0x11235100 = none) ∧
  (∀ (s : State) (e : Fin 384) (off : BitVec 21), (s.sys.engine e.val).busy = true → InTime s e.val →
    Completes (.br e off) s fun t =>
      let g := s.sys.engine e.val
      let h := t.sys.engine e.val
      h.pc = jump g.pc off ∧ h.slot = g.slot + 2 ∧ h.loops = g.loops ∧ h.calls = g.calls ∧ g.keepsV h ∧ g.keepsS h ∧ g.keepsP h ∧
      Leaves [.engines] (only []) (only []) s t) ∧
  (∀ (s : State) (e : Fin 384) (pr : Fin 8) (m : BranchMode) (off : BitVec 21), Ready s e.val [(fileP, pr.val), (fileP, 1)] →
    Completes (.brp e pr m off) s fun t =>
      let g := s.sys.engine e.val
      (t.sys.engine e.val).pc = (if g.branches pr.val m then jump g.pc off else g.next.pc) ∧ g.keepsV (t.sys.engine e.val) ∧
      g.keepsS (t.sys.engine e.val) ∧ g.keepsP (t.sys.engine e.val) ∧ Leaves [.engines] (only []) (only []) s t) ∧
  (∀ (s : State) (e : Fin 384) (c : Fin 16) (len : BitVec 12),
    let g := s.sys.engine e.val
    g.busy = true → InTime s e.val → g.rs c.val ≠ 0 → g.loops.length < 4 → Completes (.loop e c len) s fun t =>
      (t.sys.engine e.val).pc = g.pc + 1 ∧ (t.sys.engine e.val).loops = ⟨g.pc + 1, g.pc + 1 + len.toNat, (g.rs c.val).toNat⟩ :: g.loops ∧
      Leaves [.engines] (only []) (only []) s t) ∧
  (∀ (s : State) (e : Fin 384) (c : Fin 16) (len : BitVec 12),
    let g := s.sys.engine e.val
    g.busy = true → InTime s e.val → g.rs c.val = 0 → g.loops = [] → Completes (.loop e c len) s fun t =>
      (t.sys.engine e.val).pc = g.pc + len.toNat + 1 ∧ (t.sys.engine e.val).loops = [] ∧ Leaves [.engines] (only []) (only []) s t) ∧
  (∀ (s : State) (e : Fin 384) (off : BitVec 21),
    let g := s.sys.engine e.val
    g.busy = true → InTime s e.val → g.calls.length < 8 → Completes (.call e off) s fun t =>
      (t.sys.engine e.val).pc = jump g.pc off ∧ (t.sys.engine e.val).calls = (g.pc + 1) :: g.calls ∧ Leaves [.engines] (only []) (only []) s t) ∧
  (∀ (s : State) (e : Fin 384) (a : Nat) (r : List Nat),
    let g := s.sys.engine e.val
    g.busy = true → InTime s e.val → g.calls = a :: r → Completes (.ret e) s fun t =>
      (t.sys.engine e.val).pc = (loopBack g.loops a).2 ∧ (t.sys.engine e.val).calls = r ∧ Leaves [.engines] (only []) (only []) s t) ∧
  (∀ (s : State) (e : Fin 384) (c : Instr) (m : BitVec 4),
    let g := s.sys.engine e.val
    c = .sync e ∧ m = 0xF ∨ c = .wait e m → g.busy = true → InTime s e.val → (m.getLsbD 2 = false ∨ g.reqs = []) →
    Completes c s fun t => Advances e.val s t ∧ g.keeps (t.sys.engine e.val) ∧ g.keepsV (t.sys.engine e.val) ∧ g.keepsS (t.sys.engine e.val) ∧
      g.keepsP (t.sys.engine e.val) ∧ (m = 0xF → ∀ d ∈ g.due, d.cls.isSome = true → d.slot < (t.sys.engine e.val).slot)) ∧
  (∀ (s : State) (e : Fin 384), (s.sys.engine e.val).busy = true →
    Completes (.halt e) s fun t =>
      let g := s.sys.engine e.val
      (t.sys.engine e.val).busy = false ∧ (t.sys.engine e.val).calls = [] ∧ (t.sys.engine e.val).loops = [] ∧
      t.sys.rd (ent (0x3860 + e.val / 16) 3) = (s.sys.rd (ent (0x3860 + e.val / 16) 3) + 1) % 2 ^ 64 ∧
      t.sys.rd (ent (0x3860 + e.val / 16) 4) = (s.sys.rd (ent (0x3860 + e.val / 16) 4) + (g.slot + 1)) % 2 ^ 64 ∧ t.otp = s.otp) ∧
  (∀ (s : State) (e : Fin 384), (s.sys.engine e.val).busy = true → (s.sys.engine e.val).slot + 1 < 65536 →
    Completes (.nop e) s fun t => Advances e.val s t ∧ (s.sys.engine e.val).keeps (t.sys.engine e.val) ∧ (s.sys.engine e.val).keepsV (t.sys.engine e.val) ∧
      (s.sys.engine e.val).keepsS (t.sys.engine e.val) ∧ (s.sys.engine e.val).keepsP (t.sys.engine e.val)) ∧
  (∀ (s : State) (e : Fin 384), (s.sys.engine e.val).busy = true → 65535 ≤ (s.sys.engine e.val).slot →
    Completes (.nop e) s fun t => (t.sys.engine e.val).busy = false ∧ (t.sys.engine e.val).outs = [] ∧
      t.sys.rd (ent (0x3860 + e.val / 16) 9) = (s.sys.rd (ent (0x3860 + e.val / 16) 9) + 1) % 2 ^ 32 ∧ t.otp = s.otp ∧ t.pending = s.pending) ∧
  (∀ (s : State) (e : Fin 384) (b : SegBuf) (n col line lanes : Nat) (f : Frame),
    let g := s.sys.engine e.val
    g.busy = false → s.sys.engineIn e.val = true →
    ((s.sys.troupe (e.val / 16)).bufs.find? fun b => b.dispatched && (s.sys.nextGroup b).isSome &&
      (s.sys.frame? b.ctx b.frame).any fun f => decide (g.notBefore ≤ f.latch)) = some b →
    s.sys.nextGroup b = some (n, col, line, lanes) → s.sys.frame? b.ctx b.frame = some f →
    Completes (.engineGroupDispatch e) s fun t =>
      let h := t.sys.engine e.val
      h.busy = true ∧ h.ctx = f.ctx ∧ h.frame = f.num ∧ h.binding = n ∧ h.stripe = b.stripe ∧ h.seg = b.seg ∧ h.rs 12 = BitVec.ofNat 32 col ∧
      h.rs 13 = BitVec.ofNat 32 line ∧ h.rs 14 = BitVec.ofNat 32 f.num ∧ h.rp 1 = BitVec.ofNat 16 (2 ^ lanes - 1) ∧ h.calls = [] ∧ h.loops = [] ∧
      h.outs = [] ∧ (∀ j, j ≠ e.val → t.sys.engine j = s.sys.engine j) ∧ Leaves [.engines, .troupes] (only []) (only []) s t) ∧
  (∀ (s : State) (e : Fin 384), (s.sys.engine e.val).busy = true →
    Completes (.engineGroupTimeout e) s fun t =>
      (t.sys.engine e.val).busy = false ∧ (t.sys.engine e.val).outs = [] ∧
      t.sys.rd (ent (0x3860 + e.val / 16) 9) = (s.sys.rd (ent (0x3860 + e.val / 16) 9) + 1) % 2 ^ 32 ∧ t.otp = s.otp)

/-- Engines and Troupes are fenced and return, images and tables are loaded (R359, R369, R370, R372, R374): an engine that errs leaves its Troupe,
which counts it; fewer than 8 engines fence the Troupe; a retest is logged and decides what returns, and where none is due nothing happens; a kept image is resident, and a load is told. -/
def Obligations.EnginesTroupesAndImages : Prop :=
  (∀ (s : State) (e : Fin 384) (c : EngineFault),
    s.sys.troupeRun (e.val / 16) = false ∨ 8 < popcount 16 (s.sys.rd (ent (0x3860 + e.val / 16) 2)) →
    (s.sys.engine e.val).busy = false → (s.sys.engine e.val).halted = [] →
    let t := e.val / 16
    Runs (.engineParityError e c) s (Sys.raise
      (((((s.sys.wrBit (ent (0x3860 + t) 2) (e.val % 16) false).inc (ent (0x3860 + t) 0x0A)).setEngine e.val
        { (s.sys.engine e.val).idle with halted := [], copied := none })).setTroupe t { s.sys.troupe t with
          enginesReturning := (s.sys.troupe t).enginesReturning.filter (· != e.val % 16)
          bufs := (s.sys.troupe t).bufs.map fun b => { b with again := b.again ++ [] } })
      0x0A02 t (ev [(0, 2, e.val), (2, 1, match c with | .instructionStore => 0 | .localMemory => 1 | .registerFile => 2), (3, 1, 0xFF), (4, 4, 0)]))) ∧
  (∀ (s : State) (e : Fin 384) (c : EngineFault), s.sys.troupeRun (e.val / 16) = true →
    popcount 16 (s.sys.rd (ent (0x3860 + e.val / 16) 2)) ≤ 8 → (s.sys.rd (ent (0x3860 + e.val / 16) 2)).testBit (e.val % 16) = true →
    Completes (.engineParityError e c) s fun t =>
      (∃ y cause, t.sys = Sys.fenceTroupe y (e.val / 16) cause ∧ (y.engine e.val).busy = false ∧
        y.rd (ent (0x3860 + e.val / 16) 0x0A) = (s.sys.rd (ent (0x3860 + e.val / 16) 0x0A) + 1) % 2 ^ 32) ∧ t.otp = s.otp ∧ t.pending = s.pending) ∧
  (∀ (s : State) (e : Fin 384) (passed : Bool), s.sys.engineInTest e.val = false → Runs (.engineRetestDone e passed) s s.sys) ∧
  (∀ (s : State) (e : Fin 384) (passed : Bool), s.sys.engineInTest e.val = true → Room s → Completes (.engineRetestDone e passed) s fun t =>
    (t.sys.troupe (e.val / 16)).enginesReturning =
      (s.sys.troupe (e.val / 16)).enginesReturning ++ (if passed then [e.val % 16] else []) ∧
    (t.sys.troupe (e.val / 16)).enginesFailed = (s.sys.troupe (e.val / 16)).enginesFailed ++ (if passed then [] else [e.val % 16]) ∧
    (∀ j, j ≠ e.val / 16 → t.sys.troupe j = s.sys.troupe j) ∧
    Logs s t 0x0A04 (e.val / 16) (ev [(1, 2, e.val), (3, 1, if passed then 0 else 1)]) ∧
    Leaves [.troupes, .log] (only []) (only []) s t) ∧
  (∀ (s : State) (q : Fin 24) (c : TroupeFault), s.sys.rd (ent (0x3860 + q.val) 1) ≠ 0 → (s.sys.troupe q.val).returning = false →
    Runs (.troupeParityError q c) s (s.sys.inc (ent (0x3860 + q.val) 0x0A))) ∧
  (∀ (s : State) (q : Fin 24) (c : TroupeFault), s.sys.rd (ent (0x3860 + q.val) 1) = 0 ∨ (s.sys.troupe q.val).returning = true →
    Runs (.troupeParityError q c) s
    (Sys.fenceTroupe (s.sys.inc (ent (0x3860 + q.val) 0x0A)) q.val (match c with | .stripeMemory => 0 | .tableMemory => 1 | .outputPath => 2))) ∧
  (∀ (s : State) (q : Fin 24) (passed : Bool), s.sys.rd (ent (0x3860 + q.val) 1) = 0 ∨ s.sys.rd (ent (0x3860 + q.val) 1) = 3 ∨
    (s.sys.troupe q.val).returning = true → Runs (.troupeRetestDone q passed) s s.sys) ∧
  (∀ (s : State) (q : Fin 24) (passed : Bool), s.sys.rd (ent (0x3860 + q.val) 1) ≠ 0 → s.sys.rd (ent (0x3860 + q.val) 1) ≠ 3 →
    (s.sys.troupe q.val).returning = false → Room s → Completes (.troupeRetestDone q passed) s fun t =>
    t.sys.pages = (if passed then s.sys.pages.map fun p => if p.placed.contains q.val && !p.loaded.isEmpty then
      { p with loaded := (q.val :: p.loaded).eraseDups } else p else s.sys.pages) ∧
    t.sys.rd (ent (0x3860 + q.val) 1) = (if passed then 2 else 3) ∧
    t.sys.troupe q.val = { s.sys.troupe q.val with returning := passed } ∧ (∀ j, j ≠ q.val → t.sys.troupe j = s.sys.troupe j) ∧
    Logs s t 0x0A04 q.val (ev [(0, 1, 1), (1, 2, q.val), (3, 1, if passed then 0 else 1)]) ∧
    Leaves [.troupes, .pages, .log] (only [ent (0x3860 + q.val) 1]) (only []) s t) ∧
  (∀ (s : State) (i : Fin 16) (r : Resident), (s.sys.resident.find? fun r => r.slot == i.val && !r.loaded) = some r → Room s →
    Completes (.imageLoadDone i) s fun t =>
      t.sys.resident = s.sys.resident.map (fun q => if q.slot = i.val then { q with loaded := true, since := none } else q) ∧
      (∀ (u : Nat) (f : Frame), r.since = some u → (s.sys.frames.find? fun f => f.gen.lookSlot f.ctx == i.val) = some f →
        Logs s t 0x0A07 f.ctx (ev [(0, 1, f.ctx), (1, 1, i.val), (4, 4, (s.sys.up - u) / 1000), (8, 4, f.num)])) ∧
      Leaves [.resident, .log] (only []) (only []) s t) ∧
  (∀ (s : State) (e : Fin 64) (p : PageTable),
    (s.sys.pages.find? fun p => p.entry == e.val && p.placed.any fun t => !p.loaded.contains t) = some p →
    Completes (.tableLoadDone e) s fun t =>
      t.sys.pages = s.sys.pages.map (fun q => if q.entry = e.val then
        { q with loaded := p.placed, since := p.since.filter fun w => !p.placed.contains w.1 } else q) ∧
      (p.since = [] → Leaves [.pages] (only []) (only []) s t) ∧ t.otp = s.otp ∧ t.pending = s.pending) ∧
  (∀ (s : State) (w : Writer) (i : Fin 16), Admitted s w (ent (0x3840 + i.val) 7) (le 1 0) → Completes (.keepResidentWrite w i 0) s fun t =>
    t.sys.rd (ent (0x3840 + i.val) 7) = 0 ∧ (∀ r ∈ t.sys.resident, r ∈ s.sys.resident) ∧ t.otp = s.otp ∧ t.pending = s.pending) ∧
  (∀ (s : State) (w : Writer) (i : Fin 16) (r : Resident), Admitted s w (ent (0x3840 + i.val) 7) (le 1 1) → s.sys.place i.val = some r →
    s.sys.resident = [] → Completes (.keepResidentWrite w i 1) s fun t =>
    t.sys.rd (ent (0x3840 + i.val) 7) = 1 ∧ t.sys.resident = [r] ∧ r.slot = i.val ∧ t.sys.rd (ent 0x3880 4) = 2 ^ i.val ∧
    t.otp = s.otp ∧ t.pending = s.pending) ∧
  (∀ (s : State) (w : Writer) (i : Fin 16) (v : Nat), 1 < v → v < 256 → (s.sys.arrival s.otp w (ent (0x3840 + i.val) 7) (le 1 v)).1 ≠ .ok)

/-- Calibration and tables (R178, R380 to R383, R388, R391 to R393): an admitted commit makes the staged set the slot's, fuses one more epoch and logs it;
one of the set that the slot holds fuses none; an exhausted slot admits no other set; a revert brings the committed set back to the staging entries; a
table is declared, filled, sealed or generated by an admitted write, and none is admitted while someone uses the table. -/
def Obligations.CalibrationAndTablesCommit : Prop :=
  (∀ (s : State) (w : Writer) (i : Fin 8), Admitted s w (ent (0x3C00 + i.val) 8) (le 2 1) →
    let c := s.sys.staged i.val (s.otp.calEpoch i.val + 1)
    c.hash ≠ (s.sys.cal i.val).hash → Room s → Completes (.calibrationCommit w i) s fun t =>
      t.otp = s.otp.apply (.fuseCalibration i.val) ∧ t.otp.calEpoch i.val = s.otp.calEpoch i.val + 1 ∧ t.otp.calEpoch i.val ≤ 32 ∧ t.sys.cal i.val = c ∧
      t.sys.rd (ent (0x3C00 + i.val) 0x0A) = s.otp.calEpoch i.val + 1 ∧ t.sys.rd (ent (0x3C00 + i.val) 9) = 31 - s.otp.calEpoch i.val ∧
      t.sys.rdB (ent (0x3C00 + i.val) 0x0B) = c.hash ∧ t.pending = s.pending ∧
      (⟨s.sys.t96, 0x0A10, severity 0x0A10, i.val, pack 16 [(0, 1, i.val), (1, 1, s.otp.calEpoch i.val + 1), (2, 1, 31 - s.otp.calEpoch i.val),
        (4, 4, unLe (c.hash.take 4))]⟩ : EventRecord) ∈ t.sys.log.pending) ∧
  (∀ (s : State) (w : Writer) (i : Fin 8), Admitted s w (ent (0x3C00 + i.val) 8) (le 2 1) →
    (s.sys.staged i.val (s.otp.calEpoch i.val + 1)).hash = (s.sys.cal i.val).hash → Completes (.calibrationCommit w i) s fun t =>
      t.otp = s.otp ∧ t.sys.mram.cal = s.sys.mram.cal ∧ t.pending = s.pending) ∧
  (∀ (s : State) (w : Writer) (i : Fin 8), 32 ≤ s.otp.calEpoch i.val →
    (s.sys.staged i.val (s.otp.calEpoch i.val + 1)).hash ≠ (s.sys.cal i.val).hash → (s.sys.arrival s.otp w (ent (0x3C00 + i.val) 8) (le 2 1)).1 ≠ .ok) ∧
  (∀ (s : State) (w : Writer) (i : Fin 8), Admitted s w (ent (0x3C00 + i.val) 0x0D) (le 1 1) → Completes (.revertStaging w i 1) s fun t =>
    t.sys.rd (ent (0x3C00 + i.val) 1) = (s.sys.cal i.val).mode ∧ t.sys.rdB (ent (0x3C00 + i.val) 2) = (s.sys.cal i.val).knots ∧
    t.sys.rdB (ent (0x3C00 + i.val) 3) = (s.sys.cal i.val).defects ∧
    (∀ g, g < 4 → t.sys.rdB (ent (0x3C00 + i.val) (4 + g)) = (s.sys.cal i.val).grids.getD g []) ∧
    t.sys.rdB (ent (0x3C00 + i.val) 0x0C) = (s.sys.cal i.val).hash ∧ t.otp = s.otp ∧ t.pending = s.pending) ∧
  (∀ (s : State) (w : Writer) (e : Fin 64) (h : Bytes), Admitted s w (ent (0x3C40 + e.val) 1) h → h ≠ [] → Completes (.tableHeaderWrite w e h) s fun t =>
    t.sys.rdB (ent (0x3C40 + e.val) 1) = h ∧ t.sys.rd (ent (0x3C40 + e.val) 5) = 1 ∧ headerOk h = true ∧
    t.sys.tables.lookup e.val = some ⟨List.replicate (tableSize h) 0, [], none⟩ ∧ t.otp = s.otp ∧ t.pending = s.pending) ∧
  (∀ (s : State) (w : Writer) (e : Fin 64), Admitted s w (ent (0x3C40 + e.val) 1) [] → Completes (.tableHeaderWrite w e []) s fun t =>
    t.sys.rdB (ent (0x3C40 + e.val) 1) = [] ∧ t.sys.rd (ent (0x3C40 + e.val) 5) = 0 ∧ t.otp = s.otp ∧ t.pending = s.pending) ∧
  (∀ (s : State) (w : Writer) (e : Fin 64) (v : Bytes), Admitted s w (ent (0x3C40 + e.val) 2) v → Completes (.tableDataWrite w e v) s fun t =>
    ∃ lt, s.sys.tables.lookup e.val = some lt ∧ rdLe v 0 4 + (v.length - 4) ≤ lt.data.length ∧
      t.sys.tables.lookup e.val = some { lt with
        data := poke lt.data (rdLe v 0 4) (v.drop 4), filled := lt.filled ++ [(rdLe v 0 4, rdLe v 0 4 + (v.length - 4))] } ∧
      t.otp = s.otp ∧ t.pending = s.pending) ∧
  (∀ (s : State) (w : Writer) (e : Fin 64) (i : Nat) (v : Bytes), s.sys.tableUsers e.val ≠ [] → i = 1 ∨ i = 2 ∨ i = 3 →
    (s.sys.arrival s.otp w (ent (0x3C40 + e.val) i) v).1 ≠ .ok) ∧
  (∀ (s : State) (w : Writer) (e : Fin 64), Admitted s w (ent (0x3C40 + e.val) 4) (le 1 1) → Room s →
    let h := s.sys.rdB (ent (0x3C40 + e.val) 1)
    Completes (.tableSeal w e 1) s fun t => ∃ lt, s.sys.tables.lookup e.val = some lt ∧ tableFinite h lt.data = true ∧
      t.sys.rd (ent (0x3C40 + e.val) 5) = 2 ∧ t.sys.rdB (ent (0x3C40 + e.val) 6) = sha256 (h ++ lt.data) ∧
      (⟨s.sys.t96, 0x0A11, severity 0x0A11, e.val,
        ev [(0, 1, e.val), (1, 1, rdLe h 5 1), (2, 2, rdLe h 8 4), (4, 4, unLe ((sha256 (h ++ lt.data)).take 4))]⟩ : EventRecord) ∈ t.sys.log.pending ∧
      t.otp = s.otp ∧ t.pending = s.pending) ∧
  (∀ (s : State) (w : Writer) (e : Fin 64) (v : Bytes), Admitted s w (ent (0x3C40 + e.val) 3) v → Completes (.tableGenerate w e v) s fun t =>
    t.sys.rdB (ent (0x3C40 + e.val) 1) = (generate v).1 ∧ t.sys.rd (ent (0x3C40 + e.val) 5) = 2 ∧
    t.sys.tables.lookup e.val = some ⟨(generate v).2, [(0, (generate v).2.length)], some v⟩ ∧ t.otp = s.otp ∧ t.pending = s.pending)

/-- Scan-out channels (R434 to R436, R440 to R447, R451): an origin starts the output frame and answers a restart; lines enter the FIFO while they are
there and fit; a line missing at its commit instant switches the channel and its lock group, and the raster line that starts there raises LINE_MATCH
where it is the one set (R462); the partners' decisions and signatures are obeyed and compared. -/
def Obligations.ChannelsSelectFetchAndSwitch : Prop :=
  (∀ (s : State) (c : Fin 24) (k : BitVec 64), s.sys.view.chanOn c.val = true → s.sys.domainRun 26 = true → s.sys.portsHeld 26 = false →
    s.sys.outputsHeld = false ∨ (s.sys.channel c.val).restart = none → Room s →
    s.sys.rdBit (ent (0x4100 + c.val) 0x0E) 1 = false → Completes (.outputOrigin c k) s fun t =>
      t.sys.channel c.val = { s.sys.channel c.val with
        running := true, restart := none, index := k.toNat, origin := s.sys.view.originOf c.val k.toNat } ∧
      (∀ d, d ≠ c.val → t.sys.channel d = s.sys.channel d) ∧ t.sys.rd (ent (0x4140 + c.val) 2) = k.toNat ∧
      t.sys.rdB (ent (0x4120 + c.val) 4) = s.sys.view.timingRecord c.val ∧
      (∀ cause, (s.sys.channel c.val).restart = some cause →
        (⟨s.sys.t96, 0x0C06, severity 0x0C06, c.val, pack 16 [(0, 1, c.val), (1, 1, cause), (8, 8, k.toNat)]⟩ : EventRecord) ∈ t.sys.log.pending) ∧
      Leaves [.channels, .log, .edps, .pathsDown] (fun n => n ∈ [ent (0x4140 + c.val) 1, ent (0x4140 + c.val) 2, ent 0x41B0 1] ∨
        indices 0x4170 16 n ∨ indices 0x4188 2 n ∨ indices 0x4190 8 n) (only [ent (0x4120 + c.val) 4]) s t) ∧
  (∀ (s : State) (c : Fin 24) (k : BitVec 64), s.sys.view.chanOn c.val = false ∨ s.sys.domainRun 26 = false ∨ s.sys.portsHeld 26 = true →
    Runs (.outputOrigin c k) s s.sys) ∧
  (∀ (s : State) (c : Fin 24), (s.sys.channel c.val).running = true → (s.sys.channel c.val).picked = true →
    (s.sys.channel c.val).nextFetch < (s.sys.view.timing c.val).actH → s.sys.lineThere c.val (s.sys.channel c.val).nextFetch = true →
    ((s.sys.channel c.val).nextFetch - ((s.sys.channel c.val).committed - 4) + 1) * s.sys.view.lineOctets c.val ≤ 262144 →
    Completes (.lineFetch c) s fun t =>
      t.sys.channel c.val = { s.sys.channel c.val with nextFetch := (s.sys.channel c.val).nextFetch + 1 } ∧
      (∀ d, d ≠ c.val → t.sys.channel d = s.sys.channel d) ∧ Leaves [.channels] (only []) (only []) s t) ∧
  (∀ (s : State) (c : Fin 24), (s.sys.channel c.val).running = true → (s.sys.channel c.val).picked = true →
    s.sys.lineThere c.val (s.sys.channel c.val).nextFetch = false → Runs (.lineFetch c) s s.sys) ∧
  (∀ (y : Sys) (c F : Nat), y.overtaken c F = false → y.showable c F = true → y.rd (ent (0x4100 + c) 2) = 1 → y.view.chanMode c = 0 →
    let ch := (y.enterSelection c (some F)).channel c
    ch.picked = true ∧ ch.shown = some F ∧ ch.fallback = y.fallbackOf c (some F) ∧ ch.switch = none) ∧
  (∀ (s : State) (c : Fin 24) (u : BitVec 16), (s.sys.channel c.val).running = true → u.toNat < (s.sys.channel c.val).nextFetch →
    s.sys.rdBit (ent (0x4100 + c.val) 0x0E) 1 = false →
    Completes (.lineCommitInstant c u) s fun t =>
      t.sys.channel c.val = { s.sys.channel c.val with committed := max (s.sys.channel c.val).committed (u.toNat + 1) } ∧
      (∀ d, d ≠ c.val → t.sys.channel d = s.sys.channel d) ∧ Leaves [.channels] (only []) (only []) s t) ∧
  (∀ (s : State) (c : Fin 24) (u : BitVec 16), let ch := s.sys.channel c.val
    ch.running = true → ch.nextFetch ≤ u.toNat → ch.shown ≠ none → ch.switch = none → u.toNat < (s.sys.view.timing c.val).actH →
    s.sys.lockGroup c.val = none → Completes (.lineCommitInstant c u) s fun t =>
      t.sys.channel c.val = { ch with
        committed := max ch.committed (u.toNat + 1), switch := some u.toNat, fell := some (ch.shown.getD 0, 1), underran := true } ∧
      (∀ d, d ≠ c.val → t.sys.channel d = s.sys.channel d) ∧
      t.sys.rd (ent (0x4140 + c.val) 0x0A) = (s.sys.rd (ent (0x4140 + c.val) 0x0A) + 1) % 2 ^ 32 ∧
      t.sys.rd (ent (0x4140 + c.val) 0x0B) = (s.sys.rd (ent (0x4140 + c.val) 0x0B) + 1) % 2 ^ 32 ∧ t.otp = s.otp ∧ t.pending = s.pending) ∧
  (∀ (s : State) (c : Fin 24) (u : BitVec 16), (s.sys.channel c.val).running = true → u.toNat < (s.sys.channel c.val).nextFetch →
    u.toNat < (s.sys.view.timing c.val).actH → s.sys.rdBit (ent (0x4100 + c.val) 0x0E) 1 = true →
    s.sys.rd (ent (0x4100 + c.val) 0x0A) + 4 = (s.sys.view.timing c.val).vFirst + u.toNat →
    Completes (.lineCommitInstant c u) s fun t =>
      t.sys.rdB (ent 0x1311 3) = setOctetBit (s.sys.rdB (ent 0x1311 3)) c.val 1 ∧ t.otp = s.otp ∧ t.pending = s.pending) ∧
  (∀ (s : State) (l : Fin 8) (p : Fin 4) (u : BitVec 16) (r : Fin 4), Completes (.lockGroupSignal l p u r) s fun t =>
    t.sys.rd (ent (0x4160 + l.val) 5) = (s.sys.rd (ent (0x4160 + l.val) 5) + 1) % 2 ^ 32 ∧ t.sys.rd (ent (0x4160 + l.val) 6) = u.toNat ∧
    (∀ d, s.sys.rdBit (ent (0x4160 + l.val) (1 + s.sys.arrayPos)) d = false → t.sys.channel d = s.sys.channel d) ∧
    t.otp = s.otp ∧ t.pending = s.pending) ∧
  (∀ (s : State) (c : Fin 24) (k : BitVec 64) (f g : BitVec 32), s.sys.rd (ent 0x41B0 2) ≠ 1 → Runs (.twinSignature c k f g) s s.sys) ∧
  (∀ (s : State) (c : Fin 24) (k : BitVec 64) (f g own : BitVec 32), s.sys.rd (ent 0x41B0 2) = 1 → (s.sys.channel c.val).lastSig = some own →
    s.sys.rd (ent (0x4140 + c.val) 2) = k.toNat → own ≠ g → Completes (.twinSignature c k f g) s fun t =>
      t.sys.rd (ent (0x4140 + c.val) 0x0F) = (s.sys.rd (ent (0x4140 + c.val) 0x0F) + 1) % 2 ^ 32 ∧
      t.sys.channel c.val = { s.sys.channel c.val with twin := none } ∧ t.otp = s.otp ∧ t.pending = s.pending)

/-- SDI inputs and panels (R454 to R457): a locked input keeps its three newest frames and a change of state is logged; a panel goes from power to
training to video to backlight, and fails, retrains or goes off as told; one that is shed (R104) stays as it was. -/
def Obligations.InputsAndPanelsFollowTheirSteps : Prop :=
  (∀ (s : State) (i : Fin 4) (st : BitVec 96) (rows : List (List (BitVec 48))) (crc : BitVec 16) (tc : BitVec 32),
    s.sys.rd (ent (0x4180 + i.val) 2) = 2 → (s.sys.sdi i.val).frames.length ≤ 3 → Completes (.sdiInputFrame i st rows crc tc) s fun t =>
      (t.sys.sdi i.val).frames.length ≤ 3 ∧ ((t.sys.sdi i.val).frames.map (·.2.1)).getLast? = some st.toNat ∧
      t.sys.rd (ent (0x4180 + i.val) 5) = (s.sys.rd (ent (0x4180 + i.val) 5) + 1) % 2 ^ 64 ∧
      t.sys.rd (ent (0x4180 + i.val) 8) = st.toNat ∧ t.sys.rdB (ent (0x4180 + i.val) 7) = le 4 tc.toNat ∧
      Leaves [.sdis] (only ([5, 6, 8].map (ent (0x4180 + i.val)))) (only [ent (0x4180 + i.val) 7]) s t) ∧
  (∀ (s : State) (i : Fin 4) (st : BitVec 96) (rows : List (List (BitVec 48))) (crc : BitVec 16) (tc : BitVec 32),
    s.sys.rd (ent (0x4180 + i.val) 2) ≠ 2 → Runs (.sdiInputFrame i st rows crc tc) s s.sys) ∧
  (∀ (s : State) (i st : Fin 4) (f : Fin 15), s.sys.rd (ent (0x4180 + i.val) 1) = 1 → s.sys.portsHeld 24 = false →
    s.sys.rd (ent (0x4180 + i.val) 2) ≠ st.val → Room s →
    Completes (.sdiInputState i st f) s fun t =>
      t.sys.rd (ent (0x4180 + i.val) 2) = st.val ∧ t.sys.rd (ent (0x4180 + i.val) 3) = f.val ∧
      (st.val ≠ 2 → s.sys.rd (ent (0x4180 + i.val) 2) = 2 → (t.sys.sdi i.val).holdFrom = some s.sys.up) ∧
      Logs s t 0x0C07 i.val (ev [(0, 1, i.val), (1, 1, s.sys.rd (ent (0x4180 + i.val) 2)), (2, 1, st.val), (3, 1, f.val)]) ∧
      Leaves [.sdis, .log] (only ([2, 3].map (ent (0x4180 + i.val)))) (only []) s t) ∧
  (∀ (s : State) (i : Fin 4), (s.sys.sdi i.val).holdFrom ≠ none → Completes (.sdiInputHoldEnd i) s fun t =>
    (t.sys.sdi i.val).frames = [] ∧ (t.sys.sdi i.val).expired = true ∧ Leaves [.sdis] (only []) (only []) s t) ∧
  (∀ (s : State) (i : Fin 4), (s.sys.sdi i.val).holdFrom = none → Runs (.sdiInputHoldEnd i) s s.sys) ∧
  (∀ (s : State) (p : Fin 2), let c := s.sys.rd (ent (0x4188 + p.val) 1)
    s.sys.rd (ent (0x4188 + p.val) 0x0C) = 0 ∨ s.sys.rd (ent (0x4188 + p.val) 0x0C) = 5 → s.sys.portsHeld 26 = false →
    s.sys.isShed 2 p.val = false → (s.sys.edp p.val).notBefore ≤ s.sys.up → c < 24 → s.sys.view.chanOn c = true → s.sys.view.edpFits p.val = true →
    Completes (.edpEnable p) s fun t =>
      t.sys.rd (ent (0x4188 + p.val) 0x0C) = 1 ∧ (t.sys.edp p.val).vdd = true ∧ (t.sys.edp p.val).waitHpd = true ∧
      t.sys.rd (ent (0x4188 + p.val) 2) = 1 ∧ Leaves [.edps] (only ([2, 0x0C].map (ent (0x4188 + p.val)))) (only []) s t) ∧
  (∀ (s : State) (p : Fin 2), let c := s.sys.rd (ent (0x4188 + p.val) 1)
    s.sys.rd (ent (0x4188 + p.val) 0x0C) = 0 ∨ s.sys.rd (ent (0x4188 + p.val) 0x0C) = 5 → s.sys.portsHeld 26 = false →
    s.sys.isShed 2 p.val = false → s.sys.up < (s.sys.edp p.val).notBefore → c < 24 → s.sys.view.chanOn c = true → Completes (.edpEnable p) s fun t =>
      t.sys.edp p.val = { s.sys.edp p.val with due := true } ∧ Leaves [.edps] (only [ent (0x4188 + p.val) 2]) (only []) s t) ∧
  (∀ (s : State) (p : Fin 2), s.sys.portsHeld 26 = true ∨ s.sys.isShed 2 p.val = true →
    Runs (.edpEnable p) s (s.sys.wr (ent (0x4188 + p.val) 2) 1)) ∧
  (∀ (s : State) (p : Fin 2), Completes (.edpDisable p) s fun t =>
    t.sys.rd (ent (0x4188 + p.val) 0x0C) = 0 ∧ t.sys.rd (ent (0x4188 + p.val) 2) = 0 ∧ (t.sys.edp p.val).vdd = false ∧
    (t.sys.edp p.val).blen = false ∧ (t.sys.edp p.val).video = false ∧
    (t.sys.edp p.val).notBefore = s.sys.up + rdLe (s.sys.rdB (ent (0x4188 + p.val) 0x0B)) 6 2 * 1000000 ∧
    Leaves [.edps] (only ([2, 0x0C].map (ent (0x4188 + p.val)))) (only []) s t) ∧
  (∀ (s : State) (p : Fin 2) (psr fast : Bool), (s.sys.edp p.val).vdd = true → (s.sys.edp p.val).waitHpd = true →
    Completes (.edpHpdHigh p psr fast) s fun t =>
      t.sys.rd (ent (0x4188 + p.val) 0x0C) = 2 ∧
      t.sys.edp p.val = { s.sys.edp p.val with waitHpd := false, psrOk := psr, fastTrain := fast, attempts := 0 } ∧
      Leaves [.edps] (only [ent (0x4188 + p.val) 0x0C]) (only []) s t) ∧
  (∀ (s : State) (p : Fin 2), (s.sys.edp p.val).waitHpd = true → Room s → Completes (.edpHpdTimeout p) s fun t =>
    t.sys.rd (ent (0x4188 + p.val) 0x0C) = 5 ∧ (t.sys.edp p.val).vdd = false ∧ Logs s t 0x0C08 p.val (ev [(0, 1, p.val)]) ∧
    Leaves [.edps, .log] (only [ent (0x4188 + p.val) 0x0C]) (only []) s t) ∧
  (∀ (s : State) (p : Fin 2), s.sys.rd (ent (0x4188 + p.val) 0x0C) = 2 → Completes (.edpTrainingDone p true) s fun t =>
    t.sys.edp p.val = { s.sys.edp p.val with trained := true, attempts := 0 } ∧ Leaves [.edps] (only []) (only []) s t) ∧
  (∀ (s : State) (p : Fin 2), s.sys.rd (ent (0x4188 + p.val) 0x0C) = 2 → 2 ≤ (s.sys.edp p.val).attempts → Room s →
    Completes (.edpTrainingDone p false) s fun t =>
      t.sys.rd (ent (0x4188 + p.val) 0x0C) = 5 ∧ Logs s t 0x0C08 p.val (ev [(0, 1, p.val), (1, 1, 1)]) ∧
      Leaves [.edps, .log] (only [ent (0x4188 + p.val) 0x0C]) (only []) s t) ∧
  (∀ (s : State) (p : Fin 2), s.sys.rd (ent (0x4188 + p.val) 0x0C) = 3 ∨ s.sys.rd (ent (0x4188 + p.val) 0x0C) = 4 →
    Completes (.edpHpdIrq p true) s fun t =>
      t.sys.rd (ent (0x4188 + p.val) 0x0C) = 2 ∧ t.sys.edp p.val = { s.sys.edp p.val with attempts := 0, trained := false } ∧
      Leaves [.edps] (only [ent (0x4188 + p.val) 0x0C]) (only []) s t) ∧
  (∀ (s : State) (p : Fin 2), Runs (.edpHpdIrq p false) s s.sys) ∧
  (∀ (s : State) (p : Fin 2), (s.sys.edp p.val).vdd = true → (s.sys.edp p.val).waitHpd = false → Room s → Completes (.edpUnplug p) s fun t =>
    t.sys.rd (ent (0x4188 + p.val) 0x0C) = 0 ∧ (t.sys.edp p.val).vdd = false ∧ Logs s t 0x0C08 p.val (ev [(0, 1, p.val), (1, 1, 2)]) ∧
    Leaves [.edps, .log] (only [ent (0x4188 + p.val) 0x0C]) (only []) s t) ∧
  (∀ (s : State) (p : Fin 2), (s.sys.edp p.val).video = true → Completes (.edpBacklightOn p) s fun t =>
    t.sys.edp p.val = { s.sys.edp p.val with blen := !s.sys.isShed 2 p.val, pwm := true } ∧ Leaves [.edps] (only []) (only []) s t)

/-- Streams and audio (R458 to R460, R601 to R612): a packet leaves on every path that is up, and its absence is counted by none; an audio port takes,
sends or rests; a slave port that loses its clock says so, and says when it is back. -/
def Obligations.StreamsAndAudioPortsSend : Prop :=
  (∀ (s : State) (n : Fin 8) (p : BitVec 32) (late : Bool), let c := s.sys.rd (ent (0x4190 + n.val) 1)
    c < 24 → (s.sys.channel c).running = true → s.sys.isShed 5 n.val = false → p.toNat < s.sys.view.packets c → s.sys.pathsUp n.val ≠ [] →
    Completes (.st2110PacketSend n p late) s fun t =>
      t.sys.tx.length = s.sys.tx.length + (s.sys.pathsUp n.val).length ∧ (∃ l, t.sys.tx = s.sys.tx ++ l) ∧
      t.sys.rd (ent (0x4190 + n.val) 0x0C) = (s.sys.rd (ent (0x4190 + n.val) 0x0C) + 1) % 2 ^ 64 ∧
      (late = true → t.sys.rd (ent (0x4190 + n.val) 0x0D) = (s.sys.rd (ent (0x4190 + n.val) 0x0D) + 1) % 2 ^ 32) ∧
      Leaves [.tx] (indices 0x4190 8) (only []) s t) ∧
  (∀ (s : State) (n : Fin 8) (p : BitVec 32) (late : Bool), s.sys.isShed 5 n.val = true → Runs (.st2110PacketSend n p late) s (s.sys.showStream n.val)) ∧
  (∀ (s : State) (n : Fin 8), let c := s.sys.rd (ent (0x4190 + n.val) 1)
    s.sys.rd (ent (0x4190 + n.val) 9) = 1 → c < 24 → (s.sys.channel c).running = true → Completes (.st2110AncSend n) s fun t =>
      t.sys.tx.length = s.sys.tx.length + (s.sys.pathsUp n.val).length ∧ (∃ l, t.sys.tx = s.sys.tx ++ l) ∧
      Leaves [.tx] (only []) (only []) s t) ∧
  (∀ (s : State) (n : Fin 8), s.sys.rd (ent (0x4190 + n.val) 9) ≠ 1 → Runs (.st2110AncSend n) s s.sys) ∧
  (∀ (s : State) (a : Fin 8), s.sys.rd (ent (0x4198 + a.val) 1) = 0 → Runs (.st2110AudioSend a) s s.sys) ∧
  (∀ (s : State) (a : Fin 8), s.sys.rd (ent (0x4198 + a.val) 1) ≠ 0 → Completes (.st2110AudioSend a) s fun t =>
    t.sys.tx.length = s.sys.tx.length + (s.sys.pathsUp (8 + a.val)).length ∧ t.otp = s.otp ∧ t.pending = s.pending) ∧
  (∀ (s : State) (n : Fin 48) (u p : BitVec 96) (l : List (W32 × W32)), s.sys.rd (ent (0x2500 + n.val) 1) = 0 → Completes (.audioBlock n u p l) s fun t =>
    t.sys.rd (ent (0x2530 + n.val) 1) = 0 ∧ t.sys.ain n.val = audioIn0 ∧ t.sys.aout n.val = audioOut0 ∧
    Leaves [.audioIn, .audioOut] (only [ent (0x2530 + n.val) 1]) (only []) s t) ∧
  (∀ (s : State) (n : Fin 48) (u p : BitVec 96) (l : List (W32 × W32)), s.sys.rd (ent (0x2500 + n.val) 1) = 1 → (s.sys.ain n.val).lostAt = none →
    s.sys.portsHeld 35 = false → Completes (.audioBlock n u p l) s fun t => ∃ first m, m.length = min (s.sys.rd (ent (0x2500 + n.val) 7)) l.length ∧
      t.sys = Sys.apReceive ((s.sys.wr (ent (0x2530 + n.val) 5) first).wr (ent (0x2530 + n.val) 1) (if s.sys.apDriven n.val then 1 else 4)) n.val m ∧
      t.otp = s.otp ∧ t.pending = s.pending) ∧
  (∀ (s : State) (n : Fin 48) (u p : BitVec 96) (l : List (W32 × W32)), s.sys.rd (ent (0x2500 + n.val) 1) = 2 → (s.sys.ain n.val).lostAt = none →
    s.sys.inReset = false → Runs (.audioBlock n u p l) s (s.sys.apSend n.val u.toNat p.toNat)) ∧
  (∀ (s : State) (n : Fin 48) (u p : BitVec 96) (l : List (W32 × W32)), s.sys.rd (ent (0x2500 + n.val) 1) ≠ 0 → (s.sys.ain n.val).lostAt ≠ none →
    s.sys.rd (ent (0x2500 + n.val) 1) ≤ 2 → Runs (.audioBlock n u p l) s s.sys) ∧
  (∀ (s : State) (n : Fin 48) (u p : BitVec 96) (l : List (W32 × W32)), s.sys.rd (ent (0x2500 + n.val) 1) = 1 ∨ s.sys.rd (ent (0x2500 + n.val) 1) = 2 →
    s.sys.inReset = true → Runs (.audioBlock n u p l) s s.sys) ∧
  (∀ (s : State) (n : Fin 48) (rate : Bool), s.sys.apDir n.val ≠ .off → s.sys.apClock n.val = .slave → (s.sys.ain n.val).lostAt = none → Room s →
    Completes (.audioClockLoss n rate) s fun t =>
      t.sys.ain n.val = { s.sys.ain n.val with lostAt := some s.sys.up, lostMark := true } ∧ t.sys.rd (ent (0x2530 + n.val) 1) = 2 ∧
      t.sys.rd (ent (0x2530 + n.val) 0x0A) = (s.sys.rd (ent (0x2530 + n.val) 0x0A) + 1) % 2 ^ 32 ∧
      Logs s t 0x1101 n.val (ev [(0, 1, n.val), (1, 1, if rate then 1 else 0)]) ∧
      Leaves [.audioIn, .log] (indices 0x2530 48) (only []) s t) ∧
  (∀ (s : State) (n : Fin 48) (u : Nat), (s.sys.ain n.val).lostAt = some u → Room s → Completes (.audioClockRestored n) s fun t =>
    t.sys.ain n.val = { s.sys.ain n.val with lostAt := none } ∧ t.sys.rd (ent (0x2530 + n.val) 1) = 1 ∧
    Logs s t 0x1102 n.val (ev [(0, 1, n.val), (4, 4, (s.sys.up - u) / 1000)]) ∧
    Leaves [.audioIn, .log] (indices 0x2530 48) (only []) s t) ∧
  (∀ (s : State) (n : Fin 48), (s.sys.ain n.val).lostAt = none → Runs (.audioClockRestored n) s s.sys)

/-- The encoder (R468, R470, R477, R486 to R491): a free core takes the ready picture with the earliest deadline; a coded picture is counted, freed
and passed on; marks are kept and released, and recovery waits for the next picture. -/
def Obligations.EncodersCodeAndRecover : Prop :=
  (∀ (s : State) (k : Fin 4) (e : Nat), e < 16 → (s.sys.enc e).run.any (fun r => r.core == k.val) = true → Runs (.encodePictureStart k) s s.sys) ∧
  (∀ (s : State) (k : Fin 4) (e : Nat) (p : EncPic), e < 16 → (∀ j, j < 16 → (s.sys.enc j).run.any (fun r => r.core == k.val) = false) →
    (s.sys.shedMask 3).testBit k.val = false → s.sys.encReady e k.val = some (p, none) → (∀ j, j < 16 → j ≠ e → s.sys.encReady j k.val = none) →
    Completes (.encodePictureStart k) s fun t =>
      (∃ r, (t.sys.enc e).run = some r ∧ r.core = k.val ∧ r.pic = p ∧ r.startAt = s.sys.up) ∧
      (t.sys.enc e).queue = (s.sys.enc e).queue.drop 1 ∧ (∀ j, j ≠ e → t.sys.enc j = s.sys.enc j) ∧
      t.sys.rd (ent (0x4460 + k.val) 1) = 1 ∧ t.sys.cores.lookup k.val = some e ∧ t.otp = s.otp ∧ t.pending = s.pending) ∧
  (∀ (s : State) (k : Fin 4) (e : Nat) (r : EncRun), ((List.range 16).find? fun j => (s.sys.enc j).run.any fun q => q.core == k.val) = some e →
    (s.sys.enc e).run = some r → Completes (.encodePictureDone k) s fun t =>
      (t.sys.enc e).run = none ∧ (t.sys.enc e).index = (s.sys.enc e).index + 1 ∧
      (t.sys.enc e).sinceIrap = (if r.type ≤ 1 then 1 else (s.sys.enc e).sinceIrap + 1) ∧
      t.sys.rd (ent (0x4420 + e) 3) = (s.sys.rd (ent (0x4420 + e) 3) + 1) % 2 ^ 64 ∧ t.sys.rd (ent (0x4460 + k.val) 1) = 0 ∧
      t.sys.rd (ent (0x4460 + k.val) 4) = (s.sys.rd (ent (0x4460 + k.val) 4) + 1) % 2 ^ 64 ∧ t.otp = s.otp ∧ t.pending = s.pending) ∧
  (∀ (s : State) (k : Fin 4), (∀ j, j < 16 → (s.sys.enc j).run.any (fun r => r.core == k.val) = false) → Runs (.encodePictureDone k) s s.sys) ∧
  (∀ (s : State) (e : Fin 16) (m : Fin 2) (n : BitVec 32), s.sys.encNext e.val ≤ n.toNat → n.toNat ≤ s.sys.encNext e.val + 256 →
    Completes (.markKeep e m n) s fun t =>
      t.sys.enc e.val = { s.sys.enc e.val with
        keeps := ((s.sys.enc e.val).keeps.filter fun q => q.1 != m.val) ++ [(m.val, n.toNat)] } ∧
      (∀ j, j ≠ e.val → t.sys.enc j = s.sys.enc j) ∧ Leaves [.encs] (only []) (only []) s t) ∧
  (∀ (s : State) (e : Fin 16) (m : Fin 2) (n : BitVec 32), n.toNat < s.sys.encNext e.val ∨ s.sys.encNext e.val + 256 < n.toNat →
    Runs (.markKeep e m n) s s.sys) ∧
  (∀ (s : State) (e : Fin 16) (m : Fin 2), Room s → Completes (.markRelease e m) s fun t =>
    (t.sys.enc e.val).marks = (s.sys.enc e.val).marks.set m.val none ∧
    (t.sys.enc e.val).keeps = (s.sys.enc e.val).keeps.filter (fun q => q.1 != m.val) ∧
    (∀ f, (s.sys.enc e.val).marks.getD m.val none = some f → Logs s t 0x0D05 e.val (ev [(0, 1, e.val), (1, 1, m.val), (2, 1, 2), (4, 4, f)])) ∧
    Leaves [.encs, .log] (only []) (only [ent (0x4420 + e.val) 9]) s t) ∧
  (∀ (s : State) (e : Fin 16) (c : Instr) (m : Option Nat),
    (c, m) ∈ ([(.recoveryRefresh e, none), (.recoveryFromMark e 0, some 0), (.recoveryFromMark e 1, some 1)] : List (Instr × Option Nat)) →
    Completes c s fun t =>
      t.sys.enc e.val = { s.sys.enc e.val with recovery := some (m, false) } ∧ (∀ j, j ≠ e.val → t.sys.enc j = s.sys.enc j) ∧
      Leaves [.encs] (only []) (only []) s t) ∧
  (∀ (s : State) (e : Fin 16) (m : Fin 3), s.sys.rd (ent (0x4400 + e.val) 25) = 1 → (s.sys.rd (ent (0x4400 + e.val) 26)).testBit 1 = true →
    (s.sys.enc e.val).deafUntil ≤ s.sys.up → Completes (.lossReport e m) s fun t =>
      t.sys.enc e.val = { s.sys.enc e.val with recovery := some (if m.val < 2 then some m.val else none, true) } ∧
      Leaves [.encs] (only []) (only []) s t) ∧
  (∀ (s : State) (e : Fin 16) (m : Fin 3), s.sys.up < (s.sys.enc e.val).deafUntil → Runs (.lossReport e m) s s.sys)

/-- Playback (R416, R473, R492 to R498, R513, R560): a free core takes an access unit, and its picture is counted and waits for its due instant; a
unit beyond the decode column of the tools stops at UNSUPPORTED, and one without a base layer is discarded in silence; a picture that is not there is
late; a seek empties what was read; a feed delivers its clip or is refused; expansion reads block after block. -/
def Obligations.PlaybackDecodesAndExpands : Prop :=
  (∀ (s : State) (k : Fin 2) (u : Bytes) (i : AuInfo) (p : Nat), p < 8 → (s.sys.dec p).run.any (fun r => r.core == k.val) = true →
    Runs (.decodePictureStart k u i) s s.sys) ∧
  (∀ (s : State) (k : Fin 2) (u : Bytes) (i : AuInfo) (p : Nat), p < 8 → (∀ q, q < 8 → (s.sys.dec q).run.any (fun r => r.core == k.val) = false) →
    (s.sys.shedMask 4).testBit k.val = false → (∀ q, q < 8 → s.sys.decReady k.val q u = decide (q = p)) → (s.sys.dec p).input = [] →
    s.sys.pb p 3 = 1 → s.sys.pb p 5 = 0 → noBaseLayer u = false → (s.sys.dec p).lastIndex = none → i.missing = 0 → i.faults = [] →
    i.kind = .idr → s.sys.auSupported p i = true → Completes (.decodePictureStart k u i) s fun t =>
      (∃ r, (t.sys.dec p).run = some r ∧ r.core = k.val ∧ r.au = u ∧ r.index = 0 ∧ r.clean = true ∧ r.frame = none ∧ r.startAt = s.sys.up) ∧
      (t.sys.dec p).lastIndex = some 0 ∧ t.sys.rd (ent (0x4450 + p) 1) = 2 ∧ t.sys.rd (ent (0x4450 + p) 2) = i.profile.toNat ∧
      t.sys.rd (ent (0x4450 + p) 3) = i.level.toNat ∧ t.sys.rd (ent (0x4464 + k.val) 1) = 1 ∧ t.otp = s.otp ∧ t.pending = s.pending) ∧
  (∀ (s : State) (k : Fin 2) (u : Bytes) (i : AuInfo) (p : Nat), p < 8 → (∀ q, q < 8 → (s.sys.dec q).run.any (fun r => r.core == k.val) = false) →
    (s.sys.shedMask 4).testBit k.val = false → (∀ q, q < 8 → s.sys.decReady k.val q u = decide (q = p)) → (s.sys.dec p).input = [] →
    s.sys.pb p 3 = 1 → noBaseLayer u = false → s.sys.auSupported p i = false → Completes (.decodePictureStart k u i) s fun t =>
      t.sys.rd (ent (0x4450 + p) 1) = 3 ∧ (t.sys.dec p).run = none ∧ t.otp = s.otp ∧ t.pending = s.pending) ∧
  (∀ (s : State) (k : Fin 2) (u : Bytes) (i : AuInfo) (p : Nat), p < 8 → (∀ q, q < 8 → s.sys.decReady k.val q u = decide (q = p)) →
    (s.sys.dec p).input = [] → s.sys.pb p 3 = 1 → noBaseLayer u = true → Completes (.decodePictureStart k u i) s fun t =>
      t.sys.log = s.sys.log ∧ t.sys.decs = s.sys.decs ∧ t.otp = s.otp ∧ t.pending = s.pending) ∧
  (∀ (y : Sys) (p : Nat) (i : AuInfo), y.auSupported p i = true →
    (i.tools.ctb = 16 ∨ i.tools.ctb = 32 ∨ i.tools.ctb = 64) ∧ i.tools.reorder ≤ 4 ∧ (y.pb p 5 = 1 → i.tools.reorder = 0) ∧
    i.level.toNat ≤ 186 ∧ 128 ≤ i.width.toNat ∧ i.width.toNat ≤ 8192 ∧ 128 ≤ i.height.toNat ∧ i.height.toNat ≤ 4352) ∧
  (∀ (s : State) (k : Fin 2) (d : DecodedPic) (p : Nat) (r : DecRun),
    ((List.range 8).find? fun q => (s.sys.dec q).run.any fun j => j.core == k.val) = some p → (s.sys.dec p).run = some r → r.frame = none →
    (s.sys.dec p).late = false → Completes (.decodePictureDone k d) s fun t =>
      (t.sys.dec p).run = none ∧ (t.sys.dec p).ready.map (·.out) = (s.sys.dec p).ready.map (·.out) ++ [d.output.toNat] ∧
      t.sys.rd (ent (0x4450 + p) 4) = (s.sys.rd (ent (0x4450 + p) 4) + 1) % 2 ^ 64 ∧ t.sys.rd (ent (0x4464 + k.val) 1) = 0 ∧
      t.sys.rd (ent (0x4464 + k.val) 4) = (s.sys.rd (ent (0x4464 + k.val) 4) + 1) % 2 ^ 64 ∧ t.otp = s.otp ∧ t.pending = s.pending) ∧
  (∀ (s : State) (x : Fin 8), s.sys.pb x.val 5 ≠ 0 → Runs (.pictureDue x) s s.sys) ∧
  (∀ (s : State) (x : Fin 8), s.sys.pb x.val 5 = 0 → s.sys.pb x.val 1 = 1 →
    ((s.sys.dec x.val).ready.find? fun d => d.out == (s.sys.dec x.val).due) = none → Completes (.pictureDue x) s fun t =>
      t.sys.dec x.val = { s.sys.dec x.val with late := true } ∧ Leaves [.decs] (only []) (only []) s t) ∧
  (∀ (s : State) (x : Fin 8) (d : DecPic), s.sys.pb x.val 5 = 0 → s.sys.pb x.val 1 = 1 →
    ((s.sys.dec x.val).ready.find? fun d => d.out == (s.sys.dec x.val).due) = some d →
    Runs (.pictureDue x) s (s.sys.latchReady s.otp x.val d false)) ∧
  (∀ (s : State) (x : Fin 8), Completes (.decodeSeek x) s fun t =>
    t.sys.dec x.val = { s.sys.dec x.val with input := [], ready := [], due := 0, late := false, lastIndex := none, dropRasl := false } ∧
    (s.sys.rd (ent (0x4450 + x.val) 1) = 2 → t.sys.rd (ent (0x4450 + x.val) 1) = 1) ∧
    Leaves [.decs, .zcs] (only [ent (0x4450 + x.val) 1]) (only []) s t) ∧
  (∀ (s : State) (x : Fin 8) (l : List FeedChunk), s.sys.feedCfg x.val 1 = 0 →
    Runs (.playbackFeedStart x l) s (s.sys.wr (ent (0x4980 + x.val) 5) 0)) ∧
  (∀ (s : State) (x : Fin 8) (l : List FeedChunk), s.sys.feedCfg x.val 1 ≠ 0 → s.sys.vol.directory = [] → Room s →
    Completes (.playbackFeedStart x l) s fun t =>
      t.sys.rd (ent (0x4980 + x.val) 5) = 3 ∧ Logs s t 0x0F13 x.val (ev [(0, 1, x.val), (1, 1, 1)]) ∧
      Leaves [.log] (only [ent (0x4980 + x.val) 5]) (only []) s t) ∧
  (∀ (s : State) (x : Fin 8) (c : FeedChunk) (q : Nat × Clip), s.sys.feedCfg x.val 1 ≠ 0 →
    (s.sys.vol.directory.find? fun d => d.2.id == s.sys.feedCfg x.val 1) = some q → c.stream.toNat = s.sys.feedCfg x.val 2 →
    c.kind = 1 ∨ c.kind = 2 → q.2.flags.testBit 0 = false → s.sys.pb x.val 1 = 1 → Completes (.playbackFeedStart x [c]) s fun t =>
      (t.sys.dec x.val).input = (s.sys.dec x.val).input ++
        [(feedPayloads none (s.sys.feedCfg x.val 2) (s.sys.feedCfg x.val 3) [c] 0 0).flatten] ∧
      t.sys.rd (ent (0x4980 + x.val) 5) = 2 ∧ Leaves [.decs] (only [ent (0x4980 + x.val) 5]) (only []) s t) ∧
  (∀ (s : State) (n : Fin 64) (b : Bytes), s.sys.expandCtx n.val = none →
    Runs (.rawExpandFrameBlock n b) s s.sys ∧ Runs (.rawExpandBlock n b) s s.sys) ∧
  (∀ (s : State) (n : Fin 64) (b c r : Bytes) (x k : Nat), s.sys.expandCtx n.val = some x → s.sys.nextBlock n.val x b = some (k, c, r) →
    rdLe c 1 1 = 6 → crcNat (slice c 16 96) = rdLe c 8 4 →
    Runs (.rawExpandFrameBlock n b) s (((s.sys.consume n.val r).skipOctets n.val k).expandFrame s.otp n.val x c)) ∧
  (∀ (s : State) (n : Fin 64) (b c r : Bytes) (x k : Nat), s.sys.expandCtx n.val = some x → s.sys.nextBlock n.val x b = some (k, c, r) →
    rdLe c 1 1 = 6 → crcNat (slice c 16 96) ≠ rdLe c 8 4 → Completes (.rawExpandFrameBlock n b) s fun t =>
      t.sys.rd (ent (0x4800 + n.val) 16) = (s.sys.rd (ent (0x4800 + n.val) 16) + 1) % 2 ^ 32 ∧ t.otp = s.otp ∧ t.pending = s.pending) ∧
  (∀ (s : State) (n : Fin 64) (b c r : Bytes) (x k : Nat) (f : Frame), s.sys.expandCtx n.val = some x →
    s.sys.nextBlock n.val x b = some (k, c, r) → rdLe c 1 1 ≠ 6 →
    let y := (s.sys.consume n.val r).skipOctets n.val k
    y.expanding n.val x = some f →
    (rdLe c 1 1 ≠ 7 → Runs (.rawExpandBlock n b) s (y.expandRaw n.val x f c)) ∧
    (rdLe c 1 1 = 7 → crcNat (slice c 16 8) = rdLe c 8 4 → Runs (.rawExpandBlock n b) s (y.expandEnd n.val x f c)))

/-- Compression and the history ring (R28, R505 to R518): a stripe whose own lines are all there is coded and moves its frame's raw line on, past the
lines that another array member codes, and one that lacks a line waits; a job takes its descriptor's octets, writes its
result and goes to the next descriptor; a held tail is discarded and told; the ring is held, released and extracted. -/
def Obligations.CodersJobsAndTheRing : Prop :=
  (∀ (s : State) (u x : Fin 8), (∀ f ∈ s.sys.frames, f.ctx ≠ x.val ∨ f.rawEnded = true ∨ f.gen.rawChannels x.val = []) →
    Runs (.rawStripeCoded u x) s s.sys) ∧
  (∀ (s : State) (u x : Fin 8) (f : Frame),
    (s.sys.frames.find? fun f => f.ctx == x.val && !f.rawEnded && !(f.gen.rawChannels x.val).isEmpty) = some f →
    let stop := min (f.gen.height x.val) (f.cut.getD (f.gen.height x.val))
    let own := (List.range stop).filter fun l => decide (f.rawLine ≤ l) && f.gen.ownLine x.val l
    let ends := (own.headD f.rawLine / f.gen.stripeH x.val + 1) * f.gen.stripeH x.val
    let next := if own.all fun l => decide (l < ends) then stop else ends
    (∀ l ∈ own, l < ends → ∃ d ∈ f.lines, d.num = l) → Completes (.rawStripeCoded u x) s fun t =>
      (∃ z g, t.sys = Sys.closeDone z x.val ∧ z.frame? x.val f.num = some g ∧ g.rawLine = next ∧ g.rawEnded = (next == stop)) ∧
      t.otp = s.otp ∧ t.pending = s.pending) ∧
  (∀ (s : State) (u x : Fin 8) (f : Frame),
    (s.sys.frames.find? fun f => f.ctx == x.val && !f.rawEnded && !(f.gen.rawChannels x.val).isEmpty) = some f →
    let stop := min (f.gen.height x.val) (f.cut.getD (f.gen.height x.val))
    let own := (List.range stop).filter fun l => decide (f.rawLine ≤ l) && f.gen.ownLine x.val l
    (∃ l ∈ own, l < (own.headD f.rawLine / f.gen.stripeH x.val + 1) * f.gen.stripeH x.val ∧ ∀ d ∈ f.lines, d.num ≠ l) →
    Runs (.rawStripeCoded u x) s s.sys) ∧
  (∀ (s : State) (n : Fin 64) (d i : Bytes) (b : Bool), s.sys.rd (ent (0x4800 + n.val) 1) ≠ 3 → Runs (.compressJob n d i b) s s.sys) ∧
  (∀ (s : State) (n : Fin 64) (d i : Bytes) (b : Bool), s.sys.rd (ent (0x4800 + n.val) 1) ≠ 4 → Runs (.expandJob n d i b) s s.sys) ∧
  (∀ (s : State) (n : Fin 64) (d i : Bytes) (b : Bool), s.sys.rd (ent (0x4800 + n.val) 1) = 3 →
    let q := s.sys.jobAt n.val d
    jobStart s.sys q.2 1 b ≠ 0 → Runs (.compressJob n d i b) s (s.sys.jobDone n.val q.1 q.2 (jobStart s.sys q.2 1 b) 0 0)) ∧
  (∀ (s : State) (n : Fin 64) (d i : Bytes) (b : Bool), s.sys.rd (ent (0x4800 + n.val) 1) = 3 →
    let q := s.sys.jobAt n.val d
    jobStart s.sys q.2 1 b = 0 →
    let data := (s.sys.zc n.val).tail ++ s.sys.dmaRd (rdLe q.2 8 8) (rdLe q.2 4 4) i
    let r := compressRun (s.sys.rd (ent (0x4800 + n.val) 6) == 1) (max 1 (s.sys.rd (ent (0x4800 + n.val) 7) * 1024)) (rdLe q.2 24 4)
      ((rdLe q.2 1 1).testBit 0) (data.length + 1) 0 data ⟨[], 0, 0, 0, false⟩
    Completes (.compressJob n d i b) s fun t =>
      (t.sys.zc n.val).tail = (if r.stop then (s.sys.zc n.val).tail.drop r.taken else data.drop r.taken) ∧
      (t.sys.zc n.val).next = ((s.sys.zc n.val).next + 1) % max 1 (s.sys.rd (ent (0x4800 + n.val) 9)) ∧
      t.sys.rd (ent (0x4800 + n.val) 0x0B) = (s.sys.rd (ent (0x4800 + n.val) 0x0B) + r.taken) % 2 ^ 64 ∧
      t.sys.rd (ent (0x4800 + n.val) 0x0C) = (s.sys.rd (ent (0x4800 + n.val) 0x0C) + r.out.length) % 2 ^ 64 ∧
      t.otp = s.otp ∧ t.pending = s.pending) ∧
  (∀ (s : State) (n : Fin 64) (d i : Bytes) (b : Bool), s.sys.rd (ent (0x4800 + n.val) 1) = 4 →
    let q := s.sys.jobAt n.val d
    jobStart s.sys q.2 2 b = 0 →
    let data := s.sys.dmaRd (rdLe q.2 8 8) (rdLe q.2 4 4) i
    let r := expandRun (rdLe q.2 24 4) (data.length + 1) data ⟨[], 0, 0, 0, false⟩
    Completes (.expandJob n d i b) s fun t =>
      (t.sys.zc n.val).next = ((s.sys.zc n.val).next + 1) % max 1 (s.sys.rd (ent (0x4800 + n.val) 9)) ∧
      t.sys.rd (ent (0x4800 + n.val) 0x0B) = (s.sys.rd (ent (0x4800 + n.val) 0x0B) + r.out.length) % 2 ^ 64 ∧
      t.sys.rd (ent (0x4800 + n.val) 0x0C) = (s.sys.rd (ent (0x4800 + n.val) 0x0C) + r.taken) % 2 ^ 64 ∧
      (r.status = 3 → t.sys.rd (ent (0x4800 + n.val) 0x10) = (s.sys.rd (ent (0x4800 + n.val) 0x10) + 1) % 2 ^ 32) ∧
      t.otp = s.otp ∧ t.pending = s.pending) ∧
  (∀ (s : State) (n : Fin 64), (s.sys.zc n.val).tail = [] → Runs (.heldTailDiscard n) s s.sys) ∧
  (∀ (s : State) (n : Fin 64), (s.sys.zc n.val).tail ≠ [] → Room s → Completes (.heldTailDiscard n) s fun t =>
    t.sys.zc n.val = { s.sys.zc n.val with tail := [] } ∧ (∀ j, j ≠ n.val → t.sys.zc j = s.sys.zc j) ∧
    Logs s t 0x0E06 n.val (ev [(0, 1, n.val), (4, 4, (s.sys.zc n.val).tail.length)]) ∧ Leaves [.zcs, .log] (only []) (only []) s t) ∧
  (∀ (s : State) (w : Writer) (x : Fin 8) (c : Instr) (v : Nat), (c, v) ∈ ([(.ringHold w x, 1), (.ringRelease w x, 0)] : List (Instr × Nat)) →
    Granted s w (ent (0x4848 + x.val) 2) (le 1 v) → Completes c s fun t =>
      t.sys.rd (ent (0x4848 + x.val) 2) = v ∧ t.sys.ring x.val = { s.sys.ring x.val with told := false } ∧
      (∀ j, j ≠ x.val → t.sys.ring j = s.sys.ring j) ∧ t.otp = s.otp ∧ t.pending = s.pending) ∧
  (∀ (s : State) (w : Writer) (x : Fin 8) (a b : BitVec 32), (∀ f ∈ (s.sys.ring x.val).frames, f.frame < a.toNat ∨ b.toNat < f.frame) →
    ¬ Granted s w (ent (0x4848 + x.val) 7) (le 4 a.toNat ++ le 4 b.toNat)) ∧
  (∀ (s : State) (w : Writer) (x : Fin 8) (a b : BitVec 32),
    let l := (s.sys.ring x.val).frames.filter fun f => decide (a.toNat ≤ f.frame) && decide (f.frame ≤ b.toNat)
    let z := s.sys.handRing x.val l
    Granted s w (ent (0x4848 + x.val) 7) (le 4 a.toNat ++ le 4 b.toNat) → (s.sys.recording x.val).slot.isSome = true →
    Completes (.ringExtract w x a b) s fun t =>
      t.sys.media = z.media ∧ t.sys.rings = z.rings ∧ t.otp = s.otp ∧ t.pending = s.pending)

/-- The media queues (R530 to R546): a queue that runs fetches its entry, which is taken or refused; its completion head frees what it has read; a
frozen queue restarts once its error log is read; a reset drops what was accepted and starts a new epoch. Both are asked for by a write of the
dictionary, or by the host in BAR0, which is ignored where the owner is not HOST. -/
def Obligations.MediaQueuesFetchFreezeAndReset : Prop :=
  (∀ (s : State) (q : Fin 16) (e d : Bytes) (f : Bool), s.sys.fetches q.val = false →
    Runs (.mqWrite q e d f) s s.sys ∧ Runs (.mqRead q e f) s s.sys ∧ Runs (.mqFlush q e) s s.sys) ∧
  (∀ (s : State) (q : Fin 16) (e d : Bytes) (f : Bool) (c : Instr), s.sys.fetches q.val = true →
    c ∈ ([.mqWrite q e d f, .mqRead q e f, .mqFlush q e] : List Instr) → Completes c s fun t =>
      t.sys.rd (ent (0x4910 + q.val) 3) = (s.sys.rd (ent (0x4910 + q.val) 3) + 1) % max 1 (s.sys.mq q.val).sqN ∧
      t.sys.rd (ent (0x4910 + q.val) 5) = (s.sys.rd (ent (0x4910 + q.val) 5) + 1) % 2 ^ 64 ∧ t.otp = s.otp ∧ t.pending = s.pending) ∧
  (∀ (s : State) (q : Fin 16) (e d : Bytes) (f : Bool) (c : Instr) (kind : Nat) (fault : Bool), s.sys.fetches q.val = true →
    (c, kind, fault) ∈ ([(.mqWrite q e d f, 1, f), (.mqRead q e f, 2, f), (.mqFlush q e, 3, false)] : List (Instr × Nat × Bool)) →
    let st := (s.sys.fetched q.val).entryStatus q.val kind (slice e 0 64) fault
    st ≠ 0 → Runs c s ((s.sys.fetched q.val).rejectEntry q.val (slice e 0 64) st)) ∧
  (∀ (s : State) (q : Fin 16) (e d : Bytes) (f : Bool), s.sys.fetches q.val = true →
    (s.sys.fetched q.val).entryStatus q.val 1 (slice e 0 64) f = 0 → Completes (.mqWrite q e d f) s fun t =>
      t.sys.rd (ent (0x4910 + q.val) 6) = (s.sys.rd (ent (0x4910 + q.val) 6) + rdLe (slice e 0 64) 16 4) % 2 ^ 64 ∧
      t.otp = s.otp ∧ t.pending = s.pending) ∧
  (∀ (s : State) (q : Fin 16), (∀ w ∈ s.sys.media.writes, w.queue = q.val → w.waiting = none) → Runs (.mqBufferSpaceFreed q) s s.sys) ∧
  (∀ (s : State) (q : Fin 16) (w : BufWrite) (u : Nat),
    (s.sys.media.writes.find? fun w => w.queue == q.val && w.waiting.isSome) = some w → w.waiting = some u →
    s.sys.media.hostBuffered + w.data.length ≤ s.sys.rd (ent 0x4950 2) * 1048576 → Completes (.mqBufferSpaceFreed q) s fun t =>
      t.sys.rd (ent (0x4910 + q.val) 8) = (s.sys.rd (ent (0x4910 + q.val) 8) + (s.sys.up - u) / 1000) % 2 ^ 64 ∧
      t.otp = s.otp ∧ t.pending = s.pending) ∧
  (∀ (s : State) (q : Fin 16) (h : BitVec 32), Completes (.cqHeadWrite q h) s fun t =>
    (t.sys.mq q.val).cqHead = h.toNat % max 1 (s.sys.mq q.val).cqN ∧ (∀ j, j ≠ q.val → t.sys.mq j = s.sys.mq j) ∧
    t.otp = s.otp ∧ t.pending = s.pending) ∧
  (∀ (s : State) (q : Fin 16), s.sys.rd (ent (0x4900 + q.val) 1) = 1 → s.sys.rd (ent (0x4910 + q.val) 1) = 2 → (s.sys.mq q.val).log = [] → Room s →
    Completes (.queueRestart none q) s fun t =>
      t.sys.rd (ent (0x4910 + q.val) 1) = 1 ∧ Logs s t 0x0F02 q.val (ev [(0, 1, q.val)]) ∧
      Leaves [.log] (only [ent (0x4910 + q.val) 1]) (only []) s t) ∧
  (∀ (s : State) (q : Fin 16), s.sys.rd (ent (0x4910 + q.val) 1) ≠ 2 ∨ (s.sys.mq q.val).log ≠ [] → Runs (.queueRestart none q) s s.sys) ∧
  (∀ (s : State) (q : Fin 16), s.sys.rd (ent (0x4910 + q.val) 1) = 0 ∨ s.sys.rd (ent (0x4910 + q.val) 1) = 3 → Runs (.queueReset none q) s s.sys) ∧
  (∀ (s : State) (q : Fin 16), s.sys.rd (ent (0x4900 + q.val) 1) = 1 → s.sys.rd (ent (0x4910 + q.val) 1) = 1 ∨ s.sys.rd (ent (0x4910 + q.val) 1) = 2 →
    Completes (.queueReset none q) s fun t =>
      t.sys.rd (ent (0x4910 + q.val) 1) = 3 ∧ (∀ r ∈ t.sys.media.reads, r.queue ≠ q.val) ∧ t.otp = s.otp ∧ t.pending = s.pending) ∧
  (∀ (s : State) (q : Fin 16), s.sys.rd (ent (0x4900 + q.val) 1) ≠ 1 → Runs (.queueRestart none q) s s.sys ∧ Runs (.queueReset none q) s s.sys) ∧
  (∀ (s : State) (w : Writer) (q : Fin 16), Granted s w (ent (0x4900 + q.val) 8) (le 2 1) → Completes (.queueRestart (some w) q) s fun t =>
    s.sys.rd (ent (0x4910 + q.val) 1) = 2 ∧ (s.sys.mq q.val).log = [] ∧ t.sys.rd (ent (0x4910 + q.val) 1) = 1 ∧ t.otp = s.otp ∧ t.pending = s.pending) ∧
  (∀ (s : State) (w : Writer) (q : Fin 16), Granted s w (ent (0x4900 + q.val) 8) (le 2 2) →
    s.sys.rd (ent (0x4910 + q.val) 1) = 1 ∨ s.sys.rd (ent (0x4910 + q.val) 1) = 2 → Completes (.queueReset (some w) q) s fun t =>
      t.sys.rd (ent (0x4910 + q.val) 1) = 3 ∧ (∀ r ∈ t.sys.media.reads, r.queue ≠ q.val) ∧ t.otp = s.otp ∧ t.pending = s.pending) ∧
  (∀ (s : State) (q : Fin 16), s.sys.rd (ent (0x4910 + q.val) 1) = 3 → Room s → Completes (.queueResetDone q) s fun t =>
    t.sys.rd (ent (0x4910 + q.val) 1) = (if s.sys.rd (ent (0x4900 + q.val) 1) = 0 then 0 else 1) ∧
    t.sys.rd (ent (0x4910 + q.val) 2) = (s.sys.rd (ent (0x4910 + q.val) 2) + 1) % 65536 ∧
    t.sys.rd (ent (0x4910 + q.val) 3) = 0 ∧ t.sys.rd (ent (0x4910 + q.val) 4) = 0 ∧
    Logs s t 0x0F03 q.val (ev [(0, 1, q.val), (2, 2, (s.sys.rd (ent (0x4910 + q.val) 2) + 1) % 65536), (4, 4, (s.sys.mq q.val).lostW),
      (8, 4, (s.sys.mq q.val).lostR)]) ∧ t.otp = s.otp ∧ t.pending = s.pending) ∧
  (∀ (s : State) (q : Fin 16), s.sys.rd (ent (0x4910 + q.val) 1) ≠ 3 → Runs (.queueResetDone q) s s.sys) ∧
  (∀ (s : State) (q : Fin 16), Completes (.errorLogRead q) s fun t =>
    (t.sys.mq q.val).log = (s.sys.mq q.val).log.drop 1 ∧ (∀ j, j ≠ q.val → t.sys.mq j = s.sys.mq j) ∧
    t.sys.rd (ent (0x4910 + q.val) 0x0A) = (s.sys.mq q.val).log.length - 1 ∧
    t.sys.rdB (ent (0x4920 + q.val) 1) = ((s.sys.mq q.val).log.drop 1).headD [] ∧
    Leaves [.media] (only [ent (0x4910 + q.val) 0x0A]) (only [ent (0x4920 + q.val) 1]) s t)

/-- Drives and the volume (R522 to R527, R548 to R559): a drive that fails or times out leaves the volume; a completed command frees its piece or
its place in the write buffer, and one that fails loses the drive (R29); the
volume is created, attached drive by drive, detached and rebuilt; a clip is deleted, the journal committed, and lost ranges are cleared. -/
def Obligations.DrivesAndVolumesComeAndGo : Prop :=
  (∀ (s : State) (d : Fin 4), s.sys.takesWrites d.val = false → Runs (.driveLinkDown d) s s.sys) ∧
  (∀ (s : State) (d : Fin 4), s.sys.takesWrites d.val = true → s.sys.vol.members.contains d.val = false → Room s →
    Completes (.driveLinkDown d) s fun t =>
      t.sys.rd (ent (0x4940 + d.val) 1) = 2 ∧ Logs s t 0x0F05 d.val (ev [(0, 1, d.val), (1, 1, 0)]) ∧
      Leaves [.log] (only [ent (0x4940 + d.val) 1]) (only []) s t) ∧
  (∀ (s : State) (d : Fin 4), s.sys.takesWrites d.val = true → s.sys.vol.members.contains d.val = false → Room s →
    Completes (.driveTimeout d) s fun t =>
      t.sys.rd (ent (0x4940 + d.val) 1) = 2 ∧ Logs s t 0x0F05 d.val (ev [(0, 1, d.val), (1, 1, 2)]) ∧
      t.sys.rd (ent (0x4940 + d.val) 8) = (s.sys.rd (ent (0x4940 + d.val) 8) + 1) % 2 ^ 32 ∧
      Leaves [.log] (only [ent (0x4940 + d.val) 1, ent (0x4940 + d.val) 8]) (only []) s t) ∧
  (∀ (s : State) (d : Fin 4), Runs (.driveTimeout d) s (Sys.loseDrive s.otp (s.sys.inc (ent (0x4940 + d.val) 8)) d.val 2)) ∧
  (∀ (s : State) (d : Fin 4) (n : BitVec 32) (a b : BitVec 8) (v : Bytes),
    Runs (.driveCommandDone d n a b v true) s (Sys.loseDrive s.otp s.sys d.val 1)) ∧
  (∀ (s : State) (d : Fin 4) (n : BitVec 32) (v : Bytes) (w : BufWrite),
    let is (p : Piece) : Bool := p.drive == d.val && p.cid == some n.toNat
    (∀ w ∈ s.sys.media.direct, w.drive ≠ d.val ∨ w.cid ≠ n.toNat) → (s.sys.media.writes.find? fun w => w.pieces.any is) = some w → Runs (.driveCommandDone d n 0 0 v false) s
      (Sys.settle { s.sys with media := { s.sys.media with
        writes := s.sys.media.writes.map fun w => { w with pieces := w.pieces.filter fun p => !is p } } })) ∧
  (∀ (s : State) (d : Fin 4) (n : BitVec 32) (a b : BitVec 8) (v : Bytes), s.sys.media.writes = [] → s.sys.media.reads = [] →
    s.sys.media.flushes = [] → s.sys.media.direct = [] → Runs (.driveCommandDone d n a b v false) s s.sys) ∧
  (∀ (s : State) (d : Fin 4) (n : BitVec 32) (a b : BitVec 8) (v : Bytes) (w : DirectWrite), w ∈ s.sys.media.direct → w.drive = d.val →
    w.cid = n.toNat →
    let m := { s.sys.media with direct := s.sys.media.direct.filter fun w => !(w.drive == d.val && w.cid == n.toNat) }
    let y := ({ s.sys with media := m } : Sys).wr (ent 0x4950 3) m.buffered
    Runs (.driveCommandDone d n a b v false) s (if a = 0 ∧ b = 0 then y else Sys.loseDrive s.otp y d.val 3)) ∧
  (∀ (s : State) (p : BitVec 4) (c : Instr), s.sys.rd (ent 0x4948 4) ≠ 0 → c ∈ ([.volumeCreate p, .volumeAttach p] : List Instr) →
    Runs c s s.sys) ∧
  (∀ (s : State) (p : BitVec 4), s.sys.rd (ent 0x4948 4) = 0 → Runs (.volumeAttach p) s (Sys.finishBringUp s.otp (s.sys.beginAttach p false) [])) ∧
  (∀ (s : State) (p : BitVec 4), s.sys.rd (ent 0x4948 4) = 0 →
    layoutDrives (s.sys.rd (ent 0x4948 2)) ((List.range 4).filter fun d => (s.sys.rd (ent 0x4948 3)).testBit d).length = true →
    Runs (.volumeCreate p) s (Sys.finishBringUp s.otp (s.sys.beginAttach p true) [])) ∧
  (∀ (s : State) (p : BitVec 4), s.sys.rd (ent 0x4948 4) = 0 → s.sys.boot.strapFault = false → p ≠ 0 → Completes (.volumeAttach p) s fun t =>
    t.sys.rd (ent 0x4948 4) = 1 ∧ t.sys.vol.awaiting = (List.range 4).filter (fun d => p.getLsbD d) ∧ t.otp = s.otp ∧ t.pending = s.pending) ∧
  (∀ (s : State) (d : Fin 4) (i : DriveInfo), s.sys.rd (ent 0x4948 4) = 1 → s.sys.vol.awaiting.contains d.val = true →
    s.sys.vol.awaiting.filter (· != d.val) ≠ [] → Completes (.attachDriveReady d true i) s fun t =>
      t.sys.vol = { s.sys.vol with
        awaiting := s.sys.vol.awaiting.filter (· != d.val), headers := s.sys.vol.headers ++ [(d.val, slice i.header 0 4096)],
        capacities := s.sys.vol.capacities ++ [(d.val, i.capacity.toNat)] } ∧
      t.sys.rd (ent (0x4940 + d.val) 2) = i.capacity.toNat ∧ t.sys.rd (ent (0x4940 + d.val) 5) = i.link.toNat ∧
      t.sys.rdB (ent (0x4940 + d.val) 3) = i.model ∧ t.sys.rdB (ent (0x4940 + d.val) 4) = i.serial ∧
      Leaves [.media] (only ([2, 5].map (ent (0x4940 + d.val)))) (only ([3, 4].map (ent (0x4940 + d.val)))) s t) ∧
  (∀ (s : State) (d : Fin 4) (ok : Bool) (i : DriveInfo), s.sys.vol.awaiting.contains d.val = false → Runs (.attachDriveReady d ok i) s s.sys) ∧
  (∀ (s : State) (x : Nat), x < 16 → s.sys.rd (ent (0x4960 + x) 1) = 1 → Runs .volumeDetach s s.sys) ∧
  (∀ s : State, (∀ x, x < 16 → s.sys.rd (ent (0x4960 + x) 1) ≠ 1) → Completes .volumeDetach s fun t =>
    t.sys.vol = volume0 ∧ t.sys.rd (ent 0x4948 4) = 0 ∧ (∀ d, d < 4 → t.sys.driveState d = 0) ∧ t.otp = s.otp ∧ t.pending = s.pending) ∧
  (∀ s : State, s.sys.rebuildMember (s.sys.rd (ent 0x4948 7)) = none ∨ s.sys.vol.mirrored = false ∨ s.sys.volumeUp = false ∨
    s.sys.vol.rebuild.isSome = true → Runs .volumeRebuild s s.sys) ∧
  (∀ (s : State) (m : Nat), let d := s.sys.rd (ent 0x4948 7)
    s.sys.rebuildMember d = some m → s.sys.vol.mirrored = true → s.sys.takesWrites d = false → s.sys.volumeUp = true → s.sys.vol.rebuild = none →
    Completes .volumeRebuild s fun t =>
      t.sys.vol.rebuild = some (m, s.sys.up) ∧ t.sys.vol.members = s.sys.vol.members.set m d ∧ t.sys.rd (ent (0x4940 + d) 1) = 3 ∧
      t.sys.rd (ent 0x4948 9) = 0 ∧ t.otp = s.otp ∧ t.pending = s.pending) ∧
  (∀ s : State, s.sys.vol.rebuild = none → Runs .rebuildComplete s s.sys) ∧
  (∀ (s : State) (m u : Nat), s.sys.vol.rebuild = some (m, u) → s.sys.driveState (s.sys.vol.members.getD m 255) = 3 →
    Completes .rebuildComplete s fun t => t.sys.vol.rebuild = none ∧ t.sys.rd (ent 0x4948 9) = 100 ∧ t.otp = s.otp ∧ t.pending = s.pending) ∧
  (∀ (s : State) (id : BitVec 64), (∀ c ∈ s.sys.vol.directory, c.2.id ≠ id.toNat) → Runs (.clipDelete id) s s.sys) ∧
  (∀ (s : State) (id : BitVec 64) (c : Clip), ((s.sys.vol.directory.map (·.2)).find? fun c => c.id == id.toNat) = some c → c.state ≠ 1 →
    Completes (.clipDelete id) s fun t =>
      t.sys.vol.directory = s.sys.vol.directory.filter (fun p => p.1 != c.slot) ∧ t.otp = s.otp ∧ t.pending = s.pending) ∧
  (∀ (s : State) (id : BitVec 64) (c : Clip), ((s.sys.vol.directory.map (·.2)).find? fun c => c.id == id.toNat) = some c → c.state = 1 →
    Runs (.clipDelete id) s s.sys) ∧
  (∀ s : State, Completes .journalCommit s fun t =>
    t.sys.mram.journal = some s.sys.journalNow ∧ t.sys.rd (ent 0x4950 5) = s.sys.t96 ∧ Leaves [.mram] (only [ent 0x4950 5]) (only []) s t) ∧
  (∀ (s : State) (x : Fin 16), (s.sys.recording x.val).slot = none → Runs (.recordCheckpoint x) s s.sys) ∧
  (∀ (s : State) (x : Fin 16) (n : Nat) (c : Clip), (s.sys.recording x.val).slot = some n → s.sys.vol.clip? n = some c →
    Runs (.recordCheckpoint x) s (s.sys.writeEntry ((s.sys.recording x.val).commit c))) ∧
  (∀ s : State, Completes (.lostRangesClear 1) s fun t =>
    t.sys.rdB (ent 0x4950 7) = [] ∧ t.sys.rd (ent 0x4950 6) = 0 ∧ Leaves [] (only [ent 0x4950 6]) (only [ent 0x4950 7]) s t) ∧
  (∀ (s : State) (v : BitVec 8), v ≠ 1 → Runs (.lostRangesClear v) s s.sys)

/-- DRAM (R569 to R592): a corrected and an uncorrectable line are counted against their rank; a rank is migrated block by block, retested and
scanned; a package's refresh rate follows its temperature; initialisation ends, and the training cache is emptied. -/
def Obligations.DramRanksAreScrubbedMovedAndTested : Prop :=
  (∀ (s : State) (r : Fin 18) (ch : Fin 4) (l : BitVec 32) (q : Fin 8), Runs (.patrolScrub r ch l q .clean) s s.sys) ∧
  (∀ (s : State) (r : Fin 18) (ch : Fin 4) (l : BitVec 32) (q : Fin 8), s.sys.rd (ent (0x4B10 + r.val) 1) ≤ 3 → l.toNat < 47185920 →
    (Completes (.patrolScrub r ch l q .corrected) s fun t =>
      t.sys.rd (ent (0x4B10 + r.val) 3) = (s.sys.rd (ent (0x4B10 + r.val) 3) + 1) % 2 ^ 64 ∧ t.otp = s.otp ∧ t.pending = s.pending) ∧
    (Completes (.patrolScrub r ch l q .uncorrectable) s fun t =>
      t.sys.rd (ent (0x4B10 + r.val) 5) = (s.sys.rd (ent (0x4B10 + r.val) 5) + 1) % 2 ^ 32 ∧ t.otp = s.otp ∧ t.pending = s.pending) ∧
    Completes (.patrolScrub r ch l q .addressError) s fun t =>
      t.sys.rd (ent (0x4B10 + r.val) 6) = (s.sys.rd (ent (0x4B10 + r.val) 6) + 1) % 2 ^ 32 ∧ t.otp = s.otp ∧ t.pending = s.pending) ∧
  (∀ (s : State) (r : Fin 18) (ch : Fin 4) (l : BitVec 32) (q : Fin 8) (f : EccFound), 3 < s.sys.rd (ent (0x4B10 + r.val) 1) →
    Runs (.patrolScrub r ch l q f) s s.sys) ∧
  (∀ (s : State) (w : Writer), let r := s.sys.rd (ent 0x4B00 0x0A)
    Granted s w (ent 0x4B00 9) (le 2 1) → Completes (.rankMigrate w) s fun t =>
      s.sys.rankIs r .active = true ∧ t.sys.mem = (s.sys.rankOut r .command).mem ∧ t.sys.mram.mig = (s.sys.rankOut r .command).mram.mig ∧
      (∀ k, 0x4B00 ≤ k / 256 → k / 256 < 0x4C00 → t.sys.rd k = (s.sys.rankOut r .command).rd k) ∧ t.otp = s.otp ∧ t.pending = s.pending) ∧
  (∀ (s : State) (w : Writer), let r := s.sys.rd (ent 0x4B00 0x0A)
    (s.sys.rankIs r .active = false → ¬ Granted s w (ent 0x4B00 9) (le 2 1)) ∧
    (s.sys.rankIs r .out = false → s.sys.rankIs r .retired = false → ¬ Granted s w (ent 0x4B00 9) (le 2 2)) ∧
    (s.sys.rankIs r .spare = false → s.sys.rankIs r .out = false → s.sys.rankIs r .retired = false → ¬ Granted s w (ent 0x4B00 9) (le 2 3))) ∧
  (∀ (s : State) (m : Migration) (n : BitVec 32), s.sys.mram.mig = some m → s.sys.rd (ent 0x4B01 1) = 1 → m.checked + 1 < 45 →
    Completes (.migrationBlockDone false n) s fun t =>
      t.sys.mram.mig = some { m with checked := m.checked + 1, recopied := false } ∧ t.sys.rd (ent 0x4B01 5) = m.checked + 1 ∧
      t.sys.rd (ent 0x4B01 7) = (s.sys.rd (ent 0x4B01 7) + n.toNat) % 2 ^ 32 ∧ t.otp = s.otp ∧ t.pending = s.pending) ∧
  (∀ (s : State) (m : Migration) (n : BitVec 32), s.sys.mram.mig = some m → s.sys.rd (ent 0x4B01 1) = 1 → m.recopied = false →
    Completes (.migrationBlockDone true n) s fun t =>
      t.sys.mram.mig = some { m with recopied := true } ∧ Leaves [.mram] (only []) (only []) s t) ∧
  (∀ (s : State) (m : Migration) (n : BitVec 32), s.sys.mram.mig = some m → s.sys.rd (ent 0x4B01 1) = 1 → m.recopied = true →
    Runs (.migrationBlockDone true n) s (s.sys.spareFault m)) ∧
  (∀ (s : State) (b : Bool) (n : BitVec 32), s.sys.mram.mig = none → Runs (.migrationBlockDone b n) s s.sys) ∧
  (∀ (s : State) (w : Writer), let r := s.sys.rd (ent 0x4B00 0x0A)
    Granted s w (ent 0x4B00 9) (le 2 2) → Completes (.rankRetest w) s fun t =>
      t.sys.mem = (s.sys.retestStart r).mem ∧ (∀ k, 0x4B00 ≤ k / 256 → k / 256 < 0x4C00 → t.sys.rd k = (s.sys.retestStart r).rd k) ∧
      t.otp = s.otp ∧ t.pending = s.pending) ∧
  (∀ (s : State) (w : Writer), let r := s.sys.rd (ent 0x4B00 0x0A)
    Granted s w (ent 0x4B00 9) (le 2 3) → Completes (.rankMarginScan w) s fun t =>
      t.sys.mem = { s.sys.mem with scan := some r } ∧ t.otp = s.otp ∧ t.pending = s.pending) ∧
  (∀ (s : State) (r : Fin 18) (n : BitVec 32), s.sys.rankIs r.val .retest = true → n.toNat < 16 → Room s →
    Completes (.retestDone r false n) s fun t =>
      t.sys.rankIs r.val .spare = true ∧ t.sys.rd (ent (0x4B10 + r.val) 8) = 1 ∧ t.sys.rd (ent (0x4B10 + r.val) 9) = s.sys.t96 ∧
      t.sys.rd (ent (0x4B10 + r.val) 0x0B) = 0 ∧ Logs s t 0x100A r.val (ev [(0, 1, r.val), (1, 1, 0), (4, 4, n.toNat)]) ∧
      t.otp = s.otp ∧ t.pending = s.pending) ∧
  (∀ (s : State) (r : Fin 18) (e : Bool) (n : BitVec 32), s.sys.rankIs r.val .retest = true → e = true ∨ 16 ≤ n.toNat → Room s →
    Completes (.retestDone r e n) s fun t =>
      t.sys.rankIs r.val .retired = true ∧ t.sys.rd (ent (0x4B10 + r.val) 8) = 2 ∧
      Logs s t 0x100A r.val (ev [(0, 1, r.val), (1, 1, 1), (4, 4, n.toNat)]) ∧ t.otp = s.otp ∧ t.pending = s.pending) ∧
  (∀ (s : State) (r : Nat) (l : List (BitVec 16)), s.sys.mem.scan = some r → Room s → Completes (.marginScanDone l) s fun t =>
    t.sys.rdB (ent (0x4B10 + r) 0x0A) = slice (l.flatMap fun v => le 2 v.toNat) 0 32 ∧ t.sys.mem = { s.sys.mem with scan := none } ∧
    Logs s t 0x1010 r (ev [(0, 1, r)]) ∧ Leaves [.mem, .log] (only []) (only [ent (0x4B10 + r) 0x0A]) s t) ∧
  (∀ s : State, Completes .dramInitDone s fun t =>
    t.sys.mem = { s.sys.mem with initialising := false } ∧ Leaves [.mem] (only []) (only []) s t) ∧
  (∀ (s : State) (p : Fin 9), s.sys.rdBit (ent 0x2101 9) p.val = true → s.sys.rd (ent (0x4B30 + p.val) 2) ≠ 4 → Room s →
    Completes (.refreshRateChange p) s fun t =>
      t.sys.rd (ent (0x4B30 + p.val) 2) = 4 ∧
      t.sys.rd (ent (0x4B30 + p.val) 5) = (s.sys.rd (ent (0x4B30 + p.val) 5) + 1) % 2 ^ 32 ∧
      Logs s t 0x100E p.val (ev [(0, 1, p.val), (1, 1, 4), (2, 2, ofI 16 (s.sys.rdI (ent (0x4B30 + p.val) 1) / 10))]) ∧
      Leaves [.log] (only ([2, 5].map (ent (0x4B30 + p.val)))) (only []) s t) ∧
  (∀ (s : State) (p : Fin 9), s.sys.rdBit (ent 0x2101 9) p.val = false →
    s.sys.rd (ent (0x4B30 + p.val) 2) < refreshFor (s.sys.rdI (ent (0x4B30 + p.val) 1)) 0 → Completes (.refreshRateChange p) s fun t =>
      t.sys.rd (ent (0x4B30 + p.val) 2) = refreshFor (s.sys.rdI (ent (0x4B30 + p.val) 1)) 0 ∧
      Leaves [.log] (only ([2, 5].map (ent (0x4B30 + p.val)))) (only []) s t) ∧
  (∀ s : State, Completes .dqsDriftCheck s fun t =>
    (∀ p, p < 9 → ∃ c, t.sys.mem.centred.lookup p = some c ∧ (s.sys.rdI (ent (0x4B30 + p) 1) - c).natAbs ≤ 2000) ∧
    Leaves [.mem] (only []) (only []) s t) ∧
  (∀ (s : State) (w : Writer), Granted s w (ent 0x4B00 0x0C) (le 1 1) → Completes (.trainingCacheClear w) s fun t =>
    t.sys.mram.training = [] ∧ t.sys.rd (ent 0x4B40 3) = 0 ∧ t.otp = s.otp ∧ t.pending = s.pending)

/-- Position channels (R617 to R631): quadrature steps, teeth and angles move the position; an index is latched where its edge and gate say so; the
reference is armed, the position corrected and shifted, probes queue up, the speed follows, and a channel that rests stops. Under a strap fault
no edge or sample reaches a channel (R83). -/
def Obligations.PositionChannelsCountAndLatch : Prop :=
  (∀ (s : State) (n : Fin 24) (a b : Bool), s.sys.rd (ent (0x2600 + n.val) 1) ≠ 1 → Runs (.quadratureCount n a b) s s.sys) ∧
  (∀ (s : State) (n : Fin 24) (a b : Bool), s.sys.posHeld = false → s.sys.rd (ent (0x2600 + n.val) 1) = 1 → s.sys.rd (ent (0x2600 + n.val) 3) = 2 →
    (quadPlace a b + 4 - quadPlace (s.sys.pos n.val).a (s.sys.pos n.val).b) % 4 = 1 → Completes (.quadratureCount n a b) s fun t =>
      t.sys.rd (ent (0x2620 + n.val) 2) =
        ofI 32 ((s.sys.rd (ent (0x2620 + n.val) 2) : Int) + (if s.sys.rd (ent (0x2600 + n.val) 4) = 1 then -1 else 1)) ∧
      (t.sys.pos n.val).a = a ∧ (t.sys.pos n.val).b = b ∧ t.otp = s.otp ∧ t.pending = s.pending) ∧
  (∀ (s : State) (n : Fin 24) (a b : Bool), s.sys.posHeld = false → s.sys.rd (ent (0x2600 + n.val) 1) = 1 →
    (quadPlace a b + 4 - quadPlace (s.sys.pos n.val).a (s.sys.pos n.val).b) % 4 = 2 → Completes (.quadratureCount n a b) s fun t =>
      t.sys.rd (ent (0x2620 + n.val) 9) = (s.sys.rd (ent (0x2620 + n.val) 9) + 1) % 2 ^ 32 ∧
      t.sys.rd (ent (0x2620 + n.val) 2) = s.sys.rd (ent (0x2620 + n.val) 2) ∧ t.sys.posHas n.val .phaseError = true ∧
      t.otp = s.otp ∧ t.pending = s.pending) ∧
  (∀ (s : State) (n : Fin 24) (b : Bool), s.sys.posHeld = false → s.sys.rd (ent (0x2600 + n.val) 1) = 2 → s.sys.rd (ent (0x2600 + n.val) 0x11) = 0 →
    s.sys.rd (ent (0x2600 + n.val) 0x14) = 0 → s.sys.rd (ent (0x2600 + n.val) 4) ≠ 1 → Completes (.toothEdge n b) s fun t =>
      t.sys.rd (ent (0x2620 + n.val) 2) = ofI 32 ((s.sys.rd (ent (0x2620 + n.val) 2) : Int) + 1) ∧
      (t.sys.pos n.val).lastEdge = some s.sys.up ∧ t.otp = s.otp ∧ t.pending = s.pending) ∧
  (∀ (s : State) (n : Fin 24) (b : Bool), s.sys.rd (ent (0x2600 + n.val) 1) ≠ 2 → Runs (.toothEdge n b) s s.sys) ∧
  (∀ (s : State) (n : Fin 24) (x z : BitVec 12), s.sys.posHeld = false → s.sys.rd (ent (0x2600 + n.val) 1) = 3 →
    (s.sys.corrected n.val x.toInt z.toInt).1 = 0 → (s.sys.corrected n.val x.toInt z.toInt).2 = 0 → 0 < s.sys.rd (ent (0x2600 + n.val) 0x19) →
    Runs (.sincosSample n x z) s ((s.sys.wr (ent (0x2620 + n.val) 0x0F) 0).amplitudeBad n.val 0)) ∧
  (∀ (s : State) (n : Fin 24) (x z : BitVec 12), s.sys.posHeld = false → s.sys.rd (ent (0x2600 + n.val) 1) = 3 →
    let v := s.sys.corrected n.val x.toInt z.toInt
    let rr := v.1 * v.1 + v.2 * v.2
    (s.sys.rd (ent (0x2600 + n.val) 0x19) : Rat) * (s.sys.rd (ent (0x2600 + n.val) 0x19) : Rat) ≤ rr →
    rr ≤ (s.sys.rd (ent (0x2600 + n.val) 0x1A) : Rat) * (s.sys.rd (ent (0x2600 + n.val) 0x1A) : Rat) →
    Completes (.sincosSample n x z) s fun t =>
      (∃ r, t.sys = (s.sys.wr (ent (0x2620 + n.val) 0x0F) r).sincosGood n.val (angleOf v.1 v.2 x.toInt z.toInt)) ∧
      t.otp = s.otp ∧ t.pending = s.pending) ∧
  (∀ (s : State) (n : Fin 24) (x z : BitVec 12), s.sys.rd (ent (0x2600 + n.val) 1) ≠ 3 → Runs (.sincosSample n x z) s s.sys) ∧
  (∀ (s : State) (n : Fin 24), s.sys.posHeld = false → s.sys.rd (ent (0x2600 + n.val) 1) = 1 → s.sys.rd (ent (0x2600 + n.val) 7) = 1 →
    s.sys.rd (ent (0x2600 + n.val) 8) = 0 → s.sys.rd (ent (0x2600 + n.val) 0x0A) = 0 → Completes (.indexLatch n true) s fun t =>
      t.sys.rd (ent (0x2620 + n.val) 5) = s.sys.rd (ent (0x2620 + n.val) 2) ∧ t.sys.rd (ent (0x2620 + n.val) 6) = s.sys.t96 ∧
      t.sys.rd (ent (0x2620 + n.val) 0x0B) = (s.sys.rd (ent (0x2620 + n.val) 0x0B) + 1) % 2 ^ 32 ∧ (t.sys.pos n.val).armed = false ∧
      ((s.sys.pos n.val).armed = true → t.sys.rd (ent (0x2620 + n.val) 7) = s.sys.rd (ent (0x2620 + n.val) 2) ∧
        t.sys.posHas n.val .refValid = true) ∧ t.otp = s.otp ∧ t.pending = s.pending) ∧
  (∀ (s : State) (n : Fin 24) (up : Bool), s.sys.rd (ent (0x2600 + n.val) 7) ≠ 1 ∨ s.sys.rd (ent (0x2600 + n.val) 1) = 0 →
    Runs (.indexLatch n up) s s.sys) ∧
  (∀ (s : State) (n : Fin 24), Completes (.referenceArm n) s fun t =>
    t.sys.pos n.val = { s.sys.pos n.val with armed := true } ∧ (∀ j, j ≠ n.val → t.sys.pos j = s.sys.pos j) ∧
    Leaves [.positions] (only []) (only []) s t) ∧
  (∀ (s : State) (n : Fin 24) (v : BitVec 32), Completes (.positionCorrect n v) s fun t =>
    t.sys.rd (ent (0x2620 + n.val) 2) = (s.sys.rd (ent (0x2620 + n.val) 2) + v.toNat) % 2 ^ 32 ∧
    Leaves [.positions] (only [ent (0x2620 + n.val) 2]) (only []) s t) ∧
  (∀ (s : State) (n : Fin 24) (v : BitVec 32), Completes (.positionShift n v) s fun t =>
    t.sys.rd (ent (0x2620 + n.val) 2) = (s.sys.rd (ent (0x2620 + n.val) 2) + v.toNat) % 2 ^ 32 ∧
    t.sys.rd (ent (0x2620 + n.val) 7) = (s.sys.rd (ent (0x2620 + n.val) 7) + v.toNat) % 2 ^ 32 ∧
    Leaves [.positions] (only [ent (0x2620 + n.val) 2, ent (0x2620 + n.val) 7]) (only []) s t) ∧
  (∀ (s : State) (n : Fin 24), Completes (.positionClearFlags n) s fun t =>
    t.sys.posHas n.val .phaseError = false ∧ t.sys.posHas n.val .drift = false ∧ t.sys.posHas n.val .amplitude = false ∧
    t.sys.posHas n.val .refMissing = false ∧ t.sys.posHas n.val .refValid = s.sys.posHas n.val .refValid ∧
    Leaves [] (only [ent (0x2620 + n.val) 3]) (only []) s t) ∧
  (∀ (s : State) (n : Fin 24) (up : Bool), s.sys.posHeld = false → s.sys.rd (ent (0x2600 + n.val) 1) ≠ 0 → s.sys.rd (ent (0x2600 + n.val) 0x0E) = 2 →
    s.sys.rd (ent (0x2600 + n.val) 0x10) = 2 → (s.sys.pos n.val).probes.length < 16 → Completes (.probeLatch n up) s fun t =>
      (t.sys.pos n.val).probes = (s.sys.pos n.val).probes ++
        [le 12 s.sys.t96 ++ le 4 (s.sys.rd (ent (0x2620 + n.val) 2)) ++ le 4 (if up then 0 else 1)] ∧ t.otp = s.otp ∧ t.pending = s.pending) ∧
  (∀ (s : State) (n : Fin 24) (up : Bool), s.sys.posHeld = false → s.sys.rd (ent (0x2600 + n.val) 1) ≠ 0 → s.sys.rd (ent (0x2600 + n.val) 0x0E) = 2 →
    s.sys.rd (ent (0x2600 + n.val) 0x10) = 2 → 16 ≤ (s.sys.pos n.val).probes.length → Completes (.probeLatch n up) s fun t =>
      t.sys.rd (ent (0x2620 + n.val) 0x0D) = (s.sys.rd (ent (0x2620 + n.val) 0x0D) + 1) % 2 ^ 32 ∧ t.sys.positions = s.sys.positions ∧
      t.otp = s.otp ∧ t.pending = s.pending) ∧
  (∀ (s : State) (n : Fin 24), Completes (.probeFifoRead n) s fun t =>
    (t.sys.pos n.val).probes = (s.sys.pos n.val).probes.drop 1 ∧
    t.sys.rdB (ent (0x2620 + n.val) 0x0C) = ((s.sys.pos n.val).probes.drop 1).headD [] ∧
    Leaves [.positions] (only []) (only [ent (0x2620 + n.val) 0x0C]) s t) ∧
  (∀ (s : State) (n : Fin 24), s.sys.rd (ent (0x2600 + n.val) 1) ≠ 0 → (s.sys.pos n.val).hist = [] ∨ s.sys.posHas n.val .stopped = true →
    Runs (.speedUpdate n) s (s.sys.wr (ent (0x2620 + n.val) 4) 0)) ∧
  (∀ (s : State) (n : Fin 24) (l : Nat × Nat), s.sys.rd (ent (0x2600 + n.val) 1) ≠ 0 → (s.sys.pos n.val).hist = [l] →
    s.sys.posHas n.val .stopped = false → Runs (.speedUpdate n) s (s.sys.wr (ent (0x2620 + n.val) 4) (speedOf l l))) ∧
  (∀ (s : State) (n : Fin 24), s.sys.rd (ent (0x2600 + n.val) 1) ≠ 0 → s.sys.posHas n.val .stopped = false → Completes (.stopTimeout n) s fun t =>
    t.sys.rd (ent (0x2620 + n.val) 4) = 0 ∧ t.sys.posHas n.val .stopped = true ∧ t.otp = s.otp ∧ t.pending = s.pending) ∧
  (∀ (s : State) (n : Fin 24), s.sys.posHas n.val .stopped = true → Runs (.stopTimeout n) s s.sys) ∧
  (∀ (s : State) (n : Fin 24) (a b : Bool) (x z : BitVec 12) (c : Instr), s.sys.posHeld = true →
    c ∈ ([.quadratureCount n a b, .toothEdge n b, .sincosSample n x z, .indexLatch n a, .probeLatch n a] : List Instr) → Runs c s s.sys)

/-- Garos links (R678 to R681, R686, R687): a hello that fits opens the link and one that does not refuses it; control frames are taken in order,
acknowledged and sent again; store frames bring groups and window accesses are answered; markers go out and are measured. -/
def Obligations.LinksOpenAndCarryTheirChannels : Prop :=
  (∀ (s : State) (k : Fin 4) (die : BitVec 64) (st n : BitVec 8) (h : Bytes), s.sys.rd (ent (0x4C08 + k.val) 1) = 0 ∨ s.sys.boot.phase ≠ .running →
    Runs (.garosLinkHello k die st n h) s s.sys) ∧
  (∀ (s : State) (k : Fin 4) (die : BitVec 64) (st n : BitVec 8) (h : Bytes) (c : Nat), s.sys.rd (ent (0x4C08 + k.val) 1) ≠ 0 →
    s.sys.boot.phase = .running → s.sys.rd (ent (0x4C08 + k.val) 1) ≠ 4 → s.sys.formationFault st.toNat n.toNat = some c → c ≠ 3 → Room s →
    Completes (.garosLinkHello k die st n h) s fun t =>
      t.sys.rd (ent (0x4C08 + k.val) 1) = 4 ∧ Logs s t 0x140E k.val (ev [(0, 1, k.val), (1, 1, c)]) ∧
      Leaves [.log] (only [ent (0x4C08 + k.val) 1]) (only []) s t) ∧
  (∀ (s : State) (k : Fin 4) (die : BitVec 64) (st n : BitVec 8) (h : Bytes), s.sys.rd (ent (0x4C08 + k.val) 1) ≠ 0 →
    s.sys.rd (ent (0x4C08 + k.val) 1) ≠ 2 → s.sys.boot.phase = .running → s.sys.formationFault st.toNat n.toNat = none →
    s.sys.partnerKind st.toNat = 2 → Room s → Completes (.garosLinkHello k die st n h) s fun t =>
      t.sys.rd (ent (0x4C08 + k.val) 1) = 2 ∧ t.sys.rd (ent (0x4C08 + k.val) 2) = 2 ∧ t.sys.rd (ent (0x4C08 + k.val) 3) = die.toNat ∧
      t.sys.rd (ent (0x4C08 + k.val) 4) = st.toNat ∧ t.sys.rd (ent 0x4C01 7) = die.toNat ∧
      Logs s t 0x1401 k.val (ev [(0, 1, k.val), (1, 1, 2), (8, 8, die.toNat)]) ∧
      t.sys.tx = s.sys.tx ++ [.garos k.val 0 Ctl.resync.num (s.sys.link k.val).next (le 1 0 ++ le 1 s.sys.twinRole ++ le 12 s.sys.twin.since)] ∧
      Leaves [.links, .log, .tx] (only (ent 0x4C01 7 :: [1, 2, 3, 4].map (ent (0x4C08 + k.val)))) (only []) s t) ∧
  (∀ (s : State) (k : Fin 4) (q : BitVec 16) (kind : BitVec 8) (b : Bytes), s.sys.rd (ent (0x4C08 + k.val) 1) = 2 →
    (Completes (.garosControlFrame k q true kind b true) s fun t =>
      (t.sys.link k.val).unacked = (s.sys.link k.val).unacked.filter (fun f => f.seq != q.toNat) ∧ Leaves [.links] (only []) (only []) s t) ∧
    (Completes (.garosControlFrame k q false kind b false) s fun t =>
      t.sys.rd (ent (0x4C08 + k.val) 8) = (s.sys.rd (ent (0x4C08 + k.val) 8) + 1) % 2 ^ 32 ∧
      Leaves [] (only [ent (0x4C08 + k.val) 8]) (only []) s t) ∧
    (s.sys.controlSeq k.val q.toNat true = .again →
      Runs (.garosControlFrame k q false kind b true) s (s.sys.send (.garos k.val 0 255 q.toNat []))) ∧
    (s.sys.controlSeq k.val q.toNat true = .fresh → s.sys.relayWaits k.val kind.toNat b = true → Runs (.garosControlFrame k q false kind b true) s s.sys) ∧
    (s.sys.controlSeq k.val q.toNat true = .fresh → s.sys.relayWaits k.val kind.toNat b = false →
      let r := Sys.controlEffect s.otp ((s.sys.expectNext k.val 0 q.toNat).send (.garos k.val 0 255 q.toNat [])) k.val kind.toNat b
      exec (.garosControlFrame k q false kind b true) s = .next { s with otp := s.otp.applyAll r.1, sys := r.2 })) ∧
  (∀ (s : State) (k : Fin 4) (f : CtlFrame), s.sys.rd (ent (0x4C08 + k.val) 1) = 2 → (s.sys.link k.val).unacked = [f] →
    Completes (.garosControlResend k) s fun t =>
      t.sys.tx = s.sys.tx ++ [.garos k.val 0 f.kind f.seq f.body] ∧ (t.sys.link k.val).unacked = [{ f with resends := f.resends + 1 }] ∧
      Leaves [.links, .tx] (only []) (only []) s t) ∧
  (∀ (s : State) (k : Fin 4) (q : BitVec 16) (x : Fin 16) (n : BitVec 32) (g : List StoreGroup) (last : Bool), s.sys.garosUp k.val = true →
    Completes (.garosStoreFrame k q x n g last false) s fun t =>
      t.sys.rd (ent (0x4C08 + k.val) 8) = (s.sys.rd (ent (0x4C08 + k.val) 8) + 1) % 2 ^ 32 ∧
      (∀ st ∈ t.sys.stores, st.ctx = x.val → ∀ b ∈ st.bufs, b.frame = n.toNat → b.complete = true) ∧
      Leaves [.links, .stores] (only [ent (0x4C08 + k.val) 8]) (only []) s t) ∧
  (∀ (s : State) (k : Fin 4) (q : BitVec 16) (x : Fin 16) (n : BitVec 32) (g : List StoreGroup) (f : Frame), s.sys.garosUp k.val = true →
    ((s.sys.link k.val).expect.lookup 2).getD q.toNat = q.toNat → s.sys.frame? x.val n.toNat = some f → f.abandoned = false →
    Runs (.garosStoreFrame k q x n g false true) s (g.foldl (fun (y : Sys) (h : StoreGroup) =>
      y.commitHeld x.val n.toNat h.line.toNat h.col.toNat ⟨h.binding.val, h.lanes, h.px.map BitVec.toNat⟩) (s.sys.expectNext k.val 2 q.toNat))) ∧
  (∀ (s : State) (k : Fin 4) (q : BitVec 16) (a : BitVec 64) (n : BitVec 16), s.sys.garosUp k.val = true →
    ((s.sys.link k.val).expect.lookup 3).getD q.toNat = q.toNat → a.toNat / 2 ^ 60 = 4 + s.sys.arrayPos →
    dmaOk (a.toNat % 2 ^ 38) n.toNat = true → s.sys.dmaPoisoned (a.toNat % 2 ^ 38) n.toNat = false →
    Completes (.garosWindowFrame k q a (.read n) true) s fun t =>
      t.sys.tx = s.sys.tx ++ [.garos k.val 3 0 q.toNat (s.sys.dramRd (a.toNat % 2 ^ 38) n.toNat)] ∧ Leaves [.links, .tx] (only []) (only []) s t) ∧
  (∀ (s : State) (k : Fin 4) (q : BitVec 16) (a : BitVec 64) (b : Bytes), s.sys.garosUp k.val = true →
    ((s.sys.link k.val).expect.lookup 3).getD q.toNat = q.toNat → a.toNat / 2 ^ 60 = 4 + s.sys.arrayPos →
    dmaOk (a.toNat % 2 ^ 38) b.length = true → Runs (.garosWindowFrame k q a (.write b) true) s
      (((s.sys.expectNext k.val 3 q.toNat).dramWr (a.toNat % 2 ^ 38) b).send (.garos k.val 3 0 q.toNat []))) ∧
  (∀ (s : State) (k : Fin 4) (q : BitVec 16) (a : BitVec 64) (w : WindowAccess), s.sys.garosUp k.val = true →
    ((s.sys.link k.val).expect.lookup 3).getD q.toNat = q.toNat → a.toNat / 2 ^ 60 ≠ 4 + s.sys.arrayPos →
    Runs (.garosWindowFrame k q a w true) s ((s.sys.expectNext k.val 3 q.toNat).send (.garos k.val 3 1 q.toNat []))) ∧
  (∀ (s : State) (k : Fin 4), s.sys.garosUp k.val = true → Completes (.garosMarkerSend k) s fun t =>
    let n := ((s.sys.link k.val).sentMarker.1 + 1) % 2 ^ 32
    (t.sys.link k.val).sentMarker = (n, s.sys.t96) ∧
    t.sys.tx = s.sys.tx ++ [.garos k.val 4 0 n [], .garos k.val 0 Ctl.stamps.num (s.sys.link k.val).next (le 4 n ++ le 12 s.sys.t96)] ∧
    Leaves [.links, .tx] (only []) (only []) s t) ∧
  (∀ (s : State) (k : Fin 4) (a b c d : BitVec 96), s.sys.garosUp k.val = true → s.sys.timeSources.contains 5 = false →
    let p := markerPair a.toNat b.toNat c.toNat d.toNat (s.sys.rdI (ent (0x4C08 + k.val) 5))
    Runs (.garosTimeMarker k a b c d) s
      ((s.sys.wrI (ent (0x4C08 + k.val) 6) (satI32 (unitsPs p.1))).wr (ent (0x4C08 + k.val) 7) (min 0xFFFFFFFF (unitsPs p.2).toNat))) ∧
  (∀ (s : State) (k : Fin 4) (a b c d : BitVec 96), s.sys.garosUp k.val = false →
    Runs (.garosTimeMarker k a b c d) s s.sys ∧ Runs (.garosMarkerSend k) s s.sys)

/-- Heartbeats and the loss of a partner (R689, R698 to R701, R706, R707): heartbeats are numbered and kept; the fourth miss in a row takes the link
down; a link condition, a silent heartbeat line and a notice decide when the partner is lost. -/
def Obligations.HeartbeatsTellWhenAPartnerIsLost : Prop :=
  (∀ (s : State) (k : Fin 4), s.sys.garosUp k.val = true → s.sys.power.step < 4 → Completes (.marionetteSend k) s fun t =>
    (t.sys.link k.val).hbOut = ((s.sys.link k.val).hbOut + 1) % 65536 ∧
    t.sys.tx = s.sys.tx ++ [.garos k.val 0 Ctl.heartbeat.num (s.sys.link k.val).next (s.sys.marionette k.val)] ∧
    Leaves [.links, .tx] (only []) (only []) s t) ∧
  (∀ (s : State) (k : Fin 4), s.sys.garosUp k.val = false → Runs (.marionetteSend k) s s.sys) ∧
  (∀ (s : State) (k : Fin 4) (h : Bytes), s.sys.garosUp k.val = false ∨ h.length ≠ 96 ∨ rdLe h 0 1 ≠ 1 → Runs (.marionetteReceive k h) s s.sys) ∧
  (∀ (s : State) (k : Fin 4) (h : Bytes), s.sys.garosUp k.val = true → h.length = 96 → rdLe h 0 1 = 1 → s.sys.linkKind k.val ≠ 2 →
    s.sys.view.role ≠ 3 → Completes (.marionetteReceive k h) s fun t =>
      t.sys.link k.val = { s.sys.link k.val with
        heard := h, heardAt := s.sys.up, hbIn := (rdLe h 4 2 + 1) % 65536, misses := 0, cond := false } ∧
      (∀ j, j ≠ k.val → t.sys.link j = s.sys.link j) ∧ Leaves [.links] (only []) (only []) s t) ∧
  (∀ (s : State) (k : Fin 4) (h : Bytes), s.sys.garosUp k.val = true → h.length = 96 → rdLe h 0 1 = 1 → s.sys.linkKind k.val = 2 →
    let y := s.sys.setLink k.val { s.sys.link k.val with
      heard := h, heardAt := s.sys.up, hbIn := (rdLe h 4 2 + 1) % 65536, misses := 0, cond := false }
    Runs (.marionetteReceive k h) s (Sys.twinHeard s.otp (if y.timeSources.contains 5 = true ∧ y.garosTimeLink k.val = true then
      y.originIs 5 ((rdLe h 6 1).testBit 6) (((y.time.origin.lookup 5).map (·.2)).getD 0xA0) else y) h)) ∧
  (∀ (s : State) (k : Fin 4), s.sys.garosUp k.val = true → (s.sys.link k.val).misses < 3 → Completes (.marionetteMiss k) s fun t =>
    t.sys.link k.val = { s.sys.link k.val with misses := (s.sys.link k.val).misses + 1, hbIn := ((s.sys.link k.val).hbIn + 1) % 65536 } ∧
    t.sys.rd (ent (0x4C08 + k.val) 9) = (s.sys.rd (ent (0x4C08 + k.val) 9) + 1) % 2 ^ 32 ∧
    Leaves [.links] (only [ent (0x4C08 + k.val) 9]) (only []) s t) ∧
  (∀ (s : State) (k : Fin 4), s.sys.garosUp k.val = true → 3 ≤ (s.sys.link k.val).misses → s.sys.noticed k.val = false →
    Completes (.marionetteMiss k) s fun t =>
      t.sys.rd (ent (0x4C08 + k.val) 1) = 3 ∧ (t.sys.link k.val).cond = true ∧ (t.sys.link k.val).downAt = some s.sys.up ∧
      t.otp = s.otp ∧ t.pending = s.pending) ∧
  (∀ (s : State) (k : Fin 4), s.sys.rd (ent (0x4C08 + k.val) 1) ≠ 3 ∨ s.sys.noticed k.val = true → Runs (.partnerLinkDownTimeout k) s s.sys) ∧
  (∀ (s : State) (k : Fin 4), s.sys.rd (ent (0x4C08 + k.val) 1) = 3 → s.sys.noticed k.val = false → Completes (.partnerLinkDownTimeout k) s fun t =>
    t.sys.link k.val = { s.sys.link k.val with cond := true } ∧ t.otp = s.otp ∧ t.pending = s.pending) ∧
  (∀ s : State, s.sys.rd (ent 0x4C00 5) ≠ 0xFF → Completes .partnerHeartbeatSilent s fun t =>
    t.sys.twin = { s.sys.twin with silent := true } ∧ Leaves [.twin] (only []) (only []) s t) ∧
  (∀ s : State, s.sys.rd (ent 0x4C00 5) = 0xFF → Runs .partnerHeartbeatSilent s s.sys) ∧
  (∀ (s : State) (k : Fin 4), s.sys.linkKind k.val = 0 ∨ s.sys.lostNow k.val = false → Runs (.partnerLost k) s s.sys) ∧
  (∀ (s : State) (k : Fin 4), s.sys.linkKind k.val ≠ 0 → s.sys.lostNow k.val = true → Completes (.partnerLost k) s fun t =>
    (t.sys.link k.val).notice = false ∧ (t.sys.link k.val).cond = false ∧ t.otp = s.otp ∧ t.pending = s.pending) ∧
  (∀ (s : State) (k : Fin 4), s.sys.garosUp k.val = true → Completes (.standbyNotice k) s fun t =>
    t.sys.link k.val = { s.sys.link k.val with notice := true } ∧ t.sys.twin = { s.sys.twin with exitAt := none } ∧
    Leaves [.links, .twin] (only []) (only []) s t)

/-- Twins and arrays change roles (R682, R683, R690 to R697, R702 to R705): the takeover instant, the takeover and the resynchronisation a host asks
for, a mirrored unit, which waits for SHADOW's own commit slot, latch point or boundary (R151), a closed generation, and the two formation windows. -/
def Obligations.TwinsAndArraysTakeTheirRoles : Prop :=
  (∀ s : State, s.sys.twin.taking = none → Runs .takeoverInstant s s.sys) ∧
  (∀ s : State, s.sys.twin.taking ≠ none → Completes .takeoverInstant s fun t =>
    t.sys.twin.taking = none ∧ t.sys.twin.open_ = [] ∧ t.sys.rd (ent 0x4C01 8) = (s.sys.rd (ent 0x4C01 8) + 1) % 2 ^ 32 ∧
    t.sys.rd (ent 0x4C01 9) = s.sys.t96 ∧ t.otp = s.otp ∧ t.pending = s.pending) ∧
  (∀ (s : State) (w : Writer), s.sys.rd (ent 0x4C01 3) ≠ 5 → ¬ Granted s w (ent 0x4C00 8) (le 2 1)) ∧
  (∀ (s : State) (w : Writer), Granted s w (ent 0x4C00 8) (le 2 1) → Completes (.twinTakeover w) s fun t =>
    t.sys.rd (ent 0x4C01 2) = 1 ∧ t.sys.rd (ent 0x4C01 3) = 1 ∧ t.sys.twin.taking = some s.sys.up ∧ t.otp = s.otp ∧ t.pending = s.pending) ∧
  (∀ (s : State) (w : Writer), s.sys.rd (ent 0x4C01 2) ≠ 2 → ¬ Granted s w (ent 0x4C00 8) (le 2 2)) ∧
  (∀ (s : State) (w : Writer), Granted s w (ent 0x4C00 8) (le 2 2) → Completes (.twinResync w) s fun t =>
    t.sys.rd (ent 0x4C01 2) = 2 ∧ t.sys.rd (ent 0x4C01 3) = 3 ∧ t.sys.twin.step = 1 ∧ t.sys.twin.cause = 0 ∧ t.otp = s.otp ∧ t.pending = s.pending) ∧
  (∀ (s : State) (n l : BitVec 32) (u : Bytes), s.sys.rd (ent 0x4C01 2) ≠ 2 → exec (.mirroredUnit n l u) s = .next s) ∧
  (∀ (s : State) (n l : BitVec 32) (u : Bytes), s.sys.rd (ent 0x4C01 2) = 2 → s.sys.rd (ent 0x4C01 3) = 2 ∨ s.sys.rd (ent 0x4C01 3) = 3 →
    let q := unitIn u 2
    let v := { q with members := q.members.filter fun m => mirrored m.1 }
    s.sys.unitHome v = .immediate → Completes (.mirroredUnit n l u) s fun t =>
      t.sys.den = { s.sys.den with units := s.sys.den.units ++ [{ v with mirror := some n.toNat }] } ∧ Leaves [.den] (only []) (only []) s t) ∧
  (∀ (s : State) (n l : BitVec 32) (u : Bytes) (c : Nat), s.sys.rd (ent 0x4C01 2) = 2 → s.sys.rd (ent 0x4C01 3) = 2 ∨ s.sys.rd (ent 0x4C01 3) = 3 →
    let q := unitIn u 2
    let v := { q with members := q.members.filter fun m => mirrored m.1 }
    s.sys.unitHome v = .output c →
      Runs (.mirroredUnit n l u) s ((s.sys.stage { v with scope := .output c }).mirrorAnswer n.toNat .ok)) ∧
  (∀ (s : State) (n l : BitVec 32) (u : Bytes) (c : Nat), s.sys.rd (ent 0x4C01 2) = 2 → s.sys.rd (ent 0x4C01 3) = 2 ∨ s.sys.rd (ent 0x4C01 3) = 3 →
    let q := unitIn u 2
    let v := { q with members := q.members.filter fun m => mirrored m.1 }
    s.sys.unitHome v = .lockGroup c →
      Runs (.mirroredUnit n l u) s ((s.sys.stage { v with scope := .lockGroup c }).mirrorAnswer n.toNat .ok)) ∧
  (∀ (s : State) (n l : BitVec 32) (u : Bytes) (x : Nat), s.sys.rd (ent 0x4C01 2) = 2 → s.sys.rd (ent 0x4C01 3) = 2 ∨ s.sys.rd (ent 0x4C01 3) = 3 →
    let q := unitIn u 2
    let v := { q with members := q.members.filter fun m => mirrored m.1 }
    s.sys.unitHome v = .context x → n ≠ 0 → Completes (.mirroredUnit n l u) s fun t =>
      t.sys.twin.applied = n.toNat ∧ t.otp = s.otp ∧ t.pending = s.pending) ∧
  (∀ (s : State) (x : Fin 16) (n : BitVec 32), Completes (.generationClose x n) s fun t =>
    t.sys.twin = { s.sys.twin with open_ := s.sys.twin.open_.filter fun p => p != (x.val, n.toNat) } ∧ Leaves [.twin] (only []) (only []) s t) ∧
  (∀ s : State, s.sys.rd (ent 0x4C01 1) ≠ 1 → Runs .arrayFormationTimeout s s.sys) ∧
  (∀ s : State, s.sys.rd (ent 0x4C01 1) = 1 → Completes .arrayFormationTimeout s fun t =>
    t.sys.rd (ent 0x4C01 1) = 3 ∧ t.sys.rd (ent 0x4C01 6) = ((List.range 4).find? s.sys.present).getD s.sys.arrayPos ∧
    t.otp = s.otp ∧ t.pending = s.pending) ∧
  (∀ s : State, s.sys.twinOn = false ∨ s.sys.twinRole ≠ 0 → Runs .twinFormationWindow s s.sys) ∧
  (∀ s : State, s.sys.twinOn = true → s.sys.twinRole = 0 → (∀ k, s.sys.twinLink = some k → (s.sys.link k).heard = []) →
    Completes .twinFormationWindow s fun t =>
      t.sys.rd (ent 0x4C01 2) = 1 ∧ t.sys.rd (ent 0x4C01 3) = 1 ∧ t.sys.twin.since = s.sys.t96 ∧ t.otp = s.otp ∧ t.pending = s.pending) ∧
  (∀ (s : State) (k : Nat), s.sys.twinOn = true → s.sys.twinRole = 0 → s.sys.twinLink = some k → rdLe (s.sys.link k).heard 1 1 = 1 →
    Runs .twinFormationWindow s (s.sys.resyncStart s.otp 0))

/-- The Felley link (R712 to R725): a hello of the other role opens it; control frames are taken in order and sent again until the partner's direction
is given up; streams go out whole and come in by sequence; the markers are measured and the asymmetry is calibrated. -/
def Obligations.FelleyCarriesControlStreamsAndTime : Prop :=
  (∀ (s : State) (r : Fin 4) (l t i n : BitVec 8) (die : BitVec 64), s.sys.rd (ent 0x4D00 1) = 0 → Runs (.felleyLinkHello r l die t i n) s s.sys) ∧
  (∀ (s : State) (r : Fin 4) (l t i n : BitVec 8) (die : BitVec 64), s.sys.rd (ent 0x4D00 1) ≠ 0 →
    ¬ ((s.sys.view.role = 1 ∧ r.val = 2) ∨ (s.sys.view.role = 2 ∧ r.val = 1)) → s.sys.rd (ent 0x4D01 1) ≠ 4 → Room s →
    Completes (.felleyLinkHello r l die t i n) s fun u =>
      u.sys.rd (ent 0x4D01 1) = 4 ∧ Logs s u 0x1503 255 (ev [(0, 1, 0)]) ∧ Leaves [.log] (only [ent 0x4D01 1]) (only []) s u) ∧
  (∀ (s : State) (r : Fin 4) (l t i n : BitVec 8) (die : BitVec 64), l ≠ 0 →
    (s.sys.view.role = 1 ∧ r.val = 2) ∨ (s.sys.view.role = 2 ∧ r.val = 1) → l.toNat = s.sys.rd (ent 0x4D00 1) → s.sys.rd (ent 0x4D01 1) ≠ 2 →
    Completes (.felleyLinkHello r l die t i n) s fun u =>
      u.sys.rd (ent 0x4D01 1) = 2 ∧ u.sys.rd (ent 0x4D01 2) = r.val ∧ u.sys.rd (ent 0x4D01 3) = die.toNat ∧
      u.sys.rd (ent 0x4D01 4) = (if t = 0xFF then 0xFF else i.toNat) ∧ (u.sys.link 4).node = n.toNat ∧ (u.sys.link 4).peerDown = false ∧
      Leaves [.links, .log] (only ([1, 2, 3, 4, 0x0A].map (ent 0x4D01))) (only []) s u) ∧
  (∀ (s : State) (q : BitVec 16) (kind : BitVec 8) (b : Bytes), s.sys.rd (ent 0x4D01 1) = 2 →
    (Completes (.felleyControlFrame q true kind b true) s fun t =>
      (t.sys.link 4).unacked = (s.sys.link 4).unacked.filter (fun f => f.seq != q.toNat) ∧ Leaves [.links] (only []) (only []) s t) ∧
    (Completes (.felleyControlFrame q false kind b false) s fun t =>
      t.sys.rd (ent 0x4D01 7) = (s.sys.rd (ent 0x4D01 7) + 1) % 2 ^ 32 ∧ Leaves [] (only [ent 0x4D01 7]) (only []) s t) ∧
    (s.sys.controlSeq 4 q.toNat true = .again → Runs (.felleyControlFrame q false kind b true) s (s.sys.send (.felley 255 q.toNat 255 []))) ∧
    (s.sys.controlSeq 4 q.toNat true = .fresh → s.sys.relayWaits 4 kind.toNat b = false → Runs (.felleyControlFrame q false kind b true) s
      (Sys.felleyEffect s.otp ((s.sys.expectNext 4 255 q.toNat).send (.felley 255 q.toNat 255 [])) kind.toNat b))) ∧
  (∀ s : State, (s.sys.link 4).unacked = [] ∨ (s.sys.link 4).peerDown = true → Runs .felleyControlResend s s.sys) ∧
  (∀ (s : State) (f : CtlFrame), (s.sys.link 4).unacked = [f] → (s.sys.link 4).peerDown = false → f.resends < 8 → s.sys.isShadow = false →
    Completes .felleyControlResend s fun t =>
      t.sys.tx = s.sys.tx ++ [.felley 255 f.seq f.kind f.body] ∧ (t.sys.link 4).unacked = [{ f with resends := f.resends + 1 }] ∧
      t.sys.rd (ent 0x4D01 8) = (s.sys.rd (ent 0x4D01 8) + 1) % 2 ^ 32 ∧ Leaves [.links, .tx] (only [ent 0x4D01 8]) (only []) s t) ∧
  (∀ (s : State) (f : CtlFrame) (l : List CtlFrame), (s.sys.link 4).unacked = f :: l → (s.sys.link 4).peerDown = false → 8 ≤ f.resends → Room s →
    Completes .felleyControlResend s fun t =>
      (t.sys.link 4).peerDown = true ∧ t.sys.rd (ent 0x4D01 9) = (s.sys.rd (ent 0x4D01 9) + 1) % 2 ^ 32 ∧
      Logs s t 0x1502 255 (ev [(0, 1, 2)]) ∧ Leaves [.links, .log] (only [ent 0x4D01 9]) (only []) s t) ∧
  (∀ (s : State) (k : Fin 64), (∀ j, j < 64 → (s.sys.fstream j).kind = 5 → (s.sys.fstream j).queue = []) → (s.sys.fstream k.val).queue = [] →
    Runs (.felleyStreamSend k) s s.sys) ∧
  (∀ (s : State) (k : Fin 64), (∀ j, j < 64 → (s.sys.fstream j).kind = 5 → (s.sys.fstream j).queue = []) → (s.sys.fstream k.val).queue ≠ [] →
    Completes (.felleyStreamSend k) s fun t =>
      (t.sys.fstream k.val).queue = (s.sys.fstream k.val).queue.drop 1 ∧ (t.sys.fstream k.val).served = (s.sys.fstream k.val).served + 1 ∧
      t.sys.rd (ent (0x4D10 + k.val) 6) = (s.sys.rd (ent (0x4D10 + k.val) 6) + 1) % 2 ^ 64 ∧ s.sys.tx.length < t.sys.tx.length ∧
      (∀ j, j ≠ k.val → t.sys.fstream j = s.sys.fstream j) ∧ Leaves [.felley, .tx] (only [ent (0x4D10 + k.val) 6]) (only []) s t) ∧
  (∀ (s : State) (k : Fin 64) (q : BitVec 16) (a b : Bool) (p : Bytes) (ok : Bool), s.sys.rd (ent 0x4D01 1) ≠ 2 →
    Runs (.felleyStreamFrame k q a b p ok) s s.sys) ∧
  (∀ (s : State) (k : Fin 64) (q : BitVec 16) (p : Bytes), s.sys.rd (ent 0x4D01 1) = 2 →
    ((s.sys.link 4).expect.lookup k.val).getD q.toNat = q.toNat → (s.sys.fstream k.val).part = [] → (s.sys.fstream k.val).damaged = false →
    Completes (.felleyStreamFrame k q true false p true) s fun t =>
      (t.sys.fstream k.val).part = p ∧ (t.sys.fstream k.val).damaged = false ∧ (t.sys.link 4).expect.lookup k.val = some ((q.toNat + 1) % 65536) ∧
      t.sys.rd (ent (0x4D10 + k.val) 8) = (s.sys.rd (ent (0x4D10 + k.val) 8) + 1) % 2 ^ 64 ∧
      Leaves [.felley, .links] (only [ent (0x4D10 + k.val) 8]) (only []) s t) ∧
  (∀ (s : State) (k : Fin 64) (q : BitVec 16) (a : Bool) (p : Bytes), s.sys.rd (ent 0x4D01 1) = 2 →
    Completes (.felleyStreamFrame k q a false p false) s fun t =>
      (t.sys.fstream k.val).damaged = true ∧ t.sys.rd (ent (0x4D10 + k.val) 9) = (s.sys.rd (ent (0x4D10 + k.val) 9) + 1) % 2 ^ 32 ∧
      t.sys.rd (ent 0x4D01 7) = (s.sys.rd (ent 0x4D01 7) + 1) % 2 ^ 32 ∧
      Leaves [.felley, .links, .log] (only [ent (0x4D10 + k.val) 9, ent 0x4D01 7]) (only []) s t) ∧
  (∀ (s : State) (k : Fin 16) (b : Bytes), b.length ≠ 64 → Runs (.felleyFrameInfo k b) s s.sys) ∧
  (∀ (s : State) (k : Fin 16) (b : Bytes), b.length = 64 → s.sys.felleyCfg k.val 0 = 2 → Completes (.felleyFrameInfo k b) s fun t =>
    t.sys.fstream k.val = { s.sys.fstream k.val with info := b, dir := 2, kind := s.sys.felleyCfg k.val 1 } ∧
    (∀ j, j ≠ k.val → t.sys.fstream j = s.sys.fstream j) ∧ Leaves [.felley] (only []) (only []) s t) ∧
  (∀ (s : State) (a b c d : BitVec 96), s.sys.rd (ent 0x4D01 1) ≠ 2 → Runs (.felleyTimeMarker a b c d) s s.sys) ∧
  (∀ (s : State) (a b c d : BitVec 96), s.sys.rd (ent 0x4D01 1) = 2 → s.sys.timeSources.contains 4 = false →
    let p := markerPair a.toNat b.toNat c.toNat d.toNat (s.sys.rdI s.sys.felleyAsymKey)
    Runs (.felleyTimeMarker a b c d) s ((s.sys.wrI (ent 0x4D01 5) (unitsPs p.1)).wr (ent 0x4D01 6) (min 0xFFFFFFFF (unitsPs p.2).toNat))) ∧
  (∀ (s : State) (x : Fin 16), (∀ f ∈ s.sys.frames, f.ctx = x.val → f.upWait = false) → Runs (.upstreamManifestTimeout x) s s.sys) ∧
  (∀ (s : State) (x : Fin 16) (f : Frame), (s.sys.frames.find? fun f => f.ctx == x.val && f.upWait) = some f → Room s →
    Completes (.upstreamManifestTimeout x) s fun t =>
      (∀ g ∈ t.sys.frames, g.ctx = f.ctx → g.num = f.num → g.upWait = false) ∧ Logs s t 0x1506 x.val (ev [(0, 1, x.val), (4, 4, f.num)]) ∧
      Leaves [.frames, .log] (only []) (only []) s t) ∧
  (∀ (s : State) (w : Writer), Granted s w (ent 0x4D00 6) (le 2 1) → Completes (.felleyCalibrate w) s fun t =>
    t.sys.rd (ent 0x4D01 0x0C) = 1 ∧ (t.sys.link 4).heads = [] ∧ (t.sys.link 4).bases = [] ∧ t.otp = s.otp ∧ t.pending = s.pending) ∧
  (∀ (s : State) (w : Writer), s.sys.view.role ≠ 1 ∨ s.sys.tbState ≠ 2 ∨ 32 ≤ s.sys.rd (ent 0x4D00 5) ∨ s.sys.tioFn (s.sys.rd (ent 0x4D00 5)) ≠ 7 →
    ¬ Granted s w (ent 0x4D00 6) (le 2 1)) ∧
  (∀ s : State, s.sys.rd (ent 0x4D01 0x0C) = 1 → (pulsePairs (s.sys.link 4).heads (s.sys.link 4).bases).length < 56 → Room s →
    Completes .felleyCalibrationDone s fun t =>
      t.sys.rd (ent 0x4D01 0x0C) = 3 ∧ (t.sys.link 4).heads = [] ∧
      Logs s t 0x1507 255 (ev [(0, 1, if s.sys.rd (ent 0x4D01 4) = 1 then 1 else 0), (1, 1, 1), (4, 4, ofI 32 (s.sys.rdI s.sys.felleyAsymKey))]) ∧
      Leaves [.links, .log] (only [ent 0x4D01 0x0C]) (only []) s t) ∧
  (∀ s : State, s.sys.rd (ent 0x4D01 0x0C) = 1 →
    let d := (pulsePairs (s.sys.link 4).heads (s.sys.link 4).bases).take 64
    56 ≤ d.length → d.foldl max (d.headD 0) - d.foldl min (d.headD 0) ≤ 20000 → Completes .felleyCalibrationDone s fun t =>
      t.sys.rd (ent 0x4D01 0x0C) = 2 ∧
      t.sys.rd s.sys.felleyAsymKey = ofI 32 (satI32 (s.sys.rdI s.sys.felleyAsymKey + 2 * d.sum / d.length)) ∧
      Leaves [.links, .log] (only [ent 0x4D01 0x0C, s.sys.felleyAsymKey]) (only []) s t)
end

