-- ==== Sys2Proof/Laws/Exec.lean ====
section
/-!
SUPPORT. Sys2Proof/Laws/Exec.lean: the meaning of each command, by its name.
-/

namespace Sys2Proof.Machine

@[simp] theorem exec_vinValid (vin : BitVec 16) (boot : BootInputs) (s : State) : exec (.vinValid vin boot) s = execVinValid vin boot s := rfl
@[simp] theorem exec_hostFirmwareImage (image : Firmware) (fails : List (BitVec 3 × BitVec 16)) (s : State) : exec (.hostFirmwareImage image fails) s = execHostFirmwareImage image fails s := rfl
@[simp] theorem exec_hostFirmwareTimeout (s : State) : exec (.hostFirmwareTimeout) s = execHostFirmwareTimeout s := rfl
@[simp] theorem exec_dramTrainingComplete (identities : Bytes) (firmware : BitVec 32) (band : Fin 4) (verifyOk : Bool) (failed : BitVec 36) (ms : BitVec 32) (s : State) : exec (.dramTrainingComplete identities firmware band verifyOk failed ms) s = execDramTrainingComplete identities firmware band verifyOk failed ms s := rfl
@[simp] theorem exec_lowInputEnter (vin : BitVec 16) (s : State) : exec (.lowInputEnter vin) s = execLowInputEnter vin s := rfl
@[simp] theorem exec_lowInputLeave (vin : BitVec 16) (s : State) : exec (.lowInputLeave vin) s = execLowInputLeave vin s := rfl
@[simp] theorem exec_supplyCapTick (vin current : BitVec 16) (s : State) : exec (.supplyCapTick vin current) s = execSupplyCapTick vin current s := rfl
@[simp] theorem exec_supplyWarning (vin : BitVec 16) (s : State) : exec (.supplyWarning vin) s = execSupplyWarning vin s := rfl
@[simp] theorem exec_supplyWarningClear (vin minVin : BitVec 16) (s : State) : exec (.supplyWarningClear vin minVin) s = execSupplyWarningClear vin minVin s := rfl
@[simp] theorem exec_currentLimitEngage (vin : BitVec 16) (s : State) : exec (.currentLimitEngage vin) s = execCurrentLimitEngage vin s := rfl
@[simp] theorem exec_currentLimitRelease (vin coreT coreS : BitVec 16) (s : State) : exec (.currentLimitRelease vin coreT coreS) s = execCurrentLimitRelease vin coreT coreS s := rfl
@[simp] theorem exec_overvoltageEpisodeEnd (highest : BitVec 16) (above : BitVec 16) (s : State) : exec (.overvoltageEpisodeEnd highest above) s = execOvervoltageEpisodeEnd highest above s := rfl
@[simp] theorem exec_inputSwitchOpen (vin highest above : BitVec 16) (s : State) : exec (.inputSwitchOpen vin highest above) s = execInputSwitchOpen vin highest above s := rfl
@[simp] theorem exec_inputSwitchClose (s : State) : exec (.inputSwitchClose) s = execInputSwitchClose s := rfl
@[simp] theorem exec_supplyReset (vin : BitVec 16) (s : State) : exec (.supplyReset vin) s = execSupplyReset vin s := rfl
@[simp] theorem exec_holdUpEnd (s : State) : exec (.holdUpEnd) s = execHoldUpEnd s := rfl
@[simp] theorem exec_resetNFall (s : State) : exec (.resetNFall) s = execResetNFall s := rfl
@[simp] theorem exec_resetNHeld (s : State) : exec (.resetNHeld) s = execResetNHeld s := rfl
@[simp] theorem exec_resetCommandWarm (s : State) : exec (.resetCommandWarm) s = execResetCommandWarm s := rfl
@[simp] theorem exec_resetCommandCold (boot : BootInputs) (s : State) : exec (.resetCommandCold boot) s = execResetCommandCold boot s := rfl
@[simp] theorem exec_resetCommandDomain (s : State) : exec (.resetCommandDomain) s = execResetCommandDomain s := rfl
@[simp] theorem exec_coreCheckTick (responded : BitVec 15) (s : State) : exec (.coreCheckTick responded) s = execCoreCheckTick responded s := rfl
@[simp] theorem exec_watchdogTimeout (core : Fin 16) (s : State) : exec (.watchdogTimeout core) s = execWatchdogTimeout core s := rfl
@[simp] theorem exec_governorWindow (s : State) : exec (.governorWindow) s = execGovernorWindow s := rfl
@[simp] theorem exec_railCeilingWrite (by_ : Writer) (system : Bool) (value : BitVec 16) (s : State) : exec (.railCeilingWrite by_ system value) s = execRailCeilingWrite by_ system value s := rfl
@[simp] theorem exec_powerManagerTick (power : BitVec 16) (s : State) : exec (.powerManagerTick power) s = execPowerManagerTick power s := rfl
@[simp] theorem exec_idleTokenEnd (troupe : Fin 24) (s : State) : exec (.idleTokenEnd troupe) s = execIdleTokenEnd troupe s := rfl
@[simp] theorem exec_frameDeadline (ctx : Fin 16) (s : State) : exec (.frameDeadline ctx) s = execFrameDeadline ctx s := rfl
@[simp] theorem exec_denvalRead (frame : DenvalFrame) (s : State) : exec (.denvalRead frame) s = execDenvalRead frame s := rfl
@[simp] theorem exec_denvalReadShadow (frame : DenvalFrame) (s : State) : exec (.denvalReadShadow frame) s = execDenvalReadShadow frame s := rfl
@[simp] theorem exec_denvalWrite (frame : DenvalFrame) (s : State) : exec (.denvalWrite frame) s = execDenvalWrite frame s := rfl
@[simp] theorem exec_groupBegin (frame : DenvalFrame) (s : State) : exec (.groupBegin frame) s = execGroupBegin frame s := rfl
@[simp] theorem exec_groupMember (frame : DenvalFrame) (s : State) : exec (.groupMember frame) s = execGroupMember frame s := rfl
@[simp] theorem exec_groupCommit (frame : DenvalFrame) (s : State) : exec (.groupCommit frame) s = execGroupCommit frame s := rfl
@[simp] theorem exec_groupTimeout (session : BitVec 16) (s : State) : exec (.groupTimeout session) s = execGroupTimeout session s := rfl
@[simp] theorem exec_segReadInit (frame : DenvalFrame) (s : State) : exec (.segReadInit frame) s = execSegReadInit frame s := rfl
@[simp] theorem exec_segWriteInit (frame : DenvalFrame) (s : State) : exec (.segWriteInit frame) s = execSegWriteInit frame s := rfl
@[simp] theorem exec_segDown (frame : DenvalFrame) (s : State) : exec (.segDown frame) s = execSegDown frame s := rfl
@[simp] theorem exec_segAck (frame : DenvalFrame) (s : State) : exec (.segAck frame) s = execSegAck frame s := rfl
@[simp] theorem exec_denvalAbort (frame : DenvalFrame) (s : State) : exec (.denvalAbort frame) s = execDenvalAbort frame s := rfl
@[simp] theorem exec_transferTimeout (path : DenvalPath) (source : BitVec 48) (session : BitVec 16) (tag : BitVec 10) (s : State) : exec (.transferTimeout path source session tag) s = execTransferTimeout path source session tag s := rfl
@[simp] theorem exec_commitInstant (s : State) : exec (.commitInstant) s = execCommitInstant s := rfl
@[simp] theorem exec_entryWrite (by_ : Writer) (entry : BitVec 24) (value : Bytes) (s : State) : exec (.entryWrite by_ entry value) s = execEntryWrite by_ entry value s := rfl
@[simp] theorem exec_sessionHello (frame : DenvalFrame) (s : State) : exec (.sessionHello frame) s = execSessionHello frame s := rfl
@[simp] theorem exec_lockoutEnd (path : DenvalPath) (source : BitVec 48) (s : State) : exec (.lockoutEnd path source) s = execLockoutEnd path source s := rfl
@[simp] theorem exec_sessionProofA (frame : DenvalFrame) (s : State) : exec (.sessionProofA frame) s = execSessionProofA frame s := rfl
@[simp] theorem exec_sessionProofB (frame : DenvalFrame) (s : State) : exec (.sessionProofB frame) s = execSessionProofB frame s := rfl
@[simp] theorem exec_sessionSetupTimeout (session : BitVec 16) (s : State) : exec (.sessionSetupTimeout session) s = execSessionSetupTimeout session s := rfl
@[simp] theorem exec_sessionClose (frame : DenvalFrame) (s : State) : exec (.sessionClose frame) s = execSessionClose frame s := rfl
@[simp] theorem exec_sessionIdleTimeout (session : BitVec 16) (s : State) : exec (.sessionIdleTimeout session) s = execSessionIdleTimeout session s := rfl
@[simp] theorem exec_heartbeatSend (s : State) : exec (.heartbeatSend) s = execHeartbeatSend s := rfl
@[simp] theorem exec_timeSyncSend (s : State) : exec (.timeSyncSend) s = execTimeSyncSend s := rfl
@[simp] theorem exec_timeFollowSend (port : Fin 4) (s : State) : exec (.timeFollowSend port) s = execTimeFollowSend port s := rfl
@[simp] theorem exec_canBusOff (port : Fin 4) (s : State) : exec (.canBusOff port) s = execCanBusOff port s := rfl
@[simp] theorem exec_canBusRecovered (port : Fin 4) (s : State) : exec (.canBusRecovered port) s = execCanBusRecovered port s := rfl
@[simp] theorem exec_consoleIdentify (line : Bytes) (s : State) : exec (.consoleIdentify line) s = execConsoleIdentify line s := rfl
@[simp] theorem exec_consoleRead (line : Bytes) (s : State) : exec (.consoleRead line) s = execConsoleRead line s := rfl
@[simp] theorem exec_consoleWrite (line : Bytes) (s : State) : exec (.consoleWrite line) s = execConsoleWrite line s := rfl
@[simp] theorem exec_parameterStoreSave (by_ : Writer) (s : State) : exec (.parameterStoreSave by_) s = execParameterStoreSave by_ s := rfl
@[simp] theorem exec_parameterStoreClear (by_ : Writer) (s : State) : exec (.parameterStoreClear by_) s = execParameterStoreClear by_ s := rfl
@[simp] theorem exec_parameterStoreDone (s : State) : exec (.parameterStoreDone) s = execParameterStoreDone s := rfl
@[simp] theorem exec_lifeCycleTransition (by_ : Writer) (target : BitVec 16) (s : State) : exec (.lifeCycleTransition by_ target) s = execLifeCycleTransition by_ target s := rfl
@[simp] theorem exec_rekey (by_ : Writer) (s : State) : exec (.rekey by_) s = execRekey by_ s := rfl
@[simp] theorem exec_certificateInstall (by_ : Writer) (certificate : Bytes) (s : State) : exec (.certificateInstall by_ certificate) s = execCertificateInstall by_ certificate s := rfl
@[simp] theorem exec_customerRootWrite (by_ : Writer) (root : Bytes) (s : State) : exec (.customerRootWrite by_ root) s = execCustomerRootWrite by_ root s := rfl
@[simp] theorem exec_credentialInstall (by_ : Writer) (slot : Fin 64) (credential : Bytes) (s : State) : exec (.credentialInstall by_ slot credential) s = execCredentialInstall by_ slot credential s := rfl
@[simp] theorem exec_credentialRemove (by_ : Writer) (slot : Fin 64) (s : State) : exec (.credentialRemove by_ slot) s = execCredentialRemove by_ slot s := rfl
@[simp] theorem exec_credentialRevoke (by_ : Writer) (id : BitVec 32) (s : State) : exec (.credentialRevoke by_ id) s = execCredentialRevoke by_ id s := rfl
@[simp] theorem exec_epochRaise (by_ : Writer) (epoch : BitVec 8) (s : State) : exec (.epochRaise by_ epoch) s = execEpochRaise by_ epoch s := rfl
@[simp] theorem exec_lookImageWrite (by_ : Writer) (slot : Fin 16) (image : Bytes) (s : State) : exec (.lookImageWrite by_ slot image) s = execLookImageWrite by_ slot image s := rfl
@[simp] theorem exec_manifestIssue (ctx : Fin 16) (delay : BitVec 16) (s : State) : exec (.manifestIssue ctx delay) s = execManifestIssue ctx delay s := rfl
@[simp] theorem exec_recipientKeyWrite (by_ : Writer) (recipient : Fin 4) (key : Bytes) (s : State) : exec (.recipientKeyWrite by_ recipient key) s = execRecipientKeyWrite by_ recipient key s := rfl
@[simp] theorem exec_encryptionEnable (by_ : Writer) (on : Bool) (s : State) : exec (.encryptionEnable by_ on) s = execEncryptionEnable by_ on s := rfl
@[simp] theorem exec_attestationNonce (by_ : Writer) (nonce : Bytes) (s : State) : exec (.attestationNonce by_ nonce) s = execAttestationNonce by_ nonce s := rfl
@[simp] theorem exec_attestationReportReady (s : State) : exec (.attestationReportReady) s = execAttestationReportReady s := rfl
@[simp] theorem exec_timeBaseSave (temp : BitVec 32) (s : State) : exec (.timeBaseSave temp) s = execTimeBaseSave temp s := rfl
@[simp] theorem exec_sourceQualified (source : TimeSource) (offset : Int) (traceable : Bool) (timeSource : BitVec 8) (s : State) : exec (.sourceQualified source offset traceable timeSource) s = execSourceQualified source offset traceable timeSource s := rfl
@[simp] theorem exec_frequencyAcquired (incr : BitVec 40) (offset : Int) (s : State) : exec (.frequencyAcquired incr offset) s = execFrequencyAcquired incr offset s := rfl
@[simp] theorem exec_timeLocked (offset : Int) (s : State) : exec (.timeLocked offset) s = execTimeLocked offset s := rfl
@[simp] theorem exec_lockLost (offset : Int) (s : State) : exec (.lockLost offset) s = execLockLost offset s := rfl
@[simp] theorem exec_referenceFault (source : TimeSource) (fault : RefFault) (temp : BitVec 32) (s : State) : exec (.referenceFault source fault temp) s = execReferenceFault source fault temp s := rfl
@[simp] theorem exec_holdoverLimitExceeded (temp : BitVec 32) (s : State) : exec (.holdoverLimitExceeded temp) s = execHoldoverLimitExceeded temp s := rfl
@[simp] theorem exec_timeSet (value : BitVec 96) (s : State) : exec (.timeSet value) s = execTimeSet value s := rfl
@[simp] theorem exec_ppsInEdge (time : BitVec 96) (width : BitVec 32) (s : State) : exec (.ppsInEdge time width) s = execPpsInEdge time width s := rfl
@[simp] theorem exec_ptpAnnounceReceive (port : Fin 9) (announce : PtpAnnounce) (s : State) : exec (.ptpAnnounceReceive port announce) s = execPtpAnnounceReceive port announce s := rfl
@[simp] theorem exec_ptpSyncReceive (port : Fin 9) (domain : BitVec 8) (seq : BitVec 16) (received : BitVec 96) (origin : Option (BitVec 96)) (s : State) : exec (.ptpSyncReceive port domain seq received origin) s = execPtpSyncReceive port domain seq received origin s := rfl
@[simp] theorem exec_ptpFollowUpReceive (port : Fin 9) (domain : BitVec 8) (seq : BitVec 16) (origin : BitVec 96) (s : State) : exec (.ptpFollowUpReceive port domain seq origin) s = execPtpFollowUpReceive port domain seq origin s := rfl
@[simp] theorem exec_ptpDelayReqReceive (port : Fin 9) (domain : BitVec 8) (seq : BitVec 16) (requester : BitVec 64) (received : BitVec 96) (s : State) : exec (.ptpDelayReqReceive port domain seq requester received) s = execPtpDelayReqReceive port domain seq requester received s := rfl
@[simp] theorem exec_ptpDelayRespReceive (port : Fin 9) (domain : BitVec 8) (seq : BitVec 16) (received : BitVec 96) (s : State) : exec (.ptpDelayRespReceive port domain seq received) s = execPtpDelayRespReceive port domain seq received s := rfl
@[simp] theorem exec_ptpAnnounceSend (port : Fin 9) (s : State) : exec (.ptpAnnounceSend port) s = execPtpAnnounceSend port s := rfl
@[simp] theorem exec_ptpSyncSend (port : Fin 9) (s : State) : exec (.ptpSyncSend port) s = execPtpSyncSend port s := rfl
@[simp] theorem exec_ptpDelayReqSend (port : Fin 9) (s : State) : exec (.ptpDelayReqSend port) s = execPtpDelayReqSend port s := rfl
@[simp] theorem exec_ptpMetadataSend (port : Fin 9) (s : State) : exec (.ptpMetadataSend port) s = execPtpMetadataSend port s := rfl
@[simp] theorem exec_ptpAnnounceTimeout (port : Fin 9) (s : State) : exec (.ptpAnnounceTimeout port) s = execPtpAnnounceTimeout port s := rfl
@[simp] theorem exec_tioEdgeOut (ball : Fin 32) (s : State) : exec (.tioEdgeOut ball) s = execTioEdgeOut ball s := rfl
@[simp] theorem exec_tioCapture (ball : Fin 32) (time : BitVec 96) (falling : Bool) (width : BitVec 32) (s : State) : exec (.tioCapture ball time falling width) s = execTioCapture ball time falling width s := rfl
@[simp] theorem exec_captureFifoRead (ball : Fin 32) (s : State) : exec (.captureFifoRead ball) s = execCaptureFifoRead ball s := rfl
@[simp] theorem exec_launchSubmit (entry : Bytes) (session : BitVec 16) (rank : Fin 9) (s : State) : exec (.launchSubmit entry session rank) s = execLaunchSubmit entry session rank s := rfl
@[simp] theorem exec_launchCancel (id : BitVec 16) (session : BitVec 16) (s : State) : exec (.launchCancel id session) s = execLaunchCancel id session s := rfl
@[simp] theorem exec_launchCancelAny (id : BitVec 16) (s : State) : exec (.launchCancelAny id) s = execLaunchCancelAny id s := rfl
@[simp] theorem exec_launchCancelAll (s : State) : exec (.launchCancelAll) s = execLaunchCancelAll s := rfl
@[simp] theorem exec_launchDue (s : State) : exec (.launchDue) s = execLaunchDue s := rfl
@[simp] theorem exec_laneRequestedState (by_ : Writer) (lane : Fin 80) (state : Fin 4) (s : State) : exec (.laneRequestedState by_ lane state) s = execLaneRequestedState by_ lane state s := rfl
@[simp] theorem exec_lanePllLocked (lane : Fin 80) (s : State) : exec (.lanePllLocked lane) s = execLanePllLocked lane s := rfl
@[simp] theorem exec_losAssert (lane : Fin 80) (s : State) : exec (.losAssert lane) s = execLosAssert lane s := rfl
@[simp] theorem exec_losClear (lane : Fin 80) (s : State) : exec (.losClear lane) s = execLosClear lane s := rfl
@[simp] theorem exec_cdrLock (lane : Fin 80) (offset : BitVec 32) (s : State) : exec (.cdrLock lane offset) s = execCdrLock lane offset s := rfl
@[simp] theorem exec_cdrLockLost (lane : Fin 80) (invalid : BitVec 32) (s : State) : exec (.cdrLockLost lane invalid) s = execCdrLockLost lane invalid s := rfl
@[simp] theorem exec_adaptationDone (lane : Fin 80) (peaking : BitVec 8) (taps : BitVec 64) (s : State) : exec (.adaptationDone lane peaking taps) s = execAdaptationDone lane peaking taps s := rfl
@[simp] theorem exec_blockLock (lane : Fin 80) (headers : List (BitVec 2)) (s : State) : exec (.blockLock lane headers) s = execBlockLock lane headers s := rfl
@[simp] theorem exec_blockLockLost (lane : Fin 80) (invalid : BitVec 32) (headers : List (BitVec 2)) (s : State) : exec (.blockLockLost lane invalid headers) s = execBlockLockLost lane invalid headers s := rfl
@[simp] theorem exec_hiBerSet (lane : Fin 80) (report : LaneReport) (s : State) : exec (.hiBerSet lane report) s = execHiBerSet lane report s := rfl
@[simp] theorem exec_hiBerClear (lane : Fin 80) (report : LaneReport) (s : State) : exec (.hiBerClear lane report) s = execHiBerClear lane report s := rfl
@[simp] theorem exec_trainingBlockReceive (lane : Fin 80) (heard : TrainingInput) (s : State) : exec (.trainingBlockReceive lane heard) s = execTrainingBlockReceive lane heard s := rfl
@[simp] theorem exec_trainingTimeout (lane : Fin 80) (s : State) : exec (.trainingTimeout lane) s = execTrainingTimeout lane s := rfl
@[simp] theorem exec_laneBringupRetry (lane : Fin 80) (s : State) : exec (.laneBringupRetry lane) s = execLaneBringupRetry lane s := rfl
@[simp] theorem exec_referenceMissing (reference : Fin 16) (invalid : List (BitVec 32)) (s : State) : exec (.referenceMissing reference invalid) s = execReferenceMissing reference invalid s := rfl
@[simp] theorem exec_eyeScanRequest (by_ : Writer) (lane : Fin 80) (request : Bytes) (s : State) : exec (.eyeScanRequest by_ lane request) s = execEyeScanRequest by_ lane request s := rfl
@[simp] theorem exec_eyeScanDone (lane : Fin 80) (compared mismatches : BitVec 64) (s : State) : exec (.eyeScanDone lane compared mismatches) s = execEyeScanDone lane compared mismatches s := rfl
@[simp] theorem exec_retrain (by_ : Writer) (target : Fin 16) (s : State) : exec (.retrain by_ target) s = execRetrain by_ target s := rfl
@[simp] theorem exec_quadFunctionWrite (by_ : Writer) (quad : Fin 8) (function : BitVec 16) (s : State) : exec (.quadFunctionWrite by_ quad function) s = execQuadFunctionWrite by_ quad function s := rfl
@[simp] theorem exec_ingestLaneRateWrite (by_ : Writer) (group : Fin 8) (rate : BitVec 32) (s : State) : exec (.ingestLaneRateWrite by_ group rate) s = execIngestLaneRateWrite by_ group rate s := rfl
@[simp] theorem exec_alignmentMarker (group : Fin 8) (lane : Fin 6) (count : BitVec 32) (skew : Nat) (s : State) : exec (.alignmentMarker group lane count skew) s = execAlignmentMarker group lane count skew s := rfl
@[simp] theorem exec_malformedBlock (group : Fin 8) (s : State) : exec (.malformedBlock group) s = execMalformedBlock group s := rfl
@[simp] theorem exec_frameStartAccept (group : Fin 8) (start : FrameStart) (s : State) : exec (.frameStartAccept group start) s = execFrameStartAccept group start s := rfl
@[simp] theorem exec_nonLeadFrameStart (group : Fin 8) (start : FrameStart) (s : State) : exec (.nonLeadFrameStart group start) s = execNonLeadFrameStart group start s := rfl
@[simp] theorem exec_groupSkew (group : Fin 8) (s : State) : exec (.groupSkew group) s = execGroupSkew group s := rfl
@[simp] theorem exec_linePacket (group : Fin 8) (header : PacketHeader) (payload : Bytes) (trailers : List (BitVec 32)) (s : State) : exec (.linePacket group header payload trailers) s = execLinePacket group header payload trailers s := rfl
@[simp] theorem exec_embeddedLine (group : Fin 8) (header : PacketHeader) (payload : Bytes) (trailers : List (BitVec 32)) (s : State) : exec (.embeddedLine group header payload trailers) s = execEmbeddedLine group header payload trailers s := rfl
@[simp] theorem exec_frameEndAccept (group : Fin 8) (header : PacketHeader) (lines : BitVec 16) (s : State) : exec (.frameEndAccept group header lines) s = execFrameEndAccept group header lines s := rfl
@[simp] theorem exec_frameTimeout (ctx : Fin 16) (s : State) : exec (.frameTimeout ctx) s = execFrameTimeout ctx s := rfl
@[simp] theorem exec_ingestLockLoss (group : Fin 8) (s : State) : exec (.ingestLockLoss group) s = execIngestLockLoss group s := rfl
@[simp] theorem exec_quietBlock (group : Fin 8) (s : State) : exec (.quietBlock group) s = execQuietBlock group s := rfl
@[simp] theorem exec_blankingWake (ctx : Fin 8) (s : State) : exec (.blankingWake ctx) s = execBlankingWake ctx s := rfl
@[simp] theorem exec_contextModeWrite (by_ : Writer) (ctx : Fin 8) (mode : CtxMode) (s : State) : exec (.contextModeWrite by_ ctx mode) s = execContextModeWrite by_ ctx mode s := rfl
@[simp] theorem exec_exposureListStart (port : Fin 8) (s : State) : exec (.exposureListStart port) s = execExposureListStart port s := rfl
@[simp] theorem exec_exposureListDone (port : Fin 8) (s : State) : exec (.exposureListDone port) s = execExposureListDone port s := rfl
@[simp] theorem exec_exposureListOverrun (port : Fin 8) (overrunUs : BitVec 32) (s : State) : exec (.exposureListOverrun port overrunUs) s = execExposureListOverrun port overrunUs s := rfl
@[simp] theorem exec_sensorWriteError (port : Fin 8) (timeout : Bool) (reg : BitVec 16) (s : State) : exec (.sensorWriteError port timeout reg) s = execSensorWriteError port timeout reg s := rfl
@[simp] theorem exec_sensorTransaction (port : Fin 8) (request : Bytes) (s : State) : exec (.sensorTransaction port request) s = execSensorTransaction port request s := rfl
@[simp] theorem exec_sensorTransactionDone (port : Fin 8) (status : Fin 3) (data : Bytes) (s : State) : exec (.sensorTransactionDone port status data) s = execSensorTransactionDone port status data s := rfl
@[simp] theorem exec_stripeOpen (s : State) : exec (.stripeOpen) s = execStripeOpen s := rfl
@[simp] theorem exec_rfeSegmentWritten (rfe : Fin 8) (waitUs : BitVec 32) (s : State) : exec (.rfeSegmentWritten rfe waitUs) s = execRfeSegmentWritten rfe waitUs s := rfl
@[simp] theorem exec_rfePassComplete (rfe : Fin 8) (s : State) : exec (.rfePassComplete rfe) s = execRfePassComplete rfe s := rfl
@[simp] theorem exec_statisticsRecordIssue (ctx : Fin 16) (delay : BitVec 16) (s : State) : exec (.statisticsRecordIssue ctx delay) s = execStatisticsRecordIssue ctx delay s := rfl
@[simp] theorem exec_statsRecordMerge (ctx : Fin 16) (members : List (Bytes × List Nat)) (delay : BitVec 16) (s : State) : exec (.statsRecordMerge ctx members delay) s = execStatsRecordMerge ctx members delay s := rfl
@[simp] theorem exec_rfeParityError (rfe : Fin 8) (cache : Bool) (s : State) : exec (.rfeParityError rfe cache) s = execRfeParityError rfe cache s := rfl
@[simp] theorem exec_rfeRetestDone (rfe : Fin 8) (passed : Bool) (s : State) : exec (.rfeRetestDone rfe passed) s = execRfeRetestDone rfe passed s := rfl
@[simp] theorem exec_statsOnlyStripe (s : State) : exec (.statsOnlyStripe) s = execStatsOnlyStripe s := rfl
@[simp] theorem exec_stripeComplete (troupe : Fin 24) (s : State) : exec (.stripeComplete troupe) s = execStripeComplete troupe s := rfl
@[simp] theorem exec_arrayHaloReceive (ctx : Fin 8) (frame : BitVec 32) (neighbour : Fin 4) (part : HaloPart) (delayUs : BitVec 16) (s : State) : exec (.arrayHaloReceive ctx frame neighbour part delayUs) s = execArrayHaloReceive ctx frame neighbour part delayUs s := rfl
@[simp] theorem exec_arrayLookDecision (ctx : Fin 16) (frame : BitVec 32) (origin : Fin 4) (abandon : Bool) (s : State) : exec (.arrayLookDecision ctx frame origin abandon) s = execArrayLookDecision ctx frame origin abandon s := rfl
@[simp] theorem exec_engineGroupDispatch (e : Fin 384) (s : State) : exec (.engineGroupDispatch e) s = execEngineGroupDispatch e s := rfl
@[simp] theorem exec_fadd (e : Fin 384) (d a b : Fin 64) (pr : Fin 8) (pn : Bool) (s : State) : exec (.fadd e d a b pr pn) s = execFadd e d a b pr pn s := rfl
@[simp] theorem exec_fsub (e : Fin 384) (d a b : Fin 64) (pr : Fin 8) (pn : Bool) (s : State) : exec (.fsub e d a b pr pn) s = execFsub e d a b pr pn s := rfl
@[simp] theorem exec_fmul (e : Fin 384) (d a b : Fin 64) (pr : Fin 8) (pn : Bool) (s : State) : exec (.fmul e d a b pr pn) s = execFmul e d a b pr pn s := rfl
@[simp] theorem exec_fmin (e : Fin 384) (d a b : Fin 64) (pr : Fin 8) (pn : Bool) (s : State) : exec (.fmin e d a b pr pn) s = execFmin e d a b pr pn s := rfl
@[simp] theorem exec_fmax (e : Fin 384) (d a b : Fin 64) (pr : Fin 8) (pn : Bool) (s : State) : exec (.fmax e d a b pr pn) s = execFmax e d a b pr pn s := rfl
@[simp] theorem exec_fabs (e : Fin 384) (d a : Fin 64) (pr : Fin 8) (pn : Bool) (s : State) : exec (.fabs e d a pr pn) s = execFabs e d a pr pn s := rfl
@[simp] theorem exec_fneg (e : Fin 384) (d a : Fin 64) (pr : Fin 8) (pn : Bool) (s : State) : exec (.fneg e d a pr pn) s = execFneg e d a pr pn s := rfl
@[simp] theorem exec_fsat (e : Fin 384) (d a : Fin 64) (pr : Fin 8) (pn : Bool) (s : State) : exec (.fsat e d a pr pn) s = execFsat e d a pr pn s := rfl
@[simp] theorem exec_ffloor (e : Fin 384) (d a : Fin 64) (pr : Fin 8) (pn : Bool) (s : State) : exec (.ffloor e d a pr pn) s = execFfloor e d a pr pn s := rfl
@[simp] theorem exec_ffrac (e : Fin 384) (d a : Fin 64) (pr : Fin 8) (pn : Bool) (s : State) : exec (.ffrac e d a pr pn) s = execFfrac e d a pr pn s := rfl
@[simp] theorem exec_frnd (e : Fin 384) (d a : Fin 64) (pr : Fin 8) (pn : Bool) (s : State) : exec (.frnd e d a pr pn) s = execFrnd e d a pr pn s := rfl
@[simp] theorem exec_fma (e : Fin 384) (d a b : Fin 64) (pr : Fin 8) (pn : Bool) (s : State) : exec (.fma e d a b pr pn) s = execFma e d a b pr pn s := rfl
@[simp] theorem exec_fms (e : Fin 384) (d a b : Fin 64) (pr : Fin 8) (pn : Bool) (s : State) : exec (.fms e d a b pr pn) s = execFms e d a b pr pn s := rfl
@[simp] theorem exec_fnma (e : Fin 384) (d a b : Fin 64) (pr : Fin 8) (pn : Bool) (s : State) : exec (.fnma e d a b pr pn) s = execFnma e d a b pr pn s := rfl
@[simp] theorem exec_faddS (e : Fin 384) (d a : Fin 64) (b : Fin 16) (pr : Fin 8) (pn : Bool) (s : State) : exec (.faddS e d a b pr pn) s = execFaddS e d a b pr pn s := rfl
@[simp] theorem exec_fsubS (e : Fin 384) (d a : Fin 64) (b : Fin 16) (pr : Fin 8) (pn : Bool) (s : State) : exec (.fsubS e d a b pr pn) s = execFsubS e d a b pr pn s := rfl
@[simp] theorem exec_fmulS (e : Fin 384) (d a : Fin 64) (b : Fin 16) (pr : Fin 8) (pn : Bool) (s : State) : exec (.fmulS e d a b pr pn) s = execFmulS e d a b pr pn s := rfl
@[simp] theorem exec_fminS (e : Fin 384) (d a : Fin 64) (b : Fin 16) (pr : Fin 8) (pn : Bool) (s : State) : exec (.fminS e d a b pr pn) s = execFminS e d a b pr pn s := rfl
@[simp] theorem exec_fmaxS (e : Fin 384) (d a : Fin 64) (b : Fin 16) (pr : Fin 8) (pn : Bool) (s : State) : exec (.fmaxS e d a b pr pn) s = execFmaxS e d a b pr pn s := rfl
@[simp] theorem exec_fmaS (e : Fin 384) (d a : Fin 64) (b : Fin 16) (pr : Fin 8) (pn : Bool) (s : State) : exec (.fmaS e d a b pr pn) s = execFmaS e d a b pr pn s := rfl
@[simp] theorem exec_fmsS (e : Fin 384) (d a : Fin 64) (b : Fin 16) (pr : Fin 8) (pn : Bool) (s : State) : exec (.fmsS e d a b pr pn) s = execFmsS e d a b pr pn s := rfl
@[simp] theorem exec_fnmaS (e : Fin 384) (d a : Fin 64) (b : Fin 16) (pr : Fin 8) (pn : Bool) (s : State) : exec (.fnmaS e d a b pr pn) s = execFnmaS e d a b pr pn s := rfl
@[simp] theorem exec_rcp (e : Fin 384) (d a : Fin 64) (pr : Fin 8) (pn : Bool) (s : State) : exec (.rcp e d a pr pn) s = execRcp e d a pr pn s := rfl
@[simp] theorem exec_rsq (e : Fin 384) (d a : Fin 64) (pr : Fin 8) (pn : Bool) (s : State) : exec (.rsq e d a pr pn) s = execRsq e d a pr pn s := rfl
@[simp] theorem exec_sqrt (e : Fin 384) (d a : Fin 64) (pr : Fin 8) (pn : Bool) (s : State) : exec (.sqrt e d a pr pn) s = execSqrt e d a pr pn s := rfl
@[simp] theorem exec_log2 (e : Fin 384) (d a : Fin 64) (pr : Fin 8) (pn : Bool) (s : State) : exec (.log2 e d a pr pn) s = execLog2 e d a pr pn s := rfl
@[simp] theorem exec_exp2 (e : Fin 384) (d a : Fin 64) (pr : Fin 8) (pn : Bool) (s : State) : exec (.exp2 e d a pr pn) s = execExp2 e d a pr pn s := rfl
@[simp] theorem exec_iadd (e : Fin 384) (d a b : Fin 64) (pr : Fin 8) (pn : Bool) (s : State) : exec (.iadd e d a b pr pn) s = execIadd e d a b pr pn s := rfl
@[simp] theorem exec_isub (e : Fin 384) (d a b : Fin 64) (pr : Fin 8) (pn : Bool) (s : State) : exec (.isub e d a b pr pn) s = execIsub e d a b pr pn s := rfl
@[simp] theorem exec_imul (e : Fin 384) (d a b : Fin 64) (pr : Fin 8) (pn : Bool) (s : State) : exec (.imul e d a b pr pn) s = execImul e d a b pr pn s := rfl
@[simp] theorem exec_imin (e : Fin 384) (d a b : Fin 64) (pr : Fin 8) (pn : Bool) (s : State) : exec (.imin e d a b pr pn) s = execImin e d a b pr pn s := rfl
@[simp] theorem exec_imax (e : Fin 384) (d a b : Fin 64) (pr : Fin 8) (pn : Bool) (s : State) : exec (.imax e d a b pr pn) s = execImax e d a b pr pn s := rfl
@[simp] theorem exec_and (e : Fin 384) (d a b : Fin 64) (pr : Fin 8) (pn : Bool) (s : State) : exec (.and e d a b pr pn) s = execAnd e d a b pr pn s := rfl
@[simp] theorem exec_or (e : Fin 384) (d a b : Fin 64) (pr : Fin 8) (pn : Bool) (s : State) : exec (.or e d a b pr pn) s = execOr e d a b pr pn s := rfl
@[simp] theorem exec_xor (e : Fin 384) (d a b : Fin 64) (pr : Fin 8) (pn : Bool) (s : State) : exec (.xor e d a b pr pn) s = execXor e d a b pr pn s := rfl
@[simp] theorem exec_shl (e : Fin 384) (d a b : Fin 64) (pr : Fin 8) (pn : Bool) (s : State) : exec (.shl e d a b pr pn) s = execShl e d a b pr pn s := rfl
@[simp] theorem exec_shr (e : Fin 384) (d a b : Fin 64) (pr : Fin 8) (pn : Bool) (s : State) : exec (.shr e d a b pr pn) s = execShr e d a b pr pn s := rfl
@[simp] theorem exec_sar (e : Fin 384) (d a b : Fin 64) (pr : Fin 8) (pn : Bool) (s : State) : exec (.sar e d a b pr pn) s = execSar e d a b pr pn s := rfl
@[simp] theorem exec_sadd (e : Fin 384) (d a b : Fin 16) (s : State) : exec (.sadd e d a b) s = execSadd e d a b s := rfl
@[simp] theorem exec_ssub (e : Fin 384) (d a b : Fin 16) (s : State) : exec (.ssub e d a b) s = execSsub e d a b s := rfl
@[simp] theorem exec_smul (e : Fin 384) (d a b : Fin 16) (s : State) : exec (.smul e d a b) s = execSmul e d a b s := rfl
@[simp] theorem exec_smin (e : Fin 384) (d a b : Fin 16) (s : State) : exec (.smin e d a b) s = execSmin e d a b s := rfl
@[simp] theorem exec_smax (e : Fin 384) (d a b : Fin 16) (s : State) : exec (.smax e d a b) s = execSmax e d a b s := rfl
@[simp] theorem exec_sand (e : Fin 384) (d a b : Fin 16) (s : State) : exec (.sand e d a b) s = execSand e d a b s := rfl
@[simp] theorem exec_sor (e : Fin 384) (d a b : Fin 16) (s : State) : exec (.sor e d a b) s = execSor e d a b s := rfl
@[simp] theorem exec_sxor (e : Fin 384) (d a b : Fin 16) (s : State) : exec (.sxor e d a b) s = execSxor e d a b s := rfl
@[simp] theorem exec_sshl (e : Fin 384) (d a b : Fin 16) (s : State) : exec (.sshl e d a b) s = execSshl e d a b s := rfl
@[simp] theorem exec_sshr (e : Fin 384) (d a b : Fin 16) (s : State) : exec (.sshr e d a b) s = execSshr e d a b s := rfl
@[simp] theorem exec_ssar (e : Fin 384) (d a b : Fin 16) (s : State) : exec (.ssar e d a b) s = execSsar e d a b s := rfl
@[simp] theorem exec_movl (e : Fin 384) (d : Fin 64) (imm : BitVec 16) (s : State) : exec (.movl e d imm) s = execMovl e d imm s := rfl
@[simp] theorem exec_movh (e : Fin 384) (d : Fin 64) (imm : BitVec 16) (s : State) : exec (.movh e d imm) s = execMovh e d imm s := rfl
@[simp] theorem exec_movf (e : Fin 384) (d : Fin 64) (imm : BitVec 16) (s : State) : exec (.movf e d imm) s = execMovf e d imm s := rfl
@[simp] theorem exec_smovl (e : Fin 384) (d : Fin 16) (imm : BitVec 16) (s : State) : exec (.smovl e d imm) s = execSmovl e d imm s := rfl
@[simp] theorem exec_smovh (e : Fin 384) (d : Fin 16) (imm : BitVec 16) (s : State) : exec (.smovh e d imm) s = execSmovh e d imm s := rfl
@[simp] theorem exec_saddi (e : Fin 384) (d : Fin 16) (imm : BitVec 16) (s : State) : exec (.saddi e d imm) s = execSaddi e d imm s := rfl
@[simp] theorem exec_mov (e : Fin 384) (d a : Fin 64) (pr : Fin 8) (pn : Bool) (s : State) : exec (.mov e d a pr pn) s = execMov e d a pr pn s := rfl
@[simp] theorem exec_bcast (e : Fin 384) (d : Fin 64) (a : Fin 16) (pr : Fin 8) (pn : Bool) (s : State) : exec (.bcast e d a pr pn) s = execBcast e d a pr pn s := rfl
@[simp] theorem exec_extr (e : Fin 384) (d : Fin 16) (a : Fin 64) (b : Fin 16) (s : State) : exec (.extr e d a b) s = execExtr e d a b s := rfl
@[simp] theorem exec_sel (e : Fin 384) (d a b : Fin 64) (pr : Fin 8) (pn : Bool) (s : State) : exec (.sel e d a b pr pn) s = execSel e d a b pr pn s := rfl
@[simp] theorem exec_laneid (e : Fin 384) (d : Fin 64) (pr : Fin 8) (pn : Bool) (s : State) : exec (.laneid e d pr pn) s = execLaneid e d pr pn s := rfl
@[simp] theorem exec_smov (e : Fin 384) (d a : Fin 16) (s : State) : exec (.smov e d a) s = execSmov e d a s := rfl
@[simp] theorem exec_fcmpEq (e : Fin 384) (d : Fin 8) (a b : Fin 64) (pr : Fin 8) (pn : Bool) (s : State) : exec (.fcmpEq e d a b pr pn) s = execFcmpEq e d a b pr pn s := rfl
@[simp] theorem exec_fcmpLt (e : Fin 384) (d : Fin 8) (a b : Fin 64) (pr : Fin 8) (pn : Bool) (s : State) : exec (.fcmpLt e d a b pr pn) s = execFcmpLt e d a b pr pn s := rfl
@[simp] theorem exec_fcmpLe (e : Fin 384) (d : Fin 8) (a b : Fin 64) (pr : Fin 8) (pn : Bool) (s : State) : exec (.fcmpLe e d a b pr pn) s = execFcmpLe e d a b pr pn s := rfl
@[simp] theorem exec_fcmpNe (e : Fin 384) (d : Fin 8) (a b : Fin 64) (pr : Fin 8) (pn : Bool) (s : State) : exec (.fcmpNe e d a b pr pn) s = execFcmpNe e d a b pr pn s := rfl
@[simp] theorem exec_fcmpUn (e : Fin 384) (d : Fin 8) (a b : Fin 64) (pr : Fin 8) (pn : Bool) (s : State) : exec (.fcmpUn e d a b pr pn) s = execFcmpUn e d a b pr pn s := rfl
@[simp] theorem exec_icmpEq (e : Fin 384) (d : Fin 8) (a b : Fin 64) (pr : Fin 8) (pn : Bool) (s : State) : exec (.icmpEq e d a b pr pn) s = execIcmpEq e d a b pr pn s := rfl
@[simp] theorem exec_icmpLt (e : Fin 384) (d : Fin 8) (a b : Fin 64) (pr : Fin 8) (pn : Bool) (s : State) : exec (.icmpLt e d a b pr pn) s = execIcmpLt e d a b pr pn s := rfl
@[simp] theorem exec_icmpLtu (e : Fin 384) (d : Fin 8) (a b : Fin 64) (pr : Fin 8) (pn : Bool) (s : State) : exec (.icmpLtu e d a b pr pn) s = execIcmpLtu e d a b pr pn s := rfl
@[simp] theorem exec_pand (e : Fin 384) (d a b : Fin 8) (s : State) : exec (.pand e d a b) s = execPand e d a b s := rfl
@[simp] theorem exec_por (e : Fin 384) (d a b : Fin 8) (s : State) : exec (.por e d a b) s = execPor e d a b s := rfl
@[simp] theorem exec_pxor (e : Fin 384) (d a b : Fin 8) (s : State) : exec (.pxor e d a b) s = execPxor e d a b s := rfl
@[simp] theorem exec_pnot (e : Fin 384) (d a : Fin 8) (s : State) : exec (.pnot e d a) s = execPnot e d a s := rfl
@[simp] theorem exec_pfroms (e : Fin 384) (d : Fin 8) (a : Fin 16) (s : State) : exec (.pfroms e d a) s = execPfroms e d a s := rfl
@[simp] theorem exec_ptos (e : Fin 384) (d : Fin 16) (a : Fin 8) (s : State) : exec (.ptos e d a) s = execPtos e d a s := rfl
@[simp] theorem exec_cvtFI (e : Fin 384) (d a : Fin 64) (pr : Fin 8) (pn : Bool) (s : State) : exec (.cvtFI e d a pr pn) s = execCvtFI e d a pr pn s := rfl
@[simp] theorem exec_cvtIF (e : Fin 384) (d a : Fin 64) (pr : Fin 8) (pn : Bool) (s : State) : exec (.cvtIF e d a pr pn) s = execCvtIF e d a pr pn s := rfl
@[simp] theorem exec_cvtFU (e : Fin 384) (d a : Fin 64) (pr : Fin 8) (pn : Bool) (s : State) : exec (.cvtFU e d a pr pn) s = execCvtFU e d a pr pn s := rfl
@[simp] theorem exec_cvtUF (e : Fin 384) (d a : Fin 64) (pr : Fin 8) (pn : Bool) (s : State) : exec (.cvtUF e d a pr pn) s = execCvtUF e d a pr pn s := rfl
@[simp] theorem exec_cvtHF (e : Fin 384) (d a : Fin 64) (pr : Fin 8) (pn : Bool) (s : State) : exec (.cvtHF e d a pr pn) s = execCvtHF e d a pr pn s := rfl
@[simp] theorem exec_cvtFH (e : Fin 384) (d a : Fin 64) (pr : Fin 8) (pn : Bool) (s : State) : exec (.cvtFH e d a pr pn) s = execCvtFH e d a pr pn s := rfl
@[simp] theorem exec_ldV (e : Fin 384) (d : Fin 64) (b : Fin 16) (off : BitVec 12) (pr : Fin 8) (pn : Bool) (s : State) : exec (.ldV e d b off pr pn) s = execLdV e d b off pr pn s := rfl
@[simp] theorem exec_stV (e : Fin 384) (d : Fin 64) (b : Fin 16) (off : BitVec 12) (pr : Fin 8) (pn : Bool) (s : State) : exec (.stV e d b off pr pn) s = execStV e d b off pr pn s := rfl
@[simp] theorem exec_ldS (e : Fin 384) (d : Fin 16) (b : Fin 16) (off : BitVec 12) (s : State) : exec (.ldS e d b off) s = execLdS e d b off s := rfl
@[simp] theorem exec_stS (e : Fin 384) (d : Fin 16) (b : Fin 16) (off : BitVec 12) (s : State) : exec (.stS e d b off) s = execStS e d b off s := rfl
@[simp] theorem exec_ldB (e : Fin 384) (d : Fin 64) (b : Fin 16) (off : BitVec 12) (pr : Fin 8) (pn : Bool) (s : State) : exec (.ldB e d b off pr pn) s = execLdB e d b off pr pn s := rfl
@[simp] theorem exec_ldG (e : Fin 384) (d a : Fin 64) (b : Fin 16) (pr : Fin 8) (pn : Bool) (s : State) : exec (.ldG e d a b pr pn) s = execLdG e d a b pr pn s := rfl
@[simp] theorem exec_stG (e : Fin 384) (d a : Fin 64) (b : Fin 16) (pr : Fin 8) (pn : Bool) (s : State) : exec (.stG e d a b pr pn) s = execStG e d a b pr pn s := rfl
@[simp] theorem exec_pixIn (e : Fin 384) (d : Fin 62) (dx dy : Fin 17) (pr : Fin 8) (pn : Bool) (s : State) : exec (.pixIn e d dx dy pr pn) s = execPixIn e d dx dy pr pn s := rfl
@[simp] theorem exec_pixFrac (e : Fin 384) (d : Fin 63) (pr : Fin 8) (pn : Bool) (s : State) : exec (.pixFrac e d pr pn) s = execPixFrac e d pr pn s := rfl
@[simp] theorem exec_pixOut (e : Fin 384) (a : Fin 62) (binding : Fin 16) (pr : Fin 8) (pn : Bool) (s : State) : exec (.pixOut e a binding pr pn) s = execPixOut e a binding pr pn s := rfl
@[simp] theorem exec_lut1 (e : Fin 384) (d a : Fin 64) (table : Fin 8) (pr : Fin 8) (pn : Bool) (s : State) : exec (.lut1 e d a table pr pn) s = execLut1 e d a table pr pn s := rfl
@[simp] theorem exec_lut3 (e : Fin 384) (d a : Fin 62) (table : Fin 8) (pr : Fin 8) (pn : Bool) (s : State) : exec (.lut3 e d a table pr pn) s = execLut3 e d a table pr pn s := rfl
@[simp] theorem exec_lut3Out (e : Fin 384) (binding : Fin 16) (a : Fin 62) (table : Fin 8) (pr : Fin 8) (pn : Bool) (s : State) : exec (.lut3Out e binding a table pr pn) s = execLut3Out e binding a table pr pn s := rfl
@[simp] theorem exec_lutRequestAccept (troupe : Fin 24) (s : State) : exec (.lutRequestAccept troupe) s = execLutRequestAccept troupe s := rfl
@[simp] theorem exec_lutResult (e : Fin 384) (s : State) : exec (.lutResult e) s = execLutResult e s := rfl
@[simp] theorem exec_br (e : Fin 384) (off : BitVec 21) (s : State) : exec (.br e off) s = execBr e off s := rfl
@[simp] theorem exec_brp (e : Fin 384) (pr : Fin 8) (mode : BranchMode) (off : BitVec 21) (s : State) : exec (.brp e pr mode off) s = execBrp e pr mode off s := rfl
@[simp] theorem exec_loop (e : Fin 384) (c : Fin 16) (len : BitVec 12) (s : State) : exec (.loop e c len) s = execLoop e c len s := rfl
@[simp] theorem exec_call (e : Fin 384) (off : BitVec 21) (s : State) : exec (.call e off) s = execCall e off s := rfl
@[simp] theorem exec_ret (e : Fin 384) (s : State) : exec (.ret e) s = execRet e s := rfl
@[simp] theorem exec_sync (e : Fin 384) (s : State) : exec (.sync e) s = execSync e s := rfl
@[simp] theorem exec_wait (e : Fin 384) (mask : BitVec 4) (s : State) : exec (.wait e mask) s = execWait e mask s := rfl
@[simp] theorem exec_halt (e : Fin 384) (s : State) : exec (.halt e) s = execHalt e s := rfl
@[simp] theorem exec_nop (e : Fin 384) (s : State) : exec (.nop e) s = execNop e s := rfl
@[simp] theorem exec_engineGroupTimeout (e : Fin 384) (s : State) : exec (.engineGroupTimeout e) s = execEngineGroupTimeout e s := rfl
@[simp] theorem exec_engineParityError (e : Fin 384) (cause : EngineFault) (s : State) : exec (.engineParityError e cause) s = execEngineParityError e cause s := rfl
@[simp] theorem exec_engineRetestDone (e : Fin 384) (passed : Bool) (s : State) : exec (.engineRetestDone e passed) s = execEngineRetestDone e passed s := rfl
@[simp] theorem exec_troupeParityError (troupe : Fin 24) (cause : TroupeFault) (s : State) : exec (.troupeParityError troupe cause) s = execTroupeParityError troupe cause s := rfl
@[simp] theorem exec_troupeRetestDone (troupe : Fin 24) (passed : Bool) (s : State) : exec (.troupeRetestDone troupe passed) s = execTroupeRetestDone troupe passed s := rfl
@[simp] theorem exec_imageLoadDone (slot : Fin 16) (s : State) : exec (.imageLoadDone slot) s = execImageLoadDone slot s := rfl
@[simp] theorem exec_tableLoadDone (entry : Fin 64) (s : State) : exec (.tableLoadDone entry) s = execTableLoadDone entry s := rfl
@[simp] theorem exec_keepResidentWrite (by_ : Writer) (slot : Fin 16) (value : BitVec 8) (s : State) : exec (.keepResidentWrite by_ slot value) s = execKeepResidentWrite by_ slot value s := rfl
@[simp] theorem exec_lookSlotSelect (by_ : Writer) (ctx : Fin 16) (slot : BitVec 8) (s : State) : exec (.lookSlotSelect by_ ctx slot) s = execLookSlotSelect by_ ctx slot s := rfl
@[simp] theorem exec_calibrationCommit (by_ : Writer) (slot : Fin 8) (s : State) : exec (.calibrationCommit by_ slot) s = execCalibrationCommit by_ slot s := rfl
@[simp] theorem exec_revertStaging (by_ : Writer) (slot : Fin 8) (value : BitVec 8) (s : State) : exec (.revertStaging by_ slot value) s = execRevertStaging by_ slot value s := rfl
@[simp] theorem exec_tableHeaderWrite (by_ : Writer) (entry : Fin 64) (header : Bytes) (s : State) : exec (.tableHeaderWrite by_ entry header) s = execTableHeaderWrite by_ entry header s := rfl
@[simp] theorem exec_tableDataWrite (by_ : Writer) (entry : Fin 64) (value : Bytes) (s : State) : exec (.tableDataWrite by_ entry value) s = execTableDataWrite by_ entry value s := rfl
@[simp] theorem exec_tableSeal (by_ : Writer) (entry : Fin 64) (value : BitVec 8) (s : State) : exec (.tableSeal by_ entry value) s = execTableSeal by_ entry value s := rfl
@[simp] theorem exec_tableGenerate (by_ : Writer) (entry : Fin 64) (value : Bytes) (s : State) : exec (.tableGenerate by_ entry value) s = execTableGenerate by_ entry value s := rfl
@[simp] theorem exec_colourRecordIssue (ctx : Fin 16) (s : State) : exec (.colourRecordIssue ctx) s = execColourRecordIssue ctx s := rfl
@[simp] theorem exec_outputOrigin (channel : Fin 24) (index : BitVec 64) (s : State) : exec (.outputOrigin channel index) s = execOutputOrigin channel index s := rfl
@[simp] theorem exec_lineFetch (channel : Fin 24) (s : State) : exec (.lineFetch channel) s = execLineFetch channel s := rfl
@[simp] theorem exec_lineCommitInstant (channel : Fin 24) (line : BitVec 16) (s : State) : exec (.lineCommitInstant channel line) s = execLineCommitInstant channel line s := rfl
@[simp] theorem exec_outputFrameBoundary (channel : Fin 24) (s : State) : exec (.outputFrameBoundary channel) s = execOutputFrameBoundary channel s := rfl
@[simp] theorem exec_lockGroupSignal (group : Fin 8) (position : Fin 4) (line : BitVec 16) (reason : Fin 4) (s : State) : exec (.lockGroupSignal group position line reason) s = execLockGroupSignal group position line reason s := rfl
@[simp] theorem exec_twinSignature (channel : Fin 24) (index : BitVec 64) (frame : BitVec 32) (signature : BitVec 32) (s : State) : exec (.twinSignature channel index frame signature) s = execTwinSignature channel index frame signature s := rfl
@[simp] theorem exec_sdiInputFrame (input : Fin 4) (stamp : BitVec 96) (rows : List (List (BitVec 48))) (crcLines : BitVec 16) (timeCode : BitVec 32) (s : State) : exec (.sdiInputFrame input stamp rows crcLines timeCode) s = execSdiInputFrame input stamp rows crcLines timeCode s := rfl
@[simp] theorem exec_sdiInputState (input : Fin 4) (state : Fin 4) (format : Fin 15) (s : State) : exec (.sdiInputState input state format) s = execSdiInputState input state format s := rfl
@[simp] theorem exec_sdiInputHoldEnd (input : Fin 4) (s : State) : exec (.sdiInputHoldEnd input) s = execSdiInputHoldEnd input s := rfl
@[simp] theorem exec_edpEnable (port : Fin 2) (s : State) : exec (.edpEnable port) s = execEdpEnable port s := rfl
@[simp] theorem exec_edpDisable (port : Fin 2) (s : State) : exec (.edpDisable port) s = execEdpDisable port s := rfl
@[simp] theorem exec_edpHpdHigh (port : Fin 2) (psr fast : Bool) (s : State) : exec (.edpHpdHigh port psr fast) s = execEdpHpdHigh port psr fast s := rfl
@[simp] theorem exec_edpHpdTimeout (port : Fin 2) (s : State) : exec (.edpHpdTimeout port) s = execEdpHpdTimeout port s := rfl
@[simp] theorem exec_edpTrainingDone (port : Fin 2) (passed : Bool) (s : State) : exec (.edpTrainingDone port passed) s = execEdpTrainingDone port passed s := rfl
@[simp] theorem exec_edpHpdIrq (port : Fin 2) (lockLost : Bool) (s : State) : exec (.edpHpdIrq port lockLost) s = execEdpHpdIrq port lockLost s := rfl
@[simp] theorem exec_edpUnplug (port : Fin 2) (s : State) : exec (.edpUnplug port) s = execEdpUnplug port s := rfl
@[simp] theorem exec_st2110PacketSend (stream : Fin 8) (packet : BitVec 32) (late : Bool) (s : State) : exec (.st2110PacketSend stream packet late) s = execSt2110PacketSend stream packet late s := rfl
@[simp] theorem exec_st2110AncSend (stream : Fin 8) (s : State) : exec (.st2110AncSend stream) s = execSt2110AncSend stream s := rfl
@[simp] theorem exec_st2110AudioSend (sender : Fin 8) (s : State) : exec (.st2110AudioSend sender) s = execSt2110AudioSend sender s := rfl
@[simp] theorem exec_encodePictureStart (core : Fin 4) (s : State) : exec (.encodePictureStart core) s = execEncodePictureStart core s := rfl
@[simp] theorem exec_encodePictureDone (core : Fin 4) (s : State) : exec (.encodePictureDone core) s = execEncodePictureDone core s := rfl
@[simp] theorem exec_markKeep (stream : Fin 16) (mark : Fin 2) (frame : BitVec 32) (s : State) : exec (.markKeep stream mark frame) s = execMarkKeep stream mark frame s := rfl
@[simp] theorem exec_markRelease (stream : Fin 16) (mark : Fin 2) (s : State) : exec (.markRelease stream mark) s = execMarkRelease stream mark s := rfl
@[simp] theorem exec_recoveryRefresh (stream : Fin 16) (s : State) : exec (.recoveryRefresh stream) s = execRecoveryRefresh stream s := rfl
@[simp] theorem exec_recoveryFromMark (stream : Fin 16) (mark : Fin 2) (s : State) : exec (.recoveryFromMark stream mark) s = execRecoveryFromMark stream mark s := rfl
@[simp] theorem exec_lossReport (stream : Fin 16) (mark : Fin 3) (s : State) : exec (.lossReport stream mark) s = execLossReport stream mark s := rfl
@[simp] theorem exec_decodePictureStart (core : Fin 2) (unit : Bytes) (info : AuInfo) (s : State) : exec (.decodePictureStart core unit info) s = execDecodePictureStart core unit info s := rfl
@[simp] theorem exec_decodePictureDone (core : Fin 2) (picture : DecodedPic) (s : State) : exec (.decodePictureDone core picture) s = execDecodePictureDone core picture s := rfl
@[simp] theorem exec_pictureDue (ctx : Fin 8) (s : State) : exec (.pictureDue ctx) s = execPictureDue ctx s := rfl
@[simp] theorem exec_decodeSeek (ctx : Fin 8) (s : State) : exec (.decodeSeek ctx) s = execDecodeSeek ctx s := rfl
@[simp] theorem exec_rawStripeCoded (unit ctx : Fin 8) (s : State) : exec (.rawStripeCoded unit ctx) s = execRawStripeCoded unit ctx s := rfl
@[simp] theorem exec_rawExpandFrameBlock (channel : Fin 64) (ring : Bytes) (s : State) : exec (.rawExpandFrameBlock channel ring) s = execRawExpandFrameBlock channel ring s := rfl
@[simp] theorem exec_rawExpandBlock (channel : Fin 64) (ring : Bytes) (s : State) : exec (.rawExpandBlock channel ring) s = execRawExpandBlock channel ring s := rfl
@[simp] theorem exec_compressJob (channel : Fin 64) (desc input : Bytes) (fault : Bool) (s : State) : exec (.compressJob channel desc input fault) s = execCompressJob channel desc input fault s := rfl
@[simp] theorem exec_expandJob (channel : Fin 64) (desc input : Bytes) (fault : Bool) (s : State) : exec (.expandJob channel desc input fault) s = execExpandJob channel desc input fault s := rfl
@[simp] theorem exec_heldTailDiscard (channel : Fin 64) (s : State) : exec (.heldTailDiscard channel) s = execHeldTailDiscard channel s := rfl
@[simp] theorem exec_ringHold (by_ : Writer) (ctx : Fin 8) (s : State) : exec (.ringHold by_ ctx) s = execRingHold by_ ctx s := rfl
@[simp] theorem exec_ringRelease (by_ : Writer) (ctx : Fin 8) (s : State) : exec (.ringRelease by_ ctx) s = execRingRelease by_ ctx s := rfl
@[simp] theorem exec_ringExtract (by_ : Writer) (ctx : Fin 8) (first last : BitVec 32) (s : State) : exec (.ringExtract by_ ctx first last) s = execRingExtract by_ ctx first last s := rfl
@[simp] theorem exec_mqWrite (queue : Fin 16) (entry data : Bytes) (fault : Bool) (s : State) : exec (.mqWrite queue entry data fault) s = execMqWrite queue entry data fault s := rfl
@[simp] theorem exec_mqRead (queue : Fin 16) (entry : Bytes) (fault : Bool) (s : State) : exec (.mqRead queue entry fault) s = execMqRead queue entry fault s := rfl
@[simp] theorem exec_mqFlush (queue : Fin 16) (entry : Bytes) (s : State) : exec (.mqFlush queue entry) s = execMqFlush queue entry s := rfl
@[simp] theorem exec_mqBufferSpaceFreed (queue : Fin 16) (s : State) : exec (.mqBufferSpaceFreed queue) s = execMqBufferSpaceFreed queue s := rfl
@[simp] theorem exec_driveCommandDone (drive : Fin 4) (cid : BitVec 32) (sct sc : BitVec 8) (data : Bytes) (fatal : Bool) (s : State) : exec (.driveCommandDone drive cid sct sc data fatal) s = execDriveCommandDone drive cid sct sc data fatal s := rfl
@[simp] theorem exec_driveTimeout (drive : Fin 4) (s : State) : exec (.driveTimeout drive) s = execDriveTimeout drive s := rfl
@[simp] theorem exec_queueRestart (by_ : Option Writer) (queue : Fin 16) (s : State) : exec (.queueRestart by_ queue) s = execQueueRestart by_ queue s := rfl
@[simp] theorem exec_queueReset (by_ : Option Writer) (queue : Fin 16) (s : State) : exec (.queueReset by_ queue) s = execQueueReset by_ queue s := rfl
@[simp] theorem exec_queueResetDone (queue : Fin 16) (s : State) : exec (.queueResetDone queue) s = execQueueResetDone queue s := rfl
@[simp] theorem exec_cqHeadWrite (queue : Fin 16) (head : BitVec 32) (s : State) : exec (.cqHeadWrite queue head) s = execCqHeadWrite queue head s := rfl
@[simp] theorem exec_errorLogRead (queue : Fin 16) (s : State) : exec (.errorLogRead queue) s = execErrorLogRead queue s := rfl
@[simp] theorem exec_volumeCreate (present : BitVec 4) (s : State) : exec (.volumeCreate present) s = execVolumeCreate present s := rfl
@[simp] theorem exec_volumeAttach (present : BitVec 4) (s : State) : exec (.volumeAttach present) s = execVolumeAttach present s := rfl
@[simp] theorem exec_attachDriveReady (drive : Fin 4) (ok : Bool) (info : DriveInfo) (s : State) : exec (.attachDriveReady drive ok info) s = execAttachDriveReady drive ok info s := rfl
@[simp] theorem exec_volumeDetach (s : State) : exec (.volumeDetach) s = execVolumeDetach s := rfl
@[simp] theorem exec_volumeRebuild (s : State) : exec (.volumeRebuild) s = execVolumeRebuild s := rfl
@[simp] theorem exec_rebuildComplete (s : State) : exec (.rebuildComplete) s = execRebuildComplete s := rfl
@[simp] theorem exec_clipDelete (clip : BitVec 64) (s : State) : exec (.clipDelete clip) s = execClipDelete clip s := rfl
@[simp] theorem exec_journalCommit (s : State) : exec (.journalCommit) s = execJournalCommit s := rfl
@[simp] theorem exec_recordCheckpoint (ctx : Fin 16) (s : State) : exec (.recordCheckpoint ctx) s = execRecordCheckpoint ctx s := rfl
@[simp] theorem exec_playbackFeedStart (ctx : Fin 8) (chunks : List FeedChunk) (s : State) : exec (.playbackFeedStart ctx chunks) s = execPlaybackFeedStart ctx chunks s := rfl
@[simp] theorem exec_lostRangesClear (value : BitVec 8) (s : State) : exec (.lostRangesClear value) s = execLostRangesClear value s := rfl
@[simp] theorem exec_patrolScrub (rank : Fin 18) (channel : Fin 4) (line : BitVec 32) (requester : Fin 8) (found : EccFound) (s : State) : exec (.patrolScrub rank channel line requester found) s = execPatrolScrub rank channel line requester found s := rfl
@[simp] theorem exec_rankMigrate (by_ : Writer) (s : State) : exec (.rankMigrate by_) s = execRankMigrate by_ s := rfl
@[simp] theorem exec_migrationBlockDone (mismatch : Bool) (poisoned : BitVec 32) (s : State) : exec (.migrationBlockDone mismatch poisoned) s = execMigrationBlockDone mismatch poisoned s := rfl
@[simp] theorem exec_rankRetest (by_ : Writer) (s : State) : exec (.rankRetest by_) s = execRankRetest by_ s := rfl
@[simp] theorem exec_retestDone (rank : Fin 18) (errors : Bool) (distinct : BitVec 32) (s : State) : exec (.retestDone rank errors distinct) s = execRetestDone rank errors distinct s := rfl
@[simp] theorem exec_rankMarginScan (by_ : Writer) (s : State) : exec (.rankMarginScan by_) s = execRankMarginScan by_ s := rfl
@[simp] theorem exec_marginScanDone (result : List (BitVec 16)) (s : State) : exec (.marginScanDone result) s = execMarginScanDone result s := rfl
@[simp] theorem exec_dramInitDone (s : State) : exec (.dramInitDone) s = execDramInitDone s := rfl
@[simp] theorem exec_refreshRateChange (package : Fin 9) (s : State) : exec (.refreshRateChange package) s = execRefreshRateChange package s := rfl
@[simp] theorem exec_dqsDriftCheck (s : State) : exec (.dqsDriftCheck) s = execDqsDriftCheck s := rfl
@[simp] theorem exec_trainingCacheClear (by_ : Writer) (s : State) : exec (.trainingCacheClear by_) s = execTrainingCacheClear by_ s := rfl
@[simp] theorem exec_audioBlock (port : Fin 48) (time period : BitVec 96) (samples : List (W32 × W32)) (s : State) : exec (.audioBlock port time period samples) s = execAudioBlock port time period samples s := rfl
@[simp] theorem exec_audioClockLoss (port : Fin 48) (rate : Bool) (s : State) : exec (.audioClockLoss port rate) s = execAudioClockLoss port rate s := rfl
@[simp] theorem exec_audioClockRestored (port : Fin 48) (s : State) : exec (.audioClockRestored port) s = execAudioClockRestored port s := rfl
@[simp] theorem exec_quadratureCount (channel : Fin 24) (a b : Bool) (s : State) : exec (.quadratureCount channel a b) s = execQuadratureCount channel a b s := rfl
@[simp] theorem exec_toothEdge (channel : Fin 24) (b : Bool) (s : State) : exec (.toothEdge channel b) s = execToothEdge channel b s := rfl
@[simp] theorem exec_sincosSample (channel : Fin 24) (sin cos : BitVec 12) (s : State) : exec (.sincosSample channel sin cos) s = execSincosSample channel sin cos s := rfl
@[simp] theorem exec_indexLatch (channel : Fin 24) (rising : Bool) (s : State) : exec (.indexLatch channel rising) s = execIndexLatch channel rising s := rfl
@[simp] theorem exec_referenceArm (channel : Fin 24) (s : State) : exec (.referenceArm channel) s = execReferenceArm channel s := rfl
@[simp] theorem exec_positionCorrect (channel : Fin 24) (value : BitVec 32) (s : State) : exec (.positionCorrect channel value) s = execPositionCorrect channel value s := rfl
@[simp] theorem exec_positionShift (channel : Fin 24) (value : BitVec 32) (s : State) : exec (.positionShift channel value) s = execPositionShift channel value s := rfl
@[simp] theorem exec_probeLatch (channel : Fin 24) (rising : Bool) (s : State) : exec (.probeLatch channel rising) s = execProbeLatch channel rising s := rfl
@[simp] theorem exec_probeFifoRead (channel : Fin 24) (s : State) : exec (.probeFifoRead channel) s = execProbeFifoRead channel s := rfl
@[simp] theorem exec_speedUpdate (channel : Fin 24) (s : State) : exec (.speedUpdate channel) s = execSpeedUpdate channel s := rfl
@[simp] theorem exec_stopTimeout (channel : Fin 24) (s : State) : exec (.stopTimeout channel) s = execStopTimeout channel s := rfl
@[simp] theorem exec_positionClearFlags (channel : Fin 24) (s : State) : exec (.positionClearFlags channel) s = execPositionClearFlags channel s := rfl
@[simp] theorem exec_mbGo (mailbox : Fin 32) (message : Bytes) (wake : Bool) (s : State) : exec (.mbGo mailbox message wake) s = execMbGo mailbox message wake s := rfl
@[simp] theorem exec_mbAccept (mailbox : Fin 32) (s : State) : exec (.mbAccept mailbox) s = execMbAccept mailbox s := rfl
@[simp] theorem exec_mbPop (mailbox : Fin 32) (s : State) : exec (.mbPop mailbox) s = execMbPop mailbox s := rfl
@[simp] theorem exec_mbCancel (mailbox : Fin 32) (s : State) : exec (.mbCancel mailbox) s = execMbCancel mailbox s := rfl
@[simp] theorem exec_relayForward (pair : Fin 16) (s : State) : exec (.relayForward pair) s = execRelayForward pair s := rfl
@[simp] theorem exec_epPerstAssert (s : State) : exec (.epPerstAssert) s = execEpPerstAssert s := rfl
@[simp] theorem exec_standbyCommand (s : State) : exec (.standbyCommand) s = execStandbyCommand s := rfl
@[simp] theorem exec_standbyFramesDrained (s : State) : exec (.standbyFramesDrained) s = execStandbyFramesDrained s := rfl
@[simp] theorem exec_standbyFlushDone (s : State) : exec (.standbyFlushDone) s = execStandbyFlushDone s := rfl
@[simp] theorem exec_domainWait (domain : Fin 38) (off : Bool) (s : State) : exec (.domainWait domain off) s = execDomainWait domain off s := rfl
@[simp] theorem exec_domainExitDone (domain : Fin 38) (s : State) : exec (.domainExitDone domain) s = execDomainExitDone domain s := rfl
@[simp] theorem exec_activeCommand (s : State) : exec (.activeCommand) s = execActiveCommand s := rfl
@[simp] theorem exec_dormantCommand (s : State) : exec (.dormantCommand) s = execDormantCommand s := rfl
@[simp] theorem exec_wakeFrameWake (port : Fin 2) (frame : WakeFrame) (boot : BootInputs) (s : State) : exec (.wakeFrameWake port frame boot) s = execWakeFrameWake port frame boot s := rfl
@[simp] theorem exec_wakeFramePing (port : Fin 2) (frame : WakeFrame) (s : State) : exec (.wakeFramePing port frame) s = execWakeFramePing port frame s := rfl
@[simp] theorem exec_wakeTioEdge (ball : Fin 32) (falling : Bool) (boot : BootInputs) (s : State) : exec (.wakeTioEdge ball falling boot) s = execWakeTioEdge ball falling boot s := rfl
@[simp] theorem exec_wakeAlarm (boot : BootInputs) (s : State) : exec (.wakeAlarm boot) s = execWakeAlarm boot s := rfl
@[simp] theorem exec_wakeEpPerst (boot : BootInputs) (s : State) : exec (.wakeEpPerst boot) s = execWakeEpPerst boot s := rfl
@[simp] theorem exec_coreSensorSample (sensor : Fin 64) (reading : Option (BitVec 32)) (s : State) : exec (.coreSensorSample sensor reading) s = execCoreSensorSample sensor reading s := rfl
@[simp] theorem exec_dramSensorSample (package : Fin 9) (reading : Option (BitVec 32)) (s : State) : exec (.dramSensorSample package reading) s = execDramSensorSample package reading s := rfl
@[simp] theorem exec_tspSample (reading : Option (BitVec 32)) (s : State) : exec (.tspSample reading) s = execTspSample reading s := rfl
@[simp] theorem exec_thermalLoopTick (s : State) : exec (.thermalLoopTick) s = execThermalLoopTick s := rfl
@[simp] theorem exec_tripHoldCheck (boot : BootInputs) (s : State) : exec (.tripHoldCheck boot) s = execTripHoldCheck boot s := rfl
@[simp] theorem exec_garosLinkHello (link : Fin 4) (die : BitVec 64) (straps size : BitVec 8) (fwHash : Bytes) (s : State) : exec (.garosLinkHello link die straps size fwHash) s = execGarosLinkHello link die straps size fwHash s := rfl
@[simp] theorem exec_garosControlFrame (link : Fin 4) (seq : BitVec 16) (ack : Bool) (kind : BitVec 8) (body : Bytes) (checkOk : Bool) (s : State) : exec (.garosControlFrame link seq ack kind body checkOk) s = execGarosControlFrame link seq ack kind body checkOk s := rfl
@[simp] theorem exec_garosControlResend (link : Fin 4) (s : State) : exec (.garosControlResend link) s = execGarosControlResend link s := rfl
@[simp] theorem exec_garosStoreFrame (link : Fin 4) (seq : BitVec 16) (ctx : Fin 16) (frame : BitVec 32) (groups : List StoreGroup) (last checkOk : Bool) (s : State) : exec (.garosStoreFrame link seq ctx frame groups last checkOk) s = execGarosStoreFrame link seq ctx frame groups last checkOk s := rfl
@[simp] theorem exec_garosWindowFrame (link : Fin 4) (seq : BitVec 16) (address : BitVec 64) (access : WindowAccess) (checkOk : Bool) (s : State) : exec (.garosWindowFrame link seq address access checkOk) s = execGarosWindowFrame link seq address access checkOk s := rfl
@[simp] theorem exec_garosMarkerSend (link : Fin 4) (s : State) : exec (.garosMarkerSend link) s = execGarosMarkerSend link s := rfl
@[simp] theorem exec_garosTimeMarker (link : Fin 4) (sent partnerReceived partnerSent received : BitVec 96) (s : State) : exec (.garosTimeMarker link sent partnerReceived partnerSent received) s = execGarosTimeMarker link sent partnerReceived partnerSent received s := rfl
@[simp] theorem exec_marionetteSend (link : Fin 4) (s : State) : exec (.marionetteSend link) s = execMarionetteSend link s := rfl
@[simp] theorem exec_marionetteReceive (link : Fin 4) (heartbeat : Bytes) (s : State) : exec (.marionetteReceive link heartbeat) s = execMarionetteReceive link heartbeat s := rfl
@[simp] theorem exec_marionetteMiss (link : Fin 4) (s : State) : exec (.marionetteMiss link) s = execMarionetteMiss link s := rfl
@[simp] theorem exec_partnerLinkDownTimeout (link : Fin 4) (s : State) : exec (.partnerLinkDownTimeout link) s = execPartnerLinkDownTimeout link s := rfl
@[simp] theorem exec_partnerHeartbeatSilent (s : State) : exec (.partnerHeartbeatSilent) s = execPartnerHeartbeatSilent s := rfl
@[simp] theorem exec_partnerLost (link : Fin 4) (s : State) : exec (.partnerLost link) s = execPartnerLost link s := rfl
@[simp] theorem exec_takeoverInstant (s : State) : exec (.takeoverInstant) s = execTakeoverInstant s := rfl
@[simp] theorem exec_twinTakeover (by_ : Writer) (s : State) : exec (.twinTakeover by_) s = execTwinTakeover by_ s := rfl
@[simp] theorem exec_twinResync (by_ : Writer) (s : State) : exec (.twinResync by_) s = execTwinResync by_ s := rfl
@[simp] theorem exec_mirroredUnit (number live : BitVec 32) (unit : Bytes) (s : State) : exec (.mirroredUnit number live unit) s = execMirroredUnit number live unit s := rfl
@[simp] theorem exec_generationClose (ctx : Fin 16) (frame : BitVec 32) (s : State) : exec (.generationClose ctx frame) s = execGenerationClose ctx frame s := rfl
@[simp] theorem exec_standbyNotice (link : Fin 4) (s : State) : exec (.standbyNotice link) s = execStandbyNotice link s := rfl
@[simp] theorem exec_arrayFormationTimeout (s : State) : exec (.arrayFormationTimeout) s = execArrayFormationTimeout s := rfl
@[simp] theorem exec_twinFormationWindow (s : State) : exec (.twinFormationWindow) s = execTwinFormationWindow s := rfl
@[simp] theorem exec_felleyLinkHello (role : Fin 4) (lanes : BitVec 8) (die : BitVec 64) (twinState twinIndex node : BitVec 8) (s : State) : exec (.felleyLinkHello role lanes die twinState twinIndex node) s = execFelleyLinkHello role lanes die twinState twinIndex node s := rfl
@[simp] theorem exec_felleyControlFrame (seq : BitVec 16) (ack : Bool) (kind : BitVec 8) (body : Bytes) (checkOk : Bool) (s : State) : exec (.felleyControlFrame seq ack kind body checkOk) s = execFelleyControlFrame seq ack kind body checkOk s := rfl
@[simp] theorem exec_felleyControlResend (s : State) : exec (.felleyControlResend) s = execFelleyControlResend s := rfl
@[simp] theorem exec_felleyStreamSend (stream : Fin 64) (s : State) : exec (.felleyStreamSend stream) s = execFelleyStreamSend stream s := rfl
@[simp] theorem exec_felleyStreamFrame (stream : Fin 64) (seq : BitVec 16) (first last : Bool) (payload : Bytes) (checkOk : Bool) (s : State) : exec (.felleyStreamFrame stream seq first last payload checkOk) s = execFelleyStreamFrame stream seq first last payload checkOk s := rfl
@[simp] theorem exec_felleyFrameInfo (stream : Fin 16) (info : Bytes) (s : State) : exec (.felleyFrameInfo stream info) s = execFelleyFrameInfo stream info s := rfl
@[simp] theorem exec_felleyTimeMarker (sent partnerReceived partnerSent received : BitVec 96) (s : State) : exec (.felleyTimeMarker sent partnerReceived partnerSent received) s = execFelleyTimeMarker sent partnerReceived partnerSent received s := rfl
@[simp] theorem exec_upstreamManifestTimeout (ctx : Fin 16) (s : State) : exec (.upstreamManifestTimeout ctx) s = execUpstreamManifestTimeout ctx s := rfl
@[simp] theorem exec_felleyCalibrate (by_ : Writer) (s : State) : exec (.felleyCalibrate by_) s = execFelleyCalibrate by_ s := rfl
@[simp] theorem exec_felleyCalibrationDone (s : State) : exec (.felleyCalibrationDone) s = execFelleyCalibrationDone s := rfl
@[simp] theorem exec_felleyRestart (by_ : Writer) (s : State) : exec (.felleyRestart by_) s = execFelleyRestart by_ s := rfl
@[simp] theorem exec_selfTestReplica (system : Bool) (s : State) : exec (.selfTestReplica system) s = execSelfTestReplica system s := rfl
@[simp] theorem exec_selfTestTroupe (troupe : Fin 24) (s : State) : exec (.selfTestTroupe troupe) s = execSelfTestTroupe troupe s := rfl
@[simp] theorem exec_selfTestRfe (rfe : Fin 8) (s : State) : exec (.selfTestRfe rfe) s = execSelfTestRfe rfe s := rfl
@[simp] theorem exec_selfTestFuse (s : State) : exec (.selfTestFuse) s = execSelfTestFuse s := rfl
@[simp] theorem exec_selfTestMram (s : State) : exec (.selfTestMram) s = execSelfTestMram s := rfl
@[simp] theorem exec_selfTestSensors (s : State) : exec (.selfTestSensors) s = execSelfTestSensors s := rfl
@[simp] theorem exec_selfTestLoopback (quad : Fin 8) (s : State) : exec (.selfTestLoopback quad) s = execSelfTestLoopback quad s := rfl
@[simp] theorem exec_selfTestDone (passed : Bool) (detail : BitVec 32) (s : State) : exec (.selfTestDone passed detail) s = execSelfTestDone passed detail s := rfl
@[simp] theorem exec_eventLogWrite (s : State) : exec (.eventLogWrite) s = execEventLogWrite s := rfl
@[simp] theorem exec_eventRecordRead (by_ : Writer) (many : Bool) (s : State) : exec (.eventRecordRead by_ many) s = execEventRecordRead by_ many s := rfl
@[simp] theorem exec_eventCursorWrite (by_ : Writer) (cursor : BitVec 32) (s : State) : exec (.eventCursorWrite by_ cursor) s = execEventCursorWrite by_ cursor s := rfl
@[simp] theorem exec_eventAcknowledge (by_ : Writer) (s : State) : exec (.eventAcknowledge by_) s = execEventAcknowledge by_ s := rfl
@[simp] theorem exec_eventErase (by_ : Writer) (s : State) : exec (.eventErase by_) s = execEventErase by_ s := rfl
@[simp] theorem exec_interruptPendingRead (by_ : Writer) (which : Fin 4) (s : State) : exec (.interruptPendingRead by_ which) s = execInterruptPendingRead by_ which s := rfl
@[simp] theorem exec_resetNRise (boot : BootInputs) (s : State) : exec (.resetNRise boot) s = execResetNRise boot s := rfl
@[simp] theorem exec_warmResetComplete (s : State) : exec (.warmResetComplete) s = execWarmResetComplete s := rfl
@[simp] theorem exec_domainResetComplete (domain : Fin 35) (s : State) : exec (.domainResetComplete domain) s = execDomainResetComplete domain s := rfl
@[simp] theorem exec_overvoltageEpisodeStart (vin : BitVec 16) (s : State) : exec (.overvoltageEpisodeStart vin) s = execOvervoltageEpisodeStart vin s := rfl
@[simp] theorem exec_railOutOfRegulation (s : State) : exec (.railOutOfRegulation) s = execRailOutOfRegulation s := rfl
@[simp] theorem exec_referenceRestored (reference : Fin 16) (s : State) : exec (.referenceRestored reference) s = execReferenceRestored reference s := rfl
@[simp] theorem exec_driveLinkDown (drive : Fin 4) (s : State) : exec (.driveLinkDown drive) s = execDriveLinkDown drive s := rfl
@[simp] theorem exec_dhcpv4Lease (address : Option (BitVec 32)) (s : State) : exec (.dhcpv4Lease address) s = execDhcpv4Lease address s := rfl
@[simp] theorem exec_endpointLinkUp (s : State) : exec (.endpointLinkUp) s = execEndpointLinkUp s := rfl
@[simp] theorem exec_edpBacklightOn (port : Fin 2) (s : State) : exec (.edpBacklightOn port) s = execEdpBacklightOn port s := rfl

end Sys2Proof.Machine
end

