-- ==== Sys2Proof/Laws/State.lean ====
section
/-!
SUPPORT. Sys2Proof/Laws/State.lean: what each update of the working state leaves alone, one lemma per field, so that no proof unfolds a
record update. An update of a numbered set is the record update of one field, and needs none of its own.
-/

namespace Sys2Proof.Machine

/-! ## `Sys.wr` -/

@[simp] theorem Sys.wr_blobs (y : Sys) (k v : Nat) : (y.wr k v).blobs = y.blobs := rfl
@[simp] theorem Sys.wr_t96 (y : Sys) (k v : Nat) : (y.wr k v).t96 = y.t96 := rfl
@[simp] theorem Sys.wr_up (y : Sys) (k v : Nat) : (y.wr k v).up = y.up := rfl
@[simp] theorem Sys.wr_seed (y : Sys) (k v : Nat) : (y.wr k v).seed = y.seed := rfl
@[simp] theorem Sys.wr_tx (y : Sys) (k v : Nat) : (y.wr k v).tx = y.tx := rfl
@[simp] theorem Sys.wr_log (y : Sys) (k v : Nat) : (y.wr k v).log = y.log := rfl
@[simp] theorem Sys.wr_boot (y : Sys) (k v : Nat) : (y.wr k v).boot = y.boot := rfl
@[simp] theorem Sys.wr_sup (y : Sys) (k v : Nat) : (y.wr k v).sup = y.sup := rfl
@[simp] theorem Sys.wr_gov (y : Sys) (k v : Nat) : (y.wr k v).gov = y.gov := rfl
@[simp] theorem Sys.wr_den (y : Sys) (k v : Nat) : (y.wr k v).den = y.den := rfl
@[simp] theorem Sys.wr_sec (y : Sys) (k v : Nat) : (y.wr k v).sec = y.sec := rfl
@[simp] theorem Sys.wr_mram (y : Sys) (k v : Nat) : (y.wr k v).mram = y.mram := rfl
@[simp] theorem Sys.wr_frames (y : Sys) (k v : Nat) : (y.wr k v).frames = y.frames := rfl
@[simp] theorem Sys.wr_ctxs (y : Sys) (k v : Nat) : (y.wr k v).ctxs = y.ctxs := rfl
@[simp] theorem Sys.wr_igs (y : Sys) (k v : Nat) : (y.wr k v).igs = y.igs := rfl
@[simp] theorem Sys.wr_ports (y : Sys) (k v : Nat) : (y.wr k v).ports = y.ports := rfl
@[simp] theorem Sys.wr_troupes (y : Sys) (k v : Nat) : (y.wr k v).troupes = y.troupes := rfl
@[simp] theorem Sys.wr_rfes (y : Sys) (k v : Nat) : (y.wr k v).rfes = y.rfes := rfl
@[simp] theorem Sys.wr_stores (y : Sys) (k v : Nat) : (y.wr k v).stores = y.stores := rfl
@[simp] theorem Sys.wr_holds (y : Sys) (k v : Nat) : (y.wr k v).holds = y.holds := rfl
@[simp] theorem Sys.wr_engines (y : Sys) (k v : Nat) : (y.wr k v).engines = y.engines := rfl
@[simp] theorem Sys.wr_resident (y : Sys) (k v : Nat) : (y.wr k v).resident = y.resident := rfl
@[simp] theorem Sys.wr_tables (y : Sys) (k v : Nat) : (y.wr k v).tables = y.tables := rfl
@[simp] theorem Sys.wr_pages (y : Sys) (k v : Nat) : (y.wr k v).pages = y.pages := rfl
@[simp] theorem Sys.wr_channels (y : Sys) (k v : Nat) : (y.wr k v).channels = y.channels := rfl
@[simp] theorem Sys.wr_sdis (y : Sys) (k v : Nat) : (y.wr k v).sdis = y.sdis := rfl
@[simp] theorem Sys.wr_edps (y : Sys) (k v : Nat) : (y.wr k v).edps = y.edps := rfl
@[simp] theorem Sys.wr_pathsDown (y : Sys) (k v : Nat) : (y.wr k v).pathsDown = y.pathsDown := rfl
@[simp] theorem Sys.wr_links (y : Sys) (k v : Nat) : (y.wr k v).links = y.links := rfl
@[simp] theorem Sys.wr_lanes (y : Sys) (k v : Nat) : (y.wr k v).lanes = y.lanes := rfl
@[simp] theorem Sys.wr_mailboxes (y : Sys) (k v : Nat) : (y.wr k v).mailboxes = y.mailboxes := rfl
@[simp] theorem Sys.wr_power (y : Sys) (k v : Nat) : (y.wr k v).power = y.power := rfl
@[simp] theorem Sys.wr_dram (y : Sys) (k v : Nat) : (y.wr k v).dram = y.dram := rfl
@[simp] theorem Sys.wr_mem (y : Sys) (k v : Nat) : (y.wr k v).mem = y.mem := rfl
@[simp] theorem Sys.wr_media (y : Sys) (k v : Nat) : (y.wr k v).media = y.media := rfl
@[simp] theorem Sys.wr_rings (y : Sys) (k v : Nat) : (y.wr k v).rings = y.rings := rfl
@[simp] theorem Sys.wr_zcs (y : Sys) (k v : Nat) : (y.wr k v).zcs = y.zcs := rfl
@[simp] theorem Sys.wr_positions (y : Sys) (k v : Nat) : (y.wr k v).positions = y.positions := rfl
@[simp] theorem Sys.wr_time (y : Sys) (k v : Nat) : (y.wr k v).time = y.time := rfl
@[simp] theorem Sys.wr_ptp (y : Sys) (k v : Nat) : (y.wr k v).ptp = y.ptp := rfl
@[simp] theorem Sys.wr_tios (y : Sys) (k v : Nat) : (y.wr k v).tios = y.tios := rfl
@[simp] theorem Sys.wr_twin (y : Sys) (k v : Nat) : (y.wr k v).twin = y.twin := rfl
@[simp] theorem Sys.wr_thermal (y : Sys) (k v : Nat) : (y.wr k v).thermal = y.thermal := rfl
@[simp] theorem Sys.wr_launches (y : Sys) (k v : Nat) : (y.wr k v).launches = y.launches := rfl
@[simp] theorem Sys.wr_audioIn (y : Sys) (k v : Nat) : (y.wr k v).audioIn = y.audioIn := rfl
@[simp] theorem Sys.wr_audioOut (y : Sys) (k v : Nat) : (y.wr k v).audioOut = y.audioOut := rfl
@[simp] theorem Sys.wr_felley (y : Sys) (k v : Nat) : (y.wr k v).felley = y.felley := rfl
@[simp] theorem Sys.wr_encs (y : Sys) (k v : Nat) : (y.wr k v).encs = y.encs := rfl
@[simp] theorem Sys.wr_decs (y : Sys) (k v : Nat) : (y.wr k v).decs = y.decs := rfl
@[simp] theorem Sys.wr_cores (y : Sys) (k v : Nat) : (y.wr k v).cores = y.cores := rfl
@[simp] theorem Sys.wr_turn (y : Sys) (k v : Nat) : (y.wr k v).turn = y.turn := rfl

/-! ## `Sys.wrB` -/

@[simp] theorem Sys.wrB_dict (y : Sys) (k : Nat) (v : Bytes) : (y.wrB k v).dict = y.dict := rfl
@[simp] theorem Sys.wrB_t96 (y : Sys) (k : Nat) (v : Bytes) : (y.wrB k v).t96 = y.t96 := rfl
@[simp] theorem Sys.wrB_up (y : Sys) (k : Nat) (v : Bytes) : (y.wrB k v).up = y.up := rfl
@[simp] theorem Sys.wrB_seed (y : Sys) (k : Nat) (v : Bytes) : (y.wrB k v).seed = y.seed := rfl
@[simp] theorem Sys.wrB_tx (y : Sys) (k : Nat) (v : Bytes) : (y.wrB k v).tx = y.tx := rfl
@[simp] theorem Sys.wrB_log (y : Sys) (k : Nat) (v : Bytes) : (y.wrB k v).log = y.log := rfl
@[simp] theorem Sys.wrB_boot (y : Sys) (k : Nat) (v : Bytes) : (y.wrB k v).boot = y.boot := rfl
@[simp] theorem Sys.wrB_sup (y : Sys) (k : Nat) (v : Bytes) : (y.wrB k v).sup = y.sup := rfl
@[simp] theorem Sys.wrB_gov (y : Sys) (k : Nat) (v : Bytes) : (y.wrB k v).gov = y.gov := rfl
@[simp] theorem Sys.wrB_den (y : Sys) (k : Nat) (v : Bytes) : (y.wrB k v).den = y.den := rfl
@[simp] theorem Sys.wrB_sec (y : Sys) (k : Nat) (v : Bytes) : (y.wrB k v).sec = y.sec := rfl
@[simp] theorem Sys.wrB_mram (y : Sys) (k : Nat) (v : Bytes) : (y.wrB k v).mram = y.mram := rfl
@[simp] theorem Sys.wrB_frames (y : Sys) (k : Nat) (v : Bytes) : (y.wrB k v).frames = y.frames := rfl
@[simp] theorem Sys.wrB_ctxs (y : Sys) (k : Nat) (v : Bytes) : (y.wrB k v).ctxs = y.ctxs := rfl
@[simp] theorem Sys.wrB_igs (y : Sys) (k : Nat) (v : Bytes) : (y.wrB k v).igs = y.igs := rfl
@[simp] theorem Sys.wrB_ports (y : Sys) (k : Nat) (v : Bytes) : (y.wrB k v).ports = y.ports := rfl
@[simp] theorem Sys.wrB_troupes (y : Sys) (k : Nat) (v : Bytes) : (y.wrB k v).troupes = y.troupes := rfl
@[simp] theorem Sys.wrB_rfes (y : Sys) (k : Nat) (v : Bytes) : (y.wrB k v).rfes = y.rfes := rfl
@[simp] theorem Sys.wrB_stores (y : Sys) (k : Nat) (v : Bytes) : (y.wrB k v).stores = y.stores := rfl
@[simp] theorem Sys.wrB_holds (y : Sys) (k : Nat) (v : Bytes) : (y.wrB k v).holds = y.holds := rfl
@[simp] theorem Sys.wrB_engines (y : Sys) (k : Nat) (v : Bytes) : (y.wrB k v).engines = y.engines := rfl
@[simp] theorem Sys.wrB_resident (y : Sys) (k : Nat) (v : Bytes) : (y.wrB k v).resident = y.resident := rfl
@[simp] theorem Sys.wrB_tables (y : Sys) (k : Nat) (v : Bytes) : (y.wrB k v).tables = y.tables := rfl
@[simp] theorem Sys.wrB_pages (y : Sys) (k : Nat) (v : Bytes) : (y.wrB k v).pages = y.pages := rfl
@[simp] theorem Sys.wrB_channels (y : Sys) (k : Nat) (v : Bytes) : (y.wrB k v).channels = y.channels := rfl
@[simp] theorem Sys.wrB_sdis (y : Sys) (k : Nat) (v : Bytes) : (y.wrB k v).sdis = y.sdis := rfl
@[simp] theorem Sys.wrB_edps (y : Sys) (k : Nat) (v : Bytes) : (y.wrB k v).edps = y.edps := rfl
@[simp] theorem Sys.wrB_pathsDown (y : Sys) (k : Nat) (v : Bytes) : (y.wrB k v).pathsDown = y.pathsDown := rfl
@[simp] theorem Sys.wrB_links (y : Sys) (k : Nat) (v : Bytes) : (y.wrB k v).links = y.links := rfl
@[simp] theorem Sys.wrB_lanes (y : Sys) (k : Nat) (v : Bytes) : (y.wrB k v).lanes = y.lanes := rfl
@[simp] theorem Sys.wrB_mailboxes (y : Sys) (k : Nat) (v : Bytes) : (y.wrB k v).mailboxes = y.mailboxes := rfl
@[simp] theorem Sys.wrB_power (y : Sys) (k : Nat) (v : Bytes) : (y.wrB k v).power = y.power := rfl
@[simp] theorem Sys.wrB_dram (y : Sys) (k : Nat) (v : Bytes) : (y.wrB k v).dram = y.dram := rfl
@[simp] theorem Sys.wrB_mem (y : Sys) (k : Nat) (v : Bytes) : (y.wrB k v).mem = y.mem := rfl
@[simp] theorem Sys.wrB_media (y : Sys) (k : Nat) (v : Bytes) : (y.wrB k v).media = y.media := rfl
@[simp] theorem Sys.wrB_rings (y : Sys) (k : Nat) (v : Bytes) : (y.wrB k v).rings = y.rings := rfl
@[simp] theorem Sys.wrB_zcs (y : Sys) (k : Nat) (v : Bytes) : (y.wrB k v).zcs = y.zcs := rfl
@[simp] theorem Sys.wrB_positions (y : Sys) (k : Nat) (v : Bytes) : (y.wrB k v).positions = y.positions := rfl
@[simp] theorem Sys.wrB_time (y : Sys) (k : Nat) (v : Bytes) : (y.wrB k v).time = y.time := rfl
@[simp] theorem Sys.wrB_ptp (y : Sys) (k : Nat) (v : Bytes) : (y.wrB k v).ptp = y.ptp := rfl
@[simp] theorem Sys.wrB_tios (y : Sys) (k : Nat) (v : Bytes) : (y.wrB k v).tios = y.tios := rfl
@[simp] theorem Sys.wrB_twin (y : Sys) (k : Nat) (v : Bytes) : (y.wrB k v).twin = y.twin := rfl
@[simp] theorem Sys.wrB_thermal (y : Sys) (k : Nat) (v : Bytes) : (y.wrB k v).thermal = y.thermal := rfl
@[simp] theorem Sys.wrB_launches (y : Sys) (k : Nat) (v : Bytes) : (y.wrB k v).launches = y.launches := rfl
@[simp] theorem Sys.wrB_audioIn (y : Sys) (k : Nat) (v : Bytes) : (y.wrB k v).audioIn = y.audioIn := rfl
@[simp] theorem Sys.wrB_audioOut (y : Sys) (k : Nat) (v : Bytes) : (y.wrB k v).audioOut = y.audioOut := rfl
@[simp] theorem Sys.wrB_felley (y : Sys) (k : Nat) (v : Bytes) : (y.wrB k v).felley = y.felley := rfl
@[simp] theorem Sys.wrB_encs (y : Sys) (k : Nat) (v : Bytes) : (y.wrB k v).encs = y.encs := rfl
@[simp] theorem Sys.wrB_decs (y : Sys) (k : Nat) (v : Bytes) : (y.wrB k v).decs = y.decs := rfl
@[simp] theorem Sys.wrB_cores (y : Sys) (k : Nat) (v : Bytes) : (y.wrB k v).cores = y.cores := rfl
@[simp] theorem Sys.wrB_turn (y : Sys) (k : Nat) (v : Bytes) : (y.wrB k v).turn = y.turn := rfl

/-! ## `Sys.send` -/

@[simp] theorem Sys.send_dict (y : Sys) (m : Tx) : (y.send m).dict = y.dict := rfl
@[simp] theorem Sys.send_blobs (y : Sys) (m : Tx) : (y.send m).blobs = y.blobs := rfl
@[simp] theorem Sys.send_t96 (y : Sys) (m : Tx) : (y.send m).t96 = y.t96 := rfl
@[simp] theorem Sys.send_up (y : Sys) (m : Tx) : (y.send m).up = y.up := rfl
@[simp] theorem Sys.send_seed (y : Sys) (m : Tx) : (y.send m).seed = y.seed := rfl
@[simp] theorem Sys.send_log (y : Sys) (m : Tx) : (y.send m).log = y.log := rfl
@[simp] theorem Sys.send_boot (y : Sys) (m : Tx) : (y.send m).boot = y.boot := rfl
@[simp] theorem Sys.send_sup (y : Sys) (m : Tx) : (y.send m).sup = y.sup := rfl
@[simp] theorem Sys.send_gov (y : Sys) (m : Tx) : (y.send m).gov = y.gov := rfl
@[simp] theorem Sys.send_den (y : Sys) (m : Tx) : (y.send m).den = y.den := rfl
@[simp] theorem Sys.send_sec (y : Sys) (m : Tx) : (y.send m).sec = y.sec := rfl
@[simp] theorem Sys.send_mram (y : Sys) (m : Tx) : (y.send m).mram = y.mram := rfl
@[simp] theorem Sys.send_frames (y : Sys) (m : Tx) : (y.send m).frames = y.frames := rfl
@[simp] theorem Sys.send_ctxs (y : Sys) (m : Tx) : (y.send m).ctxs = y.ctxs := rfl
@[simp] theorem Sys.send_igs (y : Sys) (m : Tx) : (y.send m).igs = y.igs := rfl
@[simp] theorem Sys.send_ports (y : Sys) (m : Tx) : (y.send m).ports = y.ports := rfl
@[simp] theorem Sys.send_troupes (y : Sys) (m : Tx) : (y.send m).troupes = y.troupes := rfl
@[simp] theorem Sys.send_rfes (y : Sys) (m : Tx) : (y.send m).rfes = y.rfes := rfl
@[simp] theorem Sys.send_stores (y : Sys) (m : Tx) : (y.send m).stores = y.stores := rfl
@[simp] theorem Sys.send_holds (y : Sys) (m : Tx) : (y.send m).holds = y.holds := rfl
@[simp] theorem Sys.send_engines (y : Sys) (m : Tx) : (y.send m).engines = y.engines := rfl
@[simp] theorem Sys.send_resident (y : Sys) (m : Tx) : (y.send m).resident = y.resident := rfl
@[simp] theorem Sys.send_tables (y : Sys) (m : Tx) : (y.send m).tables = y.tables := rfl
@[simp] theorem Sys.send_pages (y : Sys) (m : Tx) : (y.send m).pages = y.pages := rfl
@[simp] theorem Sys.send_channels (y : Sys) (m : Tx) : (y.send m).channels = y.channels := rfl
@[simp] theorem Sys.send_sdis (y : Sys) (m : Tx) : (y.send m).sdis = y.sdis := rfl
@[simp] theorem Sys.send_edps (y : Sys) (m : Tx) : (y.send m).edps = y.edps := rfl
@[simp] theorem Sys.send_pathsDown (y : Sys) (m : Tx) : (y.send m).pathsDown = y.pathsDown := rfl
@[simp] theorem Sys.send_links (y : Sys) (m : Tx) : (y.send m).links = y.links := rfl
@[simp] theorem Sys.send_lanes (y : Sys) (m : Tx) : (y.send m).lanes = y.lanes := rfl
@[simp] theorem Sys.send_mailboxes (y : Sys) (m : Tx) : (y.send m).mailboxes = y.mailboxes := rfl
@[simp] theorem Sys.send_power (y : Sys) (m : Tx) : (y.send m).power = y.power := rfl
@[simp] theorem Sys.send_dram (y : Sys) (m : Tx) : (y.send m).dram = y.dram := rfl
@[simp] theorem Sys.send_mem (y : Sys) (m : Tx) : (y.send m).mem = y.mem := rfl
@[simp] theorem Sys.send_media (y : Sys) (m : Tx) : (y.send m).media = y.media := rfl
@[simp] theorem Sys.send_rings (y : Sys) (m : Tx) : (y.send m).rings = y.rings := rfl
@[simp] theorem Sys.send_zcs (y : Sys) (m : Tx) : (y.send m).zcs = y.zcs := rfl
@[simp] theorem Sys.send_positions (y : Sys) (m : Tx) : (y.send m).positions = y.positions := rfl
@[simp] theorem Sys.send_time (y : Sys) (m : Tx) : (y.send m).time = y.time := rfl
@[simp] theorem Sys.send_ptp (y : Sys) (m : Tx) : (y.send m).ptp = y.ptp := rfl
@[simp] theorem Sys.send_tios (y : Sys) (m : Tx) : (y.send m).tios = y.tios := rfl
@[simp] theorem Sys.send_twin (y : Sys) (m : Tx) : (y.send m).twin = y.twin := rfl
@[simp] theorem Sys.send_thermal (y : Sys) (m : Tx) : (y.send m).thermal = y.thermal := rfl
@[simp] theorem Sys.send_launches (y : Sys) (m : Tx) : (y.send m).launches = y.launches := rfl
@[simp] theorem Sys.send_audioIn (y : Sys) (m : Tx) : (y.send m).audioIn = y.audioIn := rfl
@[simp] theorem Sys.send_audioOut (y : Sys) (m : Tx) : (y.send m).audioOut = y.audioOut := rfl
@[simp] theorem Sys.send_felley (y : Sys) (m : Tx) : (y.send m).felley = y.felley := rfl
@[simp] theorem Sys.send_encs (y : Sys) (m : Tx) : (y.send m).encs = y.encs := rfl
@[simp] theorem Sys.send_decs (y : Sys) (m : Tx) : (y.send m).decs = y.decs := rfl
@[simp] theorem Sys.send_cores (y : Sys) (m : Tx) : (y.send m).cores = y.cores := rfl
@[simp] theorem Sys.send_turn (y : Sys) (m : Tx) : (y.send m).turn = y.turn := rfl

/-! ## `Sys.raiseSev` -/

@[simp] theorem Sys.raiseSev_dict (y : Sys) (sev code source : Nat) (data : Bytes) : (y.raiseSev sev code source data).dict = y.dict := by unfold Sys.raiseSev; split <;> rfl
@[simp] theorem Sys.raiseSev_blobs (y : Sys) (sev code source : Nat) (data : Bytes) : (y.raiseSev sev code source data).blobs = y.blobs := by unfold Sys.raiseSev; split <;> rfl
@[simp] theorem Sys.raiseSev_t96 (y : Sys) (sev code source : Nat) (data : Bytes) : (y.raiseSev sev code source data).t96 = y.t96 := by unfold Sys.raiseSev; split <;> rfl
@[simp] theorem Sys.raiseSev_up (y : Sys) (sev code source : Nat) (data : Bytes) : (y.raiseSev sev code source data).up = y.up := by unfold Sys.raiseSev; split <;> rfl
@[simp] theorem Sys.raiseSev_seed (y : Sys) (sev code source : Nat) (data : Bytes) : (y.raiseSev sev code source data).seed = y.seed := by unfold Sys.raiseSev; split <;> rfl
@[simp] theorem Sys.raiseSev_tx (y : Sys) (sev code source : Nat) (data : Bytes) : (y.raiseSev sev code source data).tx = y.tx := by unfold Sys.raiseSev; split <;> rfl
@[simp] theorem Sys.raiseSev_boot (y : Sys) (sev code source : Nat) (data : Bytes) : (y.raiseSev sev code source data).boot = y.boot := by unfold Sys.raiseSev; split <;> rfl
@[simp] theorem Sys.raiseSev_sup (y : Sys) (sev code source : Nat) (data : Bytes) : (y.raiseSev sev code source data).sup = y.sup := by unfold Sys.raiseSev; split <;> rfl
@[simp] theorem Sys.raiseSev_gov (y : Sys) (sev code source : Nat) (data : Bytes) : (y.raiseSev sev code source data).gov = y.gov := by unfold Sys.raiseSev; split <;> rfl
@[simp] theorem Sys.raiseSev_den (y : Sys) (sev code source : Nat) (data : Bytes) : (y.raiseSev sev code source data).den = y.den := by unfold Sys.raiseSev; split <;> rfl
@[simp] theorem Sys.raiseSev_sec (y : Sys) (sev code source : Nat) (data : Bytes) : (y.raiseSev sev code source data).sec = y.sec := by unfold Sys.raiseSev; split <;> rfl
@[simp] theorem Sys.raiseSev_mram (y : Sys) (sev code source : Nat) (data : Bytes) : (y.raiseSev sev code source data).mram = y.mram := by unfold Sys.raiseSev; split <;> rfl
@[simp] theorem Sys.raiseSev_frames (y : Sys) (sev code source : Nat) (data : Bytes) : (y.raiseSev sev code source data).frames = y.frames := by unfold Sys.raiseSev; split <;> rfl
@[simp] theorem Sys.raiseSev_ctxs (y : Sys) (sev code source : Nat) (data : Bytes) : (y.raiseSev sev code source data).ctxs = y.ctxs := by unfold Sys.raiseSev; split <;> rfl
@[simp] theorem Sys.raiseSev_igs (y : Sys) (sev code source : Nat) (data : Bytes) : (y.raiseSev sev code source data).igs = y.igs := by unfold Sys.raiseSev; split <;> rfl
@[simp] theorem Sys.raiseSev_ports (y : Sys) (sev code source : Nat) (data : Bytes) : (y.raiseSev sev code source data).ports = y.ports := by unfold Sys.raiseSev; split <;> rfl
@[simp] theorem Sys.raiseSev_troupes (y : Sys) (sev code source : Nat) (data : Bytes) : (y.raiseSev sev code source data).troupes = y.troupes := by unfold Sys.raiseSev; split <;> rfl
@[simp] theorem Sys.raiseSev_rfes (y : Sys) (sev code source : Nat) (data : Bytes) : (y.raiseSev sev code source data).rfes = y.rfes := by unfold Sys.raiseSev; split <;> rfl
@[simp] theorem Sys.raiseSev_stores (y : Sys) (sev code source : Nat) (data : Bytes) : (y.raiseSev sev code source data).stores = y.stores := by unfold Sys.raiseSev; split <;> rfl
@[simp] theorem Sys.raiseSev_holds (y : Sys) (sev code source : Nat) (data : Bytes) : (y.raiseSev sev code source data).holds = y.holds := by unfold Sys.raiseSev; split <;> rfl
@[simp] theorem Sys.raiseSev_engines (y : Sys) (sev code source : Nat) (data : Bytes) : (y.raiseSev sev code source data).engines = y.engines := by unfold Sys.raiseSev; split <;> rfl
@[simp] theorem Sys.raiseSev_resident (y : Sys) (sev code source : Nat) (data : Bytes) : (y.raiseSev sev code source data).resident = y.resident := by unfold Sys.raiseSev; split <;> rfl
@[simp] theorem Sys.raiseSev_tables (y : Sys) (sev code source : Nat) (data : Bytes) : (y.raiseSev sev code source data).tables = y.tables := by unfold Sys.raiseSev; split <;> rfl
@[simp] theorem Sys.raiseSev_pages (y : Sys) (sev code source : Nat) (data : Bytes) : (y.raiseSev sev code source data).pages = y.pages := by unfold Sys.raiseSev; split <;> rfl
@[simp] theorem Sys.raiseSev_channels (y : Sys) (sev code source : Nat) (data : Bytes) : (y.raiseSev sev code source data).channels = y.channels := by unfold Sys.raiseSev; split <;> rfl
@[simp] theorem Sys.raiseSev_sdis (y : Sys) (sev code source : Nat) (data : Bytes) : (y.raiseSev sev code source data).sdis = y.sdis := by unfold Sys.raiseSev; split <;> rfl
@[simp] theorem Sys.raiseSev_edps (y : Sys) (sev code source : Nat) (data : Bytes) : (y.raiseSev sev code source data).edps = y.edps := by unfold Sys.raiseSev; split <;> rfl
@[simp] theorem Sys.raiseSev_pathsDown (y : Sys) (sev code source : Nat) (data : Bytes) : (y.raiseSev sev code source data).pathsDown = y.pathsDown := by unfold Sys.raiseSev; split <;> rfl
@[simp] theorem Sys.raiseSev_links (y : Sys) (sev code source : Nat) (data : Bytes) : (y.raiseSev sev code source data).links = y.links := by unfold Sys.raiseSev; split <;> rfl
@[simp] theorem Sys.raiseSev_lanes (y : Sys) (sev code source : Nat) (data : Bytes) : (y.raiseSev sev code source data).lanes = y.lanes := by unfold Sys.raiseSev; split <;> rfl
@[simp] theorem Sys.raiseSev_mailboxes (y : Sys) (sev code source : Nat) (data : Bytes) : (y.raiseSev sev code source data).mailboxes = y.mailboxes := by unfold Sys.raiseSev; split <;> rfl
@[simp] theorem Sys.raiseSev_power (y : Sys) (sev code source : Nat) (data : Bytes) : (y.raiseSev sev code source data).power = y.power := by unfold Sys.raiseSev; split <;> rfl
@[simp] theorem Sys.raiseSev_dram (y : Sys) (sev code source : Nat) (data : Bytes) : (y.raiseSev sev code source data).dram = y.dram := by unfold Sys.raiseSev; split <;> rfl
@[simp] theorem Sys.raiseSev_mem (y : Sys) (sev code source : Nat) (data : Bytes) : (y.raiseSev sev code source data).mem = y.mem := by unfold Sys.raiseSev; split <;> rfl
@[simp] theorem Sys.raiseSev_media (y : Sys) (sev code source : Nat) (data : Bytes) : (y.raiseSev sev code source data).media = y.media := by unfold Sys.raiseSev; split <;> rfl
@[simp] theorem Sys.raiseSev_rings (y : Sys) (sev code source : Nat) (data : Bytes) : (y.raiseSev sev code source data).rings = y.rings := by unfold Sys.raiseSev; split <;> rfl
@[simp] theorem Sys.raiseSev_zcs (y : Sys) (sev code source : Nat) (data : Bytes) : (y.raiseSev sev code source data).zcs = y.zcs := by unfold Sys.raiseSev; split <;> rfl
@[simp] theorem Sys.raiseSev_positions (y : Sys) (sev code source : Nat) (data : Bytes) : (y.raiseSev sev code source data).positions = y.positions := by unfold Sys.raiseSev; split <;> rfl
@[simp] theorem Sys.raiseSev_time (y : Sys) (sev code source : Nat) (data : Bytes) : (y.raiseSev sev code source data).time = y.time := by unfold Sys.raiseSev; split <;> rfl
@[simp] theorem Sys.raiseSev_ptp (y : Sys) (sev code source : Nat) (data : Bytes) : (y.raiseSev sev code source data).ptp = y.ptp := by unfold Sys.raiseSev; split <;> rfl
@[simp] theorem Sys.raiseSev_tios (y : Sys) (sev code source : Nat) (data : Bytes) : (y.raiseSev sev code source data).tios = y.tios := by unfold Sys.raiseSev; split <;> rfl
@[simp] theorem Sys.raiseSev_twin (y : Sys) (sev code source : Nat) (data : Bytes) : (y.raiseSev sev code source data).twin = y.twin := by unfold Sys.raiseSev; split <;> rfl
@[simp] theorem Sys.raiseSev_thermal (y : Sys) (sev code source : Nat) (data : Bytes) : (y.raiseSev sev code source data).thermal = y.thermal := by unfold Sys.raiseSev; split <;> rfl
@[simp] theorem Sys.raiseSev_launches (y : Sys) (sev code source : Nat) (data : Bytes) : (y.raiseSev sev code source data).launches = y.launches := by unfold Sys.raiseSev; split <;> rfl
@[simp] theorem Sys.raiseSev_audioIn (y : Sys) (sev code source : Nat) (data : Bytes) : (y.raiseSev sev code source data).audioIn = y.audioIn := by unfold Sys.raiseSev; split <;> rfl
@[simp] theorem Sys.raiseSev_audioOut (y : Sys) (sev code source : Nat) (data : Bytes) : (y.raiseSev sev code source data).audioOut = y.audioOut := by unfold Sys.raiseSev; split <;> rfl
@[simp] theorem Sys.raiseSev_felley (y : Sys) (sev code source : Nat) (data : Bytes) : (y.raiseSev sev code source data).felley = y.felley := by unfold Sys.raiseSev; split <;> rfl
@[simp] theorem Sys.raiseSev_encs (y : Sys) (sev code source : Nat) (data : Bytes) : (y.raiseSev sev code source data).encs = y.encs := by unfold Sys.raiseSev; split <;> rfl
@[simp] theorem Sys.raiseSev_decs (y : Sys) (sev code source : Nat) (data : Bytes) : (y.raiseSev sev code source data).decs = y.decs := by unfold Sys.raiseSev; split <;> rfl
@[simp] theorem Sys.raiseSev_cores (y : Sys) (sev code source : Nat) (data : Bytes) : (y.raiseSev sev code source data).cores = y.cores := by unfold Sys.raiseSev; split <;> rfl
@[simp] theorem Sys.raiseSev_turn (y : Sys) (sev code source : Nat) (data : Bytes) : (y.raiseSev sev code source data).turn = y.turn := by unfold Sys.raiseSev; split <;> rfl

/-! ## `Sys.raise` -/

@[simp] theorem Sys.raise_dict (y : Sys) (code source : Nat) (data : Bytes) : (y.raise code source data).dict = y.dict := by simp only [Sys.raise, Sys.raiseSev_dict]
@[simp] theorem Sys.raise_blobs (y : Sys) (code source : Nat) (data : Bytes) : (y.raise code source data).blobs = y.blobs := by simp only [Sys.raise, Sys.raiseSev_blobs]
@[simp] theorem Sys.raise_t96 (y : Sys) (code source : Nat) (data : Bytes) : (y.raise code source data).t96 = y.t96 := by simp only [Sys.raise, Sys.raiseSev_t96]
@[simp] theorem Sys.raise_up (y : Sys) (code source : Nat) (data : Bytes) : (y.raise code source data).up = y.up := by simp only [Sys.raise, Sys.raiseSev_up]
@[simp] theorem Sys.raise_seed (y : Sys) (code source : Nat) (data : Bytes) : (y.raise code source data).seed = y.seed := by simp only [Sys.raise, Sys.raiseSev_seed]
@[simp] theorem Sys.raise_tx (y : Sys) (code source : Nat) (data : Bytes) : (y.raise code source data).tx = y.tx := by simp only [Sys.raise, Sys.raiseSev_tx]
@[simp] theorem Sys.raise_boot (y : Sys) (code source : Nat) (data : Bytes) : (y.raise code source data).boot = y.boot := by simp only [Sys.raise, Sys.raiseSev_boot]
@[simp] theorem Sys.raise_sup (y : Sys) (code source : Nat) (data : Bytes) : (y.raise code source data).sup = y.sup := by simp only [Sys.raise, Sys.raiseSev_sup]
@[simp] theorem Sys.raise_gov (y : Sys) (code source : Nat) (data : Bytes) : (y.raise code source data).gov = y.gov := by simp only [Sys.raise, Sys.raiseSev_gov]
@[simp] theorem Sys.raise_den (y : Sys) (code source : Nat) (data : Bytes) : (y.raise code source data).den = y.den := by simp only [Sys.raise, Sys.raiseSev_den]
@[simp] theorem Sys.raise_sec (y : Sys) (code source : Nat) (data : Bytes) : (y.raise code source data).sec = y.sec := by simp only [Sys.raise, Sys.raiseSev_sec]
@[simp] theorem Sys.raise_mram (y : Sys) (code source : Nat) (data : Bytes) : (y.raise code source data).mram = y.mram := by simp only [Sys.raise, Sys.raiseSev_mram]
@[simp] theorem Sys.raise_frames (y : Sys) (code source : Nat) (data : Bytes) : (y.raise code source data).frames = y.frames := by simp only [Sys.raise, Sys.raiseSev_frames]
@[simp] theorem Sys.raise_ctxs (y : Sys) (code source : Nat) (data : Bytes) : (y.raise code source data).ctxs = y.ctxs := by simp only [Sys.raise, Sys.raiseSev_ctxs]
@[simp] theorem Sys.raise_igs (y : Sys) (code source : Nat) (data : Bytes) : (y.raise code source data).igs = y.igs := by simp only [Sys.raise, Sys.raiseSev_igs]
@[simp] theorem Sys.raise_ports (y : Sys) (code source : Nat) (data : Bytes) : (y.raise code source data).ports = y.ports := by simp only [Sys.raise, Sys.raiseSev_ports]
@[simp] theorem Sys.raise_troupes (y : Sys) (code source : Nat) (data : Bytes) : (y.raise code source data).troupes = y.troupes := by simp only [Sys.raise, Sys.raiseSev_troupes]
@[simp] theorem Sys.raise_rfes (y : Sys) (code source : Nat) (data : Bytes) : (y.raise code source data).rfes = y.rfes := by simp only [Sys.raise, Sys.raiseSev_rfes]
@[simp] theorem Sys.raise_stores (y : Sys) (code source : Nat) (data : Bytes) : (y.raise code source data).stores = y.stores := by simp only [Sys.raise, Sys.raiseSev_stores]
@[simp] theorem Sys.raise_holds (y : Sys) (code source : Nat) (data : Bytes) : (y.raise code source data).holds = y.holds := by simp only [Sys.raise, Sys.raiseSev_holds]
@[simp] theorem Sys.raise_engines (y : Sys) (code source : Nat) (data : Bytes) : (y.raise code source data).engines = y.engines := by simp only [Sys.raise, Sys.raiseSev_engines]
@[simp] theorem Sys.raise_resident (y : Sys) (code source : Nat) (data : Bytes) : (y.raise code source data).resident = y.resident := by simp only [Sys.raise, Sys.raiseSev_resident]
@[simp] theorem Sys.raise_tables (y : Sys) (code source : Nat) (data : Bytes) : (y.raise code source data).tables = y.tables := by simp only [Sys.raise, Sys.raiseSev_tables]
@[simp] theorem Sys.raise_pages (y : Sys) (code source : Nat) (data : Bytes) : (y.raise code source data).pages = y.pages := by simp only [Sys.raise, Sys.raiseSev_pages]
@[simp] theorem Sys.raise_channels (y : Sys) (code source : Nat) (data : Bytes) : (y.raise code source data).channels = y.channels := by simp only [Sys.raise, Sys.raiseSev_channels]
@[simp] theorem Sys.raise_sdis (y : Sys) (code source : Nat) (data : Bytes) : (y.raise code source data).sdis = y.sdis := by simp only [Sys.raise, Sys.raiseSev_sdis]
@[simp] theorem Sys.raise_edps (y : Sys) (code source : Nat) (data : Bytes) : (y.raise code source data).edps = y.edps := by simp only [Sys.raise, Sys.raiseSev_edps]
@[simp] theorem Sys.raise_pathsDown (y : Sys) (code source : Nat) (data : Bytes) : (y.raise code source data).pathsDown = y.pathsDown := by simp only [Sys.raise, Sys.raiseSev_pathsDown]
@[simp] theorem Sys.raise_links (y : Sys) (code source : Nat) (data : Bytes) : (y.raise code source data).links = y.links := by simp only [Sys.raise, Sys.raiseSev_links]
@[simp] theorem Sys.raise_lanes (y : Sys) (code source : Nat) (data : Bytes) : (y.raise code source data).lanes = y.lanes := by simp only [Sys.raise, Sys.raiseSev_lanes]
@[simp] theorem Sys.raise_mailboxes (y : Sys) (code source : Nat) (data : Bytes) : (y.raise code source data).mailboxes = y.mailboxes := by simp only [Sys.raise, Sys.raiseSev_mailboxes]
@[simp] theorem Sys.raise_power (y : Sys) (code source : Nat) (data : Bytes) : (y.raise code source data).power = y.power := by simp only [Sys.raise, Sys.raiseSev_power]
@[simp] theorem Sys.raise_dram (y : Sys) (code source : Nat) (data : Bytes) : (y.raise code source data).dram = y.dram := by simp only [Sys.raise, Sys.raiseSev_dram]
@[simp] theorem Sys.raise_mem (y : Sys) (code source : Nat) (data : Bytes) : (y.raise code source data).mem = y.mem := by simp only [Sys.raise, Sys.raiseSev_mem]
@[simp] theorem Sys.raise_media (y : Sys) (code source : Nat) (data : Bytes) : (y.raise code source data).media = y.media := by simp only [Sys.raise, Sys.raiseSev_media]
@[simp] theorem Sys.raise_rings (y : Sys) (code source : Nat) (data : Bytes) : (y.raise code source data).rings = y.rings := by simp only [Sys.raise, Sys.raiseSev_rings]
@[simp] theorem Sys.raise_zcs (y : Sys) (code source : Nat) (data : Bytes) : (y.raise code source data).zcs = y.zcs := by simp only [Sys.raise, Sys.raiseSev_zcs]
@[simp] theorem Sys.raise_positions (y : Sys) (code source : Nat) (data : Bytes) : (y.raise code source data).positions = y.positions := by simp only [Sys.raise, Sys.raiseSev_positions]
@[simp] theorem Sys.raise_time (y : Sys) (code source : Nat) (data : Bytes) : (y.raise code source data).time = y.time := by simp only [Sys.raise, Sys.raiseSev_time]
@[simp] theorem Sys.raise_ptp (y : Sys) (code source : Nat) (data : Bytes) : (y.raise code source data).ptp = y.ptp := by simp only [Sys.raise, Sys.raiseSev_ptp]
@[simp] theorem Sys.raise_tios (y : Sys) (code source : Nat) (data : Bytes) : (y.raise code source data).tios = y.tios := by simp only [Sys.raise, Sys.raiseSev_tios]
@[simp] theorem Sys.raise_twin (y : Sys) (code source : Nat) (data : Bytes) : (y.raise code source data).twin = y.twin := by simp only [Sys.raise, Sys.raiseSev_twin]
@[simp] theorem Sys.raise_thermal (y : Sys) (code source : Nat) (data : Bytes) : (y.raise code source data).thermal = y.thermal := by simp only [Sys.raise, Sys.raiseSev_thermal]
@[simp] theorem Sys.raise_launches (y : Sys) (code source : Nat) (data : Bytes) : (y.raise code source data).launches = y.launches := by simp only [Sys.raise, Sys.raiseSev_launches]
@[simp] theorem Sys.raise_audioIn (y : Sys) (code source : Nat) (data : Bytes) : (y.raise code source data).audioIn = y.audioIn := by simp only [Sys.raise, Sys.raiseSev_audioIn]
@[simp] theorem Sys.raise_audioOut (y : Sys) (code source : Nat) (data : Bytes) : (y.raise code source data).audioOut = y.audioOut := by simp only [Sys.raise, Sys.raiseSev_audioOut]
@[simp] theorem Sys.raise_felley (y : Sys) (code source : Nat) (data : Bytes) : (y.raise code source data).felley = y.felley := by simp only [Sys.raise, Sys.raiseSev_felley]
@[simp] theorem Sys.raise_encs (y : Sys) (code source : Nat) (data : Bytes) : (y.raise code source data).encs = y.encs := by simp only [Sys.raise, Sys.raiseSev_encs]
@[simp] theorem Sys.raise_decs (y : Sys) (code source : Nat) (data : Bytes) : (y.raise code source data).decs = y.decs := by simp only [Sys.raise, Sys.raiseSev_decs]
@[simp] theorem Sys.raise_cores (y : Sys) (code source : Nat) (data : Bytes) : (y.raise code source data).cores = y.cores := by simp only [Sys.raise, Sys.raiseSev_cores]
@[simp] theorem Sys.raise_turn (y : Sys) (code source : Nat) (data : Bytes) : (y.raise code source data).turn = y.turn := by simp only [Sys.raise, Sys.raiseSev_turn]

/-! ## `Sys.raiseLimited` -/

@[simp] theorem Sys.raiseLimited_dict (y : Sys) (key code source : Nat) (data : Bytes) : (y.raiseLimited key code source data).dict = y.dict := by unfold Sys.raiseLimited; split <;> simp
@[simp] theorem Sys.raiseLimited_blobs (y : Sys) (key code source : Nat) (data : Bytes) : (y.raiseLimited key code source data).blobs = y.blobs := by unfold Sys.raiseLimited; split <;> simp
@[simp] theorem Sys.raiseLimited_t96 (y : Sys) (key code source : Nat) (data : Bytes) : (y.raiseLimited key code source data).t96 = y.t96 := by unfold Sys.raiseLimited; split <;> simp
@[simp] theorem Sys.raiseLimited_up (y : Sys) (key code source : Nat) (data : Bytes) : (y.raiseLimited key code source data).up = y.up := by unfold Sys.raiseLimited; split <;> simp
@[simp] theorem Sys.raiseLimited_seed (y : Sys) (key code source : Nat) (data : Bytes) : (y.raiseLimited key code source data).seed = y.seed := by unfold Sys.raiseLimited; split <;> simp
@[simp] theorem Sys.raiseLimited_tx (y : Sys) (key code source : Nat) (data : Bytes) : (y.raiseLimited key code source data).tx = y.tx := by unfold Sys.raiseLimited; split <;> simp
@[simp] theorem Sys.raiseLimited_boot (y : Sys) (key code source : Nat) (data : Bytes) : (y.raiseLimited key code source data).boot = y.boot := by unfold Sys.raiseLimited; split <;> simp
@[simp] theorem Sys.raiseLimited_sup (y : Sys) (key code source : Nat) (data : Bytes) : (y.raiseLimited key code source data).sup = y.sup := by unfold Sys.raiseLimited; split <;> simp
@[simp] theorem Sys.raiseLimited_gov (y : Sys) (key code source : Nat) (data : Bytes) : (y.raiseLimited key code source data).gov = y.gov := by unfold Sys.raiseLimited; split <;> simp
@[simp] theorem Sys.raiseLimited_den (y : Sys) (key code source : Nat) (data : Bytes) : (y.raiseLimited key code source data).den = y.den := by unfold Sys.raiseLimited; split <;> simp
@[simp] theorem Sys.raiseLimited_sec (y : Sys) (key code source : Nat) (data : Bytes) : (y.raiseLimited key code source data).sec = y.sec := by unfold Sys.raiseLimited; split <;> simp
@[simp] theorem Sys.raiseLimited_mram (y : Sys) (key code source : Nat) (data : Bytes) : (y.raiseLimited key code source data).mram = y.mram := by unfold Sys.raiseLimited; split <;> simp
@[simp] theorem Sys.raiseLimited_frames (y : Sys) (key code source : Nat) (data : Bytes) : (y.raiseLimited key code source data).frames = y.frames := by unfold Sys.raiseLimited; split <;> simp
@[simp] theorem Sys.raiseLimited_ctxs (y : Sys) (key code source : Nat) (data : Bytes) : (y.raiseLimited key code source data).ctxs = y.ctxs := by unfold Sys.raiseLimited; split <;> simp
@[simp] theorem Sys.raiseLimited_igs (y : Sys) (key code source : Nat) (data : Bytes) : (y.raiseLimited key code source data).igs = y.igs := by unfold Sys.raiseLimited; split <;> simp
@[simp] theorem Sys.raiseLimited_ports (y : Sys) (key code source : Nat) (data : Bytes) : (y.raiseLimited key code source data).ports = y.ports := by unfold Sys.raiseLimited; split <;> simp
@[simp] theorem Sys.raiseLimited_troupes (y : Sys) (key code source : Nat) (data : Bytes) : (y.raiseLimited key code source data).troupes = y.troupes := by unfold Sys.raiseLimited; split <;> simp
@[simp] theorem Sys.raiseLimited_rfes (y : Sys) (key code source : Nat) (data : Bytes) : (y.raiseLimited key code source data).rfes = y.rfes := by unfold Sys.raiseLimited; split <;> simp
@[simp] theorem Sys.raiseLimited_stores (y : Sys) (key code source : Nat) (data : Bytes) : (y.raiseLimited key code source data).stores = y.stores := by unfold Sys.raiseLimited; split <;> simp
@[simp] theorem Sys.raiseLimited_holds (y : Sys) (key code source : Nat) (data : Bytes) : (y.raiseLimited key code source data).holds = y.holds := by unfold Sys.raiseLimited; split <;> simp
@[simp] theorem Sys.raiseLimited_engines (y : Sys) (key code source : Nat) (data : Bytes) : (y.raiseLimited key code source data).engines = y.engines := by unfold Sys.raiseLimited; split <;> simp
@[simp] theorem Sys.raiseLimited_resident (y : Sys) (key code source : Nat) (data : Bytes) : (y.raiseLimited key code source data).resident = y.resident := by unfold Sys.raiseLimited; split <;> simp
@[simp] theorem Sys.raiseLimited_tables (y : Sys) (key code source : Nat) (data : Bytes) : (y.raiseLimited key code source data).tables = y.tables := by unfold Sys.raiseLimited; split <;> simp
@[simp] theorem Sys.raiseLimited_pages (y : Sys) (key code source : Nat) (data : Bytes) : (y.raiseLimited key code source data).pages = y.pages := by unfold Sys.raiseLimited; split <;> simp
@[simp] theorem Sys.raiseLimited_channels (y : Sys) (key code source : Nat) (data : Bytes) : (y.raiseLimited key code source data).channels = y.channels := by unfold Sys.raiseLimited; split <;> simp
@[simp] theorem Sys.raiseLimited_sdis (y : Sys) (key code source : Nat) (data : Bytes) : (y.raiseLimited key code source data).sdis = y.sdis := by unfold Sys.raiseLimited; split <;> simp
@[simp] theorem Sys.raiseLimited_edps (y : Sys) (key code source : Nat) (data : Bytes) : (y.raiseLimited key code source data).edps = y.edps := by unfold Sys.raiseLimited; split <;> simp
@[simp] theorem Sys.raiseLimited_pathsDown (y : Sys) (key code source : Nat) (data : Bytes) : (y.raiseLimited key code source data).pathsDown = y.pathsDown := by unfold Sys.raiseLimited; split <;> simp
@[simp] theorem Sys.raiseLimited_links (y : Sys) (key code source : Nat) (data : Bytes) : (y.raiseLimited key code source data).links = y.links := by unfold Sys.raiseLimited; split <;> simp
@[simp] theorem Sys.raiseLimited_lanes (y : Sys) (key code source : Nat) (data : Bytes) : (y.raiseLimited key code source data).lanes = y.lanes := by unfold Sys.raiseLimited; split <;> simp
@[simp] theorem Sys.raiseLimited_mailboxes (y : Sys) (key code source : Nat) (data : Bytes) : (y.raiseLimited key code source data).mailboxes = y.mailboxes := by unfold Sys.raiseLimited; split <;> simp
@[simp] theorem Sys.raiseLimited_power (y : Sys) (key code source : Nat) (data : Bytes) : (y.raiseLimited key code source data).power = y.power := by unfold Sys.raiseLimited; split <;> simp
@[simp] theorem Sys.raiseLimited_dram (y : Sys) (key code source : Nat) (data : Bytes) : (y.raiseLimited key code source data).dram = y.dram := by unfold Sys.raiseLimited; split <;> simp
@[simp] theorem Sys.raiseLimited_mem (y : Sys) (key code source : Nat) (data : Bytes) : (y.raiseLimited key code source data).mem = y.mem := by unfold Sys.raiseLimited; split <;> simp
@[simp] theorem Sys.raiseLimited_media (y : Sys) (key code source : Nat) (data : Bytes) : (y.raiseLimited key code source data).media = y.media := by unfold Sys.raiseLimited; split <;> simp
@[simp] theorem Sys.raiseLimited_rings (y : Sys) (key code source : Nat) (data : Bytes) : (y.raiseLimited key code source data).rings = y.rings := by unfold Sys.raiseLimited; split <;> simp
@[simp] theorem Sys.raiseLimited_zcs (y : Sys) (key code source : Nat) (data : Bytes) : (y.raiseLimited key code source data).zcs = y.zcs := by unfold Sys.raiseLimited; split <;> simp
@[simp] theorem Sys.raiseLimited_positions (y : Sys) (key code source : Nat) (data : Bytes) : (y.raiseLimited key code source data).positions = y.positions := by unfold Sys.raiseLimited; split <;> simp
@[simp] theorem Sys.raiseLimited_time (y : Sys) (key code source : Nat) (data : Bytes) : (y.raiseLimited key code source data).time = y.time := by unfold Sys.raiseLimited; split <;> simp
@[simp] theorem Sys.raiseLimited_ptp (y : Sys) (key code source : Nat) (data : Bytes) : (y.raiseLimited key code source data).ptp = y.ptp := by unfold Sys.raiseLimited; split <;> simp
@[simp] theorem Sys.raiseLimited_tios (y : Sys) (key code source : Nat) (data : Bytes) : (y.raiseLimited key code source data).tios = y.tios := by unfold Sys.raiseLimited; split <;> simp
@[simp] theorem Sys.raiseLimited_twin (y : Sys) (key code source : Nat) (data : Bytes) : (y.raiseLimited key code source data).twin = y.twin := by unfold Sys.raiseLimited; split <;> simp
@[simp] theorem Sys.raiseLimited_thermal (y : Sys) (key code source : Nat) (data : Bytes) : (y.raiseLimited key code source data).thermal = y.thermal := by unfold Sys.raiseLimited; split <;> simp
@[simp] theorem Sys.raiseLimited_launches (y : Sys) (key code source : Nat) (data : Bytes) : (y.raiseLimited key code source data).launches = y.launches := by unfold Sys.raiseLimited; split <;> simp
@[simp] theorem Sys.raiseLimited_audioIn (y : Sys) (key code source : Nat) (data : Bytes) : (y.raiseLimited key code source data).audioIn = y.audioIn := by unfold Sys.raiseLimited; split <;> simp
@[simp] theorem Sys.raiseLimited_audioOut (y : Sys) (key code source : Nat) (data : Bytes) : (y.raiseLimited key code source data).audioOut = y.audioOut := by unfold Sys.raiseLimited; split <;> simp
@[simp] theorem Sys.raiseLimited_felley (y : Sys) (key code source : Nat) (data : Bytes) : (y.raiseLimited key code source data).felley = y.felley := by unfold Sys.raiseLimited; split <;> simp
@[simp] theorem Sys.raiseLimited_encs (y : Sys) (key code source : Nat) (data : Bytes) : (y.raiseLimited key code source data).encs = y.encs := by unfold Sys.raiseLimited; split <;> simp
@[simp] theorem Sys.raiseLimited_decs (y : Sys) (key code source : Nat) (data : Bytes) : (y.raiseLimited key code source data).decs = y.decs := by unfold Sys.raiseLimited; split <;> simp
@[simp] theorem Sys.raiseLimited_cores (y : Sys) (key code source : Nat) (data : Bytes) : (y.raiseLimited key code source data).cores = y.cores := by unfold Sys.raiseLimited; split <;> simp
@[simp] theorem Sys.raiseLimited_turn (y : Sys) (key code source : Nat) (data : Bytes) : (y.raiseLimited key code source data).turn = y.turn := by unfold Sys.raiseLimited; split <;> simp

end Sys2Proof.Machine
end

