-- ==== Sys2Proof/Laws/Table.lean ====
section
/-!
SUPPORT. Sys2Proof/Laws/Table.lean: sparse tables: reading after writing, and that a write keeps the canonical form.
-/

namespace Sys2Proof.Machine

variable {β : Type}

theorem tget_terase (d : Nat → β) (m : List (Nat × β)) (k j : Nat) :
    tget d (terase k m) j = if j = k then d k else tget d m j := by
  induction m with
  | nil => simp only [terase, List.filter_nil, tget]; split <;> simp_all
  | cons p r ih =>
    obtain ⟨a, b⟩ := p
    simp only [terase] at ih ⊢
    by_cases h : a = k
    · subst h; simp only [List.filter, bne_self_eq_false, ih, tget]
      split <;> simp_all
    · have : (a != k) = true := by simpa using h
      simp only [List.filter, this, tget, ih]
      split <;> simp_all

theorem tget_tinsert (d : Nat → β) (m : List (Nat × β)) (k j : Nat) (v : β) (h : ∀ p ∈ m, p.1 ≠ k) :
    tget d (tinsert k v m) j = if j = k then v else tget d m j := by
  induction m with
  | nil => simp only [tinsert, tget]
  | cons p r ih =>
    obtain ⟨a, b⟩ := p
    have ha : a ≠ k := h (a, b) (by simp)
    have ih := ih (fun p hp => h p (by simp [hp]))
    simp only [tinsert]
    split
    · simp only [tget]
    · simp only [tget, ih]
      split <;> simp_all

/-- Reading a table after a write: the written value at its key, and elsewhere what was there. -/
@[simp] theorem tget_tset [DecidableEq β] (d : Nat → β) (m : List (Nat × β)) (k j : Nat) (v : β) :
    tget d (tset d m k v) j = if j = k then v else tget d m j := by
  unfold tset
  split
  · next h => rw [tget_terase]; simp [h]
  · rw [tget_tinsert, tget_terase]
    · split <;> simp_all
    · intro p hp; simpa using (List.mem_filter.1 hp).2

theorem twfFrom_mono [DecidableEq β] (d : Nat → β) (m : List (Nat × β)) (lo lo' : Nat) (h : lo' ≤ lo)
    (w : twfFrom d lo m = true) : twfFrom d lo' m = true := by
  cases m with
  | nil => rfl
  | cons p r => obtain ⟨a, b⟩ := p; simp only [twfFrom, Bool.and_eq_true, decide_eq_true_eq] at w ⊢; exact ⟨⟨by omega, w.1.2⟩, w.2⟩

theorem twfFrom_terase [DecidableEq β] (d : Nat → β) (k : Nat) (m : List (Nat × β)) (lo : Nat)
    (w : twfFrom d lo m = true) : twfFrom d lo (terase k m) = true := by
  induction m generalizing lo with
  | nil => rfl
  | cons p r ih =>
    obtain ⟨a, b⟩ := p
    simp only [twfFrom, Bool.and_eq_true, decide_eq_true_eq] at w
    simp only [terase, List.filter] at ih ⊢
    split
    · simp only [twfFrom, Bool.and_eq_true, decide_eq_true_eq]; exact ⟨w.1, ih _ w.2⟩
    · exact twfFrom_mono d _ (a + 1) lo (by omega) (ih _ w.2)

theorem twfFrom_tinsert [DecidableEq β] (d : Nat → β) (k : Nat) (v : β) (hv : v ≠ d k) (m : List (Nat × β)) (lo : Nat)
    (w : twfFrom d lo m = true) (hk : lo ≤ k) (h : ∀ p ∈ m, p.1 ≠ k) : twfFrom d lo (tinsert k v m) = true := by
  induction m generalizing lo with
  | nil => simp [tinsert, twfFrom, hk, hv]
  | cons p r ih =>
    obtain ⟨a, b⟩ := p
    have ha : a ≠ k := h (a, b) (by simp)
    simp only [twfFrom, Bool.and_eq_true, decide_eq_true_eq] at w
    simp only [tinsert]
    split
    · simp only [twfFrom, Bool.and_eq_true, decide_eq_true_eq]; exact ⟨⟨hk, hv⟩, ⟨by omega, w.1.2⟩, w.2⟩
    · simp only [twfFrom, Bool.and_eq_true, decide_eq_true_eq]
      exact ⟨w.1, ih (a + 1) w.2 (by omega) (fun p hp => h p (by simp [hp]))⟩

/-- A write keeps a table in its canonical form. -/
theorem twf_tset [DecidableEq β] (d : Nat → β) (m : List (Nat × β)) (k : Nat) (v : β) (w : twf d m = true) :
    twf d (tset d m k v) = true := by
  unfold twf at *
  unfold tset
  split
  · exact twfFrom_terase d k m 0 w
  · next hv =>
    refine twfFrom_tinsert d k v hv _ 0 (twfFrom_terase d k m 0 w) (by omega) ?_
    intro p hp; simpa using (List.mem_filter.1 hp).2

/-- Two tables canonical from `lo` that read alike from there on are one. -/
theorem twfFrom_ext [DecidableEq β] (d : Nat → β) (m n : List (Nat × β)) (lo : Nat) (wm : twfFrom d lo m = true)
    (wn : twfFrom d lo n = true) (h : ∀ j, lo ≤ j → tget d m j = tget d n j) : m = n := by
  have low : ∀ (r : List (Nat × β)) (lo j : Nat), twfFrom d lo r = true → j < lo → tget d r j = d j := by
    intro r
    induction r with
    | nil => intros; rfl
    | cons p r ih =>
      obtain ⟨a, b⟩ := p
      intro lo j w hj
      simp only [twfFrom, Bool.and_eq_true, decide_eq_true_eq] at w
      have : j ≠ a := by omega
      simp only [tget, this, if_false]
      exact ih (a + 1) j w.2 (by omega)
  induction m generalizing n lo with
  | nil =>
    cases n with
    | nil => rfl
    | cons q s =>
      obtain ⟨c, e⟩ := q
      simp only [twfFrom, Bool.and_eq_true, decide_eq_true_eq] at wn
      have := h c wn.1.1
      simp [tget] at this
      exact absurd this.symm wn.1.2
  | cons p r ih =>
    obtain ⟨a, b⟩ := p
    cases n with
    | nil =>
      simp only [twfFrom, Bool.and_eq_true, decide_eq_true_eq] at wm
      have := h a wm.1.1
      simp [tget] at this
      exact absurd this wm.1.2
    | cons q s =>
      obtain ⟨c, e⟩ := q
      simp only [twfFrom, Bool.and_eq_true, decide_eq_true_eq] at wm wn
      have hac : a = c := by
        rcases Nat.lt_trichotomy a c with hlt | heq | hgt
        · have h1 := h a wm.1.1
          have hne : a ≠ c := by omega
          simp only [tget, if_true, hne, if_false] at h1
          rw [low s (c + 1) a wn.2 (by omega)] at h1
          exact absurd h1 wm.1.2
        · exact heq
        · have h1 := h c wn.1.1
          have hne : c ≠ a := by omega
          simp only [tget, if_true, hne, if_false] at h1
          rw [low r (a + 1) c wm.2 (by omega)] at h1
          exact absurd h1.symm wn.1.2
      subst hac
      have hbe : b = e := by simpa [tget] using h a wm.1.1
      subst hbe
      have : r = s := ih s (a + 1) wm.2 wn.2 (by
        intro j hj
        have h1 := h j (by omega)
        have hne : j ≠ a := by omega
        simpa only [tget, hne, if_false] using h1)
      rw [this]

/-- Two tables in canonical form that read alike are equal: equal contents are equal data. -/
theorem twf_ext [DecidableEq β] (d : Nat → β) (m n : List (Nat × β)) (wm : twf d m = true) (wn : twf d n = true)
    (h : ∀ j, tget d m j = tget d n j) : m = n :=
  twfFrom_ext d m n 0 wm wn (fun j _ => h j)

end Sys2Proof.Machine
end

