-- ==== Sys2Proof/Laws/Ops.lean ====
section
/-!
SUPPORT. Sys2Proof/Laws/Ops.lean: the operations every meaning is built from: entries read back what was written, an event adds one record, and every
command is one lift, so that it answers a next state and leaves the queue alone.
-/

namespace Sys2Proof.Machine

/-! ## Entries -/

@[simp] theorem Sys.rd_wr (y : Sys) (k v j : Nat) : (y.wr k v).rd j = if j = k then v else y.rd j := by
  simp only [Sys.rd, Sys.wr, tget_tset]

@[simp] theorem Sys.rdB_wr (y : Sys) (k v j : Nat) : (y.wr k v).rdB j = y.rdB j := rfl

@[simp] theorem Sys.rdB_wrB (y : Sys) (k j : Nat) (v : Bytes) : (y.wrB k v).rdB j = if j = k then v else y.rdB j := by
  simp only [Sys.rdB, Sys.wrB, tget_tset]

@[simp] theorem Sys.rd_wrB (y : Sys) (k j : Nat) (v : Bytes) : (y.wrB k v).rd j = y.rd j := rfl

theorem Sys.rd_congr {a b : Sys} (h : a.dict = b.dict) (k : Nat) : a.rd k = b.rd k := by simp only [Sys.rd, h]

theorem Sys.rdB_congr {a b : Sys} (h : a.blobs = b.blobs) (k : Nat) : a.rdB k = b.rdB k := by simp only [Sys.rdB, h]

@[simp] theorem Sys.rd_send (y : Sys) (m : Tx) (k : Nat) : (y.send m).rd k = y.rd k := rfl
@[simp] theorem Sys.rdB_send (y : Sys) (m : Tx) (k : Nat) : (y.send m).rdB k = y.rdB k := rfl
@[simp] theorem Sys.tx_send (y : Sys) (m : Tx) : (y.send m).tx = y.tx ++ [m] := rfl

@[simp] theorem Sys.rd_raiseSev (y : Sys) (sev code source : Nat) (data : Bytes) (k : Nat) :
    (y.raiseSev sev code source data).rd k = y.rd k := Sys.rd_congr (by simp) k
@[simp] theorem Sys.rdB_raiseSev (y : Sys) (sev code source : Nat) (data : Bytes) (k : Nat) :
    (y.raiseSev sev code source data).rdB k = y.rdB k := Sys.rdB_congr (by simp) k
@[simp] theorem Sys.rd_raise (y : Sys) (code source : Nat) (data : Bytes) (k : Nat) :
    (y.raise code source data).rd k = y.rd k := Sys.rd_congr (by simp) k
@[simp] theorem Sys.rdB_raise (y : Sys) (code source : Nat) (data : Bytes) (k : Nat) :
    (y.raise code source data).rdB k = y.rdB k := Sys.rdB_congr (by simp) k

@[simp] theorem Sys.rd_raiseLimited (y : Sys) (key code source : Nat) (data : Bytes) (k : Nat) :
    (y.raiseLimited key code source data).rd k = y.rd k := Sys.rd_congr (by simp) k
@[simp] theorem Sys.rdB_raiseLimited (y : Sys) (key code source : Nat) (data : Bytes) (k : Nat) :
    (y.raiseLimited key code source data).rdB k = y.rdB k := Sys.rdB_congr (by simp) k

/-- With room in the buffer an event adds one record. -/
theorem Sys.log_raiseSev (y : Sys) (sev code source : Nat) (data : Bytes) (h : y.log.pending.length < 256) :
    (y.raiseSev sev code source data).log.pending = y.log.pending ++ [⟨y.t96, code, sev, source, data⟩] := by
  simp [Sys.raiseSev, h]

theorem Sys.log_raise (y : Sys) (code source : Nat) (data : Bytes) (h : y.log.pending.length < 256) :
    (y.raise code source data).log.pending = y.log.pending ++ [⟨y.t96, code, severity code, source, data⟩] :=
  Sys.log_raiseSev y _ code source data h

/-- An event found no room: the records that wait stay, and one more is counted as dropped (R753). -/
theorem Sys.log_raiseSev_full (y : Sys) (sev code source : Nat) (data : Bytes) (h : 256 ≤ y.log.pending.length) :
    (y.raiseSev sev code source data).log = { y.log with dropped := y.log.dropped + 1 } := by
  have : ¬ y.log.pending.length < 256 := by omega
  simp [Sys.raiseSev, this]

@[simp] theorem Sys.log_wr (y : Sys) (k v : Nat) : (y.wr k v).log = y.log := rfl

/-! ## Bits -/

@[simp] theorem testBit_putBit (n i j : Nat) (v : Bool) : (putBit n i v).testBit j = if j = i then v else n.testBit j := by
  unfold putBit setBit clrBit
  by_cases e : j = i
  · subst e; cases v
    · simp only [Bool.false_eq_true, if_false, if_true]; split <;> simp_all [Nat.testBit_xor]
    · simp [Nat.testBit_or]
  · simp only [e, if_false]
    split
    · simp [Nat.testBit_or, Ne.symm e]
    · split <;> simp [Nat.testBit_xor, Ne.symm e]

/-! ## Normal forms: bits, counters and signed entries are reads and writes of numbers -/

@[simp] theorem Sys.rdBit_eq (y : Sys) (k i : Nat) : y.rdBit k i = (y.rd k).testBit i := rfl
@[simp] theorem Sys.wrBit_eq (y : Sys) (k i : Nat) (v : Bool) : y.wrBit k i v = y.wr k (putBit (y.rd k) i v) := rfl
@[simp] theorem Sys.inc_eq (y : Sys) (k : Nat) : y.inc k = y.wr k ((y.rd k + 1) % 2 ^ 32) := rfl
@[simp] theorem Sys.incBy_eq (y : Sys) (k n : Nat) : y.incBy k n = y.wr k ((y.rd k + n) % 2 ^ 32) := rfl
@[simp] theorem Sys.inc64_eq (y : Sys) (k n : Nat) : y.inc64 k n = y.wr k ((y.rd k + n) % 2 ^ 64) := rfl
@[simp] theorem Sys.rdI_eq (y : Sys) (k : Nat) : y.rdI k = toI 32 (y.rd k) := rfl
@[simp] theorem Sys.wrI_eq (y : Sys) (k : Nat) (v : Int) : y.wrI k v = y.wr k (ofI 32 (satI32 v)) := rfl

/-! ## Lifts -/

@[simp] theorem run_eq (s : State) (f : Otp → Sys → List OtpOp × Sys) :
    run s f = .next { s with otp := s.otp.applyAll (f s.otp s.sys).1, sys := (f s.otp s.sys).2 } := rfl

@[simp] theorem onSys_eq (s : State) (f : Otp → Sys → Sys) : onSys s f = .next { s with sys := f s.otp s.sys } := rfl

set_option maxRecDepth 4000 in
/-- Every command answers a next state, keeps the queue, and changes the fuses by programmings alone. -/
theorem exec_next (c : Instr) (s : State) : ∃ l y, exec c s = .next { s with otp := s.otp.applyAll l, sys := y } := by
  cases c <;> exact ⟨_, _, rfl⟩

end Sys2Proof.Machine
end

