-- ==== Sys2Proof/Laws/Sets.lean ====
section
/-!
SUPPORT. Sys2Proof/Laws/Sets.lean: putting a numbered part of the working state, or one of its records: every entry and every other field stays, and
the field itself reads as put.
-/

namespace Sys2Proof.Machine

/-! ## `Sys.setAin` -/

@[simp] theorem Sys.rd_setAin (y : Sys) (n : Nat) (v : AudioIn) (k : Nat) : (y.setAin n v).rd k = y.rd k := rfl
@[simp] theorem Sys.rdB_setAin (y : Sys) (n : Nat) (v : AudioIn) (k : Nat) : (y.setAin n v).rdB k = y.rdB k := rfl
@[simp] theorem Sys.setAin_dict (y : Sys) (n : Nat) (v : AudioIn) : (y.setAin n v).dict = y.dict := rfl
@[simp] theorem Sys.setAin_blobs (y : Sys) (n : Nat) (v : AudioIn) : (y.setAin n v).blobs = y.blobs := rfl
@[simp] theorem Sys.setAin_t96 (y : Sys) (n : Nat) (v : AudioIn) : (y.setAin n v).t96 = y.t96 := rfl
@[simp] theorem Sys.setAin_up (y : Sys) (n : Nat) (v : AudioIn) : (y.setAin n v).up = y.up := rfl
@[simp] theorem Sys.setAin_seed (y : Sys) (n : Nat) (v : AudioIn) : (y.setAin n v).seed = y.seed := rfl
@[simp] theorem Sys.setAin_tx (y : Sys) (n : Nat) (v : AudioIn) : (y.setAin n v).tx = y.tx := rfl
@[simp] theorem Sys.setAin_log (y : Sys) (n : Nat) (v : AudioIn) : (y.setAin n v).log = y.log := rfl
@[simp] theorem Sys.setAin_boot (y : Sys) (n : Nat) (v : AudioIn) : (y.setAin n v).boot = y.boot := rfl
@[simp] theorem Sys.setAin_sup (y : Sys) (n : Nat) (v : AudioIn) : (y.setAin n v).sup = y.sup := rfl
@[simp] theorem Sys.setAin_gov (y : Sys) (n : Nat) (v : AudioIn) : (y.setAin n v).gov = y.gov := rfl
@[simp] theorem Sys.setAin_den (y : Sys) (n : Nat) (v : AudioIn) : (y.setAin n v).den = y.den := rfl
@[simp] theorem Sys.setAin_sec (y : Sys) (n : Nat) (v : AudioIn) : (y.setAin n v).sec = y.sec := rfl
@[simp] theorem Sys.setAin_mram (y : Sys) (n : Nat) (v : AudioIn) : (y.setAin n v).mram = y.mram := rfl
@[simp] theorem Sys.setAin_frames (y : Sys) (n : Nat) (v : AudioIn) : (y.setAin n v).frames = y.frames := rfl
@[simp] theorem Sys.setAin_ctxs (y : Sys) (n : Nat) (v : AudioIn) : (y.setAin n v).ctxs = y.ctxs := rfl
@[simp] theorem Sys.setAin_igs (y : Sys) (n : Nat) (v : AudioIn) : (y.setAin n v).igs = y.igs := rfl
@[simp] theorem Sys.setAin_ports (y : Sys) (n : Nat) (v : AudioIn) : (y.setAin n v).ports = y.ports := rfl
@[simp] theorem Sys.setAin_troupes (y : Sys) (n : Nat) (v : AudioIn) : (y.setAin n v).troupes = y.troupes := rfl
@[simp] theorem Sys.setAin_rfes (y : Sys) (n : Nat) (v : AudioIn) : (y.setAin n v).rfes = y.rfes := rfl
@[simp] theorem Sys.setAin_stores (y : Sys) (n : Nat) (v : AudioIn) : (y.setAin n v).stores = y.stores := rfl
@[simp] theorem Sys.setAin_holds (y : Sys) (n : Nat) (v : AudioIn) : (y.setAin n v).holds = y.holds := rfl
@[simp] theorem Sys.setAin_engines (y : Sys) (n : Nat) (v : AudioIn) : (y.setAin n v).engines = y.engines := rfl
@[simp] theorem Sys.setAin_resident (y : Sys) (n : Nat) (v : AudioIn) : (y.setAin n v).resident = y.resident := rfl
@[simp] theorem Sys.setAin_tables (y : Sys) (n : Nat) (v : AudioIn) : (y.setAin n v).tables = y.tables := rfl
@[simp] theorem Sys.setAin_pages (y : Sys) (n : Nat) (v : AudioIn) : (y.setAin n v).pages = y.pages := rfl
@[simp] theorem Sys.setAin_channels (y : Sys) (n : Nat) (v : AudioIn) : (y.setAin n v).channels = y.channels := rfl
@[simp] theorem Sys.setAin_sdis (y : Sys) (n : Nat) (v : AudioIn) : (y.setAin n v).sdis = y.sdis := rfl
@[simp] theorem Sys.setAin_edps (y : Sys) (n : Nat) (v : AudioIn) : (y.setAin n v).edps = y.edps := rfl
@[simp] theorem Sys.setAin_pathsDown (y : Sys) (n : Nat) (v : AudioIn) : (y.setAin n v).pathsDown = y.pathsDown := rfl
@[simp] theorem Sys.setAin_links (y : Sys) (n : Nat) (v : AudioIn) : (y.setAin n v).links = y.links := rfl
@[simp] theorem Sys.setAin_lanes (y : Sys) (n : Nat) (v : AudioIn) : (y.setAin n v).lanes = y.lanes := rfl
@[simp] theorem Sys.setAin_mailboxes (y : Sys) (n : Nat) (v : AudioIn) : (y.setAin n v).mailboxes = y.mailboxes := rfl
@[simp] theorem Sys.setAin_power (y : Sys) (n : Nat) (v : AudioIn) : (y.setAin n v).power = y.power := rfl
@[simp] theorem Sys.setAin_dram (y : Sys) (n : Nat) (v : AudioIn) : (y.setAin n v).dram = y.dram := rfl
@[simp] theorem Sys.setAin_mem (y : Sys) (n : Nat) (v : AudioIn) : (y.setAin n v).mem = y.mem := rfl
@[simp] theorem Sys.setAin_media (y : Sys) (n : Nat) (v : AudioIn) : (y.setAin n v).media = y.media := rfl
@[simp] theorem Sys.setAin_rings (y : Sys) (n : Nat) (v : AudioIn) : (y.setAin n v).rings = y.rings := rfl
@[simp] theorem Sys.setAin_zcs (y : Sys) (n : Nat) (v : AudioIn) : (y.setAin n v).zcs = y.zcs := rfl
@[simp] theorem Sys.setAin_positions (y : Sys) (n : Nat) (v : AudioIn) : (y.setAin n v).positions = y.positions := rfl
@[simp] theorem Sys.setAin_time (y : Sys) (n : Nat) (v : AudioIn) : (y.setAin n v).time = y.time := rfl
@[simp] theorem Sys.setAin_ptp (y : Sys) (n : Nat) (v : AudioIn) : (y.setAin n v).ptp = y.ptp := rfl
@[simp] theorem Sys.setAin_tios (y : Sys) (n : Nat) (v : AudioIn) : (y.setAin n v).tios = y.tios := rfl
@[simp] theorem Sys.setAin_twin (y : Sys) (n : Nat) (v : AudioIn) : (y.setAin n v).twin = y.twin := rfl
@[simp] theorem Sys.setAin_thermal (y : Sys) (n : Nat) (v : AudioIn) : (y.setAin n v).thermal = y.thermal := rfl
@[simp] theorem Sys.setAin_launches (y : Sys) (n : Nat) (v : AudioIn) : (y.setAin n v).launches = y.launches := rfl
@[simp] theorem Sys.setAin_audioOut (y : Sys) (n : Nat) (v : AudioIn) : (y.setAin n v).audioOut = y.audioOut := rfl
@[simp] theorem Sys.setAin_felley (y : Sys) (n : Nat) (v : AudioIn) : (y.setAin n v).felley = y.felley := rfl
@[simp] theorem Sys.setAin_encs (y : Sys) (n : Nat) (v : AudioIn) : (y.setAin n v).encs = y.encs := rfl
@[simp] theorem Sys.setAin_decs (y : Sys) (n : Nat) (v : AudioIn) : (y.setAin n v).decs = y.decs := rfl
@[simp] theorem Sys.setAin_cores (y : Sys) (n : Nat) (v : AudioIn) : (y.setAin n v).cores = y.cores := rfl
@[simp] theorem Sys.setAin_turn (y : Sys) (n : Nat) (v : AudioIn) : (y.setAin n v).turn = y.turn := rfl
@[simp] theorem Sys.ain_setAin (y : Sys) (n : Nat) (v : AudioIn) (j : Nat) : (y.setAin n v).ain j = if j = n then v else y.ain j := by
  simp only [Sys.ain, Sys.setAin, tget_tset]

/-! ## `Sys.setAout` -/

@[simp] theorem Sys.rd_setAout (y : Sys) (n : Nat) (v : AudioOut) (k : Nat) : (y.setAout n v).rd k = y.rd k := rfl
@[simp] theorem Sys.rdB_setAout (y : Sys) (n : Nat) (v : AudioOut) (k : Nat) : (y.setAout n v).rdB k = y.rdB k := rfl
@[simp] theorem Sys.setAout_dict (y : Sys) (n : Nat) (v : AudioOut) : (y.setAout n v).dict = y.dict := rfl
@[simp] theorem Sys.setAout_blobs (y : Sys) (n : Nat) (v : AudioOut) : (y.setAout n v).blobs = y.blobs := rfl
@[simp] theorem Sys.setAout_t96 (y : Sys) (n : Nat) (v : AudioOut) : (y.setAout n v).t96 = y.t96 := rfl
@[simp] theorem Sys.setAout_up (y : Sys) (n : Nat) (v : AudioOut) : (y.setAout n v).up = y.up := rfl
@[simp] theorem Sys.setAout_seed (y : Sys) (n : Nat) (v : AudioOut) : (y.setAout n v).seed = y.seed := rfl
@[simp] theorem Sys.setAout_tx (y : Sys) (n : Nat) (v : AudioOut) : (y.setAout n v).tx = y.tx := rfl
@[simp] theorem Sys.setAout_log (y : Sys) (n : Nat) (v : AudioOut) : (y.setAout n v).log = y.log := rfl
@[simp] theorem Sys.setAout_boot (y : Sys) (n : Nat) (v : AudioOut) : (y.setAout n v).boot = y.boot := rfl
@[simp] theorem Sys.setAout_sup (y : Sys) (n : Nat) (v : AudioOut) : (y.setAout n v).sup = y.sup := rfl
@[simp] theorem Sys.setAout_gov (y : Sys) (n : Nat) (v : AudioOut) : (y.setAout n v).gov = y.gov := rfl
@[simp] theorem Sys.setAout_den (y : Sys) (n : Nat) (v : AudioOut) : (y.setAout n v).den = y.den := rfl
@[simp] theorem Sys.setAout_sec (y : Sys) (n : Nat) (v : AudioOut) : (y.setAout n v).sec = y.sec := rfl
@[simp] theorem Sys.setAout_mram (y : Sys) (n : Nat) (v : AudioOut) : (y.setAout n v).mram = y.mram := rfl
@[simp] theorem Sys.setAout_frames (y : Sys) (n : Nat) (v : AudioOut) : (y.setAout n v).frames = y.frames := rfl
@[simp] theorem Sys.setAout_ctxs (y : Sys) (n : Nat) (v : AudioOut) : (y.setAout n v).ctxs = y.ctxs := rfl
@[simp] theorem Sys.setAout_igs (y : Sys) (n : Nat) (v : AudioOut) : (y.setAout n v).igs = y.igs := rfl
@[simp] theorem Sys.setAout_ports (y : Sys) (n : Nat) (v : AudioOut) : (y.setAout n v).ports = y.ports := rfl
@[simp] theorem Sys.setAout_troupes (y : Sys) (n : Nat) (v : AudioOut) : (y.setAout n v).troupes = y.troupes := rfl
@[simp] theorem Sys.setAout_rfes (y : Sys) (n : Nat) (v : AudioOut) : (y.setAout n v).rfes = y.rfes := rfl
@[simp] theorem Sys.setAout_stores (y : Sys) (n : Nat) (v : AudioOut) : (y.setAout n v).stores = y.stores := rfl
@[simp] theorem Sys.setAout_holds (y : Sys) (n : Nat) (v : AudioOut) : (y.setAout n v).holds = y.holds := rfl
@[simp] theorem Sys.setAout_engines (y : Sys) (n : Nat) (v : AudioOut) : (y.setAout n v).engines = y.engines := rfl
@[simp] theorem Sys.setAout_resident (y : Sys) (n : Nat) (v : AudioOut) : (y.setAout n v).resident = y.resident := rfl
@[simp] theorem Sys.setAout_tables (y : Sys) (n : Nat) (v : AudioOut) : (y.setAout n v).tables = y.tables := rfl
@[simp] theorem Sys.setAout_pages (y : Sys) (n : Nat) (v : AudioOut) : (y.setAout n v).pages = y.pages := rfl
@[simp] theorem Sys.setAout_channels (y : Sys) (n : Nat) (v : AudioOut) : (y.setAout n v).channels = y.channels := rfl
@[simp] theorem Sys.setAout_sdis (y : Sys) (n : Nat) (v : AudioOut) : (y.setAout n v).sdis = y.sdis := rfl
@[simp] theorem Sys.setAout_edps (y : Sys) (n : Nat) (v : AudioOut) : (y.setAout n v).edps = y.edps := rfl
@[simp] theorem Sys.setAout_pathsDown (y : Sys) (n : Nat) (v : AudioOut) : (y.setAout n v).pathsDown = y.pathsDown := rfl
@[simp] theorem Sys.setAout_links (y : Sys) (n : Nat) (v : AudioOut) : (y.setAout n v).links = y.links := rfl
@[simp] theorem Sys.setAout_lanes (y : Sys) (n : Nat) (v : AudioOut) : (y.setAout n v).lanes = y.lanes := rfl
@[simp] theorem Sys.setAout_mailboxes (y : Sys) (n : Nat) (v : AudioOut) : (y.setAout n v).mailboxes = y.mailboxes := rfl
@[simp] theorem Sys.setAout_power (y : Sys) (n : Nat) (v : AudioOut) : (y.setAout n v).power = y.power := rfl
@[simp] theorem Sys.setAout_dram (y : Sys) (n : Nat) (v : AudioOut) : (y.setAout n v).dram = y.dram := rfl
@[simp] theorem Sys.setAout_mem (y : Sys) (n : Nat) (v : AudioOut) : (y.setAout n v).mem = y.mem := rfl
@[simp] theorem Sys.setAout_media (y : Sys) (n : Nat) (v : AudioOut) : (y.setAout n v).media = y.media := rfl
@[simp] theorem Sys.setAout_rings (y : Sys) (n : Nat) (v : AudioOut) : (y.setAout n v).rings = y.rings := rfl
@[simp] theorem Sys.setAout_zcs (y : Sys) (n : Nat) (v : AudioOut) : (y.setAout n v).zcs = y.zcs := rfl
@[simp] theorem Sys.setAout_positions (y : Sys) (n : Nat) (v : AudioOut) : (y.setAout n v).positions = y.positions := rfl
@[simp] theorem Sys.setAout_time (y : Sys) (n : Nat) (v : AudioOut) : (y.setAout n v).time = y.time := rfl
@[simp] theorem Sys.setAout_ptp (y : Sys) (n : Nat) (v : AudioOut) : (y.setAout n v).ptp = y.ptp := rfl
@[simp] theorem Sys.setAout_tios (y : Sys) (n : Nat) (v : AudioOut) : (y.setAout n v).tios = y.tios := rfl
@[simp] theorem Sys.setAout_twin (y : Sys) (n : Nat) (v : AudioOut) : (y.setAout n v).twin = y.twin := rfl
@[simp] theorem Sys.setAout_thermal (y : Sys) (n : Nat) (v : AudioOut) : (y.setAout n v).thermal = y.thermal := rfl
@[simp] theorem Sys.setAout_launches (y : Sys) (n : Nat) (v : AudioOut) : (y.setAout n v).launches = y.launches := rfl
@[simp] theorem Sys.setAout_audioIn (y : Sys) (n : Nat) (v : AudioOut) : (y.setAout n v).audioIn = y.audioIn := rfl
@[simp] theorem Sys.setAout_felley (y : Sys) (n : Nat) (v : AudioOut) : (y.setAout n v).felley = y.felley := rfl
@[simp] theorem Sys.setAout_encs (y : Sys) (n : Nat) (v : AudioOut) : (y.setAout n v).encs = y.encs := rfl
@[simp] theorem Sys.setAout_decs (y : Sys) (n : Nat) (v : AudioOut) : (y.setAout n v).decs = y.decs := rfl
@[simp] theorem Sys.setAout_cores (y : Sys) (n : Nat) (v : AudioOut) : (y.setAout n v).cores = y.cores := rfl
@[simp] theorem Sys.setAout_turn (y : Sys) (n : Nat) (v : AudioOut) : (y.setAout n v).turn = y.turn := rfl
@[simp] theorem Sys.aout_setAout (y : Sys) (n : Nat) (v : AudioOut) (j : Nat) : (y.setAout n v).aout j = if j = n then v else y.aout j := by
  simp only [Sys.aout, Sys.setAout, tget_tset]

/-! ## `Sys.setTable` -/

@[simp] theorem Sys.rd_setTable (y : Sys) (n : Nat) (v : LibTable) (k : Nat) : (y.setTable n v).rd k = y.rd k := rfl
@[simp] theorem Sys.rdB_setTable (y : Sys) (n : Nat) (v : LibTable) (k : Nat) : (y.setTable n v).rdB k = y.rdB k := rfl
@[simp] theorem Sys.setTable_dict (y : Sys) (n : Nat) (v : LibTable) : (y.setTable n v).dict = y.dict := rfl
@[simp] theorem Sys.setTable_blobs (y : Sys) (n : Nat) (v : LibTable) : (y.setTable n v).blobs = y.blobs := rfl
@[simp] theorem Sys.setTable_t96 (y : Sys) (n : Nat) (v : LibTable) : (y.setTable n v).t96 = y.t96 := rfl
@[simp] theorem Sys.setTable_up (y : Sys) (n : Nat) (v : LibTable) : (y.setTable n v).up = y.up := rfl
@[simp] theorem Sys.setTable_seed (y : Sys) (n : Nat) (v : LibTable) : (y.setTable n v).seed = y.seed := rfl
@[simp] theorem Sys.setTable_tx (y : Sys) (n : Nat) (v : LibTable) : (y.setTable n v).tx = y.tx := rfl
@[simp] theorem Sys.setTable_log (y : Sys) (n : Nat) (v : LibTable) : (y.setTable n v).log = y.log := rfl
@[simp] theorem Sys.setTable_boot (y : Sys) (n : Nat) (v : LibTable) : (y.setTable n v).boot = y.boot := rfl
@[simp] theorem Sys.setTable_sup (y : Sys) (n : Nat) (v : LibTable) : (y.setTable n v).sup = y.sup := rfl
@[simp] theorem Sys.setTable_gov (y : Sys) (n : Nat) (v : LibTable) : (y.setTable n v).gov = y.gov := rfl
@[simp] theorem Sys.setTable_den (y : Sys) (n : Nat) (v : LibTable) : (y.setTable n v).den = y.den := rfl
@[simp] theorem Sys.setTable_sec (y : Sys) (n : Nat) (v : LibTable) : (y.setTable n v).sec = y.sec := rfl
@[simp] theorem Sys.setTable_mram (y : Sys) (n : Nat) (v : LibTable) : (y.setTable n v).mram = y.mram := rfl
@[simp] theorem Sys.setTable_frames (y : Sys) (n : Nat) (v : LibTable) : (y.setTable n v).frames = y.frames := rfl
@[simp] theorem Sys.setTable_ctxs (y : Sys) (n : Nat) (v : LibTable) : (y.setTable n v).ctxs = y.ctxs := rfl
@[simp] theorem Sys.setTable_igs (y : Sys) (n : Nat) (v : LibTable) : (y.setTable n v).igs = y.igs := rfl
@[simp] theorem Sys.setTable_ports (y : Sys) (n : Nat) (v : LibTable) : (y.setTable n v).ports = y.ports := rfl
@[simp] theorem Sys.setTable_troupes (y : Sys) (n : Nat) (v : LibTable) : (y.setTable n v).troupes = y.troupes := rfl
@[simp] theorem Sys.setTable_rfes (y : Sys) (n : Nat) (v : LibTable) : (y.setTable n v).rfes = y.rfes := rfl
@[simp] theorem Sys.setTable_stores (y : Sys) (n : Nat) (v : LibTable) : (y.setTable n v).stores = y.stores := rfl
@[simp] theorem Sys.setTable_holds (y : Sys) (n : Nat) (v : LibTable) : (y.setTable n v).holds = y.holds := rfl
@[simp] theorem Sys.setTable_engines (y : Sys) (n : Nat) (v : LibTable) : (y.setTable n v).engines = y.engines := rfl
@[simp] theorem Sys.setTable_resident (y : Sys) (n : Nat) (v : LibTable) : (y.setTable n v).resident = y.resident := rfl
@[simp] theorem Sys.setTable_pages (y : Sys) (n : Nat) (v : LibTable) : (y.setTable n v).pages = y.pages := rfl
@[simp] theorem Sys.setTable_channels (y : Sys) (n : Nat) (v : LibTable) : (y.setTable n v).channels = y.channels := rfl
@[simp] theorem Sys.setTable_sdis (y : Sys) (n : Nat) (v : LibTable) : (y.setTable n v).sdis = y.sdis := rfl
@[simp] theorem Sys.setTable_edps (y : Sys) (n : Nat) (v : LibTable) : (y.setTable n v).edps = y.edps := rfl
@[simp] theorem Sys.setTable_pathsDown (y : Sys) (n : Nat) (v : LibTable) : (y.setTable n v).pathsDown = y.pathsDown := rfl
@[simp] theorem Sys.setTable_links (y : Sys) (n : Nat) (v : LibTable) : (y.setTable n v).links = y.links := rfl
@[simp] theorem Sys.setTable_lanes (y : Sys) (n : Nat) (v : LibTable) : (y.setTable n v).lanes = y.lanes := rfl
@[simp] theorem Sys.setTable_mailboxes (y : Sys) (n : Nat) (v : LibTable) : (y.setTable n v).mailboxes = y.mailboxes := rfl
@[simp] theorem Sys.setTable_power (y : Sys) (n : Nat) (v : LibTable) : (y.setTable n v).power = y.power := rfl
@[simp] theorem Sys.setTable_dram (y : Sys) (n : Nat) (v : LibTable) : (y.setTable n v).dram = y.dram := rfl
@[simp] theorem Sys.setTable_mem (y : Sys) (n : Nat) (v : LibTable) : (y.setTable n v).mem = y.mem := rfl
@[simp] theorem Sys.setTable_media (y : Sys) (n : Nat) (v : LibTable) : (y.setTable n v).media = y.media := rfl
@[simp] theorem Sys.setTable_rings (y : Sys) (n : Nat) (v : LibTable) : (y.setTable n v).rings = y.rings := rfl
@[simp] theorem Sys.setTable_zcs (y : Sys) (n : Nat) (v : LibTable) : (y.setTable n v).zcs = y.zcs := rfl
@[simp] theorem Sys.setTable_positions (y : Sys) (n : Nat) (v : LibTable) : (y.setTable n v).positions = y.positions := rfl
@[simp] theorem Sys.setTable_time (y : Sys) (n : Nat) (v : LibTable) : (y.setTable n v).time = y.time := rfl
@[simp] theorem Sys.setTable_ptp (y : Sys) (n : Nat) (v : LibTable) : (y.setTable n v).ptp = y.ptp := rfl
@[simp] theorem Sys.setTable_tios (y : Sys) (n : Nat) (v : LibTable) : (y.setTable n v).tios = y.tios := rfl
@[simp] theorem Sys.setTable_twin (y : Sys) (n : Nat) (v : LibTable) : (y.setTable n v).twin = y.twin := rfl
@[simp] theorem Sys.setTable_thermal (y : Sys) (n : Nat) (v : LibTable) : (y.setTable n v).thermal = y.thermal := rfl
@[simp] theorem Sys.setTable_launches (y : Sys) (n : Nat) (v : LibTable) : (y.setTable n v).launches = y.launches := rfl
@[simp] theorem Sys.setTable_audioIn (y : Sys) (n : Nat) (v : LibTable) : (y.setTable n v).audioIn = y.audioIn := rfl
@[simp] theorem Sys.setTable_audioOut (y : Sys) (n : Nat) (v : LibTable) : (y.setTable n v).audioOut = y.audioOut := rfl
@[simp] theorem Sys.setTable_felley (y : Sys) (n : Nat) (v : LibTable) : (y.setTable n v).felley = y.felley := rfl
@[simp] theorem Sys.setTable_encs (y : Sys) (n : Nat) (v : LibTable) : (y.setTable n v).encs = y.encs := rfl
@[simp] theorem Sys.setTable_decs (y : Sys) (n : Nat) (v : LibTable) : (y.setTable n v).decs = y.decs := rfl
@[simp] theorem Sys.setTable_cores (y : Sys) (n : Nat) (v : LibTable) : (y.setTable n v).cores = y.cores := rfl
@[simp] theorem Sys.setTable_turn (y : Sys) (n : Nat) (v : LibTable) : (y.setTable n v).turn = y.turn := rfl

/-! ## `Sys.setZc` -/

@[simp] theorem Sys.rd_setZc (y : Sys) (n : Nat) (v : Zc) (k : Nat) : (y.setZc n v).rd k = y.rd k := rfl
@[simp] theorem Sys.rdB_setZc (y : Sys) (n : Nat) (v : Zc) (k : Nat) : (y.setZc n v).rdB k = y.rdB k := rfl
@[simp] theorem Sys.setZc_dict (y : Sys) (n : Nat) (v : Zc) : (y.setZc n v).dict = y.dict := rfl
@[simp] theorem Sys.setZc_blobs (y : Sys) (n : Nat) (v : Zc) : (y.setZc n v).blobs = y.blobs := rfl
@[simp] theorem Sys.setZc_t96 (y : Sys) (n : Nat) (v : Zc) : (y.setZc n v).t96 = y.t96 := rfl
@[simp] theorem Sys.setZc_up (y : Sys) (n : Nat) (v : Zc) : (y.setZc n v).up = y.up := rfl
@[simp] theorem Sys.setZc_seed (y : Sys) (n : Nat) (v : Zc) : (y.setZc n v).seed = y.seed := rfl
@[simp] theorem Sys.setZc_tx (y : Sys) (n : Nat) (v : Zc) : (y.setZc n v).tx = y.tx := rfl
@[simp] theorem Sys.setZc_log (y : Sys) (n : Nat) (v : Zc) : (y.setZc n v).log = y.log := rfl
@[simp] theorem Sys.setZc_boot (y : Sys) (n : Nat) (v : Zc) : (y.setZc n v).boot = y.boot := rfl
@[simp] theorem Sys.setZc_sup (y : Sys) (n : Nat) (v : Zc) : (y.setZc n v).sup = y.sup := rfl
@[simp] theorem Sys.setZc_gov (y : Sys) (n : Nat) (v : Zc) : (y.setZc n v).gov = y.gov := rfl
@[simp] theorem Sys.setZc_den (y : Sys) (n : Nat) (v : Zc) : (y.setZc n v).den = y.den := rfl
@[simp] theorem Sys.setZc_sec (y : Sys) (n : Nat) (v : Zc) : (y.setZc n v).sec = y.sec := rfl
@[simp] theorem Sys.setZc_mram (y : Sys) (n : Nat) (v : Zc) : (y.setZc n v).mram = y.mram := rfl
@[simp] theorem Sys.setZc_frames (y : Sys) (n : Nat) (v : Zc) : (y.setZc n v).frames = y.frames := rfl
@[simp] theorem Sys.setZc_ctxs (y : Sys) (n : Nat) (v : Zc) : (y.setZc n v).ctxs = y.ctxs := rfl
@[simp] theorem Sys.setZc_igs (y : Sys) (n : Nat) (v : Zc) : (y.setZc n v).igs = y.igs := rfl
@[simp] theorem Sys.setZc_ports (y : Sys) (n : Nat) (v : Zc) : (y.setZc n v).ports = y.ports := rfl
@[simp] theorem Sys.setZc_troupes (y : Sys) (n : Nat) (v : Zc) : (y.setZc n v).troupes = y.troupes := rfl
@[simp] theorem Sys.setZc_rfes (y : Sys) (n : Nat) (v : Zc) : (y.setZc n v).rfes = y.rfes := rfl
@[simp] theorem Sys.setZc_stores (y : Sys) (n : Nat) (v : Zc) : (y.setZc n v).stores = y.stores := rfl
@[simp] theorem Sys.setZc_holds (y : Sys) (n : Nat) (v : Zc) : (y.setZc n v).holds = y.holds := rfl
@[simp] theorem Sys.setZc_engines (y : Sys) (n : Nat) (v : Zc) : (y.setZc n v).engines = y.engines := rfl
@[simp] theorem Sys.setZc_resident (y : Sys) (n : Nat) (v : Zc) : (y.setZc n v).resident = y.resident := rfl
@[simp] theorem Sys.setZc_tables (y : Sys) (n : Nat) (v : Zc) : (y.setZc n v).tables = y.tables := rfl
@[simp] theorem Sys.setZc_pages (y : Sys) (n : Nat) (v : Zc) : (y.setZc n v).pages = y.pages := rfl
@[simp] theorem Sys.setZc_channels (y : Sys) (n : Nat) (v : Zc) : (y.setZc n v).channels = y.channels := rfl
@[simp] theorem Sys.setZc_sdis (y : Sys) (n : Nat) (v : Zc) : (y.setZc n v).sdis = y.sdis := rfl
@[simp] theorem Sys.setZc_edps (y : Sys) (n : Nat) (v : Zc) : (y.setZc n v).edps = y.edps := rfl
@[simp] theorem Sys.setZc_pathsDown (y : Sys) (n : Nat) (v : Zc) : (y.setZc n v).pathsDown = y.pathsDown := rfl
@[simp] theorem Sys.setZc_links (y : Sys) (n : Nat) (v : Zc) : (y.setZc n v).links = y.links := rfl
@[simp] theorem Sys.setZc_lanes (y : Sys) (n : Nat) (v : Zc) : (y.setZc n v).lanes = y.lanes := rfl
@[simp] theorem Sys.setZc_mailboxes (y : Sys) (n : Nat) (v : Zc) : (y.setZc n v).mailboxes = y.mailboxes := rfl
@[simp] theorem Sys.setZc_power (y : Sys) (n : Nat) (v : Zc) : (y.setZc n v).power = y.power := rfl
@[simp] theorem Sys.setZc_dram (y : Sys) (n : Nat) (v : Zc) : (y.setZc n v).dram = y.dram := rfl
@[simp] theorem Sys.setZc_mem (y : Sys) (n : Nat) (v : Zc) : (y.setZc n v).mem = y.mem := rfl
@[simp] theorem Sys.setZc_media (y : Sys) (n : Nat) (v : Zc) : (y.setZc n v).media = y.media := rfl
@[simp] theorem Sys.setZc_rings (y : Sys) (n : Nat) (v : Zc) : (y.setZc n v).rings = y.rings := rfl
@[simp] theorem Sys.setZc_positions (y : Sys) (n : Nat) (v : Zc) : (y.setZc n v).positions = y.positions := rfl
@[simp] theorem Sys.setZc_time (y : Sys) (n : Nat) (v : Zc) : (y.setZc n v).time = y.time := rfl
@[simp] theorem Sys.setZc_ptp (y : Sys) (n : Nat) (v : Zc) : (y.setZc n v).ptp = y.ptp := rfl
@[simp] theorem Sys.setZc_tios (y : Sys) (n : Nat) (v : Zc) : (y.setZc n v).tios = y.tios := rfl
@[simp] theorem Sys.setZc_twin (y : Sys) (n : Nat) (v : Zc) : (y.setZc n v).twin = y.twin := rfl
@[simp] theorem Sys.setZc_thermal (y : Sys) (n : Nat) (v : Zc) : (y.setZc n v).thermal = y.thermal := rfl
@[simp] theorem Sys.setZc_launches (y : Sys) (n : Nat) (v : Zc) : (y.setZc n v).launches = y.launches := rfl
@[simp] theorem Sys.setZc_audioIn (y : Sys) (n : Nat) (v : Zc) : (y.setZc n v).audioIn = y.audioIn := rfl
@[simp] theorem Sys.setZc_audioOut (y : Sys) (n : Nat) (v : Zc) : (y.setZc n v).audioOut = y.audioOut := rfl
@[simp] theorem Sys.setZc_felley (y : Sys) (n : Nat) (v : Zc) : (y.setZc n v).felley = y.felley := rfl
@[simp] theorem Sys.setZc_encs (y : Sys) (n : Nat) (v : Zc) : (y.setZc n v).encs = y.encs := rfl
@[simp] theorem Sys.setZc_decs (y : Sys) (n : Nat) (v : Zc) : (y.setZc n v).decs = y.decs := rfl
@[simp] theorem Sys.setZc_cores (y : Sys) (n : Nat) (v : Zc) : (y.setZc n v).cores = y.cores := rfl
@[simp] theorem Sys.setZc_turn (y : Sys) (n : Nat) (v : Zc) : (y.setZc n v).turn = y.turn := rfl
@[simp] theorem Sys.zc_setZc (y : Sys) (n : Nat) (v : Zc) (j : Nat) : (y.setZc n v).zc j = if j = n then v else y.zc j := by
  simp only [Sys.zc, Sys.setZc, tget_tset]

/-! ## `Sys.setRing` -/

@[simp] theorem Sys.rd_setRing (y : Sys) (n : Nat) (v : Ring) (k : Nat) : (y.setRing n v).rd k = y.rd k := rfl
@[simp] theorem Sys.rdB_setRing (y : Sys) (n : Nat) (v : Ring) (k : Nat) : (y.setRing n v).rdB k = y.rdB k := rfl
@[simp] theorem Sys.setRing_dict (y : Sys) (n : Nat) (v : Ring) : (y.setRing n v).dict = y.dict := rfl
@[simp] theorem Sys.setRing_blobs (y : Sys) (n : Nat) (v : Ring) : (y.setRing n v).blobs = y.blobs := rfl
@[simp] theorem Sys.setRing_t96 (y : Sys) (n : Nat) (v : Ring) : (y.setRing n v).t96 = y.t96 := rfl
@[simp] theorem Sys.setRing_up (y : Sys) (n : Nat) (v : Ring) : (y.setRing n v).up = y.up := rfl
@[simp] theorem Sys.setRing_seed (y : Sys) (n : Nat) (v : Ring) : (y.setRing n v).seed = y.seed := rfl
@[simp] theorem Sys.setRing_tx (y : Sys) (n : Nat) (v : Ring) : (y.setRing n v).tx = y.tx := rfl
@[simp] theorem Sys.setRing_log (y : Sys) (n : Nat) (v : Ring) : (y.setRing n v).log = y.log := rfl
@[simp] theorem Sys.setRing_boot (y : Sys) (n : Nat) (v : Ring) : (y.setRing n v).boot = y.boot := rfl
@[simp] theorem Sys.setRing_sup (y : Sys) (n : Nat) (v : Ring) : (y.setRing n v).sup = y.sup := rfl
@[simp] theorem Sys.setRing_gov (y : Sys) (n : Nat) (v : Ring) : (y.setRing n v).gov = y.gov := rfl
@[simp] theorem Sys.setRing_den (y : Sys) (n : Nat) (v : Ring) : (y.setRing n v).den = y.den := rfl
@[simp] theorem Sys.setRing_sec (y : Sys) (n : Nat) (v : Ring) : (y.setRing n v).sec = y.sec := rfl
@[simp] theorem Sys.setRing_mram (y : Sys) (n : Nat) (v : Ring) : (y.setRing n v).mram = y.mram := rfl
@[simp] theorem Sys.setRing_frames (y : Sys) (n : Nat) (v : Ring) : (y.setRing n v).frames = y.frames := rfl
@[simp] theorem Sys.setRing_ctxs (y : Sys) (n : Nat) (v : Ring) : (y.setRing n v).ctxs = y.ctxs := rfl
@[simp] theorem Sys.setRing_igs (y : Sys) (n : Nat) (v : Ring) : (y.setRing n v).igs = y.igs := rfl
@[simp] theorem Sys.setRing_ports (y : Sys) (n : Nat) (v : Ring) : (y.setRing n v).ports = y.ports := rfl
@[simp] theorem Sys.setRing_troupes (y : Sys) (n : Nat) (v : Ring) : (y.setRing n v).troupes = y.troupes := rfl
@[simp] theorem Sys.setRing_rfes (y : Sys) (n : Nat) (v : Ring) : (y.setRing n v).rfes = y.rfes := rfl
@[simp] theorem Sys.setRing_stores (y : Sys) (n : Nat) (v : Ring) : (y.setRing n v).stores = y.stores := rfl
@[simp] theorem Sys.setRing_holds (y : Sys) (n : Nat) (v : Ring) : (y.setRing n v).holds = y.holds := rfl
@[simp] theorem Sys.setRing_engines (y : Sys) (n : Nat) (v : Ring) : (y.setRing n v).engines = y.engines := rfl
@[simp] theorem Sys.setRing_resident (y : Sys) (n : Nat) (v : Ring) : (y.setRing n v).resident = y.resident := rfl
@[simp] theorem Sys.setRing_tables (y : Sys) (n : Nat) (v : Ring) : (y.setRing n v).tables = y.tables := rfl
@[simp] theorem Sys.setRing_pages (y : Sys) (n : Nat) (v : Ring) : (y.setRing n v).pages = y.pages := rfl
@[simp] theorem Sys.setRing_channels (y : Sys) (n : Nat) (v : Ring) : (y.setRing n v).channels = y.channels := rfl
@[simp] theorem Sys.setRing_sdis (y : Sys) (n : Nat) (v : Ring) : (y.setRing n v).sdis = y.sdis := rfl
@[simp] theorem Sys.setRing_edps (y : Sys) (n : Nat) (v : Ring) : (y.setRing n v).edps = y.edps := rfl
@[simp] theorem Sys.setRing_pathsDown (y : Sys) (n : Nat) (v : Ring) : (y.setRing n v).pathsDown = y.pathsDown := rfl
@[simp] theorem Sys.setRing_links (y : Sys) (n : Nat) (v : Ring) : (y.setRing n v).links = y.links := rfl
@[simp] theorem Sys.setRing_lanes (y : Sys) (n : Nat) (v : Ring) : (y.setRing n v).lanes = y.lanes := rfl
@[simp] theorem Sys.setRing_mailboxes (y : Sys) (n : Nat) (v : Ring) : (y.setRing n v).mailboxes = y.mailboxes := rfl
@[simp] theorem Sys.setRing_power (y : Sys) (n : Nat) (v : Ring) : (y.setRing n v).power = y.power := rfl
@[simp] theorem Sys.setRing_dram (y : Sys) (n : Nat) (v : Ring) : (y.setRing n v).dram = y.dram := rfl
@[simp] theorem Sys.setRing_mem (y : Sys) (n : Nat) (v : Ring) : (y.setRing n v).mem = y.mem := rfl
@[simp] theorem Sys.setRing_media (y : Sys) (n : Nat) (v : Ring) : (y.setRing n v).media = y.media := rfl
@[simp] theorem Sys.setRing_zcs (y : Sys) (n : Nat) (v : Ring) : (y.setRing n v).zcs = y.zcs := rfl
@[simp] theorem Sys.setRing_positions (y : Sys) (n : Nat) (v : Ring) : (y.setRing n v).positions = y.positions := rfl
@[simp] theorem Sys.setRing_time (y : Sys) (n : Nat) (v : Ring) : (y.setRing n v).time = y.time := rfl
@[simp] theorem Sys.setRing_ptp (y : Sys) (n : Nat) (v : Ring) : (y.setRing n v).ptp = y.ptp := rfl
@[simp] theorem Sys.setRing_tios (y : Sys) (n : Nat) (v : Ring) : (y.setRing n v).tios = y.tios := rfl
@[simp] theorem Sys.setRing_twin (y : Sys) (n : Nat) (v : Ring) : (y.setRing n v).twin = y.twin := rfl
@[simp] theorem Sys.setRing_thermal (y : Sys) (n : Nat) (v : Ring) : (y.setRing n v).thermal = y.thermal := rfl
@[simp] theorem Sys.setRing_launches (y : Sys) (n : Nat) (v : Ring) : (y.setRing n v).launches = y.launches := rfl
@[simp] theorem Sys.setRing_audioIn (y : Sys) (n : Nat) (v : Ring) : (y.setRing n v).audioIn = y.audioIn := rfl
@[simp] theorem Sys.setRing_audioOut (y : Sys) (n : Nat) (v : Ring) : (y.setRing n v).audioOut = y.audioOut := rfl
@[simp] theorem Sys.setRing_felley (y : Sys) (n : Nat) (v : Ring) : (y.setRing n v).felley = y.felley := rfl
@[simp] theorem Sys.setRing_encs (y : Sys) (n : Nat) (v : Ring) : (y.setRing n v).encs = y.encs := rfl
@[simp] theorem Sys.setRing_decs (y : Sys) (n : Nat) (v : Ring) : (y.setRing n v).decs = y.decs := rfl
@[simp] theorem Sys.setRing_cores (y : Sys) (n : Nat) (v : Ring) : (y.setRing n v).cores = y.cores := rfl
@[simp] theorem Sys.setRing_turn (y : Sys) (n : Nat) (v : Ring) : (y.setRing n v).turn = y.turn := rfl
@[simp] theorem Sys.ring_setRing (y : Sys) (n : Nat) (v : Ring) (j : Nat) : (y.setRing n v).ring j = if j = n then v else y.ring j := by
  simp only [Sys.ring, Sys.setRing, tget_tset]

/-! ## `Sys.setMig` -/

@[simp] theorem Sys.rd_setMig (y : Sys) (m : Option Migration) (k : Nat) : (y.setMig m).rd k = y.rd k := rfl
@[simp] theorem Sys.rdB_setMig (y : Sys) (m : Option Migration) (k : Nat) : (y.setMig m).rdB k = y.rdB k := rfl
@[simp] theorem Sys.setMig_dict (y : Sys) (m : Option Migration) : (y.setMig m).dict = y.dict := rfl
@[simp] theorem Sys.setMig_blobs (y : Sys) (m : Option Migration) : (y.setMig m).blobs = y.blobs := rfl
@[simp] theorem Sys.setMig_t96 (y : Sys) (m : Option Migration) : (y.setMig m).t96 = y.t96 := rfl
@[simp] theorem Sys.setMig_up (y : Sys) (m : Option Migration) : (y.setMig m).up = y.up := rfl
@[simp] theorem Sys.setMig_seed (y : Sys) (m : Option Migration) : (y.setMig m).seed = y.seed := rfl
@[simp] theorem Sys.setMig_tx (y : Sys) (m : Option Migration) : (y.setMig m).tx = y.tx := rfl
@[simp] theorem Sys.setMig_log (y : Sys) (m : Option Migration) : (y.setMig m).log = y.log := rfl
@[simp] theorem Sys.setMig_boot (y : Sys) (m : Option Migration) : (y.setMig m).boot = y.boot := rfl
@[simp] theorem Sys.setMig_sup (y : Sys) (m : Option Migration) : (y.setMig m).sup = y.sup := rfl
@[simp] theorem Sys.setMig_gov (y : Sys) (m : Option Migration) : (y.setMig m).gov = y.gov := rfl
@[simp] theorem Sys.setMig_den (y : Sys) (m : Option Migration) : (y.setMig m).den = y.den := rfl
@[simp] theorem Sys.setMig_sec (y : Sys) (m : Option Migration) : (y.setMig m).sec = y.sec := rfl
@[simp] theorem Sys.setMig_frames (y : Sys) (m : Option Migration) : (y.setMig m).frames = y.frames := rfl
@[simp] theorem Sys.setMig_ctxs (y : Sys) (m : Option Migration) : (y.setMig m).ctxs = y.ctxs := rfl
@[simp] theorem Sys.setMig_igs (y : Sys) (m : Option Migration) : (y.setMig m).igs = y.igs := rfl
@[simp] theorem Sys.setMig_ports (y : Sys) (m : Option Migration) : (y.setMig m).ports = y.ports := rfl
@[simp] theorem Sys.setMig_troupes (y : Sys) (m : Option Migration) : (y.setMig m).troupes = y.troupes := rfl
@[simp] theorem Sys.setMig_rfes (y : Sys) (m : Option Migration) : (y.setMig m).rfes = y.rfes := rfl
@[simp] theorem Sys.setMig_stores (y : Sys) (m : Option Migration) : (y.setMig m).stores = y.stores := rfl
@[simp] theorem Sys.setMig_holds (y : Sys) (m : Option Migration) : (y.setMig m).holds = y.holds := rfl
@[simp] theorem Sys.setMig_engines (y : Sys) (m : Option Migration) : (y.setMig m).engines = y.engines := rfl
@[simp] theorem Sys.setMig_resident (y : Sys) (m : Option Migration) : (y.setMig m).resident = y.resident := rfl
@[simp] theorem Sys.setMig_tables (y : Sys) (m : Option Migration) : (y.setMig m).tables = y.tables := rfl
@[simp] theorem Sys.setMig_pages (y : Sys) (m : Option Migration) : (y.setMig m).pages = y.pages := rfl
@[simp] theorem Sys.setMig_channels (y : Sys) (m : Option Migration) : (y.setMig m).channels = y.channels := rfl
@[simp] theorem Sys.setMig_sdis (y : Sys) (m : Option Migration) : (y.setMig m).sdis = y.sdis := rfl
@[simp] theorem Sys.setMig_edps (y : Sys) (m : Option Migration) : (y.setMig m).edps = y.edps := rfl
@[simp] theorem Sys.setMig_pathsDown (y : Sys) (m : Option Migration) : (y.setMig m).pathsDown = y.pathsDown := rfl
@[simp] theorem Sys.setMig_links (y : Sys) (m : Option Migration) : (y.setMig m).links = y.links := rfl
@[simp] theorem Sys.setMig_lanes (y : Sys) (m : Option Migration) : (y.setMig m).lanes = y.lanes := rfl
@[simp] theorem Sys.setMig_mailboxes (y : Sys) (m : Option Migration) : (y.setMig m).mailboxes = y.mailboxes := rfl
@[simp] theorem Sys.setMig_power (y : Sys) (m : Option Migration) : (y.setMig m).power = y.power := rfl
@[simp] theorem Sys.setMig_dram (y : Sys) (m : Option Migration) : (y.setMig m).dram = y.dram := rfl
@[simp] theorem Sys.setMig_mem (y : Sys) (m : Option Migration) : (y.setMig m).mem = y.mem := rfl
@[simp] theorem Sys.setMig_media (y : Sys) (m : Option Migration) : (y.setMig m).media = y.media := rfl
@[simp] theorem Sys.setMig_rings (y : Sys) (m : Option Migration) : (y.setMig m).rings = y.rings := rfl
@[simp] theorem Sys.setMig_zcs (y : Sys) (m : Option Migration) : (y.setMig m).zcs = y.zcs := rfl
@[simp] theorem Sys.setMig_positions (y : Sys) (m : Option Migration) : (y.setMig m).positions = y.positions := rfl
@[simp] theorem Sys.setMig_time (y : Sys) (m : Option Migration) : (y.setMig m).time = y.time := rfl
@[simp] theorem Sys.setMig_ptp (y : Sys) (m : Option Migration) : (y.setMig m).ptp = y.ptp := rfl
@[simp] theorem Sys.setMig_tios (y : Sys) (m : Option Migration) : (y.setMig m).tios = y.tios := rfl
@[simp] theorem Sys.setMig_twin (y : Sys) (m : Option Migration) : (y.setMig m).twin = y.twin := rfl
@[simp] theorem Sys.setMig_thermal (y : Sys) (m : Option Migration) : (y.setMig m).thermal = y.thermal := rfl
@[simp] theorem Sys.setMig_launches (y : Sys) (m : Option Migration) : (y.setMig m).launches = y.launches := rfl
@[simp] theorem Sys.setMig_audioIn (y : Sys) (m : Option Migration) : (y.setMig m).audioIn = y.audioIn := rfl
@[simp] theorem Sys.setMig_audioOut (y : Sys) (m : Option Migration) : (y.setMig m).audioOut = y.audioOut := rfl
@[simp] theorem Sys.setMig_felley (y : Sys) (m : Option Migration) : (y.setMig m).felley = y.felley := rfl
@[simp] theorem Sys.setMig_encs (y : Sys) (m : Option Migration) : (y.setMig m).encs = y.encs := rfl
@[simp] theorem Sys.setMig_decs (y : Sys) (m : Option Migration) : (y.setMig m).decs = y.decs := rfl
@[simp] theorem Sys.setMig_cores (y : Sys) (m : Option Migration) : (y.setMig m).cores = y.cores := rfl
@[simp] theorem Sys.setMig_turn (y : Sys) (m : Option Migration) : (y.setMig m).turn = y.turn := rfl

/-! ## `Sys.setEnc` -/

@[simp] theorem Sys.rd_setEnc (y : Sys) (n : Nat) (v : Enc) (k : Nat) : (y.setEnc n v).rd k = y.rd k := rfl
@[simp] theorem Sys.rdB_setEnc (y : Sys) (n : Nat) (v : Enc) (k : Nat) : (y.setEnc n v).rdB k = y.rdB k := rfl
@[simp] theorem Sys.setEnc_dict (y : Sys) (n : Nat) (v : Enc) : (y.setEnc n v).dict = y.dict := rfl
@[simp] theorem Sys.setEnc_blobs (y : Sys) (n : Nat) (v : Enc) : (y.setEnc n v).blobs = y.blobs := rfl
@[simp] theorem Sys.setEnc_t96 (y : Sys) (n : Nat) (v : Enc) : (y.setEnc n v).t96 = y.t96 := rfl
@[simp] theorem Sys.setEnc_up (y : Sys) (n : Nat) (v : Enc) : (y.setEnc n v).up = y.up := rfl
@[simp] theorem Sys.setEnc_seed (y : Sys) (n : Nat) (v : Enc) : (y.setEnc n v).seed = y.seed := rfl
@[simp] theorem Sys.setEnc_tx (y : Sys) (n : Nat) (v : Enc) : (y.setEnc n v).tx = y.tx := rfl
@[simp] theorem Sys.setEnc_log (y : Sys) (n : Nat) (v : Enc) : (y.setEnc n v).log = y.log := rfl
@[simp] theorem Sys.setEnc_boot (y : Sys) (n : Nat) (v : Enc) : (y.setEnc n v).boot = y.boot := rfl
@[simp] theorem Sys.setEnc_sup (y : Sys) (n : Nat) (v : Enc) : (y.setEnc n v).sup = y.sup := rfl
@[simp] theorem Sys.setEnc_gov (y : Sys) (n : Nat) (v : Enc) : (y.setEnc n v).gov = y.gov := rfl
@[simp] theorem Sys.setEnc_den (y : Sys) (n : Nat) (v : Enc) : (y.setEnc n v).den = y.den := rfl
@[simp] theorem Sys.setEnc_sec (y : Sys) (n : Nat) (v : Enc) : (y.setEnc n v).sec = y.sec := rfl
@[simp] theorem Sys.setEnc_mram (y : Sys) (n : Nat) (v : Enc) : (y.setEnc n v).mram = y.mram := rfl
@[simp] theorem Sys.setEnc_frames (y : Sys) (n : Nat) (v : Enc) : (y.setEnc n v).frames = y.frames := rfl
@[simp] theorem Sys.setEnc_ctxs (y : Sys) (n : Nat) (v : Enc) : (y.setEnc n v).ctxs = y.ctxs := rfl
@[simp] theorem Sys.setEnc_igs (y : Sys) (n : Nat) (v : Enc) : (y.setEnc n v).igs = y.igs := rfl
@[simp] theorem Sys.setEnc_ports (y : Sys) (n : Nat) (v : Enc) : (y.setEnc n v).ports = y.ports := rfl
@[simp] theorem Sys.setEnc_troupes (y : Sys) (n : Nat) (v : Enc) : (y.setEnc n v).troupes = y.troupes := rfl
@[simp] theorem Sys.setEnc_rfes (y : Sys) (n : Nat) (v : Enc) : (y.setEnc n v).rfes = y.rfes := rfl
@[simp] theorem Sys.setEnc_stores (y : Sys) (n : Nat) (v : Enc) : (y.setEnc n v).stores = y.stores := rfl
@[simp] theorem Sys.setEnc_holds (y : Sys) (n : Nat) (v : Enc) : (y.setEnc n v).holds = y.holds := rfl
@[simp] theorem Sys.setEnc_engines (y : Sys) (n : Nat) (v : Enc) : (y.setEnc n v).engines = y.engines := rfl
@[simp] theorem Sys.setEnc_resident (y : Sys) (n : Nat) (v : Enc) : (y.setEnc n v).resident = y.resident := rfl
@[simp] theorem Sys.setEnc_tables (y : Sys) (n : Nat) (v : Enc) : (y.setEnc n v).tables = y.tables := rfl
@[simp] theorem Sys.setEnc_pages (y : Sys) (n : Nat) (v : Enc) : (y.setEnc n v).pages = y.pages := rfl
@[simp] theorem Sys.setEnc_channels (y : Sys) (n : Nat) (v : Enc) : (y.setEnc n v).channels = y.channels := rfl
@[simp] theorem Sys.setEnc_sdis (y : Sys) (n : Nat) (v : Enc) : (y.setEnc n v).sdis = y.sdis := rfl
@[simp] theorem Sys.setEnc_edps (y : Sys) (n : Nat) (v : Enc) : (y.setEnc n v).edps = y.edps := rfl
@[simp] theorem Sys.setEnc_pathsDown (y : Sys) (n : Nat) (v : Enc) : (y.setEnc n v).pathsDown = y.pathsDown := rfl
@[simp] theorem Sys.setEnc_links (y : Sys) (n : Nat) (v : Enc) : (y.setEnc n v).links = y.links := rfl
@[simp] theorem Sys.setEnc_lanes (y : Sys) (n : Nat) (v : Enc) : (y.setEnc n v).lanes = y.lanes := rfl
@[simp] theorem Sys.setEnc_mailboxes (y : Sys) (n : Nat) (v : Enc) : (y.setEnc n v).mailboxes = y.mailboxes := rfl
@[simp] theorem Sys.setEnc_power (y : Sys) (n : Nat) (v : Enc) : (y.setEnc n v).power = y.power := rfl
@[simp] theorem Sys.setEnc_dram (y : Sys) (n : Nat) (v : Enc) : (y.setEnc n v).dram = y.dram := rfl
@[simp] theorem Sys.setEnc_mem (y : Sys) (n : Nat) (v : Enc) : (y.setEnc n v).mem = y.mem := rfl
@[simp] theorem Sys.setEnc_media (y : Sys) (n : Nat) (v : Enc) : (y.setEnc n v).media = y.media := rfl
@[simp] theorem Sys.setEnc_rings (y : Sys) (n : Nat) (v : Enc) : (y.setEnc n v).rings = y.rings := rfl
@[simp] theorem Sys.setEnc_zcs (y : Sys) (n : Nat) (v : Enc) : (y.setEnc n v).zcs = y.zcs := rfl
@[simp] theorem Sys.setEnc_positions (y : Sys) (n : Nat) (v : Enc) : (y.setEnc n v).positions = y.positions := rfl
@[simp] theorem Sys.setEnc_time (y : Sys) (n : Nat) (v : Enc) : (y.setEnc n v).time = y.time := rfl
@[simp] theorem Sys.setEnc_ptp (y : Sys) (n : Nat) (v : Enc) : (y.setEnc n v).ptp = y.ptp := rfl
@[simp] theorem Sys.setEnc_tios (y : Sys) (n : Nat) (v : Enc) : (y.setEnc n v).tios = y.tios := rfl
@[simp] theorem Sys.setEnc_twin (y : Sys) (n : Nat) (v : Enc) : (y.setEnc n v).twin = y.twin := rfl
@[simp] theorem Sys.setEnc_thermal (y : Sys) (n : Nat) (v : Enc) : (y.setEnc n v).thermal = y.thermal := rfl
@[simp] theorem Sys.setEnc_launches (y : Sys) (n : Nat) (v : Enc) : (y.setEnc n v).launches = y.launches := rfl
@[simp] theorem Sys.setEnc_audioIn (y : Sys) (n : Nat) (v : Enc) : (y.setEnc n v).audioIn = y.audioIn := rfl
@[simp] theorem Sys.setEnc_audioOut (y : Sys) (n : Nat) (v : Enc) : (y.setEnc n v).audioOut = y.audioOut := rfl
@[simp] theorem Sys.setEnc_felley (y : Sys) (n : Nat) (v : Enc) : (y.setEnc n v).felley = y.felley := rfl
@[simp] theorem Sys.setEnc_decs (y : Sys) (n : Nat) (v : Enc) : (y.setEnc n v).decs = y.decs := rfl
@[simp] theorem Sys.setEnc_cores (y : Sys) (n : Nat) (v : Enc) : (y.setEnc n v).cores = y.cores := rfl
@[simp] theorem Sys.setEnc_turn (y : Sys) (n : Nat) (v : Enc) : (y.setEnc n v).turn = y.turn := rfl
@[simp] theorem Sys.enc_setEnc (y : Sys) (n : Nat) (v : Enc) (j : Nat) : (y.setEnc n v).enc j = if j = n then v else y.enc j := by
  simp only [Sys.enc, Sys.setEnc, tget_tset]

/-! ## `Sys.setEngine` -/

@[simp] theorem Sys.rd_setEngine (y : Sys) (n : Nat) (v : Engine) (k : Nat) : (y.setEngine n v).rd k = y.rd k := rfl
@[simp] theorem Sys.rdB_setEngine (y : Sys) (n : Nat) (v : Engine) (k : Nat) : (y.setEngine n v).rdB k = y.rdB k := rfl
@[simp] theorem Sys.setEngine_dict (y : Sys) (n : Nat) (v : Engine) : (y.setEngine n v).dict = y.dict := rfl
@[simp] theorem Sys.setEngine_blobs (y : Sys) (n : Nat) (v : Engine) : (y.setEngine n v).blobs = y.blobs := rfl
@[simp] theorem Sys.setEngine_t96 (y : Sys) (n : Nat) (v : Engine) : (y.setEngine n v).t96 = y.t96 := rfl
@[simp] theorem Sys.setEngine_up (y : Sys) (n : Nat) (v : Engine) : (y.setEngine n v).up = y.up := rfl
@[simp] theorem Sys.setEngine_seed (y : Sys) (n : Nat) (v : Engine) : (y.setEngine n v).seed = y.seed := rfl
@[simp] theorem Sys.setEngine_tx (y : Sys) (n : Nat) (v : Engine) : (y.setEngine n v).tx = y.tx := rfl
@[simp] theorem Sys.setEngine_log (y : Sys) (n : Nat) (v : Engine) : (y.setEngine n v).log = y.log := rfl
@[simp] theorem Sys.setEngine_boot (y : Sys) (n : Nat) (v : Engine) : (y.setEngine n v).boot = y.boot := rfl
@[simp] theorem Sys.setEngine_sup (y : Sys) (n : Nat) (v : Engine) : (y.setEngine n v).sup = y.sup := rfl
@[simp] theorem Sys.setEngine_gov (y : Sys) (n : Nat) (v : Engine) : (y.setEngine n v).gov = y.gov := rfl
@[simp] theorem Sys.setEngine_den (y : Sys) (n : Nat) (v : Engine) : (y.setEngine n v).den = y.den := rfl
@[simp] theorem Sys.setEngine_sec (y : Sys) (n : Nat) (v : Engine) : (y.setEngine n v).sec = y.sec := rfl
@[simp] theorem Sys.setEngine_mram (y : Sys) (n : Nat) (v : Engine) : (y.setEngine n v).mram = y.mram := rfl
@[simp] theorem Sys.setEngine_frames (y : Sys) (n : Nat) (v : Engine) : (y.setEngine n v).frames = y.frames := rfl
@[simp] theorem Sys.setEngine_ctxs (y : Sys) (n : Nat) (v : Engine) : (y.setEngine n v).ctxs = y.ctxs := rfl
@[simp] theorem Sys.setEngine_igs (y : Sys) (n : Nat) (v : Engine) : (y.setEngine n v).igs = y.igs := rfl
@[simp] theorem Sys.setEngine_ports (y : Sys) (n : Nat) (v : Engine) : (y.setEngine n v).ports = y.ports := rfl
@[simp] theorem Sys.setEngine_troupes (y : Sys) (n : Nat) (v : Engine) : (y.setEngine n v).troupes = y.troupes := rfl
@[simp] theorem Sys.setEngine_rfes (y : Sys) (n : Nat) (v : Engine) : (y.setEngine n v).rfes = y.rfes := rfl
@[simp] theorem Sys.setEngine_stores (y : Sys) (n : Nat) (v : Engine) : (y.setEngine n v).stores = y.stores := rfl
@[simp] theorem Sys.setEngine_holds (y : Sys) (n : Nat) (v : Engine) : (y.setEngine n v).holds = y.holds := rfl
@[simp] theorem Sys.setEngine_resident (y : Sys) (n : Nat) (v : Engine) : (y.setEngine n v).resident = y.resident := rfl
@[simp] theorem Sys.setEngine_tables (y : Sys) (n : Nat) (v : Engine) : (y.setEngine n v).tables = y.tables := rfl
@[simp] theorem Sys.setEngine_pages (y : Sys) (n : Nat) (v : Engine) : (y.setEngine n v).pages = y.pages := rfl
@[simp] theorem Sys.setEngine_channels (y : Sys) (n : Nat) (v : Engine) : (y.setEngine n v).channels = y.channels := rfl
@[simp] theorem Sys.setEngine_sdis (y : Sys) (n : Nat) (v : Engine) : (y.setEngine n v).sdis = y.sdis := rfl
@[simp] theorem Sys.setEngine_edps (y : Sys) (n : Nat) (v : Engine) : (y.setEngine n v).edps = y.edps := rfl
@[simp] theorem Sys.setEngine_pathsDown (y : Sys) (n : Nat) (v : Engine) : (y.setEngine n v).pathsDown = y.pathsDown := rfl
@[simp] theorem Sys.setEngine_links (y : Sys) (n : Nat) (v : Engine) : (y.setEngine n v).links = y.links := rfl
@[simp] theorem Sys.setEngine_lanes (y : Sys) (n : Nat) (v : Engine) : (y.setEngine n v).lanes = y.lanes := rfl
@[simp] theorem Sys.setEngine_mailboxes (y : Sys) (n : Nat) (v : Engine) : (y.setEngine n v).mailboxes = y.mailboxes := rfl
@[simp] theorem Sys.setEngine_power (y : Sys) (n : Nat) (v : Engine) : (y.setEngine n v).power = y.power := rfl
@[simp] theorem Sys.setEngine_dram (y : Sys) (n : Nat) (v : Engine) : (y.setEngine n v).dram = y.dram := rfl
@[simp] theorem Sys.setEngine_mem (y : Sys) (n : Nat) (v : Engine) : (y.setEngine n v).mem = y.mem := rfl
@[simp] theorem Sys.setEngine_media (y : Sys) (n : Nat) (v : Engine) : (y.setEngine n v).media = y.media := rfl
@[simp] theorem Sys.setEngine_rings (y : Sys) (n : Nat) (v : Engine) : (y.setEngine n v).rings = y.rings := rfl
@[simp] theorem Sys.setEngine_zcs (y : Sys) (n : Nat) (v : Engine) : (y.setEngine n v).zcs = y.zcs := rfl
@[simp] theorem Sys.setEngine_positions (y : Sys) (n : Nat) (v : Engine) : (y.setEngine n v).positions = y.positions := rfl
@[simp] theorem Sys.setEngine_time (y : Sys) (n : Nat) (v : Engine) : (y.setEngine n v).time = y.time := rfl
@[simp] theorem Sys.setEngine_ptp (y : Sys) (n : Nat) (v : Engine) : (y.setEngine n v).ptp = y.ptp := rfl
@[simp] theorem Sys.setEngine_tios (y : Sys) (n : Nat) (v : Engine) : (y.setEngine n v).tios = y.tios := rfl
@[simp] theorem Sys.setEngine_twin (y : Sys) (n : Nat) (v : Engine) : (y.setEngine n v).twin = y.twin := rfl
@[simp] theorem Sys.setEngine_thermal (y : Sys) (n : Nat) (v : Engine) : (y.setEngine n v).thermal = y.thermal := rfl
@[simp] theorem Sys.setEngine_launches (y : Sys) (n : Nat) (v : Engine) : (y.setEngine n v).launches = y.launches := rfl
@[simp] theorem Sys.setEngine_audioIn (y : Sys) (n : Nat) (v : Engine) : (y.setEngine n v).audioIn = y.audioIn := rfl
@[simp] theorem Sys.setEngine_audioOut (y : Sys) (n : Nat) (v : Engine) : (y.setEngine n v).audioOut = y.audioOut := rfl
@[simp] theorem Sys.setEngine_felley (y : Sys) (n : Nat) (v : Engine) : (y.setEngine n v).felley = y.felley := rfl
@[simp] theorem Sys.setEngine_encs (y : Sys) (n : Nat) (v : Engine) : (y.setEngine n v).encs = y.encs := rfl
@[simp] theorem Sys.setEngine_decs (y : Sys) (n : Nat) (v : Engine) : (y.setEngine n v).decs = y.decs := rfl
@[simp] theorem Sys.setEngine_cores (y : Sys) (n : Nat) (v : Engine) : (y.setEngine n v).cores = y.cores := rfl
@[simp] theorem Sys.setEngine_turn (y : Sys) (n : Nat) (v : Engine) : (y.setEngine n v).turn = y.turn := rfl
@[simp] theorem Sys.engine_setEngine (y : Sys) (n : Nat) (v : Engine) (j : Nat) : (y.setEngine n v).engine j = if j = n then v else y.engine j := by
  simp only [Sys.engine, Sys.setEngine, tget_tset]

/-! ## `Sys.onDen` -/

@[simp] theorem Sys.rd_onDen (y : Sys) (f : Denval → Denval) (k : Nat) : (y.onDen f).rd k = y.rd k := rfl
@[simp] theorem Sys.rdB_onDen (y : Sys) (f : Denval → Denval) (k : Nat) : (y.onDen f).rdB k = y.rdB k := rfl
@[simp] theorem Sys.onDen_dict (y : Sys) (f : Denval → Denval) : (y.onDen f).dict = y.dict := rfl
@[simp] theorem Sys.onDen_blobs (y : Sys) (f : Denval → Denval) : (y.onDen f).blobs = y.blobs := rfl
@[simp] theorem Sys.onDen_t96 (y : Sys) (f : Denval → Denval) : (y.onDen f).t96 = y.t96 := rfl
@[simp] theorem Sys.onDen_up (y : Sys) (f : Denval → Denval) : (y.onDen f).up = y.up := rfl
@[simp] theorem Sys.onDen_seed (y : Sys) (f : Denval → Denval) : (y.onDen f).seed = y.seed := rfl
@[simp] theorem Sys.onDen_tx (y : Sys) (f : Denval → Denval) : (y.onDen f).tx = y.tx := rfl
@[simp] theorem Sys.onDen_log (y : Sys) (f : Denval → Denval) : (y.onDen f).log = y.log := rfl
@[simp] theorem Sys.onDen_boot (y : Sys) (f : Denval → Denval) : (y.onDen f).boot = y.boot := rfl
@[simp] theorem Sys.onDen_sup (y : Sys) (f : Denval → Denval) : (y.onDen f).sup = y.sup := rfl
@[simp] theorem Sys.onDen_gov (y : Sys) (f : Denval → Denval) : (y.onDen f).gov = y.gov := rfl
@[simp] theorem Sys.onDen_sec (y : Sys) (f : Denval → Denval) : (y.onDen f).sec = y.sec := rfl
@[simp] theorem Sys.onDen_mram (y : Sys) (f : Denval → Denval) : (y.onDen f).mram = y.mram := rfl
@[simp] theorem Sys.onDen_frames (y : Sys) (f : Denval → Denval) : (y.onDen f).frames = y.frames := rfl
@[simp] theorem Sys.onDen_ctxs (y : Sys) (f : Denval → Denval) : (y.onDen f).ctxs = y.ctxs := rfl
@[simp] theorem Sys.onDen_igs (y : Sys) (f : Denval → Denval) : (y.onDen f).igs = y.igs := rfl
@[simp] theorem Sys.onDen_ports (y : Sys) (f : Denval → Denval) : (y.onDen f).ports = y.ports := rfl
@[simp] theorem Sys.onDen_troupes (y : Sys) (f : Denval → Denval) : (y.onDen f).troupes = y.troupes := rfl
@[simp] theorem Sys.onDen_rfes (y : Sys) (f : Denval → Denval) : (y.onDen f).rfes = y.rfes := rfl
@[simp] theorem Sys.onDen_stores (y : Sys) (f : Denval → Denval) : (y.onDen f).stores = y.stores := rfl
@[simp] theorem Sys.onDen_holds (y : Sys) (f : Denval → Denval) : (y.onDen f).holds = y.holds := rfl
@[simp] theorem Sys.onDen_engines (y : Sys) (f : Denval → Denval) : (y.onDen f).engines = y.engines := rfl
@[simp] theorem Sys.onDen_resident (y : Sys) (f : Denval → Denval) : (y.onDen f).resident = y.resident := rfl
@[simp] theorem Sys.onDen_tables (y : Sys) (f : Denval → Denval) : (y.onDen f).tables = y.tables := rfl
@[simp] theorem Sys.onDen_pages (y : Sys) (f : Denval → Denval) : (y.onDen f).pages = y.pages := rfl
@[simp] theorem Sys.onDen_channels (y : Sys) (f : Denval → Denval) : (y.onDen f).channels = y.channels := rfl
@[simp] theorem Sys.onDen_sdis (y : Sys) (f : Denval → Denval) : (y.onDen f).sdis = y.sdis := rfl
@[simp] theorem Sys.onDen_edps (y : Sys) (f : Denval → Denval) : (y.onDen f).edps = y.edps := rfl
@[simp] theorem Sys.onDen_pathsDown (y : Sys) (f : Denval → Denval) : (y.onDen f).pathsDown = y.pathsDown := rfl
@[simp] theorem Sys.onDen_links (y : Sys) (f : Denval → Denval) : (y.onDen f).links = y.links := rfl
@[simp] theorem Sys.onDen_lanes (y : Sys) (f : Denval → Denval) : (y.onDen f).lanes = y.lanes := rfl
@[simp] theorem Sys.onDen_mailboxes (y : Sys) (f : Denval → Denval) : (y.onDen f).mailboxes = y.mailboxes := rfl
@[simp] theorem Sys.onDen_power (y : Sys) (f : Denval → Denval) : (y.onDen f).power = y.power := rfl
@[simp] theorem Sys.onDen_dram (y : Sys) (f : Denval → Denval) : (y.onDen f).dram = y.dram := rfl
@[simp] theorem Sys.onDen_mem (y : Sys) (f : Denval → Denval) : (y.onDen f).mem = y.mem := rfl
@[simp] theorem Sys.onDen_media (y : Sys) (f : Denval → Denval) : (y.onDen f).media = y.media := rfl
@[simp] theorem Sys.onDen_rings (y : Sys) (f : Denval → Denval) : (y.onDen f).rings = y.rings := rfl
@[simp] theorem Sys.onDen_zcs (y : Sys) (f : Denval → Denval) : (y.onDen f).zcs = y.zcs := rfl
@[simp] theorem Sys.onDen_positions (y : Sys) (f : Denval → Denval) : (y.onDen f).positions = y.positions := rfl
@[simp] theorem Sys.onDen_time (y : Sys) (f : Denval → Denval) : (y.onDen f).time = y.time := rfl
@[simp] theorem Sys.onDen_ptp (y : Sys) (f : Denval → Denval) : (y.onDen f).ptp = y.ptp := rfl
@[simp] theorem Sys.onDen_tios (y : Sys) (f : Denval → Denval) : (y.onDen f).tios = y.tios := rfl
@[simp] theorem Sys.onDen_twin (y : Sys) (f : Denval → Denval) : (y.onDen f).twin = y.twin := rfl
@[simp] theorem Sys.onDen_thermal (y : Sys) (f : Denval → Denval) : (y.onDen f).thermal = y.thermal := rfl
@[simp] theorem Sys.onDen_launches (y : Sys) (f : Denval → Denval) : (y.onDen f).launches = y.launches := rfl
@[simp] theorem Sys.onDen_audioIn (y : Sys) (f : Denval → Denval) : (y.onDen f).audioIn = y.audioIn := rfl
@[simp] theorem Sys.onDen_audioOut (y : Sys) (f : Denval → Denval) : (y.onDen f).audioOut = y.audioOut := rfl
@[simp] theorem Sys.onDen_felley (y : Sys) (f : Denval → Denval) : (y.onDen f).felley = y.felley := rfl
@[simp] theorem Sys.onDen_encs (y : Sys) (f : Denval → Denval) : (y.onDen f).encs = y.encs := rfl
@[simp] theorem Sys.onDen_decs (y : Sys) (f : Denval → Denval) : (y.onDen f).decs = y.decs := rfl
@[simp] theorem Sys.onDen_cores (y : Sys) (f : Denval → Denval) : (y.onDen f).cores = y.cores := rfl
@[simp] theorem Sys.onDen_turn (y : Sys) (f : Denval → Denval) : (y.onDen f).turn = y.turn := rfl
@[simp] theorem Sys.onDen_den (y : Sys) (f : Denval → Denval) : (y.onDen f).den = f y.den := rfl

/-! ## `Sys.setFstream` -/

@[simp] theorem Sys.rd_setFstream (y : Sys) (n : Nat) (v : FelleyStream) (k : Nat) : (y.setFstream n v).rd k = y.rd k := rfl
@[simp] theorem Sys.rdB_setFstream (y : Sys) (n : Nat) (v : FelleyStream) (k : Nat) : (y.setFstream n v).rdB k = y.rdB k := rfl
@[simp] theorem Sys.setFstream_dict (y : Sys) (n : Nat) (v : FelleyStream) : (y.setFstream n v).dict = y.dict := rfl
@[simp] theorem Sys.setFstream_blobs (y : Sys) (n : Nat) (v : FelleyStream) : (y.setFstream n v).blobs = y.blobs := rfl
@[simp] theorem Sys.setFstream_t96 (y : Sys) (n : Nat) (v : FelleyStream) : (y.setFstream n v).t96 = y.t96 := rfl
@[simp] theorem Sys.setFstream_up (y : Sys) (n : Nat) (v : FelleyStream) : (y.setFstream n v).up = y.up := rfl
@[simp] theorem Sys.setFstream_seed (y : Sys) (n : Nat) (v : FelleyStream) : (y.setFstream n v).seed = y.seed := rfl
@[simp] theorem Sys.setFstream_tx (y : Sys) (n : Nat) (v : FelleyStream) : (y.setFstream n v).tx = y.tx := rfl
@[simp] theorem Sys.setFstream_log (y : Sys) (n : Nat) (v : FelleyStream) : (y.setFstream n v).log = y.log := rfl
@[simp] theorem Sys.setFstream_boot (y : Sys) (n : Nat) (v : FelleyStream) : (y.setFstream n v).boot = y.boot := rfl
@[simp] theorem Sys.setFstream_sup (y : Sys) (n : Nat) (v : FelleyStream) : (y.setFstream n v).sup = y.sup := rfl
@[simp] theorem Sys.setFstream_gov (y : Sys) (n : Nat) (v : FelleyStream) : (y.setFstream n v).gov = y.gov := rfl
@[simp] theorem Sys.setFstream_den (y : Sys) (n : Nat) (v : FelleyStream) : (y.setFstream n v).den = y.den := rfl
@[simp] theorem Sys.setFstream_sec (y : Sys) (n : Nat) (v : FelleyStream) : (y.setFstream n v).sec = y.sec := rfl
@[simp] theorem Sys.setFstream_mram (y : Sys) (n : Nat) (v : FelleyStream) : (y.setFstream n v).mram = y.mram := rfl
@[simp] theorem Sys.setFstream_frames (y : Sys) (n : Nat) (v : FelleyStream) : (y.setFstream n v).frames = y.frames := rfl
@[simp] theorem Sys.setFstream_ctxs (y : Sys) (n : Nat) (v : FelleyStream) : (y.setFstream n v).ctxs = y.ctxs := rfl
@[simp] theorem Sys.setFstream_igs (y : Sys) (n : Nat) (v : FelleyStream) : (y.setFstream n v).igs = y.igs := rfl
@[simp] theorem Sys.setFstream_ports (y : Sys) (n : Nat) (v : FelleyStream) : (y.setFstream n v).ports = y.ports := rfl
@[simp] theorem Sys.setFstream_troupes (y : Sys) (n : Nat) (v : FelleyStream) : (y.setFstream n v).troupes = y.troupes := rfl
@[simp] theorem Sys.setFstream_rfes (y : Sys) (n : Nat) (v : FelleyStream) : (y.setFstream n v).rfes = y.rfes := rfl
@[simp] theorem Sys.setFstream_stores (y : Sys) (n : Nat) (v : FelleyStream) : (y.setFstream n v).stores = y.stores := rfl
@[simp] theorem Sys.setFstream_holds (y : Sys) (n : Nat) (v : FelleyStream) : (y.setFstream n v).holds = y.holds := rfl
@[simp] theorem Sys.setFstream_engines (y : Sys) (n : Nat) (v : FelleyStream) : (y.setFstream n v).engines = y.engines := rfl
@[simp] theorem Sys.setFstream_resident (y : Sys) (n : Nat) (v : FelleyStream) : (y.setFstream n v).resident = y.resident := rfl
@[simp] theorem Sys.setFstream_tables (y : Sys) (n : Nat) (v : FelleyStream) : (y.setFstream n v).tables = y.tables := rfl
@[simp] theorem Sys.setFstream_pages (y : Sys) (n : Nat) (v : FelleyStream) : (y.setFstream n v).pages = y.pages := rfl
@[simp] theorem Sys.setFstream_channels (y : Sys) (n : Nat) (v : FelleyStream) : (y.setFstream n v).channels = y.channels := rfl
@[simp] theorem Sys.setFstream_sdis (y : Sys) (n : Nat) (v : FelleyStream) : (y.setFstream n v).sdis = y.sdis := rfl
@[simp] theorem Sys.setFstream_edps (y : Sys) (n : Nat) (v : FelleyStream) : (y.setFstream n v).edps = y.edps := rfl
@[simp] theorem Sys.setFstream_pathsDown (y : Sys) (n : Nat) (v : FelleyStream) : (y.setFstream n v).pathsDown = y.pathsDown := rfl
@[simp] theorem Sys.setFstream_links (y : Sys) (n : Nat) (v : FelleyStream) : (y.setFstream n v).links = y.links := rfl
@[simp] theorem Sys.setFstream_lanes (y : Sys) (n : Nat) (v : FelleyStream) : (y.setFstream n v).lanes = y.lanes := rfl
@[simp] theorem Sys.setFstream_mailboxes (y : Sys) (n : Nat) (v : FelleyStream) : (y.setFstream n v).mailboxes = y.mailboxes := rfl
@[simp] theorem Sys.setFstream_power (y : Sys) (n : Nat) (v : FelleyStream) : (y.setFstream n v).power = y.power := rfl
@[simp] theorem Sys.setFstream_dram (y : Sys) (n : Nat) (v : FelleyStream) : (y.setFstream n v).dram = y.dram := rfl
@[simp] theorem Sys.setFstream_mem (y : Sys) (n : Nat) (v : FelleyStream) : (y.setFstream n v).mem = y.mem := rfl
@[simp] theorem Sys.setFstream_media (y : Sys) (n : Nat) (v : FelleyStream) : (y.setFstream n v).media = y.media := rfl
@[simp] theorem Sys.setFstream_rings (y : Sys) (n : Nat) (v : FelleyStream) : (y.setFstream n v).rings = y.rings := rfl
@[simp] theorem Sys.setFstream_zcs (y : Sys) (n : Nat) (v : FelleyStream) : (y.setFstream n v).zcs = y.zcs := rfl
@[simp] theorem Sys.setFstream_positions (y : Sys) (n : Nat) (v : FelleyStream) : (y.setFstream n v).positions = y.positions := rfl
@[simp] theorem Sys.setFstream_time (y : Sys) (n : Nat) (v : FelleyStream) : (y.setFstream n v).time = y.time := rfl
@[simp] theorem Sys.setFstream_ptp (y : Sys) (n : Nat) (v : FelleyStream) : (y.setFstream n v).ptp = y.ptp := rfl
@[simp] theorem Sys.setFstream_tios (y : Sys) (n : Nat) (v : FelleyStream) : (y.setFstream n v).tios = y.tios := rfl
@[simp] theorem Sys.setFstream_twin (y : Sys) (n : Nat) (v : FelleyStream) : (y.setFstream n v).twin = y.twin := rfl
@[simp] theorem Sys.setFstream_thermal (y : Sys) (n : Nat) (v : FelleyStream) : (y.setFstream n v).thermal = y.thermal := rfl
@[simp] theorem Sys.setFstream_launches (y : Sys) (n : Nat) (v : FelleyStream) : (y.setFstream n v).launches = y.launches := rfl
@[simp] theorem Sys.setFstream_audioIn (y : Sys) (n : Nat) (v : FelleyStream) : (y.setFstream n v).audioIn = y.audioIn := rfl
@[simp] theorem Sys.setFstream_audioOut (y : Sys) (n : Nat) (v : FelleyStream) : (y.setFstream n v).audioOut = y.audioOut := rfl
@[simp] theorem Sys.setFstream_encs (y : Sys) (n : Nat) (v : FelleyStream) : (y.setFstream n v).encs = y.encs := rfl
@[simp] theorem Sys.setFstream_decs (y : Sys) (n : Nat) (v : FelleyStream) : (y.setFstream n v).decs = y.decs := rfl
@[simp] theorem Sys.setFstream_cores (y : Sys) (n : Nat) (v : FelleyStream) : (y.setFstream n v).cores = y.cores := rfl
@[simp] theorem Sys.setFstream_turn (y : Sys) (n : Nat) (v : FelleyStream) : (y.setFstream n v).turn = y.turn := rfl
@[simp] theorem Sys.fstream_setFstream (y : Sys) (n : Nat) (v : FelleyStream) (j : Nat) : (y.setFstream n v).fstream j = if j = n then v else y.fstream j := by
  simp only [Sys.fstream, Sys.setFstream, tget_tset]

/-! ## `Sys.setCtx` -/

@[simp] theorem Sys.rd_setCtx (y : Sys) (n : Nat) (v : Ctx) (k : Nat) : (y.setCtx n v).rd k = y.rd k := rfl
@[simp] theorem Sys.rdB_setCtx (y : Sys) (n : Nat) (v : Ctx) (k : Nat) : (y.setCtx n v).rdB k = y.rdB k := rfl
@[simp] theorem Sys.setCtx_dict (y : Sys) (n : Nat) (v : Ctx) : (y.setCtx n v).dict = y.dict := rfl
@[simp] theorem Sys.setCtx_blobs (y : Sys) (n : Nat) (v : Ctx) : (y.setCtx n v).blobs = y.blobs := rfl
@[simp] theorem Sys.setCtx_t96 (y : Sys) (n : Nat) (v : Ctx) : (y.setCtx n v).t96 = y.t96 := rfl
@[simp] theorem Sys.setCtx_up (y : Sys) (n : Nat) (v : Ctx) : (y.setCtx n v).up = y.up := rfl
@[simp] theorem Sys.setCtx_seed (y : Sys) (n : Nat) (v : Ctx) : (y.setCtx n v).seed = y.seed := rfl
@[simp] theorem Sys.setCtx_tx (y : Sys) (n : Nat) (v : Ctx) : (y.setCtx n v).tx = y.tx := rfl
@[simp] theorem Sys.setCtx_log (y : Sys) (n : Nat) (v : Ctx) : (y.setCtx n v).log = y.log := rfl
@[simp] theorem Sys.setCtx_boot (y : Sys) (n : Nat) (v : Ctx) : (y.setCtx n v).boot = y.boot := rfl
@[simp] theorem Sys.setCtx_sup (y : Sys) (n : Nat) (v : Ctx) : (y.setCtx n v).sup = y.sup := rfl
@[simp] theorem Sys.setCtx_gov (y : Sys) (n : Nat) (v : Ctx) : (y.setCtx n v).gov = y.gov := rfl
@[simp] theorem Sys.setCtx_den (y : Sys) (n : Nat) (v : Ctx) : (y.setCtx n v).den = y.den := rfl
@[simp] theorem Sys.setCtx_sec (y : Sys) (n : Nat) (v : Ctx) : (y.setCtx n v).sec = y.sec := rfl
@[simp] theorem Sys.setCtx_mram (y : Sys) (n : Nat) (v : Ctx) : (y.setCtx n v).mram = y.mram := rfl
@[simp] theorem Sys.setCtx_frames (y : Sys) (n : Nat) (v : Ctx) : (y.setCtx n v).frames = y.frames := rfl
@[simp] theorem Sys.setCtx_igs (y : Sys) (n : Nat) (v : Ctx) : (y.setCtx n v).igs = y.igs := rfl
@[simp] theorem Sys.setCtx_ports (y : Sys) (n : Nat) (v : Ctx) : (y.setCtx n v).ports = y.ports := rfl
@[simp] theorem Sys.setCtx_troupes (y : Sys) (n : Nat) (v : Ctx) : (y.setCtx n v).troupes = y.troupes := rfl
@[simp] theorem Sys.setCtx_rfes (y : Sys) (n : Nat) (v : Ctx) : (y.setCtx n v).rfes = y.rfes := rfl
@[simp] theorem Sys.setCtx_stores (y : Sys) (n : Nat) (v : Ctx) : (y.setCtx n v).stores = y.stores := rfl
@[simp] theorem Sys.setCtx_holds (y : Sys) (n : Nat) (v : Ctx) : (y.setCtx n v).holds = y.holds := rfl
@[simp] theorem Sys.setCtx_engines (y : Sys) (n : Nat) (v : Ctx) : (y.setCtx n v).engines = y.engines := rfl
@[simp] theorem Sys.setCtx_resident (y : Sys) (n : Nat) (v : Ctx) : (y.setCtx n v).resident = y.resident := rfl
@[simp] theorem Sys.setCtx_tables (y : Sys) (n : Nat) (v : Ctx) : (y.setCtx n v).tables = y.tables := rfl
@[simp] theorem Sys.setCtx_pages (y : Sys) (n : Nat) (v : Ctx) : (y.setCtx n v).pages = y.pages := rfl
@[simp] theorem Sys.setCtx_channels (y : Sys) (n : Nat) (v : Ctx) : (y.setCtx n v).channels = y.channels := rfl
@[simp] theorem Sys.setCtx_sdis (y : Sys) (n : Nat) (v : Ctx) : (y.setCtx n v).sdis = y.sdis := rfl
@[simp] theorem Sys.setCtx_edps (y : Sys) (n : Nat) (v : Ctx) : (y.setCtx n v).edps = y.edps := rfl
@[simp] theorem Sys.setCtx_pathsDown (y : Sys) (n : Nat) (v : Ctx) : (y.setCtx n v).pathsDown = y.pathsDown := rfl
@[simp] theorem Sys.setCtx_links (y : Sys) (n : Nat) (v : Ctx) : (y.setCtx n v).links = y.links := rfl
@[simp] theorem Sys.setCtx_lanes (y : Sys) (n : Nat) (v : Ctx) : (y.setCtx n v).lanes = y.lanes := rfl
@[simp] theorem Sys.setCtx_mailboxes (y : Sys) (n : Nat) (v : Ctx) : (y.setCtx n v).mailboxes = y.mailboxes := rfl
@[simp] theorem Sys.setCtx_power (y : Sys) (n : Nat) (v : Ctx) : (y.setCtx n v).power = y.power := rfl
@[simp] theorem Sys.setCtx_dram (y : Sys) (n : Nat) (v : Ctx) : (y.setCtx n v).dram = y.dram := rfl
@[simp] theorem Sys.setCtx_mem (y : Sys) (n : Nat) (v : Ctx) : (y.setCtx n v).mem = y.mem := rfl
@[simp] theorem Sys.setCtx_media (y : Sys) (n : Nat) (v : Ctx) : (y.setCtx n v).media = y.media := rfl
@[simp] theorem Sys.setCtx_rings (y : Sys) (n : Nat) (v : Ctx) : (y.setCtx n v).rings = y.rings := rfl
@[simp] theorem Sys.setCtx_zcs (y : Sys) (n : Nat) (v : Ctx) : (y.setCtx n v).zcs = y.zcs := rfl
@[simp] theorem Sys.setCtx_positions (y : Sys) (n : Nat) (v : Ctx) : (y.setCtx n v).positions = y.positions := rfl
@[simp] theorem Sys.setCtx_time (y : Sys) (n : Nat) (v : Ctx) : (y.setCtx n v).time = y.time := rfl
@[simp] theorem Sys.setCtx_ptp (y : Sys) (n : Nat) (v : Ctx) : (y.setCtx n v).ptp = y.ptp := rfl
@[simp] theorem Sys.setCtx_tios (y : Sys) (n : Nat) (v : Ctx) : (y.setCtx n v).tios = y.tios := rfl
@[simp] theorem Sys.setCtx_twin (y : Sys) (n : Nat) (v : Ctx) : (y.setCtx n v).twin = y.twin := rfl
@[simp] theorem Sys.setCtx_thermal (y : Sys) (n : Nat) (v : Ctx) : (y.setCtx n v).thermal = y.thermal := rfl
@[simp] theorem Sys.setCtx_launches (y : Sys) (n : Nat) (v : Ctx) : (y.setCtx n v).launches = y.launches := rfl
@[simp] theorem Sys.setCtx_audioIn (y : Sys) (n : Nat) (v : Ctx) : (y.setCtx n v).audioIn = y.audioIn := rfl
@[simp] theorem Sys.setCtx_audioOut (y : Sys) (n : Nat) (v : Ctx) : (y.setCtx n v).audioOut = y.audioOut := rfl
@[simp] theorem Sys.setCtx_felley (y : Sys) (n : Nat) (v : Ctx) : (y.setCtx n v).felley = y.felley := rfl
@[simp] theorem Sys.setCtx_encs (y : Sys) (n : Nat) (v : Ctx) : (y.setCtx n v).encs = y.encs := rfl
@[simp] theorem Sys.setCtx_decs (y : Sys) (n : Nat) (v : Ctx) : (y.setCtx n v).decs = y.decs := rfl
@[simp] theorem Sys.setCtx_cores (y : Sys) (n : Nat) (v : Ctx) : (y.setCtx n v).cores = y.cores := rfl
@[simp] theorem Sys.setCtx_turn (y : Sys) (n : Nat) (v : Ctx) : (y.setCtx n v).turn = y.turn := rfl
@[simp] theorem Sys.ctx_setCtx (y : Sys) (n : Nat) (v : Ctx) (j : Nat) : (y.setCtx n v).ctx j = if j = n then v else y.ctx j := by
  simp only [Sys.ctx, Sys.setCtx, tget_tset]

/-! ## `Sys.setIg` -/

@[simp] theorem Sys.rd_setIg (y : Sys) (n : Nat) (v : IngestGroup) (k : Nat) : (y.setIg n v).rd k = y.rd k := rfl
@[simp] theorem Sys.rdB_setIg (y : Sys) (n : Nat) (v : IngestGroup) (k : Nat) : (y.setIg n v).rdB k = y.rdB k := rfl
@[simp] theorem Sys.setIg_dict (y : Sys) (n : Nat) (v : IngestGroup) : (y.setIg n v).dict = y.dict := rfl
@[simp] theorem Sys.setIg_blobs (y : Sys) (n : Nat) (v : IngestGroup) : (y.setIg n v).blobs = y.blobs := rfl
@[simp] theorem Sys.setIg_t96 (y : Sys) (n : Nat) (v : IngestGroup) : (y.setIg n v).t96 = y.t96 := rfl
@[simp] theorem Sys.setIg_up (y : Sys) (n : Nat) (v : IngestGroup) : (y.setIg n v).up = y.up := rfl
@[simp] theorem Sys.setIg_seed (y : Sys) (n : Nat) (v : IngestGroup) : (y.setIg n v).seed = y.seed := rfl
@[simp] theorem Sys.setIg_tx (y : Sys) (n : Nat) (v : IngestGroup) : (y.setIg n v).tx = y.tx := rfl
@[simp] theorem Sys.setIg_log (y : Sys) (n : Nat) (v : IngestGroup) : (y.setIg n v).log = y.log := rfl
@[simp] theorem Sys.setIg_boot (y : Sys) (n : Nat) (v : IngestGroup) : (y.setIg n v).boot = y.boot := rfl
@[simp] theorem Sys.setIg_sup (y : Sys) (n : Nat) (v : IngestGroup) : (y.setIg n v).sup = y.sup := rfl
@[simp] theorem Sys.setIg_gov (y : Sys) (n : Nat) (v : IngestGroup) : (y.setIg n v).gov = y.gov := rfl
@[simp] theorem Sys.setIg_den (y : Sys) (n : Nat) (v : IngestGroup) : (y.setIg n v).den = y.den := rfl
@[simp] theorem Sys.setIg_sec (y : Sys) (n : Nat) (v : IngestGroup) : (y.setIg n v).sec = y.sec := rfl
@[simp] theorem Sys.setIg_mram (y : Sys) (n : Nat) (v : IngestGroup) : (y.setIg n v).mram = y.mram := rfl
@[simp] theorem Sys.setIg_frames (y : Sys) (n : Nat) (v : IngestGroup) : (y.setIg n v).frames = y.frames := rfl
@[simp] theorem Sys.setIg_ctxs (y : Sys) (n : Nat) (v : IngestGroup) : (y.setIg n v).ctxs = y.ctxs := rfl
@[simp] theorem Sys.setIg_ports (y : Sys) (n : Nat) (v : IngestGroup) : (y.setIg n v).ports = y.ports := rfl
@[simp] theorem Sys.setIg_troupes (y : Sys) (n : Nat) (v : IngestGroup) : (y.setIg n v).troupes = y.troupes := rfl
@[simp] theorem Sys.setIg_rfes (y : Sys) (n : Nat) (v : IngestGroup) : (y.setIg n v).rfes = y.rfes := rfl
@[simp] theorem Sys.setIg_stores (y : Sys) (n : Nat) (v : IngestGroup) : (y.setIg n v).stores = y.stores := rfl
@[simp] theorem Sys.setIg_holds (y : Sys) (n : Nat) (v : IngestGroup) : (y.setIg n v).holds = y.holds := rfl
@[simp] theorem Sys.setIg_engines (y : Sys) (n : Nat) (v : IngestGroup) : (y.setIg n v).engines = y.engines := rfl
@[simp] theorem Sys.setIg_resident (y : Sys) (n : Nat) (v : IngestGroup) : (y.setIg n v).resident = y.resident := rfl
@[simp] theorem Sys.setIg_tables (y : Sys) (n : Nat) (v : IngestGroup) : (y.setIg n v).tables = y.tables := rfl
@[simp] theorem Sys.setIg_pages (y : Sys) (n : Nat) (v : IngestGroup) : (y.setIg n v).pages = y.pages := rfl
@[simp] theorem Sys.setIg_channels (y : Sys) (n : Nat) (v : IngestGroup) : (y.setIg n v).channels = y.channels := rfl
@[simp] theorem Sys.setIg_sdis (y : Sys) (n : Nat) (v : IngestGroup) : (y.setIg n v).sdis = y.sdis := rfl
@[simp] theorem Sys.setIg_edps (y : Sys) (n : Nat) (v : IngestGroup) : (y.setIg n v).edps = y.edps := rfl
@[simp] theorem Sys.setIg_pathsDown (y : Sys) (n : Nat) (v : IngestGroup) : (y.setIg n v).pathsDown = y.pathsDown := rfl
@[simp] theorem Sys.setIg_links (y : Sys) (n : Nat) (v : IngestGroup) : (y.setIg n v).links = y.links := rfl
@[simp] theorem Sys.setIg_lanes (y : Sys) (n : Nat) (v : IngestGroup) : (y.setIg n v).lanes = y.lanes := rfl
@[simp] theorem Sys.setIg_mailboxes (y : Sys) (n : Nat) (v : IngestGroup) : (y.setIg n v).mailboxes = y.mailboxes := rfl
@[simp] theorem Sys.setIg_power (y : Sys) (n : Nat) (v : IngestGroup) : (y.setIg n v).power = y.power := rfl
@[simp] theorem Sys.setIg_dram (y : Sys) (n : Nat) (v : IngestGroup) : (y.setIg n v).dram = y.dram := rfl
@[simp] theorem Sys.setIg_mem (y : Sys) (n : Nat) (v : IngestGroup) : (y.setIg n v).mem = y.mem := rfl
@[simp] theorem Sys.setIg_media (y : Sys) (n : Nat) (v : IngestGroup) : (y.setIg n v).media = y.media := rfl
@[simp] theorem Sys.setIg_rings (y : Sys) (n : Nat) (v : IngestGroup) : (y.setIg n v).rings = y.rings := rfl
@[simp] theorem Sys.setIg_zcs (y : Sys) (n : Nat) (v : IngestGroup) : (y.setIg n v).zcs = y.zcs := rfl
@[simp] theorem Sys.setIg_positions (y : Sys) (n : Nat) (v : IngestGroup) : (y.setIg n v).positions = y.positions := rfl
@[simp] theorem Sys.setIg_time (y : Sys) (n : Nat) (v : IngestGroup) : (y.setIg n v).time = y.time := rfl
@[simp] theorem Sys.setIg_ptp (y : Sys) (n : Nat) (v : IngestGroup) : (y.setIg n v).ptp = y.ptp := rfl
@[simp] theorem Sys.setIg_tios (y : Sys) (n : Nat) (v : IngestGroup) : (y.setIg n v).tios = y.tios := rfl
@[simp] theorem Sys.setIg_twin (y : Sys) (n : Nat) (v : IngestGroup) : (y.setIg n v).twin = y.twin := rfl
@[simp] theorem Sys.setIg_thermal (y : Sys) (n : Nat) (v : IngestGroup) : (y.setIg n v).thermal = y.thermal := rfl
@[simp] theorem Sys.setIg_launches (y : Sys) (n : Nat) (v : IngestGroup) : (y.setIg n v).launches = y.launches := rfl
@[simp] theorem Sys.setIg_audioIn (y : Sys) (n : Nat) (v : IngestGroup) : (y.setIg n v).audioIn = y.audioIn := rfl
@[simp] theorem Sys.setIg_audioOut (y : Sys) (n : Nat) (v : IngestGroup) : (y.setIg n v).audioOut = y.audioOut := rfl
@[simp] theorem Sys.setIg_felley (y : Sys) (n : Nat) (v : IngestGroup) : (y.setIg n v).felley = y.felley := rfl
@[simp] theorem Sys.setIg_encs (y : Sys) (n : Nat) (v : IngestGroup) : (y.setIg n v).encs = y.encs := rfl
@[simp] theorem Sys.setIg_decs (y : Sys) (n : Nat) (v : IngestGroup) : (y.setIg n v).decs = y.decs := rfl
@[simp] theorem Sys.setIg_cores (y : Sys) (n : Nat) (v : IngestGroup) : (y.setIg n v).cores = y.cores := rfl
@[simp] theorem Sys.setIg_turn (y : Sys) (n : Nat) (v : IngestGroup) : (y.setIg n v).turn = y.turn := rfl
@[simp] theorem Sys.ig_setIg (y : Sys) (n : Nat) (v : IngestGroup) (j : Nat) : (y.setIg n v).ig j = if j = n then v else y.ig j := by
  simp only [Sys.ig, Sys.setIg, tget_tset]

/-! ## `Sys.setPort` -/

@[simp] theorem Sys.rd_setPort (y : Sys) (n : Nat) (v : SensorPort) (k : Nat) : (y.setPort n v).rd k = y.rd k := rfl
@[simp] theorem Sys.rdB_setPort (y : Sys) (n : Nat) (v : SensorPort) (k : Nat) : (y.setPort n v).rdB k = y.rdB k := rfl
@[simp] theorem Sys.setPort_dict (y : Sys) (n : Nat) (v : SensorPort) : (y.setPort n v).dict = y.dict := rfl
@[simp] theorem Sys.setPort_blobs (y : Sys) (n : Nat) (v : SensorPort) : (y.setPort n v).blobs = y.blobs := rfl
@[simp] theorem Sys.setPort_t96 (y : Sys) (n : Nat) (v : SensorPort) : (y.setPort n v).t96 = y.t96 := rfl
@[simp] theorem Sys.setPort_up (y : Sys) (n : Nat) (v : SensorPort) : (y.setPort n v).up = y.up := rfl
@[simp] theorem Sys.setPort_seed (y : Sys) (n : Nat) (v : SensorPort) : (y.setPort n v).seed = y.seed := rfl
@[simp] theorem Sys.setPort_tx (y : Sys) (n : Nat) (v : SensorPort) : (y.setPort n v).tx = y.tx := rfl
@[simp] theorem Sys.setPort_log (y : Sys) (n : Nat) (v : SensorPort) : (y.setPort n v).log = y.log := rfl
@[simp] theorem Sys.setPort_boot (y : Sys) (n : Nat) (v : SensorPort) : (y.setPort n v).boot = y.boot := rfl
@[simp] theorem Sys.setPort_sup (y : Sys) (n : Nat) (v : SensorPort) : (y.setPort n v).sup = y.sup := rfl
@[simp] theorem Sys.setPort_gov (y : Sys) (n : Nat) (v : SensorPort) : (y.setPort n v).gov = y.gov := rfl
@[simp] theorem Sys.setPort_den (y : Sys) (n : Nat) (v : SensorPort) : (y.setPort n v).den = y.den := rfl
@[simp] theorem Sys.setPort_sec (y : Sys) (n : Nat) (v : SensorPort) : (y.setPort n v).sec = y.sec := rfl
@[simp] theorem Sys.setPort_mram (y : Sys) (n : Nat) (v : SensorPort) : (y.setPort n v).mram = y.mram := rfl
@[simp] theorem Sys.setPort_frames (y : Sys) (n : Nat) (v : SensorPort) : (y.setPort n v).frames = y.frames := rfl
@[simp] theorem Sys.setPort_ctxs (y : Sys) (n : Nat) (v : SensorPort) : (y.setPort n v).ctxs = y.ctxs := rfl
@[simp] theorem Sys.setPort_igs (y : Sys) (n : Nat) (v : SensorPort) : (y.setPort n v).igs = y.igs := rfl
@[simp] theorem Sys.setPort_troupes (y : Sys) (n : Nat) (v : SensorPort) : (y.setPort n v).troupes = y.troupes := rfl
@[simp] theorem Sys.setPort_rfes (y : Sys) (n : Nat) (v : SensorPort) : (y.setPort n v).rfes = y.rfes := rfl
@[simp] theorem Sys.setPort_stores (y : Sys) (n : Nat) (v : SensorPort) : (y.setPort n v).stores = y.stores := rfl
@[simp] theorem Sys.setPort_holds (y : Sys) (n : Nat) (v : SensorPort) : (y.setPort n v).holds = y.holds := rfl
@[simp] theorem Sys.setPort_engines (y : Sys) (n : Nat) (v : SensorPort) : (y.setPort n v).engines = y.engines := rfl
@[simp] theorem Sys.setPort_resident (y : Sys) (n : Nat) (v : SensorPort) : (y.setPort n v).resident = y.resident := rfl
@[simp] theorem Sys.setPort_tables (y : Sys) (n : Nat) (v : SensorPort) : (y.setPort n v).tables = y.tables := rfl
@[simp] theorem Sys.setPort_pages (y : Sys) (n : Nat) (v : SensorPort) : (y.setPort n v).pages = y.pages := rfl
@[simp] theorem Sys.setPort_channels (y : Sys) (n : Nat) (v : SensorPort) : (y.setPort n v).channels = y.channels := rfl
@[simp] theorem Sys.setPort_sdis (y : Sys) (n : Nat) (v : SensorPort) : (y.setPort n v).sdis = y.sdis := rfl
@[simp] theorem Sys.setPort_edps (y : Sys) (n : Nat) (v : SensorPort) : (y.setPort n v).edps = y.edps := rfl
@[simp] theorem Sys.setPort_pathsDown (y : Sys) (n : Nat) (v : SensorPort) : (y.setPort n v).pathsDown = y.pathsDown := rfl
@[simp] theorem Sys.setPort_links (y : Sys) (n : Nat) (v : SensorPort) : (y.setPort n v).links = y.links := rfl
@[simp] theorem Sys.setPort_lanes (y : Sys) (n : Nat) (v : SensorPort) : (y.setPort n v).lanes = y.lanes := rfl
@[simp] theorem Sys.setPort_mailboxes (y : Sys) (n : Nat) (v : SensorPort) : (y.setPort n v).mailboxes = y.mailboxes := rfl
@[simp] theorem Sys.setPort_power (y : Sys) (n : Nat) (v : SensorPort) : (y.setPort n v).power = y.power := rfl
@[simp] theorem Sys.setPort_dram (y : Sys) (n : Nat) (v : SensorPort) : (y.setPort n v).dram = y.dram := rfl
@[simp] theorem Sys.setPort_mem (y : Sys) (n : Nat) (v : SensorPort) : (y.setPort n v).mem = y.mem := rfl
@[simp] theorem Sys.setPort_media (y : Sys) (n : Nat) (v : SensorPort) : (y.setPort n v).media = y.media := rfl
@[simp] theorem Sys.setPort_rings (y : Sys) (n : Nat) (v : SensorPort) : (y.setPort n v).rings = y.rings := rfl
@[simp] theorem Sys.setPort_zcs (y : Sys) (n : Nat) (v : SensorPort) : (y.setPort n v).zcs = y.zcs := rfl
@[simp] theorem Sys.setPort_positions (y : Sys) (n : Nat) (v : SensorPort) : (y.setPort n v).positions = y.positions := rfl
@[simp] theorem Sys.setPort_time (y : Sys) (n : Nat) (v : SensorPort) : (y.setPort n v).time = y.time := rfl
@[simp] theorem Sys.setPort_ptp (y : Sys) (n : Nat) (v : SensorPort) : (y.setPort n v).ptp = y.ptp := rfl
@[simp] theorem Sys.setPort_tios (y : Sys) (n : Nat) (v : SensorPort) : (y.setPort n v).tios = y.tios := rfl
@[simp] theorem Sys.setPort_twin (y : Sys) (n : Nat) (v : SensorPort) : (y.setPort n v).twin = y.twin := rfl
@[simp] theorem Sys.setPort_thermal (y : Sys) (n : Nat) (v : SensorPort) : (y.setPort n v).thermal = y.thermal := rfl
@[simp] theorem Sys.setPort_launches (y : Sys) (n : Nat) (v : SensorPort) : (y.setPort n v).launches = y.launches := rfl
@[simp] theorem Sys.setPort_audioIn (y : Sys) (n : Nat) (v : SensorPort) : (y.setPort n v).audioIn = y.audioIn := rfl
@[simp] theorem Sys.setPort_audioOut (y : Sys) (n : Nat) (v : SensorPort) : (y.setPort n v).audioOut = y.audioOut := rfl
@[simp] theorem Sys.setPort_felley (y : Sys) (n : Nat) (v : SensorPort) : (y.setPort n v).felley = y.felley := rfl
@[simp] theorem Sys.setPort_encs (y : Sys) (n : Nat) (v : SensorPort) : (y.setPort n v).encs = y.encs := rfl
@[simp] theorem Sys.setPort_decs (y : Sys) (n : Nat) (v : SensorPort) : (y.setPort n v).decs = y.decs := rfl
@[simp] theorem Sys.setPort_cores (y : Sys) (n : Nat) (v : SensorPort) : (y.setPort n v).cores = y.cores := rfl
@[simp] theorem Sys.setPort_turn (y : Sys) (n : Nat) (v : SensorPort) : (y.setPort n v).turn = y.turn := rfl
@[simp] theorem Sys.port_setPort (y : Sys) (n : Nat) (v : SensorPort) (j : Nat) : (y.setPort n v).port j = if j = n then v else y.port j := by
  simp only [Sys.port, Sys.setPort, tget_tset]

/-! ## `Sys.setTroupe` -/

@[simp] theorem Sys.rd_setTroupe (y : Sys) (n : Nat) (v : Troupe) (k : Nat) : (y.setTroupe n v).rd k = y.rd k := rfl
@[simp] theorem Sys.rdB_setTroupe (y : Sys) (n : Nat) (v : Troupe) (k : Nat) : (y.setTroupe n v).rdB k = y.rdB k := rfl
@[simp] theorem Sys.setTroupe_dict (y : Sys) (n : Nat) (v : Troupe) : (y.setTroupe n v).dict = y.dict := rfl
@[simp] theorem Sys.setTroupe_blobs (y : Sys) (n : Nat) (v : Troupe) : (y.setTroupe n v).blobs = y.blobs := rfl
@[simp] theorem Sys.setTroupe_t96 (y : Sys) (n : Nat) (v : Troupe) : (y.setTroupe n v).t96 = y.t96 := rfl
@[simp] theorem Sys.setTroupe_up (y : Sys) (n : Nat) (v : Troupe) : (y.setTroupe n v).up = y.up := rfl
@[simp] theorem Sys.setTroupe_seed (y : Sys) (n : Nat) (v : Troupe) : (y.setTroupe n v).seed = y.seed := rfl
@[simp] theorem Sys.setTroupe_tx (y : Sys) (n : Nat) (v : Troupe) : (y.setTroupe n v).tx = y.tx := rfl
@[simp] theorem Sys.setTroupe_log (y : Sys) (n : Nat) (v : Troupe) : (y.setTroupe n v).log = y.log := rfl
@[simp] theorem Sys.setTroupe_boot (y : Sys) (n : Nat) (v : Troupe) : (y.setTroupe n v).boot = y.boot := rfl
@[simp] theorem Sys.setTroupe_sup (y : Sys) (n : Nat) (v : Troupe) : (y.setTroupe n v).sup = y.sup := rfl
@[simp] theorem Sys.setTroupe_gov (y : Sys) (n : Nat) (v : Troupe) : (y.setTroupe n v).gov = y.gov := rfl
@[simp] theorem Sys.setTroupe_den (y : Sys) (n : Nat) (v : Troupe) : (y.setTroupe n v).den = y.den := rfl
@[simp] theorem Sys.setTroupe_sec (y : Sys) (n : Nat) (v : Troupe) : (y.setTroupe n v).sec = y.sec := rfl
@[simp] theorem Sys.setTroupe_mram (y : Sys) (n : Nat) (v : Troupe) : (y.setTroupe n v).mram = y.mram := rfl
@[simp] theorem Sys.setTroupe_frames (y : Sys) (n : Nat) (v : Troupe) : (y.setTroupe n v).frames = y.frames := rfl
@[simp] theorem Sys.setTroupe_ctxs (y : Sys) (n : Nat) (v : Troupe) : (y.setTroupe n v).ctxs = y.ctxs := rfl
@[simp] theorem Sys.setTroupe_igs (y : Sys) (n : Nat) (v : Troupe) : (y.setTroupe n v).igs = y.igs := rfl
@[simp] theorem Sys.setTroupe_ports (y : Sys) (n : Nat) (v : Troupe) : (y.setTroupe n v).ports = y.ports := rfl
@[simp] theorem Sys.setTroupe_rfes (y : Sys) (n : Nat) (v : Troupe) : (y.setTroupe n v).rfes = y.rfes := rfl
@[simp] theorem Sys.setTroupe_stores (y : Sys) (n : Nat) (v : Troupe) : (y.setTroupe n v).stores = y.stores := rfl
@[simp] theorem Sys.setTroupe_holds (y : Sys) (n : Nat) (v : Troupe) : (y.setTroupe n v).holds = y.holds := rfl
@[simp] theorem Sys.setTroupe_engines (y : Sys) (n : Nat) (v : Troupe) : (y.setTroupe n v).engines = y.engines := rfl
@[simp] theorem Sys.setTroupe_resident (y : Sys) (n : Nat) (v : Troupe) : (y.setTroupe n v).resident = y.resident := rfl
@[simp] theorem Sys.setTroupe_tables (y : Sys) (n : Nat) (v : Troupe) : (y.setTroupe n v).tables = y.tables := rfl
@[simp] theorem Sys.setTroupe_pages (y : Sys) (n : Nat) (v : Troupe) : (y.setTroupe n v).pages = y.pages := rfl
@[simp] theorem Sys.setTroupe_channels (y : Sys) (n : Nat) (v : Troupe) : (y.setTroupe n v).channels = y.channels := rfl
@[simp] theorem Sys.setTroupe_sdis (y : Sys) (n : Nat) (v : Troupe) : (y.setTroupe n v).sdis = y.sdis := rfl
@[simp] theorem Sys.setTroupe_edps (y : Sys) (n : Nat) (v : Troupe) : (y.setTroupe n v).edps = y.edps := rfl
@[simp] theorem Sys.setTroupe_pathsDown (y : Sys) (n : Nat) (v : Troupe) : (y.setTroupe n v).pathsDown = y.pathsDown := rfl
@[simp] theorem Sys.setTroupe_links (y : Sys) (n : Nat) (v : Troupe) : (y.setTroupe n v).links = y.links := rfl
@[simp] theorem Sys.setTroupe_lanes (y : Sys) (n : Nat) (v : Troupe) : (y.setTroupe n v).lanes = y.lanes := rfl
@[simp] theorem Sys.setTroupe_mailboxes (y : Sys) (n : Nat) (v : Troupe) : (y.setTroupe n v).mailboxes = y.mailboxes := rfl
@[simp] theorem Sys.setTroupe_power (y : Sys) (n : Nat) (v : Troupe) : (y.setTroupe n v).power = y.power := rfl
@[simp] theorem Sys.setTroupe_dram (y : Sys) (n : Nat) (v : Troupe) : (y.setTroupe n v).dram = y.dram := rfl
@[simp] theorem Sys.setTroupe_mem (y : Sys) (n : Nat) (v : Troupe) : (y.setTroupe n v).mem = y.mem := rfl
@[simp] theorem Sys.setTroupe_media (y : Sys) (n : Nat) (v : Troupe) : (y.setTroupe n v).media = y.media := rfl
@[simp] theorem Sys.setTroupe_rings (y : Sys) (n : Nat) (v : Troupe) : (y.setTroupe n v).rings = y.rings := rfl
@[simp] theorem Sys.setTroupe_zcs (y : Sys) (n : Nat) (v : Troupe) : (y.setTroupe n v).zcs = y.zcs := rfl
@[simp] theorem Sys.setTroupe_positions (y : Sys) (n : Nat) (v : Troupe) : (y.setTroupe n v).positions = y.positions := rfl
@[simp] theorem Sys.setTroupe_time (y : Sys) (n : Nat) (v : Troupe) : (y.setTroupe n v).time = y.time := rfl
@[simp] theorem Sys.setTroupe_ptp (y : Sys) (n : Nat) (v : Troupe) : (y.setTroupe n v).ptp = y.ptp := rfl
@[simp] theorem Sys.setTroupe_tios (y : Sys) (n : Nat) (v : Troupe) : (y.setTroupe n v).tios = y.tios := rfl
@[simp] theorem Sys.setTroupe_twin (y : Sys) (n : Nat) (v : Troupe) : (y.setTroupe n v).twin = y.twin := rfl
@[simp] theorem Sys.setTroupe_thermal (y : Sys) (n : Nat) (v : Troupe) : (y.setTroupe n v).thermal = y.thermal := rfl
@[simp] theorem Sys.setTroupe_launches (y : Sys) (n : Nat) (v : Troupe) : (y.setTroupe n v).launches = y.launches := rfl
@[simp] theorem Sys.setTroupe_audioIn (y : Sys) (n : Nat) (v : Troupe) : (y.setTroupe n v).audioIn = y.audioIn := rfl
@[simp] theorem Sys.setTroupe_audioOut (y : Sys) (n : Nat) (v : Troupe) : (y.setTroupe n v).audioOut = y.audioOut := rfl
@[simp] theorem Sys.setTroupe_felley (y : Sys) (n : Nat) (v : Troupe) : (y.setTroupe n v).felley = y.felley := rfl
@[simp] theorem Sys.setTroupe_encs (y : Sys) (n : Nat) (v : Troupe) : (y.setTroupe n v).encs = y.encs := rfl
@[simp] theorem Sys.setTroupe_decs (y : Sys) (n : Nat) (v : Troupe) : (y.setTroupe n v).decs = y.decs := rfl
@[simp] theorem Sys.setTroupe_cores (y : Sys) (n : Nat) (v : Troupe) : (y.setTroupe n v).cores = y.cores := rfl
@[simp] theorem Sys.setTroupe_turn (y : Sys) (n : Nat) (v : Troupe) : (y.setTroupe n v).turn = y.turn := rfl
@[simp] theorem Sys.troupe_setTroupe (y : Sys) (n : Nat) (v : Troupe) (j : Nat) : (y.setTroupe n v).troupe j = if j = n then v else y.troupe j := by
  simp only [Sys.troupe, Sys.setTroupe, tget_tset]

/-! ## `Sys.setRfe` -/

@[simp] theorem Sys.rd_setRfe (y : Sys) (n : Nat) (v : Rfe) (k : Nat) : (y.setRfe n v).rd k = y.rd k := rfl
@[simp] theorem Sys.rdB_setRfe (y : Sys) (n : Nat) (v : Rfe) (k : Nat) : (y.setRfe n v).rdB k = y.rdB k := rfl
@[simp] theorem Sys.setRfe_dict (y : Sys) (n : Nat) (v : Rfe) : (y.setRfe n v).dict = y.dict := rfl
@[simp] theorem Sys.setRfe_blobs (y : Sys) (n : Nat) (v : Rfe) : (y.setRfe n v).blobs = y.blobs := rfl
@[simp] theorem Sys.setRfe_t96 (y : Sys) (n : Nat) (v : Rfe) : (y.setRfe n v).t96 = y.t96 := rfl
@[simp] theorem Sys.setRfe_up (y : Sys) (n : Nat) (v : Rfe) : (y.setRfe n v).up = y.up := rfl
@[simp] theorem Sys.setRfe_seed (y : Sys) (n : Nat) (v : Rfe) : (y.setRfe n v).seed = y.seed := rfl
@[simp] theorem Sys.setRfe_tx (y : Sys) (n : Nat) (v : Rfe) : (y.setRfe n v).tx = y.tx := rfl
@[simp] theorem Sys.setRfe_log (y : Sys) (n : Nat) (v : Rfe) : (y.setRfe n v).log = y.log := rfl
@[simp] theorem Sys.setRfe_boot (y : Sys) (n : Nat) (v : Rfe) : (y.setRfe n v).boot = y.boot := rfl
@[simp] theorem Sys.setRfe_sup (y : Sys) (n : Nat) (v : Rfe) : (y.setRfe n v).sup = y.sup := rfl
@[simp] theorem Sys.setRfe_gov (y : Sys) (n : Nat) (v : Rfe) : (y.setRfe n v).gov = y.gov := rfl
@[simp] theorem Sys.setRfe_den (y : Sys) (n : Nat) (v : Rfe) : (y.setRfe n v).den = y.den := rfl
@[simp] theorem Sys.setRfe_sec (y : Sys) (n : Nat) (v : Rfe) : (y.setRfe n v).sec = y.sec := rfl
@[simp] theorem Sys.setRfe_mram (y : Sys) (n : Nat) (v : Rfe) : (y.setRfe n v).mram = y.mram := rfl
@[simp] theorem Sys.setRfe_frames (y : Sys) (n : Nat) (v : Rfe) : (y.setRfe n v).frames = y.frames := rfl
@[simp] theorem Sys.setRfe_ctxs (y : Sys) (n : Nat) (v : Rfe) : (y.setRfe n v).ctxs = y.ctxs := rfl
@[simp] theorem Sys.setRfe_igs (y : Sys) (n : Nat) (v : Rfe) : (y.setRfe n v).igs = y.igs := rfl
@[simp] theorem Sys.setRfe_ports (y : Sys) (n : Nat) (v : Rfe) : (y.setRfe n v).ports = y.ports := rfl
@[simp] theorem Sys.setRfe_troupes (y : Sys) (n : Nat) (v : Rfe) : (y.setRfe n v).troupes = y.troupes := rfl
@[simp] theorem Sys.setRfe_stores (y : Sys) (n : Nat) (v : Rfe) : (y.setRfe n v).stores = y.stores := rfl
@[simp] theorem Sys.setRfe_holds (y : Sys) (n : Nat) (v : Rfe) : (y.setRfe n v).holds = y.holds := rfl
@[simp] theorem Sys.setRfe_engines (y : Sys) (n : Nat) (v : Rfe) : (y.setRfe n v).engines = y.engines := rfl
@[simp] theorem Sys.setRfe_resident (y : Sys) (n : Nat) (v : Rfe) : (y.setRfe n v).resident = y.resident := rfl
@[simp] theorem Sys.setRfe_tables (y : Sys) (n : Nat) (v : Rfe) : (y.setRfe n v).tables = y.tables := rfl
@[simp] theorem Sys.setRfe_pages (y : Sys) (n : Nat) (v : Rfe) : (y.setRfe n v).pages = y.pages := rfl
@[simp] theorem Sys.setRfe_channels (y : Sys) (n : Nat) (v : Rfe) : (y.setRfe n v).channels = y.channels := rfl
@[simp] theorem Sys.setRfe_sdis (y : Sys) (n : Nat) (v : Rfe) : (y.setRfe n v).sdis = y.sdis := rfl
@[simp] theorem Sys.setRfe_edps (y : Sys) (n : Nat) (v : Rfe) : (y.setRfe n v).edps = y.edps := rfl
@[simp] theorem Sys.setRfe_pathsDown (y : Sys) (n : Nat) (v : Rfe) : (y.setRfe n v).pathsDown = y.pathsDown := rfl
@[simp] theorem Sys.setRfe_links (y : Sys) (n : Nat) (v : Rfe) : (y.setRfe n v).links = y.links := rfl
@[simp] theorem Sys.setRfe_lanes (y : Sys) (n : Nat) (v : Rfe) : (y.setRfe n v).lanes = y.lanes := rfl
@[simp] theorem Sys.setRfe_mailboxes (y : Sys) (n : Nat) (v : Rfe) : (y.setRfe n v).mailboxes = y.mailboxes := rfl
@[simp] theorem Sys.setRfe_power (y : Sys) (n : Nat) (v : Rfe) : (y.setRfe n v).power = y.power := rfl
@[simp] theorem Sys.setRfe_dram (y : Sys) (n : Nat) (v : Rfe) : (y.setRfe n v).dram = y.dram := rfl
@[simp] theorem Sys.setRfe_mem (y : Sys) (n : Nat) (v : Rfe) : (y.setRfe n v).mem = y.mem := rfl
@[simp] theorem Sys.setRfe_media (y : Sys) (n : Nat) (v : Rfe) : (y.setRfe n v).media = y.media := rfl
@[simp] theorem Sys.setRfe_rings (y : Sys) (n : Nat) (v : Rfe) : (y.setRfe n v).rings = y.rings := rfl
@[simp] theorem Sys.setRfe_zcs (y : Sys) (n : Nat) (v : Rfe) : (y.setRfe n v).zcs = y.zcs := rfl
@[simp] theorem Sys.setRfe_positions (y : Sys) (n : Nat) (v : Rfe) : (y.setRfe n v).positions = y.positions := rfl
@[simp] theorem Sys.setRfe_time (y : Sys) (n : Nat) (v : Rfe) : (y.setRfe n v).time = y.time := rfl
@[simp] theorem Sys.setRfe_ptp (y : Sys) (n : Nat) (v : Rfe) : (y.setRfe n v).ptp = y.ptp := rfl
@[simp] theorem Sys.setRfe_tios (y : Sys) (n : Nat) (v : Rfe) : (y.setRfe n v).tios = y.tios := rfl
@[simp] theorem Sys.setRfe_twin (y : Sys) (n : Nat) (v : Rfe) : (y.setRfe n v).twin = y.twin := rfl
@[simp] theorem Sys.setRfe_thermal (y : Sys) (n : Nat) (v : Rfe) : (y.setRfe n v).thermal = y.thermal := rfl
@[simp] theorem Sys.setRfe_launches (y : Sys) (n : Nat) (v : Rfe) : (y.setRfe n v).launches = y.launches := rfl
@[simp] theorem Sys.setRfe_audioIn (y : Sys) (n : Nat) (v : Rfe) : (y.setRfe n v).audioIn = y.audioIn := rfl
@[simp] theorem Sys.setRfe_audioOut (y : Sys) (n : Nat) (v : Rfe) : (y.setRfe n v).audioOut = y.audioOut := rfl
@[simp] theorem Sys.setRfe_felley (y : Sys) (n : Nat) (v : Rfe) : (y.setRfe n v).felley = y.felley := rfl
@[simp] theorem Sys.setRfe_encs (y : Sys) (n : Nat) (v : Rfe) : (y.setRfe n v).encs = y.encs := rfl
@[simp] theorem Sys.setRfe_decs (y : Sys) (n : Nat) (v : Rfe) : (y.setRfe n v).decs = y.decs := rfl
@[simp] theorem Sys.setRfe_cores (y : Sys) (n : Nat) (v : Rfe) : (y.setRfe n v).cores = y.cores := rfl
@[simp] theorem Sys.setRfe_turn (y : Sys) (n : Nat) (v : Rfe) : (y.setRfe n v).turn = y.turn := rfl
@[simp] theorem Sys.rfe_setRfe (y : Sys) (n : Nat) (v : Rfe) (j : Nat) : (y.setRfe n v).rfe j = if j = n then v else y.rfe j := by
  simp only [Sys.rfe, Sys.setRfe, tget_tset]

/-! ## `Sys.setFrame` -/

@[simp] theorem Sys.rd_setFrame (y : Sys) (f : Frame) (k : Nat) : (y.setFrame f).rd k = y.rd k := rfl
@[simp] theorem Sys.rdB_setFrame (y : Sys) (f : Frame) (k : Nat) : (y.setFrame f).rdB k = y.rdB k := rfl
@[simp] theorem Sys.setFrame_dict (y : Sys) (f : Frame) : (y.setFrame f).dict = y.dict := rfl
@[simp] theorem Sys.setFrame_blobs (y : Sys) (f : Frame) : (y.setFrame f).blobs = y.blobs := rfl
@[simp] theorem Sys.setFrame_t96 (y : Sys) (f : Frame) : (y.setFrame f).t96 = y.t96 := rfl
@[simp] theorem Sys.setFrame_up (y : Sys) (f : Frame) : (y.setFrame f).up = y.up := rfl
@[simp] theorem Sys.setFrame_seed (y : Sys) (f : Frame) : (y.setFrame f).seed = y.seed := rfl
@[simp] theorem Sys.setFrame_tx (y : Sys) (f : Frame) : (y.setFrame f).tx = y.tx := rfl
@[simp] theorem Sys.setFrame_log (y : Sys) (f : Frame) : (y.setFrame f).log = y.log := rfl
@[simp] theorem Sys.setFrame_boot (y : Sys) (f : Frame) : (y.setFrame f).boot = y.boot := rfl
@[simp] theorem Sys.setFrame_sup (y : Sys) (f : Frame) : (y.setFrame f).sup = y.sup := rfl
@[simp] theorem Sys.setFrame_gov (y : Sys) (f : Frame) : (y.setFrame f).gov = y.gov := rfl
@[simp] theorem Sys.setFrame_den (y : Sys) (f : Frame) : (y.setFrame f).den = y.den := rfl
@[simp] theorem Sys.setFrame_sec (y : Sys) (f : Frame) : (y.setFrame f).sec = y.sec := rfl
@[simp] theorem Sys.setFrame_mram (y : Sys) (f : Frame) : (y.setFrame f).mram = y.mram := rfl
@[simp] theorem Sys.setFrame_ctxs (y : Sys) (f : Frame) : (y.setFrame f).ctxs = y.ctxs := rfl
@[simp] theorem Sys.setFrame_igs (y : Sys) (f : Frame) : (y.setFrame f).igs = y.igs := rfl
@[simp] theorem Sys.setFrame_ports (y : Sys) (f : Frame) : (y.setFrame f).ports = y.ports := rfl
@[simp] theorem Sys.setFrame_troupes (y : Sys) (f : Frame) : (y.setFrame f).troupes = y.troupes := rfl
@[simp] theorem Sys.setFrame_rfes (y : Sys) (f : Frame) : (y.setFrame f).rfes = y.rfes := rfl
@[simp] theorem Sys.setFrame_stores (y : Sys) (f : Frame) : (y.setFrame f).stores = y.stores := rfl
@[simp] theorem Sys.setFrame_holds (y : Sys) (f : Frame) : (y.setFrame f).holds = y.holds := rfl
@[simp] theorem Sys.setFrame_engines (y : Sys) (f : Frame) : (y.setFrame f).engines = y.engines := rfl
@[simp] theorem Sys.setFrame_resident (y : Sys) (f : Frame) : (y.setFrame f).resident = y.resident := rfl
@[simp] theorem Sys.setFrame_tables (y : Sys) (f : Frame) : (y.setFrame f).tables = y.tables := rfl
@[simp] theorem Sys.setFrame_pages (y : Sys) (f : Frame) : (y.setFrame f).pages = y.pages := rfl
@[simp] theorem Sys.setFrame_channels (y : Sys) (f : Frame) : (y.setFrame f).channels = y.channels := rfl
@[simp] theorem Sys.setFrame_sdis (y : Sys) (f : Frame) : (y.setFrame f).sdis = y.sdis := rfl
@[simp] theorem Sys.setFrame_edps (y : Sys) (f : Frame) : (y.setFrame f).edps = y.edps := rfl
@[simp] theorem Sys.setFrame_pathsDown (y : Sys) (f : Frame) : (y.setFrame f).pathsDown = y.pathsDown := rfl
@[simp] theorem Sys.setFrame_links (y : Sys) (f : Frame) : (y.setFrame f).links = y.links := rfl
@[simp] theorem Sys.setFrame_lanes (y : Sys) (f : Frame) : (y.setFrame f).lanes = y.lanes := rfl
@[simp] theorem Sys.setFrame_mailboxes (y : Sys) (f : Frame) : (y.setFrame f).mailboxes = y.mailboxes := rfl
@[simp] theorem Sys.setFrame_power (y : Sys) (f : Frame) : (y.setFrame f).power = y.power := rfl
@[simp] theorem Sys.setFrame_dram (y : Sys) (f : Frame) : (y.setFrame f).dram = y.dram := rfl
@[simp] theorem Sys.setFrame_mem (y : Sys) (f : Frame) : (y.setFrame f).mem = y.mem := rfl
@[simp] theorem Sys.setFrame_media (y : Sys) (f : Frame) : (y.setFrame f).media = y.media := rfl
@[simp] theorem Sys.setFrame_rings (y : Sys) (f : Frame) : (y.setFrame f).rings = y.rings := rfl
@[simp] theorem Sys.setFrame_zcs (y : Sys) (f : Frame) : (y.setFrame f).zcs = y.zcs := rfl
@[simp] theorem Sys.setFrame_positions (y : Sys) (f : Frame) : (y.setFrame f).positions = y.positions := rfl
@[simp] theorem Sys.setFrame_time (y : Sys) (f : Frame) : (y.setFrame f).time = y.time := rfl
@[simp] theorem Sys.setFrame_ptp (y : Sys) (f : Frame) : (y.setFrame f).ptp = y.ptp := rfl
@[simp] theorem Sys.setFrame_tios (y : Sys) (f : Frame) : (y.setFrame f).tios = y.tios := rfl
@[simp] theorem Sys.setFrame_twin (y : Sys) (f : Frame) : (y.setFrame f).twin = y.twin := rfl
@[simp] theorem Sys.setFrame_thermal (y : Sys) (f : Frame) : (y.setFrame f).thermal = y.thermal := rfl
@[simp] theorem Sys.setFrame_launches (y : Sys) (f : Frame) : (y.setFrame f).launches = y.launches := rfl
@[simp] theorem Sys.setFrame_audioIn (y : Sys) (f : Frame) : (y.setFrame f).audioIn = y.audioIn := rfl
@[simp] theorem Sys.setFrame_audioOut (y : Sys) (f : Frame) : (y.setFrame f).audioOut = y.audioOut := rfl
@[simp] theorem Sys.setFrame_felley (y : Sys) (f : Frame) : (y.setFrame f).felley = y.felley := rfl
@[simp] theorem Sys.setFrame_encs (y : Sys) (f : Frame) : (y.setFrame f).encs = y.encs := rfl
@[simp] theorem Sys.setFrame_decs (y : Sys) (f : Frame) : (y.setFrame f).decs = y.decs := rfl
@[simp] theorem Sys.setFrame_cores (y : Sys) (f : Frame) : (y.setFrame f).cores = y.cores := rfl
@[simp] theorem Sys.setFrame_turn (y : Sys) (f : Frame) : (y.setFrame f).turn = y.turn := rfl

/-! ## `Sys.onFrame` -/

@[simp] theorem Sys.rd_onFrame (y : Sys) (x n : Nat) (f : Frame → Frame) (k : Nat) : (y.onFrame x n f).rd k = y.rd k := rfl
@[simp] theorem Sys.rdB_onFrame (y : Sys) (x n : Nat) (f : Frame → Frame) (k : Nat) : (y.onFrame x n f).rdB k = y.rdB k := rfl
@[simp] theorem Sys.onFrame_dict (y : Sys) (x n : Nat) (f : Frame → Frame) : (y.onFrame x n f).dict = y.dict := rfl
@[simp] theorem Sys.onFrame_blobs (y : Sys) (x n : Nat) (f : Frame → Frame) : (y.onFrame x n f).blobs = y.blobs := rfl
@[simp] theorem Sys.onFrame_t96 (y : Sys) (x n : Nat) (f : Frame → Frame) : (y.onFrame x n f).t96 = y.t96 := rfl
@[simp] theorem Sys.onFrame_up (y : Sys) (x n : Nat) (f : Frame → Frame) : (y.onFrame x n f).up = y.up := rfl
@[simp] theorem Sys.onFrame_seed (y : Sys) (x n : Nat) (f : Frame → Frame) : (y.onFrame x n f).seed = y.seed := rfl
@[simp] theorem Sys.onFrame_tx (y : Sys) (x n : Nat) (f : Frame → Frame) : (y.onFrame x n f).tx = y.tx := rfl
@[simp] theorem Sys.onFrame_log (y : Sys) (x n : Nat) (f : Frame → Frame) : (y.onFrame x n f).log = y.log := rfl
@[simp] theorem Sys.onFrame_boot (y : Sys) (x n : Nat) (f : Frame → Frame) : (y.onFrame x n f).boot = y.boot := rfl
@[simp] theorem Sys.onFrame_sup (y : Sys) (x n : Nat) (f : Frame → Frame) : (y.onFrame x n f).sup = y.sup := rfl
@[simp] theorem Sys.onFrame_gov (y : Sys) (x n : Nat) (f : Frame → Frame) : (y.onFrame x n f).gov = y.gov := rfl
@[simp] theorem Sys.onFrame_den (y : Sys) (x n : Nat) (f : Frame → Frame) : (y.onFrame x n f).den = y.den := rfl
@[simp] theorem Sys.onFrame_sec (y : Sys) (x n : Nat) (f : Frame → Frame) : (y.onFrame x n f).sec = y.sec := rfl
@[simp] theorem Sys.onFrame_mram (y : Sys) (x n : Nat) (f : Frame → Frame) : (y.onFrame x n f).mram = y.mram := rfl
@[simp] theorem Sys.onFrame_ctxs (y : Sys) (x n : Nat) (f : Frame → Frame) : (y.onFrame x n f).ctxs = y.ctxs := rfl
@[simp] theorem Sys.onFrame_igs (y : Sys) (x n : Nat) (f : Frame → Frame) : (y.onFrame x n f).igs = y.igs := rfl
@[simp] theorem Sys.onFrame_ports (y : Sys) (x n : Nat) (f : Frame → Frame) : (y.onFrame x n f).ports = y.ports := rfl
@[simp] theorem Sys.onFrame_troupes (y : Sys) (x n : Nat) (f : Frame → Frame) : (y.onFrame x n f).troupes = y.troupes := rfl
@[simp] theorem Sys.onFrame_rfes (y : Sys) (x n : Nat) (f : Frame → Frame) : (y.onFrame x n f).rfes = y.rfes := rfl
@[simp] theorem Sys.onFrame_stores (y : Sys) (x n : Nat) (f : Frame → Frame) : (y.onFrame x n f).stores = y.stores := rfl
@[simp] theorem Sys.onFrame_holds (y : Sys) (x n : Nat) (f : Frame → Frame) : (y.onFrame x n f).holds = y.holds := rfl
@[simp] theorem Sys.onFrame_engines (y : Sys) (x n : Nat) (f : Frame → Frame) : (y.onFrame x n f).engines = y.engines := rfl
@[simp] theorem Sys.onFrame_resident (y : Sys) (x n : Nat) (f : Frame → Frame) : (y.onFrame x n f).resident = y.resident := rfl
@[simp] theorem Sys.onFrame_tables (y : Sys) (x n : Nat) (f : Frame → Frame) : (y.onFrame x n f).tables = y.tables := rfl
@[simp] theorem Sys.onFrame_pages (y : Sys) (x n : Nat) (f : Frame → Frame) : (y.onFrame x n f).pages = y.pages := rfl
@[simp] theorem Sys.onFrame_channels (y : Sys) (x n : Nat) (f : Frame → Frame) : (y.onFrame x n f).channels = y.channels := rfl
@[simp] theorem Sys.onFrame_sdis (y : Sys) (x n : Nat) (f : Frame → Frame) : (y.onFrame x n f).sdis = y.sdis := rfl
@[simp] theorem Sys.onFrame_edps (y : Sys) (x n : Nat) (f : Frame → Frame) : (y.onFrame x n f).edps = y.edps := rfl
@[simp] theorem Sys.onFrame_pathsDown (y : Sys) (x n : Nat) (f : Frame → Frame) : (y.onFrame x n f).pathsDown = y.pathsDown := rfl
@[simp] theorem Sys.onFrame_links (y : Sys) (x n : Nat) (f : Frame → Frame) : (y.onFrame x n f).links = y.links := rfl
@[simp] theorem Sys.onFrame_lanes (y : Sys) (x n : Nat) (f : Frame → Frame) : (y.onFrame x n f).lanes = y.lanes := rfl
@[simp] theorem Sys.onFrame_mailboxes (y : Sys) (x n : Nat) (f : Frame → Frame) : (y.onFrame x n f).mailboxes = y.mailboxes := rfl
@[simp] theorem Sys.onFrame_power (y : Sys) (x n : Nat) (f : Frame → Frame) : (y.onFrame x n f).power = y.power := rfl
@[simp] theorem Sys.onFrame_dram (y : Sys) (x n : Nat) (f : Frame → Frame) : (y.onFrame x n f).dram = y.dram := rfl
@[simp] theorem Sys.onFrame_mem (y : Sys) (x n : Nat) (f : Frame → Frame) : (y.onFrame x n f).mem = y.mem := rfl
@[simp] theorem Sys.onFrame_media (y : Sys) (x n : Nat) (f : Frame → Frame) : (y.onFrame x n f).media = y.media := rfl
@[simp] theorem Sys.onFrame_rings (y : Sys) (x n : Nat) (f : Frame → Frame) : (y.onFrame x n f).rings = y.rings := rfl
@[simp] theorem Sys.onFrame_zcs (y : Sys) (x n : Nat) (f : Frame → Frame) : (y.onFrame x n f).zcs = y.zcs := rfl
@[simp] theorem Sys.onFrame_positions (y : Sys) (x n : Nat) (f : Frame → Frame) : (y.onFrame x n f).positions = y.positions := rfl
@[simp] theorem Sys.onFrame_time (y : Sys) (x n : Nat) (f : Frame → Frame) : (y.onFrame x n f).time = y.time := rfl
@[simp] theorem Sys.onFrame_ptp (y : Sys) (x n : Nat) (f : Frame → Frame) : (y.onFrame x n f).ptp = y.ptp := rfl
@[simp] theorem Sys.onFrame_tios (y : Sys) (x n : Nat) (f : Frame → Frame) : (y.onFrame x n f).tios = y.tios := rfl
@[simp] theorem Sys.onFrame_twin (y : Sys) (x n : Nat) (f : Frame → Frame) : (y.onFrame x n f).twin = y.twin := rfl
@[simp] theorem Sys.onFrame_thermal (y : Sys) (x n : Nat) (f : Frame → Frame) : (y.onFrame x n f).thermal = y.thermal := rfl
@[simp] theorem Sys.onFrame_launches (y : Sys) (x n : Nat) (f : Frame → Frame) : (y.onFrame x n f).launches = y.launches := rfl
@[simp] theorem Sys.onFrame_audioIn (y : Sys) (x n : Nat) (f : Frame → Frame) : (y.onFrame x n f).audioIn = y.audioIn := rfl
@[simp] theorem Sys.onFrame_audioOut (y : Sys) (x n : Nat) (f : Frame → Frame) : (y.onFrame x n f).audioOut = y.audioOut := rfl
@[simp] theorem Sys.onFrame_felley (y : Sys) (x n : Nat) (f : Frame → Frame) : (y.onFrame x n f).felley = y.felley := rfl
@[simp] theorem Sys.onFrame_encs (y : Sys) (x n : Nat) (f : Frame → Frame) : (y.onFrame x n f).encs = y.encs := rfl
@[simp] theorem Sys.onFrame_decs (y : Sys) (x n : Nat) (f : Frame → Frame) : (y.onFrame x n f).decs = y.decs := rfl
@[simp] theorem Sys.onFrame_cores (y : Sys) (x n : Nat) (f : Frame → Frame) : (y.onFrame x n f).cores = y.cores := rfl
@[simp] theorem Sys.onFrame_turn (y : Sys) (x n : Nat) (f : Frame → Frame) : (y.onFrame x n f).turn = y.turn := rfl

/-! ## `Sys.setLane` -/

@[simp] theorem Sys.rd_setLane (y : Sys) (n : Nat) (v : Lane) (k : Nat) : (y.setLane n v).rd k = y.rd k := rfl
@[simp] theorem Sys.rdB_setLane (y : Sys) (n : Nat) (v : Lane) (k : Nat) : (y.setLane n v).rdB k = y.rdB k := rfl
@[simp] theorem Sys.setLane_dict (y : Sys) (n : Nat) (v : Lane) : (y.setLane n v).dict = y.dict := rfl
@[simp] theorem Sys.setLane_blobs (y : Sys) (n : Nat) (v : Lane) : (y.setLane n v).blobs = y.blobs := rfl
@[simp] theorem Sys.setLane_t96 (y : Sys) (n : Nat) (v : Lane) : (y.setLane n v).t96 = y.t96 := rfl
@[simp] theorem Sys.setLane_up (y : Sys) (n : Nat) (v : Lane) : (y.setLane n v).up = y.up := rfl
@[simp] theorem Sys.setLane_seed (y : Sys) (n : Nat) (v : Lane) : (y.setLane n v).seed = y.seed := rfl
@[simp] theorem Sys.setLane_tx (y : Sys) (n : Nat) (v : Lane) : (y.setLane n v).tx = y.tx := rfl
@[simp] theorem Sys.setLane_log (y : Sys) (n : Nat) (v : Lane) : (y.setLane n v).log = y.log := rfl
@[simp] theorem Sys.setLane_boot (y : Sys) (n : Nat) (v : Lane) : (y.setLane n v).boot = y.boot := rfl
@[simp] theorem Sys.setLane_sup (y : Sys) (n : Nat) (v : Lane) : (y.setLane n v).sup = y.sup := rfl
@[simp] theorem Sys.setLane_gov (y : Sys) (n : Nat) (v : Lane) : (y.setLane n v).gov = y.gov := rfl
@[simp] theorem Sys.setLane_den (y : Sys) (n : Nat) (v : Lane) : (y.setLane n v).den = y.den := rfl
@[simp] theorem Sys.setLane_sec (y : Sys) (n : Nat) (v : Lane) : (y.setLane n v).sec = y.sec := rfl
@[simp] theorem Sys.setLane_mram (y : Sys) (n : Nat) (v : Lane) : (y.setLane n v).mram = y.mram := rfl
@[simp] theorem Sys.setLane_frames (y : Sys) (n : Nat) (v : Lane) : (y.setLane n v).frames = y.frames := rfl
@[simp] theorem Sys.setLane_ctxs (y : Sys) (n : Nat) (v : Lane) : (y.setLane n v).ctxs = y.ctxs := rfl
@[simp] theorem Sys.setLane_igs (y : Sys) (n : Nat) (v : Lane) : (y.setLane n v).igs = y.igs := rfl
@[simp] theorem Sys.setLane_ports (y : Sys) (n : Nat) (v : Lane) : (y.setLane n v).ports = y.ports := rfl
@[simp] theorem Sys.setLane_troupes (y : Sys) (n : Nat) (v : Lane) : (y.setLane n v).troupes = y.troupes := rfl
@[simp] theorem Sys.setLane_rfes (y : Sys) (n : Nat) (v : Lane) : (y.setLane n v).rfes = y.rfes := rfl
@[simp] theorem Sys.setLane_stores (y : Sys) (n : Nat) (v : Lane) : (y.setLane n v).stores = y.stores := rfl
@[simp] theorem Sys.setLane_holds (y : Sys) (n : Nat) (v : Lane) : (y.setLane n v).holds = y.holds := rfl
@[simp] theorem Sys.setLane_engines (y : Sys) (n : Nat) (v : Lane) : (y.setLane n v).engines = y.engines := rfl
@[simp] theorem Sys.setLane_resident (y : Sys) (n : Nat) (v : Lane) : (y.setLane n v).resident = y.resident := rfl
@[simp] theorem Sys.setLane_tables (y : Sys) (n : Nat) (v : Lane) : (y.setLane n v).tables = y.tables := rfl
@[simp] theorem Sys.setLane_pages (y : Sys) (n : Nat) (v : Lane) : (y.setLane n v).pages = y.pages := rfl
@[simp] theorem Sys.setLane_channels (y : Sys) (n : Nat) (v : Lane) : (y.setLane n v).channels = y.channels := rfl
@[simp] theorem Sys.setLane_sdis (y : Sys) (n : Nat) (v : Lane) : (y.setLane n v).sdis = y.sdis := rfl
@[simp] theorem Sys.setLane_edps (y : Sys) (n : Nat) (v : Lane) : (y.setLane n v).edps = y.edps := rfl
@[simp] theorem Sys.setLane_pathsDown (y : Sys) (n : Nat) (v : Lane) : (y.setLane n v).pathsDown = y.pathsDown := rfl
@[simp] theorem Sys.setLane_links (y : Sys) (n : Nat) (v : Lane) : (y.setLane n v).links = y.links := rfl
@[simp] theorem Sys.setLane_mailboxes (y : Sys) (n : Nat) (v : Lane) : (y.setLane n v).mailboxes = y.mailboxes := rfl
@[simp] theorem Sys.setLane_power (y : Sys) (n : Nat) (v : Lane) : (y.setLane n v).power = y.power := rfl
@[simp] theorem Sys.setLane_dram (y : Sys) (n : Nat) (v : Lane) : (y.setLane n v).dram = y.dram := rfl
@[simp] theorem Sys.setLane_mem (y : Sys) (n : Nat) (v : Lane) : (y.setLane n v).mem = y.mem := rfl
@[simp] theorem Sys.setLane_media (y : Sys) (n : Nat) (v : Lane) : (y.setLane n v).media = y.media := rfl
@[simp] theorem Sys.setLane_rings (y : Sys) (n : Nat) (v : Lane) : (y.setLane n v).rings = y.rings := rfl
@[simp] theorem Sys.setLane_zcs (y : Sys) (n : Nat) (v : Lane) : (y.setLane n v).zcs = y.zcs := rfl
@[simp] theorem Sys.setLane_positions (y : Sys) (n : Nat) (v : Lane) : (y.setLane n v).positions = y.positions := rfl
@[simp] theorem Sys.setLane_time (y : Sys) (n : Nat) (v : Lane) : (y.setLane n v).time = y.time := rfl
@[simp] theorem Sys.setLane_ptp (y : Sys) (n : Nat) (v : Lane) : (y.setLane n v).ptp = y.ptp := rfl
@[simp] theorem Sys.setLane_tios (y : Sys) (n : Nat) (v : Lane) : (y.setLane n v).tios = y.tios := rfl
@[simp] theorem Sys.setLane_twin (y : Sys) (n : Nat) (v : Lane) : (y.setLane n v).twin = y.twin := rfl
@[simp] theorem Sys.setLane_thermal (y : Sys) (n : Nat) (v : Lane) : (y.setLane n v).thermal = y.thermal := rfl
@[simp] theorem Sys.setLane_launches (y : Sys) (n : Nat) (v : Lane) : (y.setLane n v).launches = y.launches := rfl
@[simp] theorem Sys.setLane_audioIn (y : Sys) (n : Nat) (v : Lane) : (y.setLane n v).audioIn = y.audioIn := rfl
@[simp] theorem Sys.setLane_audioOut (y : Sys) (n : Nat) (v : Lane) : (y.setLane n v).audioOut = y.audioOut := rfl
@[simp] theorem Sys.setLane_felley (y : Sys) (n : Nat) (v : Lane) : (y.setLane n v).felley = y.felley := rfl
@[simp] theorem Sys.setLane_encs (y : Sys) (n : Nat) (v : Lane) : (y.setLane n v).encs = y.encs := rfl
@[simp] theorem Sys.setLane_decs (y : Sys) (n : Nat) (v : Lane) : (y.setLane n v).decs = y.decs := rfl
@[simp] theorem Sys.setLane_cores (y : Sys) (n : Nat) (v : Lane) : (y.setLane n v).cores = y.cores := rfl
@[simp] theorem Sys.setLane_turn (y : Sys) (n : Nat) (v : Lane) : (y.setLane n v).turn = y.turn := rfl
@[simp] theorem Sys.lane_setLane (y : Sys) (n : Nat) (v : Lane) (j : Nat) : (y.setLane n v).lane j = if j = n then v else y.lane j := by
  simp only [Sys.lane, Sys.setLane, tget_tset]

/-! ## `Sys.setMail` -/

@[simp] theorem Sys.rd_setMail (y : Sys) (n : Nat) (v : Mailbox) (k : Nat) : (y.setMail n v).rd k = y.rd k := rfl
@[simp] theorem Sys.rdB_setMail (y : Sys) (n : Nat) (v : Mailbox) (k : Nat) : (y.setMail n v).rdB k = y.rdB k := rfl
@[simp] theorem Sys.setMail_dict (y : Sys) (n : Nat) (v : Mailbox) : (y.setMail n v).dict = y.dict := rfl
@[simp] theorem Sys.setMail_blobs (y : Sys) (n : Nat) (v : Mailbox) : (y.setMail n v).blobs = y.blobs := rfl
@[simp] theorem Sys.setMail_t96 (y : Sys) (n : Nat) (v : Mailbox) : (y.setMail n v).t96 = y.t96 := rfl
@[simp] theorem Sys.setMail_up (y : Sys) (n : Nat) (v : Mailbox) : (y.setMail n v).up = y.up := rfl
@[simp] theorem Sys.setMail_seed (y : Sys) (n : Nat) (v : Mailbox) : (y.setMail n v).seed = y.seed := rfl
@[simp] theorem Sys.setMail_tx (y : Sys) (n : Nat) (v : Mailbox) : (y.setMail n v).tx = y.tx := rfl
@[simp] theorem Sys.setMail_log (y : Sys) (n : Nat) (v : Mailbox) : (y.setMail n v).log = y.log := rfl
@[simp] theorem Sys.setMail_boot (y : Sys) (n : Nat) (v : Mailbox) : (y.setMail n v).boot = y.boot := rfl
@[simp] theorem Sys.setMail_sup (y : Sys) (n : Nat) (v : Mailbox) : (y.setMail n v).sup = y.sup := rfl
@[simp] theorem Sys.setMail_gov (y : Sys) (n : Nat) (v : Mailbox) : (y.setMail n v).gov = y.gov := rfl
@[simp] theorem Sys.setMail_den (y : Sys) (n : Nat) (v : Mailbox) : (y.setMail n v).den = y.den := rfl
@[simp] theorem Sys.setMail_sec (y : Sys) (n : Nat) (v : Mailbox) : (y.setMail n v).sec = y.sec := rfl
@[simp] theorem Sys.setMail_mram (y : Sys) (n : Nat) (v : Mailbox) : (y.setMail n v).mram = y.mram := rfl
@[simp] theorem Sys.setMail_frames (y : Sys) (n : Nat) (v : Mailbox) : (y.setMail n v).frames = y.frames := rfl
@[simp] theorem Sys.setMail_ctxs (y : Sys) (n : Nat) (v : Mailbox) : (y.setMail n v).ctxs = y.ctxs := rfl
@[simp] theorem Sys.setMail_igs (y : Sys) (n : Nat) (v : Mailbox) : (y.setMail n v).igs = y.igs := rfl
@[simp] theorem Sys.setMail_ports (y : Sys) (n : Nat) (v : Mailbox) : (y.setMail n v).ports = y.ports := rfl
@[simp] theorem Sys.setMail_troupes (y : Sys) (n : Nat) (v : Mailbox) : (y.setMail n v).troupes = y.troupes := rfl
@[simp] theorem Sys.setMail_rfes (y : Sys) (n : Nat) (v : Mailbox) : (y.setMail n v).rfes = y.rfes := rfl
@[simp] theorem Sys.setMail_stores (y : Sys) (n : Nat) (v : Mailbox) : (y.setMail n v).stores = y.stores := rfl
@[simp] theorem Sys.setMail_holds (y : Sys) (n : Nat) (v : Mailbox) : (y.setMail n v).holds = y.holds := rfl
@[simp] theorem Sys.setMail_engines (y : Sys) (n : Nat) (v : Mailbox) : (y.setMail n v).engines = y.engines := rfl
@[simp] theorem Sys.setMail_resident (y : Sys) (n : Nat) (v : Mailbox) : (y.setMail n v).resident = y.resident := rfl
@[simp] theorem Sys.setMail_tables (y : Sys) (n : Nat) (v : Mailbox) : (y.setMail n v).tables = y.tables := rfl
@[simp] theorem Sys.setMail_pages (y : Sys) (n : Nat) (v : Mailbox) : (y.setMail n v).pages = y.pages := rfl
@[simp] theorem Sys.setMail_channels (y : Sys) (n : Nat) (v : Mailbox) : (y.setMail n v).channels = y.channels := rfl
@[simp] theorem Sys.setMail_sdis (y : Sys) (n : Nat) (v : Mailbox) : (y.setMail n v).sdis = y.sdis := rfl
@[simp] theorem Sys.setMail_edps (y : Sys) (n : Nat) (v : Mailbox) : (y.setMail n v).edps = y.edps := rfl
@[simp] theorem Sys.setMail_pathsDown (y : Sys) (n : Nat) (v : Mailbox) : (y.setMail n v).pathsDown = y.pathsDown := rfl
@[simp] theorem Sys.setMail_links (y : Sys) (n : Nat) (v : Mailbox) : (y.setMail n v).links = y.links := rfl
@[simp] theorem Sys.setMail_lanes (y : Sys) (n : Nat) (v : Mailbox) : (y.setMail n v).lanes = y.lanes := rfl
@[simp] theorem Sys.setMail_power (y : Sys) (n : Nat) (v : Mailbox) : (y.setMail n v).power = y.power := rfl
@[simp] theorem Sys.setMail_dram (y : Sys) (n : Nat) (v : Mailbox) : (y.setMail n v).dram = y.dram := rfl
@[simp] theorem Sys.setMail_mem (y : Sys) (n : Nat) (v : Mailbox) : (y.setMail n v).mem = y.mem := rfl
@[simp] theorem Sys.setMail_media (y : Sys) (n : Nat) (v : Mailbox) : (y.setMail n v).media = y.media := rfl
@[simp] theorem Sys.setMail_rings (y : Sys) (n : Nat) (v : Mailbox) : (y.setMail n v).rings = y.rings := rfl
@[simp] theorem Sys.setMail_zcs (y : Sys) (n : Nat) (v : Mailbox) : (y.setMail n v).zcs = y.zcs := rfl
@[simp] theorem Sys.setMail_positions (y : Sys) (n : Nat) (v : Mailbox) : (y.setMail n v).positions = y.positions := rfl
@[simp] theorem Sys.setMail_time (y : Sys) (n : Nat) (v : Mailbox) : (y.setMail n v).time = y.time := rfl
@[simp] theorem Sys.setMail_ptp (y : Sys) (n : Nat) (v : Mailbox) : (y.setMail n v).ptp = y.ptp := rfl
@[simp] theorem Sys.setMail_tios (y : Sys) (n : Nat) (v : Mailbox) : (y.setMail n v).tios = y.tios := rfl
@[simp] theorem Sys.setMail_twin (y : Sys) (n : Nat) (v : Mailbox) : (y.setMail n v).twin = y.twin := rfl
@[simp] theorem Sys.setMail_thermal (y : Sys) (n : Nat) (v : Mailbox) : (y.setMail n v).thermal = y.thermal := rfl
@[simp] theorem Sys.setMail_launches (y : Sys) (n : Nat) (v : Mailbox) : (y.setMail n v).launches = y.launches := rfl
@[simp] theorem Sys.setMail_audioIn (y : Sys) (n : Nat) (v : Mailbox) : (y.setMail n v).audioIn = y.audioIn := rfl
@[simp] theorem Sys.setMail_audioOut (y : Sys) (n : Nat) (v : Mailbox) : (y.setMail n v).audioOut = y.audioOut := rfl
@[simp] theorem Sys.setMail_felley (y : Sys) (n : Nat) (v : Mailbox) : (y.setMail n v).felley = y.felley := rfl
@[simp] theorem Sys.setMail_encs (y : Sys) (n : Nat) (v : Mailbox) : (y.setMail n v).encs = y.encs := rfl
@[simp] theorem Sys.setMail_decs (y : Sys) (n : Nat) (v : Mailbox) : (y.setMail n v).decs = y.decs := rfl
@[simp] theorem Sys.setMail_cores (y : Sys) (n : Nat) (v : Mailbox) : (y.setMail n v).cores = y.cores := rfl
@[simp] theorem Sys.setMail_turn (y : Sys) (n : Nat) (v : Mailbox) : (y.setMail n v).turn = y.turn := rfl
@[simp] theorem Sys.mail_setMail (y : Sys) (n : Nat) (v : Mailbox) (j : Nat) : (y.setMail n v).mail j = if j = n then v else y.mail j := by
  simp only [Sys.mail, Sys.setMail, tget_tset]

/-! ## `Sys.setTio` -/

@[simp] theorem Sys.rd_setTio (y : Sys) (n : Nat) (v : Tio) (k : Nat) : (y.setTio n v).rd k = y.rd k := rfl
@[simp] theorem Sys.rdB_setTio (y : Sys) (n : Nat) (v : Tio) (k : Nat) : (y.setTio n v).rdB k = y.rdB k := rfl
@[simp] theorem Sys.setTio_dict (y : Sys) (n : Nat) (v : Tio) : (y.setTio n v).dict = y.dict := rfl
@[simp] theorem Sys.setTio_blobs (y : Sys) (n : Nat) (v : Tio) : (y.setTio n v).blobs = y.blobs := rfl
@[simp] theorem Sys.setTio_t96 (y : Sys) (n : Nat) (v : Tio) : (y.setTio n v).t96 = y.t96 := rfl
@[simp] theorem Sys.setTio_up (y : Sys) (n : Nat) (v : Tio) : (y.setTio n v).up = y.up := rfl
@[simp] theorem Sys.setTio_seed (y : Sys) (n : Nat) (v : Tio) : (y.setTio n v).seed = y.seed := rfl
@[simp] theorem Sys.setTio_tx (y : Sys) (n : Nat) (v : Tio) : (y.setTio n v).tx = y.tx := rfl
@[simp] theorem Sys.setTio_log (y : Sys) (n : Nat) (v : Tio) : (y.setTio n v).log = y.log := rfl
@[simp] theorem Sys.setTio_boot (y : Sys) (n : Nat) (v : Tio) : (y.setTio n v).boot = y.boot := rfl
@[simp] theorem Sys.setTio_sup (y : Sys) (n : Nat) (v : Tio) : (y.setTio n v).sup = y.sup := rfl
@[simp] theorem Sys.setTio_gov (y : Sys) (n : Nat) (v : Tio) : (y.setTio n v).gov = y.gov := rfl
@[simp] theorem Sys.setTio_den (y : Sys) (n : Nat) (v : Tio) : (y.setTio n v).den = y.den := rfl
@[simp] theorem Sys.setTio_sec (y : Sys) (n : Nat) (v : Tio) : (y.setTio n v).sec = y.sec := rfl
@[simp] theorem Sys.setTio_mram (y : Sys) (n : Nat) (v : Tio) : (y.setTio n v).mram = y.mram := rfl
@[simp] theorem Sys.setTio_frames (y : Sys) (n : Nat) (v : Tio) : (y.setTio n v).frames = y.frames := rfl
@[simp] theorem Sys.setTio_ctxs (y : Sys) (n : Nat) (v : Tio) : (y.setTio n v).ctxs = y.ctxs := rfl
@[simp] theorem Sys.setTio_igs (y : Sys) (n : Nat) (v : Tio) : (y.setTio n v).igs = y.igs := rfl
@[simp] theorem Sys.setTio_ports (y : Sys) (n : Nat) (v : Tio) : (y.setTio n v).ports = y.ports := rfl
@[simp] theorem Sys.setTio_troupes (y : Sys) (n : Nat) (v : Tio) : (y.setTio n v).troupes = y.troupes := rfl
@[simp] theorem Sys.setTio_rfes (y : Sys) (n : Nat) (v : Tio) : (y.setTio n v).rfes = y.rfes := rfl
@[simp] theorem Sys.setTio_stores (y : Sys) (n : Nat) (v : Tio) : (y.setTio n v).stores = y.stores := rfl
@[simp] theorem Sys.setTio_holds (y : Sys) (n : Nat) (v : Tio) : (y.setTio n v).holds = y.holds := rfl
@[simp] theorem Sys.setTio_engines (y : Sys) (n : Nat) (v : Tio) : (y.setTio n v).engines = y.engines := rfl
@[simp] theorem Sys.setTio_resident (y : Sys) (n : Nat) (v : Tio) : (y.setTio n v).resident = y.resident := rfl
@[simp] theorem Sys.setTio_tables (y : Sys) (n : Nat) (v : Tio) : (y.setTio n v).tables = y.tables := rfl
@[simp] theorem Sys.setTio_pages (y : Sys) (n : Nat) (v : Tio) : (y.setTio n v).pages = y.pages := rfl
@[simp] theorem Sys.setTio_channels (y : Sys) (n : Nat) (v : Tio) : (y.setTio n v).channels = y.channels := rfl
@[simp] theorem Sys.setTio_sdis (y : Sys) (n : Nat) (v : Tio) : (y.setTio n v).sdis = y.sdis := rfl
@[simp] theorem Sys.setTio_edps (y : Sys) (n : Nat) (v : Tio) : (y.setTio n v).edps = y.edps := rfl
@[simp] theorem Sys.setTio_pathsDown (y : Sys) (n : Nat) (v : Tio) : (y.setTio n v).pathsDown = y.pathsDown := rfl
@[simp] theorem Sys.setTio_links (y : Sys) (n : Nat) (v : Tio) : (y.setTio n v).links = y.links := rfl
@[simp] theorem Sys.setTio_lanes (y : Sys) (n : Nat) (v : Tio) : (y.setTio n v).lanes = y.lanes := rfl
@[simp] theorem Sys.setTio_mailboxes (y : Sys) (n : Nat) (v : Tio) : (y.setTio n v).mailboxes = y.mailboxes := rfl
@[simp] theorem Sys.setTio_power (y : Sys) (n : Nat) (v : Tio) : (y.setTio n v).power = y.power := rfl
@[simp] theorem Sys.setTio_dram (y : Sys) (n : Nat) (v : Tio) : (y.setTio n v).dram = y.dram := rfl
@[simp] theorem Sys.setTio_mem (y : Sys) (n : Nat) (v : Tio) : (y.setTio n v).mem = y.mem := rfl
@[simp] theorem Sys.setTio_media (y : Sys) (n : Nat) (v : Tio) : (y.setTio n v).media = y.media := rfl
@[simp] theorem Sys.setTio_rings (y : Sys) (n : Nat) (v : Tio) : (y.setTio n v).rings = y.rings := rfl
@[simp] theorem Sys.setTio_zcs (y : Sys) (n : Nat) (v : Tio) : (y.setTio n v).zcs = y.zcs := rfl
@[simp] theorem Sys.setTio_positions (y : Sys) (n : Nat) (v : Tio) : (y.setTio n v).positions = y.positions := rfl
@[simp] theorem Sys.setTio_time (y : Sys) (n : Nat) (v : Tio) : (y.setTio n v).time = y.time := rfl
@[simp] theorem Sys.setTio_ptp (y : Sys) (n : Nat) (v : Tio) : (y.setTio n v).ptp = y.ptp := rfl
@[simp] theorem Sys.setTio_twin (y : Sys) (n : Nat) (v : Tio) : (y.setTio n v).twin = y.twin := rfl
@[simp] theorem Sys.setTio_thermal (y : Sys) (n : Nat) (v : Tio) : (y.setTio n v).thermal = y.thermal := rfl
@[simp] theorem Sys.setTio_launches (y : Sys) (n : Nat) (v : Tio) : (y.setTio n v).launches = y.launches := rfl
@[simp] theorem Sys.setTio_audioIn (y : Sys) (n : Nat) (v : Tio) : (y.setTio n v).audioIn = y.audioIn := rfl
@[simp] theorem Sys.setTio_audioOut (y : Sys) (n : Nat) (v : Tio) : (y.setTio n v).audioOut = y.audioOut := rfl
@[simp] theorem Sys.setTio_felley (y : Sys) (n : Nat) (v : Tio) : (y.setTio n v).felley = y.felley := rfl
@[simp] theorem Sys.setTio_encs (y : Sys) (n : Nat) (v : Tio) : (y.setTio n v).encs = y.encs := rfl
@[simp] theorem Sys.setTio_decs (y : Sys) (n : Nat) (v : Tio) : (y.setTio n v).decs = y.decs := rfl
@[simp] theorem Sys.setTio_cores (y : Sys) (n : Nat) (v : Tio) : (y.setTio n v).cores = y.cores := rfl
@[simp] theorem Sys.setTio_turn (y : Sys) (n : Nat) (v : Tio) : (y.setTio n v).turn = y.turn := rfl
@[simp] theorem Sys.tio_setTio (y : Sys) (n : Nat) (v : Tio) (j : Nat) : (y.setTio n v).tio j = if j = n then v else y.tio j := by
  simp only [Sys.tio, Sys.setTio, tget_tset]

/-! ## `Sys.setLink` -/

@[simp] theorem Sys.rd_setLink (y : Sys) (n : Nat) (v : Link) (k : Nat) : (y.setLink n v).rd k = y.rd k := rfl
@[simp] theorem Sys.rdB_setLink (y : Sys) (n : Nat) (v : Link) (k : Nat) : (y.setLink n v).rdB k = y.rdB k := rfl
@[simp] theorem Sys.setLink_dict (y : Sys) (n : Nat) (v : Link) : (y.setLink n v).dict = y.dict := rfl
@[simp] theorem Sys.setLink_blobs (y : Sys) (n : Nat) (v : Link) : (y.setLink n v).blobs = y.blobs := rfl
@[simp] theorem Sys.setLink_t96 (y : Sys) (n : Nat) (v : Link) : (y.setLink n v).t96 = y.t96 := rfl
@[simp] theorem Sys.setLink_up (y : Sys) (n : Nat) (v : Link) : (y.setLink n v).up = y.up := rfl
@[simp] theorem Sys.setLink_seed (y : Sys) (n : Nat) (v : Link) : (y.setLink n v).seed = y.seed := rfl
@[simp] theorem Sys.setLink_tx (y : Sys) (n : Nat) (v : Link) : (y.setLink n v).tx = y.tx := rfl
@[simp] theorem Sys.setLink_log (y : Sys) (n : Nat) (v : Link) : (y.setLink n v).log = y.log := rfl
@[simp] theorem Sys.setLink_boot (y : Sys) (n : Nat) (v : Link) : (y.setLink n v).boot = y.boot := rfl
@[simp] theorem Sys.setLink_sup (y : Sys) (n : Nat) (v : Link) : (y.setLink n v).sup = y.sup := rfl
@[simp] theorem Sys.setLink_gov (y : Sys) (n : Nat) (v : Link) : (y.setLink n v).gov = y.gov := rfl
@[simp] theorem Sys.setLink_den (y : Sys) (n : Nat) (v : Link) : (y.setLink n v).den = y.den := rfl
@[simp] theorem Sys.setLink_sec (y : Sys) (n : Nat) (v : Link) : (y.setLink n v).sec = y.sec := rfl
@[simp] theorem Sys.setLink_mram (y : Sys) (n : Nat) (v : Link) : (y.setLink n v).mram = y.mram := rfl
@[simp] theorem Sys.setLink_frames (y : Sys) (n : Nat) (v : Link) : (y.setLink n v).frames = y.frames := rfl
@[simp] theorem Sys.setLink_ctxs (y : Sys) (n : Nat) (v : Link) : (y.setLink n v).ctxs = y.ctxs := rfl
@[simp] theorem Sys.setLink_igs (y : Sys) (n : Nat) (v : Link) : (y.setLink n v).igs = y.igs := rfl
@[simp] theorem Sys.setLink_ports (y : Sys) (n : Nat) (v : Link) : (y.setLink n v).ports = y.ports := rfl
@[simp] theorem Sys.setLink_troupes (y : Sys) (n : Nat) (v : Link) : (y.setLink n v).troupes = y.troupes := rfl
@[simp] theorem Sys.setLink_rfes (y : Sys) (n : Nat) (v : Link) : (y.setLink n v).rfes = y.rfes := rfl
@[simp] theorem Sys.setLink_stores (y : Sys) (n : Nat) (v : Link) : (y.setLink n v).stores = y.stores := rfl
@[simp] theorem Sys.setLink_holds (y : Sys) (n : Nat) (v : Link) : (y.setLink n v).holds = y.holds := rfl
@[simp] theorem Sys.setLink_engines (y : Sys) (n : Nat) (v : Link) : (y.setLink n v).engines = y.engines := rfl
@[simp] theorem Sys.setLink_resident (y : Sys) (n : Nat) (v : Link) : (y.setLink n v).resident = y.resident := rfl
@[simp] theorem Sys.setLink_tables (y : Sys) (n : Nat) (v : Link) : (y.setLink n v).tables = y.tables := rfl
@[simp] theorem Sys.setLink_pages (y : Sys) (n : Nat) (v : Link) : (y.setLink n v).pages = y.pages := rfl
@[simp] theorem Sys.setLink_channels (y : Sys) (n : Nat) (v : Link) : (y.setLink n v).channels = y.channels := rfl
@[simp] theorem Sys.setLink_sdis (y : Sys) (n : Nat) (v : Link) : (y.setLink n v).sdis = y.sdis := rfl
@[simp] theorem Sys.setLink_edps (y : Sys) (n : Nat) (v : Link) : (y.setLink n v).edps = y.edps := rfl
@[simp] theorem Sys.setLink_pathsDown (y : Sys) (n : Nat) (v : Link) : (y.setLink n v).pathsDown = y.pathsDown := rfl
@[simp] theorem Sys.setLink_lanes (y : Sys) (n : Nat) (v : Link) : (y.setLink n v).lanes = y.lanes := rfl
@[simp] theorem Sys.setLink_mailboxes (y : Sys) (n : Nat) (v : Link) : (y.setLink n v).mailboxes = y.mailboxes := rfl
@[simp] theorem Sys.setLink_power (y : Sys) (n : Nat) (v : Link) : (y.setLink n v).power = y.power := rfl
@[simp] theorem Sys.setLink_dram (y : Sys) (n : Nat) (v : Link) : (y.setLink n v).dram = y.dram := rfl
@[simp] theorem Sys.setLink_mem (y : Sys) (n : Nat) (v : Link) : (y.setLink n v).mem = y.mem := rfl
@[simp] theorem Sys.setLink_media (y : Sys) (n : Nat) (v : Link) : (y.setLink n v).media = y.media := rfl
@[simp] theorem Sys.setLink_rings (y : Sys) (n : Nat) (v : Link) : (y.setLink n v).rings = y.rings := rfl
@[simp] theorem Sys.setLink_zcs (y : Sys) (n : Nat) (v : Link) : (y.setLink n v).zcs = y.zcs := rfl
@[simp] theorem Sys.setLink_positions (y : Sys) (n : Nat) (v : Link) : (y.setLink n v).positions = y.positions := rfl
@[simp] theorem Sys.setLink_time (y : Sys) (n : Nat) (v : Link) : (y.setLink n v).time = y.time := rfl
@[simp] theorem Sys.setLink_ptp (y : Sys) (n : Nat) (v : Link) : (y.setLink n v).ptp = y.ptp := rfl
@[simp] theorem Sys.setLink_tios (y : Sys) (n : Nat) (v : Link) : (y.setLink n v).tios = y.tios := rfl
@[simp] theorem Sys.setLink_twin (y : Sys) (n : Nat) (v : Link) : (y.setLink n v).twin = y.twin := rfl
@[simp] theorem Sys.setLink_thermal (y : Sys) (n : Nat) (v : Link) : (y.setLink n v).thermal = y.thermal := rfl
@[simp] theorem Sys.setLink_launches (y : Sys) (n : Nat) (v : Link) : (y.setLink n v).launches = y.launches := rfl
@[simp] theorem Sys.setLink_audioIn (y : Sys) (n : Nat) (v : Link) : (y.setLink n v).audioIn = y.audioIn := rfl
@[simp] theorem Sys.setLink_audioOut (y : Sys) (n : Nat) (v : Link) : (y.setLink n v).audioOut = y.audioOut := rfl
@[simp] theorem Sys.setLink_felley (y : Sys) (n : Nat) (v : Link) : (y.setLink n v).felley = y.felley := rfl
@[simp] theorem Sys.setLink_encs (y : Sys) (n : Nat) (v : Link) : (y.setLink n v).encs = y.encs := rfl
@[simp] theorem Sys.setLink_decs (y : Sys) (n : Nat) (v : Link) : (y.setLink n v).decs = y.decs := rfl
@[simp] theorem Sys.setLink_cores (y : Sys) (n : Nat) (v : Link) : (y.setLink n v).cores = y.cores := rfl
@[simp] theorem Sys.setLink_turn (y : Sys) (n : Nat) (v : Link) : (y.setLink n v).turn = y.turn := rfl
@[simp] theorem Sys.link_setLink (y : Sys) (n : Nat) (v : Link) (j : Nat) : (y.setLink n v).link j = if j = n then v else y.link j := by
  simp only [Sys.link, Sys.setLink, tget_tset]

/-! ## `Sys.onTwin` -/

@[simp] theorem Sys.rd_onTwin (y : Sys) (f : Twin → Twin) (k : Nat) : (y.onTwin f).rd k = y.rd k := rfl
@[simp] theorem Sys.rdB_onTwin (y : Sys) (f : Twin → Twin) (k : Nat) : (y.onTwin f).rdB k = y.rdB k := rfl
@[simp] theorem Sys.onTwin_dict (y : Sys) (f : Twin → Twin) : (y.onTwin f).dict = y.dict := rfl
@[simp] theorem Sys.onTwin_blobs (y : Sys) (f : Twin → Twin) : (y.onTwin f).blobs = y.blobs := rfl
@[simp] theorem Sys.onTwin_t96 (y : Sys) (f : Twin → Twin) : (y.onTwin f).t96 = y.t96 := rfl
@[simp] theorem Sys.onTwin_up (y : Sys) (f : Twin → Twin) : (y.onTwin f).up = y.up := rfl
@[simp] theorem Sys.onTwin_seed (y : Sys) (f : Twin → Twin) : (y.onTwin f).seed = y.seed := rfl
@[simp] theorem Sys.onTwin_tx (y : Sys) (f : Twin → Twin) : (y.onTwin f).tx = y.tx := rfl
@[simp] theorem Sys.onTwin_log (y : Sys) (f : Twin → Twin) : (y.onTwin f).log = y.log := rfl
@[simp] theorem Sys.onTwin_boot (y : Sys) (f : Twin → Twin) : (y.onTwin f).boot = y.boot := rfl
@[simp] theorem Sys.onTwin_sup (y : Sys) (f : Twin → Twin) : (y.onTwin f).sup = y.sup := rfl
@[simp] theorem Sys.onTwin_gov (y : Sys) (f : Twin → Twin) : (y.onTwin f).gov = y.gov := rfl
@[simp] theorem Sys.onTwin_den (y : Sys) (f : Twin → Twin) : (y.onTwin f).den = y.den := rfl
@[simp] theorem Sys.onTwin_sec (y : Sys) (f : Twin → Twin) : (y.onTwin f).sec = y.sec := rfl
@[simp] theorem Sys.onTwin_mram (y : Sys) (f : Twin → Twin) : (y.onTwin f).mram = y.mram := rfl
@[simp] theorem Sys.onTwin_frames (y : Sys) (f : Twin → Twin) : (y.onTwin f).frames = y.frames := rfl
@[simp] theorem Sys.onTwin_ctxs (y : Sys) (f : Twin → Twin) : (y.onTwin f).ctxs = y.ctxs := rfl
@[simp] theorem Sys.onTwin_igs (y : Sys) (f : Twin → Twin) : (y.onTwin f).igs = y.igs := rfl
@[simp] theorem Sys.onTwin_ports (y : Sys) (f : Twin → Twin) : (y.onTwin f).ports = y.ports := rfl
@[simp] theorem Sys.onTwin_troupes (y : Sys) (f : Twin → Twin) : (y.onTwin f).troupes = y.troupes := rfl
@[simp] theorem Sys.onTwin_rfes (y : Sys) (f : Twin → Twin) : (y.onTwin f).rfes = y.rfes := rfl
@[simp] theorem Sys.onTwin_stores (y : Sys) (f : Twin → Twin) : (y.onTwin f).stores = y.stores := rfl
@[simp] theorem Sys.onTwin_holds (y : Sys) (f : Twin → Twin) : (y.onTwin f).holds = y.holds := rfl
@[simp] theorem Sys.onTwin_engines (y : Sys) (f : Twin → Twin) : (y.onTwin f).engines = y.engines := rfl
@[simp] theorem Sys.onTwin_resident (y : Sys) (f : Twin → Twin) : (y.onTwin f).resident = y.resident := rfl
@[simp] theorem Sys.onTwin_tables (y : Sys) (f : Twin → Twin) : (y.onTwin f).tables = y.tables := rfl
@[simp] theorem Sys.onTwin_pages (y : Sys) (f : Twin → Twin) : (y.onTwin f).pages = y.pages := rfl
@[simp] theorem Sys.onTwin_channels (y : Sys) (f : Twin → Twin) : (y.onTwin f).channels = y.channels := rfl
@[simp] theorem Sys.onTwin_sdis (y : Sys) (f : Twin → Twin) : (y.onTwin f).sdis = y.sdis := rfl
@[simp] theorem Sys.onTwin_edps (y : Sys) (f : Twin → Twin) : (y.onTwin f).edps = y.edps := rfl
@[simp] theorem Sys.onTwin_pathsDown (y : Sys) (f : Twin → Twin) : (y.onTwin f).pathsDown = y.pathsDown := rfl
@[simp] theorem Sys.onTwin_links (y : Sys) (f : Twin → Twin) : (y.onTwin f).links = y.links := rfl
@[simp] theorem Sys.onTwin_lanes (y : Sys) (f : Twin → Twin) : (y.onTwin f).lanes = y.lanes := rfl
@[simp] theorem Sys.onTwin_mailboxes (y : Sys) (f : Twin → Twin) : (y.onTwin f).mailboxes = y.mailboxes := rfl
@[simp] theorem Sys.onTwin_power (y : Sys) (f : Twin → Twin) : (y.onTwin f).power = y.power := rfl
@[simp] theorem Sys.onTwin_dram (y : Sys) (f : Twin → Twin) : (y.onTwin f).dram = y.dram := rfl
@[simp] theorem Sys.onTwin_mem (y : Sys) (f : Twin → Twin) : (y.onTwin f).mem = y.mem := rfl
@[simp] theorem Sys.onTwin_media (y : Sys) (f : Twin → Twin) : (y.onTwin f).media = y.media := rfl
@[simp] theorem Sys.onTwin_rings (y : Sys) (f : Twin → Twin) : (y.onTwin f).rings = y.rings := rfl
@[simp] theorem Sys.onTwin_zcs (y : Sys) (f : Twin → Twin) : (y.onTwin f).zcs = y.zcs := rfl
@[simp] theorem Sys.onTwin_positions (y : Sys) (f : Twin → Twin) : (y.onTwin f).positions = y.positions := rfl
@[simp] theorem Sys.onTwin_time (y : Sys) (f : Twin → Twin) : (y.onTwin f).time = y.time := rfl
@[simp] theorem Sys.onTwin_ptp (y : Sys) (f : Twin → Twin) : (y.onTwin f).ptp = y.ptp := rfl
@[simp] theorem Sys.onTwin_tios (y : Sys) (f : Twin → Twin) : (y.onTwin f).tios = y.tios := rfl
@[simp] theorem Sys.onTwin_thermal (y : Sys) (f : Twin → Twin) : (y.onTwin f).thermal = y.thermal := rfl
@[simp] theorem Sys.onTwin_launches (y : Sys) (f : Twin → Twin) : (y.onTwin f).launches = y.launches := rfl
@[simp] theorem Sys.onTwin_audioIn (y : Sys) (f : Twin → Twin) : (y.onTwin f).audioIn = y.audioIn := rfl
@[simp] theorem Sys.onTwin_audioOut (y : Sys) (f : Twin → Twin) : (y.onTwin f).audioOut = y.audioOut := rfl
@[simp] theorem Sys.onTwin_felley (y : Sys) (f : Twin → Twin) : (y.onTwin f).felley = y.felley := rfl
@[simp] theorem Sys.onTwin_encs (y : Sys) (f : Twin → Twin) : (y.onTwin f).encs = y.encs := rfl
@[simp] theorem Sys.onTwin_decs (y : Sys) (f : Twin → Twin) : (y.onTwin f).decs = y.decs := rfl
@[simp] theorem Sys.onTwin_cores (y : Sys) (f : Twin → Twin) : (y.onTwin f).cores = y.cores := rfl
@[simp] theorem Sys.onTwin_turn (y : Sys) (f : Twin → Twin) : (y.onTwin f).turn = y.turn := rfl
@[simp] theorem Sys.onTwin_twin (y : Sys) (f : Twin → Twin) : (y.onTwin f).twin = f y.twin := rfl

/-! ## `Sys.setMq` -/

@[simp] theorem Sys.rd_setMq (y : Sys) (n : Nat) (v : Mq) (k : Nat) : (y.setMq n v).rd k = y.rd k := rfl
@[simp] theorem Sys.rdB_setMq (y : Sys) (n : Nat) (v : Mq) (k : Nat) : (y.setMq n v).rdB k = y.rdB k := rfl
@[simp] theorem Sys.setMq_dict (y : Sys) (n : Nat) (v : Mq) : (y.setMq n v).dict = y.dict := rfl
@[simp] theorem Sys.setMq_blobs (y : Sys) (n : Nat) (v : Mq) : (y.setMq n v).blobs = y.blobs := rfl
@[simp] theorem Sys.setMq_t96 (y : Sys) (n : Nat) (v : Mq) : (y.setMq n v).t96 = y.t96 := rfl
@[simp] theorem Sys.setMq_up (y : Sys) (n : Nat) (v : Mq) : (y.setMq n v).up = y.up := rfl
@[simp] theorem Sys.setMq_seed (y : Sys) (n : Nat) (v : Mq) : (y.setMq n v).seed = y.seed := rfl
@[simp] theorem Sys.setMq_tx (y : Sys) (n : Nat) (v : Mq) : (y.setMq n v).tx = y.tx := rfl
@[simp] theorem Sys.setMq_log (y : Sys) (n : Nat) (v : Mq) : (y.setMq n v).log = y.log := rfl
@[simp] theorem Sys.setMq_boot (y : Sys) (n : Nat) (v : Mq) : (y.setMq n v).boot = y.boot := rfl
@[simp] theorem Sys.setMq_sup (y : Sys) (n : Nat) (v : Mq) : (y.setMq n v).sup = y.sup := rfl
@[simp] theorem Sys.setMq_gov (y : Sys) (n : Nat) (v : Mq) : (y.setMq n v).gov = y.gov := rfl
@[simp] theorem Sys.setMq_den (y : Sys) (n : Nat) (v : Mq) : (y.setMq n v).den = y.den := rfl
@[simp] theorem Sys.setMq_sec (y : Sys) (n : Nat) (v : Mq) : (y.setMq n v).sec = y.sec := rfl
@[simp] theorem Sys.setMq_mram (y : Sys) (n : Nat) (v : Mq) : (y.setMq n v).mram = y.mram := rfl
@[simp] theorem Sys.setMq_frames (y : Sys) (n : Nat) (v : Mq) : (y.setMq n v).frames = y.frames := rfl
@[simp] theorem Sys.setMq_ctxs (y : Sys) (n : Nat) (v : Mq) : (y.setMq n v).ctxs = y.ctxs := rfl
@[simp] theorem Sys.setMq_igs (y : Sys) (n : Nat) (v : Mq) : (y.setMq n v).igs = y.igs := rfl
@[simp] theorem Sys.setMq_ports (y : Sys) (n : Nat) (v : Mq) : (y.setMq n v).ports = y.ports := rfl
@[simp] theorem Sys.setMq_troupes (y : Sys) (n : Nat) (v : Mq) : (y.setMq n v).troupes = y.troupes := rfl
@[simp] theorem Sys.setMq_rfes (y : Sys) (n : Nat) (v : Mq) : (y.setMq n v).rfes = y.rfes := rfl
@[simp] theorem Sys.setMq_stores (y : Sys) (n : Nat) (v : Mq) : (y.setMq n v).stores = y.stores := rfl
@[simp] theorem Sys.setMq_holds (y : Sys) (n : Nat) (v : Mq) : (y.setMq n v).holds = y.holds := rfl
@[simp] theorem Sys.setMq_engines (y : Sys) (n : Nat) (v : Mq) : (y.setMq n v).engines = y.engines := rfl
@[simp] theorem Sys.setMq_resident (y : Sys) (n : Nat) (v : Mq) : (y.setMq n v).resident = y.resident := rfl
@[simp] theorem Sys.setMq_tables (y : Sys) (n : Nat) (v : Mq) : (y.setMq n v).tables = y.tables := rfl
@[simp] theorem Sys.setMq_pages (y : Sys) (n : Nat) (v : Mq) : (y.setMq n v).pages = y.pages := rfl
@[simp] theorem Sys.setMq_channels (y : Sys) (n : Nat) (v : Mq) : (y.setMq n v).channels = y.channels := rfl
@[simp] theorem Sys.setMq_sdis (y : Sys) (n : Nat) (v : Mq) : (y.setMq n v).sdis = y.sdis := rfl
@[simp] theorem Sys.setMq_edps (y : Sys) (n : Nat) (v : Mq) : (y.setMq n v).edps = y.edps := rfl
@[simp] theorem Sys.setMq_pathsDown (y : Sys) (n : Nat) (v : Mq) : (y.setMq n v).pathsDown = y.pathsDown := rfl
@[simp] theorem Sys.setMq_links (y : Sys) (n : Nat) (v : Mq) : (y.setMq n v).links = y.links := rfl
@[simp] theorem Sys.setMq_lanes (y : Sys) (n : Nat) (v : Mq) : (y.setMq n v).lanes = y.lanes := rfl
@[simp] theorem Sys.setMq_mailboxes (y : Sys) (n : Nat) (v : Mq) : (y.setMq n v).mailboxes = y.mailboxes := rfl
@[simp] theorem Sys.setMq_power (y : Sys) (n : Nat) (v : Mq) : (y.setMq n v).power = y.power := rfl
@[simp] theorem Sys.setMq_dram (y : Sys) (n : Nat) (v : Mq) : (y.setMq n v).dram = y.dram := rfl
@[simp] theorem Sys.setMq_mem (y : Sys) (n : Nat) (v : Mq) : (y.setMq n v).mem = y.mem := rfl
@[simp] theorem Sys.setMq_rings (y : Sys) (n : Nat) (v : Mq) : (y.setMq n v).rings = y.rings := rfl
@[simp] theorem Sys.setMq_zcs (y : Sys) (n : Nat) (v : Mq) : (y.setMq n v).zcs = y.zcs := rfl
@[simp] theorem Sys.setMq_positions (y : Sys) (n : Nat) (v : Mq) : (y.setMq n v).positions = y.positions := rfl
@[simp] theorem Sys.setMq_time (y : Sys) (n : Nat) (v : Mq) : (y.setMq n v).time = y.time := rfl
@[simp] theorem Sys.setMq_ptp (y : Sys) (n : Nat) (v : Mq) : (y.setMq n v).ptp = y.ptp := rfl
@[simp] theorem Sys.setMq_tios (y : Sys) (n : Nat) (v : Mq) : (y.setMq n v).tios = y.tios := rfl
@[simp] theorem Sys.setMq_twin (y : Sys) (n : Nat) (v : Mq) : (y.setMq n v).twin = y.twin := rfl
@[simp] theorem Sys.setMq_thermal (y : Sys) (n : Nat) (v : Mq) : (y.setMq n v).thermal = y.thermal := rfl
@[simp] theorem Sys.setMq_launches (y : Sys) (n : Nat) (v : Mq) : (y.setMq n v).launches = y.launches := rfl
@[simp] theorem Sys.setMq_audioIn (y : Sys) (n : Nat) (v : Mq) : (y.setMq n v).audioIn = y.audioIn := rfl
@[simp] theorem Sys.setMq_audioOut (y : Sys) (n : Nat) (v : Mq) : (y.setMq n v).audioOut = y.audioOut := rfl
@[simp] theorem Sys.setMq_felley (y : Sys) (n : Nat) (v : Mq) : (y.setMq n v).felley = y.felley := rfl
@[simp] theorem Sys.setMq_encs (y : Sys) (n : Nat) (v : Mq) : (y.setMq n v).encs = y.encs := rfl
@[simp] theorem Sys.setMq_decs (y : Sys) (n : Nat) (v : Mq) : (y.setMq n v).decs = y.decs := rfl
@[simp] theorem Sys.setMq_cores (y : Sys) (n : Nat) (v : Mq) : (y.setMq n v).cores = y.cores := rfl
@[simp] theorem Sys.setMq_turn (y : Sys) (n : Nat) (v : Mq) : (y.setMq n v).turn = y.turn := rfl
@[simp] theorem Sys.mq_setMq (y : Sys) (n : Nat) (v : Mq) (j : Nat) : (y.setMq n v).mq j = if j = n then v else y.mq j := by
  simp only [Sys.mq, Sys.setMq, tget_tset]

/-! ## `Sys.setVol` -/

@[simp] theorem Sys.rd_setVol (y : Sys) (v : Volume) (k : Nat) : (y.setVol v).rd k = y.rd k := rfl
@[simp] theorem Sys.rdB_setVol (y : Sys) (v : Volume) (k : Nat) : (y.setVol v).rdB k = y.rdB k := rfl
@[simp] theorem Sys.setVol_dict (y : Sys) (v : Volume) : (y.setVol v).dict = y.dict := rfl
@[simp] theorem Sys.setVol_blobs (y : Sys) (v : Volume) : (y.setVol v).blobs = y.blobs := rfl
@[simp] theorem Sys.setVol_t96 (y : Sys) (v : Volume) : (y.setVol v).t96 = y.t96 := rfl
@[simp] theorem Sys.setVol_up (y : Sys) (v : Volume) : (y.setVol v).up = y.up := rfl
@[simp] theorem Sys.setVol_seed (y : Sys) (v : Volume) : (y.setVol v).seed = y.seed := rfl
@[simp] theorem Sys.setVol_tx (y : Sys) (v : Volume) : (y.setVol v).tx = y.tx := rfl
@[simp] theorem Sys.setVol_log (y : Sys) (v : Volume) : (y.setVol v).log = y.log := rfl
@[simp] theorem Sys.setVol_boot (y : Sys) (v : Volume) : (y.setVol v).boot = y.boot := rfl
@[simp] theorem Sys.setVol_sup (y : Sys) (v : Volume) : (y.setVol v).sup = y.sup := rfl
@[simp] theorem Sys.setVol_gov (y : Sys) (v : Volume) : (y.setVol v).gov = y.gov := rfl
@[simp] theorem Sys.setVol_den (y : Sys) (v : Volume) : (y.setVol v).den = y.den := rfl
@[simp] theorem Sys.setVol_sec (y : Sys) (v : Volume) : (y.setVol v).sec = y.sec := rfl
@[simp] theorem Sys.setVol_mram (y : Sys) (v : Volume) : (y.setVol v).mram = y.mram := rfl
@[simp] theorem Sys.setVol_frames (y : Sys) (v : Volume) : (y.setVol v).frames = y.frames := rfl
@[simp] theorem Sys.setVol_ctxs (y : Sys) (v : Volume) : (y.setVol v).ctxs = y.ctxs := rfl
@[simp] theorem Sys.setVol_igs (y : Sys) (v : Volume) : (y.setVol v).igs = y.igs := rfl
@[simp] theorem Sys.setVol_ports (y : Sys) (v : Volume) : (y.setVol v).ports = y.ports := rfl
@[simp] theorem Sys.setVol_troupes (y : Sys) (v : Volume) : (y.setVol v).troupes = y.troupes := rfl
@[simp] theorem Sys.setVol_rfes (y : Sys) (v : Volume) : (y.setVol v).rfes = y.rfes := rfl
@[simp] theorem Sys.setVol_stores (y : Sys) (v : Volume) : (y.setVol v).stores = y.stores := rfl
@[simp] theorem Sys.setVol_holds (y : Sys) (v : Volume) : (y.setVol v).holds = y.holds := rfl
@[simp] theorem Sys.setVol_engines (y : Sys) (v : Volume) : (y.setVol v).engines = y.engines := rfl
@[simp] theorem Sys.setVol_resident (y : Sys) (v : Volume) : (y.setVol v).resident = y.resident := rfl
@[simp] theorem Sys.setVol_tables (y : Sys) (v : Volume) : (y.setVol v).tables = y.tables := rfl
@[simp] theorem Sys.setVol_pages (y : Sys) (v : Volume) : (y.setVol v).pages = y.pages := rfl
@[simp] theorem Sys.setVol_channels (y : Sys) (v : Volume) : (y.setVol v).channels = y.channels := rfl
@[simp] theorem Sys.setVol_sdis (y : Sys) (v : Volume) : (y.setVol v).sdis = y.sdis := rfl
@[simp] theorem Sys.setVol_edps (y : Sys) (v : Volume) : (y.setVol v).edps = y.edps := rfl
@[simp] theorem Sys.setVol_pathsDown (y : Sys) (v : Volume) : (y.setVol v).pathsDown = y.pathsDown := rfl
@[simp] theorem Sys.setVol_links (y : Sys) (v : Volume) : (y.setVol v).links = y.links := rfl
@[simp] theorem Sys.setVol_lanes (y : Sys) (v : Volume) : (y.setVol v).lanes = y.lanes := rfl
@[simp] theorem Sys.setVol_mailboxes (y : Sys) (v : Volume) : (y.setVol v).mailboxes = y.mailboxes := rfl
@[simp] theorem Sys.setVol_power (y : Sys) (v : Volume) : (y.setVol v).power = y.power := rfl
@[simp] theorem Sys.setVol_dram (y : Sys) (v : Volume) : (y.setVol v).dram = y.dram := rfl
@[simp] theorem Sys.setVol_mem (y : Sys) (v : Volume) : (y.setVol v).mem = y.mem := rfl
@[simp] theorem Sys.setVol_rings (y : Sys) (v : Volume) : (y.setVol v).rings = y.rings := rfl
@[simp] theorem Sys.setVol_zcs (y : Sys) (v : Volume) : (y.setVol v).zcs = y.zcs := rfl
@[simp] theorem Sys.setVol_positions (y : Sys) (v : Volume) : (y.setVol v).positions = y.positions := rfl
@[simp] theorem Sys.setVol_time (y : Sys) (v : Volume) : (y.setVol v).time = y.time := rfl
@[simp] theorem Sys.setVol_ptp (y : Sys) (v : Volume) : (y.setVol v).ptp = y.ptp := rfl
@[simp] theorem Sys.setVol_tios (y : Sys) (v : Volume) : (y.setVol v).tios = y.tios := rfl
@[simp] theorem Sys.setVol_twin (y : Sys) (v : Volume) : (y.setVol v).twin = y.twin := rfl
@[simp] theorem Sys.setVol_thermal (y : Sys) (v : Volume) : (y.setVol v).thermal = y.thermal := rfl
@[simp] theorem Sys.setVol_launches (y : Sys) (v : Volume) : (y.setVol v).launches = y.launches := rfl
@[simp] theorem Sys.setVol_audioIn (y : Sys) (v : Volume) : (y.setVol v).audioIn = y.audioIn := rfl
@[simp] theorem Sys.setVol_audioOut (y : Sys) (v : Volume) : (y.setVol v).audioOut = y.audioOut := rfl
@[simp] theorem Sys.setVol_felley (y : Sys) (v : Volume) : (y.setVol v).felley = y.felley := rfl
@[simp] theorem Sys.setVol_encs (y : Sys) (v : Volume) : (y.setVol v).encs = y.encs := rfl
@[simp] theorem Sys.setVol_decs (y : Sys) (v : Volume) : (y.setVol v).decs = y.decs := rfl
@[simp] theorem Sys.setVol_cores (y : Sys) (v : Volume) : (y.setVol v).cores = y.cores := rfl
@[simp] theorem Sys.setVol_turn (y : Sys) (v : Volume) : (y.setVol v).turn = y.turn := rfl

/-! ## `Sys.setRec` -/

@[simp] theorem Sys.rd_setRec (y : Sys) (n : Nat) (v : Recording) (k : Nat) : (y.setRec n v).rd k = y.rd k := rfl
@[simp] theorem Sys.rdB_setRec (y : Sys) (n : Nat) (v : Recording) (k : Nat) : (y.setRec n v).rdB k = y.rdB k := rfl
@[simp] theorem Sys.setRec_dict (y : Sys) (n : Nat) (v : Recording) : (y.setRec n v).dict = y.dict := rfl
@[simp] theorem Sys.setRec_blobs (y : Sys) (n : Nat) (v : Recording) : (y.setRec n v).blobs = y.blobs := rfl
@[simp] theorem Sys.setRec_t96 (y : Sys) (n : Nat) (v : Recording) : (y.setRec n v).t96 = y.t96 := rfl
@[simp] theorem Sys.setRec_up (y : Sys) (n : Nat) (v : Recording) : (y.setRec n v).up = y.up := rfl
@[simp] theorem Sys.setRec_seed (y : Sys) (n : Nat) (v : Recording) : (y.setRec n v).seed = y.seed := rfl
@[simp] theorem Sys.setRec_tx (y : Sys) (n : Nat) (v : Recording) : (y.setRec n v).tx = y.tx := rfl
@[simp] theorem Sys.setRec_log (y : Sys) (n : Nat) (v : Recording) : (y.setRec n v).log = y.log := rfl
@[simp] theorem Sys.setRec_boot (y : Sys) (n : Nat) (v : Recording) : (y.setRec n v).boot = y.boot := rfl
@[simp] theorem Sys.setRec_sup (y : Sys) (n : Nat) (v : Recording) : (y.setRec n v).sup = y.sup := rfl
@[simp] theorem Sys.setRec_gov (y : Sys) (n : Nat) (v : Recording) : (y.setRec n v).gov = y.gov := rfl
@[simp] theorem Sys.setRec_den (y : Sys) (n : Nat) (v : Recording) : (y.setRec n v).den = y.den := rfl
@[simp] theorem Sys.setRec_sec (y : Sys) (n : Nat) (v : Recording) : (y.setRec n v).sec = y.sec := rfl
@[simp] theorem Sys.setRec_mram (y : Sys) (n : Nat) (v : Recording) : (y.setRec n v).mram = y.mram := rfl
@[simp] theorem Sys.setRec_frames (y : Sys) (n : Nat) (v : Recording) : (y.setRec n v).frames = y.frames := rfl
@[simp] theorem Sys.setRec_ctxs (y : Sys) (n : Nat) (v : Recording) : (y.setRec n v).ctxs = y.ctxs := rfl
@[simp] theorem Sys.setRec_igs (y : Sys) (n : Nat) (v : Recording) : (y.setRec n v).igs = y.igs := rfl
@[simp] theorem Sys.setRec_ports (y : Sys) (n : Nat) (v : Recording) : (y.setRec n v).ports = y.ports := rfl
@[simp] theorem Sys.setRec_troupes (y : Sys) (n : Nat) (v : Recording) : (y.setRec n v).troupes = y.troupes := rfl
@[simp] theorem Sys.setRec_rfes (y : Sys) (n : Nat) (v : Recording) : (y.setRec n v).rfes = y.rfes := rfl
@[simp] theorem Sys.setRec_stores (y : Sys) (n : Nat) (v : Recording) : (y.setRec n v).stores = y.stores := rfl
@[simp] theorem Sys.setRec_holds (y : Sys) (n : Nat) (v : Recording) : (y.setRec n v).holds = y.holds := rfl
@[simp] theorem Sys.setRec_engines (y : Sys) (n : Nat) (v : Recording) : (y.setRec n v).engines = y.engines := rfl
@[simp] theorem Sys.setRec_resident (y : Sys) (n : Nat) (v : Recording) : (y.setRec n v).resident = y.resident := rfl
@[simp] theorem Sys.setRec_tables (y : Sys) (n : Nat) (v : Recording) : (y.setRec n v).tables = y.tables := rfl
@[simp] theorem Sys.setRec_pages (y : Sys) (n : Nat) (v : Recording) : (y.setRec n v).pages = y.pages := rfl
@[simp] theorem Sys.setRec_channels (y : Sys) (n : Nat) (v : Recording) : (y.setRec n v).channels = y.channels := rfl
@[simp] theorem Sys.setRec_sdis (y : Sys) (n : Nat) (v : Recording) : (y.setRec n v).sdis = y.sdis := rfl
@[simp] theorem Sys.setRec_edps (y : Sys) (n : Nat) (v : Recording) : (y.setRec n v).edps = y.edps := rfl
@[simp] theorem Sys.setRec_pathsDown (y : Sys) (n : Nat) (v : Recording) : (y.setRec n v).pathsDown = y.pathsDown := rfl
@[simp] theorem Sys.setRec_links (y : Sys) (n : Nat) (v : Recording) : (y.setRec n v).links = y.links := rfl
@[simp] theorem Sys.setRec_lanes (y : Sys) (n : Nat) (v : Recording) : (y.setRec n v).lanes = y.lanes := rfl
@[simp] theorem Sys.setRec_mailboxes (y : Sys) (n : Nat) (v : Recording) : (y.setRec n v).mailboxes = y.mailboxes := rfl
@[simp] theorem Sys.setRec_power (y : Sys) (n : Nat) (v : Recording) : (y.setRec n v).power = y.power := rfl
@[simp] theorem Sys.setRec_dram (y : Sys) (n : Nat) (v : Recording) : (y.setRec n v).dram = y.dram := rfl
@[simp] theorem Sys.setRec_mem (y : Sys) (n : Nat) (v : Recording) : (y.setRec n v).mem = y.mem := rfl
@[simp] theorem Sys.setRec_rings (y : Sys) (n : Nat) (v : Recording) : (y.setRec n v).rings = y.rings := rfl
@[simp] theorem Sys.setRec_zcs (y : Sys) (n : Nat) (v : Recording) : (y.setRec n v).zcs = y.zcs := rfl
@[simp] theorem Sys.setRec_positions (y : Sys) (n : Nat) (v : Recording) : (y.setRec n v).positions = y.positions := rfl
@[simp] theorem Sys.setRec_time (y : Sys) (n : Nat) (v : Recording) : (y.setRec n v).time = y.time := rfl
@[simp] theorem Sys.setRec_ptp (y : Sys) (n : Nat) (v : Recording) : (y.setRec n v).ptp = y.ptp := rfl
@[simp] theorem Sys.setRec_tios (y : Sys) (n : Nat) (v : Recording) : (y.setRec n v).tios = y.tios := rfl
@[simp] theorem Sys.setRec_twin (y : Sys) (n : Nat) (v : Recording) : (y.setRec n v).twin = y.twin := rfl
@[simp] theorem Sys.setRec_thermal (y : Sys) (n : Nat) (v : Recording) : (y.setRec n v).thermal = y.thermal := rfl
@[simp] theorem Sys.setRec_launches (y : Sys) (n : Nat) (v : Recording) : (y.setRec n v).launches = y.launches := rfl
@[simp] theorem Sys.setRec_audioIn (y : Sys) (n : Nat) (v : Recording) : (y.setRec n v).audioIn = y.audioIn := rfl
@[simp] theorem Sys.setRec_audioOut (y : Sys) (n : Nat) (v : Recording) : (y.setRec n v).audioOut = y.audioOut := rfl
@[simp] theorem Sys.setRec_felley (y : Sys) (n : Nat) (v : Recording) : (y.setRec n v).felley = y.felley := rfl
@[simp] theorem Sys.setRec_encs (y : Sys) (n : Nat) (v : Recording) : (y.setRec n v).encs = y.encs := rfl
@[simp] theorem Sys.setRec_decs (y : Sys) (n : Nat) (v : Recording) : (y.setRec n v).decs = y.decs := rfl
@[simp] theorem Sys.setRec_cores (y : Sys) (n : Nat) (v : Recording) : (y.setRec n v).cores = y.cores := rfl
@[simp] theorem Sys.setRec_turn (y : Sys) (n : Nat) (v : Recording) : (y.setRec n v).turn = y.turn := rfl
@[simp] theorem Sys.recording_setRec (y : Sys) (n : Nat) (v : Recording) (j : Nat) : (y.setRec n v).recording j = if j = n then v else y.recording j := by
  simp only [Sys.recording, Sys.setRec, tget_tset]

/-! ## `Sys.setDec` -/

@[simp] theorem Sys.rd_setDec (y : Sys) (n : Nat) (v : Dec) (k : Nat) : (y.setDec n v).rd k = y.rd k := rfl
@[simp] theorem Sys.rdB_setDec (y : Sys) (n : Nat) (v : Dec) (k : Nat) : (y.setDec n v).rdB k = y.rdB k := rfl
@[simp] theorem Sys.setDec_dict (y : Sys) (n : Nat) (v : Dec) : (y.setDec n v).dict = y.dict := rfl
@[simp] theorem Sys.setDec_blobs (y : Sys) (n : Nat) (v : Dec) : (y.setDec n v).blobs = y.blobs := rfl
@[simp] theorem Sys.setDec_t96 (y : Sys) (n : Nat) (v : Dec) : (y.setDec n v).t96 = y.t96 := rfl
@[simp] theorem Sys.setDec_up (y : Sys) (n : Nat) (v : Dec) : (y.setDec n v).up = y.up := rfl
@[simp] theorem Sys.setDec_seed (y : Sys) (n : Nat) (v : Dec) : (y.setDec n v).seed = y.seed := rfl
@[simp] theorem Sys.setDec_tx (y : Sys) (n : Nat) (v : Dec) : (y.setDec n v).tx = y.tx := rfl
@[simp] theorem Sys.setDec_log (y : Sys) (n : Nat) (v : Dec) : (y.setDec n v).log = y.log := rfl
@[simp] theorem Sys.setDec_boot (y : Sys) (n : Nat) (v : Dec) : (y.setDec n v).boot = y.boot := rfl
@[simp] theorem Sys.setDec_sup (y : Sys) (n : Nat) (v : Dec) : (y.setDec n v).sup = y.sup := rfl
@[simp] theorem Sys.setDec_gov (y : Sys) (n : Nat) (v : Dec) : (y.setDec n v).gov = y.gov := rfl
@[simp] theorem Sys.setDec_den (y : Sys) (n : Nat) (v : Dec) : (y.setDec n v).den = y.den := rfl
@[simp] theorem Sys.setDec_sec (y : Sys) (n : Nat) (v : Dec) : (y.setDec n v).sec = y.sec := rfl
@[simp] theorem Sys.setDec_mram (y : Sys) (n : Nat) (v : Dec) : (y.setDec n v).mram = y.mram := rfl
@[simp] theorem Sys.setDec_frames (y : Sys) (n : Nat) (v : Dec) : (y.setDec n v).frames = y.frames := rfl
@[simp] theorem Sys.setDec_ctxs (y : Sys) (n : Nat) (v : Dec) : (y.setDec n v).ctxs = y.ctxs := rfl
@[simp] theorem Sys.setDec_igs (y : Sys) (n : Nat) (v : Dec) : (y.setDec n v).igs = y.igs := rfl
@[simp] theorem Sys.setDec_ports (y : Sys) (n : Nat) (v : Dec) : (y.setDec n v).ports = y.ports := rfl
@[simp] theorem Sys.setDec_troupes (y : Sys) (n : Nat) (v : Dec) : (y.setDec n v).troupes = y.troupes := rfl
@[simp] theorem Sys.setDec_rfes (y : Sys) (n : Nat) (v : Dec) : (y.setDec n v).rfes = y.rfes := rfl
@[simp] theorem Sys.setDec_stores (y : Sys) (n : Nat) (v : Dec) : (y.setDec n v).stores = y.stores := rfl
@[simp] theorem Sys.setDec_holds (y : Sys) (n : Nat) (v : Dec) : (y.setDec n v).holds = y.holds := rfl
@[simp] theorem Sys.setDec_engines (y : Sys) (n : Nat) (v : Dec) : (y.setDec n v).engines = y.engines := rfl
@[simp] theorem Sys.setDec_resident (y : Sys) (n : Nat) (v : Dec) : (y.setDec n v).resident = y.resident := rfl
@[simp] theorem Sys.setDec_tables (y : Sys) (n : Nat) (v : Dec) : (y.setDec n v).tables = y.tables := rfl
@[simp] theorem Sys.setDec_pages (y : Sys) (n : Nat) (v : Dec) : (y.setDec n v).pages = y.pages := rfl
@[simp] theorem Sys.setDec_channels (y : Sys) (n : Nat) (v : Dec) : (y.setDec n v).channels = y.channels := rfl
@[simp] theorem Sys.setDec_sdis (y : Sys) (n : Nat) (v : Dec) : (y.setDec n v).sdis = y.sdis := rfl
@[simp] theorem Sys.setDec_edps (y : Sys) (n : Nat) (v : Dec) : (y.setDec n v).edps = y.edps := rfl
@[simp] theorem Sys.setDec_pathsDown (y : Sys) (n : Nat) (v : Dec) : (y.setDec n v).pathsDown = y.pathsDown := rfl
@[simp] theorem Sys.setDec_links (y : Sys) (n : Nat) (v : Dec) : (y.setDec n v).links = y.links := rfl
@[simp] theorem Sys.setDec_lanes (y : Sys) (n : Nat) (v : Dec) : (y.setDec n v).lanes = y.lanes := rfl
@[simp] theorem Sys.setDec_mailboxes (y : Sys) (n : Nat) (v : Dec) : (y.setDec n v).mailboxes = y.mailboxes := rfl
@[simp] theorem Sys.setDec_power (y : Sys) (n : Nat) (v : Dec) : (y.setDec n v).power = y.power := rfl
@[simp] theorem Sys.setDec_dram (y : Sys) (n : Nat) (v : Dec) : (y.setDec n v).dram = y.dram := rfl
@[simp] theorem Sys.setDec_mem (y : Sys) (n : Nat) (v : Dec) : (y.setDec n v).mem = y.mem := rfl
@[simp] theorem Sys.setDec_media (y : Sys) (n : Nat) (v : Dec) : (y.setDec n v).media = y.media := rfl
@[simp] theorem Sys.setDec_rings (y : Sys) (n : Nat) (v : Dec) : (y.setDec n v).rings = y.rings := rfl
@[simp] theorem Sys.setDec_zcs (y : Sys) (n : Nat) (v : Dec) : (y.setDec n v).zcs = y.zcs := rfl
@[simp] theorem Sys.setDec_positions (y : Sys) (n : Nat) (v : Dec) : (y.setDec n v).positions = y.positions := rfl
@[simp] theorem Sys.setDec_time (y : Sys) (n : Nat) (v : Dec) : (y.setDec n v).time = y.time := rfl
@[simp] theorem Sys.setDec_ptp (y : Sys) (n : Nat) (v : Dec) : (y.setDec n v).ptp = y.ptp := rfl
@[simp] theorem Sys.setDec_tios (y : Sys) (n : Nat) (v : Dec) : (y.setDec n v).tios = y.tios := rfl
@[simp] theorem Sys.setDec_twin (y : Sys) (n : Nat) (v : Dec) : (y.setDec n v).twin = y.twin := rfl
@[simp] theorem Sys.setDec_thermal (y : Sys) (n : Nat) (v : Dec) : (y.setDec n v).thermal = y.thermal := rfl
@[simp] theorem Sys.setDec_launches (y : Sys) (n : Nat) (v : Dec) : (y.setDec n v).launches = y.launches := rfl
@[simp] theorem Sys.setDec_audioIn (y : Sys) (n : Nat) (v : Dec) : (y.setDec n v).audioIn = y.audioIn := rfl
@[simp] theorem Sys.setDec_audioOut (y : Sys) (n : Nat) (v : Dec) : (y.setDec n v).audioOut = y.audioOut := rfl
@[simp] theorem Sys.setDec_felley (y : Sys) (n : Nat) (v : Dec) : (y.setDec n v).felley = y.felley := rfl
@[simp] theorem Sys.setDec_encs (y : Sys) (n : Nat) (v : Dec) : (y.setDec n v).encs = y.encs := rfl
@[simp] theorem Sys.setDec_cores (y : Sys) (n : Nat) (v : Dec) : (y.setDec n v).cores = y.cores := rfl
@[simp] theorem Sys.setDec_turn (y : Sys) (n : Nat) (v : Dec) : (y.setDec n v).turn = y.turn := rfl
@[simp] theorem Sys.dec_setDec (y : Sys) (n : Nat) (v : Dec) (j : Nat) : (y.setDec n v).dec j = if j = n then v else y.dec j := by
  simp only [Sys.dec, Sys.setDec, tget_tset]

/-! ## `Sys.setPos` -/

@[simp] theorem Sys.rd_setPos (y : Sys) (n : Nat) (v : PosCh) (k : Nat) : (y.setPos n v).rd k = y.rd k := rfl
@[simp] theorem Sys.rdB_setPos (y : Sys) (n : Nat) (v : PosCh) (k : Nat) : (y.setPos n v).rdB k = y.rdB k := rfl
@[simp] theorem Sys.setPos_dict (y : Sys) (n : Nat) (v : PosCh) : (y.setPos n v).dict = y.dict := rfl
@[simp] theorem Sys.setPos_blobs (y : Sys) (n : Nat) (v : PosCh) : (y.setPos n v).blobs = y.blobs := rfl
@[simp] theorem Sys.setPos_t96 (y : Sys) (n : Nat) (v : PosCh) : (y.setPos n v).t96 = y.t96 := rfl
@[simp] theorem Sys.setPos_up (y : Sys) (n : Nat) (v : PosCh) : (y.setPos n v).up = y.up := rfl
@[simp] theorem Sys.setPos_seed (y : Sys) (n : Nat) (v : PosCh) : (y.setPos n v).seed = y.seed := rfl
@[simp] theorem Sys.setPos_tx (y : Sys) (n : Nat) (v : PosCh) : (y.setPos n v).tx = y.tx := rfl
@[simp] theorem Sys.setPos_log (y : Sys) (n : Nat) (v : PosCh) : (y.setPos n v).log = y.log := rfl
@[simp] theorem Sys.setPos_boot (y : Sys) (n : Nat) (v : PosCh) : (y.setPos n v).boot = y.boot := rfl
@[simp] theorem Sys.setPos_sup (y : Sys) (n : Nat) (v : PosCh) : (y.setPos n v).sup = y.sup := rfl
@[simp] theorem Sys.setPos_gov (y : Sys) (n : Nat) (v : PosCh) : (y.setPos n v).gov = y.gov := rfl
@[simp] theorem Sys.setPos_den (y : Sys) (n : Nat) (v : PosCh) : (y.setPos n v).den = y.den := rfl
@[simp] theorem Sys.setPos_sec (y : Sys) (n : Nat) (v : PosCh) : (y.setPos n v).sec = y.sec := rfl
@[simp] theorem Sys.setPos_mram (y : Sys) (n : Nat) (v : PosCh) : (y.setPos n v).mram = y.mram := rfl
@[simp] theorem Sys.setPos_frames (y : Sys) (n : Nat) (v : PosCh) : (y.setPos n v).frames = y.frames := rfl
@[simp] theorem Sys.setPos_ctxs (y : Sys) (n : Nat) (v : PosCh) : (y.setPos n v).ctxs = y.ctxs := rfl
@[simp] theorem Sys.setPos_igs (y : Sys) (n : Nat) (v : PosCh) : (y.setPos n v).igs = y.igs := rfl
@[simp] theorem Sys.setPos_ports (y : Sys) (n : Nat) (v : PosCh) : (y.setPos n v).ports = y.ports := rfl
@[simp] theorem Sys.setPos_troupes (y : Sys) (n : Nat) (v : PosCh) : (y.setPos n v).troupes = y.troupes := rfl
@[simp] theorem Sys.setPos_rfes (y : Sys) (n : Nat) (v : PosCh) : (y.setPos n v).rfes = y.rfes := rfl
@[simp] theorem Sys.setPos_stores (y : Sys) (n : Nat) (v : PosCh) : (y.setPos n v).stores = y.stores := rfl
@[simp] theorem Sys.setPos_holds (y : Sys) (n : Nat) (v : PosCh) : (y.setPos n v).holds = y.holds := rfl
@[simp] theorem Sys.setPos_engines (y : Sys) (n : Nat) (v : PosCh) : (y.setPos n v).engines = y.engines := rfl
@[simp] theorem Sys.setPos_resident (y : Sys) (n : Nat) (v : PosCh) : (y.setPos n v).resident = y.resident := rfl
@[simp] theorem Sys.setPos_tables (y : Sys) (n : Nat) (v : PosCh) : (y.setPos n v).tables = y.tables := rfl
@[simp] theorem Sys.setPos_pages (y : Sys) (n : Nat) (v : PosCh) : (y.setPos n v).pages = y.pages := rfl
@[simp] theorem Sys.setPos_channels (y : Sys) (n : Nat) (v : PosCh) : (y.setPos n v).channels = y.channels := rfl
@[simp] theorem Sys.setPos_sdis (y : Sys) (n : Nat) (v : PosCh) : (y.setPos n v).sdis = y.sdis := rfl
@[simp] theorem Sys.setPos_edps (y : Sys) (n : Nat) (v : PosCh) : (y.setPos n v).edps = y.edps := rfl
@[simp] theorem Sys.setPos_pathsDown (y : Sys) (n : Nat) (v : PosCh) : (y.setPos n v).pathsDown = y.pathsDown := rfl
@[simp] theorem Sys.setPos_links (y : Sys) (n : Nat) (v : PosCh) : (y.setPos n v).links = y.links := rfl
@[simp] theorem Sys.setPos_lanes (y : Sys) (n : Nat) (v : PosCh) : (y.setPos n v).lanes = y.lanes := rfl
@[simp] theorem Sys.setPos_mailboxes (y : Sys) (n : Nat) (v : PosCh) : (y.setPos n v).mailboxes = y.mailboxes := rfl
@[simp] theorem Sys.setPos_power (y : Sys) (n : Nat) (v : PosCh) : (y.setPos n v).power = y.power := rfl
@[simp] theorem Sys.setPos_dram (y : Sys) (n : Nat) (v : PosCh) : (y.setPos n v).dram = y.dram := rfl
@[simp] theorem Sys.setPos_mem (y : Sys) (n : Nat) (v : PosCh) : (y.setPos n v).mem = y.mem := rfl
@[simp] theorem Sys.setPos_media (y : Sys) (n : Nat) (v : PosCh) : (y.setPos n v).media = y.media := rfl
@[simp] theorem Sys.setPos_rings (y : Sys) (n : Nat) (v : PosCh) : (y.setPos n v).rings = y.rings := rfl
@[simp] theorem Sys.setPos_zcs (y : Sys) (n : Nat) (v : PosCh) : (y.setPos n v).zcs = y.zcs := rfl
@[simp] theorem Sys.setPos_time (y : Sys) (n : Nat) (v : PosCh) : (y.setPos n v).time = y.time := rfl
@[simp] theorem Sys.setPos_ptp (y : Sys) (n : Nat) (v : PosCh) : (y.setPos n v).ptp = y.ptp := rfl
@[simp] theorem Sys.setPos_tios (y : Sys) (n : Nat) (v : PosCh) : (y.setPos n v).tios = y.tios := rfl
@[simp] theorem Sys.setPos_twin (y : Sys) (n : Nat) (v : PosCh) : (y.setPos n v).twin = y.twin := rfl
@[simp] theorem Sys.setPos_thermal (y : Sys) (n : Nat) (v : PosCh) : (y.setPos n v).thermal = y.thermal := rfl
@[simp] theorem Sys.setPos_launches (y : Sys) (n : Nat) (v : PosCh) : (y.setPos n v).launches = y.launches := rfl
@[simp] theorem Sys.setPos_audioIn (y : Sys) (n : Nat) (v : PosCh) : (y.setPos n v).audioIn = y.audioIn := rfl
@[simp] theorem Sys.setPos_audioOut (y : Sys) (n : Nat) (v : PosCh) : (y.setPos n v).audioOut = y.audioOut := rfl
@[simp] theorem Sys.setPos_felley (y : Sys) (n : Nat) (v : PosCh) : (y.setPos n v).felley = y.felley := rfl
@[simp] theorem Sys.setPos_encs (y : Sys) (n : Nat) (v : PosCh) : (y.setPos n v).encs = y.encs := rfl
@[simp] theorem Sys.setPos_decs (y : Sys) (n : Nat) (v : PosCh) : (y.setPos n v).decs = y.decs := rfl
@[simp] theorem Sys.setPos_cores (y : Sys) (n : Nat) (v : PosCh) : (y.setPos n v).cores = y.cores := rfl
@[simp] theorem Sys.setPos_turn (y : Sys) (n : Nat) (v : PosCh) : (y.setPos n v).turn = y.turn := rfl
@[simp] theorem Sys.pos_setPos (y : Sys) (n : Nat) (v : PosCh) (j : Nat) : (y.setPos n v).pos j = if j = n then v else y.pos j := by
  simp only [Sys.pos, Sys.setPos, tget_tset]

/-! ## `Sys.onPower` -/

@[simp] theorem Sys.rd_onPower (y : Sys) (f : Power → Power) (k : Nat) : (y.onPower f).rd k = y.rd k := rfl
@[simp] theorem Sys.rdB_onPower (y : Sys) (f : Power → Power) (k : Nat) : (y.onPower f).rdB k = y.rdB k := rfl
@[simp] theorem Sys.onPower_dict (y : Sys) (f : Power → Power) : (y.onPower f).dict = y.dict := rfl
@[simp] theorem Sys.onPower_blobs (y : Sys) (f : Power → Power) : (y.onPower f).blobs = y.blobs := rfl
@[simp] theorem Sys.onPower_t96 (y : Sys) (f : Power → Power) : (y.onPower f).t96 = y.t96 := rfl
@[simp] theorem Sys.onPower_up (y : Sys) (f : Power → Power) : (y.onPower f).up = y.up := rfl
@[simp] theorem Sys.onPower_seed (y : Sys) (f : Power → Power) : (y.onPower f).seed = y.seed := rfl
@[simp] theorem Sys.onPower_tx (y : Sys) (f : Power → Power) : (y.onPower f).tx = y.tx := rfl
@[simp] theorem Sys.onPower_log (y : Sys) (f : Power → Power) : (y.onPower f).log = y.log := rfl
@[simp] theorem Sys.onPower_boot (y : Sys) (f : Power → Power) : (y.onPower f).boot = y.boot := rfl
@[simp] theorem Sys.onPower_sup (y : Sys) (f : Power → Power) : (y.onPower f).sup = y.sup := rfl
@[simp] theorem Sys.onPower_gov (y : Sys) (f : Power → Power) : (y.onPower f).gov = y.gov := rfl
@[simp] theorem Sys.onPower_den (y : Sys) (f : Power → Power) : (y.onPower f).den = y.den := rfl
@[simp] theorem Sys.onPower_sec (y : Sys) (f : Power → Power) : (y.onPower f).sec = y.sec := rfl
@[simp] theorem Sys.onPower_mram (y : Sys) (f : Power → Power) : (y.onPower f).mram = y.mram := rfl
@[simp] theorem Sys.onPower_frames (y : Sys) (f : Power → Power) : (y.onPower f).frames = y.frames := rfl
@[simp] theorem Sys.onPower_ctxs (y : Sys) (f : Power → Power) : (y.onPower f).ctxs = y.ctxs := rfl
@[simp] theorem Sys.onPower_igs (y : Sys) (f : Power → Power) : (y.onPower f).igs = y.igs := rfl
@[simp] theorem Sys.onPower_ports (y : Sys) (f : Power → Power) : (y.onPower f).ports = y.ports := rfl
@[simp] theorem Sys.onPower_troupes (y : Sys) (f : Power → Power) : (y.onPower f).troupes = y.troupes := rfl
@[simp] theorem Sys.onPower_rfes (y : Sys) (f : Power → Power) : (y.onPower f).rfes = y.rfes := rfl
@[simp] theorem Sys.onPower_stores (y : Sys) (f : Power → Power) : (y.onPower f).stores = y.stores := rfl
@[simp] theorem Sys.onPower_holds (y : Sys) (f : Power → Power) : (y.onPower f).holds = y.holds := rfl
@[simp] theorem Sys.onPower_engines (y : Sys) (f : Power → Power) : (y.onPower f).engines = y.engines := rfl
@[simp] theorem Sys.onPower_resident (y : Sys) (f : Power → Power) : (y.onPower f).resident = y.resident := rfl
@[simp] theorem Sys.onPower_tables (y : Sys) (f : Power → Power) : (y.onPower f).tables = y.tables := rfl
@[simp] theorem Sys.onPower_pages (y : Sys) (f : Power → Power) : (y.onPower f).pages = y.pages := rfl
@[simp] theorem Sys.onPower_channels (y : Sys) (f : Power → Power) : (y.onPower f).channels = y.channels := rfl
@[simp] theorem Sys.onPower_sdis (y : Sys) (f : Power → Power) : (y.onPower f).sdis = y.sdis := rfl
@[simp] theorem Sys.onPower_edps (y : Sys) (f : Power → Power) : (y.onPower f).edps = y.edps := rfl
@[simp] theorem Sys.onPower_pathsDown (y : Sys) (f : Power → Power) : (y.onPower f).pathsDown = y.pathsDown := rfl
@[simp] theorem Sys.onPower_links (y : Sys) (f : Power → Power) : (y.onPower f).links = y.links := rfl
@[simp] theorem Sys.onPower_lanes (y : Sys) (f : Power → Power) : (y.onPower f).lanes = y.lanes := rfl
@[simp] theorem Sys.onPower_mailboxes (y : Sys) (f : Power → Power) : (y.onPower f).mailboxes = y.mailboxes := rfl
@[simp] theorem Sys.onPower_dram (y : Sys) (f : Power → Power) : (y.onPower f).dram = y.dram := rfl
@[simp] theorem Sys.onPower_mem (y : Sys) (f : Power → Power) : (y.onPower f).mem = y.mem := rfl
@[simp] theorem Sys.onPower_media (y : Sys) (f : Power → Power) : (y.onPower f).media = y.media := rfl
@[simp] theorem Sys.onPower_rings (y : Sys) (f : Power → Power) : (y.onPower f).rings = y.rings := rfl
@[simp] theorem Sys.onPower_zcs (y : Sys) (f : Power → Power) : (y.onPower f).zcs = y.zcs := rfl
@[simp] theorem Sys.onPower_positions (y : Sys) (f : Power → Power) : (y.onPower f).positions = y.positions := rfl
@[simp] theorem Sys.onPower_time (y : Sys) (f : Power → Power) : (y.onPower f).time = y.time := rfl
@[simp] theorem Sys.onPower_ptp (y : Sys) (f : Power → Power) : (y.onPower f).ptp = y.ptp := rfl
@[simp] theorem Sys.onPower_tios (y : Sys) (f : Power → Power) : (y.onPower f).tios = y.tios := rfl
@[simp] theorem Sys.onPower_twin (y : Sys) (f : Power → Power) : (y.onPower f).twin = y.twin := rfl
@[simp] theorem Sys.onPower_thermal (y : Sys) (f : Power → Power) : (y.onPower f).thermal = y.thermal := rfl
@[simp] theorem Sys.onPower_launches (y : Sys) (f : Power → Power) : (y.onPower f).launches = y.launches := rfl
@[simp] theorem Sys.onPower_audioIn (y : Sys) (f : Power → Power) : (y.onPower f).audioIn = y.audioIn := rfl
@[simp] theorem Sys.onPower_audioOut (y : Sys) (f : Power → Power) : (y.onPower f).audioOut = y.audioOut := rfl
@[simp] theorem Sys.onPower_felley (y : Sys) (f : Power → Power) : (y.onPower f).felley = y.felley := rfl
@[simp] theorem Sys.onPower_encs (y : Sys) (f : Power → Power) : (y.onPower f).encs = y.encs := rfl
@[simp] theorem Sys.onPower_decs (y : Sys) (f : Power → Power) : (y.onPower f).decs = y.decs := rfl
@[simp] theorem Sys.onPower_cores (y : Sys) (f : Power → Power) : (y.onPower f).cores = y.cores := rfl
@[simp] theorem Sys.onPower_turn (y : Sys) (f : Power → Power) : (y.onPower f).turn = y.turn := rfl
@[simp] theorem Sys.onPower_power (y : Sys) (f : Power → Power) : (y.onPower f).power = f y.power := rfl

/-! ## `Sys.setChain` -/

@[simp] theorem Sys.rd_setChain (y : Sys) (n : Nat) (v : Chain) (k : Nat) : (y.setChain n v).rd k = y.rd k := rfl
@[simp] theorem Sys.rdB_setChain (y : Sys) (n : Nat) (v : Chain) (k : Nat) : (y.setChain n v).rdB k = y.rdB k := rfl
@[simp] theorem Sys.setChain_dict (y : Sys) (n : Nat) (v : Chain) : (y.setChain n v).dict = y.dict := rfl
@[simp] theorem Sys.setChain_blobs (y : Sys) (n : Nat) (v : Chain) : (y.setChain n v).blobs = y.blobs := rfl
@[simp] theorem Sys.setChain_t96 (y : Sys) (n : Nat) (v : Chain) : (y.setChain n v).t96 = y.t96 := rfl
@[simp] theorem Sys.setChain_up (y : Sys) (n : Nat) (v : Chain) : (y.setChain n v).up = y.up := rfl
@[simp] theorem Sys.setChain_seed (y : Sys) (n : Nat) (v : Chain) : (y.setChain n v).seed = y.seed := rfl
@[simp] theorem Sys.setChain_tx (y : Sys) (n : Nat) (v : Chain) : (y.setChain n v).tx = y.tx := rfl
@[simp] theorem Sys.setChain_log (y : Sys) (n : Nat) (v : Chain) : (y.setChain n v).log = y.log := rfl
@[simp] theorem Sys.setChain_boot (y : Sys) (n : Nat) (v : Chain) : (y.setChain n v).boot = y.boot := rfl
@[simp] theorem Sys.setChain_sup (y : Sys) (n : Nat) (v : Chain) : (y.setChain n v).sup = y.sup := rfl
@[simp] theorem Sys.setChain_gov (y : Sys) (n : Nat) (v : Chain) : (y.setChain n v).gov = y.gov := rfl
@[simp] theorem Sys.setChain_den (y : Sys) (n : Nat) (v : Chain) : (y.setChain n v).den = y.den := rfl
@[simp] theorem Sys.setChain_mram (y : Sys) (n : Nat) (v : Chain) : (y.setChain n v).mram = y.mram := rfl
@[simp] theorem Sys.setChain_frames (y : Sys) (n : Nat) (v : Chain) : (y.setChain n v).frames = y.frames := rfl
@[simp] theorem Sys.setChain_ctxs (y : Sys) (n : Nat) (v : Chain) : (y.setChain n v).ctxs = y.ctxs := rfl
@[simp] theorem Sys.setChain_igs (y : Sys) (n : Nat) (v : Chain) : (y.setChain n v).igs = y.igs := rfl
@[simp] theorem Sys.setChain_ports (y : Sys) (n : Nat) (v : Chain) : (y.setChain n v).ports = y.ports := rfl
@[simp] theorem Sys.setChain_troupes (y : Sys) (n : Nat) (v : Chain) : (y.setChain n v).troupes = y.troupes := rfl
@[simp] theorem Sys.setChain_rfes (y : Sys) (n : Nat) (v : Chain) : (y.setChain n v).rfes = y.rfes := rfl
@[simp] theorem Sys.setChain_stores (y : Sys) (n : Nat) (v : Chain) : (y.setChain n v).stores = y.stores := rfl
@[simp] theorem Sys.setChain_holds (y : Sys) (n : Nat) (v : Chain) : (y.setChain n v).holds = y.holds := rfl
@[simp] theorem Sys.setChain_engines (y : Sys) (n : Nat) (v : Chain) : (y.setChain n v).engines = y.engines := rfl
@[simp] theorem Sys.setChain_resident (y : Sys) (n : Nat) (v : Chain) : (y.setChain n v).resident = y.resident := rfl
@[simp] theorem Sys.setChain_tables (y : Sys) (n : Nat) (v : Chain) : (y.setChain n v).tables = y.tables := rfl
@[simp] theorem Sys.setChain_pages (y : Sys) (n : Nat) (v : Chain) : (y.setChain n v).pages = y.pages := rfl
@[simp] theorem Sys.setChain_channels (y : Sys) (n : Nat) (v : Chain) : (y.setChain n v).channels = y.channels := rfl
@[simp] theorem Sys.setChain_sdis (y : Sys) (n : Nat) (v : Chain) : (y.setChain n v).sdis = y.sdis := rfl
@[simp] theorem Sys.setChain_edps (y : Sys) (n : Nat) (v : Chain) : (y.setChain n v).edps = y.edps := rfl
@[simp] theorem Sys.setChain_pathsDown (y : Sys) (n : Nat) (v : Chain) : (y.setChain n v).pathsDown = y.pathsDown := rfl
@[simp] theorem Sys.setChain_links (y : Sys) (n : Nat) (v : Chain) : (y.setChain n v).links = y.links := rfl
@[simp] theorem Sys.setChain_lanes (y : Sys) (n : Nat) (v : Chain) : (y.setChain n v).lanes = y.lanes := rfl
@[simp] theorem Sys.setChain_mailboxes (y : Sys) (n : Nat) (v : Chain) : (y.setChain n v).mailboxes = y.mailboxes := rfl
@[simp] theorem Sys.setChain_power (y : Sys) (n : Nat) (v : Chain) : (y.setChain n v).power = y.power := rfl
@[simp] theorem Sys.setChain_dram (y : Sys) (n : Nat) (v : Chain) : (y.setChain n v).dram = y.dram := rfl
@[simp] theorem Sys.setChain_mem (y : Sys) (n : Nat) (v : Chain) : (y.setChain n v).mem = y.mem := rfl
@[simp] theorem Sys.setChain_media (y : Sys) (n : Nat) (v : Chain) : (y.setChain n v).media = y.media := rfl
@[simp] theorem Sys.setChain_rings (y : Sys) (n : Nat) (v : Chain) : (y.setChain n v).rings = y.rings := rfl
@[simp] theorem Sys.setChain_zcs (y : Sys) (n : Nat) (v : Chain) : (y.setChain n v).zcs = y.zcs := rfl
@[simp] theorem Sys.setChain_positions (y : Sys) (n : Nat) (v : Chain) : (y.setChain n v).positions = y.positions := rfl
@[simp] theorem Sys.setChain_time (y : Sys) (n : Nat) (v : Chain) : (y.setChain n v).time = y.time := rfl
@[simp] theorem Sys.setChain_ptp (y : Sys) (n : Nat) (v : Chain) : (y.setChain n v).ptp = y.ptp := rfl
@[simp] theorem Sys.setChain_tios (y : Sys) (n : Nat) (v : Chain) : (y.setChain n v).tios = y.tios := rfl
@[simp] theorem Sys.setChain_twin (y : Sys) (n : Nat) (v : Chain) : (y.setChain n v).twin = y.twin := rfl
@[simp] theorem Sys.setChain_thermal (y : Sys) (n : Nat) (v : Chain) : (y.setChain n v).thermal = y.thermal := rfl
@[simp] theorem Sys.setChain_launches (y : Sys) (n : Nat) (v : Chain) : (y.setChain n v).launches = y.launches := rfl
@[simp] theorem Sys.setChain_audioIn (y : Sys) (n : Nat) (v : Chain) : (y.setChain n v).audioIn = y.audioIn := rfl
@[simp] theorem Sys.setChain_audioOut (y : Sys) (n : Nat) (v : Chain) : (y.setChain n v).audioOut = y.audioOut := rfl
@[simp] theorem Sys.setChain_felley (y : Sys) (n : Nat) (v : Chain) : (y.setChain n v).felley = y.felley := rfl
@[simp] theorem Sys.setChain_encs (y : Sys) (n : Nat) (v : Chain) : (y.setChain n v).encs = y.encs := rfl
@[simp] theorem Sys.setChain_decs (y : Sys) (n : Nat) (v : Chain) : (y.setChain n v).decs = y.decs := rfl
@[simp] theorem Sys.setChain_cores (y : Sys) (n : Nat) (v : Chain) : (y.setChain n v).cores = y.cores := rfl
@[simp] theorem Sys.setChain_turn (y : Sys) (n : Nat) (v : Chain) : (y.setChain n v).turn = y.turn := rfl
@[simp] theorem Sys.chain_setChain (y : Sys) (n : Nat) (v : Chain) (j : Nat) : (y.setChain n v).chain j = if j = n then v else y.chain j := by
  simp only [Sys.chain, Sys.setChain, tget_tset]

/-! ## `Sys.setPtp` -/

@[simp] theorem Sys.rd_setPtp (y : Sys) (n : Nat) (v : PtpPort) (k : Nat) : (y.setPtp n v).rd k = y.rd k := rfl
@[simp] theorem Sys.rdB_setPtp (y : Sys) (n : Nat) (v : PtpPort) (k : Nat) : (y.setPtp n v).rdB k = y.rdB k := rfl
@[simp] theorem Sys.setPtp_dict (y : Sys) (n : Nat) (v : PtpPort) : (y.setPtp n v).dict = y.dict := rfl
@[simp] theorem Sys.setPtp_blobs (y : Sys) (n : Nat) (v : PtpPort) : (y.setPtp n v).blobs = y.blobs := rfl
@[simp] theorem Sys.setPtp_t96 (y : Sys) (n : Nat) (v : PtpPort) : (y.setPtp n v).t96 = y.t96 := rfl
@[simp] theorem Sys.setPtp_up (y : Sys) (n : Nat) (v : PtpPort) : (y.setPtp n v).up = y.up := rfl
@[simp] theorem Sys.setPtp_seed (y : Sys) (n : Nat) (v : PtpPort) : (y.setPtp n v).seed = y.seed := rfl
@[simp] theorem Sys.setPtp_tx (y : Sys) (n : Nat) (v : PtpPort) : (y.setPtp n v).tx = y.tx := rfl
@[simp] theorem Sys.setPtp_log (y : Sys) (n : Nat) (v : PtpPort) : (y.setPtp n v).log = y.log := rfl
@[simp] theorem Sys.setPtp_boot (y : Sys) (n : Nat) (v : PtpPort) : (y.setPtp n v).boot = y.boot := rfl
@[simp] theorem Sys.setPtp_sup (y : Sys) (n : Nat) (v : PtpPort) : (y.setPtp n v).sup = y.sup := rfl
@[simp] theorem Sys.setPtp_gov (y : Sys) (n : Nat) (v : PtpPort) : (y.setPtp n v).gov = y.gov := rfl
@[simp] theorem Sys.setPtp_den (y : Sys) (n : Nat) (v : PtpPort) : (y.setPtp n v).den = y.den := rfl
@[simp] theorem Sys.setPtp_sec (y : Sys) (n : Nat) (v : PtpPort) : (y.setPtp n v).sec = y.sec := rfl
@[simp] theorem Sys.setPtp_mram (y : Sys) (n : Nat) (v : PtpPort) : (y.setPtp n v).mram = y.mram := rfl
@[simp] theorem Sys.setPtp_frames (y : Sys) (n : Nat) (v : PtpPort) : (y.setPtp n v).frames = y.frames := rfl
@[simp] theorem Sys.setPtp_ctxs (y : Sys) (n : Nat) (v : PtpPort) : (y.setPtp n v).ctxs = y.ctxs := rfl
@[simp] theorem Sys.setPtp_igs (y : Sys) (n : Nat) (v : PtpPort) : (y.setPtp n v).igs = y.igs := rfl
@[simp] theorem Sys.setPtp_ports (y : Sys) (n : Nat) (v : PtpPort) : (y.setPtp n v).ports = y.ports := rfl
@[simp] theorem Sys.setPtp_troupes (y : Sys) (n : Nat) (v : PtpPort) : (y.setPtp n v).troupes = y.troupes := rfl
@[simp] theorem Sys.setPtp_rfes (y : Sys) (n : Nat) (v : PtpPort) : (y.setPtp n v).rfes = y.rfes := rfl
@[simp] theorem Sys.setPtp_stores (y : Sys) (n : Nat) (v : PtpPort) : (y.setPtp n v).stores = y.stores := rfl
@[simp] theorem Sys.setPtp_holds (y : Sys) (n : Nat) (v : PtpPort) : (y.setPtp n v).holds = y.holds := rfl
@[simp] theorem Sys.setPtp_engines (y : Sys) (n : Nat) (v : PtpPort) : (y.setPtp n v).engines = y.engines := rfl
@[simp] theorem Sys.setPtp_resident (y : Sys) (n : Nat) (v : PtpPort) : (y.setPtp n v).resident = y.resident := rfl
@[simp] theorem Sys.setPtp_tables (y : Sys) (n : Nat) (v : PtpPort) : (y.setPtp n v).tables = y.tables := rfl
@[simp] theorem Sys.setPtp_pages (y : Sys) (n : Nat) (v : PtpPort) : (y.setPtp n v).pages = y.pages := rfl
@[simp] theorem Sys.setPtp_channels (y : Sys) (n : Nat) (v : PtpPort) : (y.setPtp n v).channels = y.channels := rfl
@[simp] theorem Sys.setPtp_sdis (y : Sys) (n : Nat) (v : PtpPort) : (y.setPtp n v).sdis = y.sdis := rfl
@[simp] theorem Sys.setPtp_edps (y : Sys) (n : Nat) (v : PtpPort) : (y.setPtp n v).edps = y.edps := rfl
@[simp] theorem Sys.setPtp_pathsDown (y : Sys) (n : Nat) (v : PtpPort) : (y.setPtp n v).pathsDown = y.pathsDown := rfl
@[simp] theorem Sys.setPtp_links (y : Sys) (n : Nat) (v : PtpPort) : (y.setPtp n v).links = y.links := rfl
@[simp] theorem Sys.setPtp_lanes (y : Sys) (n : Nat) (v : PtpPort) : (y.setPtp n v).lanes = y.lanes := rfl
@[simp] theorem Sys.setPtp_mailboxes (y : Sys) (n : Nat) (v : PtpPort) : (y.setPtp n v).mailboxes = y.mailboxes := rfl
@[simp] theorem Sys.setPtp_power (y : Sys) (n : Nat) (v : PtpPort) : (y.setPtp n v).power = y.power := rfl
@[simp] theorem Sys.setPtp_dram (y : Sys) (n : Nat) (v : PtpPort) : (y.setPtp n v).dram = y.dram := rfl
@[simp] theorem Sys.setPtp_mem (y : Sys) (n : Nat) (v : PtpPort) : (y.setPtp n v).mem = y.mem := rfl
@[simp] theorem Sys.setPtp_media (y : Sys) (n : Nat) (v : PtpPort) : (y.setPtp n v).media = y.media := rfl
@[simp] theorem Sys.setPtp_rings (y : Sys) (n : Nat) (v : PtpPort) : (y.setPtp n v).rings = y.rings := rfl
@[simp] theorem Sys.setPtp_zcs (y : Sys) (n : Nat) (v : PtpPort) : (y.setPtp n v).zcs = y.zcs := rfl
@[simp] theorem Sys.setPtp_positions (y : Sys) (n : Nat) (v : PtpPort) : (y.setPtp n v).positions = y.positions := rfl
@[simp] theorem Sys.setPtp_time (y : Sys) (n : Nat) (v : PtpPort) : (y.setPtp n v).time = y.time := rfl
@[simp] theorem Sys.setPtp_tios (y : Sys) (n : Nat) (v : PtpPort) : (y.setPtp n v).tios = y.tios := rfl
@[simp] theorem Sys.setPtp_twin (y : Sys) (n : Nat) (v : PtpPort) : (y.setPtp n v).twin = y.twin := rfl
@[simp] theorem Sys.setPtp_thermal (y : Sys) (n : Nat) (v : PtpPort) : (y.setPtp n v).thermal = y.thermal := rfl
@[simp] theorem Sys.setPtp_launches (y : Sys) (n : Nat) (v : PtpPort) : (y.setPtp n v).launches = y.launches := rfl
@[simp] theorem Sys.setPtp_audioIn (y : Sys) (n : Nat) (v : PtpPort) : (y.setPtp n v).audioIn = y.audioIn := rfl
@[simp] theorem Sys.setPtp_audioOut (y : Sys) (n : Nat) (v : PtpPort) : (y.setPtp n v).audioOut = y.audioOut := rfl
@[simp] theorem Sys.setPtp_felley (y : Sys) (n : Nat) (v : PtpPort) : (y.setPtp n v).felley = y.felley := rfl
@[simp] theorem Sys.setPtp_encs (y : Sys) (n : Nat) (v : PtpPort) : (y.setPtp n v).encs = y.encs := rfl
@[simp] theorem Sys.setPtp_decs (y : Sys) (n : Nat) (v : PtpPort) : (y.setPtp n v).decs = y.decs := rfl
@[simp] theorem Sys.setPtp_cores (y : Sys) (n : Nat) (v : PtpPort) : (y.setPtp n v).cores = y.cores := rfl
@[simp] theorem Sys.setPtp_turn (y : Sys) (n : Nat) (v : PtpPort) : (y.setPtp n v).turn = y.turn := rfl
@[simp] theorem Sys.ptpPort_setPtp (y : Sys) (n : Nat) (v : PtpPort) (j : Nat) : (y.setPtp n v).ptpPort j = if j = n then v else y.ptpPort j := by
  simp only [Sys.ptpPort, Sys.setPtp, tget_tset]

/-! ## `Sys.setChannel` -/

@[simp] theorem Sys.rd_setChannel (y : Sys) (n : Nat) (v : Channel) (k : Nat) : (y.setChannel n v).rd k = y.rd k := rfl
@[simp] theorem Sys.rdB_setChannel (y : Sys) (n : Nat) (v : Channel) (k : Nat) : (y.setChannel n v).rdB k = y.rdB k := rfl
@[simp] theorem Sys.setChannel_dict (y : Sys) (n : Nat) (v : Channel) : (y.setChannel n v).dict = y.dict := rfl
@[simp] theorem Sys.setChannel_blobs (y : Sys) (n : Nat) (v : Channel) : (y.setChannel n v).blobs = y.blobs := rfl
@[simp] theorem Sys.setChannel_t96 (y : Sys) (n : Nat) (v : Channel) : (y.setChannel n v).t96 = y.t96 := rfl
@[simp] theorem Sys.setChannel_up (y : Sys) (n : Nat) (v : Channel) : (y.setChannel n v).up = y.up := rfl
@[simp] theorem Sys.setChannel_seed (y : Sys) (n : Nat) (v : Channel) : (y.setChannel n v).seed = y.seed := rfl
@[simp] theorem Sys.setChannel_tx (y : Sys) (n : Nat) (v : Channel) : (y.setChannel n v).tx = y.tx := rfl
@[simp] theorem Sys.setChannel_log (y : Sys) (n : Nat) (v : Channel) : (y.setChannel n v).log = y.log := rfl
@[simp] theorem Sys.setChannel_boot (y : Sys) (n : Nat) (v : Channel) : (y.setChannel n v).boot = y.boot := rfl
@[simp] theorem Sys.setChannel_sup (y : Sys) (n : Nat) (v : Channel) : (y.setChannel n v).sup = y.sup := rfl
@[simp] theorem Sys.setChannel_gov (y : Sys) (n : Nat) (v : Channel) : (y.setChannel n v).gov = y.gov := rfl
@[simp] theorem Sys.setChannel_den (y : Sys) (n : Nat) (v : Channel) : (y.setChannel n v).den = y.den := rfl
@[simp] theorem Sys.setChannel_sec (y : Sys) (n : Nat) (v : Channel) : (y.setChannel n v).sec = y.sec := rfl
@[simp] theorem Sys.setChannel_mram (y : Sys) (n : Nat) (v : Channel) : (y.setChannel n v).mram = y.mram := rfl
@[simp] theorem Sys.setChannel_frames (y : Sys) (n : Nat) (v : Channel) : (y.setChannel n v).frames = y.frames := rfl
@[simp] theorem Sys.setChannel_ctxs (y : Sys) (n : Nat) (v : Channel) : (y.setChannel n v).ctxs = y.ctxs := rfl
@[simp] theorem Sys.setChannel_igs (y : Sys) (n : Nat) (v : Channel) : (y.setChannel n v).igs = y.igs := rfl
@[simp] theorem Sys.setChannel_ports (y : Sys) (n : Nat) (v : Channel) : (y.setChannel n v).ports = y.ports := rfl
@[simp] theorem Sys.setChannel_troupes (y : Sys) (n : Nat) (v : Channel) : (y.setChannel n v).troupes = y.troupes := rfl
@[simp] theorem Sys.setChannel_rfes (y : Sys) (n : Nat) (v : Channel) : (y.setChannel n v).rfes = y.rfes := rfl
@[simp] theorem Sys.setChannel_stores (y : Sys) (n : Nat) (v : Channel) : (y.setChannel n v).stores = y.stores := rfl
@[simp] theorem Sys.setChannel_holds (y : Sys) (n : Nat) (v : Channel) : (y.setChannel n v).holds = y.holds := rfl
@[simp] theorem Sys.setChannel_engines (y : Sys) (n : Nat) (v : Channel) : (y.setChannel n v).engines = y.engines := rfl
@[simp] theorem Sys.setChannel_resident (y : Sys) (n : Nat) (v : Channel) : (y.setChannel n v).resident = y.resident := rfl
@[simp] theorem Sys.setChannel_tables (y : Sys) (n : Nat) (v : Channel) : (y.setChannel n v).tables = y.tables := rfl
@[simp] theorem Sys.setChannel_pages (y : Sys) (n : Nat) (v : Channel) : (y.setChannel n v).pages = y.pages := rfl
@[simp] theorem Sys.setChannel_sdis (y : Sys) (n : Nat) (v : Channel) : (y.setChannel n v).sdis = y.sdis := rfl
@[simp] theorem Sys.setChannel_edps (y : Sys) (n : Nat) (v : Channel) : (y.setChannel n v).edps = y.edps := rfl
@[simp] theorem Sys.setChannel_pathsDown (y : Sys) (n : Nat) (v : Channel) : (y.setChannel n v).pathsDown = y.pathsDown := rfl
@[simp] theorem Sys.setChannel_links (y : Sys) (n : Nat) (v : Channel) : (y.setChannel n v).links = y.links := rfl
@[simp] theorem Sys.setChannel_lanes (y : Sys) (n : Nat) (v : Channel) : (y.setChannel n v).lanes = y.lanes := rfl
@[simp] theorem Sys.setChannel_mailboxes (y : Sys) (n : Nat) (v : Channel) : (y.setChannel n v).mailboxes = y.mailboxes := rfl
@[simp] theorem Sys.setChannel_power (y : Sys) (n : Nat) (v : Channel) : (y.setChannel n v).power = y.power := rfl
@[simp] theorem Sys.setChannel_dram (y : Sys) (n : Nat) (v : Channel) : (y.setChannel n v).dram = y.dram := rfl
@[simp] theorem Sys.setChannel_mem (y : Sys) (n : Nat) (v : Channel) : (y.setChannel n v).mem = y.mem := rfl
@[simp] theorem Sys.setChannel_media (y : Sys) (n : Nat) (v : Channel) : (y.setChannel n v).media = y.media := rfl
@[simp] theorem Sys.setChannel_rings (y : Sys) (n : Nat) (v : Channel) : (y.setChannel n v).rings = y.rings := rfl
@[simp] theorem Sys.setChannel_zcs (y : Sys) (n : Nat) (v : Channel) : (y.setChannel n v).zcs = y.zcs := rfl
@[simp] theorem Sys.setChannel_positions (y : Sys) (n : Nat) (v : Channel) : (y.setChannel n v).positions = y.positions := rfl
@[simp] theorem Sys.setChannel_time (y : Sys) (n : Nat) (v : Channel) : (y.setChannel n v).time = y.time := rfl
@[simp] theorem Sys.setChannel_ptp (y : Sys) (n : Nat) (v : Channel) : (y.setChannel n v).ptp = y.ptp := rfl
@[simp] theorem Sys.setChannel_tios (y : Sys) (n : Nat) (v : Channel) : (y.setChannel n v).tios = y.tios := rfl
@[simp] theorem Sys.setChannel_twin (y : Sys) (n : Nat) (v : Channel) : (y.setChannel n v).twin = y.twin := rfl
@[simp] theorem Sys.setChannel_thermal (y : Sys) (n : Nat) (v : Channel) : (y.setChannel n v).thermal = y.thermal := rfl
@[simp] theorem Sys.setChannel_launches (y : Sys) (n : Nat) (v : Channel) : (y.setChannel n v).launches = y.launches := rfl
@[simp] theorem Sys.setChannel_audioIn (y : Sys) (n : Nat) (v : Channel) : (y.setChannel n v).audioIn = y.audioIn := rfl
@[simp] theorem Sys.setChannel_audioOut (y : Sys) (n : Nat) (v : Channel) : (y.setChannel n v).audioOut = y.audioOut := rfl
@[simp] theorem Sys.setChannel_felley (y : Sys) (n : Nat) (v : Channel) : (y.setChannel n v).felley = y.felley := rfl
@[simp] theorem Sys.setChannel_encs (y : Sys) (n : Nat) (v : Channel) : (y.setChannel n v).encs = y.encs := rfl
@[simp] theorem Sys.setChannel_decs (y : Sys) (n : Nat) (v : Channel) : (y.setChannel n v).decs = y.decs := rfl
@[simp] theorem Sys.setChannel_cores (y : Sys) (n : Nat) (v : Channel) : (y.setChannel n v).cores = y.cores := rfl
@[simp] theorem Sys.setChannel_turn (y : Sys) (n : Nat) (v : Channel) : (y.setChannel n v).turn = y.turn := rfl
@[simp] theorem Sys.channel_setChannel (y : Sys) (n : Nat) (v : Channel) (j : Nat) : (y.setChannel n v).channel j = if j = n then v else y.channel j := by
  simp only [Sys.channel, Sys.setChannel, tget_tset]

/-! ## `Sys.setSdi` -/

@[simp] theorem Sys.rd_setSdi (y : Sys) (n : Nat) (v : SdiIn) (k : Nat) : (y.setSdi n v).rd k = y.rd k := rfl
@[simp] theorem Sys.rdB_setSdi (y : Sys) (n : Nat) (v : SdiIn) (k : Nat) : (y.setSdi n v).rdB k = y.rdB k := rfl
@[simp] theorem Sys.setSdi_dict (y : Sys) (n : Nat) (v : SdiIn) : (y.setSdi n v).dict = y.dict := rfl
@[simp] theorem Sys.setSdi_blobs (y : Sys) (n : Nat) (v : SdiIn) : (y.setSdi n v).blobs = y.blobs := rfl
@[simp] theorem Sys.setSdi_t96 (y : Sys) (n : Nat) (v : SdiIn) : (y.setSdi n v).t96 = y.t96 := rfl
@[simp] theorem Sys.setSdi_up (y : Sys) (n : Nat) (v : SdiIn) : (y.setSdi n v).up = y.up := rfl
@[simp] theorem Sys.setSdi_seed (y : Sys) (n : Nat) (v : SdiIn) : (y.setSdi n v).seed = y.seed := rfl
@[simp] theorem Sys.setSdi_tx (y : Sys) (n : Nat) (v : SdiIn) : (y.setSdi n v).tx = y.tx := rfl
@[simp] theorem Sys.setSdi_log (y : Sys) (n : Nat) (v : SdiIn) : (y.setSdi n v).log = y.log := rfl
@[simp] theorem Sys.setSdi_boot (y : Sys) (n : Nat) (v : SdiIn) : (y.setSdi n v).boot = y.boot := rfl
@[simp] theorem Sys.setSdi_sup (y : Sys) (n : Nat) (v : SdiIn) : (y.setSdi n v).sup = y.sup := rfl
@[simp] theorem Sys.setSdi_gov (y : Sys) (n : Nat) (v : SdiIn) : (y.setSdi n v).gov = y.gov := rfl
@[simp] theorem Sys.setSdi_den (y : Sys) (n : Nat) (v : SdiIn) : (y.setSdi n v).den = y.den := rfl
@[simp] theorem Sys.setSdi_sec (y : Sys) (n : Nat) (v : SdiIn) : (y.setSdi n v).sec = y.sec := rfl
@[simp] theorem Sys.setSdi_mram (y : Sys) (n : Nat) (v : SdiIn) : (y.setSdi n v).mram = y.mram := rfl
@[simp] theorem Sys.setSdi_frames (y : Sys) (n : Nat) (v : SdiIn) : (y.setSdi n v).frames = y.frames := rfl
@[simp] theorem Sys.setSdi_ctxs (y : Sys) (n : Nat) (v : SdiIn) : (y.setSdi n v).ctxs = y.ctxs := rfl
@[simp] theorem Sys.setSdi_igs (y : Sys) (n : Nat) (v : SdiIn) : (y.setSdi n v).igs = y.igs := rfl
@[simp] theorem Sys.setSdi_ports (y : Sys) (n : Nat) (v : SdiIn) : (y.setSdi n v).ports = y.ports := rfl
@[simp] theorem Sys.setSdi_troupes (y : Sys) (n : Nat) (v : SdiIn) : (y.setSdi n v).troupes = y.troupes := rfl
@[simp] theorem Sys.setSdi_rfes (y : Sys) (n : Nat) (v : SdiIn) : (y.setSdi n v).rfes = y.rfes := rfl
@[simp] theorem Sys.setSdi_stores (y : Sys) (n : Nat) (v : SdiIn) : (y.setSdi n v).stores = y.stores := rfl
@[simp] theorem Sys.setSdi_holds (y : Sys) (n : Nat) (v : SdiIn) : (y.setSdi n v).holds = y.holds := rfl
@[simp] theorem Sys.setSdi_engines (y : Sys) (n : Nat) (v : SdiIn) : (y.setSdi n v).engines = y.engines := rfl
@[simp] theorem Sys.setSdi_resident (y : Sys) (n : Nat) (v : SdiIn) : (y.setSdi n v).resident = y.resident := rfl
@[simp] theorem Sys.setSdi_tables (y : Sys) (n : Nat) (v : SdiIn) : (y.setSdi n v).tables = y.tables := rfl
@[simp] theorem Sys.setSdi_pages (y : Sys) (n : Nat) (v : SdiIn) : (y.setSdi n v).pages = y.pages := rfl
@[simp] theorem Sys.setSdi_channels (y : Sys) (n : Nat) (v : SdiIn) : (y.setSdi n v).channels = y.channels := rfl
@[simp] theorem Sys.setSdi_edps (y : Sys) (n : Nat) (v : SdiIn) : (y.setSdi n v).edps = y.edps := rfl
@[simp] theorem Sys.setSdi_pathsDown (y : Sys) (n : Nat) (v : SdiIn) : (y.setSdi n v).pathsDown = y.pathsDown := rfl
@[simp] theorem Sys.setSdi_links (y : Sys) (n : Nat) (v : SdiIn) : (y.setSdi n v).links = y.links := rfl
@[simp] theorem Sys.setSdi_lanes (y : Sys) (n : Nat) (v : SdiIn) : (y.setSdi n v).lanes = y.lanes := rfl
@[simp] theorem Sys.setSdi_mailboxes (y : Sys) (n : Nat) (v : SdiIn) : (y.setSdi n v).mailboxes = y.mailboxes := rfl
@[simp] theorem Sys.setSdi_power (y : Sys) (n : Nat) (v : SdiIn) : (y.setSdi n v).power = y.power := rfl
@[simp] theorem Sys.setSdi_dram (y : Sys) (n : Nat) (v : SdiIn) : (y.setSdi n v).dram = y.dram := rfl
@[simp] theorem Sys.setSdi_mem (y : Sys) (n : Nat) (v : SdiIn) : (y.setSdi n v).mem = y.mem := rfl
@[simp] theorem Sys.setSdi_media (y : Sys) (n : Nat) (v : SdiIn) : (y.setSdi n v).media = y.media := rfl
@[simp] theorem Sys.setSdi_rings (y : Sys) (n : Nat) (v : SdiIn) : (y.setSdi n v).rings = y.rings := rfl
@[simp] theorem Sys.setSdi_zcs (y : Sys) (n : Nat) (v : SdiIn) : (y.setSdi n v).zcs = y.zcs := rfl
@[simp] theorem Sys.setSdi_positions (y : Sys) (n : Nat) (v : SdiIn) : (y.setSdi n v).positions = y.positions := rfl
@[simp] theorem Sys.setSdi_time (y : Sys) (n : Nat) (v : SdiIn) : (y.setSdi n v).time = y.time := rfl
@[simp] theorem Sys.setSdi_ptp (y : Sys) (n : Nat) (v : SdiIn) : (y.setSdi n v).ptp = y.ptp := rfl
@[simp] theorem Sys.setSdi_tios (y : Sys) (n : Nat) (v : SdiIn) : (y.setSdi n v).tios = y.tios := rfl
@[simp] theorem Sys.setSdi_twin (y : Sys) (n : Nat) (v : SdiIn) : (y.setSdi n v).twin = y.twin := rfl
@[simp] theorem Sys.setSdi_thermal (y : Sys) (n : Nat) (v : SdiIn) : (y.setSdi n v).thermal = y.thermal := rfl
@[simp] theorem Sys.setSdi_launches (y : Sys) (n : Nat) (v : SdiIn) : (y.setSdi n v).launches = y.launches := rfl
@[simp] theorem Sys.setSdi_audioIn (y : Sys) (n : Nat) (v : SdiIn) : (y.setSdi n v).audioIn = y.audioIn := rfl
@[simp] theorem Sys.setSdi_audioOut (y : Sys) (n : Nat) (v : SdiIn) : (y.setSdi n v).audioOut = y.audioOut := rfl
@[simp] theorem Sys.setSdi_felley (y : Sys) (n : Nat) (v : SdiIn) : (y.setSdi n v).felley = y.felley := rfl
@[simp] theorem Sys.setSdi_encs (y : Sys) (n : Nat) (v : SdiIn) : (y.setSdi n v).encs = y.encs := rfl
@[simp] theorem Sys.setSdi_decs (y : Sys) (n : Nat) (v : SdiIn) : (y.setSdi n v).decs = y.decs := rfl
@[simp] theorem Sys.setSdi_cores (y : Sys) (n : Nat) (v : SdiIn) : (y.setSdi n v).cores = y.cores := rfl
@[simp] theorem Sys.setSdi_turn (y : Sys) (n : Nat) (v : SdiIn) : (y.setSdi n v).turn = y.turn := rfl
@[simp] theorem Sys.sdi_setSdi (y : Sys) (n : Nat) (v : SdiIn) (j : Nat) : (y.setSdi n v).sdi j = if j = n then v else y.sdi j := by
  simp only [Sys.sdi, Sys.setSdi, tget_tset]

/-! ## `Sys.setEdp` -/

@[simp] theorem Sys.rd_setEdp (y : Sys) (n : Nat) (v : EdpPort) (k : Nat) : (y.setEdp n v).rd k = y.rd k := rfl
@[simp] theorem Sys.rdB_setEdp (y : Sys) (n : Nat) (v : EdpPort) (k : Nat) : (y.setEdp n v).rdB k = y.rdB k := rfl
@[simp] theorem Sys.setEdp_dict (y : Sys) (n : Nat) (v : EdpPort) : (y.setEdp n v).dict = y.dict := rfl
@[simp] theorem Sys.setEdp_blobs (y : Sys) (n : Nat) (v : EdpPort) : (y.setEdp n v).blobs = y.blobs := rfl
@[simp] theorem Sys.setEdp_t96 (y : Sys) (n : Nat) (v : EdpPort) : (y.setEdp n v).t96 = y.t96 := rfl
@[simp] theorem Sys.setEdp_up (y : Sys) (n : Nat) (v : EdpPort) : (y.setEdp n v).up = y.up := rfl
@[simp] theorem Sys.setEdp_seed (y : Sys) (n : Nat) (v : EdpPort) : (y.setEdp n v).seed = y.seed := rfl
@[simp] theorem Sys.setEdp_tx (y : Sys) (n : Nat) (v : EdpPort) : (y.setEdp n v).tx = y.tx := rfl
@[simp] theorem Sys.setEdp_log (y : Sys) (n : Nat) (v : EdpPort) : (y.setEdp n v).log = y.log := rfl
@[simp] theorem Sys.setEdp_boot (y : Sys) (n : Nat) (v : EdpPort) : (y.setEdp n v).boot = y.boot := rfl
@[simp] theorem Sys.setEdp_sup (y : Sys) (n : Nat) (v : EdpPort) : (y.setEdp n v).sup = y.sup := rfl
@[simp] theorem Sys.setEdp_gov (y : Sys) (n : Nat) (v : EdpPort) : (y.setEdp n v).gov = y.gov := rfl
@[simp] theorem Sys.setEdp_den (y : Sys) (n : Nat) (v : EdpPort) : (y.setEdp n v).den = y.den := rfl
@[simp] theorem Sys.setEdp_sec (y : Sys) (n : Nat) (v : EdpPort) : (y.setEdp n v).sec = y.sec := rfl
@[simp] theorem Sys.setEdp_mram (y : Sys) (n : Nat) (v : EdpPort) : (y.setEdp n v).mram = y.mram := rfl
@[simp] theorem Sys.setEdp_frames (y : Sys) (n : Nat) (v : EdpPort) : (y.setEdp n v).frames = y.frames := rfl
@[simp] theorem Sys.setEdp_ctxs (y : Sys) (n : Nat) (v : EdpPort) : (y.setEdp n v).ctxs = y.ctxs := rfl
@[simp] theorem Sys.setEdp_igs (y : Sys) (n : Nat) (v : EdpPort) : (y.setEdp n v).igs = y.igs := rfl
@[simp] theorem Sys.setEdp_ports (y : Sys) (n : Nat) (v : EdpPort) : (y.setEdp n v).ports = y.ports := rfl
@[simp] theorem Sys.setEdp_troupes (y : Sys) (n : Nat) (v : EdpPort) : (y.setEdp n v).troupes = y.troupes := rfl
@[simp] theorem Sys.setEdp_rfes (y : Sys) (n : Nat) (v : EdpPort) : (y.setEdp n v).rfes = y.rfes := rfl
@[simp] theorem Sys.setEdp_stores (y : Sys) (n : Nat) (v : EdpPort) : (y.setEdp n v).stores = y.stores := rfl
@[simp] theorem Sys.setEdp_holds (y : Sys) (n : Nat) (v : EdpPort) : (y.setEdp n v).holds = y.holds := rfl
@[simp] theorem Sys.setEdp_engines (y : Sys) (n : Nat) (v : EdpPort) : (y.setEdp n v).engines = y.engines := rfl
@[simp] theorem Sys.setEdp_resident (y : Sys) (n : Nat) (v : EdpPort) : (y.setEdp n v).resident = y.resident := rfl
@[simp] theorem Sys.setEdp_tables (y : Sys) (n : Nat) (v : EdpPort) : (y.setEdp n v).tables = y.tables := rfl
@[simp] theorem Sys.setEdp_pages (y : Sys) (n : Nat) (v : EdpPort) : (y.setEdp n v).pages = y.pages := rfl
@[simp] theorem Sys.setEdp_channels (y : Sys) (n : Nat) (v : EdpPort) : (y.setEdp n v).channels = y.channels := rfl
@[simp] theorem Sys.setEdp_sdis (y : Sys) (n : Nat) (v : EdpPort) : (y.setEdp n v).sdis = y.sdis := rfl
@[simp] theorem Sys.setEdp_pathsDown (y : Sys) (n : Nat) (v : EdpPort) : (y.setEdp n v).pathsDown = y.pathsDown := rfl
@[simp] theorem Sys.setEdp_links (y : Sys) (n : Nat) (v : EdpPort) : (y.setEdp n v).links = y.links := rfl
@[simp] theorem Sys.setEdp_lanes (y : Sys) (n : Nat) (v : EdpPort) : (y.setEdp n v).lanes = y.lanes := rfl
@[simp] theorem Sys.setEdp_mailboxes (y : Sys) (n : Nat) (v : EdpPort) : (y.setEdp n v).mailboxes = y.mailboxes := rfl
@[simp] theorem Sys.setEdp_power (y : Sys) (n : Nat) (v : EdpPort) : (y.setEdp n v).power = y.power := rfl
@[simp] theorem Sys.setEdp_dram (y : Sys) (n : Nat) (v : EdpPort) : (y.setEdp n v).dram = y.dram := rfl
@[simp] theorem Sys.setEdp_mem (y : Sys) (n : Nat) (v : EdpPort) : (y.setEdp n v).mem = y.mem := rfl
@[simp] theorem Sys.setEdp_media (y : Sys) (n : Nat) (v : EdpPort) : (y.setEdp n v).media = y.media := rfl
@[simp] theorem Sys.setEdp_rings (y : Sys) (n : Nat) (v : EdpPort) : (y.setEdp n v).rings = y.rings := rfl
@[simp] theorem Sys.setEdp_zcs (y : Sys) (n : Nat) (v : EdpPort) : (y.setEdp n v).zcs = y.zcs := rfl
@[simp] theorem Sys.setEdp_positions (y : Sys) (n : Nat) (v : EdpPort) : (y.setEdp n v).positions = y.positions := rfl
@[simp] theorem Sys.setEdp_time (y : Sys) (n : Nat) (v : EdpPort) : (y.setEdp n v).time = y.time := rfl
@[simp] theorem Sys.setEdp_ptp (y : Sys) (n : Nat) (v : EdpPort) : (y.setEdp n v).ptp = y.ptp := rfl
@[simp] theorem Sys.setEdp_tios (y : Sys) (n : Nat) (v : EdpPort) : (y.setEdp n v).tios = y.tios := rfl
@[simp] theorem Sys.setEdp_twin (y : Sys) (n : Nat) (v : EdpPort) : (y.setEdp n v).twin = y.twin := rfl
@[simp] theorem Sys.setEdp_thermal (y : Sys) (n : Nat) (v : EdpPort) : (y.setEdp n v).thermal = y.thermal := rfl
@[simp] theorem Sys.setEdp_launches (y : Sys) (n : Nat) (v : EdpPort) : (y.setEdp n v).launches = y.launches := rfl
@[simp] theorem Sys.setEdp_audioIn (y : Sys) (n : Nat) (v : EdpPort) : (y.setEdp n v).audioIn = y.audioIn := rfl
@[simp] theorem Sys.setEdp_audioOut (y : Sys) (n : Nat) (v : EdpPort) : (y.setEdp n v).audioOut = y.audioOut := rfl
@[simp] theorem Sys.setEdp_felley (y : Sys) (n : Nat) (v : EdpPort) : (y.setEdp n v).felley = y.felley := rfl
@[simp] theorem Sys.setEdp_encs (y : Sys) (n : Nat) (v : EdpPort) : (y.setEdp n v).encs = y.encs := rfl
@[simp] theorem Sys.setEdp_decs (y : Sys) (n : Nat) (v : EdpPort) : (y.setEdp n v).decs = y.decs := rfl
@[simp] theorem Sys.setEdp_cores (y : Sys) (n : Nat) (v : EdpPort) : (y.setEdp n v).cores = y.cores := rfl
@[simp] theorem Sys.setEdp_turn (y : Sys) (n : Nat) (v : EdpPort) : (y.setEdp n v).turn = y.turn := rfl
@[simp] theorem Sys.edp_setEdp (y : Sys) (n : Nat) (v : EdpPort) (j : Nat) : (y.setEdp n v).edp j = if j = n then v else y.edp j := by
  simp only [Sys.edp, Sys.setEdp, tget_tset]

/-! ## `Sys.onSupply` -/

@[simp] theorem Sys.rd_onSupply (y : Sys) (f : Supply → Supply) (k : Nat) : (y.onSupply f).rd k = y.rd k := rfl
@[simp] theorem Sys.rdB_onSupply (y : Sys) (f : Supply → Supply) (k : Nat) : (y.onSupply f).rdB k = y.rdB k := rfl
@[simp] theorem Sys.onSupply_dict (y : Sys) (f : Supply → Supply) : (y.onSupply f).dict = y.dict := rfl
@[simp] theorem Sys.onSupply_blobs (y : Sys) (f : Supply → Supply) : (y.onSupply f).blobs = y.blobs := rfl
@[simp] theorem Sys.onSupply_t96 (y : Sys) (f : Supply → Supply) : (y.onSupply f).t96 = y.t96 := rfl
@[simp] theorem Sys.onSupply_up (y : Sys) (f : Supply → Supply) : (y.onSupply f).up = y.up := rfl
@[simp] theorem Sys.onSupply_seed (y : Sys) (f : Supply → Supply) : (y.onSupply f).seed = y.seed := rfl
@[simp] theorem Sys.onSupply_tx (y : Sys) (f : Supply → Supply) : (y.onSupply f).tx = y.tx := rfl
@[simp] theorem Sys.onSupply_log (y : Sys) (f : Supply → Supply) : (y.onSupply f).log = y.log := rfl
@[simp] theorem Sys.onSupply_boot (y : Sys) (f : Supply → Supply) : (y.onSupply f).boot = y.boot := rfl
@[simp] theorem Sys.onSupply_gov (y : Sys) (f : Supply → Supply) : (y.onSupply f).gov = y.gov := rfl
@[simp] theorem Sys.onSupply_den (y : Sys) (f : Supply → Supply) : (y.onSupply f).den = y.den := rfl
@[simp] theorem Sys.onSupply_sec (y : Sys) (f : Supply → Supply) : (y.onSupply f).sec = y.sec := rfl
@[simp] theorem Sys.onSupply_mram (y : Sys) (f : Supply → Supply) : (y.onSupply f).mram = y.mram := rfl
@[simp] theorem Sys.onSupply_frames (y : Sys) (f : Supply → Supply) : (y.onSupply f).frames = y.frames := rfl
@[simp] theorem Sys.onSupply_ctxs (y : Sys) (f : Supply → Supply) : (y.onSupply f).ctxs = y.ctxs := rfl
@[simp] theorem Sys.onSupply_igs (y : Sys) (f : Supply → Supply) : (y.onSupply f).igs = y.igs := rfl
@[simp] theorem Sys.onSupply_ports (y : Sys) (f : Supply → Supply) : (y.onSupply f).ports = y.ports := rfl
@[simp] theorem Sys.onSupply_troupes (y : Sys) (f : Supply → Supply) : (y.onSupply f).troupes = y.troupes := rfl
@[simp] theorem Sys.onSupply_rfes (y : Sys) (f : Supply → Supply) : (y.onSupply f).rfes = y.rfes := rfl
@[simp] theorem Sys.onSupply_stores (y : Sys) (f : Supply → Supply) : (y.onSupply f).stores = y.stores := rfl
@[simp] theorem Sys.onSupply_holds (y : Sys) (f : Supply → Supply) : (y.onSupply f).holds = y.holds := rfl
@[simp] theorem Sys.onSupply_engines (y : Sys) (f : Supply → Supply) : (y.onSupply f).engines = y.engines := rfl
@[simp] theorem Sys.onSupply_resident (y : Sys) (f : Supply → Supply) : (y.onSupply f).resident = y.resident := rfl
@[simp] theorem Sys.onSupply_tables (y : Sys) (f : Supply → Supply) : (y.onSupply f).tables = y.tables := rfl
@[simp] theorem Sys.onSupply_pages (y : Sys) (f : Supply → Supply) : (y.onSupply f).pages = y.pages := rfl
@[simp] theorem Sys.onSupply_channels (y : Sys) (f : Supply → Supply) : (y.onSupply f).channels = y.channels := rfl
@[simp] theorem Sys.onSupply_sdis (y : Sys) (f : Supply → Supply) : (y.onSupply f).sdis = y.sdis := rfl
@[simp] theorem Sys.onSupply_edps (y : Sys) (f : Supply → Supply) : (y.onSupply f).edps = y.edps := rfl
@[simp] theorem Sys.onSupply_pathsDown (y : Sys) (f : Supply → Supply) : (y.onSupply f).pathsDown = y.pathsDown := rfl
@[simp] theorem Sys.onSupply_links (y : Sys) (f : Supply → Supply) : (y.onSupply f).links = y.links := rfl
@[simp] theorem Sys.onSupply_lanes (y : Sys) (f : Supply → Supply) : (y.onSupply f).lanes = y.lanes := rfl
@[simp] theorem Sys.onSupply_mailboxes (y : Sys) (f : Supply → Supply) : (y.onSupply f).mailboxes = y.mailboxes := rfl
@[simp] theorem Sys.onSupply_power (y : Sys) (f : Supply → Supply) : (y.onSupply f).power = y.power := rfl
@[simp] theorem Sys.onSupply_dram (y : Sys) (f : Supply → Supply) : (y.onSupply f).dram = y.dram := rfl
@[simp] theorem Sys.onSupply_mem (y : Sys) (f : Supply → Supply) : (y.onSupply f).mem = y.mem := rfl
@[simp] theorem Sys.onSupply_media (y : Sys) (f : Supply → Supply) : (y.onSupply f).media = y.media := rfl
@[simp] theorem Sys.onSupply_rings (y : Sys) (f : Supply → Supply) : (y.onSupply f).rings = y.rings := rfl
@[simp] theorem Sys.onSupply_zcs (y : Sys) (f : Supply → Supply) : (y.onSupply f).zcs = y.zcs := rfl
@[simp] theorem Sys.onSupply_positions (y : Sys) (f : Supply → Supply) : (y.onSupply f).positions = y.positions := rfl
@[simp] theorem Sys.onSupply_time (y : Sys) (f : Supply → Supply) : (y.onSupply f).time = y.time := rfl
@[simp] theorem Sys.onSupply_ptp (y : Sys) (f : Supply → Supply) : (y.onSupply f).ptp = y.ptp := rfl
@[simp] theorem Sys.onSupply_tios (y : Sys) (f : Supply → Supply) : (y.onSupply f).tios = y.tios := rfl
@[simp] theorem Sys.onSupply_twin (y : Sys) (f : Supply → Supply) : (y.onSupply f).twin = y.twin := rfl
@[simp] theorem Sys.onSupply_thermal (y : Sys) (f : Supply → Supply) : (y.onSupply f).thermal = y.thermal := rfl
@[simp] theorem Sys.onSupply_launches (y : Sys) (f : Supply → Supply) : (y.onSupply f).launches = y.launches := rfl
@[simp] theorem Sys.onSupply_audioIn (y : Sys) (f : Supply → Supply) : (y.onSupply f).audioIn = y.audioIn := rfl
@[simp] theorem Sys.onSupply_audioOut (y : Sys) (f : Supply → Supply) : (y.onSupply f).audioOut = y.audioOut := rfl
@[simp] theorem Sys.onSupply_felley (y : Sys) (f : Supply → Supply) : (y.onSupply f).felley = y.felley := rfl
@[simp] theorem Sys.onSupply_encs (y : Sys) (f : Supply → Supply) : (y.onSupply f).encs = y.encs := rfl
@[simp] theorem Sys.onSupply_decs (y : Sys) (f : Supply → Supply) : (y.onSupply f).decs = y.decs := rfl
@[simp] theorem Sys.onSupply_cores (y : Sys) (f : Supply → Supply) : (y.onSupply f).cores = y.cores := rfl
@[simp] theorem Sys.onSupply_turn (y : Sys) (f : Supply → Supply) : (y.onSupply f).turn = y.turn := rfl
@[simp] theorem Sys.onSupply_sup (y : Sys) (f : Supply → Supply) : (y.onSupply f).sup = f y.sup := rfl

/-! ## `Sys.onThermal` -/

@[simp] theorem Sys.rd_onThermal (y : Sys) (f : Thermal → Thermal) (k : Nat) : (y.onThermal f).rd k = y.rd k := rfl
@[simp] theorem Sys.rdB_onThermal (y : Sys) (f : Thermal → Thermal) (k : Nat) : (y.onThermal f).rdB k = y.rdB k := rfl
@[simp] theorem Sys.onThermal_dict (y : Sys) (f : Thermal → Thermal) : (y.onThermal f).dict = y.dict := rfl
@[simp] theorem Sys.onThermal_blobs (y : Sys) (f : Thermal → Thermal) : (y.onThermal f).blobs = y.blobs := rfl
@[simp] theorem Sys.onThermal_t96 (y : Sys) (f : Thermal → Thermal) : (y.onThermal f).t96 = y.t96 := rfl
@[simp] theorem Sys.onThermal_up (y : Sys) (f : Thermal → Thermal) : (y.onThermal f).up = y.up := rfl
@[simp] theorem Sys.onThermal_seed (y : Sys) (f : Thermal → Thermal) : (y.onThermal f).seed = y.seed := rfl
@[simp] theorem Sys.onThermal_tx (y : Sys) (f : Thermal → Thermal) : (y.onThermal f).tx = y.tx := rfl
@[simp] theorem Sys.onThermal_log (y : Sys) (f : Thermal → Thermal) : (y.onThermal f).log = y.log := rfl
@[simp] theorem Sys.onThermal_boot (y : Sys) (f : Thermal → Thermal) : (y.onThermal f).boot = y.boot := rfl
@[simp] theorem Sys.onThermal_sup (y : Sys) (f : Thermal → Thermal) : (y.onThermal f).sup = y.sup := rfl
@[simp] theorem Sys.onThermal_gov (y : Sys) (f : Thermal → Thermal) : (y.onThermal f).gov = y.gov := rfl
@[simp] theorem Sys.onThermal_den (y : Sys) (f : Thermal → Thermal) : (y.onThermal f).den = y.den := rfl
@[simp] theorem Sys.onThermal_sec (y : Sys) (f : Thermal → Thermal) : (y.onThermal f).sec = y.sec := rfl
@[simp] theorem Sys.onThermal_mram (y : Sys) (f : Thermal → Thermal) : (y.onThermal f).mram = y.mram := rfl
@[simp] theorem Sys.onThermal_frames (y : Sys) (f : Thermal → Thermal) : (y.onThermal f).frames = y.frames := rfl
@[simp] theorem Sys.onThermal_ctxs (y : Sys) (f : Thermal → Thermal) : (y.onThermal f).ctxs = y.ctxs := rfl
@[simp] theorem Sys.onThermal_igs (y : Sys) (f : Thermal → Thermal) : (y.onThermal f).igs = y.igs := rfl
@[simp] theorem Sys.onThermal_ports (y : Sys) (f : Thermal → Thermal) : (y.onThermal f).ports = y.ports := rfl
@[simp] theorem Sys.onThermal_troupes (y : Sys) (f : Thermal → Thermal) : (y.onThermal f).troupes = y.troupes := rfl
@[simp] theorem Sys.onThermal_rfes (y : Sys) (f : Thermal → Thermal) : (y.onThermal f).rfes = y.rfes := rfl
@[simp] theorem Sys.onThermal_stores (y : Sys) (f : Thermal → Thermal) : (y.onThermal f).stores = y.stores := rfl
@[simp] theorem Sys.onThermal_holds (y : Sys) (f : Thermal → Thermal) : (y.onThermal f).holds = y.holds := rfl
@[simp] theorem Sys.onThermal_engines (y : Sys) (f : Thermal → Thermal) : (y.onThermal f).engines = y.engines := rfl
@[simp] theorem Sys.onThermal_resident (y : Sys) (f : Thermal → Thermal) : (y.onThermal f).resident = y.resident := rfl
@[simp] theorem Sys.onThermal_tables (y : Sys) (f : Thermal → Thermal) : (y.onThermal f).tables = y.tables := rfl
@[simp] theorem Sys.onThermal_pages (y : Sys) (f : Thermal → Thermal) : (y.onThermal f).pages = y.pages := rfl
@[simp] theorem Sys.onThermal_channels (y : Sys) (f : Thermal → Thermal) : (y.onThermal f).channels = y.channels := rfl
@[simp] theorem Sys.onThermal_sdis (y : Sys) (f : Thermal → Thermal) : (y.onThermal f).sdis = y.sdis := rfl
@[simp] theorem Sys.onThermal_edps (y : Sys) (f : Thermal → Thermal) : (y.onThermal f).edps = y.edps := rfl
@[simp] theorem Sys.onThermal_pathsDown (y : Sys) (f : Thermal → Thermal) : (y.onThermal f).pathsDown = y.pathsDown := rfl
@[simp] theorem Sys.onThermal_links (y : Sys) (f : Thermal → Thermal) : (y.onThermal f).links = y.links := rfl
@[simp] theorem Sys.onThermal_lanes (y : Sys) (f : Thermal → Thermal) : (y.onThermal f).lanes = y.lanes := rfl
@[simp] theorem Sys.onThermal_mailboxes (y : Sys) (f : Thermal → Thermal) : (y.onThermal f).mailboxes = y.mailboxes := rfl
@[simp] theorem Sys.onThermal_power (y : Sys) (f : Thermal → Thermal) : (y.onThermal f).power = y.power := rfl
@[simp] theorem Sys.onThermal_dram (y : Sys) (f : Thermal → Thermal) : (y.onThermal f).dram = y.dram := rfl
@[simp] theorem Sys.onThermal_mem (y : Sys) (f : Thermal → Thermal) : (y.onThermal f).mem = y.mem := rfl
@[simp] theorem Sys.onThermal_media (y : Sys) (f : Thermal → Thermal) : (y.onThermal f).media = y.media := rfl
@[simp] theorem Sys.onThermal_rings (y : Sys) (f : Thermal → Thermal) : (y.onThermal f).rings = y.rings := rfl
@[simp] theorem Sys.onThermal_zcs (y : Sys) (f : Thermal → Thermal) : (y.onThermal f).zcs = y.zcs := rfl
@[simp] theorem Sys.onThermal_positions (y : Sys) (f : Thermal → Thermal) : (y.onThermal f).positions = y.positions := rfl
@[simp] theorem Sys.onThermal_time (y : Sys) (f : Thermal → Thermal) : (y.onThermal f).time = y.time := rfl
@[simp] theorem Sys.onThermal_ptp (y : Sys) (f : Thermal → Thermal) : (y.onThermal f).ptp = y.ptp := rfl
@[simp] theorem Sys.onThermal_tios (y : Sys) (f : Thermal → Thermal) : (y.onThermal f).tios = y.tios := rfl
@[simp] theorem Sys.onThermal_twin (y : Sys) (f : Thermal → Thermal) : (y.onThermal f).twin = y.twin := rfl
@[simp] theorem Sys.onThermal_launches (y : Sys) (f : Thermal → Thermal) : (y.onThermal f).launches = y.launches := rfl
@[simp] theorem Sys.onThermal_audioIn (y : Sys) (f : Thermal → Thermal) : (y.onThermal f).audioIn = y.audioIn := rfl
@[simp] theorem Sys.onThermal_audioOut (y : Sys) (f : Thermal → Thermal) : (y.onThermal f).audioOut = y.audioOut := rfl
@[simp] theorem Sys.onThermal_felley (y : Sys) (f : Thermal → Thermal) : (y.onThermal f).felley = y.felley := rfl
@[simp] theorem Sys.onThermal_encs (y : Sys) (f : Thermal → Thermal) : (y.onThermal f).encs = y.encs := rfl
@[simp] theorem Sys.onThermal_decs (y : Sys) (f : Thermal → Thermal) : (y.onThermal f).decs = y.decs := rfl
@[simp] theorem Sys.onThermal_cores (y : Sys) (f : Thermal → Thermal) : (y.onThermal f).cores = y.cores := rfl
@[simp] theorem Sys.onThermal_turn (y : Sys) (f : Thermal → Thermal) : (y.onThermal f).turn = y.turn := rfl
@[simp] theorem Sys.onThermal_thermal (y : Sys) (f : Thermal → Thermal) : (y.onThermal f).thermal = f y.thermal := rfl

end Sys2Proof.Machine
end

