-- ==== Sys2Proof/Laws/Engine.lean ====
section
/-!
SUPPORT. Sys2Proof/Laws/Engine.lean: colour engines: reading a register after a write, and all that an instruction that only reads and writes registers
can do.
-/

namespace Sys2Proof.Machine

/-! ## Tables whose keys have no value of their own -/

theorem lookup_pair {β : Type} (a j : Nat) (b : β) (r : List (Nat × β)) :
    ((a, b) :: r).lookup j = if j = a then some b else r.lookup j := by
  by_cases h : j = a
  · subst h; simp
  · simp [List.lookup_cons, h, show (j == a) = false by simpa using h]

theorem lookup_terase {β : Type} (m : List (Nat × β)) (k j : Nat) :
    (terase k m).lookup j = if j = k then none else m.lookup j := by
  induction m with
  | nil => simp [terase]
  | cons p r ih =>
    obtain ⟨a, b⟩ := p
    simp only [terase] at ih ⊢
    by_cases h : a = k
    · subst h; simp only [List.filter, bne_self_eq_false, ih, lookup_pair]
      by_cases hj : j = a <;> simp [hj]
    · have : (a != k) = true := by simpa using h
      simp only [List.filter, this, lookup_pair, ih]
      by_cases hj : j = a
      · subst hj; simp [h]
      · simp [hj]

theorem lookup_tinsert {β : Type} (m : List (Nat × β)) (k j : Nat) (v : β) (h : ∀ p ∈ m, p.1 ≠ k) :
    (tinsert k v m).lookup j = if j = k then some v else m.lookup j := by
  induction m with
  | nil => simp only [tinsert, lookup_pair]
  | cons p r ih =>
    obtain ⟨a, b⟩ := p
    have ha : a ≠ k := h (a, b) (by simp)
    have ih := ih fun p hp => h p (by simp [hp])
    simp only [tinsert]
    split
    · simp only [lookup_pair]
    · simp only [lookup_pair, ih]
      by_cases hj : j = a
      · subst hj; simp [ha]
      · simp [hj]

/-- Looking up after a put: the value at its key, and elsewhere what was there. -/
@[simp] theorem lookup_kput {β : Type} (m : List (Nat × β)) (k j : Nat) (v : β) :
    (kput m k v).lookup j = if j = k then some v else m.lookup j := by
  unfold kput
  rw [lookup_tinsert, lookup_terase]
  · split <;> simp_all
  · intro p hp; simpa using (List.mem_filter.1 hp).2

/-! ## Registers -/

theorem lookup_lanes (m : List (Nat × W32)) (d : Nat) (take : Nat → Bool) (f : Nat → W32) (n i : Nat) :
    ((List.range n).foldl (fun m k => if take k then kput m (16 * d + k) (f k) else m) m).lookup i =
      if 16 * d ≤ i ∧ i < 16 * d + n ∧ take (i - 16 * d) = true then some (f (i - 16 * d)) else m.lookup i := by
  induction n with
  | zero => simp; omega
  | succ n ih =>
    rw [List.range_succ, List.foldl_append, List.foldl_cons, List.foldl_nil]
    by_cases ht : take n = true
    · rw [if_pos ht, lookup_kput, ih]
      by_cases hi : i = 16 * d + n
      · subst hi; simp [ht]
      · rw [if_neg hi]; congr 1; simp only [eq_iff_iff]; constructor <;> (rintro ⟨h1, h2, h3⟩; exact ⟨h1, by omega, h3⟩)
    · rw [if_neg ht, ih]; congr 1; simp only [eq_iff_iff]
      constructor
      · rintro ⟨h1, h2, h3⟩; exact ⟨h1, by omega, h3⟩
      · rintro ⟨h1, h2, h3⟩
        refine ⟨h1, ?_, h3⟩
        rcases Nat.lt_or_ge i (16 * d + n) with h | h
        · exact h
        · exact absurd (by rwa [show i - 16 * d = n by omega] at h3) ht

/-- Writing lanes of a V register. -/
theorem Engine.setV_wroteV (g : Engine) (d : Nat) (take : Nat → Bool) (f : Nat → W32) : g.wroteV (g.setV d take f) d take f := by
  intro r k hk
  simp only [Engine.rv, Engine.setV, lookup_lanes, Engine.unwritten]
  by_cases h : r = d ∧ take k = true
  · obtain ⟨rfl, ht⟩ := h; simp [hk, ht]
  · rw [if_neg h, if_neg]
    rintro ⟨h1, h2, h3⟩
    have : r = d := by omega
    subst this; exact h ⟨rfl, by simpa using h3⟩

/-- Writing an S register. -/
theorem Engine.setS_wroteS (g : Engine) (d : Nat) (v : W32) : g.wroteS (g.setS d v) d v := by
  intro r hr
  simp only [Engine.rs, Engine.setS, List.getD_eq_getElem?_getD, List.getElem?_map, List.getElem?_range hr, Option.map_some, Option.getD_some]

/-- Writing a predicate: P0 keeps its value. -/
theorem Engine.setP_wroteP (g : Engine) (d : Nat) (v : W16) : g.wroteP (g.setP d v) d v := by
  intro r
  simp only [Engine.rp, Engine.setP]
  by_cases hr : r = 0
  · subst hr; simp
  · by_cases hd : d = 0
    · subst hd; simp [hr]
    · simp only [if_neg hr, if_neg hd, lookup_kput, Engine.unwritten]
      by_cases h : r = d <;> simp [h, hr, hd]

/-! ## Issue -/

theorem Engine.slot_le_issueAt (g : Engine) (n : Need) : g.slot ≤ g.issueAt n := by
  have mono : ∀ (l : List Due) (t : Nat) (f : Nat → Due → Nat), (∀ t d, t ≤ f t d) → t ≤ l.foldl f t := by
    intro l
    induction l with
    | nil => intro t f _; exact Nat.le_refl _
    | cons a r ih => intro t f h; exact Nat.le_trans (h t a) (ih _ f h)
  have h1 := mono (g.due.filter fun d => n.srcs.contains (d.file, d.reg)) g.slot (fun t d => max t d.slot) fun t d => Nat.le_max_left _ _
  have h2 := mono (g.due.filter fun d => n.dsts.contains (d.file, d.reg))
    ((g.due.filter fun d => n.srcs.contains (d.file, d.reg)).foldl (fun t d => max t d.slot) g.slot) (fun t d => max t (d.slot - n.lat))
    fun t d => Nat.le_max_left _ _
  simp only [Engine.issueAt]
  split
  · exact Nat.le_trans (Nat.le_trans h1 h2) (Nat.le_max_left _ _)
  · exact Nat.le_trans h1 h2

/-- A group in time issues an instruction before its time is over (R352, R364). -/
theorem issueAt_inTime (s : State) (e : Nat) (n : Need) (h : InTime s e) : (s.sys.engine e).issueAt n + 4 < 65536 := by
  obtain ⟨h1, h2, h3⟩ := h
  have bound : ∀ (l : List Due) (f : Nat → Due → Nat) (t : Nat), (∀ t d, d ∈ l → t + 4 < 65536 → f t d + 4 < 65536) → t + 4 < 65536 →
      l.foldl f t + 4 < 65536 := by
    intro l f
    induction l with
    | nil => intro t _ ht; exact ht
    | cons a r ih => intro t hf ht; exact ih _ (fun t d hd => hf t d (List.mem_cons_of_mem _ hd)) (hf t a (List.mem_cons_self ..) ht)
  have hs := bound ((s.sys.engine e).due.filter fun d => n.srcs.contains (d.file, d.reg)) (fun t d => max t d.slot) (s.sys.engine e).slot
    (fun t d hd ht => by have := h3 d (List.mem_filter.1 hd).1; simp only [Nat.max_def]; split <;> omega) h1
  have hd := bound ((s.sys.engine e).due.filter fun d => n.dsts.contains (d.file, d.reg)) (fun t d => max t (d.slot - n.lat)) _
    (fun t d hd ht => by have := h3 d (List.mem_filter.1 hd).1; simp only [Nat.max_def]; split <;> omega) hs
  simp only [Engine.issueAt]
  split
  · simp only [Nat.max_def]; split <;> omega
  · exact hd

/-- The registers and everything else that an instruction's own effect `f` leaves, but for the clock and the place in the program, are those of the
engine after it. -/
theorem Engine.run_eq (g : Engine) (n : Need) (f : Engine → Engine) (hb : g.busy = true) (hl : g.lutPending (n.srcs ++ n.dsts) = false) :
    g.run n f = Engine.next (g.issue n f) := by simp [Engine.run, hb, hl]

theorem Engine.lutPending_mono (g : Engine) (a b : List (Nat × Nat)) (h : ∀ r ∈ a, r ∈ b) (hb : g.lutPending b = false) : g.lutPending a = false := by
  simp only [Engine.lutPending, List.any_eq_false] at hb ⊢
  intro q hq
  have := hb q hq
  cases hk : q.kind <;> simp only [hk, List.contains_eq_mem, Bool.or_eq_true, decide_eq_true_eq, not_or] at this ⊢
  · exact fun hm => this (h _ hm)
  · exact ⟨⟨fun hm => this.1.1 (h _ hm), fun hm => this.1.2 (h _ hm)⟩, fun hm => this.2 (h _ hm)⟩
  · exact Bool.false_ne_true

/-- An instruction that only reads and writes registers, on an engine that is ready for it: the rest of the machine stays, and the engine is what its own
effect leaves, one word further. -/
theorem onEngine_ready (s : State) (e : Nat) (n : Need) (f : Engine → Engine) (regs : List (Nat × Nat)) (h : Ready s e regs)
    (hh : n.hold ≤ 4) (hr : ∀ r ∈ n.srcs ++ n.dsts, r ∈ regs) :
    onEngine s e n f = .next { s with sys := s.sys.setEngine e (Engine.next ((s.sys.engine e).issue n f)) } := by
  simp only [onEngine, onSys_eq]
  rw [Engine.run_eq _ _ _ h.1 (Engine.lutPending_mono _ _ _ hr h.2.1)]
  have := issueAt_inTime s e n h.2.2
  rw [Sys.ran, if_neg]
  simp only [Engine.next, Engine.issue, Bool.and_eq_true, not_and]
  intro _ hs
  have := of_decide_eq_true hs
  omega

/-- Such an instruction advances its engine, where its own effect leaves the place in the program and the group alone and takes a slot. -/
theorem advances_issue (s : State) (e : Nat) (n : Need) (f : Engine → Engine) (hb : (s.sys.engine e).busy = true) (hh : 1 ≤ n.hold)
    (h1 : (f (s.sys.engine e)).pc = (s.sys.engine e).pc) (h2 : (f (s.sys.engine e)).loops = (s.sys.engine e).loops)
    (h3 : (f (s.sys.engine e)).busy = (s.sys.engine e).busy) :
    Advances e s { s with sys := s.sys.setEngine e (Engine.next ((s.sys.engine e).issue n f)) } := by
  have := Engine.slot_le_issueAt (s.sys.engine e) n
  refine ⟨?_, ?_, ?_, ?_, ?_, rfl, rfl, ?_, fun _ _ => rfl, fun _ _ => rfl⟩
  · simp only [Sys.engine] at h1 h2 ⊢; simp [Sys.setEngine, Engine.next, Engine.issue, h1, h2]
  · simp only [Sys.engine] at h1 h2 ⊢; simp [Sys.setEngine, Engine.next, Engine.issue, h1, h2]
  · simp only [Sys.engine] at this ⊢; simp [Sys.setEngine, Engine.next, Engine.issue]; omega
  · simp only [Sys.engine] at h3 hb ⊢; simp [Sys.setEngine, Engine.next, Engine.issue, h3, hb]
  · intro j hj; simp [Sys.engine, Sys.setEngine, hj]
  · intro p hp; cases p <;> first | rfl | exact absurd (by simp) hp

end Sys2Proof.Machine
end

