-- ==== Sys2Proof/Laws/Frames.lean ====
section
/-!
SUPPORT. Sys2Proof/Laws/Frames.lean: what the shared operations leave alone, said once each as a `SameBut`, and how such frames compose.
-/

namespace Sys2Proof.Machine

variable {fs gs : List Facet} {nums blobs m c : Nat → Prop}

/-! ## Composition -/

theorem Facet.same_refl (p : Facet) (a : Sys) : p.same a a := by cases p <;> rfl

theorem Facet.same_trans (p : Facet) {a b c : Sys} (h : p.same a b) (g : p.same b c) : p.same a c := by
  cases p <;> exact Eq.trans h g

theorem SameBut.refl (a : Sys) : SameBut fs nums blobs a a := ⟨fun p _ => p.same_refl a, fun _ _ => rfl, fun _ _ => rfl⟩

theorem SameBut.trans {a b c : Sys} (h : SameBut fs nums blobs a b) (g : SameBut fs nums blobs b c) : SameBut fs nums blobs a c :=
  ⟨fun p hp => p.same_trans (h.1 p hp) (g.1 p hp), fun k hk => (g.2.1 k hk).trans (h.2.1 k hk), fun k hk => (g.2.2 k hk).trans (h.2.2 k hk)⟩

theorem SameBut.mono {a b : Sys} (h : SameBut fs nums blobs a b) (hf : ∀ p ∈ fs, p ∈ gs) (hn : ∀ k, nums k → m k) (hb : ∀ k, blobs k → c k) :
    SameBut gs m c a b :=
  ⟨fun p hp => h.1 p (fun q => hp (hf p q)), fun k hk => h.2.1 k (fun q => hk (hn k q)), fun k hk => h.2.2 k (fun q => hk (hb k q))⟩

theorem SameBut.foldl {α : Type} (g : Sys → α → Sys) (l : List α) (h : ∀ y, ∀ i ∈ l, SameBut fs nums blobs y (g y i)) (y : Sys) :
    SameBut fs nums blobs y (l.foldl g y) := by
  induction l generalizing y with
  | nil => exact .refl y
  | cons a r ih => exact (h y a (by simp)).trans (ih (fun z i hi => h z i (by simp [hi])) (g y a))

theorem SameBut.upto (g : Nat → Sys → Sys) (n : Nat) (h : ∀ y, ∀ i < n, SameBut fs nums blobs y (g i y)) (y : Sys) :
    SameBut fs nums blobs y (upto n g y) :=
  SameBut.foldl (fun y i => g i y) (List.range n) (fun y i hi => h y i (by simpa using hi)) y

/-! ## The primitives -/

theorem sameBut_wr (y : Sys) (k v : Nat) (h : nums k) : SameBut fs nums blobs y (y.wr k v) := by
  refine ⟨fun p _ => by cases p <;> rfl, fun j hj => ?_, fun _ _ => rfl⟩
  have : j ≠ k := fun e => hj (e ▸ h)
  simp [this]

theorem sameBut_wrB (y : Sys) (k : Nat) (v : Bytes) (h : blobs k) : SameBut fs nums blobs y (y.wrB k v) := by
  refine ⟨fun p _ => by cases p <;> rfl, fun _ _ => rfl, fun j hj => ?_⟩
  have : j ≠ k := fun e => hj (e ▸ h)
  simp [this]

theorem sameBut_wrI (y : Sys) (k : Nat) (v : Int) (h : nums k) : SameBut fs nums blobs y (y.wrI k v) := sameBut_wr y k _ h
theorem sameBut_wrBit (y : Sys) (k i : Nat) (v : Bool) (h : nums k) : SameBut fs nums blobs y (y.wrBit k i v) := sameBut_wr y k _ h
theorem sameBut_inc (y : Sys) (k : Nat) (h : nums k) : SameBut fs nums blobs y (y.inc k) := sameBut_wr y k _ h
theorem sameBut_incBy (y : Sys) (k n : Nat) (h : nums k) : SameBut fs nums blobs y (y.incBy k n) := sameBut_wr y k _ h
theorem sameBut_inc64 (y : Sys) (k n : Nat) (h : nums k) : SameBut fs nums blobs y (y.inc64 k n) := sameBut_wr y k _ h

theorem sameBut_send (y : Sys) (x : Tx) (h : Facet.tx ∈ fs) : SameBut fs nums blobs y (y.send x) := by
  refine ⟨fun p hp => ?_, fun _ _ => rfl, fun _ _ => rfl⟩
  cases p <;> first | rfl | exact absurd h hp

theorem sameBut_raiseSev (y : Sys) (sev code source : Nat) (data : Bytes) (h : Facet.log ∈ fs) :
    SameBut fs nums blobs y (y.raiseSev sev code source data) := by
  refine ⟨fun p hp => ?_, fun k _ => by simp, fun k _ => by simp⟩
  cases p <;> first | exact absurd h hp | simp [Facet.same]

theorem sameBut_raise (y : Sys) (code source : Nat) (data : Bytes) (h : Facet.log ∈ fs) : SameBut fs nums blobs y (y.raise code source data) :=
  sameBut_raiseSev y _ code source data h

theorem sameBut_raiseLimited (y : Sys) (key code source : Nat) (data : Bytes) (h : Facet.log ∈ fs) :
    SameBut fs nums blobs y (y.raiseLimited key code source data) := by
  unfold Sys.raiseLimited
  split
  · exact .refl y
  · refine SameBut.trans ?_ (sameBut_raise _ code source data h)
    refine ⟨fun p hp => ?_, fun _ _ => rfl, fun _ _ => rfl⟩
    cases p <;> first | rfl | exact absurd h hp

end Sys2Proof.Machine
end

