-- ==== Sys2Proof/Laws/Fuses.lean ====
section
/-!
SUPPORT. Sys2Proof/Laws/Fuses.lean: programming fuses one by one: nothing fused goes, and no fuse group overflows.
-/

namespace Sys2Proof.Machine

@[simp] theorem Otp.applyAll_nil (o : Otp) : o.applyAll [] = o := rfl

@[simp] theorem Otp.applyAll_cons (o : Otp) (p : OtpOp) (l : List OtpOp) : o.applyAll (p :: l) = (o.apply p).applyAll l := rfl

theorem Otp.calEpoch_apply (o : Otp) (s k : Nat) :
    (o.apply (.fuseCalibration s)).calEpoch k = if k = s ∧ s < 8 ∧ o.calEpoch s < 32 then o.calEpoch s + 1 else o.calEpoch k := by
  simp only [Otp.apply]
  split
  · next h => simp only [Otp.calEpoch, tget_tset]; split <;> simp_all [Otp.calEpoch]
  · next h => split <;> simp_all

theorem Otp.calEpoch_other (o : Otp) (p : OtpOp) (h : ∀ s, p ≠ .fuseCalibration s) (k : Nat) : (o.apply p).calEpoch k = o.calEpoch k := by
  cases p with
  | fuseCalibration s => exact absurd rfl (h s)
  | _ => simp only [Otp.apply]; first | rfl | (split <;> rfl)

theorem FuseInv.apply {o : Otp} (h : FuseInv o) (p : OtpOp) : FuseInv (o.apply p) := by
  obtain ⟨h1, h2, h3, h4, h5, h6⟩ := h
  cases p with
  | programState n =>
    simp only [Otp.apply]
    split
    · exact ⟨h1, h2, h3, h4, h5, h6⟩
    · next hn =>
      simp only [not_or, List.contains_iff_mem, not_lt] at hn
      refine ⟨?_, ?_, h3, h4, h5, h6⟩
      · intro m hm
        rcases List.mem_append.1 hm with hm | hm
        · exact h1 m hm
        · obtain rfl := List.mem_singleton.1 hm; omega
      · rw [List.nodup_append]
        refine ⟨h2, by simp, ?_⟩
        intro a ha b hb
        obtain rfl := List.mem_singleton.1 hb
        intro e; subst e; exact hn.2.2 ha
  | fuseRekey =>
    simp only [Otp.apply]
    split
    · exact ⟨h1, h2, by simpa using ‹o.rekeys < 8›, h4, h5, h6⟩
    · exact ⟨h1, h2, h3, h4, h5, h6⟩
  | fuseEpoch e =>
    simp only [Otp.apply]
    split
    · refine ⟨h1, h2, h3, ?_, h5, h6⟩
      simp only [List.length_append, List.length_singleton]; omega
    · exact ⟨h1, h2, h3, h4, h5, h6⟩
  | fuseRoot r => simp only [Otp.apply]; split <;> exact ⟨h1, h2, h3, h4, h5, h6⟩
  | fuseKilvan k => simp only [Otp.apply]; split <;> exact ⟨h1, h2, h3, h4, h5, h6⟩
  | eraseRoot => exact ⟨h1, h2, h3, h4, h5, h6⟩
  | fuseCalibration s =>
    have same : (o.apply (.fuseCalibration s)).stateFuses = o.stateFuses ∧ (o.apply (.fuseCalibration s)).rekeys = o.rekeys ∧
        (o.apply (.fuseCalibration s)).epochs = o.epochs := by
      simp only [Otp.apply]; split <;> exact ⟨rfl, rfl, rfl⟩
    refine ⟨by rw [same.1]; exact h1, by rw [same.1]; exact h2, by rw [same.2.1]; exact h3, by rw [same.2.2]; exact h4, ?_, ?_⟩
    · intro k; rw [Otp.calEpoch_apply]; split
      · omega
      · exact h5 k
    · intro k hk; rw [Otp.calEpoch_apply]; split
      · omega
      · exact h6 k hk

theorem Grown.refl (o : Otp) : Grown o o :=
  ⟨⟨[], by simp⟩, Nat.le_refl _, ⟨[], by simp⟩, fun _ h => h, fun h => h, fun _ => Nat.le_refl _, fun _ => rfl, rfl, rfl, rfl⟩

theorem Grown.trans {a b c : Otp} (h : Grown a b) (g : Grown b c) : Grown a c := by
  obtain ⟨⟨l1, e1⟩, h2, ⟨l3, e3⟩, h4, h5, h6, h7, h8, h9, h10⟩ := h
  obtain ⟨⟨m1, f1⟩, g2, ⟨m3, f3⟩, g4, g5, g6, g7, g8, g9, g10⟩ := g
  refine ⟨⟨l1 ++ m1, by rw [f1, e1, List.append_assoc]⟩, Nat.le_trans h2 g2, ⟨l3 ++ m3, by rw [f3, e3, List.append_assoc]⟩,
    fun r e => g4 r (h4 r e), fun e => g5 (h5 e), fun k => Nat.le_trans (h6 k) (g6 k), ?_, by rw [g8, h8], by rw [g9, h9], by rw [g10, h10]⟩
  intro e
  have := h7 e
  rw [g7 (by rw [this]; exact e), this]

theorem Grown.apply (o : Otp) (p : OtpOp) : Grown o (o.apply p) := by
  cases p with
  | programState n => simp only [Otp.apply]; split; exact .refl o; exact ⟨⟨[n], rfl⟩, (Grown.refl o).2⟩
  | fuseRekey =>
    simp only [Otp.apply]; split
    · exact ⟨⟨[], by simp⟩, Nat.le_succ _, (Grown.refl o).2.2⟩
    · exact .refl o
  | fuseEpoch e =>
    simp only [Otp.apply]; split
    · exact ⟨⟨[], by simp⟩, Nat.le_refl _, ⟨[e], rfl⟩, (Grown.refl o).2.2.2⟩
    · exact .refl o
  | fuseRoot r =>
    simp only [Otp.apply]; split
    · exact .refl o
    · next h => exact ⟨⟨[], by simp⟩, Nat.le_refl _, ⟨[], by simp⟩, by simp [h], (Grown.refl o).2.2.2.2⟩
  | fuseKilvan k =>
    simp only [Otp.apply]; split
    · next h => exact ⟨⟨[], by simp⟩, Nat.le_refl _, ⟨[], by simp⟩, fun _ e => e, fun e => e, fun _ => Nat.le_refl _,
        fun e => absurd (List.isEmpty_iff.1 h) e, rfl, rfl, rfl⟩
    · exact .refl o
  | eraseRoot => exact ⟨⟨[], by simp [Otp.apply]⟩, Nat.le_refl _, ⟨[], by simp [Otp.apply]⟩, fun _ e => e, fun _ => rfl, (Grown.refl o).2.2.2.2.2⟩
  | fuseCalibration s =>
    have cal : ∀ k, o.calEpoch k ≤ (o.apply (.fuseCalibration s)).calEpoch k := by
      intro k; rw [Otp.calEpoch_apply]; split
      · next h => rw [h.1]; omega
      · exact Nat.le_refl _
    refine ⟨⟨[], ?_⟩, ?_, ⟨[], ?_⟩, ?_, ?_, cal, ?_, ?_, ?_, ?_⟩
    all_goals simp only [Otp.apply]; split <;> simp
end Sys2Proof.Machine
end

