-- ==== Sys2Proof/Laws/Ran.lean ====
section
/-!
SUPPORT. Sys2Proof/Laws/Ran.lean: what any command can do to the state as a whole: it answers a next state, programs fuses by named operations only,
and leaves the queue to the step.
-/

namespace Sys2Proof.Machine

/-- A next state with the queue as it was, and fuses changed by programming operations only. -/
def Ran (s : State) (o : Host.Outcome State Fault Refusal) : Prop :=
  ∃ ops y, o = .next { s with otp := s.otp.applyAll ops, sys := y }

theorem ran_run (s : State) (f : Otp → Sys → List OtpOp × Sys) : Ran s (run s f) := ⟨_, _, rfl⟩

theorem ran_onSys (s : State) (f : Otp → Sys → Sys) : Ran s (onSys s f) := ran_run s _

theorem ran_writeStep (s : State) (w : Writer) (k : Nat) (v : Bytes) : Ran s (writeStep s w k v) := by
  delta writeStep; exact ran_run ..

theorem ran_queueStep (s : State) (w : Option Writer) (q v : Nat) : Ran s (queueStep s w q v) := by
  delta queueStep; exact ran_run ..

theorem ran_onEngine (s : State) (e : Nat) (n : Need) (f : Engine → Engine) : Ran s (onEngine s e n f) := by
  delta onEngine; exact ran_onSys ..

theorem ran_frameStep (s : State) (f : DenvalFrame) (mine : Req → Bool) (h : Otp → Sys → Req → Sys) : Ran s (frameStep s f mine h) := by
  delta frameStep; exact ran_onSys ..

theorem ran_requestStep (s : State) (f : DenvalFrame) (mine : Req → Bool) (h : Handler) : Ran s (requestStep s f mine h) := by
  delta requestStep; exact ran_frameStep ..

theorem ran_consoleStep (s : State) (line : Bytes) (letter : Byte) (others : Bool) (h : Otp → Sys → ConsoleLine → Sys) : Ran s (consoleStep s line letter others h) := by
  delta consoleStep; exact ran_onSys ..

theorem ran_vecBin (s : State) (e d a b pr : Nat) (pn : Bool) (lat : Nat) (f : W32 → W32 → W32) : Ran s (vecBin s e d a b pr pn lat f) := by
  delta vecBin; exact ran_onEngine ..

theorem ran_vecUn (s : State) (e d a pr : Nat) (pn : Bool) (lat : Nat) (f : W32 → W32) : Ran s (vecUn s e d a pr pn lat f) := by
  delta vecUn; exact ran_onEngine ..

theorem ran_scaBin (s : State) (e d a b lat : Nat) (f : W32 → W32 → W32) : Ran s (scaBin s e d a b lat f) := by
  delta scaBin; exact ran_onEngine ..

theorem ran_cmpBin (s : State) (e d a b pr : Nat) (pn : Bool) (f : W32 → W32 → Bool) : Ran s (cmpBin s e d a b pr pn f) := by
  delta cmpBin; exact ran_onEngine ..

theorem ran_vecBinS (s : State) (e d a b pr : Nat) (pn : Bool) (lat : Nat) (f : W32 → W32 → W32) : Ran s (vecBinS s e d a b pr pn lat f) := by
  delta vecBinS; exact ran_onEngine ..

theorem ran_vecTrans (s : State) (e d a pr : Nat) (pn : Bool) (f : W32 → W32) : Ran s (vecTrans s e d a pr pn f) := by
  delta vecTrans; exact ran_onEngine ..

theorem ran_vecTri (s : State) (e d a b pr : Nat) (pn : Bool) (f : W32 → W32 → W32 → W32) : Ran s (vecTri s e d a b pr pn f) := by
  delta vecTri; exact ran_onEngine ..

theorem ran_vecTriS (s : State) (e d a b pr : Nat) (pn : Bool) (f : W32 → W32 → W32 → W32) : Ran s (vecTriS s e d a b pr pn f) := by
  delta vecTriS; exact ran_onEngine ..

theorem ran_preBin (s : State) (e d a b : Nat) (f : W16 → W16 → W16) : Ran s (preBin s e d a b f) := by
  delta preBin; exact ran_onEngine ..

/-- Whatever the command, exec answers a next state, the queue is as it was, and fuses change by programming operations only. -/
theorem ran_exec (c : Instr) (s : State) : Ran s (exec c s) := by
  cases c with
  | vinValid vin boot => exact (by delta execVinValid; exact ran_onSys .. : Ran s (execVinValid vin boot s))
  | hostFirmwareImage image fails => exact (by delta execHostFirmwareImage; exact ran_onSys .. : Ran s (execHostFirmwareImage image fails s))
  | hostFirmwareTimeout => exact (by delta execHostFirmwareTimeout; exact ran_onSys .. : Ran s (execHostFirmwareTimeout s))
  | dramTrainingComplete identities firmware band verifyOk failed ms => exact (by delta execDramTrainingComplete; exact ran_run .. : Ran s (execDramTrainingComplete identities firmware band verifyOk failed ms s))
  | lowInputEnter vin => exact (by delta execLowInputEnter; exact ran_onSys .. : Ran s (execLowInputEnter vin s))
  | lowInputLeave vin => exact (by delta execLowInputLeave; exact ran_onSys .. : Ran s (execLowInputLeave vin s))
  | supplyCapTick vin current => exact (by delta execSupplyCapTick; exact ran_onSys .. : Ran s (execSupplyCapTick vin current s))
  | supplyWarning vin => exact (by delta execSupplyWarning; exact ran_onSys .. : Ran s (execSupplyWarning vin s))
  | supplyWarningClear vin minVin => exact (by delta execSupplyWarningClear; exact ran_onSys .. : Ran s (execSupplyWarningClear vin minVin s))
  | currentLimitEngage vin => exact (by delta execCurrentLimitEngage; exact ran_onSys .. : Ran s (execCurrentLimitEngage vin s))
  | currentLimitRelease vin coreT coreS => exact (by delta execCurrentLimitRelease; exact ran_onSys .. : Ran s (execCurrentLimitRelease vin coreT coreS s))
  | overvoltageEpisodeEnd highest above => exact (by delta execOvervoltageEpisodeEnd; exact ran_onSys .. : Ran s (execOvervoltageEpisodeEnd highest above s))
  | inputSwitchOpen vin highest above => exact (by delta execInputSwitchOpen; exact ran_onSys .. : Ran s (execInputSwitchOpen vin highest above s))
  | inputSwitchClose => exact (by delta execInputSwitchClose; exact ran_onSys .. : Ran s (execInputSwitchClose s))
  | supplyReset vin => exact (by delta execSupplyReset; exact ran_onSys .. : Ran s (execSupplyReset vin s))
  | holdUpEnd => exact (by delta execHoldUpEnd; exact ran_onSys .. : Ran s (execHoldUpEnd s))
  | resetNFall => exact (by delta execResetNFall; exact ran_onSys .. : Ran s (execResetNFall s))
  | resetNHeld => exact (by delta execResetNHeld; exact ran_onSys .. : Ran s (execResetNHeld s))
  | resetCommandWarm => exact (by delta execResetCommandWarm; exact ran_onSys .. : Ran s (execResetCommandWarm s))
  | resetCommandCold boot => exact (by delta execResetCommandCold; exact ran_onSys .. : Ran s (execResetCommandCold boot s))
  | resetCommandDomain => exact (by delta execResetCommandDomain; exact ran_onSys .. : Ran s (execResetCommandDomain s))
  | coreCheckTick responded => exact (by delta execCoreCheckTick; exact ran_onSys .. : Ran s (execCoreCheckTick responded s))
  | watchdogTimeout core => exact (by delta execWatchdogTimeout; exact ran_onSys .. : Ran s (execWatchdogTimeout core s))
  | governorWindow => exact (by delta execGovernorWindow; exact ran_onSys .. : Ran s (execGovernorWindow s))
  | railCeilingWrite by_ system value => exact (by delta execRailCeilingWrite; exact ran_writeStep .. : Ran s (execRailCeilingWrite by_ system value s))
  | powerManagerTick power => exact (by delta execPowerManagerTick; exact ran_onSys .. : Ran s (execPowerManagerTick power s))
  | idleTokenEnd troupe => exact (by delta execIdleTokenEnd; exact ran_onSys .. : Ran s (execIdleTokenEnd troupe s))
  | frameDeadline ctx => exact (by delta execFrameDeadline; exact ran_onSys .. : Ran s (execFrameDeadline ctx s))
  | denvalRead frame => exact (by delta execDenvalRead; exact ran_requestStep .. : Ran s (execDenvalRead frame s))
  | denvalReadShadow frame => exact (by delta execDenvalReadShadow; exact ran_requestStep .. : Ran s (execDenvalReadShadow frame s))
  | denvalWrite frame => exact (by delta execDenvalWrite; exact ran_requestStep .. : Ran s (execDenvalWrite frame s))
  | groupBegin frame => exact (by delta execGroupBegin; exact ran_requestStep .. : Ran s (execGroupBegin frame s))
  | groupMember frame => exact (by delta execGroupMember; exact ran_requestStep .. : Ran s (execGroupMember frame s))
  | groupCommit frame => exact (by delta execGroupCommit; exact ran_requestStep .. : Ran s (execGroupCommit frame s))
  | groupTimeout session => exact (by delta execGroupTimeout; exact ran_onSys .. : Ran s (execGroupTimeout session s))
  | segReadInit frame => exact (by delta execSegReadInit; exact ran_requestStep .. : Ran s (execSegReadInit frame s))
  | segWriteInit frame => exact (by delta execSegWriteInit; exact ran_requestStep .. : Ran s (execSegWriteInit frame s))
  | segDown frame => exact (by delta execSegDown; exact ran_requestStep .. : Ran s (execSegDown frame s))
  | segAck frame => exact (by delta execSegAck; exact ran_requestStep .. : Ran s (execSegAck frame s))
  | denvalAbort frame => exact (by delta execDenvalAbort; exact ran_requestStep .. : Ran s (execDenvalAbort frame s))
  | transferTimeout path source session tag => exact (by delta execTransferTimeout; exact ran_onSys .. : Ran s (execTransferTimeout path source session tag s))
  | commitInstant => exact (by delta execCommitInstant; exact ran_run .. : Ran s (execCommitInstant s))
  | entryWrite by_ entry value => exact (by delta execEntryWrite; exact ran_writeStep .. : Ran s (execEntryWrite by_ entry value s))
  | sessionHello frame => exact (by delta execSessionHello; exact ran_frameStep .. : Ran s (execSessionHello frame s))
  | lockoutEnd path source => exact (by delta execLockoutEnd; exact ran_onSys .. : Ran s (execLockoutEnd path source s))
  | sessionProofA frame => exact (by delta execSessionProofA; exact ran_frameStep .. : Ran s (execSessionProofA frame s))
  | sessionProofB frame => exact (by delta execSessionProofB; exact ran_frameStep .. : Ran s (execSessionProofB frame s))
  | sessionSetupTimeout session => exact (by delta execSessionSetupTimeout; exact ran_onSys .. : Ran s (execSessionSetupTimeout session s))
  | sessionClose frame => exact (by delta execSessionClose; exact ran_frameStep .. : Ran s (execSessionClose frame s))
  | sessionIdleTimeout session => exact (by delta execSessionIdleTimeout; exact ran_onSys .. : Ran s (execSessionIdleTimeout session s))
  | heartbeatSend => exact (by delta execHeartbeatSend; exact ran_onSys .. : Ran s (execHeartbeatSend s))
  | timeSyncSend => exact (by delta execTimeSyncSend; exact ran_onSys .. : Ran s (execTimeSyncSend s))
  | timeFollowSend port => exact (by delta execTimeFollowSend; exact ran_onSys .. : Ran s (execTimeFollowSend port s))
  | canBusOff port => exact (by delta execCanBusOff; exact ran_onSys .. : Ran s (execCanBusOff port s))
  | canBusRecovered port => exact (by delta execCanBusRecovered; exact ran_onSys .. : Ran s (execCanBusRecovered port s))
  | consoleIdentify line => exact (by delta execConsoleIdentify; exact ran_consoleStep .. : Ran s (execConsoleIdentify line s))
  | consoleRead line => exact (by delta execConsoleRead; exact ran_consoleStep .. : Ran s (execConsoleRead line s))
  | consoleWrite line => exact (by delta execConsoleWrite; exact ran_consoleStep .. : Ran s (execConsoleWrite line s))
  | parameterStoreSave by_ => exact (by delta execParameterStoreSave; exact ran_writeStep .. : Ran s (execParameterStoreSave by_ s))
  | parameterStoreClear by_ => exact (by delta execParameterStoreClear; exact ran_writeStep .. : Ran s (execParameterStoreClear by_ s))
  | parameterStoreDone => exact (by delta execParameterStoreDone; exact ran_onSys .. : Ran s (execParameterStoreDone s))
  | lifeCycleTransition by_ target => exact (by delta execLifeCycleTransition; exact ran_writeStep .. : Ran s (execLifeCycleTransition by_ target s))
  | rekey by_ => exact (by delta execRekey; exact ran_writeStep .. : Ran s (execRekey by_ s))
  | certificateInstall by_ certificate => exact (by delta execCertificateInstall; exact ran_writeStep .. : Ran s (execCertificateInstall by_ certificate s))
  | customerRootWrite by_ root => exact (by delta execCustomerRootWrite; exact ran_writeStep .. : Ran s (execCustomerRootWrite by_ root s))
  | credentialInstall by_ slot credential => exact (by delta execCredentialInstall; exact ran_writeStep .. : Ran s (execCredentialInstall by_ slot credential s))
  | credentialRemove by_ slot => exact (by delta execCredentialRemove; exact ran_writeStep .. : Ran s (execCredentialRemove by_ slot s))
  | credentialRevoke by_ id => exact (by delta execCredentialRevoke; exact ran_writeStep .. : Ran s (execCredentialRevoke by_ id s))
  | epochRaise by_ epoch => exact (by delta execEpochRaise; exact ran_writeStep .. : Ran s (execEpochRaise by_ epoch s))
  | lookImageWrite by_ slot image => exact (by delta execLookImageWrite; exact ran_writeStep .. : Ran s (execLookImageWrite by_ slot image s))
  | manifestIssue ctx delay => exact (by delta execManifestIssue; exact ran_onSys .. : Ran s (execManifestIssue ctx delay s))
  | recipientKeyWrite by_ recipient key => exact (by delta execRecipientKeyWrite; exact ran_writeStep .. : Ran s (execRecipientKeyWrite by_ recipient key s))
  | encryptionEnable by_ on => exact (by delta execEncryptionEnable; exact ran_writeStep .. : Ran s (execEncryptionEnable by_ on s))
  | attestationNonce by_ nonce => exact (by delta execAttestationNonce; exact ran_writeStep .. : Ran s (execAttestationNonce by_ nonce s))
  | attestationReportReady => exact (by delta execAttestationReportReady; exact ran_onSys .. : Ran s (execAttestationReportReady s))
  | timeBaseSave temp => exact (by delta execTimeBaseSave; exact ran_onSys .. : Ran s (execTimeBaseSave temp s))
  | sourceQualified source offset traceable timeSource => exact (by delta execSourceQualified; exact ran_onSys .. : Ran s (execSourceQualified source offset traceable timeSource s))
  | frequencyAcquired incr offset => exact (by delta execFrequencyAcquired; exact ran_onSys .. : Ran s (execFrequencyAcquired incr offset s))
  | timeLocked offset => exact (by delta execTimeLocked; exact ran_onSys .. : Ran s (execTimeLocked offset s))
  | lockLost offset => exact (by delta execLockLost; exact ran_onSys .. : Ran s (execLockLost offset s))
  | referenceFault source fault temp => exact (by delta execReferenceFault; exact ran_onSys .. : Ran s (execReferenceFault source fault temp s))
  | holdoverLimitExceeded temp => exact (by delta execHoldoverLimitExceeded; exact ran_onSys .. : Ran s (execHoldoverLimitExceeded temp s))
  | timeSet value => exact (by delta execTimeSet; exact ran_onSys .. : Ran s (execTimeSet value s))
  | ppsInEdge time width => exact (by delta execPpsInEdge; exact ran_onSys .. : Ran s (execPpsInEdge time width s))
  | ptpAnnounceReceive port announce => exact (by delta execPtpAnnounceReceive; exact ran_onSys .. : Ran s (execPtpAnnounceReceive port announce s))
  | ptpSyncReceive port domain seq received origin => exact (by delta execPtpSyncReceive; exact ran_onSys .. : Ran s (execPtpSyncReceive port domain seq received origin s))
  | ptpFollowUpReceive port domain seq origin => exact (by delta execPtpFollowUpReceive; exact ran_onSys .. : Ran s (execPtpFollowUpReceive port domain seq origin s))
  | ptpDelayReqReceive port domain seq requester received => exact (by delta execPtpDelayReqReceive; exact ran_onSys .. : Ran s (execPtpDelayReqReceive port domain seq requester received s))
  | ptpDelayRespReceive port domain seq received => exact (by delta execPtpDelayRespReceive; exact ran_onSys .. : Ran s (execPtpDelayRespReceive port domain seq received s))
  | ptpAnnounceSend port => exact (by delta execPtpAnnounceSend; exact ran_onSys .. : Ran s (execPtpAnnounceSend port s))
  | ptpSyncSend port => exact (by delta execPtpSyncSend; exact ran_onSys .. : Ran s (execPtpSyncSend port s))
  | ptpDelayReqSend port => exact (by delta execPtpDelayReqSend; exact ran_onSys .. : Ran s (execPtpDelayReqSend port s))
  | ptpMetadataSend port => exact (by delta execPtpMetadataSend; exact ran_onSys .. : Ran s (execPtpMetadataSend port s))
  | ptpAnnounceTimeout port => exact (by delta execPtpAnnounceTimeout; exact ran_onSys .. : Ran s (execPtpAnnounceTimeout port s))
  | tioEdgeOut ball => exact (by delta execTioEdgeOut; exact ran_onSys .. : Ran s (execTioEdgeOut ball s))
  | tioCapture ball time falling width => exact (by delta execTioCapture; exact ran_onSys .. : Ran s (execTioCapture ball time falling width s))
  | captureFifoRead ball => exact (by delta execCaptureFifoRead; exact ran_onSys .. : Ran s (execCaptureFifoRead ball s))
  | launchSubmit entry session rank => exact (by delta execLaunchSubmit; exact ran_onSys .. : Ran s (execLaunchSubmit entry session rank s))
  | launchCancel id session => exact (by delta execLaunchCancel; exact ran_onSys .. : Ran s (execLaunchCancel id session s))
  | launchCancelAny id => exact (by delta execLaunchCancelAny; exact ran_onSys .. : Ran s (execLaunchCancelAny id s))
  | launchCancelAll => exact (by delta execLaunchCancelAll; exact ran_onSys .. : Ran s (execLaunchCancelAll s))
  | launchDue => exact (by delta execLaunchDue; exact ran_onSys .. : Ran s (execLaunchDue s))
  | laneRequestedState by_ lane state => exact (by delta execLaneRequestedState; exact ran_writeStep .. : Ran s (execLaneRequestedState by_ lane state s))
  | lanePllLocked lane => exact (by delta execLanePllLocked; exact ran_onSys .. : Ran s (execLanePllLocked lane s))
  | losAssert lane => exact (by delta execLosAssert; exact ran_onSys .. : Ran s (execLosAssert lane s))
  | losClear lane => exact (by delta execLosClear; exact ran_onSys .. : Ran s (execLosClear lane s))
  | cdrLock lane offset => exact (by delta execCdrLock; exact ran_onSys .. : Ran s (execCdrLock lane offset s))
  | cdrLockLost lane invalid => exact (by delta execCdrLockLost; exact ran_onSys .. : Ran s (execCdrLockLost lane invalid s))
  | adaptationDone lane peaking taps => exact (by delta execAdaptationDone; exact ran_onSys .. : Ran s (execAdaptationDone lane peaking taps s))
  | blockLock lane headers => exact (by delta execBlockLock; exact ran_onSys .. : Ran s (execBlockLock lane headers s))
  | blockLockLost lane invalid headers => exact (by delta execBlockLockLost; exact ran_onSys .. : Ran s (execBlockLockLost lane invalid headers s))
  | hiBerSet lane report => exact (by delta execHiBerSet; exact ran_onSys .. : Ran s (execHiBerSet lane report s))
  | hiBerClear lane report => exact (by delta execHiBerClear; exact ran_onSys .. : Ran s (execHiBerClear lane report s))
  | trainingBlockReceive lane heard => exact (by delta execTrainingBlockReceive; exact ran_onSys .. : Ran s (execTrainingBlockReceive lane heard s))
  | trainingTimeout lane => exact (by delta execTrainingTimeout; exact ran_onSys .. : Ran s (execTrainingTimeout lane s))
  | laneBringupRetry lane => exact (by delta execLaneBringupRetry; exact ran_onSys .. : Ran s (execLaneBringupRetry lane s))
  | referenceMissing reference invalid => exact (by delta execReferenceMissing; exact ran_onSys .. : Ran s (execReferenceMissing reference invalid s))
  | eyeScanRequest by_ lane request => exact (by delta execEyeScanRequest; exact ran_writeStep .. : Ran s (execEyeScanRequest by_ lane request s))
  | eyeScanDone lane compared mismatches => exact (by delta execEyeScanDone; exact ran_onSys .. : Ran s (execEyeScanDone lane compared mismatches s))
  | retrain by_ target => exact (by delta execRetrain; exact ran_writeStep .. : Ran s (execRetrain by_ target s))
  | quadFunctionWrite by_ quad function => exact (by delta execQuadFunctionWrite; exact ran_writeStep .. : Ran s (execQuadFunctionWrite by_ quad function s))
  | ingestLaneRateWrite by_ group rate => exact (by delta execIngestLaneRateWrite; exact ran_writeStep .. : Ran s (execIngestLaneRateWrite by_ group rate s))
  | alignmentMarker group lane count skew => exact (by delta execAlignmentMarker; exact ran_onSys .. : Ran s (execAlignmentMarker group lane count skew s))
  | malformedBlock group => exact (by delta execMalformedBlock; exact ran_onSys .. : Ran s (execMalformedBlock group s))
  | frameStartAccept group start => exact (by delta execFrameStartAccept; exact ran_onSys .. : Ran s (execFrameStartAccept group start s))
  | nonLeadFrameStart group start => exact (by delta execNonLeadFrameStart; exact ran_onSys .. : Ran s (execNonLeadFrameStart group start s))
  | groupSkew group => exact (by delta execGroupSkew; exact ran_onSys .. : Ran s (execGroupSkew group s))
  | linePacket group header payload trailers => exact (by delta execLinePacket; exact ran_onSys .. : Ran s (execLinePacket group header payload trailers s))
  | embeddedLine group header payload trailers => exact (by delta execEmbeddedLine; exact ran_onSys .. : Ran s (execEmbeddedLine group header payload trailers s))
  | frameEndAccept group header lines => exact (by delta execFrameEndAccept; exact ran_onSys .. : Ran s (execFrameEndAccept group header lines s))
  | frameTimeout ctx => exact (by delta execFrameTimeout; exact ran_onSys .. : Ran s (execFrameTimeout ctx s))
  | ingestLockLoss group => exact (by delta execIngestLockLoss; exact ran_onSys .. : Ran s (execIngestLockLoss group s))
  | quietBlock group => exact (by delta execQuietBlock; exact ran_onSys .. : Ran s (execQuietBlock group s))
  | blankingWake ctx => exact (by delta execBlankingWake; exact ran_onSys .. : Ran s (execBlankingWake ctx s))
  | contextModeWrite by_ ctx mode => exact (by delta execContextModeWrite; exact ran_writeStep .. : Ran s (execContextModeWrite by_ ctx mode s))
  | exposureListStart port => exact (by delta execExposureListStart; exact ran_onSys .. : Ran s (execExposureListStart port s))
  | exposureListDone port => exact (by delta execExposureListDone; exact ran_onSys .. : Ran s (execExposureListDone port s))
  | exposureListOverrun port overrunUs => exact (by delta execExposureListOverrun; exact ran_onSys .. : Ran s (execExposureListOverrun port overrunUs s))
  | sensorWriteError port timeout reg => exact (by delta execSensorWriteError; exact ran_onSys .. : Ran s (execSensorWriteError port timeout reg s))
  | sensorTransaction port request => exact (by delta execSensorTransaction; exact ran_onSys .. : Ran s (execSensorTransaction port request s))
  | sensorTransactionDone port status data => exact (by delta execSensorTransactionDone; exact ran_onSys .. : Ran s (execSensorTransactionDone port status data s))
  | stripeOpen => exact (by delta execStripeOpen; exact ran_onSys .. : Ran s (execStripeOpen s))
  | rfeSegmentWritten rfe waitUs => exact (by delta execRfeSegmentWritten; exact ran_onSys .. : Ran s (execRfeSegmentWritten rfe waitUs s))
  | rfePassComplete rfe => exact (by delta execRfePassComplete; exact ran_onSys .. : Ran s (execRfePassComplete rfe s))
  | statisticsRecordIssue ctx delay => exact (by delta execStatisticsRecordIssue; exact ran_onSys .. : Ran s (execStatisticsRecordIssue ctx delay s))
  | statsRecordMerge ctx members delay => exact (by delta execStatsRecordMerge; exact ran_onSys .. : Ran s (execStatsRecordMerge ctx members delay s))
  | rfeParityError rfe cache => exact (by delta execRfeParityError; exact ran_onSys .. : Ran s (execRfeParityError rfe cache s))
  | rfeRetestDone rfe passed => exact (by delta execRfeRetestDone; exact ran_onSys .. : Ran s (execRfeRetestDone rfe passed s))
  | statsOnlyStripe => exact (by delta execStatsOnlyStripe; exact ran_onSys .. : Ran s (execStatsOnlyStripe s))
  | stripeComplete troupe => exact (by delta execStripeComplete; exact ran_onSys .. : Ran s (execStripeComplete troupe s))
  | arrayHaloReceive ctx frame neighbour part delayUs => exact (by delta execArrayHaloReceive; exact ran_onSys .. : Ran s (execArrayHaloReceive ctx frame neighbour part delayUs s))
  | arrayLookDecision ctx frame origin abandon => exact (by delta execArrayLookDecision; exact ran_onSys .. : Ran s (execArrayLookDecision ctx frame origin abandon s))
  | engineGroupDispatch e => exact (by delta execEngineGroupDispatch; exact ran_onSys .. : Ran s (execEngineGroupDispatch e s))
  | fadd e d a b pr pn => exact (by delta execFadd; exact ran_vecBin .. : Ran s (execFadd e d a b pr pn s))
  | fsub e d a b pr pn => exact (by delta execFsub; exact ran_vecBin .. : Ran s (execFsub e d a b pr pn s))
  | fmul e d a b pr pn => exact (by delta execFmul; exact ran_vecBin .. : Ran s (execFmul e d a b pr pn s))
  | fmin e d a b pr pn => exact (by delta execFmin; exact ran_vecBin .. : Ran s (execFmin e d a b pr pn s))
  | fmax e d a b pr pn => exact (by delta execFmax; exact ran_vecBin .. : Ran s (execFmax e d a b pr pn s))
  | fabs e d a pr pn => exact (by delta execFabs; exact ran_vecUn .. : Ran s (execFabs e d a pr pn s))
  | fneg e d a pr pn => exact (by delta execFneg; exact ran_vecUn .. : Ran s (execFneg e d a pr pn s))
  | fsat e d a pr pn => exact (by delta execFsat; exact ran_vecUn .. : Ran s (execFsat e d a pr pn s))
  | ffloor e d a pr pn => exact (by delta execFfloor; exact ran_vecUn .. : Ran s (execFfloor e d a pr pn s))
  | ffrac e d a pr pn => exact (by delta execFfrac; exact ran_vecUn .. : Ran s (execFfrac e d a pr pn s))
  | frnd e d a pr pn => exact (by delta execFrnd; exact ran_vecUn .. : Ran s (execFrnd e d a pr pn s))
  | fma e d a b pr pn => exact (by delta execFma; exact ran_vecTri .. : Ran s (execFma e d a b pr pn s))
  | fms e d a b pr pn => exact (by delta execFms; exact ran_vecTri .. : Ran s (execFms e d a b pr pn s))
  | fnma e d a b pr pn => exact (by delta execFnma; exact ran_vecTri .. : Ran s (execFnma e d a b pr pn s))
  | faddS e d a b pr pn => exact (by delta execFaddS; exact ran_vecBinS .. : Ran s (execFaddS e d a b pr pn s))
  | fsubS e d a b pr pn => exact (by delta execFsubS; exact ran_vecBinS .. : Ran s (execFsubS e d a b pr pn s))
  | fmulS e d a b pr pn => exact (by delta execFmulS; exact ran_vecBinS .. : Ran s (execFmulS e d a b pr pn s))
  | fminS e d a b pr pn => exact (by delta execFminS; exact ran_vecBinS .. : Ran s (execFminS e d a b pr pn s))
  | fmaxS e d a b pr pn => exact (by delta execFmaxS; exact ran_vecBinS .. : Ran s (execFmaxS e d a b pr pn s))
  | fmaS e d a b pr pn => exact (by delta execFmaS; exact ran_vecTriS .. : Ran s (execFmaS e d a b pr pn s))
  | fmsS e d a b pr pn => exact (by delta execFmsS; exact ran_vecTriS .. : Ran s (execFmsS e d a b pr pn s))
  | fnmaS e d a b pr pn => exact (by delta execFnmaS; exact ran_vecTriS .. : Ran s (execFnmaS e d a b pr pn s))
  | rcp e d a pr pn => exact (by delta execRcp; exact ran_vecTrans .. : Ran s (execRcp e d a pr pn s))
  | rsq e d a pr pn => exact (by delta execRsq; exact ran_vecTrans .. : Ran s (execRsq e d a pr pn s))
  | sqrt e d a pr pn => exact (by delta execSqrt; exact ran_vecTrans .. : Ran s (execSqrt e d a pr pn s))
  | log2 e d a pr pn => exact (by delta execLog2; exact ran_vecTrans .. : Ran s (execLog2 e d a pr pn s))
  | exp2 e d a pr pn => exact (by delta execExp2; exact ran_vecTrans .. : Ran s (execExp2 e d a pr pn s))
  | iadd e d a b pr pn => exact (by delta execIadd; exact ran_vecBin .. : Ran s (execIadd e d a b pr pn s))
  | isub e d a b pr pn => exact (by delta execIsub; exact ran_vecBin .. : Ran s (execIsub e d a b pr pn s))
  | imul e d a b pr pn => exact (by delta execImul; exact ran_vecBin .. : Ran s (execImul e d a b pr pn s))
  | imin e d a b pr pn => exact (by delta execImin; exact ran_vecBin .. : Ran s (execImin e d a b pr pn s))
  | imax e d a b pr pn => exact (by delta execImax; exact ran_vecBin .. : Ran s (execImax e d a b pr pn s))
  | and e d a b pr pn => exact (by delta execAnd; exact ran_vecBin .. : Ran s (execAnd e d a b pr pn s))
  | or e d a b pr pn => exact (by delta execOr; exact ran_vecBin .. : Ran s (execOr e d a b pr pn s))
  | xor e d a b pr pn => exact (by delta execXor; exact ran_vecBin .. : Ran s (execXor e d a b pr pn s))
  | shl e d a b pr pn => exact (by delta execShl; exact ran_vecBin .. : Ran s (execShl e d a b pr pn s))
  | shr e d a b pr pn => exact (by delta execShr; exact ran_vecBin .. : Ran s (execShr e d a b pr pn s))
  | sar e d a b pr pn => exact (by delta execSar; exact ran_vecBin .. : Ran s (execSar e d a b pr pn s))
  | sadd e d a b => exact (by delta execSadd; exact ran_scaBin .. : Ran s (execSadd e d a b s))
  | ssub e d a b => exact (by delta execSsub; exact ran_scaBin .. : Ran s (execSsub e d a b s))
  | smul e d a b => exact (by delta execSmul; exact ran_scaBin .. : Ran s (execSmul e d a b s))
  | smin e d a b => exact (by delta execSmin; exact ran_scaBin .. : Ran s (execSmin e d a b s))
  | smax e d a b => exact (by delta execSmax; exact ran_scaBin .. : Ran s (execSmax e d a b s))
  | sand e d a b => exact (by delta execSand; exact ran_scaBin .. : Ran s (execSand e d a b s))
  | sor e d a b => exact (by delta execSor; exact ran_scaBin .. : Ran s (execSor e d a b s))
  | sxor e d a b => exact (by delta execSxor; exact ran_scaBin .. : Ran s (execSxor e d a b s))
  | sshl e d a b => exact (by delta execSshl; exact ran_scaBin .. : Ran s (execSshl e d a b s))
  | sshr e d a b => exact (by delta execSshr; exact ran_scaBin .. : Ran s (execSshr e d a b s))
  | ssar e d a b => exact (by delta execSsar; exact ran_scaBin .. : Ran s (execSsar e d a b s))
  | movl e d imm => exact (by delta execMovl; exact ran_onEngine .. : Ran s (execMovl e d imm s))
  | movh e d imm => exact (by delta execMovh; exact ran_onEngine .. : Ran s (execMovh e d imm s))
  | movf e d imm => exact (by delta execMovf; exact ran_onEngine .. : Ran s (execMovf e d imm s))
  | smovl e d imm => exact (by delta execSmovl; exact ran_onEngine .. : Ran s (execSmovl e d imm s))
  | smovh e d imm => exact (by delta execSmovh; exact ran_onEngine .. : Ran s (execSmovh e d imm s))
  | saddi e d imm => exact (by delta execSaddi; exact ran_onEngine .. : Ran s (execSaddi e d imm s))
  | mov e d a pr pn => exact (by delta execMov; exact ran_vecUn .. : Ran s (execMov e d a pr pn s))
  | bcast e d a pr pn => exact (by delta execBcast; exact ran_onEngine .. : Ran s (execBcast e d a pr pn s))
  | extr e d a b => exact (by delta execExtr; exact ran_onEngine .. : Ran s (execExtr e d a b s))
  | sel e d a b pr pn => exact (by delta execSel; exact ran_onEngine .. : Ran s (execSel e d a b pr pn s))
  | laneid e d pr pn => exact (by delta execLaneid; exact ran_onEngine .. : Ran s (execLaneid e d pr pn s))
  | smov e d a => exact (by delta execSmov; exact ran_onEngine .. : Ran s (execSmov e d a s))
  | fcmpEq e d a b pr pn => exact (by delta execFcmpEq; exact ran_cmpBin .. : Ran s (execFcmpEq e d a b pr pn s))
  | fcmpLt e d a b pr pn => exact (by delta execFcmpLt; exact ran_cmpBin .. : Ran s (execFcmpLt e d a b pr pn s))
  | fcmpLe e d a b pr pn => exact (by delta execFcmpLe; exact ran_cmpBin .. : Ran s (execFcmpLe e d a b pr pn s))
  | fcmpNe e d a b pr pn => exact (by delta execFcmpNe; exact ran_cmpBin .. : Ran s (execFcmpNe e d a b pr pn s))
  | fcmpUn e d a b pr pn => exact (by delta execFcmpUn; exact ran_cmpBin .. : Ran s (execFcmpUn e d a b pr pn s))
  | icmpEq e d a b pr pn => exact (by delta execIcmpEq; exact ran_cmpBin .. : Ran s (execIcmpEq e d a b pr pn s))
  | icmpLt e d a b pr pn => exact (by delta execIcmpLt; exact ran_cmpBin .. : Ran s (execIcmpLt e d a b pr pn s))
  | icmpLtu e d a b pr pn => exact (by delta execIcmpLtu; exact ran_cmpBin .. : Ran s (execIcmpLtu e d a b pr pn s))
  | pand e d a b => exact (by delta execPand; exact ran_preBin .. : Ran s (execPand e d a b s))
  | por e d a b => exact (by delta execPor; exact ran_preBin .. : Ran s (execPor e d a b s))
  | pxor e d a b => exact (by delta execPxor; exact ran_preBin .. : Ran s (execPxor e d a b s))
  | pnot e d a => exact (by delta execPnot; exact ran_onEngine .. : Ran s (execPnot e d a s))
  | pfroms e d a => exact (by delta execPfroms; exact ran_onEngine .. : Ran s (execPfroms e d a s))
  | ptos e d a => exact (by delta execPtos; exact ran_onEngine .. : Ran s (execPtos e d a s))
  | cvtFI e d a pr pn => exact (by delta execCvtFI; exact ran_vecUn .. : Ran s (execCvtFI e d a pr pn s))
  | cvtIF e d a pr pn => exact (by delta execCvtIF; exact ran_vecUn .. : Ran s (execCvtIF e d a pr pn s))
  | cvtFU e d a pr pn => exact (by delta execCvtFU; exact ran_vecUn .. : Ran s (execCvtFU e d a pr pn s))
  | cvtUF e d a pr pn => exact (by delta execCvtUF; exact ran_vecUn .. : Ran s (execCvtUF e d a pr pn s))
  | cvtHF e d a pr pn => exact (by delta execCvtHF; exact ran_vecUn .. : Ran s (execCvtHF e d a pr pn s))
  | cvtFH e d a pr pn => exact (by delta execCvtFH; exact ran_vecUn .. : Ran s (execCvtFH e d a pr pn s))
  | ldV e d b off pr pn => exact (by delta execLdV; exact ran_onSys .. : Ran s (execLdV e d b off pr pn s))
  | stV e d b off pr pn => exact (by delta execStV; exact ran_onSys .. : Ran s (execStV e d b off pr pn s))
  | ldS e d b off => exact (by delta execLdS; exact ran_onSys .. : Ran s (execLdS e d b off s))
  | stS e d b off => exact (by delta execStS; exact ran_onSys .. : Ran s (execStS e d b off s))
  | ldB e d b off pr pn => exact (by delta execLdB; exact ran_onSys .. : Ran s (execLdB e d b off pr pn s))
  | ldG e d a b pr pn => exact (by delta execLdG; exact ran_onSys .. : Ran s (execLdG e d a b pr pn s))
  | stG e d a b pr pn => exact (by delta execStG; exact ran_onSys .. : Ran s (execStG e d a b pr pn s))
  | pixIn e d dx dy pr pn => exact (by delta execPixIn; exact ran_onSys .. : Ran s (execPixIn e d dx dy pr pn s))
  | pixFrac e d pr pn => exact (by delta execPixFrac; exact ran_onSys .. : Ran s (execPixFrac e d pr pn s))
  | pixOut e a binding pr pn => exact (by delta execPixOut; exact ran_onSys .. : Ran s (execPixOut e a binding pr pn s))
  | lut1 e d a table pr pn => exact (by delta execLut1; exact ran_onSys .. : Ran s (execLut1 e d a table pr pn s))
  | lut3 e d a table pr pn => exact (by delta execLut3; exact ran_onSys .. : Ran s (execLut3 e d a table pr pn s))
  | lut3Out e binding a table pr pn => exact (by delta execLut3Out; exact ran_onSys .. : Ran s (execLut3Out e binding a table pr pn s))
  | lutRequestAccept troupe => exact (by delta execLutRequestAccept; exact ran_onSys .. : Ran s (execLutRequestAccept troupe s))
  | lutResult e => exact (by delta execLutResult; exact ran_onSys .. : Ran s (execLutResult e s))
  | br e off => exact (by delta execBr; exact ran_onSys .. : Ran s (execBr e off s))
  | brp e pr mode off => exact (by delta execBrp; exact ran_onSys .. : Ran s (execBrp e pr mode off s))
  | loop e c len => exact (by delta execLoop; exact ran_onSys .. : Ran s (execLoop e c len s))
  | call e off => exact (by delta execCall; exact ran_onSys .. : Ran s (execCall e off s))
  | ret e => exact (by delta execRet; exact ran_onSys .. : Ran s (execRet e s))
  | sync e => exact (by delta execSync; exact ran_onSys .. : Ran s (execSync e s))
  | wait e mask => exact (by delta execWait; exact ran_onSys .. : Ran s (execWait e mask s))
  | halt e => exact (by delta execHalt; exact ran_onSys .. : Ran s (execHalt e s))
  | nop e => exact (by delta execNop; exact ran_onEngine .. : Ran s (execNop e s))
  | engineGroupTimeout e => exact (by delta execEngineGroupTimeout; exact ran_onSys .. : Ran s (execEngineGroupTimeout e s))
  | engineParityError e cause => exact (by delta execEngineParityError; exact ran_onSys .. : Ran s (execEngineParityError e cause s))
  | engineRetestDone e passed => exact (by delta execEngineRetestDone; exact ran_onSys .. : Ran s (execEngineRetestDone e passed s))
  | troupeParityError troupe cause => exact (by delta execTroupeParityError; exact ran_onSys .. : Ran s (execTroupeParityError troupe cause s))
  | troupeRetestDone troupe passed => exact (by delta execTroupeRetestDone; exact ran_onSys .. : Ran s (execTroupeRetestDone troupe passed s))
  | imageLoadDone slot => exact (by delta execImageLoadDone; exact ran_onSys .. : Ran s (execImageLoadDone slot s))
  | tableLoadDone entry => exact (by delta execTableLoadDone; exact ran_onSys .. : Ran s (execTableLoadDone entry s))
  | keepResidentWrite by_ slot value => exact (by delta execKeepResidentWrite; exact ran_writeStep .. : Ran s (execKeepResidentWrite by_ slot value s))
  | lookSlotSelect by_ ctx slot => exact (by delta execLookSlotSelect; exact ran_writeStep .. : Ran s (execLookSlotSelect by_ ctx slot s))
  | calibrationCommit by_ slot => exact (by delta execCalibrationCommit; exact ran_writeStep .. : Ran s (execCalibrationCommit by_ slot s))
  | revertStaging by_ slot value => exact (by delta execRevertStaging; exact ran_writeStep .. : Ran s (execRevertStaging by_ slot value s))
  | tableHeaderWrite by_ entry header => exact (by delta execTableHeaderWrite; exact ran_writeStep .. : Ran s (execTableHeaderWrite by_ entry header s))
  | tableDataWrite by_ entry value => exact (by delta execTableDataWrite; exact ran_writeStep .. : Ran s (execTableDataWrite by_ entry value s))
  | tableSeal by_ entry value => exact (by delta execTableSeal; exact ran_writeStep .. : Ran s (execTableSeal by_ entry value s))
  | tableGenerate by_ entry value => exact (by delta execTableGenerate; exact ran_writeStep .. : Ran s (execTableGenerate by_ entry value s))
  | colourRecordIssue ctx => exact (by delta execColourRecordIssue; exact ran_onSys .. : Ran s (execColourRecordIssue ctx s))
  | outputOrigin channel index => exact (by delta execOutputOrigin; exact ran_onSys .. : Ran s (execOutputOrigin channel index s))
  | lineFetch channel => exact (by delta execLineFetch; exact ran_onSys .. : Ran s (execLineFetch channel s))
  | lineCommitInstant channel line => exact (by delta execLineCommitInstant; exact ran_onSys .. : Ran s (execLineCommitInstant channel line s))
  | outputFrameBoundary channel => exact (by delta execOutputFrameBoundary; exact ran_onSys .. : Ran s (execOutputFrameBoundary channel s))
  | lockGroupSignal group position line reason => exact (by delta execLockGroupSignal; exact ran_onSys .. : Ran s (execLockGroupSignal group position line reason s))
  | twinSignature channel index frame signature => exact (by delta execTwinSignature; exact ran_onSys .. : Ran s (execTwinSignature channel index frame signature s))
  | sdiInputFrame input stamp rows crcLines timeCode => exact (by delta execSdiInputFrame; exact ran_onSys .. : Ran s (execSdiInputFrame input stamp rows crcLines timeCode s))
  | sdiInputState input state format => exact (by delta execSdiInputState; exact ran_onSys .. : Ran s (execSdiInputState input state format s))
  | sdiInputHoldEnd input => exact (by delta execSdiInputHoldEnd; exact ran_onSys .. : Ran s (execSdiInputHoldEnd input s))
  | edpEnable port => exact (by delta execEdpEnable; exact ran_onSys .. : Ran s (execEdpEnable port s))
  | edpDisable port => exact (by delta execEdpDisable; exact ran_onSys .. : Ran s (execEdpDisable port s))
  | edpHpdHigh port psr fast => exact (by delta execEdpHpdHigh; exact ran_onSys .. : Ran s (execEdpHpdHigh port psr fast s))
  | edpHpdTimeout port => exact (by delta execEdpHpdTimeout; exact ran_onSys .. : Ran s (execEdpHpdTimeout port s))
  | edpTrainingDone port passed => exact (by delta execEdpTrainingDone; exact ran_onSys .. : Ran s (execEdpTrainingDone port passed s))
  | edpHpdIrq port lockLost => exact (by delta execEdpHpdIrq; exact ran_onSys .. : Ran s (execEdpHpdIrq port lockLost s))
  | edpUnplug port => exact (by delta execEdpUnplug; exact ran_onSys .. : Ran s (execEdpUnplug port s))
  | st2110PacketSend stream packet late => exact (by delta execSt2110PacketSend; exact ran_onSys .. : Ran s (execSt2110PacketSend stream packet late s))
  | st2110AncSend stream => exact (by delta execSt2110AncSend; exact ran_onSys .. : Ran s (execSt2110AncSend stream s))
  | st2110AudioSend sender => exact (by delta execSt2110AudioSend; exact ran_onSys .. : Ran s (execSt2110AudioSend sender s))
  | encodePictureStart core => exact (by delta execEncodePictureStart; exact ran_onSys .. : Ran s (execEncodePictureStart core s))
  | encodePictureDone core => exact (by delta execEncodePictureDone; exact ran_onSys .. : Ran s (execEncodePictureDone core s))
  | markKeep stream mark frame => exact (by delta execMarkKeep; exact ran_onSys .. : Ran s (execMarkKeep stream mark frame s))
  | markRelease stream mark => exact (by delta execMarkRelease; exact ran_onSys .. : Ran s (execMarkRelease stream mark s))
  | recoveryRefresh stream => exact (by delta execRecoveryRefresh; exact ran_onSys .. : Ran s (execRecoveryRefresh stream s))
  | recoveryFromMark stream mark => exact (by delta execRecoveryFromMark; exact ran_onSys .. : Ran s (execRecoveryFromMark stream mark s))
  | lossReport stream mark => exact (by delta execLossReport; exact ran_onSys .. : Ran s (execLossReport stream mark s))
  | decodePictureStart core unit info => exact (by delta execDecodePictureStart; exact ran_onSys .. : Ran s (execDecodePictureStart core unit info s))
  | decodePictureDone core picture => exact (by delta execDecodePictureDone; exact ran_onSys .. : Ran s (execDecodePictureDone core picture s))
  | pictureDue ctx => exact (by delta execPictureDue; exact ran_onSys .. : Ran s (execPictureDue ctx s))
  | decodeSeek ctx => exact (by delta execDecodeSeek; exact ran_onSys .. : Ran s (execDecodeSeek ctx s))
  | rawStripeCoded unit ctx => exact (by delta execRawStripeCoded; exact ran_onSys .. : Ran s (execRawStripeCoded unit ctx s))
  | rawExpandFrameBlock channel ring => exact (by delta execRawExpandFrameBlock; exact ran_onSys .. : Ran s (execRawExpandFrameBlock channel ring s))
  | rawExpandBlock channel ring => exact (by delta execRawExpandBlock; exact ran_onSys .. : Ran s (execRawExpandBlock channel ring s))
  | compressJob channel desc input fault => exact (by delta execCompressJob; exact ran_onSys .. : Ran s (execCompressJob channel desc input fault s))
  | expandJob channel desc input fault => exact (by delta execExpandJob; exact ran_onSys .. : Ran s (execExpandJob channel desc input fault s))
  | heldTailDiscard channel => exact (by delta execHeldTailDiscard; exact ran_onSys .. : Ran s (execHeldTailDiscard channel s))
  | ringHold by_ ctx => exact (by delta execRingHold; exact ran_writeStep .. : Ran s (execRingHold by_ ctx s))
  | ringRelease by_ ctx => exact (by delta execRingRelease; exact ran_writeStep .. : Ran s (execRingRelease by_ ctx s))
  | ringExtract by_ ctx first last => exact (by delta execRingExtract; exact ran_writeStep .. : Ran s (execRingExtract by_ ctx first last s))
  | mqWrite queue entry data fault => exact (by delta execMqWrite; exact ran_onSys .. : Ran s (execMqWrite queue entry data fault s))
  | mqRead queue entry fault => exact (by delta execMqRead; exact ran_onSys .. : Ran s (execMqRead queue entry fault s))
  | mqFlush queue entry => exact (by delta execMqFlush; exact ran_onSys .. : Ran s (execMqFlush queue entry s))
  | mqBufferSpaceFreed queue => exact (by delta execMqBufferSpaceFreed; exact ran_onSys .. : Ran s (execMqBufferSpaceFreed queue s))
  | driveCommandDone drive cid sct sc data fatal => exact (by delta execDriveCommandDone; exact ran_onSys .. : Ran s (execDriveCommandDone drive cid sct sc data fatal s))
  | driveTimeout drive => exact (by delta execDriveTimeout; exact ran_onSys .. : Ran s (execDriveTimeout drive s))
  | queueRestart by_ queue => exact (by delta execQueueRestart; exact ran_queueStep .. : Ran s (execQueueRestart by_ queue s))
  | queueReset by_ queue => exact (by delta execQueueReset; exact ran_queueStep .. : Ran s (execQueueReset by_ queue s))
  | queueResetDone queue => exact (by delta execQueueResetDone; exact ran_onSys .. : Ran s (execQueueResetDone queue s))
  | cqHeadWrite queue head => exact (by delta execCqHeadWrite; exact ran_onSys .. : Ran s (execCqHeadWrite queue head s))
  | errorLogRead queue => exact (by delta execErrorLogRead; exact ran_onSys .. : Ran s (execErrorLogRead queue s))
  | volumeCreate present => exact (by delta execVolumeCreate; exact ran_onSys .. : Ran s (execVolumeCreate present s))
  | volumeAttach present => exact (by delta execVolumeAttach; exact ran_onSys .. : Ran s (execVolumeAttach present s))
  | attachDriveReady drive ok info => exact (by delta execAttachDriveReady; exact ran_onSys .. : Ran s (execAttachDriveReady drive ok info s))
  | volumeDetach => exact (by delta execVolumeDetach; exact ran_onSys .. : Ran s (execVolumeDetach s))
  | volumeRebuild => exact (by delta execVolumeRebuild; exact ran_onSys .. : Ran s (execVolumeRebuild s))
  | rebuildComplete => exact (by delta execRebuildComplete; exact ran_onSys .. : Ran s (execRebuildComplete s))
  | clipDelete clip => exact (by delta execClipDelete; exact ran_onSys .. : Ran s (execClipDelete clip s))
  | journalCommit => exact (by delta execJournalCommit; exact ran_onSys .. : Ran s (execJournalCommit s))
  | recordCheckpoint ctx => exact (by delta execRecordCheckpoint; exact ran_onSys .. : Ran s (execRecordCheckpoint ctx s))
  | playbackFeedStart ctx chunks => exact (by delta execPlaybackFeedStart; exact ran_onSys .. : Ran s (execPlaybackFeedStart ctx chunks s))
  | lostRangesClear value => exact (by delta execLostRangesClear; exact ran_onSys .. : Ran s (execLostRangesClear value s))
  | patrolScrub rank channel line requester found => exact (by delta execPatrolScrub; exact ran_onSys .. : Ran s (execPatrolScrub rank channel line requester found s))
  | rankMigrate by_ => exact (by delta execRankMigrate; exact ran_writeStep .. : Ran s (execRankMigrate by_ s))
  | migrationBlockDone mismatch poisoned => exact (by delta execMigrationBlockDone; exact ran_onSys .. : Ran s (execMigrationBlockDone mismatch poisoned s))
  | rankRetest by_ => exact (by delta execRankRetest; exact ran_writeStep .. : Ran s (execRankRetest by_ s))
  | retestDone rank errors distinct => exact (by delta execRetestDone; exact ran_onSys .. : Ran s (execRetestDone rank errors distinct s))
  | rankMarginScan by_ => exact (by delta execRankMarginScan; exact ran_writeStep .. : Ran s (execRankMarginScan by_ s))
  | marginScanDone result => exact (by delta execMarginScanDone; exact ran_onSys .. : Ran s (execMarginScanDone result s))
  | dramInitDone => exact (by delta execDramInitDone; exact ran_onSys .. : Ran s (execDramInitDone s))
  | refreshRateChange package => exact (by delta execRefreshRateChange; exact ran_onSys .. : Ran s (execRefreshRateChange package s))
  | dqsDriftCheck => exact (by delta execDqsDriftCheck; exact ran_onSys .. : Ran s (execDqsDriftCheck s))
  | trainingCacheClear by_ => exact (by delta execTrainingCacheClear; exact ran_writeStep .. : Ran s (execTrainingCacheClear by_ s))
  | audioBlock port time period samples => exact (by delta execAudioBlock; exact ran_onSys .. : Ran s (execAudioBlock port time period samples s))
  | audioClockLoss port rate => exact (by delta execAudioClockLoss; exact ran_onSys .. : Ran s (execAudioClockLoss port rate s))
  | audioClockRestored port => exact (by delta execAudioClockRestored; exact ran_onSys .. : Ran s (execAudioClockRestored port s))
  | quadratureCount channel a b => exact (by delta execQuadratureCount; exact ran_onSys .. : Ran s (execQuadratureCount channel a b s))
  | toothEdge channel b => exact (by delta execToothEdge; exact ran_onSys .. : Ran s (execToothEdge channel b s))
  | sincosSample channel sin cos => exact (by delta execSincosSample; exact ran_onSys .. : Ran s (execSincosSample channel sin cos s))
  | indexLatch channel rising => exact (by delta execIndexLatch; exact ran_onSys .. : Ran s (execIndexLatch channel rising s))
  | referenceArm channel => exact (by delta execReferenceArm; exact ran_onSys .. : Ran s (execReferenceArm channel s))
  | positionCorrect channel value => exact (by delta execPositionCorrect; exact ran_onSys .. : Ran s (execPositionCorrect channel value s))
  | positionShift channel value => exact (by delta execPositionShift; exact ran_onSys .. : Ran s (execPositionShift channel value s))
  | probeLatch channel rising => exact (by delta execProbeLatch; exact ran_onSys .. : Ran s (execProbeLatch channel rising s))
  | probeFifoRead channel => exact (by delta execProbeFifoRead; exact ran_onSys .. : Ran s (execProbeFifoRead channel s))
  | speedUpdate channel => exact (by delta execSpeedUpdate; exact ran_onSys .. : Ran s (execSpeedUpdate channel s))
  | stopTimeout channel => exact (by delta execStopTimeout; exact ran_onSys .. : Ran s (execStopTimeout channel s))
  | positionClearFlags channel => exact (by delta execPositionClearFlags; exact ran_onSys .. : Ran s (execPositionClearFlags channel s))
  | mbGo mailbox message wake => exact (by delta execMbGo; exact ran_onSys .. : Ran s (execMbGo mailbox message wake s))
  | mbAccept mailbox => exact (by delta execMbAccept; exact ran_onSys .. : Ran s (execMbAccept mailbox s))
  | mbPop mailbox => exact (by delta execMbPop; exact ran_onSys .. : Ran s (execMbPop mailbox s))
  | mbCancel mailbox => exact (by delta execMbCancel; exact ran_onSys .. : Ran s (execMbCancel mailbox s))
  | relayForward pair => exact (by delta execRelayForward; exact ran_onSys .. : Ran s (execRelayForward pair s))
  | epPerstAssert => exact (by delta execEpPerstAssert; exact ran_onSys .. : Ran s (execEpPerstAssert s))
  | standbyCommand => exact (by delta execStandbyCommand; exact ran_onSys .. : Ran s (execStandbyCommand s))
  | standbyFramesDrained => exact (by delta execStandbyFramesDrained; exact ran_onSys .. : Ran s (execStandbyFramesDrained s))
  | standbyFlushDone => exact (by delta execStandbyFlushDone; exact ran_onSys .. : Ran s (execStandbyFlushDone s))
  | domainWait domain off => exact (by delta execDomainWait; exact ran_onSys .. : Ran s (execDomainWait domain off s))
  | domainExitDone domain => exact (by delta execDomainExitDone; exact ran_onSys .. : Ran s (execDomainExitDone domain s))
  | activeCommand => exact (by delta execActiveCommand; exact ran_onSys .. : Ran s (execActiveCommand s))
  | dormantCommand => exact (by delta execDormantCommand; exact ran_onSys .. : Ran s (execDormantCommand s))
  | wakeFrameWake port frame boot => exact (by delta execWakeFrameWake; exact ran_onSys .. : Ran s (execWakeFrameWake port frame boot s))
  | wakeFramePing port frame => exact (by delta execWakeFramePing; exact ran_onSys .. : Ran s (execWakeFramePing port frame s))
  | wakeTioEdge ball falling boot => exact (by delta execWakeTioEdge; exact ran_onSys .. : Ran s (execWakeTioEdge ball falling boot s))
  | wakeAlarm boot => exact (by delta execWakeAlarm; exact ran_onSys .. : Ran s (execWakeAlarm boot s))
  | wakeEpPerst boot => exact (by delta execWakeEpPerst; exact ran_onSys .. : Ran s (execWakeEpPerst boot s))
  | coreSensorSample sensor reading => exact (by delta execCoreSensorSample; exact ran_onSys .. : Ran s (execCoreSensorSample sensor reading s))
  | dramSensorSample package reading => exact (by delta execDramSensorSample; exact ran_onSys .. : Ran s (execDramSensorSample package reading s))
  | tspSample reading => exact (by delta execTspSample; exact ran_onSys .. : Ran s (execTspSample reading s))
  | thermalLoopTick => exact (by delta execThermalLoopTick; exact ran_onSys .. : Ran s (execThermalLoopTick s))
  | tripHoldCheck boot => exact (by delta execTripHoldCheck; exact ran_onSys .. : Ran s (execTripHoldCheck boot s))
  | garosLinkHello link die straps size fwHash => exact (by delta execGarosLinkHello; exact ran_onSys .. : Ran s (execGarosLinkHello link die straps size fwHash s))
  | garosControlFrame link seq ack kind body checkOk => exact (by delta execGarosControlFrame; exact ran_run .. : Ran s (execGarosControlFrame link seq ack kind body checkOk s))
  | garosControlResend link => exact (by delta execGarosControlResend; exact ran_onSys .. : Ran s (execGarosControlResend link s))
  | garosStoreFrame link seq ctx frame groups last checkOk => exact (by delta execGarosStoreFrame; exact ran_onSys .. : Ran s (execGarosStoreFrame link seq ctx frame groups last checkOk s))
  | garosWindowFrame link seq address access checkOk => exact (by delta execGarosWindowFrame; exact ran_onSys .. : Ran s (execGarosWindowFrame link seq address access checkOk s))
  | garosMarkerSend link => exact (by delta execGarosMarkerSend; exact ran_onSys .. : Ran s (execGarosMarkerSend link s))
  | garosTimeMarker link sent partnerReceived partnerSent received => exact (by delta execGarosTimeMarker; exact ran_onSys .. : Ran s (execGarosTimeMarker link sent partnerReceived partnerSent received s))
  | marionetteSend link => exact (by delta execMarionetteSend; exact ran_onSys .. : Ran s (execMarionetteSend link s))
  | marionetteReceive link heartbeat => exact (by delta execMarionetteReceive; exact ran_onSys .. : Ran s (execMarionetteReceive link heartbeat s))
  | marionetteMiss link => exact (by delta execMarionetteMiss; exact ran_onSys .. : Ran s (execMarionetteMiss link s))
  | partnerLinkDownTimeout link => exact (by delta execPartnerLinkDownTimeout; exact ran_onSys .. : Ran s (execPartnerLinkDownTimeout link s))
  | partnerHeartbeatSilent => exact (by delta execPartnerHeartbeatSilent; exact ran_onSys .. : Ran s (execPartnerHeartbeatSilent s))
  | partnerLost link => exact (by delta execPartnerLost; exact ran_onSys .. : Ran s (execPartnerLost link s))
  | takeoverInstant => exact (by delta execTakeoverInstant; exact ran_onSys .. : Ran s (execTakeoverInstant s))
  | twinTakeover by_ => exact (by delta execTwinTakeover; exact ran_writeStep .. : Ran s (execTwinTakeover by_ s))
  | twinResync by_ => exact (by delta execTwinResync; exact ran_writeStep .. : Ran s (execTwinResync by_ s))
  | mirroredUnit number live unit => exact (by delta execMirroredUnit; exact ran_run .. : Ran s (execMirroredUnit number live unit s))
  | generationClose ctx frame => exact (by delta execGenerationClose; exact ran_onSys .. : Ran s (execGenerationClose ctx frame s))
  | standbyNotice link => exact (by delta execStandbyNotice; exact ran_onSys .. : Ran s (execStandbyNotice link s))
  | arrayFormationTimeout => exact (by delta execArrayFormationTimeout; exact ran_onSys .. : Ran s (execArrayFormationTimeout s))
  | twinFormationWindow => exact (by delta execTwinFormationWindow; exact ran_onSys .. : Ran s (execTwinFormationWindow s))
  | felleyLinkHello role lanes die twinState twinIndex node => exact (by delta execFelleyLinkHello; exact ran_onSys .. : Ran s (execFelleyLinkHello role lanes die twinState twinIndex node s))
  | felleyControlFrame seq ack kind body checkOk => exact (by delta execFelleyControlFrame; exact ran_onSys .. : Ran s (execFelleyControlFrame seq ack kind body checkOk s))
  | felleyControlResend => exact (by delta execFelleyControlResend; exact ran_onSys .. : Ran s (execFelleyControlResend s))
  | felleyStreamSend stream => exact (by delta execFelleyStreamSend; exact ran_onSys .. : Ran s (execFelleyStreamSend stream s))
  | felleyStreamFrame stream seq first last payload checkOk => exact (by delta execFelleyStreamFrame; exact ran_onSys .. : Ran s (execFelleyStreamFrame stream seq first last payload checkOk s))
  | felleyFrameInfo stream info => exact (by delta execFelleyFrameInfo; exact ran_onSys .. : Ran s (execFelleyFrameInfo stream info s))
  | felleyTimeMarker sent partnerReceived partnerSent received => exact (by delta execFelleyTimeMarker; exact ran_onSys .. : Ran s (execFelleyTimeMarker sent partnerReceived partnerSent received s))
  | upstreamManifestTimeout ctx => exact (by delta execUpstreamManifestTimeout; exact ran_onSys .. : Ran s (execUpstreamManifestTimeout ctx s))
  | felleyCalibrate by_ => exact (by delta execFelleyCalibrate; exact ran_writeStep .. : Ran s (execFelleyCalibrate by_ s))
  | felleyCalibrationDone => exact (by delta execFelleyCalibrationDone; exact ran_onSys .. : Ran s (execFelleyCalibrationDone s))
  | felleyRestart by_ => exact (by delta execFelleyRestart; exact ran_writeStep .. : Ran s (execFelleyRestart by_ s))
  | selfTestReplica system => exact (by delta execSelfTestReplica; exact ran_onSys .. : Ran s (execSelfTestReplica system s))
  | selfTestTroupe troupe => exact (by delta execSelfTestTroupe; exact ran_onSys .. : Ran s (execSelfTestTroupe troupe s))
  | selfTestRfe rfe => exact (by delta execSelfTestRfe; exact ran_onSys .. : Ran s (execSelfTestRfe rfe s))
  | selfTestFuse => exact (by delta execSelfTestFuse; exact ran_onSys .. : Ran s (execSelfTestFuse s))
  | selfTestMram => exact (by delta execSelfTestMram; exact ran_onSys .. : Ran s (execSelfTestMram s))
  | selfTestSensors => exact (by delta execSelfTestSensors; exact ran_onSys .. : Ran s (execSelfTestSensors s))
  | selfTestLoopback quad => exact (by delta execSelfTestLoopback; exact ran_onSys .. : Ran s (execSelfTestLoopback quad s))
  | selfTestDone passed detail => exact (by delta execSelfTestDone; exact ran_onSys .. : Ran s (execSelfTestDone passed detail s))
  | eventLogWrite => exact (by delta execEventLogWrite; exact ran_onSys .. : Ran s (execEventLogWrite s))
  | eventRecordRead by_ many => exact (by delta execEventRecordRead; exact ran_onSys .. : Ran s (execEventRecordRead by_ many s))
  | eventCursorWrite by_ cursor => exact (by delta execEventCursorWrite; exact ran_writeStep .. : Ran s (execEventCursorWrite by_ cursor s))
  | eventAcknowledge by_ => exact (by delta execEventAcknowledge; exact ran_writeStep .. : Ran s (execEventAcknowledge by_ s))
  | eventErase by_ => exact (by delta execEventErase; exact ran_writeStep .. : Ran s (execEventErase by_ s))
  | interruptPendingRead by_ which => exact (by delta execInterruptPendingRead; exact ran_onSys .. : Ran s (execInterruptPendingRead by_ which s))
  | resetNRise boot => exact (by delta execResetNRise; exact ran_onSys .. : Ran s (execResetNRise boot s))
  | warmResetComplete => exact (by delta execWarmResetComplete; exact ran_run .. : Ran s (execWarmResetComplete s))
  | domainResetComplete domain => exact (by delta execDomainResetComplete; exact ran_onSys .. : Ran s (execDomainResetComplete domain s))
  | overvoltageEpisodeStart vin => exact (by delta execOvervoltageEpisodeStart; exact ran_onSys .. : Ran s (execOvervoltageEpisodeStart vin s))
  | railOutOfRegulation => exact (by delta execRailOutOfRegulation; exact ran_onSys .. : Ran s (execRailOutOfRegulation s))
  | referenceRestored reference => exact (by delta execReferenceRestored; exact ran_onSys .. : Ran s (execReferenceRestored reference s))
  | driveLinkDown drive => exact (by delta execDriveLinkDown; exact ran_onSys .. : Ran s (execDriveLinkDown drive s))
  | dhcpv4Lease address => exact (by delta execDhcpv4Lease; exact ran_onSys .. : Ran s (execDhcpv4Lease address s))
  | endpointLinkUp => exact (by delta execEndpointLinkUp; exact ran_onSys .. : Ran s (execEndpointLinkUp s))
  | edpBacklightOn port => exact (by delta execEdpBacklightOn; exact ran_onSys .. : Ran s (execEdpBacklightOn port s))

end Sys2Proof.Machine
end

