-- ==== Sys2Proof/Tests/Slice0.lean ====
section
/-!
SUPPORT. Sys2Proof/Tests/Slice0.lean: the author's tests: commands that cannot arrive, the queue, published check values, and for every statement
with hypotheses a state and operands that meet them.
-/

namespace Sys2Proof.Tests

open Sys2Proof.Machine

set_option Elab.async false

/-! ## States to test on -/

/-- The state after reset with some entries of the dictionary at other values. -/
def put (l : List (Nat × Nat)) : State := { State.reset with sys := l.foldl (fun y p => y.wr p.1 p.2) State.reset.sys }

/-- A state with its working part changed. -/
def on (s : State) (f : Sys → Sys) : State := { s with sys := f s.sys }

/-- The state after reset with its working part changed. -/
def sys (f : Sys → Sys) : State := on State.reset f

/-- The state after reset in another phase. -/
def inPhase (p : BootPhase) : State := sys fun y => { y with boot := { y.boot with phase := p } }

/-- A wake frame of the 16 bits of `w` (R658). -/
def wakeOf (w : Nat) : WakeFrame :=
  ⟨(List.range 16).map fun i => if w.testBit (15 - i) then 6000 else 2000, List.replicate 15 20000⟩

/-- A dictionary without the delivered certificate, whose signature is a free value. -/
def plain (g : Gen) : Gen := { g with blobs := g.blobs.filter fun p => p.1 != ent 0x1000 2 }

/-- A stripe that waits. -/
def stripe0 : Stripe := ⟨0, .waiting, false, none, none, 0, 0, false, false, 0⟩

/-- A frame of context `x` under the reset parameters, with the stripes `l`. -/
def frame0 (x : Nat) (l : List Stripe) : Frame :=
  { newFrame State.reset.sys ⟨x, 5, 0, 0, [], none, none, [], 0, [], [], [], true⟩ (plain State.reset.sys.view) [] false false false false with stripes := l }

/-- The state after reset with frames in flight. -/
def flying (l : List Frame) : State := sys fun y => { y with frames := l }

/-- The state after reset with engine 0 in a group. -/
def running (f : Engine → Engine) : State := sys fun y => y.setEngine 0 (f { engine0 with busy := true, frame := 5 })

/-- A context's dictionary with four lines of a sensor frame, and binding 0 enabled. -/
def gen4 : Gen := plain (on (put [(ent 0x3000 5, 8), (ent 0x3000 6, 4), (ent 0x3400 9, 1)]) fun y => y.wrB (ent 0x3820 1) (List.replicate 13 0 ++ [1, 0, 0])).sys.view

/-- A frame of context 0 with four lines, of which ingest group 0 is to bring all. -/
def frame4 (g : FrameGroup) : Frame := { frame0 0 [] with gen := gen4, groups := [g], complete := false }

/-- The writer with every right but Kilvan's. -/
def cust : Writer := ⟨0, .custodian, 1⟩

/-- A trailer without its code: session and counter. -/
def trail (sid n : Nat) : Bytes := le 2 sid ++ le 4 n

/-- A frame by mailbox to this module from node 1, with tag 7: its body `b` and the code `mac` behind it (R139 to R142). -/
def sent (func : Nat) (mac b : Bytes) : DenvalFrame :=
  ⟨.mailbox, 0, BitVec.ofNat 32 (func * 2 ^ 24 + State.reset.sys.node * 2 ^ 17 + 2 ^ 10 + 7), b ++ mac⟩

/-- The code of a frame of session 0, which no one checks. -/
def noMac : Bytes := List.replicate 8 0

/-- The body of a request up to its code (R142). -/
def reqBody (op gtag k : Nat) (v : Bytes) (sid : Nat) : Bytes :=
  le 2 (v.length + 24) ++ le 1 op ++ le 1 gtag ++ le 2 (k / 256) ++ le 1 (k % 256) ++ [0] ++ le 2 v.length ++ v ++ trail sid 1

/-- A custodian's session 1 by mailbox, with key 0 both ways. -/
def sess1 : Session :=
  { id := 1, established := true, path := 1, source := 0, node := 1, role := .custodian, credential := 1, transcript := [], keyIn := [], keyOut := [],
    proofA := none, counterIn := 0, counterOut := 0, helloAt := 0, lastFrame := 0, idleTimeout := 10, authFails := [], group := none, cursor := 0 }

/-- The state after reset with session `u`. -/
def withSession (u : Session) : State := sys fun y => { y with den := { y.den with sessions := [u] } }

/-- The request a frame gives. -/
def reqOf (s : State) (f : DenvalFrame) (h : (s.sys.takeFrame f).1.isSome = true) : Req := (s.sys.takeFrame f).1.get h

/-- A frame that its path and its session take. -/
theorem accepted_of {f : DenvalFrame} {s : State} {sid n : Nat} {role : Role} (h : (s.sys.takeFrame f).1.isSome = true)
    (h2 : ((s.sys.takeFrame f).2.authenticate (reqOf s f h)).1 = some (sid, role, n)) :
    Accepted f s (reqOf s f h) sid role n ((s.sys.takeFrame f).2.authenticate (reqOf s f h)).2 :=
  ⟨(s.sys.takeFrame f).2, Prod.ext (Option.some_get h).symm rfl, Prod.ext h2 rfl⟩

/-- A frame that its path takes. -/
theorem arrives_of {f : DenvalFrame} {s : State} (h : (s.sys.takeFrame f).1.isSome = true) : Arrives f s (reqOf s f h) (s.sys.takeFrame f).2 :=
  Prod.ext (Option.some_get h).symm rfl

/-- A read that answers OK. -/
theorem ok_of {p : Status × Bytes × Sys} (h : p.1 = .ok) : p = (.ok, p.2.1, p.2.2) := Prod.ext h rfl

/-- The neutral point as a public key: R = this and S = 0 is a signature of any message under it. -/
def idKey : Bytes := 1 :: List.replicate 31 0

/-- Credential 1 of a custodian, under a root `idKey`. -/
def cred1 : Bytes :=
  [0x4B, 0x43, 0x52, 0x31, 1, 0, 0, 0, 3, 0, 0, 0] ++ List.replicate 20 0 ++ idKey ++ idKey ++ List.replicate 32 0

/-- The state after reset with a customer root, in life-cycle state 3. -/
def rooted (f : Sys → Sys) : State := { sys f with otp := { State.reset.otp with stateFuses := [1, 2, 3], root := some idKey } }

/-- A frame of an established session, whose code is right and whose counter is ahead. -/
theorem signed_of {f : DenvalFrame} {s : State} (u : Session) (h : (s.sys.takeFrame f).1.isSome = true)
    (hu : (reqOf s f h).session ≠ 0 ∧ ((s.sys.takeFrame f).2.session? (reqOf s f h).session).filter (·.established) = some u ∧
      u.path = (reqOf s f h).path ∧ u.source = (reqOf s f h).source ∧ u.counterIn < (reqOf s f h).counter)
    (hm : macOf u.keyIn (reqOf s f h).word ((reqOf s f h).body.take ((reqOf s f h).body.length - 8)) = (reqOf s f h).mac) :
    Accepted f s (reqOf s f h) u.id u.role (reqOf s f h).counter
      ((s.sys.takeFrame f).2.setSession { u with counterIn := (reqOf s f h).counter, lastFrame := (s.sys.takeFrame f).2.up }) := by
  obtain ⟨h0, h1, h2, h3, h4⟩ := hu
  refine ⟨(s.sys.takeFrame f).2, Prod.ext (Option.some_get h).symm rfl, ?_⟩
  simp only [Sys.authenticate, if_neg h0, h1]
  rw [if_neg (by simp [h2, h3]), if_neg (by simp [hm]), if_neg (by omega)]

/-! ## Commands that cannot arrive -/

theorem test_wf_training_identities : (Instr.dramTrainingComplete [] 0 0 true 0 0).wf = false := by decide
theorem test_wf_mailbox_frame : (Instr.denvalRead ⟨.mailbox, 0, 0, List.replicate 61 0⟩).wf = false := by decide
theorem test_wf_can_identifier : (Instr.denvalWrite ⟨.can 0 true false, 0, 0x20000000, []⟩).wf = false := by decide
theorem test_wf_can_payload : (Instr.denvalWrite ⟨.can 0 true false, 0, 0, List.replicate 65 0⟩).wf = false := by decide
theorem test_wf_sensor_bytes : (Instr.frameStartAccept 0 ⟨0, 0, 0, 0, 0, 0, 0, 0, 0, false, 0, [], 0, []⟩).wf = false := by decide
theorem test_wf_compress_descriptor : (Instr.compressJob 0 [] [] false).wf = false := by decide
theorem test_wf_expand_descriptor : (Instr.expandJob 0 [] [] false).wf = false := by decide
theorem test_wf_queue_write : (Instr.mqWrite 0 [] [] false).wf = false := by decide
theorem test_wf_queue_read : (Instr.mqRead 0 [] false).wf = false := by decide
theorem test_wf_queue_flush : (Instr.mqFlush 0 []).wf = false := by decide
theorem test_wf_mailbox_message : (Instr.mbGo 0 (List.replicate 65 0) false).wf = false := by decide
theorem test_wf_wake_gaps : (Instr.wakeFramePing 0 ⟨[6000, 2000], []⟩).wf = false := by decide
theorem test_wf_wake_boot : (Instr.wakeFrameWake 0 ⟨[6000], [1]⟩ ⟨0, 0, []⟩).wf = false := by decide
theorem test_wf_link_hello : (Instr.garosLinkHello 0 0 0 0 []).wf = false := by decide
theorem test_wf_store_group : (Instr.garosStoreFrame 0 0 0 0 [⟨0, 0, 0, 0, []⟩] true true).wf = false := by decide
theorem test_wf_heartbeat : (Instr.marionetteReceive 0 []).wf = false := by decide
theorem test_wf_frame_info : (Instr.felleyFrameInfo 0 []).wf = false := by decide
theorem test_wf_good_frame : (Instr.denvalRead ⟨.mailbox, 0, 0, List.replicate 60 0⟩).wf = true := by decide

/-! ## The queue, the tick and published check values -/

/-- The oldest command runs first, and the other waits. -/
theorem test_step_first : ((match step { State.reset with pending := [.mbPop 0, .mbPop 1] } with | .next t => t.pending | _ => []) =
    [.mbPop 1]) := by decide +kernel

/-- On an empty queue 2 ns go by. -/
theorem test_step_tick : ((match step State.reset with | .next t => t.sys.up | _ => 0) = 2) := by decide +kernel

/-- R658: 0x1221 is a wake word for address 0x12, a wrong check nibble is refused for reason 2. -/
theorem test_wake_word : wakeWord (wakeOf 0x1221) = .inr 0x1221 ∧ wakeWord (wakeOf 0x1220) = .inl 2 := by decide +kernel

/-- FIPS 180-4: SHA-256 of "abc", its first four octets. -/
theorem test_sha256 : (sha256 [0x61, 0x62, 0x63]).take 4 = [0xBA, 0x78, 0x16, 0xBF] := by decide +kernel

/-- The check value of CRC-32C: "123456789". -/
theorem test_crc : crcNat [0x31, 0x32, 0x33, 0x34, 0x35, 0x36, 0x37, 0x38, 0x39] = 0xE3069283 := by decide +kernel

/-- IEEE 754: 1 + 2 = 3, and a subnormal operand counts as zero (R347). -/
theorem test_fadd : fadd 0x3F800000 0x40000000 = 0x40400000 ∧ fadd 0x3F800000 0x00000001 = 0x3F800000 := by decide +kernel

/-- FIPS 197: the S-box at 00 and at 53, and MixColumns on the first column D4 BF 5D 30 of Appendix B. -/
theorem test_aes_sbox : sboxOf 0 = 0x63 ∧ sboxOf 0x53 = 0xED := by decide +kernel
theorem test_aes_columns : (mixColumns ([0xD4, 0xBF, 0x5D, 0x30] ++ List.replicate 12 0)).take 4 = [0x04, 0x66, 0x81, 0xE5] := by decide +kernel

/-! ## The hypotheses of the statements can be met

Each theorem gives, for every clause of a statement that has hypotheses, a state and operands that meet them all together. -/

/-- With all sensors but 62 and 63 excluded, 62 is the one valid neighbour of 63. -/
theorem peers_of_63 :
    (((on (put [(ent 0x2101 8, 2 ^ 62 - 1)]) fun y => { y with thermal := { y.thermal with runs := [(63, ⟨99, 0, 0⟩)] } }).sys).peers 63).map
      ((on (put [(ent 0x2101 8, 2 ^ 62 - 1)]) fun y => { y with thermal := { y.thermal with runs := [(63, ⟨99, 0, 0⟩)] } }).sys).sensor = [0] := by decide +kernel

/-- States and operands that meet the hypotheses of AnEmptyQueueTicks, clause by clause. -/
theorem witness_AnEmptyQueueTicks :
    ∃ (s : State), s.pending = [] :=
  ⟨State.reset, by decide +kernel⟩

/-- States and operands that meet the hypotheses of TheQueueRunsInItsOrder, clause by clause. -/
theorem witness_TheQueueRunsInItsOrder :
    ∃ (s : State) (k : Nat), k ≤ s.pending.length :=
  ⟨State.reset, 0, by decide +kernel⟩

/-- States and operands that meet the hypotheses of FusesStayLegalAndOnlyGrow, clause by clause. -/
theorem witness_FusesStayLegalAndOnlyGrow :
    ∃ (s : State) (t : State), step s = .next t :=
  ⟨State.reset, (tick State.reset), by rfl⟩

/-- States and operands that meet the hypotheses of TheEventBufferHolds256Records, clause by clause. -/
theorem witness_TheEventBufferHolds256Records :
    (∃ (y : Sys), y.log.pending.length < 256) ∧
    (∃ (y : Sys), 256 ≤ y.log.pending.length) ∧
    (∃ (y : Sys) (key : Nat) (code : Nat), y.limitedNow code key = true) ∧
    (∃ (s : State) (r : EventRecord) (rest : List EventRecord), s.sys.boot.phase = .running ∧ s.sys.log.pending = r :: rest ∧ rest.length < 256 ∧
      s.sys.log.dropped ≠ 0) :=
  ⟨⟨State.reset.sys, by decide +kernel⟩,
  ⟨{ State.reset.sys with log := ⟨List.replicate 256 ⟨0, 1, 0, 255, []⟩, 0, []⟩ }, by decide +kernel⟩,
  ⟨{ State.reset.sys with up := 99999999, log := ⟨[], 0, [(limitKey 0x0403 1, 0)]⟩ }, 1, 0x0403, by decide +kernel⟩,
  ⟨(sys fun y => { y with log := ⟨List.replicate 256 ⟨0, 1, 0, 255, []⟩, 1, []⟩ }), ⟨0, 1, 0, 255, []⟩, List.replicate 255 ⟨0, 1, 0, 255, []⟩,
    by decide +kernel⟩⟩

/-- States and operands that meet the hypotheses of TheSkipCountIsTheLargestRequest, clause by clause. -/
theorem witness_TheSkipCountIsTheLargestRequest :
    ∃ (s : State), s.sys.rd (ent 0x2202 1) ≠ 0 ∧ (∀ r, s.sys.rd (floorKey r) ≤ s.sys.rd (railKey r)) :=
  ⟨(put [(ent 0x2202 1, 1)]), by decide +kernel, fun r => by cases r <;> decide +kernel⟩

/-- States and operands that meet the hypotheses of AFullAudioBufferDiscardsWhatArrives, clause by clause. -/
theorem witness_AFullAudioBufferDiscardsWhatArrives :
    ∃ (y : Sys) (n : Nat), (y.aout n).buf.length ≤ 8192 :=
  ⟨State.reset.sys, 0, by decide +kernel⟩

/-- States and operands that meet the hypotheses of TheWarningLevelStaysBelowTheSupply, clause by clause. -/
theorem witness_TheWarningLevelStaysBelowTheSupply :
    ∃ (s : State) (n : BitVec 16), s.sys.rd (ent 0x2001 1) ≠ 0 ∧ s.sys.rd (ent 0x2001 1) ≤ n.toNat + 30 :=
  ⟨(put [(ent 0x2001 1, 1200)]), 1170, by decide +kernel⟩

/-- States and operands that meet the hypotheses of SupplyEpisodesFlagLogAndHandBack, clause by clause. -/
theorem witness_SupplyEpisodesFlagLogAndHandBack :
    (∃ (s : State), s.sys.rdBit (ent 0x2001 4) 0 = false ∧ Room s) ∧
    (∃ (s : State), s.sys.rdBit (ent 0x2001 4) 0 = true) ∧
    (∃ (vin : BitVec 16), 6000 < vin.toNat) ∧
    (∃ (s : State), s.sys.sup.ovMax ≠ 0 ∧ Room s) ∧
    (∃ (s : State), s.sys.gov.limited = false) ∧
    (∃ (s : State), s.sys.gov.limited = true ∧ Room s) ∧
    (∃ (s : State), s.sys.sup.holdUp = true ∧ s.sys.boot.phase = .supplyReset) :=
  ⟨⟨State.reset, by simp only [Room]; decide +kernel⟩,
  ⟨(put [(ent 0x2001 4, 1)]), by decide +kernel⟩,
  ⟨6001, by decide +kernel⟩,
  ⟨(sys fun y => { y with sup := { y.sup with ovMax := 6100 } }), by simp only [Room]; decide +kernel⟩,
  ⟨State.reset, by decide +kernel⟩,
  ⟨(sys fun y => { y with gov := { y.gov with limited := true } }), by simp only [Room]; decide +kernel⟩,
  ⟨(on (inPhase .supplyReset) fun y => { y with sup := { y.sup with holdUp := true } }), by decide +kernel⟩⟩

/-- States and operands that meet the hypotheses of PowerRequestsFollowTheirReadings, clause by clause. -/
theorem witness_PowerRequestsFollowTheirReadings :
    ∃ (s : State), s.sys.rdBit (ent 0x2001 4) 0 = true ∧ Room s ∧ s.sys.sup.kCap ≤ 12 :=
  ⟨(on (put [(ent 0x2001 4, 1)]) fun y => { y with sup := { y.sup with kCap := 12 } }), by simp only [Room]; decide +kernel⟩

/-- States and operands that meet the hypotheses of ResetsBeginWithTheirCausesAndEndInService, clause by clause. -/
theorem witness_ResetsBeginWithTheirCausesAndEndInService :
    (∃ (s : State), s.sys.boot.phase ≠ .off ∧ s.sys.boot.phase ≠ .supplyReset) ∧
    (∃ (s : State), s.sys.boot.phase ≠ .off ∧ s.sys.boot.phase ≠ .supplyReset) ∧
    (∃ (s : State), s.sys.boot.phase = .running) ∧
    (∃ (s : State), s.sys.boot.resetNLow = true ∧ (s.sys.boot.phase = .warmReset ∨ s.sys.boot.phase = .coldReset)) ∧
    (∃ (s : State), s.sys.boot.phase = .running) ∧
    (∃ (s : State), s.sys.boot.phase = .running) ∧
    (∃ (s : State) (ids : Bytes) (firmware : BitVec 32) (band : Fin 4) (ok : Bool) (failed : BitVec 36) (ms : BitVec 32), s.sys.boot.phase =
      .training ∧ ids.length = 72 ∧ let fault := s.sys.cacheFault s.otp ids firmware.toNat band.val ok;
      let bad (p : Nat) : Bool := fault.isSome && failed.toNat / 16 ^ p % 16 != 0;
      let y := s.sys.takeTraining s.otp ids firmware.toNat band.val failed.toNat ms.toNat fault bad; y.ranksMapped bad = true) ∧
    (∃ (s : State) (ids : Bytes) (firmware : BitVec 32) (band : Fin 4) (ok : Bool) (failed : BitVec 36) (ms : BitVec 32), s.sys.boot.phase =
      .training ∧ ids.length = 72 ∧ let fault := s.sys.cacheFault s.otp ids firmware.toNat band.val ok;
      let bad (p : Nat) : Bool := fault.isSome && failed.toNat / 16 ^ p % 16 != 0;
      let y := s.sys.takeTraining s.otp ids firmware.toNat band.val failed.toNat ms.toNat fault bad; y.ranksMapped bad = false) ∧
    (∃ (s : State) (ids : Bytes) (firmware : BitVec 32) (band : Fin 4), s.sys.mram.training.lookup band.val = some (s.otp.dieId, ids,
      firmware.toNat)) ∧
    (∃ (s : State), s.sys.boot.phase = .warmReset ∧ s.sys.boot.resetNLow = false ∧ s.sys.boot.warmFrom = .running) ∧
    (∃ (s : State), s.sys.boot.phase = .warmReset ∧ s.sys.boot.resetNLow = false ∧ s.sys.boot.warmFrom ≠ .running ∧ s.sys.boot.warmFrom ≠ .dormant)
      :=
  ⟨⟨State.reset, by decide +kernel⟩,
  ⟨State.reset, by decide +kernel⟩,
  ⟨State.reset, by decide +kernel⟩,
  ⟨(on (inPhase .coldReset) fun y => { y with boot := { y.boot with resetNLow := true } }), by decide +kernel⟩,
  ⟨State.reset, by decide +kernel⟩,
  ⟨State.reset, by decide +kernel⟩,
  ⟨(inPhase .training), List.replicate 72 0, 0, 0, false, 0, 0, by dsimp only; decide +kernel⟩,
  ⟨(inPhase .training), List.replicate 72 0, 0, 0, false, 2 ^ 36 - 1, 0, by dsimp only; decide +kernel⟩,
  ⟨(sys fun y => { y with mram := { y.mram with training := [(3, 0, List.replicate 72 0, 7)] } }), List.replicate 72 0, 7, 3, by decide +kernel⟩,
  ⟨(inPhase .warmReset), by decide +kernel⟩,
  ⟨(on (inPhase .warmReset) fun y => { y with boot := { y.boot with warmFrom := .training } }), by decide +kernel⟩⟩

/-- States and operands that meet the hypotheses of PowerUpRunsFromItsCause, clause by clause. -/
theorem witness_PowerUpRunsFromItsCause :
    (∃ (s : State) (vin : BitVec 16), s.sys.sup.inputOpen = false ∧ (s.sys.boot.phase = .off ∨ s.sys.boot.phase = .supplyReset) ∧ 900 ≤ vin.toNat ∧
      s.sys.mram.tripped = none) ∧
    (∃ (s : State), s.sys.boot.phase = .running) ∧
    (∃ (s : State), s.sys.boot.phase = .coldReset) ∧
    (∃ (b : BootInputs), b.pins.getLsbD 5 = true) ∧
    (∃ (s : State) (image : Firmware), s.sys.boot.phase = .waitImage ∧ imageFault s.otp image = none) ∧
    (∃ (s : State), s.sys.boot.phase = .waitImage ∧ s.sys.boot.imageTimeout = false ∧ Room s) ∧
    (∃ (s : State) (image : Firmware) (r : Nat), s.sys.boot.phase = .waitImage ∧ imageFault s.otp image = some r ∧ Room s) ∧
    (∃ (s : State) (vin : BitVec 16), s.sys.sup.inputOpen = false ∧ (s.sys.boot.phase = .off ∨ s.sys.boot.phase = .supplyReset) ∧ 900 ≤ vin.toNat ∧
      s.sys.mram.tripped ≠ none) ∧
    (∃ (b : BootInputs), b.fails = []) :=
  ⟨⟨(inPhase .off), 900, by decide +kernel⟩,
  ⟨State.reset, by decide +kernel⟩,
  ⟨(inPhase .coldReset), by decide +kernel⟩,
  ⟨⟨0x20, 0, []⟩, by decide +kernel⟩,
  ⟨{ (inPhase .waitImage) with otp := { State.reset.otp with kilvanKeyHash := sha256 idKey } }, ⟨0, [7], idKey, idKey ++ List.replicate 32 0⟩,
    by decide +kernel⟩,
  ⟨(inPhase .waitImage), by simp only [Room]; decide +kernel⟩,
  ⟨(inPhase .waitImage), ⟨0, [], [], []⟩, 2, by simp only [Room]; decide +kernel⟩,
  ⟨(on (inPhase .supplyReset) fun y => { y with mram := { y.mram with tripped := some (0, 11000) } }), 900, by decide +kernel⟩,
  ⟨⟨0, 0, []⟩, by decide +kernel⟩⟩

/-- States and operands that meet the hypotheses of GovernorMovesTheRails, clause by clause. -/
theorem witness_GovernorMovesTheRails :
    (∃ (s : State), s.sys.rd (ent 0x2200 1) = 0 ∧ s.sys.gov.limited = false ∧ (∀ r, (s.sys.rail r).watches = []) ∧ (∀ r, s.sys.rd (railKey r) ≤
      s.sys.rd (ceilKey r))) ∧
    (∃ (s : State) (w : Writer) (system : Bool) (value : BitVec 16), s.sys.govFixed = false ∧ let r := if system then RailName.s else RailName.t;
      Admitted s w (ceilKey r) (le 2 value.toNat)) ∧
    (∃ (s : State) (r : RailName) (n : Nat), n < 65536 ∧ (n < 6000 ∨ 9500 < n ∨ n % 25 ≠ 0 ∨ n < s.sys.rd (floorKey r))) :=
  ⟨⟨State.reset, by decide +kernel, by decide +kernel, fun r => by cases r <;> decide +kernel, fun r => by cases r <;> decide +kernel⟩,
  ⟨State.reset, cust, false, 8000, by dsimp only; simp only [Admitted]; decide +kernel⟩,
  ⟨State.reset, .t, 9501, by decide +kernel⟩⟩

/-- States and operands that meet the hypotheses of ThermalLoopsAndSensorsFollowTheirReadings, clause by clause. -/
theorem witness_ThermalLoopsAndSensorsFollowTheirReadings :
    (∃ (s : State), s.sys.boot.phase = .running) ∧
    (∃ (s : State), s.sys.boot.phase ≠ .running) ∧
    (∃ (s : State), s.sys.boot.phase ≠ .running) ∧
    (∃ (s : State), s.sys.boot.phase ≠ .running) ∧
    (∃ (s : State), s.sys.boot.phase ≠ .running) ∧
    (∃ (s : State) (n : Nat) (m : Nat) (t : Int) (u : Int), s.sys.boot.phase = .tripHold ∧ s.sys.power.asked ≠ none ∧ hottest s.sys.validCore = some
      (n, t) ∧ hottest s.sys.validDram = some (m, u) ∧ t < 11000 ∧ u < 10000) ∧
    (∃ (s : State) (n : Nat) (t : Int), hottest s.sys.validCore = some (n, t) ∧ 11000 ≤ t) ∧
    (∃ (y : Sys) (n : Nat) (v : Int), y.excluded n = true ∧ -6000 ≤ v ∧ v ≤ 17500 ∧ y.disagrees n v = false ∧ 9999 ≤ (tget (fun _ => (⟨0, 0, 0⟩ :
      SensorRun)) y.thermal.runs n).good) ∧
    (∃ (y : Sys) (n : Nat) (v : Int), n < 64 ∧ y.excluded n = false ∧ -6000 ≤ v ∧ v ≤ 17500 ∧ y.disagrees n v = true ∧ 99 ≤ (tget (fun _ => (⟨0, 0,
      0⟩ : SensorRun)) y.thermal.runs n).bad) ∧
    (∃ (y : Sys) (n : Nat), n < 74 ∧ y.excluded n = false) ∧
    (∃ (y : Sys) (n : Nat) (t : Int), y.hotCore = some (n, t) ∧ -2147483648 ≤ t ∧ t < 2147483648) :=
  ⟨⟨State.reset, by decide +kernel⟩,
  ⟨(inPhase .dormant), by decide +kernel⟩,
  ⟨(inPhase .dormant), by decide +kernel⟩,
  ⟨(inPhase .dormant), by decide +kernel⟩,
  ⟨(inPhase .dormant), by decide +kernel⟩,
  ⟨(on (inPhase .tripHold) fun y => { y with power := { y.power with asked := some ⟨2, 0, 0⟩ } }), 0, 64, 0, 0, by decide +kernel⟩,
  ⟨(put [(ent 0x2102 6, 11000)]), 5, 11000, by decide +kernel⟩,
  ⟨(on (put [(ent 0x2101 9, 512)]) fun y => { y with thermal := { y.thermal with runs := [(73, ⟨0, 9999, 0⟩)] } }).sys, 73, 0, by decide +kernel⟩,
  ⟨(on (put [(ent 0x2101 8, 2 ^ 62 - 1)]) fun y => { y with thermal := { y.thermal with runs := [(63, ⟨99, 0, 0⟩)] } }).sys, 63, 2001,
    by decide +kernel, by decide +kernel, by decide +kernel, by decide +kernel, by simp only [Sys.disagrees, peers_of_63]; simp [median],
    by decide +kernel⟩,
  ⟨State.reset.sys, 0, by decide +kernel⟩,
  ⟨State.reset.sys, 0, 0, by decide +kernel⟩⟩

/-- States and operands that meet the hypotheses of SelfTestsWarningsAndDomainResets, clause by clause. -/
theorem witness_SelfTestsWarningsAndDomainResets :
    (∃ (s : State) (code : Nat) (i : Nat) (c : Instr), s.sys.boot.phase = .running ∧ s.sys.boot.test = none ∧ (c, code, i) ∈ [(.selfTestReplica
      false, 1, 0), (.selfTestReplica true, 1, 1), (.selfTestFuse, 4, 0), (.selfTestMram, 5, 0), (.selfTestSensors, 6, 0)]) ∧
    (∃ (s : State) (q : Fin 8), s.sys.boot.phase = .running ∧ s.sys.boot.test = none ∧ s.sys.rd (ent (0x2488 + q.val) 1) = 0) ∧
    (∃ (s : State) (t : Fin 24), s.sys.boot.phase = .running ∧ s.sys.boot.test = none ∧ s.sys.rd (ent (0x3860 + t.val) 1) = 0 ∧ s.sys.lacking 2
      t.val = none) ∧
    (∃ (s : State) (r : Fin 8), s.sys.boot.phase = .running ∧ s.sys.boot.test = none ∧ s.sys.rd (ent (0x3470 + r.val) 1) ≤ 1 ∧ s.sys.lacking 3 r.val
      = none) ∧
    (∃ (s : State) (c : Instr), s.sys.boot.test ≠ none ∧ c ∈ [.selfTestReplica false, .selfTestReplica true, .selfTestFuse, .selfTestMram,
      .selfTestSensors]) ∧
    (∃ (s : State) (code : Nat) (i : Nat), s.sys.boot.test = some (code, i) ∧ code ≠ 2 ∧ code ≠ 3 ∧ code ≠ 6) ∧
    (∃ (s : State) (i : Nat), s.sys.boot.test = some (6, i)) ∧
    (∃ (s : State), s.sys.rdBit (ent 0x2001 4) 1 = false ∧ Room s) ∧
    (∃ (s : State), s.sys.rdBit (ent 0x2001 4) 1 = true) ∧
    (∃ (s : State), s.sys.rdBit (ent 0x2001 4) 1 = true) ∧
    (∃ (s : State), s.sys.boot.phase = .running ∧ s.sys.rd (ent 0x2003 2) ≤ 34 ∧ s.sys.domainRun (s.sys.rd (ent 0x2003 2)) = true ∧ s.sys.rd (ent
      0x2003 2) ∉ s.sys.boot.domainResets) ∧
    (∃ (s : State) (d : Fin 35), d.val ∈ s.sys.boot.domainResets) ∧
    (∃ (s : State), s.sys.boot.phase = .running) :=
  ⟨⟨State.reset, 4, 0, .selfTestFuse, by decide +kernel, by decide +kernel, by simp⟩,
  ⟨State.reset, 0, by decide +kernel⟩,
  ⟨State.reset, 0, by decide +kernel⟩,
  ⟨State.reset, 0, by decide +kernel⟩,
  ⟨(sys fun y => { y with boot := { y.boot with test := some (1, 0) } }), .selfTestFuse, by decide +kernel⟩,
  ⟨(sys fun y => { y with boot := { y.boot with test := some (1, 0) } }), 1, 0, by decide +kernel⟩,
  ⟨(sys fun y => { y with boot := { y.boot with test := some (6, 0) } }), 0, by decide +kernel⟩,
  ⟨State.reset, by simp only [Room]; decide +kernel⟩,
  ⟨(put [(ent 0x2001 4, 2)]), by decide +kernel⟩,
  ⟨(put [(ent 0x2001 4, 2)]), by decide +kernel⟩,
  ⟨State.reset, by decide +kernel⟩,
  ⟨(sys fun y => { y with boot := { y.boot with domainResets := [34] } }), 34, by decide +kernel⟩,
  ⟨State.reset, by decide +kernel⟩⟩

/-- States and operands that meet the hypotheses of MailboxesAcceptInOrder, clause by clause. -/
theorem witness_MailboxesAcceptInOrder :
    (∃ (s : State) (m : Fin 32), (s.sys.mail m.val).go = false ∧ s.sys.pairOn (m.val / 2) = true ∧ ((m.val % 2 = 0 → s.sys.domainRun (pairDomain
      (m.val / 2)) = true ∧ s.sys.rd (ent 0x2700 1) ≠ 2)) ∧ (s.sys.mail m.val).inbox.length < 4) ∧
    (∃ (s : State) (m : Fin 32), (s.sys.mail m.val).go = false ∧ s.sys.pairOn (m.val / 2) = true ∧ m.val % 2 = 0 ∧ s.sys.domainRun (pairDomain
      (m.val / 2)) = true ∧ s.sys.rd (ent 0x2700 1) ≠ 2 ∧ 4 ≤ (s.sys.mail m.val).inbox.length) ∧
    (∃ (s : State) (m : Fin 32) (wake : Bool), (s.sys.mail m.val).go = false ∧ ((s.sys.pairOn (m.val / 2) = false ∨ m.val % 2 = 0 ∧ s.sys.domainRun
      (pairDomain (m.val / 2)) = false ∧ wake = false)) ∧ Room s) ∧
    (∃ (s : State) (m : Fin 32), (s.sys.mail m.val).go = true ∧ (s.sys.mail m.val).inbox.length < 4 ∧ s.sys.power.mbOut = [] ∧ ((m.val % 2 = 0 →
      s.sys.domainRun (pairDomain (m.val / 2)) = true))) ∧
    (∃ (s : State) (m : Fin 32), m.val % 2 = 0 ∧ (s.sys.mail m.val).go = true) ∧
    (∃ (s : State) (p : Fin 16) (k : Nat), pairFn p.val = .relay ∧ s.sys.relayLink p.val = some k ∧ (s.sys.mail (2 * p.val)).inbox ≠ []) :=
  ⟨⟨State.reset, 0, by decide +kernel⟩,
  ⟨(sys fun y => y.setMail 0 { mailbox0 with inbox := [[], [], [], []] }), 0, by decide +kernel⟩,
  ⟨State.reset, 2, false, by simp only [Room]; decide +kernel⟩,
  ⟨(sys fun y => y.setMail 0 { mailbox0 with go := true, inbox := [[], [], []] }), 0, by decide +kernel⟩,
  ⟨(sys fun y => y.setMail 30 { mailbox0 with go := true }), 30, by decide +kernel⟩,
  ⟨(on (put [(ent 0x2488 1, 2), (ent 0x4D01 1, 2)]) fun y => y.setMail 2 { mailbox0 with inbox := [[]] }), 1, 4, by decide +kernel⟩⟩

/-- States and operands that meet the hypotheses of DeviceStatesAreEnteredAndLeft, clause by clause. -/
theorem witness_DeviceStatesAreEnteredAndLeft :
    (∃ (s : State), s.sys.rd (ent 0x2700 1) = 0 ∧ ((∀ x, x < 16 → s.sys.rd (ent (0x4960 + x) 1) ≠ 1)) ∧ s.sys.leadsPower = true ∧ s.sys.twin.ask =
      none ∧ s.sys.memberLinks = []) ∧
    (∃ (s : State), (s.sys.rd (ent 0x2700 1) = 0 ∨ s.sys.rd (ent 0x2700 1) = 2) ∧ ((∀ x, x < 16 → s.sys.rd (ent (0x4960 + x) 1) ≠ 1)) ∧
      s.sys.leadsPower = true ∧ s.sys.twin.ask = none ∧ s.sys.memberLinks = []) ∧
    (∃ (s : State), s.sys.rd (ent 0x2700 1) = 0 ∧ ((∀ x, x < 16 → s.sys.rd (ent (0x4960 + x) 1) ≠ 1)) ∧ s.sys.leadsPower = true ∧ s.sys.twin.ask =
      none ∧ s.sys.memberLinks ≠ []) ∧
    (∃ (s : State), s.sys.power.step = 2) ∧
    (∃ (s : State), s.sys.power.step = 3) ∧
    (∃ (s : State) (d : Fin 38) (off : Bool), s.sys.rd (ent (0x2720 + d.val) 1) = 0 ∧ ((if off then d.val < 35 else d.val < 24 ∨ d.val = 36))) ∧
    (∃ (s : State) (d : Fin 38) (e : DomExit), s.sys.power.exits.lookup d.val = some e ∧ e.from_ < 2 ∧ d.val ≠ 24 ∧ (d.val < 27 ∨ 34 < d.val) ∧
      s.sys.rd (ent 0x2700 1) ≠ 3) ∧
    (∃ (s : State) (d : Fin 38) (e : DomExit), s.sys.power.exits.lookup d.val = some e ∧ (2 ≤ e.from_ ∨ d.val = 24 ∨ 27 ≤ d.val ∧ d.val ≤ 34)) ∧
    (∃ (s : State), s.sys.rd (ent 0x2700 1) = 2) ∧
    (∃ (s : State), (s.sys.rd (ent 0x2700 1) = 0 ∨ s.sys.rd (ent 0x2700 1) = 3)) ∧
    (∃ (s : State), (s.sys.rd (ent 0x2700 1) = 1 ∨ s.sys.rd (ent 0x2700 1) = 4)) ∧
    (∃ (y : Sys) (out : Output), y.domainOff out.domain = true) ∧
    (∃ (y : Sys), (y.boot.phase = .warmReset ∨ y.boot.phase = .coldReset) ∧ y.sup.aon = true) ∧
    (∃ (y : Sys) (b : Bank), y.boot.phase = .running ∧ y.sup.aon = true ∧ y.boot.strapFault = false ∧ y.bankPowered b = true ∧ y.domainRun b.domain
      = true ∧ b.domain ∉ y.boot.domainResets) ∧
    (∃ (y : Sys), (y.isShadow = true ∨ (∀ c, c < 24 → y.rd (ent (0x2600 + c) 1) ≠ 3))) ∧
    (∃ (o : Otp), o.factory = false) :=
  ⟨⟨State.reset, by decide +kernel⟩,
  ⟨State.reset, by decide +kernel⟩,
  ⟨(put [(ent 0x2010 1, 3), (ent 0x4C00 1, 2), (ent 0x4C01 1, 2), (ent 0x4C08 1, 2), (ent 0x4C08 2, 1), (ent 0x4C08 4, 7)]), by decide +kernel⟩,
  ⟨(sys fun y => { y with power := { y.power with step := 2 } }), by decide +kernel⟩,
  ⟨(sys fun y => { y with power := { y.power with step := 3 } }), by decide +kernel⟩,
  ⟨State.reset, 0, false, by decide +kernel⟩,
  ⟨(sys fun y => { y with power := { y.power with exits := [(37, ⟨0, 0⟩)] } }), 37, ⟨0, 0⟩, by decide +kernel⟩,
  ⟨(sys fun y => { y with power := { y.power with exits := [(37, ⟨0, 2⟩)] } }), 37, ⟨0, 2⟩, by decide +kernel⟩,
  ⟨(put [(ent 0x2700 1, 2)]), by decide +kernel⟩,
  ⟨State.reset, by decide +kernel⟩,
  ⟨(put [(ent 0x2700 1, 1)]), by decide +kernel⟩,
  ⟨(put [(ent 0x273A 1, 2)]).sys, .sdo 3, by decide +kernel⟩,
  ⟨(inPhase .warmReset).sys, by decide +kernel⟩,
  ⟨State.reset.sys, .tio, by decide +kernel⟩,
  ⟨State.reset.sys, .inr (by decide +kernel)⟩,
  ⟨{ State.reset.otp with stateFuses := [1, 2, 3] }, by decide +kernel⟩⟩

/-- States and operands that meet the hypotheses of WakeSourcesWake, clause by clause. -/
theorem witness_WakeSourcesWake :
    (∃ (s : State) (p : Fin 2) (f : WakeFrame) (w : Nat), s.sys.resetAsserted = false ∧ s.sys.boot.strapFault = false ∧ s.sys.rd (ent (0x2704 +
      p.val) 1) ≠ 0 ∧ wakeWord f = .inr w ∧ w / 16 % 16 = 2 ∧ w / 256 = s.sys.rd (ent (0x2704 + p.val) 2)) ∧
    (∃ (s : State) (p : Fin 2) (f : WakeFrame) (w : Nat), s.sys.resetAsserted = false ∧ s.sys.boot.strapFault = false ∧ s.sys.rd (ent (0x2704 +
      p.val) 1) ≠ 0 ∧ wakeWord f = .inr w ∧ w / 16 % 16 = 1 ∧ (w / 256 = s.sys.rd (ent (0x2704 + p.val) 2) ∨ w / 256 = 0xFF) ∧ s.sys.wakeEnabled (2
      + p.val) = true) ∧
    (∃ (s : State) (p : Fin 2) (f : WakeFrame) (r : Nat), s.sys.resetAsserted = false ∧ s.sys.boot.strapFault = false ∧ s.sys.rd (ent (0x2704 +
      p.val) 1) ≠ 0 ∧ wakeWord f = .inl r) ∧
    (∃ (s : State) (ball : Fin 32) (falling : Bool), s.sys.tioHeld = false ∧ s.sys.rd (ent 0x2701 2) = ball.val ∧ s.sys.tioFn ball.val = 7 ∧
      (s.sys.rd (ent 0x2701 4) = 2 ∨ s.sys.rd (ent 0x2701 4) = (if falling then 1 else 0)) ∧ s.sys.wakeEnabled 4 = true) ∧
    (∃ (s : State), s.sys.tioHeld = true) ∧
    (∃ (s : State), s.sys.rd (ent 0x2701 3) ≠ 0 ∧ s.sys.rd (ent 0x2701 3) ≤ s.sys.t96 ∧ s.sys.wakeEnabled 5 = true) ∧
    (∃ (s : State), s.sys.wakeEnabled 6 = true) :=
  ⟨⟨(put [(ent 0x2704 1, 1), (ent 0x2704 2, 0x12), (ent 0x2701 1, 31)]), 0, wakeOf 0x1221, 0x1221, by decide +kernel⟩,
  ⟨(put [(ent 0x2704 1, 1), (ent 0x2704 2, 0x12), (ent 0x2701 1, 31)]), 0, wakeOf 0x1212, 0x1212, by decide +kernel⟩,
  ⟨(put [(ent 0x2704 1, 1), (ent 0x2704 2, 0x12), (ent 0x2701 1, 31)]), 0, wakeOf 0x1213, 2, by decide +kernel⟩,
  ⟨(put [(ent 0x2701 1, 8), (ent 0x2701 2, 31), (ent 0x2701 4, 1), (ent 0x233F 1, 7)]), 31, true, by decide +kernel⟩,
  ⟨(sys fun y => { y with boot := { y.boot with strapFault := true } }), by decide +kernel⟩,
  ⟨(on (put [(ent 0x2701 1, 16), (ent 0x2701 3, 9)]) fun y => { y with t96 := 9 }), by decide +kernel⟩,
  ⟨(put [(ent 0x2701 1, 32)]), by decide +kernel⟩⟩

/-- States and operands that meet the hypotheses of StripesOpenRunAndEnd, clause by clause. -/
theorem witness_StripesOpenRunAndEnd :
    (∃ (s : State) (x : Nat) (k : Nat) (r : Nat) (f : Frame), s.sys.pickContext = some x ∧ s.sys.nextStripe x = some (f, k) ∧ s.sys.pickTroupe f =
      some r ∧ skipped s.sys.skip (s.sys.troupe r).admission = true) ∧
    (∃ (s : State) (x : Nat) (k : Nat) (r : Nat) (f : Frame), s.sys.pickContext = some x ∧ s.sys.nextStripe x = some (f, k) ∧ s.sys.pickTroupe f =
      some r ∧ skipped s.sys.skip (s.sys.troupe r).admission = false ∧ f.gen.usesRfe x = false) ∧
    (∃ (s : State) (q : Fin 24), (s.sys.troupe q.val).idle.isSome = true) ∧
    (∃ (s : State) (x : Fin 16) (f : Frame), (s.sys.frames.find? fun f => f.ctx == x.val && !f.abandoned && f.stripes.any fun st => !st.done) = some
      f) ∧
    (∃ (s : State) (r : Fin 8) (f : Frame) (st : Stripe) (q : Nat), s.sys.rfeNext r.val = some (f, st) ∧ st.troupe = some q) ∧
    (∃ (s : State) (r : Fin 8) (f : Frame) (st : Stripe), st.mode = .opened ∧ st.rfe = some r.val ∧ st.passed = false ∧ st.written = f.gen.segs
      f.ctx ∧ f.stripes = [st] ∧ s.sys.frames = [f]) ∧
    (∃ (s : State) (f : Frame) (k : Nat) (r : Nat), s.sys.queueStats.nextStatsOnly = some (f, k) ∧ (f.stripe? k).bind (·.rfe) = some r) ∧
    (∃ (y : Sys) (x : Nat) (n : Nat) (f : Frame), y.frame? x n = some f) :=
  ⟨⟨(on (put [(ent 0x2202 1, 16)]) fun y => { y with frames := [frame0 8 [stripe0]] }), 8, 0, 0, (frame0 8 [stripe0]), by decide +kernel⟩,
  ⟨(flying [frame0 8 [stripe0]]), 8, 0, 0, (frame0 8 [stripe0]), by decide +kernel⟩,
  ⟨(sys fun y => y.setTroupe 0 { troupe0 0 with idle := some 0 }), 0, by decide +kernel⟩,
  ⟨(flying [frame0 8 [stripe0]]), 8, (frame0 8 [stripe0]), by decide +kernel⟩,
  ⟨(flying [frame0 0 [{ stripe0 with mode := .opened, rfe := some 0, troupe := some 3 }]]), 0, frame0 0
    [{ stripe0 with mode := .opened, rfe := some 0, troupe := some 3 }], { stripe0 with mode := .opened, rfe := some 0, troupe := some 3 }, 3,
    by decide +kernel⟩,
  ⟨(flying [frame0 0 [{ stripe0 with mode := .opened, rfe := some 0, troupe := some 3, written := (frame0 0 []).gen.segs 0 }]]), 0, frame0 0
    [{ stripe0 with mode := .opened, rfe := some 0, troupe := some 3, written := (frame0 0 []).gen.segs 0 }],
    { stripe0 with mode := .opened, rfe := some 0, troupe := some 3, written := (frame0 0 []).gen.segs 0 }, by decide +kernel⟩,
  ⟨(flying [{ frame0 0 [{ stripe0 with mode := .statsOnly, rfe := some 0 }] with cut := some 0, abandoned := true }]), { frame0 0
    [{ stripe0 with mode := .statsOnly, rfe := some 0 }] with cut := some 0, abandoned := true }, 0, 0, by decide +kernel⟩,
  ⟨(flying [frame0 0 []]).sys, 0, 5, frame0 0 [], by decide +kernel⟩⟩

/-- States and operands that meet the hypotheses of FrontEndsAreFencedAndArraysAgree, clause by clause. -/
theorem witness_FrontEndsAreFencedAndArraysAgree :
    (∃ (s : State), Room s) ∧
    (∃ (s : State) (x : Fin 8) (n : BitVec 32) (f : Frame), s.sys.frame? x.val n.toNat = some f) ∧
    (∃ (s : State) (x : Fin 8) (n : BitVec 32) (us : BitVec 16) (f : Frame), s.sys.frame? x.val n.toNat = some f ∧ us.toNat ≤ 50) ∧
    (∃ (s : State) (x : Fin 16) (n : BitVec 32) (f : Frame), s.sys.frame? x.val n.toNat = some f ∧ (f.reduced = true ∨ f.abandoned = true) ∧ Room s)
      ∧
    (∃ (s : State) (x : Fin 16) (n : BitVec 32) (f : Frame), s.sys.frame? x.val n.toNat = some f ∧ f.abandoned = false) :=
  ⟨⟨State.reset, by simp only [Room]; decide +kernel⟩,
  ⟨(flying [frame0 0 []]), 0, 5, frame0 0 [], by decide +kernel⟩,
  ⟨(flying [frame0 0 []]), 0, 5, 50, frame0 0 [], by decide +kernel⟩,
  ⟨(flying [{ frame0 0 [] with reduced := true }]), 0, 5, { frame0 0 [] with reduced := true }, by simp only [Room]; decide +kernel⟩,
  ⟨(flying [frame0 0 []]), 0, 5, frame0 0 [], by decide +kernel⟩⟩

/-- States and operands that meet the hypotheses of RequestsReadWriteAndGroup, clause by clause. -/
theorem witness_RequestsReadWriteAndGroup :
    (∃ (s : State) (f : DenvalFrame) (r : Req) (sid : Nat) (n : Nat) (role : Role) (z : Sys) (x : Sys) (v : Bytes), Accepted f s r sid role n z ∧
      r.func = 4 ∧ r.op = 1 ∧ r.wellFormed = true ∧ r.len = 0 ∧ r.dst = z.node ∧ z.readEntry s.otp r.path r.source sid role r.entry false = (.ok, v,
      x) ∧ v.length ≤ valueLimit r.path) ∧
    (∃ (s : State) (f : DenvalFrame) (r : Req) (sid : Nat) (n : Nat) (role : Role) (z : Sys) (x : Sys) (v : Bytes), Accepted f s r sid role n z ∧
      r.func = 4 ∧ r.op = 2 ∧ r.wellFormed = true ∧ r.len = 0 ∧ r.dst = z.node ∧ z.readEntry s.otp r.path r.source sid role r.entry true = (.ok, v,
      x) ∧ v.length ≤ valueLimit r.path) ∧
    (∃ (s : State) (f : DenvalFrame) (r : Req) (sid : Nat) (n : Nat) (role : Role) (z : Sys), Accepted f s r sid role n z ∧ r.func = 4 ∧ r.op = 3 ∧
      r.wellFormed = true ∧ (z.arrivalAt s.otp r (r.writer sid role) r.entry r.value).1 = .ok ∧ r.entry ≠ ent 0x1300 5) ∧
    (∃ (y : Sys), (y.view.role ≠ 3 ∨ y.roleShadow = true ∨ y.arrayPos = y.rd (ent 0x4C01 6))) ∧
    (∃ (y : Sys) (k : Nat), y.view.role = 3 ∧ y.roleShadow = false ∧ y.arrayPos ≠ y.rd (ent 0x4C01 6) ∧ y.posLink (y.rd (ent 0x4C01 6)) = some k) ∧
    (∃ (s : State) (f : DenvalFrame) (r : Req) (sid : Nat) (n : Nat) (role : Role) (z : Sys) (g : Session) (sc : Scope), Accepted f s r sid role n z
      ∧ r.func = 4 ∧ r.op = 5 ∧ r.wellFormed = true ∧ z.session? sid = some g ∧ g.group = none ∧ r.len = 8 ∧ r.gtag ≠ 0 ∧ rdLe r.value 2 1 = 0 ∧
      rdLe r.value 3 1 = 0 ∧ scopeOf (rdLe r.value 0 1) (rdLe r.value 1 1) = some sc ∧ r.value.length = 8) ∧
    (∃ (s : State) (f : DenvalFrame) (r : Req) (sid : Nat) (n : Nat) (role : Role) (z : Sys) (g : Session) (h : Group), Accepted f s r sid role n z
      ∧ r.func = 4 ∧ r.op = 4 ∧ r.wellFormed = true ∧ z.session? sid = some g ∧ g.group = some h ∧ h.gtag = r.gtag ∧ (z.arrivalAt s.otp r (r.writer
      g.id g.role) r.entry r.value).1 = .ok ∧ z.inScope h.scope r.entry r.value = true ∧ h.members.length < 64 ∧ (h.members.map fun m =>
      m.2.length).sum + r.value.length ≤ 4096) ∧
    (∃ (s : State) (f : DenvalFrame) (r : Req) (sid : Nat) (n : Nat) (role : Role) (z : Sys) (g : Session) (h : Group), Accepted f s r sid role n z
      ∧ r.func = 4 ∧ r.op = 6 ∧ r.wellFormed = true ∧ z.session? sid = some g ∧ g.group = some h ∧ h.gtag = r.gtag ∧ h.failed = none) ∧
    (∃ (s : State) (i : BitVec 16) (u : Session) (g : Group), s.sys.session? i.toNat = some u ∧ u.group = some g) :=
  ⟨⟨State.reset, sent 4 noMac (reqBody 1 0 (ent 0x1000 1) [] 0), _, 0, 1, .observer, _, _, _, accepted_of (by decide +kernel) (by decide +kernel),
    by decide +kernel, by decide +kernel, by decide +kernel, by decide +kernel, by decide +kernel, ok_of (by decide +kernel), by decide +kernel⟩,
  ⟨State.reset, sent 4 noMac (reqBody 2 0 (ent 0x1000 1) [] 0), _, 0, 1, .observer, _, _, _, accepted_of (by decide +kernel) (by decide +kernel),
    by decide +kernel, by decide +kernel, by decide +kernel, by decide +kernel, by decide +kernel, ok_of (by decide +kernel), by decide +kernel⟩,
  ⟨(withSession sess1), sent 4 [224, 126, 107, 244, 147, 169, 96, 27] (reqBody 3 0 (ent 0x2701 4) [1, 0] 1), _, _, _, _, _, signed_of (sess1)
    (by decide +kernel) (by decide +kernel) (by decide +kernel), by decide +kernel⟩,
  ⟨State.reset.sys, by decide +kernel⟩,
  ⟨(put [(ent 0x2010 1, 3), (ent 0x4C01 6, 1), (ent 0x4C08 1, 2), (ent 0x4C08 2, 1), (ent 0x4C08 4, 7)]).sys, 0, by decide +kernel⟩,
  ⟨(withSession sess1), sent 4 [25, 42, 98, 73, 93, 77, 47, 246] (reqBody 5 9 (0) (List.replicate 8 0) 1), _, _, _, _, _,
    { sess1 with counterIn := 1 }, .immediate, signed_of (sess1) (by decide +kernel) (by decide +kernel) (by decide +kernel), by decide +kernel⟩,
  ⟨(withSession { sess1 with group := some ⟨9, 7, .immediate, none, [], none, 0⟩ }), sent 4 [70, 157, 144, 152, 203, 77, 59, 46] (reqBody 4 9 (ent
    0x2701 4) [1, 0] 1), _, _, _, _, _, { sess1 with counterIn := 1, group := some ⟨9, 7, .immediate, none, [], none, 0⟩ }, ⟨9, 7, .immediate, none,
    [], none, 0⟩, signed_of ({ sess1 with group := some ⟨9, 7, .immediate, none, [], none, 0⟩ }) (by decide +kernel) (by decide +kernel)
    (by decide +kernel), by decide +kernel⟩,
  ⟨(withSession { sess1 with group := some ⟨9, 7, .immediate, none, [], none, 0⟩ }), sent 4 [212, 140, 227, 18, 37, 174, 53, 58] (reqBody 6 9 (0) []
    1), _, _, _, _, _, { sess1 with counterIn := 1, group := some ⟨9, 7, .immediate, none, [], none, 0⟩ }, ⟨9, 7, .immediate, none, [], none, 0⟩,
    signed_of ({ sess1 with group := some ⟨9, 7, .immediate, none, [], none, 0⟩ }) (by decide +kernel) (by decide +kernel) (by decide +kernel),
    by decide +kernel⟩,
  ⟨(withSession { sess1 with group := some ⟨9, 7, .immediate, none, [], none, 0⟩ }), 1,
    { sess1 with group := some ⟨9, 7, .immediate, none, [], none, 0⟩ }, ⟨9, 7, .immediate, none, [], none, 0⟩, by decide +kernel⟩⟩

/-- States and operands that meet the hypotheses of TransfersMoveSegments, clause by clause. -/
theorem witness_TransfersMoveSegments :
    (∃ (s : State) (f : DenvalFrame) (r : Req) (sid : Nat) (n : Nat) (role : Role) (z : Sys) (x : Sys) (v : Bytes), Accepted f s r sid role n z ∧
      r.func = 4 ∧ r.op = 7 ∧ r.wellFormed = true ∧ z.transfer? r sid false = none ∧ z.transfer? r sid true = none ∧ z.transfersFull r sid = false ∧
      r.dst = z.node ∧ z.readEntry s.otp r.path r.source sid role r.entry false = (.ok, v, x)) ∧
    (∃ (s : State) (f : DenvalFrame) (r : Req) (sid : Nat) (n : Nat) (role : Role) (z : Sys), Accepted f s r sid role n z ∧ r.func = 4 ∧ r.op = 8 ∧
      r.wellFormed = true ∧ r.len = 4 ∧ z.transfer? r sid false = none ∧ z.transfer? r sid true = none ∧ z.transfersFull r sid = false ∧
      Sys.segmentedStatus s.otp (r.writer sid role) r.entry (rdLe r.value 0 4) = .ok ∧ rdLe r.value 0 4 ≠ 0) ∧
    (∃ (s : State) (f : DenvalFrame) (r : Req) (sid : Nat) (n : Nat) (role : Role) (z : Sys) (u : Transfer), Accepted f s r sid role n z ∧ r.func =
      6 ∧ z.transfer? r sid true = some u ∧ rdLe r.body 2 2 = u.next ∧ (u.next + 1) % 16 ≠ 0 ∧ ((r.body.drop 4).take (r.body.length - 18)).length =
      segmentSize u.path ∧ u.data.length + segmentSize u.path < u.total) ∧
    (∃ (s : State) (f : DenvalFrame) (r : Req) (sid : Nat) (n : Nat) (role : Role) (z : Sys) (u : Transfer), Accepted f s r sid role n z ∧ r.func =
      8 ∧ z.transfer? r sid false = some u ∧ u.acked ≤ rdLe r.body 2 2 ∧ rdLe r.body 2 2 ≤ u.next) ∧
    (∃ (s : State) (f : DenvalFrame) (r : Req) (sid : Nat) (n : Nat) (role : Role) (z : Sys) (g : Session), Accepted f s r sid role n z ∧ r.func = 4
      ∧ r.op = 9 ∧ sid ≠ 0 ∧ r.wellFormed = true ∧ r.len = 2 ∧ z.session? sid = some g ∧ g.group = none ∧ (z.den.transfers.filter fun u => u.session
      == sid && u.tag == rdLe r.value 0 2) ≠ []) ∧
    (∃ (s : State) (p : DenvalPath) (src : BitVec 48) (sid : BitVec 16) (tag : BitVec 10) (u : Transfer), (s.sys.den.transfers.find? fun t => t.path
      == pathRank p && t.source == src.toNat && t.session == sid.toNat && t.tag == tag.toNat) = some u ∧ Room s) :=
  ⟨⟨State.reset, sent 4 noMac (reqBody 7 0 (ent 0x1000 1) [] 0), _, 0, 1, .observer, _, _, _, accepted_of (by decide +kernel) (by decide +kernel),
    by decide +kernel, by decide +kernel, by decide +kernel, by decide +kernel, by decide +kernel, by decide +kernel, by decide +kernel, ok_of
    (by decide +kernel)⟩,
  ⟨(withSession sess1), sent 4 [126, 180, 157, 253, 166, 34, 139, 235] (reqBody 8 0 (ent 0x3840 1) [100, 0, 0, 0] 1), _, _, _, _, _, signed_of
    (sess1) (by decide +kernel) (by decide +kernel) (by decide +kernel), by decide +kernel⟩,
  ⟨(sys fun y => { y with den := { y.den with sessions := [sess1], transfers := [⟨1, 1, 0, 1, 7, true, ent 0x3840 1, 100, [], 0, 0, 0⟩] } }), sent 6
    [29, 254, 190, 105, 44, 53, 197, 247] (le 2 60 ++ le 2 0 ++ List.replicate 42 0 ++ trail 1 1), _, _, _, _, _, ⟨1, 1, 0, 1, 7, true, ent 0x3840
    1, 100, [], 0, 0, 0⟩, signed_of (sess1) (by decide +kernel) (by decide +kernel) (by decide +kernel), by decide +kernel⟩,
  ⟨(sys fun y => { y with den := { y.den with sessions := [sess1], transfers := [⟨1, 1, 0, 1, 7, false, ent 0x3840 1, 100, [], 3, 1, 0⟩] } }), sent
    8 [205, 14, 100, 175, 191, 73, 242, 138] (le 2 20 ++ le 2 2 ++ [0, 0] ++ trail 1 1), _, _, _, _, _, ⟨1, 1, 0, 1, 7, false, ent 0x3840 1, 100,
    [], 3, 1, 0⟩, signed_of (sess1) (by decide +kernel) (by decide +kernel) (by decide +kernel), by decide +kernel⟩,
  ⟨(sys fun y => { y with den := { y.den with sessions := [sess1], transfers := [⟨1, 1, 0, 1, 7, true, ent 0x3840 1, 100, [], 0, 0, 0⟩] } }), sent 4
    [147, 76, 65, 45, 149, 215, 92, 77] (reqBody 9 0 (0) [7, 0] 1), _, _, _, _, _, { sess1 with counterIn := 1 }, signed_of (sess1)
    (by decide +kernel) (by decide +kernel) (by decide +kernel), by decide +kernel⟩,
  ⟨(sys fun y => { y with den := { y.den with sessions := [sess1], transfers := [⟨1, 0, 0, 1, 7, true, ent 0x3840 1, 100, [], 0, 0, 0⟩] } }),
    .mailbox, 0, 0, 7, ⟨1, 0, 0, 1, 7, true, ent 0x3840 1, 100, [], 0, 0, 0⟩, by simp only [Room]; decide +kernel⟩⟩

/-- States and operands that meet the hypotheses of SessionsOpenAndClose, clause by clause. -/
theorem witness_SessionsOpenAndClose :
    (∃ (s : State) (f : DenvalFrame) (r : Req) (z : Sys), Arrives f s r z ∧ r.func = 12 ∧ r.op = 1 ∧ (z.den.lockouts.lookup (sourceKey r.path
      r.source)).isSome = true) ∧
    (∃ (s : State) (f : DenvalFrame) (r : Req) (z : Sys), Arrives f s r z ∧ r.func = 12 ∧ r.op = 1 ∧ (z.den.lockouts.lookup (sourceKey r.path
      r.source)).isSome = false ∧ z.den.sessions.length < 32 ∧ 1 ≤ rdLe r.body 3 1 ∧ rdLe r.body 3 1 ≤ 4 ∧ s.otp.roleOpen (rdLe r.body 3 1) = false)
      ∧
    (∃ (s : State) (f : DenvalFrame) (r : Req) (z : Sys) (c : Bytes), Arrives f s r z ∧ r.func = 12 ∧ r.op = 1 ∧ (z.den.lockouts.lookup (sourceKey
      r.path r.source)).isSome = false ∧ z.den.sessions.length < 32 ∧ 1 ≤ rdLe r.body 3 1 ∧ rdLe r.body 3 1 ≤ 4 ∧ s.otp.roleOpen (rdLe r.body 3 1) =
      true ∧ ((z.credential (rdLe r.body 4 4)).filter fun c => z.credAccepted s.otp c) = some c ∧ (z.sec.key ≠ none ∨ s.otp.factory = true) ∧ rdLe
      r.body 3 1 ≤ credRole c) ∧
    (∃ (s : State) (f : DenvalFrame) (r : Req) (z : Sys) (u : Session), Arrives f s r z ∧ r.func = 12 ∧ r.op = 2 ∧ z.setup? r = some u) ∧
    (∃ (s : State) (f : DenvalFrame) (r : Req) (z : Sys) (u : Session) (c : Bytes) (a : Bytes), Arrives f s r z ∧ r.func = 12 ∧ r.op = 3 ∧ z.setup?
      r = some u ∧ ((z.credential u.credential).filter fun c => z.credAccepted s.otp c) = some c ∧ u.proofA = some a ∧ edVerify (credKey c)
      u.transcript (a ++ slice r.body 6 32) = true) ∧
    (∃ (s : State) (i : BitVec 16) (u : Session), s.sys.session? i.toNat = some u ∧ u.established = false) ∧
    (∃ (s : State) (f : DenvalFrame) (r : Req) (sid : Nat) (n : Nat) (role : Role) (z : Sys), Accepted f s r sid role n z ∧ r.func = 12 ∧ r.op = 5 ∧
      sid ≠ 0) ∧
    (∃ (s : State) (i : BitVec 16) (u : Session), s.sys.session? i.toNat = some u ∧ u.established = true) :=
  ⟨⟨(sys fun y => { y with den := { y.den with lockouts := [(sourceKey 1 0, 5)] } }), sent 12 noMac (le 2 48 ++ [1, 3] ++ le 4 1 ++ List.replicate
    32 0), _, _, arrives_of (by decide +kernel), by decide +kernel⟩,
  ⟨State.reset, sent 12 noMac (le 2 48 ++ [1, 3] ++ le 4 1 ++ List.replicate 32 0), _, _, arrives_of (by decide +kernel), by decide +kernel⟩,
  ⟨(rooted fun y => y.wrB (ent 0x1210 1) cred1), sent 12 noMac (le 2 48 ++ [1, 3] ++ le 4 1 ++ List.replicate 32 0), _, _, cred1, arrives_of
    (by decide +kernel), by decide +kernel⟩,
  ⟨(withSession { sess1 with established := false }), sent 12 noMac (le 2 38 ++ [2, 0, 1, 0] ++ List.replicate 24 0), _, _,
    { sess1 with established := false }, arrives_of (by decide +kernel), by decide +kernel⟩,
  ⟨(rooted fun y => Sys.wrB { y with den := { y.den with sessions := [{ sess1 with established := false, proofA := some idKey }] } } (ent 0x1210 1)
    cred1), { sent 12 [] [] with body := le 2 38 ++ [3, 0, 1, 0] ++ List.replicate 32 0 }, _, _,
    { sess1 with established := false, proofA := some idKey }, cred1, idKey, arrives_of (by decide +kernel), by decide +kernel⟩,
  ⟨(withSession { sess1 with established := false }), 1, { sess1 with established := false }, by decide +kernel⟩,
  ⟨(withSession sess1), sent 12 [211, 119, 241, 202, 172, 236, 3, 120] (le 2 17 ++ [5] ++ trail 1 1), _, _, _, _, _, signed_of (sess1)
    (by decide +kernel) (by decide +kernel) (by decide +kernel), by decide +kernel⟩,
  ⟨(withSession sess1), 1, sess1, by decide +kernel⟩⟩

/-- States and operands that meet the hypotheses of WritesAreCommittedAndFusesFollow, clause by clause. -/
theorem witness_WritesAreCommittedAndFusesFollow :
    (∃ (s : State) (c : Instr) (w : Writer) (k : Nat) (v : Bytes), writeOf c = some (w, k, v) ∧ s.sys.boot.phase = .running ∧ (s.sys.arrival s.otp w
      k v).1 = .ok ∧ k ≠ ent 0x1300 5) ∧
    (∃ (s : State) (c : Instr) (w : Writer) (k : Nat) (v : Bytes), writeOf c = some (w, k, v) ∧ s.sys.boot.phase = .running ∧ (s.sys.arrival s.otp w
      k v).1 ≠ .ok) ∧
    (∃ (s : State) (c : Instr) (w : Writer) (k : Nat) (v : Bytes), writeOf c = some (w, k, v) ∧ s.sys.boot.phase ≠ .running) ∧
    (∃ (s : State) (w : Writer) (n : BitVec 32), s.sys.boot.phase = .running ∧ (s.sys.arrival s.otp w (ent 0x1300 5) (le 4 n.toNat)).1 = .ok) ∧
    (∃ (s : State), s.sys.den.units = []) ∧
    (∃ (s : State) (u : CommitUnit), s.sys.den.units = [u]) ∧
    (∃ (s : State) (w : Writer) (n : BitVec 16), Admitted s w (ent 0x1001 2) (le 2 n.toNat)) ∧
    (∃ (s : State) (w : Writer), Admitted s w (ent 0x1002 1) (le 2 1)) ∧
    (∃ (s : State) (w : Writer) (e : BitVec 8), Admitted s w (ent 0x1003 1) (le 1 e.toNat)) ∧
    (∃ (s : State) (w : Writer) (r : Bytes), Admitted s w (ent 0x1200 1) r) ∧
    (∃ (s : State) (w : Writer) (v : Bytes), Admitted s w (ent 0x1002 4) v) :=
  ⟨⟨State.reset, .entryWrite cust (BitVec.ofNat _ (ent 0x2701 4)) [1, 0], cust, ent 0x2701 4, [1, 0], by decide +kernel⟩,
  ⟨State.reset, .entryWrite cust (BitVec.ofNat _ (ent 0x2701 4)) [9], cust, ent 0x2701 4, [9], by decide +kernel⟩,
  ⟨(inPhase .dormant), .rekey cust, cust, ent 0x1002 1, [1, 0], by decide +kernel⟩,
  ⟨State.reset, cust, 0, by decide +kernel⟩,
  ⟨State.reset, by decide +kernel⟩,
  ⟨(sys fun y => { y with den :=
    { y.den with units := [⟨2, 1, .custodian, 5, 0, 1, 0, 1, 7, 0, 3, .single, none, [(ent 0x2701 4, [1, 0])], none, none, none⟩] } }), ⟨2, 1,
    .custodian, 5, 0, 1, 0, 1, 7, 0, 3, .single, none, [(ent 0x2701 4, [1, 0])], none, none, none⟩, by decide +kernel⟩,
  ⟨{ State.reset with otp := { State.reset.otp with stateFuses := [1, 2, 3] } }, cust, 4, by simp only [Admitted]; decide +kernel⟩,
  ⟨{ State.reset with otp := { State.reset.otp with stateFuses := [1, 2, 3] } }, cust, by simp only [Admitted]; decide +kernel⟩,
  ⟨{ (sys fun y => { y with mram :=
    { y.mram with banks := [(0, ⟨5, [7], idKey, idKey ++ List.replicate 32 0⟩), (1, ⟨5, [7], idKey, idKey ++ List.replicate 32 0⟩)] } }) with otp :=
    { State.reset.otp with kilvanKeyHash := sha256 idKey } }, cust, 5, by simp only [Admitted]; decide +kernel⟩,
  ⟨State.reset, ⟨1, .observer, 0⟩, List.replicate 32 0, by simp only [Admitted]; decide +kernel⟩,
  ⟨(rooted fun y => { y with sec := { y.sec with pending := some (List.replicate 32 0) } }), cust, slice (certificateBody 0
    (State.reset.sys.keySerial + 1) 1 0 []) 0 16 ++ List.replicate 16 0 ++ deliveredKey ++ idKey ++ List.replicate 32 0,
    by simp only [Admitted]; decide +kernel⟩⟩

/-- States and operands that meet the hypotheses of StoredItemsFollowTheirWrites, clause by clause. -/
theorem witness_StoredItemsFollowTheirWrites :
    (∃ (s : State) (w : Writer) (x : Fin 16) (n : BitVec 8), let k := ent (0x3800 + x.val) 1; Admitted s w k (le 1 n.toNat) ∧ (s.sys.commitUnit
      s.otp (writeUnit s.sys w k (le 1 n.toNat)) fun _ => false).status = .staged) ∧
    (∃ (s : State) (w : Writer) (i : Fin 64) (v : Bytes), Admitted s w (ent 0x1210 (i.val + 1)) v) ∧
    (∃ (s : State) (w : Writer) (i : Fin 64), Admitted s w (ent 0x1210 (i.val + 1)) []) ∧
    (∃ (s : State) (w : Writer) (id : BitVec 32), Admitted s w (ent 0x1211 1) (le 4 id.toNat)) ∧
    (∃ (s : State) (w : Writer) (i : Fin 16) (v : Bytes), Admitted s w (ent (0x3840 + i.val) 1) v) ∧
    (∃ (s : State) (w : Writer) (i : Fin 4) (v : Bytes), Admitted s w (ent 0x1404 (i.val + 2)) v) ∧
    (∃ (s : State) (w : Writer) (on : Bool), Admitted s w (ent 0x1404 1) (le 1 (if on then 1 else 0))) ∧
    (∃ (s : State) (w : Writer) (v : Bytes), Admitted s w (ent 0x1406 1) v) ∧
    (∃ (s : State) (w : Writer), Admitted s w (ent 0x1104 1) (le 2 1)) ∧
    (∃ (s : State) (w : Writer), Admitted s w (ent 0x1104 1) (le 2 2)) ∧
    (∃ (s : State) (w : Writer), Admitted s w (ent 0x1300 8) (le 2 1)) ∧
    (∃ (s : State) (w : Writer), Admitted s w (ent 0x1300 8) (le 2 2)) :=
  ⟨⟨State.reset, cust, 0, 255, by dsimp only; simp only [Admitted]; decide +kernel⟩,
  ⟨(rooted id), cust, 0, cred1, by simp only [Admitted]; decide +kernel⟩,
  ⟨(rooted fun y => y.wrB (ent 0x1210 1) cred1), cust, 0, by simp only [Admitted]; decide +kernel⟩,
  ⟨State.reset, cust, 1, by simp only [Admitted]; decide +kernel⟩,
  ⟨State.reset, cust, 0, [], by simp only [Admitted]; decide +kernel⟩,
  ⟨State.reset, cust, 0, idKey, by simp only [Admitted]; decide +kernel⟩,
  ⟨State.reset, cust, true, by simp only [Admitted]; decide +kernel⟩,
  ⟨State.reset, cust, idKey, by simp only [Admitted]; decide +kernel⟩,
  ⟨State.reset, cust, by simp only [Admitted]; decide +kernel⟩,
  ⟨State.reset, cust, by simp only [Admitted]; decide +kernel⟩,
  ⟨State.reset, cust, by simp only [Admitted]; decide +kernel⟩,
  ⟨State.reset, cust, by simp only [Admitted]; decide +kernel⟩⟩

/-- States and operands that meet the hypotheses of PathsKeepTheirTurn, clause by clause. -/
theorem witness_PathsKeepTheirTurn :
    (∃ (s : State), s.sys.boot.phase = .running) ∧
    (∃ (s : State), s.sys.boot.phase = .running ∧ s.sys.rd (ent 0x1100 3) ≠ 0) ∧
    (∃ (s : State) (p : Fin 4), s.sys.boot.phase = .running ∧ s.sys.rd (ent 0x1100 3) ≠ 0 ∧ s.sys.canOn p.val = true ∧ s.sys.rd (ent (0x1108 +
      p.val) 7) ≠ 2 ∧ s.sys.isShadow = false) ∧
    (∃ (s : State) (p : Fin 4), s.sys.canOn p.val = true ∧ s.sys.rd (ent (0x1108 + p.val) 7) ≠ 2 ∧ Room s) ∧
    (∃ (s : State) (p : Fin 4), s.sys.rd (ent (0x1108 + p.val) 7) = 2 ∧ Room s) ∧
    (∃ (s : State), s.sys.consoleOpen s.otp = true) ∧
    (∃ (s : State) (line : Bytes) (k : Nat) (off : Nat), s.sys.consoleOpen s.otp = true ∧ line.head? = some 82 ∧ consoleLine line = some (.read k
      off)) ∧
    (∃ (s : State) (line : Bytes) (k : Nat) (v : Bytes), s.sys.consoleOpen s.otp = true ∧ line.head? = some 87 ∧ consoleLine line = some (.write k
      v)) ∧
    (∃ (s : State) (at_ : Nat) (l : List (Nat × Bytes)), s.sys.den.saving = some (at_, l)) ∧
    (∃ (s : State) (a : BitVec 32), s.sys.rd (ent 0x1101 2) = 1 ∧ s.sys.rdB (ent 0x1101 8) ≠ le 4 a.toNat) :=
  ⟨⟨State.reset, by decide +kernel⟩,
  ⟨State.reset, by decide +kernel⟩,
  ⟨(put [(ent 0x1108 1, 1), (ent 0x1100 3, 100)]), 0, by decide +kernel⟩,
  ⟨(put [(ent 0x1108 1, 1), (ent 0x1100 3, 100)]), 0, by simp only [Room]; decide +kernel⟩,
  ⟨(put [(ent 0x1108 7, 2)]), 0, by simp only [Room]; decide +kernel⟩,
  ⟨State.reset, by decide +kernel⟩,
  ⟨State.reset, [82, 32, 49, 48, 48, 48, 58, 48, 49], 0x100001, 0, by decide +kernel⟩,
  ⟨State.reset, [87, 32, 49, 48, 48, 48, 58, 48, 49, 32, 65, 70], 0x100001, [0xAF], by decide +kernel⟩,
  ⟨(sys fun y => { y with den := { y.den with saving := some (3, []) } }), 3, [], by decide +kernel⟩,
  ⟨(put [(ent 0x1101 2, 1)]), 7, by decide +kernel⟩⟩

/-- States and operands that meet the hypotheses of RecordsAreIssuedReadAndTold, clause by clause. -/
theorem witness_RecordsAreIssuedReadAndTold :
    (∃ (s : State) (x : Fin 16) (f : Frame), s.sys.manifestDue x.val = some f ∧ s.otp.produces = true) ∧
    (∃ (s : State), s.otp.produces = false) ∧
    (∃ (s : State) (x : Fin 16) (f : Frame), (s.sys.frames.find? fun f => f.ctx == x.val && !f.recordIssued) = some f ∧ s.otp.produces = true) ∧
    (∃ (s : State) (n : Bytes), s.sys.sec.nonce = some n ∧ Room s) ∧
    (∃ (s : State) (r : EventRecord) (rest : List EventRecord), s.sys.boot.phase = .running ∧ s.sys.log.pending = r :: rest) :=
  ⟨⟨(flying [{ frame0 0 [] with manifestIssued := false }]), 0, { frame0 0 [] with manifestIssued := false }, by decide +kernel⟩,
  ⟨{ State.reset with otp := { State.reset.otp with stateFuses := [1, 2, 3, 4, 5] } }, by decide +kernel⟩,
  ⟨(flying [{ frame0 0 [] with recordIssued := false }]), 0, { frame0 0 [] with recordIssued := false }, by decide +kernel⟩,
  ⟨(sys fun y => { y with sec := { y.sec with nonce := some [7] } }), [7], by simp only [Room]; decide +kernel⟩,
  ⟨(sys fun y => { y with log := ⟨[⟨0, 1, 0, 255, []⟩], 0, []⟩ }), ⟨0, 1, 0, 255, []⟩, [], by decide +kernel⟩⟩

/-- States and operands that meet the hypotheses of TimeBaseFollowsItsSources, clause by clause. -/
theorem witness_TimeBaseFollowsItsSources :
    (∃ (s : State) (c : TimeSource), s.sys.tbState ≠ 1 ∧ s.sys.tbState ≠ 2 ∧ s.sys.timeSources = [c.code] ∧ s.sys.mayQualify c.code = true) ∧
    (∃ (s : State), s.sys.tbState = 1 ∧ s.sys.tbSource = 1 ∧ s.sys.time.acquired = false) ∧
    (∃ (s : State) (o : Int), s.sys.tbState = 1 ∧ o.natAbs ≤ s.sys.rd (ent 0x2301 0x0A) * 2 ^ 32 ∧ Room s) ∧
    (∃ (s : State) (o : Int), s.sys.tbState = 2 ∧ s.sys.rd (ent 0x2301 0x0A) * 2 ^ 32 < o.natAbs ∧ Room s) ∧
    (∃ (s : State) (c : TimeSource), s.sys.tbFollows = true ∧ s.sys.tbSource = c.code ∧ s.sys.timeSources = [c.code]) ∧
    (∃ (s : State) (h : Holdover), s.sys.tbState = 3 ∧ s.sys.time.hold = some h ∧ (s.sys.rd (ent 0x2301 6) : Rat) < holdError h s.sys.up ∧ Room s) ∧
    (∃ (s : State), s.sys.tbFollows = true ∧ s.sys.tbSource = 2) ∧
    (∃ (s : State) (v : BitVec 96), s.sys.tbState = 0 ∧ s.sys.rd (ent 0x2301 8) * 2 ^ 32 < ((v.toNat : Int) - s.sys.t96).natAbs ∧ s.sys.tbFollows =
      false) ∧
    (∃ (s : State) (w : BitVec 32) (v : Nat), s.sys.boot.phase = .running ∧ s.sys.tioHeld = false ∧ s.sys.rd (ent 0x2301 4) < 32 ∧ s.sys.tioFn
      (s.sys.rd (ent 0x2301 4)) = 2 ∧ 2 ∈ s.sys.timeSources ∧ 10 ≤ w.toNat ∧ s.sys.time.timeSet = some v) ∧
    (∃ (s : State) (w : BitVec 32), s.sys.boot.phase = .running ∧ s.sys.tioHeld = false ∧ s.sys.rd (ent 0x2301 4) < 32 ∧ s.sys.tioFn (s.sys.rd (ent
      0x2301 4)) = 2 ∧ 2 ∈ s.sys.timeSources ∧ 10 ≤ w.toNat ∧ s.sys.time.timeSet = none) ∧
    (∃ (w : BitVec 32), w.toNat < 10) :=
  ⟨⟨(put [(ent 0x2301 1, 1), (ent 0x2301 2, 0)]), .tref, by decide +kernel⟩,
  ⟨(put [(ent 0x2300 2, 1 + 8 * 1)]), by decide +kernel⟩,
  ⟨(put [(ent 0x2300 2, 1 + 8 * 1)]), 0, by simp only [Room]; decide +kernel⟩,
  ⟨(put [(ent 0x2300 2, 2 + 8 * 1)]), 2 ^ 70, by simp only [Room]; decide +kernel⟩,
  ⟨(put [(ent 0x2300 2, 2 + 8 * 1), (ent 0x2301 1, 1)]), .tref, by decide +kernel⟩,
  ⟨(on (put [(ent 0x2300 2, 3), (ent 0x2301 6, 0)]) fun y => { y with up := 1000000000000, time :=
    { y.time with hold := some ⟨0, 0, 0, 0, 0, false, false, 0⟩ } }), ⟨0, 0, 0, 0, 0, false, false, 0⟩, by simp only [Room]; decide +kernel⟩,
  ⟨(put [(ent 0x2300 2, 2 + 8 * 2)]), by decide +kernel⟩,
  ⟨(put [(ent 0x2300 2, 0 + 8 * 0)]), 2 ^ 95, by decide +kernel⟩,
  ⟨(on (put [(ent 0x2301 1, 2), (ent 0x2301 4, 3), (ent 0x2323 1, 2)]) fun y => { y with time := { y.time with timeSet := some 9 } }), 10, 9,
    by decide +kernel⟩,
  ⟨(put [(ent 0x2301 1, 2), (ent 0x2301 4, 3), (ent 0x2323 1, 2)]), 10, by decide +kernel⟩,
  ⟨0, by decide +kernel⟩⟩

/-- States and operands that meet the hypotheses of PtpPortsTalk, clause by clause. -/
theorem witness_PtpPortsTalk :
    (∃ (s : State) (p : Fin 9) (a : PtpAnnounce), s.sys.ptpHears p.val a.domain = true ∧ s.sys.ptpMode = 3 ∧ a.grandmaster.toNat ≠ clockIdentity
      s.otp.dieId) ∧
    (∃ (s : State) (p : Fin 9) (d : BitVec 8), s.sys.ptpHears p.val d = true ∧ s.sys.ptpState p.val = 9) ∧
    (∃ (s : State) (p : Fin 9) (d : BitVec 8) (seq : BitVec 16) (t2 : Nat), s.sys.ptpHears p.val d = true ∧ s.sys.ptpMode = 3 ∧ (s.sys.ptpPort
      p.val).sync = some (seq.toNat, t2)) ∧
    (∃ (s : State) (p : Fin 9) (d : BitVec 8), s.sys.ptpHears p.val d = true ∧ s.sys.ptpState p.val = 6) ∧
    (∃ (s : State) (p : Fin 9) (d : BitVec 8) (seq : BitVec 16) (t1 : Nat) (t2 : Nat) (t3 : Nat), s.sys.ptpHears p.val d = true ∧ (s.sys.ptpPort
      p.val).delay = some (seq.toNat, t3) ∧ (s.sys.ptpPort p.val).pair = some (t1, t2) ∧ s.sys.ptpState p.val = 9) ∧
    (∃ (s : State) (p : Fin 9) (c : Instr) (kind : Nat), (c, kind) ∈ [(.ptpAnnounceSend p, 11), (.ptpSyncSend p, 0), (.ptpMetadataSend p, 13)] ∧
      s.sys.inReset = false ∧ s.sys.ptpOn p.val = true ∧ s.sys.ptpState p.val = 6) ∧
    (∃ (s : State) (p : Fin 9), s.sys.ptpOn p.val = true ∧ s.sys.ptpState p.val = 9) ∧
    (∃ (s : State) (p : Fin 9), s.sys.ptpOn p.val = true ∧ s.sys.ptpMode = 2) ∧
    (∃ (s : State) (p : Fin 9) (a : PtpAnnounce), s.sys.ptpHears p.val a.domain = true ∧ s.sys.ptpMode = 2 ∧ a.grandmaster.toNat ≠ clockIdentity
      s.otp.dieId ∧ (s.sys.ptpPort p.val).foreign = []) ∧
    (∃ (s : State) (p : Fin 9) (a : PtpAnnounce), s.sys.ptpHears p.val a.domain = false) :=
  ⟨⟨(on (put [(ent 0x2302 1, 3), (ent 0x2302 2, 1)]) fun y => (y).wrB (ent 0x2303 7) [3]), 0, ⟨127, 0, 0, 0, 0, 0, 9, 0, 0, 0⟩, by decide +kernel⟩,
  ⟨(on (put [(ent 0x2302 1, 3), (ent 0x2302 2, 1)]) fun y => (y).wrB (ent 0x2303 7) [9]), 0, 127, by decide +kernel⟩,
  ⟨(on (put [(ent 0x2302 1, 3), (ent 0x2302 2, 1)]) fun y => (y.setPtp 0 { ptp0 with sync := some (0, 8) }).wrB (ent 0x2303 7) [9]), 0, 127, 0, 8,
    by decide +kernel⟩,
  ⟨(on (put [(ent 0x2302 1, 3), (ent 0x2302 2, 1)]) fun y => (y).wrB (ent 0x2303 7) [6]), 0, 127, by decide +kernel⟩,
  ⟨(on (put [(ent 0x2302 1, 3), (ent 0x2302 2, 1)]) fun y => (y.setPtp 0 { ptp0 with delay := some (0, 8), pair := some (1, 2) }).wrB (ent 0x2303 7)
    [9]), 0, 127, 0, 1, 2, 8, by decide +kernel⟩,
  ⟨(on (put [(ent 0x2302 1, 3), (ent 0x2302 2, 1)]) fun y => (y).wrB (ent 0x2303 7) [6]), 0, .ptpSyncSend 0, 0, by decide +kernel⟩,
  ⟨(on (put [(ent 0x2302 1, 3), (ent 0x2302 2, 1)]) fun y => (y).wrB (ent 0x2303 7) [9]), 0, by decide +kernel⟩,
  ⟨(on (put [(ent 0x2302 1, 2), (ent 0x2302 2, 1)]) fun y => (y).wrB (ent 0x2303 7) [9]), 0, by decide +kernel⟩,
  ⟨(on (put [(ent 0x2302 1, 2), (ent 0x2302 2, 1)]) fun y => (y).wrB (ent 0x2303 7) [6]), 0, ⟨127, 0, 0, 0, 0, 0, 9, 0, 0, 0⟩, by decide +kernel⟩,
  ⟨State.reset, 0, ⟨127, 0, 0, 0, 0, 0, 9, 0, 0, 0⟩, by decide +kernel⟩⟩

/-- States and operands that meet the hypotheses of TimingBallsAndLaunches, clause by clause. -/
theorem witness_TimingBallsAndLaunches :
    (∃ (s : State) (b : Fin 32), s.sys.tioFn b.val = 1) ∧
    (∃ (s : State) (b : Fin 32) (w : BitVec 32), s.sys.tioFn b.val = 7 ∧ 10 ≤ w.toNat ∧ s.sys.tioHeld = false ∧ s.sys.rd (ent 0x4C00 5) ≠ b.val ∧
      s.sys.rd (ent 0x4D00 5) ≠ b.val) ∧
    (∃ (s : State) (w : BitVec 32), (w.toNat < 10 ∨ s.sys.tioHeld = true)) ∧
    (∃ (s : State) (b : Bytes) (i : BitVec 16), b.length = 32 ∧ s.sys.launchOk (launchOf b i.toNat) = true ∧ s.sys.hostLaunches.length < 192) ∧
    (∃ (s : State) (b : Bytes) (i : BitVec 16), b.length = 32 ∧ s.sys.launchOk (launchOf b i.toNat) = true ∧ 192 ≤ s.sys.hostLaunches.length ∧ Room
      s) ∧
    (∃ (s : State) (c : Instr) (p : Launch → Bool) (id : BitVec 16) (i : BitVec 16), (c = .launchCancel id i ∧ p = (fun e => e.host && (e.id ==
      id.toNat && e.session == i.toNat)) ∨ c = .launchCancelAny id ∧ p = (fun e => e.host && e.id == id.toNat) ∨ c = .launchCancelAll ∧ p = (fun e
      => e.host)) ∧ s.sys.launches.any p = true ∧ ((∀ e ∈ s.sys.launches, p e = true → s.sys.t96 + 10000 * 2 ^ 32 ≤ e.time))) ∧
    (∃ (s : State) (e : Launch) (l : List Launch), s.sys.launches = e :: l ∧ e.host = true ∧ e.left = 0 ∧ s.sys.t96 ≤ e.time ∧ e.kind = 1) ∧
    (∃ (s : State) (e : Launch) (l : List Launch), s.sys.launches = e :: l ∧ e.host = true ∧ e.left = 0 ∧ e.time < s.sys.t96 ∧ (e.policy = 0 ∨
      e.policy = 2 ∧ e.time + e.window * 2 ^ 32 < s.sys.t96)) :=
  ⟨⟨(put [(ent 0x2320 1, 1)]), 0, by decide +kernel⟩,
  ⟨(put [(ent 0x2320 1, 7)]), 0, 10, by decide +kernel⟩,
  ⟨State.reset, 0, by decide +kernel⟩,
  ⟨State.reset, (List.replicate 12 0 ++ [4] ++ List.replicate 19 0), 0, by decide +kernel⟩,
  ⟨(sys fun y => { y with launches := List.replicate 192 (⟨0, 4, 0, 0, 0, 0, 0, 0, 0, 9, 5, true⟩ : Launch) }), (List.replicate 12 0 ++ [4] ++
    List.replicate 19 0), 0, by simp only [Room]; decide +kernel⟩,
  ⟨(sys fun y => { y with launches := [(⟨2 ^ 90, 1, 0, 0, 0, 0, 0, 0, 0, 9, 5, true⟩ : Launch)] }), .launchCancelAll, (fun e => e.host), 0, 0, .inr
    (.inr ⟨rfl, rfl⟩), by decide +kernel⟩,
  ⟨(sys fun y => { y with launches := [(⟨2 ^ 90, 1, 0, 0, 0, 0, 0, 0, 0, 9, 5, true⟩ : Launch)] }), (⟨2 ^ 90, 1, 0, 0, 0, 0, 0, 0, 0, 9, 5, true⟩ :
    Launch), [], by decide +kernel⟩,
  ⟨(sys fun y => { y with launches := [(⟨0, 1, 0, 0, 0, 0, 0, 0, 0, 9, 5, true⟩ : Launch)], t96 := 5 }), (⟨0, 1, 0, 0, 0, 0, 0, 0, 0, 9, 5, true⟩ :
    Launch), [], by decide +kernel⟩⟩

/-- States and operands that meet the hypotheses of LaneBringUpGoesStepByStep, clause by clause. -/
theorem witness_LaneBringUpGoesStepByStep :
    (∃ (s : State) (n : Fin 80), (s.sys.lane n.val).step = 2 ∧ n.val < 48) ∧
    (∃ (s : State) (n : Fin 80), (s.sys.lane n.val).step = 2 ∧ 48 ≤ n.val ∧ (s.sys.lane n.val).sends = .idle ∧ (s.sys.lane n.val).partner = false ∧
      s.sys.rd (ent (0x2400 + n.val) 1) ≠ 3 ∧ (s.sys.quadFn (quadOf n.val) = .garos ∨ s.sys.quadFn (quadOf n.val) = .felley ∧ s.sys.isShadow =
      false)) ∧
    (∃ (s : State) (n : Fin 80), s.sys.laneHas n.val .los = true ∧ (s.sys.lane n.val).step = 3) ∧
    (∃ (s : State) (n : Fin 80) (o : BitVec 32), (s.sys.lane n.val).step = 4 ∧ o.toInt.natAbs ≤ 3000) ∧
    (∃ (o : BitVec 32), 3000 < o.toInt.natAbs) ∧
    (∃ (s : State) (n : Fin 80) (pk : BitVec 8) (taps : BitVec 64), (s.sys.lane n.val).step = 5 ∧ equaliserOk pk.toNat (le 8 taps.toNat) = true) ∧
    (∃ (s : State) (n : Fin 80) (pk : BitVec 8) (taps : BitVec 64), s.sys.laneIs n.val .active = true ∧ (s.sys.lane n.val).step ≠ 5 ∧ equaliserOk
      pk.toNat (le 8 taps.toNat) = true ∧ s.sys.laneHas n.val .frozen = false) ∧
    (∃ (s : State) (n : Fin 80) (h : List (BitVec 2)), (s.sys.lane n.val).step = 6 ∧ (s.sys.lane n.val).quick = false ∧ ((s.sys.lane n.val).stored =
      none ∨ (s.sys.lane n.val).fresh = true) ∧ (n.val < 48 ∨ s.sys.quadFn (quadOf n.val) ≠ .prbs) ∧ 64 ≤ (hunt h).1) ∧
    (∃ (s : State) (n : Fin 80) (h : List (BitVec 2)), (s.sys.lane n.val).step = 6 ∧ (s.sys.lane n.val).quick = false ∧ (s.sys.lane n.val).stored ≠
      none ∧ (s.sys.lane n.val).fresh = false ∧ 64 ≤ (hunt h).1) ∧
    (∃ (s : State) (n : Fin 80) (h : List (BitVec 2)), (s.sys.lane n.val).step = 6 ∧ (s.sys.lane n.val).quick = true ∧ 4 ≤ h.length ∧ invalidHeaders
      (h.take 4) = 0 ∧ (s.sys.lane n.val).stored ≠ none ∧ (s.sys.lane n.val).fresh = false) ∧
    (∃ (s : State) (n : Fin 80) (h : List (BitVec 2)), (s.sys.lane n.val).step = 6 ∧ (hunt h).1 < 64 ∧ ((s.sys.lane n.val).quick = false ∨ 4 ≤
      h.length ∧ invalidHeaders (h.take 4) ≠ 0)) ∧
    (∃ (l : List (BitVec 2)), (∀ b ∈ l, headerOf b ≠ .invalid)) ∧
    (∃ (b : BitVec 2), headerOf b = .invalid) ∧
    (∃ (s : State) (n : Fin 80), ((s.sys.lane n.val).step = 4 ∨ (s.sys.lane n.val).step = 6) ∧ s.sys.rd (ent (0x2400 + n.val) 1) = 0 ∧ s.sys.laneIs
      n.val .bringup = true) ∧
    (∃ (s : State) (w : Writer) (n : Fin 80) (r : Bytes), Admitted s w (ent (0x2400 + n.val) 0x0E) r) ∧
    (∃ (s : State) (w : Writer) (n : Fin 80) (r : Bytes), (s.sys.arrival s.otp w (ent (0x2400 + n.val) 0x0E) r).1 = .ok) ∧
    (∃ (s : State) (n : Fin 80), rdLe (s.sys.rdB (ent (0x2400 + n.val) 0x0F)) 0 1 = 1) :=
  ⟨⟨(on State.reset fun y => y.setLane 0 { lane0 with step := 2 }), 0, by decide +kernel⟩,
  ⟨(on (put [(ent 0x2430 1, 0), (ent 0x2488 1, 3)]) fun y => y.setLane 48 { lane0 with step := 2 }), 48, by decide +kernel⟩,
  ⟨(on (put [(ent 0x2400 3, 1)]) fun y => y.setLane 0 { lane0 with step := 3 }), 0, by decide +kernel⟩,
  ⟨(on State.reset fun y => y.setLane 79 { lane0 with step := 4 }), 79, 3000, by decide +kernel⟩,
  ⟨3001, by decide +kernel⟩,
  ⟨(on State.reset fun y => y.setLane 0 { lane0 with step := 5 }), 0, 0, 0, by decide +kernel⟩,
  ⟨(on (put [(ent 0x2400 2, 0), (ent 0x2400 3, 0)]) fun y => y.setLane 0 { lane0 with step := 8 }), 0, 0, 0, by decide +kernel⟩,
  ⟨(on State.reset fun y => y.setLane 47 { lane0 with step := 6 }), 47, (List.replicate 64 1), by decide +kernel⟩,
  ⟨(on (put [(ent 0x2400 1, 0)]) fun y => y.setLane 0 { lane0 with step := 6, stored := some (0, false) }), 0, (List.replicate 64 1),
    by decide +kernel⟩,
  ⟨(on (put [(ent 0x2400 1, 0)]) fun y => y.setLane 0 { lane0 with step := 6, stored := some (0, false), quick := true }), 0, [1, 1, 1, 1],
    by decide +kernel⟩,
  ⟨(on State.reset fun y => y.setLane 0 { lane0 with step := 6 }), 0, [0], by decide +kernel⟩,
  ⟨[], by decide +kernel⟩,
  ⟨0, by decide +kernel⟩,
  ⟨(on (put [(ent 0x2400 1, 0), (ent 0x2400 2, 4)]) fun y => y.setLane 0 { lane0 with step := 6 }), 0, by decide +kernel⟩,
  ⟨(put [(ent 0x2400 2, 0)]), cust, 0, [31, 31, 0, 0, 1, 0, 0, 0], by simp only [Admitted]; decide +kernel⟩,
  ⟨(put [(ent 0x2400 2, 0)]), cust, 0, [31, 31, 0, 0, 1, 0, 0, 0], by decide +kernel⟩,
  ⟨(on State.reset fun y => y.wrB (ent 0x2400 0x0F) [1]), 0, by decide +kernel⟩⟩

/-- States and operands that meet the hypotheses of LanesLoseAndRegainLock, clause by clause. -/
theorem witness_LanesLoseAndRegainLock :
    (∃ (i : Nat) (p : Nat), i < 64 ∧ p < 256) ∧
    (∃ (s : State) (n : Fin 80), s.sys.laneIs n.val .active = true ∧ s.sys.laneHas n.val .los = false) ∧
    (∃ (s : State) (n : Fin 80), s.sys.laneIs n.val .active = true ∧ (s.sys.lane n.val).step = 0 ∧ s.sys.laneHas n.val .cdr = true ∧ s.sys.laneHas
      n.val .los = false) ∧
    (∃ (s : State) (n : Fin 80) (h : List (BitVec 2)), s.sys.laneIs n.val .active = true ∧ s.sys.laneHas n.val .block = true ∧ h.length = 64 ∧ 16 ≤
      invalidHeaders h) ∧
    (∃ (s : State) (n : Fin 80) (h : List (BitVec 2)), s.sys.laneIs n.val .active = true ∧ s.sys.laneHas n.val .block = true ∧ (h.length ≠ 64 ∨
      invalidHeaders h < 16)) ∧
    (∃ (s : State) (n : Fin 80) (r : LaneReport), s.sys.laneIs n.val .active = true ∧ 97 < r.window.toNat) ∧
    (∃ (r : LaneReport), r.window.toNat ≤ 97) ∧
    (∃ (y : Sys) (n : Nat), 48 ≤ n ∧ n < 80 ∧ y.quadFn (quadOf n) = .eth100) ∧
    (∃ (y : Sys) (n : Nat), 48 ≤ n ∧ n < 80 ∧ y.quadFn (quadOf n) = .prbs) ∧
    (∃ (s : State) (n : Fin 80) (w : TrainingInput) (m : Training), (s.sys.lane n.val).step = 7 ∧ s.sys.laneIs n.val .active = false ∧
      s.sys.heardTraining n.val w = some m ∧ s.sys.laneProtocol n.val = m.protocol ∧ s.sys.rd (ent (0x2400 + n.val) 5) = 0 ∧ m.index % 16 <
      (s.sys.enabledMates n.val).length ∧ let r := s.sys.reportRound n.val; (s.sys.setLane n.val
      { s.sys.lane n.val with heard := some (m.index % 16), round := r }).indexTaken n.val (m.index % 16) r = false) ∧
    (∃ (s : State) (n : Fin 80), (s.sys.lane n.val).step = 7 ∧ s.sys.laneIs n.val .bringup = true ∧ (s.sys.lane n.val).later = none) :=
  ⟨⟨0, 0, by decide +kernel⟩,
  ⟨(put [(ent 0x2400 2, 0), (ent 0x2400 3, 0)]), 0, by decide +kernel⟩,
  ⟨(put [(ent 0x2400 2, 0), (ent 0x2400 3, 2)]), 0, by decide +kernel⟩,
  ⟨(put [(ent 0x2400 2, 0), (ent 0x2400 3, 4)]), 0, (List.replicate 16 0 ++ List.replicate 48 1), by decide +kernel⟩,
  ⟨(put [(ent 0x2400 2, 0), (ent 0x2400 3, 4)]), 0, (List.replicate 15 0 ++ List.replicate 49 1), by decide +kernel⟩,
  ⟨(put [(ent 0x2400 2, 0)]), 0, ⟨98, 98, [], 0, 0⟩, by decide +kernel⟩,
  ⟨⟨0, 97, [], 0, 0⟩, by decide +kernel⟩,
  ⟨(put [(ent 0x2488 1, 1)]).sys, 48, by decide +kernel⟩,
  ⟨(put [(ent 0x2488 1, 4), (ent 0x2488 5, 0)]).sys, 48, by decide +kernel⟩,
  ⟨(on (put [(ent 0x2400 1, 0), (ent 0x2400 2, 4), (ent 0x2400 5, 0), (ent 0x2401 1, 0), (ent 0x2401 2, 4), (ent 0x2401 5, 0)]) fun y => y.setLane 0
    { lane0 with step := 7 }), 0, (.blocks ((List.range 16).map fun i => (0, trainingBlock 0 1 1 true i))), ⟨1, 1, true, false⟩,
    by dsimp only; decide +kernel⟩,
  ⟨(on (put [(ent 0x2400 2, 4)]) fun y => y.setLane 0 { lane0 with step := 7 }), 0, by decide +kernel⟩⟩

/-- States and operands that meet the hypotheses of LanesGroupsAndQuadsObey, clause by clause. -/
theorem witness_LanesGroupsAndQuadsObey :
    (∃ (s : State) (w : Writer) (n : Fin 80), Admitted s w (ent (0x2400 + n.val) 1) (le 2 1) ∧ s.sys.laneIs n.val .active = true ∧ n.val < 48 ∧
      s.sys.domainRun 24 = true) ∧
    (∃ (s : State) (w : Writer) (n : Fin 80), Admitted s w (ent (0x2400 + n.val) 1) (le 2 0) ∧ s.sys.laneIs n.val .quiet = true ∧ (s.sys.lane
      n.val).stored ≠ none ∧ s.sys.domainRun (laneDomain n.val) = true ∧ (n.val < 48 ∨ s.sys.quadFn (quadOf n.val) ≠ .off)) ∧
    (∃ (s : State) (w : Writer) (n : Fin 80), Admitted s w (ent (0x2400 + n.val) 1) (le 2 3) ∧ s.sys.laneIs n.val .domainOff = false) ∧
    (∃ (s : State) (n : Fin 80) (v : Nat), 48 ≤ n.val ∧ s.sys.quadFn (quadOf n.val) = .eth100 ∧ (v = 1 ∨ v = 2)) ∧
    (∃ (s : State) (w : Writer) (r : Fin 16), Admitted s w (if r.val < 8 then ent (0x2480 + r.val) 5 else ent (0x2488 + (r.val - 8)) 0x0A) (le 1 1))
      ∧
    (∃ (s : State) (w : Writer) (g : Fin 8) (r : BitVec 32), Admitted s w (ent (0x2480 + g.val) 1) (le 4 r.toNat)) ∧
    (∃ (s : State) (g : Fin 8) (r : BitVec 32), ((s.sys.owner g.val).isSome = true ∨ r.toNat < 2500000 ∨ 20625000 < r.toNat)) ∧
    (∃ (s : State) (w : Writer) (q : Fin 8) (f : BitVec 16), Granted s w (ent (0x2488 + q.val) 1) (le 2 f.toNat)) ∧
    (∃ (s : State) (w : Writer), Granted s w (ent 0x4D00 6) (le 2 2)) :=
  ⟨⟨(put [(ent 0x2400 2, 0)]), cust, 0, by simp only [Admitted]; decide +kernel⟩,
  ⟨(on (put [(ent 0x2400 1, 1), (ent 0x2400 2, 1)]) fun y => y.setLane 0 { lane0 with step := 8, stored := some 0 }), cust, 0,
    by simp only [Admitted]; decide +kernel⟩,
  ⟨(put [(ent 0x2400 2, 0)]), cust, 0, by simp only [Admitted]; decide +kernel⟩,
  ⟨(put [(ent 0x2488 1, 1)]), 48, 1, by decide +kernel⟩,
  ⟨State.reset, cust, 0, by simp only [Admitted]; decide +kernel⟩,
  ⟨(put [(ent 0x3018 1, 255)]), cust, 0, 16000000, by simp only [Admitted]; decide +kernel⟩,
  ⟨(put [(ent 0x3018 1, 7)]), 0, 0, by decide +kernel⟩,
  ⟨State.reset, cust, 0, 4, by simp only [Granted, Admitted]; decide +kernel⟩,
  ⟨(put [(ent 0x4D00 1, 1), (ent 0x4D01 1, 4)]), cust, by simp only [Granted, Admitted]; decide +kernel⟩⟩

set_option maxRecDepth 100000 in
/-- States and operands that meet the hypotheses of FramesArriveLineByLine, clause by clause. -/
theorem witness_FramesArriveLineByLine :
    (∃ (s : State) (g : Fin 8) (l : Fin 6) (n : BitVec 32) (skew : Nat), skew ≤ 64 ∧ ((s.sys.ig g.val).marked = [] ∨ (s.sys.ig g.val).marker =
      n.toNat ∧ l.val ∉ (s.sys.ig g.val).marked)) ∧
    (∃ (s : State) (g : Fin 8) (l : Fin 6) (n : BitVec 32) (skew : Nat), (64 < skew ∨ (s.sys.ig g.val).marked ≠ [] ∧ ((s.sys.ig g.val).marker ≠
      n.toNat ∨ l.val ∈ (s.sys.ig g.val).marked)) ∧ s.sys.owner g.val = none ∧ Room s) ∧
    (∃ (s : State) (g : Fin 8) (p : FrameStart) (x : Nat), s.sys.leads g.val = some x ∧ (s.sys.ig g.val).quiet = false ∧
      let n := ((s.sys.ctx x).last.map Prod.snd).getD 0 + 1; let lanes := s.sys.valueAt x n (ent (0x3000 + x) 2) = 0; ((lanes → (s.sys.ig
      g.val).resync = false ∧ p.stream.val = s.sys.valueAt x n (ent (0x3000 + x) 4) ∧ p.gidx.val = 0))) ∧
    (∃ (s : State) (x : Nat), (s.sys.ctx x).last.isSome = true ∧ 100 * (s.sys.up - (s.sys.ctx x).lastAt) < 98 * s.sys.rd (ent (0x3000 + x) 8) ∧ Room
      s) ∧
    (∃ (s : State) (g : Fin 8) (p : FrameStart) (x : Nat) (f : Frame), s.sys.lanesOf g.val = some x ∧ (s.sys.ig g.val).resync = false ∧ (s.sys.ig
      g.val).quiet = false ∧ p.stream.val = s.sys.rd (ent (0x3000 + x) 4) ∧ p.gidx.val = s.sys.rd (ent (0x3018 + g.val) 2) ∧ (s.sys.ctx
      x).discarding ≠ some p.counter.toNat ∧ s.sys.newest? x = some f ∧ f.counter = p.counter.toNat ∧ f.inSkew s.sys.t96 = true ∧ (f.groups.any fun
      fg => fg.group == g.val && !fg.started && !fg.ended) = true) ∧
    (∃ (s : State) (g : Fin 8) (x : Nat) (f : Frame) (fg : FrameGroup), s.sys.owner g.val = some x ∧ s.sys.newest? x = some f ∧ (f.groups.find? fun
      fg => fg.group == g.val && !fg.started && !fg.ended) = some fg) ∧
    (∃ (s : State) (g : Fin 8) (h : PacketHeader) (b : Bytes) (tr : List (BitVec 32)) (x : Nat) (f : Frame) (fg : FrameGroup), Takes s g.val h x f
      fg ∧ strayReason s.sys x f fg h.stream.val h.gidx.val h.number.toNat = none ∧ (f.outstanding fg).filter (· < h.number.toNat) = [] ∧
      failedLanes (s.sys.view.groupWidth g.val) b tr = 0 ∧ f.gen.lineBytes x (f.gen.depth x) ≤ b.length ∧ x < 8 ∧ s.sys.occupancy g.val < 3072) ∧
    (∃ (s : State) (g : Fin 8) (h : PacketHeader) (x : Nat) (f : Frame) (fg : FrameGroup), Takes s g.val h x f fg ∧ strayReason s.sys x f fg
      h.stream.val h.gidx.val h.number.toNat = none) ∧
    (∃ (s : State) (g : Fin 8) (h : PacketHeader) (x : Nat) (r : Nat) (f : Frame) (fg : FrameGroup), Takes s g.val h x f fg ∧ strayReason s.sys x f
      fg h.stream.val h.gidx.val h.number.toNat = some r) ∧
    (∃ (s : State) (g : Fin 8), (s.sys.lanesOf g.val).isSome = true ∧ (s.sys.ig g.val).resync = false ∧ (s.sys.ig g.val).quiet = false ∧ (s.sys.ig
      g.val).discarding = true) ∧
    (∃ (s : State) (g : Fin 8) (h : PacketHeader) (x : Nat) (f : Frame) (fg : FrameGroup), Takes s g.val h x f fg ∧ fg.gidx = 0) ∧
    (∃ (s : State) (g : Fin 8) (h : PacketHeader) (x : Nat) (f : Frame) (fg : FrameGroup), Takes s g.val h x f fg ∧ f.counter = h.number.toNat) ∧
    (∃ (s : State) (x : Fin 16) (f : Frame), s.sys.newest? x.val = some f ∧ f.complete = false ∧ ((∀ h ∈ s.sys.frames, h.ctx = f.ctx → h.num = f.num
      → h = f))) ∧
    (∃ (s : State) (g : Fin 8), s.sys.owner g.val = none) ∧
    (∃ (s : State) (g : Fin 8) (x : Nat), s.sys.owner g.val = some x ∧ s.sys.rd (ent (0x3000 + x) 2) ≠ 1 ∧ s.sys.openFrame g.val = none ∧
      s.sys.ctxState x = 2) ∧
    (∃ (s : State) (g : Fin 8) (x : Nat), s.sys.owner g.val = some x ∧ s.sys.rd (ent (0x3000 + x) 2) = 1) ∧
    (∃ (y : Sys) (g : Nat) (x : Nat), y.owner g = some x) :=
  ⟨⟨State.reset, 0, 0, 0, 0, by decide +kernel⟩,
  ⟨State.reset, 0, 0, 0, 65, by simp only [Room]; decide +kernel⟩,
  ⟨(on (put [(ent 0x3000 1, 1), (ent 0x3000 2, 1), (ent 0x3000 3, 1), (ent 0x3000 4, 0), (ent 0x3018 1, 0)]) fun y => y), 0, ⟨0, 0, 1, 9, 0, 0, 0,
    0, 0, false, 0, [], 0, []⟩, 0, by dsimp only; decide +kernel⟩,
  ⟨(on (put [(ent 0x3000 1, 1), (ent 0x3000 2, 1), (ent 0x3000 3, 1), (ent 0x3000 4, 0), (ent 0x3018 1, 0)]) fun y => y.setCtx 0
    { ctx0 with last := some (1, 1) }), 0, by simp only [Room]; decide +kernel⟩,
  ⟨(on (put [(ent 0x3000 1, 1), (ent 0x3000 2, 0), (ent 0x3000 3, 1), (ent 0x3000 4, 0), (ent 0x3018 1, 0), (ent 0x3018 2, 0), (ent 0x3008 1, 2)])
    fun y => { y with t96 := 0, frames := [{ frame4 ⟨0, 0, false, false, false, none⟩ with latch := 0 }] }), 0, ⟨0, 0, 1, 0, 0, 0, 0, 0, 0, false,
    0, [], 0, []⟩, 0, { frame4 ⟨0, 0, false, false, false, none⟩ with latch := 0 }, by decide +kernel⟩,
  ⟨(on (put [(ent 0x3000 1, 1), (ent 0x3000 2, 1), (ent 0x3000 3, 1), (ent 0x3000 4, 0), (ent 0x3018 1, 0)]) fun y =>
    { y with frames := [frame4 ⟨0, 0, false, false, false, none⟩] }), 0, 0, frame4 ⟨0, 0, false, false, false, none⟩, ⟨0, 0, false, false, false,
    none⟩, by decide +kernel⟩,
  ⟨(on (put [(ent 0x3000 1, 1), (ent 0x3000 2, 0), (ent 0x3000 3, 1), (ent 0x3000 4, 0), (ent 0x3018 1, 0), (ent 0x3018 2, 0), (ent 0x3008 1, 2),
    (ent 0x2400 1, 0), (ent 0x2401 1, 3), (ent 0x2402 1, 3), (ent 0x2403 1, 3), (ent 0x2404 1, 3), (ent 0x2405 1, 3)]) fun y =>
    { y with frames := [frame4 ⟨0, 0, true, false, false, none⟩] }), 0, ⟨0, 0, 0⟩, (List.replicate 100 0), [BitVec.ofNat 32 (crc32c (laneData 1 0
    (List.replicate 100 0))).toNat], 0, frame4 ⟨0, 0, true, false, false, none⟩, ⟨0, 0, true, false, false, none⟩,
    by simp only [Takes]; decide +kernel⟩,
  ⟨(on (put [(ent 0x3000 1, 1), (ent 0x3000 2, 0), (ent 0x3000 3, 1), (ent 0x3000 4, 0), (ent 0x3018 1, 0), (ent 0x3018 2, 0), (ent 0x3008 1, 2),
    (ent 0x2400 1, 0), (ent 0x2401 1, 3), (ent 0x2402 1, 3), (ent 0x2403 1, 3), (ent 0x2404 1, 3), (ent 0x2405 1, 3)]) fun y =>
    { y with frames := [frame4 ⟨0, 0, true, false, false, none⟩] }), 0, ⟨0, 0, 0⟩, 0, frame4 ⟨0, 0, true, false, false, none⟩, ⟨0, 0, true, false,
    false, none⟩, by simp only [Takes]; decide +kernel⟩,
  ⟨(on (put [(ent 0x3000 1, 1), (ent 0x3000 2, 0), (ent 0x3000 3, 1), (ent 0x3000 4, 0), (ent 0x3018 1, 0), (ent 0x3018 2, 0), (ent 0x3008 1, 2),
    (ent 0x2400 1, 0), (ent 0x2401 1, 3), (ent 0x2402 1, 3), (ent 0x2403 1, 3), (ent 0x2404 1, 3), (ent 0x2405 1, 3)]) fun y =>
    { y with frames := [frame4 ⟨0, 0, true, false, false, none⟩] }), 0, ⟨0, 0, 9⟩, 0, 3, frame4 ⟨0, 0, true, false, false, none⟩, ⟨0, 0, true,
    false, false, none⟩, by simp only [Takes]; decide +kernel⟩,
  ⟨(on (put [(ent 0x3000 1, 1), (ent 0x3000 2, 0), (ent 0x3018 1, 0), (ent 0x3008 1, 2)]) fun y => y.setIg 0 { ig0 with discarding := true }), 0,
    by decide +kernel⟩,
  ⟨(on (put [(ent 0x3000 1, 1), (ent 0x3000 2, 0), (ent 0x3000 3, 1), (ent 0x3000 4, 0), (ent 0x3018 1, 0), (ent 0x3018 2, 0), (ent 0x3008 1, 2),
    (ent 0x2400 1, 0), (ent 0x2401 1, 3), (ent 0x2402 1, 3), (ent 0x2403 1, 3), (ent 0x2404 1, 3), (ent 0x2405 1, 3)]) fun y =>
    { y with frames := [frame4 ⟨0, 0, true, false, false, none⟩] }), 0, ⟨0, 0, 0⟩, 0, frame4 ⟨0, 0, true, false, false, none⟩, ⟨0, 0, true, false,
    false, none⟩, by simp only [Takes]; decide +kernel⟩,
  ⟨(on (put [(ent 0x3000 1, 1), (ent 0x3000 2, 0), (ent 0x3000 3, 1), (ent 0x3000 4, 0), (ent 0x3018 1, 0), (ent 0x3018 2, 0), (ent 0x3008 1, 2),
    (ent 0x2400 1, 0), (ent 0x2401 1, 3), (ent 0x2402 1, 3), (ent 0x2403 1, 3), (ent 0x2404 1, 3), (ent 0x2405 1, 3)]) fun y =>
    { y with frames := [frame4 ⟨0, 0, true, false, false, none⟩] }), 0, ⟨0, 0, 0⟩, 0, frame4 ⟨0, 0, true, false, false, none⟩, ⟨0, 0, true, false,
    false, none⟩, by simp only [Takes]; decide +kernel⟩,
  ⟨(on (put [(ent 0x3000 1, 1), (ent 0x3000 2, 1), (ent 0x3000 3, 1), (ent 0x3000 4, 0), (ent 0x3018 1, 0)]) fun y =>
    { y with frames := [frame4 ⟨0, 0, true, false, false, none⟩] }), 0, frame4 ⟨0, 0, true, false, false, none⟩, by decide +kernel⟩,
  ⟨State.reset, 0, by decide +kernel⟩,
  ⟨(put [(ent 0x3018 1, 0), (ent 0x3008 1, 2)]), 0, 0, by decide +kernel⟩,
  ⟨(put [(ent 0x3018 1, 0), (ent 0x3000 2, 1)]), 0, 0, by decide +kernel⟩,
  ⟨(put [(ent 0x3018 1, 0)]).sys, 0, 0, by decide +kernel⟩⟩

/-- States and operands that meet the hypotheses of ContextsAndSensorPortsObey, clause by clause. -/
theorem witness_ContextsAndSensorPortsObey :
    (∃ (s : State) (g : Fin 8) (x : Nat) (f : Frame), s.sys.owner g.val = some x ∧ s.sys.newest? x = some f ∧ (f.groups.any fun fg => fg.group ==
      g.val && fg.ended) = true ∧ s.sys.rd (ent (0x3000 + x) 0x0E) = 1) ∧
    (∃ (s : State) (w : Writer) (x : Fin 8) (m : CtxMode), Granted s w (ent (0x3000 + x.val) 1) (le 2 (ctxModeCode m))) ∧
    (∃ (s : State) (p : Fin 8) (l : SensorList) (r : List SensorList), (s.sys.port p.val).lists = l :: r ∧ l.started = false ∧ (s.sys.port
      p.val).hostOnWire = false) ∧
    (∃ (s : State) (p : Fin 8) (l : SensorList), (s.sys.port p.val).lists.head? = some l ∧ l.ctx < 8 ∧ Room s) ∧
    (∃ (s : State) (p : Fin 8) (r : Bytes), transactionOk r = true ∧ s.sys.isShadow = false ∧ s.sys.portMode p.val ≠ 0 ∧ (s.sys.port p.val).host =
      none ∧ (s.sys.port p.val).hostOnWire = false) ∧
    (∃ (s : State) (p : Fin 8), (s.sys.port p.val).hostOnWire = true) :=
  ⟨⟨(on (put [(ent 0x3000 1, 1), (ent 0x3000 2, 1), (ent 0x3000 3, 1), (ent 0x3000 4, 0), (ent 0x3018 1, 0), (ent 0x3000 0x0E, 1)]) fun y =>
    { y with frames := [frame4 ⟨0, 0, true, true, false, none⟩] }), 0, 0, frame4 ⟨0, 0, true, true, false, none⟩, by decide +kernel⟩,
  ⟨State.reset, cust, 0, .disabled, by simp only [Granted, Admitted]; decide +kernel⟩,
  ⟨(on State.reset fun y => y.setPort 0 ⟨[⟨0, 5, 0, [], false, 0⟩], none, false, none⟩), 0, ⟨0, 5, 0, [], false, 0⟩, [], by decide +kernel⟩,
  ⟨(on State.reset fun y => y.setPort 0 ⟨[⟨0, 5, 0, [], false, 0⟩], none, false, none⟩), 0, ⟨0, 5, 0, [], false, 0⟩,
    by simp only [Room]; decide +kernel⟩,
  ⟨(put [(ent 0x3028 1, 1)]), 0, [1, 0, 0, 0, 0, 1], by decide +kernel⟩,
  ⟨(on State.reset fun y => y.setPort 0 ⟨[], none, true, none⟩), 0, by decide +kernel⟩⟩

/-- States and operands that meet the hypotheses of BoundariesRecordsAndStripesEnd, clause by clause. -/
theorem witness_BoundariesRecordsAndStripesEnd :
    (∃ (s : State) (c : Fin 24), s.sys.view.chanOn c.val = true ∧ s.sys.den.latched = []) ∧
    (∃ (s : State) (x : Fin 16) (f : Frame), s.sys.statsDue x.val = some f ∧ f.gen.rd (ent (0x3400 + x.val) 9) ≠ 0 ∧ f.gen.usesRfe x.val = true) ∧
    (∃ (s : State), s.sys.view.role = 3 ∧ s.sys.rd (ent 0x4C01 6) = s.sys.arrayPos) ∧
    (∃ (s : State) (q : Fin 24) (x : Nat) (n : Nat) (k : Nat) (f : Frame) (st : Stripe), (s.sys.troupe q.val).held = some (x, n, k) ∧ s.sys.frame? x
      n = some f ∧ f.stripe? k = some st ∧ f.gen.segs x ≤ st.freed) ∧
    (∃ (s : State) (q : Fin 24), (s.sys.troupe q.val).held = none) :=
  ⟨⟨(put [(ent 0x4100 1, 1)]), 0, by decide +kernel⟩,
  ⟨(flying [{ frame4 ⟨0, 0, true, true, false, none⟩ with cutRaw := true }]), 0, { frame4 ⟨0, 0, true, true, false, none⟩ with cutRaw := true },
    by decide +kernel⟩,
  ⟨(put [(ent 0x2010 1, 3), (ent 0x4C01 6, 0)]), by decide +kernel⟩,
  ⟨(on (flying [frame0 0 [{ stripe0 with freed := 9 }]]) fun y => y.setTroupe 0 { troupe0 0 with held := some (0, 5, 0) }), 0, 0, 5, 0, frame0 0
    [{ stripe0 with freed := 9 }], { stripe0 with freed := 9 }, by decide +kernel⟩,
  ⟨State.reset, 0, by decide +kernel⟩⟩

/-- States and operands that meet the hypotheses of VectorAndScalarIntegerInstructions, clause by clause. -/
theorem witness_VectorAndScalarIntegerInstructions :
    (∃ (s : State) (e : Fin 384) (d : Fin 64) (a : Fin 64) (b : Fin 64) (pr : Fin 8) (pn : Bool) (c : Instr) (f : W32 → W32 → W32), ((c, f) ∈
      ([(.iadd e d a b pr pn, fun x y => x + y), (.isub e d a b pr pn, fun x y => x - y), (.imul e d a b pr pn, fun x y => x * y), (.imin e d a b pr
      pn, fun x y => if x.slt y then x else y), (.imax e d a b pr pn, fun x y => if x.slt y then y else x), (.and e d a b pr pn, fun x y => x &&&
      y), (.or e d a b pr pn, fun x y => x ||| y), (.xor e d a b pr pn, fun x y => x ^^^ y), (.shl e d a b pr pn, fun x y => x <<< (y.toNat % 32)),
      (.shr e d a b pr pn, fun x y => x >>> (y.toNat % 32)), (.sar e d a b pr pn, fun x y => x.sshiftRight (y.toNat % 32))] : List (Instr × (W32 →
      W32 → W32)))) ∧ Ready s e.val [(fileV, a.val), (fileV, b.val), (fileP, pr.val), (fileV, d.val)]) ∧
    (∃ (s : State) (e : Fin 384) (d : Fin 64) (imm : BitVec 16) (c : Instr) (f : W32 → W32), ((c, f) ∈ ([(.movl e d imm, fun _ => imm.zeroExtend
      32), (.movh e d imm, fun x => imm ++ x.truncate 16), (.movf e d imm, fun _ => cvtFH (imm.zeroExtend 32))] : List (Instr × (W32 → W32)))) ∧
      Ready s e.val [(fileV, d.val)]) ∧
    (∃ (s : State) (e : Fin 384) (d : Fin 64) (a : Fin 64) (b : Fin 64) (i : Fin 16) (pr : Fin 8) (pn : Bool) (c : Instr) (take : Nat → Bool) (f :
      Nat → W32), let g := s.sys.engine e.val; (c = .mov e d a pr pn ∧ take = g.part pr.val pn ∧ f = g.rv a.val ∨ c = .bcast e d i pr pn ∧ take =
      g.part pr.val pn ∧ f = (fun _ => g.rs i.val) ∨ c = .laneid e d pr pn ∧ take = g.part pr.val pn ∧ f = BitVec.ofNat 32 ∨ c = .sel e d a b pr pn
      ∧ take = (fun _ => true) ∧ f = (fun k => if g.part pr.val pn k then g.rv a.val k else g.rv b.val k)) ∧ Ready s e.val [(fileV, a.val), (fileV,
      b.val), (fileS, i.val), (fileP, pr.val), (fileV, d.val)]) ∧
    (∃ (s : State) (e : Fin 384) (d : Fin 16) (a : Fin 16) (b : Fin 16) (c : Instr) (f : W32 → W32 → W32), ((c, f) ∈ ([(.sadd e d a b, fun x y => x
      + y), (.ssub e d a b, fun x y => x - y), (.smul e d a b, fun x y => x * y), (.smin e d a b, fun x y => if x.slt y then x else y), (.smax e d a
      b, fun x y => if x.slt y then y else x), (.sand e d a b, fun x y => x &&& y), (.sor e d a b, fun x y => x ||| y), (.sxor e d a b, fun x y => x
      ^^^ y), (.sshl e d a b, fun x y => x <<< (y.toNat % 32)), (.sshr e d a b, fun x y => x >>> (y.toNat % 32)), (.ssar e d a b, fun x y =>
      x.sshiftRight (y.toNat % 32)), (.smov e d a, fun x _ => x)] : List (Instr × (W32 → W32 → W32)))) ∧ Ready s e.val [(fileS, a.val), (fileS,
      b.val), (fileS, d.val)]) ∧
    (∃ (s : State) (e : Fin 384) (d : Fin 16) (imm : BitVec 16) (c : Instr) (f : W32 → W32), ((c, f) ∈ ([(.smovl e d imm, fun _ => imm.zeroExtend
      32), (.smovh e d imm, fun x => imm ++ x.truncate 16), (.saddi e d imm, fun x => x + imm.signExtend 32)] : List (Instr × (W32 → W32)))) ∧ Ready
      s e.val [(fileS, d.val)]) ∧
    (∃ (s : State) (e : Fin 384) (d : Fin 16) (b : Fin 16) (a : Fin 64) (p : Fin 8) (c : Instr) (v : W32), let g := s.sys.engine e.val; (c = .extr e
      d a b ∧ v = g.rv a.val ((g.rs b.val).toNat % 16) ∨ c = .ptos e d p ∧ v = (g.rp p.val).zeroExtend 32) ∧ Ready s e.val [(fileV, a.val), (fileS,
      b.val), (fileP, p.val), (fileS, d.val)]) :=
  ⟨⟨(running id), 0, 0, 0, 0, 0, false, _, _, .head _, by simp only [Ready, InTime]; decide +kernel⟩,
  ⟨(running id), 0, 0, 0, _, _, .head _, by simp only [Ready, InTime]; decide +kernel⟩,
  ⟨(running id), 0, 0, 0, 0, 0, 0, false, _, _, _, .inl ⟨rfl, rfl, rfl⟩, by simp only [Ready, InTime]; decide +kernel⟩,
  ⟨(running id), 0, 0, 0, 0, _, _, .head _, by simp only [Ready, InTime]; decide +kernel⟩,
  ⟨(running id), 0, 0, 0, _, _, .head _, by simp only [Ready, InTime]; decide +kernel⟩,
  ⟨(running id), 0, 0, 0, 0, 0, _, _, .inl ⟨rfl, rfl⟩, by simp only [Ready, InTime]; decide +kernel⟩⟩

/-- States and operands that meet the hypotheses of CompareAndPredicateInstructions, clause by clause. -/
theorem witness_CompareAndPredicateInstructions :
    (∃ (s : State) (e : Fin 384) (d : Fin 8) (a : Fin 64) (b : Fin 64) (pr : Fin 8) (pn : Bool) (c : Instr) (f : W32 → W32 → Bool), ((c, f) ∈
      ([(.icmpEq e d a b pr pn, fun x y => x == y), (.icmpLt e d a b pr pn, fun x y => x.slt y), (.icmpLtu e d a b pr pn, fun x y => x.ult y),
      (.fcmpEq e d a b pr pn, fun x y => fpEq (fpOf x) (fpOf y)), (.fcmpLt e d a b pr pn, fun x y => fpLt (fpOf x) (fpOf y)), (.fcmpLe e d a b pr
      pn, fun x y => fpLt (fpOf x) (fpOf y) || fpEq (fpOf x) (fpOf y)), (.fcmpNe e d a b pr pn, fun x y => !fpEq (fpOf x) (fpOf y)), (.fcmpUn e d a
      b pr pn, fun x y => fpOf x == .nan || fpOf y == .nan)] : List (Instr × (W32 → W32 → Bool)))) ∧ Ready s e.val [(fileV, a.val), (fileV, b.val),
      (fileP, pr.val), (fileP, d.val)]) ∧
    (∃ (s : State) (e : Fin 384) (d : Fin 8) (a : Fin 8) (b : Fin 8) (i : Fin 16) (c : Instr) (v : W16), let g := s.sys.engine e.val; (c, v) ∈
      ([(.pand e d a b, g.rp a.val &&& g.rp b.val), (.por e d a b, g.rp a.val ||| g.rp b.val), (.pxor e d a b, g.rp a.val ^^^ g.rp b.val), (.pnot e
      d a, ~~~ g.rp a.val), (.pfroms e d i, (g.rs i.val).truncate 16)] : List (Instr × W16)) ∧ Ready s e.val [(fileP, a.val), (fileP, b.val),
      (fileS, i.val), (fileP, d.val)]) :=
  ⟨⟨(running id), 0, 0, 0, 0, 0, false, _, _, .head _, by simp only [Ready, InTime]; decide +kernel⟩,
  ⟨(running id), 0, 0, 0, 0, 0, _, _, .head _, by simp only [Ready, InTime]; decide +kernel⟩⟩

/-- States and operands that meet the hypotheses of FloatingPointInstructions, clause by clause. -/
theorem witness_FloatingPointInstructions :
    (∃ (s : State) (e : Fin 384) (d : Fin 64) (a : Fin 64) (b : Fin 64) (i : Fin 16) (pr : Fin 8) (pn : Bool) (c : Instr) (f : W32 → W32 → W32 →
      W32) (scalar : Bool), ((c, f, scalar) ∈ ([(.fadd e d a b pr pn, fun x y _ => fadd x y, false), (.fsub e d a b pr pn, fun x y _ => fsub x y,
      false), (.fmul e d a b pr pn, fun x y _ => fmul x y, false), (.fmin e d a b pr pn, fun x y _ => fmin x y, false), (.fmax e d a b pr pn, fun x
      y _ => fmax x y, false), (.fma e d a b pr pn, fun x y z => ffma x y z, false), (.fms e d a b pr pn, fun x y z => ffma x y (fneg z), false),
      (.fnma e d a b pr pn, fun x y z => ffma (fneg x) y z, false), (.faddS e d a i pr pn, fun x y _ => fadd x y, true), (.fsubS e d a i pr pn, fun
      x y _ => fsub x y, true), (.fmulS e d a i pr pn, fun x y _ => fmul x y, true), (.fminS e d a i pr pn, fun x y _ => fmin x y, true), (.fmaxS e
      d a i pr pn, fun x y _ => fmax x y, true), (.fmaS e d a i pr pn, fun x y z => ffma x y z, true), (.fmsS e d a i pr pn, fun x y z => ffma x y
      (fneg z), true), (.fnmaS e d a i pr pn, fun x y z => ffma (fneg x) y z, true)] : List (Instr × (W32 → W32 → W32 → W32) × Bool))) ∧ Ready s
      e.val [(fileV, a.val), (fileV, b.val), (fileS, i.val), (fileP, pr.val), (fileV, d.val)]) ∧
    (∃ (s : State) (e : Fin 384) (d : Fin 64) (a : Fin 64) (pr : Fin 8) (pn : Bool) (c : Instr) (f : W32 → W32) (trans : Bool), ((c, f, trans) ∈
      ([(.fabs e d a pr pn, fun x => x &&& 0x7FFFFFFF, false), (.fneg e d a pr pn, fun x => x ^^^ 0x80000000, false), (.fsat e d a pr pn, fsat,
      false), (.ffloor e d a pr pn, ffloor, false), (.ffrac e d a pr pn, ffrac, false), (.frnd e d a pr pn, frnd, false), (.cvtFI e d a pr pn,
      cvtFI, false), (.cvtIF e d a pr pn, cvtIF, false), (.cvtFU e d a pr pn, cvtFU, false), (.cvtUF e d a pr pn, cvtUF, false), (.cvtHF e d a pr
      pn, cvtHF, false), (.cvtFH e d a pr pn, cvtFH, false), (.rcp e d a pr pn, frcp, true), (.rsq e d a pr pn, frsq, true), (.sqrt e d a pr pn,
      fsqrt, true), (.log2 e d a pr pn, flog2, true), (.exp2 e d a pr pn, fexp2, true)] : List (Instr × (W32 → W32) × Bool))) ∧ Ready s e.val
      [(fileV, a.val), (fileP, pr.val), (fileV, d.val)]) :=
  ⟨⟨(running id), 0, 0, 0, 0, 0, 0, false, _, _, _, .head _, by simp only [Ready, InTime]; decide +kernel⟩,
  ⟨(running id), 0, 0, 0, 0, false, _, _, _, .head _, by simp only [Ready, InTime]; decide +kernel⟩⟩

/-- States and operands that meet the hypotheses of LoadsAndStores, clause by clause. -/
theorem witness_LoadsAndStores :
    (∃ (s : State) (e : Fin 384) (d : Fin 64) (a : Fin 64) (b : Fin 16) (off : BitVec 12) (pr : Fin 8) (pn : Bool) (c : Instr) (addr : Nat → Nat),
      let g := s.sys.engine e.val; ((c, addr) ∈ ([(.ldV e d b off pr pn, fun k => g.addr b.val (4 * off.toNat + 4 * k)), (.ldB e d b off pr pn, fun
      _ => g.addr b.val (4 * off.toNat)), (.ldG e d a b pr pn, fun k => g.addr b.val (4 * (g.rv a.val k).toNat))] : List (Instr × (Nat → Nat)))) ∧
      Ready s e.val [(fileV, a.val), (fileS, b.val), (fileP, pr.val), (fileV, d.val)] ∧ ((∀ k, k < 16 → g.part pr.val pn k = true → memFault false
      (addr k) = none))) ∧
    (∃ (s : State) (e : Fin 384) (d : Fin 16) (b : Fin 16) (off : BitVec 12), Ready s e.val [(fileS, b.val), (fileS, d.val)] ∧
      let g := s.sys.engine e.val; memFault false (g.addr b.val (4 * off.toNat)) = none) ∧
    (∃ (s : State) (e : Fin 384) (d : Fin 64) (a : Fin 64) (b : Fin 16) (off : BitVec 12) (pr : Fin 8) (pn : Bool) (c : Instr) (addr : Nat → Nat),
      let g := s.sys.engine e.val; ((c, addr) ∈ ([(.stV e d b off pr pn, fun k => g.addr b.val (4 * off.toNat + 4 * k)), (.stG e d a b pr pn, fun k
      => g.addr b.val (4 * (g.rv a.val k).toNat))] : List (Instr × (Nat → Nat)))) ∧ Ready s e.val [(fileV, d.val), (fileV, a.val), (fileS, b.val),
      (fileP, pr.val)] ∧ ((∀ k, k < 16 → g.part pr.val pn k = true → memFault true (addr k) = none))) ∧
    (∃ (s : State) (e : Fin 384) (d : Fin 16) (b : Fin 16) (off : BitVec 12), Ready s e.val [(fileS, d.val), (fileS, b.val)] ∧
      let g := s.sys.engine e.val; memFault true (g.addr b.val (4 * off.toNat)) = none) ∧
    (∃ (s : State) (e : Fin 384) (d : Fin 16) (b : Fin 16) (off : BitVec 12) (k : ProgFault), Ready s e.val [(fileS, d.val), (fileS, b.val)] ∧
      memFault true ((s.sys.engine e.val).addr b.val (4 * off.toNat)) = some k) :=
  ⟨⟨(running id), 0, 0, 0, 0, 0, 0, false, .ldB 0 0 0 0 0 false, fun _ => 0, .tail _ (.head _), by simp only [Ready, InTime]; decide +kernel,
    by decide +kernel⟩,
  ⟨(running id), 0, 0, 0, 0, by dsimp only [Ready, InTime]; decide +kernel⟩,
  ⟨(running fun g => { g with s := List.replicate 16 60000 }), 0, 0, 0, 0, 0, 0, false, .stV 0 0 0 0 0 false, _, .head _,
    by simp only [Ready, InTime]; decide +kernel, by decide +kernel⟩,
  ⟨(running fun g => { g with s := List.replicate 16 60000 }), 0, 0, 0, 0, by dsimp only [Ready, InTime]; decide +kernel⟩,
  ⟨(running id), 0, 0, 0, 0, .memPermission, by simp only [Ready, InTime]; decide +kernel⟩⟩

/-- States and operands that meet the hypotheses of PixelAndLutInstructions, clause by clause. -/
theorem witness_PixelAndLutInstructions :
    (∃ (s : State) (e : Fin 384) (d : Fin 62) (pr : Fin 8) (f : Frame) (b : Binding), let g := s.sys.engine e.val; s.sys.groupBinding g = some (f,
      b) ∧ Ready s e.val [(fileP, pr.val), (fileP, 1), (fileV, d.val), (fileV, d.val + 1), (fileV, d.val + 2)]) ∧
    (∃ (s : State) (e : Fin 384) (d : Fin 63) (pr : Fin 8) (f : Frame) (b : Binding), let g := s.sys.engine e.val; s.sys.groupBinding g = some (f,
      b) ∧ Ready s e.val [(fileP, pr.val), (fileV, d.val), (fileV, d.val + 1)]) ∧
    (∃ (s : State) (e : Fin 384) (a : Fin 62) (n : Fin 16) (pr : Fin 8) (f : Frame), let g := s.sys.engine e.val; s.sys.groupFrame g = some f ∧
      Ready s e.val [(fileV, a.val), (fileV, a.val + 1), (fileV, a.val + 2), (fileP, pr.val), (fileP, 1)] ∧ g.outBlocked = false ∧ f.outOk g.binding
      n.val = true ∧ g.writes < 16) ∧
    (∃ (s : State) (e : Fin 384) (d : Fin 64) (a : Fin 64) (w : Fin 62) (v : Fin 62) (n : Fin 8) (pr : Fin 8) (pn : Bool) (c : Instr) (kind :
      LutKind) (dst : Nat), let g := s.sys.engine e.val; (c, kind, dst) ∈ ([(.lut1 e d a n pr pn, .one, d.val), (.lut3 e w v n pr pn, .three,
      w.val)] : List (Instr × LutKind × Nat)) ∧ Ready s e.val [(fileV, a.val), (fileV, d.val), (fileP, pr.val), (fileV, w.val), (fileV, w.val + 1),
      (fileV, w.val + 2), (fileV, v.val), (fileV, v.val + 1), (fileV, v.val + 2)] ∧ g.outstanding < 2) ∧
    (∃ (s : State) (e : Fin 384) (b : Fin 16) (a : Fin 62) (pr : Fin 8) (f : Frame), let g := s.sys.engine e.val; s.sys.groupFrame g = some f ∧
      Ready s e.val [(fileV, a.val), (fileV, a.val + 1), (fileV, a.val + 2), (fileP, pr.val)] ∧ f.outOk g.binding b.val = true ∧ g.writes < 16 ∧
      g.outstanding < 2) ∧
    (∃ (s : State) (q : Fin 24) (k : Nat), (((List.range 16).map fun i => ((s.sys.troupe q.val).lutLast + 1 + i) % 16).find? fun k => (s.sys.engine
      (16 * q.val + k)).waiting) = some k) ∧
    (∃ (s : State) (e : Fin 384) (q : LutReq) (f : Frame), let g := s.sys.engine e.val; g.spent.find? (·.accepted) = none ∧ (g.halted.findIdx? fun h
      => h.reqs.any (·.accepted)) = none ∧ g.reqs.find? (·.accepted) = some q ∧ s.sys.groupFrame g = some f ∧ q.kind = .one) :=
  ⟨⟨(on (flying [frame4 ⟨0, 0, true, true, false, none⟩]) fun y => y.setEngine 0 { engine0 with busy := true, frame := 5 }), 0, 0, 0, frame4 ⟨0, 0,
    true, true, false, none⟩, gen4.binding 0 0, by dsimp only [Ready, InTime]; decide +kernel⟩,
  ⟨(on (flying [frame4 ⟨0, 0, true, true, false, none⟩]) fun y => y.setEngine 0 { engine0 with busy := true, frame := 5 }), 0, 0, 0, frame4 ⟨0, 0,
    true, true, false, none⟩, gen4.binding 0 0, by dsimp only [Ready, InTime]; decide +kernel⟩,
  ⟨(on (flying [frame4 ⟨0, 0, true, true, false, none⟩]) fun y => y.setEngine 0 { engine0 with busy := true, frame := 5 }), 0, 0, 0, 0, frame4 ⟨0,
    0, true, true, false, none⟩, by dsimp only [Ready, InTime]; decide +kernel⟩,
  ⟨(running id), 0, 0, 0, 0, 0, 0, 0, false, _, _, _, .head _, by simp only [Ready, InTime]; decide +kernel, by decide +kernel⟩,
  ⟨(on (flying [frame4 ⟨0, 0, true, true, false, none⟩]) fun y => y.setEngine 0 { engine0 with busy := true, frame := 5 }), 0, 0, 0, 0, frame4 ⟨0,
    0, true, true, false, none⟩, by dsimp only [Ready, InTime]; decide +kernel⟩,
  ⟨(running fun g => { g with reqs := [⟨.one, 0, 0, 0xFFFF, [], [], [], false, 0⟩] }), 0, 0, by decide +kernel⟩,
  ⟨(on (flying [frame4 ⟨0, 0, true, true, false, none⟩]) fun y => y.setEngine 0
    { engine0 with busy := true, frame := 5, reqs := [⟨.one, 0, 0, 0xFFFF, [], [], [], true, 0⟩] }), 0, ⟨.one, 0, 0, 0xFFFF, [], [], [], true, 0⟩,
    frame4 ⟨0, 0, true, true, false, none⟩, by dsimp only; decide +kernel⟩⟩

/-- States and operands that meet the hypotheses of ControlInstructionsAndGroups, clause by clause. -/
theorem witness_ControlInstructionsAndGroups :
    (∃ (s : State) (e : Fin 384), (s.sys.engine e.val).busy = true ∧ InTime s e.val) ∧
    (∃ (s : State) (e : Fin 384) (pr : Fin 8), Ready s e.val [(fileP, pr.val), (fileP, 1)]) ∧
    (∃ (s : State) (e : Fin 384) (c : Fin 16), let g := s.sys.engine e.val; g.busy = true ∧ InTime s e.val ∧ g.rs c.val ≠ 0 ∧ g.loops.length < 4) ∧
    (∃ (s : State) (e : Fin 384) (c : Fin 16), let g := s.sys.engine e.val; g.busy = true ∧ InTime s e.val ∧ g.rs c.val = 0 ∧ g.loops = []) ∧
    (∃ (s : State) (e : Fin 384), let g := s.sys.engine e.val; g.busy = true ∧ InTime s e.val ∧ g.calls.length < 8) ∧
    (∃ (s : State) (e : Fin 384) (a : Nat) (r : List Nat), let g := s.sys.engine e.val; g.busy = true ∧ InTime s e.val ∧ g.calls = a :: r) ∧
    (∃ (s : State) (e : Fin 384) (c : Instr) (m : BitVec 4), let g := s.sys.engine e.val; (c = .sync e ∧ m = 0xF ∨ c = .wait e m) ∧ g.busy = true ∧
      InTime s e.val ∧ ((m.getLsbD 2 = false ∨ g.reqs = []))) ∧
    (∃ (s : State) (e : Fin 384), (s.sys.engine e.val).busy = true) ∧
    (∃ (s : State) (e : Fin 384), (s.sys.engine e.val).busy = true ∧ (s.sys.engine e.val).slot + 1 < 65536) ∧
    (∃ (s : State) (e : Fin 384), (s.sys.engine e.val).busy = true ∧ 65535 ≤ (s.sys.engine e.val).slot) ∧
    (∃ (s : State) (e : Fin 384) (b : SegBuf) (n : Nat) (col : Nat) (line : Nat) (lanes : Nat) (f : Frame), let g := s.sys.engine e.val; g.busy =
      false ∧ s.sys.engineIn e.val = true ∧ ((s.sys.troupe (e.val / 16)).bufs.find? fun b => b.dispatched && (s.sys.nextGroup b).isSome &&
      (s.sys.frame? b.ctx b.frame).any fun f => decide (g.notBefore ≤ f.latch)) = some b ∧ s.sys.nextGroup b = some (n, col, line, lanes) ∧
      s.sys.frame? b.ctx b.frame = some f) ∧
    (∃ (s : State) (e : Fin 384), (s.sys.engine e.val).busy = true) :=
  ⟨⟨(running id), 0, by simp only [InTime]; decide +kernel⟩,
  ⟨(running id), 0, 0, by simp only [Ready, InTime]; decide +kernel⟩,
  ⟨(running fun g => { g with s := List.replicate 16 60000 }), 0, 0, by simp only [InTime]; decide +kernel⟩,
  ⟨(running id), 0, 0, by simp only [InTime]; decide +kernel⟩,
  ⟨(running id), 0, by simp only [InTime]; decide +kernel⟩,
  ⟨(running fun g => { g with calls := [4] }), 0, 4, [], by simp only [InTime]; decide +kernel⟩,
  ⟨(running id), 0, .sync 0, 0xF, .inl ⟨rfl, rfl⟩, by simp only [InTime]; decide +kernel⟩,
  ⟨(running id), 0, by decide +kernel⟩,
  ⟨(running id), 0, by decide +kernel⟩,
  ⟨(running fun g => { g with slot := 65535 }), 0, by decide +kernel⟩,
  ⟨(on (flying [frame0 0 []]) fun y => y.setTroupe 0 { troupe0 0 with bufs := [⟨0, 5, 0, 0, [], true, true, true, true, 0, 0, [(0, 0, 0, 0)]⟩] }),
    0, ⟨0, 5, 0, 0, [], true, true, true, true, 0, 0, [(0, 0, 0, 0)]⟩, 0, 0, 0, 0, frame0 0 [], by dsimp only; decide +kernel⟩,
  ⟨(running id), 0, by decide +kernel⟩⟩

/-- States and operands that meet the hypotheses of EnginesTroupesAndImages, clause by clause. -/
theorem witness_EnginesTroupesAndImages :
    (∃ (s : State) (e : Fin 384), (s.sys.troupeRun (e.val / 16) = false ∨ 8 < popcount 16 (s.sys.rd (ent (0x3860 + e.val / 16) 2))) ∧ (s.sys.engine
      e.val).busy = false ∧ (s.sys.engine e.val).halted = []) ∧
    (∃ (s : State) (e : Fin 384), s.sys.troupeRun (e.val / 16) = true ∧ popcount 16 (s.sys.rd (ent (0x3860 + e.val / 16) 2)) ≤ 8 ∧ (s.sys.rd (ent
      (0x3860 + e.val / 16) 2)).testBit (e.val % 16) = true) ∧
    (∃ (s : State) (e : Fin 384), s.sys.engineInTest e.val = false) ∧
    (∃ (s : State) (e : Fin 384), s.sys.engineInTest e.val = true ∧ Room s) ∧
    (∃ (s : State) (q : Fin 24), s.sys.rd (ent (0x3860 + q.val) 1) ≠ 0 ∧ (s.sys.troupe q.val).returning = false) ∧
    (∃ (s : State) (q : Fin 24), (s.sys.rd (ent (0x3860 + q.val) 1) = 0 ∨ (s.sys.troupe q.val).returning = true)) ∧
    (∃ (s : State) (q : Fin 24), (s.sys.rd (ent (0x3860 + q.val) 1) = 0 ∨ s.sys.rd (ent (0x3860 + q.val) 1) = 3 ∨ (s.sys.troupe q.val).returning =
      true)) ∧
    (∃ (s : State) (q : Fin 24), s.sys.rd (ent (0x3860 + q.val) 1) ≠ 0 ∧ s.sys.rd (ent (0x3860 + q.val) 1) ≠ 3 ∧ (s.sys.troupe q.val).returning =
      false ∧ Room s) ∧
    (∃ (s : State) (i : Fin 16) (r : Resident), (s.sys.resident.find? fun r => r.slot == i.val && !r.loaded) = some r ∧ Room s) ∧
    (∃ (s : State) (e : Fin 64) (p : PageTable), (s.sys.pages.find? fun p => p.entry == e.val && p.placed.any fun t => !p.loaded.contains t) = some
      p) ∧
    (∃ (s : State) (w : Writer) (i : Fin 16), Admitted s w (ent (0x3840 + i.val) 7) (le 1 0)) ∧
    (∃ (s : State) (w : Writer) (i : Fin 16) (r : Resident), Admitted s w (ent (0x3840 + i.val) 7) (le 1 1) ∧ s.sys.place i.val = some r ∧
      s.sys.resident = []) ∧
    (∃ (v : Nat), 1 < v ∧ v < 256) :=
  ⟨⟨(put [(ent 0x3860 1, 1)]), 0, by decide +kernel⟩,
  ⟨(put [(ent 0x3860 2, 1)]), 0, by decide +kernel⟩,
  ⟨State.reset, 0, by decide +kernel⟩,
  ⟨(put [(ent 0x3860 2, 65534)]), 0, by simp only [Room]; decide +kernel⟩,
  ⟨(put [(ent 0x3860 1, 1)]), 0, by decide +kernel⟩,
  ⟨State.reset, 0, by decide +kernel⟩,
  ⟨State.reset, 0, by decide +kernel⟩,
  ⟨(put [(ent 0x3860 1, 1)]), 0, by simp only [Room]; decide +kernel⟩,
  ⟨(sys fun y => { y with resident := [⟨0, 0, 0, false, none⟩] }), 0, ⟨0, 0, 0, false, none⟩, by simp only [Room]; decide +kernel⟩,
  ⟨(sys fun y => { y with pages := [⟨0, [], 1, [0], [], []⟩] }), 0, ⟨0, [], 1, [0], [], []⟩, by decide +kernel⟩,
  ⟨State.reset, cust, 0, by simp only [Admitted]; decide +kernel⟩,
  ⟨(sys fun y => y.wrB (ent 0x3840 1) (List.replicate 64 0)), cust, 0, (((sys fun y => y.wrB (ent 0x3840 1) (List.replicate 64 0)).sys.place 0).get
    (by decide +kernel)), by simp only [Admitted]; decide +kernel⟩,
  ⟨2, by decide +kernel⟩⟩

/-- States and operands that meet the hypotheses of CalibrationAndTablesCommit, clause by clause. -/
theorem witness_CalibrationAndTablesCommit :
    (∃ (s : State) (w : Writer) (i : Fin 8), Admitted s w (ent (0x3C00 + i.val) 8) (le 2 1) ∧
      let c := s.sys.staged i.val (s.otp.calEpoch i.val + 1); c.hash ≠ (s.sys.cal i.val).hash ∧ Room s) ∧
    (∃ (s : State) (w : Writer) (i : Fin 8), Admitted s w (ent (0x3C00 + i.val) 8) (le 2 1) ∧ (s.sys.staged i.val (s.otp.calEpoch i.val + 1)).hash =
      (s.sys.cal i.val).hash) ∧
    (∃ (s : State) (i : Fin 8), 32 ≤ s.otp.calEpoch i.val ∧ (s.sys.staged i.val (s.otp.calEpoch i.val + 1)).hash ≠ (s.sys.cal i.val).hash) ∧
    (∃ (s : State) (w : Writer) (i : Fin 8), Admitted s w (ent (0x3C00 + i.val) 0x0D) (le 1 1)) ∧
    (∃ (s : State) (w : Writer) (e : Fin 64) (h : Bytes), Admitted s w (ent (0x3C40 + e.val) 1) h ∧ h ≠ []) ∧
    (∃ (s : State) (w : Writer) (e : Fin 64), Admitted s w (ent (0x3C40 + e.val) 1) []) ∧
    (∃ (s : State) (w : Writer) (e : Fin 64) (v : Bytes), Admitted s w (ent (0x3C40 + e.val) 2) v) ∧
    (∃ (s : State) (e : Fin 64) (i : Nat), s.sys.tableUsers e.val ≠ [] ∧ (i = 1 ∨ i = 2 ∨ i = 3)) ∧
    (∃ (s : State) (w : Writer) (e : Fin 64), Admitted s w (ent (0x3C40 + e.val) 4) (le 1 1) ∧ Room s) ∧
    (∃ (s : State) (w : Writer) (e : Fin 64) (v : Bytes), Admitted s w (ent (0x3C40 + e.val) 3) v) :=
  ⟨⟨(put [(ent 0x3C00 1, 1), (ent 0x3420 5, 0)]), cust, 0, by dsimp only; simp only [Room, Admitted]; decide +kernel⟩,
  ⟨(on (put [(ent 0x3420 5, 0)]) fun y => { y with mram := { y.mram with cal := [(0, y.staged 0 1)] } }), cust, 0,
    by simp only [Admitted]; decide +kernel⟩,
  ⟨(on { State.reset with otp := { State.reset.otp with calibration := [(0, 32)] } } fun y => y.wr (ent 0x3C00 1) 1), 0, by decide +kernel⟩,
  ⟨State.reset, cust, 0, by simp only [Admitted]; decide +kernel⟩,
  ⟨State.reset, cust, 0, ([0x4B, 0x4C, 0x55, 0x54, 1, 1, 0, 0, 2, 0, 0, 0, 0, 0, 0, 0, 0, 0, 0x80, 0x3F] ++ List.replicate 12 0),
    by simp only [Admitted]; decide +kernel⟩,
  ⟨State.reset, cust, 0, by simp only [Admitted]; decide +kernel⟩,
  ⟨(on (put [(ent 0x3C40 5, 1)]) fun y => { y with tables := [(0, ⟨List.replicate 8 0, [], none⟩)] }), cust, 0, [7, 0, 0, 0, 9],
    by simp only [Admitted]; decide +kernel⟩,
  ⟨(on State.reset fun y => { y.wrB (ent 0x3C10 6) [0, 0] with tables := [(0, ⟨List.replicate 8 0, [], none⟩)] }), 0, 3, by decide +kernel⟩,
  ⟨(on (put [(ent 0x3C40 5, 1)]) fun y => { y with tables := [(0, ⟨[], [], none⟩)] }), cust, 0, by simp only [Admitted, Room]; decide +kernel⟩,
  ⟨State.reset, cust, 0, (1 :: List.replicate 15 0), by simp only [Admitted]; decide +kernel⟩⟩

/-- States and operands that meet the hypotheses of ChannelsSelectFetchAndSwitch, clause by clause. -/
theorem witness_ChannelsSelectFetchAndSwitch :
    (∃ (s : State) (c : Fin 24), s.sys.view.chanOn c.val = true ∧ s.sys.domainRun 26 = true ∧ s.sys.portsHeld 26 = false ∧ (s.sys.outputsHeld =
      false ∨ (s.sys.channel c.val).restart = none) ∧ Room s ∧ s.sys.rdBit (ent (0x4100 + c.val) 0x0E) 1 = false) ∧
    (∃ (s : State) (c : Fin 24), (s.sys.view.chanOn c.val = false ∨ s.sys.domainRun 26 = false ∨ s.sys.portsHeld 26 = true)) ∧
    (∃ (s : State) (c : Fin 24), (s.sys.channel c.val).running = true ∧ (s.sys.channel c.val).picked = true ∧ (s.sys.channel c.val).nextFetch <
      (s.sys.view.timing c.val).actH ∧ s.sys.lineThere c.val (s.sys.channel c.val).nextFetch = true ∧ ((s.sys.channel c.val).nextFetch -
      ((s.sys.channel c.val).committed - 4) + 1) * s.sys.view.lineOctets c.val ≤ 262144) ∧
    (∃ (s : State) (c : Fin 24), (s.sys.channel c.val).running = true ∧ (s.sys.channel c.val).picked = true ∧ s.sys.lineThere c.val (s.sys.channel
      c.val).nextFetch = false) ∧
    (∃ (y : Sys) (c : Nat) (F : Nat), y.overtaken c F = false ∧ y.showable c F = true ∧ y.rd (ent (0x4100 + c) 2) = 1 ∧ y.view.chanMode c = 0) ∧
    (∃ (s : State) (c : Fin 24) (u : BitVec 16), (s.sys.channel c.val).running = true ∧ u.toNat < (s.sys.channel c.val).nextFetch ∧ s.sys.rdBit (ent
      (0x4100 + c.val) 0x0E) 1 = false) ∧
    (∃ (s : State) (c : Fin 24) (u : BitVec 16), let ch := s.sys.channel c.val; ch.running = true ∧ ch.nextFetch ≤ u.toNat ∧ ch.shown ≠ none ∧
      ch.switch = none ∧ u.toNat < (s.sys.view.timing c.val).actH ∧ s.sys.lockGroup c.val = none) ∧
    (∃ (s : State) (c : Fin 24) (u : BitVec 16), (s.sys.channel c.val).running = true ∧ u.toNat < (s.sys.channel c.val).nextFetch ∧ u.toNat <
      (s.sys.view.timing c.val).actH ∧ s.sys.rdBit (ent (0x4100 + c.val) 0x0E) 1 = true ∧ s.sys.rd (ent (0x4100 + c.val) 0x0A) + 4 =
      (s.sys.view.timing c.val).vFirst + u.toNat) ∧
    (∃ (s : State), s.sys.rd (ent 0x41B0 2) ≠ 1) ∧
    (∃ (s : State) (c : Fin 24) (k : BitVec 64) (g : BitVec 32) (own : BitVec 32), s.sys.rd (ent 0x41B0 2) = 1 ∧ (s.sys.channel c.val).lastSig =
      some own ∧ s.sys.rd (ent (0x4140 + c.val) 2) = k.toNat ∧ own ≠ g) :=
  ⟨⟨(put [(ent 0x4100 1, 1)]), 0, by simp only [Room]; decide +kernel⟩,
  ⟨State.reset, 0, by decide +kernel⟩,
  ⟨(on (put [(ent 0x4120 1, 1)]) fun y => y.setChannel 0 { channel0 with running := true, picked := true, committed := 4 }), 0, by decide +kernel⟩,
  ⟨(on (put [(ent 0x4120 1, 1), (ent 0x4100 2, 1)]) fun y => y.setChannel 0 { channel0 with running := true, picked := true, shown := some 5 }), 0,
    by decide +kernel⟩,
  ⟨(on (put [(ent 0x4100 2, 1), (ent 0x4100 3, 0), (ent 0x4100 4, 0), (ent 0x4100 6, 0), (ent 0x4100 8, 1), (ent 0x4100 9, 0)]) fun y =>
    { y with stores := [⟨0, 0, [⟨5, true, 0, [], []⟩], none⟩] }).sys, 0, 5, by decide +kernel⟩,
  ⟨(on (put [(ent 0x4120 1, 1)]) fun y => y.setChannel 0 { channel0 with running := true, nextFetch := 1 }), 0, 0, by decide +kernel⟩,
  ⟨(on (put [(ent 0x4120 1, 1)]) fun y => y.setChannel 0 { channel0 with running := true, shown := some 5 }), 0, 0, by dsimp only; decide +kernel⟩,
  ⟨(on (put [(ent 0x4120 1, 1), (ent 0x4100 0x0E, 2), (ent 0x4100 0x0A, 37)]) fun y => y.setChannel 0
    { channel0 with running := true, nextFetch := 1 }), 0, 0, by decide +kernel⟩,
  ⟨(put [(ent 0x41B0 2, 0)]), by decide +kernel⟩,
  ⟨(on (put [(ent 0x4120 1, 1), (ent 0x41B0 2, 1)]) fun y => y.setChannel 0 { channel0 with running := true, lastSig := some 5 }), 0, 0, 6, 5,
    by decide +kernel⟩⟩

/-- States and operands that meet the hypotheses of InputsAndPanelsFollowTheirSteps, clause by clause. -/
theorem witness_InputsAndPanelsFollowTheirSteps :
    (∃ (s : State) (i : Fin 4), s.sys.rd (ent (0x4180 + i.val) 2) = 2 ∧ (s.sys.sdi i.val).frames.length ≤ 3) ∧
    (∃ (s : State) (i : Fin 4), s.sys.rd (ent (0x4180 + i.val) 2) ≠ 2) ∧
    (∃ (s : State) (i : Fin 4) (st : Fin 4), s.sys.rd (ent (0x4180 + i.val) 1) = 1 ∧ s.sys.portsHeld 24 = false ∧ s.sys.rd (ent (0x4180 + i.val) 2)
      ≠ st.val ∧ Room s) ∧
    (∃ (s : State) (i : Fin 4), (s.sys.sdi i.val).holdFrom ≠ none) ∧
    (∃ (s : State) (i : Fin 4), (s.sys.sdi i.val).holdFrom = none) ∧
    (∃ (s : State) (p : Fin 2), let c := s.sys.rd (ent (0x4188 + p.val) 1); (s.sys.rd (ent (0x4188 + p.val) 0x0C) = 0 ∨ s.sys.rd (ent (0x4188 +
      p.val) 0x0C) = 5) ∧ s.sys.portsHeld 26 = false ∧ s.sys.isShed 2 p.val = false ∧ (s.sys.edp p.val).notBefore ≤ s.sys.up ∧ c < 24 ∧
      s.sys.view.chanOn c = true ∧ s.sys.view.edpFits p.val = true) ∧
    (∃ (s : State) (p : Fin 2), let c := s.sys.rd (ent (0x4188 + p.val) 1); (s.sys.rd (ent (0x4188 + p.val) 0x0C) = 0 ∨ s.sys.rd (ent (0x4188 +
      p.val) 0x0C) = 5) ∧ s.sys.portsHeld 26 = false ∧ s.sys.isShed 2 p.val = false ∧ s.sys.up < (s.sys.edp p.val).notBefore ∧ c < 24 ∧
      s.sys.view.chanOn c = true) ∧
    (∃ (s : State) (p : Fin 2), (s.sys.portsHeld 26 = true ∨ s.sys.isShed 2 p.val = true)) ∧
    (∃ (s : State) (p : Fin 2), (s.sys.edp p.val).vdd = true ∧ (s.sys.edp p.val).waitHpd = true) ∧
    (∃ (s : State) (p : Fin 2), (s.sys.edp p.val).waitHpd = true ∧ Room s) ∧
    (∃ (s : State) (p : Fin 2), s.sys.rd (ent (0x4188 + p.val) 0x0C) = 2) ∧
    (∃ (s : State) (p : Fin 2), s.sys.rd (ent (0x4188 + p.val) 0x0C) = 2 ∧ 2 ≤ (s.sys.edp p.val).attempts ∧ Room s) ∧
    (∃ (s : State) (p : Fin 2), (s.sys.rd (ent (0x4188 + p.val) 0x0C) = 3 ∨ s.sys.rd (ent (0x4188 + p.val) 0x0C) = 4)) ∧
    (∃ (s : State) (p : Fin 2), (s.sys.edp p.val).vdd = true ∧ (s.sys.edp p.val).waitHpd = false ∧ Room s) ∧
    (∃ (s : State) (p : Fin 2), (s.sys.edp p.val).video = true) :=
  ⟨⟨(put [(ent 0x4180 2, 2)]), 0, by decide +kernel⟩,
  ⟨State.reset, 0, by decide +kernel⟩,
  ⟨(put [(ent 0x4180 1, 1)]), 0, 1, by simp only [Room]; decide +kernel⟩,
  ⟨(sys fun y => y.setSdi 0 { sdi0 with holdFrom := some 0 }), 0, by decide +kernel⟩,
  ⟨State.reset, 0, by decide +kernel⟩,
  ⟨(put [(ent 0x4188 1, 0), (ent 0x4188 3, 4), (ent 0x4188 5, 8), (ent 0x4100 1, 1), (ent 0x4120 1, 1)]), 0, by dsimp only; decide +kernel⟩,
  ⟨(on (put [(ent 0x4188 1, 0), (ent 0x4188 0x0C, 0), (ent 0x4100 1, 1)]) fun y => y.setEdp 0 { y.edp 0 with notBefore := 5 }), 0,
    by dsimp only; decide +kernel⟩,
  ⟨(sys fun y => { y with sup := { y.sup with shed := [(2, 1)] } }), 0, by decide +kernel⟩,
  ⟨(on State.reset fun y => y.setEdp 0 { edp0 with vdd := true, waitHpd := true }), 0, by decide +kernel⟩,
  ⟨(on State.reset fun y => y.setEdp 0 { edp0 with waitHpd := true }), 0, by simp only [Room]; decide +kernel⟩,
  ⟨(put [(ent 0x4188 0x0C, 2)]), 0, by decide +kernel⟩,
  ⟨(on (put [(ent 0x4188 0x0C, 2)]) fun y => y.setEdp 0 { edp0 with attempts := 2 }), 0, by simp only [Room]; decide +kernel⟩,
  ⟨(put [(ent 0x4188 0x0C, 3)]), 0, by decide +kernel⟩,
  ⟨(on State.reset fun y => y.setEdp 0 { edp0 with vdd := true }), 0, by simp only [Room]; decide +kernel⟩,
  ⟨(on State.reset fun y => y.setEdp 0 { edp0 with video := true }), 0, by decide +kernel⟩⟩

/-- States and operands that meet the hypotheses of StreamsAndAudioPortsSend, clause by clause. -/
theorem witness_StreamsAndAudioPortsSend :
    (∃ (s : State) (n : Fin 8) (p : BitVec 32), let c := s.sys.rd (ent (0x4190 + n.val) 1); c < 24 ∧ (s.sys.channel c).running = true ∧ s.sys.isShed
      5 n.val = false ∧ p.toNat < s.sys.view.packets c ∧ s.sys.pathsUp n.val ≠ []) ∧
    (∃ (s : State) (n : Fin 8), s.sys.isShed 5 n.val = true) ∧
    (∃ (s : State) (n : Fin 8), let c := s.sys.rd (ent (0x4190 + n.val) 1); s.sys.rd (ent (0x4190 + n.val) 9) = 1 ∧ c < 24 ∧ (s.sys.channel
      c).running = true) ∧
    (∃ (s : State) (n : Fin 8), s.sys.rd (ent (0x4190 + n.val) 9) ≠ 1) ∧
    (∃ (s : State) (a : Fin 8), s.sys.rd (ent (0x4198 + a.val) 1) = 0) ∧
    (∃ (s : State) (a : Fin 8), s.sys.rd (ent (0x4198 + a.val) 1) ≠ 0) ∧
    (∃ (s : State) (n : Fin 48), s.sys.rd (ent (0x2500 + n.val) 1) = 0) ∧
    (∃ (s : State) (n : Fin 48), s.sys.rd (ent (0x2500 + n.val) 1) = 1 ∧ (s.sys.ain n.val).lostAt = none ∧ s.sys.portsHeld 35 = false) ∧
    (∃ (s : State) (n : Fin 48), s.sys.rd (ent (0x2500 + n.val) 1) = 2 ∧ (s.sys.ain n.val).lostAt = none ∧ s.sys.inReset = false) ∧
    (∃ (s : State) (n : Fin 48), s.sys.rd (ent (0x2500 + n.val) 1) ≠ 0 ∧ (s.sys.ain n.val).lostAt ≠ none ∧ s.sys.rd (ent (0x2500 + n.val) 1) ≤ 2) ∧
    (∃ (s : State) (n : Fin 48), (s.sys.rd (ent (0x2500 + n.val) 1) = 1 ∨ s.sys.rd (ent (0x2500 + n.val) 1) = 2) ∧ s.sys.inReset = true) ∧
    (∃ (s : State) (n : Fin 48), s.sys.apDir n.val ≠ .off ∧ s.sys.apClock n.val = .slave ∧ (s.sys.ain n.val).lostAt = none ∧ Room s) ∧
    (∃ (s : State) (n : Fin 48) (u : Nat), (s.sys.ain n.val).lostAt = some u ∧ Room s) ∧
    (∃ (s : State) (n : Fin 48), (s.sys.ain n.val).lostAt = none) :=
  ⟨⟨(on (put [(ent 0x4120 1, 1), (ent 0x4190 1, 0), (ent 0x4190 2, 0), (ent 0x2488 4, 2)]) fun y => y.setChannel 0
    { channel0 with running := true }), 0, 0, by dsimp only; decide +kernel⟩,
  ⟨(sys fun y => { y with sup := { y.sup with shed := [(5, 1)] } }), 0, by decide +kernel⟩,
  ⟨(on (put [(ent 0x4120 1, 1), (ent 0x4190 1, 0), (ent 0x4190 9, 1)]) fun y => y.setChannel 0 { channel0 with running := true }), 0,
    by dsimp only; decide +kernel⟩,
  ⟨State.reset, 0, by decide +kernel⟩,
  ⟨State.reset, 0, by decide +kernel⟩,
  ⟨(put [(ent 0x4198 1, 1)]), 0, by decide +kernel⟩,
  ⟨State.reset, 0, by decide +kernel⟩,
  ⟨(put [(ent 0x2500 1, 1)]), 0, by decide +kernel⟩,
  ⟨(put [(ent 0x2500 1, 2)]), 0, by decide +kernel⟩,
  ⟨(on (put [(ent 0x2500 1, 1)]) fun y => y.setAin 0 { audioIn0 with lostAt := some 3 }), 0, by decide +kernel⟩,
  ⟨(on (put [(ent 0x2500 1, 1)]) fun y => { y with boot := { y.boot with phase := .warmReset } }), 0, by decide +kernel⟩,
  ⟨(put [(ent 0x2500 1, 1), (ent 0x2500 2, 0)]), 0, by simp only [Room]; decide +kernel⟩,
  ⟨(on State.reset fun y => y.setAin 0 { audioIn0 with lostAt := some 3 }), 0, 3, by simp only [Room]; decide +kernel⟩,
  ⟨State.reset, 0, by decide +kernel⟩⟩

/-- States and operands that meet the hypotheses of EncodersCodeAndRecover, clause by clause. -/
theorem witness_EncodersCodeAndRecover :
    (∃ (s : State) (k : Fin 4) (e : Nat), e < 16 ∧ (s.sys.enc e).run.any (fun r => r.core == k.val) = true) ∧
    (∃ (s : State) (k : Fin 4) (e : Nat) (p : EncPic), e < 16 ∧ ((∀ j, j < 16 → (s.sys.enc j).run.any (fun r => r.core == k.val) = false)) ∧
      (s.sys.shedMask 3).testBit k.val = false ∧ s.sys.encReady e k.val = some (p, none) ∧ ((∀ j, j < 16 → j ≠ e → s.sys.encReady j k.val = none)))
      ∧
    (∃ (s : State) (k : Fin 4) (e : Nat) (r : EncRun), ((List.range 16).find? fun j => (s.sys.enc j).run.any fun q => q.core == k.val) = some e ∧
      (s.sys.enc e).run = some r) ∧
    (∃ (s : State) (k : Fin 4), ((∀ j, j < 16 → (s.sys.enc j).run.any (fun r => r.core == k.val) = false))) ∧
    (∃ (s : State) (e : Fin 16) (n : BitVec 32), s.sys.encNext e.val ≤ n.toNat ∧ n.toNat ≤ s.sys.encNext e.val + 256) ∧
    (∃ (s : State) (e : Fin 16) (n : BitVec 32), (n.toNat < s.sys.encNext e.val ∨ s.sys.encNext e.val + 256 < n.toNat)) ∧
    (∃ (s : State), Room s) ∧
    (∃ (e : Fin 16) (c : Instr) (m : Option Nat), (c, m) ∈ ([(.recoveryRefresh e, none), (.recoveryFromMark e 0, some 0), (.recoveryFromMark e 1,
      some 1)] : List (Instr × Option Nat))) ∧
    (∃ (s : State) (e : Fin 16), s.sys.rd (ent (0x4400 + e.val) 25) = 1 ∧ (s.sys.rd (ent (0x4400 + e.val) 26)).testBit 1 = true ∧ (s.sys.enc
      e.val).deafUntil ≤ s.sys.up) ∧
    (∃ (s : State) (e : Fin 16), s.sys.up < (s.sys.enc e.val).deafUntil) :=
  ⟨⟨(on State.reset fun y => y.setEnc 0 { enc0 with run := some ⟨0, ⟨5, 0, plain State.reset.sys.view, none, none⟩, 0, 0, 0, 0, 0⟩ }), 0, 0,
    by decide +kernel⟩,
  ⟨(on (put [(ent 0x4420 1, 1)]) fun y => { y.setEnc 0 { enc0 with queue := [⟨5, 0, plain State.reset.sys.view, none, none⟩] } with stores := [⟨0,
    0, [⟨5, true, 0, [], []⟩], none⟩] }), 0, 0, ⟨5, 0, plain State.reset.sys.view, none, none⟩, by decide +kernel⟩,
  ⟨(on State.reset fun y => y.setEnc 0 { enc0 with run := some ⟨0, ⟨5, 0, plain State.reset.sys.view, none, none⟩, 0, 0, 0, 0, 0⟩ }), 0, 0, ⟨0, ⟨5,
    0, plain State.reset.sys.view, none, none⟩, 0, 0, 0, 0, 0⟩, by decide +kernel⟩,
  ⟨State.reset, 0, by decide +kernel⟩,
  ⟨State.reset, 0, 0, by decide +kernel⟩,
  ⟨State.reset, 0, 257, by decide +kernel⟩,
  ⟨State.reset, by simp only [Room]; decide +kernel⟩,
  ⟨0, _, _, .head _⟩,
  ⟨(put [(ent 0x4400 25, 1), (ent 0x4400 26, 2)]), 0, by decide +kernel⟩,
  ⟨(on State.reset fun y => y.setEnc 0 { enc0 with deafUntil := 5 }), 0, by decide +kernel⟩⟩

set_option maxRecDepth 100000 in
/-- States and operands that meet the hypotheses of PlaybackDecodesAndExpands, clause by clause. -/
theorem witness_PlaybackDecodesAndExpands :
    (∃ (s : State) (k : Fin 2) (p : Nat), p < 8 ∧ (s.sys.dec p).run.any (fun r => r.core == k.val) = true) ∧
    (∃ (s : State) (k : Fin 2) (u : Bytes) (i : AuInfo) (p : Nat), p < 8 ∧ ((∀ q, q < 8 → (s.sys.dec q).run.any (fun r => r.core == k.val) = false))
      ∧ (s.sys.shedMask 4).testBit k.val = false ∧ ((∀ q, q < 8 → s.sys.decReady k.val q u = decide (q = p))) ∧ (s.sys.dec p).input = [] ∧ s.sys.pb
      p 3 = 1 ∧ s.sys.pb p 5 = 0 ∧ noBaseLayer u = false ∧ (s.sys.dec p).lastIndex = none ∧ i.missing = 0 ∧ i.faults = [] ∧ i.kind = .idr ∧
      s.sys.auSupported p i = true) ∧
    (∃ (s : State) (k : Fin 2) (u : Bytes) (i : AuInfo) (p : Nat), p < 8 ∧ ((∀ q, q < 8 → (s.sys.dec q).run.any (fun r => r.core == k.val) = false))
      ∧ (s.sys.shedMask 4).testBit k.val = false ∧ ((∀ q, q < 8 → s.sys.decReady k.val q u = decide (q = p))) ∧ (s.sys.dec p).input = [] ∧ s.sys.pb
      p 3 = 1 ∧ noBaseLayer u = false ∧ s.sys.auSupported p i = false) ∧
    (∃ (s : State) (k : Fin 2) (u : Bytes) (p : Nat), p < 8 ∧ ((∀ q, q < 8 → s.sys.decReady k.val q u = decide (q = p))) ∧ (s.sys.dec p).input = []
      ∧ s.sys.pb p 3 = 1 ∧ noBaseLayer u = true) ∧
    (∃ (y : Sys) (p : Nat) (i : AuInfo), y.auSupported p i = true) ∧
    (∃ (s : State) (k : Fin 2) (p : Nat) (r : DecRun), ((List.range 8).find? fun q => (s.sys.dec q).run.any fun j => j.core == k.val) = some p ∧
      (s.sys.dec p).run = some r ∧ r.frame = none ∧ (s.sys.dec p).late = false) ∧
    (∃ (s : State) (x : Fin 8), s.sys.pb x.val 5 ≠ 0) ∧
    (∃ (s : State) (x : Fin 8), s.sys.pb x.val 5 = 0 ∧ s.sys.pb x.val 1 = 1 ∧ ((s.sys.dec x.val).ready.find? fun d => d.out == (s.sys.dec
      x.val).due) = none) ∧
    (∃ (s : State) (x : Fin 8) (d : DecPic), s.sys.pb x.val 5 = 0 ∧ s.sys.pb x.val 1 = 1 ∧ ((s.sys.dec x.val).ready.find? fun d => d.out ==
      (s.sys.dec x.val).due) = some d) ∧
    (∃ (s : State) (x : Fin 8), s.sys.feedCfg x.val 1 = 0) ∧
    (∃ (s : State) (x : Fin 8), s.sys.feedCfg x.val 1 ≠ 0 ∧ s.sys.vol.directory = [] ∧ Room s) ∧
    (∃ (s : State) (x : Fin 8) (c : FeedChunk) (q : Nat × Clip), s.sys.feedCfg x.val 1 ≠ 0 ∧ (s.sys.vol.directory.find? fun d => d.2.id ==
      s.sys.feedCfg x.val 1) = some q ∧ c.stream.toNat = s.sys.feedCfg x.val 2 ∧ (c.kind = 1 ∨ c.kind = 2) ∧ q.2.flags.testBit 0 = false ∧ s.sys.pb
      x.val 1 = 1) ∧
    (∃ (s : State) (n : Fin 64), s.sys.expandCtx n.val = none) ∧
    (∃ (s : State) (n : Fin 64) (b : Bytes) (c : Bytes) (r : Bytes) (x : Nat) (k : Nat), s.sys.expandCtx n.val = some x ∧ s.sys.nextBlock n.val x b
      = some (k, c, r) ∧ rdLe c 1 1 = 6 ∧ crcNat (slice c 16 96) = rdLe c 8 4) ∧
    (∃ (s : State) (n : Fin 64) (b : Bytes) (c : Bytes) (r : Bytes) (x : Nat) (k : Nat), s.sys.expandCtx n.val = some x ∧ s.sys.nextBlock n.val x b
      = some (k, c, r) ∧ rdLe c 1 1 = 6 ∧ crcNat (slice c 16 96) ≠ rdLe c 8 4) ∧
    (∃ (s : State) (n : Fin 64) (b : Bytes) (c : Bytes) (r : Bytes) (x : Nat) (k : Nat) (f : Frame), s.sys.expandCtx n.val = some x ∧
      s.sys.nextBlock n.val x b = some (k, c, r) ∧ rdLe c 1 1 ≠ 6 ∧ let y := (s.sys.consume n.val r).skipOctets n.val k; y.expanding n.val x = some
      f) :=
  ⟨⟨(on State.reset fun y => y.setDec 0 { dec0 with run := some ⟨0, [], none, 0, true, false, 0⟩ }), 0, 0, by decide +kernel⟩,
  ⟨(on (put [(ent 0x4440 1, 1), (ent 0x4440 9, 4), (ent 0x4440 2, 0), (ent 0x4440 3, 1), (ent 0x4440 5, 0)]) fun y => y.wrB (ent 0x4440 10) [128, 0,
    128, 0]), 0, [1], ⟨.idr, false, 1, 0, 1, 8, 128, 128, ⟨64, 8, 64, 4, 32, true, true, false, 0, 0, true, true, 0, 0, true, true, true, true, 0,
    false, 1, 1, false, none, false, false⟩, 0, 0, []⟩, 0, by decide +kernel⟩,
  ⟨(on (put [(ent 0x4440 1, 1), (ent 0x4440 9, 4), (ent 0x4440 2, 0), (ent 0x4440 3, 1), (ent 0x4440 5, 0)]) fun y => y.wrB (ent 0x4440 10) [128, 0,
    128, 0]), 0, [1], ⟨.idr, false, 1, 0, 1, 8, 128, 128, ⟨8, 8, 64, 4, 32, true, true, false, 0, 0, true, true, 0, 0, true, true, true, true, 0,
    false, 1, 1, false, none, false, false⟩, 0, 0, []⟩, 0, by decide +kernel⟩,
  ⟨(on (put [(ent 0x4440 1, 1), (ent 0x4440 9, 4), (ent 0x4440 2, 0), (ent 0x4440 3, 1), (ent 0x4440 5, 0)]) fun y => y.wrB (ent 0x4440 10) [128, 0,
    128, 0]), 0, [0, 0, 1, 2, 9, 5], 0, by decide +kernel⟩,
  ⟨(on (put [(ent 0x4440 1, 1), (ent 0x4440 9, 4), (ent 0x4440 2, 0), (ent 0x4440 3, 1), (ent 0x4440 5, 0)]) fun y => y.wrB (ent 0x4440 10) [128, 0,
    128, 0]).sys, 0, ⟨.idr, false, 1, 0, 1, 8, 128, 128, ⟨64, 8, 64, 4, 32, true, true, false, 0, 0, true, true, 0, 0, true, true, true, true, 0,
    false, 1, 1, false, none, false, false⟩, 0, 0, []⟩, by decide +kernel⟩,
  ⟨(on State.reset fun y => y.setDec 0 { dec0 with run := some ⟨0, [], none, 0, true, false, 0⟩ }), 0, 0, ⟨0, [], none, 0, true, false, 0⟩,
    by decide +kernel⟩,
  ⟨(put [(ent 0x4440 5, 1)]), 0, by decide +kernel⟩,
  ⟨(put [(ent 0x4440 1, 1), (ent 0x4440 5, 0)]), 0, by decide +kernel⟩,
  ⟨(on (put [(ent 0x4440 1, 1), (ent 0x4440 5, 0)]) fun y => y.setDec 0 { dec0 with ready := [⟨0, [], [], 0⟩] }), 0, ⟨0, [], [], 0⟩,
    by decide +kernel⟩,
  ⟨State.reset, 0, by decide +kernel⟩,
  ⟨(put [(ent 0x4980 1, 1)]), 0, by simp only [Room]; decide +kernel⟩,
  ⟨(on (put [(ent 0x4980 1, 1), (ent 0x4980 2, 0), (ent 0x4440 1, 1)]) fun y => { y with media := { y.media with volume :=
    { y.media.volume with directory := [(0, ⟨0, 1, 0, 0, 0, 0, 0, 0, 0, 0, [], 0, 0, []⟩)] } } }), 0, ⟨1, 0, 0, []⟩, (0, ⟨0, 1, 0, 0, 0, 0, 0, 0, 0,
    0, [], 0, 0, []⟩), by decide +kernel⟩,
  ⟨State.reset, 0, by decide +kernel⟩,
  ⟨(put [(ent 0x4800 1, 2), (ent 0x4800 2, 8), (ent 0x4440 1, 2)]), 0, ([0xB7, 6, 0, 0, 96, 0, 96, 0] ++ le 4 (crcNat (List.replicate 96 0)) ++ [0,
    0, 0, 0] ++ List.replicate 96 0), ([0xB7, 6, 0, 0, 96, 0, 96, 0] ++ le 4 (crcNat (List.replicate 96 0)) ++ [0, 0, 0, 0] ++ List.replicate 96 0),
    [], 8, 0, by decide +kernel⟩,
  ⟨(put [(ent 0x4800 1, 2), (ent 0x4800 2, 8), (ent 0x4440 1, 2)]), 0, ([0xB7, 6, 0, 0, 96, 0, 96, 0] ++ [1, 2, 3, 4] ++ [0, 0, 0, 0] ++
    List.replicate 96 0), ([0xB7, 6, 0, 0, 96, 0, 96, 0] ++ [1, 2, 3, 4] ++ [0, 0, 0, 0] ++ List.replicate 96 0), [], 8, 0, by decide +kernel⟩,
  ⟨(on (put [(ent 0x4800 1, 2), (ent 0x4800 2, 8), (ent 0x4440 1, 2)]) fun y => { y.setZc 0 { zc0 with expand := some 5 } with frames :=
    [{ frame0 8 [] with complete := false, start := [16, 0, 16, 0, 8] }] }), 0, [0xB7, 3, 0, 0, 1, 0, 1, 0, 0, 0, 0, 0, 0, 0, 0, 0, 9], [0xB7, 3, 0,
    0, 1, 0, 1, 0, 0, 0, 0, 0, 0, 0, 0, 0, 9], [], 8, 0, { frame0 8 [] with complete := false, start := [16, 0, 16, 0, 8] },
    by dsimp only; decide +kernel⟩⟩

/-- States and operands that meet the hypotheses of CodersJobsAndTheRing, clause by clause. -/
theorem witness_CodersJobsAndTheRing :
    (∃ (s : State) (x : Fin 8), ((∀ f ∈ s.sys.frames, f.ctx ≠ x.val ∨ f.rawEnded = true ∨ f.gen.rawChannels x.val = []))) ∧
    (∃ (s : State) (x : Fin 8) (f : Frame), (s.sys.frames.find? fun f => f.ctx == x.val && !f.rawEnded && !(f.gen.rawChannels x.val).isEmpty) = some
      f ∧ let stop := min (f.gen.height x.val) (f.cut.getD (f.gen.height x.val));
      let own := (List.range stop).filter fun l => decide (f.rawLine ≤ l) && f.gen.ownLine x.val l;
      let ends := (own.headD f.rawLine / f.gen.stripeH x.val + 1) * f.gen.stripeH x.val; ((∀ l ∈ own, l < ends → ∃ d ∈ f.lines, d.num = l))) ∧
    (∃ (s : State) (x : Fin 8) (f : Frame), (s.sys.frames.find? fun f => f.ctx == x.val && !f.rawEnded && !(f.gen.rawChannels x.val).isEmpty) = some
      f ∧ let stop := min (f.gen.height x.val) (f.cut.getD (f.gen.height x.val));
      let own := (List.range stop).filter fun l => decide (f.rawLine ≤ l) && f.gen.ownLine x.val l; (∃ l ∈ own, l < (own.headD f.rawLine /
      f.gen.stripeH x.val + 1) * f.gen.stripeH x.val ∧ ∀ d ∈ f.lines, d.num ≠ l)) ∧
    (∃ (s : State) (n : Fin 64), s.sys.rd (ent (0x4800 + n.val) 1) ≠ 3) ∧
    (∃ (s : State) (n : Fin 64), s.sys.rd (ent (0x4800 + n.val) 1) ≠ 4) ∧
    (∃ (s : State) (n : Fin 64) (d : Bytes) (b : Bool), s.sys.rd (ent (0x4800 + n.val) 1) = 3 ∧ let q := s.sys.jobAt n.val d; jobStart s.sys q.2 1 b
      ≠ 0) ∧
    (∃ (s : State) (n : Fin 64) (d : Bytes) (b : Bool), s.sys.rd (ent (0x4800 + n.val) 1) = 3 ∧ let q := s.sys.jobAt n.val d; jobStart s.sys q.2 1 b
      = 0) ∧
    (∃ (s : State) (n : Fin 64) (d : Bytes) (b : Bool), s.sys.rd (ent (0x4800 + n.val) 1) = 4 ∧ let q := s.sys.jobAt n.val d; jobStart s.sys q.2 2 b
      = 0) ∧
    (∃ (s : State) (n : Fin 64), (s.sys.zc n.val).tail = []) ∧
    (∃ (s : State) (n : Fin 64), (s.sys.zc n.val).tail ≠ [] ∧ Room s) ∧
    (∃ (s : State) (w : Writer) (x : Fin 8) (c : Instr) (v : Nat), (c, v) ∈ ([(.ringHold w x, 1), (.ringRelease w x, 0)] : List (Instr × Nat)) ∧
      Granted s w (ent (0x4848 + x.val) 2) (le 1 v)) ∧
    (∃ (s : State) (x : Fin 8) (a : BitVec 32) (b : BitVec 32), ((∀ f ∈ (s.sys.ring x.val).frames, f.frame < a.toNat ∨ b.toNat < f.frame))) ∧
    (∃ (s : State) (w : Writer) (x : Fin 8) (a : BitVec 32) (b : BitVec 32), Granted s w (ent (0x4848 + x.val) 7) (le 4 a.toNat ++ le 4 b.toNat) ∧
      (s.sys.recording x.val).slot.isSome = true) :=
  ⟨⟨State.reset, 0, by decide +kernel⟩,
  ⟨(flying [{ frame0 0 [] with gen := plain (put [(ent 0x4800 1, 1), (ent 0x4800 2, 0), (ent 0x3000 6, 0)]).sys.view }]), 0,
    { frame0 0 [] with gen := plain (put [(ent 0x4800 1, 1), (ent 0x4800 2, 0), (ent 0x3000 6, 0)]).sys.view }, by decide +kernel,
    by dsimp only; decide +kernel⟩,
  ⟨(flying [{ frame0 0 [] with gen := plain (put [(ent 0x4800 1, 1), (ent 0x4800 2, 0), (ent 0x3000 6, 4)]).sys.view }]), 0,
    { frame0 0 [] with gen := plain (put [(ent 0x4800 1, 1), (ent 0x4800 2, 0), (ent 0x3000 6, 4)]).sys.view }, by decide +kernel,
    by dsimp only; decide +kernel⟩,
  ⟨State.reset, 0, by decide +kernel⟩,
  ⟨State.reset, 0, by decide +kernel⟩,
  ⟨(put [(ent 0x4800 1, 3)]), 0, [], false, by dsimp only; decide +kernel⟩,
  ⟨(put [(ent 0x4800 1, 3), (ent 0x4800 8, 2 ^ 63)]), 0, (1 :: List.replicate 31 0), false, by dsimp only; decide +kernel⟩,
  ⟨(put [(ent 0x4800 1, 4), (ent 0x4800 8, 2 ^ 63)]), 0, (2 :: List.replicate 31 0), false, by dsimp only; decide +kernel⟩,
  ⟨State.reset, 0, by decide +kernel⟩,
  ⟨(sys fun y => y.setZc 0 { zc0 with tail := [1] }), 0, by simp only [Room]; decide +kernel⟩,
  ⟨(put [(ent 0x4800 1, 1), (ent 0x4848 1, 1)]), cust, 0, _, _, .head _, by simp only [Granted, Admitted]; decide +kernel⟩,
  ⟨State.reset, 0, 0, 0, by decide +kernel⟩,
  ⟨(sys fun y => { y.setRing 0 ⟨[⟨5, 0, 0, [], [], [], false⟩], false⟩ with media := { y.media with recs := [(0, { rec0 with slot := some 0 })] }
    }), cust, 0, 5, 5, by simp only [Granted, Admitted]; decide +kernel⟩⟩

/-- States and operands that meet the hypotheses of MediaQueuesFetchFreezeAndReset, clause by clause. -/
theorem witness_MediaQueuesFetchFreezeAndReset :
    (∃ (s : State) (q : Fin 16), s.sys.fetches q.val = false) ∧
    (∃ (s : State) (q : Fin 16) (e : Bytes) (d : Bytes) (f : Bool) (c : Instr), s.sys.fetches q.val = true ∧ c ∈ ([.mqWrite q e d f, .mqRead q e f,
      .mqFlush q e] : List Instr)) ∧
    (∃ (s : State) (q : Fin 16) (e : Bytes) (d : Bytes) (f : Bool) (c : Instr) (kind : Nat) (fault : Bool), s.sys.fetches q.val = true ∧ (c, kind,
      fault) ∈ ([(.mqWrite q e d f, 1, f), (.mqRead q e f, 2, f), (.mqFlush q e, 3, false)] : List (Instr × Nat × Bool)) ∧
      let st := (s.sys.fetched q.val).entryStatus q.val kind (slice e 0 64) fault; st ≠ 0) ∧
    (∃ (s : State) (q : Fin 16) (e : Bytes) (f : Bool), s.sys.fetches q.val = true ∧ (s.sys.fetched q.val).entryStatus q.val 1 (slice e 0 64) f = 0)
      ∧
    (∃ (s : State) (q : Fin 16), ((∀ w ∈ s.sys.media.writes, w.queue = q.val → w.waiting = none))) ∧
    (∃ (s : State) (q : Fin 16) (w : BufWrite) (u : Nat), (s.sys.media.writes.find? fun w => w.queue == q.val && w.waiting.isSome) = some w ∧
      w.waiting = some u ∧ s.sys.media.hostBuffered + w.data.length ≤ s.sys.rd (ent 0x4950 2) * 1048576) ∧
    (∃ (s : State) (q : Fin 16), s.sys.rd (ent (0x4900 + q.val) 1) = 1 ∧ s.sys.rd (ent (0x4910 + q.val) 1) = 2 ∧ (s.sys.mq q.val).log = [] ∧ Room s)
      ∧
    (∃ (s : State) (q : Fin 16), (s.sys.rd (ent (0x4910 + q.val) 1) ≠ 2 ∨ (s.sys.mq q.val).log ≠ [])) ∧
    (∃ (s : State) (q : Fin 16), (s.sys.rd (ent (0x4910 + q.val) 1) = 0 ∨ s.sys.rd (ent (0x4910 + q.val) 1) = 3)) ∧
    (∃ (s : State) (q : Fin 16), s.sys.rd (ent (0x4900 + q.val) 1) = 1 ∧ (s.sys.rd (ent (0x4910 + q.val) 1) = 1 ∨ s.sys.rd (ent (0x4910 + q.val) 1)
      = 2)) ∧
    (∃ (s : State) (q : Fin 16), s.sys.rd (ent (0x4900 + q.val) 1) ≠ 1) ∧
    (∃ (s : State) (w : Writer) (q : Fin 16), Granted s w (ent (0x4900 + q.val) 8) (le 2 1)) ∧
    (∃ (s : State) (w : Writer) (q : Fin 16), Granted s w (ent (0x4900 + q.val) 8) (le 2 2) ∧ (s.sys.rd (ent (0x4910 + q.val) 1) = 1 ∨ s.sys.rd (ent
      (0x4910 + q.val) 1) = 2)) ∧
    (∃ (s : State) (q : Fin 16), s.sys.rd (ent (0x4910 + q.val) 1) = 3 ∧ Room s) ∧
    (∃ (s : State) (q : Fin 16), s.sys.rd (ent (0x4910 + q.val) 1) ≠ 3) :=
  ⟨⟨State.reset, 0, by decide +kernel⟩,
  ⟨(put [(ent 0x4900 1, 1), (ent 0x4910 1, 1)]), 0, [], [], false, .mqFlush 0 [], by decide +kernel, .tail _ (.tail _ (.head _))⟩,
  ⟨(put [(ent 0x4900 1, 1), (ent 0x4910 1, 1)]), 0, [], [], false, .mqFlush 0 [], 3, false, by decide +kernel, .tail _ (.tail _ (.head _)),
    by decide +kernel⟩,
  ⟨(on (put [(ent 0x4900 1, 1), (ent 0x4910 1, 1), (ent 0x4948 4, 2)]) fun y => { y with media := { y.media with volume :=
    { y.media.volume with cap := 2 ^ 40 } } }), 0, ([1, 0, 0, 0, 0, 0, 0, 0, 0, 0, 4, 0, 0, 0, 0, 0, 1] ++ List.replicate 47 0), false,
    by decide +kernel⟩,
  ⟨State.reset, 0, by decide +kernel⟩,
  ⟨(on (put [(ent 0x4950 2, 1)]) fun y => { y with media :=
    { y.media with writes := [⟨0, 0, 0, 0, false, false, false, true, 0, [7], some 3, false, []⟩] } }), 0, ⟨0, 0, 0, 0, false, false, false, true,
    0, [7], some 3, false, []⟩, 3, by decide +kernel⟩,
  ⟨(put [(ent 0x4900 1, 1), (ent 0x4910 1, 2)]), 0, by simp only [Room]; decide +kernel⟩,
  ⟨State.reset, 0, by decide +kernel⟩,
  ⟨State.reset, 0, by decide +kernel⟩,
  ⟨(put [(ent 0x4900 1, 1), (ent 0x4910 1, 1)]), 0, by decide +kernel⟩,
  ⟨State.reset, 0, by decide +kernel⟩,
  ⟨(put [(ent 0x4900 1, 1), (ent 0x4910 1, 2)]), cust, 0, by simp only [Granted, Admitted]; decide +kernel⟩,
  ⟨(put [(ent 0x4900 1, 1), (ent 0x4910 1, 1)]), cust, 0, by simp only [Granted, Admitted]; decide +kernel⟩,
  ⟨(put [(ent 0x4910 1, 3)]), 0, by simp only [Room]; decide +kernel⟩,
  ⟨State.reset, 0, by decide +kernel⟩⟩

/-- States and operands that meet the hypotheses of DrivesAndVolumesComeAndGo, clause by clause. -/
theorem witness_DrivesAndVolumesComeAndGo :
    (∃ (s : State) (d : Fin 4), s.sys.takesWrites d.val = false) ∧
    (∃ (s : State) (d : Fin 4), s.sys.takesWrites d.val = true ∧ s.sys.vol.members.contains d.val = false ∧ Room s) ∧
    (∃ (s : State) (d : Fin 4), s.sys.takesWrites d.val = true ∧ s.sys.vol.members.contains d.val = false ∧ Room s) ∧
    (∃ (s : State) (d : Fin 4) (n : BitVec 32) (w : BufWrite), let is (p : Piece) : Bool := p.drive == d.val && p.cid == some n.toNat; ((∀ w ∈
      s.sys.media.direct, w.drive ≠ d.val ∨ w.cid ≠ n.toNat)) ∧ (s.sys.media.writes.find? fun w => w.pieces.any is) = some w) ∧
    (∃ (s : State), s.sys.media.writes = [] ∧ s.sys.media.reads = [] ∧ s.sys.media.flushes = [] ∧ s.sys.media.direct = []) ∧
    (∃ (s : State) (d : Fin 4) (n : BitVec 32) (w : DirectWrite), w ∈ s.sys.media.direct ∧ w.drive = d.val ∧ w.cid = n.toNat) ∧
    (∃ (s : State) (p : BitVec 4) (c : Instr), s.sys.rd (ent 0x4948 4) ≠ 0 ∧ c ∈ ([.volumeCreate p, .volumeAttach p] : List Instr)) ∧
    (∃ (s : State), s.sys.rd (ent 0x4948 4) = 0) ∧
    (∃ (s : State), s.sys.rd (ent 0x4948 4) = 0 ∧ layoutDrives (s.sys.rd (ent 0x4948 2)) ((List.range 4).filter fun d => (s.sys.rd (ent 0x4948
      3)).testBit d).length = true) ∧
    (∃ (s : State) (p : BitVec 4), s.sys.rd (ent 0x4948 4) = 0 ∧ s.sys.boot.strapFault = false ∧ p ≠ 0) ∧
    (∃ (s : State) (d : Fin 4), s.sys.rd (ent 0x4948 4) = 1 ∧ s.sys.vol.awaiting.contains d.val = true ∧ s.sys.vol.awaiting.filter (· != d.val) ≠
      []) ∧
    (∃ (s : State) (d : Fin 4), s.sys.vol.awaiting.contains d.val = false) ∧
    (∃ (s : State) (x : Nat), x < 16 ∧ s.sys.rd (ent (0x4960 + x) 1) = 1) ∧
    (∃ (s : State), ((∀ x, x < 16 → s.sys.rd (ent (0x4960 + x) 1) ≠ 1))) ∧
    (∃ (s : State), (s.sys.rebuildMember (s.sys.rd (ent 0x4948 7)) = none ∨ s.sys.vol.mirrored = false ∨ s.sys.volumeUp = false ∨
      s.sys.vol.rebuild.isSome = true)) ∧
    (∃ (s : State) (m : Nat), let d := s.sys.rd (ent 0x4948 7); s.sys.rebuildMember d = some m ∧ s.sys.vol.mirrored = true ∧ s.sys.takesWrites d =
      false ∧ s.sys.volumeUp = true ∧ s.sys.vol.rebuild = none) ∧
    (∃ (s : State), s.sys.vol.rebuild = none) ∧
    (∃ (s : State) (m : Nat) (u : Nat), s.sys.vol.rebuild = some (m, u) ∧ s.sys.driveState (s.sys.vol.members.getD m 255) = 3) ∧
    (∃ (s : State) (id : BitVec 64), (∀ c ∈ s.sys.vol.directory, c.2.id ≠ id.toNat)) ∧
    (∃ (s : State) (id : BitVec 64) (c : Clip), ((s.sys.vol.directory.map (·.2)).find? fun c => c.id == id.toNat) = some c ∧ c.state ≠ 1) ∧
    (∃ (s : State) (id : BitVec 64) (c : Clip), ((s.sys.vol.directory.map (·.2)).find? fun c => c.id == id.toNat) = some c ∧ c.state = 1) ∧
    (∃ (s : State) (x : Fin 16), (s.sys.recording x.val).slot = none) ∧
    (∃ (s : State) (x : Fin 16) (n : Nat) (c : Clip), (s.sys.recording x.val).slot = some n ∧ s.sys.vol.clip? n = some c) ∧
    (∃ (v : BitVec 8), v ≠ 1) :=
  ⟨⟨State.reset, 0, by decide +kernel⟩,
  ⟨(put [(ent 0x4940 1, 1)]), 0, by simp only [Room]; decide +kernel⟩,
  ⟨(put [(ent 0x4940 1, 1)]), 0, by simp only [Room]; decide +kernel⟩,
  ⟨(on State.reset fun y => { y with media :=
    { y.media with writes := [⟨0, 0, 0, 0, false, false, false, true, 0, [7], none, false, [⟨0, 0, 1, 0, some 0⟩]⟩] } }), 0, 0, ⟨0, 0, 0, 0, false,
    false, false, true, 0, [7], none, false, [⟨0, 0, 1, 0, some 0⟩]⟩, by dsimp only; decide +kernel⟩,
  ⟨State.reset, by decide +kernel⟩,
  ⟨(on State.reset fun y => { y with media := { y.media with direct := [⟨0, 7, 0, 0, 1, []⟩] } }), 0, 7, ⟨0, 7, 0, 0, 1, []⟩, by decide +kernel⟩,
  ⟨(put [(ent 0x4948 4, 2)]), 0, _, by decide +kernel, .head _⟩,
  ⟨State.reset, by decide +kernel⟩,
  ⟨State.reset, by decide +kernel⟩,
  ⟨(put [(ent 0x4948 4, 0)]), 1, by decide +kernel⟩,
  ⟨(on (put [(ent 0x4948 4, 1)]) fun y => { y with media := { y.media with volume := { y.media.volume with awaiting := [0, 1] } } }), 0,
    by decide +kernel⟩,
  ⟨State.reset, 0, by decide +kernel⟩,
  ⟨(put [(ent 0x4960 1, 1)]), 0, by decide +kernel⟩,
  ⟨State.reset, by decide +kernel⟩,
  ⟨State.reset, by decide +kernel⟩,
  ⟨(on (put [(ent 0x4948 7, 0), (ent 0x4948 4, 2), (ent 0x4940 1, 0)]) fun y => { y with media := { y.media with volume :=
    { y.media.volume with members := [0, 1], layout := 3 } } }), 0, by dsimp only; decide +kernel⟩,
  ⟨State.reset, by decide +kernel⟩,
  ⟨(on (put [(ent 0x4940 1, 3)]) fun y => { y with media := { y.media with volume :=
    { y.media.volume with members := [0, 1], rebuild := some (0, 4) } } }), 0, 4, by decide +kernel⟩,
  ⟨State.reset, 0, by decide +kernel⟩,
  ⟨(on State.reset fun y => { y with media := { y.media with volume :=
    { y.media.volume with directory := [(0, ⟨0, 0, 0, 2, 0, 0, 0, 0, 0, 0, [], 0, 0, []⟩)] } } }), 0, ⟨0, 0, 0, 2, 0, 0, 0, 0, 0, 0, [], 0, 0, []⟩,
    by decide +kernel⟩,
  ⟨(on State.reset fun y => { y with media := { y.media with volume :=
    { y.media.volume with directory := [(0, ⟨0, 0, 0, 1, 0, 0, 0, 0, 0, 0, [], 0, 0, []⟩)] } } }), 0, ⟨0, 0, 0, 1, 0, 0, 0, 0, 0, 0, [], 0, 0, []⟩,
    by decide +kernel⟩,
  ⟨State.reset, 0, by decide +kernel⟩,
  ⟨(on State.reset fun y => { y with media := { y.media with volume :=
    { y.media.volume with directory := [(0, ⟨0, 0, 0, 2, 0, 0, 0, 0, 0, 0, [], 0, 0, []⟩)] }, recs := [(0, { rec0 with slot := some 0 })] } }), 0,
    0, ⟨0, 0, 0, 2, 0, 0, 0, 0, 0, 0, [], 0, 0, []⟩, by decide +kernel⟩,
  ⟨0, by decide +kernel⟩⟩

/-- States and operands that meet the hypotheses of DramRanksAreScrubbedMovedAndTested, clause by clause. -/
theorem witness_DramRanksAreScrubbedMovedAndTested :
    (∃ (s : State) (r : Fin 18) (l : BitVec 32), s.sys.rd (ent (0x4B10 + r.val) 1) ≤ 3 ∧ l.toNat < 47185920) ∧
    (∃ (s : State) (r : Fin 18), 3 < s.sys.rd (ent (0x4B10 + r.val) 1)) ∧
    (∃ (s : State) (w : Writer), Granted s w (ent 0x4B00 9) (le 2 1)) ∧
    (∃ (s : State) (m : Migration), s.sys.mram.mig = some m ∧ s.sys.rd (ent 0x4B01 1) = 1 ∧ m.checked + 1 < 45) ∧
    (∃ (s : State) (m : Migration), s.sys.mram.mig = some m ∧ s.sys.rd (ent 0x4B01 1) = 1 ∧ m.recopied = false) ∧
    (∃ (s : State) (m : Migration), s.sys.mram.mig = some m ∧ s.sys.rd (ent 0x4B01 1) = 1 ∧ m.recopied = true) ∧
    (∃ (s : State), s.sys.mram.mig = none) ∧
    (∃ (s : State) (w : Writer), Granted s w (ent 0x4B00 9) (le 2 2)) ∧
    (∃ (s : State) (w : Writer), Granted s w (ent 0x4B00 9) (le 2 3)) ∧
    (∃ (s : State) (r : Fin 18) (n : BitVec 32), s.sys.rankIs r.val .retest = true ∧ n.toNat < 16 ∧ Room s) ∧
    (∃ (s : State) (r : Fin 18) (e : Bool) (n : BitVec 32), s.sys.rankIs r.val .retest = true ∧ (e = true ∨ 16 ≤ n.toNat) ∧ Room s) ∧
    (∃ (s : State) (r : Nat), s.sys.mem.scan = some r ∧ Room s) ∧
    (∃ (s : State) (p : Fin 9), s.sys.rdBit (ent 0x2101 9) p.val = true ∧ s.sys.rd (ent (0x4B30 + p.val) 2) ≠ 4 ∧ Room s) ∧
    (∃ (s : State) (p : Fin 9), s.sys.rdBit (ent 0x2101 9) p.val = false ∧ s.sys.rd (ent (0x4B30 + p.val) 2) < refreshFor (s.sys.rdI (ent (0x4B30 +
      p.val) 1)) 0) ∧
    (∃ (s : State) (w : Writer), Granted s w (ent 0x4B00 0x0C) (le 1 1)) :=
  ⟨⟨State.reset, 0, 0, by decide +kernel⟩,
  ⟨(put [(ent 0x4B10 1, 4)]), 0, by decide +kernel⟩,
  ⟨(put [(ent 0x4B00 0x0A, 1), (ent 0x4B11 1, 0)]), cust, by simp only [Granted, Admitted]; decide +kernel⟩,
  ⟨(on (put [(ent 0x4B01 1, 1)]) fun y => { y with mram := { y.mram with mig := some ⟨0, 1, 0, 0, 3, false, 0⟩ } }), ⟨0, 1, 0, 0, 3, false, 0⟩,
    by decide +kernel⟩,
  ⟨(on (put [(ent 0x4B01 1, 1)]) fun y => { y with mram := { y.mram with mig := some ⟨0, 1, 0, 0, 3, false, 0⟩ } }), ⟨0, 1, 0, 0, 3, false, 0⟩,
    by decide +kernel⟩,
  ⟨(on (put [(ent 0x4B01 1, 1)]) fun y => { y with mram := { y.mram with mig := some ⟨0, 1, 0, 0, 3, true, 0⟩ } }), ⟨0, 1, 0, 0, 3, true, 0⟩,
    by decide +kernel⟩,
  ⟨State.reset, by decide +kernel⟩,
  ⟨(put [(ent 0x4B00 0x0A, 1), (ent 0x4B11 1, 6)]), cust, by simp only [Granted, Admitted]; decide +kernel⟩,
  ⟨(put [(ent 0x4B00 0x0A, 1), (ent 0x4B11 1, 1)]), cust, by simp only [Granted, Admitted]; decide +kernel⟩,
  ⟨(put [(ent 0x4B10 1, 5)]), 0, 15, by simp only [Room]; decide +kernel⟩,
  ⟨(put [(ent 0x4B10 1, 5)]), 0, false, 16, by simp only [Room]; decide +kernel⟩,
  ⟨(sys fun y => { y with mem := { y.mem with scan := some 2 } }), 2, by simp only [Room]; decide +kernel⟩,
  ⟨(put [(ent 0x2101 9, 1), (ent 0x4B30 2, 1)]), 0, by simp only [Room]; decide +kernel⟩,
  ⟨(put [(ent 0x2101 9, 0), (ent 0x4B30 2, 0)]), 0, by decide +kernel⟩,
  ⟨State.reset, cust, by simp only [Granted, Admitted]; decide +kernel⟩⟩

/-- States and operands that meet the hypotheses of PositionChannelsCountAndLatch, clause by clause. -/
theorem witness_PositionChannelsCountAndLatch :
    (∃ (s : State) (n : Fin 24), s.sys.rd (ent (0x2600 + n.val) 1) ≠ 1) ∧
    (∃ (s : State) (n : Fin 24) (a : Bool) (b : Bool), s.sys.posHeld = false ∧ s.sys.rd (ent (0x2600 + n.val) 1) = 1 ∧ s.sys.rd (ent (0x2600 +
      n.val) 3) = 2 ∧ (quadPlace a b + 4 - quadPlace (s.sys.pos n.val).a (s.sys.pos n.val).b) % 4 = 1) ∧
    (∃ (s : State) (n : Fin 24) (a : Bool) (b : Bool), s.sys.posHeld = false ∧ s.sys.rd (ent (0x2600 + n.val) 1) = 1 ∧ (quadPlace a b + 4 -
      quadPlace (s.sys.pos n.val).a (s.sys.pos n.val).b) % 4 = 2) ∧
    (∃ (s : State) (n : Fin 24), s.sys.posHeld = false ∧ s.sys.rd (ent (0x2600 + n.val) 1) = 2 ∧ s.sys.rd (ent (0x2600 + n.val) 0x11) = 0 ∧ s.sys.rd
      (ent (0x2600 + n.val) 0x14) = 0 ∧ s.sys.rd (ent (0x2600 + n.val) 4) ≠ 1) ∧
    (∃ (s : State) (n : Fin 24), s.sys.rd (ent (0x2600 + n.val) 1) ≠ 2) ∧
    (∃ (s : State) (n : Fin 24) (x : BitVec 12) (z : BitVec 12), s.sys.posHeld = false ∧ s.sys.rd (ent (0x2600 + n.val) 1) = 3 ∧ (s.sys.corrected
      n.val x.toInt z.toInt).1 = 0 ∧ (s.sys.corrected n.val x.toInt z.toInt).2 = 0 ∧ 0 < s.sys.rd (ent (0x2600 + n.val) 0x19)) ∧
    (∃ (s : State) (n : Fin 24) (x : BitVec 12) (z : BitVec 12), s.sys.posHeld = false ∧ s.sys.rd (ent (0x2600 + n.val) 1) = 3 ∧
      let v := s.sys.corrected n.val x.toInt z.toInt; let rr := v.1 * v.1 + v.2 * v.2; (s.sys.rd (ent (0x2600 + n.val) 0x19) : Rat) * (s.sys.rd (ent
      (0x2600 + n.val) 0x19) : Rat) ≤ rr ∧ rr ≤ (s.sys.rd (ent (0x2600 + n.val) 0x1A) : Rat) * (s.sys.rd (ent (0x2600 + n.val) 0x1A) : Rat)) ∧
    (∃ (s : State) (n : Fin 24), s.sys.rd (ent (0x2600 + n.val) 1) ≠ 3) ∧
    (∃ (s : State) (n : Fin 24), s.sys.posHeld = false ∧ s.sys.rd (ent (0x2600 + n.val) 1) = 1 ∧ s.sys.rd (ent (0x2600 + n.val) 7) = 1 ∧ s.sys.rd
      (ent (0x2600 + n.val) 8) = 0 ∧ s.sys.rd (ent (0x2600 + n.val) 0x0A) = 0) ∧
    (∃ (s : State) (n : Fin 24), (s.sys.rd (ent (0x2600 + n.val) 7) ≠ 1 ∨ s.sys.rd (ent (0x2600 + n.val) 1) = 0)) ∧
    (∃ (s : State) (n : Fin 24), s.sys.posHeld = false ∧ s.sys.rd (ent (0x2600 + n.val) 1) ≠ 0 ∧ s.sys.rd (ent (0x2600 + n.val) 0x0E) = 2 ∧ s.sys.rd
      (ent (0x2600 + n.val) 0x10) = 2 ∧ (s.sys.pos n.val).probes.length < 16) ∧
    (∃ (s : State) (n : Fin 24), s.sys.posHeld = false ∧ s.sys.rd (ent (0x2600 + n.val) 1) ≠ 0 ∧ s.sys.rd (ent (0x2600 + n.val) 0x0E) = 2 ∧ s.sys.rd
      (ent (0x2600 + n.val) 0x10) = 2 ∧ 16 ≤ (s.sys.pos n.val).probes.length) ∧
    (∃ (s : State) (n : Fin 24), s.sys.rd (ent (0x2600 + n.val) 1) ≠ 0 ∧ ((s.sys.pos n.val).hist = [] ∨ s.sys.posHas n.val .stopped = true)) ∧
    (∃ (s : State) (n : Fin 24) (l : Nat × Nat), s.sys.rd (ent (0x2600 + n.val) 1) ≠ 0 ∧ (s.sys.pos n.val).hist = [l] ∧ s.sys.posHas n.val .stopped
      = false) ∧
    (∃ (s : State) (n : Fin 24), s.sys.rd (ent (0x2600 + n.val) 1) ≠ 0 ∧ s.sys.posHas n.val .stopped = false) ∧
    (∃ (s : State) (n : Fin 24), s.sys.posHas n.val .stopped = true) ∧
    (∃ (s : State) (n : Fin 24) (a : Bool) (b : Bool) (x : BitVec 12) (z : BitVec 12) (c : Instr), s.sys.posHeld = true ∧ c ∈ ([.quadratureCount n a
      b, .toothEdge n b, .sincosSample n x z, .indexLatch n a, .probeLatch n a] : List Instr)) :=
  ⟨⟨State.reset, 0, by decide +kernel⟩,
  ⟨(put [(ent 0x2600 1, 1), (ent 0x2600 3, 2)]), 0, true, false, by decide +kernel⟩,
  ⟨(put [(ent 0x2600 1, 1)]), 0, true, true, by decide +kernel⟩,
  ⟨(put [(ent 0x2600 1, 2), (ent 0x2600 4, 0)]), 0, by decide +kernel⟩,
  ⟨State.reset, 0, by decide +kernel⟩,
  ⟨(put [(ent 0x2600 1, 3), (ent 0x2600 0x19, 1)]), 0, 0, 0, by decide +kernel⟩,
  ⟨(put [(ent 0x2600 1, 3), (ent 0x2600 0x19, 2047), (ent 0x2600 0x1A, 2048)]), 0, 2047, 0, by dsimp only; decide +kernel⟩,
  ⟨State.reset, 0, by decide +kernel⟩,
  ⟨(put [(ent 0x2600 1, 1), (ent 0x2600 7, 1)]), 0, by decide +kernel⟩,
  ⟨State.reset, 0, by decide +kernel⟩,
  ⟨(put [(ent 0x2600 1, 1), (ent 0x2600 0x0E, 2), (ent 0x2600 0x10, 2)]), 0, by decide +kernel⟩,
  ⟨(on (put [(ent 0x2600 1, 1), (ent 0x2600 0x0E, 2), (ent 0x2600 0x10, 2)]) fun y => y.setPos 0 { pos0 with probes := List.replicate 16 [] }), 0,
    by decide +kernel⟩,
  ⟨(put [(ent 0x2600 1, 1)]), 0, by decide +kernel⟩,
  ⟨(on (put [(ent 0x2600 1, 1), (ent 0x2620 3, 0)]) fun y => y.setPos 0 { pos0 with hist := [(1, 2)] }), 0, (1, 2), by decide +kernel⟩,
  ⟨(put [(ent 0x2600 1, 1), (ent 0x2620 3, 0)]), 0, by decide +kernel⟩,
  ⟨State.reset, 0, by decide +kernel⟩,
  ⟨(sys fun y => { y with boot := { y.boot with strapFault := true } }), 0, false, false, 0, 0, _, by decide +kernel, .head _⟩⟩

/-- States and operands that meet the hypotheses of LinksOpenAndCarryTheirChannels, clause by clause. -/
theorem witness_LinksOpenAndCarryTheirChannels :
    (∃ (s : State) (k : Fin 4), (s.sys.rd (ent (0x4C08 + k.val) 1) = 0 ∨ s.sys.boot.phase ≠ .running)) ∧
    (∃ (s : State) (k : Fin 4) (st : BitVec 8) (n : BitVec 8) (c : Nat), s.sys.rd (ent (0x4C08 + k.val) 1) ≠ 0 ∧ s.sys.boot.phase = .running ∧
      s.sys.rd (ent (0x4C08 + k.val) 1) ≠ 4 ∧ s.sys.formationFault st.toNat n.toNat = some c ∧ c ≠ 3 ∧ Room s) ∧
    (∃ (s : State) (k : Fin 4) (st : BitVec 8) (n : BitVec 8), s.sys.rd (ent (0x4C08 + k.val) 1) ≠ 0 ∧ s.sys.rd (ent (0x4C08 + k.val) 1) ≠ 2 ∧
      s.sys.boot.phase = .running ∧ s.sys.formationFault st.toNat n.toNat = none ∧ s.sys.partnerKind st.toNat = 2 ∧ Room s) ∧
    (∃ (s : State) (k : Fin 4), s.sys.rd (ent (0x4C08 + k.val) 1) = 2) ∧
    (∃ (s : State) (k : Fin 4) (f : CtlFrame), s.sys.rd (ent (0x4C08 + k.val) 1) = 2 ∧ (s.sys.link k.val).unacked = [f]) ∧
    (∃ (s : State) (k : Fin 4), s.sys.garosUp k.val = true) ∧
    (∃ (s : State) (k : Fin 4) (q : BitVec 16) (x : Fin 16) (n : BitVec 32) (f : Frame), s.sys.garosUp k.val = true ∧ ((s.sys.link
      k.val).expect.lookup 2).getD q.toNat = q.toNat ∧ s.sys.frame? x.val n.toNat = some f ∧ f.abandoned = false) ∧
    (∃ (s : State) (k : Fin 4) (q : BitVec 16) (a : BitVec 64) (n : BitVec 16), s.sys.garosUp k.val = true ∧ ((s.sys.link k.val).expect.lookup
      3).getD q.toNat = q.toNat ∧ a.toNat / 2 ^ 60 = 4 + s.sys.arrayPos ∧ dmaOk (a.toNat % 2 ^ 38) n.toNat = true ∧ s.sys.dmaPoisoned (a.toNat % 2 ^
      38) n.toNat = false) ∧
    (∃ (s : State) (k : Fin 4) (q : BitVec 16) (a : BitVec 64) (b : Bytes), s.sys.garosUp k.val = true ∧ ((s.sys.link k.val).expect.lookup 3).getD
      q.toNat = q.toNat ∧ a.toNat / 2 ^ 60 = 4 + s.sys.arrayPos ∧ dmaOk (a.toNat % 2 ^ 38) b.length = true) ∧
    (∃ (s : State) (k : Fin 4) (q : BitVec 16) (a : BitVec 64), s.sys.garosUp k.val = true ∧ ((s.sys.link k.val).expect.lookup 3).getD q.toNat =
      q.toNat ∧ a.toNat / 2 ^ 60 ≠ 4 + s.sys.arrayPos) ∧
    (∃ (s : State) (k : Fin 4), s.sys.garosUp k.val = true) ∧
    (∃ (s : State) (k : Fin 4), s.sys.garosUp k.val = true ∧ s.sys.timeSources.contains 5 = false) ∧
    (∃ (s : State) (k : Fin 4), s.sys.garosUp k.val = false) :=
  ⟨⟨State.reset, 0, by decide +kernel⟩,
  ⟨(put [(ent 0x4C08 1, 1)]), 0, 1, 0, 0, by simp only [Room]; decide +kernel⟩,
  ⟨(put [(ent 0x4C08 1, 1), (ent 0x2010 1, 16)]), 0, 24, 0, by simp only [Room]; decide +kernel⟩,
  ⟨(put [(ent 0x4C08 1, 2)]), 0, by decide +kernel⟩,
  ⟨(on (put [(ent 0x4C08 1, 2)]) fun y => y.setLink 0 { link0 with unacked := [⟨0, 1, [], 0⟩] }), 0, ⟨0, 1, [], 0⟩, by decide +kernel⟩,
  ⟨(put [(ent 0x4C08 1, 2)]), 0, by decide +kernel⟩,
  ⟨(on (put [(ent 0x4C08 1, 2)]) fun y => { y with frames := [frame0 0 []] }), 0, 0, 0, 5, frame0 0 [], by decide +kernel⟩,
  ⟨(put [(ent 0x4C08 1, 2)]), 0, 0, 2 ^ 62, 0, by decide +kernel⟩,
  ⟨(put [(ent 0x4C08 1, 2)]), 0, 0, 2 ^ 62, [], by decide +kernel⟩,
  ⟨(put [(ent 0x4C08 1, 2)]), 0, 0, 0, by decide +kernel⟩,
  ⟨(put [(ent 0x4C08 1, 2)]), 0, by decide +kernel⟩,
  ⟨(put [(ent 0x4C08 1, 2), (ent 0x2301 1, 0), (ent 0x2301 2, 0)]), 0, by decide +kernel⟩,
  ⟨State.reset, 0, by decide +kernel⟩⟩

/-- States and operands that meet the hypotheses of HeartbeatsTellWhenAPartnerIsLost, clause by clause. -/
theorem witness_HeartbeatsTellWhenAPartnerIsLost :
    (∃ (s : State) (k : Fin 4), s.sys.garosUp k.val = true ∧ s.sys.power.step < 4) ∧
    (∃ (s : State) (k : Fin 4), s.sys.garosUp k.val = false) ∧
    (∃ (s : State) (k : Fin 4) (h : Bytes), (s.sys.garosUp k.val = false ∨ h.length ≠ 96 ∨ rdLe h 0 1 ≠ 1)) ∧
    (∃ (s : State) (k : Fin 4) (h : Bytes), s.sys.garosUp k.val = true ∧ h.length = 96 ∧ rdLe h 0 1 = 1 ∧ s.sys.linkKind k.val ≠ 2 ∧ s.sys.view.role
      ≠ 3) ∧
    (∃ (s : State) (k : Fin 4) (h : Bytes), s.sys.garosUp k.val = true ∧ h.length = 96 ∧ rdLe h 0 1 = 1 ∧ s.sys.linkKind k.val = 2) ∧
    (∃ (s : State) (k : Fin 4), s.sys.garosUp k.val = true ∧ (s.sys.link k.val).misses < 3) ∧
    (∃ (s : State) (k : Fin 4), s.sys.garosUp k.val = true ∧ 3 ≤ (s.sys.link k.val).misses ∧ s.sys.noticed k.val = false) ∧
    (∃ (s : State) (k : Fin 4), (s.sys.rd (ent (0x4C08 + k.val) 1) ≠ 3 ∨ s.sys.noticed k.val = true)) ∧
    (∃ (s : State) (k : Fin 4), s.sys.rd (ent (0x4C08 + k.val) 1) = 3 ∧ s.sys.noticed k.val = false) ∧
    (∃ (s : State), s.sys.rd (ent 0x4C00 5) ≠ 0xFF) ∧
    (∃ (s : State), s.sys.rd (ent 0x4C00 5) = 0xFF) ∧
    (∃ (s : State) (k : Fin 4), (s.sys.linkKind k.val = 0 ∨ s.sys.lostNow k.val = false)) ∧
    (∃ (s : State) (k : Fin 4), s.sys.linkKind k.val ≠ 0 ∧ s.sys.lostNow k.val = true) ∧
    (∃ (s : State) (k : Fin 4), s.sys.garosUp k.val = true) :=
  ⟨⟨(put [(ent 0x4C08 1, 2)]), 0, by decide +kernel⟩,
  ⟨State.reset, 0, by decide +kernel⟩,
  ⟨State.reset, 0, [], by decide +kernel⟩,
  ⟨(put [(ent 0x4C08 1, 2)]), 0, (1 :: List.replicate 95 0), by decide +kernel⟩,
  ⟨(put [(ent 0x4C08 1, 2), (ent 0x4C08 2, 2)]), 0, (1 :: List.replicate 95 0), by decide +kernel⟩,
  ⟨(put [(ent 0x4C08 1, 2)]), 0, by decide +kernel⟩,
  ⟨(on (put [(ent 0x4C08 1, 2)]) fun y => y.setLink 0 { link0 with misses := 3 }), 0, by decide +kernel⟩,
  ⟨State.reset, 0, by decide +kernel⟩,
  ⟨(put [(ent 0x4C08 1, 3)]), 0, by decide +kernel⟩,
  ⟨(put [(ent 0x4C00 5, 7)]), by decide +kernel⟩,
  ⟨State.reset, by decide +kernel⟩,
  ⟨State.reset, 0, by decide +kernel⟩,
  ⟨(on (put [(ent 0x4C08 2, 4)]) fun y => ({ y with twin := { y.twin with exitAt := some 0 }, up := 2000000000 }).setLink 0
    { link0 with notice := true }), 0, by decide +kernel⟩,
  ⟨(put [(ent 0x4C08 1, 2)]), 0, by decide +kernel⟩⟩

/-- States and operands that meet the hypotheses of TwinsAndArraysTakeTheirRoles, clause by clause. -/
theorem witness_TwinsAndArraysTakeTheirRoles :
    (∃ (s : State), s.sys.twin.taking = none) ∧
    (∃ (s : State), s.sys.twin.taking ≠ none) ∧
    (∃ (s : State), s.sys.rd (ent 0x4C01 3) ≠ 5) ∧
    (∃ (s : State) (w : Writer), Granted s w (ent 0x4C00 8) (le 2 1)) ∧
    (∃ (s : State), s.sys.rd (ent 0x4C01 2) ≠ 2) ∧
    (∃ (s : State) (w : Writer), Granted s w (ent 0x4C00 8) (le 2 2)) ∧
    (∃ (s : State), s.sys.rd (ent 0x4C01 2) ≠ 2) ∧
    (∃ (s : State) (u : Bytes), s.sys.rd (ent 0x4C01 2) = 2 ∧ (s.sys.rd (ent 0x4C01 3) = 2 ∨ s.sys.rd (ent 0x4C01 3) = 3) ∧ let q := unitIn u 2;
      let v := { q with members := q.members.filter fun m => mirrored m.1 }; s.sys.unitHome v = .immediate) ∧
    (∃ (s : State) (u : Bytes) (c : Nat), s.sys.rd (ent 0x4C01 2) = 2 ∧ (s.sys.rd (ent 0x4C01 3) = 2 ∨ s.sys.rd (ent 0x4C01 3) = 3) ∧
      let q := unitIn u 2; let v := { q with members := q.members.filter fun m => mirrored m.1 }; s.sys.unitHome v = .output c) ∧
    (∃ (s : State) (u : Bytes) (c : Nat), s.sys.rd (ent 0x4C01 2) = 2 ∧ (s.sys.rd (ent 0x4C01 3) = 2 ∨ s.sys.rd (ent 0x4C01 3) = 3) ∧
      let q := unitIn u 2; let v := { q with members := q.members.filter fun m => mirrored m.1 }; s.sys.unitHome v = .lockGroup c) ∧
    (∃ (s : State) (n : BitVec 32) (u : Bytes) (x : Nat), s.sys.rd (ent 0x4C01 2) = 2 ∧ (s.sys.rd (ent 0x4C01 3) = 2 ∨ s.sys.rd (ent 0x4C01 3) = 3)
      ∧ let q := unitIn u 2; let v := { q with members := q.members.filter fun m => mirrored m.1 }; s.sys.unitHome v = .context x ∧ n ≠ 0) ∧
    (∃ (s : State), s.sys.rd (ent 0x4C01 1) ≠ 1) ∧
    (∃ (s : State), s.sys.rd (ent 0x4C01 1) = 1) ∧
    (∃ (s : State), (s.sys.twinOn = false ∨ s.sys.twinRole ≠ 0)) ∧
    (∃ (s : State), s.sys.twinOn = true ∧ s.sys.twinRole = 0 ∧ ((∀ k, s.sys.twinLink = some k → (s.sys.link k).heard = []))) ∧
    (∃ (s : State) (k : Nat), s.sys.twinOn = true ∧ s.sys.twinRole = 0 ∧ s.sys.twinLink = some k ∧ rdLe (s.sys.link k).heard 1 1 = 1) :=
  ⟨⟨State.reset, by decide +kernel⟩,
  ⟨(sys fun y => { y with twin := { y.twin with taking := some 1 } }), by decide +kernel⟩,
  ⟨State.reset, by decide +kernel⟩,
  ⟨(put [(ent 0x2010 1, 1), (ent 0x4C00 1, 1), (ent 0x4C01 2, 2), (ent 0x4C01 3, 5)]), cust, by simp only [Granted, Admitted]; decide +kernel⟩,
  ⟨State.reset, by decide +kernel⟩,
  ⟨(put [(ent 0x2010 1, 1), (ent 0x4C00 1, 1), (ent 0x4C01 2, 2), (ent 0x4C01 3, 2)]), cust, by simp only [Granted, Admitted]; decide +kernel⟩,
  ⟨State.reset, by decide +kernel⟩,
  ⟨(put [(ent 0x4C01 2, 2), (ent 0x4C01 3, 2)]), [0, 0, 0, 0, 0, 0, 0, 0, 0, 1, 0, 0, 255, 255, 255, 255], by dsimp only; decide +kernel⟩,
  ⟨(put [(ent 0x4C01 2, 2), (ent 0x4C01 3, 2)]), [0, 0, 0, 0, 0, 0, 0, 0, 0, 1, 2, 3, 255, 255, 255, 255], 3, by dsimp only; decide +kernel⟩,
  ⟨(put [(ent 0x4C01 2, 2), (ent 0x4C01 3, 2)]), [0, 0, 0, 0, 0, 0, 0, 0, 0, 1, 3, 1, 255, 255, 255, 255], 1, by dsimp only; decide +kernel⟩,
  ⟨(put [(ent 0x4C01 2, 2), (ent 0x4C01 3, 2)]), 1, [0, 0, 0, 0, 0, 0, 0, 0, 0, 1, 1, 2, 255, 255, 255, 255], 2, by dsimp only; decide +kernel⟩,
  ⟨State.reset, by decide +kernel⟩,
  ⟨(put [(ent 0x4C01 1, 1)]), by decide +kernel⟩,
  ⟨State.reset, by decide +kernel⟩,
  ⟨(put [(ent 0x2010 1, 16)]), by decide +kernel, by decide +kernel, fun k h => absurd h
    (by rw [show (put [(ent 0x2010 1, 16)]).sys.twinLink = none from by decide +kernel]; simp)⟩,
  ⟨(on (put [(ent 0x2010 1, 16), (ent 0x4C08 2, 2)]) fun y => y.setLink 0 { link0 with heard := [0, 1] }), 0, by decide +kernel⟩⟩

/-- States and operands that meet the hypotheses of FelleyCarriesControlStreamsAndTime, clause by clause. -/
theorem witness_FelleyCarriesControlStreamsAndTime :
    (∃ (s : State), s.sys.rd (ent 0x4D00 1) = 0) ∧
    (∃ (s : State) (r : Fin 4), s.sys.rd (ent 0x4D00 1) ≠ 0 ∧ (¬ ((s.sys.view.role = 1 ∧ r.val = 2) ∨ (s.sys.view.role = 2 ∧ r.val = 1))) ∧ s.sys.rd
      (ent 0x4D01 1) ≠ 4 ∧ Room s) ∧
    (∃ (s : State) (r : Fin 4) (l : BitVec 8), l ≠ 0 ∧ ((s.sys.view.role = 1 ∧ r.val = 2) ∨ (s.sys.view.role = 2 ∧ r.val = 1)) ∧ l.toNat = s.sys.rd
      (ent 0x4D00 1) ∧ s.sys.rd (ent 0x4D01 1) ≠ 2) ∧
    (∃ (s : State), s.sys.rd (ent 0x4D01 1) = 2) ∧
    (∃ (s : State), ((s.sys.link 4).unacked = [] ∨ (s.sys.link 4).peerDown = true)) ∧
    (∃ (s : State) (f : CtlFrame), (s.sys.link 4).unacked = [f] ∧ (s.sys.link 4).peerDown = false ∧ f.resends < 8 ∧ s.sys.isShadow = false) ∧
    (∃ (s : State) (f : CtlFrame) (l : List CtlFrame), (s.sys.link 4).unacked = f :: l ∧ (s.sys.link 4).peerDown = false ∧ 8 ≤ f.resends ∧ Room s) ∧
    (∃ (s : State) (k : Fin 64), ((∀ j, j < 64 → (s.sys.fstream j).kind = 5 → (s.sys.fstream j).queue = [])) ∧ (s.sys.fstream k.val).queue = []) ∧
    (∃ (s : State) (k : Fin 64), ((∀ j, j < 64 → (s.sys.fstream j).kind = 5 → (s.sys.fstream j).queue = [])) ∧ (s.sys.fstream k.val).queue ≠ []) ∧
    (∃ (s : State), s.sys.rd (ent 0x4D01 1) ≠ 2) ∧
    (∃ (s : State) (k : Fin 64) (q : BitVec 16), s.sys.rd (ent 0x4D01 1) = 2 ∧ ((s.sys.link 4).expect.lookup k.val).getD q.toNat = q.toNat ∧
      (s.sys.fstream k.val).part = [] ∧ (s.sys.fstream k.val).damaged = false) ∧
    (∃ (s : State), s.sys.rd (ent 0x4D01 1) = 2) ∧
    (∃ (b : Bytes), b.length ≠ 64) ∧
    (∃ (s : State) (k : Fin 16) (b : Bytes), b.length = 64 ∧ s.sys.felleyCfg k.val 0 = 2) ∧
    (∃ (s : State), s.sys.rd (ent 0x4D01 1) ≠ 2) ∧
    (∃ (s : State), s.sys.rd (ent 0x4D01 1) = 2 ∧ s.sys.timeSources.contains 4 = false) ∧
    (∃ (s : State) (x : Fin 16), ((∀ f ∈ s.sys.frames, f.ctx = x.val → f.upWait = false))) ∧
    (∃ (s : State) (x : Fin 16) (f : Frame), (s.sys.frames.find? fun f => f.ctx == x.val && f.upWait) = some f ∧ Room s) ∧
    (∃ (s : State) (w : Writer), Granted s w (ent 0x4D00 6) (le 2 1)) ∧
    (∃ (s : State), (s.sys.view.role ≠ 1 ∨ s.sys.tbState ≠ 2 ∨ 32 ≤ s.sys.rd (ent 0x4D00 5) ∨ s.sys.tioFn (s.sys.rd (ent 0x4D00 5)) ≠ 7)) ∧
    (∃ (s : State), s.sys.rd (ent 0x4D01 0x0C) = 1 ∧ (pulsePairs (s.sys.link 4).heads (s.sys.link 4).bases).length < 56 ∧ Room s) ∧
    (∃ (s : State), s.sys.rd (ent 0x4D01 0x0C) = 1 ∧ let d := (pulsePairs (s.sys.link 4).heads (s.sys.link 4).bases).take 64; 56 ≤ d.length ∧
      d.foldl max (d.headD 0) - d.foldl min (d.headD 0) ≤ 20000) :=
  ⟨⟨State.reset, by decide +kernel⟩,
  ⟨(put [(ent 0x4D00 1, 1)]), 0, by simp only [Room]; decide +kernel⟩,
  ⟨(put [(ent 0x2010 1, 1), (ent 0x4D00 1, 1), (ent 0x4D01 1, 0)]), 2, 1, by decide +kernel⟩,
  ⟨(put [(ent 0x4D01 1, 2)]), by decide +kernel⟩,
  ⟨State.reset, by decide +kernel⟩,
  ⟨(on State.reset fun y => y.setLink 4 { link0 with unacked := [⟨0, 1, [], 0⟩] }), ⟨0, 1, [], 0⟩, by decide +kernel⟩,
  ⟨(on State.reset fun y => y.setLink 4 { link0 with unacked := [⟨0, 1, [], 8⟩] }), ⟨0, 1, [], 8⟩, [], by simp only [Room]; decide +kernel⟩,
  ⟨State.reset, 0, by decide +kernel⟩,
  ⟨(sys fun y => { y with felley := [(1, { felley0 with queue := [(0, [])] })] }), 1, by decide +kernel⟩,
  ⟨State.reset, by decide +kernel⟩,
  ⟨(put [(ent 0x4D01 1, 2)]), 0, 0, by decide +kernel⟩,
  ⟨(put [(ent 0x4D01 1, 2)]), by decide +kernel⟩,
  ⟨[], by decide +kernel⟩,
  ⟨(put [(ent 0x4D10 1, 2)]), 0, List.replicate 64 0, by decide +kernel⟩,
  ⟨State.reset, by decide +kernel⟩,
  ⟨(put [(ent 0x4D01 1, 2), (ent 0x2301 1, 0), (ent 0x2301 2, 0)]), by decide +kernel⟩,
  ⟨State.reset, 0, by decide +kernel⟩,
  ⟨(flying [{ frame0 0 [] with upWait := true }]), 0, { frame0 0 [] with upWait := true }, by simp only [Room]; decide +kernel⟩,
  ⟨(put [(ent 0x2010 1, 1), (ent 0x4D00 1, 1), (ent 0x4D00 5, 0), (ent 0x2300 2, 2), (ent 0x2320 1, 7)]), cust,
    by simp only [Granted, Admitted]; decide +kernel⟩,
  ⟨State.reset, by decide +kernel⟩,
  ⟨(put [(ent 0x4D01 0x0C, 1)]), by simp only [Room]; decide +kernel⟩,
  ⟨(on (put [(ent 0x4D01 0x0C, 1)]) fun y => y.setLink 4 { link0 with heads := List.replicate 56 5, bases := [5] }), by dsimp only; decide +kernel⟩⟩

end Sys2Proof.Tests
end

section
/-!
PROOFS. The skip count and the governor's window: what the skip count and its sources read once a request changed (R59), what a window may write for a
rail, and that nothing it does raises the rail while the skip count is above 0 (R36, R53 to R56).
-/

namespace Sys2Proof.Machine

/-! ## The skip count and its sources (R59) -/

@[simp] theorem Sys.rd_updateSkip_count (y : Sys) :
    y.updateSkip.rd (ent 0x2202 1) = max (y.rd (ent 0x2101 5)) (max y.sup.kCap y.sup.kPwr) := by
  simp [Sys.updateSkip]

theorem ite_eq_zero_weight (k w : Nat) : (if k = 0 then 0 else w) = w * (k != 0).toNat := by
  by_cases hk : k = 0
  · simp [hk]
  · simp [hk, bne_iff_ne.2 hk]

/-- The sources as a number: weight 1 the thermal manager, 2 the supply cap, 4 the power limit. -/
@[simp] theorem Sys.rd_updateSkip_sources (y : Sys) :
    y.updateSkip.rd (ent 0x2202 2) = (y.rd (ent 0x2101 5) != 0).toNat + 2 * (y.sup.kCap != 0).toNat + 4 * (y.sup.kPwr != 0).toNat := by
  simp [Sys.updateSkip, ↓ite_eq_zero_weight]

theorem testBit_three_weights (p q t : Bool) (i : Nat) (hi : i < 3) :
    (p.toNat + 2 * q.toNat + 4 * t.toNat).testBit i = [p, q, t].getD i false := by
  revert p q t
  interval_cases i <;> decide

/-! ## The entries of a window -/

/-- The entries that the end of a window may write for a rail: its set point, state and minimum slack, and the counts of both rails. -/
def railWindowKeys (r : RailName) : List Nat := [railKey r, railStateKey r, railSlackKey r, ent 0x2201 0x0B, ent 0x2201 0x0C]

theorem railKey_s_notMem_railWindowKeys_t : railKey .s ∉ railWindowKeys .t := by decide
theorem railKey_t_notMem_railWindowKeys_s : railKey .t ∉ railWindowKeys .s := by decide
theorem skipKey_notMem_railWindowKeys (r : RailName) : ent 0x2202 1 ∉ railWindowKeys r := by cases r <;> decide

theorem railKey_ne_railStateKey (r : RailName) : railKey r ≠ railStateKey r := by cases r <;> decide
theorem railKey_ne_railSlackKey (r : RailName) : railKey r ≠ railSlackKey r := by cases r <;> decide
theorem railKey_ne_ceilingCount (r : RailName) : railKey r ≠ ent 0x2201 0x0B := by cases r <;> decide
theorem railKey_ne_heldCount (r : RailName) : railKey r ≠ ent 0x2201 0x0C := by cases r <;> decide
theorem railKey_ne_ceilingTime (r : RailName) : railKey r ≠ ent 0x2201 0x0A := by cases r <;> decide

theorem Sys.rd_setRail (y : Sys) (r : RailName) (x : Rail) (k : Nat) : (y.setRail r x).rd k = y.rd k := by cases r <;> rfl

/-! ## Steps of the governor that respect a power limit -/

/-- From `y` to `z` the governor works on rail `r` alone (its entries, the governor's record and the log), and does not raise it while a power limit
is active (R36). -/
structure RespectsLimit (r : RailName) (y z : Sys) : Prop where
  frame : SameBut [.gov, .log] (only (railWindowKeys r)) (only []) y z
  noRaise : y.powerLimited = true → z.rd (railKey r) ≤ y.rd (railKey r)

namespace RespectsLimit

variable {r : RailName} {y z w : Sys}

theorem rd_of_notMem (h : RespectsLimit r y z) {k : Nat} (hk : k ∉ railWindowKeys r) : z.rd k = y.rd k := h.frame.2.1 k hk

theorem powerLimited_eq (h : RespectsLimit r y z) : z.powerLimited = y.powerLimited := by
  simp only [Sys.powerLimited, Sys.skip, h.rd_of_notMem (skipKey_notMem_railWindowKeys r)]

theorem refl (r : RailName) (y : Sys) : RespectsLimit r y y := ⟨.refl y, fun _ => le_rfl⟩

theorem trans (h : RespectsLimit r y z) (g : RespectsLimit r z w) : RespectsLimit r y w :=
  ⟨h.frame.trans g.frame, fun hl => (g.noRaise (h.powerLimited_eq.trans hl)).trans (h.noRaise hl)⟩

theorem wr_other (y : Sys) {k : Nat} (v : Nat) (hk : k ∈ railWindowKeys r) (hne : railKey r ≠ k) : RespectsLimit r y (y.wr k v) :=
  ⟨sameBut_wr y k v hk, fun _ => by simp [hne]⟩

theorem railState (r : RailName) (y : Sys) (v : Nat) : RespectsLimit r y (y.wr (railStateKey r) v) :=
  wr_other y v (by simp [railWindowKeys]) (railKey_ne_railStateKey r)

theorem railStateUnlessAtCeiling (r : RailName) (y : Sys) (v : Nat) :
    RespectsLimit r y (if y.rd (railStateKey r) = 1 then y else y.wr (railStateKey r) v) := by
  split
  · exact refl r y
  · exact railState r y v

theorem railSlack (r : RailName) (y : Sys) (i : Int) : RespectsLimit r y (y.wrI (railSlackKey r) i) :=
  wr_other y _ (by simp [railWindowKeys]) (railKey_ne_railSlackKey r)

/-- The set point is written: not above its value, unless no limit is active. -/
theorem railTo (r : RailName) (y : Sys) (v : Nat) (h : y.powerLimited = true → v ≤ y.rd (railKey r)) : RespectsLimit r y (y.railTo r v) :=
  ⟨sameBut_wr y _ v (by simp [railWindowKeys]), fun hl => by simpa [Sys.railTo] using h hl⟩

theorem setRail (r : RailName) (y : Sys) (x : Rail) : RespectsLimit r y (y.setRail r x) := by
  refine ⟨⟨fun p hp => ?_, fun k _ => Sys.rd_setRail y r x k, fun k _ => by cases r <;> rfl⟩, fun _ => (Sys.rd_setRail y r x _).le⟩
  cases p with
  | gov => simp at hp
  | _ => cases r <;> rfl

theorem raise (r : RailName) (y : Sys) (code source : Nat) (data : Bytes) : RespectsLimit r y (y.raise code source data) :=
  ⟨sameBut_raise y _ _ _ (by simp), fun _ => by simp⟩

theorem raiseLimited (r : RailName) (y : Sys) (key code source : Nat) (data : Bytes) :
    RespectsLimit r y (y.raiseLimited key code source data) :=
  ⟨sameBut_raiseLimited y _ _ _ _ (by simp), fun _ => by simp⟩

/-! ### The governor's operations -/

theorem ceilingCleared (r : RailName) (y : Sys) : RespectsLimit r y (y.ceilingCleared r) := (railState r y 0).trans (raise r _ _ _ _)

theorem raiseBlocked (r : RailName) (y : Sys) (m : Int) : RespectsLimit r y (y.raiseBlocked r m) :=
  have counted (a : Sys) : RespectsLimit r a (a.inc (ent 0x2201 0x0C)) := wr_other a _ (by simp [railWindowKeys]) (railKey_ne_heldCount r)
  ((railStateUnlessAtCeiling r y 2).trans (counted _)).trans (raiseLimited r _ _ _ _ _)

theorem railAtCeiling (r : RailName) (y : Sys) (m : Int) : RespectsLimit r y (y.railAtCeiling r m) := by
  have counted (a : Sys) : RespectsLimit r a (a.inc (ent 0x2201 0x0B)) := wr_other a _ (by simp [railWindowKeys]) (railKey_ne_ceilingCount r)
  unfold Sys.railAtCeiling
  split
  · exact refl r y
  · exact ((railState r y 1).trans (counted _)).trans (raiseLimited r _ _ _ _ _)

/-- R56: a FIXED rail goes to its target only when that is no raise, or no limit is active. -/
theorem govFixedRail (r : RailName) (y : Sys) : RespectsLimit r y (y.govFixedRail r) := by
  unfold Sys.govFixedRail
  extract_lets target z
  have hstate : RespectsLimit r y z := railStateUnlessAtCeiling r y 3
  clear_value z
  refine hstate.trans ?_
  split
  · exact refl r z
  · next h => exact railTo r z target fun hl => by simpa [hl] using h

theorem govFixedWindow (r : RailName) (y : Sys) : RespectsLimit r y (y.govFixedWindow r) := by
  unfold Sys.govFixedWindow
  extract_lets x z
  refine (setRail r y _ : RespectsLimit r y z).trans (trans ?_ (govFixedRail r _))
  split
  · exact ceilingCleared r z
  · exact refl r z

/-- R53, R54: a window that wants a raise raises the rail only where no limit is active. A calm one lowers it, and under a limit only to a voltage
that is not above its own (R36). -/
theorem govAutoRail (r : RailName) (y : Sys) : RespectsLimit r y (y.govAutoRail r) := by
  unfold Sys.govAutoRail
  extract_lets x v ceil floor upper short least m pre z bySlack byPre quiet above calm z' down w
  split
  · refine (setRail r y _ : RespectsLimit r y z).trans ?_
    split
    · split
      · exact raiseBlocked r z m
      · exact refl r z
    · next hfree =>
      split
      · exact railAtCeiling r z m
      · have hstate := railStateUnlessAtCeiling r z 0
        exact hstate.trans (railTo r _ _ fun hl => absurd (hstate.powerLimited_eq.symm.trans hl) hfree)
  · have hlowered : RespectsLimit r z' w := by
      unfold w
      split
      · next h =>
        refine railTo r z' down fun hl => ?_
        simp only [hl, Bool.and_eq_true, Bool.not_true, Bool.false_or, decide_eq_true_eq] at h
        exact h.2.trans (Sys.rd_setRail y r _ _).ge
      · exact refl r z'
    refine (setRail r y _ : RespectsLimit r y z').trans (hlowered.trans ?_)
    split
    · split
      · exact ceilingCleared r w
      · exact refl r w
    · exact railState r w 0

/-- One rail at the end of a window. -/
theorem govRail (r : RailName) (y : Sys) : RespectsLimit r y (y.govRail r) := by
  unfold Sys.govRail
  extract_lets z
  have hshown : RespectsLimit r y z := by
    unfold z
    split
    · exact railSlack r y _
    · exact refl r y
  refine hshown.trans ?_
  split
  · exact setRail r z _
  · split
    · exact govFixedWindow r z
    · exact govAutoRail r z

end RespectsLimit

/-! ## The window as a whole -/

/-- While the skip count is above 0, the work on one rail after the other raises neither. -/
theorem rd_railKey_govRails_le (y : Sys) (hl : y.powerLimited = true) (r : RailName) :
    ((y.govRail .t).govRail .s).rd (railKey r) ≤ y.rd (railKey r) := by
  have ht := RespectsLimit.govRail .t y
  have hs := RespectsLimit.govRail .s (y.govRail .t)
  cases r with
  | t => exact (hs.rd_of_notMem railKey_t_notMem_railWindowKeys_s).le.trans (ht.noRaise hl)
  | s => exact (hs.noRaise (ht.powerLimited_eq.trans hl)).trans (ht.rd_of_notMem railKey_s_notMem_railWindowKeys_t).le

/-- GOVERNOR_WINDOW raises no rail while the skip count is above 0, wherever the rails stand. -/
theorem execGovernorWindow_raises_no_rail (s : State) (hl : s.sys.powerLimited = true) :
    Completes .governorWindow s fun t => ∀ r, t.sys.rd (railKey r) ≤ s.sys.rd (railKey r) := by
  refine ⟨_, rfl, fun r => ?_⟩
  dsimp only
  split
  · simpa only [Sys.inc64_eq, Sys.rd_wr, railKey_ne_ceilingTime, if_false] using rd_railKey_govRails_le s.sys hl r
  · exact rd_railKey_govRails_le s.sys hl r

/-- Settles O7: the count is the maximum of the three requests, its sources are their weights, and each operation of a window respects the limit. -/
theorem theSkipCountIsTheLargestRequest : Obligations.TheSkipCountIsTheLargestRequest := by
  unfold Obligations.TheSkipCountIsTheLargestRequest
  refine ⟨fun y => ?_, fun s hk _ => execGovernorWindow_raises_no_rail s (by simpa [Sys.powerLimited, Sys.skip] using hk)⟩
  simp only [Sys.rdBit_eq, Sys.rd_updateSkip_count, Sys.rd_updateSkip_sources]
  refine ⟨?_, ?_, fun i hi => ?_, ?_⟩
  · simp only [List.mem_cons, List.not_mem_nil, or_false]
    omega
  · simp only [List.mem_cons, List.not_mem_nil, or_false, forall_eq_or_imp, forall_eq]
    omega
  · rw [testBit_three_weights _ _ _ i hi]
    interval_cases i <;> rfl
  · have hth := Bool.toNat_le (y.rd (ent 0x2101 5) != 0)
    have hcap := Bool.toNat_le (y.sup.kCap != 0)
    have hpwr := Bool.toNat_le (y.sup.kPwr != 0)
    omega

end Sys2Proof.Machine
end

section
/-!
PROOFS. Refusals on arrival, and the warning level against VIN: a write whose arrival checks refuse it reports nothing but its status (R132), and the
present VIN refuses a warning level that would hold the module in warning (R100).
-/

namespace Sys2Proof.Machine

/-! ## Octets -/

@[simp] theorem unLe_le (n v : Nat) : unLe (le n v) = v % 256 ^ n := by
  induction n generalizing v with
  | zero => simp [le, unLe, Nat.mod_one]
  | succ m ih =>
    calc unLe (le (m + 1) v) = v % 256 + 256 * (v / 256 % 256 ^ m) := by rw [le, unLe, ih, BitVec.toNat_ofNat]
      _ = v % 256 ^ (m + 1) := by rw [pow_succ', Nat.mod_mul]

/-! ## Writes that are refused on arrival (R132) -/

section
variable {o : Otp} {y : Sys} {w : Writer} {k : Nat} {v : Bytes}

/-- An entry that does not act, and whose own rule refuses the value, is not changed. -/
theorem Sys.entryWrite_of_ownRule_range
    (hact : (y.actIdentity o w (k / 256) (k % 256) v <|> y.actSystem o w (k / 256) (k % 256) v <|> y.actFrame o (k / 256) (k % 256) v <|>
      y.actStore o (k / 256) (k % 256) v) = none)
    (h : y.ownRule k v = .range) : y.entryWrite o w k v = y.refuse .range := by
  simp only [Sys.entryWrite, Sys.entryEffect]
  rw [hact, h]
  rfl

/-- The arrival checks of an entry without the commit class refuse what the table or the entry itself refuses; where the entry's own refusal leaves the
state alone, so do they. -/
theorem Sys.arrival_of_entryWrite_refused {st : Status} (hk : isRwc k = false) (hw : y.entryWrite o w k v = y.refuse st) (hok : st ≠ .ok)
    (hover : st ≠ .overbudget) : (y.arrival o w k v).1 ≠ .ok ∧ (y.arrival o w k v).2 = y := by
  by_cases ht : y.tableCheck o w k v = .ok
  · simp [Sys.arrival, Sys.refuse, ht, hk, hw, hok, hover]
  · simp [Sys.arrival, ht]

theorem writeStep_of_arrival_refused {s : State} (h : (s.sys.arrival s.otp w k v).1 ≠ .ok) (hy : (s.sys.arrival s.otp w k v).2 = s.sys) :
    writeStep s w k v = .next s := by
  have hnow : (s.sys.writeNow s.otp w k v).2 = ([], s.sys) := by
    by_cases hr : s.sys.boot.phase = .running
    · simp [Sys.writeNow, Sys.refuse, hr, h, hy]
    · simp [Sys.writeNow, Sys.refuse, hr]
  simp [writeStep, run, hnow]

end

theorem Sys.ownRule_of_ruleSystem {y : Sys} {k : Nat} {v : Bytes} (h : y.ruleSystem (k / 256) (k % 256) (unLe v) ≠ .ok) :
    y.ownRule k v = y.ruleSystem (k / 256) (k % 256) (unLe v) := if_neg h

/-! ## The warning level (R100) -/

theorem Sys.ruleSystem_warningLevel (y : Sys) (n : Nat) :
    y.ruleSystem 0x2000 1 n = Status.range.unless (n % 10 == 0 && (y.rd (ent 0x2001 1) == 0 || decide (n + 30 < y.rd (ent 0x2001 1)))) := by
  unfold Sys.ruleSystem
  exact if_pos ⟨rfl, rfl⟩

theorem Sys.ruleSystem_warningLevel_of_vin_le {y : Sys} {n : Nat} (h0 : y.rd (ent 0x2001 1) ≠ 0) (hn : y.rd (ent 0x2001 1) ≤ n + 30) :
    y.ruleSystem 0x2000 1 n = .range := by
  simp [Sys.ruleSystem_warningLevel, Status.unless, h0, Nat.not_lt.2 hn]

theorem Sys.ownRule_warningLevel_of_vin_le {y : Sys} {n : BitVec 16} (h0 : y.rd (ent 0x2001 1) ≠ 0) (hn : y.rd (ent 0x2001 1) ≤ n.toNat + 30) :
    y.ownRule (ent 0x2000 1) (le 2 n.toNat) = .range := by
  have hv : unLe (le 2 n.toNat) = n.toNat := by rw [unLe_le]; exact Nat.mod_eq_of_lt n.isLt
  have hr : y.ruleSystem 0x2000 1 (unLe (le 2 n.toNat)) = .range := by rw [hv]; exact ruleSystem_warningLevel_of_vin_le h0 hn
  exact (ownRule_of_ruleSystem (k := ent 0x2000 1) (hr.trans_ne (by decide))).trans hr

theorem isRwc_warningLevel : isRwc (ent 0x2000 1) = false := by decide +kernel

/-- Whoever writes it, a warning level at or above VIN less 0.3 V is refused on arrival, and the refusal leaves the working state alone. -/
theorem Sys.arrival_warningLevel_of_vin_le (o : Otp) {y : Sys} (w : Writer) {n : BitVec 16} (h0 : y.rd (ent 0x2001 1) ≠ 0)
    (hn : y.rd (ent 0x2001 1) ≤ n.toNat + 30) :
    (y.arrival o w (ent 0x2000 1) (le 2 n.toNat)).1 ≠ .ok ∧ (y.arrival o w (ent 0x2000 1) (le 2 n.toNat)).2 = y :=
  arrival_of_entryWrite_refused isRwc_warningLevel (entryWrite_of_ownRule_range rfl (ownRule_warningLevel_of_vin_le h0 hn)) (by decide) (by decide)

/-- Settles O9: the entry's own rule refuses the level, and a write that is refused on arrival leaves the state as it is. -/
theorem theWarningLevelStaysBelowTheSupply : Obligations.TheWarningLevelStaysBelowTheSupply := by
  unfold Obligations.TheWarningLevelStaysBelowTheSupply
  intro s w n h0 hn
  obtain ⟨hrefused, hsame⟩ := Sys.arrival_warningLevel_of_vin_le s.otp w h0 hn
  exact ⟨hrefused, s, writeStep_of_arrival_refused hrefused hsame, rfl, rfl, rfl⟩

end Sys2Proof.Machine
end

section
/-!
PROOFS. A port's audio buffer: the frames that reach it are stored up to its capacity of 8,192, and those that find no room are counted and logged
(R606, R615). Where every frame finds room the model leaves the count of lost frames as it stands, while the obligation takes it modulo 2 ^ 32: the two
agree on the numbers that a U32 entry can hold, and the obligation, which ranges over every state, fails on the others.
-/

namespace Sys2Proof.Machine

/-! ## A destination beside the entries and the log -/

@[simp] theorem Sys.aout_wr (y : Sys) (k v j : Nat) : (y.wr k v).aout j = y.aout j := rfl

@[simp] theorem Sys.aout_raiseLimited (y : Sys) (key code source : Nat) (data : Bytes) (j : Nat) :
    (y.raiseLimited key code source data).aout j = y.aout j := by
  simp only [Sys.aout, Sys.raiseLimited_audioOut]

/-! ## Events within a rate limit (R615) -/

/-- Outside its rate limit, and with room in the buffer, an event adds one record. -/
theorem Sys.log_raiseLimited {y : Sys} {key code : Nat} (source : Nat) (data : Bytes) (hfree : y.limitedNow code key = false)
    (hroom : y.log.pending.length < 256) :
    (y.raiseLimited key code source data).log.pending = y.log.pending ++ [⟨y.t96, code, severity code, source, data⟩] := by
  unfold Sys.raiseLimited
  rw [if_neg (by simp [hfree])]
  exact Sys.log_raise _ code source data hroom

/-! ## Frames that reach a port (R606) -/

/-- The frames that find room are stored, and 0x2530 + n:03 shows the level. -/
def Sys.apStore (y : Sys) (n : Nat) (l : List ASample) : Sys :=
  let z := y.setAout n { y.aout n with buf := (y.aout n).buf ++ l.take (8192 - (y.aout n).buf.length) }
  z.wr (apStat n 3) (z.aout n).buf.length

/-- How many frames of `l` find no room at port `n`. -/
def Sys.apLost (y : Sys) (n : Nat) (l : List ASample) : Nat := l.length - (8192 - (y.aout n).buf.length)

section
variable {y : Sys} {n : Nat} {l : List ASample}

theorem Sys.apArrive_port_of_fits (h : y.apLost n l = 0) : y.apArrive (.port n) l = y.apStore n l := if_pos h

theorem Sys.apArrive_port_of_overflow (h : y.apLost n l ≠ 0) :
    y.apArrive (.port n) l =
      ((y.apStore n l).incBy (apStat n 0x0B) (y.apLost n l)).raiseLimited n 0x1107 n (ev [(0, 1, n), (4, 4, y.apLost n l)]) :=
  if_neg h

theorem Sys.apLost_eq (hcap : (y.aout n).buf.length ≤ 8192) : y.apLost n l = (y.aout n).buf.length + l.length - 8192 := by
  unfold Sys.apLost
  omega

@[simp] theorem Sys.log_apStore : (y.apStore n l).log = y.log := rfl

@[simp] theorem Sys.rd_apStore_lostCount : (y.apStore n l).rd (apStat n 0x0B) = y.rd (apStat n 0x0B) := by
  simp [Sys.apStore]

theorem Sys.buf_apStore (hcap : (y.aout n).buf.length ≤ 8192) :
    ((y.apStore n l).aout n).buf = ((y.aout n).buf ++ l).take 8192 := by
  simp [Sys.apStore, List.take_append, List.take_of_length_le hcap]

/-! ### What arrival leaves -/

theorem Sys.buf_apArrive_port (hcap : (y.aout n).buf.length ≤ 8192) :
    ((y.apArrive (.port n) l).aout n).buf = ((y.aout n).buf ++ l).take 8192 := by
  by_cases h : y.apLost n l = 0
  · rw [apArrive_port_of_fits h, buf_apStore hcap]
  · rw [apArrive_port_of_overflow h, aout_raiseLimited, incBy_eq, aout_wr, buf_apStore hcap]

theorem Sys.rd_lostCount_of_fits (h : y.apLost n l = 0) : (y.apArrive (.port n) l).rd (apStat n 0x0B) = y.rd (apStat n 0x0B) := by
  rw [apArrive_port_of_fits h, rd_apStore_lostCount]

theorem Sys.rd_lostCount_of_overflow (h : y.apLost n l ≠ 0) :
    (y.apArrive (.port n) l).rd (apStat n 0x0B) = (y.rd (apStat n 0x0B) + y.apLost n l) % 2 ^ 32 := by
  simp [apArrive_port_of_overflow h]

theorem Sys.log_apArrive_port_of_fits (h : y.apLost n l = 0) : (y.apArrive (.port n) l).log = y.log := by
  rw [apArrive_port_of_fits h, log_apStore]

theorem Sys.log_apArrive_port_of_overflow (h : y.apLost n l ≠ 0) (hfree : y.limitedNow 0x1107 n = false) (hroom : y.log.pending.length < 256) :
    (y.apArrive (.port n) l).log.pending =
      y.log.pending ++ [⟨y.t96, 0x1107, severity 0x1107, n, ev [(0, 1, n), (4, 4, y.apLost n l)]⟩] := by
  rw [apArrive_port_of_overflow h]
  exact log_raiseLimited n _ hfree hroom

/-- R606 and R615 as the obligation states them, of every state whose count of lost frames is a number that its U32 entry can hold. -/
theorem Sys.apArrive_port_of_lostCount_lt (hcount : y.rd (apStat n 0x0B) < 2 ^ 32) (hcap : (y.aout n).buf.length ≤ 8192) :
    let z := y.apArrive (.port n) l
    let lost := (y.aout n).buf.length + l.length - 8192
    (z.aout n).buf = ((y.aout n).buf ++ l).take 8192 ∧
    z.rd (apStat n 0x0B) = (y.rd (apStat n 0x0B) + lost) % 2 ^ 32 ∧
    (lost = 0 → z.log = y.log) ∧
    (lost ≠ 0 → y.limitedNow 0x1107 n = false → y.log.pending.length < 256 →
      z.log.pending = y.log.pending ++ [⟨y.t96, 0x1107, severity 0x1107, n, ev [(0, 1, n), (4, 4, lost)]⟩]) := by
  dsimp only
  rw [← apLost_eq hcap]
  refine ⟨buf_apArrive_port hcap, ?_, log_apArrive_port_of_fits, log_apArrive_port_of_overflow⟩
  by_cases h : y.apLost n l = 0
  · rw [rd_lostCount_of_fits h, h, Nat.add_zero, Nat.mod_eq_of_lt hcount]
  · exact rd_lostCount_of_overflow h

end

/-- The state after reset, but with 2 ^ 32 in the U32 entry 0x2530:0B that counts the frames port 0 lost. -/
def lostCountBeyondU32 : Sys := State.reset.sys.wr (apStat 0 0x0B) (2 ^ 32)

theorem buf_lostCountBeyondU32 : (lostCountBeyondU32.aout 0).buf = [] := rfl

theorem rd_lostCountBeyondU32 : lostCountBeyondU32.rd (apStat 0 0x0B) = 2 ^ 32 := by
  rw [lostCountBeyondU32, Sys.rd_wr, if_pos rfl]

/-- Refutes O8: the obligation reduces the count modulo 2 ^ 32 also where no frame is lost, and the model leaves it alone. With 2 ^ 32 in 0x2530:0B no
frame arrives at the empty buffer of port 0: the count stays 2 ^ 32, and the obligation asks for 0. Of every state whose count is below 2 ^ 32 the
statement holds (`Sys.apArrive_port_of_lostCount_lt`). -/
theorem not_aFullAudioBufferDiscardsWhatArrives : ¬ Obligations.AFullAudioBufferDiscardsWhatArrives := by
  unfold Obligations.AFullAudioBufferDiscardsWhatArrives
  intro h
  obtain ⟨-, hcount, -, -⟩ := h lostCountBeyondU32 0 [] (by simp [buf_lostCountBeyondU32])
  have hkept : (lostCountBeyondU32.apArrive (.port 0) []).rd (apStat 0 0x0B) = 2 ^ 32 :=
    (Sys.rd_lostCount_of_fits (by simp [Sys.apLost])).trans rd_lostCountBeyondU32
  rw [hkept, rd_lostCountBeyondU32, buf_lostCountBeyondU32] at hcount
  exact absurd hcount (by decide)

end Sys2Proof.Machine
end

section
/-!
PROOFS. The event buffer: a record that finds it full is counted, EVENT_LOG_WRITE frees one place and then reports the count (R753). What sends a
record's EVENT frames (R158) and its interrupt (R756) touches paths, mailboxes and pins alone and logs nothing, unless the report destination is no
IPv4 address and port: the model then takes it for a source beyond the Felley link, where a full backlog logs event 0x1508. The obligation, which ranges
over every state, fails there.
-/

namespace Sys2Proof.Machine

/-! ## The buffer and the rate limit (R753) -/

theorem Sys.dropped_raise {y : Sys} (code source : Nat) (data : Bytes) (h : y.log.pending.length < 256) :
    (y.raise code source data).log.dropped = y.log.dropped := by
  simp [Sys.raise, Sys.raiseSev, h]

theorem Sys.log_raise_full {y : Sys} (code source : Nat) (data : Bytes) (h : 256 ≤ y.log.pending.length) :
    (y.raise code source data).log = { y.log with dropped := y.log.dropped + 1 } :=
  Sys.log_raiseSev_full y _ code source data h

theorem Sys.raiseLimited_of_limited {y : Sys} {key code : Nat} (source : Nat) (data : Bytes) (h : y.limitedNow code key = true) :
    y.raiseLimited key code source data = y := if_pos h

/-! ## What sending through the module's own paths touches -/

/-- From `y` to `z` the module hands something to its ports, its own paths and MB1: no event is logged, no time goes by, and of the entries only the
counts of MB1 (messages and BUSY) change. -/
def Sends (y z : Sys) : Prop := SameBut [.tx, .boot, .den, .mailboxes, .power] (only [ent 0x2710 4, ent 0x2710 5]) (only []) y z

namespace Sends

variable {y z w : Sys}

theorem refl (y : Sys) : Sends y y := SameBut.refl y
theorem trans (h : Sends y z) (g : Sends z w) : Sends y w := SameBut.trans h g

theorem log_eq (h : Sends y z) : z.log = y.log := (h.1 .log (by decide)).symm
theorem t96_eq (h : Sends y z) : z.t96 = y.t96 := (h.1 .t96 (by decide)).symm
theorem links_eq (h : Sends y z) : z.links = y.links := (h.1 .links (by decide)).symm

theorem rd_eq (h : Sends y z) {k : Nat} (hk : k ∉ [ent 0x2710 4, ent 0x2710 5]) : z.rd k = y.rd k := h.2.1 k hk
theorem rdB_eq (h : Sends y z) (k : Nat) : z.rdB k = y.rdB k := h.2.2 k (by simp)

theorem of_parts (y : Sys) (tx : List Tx) (boot : Boot) (den : Denval) (mailboxes : List (Nat × Mailbox)) (power : Power) :
    Sends y { y with tx := tx, boot := boot, den := den, mailboxes := mailboxes, power := power } := by
  refine ⟨fun p hp => ?_, fun _ _ => rfl, fun _ _ => rfl⟩
  cases p with
  | tx | boot | den | mailboxes | power => simp at hp
  | _ => rfl

theorem send (y : Sys) (m : Tx) : Sends y (y.send m) := of_parts y _ _ _ _ _
theorem onDen (y : Sys) (f : Denval → Denval) : Sends y (y.onDen f) := of_parts y _ _ _ _ _
theorem onPower (y : Sys) (f : Power → Power) : Sends y (y.onPower f) := of_parts y _ _ _ _ _
theorem setMail (y : Sys) (m : Nat) (b : Mailbox) : Sends y (y.setMail m b) := of_parts y _ _ _ _ _
theorem updateInt (y : Sys) : Sends y y.updateInt := of_parts y _ _ _ _ _
theorem mailPending (y : Sys) : Sends y y.mailPending := of_parts y _ _ _ _ _
theorem inc (y : Sys) {k : Nat} (hk : k ∈ [ent 0x2710 4, ent 0x2710 5]) : Sends y (y.inc k) := sameBut_inc y k hk

theorem sendVector (y : Sys) (v : Nat) : Sends y (y.sendVector v) := by
  unfold Sys.sendVector
  split
  · exact send y _
  · exact refl y

theorem classRaised (y : Sys) (c : IrqClass) : Sends y (y.classRaised c) := (sendVector y _).trans (updateInt _)

theorem mailIrq (y : Sys) (m : Nat) : Sends y (y.mailIrq m) := (mailPending y).trans (sendVector _ _)

/-! ### MB1 (R636 to R639) -/

theorem mailAccept_one (y : Sys) : Sends y (y.mailAccept 1) := by
  unfold Sys.mailAccept
  extract_lets b z w
  refine ((setMail y 1 _).trans (inc z (by decide)) : Sends y w).trans ?_
  split
  · exact mailIrq w 1
  · exact mailPending w

theorem mailBusy_one (y : Sys) : Sends y (y.mailBusy 1) := by
  unfold Sys.mailBusy
  extract_lets b host z u w
  split
  · exact refl y
  · split
    · exact refl y
    · have hz : Sends y z := setMail y 1 _
      have hw : Sends z w := by
        unfold w
        split
        · exact setMail z _ _
        · exact refl z
      exact hz.trans (hw.trans ((inc w (by decide)).trans (mailIrq _ 1)))

theorem mailTry_one (y : Sys) : Sends y (y.mailTry 1) := by
  unfold Sys.mailTry
  split
  · exact mailAccept_one y
  · exact mailBusy_one y

theorem mailSend_one (y : Sys) (msg : Bytes) : Sends y (y.mailSend 1 msg) := by
  unfold Sys.mailSend
  split
  · exact onPower y _
  · exact (setMail y 1 _).trans (mailTry_one _)

/-! ### Denval frames (R139 to R147) -/

/-- A frame on MB1, on a CAN port or on UDP; the path of the twin sends over its link. -/
theorem frameRaw (y : Sys) {path : Nat} (dest word : Nat) (body : Bytes) (hpath : path ≠ 2) : Sends y (y.frameRaw path dest word body) := by
  unfold Sys.frameRaw
  extract_lets dst func tag n m held fresh q
  simp only [hpath, if_false]
  split
  · exact mailSend_one y _
  · split
    · split
      · exact refl y
      · split
        · exact (onDen y _ : Sends y (y.eventDropped path _)).trans (onDen _ _)
        · exact send y m
    · exact send y _

theorem frameOut (y : Sys) {path dest : Nat} (dst : Nat) (func : Func) (tag : Nat) (body : Bytes) (hpath : path ≠ 2) (hnear : isFar dest = false) :
    Sends y (y.frameOut path dest dst func tag body) := by
  unfold Sys.frameOut
  rw [if_neg (by simp [hnear])]
  exact frameRaw y dest _ body hpath

end Sends

/-! ## Report destinations (R157 to R160) -/

/-- The report destination, if there is one, is a port of a near host. -/
def Sys.ReportsNear (y : Sys) : Prop := ∀ t, y.reportTo = some t → isFar t = false

theorem unLe_lt (l : Bytes) : unLe l < 256 ^ l.length := by
  induction l with
  | nil => simp [unLe]
  | cons b r ih =>
    have hb := b.isLt
    simp only [unLe, List.length_cons, pow_succ]
    omega

/-- An address of four octets and a U16 port, as the tables of R160 give them, name a near host. -/
theorem Sys.reportsNear_of_types {y : Sys} (haddr : (y.rdB (ent 0x1101 6)).length ≤ 4) (hport : y.rd (ent 0x1101 7) < 65536) : y.ReportsNear := by
  intro t ht
  have ha : unLe (y.rdB (ent 0x1101 6)) < 256 ^ 4 := (unLe_lt _).trans_le (Nat.pow_le_pow_right (by decide) haddr)
  obtain ⟨-, rfl⟩ : _ ∧ unLe (y.rdB (ent 0x1101 6)) * 65536 + y.rd (ent 0x1101 7) = t := by simpa [Sys.reportTo] using ht
  simp only [isFar, decide_eq_false_iff_not]
  omega

theorem Sys.reportTo_congr {y z : Sys} (hrd : ∀ s ∈ [1, 7], z.rd (ent 0x1101 s) = y.rd (ent 0x1101 s))
    (hrdB : ∀ s ∈ [6, 8], z.rdB (ent 0x1101 s) = y.rdB (ent 0x1101 s)) : z.reportTo = y.reportTo := by
  simp only [List.mem_cons, List.not_mem_nil, or_false, forall_eq_or_imp, forall_eq] at hrd hrdB
  simp only [Sys.reportTo, Sys.udpOn, hrd, hrdB]
  rfl

theorem Sends.reportTo_eq {y z : Sys} (h : Sends y z) : z.reportTo = y.reportTo :=
  Sys.reportTo_congr (fun s hs => h.rd_eq (by fin_cases hs <;> decide)) (fun s _ => h.rdB_eq _)

/-! ## Broadcasts (R157 to R159) -/

/-- The part of a broadcast that goes to the CAN ports. -/
def Sys.canFrames (y : Sys) (func : Func) (body : Bytes) : Sys :=
  (List.range 4).foldl (fun y n => if y.canOn n then y.frameOut (4 + n) 0 0 func 0 body else y) y

theorem Sends.canFrames (y : Sys) (func : Func) (body : Bytes) : Sends y (y.canFrames func body) := by
  refine SameBut.foldl _ _ (fun z n _ => ?_) y
  split
  · exact frameOut z 0 func 0 body (by omega) (by decide)
  · exact refl z

theorem Sys.broadcast_of_reportTo_none {y : Sys} (func : Func) (body : Bytes) (h : y.reportTo = none) :
    y.broadcast func true body = y.canFrames func body := by
  have hcan : (y.canFrames func body).reportTo = none := (Sends.canFrames y func body).reportTo_eq.trans h
  unfold Sys.broadcast
  extract_lets z
  rw [show z.reportTo = none from hcan]
  rfl

theorem Sys.broadcast_of_reportTo {y : Sys} {t : Nat} (func : Func) (body : Bytes) (h : y.reportTo = some t) :
    y.broadcast func true body = (y.canFrames func body).frameOut 3 t 0 func 0 body := by
  have hcan : (y.canFrames func body).reportTo = some t := (Sends.canFrames y func body).reportTo_eq.trans h
  unfold Sys.broadcast
  extract_lets z
  rw [show z.reportTo = some t from hcan]
  rfl

theorem Sends.broadcast (y : Sys) (func : Func) (body : Bytes) (hnear : y.ReportsNear) : Sends y (y.broadcast func true body) := by
  cases ht : y.reportTo with
  | none => rw [Sys.broadcast_of_reportTo_none func body ht]; exact canFrames y func body
  | some t =>
    rw [Sys.broadcast_of_reportTo func body ht]
    exact (canFrames y func body).trans (frameOut _ 0 func 0 body (by decide) (hnear t ht))

/-! ## A record is written (R751, R753) -/

theorem Sends.eventFrames_broadcast {y : Sys} {r : EventRecord} (h : y.rd (ent 0x1100 4) ≤ r.severity) :
    Sends (y.broadcast .event true (le 2 34 ++ r.octets)) (y.eventFrames r) := by
  unfold Sys.eventFrames
  rw [if_neg (Nat.not_lt.2 h)]
  extract_lets body z
  split
  · exact refl z
  · split
    · exact onPower z _
    · exact frameOut z 0 .event 0 body (by decide) (by decide)

theorem Sends.eventFrames (y : Sys) (r : EventRecord) (hnear : y.ReportsNear) : Sends y (y.eventFrames r) := by
  by_cases h : r.severity < y.rd (ent 0x1100 4)
  · rw [Sys.eventFrames, if_pos h]; exact refl y
  · exact (broadcast y _ _ hnear).trans (eventFrames_broadcast (Nat.not_lt.1 h))

/-- The oldest record `r` has left the buffer, where `rest` still waits, and is in the ring. -/
def Sys.written (y : Sys) (r : EventRecord) (rest : List EventRecord) : Sys :=
  Sys.ringPut { y with log := { y.log with pending := rest } } r

section
variable (y : Sys) (r : EventRecord) (rest : List EventRecord)

theorem Sys.written_eq : ∃ mram next oldest, y.written r rest =
    (({ y with log := { y.log with pending := rest }, mram := mram } : Sys).wr (ent 0x1300 1) next).wr (ent 0x1300 2) oldest := ⟨_, _, _, rfl⟩

@[simp] theorem Sys.written_log : (y.written r rest).log = { y.log with pending := rest } := by
  obtain ⟨mram, next, oldest, h⟩ := written_eq y r rest
  rw [h]
  rfl

/-- Besides the log and MRAM, only the sequences 0x1300:01 and :02 change. -/
theorem Sys.sameBut_written : SameBut [.log, .mram] (only [ent 0x1300 1, ent 0x1300 2]) (only []) y (y.written r rest) := by
  obtain ⟨mram, next, oldest, h⟩ := written_eq y r rest
  rw [h]
  refine SameBut.trans ?_ (SameBut.trans (sameBut_wr _ (ent 0x1300 1) next (by simp)) (sameBut_wr _ (ent 0x1300 2) oldest (by simp)))
  refine ⟨fun p hp => ?_, fun _ _ => rfl, fun _ _ => rfl⟩
  cases p with
  | log | mram => simp at hp
  | _ => rfl

@[simp] theorem Sys.written_t96 : (y.written r rest).t96 = y.t96 := ((sameBut_written y r rest).1 .t96 (by decide)).symm

theorem Sys.link_written (k : Nat) : (y.written r rest).link k = y.link k := by
  have hlinks : y.links = (y.written r rest).links := (sameBut_written y r rest).1 .links (by decide)
  rw [link, ← hlinks, link]

theorem Sys.rd_written {k : Nat} (hk : k ∉ [ent 0x1300 1, ent 0x1300 2]) : (y.written r rest).rd k = y.rd k := (sameBut_written y r rest).2.1 k hk

@[simp] theorem Sys.reportTo_written : (y.written r rest).reportTo = y.reportTo :=
  Sys.reportTo_congr (fun _ hs => Sys.rd_written y r rest (by fin_cases hs <;> decide)) (fun _ _ => (Sys.sameBut_written y r rest).2.2 _ (by simp))

end

/-- Event 0x0132 tells how many records were dropped, if any were (R753). -/
def Sys.reportDropped (y : Sys) : Sys :=
  if y.log.dropped = 0 then y
  else Sys.raise { y with log := { y.log with dropped := 0 } } 0x0132 255 (ev [(0, 4, y.log.dropped)])

theorem Sys.log_reportDropped {y : Sys} (h : y.log.dropped ≠ 0) (hroom : y.log.pending.length < 256) :
    y.reportDropped.log.pending = y.log.pending ++ [⟨y.t96, 0x0132, severity 0x0132, 255, ev [(0, 4, y.log.dropped)]⟩] ∧
    y.reportDropped.log.dropped = 0 := by
  rw [Sys.reportDropped, if_neg h]
  exact ⟨Sys.log_raise { y with log := { y.log with dropped := 0 } } _ _ _ hroom,
    Sys.dropped_raise (y := { y with log := { y.log with dropped := 0 } }) _ _ _ hroom⟩

/-- A record at or above the interrupt threshold raises the EVENT class (R756). -/
def Sys.eventInterrupt (y : Sys) (r : EventRecord) : Sys := if y.rd (ent 0x1310 2) ≤ r.severity then y.classRaised .event else y

theorem Sends.eventInterrupt (y : Sys) (r : EventRecord) : Sends y (y.eventInterrupt r) := by
  unfold Sys.eventInterrupt
  split
  · exact classRaised y _
  · exact refl y

theorem Sys.logWrite_of_pending {y : Sys} {r : EventRecord} {rest : List EventRecord} (h : y.log.pending = r :: rest) :
    y.logWrite = (((y.written r rest).eventFrames r).eventInterrupt r).reportDropped := by
  have hwritten : Sys.ringPut { y with log := { y.log with pending := rest } } r = y.written r rest := rfl
  simp only [Sys.logWrite, h, hwritten]
  generalize (y.written r rest).eventFrames r = z
  rfl

/-- R753: a write makes room, and the records dropped since are reported. -/
theorem Sys.log_logWrite {y : Sys} {r : EventRecord} {rest : List EventRecord} (hnear : y.ReportsNear) (hpending : y.log.pending = r :: rest)
    (hroom : rest.length < 256) (hdropped : y.log.dropped ≠ 0) :
    y.logWrite.log.pending = rest ++ [⟨y.t96, 0x0132, severity 0x0132, 255, ev [(0, 4, y.log.dropped)]⟩] ∧ y.logWrite.log.dropped = 0 := by
  have hsent := (Sends.eventFrames (y.written r rest) r (by simpa [ReportsNear] using hnear)).trans (Sends.eventInterrupt _ r)
  have hlog := hsent.log_eq.trans (written_log y r rest)
  have ht := hsent.t96_eq.trans (written_t96 y r rest)
  rw [logWrite_of_pending hpending]
  generalize ((y.written r rest).eventFrames r).eventInterrupt r = z at hlog ht
  have := log_reportDropped (y := z) (by simpa [hlog] using hdropped) (by simpa [hlog] using hroom)
  simpa only [hlog, ht] using this

/-- EVENT_LOG_WRITE writes one record while the module runs. -/
theorem completes_eventLogWrite {s : State} (hrun : s.sys.boot.phase = .running) (P : State → Prop) :
    Completes .eventLogWrite s P ↔ P { s with sys := s.sys.logWrite } := by
  have : exec .eventLogWrite s = .next { s with sys := s.sys.logWrite } := by
    simp [execEventLogWrite, onSys, hrun]
  simp [Completes, this]

/-- R753: of every state whose report destination is four octets and a U16 port, EVENT_LOG_WRITE reports the dropped records. -/
theorem eventLogWrite_reports_dropped {s : State} {r : EventRecord} {rest : List EventRecord} (hrun : s.sys.boot.phase = .running)
    (hpending : s.sys.log.pending = r :: rest) (hroom : rest.length < 256) (hdropped : s.sys.log.dropped ≠ 0)
    (haddr : (s.sys.rdB (ent 0x1101 6)).length ≤ 4) (hport : s.sys.rd (ent 0x1101 7) < 65536) :
    Completes .eventLogWrite s fun t =>
      t.sys.log.pending = rest ++ [⟨s.sys.t96, 0x0132, severity 0x0132, 255, ev [(0, 4, s.sys.log.dropped)]⟩] ∧ t.sys.log.dropped = 0 :=
  (completes_eventLogWrite hrun _).2 (Sys.log_logWrite (Sys.reportsNear_of_types haddr hport) hpending hroom hdropped)

/-- R753 as the obligation states it, with the report destination in the last clause one that its entries can hold. -/
theorem eventBufferHolds256Records_of_typed_destination :
    (∀ (y : Sys) (code source : Nat) (data : Bytes), y.log.pending.length < 256 →
      (y.raise code source data).log.pending = y.log.pending ++ [⟨y.t96, code, severity code, source, data⟩] ∧
      (y.raise code source data).log.dropped = y.log.dropped) ∧
    (∀ (y : Sys) (code source : Nat) (data : Bytes), 256 ≤ y.log.pending.length →
      (y.raise code source data).log.pending = y.log.pending ∧ (y.raise code source data).log.dropped = y.log.dropped + 1) ∧
    (∀ (y : Sys) (key code source : Nat) (data : Bytes), y.limitedNow code key = true → y.raiseLimited key code source data = y) ∧
    (∀ (s : State) (r : EventRecord) (rest : List EventRecord), (s.sys.rdB (ent 0x1101 6)).length ≤ 4 → s.sys.rd (ent 0x1101 7) < 65536 →
      s.sys.boot.phase = .running → s.sys.log.pending = r :: rest → rest.length < 256 → s.sys.log.dropped ≠ 0 →
      Completes .eventLogWrite s fun t =>
        t.sys.log.pending = rest ++ [⟨s.sys.t96, 0x0132, severity 0x0132, 255, ev [(0, 4, s.sys.log.dropped)]⟩] ∧ t.sys.log.dropped = 0) := by
  refine ⟨fun y code source data h => ⟨Sys.log_raise y _ _ _ h, Sys.dropped_raise _ _ _ h⟩, fun y code source data h => ?_,
    fun y key code source data h => Sys.raiseLimited_of_limited _ _ h, fun s r rest haddr hport hrun hpending hroom hdropped =>
      eventLogWrite_reports_dropped hrun hpending hroom hdropped haddr hport⟩
  rw [Sys.log_raise_full code source data h]
  exact ⟨rfl, rfl⟩

/-! ## A report destination that no entry of its type holds -/

theorem le_trimBacklog (fuel : Nat) (l : List CtlFrame) (n : Nat) : n ≤ (trimBacklog fuel l n).2 := by
  induction fuel generalizing l n with
  | zero => exact le_rfl
  | succ fuel ih =>
    unfold trimBacklog
    split
    · exact le_rfl
    · split
      · exact (Nat.le_succ n).trans (ih _ _)
      · exact le_rfl

/-- A manifest above 1 MiB at the head of the Felley backlog is dropped by the next frame (R715). -/
theorem trimBacklog_of_large_manifest {f : CtlFrame} (g : CtlFrame) (hkind : f.kind = Ctl.manifest.num) (hbody : 1048576 < f.body.length) :
    (trimBacklog 2 [f, g] 0).2 ≠ 0 := by
  have hlarge : ¬ (([f, g].map fun f => f.body.length).sum ≤ 1048576) := by simp; omega
  have hfirst : ([f, g].findIdx? fun f => f.kind == Ctl.manifest.num) = some 0 := by simp [List.findIdx?_cons, hkind]
  have hstep : trimBacklog 2 [f, g] 0 = trimBacklog 1 [g] 1 := by
    rw [trimBacklog, if_neg hlarge, hfirst]
    rfl
  rw [hstep]
  exact Nat.one_le_iff_ne_zero.1 (le_trimBacklog 1 [g] 1)

section
variable {y : Sys} {f : CtlFrame} (hunacked : (y.link 4).unacked = [f]) (hkind : f.kind = Ctl.manifest.num) (hbody : 1048576 < f.body.length)
include hunacked hkind hbody

/-- A frame to the Felley link that trims the backlog logs event 0x1508 (R715). -/
theorem Sys.log_control_of_full_backlog (c : Ctl) (body : Bytes) (hroom : y.log.pending.length < 256) :
    (y.control 4 c body).log.pending.length = y.log.pending.length + 1 ∧ (y.control 4 c body).log.dropped = y.log.dropped := by
  have htrim := trimBacklog_of_large_manifest ⟨(y.link 4).next, c.num, body, 0⟩ hkind hbody
  unfold Sys.control
  simp only [hunacked, if_true, List.cons_append, List.nil_append, List.length_cons, List.length_nil, Nat.zero_add, Nat.reduceAdd, htrim, if_false,
    Sys.send_log]
  exact ⟨by rw [Sys.log_raise (y.setLink 4 _) _ _ _ hroom]; simp, Sys.dropped_raise (y := y.setLink 4 _) _ _ _ hroom⟩

/-- A far report destination has the EVENT frames trim the backlog. -/
theorem Sys.log_eventFrames_of_far {t : Nat} {r : EventRecord} (hto : y.reportTo = some t) (hfar : isFar t = true)
    (hsev : y.rd (ent 0x1100 4) ≤ r.severity) (hroom : y.log.pending.length < 256) :
    (y.eventFrames r).log.pending.length = y.log.pending.length + 1 ∧ (y.eventFrames r).log.dropped = y.log.dropped := by
  have hcan := Sends.canFrames y .event (le 2 34 ++ r.octets)
  have hlink : ((y.canFrames .event (le 2 34 ++ r.octets)).link 4).unacked = [f] := by rw [← hunacked, Sys.link, hcan.links_eq, Sys.link]
  rw [(Sends.eventFrames_broadcast hsev).log_eq, Sys.broadcast_of_reportTo .event _ hto, Sys.frameOut, if_pos hfar, ← hcan.log_eq]
  exact Sys.log_control_of_full_backlog hlink hkind hbody .forward _ (by rwa [hcan.log_eq])

end

/-- A record of the highest severity, which every threshold of EVENT frames lets pass. -/
def criticalRecord : EventRecord := ⟨0, 1, 4, 255, []⟩

/-- A manifest that waits on the Felley link and is above 1 MiB by itself. -/
def largeManifest : CtlFrame := ⟨0, Ctl.manifest.num, List.replicate 1048577 0, 0⟩

/-- The state after reset, but with eight octets in the BLOB (4) entry 0x1101:06 of the report destination, a full Felley backlog, one record that
waits and one that was dropped. -/
def farReports : Sys :=
  let y : Sys := { State.reset.sys with log := ⟨[criticalRecord], 1, []⟩ }
  let z := y.setLink 4 { link0 with unacked := [largeManifest] }
  (((z.wr (ent 0x1101 1) 1).wr (ent 0x1100 4) 0).wrB (ent 0x1101 6) (List.replicate 8 255)).wrB (ent 0x1101 8) [192, 168, 0, 32]

theorem length_largeManifest : largeManifest.body.length = 1048577 := List.length_replicate

theorem log_farReports : farReports.log = ⟨[criticalRecord], 1, []⟩ := rfl
theorem phase_farReports : farReports.boot.phase = .running := rfl

theorem unacked_farReports : (farReports.link 4).unacked = [largeManifest] := by
  simp only [farReports, Sys.link, Sys.setLink, Sys.wrB_links, Sys.wr_links, tget_tset, if_true]

theorem eventThreshold_farReports : farReports.rd (ent 0x1100 4) = 0 := by
  simp only [farReports, Sys.rd_wrB, Sys.rd_wr, if_true]

theorem reportTo_farReports : ∃ t, farReports.reportTo = some t ∧ isFar t = true := by
  have hon : farReports.rd (ent 0x1101 1) = 1 := by simp [farReports, ent]
  have haddr : farReports.rdB (ent 0x1101 6) = List.replicate 8 255 := by simp [farReports, ent]
  have hheld : farReports.rdB (ent 0x1101 8) = [192, 168, 0, 32] := by simp [farReports]
  have hunLe : unLe (List.replicate 8 255) = 2 ^ 64 - 1 := by decide
  refine ⟨(2 ^ 64 - 1) * 65536 + farReports.rd (ent 0x1101 7), ?_, by simp only [isFar, decide_eq_true_eq]; omega⟩
  rw [Sys.reportTo, Sys.udpOn, hon, haddr, hheld, hunLe]
  exact if_pos (by decide)

/-- Writing the record leaves two others in the buffer: the trimmed backlog logs its own event before the dropped record is reported. -/
theorem length_pending_farReports : farReports.logWrite.log.pending.length = 2 := by
  obtain ⟨t, hto, hfar⟩ := reportTo_farReports
  have hlog : (farReports.written criticalRecord []).log = ⟨[], 1, []⟩ := by rw [Sys.written_log, log_farReports]
  obtain ⟨hlength, hdropped⟩ := Sys.log_eventFrames_of_far ((congrArg Link.unacked (Sys.link_written _ _ _ 4)).trans unacked_farReports) rfl
    (by rw [length_largeManifest]; decide) ((Sys.reportTo_written _ criticalRecord []).trans hto) hfar (r := criticalRecord)
    (by rw [Sys.rd_written _ _ _ (by decide), eventThreshold_farReports]; exact Nat.zero_le _) (by simp)
  have hsent := Sends.eventInterrupt ((farReports.written criticalRecord []).eventFrames criticalRecord) criticalRecord
  rw [← hsent.log_eq, hlog] at hlength hdropped
  rw [Sys.logWrite_of_pending (congrArg EventLog.pending log_farReports), (Sys.log_reportDropped (by simp [hdropped]) (by simp [hlength])).1]
  simp [hlength]

/-- Refutes O6: the clause of EVENT_LOG_WRITE asks, of every state, that only the record of 0x0132 enters the buffer. With eight octets in the report
destination, whose entry is a BLOB (4), the model sends the EVENT frame over the Felley link, and the full backlog there logs event 0x1508 first. Where
the destination is of its type, the obligation holds (`eventBufferHolds256Records_of_typed_destination`). -/
theorem not_theEventBufferHolds256Records : ¬ Obligations.TheEventBufferHolds256Records := by
  unfold Obligations.TheEventBufferHolds256Records
  intro h
  obtain ⟨-, -, -, hwrite⟩ := h
  have hcompletes := hwrite { State.reset with sys := farReports } criticalRecord [] phase_farReports (congrArg EventLog.pending log_farReports)
    (by decide) (by rw [log_farReports]; decide)
  rw [completes_eventLogWrite (s := { State.reset with sys := farReports }) phase_farReports] at hcompletes
  obtain ⟨hpending, -⟩ := hcompletes
  dsimp only at hpending
  have hlength := length_pending_farReports
  rw [hpending] at hlength
  exact absurd hlength (by simp)

end Sys2Proof.Machine
end

section
/-!
PROOFS. Whole steps: what a step or a run of steps may do to the queue and to the fuses, whatever the commands are (R167, R178).
-/

namespace Sys2Proof.Machine

/-! ## Fuses over several programmings -/

theorem FuseInv.applyAll {o : Otp} (h : FuseInv o) (l : List OtpOp) : FuseInv (o.applyAll l) := by
  induction l generalizing o with
  | nil => exact h
  | cons p l ih => exact ih (h.apply p)

theorem Grown.applyAll (o : Otp) (l : List OtpOp) : Grown o (o.applyAll l) := by
  induction l generalizing o with
  | nil => exact .refl o
  | cons p l ih => exact (Grown.apply o p).trans (ih (o.apply p))

/-! ## One step -/

theorem step_nil {s : State} (h : s.pending = []) : step s = .next (tick s) := by rw [step, h]

theorem step_cons {s : State} {c : Instr} {rest : List Instr} (h : s.pending = c :: rest) : step s = exec c { s with pending := rest } := by
  rw [step, h]

/-- A step answers a next state: the queue without its front, and fuses changed by programmings alone. -/
theorem step_next (s : State) : ∃ l t, step s = .next t ∧ t.pending = s.pending.tail ∧ t.otp = s.otp.applyAll l := by
  cases h : s.pending with
  | nil => exact ⟨[], _, step_nil h, h, rfl⟩
  | cons c rest =>
    obtain ⟨l, y, hexec⟩ := ran_exec c { s with pending := rest }
    exact ⟨l, _, (step_cons h).trans hexec, rfl, rfl⟩

/-- Settles O1: the queue's front is taken off before its command runs. -/
theorem stepRunsTheFrontCommand : Obligations.StepRunsTheFrontCommand := by
  unfold Obligations.StepRunsTheFrontCommand
  exact fun _ _ _ => step_cons rfl

/-- Settles O5: a step changes fuses by programmings alone, and each keeps the array legal and only adds. -/
theorem fusesStayLegalAndOnlyGrow : Obligations.FusesStayLegalAndOnlyGrow := by
  unfold Obligations.FusesStayLegalAndOnlyGrow
  intro s t hstep
  obtain ⟨l, u, hu, -, hotp⟩ := step_next s
  obtain rfl : u = t := by rw [hu] at hstep; exact Host.Outcome.next.inj hstep
  rw [hotp]
  exact ⟨fun h => h.applyAll l, .applyAll s.otp l⟩

/-! ## Runs of steps -/

theorem steps_succ {s t : State} (n : Nat) (h : step s = .next t) : steps (n + 1) s = steps n t := by rw [steps, h]

/-- As many steps as commands wait take those commands off the front, and lose no fuse. -/
theorem steps_drop (k : Nat) (s : State) : ∃ t, steps k s = some t ∧ t.pending = s.pending.drop k ∧ Grown s.otp t.otp := by
  induction k generalizing s with
  | zero => exact ⟨s, rfl, rfl, .refl _⟩
  | succ k ih =>
    obtain ⟨l, u, hu, hqueue, hotp⟩ := step_next s
    obtain ⟨t, ht, hdrop, hgrown⟩ := ih u
    refine ⟨t, (steps_succ k hu).trans ht, by rw [hdrop, hqueue, List.drop_tail], ?_⟩
    exact (hotp ▸ Grown.applyAll s.otp l : Grown s.otp u.otp).trans hgrown

/-- Settles O3: by induction on the number of steps, each taking one command off the front. -/
theorem theQueueRunsInItsOrder : Obligations.TheQueueRunsInItsOrder := by
  unfold Obligations.TheQueueRunsInItsOrder
  exact fun s k _ => steps_drop k s

end Sys2Proof.Machine
end

section
/-!
PROOFS. DRAM: octets written from an address on are read back there, and nowhere else is anything changed (R566).
-/

namespace Sys2Proof.Machine

/-- Octets put into a table from key `a` on, at consecutive keys. -/
theorem tget_putOctets (b : Bytes) (i a c : Nat) (m : List (Nat × Byte)) :
    tget (fun _ => (0 : Byte)) ((b.zipIdx i).foldl (fun m p => tset (fun _ => (0 : Byte)) m (a + p.2) p.1) m) c =
      if a + i ≤ c ∧ c < a + i + b.length then b.getD (c - (a + i)) 0 else tget (fun _ => (0 : Byte)) m c := by
  induction b generalizing i m with
  | nil => simp
  | cons x r ih =>
    rw [List.zipIdx_cons, List.foldl_cons, ih, tget_tset]
    simp only [List.length_cons]
    by_cases hc : c = a + i
    · subst hc
      simp
    · by_cases hin : a + (i + 1) ≤ c ∧ c < a + (i + 1) + r.length
      · obtain ⟨n, hn⟩ : ∃ n, c - (a + i) = n + 1 := ⟨c - (a + i) - 1, by omega⟩
        rw [if_pos hin, if_pos (by omega), hn, List.getD_cons_succ, show c - (a + (i + 1)) = n by omega]
      · rw [if_neg hin, if_neg hc, if_neg (by omega)]

theorem twf_putOctets (l : List (Byte × Nat)) (a : Nat) (m : List (Nat × Byte)) (h : twf (fun _ => (0 : Byte)) m = true) :
    twf (fun _ => (0 : Byte)) (l.foldl (fun m p => tset (fun _ => (0 : Byte)) m (a + p.2) p.1) m) = true := by
  induction l generalizing m with
  | nil => exact h
  | cons p l ih => exact ih _ (twf_tset _ _ _ _ h)

theorem tget_dramWr (y : Sys) (a : Nat) (b : Bytes) (c : Nat) :
    tget (fun _ => (0 : Byte)) (y.dramWr a b).dram c =
      if a ≤ c ∧ c < a + b.length then b.getD (c - a) 0 else tget (fun _ => (0 : Byte)) y.dram c := by
  simpa [Sys.dramWr] using tget_putOctets b 0 a c y.dram

theorem dramRd_dramWr_same (y : Sys) (a : Nat) (b : Bytes) : (y.dramWr a b).dramRd a b.length = b := by
  refine List.ext_getElem (by simp [Sys.dramRd]) fun i _ hi => ?_
  simp only [Sys.dramRd, List.getElem_map, List.getElem_range, tget_dramWr]
  simp [hi]

theorem dramRd_dramWr_outside (y : Sys) (a : Nat) (b : Bytes) {c : Nat} (h : c < a ∨ a + b.length ≤ c) :
    (y.dramWr a b).dramRd c 1 = y.dramRd c 1 := by
  have : ¬ (a ≤ c ∧ c < a + b.length) := by omega
  simp only [Sys.dramRd, List.range_one, List.map_cons, List.map_nil, Nat.add_zero, tget_dramWr, if_neg this]

theorem sameBut_dramWr (y : Sys) (a : Nat) (b : Bytes) : SameBut [.dram, .mem] (only []) (only []) y (y.dramWr a b) := by
  refine ⟨fun p hp => ?_, fun _ _ => rfl, fun _ _ => rfl⟩
  cases p with
  | dram | mem => simp at hp
  | _ => rfl

/-- Settles O10: a write is one put per octet at consecutive keys of a canonical table. -/
theorem dramReadsBackWhatWasWritten : Obligations.DramReadsBackWhatWasWritten := by
  unfold Obligations.DramReadsBackWhatWasWritten
  exact fun y a b => ⟨dramRd_dramWr_same y a b, fun _ h => dramRd_dramWr_outside y a b h, twf_putOctets _ a y.dram, sameBut_dramWr y a b⟩

end Sys2Proof.Machine
end

section
/-!
PROOFS. What the updates of the working state leave alone, as rules that take the last update off a frame: where the frame names what an update may
change, the state after it differs from another as the state before it does.
-/

namespace Sys2Proof.Machine

variable {fs : List Facet} {nums blobs : Nat → Prop} {y z w : Sys}

/-! ## Taking an update off a frame -/

theorem SameBut.symm (h : SameBut fs nums blobs y z) : SameBut fs nums blobs z y := by
  refine ⟨fun p hp => ?_, fun k hk => (h.2.1 k hk).symm, fun k hk => (h.2.2 k hk).symm⟩
  have := h.1 p hp
  cases p <;> exact Eq.symm this

theorem SameBut.iff_of_step (h : SameBut fs nums blobs z w) : SameBut fs nums blobs y w ↔ SameBut fs nums blobs y z :=
  ⟨fun g => g.trans h.symm, fun g => g.trans h⟩

@[simp] theorem sameBut_self : SameBut fs nums blobs y y := .refl y

/-- A frame after a case distinction is one in both cases. -/
theorem SameBut.ite {c : Prop} [Decidable c] (h : c → SameBut fs nums blobs y z) (g : ¬ c → SameBut fs nums blobs y w) :
    SameBut fs nums blobs y (if c then z else w) := by
  split
  · exact h ‹_›
  · exact g ‹_›

/-- Both states have the same entries, and the same in every part besides the listed ones. -/
theorem SameBut.of_facets (hd : y.dict = z.dict) (hb : y.blobs = z.blobs) (h : ∀ p, p ∉ fs → p.same y z) : SameBut fs nums blobs y z :=
  ⟨h, fun k _ => (Sys.rd_congr hd k).symm, fun k _ => (Sys.rdB_congr hb k).symm⟩

/-! ## Entries, events and messages -/

section
variable (k n i : Nat) (b : Bytes)

@[simp] theorem sameBut_wr_iff (h : nums k) : SameBut fs nums blobs y (z.wr k n) ↔ SameBut fs nums blobs y z := (sameBut_wr z k n h).iff_of_step
@[simp] theorem sameBut_wrB_iff (h : blobs k) : SameBut fs nums blobs y (z.wrB k b) ↔ SameBut fs nums blobs y z := (sameBut_wrB z k b h).iff_of_step
@[simp] theorem sameBut_raise_iff (h : Facet.log ∈ fs) : SameBut fs nums blobs y (z.raise k n b) ↔ SameBut fs nums blobs y z :=
  (sameBut_raise z k n b h).iff_of_step
@[simp] theorem sameBut_raiseSev_iff (h : Facet.log ∈ fs) : SameBut fs nums blobs y (z.raiseSev i k n b) ↔ SameBut fs nums blobs y z :=
  (sameBut_raiseSev z i k n b h).iff_of_step
@[simp] theorem sameBut_raiseLimited_iff (h : Facet.log ∈ fs) : SameBut fs nums blobs y (z.raiseLimited i k n b) ↔ SameBut fs nums blobs y z :=
  (sameBut_raiseLimited z i k n b h).iff_of_step
@[simp] theorem sameBut_send_iff (m : Tx) (h : Facet.tx ∈ fs) : SameBut fs nums blobs y (z.send m) ↔ SameBut fs nums blobs y z :=
  (sameBut_send z m h).iff_of_step

end

/-! ## Parts -/

theorem sameBut_setAin (n : Nat) (v : AudioIn) (h : Facet.audioIn ∈ fs) : SameBut fs nums blobs y (y.setAin n v) :=
  .of_facets rfl rfl fun p hp => by cases p <;> first | rfl | exact absurd h hp
@[simp] theorem sameBut_setAin_iff (n : Nat) (v : AudioIn) (h : Facet.audioIn ∈ fs) : SameBut fs nums blobs y (z.setAin n v) ↔ SameBut fs nums blobs y z :=
  (sameBut_setAin n v h).iff_of_step

theorem sameBut_setAout (n : Nat) (v : AudioOut) (h : Facet.audioOut ∈ fs) : SameBut fs nums blobs y (y.setAout n v) :=
  .of_facets rfl rfl fun p hp => by cases p <;> first | rfl | exact absurd h hp
@[simp] theorem sameBut_setAout_iff (n : Nat) (v : AudioOut) (h : Facet.audioOut ∈ fs) : SameBut fs nums blobs y (z.setAout n v) ↔ SameBut fs nums blobs y z :=
  (sameBut_setAout n v h).iff_of_step

theorem sameBut_setTable (n : Nat) (v : LibTable) (h : Facet.tables ∈ fs) : SameBut fs nums blobs y (y.setTable n v) :=
  .of_facets rfl rfl fun p hp => by cases p <;> first | rfl | exact absurd h hp
@[simp] theorem sameBut_setTable_iff (n : Nat) (v : LibTable) (h : Facet.tables ∈ fs) : SameBut fs nums blobs y (z.setTable n v) ↔ SameBut fs nums blobs y z :=
  (sameBut_setTable n v h).iff_of_step

theorem sameBut_setZc (n : Nat) (v : Zc) (h : Facet.zcs ∈ fs) : SameBut fs nums blobs y (y.setZc n v) :=
  .of_facets rfl rfl fun p hp => by cases p <;> first | rfl | exact absurd h hp
@[simp] theorem sameBut_setZc_iff (n : Nat) (v : Zc) (h : Facet.zcs ∈ fs) : SameBut fs nums blobs y (z.setZc n v) ↔ SameBut fs nums blobs y z :=
  (sameBut_setZc n v h).iff_of_step

theorem sameBut_setRing (n : Nat) (v : Ring) (h : Facet.rings ∈ fs) : SameBut fs nums blobs y (y.setRing n v) :=
  .of_facets rfl rfl fun p hp => by cases p <;> first | rfl | exact absurd h hp
@[simp] theorem sameBut_setRing_iff (n : Nat) (v : Ring) (h : Facet.rings ∈ fs) : SameBut fs nums blobs y (z.setRing n v) ↔ SameBut fs nums blobs y z :=
  (sameBut_setRing n v h).iff_of_step

theorem sameBut_setMig (m : Option Migration) (h : Facet.mram ∈ fs) : SameBut fs nums blobs y (y.setMig m) :=
  .of_facets rfl rfl fun p hp => by cases p <;> first | rfl | exact absurd h hp
@[simp] theorem sameBut_setMig_iff (m : Option Migration) (h : Facet.mram ∈ fs) : SameBut fs nums blobs y (z.setMig m) ↔ SameBut fs nums blobs y z :=
  (sameBut_setMig m h).iff_of_step

theorem sameBut_setEnc (n : Nat) (v : Enc) (h : Facet.encs ∈ fs) : SameBut fs nums blobs y (y.setEnc n v) :=
  .of_facets rfl rfl fun p hp => by cases p <;> first | rfl | exact absurd h hp
@[simp] theorem sameBut_setEnc_iff (n : Nat) (v : Enc) (h : Facet.encs ∈ fs) : SameBut fs nums blobs y (z.setEnc n v) ↔ SameBut fs nums blobs y z :=
  (sameBut_setEnc n v h).iff_of_step

theorem sameBut_setEngine (n : Nat) (v : Engine) (h : Facet.engines ∈ fs) : SameBut fs nums blobs y (y.setEngine n v) :=
  .of_facets rfl rfl fun p hp => by cases p <;> first | rfl | exact absurd h hp
@[simp] theorem sameBut_setEngine_iff (n : Nat) (v : Engine) (h : Facet.engines ∈ fs) : SameBut fs nums blobs y (z.setEngine n v) ↔ SameBut fs nums blobs y z :=
  (sameBut_setEngine n v h).iff_of_step

theorem sameBut_onDen (f : Denval → Denval) (h : Facet.den ∈ fs) : SameBut fs nums blobs y (y.onDen f) :=
  .of_facets rfl rfl fun p hp => by cases p <;> first | rfl | exact absurd h hp
@[simp] theorem sameBut_onDen_iff (f : Denval → Denval) (h : Facet.den ∈ fs) : SameBut fs nums blobs y (z.onDen f) ↔ SameBut fs nums blobs y z :=
  (sameBut_onDen f h).iff_of_step

theorem sameBut_setFstream (n : Nat) (v : FelleyStream) (h : Facet.felley ∈ fs) : SameBut fs nums blobs y (y.setFstream n v) :=
  .of_facets rfl rfl fun p hp => by cases p <;> first | rfl | exact absurd h hp
@[simp] theorem sameBut_setFstream_iff (n : Nat) (v : FelleyStream) (h : Facet.felley ∈ fs) : SameBut fs nums blobs y (z.setFstream n v) ↔ SameBut fs nums blobs y z :=
  (sameBut_setFstream n v h).iff_of_step

theorem sameBut_setCtx (n : Nat) (v : Ctx) (h : Facet.ctxs ∈ fs) : SameBut fs nums blobs y (y.setCtx n v) :=
  .of_facets rfl rfl fun p hp => by cases p <;> first | rfl | exact absurd h hp
@[simp] theorem sameBut_setCtx_iff (n : Nat) (v : Ctx) (h : Facet.ctxs ∈ fs) : SameBut fs nums blobs y (z.setCtx n v) ↔ SameBut fs nums blobs y z :=
  (sameBut_setCtx n v h).iff_of_step

theorem sameBut_setIg (n : Nat) (v : IngestGroup) (h : Facet.igs ∈ fs) : SameBut fs nums blobs y (y.setIg n v) :=
  .of_facets rfl rfl fun p hp => by cases p <;> first | rfl | exact absurd h hp
@[simp] theorem sameBut_setIg_iff (n : Nat) (v : IngestGroup) (h : Facet.igs ∈ fs) : SameBut fs nums blobs y (z.setIg n v) ↔ SameBut fs nums blobs y z :=
  (sameBut_setIg n v h).iff_of_step

theorem sameBut_setPort (n : Nat) (v : SensorPort) (h : Facet.ports ∈ fs) : SameBut fs nums blobs y (y.setPort n v) :=
  .of_facets rfl rfl fun p hp => by cases p <;> first | rfl | exact absurd h hp
@[simp] theorem sameBut_setPort_iff (n : Nat) (v : SensorPort) (h : Facet.ports ∈ fs) : SameBut fs nums blobs y (z.setPort n v) ↔ SameBut fs nums blobs y z :=
  (sameBut_setPort n v h).iff_of_step

theorem sameBut_setTroupe (n : Nat) (v : Troupe) (h : Facet.troupes ∈ fs) : SameBut fs nums blobs y (y.setTroupe n v) :=
  .of_facets rfl rfl fun p hp => by cases p <;> first | rfl | exact absurd h hp
@[simp] theorem sameBut_setTroupe_iff (n : Nat) (v : Troupe) (h : Facet.troupes ∈ fs) : SameBut fs nums blobs y (z.setTroupe n v) ↔ SameBut fs nums blobs y z :=
  (sameBut_setTroupe n v h).iff_of_step

theorem sameBut_setRfe (n : Nat) (v : Rfe) (h : Facet.rfes ∈ fs) : SameBut fs nums blobs y (y.setRfe n v) :=
  .of_facets rfl rfl fun p hp => by cases p <;> first | rfl | exact absurd h hp
@[simp] theorem sameBut_setRfe_iff (n : Nat) (v : Rfe) (h : Facet.rfes ∈ fs) : SameBut fs nums blobs y (z.setRfe n v) ↔ SameBut fs nums blobs y z :=
  (sameBut_setRfe n v h).iff_of_step

theorem sameBut_setFrame (f : Frame) (h : Facet.frames ∈ fs) : SameBut fs nums blobs y (y.setFrame f) :=
  .of_facets rfl rfl fun p hp => by cases p <;> first | rfl | exact absurd h hp
@[simp] theorem sameBut_setFrame_iff (f : Frame) (h : Facet.frames ∈ fs) : SameBut fs nums blobs y (z.setFrame f) ↔ SameBut fs nums blobs y z :=
  (sameBut_setFrame f h).iff_of_step

theorem sameBut_onFrame (x n : Nat) (f : Frame → Frame) (h : Facet.frames ∈ fs) : SameBut fs nums blobs y (y.onFrame x n f) :=
  .of_facets rfl rfl fun p hp => by cases p <;> first | rfl | exact absurd h hp
@[simp] theorem sameBut_onFrame_iff (x n : Nat) (f : Frame → Frame) (h : Facet.frames ∈ fs) : SameBut fs nums blobs y (z.onFrame x n f) ↔ SameBut fs nums blobs y z :=
  (sameBut_onFrame x n f h).iff_of_step

theorem sameBut_setLane (n : Nat) (v : Lane) (h : Facet.lanes ∈ fs) : SameBut fs nums blobs y (y.setLane n v) :=
  .of_facets rfl rfl fun p hp => by cases p <;> first | rfl | exact absurd h hp
@[simp] theorem sameBut_setLane_iff (n : Nat) (v : Lane) (h : Facet.lanes ∈ fs) : SameBut fs nums blobs y (z.setLane n v) ↔ SameBut fs nums blobs y z :=
  (sameBut_setLane n v h).iff_of_step

theorem sameBut_setMail (n : Nat) (v : Mailbox) (h : Facet.mailboxes ∈ fs) : SameBut fs nums blobs y (y.setMail n v) :=
  .of_facets rfl rfl fun p hp => by cases p <;> first | rfl | exact absurd h hp
@[simp] theorem sameBut_setMail_iff (n : Nat) (v : Mailbox) (h : Facet.mailboxes ∈ fs) : SameBut fs nums blobs y (z.setMail n v) ↔ SameBut fs nums blobs y z :=
  (sameBut_setMail n v h).iff_of_step

theorem sameBut_setTio (n : Nat) (v : Tio) (h : Facet.tios ∈ fs) : SameBut fs nums blobs y (y.setTio n v) :=
  .of_facets rfl rfl fun p hp => by cases p <;> first | rfl | exact absurd h hp
@[simp] theorem sameBut_setTio_iff (n : Nat) (v : Tio) (h : Facet.tios ∈ fs) : SameBut fs nums blobs y (z.setTio n v) ↔ SameBut fs nums blobs y z :=
  (sameBut_setTio n v h).iff_of_step

theorem sameBut_setLink (n : Nat) (v : Link) (h : Facet.links ∈ fs) : SameBut fs nums blobs y (y.setLink n v) :=
  .of_facets rfl rfl fun p hp => by cases p <;> first | rfl | exact absurd h hp
@[simp] theorem sameBut_setLink_iff (n : Nat) (v : Link) (h : Facet.links ∈ fs) : SameBut fs nums blobs y (z.setLink n v) ↔ SameBut fs nums blobs y z :=
  (sameBut_setLink n v h).iff_of_step

theorem sameBut_onTwin (f : Twin → Twin) (h : Facet.twin ∈ fs) : SameBut fs nums blobs y (y.onTwin f) :=
  .of_facets rfl rfl fun p hp => by cases p <;> first | rfl | exact absurd h hp
@[simp] theorem sameBut_onTwin_iff (f : Twin → Twin) (h : Facet.twin ∈ fs) : SameBut fs nums blobs y (z.onTwin f) ↔ SameBut fs nums blobs y z :=
  (sameBut_onTwin f h).iff_of_step

theorem sameBut_setMq (n : Nat) (v : Mq) (h : Facet.media ∈ fs) : SameBut fs nums blobs y (y.setMq n v) :=
  .of_facets rfl rfl fun p hp => by cases p <;> first | rfl | exact absurd h hp
@[simp] theorem sameBut_setMq_iff (n : Nat) (v : Mq) (h : Facet.media ∈ fs) : SameBut fs nums blobs y (z.setMq n v) ↔ SameBut fs nums blobs y z :=
  (sameBut_setMq n v h).iff_of_step

theorem sameBut_setVol (v : Volume) (h : Facet.media ∈ fs) : SameBut fs nums blobs y (y.setVol v) :=
  .of_facets rfl rfl fun p hp => by cases p <;> first | rfl | exact absurd h hp
@[simp] theorem sameBut_setVol_iff (v : Volume) (h : Facet.media ∈ fs) : SameBut fs nums blobs y (z.setVol v) ↔ SameBut fs nums blobs y z :=
  (sameBut_setVol v h).iff_of_step

theorem sameBut_setRec (n : Nat) (v : Recording) (h : Facet.media ∈ fs) : SameBut fs nums blobs y (y.setRec n v) :=
  .of_facets rfl rfl fun p hp => by cases p <;> first | rfl | exact absurd h hp
@[simp] theorem sameBut_setRec_iff (n : Nat) (v : Recording) (h : Facet.media ∈ fs) : SameBut fs nums blobs y (z.setRec n v) ↔ SameBut fs nums blobs y z :=
  (sameBut_setRec n v h).iff_of_step

theorem sameBut_setDec (n : Nat) (v : Dec) (h : Facet.decs ∈ fs) : SameBut fs nums blobs y (y.setDec n v) :=
  .of_facets rfl rfl fun p hp => by cases p <;> first | rfl | exact absurd h hp
@[simp] theorem sameBut_setDec_iff (n : Nat) (v : Dec) (h : Facet.decs ∈ fs) : SameBut fs nums blobs y (z.setDec n v) ↔ SameBut fs nums blobs y z :=
  (sameBut_setDec n v h).iff_of_step

theorem sameBut_setPos (n : Nat) (v : PosCh) (h : Facet.positions ∈ fs) : SameBut fs nums blobs y (y.setPos n v) :=
  .of_facets rfl rfl fun p hp => by cases p <;> first | rfl | exact absurd h hp
@[simp] theorem sameBut_setPos_iff (n : Nat) (v : PosCh) (h : Facet.positions ∈ fs) : SameBut fs nums blobs y (z.setPos n v) ↔ SameBut fs nums blobs y z :=
  (sameBut_setPos n v h).iff_of_step

theorem sameBut_onPower (f : Power → Power) (h : Facet.power ∈ fs) : SameBut fs nums blobs y (y.onPower f) :=
  .of_facets rfl rfl fun p hp => by cases p <;> first | rfl | exact absurd h hp
@[simp] theorem sameBut_onPower_iff (f : Power → Power) (h : Facet.power ∈ fs) : SameBut fs nums blobs y (z.onPower f) ↔ SameBut fs nums blobs y z :=
  (sameBut_onPower f h).iff_of_step

theorem sameBut_setChain (n : Nat) (v : Chain) (h : Facet.sec ∈ fs) : SameBut fs nums blobs y (y.setChain n v) :=
  .of_facets rfl rfl fun p hp => by cases p <;> first | rfl | exact absurd h hp
@[simp] theorem sameBut_setChain_iff (n : Nat) (v : Chain) (h : Facet.sec ∈ fs) : SameBut fs nums blobs y (z.setChain n v) ↔ SameBut fs nums blobs y z :=
  (sameBut_setChain n v h).iff_of_step

theorem sameBut_setPtp (n : Nat) (v : PtpPort) (h : Facet.ptp ∈ fs) : SameBut fs nums blobs y (y.setPtp n v) :=
  .of_facets rfl rfl fun p hp => by cases p <;> first | rfl | exact absurd h hp
@[simp] theorem sameBut_setPtp_iff (n : Nat) (v : PtpPort) (h : Facet.ptp ∈ fs) : SameBut fs nums blobs y (z.setPtp n v) ↔ SameBut fs nums blobs y z :=
  (sameBut_setPtp n v h).iff_of_step

theorem sameBut_setChannel (n : Nat) (v : Channel) (h : Facet.channels ∈ fs) : SameBut fs nums blobs y (y.setChannel n v) :=
  .of_facets rfl rfl fun p hp => by cases p <;> first | rfl | exact absurd h hp
@[simp] theorem sameBut_setChannel_iff (n : Nat) (v : Channel) (h : Facet.channels ∈ fs) : SameBut fs nums blobs y (z.setChannel n v) ↔ SameBut fs nums blobs y z :=
  (sameBut_setChannel n v h).iff_of_step

theorem sameBut_setSdi (n : Nat) (v : SdiIn) (h : Facet.sdis ∈ fs) : SameBut fs nums blobs y (y.setSdi n v) :=
  .of_facets rfl rfl fun p hp => by cases p <;> first | rfl | exact absurd h hp
@[simp] theorem sameBut_setSdi_iff (n : Nat) (v : SdiIn) (h : Facet.sdis ∈ fs) : SameBut fs nums blobs y (z.setSdi n v) ↔ SameBut fs nums blobs y z :=
  (sameBut_setSdi n v h).iff_of_step

theorem sameBut_setEdp (n : Nat) (v : EdpPort) (h : Facet.edps ∈ fs) : SameBut fs nums blobs y (y.setEdp n v) :=
  .of_facets rfl rfl fun p hp => by cases p <;> first | rfl | exact absurd h hp
@[simp] theorem sameBut_setEdp_iff (n : Nat) (v : EdpPort) (h : Facet.edps ∈ fs) : SameBut fs nums blobs y (z.setEdp n v) ↔ SameBut fs nums blobs y z :=
  (sameBut_setEdp n v h).iff_of_step

theorem sameBut_onSupply (f : Supply → Supply) (h : Facet.sup ∈ fs) : SameBut fs nums blobs y (y.onSupply f) :=
  .of_facets rfl rfl fun p hp => by cases p <;> first | rfl | exact absurd h hp
@[simp] theorem sameBut_onSupply_iff (f : Supply → Supply) (h : Facet.sup ∈ fs) : SameBut fs nums blobs y (z.onSupply f) ↔ SameBut fs nums blobs y z :=
  (sameBut_onSupply f h).iff_of_step

theorem sameBut_onThermal (f : Thermal → Thermal) (h : Facet.thermal ∈ fs) : SameBut fs nums blobs y (y.onThermal f) :=
  .of_facets rfl rfl fun p hp => by cases p <;> first | rfl | exact absurd h hp
@[simp] theorem sameBut_onThermal_iff (f : Thermal → Thermal) (h : Facet.thermal ∈ fs) : SameBut fs nums blobs y (z.onThermal f) ↔ SameBut fs nums blobs y z :=
  (sameBut_onThermal f h).iff_of_step

theorem sameBut_onTime (f : TimeBase → TimeBase) (h : Facet.time ∈ fs) : SameBut fs nums blobs y (y.onTime f) :=
  .of_facets rfl rfl fun p hp => by cases p <;> first | rfl | exact absurd h hp
@[simp] theorem sameBut_onTime_iff (f : TimeBase → TimeBase) (h : Facet.time ∈ fs) : SameBut fs nums blobs y (z.onTime f) ↔ SameBut fs nums blobs y z :=
  (sameBut_onTime f h).iff_of_step

/-! ## What a command leaves -/

/-- The frame of a command that changes the working state alone. -/
theorem leaves_of_sameBut {s : State} (h : SameBut fs nums blobs s.sys y) : Leaves fs nums blobs s { s with sys := y } := ⟨rfl, rfl, h⟩

end Sys2Proof.Machine
end

section
/-!
PROOFS. Shared operations: what sending on the links, the look decisions of started frames and a change of the skip count leave alone (R59 to R62, R428,
R680, R715).
-/

namespace Sys2Proof.Machine

variable {fs : List Facet} {nums blobs : Nat → Prop}

/-! ## CONTROL frames (R680, R715) -/

/-- A frame to another link than Felley's trims no backlog. -/
theorem Sys.control_garos (y : Sys) {k : Nat} (hk : k ≠ 4) (c : Ctl) (b : Bytes) :
    y.control k c b = (y.setLink k { y.link k with
      next := ((y.link k).next + 1) % 65536, unacked := (y.link k).unacked ++ [⟨(y.link k).next, c.num, b, 0⟩] }).send
        (.garos k 0 c.num (y.link k).next b) := by
  simp [Sys.control, hk]

theorem sameBut_control_garos (y : Sys) {k : Nat} (hk : k ≠ 4) (c : Ctl) (b : Bytes) (hl : .links ∈ fs) (ht : .tx ∈ fs) :
    SameBut fs nums blobs y (y.control k c b) := by
  rw [Sys.control_garos y hk]
  simp [hl, ht]

theorem sameBut_control (y : Sys) (k : Nat) (c : Ctl) (b : Bytes) (hl : .links ∈ fs) (ht : .tx ∈ fs) (hlog : .log ∈ fs) :
    SameBut fs nums blobs y (y.control k c b) := by
  unfold Sys.control
  extract_lets l all kept z w
  have hw : SameBut fs nums blobs y w := by
    unfold w
    split <;> simp [z, hl, hlog]
  split <;> simpa [ht] using hw

theorem sameBut_controlAll (y : Sys) (c : Ctl) (b : Bytes) (hl : .links ∈ fs) (ht : .tx ∈ fs) : SameBut fs nums blobs y (y.controlAll c b) := by
  refine SameBut.foldl _ _ (fun z k hk => ?_) y
  split
  · exact sameBut_control_garos z (by rintro rfl; simp at hk) c b hl ht
  · exact .refl z

theorem sameBut_controlTwin (y : Sys) (c : Ctl) (b : Bytes) (hl : .links ∈ fs) (ht : .tx ∈ fs) : SameBut fs nums blobs y (y.controlTwin c b) := by
  refine SameBut.foldl _ _ (fun z k hk => ?_) y
  split
  · exact sameBut_control_garos z (by rintro rfl; simp at hk) c b hl ht
  · exact .refl z

/-! ## Seams (R62, R428) -/

theorem sameBut_tellLook (y : Sys) (f : Frame) (d : Nat) (hl : .links ∈ fs) (ht : .tx ∈ fs) : SameBut fs nums blobs y (y.tellLook f d) := by
  unfold Sys.tellLook
  split
  · exact sameBut_controlAll y _ _ hl ht
  · exact .refl y

/-- What judging started frames again may change. -/
theorem sameBut_checkSeams (y : Sys) :
    SameBut [.frames, .ctxs, .log, .links, .tx] (only [ent 0x2201 8]) (only []) y y.checkSeams := by
  refine SameBut.foldl _ _ (fun z f _ => ?_) y
  unfold Sys.checkSeam
  split
  · refine SameBut.trans ?_ (sameBut_tellLook _ f 0 (by simp) (by simp))
    simp [Sys.seamFrame, Sys.reducedEvent]
  · exact .refl z

@[simp] theorem Sys.checkSeams_of_frames_nil {y : Sys} (h : y.frames = []) : y.checkSeams = y := by simp [Sys.checkSeams, h]

/-! ## The skip count (R59) -/

theorem sameBut_updateSkip (y : Sys) (h1 : nums (ent 0x2202 1)) (h2 : nums (ent 0x2202 2)) (h3 : nums (ent 0x2001 4)) :
    SameBut fs nums blobs y y.updateSkip := by simp [Sys.updateSkip, h1, h2, h3]

theorem Sys.rdBit_updateSkip_cap (y : Sys) : (y.updateSkip.rd (ent 0x2001 4)).testBit 2 = (y.sup.kCap != 0) := by
  simp [Sys.updateSkip]

theorem Sys.rdBit_updateSkip_flag (y : Sys) {i : Nat} (hi : i ≠ 2) : (y.updateSkip.rd (ent 0x2001 4)).testBit i = (y.rd (ent 0x2001 4)).testBit i := by
  simp [Sys.updateSkip, hi]

theorem Sys.skipChanged_of_frames_nil {y : Sys} (h : y.frames = []) : y.skipChanged = y.updateSkip := by
  have hu : y.updateSkip.frames = [] := by rw [← h]; rfl
  unfold Sys.skipChanged
  split
  · exact checkSeams_of_frames_nil hu
  · rfl

/-- Once a request has changed, the skip count and its sources follow, and only what started frames show may follow them. -/
theorem sameBut_skipChanged (y : Sys) :
    SameBut [.frames, .ctxs, .log, .links, .tx] (only [ent 0x2201 8]) (only []) y.updateSkip y.skipChanged := by
  unfold Sys.skipChanged
  split
  · exact sameBut_checkSeams _
  · exact .refl _

theorem Sys.rd_skipChanged (y : Sys) {k : Nat} (hk : k ≠ ent 0x2201 8) : y.skipChanged.rd k = y.updateSkip.rd k :=
  (sameBut_skipChanged y).2.1 k (by simpa using hk)

@[simp] theorem Sys.sup_skipChanged (y : Sys) : y.skipChanged.sup = y.sup := ((sameBut_skipChanged y).1 .sup (by decide)).symm

end Sys2Proof.Machine
end

section
/-!
PROOFS. The supply monitor (R97 to R105): what a VIN sample, the flags and the episodes of the supply leave in their entries.
-/

namespace Sys2Proof.Machine

variable {fs : List Facet} {nums blobs : Nat → Prop}

/-! ## A VIN sample (R98) -/

theorem sameBut_vinSeen (y : Sys) (v : Nat) (h7 : nums (ent 0x2001 7)) (h8 : nums (ent 0x2001 8)) : SameBut fs nums blobs y (y.vinSeen v) := by
  unfold Sys.vinSeen
  extract_lets z
  have hz : SameBut fs nums blobs y z := .ite (fun _ => sameBut_wr y _ _ h7) fun _ => .refl y
  simpa [h8] using hz

@[simp] theorem Sys.rd_vinSeen_highest (y : Sys) (v : Nat) : (y.vinSeen v).rd (ent 0x2001 8) = max v (y.rd (ent 0x2001 8)) := by
  unfold Sys.vinSeen
  split <;> simp

theorem Sys.rd_vinSeen (y : Sys) (v : Nat) {k : Nat} (hk : k ∉ [ent 0x2001 7, ent 0x2001 8]) : (y.vinSeen v).rd k = y.rd k :=
  (sameBut_vinSeen (fs := []) (nums := only [ent 0x2001 7, ent 0x2001 8]) (blobs := only []) y v (by simp) (by simp)).2.1 k hk

/-- The entries of a VIN sample. -/
def vinKeys : List Nat := [ent 0x2001 1, ent 0x2001 4, ent 0x2001 7, ent 0x2001 8]

@[simp] theorem sameBut_vinSeen_iff {y z : Sys} (v : Nat) (h7 : nums (ent 0x2001 7)) (h8 : nums (ent 0x2001 8)) :
    SameBut fs nums blobs y (z.vinSeen v) ↔ SameBut fs nums blobs y z := (sameBut_vinSeen z v h7 h8).iff_of_step

@[simp] theorem sameBut_vinSample_iff {y z : Sys} (v : Nat) (h1 : nums (ent 0x2001 1)) (h4 : nums (ent 0x2001 4)) (h7 : nums (ent 0x2001 7))
    (h8 : nums (ent 0x2001 8)) : SameBut fs nums blobs y (z.vinSample v) ↔ SameBut fs nums blobs y z := by
  simp [Sys.vinSample, Sys.supplyFlag, h1, h4, h7, h8]

theorem Sys.vinSample_frame (y : Sys) (v : Nat) : SameBut [] (only vinKeys) (only []) y (y.vinSample v) := by simp [vinKeys]

theorem Sys.rd_vinSample (y : Sys) (v : Nat) {k : Nat} (hk : k ∉ vinKeys) : (y.vinSample v).rd k = y.rd k := (y.vinSample_frame v).2.1 k hk

@[simp] theorem Sys.rd_vinSample_present (y : Sys) (v : Nat) : (y.vinSample v).rd (ent 0x2001 1) = v := by
  simp [Sys.vinSample, Sys.supplyFlag, Sys.rd_vinSeen]

/-- A sample moves no flag but OVERVOLTAGE. -/
theorem Sys.flags_vinSample (y : Sys) (v : Nat) :
    (y.vinSample v).rd (ent 0x2001 4) = putBit (y.rd (ent 0x2001 4)) 3 (decide (6000 < v)) := by
  simp [Sys.vinSample, Sys.supplyFlag, SupplyFlag.bit, Sys.rd_vinSeen]

@[simp] theorem Sys.vinSample_log (y : Sys) (v : Nat) : (y.vinSample v).log = y.log := ((y.vinSample_frame v).1 .log (by decide)).symm
@[simp] theorem Sys.vinSample_boot (y : Sys) (v : Nat) : (y.vinSample v).boot = y.boot := ((y.vinSample_frame v).1 .boot (by decide)).symm
@[simp] theorem Sys.vinSample_sup (y : Sys) (v : Nat) : (y.vinSample v).sup = y.sup := ((y.vinSample_frame v).1 .sup (by decide)).symm
@[simp] theorem Sys.vinSample_gov (y : Sys) (v : Nat) : (y.vinSample v).gov = y.gov := ((y.vinSample_frame v).1 .gov (by decide)).symm
@[simp] theorem Sys.vinSample_frames (y : Sys) (v : Nat) : (y.vinSample v).frames = y.frames := ((y.vinSample_frame v).1 .frames (by decide)).symm
@[simp] theorem Sys.vinSample_up (y : Sys) (v : Nat) : (y.vinSample v).up = y.up := ((y.vinSample_frame v).1 .up (by decide)).symm
@[simp] theorem Sys.vinSample_t96 (y : Sys) (v : Nat) : (y.vinSample v).t96 = y.t96 := ((y.vinSample_frame v).1 .t96 (by decide)).symm

/-! ## Low input (R99, R102, R103) -/

theorem lowInputEnter_sets_flag (s : State) (vin : BitVec 16) (hflag : s.sys.rdBit (ent 0x2001 4) 0 = false) (hroom : Room s) :
    Completes (.lowInputEnter vin) s fun t =>
      t.sys.rdBit (ent 0x2001 4) 0 = true ∧ t.sys.rd (ent 0x2001 1) = vin.toNat ∧ Logs s t 0x0101 255 (ev [(0, 2, vin.toNat)]) ∧
      Leaves [.sup, .log] (only [ent 0x2001 1, ent 0x2001 4, ent 0x2001 7, ent 0x2001 8]) (only []) s t := by
  refine ⟨_, rfl, ?_⟩
  have hclear : (s.sys.vinSample vin.toNat).supplyHas .lowInput = false := by
    simpa [Sys.supplyHas, SupplyFlag.bit, Sys.flags_vinSample, -Nat.testBit_zero] using hflag
  simp only [hclear, Bool.false_eq_true, if_false]
  refine ⟨by simp [Sys.supplyFlag, SupplyFlag.bit, -Nat.testBit_zero], by simp [Sys.supplyFlag], ?_, leaves_of_sameBut ?_⟩
  · refine (Sys.log_raise _ _ _ _ (by simpa [Room, Sys.supplyFlag] using hroom)).trans ?_
    simp [Sys.supplyFlag]
  · simp [Sys.supplyFlag]

theorem lowInputLeave_clears_flag (s : State) (vin : BitVec 16) (hflag : s.sys.rdBit (ent 0x2001 4) 0 = true) :
    Completes (.lowInputLeave vin) s fun t =>
      t.sys.rdBit (ent 0x2001 4) 0 = false ∧ t.sys.rdBit (ent 0x2001 4) 2 = false ∧ t.sys.sup.kCap = 0 ∧
      t.sys.rd (ent 0x2202 1) = max (s.sys.rd (ent 0x2101 5)) s.sys.sup.kPwr ∧ t.otp = s.otp ∧ t.pending = s.pending ∧
      (s.sys.frames = [] → Leaves [.sup] (only [ent 0x2001 1, ent 0x2001 4, ent 0x2001 7, ent 0x2001 8, ent 0x2202 1, ent 0x2202 2]) (only []) s t) := by
  refine ⟨_, rfl, ?_⟩
  have hset : (s.sys.vinSample vin.toNat).supplyHas .lowInput = true := by
    simpa [Sys.supplyHas, SupplyFlag.bit, Sys.flags_vinSample, -Nat.testBit_zero] using hflag
  simp only [hset, Bool.not_true, Bool.false_eq_true, if_false]
  refine ⟨?_, ?_, by simp, ?_, rfl, trivial, fun hf => leaves_of_sameBut ?_⟩
  · rw [Sys.rdBit_eq, Sys.rd_skipChanged _ (by decide), Sys.rdBit_updateSkip_flag _ (by decide)]
    simp [Sys.supplyFlag, SupplyFlag.bit, -Nat.testBit_zero]
  · rw [Sys.rdBit_eq, Sys.rd_skipChanged _ (by decide), Sys.rdBit_updateSkip_cap]
    simp
  · rw [Sys.rd_skipChanged _ (by decide), Sys.rd_updateSkip_count]
    simp [Sys.supplyFlag, Sys.rd_vinSample, vinKeys]
  · rw [Sys.skipChanged_of_frames_nil (by simpa [Sys.supplyFlag] using hf)]
    refine SameBut.trans ?_ (sameBut_updateSkip _ (by simp) (by simp) (by simp))
    simp [Sys.supplyFlag]

/-! ## Overvoltage (R98) -/

theorem overvoltageEpisodeStart_opens_episode (s : State) (vin : BitVec 16) (h : 6000 < vin.toNat) :
    Completes (.overvoltageEpisodeStart vin) s fun t =>
      t.sys.rdBit (ent 0x2001 4) 3 = true ∧ t.sys.sup.ovMax = max s.sys.sup.ovMax vin.toNat ∧ t.sys.rd (ent 0x2001 1) = vin.toNat ∧
      Leaves [.sup] (only [ent 0x2001 1, ent 0x2001 4, ent 0x2001 7, ent 0x2001 8]) (only []) s t := by
  refine ⟨_, rfl, ?_⟩
  simp only [h, if_true]
  refine ⟨by simp [Sys.flags_vinSample, h], by simp, by simp, leaves_of_sameBut (by simp)⟩

theorem overvoltageEpisodeEnd_logs_highest (s : State) (highest above : BitVec 16) (h : s.sys.sup.ovMax ≠ 0) (hroom : Room s) :
    Completes (.overvoltageEpisodeEnd highest above) s fun t =>
      t.sys.sup = { s.sys.sup with ovMax := 0 } ∧ t.sys.rdBit (ent 0x2001 4) 3 = false ∧
      Logs s t 0x0105 255 (ev [(0, 2, max highest.toNat s.sys.sup.ovMax), (2, 2, above.toNat), (4, 1, 0)]) ∧
      t.sys.rd (ent 0x2001 8) = max (max highest.toNat s.sys.sup.ovMax) (s.sys.rd (ent 0x2001 8)) ∧
      Leaves [.sup, .log] (only [ent 0x2001 4, ent 0x2001 7, ent 0x2001 8]) (only []) s t := by
  refine ⟨_, rfl, ?_⟩
  simp only [Sys.overvoltageEnd, h, if_false, if_true]
  have hseen (y : Sys) (v : Nat) : SameBut [] (only [ent 0x2001 7, ent 0x2001 8]) (only []) y (y.vinSeen v) := sameBut_vinSeen y v (by simp) (by simp)
  have hlog (y : Sys) (v : Nat) : (y.vinSeen v).log = y.log := ((hseen y v).1 .log (by decide)).symm
  have ht (y : Sys) (v : Nat) : (y.vinSeen v).t96 = y.t96 := ((hseen y v).1 .t96 (by decide)).symm
  have hsup (y : Sys) (v : Nat) : (y.vinSeen v).sup = y.sup := ((hseen y v).1 .sup (by decide)).symm
  refine ⟨by simp [Sys.supplyFlag, hsup], by simp [Sys.supplyFlag, SupplyFlag.bit], ?_, by simp [Sys.supplyFlag], leaves_of_sameBut ?_⟩
  · refine (Sys.log_raise _ _ _ _ (by simpa [Room, Sys.supplyFlag, hlog] using hroom)).trans ?_
    simp [Sys.supplyFlag, hlog, ht]
  · refine SameBut.trans (b := s.sys.onSupply fun u => { u with ovMax := 0 }) (by simp) ?_
    refine (sameBut_vinSeen _ (max highest.toNat s.sys.sup.ovMax) (by simp) (by simp)).trans ?_
    simp [Sys.supplyFlag]

theorem vinSample_shows_overvoltage (y : Sys) (v : Nat) :
    (y.vinSample v).rdBit (ent 0x2001 4) 3 = decide (6000 < v) ∧ (y.vinSample v).rd (ent 0x2001 1) = v ∧
    SameBut [] (only [ent 0x2001 1, ent 0x2001 4, ent 0x2001 7, ent 0x2001 8]) (only []) y (y.vinSample v) :=
  ⟨by simp [Sys.flags_vinSample], by simp, by simp⟩

/-! ## The current limit (R97) -/

theorem sameBut_gov (y : Sys) (g : Gov) (h : .gov ∈ fs) : SameBut fs nums blobs y { y with gov := g } :=
  .of_facets rfl rfl fun p hp => by cases p <;> first | rfl | exact absurd h hp

theorem currentLimitEngage_holds_rails (s : State) (vin : BitVec 16) (h : s.sys.gov.limited = false) :
    Completes (.currentLimitEngage vin) s fun t =>
      t.sys.gov = { s.sys.gov with limited := true } ∧ t.sys.rdBit (ent 0x2001 4) 4 = true ∧
      t.sys.rd (ent 0x2001 0x0A) = (s.sys.rd (ent 0x2001 0x0A) + 1) % 2 ^ 32 ∧
      Leaves [.gov] (only [ent 0x2001 1, ent 0x2001 4, ent 0x2001 7, ent 0x2001 8, ent 0x2001 0x0A]) (only []) s t := by
  refine ⟨_, rfl, ?_⟩
  simp only [Sys.vinSample_gov, h, Bool.false_eq_true, if_false]
  let z := (s.sys.vinSample vin.toNat).supplyFlag .hwLimit true
  let w : Sys := { z with gov := { s.sys.gov with limited := true } }
  have hrd (k : Nat) : w.rd k = z.rd k := rfl
  have hframe : SameBut [.gov] (only [ent 0x2001 1, ent 0x2001 4, ent 0x2001 7, ent 0x2001 8, ent 0x2001 0x0A]) (only []) s.sys w :=
    SameBut.trans (b := z) (by simp [z, Sys.supplyFlag]) (sameBut_gov z _ (by simp))
  refine ⟨rfl, ?_, ?_, leaves_of_sameBut ?_⟩
  · change (w.inc _).rdBit _ _ = _
    simp [hrd, z, Sys.supplyFlag, SupplyFlag.bit]
  · change (w.inc _).rd _ = _
    simp [hrd, z, Sys.supplyFlag, Sys.rd_vinSample, vinKeys]
  · change SameBut _ _ _ _ (w.inc _)
    simpa using hframe

theorem currentLimitRelease_hands_rails_back (s : State) (vin coreT coreS : BitVec 16) (h : s.sys.gov.limited = true) (hroom : Room s) :
    Completes (.currentLimitRelease vin coreT coreS) s fun t =>
      let v := max 5000 (min coreT.toNat (s.sys.rd (ent 0x2201 1)))
      let w := max 5000 (min coreS.toNat (s.sys.rd (ent 0x2201 2)))
      t.sys.gov = { s.sys.gov with limited := false } ∧ t.sys.rd (ent 0x2201 1) = v / 25 * 25 ∧
      t.sys.rd (ent 0x2201 2) = w / 25 * 25 ∧ t.sys.rdBit (ent 0x2001 4) 4 = false ∧ Logs s t 0x0104 255 (ev [(0, 2, vin.toNat), (2, 2, v), (4, 2, w)]) ∧
      Leaves [.gov, .log] (only [ent 0x2001 1, ent 0x2001 4, ent 0x2001 7, ent 0x2001 8, ent 0x2201 1, ent 0x2201 2]) (only []) s t := by
  refine ⟨_, rfl, ?_⟩
  simp only [Sys.vinSample_gov, h, Bool.not_true, Bool.false_eq_true, if_false]
  let z := (s.sys.vinSample vin.toNat).supplyFlag .hwLimit false
  let w : Sys := { z with gov := { s.sys.gov with limited := false } }
  have hrd (k : Nat) : w.rd k = z.rd k := rfl
  have hlog : w.log = s.sys.log := by simp [w, z, Sys.supplyFlag]
  have ht : w.t96 = s.sys.t96 := by simp [w, z, Sys.supplyFlag]
  have hframe : SameBut [.gov, .log] (only [ent 0x2001 1, ent 0x2001 4, ent 0x2001 7, ent 0x2001 8, ent 0x2201 1, ent 0x2201 2]) (only []) s.sys w :=
    SameBut.trans (b := z) (by simp [z, Sys.supplyFlag]) (sameBut_gov z _ (by simp))
  have hrail (r : RailName) : (s.sys.vinSample vin.toNat).rd (railKey r) = s.sys.rd (railKey r) := Sys.rd_vinSample _ _ (by cases r <;> decide)
  simp only [hrail]
  change _ ∧ Sys.rd (Sys.raise ((w.railTo .t _).railTo .s _) _ _ _) _ = _ ∧ Sys.rd (Sys.raise ((w.railTo .t _).railTo .s _) _ _ _) _ = _ ∧
    Sys.rdBit (Sys.raise ((w.railTo .t _).railTo .s _) _ _ _) _ _ = _ ∧ _ ∧ Leaves _ _ _ _ { s with sys := Sys.raise ((w.railTo .t _).railTo .s _) _ _ _ }
  refine ⟨by simp [Sys.railTo], by simp [Sys.railTo, railKey, RailName.code], by simp [Sys.railTo, railKey, RailName.code], ?_, ?_, leaves_of_sameBut ?_⟩
  · simp [Sys.railTo, railKey, RailName.code, hrd, z, Sys.supplyFlag, SupplyFlag.bit]
  · refine (Sys.log_raise ((w.railTo .t _).railTo .s _) _ _ _ (by simpa [Room, Sys.railTo, hlog] using hroom)).trans ?_
    simp [Sys.railTo, hlog, ht, railKey, RailName.code]
  · simpa [Sys.railTo, railKey, RailName.code] using hframe

/-! ## The input switch, hold-up and the rails (R98, R111, R118) -/

theorem inputSwitchClose_closes (s : State) : Completes .inputSwitchClose s fun t =>
    t.sys.sup = { s.sys.sup with inputOpen := false } ∧ Leaves [.sup] (only []) (only []) s t :=
  ⟨_, rfl, rfl, leaves_of_sameBut (by simp only [sameBut_onSupply_iff, List.mem_singleton, sameBut_self])⟩

theorem holdUpEnd_ends_aon (s : State) (hhold : s.sys.sup.holdUp = true) (hphase : s.sys.boot.phase = .supplyReset) :
    Completes .holdUpEnd s fun t =>
      t.sys.sup = { s.sys.sup with holdUp := false, aon := false } ∧ t.sys.boot = { s.sys.boot with phase := .off } ∧
      Leaves [.sup, .boot] (only []) (only []) s t := by
  refine ⟨_, rfl, ?_⟩
  simp only [hhold, hphase, Bool.not_true, bne_self_eq_false, Bool.or_self, Bool.false_eq_true, if_false]
  refine ⟨trivial, trivial, leaves_of_sameBut (.of_facets rfl rfl fun p hp => ?_)⟩
  cases p with
  | sup | boot => simp at hp
  | _ => rfl

theorem railOutOfRegulation_lowers_pwrGood (s : State) : Completes .railOutOfRegulation s fun t =>
    t.sys.boot = { s.sys.boot with pwrGood := false } ∧ Leaves [.boot] (only []) (only []) s t := by
  refine ⟨_, rfl, rfl, leaves_of_sameBut (.of_facets rfl rfl fun p hp => ?_)⟩
  cases p with
  | boot => simp at hp
  | _ => rfl

/-- Settles O11: each command's branch is taken, and its updates name what they change. -/
theorem supplyEpisodesFlagLogAndHandBack : Obligations.SupplyEpisodesFlagLogAndHandBack := by
  unfold Obligations.SupplyEpisodesFlagLogAndHandBack
  exact ⟨⟨lowInputEnter_sets_flag, lowInputLeave_clears_flag, overvoltageEpisodeStart_opens_episode, overvoltageEpisodeEnd_logs_highest,
    vinSample_shows_overvoltage⟩, currentLimitEngage_holds_rails, currentLimitRelease_hands_rails_back, inputSwitchClose_closes, holdUpEnd_ends_aon,
    railOutOfRegulation_lowers_pwrGood⟩

end Sys2Proof.Machine
end

section
/-!
PROOFS. The supply cap and the power manager: how their requests move with the readings, and that the skip count follows (R59, R102, R103, R760).
-/

namespace Sys2Proof.Machine

/-! ## The log after an event -/

/-- The records that wait after an event, whether or not there was room (R753). -/
theorem Sys.pending_raise (y : Sys) (code source : Nat) (data : Bytes) : (y.raise code source data).log.pending =
    if y.log.pending.length < 256 then y.log.pending ++ [⟨y.t96, code, severity code, source, data⟩] else y.log.pending := by
  simp only [Sys.raise, Sys.raiseSev]
  split <;> rfl

/-! ## The skip count after a request has moved -/

/-- With no frame in flight, a change of the skip count changes its own entries and the flag of the supply cap alone. -/
theorem sameBut_skipChanged_of_frames_nil {fs : List Facet} {nums blobs : Nat → Prop} {y z : Sys} (hf : z.frames = []) (h1 : nums (ent 0x2202 1))
    (h2 : nums (ent 0x2202 2)) (h3 : nums (ent 0x2001 4)) : SameBut fs nums blobs y z.skipChanged ↔ SameBut fs nums blobs y z := by
  rw [Sys.skipChanged_of_frames_nil hf]
  exact (sameBut_updateSkip z h1 h2 h3).iff_of_step

/-- The entries of the supply's measurements stay when the skip count changes. -/
theorem Sys.rd_skipChanged_measured (y : Sys) {i : Nat} (hi : i ∈ [1, 2, 3]) : y.skipChanged.rd (ent 0x2001 i) = y.rd (ent 0x2001 i) := by
  fin_cases hi <;> simp [Sys.rd_skipChanged, Sys.updateSkip]

theorem Sys.log_skipChanged_of_frames_nil {y : Sys} (hf : y.frames = []) : y.skipChanged.log = y.log := by
  rw [Sys.skipChanged_of_frames_nil hf]
  rfl

/-! ## The supply cap (R102, R103) -/

/-- The working state once VIN, current and power of a tick are shown. -/
def Sys.supplyShown (y : Sys) (vin current : Nat) : Sys :=
  ((y.vinSample vin).wr (ent 0x2001 2) current).wr (ent 0x2001 3) (min 65535 (vin * current / 1000))

section
variable (y : Sys) (vin current : Nat)

@[simp] theorem Sys.supplyShown_sup : (y.supplyShown vin current).sup = y.sup := by simp [supplyShown]
@[simp] theorem Sys.supplyShown_log : (y.supplyShown vin current).log = y.log := by simp [supplyShown]
@[simp] theorem Sys.supplyShown_t96 : (y.supplyShown vin current).t96 = y.t96 := by simp [supplyShown]
@[simp] theorem Sys.supplyShown_frames : (y.supplyShown vin current).frames = y.frames := by simp [supplyShown]

theorem Sys.rd_supplyShown : (y.supplyShown vin current).rd (ent 0x2001 1) = vin ∧ (y.supplyShown vin current).rd (ent 0x2001 2) = current ∧
    (y.supplyShown vin current).rd (ent 0x2001 3) = min 65535 (vin * current / 1000) := by
  simp [supplyShown]

theorem Sys.rd_supplyShown_thermalRequest : (y.supplyShown vin current).rd (ent 0x2101 5) = y.rd (ent 0x2101 5) := by
  simp [supplyShown, Sys.rd_vinSample, vinKeys]

/-- The entries that a tick of the supply cap may change. -/
def capKeys : List Nat :=
  [ent 0x2001 1, ent 0x2001 2, ent 0x2001 3, ent 0x2001 4, ent 0x2001 7, ent 0x2001 8, ent 0x2202 1, ent 0x2202 2]

theorem sameBut_supplyShown (fs : List Facet) : SameBut fs (only capKeys) (only []) y (y.supplyShown vin current) := by
  simp [Sys.supplyShown, capKeys]

end

/-- The first rise of an episode from request `k` is told (R103). -/
def Sys.capTell (y : Sys) (k : Nat) : Sys :=
  if k = 0 ∧ !y.sup.capTold then (y.onSupply fun u => { u with capTold := true }).raise 0x0106 255 (ev [(0, 2, y.rd (ent 0x2001 1)), (2, 1, 1)])
  else y

/-- The branch of SUPPLY_CAP_TICK in low-input operation. -/
def Sys.capTick (y : Sys) (current : Nat) : Sys :=
  if 3100 < current then
    Sys.capTell (if y.sup.kCap = 12 then y.onSupply fun u => { u with capAge := y.sup.capAge + 1 }
      else Sys.skipChanged (y.onSupply fun u => { u with kCap := y.sup.kCap + 1, capAge := 0 })) y.sup.kCap
  else if current < 2900 ∧ 10 ≤ y.sup.capAge + 1 ∧ 0 < y.sup.kCap then
    Sys.skipChanged (y.onSupply fun u => { u with kCap := y.sup.kCap - 1, capAge := 0 })
  else y.onSupply fun u => { u with capAge := y.sup.capAge + 1 }

@[simp] theorem Sys.rd_capTell (y : Sys) (n k : Nat) : (y.capTell n).rd k = y.rd k := by unfold capTell; split <;> simp
@[simp] theorem Sys.kCap_capTell (y : Sys) (n : Nat) : (y.capTell n).sup.kCap = y.sup.kCap := by unfold capTell; split <;> simp
@[simp] theorem sameBut_capTell_iff {fs : List Facet} {nums blobs : Nat → Prop} {y z : Sys} (n : Nat) (h : .sup ∈ fs) (hl : .log ∈ fs) :
    SameBut fs nums blobs y (z.capTell n) ↔ SameBut fs nums blobs y z := by unfold Sys.capTell; split <;> simp [h, hl]

theorem Sys.log_capTell (y : Sys) (n : Nat) (hroom : y.log.pending.length < 256) :
    if n = 0 ∧ y.sup.capTold = false then
      (y.capTell n).log.pending = y.log.pending ++ [⟨y.t96, 0x0106, severity 0x0106, 255, ev [(0, 2, y.rd (ent 0x2001 1)), (2, 1, 1)]⟩]
    else (y.capTell n).log = y.log := by
  by_cases h : n = 0 ∧ y.sup.capTold = false
  · simp [capTell, h, Sys.pending_raise, hroom]
  · simp [capTell, h]

theorem exec_supplyCapTick_lowInput {s : State} {vin current : BitVec 16} (h : s.sys.rdBit (ent 0x2001 4) 0 = true) :
    exec (.supplyCapTick vin current) s = .next { s with sys := (s.sys.supplyShown vin.toNat current.toNat).capTick current.toNat } := by
  have hset : (s.sys.supplyShown vin.toNat current.toNat).supplyHas .lowInput = true := by
    simpa [Sys.supplyHas, SupplyFlag.bit, Sys.supplyShown, Sys.flags_vinSample, -Nat.testBit_zero] using h
  simp only [Sys.supplyShown] at hset
  simp [execSupplyCapTick, hset, Sys.capTick, Sys.capTell, Sys.supplyShown]

/-- The request that a tick of the supply cap leaves. -/
def Sys.capRequest (y : Sys) (current : Nat) : Nat :=
  if 3100 < current then min 12 (y.sup.kCap + 1)
  else if current < 2900 ∧ 10 ≤ y.sup.capAge + 1 then y.sup.kCap - 1 else y.sup.kCap

section
variable {y : Sys} {current : Nat}

theorem Sys.kCap_capTick (hcap : y.sup.kCap ≤ 12) : (y.capTick current).sup.kCap = y.capRequest current := by
  unfold capTick capRequest
  split
  · rw [kCap_capTell]
    split
    · next h => simp [h]
    · simp; omega
  · split
    · next h => simp [h]
    · next h =>
      simp only [onSupply_sup]
      split
      · omega
      · rfl

theorem Sys.rd_measured_capTick {i : Nat} (hi : i ∈ [1, 2, 3]) : (y.capTick current).rd (ent 0x2001 i) = y.rd (ent 0x2001 i) := by
  unfold capTick
  split
  · rw [rd_capTell]
    split <;> simp [rd_skipChanged_measured _ hi]
  · split <;> simp [rd_skipChanged_measured _ hi]

/-- Where the request has moved, the skip count is the largest of the three (R59). -/
theorem Sys.skip_capTick (hcap : y.sup.kCap ≤ 12) (hmoved : y.capRequest current ≠ y.sup.kCap) :
    (y.capTick current).rd (ent 0x2202 1) = max (y.rd (ent 0x2101 5)) (max (y.capRequest current) y.sup.kPwr) := by
  have hrd (z : Sys) : z.skipChanged.rd (ent 0x2202 1) = max (z.rd (ent 0x2101 5)) (max z.sup.kCap z.sup.kPwr) := by
    rw [Sys.rd_skipChanged _ (by decide), Sys.rd_updateSkip_count]
  unfold capRequest at hmoved ⊢
  unfold capTick
  split
  · next hover =>
    simp only [hover, if_true] at hmoved
    have hlow : y.sup.kCap ≠ 12 := by omega
    rw [Nat.min_eq_right (by omega)]
    simp [hlow, hrd]
  · next hover =>
    simp only [hover, if_false] at hmoved
    split at hmoved
    · next h =>
      simp only [h, show 0 < y.sup.kCap by omega, true_and, if_true]
      simp [hrd]
    · simp at hmoved

variable (hframes : y.frames = [])
include hframes

theorem Sys.sameBut_capTick : SameBut [.sup, .log] (only [ent 0x2001 4, ent 0x2202 1, ent 0x2202 2]) (only []) y (y.capTick current) := by
  have hmoved (f : Supply → Supply) : SameBut [.sup, .log] (only [ent 0x2001 4, ent 0x2202 1, ent 0x2202 2]) (only []) y (y.onSupply f).skipChanged := by
    refine (sameBut_skipChanged_of_frames_nil (z := y.onSupply f) hframes ?_ ?_ ?_).2 ?_ <;> simp
  unfold capTick
  split
  · split <;> simp [hmoved]
  · split <;> simp [hmoved]

theorem Sys.log_capTick (hroom : y.log.pending.length < 256) :
    if 3100 < current ∧ y.sup.kCap = 0 ∧ y.sup.capTold = false then
      (y.capTick current).log.pending = y.log.pending ++ [⟨y.t96, 0x0106, severity 0x0106, 255, ev [(0, 2, y.rd (ent 0x2001 1)), (2, 1, 1)]⟩]
    else (y.capTick current).log = y.log := by
  have hlog (f : Supply → Supply) : (y.onSupply f).skipChanged.log = y.log := log_skipChanged_of_frames_nil hframes
  have ht (f : Supply → Supply) : (y.onSupply f).skipChanged.t96 = y.t96 := ((sameBut_skipChanged _).1 .t96 (by decide)).symm
  have hvin (f : Supply → Supply) : (y.onSupply f).skipChanged.rd (ent 0x2001 1) = y.rd (ent 0x2001 1) := rd_skipChanged_measured _ (by decide)
  by_cases hover : 3100 < current
  · simp only [hover, true_and, capTick, if_true]
    by_cases htop : y.sup.kCap = 12
    · rw [if_pos htop]
      exact log_capTell (y.onSupply fun u => { u with capAge := y.sup.capAge + 1 }) y.sup.kCap hroom
    · rw [if_neg htop]
      have htell := log_capTell (y.onSupply fun u => { u with kCap := y.sup.kCap + 1, capAge := 0 }).skipChanged y.sup.kCap (by rwa [hlog])
      rwa [hlog, ht, hvin, Sys.sup_skipChanged] at htell
  · simp only [hover, false_and, capTick, if_false]
    split <;> simp [hlog]

end

theorem supplyCapTick_moves_request (s : State) (vin current : BitVec 16) (hflag : s.sys.rdBit (ent 0x2001 4) 0 = true) (hroom : Room s)
    (hcap : s.sys.sup.kCap ≤ 12) :
    Completes (.supplyCapTick vin current) s fun t =>
      let k := if 3100 < current.toNat then min 12 (s.sys.sup.kCap + 1)
        else if current.toNat < 2900 ∧ 10 ≤ s.sys.sup.capAge + 1 then s.sys.sup.kCap - 1 else s.sys.sup.kCap
      t.sys.sup.kCap = k ∧ t.sys.rd (ent 0x2001 1) = vin.toNat ∧ t.sys.rd (ent 0x2001 2) = current.toNat ∧
      t.sys.rd (ent 0x2001 3) = min 65535 (vin.toNat * current.toNat / 1000) ∧
      (k ≠ s.sys.sup.kCap → t.sys.rd (ent 0x2202 1) = max (s.sys.rd (ent 0x2101 5)) (max k s.sys.sup.kPwr)) ∧
      (s.sys.frames = [] → (if 3100 < current.toNat ∧ s.sys.sup.kCap = 0 ∧ s.sys.sup.capTold = false then
        Logs s t 0x0106 255 (ev [(0, 2, vin.toNat), (2, 1, 1)]) else t.sys.log = s.sys.log) ∧
        Leaves [.sup, .log] (only [ent 0x2001 1, ent 0x2001 2, ent 0x2001 3, ent 0x2001 4, ent 0x2001 7, ent 0x2001 8, ent 0x2202 1, ent 0x2202 2])
          (only []) s t) := by
  refine ⟨_, exec_supplyCapTick_lowInput hflag, ?_⟩
  obtain ⟨hvin, hcurrent, hpower⟩ := Sys.rd_supplyShown s.sys vin.toNat current.toNat
  have hk : (s.sys.supplyShown vin.toNat current.toNat).capRequest current.toNat = s.sys.capRequest current.toNat := by simp [Sys.capRequest]
  have hsup := Sys.supplyShown_sup s.sys vin.toNat current.toNat
  have hcap' : (s.sys.supplyShown vin.toNat current.toNat).sup.kCap ≤ 12 := by rwa [hsup]
  refine ⟨(Sys.kCap_capTick hcap').trans hk, (Sys.rd_measured_capTick (by decide)).trans hvin,
    (Sys.rd_measured_capTick (by decide)).trans hcurrent, (Sys.rd_measured_capTick (by decide)).trans hpower, fun hmoved => ?_,
    fun hframes => ⟨?_, leaves_of_sameBut ?_⟩⟩
  · rw [Sys.skip_capTick hcap' (by rw [hk, hsup]; exact hmoved), hk, hsup, Sys.rd_supplyShown_thermalRequest]
    rfl
  · have := Sys.log_capTick (y := s.sys.supplyShown vin.toNat current.toNat) (current := current.toNat) (by simpa using hframes) (by simpa [Room] using hroom)
    rw [hsup, hvin, Sys.supplyShown_log, Sys.supplyShown_t96] at this
    exact this
  · exact (sameBut_supplyShown s.sys _ _ _).trans ((Sys.sameBut_capTick (by simpa using hframes)).mono (fun _ h => h)
      (fun k hk => by revert k; simp [capKeys]) fun _ h => h)

/-! ## The power manager (R760) -/

theorem powerManagerTick_moves_request (s : State) (power : BitVec 16) :
    Completes (.powerManagerTick power) s fun t =>
      let limit := 10 * s.sys.rd (ent 0x2202 4)
      let up := decide (limit < power.toNat ∧ 10 ≤ s.sys.sup.pwrRaiseAge + 1)
      let down := decide (20 * power.toNat < 19 * limit ∧ 100 ≤ s.sys.sup.pwrChangeAge + 1)
      let k := if up then max s.sys.sup.kPwr (min 12 (s.sys.sup.kPwr + 1)) else if down then s.sys.sup.kPwr - 1 else s.sys.sup.kPwr
      t.sys.sup = { s.sys.sup with
        kPwr := k
        pwrRaiseAge := if up && k != s.sys.sup.kPwr then 0 else s.sys.sup.pwrRaiseAge + 1
        pwrChangeAge := if k != s.sys.sup.kPwr then 0 else s.sys.sup.pwrChangeAge + 1 } ∧
      (k ≠ s.sys.sup.kPwr → t.sys.rd (ent 0x2202 1) = max (s.sys.rd (ent 0x2101 5)) (max s.sys.sup.kCap k)) ∧ t.otp = s.otp ∧ t.pending = s.pending ∧
      (s.sys.frames = [] → Leaves [.sup] (only [ent 0x2202 1, ent 0x2202 2, ent 0x2001 4]) (only []) s t) := by
  have haged (u : Supply) : SameBut [.sup] (only [ent 0x2202 1, ent 0x2202 2, ent 0x2001 4]) (only []) s.sys { s.sys with sup := u } :=
    sameBut_onSupply (fun _ => u) (by simp)
  have hmoved (u : Supply) (hf : s.sys.frames = []) :
      SameBut [.sup] (only [ent 0x2202 1, ent 0x2202 2, ent 0x2001 4]) (only []) s.sys (Sys.skipChanged { s.sys with sup := u }) :=
    (sameBut_skipChanged_of_frames_nil (z := { s.sys with sup := u }) hf (List.mem_cons_self ..) (List.mem_cons_of_mem _ (List.mem_cons_self ..))
      (by decide)).2 (haged u)
  have hskip (u : Supply) : (Sys.skipChanged { s.sys with sup := u }).rd (ent 0x2202 1) = max (s.sys.rd (ent 0x2101 5)) (max u.kCap u.kPwr) := by
    rw [Sys.rd_skipChanged _ (by decide), Sys.rd_updateSkip_count]
    rfl
  refine ⟨_, rfl, ?_⟩
  dsimp only
  by_cases hup : 10 * s.sys.rd (ent 0x2202 4) < power.toNat ∧ 10 ≤ s.sys.sup.pwrRaiseAge + 1
  · simp only [hup, and_self, decide_true, if_true]
    by_cases htop : 12 ≤ s.sys.sup.kPwr
    · have hk : max s.sys.sup.kPwr (min 12 (s.sys.sup.kPwr + 1)) = s.sys.sup.kPwr := by omega
      simp only [htop, if_true, hk, bne_self_eq_false, Bool.and_false, Bool.false_eq_true, if_false]
      exact ⟨by trivial, fun h => absurd rfl h, by trivial, by trivial, fun _ => leaves_of_sameBut (haged _)⟩
    · have hk : max s.sys.sup.kPwr (min 12 (s.sys.sup.kPwr + 1)) = s.sys.sup.kPwr + 1 := by omega
      simp only [htop, if_false, hk, bne_iff_ne.2 (Nat.succ_ne_self s.sys.sup.kPwr), Bool.and_self, if_true]
      exact ⟨by simp only [Sys.sup_skipChanged], fun _ => hskip _, by trivial, by trivial, fun hf => leaves_of_sameBut (hmoved _ hf)⟩
  · simp only [hup, decide_false, Bool.false_eq_true, if_false, Bool.false_and]
    by_cases hdown : 20 * power.toNat < 19 * (10 * s.sys.rd (ent 0x2202 4)) ∧ 100 ≤ s.sys.sup.pwrChangeAge + 1
    · simp only [hdown, and_self, decide_true, if_true]
      by_cases hzero : s.sys.sup.kPwr = 0
      · simp only [hzero, if_true, Nat.zero_sub, bne_self_eq_false, Bool.false_eq_true, if_false]
        exact ⟨by trivial, fun h => absurd rfl h, by trivial, by trivial, fun _ => leaves_of_sameBut (haged _)⟩
      · have hk : (s.sys.sup.kPwr - 1 != s.sys.sup.kPwr) = true := bne_iff_ne.2 (by omega)
        simp only [hzero, if_false, hk, if_true]
        exact ⟨by simp only [Sys.sup_skipChanged], fun _ => hskip _, by trivial, by trivial, fun hf => leaves_of_sameBut (hmoved _ hf)⟩
    · simp only [hdown, decide_false, Bool.false_eq_true, if_false, bne_self_eq_false]
      exact ⟨by trivial, fun h => absurd rfl h, by trivial, by trivial, fun _ => leaves_of_sameBut (haged _)⟩

/-- Settles O12: each branch of a tick moves its request by one or leaves it, and the skip count follows a request that moved. -/
theorem powerRequestsFollowTheirReadings : Obligations.PowerRequestsFollowTheirReadings := by
  unfold Obligations.PowerRequestsFollowTheirReadings
  exact ⟨supplyCapTick_moves_request, powerManagerTick_moves_request⟩

end Sys2Proof.Machine
end

section
/-!
PROOFS. Shared operations: a record update of one facet of the working state leaves every entry and every other facet alone. `simp` needs these before it
enters the update (`↓`).
-/

namespace Sys2Proof.Machine

variable {fs : List Facet} {nums blobs : Nat → Prop} {y z : Sys}

theorem sameBut_withT96_iff (v : Nat) (h : Facet.t96 ∈ fs) : SameBut fs nums blobs y { z with t96 := v } ↔ SameBut fs nums blobs y z :=
  SameBut.iff_of_step (.of_facets rfl rfl fun p hp => by cases p with | t96 => exact absurd h hp | _ => rfl)

theorem sameBut_withUp_iff (v : Nat) (h : Facet.up ∈ fs) : SameBut fs nums blobs y { z with up := v } ↔ SameBut fs nums blobs y z :=
  SameBut.iff_of_step (.of_facets rfl rfl fun p hp => by cases p with | up => exact absurd h hp | _ => rfl)

theorem sameBut_withTx_iff (v : List Tx) (h : Facet.tx ∈ fs) : SameBut fs nums blobs y { z with tx := v } ↔ SameBut fs nums blobs y z :=
  SameBut.iff_of_step (.of_facets rfl rfl fun p hp => by cases p with | tx => exact absurd h hp | _ => rfl)

theorem sameBut_withLog_iff (v : EventLog) (h : Facet.log ∈ fs) : SameBut fs nums blobs y { z with log := v } ↔ SameBut fs nums blobs y z :=
  SameBut.iff_of_step (.of_facets rfl rfl fun p hp => by cases p with | log => exact absurd h hp | _ => rfl)

theorem rd_withBoot (v : Boot) (k : Nat) : Sys.rd { z with boot := v } k = z.rd k := rfl
theorem sameBut_withBoot_iff (v : Boot) (h : Facet.boot ∈ fs) : SameBut fs nums blobs y { z with boot := v } ↔ SameBut fs nums blobs y z :=
  SameBut.iff_of_step (.of_facets rfl rfl fun p hp => by cases p with | boot => exact absurd h hp | _ => rfl)

theorem sameBut_withSup_iff (v : Supply) (h : Facet.sup ∈ fs) : SameBut fs nums blobs y { z with sup := v } ↔ SameBut fs nums blobs y z :=
  SameBut.iff_of_step (.of_facets rfl rfl fun p hp => by cases p with | sup => exact absurd h hp | _ => rfl)

theorem sameBut_withGov_iff (v : Gov) (h : Facet.gov ∈ fs) : SameBut fs nums blobs y { z with gov := v } ↔ SameBut fs nums blobs y z :=
  SameBut.iff_of_step (.of_facets rfl rfl fun p hp => by cases p with | gov => exact absurd h hp | _ => rfl)

theorem sameBut_withDen_iff (v : Denval) (h : Facet.den ∈ fs) : SameBut fs nums blobs y { z with den := v } ↔ SameBut fs nums blobs y z :=
  SameBut.iff_of_step (.of_facets rfl rfl fun p hp => by cases p with | den => exact absurd h hp | _ => rfl)

theorem sameBut_withSec_iff (v : Security) (h : Facet.sec ∈ fs) : SameBut fs nums blobs y { z with sec := v } ↔ SameBut fs nums blobs y z :=
  SameBut.iff_of_step (.of_facets rfl rfl fun p hp => by cases p with | sec => exact absurd h hp | _ => rfl)

theorem sameBut_withMram_iff (v : Mram) (h : Facet.mram ∈ fs) : SameBut fs nums blobs y { z with mram := v } ↔ SameBut fs nums blobs y z :=
  SameBut.iff_of_step (.of_facets rfl rfl fun p hp => by cases p with | mram => exact absurd h hp | _ => rfl)

theorem sameBut_withFrames_iff (v : List Frame) (h : Facet.frames ∈ fs) : SameBut fs nums blobs y { z with frames := v } ↔ SameBut fs nums blobs y z :=
  SameBut.iff_of_step (.of_facets rfl rfl fun p hp => by cases p with | frames => exact absurd h hp | _ => rfl)

theorem sameBut_withCtxs_iff (v : List (Nat × Ctx)) (h : Facet.ctxs ∈ fs) : SameBut fs nums blobs y { z with ctxs := v } ↔ SameBut fs nums blobs y z :=
  SameBut.iff_of_step (.of_facets rfl rfl fun p hp => by cases p with | ctxs => exact absurd h hp | _ => rfl)

theorem sameBut_withIgs_iff (v : List (Nat × IngestGroup)) (h : Facet.igs ∈ fs) : SameBut fs nums blobs y { z with igs := v } ↔ SameBut fs nums blobs y z :=
  SameBut.iff_of_step (.of_facets rfl rfl fun p hp => by cases p with | igs => exact absurd h hp | _ => rfl)

theorem sameBut_withPorts_iff (v : List (Nat × SensorPort)) (h : Facet.ports ∈ fs) : SameBut fs nums blobs y { z with ports := v } ↔ SameBut fs nums blobs y z :=
  SameBut.iff_of_step (.of_facets rfl rfl fun p hp => by cases p with | ports => exact absurd h hp | _ => rfl)

theorem sameBut_withTroupes_iff (v : List (Nat × Troupe)) (h : Facet.troupes ∈ fs) : SameBut fs nums blobs y { z with troupes := v } ↔ SameBut fs nums blobs y z :=
  SameBut.iff_of_step (.of_facets rfl rfl fun p hp => by cases p with | troupes => exact absurd h hp | _ => rfl)

theorem sameBut_withRfes_iff (v : List (Nat × Rfe)) (h : Facet.rfes ∈ fs) : SameBut fs nums blobs y { z with rfes := v } ↔ SameBut fs nums blobs y z :=
  SameBut.iff_of_step (.of_facets rfl rfl fun p hp => by cases p with | rfes => exact absurd h hp | _ => rfl)

theorem sameBut_withStores_iff (v : List Store) (h : Facet.stores ∈ fs) : SameBut fs nums blobs y { z with stores := v } ↔ SameBut fs nums blobs y z :=
  SameBut.iff_of_step (.of_facets rfl rfl fun p hp => by cases p with | stores => exact absurd h hp | _ => rfl)

theorem sameBut_withHolds_iff (v : List (Nat × Nat × Nat × Nat)) (h : Facet.holds ∈ fs) : SameBut fs nums blobs y { z with holds := v } ↔ SameBut fs nums blobs y z :=
  SameBut.iff_of_step (.of_facets rfl rfl fun p hp => by cases p with | holds => exact absurd h hp | _ => rfl)

theorem sameBut_withEngines_iff (v : List (Nat × Engine)) (h : Facet.engines ∈ fs) : SameBut fs nums blobs y { z with engines := v } ↔ SameBut fs nums blobs y z :=
  SameBut.iff_of_step (.of_facets rfl rfl fun p hp => by cases p with | engines => exact absurd h hp | _ => rfl)

theorem sameBut_withResident_iff (v : List Resident) (h : Facet.resident ∈ fs) : SameBut fs nums blobs y { z with resident := v } ↔ SameBut fs nums blobs y z :=
  SameBut.iff_of_step (.of_facets rfl rfl fun p hp => by cases p with | resident => exact absurd h hp | _ => rfl)

theorem sameBut_withTables_iff (v : List (Nat × LibTable)) (h : Facet.tables ∈ fs) : SameBut fs nums blobs y { z with tables := v } ↔ SameBut fs nums blobs y z :=
  SameBut.iff_of_step (.of_facets rfl rfl fun p hp => by cases p with | tables => exact absurd h hp | _ => rfl)

theorem sameBut_withPages_iff (v : List PageTable) (h : Facet.pages ∈ fs) : SameBut fs nums blobs y { z with pages := v } ↔ SameBut fs nums blobs y z :=
  SameBut.iff_of_step (.of_facets rfl rfl fun p hp => by cases p with | pages => exact absurd h hp | _ => rfl)

theorem sameBut_withChannels_iff (v : List (Nat × Channel)) (h : Facet.channels ∈ fs) : SameBut fs nums blobs y { z with channels := v } ↔ SameBut fs nums blobs y z :=
  SameBut.iff_of_step (.of_facets rfl rfl fun p hp => by cases p with | channels => exact absurd h hp | _ => rfl)

theorem sameBut_withSdis_iff (v : List (Nat × SdiIn)) (h : Facet.sdis ∈ fs) : SameBut fs nums blobs y { z with sdis := v } ↔ SameBut fs nums blobs y z :=
  SameBut.iff_of_step (.of_facets rfl rfl fun p hp => by cases p with | sdis => exact absurd h hp | _ => rfl)

theorem sameBut_withEdps_iff (v : List (Nat × EdpPort)) (h : Facet.edps ∈ fs) : SameBut fs nums blobs y { z with edps := v } ↔ SameBut fs nums blobs y z :=
  SameBut.iff_of_step (.of_facets rfl rfl fun p hp => by cases p with | edps => exact absurd h hp | _ => rfl)

theorem sameBut_withPathsDown_iff (v : List (Nat × Nat)) (h : Facet.pathsDown ∈ fs) : SameBut fs nums blobs y { z with pathsDown := v } ↔ SameBut fs nums blobs y z :=
  SameBut.iff_of_step (.of_facets rfl rfl fun p hp => by cases p with | pathsDown => exact absurd h hp | _ => rfl)

theorem sameBut_withLinks_iff (v : List (Nat × Link)) (h : Facet.links ∈ fs) : SameBut fs nums blobs y { z with links := v } ↔ SameBut fs nums blobs y z :=
  SameBut.iff_of_step (.of_facets rfl rfl fun p hp => by cases p with | links => exact absurd h hp | _ => rfl)

theorem sameBut_withLanes_iff (v : List (Nat × Lane)) (h : Facet.lanes ∈ fs) : SameBut fs nums blobs y { z with lanes := v } ↔ SameBut fs nums blobs y z :=
  SameBut.iff_of_step (.of_facets rfl rfl fun p hp => by cases p with | lanes => exact absurd h hp | _ => rfl)

theorem sameBut_withMailboxes_iff (v : List (Nat × Mailbox)) (h : Facet.mailboxes ∈ fs) : SameBut fs nums blobs y { z with mailboxes := v } ↔ SameBut fs nums blobs y z :=
  SameBut.iff_of_step (.of_facets rfl rfl fun p hp => by cases p with | mailboxes => exact absurd h hp | _ => rfl)

theorem sameBut_withPower_iff (v : Power) (h : Facet.power ∈ fs) : SameBut fs nums blobs y { z with power := v } ↔ SameBut fs nums blobs y z :=
  SameBut.iff_of_step (.of_facets rfl rfl fun p hp => by cases p with | power => exact absurd h hp | _ => rfl)

theorem sameBut_withDram_iff (v : List (Nat × Byte)) (h : Facet.dram ∈ fs) : SameBut fs nums blobs y { z with dram := v } ↔ SameBut fs nums blobs y z :=
  SameBut.iff_of_step (.of_facets rfl rfl fun p hp => by cases p with | dram => exact absurd h hp | _ => rfl)

theorem sameBut_withMem_iff (v : DramMem) (h : Facet.mem ∈ fs) : SameBut fs nums blobs y { z with mem := v } ↔ SameBut fs nums blobs y z :=
  SameBut.iff_of_step (.of_facets rfl rfl fun p hp => by cases p with | mem => exact absurd h hp | _ => rfl)

theorem sameBut_withMedia_iff (v : Media) (h : Facet.media ∈ fs) : SameBut fs nums blobs y { z with media := v } ↔ SameBut fs nums blobs y z :=
  SameBut.iff_of_step (.of_facets rfl rfl fun p hp => by cases p with | media => exact absurd h hp | _ => rfl)

theorem sameBut_withRings_iff (v : List (Nat × Ring)) (h : Facet.rings ∈ fs) : SameBut fs nums blobs y { z with rings := v } ↔ SameBut fs nums blobs y z :=
  SameBut.iff_of_step (.of_facets rfl rfl fun p hp => by cases p with | rings => exact absurd h hp | _ => rfl)

theorem sameBut_withZcs_iff (v : List (Nat × Zc)) (h : Facet.zcs ∈ fs) : SameBut fs nums blobs y { z with zcs := v } ↔ SameBut fs nums blobs y z :=
  SameBut.iff_of_step (.of_facets rfl rfl fun p hp => by cases p with | zcs => exact absurd h hp | _ => rfl)

theorem sameBut_withPositions_iff (v : List (Nat × PosCh)) (h : Facet.positions ∈ fs) : SameBut fs nums blobs y { z with positions := v } ↔ SameBut fs nums blobs y z :=
  SameBut.iff_of_step (.of_facets rfl rfl fun p hp => by cases p with | positions => exact absurd h hp | _ => rfl)

theorem sameBut_withTime_iff (v : TimeBase) (h : Facet.time ∈ fs) : SameBut fs nums blobs y { z with time := v } ↔ SameBut fs nums blobs y z :=
  SameBut.iff_of_step (.of_facets rfl rfl fun p hp => by cases p with | time => exact absurd h hp | _ => rfl)

theorem sameBut_withPtp_iff (v : List (Nat × PtpPort)) (h : Facet.ptp ∈ fs) : SameBut fs nums blobs y { z with ptp := v } ↔ SameBut fs nums blobs y z :=
  SameBut.iff_of_step (.of_facets rfl rfl fun p hp => by cases p with | ptp => exact absurd h hp | _ => rfl)

theorem sameBut_withTios_iff (v : List (Nat × Tio)) (h : Facet.tios ∈ fs) : SameBut fs nums blobs y { z with tios := v } ↔ SameBut fs nums blobs y z :=
  SameBut.iff_of_step (.of_facets rfl rfl fun p hp => by cases p with | tios => exact absurd h hp | _ => rfl)

theorem sameBut_withTwin_iff (v : Twin) (h : Facet.twin ∈ fs) : SameBut fs nums blobs y { z with twin := v } ↔ SameBut fs nums blobs y z :=
  SameBut.iff_of_step (.of_facets rfl rfl fun p hp => by cases p with | twin => exact absurd h hp | _ => rfl)

theorem sameBut_withThermal_iff (v : Thermal) (h : Facet.thermal ∈ fs) : SameBut fs nums blobs y { z with thermal := v } ↔ SameBut fs nums blobs y z :=
  SameBut.iff_of_step (.of_facets rfl rfl fun p hp => by cases p with | thermal => exact absurd h hp | _ => rfl)

theorem sameBut_withLaunches_iff (v : List Launch) (h : Facet.launches ∈ fs) : SameBut fs nums blobs y { z with launches := v } ↔ SameBut fs nums blobs y z :=
  SameBut.iff_of_step (.of_facets rfl rfl fun p hp => by cases p with | launches => exact absurd h hp | _ => rfl)

theorem sameBut_withAudioIn_iff (v : List (Nat × AudioIn)) (h : Facet.audioIn ∈ fs) : SameBut fs nums blobs y { z with audioIn := v } ↔ SameBut fs nums blobs y z :=
  SameBut.iff_of_step (.of_facets rfl rfl fun p hp => by cases p with | audioIn => exact absurd h hp | _ => rfl)

theorem sameBut_withAudioOut_iff (v : List (Nat × AudioOut)) (h : Facet.audioOut ∈ fs) : SameBut fs nums blobs y { z with audioOut := v } ↔ SameBut fs nums blobs y z :=
  SameBut.iff_of_step (.of_facets rfl rfl fun p hp => by cases p with | audioOut => exact absurd h hp | _ => rfl)

theorem sameBut_withFelley_iff (v : List (Nat × FelleyStream)) (h : Facet.felley ∈ fs) : SameBut fs nums blobs y { z with felley := v } ↔ SameBut fs nums blobs y z :=
  SameBut.iff_of_step (.of_facets rfl rfl fun p hp => by cases p with | felley => exact absurd h hp | _ => rfl)

theorem sameBut_withEncs_iff (v : List (Nat × Enc)) (h : Facet.encs ∈ fs) : SameBut fs nums blobs y { z with encs := v } ↔ SameBut fs nums blobs y z :=
  SameBut.iff_of_step (.of_facets rfl rfl fun p hp => by cases p with | encs => exact absurd h hp | _ => rfl)

theorem sameBut_withDecs_iff (v : List (Nat × Dec)) (h : Facet.decs ∈ fs) : SameBut fs nums blobs y { z with decs := v } ↔ SameBut fs nums blobs y z :=
  SameBut.iff_of_step (.of_facets rfl rfl fun p hp => by cases p with | decs => exact absurd h hp | _ => rfl)

theorem sameBut_withCores_iff (v : List (Nat × Nat)) (h : Facet.cores ∈ fs) : SameBut fs nums blobs y { z with cores := v } ↔ SameBut fs nums blobs y z :=
  SameBut.iff_of_step (.of_facets rfl rfl fun p hp => by cases p with | cores => exact absurd h hp | _ => rfl)

theorem sameBut_withTurn_iff (v : Nat) (h : Facet.turn ∈ fs) : SameBut fs nums blobs y { z with turn := v } ↔ SameBut fs nums blobs y z :=
  SameBut.iff_of_step (.of_facets rfl rfl fun p hp => by cases p with | turn => exact absurd h hp | _ => rfl)

end Sys2Proof.Machine
end

section
/-!
PROOFS. Resets begin with their causes and end in service (R111 to R114, R116, R588, R590).
-/

namespace Sys2Proof.Machine

/-! ## The SDI outputs shown -/

theorem sameBut_showSdo (y : Sys) (fs : List Facet) (blobs : Nat → Prop) :
    SameBut fs (indices 0x4170 16) blobs y y.showSdo := by
  refine SameBut.upto _ _ (fun z n hn => ?_) y
  have hk (i : Nat) (hi : i < 256) : indices 0x4170 16 (ent (0x4170 + n) i) := by unfold ent; omega
  exact (sameBut_wr z _ _ (hk 3 (by decide))).trans (sameBut_wr _ _ _ (hk 4 (by decide)))

@[simp] theorem Sys.showSdo_boot (y : Sys) : y.showSdo.boot = y.boot := ((sameBut_showSdo y [] (only [])).1 .boot (by decide)).symm
@[simp] theorem Sys.showSdo_dram (y : Sys) : y.showSdo.dram = y.dram := ((sameBut_showSdo y [] (only [])).1 .dram (by decide)).symm
@[simp] theorem Sys.showSdo_frames (y : Sys) : y.showSdo.frames = y.frames := ((sameBut_showSdo y [] (only [])).1 .frames (by decide)).symm

/-! ## How resets begin -/

@[simp] theorem Sys.powerDown_phase (y : Sys) (p : BootPhase) : (y.powerDown p).boot.phase = p := by simp [Sys.powerDown]
@[simp] theorem Sys.powerDown_heartbeat (y : Sys) (p : BootPhase) : (y.powerDown p).boot.heartbeat = false := by simp [Sys.powerDown]
@[simp] theorem Sys.powerDown_pwrGood (y : Sys) (p : BootPhase) : (y.powerDown p).boot.pwrGood = false := by simp [Sys.powerDown]
@[simp] theorem Sys.powerDown_dram (y : Sys) (p : BootPhase) : (y.powerDown p).dram = [] := by simp [Sys.powerDown]

theorem Sys.supplyReset_loses_power (y : Sys) (vin cause : Nat) (h : y.boot.phase ≠ .off) (h' : y.boot.phase ≠ .supplyReset) :
    (y.supplyReset vin cause).boot.phase = .supplyReset ∧ (y.supplyReset vin cause).boot.cause = cause ∧
    (y.supplyReset vin cause).sup.holdUp = true ∧ (y.supplyReset vin cause).boot.heartbeat = false ∧
    (y.supplyReset vin cause).boot.pwrGood = false ∧ (y.supplyReset vin cause).dram = [] := by
  simp only [Sys.supplyReset, h, h', or_self, if_false, Sys.powerDown_phase, Sys.powerDown_heartbeat, Sys.powerDown_pwrGood, Sys.powerDown_dram, and_self]

theorem Sys.warmStart_stops (y : Sys) (cause : Nat) :
    (y.warmStart cause).boot.phase = .warmReset ∧ (y.warmStart cause).boot.cause = cause ∧
    (y.warmStart cause).boot.heartbeat = false ∧ (y.warmStart cause).frames = [] := by
  unfold Sys.warmStart
  extract_lets
  simp only [Sys.showSdo_boot, Sys.showSdo_frames, and_self]

theorem Sys.coldStart_loses_dram (y : Sys) (cause : Nat) :
    (y.coldStart cause).boot.phase = .coldReset ∧ (y.coldStart cause).boot.cause = cause ∧
    (y.coldStart cause).boot.heartbeat = false ∧ (y.coldStart cause).dram = [] := by
  simp only [Sys.coldStart, Sys.powerDown_phase, Sys.powerDown_heartbeat, Sys.powerDown_dram, and_self]

@[simp] theorem Sys.overvoltageEnd_boot (y : Sys) (highest above opened : Nat) : (y.overvoltageEnd highest above opened).boot = y.boot := by
  have hseen (z : Sys) (v : Nat) : (z.vinSeen v).boot = z.boot := ((sameBut_vinSeen (fs := []) (nums := only vinKeys) (blobs := only []) z v
    (by decide) (by decide)).1 .boot (by decide)).symm
  unfold Sys.overvoltageEnd
  split
  · rfl
  · split <;> simp [hseen, Sys.supplyFlag, Sys.onSupply]

/-! ## DRAM training and the end of a warm reset -/

theorem slice_all {ids : Bytes} {n : Nat} (h : ids.length = n) : slice ids 0 n = ids := by
  simp [slice, ← h]

theorem boot_foldl_raise (bad : Nat → Bool) (code : Nat) (data : Nat → Bytes) (l : List Nat) (y : Sys) :
    (l.foldl (fun (y : Sys) (p : Nat) => if bad p then y.raise code p (data p) else y) y).boot = y.boot := by
  refine ((SameBut.foldl (fs := [.log]) (nums := only []) (blobs := only []) _ l (fun z p _ => ?_) y).1 .boot (by decide)).symm
  split <;> simp

theorem Sys.finishTransition_eq_none (o : Otp) (y : Sys) : y.finishTransition o = ([], y) ↔ y.mram.transition = none := by
  unfold Sys.finishTransition
  cases y.mram.transition with
  | none => simp
  | some n => simp [transitionFuses]

theorem Sys.finishTransition_fuses (o : Otp) (y : Sys) {n : Nat} (h : y.mram.transition = some n) :
    (y.finishTransition o).2.mram.transition = none ∧ (y.finishTransition o).1 = transitionFuses n := by
  simp [Sys.finishTransition, h]

/-- What training results do, with the fault of the cache and the packages that failed named. -/
theorem exec_dramTrainingComplete_training {s : State} {ids : Bytes} (firmware : BitVec 32) (band : Fin 4) (ok : Bool) (failed : BitVec 36)
    (ms : BitVec 32) (hphase : s.sys.boot.phase = .training) (hlen : ids.length = 72) (fault : Option Nat) (bad : Nat → Bool) (y : Sys)
    (hfault : fault = s.sys.cacheFault s.otp ids firmware.toNat band.val ok)
    (hbad : bad = fun p => fault.isSome && failed.toNat / 16 ^ p % 16 != 0)
    (hy : y = s.sys.takeTraining s.otp ids firmware.toNat band.val failed.toNat ms.toNat fault bad) :
    Programs (.dramTrainingComplete ids firmware band ok failed ms) s
      (if y.ranksMapped bad then
        (((y.report 7 7 true ms.toNat).raise 0x100B 255 (ev [(0, 1, if fault.isSome then 1 else 0), (1, 1, band.val), (4, 4, ms.toNat)])).bootComplete
          s.otp (if fault.isSome then 1 else 0)).finishTransition s.otp
      else ([], (List.range 9).foldl (fun (y : Sys) (p : Nat) =>
        if bad p then y.raise 0x100D p (ev [(0, 1, p), (1, 1, failed.toNat / 16 ^ p % 16)]) else y) (y.report 7 7 false failed.toNat).stayInReset)) := by
  subst hfault hbad hy
  simp only [Programs, exec_dramTrainingComplete, execDramTrainingComplete, run, hphase, slice_all hlen, ne_eq, not_true_eq_false, if_false]
  cases h : (Sys.takeTraining s.otp s.sys ids firmware.toNat band.val failed.toNat ms.toNat (s.sys.cacheFault s.otp ids firmware.toNat band.val ok)
    fun p => (s.sys.cacheFault s.otp ids firmware.toNat band.val ok).isSome && failed.toNat / 16 ^ p % 16 != 0).ranksMapped
    fun p => (s.sys.cacheFault s.otp ids firmware.toNat band.val ok).isSome && failed.toNat / 16 ^ p % 16 != 0
  · rfl
  · rfl

/-- Settles O13: each reset ends in its power-down or warm start, and each completion takes its branch. -/
theorem resetsBeginWithTheirCausesAndEndInService : Obligations.ResetsBeginWithTheirCausesAndEndInService := by
  refine ⟨⟨fun s vin h h' => ?_, fun s vin highest above h h' => ?_, fun s h => ?_, fun s hlow h => ?_, fun s h => ?_, fun s core h => ?_⟩,
    fun s ids firmware band ok failed ms hphase hlen => ?_, fun s ids firmware band ok failed ms hphase hlen => ?_,
    fun s ids firmware band h => ?_, fun s hphase hlow hfrom => ?_, fun s hphase hlow hfrom hdorm => ?_,
    fun o y => ⟨y.finishTransition_eq_none o, fun n hn => y.finishTransition_fuses o hn⟩⟩
  · obtain ⟨h1, h2, h3, h4, h5, h6⟩ := s.sys.supplyReset_loses_power vin.toNat 1 h h'
    exact ⟨_, rfl, h1, h2, h3, h4, h5, h6, rfl, rfl⟩
  · let y := ((s.sys.vinSample vin.toNat).overvoltageEnd highest.toNat above.toNat 1).onSupply fun u => { u with inputOpen := true }
    have hb : y.boot = s.sys.boot := by simp [y, Sys.onSupply]
    obtain ⟨h1, h2, h3, h4, h5, h6⟩ := y.supplyReset_loses_power vin.toNat 7 (by rwa [hb]) (by rwa [hb])
    exact ⟨_, rfl, h1, h2, h3, h4, h5, h6, rfl, rfl⟩
  · refine ⟨_, rfl, ?_⟩
    simp only [h]
    simp only [Sys.warmStart_stops, Otp.applyAll, List.foldl_nil, and_self]
  · obtain ⟨h1, h2, h3, h4⟩ := s.sys.coldStart_loses_dram 3
    refine ⟨_, rfl, ?_⟩
    rcases h with h | h
    · simp only [hlow, h, Bool.not_true, Bool.false_eq_true, if_false]
      exact ⟨h1, h2, h3, h4, rfl, trivial⟩
    · simp only [hlow, h, Bool.not_true, Bool.false_eq_true, if_false]
      exact ⟨h1, h2, h3, h4, rfl, trivial⟩
  · refine ⟨_, rfl, ?_⟩
    obtain ⟨h1, h2, h3, h4⟩ := s.sys.warmStart_stops 4
    simp only [h, if_true]
    exact ⟨h1, h2, h3, h4, rfl, trivial⟩
  · refine ⟨_, rfl, ?_⟩
    obtain ⟨h1, h2, h3, h4⟩ := (s.sys.raise 0x010A 255 (ev [(0, 1, core.val)])).warmStart_stops 8
    simp only [h, if_true]
    exact ⟨h1, h2, h3, h4, rfl, trivial⟩
  · intro fault bad y hy
    have hexec := exec_dramTrainingComplete_training firmware band ok failed ms hphase hlen fault bad y rfl rfl rfl
    rwa [if_pos hy] at hexec
  · intro fault bad y hy
    have hexec := exec_dramTrainingComplete_training firmware band ok failed ms hphase hlen fault bad y rfl rfl rfl
    rw [if_neg (by simp [hy])] at hexec
    refine ⟨_, hexec, ?_, rfl, rfl⟩
    simp only [boot_foldl_raise]
    rfl
  · simp [Sys.cacheFault, h]
  · refine (?_ : exec _ _ = _)
    simp [execWarmResetComplete, run, hphase, hlow, hfrom]
  · refine ⟨_, rfl, ?_⟩
    simp only [hphase, hlow, hfrom, ne_eq, not_true_eq_false, Bool.false_eq_true, or_self, if_false, not_false_eq_true, if_true, Sys.warmBack]
    have hinc : (s.sys.inc (ent 0x2003 9)).boot = s.sys.boot := rfl
    simp only [hinc, hdorm, if_false]
    refine ⟨by rw [hlow], ?_, leaves_of_sameBut ?_⟩
    · rw [rd_withBoot]
      simp
    · rw [sameBut_withBoot_iff _ (by simp)]
      simp

end Sys2Proof.Machine
end

section
/-!
PROOFS. Power-up runs from its cause, with the module's or the host's firmware (R99, R108 to R113, R673).
-/

namespace Sys2Proof.Machine

variable {y z : Sys}

/-! ## What power-up rebuilds (R113, R393) -/

theorem sameBut_restoreTables (y : Sys) (d : Nat → Nat) (b : Nat → Bytes) (tables : List (Nat × LibTable)) :
    SameBut [.tables] (indices 0x3C40 65) (indices 0x3C40 64) y (y.restoreTables d b tables) := by
  refine SameBut.trans ?_ (sameBut_wr _ _ _ (by decide))
  refine SameBut.foldl _ _ (fun z e he => ?_) y
  have hn (i : Nat) (hi : i < 256) : indices 0x3C40 65 (ent (0x3C40 + e) i) := by simp only [List.mem_range] at he; unfold ent; omega
  have hb (i : Nat) (hi : i < 256) : indices 0x3C40 64 (ent (0x3C40 + e) i) := by simp only [List.mem_range] at he; unfold ent; omega
  split
  · exact .refl z
  · split
    · refine .trans (.trans (.trans (.trans (sameBut_wrB z _ _ (hb 1 (by decide))) (sameBut_wr _ _ _ (hn 5 (by decide))))
        (sameBut_wrB _ _ _ (hb 6 (by decide)))) (sameBut_wr _ _ _ (hn 7 (by decide)))) (sameBut_setTable _ _ (by simp))
    · exact .refl z

section
variable (y : Sys) (d : Nat → Nat) (b : Nat → Bytes) (tables : List (Nat × LibTable))

theorem Sys.restoreTables_t96 : (y.restoreTables d b tables).t96 = y.t96 := ((sameBut_restoreTables y d b tables).1 .t96 (by decide)).symm
theorem Sys.restoreTables_up : (y.restoreTables d b tables).up = y.up := ((sameBut_restoreTables y d b tables).1 .up (by decide)).symm
theorem Sys.restoreTables_mram : (y.restoreTables d b tables).mram = y.mram := ((sameBut_restoreTables y d b tables).1 .mram (by decide)).symm

end

theorem Sys.coldRebuild_keeps (y : Sys) (kept : Bool) :
    (y.coldRebuild kept).t96 = y.t96 ∧ (y.coldRebuild kept).up = y.up ∧ (y.coldRebuild kept).mram = y.mram := by
  unfold Sys.coldRebuild
  exact ⟨Sys.restoreTables_t96 _ _ _ _, Sys.restoreTables_up _ _ _ _, Sys.restoreTables_mram _ _ _ _⟩

theorem Sys.railsUp_keeps (o : Otp) (y : Sys) (cause : Nat) (kept : Bool) :
    (Sys.railsUp o y cause kept).t96 = y.t96 ∧ (Sys.railsUp o y cause kept).up = y.up ∧ (Sys.railsUp o y cause kept).mram = y.mram ∧
    (Sys.railsUp o y cause kept).boot.cause = cause ∧ (Sys.railsUp o y cause kept).boot.startAt = y.up := by
  obtain ⟨ht, hu, hm⟩ := y.coldRebuild_keeps kept
  unfold Sys.railsUp
  generalize y.coldRebuild kept = z at *
  have h4 (z4 : Sys) : SameBut [] (indices 0x2720 48) (only []) z4
      ((List.range 8).foldl (fun (z : Sys) (q : Nat) => z.wr (ent (0x2720 + 27 + q) 1) 3) z4) := by
    refine SameBut.foldl _ _ (fun v q hq => sameBut_wr v _ _ ?_) z4
    simp only [List.mem_range] at hq
    unfold ent
    omega
  have hw (p : Facet) (w : Sys) := (h4 w).1 p (by simp)
  extract_lets z1 z2 src z3 z4
  exact ⟨(hw .t96 z4).symm.trans ht, (hw .up z4).symm.trans hu, (hw .mram z4).symm.trans hm,
    congrArg Boot.cause (hw .boot z4).symm, congrArg Boot.startAt (hw .boot z4).symm⟩

/-! ## Straps (R80 to R83) -/

/-- Illegal or open straps. -/
def strapsBad (b : BootInputs) : Bool := b.opens.toNat != 0 || !strapsLegal (b.pins.toNat % 64)

theorem strapsBad_iff (b : BootInputs) : strapsBad b = true ↔ b.opens ≠ 0 ∨ strapsLegal (b.pins.toNat % 64) = false := by
  have h : b.opens.toNat = 0 ↔ b.opens = 0 := by
    constructor
    · exact fun h => BitVec.eq_of_toNat_eq h
    · rintro h; rw [h]; rfl
  simp [strapsBad, h]

theorem Sys.sampleStraps_boot (y : Sys) (b : BootInputs) : (y.sampleStraps b).boot = { y.boot with strapFault := strapsBad b } := by
  unfold Sys.sampleStraps
  extract_lets
  split <;> simp [strapsBad] <;> rfl

theorem Sys.sampleStraps_keeps (y : Sys) (b : BootInputs) :
    SameBut [.boot, .log, .tx] (only [ent 0x2010 1, ent 0x2010 2, ent 0x2010 3]) (only []) y (y.sampleStraps b) := by
  unfold Sys.sampleStraps
  extract_lets straps opens bad y1 src y2 y3
  have h1 : SameBut [.boot, .log, .tx] (only [ent 0x2010 1, ent 0x2010 2, ent 0x2010 3]) (only []) y y1 := by simp [y1]
  have h2 : SameBut [.boot, .log, .tx] (only [ent 0x2010 1, ent 0x2010 2, ent 0x2010 3]) (only []) y y2 := (sameBut_withBoot_iff _ (by simp)).2 h1
  split <;> simpa [y3, Sys.report] using h2

theorem Sys.sampleStraps_rd (y : Sys) (b : BootInputs) :
    (y.sampleStraps b).rd (ent 0x2010 1) = putBit (b.pins.toNat % 64) 6 (strapsBad b) ∧
    (y.sampleStraps b).rd (ent 0x2010 2) = b.opens.toNat := by
  unfold Sys.sampleStraps
  extract_lets straps opens bad y1 src y2 y3
  have hrd (k : Nat) : y3.rd k = y1.rd k := rfl
  split <;> simp [hrd, y1, bad, strapsBad, straps, opens]

/-! ## Images (R109, R110) -/

theorem Sys.imageRuns_keeps (y : Sys) (bank : Nat) (f : Firmware) :
    SameBut [.boot, .tx] (only [ent 0x2003 4, ent 0x4B00 1]) (only []) y (y.imageRuns bank f []) := by
  unfold Sys.imageRuns
  extract_lets epoch src y1 y2 y3
  have h1 : SameBut [.boot, .tx] (only [ent 0x2003 4, ent 0x4B00 1]) (only []) y y1 :=
    (sameBut_send_iff _ (by simp)).2 ((sameBut_withBoot_iff _ (by simp)).2 (.refl y))
  simpa [y3, y2, Sys.report] using h1

theorem Sys.imageBad_boot (o : Otp) (y : Sys) (bank reason : Nat) (f : Firmware) : (Sys.imageBad o y bank reason f).boot = y.boot := by
  simp [Sys.imageBad, Sys.report]

theorem Sys.imageBad_keeps (o : Otp) (y : Sys) (bank reason : Nat) (f : Firmware) :
    SameBut [.log, .tx] (only []) (only []) y (Sys.imageBad o y bank reason f) := by
  simp [Sys.imageBad, Sys.report]

/-- What starting an image leaves of the state: its straps, its clocks, and where the boot came from. -/
def BootKept (y z : Sys) : Prop :=
  SameBut [.boot, .log, .tx] (only [ent 0x2003 4, ent 0x4B00 1, ent 0x1301 4]) (only []) y z ∧
  z.boot.cause = y.boot.cause ∧ z.boot.startAt = y.boot.startAt ∧ z.boot.strapFault = y.boot.strapFault

theorem BootKept.trans {x : Sys} (h : BootKept x y) (g : BootKept y z) : BootKept x z := by
  obtain ⟨h1, h2, h3, h4⟩ := h
  obtain ⟨g1, g2, g3, g4⟩ := g
  exact ⟨h1.trans g1, g2.trans h2, g3.trans h3, g4.trans h4⟩

theorem bootKept_imageRuns (y : Sys) (bank : Nat) (f : Firmware) : BootKept y (y.imageRuns bank f []) :=
  ⟨(y.imageRuns_keeps bank f).mono (by simp) (by simp) (by simp), rfl, rfl, rfl⟩

theorem bootKept_imageBad (o : Otp) (y : Sys) (bank reason : Nat) (f : Firmware) : BootKept y (Sys.imageBad o y bank reason f) := by
  have h := Sys.imageBad_boot o y bank reason f
  exact ⟨(Sys.imageBad_keeps o y bank reason f).mono (by simp) (by simp) (by simp), by rw [h], by rw [h], by rw [h]⟩

theorem bootKept_of_boot {v : Boot} (hc : v.cause = y.boot.cause) (hs : v.startAt = y.boot.startAt) (hf : v.strapFault = y.boot.strapFault) :
    BootKept y { y with boot := v } :=
  ⟨(sameBut_withBoot_iff v (by simp)).2 (.refl y), hc, hs, hf⟩

theorem bootKept_verifyBanks (o : Otp) (y : Sys) : BootKept y (Sys.verifyBanks o y []) := by
  unfold Sys.verifyBanks
  extract_lets a
  split
  · exact bootKept_imageRuns _ _ _
  next r _ =>
    have hbad : BootKept y ((Sys.imageBad o y a r (y.bankImage a)).bootFault 1) :=
      (bootKept_imageBad o y a r _).trans ⟨by simp [Sys.bootFault], rfl, rfl, rfl⟩
    have hdeg : BootKept y ((Sys.imageBad o y a r (y.bankImage a)).bootFault 1).degrade := hbad.trans (bootKept_of_boot rfl rfl rfl)
    extract_lets z
    have hz : BootKept y z := hdeg
    split
    · exact (hz.trans ⟨by simp, by simp, by simp, by simp⟩).trans (bootKept_imageRuns _ _ _)
    · exact (hz.trans (bootKept_imageBad o z _ _ _)).trans (bootKept_of_boot rfl rfl rfl)

theorem bootKept_startImage (o : Otp) (y : Sys) : BootKept y (Sys.startImage o y []) := by
  unfold Sys.startImage
  split
  · exact bootKept_of_boot rfl rfl rfl
  · exact bootKept_verifyBanks o y

/-! ## Power-up -/

/-- The state that samples the straps. -/
def Sys.beforeStraps (o : Otp) (y : Sys) (cause : Nat) (kept : Bool) : Sys :=
  if cause = 0 then Sys.railsUp o y cause kept else (Sys.railsUp o y cause kept).inc (ent 0x2003 8)

theorem Sys.bootUp_eq (o : Otp) (y : Sys) (b : BootInputs) (cause : Nat) (kept : Bool) :
    Sys.bootUp o y b cause kept = Sys.startImage o ((Sys.beforeStraps o y cause kept).sampleStraps b) b.fails := rfl

theorem Sys.beforeStraps_keeps (o : Otp) (y : Sys) (cause : Nat) (kept : Bool) :
    (Sys.beforeStraps o y cause kept).t96 = y.t96 ∧ (Sys.beforeStraps o y cause kept).up = y.up ∧
    (Sys.beforeStraps o y cause kept).mram = y.mram ∧ (Sys.beforeStraps o y cause kept).boot.cause = cause ∧
    (Sys.beforeStraps o y cause kept).boot.startAt = y.up := by
  obtain ⟨ht, hu, hm, hc, hs⟩ := Sys.railsUp_keeps o y cause kept
  unfold Sys.beforeStraps
  split
  · exact ⟨ht, hu, hm, hc, hs⟩
  · simp [ht, hu, hm, hc, hs]

theorem testBit_strapLevel (b : BootInputs) (v : Bool) : (putBit (b.pins.toNat % 64) 6 v).testBit 5 = b.pins.getLsbD 5 := by
  have h : (b.pins.toNat % 2 ^ 6).testBit 5 = b.pins.toNat.testBit 5 := by rw [Nat.testBit_mod_two_pow]; simp
  simpa [BitVec.getLsbD] using h

theorem Sys.bootUp_waits (o : Otp) (y : Sys) (b : BootInputs) (cause : Nat) (kept : Bool) (h : b.pins.getLsbD 5 = true) :
    (Sys.bootUp o y b cause kept).boot.phase = .waitImage := by
  rw [Sys.bootUp_eq, Sys.startImage, (Sys.sampleStraps_rd _ b).1, testBit_strapLevel, if_pos h]

theorem Sys.bootUp_runs (o : Otp) (y : Sys) (b : BootInputs) (cause : Nat) (kept : Bool) (hf : b.fails = []) (h : b.pins.getLsbD 5 = false)
    (hi : imageFault o (y.bankImage y.mram.active) = none) :
    (Sys.bootUp o y b cause kept).boot.phase = .training ∧ (Sys.bootUp o y b cause kept).boot.bank = y.mram.active ∧
    (Sys.bootUp o y b cause kept).boot.fwHash = fwHash (y.bankImage y.mram.active) := by
  let z := (Sys.beforeStraps o y cause kept).sampleStraps b
  have hm : z.mram = y.mram := ((Sys.sampleStraps_keeps _ b).1 .mram (by simp)).symm.trans (Sys.beforeStraps_keeps o y cause kept).2.2.1
  have hb : z.bankImage z.mram.active = y.bankImage y.mram.active := by simp only [Sys.bankImage, hm]
  have hz : Sys.bootUp o y b cause kept = z.imageRuns y.mram.active (y.bankImage y.mram.active) [] := by
    rw [Sys.bootUp_eq, Sys.startImage, (Sys.sampleStraps_rd _ b).1, testBit_strapLevel, h, if_neg (by decide), hf]
    change Sys.verifyBanks o z [] = _
    rw [hm] at hb
    simp only [Sys.verifyBanks, hm, hb, hi]
  rw [hz]
  exact ⟨rfl, rfl, rfl⟩

theorem vinValid_powers_up (s : State) (vin : BitVec 16) (b : BootInputs) (hopen : s.sys.sup.inputOpen = false)
    (hphase : s.sys.boot.phase = .off ∨ s.sys.boot.phase = .supplyReset) (hvin : 900 ≤ vin.toNat) :
    Runs (.vinValid vin b) s
      (let y := if s.sys.sup.aon then s.sys else s.sys.aonLost
       if s.sys.mram.tripped.isSome then
        let y := (y.vinSample vin.toNat).onPower fun w => { w with asked := some ⟨7, 0, y.up⟩ }
        { y with boot := { y.boot with phase := .tripHold }, sup := { y.sup with aon := true, holdUp := false } }
      else (Sys.bootUp s.otp y b s.sys.boot.cause s.sys.sup.aon).vinSample vin.toNat) := by
  have hp : (s.sys.boot.phase == .off || s.sys.boot.phase == .supplyReset) = true := by
    rcases hphase with h | h <;> rw [h] <;> rfl
  have hv : decide (vin.toNat < 900) = false := by simp; omega
  refine (?_ : exec _ _ = _)
  simp only [exec_vinValid, execVinValid, onSys_eq, hopen, hp, hv, Bool.not_true, Bool.or_self, Bool.false_eq_true, if_false]
  cases s.sys.sup.aon <;> rfl

theorem vinValid_holds_trip (s : State) (vin : BitVec 16) (b : BootInputs) (hopen : s.sys.sup.inputOpen = false)
    (hphase : s.sys.boot.phase = .off ∨ s.sys.boot.phase = .supplyReset) (hvin : 900 ≤ vin.toNat) (htrip : s.sys.mram.tripped ≠ none) :
    Completes (.vinValid vin b) s fun t =>
      t.sys.boot.phase = .tripHold ∧ t.sys.power.asked = some ⟨7, 0, s.sys.up⟩ ∧ t.sys.sup.aon = true ∧ t.sys.sup.holdUp = false ∧
      t.sys.rd (ent 0x2001 1) = vin.toNat ∧ t.otp = s.otp ∧ t.pending = s.pending := by
  have hexec := vinValid_powers_up s vin b hopen hphase hvin
  rw [if_pos (by simpa [Option.isSome_iff_ne_none] using htrip)] at hexec
  refine ⟨_, hexec, rfl, ?_, rfl, rfl, ?_, rfl, rfl⟩
  · cases s.sys.sup.aon <;> rfl
  · extract_lets y z
    exact Sys.rd_vinSample_present _ _

theorem hostFirmwareImage_runs (s : State) (image : Firmware) (h : s.sys.boot.phase = .waitImage) (hi : imageFault s.otp image = none) :
    Completes (.hostFirmwareImage image []) s fun t =>
      t.sys.boot = { s.sys.boot with phase := .training, bank := 2, fwHash := fwHash image, fwEpoch := image.epoch.toNat } ∧
      t.sys.rd (ent 0x2003 4) = s.sys.mram.active ∧ Leaves [.boot, .tx] (only [ent 0x2003 4, ent 0x4B00 1]) (only []) s t := by
  have hexec : Runs (.hostFirmwareImage image []) s (s.sys.imageRuns 2 image []) := by
    refine (?_ : exec _ _ = _)
    simp only [exec_hostFirmwareImage, execHostFirmwareImage, onSys_eq, h, hi, ne_eq, not_true_eq_false, if_false]
  refine ⟨_, hexec, rfl, ?_, leaves_of_sameBut (s.sys.imageRuns_keeps 2 image)⟩
  unfold Sys.imageRuns
  extract_lets epoch src y1 y2 y3
  have hm : y1.mram = s.sys.mram := rfl
  simp [Sys.report, y3, y2, hm]

theorem hostFirmwareImage_stays_out (s : State) (image : Firmware) (fails : List (BitVec 3 × BitVec 16)) (r : Nat)
    (h : s.sys.boot.phase = .waitImage) (hi : imageFault s.otp image = some r) (hroom : Room s) :
    Completes (.hostFirmwareImage image fails) s fun t =>
      t.sys.boot = s.sys.boot ∧ Logs s t 0x0501 255 (ev [(0, 1, 2), (1, 1, r), (2, 1, image.epoch.toNat), (3, 1, s.otp.epoch)]) ∧
      Leaves [.log, .tx] (only []) (only []) s t := by
  have hexec : Runs (.hostFirmwareImage image fails) s (Sys.imageBad s.otp s.sys 2 r image) := by
    refine (?_ : exec _ _ = _)
    simp only [exec_hostFirmwareImage, execHostFirmwareImage, onSys_eq, h, hi, ne_eq, not_true_eq_false, if_false]
  exact ⟨_, hexec, Sys.imageBad_boot _ _ _ _ _, Sys.log_raise _ _ _ _ hroom, leaves_of_sameBut (Sys.imageBad_keeps _ _ _ _ _)⟩

theorem hostFirmwareTimeout_tells_once (s : State) (h : s.sys.boot.phase = .waitImage) (ht : s.sys.boot.imageTimeout = false) (hroom : Room s) :
    Completes .hostFirmwareTimeout s fun t =>
      t.sys.boot = { s.sys.boot with imageTimeout := true } ∧ Logs s t 0x010C 255 [] ∧ Leaves [.boot, .log] (only []) (only []) s t := by
  have hexec : Runs .hostFirmwareTimeout s (Sys.raise { s.sys with boot := { s.sys.boot with imageTimeout := true } } 0x010C 255 []) := by
    refine (?_ : exec _ _ = _)
    simp only [exec_hostFirmwareTimeout, execHostFirmwareTimeout, onSys_eq, h, ht, ne_eq, not_true_eq_false, Bool.false_eq_true, or_self, if_false]
  refine ⟨_, hexec, Sys.raise_boot _ _ _ _, Sys.log_raise _ _ _ _ hroom, leaves_of_sameBut ?_⟩
  exact .trans ((sameBut_withBoot_iff _ (by simp)).2 (.refl _)) (sameBut_raise _ _ _ _ (by simp))

theorem Sys.bootUp_shows_straps (o : Otp) (y : Sys) (b : BootInputs) (cause : Nat) (kept : Bool) (hf : b.fails = []) :
    (Sys.bootUp o y b cause kept).boot.cause = cause ∧ (Sys.bootUp o y b cause kept).boot.startAt = y.up ∧
    (Sys.bootUp o y b cause kept).t96 = y.t96 ∧ (Sys.bootUp o y b cause kept).up = y.up ∧
    (Sys.bootUp o y b cause kept).boot.strapFault = strapsBad b ∧
    (Sys.bootUp o y b cause kept).rd (ent 0x2010 1) = putBit (b.pins.toNat % 64) 6 (strapsBad b) ∧
    (Sys.bootUp o y b cause kept).rd (ent 0x2010 2) = b.opens.toNat := by
  obtain ⟨ht, hu, _, hc, hs⟩ := Sys.beforeStraps_keeps o y cause kept
  rw [Sys.bootUp_eq, hf]
  generalize Sys.beforeStraps o y cause kept = w at *
  have hboot := w.sampleStraps_boot b
  have hkept := w.sampleStraps_keeps b
  obtain ⟨hr1, hr2⟩ := w.sampleStraps_rd b
  obtain ⟨hsame, hcause, hstart, hfault⟩ := bootKept_startImage o (w.sampleStraps b)
  refine ⟨hcause.trans (by rw [hboot, hc]), hstart.trans (by rw [hboot, hs]), ?_, ?_, hfault.trans (by rw [hboot]), ?_, ?_⟩
  · exact (hsame.1 .t96 (by simp)).symm.trans ((hkept.1 .t96 (by simp)).symm.trans ht)
  · exact (hsame.1 .up (by simp)).symm.trans ((hkept.1 .up (by simp)).symm.trans hu)
  · exact (hsame.2.1 _ (by decide)).trans hr1
  · exact (hsame.2.1 _ (by decide)).trans hr2

/-- Settles O14: every power-up goes through the straps and the image that they ask for. -/
theorem powerUpRunsFromItsCause : Obligations.PowerUpRunsFromItsCause := by
  refine ⟨fun s vin b hopen hphase hvin htrip => ?_, fun s b h => ?_, fun s b h => ?_, Sys.bootUp_waits, hostFirmwareImage_runs,
    hostFirmwareTimeout_tells_once, hostFirmwareImage_stays_out, vinValid_holds_trip, fun o y b cause kept hf => ?_, fun y => rfl⟩
  · have hexec := vinValid_powers_up s vin b hopen hphase hvin
    rwa [if_neg (by simp [htrip])] at hexec
  · refine (?_ : exec _ _ = _)
    simp [execResetCommandCold, h]
  · refine (?_ : exec _ _ = _)
    simp [execResetNRise, h]
  · obtain ⟨hc, hs, ht, hu, hfault, h1, h2⟩ := Sys.bootUp_shows_straps o y b cause kept hf
    intro z straps
    have hz : z.boot.strapFault = strapsBad b := hfault
    refine ⟨hc, hs, ht, hu, ?_, ?_, h2, Sys.bootUp_runs o y b cause kept hf⟩
    · rw [hz]
      exact strapsBad_iff b
    · rw [hz]
      exact h1

end Sys2Proof.Machine
end

section
/-!
PROOFS. Mailboxes accept, refuse, pop and cancel messages in order (R636 to R643).
-/

namespace Sys2Proof.Machine

variable {fs : List Facet} {nums blobs : Nat → Prop} {y z : Sys}

/-! ## Interrupts -/

theorem sameBut_updateInt (y : Sys) (h : .boot ∈ fs) : SameBut fs nums blobs y y.updateInt := (sameBut_withBoot_iff _ h).2 (.refl y)

@[simp] theorem sameBut_updateInt_iff (h : .boot ∈ fs) : SameBut fs nums blobs y z.updateInt ↔ SameBut fs nums blobs y z :=
  (sameBut_updateInt z h).iff_of_step

theorem sameBut_sendVector (y : Sys) (v : Nat) (h : .tx ∈ fs) : SameBut fs nums blobs y (y.sendVector v) := by
  unfold Sys.sendVector
  split <;> simp [h]

/-! ## The state of the mailboxes -/

theorem Sys.mail_eq_of_sameBut (h : SameBut fs nums blobs y z) (hm : .mailboxes ∉ fs) (k : Nat) : z.mail k = y.mail k := by
  have e : y.mailboxes = z.mailboxes := h.1 .mailboxes hm
  simp only [Sys.mail, e]

theorem sameBut_mailPending (y : Sys) (h : .boot ∈ fs) : SameBut fs nums blobs y y.mailPending :=
  (sameBut_updateInt_iff h).2 ((sameBut_withBoot_iff _ h).2 (.refl y))

theorem sameBut_mailIrq (y : Sys) (m : Nat) (h : .boot ∈ fs) (ht : .tx ∈ fs) : SameBut fs nums blobs y (y.mailIrq m) :=
  (sameBut_mailPending y h).trans (sameBut_sendVector _ _ ht)

@[simp] theorem sameBut_mailPending_iff (h : .boot ∈ fs) : SameBut fs nums blobs y z.mailPending ↔ SameBut fs nums blobs y z :=
  (sameBut_mailPending z h).iff_of_step

@[simp] theorem Sys.mail_mailPending (y : Sys) (k : Nat) : y.mailPending.mail k = y.mail k :=
  Sys.mail_eq_of_sameBut (fs := [.boot]) (nums := only []) (blobs := only []) (sameBut_mailPending y (by simp)) (by simp) k

@[simp] theorem Sys.mail_mailIrq (y : Sys) (m k : Nat) : (y.mailIrq m).mail k = y.mail k :=
  Sys.mail_eq_of_sameBut (fs := [.boot, .tx]) (nums := only []) (blobs := only []) (sameBut_mailIrq y m (by simp) (by simp)) (by simp) k

@[simp] theorem Sys.mail_wr (y : Sys) (k v m : Nat) : (y.wr k v).mail m = y.mail m := rfl
@[simp] theorem Sys.mail_raise (y : Sys) (code source : Nat) (data : Bytes) (m : Nat) : (y.raise code source data).mail m = y.mail m := by
  simp [Sys.mail]

/-- A mailbox whose GO has been accepted (R636, R637). -/
def Mailbox.taken (b : Mailbox) : Mailbox :=
  { b with go := false, accepted := true, busy := false, waking := false, inbox := b.inbox ++ [b.msg], seq := (b.seq + 1) % 65536 }

theorem Sys.mail_mailAccept (y : Sys) (m k : Nat) : (y.mailAccept m).mail k = if k = m then (y.mail m).taken else y.mail k := by
  unfold Sys.mailAccept
  extract_lets b w z
  have hz : z.mail k = if k = m then (y.mail m).taken else y.mail k := by simp [z, w, b, Mailbox.taken]
  split <;> simpa using hz

theorem sameBut_mailAccept (y : Sys) (m : Nat) :
    SameBut [.mailboxes, .boot, .tx] (only [ent (0x2710 + m / 2) (3 + m % 2)]) (only []) y (y.mailAccept m) := by
  unfold Sys.mailAccept
  extract_lets b w z
  have hz : SameBut [.mailboxes, .boot, .tx] (only [ent (0x2710 + m / 2) (3 + m % 2)]) (only []) y z := by simp [z, w]
  split
  · exact hz.trans (sameBut_mailIrq _ _ (by simp) (by simp))
  · exact hz.trans (sameBut_mailPending _ (by simp))

theorem sameBut_relaySend (y : Sys) (p : Nat) (hl : .links ∈ fs) (ht : .tx ∈ fs) (hlog : .log ∈ fs) :
    SameBut fs nums blobs y (y.relaySend p) := by
  unfold Sys.relaySend
  split
  · exact sameBut_control _ _ _ _ hl ht hlog
  · exact .refl y

@[simp] theorem Sys.mail_relaySend (y : Sys) (p k : Nat) : (y.relaySend p).mail k = y.mail k :=
  Sys.mail_eq_of_sameBut (fs := [.links, .tx, .log]) (nums := only []) (blobs := only [])
    (sameBut_relaySend y p (by simp) (by simp) (by simp)) (by simp) k

theorem Sys.mailEnter_of_room (h : (y.mail m).inbox.length < 4) :
    y.mailEnter m = if m % 2 = 0 ∧ pairFn (m / 2) = .relay ∧ (y.mail m).inbox.isEmpty = true then (y.mailAccept m).relaySend (m / 2)
      else y.mailAccept m := by
  simp [Sys.mailEnter, Sys.mailTry, h]

theorem Sys.mail_mailEnter {m : Nat} (h : (y.mail m).inbox.length < 4) (k : Nat) :
    (y.mailEnter m).mail k = if k = m then (y.mail m).taken else y.mail k := by
  rw [Sys.mailEnter_of_room h]
  split <;> simp [Sys.mail_mailAccept]

/-- A message that finds room touches the mailboxes, the pair's counters, what is sent, and no more. -/
theorem sameBut_mailEnter {m : Nat} (h : (y.mail m).inbox.length < 4) :
    SameBut [.mailboxes, .boot, .tx, .links, .log] (only [ent (0x2710 + m / 2) (3 + m % 2)]) (only []) y (y.mailEnter m) := by
  have ha := (sameBut_mailAccept y m).mono (gs := [.mailboxes, .boot, .tx, .links, .log]) (by simp) (fun _ => id) (fun _ => id)
  rw [Sys.mailEnter_of_room h]
  split
  · exact ha.trans (sameBut_relaySend _ _ (by simp) (by simp) (by simp))
  · exact ha

/-! ## The commands -/

/-- The mailbox with the message that a GO writes. -/
def Mailbox.asked (b : Mailbox) (msg : Bytes) (wake : Bool) : Mailbox :=
  { b with msg := slice msg 0 64, go := true, wake := wake, accepted := false, busy := false, waking := false, error := 0 }

theorem Sys.pairOn_setMail (y : Sys) (m p : Nat) (b : Mailbox) : (y.setMail m b).pairOn p = y.pairOn p := rfl

theorem exec_mbGo_enters (s : State) (m : Fin 32) (msg : Bytes) (wake : Bool) (hgo : (s.sys.mail m.val).go = false)
    (hon : s.sys.pairOn (m.val / 2) = true)
    (hrun : m.val % 2 = 0 → s.sys.domainRun (pairDomain (m.val / 2)) = true ∧ s.sys.rd (ent 0x2700 1) ≠ 2) :
    Runs (.mbGo m msg wake) s ((s.sys.setMail m.val ((s.sys.mail m.val).asked msg wake)).mailEnter m.val) := by
  have hd : ¬ (m.val % 2 = 0 ∧ (!s.sys.domainRun (pairDomain (m.val / 2)) || s.sys.device == 2) = true) := by
    rintro ⟨he, hbad⟩
    obtain ⟨hr, hs⟩ := hrun he
    simp [hr, Sys.device, hs] at hbad
  refine (?_ : exec _ _ = _)
  simp only [exec_mbGo, execMbGo, onSys_eq, hgo, Bool.false_eq_true, if_false, Sys.pairOn_setMail, hon, Bool.not_true]
  exact congrArg (fun w => Host.Outcome.next { s with sys := w }) (if_neg hd)

theorem mbGo_accepted (s : State) (m : Fin 32) (msg : Bytes) (wake : Bool) (hgo : (s.sys.mail m.val).go = false)
    (hon : s.sys.pairOn (m.val / 2) = true)
    (hrun : m.val % 2 = 0 → s.sys.domainRun (pairDomain (m.val / 2)) = true ∧ s.sys.rd (ent 0x2700 1) ≠ 2)
    (hroom : (s.sys.mail m.val).inbox.length < 4) :
    Completes (.mbGo m msg wake) s fun t =>
      (t.sys.mail m.val).go = false ∧ (t.sys.mail m.val).accepted = true ∧ (t.sys.mail m.val).busy = false ∧
      (t.sys.mail m.val).inbox = (s.sys.mail m.val).inbox ++ [slice msg 0 64] ∧
      (∀ k, k ≠ m.val → t.sys.mail k = s.sys.mail k) ∧ t.otp = s.otp ∧ t.pending = s.pending ∧ t.sys.dram = s.sys.dram := by
  have hr : ((s.sys.setMail m.val ((s.sys.mail m.val).asked msg wake)).mail m.val).inbox.length < 4 := by simpa [Mailbox.asked] using hroom
  refine ⟨_, exec_mbGo_enters s m msg wake hgo hon hrun, ?_⟩
  simp only [Sys.mail_mailEnter hr, Sys.mail_setMail, if_true]
  refine ⟨rfl, rfl, rfl, rfl, fun k hk => by simp [hk], trivial, trivial, ((sameBut_mailEnter hr).1 .dram (by simp)).symm⟩

theorem mbGo_busy (s : State) (m : Fin 32) (msg : Bytes) (wake : Bool) (hgo : (s.sys.mail m.val).go = false)
    (hon : s.sys.pairOn (m.val / 2) = true) (heven : m.val % 2 = 0) (hrun : s.sys.domainRun (pairDomain (m.val / 2)) = true)
    (hdev : s.sys.rd (ent 0x2700 1) ≠ 2) (hfull : 4 ≤ (s.sys.mail m.val).inbox.length) :
    Completes (.mbGo m msg wake) s fun t =>
      (t.sys.mail m.val).go = true ∧ (t.sys.mail m.val).busy = true ∧ (t.sys.mail m.val).inbox = (s.sys.mail m.val).inbox ∧
      (t.sys.mail (m.val + 1)).busy = false := by
  refine ⟨_, exec_mbGo_enters s m msg wake hgo hon fun _ => ⟨hrun, hdev⟩, ?_⟩
  have hne : (s.sys.mail m.val).inbox.isEmpty = false := by
    cases h : (s.sys.mail m.val).inbox with
    | nil => rw [h] at hfull; simp at hfull
    | cons _ _ => rfl
  have hnl : ¬ (s.sys.mail m.val).inbox.length < 4 := by omega
  have hb : ((s.sys.mail m.val).asked msg wake).busy = false := rfl
  have hi : ((s.sys.mail m.val).asked msg wake).inbox = (s.sys.mail m.val).inbox := rfl
  have hg : ((s.sys.mail m.val).asked msg wake).go = true := rfl
  simp only [Sys.mailEnter, Sys.mailTry, Sys.mailBusy, Sys.mail_setMail, if_true, hi, hb, hne, hnl, if_false, and_false,
    Bool.false_eq_true, heven, true_and]
  by_cases h : (s.sys.mail (m.val + 1)).busy = true
  · simp [hg, h]
  · simp [hg, h]

theorem exec_mbGo_refused (s : State) (m : Fin 32) (msg : Bytes) (wake : Bool) (hgo : (s.sys.mail m.val).go = false)
    (h : s.sys.pairOn (m.val / 2) = false ∨ m.val % 2 = 0 ∧ s.sys.domainRun (pairDomain (m.val / 2)) = false ∧ wake = false) :
    Runs (.mbGo m msg wake) s ((s.sys.setMail m.val ((s.sys.mail m.val).asked msg wake)).mailRefuse m.val
      (if s.sys.pairOn (m.val / 2) then 1 else 2) (if s.sys.pairOn (m.val / 2) then 0 else 1)) := by
  refine (?_ : exec _ _ = _)
  simp only [exec_mbGo, execMbGo, onSys_eq, hgo, Bool.false_eq_true, if_false, Sys.pairOn_setMail]
  cases hon : s.sys.pairOn (m.val / 2) with
  | false => rfl
  | true =>
    obtain ⟨he, hd, hw⟩ : m.val % 2 = 0 ∧ s.sys.domainRun (pairDomain (m.val / 2)) = false ∧ wake = false := by simpa [hon] using h
    have hcond : m.val % 2 = 0 ∧ (!s.sys.domainRun (pairDomain (m.val / 2)) || s.sys.device == 2) = true := ⟨he, by simp [hd]⟩
    subst hw
    exact congrArg (fun w => Host.Outcome.next { s with sys := w }) (if_pos hcond)

theorem mbGo_refused (s : State) (m : Fin 32) (msg : Bytes) (wake : Bool) (hgo : (s.sys.mail m.val).go = false)
    (h : s.sys.pairOn (m.val / 2) = false ∨ m.val % 2 = 0 ∧ s.sys.domainRun (pairDomain (m.val / 2)) = false ∧ wake = false) (hroom : Room s) :
    Completes (.mbGo m msg wake) s fun t =>
      let cause := if s.sys.pairOn (m.val / 2) then 0 else 1
      (t.sys.mail m.val).go = false ∧ (t.sys.mail m.val).error = (if s.sys.pairOn (m.val / 2) then 1 else 2) ∧
      (t.sys.mail m.val).inbox = (s.sys.mail m.val).inbox ∧ Logs s t 0x1305 (m.val / 2) (ev [(0, 1, m.val / 2), (1, 1, cause)]) ∧
      Leaves [.mailboxes, .log] (only [ent (0x2710 + m.val / 2) 6]) (only []) s t := by
  refine ⟨_, exec_mbGo_refused s m msg wake hgo h, ?_, ?_, ?_, ?_, leaves_of_sameBut (by simp [Sys.mailRefuse])⟩
  · simp [Sys.mailRefuse]
  · simp [Sys.mailRefuse]
  · simp [Sys.mailRefuse, Mailbox.asked]
  · exact Sys.log_raise _ _ _ _ hroom

theorem mbAccept_enters (s : State) (m : Fin 32) (hgo : (s.sys.mail m.val).go = true) (hroom : (s.sys.mail m.val).inbox.length < 4)
    (hout : s.sys.power.mbOut = []) (hrun : m.val % 2 = 0 → s.sys.domainRun (pairDomain (m.val / 2)) = true) :
    Completes (.mbAccept m) s fun t =>
      (t.sys.mail m.val).go = false ∧ (t.sys.mail m.val).accepted = true ∧ (t.sys.mail m.val).waking = false ∧
      (t.sys.mail m.val).inbox = (s.sys.mail m.val).inbox ++ [(s.sys.mail m.val).msg] := by
  have hcond : (!(s.sys.mail m.val).go || decide (4 ≤ (s.sys.mail m.val).inbox.length) ||
      (m.val % 2 == 0 && !s.sys.domainRun (pairDomain (m.val / 2)))) = false := by
    have hd : decide (4 ≤ (s.sys.mail m.val).inbox.length) = false := by simp; omega
    by_cases he : m.val % 2 = 0
    · simp [hgo, hd, hrun he]
    · simp [hgo, hd, he]
  have hp : (s.sys.mailEnter m.val).power.mbOut = [] := by
    rw [show (s.sys.mailEnter m.val).power = s.sys.power from ((sameBut_mailEnter hroom).1 .power (by simp)).symm, hout]
  have hfresh : (s.sys.mailEnter m.val).mbFresh = s.sys.mailEnter m.val := by simp [Sys.mbFresh, hp]
  have hexec : Runs (.mbAccept m) s (s.sys.mailEnter m.val) := by
    refine (?_ : exec _ _ = _)
    simp only [exec_mbAccept, execMbAccept, onSys_eq, hcond, Bool.false_eq_true, if_false, hfresh, hp, ite_self]
  refine ⟨_, hexec, ?_⟩
  simp [Sys.mail_mailEnter hroom, Mailbox.taken]

theorem sameBut_mailReset (y : Sys) (hm : .mailboxes ∈ fs) (hb : .boot ∈ fs) (hp : .power ∈ fs) : SameBut fs nums blobs y y.mailReset := by
  unfold Sys.mailReset
  rw [sameBut_mailPending_iff hb]
  refine .of_facets rfl rfl fun p h => ?_
  cases p with
  | mailboxes => exact absurd hm h
  | power => exact absurd hp h
  | _ => rfl

/-- Settles O18: each command's case is one operation of the mailboxes. -/
theorem mailboxesAcceptInOrder : Obligations.MailboxesAcceptInOrder := by
  refine ⟨mbGo_accepted, mbGo_busy, mbGo_refused, mbAccept_enters, fun s m => ?_, fun s m heven hgo => ?_, fun s p k hfn hlink hin => ?_, fun s => ?_⟩
  · refine ⟨_, rfl, ?_, fun k hk => ?_, leaves_of_sameBut (by simp)⟩ <;> simp [*]
  · have hcond : ¬ (m.val % 2 = 1 ∨ (!(s.sys.mail m.val).go) = true) := by simp [hgo, heven]
    refine ⟨_, rfl, ?_⟩
    simp only [hcond, if_false]
    refine ⟨by simp, fun k hk => by simp [hk], leaves_of_sameBut (by simp)⟩
  · have hcond : ¬ (pairFn p.val ≠ .relay ∨ (s.sys.relayLink p.val).isNone = true ∨ (s.sys.mail (2 * p.val)).inbox.isEmpty = true) := by
      simp [hfn, hlink, hin]
    refine ⟨_, rfl, ?_⟩
    simp only [hcond, if_false]
    exact ⟨by simp, fun j hj => by simp [hj]⟩
  · have hm (y : Sys) : y.mailReset.mailboxes = [] := ((sameBut_mailPending (fs := [.boot]) (nums := only []) (blobs := only []) _ (by simp)).1 .mailboxes
      (by simp)).symm
    refine ⟨_, rfl, hm _, rfl, leaves_of_sameBut ?_⟩
    exact .trans ((sameBut_withBoot_iff _ (by simp)).2 (.refl _)) (sameBut_mailReset _ (by simp) (by simp) (by simp))

end Sys2Proof.Machine
end

section
/-!
PROOFS. Which facets the model's operations can change. Entries are left out of account, and so are the interrupt lines of AON's supervisor, which almost every
operation shows anew: `Touches fs y z` says that z differs from y at most in the facets fs, in entries and in pending interrupts.
-/

namespace Sys2Proof.Machine

/-- What the supervisor knows is the same, but for the interrupts that are pending. -/
def Steady (y z : Sys) : Prop := ∃ l m q, z.boot = { y.boot with intLow := l, mbPending := m, mqPending := q }

/-- The two states differ at most in the facets that are listed, in entries, and in pending interrupts. -/
structure Touches (fs : List Facet) (y z : Sys) : Prop where
  facet : ∀ p, p ∉ fs → p ≠ .boot → p.same y z
  steady : .boot ∉ fs → Steady y z

variable {fs gs : List Facet} {nums blobs : Nat → Prop} {x y z : Sys}

/-! ## Composition -/

theorem Steady.refl (y : Sys) : Steady y y := ⟨_, _, _, rfl⟩

theorem Steady.of_boot (h : y.boot = z.boot) : Steady y z := ⟨y.boot.intLow, y.boot.mbPending, y.boot.mqPending, h.symm⟩

theorem Steady.trans (h : Steady x y) (g : Steady y z) : Steady x z := by
  obtain ⟨_, _, _, h⟩ := h
  obtain ⟨l, m, q, g⟩ := g
  exact ⟨l, m, q, by rw [g, h]⟩

theorem Steady.symm (h : Steady y z) : Steady z y := by
  obtain ⟨_, _, _, h⟩ := h
  exact ⟨y.boot.intLow, y.boot.mbPending, y.boot.mqPending, by rw [h]⟩

theorem SameBut.touches (h : SameBut gs nums blobs y z) (hs : ∀ p ∈ gs, p ∈ fs) : Touches fs y z :=
  ⟨fun p hp _ => h.1 p fun q => hp (hs p q), fun hb => Steady.of_boot (h.1 .boot fun q => hb (hs _ q))⟩

@[simp] theorem Touches.refl (y : Sys) : Touches fs y y := ⟨fun p _ _ => p.same_refl y, fun _ => Steady.refl y⟩

theorem Touches.trans (h : Touches fs x y) (g : Touches fs y z) : Touches fs x z :=
  ⟨fun p hp hb => p.same_trans (h.facet p hp hb) (g.facet p hp hb), fun hb => (h.steady hb).trans (g.steady hb)⟩

theorem Touches.symm (h : Touches fs y z) : Touches fs z y := by
  refine ⟨fun p hp hb => ?_, fun hb => (h.steady hb).symm⟩
  have h := h.facet p hp hb
  cases p <;> exact Eq.symm h

theorem Touches.mono (h : Touches gs y z) (hs : ∀ p ∈ gs, p ∈ fs) : Touches fs y z :=
  ⟨fun p hp hb => h.facet p (fun q => hp (hs p q)) hb, fun hb => h.steady fun q => hb (hs _ q)⟩

/-- An operation that touches less than fs can be peeled off. -/
theorem Touches.peel (h : Touches gs y z) (hs : ∀ p ∈ gs, p ∈ fs) : Touches fs x z ↔ Touches fs x y :=
  ⟨fun g => g.trans (h.mono hs).symm, fun g => g.trans (h.mono hs)⟩

theorem Touches.peel_sameBut (h : SameBut fs (fun _ => True) (fun _ => True) y z) : Touches fs x z ↔ Touches fs x y :=
  (h.touches fun _ => id).peel fun _ => id

/-! ## The updates that everything is built from -/

/-- Entries, events and messages. -/
theorem touches_primitives (x : Sys) (fs : List Facet) :
    (∀ y, Touches fs y y) ∧
    (∀ y k v, Touches fs x (y.wr k v) ↔ Touches fs x y) ∧ (∀ y k v, Touches fs x (y.wrB k v) ↔ Touches fs x y) ∧
    (∀ y k, Touches fs x (y.inc k) ↔ Touches fs x y) ∧ (∀ y k n, Touches fs x (y.incBy k n) ↔ Touches fs x y) ∧
    (∀ y k n, Touches fs x (y.inc64 k n) ↔ Touches fs x y) ∧ (∀ y k v, Touches fs x (y.wrI k v) ↔ Touches fs x y) ∧
    (∀ y k i v, Touches fs x (y.wrBit k i v) ↔ Touches fs x y) ∧
    (∀ y m, .tx ∈ fs → (Touches fs x (y.send m) ↔ Touches fs x y)) ∧
    (∀ y c n d, .log ∈ fs → (Touches fs x (y.raise c n d) ↔ Touches fs x y)) ∧
    (∀ y i c n d, .log ∈ fs → (Touches fs x (y.raiseSev i c n d) ↔ Touches fs x y)) ∧
    (∀ y i c n d, .log ∈ fs → (Touches fs x (y.raiseLimited i c n d) ↔ Touches fs x y)) ∧
    (∀ (c : Prop) [Decidable c] y z, Touches fs x (if c then y else z) ↔ (c → Touches fs x y) ∧ (¬ c → Touches fs x z)) := by
  have hwr (y : Sys) (k v : Nat) : Touches fs x (y.wr k v) ↔ Touches fs x y := Touches.peel_sameBut (sameBut_wr y k v trivial)
  refine ⟨.refl, hwr, fun y k v => Touches.peel_sameBut (sameBut_wrB y k v trivial), fun y k => hwr y _ _, fun y k n => hwr y _ _, fun y k n => hwr y _ _,
    fun y k v => hwr y _ _, fun y k i v => hwr y _ _, fun y m h => Touches.peel_sameBut (sameBut_send y m h),
    fun y c n d h => Touches.peel_sameBut (sameBut_raise y c n d h), fun y i c n d h => Touches.peel_sameBut (sameBut_raiseSev y i c n d h),
    fun y i c n d h => Touches.peel_sameBut (sameBut_raiseLimited y i c n d h), fun c _ y z => ?_⟩
  split
  next h => simp [h]
  next h => simp [h]

/-- The numbered sets, and the facets that are updated by a function. -/
theorem touches_sets (x : Sys) (fs : List Facet) :
    (∀ y n v, .audioIn ∈ fs → (Touches fs x (Sys.setAin y n v) ↔ Touches fs x y)) ∧
    (∀ y n v, .audioOut ∈ fs → (Touches fs x (Sys.setAout y n v) ↔ Touches fs x y)) ∧
    (∀ y n v, .tables ∈ fs → (Touches fs x (Sys.setTable y n v) ↔ Touches fs x y)) ∧
    (∀ y n v, .zcs ∈ fs → (Touches fs x (Sys.setZc y n v) ↔ Touches fs x y)) ∧
    (∀ y n v, .rings ∈ fs → (Touches fs x (Sys.setRing y n v) ↔ Touches fs x y)) ∧
    (∀ y n v, .encs ∈ fs → (Touches fs x (Sys.setEnc y n v) ↔ Touches fs x y)) ∧
    (∀ y n v, .engines ∈ fs → (Touches fs x (Sys.setEngine y n v) ↔ Touches fs x y)) ∧
    (∀ y n v, .felley ∈ fs → (Touches fs x (Sys.setFstream y n v) ↔ Touches fs x y)) ∧
    (∀ y n v, .ctxs ∈ fs → (Touches fs x (Sys.setCtx y n v) ↔ Touches fs x y)) ∧
    (∀ y n v, .igs ∈ fs → (Touches fs x (Sys.setIg y n v) ↔ Touches fs x y)) ∧
    (∀ y n v, .ports ∈ fs → (Touches fs x (Sys.setPort y n v) ↔ Touches fs x y)) ∧
    (∀ y n v, .troupes ∈ fs → (Touches fs x (Sys.setTroupe y n v) ↔ Touches fs x y)) ∧
    (∀ y n v, .rfes ∈ fs → (Touches fs x (Sys.setRfe y n v) ↔ Touches fs x y)) ∧
    (∀ y n v, .lanes ∈ fs → (Touches fs x (Sys.setLane y n v) ↔ Touches fs x y)) ∧
    (∀ y n v, .mailboxes ∈ fs → (Touches fs x (Sys.setMail y n v) ↔ Touches fs x y)) ∧
    (∀ y n v, .tios ∈ fs → (Touches fs x (Sys.setTio y n v) ↔ Touches fs x y)) ∧
    (∀ y n v, .links ∈ fs → (Touches fs x (Sys.setLink y n v) ↔ Touches fs x y)) ∧
    (∀ y n v, .media ∈ fs → (Touches fs x (Sys.setMq y n v) ↔ Touches fs x y)) ∧
    (∀ y n v, .media ∈ fs → (Touches fs x (Sys.setRec y n v) ↔ Touches fs x y)) ∧
    (∀ y n v, .decs ∈ fs → (Touches fs x (Sys.setDec y n v) ↔ Touches fs x y)) ∧
    (∀ y n v, .positions ∈ fs → (Touches fs x (Sys.setPos y n v) ↔ Touches fs x y)) ∧
    (∀ y n v, .sec ∈ fs → (Touches fs x (Sys.setChain y n v) ↔ Touches fs x y)) ∧
    (∀ y n v, .ptp ∈ fs → (Touches fs x (Sys.setPtp y n v) ↔ Touches fs x y)) ∧
    (∀ y n v, .channels ∈ fs → (Touches fs x (Sys.setChannel y n v) ↔ Touches fs x y)) ∧
    (∀ y n v, .sdis ∈ fs → (Touches fs x (Sys.setSdi y n v) ↔ Touches fs x y)) ∧
    (∀ y n v, .edps ∈ fs → (Touches fs x (Sys.setEdp y n v) ↔ Touches fs x y)) ∧
    (∀ y g, .den ∈ fs → (Touches fs x (Sys.onDen y g) ↔ Touches fs x y)) ∧
    (∀ y g, .twin ∈ fs → (Touches fs x (Sys.onTwin y g) ↔ Touches fs x y)) ∧
    (∀ y g, .power ∈ fs → (Touches fs x (Sys.onPower y g) ↔ Touches fs x y)) ∧
    (∀ y g, .sup ∈ fs → (Touches fs x (Sys.onSupply y g) ↔ Touches fs x y)) ∧
    (∀ y g, .thermal ∈ fs → (Touches fs x (Sys.onThermal y g) ↔ Touches fs x y)) ∧
    (∀ y g, .time ∈ fs → (Touches fs x (Sys.onTime y g) ↔ Touches fs x y)) ∧
    (∀ y f, .frames ∈ fs → (Touches fs x (Sys.setFrame y f) ↔ Touches fs x y)) ∧
    (∀ y c n f, .frames ∈ fs → (Touches fs x (Sys.onFrame y c n f) ↔ Touches fs x y)) ∧
    (∀ y v, .media ∈ fs → (Touches fs x (Sys.setVol y v) ↔ Touches fs x y)) ∧
    (∀ y m, .mram ∈ fs → (Touches fs x (Sys.setMig y m) ↔ Touches fs x y)) :=
  ⟨fun _ n v h => Touches.peel_sameBut (sameBut_setAin n v h),
    fun _ n v h => Touches.peel_sameBut (sameBut_setAout n v h),
    fun _ n v h => Touches.peel_sameBut (sameBut_setTable n v h),
    fun _ n v h => Touches.peel_sameBut (sameBut_setZc n v h),
    fun _ n v h => Touches.peel_sameBut (sameBut_setRing n v h),
    fun _ n v h => Touches.peel_sameBut (sameBut_setEnc n v h),
    fun _ n v h => Touches.peel_sameBut (sameBut_setEngine n v h),
    fun _ n v h => Touches.peel_sameBut (sameBut_setFstream n v h),
    fun _ n v h => Touches.peel_sameBut (sameBut_setCtx n v h),
    fun _ n v h => Touches.peel_sameBut (sameBut_setIg n v h),
    fun _ n v h => Touches.peel_sameBut (sameBut_setPort n v h),
    fun _ n v h => Touches.peel_sameBut (sameBut_setTroupe n v h),
    fun _ n v h => Touches.peel_sameBut (sameBut_setRfe n v h),
    fun _ n v h => Touches.peel_sameBut (sameBut_setLane n v h),
    fun _ n v h => Touches.peel_sameBut (sameBut_setMail n v h),
    fun _ n v h => Touches.peel_sameBut (sameBut_setTio n v h),
    fun _ n v h => Touches.peel_sameBut (sameBut_setLink n v h),
    fun _ n v h => Touches.peel_sameBut (sameBut_setMq n v h),
    fun _ n v h => Touches.peel_sameBut (sameBut_setRec n v h),
    fun _ n v h => Touches.peel_sameBut (sameBut_setDec n v h),
    fun _ n v h => Touches.peel_sameBut (sameBut_setPos n v h),
    fun _ n v h => Touches.peel_sameBut (sameBut_setChain n v h),
    fun _ n v h => Touches.peel_sameBut (sameBut_setPtp n v h),
    fun _ n v h => Touches.peel_sameBut (sameBut_setChannel n v h),
    fun _ n v h => Touches.peel_sameBut (sameBut_setSdi n v h),
    fun _ n v h => Touches.peel_sameBut (sameBut_setEdp n v h),
    fun _ g h => Touches.peel_sameBut (sameBut_onDen g h),
    fun _ g h => Touches.peel_sameBut (sameBut_onTwin g h),
    fun _ g h => Touches.peel_sameBut (sameBut_onPower g h),
    fun _ g h => Touches.peel_sameBut (sameBut_onSupply g h),
    fun _ g h => Touches.peel_sameBut (sameBut_onThermal g h),
    fun _ g h => Touches.peel_sameBut (sameBut_onTime g h),
    fun _ f h => Touches.peel_sameBut (sameBut_setFrame f h),
    fun _ c n f h => Touches.peel_sameBut (sameBut_onFrame c n f h),
    fun _ v h => Touches.peel_sameBut (sameBut_setVol v h),
    fun _ m h => Touches.peel_sameBut (sameBut_setMig m h)⟩

/-- Updates of one facet as a whole. -/
theorem touches_fields (x : Sys) (fs : List Facet) :
    (∀ (y : Sys) v, .t96 ∈ fs → (Touches fs x { y with t96 := v } ↔ Touches fs x y)) ∧
    (∀ (y : Sys) v, .up ∈ fs → (Touches fs x { y with up := v } ↔ Touches fs x y)) ∧
    (∀ (y : Sys) v, .tx ∈ fs → (Touches fs x { y with tx := v } ↔ Touches fs x y)) ∧
    (∀ (y : Sys) v, .log ∈ fs → (Touches fs x { y with log := v } ↔ Touches fs x y)) ∧
    (∀ (y : Sys) v, .boot ∈ fs → (Touches fs x { y with boot := v } ↔ Touches fs x y)) ∧
    (∀ (y : Sys) v, .sup ∈ fs → (Touches fs x { y with sup := v } ↔ Touches fs x y)) ∧
    (∀ (y : Sys) v, .gov ∈ fs → (Touches fs x { y with gov := v } ↔ Touches fs x y)) ∧
    (∀ (y : Sys) v, .den ∈ fs → (Touches fs x { y with den := v } ↔ Touches fs x y)) ∧
    (∀ (y : Sys) v, .sec ∈ fs → (Touches fs x { y with sec := v } ↔ Touches fs x y)) ∧
    (∀ (y : Sys) v, .mram ∈ fs → (Touches fs x { y with mram := v } ↔ Touches fs x y)) ∧
    (∀ (y : Sys) v, .frames ∈ fs → (Touches fs x { y with frames := v } ↔ Touches fs x y)) ∧
    (∀ (y : Sys) v, .ctxs ∈ fs → (Touches fs x { y with ctxs := v } ↔ Touches fs x y)) ∧
    (∀ (y : Sys) v, .igs ∈ fs → (Touches fs x { y with igs := v } ↔ Touches fs x y)) ∧
    (∀ (y : Sys) v, .ports ∈ fs → (Touches fs x { y with ports := v } ↔ Touches fs x y)) ∧
    (∀ (y : Sys) v, .troupes ∈ fs → (Touches fs x { y with troupes := v } ↔ Touches fs x y)) ∧
    (∀ (y : Sys) v, .rfes ∈ fs → (Touches fs x { y with rfes := v } ↔ Touches fs x y)) ∧
    (∀ (y : Sys) v, .stores ∈ fs → (Touches fs x { y with stores := v } ↔ Touches fs x y)) ∧
    (∀ (y : Sys) v, .holds ∈ fs → (Touches fs x { y with holds := v } ↔ Touches fs x y)) ∧
    (∀ (y : Sys) v, .engines ∈ fs → (Touches fs x { y with engines := v } ↔ Touches fs x y)) ∧
    (∀ (y : Sys) v, .resident ∈ fs → (Touches fs x { y with resident := v } ↔ Touches fs x y)) ∧
    (∀ (y : Sys) v, .tables ∈ fs → (Touches fs x { y with tables := v } ↔ Touches fs x y)) ∧
    (∀ (y : Sys) v, .pages ∈ fs → (Touches fs x { y with pages := v } ↔ Touches fs x y)) ∧
    (∀ (y : Sys) v, .channels ∈ fs → (Touches fs x { y with channels := v } ↔ Touches fs x y)) ∧
    (∀ (y : Sys) v, .sdis ∈ fs → (Touches fs x { y with sdis := v } ↔ Touches fs x y)) ∧
    (∀ (y : Sys) v, .edps ∈ fs → (Touches fs x { y with edps := v } ↔ Touches fs x y)) ∧
    (∀ (y : Sys) v, .pathsDown ∈ fs → (Touches fs x { y with pathsDown := v } ↔ Touches fs x y)) ∧
    (∀ (y : Sys) v, .links ∈ fs → (Touches fs x { y with links := v } ↔ Touches fs x y)) ∧
    (∀ (y : Sys) v, .lanes ∈ fs → (Touches fs x { y with lanes := v } ↔ Touches fs x y)) ∧
    (∀ (y : Sys) v, .mailboxes ∈ fs → (Touches fs x { y with mailboxes := v } ↔ Touches fs x y)) ∧
    (∀ (y : Sys) v, .power ∈ fs → (Touches fs x { y with power := v } ↔ Touches fs x y)) ∧
    (∀ (y : Sys) v, .dram ∈ fs → (Touches fs x { y with dram := v } ↔ Touches fs x y)) ∧
    (∀ (y : Sys) v, .mem ∈ fs → (Touches fs x { y with mem := v } ↔ Touches fs x y)) ∧
    (∀ (y : Sys) v, .media ∈ fs → (Touches fs x { y with media := v } ↔ Touches fs x y)) ∧
    (∀ (y : Sys) v, .rings ∈ fs → (Touches fs x { y with rings := v } ↔ Touches fs x y)) ∧
    (∀ (y : Sys) v, .zcs ∈ fs → (Touches fs x { y with zcs := v } ↔ Touches fs x y)) ∧
    (∀ (y : Sys) v, .positions ∈ fs → (Touches fs x { y with positions := v } ↔ Touches fs x y)) ∧
    (∀ (y : Sys) v, .time ∈ fs → (Touches fs x { y with time := v } ↔ Touches fs x y)) ∧
    (∀ (y : Sys) v, .ptp ∈ fs → (Touches fs x { y with ptp := v } ↔ Touches fs x y)) ∧
    (∀ (y : Sys) v, .tios ∈ fs → (Touches fs x { y with tios := v } ↔ Touches fs x y)) ∧
    (∀ (y : Sys) v, .twin ∈ fs → (Touches fs x { y with twin := v } ↔ Touches fs x y)) ∧
    (∀ (y : Sys) v, .thermal ∈ fs → (Touches fs x { y with thermal := v } ↔ Touches fs x y)) ∧
    (∀ (y : Sys) v, .launches ∈ fs → (Touches fs x { y with launches := v } ↔ Touches fs x y)) ∧
    (∀ (y : Sys) v, .audioIn ∈ fs → (Touches fs x { y with audioIn := v } ↔ Touches fs x y)) ∧
    (∀ (y : Sys) v, .audioOut ∈ fs → (Touches fs x { y with audioOut := v } ↔ Touches fs x y)) ∧
    (∀ (y : Sys) v, .felley ∈ fs → (Touches fs x { y with felley := v } ↔ Touches fs x y)) ∧
    (∀ (y : Sys) v, .encs ∈ fs → (Touches fs x { y with encs := v } ↔ Touches fs x y)) ∧
    (∀ (y : Sys) v, .decs ∈ fs → (Touches fs x { y with decs := v } ↔ Touches fs x y)) ∧
    (∀ (y : Sys) v, .cores ∈ fs → (Touches fs x { y with cores := v } ↔ Touches fs x y)) ∧
    (∀ (y : Sys) v, .turn ∈ fs → (Touches fs x { y with turn := v } ↔ Touches fs x y)) ∧
    (∀ (y : Sys) v, Touches fs x { y with seed := v } ↔ Touches fs x y) :=
  ⟨fun _ v h => Touches.peel_sameBut ((sameBut_withT96_iff v h).2 (.refl _)),
    fun _ v h => Touches.peel_sameBut ((sameBut_withUp_iff v h).2 (.refl _)),
    fun _ v h => Touches.peel_sameBut ((sameBut_withTx_iff v h).2 (.refl _)),
    fun _ v h => Touches.peel_sameBut ((sameBut_withLog_iff v h).2 (.refl _)),
    fun _ v h => Touches.peel_sameBut ((sameBut_withBoot_iff v h).2 (.refl _)),
    fun _ v h => Touches.peel_sameBut ((sameBut_withSup_iff v h).2 (.refl _)),
    fun _ v h => Touches.peel_sameBut ((sameBut_withGov_iff v h).2 (.refl _)),
    fun _ v h => Touches.peel_sameBut ((sameBut_withDen_iff v h).2 (.refl _)),
    fun _ v h => Touches.peel_sameBut ((sameBut_withSec_iff v h).2 (.refl _)),
    fun _ v h => Touches.peel_sameBut ((sameBut_withMram_iff v h).2 (.refl _)),
    fun _ v h => Touches.peel_sameBut ((sameBut_withFrames_iff v h).2 (.refl _)),
    fun _ v h => Touches.peel_sameBut ((sameBut_withCtxs_iff v h).2 (.refl _)),
    fun _ v h => Touches.peel_sameBut ((sameBut_withIgs_iff v h).2 (.refl _)),
    fun _ v h => Touches.peel_sameBut ((sameBut_withPorts_iff v h).2 (.refl _)),
    fun _ v h => Touches.peel_sameBut ((sameBut_withTroupes_iff v h).2 (.refl _)),
    fun _ v h => Touches.peel_sameBut ((sameBut_withRfes_iff v h).2 (.refl _)),
    fun _ v h => Touches.peel_sameBut ((sameBut_withStores_iff v h).2 (.refl _)),
    fun _ v h => Touches.peel_sameBut ((sameBut_withHolds_iff v h).2 (.refl _)),
    fun _ v h => Touches.peel_sameBut ((sameBut_withEngines_iff v h).2 (.refl _)),
    fun _ v h => Touches.peel_sameBut ((sameBut_withResident_iff v h).2 (.refl _)),
    fun _ v h => Touches.peel_sameBut ((sameBut_withTables_iff v h).2 (.refl _)),
    fun _ v h => Touches.peel_sameBut ((sameBut_withPages_iff v h).2 (.refl _)),
    fun _ v h => Touches.peel_sameBut ((sameBut_withChannels_iff v h).2 (.refl _)),
    fun _ v h => Touches.peel_sameBut ((sameBut_withSdis_iff v h).2 (.refl _)),
    fun _ v h => Touches.peel_sameBut ((sameBut_withEdps_iff v h).2 (.refl _)),
    fun _ v h => Touches.peel_sameBut ((sameBut_withPathsDown_iff v h).2 (.refl _)),
    fun _ v h => Touches.peel_sameBut ((sameBut_withLinks_iff v h).2 (.refl _)),
    fun _ v h => Touches.peel_sameBut ((sameBut_withLanes_iff v h).2 (.refl _)),
    fun _ v h => Touches.peel_sameBut ((sameBut_withMailboxes_iff v h).2 (.refl _)),
    fun _ v h => Touches.peel_sameBut ((sameBut_withPower_iff v h).2 (.refl _)),
    fun _ v h => Touches.peel_sameBut ((sameBut_withDram_iff v h).2 (.refl _)),
    fun _ v h => Touches.peel_sameBut ((sameBut_withMem_iff v h).2 (.refl _)),
    fun _ v h => Touches.peel_sameBut ((sameBut_withMedia_iff v h).2 (.refl _)),
    fun _ v h => Touches.peel_sameBut ((sameBut_withRings_iff v h).2 (.refl _)),
    fun _ v h => Touches.peel_sameBut ((sameBut_withZcs_iff v h).2 (.refl _)),
    fun _ v h => Touches.peel_sameBut ((sameBut_withPositions_iff v h).2 (.refl _)),
    fun _ v h => Touches.peel_sameBut ((sameBut_withTime_iff v h).2 (.refl _)),
    fun _ v h => Touches.peel_sameBut ((sameBut_withPtp_iff v h).2 (.refl _)),
    fun _ v h => Touches.peel_sameBut ((sameBut_withTios_iff v h).2 (.refl _)),
    fun _ v h => Touches.peel_sameBut ((sameBut_withTwin_iff v h).2 (.refl _)),
    fun _ v h => Touches.peel_sameBut ((sameBut_withThermal_iff v h).2 (.refl _)),
    fun _ v h => Touches.peel_sameBut ((sameBut_withLaunches_iff v h).2 (.refl _)),
    fun _ v h => Touches.peel_sameBut ((sameBut_withAudioIn_iff v h).2 (.refl _)),
    fun _ v h => Touches.peel_sameBut ((sameBut_withAudioOut_iff v h).2 (.refl _)),
    fun _ v h => Touches.peel_sameBut ((sameBut_withFelley_iff v h).2 (.refl _)),
    fun _ v h => Touches.peel_sameBut ((sameBut_withEncs_iff v h).2 (.refl _)),
    fun _ v h => Touches.peel_sameBut ((sameBut_withDecs_iff v h).2 (.refl _)),
    fun _ v h => Touches.peel_sameBut ((sameBut_withCores_iff v h).2 (.refl _)),
    fun _ v h => Touches.peel_sameBut ((sameBut_withTurn_iff v h).2 (.refl _)),
    fun y v => Touches.peel_sameBut (.of_facets rfl rfl fun p _ => by cases p <;> rfl)⟩

theorem touches_foldl {α : Type} (g : Sys → α → Sys) (l : List α) (h : ∀ z, ∀ a ∈ l, Touches fs z (g z a)) :
    Touches fs x (l.foldl g y) ↔ Touches fs x y := by
  induction l generalizing y with
  | nil => rfl
  | cons a r ih => exact (ih fun z b hb => h z b (by simp [hb])).trans ((h y a (by simp)).peel fun _ => id)

theorem touches_upto (g : Nat → Sys → Sys) (n : Nat) (h : ∀ z, ∀ i < n, Touches fs z (g i z)) : Touches fs x (upto n g y) ↔ Touches fs x y :=
  touches_foldl (fun y i => g i y) (List.range n) fun z i hi => h z i (by simpa using hi)

/-! ## Operations that answer a status beside the state -/

theorem touches_snd_ite {α : Type} (c : Prop) [Decidable c] (a b : α × Sys) :
    Touches fs x (if c then a else b).2 ↔ (c → Touches fs x a.2) ∧ (¬ c → Touches fs x b.2) := by
  by_cases h : c
  · simp [h]
  · simp [h]

theorem touches_snd_snd_ite {α β : Type} (c : Prop) [Decidable c] (a b : α × β × Sys) :
    Touches fs x (if c then a else b).2.2 ↔ (c → Touches fs x a.2.2) ∧ (¬ c → Touches fs x b.2.2) := by
  by_cases h : c
  · simp [h]
  · simp [h]

theorem Touches.foldl_snd {α β : Type} (g : α × Sys → β → α × Sys) (l : List β) (h : ∀ a, ∀ b ∈ l, Touches fs a.2 (g a b).2) (a : α × Sys) :
    Touches fs a.2 (l.foldl g a).2 := by
  induction l generalizing a with
  | nil => exact .refl _
  | cons b r ih => exact (h a b (by simp)).trans (ih (fun a c hc => h a c (by simp [hc])) _)

/-! ## Interrupts -/

theorem touches_updateInt (y : Sys) : Touches fs x y.updateInt ↔ Touches fs x y := by
  have h : Touches fs y y.updateInt :=
    ⟨fun p _ hb => ((sameBut_updateInt (fs := [.boot]) (nums := fun _ => True) (blobs := fun _ => True) y (by simp)).1 p (by simpa using hb)),
      fun _ => ⟨y.updateInt.boot.intLow, y.boot.mbPending, y.boot.mqPending, rfl⟩⟩
  exact h.peel fun _ => id

theorem touches_mailPending (y : Sys) : Touches fs x y.mailPending ↔ Touches fs x y := by
  have h : Touches fs y y.mailPending :=
    ⟨fun p _ hb => ((sameBut_mailPending (fs := [.boot]) (nums := fun _ => True) (blobs := fun _ => True) y (by simp)).1 p (by simpa using hb)),
      fun _ => ⟨y.mailPending.boot.intLow, y.mailPending.boot.mbPending, y.boot.mqPending, rfl⟩⟩
  exact h.peel fun _ => id

end Sys2Proof.Machine
end

section
/-!
PROOFS. Which facets the operations of the model can change, from the callee to the caller: one lemma per operation, which peels it off a state.
-/

namespace Sys2Proof.Machine

variable {fs : List Facet} {x w : Sys}

theorem touches_domTo (y : Sys) (d : Nat) (st : Nat) (hs : ∀ p ∈ [Facet.log], p ∈ fs) : Touches fs x (Sys.domTo y d st) ↔ Touches fs x y := by
  refine Touches.peel (gs := [Facet.log]) ?_ hs
  unfold Sys.domTo
  simp [↓touches_primitives]

theorem touches_decWait (y : Sys) (p : Nat) : Touches fs x (Sys.decWait y p) ↔ Touches fs x y := by
  refine Touches.peel (gs := []) ?_ (by simp)
  unfold Sys.decWait
  simp [↓touches_primitives]

theorem touches_felleyPut (y : Sys) (s : Nat) (period : Nat) (frame : Nat) (boundary : Bool) (msg : Bytes) (hs : ∀ p ∈ [Facet.log, .felley], p ∈ fs) : Touches fs x (Sys.felleyPut y s period frame boundary msg).2 ↔ Touches fs x y := by
  refine Touches.peel (gs := [Facet.log, .felley]) ?_ hs
  unfold Sys.felleyPut
  simp [↓touches_primitives, ↓touches_sets, ↓touches_snd_ite]

theorem touches_felleyOffer (y : Sys) (k : FelleyKind) (src : Nat) (binding : Nat) (period : Nat) (frame : Nat) (boundary : Bool) (msg : Bytes) (hs : ∀ p ∈ [Facet.log, .felley], p ∈ fs) : Touches fs x (Sys.felleyOffer y k src binding period frame boundary msg).2 ↔ Touches fs x y := by
  refine Touches.peel (gs := [Facet.log, .felley]) ?_ hs
  unfold Sys.felleyOffer
  refine Touches.foldl_snd (a := (true, y)) _ _ fun a s _ => ?_
  exact (touches_felleyPut _ _ _ _ _ _ (fun _ => id)).2 (.refl _)

theorem touches_slpMsg (y : Sys) (x : Nat) (n : Nat) (boundary : Bool) (msg : Bytes) (hs : ∀ p ∈ [Facet.log, .felley], p ∈ fs) : Touches fs w (Sys.slpMsg y x n boundary msg) ↔ Touches fs w y := by
  refine Touches.peel (gs := [Facet.log, .felley]) ?_ hs
  unfold Sys.slpMsg
  simp [↓touches_felleyOffer]

theorem touches_completeFrame (y : Sys) (x : Nat) (n : Nat) (hs : ∀ p ∈ [Facet.log, .frames, .ctxs, .felley], p ∈ fs) : Touches fs w (Sys.completeFrame y x n) ↔ Touches fs w y := by
  refine Touches.peel (gs := [Facet.log, .frames, .ctxs, .felley]) ?_ hs
  unfold Sys.completeFrame
  dsimp only
  repeat' split
  all_goals simp [↓touches_primitives, ↓touches_slpMsg, ↓touches_sets]

theorem touches_checkComplete (y : Sys) (x : Nat) (n : Nat) (hs : ∀ p ∈ [Facet.log, .frames, .ctxs, .felley], p ∈ fs) : Touches fs w (Sys.checkComplete y x n) ↔ Touches fs w y := by
  refine Touches.peel (gs := [Facet.log, .frames, .ctxs, .felley]) ?_ hs
  unfold Sys.checkComplete
  repeat' split
  all_goals simp [↓touches_completeFrame]

theorem touches_setCtxState (y : Sys) (x : Nat) (n : Nat) (hs : ∀ p ∈ [Facet.log], p ∈ fs) : Touches fs w (Sys.setCtxState y x n) ↔ Touches fs w y := by
  refine Touches.peel (gs := [Facet.log]) ?_ hs
  unfold Sys.setCtxState
  simp [↓touches_primitives]

theorem touches_slpLineOut (y : Sys) (x : Nat) (n : Nat) (line : Nat) (hs : ∀ p ∈ [Facet.log, .felley], p ∈ fs) : Touches fs w (Sys.slpLineOut y x n line) ↔ Touches fs w y := by
  refine Touches.peel (gs := [Facet.log, .felley]) ?_ hs
  unfold Sys.slpLineOut
  repeat' split
  all_goals simp [↓touches_slpMsg]

theorem touches_substituteLine (y : Sys) (x : Nat) (n : Nat) (fg : FrameGroup) (line : Nat) (hs : ∀ p ∈ [Facet.log, .frames, .felley], p ∈ fs) : Touches fs w (Sys.substituteLine y x n fg line) ↔ Touches fs w y := by
  refine Touches.peel (gs := [Facet.log, .frames, .felley]) ?_ hs
  unfold Sys.substituteLine
  simp [↓touches_primitives, ↓touches_slpLineOut, ↓touches_sets]

theorem touches_substituteAll (y : Sys) (x : Nat) (n : Nat) (fg : FrameGroup) (lines : List Nat) (hs : ∀ p ∈ [Facet.log, .frames, .felley], p ∈ fs) : Touches fs w (Sys.substituteAll y x n fg lines) ↔ Touches fs w y := by
  refine Touches.peel (gs := [Facet.log, .frames, .felley]) ?_ hs
  unfold Sys.substituteAll
  simp (maxDischargeDepth := 7) [↓touches_substituteLine, ↓touches_foldl]

theorem touches_control (y : Sys) (k : Nat) (c : Ctl) (body : Bytes) (hs : ∀ p ∈ [Facet.tx, .log, .links], p ∈ fs) : Touches fs x (Sys.control y k c body) ↔ Touches fs x y := by
  refine Touches.peel (gs := [Facet.tx, .log, .links]) ?_ hs
  unfold Sys.control
  simp [↓touches_primitives, ↓touches_sets]

theorem touches_controlAll (y : Sys) (c : Ctl) (body : Bytes) (hs : ∀ p ∈ [Facet.tx, .log, .links], p ∈ fs) : Touches fs x (Sys.controlAll y c body) ↔ Touches fs x y := by
  refine Touches.peel (gs := [Facet.tx, .log, .links]) ?_ hs
  unfold Sys.controlAll
  simp (maxDischargeDepth := 7) [↓touches_primitives, ↓touches_control, ↓touches_foldl]

theorem touches_sendVector (y : Sys) (v : Nat) (hs : ∀ p ∈ [Facet.tx], p ∈ fs) : Touches fs x (Sys.sendVector y v) ↔ Touches fs x y := by
  refine Touches.peel (gs := [Facet.tx]) ?_ hs
  unfold Sys.sendVector
  simp [↓touches_primitives]


theorem touches_classRaised (y : Sys) (c : IrqClass) (hs : ∀ p ∈ [Facet.tx], p ∈ fs) : Touches fs x (Sys.classRaised y c) ↔ Touches fs x y := by
  refine Touches.peel (gs := [Facet.tx]) ?_ hs
  unfold Sys.classRaised
  simp [↓touches_sendVector, ↓touches_updateInt]

theorem touches_irqScan (y : Sys) (c : Nat) (b : Nat) (hs : ∀ p ∈ [Facet.tx], p ∈ fs) : Touches fs x (Sys.irqScan y c b) ↔ Touches fs x y := by
  refine Touches.peel (gs := [Facet.tx]) ?_ hs
  unfold Sys.irqScan
  simp [↓touches_primitives, ↓touches_classRaised]

theorem touches_switchOne (y : Sys) (c : Nat) (line : Nat) (reason : Nat) (under : Bool) (hs : ∀ p ∈ [Facet.tx, .channels], p ∈ fs) : Touches fs x (Sys.switchOne y c line reason under) ↔ Touches fs x y := by
  refine Touches.peel (gs := [Facet.tx, .channels]) ?_ hs
  unfold Sys.switchOne
  dsimp only
  repeat' split
  all_goals simp [↓touches_primitives, ↓touches_irqScan, ↓touches_sets]

theorem touches_switchGroup (y : Sys) (c : Nat) (line : Nat) (reason : Nat) (under : Bool) (hs : ∀ p ∈ [Facet.tx, .log, .channels, .links], p ∈ fs) : Touches fs x (Sys.switchGroup y c line reason under) ↔ Touches fs x y := by
  refine Touches.peel (gs := [Facet.tx, .log, .channels, .links]) ?_ hs
  unfold Sys.switchGroup
  dsimp only
  repeat' split
  all_goals simp (maxDischargeDepth := 7) [↓touches_primitives, ↓touches_controlAll, ↓touches_switchOne, ↓touches_foldl]

theorem touches_abandonSwitch (y : Sys) (ctx : Nat) (num : Nat) (hs : ∀ p ∈ [Facet.tx, .log, .channels, .links], p ∈ fs) : Touches fs x (Sys.abandonSwitch y ctx num) ↔ Touches fs x y := by
  refine Touches.peel (gs := [Facet.tx, .log, .channels, .links]) ?_ hs
  unfold Sys.abandonSwitch
  simp (maxDischargeDepth := 7) [↓touches_primitives, ↓touches_switchGroup, ↓touches_foldl]

theorem touches_dropStores (y : Sys) (x : Nat) (n : Nat) (hs : ∀ p ∈ [Facet.stores], p ∈ fs) : Touches fs w (Sys.dropStores y x n) ↔ Touches fs w y := by
  refine Touches.peel (gs := [Facet.stores]) ?_ hs
  unfold Sys.dropStores
  simp [↓touches_fields]

theorem touches_setRail (y : Sys) (r : RailName) (x : Rail) (hs : ∀ p ∈ [Facet.gov], p ∈ fs) : Touches fs w (Sys.setRail y r x) ↔ Touches fs w y := by
  refine Touches.peel (gs := [Facet.gov]) ?_ hs
  unfold Sys.setRail
  repeat' split
  all_goals simp [↓touches_fields]

theorem touches_watchedFrame (y : Sys) (r : RailName) (ctx : Nat) (num : Nat) (atLatch : Nat) (margin : Slack) (hs : ∀ p ∈ [Facet.log, .gov], p ∈ fs) : Touches fs x (Sys.watchedFrame y r ctx num atLatch margin) ↔ Touches fs x y := by
  refine Touches.peel (gs := [Facet.log, .gov]) ?_ hs
  unfold Sys.watchedFrame
  dsimp only
  repeat' split
  all_goals simp [↓touches_primitives, ↓touches_setRail]

theorem touches_abandon (y : Sys) (f : Frame) (hs : ∀ p ∈ [Facet.tx, .log, .gov, .frames, .stores, .channels, .links], p ∈ fs) : Touches fs x (Sys.abandon y f) ↔ Touches fs x y := by
  refine Touches.peel (gs := [Facet.tx, .log, .gov, .frames, .stores, .channels, .links]) ?_ hs
  unfold Sys.abandon
  simp [↓touches_primitives, ↓touches_abandonSwitch, ↓touches_dropStores, ↓touches_watchedFrame, ↓touches_sets]

theorem touches_tellLook (y : Sys) (f : Frame) (decision : Nat) (hs : ∀ p ∈ [Facet.tx, .log, .links], p ∈ fs) : Touches fs x (Sys.tellLook y f decision) ↔ Touches fs x y := by
  refine Touches.peel (gs := [Facet.tx, .log, .links]) ?_ hs
  unfold Sys.tellLook
  simp [↓touches_primitives, ↓touches_controlAll]

theorem touches_abandonTell (y : Sys) (f : Frame) (hs : ∀ p ∈ [Facet.tx, .log, .gov, .frames, .stores, .channels, .links], p ∈ fs) : Touches fs x (Sys.abandonTell y f) ↔ Touches fs x y := by
  refine Touches.peel (gs := [Facet.tx, .log, .gov, .frames, .stores, .channels, .links]) ?_ hs
  unfold Sys.abandonTell
  simp [↓touches_primitives, ↓touches_abandon, ↓touches_tellLook]

theorem touches_incCtx (y : Sys) (x : Nat) (sub : Nat) : Touches fs w (Sys.incCtx y x sub) ↔ Touches fs w y := by
  refine Touches.peel (gs := []) ?_ (by simp)
  unfold Sys.incCtx
  simp [↓touches_primitives]

theorem touches_truncate (y : Sys) (x : Nat) (n : Nat) (line : Nat) (hs : ∀ p ∈ [Facet.tx, .log, .gov, .frames, .stores, .channels, .links], p ∈ fs) : Touches fs w (Sys.truncate y x n line) ↔ Touches fs w y := by
  refine Touches.peel (gs := [Facet.tx, .log, .gov, .frames, .stores, .channels, .links]) ?_ hs
  unfold Sys.truncate
  dsimp only
  repeat' split
  all_goals simp [↓touches_abandonTell, ↓touches_incCtx, ↓touches_sets]

theorem touches_groupLost (y : Sys) (g : Nat) (hs : ∀ p ∈ [Facet.tx, .log, .gov, .frames, .ctxs, .igs, .stores, .channels, .links, .felley], p ∈ fs) : Touches fs x (Sys.groupLost y g) ↔ Touches fs x y := by
  refine Touches.peel (gs := [Facet.tx, .log, .gov, .frames, .ctxs, .igs, .stores, .channels, .links, .felley]) ?_ hs
  unfold Sys.groupLost
  dsimp only
  repeat' split
  all_goals simp [↓touches_primitives, ↓touches_checkComplete, ↓touches_setCtxState, ↓touches_substituteAll, ↓touches_truncate, ↓touches_sets]

theorem touches_showTime (y : Sys)  : Touches fs x (Sys.showTime y) ↔ Touches fs x y := by
  refine Touches.peel (gs := []) ?_ (by simp)
  unfold Sys.showTime
  simp [↓touches_primitives]

theorem touches_setIncr (y : Sys) (v : Nat) (hs : ∀ p ∈ [Facet.time], p ∈ fs) : Touches fs x (Sys.setIncr y v) ↔ Touches fs x y := by
  refine Touches.peel (gs := [Facet.time]) ?_ hs
  unfold Sys.setIncr
  simp [↓touches_primitives, ↓touches_sets]

theorem touches_rampTo (y : Sys) (target : Nat) (hs : ∀ p ∈ [Facet.time], p ∈ fs) : Touches fs x (Sys.rampTo y target) ↔ Touches fs x y := by
  refine Touches.peel (gs := [Facet.time]) ?_ hs
  unfold Sys.rampTo
  simp [↓touches_setIncr]

theorem touches_carryTime (y : Sys)  (hs : ∀ p ∈ [Facet.time], p ∈ fs) : Touches fs x (Sys.carryTime y) ↔ Touches fs x y := by
  refine Touches.peel (gs := [Facet.time]) ?_ hs
  unfold Sys.carryTime
  simp [↓touches_primitives, ↓touches_rampTo, ↓touches_setIncr, ↓touches_sets]

theorem touches_driftFreq (y : Sys)  (hs : ∀ p ∈ [Facet.time], p ∈ fs) : Touches fs x (Sys.driftFreq y) ↔ Touches fs x y := by
  refine Touches.peel (gs := [Facet.time]) ?_ hs
  unfold Sys.driftFreq
  simp [↓touches_primitives, ↓touches_sets]

theorem touches_endLocked (y : Sys)  (hs : ∀ p ∈ [Facet.mram, .time], p ∈ fs) : Touches fs x (Sys.endLocked y) ↔ Touches fs x y := by
  refine Touches.peel (gs := [Facet.mram, .time]) ?_ hs
  unfold Sys.endLocked
  dsimp only
  repeat' split
  all_goals simp [↓touches_sets, ↓touches_fields]

theorem touches_setTbState (y : Sys) (n : Nat) : Touches fs x (Sys.setTbState y n) ↔ Touches fs x y := by
  refine Touches.peel (gs := []) ?_ (by simp)
  unfold Sys.setTbState
  simp [↓touches_primitives]

theorem touches_beginHold (y : Sys) (tref : Bool) (hs : ∀ p ∈ [Facet.mram, .time], p ∈ fs) : Touches fs x (Sys.beginHold y tref) ↔ Touches fs x y := by
  refine Touches.peel (gs := [Facet.mram, .time]) ?_ hs
  unfold Sys.beginHold
  simp [↓touches_primitives, ↓touches_carryTime, ↓touches_driftFreq, ↓touches_endLocked, ↓touches_setTbState, ↓touches_sets]

theorem touches_endHold (y : Sys)  (hs : ∀ p ∈ [Facet.time], p ∈ fs) : Touches fs x (Sys.endHold y) ↔ Touches fs x y := by
  refine Touches.peel (gs := [Facet.time]) ?_ hs
  unfold Sys.endHold
  repeat' split
  all_goals simp [↓touches_primitives, ↓touches_sets]

theorem touches_setTbSource (y : Sys) (n : Nat) : Touches fs x (Sys.setTbSource y n) ↔ Touches fs x y := by
  refine Touches.peel (gs := []) ?_ (by simp)
  unfold Sys.setTbSource
  simp [↓touches_primitives]

theorem touches_acquire (y : Sys) (src : Nat) (hs : ∀ p ∈ [Facet.log, .mram, .time], p ∈ fs) : Touches fs x (Sys.acquire y src) ↔ Touches fs x y := by
  refine Touches.peel (gs := [Facet.log, .mram, .time]) ?_ hs
  unfold Sys.acquire
  simp [↓touches_primitives, ↓touches_carryTime, ↓touches_endHold, ↓touches_endLocked, ↓touches_setTbSource, ↓touches_setTbState, ↓touches_showTime, ↓touches_sets]

theorem touches_reselect (y : Sys)  (hs : ∀ p ∈ [Facet.log, .mram, .time], p ∈ fs) : Touches fs x (Sys.reselect y) ↔ Touches fs x y := by
  refine Touches.peel (gs := [Facet.log, .mram, .time]) ?_ hs
  unfold Sys.reselect
  dsimp only
  repeat' split
  all_goals simp [↓touches_acquire]

theorem touches_steer (y : Sys)  (hs : ∀ p ∈ [Facet.time], p ∈ fs) : Touches fs x (Sys.steer y) ↔ Touches fs x y := by
  refine Touches.peel (gs := [Facet.time]) ?_ hs
  unfold Sys.steer
  simp [↓touches_carryTime, ↓touches_driftFreq]

theorem touches_disqualify (y : Sys) (src : Nat) (reason : Nat) (hs : ∀ p ∈ [Facet.log, .mram, .time], p ∈ fs) : Touches fs x (Sys.disqualify y src reason) ↔ Touches fs x y := by
  refine Touches.peel (gs := [Facet.log, .mram, .time]) ?_ hs
  unfold Sys.disqualify
  simp [↓touches_primitives, ↓touches_beginHold, ↓touches_reselect, ↓touches_showTime, ↓touches_steer, ↓touches_sets]

theorem touches_trefGone (y : Sys)  (hs : ∀ p ∈ [Facet.time], p ∈ fs) : Touches fs x (Sys.trefGone y) ↔ Touches fs x y := by
  refine Touches.peel (gs := [Facet.time]) ?_ hs
  unfold Sys.trefGone
  simp [↓touches_carryTime, ↓touches_driftFreq, ↓touches_sets]

theorem touches_sourceFault (y : Sys) (src : Nat) (reason : Nat) (hs : ∀ p ∈ [Facet.log, .mram, .time], p ∈ fs) : Touches fs x (Sys.sourceFault y src reason) ↔ Touches fs x y := by
  refine Touches.peel (gs := [Facet.log, .mram, .time]) ?_ hs
  unfold Sys.sourceFault
  simp [↓touches_primitives, ↓touches_disqualify, ↓touches_trefGone]

theorem touches_felleyDown (y : Sys) (cause : Nat) (hs : ∀ p ∈ [Facet.tx, .log, .gov, .mram, .frames, .ctxs, .igs, .stores, .channels, .links, .time, .felley], p ∈ fs) : Touches fs x (Sys.felleyDown y cause) ↔ Touches fs x y := by
  refine Touches.peel (gs := [Facet.tx, .log, .gov, .mram, .frames, .ctxs, .igs, .stores, .channels, .links, .time, .felley]) ?_ hs
  unfold Sys.felleyDown
  simp (maxDischargeDepth := 7) [↓touches_primitives, ↓touches_decWait, ↓touches_groupLost, ↓touches_showTime, ↓touches_sourceFault, ↓touches_sets, ↓touches_fields, ↓touches_foldl]

theorem touches_garosDown (y : Sys) (k : Nat) (cause : Nat) (hs : ∀ p ∈ [Facet.log, .mram, .links, .time], p ∈ fs) : Touches fs x (Sys.garosDown y k cause) ↔ Touches fs x y := by
  refine Touches.peel (gs := [Facet.log, .mram, .links, .time]) ?_ hs
  unfold Sys.garosDown
  simp [↓touches_primitives, ↓touches_showTime, ↓touches_sourceFault, ↓touches_sets]

theorem touches_lanesLost (y : Sys) (g : Nat) (hs : ∀ p ∈ [Facet.tx, .log, .gov, .frames, .ctxs, .igs, .stores, .channels, .links, .felley], p ∈ fs) : Touches fs x (Sys.lanesLost y g) ↔ Touches fs x y := by
  refine Touches.peel (gs := [Facet.tx, .log, .gov, .frames, .ctxs, .igs, .stores, .channels, .links, .felley]) ?_ hs
  unfold Sys.lanesLost
  simp [↓touches_primitives, ↓touches_groupLost]

theorem touches_showStream (y : Sys) (n : Nat) : Touches fs x (Sys.showStream y n) ↔ Touches fs x y := by
  refine Touches.peel (gs := []) ?_ (by simp)
  unfold Sys.showStream
  simp [↓touches_primitives]

theorem touches_quadPathsDown (y : Sys) (q : Nat) (hs : ∀ p ∈ [Facet.log, .pathsDown], p ∈ fs) : Touches fs x (Sys.quadPathsDown y q) ↔ Touches fs x y := by
  refine Touches.peel (gs := [Facet.log, .pathsDown]) ?_ hs
  unfold Sys.quadPathsDown
  simp (maxDischargeDepth := 7) [↓touches_primitives, ↓touches_showStream, ↓touches_fields, ↓touches_foldl, ↓touches_upto]

theorem touches_laneDown (y : Sys) (n : Nat) (hs : ∀ p ∈ [Facet.tx, .log, .gov, .mram, .frames, .ctxs, .igs, .stores, .channels, .pathsDown, .links, .time, .felley], p ∈ fs) : Touches fs x (Sys.laneDown y n) ↔ Touches fs x y := by
  refine Touches.peel (gs := [Facet.tx, .log, .gov, .mram, .frames, .ctxs, .igs, .stores, .channels, .pathsDown, .links, .time, .felley]) ?_ hs
  unfold Sys.laneDown
  repeat' split
  all_goals simp [↓touches_felleyDown, ↓touches_garosDown, ↓touches_lanesLost, ↓touches_quadPathsDown]

theorem touches_laneFlag (y : Sys) (n : Nat) (f : LaneFlag) (v : Bool) : Touches fs x (Sys.laneFlag y n f v) ↔ Touches fs x y := by
  refine Touches.peel (gs := []) ?_ (by simp)
  unfold Sys.laneFlag
  simp [↓touches_primitives]

theorem touches_abortScan (y : Sys) (n : Nat) : Touches fs x (Sys.abortScan y n) ↔ Touches fs x y := by
  refine Touches.peel (gs := []) ?_ (by simp)
  unfold Sys.abortScan
  simp [↓touches_primitives]

theorem touches_showFrozen (y : Sys) (n : Nat) : Touches fs x (Sys.showFrozen y n) ↔ Touches fs x y := by
  refine Touches.peel (gs := []) ?_ (by simp)
  unfold Sys.showFrozen
  simp [↓touches_laneFlag]

theorem touches_showMates (y : Sys) (n : Nat) : Touches fs x (Sys.showMates y n) ↔ Touches fs x y := by
  refine Touches.peel (gs := []) ?_ (by simp)
  unfold Sys.showMates
  simp [↓touches_primitives]

theorem touches_laneTo (y : Sys) (n : Nat) (s : LaneState) : Touches fs x (Sys.laneTo y n s) ↔ Touches fs x y := by
  refine Touches.peel (gs := []) ?_ (by simp)
  unfold Sys.laneTo
  simp [↓touches_primitives, ↓touches_abortScan, ↓touches_showFrozen, ↓touches_showMates]

theorem touches_lanesOff (y : Sys) (d : Nat) (hs : ∀ p ∈ [Facet.tx, .log, .gov, .mram, .frames, .ctxs, .igs, .stores, .channels, .pathsDown, .links, .lanes, .time, .felley], p ∈ fs) : Touches fs x (Sys.lanesOff y d) ↔ Touches fs x y := by
  refine Touches.peel (gs := [Facet.tx, .log, .gov, .mram, .frames, .ctxs, .igs, .stores, .channels, .pathsDown, .links, .lanes, .time, .felley]) ?_ hs
  unfold Sys.lanesOff
  simp (maxDischargeDepth := 7) [↓touches_primitives, ↓touches_laneDown, ↓touches_laneFlag, ↓touches_laneTo, ↓touches_sets, ↓touches_foldl]

theorem touches_domainWait (y : Sys) (d : Nat) (target : Nat) (hs : ∀ p ∈ [Facet.tx, .log, .gov, .mram, .frames, .ctxs, .igs, .stores, .channels, .pathsDown, .links, .lanes, .power, .time, .felley], p ∈ fs) : Touches fs x (Sys.domainWait y d target) ↔ Touches fs x y := by
  refine Touches.peel (gs := [Facet.tx, .log, .gov, .mram, .frames, .ctxs, .igs, .stores, .channels, .pathsDown, .links, .lanes, .power, .time, .felley]) ?_ hs
  unfold Sys.domainWait
  simp [↓touches_primitives, ↓touches_domTo, ↓touches_lanesOff, ↓touches_sets]

theorem touches_abandonNum (y : Sys) (x : Nat) (n : Nat) (hs : ∀ p ∈ [Facet.tx, .log, .gov, .frames, .stores, .channels, .links], p ∈ fs) : Touches fs w (Sys.abandonNum y x n) ↔ Touches fs w y := by
  refine Touches.peel (gs := [Facet.tx, .log, .gov, .frames, .stores, .channels, .links]) ?_ hs
  unfold Sys.abandonNum
  repeat' split
  all_goals simp [↓touches_abandonTell]

theorem touches_reducedEvent (y : Sys) (f : Frame) (mark : Nat) (stripe : Nat) (hs : ∀ p ∈ [Facet.log], p ∈ fs) : Touches fs x (Sys.reducedEvent y f mark stripe) ↔ Touches fs x y := by
  refine Touches.peel (gs := [Facet.log]) ?_ hs
  unfold Sys.reducedEvent
  simp [↓touches_primitives]

theorem touches_seamFrame (y : Sys) (f : Frame) (hs : ∀ p ∈ [Facet.log, .frames, .ctxs], p ∈ fs) : Touches fs x (Sys.seamFrame y f) ↔ Touches fs x y := by
  refine Touches.peel (gs := [Facet.log, .frames, .ctxs]) ?_ hs
  unfold Sys.seamFrame
  simp [↓touches_reducedEvent, ↓touches_sets]

theorem touches_checkSeam (y : Sys) (f : Frame) (hs : ∀ p ∈ [Facet.tx, .log, .frames, .ctxs, .links], p ∈ fs) : Touches fs x (Sys.checkSeam y f) ↔ Touches fs x y := by
  refine Touches.peel (gs := [Facet.tx, .log, .frames, .ctxs, .links]) ?_ hs
  unfold Sys.checkSeam
  simp [↓touches_primitives, ↓touches_seamFrame, ↓touches_tellLook]

theorem touches_checkSeams (y : Sys)  (hs : ∀ p ∈ [Facet.tx, .log, .frames, .ctxs, .links], p ∈ fs) : Touches fs x (Sys.checkSeams y) ↔ Touches fs x y := by
  refine Touches.peel (gs := [Facet.tx, .log, .frames, .ctxs, .links]) ?_ hs
  unfold Sys.checkSeams
  simp (maxDischargeDepth := 7) [↓touches_checkSeam, ↓touches_foldl]

theorem touches_countSlots (y : Sys) (e : Nat) : Touches fs x (Sys.countSlots y e) ↔ Touches fs x y := by
  refine Touches.peel (gs := []) ?_ (by simp)
  unfold Sys.countSlots
  simp [↓touches_primitives]

theorem touches_clearEngines (y : Sys) (t : Nat) (hs : ∀ p ∈ [Facet.engines], p ∈ fs) : Touches fs x (Sys.clearEngines y t) ↔ Touches fs x y := by
  refine Touches.peel (gs := [Facet.engines]) ?_ hs
  unfold Sys.clearEngines
  simp (maxDischargeDepth := 7) [↓touches_primitives, ↓touches_countSlots, ↓touches_sets, ↓touches_upto]

theorem touches_freeBufs (y : Sys) (t : Nat) (hs : ∀ p ∈ [Facet.frames, .troupes], p ∈ fs) : Touches fs x (Sys.freeBufs y t) ↔ Touches fs x y := by
  refine Touches.peel (gs := [Facet.frames, .troupes]) ?_ hs
  unfold Sys.freeBufs
  simp (maxDischargeDepth := 7) [↓touches_sets, ↓touches_foldl]

theorem touches_moverStep (y : Sys) (t : Nat) (hs : ∀ p ∈ [Facet.frames, .troupes], p ∈ fs) : Touches fs x (Sys.moverStep y t) ↔ Touches fs x y := by
  refine Touches.peel (gs := [Facet.frames, .troupes]) ?_ hs
  unfold Sys.moverStep
  dsimp only
  repeat' split
  all_goals simp [↓touches_freeBufs, ↓touches_sets]

theorem touches_freeDone (y : Sys) (t : Nat) (hs : ∀ p ∈ [Facet.frames, .troupes], p ∈ fs) : Touches fs x (Sys.freeDone y t) ↔ Touches fs x y := by
  refine Touches.peel (gs := [Facet.frames, .troupes]) ?_ hs
  unfold Sys.freeDone
  simp (maxDischargeDepth := 7) [↓touches_freeBufs, ↓touches_moverStep, ↓touches_upto]

theorem touches_dispatchReady (y : Sys) (t : Nat) (hs : ∀ p ∈ [Facet.frames, .troupes], p ∈ fs) : Touches fs x (Sys.dispatchReady y t) ↔ Touches fs x y := by
  refine Touches.peel (gs := [Facet.frames, .troupes]) ?_ hs
  unfold Sys.dispatchReady
  simp [↓touches_freeDone, ↓touches_sets]

theorem touches_onBuf (y : Sys) (t : Nat) (b : SegBuf) (h : SegBuf → SegBuf) (hs : ∀ p ∈ [Facet.troupes], p ∈ fs) : Touches fs x (Sys.onBuf y t b h) ↔ Touches fs x y := by
  refine Touches.peel (gs := [Facet.troupes]) ?_ hs
  unfold Sys.onBuf
  simp [↓touches_sets]

theorem touches_fillBuf (y : Sys) (t : Nat) (f : Frame) (b : SegBuf) (hs : ∀ p ∈ [Facet.troupes], p ∈ fs) : Touches fs x (Sys.fillBuf y t f b) ↔ Touches fs x y := by
  refine Touches.peel (gs := [Facet.troupes]) ?_ hs
  unfold Sys.fillBuf
  simp [↓touches_primitives, ↓touches_onBuf]

theorem touches_fillEdges (y : Sys)  (hs : ∀ p ∈ [Facet.frames, .troupes], p ∈ fs) : Touches fs x (Sys.fillEdges y) ↔ Touches fs x y := by
  refine Touches.peel (gs := [Facet.frames, .troupes]) ?_ hs
  unfold Sys.fillEdges
  refine (touches_foldl _ _ fun z t _ => ?_).2 (.refl y)
  rw [touches_dispatchReady _ _ (by simp)]
  refine (touches_foldl _ _ fun v b _ => ?_).2 (.refl z)
  split
  · exact (touches_fillBuf _ _ _ _ (by simp)).2 (.refl v)
  · exact .refl v

theorem touches_shutOutCheck (y : Sys)  (hs : ∀ p ∈ [Facet.tx, .log, .gov, .frames, .ctxs, .stores, .channels, .links], p ∈ fs) : Touches fs x (Sys.shutOutCheck y) ↔ Touches fs x y := by
  refine Touches.peel (gs := [Facet.tx, .log, .gov, .frames, .ctxs, .stores, .channels, .links]) ?_ hs
  unfold Sys.shutOutCheck
  simp (maxDischargeDepth := 7) [↓touches_primitives, ↓touches_abandonTell, ↓touches_sets, ↓touches_foldl]

theorem touches_troupesOpen (y : Sys)  : Touches fs x (Sys.troupesOpen y) ↔ Touches fs x y := by
  refine Touches.peel (gs := []) ?_ (by simp)
  unfold Sys.troupesOpen
  simp [↓touches_primitives]

theorem touches_fenceTroupe (y : Sys) (t : Nat) (cause : Nat) (hs : ∀ p ∈ [Facet.tx, .log, .gov, .frames, .ctxs, .troupes, .stores, .engines, .pages, .channels, .links], p ∈ fs) : Touches fs x (Sys.fenceTroupe y t cause) ↔ Touches fs x y := by
  refine Touches.peel (gs := [Facet.tx, .log, .gov, .frames, .ctxs, .troupes, .stores, .engines, .pages, .channels, .links]) ?_ hs
  unfold Sys.fenceTroupe
  dsimp only
  repeat' split
  all_goals simp [↓touches_primitives, ↓touches_abandonNum, ↓touches_checkSeams, ↓touches_clearEngines, ↓touches_fillEdges, ↓touches_shutOutCheck, ↓touches_troupesOpen, ↓touches_sets, ↓touches_fields]

theorem touches_discardTail (y : Sys) (n : Nat) (hs : ∀ p ∈ [Facet.log, .zcs], p ∈ fs) : Touches fs x (Sys.discardTail y n) ↔ Touches fs x y := by
  refine Touches.peel (gs := [Facet.log, .zcs]) ?_ hs
  unfold Sys.discardTail
  simp [↓touches_primitives, ↓touches_sets]

theorem touches_markEvent (y : Sys) (e : Nat) (m : Nat) (what : Nat) (frame : Nat) (hs : ∀ p ∈ [Facet.log], p ∈ fs) : Touches fs x (Sys.markEvent y e m what frame) ↔ Touches fs x y := by
  refine Touches.peel (gs := [Facet.log]) ?_ hs
  unfold Sys.markEvent
  simp [↓touches_primitives]

theorem touches_showMarks (y : Sys) (e : Nat) : Touches fs x (Sys.showMarks y e) ↔ Touches fs x y := by
  refine Touches.peel (gs := []) ?_ (by simp)
  unfold Sys.showMarks
  simp [↓touches_primitives]

theorem touches_dropMarks (y : Sys) (e : Nat) (hs : ∀ p ∈ [Facet.log, .encs], p ∈ fs) : Touches fs x (Sys.dropMarks y e) ↔ Touches fs x y := by
  refine Touches.peel (gs := [Facet.log, .encs]) ?_ hs
  unfold Sys.dropMarks
  simp only [↓touches_showMarks]
  refine (touches_foldl _ _ fun z m _ => ?_).2 ?_
  · split <;> simp [↓touches_markEvent]
  · simp [↓touches_sets]

theorem touches_edpOff (y : Sys) (p : Nat) (st : Nat) (hs : ∀ p ∈ [Facet.edps], p ∈ fs) : Touches fs x (Sys.edpOff y p st) ↔ Touches fs x y := by
  refine Touches.peel (gs := [Facet.edps]) ?_ hs
  unfold Sys.edpOff
  simp [↓touches_primitives, ↓touches_sets]

theorem touches_showChannel (y : Sys) (c : Nat) : Touches fs x (Sys.showChannel y c) ↔ Touches fs x y := by
  refine Touches.peel (gs := []) ?_ (by simp)
  unfold Sys.showChannel
  simp [↓touches_primitives]

theorem touches_showSdo (y : Sys)  : Touches fs x (Sys.showSdo y) ↔ Touches fs x y := by
  refine Touches.peel (gs := []) ?_ (by simp)
  unfold Sys.showSdo
  simp (maxDischargeDepth := 7) [↓touches_primitives, ↓touches_upto]

theorem touches_domainStop (y : Sys) (d : Nat) (hs : ∀ p ∈ [Facet.tx, .log, .gov, .mram, .frames, .ctxs, .igs, .stores, .holds, .channels, .sdis, .edps, .pathsDown, .links, .lanes, .zcs, .time, .felley, .encs, .decs], p ∈ fs) : Touches fs x (Sys.domainStop y d) ↔ Touches fs x y := by
  refine Touches.peel (gs := [Facet.tx, .log, .gov, .mram, .frames, .ctxs, .igs, .stores, .holds, .channels, .sdis, .edps, .pathsDown, .links, .lanes, .zcs, .time, .felley, .encs, .decs]) ?_ hs
  unfold Sys.domainStop
  simp (maxDischargeDepth := 7) [↓touches_primitives, ↓touches_decWait, ↓touches_discardTail, ↓touches_dropMarks, ↓touches_edpOff, ↓touches_lanesOff, ↓touches_showChannel, ↓touches_showSdo, ↓touches_sets, ↓touches_fields, ↓touches_upto]

theorem touches_dramRetain (y : Sys)  (hs : ∀ p ∈ [Facet.dram, .mem], p ∈ fs) : Touches fs x (Sys.dramRetain y) ↔ Touches fs x y := by
  refine Touches.peel (gs := [Facet.dram, .mem]) ?_ hs
  have h : SameBut [Facet.dram, .mem] (fun _ => True) (fun _ => True) y y.dramRetain :=
    .of_facets rfl rfl fun p hp => by cases p with | dram | mem => simp at hp | _ => rfl
  exact h.touches fun _ => id

theorem touches_edpPower (y : Sys) (p : Nat) (hs : ∀ p ∈ [Facet.log, .edps], p ∈ fs) : Touches fs x (Sys.edpPower y p) ↔ Touches fs x y := by
  refine Touches.peel (gs := [Facet.log, .edps]) ?_ hs
  unfold Sys.edpPower
  simp [↓touches_primitives, ↓touches_sets]

theorem touches_encResume (y : Sys) (e : Nat) (tell : Bool) (hs : ∀ p ∈ [Facet.log, .encs], p ∈ fs) : Touches fs x (Sys.encResume y e tell) ↔ Touches fs x y := by
  refine Touches.peel (gs := [Facet.log, .encs]) ?_ hs
  unfold Sys.encResume
  simp [↓touches_primitives, ↓touches_sets]

theorem touches_laneRest (y : Sys) (n : Nat) (s : LaneState) (hs : ∀ p ∈ [Facet.tx, .log, .gov, .mram, .frames, .ctxs, .igs, .stores, .channels, .pathsDown, .links, .lanes, .time, .felley], p ∈ fs) : Touches fs x (Sys.laneRest y n s) ↔ Touches fs x y := by
  refine Touches.peel (gs := [Facet.tx, .log, .gov, .mram, .frames, .ctxs, .igs, .stores, .channels, .pathsDown, .links, .lanes, .time, .felley]) ?_ hs
  unfold Sys.laneRest
  simp [↓touches_primitives, ↓touches_laneDown, ↓touches_laneFlag, ↓touches_laneTo, ↓touches_sets]

theorem touches_laneStart (y : Sys) (n : Nat) (hs : ∀ p ∈ [Facet.lanes], p ∈ fs) : Touches fs x (Sys.laneStart y n) ↔ Touches fs x y := by
  refine Touches.peel (gs := [Facet.lanes]) ?_ hs
  unfold Sys.laneStart
  simp [↓touches_primitives, ↓touches_laneTo, ↓touches_sets]

theorem touches_laneResume (y : Sys) (n : Nat) (hs : ∀ p ∈ [Facet.lanes], p ∈ fs) : Touches fs x (Sys.laneResume y n) ↔ Touches fs x y := by
  refine Touches.peel (gs := [Facet.lanes]) ?_ hs
  unfold Sys.laneResume
  simp [↓touches_laneTo, ↓touches_sets]

theorem touches_trainOut (y : Sys) (n : Nat) (count : Option Nat) (hs : ∀ p ∈ [Facet.tx, .lanes], p ∈ fs) : Touches fs x (Sys.trainOut y n count) ↔ Touches fs x y := by
  refine Touches.peel (gs := [Facet.tx, .lanes]) ?_ hs
  unfold Sys.trainOut
  simp [↓touches_primitives, ↓touches_sets]

theorem touches_transmit (y : Sys) (n : Nat) (hs : ∀ p ∈ [Facet.tx, .lanes], p ∈ fs) : Touches fs x (Sys.transmit y n) ↔ Touches fs x y := by
  refine Touches.peel (gs := [Facet.tx, .lanes]) ?_ hs
  unfold Sys.transmit
  dsimp only
  repeat' split
  all_goals simp [↓touches_primitives, ↓touches_trainOut, ↓touches_sets]

theorem touches_laneWake (y : Sys) (n : Nat) (hs : ∀ p ∈ [Facet.tx, .lanes], p ∈ fs) : Touches fs x (Sys.laneWake y n) ↔ Touches fs x y := by
  refine Touches.peel (gs := [Facet.tx, .lanes]) ?_ hs
  unfold Sys.laneWake
  simp [↓touches_primitives, ↓touches_laneFlag, ↓touches_laneResume, ↓touches_laneTo, ↓touches_transmit, ↓touches_sets]

theorem touches_linkHello (y : Sys) (q : Nat) (hs : ∀ p ∈ [Facet.tx, .log, .links], p ∈ fs) : Touches fs x (Sys.linkHello y q) ↔ Touches fs x y := by
  refine Touches.peel (gs := [Facet.tx, .log, .links]) ?_ hs
  unfold Sys.linkHello
  dsimp only
  repeat' split
  all_goals simp [↓touches_control]

theorem touches_restorePaths (y : Sys) (n : Nat) (hs : ∀ p ∈ [Facet.log, .pathsDown], p ∈ fs) : Touches fs x (Sys.restorePaths y n) ↔ Touches fs x y := by
  refine Touches.peel (gs := [Facet.log, .pathsDown]) ?_ hs
  unfold Sys.restorePaths
  simp (maxDischargeDepth := 7) [↓touches_primitives, ↓touches_showStream, ↓touches_fields, ↓touches_foldl]

theorem touches_quadCameUp (y : Sys) (q : Nat) (hs : ∀ p ∈ [Facet.tx, .log, .pathsDown, .links], p ∈ fs) : Touches fs x (Sys.quadCameUp y q) ↔ Touches fs x y := by
  refine Touches.peel (gs := [Facet.tx, .log, .pathsDown, .links]) ?_ hs
  unfold Sys.quadCameUp
  repeat' split
  all_goals simp (maxDischargeDepth := 7) [↓touches_linkHello, ↓touches_restorePaths, ↓touches_upto]

theorem touches_lanesReady (y : Sys) (n : Nat) (hs : ∀ p ∈ [Facet.tx, .log, .gov, .mram, .frames, .ctxs, .igs, .stores, .channels, .pathsDown, .links, .lanes, .time, .felley], p ∈ fs) : Touches fs x (Sys.lanesReady y n) ↔ Touches fs x y := by
  refine Touches.peel (gs := [Facet.tx, .log, .gov, .mram, .frames, .ctxs, .igs, .stores, .channels, .pathsDown, .links, .lanes, .time, .felley]) ?_ hs
  unfold Sys.lanesReady
  extract_lets on quad trains wasUp z
  have hz : Touches [Facet.tx, .log, .gov, .mram, .frames, .ctxs, .igs, .stores, .channels, .pathsDown, .links, .lanes, .time, .felley] y z := by
    refine (touches_foldl _ _ fun v m _ => ?_).2 (.refl y)
    extract_lets u v1 v2
    split
    · exact .refl v
    · have h1 : Touches [Facet.tx, .log, .gov, .mram, .frames, .ctxs, .igs, .stores, .channels, .pathsDown, .links, .lanes, .time, .felley] v v1 := by
        unfold v1
        split <;> simp [↓touches_primitives]
      split <;> simpa [v2, ↓touches_laneRest, ↓touches_laneTo, ↓touches_sets] using h1
  split
  · exact .refl y
  · split
    · exact (touches_quadCameUp _ _ (by simp)).2 hz
    · exact hz

theorem touches_laneRequest (y : Sys) (n : Nat) (v : Nat) (hs : ∀ p ∈ [Facet.tx, .log, .gov, .mram, .frames, .ctxs, .igs, .stores, .channels, .pathsDown, .links, .lanes, .time, .felley], p ∈ fs) : Touches fs x (Sys.laneRequest y n v).2 ↔ Touches fs x y := by
  refine Touches.peel (gs := [Facet.tx, .log, .gov, .mram, .frames, .ctxs, .igs, .stores, .channels, .pathsDown, .links, .lanes, .time, .felley]) ?_ hs
  unfold Sys.laneRequest
  dsimp only
  repeat' split
  all_goals simp [↓touches_primitives, ↓touches_laneRest, ↓touches_laneStart, ↓touches_laneWake, ↓touches_lanesReady, ↓touches_showMates, ↓touches_sets]

theorem touches_lanesOn (y : Sys) (d : Nat) (hs : ∀ p ∈ [Facet.tx, .log, .gov, .mram, .frames, .ctxs, .igs, .stores, .channels, .pathsDown, .links, .lanes, .time, .felley], p ∈ fs) : Touches fs x (Sys.lanesOn y d) ↔ Touches fs x y := by
  refine Touches.peel (gs := [Facet.tx, .log, .gov, .mram, .frames, .ctxs, .igs, .stores, .channels, .pathsDown, .links, .lanes, .time, .felley]) ?_ hs
  unfold Sys.lanesOn
  simp (maxDischargeDepth := 7) [↓touches_primitives, ↓touches_laneRequest, ↓touches_laneTo, ↓touches_sets, ↓touches_foldl]

theorem touches_restartRaster (y : Sys) (c : Nat) (cause : Nat) (hs : ∀ p ∈ [Facet.channels], p ∈ fs) : Touches fs x (Sys.restartRaster y c cause) ↔ Touches fs x y := by
  refine Touches.peel (gs := [Facet.channels]) ?_ hs
  unfold Sys.restartRaster
  simp [↓touches_showChannel, ↓touches_showSdo, ↓touches_sets]

theorem touches_troupeBack (y : Sys) (t : Nat) (from_ : Nat) (hs : ∀ p ∈ [Facet.engines, .resident, .pages], p ∈ fs) : Touches fs x (Sys.troupeBack y t from_) ↔ Touches fs x y := by
  refine Touches.peel (gs := [Facet.engines, .resident, .pages]) ?_ hs
  unfold Sys.troupeBack
  extract_lets kept y1 y2
  have h1 : Touches [Facet.engines, .resident, .pages] y y1 := by simp [y1, ↓touches_primitives, ↓touches_fields]
  have h2 : Touches [Facet.engines, .resident, .pages] y y2 := by simp [y2, ↓touches_primitives, ↓touches_fields, h1]
  split
  · exact h2
  · refine (touches_upto _ _ fun z k _ => ?_).2 h2
    simp [↓touches_fields, ↓touches_sets]

theorem touches_domainStart (y : Sys) (d : Nat) (from_ : Nat) (hs : ∀ p ∈ [Facet.tx, .log, .gov, .mram, .frames, .ctxs, .igs, .stores, .engines, .resident, .pages, .channels, .edps, .pathsDown, .links, .lanes, .dram, .mem, .time, .felley, .encs], p ∈ fs) : Touches fs x (Sys.domainStart y d from_) ↔ Touches fs x y := by
  refine Touches.peel (gs := [Facet.tx, .log, .gov, .mram, .frames, .ctxs, .igs, .stores, .engines, .resident, .pages, .channels, .edps, .pathsDown, .links, .lanes, .dram, .mem, .time, .felley, .encs]) ?_ hs
  unfold Sys.domainStart
  simp (maxDischargeDepth := 7) [↓touches_primitives, ↓touches_dramRetain, ↓touches_edpPower, ↓touches_encResume, ↓touches_lanesOn, ↓touches_restartRaster, ↓touches_troupeBack, ↓touches_upto]

theorem touches_emptyPair (y : Sys) (p : Nat) (cause : Nat) (hs : ∀ p ∈ [Facet.log, .mailboxes], p ∈ fs) : Touches fs x (Sys.emptyPair y p cause) ↔ Touches fs x y := by
  refine Touches.peel (gs := [Facet.log, .mailboxes]) ?_ hs
  unfold Sys.emptyPair
  simp [↓touches_primitives, ↓touches_sets]

theorem touches_launchDiscard (y : Sys) (e : Launch) (late : Nat) (reason : Nat) (hs : ∀ p ∈ [Facet.log], p ∈ fs) : Touches fs x (Sys.launchDiscard y e late reason) ↔ Touches fs x y := by
  refine Touches.peel (gs := [Facet.log]) ?_ hs
  unfold Sys.launchDiscard
  simp [↓touches_primitives]

theorem touches_setLaunches (y : Sys) (l : List Launch) (hs : ∀ p ∈ [Facet.launches], p ∈ fs) : Touches fs x (Sys.setLaunches y l) ↔ Touches fs x y := by
  refine Touches.peel (gs := [Facet.launches]) ?_ hs
  unfold Sys.setLaunches
  simp [↓touches_primitives, ↓touches_fields]

theorem touches_noteLoads (y : Sys) (f : Frame) (hs : ∀ p ∈ [Facet.resident, .pages], p ∈ fs) : Touches fs x (Sys.noteLoads y f) ↔ Touches fs x y := by
  refine Touches.peel (gs := [Facet.resident, .pages]) ?_ hs
  have h : SameBut [Facet.resident, .pages] (fun _ => True) (fun _ => True) y (y.noteLoads f) :=
    .of_facets rfl rfl fun p hp => by cases p with | resident | pages => simp at hp | _ => rfl
  exact h.touches fun _ => id

theorem touches_noteWaits (y : Sys)  (hs : ∀ p ∈ [Facet.ctxs, .resident, .pages], p ∈ fs) : Touches fs x (Sys.noteWaits y) ↔ Touches fs x y := by
  refine Touches.peel (gs := [Facet.ctxs, .resident, .pages]) ?_ hs
  unfold Sys.noteWaits
  refine (touches_foldl _ _ fun z n _ => ?_).2 (.refl y)
  split
  · simp [↓touches_primitives, ↓touches_noteLoads, ↓touches_sets]
  · exact .refl z

theorem touches_blackHeld (y : Sys) (f : Frame) (k : Nat) (m : Option W32) (hs : ∀ p ∈ [Facet.log], p ∈ fs) : Touches fs x (Sys.blackHeld y f k m).2 ↔ Touches fs x y := by
  refine Touches.peel (gs := [Facet.log]) ?_ hs
  unfold Sys.blackHeld
  simp [↓touches_primitives]

theorem touches_blackMeasured (y : Sys) (f : Frame) (top : Bool) (k : Nat) (hs : ∀ p ∈ [Facet.log, .ctxs], p ∈ fs) : Touches fs x (Sys.blackMeasured y f top k).2 ↔ Touches fs x y := by
  refine Touches.peel (gs := [Facet.log, .ctxs]) ?_ hs
  unfold Sys.blackMeasured
  dsimp only
  repeat' split
  all_goals simp [↓touches_blackHeld, ↓touches_sets]

theorem touches_measureBlack (y : Sys) (f : Frame) (top : Bool) (hs : ∀ p ∈ [Facet.log, .ctxs], p ∈ fs) : Touches fs x (Sys.measureBlack y f top).2 ↔ Touches fs x y := by
  refine Touches.peel (gs := [Facet.log, .ctxs]) ?_ hs
  unfold Sys.measureBlack
  refine Touches.foldl_snd (α := List W32) _ _ (fun a k _ => ?_) ([], y)
  exact (touches_blackMeasured _ _ _ _ (fun _ => id)).2 (.refl _)

theorem touches_decideBlack (y : Sys) (f : Frame) (hs : ∀ p ∈ [Facet.log, .frames, .ctxs], p ∈ fs) : Touches fs x (Sys.decideBlack y f) ↔ Touches fs x y := by
  refine Touches.peel (gs := [Facet.log, .frames, .ctxs]) ?_ hs
  unfold Sys.decideBlack
  simp [↓touches_primitives, ↓touches_measureBlack, ↓touches_sets]

theorem touches_decideLook (y : Sys) (f : Frame) (hs : ∀ p ∈ [Facet.log, .frames, .ctxs], p ∈ fs) : Touches fs x (Sys.decideLook y f) ↔ Touches fs x y := by
  refine Touches.peel (gs := [Facet.log, .frames, .ctxs]) ?_ hs
  unfold Sys.decideLook
  simp [↓touches_primitives, ↓touches_reducedEvent, ↓touches_sets]

theorem touches_mailIrq (y : Sys) (m : Nat) (hs : ∀ p ∈ [Facet.tx], p ∈ fs) : Touches fs x (Sys.mailIrq y m) ↔ Touches fs x y := by
  refine Touches.peel (gs := [Facet.tx]) ?_ hs
  unfold Sys.mailIrq
  simp [↓touches_mailPending, ↓touches_sendVector]

theorem touches_mailAccept (y : Sys) (m : Nat) (hs : ∀ p ∈ [Facet.tx, .mailboxes], p ∈ fs) : Touches fs x (Sys.mailAccept y m) ↔ Touches fs x y := by
  refine Touches.peel (gs := [Facet.tx, .mailboxes]) ?_ hs
  unfold Sys.mailAccept
  simp [↓touches_primitives, ↓touches_mailIrq, ↓touches_mailPending, ↓touches_sets]

theorem touches_mailBusy (y : Sys) (m : Nat) (hs : ∀ p ∈ [Facet.tx, .mailboxes], p ∈ fs) : Touches fs x (Sys.mailBusy y m) ↔ Touches fs x y := by
  refine Touches.peel (gs := [Facet.tx, .mailboxes]) ?_ hs
  unfold Sys.mailBusy
  simp [↓touches_primitives, ↓touches_mailIrq, ↓touches_sets]

theorem touches_mailTry (y : Sys) (m : Nat) (hs : ∀ p ∈ [Facet.tx, .mailboxes], p ∈ fs) : Touches fs x (Sys.mailTry y m) ↔ Touches fs x y := by
  refine Touches.peel (gs := [Facet.tx, .mailboxes]) ?_ hs
  unfold Sys.mailTry
  simp [↓touches_primitives, ↓touches_mailAccept, ↓touches_mailBusy]

theorem touches_mailSend (y : Sys) (m : Nat) (msg : Bytes) (hs : ∀ p ∈ [Facet.tx, .mailboxes, .power], p ∈ fs) : Touches fs x (Sys.mailSend y m msg) ↔ Touches fs x y := by
  refine Touches.peel (gs := [Facet.tx, .mailboxes, .power]) ?_ hs
  unfold Sys.mailSend
  simp [↓touches_primitives, ↓touches_mailTry, ↓touches_sets]

theorem touches_railTo (y : Sys) (r : RailName) (v : Nat) : Touches fs x (Sys.railTo y r v) ↔ Touches fs x y := by
  refine Touches.peel (gs := []) ?_ (by simp)
  unfold Sys.railTo
  simp [↓touches_primitives]

theorem touches_preRaise (y : Sys) (r : RailName) (predicted : Nat) (ctx : Nat) (first : Nat) (hs : ∀ p ∈ [Facet.gov], p ∈ fs) : Touches fs x (Sys.preRaise y r predicted ctx first) ↔ Touches fs x y := by
  refine Touches.peel (gs := [Facet.gov]) ?_ hs
  unfold Sys.preRaise
  simp [↓touches_primitives, ↓touches_railTo, ↓touches_setRail]

theorem touches_raiseAhead (y : Sys) (x : Nat) (target : Option Nat) (before : Nat × Nat) (after : Nat × Nat) (hs : ∀ p ∈ [Facet.gov], p ∈ fs) : Touches fs w (Sys.raiseAhead y x target before after) ↔ Touches fs w y := by
  refine Touches.peel (gs := [Facet.gov]) ?_ hs
  unfold Sys.raiseAhead
  dsimp only
  repeat' split
  all_goals simp [↓touches_preRaise]

theorem touches_showAdmitted (y : Sys) (g : Gen) : Touches fs x (Sys.showAdmitted y g) ↔ Touches fs x y := by
  refine Touches.peel (gs := []) ?_ (by simp)
  unfold Sys.showAdmitted
  simp (maxDischargeDepth := 7) [↓touches_primitives, ↓touches_upto]

theorem touches_showRates (y : Sys) (members : List (Nat × Bytes)) : Touches fs x (Sys.showRates y members) ↔ Touches fs x y := by
  refine Touches.peel (gs := []) ?_ (by simp)
  unfold Sys.showRates
  simp [↓touches_primitives, ↓touches_showAdmitted]

theorem touches_frontReply (y : Sys) (via : Nat × Nat) (st : Status) (k : Nat) (pos : Nat) (value : Bytes) (hs : ∀ p ∈ [Facet.tx, .log, .links], p ∈ fs) : Touches fs x (Sys.frontReply y via st k pos value) ↔ Touches fs x y := by
  refine Touches.peel (gs := [Facet.tx, .log, .links]) ?_ hs
  unfold Sys.frontReply
  simp [↓touches_control]

theorem touches_showSessions (y : Sys)  : Touches fs x (Sys.showSessions y) ↔ Touches fs x y := by
  refine Touches.peel (gs := []) ?_ (by simp)
  unfold Sys.showSessions
  simp [↓touches_primitives]

theorem touches_closeSession (y : Sys) (id : Nat) (hs : ∀ p ∈ [Facet.den], p ∈ fs) : Touches fs x (Sys.closeSession y id) ↔ Touches fs x y := by
  refine Touches.peel (gs := [Facet.den]) ?_ hs
  unfold Sys.closeSession
  simp [↓touches_showSessions, ↓touches_sets]

theorem touches_lastAnswered (y : Sys) (sid : Nat) (counter : Nat) (hs : ∀ p ∈ [Facet.den], p ∈ fs) : Touches fs x (Sys.lastAnswered y sid counter) ↔ Touches fs x y := by
  refine Touches.peel (gs := [Facet.den]) ?_ hs
  unfold Sys.lastAnswered
  simp [↓touches_primitives, ↓touches_closeSession]

theorem touches_controlTwin (y : Sys) (c : Ctl) (body : Bytes) (hs : ∀ p ∈ [Facet.tx, .log, .links], p ∈ fs) : Touches fs x (Sys.controlTwin y c body) ↔ Touches fs x y := by
  refine Touches.peel (gs := [Facet.tx, .log, .links]) ?_ hs
  unfold Sys.controlTwin
  simp (maxDischargeDepth := 7) [↓touches_primitives, ↓touches_control, ↓touches_foldl]

theorem touches_rearm (y : Sys)  (hs : ∀ p ∈ [Facet.log], p ∈ fs) : Touches fs x (Sys.rearm y) ↔ Touches fs x y := by
  refine Touches.peel (gs := [Facet.log]) ?_ hs
  unfold Sys.rearm
  simp [↓touches_primitives]

theorem touches_mirrorAnswer (y : Sys) (number : Nat) (st : Status) (hs : ∀ p ∈ [Facet.tx, .log, .links, .twin], p ∈ fs) : Touches fs x (Sys.mirrorAnswer y number st) ↔ Touches fs x y := by
  refine Touches.peel (gs := [Facet.tx, .log, .links, .twin]) ?_ hs
  unfold Sys.mirrorAnswer
  simp [↓touches_primitives, ↓touches_controlTwin, ↓touches_rearm, ↓touches_sets]

theorem touches_eventDropped (y : Sys) (path : Nat) (n : Nat) (hs : ∀ p ∈ [Facet.den], p ∈ fs) : Touches fs x (Sys.eventDropped y path n) ↔ Touches fs x y := by
  refine Touches.peel (gs := [Facet.den]) ?_ hs
  unfold Sys.eventDropped
  simp [↓touches_sets]

theorem touches_frameRaw (y : Sys) (path : Nat) (dest : Nat) (word : Nat) (body : Bytes) (hs : ∀ p ∈ [Facet.tx, .log, .den, .links, .mailboxes, .power], p ∈ fs) : Touches fs x (Sys.frameRaw y path dest word body) ↔ Touches fs x y := by
  refine Touches.peel (gs := [Facet.tx, .log, .den, .links, .mailboxes, .power]) ?_ hs
  unfold Sys.frameRaw
  simp [↓touches_primitives, ↓touches_controlTwin, ↓touches_eventDropped, ↓touches_mailSend, ↓touches_sets]

theorem touches_frameOut (y : Sys) (path : Nat) (dest : Nat) (dst : Nat) (func : Func) (tag : Nat) (body : Bytes) (hs : ∀ p ∈ [Facet.tx, .log, .den, .links, .mailboxes, .power], p ∈ fs) : Touches fs x (Sys.frameOut y path dest dst func tag body) ↔ Touches fs x y := by
  refine Touches.peel (gs := [Facet.tx, .log, .den, .links, .mailboxes, .power]) ?_ hs
  unfold Sys.frameOut
  simp [↓touches_primitives, ↓touches_control, ↓touches_frameRaw]

theorem touches_setSession (y : Sys) (s : Session) (hs : ∀ p ∈ [Facet.den], p ∈ fs) : Touches fs x (Sys.setSession y s) ↔ Touches fs x y := by
  refine Touches.peel (gs := [Facet.den]) ?_ hs
  unfold Sys.setSession
  simp [↓touches_sets]

theorem touches_reply (y : Sys) (path : Nat) (source : Nat) (node : Nat) (session : Nat) (func : Func) (tag : Nat) (payload : Bytes) (hs : ∀ p ∈ [Facet.tx, .log, .den, .links, .mailboxes, .power], p ∈ fs) : Touches fs x (Sys.reply y path source node session func tag payload) ↔ Touches fs x y := by
  refine Touches.peel (gs := [Facet.tx, .log, .den, .links, .mailboxes, .power]) ?_ hs
  unfold Sys.reply
  dsimp only
  repeat' split
  all_goals simp [↓touches_closeSession, ↓touches_frameOut, ↓touches_setSession]

theorem touches_response (y : Sys) (path : Nat) (source : Nat) (node : Nat) (session : Nat) (tag : Nat) (op : Nat) (st : Status) (k : Nat) (pos : Nat) (value : Bytes) (hs : ∀ p ∈ [Facet.tx, .log, .den, .links, .mailboxes, .power], p ∈ fs) : Touches fs x (Sys.response y path source node session tag op st k pos value) ↔ Touches fs x y := by
  refine Touches.peel (gs := [Facet.tx, .log, .den, .links, .mailboxes, .power]) ?_ hs
  unfold Sys.response
  simp [↓touches_reply]

theorem touches_sayLine (y : Sys) (b : Bytes) (hs : ∀ p ∈ [Facet.tx], p ∈ fs) : Touches fs x (Sys.sayLine y b) ↔ Touches fs x y := by
  refine Touches.peel (gs := [Facet.tx]) ?_ hs
  unfold Sys.sayLine
  simp [↓touches_primitives]

theorem touches_sayError (y : Sys) (st : Status) (hs : ∀ p ∈ [Facet.tx], p ∈ fs) : Touches fs x (Sys.sayError y st) ↔ Touches fs x y := by
  refine Touches.peel (gs := [Facet.tx]) ?_ hs
  unfold Sys.sayError
  simp [↓touches_sayLine]

theorem touches_sayOk (y : Sys) (b : Bytes) (hs : ∀ p ∈ [Facet.tx], p ∈ fs) : Touches fs x (Sys.sayOk y b) ↔ Touches fs x y := by
  refine Touches.peel (gs := [Facet.tx]) ?_ hs
  unfold Sys.sayOk
  simp [↓touches_sayLine]

theorem touches_answer (y : Sys) (u : CommitUnit) (st : Status) (k : Nat) (pos : Nat) (hs : ∀ p ∈ [Facet.tx, .log, .den, .links, .mailboxes, .power, .twin], p ∈ fs) : Touches fs x (Sys.answer y u st k pos) ↔ Touches fs x y := by
  refine Touches.peel (gs := [Facet.tx, .log, .den, .links, .mailboxes, .power, .twin]) ?_ hs
  unfold Sys.answer
  simp [↓touches_primitives, ↓touches_frontReply, ↓touches_lastAnswered, ↓touches_mirrorAnswer, ↓touches_response, ↓touches_sayError, ↓touches_sayOk]

theorem touches_mirrorUnit (y : Sys) (u : CommitUnit) (st : Status) (hs : ∀ p ∈ [Facet.tx, .log, .links, .twin], p ∈ fs) : Touches fs x (Sys.mirrorUnit y u st).2 ↔ Touches fs x y := by
  refine Touches.peel (gs := [Facet.tx, .log, .links, .twin]) ?_ hs
  unfold Sys.mirrorUnit
  simp [↓touches_controlTwin, ↓touches_sets, ↓touches_snd_ite]

theorem touches_shareArray (y : Sys) (p : Nat) (l : List (Nat × Bytes)) (hs : ∀ p ∈ [Facet.tx, .log, .links, .twin], p ∈ fs) : Touches fs x (Sys.shareArray y p l) ↔ Touches fs x y := by
  refine Touches.peel (gs := [Facet.tx, .log, .links, .twin]) ?_ hs
  unfold Sys.shareArray
  simp (maxDischargeDepth := 7) [↓touches_primitives, ↓touches_controlAll, ↓touches_sets]

end Sys2Proof.Machine
end

section
/-!
PROOFS. Which entries the model's operations can write: a list of spots that covers them.
-/

namespace Sys2Proof.Machine

/-- Entries that an operation may write: one; a subindex of an object from some index on; any subindex of those; or any entry at all. -/
inductive Spot where
  | at (object sub : Nat)
  | above (object sub : Nat)
  | objects (object : Nat)
  | any

def Spot.hits (k : Nat) : Spot → Prop
  | .at o s => k = ent o s
  | .above o s => o ≤ k / 256 ∧ k % 256 = s
  | .objects o => o ≤ k / 256
  | .any => True

/-- Some spot of the list hits the entry. -/
def Covered (ps : List Spot) (k : Nat) : Prop := ∃ p ∈ ps, p.hits k

/-- The two states have the same number and the same octets in every entry that no spot hits. -/
def Writes (ps : List Spot) (y z : Sys) : Prop := ∀ k, (∀ p ∈ ps, ¬ p.hits k) → z.rd k = y.rd k ∧ z.rdB k = y.rdB k

variable {ps qs : List Spot} {x y z : Sys}

theorem covered_at {o s : Nat} (h : .at o s ∈ ps) : Covered ps (ent o s) := ⟨_, h, rfl⟩
theorem covered_above {o v s : Nat} (h : .above o s ∈ ps) (hs : s < 256) : Covered ps (ent (o + v) s) :=
  ⟨_, h, by unfold ent; omega, by unfold ent; omega⟩
theorem covered_objects {o v i : Nat} (h : .objects o ∈ ps) : Covered ps (ent (o + v) i) := ⟨_, h, show o ≤ ent (o + v) i / 256 by unfold ent; omega⟩
@[simp] theorem Writes.refl (y : Sys) : Writes ps y y := fun _ _ => ⟨rfl, rfl⟩

theorem Writes.trans (h : Writes ps x y) (g : Writes ps y z) : Writes ps x z := fun k hk => ⟨(g k hk).1.trans (h k hk).1, (g k hk).2.trans (h k hk).2⟩

theorem Writes.symm (h : Writes ps y z) : Writes ps z y := fun k hk => ⟨(h k hk).1.symm, (h k hk).2.symm⟩

theorem Writes.mono (h : Writes qs y z) (hs : ∀ p ∈ qs, p ∈ ps) : Writes ps y z := fun k hk => h k fun p hp => hk p (hs p hp)

/-- An operation that writes no more than ps can be peeled off. -/
theorem Writes.peel (h : Writes qs y z) (hs : ∀ p ∈ qs, p ∈ ps) : Writes ps x z ↔ Writes ps x y :=
  ⟨fun g => g.trans (h.mono hs).symm, fun g => g.trans (h.mono hs)⟩

theorem Writes.rd_eq (h : Writes ps y z) {k : Nat} (hk : ∀ p ∈ ps, ¬ p.hits k) : z.rd k = y.rd k := (h k hk).1
theorem Writes.of_dict (h : y.dict = z.dict) (hb : y.blobs = z.blobs) : Writes ps y z :=
  fun k _ => ⟨(Sys.rd_congr h k).symm, (Sys.rdB_congr hb k).symm⟩

theorem Writes.peel_dict (h : y.dict = z.dict) (hb : y.blobs = z.blobs) : Writes ps x z ↔ Writes ps x y :=
  (Writes.of_dict (ps := ps) h hb).peel fun _ => id

theorem Covered.ne {j k : Nat} (h : Covered ps k) (hj : ∀ p ∈ ps, ¬ p.hits j) : j ≠ k := by
  obtain ⟨p, hp, hk⟩ := h
  exact fun e => hj p hp (e ▸ hk)

theorem writes_wr {k : Nat} (y : Sys) (v : Nat) (h : Covered ps k) : Writes ps y (y.wr k v) := fun j hj => ⟨by simp [h.ne hj], rfl⟩
theorem writes_wrB {k : Nat} (y : Sys) (v : Bytes) (h : Covered ps k) : Writes ps y (y.wrB k v) := fun j hj => ⟨rfl, by simp [h.ne hj]⟩

/-- Entries, events and messages. -/
theorem writes_primitives (x : Sys) (ps : List Spot) :
    (∀ y k v, Covered ps k → (Writes ps x (y.wr k v) ↔ Writes ps x y)) ∧ (∀ y k v, Covered ps k → (Writes ps x (y.wrB k v) ↔ Writes ps x y)) ∧
    (∀ y k, Covered ps k → (Writes ps x (y.inc k) ↔ Writes ps x y)) ∧ (∀ y k n, Covered ps k → (Writes ps x (y.incBy k n) ↔ Writes ps x y)) ∧
    (∀ y k n, Covered ps k → (Writes ps x (y.inc64 k n) ↔ Writes ps x y)) ∧ (∀ y k v, Covered ps k → (Writes ps x (y.wrI k v) ↔ Writes ps x y)) ∧
    (∀ y k i v, Covered ps k → (Writes ps x (y.wrBit k i v) ↔ Writes ps x y)) ∧
    (∀ y m, Writes ps x (y.send m) ↔ Writes ps x y) ∧ (∀ y c n d, Writes ps x (y.raise c n d) ↔ Writes ps x y) ∧
    (∀ y i c n d, Writes ps x (y.raiseSev i c n d) ↔ Writes ps x y) ∧ (∀ y i c n d, Writes ps x (y.raiseLimited i c n d) ↔ Writes ps x y) ∧
    (∀ (c : Prop) [Decidable c] y z, Writes ps x (if c then y else z) ↔ (c → Writes ps x y) ∧ (¬ c → Writes ps x z)) := by
  have hwr (y : Sys) (k v : Nat) (h : Covered ps k) : Writes ps x (y.wr k v) ↔ Writes ps x y := (writes_wr y v h).peel fun _ => id
  refine ⟨hwr, fun y k v h => (writes_wrB y v h).peel fun _ => id, fun y k => hwr y k _, fun y k n => hwr y k _, fun y k n => hwr y k _, fun y k v => hwr y k _,
    fun y k i v => hwr y k _, fun y m => Writes.peel_dict (by simp) (by simp), fun y c n d => Writes.peel_dict (by simp) (by simp), fun y i c n d => Writes.peel_dict (by simp) (by simp),
    fun y i c n d => Writes.peel_dict (by simp) (by simp), fun c _ y z => ?_⟩
  split
  next h => simp [h]
  next h => simp [h]

/-- The numbered sets, and the facets that are updated by a function: no entry moves. -/
theorem writes_sets (x : Sys) (ps : List Spot) :
    (∀ y n v, Writes ps x (Sys.setAin y n v) ↔ Writes ps x y) ∧
    (∀ y n v, Writes ps x (Sys.setAout y n v) ↔ Writes ps x y) ∧
    (∀ y n v, Writes ps x (Sys.setTable y n v) ↔ Writes ps x y) ∧
    (∀ y n v, Writes ps x (Sys.setZc y n v) ↔ Writes ps x y) ∧
    (∀ y n v, Writes ps x (Sys.setRing y n v) ↔ Writes ps x y) ∧
    (∀ y n v, Writes ps x (Sys.setEnc y n v) ↔ Writes ps x y) ∧
    (∀ y n v, Writes ps x (Sys.setEngine y n v) ↔ Writes ps x y) ∧
    (∀ y n v, Writes ps x (Sys.setFstream y n v) ↔ Writes ps x y) ∧
    (∀ y n v, Writes ps x (Sys.setCtx y n v) ↔ Writes ps x y) ∧
    (∀ y n v, Writes ps x (Sys.setIg y n v) ↔ Writes ps x y) ∧
    (∀ y n v, Writes ps x (Sys.setPort y n v) ↔ Writes ps x y) ∧
    (∀ y n v, Writes ps x (Sys.setTroupe y n v) ↔ Writes ps x y) ∧
    (∀ y n v, Writes ps x (Sys.setRfe y n v) ↔ Writes ps x y) ∧
    (∀ y n v, Writes ps x (Sys.setLane y n v) ↔ Writes ps x y) ∧
    (∀ y n v, Writes ps x (Sys.setMail y n v) ↔ Writes ps x y) ∧
    (∀ y n v, Writes ps x (Sys.setTio y n v) ↔ Writes ps x y) ∧
    (∀ y n v, Writes ps x (Sys.setLink y n v) ↔ Writes ps x y) ∧
    (∀ y n v, Writes ps x (Sys.setMq y n v) ↔ Writes ps x y) ∧
    (∀ y n v, Writes ps x (Sys.setRec y n v) ↔ Writes ps x y) ∧
    (∀ y n v, Writes ps x (Sys.setDec y n v) ↔ Writes ps x y) ∧
    (∀ y n v, Writes ps x (Sys.setPos y n v) ↔ Writes ps x y) ∧
    (∀ y n v, Writes ps x (Sys.setChain y n v) ↔ Writes ps x y) ∧
    (∀ y n v, Writes ps x (Sys.setPtp y n v) ↔ Writes ps x y) ∧
    (∀ y n v, Writes ps x (Sys.setChannel y n v) ↔ Writes ps x y) ∧
    (∀ y n v, Writes ps x (Sys.setSdi y n v) ↔ Writes ps x y) ∧
    (∀ y n v, Writes ps x (Sys.setEdp y n v) ↔ Writes ps x y) ∧
    (∀ y g, Writes ps x (Sys.onDen y g) ↔ Writes ps x y) ∧
    (∀ y g, Writes ps x (Sys.onTwin y g) ↔ Writes ps x y) ∧
    (∀ y g, Writes ps x (Sys.onPower y g) ↔ Writes ps x y) ∧
    (∀ y g, Writes ps x (Sys.onSupply y g) ↔ Writes ps x y) ∧
    (∀ y g, Writes ps x (Sys.onThermal y g) ↔ Writes ps x y) ∧
    (∀ y g, Writes ps x (Sys.onTime y g) ↔ Writes ps x y) ∧
    (∀ y f, Writes ps x (Sys.setFrame y f) ↔ Writes ps x y) ∧
    (∀ y c n f, Writes ps x (Sys.onFrame y c n f) ↔ Writes ps x y) ∧
    (∀ y v, Writes ps x (Sys.setVol y v) ↔ Writes ps x y) ∧
    (∀ y m, Writes ps x (Sys.setMig y m) ↔ Writes ps x y) := by
  refine ⟨?_, ?_, ?_, ?_, ?_, ?_, ?_, ?_, ?_, ?_, ?_, ?_, ?_, ?_, ?_, ?_, ?_, ?_, ?_, ?_, ?_, ?_, ?_, ?_, ?_,
    ?_, ?_, ?_, ?_, ?_, ?_, ?_, ?_, ?_, ?_, ?_⟩ <;> (intros; exact Writes.peel_dict rfl rfl)

/-- Updates of one facet as a whole: no entry moves. -/
theorem writes_fields (x : Sys) (ps : List Spot) :
    (∀ (y : Sys) v, Writes ps x { y with t96 := v } ↔ Writes ps x y) ∧
    (∀ (y : Sys) v, Writes ps x { y with up := v } ↔ Writes ps x y) ∧
    (∀ (y : Sys) v, Writes ps x { y with tx := v } ↔ Writes ps x y) ∧
    (∀ (y : Sys) v, Writes ps x { y with log := v } ↔ Writes ps x y) ∧
    (∀ (y : Sys) v, Writes ps x { y with boot := v } ↔ Writes ps x y) ∧
    (∀ (y : Sys) v, Writes ps x { y with sup := v } ↔ Writes ps x y) ∧
    (∀ (y : Sys) v, Writes ps x { y with gov := v } ↔ Writes ps x y) ∧
    (∀ (y : Sys) v, Writes ps x { y with den := v } ↔ Writes ps x y) ∧
    (∀ (y : Sys) v, Writes ps x { y with sec := v } ↔ Writes ps x y) ∧
    (∀ (y : Sys) v, Writes ps x { y with mram := v } ↔ Writes ps x y) ∧
    (∀ (y : Sys) v, Writes ps x { y with frames := v } ↔ Writes ps x y) ∧
    (∀ (y : Sys) v, Writes ps x { y with ctxs := v } ↔ Writes ps x y) ∧
    (∀ (y : Sys) v, Writes ps x { y with igs := v } ↔ Writes ps x y) ∧
    (∀ (y : Sys) v, Writes ps x { y with ports := v } ↔ Writes ps x y) ∧
    (∀ (y : Sys) v, Writes ps x { y with troupes := v } ↔ Writes ps x y) ∧
    (∀ (y : Sys) v, Writes ps x { y with rfes := v } ↔ Writes ps x y) ∧
    (∀ (y : Sys) v, Writes ps x { y with stores := v } ↔ Writes ps x y) ∧
    (∀ (y : Sys) v, Writes ps x { y with holds := v } ↔ Writes ps x y) ∧
    (∀ (y : Sys) v, Writes ps x { y with engines := v } ↔ Writes ps x y) ∧
    (∀ (y : Sys) v, Writes ps x { y with resident := v } ↔ Writes ps x y) ∧
    (∀ (y : Sys) v, Writes ps x { y with tables := v } ↔ Writes ps x y) ∧
    (∀ (y : Sys) v, Writes ps x { y with pages := v } ↔ Writes ps x y) ∧
    (∀ (y : Sys) v, Writes ps x { y with channels := v } ↔ Writes ps x y) ∧
    (∀ (y : Sys) v, Writes ps x { y with sdis := v } ↔ Writes ps x y) ∧
    (∀ (y : Sys) v, Writes ps x { y with edps := v } ↔ Writes ps x y) ∧
    (∀ (y : Sys) v, Writes ps x { y with pathsDown := v } ↔ Writes ps x y) ∧
    (∀ (y : Sys) v, Writes ps x { y with links := v } ↔ Writes ps x y) ∧
    (∀ (y : Sys) v, Writes ps x { y with lanes := v } ↔ Writes ps x y) ∧
    (∀ (y : Sys) v, Writes ps x { y with mailboxes := v } ↔ Writes ps x y) ∧
    (∀ (y : Sys) v, Writes ps x { y with power := v } ↔ Writes ps x y) ∧
    (∀ (y : Sys) v, Writes ps x { y with dram := v } ↔ Writes ps x y) ∧
    (∀ (y : Sys) v, Writes ps x { y with mem := v } ↔ Writes ps x y) ∧
    (∀ (y : Sys) v, Writes ps x { y with media := v } ↔ Writes ps x y) ∧
    (∀ (y : Sys) v, Writes ps x { y with rings := v } ↔ Writes ps x y) ∧
    (∀ (y : Sys) v, Writes ps x { y with zcs := v } ↔ Writes ps x y) ∧
    (∀ (y : Sys) v, Writes ps x { y with positions := v } ↔ Writes ps x y) ∧
    (∀ (y : Sys) v, Writes ps x { y with time := v } ↔ Writes ps x y) ∧
    (∀ (y : Sys) v, Writes ps x { y with ptp := v } ↔ Writes ps x y) ∧
    (∀ (y : Sys) v, Writes ps x { y with tios := v } ↔ Writes ps x y) ∧
    (∀ (y : Sys) v, Writes ps x { y with twin := v } ↔ Writes ps x y) ∧
    (∀ (y : Sys) v, Writes ps x { y with thermal := v } ↔ Writes ps x y) ∧
    (∀ (y : Sys) v, Writes ps x { y with launches := v } ↔ Writes ps x y) ∧
    (∀ (y : Sys) v, Writes ps x { y with audioIn := v } ↔ Writes ps x y) ∧
    (∀ (y : Sys) v, Writes ps x { y with audioOut := v } ↔ Writes ps x y) ∧
    (∀ (y : Sys) v, Writes ps x { y with felley := v } ↔ Writes ps x y) ∧
    (∀ (y : Sys) v, Writes ps x { y with encs := v } ↔ Writes ps x y) ∧
    (∀ (y : Sys) v, Writes ps x { y with decs := v } ↔ Writes ps x y) ∧
    (∀ (y : Sys) v, Writes ps x { y with cores := v } ↔ Writes ps x y) ∧
    (∀ (y : Sys) v, Writes ps x { y with turn := v } ↔ Writes ps x y) ∧
    (∀ (y : Sys) v, Writes ps x { y with seed := v } ↔ Writes ps x y) := by
  refine ⟨?_, ?_, ?_, ?_, ?_, ?_, ?_, ?_, ?_, ?_, ?_, ?_, ?_, ?_, ?_, ?_, ?_, ?_, ?_, ?_, ?_, ?_, ?_, ?_, ?_,
    ?_, ?_, ?_, ?_, ?_, ?_, ?_, ?_, ?_, ?_, ?_, ?_, ?_, ?_, ?_, ?_, ?_, ?_, ?_, ?_, ?_, ?_, ?_, ?_, ?_⟩ <;> (intros; exact Writes.peel_dict rfl rfl)

theorem writes_foldl {α : Type} (g : Sys → α → Sys) (l : List α) (h : ∀ z, ∀ a ∈ l, Writes ps z (g z a)) :
    Writes ps x (l.foldl g y) ↔ Writes ps x y := by
  induction l generalizing y with
  | nil => rfl
  | cons a r ih => exact (ih fun z b hb => h z b (by simp [hb])).trans ((h y a (by simp)).peel fun _ => id)

theorem writes_upto (g : Nat → Sys → Sys) (n : Nat) (h : ∀ z, ∀ i < n, Writes ps z (g i z)) : Writes ps x (upto n g y) ↔ Writes ps x y :=
  writes_foldl (fun y i => g i y) (List.range n) fun z i hi => h z i (by simpa using hi)

theorem writes_snd_ite {α : Type} (c : Prop) [Decidable c] (a b : α × Sys) :
    Writes ps x (if c then a else b).2 ↔ (c → Writes ps x a.2) ∧ (¬ c → Writes ps x b.2) := by
  by_cases h : c
  · simp [h]
  · simp [h]

theorem Writes.foldl_snd {α β : Type} (g : α × Sys → β → α × Sys) (l : List β) (h : ∀ a, ∀ b ∈ l, Writes ps a.2 (g a b).2) (a : α × Sys) :
    Writes ps a.2 (l.foldl g a).2 := by
  induction l generalizing a with
  | nil => exact .refl _
  | cons b r ih => exact (h a b (by simp)).trans (ih (fun a c hc => h a c (by simp [hc])) _)

end Sys2Proof.Machine
end

section
/-!
PROOFS. Which entries the operations of the model can write, from the callee to the caller: one lemma per operation, which peels it off a state.
-/

namespace Sys2Proof.Machine

variable {ps : List Spot} {x w : Sys}

theorem writes_freeBufs (y : Sys) (t : Nat) : Writes ps x (Sys.freeBufs y t) ↔ Writes ps x y := by
  refine Writes.peel (qs := []) ?_ (by simp)
  unfold Sys.freeBufs
  simp (maxDischargeDepth := 7) [↓writes_sets, ↓writes_foldl]

theorem writes_moverStep (y : Sys) (t : Nat) : Writes ps x (Sys.moverStep y t) ↔ Writes ps x y := by
  refine Writes.peel (qs := []) ?_ (by simp)
  unfold Sys.moverStep
  dsimp only
  repeat' split
  all_goals simp [↓writes_freeBufs, ↓writes_sets]

theorem writes_freeDone (y : Sys) (t : Nat) : Writes ps x (Sys.freeDone y t) ↔ Writes ps x y := by
  refine Writes.peel (qs := []) ?_ (by simp)
  unfold Sys.freeDone
  simp (maxDischargeDepth := 7) [↓writes_freeBufs, ↓writes_moverStep, ↓writes_upto]

theorem writes_dispatchReady (y : Sys) (t : Nat) : Writes ps x (Sys.dispatchReady y t) ↔ Writes ps x y := by
  refine Writes.peel (qs := []) ?_ (by simp)
  unfold Sys.dispatchReady
  simp [↓writes_freeDone, ↓writes_sets]

theorem writes_onBuf (y : Sys) (t : Nat) (b : SegBuf) (h : SegBuf → SegBuf) : Writes ps x (Sys.onBuf y t b h) ↔ Writes ps x y := by
  refine Writes.peel (qs := []) ?_ (by simp)
  unfold Sys.onBuf
  simp [↓writes_sets]

theorem writes_fillBuf (y : Sys) (t : Nat) (f : Frame) (b : SegBuf) : Writes ps x (Sys.fillBuf y t f b) ↔ Writes ps x y := by
  refine Writes.peel (qs := []) ?_ (by simp)
  unfold Sys.fillBuf
  simp [↓writes_primitives, ↓writes_onBuf]

theorem writes_fillEdges (y : Sys)  : Writes ps x (Sys.fillEdges y) ↔ Writes ps x y := by
  refine Writes.peel (qs := []) ?_ (by simp)
  unfold Sys.fillEdges
  refine (writes_foldl _ _ fun z t _ => ?_).2 (.refl y)
  rw [writes_dispatchReady]
  refine (writes_foldl _ _ fun v b _ => ?_).2 (.refl z)
  split
  · exact (writes_fillBuf _ _ _ _).2 (.refl v)
  · exact .refl v

theorem writes_control (y : Sys) (k : Nat) (c : Ctl) (body : Bytes) : Writes ps x (Sys.control y k c body) ↔ Writes ps x y := by
  refine Writes.peel (qs := []) ?_ (by simp)
  unfold Sys.control
  simp [↓writes_primitives, ↓writes_sets]

theorem writes_controlAll (y : Sys) (c : Ctl) (body : Bytes) : Writes ps x (Sys.controlAll y c body) ↔ Writes ps x y := by
  refine Writes.peel (qs := []) ?_ (by simp)
  unfold Sys.controlAll
  simp (maxDischargeDepth := 7) [↓writes_primitives, ↓writes_control, ↓writes_foldl]

theorem writes_sendVector (y : Sys) (v : Nat) : Writes ps x (Sys.sendVector y v) ↔ Writes ps x y := by
  refine Writes.peel (qs := []) ?_ (by simp)
  unfold Sys.sendVector
  simp [↓writes_primitives]

theorem writes_updateInt (y : Sys)  : Writes ps x (Sys.updateInt y) ↔ Writes ps x y := by
  refine Writes.peel (qs := []) ?_ (by simp)
  unfold Sys.updateInt
  simp [↓writes_fields]

theorem writes_classRaised (y : Sys) (c : IrqClass) : Writes ps x (Sys.classRaised y c) ↔ Writes ps x y := by
  refine Writes.peel (qs := []) ?_ (by simp)
  unfold Sys.classRaised
  simp [↓writes_sendVector, ↓writes_updateInt]

theorem writes_irqScan (y : Sys) (c : Nat) (b : Nat) (hs : ∀ p ∈ [Spot.at 0x1311 3], p ∈ ps) : Writes ps x (Sys.irqScan y c b) ↔ Writes ps x y := by
  refine Writes.peel (qs := [Spot.at 0x1311 3]) ?_ hs
  unfold Sys.irqScan
  simp [↓writes_primitives, covered_at, ↓writes_classRaised]

theorem writes_switchOne (y : Sys) (c : Nat) (line : Nat) (reason : Nat) (under : Bool) (hs : ∀ p ∈ [Spot.above 0x4140 10, .above 0x4140 11, .at 0x1311 3], p ∈ ps) : Writes ps x (Sys.switchOne y c line reason under) ↔ Writes ps x y := by
  refine Writes.peel (qs := [Spot.above 0x4140 10, .above 0x4140 11, .at 0x1311 3]) ?_ hs
  unfold Sys.switchOne
  dsimp only
  repeat' split
  all_goals simp [↓writes_primitives, covered_above, ↓writes_irqScan, ↓writes_sets]

theorem writes_switchGroup (y : Sys) (c : Nat) (line : Nat) (reason : Nat) (under : Bool) (hs : ∀ p ∈ [Spot.above 0x4140 10, .above 0x4140 11, .above 0x4160 5, .above 0x4160 6, .at 0x1311 3], p ∈ ps) : Writes ps x (Sys.switchGroup y c line reason under) ↔ Writes ps x y := by
  refine Writes.peel (qs := [Spot.above 0x4140 10, .above 0x4140 11, .above 0x4160 5, .above 0x4160 6, .at 0x1311 3]) ?_ hs
  unfold Sys.switchGroup
  dsimp only
  repeat' split
  all_goals simp (maxDischargeDepth := 7) [↓writes_primitives, covered_above, ↓writes_controlAll, ↓writes_switchOne, ↓writes_foldl]

theorem writes_abandonSwitch (y : Sys) (ctx : Nat) (num : Nat) (hs : ∀ p ∈ [Spot.above 0x4140 10, .above 0x4140 11, .above 0x4160 5, .above 0x4160 6, .at 0x1311 3], p ∈ ps) : Writes ps x (Sys.abandonSwitch y ctx num) ↔ Writes ps x y := by
  refine Writes.peel (qs := [Spot.above 0x4140 10, .above 0x4140 11, .above 0x4160 5, .above 0x4160 6, .at 0x1311 3]) ?_ hs
  unfold Sys.abandonSwitch
  simp (maxDischargeDepth := 7) [↓writes_primitives, ↓writes_switchGroup, ↓writes_foldl]

theorem writes_dropStores (y : Sys) (x : Nat) (n : Nat) : Writes ps w (Sys.dropStores y x n) ↔ Writes ps w y := by
  refine Writes.peel (qs := []) ?_ (by simp)
  unfold Sys.dropStores
  simp [↓writes_fields]

theorem writes_setRail (y : Sys) (r : RailName) (x : Rail) : Writes ps w (Sys.setRail y r x) ↔ Writes ps w y := by
  refine Writes.peel (qs := []) ?_ (by simp)
  unfold Sys.setRail
  repeat' split
  all_goals simp [↓writes_fields]

theorem writes_watchedFrame (y : Sys) (r : RailName) (ctx : Nat) (num : Nat) (atLatch : Nat) (margin : Slack) : Writes ps x (Sys.watchedFrame y r ctx num atLatch margin) ↔ Writes ps x y := by
  refine Writes.peel (qs := []) ?_ (by simp)
  unfold Sys.watchedFrame
  dsimp only
  repeat' split
  all_goals simp [↓writes_primitives, ↓writes_setRail]

theorem writes_abandon (y : Sys) (f : Frame) (hs : ∀ p ∈ [Spot.above 0x4140 10, .above 0x4140 11, .above 0x4160 5, .above 0x4160 6, .at 0x1311 3, .at 0x2001 9, .at 0x2201 9], p ∈ ps) : Writes ps x (Sys.abandon y f) ↔ Writes ps x y := by
  refine Writes.peel (qs := [Spot.above 0x4140 10, .above 0x4140 11, .above 0x4160 5, .above 0x4160 6, .at 0x1311 3, .at 0x2001 9, .at 0x2201 9]) ?_ hs
  unfold Sys.abandon
  simp [↓writes_primitives, covered_at, ↓writes_abandonSwitch, ↓writes_dropStores, ↓writes_watchedFrame, ↓writes_sets]

theorem writes_tellLook (y : Sys) (f : Frame) (decision : Nat) : Writes ps x (Sys.tellLook y f decision) ↔ Writes ps x y := by
  refine Writes.peel (qs := []) ?_ (by simp)
  unfold Sys.tellLook
  simp [↓writes_primitives, ↓writes_controlAll]

theorem writes_abandonTell (y : Sys) (f : Frame) (hs : ∀ p ∈ [Spot.above 0x4140 10, .above 0x4140 11, .above 0x4160 5, .above 0x4160 6, .at 0x1311 3, .at 0x2001 9, .at 0x2201 9], p ∈ ps) : Writes ps x (Sys.abandonTell y f) ↔ Writes ps x y := by
  refine Writes.peel (qs := [Spot.above 0x4140 10, .above 0x4140 11, .above 0x4160 5, .above 0x4160 6, .at 0x1311 3, .at 0x2001 9, .at 0x2201 9]) ?_ hs
  unfold Sys.abandonTell
  simp [↓writes_primitives, ↓writes_abandon, ↓writes_tellLook]

theorem writes_showHeld (y : Sys) (x : Nat) (hs : ∀ p ∈ [Spot.above 0x3440 10], p ∈ ps) : Writes ps w (Sys.showHeld y x) ↔ Writes ps w y := by
  refine Writes.peel (qs := [Spot.above 0x3440 10]) ?_ hs
  unfold Sys.showHeld
  simp [↓writes_primitives, covered_above]

theorem writes_showOccupancy (y : Sys) (g : Nat) (hs : ∀ p ∈ [Spot.above 0x3008 10, .above 0x3008 9, .above 0x3018 7], p ∈ ps) : Writes ps x (Sys.showOccupancy y g) ↔ Writes ps x y := by
  refine Writes.peel (qs := [Spot.above 0x3008 10, .above 0x3008 9, .above 0x3018 7]) ?_ hs
  unfold Sys.showOccupancy
  dsimp only
  repeat' split
  all_goals simp (maxDischargeDepth := 7) [↓writes_primitives, covered_above]

theorem writes_noteLoads (y : Sys) (f : Frame) : Writes ps x (Sys.noteLoads y f) ↔ Writes ps x y := by
  refine Writes.peel (qs := []) ?_ (by simp)
  exact .of_dict rfl rfl

theorem writes_noteWaits (y : Sys)  : Writes ps x (Sys.noteWaits y) ↔ Writes ps x y := by
  refine Writes.peel (qs := []) ?_ (by simp)
  unfold Sys.noteWaits
  refine (writes_foldl _ _ fun z n _ => ?_).2 (.refl y)
  split
  · simp [↓writes_primitives, ↓writes_noteLoads, ↓writes_sets]
  · exact .refl z

theorem writes_rfeStart (y : Sys) (r : Nat) (x : Nat) (n : Nat) (hs : ∀ p ∈ [Spot.above 0x3470 1, .above 0x3470 2, .above 0x3470 4, .above 0x3470 5], p ∈ ps) : Writes ps w (Sys.rfeStart y r x n) ↔ Writes ps w y := by
  refine Writes.peel (qs := [Spot.above 0x3470 1, .above 0x3470 2, .above 0x3470 4, .above 0x3470 5]) ?_ hs
  unfold Sys.rfeStart
  simp [↓writes_primitives, covered_above, ↓writes_sets]

theorem writes_haloCopy (y : Sys) (f : Frame) (k : Nat) (j : Nat) : Writes ps x (Sys.haloCopy y f k j) ↔ Writes ps x y := by
  refine Writes.peel (qs := []) ?_ (by simp)
  unfold Sys.haloCopy
  dsimp only
  repeat' split
  all_goals simp [↓writes_onBuf]

theorem writes_haloAgain (y : Sys) (f : Frame) (k : Nat) (j : Nat) : Writes ps x (Sys.haloAgain y f k j) ↔ Writes ps x y := by
  refine Writes.peel (qs := []) ?_ (by simp)
  unfold Sys.haloAgain
  dsimp only
  repeat' split
  all_goals simp [↓writes_onBuf]

theorem writes_showAdmitted (y : Sys) (g : Gen) (hs : ∀ p ∈ [Spot.above 0x4D10 5, .at 0x4D01 11], p ∈ ps) : Writes ps x (Sys.showAdmitted y g) ↔ Writes ps x y := by
  refine Writes.peel (qs := [Spot.above 0x4D10 5, .at 0x4D01 11]) ?_ hs
  unfold Sys.showAdmitted
  simp (maxDischargeDepth := 7) [↓writes_primitives, covered_at, covered_above, ↓writes_upto]

theorem writes_showRates (y : Sys) (members : List (Nat × Bytes)) (hs : ∀ p ∈ [Spot.above 0x4D10 5, .at 0x4D01 11], p ∈ ps) : Writes ps x (Sys.showRates y members) ↔ Writes ps x y := by
  refine Writes.peel (qs := [Spot.above 0x4D10 5, .at 0x4D01 11]) ?_ hs
  unfold Sys.showRates
  simp [↓writes_primitives, ↓writes_showAdmitted]

theorem writes_controlTwin (y : Sys) (c : Ctl) (body : Bytes) : Writes ps x (Sys.controlTwin y c body) ↔ Writes ps x y := by
  refine Writes.peel (qs := []) ?_ (by simp)
  unfold Sys.controlTwin
  simp (maxDischargeDepth := 7) [↓writes_primitives, ↓writes_control, ↓writes_foldl]

theorem writes_rearm (y : Sys)  (hs : ∀ p ∈ [Spot.at 0x4C01 4], p ∈ ps) : Writes ps x (Sys.rearm y) ↔ Writes ps x y := by
  refine Writes.peel (qs := [Spot.at 0x4C01 4]) ?_ hs
  unfold Sys.rearm
  simp [↓writes_primitives, covered_at]

theorem writes_mirrorUnit (y : Sys) (u : CommitUnit) (st : Status) : Writes ps x (Sys.mirrorUnit y u st).2 ↔ Writes ps x y := by
  refine Writes.peel (qs := []) ?_ (by simp)
  unfold Sys.mirrorUnit
  simp [↓writes_controlTwin, ↓writes_sets, ↓writes_snd_ite]

theorem writes_shareArray (y : Sys) (p : Nat) (l : List (Nat × Bytes)) : Writes ps x (Sys.shareArray y p l) ↔ Writes ps x y := by
  refine Writes.peel (qs := []) ?_ (by simp)
  unfold Sys.shareArray
  simp (maxDischargeDepth := 7) [↓writes_primitives, ↓writes_controlAll, ↓writes_sets]

end Sys2Proof.Machine
end

section
/-!
PROOFS. Standby, Dormant and the power domains are entered and left, and the outputs show it (R83, R85, R87 to R89, R624, R646 to R655, R688).
-/

namespace Sys2Proof.Machine

variable {y z : Sys}

/-! ## The power command (R653, R655, R688) -/

theorem Sys.powerBars_ok (hdev : y.rd (ent 0x2700 1) = 0 ∨ y.rd (ent 0x2700 1) = 2) (hask : y.twin.ask = none)
    (hrec : ∀ x, x < 16 → y.rd (ent (0x4960 + x) 1) ≠ 1) : y.powerBars = .ok := by
  have hr : ((List.range 16).any fun x => y.rd (ent (0x4960 + x) 1) == 1) = false := by
    simpa only [List.any_eq_false, List.mem_range, beq_iff_eq] using hrec
  unfold Sys.powerBars
  rcases hdev with h | h <;> simp [Sys.device, h, hask, hr]

/-- The entry to Standby or Dormant has begun: the test that ran has ended, and the partners have been told. -/
def Sys.entryBegun (y : Sys) (dormant : Bool) : Sys :=
  let z := (y.testEnd 2 0).controlAll .power (le 1 (if dormant then 3 else 2))
  let z := (z.deviceTo (if dormant then 4 else 1)).onTwin fun t => { t with exitAt := none }
  z.onPower fun w => { w with dormant := dormant, since := z.up, wake := none, step := if y.rd (ent 0x2700 1) = 2 then 6 else 2 }

theorem Sys.standby_begins {dormant : Bool} (hbars : y.powerBars = .ok) (hlead : y.leadsPower = true)
    (h : ¬ (y.rd (ent 0x2700 1) = 2 ∧ dormant = false)) : y.standby dormant false = (.ok, y.entryBegun dormant) := by
  have hst : (decide (y.device = 2) && !dormant) = false := by
    cases dormant <;> simp_all [Sys.device]
  simp only [Sys.standby, hbars, hlead, ne_eq, not_true_eq_false, if_false, Bool.true_or, Bool.not_true, Bool.false_eq_true, hst]
  rfl

theorem Sys.rd_entryBegun (y : Sys) (dormant : Bool) : (y.entryBegun dormant).rd (ent 0x2700 1) = if dormant then 4 else 1 := by
  simp [Sys.entryBegun, Sys.deviceTo]

/-- A module that leads its power state, with no members to ask, begins the entry. -/
theorem Sys.powerWrite_begins {dormant : Bool} (hdev : y.rd (ent 0x2700 1) = 0 ∨ y.rd (ent 0x2700 1) = 2 ∧ dormant = true)
    (hrec : ∀ x, x < 16 → y.rd (ent (0x4960 + x) 1) ≠ 1) (hlead : y.leadsPower = true) (hask : y.twin.ask = none) (hlinks : y.memberLinks = []) :
    y.powerWrite dormant = (.ok, y.entryBegun dormant) := by
  have hb : y.powerBars = .ok := Sys.powerBars_ok (hdev.imp_right And.left) hask hrec
  have hs := Sys.standby_begins hb hlead (dormant := dormant) (by rcases hdev with h | ⟨h, hd⟩ <;> simp [*])
  simp only [Sys.powerWrite, hlinks, or_true, if_true, hs]

/-- The head of an array puts the command to its members, and waits. -/
theorem Sys.powerWrite_asks (hdev : y.rd (ent 0x2700 1) = 0) (hrec : ∀ x, x < 16 → y.rd (ent (0x4960 + x) 1) ≠ 1) (hask : y.twin.ask = none)
    (hlead : y.leadsPower = true) (hlinks : y.memberLinks ≠ []) :
    (y.powerWrite false).2.twin.ask = some ⟨false, y.memberLinks, none, false⟩ ∧ (y.powerWrite false).2.rd (ent 0x2700 1) = 0 := by
  have hb : y.powerBars = .ok := Sys.powerBars_ok (.inl hdev) hask hrec
  have hs : (y.standby false false).1 = .ok := by rw [Sys.standby_begins hb hlead (by simp [hdev])]
  have hfold : SameBut [.links, .tx, .log] (only []) (only []) y
      (y.memberLinks.foldl (fun (y : Sys) k => y.control k .power (le 1 (if false then 3 else 2) ++ le 1 1)) y) :=
    SameBut.foldl _ _ (fun z k _ => sameBut_control z k _ _ (by simp) (by simp) (by simp)) y
  simp only [Sys.powerWrite, hs, ne_eq, not_true_eq_false, hlinks, or_self, if_false]
  exact ⟨rfl, (hfold.2.1 _ (by simp)).trans hdev⟩

/-! ## The steps of an entry (R646, R653) -/

theorem standbyFramesDrained_drops_frames (s : State) (h : s.sys.power.step = 2) : Completes .standbyFramesDrained s fun t =>
    t.sys.power.step = 3 ∧ t.sys.frames = [] ∧ t.sys.mem.scan = none ∧ t.otp = s.otp ∧ t.pending = s.pending := by
  refine ⟨_, rfl, ?_⟩
  simp only [h, ne_eq, not_true_eq_false, if_false]
  exact ⟨rfl, trivial, trivial, rfl, trivial⟩

theorem Sys.step_domainWait (y : Sys) (d target : Nat) : (y.domainWait d target).power.step = y.power.step := by
  have hoff (z : Sys) : (z.lanesOff d).power = z.power := (((touches_lanesOff z d (fun _ => id)).2 (.refl z)).facet .power (by simp) (by simp)).symm
  have hto : (y.domTo d 1).power = y.power := (((touches_domTo y d 1 (fun _ => id)).2 (.refl y)).facet .power (by simp) (by simp)).symm
  unfold Sys.domainWait
  split
  · rfl
  · split
    · rw [hoff]
      exact congrArg (·.step) hto
    · exact congrArg (·.step) hto

theorem standbyFlushDone_enters_modes (s : State) (h : s.sys.power.step = 3) : Completes .standbyFlushDone s fun t =>
    t.sys.power.step = 4 ∧ t.otp = s.otp ∧ t.pending = s.pending := by
  have hfold (f : Sys → Nat → Nat) (l : List Nat) (z : Sys) : (l.foldl (fun y d => y.domainWait d (f y d)) z).power.step = z.power.step := by
    induction l generalizing z with
    | nil => rfl
    | cons d r ih => exact (ih _).trans (Sys.step_domainWait z d _)
  refine ⟨_, rfl, ?_⟩
  simp only [h, ne_eq, not_true_eq_false, if_false, hfold]
  exact ⟨rfl, rfl, trivial⟩

theorem Sys.domTo_of_ne {d st : Nat} (h : y.rd (ent (0x2720 + d) 1) ≠ st) :
    y.domTo d st = (y.wr (ent (0x2720 + d) 1) st).raise 0x1307 d (ev [(0, 1, d), (1, 1, y.rd (ent (0x2720 + d) 1)), (2, 1, st)]) := by
  simp [Sys.domTo, h]

theorem domainWait_leaves_run (s : State) (d : Fin 38) (off : Bool) (h : s.sys.rd (ent (0x2720 + d.val) 1) = 0)
    (hd : if off then d.val < 35 else d.val < 24 ∨ d.val = 36) :
    Completes (.domainWait d off) s fun t =>
      let w := Sys.onPower ((s.sys.wr (ent (0x2720 + d.val) 1) 1).raise 0x1307 d.val (ev [(0, 1, d.val), (1, 1, 0), (2, 1, 1)])) fun w =>
        { w with entries := w.entries ++ [(d.val, ⟨if off then 3 else 2, s.sys.up, false⟩)] }
      t.sys = (if d.val = 24 ∨ 27 ≤ d.val ∧ d.val ≤ 34 then w.lanesOff d.val else w) ∧ t.otp = s.otp ∧ t.pending = s.pending := by
  have hok : (if off then decide (d.val < 35) else decide (d.val < 24) || d.val == 36) = true := by
    cases off <;> simpa using hd
  refine ⟨_, rfl, ?_, rfl, rfl⟩
  simp only [hok, if_true, Sys.domainWait, h, ne_eq, not_true_eq_false, if_false]
  rw [Sys.domTo_of_ne (by simp [h]), h]

theorem Sys.rd_domTo (y : Sys) (d st k : Nat) : (y.domTo d st).rd k = if k = ent (0x2720 + d) 1 then st else y.rd k := by
  unfold Sys.domTo
  by_cases h : y.rd (ent (0x2720 + d) 1) = st
  · by_cases hk : k = ent (0x2720 + d) 1 <;> simp [h, hk]
  · simp [h]

theorem sameBut_domTo (y : Sys) (d st : Nat) : SameBut [.log] (only [ent (0x2720 + d) 1]) (only []) y (y.domTo d st) := by
  unfold Sys.domTo
  extract_lets
  split <;> simp

/-- The state as a domain's exit ends: the exit leaves the list, and its length is shown. -/
def Sys.exitEnded (y : Sys) (d : Nat) (e : DomExit) : Sys :=
  (y.onPower fun w => { w with exits := w.exits.filter fun p => p.1 != d }).wr (ent (0x2720 + d) 5) ((y.up - e.since) / 1000)

/-- A domain whose exit is done is back in Run, and its parts start again. -/
theorem exec_domainExitDone_exiting {s : State} {d : Fin 38} {e : DomExit} (h : s.sys.power.exits.lookup d.val = some e) :
    Runs (.domainExitDone d) s (if 2 ≤ e.from_ then ((s.sys.exitEnded d e).domTo d.val 0).domainStart d.val e.from_
      else if d.val = 24 ∨ 27 ≤ d.val ∧ d.val ≤ 34 then ((s.sys.exitEnded d e).domTo d.val 0).lanesOn d.val
      else (s.sys.exitEnded d e).domTo d.val 0).activeDone := by
  refine (?_ : exec _ _ = _)
  simp only [exec_domainExitDone, execDomainExitDone, onSys_eq, h]
  rfl

theorem domainExitDone_back_in_run (s : State) (d : Fin 38) (e : DomExit) (h : s.sys.power.exits.lookup d.val = some e) (he : e.from_ < 2)
    (h24 : d.val ≠ 24) (hlane : d.val < 27 ∨ 34 < d.val) (hdev : s.sys.rd (ent 0x2700 1) ≠ 3) :
    Completes (.domainExitDone d) s fun t =>
      t.sys.rd (ent (0x2720 + d.val) 1) = 0 ∧ t.sys.rd (ent (0x2720 + d.val) 5) = (s.sys.up - e.since) / 1000 ∧
      t.sys.power.exits = s.sys.power.exits.filter (fun p => p.1 != d.val) ∧
      Leaves [.power, .log] (only [ent (0x2720 + d.val) 1, ent (0x2720 + d.val) 5]) (only []) s t := by
  refine ⟨_, exec_domainExitDone_exiting h, ?_⟩
  let y := s.sys.exitEnded d e
  have hn2 : ¬ 2 ≤ e.from_ := by omega
  have hnl : ¬ (d.val = 24 ∨ 27 ≤ d.val ∧ d.val ≤ 34) := by omega
  have hkey : ent 0x2700 1 ≠ ent (0x2720 + d.val) 1 ∧ ent 0x2700 1 ≠ ent (0x2720 + d.val) 5 := by constructor <;> (unfold ent; omega)
  have hd : (y.domTo d.val 0).device ≠ 3 := by
    rw [Sys.device, Sys.rd_domTo, if_neg hkey.1, show y.rd _ = _ from Sys.rd_wr _ _ _ _, if_neg hkey.2]
    exact hdev
  have hactive : (y.domTo d.val 0).activeDone = y.domTo d.val 0 := by simp [Sys.activeDone, hd]
  rw [if_neg hn2, if_neg hnl]
  change (y.domTo d.val 0).activeDone.rd _ = _ ∧ (y.domTo d.val 0).activeDone.rd _ = _ ∧ (y.domTo d.val 0).activeDone.power.exits = _ ∧
    Leaves _ _ _ s { s with sys := (y.domTo d.val 0).activeDone }
  rw [hactive]
  have hy : SameBut [.power, .log] (only [ent (0x2720 + d.val) 1, ent (0x2720 + d.val) 5]) (only []) s.sys y := by
    simp [y, Sys.exitEnded]
  have hto := sameBut_domTo y d.val 0
  refine ⟨by simp [Sys.rd_domTo], ?_, ?_, leaves_of_sameBut (hy.trans (hto.mono (by simp) (by simp) (by simp)))⟩
  · rw [Sys.rd_domTo, if_neg (by unfold ent; omega)]
    simp [y, Sys.exitEnded]
  · rw [← show y.power = (y.domTo d.val 0).power from hto.1 .power (by simp)]
    simp [y, Sys.exitEnded, Sys.onPower]

theorem domainExitDone_restarts (s : State) (d : Fin 38) (e : DomExit) (h : s.sys.power.exits.lookup d.val = some e)
    (hd : 2 ≤ e.from_ ∨ d.val = 24 ∨ 27 ≤ d.val ∧ d.val ≤ 34) :
    Completes (.domainExitDone d) s fun t =>
      let y := (s.sys.onPower fun w => { w with exits := w.exits.filter fun p => p.1 != d.val }).wr (ent (0x2720 + d.val) 5) ((s.sys.up - e.since) / 1000)
      t.sys = (if 2 ≤ e.from_ then (y.domTo d.val 0).domainStart d.val e.from_ else (y.domTo d.val 0).lanesOn d.val).activeDone ∧
      t.otp = s.otp ∧ t.pending = s.pending := by
  refine ⟨_, exec_domainExitDone_exiting h, ?_, rfl, rfl⟩
  by_cases h2 : 2 ≤ e.from_
  · simp only [h2, if_true, Sys.exitEnded]
  · simp only [h2, hd.resolve_left h2, if_false, if_true, Sys.exitEnded]

/-! ## ACTIVE (R653, R654, R660) -/

theorem activeCommand_stays (s : State) (h : s.sys.rd (ent 0x2700 1) = 0 ∨ s.sys.rd (ent 0x2700 1) = 3) : Completes .activeCommand s fun t => t = s := by
  refine ⟨_, rfl, ?_⟩
  rcases h with h | h <;> simp [Sys.wakeStandby, Sys.device, h]

theorem activeCommand_cuts_entry (s : State) (h : s.sys.rd (ent 0x2700 1) = 1 ∨ s.sys.rd (ent 0x2700 1) = 4) : Completes .activeCommand s fun t =>
    let n := ((List.range 37).filter fun d => s.sys.activeRun d && 2 ≤ s.sys.rd (ent (0x2720 + d) 1) && s.sys.rd (ent (0x2720 + d) 1) ≤ 3).length
    t.sys = ((s.sys.inc (ent 0x2700 4)).raise 0x1302 255 (ev [(0, 1, if s.sys.rd (ent 0x2700 1) = 1 then 2 else 3), (1, 1, 0), (2, 1, n)])).exitAll
      ⟨0, 0, s.sys.up⟩ (s.sys.rd (ent 0x2700 1)) ∧ t.otp = s.otp ∧ t.pending = s.pending := by
  refine ⟨_, rfl, ?_, rfl, rfl⟩
  have h2 : ¬ s.sys.rd (ent 0x2700 1) = 2 := by omega
  simp only [Sys.wakeStandby, Sys.device, h2, h, if_true, if_false]
  rfl

/-! ## Outputs (R83, R85, R87 to R89, R624) -/

theorem Sys.output_of_domainOff {o : Otp} {out : Output} (h : y.domainOff out.domain = true) :
    y.output o out = if out = .intN then .released else .floats := by
  simp only [Sys.output, h, if_true]
  cases out <;> simp [Output.offState]

theorem Sys.output_of_reset {o : Otp} {out : Output} (hoff : y.domainOff out.domain = false) (hio : out ≠ .ioref .aon)
    (hres : y.outputReset out = true) : y.output o out = y.inResetState out := by
  simp [Sys.output, hoff, hio, hres]

theorem Sys.outputReset_of_reset {out : Output} (h : y.boot.phase = .warmReset ∨ y.boot.phase = .coldReset) : y.outputReset out = true := by
  have hserve : y.bootServes out = false := by
    rcases h with h | h <;> cases out <;> simp [Sys.bootServes, h]
  rcases h with h | h <;> simp [Sys.outputReset, Sys.inReset, h, hserve]

theorem Sys.domainOff_aon (h : y.boot.phase ≠ .off) (haon : y.sup.aon = true) : y.domainOff 37 = false := by
  simp [Sys.domainOff, h, haon]

theorem Sys.output_floats_of_reset {o : Otp} {out : Output} (h : y.boot.phase = .warmReset ∨ y.boot.phase = .coldReset)
    (hoff : out ≠ .intN) (hio : out ≠ .ioref .aon) (hrest : y.inResetState out = .floats) : y.output o out = .floats := by
  cases hd : y.domainOff out.domain with
  | true => rw [Sys.output_of_domainOff hd, if_neg hoff]
  | false => rw [Sys.output_of_reset hd hio (Sys.outputReset_of_reset h), hrest]

theorem Sys.outputs_in_reset (o : Otp) (y : Sys) (h : y.boot.phase = .warmReset ∨ y.boot.phase = .coldReset) (haon : y.sup.aon = true) :
    (∀ n, n < 32 → y.domainOff (27 + n / 4) = false → y.output o (.linkLane n) = .idle) ∧
    (∀ n, y.domainOff 26 = false → y.output o (.sdo n) = .floats ∧ y.output o (.edpMain n) = .idle ∧ y.output o (.edpAux n) = .idle) ∧
    (∀ n, y.output o (.tio n) = .floats) ∧ (∀ n, y.output o (.amclk n) = .floats) ∧ y.output o .heartbeat ≠ .drives ∧
    y.iorefLevel o .aon = some 18 ∧ (∀ b, b ≠ .aon → y.iorefLevel o b = none) := by
  have hphase : y.boot.phase ≠ .off := by rcases h with h | h <;> simp [h]
  have h37 := Sys.domainOff_aon hphase haon
  have hres (out : Output) : y.outputReset out = true := Sys.outputReset_of_reset h
  refine ⟨fun n _ hoff => Sys.output_of_reset hoff (by simp) (hres _), fun n hoff => ⟨?_, ?_, ?_⟩, fun n => ?_, fun n => ?_, ?_, ?_, fun b hb => ?_⟩
  · exact Sys.output_of_reset hoff (by simp) (hres _)
  · exact Sys.output_of_reset hoff (by simp) (hres _)
  · exact Sys.output_of_reset hoff (by simp) (hres _)
  · exact Sys.output_floats_of_reset h (by simp) (by simp) rfl
  · exact Sys.output_floats_of_reset h (by simp) (by simp) rfl
  · rw [Sys.output_of_reset h37 (by simp) (hres _)]
    simp [Sys.inResetState]
  · have hdrive : y.output o (.ioref .aon) = .drives := by
      simp [Sys.output, show (Output.ioref .aon).domain = 37 from rfl, h37]
    simp [Sys.iorefLevel, hdrive, Sys.bank33, Bank.select]
  · have hfloat : y.output o (.ioref b) = .floats := by
      refine Sys.output_floats_of_reset h (by simp) (by simpa using hb) ?_
      cases b with
      | aon => exact absurd rfl hb
      | _ => rfl
    simp [Sys.iorefLevel, hfloat]

theorem Sys.iorefLevel_of_running (o : Otp) (y : Sys) (b : Bank) (hphase : y.boot.phase = .running) (haon : y.sup.aon = true)
    (hfault : y.boot.strapFault = false) (hpow : y.bankPowered b = true) (hrun : y.domainRun b.domain = true)
    (hres : b.domain ∉ y.boot.domainResets) : y.iorefLevel o b = some (if y.bank33 b then 33 else 18) := by
  have hd : (Output.ioref b).domain = b.domain := rfl
  have hst : y.rd (ent (0x2720 + b.domain) 1) = 0 := by simpa [Sys.domainRun] using hrun
  have hoff : y.domainOff b.domain = false := by simp [Sys.domainOff, hphase, haon, Sys.isolated, hst]
  have hreset : y.outputReset (.ioref b) = false := by
    simp [Sys.outputReset, Sys.inReset, hphase, hd, hres, hfault, Output.bank, hpow]
  have hdrive : y.output o (.ioref b) = .drives := by
    simp [Sys.output, hd, hoff, hreset, hrun]
  simp [Sys.iorefLevel, hdrive]

/-- An output that rests high-impedance in each column where it does not serve. -/
theorem Sys.output_floats {o : Otp} {out : Output} (hint : out ≠ .intN) (hio : ∀ b, out ≠ .ioref b) (hrest : y.inResetState out = .floats)
    (hserved : y.served o out = .floats) : y.output o out = .floats := by
  cases hd : y.domainOff out.domain with
  | true => rw [Sys.output_of_domainOff hd, if_neg hint]
  | false =>
    cases hres : y.outputReset out with
    | true => rw [Sys.output_of_reset hd (hio _) hres, hrest]
    | false =>
      cases out with
      | ioref b => exact absurd rfl (hio b)
      | _ => simpa [Sys.output, hd, hres] using hserved

/-- Settles O19: each command in its case, and each output in its column. -/
theorem deviceStatesAreEnteredAndLeft : Obligations.DeviceStatesAreEnteredAndLeft := by
  refine ⟨fun s hdev hrec hlead hask hlinks => ?_, fun s hdev hrec hlead hask hlinks => ?_, fun s hdev hrec hlead hask hlinks => ?_,
    standbyFramesDrained_drops_frames, standbyFlushDone_enters_modes, domainWait_leaves_run, domainExitDone_back_in_run, domainExitDone_restarts,
    fun s h => ?_, activeCommand_stays, activeCommand_cuts_entry, fun o y out => Sys.output_of_domainOff, Sys.outputs_in_reset,
    Sys.iorefLevel_of_running, fun o y h => ?_, fun o y h => ?_⟩
  · have hw := Sys.powerWrite_begins (dormant := false) (.inl hdev) hrec hlead hask hlinks
    refine ⟨{ s with sys := s.sys.entryBegun false }, by simp [execStandbyCommand, hw], s.sys.rd_entryBegun false, ?_, rfl, rfl, rfl, rfl⟩
    simp [Sys.entryBegun, Sys.onPower, hdev]
  · have hw := Sys.powerWrite_begins (dormant := true) (hdev.imp_right fun h => ⟨h, rfl⟩) hrec hlead hask hlinks
    exact ⟨{ s with sys := s.sys.entryBegun true }, by simp [execDormantCommand, hw], s.sys.rd_entryBegun true, rfl, rfl, rfl, rfl⟩
  · obtain ⟨hask', hdev'⟩ := Sys.powerWrite_asks hdev hrec hask hlead hlinks
    exact ⟨_, rfl, hask', hdev', rfl, rfl⟩
  · refine ⟨_, rfl, ?_, rfl, rfl⟩
    simp only [Sys.wakeStandby, Sys.device, h, if_true]
  · refine Sys.output_floats (by simp) (by simp) rfl ?_
    have hv : y.vrefDriven = false := by
      unfold Sys.vrefDriven
      rcases h with h | h
      · simp [h]
      · simpa using fun _ => h
    simp [Sys.served, hv]
  · exact Sys.output_floats (by simp) (by simp) rfl (by simp [Sys.served, h])

end Sys2Proof.Machine
end

section
/-!
PROOFS. Self-tests, the supply warning, domain resets and core checks (R104, R105, R113, R115, R116, R749, R750).
-/

namespace Sys2Proof.Machine

variable {fs : List Facet} {nums blobs : Nat → Prop} {x y z : Sys}

/-! ## Self-tests -/

/-- The test takes the test slot, and 0x1301:02 shows RUNNING. -/
def Sys.testTaken (y : Sys) (code i : Nat) : Sys := Sys.wr { y with boot := { y.boot with test := some (code, i) } } (ent 0x1301 2) 1

/-- A test that is free to run starts, and its unit is fenced where no context latches frames (R749, R750). -/
theorem Sys.selfTest_starts (y : Sys) {code i : Nat} (hrun : y.boot.phase = .running) (hfree : y.boot.test = none) (hi : i < testInstances code)
    (ht : y.testable code i = true) (hl : y.lacking code i = none) :
    y.selfTest code i = if (List.range 16).any (y.testTaken code i).latching then y.testTaken code i else (y.testTaken code i).testFence := by
  have hni : ¬ testInstances code ≤ i := by omega
  simp only [Sys.testTaken, Sys.selfTest, hrun, if_true, Sys.startTest, hni, if_false, hfree, Option.isSome_none, Bool.false_eq_true, ht, Bool.not_true, hl]

/-- Only Troupes and raw front ends are fenced. -/
theorem Sys.testFence_testTaken (y : Sys) {code : Nat} (i : Nat) (h2 : code ≠ 2) (h3 : code ≠ 3) :
    (y.testTaken code i).testFence = y.testTaken code i := by
  have ht : (y.testTaken code i).boot.test = some (code, i) := by simp [Sys.testTaken]
  unfold Sys.testFence
  split
  next t h => simp_all
  next r h => simp_all
  next => rfl

theorem Sys.selfTest_takes (y : Sys) {code i : Nat} (hrun : y.boot.phase = .running) (hfree : y.boot.test = none) (hi : i < testInstances code)
    (ht : y.testable code i = true) (hl : y.lacking code i = none) (h2 : code ≠ 2) (h3 : code ≠ 3) : y.selfTest code i = y.testTaken code i := by
  rw [Sys.selfTest_starts y hrun hfree hi ht hl, Sys.testFence_testTaken y i h2 h3, ite_self]

/-- While a test runs none starts (R749). -/
theorem Sys.selfTest_busy (y : Sys) (code i : Nat) (h : y.boot.test ≠ none) : y.selfTest code i = y := by
  have hs : y.boot.test.isSome = true := Option.isSome_iff_ne_none.2 h
  simp only [Sys.selfTest, Sys.startTest, hs, if_true]
  split
  · split <;> rfl
  · rfl

/-- The end of a test frees the slot, places the result and logs it (R750). -/
theorem Sys.testEnd_of_test (y : Sys) {code i : Nat} (passed : Bool) (detail : Nat) (h : y.boot.test = some (code, i)) :
    y.testEnd (if passed then 0 else 1) detail =
      let b := pack 8 [(0, 1, code), (1, 1, i), (2, 1, if passed then 0 else 1), (4, 4, detail)]
      Sys.raiseSev ((Sys.wr { y with boot := { y.boot with test := none } } (ent 0x1301 2) 0).wrB (ent 0x1301 3) b)
        (if passed then 1 else 3) 0x0130 255 (slice b 0 16) := by
  simp only [Sys.testEnd, h]
  cases passed <;> rfl

/-- Each self-test command's case of the obligation. -/
theorem selfTests_start_and_end :
    (∀ (s : State) (code i : Nat) (c : Instr), s.sys.boot.phase = .running → s.sys.boot.test = none →
      (c, code, i) ∈ [(.selfTestReplica false, 1, 0), (.selfTestReplica true, 1, 1), (.selfTestFuse, 4, 0), (.selfTestMram, 5, 0), (.selfTestSensors, 6, 0)] →
      Runs c s (s.sys.testTaken code i)) ∧
    (∀ (s : State) (q : Fin 8), s.sys.boot.phase = .running → s.sys.boot.test = none → s.sys.rd (ent (0x2488 + q.val) 1) = 0 →
      Runs (.selfTestLoopback q) s (s.sys.testTaken 7 q.val)) := by
  refine ⟨fun s code i c hrun hfree hc => ?_, fun s q hrun hfree hq => ?_⟩
  · have hruns (code i : Nat) (hi : i < testInstances code) (h : code ∈ [1, 4, 5, 6]) (hc : Runs c s (s.sys.selfTest code i)) :
        Runs c s (s.sys.testTaken code i) := by
      simp only [List.mem_cons, List.not_mem_nil, or_false] at h
      rcases h with rfl | rfl | rfl | rfl <;> rwa [Sys.selfTest_takes _ hrun hfree hi rfl rfl (by decide) (by decide)] at hc
    simp only [List.mem_cons, List.not_mem_nil, or_false, Prod.mk.injEq] at hc
    rcases hc with ⟨rfl, rfl, rfl⟩ | ⟨rfl, rfl, rfl⟩ | ⟨rfl, rfl, rfl⟩ | ⟨rfl, rfl, rfl⟩ | ⟨rfl, rfl, rfl⟩ <;>
      exact hruns _ _ (by decide) (by decide) rfl
  · have h : Runs (.selfTestLoopback q) s (s.sys.selfTest 7 q.val) := rfl
    rwa [Sys.selfTest_takes _ hrun hfree q.isLt (by simp [Sys.testable, hq]) rfl (by decide) (by decide)] at h

/-! ## The supply warning -/

/-- Shedding moves entries of the video units alone, all of them above 0x4000. -/
def unitEntries (k : Nat) : Prop := ent 0x4000 0 ≤ k

theorem unitEntries_ent {a k i : Nat} (h : 0x4000 ≤ a) : unitEntries (ent (a + k) i) := by unfold unitEntries ent; omega

/-- The facets in which a unit that is no longer shed starts again. -/
def resumed : List Facet := [.sup, .log, .edps, .encs]

theorem sameBut_edpPower (y : Sys) (p : Nat) : SameBut resumed unitEntries (only []) y (y.edpPower p) := by
  have hk : unitEntries (ent (0x4188 + p) 0x0C) := unitEntries_ent (by decide)
  unfold Sys.edpPower
  dsimp only
  repeat' split
  all_goals simp [resumed, hk]

theorem sameBut_shedEdp_off (y : Sys) (p : Nat) : SameBut resumed unitEntries (only []) y (y.shedEdp p false) := by
  unfold Sys.shedEdp
  simp only [Bool.false_eq_true, if_false]
  split
  · exact sameBut_edpPower y p
  · split <;> simp [resumed]

theorem sameBut_encResume (y : Sys) (e : Nat) : SameBut resumed unitEntries (only []) y (y.encResume e true) := by
  have hk : unitEntries (ent (0x4420 + e) 1) := unitEntries_ent (by decide)
  simp [Sys.encResume, resumed, hk]

theorem sameBut_shedEncode_off (y : Sys) (k : Nat) : SameBut resumed unitEntries (only []) y (y.shedEncode k false) := by
  unfold Sys.shedEncode
  simp only [Bool.false_eq_true, if_false]
  refine (sameBut_wr y _ _ (unitEntries_ent (by decide))).trans (.foldl _ _ (fun z e _ => ?_) _)
  split
  · exact .refl z
  · exact .ite (fun _ => sameBut_encResume z e) fun _ => .refl z

theorem sameBut_shedDecode_off (y : Sys) (k : Nat) : SameBut resumed unitEntries (only []) y (y.shedDecode k false) := by
  have hk (p : Nat) : unitEntries (pbStat p 1) := unitEntries_ent (a := 0x4450) (by decide)
  unfold Sys.shedDecode
  simp only [Bool.false_eq_true, if_false]
  refine (sameBut_wr y _ _ (unitEntries_ent (by decide))).trans (.foldl _ _ (fun z p _ => ?_) _)
  split
  · exact .refl z
  · exact .ite (fun _ => sameBut_wr z _ _ (hk p)) fun _ => .refl z

theorem sameBut_shedLoad_off (y : Sys) (sub i : Nat) : SameBut resumed unitEntries (only []) y (y.shedLoad sub i false) := by
  unfold Sys.shedLoad
  split
  · exact sameBut_shedEdp_off y i
  · exact sameBut_shedEncode_off y i
  · exact sameBut_shedDecode_off y i
  · simp only [Bool.false_eq_true, false_and, and_false, if_false]
    refine .ite (fun _ => .foldl _ _ (fun z n _ => ?_) y) fun _ => .refl y
    exact .ite (fun _ => sameBut_wr z _ _ (unitEntries_ent (by decide))) fun _ => .refl z
  · exact .refl y

/-- Where nothing is to be shed, units start again and outputs are shown: no entry below 0x4000 moves. -/
theorem sameBut_setShed_none (y : Sys) : SameBut resumed unitEntries (only []) y (y.setShed fun _ => 0) := by
  unfold Sys.setShed
  extract_lets old was keeps next y1 y2
  have h1 : SameBut resumed unitEntries (only []) y y1 := by simp [y1, resumed]
  have h2 : SameBut resumed unitEntries (only []) y1 y2 := by
    refine .foldl _ _ (fun z sub _ => .foldl _ _ (fun w i _ => ?_) z) y1
    simp only [Nat.zero_testBit, Bool.false_and, Bool.false_eq_true, if_false]
    exact .ite (fun _ => sameBut_shedLoad_off w sub i) fun _ => .refl w
  have h3 : SameBut resumed unitEntries (only []) y2 y2.showSdo :=
    (sameBut_showSdo y2 _ _).mono (fun _ => id) (fun k hk => by unfold indices at hk; unfold unitEntries ent; omega) fun _ => id
  refine ((h1.trans h2).trans h3).trans (.upto _ _ (fun z n _ => ?_) _)
  exact (sameBut_wr z _ _ (unitEntries_ent (by decide))).trans (sameBut_wr _ _ _ (unitEntries_ent (by decide)))

theorem Sys.rd_setShed_none (y : Sys) {k : Nat} (h : k < ent 0x4000 0) : (y.setShed fun _ => 0).rd k = y.rd k :=
  (sameBut_setShed_none y).2.1 k (Nat.not_le.2 h)

/-- The state that the end of the warning leaves, before the loads that were shed return (R104). -/
def Sys.warningOver (y : Sys) (vin minVin : Nat) : Sys :=
  let us := (y.up - y.sup.warnAt) / 1000
  let lost := (y.rd (ent 0x2001 9) + 2 ^ 32 - y.sup.warnLost) % 2 ^ 32
  let low := min minVin y.sup.warnMinVin
  (((((y.vinSample vin).vinSeen low).supplyFlag .warning false).inc64 (ent 0x2001 6) us).raise 0x0103 255
    (ev [(0, 4, us), (4, 2, low), (6, 4, lost)])).wr (ent 0x2002 7) 0

theorem runs_supplyWarningClear (s : State) (vin minVin : BitVec 16) (h : s.sys.rdBit (ent 0x2001 4) 1 = true) :
    Runs (.supplyWarningClear vin minVin) s ((s.sys.warningOver vin.toNat minVin.toNat).setShed fun _ => 0) := by
  have hhas : (s.sys.vinSample vin.toNat).supplyHas .warning = true := by
    simpa [Sys.supplyHas, SupplyFlag.bit, Sys.flags_vinSample] using h
  have hup : (s.sys.vinSample vin.toNat).up = s.sys.up := ((s.sys.vinSample_frame vin.toNat).1 .up (by decide)).symm
  have hlost (low : Nat) : ((s.sys.vinSample vin.toNat).vinSeen low).rd (ent 0x2001 9) = s.sys.rd (ent 0x2001 9) := by
    rw [Sys.rd_vinSeen _ _ (by decide), Sys.rd_vinSample _ _ (by decide)]
  have hsup (low : Nat) : ((s.sys.vinSample vin.toNat).vinSeen low).sup = s.sys.sup :=
    ((sameBut_vinSeen (fs := []) (nums := fun _ => True) (blobs := only []) _ low trivial trivial).1 .sup (by simp)).symm.trans (Sys.vinSample_sup _ _)
  refine (?_ : exec _ _ = _)
  simp only [exec_supplyWarningClear, execSupplyWarningClear, onSys_eq, hhas, Bool.not_true, Bool.false_eq_true, if_false, hup, Sys.vinSample_sup, hlost, hsup]
  rfl

theorem supplyWarningClear_leaves (s : State) (vin minVin : BitVec 16) (h : s.sys.rdBit (ent 0x2001 4) 1 = true) :
    Completes (.supplyWarningClear vin minVin) s fun t =>
      t.sys.rdBit (ent 0x2001 4) 1 = false ∧ t.sys.rd (ent 0x2002 7) = 0 ∧ t.sys.rd (ent 0x2001 1) = vin.toNat ∧
      t.sys.rd (ent 0x2001 6) = (s.sys.rd (ent 0x2001 6) + (s.sys.up - s.sys.sup.warnAt) / 1000) % 2 ^ 64 ∧ t.otp = s.otp ∧ t.pending = s.pending := by
  refine ⟨_, runs_supplyWarningClear s vin minVin h, ?_, ?_, ?_, ?_, rfl, rfl⟩
  · simp [Sys.rd_setShed_none, ent, Sys.warningOver, Sys.supplyFlag, SupplyFlag.bit]
  · simp [Sys.rd_setShed_none, ent, Sys.warningOver]
  · rw [Sys.rd_setShed_none _ (by decide)]
    simp [Sys.warningOver, Sys.supplyFlag, Sys.rd_vinSeen]
  · rw [Sys.rd_setShed_none _ (by decide)]
    simp [Sys.warningOver, Sys.supplyFlag, Sys.rd_vinSeen, Sys.rd_vinSample, vinKeys]

theorem runs_supplyWarning (s : State) (vin : BitVec 16) (h : s.sys.rdBit (ent 0x2001 4) 1 = false) :
    let y := (((s.sys.vinSample vin.toNat).supplyFlag .warning true).inc (ent 0x2001 5)).onSupply fun u =>
      { u with warnAt := s.sys.up, warnMinVin := vin.toNat, warnLost := s.sys.rd (ent 0x2001 9) }
    Runs (.supplyWarning vin) s
      ((y.raise 0x0102 255 (ev [(0, 2, vin.toNat), (2, 2, s.sys.rd (ent 0x2000 1)), (4, 1, if s.sys.shedAny then 1 else 0)])).commitJournal.shedNow) := by
  have hhas : (s.sys.vinSample vin.toNat).supplyHas .warning = false := by
    simpa [Sys.supplyHas, SupplyFlag.bit, Sys.flags_vinSample] using h
  have hup : (s.sys.vinSample vin.toNat).up = s.sys.up := ((s.sys.vinSample_frame vin.toNat).1 .up (by decide)).symm
  have hrd {k : Nat} (hk : k ∉ vinKeys) (h5 : k ≠ ent 0x2001 5) :
      (((s.sys.vinSample vin.toNat).supplyFlag .warning true).inc (ent 0x2001 5)).rd k = s.sys.rd k := by
    have h4 : k ≠ ent 0x2001 4 := fun e => hk (by simp [vinKeys, e])
    simp [Sys.supplyFlag, h4, h5, Sys.rd_vinSample _ _ hk]
  have hshed (f : Supply → Supply) :
      ((((s.sys.vinSample vin.toNat).supplyFlag .warning true).inc (ent 0x2001 5)).onSupply f).shedAny = s.sys.shedAny := by
    simp only [Sys.shedAny, Sys.shedListed, Sys.rd_onSupply]
    congr 1
    funext i
    rw [hrd (by simp only [vinKeys, List.mem_cons, List.not_mem_nil, or_false, not_or]; unfold ent; omega) (by unfold ent; omega)]
  refine (?_ : exec _ _ = _)
  simp only [exec_supplyWarning, execSupplyWarning, onSys_eq, Sys.enterWarning, hhas, Bool.false_eq_true, if_false, hshed, Sys.rd_onSupply,
    hrd (k := ent 0x2001 9) (by decide) (by decide), hrd (k := ent 0x2000 1) (by decide) (by decide)]
  rw [show (((s.sys.vinSample vin.toNat).supplyFlag .warning true).inc (ent 0x2001 5)).up = s.sys.up from hup]

/-! ## Domain resets -/

/-- Every facet but what the supervisor knows. -/
def besideBoot : List Facet :=
  [.t96, .up, .tx, .log, .sup, .gov, .den, .sec, .mram, .frames, .ctxs, .igs, .ports, .troupes, .rfes, .stores, .holds, .engines, .resident, .tables, .pages,
    .channels, .sdis, .edps, .pathsDown, .links, .lanes, .mailboxes, .power, .dram, .mem, .media, .rings, .zcs, .positions, .time, .ptp, .tios, .twin, .thermal,
    .launches, .audioIn, .audioOut, .felley, .encs, .decs, .cores, .turn]

@[simp] theorem mem_besideBoot (p : Facet) : p ∈ besideBoot ↔ p ≠ .boot := by cases p <;> simp [besideBoot]

theorem Touches.domainResets (h : Touches besideBoot y z) : z.boot.domainResets = y.boot.domainResets := by
  obtain ⟨_, _, _, e⟩ := h.steady (by simp)
  rw [e]

/-- What a reset of a running domain leaves: the domain is in the list of those in reset, behind the others (R113). -/
theorem Sys.domainReset_begins (y : Sys) {d : Nat} (hd : d ≤ 34) (hon : y.domainRun d = true) (hnew : d ∉ y.boot.domainResets) :
    (y.domainReset d).2.boot.domainResets = y.boot.domainResets ++ [d] := by
  have hcond : ¬ (34 < d ∨ (!y.domainRun d) = true ∨ y.boot.domainResets.contains d = true) := by simp [hon, hnew]; omega
  unfold Sys.domainReset
  rw [if_neg hcond]
  extract_lets y1 b y2 aimed gone y3 y4 y5 y6
  have h1 : y1.boot.domainResets = y.boot.domainResets := by
    simp only [y1, Sys.testEnd, Sys.raise_boot]
    split <;> simp
  have h2 : y2.boot.domainResets = y.boot.domainResets ++ [d] := congrArg (· ++ [d]) h1
  clear_value y2
  have h3 : Touches besideBoot y2 y3 := (touches_setLaunches _ _ (by simp)).2 (.refl y2)
  have h4 : Touches besideBoot y2 y4 := (touches_foldl _ _ fun z e _ => (touches_launchDiscard z e _ _ (by simp)).2 (.refl z)).2 h3
  have h5 : Touches besideBoot y2 y5 := by
    unfold y5
    split
    · exact (touches_emptyPair _ _ _ (by simp)).2 h4
    · exact h4
  rw [← h2]
  refine Touches.domainResets (y := y2) ?_
  unfold y6
  split
  · have h := touches_fenceTroupe (fs := besideBoot) (x := y2) y2 d 0 (by simp)
    rw [h]
    exact .refl y2
  · exact (touches_domainStop _ _ (by simp)).2 h5

theorem resetCommandDomain_begins (s : State) (hrun : s.sys.boot.phase = .running) (hd : s.sys.rd (ent 0x2003 2) ≤ 34)
    (hon : s.sys.domainRun (s.sys.rd (ent 0x2003 2)) = true) (hnew : s.sys.rd (ent 0x2003 2) ∉ s.sys.boot.domainResets) :
    Completes .resetCommandDomain s fun t =>
      t.sys.boot.domainResets = s.sys.boot.domainResets ++ [s.sys.rd (ent 0x2003 2)] ∧ t.otp = s.otp ∧ t.pending = s.pending := by
  generalize hdom : s.sys.rd (ent 0x2003 2) = d at *
  refine ⟨_, rfl, ?_, rfl, rfl⟩
  simp only [hrun, if_true, hdom]
  exact Sys.domainReset_begins s.sys hd hon hnew

theorem domainResetComplete_ends (s : State) (d : Fin 35) (hd : d.val ∈ s.sys.boot.domainResets) :
    Completes (.domainResetComplete d) s fun t =>
      t.sys.boot.domainResets = s.sys.boot.domainResets.filter (· != d.val) ∧ t.otp = s.otp ∧ t.pending = s.pending := by
  have hc : s.sys.boot.domainResets.contains d.val = true := by simpa using hd
  have hback (y : Sys) : (if d.val < 24 then y.troupeBack d.val 3 else y.domainStart d.val 3).boot.domainResets = y.boot.domainResets := by
    refine Touches.domainResets ?_
    rw [(touches_primitives _ _).2.2.2.2.2.2.2.2.2.2.2.2]
    exact ⟨fun _ => (touches_troupeBack _ _ _ (by simp)).2 (.refl y), fun _ => (touches_domainStart _ _ _ (by simp)).2 (.refl y)⟩
  refine ⟨_, rfl, ?_, rfl, rfl⟩
  simp only [hc, Bool.not_true, Bool.false_eq_true, if_false]
  exact hback _

/-! ## Core checks -/

/-- How many checks in a row each core has missed, after one more (R115). -/
def coresAfter (responded : BitVec 15) (silent : List (Nat × Nat)) : List (Nat × Nat) :=
  (List.range 15).foldl (fun l c => tset (fun _ => 0) l c (if responded.getLsbD c then 0 else tget (fun _ => 0) l c + 1)) silent

/-- One check of the cores: the heartbeat is on only while none is silent and no strap fault stands (R115, R116). -/
def Sys.coresChecked (y : Sys) (r : BitVec 15) : Sys :=
  let silent := coresAfter r y.boot.coreSilent
  { y with boot := { y.boot with coreSilent := silent, heartbeat := silent.isEmpty && !y.boot.strapFault } }

theorem tget_foldl_tset (f : Nat → Nat → Nat) (cs : List Nat) (l : List (Nat × Nat)) (c : Nat) (hn : cs.Nodup) :
    tget (fun _ => 0) (cs.foldl (fun l c => tset (fun _ => 0) l c (f c (tget (fun _ => 0) l c))) l) c =
      if c ∈ cs then f c (tget (fun _ => 0) l c) else tget (fun _ => 0) l c := by
  induction cs generalizing l with
  | nil => simp
  | cons a r ih =>
    obtain ⟨ha, hr⟩ := List.nodup_cons.1 hn
    rw [List.foldl_cons, ih _ hr, tget_tset]
    by_cases hc : c = a
    · subst hc; simp [ha]
    · simp [hc]

theorem tget_coresAfter (r : BitVec 15) (l : List (Nat × Nat)) {c : Nat} (hc : c < 15) :
    tget (fun _ => 0) (coresAfter r l) c = if r.getLsbD c then 0 else tget (fun _ => 0) l c + 1 := by
  have h := tget_foldl_tset (fun c n => if r.getLsbD c then 0 else n + 1) (List.range 15) l c List.nodup_range
  rw [if_pos (List.mem_range.2 hc)] at h
  exact h

/-- Where every core answers and none was silent, none is. -/
theorem coresAfter_all {r : BitVec 15} (h : r = BitVec.allOnes 15) : coresAfter r [] = [] := by
  subst h
  decide

/-- Settles O17: self-tests by the two lemmas on a test's start and end, the supply warning by its flags, domain resets by the facets that stopping and
starting a domain can change, and the core checks as one pass over the cores. -/
theorem selfTestsWarningsAndDomainResets : Obligations.SelfTestsWarningsAndDomainResets := by
  have hdone (s : State) {code i : Nat} (passed : Bool) (detail : BitVec 32) (h : s.sys.boot.test = some (code, i)) (h2 : code ≠ 2) (h3 : code ≠ 3)
      (h6 : code ≠ 6) : Runs (.selfTestDone passed detail) s (s.sys.testEnd (if passed then 0 else 1) detail.toNat) := by
    refine (?_ : exec _ _ = _)
    simp only [exec_selfTestDone, execSelfTestDone, onSys_eq, h, h6, if_false]
  refine ⟨⟨selfTests_start_and_end.1, selfTests_start_and_end.2, fun s t hrun hfree ht hl => ?_, fun s r hrun hfree ht hl => ?_, fun s c hbusy hc => ?_,
    fun s code i passed detail h h2 h3 h6 => ?_, fun s i passed detail h => ?_, fun s i passed detail => ⟨fun h => ?_, fun h => ?_⟩⟩,
    fun s vin h _ => runs_supplyWarning s vin h, supplyWarningClear_leaves, runs_supplyWarningClear, resetCommandDomain_begins,
    domainResetComplete_ends, fun s r hrun => ?_⟩
  · have h : Runs (.selfTestTroupe t) s (s.sys.selfTest 2 t.val) := rfl
    rwa [Sys.selfTest_starts _ hrun hfree t.isLt (by simp [Sys.testable, ht]) hl] at h
  · have h : Runs (.selfTestRfe r) s (s.sys.selfTest 3 r.val) := rfl
    rwa [Sys.selfTest_starts _ hrun hfree r.isLt (by simp [Sys.testable, ht]) hl] at h
  · have hkeeps (code i : Nat) (h : Runs c s (s.sys.selfTest code i)) : Runs c s s.sys := by rwa [Sys.selfTest_busy _ _ _ hbusy] at h
    simp only [List.mem_cons, List.not_mem_nil, or_false] at hc
    rcases hc with rfl | rfl | rfl | rfl | rfl <;> exact hkeeps _ _ rfl
  · have hruns := hdone s passed detail h h2 h3 h6
    rw [Sys.testEnd_of_test _ passed _ h] at hruns
    exact hruns
  · refine (?_ : exec _ _ = _)
    simp only [exec_selfTestDone, execSelfTestDone, onSys_eq, h, if_true]
  · refine (?_ : exec _ _ = _)
    simp [execSelfTestDone, h]
  · refine (?_ : exec _ _ = _)
    simp [execSelfTestDone, h]
  · have hexec : Runs (.coreCheckTick r) s (s.sys.coresChecked r) := by
      refine (?_ : exec _ _ = _)
      have hcond : ¬ s.sys.boot.phase ≠ .running := by simp [hrun]
      simp only [exec_coreCheckTick, execCoreCheckTick, onSys_eq, hcond, if_false]
      rfl
    refine ⟨_, hexec, fun c hc => tget_coresAfter r _ hc, fun hall hnone hfault => ?_, leaves_of_sameBut ((sameBut_withBoot_iff _ (by simp)).2 (.refl _))⟩
    simp [Sys.coresChecked, hnone, hfault, coresAfter_all hall]

end Sys2Proof.Machine
end

section
/-!
PROOFS. Wake frames, the TIO edge, the alarm and EP_PERST_N wake the module (R657 to R659).
-/

namespace Sys2Proof.Machine

variable {fs : List Facet} {nums blobs : Nat → Prop} {y z : Sys}

theorem Runs.of_eq {c : Instr} {s : State} (e : y = z) (h : Runs c s y) : Runs c s z := e ▸ h

/-! ## Wake frames -/

theorem pulseBit_getD_lt (ns : Nat) : (pulseBit ns).getD 0 < 2 := by
  unfold pulseBit
  repeat' split
  all_goals simp

/-- Bits taken in one after the other, from n on. -/
theorem foldl_bits_lt (l : List Nat) (n : Nat) :
    (l.map pulseBit).foldl (fun (n : Nat) (b : Option Nat) => 2 * n + b.getD 0) n < (n + 1) * 2 ^ l.length := by
  induction l generalizing n with
  | nil => simp
  | cons a r ih =>
    have hb := pulseBit_getD_lt a
    calc _ < (2 * n + (pulseBit a).getD 0 + 1) * 2 ^ r.length := ih _
      _ ≤ (2 * n + 2) * 2 ^ r.length := Nat.mul_le_mul_right _ (by omega)
      _ = _ := by rw [List.length_cons, pow_succ]; ring

/-- The word of a frame has 16 bits. -/
theorem wakeWord_lt {f : WakeFrame} {w : Nat} (h : wakeWord f = .inr w) : w < 65536 := by
  unfold wakeWord at h
  extract_lets bits v at h
  have hv : v < (0 + 1) * 2 ^ (f.pulses.take 16).length := foldl_bits_lt _ 0
  have hlen : 2 ^ (f.pulses.take 16).length ≤ 2 ^ 16 := Nat.pow_le_pow_right (by decide) (by simp)
  split at h
  · cases h
  · split at h
    · cases h
    · split at h
      · cases h
      · split at h
        · cases h
        · have e := Sum.inr.inj h
          omega

theorem Sys.wakeState_lt (y : Sys) : y.wakeState < 7 := by
  unfold Sys.wakeState
  repeat' split
  all_goals decide

@[simp] theorem Sys.wakeState_inc_port (y : Sys) (n i : Nat) : (y.inc (ent (0x2704 + n) i)).wakeState = y.wakeState := by
  have h : ent 0x2700 1 ≠ ent (0x2704 + n) i := by unfold ent; omega
  simp [Sys.wakeState, Sys.device, h]

@[simp] theorem Sys.wakeEnabled_inc_port (y : Sys) (n i source : Nat) : (y.inc (ent (0x2704 + n) i)).wakeEnabled source = y.wakeEnabled source := by
  have h : ent 0x2701 1 ≠ ent (0x2704 + n) i := by unfold ent; omega
  simp [Sys.wakeEnabled, h]

/-- The bits of a reply: the own address, the state, and a check nibble (R659). -/
theorem replyWord_fields {own st : Nat} (hown : own < 256) (hst : st < 16) :
    let v := own * 256 + st * 16 + (own / 16 ^^^ own % 16 ^^^ st)
    v % 65536 / 256 = own ∧ v % 65536 / 16 % 16 = st := by
  have hx : own / 16 ^^^ own % 16 ^^^ st < 2 ^ 4 := Nat.xor_lt_two_pow (Nat.xor_lt_two_pow (by omega) (by omega)) hst
  omega

/-- A port that listens takes a well-formed frame of the command for its address, or for all of them. -/
theorem Sys.wakeFrame_taken (y : Sys) {n cmd : Nat} {f : WakeFrame} {w : Nat} (g : Sys → Sys) (hreset : y.resetAsserted = false)
    (hstrap : y.boot.strapFault = false) (hon : y.rd (ent (0x2704 + n) 1) ≠ 0) (hw : wakeWord f = .inr w) (hcmd : w / 16 % 16 = cmd)
    (haddr : w / 256 = y.rd (ent (0x2704 + n) 2) ∨ w / 256 = 0xFF) :
    y.wakeFrame n cmd f g = Sys.wakeReply (g (y.inc (ent (0x2704 + n) 3))) n (w / 256) := by
  have hdeaf : (y.resetAsserted || y.boot.strapFault || y.rd (ent (0x2704 + n) 1) == 0) = false := by simp [*]
  have hmine : ¬ (w / 16 % 16 ≠ cmd ∨ (w / 256 ≠ y.rd (ent (0x2704 + n) 2) ∧ w / 256 ≠ 0xFF)) := by omega
  simp only [Sys.wakeFrame, hdeaf, Bool.false_eq_true, if_false, hw, hmine]

theorem wakeFramePing_answers (s : State) (p : Fin 2) (f : WakeFrame) (w : Nat) (hreset : s.sys.resetAsserted = false)
    (hstrap : s.sys.boot.strapFault = false) (hon : s.sys.rd (ent (0x2704 + p.val) 1) ≠ 0) (hw : wakeWord f = .inr w) (hcmd : w / 16 % 16 = 2)
    (haddr : w / 256 = s.sys.rd (ent (0x2704 + p.val) 2)) :
    Completes (.wakeFramePing p f) s fun t =>
      (∃ b, t.sys.tx = s.sys.tx ++ [.wake p.val b] ∧ unLe b / 256 = w / 256 % 256 ∧ unLe b / 16 % 16 = s.sys.wakeState % 16) ∧
      Leaves [.tx] (only [ent (0x2704 + p.val) 3, ent (0x2704 + p.val) 5]) (only []) s t := by
  have h23 : ent (0x2704 + p.val) 2 ≠ ent (0x2704 + p.val) 3 := by unfold ent; omega
  have hstate := s.sys.wakeState_lt
  have hown : w / 256 < 256 := by have := wakeWord_lt hw; omega
  have hreply := replyWord_fields (st := s.sys.wakeState) hown (by omega)
  have hexec : Runs (.wakeFramePing p f) s (Sys.wakeReply (s.sys.inc (ent (0x2704 + p.val) 3)) p.val (w / 256)) :=
    .of_eq (Sys.wakeFrame_taken s.sys id hreset hstrap hon hw hcmd (.inl haddr)) rfl
  refine ⟨_, hexec, ?_, ?_⟩
  · have hrd : (s.sys.inc (ent (0x2704 + p.val) 3)).rd (ent (0x2704 + p.val) 2) = w / 256 := by
      rw [Sys.inc, Sys.rd_wr, if_neg h23, haddr]
    simp only [Sys.wakeReply, hrd, ne_eq, not_true_eq_false, if_false, Sys.wakeState_inc_port]
    refine ⟨_, rfl, ?_⟩
    rw [unLe_le, Nat.mod_eq_of_lt hown, Nat.mod_eq_of_lt (show s.sys.wakeState < 16 by omega)]
    exact hreply
  · refine leaves_of_sameBut ?_
    unfold Sys.wakeReply
    exact .ite (fun _ => by simp [Sys.inc]) fun _ => by simp [Sys.inc]

/-- Settles O20: wake frames by what a port that listens takes, the other sources by their conditions, and waking by the state it finds. -/
theorem wakeSourcesWake : Obligations.WakeSourcesWake := by
  refine ⟨wakeFramePing_answers, fun s p f b w hreset hstrap hon hw hcmd haddr hen => ?_, fun s p f b r hreset hstrap hon hw => ?_,
    fun s ball falling b hheld hball hfn hedge hen => ?_, fun s ball falling b hheld => ?_, fun s b ha hdue hen => ?_, fun s b hen => ?_,
    fun o y source port b => ⟨fun hp hs => ?_, fun hp => ?_, fun hp => ?_, fun hp hs => ?_⟩⟩
  · refine ⟨_, Runs.of_eq (Sys.wakeFrame_taken s.sys (fun z => if z.wakeEnabled (2 + p.val) then z.wakeUp s.otp (2 + p.val) p.val b else z)
      hreset hstrap hon hw hcmd haddr) rfl, ?_, rfl, rfl⟩
    simp only [Sys.wakeEnabled_inc_port, hen, if_true]
  · refine ⟨_, rfl, ?_⟩
    have hdeaf : (s.sys.resetAsserted || s.sys.boot.strapFault || s.sys.rd (ent (0x2704 + p.val) 1) == 0) = false := by simp [*]
    simp only [Sys.wakeFrame, hdeaf, Bool.false_eq_true, if_false, hw]
    exact ⟨by simp, leaves_of_sameBut (by simp [Sys.inc])⟩
  · refine ⟨_, rfl, ?_⟩
    simp [hheld, hball, hfn, hedge, hen]
  · refine ⟨_, rfl, ?_⟩
    simp [hheld]
  · refine ⟨_, rfl, ?_⟩
    simp [ha, hdue, hen]
  · refine ⟨_, rfl, ?_⟩
    simp [hen]
  · simp only [Sys.wakeUp, hp, hs, if_false]
  · simp only [Sys.wakeUp, hp, if_true]
  · simp only [Sys.wakeUp, hp]
  · simp only [Sys.wakeUp, hp, hs, if_false]
    rfl

end Sys2Proof.Machine
end

section
/-!
PROOFS. Stripes open, run and end (R57, R64, R294, R410 to R425).
-/

namespace Sys2Proof.Machine

variable {fs : List Facet} {nums blobs : Nat → Prop} {y z : Sys}

/-! ## Troupes -/

theorem Touches.troupe_eq (h : Touches fs y z) (ht : .troupes ∉ fs) (j : Nat) : z.troupe j = y.troupe j := by
  have e : y.troupes = z.troupes := h.facet .troupes ht (by simp)
  simp only [Sys.troupe, e]


@[simp] theorem Sys.troupe_wr (y : Sys) (k v j : Nat) : (y.wr k v).troupe j = y.troupe j := rfl

@[simp] theorem Sys.troupe_noteWaits (y : Sys) (j : Nat) : y.noteWaits.troupe j = y.troupe j :=
  ((touches_noteWaits y (fun _ => id)).2 (.refl y)).troupe_eq (by simp) j

theorem sameBut_noteWaits (y : Sys) : SameBut [.ctxs, .resident, .pages] nums blobs y y.noteWaits := by
  have hnote (z : Sys) (f : Frame) : SameBut [.ctxs, .resident, .pages] nums blobs z (z.noteLoads f) :=
    .of_facets rfl rfl fun p hp => by cases p with | ctxs | resident | pages => simp at hp | _ => rfl
  refine .foldl _ _ (fun z n _ => ?_) y
  split
  · exact .ite (fun _ => .ite (fun _ => (sameBut_setCtx_iff _ _ (by simp)).2 (hnote z _)) fun _ => hnote z _) fun _ => .refl z
  · exact .refl z

/-- Only the buffers of the Troupe t move. -/
structure BufsOnly (t : Nat) (y z : Sys) : Prop where
  held : (z.troupe t).held = (y.troupe t).held
  admission : (z.troupe t).admission = (y.troupe t).admission
  others : ∀ j, j ≠ t → z.troupe j = y.troupe j

theorem BufsOnly.refl (t : Nat) (y : Sys) : BufsOnly t y y := ⟨rfl, rfl, fun _ _ => rfl⟩

theorem BufsOnly.trans {t : Nat} {x : Sys} (h : BufsOnly t x y) (g : BufsOnly t y z) : BufsOnly t x z :=
  ⟨g.held.trans h.held, g.admission.trans h.admission, fun j hj => (g.others j hj).trans (h.others j hj)⟩

theorem BufsOnly.of_troupes {t : Nat} (h : ∀ j, z.troupe j = y.troupe j) : BufsOnly t y z := by
  refine ⟨?_, ?_, fun j _ => h j⟩ <;> rw [h]

theorem bufsOnly_setTroupe (y : Sys) (t : Nat) (b : List SegBuf) : BufsOnly t y (y.setTroupe t { y.troupe t with bufs := b }) := by
  refine ⟨by simp, by simp, fun j hj => by simp [hj]⟩

theorem bufsOnly_freeBufs (y : Sys) (t : Nat) : BufsOnly t y (y.freeBufs t) := by
  unfold Sys.freeBufs
  extract_lets u finished gone z
  have hz : BufsOnly t y z := bufsOnly_setTroupe y t _
  have hfold : Touches [.frames] z (gone.foldl (fun y b => y.onFrame b.ctx b.frame fun f => f.onStripe b.stripe fun s => { s with freed := s.freed + 1 }) z) :=
    (touches_foldl _ _ fun v b _ => by simp [↓touches_sets]).2 (.refl z)
  exact hz.trans (.of_troupes fun j => hfold.troupe_eq (by simp) j)

theorem bufsOnly_moverStep (y : Sys) (t : Nat) : BufsOnly t y (y.moverStep t) := by
  unfold Sys.moverStep
  split
  · exact .refl t y
  · split
    · exact .refl t y
    · split
      · exact .refl t y
      · split
        · exact .refl t y
        · extract_lets _ v
          have hv : BufsOnly t y v := bufsOnly_setTroupe y t _
          have hw (g : Frame → Frame) (x n : Nat) : BufsOnly t v ((v.onFrame x n g).freeBufs t) :=
            have h : BufsOnly t v (v.onFrame x n g) := .of_troupes fun _ => rfl
            h.trans (bufsOnly_freeBufs _ t)
          exact hv.trans (hw _ _ _)

theorem bufsOnly_freeDone (y : Sys) (t : Nat) : BufsOnly t y (y.freeDone t) := by
  have h (n : Nat) (z : Sys) : BufsOnly t z (upto n (fun _ y => y.moverStep t) z) := by
    refine List.foldlRecOn (motive := BufsOnly t z) (List.range n) _ (.refl t z) fun v hv _ _ => ?_
    exact hv.trans (bufsOnly_moverStep v t)
  exact (bufsOnly_freeBufs y t).trans (h 1024 _)

/-! ## A stripe opens (R57, R412) -/

theorem Sys.troupe_decide (y : Sys) (f : Frame) (j : Nat) : ((y.decideLook f).decideBlack f).troupe j = y.troupe j := by
  have h : Touches [.log, .frames, .ctxs] y ((y.decideLook f).decideBlack f) :=
    (touches_decideBlack _ _ (fun _ => id)).2 ((touches_decideLook _ _ (fun _ => id)).2 (.refl y))
  exact h.troupe_eq (by simp) j

/-- The Troupe that a stripe has taken. -/
def Troupe.taken (u : Troupe) (held : Nat × Nat × Nat) : Troupe := { u with held := some held, admission := (u.admission + 1) % 16 }

theorem Sys.troupe_openStripe (y : Sys) (f : Frame) (k r j : Nat) :
    (y.openStripe f k r none).troupe j = if j = r then (y.troupe r).taken (f.ctx, f.num, k) else y.troupe j := by
  unfold Sys.openStripe
  extract_lets x y1 y2 _ y3
  have h2 (j : Nat) : y2.troupe j = y.troupe j := Sys.troupe_decide y f j
  have h3 := Sys.troupe_setTroupe y2 r ((y2.troupe r).taken (f.ctx, f.num, k)) j
  exact h3.trans (by simp only [h2])

/-! ## A frame past its deadline (R64, R417) -/

/-- What abandoning makes of a frame: no stripe of it waits any more. -/
def Frame.left (f : Frame) : Frame :=
  { f with abandoned := true,
           stripes := f.stripes.map fun s => if s.mode == .waiting then { s with mode := if f.gen.usesRfe f.ctx then .statsOnly else .dropped } else s }

theorem Frame.left_not_waiting (f : Frame) : ∀ st ∈ f.left.stripes, st.mode ≠ .waiting := by
  intro st hst
  obtain ⟨s, -, rfl⟩ := List.mem_map.1 hst
  by_cases hw : s.mode = .waiting
  · by_cases hr : f.gen.usesRfe f.ctx <;> simp [hw, hr]
  · simp [hw]

/-- What abandoning a frame does beside the frame itself. -/
def Sys.abandonRest (y : Sys) (f : Frame) : Sys :=
  let done := (f.stripes.filter (·.done)).length
  let y := (y.inc (ent 0x2201 9)).dropStores f.ctx f.num
  let y := if y.sup.kCap != 0 then y.inc (ent 0x2001 9) else y
  let y := y.raise 0x0304 f.ctx (ev [(0, 1, f.ctx), (2, 2, done), (4, 4, f.num), (8, 1, y.skip), (9, 1, y.troupesIn)])
  let y := (y.watchedFrame .t f.ctx f.num f.rails.1 ⟨-1, 1⟩).watchedFrame .s f.ctx f.num f.rails.2 ⟨-1, 1⟩
  Sys.tellLook (y.abandonSwitch f.ctx f.num) f 1

theorem Sys.abandonTell_eq (y : Sys) (f : Frame) (h : f.abandoned = false) : y.abandonTell f = (y.onFrame f.ctx f.num Frame.left).abandonRest f := by
  simp only [Sys.abandonTell, Sys.abandon, h, Bool.false_eq_true, if_false]
  rfl

theorem touches_abandonRest (y : Sys) (f : Frame) : Touches [.tx, .log, .gov, .stores, .channels, .links] y (y.abandonRest f) := by
  unfold Sys.abandonRest
  simp [↓touches_primitives, ↓touches_tellLook, ↓touches_abandonSwitch, ↓touches_watchedFrame, ↓touches_dropStores]

theorem Sys.rd_abandonRest_count (y : Sys) (f : Frame) : (y.abandonRest f).rd (ent 0x2201 9) = (y.rd (ent 0x2201 9) + 1) % 2 ^ 32 := by
  have hw : Writes [.above 0x4140 10, .above 0x4140 11, .above 0x4160 5, .above 0x4160 6, .at 0x2001 9, .at 0x1311 3] (y.inc (ent 0x2201 9)) (y.abandonRest f) := by
    unfold Sys.abandonRest
    extract_lets done y1 y2 y3 y4
    simp [y4, y3, y2, y1, ↓writes_primitives, ↓writes_tellLook, ↓writes_abandonSwitch, ↓writes_watchedFrame, ↓writes_dropStores, covered_at]
  rw [hw.rd_eq (by simp [Spot.hits, ent])]
  simp

theorem Sys.abandon_frames (y : Sys) (f : Frame) (h : f.abandoned = false) : (y.abandonTell f).frames = (y.onFrame f.ctx f.num Frame.left).frames := by
  rw [Sys.abandonTell_eq y f h]
  exact ((touches_abandonRest _ f).facet .frames (by simp) (by simp)).symm

theorem Sys.mem_abandon_frames (y : Sys) (f g : Frame) (h : f.abandoned = false) (hg : g ∈ (y.abandonTell f).frames) (hc : g.ctx = f.ctx)
    (hn : g.num = f.num) : g.abandoned = true ∧ ∀ st ∈ g.stripes, st.mode ≠ .waiting := by
  rw [Sys.abandon_frames y f h] at hg
  obtain ⟨e, -, he⟩ := List.mem_map.1 hg
  split at he
  · subst he
    exact ⟨rfl, e.left_not_waiting⟩
  next hne =>
    subst he
    simp [hc, hn] at hne

theorem Sys.rd_abandonTell_count (y : Sys) (f : Frame) (h : f.abandoned = false) :
    (y.abandonTell f).rd (ent 0x2201 9) = (y.rd (ent 0x2201 9) + 1) % 2 ^ 32 := by
  rw [Sys.abandonTell_eq y f h, Sys.rd_abandonRest_count]
  rfl

/-! ## Segments and passes (R411, R422, R425) -/

theorem Sys.rd_passDone_counts (y : Sys) (x n k : Nat) (r : Option Nat) (f : Frame) (h : y.frame? x n = some f) :
    let z := y.passDone x n k r
    z.rd (ent (0x3440 + x) 6) = (y.rd (ent (0x3440 + x) 6) + 1) % 2 ^ 64 ∧
    ∀ j, r = some j → z.rd (ent (0x3470 + j) 3) = (y.rd (ent (0x3470 + j) 3) + 1) % 2 ^ 64 := by
  unfold Sys.passDone
  simp -zeta only [h]
  extract_lets y1 y2 y3 y4 y5 limit z
  have h2 : Writes [] y y2 := .of_dict rfl rfl
  have h4 : Writes [.above 0x3470 1, .above 0x3470 2, .above 0x3470 3] y3 y4 := by
    unfold y4
    split <;> simp [↓writes_primitives, covered_above]
  have h5 : Writes [.above 0x3018 7, .above 0x3008 9, .above 0x3008 10, .above 0x3440 10] y4 y5 := by
    simp (maxDischargeDepth := 7) [y5, ↓writes_primitives, ↓writes_foldl, ↓writes_showOccupancy, ↓writes_showHeld]
  have h6 : Writes [.above 0x3440 12] y5 z := by
    unfold z
    split
    · exact .refl _
    · simp [↓writes_primitives, covered_above]
  refine ⟨?_, fun j hj => ?_⟩
  · rw [h6.rd_eq (by simp [Spot.hits, ent]), h5.rd_eq (by simp [Spot.hits, ent]), h4.rd_eq (by simp [Spot.hits, ent])]
    simp [y3, h2.rd_eq]
  · have e : y4 = Sys.inc64 (if y3.rfeQueue j = 0 then (y3.wr (ent (0x3470 + j) 1) 0).wr (ent (0x3470 + j) 2) 0xFF else y3) (ent (0x3470 + j) 3) 1 := by
      unfold y4
      rw [hj]
    have hq : Writes [.above 0x3470 1, .above 0x3470 2] y3
        (if y3.rfeQueue j = 0 then (y3.wr (ent (0x3470 + j) 1) 0).wr (ent (0x3470 + j) 2) 0xFF else y3) := by simp [↓writes_primitives, covered_above]
    have h3 : Writes [.above 0x3440 6] y2 y3 := by simp [y3, ↓writes_primitives, covered_above]
    rw [h6.rd_eq (by simp [Spot.hits, ent]), h5.rd_eq (by simp [Spot.hits, ent]), e]
    simp [hq.rd_eq, h3.rd_eq, h2.rd_eq, Spot.hits, ent]

theorem rfePassComplete_runs (s : State) (r : Fin 8) (f : Frame) (st : Stripe) (hm : st.mode = .opened) (hr : st.rfe = some r.val)
    (hp : st.passed = false) (hw : st.written = f.gen.segs f.ctx) (hs : f.stripes = [st]) (hf : s.sys.frames = [f]) :
    Runs (.rfePassComplete r) s (s.sys.passDone f.ctx f.num st.k (some r.val)) := by
  refine (?_ : exec _ _ = _)
  have hahead : s.sys.stripesAhead f.ctx f.num st.k = [] := by simp [Sys.stripesAhead, Sys.stripesOf, hf, hs]
  simp [execRfePassComplete, hf, hs, hm, hr, hp, hw, hahead]

/-- What follows the counts of a segment: it enters the buffers, with the halo rows that it brings and takes (R425). -/
def Sys.segmentTaken (y : Sys) (f : Frame) (st : Stripe) (q : Nat) : Sys :=
  let j := st.written
  let y := y.setTroupe q { y.troupe q with bufs := (y.troupe q).bufs ++ [f.segBuf st.k j] }
  let y := y.onFrame f.ctx f.num fun h => h.onStripe st.k fun s => { s with written := j + 1 }
  let y := ((y.haloCopy f st.k j).haloCopy f (st.k + 1) j).haloAgain f st.k j
  let y := if f.gen.role = 3 ∧ (st.k = 0 ∨ st.k + 1 = f.gen.stripes f.ctx) then
    y.shareLinks.foldl (fun y l => y.send (.garos l 1 0 f.num (le 1 f.ctx ++ le 2 st.k ++ le 1 j))) y
    else y
  y.fillEdges

theorem writes_segmentTaken (y : Sys) (f : Frame) (st : Stripe) (q : Nat) : Writes [] y (y.segmentTaken f st q) := by
  unfold Sys.segmentTaken
  extract_lets j _ y1 y2 y3 y4
  have h3 : Writes [] y2 y3 := by simp [y3, ↓writes_haloAgain, ↓writes_haloCopy]
  have h4 : Writes [] y3 y4 := by simp (maxDischargeDepth := 7) [y4, ↓writes_primitives, ↓writes_foldl]
  have h2 : Writes [] y y2 := .of_dict rfl rfl
  exact (writes_fillEdges _).2 ((h2.trans h3).trans h4)

/-- The raw front end that starts on a frame is busy with its context. -/
theorem Sys.rd_rfeStart_state (y : Sys) (r x n : Nat) : (y.rfeStart r x n).rd (ent (0x3470 + r) 1) = 1 := by simp [Sys.rfeStart]

theorem Sys.rd_rfeStart_context (y : Sys) (r x n : Nat) : (y.rfeStart r x n).rd (ent (0x3470 + r) 2) = x := by
  unfold Sys.rfeStart
  extract_lets u b y1 y2
  have h2 : y2.rd (ent b 2) = x := by
    unfold y2
    split
    · assumption
    · simp [ent]
  rw [Sys.rd_wr, if_neg (by unfold ent; omega)]
  exact h2

theorem rfeSegmentWritten_counts (s : State) (r : Fin 8) (w : BitVec 32) (f : Frame) (st : Stripe) (q : Nat)
    (hnext : s.sys.rfeNext r.val = some (f, st)) (hq : st.troupe = some q) :
    Completes (.rfeSegmentWritten r w) s fun t =>
      t.sys.rd (ent (0x3470 + r.val) 6) = (s.sys.rd (ent (0x3470 + r.val) 6) + w.toNat) % 2 ^ 64 ∧
      (st.written = 0 → t.sys.rd (ent (0x3470 + r.val) 1) = 1 ∧ t.sys.rd (ent (0x3470 + r.val) 2) = f.ctx) ∧ t.otp = s.otp ∧ t.pending = s.pending := by
  have hexec : Runs (.rfeSegmentWritten r w) s
      (((if st.written = 0 then s.sys.rfeStart r.val f.ctx f.num else s.sys).inc64 (ent (0x3470 + r.val) 6) w.toNat).segmentTaken f st q) := by
    refine (?_ : exec _ _ = _)
    simp only [exec_rfeSegmentWritten, execRfeSegmentWritten, onSys_eq, hnext, hq]
    rfl
  have hrest (y : Sys) (k : Nat) : (y.segmentTaken f st q).rd k = y.rd k := (writes_segmentTaken y f st q).rd_eq (by simp)
  have hstart (y : Sys) : Writes [.above 0x3470 1, .above 0x3470 2, .above 0x3470 4, .above 0x3470 5] y (y.rfeStart r.val f.ctx f.num) :=
    (writes_rfeStart _ _ _ _ (fun _ => id)).2 (.refl y)
  refine ⟨_, hexec, ?_, fun h0 => ?_, rfl, rfl⟩
  · simp only [hrest]
    split
    · simp [(hstart s.sys).rd_eq, Spot.hits, ent]
    · simp
  · simp only [hrest, h0, if_true]
    simp [Sys.rd_rfeStart_state, Sys.rd_rfeStart_context]

/-- Settles O21: the stripe that opens by what it leaves of the Troupes, a deadline by what abandoning leaves of the frames, and passes by their counts. -/
theorem stripesOpenRunAndEnd : Obligations.StripesOpenRunAndEnd := by
  refine ⟨fun s x k r f hx hn hr hskip => ?_, fun s x k r f hx hn hr hskip hrfe => ?_, fun s q hidle => ?_, fun s x f hf => ?_,
    rfeSegmentWritten_counts, rfePassComplete_runs, fun s f k r hn hr => ?_, Sys.rd_passDone_counts⟩
  · refine ⟨_, rfl, ?_⟩
    simp only [hx, hn, hr, hskip, if_true, Sys.troupe_noteWaits]
    have hwaits (y : Sys) : SameBut [.troupes, .ctxs, .resident, .pages] (only [ent 0x2202 3]) (only []) y y.noteWaits :=
      (sameBut_noteWaits y).mono (by simp) (fun _ => id) fun _ => id
    refine ⟨by simp [Sys.inc64], fun j hj => by simp [Sys.inc64, hj], ?_, leaves_of_sameBut (.trans ?_ (hwaits _))⟩
    · rw [((writes_noteWaits _).2 (.refl _)).rd_eq (ps := []) (by simp)]
      simp
    · simp [Sys.inc64]
  · refine ⟨_, rfl, ?_⟩
    simp only [hx, hn, hr, hskip, Bool.false_eq_true, if_false, hrfe, Bool.false_and, Sys.troupe_noteWaits]
    have hdone := bufsOnly_freeDone (s.sys.openStripe f k r none) r
    refine ⟨?_, ?_, fun j hj => ?_, rfl, trivial⟩
    · rw [hdone.held, Sys.troupe_openStripe, if_pos rfl]
      rfl
    · rw [hdone.admission, Sys.troupe_openStripe, if_pos rfl]
      rfl
    · rw [hdone.others j hj, Sys.troupe_openStripe, if_neg hj]
  · refine ⟨_, rfl, ?_⟩
    simp only [hidle, if_true]
    exact ⟨by simp, fun j hj => by simp [hj], leaves_of_sameBut (by simp)⟩
  · have hab : f.abandoned = false := by
      have h := List.find?_some hf
      simp at h
      exact h.1.2
    refine ⟨_, rfl, ?_⟩
    simp only [hf]
    exact ⟨fun g hg hc hn => Sys.mem_abandon_frames s.sys f g hab hg hc hn, Sys.rd_abandonTell_count s.sys f hab, rfl, trivial⟩
  · refine (?_ : exec _ _ = _)
    simp only [exec_statsOnlyStripe, execStatsOnlyStripe, onSys_eq, hn, hr]

end Sys2Proof.Machine
end

section
/-!
PROOFS. A raw front end is fenced and returns; halo lines and look decisions arrive (R314, R427, R428).
-/

namespace Sys2Proof.Machine

variable {fs : List Facet} {nums blobs : Nat → Prop} {y z : Sys}

/-! ## Which raw front end takes a stripe -/

theorem Sys.bestRfe_ok {ok : Nat → Bool} {r : Nat} (h : y.bestRfe ok = some r) : ok r = true := by
  have hstep (l : List Nat) (a : Option Nat) (ha : ∀ b, a = some b → ok b = true) (hl : ∀ b ∈ l, ok b = true) :
      ∀ b, l.foldl (fun a r => match a with | none => some r | some b => if y.rfeQueue r < y.rfeQueue b then some r else a) a = some b → ok b = true := by
    induction l generalizing a with
    | nil => exact ha
    | cons c t ih =>
      refine ih _ (fun b hb => ?_) fun b hb => hl b (by simp [hb])
      have hc := hl c (by simp)
      dsimp only at hb
      split at hb
      · simp_all
      · split at hb
        · simp_all
        · exact ha b hb
  exact hstep _ none (by simp) (by simp) r h

/-- A stripe goes to a raw front end that is in service. -/
theorem Sys.rfeIn_of_pickOther {f : Frame} {r : Nat} (h : y.pickOther f = some r) : y.rfeIn r = true := by
  unfold Sys.pickOther at h
  split at h
  next q hq =>
    have := Sys.bestRfe_ok hq
    simp_all [Sys.rfeTakes]
  next =>
    have := Sys.bestRfe_ok h
    simp_all [Sys.rfeTakes]

/-! ## The fence (R314) -/

/-- Stripes move to other raw front ends: caches alone change, and not the one of r. -/
structure MovedFrom (r : Nat) (y z : Sys) : Prop where
  same : SameBut [.rfes, .frames] (only []) (only []) y z
  fenced : z.rfe r = y.rfe r
  others : ∀ j, z.rfe j = { y.rfe j with cache := (z.rfe j).cache }

theorem MovedFrom.refl (r : Nat) (y : Sys) : MovedFrom r y y := ⟨.refl y, rfl, fun _ => rfl⟩

theorem MovedFrom.trans {r : Nat} {x : Sys} (h : MovedFrom r x y) (g : MovedFrom r y z) : MovedFrom r x z :=
  ⟨h.same.trans g.same, g.fenced.trans h.fenced, fun j => by rw [g.others j, h.others j]⟩

theorem MovedFrom.foldl {α : Type} {r : Nat} (P : Sys → Prop) (g : Sys → α → Sys) (l : List α) (hP : ∀ {v w}, P v → MovedFrom r v w → P w)
    (h : ∀ v, P v → ∀ a ∈ l, MovedFrom r v (g v a)) (y : Sys) (hy : P y) : MovedFrom r y (l.foldl g y) := by
  induction l generalizing y with
  | nil => exact .refl r y
  | cons a t ih =>
    have ha := h y hy a (by simp)
    exact ha.trans (ih (fun v hv b hb => h v hv b (by simp [hb])) _ (hP hy ha))

/-- Prefetch fills the cache of a raw front end that is not r. -/
theorem movedFrom_rfePrefetch (y : Sys) {r o : Nat} (h : r ≠ o) (x n : Nat) : MovedFrom r y (y.rfePrefetch o x n) := by
  refine ⟨by simp [Sys.rfePrefetch], by simp [Sys.rfePrefetch, h], fun j => ?_⟩
  by_cases hj : j = o
  · subst hj; simp [Sys.rfePrefetch]
  · simp [Sys.rfePrefetch, hj]

/-- The stripes that the raw front end r has not passed go to other units. -/
def Sys.stripesMoved (y : Sys) (r : Nat) : Sys :=
  y.frames.foldl (fun y f => f.stripes.foldl (fun y st =>
    if st.rfe = some r ∧ !st.passed then
      let other := y.pickOther f
      let y := y.onFrame f.ctx f.num fun h => h.onStripe st.k fun q => { q with rfe := other }
      match other with | some o => y.rfePrefetch o f.ctx f.num | none => y
    else y) y) y

theorem movedFrom_stripesMoved (y : Sys) (r : Nat) (h : y.rd (ent (0x3470 + r) 1) = 2) : MovedFrom r y (y.stripesMoved r) := by
  let P (v : Sys) : Prop := v.rd (ent (0x3470 + r) 1) = 2
  have hP {v w : Sys} (hv : P v) (hm : MovedFrom r v w) : P w := (hm.same.2.1 _ (by simp)).trans hv
  refine .foldl P _ _ hP (fun v hv f _ => .foldl P _ _ hP (fun w hw st _ => ?_) v hv) y h
  split
  · have hfr (g : Frame → Frame) : MovedFrom r w (w.onFrame f.ctx f.num g) := ⟨by simp, rfl, fun _ => rfl⟩
    have hone (g : Frame → Frame) : MovedFrom r w (match w.pickOther f with
        | some o => (w.onFrame f.ctx f.num g).rfePrefetch o f.ctx f.num | none => w.onFrame f.ctx f.num g) := by
      split
      next o ho =>
        have hne : r ≠ o := by
          rintro rfl
          have := Sys.rfeIn_of_pickOther ho
          have hw : w.rd (ent (0x3470 + r) 1) = 2 := hw
          simp [Sys.rfeIn, hw] at this
        exact (hfr g).trans (movedFrom_rfePrefetch _ hne _ _)
      next => exact hfr g
    exact hone _
  · exact .refl r w

/-- Where a unit holds a stripe that it writes, the stripe starts anew. -/
def Sys.stripeDropped (y : Sys) (r : Nat) : Sys :=
  match y.rfePresent r with
  | some (f, st) => Sys.onFrame (y.dropStripe f st) f.ctx f.num fun h => h.onStripe st.k fun q => { q with written := 0, freed := 0 }
  | none => y

theorem sameBut_stripeDropped (y : Sys) (r : Nat) : SameBut [.troupes, .frames, .engines] (only []) (only []) y (y.stripeDropped r) := by
  have hdrop (f : Frame) (st : Stripe) : SameBut [.troupes, .frames, .engines] (only []) (only []) y (y.dropStripe f st) := by
    unfold Sys.dropStripe
    split
    · exact .refl y
    · refine .trans (by simp) (.upto _ _ (fun z i _ => by simp) _)
  unfold Sys.stripeDropped
  split
  · exact (sameBut_onFrame_iff _ _ _ (by simp)).2 (hdrop _ _)
  · exact .refl y

/-- The unit is out of service, with an empty cache. -/
def Sys.rfeFenced (y : Sys) (r : Nat) : Sys :=
  let y := Sys.inc ((y.wr (ent (0x3470 + r) 1) 2).wr (ent (0x3470 + r) 2) 0xFF) (ent (0x3470 + r) 7)
  y.setRfe r { y.rfe r with cache := [], returning := false }

@[simp] theorem Sys.rfe_wr (y : Sys) (k v j : Nat) : (y.wr k v).rfe j = y.rfe j := rfl

@[simp] theorem Sys.rfe_raise (y : Sys) (code source : Nat) (data : Bytes) (j : Nat) : (y.raise code source data).rfe j = y.rfe j := by simp [Sys.rfe]

theorem rfeParityError_runs (s : State) (r : Fin 8) (cache : Bool) :
    Runs (.rfeParityError r cache) s ((((s.sys.stripeDropped r.val).rfeFenced r.val).stripesMoved r.val).raise 0x0905 r.val
      (ev [(0, 1, r.val), (1, 1, if cache then 1 else 0), (2, 1, ((s.sys.rfePresent r.val).map fun h => h.1.ctx).getD 0xFF),
        (4, 4, ((s.sys.rfePresent r.val).map fun h => h.1.num).getD 0)])) := rfl

theorem rfeParityError_fences (s : State) (r : Fin 8) (cache : Bool) : Completes (.rfeParityError r cache) s fun t =>
    t.sys.rd (ent (0x3470 + r.val) 1) = 2 ∧ t.sys.rd (ent (0x3470 + r.val) 7) = (s.sys.rd (ent (0x3470 + r.val) 7) + 1) % 2 ^ 32 ∧
    t.sys.rd (ent (0x3470 + r.val) 2) = 0xFF ∧ (t.sys.rfe r.val).cache = [] ∧
    (∀ j, j ≠ r.val → t.sys.rfe j = { s.sys.rfe j with cache := (t.sys.rfe j).cache }) ∧
    (Room s → s.sys.rfePresent r.val = none → Logs s t 0x0905 r.val (ev [(0, 1, r.val), (1, 1, if cache then 1 else 0), (2, 1, 0xFF), (4, 4, 0)])) ∧
    Leaves [.rfes, .troupes, .frames, .engines, .log] (only [ent (0x3470 + r.val) 1, ent (0x3470 + r.val) 2, ent (0x3470 + r.val) 7]) (only []) s t := by
  have hdrop := sameBut_stripeDropped s.sys r.val
  generalize hv : s.sys.stripeDropped r.val = v at hdrop
  have h1 : (v.rfeFenced r.val).rd (ent (0x3470 + r.val) 1) = 2 := by simp [Sys.rfeFenced]
  have hmove := movedFrom_stripesMoved _ r.val h1
  have hrd (k : Nat) : ((v.rfeFenced r.val).stripesMoved r.val).rd k = (v.rfeFenced r.val).rd k := hmove.same.2.1 k (by simp)
  have hrfe (j : Nat) : v.rfe j = s.sys.rfe j := by
    have e : s.sys.rfes = v.rfes := hdrop.1 .rfes (by simp)
    simp only [Sys.rfe, e]
  refine ⟨_, rfeParityError_runs s r cache, ?_⟩
  rw [hv]
  refine ⟨?_, ?_, ?_, ?_, fun j hj => ?_, fun hroom hnone => ?_, leaves_of_sameBut ?_⟩
  · rw [Sys.rd_raise, hrd, h1]
  · rw [Sys.rd_raise, hrd, ← hdrop.2.1 (ent (0x3470 + r.val) 7) (by simp)]
    simp [Sys.rfeFenced]
  · rw [Sys.rd_raise, hrd]
    simp [Sys.rfeFenced]
  · rw [Sys.rfe_raise, hmove.fenced]
    simp [Sys.rfeFenced]
  · rw [Sys.rfe_raise, hmove.others j]
    simp [Sys.rfeFenced, hj, hrfe]
  · have hlog : ((v.rfeFenced r.val).stripesMoved r.val).log = s.sys.log := ((hmove.same.1 .log (by simp)).symm).trans (hdrop.1 .log (by simp)).symm
    have ht : ((v.rfeFenced r.val).stripesMoved r.val).t96 = s.sys.t96 := ((hmove.same.1 .t96 (by simp)).symm).trans (hdrop.1 .t96 (by simp)).symm
    have hl := Sys.log_raise ((v.rfeFenced r.val).stripesMoved r.val) 0x0905 r.val (ev [(0, 1, r.val), (1, 1, if cache then 1 else 0), (2, 1, 0xFF), (4, 4, 0)])
      (by rw [hlog]; exact hroom)
    rw [hlog, ht] at hl
    simp only [hnone, Option.map_none, Option.getD_none]
    exact hl
  · have hfence : SameBut [.rfes] (only [ent (0x3470 + r.val) 1, ent (0x3470 + r.val) 2, ent (0x3470 + r.val) 7]) (only []) v (v.rfeFenced r.val) := by
      simp [Sys.rfeFenced, Sys.inc]
    rw [sameBut_raise_iff _ _ _ (by simp)]
    exact ((hdrop.mono (by simp) (by simp) fun _ => id).trans (hfence.mono (by simp) (fun _ => id) fun _ => id)).trans
      (hmove.same.mono (by simp) (by simp) fun _ => id)

/-! ## A retest, halo lines and look decisions -/

theorem Sys.frame?_spec {x n : Nat} {f : Frame} (h : y.frame? x n = some f) : f.ctx = x ∧ f.num = n := by
  simpa using List.find?_some h

/-- Settles O22. -/
theorem frontEndsAreFencedAndArraysAgree : Obligations.FrontEndsAreFencedAndArraysAgree := by
  refine ⟨rfeParityError_fences, fun s r passed hroom => ?_, fun s x n nb lines us f hf => ?_, fun s x n nb seg rows us f hf hus => ?_,
    fun s x n o f hf hleft hroom => ?_, fun s x n o f hf hab => ?_⟩
  · refine ⟨_, rfl, ?_⟩
    refine ⟨by simp [Sys.rfeRetested], by simp [Sys.rfeRetested], fun j hj => by simp [Sys.rfeRetested, hj], ?_,
      leaves_of_sameBut (by simp [Sys.rfeRetested])⟩
    exact Sys.log_raise _ _ _ _ hroom
  · obtain ⟨hx, hn⟩ := Sys.frame?_spec hf
    refine ⟨_, rfl, ?_⟩
    simp only [hf, hx, hn]
    exact ⟨rfl, leaves_of_sameBut (by simp)⟩
  · have hlate : ¬ 50 < us.toNat := by omega
    refine (?_ : exec _ _ = _)
    simp only [exec_arrayHaloReceive, execArrayHaloReceive, onSys_eq, hf, hlate, if_false]
  · obtain ⟨hx, hn⟩ := Sys.frame?_spec hf
    have hkeep : (!f.reduced && f.seam.isNone && !f.abandoned) = false := by
      rcases hleft with h | h <;> simp [h]
    refine ⟨_, rfl, ?_⟩
    simp only [hf, hkeep, Bool.false_eq_true, if_false, hx, hn]
    exact ⟨Sys.log_raise _ _ _ _ hroom, leaves_of_sameBut (by simp)⟩
  · have hcount : (s.sys.abandon f).rd (ent 0x2201 9) = (s.sys.rd (ent 0x2201 9) + 1) % 2 ^ 32 := by
      rw [← Sys.rd_abandonTell_count s.sys f hab]
      simp only [Sys.abandonTell, hab, Bool.false_eq_true, if_false]
      exact (((writes_tellLook (ps := []) _ f 1).2 (.refl _)).rd_eq (by simp)).symm
    refine ⟨_, rfl, ?_⟩
    simp only [hf, if_true, Sys.rd_raise, hcount]
    exact ⟨trivial, rfl, trivial⟩

end Sys2Proof.Machine
end

section
/-!
PROOFS. Denval reads, writes and groups (R126, R127, R132, R134 to R136, R143, R155, R684).
-/

namespace Sys2Proof.Machine

variable {y z : Sys} {s : State} {f : DenvalFrame} {r : Req} {sid n : Nat} {role : Role}

/-! ## Frames that are accepted -/

/-- A frame that is accepted is handled by its operation, and may be the last of its session (R155). -/
theorem requestStep_accepted {mine : Req → Bool} {h : Handler} (ha : Accepted f s r sid role n z) (hm : mine r = true) :
    requestStep s f mine h = .next { s with sys := (h s.otp z r sid role n).lastAnswered sid n } := by
  obtain ⟨y, htake, hauth⟩ := ha
  refine congrArg (fun y => Host.Outcome.next { s with sys := y }) ?_
  dsimp only
  rw [htake]
  dsimp only
  rw [if_pos hm]
  unfold authed
  rw [hauth]

theorem isOp_iff (n : Nat) (r : Req) : isOp n r = true ↔ r.func = 4 ∧ r.op = n := by simp [isOp]

theorem Sys.id_of_session? {i : Nat} {g : Session} (h : y.session? i = some g) : g.id = i := by
  unfold Sys.session? at h
  split at h
  · cases h
  · simpa using List.find?_some h

/-- The open group is the one that the request names. -/
theorem filter_gtag {g : Group} (h : g.gtag = r.gtag) : (some g).filter (fun g => g.gtag == r.gtag) = some g := by simp [Option.filter, h]

/-! ## Units (R126, R684) -/

/-- What sends the unit to another member: the module is one of an array, and not its head. -/
theorem Sys.submitUnit_own (u : CommitUnit) (h : y.view.role ≠ 3 ∨ y.roleShadow = true ∨ y.arrayPos = y.rd (ent 0x4C01 6)) :
    y.submitUnit u = y.onDen fun d => { d with units := d.units ++ [u] } := by
  have hno : ¬ (y.view.role = 3 ∧ (!y.roleShadow) = true ∧ y.arrayPos ≠ y.rd (ent 0x4C01 6)) := by
    rintro ⟨h3, hs, hp⟩
    simp_all
  simp only [Sys.submitUnit, hno, if_false]

theorem Sys.submitUnit_fronted (u : CommitUnit) {k : Nat} (h3 : y.view.role = 3) (hs : y.roleShadow = false) (hp : y.arrayPos ≠ y.rd (ent 0x4C01 6))
    (hk : y.posLink (y.rd (ent 0x4C01 6)) = some k) :
    (y.submitUnit u).twin.fronted = y.twin.fronted ++ [(y.twin.nextFront, u)] ∧ (y.submitUnit u).den = y.den := by
  have hcond : y.view.role = 3 ∧ (!y.roleShadow) = true ∧ y.arrayPos ≠ y.rd (ent 0x4C01 6) := ⟨h3, by simp [hs], hp⟩
  simp only [Sys.submitUnit, hcond, and_self, if_true, ne_eq, not_false_eq_true, hk]
  have hctl (v : Sys) (c : Ctl) (b : Bytes) : SameBut [.links, .tx, .log] (fun _ => True) (fun _ => True) v (v.control k c b) :=
    sameBut_control v k c b (by simp) (by simp) (by simp)
  exact ⟨congrArg (·.fronted) ((hctl _ _ _).1 .twin (by simp)).symm, ((hctl _ _ _).1 .den (by simp)).symm⟩

/-- A unit that is submitted is awaited by its session. -/
theorem Sys.awaits_submitUnit (u : CommitUnit) (h : 0xFFFFFFFF ≤ u.counter) : (y.submitUnit u).awaits u.session = true := by
  by_cases hown : y.view.role ≠ 3 ∨ y.roleShadow = true ∨ y.arrayPos = y.rd (ent 0x4C01 6)
  · simp [Sys.submitUnit_own u hown, Sys.awaits, h]
  · push Not at hown
    obtain ⟨h3, hs, hp⟩ := hown
    cases hk : y.posLink (y.rd (ent 0x4C01 6)) with
    | none =>
      have hq : y.submitUnit u = y.onDen fun d => { d with units := d.units ++ [u] } := by simp only [Sys.submitUnit, hk, ite_self]
      simp [hq, Sys.awaits, h]
    | some k =>
      simp [Sys.awaits, (Sys.submitUnit_fronted u h3 (by simpa using hs) hp hk).1, h]

/-- A session is not closed while the unit of its last request waits. -/
theorem Sys.lastAnswered_submitUnit (u : CommitUnit) : (y.submitUnit u).lastAnswered u.session u.counter = y.submitUnit u := by
  unfold Sys.lastAnswered
  rw [if_neg]
  rintro ⟨-, hc, hw⟩
  simp [Sys.awaits_submitUnit u hc] at hw

/-! ## Reads (R132, R143) -/

/-- A read of the shadow takes nothing away. -/
theorem Sys.readEntry_shadow (o : Otp) (y : Sys) (path source session : Nat) (role : Role) (k : Nat) :
    (y.readEntry o path source session role k true).2.2 = y := by
  unfold Sys.readEntry
  split
  · rfl
  · simp only [if_true]
    repeat' split
    all_goals rfl

theorem Sys.denvalRead_answers (o : Otp) {x : Sys} {v : Bytes} {shadow : Bool} (hw : r.wellFormed = true) (hl : r.len = 0) (hd : r.dst = z.node)
    (hr : z.readEntry o r.path r.source sid role r.entry shadow = (.ok, v, x)) (hv : v.length ≤ valueLimit r.path) :
    z.denvalRead o r sid role n shadow = x.respond r sid .ok 0 v := by
  have hfits : ¬ valueLimit r.path < v.length := by omega
  simp only [Sys.denvalRead, hw, hl, Sys.positionOf, hd, if_true, hr, ne_eq, not_true_eq_false, hfits, if_false, Bool.not_true, bne_self_eq_false,
    Bool.or_self, Bool.false_eq_true]

/-- Settles O23. -/
theorem requestsReadWriteAndGroup : Obligations.RequestsReadWriteAndGroup := by
  refine ⟨fun s f r sid n role z x v ha hf hop hw hl hd hr hv => ?_, fun s f r sid n role z x v ha hf hop hw hl hd hr hv => ?_,
    fun s f r sid n role z ha hf hop hw hok hcur => ?_, fun y u h => Sys.submitUnit_own u h, fun y u k h3 hs hp hk => Sys.submitUnit_fronted u h3 hs hp hk,
    fun s f r sid n role z g sc ha hf hop hw hg hnone hlen htag hflag hzero hsc hv => ?_,
    fun s f r sid n role z g h ha hf hop hw hg hh htag hok hscope hnum hsize => ?_,
    fun s f r sid n role z g h ha hf hop hw hg hh htag hfail => ?_, fun s i u g hu hg => ?_⟩
  · have hexec := requestStep_accepted (mine := fun r => isOp 1 r || (r.func == 4 && (r.op == 0 || decide (9 < r.op)))) (h := denvalReadFrame) ha
      (by simp [(isOp_iff 1 r).2 ⟨hf, hop⟩])
    simp only [denvalReadFrame, hop, if_true, Sys.denvalRead_answers s.otp hw hl hd hr hv] at hexec
    exact hexec
  · have hx : x = z := by simpa [hr] using Sys.readEntry_shadow s.otp z r.path r.source sid role r.entry
    subst hx
    have hexec := requestStep_accepted (h := denvalReadShadowFrame) ha ((isOp_iff 2 r).2 ⟨hf, hop⟩)
    simp only [denvalReadShadowFrame, Sys.denvalRead_answers s.otp hw hl hd hr hv] at hexec
    exact ⟨rfl, hexec⟩
  · have hexec := requestStep_accepted (h := denvalWriteFrame) ha ((isOp_iff 3 r).2 ⟨hf, hop⟩)
    have hwr : denvalWriteFrame s.otp z r sid role n = z.submitUnit (z.unitOf r sid role n 3 [(r.entry, r.value)]) := by
      simp only [denvalWriteFrame, hw, Bool.not_true, Bool.false_eq_true, if_false, Sys.denvalWrite, hok, ne_eq, not_true_eq_false, hcur, false_and]
    rw [hwr] at hexec
    exact hexec.trans (congrArg (fun y => Host.Outcome.next { s with sys := y }) (Sys.lastAnswered_submitUnit (z.unitOf r sid role n 3 [(r.entry, r.value)])))
  · have hexec := requestStep_accepted (h := groupBeginFrame) ha ((isOp_iff 5 r).2 ⟨hf, hop⟩)
    have hbegin : groupBeginFrame s.otp z r sid role n = z.groupBegin r g := by
      simp only [groupBeginFrame, groupHandler, hw, Bool.not_true, Bool.false_eq_true, if_false, hg]
    rw [hbegin] at hexec
    refine hexec.trans (congrArg (fun y => Host.Outcome.next { s with sys := Sys.lastAnswered y sid n }) ?_)
    simp [Sys.groupBegin, hnone, hv, htag, hflag, hzero, hsc]
  · have hexec := requestStep_accepted (h := groupMemberFrame) ha ((isOp_iff 4 r).2 ⟨hf, hop⟩)
    have hmem : groupMemberFrame s.otp z r sid role n = z.setSession { g with group := some { h with members := h.members ++ [(r.entry, r.value)] } } := by
      have hfull : ¬ (64 ≤ h.members.length ∨ 4096 < (h.members.map fun m => m.2.length).sum + r.value.length) := by omega
      simp [groupMemberFrame, groupHandler, hw, hg, Sys.groupMember, hh, filter_gtag htag, hok, hscope, hfull]
    rw [hmem] at hexec
    exact hexec
  · have hexec := requestStep_accepted (h := groupCommitFrame) ha ((isOp_iff 6 r).2 ⟨hf, hop⟩)
    have hcommit : groupCommitFrame s.otp z r sid role n = (z.setSession { g with group := none }).submitUnit
        { z.unitOf r g.id g.role n 6 h.members with gtag := h.gtag, scope := h.scope, target := h.target } := by
      simp [groupCommitFrame, groupHandler, hw, hg, Sys.groupCommit, hh, filter_gtag htag, hfail]
      rfl
    rw [hcommit] at hexec
    refine hexec.trans (congrArg (fun y => Host.Outcome.next { s with sys := y }) ?_)
    rw [← Sys.id_of_session? hg]
    exact Sys.lastAnswered_submitUnit { z.unitOf r g.id g.role n 6 h.members with gtag := h.gtag, scope := h.scope, target := h.target }
  · refine (?_ : exec _ _ = _)
    simp only [exec_groupTimeout, execGroupTimeout, onSys_eq, hu, hg]

end Sys2Proof.Machine
end

section
/-!
PROOFS. Segmented transfers move, end and time out (R143 to R145).
-/

namespace Sys2Proof.Machine

variable {fs : List Facet} {nums blobs : Nat → Prop} {y z : Sys} {s : State} {f : DenvalFrame} {r : Req} {sid n : Nat} {role : Role}

/-! ## What a reply leaves alone -/

/-- Neither the event log nor the open transfers move. -/
structure SameTransfers (y z : Sys) : Prop where
  log : z.log = y.log
  transfers : z.den.transfers = y.den.transfers

theorem SameTransfers.of_touches (h : Touches fs y z) (hl : .log ∉ fs) (hd : .den ∉ fs) : SameTransfers y z :=
  ⟨(h.facet .log hl (by simp)).symm, congrArg (·.transfers) (h.facet .den hd (by simp)).symm⟩

theorem sameTransfers_frameRaw (y : Sys) (path dest word : Nat) (body : Bytes) : SameTransfers y (y.frameRaw path dest word body) := by
  unfold Sys.frameRaw
  dsimp only
  split
  · exact SameTransfers.of_touches ((touches_mailSend y 1 _ (fun _ => id)).2 (.refl y)) (by simp) (by simp)
  · split
    · exact .of_touches (fs := [.links, .tx]) ((sameBut_controlTwin (nums := only []) (blobs := only []) y _ _ (by simp) (by simp)).touches fun _ => id)
        (by simp) (by simp)
    · repeat' split
      all_goals exact ⟨rfl, rfl⟩

theorem sameTransfers_frameOut (y : Sys) {dest : Nat} (h : isFar dest = false) (path dst : Nat) (func : Func) (tag : Nat) (body : Bytes) :
    SameTransfers y (y.frameOut path dest dst func tag body) := by
  unfold Sys.frameOut
  simp only [h, Bool.false_eq_true, if_false]
  exact sameTransfers_frameRaw ..

theorem SameTransfers.trans {x : Sys} (h : SameTransfers x y) (g : SameTransfers y z) : SameTransfers x z :=
  ⟨g.log.trans h.log, g.transfers.trans h.transfers⟩

/-- A reply logs nothing, and it opens no transfer; with session 0 it closes none. -/
theorem Sys.reply_transfers (y : Sys) {source : Nat} (h : isFar source = false) (path node session : Nat) (func : Func) (tag : Nat) (b : Bytes) :
    (y.reply path source node session func tag b).log = y.log ∧
    (y.reply path source node session func tag b).den.transfers.Sublist y.den.transfers ∧
    (session = 0 → (y.reply path source node session func tag b).den.transfers = y.den.transfers) := by
  unfold Sys.reply
  extract_lets p
  split
  · have hf := sameTransfers_frameOut y h path node func tag (p ++ List.replicate 14 0)
    exact ⟨hf.log, hf.transfers ▸ List.Sublist.refl _, fun _ => hf.transfers⟩
  next hs =>
    refine ⟨?_, ?_, fun h0 => absurd h0 hs⟩
    · split
      · rfl
      next u _ =>
        extract_lets k y1 q y2
        have hf : SameTransfers y y2 := .trans (y := y1) ⟨rfl, rfl⟩ (sameTransfers_frameOut y1 h ..)
        split
        · exact hf.log
        · exact hf.log
    · split
      · exact List.Sublist.refl _
      next u _ =>
        extract_lets k y1 q y2
        have hf : SameTransfers y y2 := .trans (y := y1) ⟨rfl, rfl⟩ (sameTransfers_frameOut y1 h ..)
        split
        · exact hf.transfers ▸ List.filter_sublist
        · exact hf.transfers ▸ List.Sublist.refl _

/-- Settles O24. -/
theorem transfersMoveSegments : Obligations.TransfersMoveSegments := by
  refine ⟨fun s f r sid n role z x v ha hf hop hw hno hno' hfull hd hr => ?_, fun s f r sid n role z ha hf hop hw hl hno hno' hfull hst htot => ?_,
    fun s f r sid n role z u ha hf hu hnext hmore hlen htot => ?_, fun s f r sid n role z u ha hf hu hlo hhi => ?_,
    fun s f r sid n role z g ha hf hop hsid hw hl hg hnone hmine => ?_, fun s p src sid tag u hu hroom => ?_⟩
  · have hexec := requestStep_accepted (h := segReadInitFrame) ha ((isOp_iff 7 r).2 ⟨hf, hop⟩)
    have hread : segReadInitFrame s.otp z r sid role n = x.openRead r sid v := by
      simp [segReadInitFrame, hw, hno, hno', hfull, Sys.positionOf, hd, hr]
    rw [hread] at hexec
    exact hexec
  · have hexec := requestStep_accepted (h := segWriteInitFrame) ha ((isOp_iff 8 r).2 ⟨hf, hop⟩)
    refine hexec.trans (congrArg (fun y => Host.Outcome.next { s with sys := Sys.lastAnswered y sid n }) ?_)
    simp [segWriteInitFrame, hw, hl, hno, hno', hfull, hst, htot]
  · have hexec := requestStep_accepted (mine := fun r => r.func == 6) (h := segDownFrame) ha (by simp [hf])
    refine hexec.trans (congrArg (fun y => Host.Outcome.next { s with sys := Sys.lastAnswered y sid n }) ?_)
    have hsize : segmentSize u.path = min (segmentSize u.path) (u.total - u.data.length) := by omega
    have hdone : ¬ u.total ≤ u.data.length + segmentSize u.path := by omega
    simp only [segDownFrame, hu, Sys.segmentDown, hnext, ne_eq, not_true_eq_false, if_false, hlen, ← hsize, List.length_append, hdone, false_or, hmore]
  · have hexec := requestStep_accepted (mine := fun r => r.func == 8) (h := segAckFrame) ha (by simp [hf])
    refine hexec.trans (congrArg (fun y => Host.Outcome.next { s with sys := Sys.lastAnswered y sid n }) ?_)
    have hin : ¬ (rdLe r.body 2 2 < u.acked ∨ u.next < rdLe r.body 2 2) := by omega
    simp only [segAckFrame, hu, hin, if_false]
  · have hexec := requestStep_accepted (h := denvalAbortFrame) ha ((isOp_iff 9 r).2 ⟨hf, hop⟩)
    refine hexec.trans (congrArg (fun y => Host.Outcome.next { s with sys := Sys.lastAnswered y sid n }) ?_)
    have hmine : (z.den.transfers.filter fun u => u.session == sid && u.tag == rdLe r.value 0 2).isEmpty = false := by
      simpa [List.isEmpty_iff] using hmine
    simp only [denvalAbortFrame, hsid, if_false, hw, hl, hg, hmine, hnone]
    simp
  · have hsrc : u.source = src.toNat := by
      have := List.find?_some hu
      simp_all
    have hfar : isFar u.source = false := by
      have := src.isLt
      simp [isFar, hsrc]; omega
    obtain ⟨hlog, hsub, hzero⟩ := Sys.reply_transfers (s.sys.endTransfer u) hfar u.path u.node u.session .response u.tag
      (le 1 (if u.write then 8 else 7) ++ le 1 Status.timeout.code ++ le 2 (u.entry / 256) ++ le 1 (u.entry % 256) ++ le 1 0 ++ le 2 0 ++ [])
    refine ⟨_, rfl, ?_⟩
    simp only [hu, Sys.raise_den]
    refine ⟨fun x hx => ?_, fun h0 => ?_, ?_, rfl, trivial⟩
    · have := hsub.subset hx
      simpa [Sys.endTransfer] using this
    · refine (hzero ?_).trans (by simp [Sys.endTransfer])
      have := List.find?_some hu
      simp_all
    · rw [Sys.log_raise _ _ _ _ (by rw [Sys.response, List.length_nil, hlog]; exact hroom)]
      simp

end Sys2Proof.Machine
end

section
/-!
PROOFS. Sessions are set up, refused and closed (R153 to R156).
-/

namespace Sys2Proof.Machine

variable {fs : List Facet} {nums blobs : Nat → Prop} {y z : Sys} {s : State} {f : DenvalFrame} {r : Req} {sid n : Nat} {role : Role}

/-! ## Frames without a trailer -/

/-- A frame that arrives is handled by its function. -/
theorem frameStep_arrives {mine : Req → Bool} {h : Otp → Sys → Req → Sys} (ha : Arrives f s r z) (hm : mine r = true) :
    frameStep s f mine h = .next { s with sys := h s.otp z r } := by
  refine congrArg (fun y => Host.Outcome.next { s with sys := y }) ?_
  dsimp only
  rw [show s.sys.takeFrame f = (some r, z) from ha]
  dsimp only
  rw [if_pos hm]

/-- Neither the sessions nor the number of the next one move. -/
structure SameSessions (y z : Sys) : Prop where
  sessions : z.den.sessions = y.den.sessions
  next : z.den.nextSession = y.den.nextSession

theorem SameSessions.trans {x : Sys} (h : SameSessions x y) (g : SameSessions y z) : SameSessions x z :=
  ⟨g.sessions.trans h.sessions, g.next.trans h.next⟩

theorem SameSessions.of_touches (h : Touches fs y z) (hd : .den ∉ fs) : SameSessions y z := by
  have e : y.den = z.den := h.facet .den hd (by simp)
  exact ⟨by rw [e], by rw [e]⟩

theorem sameSessions_frameRaw (y : Sys) (path dest word : Nat) (body : Bytes) : SameSessions y (y.frameRaw path dest word body) := by
  unfold Sys.frameRaw
  dsimp only
  split
  · exact .of_touches ((touches_mailSend y 1 _ (fun _ => id)).2 (.refl y)) (by simp)
  · split
    · exact .of_touches (fs := [.links, .tx]) ((sameBut_controlTwin (nums := only []) (blobs := only []) y _ _ (by simp) (by simp)).touches fun _ => id) (by simp)
    · repeat' split
      all_goals exact ⟨rfl, rfl⟩

theorem sameSessions_frameOut (y : Sys) (path dest dst : Nat) (func : Func) (tag : Nat) (body : Bytes) :
    SameSessions y (y.frameOut path dest dst func tag body) := by
  unfold Sys.frameOut
  dsimp only
  split
  · exact .of_touches (fs := [.links, .tx, .log]) ((sameBut_control (nums := only []) (blobs := only []) y _ _ _ (by simp) (by simp) (by simp)).touches fun _ => id)
      (by simp)
  · exact sameSessions_frameRaw ..

theorem sameSessions_sessionRsp (y : Sys) (r : Req) (op : Nat) (b : Bytes) : SameSessions y (y.sessionRsp r op b) := sameSessions_frameOut ..

/-- A failed set-up is counted against its source. -/
theorem sameSessions_setupFailed (y : Sys) (path source node role : Nat) (st : Status) (cred : Nat) :
    SameSessions y (y.setupFailed path source node role st cred) := by
  unfold Sys.setupFailed
  extract_lets y1 key fails others y2
  have h1 : SameSessions y y1 := ⟨by simp [y1], by simp [y1]⟩
  split
  · exact h1.trans ⟨rfl, rfl⟩
  · exact h1.trans ⟨by simp [y2], by simp [y2]⟩

theorem sameBut_setupFailed (y : Sys) (path source node role : Nat) (st : Status) (cred : Nat) :
    SameBut [.den, .log] (only [ent 0x1103 3, ent 0x1103 5]) (only []) y (y.setupFailed path source node role st cred) := by
  unfold Sys.setupFailed
  dsimp only
  split <;> simp [Sys.inc]

theorem Sys.rd_setupFailed_count (y : Sys) (path source node role : Nat) (st : Status) (cred : Nat) :
    (y.setupFailed path source node role st cred).rd (ent 0x1103 3) = (y.rd (ent 0x1103 3) + 1) % 2 ^ 32 := by
  unfold Sys.setupFailed
  dsimp only
  split <;> simp [Sys.inc]

theorem sessionHello_opens (s : State) (f : DenvalFrame) (r : Req) (z : Sys) (c : Bytes) (ha : Arrives f s r z) (hf : r.func = 12) (hop : r.op = 1)
    (hlock : (z.den.lockouts.lookup (sourceKey r.path r.source)).isSome = false) (hnum : z.den.sessions.length < 32) (hlo : 1 ≤ rdLe r.body 3 1)
    (hhi : rdLe r.body 3 1 ≤ 4) (hopen : s.otp.roleOpen (rdLe r.body 3 1) = true)
    (hc : ((z.credential (rdLe r.body 4 4)).filter fun c => z.credAccepted s.otp c) = some c) (hkey : z.sec.key ≠ none ∨ s.otp.factory = true)
    (hrole : rdLe r.body 3 1 ≤ credRole c) :
    Completes (.sessionHello f) s fun t =>
      ((x25519 ((z.freeBytes 8).2.freeBytes 32).1 (slice r.body 16 32)).all (· == 0) = false →
        ∃ u, t.sys.den.sessions = z.den.sessions ++ [u] ∧ u.established = false ∧ u.role = roleOfCode (rdLe r.body 3 1) ∧ u.path = r.path ∧
          u.source = r.source ∧ u.credential = rdLe r.body 4 4 ∧ u.counterIn = 0 ∧ u.group = none ∧ t.sys.den.nextSession = u.id % 65535 + 1) ∧
      ((x25519 ((z.freeBytes 8).2.freeBytes 32).1 (slice r.body 16 32)).all (· == 0) = true →
        t.sys.den.sessions = z.den.sessions) ∧
      t.otp = s.otp ∧ t.pending = s.pending := by
  have hexec := frameStep_arrives (mine := fun r => r.func == 12 && r.op == 1) (h := sessionHelloFrame) ha (by simp [hf, hop])
  refine ⟨_, hexec, ?_⟩
  have hn : ¬ 32 ≤ z.den.sessions.length := by omega
  have hr : ¬ (rdLe r.body 3 1 = 0 ∨ 4 < rdLe r.body 3 1) := by omega
  have hk : (z.sec.key.isNone && !s.otp.factory) = false := by
    rcases hkey with h | h
    · simp [Option.isNone_iff_eq_none, h]
    · simp [h]
  have hc' : ¬ credRole c < rdLe r.body 3 1 := by omega
  by_cases hz : (x25519 ((z.freeBytes 8).2.freeBytes 32).1 (slice r.body 16 32)).all (· == 0) = true
  · simp only [sessionHelloFrame, Sys.hello, hlock, Bool.false_eq_true, if_false, hn, hr, hopen, Bool.not_true, hc, hk, hc', hz, if_true]
    exact ⟨by simp, fun _ => (sameSessions_setupFailed ..).sessions.trans (sameSessions_sessionRsp ..).sessions, trivial, trivial⟩
  · simp only [sessionHelloFrame, Sys.hello, hlock, Bool.false_eq_true, if_false, hn, hr, hopen, Bool.not_true, hc, hk, hc', hz]
    have hthree (y : Sys) (a b c : Bytes) : SameSessions y (((y.sessionRsp r 0x81 a).sessionRsp r 0x82 b).sessionRsp r 0x83 c) :=
      ((sameSessions_sessionRsp y r _ a).trans (sameSessions_sessionRsp ..)).trans (sameSessions_sessionRsp ..)
    refine ⟨fun _ => ⟨_, (hthree _ _ _ _).sessions.trans rfl, rfl, rfl, rfl, rfl, rfl, rfl, rfl, (hthree _ _ _ _).next.trans rfl⟩, by simp, trivial, trivial⟩

theorem sessionProofB_establishes (s : State) (f : DenvalFrame) (r : Req) (z : Sys) (u : Session) (c a : Bytes) (ha : Arrives f s r z) (hf : r.func = 12)
    (hop : r.op = 3) (hu : z.setup? r = some u) (hc : ((z.credential u.credential).filter fun c => z.credAccepted s.otp c) = some c)
    (hp : u.proofA = some a) (hv : edVerify (credKey c) u.transcript (a ++ slice r.body 6 32) = true) :
    Runs (.sessionProofB f) s (((z.setSession { u with established := true, lastFrame := z.up, cursor := z.rd (ent 0x1300 4) }).reply r.path r.source r.node
      u.id .sessionRsp r.tag (le 1 0x84 ++ le 1 0 ++ le 2 u.id ++ le 1 (Role.rank u.role) ++ [0] ++ le 2 u.idleTimeout)).showSessions) := by
  have hexec := frameStep_arrives (mine := fun r => r.func == 12 && r.op == 3) (h := sessionProofBFrame) ha (by simp [hf, hop])
  simp only [sessionProofBFrame, hu, hc, hp, hv, Option.map_some, if_true, show Status.ok.code = 0 from rfl] at hexec
  rw [← hp] at hexec
  exact hexec

theorem sessionSetupTimeout_ends (s : State) (i : BitVec 16) (u : Session) (hu : s.sys.session? i.toNat = some u) (hest : u.established = false) :
    Completes (.sessionSetupTimeout i) s fun t =>
      t.sys.den.sessions = s.sys.den.sessions.filter (fun x => x.id != i.toNat) ∧ (s.sys.rd (ent 0x1103 3) + 1) % 2 ^ 32 = t.sys.rd (ent 0x1103 3) ∧
      Leaves [.den, .log] (only [ent 0x1103 3, ent 0x1103 5]) (only []) s t := by
  have hid := Sys.id_of_session? hu
  have hexec : Runs (.sessionSetupTimeout i) s (s.sys.setupEnds u .timeout) := by
    refine (?_ : exec _ _ = _)
    simp [execSessionSetupTimeout, hu, hest, Option.filter]
  refine ⟨_, hexec, ?_, ?_, leaves_of_sameBut ?_⟩
  · rw [Sys.setupEnds, (sameSessions_setupFailed ..).sessions, Sys.onDen_den, hid]
  · rw [Sys.setupEnds, Sys.rd_setupFailed_count, Sys.rd_onDen]
  · rw [Sys.setupEnds]
    exact .trans (by simp) (sameBut_setupFailed ..)

/-- A session closes with its transfers, and the number of sessions follows (R134, R156). -/
theorem Sys.closeSession_leaves (y : Sys) (i : Nat) :
    (y.closeSession i).den.sessions = y.den.sessions.filter (fun x => x.id != i) ∧
    (y.closeSession i).den.transfers = y.den.transfers.filter (fun x => x.session != i) ∧
    (y.closeSession i).rd (ent 0x1103 1) = ((y.closeSession i).den.sessions.filter (·.established)).length ∧
    SameBut [.den] (only [ent 0x1103 1]) (only []) y (y.closeSession i) := by
  simp [Sys.closeSession, Sys.showSessions]

/-- Settles O25. -/
theorem sessionsOpenAndClose : Obligations.SessionsOpenAndClose := by
  refine ⟨fun s f r z ha hf hop hlock => ?_, fun s f r z ha hf hop hlock hnum hlo hhi hopen => ?_, sessionHello_opens, fun s f r z u ha hf hop hu => ?_,
    sessionProofB_establishes, sessionSetupTimeout_ends, fun s f r sid n role z ha hf hop hsid => ?_, fun s i u hu hest => ?_,
    fun s p src => ⟨_, rfl, by simp, leaves_of_sameBut (by simp)⟩⟩
  · have hexec := frameStep_arrives (mine := fun r => r.func == 12 && r.op == 1) (h := sessionHelloFrame) ha (by simp [hf, hop])
    simp only [sessionHelloFrame, Sys.hello, hlock, if_true] at hexec
    exact hexec
  · have hexec := frameStep_arrives (mine := fun r => r.func == 12 && r.op == 1) (h := sessionHelloFrame) ha (by simp [hf, hop])
    have hn : ¬ 32 ≤ z.den.sessions.length := by omega
    have hr : ¬ (rdLe r.body 3 1 = 0 ∨ 4 < rdLe r.body 3 1) := by omega
    simp only [sessionHelloFrame, Sys.hello, hlock, Bool.false_eq_true, if_false, hn, hr, hopen, Bool.not_false, if_true] at hexec
    exact hexec
  · have hexec := frameStep_arrives (mine := fun r => r.func == 12 && r.op == 2) (h := sessionProofAFrame) ha (by simp [hf, hop])
    simp only [sessionProofAFrame, hu] at hexec
    exact hexec
  · obtain ⟨y, htake, hauth⟩ := ha
    have harr : Arrives f s r y := htake
    have hexec := frameStep_arrives (mine := fun r => r.func == 12 && r.op == 5) (h := sessionCloseFrame) harr (by simp [hf, hop])
    have hclose : sessionCloseFrame s.otp y r = z.closeSession sid := by
      unfold sessionCloseFrame
      rw [hauth]
      exact if_neg hsid
    rw [hclose] at hexec
    obtain ⟨hs, ht, hn, -⟩ := z.closeSession_leaves sid
    exact ⟨_, hexec, hs, ht, hn⟩
  · have hexec : Runs (.sessionIdleTimeout i) s (s.sys.closeSession i.toNat) := by
      refine (?_ : exec _ _ = _)
      simp [execSessionIdleTimeout, hu, hest]
    obtain ⟨hs, ht, -, hframe⟩ := s.sys.closeSession_leaves i.toNat
    exact ⟨_, hexec, hs, ht, leaves_of_sameBut hframe⟩

end Sys2Proof.Machine
end

section
/-!
PROOFS. Heartbeats, CAN, the console, the parameter store and DHCP go of their own accord (R124, R147, R148, R150, R157 to R160).
-/

namespace Sys2Proof.Machine

variable {fs : List Facet} {nums blobs : Nat → Prop} {y z : Sys} {s : State}

/-! ## Frames on a CAN port -/

/-- A module that is not SHADOW sends a frame on a port that is not off the bus as it is, padded to a length that CAN FD has. -/
theorem Sys.frameOut_can (y : Sys) (p : Fin 4) (func : Func) (body : Bytes) (hbus : y.rd (ent (0x1108 + p.val) 7) ≠ 2) (hs : y.isShadow = false) :
    y.frameOut (4 + p.val) 0 0 func 0 body = y.send (.denval (4 + p.val) 0 0 func.code 0 (slice body 0 (canLength body.length))) := by
  have hfar : isFar 0 = false := by decide
  have hport : 4 ≤ 4 + p.val ∧ 4 + p.val ≤ 7 := by omega
  have hword : headerWord func 0 y.node 0 = func.code * 2 ^ 24 + y.node % 128 * 2 ^ 10 := by simp [headerWord]
  have hdst : headerWord func 0 y.node 0 / 2 ^ 17 % 128 = 0 := by rw [hword]; omega
  have hfunc : headerWord func 0 y.node 0 / 2 ^ 24 = func.code := by rw [hword]; omega
  have htag : headerWord func 0 y.node 0 % 1024 = 0 := by rw [hword]; omega
  unfold Sys.frameOut Sys.frameRaw
  simp only [hfar, hdst, hfunc, htag, Bool.false_eq_true, if_false, show 4 + p.val ≠ 1 by omega, show 4 + p.val ≠ 2 by omega, hport, and_self, if_true,
    Nat.add_sub_cancel_left, hs, hbus]

theorem le_length (n v : Nat) : (le n v).length = n := by
  induction n generalizing v with
  | zero => rfl
  | succ n ih => simp [le, ih]

theorem timeFollowSend_sends (s : State) (p : Fin 4) (hrun : s.sys.boot.phase = .running) (hon : s.sys.rd (ent 0x1100 3) ≠ 0) (hcan : s.sys.canOn p.val = true)
    (hbus : s.sys.rd (ent (0x1108 + p.val) 7) ≠ 2) (hs : s.sys.isShadow = false) :
    Completes (.timeFollowSend p) s fun t =>
      (∃ b, t.sys.tx = s.sys.tx ++ [.denval (4 + p.val) 0 0 0 0 b] ∧ rdLe b 4 1 = s.sys.rd (ent 0x2300 2) % 256 ∧ rdLe b 6 12 = s.sys.t96 % 2 ^ 96) ∧
      Leaves [.tx] (only []) (only []) s t := by
  have hexec : Runs (.timeFollowSend p) s (s.sys.frameOut (4 + p.val) 0 0 .time 0
      (le 2 18 ++ le 1 1 ++ le 1 s.sys.den.timeSeq ++ le 1 (s.sys.rd (ent 0x2300 2)) ++ [0] ++ le 12 s.sys.t96)) := by
    refine (?_ : exec _ _ = _)
    simp [execTimeFollowSend, hrun, hon, hcan]
  rw [Sys.frameOut_can _ p _ _ hbus hs] at hexec
  refine ⟨_, hexec, ⟨_, rfl, ?_, ?_⟩, leaves_of_sameBut (by simp)⟩
  · simp [le, rdLe, slice, canLength, unLe]
  · have h12 : ((le 12 s.sys.t96).take 12) = le 12 s.sys.t96 := List.take_of_length_le (by simp [le_length])
    have hb : (slice (le 2 18 ++ le 1 1 ++ le 1 s.sys.den.timeSeq ++ le 1 (s.sys.rd (ent 0x2300 2)) ++ [0] ++ le 12 s.sys.t96) 0
        (canLength (le 2 18 ++ le 1 1 ++ le 1 s.sys.den.timeSeq ++ le 1 (s.sys.rd (ent 0x2300 2)) ++ [0] ++ le 12 s.sys.t96).length)).drop 6 =
        le 12 s.sys.t96 ++ [0, 0] := by
      simp [le, slice, canLength]
    rw [rdLe, hb, List.take_append_of_le_length (by simp [le_length]), h12, unLe_le, show (256 : Nat) ^ 12 = 2 ^ 96 from rfl]

/-! ## The bus goes and comes back -/

theorem canBusOff_counts (s : State) (p : Fin 4) (hcan : s.sys.canOn p.val = true) (hbus : s.sys.rd (ent (0x1108 + p.val) 7) ≠ 2) (hroom : Room s) :
    Completes (.canBusOff p) s fun t =>
      t.sys.rd (ent (0x1108 + p.val) 7) = 2 ∧ t.sys.rd (ent (0x1108 + p.val) 6) = (s.sys.rd (ent (0x1108 + p.val) 6) + 1) % 2 ^ 32 ∧
      Logs s t 0x0407 p.val (ev [(0, 1, p.val)]) ∧
      Leaves [.log] (only [ent (0x1108 + p.val) 6, ent (0x1108 + p.val) 7]) (only []) s t := by
  have hexec : Runs (.canBusOff p) s (Sys.raise (Sys.inc (s.sys.wr (ent (0x1108 + p.val) 7) 2) (ent (0x1108 + p.val) 6)) 0x0407 p.val (ev [(0, 1, p.val)])) := by
    refine (?_ : exec _ _ = _)
    simp [execCanBusOff, hcan, hbus]
  refine ⟨_, hexec, by simp [Sys.inc], by simp [Sys.inc], ?_, leaves_of_sameBut (by simp [Sys.inc])⟩
  unfold Logs
  rw [Sys.log_raise _ _ _ _ (by simpa [Sys.inc, Room] using hroom)]
  simp [Sys.inc]

/-- Messages go out in their order, and nothing else moves. -/
theorem foldl_send (l : List Tx) (y : Sys) : SameBut [.tx] (only []) (only []) y (l.foldl Sys.send y) ∧ (l.foldl Sys.send y).tx = y.tx ++ l := by
  induction l generalizing y with
  | nil => simp
  | cons m l ih =>
    obtain ⟨hsame, htx⟩ := ih (y.send m)
    exact ⟨.trans (by simp) hsame, htx.trans (by simp [Sys.send])⟩

/-- What a port that comes back on the bus had queued goes out but for the late EVENT frames, and its count of those rises. -/
def Sys.freePort (y : Sys) (n k : Nat) : Sys :=
  ((y.wr (ent (0x1108 + n) 7) 0).onDen fun d => { d with canQueued := terase n d.canQueued, canDropped := terase n d.canDropped }).eventDropped (4 + n) k

theorem Sys.rd_freePort (y : Sys) (n k : Nat) : (y.freePort n k).rd (ent (0x1108 + n) 7) = 0 := by simp [Sys.freePort, Sys.eventDropped]

theorem Sys.log_freePort (y : Sys) (n k : Nat) : (y.freePort n k).log = y.log := by simp [Sys.freePort, Sys.eventDropped]

theorem sameBut_freePort (y : Sys) (n k : Nat) : SameBut [.den] (only [ent (0x1108 + n) 7]) (only []) y (y.freePort n k) := by
  simp [Sys.freePort, Sys.eventDropped]

theorem canBusRecovered_sends (s : State) (p : Fin 4) (hbus : s.sys.rd (ent (0x1108 + p.val) 7) = 2) (hroom : Room s) :
    Completes (.canBusRecovered p) s fun t =>
      t.sys.rd (ent (0x1108 + p.val) 7) = 0 ∧
      t.sys.tx = s.sys.tx ++ ((tget (fun _ => []) s.sys.den.canQueued p.val).filter fun e => !s.sys.eventLate e).map Prod.snd ∧
      Logs s t 0x0408 p.val (ev [(0, 1, p.val), (1, 2, tget (fun _ => 0) s.sys.den.canDropped p.val)]) ∧
      Leaves [.den, .tx, .log] (only [ent (0x1108 + p.val) 7]) (only []) s t := by
  let held := tget (fun _ => []) s.sys.den.canQueued p.val
  let waiting := held.filter fun e => !s.sys.eventLate e
  let freed := s.sys.freePort p.val (held.length - waiting.length)
  let told := freed.raise 0x0408 p.val (ev [(0, 1, p.val), (1, 2, tget (fun _ => 0) s.sys.den.canDropped p.val)])
  have hexec : Runs (.canBusRecovered p) s ((waiting.map Prod.snd).foldl Sys.send told) := by
    refine (?_ : exec _ _ = _)
    refine congrArg (fun y => Host.Outcome.next { s with sys := y }) ?_
    exact if_neg (not_not_intro hbus)
  obtain ⟨hsent, htx⟩ := foldl_send (waiting.map Prod.snd) told
  have htold : SameBut [.den, .log] (only [ent (0x1108 + p.val) 7]) (only []) s.sys told :=
    (sameBut_raise_iff _ _ _ (by simp)).2 ((sameBut_freePort ..).mono (by simp) (by simp) (by simp))
  have hlog : told.log.pending = _ := Sys.log_raise _ _ _ _ (by rw [Sys.log_freePort]; exact hroom)
  refine ⟨_, hexec, ?_, ?_, ?_, leaves_of_sameBut ((htold.mono (by simp) (by simp) (by simp)).trans (hsent.mono (by simp) (by simp) (by simp)))⟩
  · rw [hsent.2.1 _ (by simp), Sys.rd_raise, Sys.rd_freePort]
  · rw [htx]
    exact congrArg (· ++ _) (htold.1 .tx (by simp)).symm
  · refine (congrArg EventLog.pending (hsent.1 .log (by simp))).symm.trans (hlog.trans ?_)
    rw [Sys.log_freePort]
    exact congrArg (fun t96 => _ ++ [EventRecord.mk t96 _ _ _ _]) ((sameBut_freePort ..).1 .t96 (by simp)).symm

/-! ## A heartbeat, the console and the parameter store -/

theorem dhcpv4Lease_taken (s : State) (a : BitVec 32) (hmode : s.sys.rd (ent 0x1101 2) = 1) (hnew : s.sys.rdB (ent 0x1101 8) ≠ le 4 a.toNat) :
    Completes (.dhcpv4Lease (some a)) s fun t =>
      t.sys.rdB (ent 0x1101 8) = le 4 a.toNat ∧ (∀ u ∈ t.sys.den.sessions, u.path = 3 → isFar u.source = true) ∧
      Leaves [.den] (only [ent 0x1103 1]) (only [ent 0x1101 8]) s t := by
  have hexec : Runs (.dhcpv4Lease (some a)) s ((s.sys.wrB (ent 0x1101 8) (le 4 a.toNat)).closePath (· == 3)) := by
    refine (?_ : exec _ _ = _)
    simp [execDhcpv4Lease, hmode, hnew.symm]
  refine ⟨_, hexec, by simp [Sys.closePath], fun u hu hp => ?_, leaves_of_sameBut (by simp [Sys.closePath])⟩
  have := List.of_mem_filter (show u ∈ List.filter _ _ from hu)
  simpa [hp] using this

theorem parameterStoreDone_switches (s : State) (at_ : Nat) (l : List (Nat × Bytes)) (hsave : s.sys.den.saving = some (at_, l)) :
    Completes .parameterStoreDone s fun t =>
      t.sys.mram = { s.sys.mram with store := l, copy := 1 - s.sys.mram.copy, broken := false } ∧ t.sys.den.saving = none ∧
      t.sys.rd (ent 0x1104 2) = 2 ∧ t.sys.rd (ent 0x1104 3) = at_ ∧
      Leaves [.mram, .den] (only [ent 0x1104 2, ent 0x1104 3]) (only []) s t := by
  refine ⟨_, rfl, ?_⟩
  simp only [Sys.storeDone, hsave]
  refine ⟨by simp, by simp, by simp, by simp, leaves_of_sameBut ?_⟩
  refine SameBut.trans (b := { s.sys with mram := { s.sys.mram with store := l, copy := 1 - s.sys.mram.copy, broken := false } }) ?_ (by simp)
  exact .of_facets rfl rfl fun p hp => by cases p with | mram => simp at hp | _ => rfl

/-- A line that begins with the letter of its command, on a console that serves, is carried out. -/
theorem consoleStep_runs {s : State} {line : Bytes} {letter : Byte} {others : Bool} {h : Otp → Sys → ConsoleLine → Sys} {c : ConsoleLine}
    (hopen : s.sys.consoleOpen s.otp = true) (hl : line.head? = some letter) (hc : consoleLine line = some c) :
    consoleStep s line letter others h = .next { s with sys := h s.otp s.sys c } := by
  have hfirst : line.headD 0 = letter := by rw [List.headD_eq_head?_getD, hl, Option.getD_some]
  simp only [consoleStep, onSys_eq, hfirst, hopen, hc, beq_self_eq_true, Bool.true_or, Bool.not_true, Bool.or_self, Bool.false_eq_true, if_false]

/-- Settles O28. -/
theorem pathsKeepTheirTurn : Obligations.PathsKeepTheirTurn := by
  refine ⟨fun s hrun => ?_, fun s hrun hon => ?_, timeFollowSend_sends, canBusOff_counts, canBusRecovered_sends, fun s hopen => ?_,
    fun s line k off hopen hl hc => ?_, fun s line k v hopen hl hc => ?_, parameterStoreDone_switches, dhcpv4Lease_taken⟩
  · exact congrArg (fun y => Host.Outcome.next { s with sys := y }) (if_neg (not_not_intro hrun))
  · refine (?_ : exec _ _ = _)
    simp [execTimeSyncSend, hrun, hon]
  · refine (?_ : execConsoleIdentify _ _ = _)
    exact consoleStep_runs hopen rfl (show consoleLine [73] = some .identify by decide)
  · refine (?_ : execConsoleRead _ _ = _)
    exact consoleStep_runs hopen hl hc
  · refine (?_ : execConsoleWrite _ _ = _)
    exact consoleStep_runs hopen hl hc

end Sys2Proof.Machine
end

section
/-!
PROOFS. A read of a pending word and the rights of its reader (R154, R757).
-/

namespace Sys2Proof.Machine

/-- Outside the factory states the role of Kilvan reads nothing, so that its reads change nothing. -/
theorem Sys.readEntry_kilvan {o : Otp} (h : o.factory = false) (y : Sys) (path source session k : Nat) (shadow : Bool) :
    (y.readEntry o path source session .kilvan k shadow).2.2 = y := by
  have hreach (r : EntryDef) : roleReaches o .kilvan r = false := by simp [roleReaches, h]
  unfold Sys.readEntry
  split
  · rfl
  next r _ =>
    by_cases hwo : r.access = .wo
    · simp only [hwo, if_true]
    · simp only [hwo, if_false, hreach, Bool.not_false, if_true]

theorem interruptPendingRead_kilvan (s : State) (h : s.otp.factory = false) (i : Fin 4) : Runs (.interruptPendingRead ⟨0, .kilvan, 0⟩ i) s s.sys := by
  refine (?_ : exec _ _ = _)
  rw [exec_interruptPendingRead, execInterruptPendingRead, onSys_eq]
  dsimp only
  rw [Sys.readEntry_kilvan h]

/-- A delivered module with one statistics interrupt pending. -/
def statsPending : State := { State.reset with sys := State.reset.sys.wr (ent 0x1311 1) 1 }

/-- Refutes O29: a writer may bear the role of Kilvan, which outside the factory states is not entitled to the read, and then the pending word stays. -/
theorem not_recordsAreIssuedReadAndTold : ¬ Obligations.RecordsAreIssuedReadAndTold := by
  rintro ⟨-, -, -, -, -, -, -, hread, -⟩
  obtain ⟨t, hexec, hcleared, -⟩ := hread statsPending ⟨0, .kilvan, 0⟩ 0
  have hstays := interruptPendingRead_kilvan statsPending (by decide) 0
  obtain rfl : statsPending = t := Host.Outcome.next.inj (hstays.symm.trans hexec)
  have hone : statsPending.sys.rd (ent 0x1311 1) = 1 := by simp [statsPending]
  exact absurd (hone.symm.trans (hcleared (by decide))) (by decide)

end Sys2Proof.Machine
end

section
/-!
PROOFS. The time base acquires, locks, holds over and is set (R196 to R209).
-/

namespace Sys2Proof.Machine

variable {fs : List Facet} {nums blobs : Nat → Prop} {y z : Sys} {s : State}

/-! ## The time base's own state -/

@[simp] theorem Sys.rd_onTime (y : Sys) (f : TimeBase → TimeBase) (k : Nat) : (y.onTime f).rd k = y.rd k := rfl
@[simp] theorem Sys.time_onTime (y : Sys) (f : TimeBase → TimeBase) : (y.onTime f).time = f y.time := rfl
@[simp] theorem Sys.t96_onTime (y : Sys) (f : TimeBase → TimeBase) : (y.onTime f).t96 = y.t96 := rfl
@[simp] theorem Sys.up_onTime (y : Sys) (f : TimeBase → TimeBase) : (y.onTime f).up = y.up := rfl
@[simp] theorem Sys.log_onTime (y : Sys) (f : TimeBase → TimeBase) : (y.onTime f).log = y.log := rfl

theorem Sys.tbState_congr (h : z.rd (ent 0x2300 2) = y.rd (ent 0x2300 2)) : z.tbState = y.tbState := by rw [tbState, tbState, h]
theorem Sys.tbSource_congr (h : z.rd (ent 0x2300 2) = y.rd (ent 0x2300 2)) : z.tbSource = y.tbSource := by rw [tbSource, tbSource, h]

/-- A new state keeps the source, and a new source keeps the state. -/
theorem Sys.tbState_setTbState (y : Sys) {n : Nat} (h : n < 8) : (y.setTbState n).tbState = n := by
  simp only [tbState, setTbState, rd_wr, if_true]
  omega
theorem Sys.tbSource_setTbState (y : Sys) {n : Nat} (h : n < 8) : (y.setTbState n).tbSource = y.tbSource := by
  simp only [tbSource, setTbState, rd_wr, if_true]
  omega
theorem Sys.tbState_setTbSource (y : Sys) (n : Nat) : (y.setTbSource n).tbState = y.tbState := by
  simp only [tbState, setTbSource, rd_wr, if_true]
  omega
theorem Sys.tbSource_setTbSource (y : Sys) {n : Nat} (h : n < 8) : (y.setTbSource n).tbSource = n := by
  simp only [tbSource, setTbSource, rd_wr, if_true]
  omega

/-- TRACEABLE is shown beside the state and the source. -/
theorem Sys.tbState_wrBit (y : Sys) {i : Nat} (h : 6 ≤ i) (v : Bool) : (y.wrBit (ent 0x2300 2) i v).tbState = y.tbState := by
  refine Nat.eq_of_testBit_eq fun j => ?_
  simp only [tbState, wrBit_eq, rd_wr, if_true, show 8 = 2 ^ 3 from rfl, Nat.testBit_mod_two_pow, testBit_putBit]
  by_cases hj : j < 3
  · simp [hj, show j ≠ i by omega]
  · simp [hj]
theorem Sys.tbSource_wrBit (y : Sys) {i : Nat} (h : 6 ≤ i) (v : Bool) : (y.wrBit (ent 0x2300 2) i v).tbSource = y.tbSource := by
  refine Nat.eq_of_testBit_eq fun j => ?_
  simp only [tbSource, wrBit_eq, rd_wr, if_true, show 8 = 2 ^ 3 from rfl, Nat.testBit_mod_two_pow, Nat.testBit_div_two_pow, testBit_putBit]
  by_cases hj : j < 3
  · simp [hj, show j + 3 ≠ i by omega]
  · simp [hj]

/-! ## The shown quality -/

theorem Sys.rd_showTime (y : Sys) {k : Nat} (h : k ∉ [ent 0x2300 6, ent 0x2303 1, ent 0x2303 2]) : y.showTime.rd k = y.rd k := by
  simp only [List.mem_cons, List.not_mem_nil, or_false, not_or] at h
  simp [showTime, h]
@[simp] theorem Sys.time_showTime (y : Sys) : y.showTime.time = y.time := rfl
@[simp] theorem Sys.t96_showTime (y : Sys) : y.showTime.t96 = y.t96 := rfl
@[simp] theorem Sys.up_showTime (y : Sys) : y.showTime.up = y.up := rfl
@[simp] theorem Sys.log_showTime (y : Sys) : y.showTime.log = y.log := rfl
@[simp] theorem Sys.tbState_showTime (y : Sys) : y.showTime.tbState = y.tbState := tbState_congr (y.rd_showTime (by simp))
@[simp] theorem Sys.tbSource_showTime (y : Sys) : y.showTime.tbSource = y.tbSource := tbSource_congr (y.rd_showTime (by simp))
theorem sameBut_showTime (y : Sys) : SameBut [] (only [ent 0x2300 6, ent 0x2303 1, ent 0x2303 2]) (only []) y y.showTime := by simp [Sys.showTime]

/-! ## Carrying the increment and the offset -/

/-- The increment, the frequency worked towards and the offset are others, and nothing else is. -/
structure Carried (y z : Sys) : Prop where
  same : SameBut [.time] (only [ent 0x2300 3, ent 0x2300 5]) (only []) y z
  time : ∃ o a f, z.time = { y.time with offset := o, adjAt := a, freq := f }

theorem Carried.refl (y : Sys) : Carried y y := ⟨.refl y, _, _, _, rfl⟩

theorem Carried.trans {x : Sys} (h : Carried x y) (g : Carried y z) : Carried x z := by
  obtain ⟨o, a, f, ht⟩ := h.time
  obtain ⟨p, b, e, hu⟩ := g.time
  exact ⟨h.same.trans g.same, p, b, e, by rw [hu, ht]⟩

theorem Carried.rd_eq (h : Carried y z) {k : Nat} (hk : k ∉ [ent 0x2300 3, ent 0x2300 5]) : z.rd k = y.rd k := h.same.2.1 k hk
theorem Carried.t96_eq (h : Carried y z) : z.t96 = y.t96 := (h.same.1 .t96 (by simp)).symm
theorem Carried.up_eq (h : Carried y z) : z.up = y.up := (h.same.1 .up (by simp)).symm
theorem Carried.log_eq (h : Carried y z) : z.log = y.log := (h.same.1 .log (by simp)).symm
theorem Carried.tbState_eq (h : Carried y z) : z.tbState = y.tbState := Sys.tbState_congr (h.rd_eq (by simp))
theorem Carried.tbSource_eq (h : Carried y z) : z.tbSource = y.tbSource := Sys.tbSource_congr (h.rd_eq (by simp))
theorem Carried.hold_eq (h : Carried y z) : z.time.hold = y.time.hold := by obtain ⟨o, a, f, ht⟩ := h.time; rw [ht]
theorem Carried.qualified_eq (h : Carried y z) : z.time.qualified = y.time.qualified := by obtain ⟨o, a, f, ht⟩ := h.time; rw [ht]
theorem Carried.samples_eq (h : Carried y z) : z.time.samples = y.time.samples := by obtain ⟨o, a, f, ht⟩ := h.time; rw [ht]
theorem Carried.acquired_eq (h : Carried y z) : z.time.acquired = y.time.acquired := by obtain ⟨o, a, f, ht⟩ := h.time; rw [ht]

theorem carried_setIncr (y : Sys) (v : Nat) : Carried y (y.setIncr v) := ⟨by simp [Sys.setIncr, Sys.wrI], _, _, _, rfl⟩

theorem carried_onTime (y : Sys) {f : TimeBase → TimeBase} (h : ∃ o a e, f y.time = { y.time with offset := o, adjAt := a, freq := e }) :
    Carried y (y.onTime f) := ⟨by simp, h⟩

theorem carried_carryTime (y : Sys) : Carried y y.carryTime := by
  unfold Sys.carryTime
  split
  · exact .refl y
  · split
    · exact carried_setIncr ..
    · exact (carried_setIncr ..).trans (carried_onTime _ ⟨_, _, _, rfl⟩)

theorem carried_driftFreq (y : Sys) : Carried y y.driftFreq := by
  unfold Sys.driftFreq
  split
  · exact carried_onTime _ ⟨_, _, _, rfl⟩
  · exact .refl y

theorem carried_steer (y : Sys) : Carried y y.steer := (carried_carryTime y).trans (carried_driftFreq _)

/-! ## The oscillator's temperature -/

/-- The present holdover, measured at uptime t and at a temperature. -/
def Holdover.measured (h : Holdover) (up : Nat) (temp : Int) : Holdover := { h with err := holdError h up, at_ := up, now := temp }

theorem holdError_measured (h : Holdover) (up : Nat) (temp : Int) : holdError (h.measured up temp) up = holdError h up := by
  by_cases ht : h.tref <;> simp [Holdover.measured, holdError, ht]

/-- What the temperature changes outside the model of the drift. -/
theorem Sys.learnDrift_eq (y : Sys) (temp : Int) : ∃ d, y.learnDrift temp = { y with mram := { y.mram with drift := d } } ∧ (y.tbState ≠ 2 → d = y.mram.drift) := by
  unfold Sys.learnDrift
  dsimp only
  split
  · exact ⟨_, rfl, fun _ => rfl⟩
  next h => exact ⟨_, rfl, fun hn => absurd (Or.inl hn) h⟩

/-- The temperature is shown, the drift model holds `d`, and a running holdover is measured. -/
def Sys.warmed (y : Sys) (temp : BitVec 32) (d : Drift) : Sys :=
  ({ y.wr (ent 0x2300 7) temp.toNat with mram := { y.mram with drift := d } } : Sys).onTime fun b =>
    { b with hold := b.hold.map fun h => h.measured y.up temp.toInt }

theorem Sys.rd_warmed (y : Sys) (temp : BitVec 32) (d : Drift) (k : Nat) :
    (y.warmed temp d).rd k = if k = ent 0x2300 7 then temp.toNat else y.rd k := Sys.rd_wr ..
theorem Sys.tbState_warmed (y : Sys) (temp : BitVec 32) (d : Drift) : (y.warmed temp d).tbState = y.tbState := tbState_congr (by simp [rd_warmed])
theorem sameBut_warmed (y : Sys) (temp : BitVec 32) (d : Drift) : SameBut [.mram, .time] (only [ent 0x2300 7]) (only []) y (y.warmed temp d) :=
  SameBut.trans (b := y.wr (ent 0x2300 7) temp.toNat) (by simp) (.of_facets rfl rfl fun p hp => by
    cases p with
    | mram | time => simp at hp
    | _ => rfl)

theorem Sys.oscTemp_spec (y : Sys) (temp : BitVec 32) : ∃ d, (y.tbState ≠ 2 → d = y.mram.drift) ∧ Carried (y.warmed temp d) (y.oscTemp temp) := by
  obtain ⟨d, hd, hstay⟩ := (y.wr (ent 0x2300 7) temp.toNat).learnDrift_eq temp.toInt
  have hst : (y.wr (ent 0x2300 7) temp.toNat).tbState = y.tbState := tbState_congr (by simp)
  refine ⟨d, fun h => hstay (by rwa [hst]), ?_⟩
  unfold Sys.oscTemp
  rw [hd]
  dsimp only
  split
  · exact carried_steer _
  · exact .refl _

theorem timeBaseSave_saves (s : State) (temp : BitVec 32) : Completes (.timeBaseSave temp) s fun t =>
    t.sys.mram = { s.sys.mram with savedTime := s.sys.t96, drift := t.sys.mram.drift } ∧
    (s.sys.tbState ≠ 2 → t.sys.mram.drift = s.sys.mram.drift) ∧ t.sys.rd (ent 0x2300 7) = temp.toNat ∧
    Leaves [.mram, .time] (only [ent 0x2300 3, ent 0x2300 5, ent 0x2300 6, ent 0x2300 7, ent 0x2303 1, ent 0x2303 2]) (only []) s t := by
  refine ⟨_, rfl, ?_⟩
  dsimp only
  obtain ⟨d, hstay, hc⟩ := Sys.oscTemp_spec { s.sys with mram := { s.sys.mram with savedTime := s.sys.t96 } } temp
  have hm := (hc.same.1 .mram (by simp)).symm
  generalize Sys.oscTemp _ temp = z at *
  refine ⟨?_, fun h => ?_, ?_, leaves_of_sameBut ?_⟩
  · exact hm.trans (by rw [show z.showTime.mram = z.mram from rfl, hm]; rfl)
  · rw [show z.showTime.mram = z.mram from rfl, hm]
    exact hstay h
  · rw [Sys.rd_showTime _ (by simp), hc.rd_eq (by simp), Sys.rd_warmed, if_pos rfl]
  · refine SameBut.trans (b := { s.sys with mram := { s.sys.mram with savedTime := s.sys.t96 } })
      (.of_facets rfl rfl fun p hp => by cases p with | mram => simp at hp | _ => rfl) ?_
    refine .trans ((sameBut_warmed _ temp d).mono (by simp) (by simp) (by simp)) ?_
    exact (hc.same.mono (by simp) (by simp) (by simp)).trans ((sameBut_showTime z).mono (by simp) (by simp) (by simp))

/-! ## Sources -/

/-- The sources that may be used depend on the straps, the role and the configured two alone. -/
theorem Sys.timeSources_congr (h : ∀ k ∈ [ent 0x2010 1, ent 0x2301 1, ent 0x2301 2, ent 0x4C01 2, ent 0x4C01 6], z.rd k = y.rd k) :
    z.timeSources = y.timeSources := by
  have hrole (w : Sys) : w.view.role = w.rd (ent 0x2010 1) % 4 := rfl
  rw [List.forall_mem_cons, List.forall_mem_cons, List.forall_mem_cons, List.forall_mem_cons, List.forall_mem_cons] at h
  obtain ⟨hstraps, hone, htwo, hrole2, hhead, -⟩ := h
  simp only [timeSources, hrole, roleShadow, arrayPos, hstraps, hone, htwo, hrole2, hhead]

theorem Sys.reselect_one (y : Sys) {c : Nat} (hl : y.timeSources = [c]) (hq : c ∈ y.time.qualified) (hf : y.tbFollows = false) : y.reselect = y.acquire c := by
  simp [reselect, hl, hq, hf]

theorem Sys.tbFollows_eq (y : Sys) : y.tbFollows = (y.tbState == 1 || y.tbState == 2) := rfl

theorem Sys.rd_endLocked (y : Sys) (k : Nat) : y.endLocked.rd k = y.rd k := by
  unfold endLocked
  split <;> rfl
theorem Sys.time_endHold (y : Sys) : y.endHold.time = { y.time with hold := none } := by
  unfold endHold
  split
  next h => rw [← h]
  · rfl
theorem Sys.time_endLocked (y : Sys) : y.endLocked.time = { y.time with lockedAt := none } := by
  unfold endLocked
  split
  next h => rw [← h]
  · rfl
theorem sameBut_endLocked (y : Sys) : SameBut [.time, .mram] (only []) (only []) y y.endLocked := by
  unfold Sys.endLocked
  split
  · exact .refl y
  · exact .of_facets rfl rfl fun p hp => by
      cases p with
      | mram | time => simp at hp
      | _ => rfl

/-- Acquisition of a source shows ACQUIRING and the source, and starts from its last sample. -/
theorem Sys.acquire_spec (y : Sys) {c : Nat} (hc : c < 8) : (y.acquire c).tbState = 1 ∧ (y.acquire c).tbSource = c ∧
    (y.acquire c).time.offset = ((y.time.samples.lookup c).map (·.1)).getD 0 ∧ (y.acquire c).time.qualified = y.time.qualified := by
  have hcarry := carried_carryTime y
  unfold acquire
  extract_lets y1 free o y2 y3 y4
  have hst : y4.tbState = 1 := (tbState_wrBit y3 (by simp) _).trans ((tbState_setTbSource _ c).trans (tbState_setTbState _ (by simp)))
  have hsrc : y4.tbSource = c := (tbSource_wrBit y3 (by simp) _).trans (tbSource_setTbSource _ hc)
  have hb : ((y4.wrI (ent 0x2300 4) (offNs o)).raise 0x0604 255 (ev [(0, 1, c), (4, 4, ofI 32 (satI32 (offNs o)))])).rd (ent 0x2300 2) = y4.rd (ent 0x2300 2) := by
    simp [wrI]
  refine ⟨(tbState_showTime _).trans ((tbState_congr hb).trans hst), (tbSource_showTime _).trans ((tbSource_congr hb).trans hsrc), ?_, ?_⟩
  · have ho : o = ((y1.time.samples.lookup c).map (·.1)).getD 0 := rfl
    rw [hcarry.samples_eq] at ho
    rw [← ho]
    simp [wrI, y4, y3]
  · have hq : y2.time.qualified = y1.time.qualified := by
      simp [y2, setTbSource, setTbState, time_endLocked, time_endHold]
    rw [← hcarry.qualified_eq, ← hq]
    simp [wrI, y4, y3]

theorem sourceCode_lt (c : TimeSource) : c.code < 8 := by cases c <;> decide

theorem sourceQualified_acquires (s : State) (c : TimeSource) (o : Int) (tr : Bool) (ts : BitVec 8) (h1 : s.sys.tbState ≠ 1) (h2 : s.sys.tbState ≠ 2)
    (hl : s.sys.timeSources = [c.code]) (hq : s.sys.mayQualify c.code = true) :
    Completes (.sourceQualified c o tr ts) s fun t =>
      c.code ∈ t.sys.time.qualified ∧ t.sys.tbState = 1 ∧ t.sys.tbSource = c.code ∧ t.sys.time.offset = o ∧ t.otp = s.otp ∧ t.pending = s.pending := by
  refine ⟨_, rfl, ?_⟩
  simp only [hq, Bool.not_true, Bool.false_eq_true, if_false]
  set y := s.sys.onTime _ with hy
  have hmem : c.code ∈ y.time.qualified := by
    rw [hy, Sys.time_onTime]
    dsimp only
    split
    next h => simpa using h
    · simp
  have hsame : y.timeSources = [c.code] := (Sys.timeSources_congr fun k _ => Sys.rd_onTime ..).trans hl
  have hfol : y.tbFollows = false := by
    rw [Sys.tbFollows_eq, Sys.tbState_congr (y := s.sys) (Sys.rd_onTime ..)]
    simp [h1, h2]
  rw [y.reselect_one hsame hmem hfol]
  obtain ⟨hst, hsrc, hoff, hqual⟩ := y.acquire_spec (sourceCode_lt c)
  refine ⟨hqual ▸ hmem, hst, hsrc, hoff.trans ?_, rfl, trivial⟩
  simp [hy]

/-! ## The frequency is found -/

/-- In no time nothing is slewed. -/
theorem slewUp_zero (o d s : Rat) : slewUp o d s 0 = (d, o) := by
  unfold slewUp
  extract_lets q p up gone flat left v
  have hup : (0 : Rat) ≤ up := by
    have hr : (0 : Rat) < rampRate := by decide
    refine div_nonneg ?_ hr.le
    split
    next h => exact (sub_pos.2 h).le
    next h => exact sub_nonneg.2 (not_lt.1 h)
  have hv : v = d := by simp [v]
  rw [if_pos hup, hv]
  simp

theorem slewRun_zero (o d s : Rat) : slewRun o d s 0 = (d, o) := by
  unfold slewRun
  dsimp only
  split <;> simp [slewUp_zero]

/-- The increment's bounds of 25 ppm (R197). -/
theorem Sys.rd_setIncr (y : Sys) (v : Nat) : (y.setIncr v).rd (ent 0x2300 3) = max (nominalIncr - 214748) (min (nominalIncr + 214748) v) := by
  simp [setIncr, wrI]

theorem Sys.time_setIncr (y : Sys) (v : Nat) : (y.setIncr v).time = { y.time with adjAt := y.up } := rfl

/-- Where the increment has just been set, carrying it changes neither it nor the frequency that it works towards. -/
theorem Sys.carryTime_at_once (y : Sys) (hadj : y.time.adjAt = y.up) (hst : y.tbFollows = true)
    (hin : y.rd (ent 0x2300 3) = max (nominalIncr - 214748) (min (nominalIncr + 214748) (y.rd (ent 0x2300 3)))) :
    y.carryTime.rd (ent 0x2300 3) = y.rd (ent 0x2300 3) ∧ y.carryTime.time.freq = y.time.freq := by
  unfold carryTime
  split
  · exact ⟨rfl, rfl⟩
  rw [if_neg (by simp [hst]), hadj, Nat.sub_self]
  simp only [Nat.cast_zero, slewRun_zero, rd_onTime, rd_setIncr, time_onTime, time_setIncr]
  refine ⟨?_, trivial⟩
  rw [show ((y.time.freq : Rat) + (((y.rd (ent 0x2300 3) : Int) - y.time.freq : Int) : Rat)) = ((y.rd (ent 0x2300 3) : Int) : Rat) by push_cast; ring,
    Rat.floor_intCast, Int.toNat_natCast, ← hin]

theorem carried_rampTo (y : Sys) (f : Nat) : Carried y (y.rampTo f) := carried_setIncr ..

/-- An offset of 0 is no step. -/
theorem Sys.applyOffset_zero (y : Sys) (cause : Nat) :
    y.applyOffset 0 cause = (y.carryTime.onTime fun b => { b with offset := 0 }).wrI (ent 0x2300 4) (offNs 0) := by simp [applyOffset]

/-- The increment ramps towards the frequency that a source has. -/
def Sys.towards (y : Sys) (f : Nat) : Sys := (y.rampTo f).onTime fun b => { b with freq := f }

theorem carried_towards (y : Sys) (f : Nat) : Carried y (y.towards f) := (carried_rampTo y f).trans (carried_onTime _ ⟨_, _, _, rfl⟩)

/-- The source's frequency is the increment's. -/
def Sys.found (y : Sys) : Sys := Sys.showTime (Sys.applyOffset (y.onTime fun b => { b with acquired := true }) 0 0)

theorem frequencyAcquired_runs (s : State) (incr : BitVec 40) (o : Int) (hst : s.sys.tbState = 1) (hsrc : s.sys.tbSource = 1)
    (hacq : s.sys.time.acquired = false) (f : Nat) (hf : f = max (nominalIncr - 214748) (min (nominalIncr + 214748) incr.toNat)) :
    Runs (.frequencyAcquired incr o) s
      (if 85 < ((f : Int) - (s.sys.towards f).rd (ent 0x2300 3)).natAbs then (s.sys.towards f).showTime else (s.sys.towards f).found) := by
  have hc := carried_towards s.sys f
  refine (?_ : exec _ _ = _)
  simp only [exec_frequencyAcquired, execFrequencyAcquired, onSys_eq, hst, hacq, ne_eq, not_true_eq_false, Bool.false_eq_true, if_false, ← hf]
  rw [show (s.sys.rampTo f).onTime (fun b => { b with freq := f }) = s.sys.towards f from rfl, hc.acquired_eq, hacq, hc.tbSource_eq, hsrc]
  simp only [Bool.not_false, true_and, if_true, Sys.found]

/-- Where the increment has just been set, the found frequency is kept with it, and no offset is left. -/
theorem Sys.found_spec (y : Sys) (hadj : y.time.adjAt = y.up) (hst : y.tbFollows = true)
    (hin : y.rd (ent 0x2300 3) = max (nominalIncr - 214748) (min (nominalIncr + 214748) (y.rd (ent 0x2300 3)))) :
    y.found.rd (ent 0x2300 3) = y.rd (ent 0x2300 3) ∧ y.found.time.freq = y.time.freq ∧ y.found.time.acquired = true ∧ y.found.time.offset = 0 ∧
      y.found.t96 = y.t96 := by
  let z := y.onTime fun b => { b with acquired := true }
  obtain ⟨hrd, hfreq⟩ := z.carryTime_at_once hadj hst hin
  have hc := carried_carryTime z
  have he : y.found = ((z.carryTime.onTime fun b => { b with offset := 0 }).wrI (ent 0x2300 4) (offNs 0)).showTime := by
    unfold found
    rw [applyOffset_zero]
  rw [he, rd_showTime _ (by simp)]
  refine ⟨?_, hfreq, hc.acquired_eq, rfl, hc.t96_eq⟩
  rw [wrI, rd_wr, if_neg (by simp), rd_onTime]
  exact hrd

theorem frequencyAcquired_ramps (s : State) (incr : BitVec 40) (o : Int) (hst : s.sys.tbState = 1) (hsrc : s.sys.tbSource = 1)
    (hacq : s.sys.time.acquired = false) :
    Completes (.frequencyAcquired incr o) s fun t =>
      let f := max (nominalIncr - 214748) (min (nominalIncr + 214748) incr.toNat)
      let old := s.sys.rd (ent 0x2300 3)
      let ramp := nominalIncr * (s.sys.up - s.sys.time.adjAt) / 2000000000000000
      t.sys.time.freq = f ∧
      t.sys.rd (ent 0x2300 3) = max (nominalIncr - 214748) (min (nominalIncr + 214748) (max (old - ramp) (min (old + ramp) f))) ∧
      t.sys.time.acquired = decide (((f : Int) - t.sys.rd (ent 0x2300 3)).natAbs ≤ 85) ∧
      (t.sys.time.acquired = true → t.sys.time.offset = 0) ∧ (t.sys.time.acquired = false → t.sys.time.offset = s.sys.time.offset) ∧ t.sys.t96 = s.sys.t96 ∧ t.otp = s.otp ∧ t.pending = s.pending := by
  have hexec := frequencyAcquired_runs s incr o hst hsrc hacq _ rfl
  generalize max (nominalIncr - 214748) (min (nominalIncr + 214748) incr.toNat) = f at hexec ⊢
  have hc := carried_towards s.sys f
  have hrd : (s.sys.towards f).rd (ent 0x2300 3) = max (nominalIncr - 214748) (min (nominalIncr + 214748)
      (max (s.sys.rd (ent 0x2300 3) - nominalIncr * (s.sys.up - s.sys.time.adjAt) / 2000000000000000)
        (min (s.sys.rd (ent 0x2300 3) + nominalIncr * (s.sys.up - s.sys.time.adjAt) / 2000000000000000) f))) := Sys.rd_setIncr ..
  split at hexec
  next hfar =>
    refine ⟨_, hexec, rfl, (Sys.rd_showTime _ (by simp)).trans hrd, ?_, fun h => ?_, fun _ => rfl, hc.t96_eq, rfl, rfl⟩
    · rw [Sys.rd_showTime _ (by simp)]
      exact hc.acquired_eq.trans (hacq.trans (decide_eq_false (by omega)).symm)
    · exact absurd (hacq.symm.trans (hc.acquired_eq.symm.trans h)) (by simp)
  next hnear =>
    have hfol : (s.sys.towards f).tbFollows = true := by rw [Sys.tbFollows_eq, hc.tbState_eq, hst]; rfl
    obtain ⟨hfrd, hfreq, hfacq, hoff, ht⟩ := (s.sys.towards f).found_spec rfl hfol (by rw [hrd]; omega)
    refine ⟨_, hexec, hfreq, hfrd.trans hrd, ?_, fun _ => hoff, fun h => ?_, ht.trans hc.t96_eq, rfl, rfl⟩
    · rw [hfacq, hfrd]
      exact (decide_eq_true (by omega)).symm
    · exact absurd (hfacq.symm.trans h) (by simp)

/-! ## Lock -/

@[simp] theorem Sys.time_wr (y : Sys) (k v : Nat) : (y.wr k v).time = y.time := rfl

theorem sameBut_setTbState (y : Sys) (n : Nat) : SameBut [] (only [ent 0x2300 2]) (only []) y (y.setTbState n) := by simp [Sys.setTbState]

/-- The offset that is left is shown, and an event tells it with the source. -/
def Sys.tellLock (y : Sys) (code : Nat) (o : Int) : Sys :=
  Sys.showTime ((y.wrI (ent 0x2300 4) (offNs o)).raise code 255 (ev [(0, 1, y.tbSource), (4, 4, ofI 32 (satI32 (offNs o)))]))

theorem Sys.tellLock_spec (y : Sys) (code : Nat) (o : Int) (hroom : y.log.pending.length < 256) :
    (y.tellLock code o).tbState = y.tbState ∧ (y.tellLock code o).tbSource = y.tbSource ∧ (y.tellLock code o).time = y.time ∧ (y.tellLock code o).t96 = y.t96 ∧
    (y.tellLock code o).log.pending = y.log.pending ++ [⟨y.t96, code, severity code, 255, ev [(0, 1, y.tbSource), (4, 4, ofI 32 (satI32 (offNs o)))]⟩] ∧
    SameBut [.log] (only [ent 0x2300 4, ent 0x2300 6, ent 0x2303 1, ent 0x2303 2]) (only []) y (y.tellLock code o) := by
  unfold tellLock
  refine ⟨?_, ?_, ?_, ?_, ?_, ?_⟩
  · rw [tbState_showTime]
    exact tbState_congr (by simp [wrI])
  · rw [tbSource_showTime]
    exact tbSource_congr (by simp [wrI])
  · simp [wrI]
  · simp [wrI]
  · exact (log_raise (y.wrI (ent 0x2300 4) (offNs o)) code 255 _ hroom)
  · exact .trans (by simp [wrI]) ((sameBut_showTime _).mono (by simp) (by simp) (by simp))

theorem timeLocked_locks (s : State) (o : Int) (hst : s.sys.tbState = 1) (ho : o.natAbs ≤ s.sys.rd (ent 0x2301 0x0A) * 2 ^ 32) (hroom : Room s) :
    Completes (.timeLocked o) s fun t =>
      t.sys.tbState = 2 ∧ t.sys.tbSource = s.sys.tbSource ∧ t.sys.time.disciplined = true ∧ t.sys.time.offset = o ∧
      t.sys.time.lockedAt = some s.sys.t96 ∧ Logs s t 0x0605 255 (ev [(0, 1, s.sys.tbSource), (4, 4, ofI 32 (satI32 (offNs o)))]) ∧
      Leaves [.time, .log] (only [ent 0x2300 2, ent 0x2300 3, ent 0x2300 4, ent 0x2300 5, ent 0x2300 6, ent 0x2303 1, ent 0x2303 2]) (only []) s t := by
  let y := (s.sys.carryTime.setTbState 2).onTime fun b =>
    { b with offset := o, acquired := true, disciplined := true, fromFree := false, lockedAt := some s.sys.t96 }
  have hexec : Runs (.timeLocked o) s (y.tellLock 0x0605 o) := by
    refine (?_ : exec _ _ = _)
    have : ¬ s.sys.rd (ent 0x2301 0x0A) * 2 ^ 32 < o.natAbs := by omega
    simp only [exec_timeLocked, execTimeLocked, onSys_eq, hst, this, ne_eq, not_true_eq_false, or_self, if_false]
    rfl
  have hc := carried_carryTime s.sys
  have hsrc : y.tbSource = s.sys.tbSource := (Sys.tbSource_setTbState _ (n := 2) (by simp)).trans hc.tbSource_eq
  have hlog : y.log = s.sys.log := hc.log_eq
  have ht : y.t96 = s.sys.t96 := hc.t96_eq
  obtain ⟨hs, hso, htime, -, hpend, hsame⟩ := y.tellLock_spec 0x0605 o (by rw [hlog]; exact hroom)
  refine ⟨_, hexec, hs.trans (Sys.tbState_setTbState _ (n := 2) (by simp)), hso.trans hsrc, congrArg (·.disciplined) htime, congrArg (·.offset) htime,
    congrArg (·.lockedAt) htime, ?_, leaves_of_sameBut ?_⟩
  · rw [hlog, ht, hsrc] at hpend
    exact hpend
  · refine .trans (hc.same.mono (by simp) (by simp) (by simp)) (.trans ((sameBut_setTbState _ 2).mono (by simp) (by simp) (by simp)) ?_)
    exact .trans (b := y) (sameBut_onTime _ (by simp)) (hsame.mono (by simp) (by simp) (by simp))

theorem lockLost_reacquires (s : State) (o : Int) (hst : s.sys.tbState = 2) (ho : s.sys.rd (ent 0x2301 0x0A) * 2 ^ 32 < o.natAbs) (hroom : Room s) :
    Completes (.lockLost o) s fun t =>
      t.sys.tbState = 1 ∧ t.sys.tbSource = s.sys.tbSource ∧ t.sys.time.offset = o ∧ t.sys.time.lockedAt = none ∧
      Logs s t 0x060E 255 (ev [(0, 1, s.sys.tbSource), (4, 4, ofI 32 (satI32 (offNs o)))]) ∧ t.sys.t96 = s.sys.t96 := by
  let y := (s.sys.carryTime.endLocked.setTbState 1).onTime fun b => { b with offset := o, withheld := false }
  have hexec : Runs (.lockLost o) s (y.tellLock 0x060E o) := by
    refine (?_ : exec _ _ = _)
    have : ¬ o.natAbs ≤ s.sys.rd (ent 0x2301 0x0A) * 2 ^ 32 := by omega
    simp only [exec_lockLost, execLockLost, onSys_eq, hst, this, ne_eq, not_true_eq_false, or_self, if_false]
    rfl
  have hc := carried_carryTime s.sys
  have he := sameBut_endLocked s.sys.carryTime
  have hsrc : y.tbSource = s.sys.tbSource :=
    (Sys.tbSource_setTbState _ (n := 1) (by simp)).trans ((Sys.tbSource_congr (Sys.rd_endLocked ..)).trans hc.tbSource_eq)
  have hlog : y.log = s.sys.log := (he.1 .log (by simp)).symm.trans hc.log_eq
  have ht : y.t96 = s.sys.t96 := (he.1 .t96 (by simp)).symm.trans hc.t96_eq
  have hlocked : y.time.lockedAt = none := congrArg (·.lockedAt) (Sys.time_endLocked s.sys.carryTime)
  obtain ⟨hs, hso, htime, ht96, hpend, -⟩ := y.tellLock_spec 0x060E o (by rw [hlog]; exact hroom)
  refine ⟨_, hexec, hs.trans (Sys.tbState_setTbState _ (n := 1) (by simp)), hso.trans hsrc, congrArg (·.offset) htime,
    (congrArg (·.lockedAt) htime).trans hlocked, ?_, ht96.trans ht⟩
  rw [hlog, ht, hsrc] at hpend
  exact hpend

/-! ## Faults of the selected source -/

/-- The time base is in holdover: it shows so, follows no source, and kept its time and the configured sources; `c` is not qualified. -/
structure HeldFrom (c : Nat) (y z : Sys) : Prop where
  state : z.tbState = 3
  hold : z.time.hold.isSome = true
  sources : z.timeSources = y.timeSources
  t96 : z.t96 = y.t96
  out : c ∉ z.time.qualified

theorem HeldFrom.follows {c : Nat} (h : HeldFrom c y z) : z.tbFollows = false := by simp [Sys.tbFollows_eq, h.state]

/-- What neither changes the entries that the sources depend on nor the state, nor qualifies a source, stays in holdover. -/
theorem HeldFrom.next {c : Nat} {w : Sys} (h : HeldFrom c y z)
    (hrd : ∀ k ∉ [ent 0x2300 3, ent 0x2300 5, ent 0x2300 6, ent 0x2303 1, ent 0x2303 2], w.rd k = z.rd k)
    (ht : w.t96 = z.t96) (hq : ∀ n ∈ w.time.qualified, n ∈ z.time.qualified) (hh : z.time.hold.isSome = true → w.time.hold.isSome = true) : HeldFrom c y w where
  state := (Sys.tbState_congr (hrd _ (by simp))).trans h.state
  hold := hh h.hold
  sources := (Sys.timeSources_congr fun k hk => hrd k (by
    simp only [List.mem_cons, List.not_mem_nil, or_false] at hk
    rcases hk with rfl | rfl | rfl | rfl | rfl <;> simp)).trans h.sources
  t96 := ht.trans h.t96
  out := fun hm => h.out (hq _ hm)

theorem HeldFrom.carried {c : Nat} {w : Sys} (h : HeldFrom c y z) (g : Carried z w) : HeldFrom c y w :=
  h.next (fun k hk => g.rd_eq fun hm => hk (by
    simp only [List.mem_cons, List.not_mem_nil, or_false] at hm ⊢
    exact hm.elim (fun e => .inl e) fun e => .inr (.inl e)))
    g.t96_eq (fun _ => by rw [g.qualified_eq]; exact id) (by rw [g.hold_eq]; exact id)

theorem HeldFrom.raise {c : Nat} (h : HeldFrom c y z) (code src : Nat) (b : Bytes) : HeldFrom c y (z.raise code src b) :=
  h.next (fun _ _ => Sys.rd_raise ..) (by simp) (fun _ => by simp) (by simp)

theorem HeldFrom.showTime {c : Nat} (h : HeldFrom c y z) : HeldFrom c y z.showTime :=
  h.next (fun k hk => Sys.rd_showTime _ (by simp only [List.mem_cons, List.not_mem_nil, or_false, not_or] at hk ⊢; exact hk.2.2)) rfl (fun _ => id) id

/-- Holdover begins with its time at this instant. -/
theorem Sys.beginHold_held (y : Sys) (tref : Bool) {c : Nat} (hc : c ∉ y.time.qualified) : HeldFrom c y (y.beginHold tref) := by
  unfold beginHold
  extract_lets y1 t h y2
  have hc1 := carried_carryTime y
  have he := sameBut_endLocked y1
  have hheld : HeldFrom c y (((y2.setTbState 3).inc (ent 0x2300 8)).onTime fun b => { b with hold := some h, offset := 0 }) := by
    refine ⟨?_, rfl, ?_, ?_, ?_⟩
    · exact (tbState_congr (by simp [Sys.inc])).trans (tbState_setTbState y2 (by simp))
    · refine timeSources_congr fun k hk => ?_
      simp only [List.mem_cons, List.not_mem_nil, or_false] at hk
      have h2 : y2.rd k = y1.rd k := rd_endLocked ..
      have h1 : y1.rd k = y.rd k := hc1.rd_eq (by rcases hk with rfl | rfl | rfl | rfl | rfl <;> simp)
      rw [← h1, ← h2]
      rcases hk with rfl | rfl | rfl | rfl | rfl <;> simp [Sys.inc, setTbState]
    · exact (he.1 .t96 (by simp)).symm.trans hc1.t96_eq
    · have hq : y2.time.qualified = y.time.qualified := (congrArg (·.qualified) (time_endLocked y1)).trans hc1.qualified_eq
      exact fun hm => hc (hq ▸ hm)
  exact hheld.carried (carried_driftFreq _)

theorem Sys.disqualify_selected (y : Sys) {c : Nat} (r : Nat) (hf : y.tbFollows = true) (hs : y.tbSource = c) (hl : y.timeSources = [c]) :
    HeldFrom c y (y.disqualify c r) := by
  unfold disqualify
  extract_lets selected y1 told y2 y3 y4
  have hsel : selected := ⟨hf, hs⟩
  have hne : ¬ ((!y.time.qualified.contains c) = true ∧ ¬ selected) := fun h => h.2 hsel
  rw [if_neg hne, if_neg (not_not_intro (.inl hsel)), if_neg (not_not_intro hsel)]
  have h1 : y1.timeSources = y.timeSources := timeSources_congr fun k _ => rd_onTime ..
  have hout : c ∉ y1.time.qualified := by simp [y1]
  have h2 : HeldFrom c y y2 := by
    have h := y1.beginHold_held (c == 2 && y1.time.qualified.contains 1) hout
    exact ⟨h.state, h.hold, h.sources.trans h1, h.t96, h.out⟩
  have h5 : HeldFrom c y y4.steer := ((h2.raise _ _ _).raise _ _ _).carried (carried_steer _)
  have hre : y4.steer.reselect = y4.steer := by
    unfold reselect
    simp [h5.sources, hl, h5.out]
  rw [hre]
  exact h5.showTime

/-- In holdover, a source that is not configured is no longer qualified, and that is all. -/
theorem HeldFrom.disqualify {c d r : Nat} (h : HeldFrom c y z) (hd : d ∉ y.timeSources) (hr : r ≠ 4) : HeldFrom c y (z.disqualify d r) := by
  unfold Sys.disqualify
  extract_lets selected y1 told y2 y3 y4
  have hsel : ¬ selected := fun hs => absurd (h.follows.symm.trans hs.1) (by simp)
  split
  · exact h
  · have h1 : HeldFrom c y y1 := h.next (fun _ _ => rfl) rfl (fun _ hm => (List.mem_filter.1 hm).1) id
    have htold : ¬ told := by
      rintro (hs | hm | h4)
      · exact hsel hs
      · rw [h1.sources] at hm
        exact hd (by simpa using hm)
      · exact hr h4
    rw [if_pos htold]
    exact h1

theorem HeldFrom.trefGone {c : Nat} (h : HeldFrom c y z) : HeldFrom c y z.trefGone := by
  unfold Sys.trefGone
  refine HeldFrom.carried ?_ (carried_driftFreq _)
  refine (h.carried (carried_carryTime z)).next (fun _ _ => rfl) rfl (fun _ => id) fun hs => ?_
  rw [Sys.time_onTime, Option.isSome_map]
  exact hs

theorem Sys.sourceFault_selected (y : Sys) {c r : Nat} (hf : y.tbFollows = true) (hs : y.tbSource = c) (hl : y.timeSources = [c]) (hr : r ≠ 4) :
    HeldFrom c y (y.sourceFault c r) := by
  have h := y.disqualify_selected r hf hs hl
  unfold sourceFault
  dsimp only
  split
  next hc => exact h.trefGone.disqualify (by simp [hl, hc]) hr
  · exact h

theorem referenceFault_holds (s : State) (c : TimeSource) (fault : RefFault) (temp : BitVec 32) (hf : s.sys.tbFollows = true)
    (hs : s.sys.tbSource = c.code) (hl : s.sys.timeSources = [c.code]) :
    Completes (.referenceFault c fault temp) s fun t =>
      t.sys.tbState = 3 ∧ c.code ∉ t.sys.time.qualified ∧ t.sys.time.hold.isSome = true ∧ t.sys.t96 = s.sys.t96 ∧ t.otp = s.otp := by
  have hexec : Runs (.referenceFault c fault temp) s (((s.sys.oscTemp temp).sourceFault c.code fault.code).showTime) := rfl
  obtain ⟨d, -, hc⟩ := s.sys.oscTemp_spec temp
  have hrd : ∀ k ∉ [ent 0x2300 3, ent 0x2300 5, ent 0x2300 7], (s.sys.oscTemp temp).rd k = s.sys.rd k := fun k hk => by
    simp only [List.mem_cons, List.not_mem_nil, or_false, not_or] at hk
    rw [hc.rd_eq (by simp [hk]), Sys.rd_warmed, if_neg hk.2.2]
  have hst : (s.sys.oscTemp temp).tbFollows = true := by
    rw [Sys.tbFollows_eq, Sys.tbState_congr (hrd _ (by simp))]
    exact hf
  have hl' : (s.sys.oscTemp temp).timeSources = [c.code] := (Sys.timeSources_congr fun k hk => hrd k (by
    simp only [List.mem_cons, List.not_mem_nil, or_false] at hk
    rcases hk with rfl | rfl | rfl | rfl | rfl <;> simp)).trans hl
  have h := ((s.sys.oscTemp temp).sourceFault_selected (r := fault.code) hst ((Sys.tbSource_congr (hrd _ (by simp))).trans hs) hl' (by cases fault <;> decide)).showTime
  exact ⟨_, hexec, h.state, h.out, h.hold, h.t96.trans (hc.t96_eq.trans rfl), rfl⟩

/-! ## Holdover past its limit, and the time of day -/

theorem holdoverLimitExceeded_tells (s : State) (temp : BitVec 32) (h : Holdover) (hst : s.sys.tbState = 3) (hh : s.sys.time.hold = some h)
    (hlim : (s.sys.rd (ent 0x2301 6) : Rat) < holdError h s.sys.up) (hroom : Room s) :
    Completes (.holdoverLimitExceeded temp) s fun t =>
      t.sys.tbState = 4 ∧ (t.sys.log.pending.map (·.code)) = s.sys.log.pending.map (·.code) ++ [0x0603] ∧
      Leaves [.time, .log] (only [ent 0x2300 2, ent 0x2300 3, ent 0x2300 5, ent 0x2300 6, ent 0x2300 7, ent 0x2303 1, ent 0x2303 2]) (only []) s t := by
  obtain ⟨d, hd, hc⟩ := s.sys.oscTemp_spec temp
  obtain rfl := hd (by simp [hst])
  have hw := sameBut_warmed s.sys temp s.sys.mram.drift
  have hst' : (s.sys.oscTemp temp).tbState = 3 := hc.tbState_eq.trans ((Sys.tbState_warmed ..).trans hst)
  have hhold : (s.sys.oscTemp temp).time.hold = some (h.measured s.sys.up temp.toInt) := by
    rw [hc.hold_eq, show (s.sys.warmed temp _).time.hold = s.sys.time.hold.map _ from rfl, hh, Option.map_some]
  have hup : (s.sys.oscTemp temp).up = s.sys.up := hc.up_eq
  have hmax : (s.sys.oscTemp temp).rd (ent 0x2301 6) = s.sys.rd (ent 0x2301 6) := by rw [hc.rd_eq (by simp), Sys.rd_warmed, if_neg (by simp)]
  have hlog : (s.sys.oscTemp temp).log = s.sys.log := hc.log_eq.trans (hw.1 .log (by simp)).symm
  have hmram : SameBut [.time] (only [ent 0x2300 7]) (only []) s.sys (s.sys.warmed temp s.sys.mram.drift) :=
    SameBut.trans (b := s.sys.wr (ent 0x2300 7) temp.toNat) (by simp) (.of_facets rfl rfl fun p hp => by
      cases p with
      | time => simp at hp
      | _ => rfl)
  have hexec : ∃ b, Runs (.holdoverLimitExceeded temp) s ((((s.sys.oscTemp temp).setTbState 4).showTime).raise 0x0603 255 b) := by
    simp only [Runs, exec_holdoverLimitExceeded, execHoldoverLimitExceeded, onSys_eq, hst, if_true, hst', hhold, hmax, hup, Option.any_some, holdError_measured,
      decide_eq_true hlim, ne_eq, not_true_eq_false, Bool.not_true, Bool.false_eq_true, or_self, if_false]
    exact ⟨_, rfl⟩
  obtain ⟨b, hexec⟩ := hexec
  refine ⟨_, hexec, ?_, ?_, leaves_of_sameBut ?_⟩
  · rw [Sys.tbState_congr (Sys.rd_raise ..), Sys.tbState_showTime, Sys.tbState_setTbState _ (by simp)]
  · have hl := Sys.log_raise ((s.sys.oscTemp temp).setTbState 4).showTime 0x0603 255 b (by
      rw [Sys.log_showTime]
      exact hlog ▸ hroom)
    rw [hl, List.map_append, show ((s.sys.oscTemp temp).setTbState 4).showTime.log = s.sys.log from hlog]
    rfl
  · refine .trans (hmram.mono (by simp) (by simp) (by simp)) (.trans (hc.same.mono (by simp) (by simp) (by simp)) ?_)
    refine .trans ((sameBut_setTbState _ 4).mono (by simp) (by simp) (by simp)) (.trans ((sameBut_showTime _).mono (by simp) (by simp) (by simp)) ?_)
    simp

/-- A step sets the time at one tick, and is counted. -/
theorem Sys.stepTime_spec (y : Sys) (o : Int) (cause : Nat) :
    (y.stepTime o cause).t96 = (((y.t96 : Int) + o) % 2 ^ 96).toNat ∧
    (y.stepTime o cause).rd (ent 0x2300 0x0A) = (y.rd (ent 0x2300 0x0A) + 1) % 2 ^ 32 := by
  have haudio (z : Sys) : SameBut [.audioOut] (only []) (only []) z z.audioStep := SameBut.foldl _ _ (fun _ _ _ => by simp) z
  unfold stepTime
  extract_lets free y1 y2 y3 y4 y5
  have h4 : y4.rd (ent 0x2300 0x0A) = y.rd (ent 0x2300 0x0A) ∧ y4.t96 = y1.t96 := by
    simp only [y4]
    split
    · exact ⟨rfl, rfl⟩
    · exact ⟨by simp; rfl, rfl⟩
  refine ⟨?_, ?_⟩
  · rw [← ((haudio _).1 .t96 (by simp) : Sys.t96 _ = _)]
    simp [y5, wrI, Sys.inc, h4.2, y1]
  · rw [(haudio _).2.1 _ (by simp)]
    simp [y5, wrI, Sys.inc, h4.1]

theorem timeSet_steps (s : State) (v : BitVec 96) (hst : s.sys.tbState = 0)
    (hbig : s.sys.rd (ent 0x2301 8) * 2 ^ 32 < ((v.toNat : Int) - s.sys.t96).natAbs) (hf : s.sys.tbFollows = false) :
    Completes (.timeSet v) s fun t => t.sys.t96 = v.toNat ∧ t.sys.rd (ent 0x2300 0x0A) = (s.sys.rd (ent 0x2300 0x0A) + 1) % 2 ^ 32 := by
  have hc := carried_carryTime s.sys
  let y := (s.sys.carryTime.onTime fun b => { b with offset := (v.toNat : Int) - s.sys.t96 }).wrI (ent 0x2300 4) (offNs ((v.toNat : Int) - s.sys.t96))
  have hrd : ∀ k ∉ [ent 0x2300 3, ent 0x2300 4, ent 0x2300 5], y.rd k = s.sys.rd k := fun k hk => by
    simp only [List.mem_cons, List.not_mem_nil, or_false, not_or] at hk
    rw [← hc.rd_eq (k := k) (by simp [hk])]
    simp [y, hk]
  have happly : s.sys.applyOffset ((v.toNat : Int) - s.sys.t96) 1 = y.stepTime ((v.toNat : Int) - s.sys.t96) 1 := by
    have h8 : y.rd (ent 0x2301 8) = s.sys.rd (ent 0x2301 8) := hrd _ (by simp)
    have h0 : y.tbState = 0 := (Sys.tbState_congr (hrd _ (by simp))).trans hst
    exact if_pos ⟨h8 ▸ hbig, .inl (.inl h0)⟩
  have hexec : Runs (.timeSet v) s (y.stepTime ((v.toNat : Int) - s.sys.t96) 1).showTime := by
    refine (?_ : exec _ _ = _)
    rw [exec_timeSet, execTimeSet, onSys_eq, Sys.setTimeOfDay, hf, if_neg (by simp), happly]
  obtain ⟨ht, hn⟩ := y.stepTime_spec ((v.toNat : Int) - s.sys.t96) 1
  refine ⟨_, hexec, ?_, ?_⟩
  · rw [Sys.t96_showTime, ht, show y.t96 = s.sys.t96 from hc.t96_eq]
    omega
  · rw [Sys.rd_showTime _ (by simp), hn, hrd _ (by simp)]

theorem timeSet_waits (s : State) (v : BitVec 96) (hf : s.sys.tbFollows = true) (hsrc : s.sys.tbSource = 2) :
    Completes (.timeSet v) s fun t => t.sys.time = { s.sys.time with timeSet := some v.toNat } ∧ Leaves [.time] (only []) (only []) s t := by
  have hexec : Runs (.timeSet v) s (s.sys.onTime fun b => { b with timeSet := some v.toNat }) := by
    refine (?_ : exec _ _ = _)
    rw [exec_timeSet, execTimeSet, onSys_eq, Sys.setTimeOfDay, if_pos ⟨hf, hsrc⟩]
  exact ⟨_, hexec, rfl, leaves_of_sameBut (sameBut_onTime _ (by simp))⟩

/-- Settles O30. -/
theorem timeBaseFollowsItsSources : Obligations.TimeBaseFollowsItsSources := by
  refine ⟨timeBaseSave_saves, sourceQualified_acquires, frequencyAcquired_ramps, timeLocked_locks, lockLost_reacquires, referenceFault_holds,
    holdoverLimitExceeded_tells, timeSet_waits, timeSet_steps,
    fun s e w v hrun hheld hball hfn hsrc hw hset => ?_, fun s e w hrun hheld hball hfn hsrc hw hset => ?_, fun s e w hw => ?_⟩
  · have hrunt : tioRunt w = false := decide_eq_false (by omega)
    refine (?_ : exec _ _ = _)
    simp only [exec_ppsInEdge, execPpsInEdge, onSys_eq, hfn, hrun, hheld, hrunt, hset, List.contains_eq_mem, hsrc, decide_true, Bool.not_true, ne_eq,
      not_true_eq_false, Bool.false_eq_true, or_false, Nat.not_le.2 hball, if_false]
    rfl
  · have hrunt : tioRunt w = false := decide_eq_false (by omega)
    refine (?_ : exec _ _ = _)
    simp only [exec_ppsInEdge, execPpsInEdge, onSys_eq, hfn, hrun, hheld, hrunt, hset, List.contains_eq_mem, hsrc, decide_true, Bool.not_true, ne_eq,
      not_true_eq_false, Bool.false_eq_true, or_false, Nat.not_le.2 hball, if_false]
  · have hrunt : tioRunt w = true := decide_eq_true hw
    refine (?_ : exec _ _ = _)
    simp only [exec_ppsInEdge, execPpsInEdge, onSys_eq, hrunt, true_or, or_true, if_true]

end Sys2Proof.Machine
end

section
/-!
PROOFS. PTP ports listen, follow and answer (R207, R211 to R214).
-/

namespace Sys2Proof.Machine

variable {fs : List Facet} {nums blobs : Nat → Prop} {x y z : Sys} {s : State}

/-! ## The ports -/

@[simp] theorem Sys.ptpPort_wr (y : Sys) (k v p : Nat) : (y.wr k v).ptpPort p = y.ptpPort p := rfl
@[simp] theorem Sys.ptpPort_wrB (y : Sys) (k : Nat) (v : Bytes) (p : Nat) : (y.wrB k v).ptpPort p = y.ptpPort p := rfl
@[simp] theorem Sys.ptpPort_send (y : Sys) (m : Tx) (p : Nat) : (y.send m).ptpPort p = y.ptpPort p := rfl

theorem Sys.ptpPort_congr (h : Touches fs y z) (hp : .ptp ∉ fs) (p : Nat) : z.ptpPort p = y.ptpPort p :=
  congrArg (fun l => tget (fun _ => ptp0) l p) (h.facet .ptp hp (by simp)).symm

theorem toI_ofI (x : Int) : toI 32 (ofI 32 (satI32 x)) = satI32 x := by
  unfold toI ofI satI32
  omega

/-! ## The state decision leaves the ports' messages alone -/

theorem touches_setPtpState (y : Sys) (p : Nat) (st : PortState) (h : Facet.log ∈ fs) : Touches fs y (y.setPtpState p st) := by
  unfold Sys.setPtpState
  dsimp only
  split
  · exact .refl y
  · simp [↓touches_primitives, h]

theorem touches_setParent (y : Sys) (gm cls steps : Nat) (slave : Bool) : Touches [.log, .mram, .time] y (y.setParent gm cls steps slave) := by
  unfold Sys.setParent
  simp [↓touches_primitives, ↓touches_sourceFault]

theorem touches_bmca (y : Sys) (die : Nat) : Touches [.log, .mram, .time] y (y.bmca die) := by
  unfold Sys.bmca
  extract_lets own best y1
  have hstate (z : Sys) (p : Nat) (st : PortState) : Touches [.log, .mram, .time] z (z.setPtpState p st) := touches_setPtpState z p st (by simp)
  have h1 : Touches [.log, .mram, .time] y y1 := by
    refine (touches_foldl _ _ fun z p _ => ?_).2 (.refl y)
    dsimp only
    clear_value own best
    repeat' split
    all_goals first | exact .refl z | exact hstate .. | exact (hstate ..).trans (touches_setParent ..)
  split
  · exact h1.trans (touches_setParent ..)
  · exact h1

/-! ## Messages that come -/

theorem ptpAnnounceReceive_listens (s : State) (p : Fin 9) (a : PtpAnnounce) (hh : s.sys.ptpHears p.val a.domain = true) (hm : s.sys.ptpMode = 3)
    (hg : a.grandmaster.toNat ≠ clockIdentity s.otp.dieId) :
    Completes (.ptpAnnounceReceive p a) s fun t =>
      t.sys.rdB (ent 0x2303 3) = (le 8 a.grandmaster.toNat).reverse ∧ t.sys.rd (ent 0x2303 4) = a.steps.toNat ∧
      Leaves [.ptp] (only [ent 0x2303 4]) (only [ent 0x2303 3]) s t := by
  have hexec : ∃ u, Runs (.ptpAnnounceReceive p a) s
      (((s.sys.setPtp p.val u).wrB (ent 0x2303 3) (le 8 a.grandmaster.toNat).reverse).wr (ent 0x2303 4) a.steps.toNat) := by
    have hm' (u : PtpPort) : (s.sys.setPtp p.val u).ptpMode = 3 := hm
    simp only [Runs, exec_ptpAnnounceReceive, execPtpAnnounceReceive, onSys_eq, hh, hm, hg, hm', Bool.not_true, Bool.false_eq_true, or_self,
      show ¬ (3 = 1) by decide, if_false, if_true]
    exact ⟨_, rfl⟩
  obtain ⟨u, hexec⟩ := hexec
  exact ⟨_, hexec, by simp, by simp, leaves_of_sameBut (by simp)⟩

theorem ptpAnnounceReceive_follows (s : State) (p : Fin 9) (a : PtpAnnounce) (hh : s.sys.ptpHears p.val a.domain = true) (hm : s.sys.ptpMode = 2)
    (hg : a.grandmaster.toNat ≠ clockIdentity s.otp.dieId) (hf : (s.sys.ptpPort p.val).foreign = []) :
    let f : Foreign := ⟨[a.priority1.toNat, a.clockClass.toNat, a.accuracy.toNat, a.variance.toNat, a.priority2.toNat, a.grandmaster.toNat],
      a.steps.toNat, a.sender.toNat, a.timeSource.toNat, 1⟩
    Runs (.ptpAnnounceReceive p a) s
      (Sys.followOrigin ((s.sys.setPtp p.val { s.sys.ptpPort p.val with foreign := [f] }).bmca s.otp.dieId) p.val) := by
  have hm' (u : PtpPort) : (s.sys.setPtp p.val u).ptpMode = 2 := hm
  intro f
  simp only [Runs, exec_ptpAnnounceReceive, execPtpAnnounceReceive, onSys_eq, hh, hm, hg, hm', hf, Bool.not_true, Bool.false_eq_true, or_self,
    show ¬ (2 = 1) by decide, show ¬ (2 = 3) by decide, if_false, List.filter_nil, List.find?_nil, Option.map_none, Option.getD_none, List.nil_append, Nat.zero_add, f]

theorem ptpSyncReceive_waits (s : State) (p : Fin 9) (d : BitVec 8) (seq : BitVec 16) (rx : BitVec 96) (hh : s.sys.ptpHears p.val d = true)
    (hst : s.sys.ptpState p.val = 9) :
    Completes (.ptpSyncReceive p d seq rx none) s fun t =>
      t.sys.ptpPort p.val = { s.sys.ptpPort p.val with sync := some (seq.toNat, rx.toNat) } ∧ (∀ j, j ≠ p.val → t.sys.ptpPort j = s.sys.ptpPort j) ∧
      Leaves [.ptp] (only []) (only []) s t := by
  have hexec : Runs (.ptpSyncReceive p d seq rx none) s (s.sys.setPtp p.val { s.sys.ptpPort p.val with sync := some (seq.toNat, rx.toNat) }) := by
    simp [Runs, execPtpSyncReceive, hh, hst]
  exact ⟨_, hexec, by simp, fun j hj => by simp [hj], leaves_of_sameBut (by simp)⟩

theorem ptpFollowUpReceive_samples (s : State) (p : Fin 9) (d : BitVec 8) (seq : BitVec 16) (origin : BitVec 96) (t2 : Nat)
    (hh : s.sys.ptpHears p.val d = true) (hm : s.sys.ptpMode = 3) (hsync : (s.sys.ptpPort p.val).sync = some (seq.toNat, t2)) :
    Completes (.ptpFollowUpReceive p d seq origin) s fun t =>
      t.sys.rdI (ent 0x2303 5) = satI32 (offNs ((t2 : Int) - origin.toNat)) ∧ t.sys.rd (ent 0x2303 6) = 0 ∧ (t.sys.ptpPort p.val).pair = some (origin.toNat, t2) ∧
      t.otp = s.otp := by
  have hexec : Runs (.ptpFollowUpReceive p d seq origin) s (((s.sys.setPtp p.val { s.sys.ptpPort p.val with pair := some (origin.toNat, t2), sync := none }).wrI
      (ent 0x2303 5) (offNs ((t2 : Int) - origin.toNat))).wr (ent 0x2303 6) 0) := by
    have hm' (u : PtpPort) : (s.sys.setPtp p.val u).ptpMode = 3 := hm
    simp only [Runs, exec_ptpFollowUpReceive, execPtpFollowUpReceive, onSys_eq, hh, hsync, Sys.ptpSample, hm', Bool.not_true, Bool.false_eq_true, if_false, if_true]
  exact ⟨_, hexec, by simp [toI_ofI], by simp, by simp, rfl⟩

theorem ptpDelayRespReceive_measures (s : State) (p : Fin 9) (d : BitVec 8) (seq : BitVec 16) (rx : BitVec 96) (t1 t2 t3 : Nat)
    (hh : s.sys.ptpHears p.val d = true) (hd : (s.sys.ptpPort p.val).delay = some (seq.toNat, t3)) (hp : (s.sys.ptpPort p.val).pair = some (t1, t2))
    (hst : s.sys.ptpState p.val = 9) :
    Completes (.ptpDelayRespReceive p d seq rx) s fun t =>
      t.sys.rd (ent 0x2303 6) = min 0xFFFFFFFF (offNs (((t2 : Int) - t1 + ((rx.toNat : Int) - t3)) / 2)).toNat ∧
      t.sys.ptpPort p.val = { s.sys.ptpPort p.val with delay := none } ∧ Leaves [.ptp] (only [ent 0x2303 6]) (only []) s t := by
  have hexec : Runs (.ptpDelayRespReceive p d seq rx) s ((s.sys.setPtp p.val { s.sys.ptpPort p.val with delay := none }).wr (ent 0x2303 6)
      (min 0xFFFFFFFF (offNs (((t2 : Int) - t1 + ((rx.toNat : Int) - t3)) / 2)).toNat)) := by
    simp only [Runs, exec_ptpDelayRespReceive, execPtpDelayRespReceive, onSys_eq, hd, hp, hh, hst, Bool.not_true, Bool.false_eq_true, ne_eq, not_true_eq_false, or_self,
      if_false]
  exact ⟨_, hexec, by simp, by simp, leaves_of_sameBut (by simp)⟩

/-! ## Messages that go -/

/-- Port `p` takes the next number of a message kind. -/
def Sys.ptpTaken (y : Sys) (p kind : Nat) : Sys :=
  y.setPtp p { y.ptpPort p with
    seqs := (kind, (((y.ptpPort p).seqs.lookup kind).getD 0 + 1) % 65536) :: (y.ptpPort p).seqs.filter fun q => q.1 != kind }

/-- A message with the next number of its kind, and what follows it. -/
theorem ptp_sent {c : Instr} {s : State} {p kind : Nat}
    (h : ∃ (b : Bytes) (l : List Tx), Runs c s (l.foldl Sys.send ((s.sys.ptpTaken p kind).send
      (.ptp p (s.sys.rd (ent 0x2302 3)) kind (((s.sys.ptpPort p).seqs.lookup kind).getD 0) 0 b)))) :
    Completes c s fun t =>
      let n := ((s.sys.ptpPort p).seqs.lookup kind).getD 0
      (t.sys.ptpPort p).seqs.lookup kind = some ((n + 1) % 65536) ∧ (∃ b l, t.sys.tx = s.sys.tx ++ .ptp p (s.sys.rd (ent 0x2302 3)) kind n 0 b :: l) ∧
      (∀ j, j ≠ p → t.sys.ptpPort j = s.sys.ptpPort j) ∧ Leaves [.ptp, .tx] (only []) (only []) s t := by
  obtain ⟨b, l, h⟩ := h
  obtain ⟨hsame, htx⟩ := foldl_send l ((s.sys.ptpTaken p kind).send
    (.ptp p (s.sys.rd (ent 0x2302 3)) kind (((s.sys.ptpPort p).seqs.lookup kind).getD 0) 0 b))
  have hport (j : Nat) := Sys.ptpPort_congr (hsame.touches fun _ => id) (by simp) j
  refine ⟨_, h, ?_, ⟨b, l, ?_⟩, fun j hj => ?_, leaves_of_sameBut ?_⟩
  · rw [hport]
    simp [Sys.ptpTaken]
  · rw [htx]
    simp [Sys.send, Sys.ptpTaken]
  · rw [hport]
    simp [Sys.ptpTaken, hj]
  · exact .trans (by simp [Sys.ptpTaken]) (hsame.mono (by simp) (by simp) (by simp))

theorem ptp_master_sends (s : State) (p : Fin 9) (c : Instr) (kind : Nat)
    (hc : (c, kind) ∈ [(.ptpAnnounceSend p, 11), (.ptpSyncSend p, 0), (.ptpMetadataSend p, 13)]) (hreset : s.sys.inReset = false)
    (hon : s.sys.ptpOn p.val = true) (hst : s.sys.ptpState p.val = 6) :
    Completes c s fun t =>
      let n := ((s.sys.ptpPort p.val).seqs.lookup kind).getD 0
      (t.sys.ptpPort p.val).seqs.lookup kind = some ((n + 1) % 65536) ∧ (∃ b l, t.sys.tx = s.sys.tx ++ .ptp p.val (s.sys.rd (ent 0x2302 3)) kind n 0 b :: l) ∧
      (∀ j, j ≠ p.val → t.sys.ptpPort j = s.sys.ptpPort j) ∧ Leaves [.ptp, .tx] (only []) (only []) s t := by
  have hgo : ¬ (s.sys.inReset = true ∨ (!decide (s.sys.ptpOn p.val = true ∧ s.sys.ptpState p.val = 6)) = true) := by simp [hreset, hon, hst]
  simp only [List.mem_cons, Prod.mk.injEq, List.not_mem_nil, or_false] at hc
  obtain ⟨rfl, rfl⟩ | ⟨rfl, rfl⟩ | ⟨rfl, rfl⟩ := hc
  · refine ptp_sent ?_
    simp only [Runs, exec_ptpAnnounceSend, execPtpAnnounceSend, onSys_eq, if_neg hgo]
    exact ⟨_, [], rfl⟩
  · refine ptp_sent ⟨[], [.ptp p.val (s.sys.rd (ent 0x2302 3)) 8 (((s.sys.ptpPort p.val).seqs.lookup 0).getD 0) s.sys.t96 []], ?_⟩
    simp only [Runs, exec_ptpSyncSend, execPtpSyncSend, onSys_eq, if_neg hgo]
    rfl
  · refine ptp_sent ?_
    simp only [Runs, exec_ptpMetadataSend, execPtpMetadataSend, onSys_eq, if_neg hgo]
    exact ⟨_, [], rfl⟩

theorem ptpDelayReqSend_sends (s : State) (p : Fin 9) (hon : s.sys.ptpOn p.val = true) (hst : s.sys.ptpState p.val = 9) :
    Completes (.ptpDelayReqSend p) s fun t =>
      let n := ((s.sys.ptpPort p.val).seqs.lookup 1).getD 0
      (t.sys.ptpPort p.val).delay = some (n, s.sys.t96) ∧ (∃ b, t.sys.tx = s.sys.tx ++ [.ptp p.val (s.sys.rd (ent 0x2302 3)) 1 n s.sys.t96 b]) ∧
      Leaves [.ptp, .tx] (only []) (only []) s t := by
  refine ⟨_, rfl, ?_⟩
  have hgo : ¬ (!decide (s.sys.ptpOn p.val = true ∧ s.sys.ptpState p.val = 9)) = true := by simp [hon, hst]
  dsimp only
  rw [if_neg hgo]
  refine ⟨by simp [Sys.ptpSeq], ⟨_, rfl⟩, leaves_of_sameBut ?_⟩
  simp [Sys.ptpSeq]

/-! ## A port that hears no master -/

/-- The masters that are left to a port whose master is silent. -/
def Sys.stillHeard (y : Sys) (p : Nat) : List Foreign :=
  match (if y.ptpState p == 9 || y.ptpState p == 7 then (y.portBest p).map (·.sender) else none) with
  | some n => (y.ptpPort p).foreign.filter fun f => f.sender != n
  | none => []

theorem Sys.stillHeard_eq (y : Sys) (p : Nat) : y.stillHeard p = (if y.ptpState p = 9 ∨ y.ptpState p = 7 then
    (match y.portBest p with
      | some g => (y.ptpPort p).foreign.filter fun f => f.sender != g.sender
      | none => []) else []) := by
  unfold stillHeard
  by_cases h : y.ptpState p = 9 ∨ y.ptpState p = 7
  · have hb : (y.ptpState p == 9 || y.ptpState p == 7) = true := by simpa using h
    rw [if_pos hb, if_pos h]
    cases y.portBest p <;> rfl
  · have hb : ¬ (y.ptpState p == 9 || y.ptpState p == 7) = true := by simpa using h
    rw [if_neg hb, if_neg h]

theorem ptpAnnounceTimeout_forgets (s : State) (p : Fin 9) (hon : s.sys.ptpOn p.val = true) (hm : s.sys.ptpMode = 2) :
    Completes (.ptpAnnounceTimeout p) s fun t =>
      (t.sys.ptpPort p.val).foreign = (if s.sys.ptpState p.val = 9 ∨ s.sys.ptpState p.val = 7 then
        (match s.sys.portBest p.val with
          | some g => (s.sys.ptpPort p.val).foreign.filter fun f => f.sender != g.sender
          | none => []) else []) ∧
      (t.sys.ptpPort p.val).pair = none ∧ (t.sys.ptpPort p.val).delay = none ∧ t.otp = s.otp ∧ t.pending = s.pending := by
  let left : PtpPort := { s.sys.ptpPort p.val with foreign := s.sys.stillHeard p.val, sync := none, pair := none, delay := none }
  let y := s.sys.setPtp p.val left
  let z := if s.sys.ptpState p.val == 9 then y.sourceFault 3 0 else y
  have hexec : Runs (.ptpAnnounceTimeout p) s (((z.setPtpState p.val .master).bmca s.otp.dieId).showTime) := by
    have hgo : ¬ ((!s.sys.ptpOn p.val) = true ∨ s.sys.ptpMode ≠ 2) := by simp [hon, hm]
    refine (?_ : exec _ _ = _)
    rw [exec_ptpAnnounceTimeout, execPtpAnnounceTimeout, onSys_eq]
    dsimp only
    rw [if_neg hgo]
    rfl
  have hz : Touches [.log, .mram, .time] y z := by
    simp only [z]
    split
    · exact (touches_sourceFault _ _ _ (fun _ => id)).2 (.refl y)
    · exact .refl y
  have ht : Touches [.log, .mram, .time] y (((z.setPtpState p.val .master).bmca s.otp.dieId).showTime) :=
    (touches_showTime _).2 ((hz.trans (touches_setPtpState z p.val .master (by simp))).trans (touches_bmca ..))
  have hport : (((z.setPtpState p.val .master).bmca s.otp.dieId).showTime).ptpPort p.val = left :=
    (Sys.ptpPort_congr ht (by simp) p.val).trans (by simp [y])
  exact ⟨_, hexec, (congrArg (·.foreign) hport).trans (Sys.stillHeard_eq ..), congrArg (·.pair) hport, congrArg (·.delay) hport, rfl, rfl⟩

/-- Settles O31. -/
theorem ptpPortsTalk : Obligations.PtpPortsTalk := by
  refine ⟨ptpAnnounceReceive_listens, ptpSyncReceive_waits, ptpFollowUpReceive_samples, fun s p d seq rq rx hh hst => ?_, ptpDelayRespReceive_measures,
    ptp_master_sends, ptpDelayReqSend_sends, ptpAnnounceTimeout_forgets, ptpAnnounceReceive_follows, fun s p a hh => ?_⟩
  · simp only [Runs, exec_ptpDelayReqReceive, execPtpDelayReqReceive, onSys_eq, if_pos (And.intro hh hst)]
  · simp only [Runs, exec_ptpAnnounceReceive, execPtpAnnounceReceive, onSys_eq, hh, Bool.not_false, true_or, if_true]

end Sys2Proof.Machine
end

section
/-!
PROOFS. Timing balls capture and drive, and launches run in time order (R217 to R223).
-/

namespace Sys2Proof.Machine

variable {fs : List Facet} {nums blobs : Nat → Prop} {x y z : Sys} {s : State}

/-! ## Timing balls -/

theorem Sys.tioPin_congr {b : Nat} (h : z.rd (ent (0x2320 + b) 2) = y.rd (ent (0x2320 + b) 2)) (a : Bool) : z.tioPin b a = y.tioPin b a := by
  rw [tioPin, tioPin, h]

@[simp] theorem Sys.tio_wr (y : Sys) (k v n : Nat) : (y.wr k v).tio n = y.tio n := rfl
@[simp] theorem Sys.tio_wrB (y : Sys) (k : Nat) (v : Bytes) (n : Nat) : (y.wrB k v).tio n = y.tio n := rfl
@[simp] theorem Sys.tio_send (y : Sys) (m : Tx) (n : Nat) : (y.send m).tio n = y.tio n := rfl
@[simp] theorem Sys.tio_showCapture (y : Sys) (m n : Nat) : (y.showCapture m).tio n = y.tio n := rfl

theorem tioEdgeOut_places (s : State) (b : Fin 32) (hfn : s.sys.tioFn b.val = 1) :
    Completes (.tioEdgeOut b) s fun t =>
      (∃ e, (t.sys.tio b.val).last = some e ∧ (s.sys.tioDriven b.val = true →
        t.sys.tx = s.sys.tx ++ [.tio b.val e (s.sys.rd (ent (0x2320 + b.val) 5)) (s.sys.tioPin b.val true)])) ∧
      (t.sys.tio b.val).fifo = (s.sys.tio b.val).fifo ∧ (∀ j, j ≠ b.val → t.sys.tio j = s.sys.tio j) ∧ Leaves [.tios, .tx] (only []) (only []) s t := by
  have hexec : ∃ e, Runs (.tioEdgeOut b) s (
      let y := s.sys.setTio b.val { s.sys.tio b.val with last := some e }
      if s.sys.tioDriven b.val then y.send (.tio b.val e (s.sys.rd (ent (0x2320 + b.val) 5)) (s.sys.tioPin b.val true)) else y) := by
    simp only [Runs, exec_tioEdgeOut, execTioEdgeOut, onSys_eq, hfn, show tioOut 1 = true from rfl, Bool.not_true,
      show ¬ (1 = 6) by decide, show ¬ (1 = 4) by decide, show ¬ (1 = 5) by decide, false_and, if_false]
    exact ⟨_, rfl⟩
  obtain ⟨e, hexec⟩ := hexec
  dsimp only at hexec
  refine ⟨_, hexec, ⟨e, ?_, fun hd => ?_⟩, ?_, fun j hj => ?_, leaves_of_sameBut ?_⟩
  · dsimp only
    split <;> simp
  · simp [hd, Sys.send]
  · dsimp only
    split <;> simp
  · dsimp only
    split <;> simp [hj]
  · split <;> simp

theorem tioCapture_joins (s : State) (b : Fin 32) (e : BitVec 96) (falling : Bool) (w : BitVec 32) (hfn : s.sys.tioFn b.val = 7) (hw : 10 ≤ w.toNat)
    (hheld : s.sys.tioHeld = false) (hbeat : s.sys.rd (ent 0x4C00 5) ≠ b.val) (hpps : s.sys.rd (ent 0x4D00 5) ≠ b.val) :
    Completes (.tioCapture b e falling w) s fun t =>
      ((s.sys.tio b.val).fifo.length < 16 → (t.sys.tio b.val).fifo = (s.sys.tio b.val).fifo ++ [(e.toNat, falling)] ∧
        Leaves [.tios] (only []) (only [ent (0x2320 + b.val) 8]) s t) ∧
      (16 ≤ (s.sys.tio b.val).fifo.length → t.sys.tio b.val = s.sys.tio b.val ∧
        t.sys.rd (ent (0x2320 + b.val) 7) = (s.sys.rd (ent (0x2320 + b.val) 7) + 1) % 2 ^ 32 ∧
        Leaves [.log] (only [ent (0x2320 + b.val) 7]) (only []) s t) := by
  have hrunt : tioRunt w = false := decide_eq_false (by omega)
  have hexec : Runs (.tioCapture b e falling w) s (
      if (s.sys.tio b.val).fifo.length < 16 then
        (s.sys.setTio b.val { s.sys.tio b.val with fifo := (s.sys.tio b.val).fifo ++ [(e.toNat, falling)] }).showCapture b.val
      else (s.sys.inc (ent (0x2320 + b.val) 7)).raiseLimited b.val 0x060D b.val (ev [(0, 1, b.val)])) := by
    simp only [Runs, exec_tioCapture, execTioCapture, onSys_eq, hfn, hrunt, hheld, hbeat, hpps, ne_eq, not_true_eq_false, Bool.false_eq_true, or_self, if_false,
      false_and]
  split at hexec
  next hroom =>
    refine ⟨_, hexec, fun _ => ⟨by simp, leaves_of_sameBut (by simp [Sys.showCapture])⟩, fun h => absurd hroom (by omega)⟩
  next hfull =>
    refine ⟨_, hexec, fun h => absurd h hfull, fun _ => ⟨?_, by simp [Sys.inc], leaves_of_sameBut (by simp [Sys.inc])⟩⟩
    simp [Sys.tio, Sys.inc]

theorem captureFifoRead_pops (s : State) (b : Fin 32) : Completes (.captureFifoRead b) s fun t =>
    t.sys.tio b.val = { s.sys.tio b.val with fifo := (s.sys.tio b.val).fifo.drop 1 } ∧ (∀ j, j ≠ b.val → t.sys.tio j = s.sys.tio j) ∧
    Leaves [.tios] (only []) (only [ent (0x2320 + b.val) 8]) s t :=
  ⟨_, rfl, by simp [Sys.popCapture], fun j hj => by simp [Sys.popCapture, hj],
    leaves_of_sameBut (by simp [Sys.popCapture, Sys.showCapture])⟩

/-! ## The launch queue -/

theorem sameBut_setLaunches (y : Sys) (l : List Launch) (h : Facet.launches ∈ fs) (hn : nums (ent 0x2310 3)) : SameBut fs nums blobs y (y.setLaunches l) :=
  SameBut.trans (b := { y with launches := l }) (.of_facets rfl rfl fun p hp => by cases p with | launches => exact absurd h hp | _ => rfl)
    (by simp [Sys.setLaunches, hn])

@[simp] theorem sameBut_setLaunches_iff (l : List Launch) (h : Facet.launches ∈ fs) (hn : nums (ent 0x2310 3)) :
    SameBut fs nums blobs y (z.setLaunches l) ↔ SameBut fs nums blobs y z := (sameBut_setLaunches z l h hn).iff_of_step

theorem Sys.launches_setLaunches (y : Sys) (l : List Launch) : (y.setLaunches l).launches = l := rfl

theorem Sys.rd_setLaunches (y : Sys) (l : List Launch) (k : Nat) :
    (y.setLaunches l).rd k = if k = ent 0x2310 3 then (l.filter (·.host)).length else y.rd k := Sys.rd_wr ..

/-- Each entry finds a place in the queue. -/
theorem length_filter_queueLaunch (p : Launch → Bool) (e : Launch) (l : List Launch) :
    ((queueLaunch e l).filter p).length = (l.filter p).length + if p e then 1 else 0 := by
  induction l with
  | nil => by_cases he : p e <;> simp [queueLaunch, he]
  | cons a l ih =>
    unfold queueLaunch
    split
    · by_cases ha : p a <;> simp [ha, ih, Nat.add_right_comm]
    · by_cases he : p e <;> simp [he]

theorem launchSubmit_eq (s : State) (b : Bytes) (i : BitVec 16) (r : Fin 9) (hb : b.length = 32) (hok : s.sys.launchOk (launchOf b i.toNat) = true) :
    Runs (.launchSubmit b i r) s (if 192 ≤ s.sys.hostLaunches.length then s.sys.raise 0x060C 255 (ev [(0, 1, r.val)])
      else s.sys.setLaunches (queueLaunch (launchOf b i.toNat) s.sys.launches)) := by
  simp only [Runs, exec_launchSubmit, execLaunchSubmit, onSys_eq, Sys.submitLaunch, hb, hok, ne_eq, not_true_eq_false, Bool.not_true, Bool.false_eq_true, if_false]
  split <;> rfl

theorem launchSubmit_queues (s : State) (b : Bytes) (i : BitVec 16) (r : Fin 9) (hb : b.length = 32) (hok : s.sys.launchOk (launchOf b i.toNat) = true)
    (hroom : s.sys.hostLaunches.length < 192) :
    Completes (.launchSubmit b i r) s fun t =>
      t.sys.launches = queueLaunch (launchOf b i.toNat) s.sys.launches ∧ t.sys.rd (ent 0x2310 3) = s.sys.hostLaunches.length + 1 ∧
      Leaves [.launches] (only [ent 0x2310 3]) (only []) s t := by
  have hexec := launchSubmit_eq s b i r hb hok
  rw [if_neg (by omega)] at hexec
  refine ⟨_, hexec, rfl, ?_, leaves_of_sameBut (sameBut_setLaunches _ _ (by simp) (by simp))⟩
  rw [Sys.rd_setLaunches, if_pos rfl, length_filter_queueLaunch]
  rfl

/-! ## Cancelled entries -/

/-- Entries that are not due within 10 µs leave the queue when they are picked, and the others stay in it. -/
theorem Sys.cancelLaunches_eq (y : Sys) (p : Launch → Bool) (hany : y.launches.any (fun e => e.host && p e) = true)
    (hdue : ∀ e ∈ y.launches, (e.host && p e) = true → y.t96 + 10000 * 2 ^ 32 ≤ e.time) :
    (y.cancelLaunches p).2 = (y.setLaunches (y.launches.filter fun e => !(e.host && p e))).incBy (ent 0x2310 7)
      (y.launches.filter fun e => e.host && p e).length := by
  have hfold (l a : List Launch) (hl : ∀ e ∈ l, (e.host && p e) = true → y.t96 + 10000 * 2 ^ 32 ≤ e.time) :
      l.foldl (fun (a : List Launch × Sys) e =>
        if !(e.host && p e) then (a.1 ++ [e], a.2)
        else if e.time < a.2.t96 + 10000 * 2 ^ 32 then
          let d := a.2.free 1
          (if d.1 = 1 then a.1 ++ [{ e with left := 0 }] else a.1, d.2)
        else a) (a, y) = (a ++ l.filter (fun e => !(e.host && p e)), y) := by
    induction l generalizing a with
    | nil => simp
    | cons e l ih =>
      obtain ⟨he, hl⟩ := List.forall_mem_cons.1 hl
      rw [List.foldl_cons]
      by_cases hp : (e.host && p e) = true
      · rw [hp, if_neg (by simp), if_neg (Nat.not_lt.2 (he hp)), ih a hl, List.filter_cons_of_neg (by simp [hp])]
      · have hn : (!(e.host && p e)) = true := by rw [Bool.not_eq_true'] ; exact Bool.eq_false_of_not_eq_true hp
        rw [if_pos hn, ih _ hl, List.filter_cons_of_pos (p := fun e => !(e.host && p e)) hn, List.append_assoc,
          List.singleton_append]
  have hne : (y.launches.filter fun e => e.host && p e).length ≠ 0 := by
    obtain ⟨e, hm, he⟩ := List.any_eq_true.1 hany
    exact List.length_pos_iff_exists_mem.2 ⟨e, List.mem_filter.2 ⟨hm, he⟩⟩ |>.ne'
  unfold cancelLaunches
  dsimp only
  rw [if_neg hne, hfold _ _ hdue, List.nil_append]

theorem launches_cancelled (s : State) (c : Instr) (p : Launch → Bool) (id i : BitVec 16)
    (hc : c = .launchCancel id i ∧ p = (fun e => e.host && (e.id == id.toNat && e.session == i.toNat)) ∨
      c = .launchCancelAny id ∧ p = (fun e => e.host && e.id == id.toNat) ∨ c = .launchCancelAll ∧ p = (fun e => e.host))
    (hany : s.sys.launches.any p = true) (hdue : ∀ e ∈ s.sys.launches, p e = true → s.sys.t96 + 10000 * 2 ^ 32 ≤ e.time) :
    Completes c s fun t =>
      t.sys.launches = s.sys.launches.filter (fun e => !p e) ∧
      t.sys.rd (ent 0x2310 7) = (s.sys.rd (ent 0x2310 7) + (s.sys.launches.filter p).length) % 2 ^ 32 ∧
      Leaves [.launches] (only [ent 0x2310 3, ent 0x2310 7]) (only []) s t := by
  have hexec : Runs c s ((s.sys.setLaunches (s.sys.launches.filter fun e => !p e)).incBy (ent 0x2310 7) (s.sys.launches.filter p).length) := by
    obtain ⟨rfl, rfl⟩ | ⟨rfl, rfl⟩ | ⟨rfl, rfl⟩ := hc
    · exact congrArg (fun y => Host.Outcome.next ({ s with sys := y } : State)) (s.sys.cancelLaunches_eq _ hany hdue)
    · exact congrArg (fun y => Host.Outcome.next ({ s with sys := y } : State)) (s.sys.cancelLaunches_eq _ hany hdue)
    · have hhost (e : Launch) : (e.host && true) = e.host := Bool.and_true _
      have := s.sys.cancelLaunches_eq (fun _ => true) (by simpa only [hhost] using hany) (by simpa only [hhost] using hdue)
      simp only [hhost] at this
      exact congrArg (fun y => Host.Outcome.next ({ s with sys := y } : State)) this
  refine ⟨_, hexec, rfl, ?_, leaves_of_sameBut (by simp [Sys.incBy])⟩
  simp [Sys.incBy, Sys.rd_setLaunches]

/-! ## The entry that is due -/

/-- A PULSE entry holds its ball active to the later end of the pulses that overlap. -/
theorem Sys.launch_pulse (y : Sys) (e : Launch) (t : Nat) (hk : e.kind = 1) :
    y.launch e t =
      let stop := max (y.tio e.target).pulse (t + e.param * 2 ^ 32)
      let z := y.setTio e.target { y.tio e.target with pulse := stop }
      if z.tioDriven e.target ∧ z.tioFn e.target = 6 then z.send (.tio e.target t ((stop - t + 2 ^ 32 - 1) / 2 ^ 32) (z.tioPin e.target true)) else z := by
  simp only [launch, hk]

theorem launchDue_pulses (s : State) (e : Launch) (l : List Launch) (hl : s.sys.launches = e :: l) (hhost : e.host = true) (hleft : e.left = 0)
    (ht : s.sys.t96 ≤ e.time) (hk : e.kind = 1) :
    Completes .launchDue s fun t =>
      let stop := max (s.sys.tio e.target).pulse (e.time + e.param * 2 ^ 32)
      t.sys.launches = l ∧ t.sys.rd (ent 0x2310 4) = (s.sys.rd (ent 0x2310 4) + 1) % 2 ^ 64 ∧ (t.sys.tio e.target).pulse = stop ∧
      (s.sys.tioDriven e.target = true → s.sys.tioFn e.target = 6 →
        t.sys.tx = s.sys.tx ++ [.tio e.target e.time ((stop - e.time + 2 ^ 32 - 1) / 2 ^ 32) (s.sys.tioPin e.target true)]) ∧
      t.otp = s.otp ∧ t.pending = s.pending := by
  let stop := max (s.sys.tio e.target).pulse (e.time + e.param * 2 ^ 32)
  let y := s.sys.setLaunches l
  let z := y.launch e e.time
  have hexec : ∃ b, Runs .launchDue s (if e.flags.testBit 0 then (z.inc64 (ent 0x2310 4) 1).raiseLimited e.key 0x060A 255 b else z.inc64 (ent 0x2310 4) 1) := by
    have hlate : decide (e.time < s.sys.t96) = false := decide_eq_false (by omega)
    have hmax : max e.time y.t96 = e.time := max_eq_left ht
    simp only [Runs, exec_launchDue, execLaunchDue, onSys_eq, hl, hhost, hleft, hlate, Bool.not_true, Bool.false_eq_true, if_false, if_true, Bool.false_and,
      Bool.false_or, show s.sys.setLaunches l = y from rfl, hmax]
    exact ⟨_, rfl⟩
  obtain ⟨b, hexec⟩ := hexec
  have hz : z.launches = l ∧ z.rd (ent 0x2310 4) = s.sys.rd (ent 0x2310 4) ∧ (z.tio e.target).pulse = stop ∧
      (s.sys.tioDriven e.target = true → s.sys.tioFn e.target = 6 →
        z.tx = s.sys.tx ++ [.tio e.target e.time ((stop - e.time + 2 ^ 32 - 1) / 2 ^ 32) (s.sys.tioPin e.target true)]) := by
    let v := y.setTio e.target { y.tio e.target with pulse := stop }
    have hv : z = if v.tioDriven e.target ∧ v.tioFn e.target = 6 then
        v.send (.tio e.target e.time ((stop - e.time + 2 ^ 32 - 1) / 2 ^ 32) (v.tioPin e.target true)) else v := y.launch_pulse e e.time hk
    have hrd : ∀ k, k ≠ ent 0x2310 3 → v.rd k = s.sys.rd k := fun k hk => (Sys.rd_setLaunches ..).trans (if_neg hk)
    have hne (i : Nat) : ent (0x2320 + e.target) i ≠ ent 0x2310 3 := by unfold ent; omega
    have hfn : v.tioFn e.target = s.sys.tioFn e.target := hrd _ (hne 1)
    have hpin : v.tioPin e.target true = s.sys.tioPin e.target true := Sys.tioPin_congr (hrd _ (hne 2)) true
    have hdriven : v.tioDriven e.target = s.sys.tioDriven e.target := by
      have hheld : v.tioHeld = s.sys.tioHeld := by
        change (v.boot.strapFault || (v.rd (ent 0x2010 2)).testBit 9) = _
        rw [hrd _ (by simp)]
        rfl
      have hshadow : v.isShadow = s.sys.isShadow := by
        change (v.rd (ent 0x4C01 2) == 2 || v.twin.taking.isSome) = _
        rw [hrd _ (by simp)]
        rfl
      rw [Sys.tioDriven, Sys.tioDriven, hfn, hheld, hshadow]
      rfl
    rw [hfn, hpin, hdriven] at hv
    rw [hv]
    refine ⟨?_, ?_, ?_, fun hd hf => ?_⟩
    · split <;> rfl
    · split
      · exact hrd _ (by simp)
      · exact hrd _ (by simp)
    · split <;> simp [v]
    · rw [if_pos ⟨hd, hf⟩]
      rfl
  obtain ⟨hlaunches, hrd, hpulse, htx⟩ := hz
  split at hexec
  · have htio : (((z.inc64 (ent 0x2310 4) 1).raiseLimited e.key 0x060A 255 b).tio e.target) = z.tio e.target := by simp [Sys.inc64, Sys.tio]
    exact ⟨_, hexec, by simpa [Sys.inc64] using hlaunches, by simp [Sys.inc64, hrd], (congrArg Tio.pulse htio).trans hpulse,
      fun hd hf => (show _ = z.tx by simp [Sys.inc64]).trans (htx hd hf), rfl, rfl⟩
  · exact ⟨_, hexec, hlaunches, by simp [Sys.inc64, hrd], hpulse, htx, rfl, rfl⟩

theorem launchDue_discards (s : State) (e : Launch) (l : List Launch) (hl : s.sys.launches = e :: l) (hhost : e.host = true) (hleft : e.left = 0)
    (ht : e.time < s.sys.t96) (hp : e.policy = 0 ∨ e.policy = 2 ∧ e.time + e.window * 2 ^ 32 < s.sys.t96) :
    Completes .launchDue s fun t =>
      t.sys.launches = l ∧ t.sys.rd (ent 0x2310 6) = (s.sys.rd (ent 0x2310 6) + 1) % 2 ^ 32 ∧ t.sys.rd (ent 0x2310 4) = s.sys.rd (ent 0x2310 4) ∧
      Leaves [.launches, .log] (only [ent 0x2310 3, ent 0x2310 6]) (only []) s t := by
  have hexec : Runs .launchDue s ((s.sys.setLaunches l).launchDiscard e ((s.sys.t96 - e.time) / 2 ^ 32) 0) := by
    have hpol : (e.policy == 0 || (e.policy == 2 && decide (e.time + e.window * 2 ^ 32 < s.sys.t96))) = true := by
      rcases hp with h | ⟨h, hw⟩
      · simp [h]
      · rw [h, decide_eq_true hw]
        rfl
    simp only [Runs, exec_launchDue, execLaunchDue, onSys_eq, hl, hhost, hleft, decide_eq_true ht, hpol, Bool.not_true, Bool.false_eq_true, if_false, if_true,
      Bool.and_self]
  refine ⟨_, hexec, by simp [Sys.launchDiscard, Sys.inc, Sys.launches_setLaunches], by simp [Sys.launchDiscard, Sys.inc, Sys.rd_setLaunches],
    by simp [Sys.launchDiscard, Sys.inc, Sys.rd_setLaunches], leaves_of_sameBut ?_⟩
  simp [Sys.launchDiscard, Sys.inc]

/-- Settles O32. -/
theorem timingBallsAndLaunches : Obligations.TimingBallsAndLaunches := by
  refine ⟨tioEdgeOut_places, tioCapture_joins, fun s b e falling w h => ?_, captureFifoRead_pops, launchSubmit_queues, fun s b i r hb hok hfull hroom => ?_,
    launches_cancelled, launchDue_pulses, launchDue_discards⟩
  · have hskip : s.sys.tioFn b.val ≠ 7 ∨ tioRunt w = true ∨ s.sys.tioHeld = true := .inr (h.imp_left fun hw => decide_eq_true hw)
    simp only [Runs, exec_tioCapture, execTioCapture, onSys_eq, if_pos hskip]
  · have hexec := launchSubmit_eq s b i r hb hok
    rw [if_pos hfull] at hexec
    exact ⟨_, hexec, Sys.log_raise _ _ _ _ hroom, leaves_of_sameBut (by simp)⟩

end Sys2Proof.Machine
end

section
/-!
PROOFS. A command that stands for a write (R126 to R132): what the write of an entry that acts leaves, and what follows it.
-/

namespace Sys2Proof.Machine

variable {fs : List Facet} {nums blobs : Nat → Prop} {x y z : Sys} {s : State} {o : Otp} {c : Instr} {w : Writer} {k : Nat} {v : Bytes} {r : Result}

/-! ## What follows a unit -/

/-- Entries that what follows a unit may change: the rail voltages, the count of units and the admitted rates. -/
def followNums (k : Nat) : Prop := k ∈ [ent 0x2201 1, ent 0x2201 2, ent 0x1104 4, ent 0x4D01 0x0B] ∨ 0x4D10 ≤ k / 256

/-- What a unit has done stands, but for the governor, the links to other modules and what they are told; the Felley link and the twin's role stay. -/
structure Followed (y z : Sys) : Prop where
  same : SameBut [.gov, .tx, .links, .twin] followNums (only []) y z
  felley : z.link 4 = y.link 4
  taking : z.twin.taking = y.twin.taking
  step : z.twin.step = y.twin.step
  cause : z.twin.cause = y.twin.cause

theorem Followed.refl (y : Sys) : Followed y y := ⟨.refl y, rfl, rfl, rfl, rfl⟩

theorem Followed.trans (h : Followed x y) (g : Followed y z) : Followed x z :=
  ⟨h.same.trans g.same, g.felley.trans h.felley, g.taking.trans h.taking, g.step.trans h.step, g.cause.trans h.cause⟩

theorem Followed.rd_eq (h : Followed y z) {k : Nat} (hk : ¬ followNums k) : z.rd k = y.rd k := h.same.2.1 k hk
theorem Followed.rdB_eq (h : Followed y z) (k : Nat) : z.rdB k = y.rdB k := h.same.2.2 k (by simp)

/-- What leaves links and the twin alone. -/
theorem Followed.of_sameBut (h : SameBut [.gov, .tx] followNums (only []) y z) : Followed y z := by
  have hl : y.links = z.links := h.1 .links (by simp)
  have ht : y.twin = z.twin := h.1 .twin (by simp)
  exact ⟨h.mono (by simp) (fun _ => id) (fun _ => id), by rw [Sys.link, Sys.link, hl], by rw [ht], by rw [ht], by rw [ht]⟩

theorem railKey_follows (r : RailName) : followNums (railKey r) := by
  cases r
  · exact .inl (List.mem_cons_self ..)
  · exact .inl (List.mem_cons_of_mem _ (List.mem_cons_self ..))

theorem followed_preRaise (y : Sys) (r : RailName) (p ctx first : Nat) : Followed y (y.preRaise r p ctx first) := by
  have hrail (x : Rail) : SameBut [.gov, .tx] followNums (only []) y (y.setRail r x) := by
    cases r <;> exact .of_facets rfl rfl fun p hp => by cases p with | gov => simp at hp | _ => rfl
  have hto (z : Sys) (n : Nat) : SameBut [.gov, .tx] followNums (only []) z (z.railTo r n) := sameBut_wr _ _ _ (railKey_follows r)
  refine .of_sameBut ?_
  unfold Sys.preRaise
  dsimp only
  split
  · exact .refl y
  · split
    · exact hrail _
    · exact (hrail _).trans (hto ..)

theorem followed_raiseAhead (y : Sys) (x : Nat) (target : Option Nat) (before after : Nat × Nat) : Followed y (y.raiseAhead x target before after) := by
  unfold Sys.raiseAhead
  extract_lets first z
  have hz : Followed y z := by
    unfold z
    split
    · exact followed_preRaise ..
    · exact .refl y
  split
  · exact hz.trans (followed_preRaise ..)
  · exact hz

theorem followed_showRates (y : Sys) (l : List (Nat × Bytes)) : Followed y (y.showRates l) := by
  have hadmitted (g : Gen) : SameBut [.gov, .tx] followNums (only []) y (y.showAdmitted g) := by
    unfold Sys.showAdmitted
    refine SameBut.trans (SameBut.upto _ 64 (fun z i _ => sameBut_wr _ _ _ (.inr ?_)) y) (sameBut_wr _ _ _ (.inl (by simp)))
    unfold ent
    omega
  unfold Sys.showRates
  split
  · exact .of_sameBut (hadmitted _)
  · exact .refl y

/-- A frame on a Garos link leaves the Felley link alone. -/
theorem followed_control (y : Sys) {k : Nat} (hk : k ≠ 4) (c : Ctl) (b : Bytes) : Followed y (y.control k c b) := by
  rw [Sys.control_garos y hk]
  exact ⟨by simp, (Sys.link_setLink ..).trans (if_neg (Ne.symm hk)), rfl, rfl, rfl⟩

/-- Frames on Garos links of which some are up. -/
theorem followed_controls (up : Sys → Nat → Bool) (c : Ctl) (b : Bytes) (l : List Nat) (hl : ∀ k ∈ l, k ≠ 4) (y : Sys) :
    Followed y (l.foldl (fun y k => if up y k then y.control k c b else y) y) := by
  induction l generalizing y with
  | nil => exact .refl y
  | cons k l ih =>
    refine .trans ?_ (ih (fun j hj => hl j (List.mem_cons_of_mem _ hj)) _)
    dsimp only
    split
    · exact followed_control y (hl k (List.mem_cons_self ..)) c b
    · exact .refl y

theorem followed_controlAll (y : Sys) (c : Ctl) (b : Bytes) : Followed y (y.controlAll c b) :=
  followed_controls (fun y k => y.garosUp k) c b _ (by decide) y

theorem followed_controlTwin (y : Sys) (c : Ctl) (b : Bytes) : Followed y (y.controlTwin c b) :=
  followed_controls (fun y k => y.garosUp k && y.rd (ent (0x4C08 + k) 2) == 2) c b _ (by decide) y

/-- The twin's books change, and its role does not. -/
theorem followed_onTwin (y : Sys) {f : Twin → Twin} (ht : (f y.twin).taking = y.twin.taking) (hs : (f y.twin).step = y.twin.step)
    (hc : (f y.twin).cause = y.twin.cause) : Followed y (y.onTwin f) :=
  ⟨sameBut_onTwin f (by simp), rfl, ht, hs, hc⟩

theorem followed_shareArray (y : Sys) (p : Nat) (l : List (Nat × Bytes)) : Followed y (y.shareArray p l) := by
  unfold Sys.shareArray
  dsimp only
  split
  · exact .refl y
  · exact (followed_onTwin y rfl rfl rfl).trans (followed_controlAll ..)

theorem followed_mirrorUnit (y : Sys) (u : CommitUnit) (st : Status) : Followed y (y.mirrorUnit u st).2 := by
  unfold Sys.mirrorUnit
  dsimp only
  split
  · exact .refl y
  · exact (followed_onTwin y rfl rfl rfl).trans (followed_controlTwin ..)

/-- A command that stands for a write has no requester: the unit is counted, shared and mirrored. -/
theorem followed_afterUnit (z y : Sys) (w : Writer) (k : Nat) (v : Bytes) (st : Status) (i j : Nat) (hst : st = .ok ∨ st = .staged) :
    Followed z (z.afterUnit (writeUnit y w k v, st, i, j)) := by
  have hanswer (z : Sys) : z.answer (writeUnit y w k v) st i j = z := by
    unfold Sys.answer
    simp [writeUnit]
  have hne : st ≠ .superseded := by rintro rfl; simp at hst
  unfold Sys.afterUnit
  simp only [show (writeUnit y w k v).position = none from rfl, show (writeUnit y w k v).gtag = 0 from rfl, hne, hst, or_false, if_false, if_true, ne_eq,
    not_true_eq_false, hanswer]
  have hcount : Followed z (z.inc64 (ent 0x1104 4) 1) := .of_sameBut (sameBut_wr _ _ _ (.inl (by simp)))
  have hmirror := (hcount.trans (followed_shareArray _ (z.inc64 (ent 0x1104 4) 1).arrayPos (writeUnit y w k v).members)).trans
    (followed_mirrorUnit _ (writeUnit y w k v) st)
  generalize ((z.inc64 (ent 0x1104 4) 1).shareArray (z.inc64 (ent 0x1104 4) 1).arrayPos (writeUnit y w k v).members).mirrorUnit (writeUnit y w k v) st = m
    at hmirror ⊢
  split
  · exact hmirror
  · split
    · exact hmirror.trans (followed_onTwin _ rfl rfl rfl)
    · exact hmirror

/-! ## The commands -/

/-- The write that a command stands for is its whole effect. -/
theorem exec_of_writeOf (h : writeOf c = some (w, k, v)) : exec c s = writeStep s w k v := by
  unfold writeOf at h
  split at h
  case h_47 => exact nomatch h
  case h_37 | h_38 =>
    obtain ⟨w', rfl, he⟩ := Option.map_eq_some_iff.1 h
    cases he
    rfl
  all_goals
    cases h
    rfl

/-! ## The write of an entry that acts -/

/-- What an entry that acts does with a write, if it is one. -/
def acting (o : Otp) (y : Sys) (w : Writer) (k : Nat) (v : Bytes) : Option Result :=
  y.actIdentity o w (k / 256) (k % 256) v <|> y.actSystem o w (k / 256) (k % 256) v <|> y.actFrame o (k / 256) (k % 256) v <|>
    y.actStore o (k / 256) (k % 256) v

theorem Sys.entryEffect_of_acting (h : acting o y w k v = some r) (ranges : Bool) : y.entryEffect o w k v ranges = r := by
  unfold acting at h
  unfold entryEffect
  dsimp only
  rw [h]

/-- An entry that takes its value at once passes its arrival checks where the table's hold and its own write does. -/
theorem Sys.arrival_ok_iff (hk : isRwc k = false) :
    (y.arrival o w k v).1 = .ok ↔ y.tableCheck o w k v = .ok ∧ ((y.entryWrite o w k v).1 = .overbudget ∨ (y.entryWrite o w k v).1 = .ok) := by
  unfold arrival
  simp only [hk]
  by_cases ht : y.tableCheck o w k v = .ok
  · simp only [ht, ne_eq, not_true_eq_false, if_false, Bool.false_eq_true, true_and]
    split
    next h => simp [h]
    next h => simpa [h] using fun hok => h (.inr hok)
  · simp [ht]

/-- A write that the table admits is not one that only the twin's path may bring. -/
theorem Sys.mirrorOnly_of_tableCheck (h : y.tableCheck o w k v = .ok) : y.mirrorOnly w k = false := by
  unfold tableCheck at h
  split at h
  · unfold undefinedStatus at h
    repeat' split at h
    all_goals exact absurd h (by decide)
  · repeat' split at h
    all_goals first | exact absurd h (by decide) | skip
    next hm =>
      simp only [Bool.or_eq_true, not_or, Bool.not_eq_true] at hm
      exact hm.1

theorem writer_writeUnit : (writeUnit y w k v).actor = w := by
  obtain ⟨p, r, i⟩ := w
  simp [CommitUnit.actor, CommitUnit.writer, writeUnit]

/-! ## The unit of one write -/

/-- The set that a unit would make live names no fault with status OK. -/
theorem Sys.setFault_ne_ok {l : List (Nat × Bytes)} {f : Status × Option (Nat × Nat)} (h : y.setFault l = some f) : f.1 ≠ .ok := by
  unfold setFault at h
  dsimp only at h
  split at h
  next m hm =>
    cases h
    simpa using List.find?_some hm
  · split at h
    · obtain ⟨b, -, rfl⟩ := Option.map_eq_some_iff.1 h
      exact nofun
    · simp at h

/-- The check of the set for a lone member. -/
theorem Sys.setCheck_one (upTo : Nat → Sys) (m : Nat × Bytes) :
    Sys.setCheck upTo [m] = match (upTo 1).setFault [m] with | none => (.ok, 0, none) | some f => (f.1, 0, f.2) := by
  unfold setCheck
  rw [show List.range [m].length = [0] from rfl, show [m].length = 1 from rfl]
  cases h : (upTo 1).setFault [m] with
  | none => rfl
  | some f =>
    have : ([0].findSome? fun i => ((upTo (i + 1)).setFault ([m].take (i + 1))).map fun g => (i, g)) = some (0, f) := by
      simp [h]
    rw [this]

theorem Sys.prepareAll_one (y : Sys) (m : Nat × Bytes) : y.prepareAll [m] = match y.prepare m with | some z => .inr z | none => .inl 0 := rfl

/-- The commit of a lone write of an entry that takes effect at once: status, fuses and state. -/
def Sys.committed (o : Otp) (y : Sys) (k : Nat) (v : Bytes) (ctx : Nat) (r : Result) (z : Sys) : Done :=
  ⟨.ok, 0, 0, o.applyAll r.2.1, r.2.1,
    (z.raiseAhead ctx none (y.railDemand y.planned.view) (z.railDemand z.planned.view)).showRates [(k, v)]⟩

/-- A fault of the first member is the one that counts. -/
theorem firstFault_first {l : List UnitFault} {g : UnitFault} (hg : g.place = 0) :
    l.foldl (fun a f => match a with | none => some f | some g => if f.place < g.place then some f else a) (some g) = some g := by
  induction l with
  | nil => rfl
  | cons f l ih => simpa [hg] using ih

theorem firstFault_own (st : Status) (set : Status × Nat × Option (Nat × Nat)) (room : Option Nat) :
    firstFault (some (st, 0)) set room = some ⟨st, 0, none⟩ := firstFault_first rfl

theorem firstFault_set {st : Status} (hst : st ≠ .ok) (b : Option (Nat × Nat)) (room : Option Nat) :
    firstFault none (st, 0, b) room = some ⟨st, 0, b⟩ := by
  simp only [firstFault, hst, if_false]
  exact firstFault_first rfl

theorem Sys.commitMembers_one (o : Otp) (w : Writer) (lose : Nat → Bool) (m : Nat × Bytes) (y : Sys) :
    Sys.commitMembers o w lose [m] 0 [] y =
      if (y.commitMember o w m (lose m.1)).1 = .ok then
        ⟨.ok, 0, 0, o, (y.commitMember o w m (lose m.1)).2.1, (y.commitMember o w m (lose m.1)).2.2⟩
      else ⟨(y.commitMember o w m (lose m.1)).1, m.1, 1, o, [], (y.commitMember o w m (lose m.1)).2.2⟩ := rfl

/-- A lone write is committed where its own conditions hold, the set that becomes live has no fault, and its image has room. -/
theorem Sys.commitUnit_one (o : Otp) (y : Sys) (w : Writer) (k : Nat) (v : Bytes) (hk : isRwc k = false) :
    let r := y.commitMember o w (k, v) false
    let d := y.commitUnit o (writeUnit y w k v) fun _ => false
    (d.status = .ok → r.1 = .ok) ∧
    (r.1 = .ok → (d.status = .ok ↔ r.2.2.setFault [(k, v)] = none ∧ (r.2.2.prepare (k, v)).isSome = true)) ∧
    (d.status = .ok → ∀ z, r.2.2.prepare (k, v) = some z → d = y.committed o k v (y.unitCtx (writeUnit y w k v)) r z) := by
  intro r d
  have hd : d = y.commitUnit o (writeUnit y w k v) fun _ => false := rfl
  have hhome : y.unitHome (writeUnit y w k v) = .immediate := by simp [unitHome, writeUnit, hk]
  have htarget : y.targetStatus (writeUnit y w k v) = .ok := rfl
  unfold commitUnit at hd
  simp only [htarget, hhome, Scope.waits, ne_eq, not_true_eq_false, if_false, Bool.false_eq_true, Bool.not_false, List.filter_true, writer_writeUnit] at hd
  simp only [show (writeUnit y w k v).members = [(k, v)] from rfl, show (writeUnit y w k v).target = none from rfl,
    show (writeUnit y w k v).gtag = 0 from rfl, if_true, commitMembers_one, setCheck_one, prepareAll_one, List.take_succ_cons, List.take_nil] at hd
  simp only [show y.membersLeave o w (fun _ => false) [(k, v)] = if r.1 = .ok then r.2.2 else y.putEntry k v from rfl,
    show y.commitMember o w (k, v) false = r from rfl] at hd
  clear_value d r
  by_cases hr : r.1 = .ok
  · simp only [hr, if_true] at hd ⊢
    cases hf : r.2.2.setFault [(k, v)] with
    | some f =>
      have hne := setFault_ne_ok hf
      simp only [hf, firstFault_set hne] at hd
      subst hd
      simp [hne]
    | none =>
      cases hp : r.2.2.prepare (k, v) with
      | none =>
        simp only [hf, hp] at hd
        simp [hd, firstFault]
      | some z =>
        simp only [hf, hp] at hd
        simp [hd, firstFault, committed]
  · simp only [hr, if_false, Nat.sub_self, firstFault_own] at hd
    subst hd
    simp [hr]

/-! ## Writes of entries that act -/

theorem Sys.commitMember_apply (hk : isRwc k = false) (hm : y.mirrorOnly w k = false) :
    y.commitMember o w (k, v) false = y.entryApply o w k v := by
  simp [commitMember, hk, hm]

/-- A write that its unit takes is what the entry does with it, what its image asks for, and what follows a unit. -/
theorem write_spec (hw : writeOf c = some (w, k, v)) (hk : isRwc k = false) (hcur : k ≠ ent 0x1300 5) (hg : Granted s w k v)
    (hr : s.sys.entryApply s.otp w k v = r) :
    r.1 = .ok ∧ ∃ z d, r.2.2.prepare (k, v) = some z ∧ Followed z d ∧
      exec c s = .next { s with
        otp := s.otp.applyAll r.2.1, sys := Sys.resetDue ((d.storeSlot s.sys).afterUnit (writeUnit s.sys w k v, .ok, 0, 0)) } := by
  obtain ⟨⟨hphase, harr, -⟩, hok⟩ := hg
  have hm : s.sys.mirrorOnly w k = false := Sys.mirrorOnly_of_tableCheck ((Sys.arrival_ok_iff hk).1 harr).1
  obtain ⟨hown, hset, hdone⟩ := Sys.commitUnit_one s.otp s.sys w k v hk
  rw [Sys.commitMember_apply hk hm, hr] at hown hset hdone
  have hrok := hown hok
  obtain ⟨z, hz⟩ := Option.isSome_iff_exists.1 ((hset hrok).1 hok).2
  refine ⟨hrok, z, (s.sys.committed s.otp k v (s.sys.unitCtx (writeUnit s.sys w k v)) r z).sys, hz,
    (followed_raiseAhead ..).trans (followed_showRates ..), ?_⟩
  rw [exec_of_writeOf hw, writeStep, run_eq]
  simp only [Sys.writeNow, hphase, ne_eq, not_true_eq_false, if_false, harr, hcur, hdone hok z hz, Sys.committed]

/-- Where no reset is due and no store began, nothing but what follows a unit comes after the entry's own effect. -/
theorem write_follows (hw : writeOf c = some (w, k, v)) (hk : isRwc k = false) (hcur : k ≠ ent 0x1300 5) (hg : Granted s w k v)
    (hr : s.sys.entryApply s.otp w k v = r) (hp : ∀ y : Sys, y.prepare (k, v) = some y) (hdue : r.2.2.boot.due = none)
    (hsave : r.2.2.den.saving = s.sys.den.saving) :
    r.1 = .ok ∧ Completes c s fun t => Followed r.2.2 t.sys ∧ t.otp = s.otp.applyAll r.2.1 ∧ t.pending = s.pending := by
  obtain ⟨hrok, z, d, hz, hd, hexec⟩ := write_spec hw hk hcur hg hr
  obtain rfl : r.2.2 = z := Option.some_inj.1 ((hp _).symm.trans hz)
  have hden : d.den = r.2.2.den := (hd.same.1 .den (by simp)).symm
  have hstore : d.storeSlot s.sys = d := by
    rw [Sys.storeSlot, hden, hsave]
    cases s.sys.den.saving <;> rfl
  have hafter := hd.trans (followed_afterUnit d s.sys w k v .ok 0 0 (.inl rfl))
  have hboot : (d.afterUnit (writeUnit s.sys w k v, .ok, 0, 0)).boot = r.2.2.boot := (hafter.same.1 .boot (by simp)).symm
  have hreset : Sys.resetDue (d.afterUnit (writeUnit s.sys w k v, .ok, 0, 0)) = d.afterUnit (writeUnit s.sys w k v, .ok, 0, 0) := by
    rw [Sys.resetDue, hboot, hdue]
  rw [hstore, hreset] at hexec
  exact ⟨hrok, _, hexec, hafter, rfl, rfl⟩

/-! ## Entries that no rule on sets and no admission asks about -/

/-- The indexes and entries of which no rule on sets, no admission and no image asks. -/
def plainKey (k : Nat) : Prop :=
  k / 256 < 0x2488 ∨ (0x2488 ≤ k / 256 ∧ k / 256 < 0x2490 ∧ k % 256 ≠ 1) ∨ (0x3840 ≤ k / 256 ∧ k / 256 < 0x3C10) ∨
    (0x3C40 ≤ k / 256 ∧ k / 256 < 0x4000) ∨ (0x4840 ≤ k / 256 ∧ k / 256 < 0x4940) ∨ (0x4970 ≤ k / 256 ∧ k / 256 < 0x4C00) ∨
    (k / 256 = 0x4C00 ∧ k % 256 ≠ 9) ∨ (0x4C01 ≤ k / 256 ∧ k / 256 < 0x4D10)

theorem outside (i b n : Nat) (h : ¬ (b ≤ i ∧ i < b + n)) : (decide (b ≤ i) && decide (i < b + n)) = false := by
  simpa using h

theorem Sys.setRules_of_plainKey (h : plainKey k) (y : Sys) (g : Gen) : y.setRules g k = .ok := by
  unfold plainKey at h
  have hquad : (decide (0x2488 ≤ k / 256) && decide (k / 256 < 0x2488 + 8) && k % 256 == 1) = false := by
    simp only [Bool.and_eq_false_imp, Bool.and_eq_true, decide_eq_true_eq, beq_eq_false_iff_ne]
    omega
  unfold setRules
  dsimp only
  simp (disch := omega) only [outside, hquad, Bool.or_false, Bool.false_and, Bool.false_eq_true, if_false]
  rfl

theorem demandEntry_of_plainKey (h : plainKey k) (n : Nat) : demandEntry k n = false := by
  unfold plainKey at h
  unfold demandEntry
  dsimp only
  repeat rw [if_neg (by omega)]
  split
  · simp only [beq_eq_false_iff_ne]
    omega
  · simp only [Bool.and_eq_false_imp, beq_iff_eq, beq_eq_false_iff_ne]
    omega

theorem Sys.prepare_of_plainKey (h : plainKey k) (y : Sys) (v : Bytes) : y.prepare (k, v) = some y := by
  unfold plainKey at h
  simp only [prepare]
  rw [if_neg (by omega), if_neg (by omega)]

/-- The unit of such an entry is taken where the entry takes the write. -/
theorem Granted.of_plain (ha : Admitted s w k v) (hk : isRwc k = false) (hp : plainKey k) (hok : (s.sys.entryApply s.otp w k v).1 = .ok) :
    Granted s w k v := by
  refine ⟨ha, ?_⟩
  obtain ⟨-, harr, -⟩ := ha
  have hm : s.sys.mirrorOnly w k = false := Sys.mirrorOnly_of_tableCheck ((Sys.arrival_ok_iff hk).1 harr).1
  obtain ⟨-, hset, -⟩ := Sys.commitUnit_one s.otp s.sys w k v hk
  rw [Sys.commitMember_apply hk hm] at hset
  refine (hset hok).2 ⟨?_, by rw [Sys.prepare_of_plainKey hp]; rfl⟩
  simp [Sys.setFault, Sys.setRules_of_plainKey hp, demandEntry_of_plainKey hp]

/-- An entry that acts and never exceeds a budget does what it does. -/
theorem acts_of_admitted (ha : Admitted s w k v) (hk : isRwc k = false) (hr : acting s.otp s.sys w k v = some r) (hover : r.1 ≠ .overbudget) : r.1 = .ok := by
  obtain ⟨-, h⟩ := (Sys.arrival_ok_iff hk).1 ha.2.1
  rw [Sys.entryWrite, Sys.entryEffect_of_acting hr] at h
  exact h.resolve_left hover

/-- A write of a plain entry that acts is what the entry does with it, and what follows a unit. -/
theorem acting_completes (hw : writeOf c = some (w, k, v)) (ha : Admitted s w k v) (hk : isRwc k = false) (hp : plainKey k) (hcur : k ≠ ent 0x1300 5)
    (hr : acting s.otp s.sys w k v = some r) (hover : r.1 ≠ .overbudget) (hdue : r.1 = .ok → r.2.2.boot.due = none)
    (hsave : r.1 = .ok → r.2.2.den.saving = s.sys.den.saving) :
    r.1 = .ok ∧ Completes c s fun t => Followed r.2.2 t.sys ∧ t.otp = s.otp.applyAll r.2.1 ∧ t.pending = s.pending := by
  have hrok := acts_of_admitted ha hk hr hover
  have happly : s.sys.entryApply s.otp w k v = r := Sys.entryEffect_of_acting hr false
  have hg := Granted.of_plain ha hk hp (by rw [happly]; exact hrok)
  exact write_follows hw hk hcur hg happly (fun y => Sys.prepare_of_plainKey hp y v) (hdue hrok) (hsave hrok)

/-- The same, with what the entry's own action is known to leave. -/
theorem acting_does (hw : writeOf c = some (w, k, v)) (ha : Admitted s w k v) (hk : isRwc k = false) (hp : plainKey k) (hcur : k ≠ ent 0x1300 5)
    (hr : acting s.otp s.sys w k v = some r) {p : Prop}
    (h : r.1 = .ok ∨ r.1 = .overbudget → r.1 = .ok ∧ r.2.2.boot.due = s.sys.boot.due ∧ r.2.2.den.saving = s.sys.den.saving ∧ p) :
    p ∧ Completes c s fun t => Followed r.2.2 t.sys ∧ t.otp = s.otp.applyAll r.2.1 ∧ t.pending = s.pending := by
  have hstatus : r.1 = .ok ∨ r.1 = .overbudget := by
    obtain ⟨-, h⟩ := (Sys.arrival_ok_iff hk).1 ha.2.1
    rw [Sys.entryWrite, Sys.entryEffect_of_acting hr] at h
    exact h.symm
  obtain ⟨hok, hdue, hsave, hp'⟩ := h hstatus
  exact ⟨hp', (acting_completes hw ha hk hp hcur hr (by simp [hok]) (fun _ => hdue.trans ha.2.2) fun _ => hsave).2⟩

/-! ## Which entries act -/

theorem Sys.actIdentity_none {i e : Nat} (h : 0x1406 < i) : y.actIdentity o w i e v = none := by
  unfold actIdentity
  split <;> first | omega | rfl

theorem Sys.actSystem_none {i e : Nat} (h : i < 0x2003 ∨ 0x2700 < i) : y.actSystem o w i e v = none := by
  unfold actSystem
  dsimp only
  repeat rw [if_neg (by omega)]

theorem Sys.actFrame_none {i e : Nat} (h : i < 0x3000 ∨ 0x3C80 ≤ i) : y.actFrame o i e v = none := by
  unfold actFrame
  dsimp only
  repeat rw [if_neg (by omega)]

theorem Sys.actStore_none {i e : Nat} (h : i < 0x4400) : y.actStore o i e v = none := by
  unfold actStore
  dsimp only
  repeat rw [if_neg (by omega)]

theorem ent_div (i : Nat) {e : Nat} (he : e < 256) : ent i e / 256 = i := by unfold ent; omega
theorem ent_mod (i : Nat) {e : Nat} (he : e < 256) : ent i e % 256 = e := by unfold ent; omega

variable {i e : Nat}

theorem acting_identity (hi : i < 0x2003) (he : e < 256) : acting o y w (ent i e) v = y.actIdentity o w i e v := by
  simp only [acting, ent_div i he, ent_mod i he, Sys.actSystem_none (.inl hi), Sys.actFrame_none (o := o) (.inl (show i < 0x3000 by omega)),
    Sys.actStore_none (o := o) (show i < 0x4400 by omega)]
  cases y.actIdentity o w i e v <;> rfl

theorem acting_system (hi : 0x1406 < i ∧ i < 0x3000) (he : e < 256) : acting o y w (ent i e) v = y.actSystem o w i e v := by
  simp only [acting, ent_div i he, ent_mod i he, Sys.actIdentity_none hi.1, Sys.actFrame_none (o := o) (.inl hi.2),
    Sys.actStore_none (o := o) (show i < 0x4400 by omega)]
  cases y.actSystem o w i e v <;> rfl

theorem acting_frame (hi : 0x2700 < i ∧ i < 0x4400) (he : e < 256) : acting o y w (ent i e) v = y.actFrame o i e v := by
  simp only [acting, ent_div i he, ent_mod i he, Sys.actIdentity_none (show 0x1406 < i by omega), Sys.actSystem_none (.inr hi.1),
    Sys.actStore_none (o := o) hi.2]
  cases y.actFrame o i e v <;> rfl

theorem acting_store (hi : 0x3C80 ≤ i) (he : e < 256) : acting o y w (ent i e) v = y.actStore o i e v := by
  simp only [acting, ent_div i he, ent_mod i he, Sys.actIdentity_none (show 0x1406 < i by omega), Sys.actSystem_none (.inr (show 0x2700 < i by omega)),
    Sys.actFrame_none (o := o) (.inr hi)]
  rfl

end Sys2Proof.Machine
end

section
/-!
PROOFS. O33: lane bring-up goes step by step (R230, R232 to R246).
-/

namespace Sys2Proof.Machine

variable {fs : List Facet} {nums blobs : Nat → Prop} {x y z : Sys} {s : State} {o : Otp} {w : Writer}

/-! ## Octets of a value -/

theorem length_poke (b : Bytes) (i : Nat) (v : Bytes) : (poke b i v).length = b.length := by
  unfold poke
  simp only [List.length_take, List.length_append, List.length_drop]
  omega

theorem length_slice (b : Bytes) (i n : Nat) : (slice b i n).length = n := by
  unfold slice
  simp only [List.length_append, List.length_take, List.length_drop, List.length_replicate]
  omega

theorem poke_of_fits {b v : Bytes} {i : Nat} (h : i + v.length ≤ b.length) : poke b i v = b.take i ++ v ++ b.drop (i + v.length) := by
  refine List.take_of_length_le ?_
  simp only [List.length_take, List.length_append, List.length_drop]
  omega

/-- What was put at a place is read there. -/
theorem rdLe_poke_same {b v : Bytes} {i n : Nat} (hn : v.length = n) (h : i + n ≤ b.length) : rdLe (poke b i v) i n = unLe v := by
  subst hn
  have hi : (b.take i).length = i := List.length_take_of_le (by omega)
  rw [rdLe, poke_of_fits h, List.append_assoc, List.drop_left' hi, List.take_left' rfl]

/-- What lies before or behind what was put is read as before. -/
theorem rdLe_poke_apart {b v : Bytes} {i j n : Nat} (h : i + v.length ≤ b.length) (ha : j + n ≤ i ∨ i + v.length ≤ j) :
    rdLe (poke b i v) j n = rdLe b j n := by
  have hi : (b.take i).length = i := List.length_take_of_le (by omega)
  rw [rdLe, rdLe, poke_of_fits h]
  congr 1
  refine List.ext_getElem? fun m => ?_
  simp only [List.getElem?_take, List.getElem?_drop, List.getElem?_append, List.length_append, hi]
  split <;> [skip; rfl]
  rcases ha with ha | ha
  · rw [if_pos (by omega), if_pos (by omega), if_pos (by omega)]
  · rw [if_neg (by omega)]
    congr 1
    omega

/-! ## The hunt (R230) -/

/-- A step of the hunt. -/
def huntStep (p : Nat × Nat) (h : BitVec 2) : Nat × Nat := if headerOf h == .invalid then (0, p.2 + 1) else (p.1 + 1, p.2)

theorem hunt_eq (l : List (BitVec 2)) : hunt l = l.foldl huntStep (0, 0) := rfl

theorem foldl_huntStep_valid {l : List (BitVec 2)} (h : ∀ b ∈ l, headerOf b ≠ .invalid) (p : Nat × Nat) : l.foldl huntStep p = (p.1 + l.length, p.2) := by
  induction l generalizing p with
  | nil => rfl
  | cons b l ih =>
    have hb : huntStep p b = (p.1 + 1, p.2) := if_neg (by simpa using h b (List.mem_cons_self ..))
    rw [List.foldl_cons, hb, ih fun c hc => h c (List.mem_cons_of_mem _ hc), List.length_cons, Nat.add_assoc, Nat.add_comm 1]

theorem hunt_valid (l : List (BitVec 2)) (h : ∀ b ∈ l, headerOf b ≠ .invalid) : hunt l = (l.length, 0) := by
  rw [hunt_eq, foldl_huntStep_valid h, Nat.zero_add]

theorem hunt_invalid (l : List (BitVec 2)) (b : BitVec 2) (h : headerOf b = .invalid) : hunt (l ++ [b]) = (0, (hunt l).2 + 1) := by
  rw [hunt_eq, List.foldl_append, List.foldl_cons, List.foldl_nil, ← hunt_eq, huntStep, h]
  rfl

/-! ## A lane's flags -/

theorem Sys.laneHas_laneFlag (y : Sys) (n : Nat) (f : LaneFlag) (v : Bool) : (y.laneFlag n f v).laneHas n f = v := by
  simp [laneHas, laneFlag]

theorem LaneFlag.bit_injective {f g : LaneFlag} (h : f.bit = g.bit) : f = g := by
  cases f <;> cases g <;> first | rfl | exact absurd h (by decide)

/-- A flag of a lane is kept when another changes. -/
theorem Sys.laneHas_laneFlag_ne (y : Sys) {n m : Nat} {f g : LaneFlag} (h : n ≠ m ∨ f ≠ g) (v : Bool) :
    (y.laneFlag n f v).laneHas m g = y.laneHas m g := by
  simp only [laneHas, laneFlag, rdBit_eq, wrBit_eq, Sys.rd_wr]
  split
  next hk =>
    rw [testBit_putBit, if_neg, hk]
    intro hb
    rcases h with h | h
    · exact h (by unfold ent at hk; omega)
    · exact h (LaneFlag.bit_injective hb.symm)
  next => rfl

theorem sameBut_laneFlag (y : Sys) {n : Nat} (h : nums (ent (0x2400 + n) 3)) (f : LaneFlag) (v : Bool) : SameBut fs nums blobs y (y.laneFlag n f v) :=
  sameBut_wrBit _ _ _ _ h

theorem Sys.lane_laneFlag (y : Sys) (n : Nat) (f : LaneFlag) (v : Bool) (j : Nat) : (y.laneFlag n f v).lane j = y.lane j := rfl

theorem Sys.laneHas_setLane (y : Sys) (n : Nat) (u : Lane) (m : Nat) (f : LaneFlag) : (y.setLane n u).laneHas m f = y.laneHas m f := rfl

/-- A quad's function is no lane's flag. -/
theorem Sys.quadFn_laneFlag (y : Sys) (n : Fin 80) (q : Nat) (f : LaneFlag) (v : Bool) : (y.laneFlag n.val f v).quadFn q = y.quadFn q := by
  have h : (y.laneFlag n.val f v).rd (ent (0x2488 + q) 1) = y.rd (ent (0x2488 + q) 1) := (Sys.rd_wr ..).trans (if_neg (by unfold ent; omega))
  rw [quadFn, quadFn, h]

/-! ## The lanes of a quad -/

theorem mem_refLanes_quadOf (n : Fin 80) (h : 48 ≤ n.val) : n.val ∈ refLanes (8 + quadOf n.val) := by
  revert n
  decide

theorem Sys.mem_linkQuads (y : Sys) {q : Nat} (hq : q < 8) (h : y.quadFn q = .garos ∨ y.quadFn q = .felley) : q ∈ y.linkQuads q := by
  unfold linkQuads
  rcases h with h | h
  · simp only [h, List.mem_cons, List.not_mem_nil, or_false]
    omega
  · simp only [h, List.mem_filter, List.mem_range, beq_self_eq_true, and_true, hq]

/-- An enabled lane is one of its link. -/
theorem Sys.mem_linkLanes (y : Sys) (n : Fin 80) (h : 48 ≤ n.val) (hon : y.rd (ent (0x2400 + n.val) 1) ≠ 3)
    (hfn : y.quadFn (quadOf n.val) = .garos ∨ y.quadFn (quadOf n.val) = .felley) : n.val ∈ y.linkLanes (quadOf n.val) := by
  have hq : quadOf n.val < 8 := by unfold quadOf; omega
  exact List.mem_flatMap.2 ⟨_, y.mem_linkQuads hq hfn, List.mem_filter.2 ⟨mem_refLanes_quadOf n h, by simpa using hon⟩⟩

/-- A link with a lane that trains and has not heard its partner waits. -/
theorem Sys.linkRelease_waits {y : Sys} {q n : Nat} (hn : n ∈ y.linkLanes q) (hs : (y.lane n).sends = .training) (hp : (y.lane n).partner = false) :
    y.linkRelease q = y := by
  have hall : (y.linkLanes q).all (fun n => (y.lane n).sends == .traffic || ((y.lane n).sends == .training && (y.lane n).partner)) = false := by
    rw [List.all_eq_false]
    exact ⟨n, hn, by simp [hs, hp]⟩
  unfold linkRelease
  simp only [hall, Bool.and_false, Bool.not_false, if_true]

/-! ## The steps -/

theorem lanePllLocked_ingest (s : State) (n : Fin 80) (hstep : (s.sys.lane n.val).step = 2) (hn : n.val < 48) :
    Completes (.lanePllLocked n) s fun t =>
      t.sys.lane n.val = { s.sys.lane n.val with step := if s.sys.laneHas n.val .los then 3 else 4 } ∧ (∀ j, j ≠ n.val → t.sys.lane j = s.sys.lane j) ∧
      Leaves [.lanes] (only []) (only []) s t := by
  have hexec : Runs (.lanePllLocked n) s (s.sys.setLane n.val { s.sys.lane n.val with step := if s.sys.laneHas n.val .los then 3 else 4 }) := by
    simp only [Runs, exec_lanePllLocked, execLanePllLocked, onSys_eq, hstep, hn, Sys.transmit, ne_eq, not_true_eq_false, if_false, if_true]
  exact ⟨_, hexec, by simp, fun j hj => by simp [hj], leaves_of_sameBut (by simp)⟩

theorem Sys.trainSeq_lt (y : Sys) (n : Nat) : y.trainSeq n < 65536 := Nat.mod_lt _ (by decide)

/-- A link lane that was idle sends training blocks once its PLL has locked. -/
theorem Sys.transmit_trains {y : Sys} {n : Nat} (hn : 48 ≤ n) (hidle : (y.lane n).sends = .idle)
    (hfn : y.quadFn (quadOf n) = .garos ∨ y.quadFn (quadOf n) = .felley ∧ y.isShadow = false) :
    y.transmit n = Sys.trainOut (y.setLane n { y.lane n with sends := .training }) n none := by
  unfold transmit
  rw [if_neg (by omega)]
  rcases hfn with h | ⟨h, hs⟩
  · simp [h, hidle]
  · simp [h, hidle, hs]

theorem Sys.lane_trainOut (y : Sys) (n j : Nat) :
    (y.trainOut n none).lane j = if j = n then { y.lane n with seq := y.trainSeq n, seqAt := some y.up } else y.lane j := by
  have hmod : (y.trainSeq n + 0) % 65536 = y.trainSeq n := Nat.mod_eq_of_lt (trainSeq_lt ..)
  unfold trainOut
  simp only [lane_setLane, Option.getD_none, hmod]
  rfl

theorem Sys.tx_trainOut (y : Sys) (n : Nat) :
    (y.trainOut n none).tx = y.tx ++ [.training n (trainingBytes (n % 4 + 16 * (y.rd (ent (0x2488 + quadOf n) 3) % 4)) (y.laneProtocol n)
      (y.lane n).stored.isSome (y.trainSeq n)) none] := rfl

theorem sameBut_trainOut (y : Sys) (n : Nat) (c : Option Nat) (hl : .lanes ∈ fs) (ht : .tx ∈ fs) : SameBut fs nums blobs y (y.trainOut n c) := by
  unfold Sys.trainOut
  simp [hl, ht]

/-- A link lane goes on to the step after its PLL's, and then trains. -/
def Sys.pllLocked (y : Sys) (n : Nat) : Sys := y.setLane n { y.lane n with step := if y.laneHas n .los then 3 else 4 }

def Sys.pllTrains (y : Sys) (n : Nat) : Sys := (y.pllLocked n).setLane n { (y.pllLocked n).lane n with sends := .training }

theorem Sys.lane_pllLocked (y : Sys) (n : Nat) : (y.pllLocked n).lane n = { y.lane n with step := if y.laneHas n .los then 3 else 4 } :=
  (lane_setLane ..).trans (if_pos rfl)

theorem Sys.lane_pllTrains (y : Sys) (n j : Nat) :
    (y.pllTrains n).lane j = if j = n then { y.lane n with step := if y.laneHas n .los then 3 else 4, sends := .training } else y.lane j := by
  rw [pllTrains, lane_setLane, lane_pllLocked, pllLocked, lane_setLane]
  split <;> rfl

theorem Sys.trainSeq_pllTrains (y : Sys) (n : Nat) : (y.pllTrains n).trainSeq n = y.trainSeq n := by
  simp only [trainSeq, lane_pllTrains, if_true]
  rfl

theorem Sys.transmit_pllLocked {y : Sys} {n : Nat} (hn : 48 ≤ n) (hidle : (y.lane n).sends = .idle)
    (hfn : y.quadFn (quadOf n) = .garos ∨ y.quadFn (quadOf n) = .felley ∧ y.isShadow = false) :
    (y.pllLocked n).transmit n = (y.pllTrains n).trainOut n none := by
  have hsends : ((y.pllLocked n).lane n).sends = .idle := by
    rw [lane_pllLocked]
    exact hidle
  exact transmit_trains hn hsends hfn

theorem exec_lanePllLocked_link (s : State) (n : Fin 80) (hstep : (s.sys.lane n.val).step = 2) (hn : 48 ≤ n.val) :
    Runs (.lanePllLocked n) s (((s.sys.pllLocked n.val).transmit n.val).linkRelease (quadOf n.val)) := by
  simp only [Runs, exec_lanePllLocked, execLanePllLocked, onSys_eq, if_neg (not_not.2 hstep), if_neg (show ¬ n.val < 48 by omega)]
  rfl

theorem lanePllLocked_link (s : State) (n : Fin 80) (hstep : (s.sys.lane n.val).step = 2) (hn : 48 ≤ n.val) (hidle : (s.sys.lane n.val).sends = .idle)
    (hpartner : (s.sys.lane n.val).partner = false) (hon : s.sys.rd (ent (0x2400 + n.val) 1) ≠ 3)
    (hfn : s.sys.quadFn (quadOf n.val) = .garos ∨ s.sys.quadFn (quadOf n.val) = .felley ∧ s.sys.isShadow = false) :
    Completes (.lanePllLocked n) s fun t =>
      t.sys.lane n.val = { s.sys.lane n.val with
        step := if s.sys.laneHas n.val .los then 3 else 4, sends := .training, seq := s.sys.trainSeq n.val, seqAt := some s.sys.up } ∧
      t.sys.tx = s.sys.tx ++ [.training n.val (trainingBytes (n.val % 4 + 16 * (s.sys.rd (ent (0x2488 + quadOf n.val) 3) % 4)) (s.sys.laneProtocol n.val)
        (s.sys.lane n.val).stored.isSome (s.sys.trainSeq n.val)) none] ∧ (∀ j, j ≠ n.val → t.sys.lane j = s.sys.lane j) ∧
      Leaves [.lanes, .tx] (only []) (only []) s t := by
  have hlane (j : Nat) : ((s.sys.pllTrains n.val).trainOut n.val none).lane j = if j = n.val then { s.sys.lane n.val with
      step := if s.sys.laneHas n.val .los then 3 else 4, sends := .training, seq := s.sys.trainSeq n.val, seqAt := some s.sys.up }
      else s.sys.lane j := by
    rw [Sys.lane_trainOut, Sys.trainSeq_pllTrains, Sys.lane_pllTrains, if_pos rfl, Sys.lane_pllTrains]
    split <;> rfl
  have hsame : SameBut [.lanes, .tx] (only []) (only []) s.sys ((s.sys.pllTrains n.val).trainOut n.val none) :=
    (show SameBut _ _ _ _ (s.sys.pllTrains n.val) by simp [Sys.pllTrains, Sys.pllLocked]).trans (sameBut_trainOut _ _ _ (by simp) (by simp))
  have hrd (k : Nat) : ((s.sys.pllTrains n.val).trainOut n.val none).rd k = s.sys.rd k := hsame.2.1 k (by simp)
  have hmem : n.val ∈ ((s.sys.pllTrains n.val).trainOut n.val none).linkLanes (quadOf n.val) := by
    refine Sys.mem_linkLanes _ n hn (by rw [hrd]; exact hon) ?_
    rw [Sys.quadFn, hrd]
    exact hfn.imp_right And.left
  have hrelease : ((s.sys.pllTrains n.val).trainOut n.val none).linkRelease (quadOf n.val) = (s.sys.pllTrains n.val).trainOut n.val none :=
    Sys.linkRelease_waits hmem (by rw [hlane, if_pos rfl]) (by rw [hlane, if_pos rfl]; exact hpartner)
  have hexec : Runs (.lanePllLocked n) s ((s.sys.pllTrains n.val).trainOut n.val none) := by
    have h := exec_lanePllLocked_link s n hstep hn
    rwa [Sys.transmit_pllLocked hn hidle hfn, hrelease] at h
  refine ⟨_, hexec, (hlane _).trans (if_pos rfl), ?_, fun j hj => (hlane j).trans (if_neg hj), leaves_of_sameBut hsame⟩
  rw [Sys.tx_trainOut, Sys.trainSeq_pllTrains, Sys.lane_pllTrains, if_pos rfl]
  rfl

/-! ### Signal, clock and adaptation -/

theorem losClear_goesOn (s : State) (n : Fin 80) (hlos : s.sys.laneHas n.val .los = true) (hstep : (s.sys.lane n.val).step = 3) :
    Completes (.losClear n) s fun t =>
      t.sys.laneHas n.val .los = false ∧ t.sys.lane n.val = { s.sys.lane n.val with losAt := none, step := 4 } ∧
      Leaves [.lanes, .log] (only [ent (0x2400 + n.val) 3]) (only []) s t := by
  have hexec : ∃ b, Runs (.losClear n) s ((match (s.sys.lane n.val).losAt with
      | some _ => (s.sys.laneFlag n.val .los false).raise 0x0702 n.val b
      | none => s.sys.laneFlag n.val .los false).setLane n.val { s.sys.lane n.val with losAt := none, step := 4 }) := by
    simp only [Runs, exec_losClear, execLosClear, onSys_eq, hlos, hstep, Bool.not_true, Bool.false_eq_true, if_false, if_true]
    cases (s.sys.lane n.val).losAt
    · exact ⟨[], rfl⟩
    · exact ⟨_, rfl⟩
  obtain ⟨b, hexec⟩ := hexec
  refine ⟨_, hexec, ?_, by simp, leaves_of_sameBut ?_⟩
  · have hflag := s.sys.laneHas_laneFlag n.val .los false
    cases (s.sys.lane n.val).losAt with
    | none => exact hflag
    | some t => simpa [Sys.laneHas] using hflag
  · cases (s.sys.lane n.val).losAt with
    | none => simpa using sameBut_laneFlag s.sys (by simp) .los false
    | some t => simpa using sameBut_laneFlag s.sys (by simp) .los false

theorem cdrLock_goesOn (s : State) (n : Fin 80) (o : BitVec 32) (hstep : (s.sys.lane n.val).step = 4) (ho : o.toInt.natAbs ≤ 3000) :
    Completes (.cdrLock n o) s fun t =>
      t.sys.laneHas n.val .cdr = true ∧ t.sys.rd (ent (0x2400 + n.val) 0x0A) = o.toNat ∧
      t.sys.lane n.val = { s.sys.lane n.val with step := if (s.sys.lane n.val).resume then 6 else 5 } ∧
      Leaves [.lanes] (only [ent (0x2400 + n.val) 3, ent (0x2400 + n.val) 0x0A]) (only []) s t := by
  have hexec : Runs (.cdrLock n o) s (((s.sys.laneFlag n.val .cdr true).wr (ent (0x2400 + n.val) 0x0A) o.toNat).setLane n.val
      { s.sys.lane n.val with step := if (s.sys.lane n.val).resume then 6 else 5 }) := by
    simp only [Runs, exec_cdrLock, execCdrLock, onSys_eq, hstep, show ¬ 3000 < o.toInt.natAbs by omega, ne_eq, not_true_eq_false, or_self, if_false]
  refine ⟨_, hexec, ?_, by simp, by simp, leaves_of_sameBut ?_⟩
  · have hne : ent (0x2400 + n.val) 3 ≠ ent (0x2400 + n.val) 0x0A := by unfold ent; omega
    simpa [Sys.laneHas, hne] using s.sys.laneHas_laneFlag n.val .cdr true
  · simpa using sameBut_laneFlag s.sys (by simp) .cdr true

theorem cdrLock_outside (s : State) (n : Fin 80) (o : BitVec 32) (h : 3000 < o.toInt.natAbs) : Runs (.cdrLock n o) s s.sys := by
  simp only [Runs, exec_cdrLock, execCdrLock, onSys_eq, h, or_true, if_true]

/-- What an adaptation leaves of the lane's entries. -/
def Sys.adapted (y : Sys) (n : Nat) (pk : BitVec 8) (taps : BitVec 64) : Sys :=
  if y.laneHas n .frozen then y else (y.wr (ent (0x2400 + n) 8) pk.toNat).wrB (ent (0x2400 + n) 9) (le 8 taps.toNat)

theorem sameBut_adapted (y : Sys) (n : Nat) (pk : BitVec 8) (taps : BitVec 64) :
    SameBut fs (only [ent (0x2400 + n) 8]) (only [ent (0x2400 + n) 9]) y (y.adapted n pk taps) := by
  unfold Sys.adapted
  split <;> simp

theorem Sys.adapted_live (y : Sys) (n : Nat) (pk : BitVec 8) (taps : BitVec 64) (h : y.laneHas n .frozen = false) :
    (y.adapted n pk taps).rd (ent (0x2400 + n) 8) = pk.toNat ∧ (y.adapted n pk taps).rdB (ent (0x2400 + n) 9) = le 8 taps.toNat := by
  unfold adapted
  rw [h]
  simp

theorem adaptationDone_goesOn (s : State) (n : Fin 80) (pk : BitVec 8) (taps : BitVec 64) (hstep : (s.sys.lane n.val).step = 5)
    (hok : equaliserOk pk.toNat (le 8 taps.toNat) = true) :
    Completes (.adaptationDone n pk taps) s fun t =>
      t.sys.lane n.val = { s.sys.lane n.val with step := 6 } ∧
      (s.sys.laneHas n.val .frozen = false → t.sys.rd (ent (0x2400 + n.val) 8) = pk.toNat ∧ t.sys.rdB (ent (0x2400 + n.val) 9) = le 8 taps.toNat) ∧
      (s.sys.laneHas n.val .frozen = true → Leaves [.lanes] (only []) (only []) s t) ∧
      Leaves [.lanes] (only [ent (0x2400 + n.val) 8]) (only [ent (0x2400 + n.val) 9]) s t := by
  have hexec : Runs (.adaptationDone n pk taps) s ((s.sys.adapted n.val pk taps).setLane n.val { s.sys.lane n.val with step := 6 }) := by
    simp only [Runs, exec_adaptationDone, execAdaptationDone, onSys_eq, hstep, hok, decide_true, Bool.true_or, Bool.not_true, Bool.or_self,
      Bool.false_eq_true, if_false, if_true]
    rfl
  refine ⟨_, hexec, by simp, fun h => s.sys.adapted_live n.val pk taps h, fun h => leaves_of_sameBut ?_, leaves_of_sameBut ?_⟩
  · have : s.sys.adapted n.val pk taps = s.sys := if_pos h
    rw [this]
    simp
  · simpa using sameBut_adapted s.sys n.val pk taps

theorem adaptationDone_active (s : State) (n : Fin 80) (pk : BitVec 8) (taps : BitVec 64) (hactive : s.sys.laneIs n.val .active = true)
    (hstep : (s.sys.lane n.val).step ≠ 5) (hok : equaliserOk pk.toNat (le 8 taps.toNat) = true) (hlive : s.sys.laneHas n.val .frozen = false) :
    Completes (.adaptationDone n pk taps) s fun t =>
      t.sys.rd (ent (0x2400 + n.val) 8) = pk.toNat ∧ t.sys.rdB (ent (0x2400 + n.val) 9) = le 8 taps.toNat ∧
      Leaves [] (only [ent (0x2400 + n.val) 8]) (only [ent (0x2400 + n.val) 9]) s t := by
  have hexec : Runs (.adaptationDone n pk taps) s (s.sys.adapted n.val pk taps) := by
    simp only [Runs, exec_adaptationDone, execAdaptationDone, onSys_eq, hstep, hok, hactive, decide_false, Bool.or_true, Bool.not_true, Bool.or_self,
      Bool.false_eq_true, if_false]
    rfl
  obtain ⟨hpk, htaps⟩ := s.sys.adapted_live n.val pk taps hlive
  exact ⟨_, hexec, hpk, htaps, leaves_of_sameBut (sameBut_adapted ..)⟩

/-! ### Block lock -/

/-- The lane's record after a hunt. -/
def hunted (u : Lane) (h : List (BitVec 2)) : Lane := { u with slip := (u.slip + (hunt h).2) % 66, quick := false }

theorem hunted_steady {u : Lane} (hq : u.quick = false) (h : List (BitVec 2)) : hunted u h = { u with slip := (u.slip + (hunt h).2) % 66 } := by
  rw [hunted, ← hq]

theorem blockLock_hunts (s : State) (n : Fin 80) (h : List (BitVec 2)) (hstep : (s.sys.lane n.val).step = 6)
    (hq : (s.sys.lane n.val).quick = false ∨ 4 ≤ h.length ∧ invalidHeaders (h.take 4) ≠ 0) :
    Runs (.blockLock n h) s (if (hunt h).1 < 64 then (s.sys.setLane n.val (hunted (s.sys.lane n.val) h)).laneFlag n.val .block false
      else s.sys.blockLocked n.val (hunted (s.sys.lane n.val) h)) := by
  have hwait : ¬ ((s.sys.lane n.val).step ≠ 6 ∨ (s.sys.lane n.val).quick = true ∧ h.length < 4) := by
    rintro (hs | ⟨hq', hl⟩)
    · exact hs hstep
    rcases hq with hq | ⟨hq, -⟩
    · simp [hq] at hq'
    · omega
  have hfour : ¬ ((s.sys.lane n.val).quick = true ∧ invalidHeaders (h.take 4) = 0) := by
    rintro ⟨hq', hl⟩
    rcases hq with hq | ⟨-, hq⟩
    · simp [hq] at hq'
    · exact hq hl
  simp only [Runs, exec_blockLock, execBlockLock, onSys_eq, if_neg hwait, if_neg hfour]
  rfl

theorem blockLock_trains (s : State) (n : Fin 80) (h : List (BitVec 2)) (hstep : (s.sys.lane n.val).step = 6) (hq : (s.sys.lane n.val).quick = false)
    (hmap : (s.sys.lane n.val).stored = none ∨ (s.sys.lane n.val).fresh = true) (hfn : n.val < 48 ∨ s.sys.quadFn (quadOf n.val) ≠ .prbs)
    (h64 : 64 ≤ (hunt h).1) :
    Completes (.blockLock n h) s fun t =>
      t.sys.laneHas n.val .block = true ∧
      t.sys.lane n.val = { s.sys.lane n.val with step := 7, slip := ((s.sys.lane n.val).slip + (hunt h).2) % 66 } ∧
      Leaves [.lanes] (only [ent (0x2400 + n.val) 3]) (only []) s t := by
  have hexec := blockLock_hunts s n h hstep (.inl hq)
  have hlocked : s.sys.blockLocked n.val (hunted (s.sys.lane n.val) h) =
      (s.sys.laneFlag n.val .block true).setLane n.val { hunted (s.sys.lane n.val) h with step := 7 } := by
    refine if_neg ?_
    rintro (⟨h1, h2⟩ | ⟨h1, h2⟩)
    · simp only [hunted] at h1 h2
      rcases hmap with hm | hm
      · simp [hm] at h1
      · simp [hm] at h2
    · rcases hfn with hl | hl
      · omega
      · exact hl ((s.sys.quadFn_laneFlag n (quadOf n.val) .block true).symm.trans h2)
  rw [if_neg (by omega), hlocked] at hexec
  refine ⟨_, hexec, Sys.laneHas_laneFlag .., ?_, leaves_of_sameBut ?_⟩
  · rw [Sys.lane_setLane, if_pos rfl, hunted_steady hq]
  · simpa using sameBut_laneFlag s.sys (by simp) .block true

theorem blockLock_slips (s : State) (n : Fin 80) (h : List (BitVec 2)) (hstep : (s.sys.lane n.val).step = 6) (h64 : (hunt h).1 < 64)
    (hq : (s.sys.lane n.val).quick = false ∨ 4 ≤ h.length ∧ invalidHeaders (h.take 4) ≠ 0) :
    Completes (.blockLock n h) s fun t =>
      t.sys.laneHas n.val .block = false ∧
      t.sys.lane n.val = { s.sys.lane n.val with slip := ((s.sys.lane n.val).slip + (hunt h).2) % 66, quick := false } ∧
      Leaves [.lanes] (only [ent (0x2400 + n.val) 3]) (only []) s t := by
  have hexec := blockLock_hunts s n h hstep hq
  rw [if_pos h64] at hexec
  refine ⟨_, hexec, Sys.laneHas_laneFlag .., ?_, leaves_of_sameBut ?_⟩
  · rw [Sys.lane_laneFlag, Sys.lane_setLane, if_pos rfl, hunted]
  · exact (show SameBut _ _ _ _ (s.sys.setLane n.val _) by simp).trans (sameBut_laneFlag _ (by simp) .block false)

/-- A lane that holds a map it may use is ready once its blocks are locked. -/
theorem Sys.blockLocked_ready (y : Sys) (n : Nat) (u : Lane) (hmap : u.stored ≠ none) (hfresh : u.fresh = false) :
    y.blockLocked n u = Sys.lanesReady ((y.laneFlag n .block true).setLane n { u with step := 8 }) n := by
  have h : (u.stored.isSome = true ∧ (!u.fresh) = true) ∨ (48 ≤ n ∧ (y.laneFlag n .block true).quadFn (quadOf n) = .prbs) :=
    .inl ⟨Option.isSome_iff_ne_none.2 hmap, by simp [hfresh]⟩
  exact if_pos h

theorem blockLock_delivers (s : State) (n : Fin 80) (h : List (BitVec 2)) (hstep : (s.sys.lane n.val).step = 6) (hq : (s.sys.lane n.val).quick = false)
    (hmap : (s.sys.lane n.val).stored ≠ none) (hfresh : (s.sys.lane n.val).fresh = false) (h64 : 64 ≤ (hunt h).1) :
    Runs (.blockLock n h) s (Sys.lanesReady ((s.sys.laneFlag n.val .block true).setLane n.val
      { s.sys.lane n.val with step := 8, slip := ((s.sys.lane n.val).slip + (hunt h).2) % 66 }) n.val) := by
  have hexec := blockLock_hunts s n h hstep (.inl hq)
  rwa [if_neg (by omega), Sys.blockLocked_ready s.sys n.val (hunted (s.sys.lane n.val) h) hmap hfresh, hunted_steady hq] at hexec

theorem blockLock_leavesQuiet (s : State) (n : Fin 80) (h : List (BitVec 2)) (hstep : (s.sys.lane n.val).step = 6) (hq : (s.sys.lane n.val).quick = true)
    (hlen : 4 ≤ h.length) (hvalid : invalidHeaders (h.take 4) = 0) (hmap : (s.sys.lane n.val).stored ≠ none) (hfresh : (s.sys.lane n.val).fresh = false) :
    Runs (.blockLock n h) s (Sys.lanesReady ((s.sys.laneFlag n.val .block true).setLane n.val { s.sys.lane n.val with step := 8 }) n.val) := by
  have hwait : ¬ ((s.sys.lane n.val).step ≠ 6 ∨ (s.sys.lane n.val).quick = true ∧ h.length < 4) := by omega
  rw [← Sys.blockLocked_ready _ _ _ hmap hfresh]
  simp only [Runs, exec_blockLock, execBlockLock, onSys_eq, if_neg hwait, if_pos (And.intro hq hvalid)]

/-! ### Retry -/

/-- The record of a lane that waits for its PLL again. -/
def Sys.retried (y : Sys) (n : Nat) : Lane := { y.lane n with
  step := 2, resume := false, heard := none, round := 0, quick := false, prbs := none, partner := false, sends := .idle, seq := y.trainSeq n,
  seqAt := none }

theorem laneBringupRetry_restarts (s : State) (n : Fin 80) (hstep : (s.sys.lane n.val).step = 4 ∨ (s.sys.lane n.val).step = 6)
    (hreq : s.sys.rd (ent (0x2400 + n.val) 1) = 0) (hup : s.sys.laneIs n.val .bringup = true) :
    Completes (.laneBringupRetry n) s fun t =>
      t.sys.lane n.val = { s.sys.lane n.val with
        step := 2, resume := false, heard := none, round := 0, quick := false, prbs := none, partner := false, sends := .idle,
        seq := s.sys.trainSeq n.val, seqAt := none } ∧
      t.sys.laneHas n.val .cdr = false ∧ t.sys.laneHas n.val .block = false ∧ Leaves [.lanes] (only [ent (0x2400 + n.val) 3]) (only []) s t := by
  have hactive : s.sys.laneIs n.val .active = false := by
    have h4 : s.sys.rd (ent (0x2400 + n.val) 2) = 4 := by simpa [Sys.laneIs, LaneState.code] using hup
    simp [Sys.laneIs, h4, LaneState.code]
  let y := ((s.sys.setLane n.val (s.sys.retried n.val)).laneFlag n.val .block false).laneFlag n.val .hiBer false
  have hexec : Runs (.laneBringupRetry n) s (y.laneFlag n.val .cdr false) := by
    have hbringup : (y.laneFlag n.val .cdr false).laneIs n.val .bringup = true := by
      have : (y.laneFlag n.val .cdr false).rd (ent (0x2400 + n.val) 2) = s.sys.rd (ent (0x2400 + n.val) 2) := by simp [y, Sys.laneFlag]
      rw [Sys.laneIs, this]
      exact hup
    have hlost : s.sys.laneLost n.val 2 false = y.laneFlag n.val .cdr false := by
      have hdown : ((s.sys.lane n.val).downAt <|> none) = (s.sys.lane n.val).downAt := by cases (s.sys.lane n.val).downAt <;> rfl
      simp only [Sys.laneLost, hactive, hdown, Nat.le_refl, show (2 : Nat) ≤ 4 by decide, Nat.lt_irrefl, decide_false, Bool.false_and, Bool.false_eq_true,
        if_true, if_false]
      exact if_pos hbringup
    simp only [Runs, exec_laneBringupRetry, execLaneBringupRetry, onSys_eq, if_pos (And.intro hstep hreq), hlost]
  refine ⟨_, hexec, ?_, Sys.laneHas_laneFlag .., ?_, leaves_of_sameBut ?_⟩
  · change (s.sys.setLane n.val (s.sys.retried n.val)).lane n.val = _
    rw [Sys.lane_setLane, if_pos rfl, Sys.retried]
  · rw [Sys.laneHas_laneFlag_ne _ (.inr (by decide)), Sys.laneHas_laneFlag_ne _ (.inr (by decide)), Sys.laneHas_laneFlag]
  · refine SameBut.trans ?_ (sameBut_laneFlag _ (by simp) .cdr false)
    refine SameBut.trans ?_ (sameBut_laneFlag _ (by simp) .hiBer false)
    exact (show SameBut _ _ _ _ (s.sys.setLane n.val _) by simp).trans (sameBut_laneFlag _ (by simp) .block false)

/-! ### Eye scans (R246) -/

theorem isRwc_eyeScan (n : Fin 80) : isRwc (ent (0x2400 + n.val) 0x0E) = false := by
  revert n
  decide +kernel

theorem acting_eyeScan (o : Otp) (y : Sys) (w : Writer) (n : Fin 80) (r : Bytes) :
    acting o y w (ent (0x2400 + n.val) 0x0E) r = some (plainR (y.eyeScan n.val r)) := by
  rw [acting_system (by omega) (by decide)]
  unfold Sys.actSystem
  dsimp only
  repeat rw [if_neg (by omega)]
  rw [if_pos (by omega), Nat.add_sub_cancel_left]
  rfl

theorem Sys.eyeScan_ok {y : Sys} {n : Nat} {r : Bytes} (h : (y.eyeScan n r).1 = .ok ∨ (y.eyeScan n r).1 = .overbudget) :
    y.eyeScan n r = (.ok, y.wrB (ent (0x2400 + n) 0x0F) (pack 24 [(0, 1, 1), (1, 1, rdLe r 0 1), (2, 1, rdLe r 1 1)])) ∧
      y.laneIs n .active = true ∧ r.length = 8 ∧ rdLe r 2 2 = 0 ∧ 1 ≤ rdLe r 4 4 ∧ rdLe r 4 4 ≤ 10000000 := by
  unfold eyeScan at h ⊢
  dsimp only at h ⊢
  split at h
  · simp at h
  next hlen =>
    split at h
    · simp at h
    next hrange =>
      split at h
      · simp at h
      next hactive =>
        simp only [Bool.not_eq_true, Bool.not_eq_false'] at hactive
        rw [if_neg hlen, if_neg hrange, if_neg (by simp [hactive])]
        exact ⟨rfl, hactive, by omega, by omega, by omega, by omega⟩

theorem eyeScan_of_arrival {n : Fin 80} {r : Bytes} (h : (s.sys.arrival s.otp w (ent (0x2400 + n.val) 0x0E) r).1 = .ok) :
    (s.sys.eyeScan n.val r).1 = .ok ∨ (s.sys.eyeScan n.val r).1 = .overbudget := by
  obtain ⟨-, h⟩ := (Sys.arrival_ok_iff (isRwc_eyeScan n)).1 h
  rw [Sys.entryWrite, Sys.entryEffect_of_acting (acting_eyeScan ..)] at h
  exact h.symm

theorem plainKey_eyeScan (n : Fin 80) : plainKey (ent (0x2400 + n.val) 0x0E) := by
  unfold plainKey
  rw [ent_div _ (by decide)]
  omega

theorem eyeScanRequest_starts (s : State) (w : Writer) (n : Fin 80) (r : Bytes) (ha : Admitted s w (ent (0x2400 + n.val) 0x0E) r) :
    Completes (.eyeScanRequest w n r) s fun t =>
      t.sys.rdB (ent (0x2400 + n.val) 0x0F) = pack 24 [(0, 1, 1), (1, 1, rdLe r 0 1), (2, 1, rdLe r 1 1)] ∧ t.sys.lanes = s.sys.lanes ∧
      t.otp = s.otp ∧ t.pending = s.pending := by
  obtain ⟨heq, -⟩ := Sys.eyeScan_ok (eyeScan_of_arrival ha.2.1)
  obtain ⟨-, t, hexec, hfollow, hotp, hpending⟩ := acting_completes (c := .eyeScanRequest w n r) rfl ha (isRwc_eyeScan n) (plainKey_eyeScan n)
    (by unfold ent; omega) (acting_eyeScan ..) (by simp [plainR, heq]) (by simpa [plainR, heq] using ha.2.2) (by simp [plainR, heq])
  rw [heq] at hfollow hotp
  refine ⟨t, hexec, ?_, (hfollow.same.1 .lanes (by simp)).symm, hotp, hpending⟩
  rw [hfollow.rdB_eq]
  exact (Sys.rdB_wrB ..).trans (if_pos rfl)

theorem unLe_word (m : BitVec 64) : (le 8 m.toNat).length = 8 ∧ unLe (le 8 m.toNat) = m.toNat :=
  ⟨by simp [le_length], by rw [unLe_le]; exact Nat.mod_eq_of_lt m.isLt⟩

/-- The result of a scan: its status and its two counts. -/
theorem eyeResult {v : Bytes} (hv : v.length = 24) (a b : BitVec 64) :
    let r := poke (poke (poke v 0 [2]) 8 (le 8 a.toNat)) 16 (le 8 b.toNat)
    rdLe r 0 1 = 2 ∧ rdLe r 8 8 = a.toNat ∧ rdLe r 16 8 = b.toNat := by
  obtain ⟨hla, hua⟩ := unLe_word a
  obtain ⟨hlb, hub⟩ := unLe_word b
  generalize le 8 a.toNat = va at hla hua ⊢
  generalize le 8 b.toNat = vb at hlb hub ⊢
  have h1 : (poke v 0 [2]).length = 24 := (length_poke ..).trans hv
  have h2 : (poke (poke v 0 [2]) 8 va).length = 24 := (length_poke ..).trans h1
  refine ⟨?_, ?_, ?_⟩
  · rw [rdLe_poke_apart (by omega) (.inl (by omega)), rdLe_poke_apart (by omega) (.inl (by omega))]
    exact rdLe_poke_same (v := [2]) rfl (by omega)
  · rw [rdLe_poke_apart (by omega) (.inl (by omega)), rdLe_poke_same hla (by omega), hua]
  · rw [rdLe_poke_same hlb (by omega), hub]

theorem eyeScanDone_counts (s : State) (n : Fin 80) (a b : BitVec 64) (h : rdLe (s.sys.rdB (ent (0x2400 + n.val) 0x0F)) 0 1 = 1) :
    Completes (.eyeScanDone n a b) s fun t =>
      let v := t.sys.rdB (ent (0x2400 + n.val) 0x0F)
      rdLe v 0 1 = 2 ∧ rdLe v 8 8 = a.toNat ∧ rdLe v 16 8 = b.toNat ∧ Leaves [] (only []) (only [ent (0x2400 + n.val) 0x0F]) s t := by
  have hexec : Runs (.eyeScanDone n a b) s (s.sys.wrB (ent (0x2400 + n.val) 0x0F)
      (poke (poke (poke (slice (s.sys.rdB (ent (0x2400 + n.val) 0x0F)) 0 24) 0 [2]) 8 (le 8 a.toNat)) 16 (le 8 b.toNat))) := by
    simp only [Runs, exec_eyeScanDone, execEyeScanDone, onSys_eq, if_neg (not_not.2 h)]
  have hlen : (slice (s.sys.rdB (ent (0x2400 + n.val) 0x0F)) 0 24).length = 24 := length_slice ..
  generalize slice (s.sys.rdB (ent (0x2400 + n.val) 0x0F)) 0 24 = v at hexec hlen
  obtain ⟨hstatus, hcompared, hmismatches⟩ := eyeResult hlen a b
  have hread (r : Bytes) : (s.sys.wrB (ent (0x2400 + n.val) 0x0F) r).rdB (ent (0x2400 + n.val) 0x0F) = r := (Sys.rdB_wrB ..).trans (if_pos rfl)
  refine ⟨_, hexec, ?_, ?_, ?_, leaves_of_sameBut (by simp)⟩
  · rw [hread]; exact hstatus
  · rw [hread]; exact hcompared
  · rw [hread]; exact hmismatches

/-- Settles O33. -/
theorem laneBringUpGoesStepByStep : Obligations.LaneBringUpGoesStepByStep :=
  ⟨lanePllLocked_ingest, lanePllLocked_link, losClear_goesOn, cdrLock_goesOn, cdrLock_outside, adaptationDone_goesOn, adaptationDone_active,
    blockLock_trains, blockLock_delivers, blockLock_leavesQuiet, blockLock_slips, hunt_valid, hunt_invalid, laneBringupRetry_restarts,
    eyeScanRequest_starts, fun _ _ _ _ h => (Sys.eyeScan_ok (eyeScan_of_arrival h)).2, eyeScanDone_counts⟩

end Sys2Proof.Machine
end

section
/-!
PROOFS. O27: the stored items that writes with rows of their own leave (R124, R129, R176, R188 to R192, R371, R755).
-/

namespace Sys2Proof.Machine

variable {fs : List Facet} {nums blobs : Nat → Prop} {x y z : Sys} {s : State} {o : Otp} {w : Writer} {v : Bytes} {r : Result}

/-! ## Numbers that commands carry -/

theorem unLe_toNat {n : Nat} (b : BitVec n) (k : Nat) (hk : n ≤ 8 * k) : unLe (le k b.toNat) = b.toNat := by
  rw [unLe_le]
  refine Nat.mod_eq_of_lt (lt_of_lt_of_le b.isLt ?_)
  rw [show (256 : Nat) = 2 ^ 8 from rfl, ← pow_mul]
  exact Nat.pow_le_pow_right (by decide) hk

/-! ## Credentials (R176) -/

theorem sameBut_closeByCredential (y : Sys) (ids : List Nat) (hd : .den ∈ fs) (hn : nums (ent 0x1103 1)) :
    SameBut fs nums blobs y (y.closeByCredential ids).2 := by
  unfold Sys.closeByCredential
  simp [hd, hn]

theorem sameBut_credGone (y : Sys) (ids : List Nat) (id : Nat) (hd : .den ∈ fs) (hl : .log ∈ fs) (hn : nums (ent 0x1103 1)) :
    SameBut fs nums blobs y (y.credGone ids id) := by
  unfold Sys.credGone
  exact (sameBut_closeByCredential y ids hd hn).trans (by simp [hl])

theorem saving_credGone (y : Sys) (ids : List Nat) (id : Nat) : (y.credGone ids id).den.saving = y.den.saving := by
  unfold Sys.credGone
  exact (congrArg Denval.saving (Sys.raise_den ..)).trans rfl

theorem Sys.writeCredential_spec {i : Nat} (hr : y.writeCredential o w i v = r) (h : r.1 = .ok ∨ r.1 = .overbudget) :
    r.1 = .ok ∧ r.2.2.boot.due = y.boot.due ∧ r.2.2.den.saving = y.den.saving ∧ r.2.1 = [] ∧ r.2.2.rdB (ent 0x1210 (i + 1)) = v := by
  unfold writeCredential at hr
  dsimp only at hr
  split at hr
  · subst hr; simp [refuse] at h
  split at hr
  next hempty =>
    rw [List.isEmpty_iff.1 hempty]
    split at hr
    next hold => subst hr; exact ⟨rfl, rfl, rfl, rfl, List.isEmpty_iff.1 hold⟩
    next =>
      subst hr
      generalize hz : ((y.wrB (ent 0x1210 (i + 1)) []).raise 0x0507 255 _) = z
      have hsame := sameBut_credGone (fs := [.den, .log]) (nums := only [ent 0x1103 1]) (blobs := only []) z (y.credTree 64 [credId (y.rdB (ent 0x1210 (i + 1)))])
        (credId (y.rdB (ent 0x1210 (i + 1)))) (by simp) (by simp) (by simp)
      refine ⟨rfl, ?_, ?_, rfl, ?_⟩
      · exact congrArg Boot.due ((hsame.1 .boot (by simp)).symm.trans (by rw [← hz]; simp))
      · exact (saving_credGone ..).trans (by rw [← hz]; simp)
      · rw [hsame.2.2 _ (by simp), ← hz]; simp
  next =>
    split at hr
    · subst hr; simp [refuse] at h
    split at hr
    · subst hr; simp [refuse] at h
    subst hr
    simp

/-- What a revocation leaves. -/
theorem Sys.revoke_spec {n : Nat} (hr : y.revoke n = r) (h : r.1 = .ok ∨ r.1 = .overbudget) :
    r.1 = .ok ∧ r.2.2.boot.due = y.boot.due ∧ r.2.2.den.saving = y.den.saving ∧ r.2.1 = [] ∧ n ∈ r.2.2.mram.revoked := by
  unfold revoke at hr
  dsimp only at hr
  split at hr
  · subst hr; simp [refuse] at h
  split at hr
  next hin => subst hr; exact ⟨rfl, rfl, rfl, rfl, by simpa using hin⟩
  split at hr
  · subst hr; simp [refuse] at h
  generalize hz : Sys.wr { y with mram := { y.mram with revoked := y.mram.revoked ++ [n] } } (ent 0x1211 2) (y.mram.revoked ++ [n]).length = z at hr
  subst hr
  have hsame := sameBut_credGone (fs := [.den, .log]) (nums := only [ent 0x1103 1]) (blobs := only []) z (y.credTree 64 [n]) n (by simp) (by simp) (by simp)
  refine ⟨rfl, ?_, ?_, rfl, ?_⟩
  · exact congrArg Boot.due ((hsame.1 .boot (by simp)).symm.trans (by rw [← hz]; rfl))
  · exact (saving_credGone ..).trans (by rw [← hz]; rfl)
  · rw [← (hsame.1 .mram (by simp) : z.mram = _), ← hz]
    simp

/-! ## Images, recipients and the nonce (R188 to R192, R371) -/

theorem Sys.writeRecipient_spec {i : Nat} (hr : y.writeRecipient i v = r) (h : r.1 = .ok ∨ r.1 = .overbudget) :
    r.1 = .ok ∧ r.2.2.boot.due = y.boot.due ∧ r.2.2.den.saving = y.den.saving ∧ r.2.1 = [] ∧ r.2.2.rdB (ent 0x1404 (i + 2)) = v := by
  unfold writeRecipient at hr
  split at hr
  · subst hr; simp [refuse] at h
  subst hr
  simp [recipientsChanged]

theorem Sys.writeEncryption_spec {n : Nat} (hr : y.writeEncryption n = r) (h : r.1 = .ok ∨ r.1 = .overbudget) :
    r.1 = .ok ∧ r.2.2.boot.due = y.boot.due ∧ r.2.2.den.saving = y.den.saving ∧ r.2.1 = [] ∧ r.2.2.rd (ent 0x1404 1) = n := by
  unfold writeEncryption at hr
  split at hr
  · subst hr; simp [refuse] at h
  subst hr
  simp [recipientsChanged]

theorem Sys.attest_spec (hr : y.attest v = r) (h : r.1 = .ok ∨ r.1 = .overbudget) :
    r.1 = .ok ∧ r.2.2.boot.due = y.boot.due ∧ r.2.2.den.saving = y.den.saving ∧ r.2.1 = [] ∧ r.2.2.sec.nonce = some v := by
  unfold attest at hr
  split at hr
  · subst hr; simp [refuse] at h
  subst hr
  exact ⟨rfl, rfl, rfl, rfl, rfl⟩

theorem sameBut_showResident (y : Sys) (h1 : nums (ent 0x3880 2)) (h2 : nums (ent 0x3880 3)) (h3 : nums (ent 0x3880 4)) :
    SameBut fs nums blobs y y.showResident := by
  unfold Sys.showResident
  simp [h1, h2, h3]

/-- What an image that becomes resident leaves alone. -/
theorem sameBut_makeResident {i : Nat} (h : y.makeResident i = some z) :
    SameBut [.resident, .engines] (only [ent 0x3880 2, ent 0x3880 3, ent 0x3880 4]) (only []) y z := by
  unfold Sys.makeResident at h
  split at h
  · cases h; exact .refl y
  · obtain ⟨p, -, rfl⟩ := Option.map_eq_some_iff.1 h
    refine SameBut.trans ?_ (sameBut_showResident _ (by simp) (by simp) (by simp))
    refine SameBut.trans (b := { y with resident := y.resident ++ [p] }) (.of_facets rfl rfl fun p hp => by cases p with | resident => simp at hp | _ => rfl) ?_
    exact SameBut.foldl _ _ (fun z p _ => by simp) _

theorem sameBut_showImage (y : Sys) (i : Nat) (img : Bytes) (n : Nat) (hn : ∀ e ∈ [3, 4, 5, 6], nums (ent (0x3840 + i) e))
    (hb : ∀ e ∈ [1, 2], blobs (ent (0x3840 + i) e)) : SameBut fs nums blobs y (y.showImage i img n) := by
  unfold Sys.showImage
  simp [hn, hb]

theorem Sys.rdB_showImage (y : Sys) (i : Nat) (img : Bytes) (n : Nat) : (y.showImage i img n).rdB (ent (0x3840 + i) 1) = img := by
  unfold showImage
  simp

/-- An image in its slot, with whatever becomes resident after it. -/
theorem imageWritten {i : Nat} {img : Bytes} {n : Nat} {l : List Resident}
    (h : SameBut [.resident, .engines] (only [ent 0x3880 2, ent 0x3880 3, ent 0x3880 4]) (only []) (Sys.showImage { y with resident := l } i img n) z) :
    z.boot.due = y.boot.due ∧ z.den.saving = y.den.saving ∧ z.rdB (ent (0x3840 + i) 1) = img := by
  have hshow : SameBut [] (fun _ => True) (fun _ => True) { y with resident := l } (Sys.showImage { y with resident := l } i img n) :=
    sameBut_showImage _ _ _ _ (fun _ _ => trivial) (fun _ _ => trivial)
  refine ⟨?_, ?_, ?_⟩
  · exact congrArg Boot.due ((h.1 .boot (by simp)).symm.trans (hshow.1 .boot (by simp)).symm)
  · exact congrArg Denval.saving ((h.1 .den (by simp)).symm.trans (hshow.1 .den (by simp)).symm)
  · exact (h.2.2 _ (by simp)).trans (Sys.rdB_showImage ..)

theorem Sys.writeImage_spec {i : Nat} (hr : y.writeImage o i v = r) (h : r.1 = .ok ∨ r.1 = .overbudget) :
    r.1 = .ok ∧ r.2.2.boot.due = y.boot.due ∧ r.2.2.den.saving = y.den.saving ∧ r.2.1 = [] ∧ r.2.2.rdB (ent (0x3840 + i) 1) = v := by
  unfold writeImage at hr
  dsimp only at hr
  split at hr
  · subst hr; simp [refuse] at h
  split at hr
  · subst hr; simp [refuse] at h
  split at hr
  next hempty =>
    subst hr
    obtain ⟨hdue, hsave, himg⟩ := imageWritten (y := y) (i := i) (img := []) (n := 0) (sameBut_showResident _ (by simp) (by simp) (by simp))
    exact ⟨rfl, hdue, hsave, rfl, himg.trans (List.isEmpty_iff.1 hempty).symm⟩
  split at hr
  · subst hr; simp at h
  split at hr
  · subst hr
    obtain ⟨hdue, hsave, himg⟩ := imageWritten (y := y) (i := i) (sameBut_showResident _ (by simp) (by simp) (by simp))
    exact ⟨rfl, hdue, hsave, rfl, himg⟩
  split at hr
  next z hz =>
    subst hr
    obtain ⟨hdue, hsave, himg⟩ := imageWritten (y := y) (i := i) (sameBut_makeResident hz)
    exact ⟨rfl, hdue, hsave, rfl, himg⟩
  next => subst hr; simp [refuse] at h

/-! ## The event log (R755) -/

theorem Sys.eraseLog_spec {n : Nat} :
    (y.eraseLog n).boot.due = y.boot.due ∧ (y.eraseLog n).den.saving = y.den.saving ∧ (y.eraseLog n).mram.ring = [] ∧
      (y.eraseLog n).rd (ent 0x1300 2) = y.rd (ent 0x1300 1) ∧ (y.eraseLog n).log.pending.head?.map (·.code) = some 0x0133 := by
  refine ⟨rfl, rfl, rfl, ?_, rfl⟩
  change ((y.wr (ent 0x1300 2) (y.rd (ent 0x1300 1))).wr (ent 0x1300 4) (y.rd (ent 0x1300 1))).rd (ent 0x1300 2) = _
  simp

/-! ## The commands -/

theorem credentialWrite_stores (c : Instr) (s : State) (w : Writer) (i : Fin 64) (v : Bytes) (hw : writeOf c = some (w, ent 0x1210 (i.val + 1), v))
    (ha : Admitted s w (ent 0x1210 (i.val + 1)) v) : Completes c s fun t => t.sys.rdB (ent 0x1210 (i.val + 1)) = v ∧ t.otp = s.otp := by
  have hk : ∀ i : Fin 64, isRwc (ent 0x1210 (i.val + 1)) = false := by decide +kernel
  have hr : acting s.otp s.sys w (ent 0x1210 (i.val + 1)) v = some (s.sys.writeCredential s.otp w i.val v) := by
    rw [acting_identity (by decide) (by omega)]
    rfl
  obtain ⟨⟨hops, hread⟩, t, hexec, hfollow, hotp, -⟩ := acting_does hw ha (hk i)
    (.inl (by rw [ent_div _ (by omega)]; decide)) (by unfold ent; omega) hr (Sys.writeCredential_spec rfl)
  exact ⟨t, hexec, (hfollow.rdB_eq _).trans hread, by rw [hotp, hops]; rfl⟩

theorem credentialRevoke_lists (s : State) (w : Writer) (id : BitVec 32) (ha : Admitted s w (ent 0x1211 1) (le 4 id.toNat)) :
    Completes (.credentialRevoke w id) s fun t => id.toNat ∈ t.sys.mram.revoked ∧ t.otp = s.otp := by
  have hr : acting s.otp s.sys w (ent 0x1211 1) (le 4 id.toNat) = some (s.sys.revoke id.toNat) := by
    rw [acting_identity (by decide) (by decide), Sys.actIdentity, unLe_toNat id 4 (by decide)]
    rfl
  obtain ⟨⟨hops, hin⟩, t, hexec, hfollow, hotp, -⟩ := acting_does (c := .credentialRevoke w id) rfl ha (by decide +kernel) (.inl (by decide)) (by decide) hr
    (Sys.revoke_spec rfl)
  refine ⟨t, hexec, ?_, by rw [hotp, hops]; rfl⟩
  rw [← hfollow.same.1 .mram (by simp)]
  exact hin

theorem lookImageWrite_stores (s : State) (w : Writer) (i : Fin 16) (v : Bytes) (ha : Admitted s w (ent (0x3840 + i.val) 1) v) :
    Completes (.lookImageWrite w i v) s fun t => t.sys.rdB (ent (0x3840 + i.val) 1) = v ∧ t.otp = s.otp := by
  have hk : ∀ i : Fin 16, isRwc (ent (0x3840 + i.val) 1) = false := by decide +kernel
  have hr : acting s.otp s.sys w (ent (0x3840 + i.val) 1) v = some (s.sys.writeImage s.otp i.val v) := by
    rw [acting_frame (by omega) (by decide)]
    unfold Sys.actFrame
    dsimp only
    rw [if_neg (by omega), if_neg (by omega), if_pos (by omega), Nat.add_sub_cancel_left]
    rfl
  obtain ⟨⟨hops, hread⟩, t, hexec, hfollow, hotp, -⟩ := acting_does (c := .lookImageWrite w i v) rfl ha (hk i)
    (.inr (.inr (.inl (by rw [ent_div _ (by decide)]; omega)))) (by unfold ent; omega) hr (Sys.writeImage_spec rfl)
  exact ⟨t, hexec, (hfollow.rdB_eq _).trans hread, by rw [hotp, hops]; rfl⟩

theorem recipientKeyWrite_stores (s : State) (w : Writer) (i : Fin 4) (v : Bytes) (ha : Admitted s w (ent 0x1404 (i.val + 2)) v) :
    Completes (.recipientKeyWrite w i v) s fun t => t.sys.rdB (ent 0x1404 (i.val + 2)) = v ∧ t.otp = s.otp := by
  have hk : ∀ i : Fin 4, isRwc (ent 0x1404 (i.val + 2)) = false := by decide +kernel
  have hr : acting s.otp s.sys w (ent 0x1404 (i.val + 2)) v = some (s.sys.writeRecipient i.val v) := by
    rw [acting_identity (by decide) (by omega)]
    have hne : i.val + 2 ≠ 1 := by omega
    simp [Sys.actIdentity, hne]
  obtain ⟨⟨hops, hread⟩, t, hexec, hfollow, hotp, -⟩ := acting_does (c := .recipientKeyWrite w i v) rfl ha (hk i)
    (.inl (by rw [ent_div _ (by omega)]; decide)) (by unfold ent; omega) hr (Sys.writeRecipient_spec rfl)
  exact ⟨t, hexec, (hfollow.rdB_eq _).trans hread, by rw [hotp, hops]; rfl⟩

theorem encryptionEnable_stores (s : State) (w : Writer) (on : Bool) (ha : Admitted s w (ent 0x1404 1) (le 1 (if on then 1 else 0))) :
    Completes (.encryptionEnable w on) s fun t => t.sys.rd (ent 0x1404 1) = (if on then 1 else 0) ∧ t.otp = s.otp := by
  have hr : acting s.otp s.sys w (ent 0x1404 1) (le 1 (if on then 1 else 0)) = some (s.sys.writeEncryption (if on then 1 else 0)) := by
    rw [acting_identity (by decide) (by decide)]
    cases on <;> rfl
  obtain ⟨⟨hops, hread⟩, t, hexec, hfollow, hotp, -⟩ := acting_does (c := .encryptionEnable w on) rfl ha (by decide +kernel) (.inl (by decide)) (by decide) hr
    (Sys.writeEncryption_spec rfl)
  exact ⟨t, hexec, (hfollow.rd_eq (by simp [followNums, ent])).trans hread, by rw [hotp, hops]; rfl⟩

theorem attestationNonce_waits (s : State) (w : Writer) (v : Bytes) (ha : Admitted s w (ent 0x1406 1) v) :
    Completes (.attestationNonce w v) s fun t => t.sys.sec.nonce = some v ∧ t.otp = s.otp := by
  have hr : acting s.otp s.sys w (ent 0x1406 1) v = some (s.sys.attest v) := by
    rw [acting_identity (by decide) (by decide)]
    rfl
  obtain ⟨⟨hops, hnonce⟩, t, hexec, hfollow, hotp, -⟩ := acting_does (c := .attestationNonce w v) rfl ha (by decide +kernel) (.inl (by decide)) (by decide) hr
    (Sys.attest_spec rfl)
  refine ⟨t, hexec, ?_, by rw [hotp, hops]; rfl⟩
  rw [← hfollow.same.1 .sec (by simp)]
  exact hnonce

theorem parameterStoreClear_empties (s : State) (w : Writer) (ha : Admitted s w (ent 0x1104 1) (le 2 2)) :
    Completes (.parameterStoreClear w) s fun t => t.sys.mram.store = [] ∧ t.otp = s.otp := by
  have hr : acting s.otp s.sys w (ent 0x1104 1) (le 2 2) = some (plainR (s.sys.storeCommand 2)) := by
    rw [acting_identity (by decide) (by decide)]
    rfl
  obtain ⟨hstore, t, hexec, hfollow, hotp, -⟩ := acting_does (c := .parameterStoreClear w) (p := (plainR (s.sys.storeCommand 2)).2.2.mram.store = []) rfl ha
    (by decide +kernel) (.inl (by decide)) (by decide) hr (by
      unfold Sys.storeCommand
      split
      · simp [plainR]
      · intro _
        exact ⟨rfl, rfl, rfl, rfl⟩)
  refine ⟨t, hexec, ?_, hotp⟩
  rw [← hfollow.same.1 .mram (by simp)]
  exact hstore

theorem parameterStoreSave_begins (s : State) (w : Writer) (ha : Admitted s w (ent 0x1104 1) (le 2 1)) :
    Completes (.parameterStoreSave w) s fun t => t.sys.rd (ent 0x1104 2) = 1 ∧ t.sys.den.saving.isSome = true ∧ t.otp = s.otp := by
  have hk : isRwc (ent 0x1104 1) = false := by decide +kernel
  have hp : plainKey (ent 0x1104 1) := .inl (by decide)
  have hr : acting s.otp s.sys w (ent 0x1104 1) (le 2 1) = some (plainR (s.sys.storeCommand 1)) := by
    rw [acting_identity (by decide) (by decide)]
    rfl
  have hfree : s.sys.den.saving.isSome = false := by
    have hok := acts_of_admitted ha hk hr (by unfold Sys.storeCommand; split <;> simp [plainR])
    unfold Sys.storeCommand at hok
    split at hok
    · simp [plainR] at hok
    next h => simpa using h
  have happly : s.sys.entryApply s.otp w (ent 0x1104 1) (le 2 1) = okR s.sys.storeBegin := by
    rw [Sys.entryApply, Sys.entryEffect_of_acting hr, Sys.storeCommand, hfree]
    rfl
  obtain ⟨-, z, d, hz, hd, hexec⟩ := write_spec (c := .parameterStoreSave w) rfl hk (by decide) (Granted.of_plain ha hk hp (by rw [happly]; rfl)) happly
  obtain rfl : s.sys.storeBegin = z := Option.some_inj.1 ((Sys.prepare_of_plainKey hp _ _).symm.trans hz)
  have hsaving : d.den.saving.isSome = true := by rw [← hd.same.1 .den (by simp)]; rfl
  have hstore : d.storeSlot s.sys = d.storeBegin := by
    rw [Sys.storeSlot, hsaving, ← Option.not_isSome, hfree]
    rfl
  rw [hstore] at hexec
  have hafter := followed_afterUnit d.storeBegin s.sys w (ent 0x1104 1) (le 2 1) .ok 0 0 (.inl rfl)
  have hboot : (d.storeBegin.afterUnit (writeUnit s.sys w (ent 0x1104 1) (le 2 1), .ok, 0, 0)).boot.due = none := by
    rw [← hafter.same.1 .boot (by simp), show d.storeBegin.boot = d.boot from rfl, ← hd.same.1 .boot (by simp)]
    exact ha.2.2
  rw [Sys.resetDue, hboot] at hexec
  refine ⟨_, hexec, ?_, ?_, rfl⟩
  · exact (hafter.rd_eq (by simp [followNums, ent])).trans ((Sys.rd_wr ..).trans (if_pos rfl))
  · change (d.storeBegin.afterUnit _).den.saving.isSome = true
    rw [← hafter.same.1 .den (by simp)]
    rfl

theorem eventAcknowledge_marks (s : State) (w : Writer) (ha : Admitted s w (ent 0x1300 8) (le 2 1)) :
    Completes (.eventAcknowledge w) s fun t => t.sys.rd (ent 0x1300 4) = s.sys.cursorOf w.path.val 0 w.session.toNat ∧ t.otp = s.otp := by
  have hr : acting s.otp s.sys w (ent 0x1300 8) (le 2 1) = some (okR (s.sys.acknowledge w.path.val 0 w.session.toNat)) := by
    rw [acting_identity (by decide) (by decide)]
    rfl
  obtain ⟨hread, t, hexec, hfollow, hotp, -⟩ := acting_does (c := .eventAcknowledge w) rfl ha (by decide +kernel) (.inl (by decide)) (by decide) hr
    (fun _ => ⟨rfl, rfl, rfl, show (s.sys.acknowledge w.path.val 0 w.session.toNat).rd (ent 0x1300 4) = _ from (Sys.rd_wr ..).trans (if_pos rfl)⟩)
  exact ⟨t, hexec, (hfollow.rd_eq (by simp [followNums, ent])).trans hread, hotp⟩

theorem eventErase_empties (s : State) (w : Writer) (ha : Admitted s w (ent 0x1300 8) (le 2 2)) :
    Completes (.eventErase w) s fun t =>
      t.sys.mram.ring = [] ∧ t.sys.rd (ent 0x1300 2) = s.sys.rd (ent 0x1300 1) ∧ (t.sys.log.pending.head?.map (·.code)) = some 0x0133 ∧ t.otp = s.otp := by
  have hr : acting s.otp s.sys w (ent 0x1300 8) (le 2 2) = some (s.sys.logCommand w 2) := by
    rw [acting_identity (by decide) (by decide)]
    rfl
  obtain ⟨⟨hcmd, hops⟩, t, hexec, hfollow, hotp, -⟩ := acting_does (c := .eventErase w) rfl ha (by decide +kernel) (.inl (by decide)) (by decide) hr
    (p := (s.sys.logCommand w 2).2.2 = s.sys.eraseLog w.session.toNat ∧ (s.sys.logCommand w 2).2.1 = []) (by
      unfold Sys.logCommand
      rw [if_neg (by decide)]
      split
      · simp [Sys.refuse]
      · exact fun _ => ⟨rfl, rfl, rfl, rfl, rfl⟩)
  rw [hcmd] at hfollow
  obtain ⟨-, -, hring, hread, hcode⟩ := Sys.eraseLog_spec (y := s.sys) (n := w.session.toNat)
  refine ⟨t, hexec, ?_, (hfollow.rd_eq (by simp [followNums, ent])).trans hread, ?_, by rw [hotp, hops]; rfl⟩
  · rw [← hfollow.same.1 .mram (by simp)]; exact hring
  · rw [← hfollow.same.1 .log (by simp)]; exact hcode

/-! ## A look selection (R129, R373) -/

/-- A unit is refused for a reason that was given. -/
theorem firstFault_mem {own : Option (Status × Nat)} {set : Status × Nat × Option (Nat × Nat)} {room : Option Nat} {f : UnitFault}
    (h : firstFault own set room = some f) : own = some (f.status, f.place) ∨ f.status = set.1 ∨ f.status = .range := by
  have hfold (l : List UnitFault) (a : Option UnitFault) : l.foldl (fun a f => match a with
      | none => some f
      | some g => if f.place < g.place then some f else a) a = some f → a = some f ∨ f ∈ l := by
    induction l generalizing a with
    | nil => exact .inl
    | cons g l ih =>
      intro h
      rcases ih _ h with h | h
      · cases a with
        | none => cases h; exact .inr (List.mem_cons_self ..)
        | some b =>
          dsimp only at h
          split at h
          · cases h; exact .inr (List.mem_cons_self ..)
          · exact .inl h
      · exact .inr (List.mem_cons_of_mem _ h)
  rcases hfold _ _ h with h | h
  · cases h
  rw [List.append_assoc, List.mem_append, List.mem_append] at h
  rcases h with h | h | h
  · obtain ⟨p, hp, rfl⟩ := Option.map_eq_some_iff.1 (Option.mem_toList.1 h)
    exact .inl hp
  · split at h
    · cases h
    · rw [List.mem_singleton.1 h]
      exact .inr (.inl rfl)
  · obtain ⟨p, -, rfl⟩ := Option.map_eq_some_iff.1 (Option.mem_toList.1 h)
    exact .inr (.inr rfl)

theorem Sys.commitRule_ne_staged (y : Sys) (w : Writer) (m : Nat × Bytes) : y.commitRule w m ≠ .staged := by
  unfold commitRule
  dsimp only
  split
  · exact nofun
  split
  next h => rcases h with h | h <;> simp [h]
  split <;> exact nofun

theorem Status.first_ne_staged {l : List Status} (h : ∀ st ∈ l, st ≠ .staged) : Status.first l ≠ .staged := by
  induction l with
  | nil => exact nofun
  | cons st l ih =>
    unfold Status.first
    split
    · exact ih fun s hs => h s (List.mem_cons_of_mem _ hs)
    · exact h st (List.mem_cons_self ..)

theorem Status.unless_ne_staged (b : Bool) : Status.range.unless b ≠ .staged := by cases b <;> exact nofun

/-- A look slot's own rules on sets are refusals. -/
theorem Sys.setRules_lookSlot_ne_staged (y : Sys) (g : Gen) (n : Fin 16) : y.setRules g (ent (0x3800 + n.val) 1) ≠ .staged := by
  unfold setRules
  dsimp only
  rw [ent_div _ (by decide), ent_mod _ (by decide)]
  have hlook : y.lookSet g ((0x3800 + n.val) % 16) ≠ .staged := by
    unfold lookSet
    dsimp only
    split
    · exact nofun
    · split
      · exact nofun
      · exact Status.unless_ne_staged _
  have hout : g.outputSet ≠ .staged := Status.unless_ne_staged _
  simp (disch := omega) only [outside, Bool.or_false, Bool.false_or, Bool.false_and, Bool.false_eq_true, if_false]
  refine Status.first_ne_staged fun st hst => ?_
  simp only [List.mem_cons, List.not_mem_nil, or_false] at hst
  have hif {b : Bool} {r : Status} (h : r ≠ .staged) : (if b = true then r else .ok) ≠ .staged := by cases b <;> [exact nofun; exact h]
  rcases hst with rfl | rfl | rfl | rfl | rfl | rfl | rfl | rfl | rfl | rfl | rfl
  case inr.inl => exact hif hlook
  case inr.inr.inr.inl => exact hif hout
  all_goals exact nofun

theorem Sys.setFault_ne_staged {k : Nat} {f : Status × Option (Nat × Nat)} (hset : ∀ g : Gen, y.setRules g k ≠ .staged)
    (h : y.setFault [(k, v)] = some f) : f.1 ≠ .staged := by
  unfold setFault at h
  dsimp only at h
  split at h
  next m hm =>
    cases h
    rw [List.mem_singleton.1 (List.mem_of_find?_eq_some hm)]
    exact hset _
  · split at h
    · obtain ⟨b, -, rfl⟩ := Option.map_eq_some_iff.1 h
      exact nofun
    · simp at h

/-- What a lone write that waits for its latch point leaves. -/
theorem Sys.commitUnit_staged {y : Sys} {k : Nat} (hk : isRwc k = true) (hwaits : (y.homeOf k (unLe v)).waits = true)
    (hset : ∀ (z : Sys) (g : Gen), z.setRules g k ≠ .staged) (hst : (y.commitUnit o (writeUnit y w k v) fun _ => false).status = .staged) :
    ∃ p, y.prepare (k, v) = some p ∧ ∃ z, Followed (p.stage { writeUnit y w k v with scope := y.homeOf k (unLe v) }) z ∧
      y.commitUnit o (writeUnit y w k v) (fun _ => false) = ⟨.staged, 0, 0, o, [], z⟩ := by
  generalize hd : y.commitUnit o (writeUnit y w k v) (fun _ => false) = d at hst ⊢
  have hhome : y.unitHome (writeUnit y w k v) = y.homeOf k (unLe v) := by simp [unitHome, writeUnit, hk]
  have htarget : y.targetStatus (writeUnit y w k v) = .ok := rfl
  unfold commitUnit at hd
  simp only [htarget, hhome, hwaits, ne_eq, not_true_eq_false, if_false, if_true, writer_writeUnit,
    show (writeUnit y w k v).members = [(k, v)] from rfl, setCheck_one] at hd
  split at hd
  next f hf =>
    exfalso
    rw [← hd] at hst
    dsimp only at hst
    rcases firstFault_mem hf with h | h | h
    · obtain ⟨m, -, hm⟩ := List.exists_of_findSome?_eq_some h
      generalize (if m.2 = 0 then y else _) = q at hm
      split at hm
      · cases hm
      · exact commitRule_ne_staged _ _ _ ((Prod.ext_iff.1 (Option.some_inj.1 hm)).1.trans hst)
    · rw [hst] at h
      split at h
      · cases h
      next g hg => exact setFault_ne_staged (hset _) hg h.symm
    · rw [hst] at h; cases h
  next hf =>
    rw [prepareAll_one] at hd
    cases hp : y.prepare (k, v) with
    | none => simp only [hp] at hd; rw [← hd] at hst; simp at hst
    | some p =>
      simp only [hp] at hd
      exact ⟨p, rfl, _, (followed_raiseAhead ..).trans (followed_showRates ..), hd.symm⟩

theorem Sys.homeOf_lookSlot (y : Sys) (x : Fin 16) (n : Nat) : y.homeOf (ent (0x3800 + x.val) 1) n = .context x.val := by
  have howner : ownerOf y (ent (0x3800 + x.val) 1) n = .context x.val := by
    unfold ownerOf
    dsimp only
    rw [ent_div _ (by decide)]
    simp (disch := omega) only [outside, Bool.false_or, Bool.false_eq_true, if_false]
    rw [if_pos (by simp; omega), show (0x3800 + x.val) % 16 = x.val by omega]
  unfold homeOf
  dsimp only
  rw [ent_div _ (by decide), if_neg (by simp; omega), howner]
  exact if_pos x.isLt

/-- A unit without a tag joins its latch point and replaces none. -/
theorem Sys.stage_untagged {u : CommitUnit} (hu : u.gtag = 0) (hm : ∀ p < 8, ∀ m ∈ u.members, m.1 ≠ pbCfg p 1) (y : Sys) :
    y.stage u = y.onDen fun d => { d with latched := d.latched ++ [u] } := by
  have hstart (l : List Nat) (hl : ∀ p ∈ l, p < 8) (z : Sys) :
      l.foldl (fun z p => if u.members.any (fun m => m.1 == pbCfg p 1) && z.idlePb p then z.startInput p else z) z = z := by
    induction l generalizing z with
    | nil => rfl
    | cons p l ih =>
      have hany : u.members.any (fun m => m.1 == pbCfg p 1) = false := by
        rw [List.any_eq_false]
        exact fun m hin => by simpa using hm p (hl p (List.mem_cons_self ..)) m hin
      rw [List.foldl_cons, hany]
      exact ih (fun q hq => hl q (List.mem_cons_of_mem _ hq)) z
  unfold stage
  simp only [hu, bne_self_eq_false, Bool.false_and, List.filter_false, List.foldl_nil, Bool.not_false, List.filter_true]
  exact hstart _ (fun p hp => List.mem_range.1 hp) _

/-- What stays while a look slot's image becomes resident and its selection joins the latch point. -/
theorem lookSlotSelect_stage {x : Fin 16} {p : Sys} (hp : y.prepare (ent (0x3800 + x.val) 1, v) = some p) (u : CommitUnit)
    (hu : u.gtag = 0) (hm : u.members = [(ent (0x3800 + x.val) 1, v)]) :
    (p.stage u).boot = y.boot ∧ (p.stage u).den.saving = y.den.saving ∧ u ∈ (p.stage u).den.latched ∧
      (p.stage u).rd (ent (0x3800 + x.val) 1) = y.rd (ent (0x3800 + x.val) 1) := by
  have hsame : SameBut [.resident, .engines] (only [ent 0x3880 2, ent 0x3880 3, ent 0x3880 4]) (only []) y p := by
    unfold Sys.prepare at hp
    dsimp only at hp
    rw [ent_div _ (by decide), ent_mod _ (by decide), if_neg (show ¬ (0x3C10 ≤ 0x3800 + x.val ∧ _) by omega)] at hp
    split at hp
    · exact sameBut_makeResident hp
    · cases hp; exact .refl y
  rw [Sys.stage_untagged hu]
  · refine ⟨(hsame.1 .boot (by simp)).symm,
      show p.den.saving = _ from congrArg Denval.saving (hsame.1 .den (by simp)).symm, ?_, hsame.2.1 _ (by simp [ent]; omega)⟩
    exact List.mem_append_right _ (List.mem_singleton.2 rfl)
  · intro q hq m hin
    rw [hm, List.mem_singleton] at hin
    rw [hin]
    unfold pbCfg ent
    omega

theorem lookSlotSelect_waits (s : State) (w : Writer) (x : Fin 16) (n : BitVec 8) (ha : Admitted s w (ent (0x3800 + x.val) 1) (le 1 n.toNat))
    (hst : (s.sys.commitUnit s.otp (writeUnit s.sys w (ent (0x3800 + x.val) 1) (le 1 n.toNat)) fun _ => false).status = .staged) :
    Completes (.lookSlotSelect w x n) s fun t =>
      (∃ u ∈ t.sys.den.latched, u.scope = .context x.val ∧ u.members = [(ent (0x3800 + x.val) 1, le 1 n.toNat)]) ∧
      t.sys.rd (ent (0x3800 + x.val) 1) = s.sys.rd (ent (0x3800 + x.val) 1) ∧ t.otp = s.otp ∧ t.pending = s.pending := by
  have hk : ∀ x : Fin 16, isRwc (ent (0x3800 + x.val) 1) = true := by decide +kernel
  have hhome := s.sys.homeOf_lookSlot x (unLe (le 1 n.toNat))
  obtain ⟨p, hp, z, hz, hd⟩ := Sys.commitUnit_staged (hk x) (by rw [hhome]; rfl) (fun z g => Sys.setRules_lookSlot_ne_staged z g x) hst
  rw [hhome] at hz
  obtain ⟨hphase, harr, hdue⟩ := ha
  obtain ⟨hboot, hsave, hin, hread⟩ := lookSlotSelect_stage hp { writeUnit s.sys w (ent (0x3800 + x.val) 1) (le 1 n.toNat) with scope := .context x.val } rfl rfl
  have hcur : ent (0x3800 + x.val) 1 ≠ ent 0x1300 5 := by unfold ent; omega
  have hden : z.den = (p.stage { writeUnit s.sys w (ent (0x3800 + x.val) 1) (le 1 n.toNat) with scope := .context x.val }).den :=
    (hz.same.1 .den (by simp)).symm
  have hstore : z.storeSlot s.sys = z := by
    rw [Sys.storeSlot, hden, hsave]
    cases s.sys.den.saving <;> rfl
  have hafter := hz.trans (followed_afterUnit z s.sys w (ent (0x3800 + x.val) 1) (le 1 n.toNat) .staged 0 0 (.inr rfl))
  have hreset : (z.afterUnit (writeUnit s.sys w (ent (0x3800 + x.val) 1) (le 1 n.toNat), .staged, 0, 0)).boot.due = none := by
    rw [← hafter.same.1 .boot (by simp), hboot]
    exact hdue
  have hexec : exec (.lookSlotSelect w x n) s = .next { s with
      sys := z.afterUnit (writeUnit s.sys w (ent (0x3800 + x.val) 1) (le 1 n.toNat), .staged, 0, 0) } := by
    rw [exec_of_writeOf (c := .lookSlotSelect w x n) rfl, writeStep, run_eq]
    simp only [Sys.writeNow, hphase, ne_eq, not_true_eq_false, if_false, harr, hcur, hd, hstore, Sys.resetDue, hreset]
    rfl
  refine ⟨_, hexec, ⟨{ writeUnit s.sys w (ent (0x3800 + x.val) 1) (le 1 n.toNat) with scope := .context x.val }, ?_, rfl, rfl⟩, ?_, rfl, rfl⟩
  · rw [← hafter.same.1 .den (by simp)]
    exact hin
  · exact (hafter.rd_eq (by simp [followNums, ent]; omega)).trans hread

/-- Settles O27. -/
theorem storedItemsFollowTheirWrites : Obligations.StoredItemsFollowTheirWrites :=
  ⟨lookSlotSelect_waits, fun s w i v => credentialWrite_stores (.credentialInstall w i v) s w i v rfl,
    fun s w i => credentialWrite_stores (.credentialRemove w i) s w i [] rfl, credentialRevoke_lists, lookImageWrite_stores, recipientKeyWrite_stores,
    encryptionEnable_stores, attestationNonce_waits, parameterStoreSave_begins, parameterStoreClear_empties, eventAcknowledge_marks, eventErase_empties⟩

end Sys2Proof.Machine
end

section
/-!
PROOFS. Which entries the operations of the model can write, from the callee to the caller: one lemma per operation, which peels it off a state.
-/

namespace Sys2Proof.Machine

variable {ps : List Spot} {x w : Sys}

theorem writes_decWait (y : Sys) (p : Nat) (hs : ∀ p ∈ [Spot.above 0x4450 1], p ∈ ps) : Writes ps x (Sys.decWait y p) ↔ Writes ps x y := by
  refine Writes.peel (qs := [Spot.above 0x4450 1]) ?_ hs
  unfold Sys.decWait
  simp [↓writes_primitives, covered_above]

theorem writes_felleyPut (y : Sys) (s : Nat) (period : Nat) (frame : Nat) (boundary : Bool) (msg : Bytes) (hs : ∀ p ∈ [Spot.above 0x4D10 7], p ∈ ps) : Writes ps x (Sys.felleyPut y s period frame boundary msg).2 ↔ Writes ps x y := by
  refine Writes.peel (qs := [Spot.above 0x4D10 7]) ?_ hs
  unfold Sys.felleyPut
  simp [↓writes_primitives, covered_above, ↓writes_sets, ↓writes_snd_ite]

theorem writes_felleyOffer (y : Sys) (k : FelleyKind) (src : Nat) (binding : Nat) (period : Nat) (frame : Nat) (boundary : Bool) (msg : Bytes) (hs : ∀ p ∈ [Spot.above 0x4D10 7], p ∈ ps) : Writes ps x (Sys.felleyOffer y k src binding period frame boundary msg).2 ↔ Writes ps x y := by
  refine Writes.peel (qs := [Spot.above 0x4D10 7]) ?_ hs
  unfold Sys.felleyOffer
  refine Writes.foldl_snd _ _ (fun a s _ => ?_) (true, y)
  exact (writes_felleyPut _ _ _ _ _ _ (fun _ => id)).2 (.refl _)

theorem writes_slpMsg (y : Sys) (x : Nat) (n : Nat) (boundary : Bool) (msg : Bytes) (hs : ∀ p ∈ [Spot.above 0x4D10 7], p ∈ ps) : Writes ps w (Sys.slpMsg y x n boundary msg) ↔ Writes ps w y := by
  refine Writes.peel (qs := [Spot.above 0x4D10 7]) ?_ hs
  unfold Sys.slpMsg
  simp [↓writes_felleyOffer]

theorem writes_completeFrame (y : Sys) (x : Nat) (n : Nat) (hs : ∀ p ∈ [Spot.above 0x3008 5, .above 0x3010 2, .above 0x4D10 7], p ∈ ps) : Writes ps w (Sys.completeFrame y x n) ↔ Writes ps w y := by
  refine Writes.peel (qs := [Spot.above 0x3008 5, .above 0x3010 2, .above 0x4D10 7]) ?_ hs
  unfold Sys.completeFrame
  dsimp only
  repeat' split
  all_goals simp [↓writes_primitives, covered_above, ↓writes_slpMsg, ↓writes_sets]

theorem writes_checkComplete (y : Sys) (x : Nat) (n : Nat) (hs : ∀ p ∈ [Spot.above 0x3008 5, .above 0x3010 2, .above 0x4D10 7], p ∈ ps) : Writes ps w (Sys.checkComplete y x n) ↔ Writes ps w y := by
  refine Writes.peel (qs := [Spot.above 0x3008 5, .above 0x3010 2, .above 0x4D10 7]) ?_ hs
  unfold Sys.checkComplete
  repeat' split
  all_goals simp [↓writes_completeFrame]

theorem writes_setCtxState (y : Sys) (x : Nat) (n : Nat) (hs : ∀ p ∈ [Spot.above 0x3008 1], p ∈ ps) : Writes ps w (Sys.setCtxState y x n) ↔ Writes ps w y := by
  refine Writes.peel (qs := [Spot.above 0x3008 1]) ?_ hs
  unfold Sys.setCtxState
  simp [↓writes_primitives, covered_above]

theorem writes_slpLineOut (y : Sys) (x : Nat) (n : Nat) (line : Nat) (hs : ∀ p ∈ [Spot.above 0x4D10 7], p ∈ ps) : Writes ps w (Sys.slpLineOut y x n line) ↔ Writes ps w y := by
  refine Writes.peel (qs := [Spot.above 0x4D10 7]) ?_ hs
  unfold Sys.slpLineOut
  repeat' split
  all_goals simp [↓writes_slpMsg]

theorem writes_substituteLine (y : Sys) (x : Nat) (n : Nat) (fg : FrameGroup) (line : Nat) (hs : ∀ p ∈ [Spot.above 0x3010 4, .above 0x4D10 7], p ∈ ps) : Writes ps w (Sys.substituteLine y x n fg line) ↔ Writes ps w y := by
  refine Writes.peel (qs := [Spot.above 0x3010 4, .above 0x4D10 7]) ?_ hs
  unfold Sys.substituteLine
  simp [↓writes_primitives, covered_above, ↓writes_slpLineOut, ↓writes_sets]

theorem writes_substituteAll (y : Sys) (x : Nat) (n : Nat) (fg : FrameGroup) (lines : List Nat) (hs : ∀ p ∈ [Spot.above 0x3010 4, .above 0x4D10 7], p ∈ ps) : Writes ps w (Sys.substituteAll y x n fg lines) ↔ Writes ps w y := by
  refine Writes.peel (qs := [Spot.above 0x3010 4, .above 0x4D10 7]) ?_ hs
  unfold Sys.substituteAll
  simp (maxDischargeDepth := 7) [↓writes_substituteLine, ↓writes_foldl]

theorem writes_incCtx (y : Sys) (x : Nat) (sub : Nat) (hs : ∀ p ∈ [Spot.objects 0x3010], p ∈ ps) : Writes ps w (Sys.incCtx y x sub) ↔ Writes ps w y := by
  refine Writes.peel (qs := [Spot.objects 0x3010]) ?_ hs
  unfold Sys.incCtx
  simp [↓writes_primitives, covered_objects]

theorem writes_truncate (y : Sys) (x : Nat) (n : Nat) (line : Nat) (hs : ∀ p ∈ [Spot.above 0x4140 10, .above 0x4140 11, .above 0x4160 5, .above 0x4160 6, .at 0x1311 3, .at 0x2001 9, .at 0x2201 9, .objects 0x3010], p ∈ ps) : Writes ps w (Sys.truncate y x n line) ↔ Writes ps w y := by
  refine Writes.peel (qs := [Spot.above 0x4140 10, .above 0x4140 11, .above 0x4160 5, .above 0x4160 6, .at 0x1311 3, .at 0x2001 9, .at 0x2201 9, .objects 0x3010]) ?_ hs
  unfold Sys.truncate
  dsimp only
  repeat' split
  all_goals simp [↓writes_abandonTell, ↓writes_incCtx, ↓writes_sets]

theorem writes_groupLost (y : Sys) (g : Nat) (hs : ∀ p ∈ [Spot.above 0x3008 1, .above 0x3008 5, .above 0x3010 2, .above 0x3010 4, .above 0x4140 10, .above 0x4140 11, .above 0x4160 5, .above 0x4160 6, .above 0x4D10 7, .at 0x1311 3, .at 0x2001 9, .at 0x2201 9] ++ [Spot.objects 0x3010], p ∈ ps) : Writes ps x (Sys.groupLost y g) ↔ Writes ps x y := by
  refine Writes.peel (qs := [Spot.above 0x3008 1, .above 0x3008 5, .above 0x3010 2, .above 0x3010 4, .above 0x4140 10, .above 0x4140 11, .above 0x4160 5, .above 0x4160 6, .above 0x4D10 7, .at 0x1311 3, .at 0x2001 9, .at 0x2201 9] ++ [Spot.objects 0x3010]) ?_ hs
  unfold Sys.groupLost
  dsimp only
  repeat' split
  all_goals simp [↓writes_primitives, ↓writes_checkComplete, ↓writes_setCtxState, ↓writes_substituteAll, ↓writes_truncate, ↓writes_sets]

theorem writes_showTime (y : Sys)  (hs : ∀ p ∈ [Spot.at 0x2300 6, .at 0x2303 1, .at 0x2303 2], p ∈ ps) : Writes ps x (Sys.showTime y) ↔ Writes ps x y := by
  refine Writes.peel (qs := [Spot.at 0x2300 6, .at 0x2303 1, .at 0x2303 2]) ?_ hs
  unfold Sys.showTime
  simp [↓writes_primitives, covered_at]

theorem writes_setIncr (y : Sys) (v : Nat) (hs : ∀ p ∈ [Spot.at 0x2300 3, .at 0x2300 5], p ∈ ps) : Writes ps x (Sys.setIncr y v) ↔ Writes ps x y := by
  refine Writes.peel (qs := [Spot.at 0x2300 3, .at 0x2300 5]) ?_ hs
  unfold Sys.setIncr
  simp [↓writes_primitives, covered_at, ↓writes_sets]

theorem writes_rampTo (y : Sys) (target : Nat) (hs : ∀ p ∈ [Spot.at 0x2300 3, .at 0x2300 5], p ∈ ps) : Writes ps x (Sys.rampTo y target) ↔ Writes ps x y := by
  refine Writes.peel (qs := [Spot.at 0x2300 3, .at 0x2300 5]) ?_ hs
  unfold Sys.rampTo
  simp [↓writes_setIncr]

theorem writes_carryTime (y : Sys)  (hs : ∀ p ∈ [Spot.at 0x2300 3, .at 0x2300 5], p ∈ ps) : Writes ps x (Sys.carryTime y) ↔ Writes ps x y := by
  refine Writes.peel (qs := [Spot.at 0x2300 3, .at 0x2300 5]) ?_ hs
  unfold Sys.carryTime
  simp [↓writes_primitives, ↓writes_rampTo, ↓writes_setIncr, ↓writes_sets]

theorem writes_driftFreq (y : Sys)  : Writes ps x (Sys.driftFreq y) ↔ Writes ps x y := by
  refine Writes.peel (qs := []) ?_ (by simp)
  unfold Sys.driftFreq
  simp [↓writes_primitives, ↓writes_sets]

theorem writes_endLocked (y : Sys)  : Writes ps x (Sys.endLocked y) ↔ Writes ps x y := by
  refine Writes.peel (qs := []) ?_ (by simp)
  unfold Sys.endLocked
  dsimp only
  repeat' split
  all_goals simp [↓writes_sets, ↓writes_fields]

theorem writes_setTbState (y : Sys) (n : Nat) (hs : ∀ p ∈ [Spot.at 0x2300 2], p ∈ ps) : Writes ps x (Sys.setTbState y n) ↔ Writes ps x y := by
  refine Writes.peel (qs := [Spot.at 0x2300 2]) ?_ hs
  unfold Sys.setTbState
  simp [↓writes_primitives, covered_at]

theorem writes_beginHold (y : Sys) (tref : Bool) (hs : ∀ p ∈ [Spot.at 0x2300 2, .at 0x2300 3, .at 0x2300 5, .at 0x2300 8], p ∈ ps) : Writes ps x (Sys.beginHold y tref) ↔ Writes ps x y := by
  refine Writes.peel (qs := [Spot.at 0x2300 2, .at 0x2300 3, .at 0x2300 5, .at 0x2300 8]) ?_ hs
  unfold Sys.beginHold
  simp [↓writes_primitives, covered_at, ↓writes_carryTime, ↓writes_driftFreq, ↓writes_endLocked, ↓writes_setTbState, ↓writes_sets]

theorem writes_endHold (y : Sys)  (hs : ∀ p ∈ [Spot.at 0x2300 9], p ∈ ps) : Writes ps x (Sys.endHold y) ↔ Writes ps x y := by
  refine Writes.peel (qs := [Spot.at 0x2300 9]) ?_ hs
  unfold Sys.endHold
  repeat' split
  all_goals simp [↓writes_primitives, covered_at, ↓writes_sets]

theorem writes_setTbSource (y : Sys) (n : Nat) (hs : ∀ p ∈ [Spot.at 0x2300 2], p ∈ ps) : Writes ps x (Sys.setTbSource y n) ↔ Writes ps x y := by
  refine Writes.peel (qs := [Spot.at 0x2300 2]) ?_ hs
  unfold Sys.setTbSource
  simp [↓writes_primitives, covered_at]

theorem writes_acquire (y : Sys) (src : Nat) (hs : ∀ p ∈ [Spot.at 0x2300 2, .at 0x2300 3, .at 0x2300 4, .at 0x2300 5, .at 0x2300 6, .at 0x2300 9, .at 0x2303 1, .at 0x2303 2], p ∈ ps) : Writes ps x (Sys.acquire y src) ↔ Writes ps x y := by
  refine Writes.peel (qs := [Spot.at 0x2300 2, .at 0x2300 3, .at 0x2300 4, .at 0x2300 5, .at 0x2300 6, .at 0x2300 9, .at 0x2303 1, .at 0x2303 2]) ?_ hs
  unfold Sys.acquire
  simp [↓writes_primitives, covered_at, ↓writes_carryTime, ↓writes_endHold, ↓writes_endLocked, ↓writes_setTbSource, ↓writes_setTbState, ↓writes_showTime, ↓writes_sets]

theorem writes_reselect (y : Sys)  (hs : ∀ p ∈ [Spot.at 0x2300 2, .at 0x2300 3, .at 0x2300 4, .at 0x2300 5, .at 0x2300 6, .at 0x2300 9, .at 0x2303 1, .at 0x2303 2], p ∈ ps) : Writes ps x (Sys.reselect y) ↔ Writes ps x y := by
  refine Writes.peel (qs := [Spot.at 0x2300 2, .at 0x2300 3, .at 0x2300 4, .at 0x2300 5, .at 0x2300 6, .at 0x2300 9, .at 0x2303 1, .at 0x2303 2]) ?_ hs
  unfold Sys.reselect
  dsimp only
  repeat' split
  all_goals simp [↓writes_acquire]

theorem writes_steer (y : Sys)  (hs : ∀ p ∈ [Spot.at 0x2300 3, .at 0x2300 5], p ∈ ps) : Writes ps x (Sys.steer y) ↔ Writes ps x y := by
  refine Writes.peel (qs := [Spot.at 0x2300 3, .at 0x2300 5]) ?_ hs
  unfold Sys.steer
  simp [↓writes_carryTime, ↓writes_driftFreq]

theorem writes_disqualify (y : Sys) (src : Nat) (reason : Nat) (hs : ∀ p ∈ [Spot.at 0x2300 2, .at 0x2300 3, .at 0x2300 4, .at 0x2300 5, .at 0x2300 6, .at 0x2300 8, .at 0x2300 9, .at 0x2303 1, .at 0x2303 2], p ∈ ps) : Writes ps x (Sys.disqualify y src reason) ↔ Writes ps x y := by
  refine Writes.peel (qs := [Spot.at 0x2300 2, .at 0x2300 3, .at 0x2300 4, .at 0x2300 5, .at 0x2300 6, .at 0x2300 8, .at 0x2300 9, .at 0x2303 1, .at 0x2303 2]) ?_ hs
  unfold Sys.disqualify
  simp [↓writes_primitives, ↓writes_beginHold, ↓writes_reselect, ↓writes_showTime, ↓writes_steer, ↓writes_sets]

theorem writes_trefGone (y : Sys)  (hs : ∀ p ∈ [Spot.at 0x2300 3, .at 0x2300 5], p ∈ ps) : Writes ps x (Sys.trefGone y) ↔ Writes ps x y := by
  refine Writes.peel (qs := [Spot.at 0x2300 3, .at 0x2300 5]) ?_ hs
  unfold Sys.trefGone
  simp [↓writes_carryTime, ↓writes_driftFreq, ↓writes_sets]

theorem writes_sourceFault (y : Sys) (src : Nat) (reason : Nat) (hs : ∀ p ∈ [Spot.at 0x2300 2, .at 0x2300 3, .at 0x2300 4, .at 0x2300 5, .at 0x2300 6, .at 0x2300 8, .at 0x2300 9, .at 0x2303 1, .at 0x2303 2], p ∈ ps) : Writes ps x (Sys.sourceFault y src reason) ↔ Writes ps x y := by
  refine Writes.peel (qs := [Spot.at 0x2300 2, .at 0x2300 3, .at 0x2300 4, .at 0x2300 5, .at 0x2300 6, .at 0x2300 8, .at 0x2300 9, .at 0x2303 1, .at 0x2303 2]) ?_ hs
  unfold Sys.sourceFault
  simp [↓writes_primitives, ↓writes_disqualify, ↓writes_trefGone]

theorem writes_felleyDown (y : Sys) (cause : Nat) (hs : ∀ p ∈ [Spot.above 0x3008 1, .above 0x3008 5, .above 0x3010 2, .above 0x3010 4, .above 0x4140 10, .above 0x4140 11, .above 0x4160 5, .above 0x4160 6, .above 0x4450 1, .above 0x4D10 7, .at 0x1311 3, .at 0x2001 9] ++ [Spot.at 0x2201 9, .at 0x2300 2, .at 0x2300 3, .at 0x2300 4, .at 0x2300 5, .at 0x2300 6, .at 0x2300 8, .at 0x2300 9, .at 0x2303 1, .at 0x2303 2, .at 0x4D01 1, .at 0x4D01 9] ++ [Spot.objects 0x3010], p ∈ ps) : Writes ps x (Sys.felleyDown y cause) ↔ Writes ps x y := by
  refine Writes.peel (qs := [Spot.above 0x3008 1, .above 0x3008 5, .above 0x3010 2, .above 0x3010 4, .above 0x4140 10, .above 0x4140 11, .above 0x4160 5, .above 0x4160 6, .above 0x4450 1, .above 0x4D10 7, .at 0x1311 3, .at 0x2001 9] ++ [Spot.at 0x2201 9, .at 0x2300 2, .at 0x2300 3, .at 0x2300 4, .at 0x2300 5, .at 0x2300 6, .at 0x2300 8, .at 0x2300 9, .at 0x2303 1, .at 0x2303 2, .at 0x4D01 1, .at 0x4D01 9] ++ [Spot.objects 0x3010]) ?_ hs
  unfold Sys.felleyDown
  simp (maxDischargeDepth := 7) [↓writes_primitives, covered_at, ↓writes_decWait, ↓writes_groupLost, ↓writes_showTime, ↓writes_sourceFault, ↓writes_sets, ↓writes_fields, ↓writes_foldl]

theorem writes_garosDown (y : Sys) (k : Nat) (cause : Nat) (hs : ∀ p ∈ [Spot.above 0x4C08 1, .at 0x2300 2, .at 0x2300 3, .at 0x2300 4, .at 0x2300 5, .at 0x2300 6, .at 0x2300 8, .at 0x2300 9, .at 0x2303 1, .at 0x2303 2], p ∈ ps) : Writes ps x (Sys.garosDown y k cause) ↔ Writes ps x y := by
  refine Writes.peel (qs := [Spot.above 0x4C08 1, .at 0x2300 2, .at 0x2300 3, .at 0x2300 4, .at 0x2300 5, .at 0x2300 6, .at 0x2300 8, .at 0x2300 9, .at 0x2303 1, .at 0x2303 2]) ?_ hs
  unfold Sys.garosDown
  simp [↓writes_primitives, covered_above, ↓writes_showTime, ↓writes_sourceFault, ↓writes_sets]

theorem writes_lanesLost (y : Sys) (g : Nat) (hs : ∀ p ∈ [Spot.above 0x3008 1, .above 0x3008 5, .above 0x3010 2, .above 0x3010 4, .above 0x4140 10, .above 0x4140 11, .above 0x4160 5, .above 0x4160 6, .above 0x4D10 7, .at 0x1311 3, .at 0x2001 9, .at 0x2201 9] ++ [Spot.objects 0x3010], p ∈ ps) : Writes ps x (Sys.lanesLost y g) ↔ Writes ps x y := by
  refine Writes.peel (qs := [Spot.above 0x3008 1, .above 0x3008 5, .above 0x3010 2, .above 0x3010 4, .above 0x4140 10, .above 0x4140 11, .above 0x4160 5, .above 0x4160 6, .above 0x4D10 7, .at 0x1311 3, .at 0x2001 9, .at 0x2201 9] ++ [Spot.objects 0x3010]) ?_ hs
  unfold Sys.lanesLost
  simp [↓writes_primitives, ↓writes_groupLost]

theorem writes_showStream (y : Sys) (n : Nat) (hs : ∀ p ∈ [Spot.above 0x4190 15, .above 0x4190 8], p ∈ ps) : Writes ps x (Sys.showStream y n) ↔ Writes ps x y := by
  refine Writes.peel (qs := [Spot.above 0x4190 15, .above 0x4190 8]) ?_ hs
  unfold Sys.showStream
  simp [↓writes_primitives, covered_above]

theorem writes_quadPathsDown (y : Sys) (q : Nat) (hs : ∀ p ∈ [Spot.above 0x4190 14, .above 0x4190 15, .above 0x4190 8], p ∈ ps) : Writes ps x (Sys.quadPathsDown y q) ↔ Writes ps x y := by
  refine Writes.peel (qs := [Spot.above 0x4190 14, .above 0x4190 15, .above 0x4190 8]) ?_ hs
  unfold Sys.quadPathsDown
  simp (maxDischargeDepth := 7) [↓writes_primitives, covered_above, ↓writes_showStream, ↓writes_fields, ↓writes_foldl, ↓writes_upto]

theorem writes_laneDown (y : Sys) (n : Nat) (hs : ∀ p ∈ [Spot.above 0x3008 1, .above 0x3008 5, .above 0x3010 2, .above 0x3010 4, .above 0x4140 10, .above 0x4140 11, .above 0x4160 5, .above 0x4160 6, .above 0x4190 14, .above 0x4190 15, .above 0x4190 8, .above 0x4450 1] ++ [Spot.above 0x4C08 1, .above 0x4D10 7, .at 0x1311 3, .at 0x2001 9, .at 0x2201 9, .at 0x2300 2, .at 0x2300 3, .at 0x2300 4, .at 0x2300 5, .at 0x2300 6, .at 0x2300 8, .at 0x2300 9] ++ [Spot.at 0x2303 1, .at 0x2303 2, .at 0x4D01 1, .at 0x4D01 9, .objects 0x3010], p ∈ ps) : Writes ps x (Sys.laneDown y n) ↔ Writes ps x y := by
  refine Writes.peel (qs := [Spot.above 0x3008 1, .above 0x3008 5, .above 0x3010 2, .above 0x3010 4, .above 0x4140 10, .above 0x4140 11, .above 0x4160 5, .above 0x4160 6, .above 0x4190 14, .above 0x4190 15, .above 0x4190 8, .above 0x4450 1] ++ [Spot.above 0x4C08 1, .above 0x4D10 7, .at 0x1311 3, .at 0x2001 9, .at 0x2201 9, .at 0x2300 2, .at 0x2300 3, .at 0x2300 4, .at 0x2300 5, .at 0x2300 6, .at 0x2300 8, .at 0x2300 9] ++ [Spot.at 0x2303 1, .at 0x2303 2, .at 0x4D01 1, .at 0x4D01 9, .objects 0x3010]) ?_ hs
  unfold Sys.laneDown
  repeat' split
  all_goals simp [↓writes_felleyDown, ↓writes_garosDown, ↓writes_lanesLost, ↓writes_quadPathsDown]

theorem writes_laneFlag (y : Sys) (n : Nat) (f : LaneFlag) (v : Bool) (hs : ∀ p ∈ [Spot.above 0x2400 3], p ∈ ps) : Writes ps x (Sys.laneFlag y n f v) ↔ Writes ps x y := by
  refine Writes.peel (qs := [Spot.above 0x2400 3]) ?_ hs
  unfold Sys.laneFlag
  simp [↓writes_primitives, covered_above]

theorem writes_abortScan (y : Sys) (n : Nat) (hs : ∀ p ∈ [Spot.above 0x2400 15], p ∈ ps) : Writes ps x (Sys.abortScan y n) ↔ Writes ps x y := by
  refine Writes.peel (qs := [Spot.above 0x2400 15]) ?_ hs
  unfold Sys.abortScan
  simp [↓writes_primitives, covered_above]

theorem writes_showFrozen (y : Sys) (n : Nat) (hs : ∀ p ∈ [Spot.above 0x2400 3], p ∈ ps) : Writes ps x (Sys.showFrozen y n) ↔ Writes ps x y := by
  refine Writes.peel (qs := [Spot.above 0x2400 3]) ?_ hs
  unfold Sys.showFrozen
  simp [↓writes_laneFlag]

theorem writes_showMates (y : Sys) (n : Nat) (hs : ∀ p ∈ [Spot.above 0x2480 2, .above 0x2488 4], p ∈ ps) : Writes ps x (Sys.showMates y n) ↔ Writes ps x y := by
  refine Writes.peel (qs := [Spot.above 0x2480 2, .above 0x2488 4]) ?_ hs
  unfold Sys.showMates
  simp [↓writes_primitives, covered_above]

theorem writes_laneTo (y : Sys) (n : Nat) (s : LaneState) (hs : ∀ p ∈ [Spot.above 0x2400 15, .above 0x2400 2, .above 0x2400 3, .above 0x2480 2, .above 0x2488 4], p ∈ ps) : Writes ps x (Sys.laneTo y n s) ↔ Writes ps x y := by
  refine Writes.peel (qs := [Spot.above 0x2400 15, .above 0x2400 2, .above 0x2400 3, .above 0x2480 2, .above 0x2488 4]) ?_ hs
  unfold Sys.laneTo
  simp [↓writes_primitives, covered_above, ↓writes_abortScan, ↓writes_showFrozen, ↓writes_showMates]

theorem writes_laneRest (y : Sys) (n : Nat) (s : LaneState) (hs : ∀ p ∈ [Spot.above 0x2400 15, .above 0x2400 2, .above 0x2400 3, .above 0x2480 2, .above 0x2488 4, .above 0x3008 1, .above 0x3008 5, .above 0x3010 2, .above 0x3010 4, .above 0x4140 10, .above 0x4140 11, .above 0x4160 5] ++ [Spot.above 0x4160 6, .above 0x4190 14, .above 0x4190 15, .above 0x4190 8, .above 0x4450 1, .above 0x4C08 1, .above 0x4D10 7, .at 0x1311 3, .at 0x2001 9, .at 0x2201 9, .at 0x2300 2, .at 0x2300 3] ++ [Spot.at 0x2300 4, .at 0x2300 5, .at 0x2300 6, .at 0x2300 8, .at 0x2300 9, .at 0x2303 1, .at 0x2303 2, .at 0x4D01 1, .at 0x4D01 9, .objects 0x3010], p ∈ ps) : Writes ps x (Sys.laneRest y n s) ↔ Writes ps x y := by
  refine Writes.peel (qs := [Spot.above 0x2400 15, .above 0x2400 2, .above 0x2400 3, .above 0x2480 2, .above 0x2488 4, .above 0x3008 1, .above 0x3008 5, .above 0x3010 2, .above 0x3010 4, .above 0x4140 10, .above 0x4140 11, .above 0x4160 5] ++ [Spot.above 0x4160 6, .above 0x4190 14, .above 0x4190 15, .above 0x4190 8, .above 0x4450 1, .above 0x4C08 1, .above 0x4D10 7, .at 0x1311 3, .at 0x2001 9, .at 0x2201 9, .at 0x2300 2, .at 0x2300 3] ++ [Spot.at 0x2300 4, .at 0x2300 5, .at 0x2300 6, .at 0x2300 8, .at 0x2300 9, .at 0x2303 1, .at 0x2303 2, .at 0x4D01 1, .at 0x4D01 9, .objects 0x3010]) ?_ hs
  unfold Sys.laneRest
  simp [↓writes_primitives, ↓writes_laneDown, ↓writes_laneFlag, ↓writes_laneTo, ↓writes_sets]

theorem writes_linkHello (y : Sys) (q : Nat) : Writes ps x (Sys.linkHello y q) ↔ Writes ps x y := by
  refine Writes.peel (qs := []) ?_ (by simp)
  unfold Sys.linkHello
  dsimp only
  repeat' split
  all_goals simp [↓writes_control]

theorem writes_restorePaths (y : Sys) (n : Nat) (hs : ∀ p ∈ [Spot.above 0x4190 15, .above 0x4190 8], p ∈ ps) : Writes ps x (Sys.restorePaths y n) ↔ Writes ps x y := by
  refine Writes.peel (qs := [Spot.above 0x4190 15, .above 0x4190 8]) ?_ hs
  unfold Sys.restorePaths
  simp (maxDischargeDepth := 7) [↓writes_primitives, ↓writes_showStream, ↓writes_fields, ↓writes_foldl]

theorem writes_quadCameUp (y : Sys) (q : Nat) (hs : ∀ p ∈ [Spot.above 0x4190 15, .above 0x4190 8], p ∈ ps) : Writes ps x (Sys.quadCameUp y q) ↔ Writes ps x y := by
  refine Writes.peel (qs := [Spot.above 0x4190 15, .above 0x4190 8]) ?_ hs
  unfold Sys.quadCameUp
  repeat' split
  all_goals simp (maxDischargeDepth := 7) [↓writes_linkHello, ↓writes_restorePaths, ↓writes_upto]

theorem writes_lanesReady (y : Sys) (n : Nat) (hs : ∀ p ∈ [Spot.above 0x2400 15, .above 0x2400 2, .above 0x2400 3, .above 0x2480 2, .above 0x2488 4, .above 0x3008 1, .above 0x3008 5, .above 0x3010 2, .above 0x3010 4, .above 0x4140 10, .above 0x4140 11, .above 0x4160 5] ++ [Spot.above 0x4160 6, .above 0x4190 14, .above 0x4190 15, .above 0x4190 8, .above 0x4450 1, .above 0x4C08 1, .above 0x4D10 7, .at 0x1311 3, .at 0x2001 9, .at 0x2201 9, .at 0x2300 2, .at 0x2300 3] ++ [Spot.at 0x2300 4, .at 0x2300 5, .at 0x2300 6, .at 0x2300 8, .at 0x2300 9, .at 0x2303 1, .at 0x2303 2, .at 0x4D01 1, .at 0x4D01 9, .objects 0x3010], p ∈ ps) : Writes ps x (Sys.lanesReady y n) ↔ Writes ps x y := by
  refine Writes.peel (qs := [Spot.above 0x2400 15, .above 0x2400 2, .above 0x2400 3, .above 0x2480 2, .above 0x2488 4, .above 0x3008 1, .above 0x3008 5, .above 0x3010 2, .above 0x3010 4, .above 0x4140 10, .above 0x4140 11, .above 0x4160 5] ++ [Spot.above 0x4160 6, .above 0x4190 14, .above 0x4190 15, .above 0x4190 8, .above 0x4450 1, .above 0x4C08 1, .above 0x4D10 7, .at 0x1311 3, .at 0x2001 9, .at 0x2201 9, .at 0x2300 2, .at 0x2300 3] ++ [Spot.at 0x2300 4, .at 0x2300 5, .at 0x2300 6, .at 0x2300 8, .at 0x2300 9, .at 0x2303 1, .at 0x2303 2, .at 0x4D01 1, .at 0x4D01 9, .objects 0x3010]) ?_ hs
  unfold Sys.lanesReady
  extract_lets on quad trains wasUp z
  have hz : Writes ([Spot.above 0x2400 15, .above 0x2400 2, .above 0x2400 3, .above 0x2480 2, .above 0x2488 4, .above 0x3008 1, .above 0x3008 5, .above 0x3010 2, .above 0x3010 4, .above 0x4140 10, .above 0x4140 11, .above 0x4160 5] ++ [Spot.above 0x4160 6, .above 0x4190 14, .above 0x4190 15, .above 0x4190 8, .above 0x4450 1, .above 0x4C08 1, .above 0x4D10 7, .at 0x1311 3, .at 0x2001 9, .at 0x2201 9, .at 0x2300 2, .at 0x2300 3] ++ [Spot.at 0x2300 4, .at 0x2300 5, .at 0x2300 6, .at 0x2300 8, .at 0x2300 9, .at 0x2303 1, .at 0x2303 2, .at 0x4D01 1, .at 0x4D01 9, .objects 0x3010]) y z := by
    refine (writes_foldl _ _ fun v m _ => ?_).2 (.refl y)
    extract_lets u v1 v2
    split
    · exact .refl v
    · have h1 : Writes ([Spot.above 0x2400 15, .above 0x2400 2, .above 0x2400 3, .above 0x2480 2, .above 0x2488 4, .above 0x3008 1, .above 0x3008 5, .above 0x3010 2, .above 0x3010 4, .above 0x4140 10, .above 0x4140 11, .above 0x4160 5] ++ [Spot.above 0x4160 6, .above 0x4190 14, .above 0x4190 15, .above 0x4190 8, .above 0x4450 1, .above 0x4C08 1, .above 0x4D10 7, .at 0x1311 3, .at 0x2001 9, .at 0x2201 9, .at 0x2300 2, .at 0x2300 3] ++ [Spot.at 0x2300 4, .at 0x2300 5, .at 0x2300 6, .at 0x2300 8, .at 0x2300 9, .at 0x2303 1, .at 0x2303 2, .at 0x4D01 1, .at 0x4D01 9, .objects 0x3010]) v v1 := by
        unfold v1
        split <;> simp [↓writes_primitives]
      split <;> simpa [v2, ↓writes_laneRest, ↓writes_laneTo, ↓writes_sets] using h1
  split
  · exact .refl y
  · split
    · exact (writes_quadCameUp _ _ (by simp)).2 hz
    · exact hz

theorem writes_trainOut (y : Sys) (n : Nat) (count : Option Nat) : Writes ps x (Sys.trainOut y n count) ↔ Writes ps x y := by
  refine Writes.peel (qs := []) ?_ (by simp)
  unfold Sys.trainOut
  simp [↓writes_primitives, ↓writes_sets]

theorem writes_linkRelease (y : Sys) (q : Nat) : Writes ps x (Sys.linkRelease y q) ↔ Writes ps x y := by
  refine Writes.peel (qs := []) ?_ (by simp)
  unfold Sys.linkRelease
  simp (maxDischargeDepth := 7) [↓writes_primitives, ↓writes_linkHello, ↓writes_trainOut, ↓writes_sets, ↓writes_foldl]

theorem writes_linkStart (y : Sys) (q : Nat) : Writes ps x (Sys.linkStart y q) ↔ Writes ps x y := by
  refine Writes.peel (qs := []) ?_ (by simp)
  unfold Sys.linkStart
  simp (maxDischargeDepth := 7) [↓writes_primitives, ↓writes_trainOut, ↓writes_sets, ↓writes_foldl]

theorem writes_partnerTrained (y : Sys) (n : Nat) (on : Bool) : Writes ps x (Sys.partnerTrained y n on) ↔ Writes ps x y := by
  refine Writes.peel (qs := []) ?_ (by simp)
  unfold Sys.partnerTrained
  simp [↓writes_primitives, ↓writes_linkRelease, ↓writes_linkStart, ↓writes_sets]

end Sys2Proof.Machine
end

section
/-!
PROOFS. O34: lanes lose and regain their lock (R229 to R239, R247 to R250).
-/

namespace Sys2Proof.Machine

variable {fs : List Facet} {nums blobs : Nat → Prop} {x y z : Sys} {s : State} {o : Otp} {w : Writer}

/-! ## The scrambler (R229) -/

/-- A tap's bits are those that went before. -/
theorem getLsbD_taps (prev cur : BitVec 64) (i : Nat) :
    (taps prev cur).getLsbD i = (decide (i < 64) &&
      ((if 25 + i < 64 then prev.getLsbD (25 + i) else cur.getLsbD (25 + i - 64)) ^^
        (if 6 + i < 64 then prev.getLsbD (6 + i) else cur.getLsbD (6 + i - 64)))) := by
  have happ (j : Nat) : (cur ++ prev : BitVec 128).getLsbD j = if j < 64 then prev.getLsbD j else cur.getLsbD (j - 64) := BitVec.getLsbD_append
  by_cases h : i < 64 <;> simp [taps, happ, h]

/-- The taps on a word read its lowest 25 bits. -/
theorem taps_congr {prev a b : BitVec 64} (h : ∀ i < 25, a.getLsbD i = b.getLsbD i) : taps prev a = taps prev b := by
  refine BitVec.eq_of_getLsbD_eq fun i hi => ?_
  rw [getLsbD_taps, getLsbD_taps, h _ (by omega), h (6 + i - 64) (by omega)]

theorem descramble_scramble (before plain : BitVec 64) : descramble before (scramble before plain) = plain := by
  have h : taps before (plain ^^^ taps before (plain ^^^ taps before 0)) = taps before (plain ^^^ taps before 0) := by
    refine taps_congr fun i hi => ?_
    rw [BitVec.getLsbD_xor, BitVec.getLsbD_xor, getLsbD_taps, getLsbD_taps, if_pos (by omega), if_pos (by omega), if_pos (by omega), if_pos (by omega)]
  simp only [descramble, scramble, h]
  rw [BitVec.xor_assoc, BitVec.xor_self, BitVec.xor_zero]

theorem taps_not (prev cur : BitVec 64) : taps (~~~prev) (~~~cur) = taps prev cur := by
  refine BitVec.eq_of_getLsbD_eq fun i hi => ?_
  rw [getLsbD_taps, getLsbD_taps]
  have h1 : 25 + i - 64 < 64 := by omega
  have h2 : 6 + i - 64 < 64 := by omega
  by_cases ha : 25 + i < 64 <;> by_cases hb : 6 + i < 64 <;> simp [ha, hb, h1, h2]

theorem descramble_not (prev cur : BitVec 64) : descramble (~~~prev) (~~~cur) = ~~~descramble prev cur := by
  rw [descramble, descramble, taps_not, BitVec.not_xor_left]

/-! ## Training blocks (R236, R238) -/

theorem blockHeader_mk (h : Header) (p : BitVec 64) : blockHeader (mkLaneBlock h p) = h ∧ blockHeader (~~~mkLaneBlock h p) = headerOf (~~~h.bits) ∧
    blockPayload (mkLaneBlock h p) = p ∧ blockPayload (~~~mkLaneBlock h p) = ~~~p := by
  have happ (j : Nat) : (mkLaneBlock h p).getLsbD j = if j < 2 then h.bits.getLsbD j else p.getLsbD (j - 2) := BitVec.getLsbD_append
  have hw : (mkLaneBlock h p).setWidth 2 = h.bits := by
    refine BitVec.eq_of_getLsbD_eq fun i hi => ?_
    simp [happ, hi]
  have hp : blockPayload (mkLaneBlock h p) = p := by
    refine BitVec.eq_of_getLsbD_eq fun i hi => ?_
    simp [blockPayload, happ, hi, show ¬ 2 + i < 2 by omega]
  refine ⟨?_, ?_, hp, ?_⟩
  · rw [blockHeader, hw]
    cases h <;> rfl
  · rw [blockHeader, ← hw]
    congr 1
    refine BitVec.eq_of_getLsbD_eq fun i hi => ?_
    simp [hi]
  · refine BitVec.eq_of_getLsbD_eq fun i hi => ?_
    have := congrArg (fun b => b.getLsbD i) hp
    simp only [blockPayload, BitVec.getLsbD_setWidth, hi, decide_true, Bool.true_and, BitVec.getLsbD_ushiftRight] at this ⊢
    rw [BitVec.getLsbD_not, BitVec.getLsbD_not, this]
    simp [hi]
    omega

/-- Octets are those of the number they spell. -/
theorem le_unLe (l : Bytes) : le l.length (unLe l) = l := by
  induction l with
  | nil => rfl
  | cons b l ih =>
    have hb := b.isLt
    have hdiv : (b.toNat + 256 * unLe l) / 256 = unLe l := by omega
    rw [List.length_cons, unLe, le, hdiv, ih]
    congr 1
    refine BitVec.eq_of_toNat_eq ?_
    rw [BitVec.toNat_ofNat]
    omega

/-- An octet that closes a list by its exclusive or. -/
theorem xorAll_closed (b : Bytes) : xorAll (b ++ [xorAll b]) = 0 := by
  rw [xorAll, List.foldl_append]
  exact BitVec.xor_self

theorem readPayload_trainingBytes {i p n : Nat} {trained inverted : Bool} (hi : i < 64) (hp : p < 256) :
    readPayload (BitVec.ofNat 64 (unLe (trainingBytes i p trained n))) inverted = some ⟨i, p, trained, inverted⟩ := by
  have hlen : (trainingBytes i p trained n).length = 8 := rfl
  have hlt : unLe (trainingBytes i p trained n) < 2 ^ 64 := by
    have h := unLe_lt (trainingBytes i p trained n)
    rwa [hlen, show (256 : Nat) ^ 8 = 2 ^ 64 from rfl] at h
  have hle : le 8 (BitVec.ofNat 64 (unLe (trainingBytes i p trained n))).toNat = trainingBytes i p trained n := by
    rw [BitVec.toNat_ofNat, Nat.mod_eq_of_lt hlt]
    have h := le_unLe (trainingBytes i p trained n)
    rwa [hlen] at h
  have hxor : xorAll (trainingBytes i p trained n) = 0 := xorAll_closed _
  have h0 : rdLe (trainingBytes i p trained n) 0 1 = 0xD2 := rfl
  have h1 : rdLe (trainingBytes i p trained n) 1 1 = i := by
    change unLe (le 1 i) = i
    rw [unLe_le]
    omega
  have h2 : rdLe (trainingBytes i p trained n) 2 1 = p := by
    change unLe (le 1 p) = p
    rw [unLe_le]
    omega
  have h3 : rdLe (trainingBytes i p trained n) 3 1 = if trained then 1 else 0 := by cases trained <;> rfl
  have h6 : rdLe (trainingBytes i p trained n) 6 1 = 0x5A := rfl
  unfold readPayload
  simp only [hle, h0, h1, h2, h3, h6, hxor, hi, true_and, and_true]
  cases trained <;> rfl

theorem readTraining_sent (before : BitVec 64) (i p n : Nat) (trained : Bool) (hi : i < 64) (hp : p < 256) :
    let b := trainingBlock before i p trained n
    readTraining (before, b) = some ⟨i, p, trained, false⟩ ∧ readTraining (~~~before, ~~~b) = some ⟨i, p, trained, true⟩ := by
  intro b
  obtain ⟨hh, hn, hpay, hnpay⟩ := blockHeader_mk .control (scramble before (BitVec.ofNat 64 (unLe (trainingBytes i p trained n))))
  constructor
  · simp only [readTraining, b, trainingBlock, hh, hpay, descramble_scramble]
    exact readPayload_trainingBytes hi hp
  · simp only [readTraining, b, trainingBlock, hn, hnpay, descramble_not, descramble_scramble, BitVec.not_not]
    exact readPayload_trainingBytes hi hp

/-! ## A lane that stops delivering (R233, R235) -/

/-- Entries of two objects differ. -/
theorem ent_ne {i j a b : Nat} (h : i ≠ j) (ha : a < 256) (hb : b < 256) : ent i a ≠ ent j b := by
  intro e
  have hi := ent_div i ha
  rw [e, ent_div j hb] at hi
  exact h hi.symm

/-- The entries of lane n that its state's display writes, and the one of its group or quad. -/
def stateNums (n : Nat) : List Nat := [ent (0x2400 + n) 2, ent (0x2400 + n) 3, ent (0x2480 + n / 6) 2, ent (0x2488 + quadOf n) 4]

theorem sameBut_showMates (y : Sys) (n : Nat) (hg : nums (ent (0x2480 + n / 6) 2)) (hq : nums (ent (0x2488 + quadOf n) 4)) :
    SameBut fs nums blobs y (y.showMates n) := by
  unfold Sys.showMates
  dsimp only
  split
  · exact sameBut_wr _ _ _ hg
  · exact sameBut_wr _ _ _ hq

theorem sameBut_laneTo (y : Sys) (n : Nat) (t : LaneState) : SameBut [] (only (stateNums n)) (only [ent (0x2400 + n) 0x0F]) y (y.laneTo n t) := by
  unfold Sys.laneTo
  split
  · exact .refl y
  · have habort : SameBut [] (only (stateNums n)) (only [ent (0x2400 + n) 0x0F]) y (y.abortScan n) := by
      unfold Sys.abortScan
      dsimp only
      split
      · exact sameBut_wrB _ _ _ (by simp)
      · exact .refl y
    have hstate : only (stateNums n) (ent (0x2400 + n) 2) := by simp [stateNums]
    refine ((habort.trans (sameBut_wr _ _ t.code hstate)).trans ?_).trans (sameBut_showMates _ n (by simp [stateNums]) (by simp [stateNums]))
    have hflag : only (stateNums n) (ent (0x2400 + n) 3) := by simp [stateNums]
    exact sameBut_laneFlag _ hflag _ _

theorem Sys.lanes_laneTo (y : Sys) (n : Nat) (t : LaneState) : (y.laneTo n t).lanes = y.lanes := ((sameBut_laneTo y n t).1 .lanes (by simp)).symm
theorem Sys.lane_laneTo (y : Sys) (n : Nat) (t : LaneState) (j : Nat) : (y.laneTo n t).lane j = y.lane j := by rw [lane, lane, lanes_laneTo]

theorem Sys.rd_laneTo (y : Sys) {n : Fin 80} {t : LaneState} {k : Nat} (hk : k ∉ stateNums n.val) : (y.laneTo n.val t).rd k = y.rd k :=
  (sameBut_laneTo y n.val t).2.1 k (by simpa using hk)

/-- A lane is in the state it was taken to. -/
theorem Sys.laneIs_laneTo (y : Sys) (n : Fin 80) (t : LaneState) : (y.laneTo n.val t).laneIs n.val t = true := by
  unfold laneTo
  split
  · assumption
  · have hmates (z : Sys) : (z.showMates n.val).rd (ent (0x2400 + n.val) 2) = z.rd (ent (0x2400 + n.val) 2) := by
      have h := sameBut_showMates (fs := []) (nums := only [ent (0x2480 + n.val / 6) 2, ent (0x2488 + quadOf n.val) 4]) (blobs := only []) z n.val
        (by simp) (by simp)
      exact h.2.1 _ (by simp [ent]; omega)
    have hfrozen (z : Sys) : (z.showFrozen n.val).rd (ent (0x2400 + n.val) 2) = z.rd (ent (0x2400 + n.val) 2) :=
      (Sys.rd_wr ..).trans (if_neg (by unfold ent; omega))
    rw [laneIs, hmates, hfrozen]
    simp

/-- Flags other than FROZEN are no lane's state. -/
theorem Sys.laneHas_laneTo (y : Sys) (n : Fin 80) (t : LaneState) {f : LaneFlag} (hf : f ≠ .frozen) (m : Nat) :
    (y.laneTo n.val t).laneHas m f = y.laneHas m f := by
  unfold laneTo
  split
  · rfl
  · have hmates (z : Sys) : (z.showMates n.val).laneHas m f = z.laneHas m f := by
      have h := sameBut_showMates (fs := []) (nums := only [ent (0x2480 + n.val / 6) 2, ent (0x2488 + quadOf n.val) 4]) (blobs := only []) z n.val
        (by simp) (by simp)
      have hk := h.2.1 (ent (0x2400 + m) 3) (by simp [ent]; omega)
      rw [laneHas, laneHas, rdBit, rdBit, hk]
    have habort (z : Sys) (v : Nat) : ((z.abortScan n.val).wr (ent (0x2400 + n.val) 2) v).laneHas m f = z.laneHas m f := by
      have hk : ((z.abortScan n.val).wr (ent (0x2400 + n.val) 2) v).rd (ent (0x2400 + m) 3) = z.rd (ent (0x2400 + m) 3) := by
        rw [Sys.rd_wr, if_neg (by unfold ent; omega)]
        unfold abortScan
        dsimp only
        split <;> simp
      rw [laneHas, laneHas, rdBit, rdBit, hk]
    rw [hmates, showFrozen, laneHas_laneFlag_ne _ (.inr hf.symm), habort]

/-- LANE_DOWN at a protocol leaves the lanes, their entries and those of their groups and quads. -/
theorem Sys.rd_laneDown (y : Sys) (n : Nat) {i e : Nat} (hi : 0x2400 ≤ i ∧ i < 0x3008) (he : e < 256) : (y.laneDown n).rd (ent i e) = y.rd (ent i e) := by
  refine ((writes_laneDown y n (fun _ => id)).2 (.refl y)).rd_eq ?_
  simp only [List.cons_append, List.nil_append, List.mem_cons, List.not_mem_nil, or_false, forall_eq_or_imp, forall_eq, Spot.hits, ent_div i he, ent_mod i he]
  unfold ent
  omega

theorem Sys.lanes_laneDown (y : Sys) (n : Nat) : (y.laneDown n).lanes = y.lanes :=
  (((touches_laneDown y n (fun _ => id)).2 (.refl y)).facet (p := .lanes) (by simp) (by simp)).symm

/-- The record of a lane that stops delivering. -/
def Sys.lostLane (y : Sys) (n step : Nat) (resume : Bool) : Lane :=
  { (if step ≤ 2 then y.laneSilent n (y.lane n) else y.lane n) with
    step := step, resume := resume, downAt := (y.lane n).downAt <|> (if y.laneIs n .active then some y.up else none), heard := none, round := 0,
    quick := false, prbs := none, partner := decide (2 < step) && (y.lane n).partner }

theorem Sys.step_lostLane (y : Sys) (n step : Nat) (resume : Bool) : (y.lostLane n step resume).step = step := rfl
theorem Sys.resume_lostLane (y : Sys) (n step : Nat) (resume : Bool) : (y.lostLane n step resume).resume = resume := rfl
theorem Sys.losAt_lostLane (y : Sys) (n step : Nat) (resume : Bool) : (y.lostLane n step resume).losAt = (y.lane n).losAt := by
  unfold lostLane
  dsimp only
  split <;> rfl

/-- A lane that stops delivering, before its protocol hears of it. -/
def Sys.laneStopped (y : Sys) (n step : Nat) (resume : Bool) : Sys :=
  let z := ((y.setLane n (y.lostLane n step resume)).laneFlag n .block false).laneFlag n .hiBer false
  (if step ≤ 4 then z.laneFlag n .cdr false else z).laneTo n .bringup

theorem Sys.laneLost_eq (y : Sys) (n step : Nat) (resume : Bool) :
    y.laneLost n step resume = if y.laneIs n .active then (y.laneStopped n step resume).laneDown n else y.laneStopped n step resume := rfl

/-- What such a lane shows. -/
theorem Sys.laneLost_spec (y : Sys) (n : Fin 80) (step : Nat) (resume : Bool) :
    let z := y.laneLost n.val step resume
    z.laneIs n.val .bringup = true ∧ z.lanes = (y.setLane n.val (y.lostLane n.val step resume)).lanes ∧ z.laneHas n.val .block = false ∧
      (step ≤ 4 → z.laneHas n.val .cdr = false) ∧ z.laneHas n.val .los = y.laneHas n.val .los ∧
      (∀ k : Nat, 0x2400 ≤ k / 256 → k / 256 < 0x3008 → k ∉ stateNums n.val → z.rd k = y.rd k) := by
  intro z
  let v := ((y.setLane n.val (y.lostLane n.val step resume)).laneFlag n.val .block false).laneFlag n.val .hiBer false
  have hv : y.laneStopped n.val step resume = (if step ≤ 4 then v.laneFlag n.val .cdr false else v).laneTo n.val .bringup := rfl
  have hflags (f : LaneFlag) (m : Nat) (hf : f ≠ .frozen) : (y.laneStopped n.val step resume).laneHas m f =
      (if step ≤ 4 then v.laneFlag n.val .cdr false else v).laneHas m f := by rw [hv, laneHas_laneTo _ _ _ hf]
  have hdown : (∀ k : Nat, 0x2400 ≤ k / 256 → k / 256 < 0x3008 → z.rd k = (y.laneStopped n.val step resume).rd k) ∧
      z.lanes = (y.laneStopped n.val step resume).lanes := by
    unfold z
    rw [laneLost_eq]
    split
    · refine ⟨fun k h1 h2 => ?_, lanes_laneDown ..⟩
      have h := rd_laneDown (y.laneStopped n.val step resume) n.val ⟨h1, h2⟩ (Nat.mod_lt k (by decide : 0 < 256))
      rwa [show ent (k / 256) (k % 256) = k by unfold ent; omega] at h
    · exact ⟨fun _ _ _ => rfl, rfl⟩
  have hhas (f : LaneFlag) : z.laneHas n.val f = (y.laneStopped n.val step resume).laneHas n.val f := by
    have h : ent (0x2400 + n.val) 3 / 256 = 0x2400 + n.val := ent_div _ (by decide)
    rw [laneHas, laneHas, rdBit, rdBit, hdown.1 _ (by omega) (by omega)]
  refine ⟨?_, ?_, ?_, ?_, ?_, ?_⟩
  · have h : ent (0x2400 + n.val) 2 / 256 = 0x2400 + n.val := ent_div _ (by decide)
    rw [laneIs, hdown.1 _ (by omega) (by omega), ← laneIs, hv]
    exact laneIs_laneTo ..
  · rw [hdown.2, hv, lanes_laneTo]
    split <;> rfl
  · rw [hhas, hflags _ _ (by decide)]
    have hb : v.laneHas n.val .block = false := by
      rw [laneHas_laneFlag_ne _ (.inr (by decide)), laneHas_laneFlag]
    split
    · rwa [laneHas_laneFlag_ne _ (.inr (by decide))]
    · exact hb
  · intro hstep
    rw [hhas, hflags _ _ (by decide), if_pos hstep, laneHas_laneFlag]
  · rw [hhas, hflags _ _ (by decide)]
    have hb : v.laneHas n.val .los = y.laneHas n.val .los := by
      rw [laneHas_laneFlag_ne _ (.inr (by decide)), laneHas_laneFlag_ne _ (.inr (by decide)), laneHas_setLane]
    split
    · rwa [laneHas_laneFlag_ne _ (.inr (by decide))]
    · exact hb
  · intro k h1 h2 hk
    have h3 : k ≠ ent (0x2400 + n.val) 3 := fun h => hk (by simp [stateNums, h])
    rw [hdown.1 k h1 h2, hv, rd_laneTo _ hk]
    have hb : v.rd k = y.rd k := by simp [v, laneFlag, h3]
    split
    · exact ((Sys.rd_wr ..).trans (if_neg h3)).trans hb
    · exact hb

/-! ## Loss (R233 to R235) -/

theorem Sys.lane_of_lanes {n : Nat} {u : Lane} (h : z.lanes = (y.setLane n u).lanes) : z.lane n = u := by
  rw [lane, h, ← lane, lane_setLane, if_pos rfl]

theorem not_mem_stateNums {n : Fin 80} {e : Nat} (h : e ≠ 2 ∧ e ≠ 3 ∧ e < 256) : ent (0x2400 + n.val) e ∉ stateNums n.val := by
  simp only [stateNums, List.mem_cons, List.not_mem_nil, or_false, ent]
  omega

/-- A count of a lane is kept while the lane is lost. -/
theorem Sys.rd_laneLost (y : Sys) (n : Fin 80) (step : Nat) (resume : Bool) {e : Nat} (h : e ≠ 2 ∧ e ≠ 3 ∧ e < 256) :
    (y.laneLost n.val step resume).rd (ent (0x2400 + n.val) e) = y.rd (ent (0x2400 + n.val) e) := by
  obtain ⟨-, -, -, -, -, hrd⟩ := y.laneLost_spec n step resume
  have hd : ent (0x2400 + n.val) e / 256 = 0x2400 + n.val := ent_div _ h.2.2
  exact hrd _ (by omega) (by omega) (not_mem_stateNums h)

/-- What LOS_ASSERT sets before the lane stops. -/
def Sys.losSet (y : Sys) (n : Nat) : Sys :=
  let z := (y.laneFlag n .los true).inc (ent (0x2400 + n) 0x0D)
  z.setLane n { z.lane n with losAt := some z.up }

theorem losAssert_stops (s : State) (n : Fin 80) (hactive : s.sys.laneIs n.val .active = true) (hlos : s.sys.laneHas n.val .los = false) :
    Completes (.losAssert n) s fun t =>
      t.sys.laneHas n.val .los = true ∧ t.sys.rd (ent (0x2400 + n.val) 0x0D) = (s.sys.rd (ent (0x2400 + n.val) 0x0D) + 1) % 2 ^ 32 ∧
      t.sys.laneIs n.val .bringup = true ∧ (t.sys.lane n.val).step = 3 ∧ (t.sys.lane n.val).losAt = some s.sys.up ∧ t.otp = s.otp := by
  have hexec : ∃ b, Runs (.losAssert n) s (((s.sys.losSet n.val).raiseLimited n.val 0x0701 n.val b).laneLost n.val 3 true) := by
    simp only [Runs, exec_losAssert, execLosAssert, onSys_eq, hactive, hlos, Bool.true_or, Bool.not_true, Bool.or_self, Bool.false_eq_true, if_false, if_true]
    exact ⟨_, rfl⟩
  obtain ⟨b, hexec⟩ := hexec
  generalize hz : (s.sys.losSet n.val).raiseLimited n.val 0x0701 n.val b = z at hexec
  have hset : z.laneHas n.val .los = true ∧ z.rd (ent (0x2400 + n.val) 0x0D) = (s.sys.rd (ent (0x2400 + n.val) 0x0D) + 1) % 2 ^ 32 ∧
      (z.lane n.val).losAt = some s.sys.up := by
    have hne : ent (0x2400 + n.val) 3 ≠ ent (0x2400 + n.val) 0x0D := by unfold ent; omega
    subst hz
    refine ⟨?_, ?_, ?_⟩
    · simpa [Sys.laneHas, Sys.losSet, Sys.inc, hne] using s.sys.laneHas_laneFlag n.val .los true
    · simp [Sys.losSet, Sys.inc, Sys.laneFlag]
    · have hlanes : ((s.sys.losSet n.val).raiseLimited n.val 0x0701 n.val b).lanes = (s.sys.losSet n.val).lanes := by simp
      rw [Sys.lane, hlanes, ← Sys.lane, Sys.losSet, Sys.lane_setLane, if_pos rfl]
      rfl
  obtain ⟨hl, hcount, hat⟩ := hset
  obtain ⟨hup, hlanes, -, -, hkeep, -⟩ := z.laneLost_spec n 3 true
  refine ⟨_, hexec, hkeep.trans hl, (z.rd_laneLost n 3 true (by decide)).trans hcount, hup, ?_, ?_, rfl⟩
  · rw [Sys.lane_of_lanes hlanes, Sys.step_lostLane]
  · rw [Sys.lane_of_lanes hlanes, Sys.losAt_lostLane, hat]

/-- A lock loss of an active lane: the lane is lost, and then it is counted and told. -/
theorem Sys.lockLost_active (y : Sys) (n cause invalid step : Nat) (h : y.laneIs n .active = true) : ∃ b, y.lockLost n cause invalid step =
    ((y.laneLost n step (cause != 2 && ((y.lane n).resume || (y.lane n).step == 0 || decide (6 ≤ (y.lane n).step)))).inc
      (ent (0x2400 + n) 0x0C)).raiseLimited n 0x0703 n b := by
  unfold lockLost
  simp only [h, Bool.true_or, if_true]
  exact ⟨_, rfl⟩

/-- A report after the loss changes no state of the lane. -/
theorem lockLost_report (y : Sys) (n : Nat) (b : Bytes) (z : Sys) (hz : z = (y.inc (ent (0x2400 + n) 0x0C)).raiseLimited n 0x0703 n b) :
    (∀ t, z.laneIs n t = y.laneIs n t) ∧ (∀ f, z.laneHas n f = y.laneHas n f) ∧ z.lane n = y.lane n ∧
      z.rd (ent (0x2400 + n) 0x0C) = (y.rd (ent (0x2400 + n) 0x0C) + 1) % 2 ^ 32 ∧
      z.rd (ent (0x2400 + n) 0x0B) = y.rd (ent (0x2400 + n) 0x0B) := by
  have hlanes : z.lanes = y.lanes := by
    rw [hz]
    simp [Sys.inc]
  refine ⟨fun t => ?_, fun f => ?_, by rw [Sys.lane, hlanes]; rfl, ?_, ?_⟩ <;>
    simp [hz, Sys.laneIs, Sys.laneHas, Sys.inc]

theorem cdrLockLost_stops (s : State) (n : Fin 80) (i : BitVec 32) (hactive : s.sys.laneIs n.val .active = true) (hstep : (s.sys.lane n.val).step = 0)
    (hcdr : s.sys.laneHas n.val .cdr = true) (hlos : s.sys.laneHas n.val .los = false) :
    Completes (.cdrLockLost n i) s fun t =>
      t.sys.laneIs n.val .bringup = true ∧ (t.sys.lane n.val).step = 4 ∧ (t.sys.lane n.val).resume = true ∧ t.sys.laneHas n.val .cdr = false ∧
      t.sys.rd (ent (0x2400 + n.val) 0x0C) = (s.sys.rd (ent (0x2400 + n.val) 0x0C) + 1) % 2 ^ 32 ∧ t.otp = s.otp := by
  obtain ⟨b, hlost⟩ := s.sys.lockLost_active n.val 0 i.toNat 4 hactive
  have hexec : Runs (.cdrLockLost n i) s (((s.sys.laneLost n.val 4 true).inc (ent (0x2400 + n.val) 0x0C)).raiseLimited n.val 0x0703 n.val b) := by
    have hresume : ((0 : Nat) != 2 && ((s.sys.lane n.val).resume || (s.sys.lane n.val).step == 0 || decide (6 ≤ (s.sys.lane n.val).step))) = true := by
      simp [hstep]
    rw [hresume] at hlost
    simp only [Runs, exec_cdrLockLost, execCdrLockLost, onSys_eq, hcdr, hactive, hlos, Bool.true_or, Bool.not_true, Bool.or_self, Bool.false_eq_true,
      if_false, hlost]
  obtain ⟨his, hhas, hlane, hcount, -⟩ := lockLost_report (s.sys.laneLost n.val 4 true) n.val b _ rfl
  obtain ⟨hup, hlanes, -, hcdr', -, -⟩ := s.sys.laneLost_spec n 4 true
  refine ⟨_, hexec, (his _).trans hup, ?_, ?_, (hhas _).trans (hcdr' (by decide)), ?_, rfl⟩
  · rw [hlane, Sys.lane_of_lanes hlanes, Sys.step_lostLane]
  · rw [hlane, Sys.lane_of_lanes hlanes, Sys.resume_lostLane]
  · rw [hcount, Sys.rd_laneLost (e := 0x0C) _ _ _ _ (by decide)]

theorem Sys.countInvalid_keeps (y : Sys) (n k : Nat) :
    (∀ t, (y.countInvalid n k).laneIs n t = y.laneIs n t) ∧ (∀ f, (y.countInvalid n k).laneHas n f = y.laneHas n f) ∧
      (y.countInvalid n k).rd (ent (0x2400 + n) 0x0B) = (y.rd (ent (0x2400 + n) 0x0B) + k) % 2 ^ 64 ∧
      (y.countInvalid n k).lane n = { y.lane n with errored := (y.lane n).errored + k } ∧
      SameBut [.lanes] (only [ent (0x2400 + n) 0x0B]) (only []) y (y.countInvalid n k) := by
  refine ⟨fun t => ?_, fun f => ?_, ?_, ?_, ?_⟩
  · simp [laneIs, countInvalid, inc64]
  · simp [laneHas, countInvalid, inc64]
  · simp [countInvalid, inc64]
  · exact (Sys.lane_setLane y n _ n).trans (if_pos rfl)
  · simp [countInvalid, inc64]

theorem blockLockLost_stops (s : State) (n : Fin 80) (i : BitVec 32) (h : List (BitVec 2)) (hactive : s.sys.laneIs n.val .active = true)
    (hblock : s.sys.laneHas n.val .block = true) (hlen : h.length = 64) (hbad : 16 ≤ invalidHeaders h) :
    Completes (.blockLockLost n i h) s fun t =>
      t.sys.laneIs n.val .bringup = true ∧ (t.sys.lane n.val).step = 6 ∧ t.sys.laneHas n.val .block = false ∧
      t.sys.rd (ent (0x2400 + n.val) 0x0B) = (s.sys.rd (ent (0x2400 + n.val) 0x0B) + i.toNat) % 2 ^ 64 ∧ t.otp = s.otp := by
  obtain ⟨his, -, hcount, -⟩ := s.sys.countInvalid_keeps n.val i.toNat
  generalize hy : s.sys.countInvalid n.val i.toNat = y at his hcount
  obtain ⟨b, hlost⟩ := y.lockLost_active n.val 1 (invalidHeaders h) 6 ((his _).trans hactive)
  generalize ((1 : Nat) != 2 && ((y.lane n.val).resume || (y.lane n.val).step == 0 || decide (6 ≤ (y.lane n.val).step))) = resume at hlost
  have hexec : Runs (.blockLockLost n i h) s (((y.laneLost n.val 6 resume).inc (ent (0x2400 + n.val) 0x0C)).raiseLimited n.val 0x0703 n.val b) := by
    simp only [Runs, exec_blockLockLost, execBlockLockLost, onSys_eq, hblock, hactive, Bool.true_or, Bool.not_true, Bool.or_self, Bool.false_eq_true, if_false,
      if_pos (And.intro hlen hbad), hy, hlost]
  obtain ⟨his', hhas, hlane, -, hrd⟩ := lockLost_report (y.laneLost n.val 6 resume) n.val b _ rfl
  obtain ⟨hup, hlanes, hblock', -, -, -⟩ := y.laneLost_spec n 6 resume
  refine ⟨_, hexec, (his' _).trans hup, ?_, (hhas _).trans hblock', ?_, rfl⟩
  · rw [hlane, Sys.lane_of_lanes hlanes, Sys.step_lostLane]
  · rw [hrd, Sys.rd_laneLost (e := 0x0B) _ _ _ _ (by decide), hcount]

theorem blockLockLost_counts (s : State) (n : Fin 80) (i : BitVec 32) (h : List (BitVec 2)) (hactive : s.sys.laneIs n.val .active = true)
    (hblock : s.sys.laneHas n.val .block = true) (hkeep : h.length ≠ 64 ∨ invalidHeaders h < 16) :
    Runs (.blockLockLost n i h) s (s.sys.countInvalid n.val i.toNat) := by
  have hlost : ¬ (h.length = 64 ∧ 16 ≤ invalidHeaders h) := by omega
  simp only [Runs, exec_blockLockLost, execBlockLockLost, onSys_eq, hblock, hactive, Bool.true_or, Bool.not_true, Bool.or_self, Bool.false_eq_true, if_false,
    if_neg hlost]

/-! ## Reports (R230, R231, R247 to R251) -/

/-- The entries of its quad that a lane's report counts in. -/
theorem sameBut_laneReport (y : Sys) (n : Nat) (r : LaneReport) :
    SameBut [.log, .lanes] (only ([6, 7, 8].map (ent (0x2488 + quadOf n)))) (only []) y (y.laneReport n r) := by
  unfold Sys.laneReport
  split
  · exact .refl y
  · dsimp only
    split
    · simp [Sys.inc64]
    · split <;> simp [Sys.inc64]
    · exact .refl y

theorem Sys.lane_raiseLimited (y : Sys) (key code source : Nat) (b : Bytes) (n : Nat) : (y.raiseLimited key code source b).lane n = y.lane n := by
  rw [lane, raiseLimited_lanes, lane]

theorem Sys.errored_laneReport (y : Sys) (n : Nat) (r : LaneReport) : ((y.laneReport n r).lane n).errored = (y.lane n).errored := by
  have hlane (z : Sys) (u : Lane) (hz : z.lanes = (y.setLane n u).lanes) (hu : u.errored = (y.lane n).errored) : (z.lane n).errored = (y.lane n).errored := by
    rw [lane_of_lanes hz, hu]
  unfold laneReport
  split
  · rfl
  · dsimp only
    split
    · exact hlane _ _ rfl rfl
    · split
      · exact hlane _ _ rfl rfl
      · rw [lane_raiseLimited]
        exact hlane _ _ rfl rfl
    · rfl

/-- A report touches no lane's entry. -/
theorem Sys.rd_laneReport (y : Sys) (n : Fin 80) (r : LaneReport) (e : Nat) (he : e < 256) :
    (y.laneReport n.val r).rd (ent (0x2400 + n.val) e) = y.rd (ent (0x2400 + n.val) e) := by
  refine (sameBut_laneReport y n.val r).2.1 _ ?_
  simp [ent]
  omega

/-- The entries that the reports of a lane's errors change. -/
def reportNums (n : Nat) : List Nat := [ent (0x2400 + n) 3, ent (0x2400 + n) 0x0B] ++ [6, 7, 8].map (ent (0x2488 + quadOf n))

theorem reportNums_flags (n : Nat) : only (reportNums n) (ent (0x2400 + n) 3) := by simp [reportNums]

theorem sameBut_reported (y : Sys) (n k : Nat) (r : LaneReport) :
    SameBut [.log, .lanes] (only (reportNums n)) (only []) y ((y.countInvalid n k).laneReport n r) := by
  obtain ⟨-, -, -, -, hcount⟩ := y.countInvalid_keeps n k
  refine (hcount.mono (by simp) (fun j hj => ?_) (fun _ => id)).trans ((sameBut_laneReport _ n r).mono (fun _ => id) (fun j hj => ?_) (fun _ => id))
  · simp only [only, List.mem_singleton] at hj
    simp [reportNums, hj]
  · exact List.mem_append_right _ hj

theorem hiBerSet_flags (s : State) (n : Fin 80) (r : LaneReport) (hactive : s.sys.laneIs n.val .active = true) (hw : 97 < r.window.toNat) :
    Completes (.hiBerSet n r) s fun t =>
      t.sys.laneHas n.val .hiBer = true ∧ t.sys.laneIs n.val .active = true ∧
      t.sys.rd (ent (0x2400 + n.val) 0x0B) = (s.sys.rd (ent (0x2400 + n.val) 0x0B) + r.invalid.toNat) % 2 ^ 64 ∧
      (t.sys.lane n.val).errored = (s.sys.lane n.val).errored + r.invalid.toNat ∧
      Leaves [.log, .lanes] (only ([ent (0x2400 + n.val) 3, ent (0x2400 + n.val) 0x0B] ++ [6, 7, 8].map (ent (0x2488 + quadOf n.val)))) (only []) s t := by
  obtain ⟨his, -, hcount, hlane, -⟩ := s.sys.countInvalid_keeps n.val r.invalid.toNat
  have hsame := sameBut_reported s.sys n.val r.invalid.toNat r
  have herr := (s.sys.countInvalid n.val r.invalid.toNat).errored_laneReport n.val r
  have hrd := (s.sys.countInvalid n.val r.invalid.toNat).rd_laneReport n r
  rw [hlane] at herr
  have hexec : ∃ b, Runs (.hiBerSet n r) s
      ((((s.sys.countInvalid n.val r.invalid.toNat).laneReport n.val r).laneFlag n.val .hiBer true).raiseLimited n.val 0x0705 n.val b) := by
    simp only [Runs, exec_hiBerSet, execHiBerSet, onSys_eq, hactive, Bool.not_true, Bool.false_eq_true, if_false, if_neg (show ¬ r.window.toNat ≤ 97 by omega)]
    exact ⟨_, rfl⟩
  obtain ⟨b, hexec⟩ := hexec
  generalize (s.sys.countInvalid n.val r.invalid.toNat).laneReport n.val r = z at hsame herr hrd hexec
  have hstate : z.rd (ent (0x2400 + n.val) 2) = s.sys.rd (ent (0x2400 + n.val) 2) := by
    rw [hrd 2 (by decide)]
    simp [Sys.countInvalid, Sys.inc64]
  refine ⟨_, hexec, ?_, ?_, ?_, ?_, leaves_of_sameBut ?_⟩
  · simpa [Sys.laneHas] using z.laneHas_laneFlag n.val .hiBer true
  · simpa [Sys.laneIs, Sys.laneFlag, hstate] using hactive
  · simpa [Sys.laneFlag, hrd 0x0B (by decide)] using hcount
  · have hlanes : ((z.laneFlag n.val .hiBer true).raiseLimited n.val 0x0705 n.val b).lanes = z.lanes := by simp [Sys.laneFlag]
    rw [Sys.lane, hlanes, ← Sys.lane, herr]
  · have hflag := hsame.trans (sameBut_laneFlag z (reportNums_flags n.val) .hiBer true)
    simpa [reportNums] using hflag

theorem hiBerClear_clears (s : State) (n : Fin 80) (r : LaneReport) (hw : r.window.toNat ≤ 97) :
    Completes (.hiBerClear n r) s fun t =>
      t.sys.laneHas n.val .hiBer = false ∧
      (s.sys.laneHas n.val .block = true → t.sys.rd (ent (0x2400 + n.val) 0x0B) = (s.sys.rd (ent (0x2400 + n.val) 0x0B) + r.invalid.toNat) % 2 ^ 64) ∧
      Leaves [.log, .lanes] (only ([ent (0x2400 + n.val) 3, ent (0x2400 + n.val) 0x0B] ++ [6, 7, 8].map (ent (0x2488 + quadOf n.val)))) (only []) s t := by
  let z := if s.sys.laneHas n.val .block then (s.sys.countInvalid n.val r.invalid.toNat).laneReport n.val r else s.sys
  have hexec : Runs (.hiBerClear n r) s (z.laneFlag n.val .hiBer false) := by
    simp only [Runs, exec_hiBerClear, execHiBerClear, onSys_eq, if_pos hw]
    rfl
  have hsame : SameBut [.log, .lanes] (only (reportNums n.val)) (only []) s.sys z := by
    unfold z
    split
    · exact sameBut_reported ..
    · exact .refl _
  refine ⟨_, hexec, z.laneHas_laneFlag .., fun hblock => ?_, leaves_of_sameBut (hsame.trans (sameBut_laneFlag z (reportNums_flags n.val) .hiBer false))⟩
  obtain ⟨-, -, hcount, -⟩ := s.sys.countInvalid_keeps n.val r.invalid.toNat
  have hz : z = (s.sys.countInvalid n.val r.invalid.toNat).laneReport n.val r := if_pos hblock
  have hrd : (z.laneFlag n.val .hiBer false).rd (ent (0x2400 + n.val) 0x0B) = z.rd (ent (0x2400 + n.val) 0x0B) := by simp [Sys.laneFlag]
  rw [hrd, hz, Sys.rd_laneReport _ _ _ _ (by decide), hcount]

theorem laneReport_eth100 (y : Sys) (n : Nat) (r : LaneReport) (h48 : 48 ≤ n) (_ : n < 80) (hfn : y.quadFn (quadOf n) = .eth100) :
    let z := y.laneReport n r
    z.rd (ent (0x2488 + quadOf n) 7) = (y.rd (ent (0x2488 + quadOf n) 7) + r.corrected.toNat) % 2 ^ 64 ∧
    z.rd (ent (0x2488 + quadOf n) 8) = (y.rd (ent (0x2488 + quadOf n) 8) + r.uncorrected.toNat) % 2 ^ 64 ∧
    (r.uncorrected = 0 → z.log = y.log) ∧
    (r.uncorrected ≠ 0 → y.limitedNow 0x070A (quadOf n) = false → y.log.pending.length < 256 →
      z.log.pending.map (·.code) = y.log.pending.map (·.code) ++ [0x070A]) := by
  intro z
  have hz : ∃ u b, z = if r.uncorrected = 0 then ((y.inc64 (ent (0x2488 + quadOf n) 7) r.corrected.toNat).inc64 (ent (0x2488 + quadOf n) 8) r.uncorrected.toNat).setLane n u
      else (((y.inc64 (ent (0x2488 + quadOf n) 7) r.corrected.toNat).inc64 (ent (0x2488 + quadOf n) 8) r.uncorrected.toNat).setLane n u).raiseLimited
        (quadOf n) 0x070A (quadOf n) b := by
    unfold z Sys.laneReport
    simp only [if_neg (show ¬ n < 48 by omega), hfn]
    exact ⟨_, _, rfl⟩
  obtain ⟨u, b, hz⟩ := hz
  clear_value z
  subst hz
  refine ⟨?_, ?_, fun h0 => ?_, fun h0 hlim hroom => ?_⟩
  · split <;> simp [Sys.inc64]
  · split <;> simp [Sys.inc64]
  · rw [if_pos h0]
    rfl
  · rw [if_neg h0, Sys.log_raiseLimited _ _ (by exact hlim) (by exact hroom), List.map_append]
    rfl

theorem laneReport_prbs (y : Sys) (n : Nat) (r : LaneReport) (h48 : 48 ≤ n) (_ : n < 80) (hfn : y.quadFn (quadOf n) = .prbs) :
    (y.laneReport n r).rd (ent (0x2488 + quadOf n) 6) =
      (y.rd (ent (0x2488 + quadOf n) 6) + (prbsTake (y.rd (ent (0x2488 + quadOf n) 5)) (y.lane n).prbs r.bits).1) % 2 ^ 64 := by
  unfold Sys.laneReport
  simp [if_neg (show ¬ n < 48 by omega), hfn, Sys.inc64]

/-! ## Training (R236 to R241) -/

/-- The lanes hold the maps that they held. -/
structure SameMaps (y z : Sys) : Prop where
  stored : ∀ n, (z.lane n).stored = (y.lane n).stored

theorem SameMaps.refl (y : Sys) : SameMaps y y := ⟨fun _ => rfl⟩
theorem SameMaps.trans (h : SameMaps x y) (g : SameMaps y z) : SameMaps x z := ⟨fun n => (g.stored n).trans (h.stored n)⟩
theorem SameMaps.of_lanes (h : z.lanes = y.lanes) : SameMaps y z := ⟨fun n => by rw [Sys.lane, h, Sys.lane]⟩
theorem SameMaps.of_touches (h : Touches fs y z) (hl : .lanes ∉ fs) : SameMaps y z := .of_lanes (h.facet .lanes hl (by simp)).symm

theorem sameMaps_setLane (y : Sys) {n : Nat} {u : Lane} (h : u.stored = (y.lane n).stored) : SameMaps y (y.setLane n u) := ⟨fun j => by
  rw [Sys.lane_setLane]
  split
  next hj => rw [h, hj]
  next => rfl⟩

theorem sameMaps_foldl {α : Type} (f : Sys → α → Sys) (l : List α) (h : ∀ y a, SameMaps y (f y a)) (y : Sys) : SameMaps y (l.foldl f y) := by
  induction l generalizing y with
  | nil => exact .refl y
  | cons a l ih => exact (h y a).trans (ih _)

theorem sameMaps_laneTo (y : Sys) (n : Nat) (t : LaneState) : SameMaps y (y.laneTo n t) := .of_lanes (y.lanes_laneTo n t)
theorem sameMaps_laneDown (y : Sys) (n : Nat) : SameMaps y (y.laneDown n) := .of_lanes (y.lanes_laneDown n)

theorem sameMaps_trainOut (y : Sys) (n : Nat) (c : Option Nat) : SameMaps y (y.trainOut n c) :=
  SameMaps.trans (y := y.send _) (.of_lanes rfl) (sameMaps_setLane _ rfl)

theorem sameMaps_laneRest (y : Sys) (n : Nat) (t : LaneState) : SameMaps y (y.laneRest n t) := by
  unfold Sys.laneRest
  extract_lets was u held r y1 y2 y3
  have hr : r.stored = u.stored := by
    unfold r
    split <;> rfl
  have h1 : SameMaps y y1 := sameMaps_setLane y hr
  have h2 : SameMaps y1 y2 := by
    unfold y2
    split <;> exact .of_lanes rfl
  have h3 : SameMaps y y3 := (h1.trans h2).trans (sameMaps_laneTo ..)
  split
  · exact h3.trans (sameMaps_laneDown ..)
  · exact h3

theorem sameMaps_linkHello (y : Sys) (q : Nat) : SameMaps y (y.linkHello q) :=
  .of_touches ((touches_linkHello y q (fun _ => id)).2 (.refl y)) (by simp)

theorem sameMaps_quadCameUp (y : Sys) (q : Nat) : SameMaps y (y.quadCameUp q) :=
  .of_touches ((touches_quadCameUp y q (fun _ => id)).2 (.refl y)) (by simp)

theorem sameMaps_lanesReady (y : Sys) (n : Nat) : SameMaps y (y.lanesReady n) := by
  unfold Sys.lanesReady
  extract_lets on quad trains wasUp z
  have hz : SameMaps y z := by
    refine sameMaps_foldl _ _ (fun v m => ?_) y
    extract_lets u v1 v2
    split
    · exact .refl v
    · have h1 : SameMaps v v1 := by
        unfold v1
        split
        · exact .of_lanes (Sys.raise_lanes ..)
        · exact .refl v
      have hset (u' : Lane) (hu : u'.stored = u.stored) : SameMaps v1 (v1.setLane m u') := sameMaps_setLane v1 (hu.trans (h1.stored m).symm)
      have h2 : SameMaps v v2 := by
        refine h1.trans (SameMaps.trans (hset _ ?_) (sameMaps_laneTo ..))
        rfl
      split
      · exact h2.trans (sameMaps_laneRest ..)
      · exact h2.trans (sameMaps_laneRest ..)
      · exact h2
  split
  · exact .refl y
  · split
    · exact hz.trans (sameMaps_quadCameUp ..)
    · exact hz

theorem sameMaps_linkRelease (y : Sys) (q : Nat) : SameMaps y (y.linkRelease q) := by
  unfold Sys.linkRelease
  dsimp only
  split
  · exact .refl y
  · refine SameMaps.trans (sameMaps_foldl _ _ (fun v m => ?_) y) (sameMaps_linkHello ..)
    have hset (u : Lane) (hu : u.stored = (v.lane m).stored) : SameMaps v ((v.trainOut m (some 64)).setLane m u) :=
      (sameMaps_trainOut v m _).trans (sameMaps_setLane _ (hu.trans ((sameMaps_trainOut v m _).stored m).symm))
    refine hset _ ?_
    rfl

theorem sameMaps_linkStart (y : Sys) (q : Nat) : SameMaps y (y.linkStart q) := by
  refine sameMaps_foldl _ _ (fun v m => ?_) y
  dsimp only
  split
  · refine SameMaps.trans (sameMaps_setLane v ?_) (sameMaps_trainOut ..)
    rfl
  · exact .refl v

theorem sameMaps_partnerTrained (y : Sys) (n : Nat) (on : Bool) : SameMaps y (y.partnerTrained n on) := by
  unfold Sys.partnerTrained
  extract_lets u y1 y2
  have h1 : SameMaps y y1 := sameMaps_setLane y rfl
  have h2 : SameMaps y y2 := by
    unfold y2
    split
    · exact h1.trans (sameMaps_linkStart ..)
    · exact h1
  split
  · exact .refl y
  · exact h2.trans (sameMaps_linkRelease ..)

theorem sameMaps_alignByTraining (y : Sys) (n : Nat) : SameMaps y (y.alignByTraining n) := by
  refine .of_lanes ?_
  unfold Sys.alignByTraining
  dsimp only
  split
  · rfl
  · split <;> rfl

/-- Whether another lane reports an index is a matter of the rounds, reports and maps. -/
theorem Sys.indexTaken_congr (y : Sys) {n : Nat} {u v : Lane} (hr : u.round = v.round) (hh : u.heard = v.heard) (hs : u.stored = v.stored) (i r : Nat) :
    (y.setLane n u).indexTaken n i r = (y.setLane n v).indexTaken n i r := by
  simp only [indexTaken, lane_setLane, apply_ite Lane.round, apply_ite Lane.heard, apply_ite Lane.stored, hr, hh, hs]
  rfl

/-- A map, once taken, stays while the lane and its mates go on. -/
theorem Sys.takeMap_spec (y : Sys) (n : Fin 80) (t : Training) :
    ((y.takeMap n.val t).lane n.val).stored = some (t.index % 64, t.inverted) ∧ (y.takeMap n.val t).rd (ent (0x2400 + n.val) 4) = t.index % 64 := by
  have h3 : ent (0x2400 + n.val) 4 ≠ ent (0x2400 + n.val) 3 := by simp
  unfold takeMap
  extract_lets u new changed y1 u1 y2 y3 y4 y5
  have h2 : (y2.lane n.val).stored = some new := by
    rw [show y2.lane n.val = _ from (Sys.lane_setLane ..).trans (if_pos rfl)]
  have hmap : SameMaps y2 y4 := by
    unfold y4 showMap
    split <;> exact .of_lanes rfl
  have hkey : y4.rd (ent (0x2400 + n.val) 4) = t.index % 64 := by
    have h : y3.rd (ent (0x2400 + n.val) 4) = t.index % 64 := by simp [y3, laneFlag]
    unfold y4 showMap
    split
    · exact h
    · exact h
  have h5 : SameMaps y2 y5 ∧ y5.rd (ent (0x2400 + n.val) 4) = t.index % 64 := by
    unfold y5
    split
    · exact ⟨hmap.trans (sameMaps_trainOut ..), hkey⟩
    · exact ⟨hmap, hkey⟩
  split
  · exact ⟨(h5.1.stored _).trans h2, h5.2⟩
  · refine ⟨((h5.1.trans ((sameMaps_laneTo ..).trans (sameMaps_lanesReady ..))).stored _).trans h2, ?_⟩
    have hready := ((writes_lanesReady (y5.laneTo n.val .bringup) n.val (fun _ => id)).2 (.refl _)).rd_eq (k := ent (0x2400 + n.val) 4) (by
      simp only [List.cons_append, List.nil_append, List.mem_cons, List.not_mem_nil, or_false, forall_eq_or_imp, forall_eq, Spot.hits,
        ent_div _ (show 4 < 256 by decide), ent_mod _ (show 4 < 256 by decide)]
      unfold ent
      omega)
    rw [hready, rd_laneTo _ (not_mem_stateNums (by decide)), h5.2]

theorem trainingBlockReceive_stores (s : State) (n : Fin 80) (w : TrainingInput) (m : Training) (hstep : (s.sys.lane n.val).step = 7)
    (_ : s.sys.laneIs n.val .active = false) (hheard : s.sys.heardTraining n.val w = some m) (hprotocol : s.sys.laneProtocol n.val = m.protocol)
    (hpol : s.sys.rd (ent (0x2400 + n.val) 5) = 0) (hindex : m.index % 16 < (s.sys.enabledMates n.val).length)
    (hfree : (s.sys.setLane n.val { s.sys.lane n.val with heard := some (m.index % 16), round := s.sys.reportRound n.val }).indexTaken n.val (m.index % 16)
      (s.sys.reportRound n.val) = false) :
    Completes (.trainingBlockReceive n w) s fun t =>
      (t.sys.lane n.val).stored = some (m.index % 64, m.inverted) ∧ t.sys.rd (ent (0x2400 + n.val) 4) = m.index % 64 ∧ t.otp = s.otp := by
  have hexec : ∃ y : Sys, Runs (.trainingBlockReceive n w) s (Sys.partnerTrained ((y.takeMap n.val m).alignByTraining n.val) n.val m.trained) := by
    have hlistens : ¬ (¬ ((s.sys.lane n.val).step = 7 ∨ s.sys.laneIs n.val .failed = true ∨
        ((s.sys.lane n.val).stored.isSome = true ∧ (s.sys.laneIs n.val .active = true ∨ (s.sys.lane n.val).step = 8))) ∨
        (s.sys.rd (ent (0x2400 + n.val) 5) = 1 ∧ m.inverted = true) ∨ (s.sys.rd (ent (0x2400 + n.val) 5) = 2 ∧ (!m.inverted) = true)) := by
      simp [hstep, hpol]
    simp only [Runs, exec_trainingBlockReceive, execTrainingBlockReceive, onSys_eq, hheard, if_neg hlistens,
      if_neg (not_not.2 hprotocol.symm), if_neg (not_le.2 hindex)]
    have h (seq : Option (Nat × Nat)) := (s.sys.indexTaken_congr (n := n.val)
      (u := { s.sys.lane n.val with heard := some (m.index % 16), round := s.sys.reportRound n.val, train := seq })
      (v := { s.sys.lane n.val with heard := some (m.index % 16), round := s.sys.reportRound n.val }) rfl rfl rfl (m.index % 16)
      (s.sys.reportRound n.val)).trans hfree
    rw [if_neg (Bool.eq_false_iff.1 (h _))]
    exact ⟨_, rfl⟩
  obtain ⟨y, hexec⟩ := hexec
  obtain ⟨hstored, hrd⟩ := y.takeMap_spec n m
  refine ⟨_, hexec, ?_, ?_, rfl⟩
  · exact ((sameMaps_alignByTraining (y.takeMap n.val m) n.val).trans (sameMaps_partnerTrained _ n.val m.trained)).stored _ |>.trans hstored
  · have hpartner := ((writes_partnerTrained ((y.takeMap n.val m).alignByTraining n.val) n.val m.trained).2 (.refl _)).rd_eq (ps := [])
      (k := ent (0x2400 + n.val) 4) (by simp)
    have halign : ((y.takeMap n.val m).alignByTraining n.val).rd (ent (0x2400 + n.val) 4) = (y.takeMap n.val m).rd (ent (0x2400 + n.val) 4) := by
      have h1 : ent (0x2400 + n.val) 4 ≠ ent (0x3018 + n.val / 6) 3 := ent_ne (by omega) (by decide) (by decide)
      have h2 : ent (0x2400 + n.val) 4 ≠ ent (0x3018 + n.val / 6) 4 := ent_ne (by omega) (by decide) (by decide)
      unfold Sys.alignByTraining
      dsimp only
      split
      · rfl
      · split
        · rfl
        · rw [Sys.rd_wr, if_neg h2, Sys.rd_wr, if_neg h1]
    rw [hpartner, halign, hrd]

/-- Training that fails on a lane that delivers nothing and that no request waits for. -/
theorem Sys.trainingFailed_quietly (y : Sys) (n reason index : Nat) (hactive : y.laneIs n .active = false) (hlater : (y.lane n).later = none) :
    ∃ b, y.trainingFailed n reason index = ((y.raise 0x0707 n b).setLane n { (y.raise 0x0707 n b).lane n with step := 7 }).laneTo n .failed := by
  refine ⟨ev [(0, 1, n), (1, 1, reason), (2, 1, index)], ?_⟩
  have hlater' : ((y.raise 0x0707 n (ev [(0, 1, n), (1, 1, reason), (2, 1, index)])).lane n).later = none := by
    rw [lane, raise_lanes]
    exact hlater
  unfold trainingFailed
  simp only [hactive, hlater', Bool.false_eq_true, if_false]

theorem trainingTimeout_fails (s : State) (n : Fin 80) (hstep : (s.sys.lane n.val).step = 7) (hup : s.sys.laneIs n.val .bringup = true)
    (hlater : (s.sys.lane n.val).later = none) :
    Completes (.trainingTimeout n) s fun t =>
      t.sys.laneIs n.val .failed = true ∧ (t.sys.lane n.val).step = 7 ∧ (t.sys.lane n.val).stored = (s.sys.lane n.val).stored ∧ t.otp = s.otp := by
  have hactive : s.sys.laneIs n.val .active = false := by
    have h4 : s.sys.rd (ent (0x2400 + n.val) 2) = 4 := by simpa [Sys.laneIs, LaneState.code] using hup
    simp [Sys.laneIs, h4, LaneState.code]
  obtain ⟨b, hfailed⟩ := s.sys.trainingFailed_quietly n.val 0 0xFF hactive hlater
  have hexec : Runs (.trainingTimeout n) s (s.sys.trainingFailed n.val 0 0xFF) := by
    simp only [Runs, exec_trainingTimeout, execTrainingTimeout, onSys_eq, if_pos (And.intro hstep hup)]
  rw [hfailed] at hexec
  have hlane : (s.sys.raise 0x0707 n.val b).lane n.val = s.sys.lane n.val := by rw [Sys.lane, Sys.raise_lanes, Sys.lane]
  refine ⟨_, hexec, Sys.laneIs_laneTo .., ?_, ?_, rfl⟩
  · rw [Sys.lane_laneTo, Sys.lane_setLane, if_pos rfl]
  · rw [Sys.lane_laneTo, Sys.lane_setLane, if_pos rfl, hlane]

/-- Settles O34. -/
theorem lanesLoseAndRegainLock : Obligations.LanesLoseAndRegainLock :=
  ⟨⟨descramble_scramble, readTraining_sent⟩, losAssert_stops, cdrLockLost_stops, blockLockLost_stops, blockLockLost_counts, hiBerSet_flags,
    hiBerClear_clears, laneReport_eth100, laneReport_prbs, trainingBlockReceive_stores, trainingTimeout_fails⟩

end Sys2Proof.Machine
end

section
/-!
PROOFS. A write of a quad's function and the set of quads that it is judged with (R248).
-/

namespace Sys2Proof.Machine

/-- An integrator's write of OFF to a quad's function. -/
def quadOff (y : Sys) (q : Nat) : CommitUnit := writeUnit y ⟨0, .integrator, 0⟩ (ent (0x2488 + q) 1) (le 2 0)

/-- A standalone module whose quad 2 is a Felley quad until its next latch point, where a unit that waits takes it to OFF. -/
def felleyUntilLatch : State :=
  { State.reset with sys := { State.reset.sys.wr (ent 0x248A 1) 2 with den := { State.reset.sys.den with latched := [quadOff State.reset.sys 2] } } }

theorem felleyUntilLatch_granted : Granted felleyUntilLatch ⟨0, .integrator, 0⟩ (ent 0x2488 1) (le 2 0) := by
  refine ⟨⟨?_, ?_, ?_⟩, ?_⟩ <;> decide +kernel

/-- Whether the live allocation of the eight quads is legal. -/
def Sys.quadsLegal (y : Sys) : Bool := quadsOk y.view.role (y.rdBit (ent 0x2010 1) 4) y.quadFn

/-- What the write of OFF to quad 0, which is off, leaves legal of the live allocation. -/
def legalAfter (s : State) : Bool := match exec (.quadFunctionWrite ⟨0, .integrator, 0⟩ 0 0) s with
  | .next t => t.sys.quadsLegal
  | _ => false

theorem felleyUntilLatch_illegal : legalAfter felleyUntilLatch = false := by decide +kernel

/-- Refutes O35: the allocation is judged with the values that wait for their latch points (R248), so that an admitted write of a function can leave
a live allocation that is not legal yet. -/
theorem not_lanesGroupsAndQuadsObey : ¬ Obligations.LanesGroupsAndQuadsObey := by
  unfold Obligations.LanesGroupsAndQuadsObey
  rintro ⟨-, -, -, -, -, -, -, -, -, hfunction, -⟩
  obtain ⟨t, ht, -, -, -, hok, -⟩ := hfunction felleyUntilLatch ⟨0, .integrator, 0⟩ 0 0 felleyUntilLatch_granted
  have hlegal : legalAfter felleyUntilLatch = true := by
    unfold legalAfter
    rw [ht]
    exact hok
  exact absurd (felleyUntilLatch_illegal.symm.trans hlegal) (by decide)

end Sys2Proof.Machine
end

section
/-!
PROOFS. Frames arrive line by line, and what is missing is substituted (R254 to R276).
-/

namespace Sys2Proof.Machine

variable {fs : List Facet} {nums blobs : Nat → Prop} {x y z : Sys} {s : State}

@[simp] theorem Sys.ig_wr (y : Sys) (k v g : Nat) : (y.wr k v).ig g = y.ig g := rfl
@[simp] theorem Sys.ig_wrB (y : Sys) (k : Nat) (v : Bytes) (g : Nat) : (y.wrB k v).ig g = y.ig g := rfl
@[simp] theorem Sys.ig_raise (y : Sys) (code source : Nat) (data : Bytes) (g : Nat) : (y.raise code source data).ig g = y.ig g := by simp [Sys.ig]
@[simp] theorem Sys.ig_setCtx (y : Sys) (x : Nat) (c : Ctx) (g : Nat) : (y.setCtx x c).ig g = y.ig g := rfl
@[simp] theorem Sys.ctx_wr (y : Sys) (k v x : Nat) : (y.wr k v).ctx x = y.ctx x := rfl
@[simp] theorem Sys.ctx_raise (y : Sys) (code source : Nat) (data : Bytes) (x : Nat) : (y.raise code source data).ctx x = y.ctx x := by simp [Sys.ctx]

/-! ## Markers and blocks -/

theorem alignmentMarker_joins (s : State) (g : Fin 8) (l : Fin 6) (n : BitVec 32) (skew : Nat) (hskew : skew ≤ 64)
    (hset : (s.sys.ig g.val).marked = [] ∨ (s.sys.ig g.val).marker = n.toNat ∧ l.val ∉ (s.sys.ig g.val).marked) :
    Completes (.alignmentMarker g l n skew) s fun t =>
      let m := (s.sys.ig g.val).marked
      let all := decide (s.sys.view.groupWidth g.val ≤ m.length + 1)
      t.sys.ig g.val = { s.sys.ig g.val with marker := n.toNat, marked := if all then [] else m ++ [l.val] } ∧
      t.sys.rd (ent (0x3018 + g.val) 3) = (if all then 1 else s.sys.rd (ent (0x3018 + g.val) 3)) ∧
      t.sys.rd (ent (0x3018 + g.val) 4) = max skew (s.sys.rd (ent (0x3018 + g.val) 4)) ∧
      Leaves [.igs] (only [ent (0x3018 + g.val) 3, ent (0x3018 + g.val) 4]) (only []) s t := by
  have hcond : (decide (64 < skew) || (!(s.sys.ig g.val).marked.isEmpty &&
      ((s.sys.ig g.val).marker != n.toNat || (s.sys.ig g.val).marked.contains l.val))) = false := by
    rcases hset with h | ⟨h1, h2⟩
    · simp [h, hskew]
    · simp [h1, h2, hskew]
  have hexec : Runs (.alignmentMarker g l n skew) s (
      let all := decide (s.sys.view.groupWidth g.val ≤ (s.sys.ig g.val).marked.length + 1)
      let y := s.sys.setIg g.val { s.sys.ig g.val with marker := n.toNat, marked := if all then [] else (s.sys.ig g.val).marked ++ [l.val] }
      let y := if all then y.wr (ent (0x3018 + g.val) 3) 1 else y
      y.wr (ent (0x3018 + g.val) 4) (max skew (y.rd (ent (0x3018 + g.val) 4)))) := by
    simp only [Runs, exec_alignmentMarker, execAlignmentMarker, onSys_eq, hcond, Bool.false_eq_true, if_false]
  refine ⟨_, hexec, ?_⟩
  dsimp only
  by_cases hall : s.sys.view.groupWidth g.val ≤ (s.sys.ig g.val).marked.length + 1
  · simp only [hall, decide_true, if_true]
    exact ⟨by simp, by simp, by simp, leaves_of_sameBut (by simp)⟩
  · simp only [hall, decide_false, Bool.false_eq_true, if_false]
    exact ⟨by simp, by simp, by simp, leaves_of_sameBut (by simp)⟩

theorem Sys.owner_congr {g : Nat} (h : z.rd (ent (0x3018 + g) 1) = y.rd (ent (0x3018 + g) 1)) : z.owner g = y.owner g := by rw [owner, owner, h]

/-- A group that no context owns only waits for its lanes. -/
theorem Sys.lanesLost_unowned {g : Nat} (h : y.owner g = none) : y.lanesLost g = y.setIg g { y.ig g with resync := true } := by
  have hset : (y.setIg g { y.ig g with resync := true }).owner g = none := h
  simp [lanesLost, groupLost, h, hset]

theorem alignmentMarker_skewed (s : State) (g : Fin 8) (l : Fin 6) (n : BitVec 32) (skew : Nat)
    (hbad : 64 < skew ∨ (s.sys.ig g.val).marked ≠ [] ∧ ((s.sys.ig g.val).marker ≠ n.toNat ∨ l.val ∈ (s.sys.ig g.val).marked))
    (howner : s.sys.owner g.val = none) (hroom : Room s) : Completes (.alignmentMarker g l n skew) s fun t =>
      t.sys.ig g.val = { s.sys.ig g.val with marked := [], resync := true } ∧ t.sys.rd (ent (0x3018 + g.val) 3) = 2 ∧
      Logs s t 0x080A g.val (ev [(0, 1, g.val), (1, 1, l.val), (4, 4, n.toNat)]) ∧
      Leaves [.igs, .log] (only [ent (0x3018 + g.val) 3]) (only []) s t := by
  have hcond : (decide (64 < skew) || (!(s.sys.ig g.val).marked.isEmpty &&
      ((s.sys.ig g.val).marker != n.toNat || (s.sys.ig g.val).marked.contains l.val))) = true := by
    rcases hbad with h | ⟨h1, h2⟩
    · simp [h]
    · rcases h2 with h2 | h2 <;> simp [h1, h2]
  let y := ((s.sys.setIg g.val { s.sys.ig g.val with marked := [] }).wr (ent (0x3018 + g.val) 3) 2).raise 0x080A g.val
    (ev [(0, 1, g.val), (1, 1, l.val), (4, 4, n.toNat)])
  have hnone : y.owner g.val = none := (Sys.owner_congr (y := s.sys) (by simp [y])).trans howner
  have hexec : Runs (.alignmentMarker g l n skew) s (y.setIg g.val { y.ig g.val with resync := true }) := by
    rw [← Sys.lanesLost_unowned hnone]
    simp only [Runs, exec_alignmentMarker, execAlignmentMarker, onSys_eq, hcond, if_true]
    rfl
  refine ⟨_, hexec, by simp [y], by simp [y], ?_, leaves_of_sameBut (by simp [y])⟩
  exact Sys.log_raise _ _ _ _ hroom

theorem malformedBlock_counts (s : State) (g : Fin 8) : Completes (.malformedBlock g) s fun t =>
    t.sys.rd (ent (0x3018 + g.val) 8) = (s.sys.rd (ent (0x3018 + g.val) 8) + 1) % 2 ^ 32 ∧
    Leaves [] (only [ent (0x3018 + g.val) 8]) (only []) s t :=
  ⟨_, rfl, by simp, leaves_of_sameBut (by simp)⟩

/-! ## Lanes of a group that are lost -/

theorem ingestLockLoss_unowned (s : State) (g : Fin 8) (h : s.sys.owner g.val = none) : Completes (.ingestLockLoss g) s fun t =>
    t.sys.ig g.val = { s.sys.ig g.val with resync := true } ∧ (∀ j, j ≠ g.val → t.sys.ig j = s.sys.ig j) ∧ Leaves [.igs] (only []) (only []) s t := by
  have hexec : Runs (.ingestLockLoss g) s (s.sys.setIg g.val { s.sys.ig g.val with resync := true }) := by
    rw [← Sys.lanesLost_unowned h]
    rfl
  exact ⟨_, hexec, by simp, fun j hj => by simp [hj], leaves_of_sameBut (by simp)⟩

theorem ingestLockLoss_felley (s : State) (g : Fin 8) (x : Nat) (h : s.sys.owner g.val = some x) (hsource : s.sys.rd (ent (0x3000 + x) 2) = 1) :
    Runs (.ingestLockLoss g) s s.sys := by
  have hlost : s.sys.lanesLost g.val = s.sys := by simp [Sys.lanesLost, h, hsource]
  refine (?_ : exec _ _ = _)
  rw [exec_ingestLockLoss, execIngestLockLoss, onSys_eq, hlost]

theorem ingestLockLoss_stops (s : State) (g : Fin 8) (x : Nat) (h : s.sys.owner g.val = some x) (hsource : s.sys.rd (ent (0x3000 + x) 2) ≠ 1)
    (hopen : s.sys.openFrame g.val = none) (hrun : s.sys.ctxState x = 2) : Completes (.ingestLockLoss g) s fun t =>
      (t.sys.ig g.val).resync = true ∧ t.sys.ctxState x = 4 ∧ (t.sys.ctx x).toRun = false ∧
      Leaves [.igs, .ctxs, .log] (only [ent (0x3008 + x) 1]) (only []) s t := by
  let y := s.sys.setIg g.val { s.sys.ig g.val with resync := true }
  have hlost : s.sys.lanesLost g.val = (y.setCtx x { y.ctx x with clean := 0, toRun := false }).setCtxState x 4 := by
    have ho : y.owner g.val = some x := h
    have hf : y.openFrame g.val = none := hopen
    have hr : y.ctxState x = 2 := hrun
    simp only [Sys.lanesLost, h, Option.any_some, beq_eq_false_iff_ne.2 hsource, Bool.false_eq_true, if_false, Sys.groupLost]
    simp only [show s.sys.setIg g.val { s.sys.ig g.val with resync := true } = y from rfl, ho, hf, hr, if_true]
  have hold : (y.setCtx x { y.ctx x with clean := 0, toRun := false }).ctxState x = 2 := hrun
  have hexec : Runs (.ingestLockLoss g) s (Sys.raise ((y.setCtx x { y.ctx x with clean := 0, toRun := false }).wr (ent (0x3008 + x) 1) 4) 0x080C x
      (ev [(0, 1, x), (1, 1, 2), (2, 1, 4)])) := by
    refine (?_ : exec _ _ = _)
    rw [exec_ingestLockLoss, execIngestLockLoss, onSys_eq, hlost, Sys.setCtxState, hold, if_neg (by decide)]
  exact ⟨_, hexec, by simp [y], by simp [Sys.ctxState], by simp, leaves_of_sameBut (by simp [y])⟩

/-! ## Frame starts -/

theorem Sys.valueAt_countCrc (y : Sys) (g bad x num k : Nat) : (y.countCrc g bad).valueAt x num k = y.valueAt x num k := by
  unfold countCrc
  split <;> rfl

theorem frameStartAccept_runs (s : State) (g : Fin 8) (p : FrameStart) (x : Nat) (hleads : s.sys.leads g.val = some x)
    (hquiet : (s.sys.ig g.val).quiet = false) :
    let n := ((s.sys.ctx x).last.map Prod.snd).getD 0 + 1
    let lanes := s.sys.valueAt x n (ent (0x3000 + x) 2) = 0
    (lanes → (s.sys.ig g.val).resync = false ∧ p.stream.val = s.sys.valueAt x n (ent (0x3000 + x) 4) ∧ p.gidx.val = 0) →
    Runs (.frameStartAccept g p) s
      (Sys.frameStart s.otp (if lanes then s.sys.countCrc g.val (failedLanes (s.sys.view.groupWidth g.val) (startPayload p) p.trailers) else s.sys)
        x g.val p.counter.toNat p.upstream p.testPattern (startPayload p)) := by
  intro n lanes hfit
  refine (?_ : exec _ _ = _)
  rw [exec_frameStartAccept, execFrameStartAccept, onSys_eq]
  dsimp only
  rw [hleads]
  dsimp only
  by_cases hl : lanes
  · obtain ⟨hresync, hstream, hgidx⟩ := hfit hl
    simp only [show s.sys.valueAt x (((s.sys.ctx x).last.map Prod.snd).getD 0 + 1) (ent (0x3000 + x) 2) = 0 from hl, if_pos hl, hresync, hquiet,
      Bool.false_eq_true, false_and, true_and, if_false, if_true, Sys.valueAt_countCrc, hgidx, not_true_eq_false, ne_eq,
      show p.stream.val = s.sys.valueAt x (((s.sys.ctx x).last.map Prod.snd).getD 0 + 1) (ent (0x3000 + x) 4) from hstream]
  · simp only [show ¬ s.sys.valueAt x (((s.sys.ctx x).last.map Prod.snd).getD 0 + 1) (ent (0x3000 + x) 2) = 0 from hl, if_neg hl, hquiet,
      Bool.false_eq_true, false_and, if_false]

/-- What group `h` does when the frame of `counter` is refused, which group `g` announced: its packets are discarded from their start. -/
def Sys.refuseOn (felley : Bool) (g counter : Nat) (y : Sys) (h : Nat) : Sys :=
  if h = g ∨ felley then y.setIg h { y.ig h with discarding := true }
  else if (y.ig h).early.any (·.1 == counter) then y.setIg h { y.ig h with discarding := true, early := none }
  else y

theorem sameBut_refuseOn (felley : Bool) (g counter : Nat) (y : Sys) (h : Nat) :
    SameBut [.igs] (only []) (only []) y (Sys.refuseOn felley g counter y h) := by
  unfold Sys.refuseOn
  split
  · simp
  · split <;> simp

theorem Sys.discarding_refuseOn (felley : Bool) (g counter : Nat) (y : Sys) (h : Nat) (hd : h = g ∨ (y.ig g).discarding = true) :
    ((Sys.refuseOn felley g counter y h).ig g).discarding = true := by
  unfold refuseOn
  by_cases hg : h = g
  · simp [hg]
  · have hset (v : IngestGroup) : (y.setIg h v).ig g = y.ig g := by simp [Ne.symm hg]
    have hd := hd.resolve_left hg
    split
    · rwa [hset]
    · split
      · rwa [hset]
      · exact hd

theorem Sys.discarding_foldl_refuseOn (felley : Bool) (g counter : Nat) (l : List Nat) (y : Sys) (h : g ∈ l ∨ (y.ig g).discarding = true) :
    ((l.foldl (Sys.refuseOn felley g counter) y).ig g).discarding = true := by
  induction l generalizing y with
  | nil => simpa using h
  | cons a l ih =>
    refine ih _ ?_
    rcases h with h | h
    · rcases List.mem_cons.1 h with rfl | h
      · exact .inr (discarding_refuseOn felley g counter y g (.inl rfl))
      · exact .inl h
    · exact .inr (discarding_refuseOn felley g counter y a (.inr h))

theorem Sys.frameStart_early (o : Otp) (x g n upstream : Nat) (test : Bool) (p : Bytes) (hlast : (y.ctx x).last.isSome = true)
    (hgap : 100 * (y.up - (y.ctx x).lastAt) < 98 * y.rd (ent (0x3000 + x) 8)) :
    let z := y.setCtx x { y.ctx x with discarding := some n }
    Sys.frameStart o y x g n upstream test p =
      (((z.view.groupsOf x).foldl (Sys.refuseOn (z.rd (ent (0x3000 + x) 2) == 1) g n) z).inc (ent (0x3010 + x) 7)).raise 0x0807 x
        (ev [(0, 1, x), (2, 2, n), (4, 4, (y.up - (y.ctx x).lastAt) % 2 ^ 32)]) := by
  intro z
  have hcond : ((y.ctx x).last.isSome && decide (100 * (y.up - (y.ctx x).lastAt) < 98 * y.rd (ent (0x3000 + x) 8))) = true := by simp [hlast, hgap]
  unfold frameStart
  dsimp only
  rw [if_pos hcond]
  rfl

theorem frameStart_refuses (s : State) (o : Otp) (x g n upstream : Nat) (test : Bool) (p : Bytes) (hlast : (s.sys.ctx x).last.isSome = true)
    (hgap : 100 * (s.sys.up - (s.sys.ctx x).lastAt) < 98 * s.sys.rd (ent (0x3000 + x) 8)) (hroom : Room s) :
    let t := s.sys.frameStart o x g n upstream test p
    (t.ctx x).discarding = some n ∧ t.frames = s.sys.frames ∧
    t.rd (ent (0x3010 + x) 7) = (s.sys.rd (ent (0x3010 + x) 7) + 1) % 2 ^ 32 ∧
    t.log.pending = s.sys.log.pending ++ [⟨s.sys.t96, 0x0807, severity 0x0807, x,
      ev [(0, 1, x), (2, 2, n), (4, 4, (s.sys.up - (s.sys.ctx x).lastAt) % 2 ^ 32)]⟩] ∧
    (g ∈ s.sys.view.groupsOf x → (t.ig g).discarding = true) ∧
    SameBut [.ctxs, .igs, .log] (only [ent (0x3010 + x) 7]) (only []) s.sys t := by
  intro t
  let z := s.sys.setCtx x { s.sys.ctx x with discarding := some n }
  let w := (z.view.groupsOf x).foldl (Sys.refuseOn (z.rd (ent (0x3000 + x) 2) == 1) g n) z
  have ht : t = (w.inc (ent (0x3010 + x) 7)).raise 0x0807 x (ev [(0, 1, x), (2, 2, n), (4, 4, (s.sys.up - (s.sys.ctx x).lastAt) % 2 ^ 32)]) :=
    Sys.frameStart_early o x g n upstream test p hlast hgap
  have hw : SameBut [.igs] (only []) (only []) z w := SameBut.foldl _ _ (fun y h _ => sameBut_refuseOn _ g n y h) z
  have hctx : w.ctx x = z.ctx x := by rw [Sys.ctx, Sys.ctx, ← hw.1 .ctxs (by simp)]
  have hlog : w.log = s.sys.log := (hw.1 .log (by simp)).symm
  have ht96 : w.t96 = s.sys.t96 := (hw.1 .t96 (by simp)).symm
  rw [ht]
  refine ⟨by simp [hctx, z], ?_, ?_, ?_, fun hg => ?_, ?_⟩
  · simpa using show w.frames = s.sys.frames from (hw.1 .frames (by simp)).symm
  · have h7 := hw.2.1 (ent (0x3010 + x) 7) (by simp)
    simp [h7, z]
  · refine (Sys.log_raise _ _ _ _ ?_).trans ?_
    · simpa [hlog] using show s.sys.log.pending.length < 256 from hroom
    · simp [hlog, ht96]
  · simpa using show (w.ig g).discarding = true from Sys.discarding_foldl_refuseOn _ g n _ z (.inl hg)
  · simpa using SameBut.trans (b := z) (by simp [z]) (hw.mono (by simp) (by simp) (by simp))

theorem Sys.rd_countCrc (y : Sys) (g bad k : Nat) : (y.countCrc g bad).rd k = y.rd k := by
  unfold countCrc
  split <;> simp

theorem sameBut_countCrc (y : Sys) (g bad : Nat) (h : blobs (ent (0x3018 + g) 5)) : SameBut fs nums blobs y (y.countCrc g bad) := by
  unfold Sys.countCrc
  split
  · exact .refl y
  · exact sameBut_wrB y _ _ h

@[simp] theorem Sys.ig_countCrc (y : Sys) (g bad j : Nat) : (y.countCrc g bad).ig j = y.ig j := by
  unfold countCrc
  split <;> rfl

@[simp] theorem Sys.ctx_countCrc (y : Sys) (g bad j : Nat) : (y.countCrc g bad).ctx j = y.ctx j := by
  unfold countCrc
  split <;> rfl

@[simp] theorem Sys.frames_countCrc (y : Sys) (g bad : Nat) : (y.countCrc g bad).frames = y.frames := by
  unfold countCrc
  split <;> rfl

@[simp] theorem Sys.t96_countCrc (y : Sys) (g bad : Nat) : (y.countCrc g bad).t96 = y.t96 := by
  unfold countCrc
  split <;> rfl

theorem Sys.newest?_countCrc (y : Sys) (g bad x : Nat) : (y.countCrc g bad).newest? x = y.newest? x := by
  rw [newest?, newest?, frames_countCrc]

theorem Sys.newest?_setIg (y : Sys) (g x : Nat) (v : IngestGroup) : (y.setIg g v).newest? x = y.newest? x := rfl

theorem Sys.joinFrame_plain (y : Sys) (x g n : Nat) (h : (y.ig g).resync = false) :
    y.joinFrame x g n = y.onFrame x n fun f => f.onGroup g fun fg => { fg with started := true } :=
  if_neg (Bool.not_eq_true _ ▸ h)

theorem nonLeadFrameStart_joins (s : State) (g : Fin 8) (p : FrameStart) (x : Nat) (f : Frame) (hlanes : s.sys.lanesOf g.val = some x)
    (hresync : (s.sys.ig g.val).resync = false) (hquiet : (s.sys.ig g.val).quiet = false) (hstream : p.stream.val = s.sys.rd (ent (0x3000 + x) 4))
    (hgidx : p.gidx.val = s.sys.rd (ent (0x3018 + g.val) 2)) (hearly : (s.sys.ctx x).discarding ≠ some p.counter.toNat)
    (hnewest : s.sys.newest? x = some f) (hcounter : f.counter = p.counter.toNat) (hskew : f.inSkew s.sys.t96 = true)
    (hwaits : (f.groups.any fun fg => fg.group == g.val && !fg.started && !fg.ended) = true) :
    Runs (.nonLeadFrameStart g p) s
      (Sys.onFrame (Sys.setIg (s.sys.countCrc g.val (failedLanes (s.sys.view.groupWidth g.val) (startPayload p) p.trailers)) g.val
        { s.sys.ig g.val with discarding := false }) x f.num fun f => f.onGroup g.val fun fg => { fg with started := true }) := by
  have hne : ((s.sys.ctx x).discarding == some p.counter.toNat) = false := beq_eq_false_iff_ne.2 hearly
  rw [Runs, exec_nonLeadFrameStart, execNonLeadFrameStart, onSys_eq]
  simp only [hlanes, hresync, hquiet, Bool.false_and, Bool.false_eq_true, if_false, Sys.rd_countCrc, hstream, hgidx, not_true_eq_false, ne_eq,
    Sys.ctx_countCrc, hne, Sys.newest?_setIg, Sys.newest?_countCrc, hnewest, hcounter, Sys.setIg_t96, Sys.t96_countCrc, hwaits, hskew, Bool.true_and,
    if_true, Sys.ig_countCrc]
  rw [Sys.joinFrame_plain _ _ _ _ (by simp)]

theorem groupSkew_runs (s : State) (g : Fin 8) (x : Nat) (f : Frame) (fg : FrameGroup) (howner : s.sys.owner g.val = some x)
    (hnewest : s.sys.newest? x = some f) (hwaits : (f.groups.find? fun fg => fg.group == g.val && !fg.started && !fg.ended) = some fg) :
    let y := s.sys.onFrame x f.num fun f => (f.mark 8).onGroup g.val fun h => { h with ended := true, skewed := true }
    Runs (.groupSkew g) s (((y.substituteAll x f.num fg (f.outstanding fg)).raise 0x080F x
      (ev [(0, 1, x), (1, 1, g.val), (4, 4, f.num)])).checkComplete x f.num) := by
  intro y
  refine (?_ : exec _ _ = _)
  rw [exec_groupSkew, execGroupSkew, onSys_eq]
  dsimp only
  rw [howner]
  dsimp only
  rw [hnewest]
  dsimp only
  rw [hwaits]

/-! ## Packets -/

theorem Sys.owner_countCrc (y : Sys) (g bad j : Nat) : (y.countCrc g bad).owner j = y.owner j := owner_congr (rd_countCrc ..)

theorem Sys.openFrame_countCrc (y : Sys) (g bad j : Nat) : (y.countCrc g bad).openFrame j = y.openFrame j := by
  simp only [openFrame, owner_countCrc, newest?_countCrc]

theorem headerStray_congr {x : Nat} (h : z.rd (ent (0x3000 + x) 4) = y.rd (ent (0x3000 + x) 4)) (fg : FrameGroup) (stream gidx : Nat) :
    headerStray z x fg stream gidx = headerStray y x fg stream gidx := by
  rw [headerStray, headerStray, h]

theorem strayReason_congr {x : Nat} (h : z.rd (ent (0x3000 + x) 4) = y.rd (ent (0x3000 + x) 4)) (f : Frame) (fg : FrameGroup) (stream gidx line : Nat) :
    strayReason z x f fg stream gidx line = strayReason y x f fg stream gidx line := by
  rw [strayReason, strayReason, headerStray_congr h]

/-- A packet that its group's open frame takes. -/
theorem Sys.packet_of_takes {g x : Nat} {h : PacketHeader} {f : Frame} {fg : FrameGroup} (ht : Takes s g h x f fg) (bad : Nat)
    (take : Nat → Frame → FrameGroup → Sys → Sys) : s.sys.packet g h bad take = take x f fg (s.sys.countCrc g bad) := by
  obtain ⟨hlanes, hresync, hquiet, hdiscarding, hopen, hheader⟩ := ht
  simp only [packet, hlanes, hresync, hquiet, Bool.false_eq_true, if_false, ig_countCrc, hdiscarding, openFrame_countCrc, hopen,
    headerStray_congr (rd_countCrc ..), hheader]

theorem linePacket_takes (s : State) (g : Fin 8) (h : PacketHeader) (b : Bytes) (tr : List (BitVec 32)) (x : Nat) (f : Frame) (fg : FrameGroup)
    (ht : Takes s g.val h x f fg) (hplace : strayReason s.sys x f fg h.stream.val h.gidx.val h.number.toNat = none) :
    let bad := failedLanes (s.sys.view.groupWidth g.val) b tr
    Runs (.linePacket g h b tr) s ((s.sys.countCrc g.val bad).takeLine x g.val f fg h.number.toNat b bad) := by
  refine (?_ : exec _ _ = _)
  simp only [exec_linePacket, execLinePacket, onSys_eq, Sys.packet_of_takes ht, strayReason_congr (Sys.rd_countCrc ..), hplace]

theorem linePacket_strays (s : State) (g : Fin 8) (h : PacketHeader) (b : Bytes) (tr : List (BitVec 32)) (x r : Nat) (f : Frame) (fg : FrameGroup)
    (ht : Takes s g.val h x f fg) (hplace : strayReason s.sys x f fg h.stream.val h.gidx.val h.number.toNat = some r) :
    Runs (.linePacket g h b tr) s ((s.sys.countCrc g.val (failedLanes (s.sys.view.groupWidth g.val) b tr)).stray g.val r) := by
  refine (?_ : exec _ _ = _)
  simp only [exec_linePacket, execLinePacket, onSys_eq, Sys.packet_of_takes ht, strayReason_congr (Sys.rd_countCrc ..), hplace]

theorem linePacket_discards (s : State) (g : Fin 8) (h : PacketHeader) (b : Bytes) (tr : List (BitVec 32)) (hlanes : (s.sys.lanesOf g.val).isSome = true)
    (hresync : (s.sys.ig g.val).resync = false) (hquiet : (s.sys.ig g.val).quiet = false) (hdiscarding : (s.sys.ig g.val).discarding = true) :
    Runs (.linePacket g h b tr) s (s.sys.countCrc g.val (failedLanes (s.sys.view.groupWidth g.val) b tr)) := by
  obtain ⟨x, hx⟩ := Option.isSome_iff_exists.1 hlanes
  refine (?_ : exec _ _ = _)
  simp only [exec_linePacket, execLinePacket, onSys_eq, Sys.packet, hx, hresync, hquiet, Bool.false_eq_true, if_false, Sys.ig_countCrc, hdiscarding, if_true]

theorem frameEndAccept_runs (s : State) (g : Fin 8) (h : PacketHeader) (n : BitVec 16) (x : Nat) (f : Frame) (fg : FrameGroup)
    (ht : Takes s g.val h x f fg) (hcounter : f.counter = h.number.toNat) :
    Runs (.frameEndAccept g h n) s (((s.sys.substituteAll f.ctx f.num fg (f.outstanding fg)).onFrame f.ctx f.num fun f =>
      f.onGroup g.val fun h => { h with ended := true }).checkComplete f.ctx f.num) := by
  refine (?_ : exec _ _ = _)
  rw [exec_frameEndAccept, execFrameEndAccept, onSys_eq]
  dsimp only
  rw [Sys.packet_of_takes ht, if_neg (not_not.2 hcounter)]
  rfl

theorem Sys.mem_onFrame {f : Frame → Frame} {x n : Nat} {j : Frame} (hj : j ∈ (y.onFrame x n f).frames) (hx : j.ctx = x)
    (hn : j.num = n) : ∃ h ∈ y.frames, h.ctx = x ∧ h.num = n ∧ j = f h := by
  obtain ⟨h, hm, rfl⟩ := List.mem_map.1 hj
  by_cases hc : (h.ctx == x && h.num == n) = true
  · rw [if_pos hc]
    simp only [Bool.and_eq_true, beq_iff_eq] at hc
    exact ⟨h, hm, hc.1, hc.2, rfl⟩
  · rw [if_neg hc] at hx hn
    exact absurd (by simp [hx, hn]) hc

theorem embeddedLine_keeps (s : State) (g : Fin 8) (h : PacketHeader) (b : Bytes) (tr : List (BitVec 32)) (x : Nat) (f : Frame) (fg : FrameGroup)
    (ht : Takes s g.val h x f fg) (hgidx : fg.gidx = 0) : Completes (.embeddedLine g h b tr) s fun t =>
      t.sys.rdB (ent (0x3008 + f.ctx) 6) = (s.sys.rdB (ent (0x3008 + f.ctx) 6) ++ b).take 1024 ∧
      t.sys.rdB (ent (0x3018 + g.val) 5) = (s.sys.countCrc g.val (failedLanes (s.sys.view.groupWidth g.val) b tr)).rdB (ent (0x3018 + g.val) 5) ∧
      (∀ j ∈ t.sys.frames, j.ctx = f.ctx → j.num = f.num → ∃ e ∈ s.sys.frames, j.embedded = e.embedded ++ b) ∧
      Leaves [.frames] (only []) (only [ent (0x3008 + f.ctx) 6, ent (0x3018 + g.val) 5]) s t := by
  let z := s.sys.countCrc g.val (failedLanes (s.sys.view.groupWidth g.val) b tr)
  have hz : SameBut [.frames] (only []) (only [ent (0x3018 + g.val) 5]) s.sys z := sameBut_countCrc _ _ _ (by simp)
  have hexec : Runs (.embeddedLine g h b tr) s (z.takeEmbedded f b) := by
    refine (?_ : exec _ _ = _)
    rw [exec_embeddedLine, execEmbeddedLine, onSys_eq]
    dsimp only
    rw [Sys.packet_of_takes ht, if_neg (not_not.2 hgidx)]
  have hne : ent (0x3018 + g.val) 5 ≠ ent (0x3008 + f.ctx) 6 := by unfold ent; omega
  refine ⟨_, hexec, ?_, ?_, fun j hj hx hn => ?_, leaves_of_sameBut ?_⟩
  · have h6 : z.rdB (ent (0x3008 + f.ctx) 6) = s.sys.rdB (ent (0x3008 + f.ctx) 6) := hz.2.2 _ (by simp [hne.symm])
    simp [Sys.takeEmbedded, h6]
  · exact (Sys.rdB_wrB ..).trans (if_neg hne)
  · obtain ⟨e, he, -, -, rfl⟩ := Sys.mem_onFrame (y := z) hj hx hn
    exact ⟨e, by simpa [z] using he, rfl⟩
  · exact (hz.mono (by simp) (by simp) (by simp)).trans (by simp [Sys.takeEmbedded])

theorem Sys.frames_slpMsg (y : Sys) (x n : Nat) (boundary : Bool) (msg : Bytes) : (y.slpMsg x n boundary msg).frames = y.frames :=
  (((touches_slpMsg y x n boundary msg (fun _ => id)).2 (.refl y)).facet .frames (by simp) (by simp)).symm

theorem Sys.frames_slpLineOut (y : Sys) (x n l : Nat) : (y.slpLineOut x n l).frames = y.frames :=
  (((touches_slpLineOut y x n l (fun _ => id)).2 (.refl y)).facet .frames (by simp) (by simp)).symm

theorem Sys.rd_slpLineOut (y : Sys) (x n l : Nat) {k : Nat} (hk : ¬ (Spot.above 0x4D10 7).hits k) : (y.slpLineOut x n l).rd k = y.rd k :=
  ((writes_slpLineOut y x n l (fun _ => id)).2 (.refl y)).rd_eq (by simpa using hk)

/-- The FIFO of a group holds lines: it does not depend on what else a frame says. -/
theorem Sys.occupancy_onFrame (y : Sys) (x n g : Nat) (f : Frame → Frame) (h : ∀ j, (f j).lines = j.lines) :
    (y.onFrame x n f).occupancy g = y.occupancy g := by
  unfold occupancy onFrame
  rw [List.map_map]
  congr 2
  funext j
  rw [Function.comp_apply]
  split
  · rw [h]
  · rfl

theorem Sys.frames_showOccupancy (y : Sys) (g : Nat) : (y.showOccupancy g).frames = y.frames := by
  unfold showOccupancy
  dsimp only
  split <;> rfl

/-- Line `l` of group `g` joins a frame as it came. -/
def Frame.addLine (x g l : Nat) (data : Bytes) (f : Frame) : Frame :=
  { f with lines := f.lines ++ [{ num := l, group := g, source := l, data := data, readOut := !f.wanted l, coded := !f.gen.rawPath x }] }

theorem Frame.mem_addLine (x g l : Nat) (data : Bytes) (f : Frame) : ∃ d ∈ (f.addLine x g l data).lines, d.num = l ∧ d.data = data :=
  ⟨{ num := l, group := g, source := l, data := data, readOut := !f.wanted l, coded := !f.gen.rawPath x }, by simp [addLine], rfl, rfl⟩

theorem Sys.takeLine_whole (y : Sys) (x g : Nat) (f : Frame) (fg : FrameGroup) (l : Nat) (b : Bytes)
    (hmissing : (f.outstanding fg).filter (· < l) = []) (hlen : f.gen.lineBytes x (f.gen.depth x) ≤ b.length) (hx : x < 8)
    (hocc : y.occupancy g < 3072) :
    let z := (y.lineSeen x).onFrame x f.num fun f => f.onGroup g fun h => { h with last := some l }
    y.takeLine x g f fg l b 0 =
      Sys.showOccupancy (Sys.inc64 ((z.onFrame x f.num (Frame.addLine x g l (b.take (f.gen.lineBytes x (f.gen.depth x))))).slpLineOut x f.num l)
        (ent (0x3018 + g) 6) 1) g := by
  intro z
  have hsensor : isSensor x = true := by simpa [isSensor] using hx
  have hz : z.occupancy g = y.occupancy g := Sys.occupancy_onFrame (y.lineSeen x) x f.num g (fun f => f.onGroup g fun h => { h with last := some l })
    fun _ => rfl
  have hnot : ¬ (isSensor x && decide (3072 ≤ z.occupancy g)) = true := by
    rw [hz]
    simp [hocc]
  unfold takeLine lineCrc
  dsimp only
  rw [hmissing]
  simp only [substituteAll, List.foldl_nil, if_true]
  rw [if_neg (by omega), if_neg hnot, if_pos hsensor]
  rfl

theorem Sys.takeLine_keeps (y : Sys) (x g : Nat) (f : Frame) (fg : FrameGroup) (l : Nat) (b : Bytes)
    (hmissing : (f.outstanding fg).filter (· < l) = []) (hlen : f.gen.lineBytes x (f.gen.depth x) ≤ b.length) (hx : x < 8)
    (hocc : y.occupancy g < 3072) :
    let t := y.takeLine x g f fg l b 0
    (∀ j ∈ t.frames, j.ctx = x → j.num = f.num → ∃ d ∈ j.lines, d.num = l ∧ d.data = b.take (f.gen.lineBytes x (f.gen.depth x))) ∧
    t.rd (ent (0x3018 + g) 6) = (y.rd (ent (0x3018 + g) 6) + 1) % 2 ^ 64 := by
  intro t
  let w := ((y.lineSeen x).onFrame x f.num fun f => f.onGroup g fun h => { h with last := some l }).onFrame x f.num
    (Frame.addLine x g l (b.take (f.gen.lineBytes x (f.gen.depth x))))
  have ht : t = Sys.showOccupancy (Sys.inc64 (w.slpLineOut x f.num l) (ent (0x3018 + g) 6) 1) g := takeLine_whole y x g f fg l b hmissing hlen hx hocc
  constructor
  · intro j hj hjx hjn
    have hframes : t.frames = w.frames := by
      rw [ht, frames_showOccupancy]
      exact frames_slpLineOut ..
    rw [hframes] at hj
    obtain ⟨h, -, -, -, rfl⟩ := mem_onFrame hj hjx hjn
    exact Frame.mem_addLine ..
  · have hw : (w.slpLineOut x f.num l).rd (ent (0x3018 + g) 6) = y.rd (ent (0x3018 + g) 6) :=
      rd_slpLineOut w x f.num l (by simp [Spot.hits, ent])
    rw [ht, Writes.rd_eq ((writes_showOccupancy _ g (fun _ => id)).2 (.refl _)) (by simp [Spot.hits, ent]), inc64_eq, rd_wr, if_pos rfl, hw]

theorem linePacket_joins (s : State) (g : Fin 8) (h : PacketHeader) (b : Bytes) (tr : List (BitVec 32)) (x : Nat) (f : Frame) (fg : FrameGroup)
    (ht : Takes s g.val h x f fg) (hplace : strayReason s.sys x f fg h.stream.val h.gidx.val h.number.toNat = none)
    (hmissing : (f.outstanding fg).filter (· < h.number.toNat) = []) (hcrc : failedLanes (s.sys.view.groupWidth g.val) b tr = 0)
    (hlen : f.gen.lineBytes x (f.gen.depth x) ≤ b.length) (hx : x < 8) (hocc : s.sys.occupancy g.val < 3072) :
    Completes (.linePacket g h b tr) s fun t =>
      (∀ j ∈ t.sys.frames, j.ctx = x → j.num = f.num → ∃ d ∈ j.lines, d.num = h.number.toNat ∧ d.data = b.take (f.gen.lineBytes x (f.gen.depth x))) ∧
      t.sys.rd (ent (0x3018 + g.val) 6) = (s.sys.rd (ent (0x3018 + g.val) 6) + 1) % 2 ^ 64 ∧ t.otp = s.otp ∧ t.pending = s.pending := by
  have hexec := linePacket_takes s g h b tr x f fg ht hplace
  dsimp only at hexec
  rw [hcrc, show s.sys.countCrc g.val 0 = s.sys from rfl] at hexec
  obtain ⟨hline, hcount⟩ := Sys.takeLine_keeps s.sys x g.val f fg h.number.toNat b hmissing hlen hx hocc
  exact ⟨_, hexec, hline, hcount, rfl, rfl⟩

/-! ## A frame that times out -/

/-- Each frame of context `x` with number `n` satisfies `p`. -/
def Sys.eachFrame (y : Sys) (x n : Nat) (p : Frame → Prop) : Prop := ∀ h ∈ y.frames, h.ctx = x → h.num = n → p h

theorem Sys.eachFrame_of_frames {x n : Nat} {p : Frame → Prop} (hf : z.frames = y.frames) (h : y.eachFrame x n p) : z.eachFrame x n p :=
  fun j hj => h j (hf ▸ hj)

theorem Sys.eachFrame_onFrame {x n : Nat} {p q : Frame → Prop} {f : Frame → Frame} (h : y.eachFrame x n q) (hf : ∀ j, q j → p (f j)) :
    (y.onFrame x n f).eachFrame x n p := by
  intro j hj hx hn
  obtain ⟨k, hk, hkx, hkn, rfl⟩ := mem_onFrame hj hx hn
  exact hf k (h k hk hkx hkn)

theorem Sys.eachFrame_substituteAll {x n : Nat} {p : Frame → Prop} (fg : FrameGroup) (hp : ∀ j l, p j → p (j.substitute fg l)) (l : List Nat)
    (h : y.eachFrame x n p) : (y.substituteAll x n fg l).eachFrame x n p := by
  unfold substituteAll
  induction l generalizing y with
  | nil => exact h
  | cons a l ih =>
    refine ih ?_
    have hsub : (y.onFrame x n fun f => f.substitute fg a).eachFrame x n p := eachFrame_onFrame h fun j => hp j a
    unfold substituteLine
    split
    · exact eachFrame_of_frames (frames_slpLineOut ..) hsub
    · exact eachFrame_of_frames (frames_slpLineOut ..) hsub

/-- A frame that is completed is as it was, but for the mark that it is complete. -/
theorem Sys.eachFrame_completeFrame {x n : Nat} {p : Frame → Prop} (h : y.eachFrame x n fun j => j.complete = false ∧ p { j with complete := true }) :
    (y.completeFrame x n).eachFrame x n fun j => j.complete = true ∧ p j := by
  unfold completeFrame
  split
  next hnone =>
    intro j hj hx hn
    exact absurd (List.find?_eq_none.1 hnone j hj) (by simp [hx, hn])
  next f hf =>
    obtain ⟨hfalse, -⟩ := h f (List.mem_of_find?_eq_some hf) (by simpa using And.left (by simpa using List.find?_some hf))
      (by simpa using And.right (by simpa using List.find?_some hf))
    rw [if_neg (by simp [hfalse])]
    have hdone : (y.onFrame x n fun f => { f with complete := true }).eachFrame x n fun j => j.complete = true ∧ p j :=
      eachFrame_onFrame h fun j hj => ⟨rfl, hj.2⟩
    dsimp only
    split
    · exact hdone
    · refine eachFrame_of_frames ?_ hdone
      rw [setCtx_frames]
      split
      · exact frames_slpMsg ..
      · exact frames_slpMsg ..

theorem Sys.frames_incCtx (y : Sys) (x sub : Nat) : (y.incCtx x sub).frames = y.frames := by
  unfold incCtx
  split <;> rfl

theorem Sys.eachFrame_timeoutFrame {f : Frame} (hopen : f.complete = false) (h : y.eachFrame f.ctx f.num fun j => j.complete = false) :
    (y.timeoutFrame f).eachFrame f.ctx f.num fun j => j.complete = true ∧ ∀ fg ∈ j.groups, fg.ended = true := by
  have hfold (l : List FrameGroup) : ∀ y : Sys, y.eachFrame f.ctx f.num (fun j => j.complete = false) →
      (l.foldl (fun y fg => if fg.ended then y else y.substituteAll f.ctx f.num fg (f.outstanding fg)) y).eachFrame f.ctx f.num fun j =>
        j.complete = false := by
    induction l with
    | nil => exact fun y h => h
    | cons fg l ih =>
      intro y h
      refine ih _ ?_
      dsimp only
      split
      · exact h
      · exact eachFrame_substituteAll fg (fun _ _ hj => hj) _ h
  unfold timeoutFrame
  rw [if_neg (by simp [hopen])]
  refine eachFrame_completeFrame ?_
  refine eachFrame_of_frames ((raise_frames ..).trans (frames_incCtx ..)) (eachFrame_onFrame (hfold _ _ h) fun j hj => ⟨hj, ?_⟩)
  intro fg hfg
  obtain ⟨k, -, rfl⟩ := List.mem_map.1 hfg
  rfl

theorem frameTimeout_completes (s : State) (x : Fin 16) (f : Frame) (hnewest : s.sys.newest? x.val = some f) (hopen : f.complete = false)
    (huniq : ∀ h ∈ s.sys.frames, h.ctx = f.ctx → h.num = f.num → h = f) : Completes (.frameTimeout x) s fun t =>
    (∀ h ∈ t.sys.frames, h.ctx = f.ctx → h.num = f.num → h.complete = true ∧ ∀ fg ∈ h.groups, fg.ended = true) ∧ t.otp = s.otp := by
  have hexec : Runs (.frameTimeout x) s (s.sys.timeoutFrame f) := by
    rw [Runs, exec_frameTimeout, execFrameTimeout, onSys_eq, hnewest]
  exact ⟨_, hexec, Sys.eachFrame_timeoutFrame hopen fun j hj hx hn => by rw [huniq j hj hx hn]; exact hopen, rfl⟩

/-! ## Strays -/

theorem Sys.rd_stray (y : Sys) (g reason x : Nat) (h : y.owner g = some x) :
    (y.stray g reason).rd (ent (0x3010 + x) 0x0B) = (y.rd (ent (0x3010 + x) 0x0B) + 1) % 2 ^ 32 := by
  simp only [stray, h]
  simp

/-- Settles O36, clause by clause: a packet that its group's open frame takes is handled as such, and what is missing is substituted line by line. -/
theorem framesArriveLineByLine : Obligations.FramesArriveLineByLine :=
  ⟨⟨alignmentMarker_joins, alignmentMarker_skewed, malformedBlock_counts⟩,
    ⟨frameStartAccept_runs, frameStart_refuses, nonLeadFrameStart_joins, groupSkew_runs⟩,
    ⟨linePacket_joins, linePacket_takes, linePacket_strays, linePacket_discards, embeddedLine_keeps, frameEndAccept_runs, frameTimeout_completes⟩,
    ingestLockLoss_unowned, ingestLockLoss_stops, ingestLockLoss_felley, Sys.rd_stray⟩

end Sys2Proof.Machine
end

section
/-!
PROOFS. Contexts take their modes, groups rest and wake, and sensor ports send lists and transactions (R268 to R283).
-/

namespace Sys2Proof.Machine

variable {fs : List Facet} {nums blobs : Nat → Prop} {x y z : Sys} {s : State}

/-! ## A walk over a list, seen from one of its members -/

/-- A walk reaches a member once, and what the other members do keeps a relation. -/
theorem foldl_visits {α : Type} {R : Sys → Sys → Prop} (hrefl : ∀ y, R y y) (htrans : ∀ {x y z}, R x y → R y z → R x z) (f : Sys → α → Sys) {l : List α}
    (hl : l.Nodup) {a : α} (ha : a ∈ l) (hother : ∀ y, ∀ b ∈ l, b ≠ a → R y (f y b)) (y : Sys) : ∃ u, R y u ∧ R (f u a) (l.foldl f y) := by
  have hskip (m : List α) (hm : ∀ b ∈ m, b ∈ l ∧ b ≠ a) (y : Sys) : R y (m.foldl f y) := by
    induction m generalizing y with
    | nil => exact hrefl y
    | cons b m ih =>
      obtain ⟨hb, hm⟩ := List.forall_mem_cons.1 hm
      exact htrans (hother y b hb.1 hb.2) (ih hm _)
  obtain ⟨m, n, rfl⟩ := List.mem_iff_append.1 ha
  have hnot : a ∉ m ∧ a ∉ n := by
    have hn := List.nodup_append.1 hl
    exact ⟨fun h => hn.2.2 a h a (List.mem_cons_self ..) rfl, (List.nodup_cons.1 hn.2.1).1⟩
  refine ⟨m.foldl f y, hskip m (fun b hb => ⟨by simp [hb], fun e => hnot.1 (e ▸ hb)⟩) y, ?_⟩
  rw [List.foldl_append, List.foldl_cons]
  exact hskip n (fun b hb => ⟨by simp [hb], fun e => hnot.2 (e ▸ hb)⟩) _

/-! ## The lanes of a group -/

theorem mem_refLanes_group {g n : Nat} (hg : g < 8) : n ∈ refLanes g ↔ n < 48 ∧ n / 6 = g := by
  rw [refLanes, if_pos hg]
  simp only [List.mem_map, List.mem_range]
  constructor
  · rintro ⟨i, hi, rfl⟩
    omega
  · rintro ⟨h, rfl⟩
    exact ⟨n % 6, by omega, by omega⟩

theorem nodup_refLanes (r : Nat) : (refLanes r).Nodup := by
  unfold refLanes
  split
  · exact List.nodup_range.map fun a b h => by simpa using h
  · exact List.nodup_range.map fun a b h => by simpa using h

/-- Lane `n` and its entries are the same, and so are the ingest groups. -/
structure SameLane (n : Nat) (y z : Sys) : Prop where
  lane : z.lane n = y.lane n
  rd : ∀ e, e < 256 → z.rd (ent (0x2400 + n) e) = y.rd (ent (0x2400 + n) e)
  rdB : z.rdB (ent (0x2400 + n) 0x0F) = y.rdB (ent (0x2400 + n) 0x0F)
  igs : z.igs = y.igs

theorem SameLane.refl (n : Nat) (y : Sys) : SameLane n y y := ⟨rfl, fun _ _ => rfl, rfl, rfl⟩

theorem SameLane.trans {n : Nat} (h : SameLane n x y) (g : SameLane n y z) : SameLane n x z :=
  ⟨g.lane.trans h.lane, fun e he => (g.rd e he).trans (h.rd e he), g.rdB.trans h.rdB, g.igs.trans h.igs⟩

theorem SameLane.laneIs {n : Nat} (h : SameLane n y z) (t : LaneState) : z.laneIs n t = y.laneIs n t := by
  rw [Sys.laneIs, Sys.laneIs, h.rd 2 (by decide)]

theorem SameLane.laneHas {n : Nat} (h : SameLane n y z) (f : LaneFlag) : z.laneHas n f = y.laneHas n f := by
  rw [Sys.laneHas, Sys.laneHas, Sys.rdBit, Sys.rdBit, h.rd 3 (by decide)]

theorem sameLane_laneTo (y : Sys) {m n : Nat} (hn : n < 80) (hne : m ≠ n) (t : LaneState) : SameLane n y (y.laneTo m t) := by
  have h := sameBut_laneTo y m t
  refine ⟨y.lane_laneTo m t n, fun e he => h.2.1 _ ?_, h.2.2 _ ?_, (h.1 .igs (by simp)).symm⟩
  · simp only [stateNums, List.mem_cons, List.not_mem_nil, or_false, ent]
    omega
  · simp only [List.mem_singleton, ent]
    omega

theorem sameLane_setLane (y : Sys) {m n : Nat} (hne : m ≠ n) (v : Lane) : SameLane n y (y.setLane m v) :=
  ⟨by simp [hne.symm], fun _ _ => Sys.rd_setLane .., Sys.rdB_setLane .., Sys.setLane_igs ..⟩

theorem sameLane_laneResume (y : Sys) {m n : Nat} (hn : n < 80) (hne : m ≠ n) : SameLane n y (y.laneResume m) :=
  (sameLane_setLane y hne _).trans (sameLane_laneTo _ hn hne _)

theorem Sys.rd_laneTo_group (y : Sys) {n : Nat} (hn : n < 48) (t : LaneState) {k : Nat}
    (hk : k ∉ [ent (0x2400 + n) 2, ent (0x2400 + n) 3, ent (0x2480 + n / 6) 2]) : (y.laneTo n t).rd k = y.rd k := by
  simp only [List.mem_cons, List.not_mem_nil, or_false, not_or] at hk
  obtain ⟨h2, h3, hg⟩ := hk
  have habort : (y.abortScan n).rd k = y.rd k := by
    unfold abortScan
    dsimp only
    split <;> simp
  unfold laneTo
  split
  · rfl
  · rw [showMates]
    dsimp only
    rw [if_pos hn, rd_wr, if_neg hg, showFrozen, laneFlag, wrBit_eq, rd_wr, if_neg h3, rd_wr, if_neg h2, habort]

/-- The entries of a group's lanes that their states show. -/
def groupNums (g : Nat) (k : Nat) : Prop := k = ent (0x2480 + g) 2 ∨ ∃ n ∈ refLanes g, k = ent (0x2400 + n) 2 ∨ k = ent (0x2400 + n) 3
def groupBlobs (g : Nat) (k : Nat) : Prop := ∃ n ∈ refLanes g, k = ent (0x2400 + n) 0x0F

theorem sameBut_laneTo_group (y : Sys) {g n : Nat} (hg : g < 8) (hn : n ∈ refLanes g) (t : LaneState) :
    SameBut [] (groupNums g) (groupBlobs g) y (y.laneTo n t) := by
  obtain ⟨hn48, hng⟩ := (mem_refLanes_group hg).1 hn
  have h := sameBut_laneTo y n t
  refine ⟨h.1, fun k hk => y.rd_laneTo_group hn48 t fun hm => hk ?_, fun k hk => h.2.2 k fun hm => hk ?_⟩
  · simp only [List.mem_cons, List.not_mem_nil, or_false] at hm
    rcases hm with rfl | rfl | rfl
    · exact .inr ⟨n, hn, .inl rfl⟩
    · exact .inr ⟨n, hn, .inr rfl⟩
    · exact .inl (by rw [hng])
  · obtain rfl := List.mem_singleton.1 hm
    exact ⟨n, hn, rfl⟩

theorem sameBut_laneResume (y : Sys) {g n : Nat} (hg : g < 8) (hn : n ∈ refLanes g) : SameBut [.lanes] (groupNums g) (groupBlobs g) y (y.laneResume n) :=
  SameBut.trans (b := y.setLane n { y.lane n with step := 6, resume := false, quick := true }) (by simp)
    ((sameBut_laneTo_group _ hg hn _).mono (by simp) (fun _ => id) fun _ => id)

theorem sameBut_groupLanes (y : Sys) (g : Nat) (t : LaneState) (go : Sys → Nat → Sys) (hgo : ∀ y, ∀ n ∈ refLanes g, SameBut fs nums blobs y (go y n)) :
    SameBut fs nums blobs y (y.groupLanes g t go) := by
  refine SameBut.foldl _ _ (fun y n hn => ?_) y
  split
  · exact hgo y n hn
  · exact .refl y

/-- The turn of one lane of a group: what it does, it does where it stood, and the others leave it. -/
theorem Sys.groupLanes_visits (y : Sys) {g n : Nat} (hn : n ∈ refLanes g) (t : LaneState) (go : Sys → Nat → Sys)
    (hgo : ∀ y m, m ≠ n → SameLane n y (go y m)) (hwant : y.rd (ent (0x2400 + n) 1) = 0) (his : y.laneIs n t = true) :
    ∃ u, SameLane n y u ∧ SameLane n (go u n) (y.groupLanes g t go) := by
  obtain ⟨u, hu, hl⟩ := foldl_visits (SameLane.refl n) SameLane.trans
    (fun y n => if y.rd (ent (0x2400 + n) 1) = 0 ∧ y.laneIs n t then go y n else y) (nodup_refLanes g) hn (fun y m _ hm => by
      split
      · exact hgo y m hm
      · exact .refl n y) y
  refine ⟨u, hu, ?_⟩
  rwa [if_pos ⟨(hu.rd 1 (by decide)).trans hwant, (hu.laneIs t).trans his⟩] at hl

/-! ## Quiet after a frame's end, and the wake before the next frame -/

theorem Sys.rdLe_abortScan (y : Sys) (n : Nat) : rdLe ((y.abortScan n).rdB (ent (0x2400 + n) 0x0F)) 0 1 ≠ 1 := by
  unfold abortScan
  dsimp only
  split
  next h =>
    rw [rdB_wrB, if_pos rfl]
    cases hb : y.rdB (ent (0x2400 + n) 0x0F) with
    | nil => simp [hb, rdLe, unLe] at h
    | cons a b => simp [poke, rdLe, unLe]
  next h => exact h

/-- A lane that is taken to QUIET keeps its adaptation, and no eye scan goes on (R242, R246). -/
theorem Sys.quiets_laneTo (y : Sys) (n : Fin 80) (h : y.laneIs n.val .quiet = false) :
    (y.laneTo n.val .quiet).laneHas n.val .frozen = true ∧ rdLe ((y.laneTo n.val .quiet).rdB (ent (0x2400 + n.val) 0x0F)) 0 1 ≠ 1 := by
  unfold laneTo
  rw [if_neg (by simp [h])]
  have hmates (z : Sys) := sameBut_showMates (fs := []) (nums := only [ent (0x2480 + n.val / 6) 2, ent (0x2488 + quadOf n.val) 4]) (blobs := only []) z n.val
    (by simp) (by simp)
  constructor
  · rw [laneHas, rdBit, (hmates _).2.1 (ent (0x2400 + n.val) 3) (by simp [ent]; omega), showFrozen]
    have hq (z : Sys) : (z.wr (ent (0x2400 + n.val) 2) (LaneState.code .quiet)).laneIs n.val .quiet = true := by simp [laneIs]
    rw [hq, Bool.or_true]
    exact laneHas_laneFlag ..
  · rw [(hmates _).2.2 _ (by simp)]
    exact rdLe_abortScan y n.val

theorem quietBlock_rests (s : State) (g : Fin 8) (x : Nat) (f : Frame) (howner : s.sys.owner g.val = some x) (hnewest : s.sys.newest? x = some f)
    (hended : (f.groups.any fun fg => fg.group == g.val && fg.ended) = true) (hquiet : s.sys.rd (ent (0x3000 + x) 0x0E) = 1) :
    Completes (.quietBlock g) s fun t =>
      t.sys.ig g.val = { s.sys.ig g.val with quiet := true } ∧
      (∀ n ∈ refLanes g.val, s.sys.rd (ent (0x2400 + n) 1) = 0 → s.sys.laneIs n .active = true →
        t.sys.laneIs n .quiet = true ∧ t.sys.laneHas n .frozen = true ∧ rdLe (t.sys.rdB (ent (0x2400 + n) 0x0F)) 0 1 ≠ 1) ∧
      Leaves [.igs] (fun k => k = ent (0x2480 + g.val) 2 ∨ ∃ n ∈ refLanes g.val, k = ent (0x2400 + n) 2 ∨ k = ent (0x2400 + n) 3)
        (fun k => ∃ n ∈ refLanes g.val, k = ent (0x2400 + n) 0x0F) s t := by
  let y := s.sys.setIg g.val { s.sys.ig g.val with quiet := true }
  let z := y.groupLanes g.val .active fun y n => y.laneTo n .quiet
  have hexec : Runs (.quietBlock g) s z := by
    rw [Runs, exec_quietBlock, execQuietBlock, onSys_eq]
    simp only [howner, hnewest, hended, hquiet, and_self, if_true]
    rfl
  have hz : SameBut [] (groupNums g.val) (groupBlobs g.val) y z := sameBut_groupLanes y g.val .active _ fun y n hn => sameBut_laneTo_group y g.isLt hn _
  refine ⟨_, hexec, ?_, fun n hn hwant hactive => ?_, leaves_of_sameBut (SameBut.trans (b := y) (by simp [y]) (hz.mono (by simp) (fun _ => id) fun _ => id))⟩
  · have hig : z.igs = y.igs := (hz.1 .igs (by simp)).symm
    rw [Sys.ig, hig]
    exact (Sys.ig_setIg ..).trans (if_pos rfl)
  · have hn80 : n < 80 := by have := ((mem_refLanes_group g.isLt).1 hn).1; omega
    obtain ⟨u, hu, hl⟩ := y.groupLanes_visits hn .active (fun y n => y.laneTo n .quiet) (fun y m hm => sameLane_laneTo y hn80 hm _) hwant hactive
    have hnot : u.laneIs n .quiet = false := by
      have hu2 : u.rd (ent (0x2400 + n) 2) = LaneState.code .active := by simpa [Sys.laneIs] using (hu.laneIs .active).trans hactive
      rw [Sys.laneIs, hu2]
      rfl
    obtain ⟨hfrozen, hscan⟩ := u.quiets_laneTo ⟨n, hn80⟩ hnot
    exact ⟨(hl.laneIs .quiet).trans (u.laneIs_laneTo ⟨n, hn80⟩ .quiet), (hl.laneHas .frozen).trans hfrozen, by rw [hl.rdB]; exact hscan⟩

/-- What the wake does to one group. -/
def Sys.wakeGroup (y : Sys) (g : Nat) : Sys :=
  if (y.ig g).quiet then Sys.groupLanes (y.setIg g { y.ig g with quiet := false }) g .quiet Sys.laneResume else y

theorem sameBut_wakeGroup (y : Sys) {g : Nat} (hg : g < 8) : SameBut [.igs, .lanes] (groupNums g) (groupBlobs g) y (y.wakeGroup g) := by
  unfold Sys.wakeGroup
  split
  · exact SameBut.trans (b := y.setIg g { y.ig g with quiet := false }) (by simp)
      (sameBut_groupLanes _ g .quiet _ fun y n hn => (sameBut_laneResume y hg hn).mono (by simp) (fun _ => id) fun _ => id)
  · exact .refl y

theorem groupNums_indices {g k : Nat} (hg : g < 8) (h : groupNums g k) : indices 0x2400 48 k ∨ indices 0x2480 8 k := by
  rcases h with rfl | ⟨n, hn, h⟩
  · right
    rw [indices, ent_div _ (by decide)]
    omega
  · left
    have := ((mem_refLanes_group hg).1 hn).1
    rcases h with rfl | rfl
    · rw [indices, ent_div _ (by decide)]
      omega
    · rw [indices, ent_div _ (by decide)]
      omega

theorem groupBlobs_indices {g k : Nat} (hg : g < 8) (h : groupBlobs g k) : indices 0x2400 48 k := by
  obtain ⟨n, hn, rfl⟩ := h
  have := ((mem_refLanes_group hg).1 hn).1
  rw [indices, ent_div _ (by decide)]
  omega

/-- A group that wakes leaves the lanes of another group. -/
theorem Sys.igs_groupLanes (y : Sys) {g : Nat} (t : LaneState) (hg : g < 8) : (y.groupLanes g t Sys.laneResume).igs = y.igs :=
  ((sameBut_groupLanes y g t _ fun y n hn => sameBut_laneResume y hg hn).1 .igs (by simp)).symm

/-- Lane `n` and its entries are the same, and group `g` is. -/
structure SameGroupLane (g n : Nat) (y z : Sys) : Prop where
  lane : z.lane n = y.lane n
  rd : ∀ e, e < 256 → z.rd (ent (0x2400 + n) e) = y.rd (ent (0x2400 + n) e)
  ig : z.ig g = y.ig g

theorem SameGroupLane.refl (g n : Nat) (y : Sys) : SameGroupLane g n y y := ⟨rfl, fun _ _ => rfl, rfl⟩
theorem SameGroupLane.trans {g n : Nat} (h : SameGroupLane g n x y) (k : SameGroupLane g n y z) : SameGroupLane g n x z :=
  ⟨k.lane.trans h.lane, fun e he => (k.rd e he).trans (h.rd e he), k.ig.trans h.ig⟩
theorem SameGroupLane.laneIs {g n : Nat} (h : SameGroupLane g n y z) (t : LaneState) : z.laneIs n t = y.laneIs n t := by
  rw [Sys.laneIs, Sys.laneIs, h.rd 2 (by decide)]
theorem SameLane.withGroup {n : Nat} (h : SameLane n y z) (g : Nat) : SameGroupLane g n y z := ⟨h.lane, h.rd, by rw [Sys.ig, Sys.ig, h.igs]⟩

theorem sameGroupLane_setIg (y : Sys) {g h : Nat} (hne : h ≠ g) (n : Nat) (v : IngestGroup) : SameGroupLane g n y (y.setIg h v) :=
  ⟨rfl, fun _ _ => rfl, by simp [hne.symm]⟩

theorem sameGroupLane_wakeGroup (y : Sys) {g h n : Nat} (hg : g < 8) (hh : h < 8) (hne : h ≠ g) (hn : n ∈ refLanes g) :
    SameGroupLane g n y (y.wakeGroup h) := by
  obtain ⟨hn48, hng⟩ := (mem_refLanes_group hg).1 hn
  unfold Sys.wakeGroup
  split
  · refine (sameGroupLane_setIg y hne n { y.ig h with quiet := false }).trans (SameLane.withGroup ?_ g)
    unfold Sys.groupLanes
    generalize y.setIg h { y.ig h with quiet := false } = z
    refine List.foldlRecOn (refLanes h) (fun y m => if y.rd (ent (0x2400 + m) 1) = 0 ∧ y.laneIs m .quiet then y.laneResume m else y) (motive := SameLane n z)
      (.refl n z) fun u hu m hm => ?_
    have hmn : m ≠ n := fun e => hne (((mem_refLanes_group hh).1 hm).2.symm.trans (e ▸ hng))
    split
    · exact hu.trans (sameLane_laneResume u (by omega) hmn)
    · exact hu
  · exact .refl g n y

theorem Sys.mem_groupsOf {y : Sys} {x g : Nat} (h : g ∈ y.view.groupsOf x) : g < 8 := List.mem_range.1 (List.mem_filter.1 h).1
theorem Sys.nodup_groupsOf (y : Sys) (x : Nat) : (y.view.groupsOf x).Nodup := List.nodup_range.filter _

theorem blankingWake_wakes (s : State) (x : Fin 8) : Completes (.blankingWake x) s fun t =>
    (∀ g ∈ s.sys.view.groupsOf x.val, (t.sys.ig g).quiet = false ∧
      ((s.sys.ig g).quiet = true → ∀ n ∈ refLanes g, s.sys.rd (ent (0x2400 + n) 1) = 0 → s.sys.laneIs n .quiet = true →
        t.sys.laneIs n .bringup = true ∧ t.sys.lane n = { s.sys.lane n with step := 6, resume := false, quick := true })) ∧
    Leaves [.igs, .lanes] (fun k => indices 0x2400 48 k ∨ indices 0x2480 8 k) (indices 0x2400 48) s t := by
  let z := (s.sys.view.groupsOf x.val).foldl Sys.wakeGroup s.sys
  have hexec : Runs (.blankingWake x) s z := rfl
  refine ⟨_, hexec, fun g hgm => ?_, leaves_of_sameBut (SameBut.foldl _ _ (fun y g hg => ?_) _)⟩
  · have hg := Sys.mem_groupsOf hgm
    have hvisit (n : Nat) (hn : n ∈ refLanes g) : ∃ u, SameGroupLane g n s.sys u ∧ SameGroupLane g n (u.wakeGroup g) z :=
      foldl_visits (SameGroupLane.refl g n) SameGroupLane.trans Sys.wakeGroup (s.sys.nodup_groupsOf x.val) hgm
        (fun y h hh hne => sameGroupLane_wakeGroup y hg (Sys.mem_groupsOf hh) hne hn) s.sys
    have hnotquiet (u : Sys) : ((u.wakeGroup g).ig g).quiet = false := by
      unfold Sys.wakeGroup
      split
      · rw [Sys.ig, Sys.igs_groupLanes _ _ hg]
        exact congrArg IngestGroup.quiet ((Sys.ig_setIg ..).trans (if_pos rfl))
      next h => exact Bool.eq_false_of_not_eq_true h
    constructor
    · obtain ⟨u, -, hu⟩ := hvisit (6 * g) ((mem_refLanes_group hg).2 (by omega))
      rw [hu.ig]
      exact hnotquiet u
    · intro hquiet n hn hwant hrest
      obtain ⟨u, hu, hz⟩ := hvisit n hn
      have hn80 : n < 80 := by have := ((mem_refLanes_group hg).1 hn).1; omega
      obtain ⟨v, hv, hl⟩ := (u.setIg g { u.ig g with quiet := false }).groupLanes_visits hn .quiet Sys.laneResume
        (fun y m hm => sameLane_laneResume y hn80 hm) ((hu.rd 1 (by decide)).trans hwant) ((hu.laneIs .quiet).trans hrest)
      have hwake : u.wakeGroup g = Sys.groupLanes (u.setIg g { u.ig g with quiet := false }) g .quiet Sys.laneResume := by
        rw [Sys.wakeGroup, if_pos (by rw [hu.ig]; exact hquiet)]
      rw [hwake] at hz
      refine ⟨(hz.laneIs .bringup).trans ((hl.laneIs .bringup).trans (Sys.laneIs_laneTo _ ⟨n, hn80⟩ .bringup)), ?_⟩
      have hv' : v.lane n = s.sys.lane n := hv.lane.trans hu.lane
      rw [hz.lane, hl.lane, Sys.laneResume, Sys.lane_laneTo, Sys.lane_setLane, if_pos rfl, hv']
  · have hg8 := Sys.mem_groupsOf hg
    exact (sameBut_wakeGroup y hg8).mono (by simp) (fun _ h => groupNums_indices hg8 h) fun _ h => groupBlobs_indices hg8 h

/-! ## Sensor ports -/

@[simp] theorem Sys.port_wr (y : Sys) (k v n : Nat) : (y.wr k v).port n = y.port n := rfl
@[simp] theorem Sys.port_wrB (y : Sys) (k : Nat) (v : Bytes) (n : Nat) : (y.wrB k v).port n = y.port n := rfl
@[simp] theorem Sys.port_setCtx (y : Sys) (x : Nat) (c : Ctx) (n : Nat) : (y.setCtx x c).port n = y.port n := rfl

theorem Sys.ports_portSend (y : Sys) (n : Nat) (b : Bytes) : (y.portSend n b).ports = y.ports := by
  unfold portSend
  split <;> rfl

@[simp] theorem Sys.port_portSend (y : Sys) (n : Nat) (b : Bytes) (j : Nat) : (y.portSend n b).port j = y.port j := by rw [port, port, ports_portSend]

theorem sameBut_portSend (y : Sys) (n : Nat) (b : Bytes) (h : .tx ∈ fs) : SameBut fs nums blobs y (y.portSend n b) := by
  unfold Sys.portSend
  split
  · exact .refl y
  · exact sameBut_send y _ h

theorem Sys.tx_portSend (y : Sys) (n : Nat) (b : Bytes) (hs : y.isShadow = false) (hstrap : y.boot.strapFault = false) (hstandby : y.rd (ent 0x2700 1) ≠ 2) :
    (y.portSend n b).tx = y.tx ++ [.sensor n b] := by
  rw [portSend, if_neg (by simp [hs, hstrap, hstandby])]
  rfl

/-- A port whose wire rests takes its own mode again. -/
theorem Sys.port_portState (y : Sys) (n : Nat) :
    (y.portState n).port n = if (y.port n).busy then y.port n else { y.port n with mode := none } := by
  unfold portState
  dsimp only
  split <;> simp

theorem sameBut_portState (y : Sys) (n : Nat) (h : .ports ∈ fs) (hk : nums (ent (0x3028 + n) 9)) : SameBut fs nums blobs y (y.portState n) := by
  unfold Sys.portState
  dsimp only
  split <;> simp [h, hk]

theorem Sys.tx_portState (y : Sys) (n : Nat) : (y.portState n).tx = y.tx :=
  ((sameBut_portState (fs := [.ports]) (nums := only [ent (0x3028 + n) 9]) (blobs := only []) y n (by simp) (by simp)).1 .tx (by simp)).symm

theorem Sys.rdB_portState (y : Sys) (n k : Nat) : (y.portState n).rdB k = y.rdB k :=
  (sameBut_portState (fs := [.ports]) (nums := only [ent (0x3028 + n) 9]) (blobs := only []) y n (by simp) (by simp)).2.2 k (by simp)

theorem exposureListStart_sends (s : State) (p : Fin 8) (l : SensorList) (r : List SensorList) (hl : (s.sys.port p.val).lists = l :: r)
    (hstarted : l.started = false) (hhost : (s.sys.port p.val).hostOnWire = false) : Completes (.exposureListStart p) s fun t =>
      (t.sys.port p.val).lists = { l with started := true } :: r ∧
      (s.sys.isShadow = false → s.sys.boot.strapFault = false → s.sys.rd (ent 0x2700 1) ≠ 2 → t.sys.tx = s.sys.tx ++ [.sensor p.val l.body]) ∧
      Leaves [.ports, .tx] (only [ent (0x3028 + p.val) 9]) (only []) s t := by
  let y := s.sys.setPort p.val { s.sys.port p.val with lists := { l with started := true } :: r }
  have hexec : Runs (.exposureListStart p) s ((y.portSend p.val l.body).portState p.val) := by
    rw [Runs, exec_exposureListStart, execExposureListStart, onSys_eq]
    simp only [hl, hstarted, hhost, Bool.or_false, Bool.false_eq_true, if_false]
    rw [← hhost]
  refine ⟨_, hexec, ?_, fun hs hstrap hstandby => ?_, leaves_of_sameBut ?_⟩
  · have hbusy : ((y.portSend p.val l.body).port p.val).busy = true := by simp [y, SensorPort.busy]
    rw [Sys.port_portState, if_pos hbusy]
    simp [y]
  · rw [Sys.tx_portState, Sys.tx_portSend y p.val l.body hs hstrap hstandby]
    rfl
  · exact SameBut.trans (b := y) (by simp [y])
      ((sameBut_portSend y p.val l.body (by simp)).trans (sameBut_portState _ _ (by simp) (by simp)))

theorem sameBut_portNext (y : Sys) (n : Nat) (h : .ports ∈ fs) (ht : .tx ∈ fs) (hk : nums (ent (0x3028 + n) 9)) :
    SameBut fs nums blobs y (y.portNext n) := by
  unfold Sys.portNext
  dsimp only
  split
  next b _ =>
    split
    · exact SameBut.trans (b := y.setPort n { y.port n with hostOnWire := true }) (by simp [h])
        ((sameBut_portSend _ n b ht).trans (sameBut_portState _ _ h hk))
    · exact sameBut_portState y n h hk
  · exact sameBut_portState y n h hk

/-- What a port sends next takes none of its lists. -/
theorem Sys.lists_portNext (y : Sys) (n : Nat) : ((y.portNext n).port n).lists = (y.port n).lists := by
  have hstate (z : Sys) : ((z.portState n).port n).lists = (z.port n).lists := by
    rw [port_portState]
    split <;> rfl
  unfold portNext
  dsimp only
  split
  · split
    · rw [hstate]
      simp
    · exact hstate y
  · exact hstate y

theorem exposureListDone_drops (s : State) (p : Fin 8) : Completes (.exposureListDone p) s fun t =>
    (t.sys.port p.val).lists = (s.sys.port p.val).lists.drop 1 ∧ Leaves [.ports, .ctxs, .tx] (only [ent (0x3028 + p.val) 9]) (only []) s t := by
  have hexec : ∃ y, Runs (.exposureListDone p) s ((y.setPort p.val { s.sys.port p.val with lists := (s.sys.port p.val).lists.drop 1 }).portNext p.val) ∧
      SameBut [.ports, .ctxs, .tx] (only [ent (0x3028 + p.val) 9]) (only []) s.sys y := by
    refine ⟨_, rfl, ?_⟩
    dsimp only
    split <;> simp
  obtain ⟨y, hexec, hy⟩ := hexec
  refine ⟨_, hexec, ?_, leaves_of_sameBut ?_⟩
  · rw [Sys.lists_portNext]
    simp
  · exact (hy.trans (by simp)).trans (sameBut_portNext (y.setPort p.val { s.sys.port p.val with lists := (s.sys.port p.val).lists.drop 1 }) p.val
      (by simp) (by simp) (by simp))

theorem exposureListOverrun_counts (s : State) (p : Fin 8) (us : BitVec 32) (l : SensorList) (hl : (s.sys.port p.val).lists.head? = some l)
    (hctx : l.ctx < 8) (hroom : Room s) : Completes (.exposureListOverrun p us) s fun t =>
      t.sys.rd (ent (0x3010 + l.ctx) 0x0C) = (s.sys.rd (ent (0x3010 + l.ctx) 0x0C) + 1) % 2 ^ 32 ∧
      Logs s t 0x080D l.ctx (ev [(0, 1, l.ctx), (1, 1, p.val), (4, 4, l.frame), (8, 4, us.toNat)]) ∧
      Leaves [.ctxs, .log] (only [ent (0x3010 + l.ctx) 0x0C]) (only []) s t := by
  have hexec : Runs (.exposureListOverrun p us) s (((s.sys.inc (ent (0x3010 + l.ctx) 0x0C)).exposureLate l.ctx l.frame).raise 0x080D l.ctx
      (ev [(0, 1, l.ctx), (1, 1, p.val), (4, 4, l.frame), (8, 4, us.toNat)])) := by
    rw [Runs, exec_exposureListOverrun, execExposureListOverrun, onSys_eq]
    simp only [hl, Sys.incCtx, isSensor, hctx, decide_true, if_true]
  exact ⟨_, hexec, by simp [Sys.exposureLate], Sys.log_raise _ _ _ _ hroom, leaves_of_sameBut (by simp [Sys.exposureLate])⟩

theorem sensorWriteError_counts (s : State) (p : Fin 8) (timeout : Bool) (reg : BitVec 16) : Completes (.sensorWriteError p timeout reg) s fun t =>
    t.sys.rd (ent (0x3028 + p.val) 8) = (s.sys.rd (ent (0x3028 + p.val) 8) + 1) % 2 ^ 32 ∧
    Leaves [.ctxs, .log] (only [ent (0x3028 + p.val) 8]) (only []) s t := by
  have hexec : ∃ y b, Runs (.sensorWriteError p timeout reg) s (y.raiseLimited p.val 0x080E p.val b) ∧
      SameBut [.ctxs] (only []) (only []) (s.sys.inc (ent (0x3028 + p.val) 8)) y := by
    refine ⟨_, _, rfl, ?_⟩
    split
    · exact .refl _
    · split
      · exact sameBut_setCtx _ _ (by simp)
      · exact .refl _
  obtain ⟨y, b, hexec, hy⟩ := hexec
  have hcount := hy.2.1 (ent (0x3028 + p.val) 8) (by simp)
  refine ⟨_, hexec, ?_, leaves_of_sameBut ?_⟩
  · rw [Sys.rd_raiseLimited, hcount]
    simp
  · exact SameBut.trans (b := y) ((sameBut_inc s.sys _ (by simp)).trans (hy.mono (by simp) (by simp) (by simp))) (by simp)

/-- A host transaction that is taken. -/
theorem sensorTransaction_runs (s : State) (p : Fin 8) (r : Bytes) (hok : transactionOk r = true) (hs : s.sys.isShadow = false)
    (hmode : s.sys.portMode p.val ≠ 0) (hnone : (s.sys.port p.val).host = none) :
    Runs (.sensorTransaction p r) s
      (((s.sys.setPort p.val { s.sys.port p.val with host := some r }).wrB (ent (0x3028 + p.val) 7) [3, 0]).portNext p.val) := by
  rw [Runs, exec_sensorTransaction, execSensorTransaction, onSys_eq]
  simp [Sys.hostTransaction, hok, hs, hmode, hnone]

theorem sensorTransaction_queues (s : State) (p : Fin 8) (r : Bytes) (hok : transactionOk r = true) (hs : s.sys.isShadow = false)
    (hmode : s.sys.portMode p.val ≠ 0) (hnone : (s.sys.port p.val).host = none) (hwire : (s.sys.port p.val).hostOnWire = false) :
    Completes (.sensorTransaction p r) s fun t =>
      (t.sys.port p.val).host = some r ∧ t.sys.rdB (ent (0x3028 + p.val) 7) = [3, 0] ∧
      ((∃ l ∈ (s.sys.port p.val).lists, l.started = true ∨ l.due ≤ s.sys.up) → (t.sys.port p.val).hostOnWire = false ∧ t.sys.tx = s.sys.tx) ∧
      ((∀ l ∈ (s.sys.port p.val).lists, l.started = false ∧ s.sys.up < l.due) → (t.sys.port p.val).hostOnWire = true ∧
        (s.sys.boot.strapFault = false → s.sys.rd (ent 0x2700 1) ≠ 2 → t.sys.tx = s.sys.tx ++ [.sensor p.val r])) ∧
      Leaves [.ports, .tx] (only [ent (0x3028 + p.val) 9]) (only [ent (0x3028 + p.val) 7]) s t := by
  have hexec := sensorTransaction_runs s p r hok hs hmode hnone
  let y := (s.sys.setPort p.val { s.sys.port p.val with host := some r }).wrB (ent (0x3028 + p.val) 7) [3, 0]
  have hport : y.port p.val = { s.sys.port p.val with host := some r } := by simp [y]
  let z := (y.setPort p.val { y.port p.val with hostOnWire := true }).portSend p.val r
  have hnext : y.portNext p.val = if (s.sys.port p.val).lists.any (fun l => l.started || decide (l.due ≤ s.sys.up)) then y.portState p.val
      else z.portState p.val := by
    have hup : y.up = s.sys.up := rfl
    unfold Sys.portNext
    simp only [hport, hwire, hup, Bool.not_false, Bool.and_true, Bool.not_eq_true']
    by_cases h : ((s.sys.port p.val).lists.any fun l => l.started || decide (l.due ≤ s.sys.up)) = true
    · rw [h, if_neg (by decide), if_pos rfl]
    · rw [Bool.eq_false_of_not_eq_true h, if_pos rfl, if_neg (by decide)]
      simp only [z, hport]
  have hz : (z.portState p.val).port p.val = { s.sys.port p.val with host := some r, hostOnWire := true } := by
    rw [Sys.port_portState, if_pos (by simp [z, SensorPort.busy])]
    simp [z, hport]
  have hy : ((y.portState p.val).port p.val).host = some r ∧ ((y.portState p.val).port p.val).hostOnWire = false := by
    rw [Sys.port_portState, hport]
    split <;> exact ⟨rfl, hwire⟩
  have hB : y.rdB (ent (0x3028 + p.val) 7) = [3, 0] := by simp [y]
  have hsame : SameBut [.ports, .tx] (only [ent (0x3028 + p.val) 9]) (only [ent (0x3028 + p.val) 7]) s.sys y := by simp [y]
  refine ⟨_, hexec, ?_, ?_, fun ⟨l, hl, hdue⟩ => ?_, fun hall => ?_, leaves_of_sameBut (hsame.trans (sameBut_portNext y p.val (by simp) (by simp) (by simp)))⟩
  · rw [show (s.sys.setPort p.val { s.sys.port p.val with host := some r }).wrB (ent (0x3028 + p.val) 7) [3, 0] = y from rfl, hnext]
    split
    · exact hy.1
    · rw [hz]
  · have hk : (y.portNext p.val).rdB (ent (0x3028 + p.val) 7) = y.rdB (ent (0x3028 + p.val) 7) :=
      (sameBut_portNext (fs := [.ports, .tx]) (nums := only [ent (0x3028 + p.val) 9]) (blobs := only []) y p.val (by simp) (by simp) (by simp)).2.2 _ (by simp)
    exact hk.trans hB
  · have hany : ((s.sys.port p.val).lists.any fun l => l.started || decide (l.due ≤ s.sys.up)) = true :=
      List.any_eq_true.2 ⟨l, hl, by simpa using hdue⟩
    rw [show (s.sys.setPort p.val { s.sys.port p.val with host := some r }).wrB (ent (0x3028 + p.val) 7) [3, 0] = y from rfl, hnext, if_pos hany]
    exact ⟨hy.2, Sys.tx_portState ..⟩
  · have hany : ((s.sys.port p.val).lists.any fun l => l.started || decide (l.due ≤ s.sys.up)) = false :=
      List.any_eq_false.2 fun l hl => by simp [(hall l hl).1, (hall l hl).2]
    rw [show (s.sys.setPort p.val { s.sys.port p.val with host := some r }).wrB (ent (0x3028 + p.val) 7) [3, 0] = y from rfl, hnext, hany,
      if_neg Bool.false_ne_true]
    refine ⟨by rw [hz], fun hstrap hstandby => ?_⟩
    rw [Sys.tx_portState, Sys.tx_portSend (y.setPort p.val { y.port p.val with hostOnWire := true }) p.val r hs hstrap hstandby]
    rfl

theorem sensorTransactionDone_answers (s : State) (p : Fin 8) (st : Fin 3) (d : Bytes) (hwire : (s.sys.port p.val).hostOnWire = true) :
    Completes (.sensorTransactionDone p st d) s fun t =>
    t.sys.rdB (ent (0x3028 + p.val) 7) = le 1 st.val ++ le 1 (d.take 64).length ++ d.take 64 ∧
    t.sys.port p.val = { s.sys.port p.val with
      host := none, hostOnWire := false, mode := if (s.sys.port p.val).lists.any (·.started) then (s.sys.port p.val).mode else none } ∧
    Leaves [.ports] (only [ent (0x3028 + p.val) 9]) (only [ent (0x3028 + p.val) 7]) s t := by
  let y := (s.sys.wrB (ent (0x3028 + p.val) 7) (le 1 st.val ++ le 1 (d.take 64).length ++ d.take 64)).setPort p.val
    { s.sys.port p.val with host := none, hostOnWire := false }
  have hexec : Runs (.sensorTransactionDone p st d) s (y.portState p.val) := by
    rw [Runs, exec_sensorTransactionDone, execSensorTransactionDone, onSys_eq]
    simp only [hwire, if_true]
    rfl
  refine ⟨_, hexec, ?_, ?_, leaves_of_sameBut (SameBut.trans (b := y) (by simp [y]) (sameBut_portState y p.val (by simp) (by simp)))⟩
  · rw [Sys.rdB_portState]
    simp [y]
  · rw [Sys.port_portState]
    simp only [y, Sys.port_setPort, if_true, SensorPort.busy, Bool.false_or]
    split <;> rfl

/-! ## The mode of a context -/

theorem sameBut_takeGroups (y : Sys) (x m : Nat) : SameBut [] (fun k => 0x3018 ≤ k / 256 ∧ k / 256 < 0x3020) (only []) y (y.takeGroups x m) := by
  refine SameBut.foldl _ _ (fun y g hg => ?_) y
  have hg8 := List.mem_range.1 hg
  have hk (e : Nat) (he : e < 256) : 0x3018 ≤ ent (0x3018 + g) e / 256 ∧ ent (0x3018 + g) e / 256 < 0x3020 := by
    rw [ent_div _ he]
    omega
  split
  · exact (sameBut_wr _ _ _ (hk 1 (by decide))).trans (sameBut_wr _ _ _ (hk 2 (by decide)))
  · split
    · exact (sameBut_wr _ _ _ (hk 1 (by decide))).trans (sameBut_wr _ _ _ (hk 2 (by decide)))
    · exact .refl y

/-- A context that leaves DISABLED keeps its state and what its start-up counts. -/
theorem Sys.enableCtx_keeps (y : Sys) (x : Nat) : SameBut [.ctxs] (fun k => 0x3018 ≤ k / 256 ∧ k / 256 < 0x3020) (only []) y (y.enableCtx x) ∧
    ((y.enableCtx x).ctx x).toRun = (y.ctx x).toRun ∧ ((y.enableCtx x).ctx x).clean = (y.ctx x).clean := by
  have h (z : Sys) := sameBut_takeGroups z x (y.shadow (ent (0x3000 + x) 3))
  refine ⟨SameBut.trans (b := y.setCtx x { y.ctx x with expo := [], firstExpo := none, black := [], prevBlack := none }) (by simp)
    ((h _).mono (by simp) (fun _ => id) fun _ => id), ?_⟩
  have hctx (z : Sys) : (z.takeGroups x (y.shadow (ent (0x3000 + x) 3))).ctx x = z.ctx x := by rw [ctx, ctx, ← (h z).1 .ctxs (by simp)]
  unfold enableCtx
  rw [hctx]
  simp

theorem Sys.ctxState_setCtxState (y : Sys) (x n : Nat) : (y.setCtxState x n).ctxState x = n := by
  unfold setCtxState
  dsimp only
  split
  · assumption
  · simp [ctxState]

theorem sameBut_setCtxState (y : Sys) (x n : Nat) (h : .log ∈ fs) (hk : nums (ent (0x3008 + x) 1)) : SameBut fs nums blobs y (y.setCtxState x n) := by
  unfold Sys.setCtxState
  dsimp only
  split <;> simp [h, hk]

/-- The state that a mode enters. -/
def modeState (m : CtxMode) : Nat := match m with | .disabled => 0 | .run => 1 | .test => 3

/-- What a mode leaves before its state: the mode, and start-up counted anew. -/
structure ModeTaken (x : Nat) (m : CtxMode) (y z : Sys) : Prop where
  mode : z.rd (ent (0x3000 + x) 1) = ctxModeCode m
  toRun : (z.ctx x).toRun = false
  clean : (z.ctx x).clean = 0
  boot : z.boot = y.boot
  den : z.den = y.den

theorem ModeTaken.enable {x : Nat} {m : CtxMode} (hx : x < 8) (h : ModeTaken x m y z) : ModeTaken x m y (z.enableCtx x) := by
  obtain ⟨hsame, hrun, hclean⟩ := z.enableCtx_keeps x
  refine ⟨(hsame.2.1 _ ?_).trans h.mode, hrun.trans h.toRun, hclean.trans h.clean, (hsame.1 .boot (by simp)).symm.trans h.boot,
    (hsame.1 .den (by simp)).symm.trans h.den⟩
  dsimp only
  rw [ent_div _ (by decide)]
  omega

theorem ModeTaken.state {x : Nat} {m : CtxMode} (h : ModeTaken x m y z) (n : Nat) : ModeTaken x m y (z.setCtxState x n) := by
  have hsame : SameBut [.log] (only [ent (0x3008 + x) 1]) (only []) z (z.setCtxState x n) := sameBut_setCtxState z x n (by simp) (by simp)
  have hctx : (z.setCtxState x n).ctx x = z.ctx x := by rw [Sys.ctx, Sys.ctx, ← hsame.1 .ctxs (by simp)]
  exact ⟨(hsame.2.1 _ (by simp [ent])).trans h.mode, by rw [hctx]; exact h.toRun, by rw [hctx]; exact h.clean,
    (hsame.1 .boot (by simp)).symm.trans h.boot, (hsame.1 .den (by simp)).symm.trans h.den⟩

theorem Sys.setCtxMode_takes (y : Sys) {x : Nat} (hx : x < 8) (m : CtxMode) :
    ModeTaken x m y (y.setCtxMode x m) ∧ (y.setCtxMode x m).ctxState x = modeState m := by
  have hz (c : Nat) (hc : c = ctxModeCode m) : ModeTaken x m y ((y.wr (ent (0x3000 + x) 1) c).setCtx x { y.ctx x with clean := 0, toRun := false }) :=
    ⟨by simp [hc], by simp, by simp, rfl, rfl⟩
  cases m with
  | disabled => exact ⟨(hz 0 rfl).state 0, ctxState_setCtxState ..⟩
  | run =>
    refine ⟨ModeTaken.state ?_ 1, ctxState_setCtxState ..⟩
    split
    · exact (hz 1 rfl).enable hx
    · exact hz 1 rfl
  | test =>
    refine ⟨ModeTaken.state ?_ 3, ctxState_setCtxState ..⟩
    split
    · exact (hz 2 rfl).enable hx
    · exact hz 2 rfl

theorem isRwc_ctxMode : ∀ x : Fin 8, isRwc (ent (0x3000 + x.val) 1) = false := by decide +kernel

theorem ctxModeOf_code (m : CtxMode) : ctxModeOf (unLe (le 2 (ctxModeCode m))) = m := by cases m <;> rfl

theorem acting_ctxMode (o : Otp) (y : Sys) (w : Writer) (x : Fin 8) (m : CtxMode) :
    acting o y w (ent (0x3000 + x.val) 1) (le 2 (ctxModeCode m)) = some (okR (y.setCtxMode x.val m)) := by
  rw [acting_frame (by omega) (by decide)]
  unfold Sys.actFrame
  dsimp only
  rw [if_pos (by omega), Nat.add_sub_cancel_left, ctxModeOf_code]

theorem contextModeWrite_takes (s : State) (w : Writer) (x : Fin 8) (m : CtxMode) (hg : Granted s w (ent (0x3000 + x.val) 1) (le 2 (ctxModeCode m))) :
    Completes (.contextModeWrite w x m) s fun t =>
      t.sys.rd (ent (0x3000 + x.val) 1) = ctxModeCode m ∧
      t.sys.ctxState x.val = modeState m ∧ (t.sys.ctx x.val).toRun = false ∧ (t.sys.ctx x.val).clean = 0 ∧ t.otp = s.otp ∧ t.pending = s.pending := by
  obtain ⟨htaken, hstate⟩ := s.sys.setCtxMode_takes x.isLt m
  have happly : s.sys.entryApply s.otp w (ent (0x3000 + x.val) 1) (le 2 (ctxModeCode m)) = okR (s.sys.setCtxMode x.val m) :=
    Sys.entryEffect_of_acting (acting_ctxMode ..) false
  have hprepare (y : Sys) : y.prepare (ent (0x3000 + x.val) 1, le 2 (ctxModeCode m)) = some y := by
    have hi : ent (0x3000 + x.val) 1 / 256 = 0x3000 + x.val := ent_div _ (by decide)
    simp only [Sys.prepare, hi]
    rw [if_neg (by omega), if_neg (by omega)]
  obtain ⟨-, t, hexec, hfollowed, hotp, hpending⟩ := write_follows (c := .contextModeWrite w x m) rfl (isRwc_ctxMode x) (by unfold ent; omega) hg happly
    hprepare ((congrArg Boot.due htaken.boot).trans hg.1.2.2) (congrArg Denval.saving htaken.den)
  have hctx : t.sys.ctx x.val = (s.sys.setCtxMode x.val m).ctx x.val := by
    rw [Sys.ctx, Sys.ctx]
    exact congrArg (tget _ · _) (hfollowed.same.1 .ctxs (by simp)).symm
  have hkeep (e : Nat) (i : Nat) (hi : i < 0x3018) (he : e < 256) (hn : 0x3000 ≤ i) : t.sys.rd (ent i e) = (s.sys.setCtxMode x.val m).rd (ent i e) := by
    refine hfollowed.rd_eq ?_
    rw [followNums, ent_div _ he]
    simp only [List.mem_cons, List.not_mem_nil, or_false, ent]
    omega
  refine ⟨t, hexec, (hkeep 1 _ (by omega) (by decide) (by omega)).trans htaken.mode, ?_, by rw [hctx]; exact htaken.toRun,
    by rw [hctx]; exact htaken.clean, hotp, hpending⟩
  rw [Sys.ctxState, hkeep 1 _ (by omega) (by decide) (by omega)]
  exact hstate

/-- Settles O37, clause by clause: the lanes of a group are taken one by one, and a port shows at each step what is on its wire. -/
theorem contextsAndSensorPortsObey : Obligations.ContextsAndSensorPortsObey :=
  ⟨quietBlock_rests, blankingWake_wakes, contextModeWrite_takes, exposureListStart_sends, exposureListDone_drops, exposureListOverrun_counts,
    sensorWriteError_counts, sensorTransaction_queues, sensorTransactionDone_answers⟩

end Sys2Proof.Machine
end

section
/-!
PROOFS. Which facets the operations of the model can change, from the callee to the caller: one lemma per operation, which peels it off a state.
-/

namespace Sys2Proof.Machine

variable {fs : List Facet} {x w : Sys}

theorem touches_costCheck (y : Sys) (f : Frame) (hs : ∀ p ∈ [Facet.log], p ∈ fs) : Touches fs x (Sys.costCheck y f) ↔ Touches fs x y := by
  refine Touches.peel (gs := [Facet.log]) ?_ hs
  unfold Sys.costCheck
  dsimp only
  refine Touches.trans ?_ ((touches_foldl _ _ fun z c _ => ?_).2 (.refl _))
  · split <;> simp [↓touches_primitives]
  · split
    · split <;> simp [↓touches_primitives]
    · exact .refl z

theorem touches_endFaults (y : Sys) (f : Frame) (hs : ∀ p ∈ [Facet.ctxs], p ∈ fs) : Touches fs x (Sys.endFaults y f) ↔ Touches fs x y := by
  refine Touches.peel (gs := [Facet.ctxs]) ?_ hs
  unfold Sys.endFaults
  simp [↓touches_primitives, ↓touches_sets]

theorem touches_publishPart (y : Sys) (x : Nat) (n : Nat) (p : Nat) (hs : ∀ p ∈ [Facet.stores], p ∈ fs) : Touches fs w (Sys.publishPart y x n p) ↔ Touches fs w y := by
  refine Touches.peel (gs := [Facet.stores]) ?_ hs
  unfold Sys.publishPart
  simp [↓touches_fields]

theorem touches_publish (y : Sys) (x : Nat) (n : Nat) (hs : ∀ p ∈ [Facet.tx, .stores], p ∈ fs) : Touches fs w (Sys.publish y x n) ↔ Touches fs w y := by
  refine Touches.peel (gs := [Facet.tx, .stores]) ?_ hs
  unfold Sys.publish
  simp (maxDischargeDepth := 7) [↓touches_primitives, ↓touches_publishPart, ↓touches_fields, ↓touches_foldl]

theorem touches_sendDeveloped (y : Sys) (f : Frame) (hs : ∀ p ∈ [Facet.log, .felley], p ∈ fs) : Touches fs x (Sys.sendDeveloped y f) ↔ Touches fs x y := by
  refine Touches.peel (gs := [Facet.log, .felley]) ?_ hs
  unfold Sys.sendDeveloped
  refine (touches_foldl _ _ fun z n _ => ?_).2 (.refl y)
  dsimp only
  split
  · exact .refl z
  · split
    · exact .refl z
    · simp (maxDischargeDepth := 7) [↓touches_felleyOffer, ↓touches_foldl]

theorem touches_frameDone (y : Sys) (f : Frame) (hs : ∀ p ∈ [Facet.tx, .log, .gov, .ctxs, .stores, .felley], p ∈ fs) : Touches fs x (Sys.frameDone y f) ↔ Touches fs x y := by
  refine Touches.peel (gs := [Facet.tx, .log, .gov, .ctxs, .stores, .felley]) ?_ hs
  unfold Sys.frameDone
  simp [↓touches_primitives, ↓touches_costCheck, ↓touches_endFaults, ↓touches_publish, ↓touches_sendDeveloped, ↓touches_watchedFrame]

theorem touches_stopChannel (y : Sys) (c : Nat) (hs : ∀ p ∈ [Facet.channels], p ∈ fs) : Touches fs x (Sys.stopChannel y c) ↔ Touches fs x y := by
  refine Touches.peel (gs := [Facet.channels]) ?_ hs
  unfold Sys.stopChannel
  simp [↓touches_showChannel, ↓touches_showSdo, ↓touches_sets]

theorem touches_followChannel (y : Sys) (c : Nat) (was : Gen) (hs : ∀ p ∈ [Facet.channels], p ∈ fs) : Touches fs x (Sys.followChannel y c was) ↔ Touches fs x y := by
  refine Touches.peel (gs := [Facet.channels]) ?_ hs
  unfold Sys.followChannel
  simp (maxDischargeDepth := 7) [↓touches_primitives, ↓touches_restartRaster, ↓touches_showChannel, ↓touches_showSdo, ↓touches_showStream, ↓touches_stopChannel, ↓touches_sets, ↓touches_upto]

theorem touches_placeTables (y : Sys)  (hs : ∀ p ∈ [Facet.pages], p ∈ fs) : Touches fs x (Sys.placeTables y) ↔ Touches fs x y := by
  refine Touches.peel (gs := [Facet.pages]) ?_ hs
  unfold Sys.placeTables
  simp (maxDischargeDepth := 7) [↓touches_fields, ↓touches_foldl]

theorem touches_showPages (y : Sys)  : Touches fs x (Sys.showPages y) ↔ Touches fs x y := by
  refine Touches.peel (gs := []) ?_ (by simp)
  unfold Sys.showPages
  simp (maxDischargeDepth := 7) [↓touches_primitives, ↓touches_upto]

theorem touches_freeTables (y : Sys)  (hs : ∀ p ∈ [Facet.pages], p ∈ fs) : Touches fs x (Sys.freeTables y) ↔ Touches fs x y := by
  refine Touches.peel (gs := [Facet.pages]) ?_ hs
  unfold Sys.freeTables
  simp [↓touches_placeTables, ↓touches_showPages, ↓touches_fields]

theorem touches_groupReplaced (y : Sys) (u : CommitUnit) (hs : ∀ p ∈ [Facet.log], p ∈ fs) : Touches fs x (Sys.groupReplaced y u) ↔ Touches fs x y := by
  refine Touches.peel (gs := [Facet.log]) ?_ hs
  unfold Sys.groupReplaced
  simp [↓touches_primitives]

theorem touches_putEntry (y : Sys) (k : Nat) (v : Bytes) : Touches fs x (Sys.putEntry y k v) ↔ Touches fs x y := by
  refine Touches.peel (gs := []) ?_ (by simp)
  unfold Sys.putEntry
  repeat' split
  all_goals simp [↓touches_primitives]

theorem touches_putUnit (y : Sys) (u : CommitUnit) : Touches fs x (Sys.putUnit y u) ↔ Touches fs x y := by
  refine Touches.peel (gs := []) ?_ (by simp)
  unfold Sys.putUnit
  simp (maxDischargeDepth := 7) [↓touches_putEntry, ↓touches_foldl]

theorem touches_applyList (y : Sys) (l : List CommitUnit) (hs : ∀ p ∈ [Facet.log], p ∈ fs) : Touches fs x (Sys.applyList y l) ↔ Touches fs x y := by
  refine Touches.peel (gs := [Facet.log]) ?_ hs
  unfold Sys.applyList
  simp (maxDischargeDepth := 7) [↓touches_primitives, ↓touches_groupReplaced, ↓touches_putUnit, ↓touches_foldl]

end Sys2Proof.Machine
end

section
/-!
PROOFS. Which entries the operations of the model can write, from the callee to the caller: one lemma per operation, which peels it off a state.
-/

namespace Sys2Proof.Machine

variable {ps : List Spot} {x w : Sys}

theorem writes_showChannel (y : Sys) (c : Nat) (hs : ∀ p ∈ [Spot.above 0x4140 1, .at 0x41B0 1], p ∈ ps) : Writes ps x (Sys.showChannel y c) ↔ Writes ps x y := by
  refine Writes.peel (qs := [Spot.above 0x4140 1, .at 0x41B0 1]) ?_ hs
  unfold Sys.showChannel
  simp [↓writes_primitives, covered_at, covered_above]

theorem writes_showSdo (y : Sys)  (hs : ∀ p ∈ [Spot.above 0x4170 3, .above 0x4170 4], p ∈ ps) : Writes ps x (Sys.showSdo y) ↔ Writes ps x y := by
  refine Writes.peel (qs := [Spot.above 0x4170 3, .above 0x4170 4]) ?_ hs
  unfold Sys.showSdo
  simp (maxDischargeDepth := 7) [↓writes_primitives, covered_above, ↓writes_upto]

theorem writes_restartRaster (y : Sys) (c : Nat) (cause : Nat) (hs : ∀ p ∈ [Spot.above 0x4140 1, .above 0x4170 3, .above 0x4170 4, .at 0x41B0 1], p ∈ ps) : Writes ps x (Sys.restartRaster y c cause) ↔ Writes ps x y := by
  refine Writes.peel (qs := [Spot.above 0x4140 1, .above 0x4170 3, .above 0x4170 4, .at 0x41B0 1]) ?_ hs
  unfold Sys.restartRaster
  simp [↓writes_showChannel, ↓writes_showSdo, ↓writes_sets]

theorem writes_stopChannel (y : Sys) (c : Nat) (hs : ∀ p ∈ [Spot.above 0x4140 1, .above 0x4170 3, .above 0x4170 4, .at 0x41B0 1], p ∈ ps) : Writes ps x (Sys.stopChannel y c) ↔ Writes ps x y := by
  refine Writes.peel (qs := [Spot.above 0x4140 1, .above 0x4170 3, .above 0x4170 4, .at 0x41B0 1]) ?_ hs
  unfold Sys.stopChannel
  simp [↓writes_showChannel, ↓writes_showSdo, ↓writes_sets]

theorem writes_followChannel (y : Sys) (c : Nat) (was : Gen) (hs : ∀ p ∈ [Spot.above 0x4140 1, .above 0x4170 3, .above 0x4170 4, .above 0x4190 15, .above 0x4190 8, .at 0x41B0 1], p ∈ ps) : Writes ps x (Sys.followChannel y c was) ↔ Writes ps x y := by
  refine Writes.peel (qs := [Spot.above 0x4140 1, .above 0x4170 3, .above 0x4170 4, .above 0x4190 15, .above 0x4190 8, .at 0x41B0 1]) ?_ hs
  unfold Sys.followChannel
  simp (maxDischargeDepth := 7) [↓writes_primitives, ↓writes_restartRaster, ↓writes_showChannel, ↓writes_showSdo, ↓writes_showStream, ↓writes_stopChannel, ↓writes_sets, ↓writes_upto]

end Sys2Proof.Machine
end

section
/-!
PROOFS. Output boundaries, statistics records and finished stripes (R325, R326, R411, R448).
-/

namespace Sys2Proof.Machine

variable {fs : List Facet} {nums blobs : Nat → Prop} {x y z : Sys} {s : State}

/-! ## What a channel's signature is made of -/

/-- What the output of channel `c` is made of is the same: entries but for those that tell how its frame ended, channels, stores and SDI inputs. -/
structure SameOutput (c : Nat) (y z : Sys) : Prop where
  rd : ∀ k, k ∉ [3, 4, 5, 9].map (ent (0x4140 + c)) → z.rd k = y.rd k
  rdB : ∀ k, z.rdB k = y.rdB k
  channels : z.channels = y.channels
  stores : z.stores = y.stores
  sdis : z.sdis = y.sdis

variable {c : Nat}

theorem SameOutput.rd_of (h : SameOutput c y z) {k : Nat} (hk : k ∉ [3, 4, 5, 9].map (ent (0x4140 + c))) : z.view.rd k = y.view.rd k := h.rd k hk
theorem SameOutput.rdB_of (h : SameOutput c y z) (k : Nat) : z.view.rdB k = y.view.rdB k := h.rdB k

theorem not_mem_ended {i e : Nat} (he : e < 3 ∨ i < 0x4140) (h : e < 256) : ent i e ∉ [3, 4, 5, 9].map (ent (0x4140 + c)) := by
  simp only [List.map_cons, List.map_nil, List.mem_cons, List.not_mem_nil, or_false, ent]
  omega

theorem SameOutput.chanBinding (h : SameOutput c y z) (hc : c < 24) : z.view.chanBinding c = y.view.chanBinding c := by
  have hrd (e : Nat) (he : e < 256) : z.view.rd (ent (0x4100 + c) e) = y.view.rd (ent (0x4100 + c) e) := h.rd_of (not_mem_ended (.inr (by omega)) he)
  simp only [Gen.chanBinding, hrd 2 (by decide), hrd 3 (by decide), hrd 4 (by decide)]

theorem SameOutput.format (h : SameOutput c y z) (x n : Nat) : (z.view.binding x n).format = (y.view.binding x n).format :=
  congrArg (rdLe · 12 1) (h.rdB_of _)

theorem SameOutput.outputBlock (h : SameOutput c y z) (x n : Nat) : z.view.outputBlock x n = y.view.outputBlock x n := by
  have hworking : z.view.working x = y.view.working x := by rw [Gen.working, Gen.working, h.rd_of (not_mem_ended (.inl (by decide)) (by decide))]
  have hrecord : z.view.outRecord x n = y.view.outRecord x n := h.rdB_of _
  simp only [Gen.outputBlock, hrecord, hworking, h.format]

theorem SameOutput.black (h : SameOutput c y z) (hc : c < 24) (col : Nat) : z.view.black c col = y.view.black c col := by
  have hrecord (x n : Nat) : z.view.outRecord x n = y.view.outRecord x n := h.rdB_of _
  simp only [Gen.black, Gen.bindingBlack, h.chanBinding hc, h.format, h.outputBlock, hrecord]

theorem SameOutput.timing (h : SameOutput c y z) (hc : c < 24) : z.view.timing c = y.view.timing c := by
  rw [Gen.timing, Gen.timing, h.rd_of (not_mem_ended (.inr (by omega)) (by decide)), h.rdB_of]

theorem SameOutput.outPixel (h : SameOutput c y z) (hc : c < 24) (line col : Nat) : z.outPixel c line col = y.outPixel c line col := by
  have hrd (e : Nat) (he : e < 256) : z.rd (ent (0x4100 + c) e) = y.rd (ent (0x4100 + c) e) := h.rd _ (not_mem_ended (.inr (by omega)) he)
  have hgrd (e : Nat) (he : e < 256) : z.view.rd (ent (0x4100 + c) e) = y.view.rd (ent (0x4100 + c) e) := hrd e he
  have hsource (F : Nat) : z.sourcePixel c F line col = y.sourcePixel c F line col := by
    simp only [Sys.sourcePixel, h.chanBinding hc, h.black hc, hgrd 2 (by decide), hgrd 5 (by decide), Sys.store?, h.stores, Sys.sdi, h.sdis]
  have hchannel : z.channel c = y.channel c := by rw [Sys.channel, Sys.channel, h.channels]
  have htest : z.testPixel c col = y.testPixel c col := by
    unfold Sys.testPixel
    rw [h.rdB, h.timing hc, hchannel]
  unfold Sys.outPixel
  rw [hrd 2 (by decide), hchannel, htest, h.black hc]
  simp only [hsource]

theorem SameOutput.frameSignature (h : SameOutput c y z) (hc : c < 24) : z.frameSignature c = y.frameSignature c := by
  have hline (j : Nat) : z.lineBytes c j = y.lineBytes c j := by
    simp only [Sys.lineBytes, Gen.chanFormat, h.timing hc, h.outPixel hc, h.chanBinding hc, h.format]
  simp only [Sys.frameSignature, h.timing hc, hline]

/-! ## The end of an output frame -/

theorem sameBut_classRaised (y : Sys) (c : IrqClass) (hb : .boot ∈ fs) (ht : .tx ∈ fs) : SameBut fs nums blobs y (y.classRaised c) := by
  unfold Sys.classRaised Sys.sendVector
  refine SameBut.trans ?_ (sameBut_updateInt _ hb)
  split
  · exact sameBut_send y _ ht
  · exact .refl y

theorem sameBut_irqScan (y : Sys) (c b : Nat) (hb : .boot ∈ fs) (ht : .tx ∈ fs) (hk : blobs (ent 0x1311 3)) : SameBut fs nums blobs y (y.irqScan c b) := by
  unfold Sys.irqScan
  split
  · exact (sameBut_wrB y _ _ hk).trans (sameBut_classRaised _ _ hb ht)
  · exact .refl y

theorem sameBut_lineMatch (y : Sys) (c n : Nat) (hb : .boot ∈ fs) (ht : .tx ∈ fs) (hk : blobs (ent 0x1311 3)) : SameBut fs nums blobs y (y.lineMatch c n) := by
  unfold Sys.lineMatch
  split
  · exact sameBut_irqScan y c 1 hb ht hk
  · exact .refl y

theorem sameBut_switchEvents (y : Sys) (c : Nat) (hl : .log ∈ fs) : SameBut fs nums blobs y (y.switchEvents c) := by
  unfold Sys.switchEvents
  dsimp only
  split
  · exact .refl y
  · refine SameBut.trans ?_ (sameBut_raiseLimited _ _ _ _ _ hl)
    split
    · exact sameBut_raiseLimited _ _ _ _ _ hl
    · exact .refl y

theorem sameBut_freeze (y : Sys) (c : Nat) (sig : W32) (hl : .log ∈ fs) (hc : .channels ∈ fs) (hk : nums (ent (0x4140 + c) 0x0E)) :
    SameBut fs nums blobs y (y.freeze c sig) := by
  unfold Sys.freeze
  dsimp only
  split
  · split <;> simp [hl, hc, hk]
  · split <;> simp [hl, hc, hk]

theorem sameBut_compareTwin (y : Sys) (c : Nat) (hl : .log ∈ fs) (hc : .channels ∈ fs) (hk : nums (ent (0x4140 + c) 0x0F)) :
    SameBut fs nums blobs y (y.compareTwin c) := by
  unfold Sys.compareTwin
  dsimp only
  split
  · split
    · exact .refl y
    · split <;> simp [hl, hc, hk]
  · exact .refl y

theorem sameBut_showChannel (y : Sys) (c : Nat) (hk : nums (ent (0x4140 + c) 1)) (ho : nums (ent 0x41B0 1)) : SameBut fs nums blobs y (y.showChannel c) :=
  (sameBut_wr y _ _ hk).trans (sameBut_wr _ _ _ ho)

theorem sameBut_resumeSinks (y : Sys) (c : Nat) (h : .sup ∈ fs) : SameBut fs nums blobs y (y.resumeSinks c) := by
  have hshed (y : Sys) (f : Supply → Supply) : SameBut fs nums blobs y { y with sup := f y.sup } :=
    .of_facets rfl rfl fun p hp => by cases p with | sup => exact absurd h hp | _ => rfl
  unfold Sys.resumeSinks
  refine ((SameBut.upto _ 16 (fun y n _ => ?_) y).trans (SameBut.upto _ 2 (fun y n _ => ?_) _)).trans (SameBut.upto _ 8 (fun y n _ => ?_) _)
  all_goals
    split
    · dsimp only
      split
      · exact .refl y
      · exact hshed y fun u => { u with shed := _ }
    · exact .refl y

/-- The channel's counts when a frame ends, before its signature is taken. -/
def Sys.countFrame (y : Sys) (c : Nat) : Sys :=
  let ch := y.channel c
  let y := y.reportSlack .s ⟨((y.fifoLines c * y.view.lineOctets c : Nat) : Int) - (Config.fifoMinimum : Nat), 262144⟩
  let y := y.inc64 (ent (0x4140 + c) 9) 1
  let y := y.wr (ent (0x4140 + c) 3) y.t96
  ((y.wr (ent (0x4140 + c) 4) (ch.shown.getD 0)).wr (ent (0x4140 + c) 5) (ch.fallback.getD 0)).switchEvents c

theorem sameBut_reportSlack (y : Sys) (r : RailName) (m : Slack) (h : .gov ∈ fs) : SameBut fs nums blobs y (y.reportSlack r m) := by
  have hrail (x : Rail) : SameBut fs nums blobs y (y.setRail r x) := by
    cases r <;> exact .of_facets rfl rfl fun p hp => by cases p with | gov => exact absurd h hp | _ => rfl
  exact hrail _

theorem Sys.countFrame_spec (y : Sys) (c : Nat) :
    SameBut [.gov, .log] (only ([3, 4, 5, 9].map (ent (0x4140 + c)))) (only []) y (y.countFrame c) ∧
    (y.countFrame c).rd (ent (0x4140 + c) 9) = (y.rd (ent (0x4140 + c) 9) + 1) % 2 ^ 64 ∧ (y.countFrame c).rd (ent (0x4140 + c) 3) = y.t96 := by
  have hr (m : Slack) : SameBut [.gov, .log] (only ([3, 4, 5, 9].map (ent (0x4140 + c)))) (only []) y (y.reportSlack .s m) :=
    sameBut_reportSlack y .s m (by simp)
  have hs (z : Sys) (k : Nat) : (z.switchEvents c).rd k = z.rd k :=
    (sameBut_switchEvents (fs := [.log]) (nums := only []) (blobs := only []) z c (by simp)).2.1 k (by simp)
  refine ⟨?_, ?_, ?_⟩
  · unfold countFrame
    refine SameBut.trans ?_ (sameBut_switchEvents _ c (by simp))
    simpa using hr _
  · have h9 (m : Slack) := (sameBut_reportSlack (fs := [.gov]) (nums := only []) (blobs := only []) y .s m (by simp)).2.1 (ent (0x4140 + c) 9) (by simp)
    unfold countFrame
    rw [hs]
    simp [h9]
  · have ht (m : Slack) : (y.reportSlack .s m).t96 = y.t96 := rfl
    unfold countFrame
    rw [hs]
    simp [ht]

/-- Entries that show how a channel goes on after its frame has ended. -/
def shownNums (c : Nat) : List Nat := [ent (0x4140 + c) 1, ent (0x4140 + c) 0x0E, ent (0x4140 + c) 0x0F, ent 0x41B0 1]

/-- The end of a frame counts it, then shows its signature. -/
theorem Sys.endOutputFrame_spec (y : Sys) {c : Nat} :
    let a := y.countFrame c
    ∃ b, SameBut [.channels, .log] (only (shownNums c)) (only []) a b ∧
      SameBut [.boot, .tx, .log, .sup, .channels, .links] (only (shownNums c)) (only [ent 0x1311 3])
        (b.wr (ent (0x4140 + c) 6) (a.frameSignature c).toNat) (y.endOutputFrame c) := by
  intro a
  refine ⟨a.freeze c (a.frameSignature c), sameBut_freeze a c _ (by simp) (by simp) (by simp [shownNums]), ?_⟩
  have h1 : only (shownNums c) (ent (0x4140 + c) 1) := by simp [shownNums]
  have hf : only (shownNums c) (ent (0x4140 + c) 0x0F) := by simp [shownNums]
  have ho : only (shownNums c) (ent 0x41B0 1) := by simp [shownNums]
  unfold endOutputFrame
  refine SameBut.trans ?_ (sameBut_showChannel _ c h1 ho)
  refine SameBut.trans ?_ (sameBut_resumeSinks _ c (by simp))
  refine SameBut.trans ?_ (sameBut_setChannel c _ (by simp))
  refine SameBut.trans ?_ (sameBut_lineMatch _ c _ (by simp) (by simp) (by simp))
  refine SameBut.trans ?_ (sameBut_irqScan _ c 0 (by simp) (by simp) (by simp))
  refine SameBut.trans ?_ (sameBut_compareTwin _ c (by simp) (by simp) hf)
  split
  · exact sameBut_controlTwin _ _ _ (by simp) (by simp)
  · exact .refl _

theorem Sys.endOutputFrame_counts (y : Sys) (hc : c < 24) :
    (y.endOutputFrame c).rd (ent (0x4140 + c) 9) = (y.rd (ent (0x4140 + c) 9) + 1) % 2 ^ 64 ∧ (y.endOutputFrame c).rd (ent (0x4140 + c) 3) = y.t96 ∧
    (y.endOutputFrame c).rd (ent (0x4140 + c) 6) = (y.frameSignature c).toNat := by
  obtain ⟨ha, h9, h3⟩ := y.countFrame_spec c
  obtain ⟨b, hb, hz⟩ := y.endOutputFrame_spec (c := c)
  have hsig : (y.countFrame c).frameSignature c = y.frameSignature c :=
    SameOutput.frameSignature ⟨fun k hk => ha.2.1 k hk, fun k => ha.2.2 k (by simp), (ha.1 .channels (by simp)).symm, (ha.1 .stores (by simp)).symm,
      (ha.1 .sdis (by simp)).symm⟩ hc
  have hshown (e : Nat) (he : e ∈ [3, 6, 9]) : ent (0x4140 + c) e ∉ shownNums c := by
    simp only [List.mem_cons, List.not_mem_nil, or_false] at he
    simp only [shownNums, List.mem_cons, List.not_mem_nil, or_false, ent]
    omega
  have hkeep (e : Nat) (he : e ∈ [3, 6, 9]) := hz.2.1 _ (hshown e he)
  have hfreeze (e : Nat) (he : e ∈ [3, 6, 9]) := hb.2.1 _ (hshown e he)
  refine ⟨?_, ?_, ?_⟩
  · rw [hkeep 9 (by simp), Sys.rd_wr, if_neg (by simp [ent]), hfreeze 9 (by simp), h9]
  · rw [hkeep 3 (by simp), Sys.rd_wr, if_neg (by simp [ent]), hfreeze 3 (by simp), h3]
  · rw [hkeep 6 (by simp), Sys.rd_wr, if_pos rfl, hsig]

/-- What the end of a channel's output frame may change. -/
theorem sameBut_endOutputFrame (y : Sys) (c : Nat) : SameBut [.boot, .tx, .log, .sup, .gov, .channels, .links]
    (only ([3, 4, 5, 9, 6].map (ent (0x4140 + c)) ++ shownNums c)) (only [ent 0x1311 3]) y (y.endOutputFrame c) := by
  obtain ⟨ha, -, -⟩ := y.countFrame_spec c
  obtain ⟨b, hb, hz⟩ := y.endOutputFrame_spec (c := c)
  refine ((ha.mono (by simp) (fun k hk => ?_) (by simp)).trans (hb.mono (by simp) (fun k hk => ?_) (by simp))).trans
    ((sameBut_wr b _ _ ?_).trans (hz.mono (by simp) (fun k hk => ?_) fun _ => id))
  · simp only [List.map_cons, List.map_nil, List.mem_cons, List.not_mem_nil, or_false] at hk
    simp only [List.map_cons, List.map_nil, List.mem_append, List.mem_cons, List.not_mem_nil, or_false]
    omega
  · exact List.mem_append_right _ hk
  · simp
  · exact List.mem_append_right _ hk

/-! ## The output boundary -/

/-- The channels that the units at a boundary concern take what is new. -/
def Sys.followBoundary (y : Sys) (c : Nat) (was : Gen) (due : List CommitUnit) : Sys :=
  (List.range 24).foldl (fun y d => if (d = c ∧ (was.chanOn c ∨ due ≠ [])) ∨ due.any (fun u => u.members.any fun m => m.1 / 256 == 0x4100 + d || m.1 / 256 == 0x4120 + d)
    then y.followChannel d was else y) y

theorem Sys.den_followBoundary (y : Sys) (c : Nat) (was : Gen) (due : List CommitUnit) : (y.followBoundary c was due).den = y.den := by
  have h : Touches [Facet.channels] y (y.followBoundary c was due) := by
    refine (touches_foldl _ _ fun z d _ => ?_).2 (.refl y)
    split
    · exact (touches_followChannel z d was (fun _ => id)).2 (.refl z)
    · exact .refl z
  exact (h.facet .den (by simp) (by simp)).symm

theorem Sys.rd_followBoundary (y : Sys) (c : Nat) (was : Gen) (due : List CommitUnit) {d : Fin 24} {e : Nat} (he : e ∈ [3, 6, 9]) :
    (y.followBoundary c was due).rd (ent (0x4140 + d.val) e) = y.rd (ent (0x4140 + d.val) e) := by
  have h : Writes [Spot.above 0x4140 1, .above 0x4170 3, .above 0x4170 4, .above 0x4190 15, .above 0x4190 8, .at 0x41B0 1] y (y.followBoundary c was due) := by
    refine (writes_foldl _ _ fun z d _ => ?_).2 (.refl y)
    split
    · exact (writes_followChannel z d was (fun _ => id)).2 (.refl z)
    · exact .refl z
  refine h.rd_eq ?_
  simp only [List.mem_cons, List.not_mem_nil, or_false] at he
  simp only [List.forall_mem_cons, List.not_mem_nil, false_implies, implies_true, and_true, Spot.hits, ent]
  omega

/-- The units that wait for the boundary of channel `c` and of its lock group take effect. -/
def Sys.takeBoundary (y : Sys) (c : Nat) : Sys :=
  let due := y.den.latched.filter (dueOut c (y.lockGroup c))
  (Sys.applyList { y with den := { y.den with latched := y.den.latched.filter fun u => !dueOut c (y.lockGroup c) u } } due).followBoundary c y.view due

theorem outputFrameBoundary_runs (s : State) (c : Fin 24) :
    Runs (.outputFrameBoundary c) s (Sys.takeBoundary (if s.sys.view.chanOn c.val then s.sys.endOutputFrame c.val else s.sys) c.val) := rfl

theorem Sys.rd_takeBoundary (y : Sys) (h : y.den.latched = []) {c : Fin 24} {e : Nat} (he : e ∈ [3, 6, 9]) :
    (y.takeBoundary c.val).rd (ent (0x4140 + c.val) e) = y.rd (ent (0x4140 + c.val) e) := by
  unfold takeBoundary
  dsimp only
  rw [rd_followBoundary _ _ _ _ he, h]
  rfl

theorem Sys.latched_takeBoundary (y : Sys) (c : Nat) : (y.takeBoundary c).den.latched = y.den.latched.filter fun u => !dueOut c (y.lockGroup c) u := by
  have hden (z : Sys) (l : List CommitUnit) : (z.applyList l).den = z.den :=
    (((touches_applyList z l (fun _ => id)).2 (.refl z)).facet .den (by simp) (by simp)).symm
  unfold takeBoundary
  dsimp only
  rw [den_followBoundary, hden]

theorem outputFrameBoundary_counts (s : State) (c : Fin 24) (hon : s.sys.view.chanOn c.val = true) (hlatched : s.sys.den.latched = []) :
    Completes (.outputFrameBoundary c) s fun t =>
    t.sys.rd (ent (0x4140 + c.val) 9) = (s.sys.rd (ent (0x4140 + c.val) 9) + 1) % 2 ^ 64 ∧ t.sys.rd (ent (0x4140 + c.val) 3) = s.sys.t96 ∧
    t.sys.rd (ent (0x4140 + c.val) 6) = (s.sys.frameSignature c.val).toNat ∧ t.otp = s.otp ∧ t.pending = s.pending := by
  have hexec := outputFrameBoundary_runs s c
  rw [if_pos hon] at hexec
  have hnone : (s.sys.endOutputFrame c.val).den.latched = [] := by rw [← (sameBut_endOutputFrame s.sys c.val).1 .den (by simp), hlatched]
  obtain ⟨h9, h3, h6⟩ := s.sys.endOutputFrame_counts c.isLt
  exact ⟨_, hexec, (Sys.rd_takeBoundary _ hnone (by simp)).trans h9, (Sys.rd_takeBoundary _ hnone (by simp)).trans h3,
    (Sys.rd_takeBoundary _ hnone (by simp)).trans h6, rfl, rfl⟩

/-- The end of a frame leaves the lock groups. -/
theorem Sys.lockGroup_endOutputFrame (y : Sys) (c : Fin 24) (d : Nat) : (y.endOutputFrame c.val).lockGroup d = y.lockGroup d := by
  have hrd {k : Nat} (hk : k / 256 < 0x4140 ∨ 0x4158 ≤ k / 256 ∧ k / 256 < 0x41B0) : (y.endOutputFrame c.val).rd k = y.rd k := by
    refine (sameBut_endOutputFrame y c.val).2.1 k ?_
    simp only [shownNums, List.map_cons, List.map_nil, List.cons_append, List.nil_append, List.mem_cons, List.not_mem_nil, or_false, ent]
    omega
  have hpos : (y.endOutputFrame c.val).arrayPos = y.arrayPos := by
    rw [arrayPos, arrayPos, hrd (by rw [ent_div _ (by decide)]; decide)]
  have harray : y.arrayPos < 4 := by
    unfold arrayPos
    dsimp only
    split
    · split <;> omega
    · decide
  unfold lockGroup
  rw [hpos]
  refine List.find?_congr fun l hl => ?_
  have hl8 := List.mem_range.1 hl
  rw [rdBit, rdBit, hrd (by rw [ent_div _ (by omega)]; omega)]

theorem outputFrameBoundary_applies (s : State) (c : Fin 24) : Completes (.outputFrameBoundary c) s fun t =>
    (∀ u ∈ t.sys.den.latched, u ∈ s.sys.den.latched ∧ dueOut c.val (s.sys.lockGroup c.val) u = false) ∧ t.otp = s.otp ∧ t.pending = s.pending := by
  refine ⟨_, outputFrameBoundary_runs s c, fun u hu => ?_, rfl, rfl⟩
  rw [Sys.latched_takeBoundary] at hu
  obtain ⟨hm, hnot⟩ := List.mem_filter.1 hu
  rw [Bool.not_eq_true'] at hnot
  split at hm
  next hon =>
    rw [if_pos hon, Sys.lockGroup_endOutputFrame] at hnot
    rw [← (sameBut_endOutputFrame s.sys c.val).1 .den (by simp)] at hm
    exact ⟨hm, hnot⟩
  next hoff =>
    rw [if_neg hoff] at hnot
    exact ⟨hm, hnot⟩

/-! ## Statistics records -/

/-- A record that is stored takes the next number and the next of the sixteen places. -/
theorem Sys.storeStats_spec (y : Sys) (x : Fin 16) (b : Bytes) :
    let n := (y.rd (ent (0x3450 + x.val) 1) + 1) % 2 ^ 32
    (y.storeStats x.val b).rd (ent (0x3450 + x.val) 1) = n ∧ (y.storeStats x.val b).rdB (ent (0x3450 + x.val) (2 + n % 16)) = b ∧
    (y.storeStats x.val b).rd (ent (0x3450 + x.val) 0x12) = y.rd (ent (0x3450 + x.val) 0x12) ∧ (y.storeStats x.val b).frames = y.frames := by
  intro n
  let z := ((y.wr (ent (0x3450 + x.val) 1) n).wrB (ent (0x3450 + x.val) (2 + n % 16)) b).wrBit (ent 0x1311 1) x.val true
  have hz : SameBut [.boot, .tx] (only []) (only []) z (y.storeStats x.val b) := sameBut_classRaised z .stats (by simp) (by simp)
  have hne (e : Nat) (he : e < 256) : ent (0x3450 + x.val) e ≠ ent 0x1311 1 := ent_ne (by omega) he (by decide)
  have hrd (e : Nat) (he : e < 256) : z.rd (ent (0x3450 + x.val) e) = (y.wr (ent (0x3450 + x.val) 1) n).rd (ent (0x3450 + x.val) e) := by
    simp only [z, Sys.wrBit_eq, rd_wr, if_neg (hne e he), rd_wrB]
  refine ⟨?_, ?_, ?_, (hz.1 .frames (by simp)).symm⟩
  · rw [hz.2.1 _ (by simp), hrd 1 (by decide), rd_wr, if_pos rfl]
  · rw [hz.2.2 _ (by simp)]
    simp [z]
  · rw [hz.2.1 _ (by simp), hrd 0x12 (by decide), rd_wr, if_neg (by simp [ent])]

theorem Sys.statsLate_spec (y : Sys) (x n delay : Nat) :
    SameBut [.log] (only [ent (0x3450 + x) 0x12]) (only []) y (y.statsLate x n delay) ∧
    (y.statsLate x n delay).rd (ent (0x3450 + x) 0x12) =
      if 10 < delay then (y.rd (ent (0x3450 + x) 0x12) + 1) % 2 ^ 32 else y.rd (ent (0x3450 + x) 0x12) := by
  unfold statsLate
  split
  · exact ⟨by simp, by simp⟩
  · exact ⟨.refl y, rfl⟩

theorem sameBut_rawStatus (y : Sys) (f : Frame) :
    SameBut [] (fun k => k / 256 = 0x3440 + f.ctx) (fun k => k / 256 = 0x3440 + f.ctx) y (y.rawStatus f) := by
  have hk (e : Nat) (he : e < 256) : ent (0x3440 + f.ctx) e / 256 = 0x3440 + f.ctx := ent_div _ he
  have hB (z : Sys) (e : Nat) (he : e < 256) (b : Bytes) : SameBut [] (fun k => k / 256 = 0x3440 + f.ctx) (fun k => k / 256 = 0x3440 + f.ctx) z
      (z.wrB (ent (0x3440 + f.ctx) e) b) := sameBut_wrB z _ b (hk e he)
  have hw (z : Sys) (e : Nat) (he : e < 256) (v : Nat) : SameBut [] (fun k => k / 256 = 0x3440 + f.ctx) (fun k => k / 256 = 0x3440 + f.ctx) z
      (z.wr (ent (0x3440 + f.ctx) e) v) := sameBut_wr z _ v (hk e he)
  unfold Sys.rawStatus
  refine ((((SameBut.trans ?_ (hB _ 3 (by decide) _)).trans (hw _ 4 (by decide) _)).trans (hw _ 7 (by decide) _)).trans (hw _ 8 (by decide) _)).trans
    (hw _ 9 (by decide) _)
  split
  · exact .refl y
  · exact hB y 2 (by decide) _

theorem Sys.statsDue_spec {x : Nat} {f : Frame} (h : y.statsDue x = some f) : f.ctx = x := by
  unfold statsDue at h
  split at h
  next g hg =>
    split at h
    · obtain rfl := Option.some_inj.1 h
      simpa using And.left (by simpa using List.find?_some hg)
    · simp at h
  · simp at h

theorem statisticsRecordIssue_stores (s : State) (x : Fin 16) (d : BitVec 16) (f : Frame) (hdue : s.sys.statsDue x.val = some f)
    (hkept : f.gen.rd (ent (0x3400 + x.val) 9) ≠ 0) (hrfe : f.gen.usesRfe x.val = true) : Completes (.statisticsRecordIssue x d) s fun t =>
      let n := (s.sys.rd (ent (0x3450 + x.val) 1) + 1) % 2 ^ 32
      t.sys.rd (ent (0x3450 + x.val) 1) = n ∧ t.sys.rdB (ent (0x3450 + x.val) (2 + n % 16)) = f.statsRecord ∧
      (10 < d.toNat → t.sys.rd (ent (0x3450 + x.val) 0x12) = (s.sys.rd (ent (0x3450 + x.val) 0x12) + 1) % 2 ^ 32) ∧ t.otp = s.otp := by
  let y := (s.sys.onFrame x.val f.num fun f => { f with statsIssued := true }).rawStatus f
  let z := y.storeStats x.val f.statsRecord
  let u := if f.gen.role = 3 then z.controlAll .statsSum (le 4 f.num ++ f.statsRecord) else z
  have hexec : Runs (.statisticsRecordIssue x d) s (u.statsLate x.val f.num d.toNat) := by
    rw [Runs, exec_statisticsRecordIssue, execStatisticsRecordIssue, onSys_eq]
    dsimp only
    rw [hdue]
    dsimp only
    rw [hrfe, if_pos rfl, if_neg (by simp [hkept])]
  have hy (e : Nat) (he : e < 256) : y.rd (ent (0x3450 + x.val) e) = s.sys.rd (ent (0x3450 + x.val) e) := by
    refine ((sameBut_rawStatus _ f).2.1 _ ?_).trans rfl
    dsimp only
    rw [ent_div _ he, Sys.statsDue_spec hdue]
    omega
  have hu : SameBut [.links, .tx] (only []) (only []) z u := by
    unfold u
    split
    · exact sameBut_controlAll _ _ _ (by simp) (by simp)
    · exact .refl z
  obtain ⟨hn, hb, hlate, -⟩ := y.storeStats_spec x f.statsRecord
  obtain ⟨ht, hcount⟩ := u.statsLate_spec x.val f.num d.toNat
  rw [hy 1 (by decide)] at hn hb
  refine ⟨_, hexec, ?_, ?_, fun hd => ?_, rfl⟩
  · rw [ht.2.1 _ (by simp), hu.2.1 _ (by simp)]
    exact hn
  · rw [ht.2.2 _ (by simp), hu.2.2 _ (by simp)]
    exact hb
  · rw [hcount, if_pos hd, hu.2.1 _ (by simp), hlate, hy _ (by decide)]

theorem statsRecordMerge_stores (s : State) (x : Fin 16) (h : Bytes × List Nat) (r : List (Bytes × List Nat)) (d : BitVec 16)
    (hrole : s.sys.view.role = 3) (hhead : s.sys.rd (ent 0x4C01 6) = s.sys.arrayPos) : Completes (.statsRecordMerge x (h :: r) d) s fun t =>
      let n := (s.sys.rd (ent (0x3450 + x.val) 1) + 1) % 2 ^ 32
      t.sys.rd (ent (0x3450 + x.val) 1) = n ∧ t.sys.rdB (ent (0x3450 + x.val) (2 + n % 16)) = mergedRecord h.1 (h :: r) ∧ t.sys.frames = s.sys.frames ∧
      t.sys.rd (ent (0x3450 + x.val) 0x12) = (if 10 < d.toNat then (s.sys.rd (ent (0x3450 + x.val) 0x12) + 1) % 2 ^ 32 else s.sys.rd (ent (0x3450 + x.val) 0x12)) ∧
      t.otp = s.otp := by
  let z := s.sys.storeStats x.val (mergedRecord h.1 (h :: r))
  have hexec : Runs (.statsRecordMerge x (h :: r) d) s (z.statsLate x.val (rdLe h.1 8 4) d.toNat) := by
    rw [Runs, exec_statsRecordMerge, execStatsRecordMerge, onSys_eq]
    dsimp only
    rw [if_pos ⟨hrole, hhead⟩]
  obtain ⟨hn, hb, hlate, hframes⟩ := s.sys.storeStats_spec x (mergedRecord h.1 (h :: r))
  obtain ⟨ht, hcount⟩ := z.statsLate_spec x.val (rdLe h.1 8 4) d.toNat
  refine ⟨_, hexec, ?_, ?_, ?_, ?_, rfl⟩
  · rw [ht.2.1 _ (by simp)]
    exact hn
  · rw [ht.2.2 _ (by simp)]
    exact hb
  · exact (ht.1 .frames (by simp)).symm.trans hframes
  · rw [hcount, hlate]

/-! ## A finished stripe -/

/-- What a stripe's end gives back of Troupe `q`. -/
def Troupe.givenBack (u : Troupe) (up openedAt : Nat) : Troupe :=
  { u with held := none, freeSince := up, times := (u.times ++ [up - openedAt]).drop (u.times.length + 1 - 16) }

/-- The last stripe of a frame ends it; one that ends late looks after its seam. -/
def Sys.afterStripe (y : Sys) (x n due : Nat) : Sys :=
  match y.frame? x n with
  | none => y
  | some h => if h.stripes.all (·.done) then y.frameDone h else if due < y.t96 then y.checkSeam h else y

theorem Sys.troupes_afterStripe (y : Sys) (x n due : Nat) : (y.afterStripe x n due).troupes = y.troupes := by
  unfold afterStripe
  split
  · rfl
  next h _ =>
    split
    · exact (((touches_frameDone y h (fun _ => id)).2 (.refl y)).facet .troupes (by simp) (by simp)).symm
    · split
      · exact (((touches_checkSeam y h (fun _ => id)).2 (.refl y)).facet .troupes (by simp) (by simp)).symm
      · rfl

theorem Sys.troupes_freeTables (y : Sys) : y.freeTables.troupes = y.troupes :=
  (((touches_freeTables y (fun _ => id)).2 (.refl y)).facet .troupes (by simp) (by simp)).symm

theorem stripeComplete_gives (s : State) (q : Fin 24) (x n k : Nat) (f : Frame) (st : Stripe) (hheld : (s.sys.troupe q.val).held = some (x, n, k))
    (hframe : s.sys.frame? x n = some f) (hstripe : f.stripe? k = some st) (hfreed : f.gen.segs x ≤ st.freed) : Completes (.stripeComplete q) s fun t =>
      (t.sys.troupe q.val).held = none ∧ (t.sys.troupe q.val).freeSince = s.sys.up ∧ t.otp = s.otp ∧ t.pending = s.pending := by
  let due := s.sys.stripeDue f k
  let a := (((s.sys.reportSlack .t (s.sys.slack f due)).stripeLate f k due).onFrame x n fun h => h.onStripe k fun q => { q with done := true })
  have hup : a.up = s.sys.up := by
    change ((s.sys.reportSlack .t (s.sys.slack f due)).stripeLate f k due).up = _
    unfold Sys.stripeLate
    split
    · rw [Sys.raiseLimited_up]
      rfl
    · rfl
  have hexec : Runs (.stripeComplete q) s
      ((Sys.troupesOpen (a.setTroupe q.val ((s.sys.troupe q.val).givenBack a.up st.openedAt))).freeTables.afterStripe x n due) := by
    rw [Runs, exec_stripeComplete, execStripeComplete, onSys_eq]
    dsimp only
    rw [hheld]
    dsimp only
    rw [hframe]
    dsimp only
    rw [hstripe]
    dsimp only
    rw [if_neg (by omega)]
    rfl
  have htroupe : ((Sys.troupesOpen (a.setTroupe q.val ((s.sys.troupe q.val).givenBack a.up st.openedAt))).freeTables.afterStripe x n due).troupe q.val =
      (s.sys.troupe q.val).givenBack a.up st.openedAt := by
    rw [Sys.troupe, Sys.troupes_afterStripe, Sys.troupes_freeTables]
    exact (Sys.troupe_setTroupe ..).trans (if_pos rfl)
  refine ⟨_, hexec, ?_, ?_, rfl, rfl⟩
  · rw [htroupe]
    rfl
  · rw [htroupe]
    exact hup

theorem stripeComplete_idle (s : State) (q : Fin 24) (h : (s.sys.troupe q.val).held = none) : Runs (.stripeComplete q) s s.sys := by
  rw [Runs, exec_stripeComplete, execStripeComplete, onSys_eq]
  dsimp only
  rw [h]

/-- Settles O38, clause by clause: what a frame's signature is made of does not depend on the entries that tell how the frame ended. -/
theorem boundariesRecordsAndStripesEnd : Obligations.BoundariesRecordsAndStripesEnd :=
  ⟨outputFrameBoundary_counts, outputFrameBoundary_applies, statisticsRecordIssue_stores, statsRecordMerge_stores, stripeComplete_gives, stripeComplete_idle⟩

end Sys2Proof.Machine
end

section
/-!
PROOFS. The integer, move and scalar instructions (O39): each hands its engine to `onEngine` with one register written.
-/

namespace Sys2Proof.Machine

/-! ## Instructions that write one register -/

section Register
variable {s : State} {e : Nat} {n : Need} {regs : List (Nat × Nat)} {c : Instr}

/-- An instruction whose effect leaves the place in the program and the group alone completes, and leaves its engine as the effect has it, one word
further. -/
theorem completes_onEngine {f : Engine → Engine} {P : Engine → Prop} (hexec : exec c s = onEngine s e n f) (h : Ready s e regs)
    (hhold : n.hold = 1 ∨ n.hold = 4) (hregs : n.srcs ++ n.dsts ⊆ regs)
    (hctl : (f (s.sys.engine e)).pc = (s.sys.engine e).pc ∧ (f (s.sys.engine e)).loops = (s.sys.engine e).loops ∧
      (f (s.sys.engine e)).busy = (s.sys.engine e).busy)
    (hP : P (Engine.next ((s.sys.engine e).issue n f))) : Completes c s fun t => Advances e s t ∧ P (t.sys.engine e) := by
  obtain ⟨hpc, hloops, hbusy⟩ := hctl
  refine ⟨_, hexec.trans (onEngine_ready s e n f regs h (by omega) hregs), advances_issue s e n f h.1 (by omega) hpc hloops hbusy, ?_⟩
  rw [Sys.engine_setEngine, if_pos rfl]
  exact hP

theorem completes_setV {d : Nat} {take : Engine → Nat → Bool} {f : Engine → Nat → W32}
    (hexec : exec c s = onEngine s e n fun g => g.setV d (take g) (f g)) (h : Ready s e regs) (hhold : n.hold = 1 ∨ n.hold = 4)
    (hregs : n.srcs ++ n.dsts ⊆ regs) : Completes c s fun t => Advances e s t ∧ (s.sys.engine e).keeps (t.sys.engine e) ∧
      (s.sys.engine e).keepsS (t.sys.engine e) ∧ (s.sys.engine e).keepsP (t.sys.engine e) ∧
      (s.sys.engine e).wroteV (t.sys.engine e) d (take (s.sys.engine e)) (f (s.sys.engine e)) :=
  completes_onEngine (P := fun h => (s.sys.engine e).keeps h ∧ (s.sys.engine e).keepsS h ∧ (s.sys.engine e).keepsP h ∧
      (s.sys.engine e).wroteV h d (take (s.sys.engine e)) (f (s.sys.engine e))) hexec h hhold hregs ⟨rfl, rfl, rfl⟩
    ⟨⟨rfl, rfl, rfl, rfl, rfl, rfl⟩, fun _ _ => rfl, fun _ => rfl, (s.sys.engine e).setV_wroteV _ _ _⟩

theorem completes_setS {d : Nat} {v : Engine → W32} (hexec : exec c s = onEngine s e n fun g => g.setS d (v g)) (h : Ready s e regs)
    (hhold : n.hold = 1 ∨ n.hold = 4) (hregs : n.srcs ++ n.dsts ⊆ regs) : Completes c s fun t => Advances e s t ∧
      (s.sys.engine e).keeps (t.sys.engine e) ∧ (s.sys.engine e).keepsV (t.sys.engine e) ∧ (s.sys.engine e).keepsP (t.sys.engine e) ∧
      (s.sys.engine e).wroteS (t.sys.engine e) d (v (s.sys.engine e)) :=
  completes_onEngine (P := fun h => (s.sys.engine e).keeps h ∧ (s.sys.engine e).keepsV h ∧ (s.sys.engine e).keepsP h ∧
      (s.sys.engine e).wroteS h d (v (s.sys.engine e))) hexec h hhold hregs ⟨rfl, rfl, rfl⟩
    ⟨⟨rfl, rfl, rfl, rfl, rfl, rfl⟩, fun _ _ _ => rfl, fun _ => rfl, (s.sys.engine e).setS_wroteS _ _⟩

end Register

/-! ## The instructions of O39 by shape -/

theorem exec_of_vecInt {s : State} {e : Fin 384} {d a b : Fin 64} {pr : Fin 8} {pn : Bool} {c : Instr} {f : W32 → W32 → W32}
    (h : (c, f) ∈ ([(.iadd e d a b pr pn, fun x y => x + y), (.isub e d a b pr pn, fun x y => x - y), (.imul e d a b pr pn, fun x y => x * y),
      (.imin e d a b pr pn, fun x y => if x.slt y then x else y), (.imax e d a b pr pn, fun x y => if x.slt y then y else x),
      (.and e d a b pr pn, fun x y => x &&& y), (.or e d a b pr pn, fun x y => x ||| y), (.xor e d a b pr pn, fun x y => x ^^^ y),
      (.shl e d a b pr pn, fun x y => x <<< (y.toNat % 32)), (.shr e d a b pr pn, fun x y => x >>> (y.toNat % 32)),
      (.sar e d a b pr pn, fun x y => x.sshiftRight (y.toNat % 32))] : List (Instr × (W32 → W32 → W32)))) :
    ∃ lat, exec c s = vecBin s e.val d.val a.val b.val pr.val pn lat f := by
  simp only [List.mem_cons, Prod.mk.injEq, List.not_mem_nil, or_false] at h
  rcases h with ⟨rfl, rfl⟩ | ⟨rfl, rfl⟩ | ⟨rfl, rfl⟩ | ⟨rfl, rfl⟩ | ⟨rfl, rfl⟩ | ⟨rfl, rfl⟩ | ⟨rfl, rfl⟩ | ⟨rfl, rfl⟩ | ⟨rfl, rfl⟩ | ⟨rfl, rfl⟩ |
    ⟨rfl, rfl⟩ <;> exact ⟨_, rfl⟩

theorem exec_of_scaInt {s : State} {e : Fin 384} {d a b : Fin 16} {c : Instr} {f : W32 → W32 → W32}
    (h : (c, f) ∈ ([(.sadd e d a b, fun x y => x + y), (.ssub e d a b, fun x y => x - y), (.smul e d a b, fun x y => x * y),
      (.smin e d a b, fun x y => if x.slt y then x else y), (.smax e d a b, fun x y => if x.slt y then y else x), (.sand e d a b, fun x y => x &&& y),
      (.sor e d a b, fun x y => x ||| y), (.sxor e d a b, fun x y => x ^^^ y), (.sshl e d a b, fun x y => x <<< (y.toNat % 32)),
      (.sshr e d a b, fun x y => x >>> (y.toNat % 32)), (.ssar e d a b, fun x y => x.sshiftRight (y.toNat % 32)),
      (.smov e d a, fun x _ => x)] : List (Instr × (W32 → W32 → W32)))) :
    ∃ n : Need, exec c s = (onEngine s e.val n fun g => g.setS d.val (f (g.rs a.val) (g.rs b.val))) ∧ n.hold = 1 ∧
      n.srcs ++ n.dsts ⊆ [(fileS, a.val), (fileS, b.val), (fileS, d.val)] := by
  simp only [List.mem_cons, Prod.mk.injEq, List.not_mem_nil, or_false] at h
  rcases h with ⟨rfl, rfl⟩ | ⟨rfl, rfl⟩ | ⟨rfl, rfl⟩ | ⟨rfl, rfl⟩ | ⟨rfl, rfl⟩ | ⟨rfl, rfl⟩ | ⟨rfl, rfl⟩ | ⟨rfl, rfl⟩ | ⟨rfl, rfl⟩ | ⟨rfl, rfl⟩ |
    ⟨rfl, rfl⟩ | ⟨rfl, rfl⟩ <;> exact ⟨_, rfl, rfl, by simp⟩

/-- Settles O39: each instruction is `onEngine` with its registers and one register written. -/
theorem vectorAndScalarIntegerInstructions : Obligations.VectorAndScalarIntegerInstructions := by
  refine ⟨⟨?_, ?_, ?_⟩, ?_, ?_, ?_⟩
  · intro s e d a b pr pn c f hc h
    obtain ⟨lat, hexec⟩ := exec_of_vecInt (s := s) hc
    exact completes_setV hexec h (.inl rfl) (by simp)
  · intro s e d imm c f hc h
    simp only [List.mem_cons, Prod.mk.injEq, List.not_mem_nil, or_false] at hc
    rcases hc with ⟨rfl, rfl⟩ | ⟨rfl, rfl⟩ | ⟨rfl, rfl⟩
    · exact completes_setV (exec_movl ..) h (.inl rfl) (by simp)
    · exact completes_setV (exec_movh ..) h (.inl rfl) (by simp)
    · exact completes_setV (exec_movf ..) h (.inl rfl) (by simp)
  · rintro s e d a b i pr pn c take f g (⟨rfl, rfl, rfl⟩ | ⟨rfl, rfl, rfl⟩ | ⟨rfl, rfl, rfl⟩ | ⟨rfl, rfl, rfl⟩) h
    · exact completes_setV (exec_mov ..) h (.inl rfl) (by simp)
    · exact completes_setV (exec_bcast ..) h (.inl rfl) (by simp)
    · exact completes_setV (exec_laneid ..) h (.inl rfl) (by simp)
    · exact completes_setV (exec_sel ..) h (.inl rfl) (by simp)
  · intro s e d a b c f hc h
    obtain ⟨n, hexec, hhold, hregs⟩ := exec_of_scaInt (s := s) hc
    exact completes_setS hexec h (.inl hhold) hregs
  · intro s e d imm c f hc h
    simp only [List.mem_cons, Prod.mk.injEq, List.not_mem_nil, or_false] at hc
    rcases hc with ⟨rfl, rfl⟩ | ⟨rfl, rfl⟩ | ⟨rfl, rfl⟩
    · exact completes_setS (exec_smovl ..) h (.inl rfl) (by simp)
    · exact completes_setS (exec_smovh ..) h (.inl rfl) (by simp)
    · exact completes_setS (exec_saddi ..) h (.inl rfl) (by simp)
  · rintro s e d b a p c v g (⟨rfl, rfl⟩ | ⟨rfl, rfl⟩) h
    · exact completes_setS (exec_extr ..) h (.inl rfl) (by simp)
    · exact completes_setS (exec_ptos ..) h (.inl rfl) (by simp)

end Sys2Proof.Machine
end

section
/-!
PROOFS. The compares and predicate instructions (O40).
-/

namespace Sys2Proof.Machine

/-! ## The bits of a list -/

theorem testBit_foldl_setBit (l : List Nat) (n k : Nat) : (l.foldl setBit n).testBit k = (n.testBit k || decide (k ∈ l)) := by
  induction l generalizing n with
  | nil => simp
  | cons i l ih =>
    rw [List.foldl_cons, ih, setBit, Nat.testBit_or, Nat.testBit_two_pow]
    simp only [List.mem_cons, Bool.decide_or, Bool.or_assoc, eq_comm (a := i)]

theorem testBit_bitsOf (l : List Nat) (k : Nat) : (bitsOf l).testBit k = decide (k ∈ l) := by
  rw [bitsOf, testBit_foldl_setBit, Nat.zero_testBit, Bool.false_or]

/-- Bit k of the lanes that a test picks out of 16. -/
theorem getLsbD_lanes (p : Nat → Bool) {k : Nat} (h : k < 16) :
    (BitVec.ofNat 16 (bitsOf ((List.range 16).filter p))).getLsbD k = p k := by
  rw [BitVec.getLsbD_ofNat, testBit_bitsOf]
  simp [h]

/-! ## Instructions that write a predicate -/

theorem Engine.rp_zero (g : Engine) : g.rp 0 = 0xFFFF := rfl

theorem completes_setP {s : State} {e : Nat} {n : Need} {regs : List (Nat × Nat)} {c : Instr} {d : Nat} {v : Engine → W16}
    (hexec : exec c s = onEngine s e n fun g => g.setP d (v g)) (h : Ready s e regs) (hhold : n.hold = 1 ∨ n.hold = 4)
    (hregs : n.srcs ++ n.dsts ⊆ regs) : Completes c s fun t => Advances e s t ∧ (s.sys.engine e).keeps (t.sys.engine e) ∧
      (s.sys.engine e).keepsV (t.sys.engine e) ∧ (s.sys.engine e).keepsS (t.sys.engine e) ∧
      (s.sys.engine e).wroteP (t.sys.engine e) d (v (s.sys.engine e)) := by
  have hother : ∀ g : Engine, (g.setP d (v g)).pc = g.pc ∧ (g.setP d (v g)).loops = g.loops ∧ (g.setP d (v g)).busy = g.busy ∧
      g.keeps (g.setP d (v g)) ∧ g.keepsV (g.setP d (v g)) ∧ g.keepsS (g.setP d (v g)) := by
    intro g
    unfold Engine.setP
    split
    all_goals exact ⟨rfl, rfl, rfl, ⟨rfl, rfl, rfl, rfl, rfl, rfl⟩, fun _ _ _ => rfl, fun _ _ => rfl⟩
  obtain ⟨hpc, hloops, hbusy, hkeeps, hv, hs⟩ := hother (s.sys.engine e)
  exact completes_onEngine (P := fun h => (s.sys.engine e).keeps h ∧ (s.sys.engine e).keepsV h ∧ (s.sys.engine e).keepsS h ∧
    (s.sys.engine e).wroteP h d (v (s.sys.engine e))) hexec h hhold hregs ⟨hpc, hloops, hbusy⟩
    ⟨hkeeps, hv, hs, (s.sys.engine e).setP_wroteP _ _⟩

theorem exec_of_compare {s : State} {e : Fin 384} {d : Fin 8} {a b : Fin 64} {pr : Fin 8} {pn : Bool} {c : Instr} {f : W32 → W32 → Bool}
    (h : (c, f) ∈ ([(.icmpEq e d a b pr pn, fun x y => x == y), (.icmpLt e d a b pr pn, fun x y => x.slt y), (.icmpLtu e d a b pr pn, fun x y => x.ult y),
      (.fcmpEq e d a b pr pn, fun x y => fpEq (fpOf x) (fpOf y)), (.fcmpLt e d a b pr pn, fun x y => fpLt (fpOf x) (fpOf y)),
      (.fcmpLe e d a b pr pn, fun x y => fpLt (fpOf x) (fpOf y) || fpEq (fpOf x) (fpOf y)), (.fcmpNe e d a b pr pn, fun x y => !fpEq (fpOf x) (fpOf y)),
      (.fcmpUn e d a b pr pn, fun x y => fpOf x == .nan || fpOf y == .nan)] : List (Instr × (W32 → W32 → Bool)))) :
    exec c s = cmpBin s e.val d.val a.val b.val pr.val pn f := by
  simp only [List.mem_cons, Prod.mk.injEq, List.not_mem_nil, or_false] at h
  rcases h with ⟨rfl, rfl⟩ | ⟨rfl, rfl⟩ | ⟨rfl, rfl⟩ | ⟨rfl, rfl⟩ | ⟨rfl, rfl⟩ | ⟨rfl, rfl⟩ | ⟨rfl, rfl⟩ | ⟨rfl, rfl⟩ <;> rfl

/-- Settles O40: a compare's predicate has the bit of each lane that takes part, whatever the lanes hold. -/
theorem compareAndPredicateInstructions : Obligations.CompareAndPredicateInstructions := by
  refine ⟨?_, ?_⟩
  · intro s e d a b pr pn c f hc h
    obtain ⟨t, hexec, hadv, hkeeps, hv, hs, hp⟩ := completes_setP (exec_of_compare (s := s) hc) h (.inl rfl) (by simp)
    refine ⟨t, hexec, hadv, hkeeps, hv, hs, fun r hr => ?_, fun hd k hk => ?_, Engine.rp_zero _⟩
    · rw [hp r, if_neg fun h => hr h.1]
    · rw [hp d.val, if_pos ⟨rfl, hd⟩, getLsbD_lanes _ hk]
  · intro s e d a b i c v g hc h
    simp only [List.mem_cons, Prod.mk.injEq, List.not_mem_nil, or_false] at hc
    rcases hc with ⟨rfl, rfl⟩ | ⟨rfl, rfl⟩ | ⟨rfl, rfl⟩ | ⟨rfl, rfl⟩ | ⟨rfl, rfl⟩
    · exact completes_setP (exec_pand ..) h (.inl rfl) (by simp)
    · exact completes_setP (exec_por ..) h (.inl rfl) (by simp)
    · exact completes_setP (exec_pxor ..) h (.inl rfl) (by simp)
    · exact completes_setP (exec_pnot ..) h (.inl rfl) (by simp)
    · exact completes_setP (exec_pfroms ..) h (.inl rfl) (by simp)

end Sys2Proof.Machine
end

section
/-!
PROOFS. The floating-point instructions (O41).
-/

namespace Sys2Proof.Machine

/-- A transcendental issues no sooner than its unit is free, and the unit is free again four slots later (R345). -/
theorem Engine.transFree_issue (g : Engine) {n : Need} (f : Engine → Engine) (htrans : n.trans = true) (hhold : n.hold = 1) :
    g.transFree ≤ (Engine.next (g.issue n f)).slot - 1 ∧ (Engine.next (g.issue n f)).transFree = (Engine.next (g.issue n f)).slot + 3 := by
  have hfree : g.transFree ≤ g.issueAt n := by
    simp only [Engine.issueAt, htrans, if_true]
    exact Nat.le_max_right ..
  have hslot : (Engine.next (g.issue n f)).slot = g.issueAt n + 1 := by rw [← hhold]; rfl
  have hunit : (Engine.next (g.issue n f)).transFree = g.issueAt n + 4 := if_pos htrans
  omega

theorem exec_of_vecFp {s : State} {e : Fin 384} {d a b : Fin 64} {i : Fin 16} {pr : Fin 8} {pn : Bool} {c : Instr} {f : W32 → W32 → W32 → W32}
    {scalar : Bool} (h : (c, f, scalar) ∈ ([(.fadd e d a b pr pn, fun x y _ => fadd x y, false), (.fsub e d a b pr pn, fun x y _ => fsub x y, false),
      (.fmul e d a b pr pn, fun x y _ => fmul x y, false), (.fmin e d a b pr pn, fun x y _ => fmin x y, false),
      (.fmax e d a b pr pn, fun x y _ => fmax x y, false), (.fma e d a b pr pn, fun x y z => ffma x y z, false),
      (.fms e d a b pr pn, fun x y z => ffma x y (fneg z), false), (.fnma e d a b pr pn, fun x y z => ffma (fneg x) y z, false),
      (.faddS e d a i pr pn, fun x y _ => fadd x y, true), (.fsubS e d a i pr pn, fun x y _ => fsub x y, true),
      (.fmulS e d a i pr pn, fun x y _ => fmul x y, true), (.fminS e d a i pr pn, fun x y _ => fmin x y, true),
      (.fmaxS e d a i pr pn, fun x y _ => fmax x y, true), (.fmaS e d a i pr pn, fun x y z => ffma x y z, true),
      (.fmsS e d a i pr pn, fun x y z => ffma x y (fneg z), true), (.fnmaS e d a i pr pn, fun x y z => ffma (fneg x) y z, true)] :
        List (Instr × (W32 → W32 → W32 → W32) × Bool))) :
    ∃ n : Need, exec c s = (onEngine s e.val n fun g => g.setV d.val (g.part pr.val pn) fun k =>
        f (g.rv a.val k) (if scalar then g.rs i.val else g.rv b.val k) (g.rv d.val k)) ∧ n.hold = 1 ∧
      n.srcs ++ n.dsts ⊆ [(fileV, a.val), (fileV, b.val), (fileS, i.val), (fileP, pr.val), (fileV, d.val)] := by
  simp only [List.mem_cons, Prod.mk.injEq, List.not_mem_nil, or_false] at h
  rcases h with ⟨rfl, rfl, rfl⟩ | ⟨rfl, rfl, rfl⟩ | ⟨rfl, rfl, rfl⟩ | ⟨rfl, rfl, rfl⟩ | ⟨rfl, rfl, rfl⟩ | ⟨rfl, rfl, rfl⟩ | ⟨rfl, rfl, rfl⟩ |
    ⟨rfl, rfl, rfl⟩ | ⟨rfl, rfl, rfl⟩ | ⟨rfl, rfl, rfl⟩ | ⟨rfl, rfl, rfl⟩ | ⟨rfl, rfl, rfl⟩ | ⟨rfl, rfl, rfl⟩ | ⟨rfl, rfl, rfl⟩ | ⟨rfl, rfl, rfl⟩ |
    ⟨rfl, rfl, rfl⟩ <;> exact ⟨_, rfl, rfl, by simp⟩

theorem exec_of_unaryFp {s : State} {e : Fin 384} {d a : Fin 64} {pr : Fin 8} {pn : Bool} {c : Instr} {f : W32 → W32} {trans : Bool}
    (h : (c, f, trans) ∈ ([(.fabs e d a pr pn, fun x => x &&& 0x7FFFFFFF, false), (.fneg e d a pr pn, fun x => x ^^^ 0x80000000, false),
      (.fsat e d a pr pn, fsat, false), (.ffloor e d a pr pn, ffloor, false), (.ffrac e d a pr pn, ffrac, false), (.frnd e d a pr pn, frnd, false),
      (.cvtFI e d a pr pn, cvtFI, false), (.cvtIF e d a pr pn, cvtIF, false), (.cvtFU e d a pr pn, cvtFU, false), (.cvtUF e d a pr pn, cvtUF, false),
      (.cvtHF e d a pr pn, cvtHF, false), (.cvtFH e d a pr pn, cvtFH, false), (.rcp e d a pr pn, frcp, true), (.rsq e d a pr pn, frsq, true),
      (.sqrt e d a pr pn, fsqrt, true), (.log2 e d a pr pn, flog2, true), (.exp2 e d a pr pn, fexp2, true)] : List (Instr × (W32 → W32) × Bool))) :
    (∃ lat, trans = false ∧ exec c s = vecUn s e.val d.val a.val pr.val pn lat f) ∨
      (trans = true ∧ exec c s = vecTrans s e.val d.val a.val pr.val pn f) := by
  simp only [List.mem_cons, Prod.mk.injEq, List.not_mem_nil, or_false] at h
  rcases h with ⟨rfl, rfl, rfl⟩ | ⟨rfl, rfl, rfl⟩ | ⟨rfl, rfl, rfl⟩ | ⟨rfl, rfl, rfl⟩ | ⟨rfl, rfl, rfl⟩ | ⟨rfl, rfl, rfl⟩ | ⟨rfl, rfl, rfl⟩ |
    ⟨rfl, rfl, rfl⟩ | ⟨rfl, rfl, rfl⟩ | ⟨rfl, rfl, rfl⟩ | ⟨rfl, rfl, rfl⟩ | ⟨rfl, rfl, rfl⟩ | ⟨rfl, rfl, rfl⟩ | ⟨rfl, rfl, rfl⟩ | ⟨rfl, rfl, rfl⟩ |
    ⟨rfl, rfl, rfl⟩ | ⟨rfl, rfl, rfl⟩
  iterate 12 exact .inl ⟨_, rfl, rfl⟩
  all_goals exact .inr ⟨rfl, rfl⟩

theorem completes_unary {s : State} {e : Nat} {n : Need} {regs : List (Nat × Nat)} {c : Instr} {d a pr : Nat} {pn : Bool} {f : W32 → W32}
    (hexec : exec c s = onEngine s e n fun g => g.setV d (g.part pr pn) fun k => f (g.rv a k)) (h : Ready s e regs) (hhold : n.hold = 1)
    (hregs : n.srcs ++ n.dsts ⊆ regs) :
    let g := s.sys.engine e
    Completes c s fun t => Advances e s t ∧ g.keeps (t.sys.engine e) ∧ g.keepsS (t.sys.engine e) ∧ g.keepsP (t.sys.engine e) ∧
      g.wroteV (t.sys.engine e) d (g.part pr pn) (fun k => f (g.rv a k)) ∧
      (n.trans = true → g.transFree ≤ (t.sys.engine e).slot - 1 ∧ (t.sys.engine e).transFree = (t.sys.engine e).slot + 3) := by
  intro g
  exact completes_onEngine (P := fun h => g.keeps h ∧ g.keepsS h ∧ g.keepsP h ∧ g.wroteV h d (g.part pr pn) (fun k => f (g.rv a k)) ∧
      (n.trans = true → g.transFree ≤ h.slot - 1 ∧ h.transFree = h.slot + 3)) hexec h (.inl hhold) hregs ⟨rfl, rfl, rfl⟩
    ⟨⟨rfl, rfl, rfl, rfl, rfl, rfl⟩, fun _ _ => rfl, fun _ => rfl, g.setV_wroteV d (g.part pr pn) fun k => f (g.rv a k), fun ht => g.transFree_issue _ ht hhold⟩

/-- Settles O41: every instruction is `onEngine` with one V register written, and a transcendental's issue reads and sets its unit's slot. -/
theorem floatingPointInstructions : Obligations.FloatingPointInstructions := by
  refine ⟨?_, ?_⟩
  · intro s e d a b i pr pn c f scalar hc h
    obtain ⟨n, hexec, hhold, hregs⟩ := exec_of_vecFp (s := s) hc
    exact completes_setV hexec h (.inl hhold) hregs
  · intro s e d a pr pn c f trans hc h
    rcases exec_of_unaryFp (s := s) hc with ⟨lat, rfl, hexec⟩ | ⟨rfl, hexec⟩
    · exact completes_unary hexec h rfl (by simp)
    · exact completes_unary hexec h rfl (by simp)

end Sys2Proof.Machine
end

section
/-!
PROOFS. Loads and stores of local memory (O42).
-/

namespace Sys2Proof.Machine

/-! ## Access -/

theorem memFaults_eq_none {store : Bool} {as : List Nat} : memFaults store as = none ↔ ∀ a ∈ as, memFault store a = none :=
  List.findSome?_eq_none_iff

theorem memFaults_lanes {store : Bool} {take : Nat → Bool} {addr : Nat → Nat} (h : ∀ k, k < 16 → take k = true → memFault store (addr k) = none) :
    memFaults store (((List.range 16).filter take).map addr) = none := by
  rw [memFaults_eq_none]
  intro a ha
  obtain ⟨k, hk, rfl⟩ := List.mem_map.1 ha
  obtain ⟨hk, ht⟩ := List.mem_filter.1 hk
  exact h k (List.mem_range.1 hk) ht

/-- A store is permitted on the words of scratch alone. -/
theorem scratch_of_memFault {a : Nat} (h : memFault true a = none) : scratchBase ≤ a ∧ a % 4 = 0 := by
  unfold memFault at h
  split at h
  · simp at h
  · split at h
    · simp at h
    · split at h
      · simp at h
      · simp_all

/-- An instruction whose accesses are all permitted runs as one that accesses no memory. -/
theorem onSys_memRun {s : State} {e : Nat} {n : Need} {store : Bool} {addrs : Engine → List Nat} {f : Sys → Engine → Engine}
    (hbusy : (s.sys.engine e).busy = true) (hfault : memFaults store (addrs (s.sys.engine e)) = none) :
    (onSys s fun _ y => y.memRun e n store addrs (f y)) = onEngine s e n (f s.sys) := by
  rw [onEngine, onSys_eq, onSys_eq, Sys.memRun, Engine.run]
  simp only [hbusy, hfault]
  split
  · contradiction
  · split <;> rfl

/-! ## Scratch -/

/-- The scratch words after the lanes of `l` have stored, one after the other. -/
def storedWords (m : List (Nat × W32)) (l : List Nat) (addr : Nat → Nat) (v : Nat → W32) : List (Nat × W32) :=
  l.foldl (fun m k => kput m ((addr k - scratchBase) / 4) (v k)) m

theorem foldl_setWord (g : Engine) (l : List Nat) (addr : Nat → Nat) (v : Nat → W32) :
    l.foldl (fun h k => h.setWord (addr k) (v k)) g = { g with scratch := storedWords g.scratch l addr v } := by
  induction l generalizing g with
  | nil => rfl
  | cons k l ih => exact ih (g.setWord (addr k) (v k))

theorem lookup_storedWords_apart {l : List Nat} {addr : Nat → Nat} {v : Nat → W32} {i : Nat} (m : List (Nat × W32))
    (h : ∀ k ∈ l, (addr k - scratchBase) / 4 ≠ i) : (storedWords m l addr v).lookup i = m.lookup i := by
  induction l generalizing m with
  | nil => rfl
  | cons k l ih =>
    refine (ih _ fun j hj => h j (by simp [hj])).trans ?_
    rw [lookup_kput, if_neg (h k (by simp)).symm]

/-- The last lane that stores to a word is the one whose value stays. -/
theorem lookup_storedWords_last {l : List Nat} {addr : Nat → Nat} {v : Nat → W32} {k : Nat} (m : List (Nat × W32)) (hl : l.Pairwise (· < ·))
    (hk : k ∈ l) (hlast : ∀ j ∈ l, k < j → (addr j - scratchBase) / 4 ≠ (addr k - scratchBase) / 4) :
    (storedWords m l addr v).lookup ((addr k - scratchBase) / 4) = some (v k) := by
  induction l generalizing m with
  | nil => simp at hk
  | cons a l ih =>
    obtain ⟨ha, hl⟩ := List.pairwise_cons.1 hl
    rcases List.mem_cons.1 hk with rfl | hk
    · refine (lookup_storedWords_apart _ fun j hj => hlast j (by simp [hj]) (ha j hj)).trans ?_
      rw [lookup_kput, if_pos rfl]
    · exact ih _ hl hk fun j hj => hlast j (by simp [hj])

theorem Sys.localWord_scratch (y : Sys) (g : Engine) {a : Nat} (h : scratchBase ≤ a) :
    y.localWord g a = (g.scratch.lookup ((a - scratchBase) / 4)).getD (g.unwritten (1032 + a / 4)) := by
  rw [Sys.localWord, if_neg (by omega)]

/-- Two word addresses in scratch are of one word only where they are equal. -/
theorem eq_of_sameWord {a b : Nat} (ha : scratchBase ≤ a ∧ a % 4 = 0) (hb : scratchBase ≤ b ∧ b % 4 = 0)
    (h : (a - scratchBase) / 4 = (b - scratchBase) / 4) : a = b := by
  unfold scratchBase at *
  omega

/-! ## Stores -/

/-- A store of the lanes that take part: each word addressed has the value of the last lane that addresses it. -/
theorem completes_store {s : State} {e : Nat} {n : Need} {regs : List (Nat × Nat)} {c : Instr} {take : Nat → Bool} {addr : Nat → Nat} {v : Nat → W32}
    {f : Engine → Engine} (hexec : exec c s = onEngine s e n f)
    (hf : f (s.sys.engine e) = ((List.range 16).filter take).foldl (fun h k => h.setWord (addr k) (v k)) (s.sys.engine e))
    (h : Ready s e regs) (hhold : n.hold = 1 ∨ n.hold = 4) (hregs : n.srcs ++ n.dsts ⊆ regs)
    (hfault : ∀ k, k < 16 → take k = true → memFault true (addr k) = none) : Completes c s fun t =>
      let g := s.sys.engine e
      let h := t.sys.engine e
      Advances e s t ∧ g.keepsV h ∧ g.keepsS h ∧ g.keepsP h ∧ h.outs = g.outs ∧ h.reqs = g.reqs ∧
      (∀ k, k < 16 → take k = true → (∀ j, k < j → j < 16 → take j = true → addr j ≠ addr k) → t.sys.localWord h (addr k) = v k) ∧
      (∀ w, scratchBase ≤ w → w % 4 = 0 → (∀ k, k < 16 → take k = true → addr k ≠ w) → t.sys.localWord h w = s.sys.localWord g w) := by
  let g := s.sys.engine e
  let m := storedWords g.scratch ((List.range 16).filter take) addr v
  have hscratch (k : Nat) (hk : k ∈ (List.range 16).filter take) : scratchBase ≤ addr k ∧ addr k % 4 = 0 := by
    obtain ⟨hk, ht⟩ := List.mem_filter.1 hk
    exact scratch_of_memFault (hfault k (List.mem_range.1 hk) ht)
  replace hf := hf.trans (foldl_setWord ..)
  obtain ⟨t, hexec, hadv, hkeepsV, hkeepsS, hkeepsP, houts, hreqs, hseed, hm⟩ := completes_onEngine
    (P := fun h => g.keepsV h ∧ g.keepsS h ∧ g.keepsP h ∧ h.outs = g.outs ∧ h.reqs = g.reqs ∧ h.entrySeed = g.entrySeed ∧ h.scratch = m)
    hexec h hhold hregs (by rw [hf]; exact ⟨rfl, rfl, rfl⟩) (by
      rw [Engine.issue, hf]
      exact ⟨fun _ _ _ => rfl, fun _ _ => rfl, fun _ => rfl, rfl, rfl, rfl, rfl⟩)
  have hunwritten (i : Nat) : (t.sys.engine e).unwritten i = g.unwritten i := by rw [Engine.unwritten, hseed]; rfl
  refine ⟨t, hexec, hadv, hkeepsV, hkeepsS, hkeepsP, houts, hreqs, fun k hk ht hlast => ?_, fun w hw hw4 hapart => ?_⟩
  · have hmem : k ∈ (List.range 16).filter take := List.mem_filter.2 ⟨List.mem_range.2 hk, ht⟩
    rw [Sys.localWord_scratch _ _ (hscratch k hmem).1, hm, lookup_storedWords_last _ (List.pairwise_lt_range.filter _) hmem, Option.getD_some]
    intro j hj hkj heq
    obtain ⟨hj16, htj⟩ := List.mem_filter.1 hj
    exact hlast j hkj (List.mem_range.1 hj16) htj (eq_of_sameWord (hscratch j hj) (hscratch k hmem) heq)
  · rw [Sys.localWord_scratch _ _ hw, Sys.localWord_scratch _ _ hw, hm, lookup_storedWords_apart, hunwritten]
    intro k hk heq
    obtain ⟨hk16, ht⟩ := List.mem_filter.1 hk
    exact hapart k (List.mem_range.1 hk16) ht (eq_of_sameWord (hscratch k hk) ⟨hw, hw4⟩ heq)

/-! ## The clauses -/

theorem load_writes (s : State) (e : Fin 384) (d a : Fin 64) (b : Fin 16) (off : BitVec 12) (pr : Fin 8) (pn : Bool) (c : Instr) (addr : Nat → Nat)
    (hc : (c, addr) ∈ ([(.ldV e d b off pr pn, fun k => (s.sys.engine e.val).addr b.val (4 * off.toNat + 4 * k)),
      (.ldB e d b off pr pn, fun _ => (s.sys.engine e.val).addr b.val (4 * off.toNat)),
      (.ldG e d a b pr pn, fun k => (s.sys.engine e.val).addr b.val (4 * ((s.sys.engine e.val).rv a.val k).toNat))] : List (Instr × (Nat → Nat))))
    (h : Ready s e.val [(fileV, a.val), (fileS, b.val), (fileP, pr.val), (fileV, d.val)])
    (hfault : ∀ k, k < 16 → (s.sys.engine e.val).part pr.val pn k = true → memFault false (addr k) = none) :
    Completes c s fun t => Advances e.val s t ∧ (s.sys.engine e.val).keeps (t.sys.engine e.val) ∧ (s.sys.engine e.val).keepsS (t.sys.engine e.val) ∧
      (s.sys.engine e.val).keepsP (t.sys.engine e.val) ∧
      (s.sys.engine e.val).wroteV (t.sys.engine e.val) d.val ((s.sys.engine e.val).part pr.val pn) fun k =>
        s.sys.localWord (s.sys.engine e.val) (addr k) := by
  simp only [List.mem_cons, Prod.mk.injEq, List.not_mem_nil, or_false] at hc
  rcases hc with ⟨rfl, rfl⟩ | ⟨rfl, rfl⟩ | ⟨rfl, rfl⟩
  · exact completes_setV (take := fun g => g.part pr.val pn) (f := fun g k => s.sys.localWord g (g.addr b.val (4 * off.toNat + 4 * k)))
      ((exec_ldV ..).trans (onSys_memRun h.1 (memFaults_lanes hfault))) h (.inl rfl) (by simp)
  · refine completes_setV (take := fun g => g.part pr.val pn) (f := fun g _ => s.sys.localWord g (g.addr b.val (4 * off.toNat)))
      ((exec_ldB ..).trans (onSys_memRun h.1 ?_)) h (.inl rfl) (by simp)
    split
    next hany =>
      obtain ⟨k, hk, ht⟩ := List.any_eq_true.1 hany
      exact memFaults_eq_none.2 (by simpa using hfault k (List.mem_range.1 hk) ht)
    next => rfl
  · exact completes_setV (take := fun g => g.part pr.val pn) (f := fun g k => s.sys.localWord g (g.gather a.val b.val k))
      ((exec_ldG ..).trans (onSys_memRun h.1 (memFaults_lanes hfault))) h (.inr rfl) (by simp)

theorem memFaults_one {store : Bool} {a : Nat} (h : memFault store a = none) : memFaults store [a] = none :=
  memFaults_eq_none.2 (by simpa using h)

theorem stS_writes (s : State) (e : Fin 384) (d b : Fin 16) (off : BitVec 12) (h : Ready s e.val [(fileS, d.val), (fileS, b.val)])
    (hfault : memFault true ((s.sys.engine e.val).addr b.val (4 * off.toNat)) = none) : Completes (.stS e d b off) s fun t =>
      let g := s.sys.engine e.val
      let h := t.sys.engine e.val
      Advances e.val s t ∧ g.keepsV h ∧ g.keepsS h ∧ g.keepsP h ∧ h.outs = g.outs ∧ h.reqs = g.reqs ∧
      t.sys.localWord h (g.addr b.val (4 * off.toNat)) = g.rs d.val ∧
      (∀ w, scratchBase ≤ w → w % 4 = 0 → w ≠ g.addr b.val (4 * off.toNat) → t.sys.localWord h w = s.sys.localWord g w) := by
  let g := s.sys.engine e.val
  obtain ⟨t, hexec, hadv, hv, hs, hp, houts, hreqs, hword, hother⟩ := completes_store (take := fun k => decide (k = 0))
    (addr := fun _ => g.addr b.val (4 * off.toNat)) (v := fun _ => g.rs d.val)
    ((exec_stS ..).trans (onSys_memRun h.1 (memFaults_one hfault))) rfl h (.inl rfl) (by simp) fun _ _ _ => hfault
  refine ⟨t, hexec, hadv, hv, hs, hp, houts, hreqs, hword 0 (by decide) (by decide) fun j hj _ h => ?_, fun w hw hw4 hne => ?_⟩
  · exact absurd (of_decide_eq_true h) (by omega)
  · exact hother w hw hw4 fun _ _ _ => hne.symm

theorem ldS_writes (s : State) (e : Fin 384) (d b : Fin 16) (off : BitVec 12) (h : Ready s e.val [(fileS, b.val), (fileS, d.val)]) :
    let g := s.sys.engine e.val
    memFault false (g.addr b.val (4 * off.toNat)) = none →
    Completes (.ldS e d b off) s fun t => Advances e.val s t ∧ g.keeps (t.sys.engine e.val) ∧ g.keepsV (t.sys.engine e.val) ∧
      g.keepsP (t.sys.engine e.val) ∧ g.wroteS (t.sys.engine e.val) d.val (s.sys.localWord g (g.addr b.val (4 * off.toNat))) := fun hfault =>
  completes_setS (v := fun g => s.sys.localWord g (g.addr b.val (4 * off.toNat)))
    ((exec_ldS ..).trans (onSys_memRun h.1 (memFaults_one hfault))) h (.inl rfl) (by simp)

theorem storeLanes_writes (s : State) (e : Fin 384) (d a : Fin 64) (b : Fin 16) (off : BitVec 12) (pr : Fin 8) (pn : Bool) (c : Instr) (addr : Nat → Nat) :
    let g := s.sys.engine e.val
    (c, addr) ∈ ([(.stV e d b off pr pn, fun k => g.addr b.val (4 * off.toNat + 4 * k)), (.stG e d a b pr pn, fun k => g.addr b.val (4 * (g.rv a.val k).toNat))] : List (Instr × (Nat → Nat))) →
    Ready s e.val [(fileV, d.val), (fileV, a.val), (fileS, b.val), (fileP, pr.val)] →
    (∀ k, k < 16 → g.part pr.val pn k = true → memFault true (addr k) = none) →
    Completes c s fun t =>
      let h := t.sys.engine e.val
      Advances e.val s t ∧ g.keepsV h ∧ g.keepsS h ∧ g.keepsP h ∧ h.outs = g.outs ∧ h.reqs = g.reqs ∧
      (∀ k, k < 16 → g.part pr.val pn k = true → (∀ j, k < j → j < 16 → g.part pr.val pn j = true → addr j ≠ addr k) →
        t.sys.localWord h (addr k) = g.rv d.val k) ∧
      (∀ w, scratchBase ≤ w → w % 4 = 0 → (∀ k, k < 16 → g.part pr.val pn k = true → addr k ≠ w) → t.sys.localWord h w = s.sys.localWord g w) := by
  intro g hc h hfault
  simp only [List.mem_cons, Prod.mk.injEq, List.not_mem_nil, or_false] at hc
  rcases hc with ⟨rfl, rfl⟩ | ⟨rfl, rfl⟩
  · exact completes_store ((exec_stV ..).trans (onSys_memRun h.1 (memFaults_lanes hfault))) rfl h (.inl rfl) (by simp) hfault
  · exact completes_store ((exec_stG ..).trans (onSys_memRun h.1 (memFaults_lanes hfault))) rfl h (.inr rfl) (by simp) hfault

theorem stS_faults (s : State) (e : Fin 384) (d b : Fin 16) (off : BitVec 12) (k : ProgFault) (h : Ready s e.val [(fileS, d.val), (fileS, b.val)])
    (hfault : memFault true ((s.sys.engine e.val).addr b.val (4 * off.toNat)) = some k) : Runs (.stS e d b off) s (s.sys.progFault e.val k) := by
  rw [Runs, exec_stS, execStS, onSys_eq, Sys.memRun]
  have hpending := Engine.lutPending_mono (s.sys.engine e.val) [(fileS, d.val), (fileS, b.val)] _ (fun _ h => h) h.2.1
  simp only [h.1, memFaults, List.findSome?_cons, hfault, List.append_nil, hpending, Bool.not_true, Bool.false_eq_true, if_false]

/-- Settles O42: a permitted access runs as any instruction does, and the last lane that addresses a word is the one that stores it. -/
theorem loadsAndStores : Obligations.LoadsAndStores :=
  ⟨load_writes, ldS_writes, storeLanes_writes, stS_writes, stS_faults⟩

end Sys2Proof.Machine
end

section
/-!
PROOFS. The pixel and LUT instructions, and the LUT unit (O43).
-/

namespace Sys2Proof.Machine

/-! ## Engines after an instruction -/

/-- An engine whose clock stands before the limit of R364 stays as it is. -/
theorem Sys.ran_of_lt (y : Sys) (e : Nat) {g : Engine} (h : g.slot < 65536) : y.ran e g = y.setEngine e g := by
  rw [Sys.ran, if_neg]
  simp only [Bool.and_eq_true, decide_eq_true_eq, not_and, not_le]
  exact fun _ => h

theorem slot_issue_lt {s : State} {e : Nat} (n : Need) (f : Engine → Engine) (h : InTime s e) (hhold : n.hold ≤ 4) :
    ((s.sys.engine e).issue n f).slot < 65536 := by
  have hat := issueAt_inTime s e n h
  change (s.sys.engine e).issueAt n + n.hold < 65536
  omega

/-- A ready engine runs an instruction, whatever the rest of the machine is. -/
theorem ran_ready {s : State} {e : Nat} {n : Need} {regs : List (Nat × Nat)} (y : Sys) (f : Engine → Engine) (h : Ready s e regs) (hhold : n.hold ≤ 4)
    (hregs : n.srcs ++ n.dsts ⊆ regs) : y.ran e ((s.sys.engine e).run n f) = y.setEngine e (Engine.next ((s.sys.engine e).issue n f)) := by
  obtain ⟨hbusy, hpending, htime⟩ := h
  rw [Engine.run_eq _ _ _ hbusy (Engine.lutPending_mono _ _ _ hregs hpending)]
  exact y.ran_of_lt e (slot_issue_lt n f htime hhold)

theorem Sys.engine_setEngine_same (y : Sys) (e : Nat) (g : Engine) : (y.setEngine e g).engine e = g := by
  rw [Sys.engine_setEngine, if_pos rfl]

theorem Engine.rv_setV (g : Engine) (d : Nat) (take : Nat → Bool) (f : Nat → W32) (r : Nat) {k : Nat} (hk : k < 16) :
    (g.setV d take f).rv r k = if r = d ∧ take k = true then f k else g.rv r k := g.setV_wroteV d take f r k hk

/-- An instruction whose effect writes V registers alone. -/
theorem completes_ofV {s : State} {e : Nat} {n : Need} {regs : List (Nat × Nat)} {c : Instr} {f : Engine → Engine} {m : List (Nat × W32)}
    (hexec : exec c s = onEngine s e n f) (h : Ready s e regs) (hhold : n.hold = 1 ∨ n.hold = 4) (hregs : n.srcs ++ n.dsts ⊆ regs)
    (hf : f (s.sys.engine e) = { s.sys.engine e with v := m }) :
    Completes c s fun t => Advances e s t ∧ (s.sys.engine e).keeps (t.sys.engine e) ∧ (s.sys.engine e).keepsS (t.sys.engine e) ∧
      (s.sys.engine e).keepsP (t.sys.engine e) ∧ ∀ r k, k < 16 → (t.sys.engine e).rv r k = (f (s.sys.engine e)).rv r k := by
  refine completes_onEngine (P := fun h => (s.sys.engine e).keeps h ∧ (s.sys.engine e).keepsS h ∧ (s.sys.engine e).keepsP h ∧
    ∀ r k, k < 16 → h.rv r k = (f (s.sys.engine e)).rv r k) hexec h hhold hregs (by rw [hf]; exact ⟨rfl, rfl, rfl⟩) ?_
  rw [Engine.issue, hf]
  exact ⟨⟨rfl, rfl, rfl, rfl, rfl, rfl⟩, fun _ _ => rfl, fun _ => rfl, fun _ _ _ => rfl⟩

/-- Two registers written one after the other, seen from any register. -/
theorem ite_of_two {α : Type} (r d : Nat) (t : Prop) [Decidable t] (x₀ x₁ w : α) :
    (if r = d + 1 ∧ t then x₁ else if r = d ∧ t then x₀ else w) = if t then (if r = d then x₀ else if r = d + 1 then x₁ else w) else w := by
  by_cases ht : t
  · simp only [ht, and_true, if_true]
    split_ifs <;> first | rfl | omega
  · simp only [ht, and_false, if_false]

theorem ite_of_three {α : Type} (r d : Nat) (t : Prop) [Decidable t] (x₀ x₁ x₂ w : α) :
    (if r = d + 2 ∧ t then x₂ else if r = d + 1 ∧ t then x₁ else if r = d ∧ t then x₀ else w) =
      if t then (if r = d then x₀ else if r = d + 1 then x₁ else if r = d + 2 then x₂ else w) else w := by
  by_cases ht : t
  · simp only [ht, and_true, if_true]
    split_ifs <;> first | rfl | omega
  · simp only [ht, and_false, if_false]

/-! ## Pixels -/

/-- The pixel that PIX_IN reads in lane k. -/
def Sys.pixelRead (y : Sys) (e : Nat) (g : Engine) (f : Frame) (b : Binding) (dx dy : Fin 17) (k : Nat) : Px :=
  if (g.rp 1).getLsbD k then
    y.stripePixel e g f ((b.srcX (g.col + k) / 65536 : Nat) + (dx.val : Int) - 8) ((b.srcY g.line / 65536 : Nat) + (dy.val : Int) - 8)
  else ⟨0, 0, 0⟩

theorem pixIn_reads (s : State) (e : Fin 384) (d : Fin 62) (dx dy : Fin 17) (pr : Fin 8) (pn : Bool) (f : Frame) (b : Binding) :
    let g := s.sys.engine e.val
    s.sys.groupBinding g = some (f, b) → Ready s e.val [(fileP, pr.val), (fileP, 1), (fileV, d.val), (fileV, d.val + 1), (fileV, d.val + 2)] →
    Completes (.pixIn e d dx dy pr pn) s fun t =>
      let px := s.sys.pixelRead e.val g f b dx dy
      Advances e.val s t ∧ g.keeps (t.sys.engine e.val) ∧ g.keepsS (t.sys.engine e.val) ∧ g.keepsP (t.sys.engine e.val) ∧
      ∀ r k, k < 16 → (t.sys.engine e.val).rv r k =
        if g.part pr.val pn k = true then
          (if r = d.val then ofH24 (px k).r else if r = d.val + 1 then ofH24 (px k).g else if r = d.val + 2 then ofH24 (px k).b else g.rv r k)
        else g.rv r k := by
  intro g hbinding h
  let px := s.sys.pixelRead e.val g f b dx dy
  have hexec : exec (.pixIn e d dx dy pr pn) s = onEngine s e.val
      ⟨[(fileP, pr.val), (fileP, 1)], [(fileV, d.val), (fileV, d.val + 1), (fileV, d.val + 2)], 6, some .pixel, 1, false⟩ fun g =>
        ((g.setV d.val (g.part pr.val pn) fun k => ofH24 (px k).r).setV (d.val + 1) (g.part pr.val pn) fun k => ofH24 (px k).g).setV (d.val + 2)
          (g.part pr.val pn) fun k => ofH24 (px k).b := by
    rw [exec_pixIn, execPixIn, onEngine, onSys_eq, onSys_eq]
    dsimp only
    rw [hbinding]
    rfl
  obtain ⟨t, hexec, hadv, hkeeps, hs, hp, hv⟩ := completes_ofV hexec h (.inl rfl) (by simp) rfl
  refine ⟨t, hexec, hadv, hkeeps, hs, hp, fun r k hk => (hv r k hk).trans ?_⟩
  refine (Engine.rv_setV _ _ _ _ r hk).trans ?_
  rw [Engine.rv_setV _ _ _ _ r hk, Engine.rv_setV _ _ _ _ r hk]
  exact ite_of_three ..

theorem pixFrac_reads (s : State) (e : Fin 384) (d : Fin 63) (pr : Fin 8) (pn : Bool) (f : Frame) (b : Binding) :
    let g := s.sys.engine e.val
    s.sys.groupBinding g = some (f, b) → Ready s e.val [(fileP, pr.val), (fileV, d.val), (fileV, d.val + 1)] →
    Completes (.pixFrac e d pr pn) s fun t =>
      Advances e.val s t ∧ g.keeps (t.sys.engine e.val) ∧ g.keepsS (t.sys.engine e.val) ∧ g.keepsP (t.sys.engine e.val) ∧
      ∀ r k, k < 16 → (t.sys.engine e.val).rv r k =
        if g.part pr.val pn k = true then
          (if r = d.val then frac16 (b.srcX (g.col + k)) else if r = d.val + 1 then frac16 (b.srcY g.line) else g.rv r k)
        else g.rv r k := by
  intro g hbinding h
  have hexec : exec (.pixFrac e d pr pn) s = onEngine s e.val ⟨[(fileP, pr.val)], [(fileV, d.val), (fileV, d.val + 1)], 2, none, 1, false⟩ fun g =>
      (g.setV d.val (g.part pr.val pn) fun k => frac16 (b.srcX (g.col + k))).setV (d.val + 1) (g.part pr.val pn) fun _ => frac16 (b.srcY g.line) := by
    rw [exec_pixFrac, execPixFrac, onEngine, onSys_eq, onSys_eq]
    dsimp only
    rw [hbinding]
  obtain ⟨t, hexec, hadv, hkeeps, hs, hp, hv⟩ := completes_ofV hexec h (.inl rfl) (by simp) rfl
  refine ⟨t, hexec, hadv, hkeeps, hs, hp, fun r k hk => (hv r k hk).trans ?_⟩
  refine (Engine.rv_setV _ _ _ _ r hk).trans ?_
  rw [Engine.rv_setV _ _ _ _ r hk]
  exact ite_of_two ..

theorem pixOut_holds (s : State) (e : Fin 384) (a : Fin 62) (n : Fin 16) (pr : Fin 8) (pn : Bool) (f : Frame) :
    let g := s.sys.engine e.val
    s.sys.groupFrame g = some f → Ready s e.val [(fileV, a.val), (fileV, a.val + 1), (fileV, a.val + 2), (fileP, pr.val), (fileP, 1)] →
    g.outBlocked = false → f.outOk g.binding n.val = true → g.writes < 16 →
    Completes (.pixOut e a n pr pn) s fun t =>
      let h := t.sys.engine e.val
      h.outs = holdWrite g.outs ⟨n.val, g.outLanes pr.val pn, (List.range 16).map fun k =>
        packPixel (f.gen.binding f.ctx n.val).format (g.col + k) (g.rv a.val k) (g.rv (a.val + 1) k) (g.rv (a.val + 2) k)⟩ ∧
      h.writes = g.writes + 1 ∧ h.pc = g.next.pc ∧ g.keepsV h ∧ g.keepsS h ∧ g.keepsP h ∧
      Leaves [.engines] (only [ent (0x3860 + e.val / 16) 8]) (only []) s t := by
  intro g hframe h hblocked hok hwrites
  let held : Held := ⟨n.val, g.outLanes pr.val pn, (List.range 16).map fun k =>
    packPixel (f.gen.binding f.ctx n.val).format (g.col + k) (g.rv a.val k) (g.rv (a.val + 1) k) (g.rv (a.val + 2) k)⟩
  let y := s.sys.inc64 (ent (0x3860 + e.val / 16) 8) (nanCount (g.outLanes pr.val pn) (g.rv a.val) (g.rv (a.val + 1)) (g.rv (a.val + 2)))
  let need : Need := ⟨[(fileV, a.val), (fileV, a.val + 1), (fileV, a.val + 2), (fileP, pr.val), (fileP, 1)], [], 0, none, 1, false⟩
  let z := Engine.next (g.issue need fun g => { g with outs := holdWrite g.outs held, writes := g.writes + 1 })
  have hexec : Runs (.pixOut e a n pr pn) s (y.setEngine e.val z) := by
    rw [Runs, exec_pixOut, execPixOut, onSys_eq]
    dsimp only
    rw [hframe]
    dsimp only
    rw [h.1, h.2.1, hblocked, hok, Bool.not_true, if_neg Bool.false_ne_true, Bool.or_false, if_neg Bool.false_ne_true, if_neg Bool.false_ne_true,
      if_neg (Nat.not_le.2 hwrites)]
    exact congrArg (fun z => Host.Outcome.next { s with sys := z }) (ran_ready (n := need) y _ h (by simp [need]) (by simp [need]))
  have hz : (y.setEngine e.val z).engine e.val = z := Sys.engine_setEngine_same ..
  refine ⟨_, hexec, ?_⟩
  simp only [hz]
  refine ⟨rfl, rfl, rfl, fun _ _ _ => rfl, fun _ _ => rfl, fun _ => rfl, rfl, rfl, ?_⟩
  rw [sameBut_setEngine_iff _ _ (by simp)]
  exact sameBut_wr _ _ _ (by simp)

/-! ## The LUT unit -/

/-- The request that a LUT instruction queues. -/
def Engine.lutAsked (g : Engine) (kind : LutKind) (d a n pr : Nat) (pn : Bool) : LutReq :=
  ⟨kind, d, n, match kind with
      | .threeOut => g.outLanes pr pn
      | _ => BitVec.ofNat 16 (bitsOf ((List.range 16).filter (g.part pr pn))),
    (List.range 16).map (g.rv a), if kind != .one then (List.range 16).map (g.rv (a + 1)) else [],
    if kind != .one then (List.range 16).map (g.rv (a + 2)) else [], false, 0⟩

/-- The registers that a LUT instruction reads. -/
def lutSources (kind : LutKind) (a pr : Nat) : List (Nat × Nat) :=
  if kind != .one then [(fileV, a), (fileV, a + 1), (fileV, a + 2), (fileP, pr)] else [(fileV, a), (fileP, pr)]

/-- The registers that its result will write. -/
def lutTargets (kind : LutKind) (d : Nat) : List (Nat × Nat) :=
  match kind with
  | .one => [(fileV, d)]
  | .three => [(fileV, d), (fileV, d + 1), (fileV, d + 2)]
  | .threeOut => []

def Engine.askLut (kind : LutKind) (d a n pr : Nat) (pn : Bool) (g : Engine) : Engine := { g with reqs := g.reqs ++ [g.lutAsked kind d a n pr pn] }

/-- A LUT instruction issued: its request is the engine's last, and its results are due from the unit. -/
def Engine.lutQueued (g : Engine) (kind : LutKind) (d a n pr : Nat) (pn : Bool) : Engine :=
  Engine.next (g.issue ⟨lutSources kind a pr, [], 0, none, 1, false⟩ (Engine.askLut kind d a n pr pn))

theorem Engine.lutQueued_spec (g : Engine) (kind : LutKind) (d a n pr : Nat) (pn : Bool) :
    let h := g.lutQueued kind d a n pr pn
    h.reqs = g.reqs ++ [g.lutAsked kind d a n pr pn] ∧ g.keepsV h ∧ g.keepsS h ∧ g.keepsP h ∧ h.outs = g.outs :=
  ⟨rfl, fun _ _ _ => rfl, fun _ _ => rfl, fun _ => rfl, rfl⟩

theorem Engine.lutAsked_spec (g : Engine) (kind : LutKind) (d a n pr : Nat) (pn : Bool) :
    let q := g.lutAsked kind d a n pr pn
    q.kind = kind ∧ q.dst = d ∧ q.table = n ∧ q.accepted = false ∧ (kind = .threeOut → q.lanes = g.outLanes pr pn) :=
  ⟨rfl, rfl, rfl, rfl, by rintro rfl; rfl⟩

theorem advances_lutQueued (s : State) (e : Nat) (kind : LutKind) (d a n pr : Nat) (pn : Bool) (hbusy : (s.sys.engine e).busy = true) :
    Advances e s { s with sys := s.sys.setEngine e ((s.sys.engine e).lutQueued kind d a n pr pn) } :=
  advances_issue s e _ (Engine.askLut kind d a n pr pn) hbusy (Nat.le_refl 1) rfl rfl rfl

theorem lutRequest_queues {s : State} {e : Nat} {kind : LutKind} {d a n pr : Nat} {pn : Bool} {regs : List (Nat × Nat)} (h : Ready s e regs)
    (hregs : lutSources kind a pr ++ lutTargets kind d ⊆ regs) (hroom : (s.sys.engine e).outstanding < 2) :
    s.sys.lutRequest e kind d a n pr pn =
      (if kind = .threeOut then s.sys.inc64 (ent (0x3860 + e / 16) 8) (nanCount ((s.sys.engine e).lutAsked kind d a n pr pn).lanes ((s.sys.engine e).rv a)
        ((s.sys.engine e).rv (a + 1)) ((s.sys.engine e).rv (a + 2))) else s.sys).setEngine e ((s.sys.engine e).lutQueued kind d a n pr pn) := by
  obtain ⟨hbusy, hpending, htime⟩ := h
  have hfree : (s.sys.engine e).lutPending (lutSources kind a pr ++ lutTargets kind d) = false := Engine.lutPending_mono _ _ _ hregs hpending
  have hslot : ((s.sys.engine e).lutQueued kind d a n pr pn).slot < 65536 := slot_issue_lt _ (Engine.askLut kind d a n pr pn) htime (by simp)
  unfold Sys.lutRequest
  refine (if_neg (by simp [hbusy])).trans ?_
  refine (if_neg (Bool.not_eq_true _ ▸ hfree)).trans ?_
  refine (if_neg (Nat.not_le.2 hroom)).trans ?_
  exact Sys.ran_of_lt _ e hslot

theorem lutRequest_completes {s : State} {e : Nat} {kind : LutKind} {d a n pr : Nat} {pn : Bool} {regs : List (Nat × Nat)} {c : Instr}
    (hexec : Runs c s (s.sys.lutRequest e kind d a n pr pn)) (hkind : kind ≠ .threeOut) (h : Ready s e regs)
    (hregs : lutSources kind a pr ++ lutTargets kind d ⊆ regs) (hroom : (s.sys.engine e).outstanding < 2) :
    let g := s.sys.engine e
    Completes c s fun t =>
      let h := t.sys.engine e
      (∃ q, h.reqs = g.reqs ++ [q] ∧ q.kind = kind ∧ q.dst = d ∧ q.table = n ∧ q.accepted = false) ∧ Advances e s t ∧ g.keepsV h ∧
      g.keepsS h ∧ g.keepsP h ∧ h.outs = g.outs := by
  intro g
  rw [lutRequest_queues h hregs hroom, if_neg hkind] at hexec
  obtain ⟨hreqs, hv, hs, hp, houts⟩ := g.lutQueued_spec kind d a n pr pn
  obtain ⟨hk, hd, ht, ha, -⟩ := g.lutAsked_spec kind d a n pr pn
  refine ⟨_, hexec, ?_⟩
  simp only [Sys.engine_setEngine_same]
  exact ⟨⟨_, hreqs, hk, hd, ht, ha⟩, advances_lutQueued s e kind d a n pr pn h.1, hv, hs, hp, houts⟩

theorem lut_queues (s : State) (e : Fin 384) (d a : Fin 64) (w v : Fin 62) (n pr : Fin 8) (pn : Bool) (c : Instr) (kind : LutKind) (dst : Nat) :
    let g := s.sys.engine e.val
    (c, kind, dst) ∈ ([(.lut1 e d a n pr pn, .one, d.val), (.lut3 e w v n pr pn, .three, w.val)] : List (Instr × LutKind × Nat)) →
    Ready s e.val [(fileV, a.val), (fileV, d.val), (fileP, pr.val), (fileV, w.val), (fileV, w.val + 1), (fileV, w.val + 2), (fileV, v.val),
      (fileV, v.val + 1), (fileV, v.val + 2)] → g.outstanding < 2 →
    Completes c s fun t =>
      let h := t.sys.engine e.val
      (∃ q, h.reqs = g.reqs ++ [q] ∧ q.kind = kind ∧ q.dst = dst ∧ q.table = n.val ∧ q.accepted = false) ∧ Advances e.val s t ∧ g.keepsV h ∧
      g.keepsS h ∧ g.keepsP h ∧ h.outs = g.outs := by
  intro g hc h hroom
  simp only [List.mem_cons, Prod.mk.injEq, List.not_mem_nil, or_false] at hc
  rcases hc with ⟨rfl, rfl, rfl⟩ | ⟨rfl, rfl, rfl⟩
  · exact lutRequest_completes (exec_lut1 ..) (by decide) h (by simp [lutSources, lutTargets]) hroom
  · exact lutRequest_completes (exec_lut3 ..) (by decide) h (by simp [lutSources, lutTargets]) hroom

theorem lut3Out_queues (s : State) (e : Fin 384) (b : Fin 16) (a : Fin 62) (n pr : Fin 8) (pn : Bool) (f : Frame) :
    let g := s.sys.engine e.val
    s.sys.groupFrame g = some f → Ready s e.val [(fileV, a.val), (fileV, a.val + 1), (fileV, a.val + 2), (fileP, pr.val)] →
    f.outOk g.binding b.val = true → g.writes < 16 → g.outstanding < 2 →
    Completes (.lut3Out e b a n pr pn) s fun t =>
      let h := t.sys.engine e.val
      (∃ q, h.reqs = g.reqs ++ [q] ∧ q.kind = .threeOut ∧ q.dst = b.val ∧ q.table = n.val ∧ q.lanes = g.outLanes pr.val pn) ∧ h.writes = g.writes + 1 ∧
      h.pc = g.next.pc ∧ h.loops = g.next.loops ∧ g.slot < h.slot ∧ h.busy = true ∧ (∀ j, j ≠ e.val → t.sys.engine j = s.sys.engine j) ∧
      t.sys.rd (ent (0x3860 + e.val / 16) 8) = (s.sys.rd (ent (0x3860 + e.val / 16) 8) +
        nanCount (g.outLanes pr.val pn) (g.rv a.val) (g.rv (a.val + 1)) (g.rv (a.val + 2))) % 2 ^ 64 ∧
      g.keepsV h ∧ g.keepsS h ∧ g.keepsP h ∧ Leaves [.engines] (only [ent (0x3860 + e.val / 16) 8]) (only []) s t := by
  intro g hframe h hok hwrites hroom
  let k := ent (0x3860 + e.val / 16) 8
  let v := nanCount (g.lutAsked .threeOut b.val a.val n.val pr.val pn).lanes (g.rv a.val) (g.rv (a.val + 1)) (g.rv (a.val + 2))
  let y := s.sys.inc64 k v
  obtain ⟨q, hq⟩ : ∃ q, q = g.lutQueued .threeOut b.val a.val n.val pr.val pn := ⟨_, rfl⟩
  have hasked : s.sys.lutRequest e.val .threeOut b.val a.val n.val pr.val pn = y.setEngine e.val q :=
    hq ▸ lutRequest_queues h (by simp [lutSources, lutTargets]) hroom
  obtain ⟨hreqs, hv, hs, hp, -⟩ := g.lutQueued_spec .threeOut b.val a.val n.val pr.val pn
  obtain ⟨hk, hd, ht, -, hl⟩ := g.lutAsked_spec .threeOut b.val a.val n.val pr.val pn
  obtain ⟨hpc, hloops, hslot, hbusy, -, -⟩ := advances_lutQueued s e.val .threeOut b.val a.val n.val pr.val pn h.1
  simp only [Sys.engine_setEngine_same] at hpc hloops hslot hbusy
  rw [show (s.sys.engine e.val).lutQueued _ _ _ _ _ _ = q from hq.symm] at hreqs hv hs hp hpc hloops hslot hbusy
  have hexec : Runs (.lut3Out e b a n pr pn) s ((y.setEngine e.val q).setEngine e.val { q with writes := g.writes + 1 }) := by
    rw [Runs, exec_lut3Out, execLut3Out, onSys_eq]
    dsimp only
    rw [hframe]
    dsimp only
    rw [h.1, hok, Bool.not_true, if_neg Bool.false_ne_true, if_neg Bool.false_ne_true, if_neg (Nat.not_le.2 hwrites), hasked,
      Sys.engine_setEngine_same, if_neg]
    rw [hreqs, List.length_append]
    exact fun hne => hne rfl
  have hsame : SameBut [.engines] (only [k]) (only []) s.sys ((y.setEngine e.val q).setEngine e.val { q with writes := g.writes + 1 }) := by
    rw [sameBut_setEngine_iff _ _ (by simp), sameBut_setEngine_iff _ _ (by simp)]
    exact sameBut_wr _ _ _ (by simp)
  have hlanes : v = nanCount (g.outLanes pr.val pn) (g.rv a.val) (g.rv (a.val + 1)) (g.rv (a.val + 2)) :=
    congrArg (fun l => nanCount l (g.rv a.val) (g.rv (a.val + 1)) (g.rv (a.val + 2))) (hl rfl)
  have hrd : ((y.setEngine e.val q).setEngine e.val { q with writes := g.writes + 1 }).rd k = (s.sys.rd k + v) % 2 ^ 64 := by
    rw [Sys.rd_setEngine, Sys.rd_setEngine]
    exact (Sys.rd_wr ..).trans (if_pos rfl)
  have hothers (j : Nat) (hj : j ≠ e.val) :
      ((y.setEngine e.val q).setEngine e.val { q with writes := g.writes + 1 }).engine j = s.sys.engine j := by
    rw [Sys.engine_setEngine, if_neg hj, Sys.engine_setEngine, if_neg hj]
    simp only [Sys.engine, y, Sys.inc64_eq, Sys.wr_engines]
  refine ⟨_, hexec, ?_⟩
  dsimp only
  rw [Sys.engine_setEngine_same]
  exact ⟨⟨_, hreqs, hk, hd, ht, hl rfl⟩, rfl, hpc, hloops, hslot, hbusy, hothers,
    hrd.trans (by rw [hlanes]), hv, hs, hp, rfl, rfl, hsame⟩

theorem lutRequestAccept_accepts (s : State) (q : Fin 24) (k : Nat)
    (hk : (((List.range 16).map fun i => ((s.sys.troupe q.val).lutLast + 1 + i) % 16).find? fun k => (s.sys.engine (16 * q.val + k)).waiting) = some k) :
    Completes (.lutRequestAccept q) s fun t =>
      t.sys.troupe q.val = { s.sys.troupe q.val with lutLast := k } ∧ t.sys.engine (16 * q.val + k) = (s.sys.engine (16 * q.val + k)).accept ∧
      t.sys.rd (ent (0x3860 + q.val) 6) = (s.sys.rd (ent (0x3860 + q.val) 6) + 1) % 2 ^ 64 ∧
      Leaves [.troupes, .engines] (only [ent (0x3860 + q.val) 6]) (only []) s t := by
  have hexec : Runs (.lutRequestAccept q) s (((s.sys.setTroupe q.val { s.sys.troupe q.val with lutLast := k }).setEngine (16 * q.val + k)
      (s.sys.engine (16 * q.val + k)).accept).inc64 (ent (0x3860 + q.val) 6) 1) := by
    rw [Runs, exec_lutRequestAccept, execLutRequestAccept, onSys_eq]
    dsimp only
    rw [hk]
    rfl
  refine ⟨_, hexec, (Sys.troupe_setTroupe ..).trans (if_pos rfl), Sys.engine_setEngine_same .., by simp, rfl, rfl, by simp⟩

theorem lutResult_delivers (s : State) (e : Fin 384) (q : LutReq) (f : Frame) :
    let g := s.sys.engine e.val
    g.spent.find? (·.accepted) = none → (g.halted.findIdx? fun h => h.reqs.any (·.accepted)) = none → g.reqs.find? (·.accepted) = some q →
    s.sys.groupFrame g = some f → q.kind = .one →
    Completes (.lutResult e) s fun t =>
      g.wroteV (t.sys.engine e.val) q.dst q.lanes.getLsbD (lutLane (s.sys.tableOf f q.table) q 0) ∧ (t.sys.engine e.val).reqs = g.reqs.erase q ∧
      (t.sys.engine e.val).due = g.due ++ [⟨fileV, q.dst, q.slot + 20, some .lut⟩] ∧
      Leaves [.engines] (only []) (only []) s t := by
  intro g hspent hhalted hreq hframe hkind
  have hexec : Runs (.lutResult e) s (s.sys.setEngine e.val ((Engine.setV { g with reqs := g.reqs.erase q } q.dst q.lanes.getLsbD
      (lutLane (s.sys.tableOf f q.table) q 0)).lutDue q [q.dst])) := by
    rw [Runs, exec_lutResult, execLutResult, onSys_eq]
    dsimp only
    rw [hspent, hhalted, hreq, hframe]
    dsimp only [Sys.lutOwnOut]
    rw [hkind]
  refine ⟨_, hexec, ?_⟩
  simp only [Sys.engine_setEngine_same]
  exact ⟨Engine.setV_wroteV { g with reqs := g.reqs.erase q } _ _ _, rfl, rfl, rfl, rfl, by simp⟩

/-- Settles O43, clause by clause. -/
theorem pixelAndLutInstructions : Obligations.PixelAndLutInstructions :=
  ⟨pixIn_reads, pixFrac_reads, pixOut_holds, lut_queues, lut3Out_queues, lutRequestAccept_accepts, lutResult_delivers⟩

end Sys2Proof.Machine
end

section
/-!
PROOFS. Which facets the operations of the model can change, from the callee to the caller: one lemma per operation, which peels it off a state.
-/

namespace Sys2Proof.Machine

variable {fs : List Facet} {x w : Sys}

theorem touches_setStore (y : Sys) (st : Store) (hs : ∀ p ∈ [Facet.stores], p ∈ fs) : Touches fs x (Sys.setStore y st) ↔ Touches fs x y := by
  refine Touches.peel (gs := [Facet.stores]) ?_ hs
  unfold Sys.setStore
  simp [↓touches_primitives, ↓touches_fields]

theorem touches_storeDrop (y : Sys) (st : Store) (fr : Nat) (hs : ∀ p ∈ [Facet.log, .stores], p ∈ fs) : Touches fs x (Sys.storeDrop y st fr) ↔ Touches fs x y := by
  refine Touches.peel (gs := [Facet.log, .stores]) ?_ hs
  unfold Sys.storeDrop
  simp (maxDischargeDepth := 7) [↓touches_primitives, ↓touches_setStore, ↓touches_foldl]

theorem touches_openBuf (y : Sys) (x : Nat) (n : Nat) (fr : Nat) (hs : ∀ p ∈ [Facet.log, .stores], p ∈ fs) : Touches fs w (Sys.openBuf y x n fr) ↔ Touches fs w y := by
  refine Touches.peel (gs := [Facet.log, .stores]) ?_ hs
  unfold Sys.openBuf
  dsimp only
  repeat' split
  all_goals simp [↓touches_setStore, ↓touches_storeDrop]

theorem touches_commitHeld (y : Sys) (x : Nat) (fr : Nat) (line : Nat) (col : Nat) (h : Held) (hs : ∀ p ∈ [Facet.log, .stores], p ∈ fs) : Touches fs w (Sys.commitHeld y x fr line col h) ↔ Touches fs w y := by
  refine Touches.peel (gs := [Facet.log, .stores]) ?_ hs
  unfold Sys.commitHeld
  dsimp only
  repeat' split
  all_goals simp (maxDischargeDepth := 7) [↓touches_openBuf, ↓touches_setStore]

theorem touches_groupFinished (y : Sys) (t : Nat) (x : Nat) (fr : Nat) (k : Nat) (j : Nat) (hs : ∀ p ∈ [Facet.frames, .troupes], p ∈ fs) : Touches fs w (Sys.groupFinished y t x fr k j) ↔ Touches fs w y := by
  refine Touches.peel (gs := [Facet.frames, .troupes]) ?_ hs
  unfold Sys.groupFinished
  simp [↓touches_freeDone, ↓touches_sets]

theorem touches_shareGroup (y : Sys) (h : Halted) (hs : ∀ p ∈ [Facet.tx], p ∈ fs) : Touches fs x (Sys.shareGroup y h) ↔ Touches fs x y := by
  refine Touches.peel (gs := [Facet.tx]) ?_ hs
  unfold Sys.shareGroup
  simp (maxDischargeDepth := 7) [↓touches_primitives, ↓touches_foldl]

theorem touches_commitGroup (y : Sys) (t : Nat) (h : Halted) (hs : ∀ p ∈ [Facet.tx, .log, .frames, .troupes, .stores], p ∈ fs) : Touches fs x (Sys.commitGroup y t h) ↔ Touches fs x y := by
  refine Touches.peel (gs := [Facet.tx, .log, .frames, .troupes, .stores]) ?_ hs
  unfold Sys.commitGroup
  dsimp only
  repeat' split
  all_goals simp (maxDischargeDepth := 7) [↓touches_commitHeld, ↓touches_groupFinished, ↓touches_shareGroup, ↓touches_sets, ↓touches_foldl]

theorem touches_forceReduced (y : Sys) (f : Frame) (hs : ∀ p ∈ [Facet.log, .frames, .ctxs], p ∈ fs) : Touches fs x (Sys.forceReduced y f) ↔ Touches fs x y := by
  refine Touches.peel (gs := [Facet.log, .frames, .ctxs]) ?_ hs
  unfold Sys.forceReduced
  simp [↓touches_primitives, ↓touches_sets]

end Sys2Proof.Machine
end

section
/-!
PROOFS. Which entries the operations of the model can write, from the callee to the caller: one lemma per operation, which peels it off a state.
-/

namespace Sys2Proof.Machine

variable {ps : List Spot} {x w : Sys}

theorem writes_setStore (y : Sys) (st : Store) : Writes ps x (Sys.setStore y st) ↔ Writes ps x y := by
  refine Writes.peel (qs := []) ?_ (by simp)
  unfold Sys.setStore
  simp [↓writes_primitives, ↓writes_fields]

theorem writes_storeDrop (y : Sys) (st : Store) (fr : Nat) (hs : ∀ p ∈ [Spot.above 0x4140 12], p ∈ ps) : Writes ps x (Sys.storeDrop y st fr) ↔ Writes ps x y := by
  refine Writes.peel (qs := [Spot.above 0x4140 12]) ?_ hs
  unfold Sys.storeDrop
  simp (maxDischargeDepth := 7) [↓writes_primitives, covered_above, ↓writes_setStore, ↓writes_foldl]

theorem writes_openBuf (y : Sys) (x : Nat) (n : Nat) (fr : Nat) (hs : ∀ p ∈ [Spot.above 0x4140 12], p ∈ ps) : Writes ps w (Sys.openBuf y x n fr) ↔ Writes ps w y := by
  refine Writes.peel (qs := [Spot.above 0x4140 12]) ?_ hs
  unfold Sys.openBuf
  dsimp only
  repeat' split
  all_goals simp [↓writes_setStore, ↓writes_storeDrop]

theorem writes_commitHeld (y : Sys) (x : Nat) (fr : Nat) (line : Nat) (col : Nat) (h : Held) (hs : ∀ p ∈ [Spot.above 0x4140 12], p ∈ ps) : Writes ps w (Sys.commitHeld y x fr line col h) ↔ Writes ps w y := by
  refine Writes.peel (qs := [Spot.above 0x4140 12]) ?_ hs
  unfold Sys.commitHeld
  dsimp only
  repeat' split
  all_goals simp (maxDischargeDepth := 7) [↓writes_openBuf, ↓writes_setStore]

theorem writes_groupFinished (y : Sys) (t : Nat) (x : Nat) (fr : Nat) (k : Nat) (j : Nat) : Writes ps w (Sys.groupFinished y t x fr k j) ↔ Writes ps w y := by
  refine Writes.peel (qs := []) ?_ (by simp)
  unfold Sys.groupFinished
  simp [↓writes_freeDone, ↓writes_sets]

theorem writes_shareGroup (y : Sys) (h : Halted) : Writes ps x (Sys.shareGroup y h) ↔ Writes ps x y := by
  refine Writes.peel (qs := []) ?_ (by simp)
  unfold Sys.shareGroup
  simp (maxDischargeDepth := 7) [↓writes_primitives, ↓writes_foldl]

theorem writes_commitGroup (y : Sys) (t : Nat) (h : Halted) (hs : ∀ p ∈ [Spot.above 0x4140 12], p ∈ ps) : Writes ps x (Sys.commitGroup y t h) ↔ Writes ps x y := by
  refine Writes.peel (qs := [Spot.above 0x4140 12]) ?_ hs
  unfold Sys.commitGroup
  dsimp only
  repeat' split
  all_goals simp (maxDischargeDepth := 7) [↓writes_commitHeld, ↓writes_groupFinished, ↓writes_shareGroup, ↓writes_sets, ↓writes_foldl]

theorem writes_drainHalted (y : Sys) (e : Nat) (hs : ∀ p ∈ [Spot.above 0x4140 12], p ∈ ps) : Writes ps x (Sys.drainHalted y e) ↔ Writes ps x y := by
  refine Writes.peel (qs := [Spot.above 0x4140 12]) ?_ hs
  unfold Sys.drainHalted
  simp (maxDischargeDepth := 7) [↓writes_commitGroup, ↓writes_sets, ↓writes_foldl]

theorem writes_abandonNum (y : Sys) (x : Nat) (n : Nat) (hs : ∀ p ∈ [Spot.above 0x4140 10, .above 0x4140 11, .above 0x4160 5, .above 0x4160 6, .at 0x1311 3, .at 0x2001 9, .at 0x2201 9], p ∈ ps) : Writes ps w (Sys.abandonNum y x n) ↔ Writes ps w y := by
  refine Writes.peel (qs := [Spot.above 0x4140 10, .above 0x4140 11, .above 0x4160 5, .above 0x4160 6, .at 0x1311 3, .at 0x2001 9, .at 0x2201 9]) ?_ hs
  unfold Sys.abandonNum
  repeat' split
  all_goals simp [↓writes_abandonTell]

theorem writes_forceReduced (y : Sys) (f : Frame) (hs : ∀ p ∈ [Spot.above 0x3800 7], p ∈ ps) : Writes ps x (Sys.forceReduced y f) ↔ Writes ps x y := by
  refine Writes.peel (qs := [Spot.above 0x3800 7]) ?_ hs
  unfold Sys.forceReduced
  simp [↓writes_primitives, covered_above, ↓writes_sets]

end Sys2Proof.Machine
end

section
/-!
PROOFS. Control instructions, and the dispatch, end and time limit of groups (O44).
-/

namespace Sys2Proof.Machine

/-! ## Issue -/

theorem Engine.lutPending_nil (g : Engine) : g.lutPending [] = false := by
  rw [Engine.lutPending, List.any_eq_false]
  intro q _
  cases q.kind <;> simp

/-- An instruction that names no register issues at once. -/
theorem Engine.issueAt_free (g : Engine) {n : Need} (hsrcs : n.srcs = []) (hdsts : n.dsts = []) (htrans : n.trans = false) : g.issueAt n = g.slot := by
  simp [Engine.issueAt, hsrcs, hdsts, htrans]

theorem advances_setEngine (s : State) (e : Nat) (h : Engine) (hpc : h.pc = (s.sys.engine e).next.pc) (hloops : h.loops = (s.sys.engine e).next.loops)
    (hslot : (s.sys.engine e).slot < h.slot) (hbusy : h.busy = true) : Advances e s { s with sys := s.sys.setEngine e h } := by
  have hother (j : Nat) (hj : j ≠ e) : (s.sys.setEngine e h).engine j = s.sys.engine j := by rw [Sys.engine_setEngine, if_neg hj]
  rw [Advances]
  dsimp only
  rw [Sys.engine_setEngine_same]
  exact ⟨hpc, hloops, hslot, hbusy, hother, rfl, rfl, by simp⟩

/-- What an instruction that moves control leaves: the engine as its effect has it, at a later slot. -/
theorem completes_control {s : State} {e : Nat} {n : Need} {c : Instr} {f : Engine → Engine} {P : Engine → Prop}
    (hexec : Runs c s (s.sys.control1 e n f)) (hbusy : (s.sys.engine e).busy = true) (htime : InTime s e) (hhold : n.hold ≤ 4)
    (hP : P ((s.sys.engine e).issue n f)) : Completes c s fun t => P (t.sys.engine e) ∧ Leaves [.engines] (only []) (only []) s t := by
  rw [Sys.control1, if_pos hbusy, Sys.ran_of_lt _ _ (slot_issue_lt n f htime hhold)] at hexec
  refine ⟨_, hexec, ?_, rfl, rfl, by simp⟩
  dsimp only
  rw [Sys.engine_setEngine_same]
  exact hP

/-! ## Branches, loops and calls -/

theorem br_jumps (s : State) (e : Fin 384) (off : BitVec 21) (hbusy : (s.sys.engine e.val).busy = true) (htime : InTime s e.val) :
    Completes (.br e off) s fun t =>
      let g := s.sys.engine e.val
      let h := t.sys.engine e.val
      h.pc = jump g.pc off ∧ h.slot = g.slot + 2 ∧ h.loops = g.loops ∧ h.calls = g.calls ∧ g.keepsV h ∧ g.keepsS h ∧ g.keepsP h ∧
      Leaves [.engines] (only []) (only []) s t := by
  let g := s.sys.engine e.val
  have hslot : (g.issue ⟨[], [], 0, none, 2, false⟩ fun g => { g with pc := jump g.pc off }).slot = g.slot + 2 :=
    congrArg (· + 2) (g.issueAt_free (n := ⟨[], [], 0, none, 2, false⟩) rfl rfl rfl)
  obtain ⟨t, hexec, ⟨hpc, hslot, hloops, hcalls, hv, hs, hp⟩, hleaves⟩ := completes_control (P := fun h => h.pc = jump g.pc off ∧ h.slot = g.slot + 2 ∧
      h.loops = g.loops ∧ h.calls = g.calls ∧ g.keepsV h ∧ g.keepsS h ∧ g.keepsP h) (exec_br ..) hbusy htime (by simp)
    ⟨rfl, hslot, rfl, rfl, fun _ _ _ => rfl, fun _ _ => rfl, fun _ => rfl⟩
  exact ⟨t, hexec, hpc, hslot, hloops, hcalls, hv, hs, hp, hleaves⟩

theorem brp_branches (s : State) (e : Fin 384) (pr : Fin 8) (m : BranchMode) (off : BitVec 21) (h : Ready s e.val [(fileP, pr.val), (fileP, 1)]) :
    Completes (.brp e pr m off) s fun t =>
      let g := s.sys.engine e.val
      (t.sys.engine e.val).pc = (if g.branches pr.val m then jump g.pc off else g.next.pc) ∧ g.keepsV (t.sys.engine e.val) ∧
      g.keepsS (t.sys.engine e.val) ∧ g.keepsP (t.sys.engine e.val) ∧ Leaves [.engines] (only []) (only []) s t := by
  let g := s.sys.engine e.val
  by_cases hbranch : g.branches pr.val m = true
  · have hexec : Runs (.brp e pr m off) s (s.sys.control1 e.val ⟨[(fileP, pr.val), (fileP, 1)], [], 0, none, 2, false⟩
        fun g => { g with pc := jump g.pc off }) := by
      rw [Runs, exec_brp, execBrp, onSys_eq]
      dsimp only
      rw [if_pos hbranch]
    obtain ⟨t, hexec, ⟨hpc, hv, hs, hp⟩, hleaves⟩ := completes_control (P := fun h => h.pc = jump g.pc off ∧ g.keepsV h ∧ g.keepsS h ∧ g.keepsP h)
      hexec h.1 h.2.2 (by simp) ⟨rfl, fun _ _ _ => rfl, fun _ _ => rfl, fun _ => rfl⟩
    exact ⟨t, hexec, hpc.trans (if_pos hbranch).symm, hv, hs, hp, hleaves⟩
  · have hexec : exec (.brp e pr m off) s = onEngine s e.val ⟨[(fileP, pr.val), (fileP, 1)], [], 0, none, 1, false⟩ id := by
      rw [exec_brp, execBrp, onEngine, onSys_eq, onSys_eq]
      dsimp only
      rw [if_neg hbranch]
    obtain ⟨t, hexec, hadv, hv, hs, hp⟩ := completes_onEngine (P := fun h => g.keepsV h ∧ g.keepsS h ∧ g.keepsP h)
      hexec h (.inl rfl) (by simp) ⟨rfl, rfl, rfl⟩ ⟨fun _ _ _ => rfl, fun _ _ => rfl, fun _ => rfl⟩
    obtain ⟨hpc, -, -, -, -, hleaves⟩ := hadv
    exact ⟨t, hexec, hpc.trans (if_neg hbranch).symm, hv, hs, hp, hleaves⟩

theorem loop_enters (s : State) (e : Fin 384) (c : Fin 16) (len : BitVec 12) :
    let g := s.sys.engine e.val
    g.busy = true → InTime s e.val → g.rs c.val ≠ 0 → g.loops.length < 4 → Completes (.loop e c len) s fun t =>
      (t.sys.engine e.val).pc = g.pc + 1 ∧ (t.sys.engine e.val).loops = ⟨g.pc + 1, g.pc + 1 + len.toNat, (g.rs c.val).toNat⟩ :: g.loops ∧
      Leaves [.engines] (only []) (only []) s t := by
  intro g hbusy htime hcount hroom
  have hn : (g.rs c.val).toNat ≠ 0 := fun h => hcount (BitVec.eq_of_toNat_eq h)
  have hexec : Runs (.loop e c len) s (s.sys.control1 e.val ⟨[(fileS, c.val)], [], 0, none, 1, false⟩ fun h =>
      { h with pc := h.pc + 1, loops := ⟨h.pc + 1, h.pc + 1 + len.toNat, (g.rs c.val).toNat⟩ :: h.loops }) := by
    rw [Runs, exec_loop, execLoop, onSys_eq]
    dsimp only
    rw [hbusy, Bool.not_true, if_neg Bool.false_ne_true, if_neg hn, if_neg (Nat.not_le.2 hroom)]
  obtain ⟨t, hexec, ⟨hpc, hloops⟩, hleaves⟩ := completes_control (P := fun h => h.pc = g.pc + 1 ∧
    h.loops = ⟨g.pc + 1, g.pc + 1 + len.toNat, (g.rs c.val).toNat⟩ :: g.loops) hexec hbusy htime (by simp) ⟨rfl, rfl⟩
  exact ⟨t, hexec, hpc, hloops, hleaves⟩

theorem loop_skips (s : State) (e : Fin 384) (c : Fin 16) (len : BitVec 12) :
    let g := s.sys.engine e.val
    g.busy = true → InTime s e.val → g.rs c.val = 0 → g.loops = [] → Completes (.loop e c len) s fun t =>
      (t.sys.engine e.val).pc = g.pc + len.toNat + 1 ∧ (t.sys.engine e.val).loops = [] ∧ Leaves [.engines] (only []) (only []) s t := by
  intro g hbusy htime hcount hloops
  have hn : (g.rs c.val).toNat = 0 := congrArg BitVec.toNat hcount
  let skip (h : Engine) : Engine := Engine.next { h with pc := h.pc + len.toNat }
  have hexec : Runs (.loop e c len) s (s.sys.control1 e.val ⟨[(fileS, c.val)], [], 0, none, 2, false⟩ skip) := by
    rw [Runs, exec_loop, execLoop, onSys_eq]
    dsimp only
    rw [hbusy, Bool.not_true, if_neg Bool.false_ne_true, if_pos hn]
  have hskip : (skip g).pc = g.pc + len.toNat + 1 ∧ (skip g).loops = [] := by
    change (loopBack g.loops (g.pc + len.toNat + 1)).2 = _ ∧ (loopBack g.loops (g.pc + len.toNat + 1)).1 = _
    rw [hloops]
    exact ⟨rfl, rfl⟩
  obtain ⟨t, hexec, ⟨hpc, hloops⟩, hleaves⟩ := completes_control (P := fun h => h.pc = g.pc + len.toNat + 1 ∧ h.loops = []) hexec hbusy htime
    (by simp) hskip
  exact ⟨t, hexec, hpc, hloops, hleaves⟩

theorem call_calls (s : State) (e : Fin 384) (off : BitVec 21) :
    let g := s.sys.engine e.val
    g.busy = true → InTime s e.val → g.calls.length < 8 → Completes (.call e off) s fun t =>
      (t.sys.engine e.val).pc = jump g.pc off ∧ (t.sys.engine e.val).calls = (g.pc + 1) :: g.calls ∧ Leaves [.engines] (only []) (only []) s t := by
  intro g hbusy htime hroom
  have hexec : Runs (.call e off) s (s.sys.control1 e.val ⟨[], [], 0, none, 2, false⟩ fun g =>
      { g with pc := jump g.pc off, calls := (g.pc + 1) :: g.calls }) := by
    rw [Runs, exec_call, execCall, onSys_eq]
    dsimp only
    rw [hbusy, Bool.true_and, decide_eq_false (Nat.not_le.2 hroom), if_neg Bool.false_ne_true]
  obtain ⟨t, hexec, ⟨hpc, hcalls⟩, hleaves⟩ := completes_control (P := fun h => h.pc = jump g.pc off ∧ h.calls = (g.pc + 1) :: g.calls) hexec hbusy htime
    (by simp) ⟨rfl, rfl⟩
  exact ⟨t, hexec, hpc, hcalls, hleaves⟩

theorem ret_returns (s : State) (e : Fin 384) (a : Nat) (r : List Nat) :
    let g := s.sys.engine e.val
    g.busy = true → InTime s e.val → g.calls = a :: r → Completes (.ret e) s fun t =>
      (t.sys.engine e.val).pc = (loopBack g.loops a).2 ∧ (t.sys.engine e.val).calls = r ∧ Leaves [.engines] (only []) (only []) s t := by
  intro g hbusy htime hcalls
  have hexec : Runs (.ret e) s (s.sys.control1 e.val ⟨[], [], 0, none, 2, false⟩ fun g =>
      { g with pc := (loopBack g.loops (g.calls.headD 0)).2, loops := (loopBack g.loops (g.calls.headD 0)).1, calls := g.calls.drop 1 }) := by
    rw [Runs, exec_ret, execRet, onSys_eq]
    dsimp only
    rw [hbusy, Bool.true_and, hcalls, List.isEmpty_cons, if_neg Bool.false_ne_true]
  have heffect : (loopBack g.loops (g.calls.headD 0)).2 = (loopBack g.loops a).2 ∧ g.calls.drop 1 = r := by
    rw [hcalls]
    exact ⟨rfl, rfl⟩
  obtain ⟨t, hexec, ⟨hpc, hcalls⟩, hleaves⟩ := completes_control (P := fun h => h.pc = (loopBack g.loops a).2 ∧ h.calls = r) hexec hbusy htime
    (by simp) heffect
  exact ⟨t, hexec, hpc, hcalls, hleaves⟩

/-! ## Waiting -/

theorem le_foldl_slots (l : List Due) (a : Nat) : a ≤ l.foldl (fun t d => max t d.slot) a ∧ ∀ d ∈ l, d.slot ≤ l.foldl (fun t d => max t d.slot) a := by
  induction l generalizing a with
  | nil => simp
  | cons d l ih =>
    obtain ⟨hacc, hall⟩ := ih (max a d.slot)
    refine ⟨(Nat.le_max_left ..).trans hacc, fun b hb => ?_⟩
    rcases List.mem_cons.1 hb with rfl | hb
    · exact (Nat.le_max_right ..).trans hacc
    · exact hall b hb

theorem foldl_slots_lt {l : List Due} {a b : Nat} (ha : a < b) (h : ∀ d ∈ l, d.slot < b) : l.foldl (fun t d => max t d.slot) a < b := by
  induction l generalizing a with
  | nil => exact ha
  | cons d l ih => exact ih (Nat.max_lt.2 ⟨ha, h d (by simp)⟩) fun d hd => h d (by simp [hd])

/-- The classes of results that a mask names (R363). -/
def inMask (m : BitVec 4) (c : WaitClass) : Bool :=
  match c with
  | .load => m.getLsbD 0
  | .pixel => m.getLsbD 1
  | .lut => m.getLsbD 2
  | .trans => m.getLsbD 3

/-- The slot at which the results of the classes are all there. -/
def Engine.awaited (g : Engine) (m : BitVec 4) : Nat := (g.due.filter fun d => d.cls.any (inMask m)).foldl (fun t d => max t d.slot) g.slot

theorem waitFor_waits {s : State} {e : Nat} {m : BitVec 4} (hbusy : (s.sys.engine e).busy = true) (htime : InTime s e)
    (hreqs : m.getLsbD 2 = false ∨ (s.sys.engine e).reqs = []) :
    s.sys.waitFor e m = s.sys.setEngine e (Engine.next { s.sys.engine e with slot := (s.sys.engine e).awaited m + 1 }) := by
  obtain ⟨hslot, -, hdue⟩ := htime
  have hlt : (s.sys.engine e).awaited m < 65532 :=
    foldl_slots_lt (by omega) fun d hd => by have := hdue d (List.mem_filter.1 hd).1; omega
  have hnone : (m.getLsbD 2 && !(s.sys.engine e).reqs.isEmpty) = false := by
    rcases hreqs with h | h
    · rw [h, Bool.false_and]
    · rw [h, List.isEmpty_nil, Bool.not_true, Bool.and_false]
  rw [Sys.waitFor]
  refine (if_neg (by simp [hbusy])).trans ?_
  refine (if_neg (by rw [hnone]; exact Bool.false_ne_true)).trans ?_
  refine Sys.ran_of_lt _ e (g := Engine.next { s.sys.engine e with slot := (s.sys.engine e).awaited m + 1 }) ?_
  change (s.sys.engine e).awaited m + 1 < 65536
  omega

theorem wait_waits (s : State) (e : Fin 384) (c : Instr) (m : BitVec 4) :
    let g := s.sys.engine e.val
    c = .sync e ∧ m = 0xF ∨ c = .wait e m → g.busy = true → InTime s e.val → (m.getLsbD 2 = false ∨ g.reqs = []) →
    Completes c s fun t => Advances e.val s t ∧ g.keeps (t.sys.engine e.val) ∧ g.keepsV (t.sys.engine e.val) ∧ g.keepsS (t.sys.engine e.val) ∧
      g.keepsP (t.sys.engine e.val) ∧ (m = 0xF → ∀ d ∈ g.due, d.cls.isSome = true → d.slot < (t.sys.engine e.val).slot) := by
  intro g hc hbusy htime hreqs
  have hexec : Runs c s (s.sys.waitFor e.val m) := by
    rcases hc with ⟨rfl, rfl⟩ | rfl
    · exact exec_sync ..
    · exact exec_wait ..
  rw [waitFor_waits hbusy htime hreqs] at hexec
  have hle := le_foldl_slots (g.due.filter fun d => d.cls.any (inMask m)) g.slot
  have hall (hm : m = 0xF) (d : Due) (hd : d ∈ g.due) (hcls : d.cls.isSome = true) : d.slot < g.awaited m + 1 := by
    refine Nat.lt_succ_of_le (hle.2 d (List.mem_filter.2 ⟨hd, ?_⟩))
    obtain ⟨c, hc⟩ := Option.isSome_iff_exists.1 hcls
    rw [hc, hm]
    cases c <;> rfl
  have hadv := advances_setEngine s e.val (Engine.next { g with slot := g.awaited m + 1 }) rfl rfl (Nat.lt_succ_of_le hle.1) hbusy
  refine ⟨_, hexec, hadv, ?_⟩
  dsimp only
  rw [Sys.engine_setEngine_same]
  exact ⟨⟨rfl, rfl, rfl, rfl, rfl, rfl⟩, fun _ _ _ => rfl, fun _ _ => rfl, fun _ => rfl, hall⟩

/-! ## The end of a group -/

/-- The halted groups that await nothing leave the engine, which is otherwise as it was; counters of the Troupe are not touched. -/
theorem Sys.engine_drainHalted (y : Sys) (e : Nat) : (y.drainHalted e).engine e =
    { y.engine e with halted := (y.engine e).halted.filter fun h => !h.ready,
                      spent := (y.engine e).spent ++ ((y.engine e).halted.filter Halted.ready).flatMap (·.reqs) } := by
  let z := y.setEngine e { y.engine e with halted := (y.engine e).halted.filter fun h => !h.ready,
                                            spent := (y.engine e).spent ++ ((y.engine e).halted.filter Halted.ready).flatMap (·.reqs) }
  have h : Touches [.tx, .log, .frames, .troupes, .stores] z (y.drainHalted e) :=
    (touches_foldl _ _ fun y h _ => (touches_commitGroup y (e / 16) h (fun _ => id)).2 (.refl y)).2 (.refl z)
  have heng : z.engines = (y.drainHalted e).engines := h.facet .engines (by simp) (by simp)
  rw [Sys.engine, ← heng]
  exact Sys.engine_setEngine_same ..

theorem Sys.writes_drainHalted (y : Sys) (e : Nat) : Writes [.above 0x4140 12] y (y.drainHalted e) :=
  (Sys2Proof.Machine.writes_drainHalted y e (fun _ => id)).2 (.refl y)

/-- What a halting engine hands over. -/
def Engine.haltedGroup (g : Engine) : Halted :=
  { ctx := g.ctx, frame := g.frame, stripe := g.stripe, seg := g.seg, reduced := g.reduced, binding := g.binding, col := g.col, line := g.line,
    lanes := g.lanes, slots := g.slot + 1 - g.copy, outs := g.outs, reqs := g.reqs }

theorem halt_ends (s : State) (e : Fin 384) (hbusy : (s.sys.engine e.val).busy = true) : Completes (.halt e) s fun t =>
      let g := s.sys.engine e.val
      (t.sys.engine e.val).busy = false ∧ (t.sys.engine e.val).calls = [] ∧ (t.sys.engine e.val).loops = [] ∧
      t.sys.rd (ent (0x3860 + e.val / 16) 3) = (s.sys.rd (ent (0x3860 + e.val / 16) 3) + 1) % 2 ^ 64 ∧
      t.sys.rd (ent (0x3860 + e.val / 16) 4) = (s.sys.rd (ent (0x3860 + e.val / 16) 4) + (g.slot + 1)) % 2 ^ 64 ∧ t.otp = s.otp := by
  let g := s.sys.engine e.val
  let k := ent (0x3860 + e.val / 16)
  let y := ((s.sys.inc64 (k 3) 1).inc64 (k 4) (g.slot + 1)).inc64 (k 5) g.stalls
  let z := y.setEngine e.val (Engine.idle { g with reqs := [], halted := g.halted ++ [g.haltedGroup] })
  have hexec : Runs (.halt e) s (z.drainHalted e.val) := by
    rw [Runs, exec_halt, execHalt, onSys_eq]
    dsimp only
    rw [hbusy, Bool.not_true, if_neg Bool.false_ne_true]
    rfl
  have hrd (i : Nat) (hi : i < 256) : (z.drainHalted e.val).rd (k i) = y.rd (k i) :=
    (z.writes_drainHalted e.val).rd_eq (by simp [Spot.hits, k, ent]; omega)
  have hk {i j : Nat} (hne : i ≠ j) : k i ≠ k j := by simp [k, ent, hne]
  have heng : z.engine e.val = Engine.idle { g with reqs := [], halted := g.halted ++ [g.haltedGroup] } := Sys.engine_setEngine_same ..
  refine ⟨_, hexec, ?_⟩
  dsimp only
  rw [Sys.engine_drainHalted, heng]
  refine ⟨rfl, rfl, rfl, (hrd 3 (by decide)).trans ?_, (hrd 4 (by decide)).trans ?_, rfl⟩
  · simp only [y, Sys.inc64_eq, Sys.rd_wr, if_neg (hk (show 3 ≠ 5 by decide)), if_neg (hk (show 3 ≠ 4 by decide)), if_true]
    rfl
  · simp only [y, Sys.inc64_eq, Sys.rd_wr, if_neg (hk (show 4 ≠ 5 by decide)), if_neg (hk (show 4 ≠ 3 by decide)), if_true]
    rfl

theorem nop_advances (s : State) (e : Fin 384) (hbusy : (s.sys.engine e.val).busy = true) (hslot : (s.sys.engine e.val).slot + 1 < 65536) :
    Completes (.nop e) s fun t => Advances e.val s t ∧ (s.sys.engine e.val).keeps (t.sys.engine e.val) ∧ (s.sys.engine e.val).keepsV (t.sys.engine e.val) ∧
      (s.sys.engine e.val).keepsS (t.sys.engine e.val) ∧ (s.sys.engine e.val).keepsP (t.sys.engine e.val) := by
  let n : Need := ⟨[], [], 1, none, 1, false⟩
  have hat : (s.sys.engine e.val).issueAt n = (s.sys.engine e.val).slot := Engine.issueAt_free _ rfl rfl rfl
  have hlt : (Engine.next ((s.sys.engine e.val).issue n id)).slot < 65536 := by
    change (s.sys.engine e.val).issueAt n + 1 < 65536
    omega
  have hexec : Runs (.nop e) s (s.sys.setEngine e.val (Engine.next ((s.sys.engine e.val).issue n id))) := by
    rw [Runs, exec_nop, execNop, onEngine, onSys_eq, Engine.run_eq _ _ _ hbusy (Engine.lutPending_nil _)]
    exact congrArg (fun z => Host.Outcome.next { s with sys := z }) (Sys.ran_of_lt _ _ hlt)
  refine ⟨_, hexec, advances_issue s e.val n id hbusy (Nat.le_refl 1) rfl rfl rfl, ?_⟩
  dsimp only
  rw [Sys.engine_setEngine_same]
  exact ⟨⟨rfl, rfl, rfl, rfl, rfl, rfl⟩, fun _ _ _ => rfl, fun _ _ => rfl, fun _ => rfl⟩

/-! ## Faults and the time limit -/

/-- A program fault frees its engine and counts once in the Troupe's faults. -/
theorem Sys.progFault_spec (y : Sys) (e : Nat) (kind : ProgFault) (hbusy : (y.engine e).busy = true) :
    ((y.progFault e kind).engine e).busy = false ∧ ((y.progFault e kind).engine e).outs = [] ∧
    (y.progFault e kind).rd (ent (0x3860 + e / 16) 9) = (y.rd (ent (0x3860 + e / 16) 9) + 1) % 2 ^ 32 := by
  let k := ent (0x3860 + e / 16) 9
  let a := (y.countSlots e).setEngine e (y.engine e).idle
  have ht : Touches [.tx, .log, .gov, .frames, .ctxs, .troupes, .stores, .channels, .links] a (y.progFault e kind) := by
    rw [Sys.progFault, hbusy, Bool.not_true, if_neg Bool.false_ne_true]
    dsimp only
    repeat' split
    all_goals simp [↓touches_primitives, ↓touches_abandonNum, ↓touches_forceReduced, ↓touches_groupFinished, ↓touches_sets, a]
  have hw : Writes [.above 0x3800 6, .above 0x3800 7, .above 0x4140 10, .above 0x4140 11, .above 0x4160 5, .above 0x4160 6, .at 0x1311 3, .at 0x2001 9,
      .at 0x2201 9] (a.inc k) (y.progFault e kind) := by
    rw [Sys.progFault, hbusy, Bool.not_true, if_neg Bool.false_ne_true]
    dsimp only
    repeat' split
    all_goals simp [↓writes_primitives, covered_above, ↓writes_abandonNum, ↓writes_forceReduced, ↓writes_groupFinished, ↓writes_sets, a, k]
  have heng : (y.progFault e kind).engine e = (y.engine e).idle := by
    rw [Sys.engine, ← show a.engines = (y.progFault e kind).engines from ht.facet .engines (by simp) (by simp)]
    exact Sys.engine_setEngine_same ..
  have hcount : a.rd k = y.rd k := by
    simp [a, Sys.countSlots, k, ent]
  rw [heng]
  refine ⟨rfl, rfl, (hw.rd_eq (by simp [Spot.hits, ent]; omega)).trans ?_⟩
  rw [Sys.inc_eq, Sys.rd_wr, if_pos rfl, hcount]

/-- A group whose clock is put past the limit faults. -/
theorem Sys.fault_of_late (y : Sys) (e : Nat) (g : Engine) (kind : ProgFault) (hbusy : g.busy = true) :
    let z := (y.setEngine e g).progFault e kind
    (z.engine e).busy = false ∧ (z.engine e).outs = [] ∧ z.rd (ent (0x3860 + e / 16) 9) = (y.rd (ent (0x3860 + e / 16) 9) + 1) % 2 ^ 32 := by
  have h := (y.setEngine e g).progFault_spec e kind (by rw [Sys.engine_setEngine_same]; exact hbusy)
  rwa [Sys.rd_setEngine] at h

theorem nop_faults (s : State) (e : Fin 384) (hbusy : (s.sys.engine e.val).busy = true) (hslot : 65535 ≤ (s.sys.engine e.val).slot) :
    Completes (.nop e) s fun t => (t.sys.engine e.val).busy = false ∧ (t.sys.engine e.val).outs = [] ∧
      t.sys.rd (ent (0x3860 + e.val / 16) 9) = (s.sys.rd (ent (0x3860 + e.val / 16) 9) + 1) % 2 ^ 32 ∧ t.otp = s.otp ∧ t.pending = s.pending := by
  let n : Need := ⟨[], [], 1, none, 1, false⟩
  let h := Engine.next ((s.sys.engine e.val).issue n id)
  have hat : (s.sys.engine e.val).issueAt n = (s.sys.engine e.val).slot := Engine.issueAt_free _ rfl rfl rfl
  have hlate : 65536 ≤ h.slot := by
    change 65536 ≤ (s.sys.engine e.val).issueAt n + 1
    omega
  have hexec : Runs (.nop e) s ((s.sys.setEngine e.val h).progFault e.val .timeout) := by
    rw [Runs, exec_nop, execNop, onEngine, onSys_eq, Engine.run_eq _ _ _ hbusy (Engine.lutPending_nil _)]
    refine congrArg (fun z => Host.Outcome.next { s with sys := z }) (if_pos ?_)
    rw [Bool.and_eq_true, decide_eq_true_eq]
    exact ⟨hbusy, hlate⟩
  obtain ⟨hfree, houts, hcount⟩ := s.sys.fault_of_late e.val h .timeout hbusy
  exact ⟨_, hexec, hfree, houts, hcount, rfl, rfl⟩

theorem engineGroupTimeout_faults (s : State) (e : Fin 384) (hbusy : (s.sys.engine e.val).busy = true) :
    Completes (.engineGroupTimeout e) s fun t =>
      (t.sys.engine e.val).busy = false ∧ (t.sys.engine e.val).outs = [] ∧
      t.sys.rd (ent (0x3860 + e.val / 16) 9) = (s.sys.rd (ent (0x3860 + e.val / 16) 9) + 1) % 2 ^ 32 ∧ t.otp = s.otp := by
  let g := s.sys.engine e.val
  let h := { g with slot := max g.slot 65536, stalls := g.stalls + (65536 - g.slot) }
  have hexec : Runs (.engineGroupTimeout e) s ((s.sys.setEngine e.val h).progFault e.val .timeout) := by
    rw [Runs, exec_engineGroupTimeout, execEngineGroupTimeout, onSys_eq]
    dsimp only
    rw [if_pos hbusy]
  obtain ⟨hfree, houts, hcount⟩ := s.sys.fault_of_late e.val h .timeout hbusy
  exact ⟨_, hexec, hfree, houts, hcount, rfl⟩

/-! ## Dispatch -/

/-- The registers S0 to S15 with which a group begins (R338). -/
def Frame.groupRegs (f : Frame) (n col line : Nat) (reduced : Bool) : List W32 :=
  let img := f.gen.image (f.gen.lookSlot f.ctx)
  let word (k : Nat) : W32 := if 4 * k < imgParam img then BitVec.ofNat 32 (rdLe f.gen.param (4 * k) 4) else 0
  (List.range 12).map word ++
    [BitVec.ofNat 32 col, BitVec.ofNat 32 line, BitVec.ofNat 32 f.num, BitVec.ofNat 32 (n + 16 * f.ctx + (if reduced then 256 else 0))]

/-- An engine that has taken a group of a segment buffer. -/
def Engine.dispatched (g : Engine) (f : Frame) (b : SegBuf) (n col line lanes seed : Nat) : Engine :=
  let reduced := match f.stripe? b.stripe with | some st => st.reduced | none => false
  let img := f.gen.image (f.gen.lookSlot f.ctx)
  let copy := if g.copied = some (f.ctx, f.num) then 0 else (imgParam img + 63) / 64
  { g with busy := true, ctx := f.ctx, frame := f.num, binding := n, reduced := reduced, stripe := b.stripe, seg := b.seg, col := col,
           line := line, lanes := lanes, pc := ((imgEntry img (if reduced then 1 else 0) n).map (·.1)).getD 0,
           s := f.groupRegs n col line reduced, v := [], p := [(1, BitVec.ofNat 16 (2 ^ lanes - 1))], entrySeed := seed, calls := [], loops := [],
           slot := copy, stalls := 0, due := [], transFree := 0, outs := [], writes := 0, reqs := [], copied := some (f.ctx, f.num), copy := copy,
           params := tset (fun _ => []) g.params (f.gen.lookSlot f.ctx) f.gen.param }

/-- A segment buffer that has given out its next group. -/
def SegBuf.gaveOne (c : SegBuf) : SegBuf :=
  match c.again with
  | _ :: r => { c with again := r }
  | [] => { c with started := c.started + 1 }

theorem engineGroupDispatch_starts (s : State) (e : Fin 384) (b : SegBuf) (n col line lanes : Nat) (f : Frame) :
    let g := s.sys.engine e.val
    g.busy = false → s.sys.engineIn e.val = true →
    ((s.sys.troupe (e.val / 16)).bufs.find? fun b => b.dispatched && (s.sys.nextGroup b).isSome &&
      (s.sys.frame? b.ctx b.frame).any fun f => decide (g.notBefore ≤ f.latch)) = some b →
    s.sys.nextGroup b = some (n, col, line, lanes) → s.sys.frame? b.ctx b.frame = some f →
    Completes (.engineGroupDispatch e) s fun t =>
      let h := t.sys.engine e.val
      h.busy = true ∧ h.ctx = f.ctx ∧ h.frame = f.num ∧ h.binding = n ∧ h.stripe = b.stripe ∧ h.seg = b.seg ∧ h.rs 12 = BitVec.ofNat 32 col ∧
      h.rs 13 = BitVec.ofNat 32 line ∧ h.rs 14 = BitVec.ofNat 32 f.num ∧ h.rp 1 = BitVec.ofNat 16 (2 ^ lanes - 1) ∧ h.calls = [] ∧ h.loops = [] ∧
      h.outs = [] ∧ (∀ j, j ≠ e.val → t.sys.engine j = s.sys.engine j) ∧ Leaves [.engines, .troupes] (only []) (only []) s t := by
  intro g hidle hin hbuf hgroup hframe
  let y := s.sys.onBuf (e.val / 16) b SegBuf.gaveOne
  let z := Sys.setEngine { y with seed := y.seed + 32768 } e.val (g.dispatched f b n col line lanes y.seed)
  have hexec : Runs (.engineGroupDispatch e) s z := by
    rw [Runs, exec_engineGroupDispatch, execEngineGroupDispatch, onSys_eq]
    dsimp only
    rw [hidle, hin, Bool.not_true, Bool.or_false, if_neg Bool.false_ne_true, hbuf]
    dsimp only
    rw [hgroup, hframe]
    rfl
  have hother (j : Nat) (hj : j ≠ e.val) : z.engine j = s.sys.engine j := by
    refine (Sys.engine_setEngine ..).trans ((if_neg hj).trans ?_)
    simp only [Sys.engine, y, Sys.onBuf, Sys.setTroupe_engines]
  have hsame : SameBut [.engines, .troupes] (only []) (only []) s.sys z := by
    refine SameBut.trans (b := y) (sameBut_setTroupe _ _ (by simp)) ?_
    exact .of_facets rfl rfl fun p hp => by cases p <;> first | rfl | exact absurd (by simp) hp
  have heng : z.engine e.val = g.dispatched f b n col line lanes y.seed := Sys.engine_setEngine_same ..
  refine ⟨_, hexec, ?_⟩
  dsimp only
  rw [heng]
  exact ⟨rfl, rfl, rfl, rfl, rfl, rfl, rfl, rfl, rfl, rfl, rfl, rfl, rfl, hother, rfl, rfl, hsame⟩

/-! ## Words -/

theorem instrOf_spells (e : Fin 384) : instrOf e 0x11234100 = some (.fmaS e 18 13 1 0 false) ∧ instrOf e 0x80308000 = some (.pixIn e 3 9 8 0 false) ∧
    instrOf e 0xC0000005 = some (.br e 5) ∧ instrOf e 0xDC000000 = some (.halt e) ∧ instrOf e 0xF8000000 = some (.nop e) ∧
    instrOf e 0 = none ∧ instrOf e 0xF8000001 = none ∧ instrOf e 0x11235100 = none :=
  ⟨rfl, rfl, rfl, rfl, rfl, rfl, rfl, rfl⟩

/-- Settles O44, clause by clause. -/
theorem controlInstructionsAndGroups : Obligations.ControlInstructionsAndGroups :=
  ⟨instrOf_spells, br_jumps, brp_branches, loop_enters, loop_skips, call_calls, ret_returns, wait_waits, halt_ends, nop_advances, nop_faults,
    engineGroupDispatch_starts, engineGroupTimeout_faults⟩

end Sys2Proof.Machine
end

section
/-!
PROOFS. Engines and Troupes are fenced and return; images and tables are loaded (O45).
-/

namespace Sys2Proof.Machine

variable {fs : List Facet} {nums blobs : Nat → Prop} {y z : Sys} {s : State}

/-! ## Engines -/

/-- The cause of an engine's fence, as event 0x0A02 has it. -/
def engineFaultCode : EngineFault → Nat
  | .instructionStore => 0
  | .localMemory => 1
  | .registerFile => 2

/-- The cause of a Troupe's fence, as event 0x0A03 has it. -/
def troupeFaultCode : TroupeFault → Nat
  | .stripeMemory => 0
  | .tableMemory => 1
  | .outputPath => 2

/-- The groups that an engine's error takes from it: where each belongs, and the place in the frame at which it runs again. -/
def Engine.lostGroups (g : Engine) : List (Nat × Nat × Nat × Nat × Nat × Nat × Nat × Nat) :=
  (if g.busy then [(g.ctx, g.frame, g.stripe, g.seg, g.binding, g.col, g.line, g.lanes)] else []) ++
    g.halted.map fun h => (h.ctx, h.frame, h.stripe, h.seg, h.binding, h.col, h.line, h.lanes)

/-- A segment buffer whose lost groups run again. -/
def SegBuf.runAgain (b : SegBuf) (lost : List (Nat × Nat × Nat × Nat × Nat × Nat × Nat × Nat)) : SegBuf :=
  { b with again := b.again ++ lost.filterMap fun q =>
      if b.ctx == q.1 && b.frame == q.2.1 && b.stripe == q.2.2.1 && b.seg == q.2.2.2.1 then some q.2.2.2.2 else none }

/-- A Troupe without one of its engines. -/
def Troupe.without (u : Troupe) (k : Nat) (lost : List (Nat × Nat × Nat × Nat × Nat × Nat × Nat × Nat)) : Troupe :=
  { u with enginesReturning := u.enginesReturning.filter (· != k), bufs := u.bufs.map fun b => b.runAgain lost }

/-- An engine leaves its Troupe, which counts it, and the event tells it (R369). -/
def Sys.engineOut (y : Sys) (e : Nat) (c : EngineFault) : Sys :=
  let t := e / 16
  let g := y.engine e
  let z := ((((if g.busy then y.countSlots e else y).wrBit (ent (0x3860 + t) 2) (e % 16) false).inc (ent (0x3860 + t) 0x0A)).setEngine e
    { g.idle with halted := [], copied := none })
  (z.setTroupe t ((z.troupe t).without (e % 16) g.lostGroups)).raise 0x0A02 t
    (ev [(0, 2, e), (2, 1, engineFaultCode c), (3, 1, if g.busy then g.ctx else 0xFF), (4, 4, if g.busy then g.frame else 0)])

theorem Sys.engine_free (y : Sys) (w e : Nat) : (y.free w).2.engine e = y.engine e := rfl
theorem Sys.rd_free (y : Sys) (w k : Nat) : (y.free w).2.rd k = y.rd k := rfl

theorem engineParityError_runs (s : State) (e : Fin 384) (c : EngineFault) :
    let y := s.sys.engineOut e.val c
    Runs (.engineParityError e c) s (if popcount 16 (y.rd (ent (0x3860 + e.val / 16) 2)) < 8 ∧ y.troupeRun (e.val / 16) then
      (y.free 8).2.fenceTroupe (e.val / 16) (y.free 8).1 else y) := by
  cases c <;> rfl

/-- What the fence of one engine leaves. -/
theorem Sys.engineOut_spec (y : Sys) (e : Nat) (c : EngineFault) :
    let z := y.engineOut e c
    let t := e / 16
    SameBut [.engines, .troupes, .log] (only [ent (0x3860 + t) 2, ent (0x3860 + t) 4, ent (0x3860 + t) 5, ent (0x3860 + t) 0x0A]) (only []) y z ∧
    z.rd (ent (0x3860 + t) 2) = putBit (y.rd (ent (0x3860 + t) 2)) (e % 16) false ∧
    z.rd (ent (0x3860 + t) 0x0A) = (y.rd (ent (0x3860 + t) 0x0A) + 1) % 2 ^ 32 ∧ (z.engine e).busy = false := by
  intro z t
  refine ⟨?_, ?_, ?_, ?_⟩
  · simp only [z, Sys.engineOut]
    split
    · simp [Sys.countSlots, t]
    · simp [t]
  · simp only [z, Sys.engineOut]
    split
    · simp [Sys.countSlots, t, ent]
    · simp [t, ent]
  · simp only [z, Sys.engineOut]
    split
    · simp [Sys.countSlots, t, ent]
    · simp [t, ent]
  · have heng : z.engine e = { (y.engine e).idle with halted := [], copied := none } := by
      rw [Sys.engine, show z.engines = _ from Sys.raise_engines .., Sys.setTroupe_engines]
      exact Sys.engine_setEngine_same ..
    rw [heng]
    rfl

theorem Sys.troupeRun_congr {t : Nat} (hs : z.rd (ent (0x3860 + t) 1) = y.rd (ent (0x3860 + t) 1)) (hd : z.rd (ent (0x2720 + t) 1) = y.rd (ent (0x2720 + t) 1)) :
    z.troupeRun t = y.troupeRun t := by
  rw [Sys.troupeRun, Sys.troupeRun, Sys.domainRun, Sys.domainRun, hs, hd]

theorem Sys.troupeRun_engineOut (y : Sys) (e : Nat) (c : EngineFault) : (y.engineOut e c).troupeRun (e / 16) = y.troupeRun (e / 16) := by
  obtain ⟨hsame, -⟩ := y.engineOut_spec e c
  exact Sys.troupeRun_congr (hsame.2.1 _ (by simp [ent])) (hsame.2.1 _ (by simp [ent]; omega))

theorem popcount_putBit_false (w n i : Nat) : popcount w (putBit n i false) =
    if i ∈ (List.range w).filter n.testBit then popcount w n - 1 else popcount w n := by
  have hfilter : (List.range w).filter (putBit n i false).testBit = ((List.range w).filter n.testBit).erase i := by
    rw [(List.nodup_range.filter _).erase_eq_filter, List.filter_filter]
    refine List.filter_congr fun j _ => ?_
    rw [testBit_putBit]
    by_cases hj : j = i <;> simp [hj]
  exact (congrArg List.length hfilter).trans List.length_erase

theorem engineParityError_fences (s : State) (e : Fin 384) (c : EngineFault)
    (h : s.sys.troupeRun (e.val / 16) = false ∨ 8 < popcount 16 (s.sys.rd (ent (0x3860 + e.val / 16) 2)))
    (hidle : (s.sys.engine e.val).busy = false) (hhalted : (s.sys.engine e.val).halted = []) :
    let t := e.val / 16
    Runs (.engineParityError e c) s (Sys.raise
      (((((s.sys.wrBit (ent (0x3860 + t) 2) (e.val % 16) false).inc (ent (0x3860 + t) 0x0A)).setEngine e.val
        { (s.sys.engine e.val).idle with halted := [], copied := none })).setTroupe t { s.sys.troupe t with
          enginesReturning := (s.sys.troupe t).enginesReturning.filter (· != e.val % 16)
          bufs := (s.sys.troupe t).bufs.map fun b => { b with again := b.again ++ [] } })
      0x0A02 t (ev [(0, 2, e.val), (2, 1, engineFaultCode c), (3, 1, 0xFF), (4, 4, 0)])) := by
  intro t
  obtain ⟨-, hbits, -⟩ := s.sys.engineOut_spec e.val c
  have hruns := engineParityError_runs s e c
  dsimp only at hruns
  rw [if_neg] at hruns
  · refine hruns.trans ?_
    rw [Sys.engineOut]
    dsimp only
    rw [Engine.lostGroups, hhalted, hidle]
    rfl
  · rintro ⟨hfew, hrun⟩
    rw [s.sys.troupeRun_engineOut e.val c] at hrun
    rw [hbits, popcount_putBit_false] at hfew
    rcases h with h | h
    · exact absurd (h.symm.trans hrun) Bool.false_ne_true
    · split at hfew <;> omega

theorem completes_fenceTroupe {s : State} {c : Instr} {y : Sys} {e t cause k n : Nat} (hexec : Runs c s (y.fenceTroupe t cause))
    (hbusy : (y.engine e).busy = false) (hcount : y.rd k = n) :
    Completes c s fun u => (∃ y cause, u.sys = Sys.fenceTroupe y t cause ∧ (y.engine e).busy = false ∧ y.rd k = n) ∧ u.otp = s.otp ∧
      u.pending = s.pending := by
  obtain ⟨z, hz⟩ : ∃ z, z = y.fenceTroupe t cause := ⟨_, rfl⟩
  rw [← hz] at hexec
  exact ⟨_, hexec, ⟨y, cause, hz, hbusy, hcount⟩, rfl, rfl⟩

theorem engineParityError_fencesTroupe (s : State) (e : Fin 384) (c : EngineFault) (hrun : s.sys.troupeRun (e.val / 16) = true)
    (hfew : popcount 16 (s.sys.rd (ent (0x3860 + e.val / 16) 2)) ≤ 8) (hin : (s.sys.rd (ent (0x3860 + e.val / 16) 2)).testBit (e.val % 16) = true) :
    Completes (.engineParityError e c) s fun t =>
      (∃ y cause, t.sys = Sys.fenceTroupe y (e.val / 16) cause ∧ (y.engine e.val).busy = false ∧
        y.rd (ent (0x3860 + e.val / 16) 0x0A) = (s.sys.rd (ent (0x3860 + e.val / 16) 0x0A) + 1) % 2 ^ 32) ∧ t.otp = s.otp ∧ t.pending = s.pending := by
  obtain ⟨-, hbits, hcount, hbusy⟩ := s.sys.engineOut_spec e.val c
  have hmem : e.val % 16 ∈ (List.range 16).filter (s.sys.rd (ent (0x3860 + e.val / 16) 2)).testBit :=
    List.mem_filter.2 ⟨List.mem_range.2 (Nat.mod_lt _ (by decide)), hin⟩
  have hpos : 0 < ((List.range 16).filter (s.sys.rd (ent (0x3860 + e.val / 16) 2)).testBit).length := List.length_pos_of_mem hmem
  change 0 < popcount 16 _ at hpos
  have hruns := engineParityError_runs s e c
  dsimp only at hruns
  have hless : popcount 16 ((s.sys.engineOut e.val c).rd (ent (0x3860 + e.val / 16) 2)) < 8 := by
    rw [hbits, popcount_putBit_false, if_pos hmem]
    omega
  rw [if_pos ⟨hless, (s.sys.troupeRun_engineOut e.val c).trans hrun⟩] at hruns
  exact completes_fenceTroupe hruns ((congrArg Engine.busy (Sys.engine_free ..)).trans hbusy) ((Sys.rd_free ..).trans hcount)

theorem engineRetestDone_none (s : State) (e : Fin 384) (passed : Bool) (h : s.sys.engineInTest e.val = false) : Runs (.engineRetestDone e passed) s s.sys := by
  rw [Runs, exec_engineRetestDone, execEngineRetestDone, onSys_eq]
  dsimp only
  rw [h, Bool.not_false, if_pos rfl]

theorem engineRetestDone_decides (s : State) (e : Fin 384) (passed : Bool) (h : s.sys.engineInTest e.val = true) (hroom : Room s) :
    Completes (.engineRetestDone e passed) s fun t =>
    (t.sys.troupe (e.val / 16)).enginesReturning =
      (s.sys.troupe (e.val / 16)).enginesReturning ++ (if passed then [e.val % 16] else []) ∧
    (t.sys.troupe (e.val / 16)).enginesFailed = (s.sys.troupe (e.val / 16)).enginesFailed ++ (if passed then [] else [e.val % 16]) ∧
    (∀ j, j ≠ e.val / 16 → t.sys.troupe j = s.sys.troupe j) ∧
    Logs s t 0x0A04 (e.val / 16) (ev [(1, 2, e.val), (3, 1, if passed then 0 else 1)]) ∧
    Leaves [.troupes, .log] (only []) (only []) s t := by
  let u := s.sys.troupe (e.val / 16)
  let v : Troupe := if passed then { u with enginesReturning := u.enginesReturning ++ [e.val % 16] }
    else { u with enginesFailed := u.enginesFailed ++ [e.val % 16] }
  let y := s.sys.setTroupe (e.val / 16) v
  have hexec : Runs (.engineRetestDone e passed) s (y.raise 0x0A04 (e.val / 16) (ev [(1, 2, e.val), (3, 1, if passed then 0 else 1)])) := by
    rw [Runs, exec_engineRetestDone, execEngineRetestDone, onSys_eq]
    dsimp only
    rw [h, Bool.not_true, if_neg Bool.false_ne_true]
  have htroupe (j : Nat) : (y.raise 0x0A04 (e.val / 16) (ev [(1, 2, e.val), (3, 1, if passed then 0 else 1)])).troupe j =
      if j = e.val / 16 then v else s.sys.troupe j := by
    rw [Sys.troupe, Sys.raise_troupes]
    exact Sys.troupe_setTroupe ..
  refine ⟨_, hexec, ?_, ?_, fun j hj => (htroupe j).trans (if_neg hj), Sys.log_raise _ _ _ _ hroom, rfl, rfl, ?_⟩
  · rw [htroupe, if_pos rfl]
    cases passed <;> simp [v, u]
  · rw [htroupe, if_pos rfl]
    cases passed <;> simp [v, u]
  · simp [y]

/-! ## Troupes -/

theorem troupeParityError_counts (s : State) (q : Fin 24) (c : TroupeFault) (hout : s.sys.rd (ent (0x3860 + q.val) 1) ≠ 0)
    (hret : (s.sys.troupe q.val).returning = false) : Runs (.troupeParityError q c) s (s.sys.inc (ent (0x3860 + q.val) 0x0A)) := by
  have hne : ent (0x3860 + q.val) 1 ≠ ent (0x3860 + q.val) 0x0A := by simp [ent]
  rw [Runs, exec_troupeParityError]
  unfold execTroupeParityError
  rw [onSys_eq]
  dsimp only
  rw [Sys.inc_eq, Sys.rd_wr, if_neg hne, if_neg]
  rintro (h | h)
  · exact hout h
  · exact absurd (hret.symm.trans h) Bool.false_ne_true

theorem troupeParityError_fences (s : State) (q : Fin 24) (c : TroupeFault)
    (h : s.sys.rd (ent (0x3860 + q.val) 1) = 0 ∨ (s.sys.troupe q.val).returning = true) : Runs (.troupeParityError q c) s
    (Sys.fenceTroupe (s.sys.inc (ent (0x3860 + q.val) 0x0A)) q.val (troupeFaultCode c)) := by
  have hne : ent (0x3860 + q.val) 1 ≠ ent (0x3860 + q.val) 0x0A := by simp [ent]
  rw [Runs, exec_troupeParityError]
  unfold execTroupeParityError
  rw [onSys_eq]
  dsimp only
  rw [Sys.inc_eq, Sys.rd_wr, if_neg hne]
  cases c <;> exact congrArg (fun z => Host.Outcome.next { s with sys := z }) (if_pos h)

theorem troupeRetestDone_none (s : State) (q : Fin 24) (passed : Bool) (h : s.sys.rd (ent (0x3860 + q.val) 1) = 0 ∨ s.sys.rd (ent (0x3860 + q.val) 1) = 3 ∨
    (s.sys.troupe q.val).returning = true) : Runs (.troupeRetestDone q passed) s s.sys := by
  rw [Runs, exec_troupeRetestDone, execTroupeRetestDone, onSys_eq, Sys.troupeRetested, if_pos h]

theorem troupeRetestDone_decides (s : State) (q : Fin 24) (passed : Bool) (hout : s.sys.rd (ent (0x3860 + q.val) 1) ≠ 0)
    (hfailed : s.sys.rd (ent (0x3860 + q.val) 1) ≠ 3) (hret : (s.sys.troupe q.val).returning = false) (hroom : Room s) :
    Completes (.troupeRetestDone q passed) s fun t =>
    t.sys.pages = (if passed then s.sys.pages.map fun p => if p.placed.contains q.val && !p.loaded.isEmpty then
      { p with loaded := (q.val :: p.loaded).eraseDups } else p else s.sys.pages) ∧
    t.sys.rd (ent (0x3860 + q.val) 1) = (if passed then 2 else 3) ∧
    t.sys.troupe q.val = { s.sys.troupe q.val with returning := passed } ∧ (∀ j, j ≠ q.val → t.sys.troupe j = s.sys.troupe j) ∧
    Logs s t 0x0A04 q.val (ev [(0, 1, 1), (1, 2, q.val), (3, 1, if passed then 0 else 1)]) ∧
    Leaves [.troupes, .pages, .log] (only [ent (0x3860 + q.val) 1]) (only []) s t := by
  let pages := if passed then s.sys.pages.map fun p => if p.placed.contains q.val && !p.loaded.isEmpty then
      { p with loaded := (q.val :: p.loaded).eraseDups } else p else s.sys.pages
  let y : Sys := (Sys.wr { s.sys with pages := pages } (ent (0x3860 + q.val) 1) (if passed then 2 else 3)).setTroupe q.val
    { s.sys.troupe q.val with returning := passed }
  let z := y.raise 0x0A04 q.val (ev [(0, 1, 1), (1, 2, q.val), (3, 1, if passed then 0 else 1)])
  have hexec : Runs (.troupeRetestDone q passed) s z := by
    rw [Runs, exec_troupeRetestDone, execTroupeRetestDone, onSys_eq, Sys.troupeRetested, if_neg (by simp [hout, hfailed, hret])]
    cases passed <;> rfl
  have htroupe (j : Nat) : z.troupe j = if j = q.val then { s.sys.troupe q.val with returning := passed } else s.sys.troupe j := by
    rw [Sys.troupe, Sys.raise_troupes]
    exact Sys.troupe_setTroupe ..
  refine ⟨_, hexec, Sys.raise_pages .., ?_, (htroupe _).trans (if_pos rfl), fun j hj => (htroupe j).trans (if_neg hj), Sys.log_raise _ _ _ _ hroom,
    rfl, rfl, ?_⟩
  · simp [z, y]
  · refine SameBut.trans (b := { s.sys with pages := pages }) (.of_facets rfl rfl fun p hp => by cases p with | pages => simp at hp | _ => rfl) ?_
    simp [z, y]

/-! ## Images and tables -/

theorem imageLoadDone_tells (s : State) (i : Fin 16) (r : Resident) (hr : (s.sys.resident.find? fun r => r.slot == i.val && !r.loaded) = some r)
    (hroom : Room s) : Completes (.imageLoadDone i) s fun t =>
      t.sys.resident = s.sys.resident.map (fun q => if q.slot = i.val then { q with loaded := true, since := none } else q) ∧
      (∀ (u : Nat) (f : Frame), r.since = some u → (s.sys.frames.find? fun f => f.gen.lookSlot f.ctx == i.val) = some f →
        Logs s t 0x0A07 f.ctx (ev [(0, 1, f.ctx), (1, 1, i.val), (4, 4, (s.sys.up - u) / 1000), (8, 4, f.num)])) ∧
      Leaves [.resident, .log] (only []) (only []) s t := by
  let y : Sys := { s.sys with resident := s.sys.resident.map fun q => if q.slot = i.val then { q with loaded := true, since := none } else q }
  have hsame : SameBut [.resident, .log] (only []) (only []) s.sys y := .of_facets rfl rfl fun p hp => by cases p with | resident => simp at hp | _ => rfl
  by_cases h : ∃ u f, r.since = some u ∧ (s.sys.frames.find? fun f => f.gen.lookSlot f.ctx == i.val) = some f
  · obtain ⟨u, f, hsince, hframe⟩ := h
    have hexec : Runs (.imageLoadDone i) s
        (y.raise 0x0A07 f.ctx (ev [(0, 1, f.ctx), (1, 1, i.val), (4, 4, (s.sys.up - u) / 1000), (8, 4, f.num)])) := by
      rw [Runs, exec_imageLoadDone, execImageLoadDone, onSys_eq]
      dsimp only
      rw [hr]
      dsimp only
      rw [hsince, hframe]
    refine ⟨_, hexec, Sys.raise_resident .., fun v g hv hg => ?_, rfl, rfl, hsame.trans (by simp)⟩
    obtain rfl := Option.some_inj.1 (hsince.symm.trans hv)
    obtain rfl := Option.some_inj.1 (hframe.symm.trans hg)
    exact Sys.log_raise y _ _ _ hroom
  · have hexec : Runs (.imageLoadDone i) s y := by
      rw [Runs, exec_imageLoadDone, execImageLoadDone, onSys_eq]
      dsimp only
      rw [hr]
      dsimp only
      split
      next u f hu hf => exact absurd ⟨u, f, hu, hf⟩ h
      next => rfl
    exact ⟨_, hexec, rfl, fun u f hu hf => absurd ⟨u, f, hu, hf⟩ h, rfl, rfl, hsame⟩

theorem Sys.tableWaited_spec (y : Sys) (e t t0 : Nat) :
    SameBut [.log] (only [ent (0x3860 + t) 0x0C]) (only []) y (y.tableWaited e t t0) := by
  unfold tableWaited
  split
  · simp
  · exact .refl y

theorem tableLoadDone_loads (s : State) (e : Fin 64) (p : PageTable)
    (hp : (s.sys.pages.find? fun p => p.entry == e.val && p.placed.any fun t => !p.loaded.contains t) = some p) :
    Completes (.tableLoadDone e) s fun t =>
      t.sys.pages = s.sys.pages.map (fun q => if q.entry = e.val then
        { q with loaded := p.placed, since := p.since.filter fun w => !p.placed.contains w.1 } else q) ∧
      (p.since = [] → Leaves [.pages] (only []) (only []) s t) ∧ t.otp = s.otp ∧ t.pending = s.pending := by
  let y : Sys := { s.sys with pages := s.sys.pages.map fun q => if q.entry = e.val then
    { q with loaded := p.placed, since := p.since.filter fun w => !p.placed.contains w.1 } else q }
  let waits := p.since.filter fun w => p.placed.contains w.1 && !p.loaded.contains w.1
  have hexec : Runs (.tableLoadDone e) s (waits.foldl (fun y w => y.tableWaited e.val w.1 w.2) y) := by
    rw [Runs, exec_tableLoadDone, execTableLoadDone, onSys_eq]
    dsimp only
    rw [hp]
  have hsame : SameBut [.pages] (only []) (only []) s.sys y := .of_facets rfl rfl fun p hp => by cases p with | pages => simp at hp | _ => rfl
  have hwaits : SameBut [.log] (fun _ => True) (only []) y (waits.foldl (fun y w => y.tableWaited e.val w.1 w.2) y) :=
    SameBut.foldl _ _ (fun z w _ => (z.tableWaited_spec e.val w.1 w.2).mono (by simp) (fun _ _ => trivial) (fun _ => id)) y
  refine ⟨_, hexec, (hwaits.1 .pages (by simp)).symm, fun hnone => ⟨rfl, rfl, ?_⟩, rfl, rfl⟩
  have hempty : waits = [] := by simp [waits, hnone]
  rw [hempty]
  exact hsame

/-! ## Resident images -/

theorem Sys.resident_showResident (y : Sys) : y.showResident.resident = y.resident :=
  ((sameBut_showResident (nums := fun _ => True) (fs := []) (blobs := only []) y trivial trivial trivial).1 .resident (by simp)).symm

theorem acting_keepResident (o : Otp) (y : Sys) (w : Writer) (i : Fin 16) (v : Bytes) :
    acting o y w (ent (0x3840 + i.val) 7) v = some (plainR (y.keepResident i.val (unLe v))) := by
  rw [acting_frame (by omega) (by decide)]
  unfold Sys.actFrame
  dsimp only
  rw [if_neg (by omega), if_neg (by omega), if_pos (by omega), Nat.add_sub_cancel_left]
  rfl

theorem isRwc_keepResident (i : Fin 16) : isRwc (ent (0x3840 + i.val) 7) = false := by
  revert i
  decide +kernel

theorem keepResidentWrite_drops (s : State) (w : Writer) (i : Fin 16) (ha : Admitted s w (ent (0x3840 + i.val) 7) (le 1 0)) :
    Completes (.keepResidentWrite w i 0) s fun t =>
      t.sys.rd (ent (0x3840 + i.val) 7) = 0 ∧ (∀ r ∈ t.sys.resident, r ∈ s.sys.resident) ∧ t.otp = s.otp ∧ t.pending = s.pending := by
  let k := ent (0x3840 + i.val) 7
  let y := (s.sys.wr k 0).dropResident
  have hsame : SameBut [.resident] (only [k, ent 0x3880 2, ent 0x3880 3, ent 0x3880 4]) (only []) s.sys y := by
    refine SameBut.trans (sameBut_wr _ k 0 (by simp)) ?_
    refine SameBut.trans ?_ (sameBut_showResident _ (by simp) (by simp) (by simp))
    exact .of_facets rfl rfl fun p hp => by cases p with | resident => simp at hp | _ => rfl
  obtain ⟨-, t, hexec, hfollow, hotp, hpending⟩ := acting_does (c := .keepResidentWrite w i 0) (p := True) rfl ha (isRwc_keepResident i)
    (.inr (.inr (.inl (by rw [ent_div _ (by decide)]; omega)))) (by unfold ent; omega) (acting_keepResident ..) fun _ =>
      ⟨rfl, congrArg Boot.due (hsame.1 .boot (by simp)).symm, congrArg Denval.saving (hsame.1 .den (by simp)).symm, trivial⟩
  have hrd : y.rd k = 0 := by
    refine (((sameBut_showResident (fs := []) (nums := only [ent 0x3880 2, ent 0x3880 3, ent 0x3880 4]) (blobs := only []) _ (by simp) (by simp) (by simp)).2.1
      k (by simp [k, ent]; omega)).trans ?_)
    exact (Sys.rd_wr ..).trans (if_pos rfl)
  have hresident : t.sys.resident = y.resident := (hfollow.same.1 .resident (by simp)).symm
  refine ⟨t, hexec, (hfollow.rd_eq ?_).trans hrd, fun r hr => ?_, hotp, hpending⟩
  · simp [followNums, ent]
    omega
  · rw [hresident, show y.resident = _ from Sys.resident_showResident _] at hr
    exact List.mem_of_mem_filter hr

theorem keepResidentWrite_keeps (s : State) (w : Writer) (i : Fin 16) (r : Resident) (ha : Admitted s w (ent (0x3840 + i.val) 7) (le 1 1))
    (hplace : s.sys.place i.val = some r) (hnone : s.sys.resident = []) : Completes (.keepResidentWrite w i 1) s fun t =>
    t.sys.rd (ent (0x3840 + i.val) 7) = 1 ∧ t.sys.resident = [r] ∧ r.slot = i.val ∧ t.sys.rd (ent 0x3880 4) = 2 ^ i.val ∧
    t.otp = s.otp ∧ t.pending = s.pending := by
  let k := ent (0x3840 + i.val) 7
  have himage : (s.sys.rdB (ent (0x3840 + i.val) 1)).isEmpty = false := by
    by_contra h
    rw [Bool.not_eq_false] at h
    simp [Sys.place, h] at hplace
  have hslot : r.slot = i.val := by
    unfold Sys.place at hplace
    dsimp only at hplace
    rw [himage, if_neg Bool.false_ne_true] at hplace
    split at hplace
    · split at hplace
      · rw [← Option.some_inj.1 hplace]
      · simp at hplace
    · simp at hplace
  let a := s.sys.engines.foldl (fun y p => y.setEngine p.1 { p.2 with params := terase i.val p.2.params }) { s.sys with resident := [r] }
  have ha' : SameBut [.engines] (only []) (only []) { s.sys with resident := [r] } a := SameBut.foldl _ _ (fun z p _ => by simp) _
  have hmake : s.sys.makeResident i.val = some a.showResident := by
    rw [Sys.makeResident, hnone, List.any_nil, if_neg Bool.false_ne_true, hplace]
    rfl
  have hkeep : s.sys.keepResident i.val 1 = (.ok, a.showResident.wr k 1) := by
    rw [Sys.keepResident, if_neg (by decide), if_neg (by decide), himage, if_neg Bool.false_ne_true, hmake]
  have hsame : SameBut [.resident, .engines] (only [ent 0x3880 2, ent 0x3880 3, ent 0x3880 4, k]) (only []) s.sys (a.showResident.wr k 1) :=
    ((sameBut_makeResident hmake).mono (fun _ => id) (by simp) (fun _ => id)).trans (sameBut_wr _ k 1 (by simp))
  have hwrote : (s.sys.keepResident i.val (unLe (le 1 1))).2 = a.showResident.wr k 1 := congrArg Prod.snd hkeep
  obtain ⟨-, t, hexec, hfollow, hotp, hpending⟩ := acting_does (c := .keepResidentWrite w i 1) (p := True) rfl ha (isRwc_keepResident i)
    (.inr (.inr (.inl (by rw [ent_div _ (by decide)]; omega)))) (by unfold ent; omega) (acting_keepResident ..) fun _ => by
      refine ⟨congrArg Prod.fst hkeep, ?_, ?_, trivial⟩
      · change (s.sys.keepResident i.val (unLe (le 1 1))).2.boot.due = _
        rw [hwrote]
        exact congrArg Boot.due (hsame.1 .boot (by simp)).symm
      · change (s.sys.keepResident i.val (unLe (le 1 1))).2.den.saving = _
        rw [hwrote]
        exact congrArg Denval.saving (hsame.1 .den (by simp)).symm
  change Followed (s.sys.keepResident i.val (unLe (le 1 1))).2 t.sys at hfollow
  rw [hwrote] at hfollow
  have hresident : t.sys.resident = a.showResident.resident := (hfollow.same.1 .resident (by simp)).symm
  have hone : a.showResident.resident = [r] := (Sys.resident_showResident a).trans (ha'.1 .resident (by simp)).symm
  refine ⟨t, hexec, (hfollow.rd_eq ?_).trans ?_, hresident.trans hone, hslot, (hfollow.rd_eq ?_).trans ?_, hotp, hpending⟩
  · simp [followNums, ent]
    omega
  · exact (Sys.rd_wr ..).trans (if_pos rfl)
  · simp [followNums, ent]
  · refine (Sys.rd_wr ..).trans ((if_neg (by simp [k, ent]; omega)).trans ?_)
    have hlist : a.resident = [r] := (ha'.1 .resident (by simp)).symm
    simp [Sys.showResident, hlist, hslot, bitsOf, setBit]

theorem keepResidentWrite_refused (s : State) (w : Writer) (i : Fin 16) (v : Nat) (h1 : 1 < v) (h2 : v < 256) :
    (s.sys.arrival s.otp w (ent (0x3840 + i.val) 7) (le 1 v)).1 ≠ .ok := by
  intro h
  obtain ⟨-, hown⟩ := (Sys.arrival_ok_iff (isRwc_keepResident i)).1 h
  have hv : unLe (le 1 v) = v := by simp [unLe, le]; omega
  have hrange : (s.sys.keepResident i.val v).1 = .range := by rw [Sys.keepResident, if_pos h1]
  rw [Sys.entryWrite, Sys.entryEffect_of_acting (acting_keepResident ..), hv] at hown
  change (s.sys.keepResident i.val v).1 = .overbudget ∨ (s.sys.keepResident i.val v).1 = .ok at hown
  rw [hrange] at hown
  simp at hown

/-- Settles O45, clause by clause. -/
theorem enginesTroupesAndImages : Obligations.EnginesTroupesAndImages := by
  refine ⟨?_, engineParityError_fencesTroupe, engineRetestDone_none, engineRetestDone_decides, troupeParityError_counts, ?_, troupeRetestDone_none,
    troupeRetestDone_decides, imageLoadDone_tells, tableLoadDone_loads, keepResidentWrite_drops, keepResidentWrite_keeps, keepResidentWrite_refused⟩
  · intro s e c
    cases c <;> exact engineParityError_fences s e _
  · intro s q c
    cases c <;> exact troupeParityError_fences s q _

end Sys2Proof.Machine
end

section
/-!
PROOFS. Calibration sets and the table library (O46).
-/

namespace Sys2Proof.Machine

variable {fs : List Facet} {nums blobs : Nat → Prop} {y z : Sys} {s : State} {o : Otp} {v : Bytes} {r : Result} {w : Writer}

/-! ## What the entries do -/

theorem Sys.lookup_setTable (y : Sys) (e : Nat) (t : LibTable) : (y.setTable e t).tables.lookup e = some t :=
  (lookup_kput y.tables e e t).trans (if_pos rfl)

theorem Sys.mem_raise (y : Sys) (code source : Nat) (data : Bytes) (h : y.log.pending.length < 256) :
    (⟨y.t96, code, severity code, source, data⟩ : EventRecord) ∈ (y.raise code source data).log.pending := by
  rw [Sys.log_raise _ _ _ _ h]
  exact List.mem_append_right _ (List.mem_singleton.2 rfl)

/-- What an admitted commit of a calibration set other than the slot's does. -/
structure CalCommitted (o : Otp) (y : Sys) (i : Nat) (r : Result) : Prop where
  fuses : r.2.1 = [.fuseCalibration i]
  free : o.calEpoch i < 32
  cal : r.2.2.cal i = y.staged i (o.calEpoch i + 1)
  left : r.2.2.rd (ent (0x3C00 + i) 9) = 31 - o.calEpoch i
  epoch : r.2.2.rd (ent (0x3C00 + i) 0x0A) = o.calEpoch i + 1
  hash : r.2.2.rdB (ent (0x3C00 + i) 0x0B) = (y.staged i (o.calEpoch i + 1)).hash
  told : y.log.pending.length < 256 → (⟨y.t96, 0x0A10, severity 0x0A10, i, pack 16 [(0, 1, i), (1, 1, o.calEpoch i + 1), (2, 1, 31 - o.calEpoch i),
    (4, 4, unLe ((y.staged i (o.calEpoch i + 1)).hash.take 4))]⟩ : EventRecord) ∈ r.2.2.log.pending

theorem commitCal_spec {i : Nat} (hr : commitCal o y i = r) (h : r.1 = .ok ∨ r.1 = .overbudget)
    (hhash : (y.staged i (o.calEpoch i + 1)).hash ≠ (y.cal i).hash) :
    r.1 = .ok ∧ r.2.2.boot.due = y.boot.due ∧ r.2.2.den.saving = y.den.saving ∧ CalCommitted o y i r := by
  unfold commitCal at hr
  dsimp only at hr
  split at hr
  · subst hr; simp at h
  split at hr
  · subst hr; simp at h
  split at hr
  · subst hr; simp at h
  next hfree =>
    subst hr
    refine ⟨rfl, by simp, by simp, rfl, by omega, ?_, ?_, ?_, by simp, fun hroom => ?_⟩
    · simp [Sys.cal]
    · simp [ent]
    · simp [ent]
    · rw [show 31 - o.calEpoch i = 32 - (o.calEpoch i + 1) by omega]
      exact Sys.mem_raise _ _ _ _ hroom

theorem commitCal_same {i : Nat} (hr : commitCal o y i = r) (h : r.1 = .ok ∨ r.1 = .overbudget)
    (hhash : (y.staged i (o.calEpoch i + 1)).hash = (y.cal i).hash) :
    r.1 = .ok ∧ r.2.2.boot.due = y.boot.due ∧ r.2.2.den.saving = y.den.saving ∧ r.2.1 = [] ∧ r.2.2 = y := by
  unfold commitCal at hr
  dsimp only at hr
  split at hr
  · subst hr; simp at h
  split at hr
  · subst hr; simp at h
  · subst hr
    exact ⟨rfl, rfl, rfl, rfl, rfl⟩

theorem commitCal_exhausted {i : Nat} (hfull : 32 ≤ o.calEpoch i) (hhash : (y.staged i (o.calEpoch i + 1)).hash ≠ (y.cal i).hash) :
    (commitCal o y i).1 ≠ .ok ∧ (commitCal o y i).1 ≠ .overbudget := by
  unfold commitCal
  dsimp only
  split
  · simp
  split
  · simp
  exact ⟨nofun, nofun⟩

theorem upto_four {α : Type} (f : Nat → α → α) (a : α) : upto 4 f a = f 3 (f 2 (f 1 (f 0 a))) := rfl

theorem Sys.revertStaging_one (y : Sys) (i : Nat) : (y.revertStaging i 1).1 = .ok ∧
    SameBut [] (fun k => k / 256 = 0x3C00 + i) (fun k => k / 256 = 0x3C00 + i) y (y.revertStaging i 1).2 ∧
    (y.revertStaging i 1).2.rd (ent (0x3C00 + i) 1) = (y.cal i).mode ∧ (y.revertStaging i 1).2.rdB (ent (0x3C00 + i) 2) = (y.cal i).knots ∧
    (y.revertStaging i 1).2.rdB (ent (0x3C00 + i) 3) = (y.cal i).defects ∧
    (∀ g, g < 4 → (y.revertStaging i 1).2.rdB (ent (0x3C00 + i) (4 + g)) = (y.cal i).grids.getD g []) ∧
    (y.revertStaging i 1).2.rdB (ent (0x3C00 + i) 0x0C) = (y.cal i).hash := by
  have hdiv (e : Nat) (he : e < 256) : ent (0x3C00 + i) e / 256 = 0x3C00 + i := ent_div _ he
  unfold Sys.revertStaging
  simp only [ne_eq, not_true_eq_false, if_false, upto_four]
  refine ⟨trivial, ?_, ?_, ?_, ?_, fun g hg => ?_, ?_⟩
  · simp [hdiv]
  · simp
  · simp [ent]
  · simp [ent]
  · interval_cases g <;> simp [ent]
  · simp [ent]

/-! ## Tables -/

theorem Sys.lookup_showPersistent (y : Sys) (e : Nat) (t : LibTable) : (y.setTable e t).showPersistent.tables.lookup e = some t := y.lookup_setTable e t

theorem Sys.rd_showPersistent (y : Sys) {k : Nat} (hk : k ≠ ent 0x3C80 1) : y.showPersistent.rd k = y.rd k := (Sys.rd_wr ..).trans (if_neg hk)
theorem Sys.boot_showPersistent (y : Sys) : y.showPersistent.boot = y.boot := Sys.wr_boot ..
theorem Sys.den_showPersistent (y : Sys) : y.showPersistent.den = y.den := Sys.wr_den ..

/-- A library entry with a header, and its table declared. -/
def Sys.headed (y : Sys) (e : Nat) (h : Bytes) : Sys :=
  (((y.wrB (ent (0x3C40 + e) 1) h).wr (ent (0x3C40 + e) 5) (if h.isEmpty then 0 else 1)).wrB (ent (0x3C40 + e) 6) (List.replicate 32 0)).setTable e
    ⟨List.replicate (if h.isEmpty then 0 else tableSize h) 0, [], none⟩

theorem Sys.tableHeader_eq (y : Sys) (e : Nat) (h : Bytes) : y.tableHeader e h =
    if !(y.tableUsers e).isEmpty then (.state, y)
    else if !(h.isEmpty || headerOk h) then (.range, y)
    else if 2097152 < (y.headed e h).persistentBytes then (.range, y) else (.ok, (y.headed e h).showPersistent) := rfl

/-- A declared table: its entry has the header, and its octets wait to be filled. -/
theorem Sys.tableHeader_spec {e : Nat} (he : e < 64) (h : Bytes) (hr : plainR (y.tableHeader e h) = r) (hok : r.1 = .ok ∨ r.1 = .overbudget) :
    r.1 = .ok ∧ r.2.2.boot.due = y.boot.due ∧ r.2.2.den.saving = y.den.saving ∧ r.2.1 = [] ∧ (h.isEmpty || headerOk h) = true ∧
    r.2.2.rdB (ent (0x3C40 + e) 1) = h ∧ r.2.2.rd (ent (0x3C40 + e) 5) = (if h.isEmpty then 0 else 1) ∧
    r.2.2.tables.lookup e = some ⟨List.replicate (if h.isEmpty then 0 else tableSize h) 0, [], none⟩ := by
  rw [plainR, Sys.tableHeader_eq] at hr
  split at hr
  · subst hr; simp at hok
  split at hr
  · subst hr; simp at hok
  next hhead =>
    split at hr
    · subst hr; simp at hok
    · subst hr
      have hne : ent (0x3C40 + e) 5 ≠ ent 0x3C80 1 := ent_ne (by omega) (by decide) (by decide)
      refine ⟨rfl, congrArg Boot.due (Sys.boot_showPersistent _), congrArg Denval.saving (Sys.den_showPersistent _), rfl, ?_, ?_, ?_,
        Sys.lookup_showPersistent ..⟩
      · rwa [Bool.not_eq_true, Bool.not_eq_false'] at hhead
      · simp [Sys.showPersistent, Sys.headed, ent]
      · exact (Sys.rd_showPersistent _ hne).trans (by simp [Sys.headed])

theorem Sys.tableData_spec {e : Nat} (hr : plainR (y.tableData e v) = r) (hok : r.1 = .ok ∨ r.1 = .overbudget) :
    r.1 = .ok ∧ r.2.2.boot.due = y.boot.due ∧ r.2.2.den.saving = y.den.saving ∧ r.2.1 = [] ∧
    ∃ lt, y.tables.lookup e = some lt ∧ rdLe v 0 4 + (v.length - 4) ≤ lt.data.length ∧
      r.2.2.tables.lookup e = some { lt with
        data := poke lt.data (rdLe v 0 4) (v.drop 4), filled := lt.filled ++ [(rdLe v 0 4, rdLe v 0 4 + (v.length - 4))] } := by
  unfold plainR Sys.tableData at hr
  dsimp only at hr
  split at hr
  · subst hr; simp at hok
  next lt hlt =>
    split at hr
    · subst hr; simp at hok
    split at hr
    · subst hr; simp at hok
    next hfit =>
      split at hr
      · subst hr; simp at hok
      subst hr
      simp only [Bool.or_eq_true, decide_eq_true_eq, not_or, not_lt, List.length_drop] at hfit
      refine ⟨rfl, rfl, rfl, rfl, lt, hlt, hfit.2, ?_⟩
      rw [← List.length_drop]
      exact Sys.lookup_setTable ..

theorem Sys.tableGenerate_spec {e : Nat} (he : e < 64) (hr : plainR (y.tableGenerate e v) = r) (hok : r.1 = .ok ∨ r.1 = .overbudget) :
    r.1 = .ok ∧ r.2.2.boot.due = y.boot.due ∧ r.2.2.den.saving = y.den.saving ∧ r.2.1 = [] ∧
    r.2.2.rdB (ent (0x3C40 + e) 1) = (generate v).1 ∧ r.2.2.rd (ent (0x3C40 + e) 5) = 2 ∧
    r.2.2.tables.lookup e = some ⟨(generate v).2, [(0, (generate v).2.length)], some v⟩ := by
  unfold plainR Sys.tableGenerate at hr
  dsimp only at hr
  split at hr
  · subst hr; simp at hok
  split at hr
  · subst hr; simp at hok
  subst hr
  have hne : ent (0x3C40 + e) 5 ≠ ent 0x3C80 1 := ent_ne (by omega) (by decide) (by decide)
  refine ⟨rfl, congrArg Boot.due (Sys.boot_showPersistent _), congrArg Denval.saving (Sys.den_showPersistent _), rfl, ?_, ?_,
    Sys.lookup_showPersistent ..⟩
  · simp [Sys.showPersistent, ent]
  · exact (Sys.rd_showPersistent _ hne).trans (by simp)

theorem Sys.tableSeal_spec {e : Nat} (hr : plainR (y.tableSeal e 1) = r) (hok : r.1 = .ok ∨ r.1 = .overbudget) (hroom : y.log.pending.length < 256) :
    r.1 = .ok ∧ r.2.2.boot.due = y.boot.due ∧ r.2.2.den.saving = y.den.saving ∧ r.2.1 = [] ∧
    ∃ lt, y.tables.lookup e = some lt ∧ tableFinite (y.rdB (ent (0x3C40 + e) 1)) lt.data = true ∧ r.2.2.rd (ent (0x3C40 + e) 5) = 2 ∧
      r.2.2.rdB (ent (0x3C40 + e) 6) = sha256 (y.rdB (ent (0x3C40 + e) 1) ++ lt.data) ∧
      (⟨y.t96, 0x0A11, severity 0x0A11, e, ev [(0, 1, e), (1, 1, rdLe (y.rdB (ent (0x3C40 + e) 1)) 5 1), (2, 2, rdLe (y.rdB (ent (0x3C40 + e) 1)) 8 4),
        (4, 4, unLe ((sha256 (y.rdB (ent (0x3C40 + e) 1) ++ lt.data)).take 4))]⟩ : EventRecord) ∈ r.2.2.log.pending := by
  unfold plainR Sys.tableSeal at hr
  dsimp only at hr
  split at hr
  · subst hr; simp at hok
  next lt hlt =>
    split at hr
    next h => exact absurd rfl h
    split at hr
    · subst hr; simp at hok
    split at hr
    · subst hr; simp at hok
    next hwhole =>
      subst hr
      simp only [Bool.or_eq_true, Bool.not_eq_true', not_or, Bool.not_eq_false] at hwhole
      refine ⟨rfl, by simp, by simp, rfl, lt, hlt, hwhole.2, ?_, ?_, Sys.mem_raise _ _ _ _ hroom⟩
      · simp
      · simp

/-! ## The clauses -/

theorem acting_calibration (o : Otp) (y : Sys) (w : Writer) (i : Fin 8) (v : Bytes) :
    acting o y w (ent (0x3C00 + i.val) 8) v = some (commitCal o y i.val) := by
  rw [acting_frame (by omega) (by decide)]
  unfold Sys.actFrame
  dsimp only
  rw [if_neg (by omega), if_neg (by omega), if_neg (by omega), if_pos (by omega), Nat.add_sub_cancel_left] <;> rfl

theorem acting_revert (o : Otp) (y : Sys) (w : Writer) (i : Fin 8) (v : Bytes) :
    acting o y w (ent (0x3C00 + i.val) 0x0D) v = some (plainR (y.revertStaging i.val (unLe v))) := by
  rw [acting_frame (by omega) (by decide)]
  unfold Sys.actFrame
  dsimp only
  rw [if_neg (by omega), if_neg (by omega), if_neg (by omega), if_pos (by omega), Nat.add_sub_cancel_left] <;> rfl

theorem actFrame_table (o : Otp) (y : Sys) (e : Fin 64) (i : Nat) (v : Bytes) :
    y.actFrame o (0x3C40 + e.val) i v =
      match i with
      | 1 => some (plainR (y.tableHeader e.val v))
      | 2 => some (plainR (y.tableData e.val v))
      | 3 => some (plainR (y.tableGenerate e.val v))
      | 4 => some (plainR (y.tableSeal e.val (unLe v)))
      | 7 => some (plainR (y.tablePersistent e.val (unLe v)))
      | _ => none := by
  unfold Sys.actFrame
  dsimp only
  rw [if_neg (by omega), if_neg (by omega), if_neg (by omega), if_neg (by omega), if_pos (by omega), Nat.add_sub_cancel_left] <;> rfl

theorem acting_table (o : Otp) (y : Sys) (w : Writer) (e : Fin 64) {i : Nat} (hi : i < 256) (v : Bytes) :
    acting o y w (ent (0x3C40 + e.val) i) v = y.actFrame o (0x3C40 + e.val) i v := acting_frame (by omega) hi

theorem isRwc_calibration (i : Fin 8) : isRwc (ent (0x3C00 + i.val) 8) = false ∧ isRwc (ent (0x3C00 + i.val) 0x0D) = false := by
  revert i
  decide +kernel

theorem isRwc_table (e : Fin 64) : isRwc (ent (0x3C40 + e.val) 1) = false ∧ isRwc (ent (0x3C40 + e.val) 2) = false ∧
    isRwc (ent (0x3C40 + e.val) 3) = false ∧ isRwc (ent (0x3C40 + e.val) 4) = false := by
  revert e
  decide +kernel

theorem plainKey_calibration (i : Fin 8) {e : Nat} (he : e < 256) : plainKey (ent (0x3C00 + i.val) e) :=
  .inr (.inr (.inl (by rw [ent_div _ he]; omega)))

theorem plainKey_table (i : Fin 64) {e : Nat} (he : e < 256) : plainKey (ent (0x3C40 + i.val) e) :=
  .inr (.inr (.inr (.inl (by rw [ent_div _ he]; omega))))

theorem not_followNums {i e : Nat} (he : e < 256) (hi : 0x2201 < i ∧ i < 0x4D01) : ¬ followNums (ent i e) := by
  simp only [followNums, ent, List.mem_cons, List.not_mem_nil, or_false]
  omega

theorem calibrationCommit_commits (s : State) (w : Writer) (i : Fin 8) (ha : Admitted s w (ent (0x3C00 + i.val) 8) (le 2 1)) :
    let c := s.sys.staged i.val (s.otp.calEpoch i.val + 1)
    c.hash ≠ (s.sys.cal i.val).hash → Room s → Completes (.calibrationCommit w i) s fun t =>
      t.otp = s.otp.apply (.fuseCalibration i.val) ∧ t.otp.calEpoch i.val = s.otp.calEpoch i.val + 1 ∧ t.otp.calEpoch i.val ≤ 32 ∧ t.sys.cal i.val = c ∧
      t.sys.rd (ent (0x3C00 + i.val) 0x0A) = s.otp.calEpoch i.val + 1 ∧ t.sys.rd (ent (0x3C00 + i.val) 9) = 31 - s.otp.calEpoch i.val ∧
      t.sys.rdB (ent (0x3C00 + i.val) 0x0B) = c.hash ∧ t.pending = s.pending ∧
      (⟨s.sys.t96, 0x0A10, severity 0x0A10, i.val, pack 16 [(0, 1, i.val), (1, 1, s.otp.calEpoch i.val + 1), (2, 1, 31 - s.otp.calEpoch i.val),
        (4, 4, unLe (c.hash.take 4))]⟩ : EventRecord) ∈ t.sys.log.pending := by
  intro c hhash hroom
  obtain ⟨hc, t, hexec, hfollow, hotp, hpending⟩ := acting_does (c := .calibrationCommit w i) rfl ha (isRwc_calibration i).1
    (plainKey_calibration i (by decide)) (by unfold ent; omega) (acting_calibration ..) fun h => commitCal_spec rfl h hhash
  have hfuse : t.otp = s.otp.apply (.fuseCalibration i.val) := by rw [hotp, hc.fuses]; rfl
  have hepoch : t.otp.calEpoch i.val = s.otp.calEpoch i.val + 1 := by 
    rw [hfuse, Otp.apply, if_pos ⟨i.isLt, hc.free⟩]
    simp [Otp.calEpoch]
  have hmram := hfollow.same.1 .mram (by simp)
  have hlog := hfollow.same.1 .log (by simp)
  have hcal : t.sys.cal i.val = (commitCal s.otp s.sys i.val).2.2.cal i.val := by rw [Sys.cal, Sys.cal, ← hmram]
  exact ⟨t, hexec, hfuse, hepoch, hepoch ▸ hc.free, hcal.trans hc.cal, (hfollow.rd_eq (not_followNums (by decide) (by omega))).trans hc.epoch,
    (hfollow.rd_eq (not_followNums (by decide) (by omega))).trans hc.left, (hfollow.rdB_eq _).trans hc.hash, hpending, hlog ▸ hc.told hroom⟩

theorem calibrationCommit_again (s : State) (w : Writer) (i : Fin 8) (ha : Admitted s w (ent (0x3C00 + i.val) 8) (le 2 1))
    (hhash : (s.sys.staged i.val (s.otp.calEpoch i.val + 1)).hash = (s.sys.cal i.val).hash) : Completes (.calibrationCommit w i) s fun t =>
      t.otp = s.otp ∧ t.sys.mram.cal = s.sys.mram.cal ∧ t.pending = s.pending := by
  obtain ⟨⟨hops, hsame⟩, t, hexec, hfollow, hotp, hpending⟩ := acting_does (c := .calibrationCommit w i) rfl ha (isRwc_calibration i).1
    (plainKey_calibration i (by decide)) (by unfold ent; omega) (acting_calibration ..) fun h => commitCal_same rfl h hhash
  rw [hsame] at hfollow
  have hmram : s.sys.mram = t.sys.mram := hfollow.same.1 .mram (by simp)
  exact ⟨t, hexec, by rw [hotp, hops]; rfl, by rw [hmram], hpending⟩

theorem calibrationCommit_refused (s : State) (w : Writer) (i : Fin 8) (hfull : 32 ≤ s.otp.calEpoch i.val)
    (hhash : (s.sys.staged i.val (s.otp.calEpoch i.val + 1)).hash ≠ (s.sys.cal i.val).hash) :
    (s.sys.arrival s.otp w (ent (0x3C00 + i.val) 8) (le 2 1)).1 ≠ .ok := by
  intro h
  obtain ⟨-, hown⟩ := (Sys.arrival_ok_iff (isRwc_calibration i).1).1 h
  obtain ⟨hok, hover⟩ := commitCal_exhausted hfull hhash
  rw [Sys.entryWrite, Sys.entryEffect_of_acting (acting_calibration ..)] at hown
  exact hown.elim hover hok

theorem revertStaging_reverts (s : State) (w : Writer) (i : Fin 8) (ha : Admitted s w (ent (0x3C00 + i.val) 0x0D) (le 1 1)) :
    Completes (.revertStaging w i 1) s fun t =>
    t.sys.rd (ent (0x3C00 + i.val) 1) = (s.sys.cal i.val).mode ∧ t.sys.rdB (ent (0x3C00 + i.val) 2) = (s.sys.cal i.val).knots ∧
    t.sys.rdB (ent (0x3C00 + i.val) 3) = (s.sys.cal i.val).defects ∧
    (∀ g, g < 4 → t.sys.rdB (ent (0x3C00 + i.val) (4 + g)) = (s.sys.cal i.val).grids.getD g []) ∧
    t.sys.rdB (ent (0x3C00 + i.val) 0x0C) = (s.sys.cal i.val).hash ∧ t.otp = s.otp ∧ t.pending = s.pending := by
  obtain ⟨hok, hsame, hmode, hknots, hdefects, hgrids, hhash⟩ := s.sys.revertStaging_one i.val
  obtain ⟨-, t, hexec, hfollow, hotp, hpending⟩ := acting_does (c := .revertStaging w i 1) (p := True) rfl ha (isRwc_calibration i).2
    (plainKey_calibration i (by decide)) (by unfold ent; omega) (acting_revert ..) fun _ =>
      ⟨hok, congrArg Boot.due (hsame.1 .boot (by simp)).symm, congrArg Denval.saving (hsame.1 .den (by simp)).symm, trivial⟩
  exact ⟨t, hexec, (hfollow.rd_eq (not_followNums (by decide) (by omega))).trans hmode, (hfollow.rdB_eq _).trans hknots,
    (hfollow.rdB_eq _).trans hdefects, fun g hg => (hfollow.rdB_eq _).trans (hgrids g hg), (hfollow.rdB_eq _).trans hhash, hotp, hpending⟩

/-- A write of a library entry's header: declared where there is one, emptied where there is none. -/
theorem tableHeaderWrite_declares (s : State) (w : Writer) (e : Fin 64) (h : Bytes) (ha : Admitted s w (ent (0x3C40 + e.val) 1) h) :
    (h.isEmpty || headerOk h) = true ∧ Completes (.tableHeaderWrite w e h) s fun t =>
    t.sys.rdB (ent (0x3C40 + e.val) 1) = h ∧ t.sys.rd (ent (0x3C40 + e.val) 5) = (if h.isEmpty then 0 else 1) ∧
    t.sys.tables.lookup e.val = some ⟨List.replicate (if h.isEmpty then 0 else tableSize h) 0, [], none⟩ ∧ t.otp = s.otp ∧ t.pending = s.pending := by
  obtain ⟨⟨hops, hhead, hblob, hstate, htable⟩, t, hexec, hfollow, hotp, hpending⟩ := acting_does (c := .tableHeaderWrite w e h) rfl ha (isRwc_table e).1
    (plainKey_table e (by decide)) (by unfold ent; omega) ((acting_table _ _ w e (by decide) _).trans (actFrame_table ..)) fun hok =>
      Sys.tableHeader_spec e.isLt h rfl hok
  have htables := hfollow.same.1 .tables (by simp)
  exact ⟨hhead, t, hexec, (hfollow.rdB_eq _).trans hblob, (hfollow.rd_eq (not_followNums (by decide) (by omega))).trans hstate,
    (congrArg (List.lookup e.val) htables).symm.trans htable, by rw [hotp, hops]; rfl, hpending⟩

theorem tableDataWrite_fills (s : State) (w : Writer) (e : Fin 64) (v : Bytes) (ha : Admitted s w (ent (0x3C40 + e.val) 2) v) :
    Completes (.tableDataWrite w e v) s fun t =>
    ∃ lt, s.sys.tables.lookup e.val = some lt ∧ rdLe v 0 4 + (v.length - 4) ≤ lt.data.length ∧
      t.sys.tables.lookup e.val = some { lt with
        data := poke lt.data (rdLe v 0 4) (v.drop 4), filled := lt.filled ++ [(rdLe v 0 4, rdLe v 0 4 + (v.length - 4))] } ∧
      t.otp = s.otp ∧ t.pending = s.pending := by
  obtain ⟨⟨hops, lt, hlt, hfit, htable⟩, t, hexec, hfollow, hotp, hpending⟩ := acting_does (c := .tableDataWrite w e v) rfl ha (isRwc_table e).2.1
    (plainKey_table e (by decide)) (by unfold ent; omega) ((acting_table _ _ w e (by decide) _).trans (actFrame_table ..)) fun hok =>
      Sys.tableData_spec rfl hok
  have htables := hfollow.same.1 .tables (by simp)
  exact ⟨t, hexec, lt, hlt, hfit, (congrArg (List.lookup e.val) htables).symm.trans htable, by rw [hotp, hops]; rfl, hpending⟩

theorem tableWrite_refused (s : State) (w : Writer) (e : Fin 64) (i : Nat) (v : Bytes) (husers : s.sys.tableUsers e.val ≠ [])
    (hi : i = 1 ∨ i = 2 ∨ i = 3) : (s.sys.arrival s.otp w (ent (0x3C40 + e.val) i) v).1 ≠ .ok := by
  intro h
  have hused : (!(s.sys.tableUsers e.val).isEmpty) = true := by simpa using husers
  obtain ⟨hrwc1, hrwc2, hrwc3, -⟩ := isRwc_table e
  rcases hi with rfl | rfl | rfl
  · obtain ⟨-, hown⟩ := (Sys.arrival_ok_iff hrwc1).1 h
    rw [Sys.entryWrite, Sys.entryEffect_of_acting ((acting_table _ _ w e (by decide) _).trans (actFrame_table ..)), plainR, Sys.tableHeader_eq,
      if_pos hused] at hown
    simp at hown
  · obtain ⟨-, hown⟩ := (Sys.arrival_ok_iff hrwc2).1 h
    rw [Sys.entryWrite, Sys.entryEffect_of_acting ((acting_table _ _ w e (by decide) _).trans (actFrame_table ..)), plainR, Sys.tableData] at hown
    cases hlt : s.sys.tables.lookup e.val with
    | none => simp [hlt] at hown
    | some lt => simp [hlt, husers] at hown
  · obtain ⟨-, hown⟩ := (Sys.arrival_ok_iff hrwc3).1 h
    rw [Sys.entryWrite, Sys.entryEffect_of_acting ((acting_table _ _ w e (by decide) _).trans (actFrame_table ..)), plainR, Sys.tableGenerate,
      if_pos hused] at hown
    simp at hown

theorem tableSeal_seals (s : State) (w : Writer) (e : Fin 64) (ha : Admitted s w (ent (0x3C40 + e.val) 4) (le 1 1)) (hroom : Room s) :
    let h := s.sys.rdB (ent (0x3C40 + e.val) 1)
    Completes (.tableSeal w e 1) s fun t => ∃ lt, s.sys.tables.lookup e.val = some lt ∧ tableFinite h lt.data = true ∧
      t.sys.rd (ent (0x3C40 + e.val) 5) = 2 ∧ t.sys.rdB (ent (0x3C40 + e.val) 6) = sha256 (h ++ lt.data) ∧
      (⟨s.sys.t96, 0x0A11, severity 0x0A11, e.val,
        ev [(0, 1, e.val), (1, 1, rdLe h 5 1), (2, 2, rdLe h 8 4), (4, 4, unLe ((sha256 (h ++ lt.data)).take 4))]⟩ : EventRecord) ∈ t.sys.log.pending ∧
      t.otp = s.otp ∧ t.pending = s.pending := by
  intro h
  obtain ⟨⟨hops, lt, hlt, hfinite, hstate, hhash, htold⟩, t, hexec, hfollow, hotp, hpending⟩ := acting_does (c := .tableSeal w e 1) rfl ha
    (isRwc_table e).2.2.2 (plainKey_table e (by decide)) (by unfold ent; omega) ((acting_table _ _ w e (by decide) _).trans (actFrame_table ..))
    fun hok => Sys.tableSeal_spec rfl hok hroom
  have hlog := hfollow.same.1 .log (by simp)
  exact ⟨t, hexec, lt, hlt, hfinite, (hfollow.rd_eq (not_followNums (by decide) (by omega))).trans hstate, (hfollow.rdB_eq _).trans hhash,
    hlog ▸ htold, by rw [hotp, hops]; rfl, hpending⟩

theorem tableGenerate_generates (s : State) (w : Writer) (e : Fin 64) (v : Bytes) (ha : Admitted s w (ent (0x3C40 + e.val) 3) v) :
    Completes (.tableGenerate w e v) s fun t =>
    t.sys.rdB (ent (0x3C40 + e.val) 1) = (generate v).1 ∧ t.sys.rd (ent (0x3C40 + e.val) 5) = 2 ∧
    t.sys.tables.lookup e.val = some ⟨(generate v).2, [(0, (generate v).2.length)], some v⟩ ∧ t.otp = s.otp ∧ t.pending = s.pending := by
  obtain ⟨⟨hops, hblob, hstate, htable⟩, t, hexec, hfollow, hotp, hpending⟩ := acting_does (c := .tableGenerate w e v) rfl ha (isRwc_table e).2.2.1
    (plainKey_table e (by decide)) (by unfold ent; omega) ((acting_table _ _ w e (by decide) _).trans (actFrame_table ..)) fun hok =>
      Sys.tableGenerate_spec e.isLt rfl hok
  have htables := hfollow.same.1 .tables (by simp)
  exact ⟨t, hexec, (hfollow.rdB_eq _).trans hblob, (hfollow.rd_eq (not_followNums (by decide) (by omega))).trans hstate,
    (congrArg (List.lookup e.val) htables).symm.trans htable, by rw [hotp, hops]; rfl, hpending⟩

/-- Settles O46, clause by clause. -/
theorem calibrationAndTablesCommit : Obligations.CalibrationAndTablesCommit := by
  refine ⟨calibrationCommit_commits, calibrationCommit_again, calibrationCommit_refused, revertStaging_reverts, ?_, ?_, tableDataWrite_fills,
    tableWrite_refused, tableSeal_seals, tableGenerate_generates⟩
  · intro s w e h ha hne
    obtain ⟨hhead, t, hexec, hblob, hstate, htable, hotp, hpending⟩ := tableHeaderWrite_declares s w e h ha
    have hfull : h.isEmpty = false := by simpa using hne
    simp only [hfull, Bool.false_or, Bool.false_eq_true, if_false] at hhead hstate htable
    exact ⟨t, hexec, hblob, hstate, hhead, htable, hotp, hpending⟩
  · intro s w e ha
    obtain ⟨-, t, hexec, hblob, hstate, -, hotp, hpending⟩ := tableHeaderWrite_declares s w e [] ha
    exact ⟨t, hexec, hblob, hstate, hotp, hpending⟩

end Sys2Proof.Machine
end

section
/-!
PROOFS. Scan-out channels (O47).
-/

namespace Sys2Proof.Machine

variable {fs : List Facet} {nums blobs : Nat → Prop} {y z : Sys} {s : State}

/-! ## An output frame starts -/

/-- Records that wait stay until the log takes them. -/
def Waits (r : EventRecord) (y : Sys) : Prop := r ∈ y.log.pending

theorem Waits.raise {r : EventRecord} (h : Waits r y) (code source : Nat) (data : Bytes) : Waits r (y.raise code source data) := by
  rw [Waits, Sys.pending_raise]
  split
  · exact List.mem_append_left _ h
  · exact h

theorem Waits.of_log {r : EventRecord} (h : Waits r y) (e : y.log = z.log) : Waits r z := by rw [Waits, ← e]; exact h

theorem sameBut_showStream (y : Sys) (n : Nat) (h1 : nums (ent (0x4190 + n) 8)) (h2 : nums (ent (0x4190 + n) 0x0F)) :
    SameBut fs nums blobs y (y.showStream n) := (sameBut_wr y _ _ h1).trans (sameBut_wr _ _ _ h2)

/-- One path of a stream or a sender is up again (R458). -/
def Sys.restorePath (n : Nat) (y : Sys) (p : Nat × Nat) : Sys :=
  let y := { y with pathsDown := y.pathsDown.filter (· != (n, p.1)) }
  let y := if n < 8 then y.showStream n else y
  y.raise 0x0C0D n (ev [(0, 1, n), (1, 1, p.1), (2, 1, p.2)])

theorem sameBut_restorePath (y : Sys) (n : Nat) (p : Nat × Nat) (hl : .log ∈ fs) (hp : .pathsDown ∈ fs) (hk : ∀ n, n < 8 → ∀ e, e < 256 → nums (ent (0x4190 + n) e)) :
    SameBut fs nums blobs y (y.restorePath n p) := by
  have h1 : SameBut fs nums blobs y { y with pathsDown := y.pathsDown.filter (· != (n, p.1)) } :=
    .of_facets rfl rfl fun q hq => by cases q with | pathsDown => exact absurd hp hq | _ => rfl
  refine (h1.trans (.ite (fun h => ?_) fun _ => .refl _)).trans (sameBut_raise _ _ _ _ hl)
  exact sameBut_showStream _ n (hk n h 8 (by decide)) (hk n h 0x0F (by decide))

theorem Waits.restorePath {r : EventRecord} (h : Waits r y) (n : Nat) (p : Nat × Nat) : Waits r (y.restorePath n p) := by
  refine Waits.raise (y := if n < 8 then _ else _) ?_ _ _ _
  split
  · exact h
  · exact h

/-- The streams of a channel that starts have their paths looked at again. -/
def Sys.restoreStreams (c : Nat) (n : Nat) (y : Sys) : Sys :=
  if y.rd (ent (0x4190 + n) 1) = c then Sys.showStream (y.restorePaths n) n else y

theorem sameBut_restoreStreams (y : Sys) (c : Nat) {n : Nat} (hn : n < 8) (hl : .log ∈ fs) (hp : .pathsDown ∈ fs)
    (hk : ∀ n, n < 8 → ∀ e, e < 256 → nums (ent (0x4190 + n) e)) : SameBut fs nums blobs y (y.restoreStreams c n) := by
  refine .ite (fun _ => ?_) fun _ => .refl y
  exact (SameBut.foldl _ _ (fun z p _ => sameBut_restorePath z n p hl hp hk) y).trans (sameBut_showStream _ n (hk n hn 8 (by decide)) (hk n hn 0x0F (by decide)))

theorem Waits.foldl {α : Type} {r : EventRecord} (g : Sys → α → Sys) (hg : ∀ z a, Waits r z → Waits r (g z a)) (l : List α) (h : Waits r y) : Waits r (l.foldl g y) :=
  List.foldlRecOn l g h fun z hz a _ => hg z a hz

theorem Waits.restoreStreams {r : EventRecord} (h : Waits r y) (c n : Nat) : Waits r (y.restoreStreams c n) := by
  unfold Sys.restoreStreams
  split
  · exact Waits.foldl _ (fun z p hz => hz.restorePath n p) _ h
  · exact h

/-- The eDP ports of a channel that starts go on to video, or power up where they wait for it. -/
def Sys.startPanel (c : Nat) (y : Sys) (p : Nat) : Sys :=
  let e := y.edp p
  if y.rd (ent (0x4188 + p) 1) = c ∧ e.trained then
    Sys.wr (y.setEdp p { e with trained := false, video := true }) (ent (0x4188 + p) 0x0C) 3
  else if y.rd (ent (0x4188 + p) 1) = c ∧ e.due then y.edpPower p
  else y

theorem sameBut_edpPower_of (y : Sys) (p : Nat) (hl : .log ∈ fs) (he : .edps ∈ fs) (hk : nums (ent (0x4188 + p) 0x0C)) :
    SameBut fs nums blobs y (y.edpPower p) := by
  unfold Sys.edpPower
  dsimp only
  repeat' split
  all_goals simp [hl, he, hk]

theorem sameBut_startPanel (y : Sys) (c p : Nat) (hl : .log ∈ fs) (he : .edps ∈ fs) (hk : nums (ent (0x4188 + p) 0x0C)) :
    SameBut fs nums blobs y (y.startPanel c p) := by
  unfold Sys.startPanel
  dsimp only
  split
  · exact (sameBut_setEdp p _ he).trans (sameBut_wr _ _ _ hk)
  · exact .ite (fun _ => sameBut_edpPower_of y p hl he hk) fun _ => .refl y

theorem Waits.edpPower {r : EventRecord} (h : Waits r y) (p : Nat) : Waits r (y.edpPower p) := by
  unfold Sys.edpPower
  dsimp only
  repeat' split
  · exact h
  · exact h
  · exact Waits.raise (y := y.wr _ _) h _ _ _
  · exact h

theorem Waits.startPanel {r : EventRecord} (h : Waits r y) (c p : Nat) : Waits r (y.startPanel c p) := by
  unfold Sys.startPanel
  dsimp only
  split
  · exact h
  · split
    · exact h.edpPower p
    · exact h

/-- The outputs that follow a channel which starts a frame. -/
def Sys.startOutputs (y : Sys) (c : Nat) : Sys := [0, 1].foldl (Sys.startPanel c) (upto 8 (Sys.restoreStreams c) (Sys.showSdo (y.showChannel c)))

/-- What the outputs show when a frame starts. -/
def startNums (c n : Nat) : Prop := n ∈ [ent (0x4140 + c) 1, ent 0x41B0 1] ∨ indices 0x4170 16 n ∨ indices 0x4188 2 n ∨ indices 0x4190 8 n

theorem indices_ent {i n k e : Nat} (hk : k < n) (he : e < 256) : indices i n (ent (i + k) e) := by unfold ent; omega

theorem sameBut_startOutputs (y : Sys) (c : Nat) : SameBut [.log, .edps, .pathsDown] (startNums c) (only []) y (y.startOutputs c) := by
  have hs : ∀ n, n < 8 → ∀ e, e < 256 → startNums c (ent (0x4190 + n) e) := fun n hn e he => .inr (.inr (.inr (indices_ent hn he)))
  have hp : ∀ p ∈ [0, 1], startNums c (ent (0x4188 + p) 0x0C) := fun p hp =>
    .inr (.inr (.inl (indices_ent (by simp at hp; omega) (by decide))))
  have hshow : SameBut [.log, .edps, .pathsDown] (startNums c) (only []) y (y.showChannel c) :=
    sameBut_showChannel y c (.inl (by simp)) (.inl (by simp))
  refine ((hshow.trans ?_).trans (.upto _ 8 (fun z n hn => sameBut_restoreStreams z c hn (by simp) (by simp) hs) _)).trans
    (.foldl _ _ (fun z p h => sameBut_startPanel z c p (by simp) (by simp) (hp p h)) _)
  exact (sameBut_showSdo _ _ _).mono (fun _ h => h) (fun _ h => .inr (.inl h)) fun _ h => h

theorem Waits.startOutputs {r : EventRecord} (h : Waits r y) (c : Nat) : Waits r (y.startOutputs c) := by
  refine .foldl _ (fun z p hz => hz.startPanel c p) _ (.foldl _ (fun z n hz => hz.restoreStreams c n) _ ?_)
  exact h.of_log (((sameBut_showChannel y c (fs := []) (nums := fun _ => True) (blobs := only []) trivial trivial).1 .log (by simp)).trans
    ((sameBut_showSdo _ [] (only [])).1 .log (by simp)))

/-- The frame itself: its number, its origin, the answer of a restart. -/
def Sys.startFrame (y : Sys) (c k : Nat) : Sys :=
  let ch := y.channel c
  let y := y.setChannel c { ch with running := true, restart := none, index := k, origin := y.view.originOf c k }
  let y := match ch.restart with
    | some cause => y.raise 0x0C06 c (pack 16 [(0, 1, c), (1, 1, cause), (8, 8, k)])
    | none => y
  (y.wr (ent (0x4140 + c) 2) k).wrB (ent (0x4120 + c) 4) (y.view.timingRecord c)

theorem outputOrigin_runs (s : State) (c : Fin 24) (k : BitVec 64) (hon : s.sys.view.chanOn c.val = true) (hrun : s.sys.domainRun 26 = true)
    (hheld : s.sys.portsHeld 26 = false) (hout : s.sys.outputsHeld = false ∨ (s.sys.channel c.val).restart = none) :
    Runs (.outputOrigin c k) s (((s.sys.startFrame c.val k.toNat).startOutputs c.val).lineMatch c.val 0) := by
  have hgo : (s.sys.outputsHeld && (s.sys.channel c.val).restart.isSome) = false := by
    rcases hout with h | h <;> simp [h]
  rw [Runs, exec_outputOrigin, execOutputOrigin, onSys_eq]
  dsimp only
  rw [hon, hrun, hheld, hgo]
  simp only [Bool.not_true, Bool.or_self, Bool.false_eq_true, if_false]
  unfold Sys.startOutputs Sys.startFrame Sys.restoreStreams
  rfl

theorem Gen.timingRecord_congr {g h : Gen} (c : Nat) (h1 : g.rd (ent (0x4120 + c) 1) = h.rd (ent (0x4120 + c) 1))
    (h3 : g.rdB (ent (0x4120 + c) 3) = h.rdB (ent (0x4120 + c) 3)) : g.timingRecord c = h.timingRecord c := by
  simp only [Gen.timingRecord, h1, h3]

theorem Sys.startFrame_spec (y : Sys) (c : Fin 24) (k : Nat) :
    let z := y.startFrame c.val k
    z.channel c.val = { y.channel c.val with running := true, restart := none, index := k, origin := y.view.originOf c.val k } ∧
    (∀ d, d ≠ c.val → z.channel d = y.channel d) ∧ z.rd (ent (0x4140 + c.val) 2) = k ∧ z.rdB (ent (0x4120 + c.val) 4) = y.view.timingRecord c.val ∧
    (∀ cause, (y.channel c.val).restart = some cause → y.log.pending.length < 256 →
      Waits ⟨y.t96, 0x0C06, severity 0x0C06, c.val, pack 16 [(0, 1, c.val), (1, 1, cause), (8, 8, k)]⟩ z) ∧
    SameBut [.channels, .log] (only [ent (0x4140 + c.val) 2]) (only [ent (0x4120 + c.val) 4]) y z := by
  intro z
  obtain ⟨v, hv⟩ : ∃ v, v = y.setChannel c.val { y.channel c.val with running := true, restart := none, index := k, origin := y.view.originOf c.val k } := ⟨_, rfl⟩
  obtain ⟨w, hw⟩ : ∃ w, w = match (y.channel c.val).restart with
    | some cause => v.raise 0x0C06 c.val (pack 16 [(0, 1, c.val), (1, 1, cause), (8, 8, k)])
    | none => v := ⟨_, rfl⟩
  have hz : z = (w.wr (ent (0x4140 + c.val) 2) k).wrB (ent (0x4120 + c.val) 4) (w.view.timingRecord c.val) := by
    rw [hw, hv]
    rfl
  have hyv : SameBut [.channels, .log] (only []) (only []) y v := hv ▸ sameBut_setChannel c.val _ (by simp)
  have hvw : SameBut [.log] (only []) (only []) v w := by
    rw [hw]
    split
    · exact sameBut_raise _ _ _ _ (by simp)
    · exact .refl v
  have hch (d : Nat) : z.channel d = v.channel d := by
    rw [hz]
    exact congrArg (fun l => tget (fun _ => channel0) l d) (hvw.1 .channels (by simp)).symm
  have hyw : SameBut [.channels, .log] (only []) (only []) y w := hyv.trans (hvw.mono (by simp) (fun _ h => h) fun _ h => h)
  refine ⟨?_, fun d hd => ?_, ?_, ?_, fun cause hcause hroom => ?_, ?_⟩
  · rw [hch, hv]
    exact (Sys.channel_setChannel ..).trans (if_pos rfl)
  · rw [hch, hv]
    exact (Sys.channel_setChannel ..).trans (if_neg hd)
  · rw [hz]
    exact (Sys.rd_wr ..).trans (if_pos rfl)
  · rw [hz]
    exact ((Sys.rdB_wrB ..).trans (if_pos rfl)).trans (Gen.timingRecord_congr _ (hyw.2.1 _ (by simp)) (hyw.2.2 _ (by simp)))
  · rw [hz]
    refine Waits.of_log (y := w) ?_ rfl
    rw [hw, hcause]
    have h := Sys.mem_raise v 0x0C06 c.val (pack 16 [(0, 1, c.val), (1, 1, cause), (8, 8, k)]) (by rw [hv]; exact hroom)
    rw [hv] at h ⊢
    exact h
  · rw [hz]
    exact ((hyw.mono (fun _ h => h) (by simp) (by simp)).trans (sameBut_wr _ _ _ (by simp))).trans (sameBut_wrB _ _ _ (by simp))

theorem Sys.lineMatch_off (y : Sys) (c n : Nat) (h : y.rdBit (ent (0x4100 + c) 0x0E) 1 = false) : y.lineMatch c n = y := by
  rw [Sys.lineMatch]
  split
  · rw [Sys.irqScan, h]
    rfl
  · rfl

theorem outputOrigin_starts (s : State) (c : Fin 24) (k : BitVec 64) (hon : s.sys.view.chanOn c.val = true) (hrun : s.sys.domainRun 26 = true)
    (hheld : s.sys.portsHeld 26 = false) (hout : s.sys.outputsHeld = false ∨ (s.sys.channel c.val).restart = none) (hroom : Room s)
    (hirq : s.sys.rdBit (ent (0x4100 + c.val) 0x0E) 1 = false) : Completes (.outputOrigin c k) s fun t =>
      t.sys.channel c.val = { s.sys.channel c.val with
        running := true, restart := none, index := k.toNat, origin := s.sys.view.originOf c.val k.toNat } ∧
      (∀ d, d ≠ c.val → t.sys.channel d = s.sys.channel d) ∧ t.sys.rd (ent (0x4140 + c.val) 2) = k.toNat ∧
      t.sys.rdB (ent (0x4120 + c.val) 4) = s.sys.view.timingRecord c.val ∧
      (∀ cause, (s.sys.channel c.val).restart = some cause →
        (⟨s.sys.t96, 0x0C06, severity 0x0C06, c.val, pack 16 [(0, 1, c.val), (1, 1, cause), (8, 8, k.toNat)]⟩ : EventRecord) ∈ t.sys.log.pending) ∧
      Leaves [.channels, .log, .edps, .pathsDown] (fun n => n ∈ [ent (0x4140 + c.val) 1, ent (0x4140 + c.val) 2, ent 0x41B0 1] ∨
        indices 0x4170 16 n ∨ indices 0x4188 2 n ∨ indices 0x4190 8 n) (only [ent (0x4120 + c.val) 4]) s t := by
  have hc := c.isLt
  obtain ⟨hch, hother, hnum, htim, hev, hframe⟩ := s.sys.startFrame_spec c k.toNat
  have hout2 := sameBut_startOutputs (s.sys.startFrame c.val k.toNat) c.val
  have hwaits (r : EventRecord) (h : Waits r (s.sys.startFrame c.val k.toNat)) := h.startOutputs c.val
  have hdark (k : Nat) (hk : k / 256 < 0x4170) (h1 : k ≠ ent (0x4140 + c.val) 1) : ¬ startNums c.val k := by
    simp only [startNums, List.mem_cons, List.not_mem_nil, or_false, ent] at h1 ⊢
    omega
  have hruns := outputOrigin_runs s c k hon hrun hheld hout
  rw [Sys.lineMatch_off] at hruns
  · generalize (s.sys.startFrame c.val k.toNat).startOutputs c.val = z at hruns hout2 hwaits
    refine ⟨_, hruns, ?_, fun d hd => ?_, ?_, ?_, fun cause h => hwaits _ (hev cause h hroom), rfl, rfl, ?_⟩
    · exact (congrArg (fun l => tget (fun _ => channel0) l c.val) (hout2.1 .channels (by simp)).symm).trans hch
    · exact (congrArg (fun l => tget (fun _ => channel0) l d) (hout2.1 .channels (by simp)).symm).trans (hother d hd)
    · exact (hout2.2.1 _ (hdark _ (by unfold ent; omega) (by unfold ent; omega))).trans hnum
    · exact (hout2.2.2 _ (by simp)).trans htim
    · refine (hframe.mono (by simp) (fun n hn => ?_) fun _ h => h).trans (hout2.mono (by simp) (fun n hn => ?_) (by simp))
      · simp only [only, List.mem_singleton] at hn
        simp [hn]
      · exact hn.imp (fun h => (List.mem_cons.1 h).elim (fun h => List.mem_cons.2 (.inl h)) fun h => List.mem_cons_of_mem _ (List.mem_cons_of_mem _ h)) id
  · have hkey : s.sys.rd (ent (0x4100 + c.val) 0x0E) = (s.sys.startFrame c.val k.toNat).rd (ent (0x4100 + c.val) 0x0E) :=
      (hframe.2.1 _ (mt List.mem_singleton.1 (by unfold ent; omega))).symm
    rw [Sys.rdBit, hkey] at hirq
    rw [Sys.rdBit, hout2.2.1 _ (hdark _ (by unfold ent; omega) (by unfold ent; omega))]
    exact hirq

theorem outputOrigin_idle (s : State) (c : Fin 24) (k : BitVec 64)
    (h : s.sys.view.chanOn c.val = false ∨ s.sys.domainRun 26 = false ∨ s.sys.portsHeld 26 = true) : Runs (.outputOrigin c k) s s.sys := by
  have hstop : (!s.sys.view.chanOn c.val || !s.sys.domainRun 26 || s.sys.portsHeld 26) = true := by
    rcases h with h | h | h <;> simp [h]
  rw [Runs, exec_outputOrigin, execOutputOrigin, onSys_eq]
  dsimp only
  rw [hstop]
  rfl

/-! ## Lines are fetched -/

theorem lineFetch_takes (s : State) (c : Fin 24) (hrun : (s.sys.channel c.val).running = true) (hpicked : (s.sys.channel c.val).picked = true)
    (hmore : (s.sys.channel c.val).nextFetch < (s.sys.view.timing c.val).actH) (hthere : s.sys.lineThere c.val (s.sys.channel c.val).nextFetch = true)
    (hfits : ((s.sys.channel c.val).nextFetch - ((s.sys.channel c.val).committed - 4) + 1) * s.sys.view.lineOctets c.val ≤ 262144) :
    Completes (.lineFetch c) s fun t =>
      t.sys.channel c.val = { s.sys.channel c.val with nextFetch := (s.sys.channel c.val).nextFetch + 1 } ∧
      (∀ d, d ≠ c.val → t.sys.channel d = s.sys.channel d) ∧ Leaves [.channels] (only []) (only []) s t := by
  have hruns : Runs (.lineFetch c) s (s.sys.setChannel c.val { s.sys.channel c.val with nextFetch := (s.sys.channel c.val).nextFetch + 1 }) := by
    rw [Runs, exec_lineFetch, execLineFetch, onSys_eq]
    dsimp only
    rw [if_neg (by rw [hrun]; decide), if_pos hpicked, if_pos (by rw [hthere, decide_eq_true hmore]; exact decide_eq_true hfits)]
  exact ⟨_, hruns, (Sys.channel_setChannel ..).trans (if_pos rfl), fun d hd => (Sys.channel_setChannel ..).trans (if_neg hd), rfl, rfl,
    sameBut_setChannel _ _ (by simp)⟩

theorem lineFetch_waits (s : State) (c : Fin 24) (hrun : (s.sys.channel c.val).running = true) (hpicked : (s.sys.channel c.val).picked = true)
    (hthere : s.sys.lineThere c.val (s.sys.channel c.val).nextFetch = false) : Runs (.lineFetch c) s s.sys := by
  rw [Runs, exec_lineFetch, execLineFetch, onSys_eq]
  dsimp only
  rw [if_neg (by rw [hrun]; decide), if_pos hpicked, if_neg (by rw [hthere, Bool.and_false, Bool.false_and]; decide)]

/-! ## A frame is selected -/

theorem Sys.channel_releaseBufs (y : Sys) (c : Nat) (before : Channel) (d : Nat) : (y.releaseBufs c before).channel d = y.channel d := by
  have hirq (y : Sys) : (y.irqScan c 2).channel d = y.channel d :=
    congrArg (fun l => tget (fun _ => channel0) l d)
      ((sameBut_irqScan y c 2 (fs := [.boot, .tx]) (nums := only []) (blobs := fun _ => True) (by simp) (by simp) trivial).1 .channels (by simp)).symm
  unfold Sys.releaseBufs
  dsimp only
  split
  · split
    · rfl
    · exact hirq _
  · split
    · exact hirq y
    · exact (hirq _).trans (hirq y)

theorem Sys.channel_firstFrame (y : Sys) (d : Nat) : y.firstFrame.channel d = y.channel d := by
  unfold Sys.firstFrame
  split <;> rfl

theorem Sys.enterSelection_picks (y : Sys) (c F : Nat) (hnew : y.overtaken c F = false) (hshow : y.showable c F = true)
    (hsrc : y.rd (ent (0x4100 + c) 2) = 1) (hmode : y.view.chanMode c = 0) :
    let ch := (y.enterSelection c (some F)).channel c
    ch.picked = true ∧ ch.shown = some F ∧ ch.fallback = y.fallbackOf c (some F) ∧ ch.switch = none := by
  obtain ⟨x, hx⟩ : ∃ x : Channel, (y.enterSelection c (some F)).channel c = x ∧ x.picked = true ∧ x.shown = some F ∧
      x.fallback = y.fallbackOf c (some F) ∧ x.switch = none := by
    unfold Sys.enterSelection
    simp only [Option.any_some, hnew, hsrc, hmode, hshow, Bool.false_and, Bool.false_eq_true, if_false, if_true, Option.isSome_some]
    rw [if_neg (by simp), if_neg (by simp), Sys.channel_releaseBufs, Sys.channel_firstFrame]
    exact ⟨_, (Sys.channel_setChannel ..).trans (if_pos rfl), rfl, rfl, rfl, rfl⟩
  rw [hx.1]
  exact hx.2

/-! ## Lines commit -/

/-- The channel has committed another line. -/
def Sys.lineCommitted (y : Sys) (c u : Nat) : Sys := y.setChannel c { y.channel c with committed := max (y.channel c).committed (u + 1) }

/-- The raster line that starts with a commit raises LINE_MATCH where it is the one set (R462). -/
def Sys.rasterLine (y : Sys) (c u : Nat) : Sys :=
  let first := (y.view.timing c).vFirst
  if u < (y.view.timing c).actH ∧ 4 ≤ first + u then y.lineMatch c (first + u - 4) else y

/-- Whether a line is there at its instant, or none is asked for. -/
def Sys.inTime (y v : Sys) (c u : Nat) : Bool :=
  decide (u < (y.channel c).nextFetch) || (y.channel c).shown.isNone || (y.channel c).switch.any (· ≤ u) || decide ((v.view.timing c).actH ≤ u)

theorem lineCommitInstant_runs (s : State) (c : Fin 24) (u : BitVec 16) (hrun : (s.sys.channel c.val).running = true) :
    let v := (s.sys.lineCommitted c.val u.toNat).rasterLine c.val u.toNat
    Runs (.lineCommitInstant c u) s (if s.sys.inTime v c.val u.toNat then v else v.switchGroup c.val u.toNat 1 true) := by
  rw [Runs, exec_lineCommitInstant, execLineCommitInstant, onSys_eq]
  dsimp only
  rw [if_neg (by rw [hrun]; decide)]
  rfl

theorem lineCommitInstant_in_time (s : State) (c : Fin 24) (u : BitVec 16) (hrun : (s.sys.channel c.val).running = true)
    (hthere : u.toNat < (s.sys.channel c.val).nextFetch) :
    Runs (.lineCommitInstant c u) s ((s.sys.lineCommitted c.val u.toNat).rasterLine c.val u.toNat) := by
  have hruns := lineCommitInstant_runs s c u hrun
  simpa only [Sys.inTime, decide_eq_true hthere, Bool.true_or, if_true] using hruns

theorem sameBut_rasterLine (y : Sys) (c u : Nat) (hb : .boot ∈ fs) (ht : .tx ∈ fs) (hk : blobs (ent 0x1311 3)) : SameBut fs nums blobs y (y.rasterLine c u) :=
  .ite (fun _ => sameBut_lineMatch y c _ hb ht hk) fun _ => .refl y

theorem Sys.rasterLine_off (y : Sys) (c u : Nat) (h : y.rdBit (ent (0x4100 + c) 0x0E) 1 = false) : y.rasterLine c u = y := by
  unfold Sys.rasterLine
  dsimp only
  split
  · exact y.lineMatch_off c _ h
  · rfl

theorem lineCommitInstant_commits (s : State) (c : Fin 24) (u : BitVec 16) (hrun : (s.sys.channel c.val).running = true)
    (hthere : u.toNat < (s.sys.channel c.val).nextFetch) (hirq : s.sys.rdBit (ent (0x4100 + c.val) 0x0E) 1 = false) :
    Completes (.lineCommitInstant c u) s fun t =>
      t.sys.channel c.val = { s.sys.channel c.val with committed := max (s.sys.channel c.val).committed (u.toNat + 1) } ∧
      (∀ d, d ≠ c.val → t.sys.channel d = s.sys.channel d) ∧ Leaves [.channels] (only []) (only []) s t := by
  have hruns := lineCommitInstant_in_time s c u hrun hthere
  rw [Sys.rasterLine_off (s.sys.lineCommitted c.val u.toNat) _ _ hirq] at hruns
  exact ⟨_, hruns, (Sys.channel_setChannel ..).trans (if_pos rfl), fun d hd => (Sys.channel_setChannel ..).trans (if_neg hd), rfl, rfl,
    sameBut_setChannel _ _ (by simp)⟩

theorem lineCommitInstant_matches (s : State) (c : Fin 24) (u : BitVec 16) (hrun : (s.sys.channel c.val).running = true)
    (hthere : u.toNat < (s.sys.channel c.val).nextFetch) (hact : u.toNat < (s.sys.view.timing c.val).actH)
    (hirq : s.sys.rdBit (ent (0x4100 + c.val) 0x0E) 1 = true)
    (hline : s.sys.rd (ent (0x4100 + c.val) 0x0A) + 4 = (s.sys.view.timing c.val).vFirst + u.toNat) :
    Completes (.lineCommitInstant c u) s fun t =>
      t.sys.rdB (ent 0x1311 3) = setOctetBit (s.sys.rdB (ent 0x1311 3)) c.val 1 ∧ t.otp = s.otp ∧ t.pending = s.pending := by
  have hruns := lineCommitInstant_in_time s c u hrun hthere
  have hmatch : (s.sys.lineCommitted c.val u.toNat).rasterLine c.val u.toNat = (s.sys.lineCommitted c.val u.toNat).irqScan c.val 1 := by
    have ht : (s.sys.lineCommitted c.val u.toNat).view.timing c.val = s.sys.view.timing c.val := rfl
    have hr : (s.sys.lineCommitted c.val u.toNat).rd (ent (0x4100 + c.val) 0x0A) = s.sys.rd (ent (0x4100 + c.val) 0x0A) := rfl
    rw [Sys.rasterLine, ht, if_pos ⟨hact, by omega⟩, Sys.lineMatch, hr, if_pos (by omega)]
  rw [hmatch, Sys.irqScan, show (s.sys.lineCommitted c.val u.toNat).rdBit (ent (0x4100 + c.val) 0x0E) 1 = true from hirq, if_pos rfl] at hruns
  refine ⟨_, hruns, ?_, rfl, rfl⟩
  exact ((sameBut_classRaised _ .scanout (fs := [.boot, .tx]) (nums := only []) (blobs := only []) (by simp) (by simp)).2.2 _ (by simp)).trans
    ((Sys.rdB_wrB ..).trans (if_pos rfl))

/-! ## A line is missing -/

/-- The entries in which a channel counts its switches. -/
def switchNums (c : Nat) : Nat → Prop := only [ent (0x4140 + c) 0x0A, ent (0x4140 + c) 0x0B]

theorem sameBut_switchOne (y : Sys) (c line reason : Nat) (under : Bool) :
    SameBut [.channels, .boot, .tx] (switchNums c) (only [ent 0x1311 3]) y (y.switchOne c line reason under) := by
  unfold Sys.switchOne
  dsimp only
  split
  · exact .ite (fun _ => .refl y) fun _ => sameBut_setChannel _ _ (by simp)
  · refine .trans ?_ (sameBut_irqScan _ c 3 (by simp) (by simp) (by simp))
    split <;> simp [switchNums]

theorem Sys.channel_switchOne_ne (y : Sys) (c line reason : Nat) (under : Bool) {d : Nat} (hd : d ≠ c) : (y.switchOne c line reason under).channel d = y.channel d := by
  have hirq (y : Sys) : (y.irqScan c 3).channel d = y.channel d :=
    congrArg (fun l => tget (fun _ => channel0) l d)
      ((sameBut_irqScan y c 3 (fs := [.boot, .tx]) (nums := only []) (blobs := fun _ => True) (by simp) (by simp) trivial).1 .channels (by simp)).symm
  unfold Sys.switchOne
  dsimp only
  split
  · split
    · rfl
    · exact (Sys.channel_setChannel ..).trans (if_neg hd)
  · rw [hirq]
    split <;> exact (Sys.channel_setChannel ..).trans (if_neg hd)

/-- A channel that shows its frame to the end of the line before switches to what it falls back to. -/
theorem Sys.switchOne_spec (y : Sys) (c line : Nat) (h : (y.channel c).switch = none) :
    let z := y.switchOne c line 1 true
    z.channel c = { y.channel c with switch := some line, fell := some ((y.channel c).shown.getD 0, 1), underran := true } ∧
    z.rd (ent (0x4140 + c) 0x0A) = (y.rd (ent (0x4140 + c) 0x0A) + 1) % 2 ^ 32 ∧ z.rd (ent (0x4140 + c) 0x0B) = (y.rd (ent (0x4140 + c) 0x0B) + 1) % 2 ^ 32 := by
  obtain ⟨v, hv⟩ : ∃ v, v = ((y.setChannel c { y.channel c with switch := some line, fell := some ((y.channel c).shown.getD 0, 1), underran := true }).inc
    (ent (0x4140 + c) 0x0A)).inc (ent (0x4140 + c) 0x0B) := ⟨_, rfl⟩
  have hz : y.switchOne c line 1 true = v.irqScan c 3 := by
    rw [hv]
    unfold Sys.switchOne
    dsimp only
    rw [h]
    simp only [beq_self_eq_true, Bool.or_true, if_true]
  have hirq := sameBut_irqScan v c 3 (fs := [.boot, .tx]) (nums := only []) (blobs := fun _ => True) (by simp) (by simp) trivial
  intro z
  rw [show z = v.irqScan c 3 from hz]
  refine ⟨?_, (hirq.2.1 _ (by simp)).trans ?_, (hirq.2.1 _ (by simp)).trans ?_⟩
  · refine (congrArg (fun l => tget (fun _ => channel0) l c) (hirq.1 .channels (by simp)).symm).trans ?_
    rw [hv]
    exact (Sys.channel_setChannel ..).trans (if_pos rfl)
  · rw [hv]
    simp only [Sys.inc_eq]
    rw [Sys.rd_wr, if_neg (by unfold ent; omega), Sys.rd_wr, if_pos rfl]
    rfl
  · rw [hv]
    simp only [Sys.inc_eq]
    rw [Sys.rd_wr, if_pos rfl, Sys.rd_wr, if_neg (by unfold ent; omega)]
    rfl

theorem lineCommitInstant_switches (s : State) (c : Fin 24) (u : BitVec 16) :
    let ch := s.sys.channel c.val
    ch.running = true → ch.nextFetch ≤ u.toNat → ch.shown ≠ none → ch.switch = none → u.toNat < (s.sys.view.timing c.val).actH →
    s.sys.lockGroup c.val = none → Completes (.lineCommitInstant c u) s fun t =>
      t.sys.channel c.val = { ch with
        committed := max ch.committed (u.toNat + 1), switch := some u.toNat, fell := some (ch.shown.getD 0, 1), underran := true } ∧
      (∀ d, d ≠ c.val → t.sys.channel d = s.sys.channel d) ∧
      t.sys.rd (ent (0x4140 + c.val) 0x0A) = (s.sys.rd (ent (0x4140 + c.val) 0x0A) + 1) % 2 ^ 32 ∧
      t.sys.rd (ent (0x4140 + c.val) 0x0B) = (s.sys.rd (ent (0x4140 + c.val) 0x0B) + 1) % 2 ^ 32 ∧ t.otp = s.otp ∧ t.pending = s.pending := by
  intro ch hrun hmiss hshown hswitch hact hlock
  obtain ⟨v, hv⟩ : ∃ v, v = (s.sys.lineCommitted c.val u.toNat).rasterLine c.val u.toNat := ⟨_, rfl⟩
  have hraster := hv ▸ sameBut_rasterLine (s.sys.lineCommitted c.val u.toNat) c.val u.toNat (fs := [.boot, .tx]) (nums := only []) (blobs := only [ent 0x1311 3])
    (by simp) (by simp) (by simp)
  have hch (d : Nat) : v.channel d = (s.sys.lineCommitted c.val u.toNat).channel d :=
    congrArg (fun l => tget (fun _ => channel0) l d) (hraster.1 .channels (by simp)).symm
  have hmine : v.channel c.val = { ch with committed := max ch.committed (u.toNat + 1) } := (hch _).trans ((Sys.channel_setChannel ..).trans (if_pos rfl))
  have hrd (k : Nat) : v.rd k = s.sys.rd k := hraster.2.1 k (by simp)
  have hvlock : v.lockGroup c.val = none := by
    rw [← hlock]
    simp only [Sys.lockGroup, Sys.rdBit, Sys.arrayPos, hrd]
  have hruns : Runs (.lineCommitInstant c u) s (v.switchOne c.val u.toNat 1 true) := by
    have hgroup : v.switchGroup c.val u.toNat 1 true = v.switchOne c.val u.toNat 1 true := by
      have hsw := sameBut_switchOne v c.val u.toNat 1 true
      have hlock2 : (v.switchOne c.val u.toNat 1 true).lockGroup c.val = none := by
        rw [← hvlock]
        simp only [Sys.lockGroup, Sys.rdBit, Sys.arrayPos, hsw.2.1 (ent 0x2010 1) (by simp [switchNums, ent]; omega)]
        congr 1
        funext l
        rw [hsw.2.1 _ (by simp [switchNums, ent]; omega)]
      have hone : (v.lockMembers c.val).foldl (fun y d => y.switchOne d u.toNat (if 1 = 1 ∧ d ≠ c.val then 3 else 1) true) v = v.switchOne c.val u.toNat 1 true := by
        rw [Sys.lockMembers, hvlock]
        simp
      rw [Sys.switchGroup, hone]
      dsimp only
      rw [hlock2]
    have hlate : s.sys.inTime v c.val u.toNat = false := by
      have htim : v.view.timing c.val = s.sys.view.timing c.val := by
        have hb : v.view.rdB (ent (0x4120 + c.val) 3) = s.sys.view.rdB (ent (0x4120 + c.val) 3) := hraster.2.2 _ (mt List.mem_singleton.1 (by unfold ent; omega))
        have hr : v.view.rd (ent (0x4120 + c.val) 1) = s.sys.view.rd (ent (0x4120 + c.val) 1) := hrd _
        simp only [Gen.timing, hb, hr]
      have hsome : (s.sys.channel c.val).shown.isNone = false := by
        rw [← Option.not_isSome, Option.isSome_iff_ne_none.2 hshown]
        rfl
      rw [Sys.inTime, htim, hsome, show (s.sys.channel c.val).switch = none from hswitch, decide_eq_false (Nat.not_lt.2 hmiss), decide_eq_false (Nat.not_le.2 hact)]
      rfl
    have h := lineCommitInstant_runs s c u hrun
    dsimp only at h
    rwa [← hv, hlate, if_neg (by decide), hgroup] at h
  obtain ⟨hsw, ha, hb⟩ := v.switchOne_spec c.val u.toNat (by rw [hmine]; exact hswitch)
  refine ⟨_, hruns, ?_, fun d hd => ?_, ?_, ?_, rfl, rfl⟩
  · refine hsw.trans ?_
    rw [hmine]
  · exact ((v.channel_switchOne_ne c.val u.toNat 1 true hd).trans (hch d)).trans ((Sys.channel_setChannel ..).trans (if_neg hd))
  · exact ha.trans (by rw [hrd])
  · exact hb.trans (by rw [hrd])

/-! ## Partners -/

/-- The members of a lock group switch with the partner that told it. -/
def Sys.lockSwitched (y : Sys) (line reason : Nat) (ms : List Nat) : Sys :=
  ms.foldl (fun y d =>
    let first := y.view.lineAfter d (y.channel d).origin (y.t96 + (y.view.timing d).lines 2)
    y.switchOne d (max line first) (if reason = 1 then 3 else reason) false) y

theorem sameBut_lockSwitched (y : Sys) (line reason : Nat) (ms : List Nat) (h : ∀ d ∈ ms, d < 24) :
    SameBut [.channels, .boot, .tx] (indices 0x4140 24) (only [ent 0x1311 3]) y (y.lockSwitched line reason ms) := by
  refine .foldl _ _ (fun z d hd => (sameBut_switchOne z d _ _ false).mono (fun _ h => h) (fun k hk => ?_) fun _ h => h) y
  have hlt := h d hd
  simp only [switchNums, only, List.mem_cons, List.not_mem_nil, or_false] at hk
  rcases hk with rfl | rfl <;> exact indices_ent hlt (by decide)

theorem Sys.channel_lockSwitched (y : Sys) (line reason : Nat) (ms : List Nat) {d : Nat} (h : d ∉ ms) : (y.lockSwitched line reason ms).channel d = y.channel d := by
  refine List.foldlRecOn (motive := fun z : Sys => z.channel d = y.channel d) ms _ rfl fun z hz e he => ?_
  exact (Sys.channel_switchOne_ne z e _ _ false fun hde => h (by rw [hde]; exact he)).trans hz

theorem lockGroupSignal_switches (s : State) (l : Fin 8) (p : Fin 4) (u : BitVec 16) (r : Fin 4) : Completes (.lockGroupSignal l p u r) s fun t =>
    t.sys.rd (ent (0x4160 + l.val) 5) = (s.sys.rd (ent (0x4160 + l.val) 5) + 1) % 2 ^ 32 ∧ t.sys.rd (ent (0x4160 + l.val) 6) = u.toNat ∧
    (∀ d, s.sys.rdBit (ent (0x4160 + l.val) (1 + s.sys.arrayPos)) d = false → t.sys.channel d = s.sys.channel d) ∧
    t.otp = s.otp ∧ t.pending = s.pending := by
  have hl := l.isLt
  obtain ⟨ms, hms⟩ : ∃ ms, ms = (List.range 24).filter fun d => s.sys.rdBit (ent (0x4160 + l.val) (1 + s.sys.arrayPos)) d && (s.sys.channel d).running := ⟨_, rfl⟩
  have hmem (d : Nat) (h : d ∈ ms) : d < 24 ∧ s.sys.rdBit (ent (0x4160 + l.val) (1 + s.sys.arrayPos)) d = true := by
    rw [hms, List.mem_filter, Bool.and_eq_true] at h
    exact ⟨List.mem_range.1 h.1, h.2.1⟩
  obtain ⟨v, hv⟩ : ∃ v, v = ((s.sys.lockSwitched u.toNat r.val ms).inc (ent (0x4160 + l.val) 5)).wr (ent (0x4160 + l.val) 6) u.toNat := ⟨_, rfl⟩
  obtain ⟨z, hruns, hz⟩ : ∃ z, Runs (.lockGroupSignal l p u r) s z ∧ SameBut [.log] (only []) (only []) v z := by
    refine ⟨_, by rw [Runs, exec_lockGroupSignal, execLockGroupSignal, onSys_eq], ?_⟩
    dsimp only
    rw [hv, hms]
    split
    · exact sameBut_raise _ _ _ _ (by simp)
    · exact .refl _
  have hsw := sameBut_lockSwitched s.sys u.toNat r.val ms fun d h => (hmem d h).1
  refine ⟨_, hruns, (hz.2.1 _ (by simp)).trans ?_, (hz.2.1 _ (by simp)).trans ?_, fun d hd => ?_, rfl, rfl⟩
  · rw [hv, Sys.inc_eq, Sys.rd_wr, if_neg (by unfold ent; omega), Sys.rd_wr, if_pos rfl, hsw.2.1 _ (by unfold ent; omega)]
  · rw [hv]
    exact (Sys.rd_wr ..).trans (if_pos rfl)
  · have hnot : d ∉ ms := fun h => absurd (hd.symm.trans (hmem d h).2) (by decide)
    refine (congrArg (fun l => tget (fun _ => channel0) l d) (hz.1 .channels (by simp)).symm).trans ?_
    rw [hv]
    exact s.sys.channel_lockSwitched _ _ _ hnot

theorem twinSignature_alone (s : State) (c : Fin 24) (k : BitVec 64) (f g : BitVec 32) (h : s.sys.rd (ent 0x41B0 2) ≠ 1) : Runs (.twinSignature c k f g) s s.sys := by
  rw [Runs, exec_twinSignature, execTwinSignature, onSys_eq]
  dsimp only
  rw [if_neg h]

theorem twinSignature_differs (s : State) (c : Fin 24) (k : BitVec 64) (f g own : BitVec 32) (htwin : s.sys.rd (ent 0x41B0 2) = 1)
    (hown : (s.sys.channel c.val).lastSig = some own) (hk : s.sys.rd (ent (0x4140 + c.val) 2) = k.toNat) (hne : own ≠ g) :
    Completes (.twinSignature c k f g) s fun t =>
      t.sys.rd (ent (0x4140 + c.val) 0x0F) = (s.sys.rd (ent (0x4140 + c.val) 0x0F) + 1) % 2 ^ 32 ∧
      t.sys.channel c.val = { s.sys.channel c.val with twin := none } ∧ t.otp = s.otp ∧ t.pending = s.pending := by
  obtain ⟨x, hx⟩ : ∃ x, x = { s.sys.channel c.val with twin := some (k.toNat, f.toNat, g.toNat) } := ⟨_, rfl⟩
  have hch : (s.sys.setChannel c.val x).channel c.val = x := (Sys.channel_setChannel ..).trans (if_pos rfl)
  have hruns : Runs (.twinSignature c k f g) s (((((s.sys.setChannel c.val x).setChannel c.val { x with twin := none }).inc
      (ent (0x4140 + c.val) 0x0F)).raiseLimited c.val 0x0C0B c.val (ev [(0, 1, c.val), (4, 4, x.lastShown.getD 0), (8, 4, f.toNat), (12, 4, k.toNat)]))) := by
    rw [Runs, exec_twinSignature, execTwinSignature, onSys_eq]
    dsimp only
    rw [if_pos htwin, ← hx, Sys.compareTwin, hch]
    have ht : x.twin = some (k.toNat, f.toNat, g.toNat) := by rw [hx]
    have ho : x.lastSig = some own := by rw [hx]; exact hown
    dsimp only
    rw [ht, ho]
    dsimp only
    rw [if_neg (by rw [Sys.rd_setChannel, hk]; exact fun h => h rfl), if_neg (fun h => hne (BitVec.eq_of_toNat_eq h.2.symm))]
  have hlim := sameBut_raiseLimited ((((s.sys.setChannel c.val x).setChannel c.val { x with twin := none }).inc (ent (0x4140 + c.val) 0x0F))) c.val 0x0C0B c.val
    (ev [(0, 1, c.val), (4, 4, x.lastShown.getD 0), (8, 4, f.toNat), (12, 4, k.toNat)]) (fs := [.log]) (nums := only []) (blobs := only []) (by simp)
  refine ⟨_, hruns, (hlim.2.1 _ (by simp)).trans ?_, ?_, rfl, rfl⟩
  · rw [Sys.inc_eq, Sys.rd_wr, if_pos rfl]
    rfl
  · refine (congrArg (fun l => tget (fun _ => channel0) l c.val) (hlim.1 .channels (by simp)).symm).trans ?_
    refine ((Sys.channel_setChannel ..).trans (if_pos rfl)).trans ?_
    rw [hx]

/-- Settles O47. A channel that starts a frame moves no channel after its own, and the outputs that follow it move entries of their own; a line that is not there at
its instant switches the channel through the one function that a lock group's partners use as well. -/
theorem channelsSelectFetchAndSwitch : Obligations.ChannelsSelectFetchAndSwitch := by
  unfold Obligations.ChannelsSelectFetchAndSwitch
  exact ⟨outputOrigin_starts, outputOrigin_idle, lineFetch_takes, lineFetch_waits, Sys.enterSelection_picks, lineCommitInstant_commits, lineCommitInstant_switches,
    lineCommitInstant_matches, lockGroupSignal_switches, twinSignature_alone, twinSignature_differs⟩

end Sys2Proof.Machine
end

section
/-!
PROOFS. SDI inputs and panels (O48).
-/

namespace Sys2Proof.Machine

variable {fs : List Facet} {nums blobs : Nat → Prop} {y z : Sys} {s : State}

/-! ## SDI inputs -/

/-- The frames that an input keeps: the newest three. -/
def keptFrames (l : List (Nat × Nat × List (Nat × Nat))) (f : Nat × Nat × List (Nat × Nat)) : List (Nat × Nat × List (Nat × Nat)) :=
  (l ++ [f]).drop (l.length + 1 - 3)

theorem keptFrames_spec {l : List (Nat × Nat × List (Nat × Nat))} (h : l.length ≤ 3) (f : Nat × Nat × List (Nat × Nat)) :
    (keptFrames l f).length ≤ 3 ∧ ((keptFrames l f).map (·.2.1)).getLast? = some f.2.1 := by
  refine ⟨by simp [keptFrames]; omega, ?_⟩
  have hk : keptFrames l f = l.drop (l.length + 1 - 3) ++ [f] := List.drop_append_of_le_length (by omega)
  rw [hk, List.map_append, List.map_singleton, List.getLast?_append]
  rfl

/-- The pixels of a frame's rows, by their place. -/
def framePixels (rows : List (List (BitVec 48))) : List (Nat × Nat) :=
  rows.zipIdx.flatMap fun r => r.1.zipIdx.map fun p => (pxKey r.2 p.2, p.1.toNat)

/-- The entries of an SDI input that count and stamp a frame. -/
def Sys.sdiStamped (y : Sys) (i : Nat) (st : BitVec 96) (crc : BitVec 16) (tc : BitVec 32) : Sys :=
  ((y.incBy (ent (0x4180 + i) 6) crc.toNat).wrB (ent (0x4180 + i) 7) (le 4 tc.toNat)).wr (ent (0x4180 + i) 8) st.toNat

theorem sdiInputFrame_keeps (s : State) (i : Fin 4) (st : BitVec 96) (rows : List (List (BitVec 48))) (crc : BitVec 16) (tc : BitVec 32)
    (hlocked : s.sys.rd (ent (0x4180 + i.val) 2) = 2) (hlen : (s.sys.sdi i.val).frames.length ≤ 3) : Completes (.sdiInputFrame i st rows crc tc) s fun t =>
      (t.sys.sdi i.val).frames.length ≤ 3 ∧ ((t.sys.sdi i.val).frames.map (·.2.1)).getLast? = some st.toNat ∧
      t.sys.rd (ent (0x4180 + i.val) 5) = (s.sys.rd (ent (0x4180 + i.val) 5) + 1) % 2 ^ 64 ∧
      t.sys.rd (ent (0x4180 + i.val) 8) = st.toNat ∧ t.sys.rdB (ent (0x4180 + i.val) 7) = le 4 tc.toNat ∧
      Leaves [.sdis] (only ([5, 6, 8].map (ent (0x4180 + i.val)))) (only [ent (0x4180 + i.val) 7]) s t := by
  obtain ⟨n, hn⟩ : ∃ n, n = (s.sys.wr (ent (0x4180 + i.val) 5) ((s.sys.rd (ent (0x4180 + i.val) 5) + 1) % 2 ^ 64)).rd (ent (0x4180 + i.val) 5) := ⟨_, rfl⟩
  have hruns : Runs (.sdiInputFrame i st rows crc tc) s (((s.sys.wr (ent (0x4180 + i.val) 5) ((s.sys.rd (ent (0x4180 + i.val) 5) + 1) % 2 ^ 64)).setSdi i.val
      { s.sys.sdi i.val with frames := keptFrames (s.sys.sdi i.val).frames (n, st.toNat, framePixels rows) }).sdiStamped i.val st crc tc) := by
    rw [Runs, exec_sdiInputFrame, execSdiInputFrame, onSys_eq]
    dsimp only
    rw [if_neg (not_not.2 hlocked), hn]
    rfl
  have hsdi (y : Sys) (v : SdiIn) : ((y.setSdi i.val v).sdiStamped i.val st crc tc).sdi i.val = v := (Sys.sdi_setSdi ..).trans (if_pos rfl)
  obtain ⟨hlen2, hlast⟩ := keptFrames_spec hlen (n, st.toNat, framePixels rows)
  refine ⟨_, hruns, ?_, ?_, ?_, ?_, ?_, rfl, rfl, ?_⟩
  · rw [hsdi]
    exact hlen2
  · rw [hsdi]
    exact hlast
  · simp only [Sys.sdiStamped, Sys.incBy_eq]
    rw [Sys.rd_wr, if_neg (by unfold ent; omega), Sys.rd_wrB, Sys.rd_wr, if_neg (by unfold ent; omega), Sys.rd_setSdi, Sys.rd_wr, if_pos rfl]
  · exact (Sys.rd_wr ..).trans (if_pos rfl)
  · exact (Sys.rdB_wr ..).trans ((Sys.rdB_wrB ..).trans (if_pos rfl))
  · simp [Sys.sdiStamped]

theorem sdiInputFrame_unlocked (s : State) (i : Fin 4) (st : BitVec 96) (rows : List (List (BitVec 48))) (crc : BitVec 16) (tc : BitVec 32)
    (h : s.sys.rd (ent (0x4180 + i.val) 2) ≠ 2) : Runs (.sdiInputFrame i st rows crc tc) s s.sys := by
  rw [Runs, exec_sdiInputFrame, execSdiInputFrame, onSys_eq]
  dsimp only
  rw [if_pos h]

/-- What an input keeps when its state changes: the instant at which it left LOCKED. -/
def SdiIn.stateChanged (x : SdiIn) (old new up : Nat) : SdiIn :=
  if new = 2 then { x with holdFrom := none, expired := false } else { x with holdFrom := if old = 2 then some up else x.holdFrom }

theorem sdiInputState_tells (s : State) (i st : Fin 4) (f : Fin 15) (hon : s.sys.rd (ent (0x4180 + i.val) 1) = 1) (hheld : s.sys.portsHeld 24 = false)
    (hnew : s.sys.rd (ent (0x4180 + i.val) 2) ≠ st.val) (hroom : Room s) : Completes (.sdiInputState i st f) s fun t =>
      t.sys.rd (ent (0x4180 + i.val) 2) = st.val ∧ t.sys.rd (ent (0x4180 + i.val) 3) = f.val ∧
      (st.val ≠ 2 → s.sys.rd (ent (0x4180 + i.val) 2) = 2 → (t.sys.sdi i.val).holdFrom = some s.sys.up) ∧
      Logs s t 0x0C07 i.val (ev [(0, 1, i.val), (1, 1, s.sys.rd (ent (0x4180 + i.val) 2)), (2, 1, st.val), (3, 1, f.val)]) ∧
      Leaves [.sdis, .log] (only ([2, 3].map (ent (0x4180 + i.val)))) (only []) s t := by
  have hruns : Runs (.sdiInputState i st f) s ((((s.sys.wr (ent (0x4180 + i.val) 2) st.val).wr (ent (0x4180 + i.val) 3) f.val).setSdi i.val
      ((s.sys.sdi i.val).stateChanged (s.sys.rd (ent (0x4180 + i.val) 2)) st.val s.sys.up)).raise 0x0C07 i.val
      (ev [(0, 1, i.val), (1, 1, s.sys.rd (ent (0x4180 + i.val) 2)), (2, 1, st.val), (3, 1, f.val)])) := by
    rw [Runs, exec_sdiInputState, execSdiInputState, onSys_eq]
    dsimp only
    rw [if_pos (⟨hon, by rw [hheld]; rfl⟩ : s.sys.rd (ent (0x4180 + i.val) 1) = 1 ∧ (!s.sys.portsHeld 24) = true), if_neg fun h => hnew h.1]
    rfl
  refine ⟨_, hruns, ?_, ?_, fun hst hwas => ?_, Sys.log_raise _ _ _ _ hroom, rfl, rfl, by simp⟩
  · rw [Sys.rd_raise, Sys.rd_setSdi, Sys.rd_wr, if_neg (by unfold ent; omega), Sys.rd_wr, if_pos rfl]
  · rw [Sys.rd_raise, Sys.rd_setSdi, Sys.rd_wr, if_pos rfl]
  · have hs (y : Sys) (v : SdiIn) (b : Bytes) : ((y.setSdi i.val v).raise 0x0C07 i.val b).sdi i.val = v :=
      (congrArg (fun l => tget (fun _ => sdi0) l i.val) (Sys.raise_sdis ..)).trans ((Sys.sdi_setSdi ..).trans (if_pos rfl))
    rw [hs, SdiIn.stateChanged, if_neg hst, if_pos hwas]

theorem sdiInputHoldEnd_ends (s : State) (i : Fin 4) (h : (s.sys.sdi i.val).holdFrom ≠ none) : Completes (.sdiInputHoldEnd i) s fun t =>
    (t.sys.sdi i.val).frames = [] ∧ (t.sys.sdi i.val).expired = true ∧ Leaves [.sdis] (only []) (only []) s t := by
  have hruns : Runs (.sdiInputHoldEnd i) s (s.sys.setSdi i.val { s.sys.sdi i.val with frames := [], expired := true }) := by
    rw [Runs, exec_sdiInputHoldEnd, execSdiInputHoldEnd, onSys_eq]
    dsimp only
    rw [if_pos (Option.isSome_iff_ne_none.2 h)]
  have hs : (s.sys.setSdi i.val { s.sys.sdi i.val with frames := [], expired := true }).sdi i.val = { s.sys.sdi i.val with frames := [], expired := true } :=
    (Sys.sdi_setSdi ..).trans (if_pos rfl)
  exact ⟨_, hruns, congrArg (·.frames) hs, congrArg (·.expired) hs, rfl, rfl, sameBut_setSdi _ _ (by simp)⟩

theorem sdiInputHoldEnd_idle (s : State) (i : Fin 4) (h : (s.sys.sdi i.val).holdFrom = none) : Runs (.sdiInputHoldEnd i) s s.sys := by
  rw [Runs, exec_sdiInputHoldEnd, execSdiInputHoldEnd, onSys_eq]
  dsimp only
  rw [h]
  rfl

/-! ## Panels: power -/

/-- What an eDP port does after an update, it does to the port that the update names. -/
theorem Sys.edp_same (y : Sys) (p : Nat) (v : EdpPort) : (y.setEdp p v).edp p = v := (Sys.edp_setEdp ..).trans (if_pos rfl)

theorem edpEnable_resting (s : State) (p : Fin 2) (h : s.sys.rd (ent (0x4188 + p.val) 0x0C) = 0 ∨ s.sys.rd (ent (0x4188 + p.val) 0x0C) = 5) :
    Runs (.edpEnable p) s ((s.sys.wr (ent (0x4188 + p.val) 2) 1).edpPower p.val) := by
  have hst : (s.sys.wr (ent (0x4188 + p.val) 2) 1).rd (ent (0x4188 + p.val) 0x0C) = s.sys.rd (ent (0x4188 + p.val) 0x0C) :=
    (Sys.rd_wr ..).trans (if_neg (by unfold ent; omega))
  rw [Runs, exec_edpEnable, execEdpEnable, onSys_eq]
  dsimp only
  rw [hst, if_pos h]

/-- A port that is enabled reads its channel, its lanes and its rates as before. -/
theorem Sys.rd_enabled (y : Sys) (p : Nat) {k : Nat} (h : k ≠ ent (0x4188 + p) 2) : (y.wr (ent (0x4188 + p) 2) 1).rd k = y.rd k :=
  (Sys.rd_wr ..).trans (if_neg h)

theorem Gen.edpFits_congr {g h : Gen} (p : Nat) (hr : ∀ e ∈ [1, 3, 4, 5], g.rd (ent (0x4188 + p) e) = h.rd (ent (0x4188 + p) e))
    (ht : g.timing (h.rd (ent (0x4188 + p) 1)) = h.timing (h.rd (ent (0x4188 + p) 1))) : g.edpFits p = h.edpFits p := by
  simp only [Gen.edpFits, hr 1 (by decide), hr 3 (by decide), hr 4 (by decide), hr 5 (by decide), ht]

theorem Sys.edpFits_enabled (y : Sys) {p : Nat} (_ : y.rd (ent (0x4188 + p) 1) < 24) : (y.wr (ent (0x4188 + p) 2) 1).view.edpFits p = y.view.edpFits p := by
  refine Gen.edpFits_congr p (fun e he => Sys.rd_enabled y p ?_) ?_
  · simp only [List.mem_cons, List.not_mem_nil, or_false] at he
    unfold ent
    omega
  · have hr : (y.wr (ent (0x4188 + p) 2) 1).view.rd (ent (0x4120 + y.rd (ent (0x4188 + p) 1)) 1) = y.view.rd (ent (0x4120 + y.rd (ent (0x4188 + p) 1)) 1) :=
      Sys.rd_enabled y p (by unfold ent; omega)
    have hb : (y.wr (ent (0x4188 + p) 2) 1).view.rdB (ent (0x4120 + y.rd (ent (0x4188 + p) 1)) 3) = y.view.rdB (ent (0x4120 + y.rd (ent (0x4188 + p) 1)) 3) := rfl
    simp only [Gen.timing]
    exact congrArg₂ (fun a b => (stdTiming a).getD (customTiming b)) hr hb

theorem Sys.edpPower_enabled (y : Sys) (p : Nat) (hheld : y.portsHeld 26 = false) (hshed : y.isShed 2 p = false) (hc : y.rd (ent (0x4188 + p) 1) < 24)
    (hon : y.view.chanOn (y.rd (ent (0x4188 + p) 1)) = true) :
    (y.wr (ent (0x4188 + p) 2) 1).edpPower p =
      if y.up < (y.edp p).notBefore then (y.wr (ent (0x4188 + p) 2) 1).setEdp p { y.edp p with due := true }
      else if !y.view.edpFits p then
        Sys.raise ((y.wr (ent (0x4188 + p) 2) 1).wr (ent (0x4188 + p) 0x0C) 5) 0x0C08 p (ev [(0, 1, p), (1, 1, 3)])
      else Sys.wr ((y.wr (ent (0x4188 + p) 2) 1).setEdp p { edp0 with vdd := true, waitHpd := true }) (ent (0x4188 + p) 0x0C) 1 := by
  have h1 : (y.wr (ent (0x4188 + p) 2) 1).rd (ent (0x4188 + p) 1) = y.rd (ent (0x4188 + p) 1) := Sys.rd_enabled y p (by unfold ent; omega)
  have hon2 : (y.wr (ent (0x4188 + p) 2) 1).view.chanOn (y.rd (ent (0x4188 + p) 1)) = true := by
    rw [← hon]
    exact congrArg (· == 1) (Sys.rd_enabled y p (by unfold ent; omega))
  have hgo : ((y.wr (ent (0x4188 + p) 2) 1).portsHeld 26 || (y.wr (ent (0x4188 + p) 2) 1).isShed 2 p ||
      !(decide (y.rd (ent (0x4188 + p) 1) < 24) && (y.wr (ent (0x4188 + p) 2) 1).view.chanOn (y.rd (ent (0x4188 + p) 1)))) = false := by
    rw [hon2, decide_eq_true hc, show (y.wr (ent (0x4188 + p) 2) 1).portsHeld 26 = false from hheld,
      show (y.wr (ent (0x4188 + p) 2) 1).isShed 2 p = false from hshed]
    rfl
  rw [Sys.edpPower]
  dsimp only
  rw [h1, hgo, if_neg (by decide), y.edpFits_enabled hc]
  rfl

theorem edpEnable_powers (s : State) (p : Fin 2) : let c := s.sys.rd (ent (0x4188 + p.val) 1)
    s.sys.rd (ent (0x4188 + p.val) 0x0C) = 0 ∨ s.sys.rd (ent (0x4188 + p.val) 0x0C) = 5 → s.sys.portsHeld 26 = false →
    s.sys.isShed 2 p.val = false → (s.sys.edp p.val).notBefore ≤ s.sys.up → c < 24 → s.sys.view.chanOn c = true → s.sys.view.edpFits p.val = true →
    Completes (.edpEnable p) s fun t =>
      t.sys.rd (ent (0x4188 + p.val) 0x0C) = 1 ∧ (t.sys.edp p.val).vdd = true ∧ (t.sys.edp p.val).waitHpd = true ∧
      t.sys.rd (ent (0x4188 + p.val) 2) = 1 ∧ Leaves [.edps] (only ([2, 0x0C].map (ent (0x4188 + p.val)))) (only []) s t := by
  intro c hst hheld hshed hup hc hon hfits
  have hruns := edpEnable_resting s p hst
  rw [Sys.edpPower_enabled _ _ hheld hshed hc hon, if_neg (Nat.not_lt.2 hup), if_neg (by rw [hfits]; decide)] at hruns
  have hedp (y : Sys) (v : EdpPort) (k n : Nat) : ((y.setEdp p.val v).wr k n).edp p.val = v := Sys.edp_same y p.val v
  refine ⟨_, hruns, (Sys.rd_wr ..).trans (if_pos rfl), by rw [hedp], by rw [hedp], ?_, rfl, rfl, by simp⟩
  rw [Sys.rd_wr, if_neg (by unfold ent; omega)]
  exact (Sys.rd_wr ..).trans (if_pos rfl)

theorem edpEnable_waits (s : State) (p : Fin 2) : let c := s.sys.rd (ent (0x4188 + p.val) 1)
    s.sys.rd (ent (0x4188 + p.val) 0x0C) = 0 ∨ s.sys.rd (ent (0x4188 + p.val) 0x0C) = 5 → s.sys.portsHeld 26 = false →
    s.sys.isShed 2 p.val = false → s.sys.up < (s.sys.edp p.val).notBefore → c < 24 → s.sys.view.chanOn c = true → Completes (.edpEnable p) s fun t =>
      t.sys.edp p.val = { s.sys.edp p.val with due := true } ∧ Leaves [.edps] (only [ent (0x4188 + p.val) 2]) (only []) s t := by
  intro c hst hheld hshed hup hc hon
  have hruns := edpEnable_resting s p hst
  rw [Sys.edpPower_enabled _ _ hheld hshed hc hon, if_pos hup] at hruns
  exact ⟨_, hruns, Sys.edp_same .., rfl, rfl, by simp⟩

theorem edpEnable_held (s : State) (p : Fin 2) (h : s.sys.portsHeld 26 = true ∨ s.sys.isShed 2 p.val = true) :
    Runs (.edpEnable p) s (s.sys.wr (ent (0x4188 + p.val) 2) 1) := by
  have hstop : (s.sys.wr (ent (0x4188 + p.val) 2) 1).edpPower p.val = s.sys.wr (ent (0x4188 + p.val) 2) 1 := by
    have hb : (((s.sys.wr (ent (0x4188 + p.val) 2) 1).portsHeld 26 || (s.sys.wr (ent (0x4188 + p.val) 2) 1).isShed 2 p.val)) = true :=
      (Bool.or_eq_true ..).mpr h
    rw [Sys.edpPower]
    dsimp only
    rw [hb, Bool.true_or, if_pos rfl]
  rw [Runs, exec_edpEnable, execEdpEnable, onSys_eq]
  dsimp only
  split
  · rw [hstop]
  · rfl

theorem Sys.edpOff_spec (y : Sys) (p st : Nat) : (y.edpOff p st).rd (ent (0x4188 + p) 0x0C) = st ∧
    (y.edpOff p st).edp p = { edp0 with notBefore := y.up + y.edpTime p 3 } ∧ SameBut [.edps] (only [ent (0x4188 + p) 0x0C]) (only []) y (y.edpOff p st) :=
  ⟨(Sys.rd_wr ..).trans (if_pos rfl), Sys.edp_same y p _, by simp [Sys.edpOff]⟩

theorem edpDisable_ends (s : State) (p : Fin 2) : Completes (.edpDisable p) s fun t =>
    t.sys.rd (ent (0x4188 + p.val) 0x0C) = 0 ∧ t.sys.rd (ent (0x4188 + p.val) 2) = 0 ∧ (t.sys.edp p.val).vdd = false ∧
    (t.sys.edp p.val).blen = false ∧ (t.sys.edp p.val).video = false ∧
    (t.sys.edp p.val).notBefore = s.sys.up + rdLe (s.sys.rdB (ent (0x4188 + p.val) 0x0B)) 6 2 * 1000000 ∧
    Leaves [.edps] (only ([2, 0x0C].map (ent (0x4188 + p.val)))) (only []) s t := by
  obtain ⟨hst, hedp, hframe⟩ := (s.sys.wr (ent (0x4188 + p.val) 2) 0).edpOff_spec p.val 0
  have hruns : Runs (.edpDisable p) s ((s.sys.wr (ent (0x4188 + p.val) 2) 0).edpOff p.val 0) := by
    rw [Runs, exec_edpDisable, execEdpDisable, onSys_eq]
  have hafter : (s.sys.wr (ent (0x4188 + p.val) 2) 0).up + (s.sys.wr (ent (0x4188 + p.val) 2) 0).edpTime p.val 3 =
      s.sys.up + rdLe (s.sys.rdB (ent (0x4188 + p.val) 0x0B)) 6 2 * 1000000 := by
    simp only [Sys.edpTime, Sys.rdB_wr, Sys.wr_up, Nat.reduceMul]
  rw [hafter] at hedp
  refine ⟨_, hruns, hst, ?_, congrArg (·.vdd) hedp, congrArg (·.blen) hedp, congrArg (·.video) hedp, congrArg (·.notBefore) hedp, rfl, rfl, ?_⟩
  · exact (hframe.2.1 _ (mt List.mem_singleton.1 (by unfold ent; omega))).trans ((Sys.rd_wr ..).trans (if_pos rfl))
  · exact (sameBut_wr _ _ _ (by simp)).trans (hframe.mono (fun _ h => h) (fun k h => by rw [List.mem_singleton.1 h]; simp) fun _ h => h)

/-- A port that fails, or whose panel goes, is switched off and tells why. -/
theorem Sys.edpOff_told (y : Sys) (p st : Nat) (data : Bytes) (hroom : y.log.pending.length < 256) : let z := (y.edpOff p st).raise 0x0C08 p data
    z.rd (ent (0x4188 + p) 0x0C) = st ∧ (z.edp p).vdd = false ∧ z.log.pending = y.log.pending ++ [⟨y.t96, 0x0C08, severity 0x0C08, p, data⟩] ∧
    SameBut [.edps, .log] (only [ent (0x4188 + p) 0x0C]) (only []) y z := by
  obtain ⟨hst, hedp, hframe⟩ := y.edpOff_spec p st
  have hlog : y.log = (y.edpOff p st).log := hframe.1 .log (by simp)
  have ht : y.t96 = (y.edpOff p st).t96 := hframe.1 .t96 (by simp)
  have hwait := Sys.log_raise (y.edpOff p st) 0x0C08 p data (by rw [← hlog]; exact hroom)
  rw [← hlog, ← ht] at hwait
  refine ⟨(Sys.rd_raise ..).trans hst, ?_, hwait, (hframe.mono (by simp) (fun _ h => h) fun _ h => h).trans (sameBut_raise _ _ _ _ (by simp))⟩
  have he : ((y.edpOff p st).raise 0x0C08 p data).edp p = (y.edpOff p st).edp p := congrArg (fun l => tget (fun _ => edp0) l p) (Sys.raise_edps ..)
  exact (congrArg (·.vdd) he).trans (congrArg (·.vdd) hedp)

/-! ## Panels: training, video and failures -/

theorem edpHpdHigh_trains (s : State) (p : Fin 2) (psr fast : Bool) (hvdd : (s.sys.edp p.val).vdd = true) (hwait : (s.sys.edp p.val).waitHpd = true) :
    Completes (.edpHpdHigh p psr fast) s fun t =>
      t.sys.rd (ent (0x4188 + p.val) 0x0C) = 2 ∧
      t.sys.edp p.val = { s.sys.edp p.val with waitHpd := false, psrOk := psr, fastTrain := fast, attempts := 0 } ∧
      Leaves [.edps] (only [ent (0x4188 + p.val) 0x0C]) (only []) s t := by
  have hruns : Runs (.edpHpdHigh p psr fast) s ((s.sys.setEdp p.val { s.sys.edp p.val with waitHpd := false, psrOk := psr, fastTrain := fast, attempts := 0 }).wr
      (ent (0x4188 + p.val) 0x0C) 2) := by
    rw [Runs, exec_edpHpdHigh, execEdpHpdHigh, onSys_eq]
    dsimp only
    rw [if_pos (by rw [hvdd, hwait]; rfl)]
  exact ⟨_, hruns, (Sys.rd_wr ..).trans (if_pos rfl), Sys.edp_same s.sys p.val _, rfl, rfl, by simp⟩

theorem edpHpdTimeout_fails (s : State) (p : Fin 2) (hwait : (s.sys.edp p.val).waitHpd = true) (hroom : Room s) : Completes (.edpHpdTimeout p) s fun t =>
    t.sys.rd (ent (0x4188 + p.val) 0x0C) = 5 ∧ (t.sys.edp p.val).vdd = false ∧ Logs s t 0x0C08 p.val (ev [(0, 1, p.val)]) ∧
    Leaves [.edps, .log] (only [ent (0x4188 + p.val) 0x0C]) (only []) s t := by
  have hruns : Runs (.edpHpdTimeout p) s ((s.sys.edpOff p.val 5).raise 0x0C08 p.val (ev [(0, 1, p.val)])) := by
    rw [Runs, exec_edpHpdTimeout, execEdpHpdTimeout, onSys_eq]
    dsimp only
    rw [if_pos hwait]
  obtain ⟨hst, hvdd, hlog, hframe⟩ := s.sys.edpOff_told p.val 5 (ev [(0, 1, p.val)]) hroom
  exact ⟨_, hruns, hst, hvdd, hlog, rfl, rfl, hframe⟩

theorem edpTrainingDone_passes (s : State) (p : Fin 2) (hst : s.sys.rd (ent (0x4188 + p.val) 0x0C) = 2) : Completes (.edpTrainingDone p true) s fun t =>
    t.sys.edp p.val = { s.sys.edp p.val with trained := true, attempts := 0 } ∧ Leaves [.edps] (only []) (only []) s t := by
  have hruns : Runs (.edpTrainingDone p true) s (s.sys.setEdp p.val { s.sys.edp p.val with trained := true, attempts := 0 }) := by
    rw [Runs, exec_edpTrainingDone, execEdpTrainingDone, onSys_eq]
    dsimp only
    rw [if_neg (not_not.2 hst), if_pos rfl]
  exact ⟨_, hruns, Sys.edp_same .., rfl, rfl, sameBut_setEdp _ _ (by simp)⟩

theorem edpTrainingDone_fails (s : State) (p : Fin 2) (hst : s.sys.rd (ent (0x4188 + p.val) 0x0C) = 2) (htried : 2 ≤ (s.sys.edp p.val).attempts) (hroom : Room s) :
    Completes (.edpTrainingDone p false) s fun t =>
      t.sys.rd (ent (0x4188 + p.val) 0x0C) = 5 ∧ Logs s t 0x0C08 p.val (ev [(0, 1, p.val), (1, 1, 1)]) ∧
      Leaves [.edps, .log] (only [ent (0x4188 + p.val) 0x0C]) (only []) s t := by
  have hruns : Runs (.edpTrainingDone p false) s ((s.sys.edpOff p.val 5).raise 0x0C08 p.val (ev [(0, 1, p.val), (1, 1, 1)])) := by
    rw [Runs, exec_edpTrainingDone, execEdpTrainingDone, onSys_eq]
    dsimp only
    rw [if_neg (not_not.2 hst), if_neg (by decide), if_neg (Nat.not_lt.2 htried)]
  obtain ⟨hst, -, hlog, hframe⟩ := s.sys.edpOff_told p.val 5 (ev [(0, 1, p.val), (1, 1, 1)]) hroom
  exact ⟨_, hruns, hst, hlog, rfl, rfl, hframe⟩

theorem edpHpdIrq_retrains (s : State) (p : Fin 2) (hst : s.sys.rd (ent (0x4188 + p.val) 0x0C) = 3 ∨ s.sys.rd (ent (0x4188 + p.val) 0x0C) = 4) :
    Completes (.edpHpdIrq p true) s fun t =>
      t.sys.rd (ent (0x4188 + p.val) 0x0C) = 2 ∧ t.sys.edp p.val = { s.sys.edp p.val with attempts := 0, trained := false } ∧
      Leaves [.edps] (only [ent (0x4188 + p.val) 0x0C]) (only []) s t := by
  have hruns : Runs (.edpHpdIrq p true) s ((s.sys.setEdp p.val { s.sys.edp p.val with attempts := 0, trained := false }).wr (ent (0x4188 + p.val) 0x0C) 2) := by
    rw [Runs, exec_edpHpdIrq, execEdpHpdIrq, onSys_eq]
    dsimp only
    rw [if_pos (by rcases hst with h | h <;> rw [h] <;> rfl)]
  exact ⟨_, hruns, (Sys.rd_wr ..).trans (if_pos rfl), Sys.edp_same s.sys p.val _, rfl, rfl, by simp⟩

theorem edpUnplug_ends (s : State) (p : Fin 2) (hvdd : (s.sys.edp p.val).vdd = true) (hwait : (s.sys.edp p.val).waitHpd = false) (hroom : Room s) :
    Completes (.edpUnplug p) s fun t =>
      t.sys.rd (ent (0x4188 + p.val) 0x0C) = 0 ∧ (t.sys.edp p.val).vdd = false ∧ Logs s t 0x0C08 p.val (ev [(0, 1, p.val), (1, 1, 2)]) ∧
      Leaves [.edps, .log] (only [ent (0x4188 + p.val) 0x0C]) (only []) s t := by
  have hruns : Runs (.edpUnplug p) s ((s.sys.edpOff p.val 0).raise 0x0C08 p.val (ev [(0, 1, p.val), (1, 1, 2)])) := by
    rw [Runs, exec_edpUnplug, execEdpUnplug, onSys_eq]
    dsimp only
    rw [if_pos (by rw [hvdd, hwait]; rfl)]
  obtain ⟨hst, hoff, hlog, hframe⟩ := s.sys.edpOff_told p.val 0 (ev [(0, 1, p.val), (1, 1, 2)]) hroom
  exact ⟨_, hruns, hst, hoff, hlog, rfl, rfl, hframe⟩

theorem edpBacklightOn_lights (s : State) (p : Fin 2) (hvideo : (s.sys.edp p.val).video = true) : Completes (.edpBacklightOn p) s fun t =>
    t.sys.edp p.val = { s.sys.edp p.val with blen := !s.sys.isShed 2 p.val, pwm := true } ∧ Leaves [.edps] (only []) (only []) s t := by
  have hruns : Runs (.edpBacklightOn p) s (s.sys.setEdp p.val { s.sys.edp p.val with blen := !s.sys.isShed 2 p.val, pwm := true }) := by
    rw [Runs, exec_edpBacklightOn, execEdpBacklightOn, onSys_eq]
    dsimp only
    rw [if_pos hvideo]
  exact ⟨_, hruns, Sys.edp_same .., rfl, rfl, sameBut_setEdp _ _ (by simp)⟩

/-- Settles O48. A panel's commands set its port and its state entry; those that switch it off all go through `edpOff`. -/
theorem inputsAndPanelsFollowTheirSteps : Obligations.InputsAndPanelsFollowTheirSteps := by
  unfold Obligations.InputsAndPanelsFollowTheirSteps
  exact ⟨sdiInputFrame_keeps, sdiInputFrame_unlocked, sdiInputState_tells, sdiInputHoldEnd_ends, sdiInputHoldEnd_idle, edpEnable_powers, edpEnable_waits,
    edpEnable_held, edpDisable_ends, edpHpdHigh_trains, edpHpdTimeout_fails, edpTrainingDone_passes, edpTrainingDone_fails, edpHpdIrq_retrains,
    fun _ _ => rfl, edpUnplug_ends, edpBacklightOn_lights⟩

end Sys2Proof.Machine
end

section
/-!
PROOFS. ST 2110 streams and audio ports (O49).
-/

namespace Sys2Proof.Machine

variable {fs : List Facet} {nums blobs : Nat → Prop} {y z : Sys} {s : State}

/-! ## Packets leave on every path that is up -/

/-- One message on each path. -/
def Sys.sendOn {α : Type} (y : Sys) (l : List α) (m : α → Tx) : Sys := l.foldl (fun y q => y.send (m q)) y

theorem Sys.sendOn_spec {α : Type} (y : Sys) (l : List α) (m : α → Tx) :
    SameBut [.tx] (only []) (only []) y (y.sendOn l m) ∧ (y.sendOn l m).tx = y.tx ++ l.map m := by
  have h := foldl_send (l.map m) y
  rwa [List.foldl_map] at h

/-- The counts of a stream that has sent a packet on some path. -/
def Sys.streamCounted (y : Sys) (n : Nat) (late : Bool) : Sys :=
  let y := y.inc64 (ent (0x4190 + n) 0x0C) 1
  if late then y.inc (ent (0x4190 + n) 0x0D) else y

theorem sameBut_streamCounted (y : Sys) (n : Nat) (late : Bool) (hc : nums (ent (0x4190 + n) 0x0C)) (hd : nums (ent (0x4190 + n) 0x0D)) :
    SameBut fs nums blobs y (y.streamCounted n late) := by
  cases late <;> simp [Sys.streamCounted, hc, hd]

theorem Sys.packetCounted_eq (y : Sys) {n : Nat} (h : y.pathsUp n ≠ []) (late : Bool) :
    (let y := if (y.pathsUp n).isEmpty then y else y.inc64 (ent (0x4190 + n) 0x0C) 1
     if late then y.inc (ent (0x4190 + n) 0x0D) else y) = y.streamCounted n late := by
  have hsome : (y.pathsUp n).isEmpty = false := List.isEmpty_eq_false_iff.2 h
  simp only [hsome, Sys.streamCounted, Bool.false_eq_true, if_false]

theorem Sys.pathsUp_congr {y z : Sys} (h : SameBut [.tx] (only []) (only []) y z) (n : Nat) : z.pathsUp n = y.pathsUp n := by
  have hr (k : Nat) : z.rd k = y.rd k := h.2.1 k (by simp)
  have hp : y.pathsDown = z.pathsDown := h.1 .pathsDown (by simp)
  simp only [Sys.pathsUp, Sys.paths, Sys.quadUp, hr, hp]

/-- The packet of a video stream on a path. -/
def Sys.videoPacket (y : Sys) (n p : Nat) (q : Nat × Nat) : Tx :=
  let c := y.rd (ent (0x4190 + n) 1)
  let seq := ((y.channel c).index * y.view.packets c + p) % 2 ^ 32
  .rtp 0 n q.1 seq (rtpHeader (p + 1 == y.view.packets c) (y.rd (ent (0x4190 + n) 5)) (seq % 65536) (y.rtpStamp c)
    (rdLe (y.rdB (ent (0x4190 + n) 4)) 24 4) ++ be 2 (seq / 65536) ++ y.srd c p)

/-- The packet of a stream's time code and host packets on a path. -/
def Sys.ancPacket (y : Sys) (n : Nat) (q : Nat × Nat) : Tx :=
  let c := y.rd (ent (0x4190 + n) 1)
  let k := (y.channel c).index
  .rtp 1 n q.1 (k % 2 ^ 32) (rtpHeader true (y.rd (ent (0x4190 + n) 5)) (k % 65536) (y.rtpStamp c) (rdLe (y.rdB (ent (0x4190 + n) 0x0A)) 24 4) ++
    be 2 (k / 65536) ++ (y.timeCode c).map (BitVec.ofNat 8) ++ y.rdB (ent (0x4100 + c) 0x0C))

theorem st2110PacketSend_sends (s : State) (n : Fin 8) (p : BitVec 32) (late : Bool) : let c := s.sys.rd (ent (0x4190 + n.val) 1)
    c < 24 → (s.sys.channel c).running = true → s.sys.isShed 5 n.val = false → p.toNat < s.sys.view.packets c → s.sys.pathsUp n.val ≠ [] →
    Completes (.st2110PacketSend n p late) s fun t =>
      t.sys.tx.length = s.sys.tx.length + (s.sys.pathsUp n.val).length ∧ (∃ l, t.sys.tx = s.sys.tx ++ l) ∧
      t.sys.rd (ent (0x4190 + n.val) 0x0C) = (s.sys.rd (ent (0x4190 + n.val) 0x0C) + 1) % 2 ^ 64 ∧
      (late = true → t.sys.rd (ent (0x4190 + n.val) 0x0D) = (s.sys.rd (ent (0x4190 + n.val) 0x0D) + 1) % 2 ^ 32) ∧
      Leaves [.tx] (indices 0x4190 8) (only []) s t := by
  intro c hc hrun hshed hp hup
  obtain ⟨m, hruns⟩ : ∃ m : Nat × Nat → Tx, Runs (.st2110PacketSend n p late) s
      (((s.sys.sendOn (s.sys.pathsUp n.val) m).streamCounted n.val late).showStream n.val) := by
    refine ⟨s.sys.videoPacket n.val p.toNat, ?_⟩
    have hgo : (!(decide (c < 24) && (s.sys.channel c).running) || s.sys.isShed 5 n.val || decide (s.sys.view.packets c ≤ p.toNat)) = false := by
      rw [decide_eq_true hc, hrun, hshed, decide_eq_false (Nat.not_le.2 hp)]
      rfl
    have hsome : (s.sys.sendOn (s.sys.pathsUp n.val) (s.sys.videoPacket n.val p.toNat)).pathsUp n.val ≠ [] := by
      rw [Sys.pathsUp_congr (Sys.sendOn_spec ..).1]
      exact hup
    rw [Runs, exec_st2110PacketSend, execSt2110PacketSend, onSys_eq, ← Sys.packetCounted_eq _ hsome late]
    dsimp only
    rw [if_neg (by rw [hgo]; decide)]
    rfl
  obtain ⟨hsend, htx⟩ := s.sys.sendOn_spec (s.sys.pathsUp n.val) m
  have hcount : SameBut [] (indices 0x4190 8) (only []) (s.sys.sendOn (s.sys.pathsUp n.val) m)
      (((s.sys.sendOn (s.sys.pathsUp n.val) m).streamCounted n.val late).showStream n.val) :=
    (sameBut_streamCounted _ _ _ (indices_ent n.isLt (by decide)) (indices_ent n.isLt (by decide))).trans
      (sameBut_showStream _ _ (indices_ent n.isLt (by decide)) (indices_ent n.isLt (by decide)))
  have htx2 := (hcount.1 .tx (by simp)).symm.trans htx
  have hshow (e : Nat) (h8 : e ≠ 8) (hF : e ≠ 0x0F) (y : Sys) : (y.showStream n.val).rd (ent (0x4190 + n.val) e) = y.rd (ent (0x4190 + n.val) e) := by
    rw [Sys.showStream, Sys.rd_wr, if_neg (by unfold ent; omega), Sys.rd_wr, if_neg (by unfold ent; omega)]
  refine ⟨_, hruns, ?_, ⟨_, htx2⟩, ?_, fun hlate => ?_, rfl, rfl, (hsend.mono (by simp) (by simp) (by simp)).trans (hcount.mono (by simp) (fun _ h => h) fun _ h => h)⟩
  · rw [htx2, List.length_append, List.length_map]
  · rw [hshow _ (by decide) (by decide), Sys.streamCounted]
    cases late
    · rw [if_neg (by decide), Sys.inc64_eq, Sys.rd_wr, if_pos rfl, hsend.2.1 _ (by simp)]
    · rw [if_pos rfl, Sys.inc_eq, Sys.rd_wr, if_neg (by unfold ent; omega), Sys.inc64_eq, Sys.rd_wr, if_pos rfl, hsend.2.1 _ (by simp)]
  · rw [hshow _ (by decide) (by decide), Sys.streamCounted]
    rw [hlate, if_pos rfl, Sys.inc_eq, Sys.rd_wr, if_pos rfl, Sys.inc64_eq, Sys.rd_wr, if_neg (by unfold ent; omega), hsend.2.1 _ (by simp)]

theorem st2110PacketSend_shed (s : State) (n : Fin 8) (p : BitVec 32) (late : Bool) (h : s.sys.isShed 5 n.val = true) :
    Runs (.st2110PacketSend n p late) s (s.sys.showStream n.val) := by
  rw [Runs, exec_st2110PacketSend, execSt2110PacketSend, onSys_eq]
  dsimp only
  rw [if_pos (by rw [h, Bool.or_true, Bool.true_or])]

theorem st2110AncSend_sends (s : State) (n : Fin 8) : let c := s.sys.rd (ent (0x4190 + n.val) 1)
    s.sys.rd (ent (0x4190 + n.val) 9) = 1 → c < 24 → (s.sys.channel c).running = true → Completes (.st2110AncSend n) s fun t =>
      t.sys.tx.length = s.sys.tx.length + (s.sys.pathsUp n.val).length ∧ (∃ l, t.sys.tx = s.sys.tx ++ l) ∧
      Leaves [.tx] (only []) (only []) s t := by
  intro c h9 hc hrun
  obtain ⟨m, hruns⟩ : ∃ m : Nat × Nat → Tx, Runs (.st2110AncSend n) s (s.sys.sendOn (s.sys.pathsUp n.val) m) := by
    refine ⟨s.sys.ancPacket n.val, ?_⟩
    rw [Runs, exec_st2110AncSend, execSt2110AncSend, onSys_eq]
    dsimp only
    rw [if_pos ⟨h9, hc, hrun⟩]
    rfl
  obtain ⟨hsend, htx⟩ := s.sys.sendOn_spec (s.sys.pathsUp n.val) m
  exact ⟨_, hruns, by dsimp only; rw [htx, List.length_append, List.length_map], ⟨_, htx⟩, rfl, rfl, hsend⟩

theorem st2110AncSend_off (s : State) (n : Fin 8) (h : s.sys.rd (ent (0x4190 + n.val) 9) ≠ 1) : Runs (.st2110AncSend n) s s.sys := by
  rw [Runs, exec_st2110AncSend, execSt2110AncSend, onSys_eq]
  dsimp only
  rw [if_neg fun g => h g.1]

/-! ## Audio senders -/

/-- What taking a sample for a sender can change: it keeps no state entry of its own. -/
def Sampled (y z : Sys) : Prop := SameBut [.log, .audioOut] (only []) (only []) y z

theorem Sampled.trans {x : Sys} (h : Sampled x y) (g : Sampled y z) : Sampled x z := SameBut.trans h g

theorem sampled_raiseLimited (y : Sys) (i k n : Nat) (b : Bytes) : Sampled y (y.raiseLimited i k n b) := sameBut_raiseLimited y i k n b (by simp)
theorem sampled_raise (y : Sys) (k n : Nat) (b : Bytes) : Sampled y (y.raise k n b) := sameBut_raise y k n b (by simp)
theorem sampled_setAout (y : Sys) (n : Nat) (v : AudioOut) : Sampled y (y.setAout n v) := sameBut_setAout n v (by simp)

theorem sampled_apTake (y : Sys) (d : Dst) : Sampled y (y.apTake d).2 := by
  unfold Sys.apTake
  dsimp only
  split
  · exact sampled_setAout ..
  · exact .refl y

theorem sampled_apZero (y : Sys) (a p source : Nat) : Sampled y (y.apZero (.sender a p) source) := by
  unfold Sys.apZero
  dsimp only
  split
  · exact sampled_setAout ..
  · exact (sampled_setAout ..).trans (sampled_raiseLimited ..)

theorem sampled_apSlip (y : Sys) (a p : Nat) (b : Bool) (e : Int) : Sampled y (y.apSlip (.sender a p) b e) := sampled_raiseLimited ..

theorem sampled_apResume (y : Sys) (a p : Nat) : Sampled y (y.apResume (.sender a p)) := by
  unfold Sys.apResume
  dsimp only
  split
  · exact .refl y
  · exact (sampled_setAout ..).trans (sampled_raise ..)

theorem sampled_alignedSlot (y : Sys) (a p source delay thr slot : Nat) : Sampled y (y.alignedSlot (.sender a p) source delay thr slot).2 := by
  unfold Sys.alignedSlot
  dsimp only
  split
  · split
    · refine Sampled.trans ?_ ((sampled_apResume _ a p).trans (sampled_apTake ..))
      split
      · exact (sampled_setAout ..).trans ((sampled_setAout ..).trans (sampled_raise ..))
      · exact sampled_setAout ..
    · split
      · exact sampled_setAout ..
      · exact (sampled_setAout ..).trans (sampled_apZero ..)
  · split
    · exact sampled_apZero ..
    · split
      · split
        · exact ((sampled_setAout ..).trans (sampled_apSlip ..)).trans (sampled_apZero ..)
        · exact ((sampled_setAout ..).trans (sampled_apSlip ..)).trans (sampled_apTake ..)
      · split
        · exact sampled_apSlip ..
        · exact sampled_apTake ..

theorem Sampled.foldl_snd {α β : Type} (g : α × Sys → β → α × Sys) (h : ∀ a b, Sampled a.2 (g a b).2) (l : List β) (a : α × Sys) : Sampled a.2 (l.foldl g a).2 :=
  List.foldlRecOn (motive := fun r : α × Sys => Sampled a.2 r.2) l g (.refl _) fun r hr b _ => hr.trans (h r b)

theorem sampled_free (y : Sys) (w : Nat) : Sampled y (y.free w).2 :=
  .of_facets rfl rfl fun p _ => by cases p <;> rfl

theorem st2110AudioSend_off (s : State) (a : Fin 8) (h : s.sys.rd (ent (0x4198 + a.val) 1) = 0) : Runs (.st2110AudioSend a) s s.sys := by
  rw [Runs, exec_st2110AudioSend, execSt2110AudioSend, onSys_eq]
  dsimp only
  rw [if_pos h]

theorem st2110AudioSend_sends (s : State) (a : Fin 8) (h : s.sys.rd (ent (0x4198 + a.val) 1) ≠ 0) : Completes (.st2110AudioSend a) s fun t =>
    t.sys.tx.length = s.sys.tx.length + (s.sys.pathsUp (8 + a.val)).length ∧ t.otp = s.otp ∧ t.pending = s.pending := by
  obtain ⟨z, m, hz, hruns⟩ : ∃ (z : Sys) (m : Nat × Nat → Tx), Sampled s.sys z ∧ Runs (.st2110AudioSend a) s (z.sendOn (z.pathsUp (8 + a.val)) m) := by
    apply Exists.intro
    apply Exists.intro
    constructor
    rotate_left
    · rw [Runs, exec_st2110AudioSend, execSt2110AudioSend, onSys_eq]
      dsimp only
      rw [if_neg h]
      rfl
    · refine Sampled.trans ?_ (sampled_free _ 7)
      refine Sampled.foldl_snd (α := List (Nat × List (Nat × Nat))) _ (fun r p => ?_) _ ([], s.sys)
      dsimp only
      refine Sampled.foldl_snd (α := List (Nat × Nat)) _ (fun c i => ?_) _ ([], r.2)
      exact sampled_alignedSlot ..
  obtain ⟨-, htx⟩ := z.sendOn_spec (z.pathsUp (8 + a.val)) m
  have hup : z.pathsUp (8 + a.val) = s.sys.pathsUp (8 + a.val) := by
    have hr (k : Nat) : z.rd k = s.sys.rd k := hz.2.1 k (by simp)
    have hp : s.sys.pathsDown = z.pathsDown := hz.1 .pathsDown (by simp)
    simp only [Sys.pathsUp, Sys.paths, Sys.quadUp, hr, hp]
  refine ⟨_, hruns, ?_, rfl, rfl⟩
  dsimp only
  rw [htx, List.length_append, List.length_map, hup, hz.1 .tx (by simp)]

/-! ## Audio ports -/

theorem Sys.apDir_eq (y : Sys) (n : Nat) :
    (y.rd (apCfg n 1) = 1 → y.apDir n = .rx) ∧ (y.rd (apCfg n 1) = 2 → y.apDir n = .tx) ∧ (y.rd (apCfg n 1) = 0 → y.apDir n = .off) :=
  ⟨fun h => by rw [Sys.apDir, h] <;> rfl, fun h => by rw [Sys.apDir, h] <;> rfl, fun h => by rw [Sys.apDir, h] <;> rfl⟩

theorem audioBlock_off (s : State) (n : Fin 48) (u p : BitVec 96) (l : List (W32 × W32)) (h : s.sys.rd (ent (0x2500 + n.val) 1) = 0) :
    Completes (.audioBlock n u p l) s fun t =>
      t.sys.rd (ent (0x2530 + n.val) 1) = 0 ∧ t.sys.ain n.val = audioIn0 ∧ t.sys.aout n.val = audioOut0 ∧
      Leaves [.audioIn, .audioOut] (only [ent (0x2530 + n.val) 1]) (only []) s t := by
  have hruns : Runs (.audioBlock n u p l) s (((s.sys.setAin n.val audioIn0).setAout n.val audioOut0).wr (apStat n.val 1) 0) := by
    rw [Runs, exec_audioBlock, execAudioBlock, onSys_eq]
    dsimp only
    rw [(s.sys.apDir_eq n.val).2.2 h]
  have hin : (s.sys.setAin n.val audioIn0).ain n.val = audioIn0 := (Sys.ain_setAin ..).trans (if_pos rfl)
  have hout : ((s.sys.setAin n.val audioIn0).setAout n.val audioOut0).aout n.val = audioOut0 := (Sys.aout_setAout ..).trans (if_pos rfl)
  exact ⟨_, hruns, (Sys.rd_wr ..).trans (if_pos rfl), hin, hout, rfl, rfl, by simp⟩

/-- The samples of a block as a port takes them, each at its time. -/
def Sys.received (y : Sys) (n time period : Nat) (samples : List (W32 × W32)) : List ASample :=
  let k := gridSlot (y.apFs n) time
  let at_ (i : Nat) : Nat := if y.apClock n = .slave then time + i * period else gridTime (y.apFs n) (k + i)
  (samples.take (y.rd (apCfg n 7))).zipIdx.map fun p => ⟨at_ p.2, heldSample (y.rd (apCfg n 5)) p.1.1, heldSample (y.rd (apCfg n 5)) p.1.2⟩

/-- The time of the first sample of a block. -/
def Sys.firstSample (y : Sys) (n time period : Nat) : Nat :=
  if y.apClock n = .slave then time + 0 * period else gridTime (y.apFs n) (gridSlot (y.apFs n) time + 0)

theorem Sys.length_received (y : Sys) (n time period : Nat) (l : List (W32 × W32)) :
    (y.received n time period l).length = min (y.rd (ent (0x2500 + n) 7)) l.length := by
  rw [Sys.received, List.length_map, List.length_zipIdx, List.length_take]

theorem audioBlock_receives (s : State) (n : Fin 48) (u p : BitVec 96) (l : List (W32 × W32)) (h : s.sys.rd (ent (0x2500 + n.val) 1) = 1)
    (hclock : (s.sys.ain n.val).lostAt = none) (hheld : s.sys.portsHeld 35 = false) : Completes (.audioBlock n u p l) s fun t =>
      ∃ first m, m.length = min (s.sys.rd (ent (0x2500 + n.val) 7)) l.length ∧
      t.sys = Sys.apReceive ((s.sys.wr (ent (0x2530 + n.val) 5) first).wr (ent (0x2530 + n.val) 1) (if s.sys.apDriven n.val then 1 else 4)) n.val m ∧
      t.otp = s.otp ∧ t.pending = s.pending := by
  obtain ⟨z, hz⟩ : ∃ z, z = Sys.apReceive ((s.sys.wr (ent (0x2530 + n.val) 5) (s.sys.firstSample n.val u.toNat p.toNat)).wr (ent (0x2530 + n.val) 1)
      (if s.sys.apDriven n.val then 1 else 4)) n.val (s.sys.received n.val u.toNat p.toNat l) := ⟨_, rfl⟩
  have hruns : Runs (.audioBlock n u p l) s z := by
    rw [Runs, exec_audioBlock, execAudioBlock, onSys_eq]
    dsimp only
    rw [(s.sys.apDir_eq n.val).1 h]
    dsimp only
    rw [if_neg (by rw [hclock, hheld]; decide), hz, Sys.received, Sys.firstSample]
  exact ⟨_, hruns, _, _, s.sys.length_received n.val u.toNat p.toNat l, hz, rfl, rfl⟩

theorem audioBlock_sends (s : State) (n : Fin 48) (u p : BitVec 96) (l : List (W32 × W32)) (h : s.sys.rd (ent (0x2500 + n.val) 1) = 2)
    (hclock : (s.sys.ain n.val).lostAt = none) (hreset : s.sys.inReset = false) :
    Runs (.audioBlock n u p l) s (s.sys.apSend n.val u.toNat p.toNat) := by
  rw [Runs, exec_audioBlock, execAudioBlock, onSys_eq]
  dsimp only
  rw [(s.sys.apDir_eq n.val).2.1 h]
  dsimp only
  rw [if_neg (by rw [hclock, hreset]; decide)]

theorem audioBlock_silent (s : State) (n : Fin 48) (u p : BitVec 96) (l : List (W32 × W32)) (hon : s.sys.rd (ent (0x2500 + n.val) 1) ≠ 0)
    (hclock : (s.sys.ain n.val).lostAt ≠ none) (hdir : s.sys.rd (ent (0x2500 + n.val) 1) ≤ 2) : Runs (.audioBlock n u p l) s s.sys := by
  have hlost : (s.sys.ain n.val).lostAt.isSome = true := Option.isSome_iff_ne_none.2 hclock
  rw [Runs, exec_audioBlock, execAudioBlock, onSys_eq]
  dsimp only
  rcases (by omega : s.sys.rd (ent (0x2500 + n.val) 1) = 1 ∨ s.sys.rd (ent (0x2500 + n.val) 1) = 2) with h | h
  · rw [(s.sys.apDir_eq n.val).1 h]
    dsimp only
    rw [if_pos (by rw [hlost, Bool.true_or])]
  · rw [(s.sys.apDir_eq n.val).2.1 h]
    dsimp only
    rw [if_pos (by rw [hlost, Bool.true_or])]

theorem audioBlock_inReset (s : State) (n : Fin 48) (u p : BitVec 96) (l : List (W32 × W32))
    (hdir : s.sys.rd (ent (0x2500 + n.val) 1) = 1 ∨ s.sys.rd (ent (0x2500 + n.val) 1) = 2) (hreset : s.sys.inReset = true) :
    Runs (.audioBlock n u p l) s s.sys := by
  rw [Runs, exec_audioBlock, execAudioBlock, onSys_eq]
  dsimp only
  rcases hdir with h | h
  · rw [(s.sys.apDir_eq n.val).1 h]
    dsimp only
    rw [if_pos (by rw [Sys.portsHeld, hreset, Bool.true_or, Bool.true_or, Bool.or_true])]
  · rw [(s.sys.apDir_eq n.val).2.1 h]
    dsimp only
    rw [if_pos (by rw [hreset, Bool.or_true])]

/-! ## Audio clocks -/

theorem Sys.freeDests_lt (y : Sys) (n : Nat) {m : Nat} (h : m ∈ y.freeDests n) : m < 48 := List.mem_range.1 (List.mem_of_mem_filter h)

/-- The flags of the ports that follow a port's clock, each raised or taken back. -/
def flagNums (k : Nat) : Prop := ∃ m, m < 48 ∧ k = ent (0x2530 + m) 2

theorem sameBut_apFlag (y : Sys) {m : Nat} (hm : m < 48) (f : ApFlag) (v : Bool) : SameBut [] flagNums (only []) y (y.apFlag m f v) :=
  sameBut_wr y _ _ ⟨m, hm, rfl⟩

theorem not_flagNums {n e : Nat} (h : e ≠ 2) (he : e < 256) : ¬ flagNums (ent (0x2530 + n) e) := by
  rintro ⟨m, -, h2⟩
  unfold ent at h2
  omega

theorem flagNums_indices {k : Nat} (h : flagNums k) : indices 0x2530 48 k := by
  obtain ⟨m, hm, rfl⟩ := h
  exact indices_ent hm (by decide)

/-- What a port shows and tells when its clock goes or is back. -/
def clockNums (n k : Nat) : Prop := flagNums k ∨ k ∈ [ent (0x2530 + n) 1, ent (0x2530 + n) 0x0A]

theorem clockNums_indices {n k : Nat} (hn : n < 48) (h : clockNums n k) : indices 0x2530 48 k := by
  rcases h with h | h
  · exact flagNums_indices h
  · simp only [List.mem_cons, List.not_mem_nil, or_false] at h
    rcases h with rfl | rfl <;> exact indices_ent hn (by decide)

/-- A port whose clock goes or comes back, with what it shows and the flags of the ports that follow it. -/
def Sys.clockShown (y : Sys) (n st : Nat) (lost count : Bool) : Sys :=
  let y := (y.apFlag n .clockLost lost).wr (apStat n 1) st
  if count then y.inc (apStat n 0x0A) else y

theorem Sys.clockShown_spec (y : Sys) (n : Fin 48) (st : Nat) (lost count : Bool) : let z := y.clockShown n.val st lost count
    z.rd (apStat n.val 1) = st ∧ (count = true → z.rd (apStat n.val 0x0A) = (y.rd (apStat n.val 0x0A) + 1) % 2 ^ 32) ∧
    SameBut [] (clockNums n.val) (only []) y z := by
  have h1 : clockNums n.val (apStat n.val 1) := .inr (by simp)
  have hA : clockNums n.val (apStat n.val 0x0A) := .inr (by simp)
  have hflag : SameBut [] (clockNums n.val) (only []) y (y.apFlag n.val .clockLost lost) := (sameBut_apFlag y n.isLt _ _).mono (by simp) (fun _ h => .inl h) fun _ h => h
  have hfA : (y.apFlag n.val .clockLost lost).rd (apStat n.val 0x0A) = y.rd (apStat n.val 0x0A) := (Sys.rd_wr ..).trans (if_neg (by simp only [apStat, ent]; omega))
  have hne : apStat n.val 1 ≠ apStat n.val 0x0A := by simp only [apStat, ent]; omega
  intro z
  obtain ⟨v, hv⟩ : ∃ v, v = (y.apFlag n.val .clockLost lost).wr (apStat n.val 1) st := ⟨_, rfl⟩
  have hz : z = if count then v.inc (apStat n.val 0x0A) else v := by rw [hv]; rfl
  have hyv : SameBut [] (clockNums n.val) (only []) y v := by rw [hv]; exact hflag.trans (sameBut_wr _ _ _ h1)
  have hst : v.rd (apStat n.val 1) = st := by rw [hv]; exact (Sys.rd_wr ..).trans (if_pos rfl)
  have hcount : v.rd (apStat n.val 0x0A) = y.rd (apStat n.val 0x0A) := by rw [hv]; exact ((Sys.rd_wr ..).trans (if_neg hne.symm)).trans hfA
  rw [hz]
  cases count with
  | false => exact ⟨hst, nofun, hyv⟩
  | true =>
    rw [if_pos rfl, Sys.inc_eq]
    exact ⟨((Sys.rd_wr ..).trans (if_neg hne)).trans hst, fun _ => ((Sys.rd_wr ..).trans (if_pos rfl)).trans (by rw [hcount]), hyv.trans (sameBut_wr _ _ _ hA)⟩

/-- What is told when the flags of the ports that follow are set: the port itself keeps what it shows. -/
theorem clock_told {v w x : Sys} {n : Fin 48} {a : AudioIn} {code : Nat} {data : Bytes} (hx : x = y.setAin n.val a)
    (hxv : SameBut [] (clockNums n.val) (only []) x v) (hvw : SameBut [] flagNums (only []) v w) (hroom : y.log.pending.length < 256) :
    let z := w.raise code n.val data
    z.ain n.val = a ∧ (∀ e ∈ [1, 0x0A], z.rd (apStat n.val e) = v.rd (apStat n.val e)) ∧
    z.log.pending = y.log.pending ++ [⟨y.t96, code, severity code, n.val, data⟩] ∧ SameBut [.audioIn, .log] (indices 0x2530 48) (only []) y z := by
  have hyx : SameBut [.audioIn] (clockNums n.val) (only []) y x := hx ▸ sameBut_setAin n.val a (by simp)
  have hxw : SameBut [] (clockNums n.val) (only []) x w := hxv.trans (hvw.mono (by simp) (fun _ h => .inl h) fun _ h => h)
  have hyw := hyx.trans (hxw.mono (by simp) (fun _ h => h) fun _ h => h)
  have hlog : y.log = w.log := hyw.1 .log (by simp)
  have ht : y.t96 = w.t96 := hyw.1 .t96 (by simp)
  have htold := Sys.log_raise w code n.val data (by rw [← hlog]; exact hroom)
  rw [← hlog, ← ht] at htold
  refine ⟨?_, fun e he => ?_, htold, (hyw.mono (by simp) (fun _ h => clockNums_indices n.isLt h) fun _ h => h).trans (sameBut_raise _ _ _ _ (by simp))⟩
  · refine (congrArg (fun l => tget (fun _ => audioIn0) l n.val) ((Sys.raise_audioIn ..).trans (hxw.1 .audioIn (by simp)).symm)).trans ?_
    rw [hx]
    exact (Sys.ain_setAin ..).trans (if_pos rfl)
  · refine (Sys.rd_raise ..).trans (hvw.2.1 _ ?_)
    simp only [List.mem_cons, List.not_mem_nil, or_false] at he
    rcases he with rfl | rfl <;> exact not_flagNums (by decide) (by decide)

theorem audioClockLoss_tells (s : State) (n : Fin 48) (rate : Bool) (hdir : s.sys.apDir n.val ≠ .off) (hslave : s.sys.apClock n.val = .slave)
    (hclock : (s.sys.ain n.val).lostAt = none) (hroom : Room s) : Completes (.audioClockLoss n rate) s fun t =>
      t.sys.ain n.val = { s.sys.ain n.val with lostAt := some s.sys.up, lostMark := true } ∧ t.sys.rd (ent (0x2530 + n.val) 1) = 2 ∧
      t.sys.rd (ent (0x2530 + n.val) 0x0A) = (s.sys.rd (ent (0x2530 + n.val) 0x0A) + 1) % 2 ^ 32 ∧
      Logs s t 0x1101 n.val (ev [(0, 1, n.val), (1, 1, if rate then 1 else 0)]) ∧
      Leaves [.audioIn, .log] (indices 0x2530 48) (only []) s t := by
  obtain ⟨x, hx⟩ : ∃ x, x = s.sys.setAin n.val { s.sys.ain n.val with lostAt := some s.sys.up, lostMark := true } := ⟨_, rfl⟩
  obtain ⟨v, hv⟩ : ∃ v, v = x.clockShown n.val 2 true true := ⟨_, rfl⟩
  have hruns : Runs (.audioClockLoss n rate) s (((v.freeDests n.val).foldl (fun y m => y.apFlag m .held true) v).raise 0x1101 n.val
      (ev [(0, 1, n.val), (1, 1, if rate then 1 else 0)])) := by
    rw [Runs, exec_audioClockLoss, execAudioClockLoss, onSys_eq]
    dsimp only
    rw [if_neg (by rw [decide_eq_false hdir, hslave, hclock]; decide), hv, hx]
    rfl
  obtain ⟨hst, hcount, hxv⟩ := x.clockShown_spec n 2 true true
  rw [← hv] at hst hcount hxv
  obtain ⟨hain, hshown, hlog, hframe⟩ := clock_told (code := 0x1101) (data := ev [(0, 1, n.val), (1, 1, if rate then 1 else 0)]) hx hxv
    (.foldl (fun y m => y.apFlag m .held true) (v.freeDests n.val) (fun z m hm => sameBut_apFlag z (v.freeDests_lt n.val hm) _ _) v) hroom
  refine ⟨_, hruns, hain, (hshown 1 (by decide)).trans hst, ((hshown 0x0A (by decide)).trans (hcount rfl)).trans ?_, hlog, rfl, rfl, hframe⟩
  rw [hx]
  rfl

theorem audioClockRestored_tells (s : State) (n : Fin 48) (u : Nat) (hclock : (s.sys.ain n.val).lostAt = some u) (hroom : Room s) :
    Completes (.audioClockRestored n) s fun t =>
      t.sys.ain n.val = { s.sys.ain n.val with lostAt := none } ∧ t.sys.rd (ent (0x2530 + n.val) 1) = 1 ∧
      Logs s t 0x1102 n.val (ev [(0, 1, n.val), (4, 4, (s.sys.up - u) / 1000)]) ∧
      Leaves [.audioIn, .log] (indices 0x2530 48) (only []) s t := by
  obtain ⟨x, hx⟩ : ∃ x, x = s.sys.setAin n.val { s.sys.ain n.val with lostAt := none } := ⟨_, rfl⟩
  obtain ⟨v, hv⟩ : ∃ v, v = x.clockShown n.val 1 false false := ⟨_, rfl⟩
  obtain ⟨w, hw⟩ : ∃ w, w = (v.freeDests n.val).foldl (fun y m => if (y.aout m).under.isNone then y.apFlag m .held false else y) v := ⟨_, rfl⟩
  have hruns : Runs (.audioClockRestored n) s (w.raise 0x1102 n.val (ev [(0, 1, n.val), (4, 4, (w.up - u) / 1000)])) := by
    rw [Runs, exec_audioClockRestored, execAudioClockRestored, onSys_eq]
    dsimp only
    rw [hclock, hw, hv, hx]
    rfl
  obtain ⟨hst, -, hxv⟩ := x.clockShown_spec n 1 false false
  rw [← hv] at hst hxv
  have hvw : SameBut [] flagNums (only []) v w := by
    rw [hw]
    exact .foldl _ _ (fun z m hm => .ite (fun _ => sameBut_apFlag z (v.freeDests_lt n.val hm) _ _) fun _ => .refl z) v
  have hup : w.up = s.sys.up := by
    have hxu : s.sys.up = x.up := by rw [hx]; rfl
    exact (hvw.1 .up (by simp)).symm.trans ((hxv.1 .up (by simp)).symm.trans hxu.symm)
  rw [hup] at hruns
  obtain ⟨hain, hshown, hlog, hframe⟩ := clock_told (code := 0x1102) (data := ev [(0, 1, n.val), (4, 4, (s.sys.up - u) / 1000)]) hx hxv hvw hroom
  exact ⟨_, hruns, hain, (hshown 1 (by decide)).trans hst, hlog, rfl, rfl, hframe⟩

theorem audioClockRestored_idle (s : State) (n : Fin 48) (h : (s.sys.ain n.val).lostAt = none) : Runs (.audioClockRestored n) s s.sys := by
  rw [Runs, exec_audioClockRestored, execAudioClockRestored, onSys_eq]
  dsimp only
  rw [h]

/-- Settles O49. Packets go out by one walk over the paths that are up; a port whose clock goes flags the ports that follow it in entries of their own. -/
theorem streamsAndAudioPortsSend : Obligations.StreamsAndAudioPortsSend := by
  unfold Obligations.StreamsAndAudioPortsSend
  exact ⟨st2110PacketSend_sends, st2110PacketSend_shed, st2110AncSend_sends, st2110AncSend_off, st2110AudioSend_off, st2110AudioSend_sends, audioBlock_off,
    audioBlock_receives, audioBlock_sends, audioBlock_silent, audioBlock_inReset, audioClockLoss_tells, audioClockRestored_tells, audioClockRestored_idle⟩

end Sys2Proof.Machine
end

section
/-!
PROOFS. The next extent of a recording. The kernel cannot unfold a match on the free extent (it would count the volume's blocks down one by one), so the model's
function is stated once through one that takes the free extent as an argument.
-/

namespace Sys2Proof.Machine

/-- What `nextExtent` does with the free extent that it finds. The match is the model's own, so that the two unfold to one term. -/
def Sys.nextExtentOf (free : Option Nat) (y : Sys) (x : Nat) : Bool × Sys :=
  let r := y.recording x
  Sys.nextExtent.match_1 (motive := fun _ _ => Bool × Sys) free (r.slot.bind y.vol.clip?)
    (fun e c =>
    let y := y.setRec x { r with extents := r.extents ++ [e], offset := 4096, tail := [] }
    (true, (y.recWrite x (4096 * extentBlock e) (extentHeader c.id r.extents.length r.extents.getLast? y.t96) false).showExtents))
    (fun _ _ => (false, (y.closeClip x 2 1 2).wr (ent (0x4960 + x) 9) 3))
theorem Sys.nextExtent_eq (y : Sys) (x : Nat) : y.nextExtent x = Sys.nextExtentOf y.freeExtent y x := rfl

end Sys2Proof.Machine
end

section
/-!
PROOFS. Which facets the operations of the model can change, from the callee to the caller: one lemma per operation, which peels it off a state.
-/

namespace Sys2Proof.Machine

variable {fs : List Facet} {x w : Sys}

theorem touches_setClip (y : Sys) (c : Clip) (hs : ∀ p ∈ [Facet.media], p ∈ fs) : Touches fs x (Sys.setClip y c) ↔ Touches fs x y := by
  refine Touches.peel (gs := [Facet.media]) ?_ hs
  unfold Sys.setClip
  simp [↓touches_sets]

theorem touches_showExtents (y : Sys)  : Touches fs x (Sys.showExtents y) ↔ Touches fs x y := by
  refine Touches.peel (gs := []) ?_ (by simp)
  unfold Sys.showExtents
  simp [↓touches_primitives]

theorem touches_dramWr (y : Sys) (a : Nat) (b : Bytes) (hs : ∀ p ∈ [Facet.dram, .mem], p ∈ fs) : Touches fs x (Sys.dramWr y a b) ↔ Touches fs x y := by
  refine Touches.peel (gs := [Facet.dram, .mem]) ?_ hs
  have h : SameBut [Facet.dram, .mem] (fun _ => True) (fun _ => True) y (y.dramWr a b) :=
    .of_facets rfl rfl fun p hp => by cases p with | dram | mem => simp at hp | _ => rfl
  exact h.touches fun _ => id

theorem touches_dmaWr (y : Sys) (a : Nat) (b : Bytes) (hs : ∀ p ∈ [Facet.tx, .dram, .mem], p ∈ fs) : Touches fs x (Sys.dmaWr y a b) ↔ Touches fs x y := by
  refine Touches.peel (gs := [Facet.tx, .dram, .mem]) ?_ hs
  unfold Sys.dmaWr
  simp [↓touches_primitives, ↓touches_dramWr]

theorem touches_mqPending (y : Sys)  : Touches fs x (Sys.mqPending y) ↔ Touches fs x y := by
  refine Touches.peel (gs := []) ?_ (by simp)
  have h : SameBut [.boot] (fun _ => True) (fun _ => True) y y.mqPending :=
    .of_facets rfl rfl fun p hp => by cases p with | boot => simp at hp | _ => rfl
  exact ⟨fun p _ hb => h.1 p (by simpa using hb), fun _ => ⟨y.mqPending.boot.intLow, y.boot.mbPending, y.mqPending.boot.mqPending, rfl⟩⟩

theorem touches_writeCq (y : Sys) (q : Nat) (e : Bytes) (irq : Bool) (hs : ∀ p ∈ [Facet.tx, .dram, .mem, .media], p ∈ fs) : Touches fs x (Sys.writeCq y q e irq) ↔ Touches fs x y := by
  refine Touches.peel (gs := [Facet.tx, .dram, .mem, .media]) ?_ hs
  unfold Sys.writeCq
  simp [↓touches_primitives, ↓touches_dmaWr, ↓touches_mqPending, ↓touches_sendVector, ↓touches_sets]

theorem touches_post (y : Sys) (q : Nat) (tag : Nat) (status : Nat) (epoch : Nat) (blocks : Nat) (irq : Bool) (hs : ∀ p ∈ [Facet.tx, .dram, .mem, .media], p ∈ fs) : Touches fs x (Sys.post y q tag status epoch blocks irq) ↔ Touches fs x y := by
  refine Touches.peel (gs := [Facet.tx, .dram, .mem, .media]) ?_ hs
  unfold Sys.post
  simp [↓touches_primitives, ↓touches_writeCq, ↓touches_sets]

theorem touches_completeDone (y : Sys)  (hs : ∀ p ∈ [Facet.tx, .dram, .mem, .media], p ∈ fs) : Touches fs x (Sys.completeDone y) ↔ Touches fs x y := by
  refine Touches.peel (gs := [Facet.tx, .dram, .mem, .media]) ?_ hs
  unfold Sys.completeDone
  simp (maxDischargeDepth := 7) [↓touches_primitives, ↓touches_dmaWr, ↓touches_post, ↓touches_fields, ↓touches_foldl]

theorem touches_issueWrite (y : Sys) (w : BufWrite) (hs : ∀ p ∈ [Facet.tx, .media], p ∈ fs) : Touches fs x (Sys.issueWrite y w) ↔ Touches fs x y := by
  refine Touches.peel (gs := [Facet.tx, .media]) ?_ hs
  unfold Sys.issueWrite
  simp (maxDischargeDepth := 7) [↓touches_primitives, ↓touches_fields, ↓touches_foldl]

theorem touches_drain (y : Sys)  (hs : ∀ p ∈ [Facet.tx, .media], p ∈ fs) : Touches fs x (Sys.drain y) ↔ Touches fs x y := by
  refine Touches.peel (gs := [Facet.tx, .media]) ?_ hs
  unfold Sys.drain
  simp (maxDischargeDepth := 7) [↓touches_issueWrite, ↓touches_foldl]

theorem touches_issueFlushes (y : Sys)  (hs : ∀ p ∈ [Facet.tx, .media], p ∈ fs) : Touches fs x (Sys.issueFlushes y) ↔ Touches fs x y := by
  refine Touches.peel (gs := [Facet.tx, .media]) ?_ hs
  unfold Sys.issueFlushes
  simp (maxDischargeDepth := 7) [↓touches_primitives, ↓touches_fields, ↓touches_foldl]

theorem touches_showBuffered (y : Sys)  : Touches fs x (Sys.showBuffered y) ↔ Touches fs x y := by
  refine Touches.peel (gs := []) ?_ (by simp)
  unfold Sys.showBuffered
  simp [↓touches_primitives]

theorem touches_retireWrites (y : Sys)  (hs : ∀ p ∈ [Facet.tx, .dram, .mem, .media], p ∈ fs) : Touches fs x (Sys.retireWrites y) ↔ Touches fs x y := by
  refine Touches.peel (gs := [Facet.tx, .dram, .mem, .media]) ?_ hs
  unfold Sys.retireWrites
  simp (maxDischargeDepth := 7) [↓touches_primitives, ↓touches_post, ↓touches_showBuffered, ↓touches_fields, ↓touches_foldl]

theorem touches_settle (y : Sys)  (hs : ∀ p ∈ [Facet.tx, .dram, .mem, .media], p ∈ fs) : Touches fs x (Sys.settle y) ↔ Touches fs x y := by
  refine Touches.peel (gs := [Facet.tx, .dram, .mem, .media]) ?_ hs
  unfold Sys.settle
  simp [↓touches_completeDone, ↓touches_drain, ↓touches_issueFlushes, ↓touches_retireWrites]

theorem touches_putWrite (y : Sys) (q : Nat) (addr : Nat) (data : Bytes) (index : Bool) (ordered : Bool) (hs : ∀ p ∈ [Facet.tx, .dram, .mem, .media], p ∈ fs) : Touches fs x (Sys.putWrite y q addr data index ordered) ↔ Touches fs x y := by
  refine Touches.peel (gs := [Facet.tx, .dram, .mem, .media]) ?_ hs
  unfold Sys.putWrite
  simp [↓touches_settle, ↓touches_fields]

theorem touches_recWrite (y : Sys) (x : Nat) (addr : Nat) (data : Bytes) (index : Bool) (hs : ∀ p ∈ [Facet.tx, .dram, .mem, .media], p ∈ fs) : Touches fs w (Sys.recWrite y x addr data index) ↔ Touches fs w y := by
  refine Touches.peel (gs := [Facet.tx, .dram, .mem, .media]) ?_ hs
  unfold Sys.recWrite
  simp [↓touches_primitives, ↓touches_putWrite]

theorem touches_writeEntry (y : Sys) (c : Clip) (hs : ∀ p ∈ [Facet.tx, .dram, .mem, .media], p ∈ fs) : Touches fs x (Sys.writeEntry y c) ↔ Touches fs x y := by
  refine Touches.peel (gs := [Facet.tx, .dram, .mem, .media]) ?_ hs
  unfold Sys.writeEntry
  simp [↓touches_recWrite, ↓touches_setClip]

theorem touches_closeClip (y : Sys) (x : Nat) (state : Nat) (reason : Nat) (after : Nat) (hs : ∀ p ∈ [Facet.tx, .log, .dram, .mem, .media], p ∈ fs) : Touches fs w (Sys.closeClip y x state reason after) ↔ Touches fs w y := by
  refine Touches.peel (gs := [Facet.tx, .log, .dram, .mem, .media]) ?_ hs
  unfold Sys.closeClip
  dsimp only
  repeat' split
  all_goals simp [↓touches_primitives, ↓touches_setClip, ↓touches_showExtents, ↓touches_writeEntry, ↓touches_sets]

theorem touches_closeDone (y : Sys) (x : Nat) (hs : ∀ p ∈ [Facet.tx, .log, .dram, .mem, .media], p ∈ fs) : Touches fs w (Sys.closeDone y x) ↔ Touches fs w y := by
  refine Touches.peel (gs := [Facet.tx, .log, .dram, .mem, .media]) ?_ hs
  unfold Sys.closeDone
  dsimp only
  repeat' split
  all_goals simp [↓touches_closeClip]

theorem touches_nextExtent (y : Sys) (x : Nat) (hs : ∀ p ∈ [Facet.tx, .log, .dram, .mem, .media], p ∈ fs) : Touches fs w (Sys.nextExtent y x).2 ↔ Touches fs w y := by
  refine Touches.peel (gs := [Facet.tx, .log, .dram, .mem, .media]) ?_ hs
  have h (free : Option Nat) : Touches [Facet.tx, .log, .dram, .mem, .media] y (Sys.nextExtentOf free y x).2 := by
    unfold Sys.nextExtentOf
    dsimp only
    split
    · simp only [↓touches_showExtents]
      refine (touches_recWrite _ _ _ _ _ (by simp)).2 ?_
      simp [↓touches_sets]
    · simp [↓touches_primitives, ↓touches_closeClip]
  rw [Sys.nextExtent_eq]
  exact h _

theorem touches_putOctets (y : Sys) (x : Nat) (b : Bytes) (hs : ∀ p ∈ [Facet.tx, .dram, .mem, .media], p ∈ fs) : Touches fs w (Sys.putOctets y x b) ↔ Touches fs w y := by
  refine Touches.peel (gs := [Facet.tx, .dram, .mem, .media]) ?_ hs
  unfold Sys.putOctets
  dsimp only
  repeat' split
  all_goals simp [↓touches_recWrite, ↓touches_sets]

theorem touches_placeChunk (y : Sys) (x : Nat) (kind : ChunkKind) (id : Nat) (frame : Nat) (time : Nat) (payload : Bytes) (preroll : Bool) (hs : ∀ p ∈ [Facet.tx, .log, .dram, .mem, .media], p ∈ fs) : Touches fs w (Sys.placeChunk y x kind id frame time payload preroll) ↔ Touches fs w y := by
  refine Touches.peel (gs := [Facet.tx, .log, .dram, .mem, .media]) ?_ hs
  unfold Sys.placeChunk
  extract_lets r body flags chunk got v u p placed z
  have hgot : Touches [Facet.tx, .log, .dram, .mem, .media] y got.2 := by
    unfold got
    split
    · exact .refl y
    · exact (touches_nextExtent _ _ (by simp)).2 (.refl y)
  split
  · exact .refl y
  · split
    · exact hgot
    · simp only [z, v, ↓touches_primitives]
      simp [↓touches_putOctets, ↓touches_sets, hgot]

theorem touches_placeLong (y : Sys) (x : Nat) (kind : ChunkKind) (id : Nat) (frame : Nat) (time : Nat) (payload : Bytes) (preroll : Bool) (hs : ∀ p ∈ [Facet.tx, .log, .dram, .mem, .media], p ∈ fs) : Touches fs w (Sys.placeLong y x kind id frame time payload preroll) ↔ Touches fs w y := by
  refine Touches.peel (gs := [Facet.tx, .log, .dram, .mem, .media]) ?_ hs
  unfold Sys.placeLong
  simp (maxDischargeDepth := 7) [↓touches_placeChunk, ↓touches_foldl]

end Sys2Proof.Machine
end

section
/-!
PROOFS. Which entries the operations of the model can write, from the callee to the caller: one lemma per operation, which peels it off a state.
-/

namespace Sys2Proof.Machine

variable {ps : List Spot} {x w : Sys}

theorem writes_setClip (y : Sys) (c : Clip) : Writes ps x (Sys.setClip y c) ↔ Writes ps x y := by
  refine Writes.peel (qs := []) ?_ (by simp)
  unfold Sys.setClip
  simp [↓writes_sets]

theorem writes_showExtents (y : Sys)  (hs : ∀ p ∈ [Spot.at 0x4948 11], p ∈ ps) : Writes ps x (Sys.showExtents y) ↔ Writes ps x y := by
  refine Writes.peel (qs := [Spot.at 0x4948 11]) ?_ hs
  unfold Sys.showExtents
  simp [↓writes_primitives, covered_at]

theorem writes_dramWr (y : Sys) (a : Nat) (b : Bytes) : Writes ps x (Sys.dramWr y a b) ↔ Writes ps x y := by
  refine Writes.peel (qs := []) ?_ (by simp)
  exact .of_dict rfl rfl

theorem writes_dmaWr (y : Sys) (a : Nat) (b : Bytes) : Writes ps x (Sys.dmaWr y a b) ↔ Writes ps x y := by
  refine Writes.peel (qs := []) ?_ (by simp)
  unfold Sys.dmaWr
  simp [↓writes_primitives, ↓writes_dramWr]

theorem writes_mqPending (y : Sys)  : Writes ps x (Sys.mqPending y) ↔ Writes ps x y := by
  refine Writes.peel (qs := []) ?_ (by simp)
  unfold Sys.mqPending
  simp [↓writes_updateInt, ↓writes_fields]

theorem writes_writeCq (y : Sys) (q : Nat) (e : Bytes) (irq : Bool) (hs : ∀ p ∈ [Spot.above 0x4910 4], p ∈ ps) : Writes ps x (Sys.writeCq y q e irq) ↔ Writes ps x y := by
  refine Writes.peel (qs := [Spot.above 0x4910 4]) ?_ hs
  unfold Sys.writeCq
  simp [↓writes_primitives, covered_above, ↓writes_dmaWr, ↓writes_mqPending, ↓writes_sendVector, ↓writes_sets]

theorem writes_post (y : Sys) (q : Nat) (tag : Nat) (status : Nat) (epoch : Nat) (blocks : Nat) (irq : Bool) (hs : ∀ p ∈ [Spot.above 0x4910 4], p ∈ ps) : Writes ps x (Sys.post y q tag status epoch blocks irq) ↔ Writes ps x y := by
  refine Writes.peel (qs := [Spot.above 0x4910 4]) ?_ hs
  unfold Sys.post
  simp [↓writes_primitives, ↓writes_writeCq, ↓writes_sets]

theorem writes_completeDone (y : Sys)  (hs : ∀ p ∈ [Spot.above 0x4910 4, .above 0x4910 7], p ∈ ps) : Writes ps x (Sys.completeDone y) ↔ Writes ps x y := by
  refine Writes.peel (qs := [Spot.above 0x4910 4, .above 0x4910 7]) ?_ hs
  unfold Sys.completeDone
  simp (maxDischargeDepth := 7) [↓writes_primitives, covered_above, ↓writes_dmaWr, ↓writes_post, ↓writes_fields, ↓writes_foldl]

theorem writes_issueWrite (y : Sys) (w : BufWrite) : Writes ps x (Sys.issueWrite y w) ↔ Writes ps x y := by
  refine Writes.peel (qs := []) ?_ (by simp)
  unfold Sys.issueWrite
  simp (maxDischargeDepth := 7) [↓writes_primitives, ↓writes_fields, ↓writes_foldl]

theorem writes_drain (y : Sys)  : Writes ps x (Sys.drain y) ↔ Writes ps x y := by
  refine Writes.peel (qs := []) ?_ (by simp)
  unfold Sys.drain
  simp (maxDischargeDepth := 7) [↓writes_issueWrite, ↓writes_foldl]

theorem writes_issueFlushes (y : Sys)  : Writes ps x (Sys.issueFlushes y) ↔ Writes ps x y := by
  refine Writes.peel (qs := []) ?_ (by simp)
  unfold Sys.issueFlushes
  simp (maxDischargeDepth := 7) [↓writes_primitives, ↓writes_fields, ↓writes_foldl]

theorem writes_showBuffered (y : Sys)  (hs : ∀ p ∈ [Spot.at 0x4950 3], p ∈ ps) : Writes ps x (Sys.showBuffered y) ↔ Writes ps x y := by
  refine Writes.peel (qs := [Spot.at 0x4950 3]) ?_ hs
  unfold Sys.showBuffered
  simp [↓writes_primitives, covered_at]

theorem writes_retireWrites (y : Sys)  (hs : ∀ p ∈ [Spot.above 0x4910 4, .at 0x4950 3], p ∈ ps) : Writes ps x (Sys.retireWrites y) ↔ Writes ps x y := by
  refine Writes.peel (qs := [Spot.above 0x4910 4, .at 0x4950 3]) ?_ hs
  unfold Sys.retireWrites
  simp (maxDischargeDepth := 7) [↓writes_primitives, ↓writes_post, ↓writes_showBuffered, ↓writes_fields, ↓writes_foldl]

theorem writes_settle (y : Sys)  (hs : ∀ p ∈ [Spot.above 0x4910 4, .above 0x4910 7, .at 0x4950 3], p ∈ ps) : Writes ps x (Sys.settle y) ↔ Writes ps x y := by
  refine Writes.peel (qs := [Spot.above 0x4910 4, .above 0x4910 7, .at 0x4950 3]) ?_ hs
  unfold Sys.settle
  simp [↓writes_completeDone, ↓writes_drain, ↓writes_issueFlushes, ↓writes_retireWrites]

theorem writes_putWrite (y : Sys) (q : Nat) (addr : Nat) (data : Bytes) (index : Bool) (ordered : Bool) (hs : ∀ p ∈ [Spot.above 0x4910 4, .above 0x4910 7, .at 0x4950 3], p ∈ ps) : Writes ps x (Sys.putWrite y q addr data index ordered) ↔ Writes ps x y := by
  refine Writes.peel (qs := [Spot.above 0x4910 4, .above 0x4910 7, .at 0x4950 3]) ?_ hs
  unfold Sys.putWrite
  simp [↓writes_settle, ↓writes_fields]

theorem writes_recWrite (y : Sys) (x : Nat) (addr : Nat) (data : Bytes) (index : Bool) (hs : ∀ p ∈ [Spot.above 0x4910 4, .above 0x4910 5, .above 0x4910 6, .above 0x4910 7, .at 0x4950 3], p ∈ ps) : Writes ps w (Sys.recWrite y x addr data index) ↔ Writes ps w y := by
  refine Writes.peel (qs := [Spot.above 0x4910 4, .above 0x4910 5, .above 0x4910 6, .above 0x4910 7, .at 0x4950 3]) ?_ hs
  unfold Sys.recWrite
  simp [↓writes_primitives, covered_above, ↓writes_putWrite]

theorem writes_writeEntry (y : Sys) (c : Clip) (hs : ∀ p ∈ [Spot.above 0x4910 4, .above 0x4910 5, .above 0x4910 6, .above 0x4910 7, .at 0x4950 3], p ∈ ps) : Writes ps x (Sys.writeEntry y c) ↔ Writes ps x y := by
  refine Writes.peel (qs := [Spot.above 0x4910 4, .above 0x4910 5, .above 0x4910 6, .above 0x4910 7, .at 0x4950 3]) ?_ hs
  unfold Sys.writeEntry
  simp [↓writes_recWrite, ↓writes_setClip]

theorem writes_closeClip (y : Sys) (x : Nat) (state : Nat) (reason : Nat) (after : Nat) (hs : ∀ p ∈ [Spot.above 0x4910 4, .above 0x4910 5, .above 0x4910 6, .above 0x4910 7, .above 0x4960 3, .at 0x4948 11, .at 0x4950 3], p ∈ ps) : Writes ps w (Sys.closeClip y x state reason after) ↔ Writes ps w y := by
  refine Writes.peel (qs := [Spot.above 0x4910 4, .above 0x4910 5, .above 0x4910 6, .above 0x4910 7, .above 0x4960 3, .at 0x4948 11, .at 0x4950 3]) ?_ hs
  unfold Sys.closeClip
  dsimp only
  repeat' split
  all_goals simp [↓writes_primitives, covered_above, ↓writes_setClip, ↓writes_showExtents, ↓writes_writeEntry, ↓writes_sets]

theorem writes_closeDone (y : Sys) (x : Nat) (hs : ∀ p ∈ [Spot.above 0x4910 4, .above 0x4910 5, .above 0x4910 6, .above 0x4910 7, .above 0x4960 3, .at 0x4948 11, .at 0x4950 3], p ∈ ps) : Writes ps w (Sys.closeDone y x) ↔ Writes ps w y := by
  refine Writes.peel (qs := [Spot.above 0x4910 4, .above 0x4910 5, .above 0x4910 6, .above 0x4910 7, .above 0x4960 3, .at 0x4948 11, .at 0x4950 3]) ?_ hs
  unfold Sys.closeDone
  dsimp only
  repeat' split
  all_goals simp [↓writes_closeClip]

theorem writes_nextExtent (y : Sys) (x : Nat) (hs : ∀ p ∈ [Spot.above 0x4910 4, .above 0x4910 5, .above 0x4910 6, .above 0x4910 7, .above 0x4960 3, .above 0x4960 9, .at 0x4948 11, .at 0x4950 3], p ∈ ps) : Writes ps w (Sys.nextExtent y x).2 ↔ Writes ps w y := by
  refine Writes.peel (qs := [Spot.above 0x4910 4, .above 0x4910 5, .above 0x4910 6, .above 0x4910 7, .above 0x4960 3, .above 0x4960 9, .at 0x4948 11, .at 0x4950 3]) ?_ hs
  have h (free : Option Nat) : Writes ([Spot.above 0x4910 4, .above 0x4910 5, .above 0x4910 6, .above 0x4910 7, .above 0x4960 3, .above 0x4960 9, .at 0x4948 11, .at 0x4950 3]) y (Sys.nextExtentOf free y x).2 := by
    unfold Sys.nextExtentOf
    dsimp only
    split
    · refine (writes_showExtents _ (by simp)).2 ?_
      refine (writes_recWrite _ _ _ _ _ (by simp)).2 ?_
      simp [↓writes_sets]
    · simp [covered_above, ↓writes_primitives, ↓writes_closeClip]
  rw [Sys.nextExtent_eq]
  exact h _

theorem writes_putOctets (y : Sys) (x : Nat) (b : Bytes) (hs : ∀ p ∈ [Spot.above 0x4910 4, .above 0x4910 5, .above 0x4910 6, .above 0x4910 7, .at 0x4950 3], p ∈ ps) : Writes ps w (Sys.putOctets y x b) ↔ Writes ps w y := by
  refine Writes.peel (qs := [Spot.above 0x4910 4, .above 0x4910 5, .above 0x4910 6, .above 0x4910 7, .at 0x4950 3]) ?_ hs
  unfold Sys.putOctets
  dsimp only
  repeat' split
  all_goals simp [↓writes_recWrite, ↓writes_sets]

theorem writes_placeChunk (y : Sys) (x : Nat) (kind : ChunkKind) (id : Nat) (frame : Nat) (time : Nat) (payload : Bytes) (preroll : Bool) (hs : ∀ p ∈ [Spot.above 0x4910 4, .above 0x4910 5, .above 0x4910 6, .above 0x4910 7, .above 0x4960 3, .above 0x4960 7, .above 0x4960 9, .at 0x4948 11, .at 0x4950 3], p ∈ ps) : Writes ps w (Sys.placeChunk y x kind id frame time payload preroll) ↔ Writes ps w y := by
  refine Writes.peel (qs := [Spot.above 0x4910 4, .above 0x4910 5, .above 0x4910 6, .above 0x4910 7, .above 0x4960 3, .above 0x4960 7, .above 0x4960 9, .at 0x4948 11, .at 0x4950 3]) ?_ hs
  unfold Sys.placeChunk
  extract_lets r body flags chunk got v u p placed z
  have hgot : Writes ([Spot.above 0x4910 4, .above 0x4910 5, .above 0x4910 6, .above 0x4910 7, .above 0x4960 3, .above 0x4960 7, .above 0x4960 9, .at 0x4948 11, .at 0x4950 3]) y got.2 := by
    unfold got
    split
    · exact .refl y
    · exact (writes_nextExtent _ _ (by simp)).2 (.refl y)
  split
  · exact .refl y
  · split
    · exact hgot
    · simp [z, v, covered_above, ↓writes_primitives, ↓writes_putOctets, ↓writes_sets, hgot]

theorem writes_placeLong (y : Sys) (x : Nat) (kind : ChunkKind) (id : Nat) (frame : Nat) (time : Nat) (payload : Bytes) (preroll : Bool) (hs : ∀ p ∈ [Spot.above 0x4910 4, .above 0x4910 5, .above 0x4910 6, .above 0x4910 7, .above 0x4960 3, .above 0x4960 7, .above 0x4960 9, .at 0x4948 11, .at 0x4950 3], p ∈ ps) : Writes ps w (Sys.placeLong y x kind id frame time payload preroll) ↔ Writes ps w y := by
  refine Writes.peel (qs := [Spot.above 0x4910 4, .above 0x4910 5, .above 0x4910 6, .above 0x4910 7, .above 0x4960 3, .above 0x4960 7, .above 0x4960 9, .at 0x4948 11, .at 0x4950 3]) ?_ hs
  unfold Sys.placeLong
  simp (maxDischargeDepth := 7) [↓writes_placeChunk, ↓writes_foldl]

theorem writes_recordDiscard (y : Sys) (e : Nat) (dest : Nat) (frame : Nat) (hs : ∀ p ∈ [Spot.above 0x4420 13], p ∈ ps) : Writes ps x (Sys.recordDiscard y e dest frame) ↔ Writes ps x y := by
  refine Writes.peel (qs := [Spot.above 0x4420 13]) ?_ hs
  unfold Sys.recordDiscard
  simp [↓writes_primitives, covered_above, ↓writes_sets]

end Sys2Proof.Machine
end

section
/-!
PROOFS. Encoders (O50).
-/

namespace Sys2Proof.Machine

variable {fs : List Facet} {nums blobs : Nat → Prop} {y z : Sys} {s : State}

/-! ## A core takes a picture -/

/-- A fold that moves only at one member of a range ends with what it makes of the start there. -/
theorem foldl_range_single {α : Type} (f : α → Nat → α) {n e : Nat} (he : e < n) (a : α) (hbefore : ∀ j, j < n → j ≠ e → f a j = a)
    (hafter : ∀ j, j < n → j ≠ e → f (f a e) j = f a e) : (List.range n).foldl f a = f a e := by
  have hfix (b : α) (l : List Nat) (hlt : ∀ j ∈ l, j < n) (hl : e ∉ l) (hb : ∀ j, j < n → j ≠ e → f b j = b) : l.foldl f b = b :=
    List.foldlRecOn (motive := fun c => c = b) l f rfl fun c hc j hj => by rw [hc]; exact hb j (hlt j hj) fun h => hl (by rw [← h]; exact hj)
  obtain ⟨m, l, hml⟩ := List.mem_iff_append.1 (List.mem_range.2 he)
  have hn := List.nodup_range (n := n)
  rw [hml] at hn
  have hm : e ∉ m ∧ e ∉ l := by
    have h := List.nodup_append.1 hn
    exact ⟨fun h1 => h.2.2 e h1 e (List.mem_cons_self ..) rfl, (List.nodup_cons.1 h.2.1).1⟩
  have hlt (j : Nat) (h : j ∈ m ++ e :: l) : j < n := List.mem_range.1 (hml ▸ h)
  rw [hml, List.foldl_append, hfix a m (fun j h => hlt j (by simp [h])) hm.1 hbefore, List.foldl_cons, hfix _ l (fun j h => hlt j (by simp [h])) hm.2 hafter]

/-- The picture that a core takes: of the streams that are ready the one with the earliest deadline. -/
def Sys.bestPicture (y : Sys) (k : Nat) : Option (Nat × EncPic × Option (Nat × Nat)) :=
  (List.range 16).foldl (fun (a : Option (Nat × EncPic × Option (Nat × Nat))) e =>
    match y.encReady e k, a with
    | some r, none => some (e, r)
    | some r, some b => if r.1.due e < b.2.1.due b.1 then some (e, r) else some b
    | none, a => a) none

theorem Sys.bestPicture_eq (y : Sys) {k e : Nat} {p : EncPic} (he : e < 16) (h : y.encReady e k = some (p, none))
    (hother : ∀ j, j < 16 → j ≠ e → y.encReady j k = none) : y.bestPicture k = some (e, p, none) := by
  have hbefore (j : Nat) (hj : j < 16) (hne : j ≠ e) (a : Option (Nat × EncPic × Option (Nat × Nat))) : (match y.encReady j k, a with
    | some r, none => some (j, r)
    | some r, some b => if r.1.due j < b.2.1.due b.1 then some (j, r) else some b
    | none, a => a) = a := by rw [hother j hj hne]
  refine (foldl_range_single _ he none (fun j hj hne => hbefore j hj hne _) fun j hj hne => hbefore j hj hne _).trans ?_
  rw [h]

/-- The marks fall where an IRAP picture is coded. -/
def Sys.marksKept (y : Sys) (e type : Nat) : Sys := if type ≤ 1 then y.dropMarks e else y

theorem Sys.enc_congr {y z : Sys} (h : y.encs = z.encs) (j : Nat) : y.enc j = z.enc j := congrArg (fun l => tget (fun _ => enc0) l j) h

theorem Sys.marksKept_spec (y : Sys) (e type : Nat) :
    SameBut [.encs, .log] (only []) (only [ent (0x4420 + e) 9]) y (y.marksKept e type) ∧ ∀ j, j ≠ e → (y.marksKept e type).enc j = y.enc j := by
  unfold Sys.marksKept
  split
  · obtain ⟨v, hv⟩ : ∃ v, v = y.setEnc e { y.enc e with marks := [none, none] } := ⟨_, rfl⟩
    obtain ⟨w, hw⟩ : ∃ w, w = (y.enc e).marks.zipIdx.foldl (fun y m => match m.1 with | some f => y.markEvent e m.2 3 f | none => y) v := ⟨_, rfl⟩
    have hz : y.dropMarks e = w.showMarks e := by rw [hw, hv]; rfl
    have hvw : SameBut [.log] (only []) (only []) v w := by
      rw [hw]
      refine .foldl _ _ (fun z m _ => ?_) v
      split
      · exact sameBut_raise _ _ _ _ (by simp)
      · exact .refl z
    have hwz : SameBut [] (only []) (only [ent (0x4420 + e) 9]) w (w.showMarks e) := sameBut_wrB _ _ _ (by simp)
    have hyv : SameBut [.encs] (only []) (only []) y v := hv ▸ sameBut_setEnc e _ (by simp)
    rw [hz]
    refine ⟨((hyv.mono (by simp) (fun _ h => h) (by simp)).trans (hvw.mono (by simp) (fun _ h => h) (by simp))).trans (hwz.mono (by simp) (fun _ h => h) fun _ h => h),
      fun j hj => ?_⟩
    refine (Sys.enc_congr ((hwz.1 .encs (by simp)).symm.trans (hvw.1 .encs (by simp)).symm) j).trans ?_
    rw [hv]
    exact (Sys.enc_setEnc ..).trans (if_neg hj)
  · exact ⟨.refl y, fun _ _ => rfl⟩

/-- The core shows that it codes, and which stream it has turned to. -/
def Sys.coreTaken (y : Sys) (k e : Nat) : Sys :=
  let y := y.wr (ent (0x4460 + k) 1) 1
  let y := if (y.cores.lookup k).all (fun (c : Nat) => c == e) then y else y.inc64 (ent (0x4460 + k) 5) 1
  { y with cores := (k, e) :: y.cores.filter fun c => c.1 != k }

theorem Sys.coreTaken_spec (y : Sys) (k e : Nat) : (y.coreTaken k e).encs = y.encs ∧ (y.coreTaken k e).rd (ent (0x4460 + k) 1) = 1 ∧
    (y.coreTaken k e).cores.lookup k = some e := by
  have hne : ent (0x4460 + k) 1 ≠ ent (0x4460 + k) 5 := by unfold ent; omega
  unfold Sys.coreTaken
  dsimp only
  refine ⟨?_, ?_, List.lookup_cons_self⟩
  · split <;> rfl
  · split
    · exact (Sys.rd_wr ..).trans (if_pos rfl)
    · exact ((Sys.rd_wr ..).trans (if_neg hne)).trans ((Sys.rd_wr ..).trans (if_pos rfl))

/-- The picture as the core codes it. -/
def Sys.pictureRun (y : Sys) (k e : Nat) (p : EncPic) (lost : Option (Nat × Nat)) : EncRun :=
  let choice := (y.enc e).choose p.gen e lost.isSome
  { core := k, pic := p, startAt := y.up, type := choice.1,
    flags := bitsOf ((if lost.isSome then [0] else []) ++ (if lost.any fun c => c.1 == 2 then [1] else []) ++
      (if (y.enc e).discont && !(choice.1 == 4) then [3] else []) ++ (if choice.2.isSome then [4] else [])),
    mark := choice.2.getD 0xFF, coded := if lost.isSome && !(choice.1 == 4) then y.lastComplete (p.gen.es e 3) (p.gen.es e 4) else p.frame }

/-- Whether a picture answers the recovery that was asked for. -/
def Enc.recovers (u : Enc) (type : Nat) : Bool := u.recovery.isSome && type != 4

/-- The stream while a core codes its oldest picture; `v` is the stream with the marks that stay. -/
def Enc.started (u v : Enc) (g : Gen) (e : Nat) (run : EncRun) (up : Nat) : Enc :=
  let skip := run.type == 4
  { v with
    queue := u.queue.drop 1, run := some run, irap := u.irap && skip, idr := u.idr && skip,
    discont := u.discont && skip, recovery := if u.recovers run.type then none else u.recovery,
    config := if skip then u.config else g.esConfig e,
    deafUntil := if u.recovers run.type && u.recovery.any (·.2) then up + 2 * g.esPeriod e else u.deafUntil }

/-- What a picture that is not there, or one that answers a recovery, tells when it starts. -/
def Sys.pictureTold (y : Sys) (u : Enc) (e : Nat) (p : EncPic) (lost : Option (Nat × Nat)) (choice : Nat × Option Nat) : Sys :=
  let y := match lost with
    | none => y
    | some c =>
      let y := (y.inc (ent (0x4420 + e) 5)).raiseLimited e 0x0D02 e (ev [(0, 1, e), (1, 1, c.1), (4, 4, p.frame)])
      if c.1 = 2 then (y.inc (ent (0x4420 + e) 6)).raise 0x0D03 e (ev [(0, 1, e), (4, 4, p.frame), (8, 4, c.2)]) else y
  if u.recovers choice.1 then
    y.raise 0x0D06 e (ev [(0, 1, e), (1, 1, match choice.2 with | some m => m + 1 | none => 0),
      (2, 1, if u.recovery.any (·.2) then 1 else 0), (4, 4, p.frame)]) else y

/-- A core takes a picture. -/
def Sys.takePicture (y : Sys) (k e : Nat) (p : EncPic) (lost : Option (Nat × Nat)) : Sys :=
  let u := y.enc e
  let run := y.pictureRun k e p lost
  let y := y.marksKept e run.type
  let y := y.setEnc e (u.started (y.enc e) p.gen e run y.up)
  let y := { y with holds := y.holds ++ [(e, p.gen.es e 3, p.gen.es e 4, run.coded)] }
  (y.pictureTold u e p lost (u.choose p.gen e lost.isSome)).coreTaken k e

/-- A core takes the picture that is best for it, where there is one. -/
def Sys.takeBest (y : Sys) (k : Nat) : Option (Nat × EncPic × Option (Nat × Nat)) → Sys
  | none => y
  | some (e, p, lost) => y.takePicture k e p lost

theorem encodePictureStart_runs (s : State) (k : Fin 4) (hnone : ((List.range 16).any fun e => (s.sys.enc e).run.any fun r => r.core == k.val) = false)
    (hshed : (s.sys.shedMask 3).testBit k.val = false) : Runs (.encodePictureStart k) s (s.sys.takeBest k.val (s.sys.bestPicture k.val)) := by
  rw [Runs, exec_encodePictureStart, execEncodePictureStart, onSys_eq]
  dsimp only
  rw [if_neg (by rw [hnone, hshed]; decide)]
  rfl

theorem encodePictureStart_takes (s : State) (k : Fin 4) (e : Nat) (p : EncPic) (he : e < 16)
    (hfree : ∀ j, j < 16 → (s.sys.enc j).run.any (fun r => r.core == k.val) = false) (hshed : (s.sys.shedMask 3).testBit k.val = false)
    (hready : s.sys.encReady e k.val = some (p, none)) (hother : ∀ j, j < 16 → j ≠ e → s.sys.encReady j k.val = none) :
    Completes (.encodePictureStart k) s fun t =>
      (∃ r, (t.sys.enc e).run = some r ∧ r.core = k.val ∧ r.pic = p ∧ r.startAt = s.sys.up) ∧
      (t.sys.enc e).queue = (s.sys.enc e).queue.drop 1 ∧ (∀ j, j ≠ e → t.sys.enc j = s.sys.enc j) ∧
      t.sys.rd (ent (0x4460 + k.val) 1) = 1 ∧ t.sys.cores.lookup k.val = some e ∧ t.otp = s.otp ∧ t.pending = s.pending := by
  have hnone : ((List.range 16).any fun e => (s.sys.enc e).run.any fun r => r.core == k.val) = false :=
    List.any_eq_false.2 fun j hj => by rw [hfree j (List.mem_range.1 hj)]; decide
  have hruns := encodePictureStart_runs s k hnone hshed
  rw [s.sys.bestPicture_eq he hready hother, Sys.takeBest] at hruns
  obtain ⟨run, hrun⟩ : ∃ r, r = s.sys.pictureRun k.val e p none := ⟨_, rfl⟩
  obtain ⟨v, hv⟩ : ∃ v, v = s.sys.marksKept e run.type := ⟨_, rfl⟩
  obtain ⟨x, hx⟩ : ∃ x, x = (s.sys.enc e).started (v.enc e) p.gen e run v.up := ⟨_, rfl⟩
  obtain ⟨w, hw⟩ : ∃ w, w = Sys.pictureTold { v.setEnc e x with holds := (v.setEnc e x).holds ++ [(e, p.gen.es e 3, p.gen.es e 4, run.coded)] } (s.sys.enc e) e p none
    ((s.sys.enc e).choose p.gen e false) := ⟨_, rfl⟩
  have hz : s.sys.takePicture k.val e p none = w.coreTaken k.val e := by rw [hw, hx, hv, hrun]; rfl
  rw [hz] at hruns
  obtain ⟨hencs, hshow, hcores⟩ := w.coreTaken_spec k.val e
  have hwe : w.encs = (v.setEnc e x).encs := by
    rw [hw, Sys.pictureTold]
    dsimp only
    split
    · exact Sys.raise_encs ..
    · rfl
  have henc (j : Nat) : (w.coreTaken k.val e).enc j = if j = e then x else s.sys.enc j := by
    refine (Sys.enc_congr (hencs.trans hwe) j).trans ((Sys.enc_setEnc ..).trans ?_)
    split
    · rfl
    · rw [hv]
      exact (Sys.marksKept_spec ..).2 j ‹_›
  have hxr : x.run = some run ∧ x.queue = (s.sys.enc e).queue.drop 1 := by rw [hx]; exact ⟨rfl, rfl⟩
  have hmine : (w.coreTaken k.val e).enc e = x := (henc e).trans (if_pos rfl)
  refine ⟨_, hruns, ⟨run, (congrArg (·.run) hmine).trans hxr.1, by rw [hrun]; rfl, by rw [hrun]; rfl, by rw [hrun]; rfl⟩,
    (congrArg (·.queue) hmine).trans hxr.2, fun j hj => (henc j).trans (if_neg hj), hshow, hcores, rfl, rfl⟩

theorem encodePictureStart_busy (s : State) (k : Fin 4) (e : Nat) (he : e < 16) (h : (s.sys.enc e).run.any (fun r => r.core == k.val) = true) :
    Runs (.encodePictureStart k) s s.sys := by
  have hany : ((List.range 16).any fun e => (s.sys.enc e).run.any fun r => r.core == k.val) = true := List.any_eq_true.2 ⟨e, List.mem_range.2 he, h⟩
  rw [Runs, exec_encodePictureStart, execEncodePictureStart, onSys_eq]
  dsimp only
  rw [if_pos (by rw [hany, Bool.true_or])]

/-! ## A picture is coded -/

/-- What the coded picture's way out leaves of a stream: what runs and its counts stay. -/
def Counted (e k : Nat) (y z : Sys) : Prop :=
  ((z.enc e).run = (y.enc e).run ∧ (z.enc e).index = (y.enc e).index ∧ (z.enc e).sinceIrap = (y.enc e).sinceIrap) ∧
  z.rd (ent (0x4420 + e) 3) = y.rd (ent (0x4420 + e) 3) ∧ z.rd (ent (0x4460 + k) 1) = y.rd (ent (0x4460 + k) 1) ∧
  z.rd (ent (0x4460 + k) 4) = y.rd (ent (0x4460 + k) 4)

variable {e k : Nat}

theorem Counted.trans {x : Sys} (h : Counted e k x y) (g : Counted e k y z) : Counted e k x z := by
  obtain ⟨⟨h1, h2, h3⟩, h4, h5, h6⟩ := h
  obtain ⟨⟨g1, g2, g3⟩, g4, g5, g6⟩ := g
  exact ⟨⟨g1.trans h1, g2.trans h2, g3.trans h3⟩, g4.trans h4, g5.trans h5, g6.trans h6⟩

theorem Counted.of (he : (z.enc e).run = (y.enc e).run ∧ (z.enc e).index = (y.enc e).index ∧ (z.enc e).sinceIrap = (y.enc e).sinceIrap)
    (hr : ∀ n, n = ent (0x4420 + e) 3 ∨ n = ent (0x4460 + k) 1 ∨ n = ent (0x4460 + k) 4 → z.rd n = y.rd n) : Counted e k y z :=
  ⟨he, hr _ (.inl rfl), hr _ (.inr (.inl rfl)), hr _ (.inr (.inr rfl))⟩

theorem Counted.of_writes {ps : List Spot} (h : Writes ps y z)
    (he : (z.enc e).run = (y.enc e).run ∧ (z.enc e).index = (y.enc e).index ∧ (z.enc e).sinceIrap = (y.enc e).sinceIrap)
    (hn : ∀ n, n = ent (0x4420 + e) 3 ∨ n = ent (0x4460 + k) 1 ∨ n = ent (0x4460 + k) 4 → ∀ p ∈ ps, ¬ p.hits n) : Counted e k y z :=
  .of he fun n h2 => h.rd_eq (hn n h2)

/-- What a picture that is done leaves: its stream is free for the next one, and stream and core have counted it. -/
def PictureCoded (e k : Nat) (r : EncRun) (y z : Sys) : Prop :=
  (z.enc e).run = none ∧ (z.enc e).index = (y.enc e).index + 1 ∧ (z.enc e).sinceIrap = (if r.type ≤ 1 then 1 else (y.enc e).sinceIrap + 1) ∧
  z.rd (ent (0x4420 + e) 3) = (y.rd (ent (0x4420 + e) 3) + 1) % 2 ^ 64 ∧ z.rd (ent (0x4460 + k) 1) = 0 ∧
  z.rd (ent (0x4460 + k) 4) = (y.rd (ent (0x4460 + k) 4) + 1) % 2 ^ 64

theorem PictureCoded.of_counted {r : EncRun} {v w : Sys} (h : Counted e k v w) (g : PictureCoded e k r y v) : PictureCoded e k r y w := by
  obtain ⟨⟨h1, h2, h3⟩, h4, h5, h6⟩ := h
  obtain ⟨g1, g2, g3, g4, g5, g6⟩ := g
  exact ⟨h1.trans g1, h2.trans g2, h3.trans g3, h4.trans g4, h5.trans g5, h6.trans g6⟩

/-! ## The coded picture's way out -/

theorem Enc.kept_setEnc (y : Sys) (j : Nat) (v : Enc) (hr : v.run = (y.enc j).run) (hi : v.index = (y.enc j).index) (hs : v.sinceIrap = (y.enc j).sinceIrap) :
    ((y.setEnc j v).enc e).run = (y.enc e).run ∧ ((y.setEnc j v).enc e).index = (y.enc e).index ∧ ((y.setEnc j v).enc e).sinceIrap = (y.enc e).sinceIrap := by
  rw [Sys.enc_setEnc]
  split
  · next h => rw [h]; exact ⟨hr, hi, hs⟩
  · exact ⟨rfl, rfl, rfl⟩

theorem Counted.setEnc_refused (y : Sys) (n : Nat) : Counted e k y (y.setEnc e { y.enc e with refused := n }) :=
  .of (Enc.kept_setEnc y e _ rfl rfl rfl) fun _ _ => rfl

/-- The entries of a stream and of a core that tell what was coded. -/
theorem coded_entries {n : Nat} (h : n = ent (0x4420 + e) 3 ∨ n = ent (0x4460 + k) 1 ∨ n = ent (0x4460 + k) 4) (he : e < 16) (hk : k < 4) :
    (n / 256 = 0x4420 + e ∧ n % 256 = 3) ∨ (n / 256 = 0x4460 + k ∧ (n % 256 = 1 ∨ n % 256 = 4)) ∧ n / 256 < 0x4464 := by
  unfold ent at h
  omega

theorem counted_recordDiscard (y : Sys) (d f : Nat) (he : e < 16) (hk : k < 4) : Counted e k y (y.recordDiscard e d f) := by
  have hw : Writes [Spot.above 0x4420 13] y (y.recordDiscard e d f) := (writes_recordDiscard y e d f (by simp)).2 (.refl y)
  refine .of_writes hw ?_ fun n hn p hp => ?_
  · obtain ⟨x, hx⟩ : ∃ x : Enc, x = (if { y.enc e with refused := setBit (y.enc e).refused d }.recovery.isNone
        then { { y.enc e with refused := setBit (y.enc e).refused d } with irap := true } else { y.enc e with refused := setBit (y.enc e).refused d }) := ⟨_, rfl⟩
    have hxe : x.run = (y.enc e).run ∧ x.index = (y.enc e).index ∧ x.sinceIrap = (y.enc e).sinceIrap := by
      rw [hx]
      split <;> exact ⟨rfl, rfl, rfl⟩
    have hz : (y.recordDiscard e d f).encs = (y.setEnc e x).encs := by
      rw [hx, Sys.recordDiscard]
      exact (Sys.raiseLimited_encs ..).trans (Sys.wr_encs ..)
    rw [Sys.enc_congr hz]
    exact Enc.kept_setEnc y e x hxe.1 hxe.2.1 hxe.2.2
  · rw [List.mem_singleton.1 hp]
    have := coded_entries hn he hk
    simp only [Spot.hits]
    omega

theorem counted_of_touches {v : Sys} {ps : List Spot} (ht : Touches fs y v) (hfs : .encs ∉ fs) (hw : Writes ps y v)
    (hps : ∀ n, n = ent (0x4420 + e) 3 ∨ n = ent (0x4460 + k) 1 ∨ n = ent (0x4460 + k) 4 → ∀ p ∈ ps, ¬ p.hits n) : Counted e k y v := by
  have henc := Sys.enc_congr (ht.facet .encs hfs (by simp)).symm e
  exact .of_writes hw ⟨congrArg (·.run) henc, congrArg (·.index) henc, congrArg (·.sinceIrap) henc⟩ hps

/-- The entries of drives, volume and recordings lie above those of streams and cores. -/
def mediaSpots : List Spot := [.above 0x4910 4, .above 0x4910 5, .above 0x4910 6, .above 0x4910 7, .above 0x4960 3, .above 0x4960 7, .above 0x4960 9, .at 0x4948 11,
  .at 0x4950 3, .above 0x4D10 7]

theorem mediaSpots_coded (he : e < 16) (hk : k < 4) (n : Nat) (h : n = ent (0x4420 + e) 3 ∨ n = ent (0x4460 + k) 1 ∨ n = ent (0x4460 + k) 4) :
    ∀ p ∈ mediaSpots, ¬ p.hits n := by
  have hn := coded_entries h he hk
  intro p hp
  simp only [mediaSpots, List.mem_cons, List.not_mem_nil, or_false] at hp
  rcases hp with rfl | rfl | rfl | rfl | rfl | rfl | rfl | rfl | rfl | rfl <;> simp only [Spot.hits, ent] <;> omega

theorem counted_closeDone (y : Sys) (x : Nat) (he : e < 16) (hk : k < 4) : Counted e k y (y.closeDone x) :=
  counted_of_touches (fs := [.tx, .log, .dram, .mem, .media]) ((touches_closeDone y x (fun _ h => h)).2 (.refl y)) (by simp)
    ((writes_closeDone y x (by simp [mediaSpots])).2 (.refl y)) (mediaSpots_coded he hk)

theorem counted_placeLong (y : Sys) (x : Nat) (c : ChunkKind) (id f t : Nat) (b : Bytes) (p : Bool) (he : e < 16) (hk : k < 4) :
    Counted e k y (y.placeLong x c id f t b p) :=
  counted_of_touches (fs := [.tx, .log, .dram, .mem, .media]) ((touches_placeLong y x c id f t b p (fun _ h => h)).2 (.refl y)) (by simp)
    ((writes_placeLong y x c id f t b p (by simp [mediaSpots])).2 (.refl y)) (mediaSpots_coded he hk)

theorem counted_release (y : Sys) (x id f : Nat) : Counted e k y (y.release x id f) := .of ⟨rfl, rfl, rfl⟩ fun _ _ => rfl

theorem counted_auRecord (y : Sys) (r : EncRun) (b : Bytes) (he : e < 16) (hk : k < 4) : Counted e k y (y.auRecord e r b) := by
  unfold Sys.auRecord
  extract_lets x id irap u v w
  split
  · exact ⟨⟨rfl, rfl, rfl⟩, rfl, rfl, rfl⟩
  · split
    · exact (counted_recordDiscard y 0 _ he hk).trans (counted_release ..)
    · split
      · exact counted_release ..
      · have hv : Counted e k y v := .setEnc_refused y _
        refine Counted.trans (hv.trans ?_) (counted_release ..)
        unfold w
        split
        · exact counted_placeLong v _ _ _ _ _ _ _ he hk
        · exact ⟨⟨rfl, rfl, rfl⟩, rfl, rfl, rfl⟩

theorem counted_felleyOffer (y : Sys) (c : FelleyKind) (a b p f : Nat) (bd : Bool) (m : Bytes) (he : e < 16) (hk : k < 4) :
    Counted e k y (y.felleyOffer c a b p f bd m).2 :=
  counted_of_touches (fs := [.log, .felley]) ((touches_felleyOffer y c a b p f bd m (fun _ h => h)).2 (.refl y)) (by simp)
    ((writes_felleyOffer y c a b p f bd m (by simp [mediaSpots])).2 (.refl y)) (mediaSpots_coded he hk)

theorem counted_auFelley (y : Sys) (r : EncRun) (b : Bytes) (he : e < 16) (hk : k < 4) : Counted e k y (y.auFelley e r b) := by
  unfold Sys.auFelley
  extract_lets irap u v o
  split
  · exact ⟨⟨rfl, rfl, rfl⟩, rfl, rfl, rfl⟩
  · split
    · exact ⟨⟨rfl, rfl, rfl⟩, rfl, rfl, rfl⟩
    · have hv : Counted e k y v := .setEnc_refused y _
      have ho : Counted e k y o.2 := hv.trans (counted_felleyOffer v _ _ _ _ _ _ _ he hk)
      split
      · exact ho
      · exact ho.trans (counted_recordDiscard _ _ _ he hk)

theorem encodePictureDone_codes (s : State) (k : Fin 4) (e : Nat) (r : EncRun)
    (hfind : ((List.range 16).find? fun j => (s.sys.enc j).run.any fun q => q.core == k.val) = some e) (hrun : (s.sys.enc e).run = some r) :
    ∃ z, Runs (.encodePictureDone k) s z ∧ PictureCoded e k.val r s.sys z := by
  have he : e < 16 := List.mem_range.1 (List.mem_of_find?_eq_some hfind)
  refine ⟨_, by rw [Runs, exec_encodePictureDone, execEncodePictureDone, onSys_eq], ?_⟩
  extract_lets c
  rw [hfind]
  simp -zeta only
  extract_lets u
  rw [show u.run = some r from hrun]
  simp -zeta only
  extract_lets g x n px settings coded cap whole au emergency late skip since keep kept flags ready us cpb qp head body marks lat v0 v1 v2 v3 v4 v5 v6 v7 v8 v9 v10
  have hmine : (v0.enc e).run = none ∧ (v0.enc e).index = u.index + 1 ∧ (v0.enc e).sinceIrap = since + 1 := by
    rw [show v0.enc e = _ from (Sys.enc_setEnc ..).trans (if_pos rfl)]
    exact ⟨rfl, rfl, rfl⟩
  have hsince : since + 1 = if r.type ≤ 1 then 1 else (s.sys.enc e).sinceIrap + 1 := by
    unfold since
    split <;> rfl
  -- what comes between the stream's count and the core's
  -- the events and entries between the stream's count and the core's
  have hbetween : SameBut [.log, .gov] (only ([7, 8, 11, 12].map (ent (0x4420 + e)))) (only ([9, 10].map (ent (0x4420 + e)))) v2 v8 := by
    have h3 : SameBut [.log, .gov] (only ([7, 8, 11, 12].map (ent (0x4420 + e)))) (only ([9, 10].map (ent (0x4420 + e)))) v2 v3 := by simp [v3]
    have h5 : SameBut [.log, .gov] (only ([7, 8, 11, 12].map (ent (0x4420 + e)))) (only ([9, 10].map (ent (0x4420 + e)))) v3 v5 := by
      refine (sameBut_wrB _ _ _ (by simp) : SameBut _ _ _ v3 v4).trans ?_
      obtain ⟨o, ho⟩ : ∃ o, keep = o := ⟨_, rfl⟩
      unfold v5
      rw [ho]
      cases o with
      | some m => exact sameBut_raise _ _ _ _ (by simp)
      | none => exact .refl v4
    have h6 : SameBut [.log, .gov] (only ([7, 8, 11, 12].map (ent (0x4420 + e)))) (only ([9, 10].map (ent (0x4420 + e)))) v5 v6 := by
      exact .ite (fun _ => by simp) fun _ => .refl v5
    have h7 : SameBut [.log, .gov] (only ([7, 8, 11, 12].map (ent (0x4420 + e)))) (only ([9, 10].map (ent (0x4420 + e)))) v6 v7 := by
      obtain ⟨o, ho⟩ : ∃ o, emergency = o := ⟨_, rfl⟩
      unfold v7
      rw [ho]
      cases o <;> simp
    exact (((h3.trans h5).trans h6).trans h7).trans (sameBut_reportSlack v7 _ _ (by simp))
  have hc (n : Nat) (h : n = ent (0x4420 + e) 3 ∨ n = ent (0x4460 + k.val) 1 ∨ n = ent (0x4460 + k.val) 4) : v8.rd n = v2.rd n := by
    have := coded_entries h he k.isLt
    refine hbetween.2.1 n ?_
    simp only [only, List.map_cons, List.map_nil, List.mem_cons, List.not_mem_nil, or_false, ent]
    omega
  have henc : v9.enc e = v0.enc e := Sys.enc_congr (hbetween.1 .encs (by simp)).symm e
  have hout : Counted e k.val v9 (((v10.auRecord e r body).auFelley e r body).closeDone x) := by
    have h10 : Counted e k.val v9 v10 := by
      unfold v10
      split <;> exact ⟨⟨rfl, rfl, rfl⟩, rfl, rfl, rfl⟩
    exact ((h10.trans (counted_auRecord _ r body he k.isLt)).trans (counted_auFelley _ r body he k.isLt)).trans (counted_closeDone _ x he k.isLt)
  refine .of_counted hout ⟨(congrArg (·.run) henc).trans hmine.1, (congrArg (·.index) henc).trans hmine.2.1, ?_, ?_, ?_, ?_⟩
  · exact ((congrArg (·.sinceIrap) henc).trans hmine.2.2).trans hsince
  · have h9 : v9.rd (ent (0x4420 + e) 3) = v8.rd (ent (0x4420 + e) 3) := by
      simp only [v9, Sys.inc64_eq]
      rw [Sys.rd_wr, if_neg (by unfold ent; omega), Sys.rd_wr, if_neg (by unfold ent; omega), Sys.rd_wr, if_neg (by unfold ent; omega)]
    refine (h9.trans (hc _ (.inl rfl))).trans ?_
    simp only [v2, Sys.inc64_eq]
    rw [Sys.rd_wr, if_neg (by unfold ent; omega), Sys.rd_wr, if_pos rfl]
    rfl
  · simp only [v9, Sys.inc64_eq, c]
    rw [Sys.rd_wr, if_neg (by unfold ent; omega), Sys.rd_wr, if_neg (by unfold ent; omega), Sys.rd_wr, if_pos rfl]
  · simp only [v9, Sys.inc64_eq, c]
    rw [Sys.rd_wr, if_neg (by unfold ent; omega), Sys.rd_wr, if_pos rfl, Sys.rd_wr, if_neg (by unfold ent; omega), hc _ (.inr (.inr rfl))]
    simp only [v2, Sys.inc64_eq]
    rw [Sys.rd_wr, if_neg (by unfold ent; omega), Sys.rd_wr, if_neg (by unfold ent; omega)]
    rfl

theorem encodePictureDone_counts (s : State) (k : Fin 4) (e : Nat) (r : EncRun)
    (hfind : ((List.range 16).find? fun j => (s.sys.enc j).run.any fun q => q.core == k.val) = some e) (hrun : (s.sys.enc e).run = some r) :
    Completes (.encodePictureDone k) s fun t =>
      (t.sys.enc e).run = none ∧ (t.sys.enc e).index = (s.sys.enc e).index + 1 ∧
      (t.sys.enc e).sinceIrap = (if r.type ≤ 1 then 1 else (s.sys.enc e).sinceIrap + 1) ∧
      t.sys.rd (ent (0x4420 + e) 3) = (s.sys.rd (ent (0x4420 + e) 3) + 1) % 2 ^ 64 ∧ t.sys.rd (ent (0x4460 + k.val) 1) = 0 ∧
      t.sys.rd (ent (0x4460 + k.val) 4) = (s.sys.rd (ent (0x4460 + k.val) 4) + 1) % 2 ^ 64 ∧ t.otp = s.otp ∧ t.pending = s.pending := by
  obtain ⟨z, hruns, h1, h2, h3, h4, h5, h6⟩ := encodePictureDone_codes s k e r hfind hrun
  exact ⟨_, hruns, h1, h2, h3, h4, h5, h6, rfl, rfl⟩

theorem encodePictureDone_idle (s : State) (k : Fin 4) (h : ∀ j, j < 16 → (s.sys.enc j).run.any (fun r => r.core == k.val) = false) :
    Runs (.encodePictureDone k) s s.sys := by
  have hnone : ((List.range 16).find? fun j => (s.sys.enc j).run.any fun q => q.core == k.val) = none :=
    List.find?_eq_none.2 fun j hj => by rw [h j (List.mem_range.1 hj)]; decide
  rw [Runs, exec_encodePictureDone, execEncodePictureDone, onSys_eq]
  dsimp only
  rw [hnone]

/-! ## Marks and recovery -/

theorem Sys.enc_set_same (y : Sys) (e : Nat) (v : Enc) : (y.setEnc e v).enc e = v := (Sys.enc_setEnc ..).trans (if_pos rfl)
theorem Sys.enc_set_other (y : Sys) (e : Nat) (v : Enc) {j : Nat} (h : j ≠ e) : (y.setEnc e v).enc j = y.enc j := (Sys.enc_setEnc ..).trans (if_neg h)

theorem markKeep_keeps (s : State) (e : Fin 16) (m : Fin 2) (n : BitVec 32) (hnext : s.sys.encNext e.val ≤ n.toNat) (hsoon : n.toNat ≤ s.sys.encNext e.val + 256) :
    Completes (.markKeep e m n) s fun t =>
      t.sys.enc e.val = { s.sys.enc e.val with
        keeps := ((s.sys.enc e.val).keeps.filter fun q => q.1 != m.val) ++ [(m.val, n.toNat)] } ∧
      (∀ j, j ≠ e.val → t.sys.enc j = s.sys.enc j) ∧ Leaves [.encs] (only []) (only []) s t := by
  have hruns : Runs (.markKeep e m n) s (s.sys.setEnc e.val { s.sys.enc e.val with
      keeps := ((s.sys.enc e.val).keeps.filter fun q => q.1 != m.val) ++ [(m.val, n.toNat)] }) := by
    rw [Runs, exec_markKeep, execMarkKeep, onSys_eq, Sys.markKeep]
    dsimp only
    rw [if_neg (by omega), if_neg (by omega)]
  exact ⟨_, hruns, Sys.enc_set_same .., fun j hj => Sys.enc_set_other _ _ _ hj, rfl, rfl, sameBut_setEnc _ _ (by simp)⟩

theorem markKeep_refused (s : State) (e : Fin 16) (m : Fin 2) (n : BitVec 32) (h : n.toNat < s.sys.encNext e.val ∨ s.sys.encNext e.val + 256 < n.toNat) :
    Runs (.markKeep e m n) s s.sys := by
  rw [Runs, exec_markKeep, execMarkKeep, onSys_eq, Sys.markKeep]
  dsimp only
  rcases h with h | h
  · rw [if_neg (by omega), if_pos h]
  · rw [if_pos (.inr h)]

theorem markRelease_releases (s : State) (e : Fin 16) (m : Fin 2) (hroom : Room s) : Completes (.markRelease e m) s fun t =>
    (t.sys.enc e.val).marks = (s.sys.enc e.val).marks.set m.val none ∧
    (t.sys.enc e.val).keeps = (s.sys.enc e.val).keeps.filter (fun q => q.1 != m.val) ∧
    (∀ f, (s.sys.enc e.val).marks.getD m.val none = some f → Logs s t 0x0D05 e.val (ev [(0, 1, e.val), (1, 1, m.val), (2, 1, 2), (4, 4, f)])) ∧
    Leaves [.encs, .log] (only []) (only [ent (0x4420 + e.val) 9]) s t := by
  obtain ⟨x, hx⟩ : ∃ x, x = { s.sys.enc e.val with
    marks := (s.sys.enc e.val).marks.set m.val none, keeps := (s.sys.enc e.val).keeps.filter fun k => k.1 != m.val } := ⟨_, rfl⟩
  obtain ⟨v, hv⟩ : ∃ v, v = (s.sys.setEnc e.val x).showMarks e.val := ⟨_, rfl⟩
  obtain ⟨z, hruns, hz, hlog⟩ : ∃ z, Runs (.markRelease e m) s z ∧ SameBut [.log] (only []) (only []) v z ∧
      ∀ f, (s.sys.enc e.val).marks.getD m.val none = some f → z = v.markEvent e.val m.val 2 f := by
    have hm : ¬ 1 < m.val := by omega
    cases hf : (s.sys.enc e.val).marks.getD m.val none with
    | none =>
      refine ⟨v, ?_, .refl v, nofun⟩
      rw [Runs, exec_markRelease, execMarkRelease, onSys_eq, Sys.markRelease]
      dsimp only
      rw [if_neg hm, hf, hv, hx]
    | some f =>
      refine ⟨v.markEvent e.val m.val 2 f, ?_, sameBut_raise _ _ _ _ (by simp), fun g hg => by rw [Option.some.inj hg]⟩
      rw [Runs, exec_markRelease, execMarkRelease, onSys_eq, Sys.markRelease]
      dsimp only
      rw [if_neg hm, hf, hv, hx]
  have henc : z.enc e.val = x := by
    refine (Sys.enc_congr (hz.1 .encs (by simp)).symm _).trans ?_
    rw [hv]
    exact Sys.enc_set_same ..
  have hsv : SameBut [.encs, .log] (only []) (only [ent (0x4420 + e.val) 9]) s.sys v := by
    rw [hv]
    exact (sameBut_setEnc _ _ (by simp)).trans (sameBut_wrB _ _ _ (by simp))
  refine ⟨_, hruns, (congrArg (·.marks) henc).trans (by rw [hx]), (congrArg (·.keeps) henc).trans (by rw [hx]), fun f hf => ?_, rfl, rfl,
    hsv.trans (hz.mono (by simp) (fun _ h => h) (by simp))⟩
  have hvl : v.log = s.sys.log ∧ v.t96 = s.sys.t96 := by rw [hv]; exact ⟨rfl, rfl⟩
  have h := Sys.log_raise v 0x0D05 e.val (ev [(0, 1, e.val), (1, 1, m.val), (2, 1, 2), (4, 4, f)]) (by rw [hvl.1]; exact hroom)
  rw [hvl.1, hvl.2] at h
  rw [hlog f hf]
  exact h

theorem Sys.recover_asks (y : Sys) (e : Nat) (m : Option Nat) (b : Bool) : (y.recover e m b).enc e = { y.enc e with recovery := some (m, b) } ∧
    (∀ j, j ≠ e → (y.recover e m b).enc j = y.enc j) ∧ SameBut [.encs] (only []) (only []) y (y.recover e m b) :=
  ⟨Sys.enc_set_same .., fun _ h => Sys.enc_set_other _ _ _ h, sameBut_setEnc _ _ (by simp)⟩

theorem recovery_asked (s : State) (e : Fin 16) (c : Instr) (m : Option Nat)
    (h : (c, m) ∈ ([(.recoveryRefresh e, none), (.recoveryFromMark e 0, some 0), (.recoveryFromMark e 1, some 1)] : List (Instr × Option Nat))) :
    Completes c s fun t =>
      t.sys.enc e.val = { s.sys.enc e.val with recovery := some (m, false) } ∧ (∀ j, j ≠ e.val → t.sys.enc j = s.sys.enc j) ∧
      Leaves [.encs] (only []) (only []) s t := by
  have hruns : Runs c s (s.sys.recover e.val m false) := by
    simp only [List.mem_cons, List.not_mem_nil, or_false, Prod.mk.injEq] at h
    rcases h with ⟨rfl, rfl⟩ | ⟨rfl, rfl⟩ | ⟨rfl, rfl⟩
    · rw [Runs, exec_recoveryRefresh, execRecoveryRefresh, onSys_eq]
    · rw [Runs, exec_recoveryFromMark, execRecoveryFromMark, onSys_eq]
      rfl
    · rw [Runs, exec_recoveryFromMark, execRecoveryFromMark, onSys_eq]
      rfl
  obtain ⟨hmine, hother, hframe⟩ := s.sys.recover_asks e.val m false
  exact ⟨_, hruns, hmine, hother, rfl, rfl, hframe⟩

theorem lossReport_asks (s : State) (e : Fin 16) (m : Fin 3) (hmode : s.sys.rd (ent (0x4400 + e.val) 25) = 1)
    (hdest : (s.sys.rd (ent (0x4400 + e.val) 26)).testBit 1 = true) (hdeaf : (s.sys.enc e.val).deafUntil ≤ s.sys.up) : Completes (.lossReport e m) s fun t =>
      t.sys.enc e.val = { s.sys.enc e.val with recovery := some (if m.val < 2 then some m.val else none, true) } ∧
      Leaves [.encs] (only []) (only []) s t := by
  have hruns : Runs (.lossReport e m) s (s.sys.recover e.val (if m.val < 2 then some m.val else none) true) := by
    rw [Runs, exec_lossReport, execLossReport, onSys_eq]
    dsimp only
    rw [if_neg]
    rw [hmode, hdest]
    simp [hdeaf]
  obtain ⟨hmine, -, hframe⟩ := s.sys.recover_asks e.val (if m.val < 2 then some m.val else none) true
  exact ⟨_, hruns, hmine, rfl, rfl, hframe⟩

theorem lossReport_ignored (s : State) (e : Fin 16) (m : Fin 3) (h : s.sys.up < (s.sys.enc e.val).deafUntil) : Runs (.lossReport e m) s s.sys := by
  rw [Runs, exec_lossReport, execLossReport, onSys_eq]
  dsimp only
  rw [if_pos (.inr (.inr h))]

/-- Settles O50. One stream is ready, so the walk over the streams ends with it; and the coded picture's way to recording and link leaves what was counted. -/
theorem encodersCodeAndRecover : Obligations.EncodersCodeAndRecover := by
  unfold Obligations.EncodersCodeAndRecover
  exact ⟨encodePictureStart_busy, encodePictureStart_takes, encodePictureDone_counts, encodePictureDone_idle, markKeep_keeps, markKeep_refused,
    markRelease_releases, recovery_asked, lossReport_asks, lossReport_ignored⟩

end Sys2Proof.Machine
end

section
/-!
PROOFS. An access unit without a base layer, and a table that writes out an entry as it is at delivery (R492).
-/

namespace Sys2Proof.Machine

/-- What a core reads at the head of a unit, with the delivery's tools. -/
def plainUnit : AuInfo where
  kind := .idr
  recovery := false
  profile := 1
  level := 93
  chroma := 1
  depth := 8
  width := 128
  height := 128
  tools := {
    ctb := 16, cuMin := 8, cuMax := 16, tuMin := 4, tuMax := 16, amp := false, smoothing := false, weighted := false, searchX := 0, searchY := 0
    temporalMv := false, bSlices := false, reorder := 0, longTerm := 0, deblock := false, sao := false, signHiding := false
    transformSkip := false, scaling := 0, pcm := false, tileColumns := 1, tileRows := 1, wavefront := false, sliceRows := none
    dependent := false, rangeExtension := false }
  colour := 0
  missing := 0
  faults := []

/-- A NAL unit of layer 1 alone. -/
def layerOneUnit : Bytes := [0, 0, 1, 2, 8]

/-- Playback channel 0 plays complete units on core 0, and the table of channels writes its entry out. -/
def writtenOutChannel : State :=
  { State.reset with sys := { (((State.reset.sys.wr (pbCfg 0 1) 1).wr (pbCfg 0 2) 0).wr (pbCfg 0 3) 1).wr (pbCfg 0 9) 4 with decs := [(0, dec0)] } }

theorem layerOneUnit_noBaseLayer : noBaseLayer layerOneUnit = true := by decide +kernel

theorem writtenOutChannel_ready : ∀ q, q < 8 → writtenOutChannel.sys.decReady 0 q layerOneUnit = decide (q = 0) := by decide +kernel

theorem writtenOutChannel_mode : writtenOutChannel.sys.pb 0 3 = 1 := by decide +kernel

/-- How many entries of the table of channels an outcome leaves. -/
def channelsOf : Host.Outcome State Fault Refusal → Nat
  | .next t => t.sys.decs.length
  | _ => 1

theorem writtenOutChannel_erased : channelsOf (exec (.decodePictureStart 0 layerOneUnit plainUnit) writtenOutChannel) = 0 := by decide +kernel

/-- Refutes O51: the discarded unit sets its channel's entry, and setting an entry to what it is at delivery takes it out of the table, so that the
table of a state that writes such an entry out is not as it was. -/
theorem not_playbackDecodesAndExpands : ¬ Obligations.PlaybackDecodesAndExpands := by
  unfold Obligations.PlaybackDecodesAndExpands
  rintro ⟨-, -, -, hdiscard, -⟩
  obtain ⟨t, ht, -, hdecs, -⟩ := hdiscard writtenOutChannel 0 layerOneUnit plainUnit 0 (by decide) writtenOutChannel_ready rfl
    writtenOutChannel_mode layerOneUnit_noBaseLayer
  have hkept : channelsOf (exec (.decodePictureStart 0 layerOneUnit plainUnit) writtenOutChannel) = 1 := by
    rw [ht]
    exact congrArg List.length hdecs
  exact absurd (writtenOutChannel_erased.symm.trans hkept) (by decide)

end Sys2Proof.Machine
end

section
/-!
PROOFS. Which facets the operations of the model can change, from the callee to the caller: one lemma per operation, which peels it off a state.
-/

namespace Sys2Proof.Machine

variable {fs : List Facet} {x w : Sys}

theorem touches_placeRaw (y : Sys) (x : Nat) (n : Nat) (frame : Nat) (time : Nat) (blocks : Bytes) (preroll : Bool) (hs : ∀ p ∈ [Facet.tx, .log, .dram, .mem, .media], p ∈ fs) : Touches fs w (Sys.placeRaw y x n frame time blocks preroll) ↔ Touches fs w y := by
  refine Touches.peel (gs := [Facet.tx, .log, .dram, .mem, .media]) ?_ hs
  unfold Sys.placeRaw
  simp (maxDischargeDepth := 7) [↓touches_placeChunk, ↓touches_foldl]

theorem touches_zcEmit (y : Sys) (f : Frame) (n : Nat) (boundary : Bool) (blocks : Bytes) (hs : ∀ p ∈ [Facet.tx, .log, .dram, .mem, .media, .zcs, .felley], p ∈ fs) : Touches fs x (Sys.zcEmit y f n boundary blocks) ↔ Touches fs x y := by
  refine Touches.peel (gs := [Facet.tx, .log, .dram, .mem, .media, .zcs, .felley]) ?_ hs
  unfold Sys.zcEmit
  simp [↓touches_primitives, ↓touches_felleyOffer, ↓touches_placeRaw, ↓touches_sets]

theorem touches_zcLine (y : Sys) (f : Frame) (n : Nat) (line : Nat) (hs : ∀ p ∈ [Facet.zcs], p ∈ fs) : Touches fs x (Sys.zcLine y f n line).2 ↔ Touches fs x y := by
  refine Touches.peel (gs := [Facet.zcs]) ?_ hs
  unfold Sys.zcLine
  simp (maxDischargeDepth := 7) [↓touches_primitives, ↓touches_sets]

theorem touches_ringDrop (y : Sys) (x : Nat) (frame : Nat) (cause : Nat) (hs : ∀ p ∈ [Facet.log, .rings], p ∈ fs) : Touches fs w (Sys.ringDrop y x frame cause) ↔ Touches fs w y := by
  refine Touches.peel (gs := [Facet.log, .rings]) ?_ hs
  unfold Sys.ringDrop
  simp [↓touches_primitives, ↓touches_sets]

theorem touches_showRing (y : Sys) (x : Nat) : Touches fs w (Sys.showRing y x) ↔ Touches fs w y := by
  refine Touches.peel (gs := []) ?_ (by simp)
  unfold Sys.showRing
  simp [↓touches_primitives]

theorem touches_ringEnter (y : Sys) (x : Nat) (f : RingFrame) (hs : ∀ p ∈ [Facet.log, .rings], p ∈ fs) : Touches fs w (Sys.ringEnter y x f) ↔ Touches fs w y := by
  refine Touches.peel (gs := [Facet.log, .rings]) ?_ hs
  unfold Sys.ringEnter
  dsimp only
  repeat' split
  all_goals simp [↓touches_ringDrop, ↓touches_showRing, ↓touches_sets]

theorem touches_handRing (y : Sys) (x : Nat) (l : List RingFrame) (hs : ∀ p ∈ [Facet.tx, .log, .dram, .mem, .media, .rings], p ∈ fs) : Touches fs w (Sys.handRing y x l) ↔ Touches fs w y := by
  refine Touches.peel (gs := [Facet.tx, .log, .dram, .mem, .media, .rings]) ?_ hs
  unfold Sys.handRing
  dsimp only
  repeat' split
  all_goals simp (maxDischargeDepth := 7) [↓touches_primitives, ↓touches_placeChunk, ↓touches_placeRaw, ↓touches_setClip, ↓touches_showRing, ↓touches_sets, ↓touches_foldl]

theorem touches_irqZc (y : Sys) (n : Nat) (hs : ∀ p ∈ [Facet.tx], p ∈ fs) : Touches fs x (Sys.irqZc y n) ↔ Touches fs x y := by
  refine Touches.peel (gs := [Facet.tx]) ?_ hs
  unfold Sys.irqZc
  simp [↓touches_primitives, ↓touches_classRaised]

theorem touches_showOccupancy (y : Sys) (g : Nat) : Touches fs x (Sys.showOccupancy y g) ↔ Touches fs x y := by
  refine Touches.peel (gs := []) ?_ (by simp)
  unfold Sys.showOccupancy
  dsimp only
  repeat' split
  all_goals simp (maxDischargeDepth := 7) [↓touches_primitives]

theorem touches_reportSlack (y : Sys) (r : RailName) (slack : Slack) (hs : ∀ p ∈ [Facet.gov], p ∈ fs) : Touches fs x (Sys.reportSlack y r slack) ↔ Touches fs x y := by
  refine Touches.peel (gs := [Facet.gov]) ?_ hs
  unfold Sys.reportSlack
  dsimp only
  repeat' split
  all_goals simp [↓touches_setRail]

end Sys2Proof.Machine
end

section
/-!
PROOFS. Which entries the operations of the model can write, from the callee to the caller: one lemma per operation, which peels it off a state.
-/

namespace Sys2Proof.Machine

variable {ps : List Spot} {x w : Sys}

theorem writes_irqZc (y : Sys) (n : Nat) (hs : ∀ p ∈ [Spot.at 0x1311 2], p ∈ ps) : Writes ps x (Sys.irqZc y n) ↔ Writes ps x y := by
  refine Writes.peel (qs := [Spot.at 0x1311 2]) ?_ hs
  unfold Sys.irqZc
  simp [↓writes_primitives, covered_at, ↓writes_classRaised]

theorem writes_jobDone (y : Sys) (n : Nat) (at_ : Nat) (d : Bytes) (status : Nat) (taken : Nat) (out : Nat) (hs : ∀ p ∈ [Spot.at 0x1311 2], p ∈ ps) : Writes ps x (Sys.jobDone y n at_ d status taken out) ↔ Writes ps x y := by
  refine Writes.peel (qs := [Spot.at 0x1311 2]) ?_ hs
  unfold Sys.jobDone
  simp [↓writes_primitives, ↓writes_dmaWr, ↓writes_irqZc, ↓writes_sets]

end Sys2Proof.Machine
end

section
/-!
PROOFS. Raw stripes, jobs of compression and expansion, and the history ring (O52).
-/

namespace Sys2Proof.Machine

variable {fs : List Facet} {y z : Sys} {s : State} {o : Otp} {v : Bytes} {r : Result} {w : Writer}

/-! ## A raw stripe -/

/-- A frame of the context with the number is in flight. -/
def Sys.hasFrame (y : Sys) (x n : Nat) : Prop := ∃ f ∈ y.frames, f.ctx = x ∧ f.num = n

theorem Sys.hasFrame_onFrame {x n a b : Nat} (h : y.hasFrame x n) {f : Frame → Frame} (hf : ∀ e, (f e).ctx = e.ctx ∧ (f e).num = e.num) :
    (y.onFrame a b f).hasFrame x n := by
  obtain ⟨e, he, hx, hn⟩ := h
  refine ⟨_, List.mem_map_of_mem he, ?_⟩
  split
  · exact ⟨(hf e).1.trans hx, (hf e).2.trans hn⟩
  · exact ⟨hx, hn⟩

theorem Sys.hasFrame_of_frames {x n : Nat} (h : y.hasFrame x n) (hz : y.frames = z.frames) : z.hasFrame x n := by
  unfold Sys.hasFrame at h ⊢
  rwa [← hz]

/-- A change of a frame that is in flight is found at its context and number. -/
theorem Sys.frame?_onFrame {x n : Nat} (h : y.hasFrame x n) {f : Frame → Frame} (hf : ∀ e, (f e).ctx = e.ctx ∧ (f e).num = e.num) :
    ∃ e, (y.onFrame x n f).frame? x n = some (f e) := by
  obtain ⟨g, hg⟩ : ∃ g, (y.onFrame x n f).frame? x n = some g := by
    obtain ⟨e, he, hx, hn⟩ := Sys.hasFrame_onFrame (a := x) (b := n) h hf
    exact Option.isSome_iff_exists.1 (List.find?_isSome.2 ⟨e, he, by simp [hx, hn]⟩)
  obtain ⟨hx, hn⟩ := Sys.frame?_spec hg
  obtain ⟨e, -, he⟩ := List.mem_map.1 (List.mem_of_find?_eq_some hg)
  refine ⟨e, hg.trans (congrArg some ?_)⟩
  split at he
  · exact he.symm
  next hno =>
    subst he
    simp [hx, hn] at hno

theorem zcEmit_frames (y : Sys) (f : Frame) (n : Nat) (b : Bool) (l : Bytes) : y.frames = (y.zcEmit f n b l).frames :=
  (((touches_zcEmit y f n b l (fun _ h => h)).2 (.refl y)).facet .frames (by simp) (by simp) : _)

theorem zcLine_frames (y : Sys) (f : Frame) (n l : Nat) : y.frames = (y.zcLine f n l).2.frames :=
  (((touches_zcLine y f n l (fun _ h => h)).2 (.refl y)).facet .frames (by simp) (by simp) : _)

theorem ringEnter_frames (y : Sys) (x : Nat) (f : RingFrame) : y.frames = (y.ringEnter x f).frames :=
  (((touches_ringEnter y x f (fun _ h => h)).2 (.refl y)).facet .frames (by simp) (by simp) : _)

theorem Sys.hasFrame_zcClose {x n : Nat} (h : y.hasFrame x n) (f : Frame) (m u : Nat) : (y.zcClose f m u).hasFrame x n := by
  unfold Sys.zcClose
  extract_lets a c b l d
  have ha : a.hasFrame x n := Sys.hasFrame_of_frames h (zcEmit_frames ..)
  have hb : b.hasFrame x n := Sys.hasFrame_of_frames ha (Sys.wr_frames ..).symm
  have hl : l.hasFrame x n := by
    unfold l
    split
    · exact Sys.hasFrame_onFrame hb fun _ => ⟨rfl, rfl⟩
    · exact hb
  have hd : d.hasFrame x n := by
    unfold d
    split
    · exact Sys.hasFrame_of_frames hl (ringEnter_frames ..)
    · exact hl
  exact Sys.hasFrame_of_frames hd rfl

/-- What coding a stripe does on one raw channel. -/
def Sys.codeChannel (f : Frame) (ls : List Nat) (ended : Prop) [Decidable ended] (u : Nat) (y : Sys) (n : Nat) : Sys :=
  let y := if f.rawLine = 0 then y.zcEmit f n true (f.frameBlock n) else y
  let r := ls.foldl (fun (a : Bytes × Sys) l => let q := a.2.zcLine f n l; (a.1 ++ q.1, q.2)) ([], y)
  let y := if r.1.isEmpty then r.2 else r.2.zcEmit f n false r.1
  if ended then y.zcClose f n u else y

theorem Sys.hasFrame_codeChannel {x n : Nat} (h : y.hasFrame x n) (f : Frame) (ls : List Nat) (p : Prop) [Decidable p] (u m : Nat) :
    (y.codeChannel f ls p u m).hasFrame x n := by
  unfold Sys.codeChannel
  extract_lets a r b
  have ha : a.hasFrame x n := by
    unfold a
    split
    · exact Sys.hasFrame_of_frames h (zcEmit_frames ..)
    · exact h
  have hr : r.2.hasFrame x n := by
    unfold r
    exact List.foldlRecOn ls _ (motive := fun q : Bytes × Sys => q.2.hasFrame x n) ha fun q hq l _ => Sys.hasFrame_of_frames hq (zcLine_frames ..)
  have hb : b.hasFrame x n := by
    unfold b
    split
    · exact hr
    · exact Sys.hasFrame_of_frames hr (zcEmit_frames ..)
  split
  · exact Sys.hasFrame_zcClose hb ..
  · exact hb

/-- A frame whose raw line moves on, the lines coded. -/
def Frame.codedTo (f : Frame) (ls : List Nat) (next stop : Nat) : Frame :=
  { f with rawLine := next, rawEnded := next == stop, lines := f.lines.map fun d => if ls.contains d.num then { d with coded := true } else d }

/-- What coding a stripe leaves before the recording may close. -/
def Sys.stripeCoded (y : Sys) (f : Frame) (x u : Nat) (ls : List Nat) (next stop : Nat) : Sys :=
  let y := (f.gen.rawChannels x).foldl (Sys.codeChannel f ls (next = stop) u) y
  let y := y.onFrame x f.num fun e => e.codedTo ls next stop
  let y := (List.range 8).foldl (fun y g => if y.owner g = some x then y.showOccupancy g else y) y
  y.reportSlack .s ⟨3072 - (y.rd (ent (0x3008 + x) 9) : Int), 3072⟩

theorem Sys.stripeCoded_frame {x u : Nat} {f : Frame} {ls : List Nat} {next stop : Nat} (h : y.hasFrame x f.num) :
    ∃ g, (y.stripeCoded f x u ls next stop).frame? x f.num = some g ∧ g.rawLine = next ∧ g.rawEnded = (next == stop) := by
  unfold Sys.stripeCoded
  extract_lets a b c
  have ha : a.hasFrame x f.num := List.foldlRecOn _ _ (motive := fun z : Sys => z.hasFrame x f.num) h fun z hz n _ => Sys.hasFrame_codeChannel hz ..
  obtain ⟨e, he⟩ := Sys.frame?_onFrame ha (f := fun e => e.codedTo ls next stop) fun _ => ⟨rfl, rfl⟩
  have hc : Touches [] b c := by
    refine (touches_foldl _ _ fun v g _ => ?_).2 (.refl b)
    split
    · exact (touches_showOccupancy v g).2 (.refl v)
    · exact .refl v
  have hd : Touches [.gov] b (c.reportSlack .s ⟨3072 - (c.rd (ent (0x3008 + x) 9) : Int), 3072⟩) :=
    (touches_reportSlack c _ _ (by simp)).2 (hc.mono (by simp))
  have hframes : b.frames = (c.reportSlack .s ⟨3072 - (c.rd (ent (0x3008 + x) 9) : Int), 3072⟩).frames := hd.facet .frames (by simp) (by simp)
  refine ⟨e.codedTo ls next stop, ?_, rfl, rfl⟩
  unfold Sys.frame? at he ⊢
  rw [← hframes]
  exact he

theorem rawStripeCoded_codes (s : State) (u x : Fin 8) (f : Frame)
    (hf : (s.sys.frames.find? fun f => f.ctx == x.val && !f.rawEnded && !(f.gen.rawChannels x.val).isEmpty) = some f) :
    let stop := min (f.gen.height x.val) (f.cut.getD (f.gen.height x.val))
    let own := (List.range stop).filter fun l => decide (f.rawLine ≤ l) && f.gen.ownLine x.val l
    let ends := (own.headD f.rawLine / f.gen.stripeH x.val + 1) * f.gen.stripeH x.val
    let next := if own.all fun l => decide (l < ends) then stop else ends
    (∀ l ∈ own, l < ends → ∃ d ∈ f.lines, d.num = l) → Completes (.rawStripeCoded u x) s fun t =>
      (∃ z g, t.sys = Sys.closeDone z x.val ∧ z.frame? x.val f.num = some g ∧ g.rawLine = next ∧ g.rawEnded = (next == stop)) ∧
      t.otp = s.otp ∧ t.pending = s.pending := by
  intro stop own ends next hall
  have hlines : ¬ (!(own.filter fun l => decide (l < ends)).all fun l => f.lines.any fun d => d.num == l) = true := by
    rw [Bool.not_eq_true, Bool.not_eq_false']
    refine List.all_eq_true.2 fun l hl => ?_
    obtain ⟨hown, hlt⟩ := List.mem_filter.1 hl
    obtain ⟨d, hd, hnum⟩ := hall l hown (of_decide_eq_true hlt)
    exact List.any_eq_true.2 ⟨d, hd, by simp [hnum]⟩
  have hruns : Runs (.rawStripeCoded u x) s ((s.sys.stripeCoded f x.val u.val (own.filter fun l => decide (l < ends)) next stop).closeDone x.val) := by
    rw [Runs, exec_rawStripeCoded, execRawStripeCoded, onSys_eq]
    refine congrArg (fun z : Sys => Host.Outcome.next { s with sys := z }) ?_
    extract_lets i
    rw [hf]
    exact if_neg hlines
  have hctx : f.ctx = x.val := by
    have h := List.find?_some hf
    simp only [Bool.and_eq_true, beq_iff_eq] at h
    exact h.1.1
  obtain ⟨g, hg⟩ := s.sys.stripeCoded_frame (u := u.val) (ls := own.filter fun l => decide (l < ends)) (next := next) (stop := stop)
    ⟨f, List.mem_of_find?_eq_some hf, hctx, rfl⟩
  generalize s.sys.stripeCoded f x.val u.val (own.filter fun l => decide (l < ends)) next stop = z at hruns hg
  exact ⟨_, hruns, ⟨z, g, rfl, hg⟩, rfl, rfl⟩

theorem rawStripeCoded_waits (s : State) (u x : Fin 8) (f : Frame)
    (hf : (s.sys.frames.find? fun f => f.ctx == x.val && !f.rawEnded && !(f.gen.rawChannels x.val).isEmpty) = some f) :
    let stop := min (f.gen.height x.val) (f.cut.getD (f.gen.height x.val))
    let own := (List.range stop).filter fun l => decide (f.rawLine ≤ l) && f.gen.ownLine x.val l
    (∃ l ∈ own, l < (own.headD f.rawLine / f.gen.stripeH x.val + 1) * f.gen.stripeH x.val ∧ ∀ d ∈ f.lines, d.num ≠ l) →
    Runs (.rawStripeCoded u x) s s.sys := by
  intro stop own ⟨l, hl, hlt, hno⟩
  have hmissing : (!(own.filter fun l => decide (l < (own.headD f.rawLine / f.gen.stripeH x.val + 1) * f.gen.stripeH x.val)).all fun l =>
      f.lines.any fun d => d.num == l) = true := by
    rw [Bool.not_eq_true', List.all_eq_false]
    refine ⟨l, List.mem_filter.2 ⟨hl, decide_eq_true hlt⟩, ?_⟩
    rw [List.any_eq_true]
    rintro ⟨d, hd, heq⟩
    exact hno d hd (by simpa using heq)
  rw [Runs, exec_rawStripeCoded, execRawStripeCoded, onSys_eq]
  refine congrArg (fun z : Sys => Host.Outcome.next { s with sys := z }) ?_
  extract_lets i
  rw [hf]
  exact if_pos hmissing

theorem rawStripeCoded_none (s : State) (u x : Fin 8) (h : ∀ f ∈ s.sys.frames, f.ctx ≠ x.val ∨ f.rawEnded = true ∨ f.gen.rawChannels x.val = []) :
    Runs (.rawStripeCoded u x) s s.sys := by
  have hnone : (s.sys.frames.find? fun f => f.ctx == x.val && !f.rawEnded && !(f.gen.rawChannels x.val).isEmpty) = none := by
    refine List.find?_eq_none.2 fun f hf => ?_
    rcases h f hf with h | h | h <;> simp [h]
  rw [Runs, exec_rawStripeCoded, execRawStripeCoded, onSys_eq]
  simp only [hnone]

/-! ## Jobs -/

theorem rd_jobDone (y : Sys) (n a : Nat) (d : Bytes) (st t o : Nat) {k : Nat} (hk : k ≠ ent 0x1311 2) : (y.jobDone n a d st t o).rd k = y.rd k :=
  ((writes_jobDone y n a d st t o (fun _ h => h)).2 (.refl y)).rd_eq (by simpa [Spot.hits] using hk)

theorem zcs_dmaWr (y : Sys) (a : Nat) (b : Bytes) : (y.dmaWr a b).zcs = y.zcs :=
  (((touches_dmaWr y a b (fun _ h => h)).2 (.refl y)).facet .zcs (by simp) (by simp) : y.zcs = _).symm

theorem rd_dmaWr (y : Sys) (a k : Nat) (b : Bytes) : (y.dmaWr a b).rd k = y.rd k :=
  ((writes_dmaWr y a b).2 (.refl y)).rd_eq (ps := []) (by simp)

theorem zc_dmaWr (y : Sys) (a n : Nat) (b : Bytes) : (y.dmaWr a b).zc n = y.zc n := congrArg (fun l => tget (fun _ => zc0) l n) (zcs_dmaWr y a b)

theorem zc_irqZc (y : Sys) (n j : Nat) : (y.irqZc n).zc j = y.zc j :=
  congrArg (fun l => tget (fun _ => zc0) l j) (((touches_irqZc y n (fun _ h => h)).2 (.refl y)).facet .zcs (by simp) (by simp) : y.zcs = _).symm

/-- What ends a job: its channel goes to the next descriptor. -/
theorem zc_jobDone (y : Sys) (n a : Nat) (d : Bytes) (st t o : Nat) :
    (y.jobDone n a d st t o).zc n = { y.zc n with next := ((y.zc n).next + 1) % max 1 (y.rd (ent (0x4800 + n) 9)) } := by
  unfold Sys.jobDone
  extract_lets b e c
  have hc : c.zc n = { y.zc n with next := ((y.zc n).next + 1) % max 1 (y.rd (ent (0x4800 + n) 9)) } := by
    unfold c e b
    rw [Sys.zc_setZc, if_pos rfl, zc_dmaWr, rd_dmaWr]
  split
  · exact (zc_irqZc ..).trans hc
  · exact hc

/-- What a run of compression leaves before its job ends. -/
def Sys.compressed (y : Sys) (n at_ : Nat) (r : JobRun) (tail : Bytes) : Sys :=
  let z := y.dmaWr at_ r.out
  let z := z.setZc n { y.zc n with tail := tail }
  let z := (z.inc64 (ent (0x4800 + n) 0x0B) r.taken).inc64 (ent (0x4800 + n) 0x0C) r.out.length
  let z := z.incBy (ent (0x4800 + n) 0x0E) r.stored
  if r.status = 1 then z.inc (ent (0x4800 + n) 0x0D) else z

theorem Sys.zc_compressed (y : Sys) (n a : Nat) (r : JobRun) (tail : Bytes) : (y.compressed n a r tail).zc n = { y.zc n with tail := tail } := by
  unfold Sys.compressed
  extract_lets b e c d f
  have hc : c.zc n = { y.zc n with tail := tail } := (Sys.zc_setZc ..).trans (if_pos rfl)
  split
  · exact hc
  · exact hc

theorem Sys.rd_compressed (y : Sys) {n a : Nat} (r : JobRun) (tail : Bytes) :
    (y.compressed n a r tail).rd (ent (0x4800 + n) 9) = y.rd (ent (0x4800 + n) 9) ∧
    (y.compressed n a r tail).rd (ent (0x4800 + n) 0x0B) = (y.rd (ent (0x4800 + n) 0x0B) + r.taken) % 2 ^ 64 ∧
    (y.compressed n a r tail).rd (ent (0x4800 + n) 0x0C) = (y.rd (ent (0x4800 + n) 0x0C) + r.out.length) % 2 ^ 64 := by
  unfold Sys.compressed
  extract_lets b e c d f
  have hc (k : Nat) : c.rd k = y.rd k := (Sys.rd_setZc ..).trans (rd_dmaWr ..)
  refine ⟨?_, ?_, ?_⟩ <;> split <;> simp [f, d, hc, ent]

theorem compressJob_runs (s : State) (n : Fin 64) (d i : Bytes) (b : Bool) (hop : s.sys.rd (ent (0x4800 + n.val) 1) = 3)
    (hstart : jobStart s.sys (s.sys.jobAt n.val d).2 1 b = 0) :
    let q := s.sys.jobAt n.val d
    let data := (s.sys.zc n.val).tail ++ s.sys.dmaRd (rdLe q.2 8 8) (rdLe q.2 4 4) i
    let r := compressRun (s.sys.rd (ent (0x4800 + n.val) 6) == 1) (max 1 (s.sys.rd (ent (0x4800 + n.val) 7) * 1024)) (rdLe q.2 24 4)
      ((rdLe q.2 1 1).testBit 0) (data.length + 1) 0 data ⟨[], 0, 0, 0, false⟩
    Runs (.compressJob n d i b) s ((s.sys.compressed n.val (rdLe q.2 16 8) r (if r.stop then (s.sys.zc n.val).tail.drop r.taken else data.drop r.taken)).jobDone
      n.val q.1 q.2 r.status (if r.stop then r.taken - (s.sys.zc n.val).tail.length else rdLe q.2 4 4) r.out.length) := by
  intro q data r
  rw [Runs, exec_compressJob, execCompressJob, onSys_eq]
  refine congrArg (fun z : Sys => Host.Outcome.next { s with sys := z }) ?_
  extract_lets m
  rw [if_neg (not_not_intro hop)]
  exact if_neg (not_not_intro hstart)

theorem compressJob_does (s : State) (n : Fin 64) (d i : Bytes) (b : Bool) (hop : s.sys.rd (ent (0x4800 + n.val) 1) = 3) :
    let q := s.sys.jobAt n.val d
    jobStart s.sys q.2 1 b = 0 →
    let data := (s.sys.zc n.val).tail ++ s.sys.dmaRd (rdLe q.2 8 8) (rdLe q.2 4 4) i
    let r := compressRun (s.sys.rd (ent (0x4800 + n.val) 6) == 1) (max 1 (s.sys.rd (ent (0x4800 + n.val) 7) * 1024)) (rdLe q.2 24 4)
      ((rdLe q.2 1 1).testBit 0) (data.length + 1) 0 data ⟨[], 0, 0, 0, false⟩
    Completes (.compressJob n d i b) s fun t =>
      (t.sys.zc n.val).tail = (if r.stop then (s.sys.zc n.val).tail.drop r.taken else data.drop r.taken) ∧
      (t.sys.zc n.val).next = ((s.sys.zc n.val).next + 1) % max 1 (s.sys.rd (ent (0x4800 + n.val) 9)) ∧
      t.sys.rd (ent (0x4800 + n.val) 0x0B) = (s.sys.rd (ent (0x4800 + n.val) 0x0B) + r.taken) % 2 ^ 64 ∧
      t.sys.rd (ent (0x4800 + n.val) 0x0C) = (s.sys.rd (ent (0x4800 + n.val) 0x0C) + r.out.length) % 2 ^ 64 ∧
      t.otp = s.otp ∧ t.pending = s.pending := by
  intro q hstart data r
  have hruns := compressJob_runs s n d i b hop hstart
  extract_lets at hruns
  obtain ⟨h9, hB, hC⟩ := s.sys.rd_compressed (n := n.val) (a := rdLe q.2 16 8) r (if r.stop then (s.sys.zc n.val).tail.drop r.taken else data.drop r.taken)
  have hz := s.sys.zc_compressed n.val (rdLe q.2 16 8) r (if r.stop then (s.sys.zc n.val).tail.drop r.taken else data.drop r.taken)
  refine ⟨_, hruns, ?_, ?_, ?_, ?_, rfl, rfl⟩
  · exact (congrArg Zc.tail (zc_jobDone ..)).trans (congrArg Zc.tail hz)
  · refine (congrArg Zc.next (zc_jobDone ..)).trans ?_
    rw [hz, h9]
  · exact (rd_jobDone _ _ _ _ _ _ _ (by unfold ent; omega)).trans hB
  · exact (rd_jobDone _ _ _ _ _ _ _ (by unfold ent; omega)).trans hC

/-- What a run of expansion leaves before its job ends. -/
def Sys.expanded (y : Sys) (n at_ : Nat) (r : JobRun) : Sys :=
  let z := y.dmaWr at_ r.out
  let z := (z.inc64 (ent (0x4800 + n) 0x0B) r.out.length).inc64 (ent (0x4800 + n) 0x0C) r.taken
  if r.status = 3 then
    (z.inc (ent (0x4800 + n) 0x10)).raiseLimited n 0x0E01 n (ev [(0, 1, n), (1, 1, 4), (2, 2, r.stored)])
  else z

theorem Sys.zc_expanded (y : Sys) (n a : Nat) (r : JobRun) : (y.expanded n a r).zc n = y.zc n := by
  unfold Sys.expanded
  extract_lets b c
  have hc : c.zcs = y.zcs := zcs_dmaWr ..
  split
  · exact congrArg (fun l => tget (fun _ => zc0) l n) ((Sys.raiseLimited_zcs ..).trans hc)
  · exact congrArg (fun l => tget (fun _ => zc0) l n) hc

theorem Sys.rd_expanded (y : Sys) {n a : Nat} (r : JobRun) :
    (y.expanded n a r).rd (ent (0x4800 + n) 9) = y.rd (ent (0x4800 + n) 9) ∧
    (y.expanded n a r).rd (ent (0x4800 + n) 0x0B) = (y.rd (ent (0x4800 + n) 0x0B) + r.out.length) % 2 ^ 64 ∧
    (y.expanded n a r).rd (ent (0x4800 + n) 0x0C) = (y.rd (ent (0x4800 + n) 0x0C) + r.taken) % 2 ^ 64 ∧
    (r.status = 3 → (y.expanded n a r).rd (ent (0x4800 + n) 0x10) = (y.rd (ent (0x4800 + n) 0x10) + 1) % 2 ^ 32) := by
  unfold Sys.expanded
  extract_lets b c
  have hb (k : Nat) : b.rd k = y.rd k := rd_dmaWr ..
  refine ⟨?_, ?_, ?_, fun h => ?_⟩
  · split <;> simp [c, hb, ent]
  · split <;> simp [c, hb, ent]
  · split <;> simp [c, hb, ent]
  · simp [h, c, hb, ent]

theorem expandJob_does (s : State) (n : Fin 64) (d i : Bytes) (b : Bool) (hop : s.sys.rd (ent (0x4800 + n.val) 1) = 4) :
    let q := s.sys.jobAt n.val d
    jobStart s.sys q.2 2 b = 0 →
    let data := s.sys.dmaRd (rdLe q.2 8 8) (rdLe q.2 4 4) i
    let r := expandRun (rdLe q.2 24 4) (data.length + 1) data ⟨[], 0, 0, 0, false⟩
    Completes (.expandJob n d i b) s fun t =>
      (t.sys.zc n.val).next = ((s.sys.zc n.val).next + 1) % max 1 (s.sys.rd (ent (0x4800 + n.val) 9)) ∧
      t.sys.rd (ent (0x4800 + n.val) 0x0B) = (s.sys.rd (ent (0x4800 + n.val) 0x0B) + r.out.length) % 2 ^ 64 ∧
      t.sys.rd (ent (0x4800 + n.val) 0x0C) = (s.sys.rd (ent (0x4800 + n.val) 0x0C) + r.taken) % 2 ^ 64 ∧
      (r.status = 3 → t.sys.rd (ent (0x4800 + n.val) 0x10) = (s.sys.rd (ent (0x4800 + n.val) 0x10) + 1) % 2 ^ 32) ∧
      t.otp = s.otp ∧ t.pending = s.pending := by
  intro q hstart data r
  have hruns : Runs (.expandJob n d i b) s ((s.sys.expanded n.val (rdLe q.2 16 8) r).jobDone n.val q.1 q.2 r.status r.taken r.out.length) := by
    rw [Runs, exec_expandJob, execExpandJob, onSys_eq]
    refine congrArg (fun z : Sys => Host.Outcome.next { s with sys := z }) ?_
    extract_lets m
    rw [if_neg (not_not_intro hop)]
    exact if_neg (not_not_intro hstart)
  obtain ⟨h9, hB, hC, h10⟩ := s.sys.rd_expanded (n := n.val) (a := rdLe q.2 16 8) r
  refine ⟨_, hruns, ?_, ?_, ?_, fun h => ?_, rfl, rfl⟩
  · refine (congrArg Zc.next (zc_jobDone ..)).trans ?_
    rw [Sys.zc_expanded, h9]
  · exact (rd_jobDone _ _ _ _ _ _ _ (by unfold ent; omega)).trans hB
  · exact (rd_jobDone _ _ _ _ _ _ _ (by unfold ent; omega)).trans hC
  · exact (rd_jobDone _ _ _ _ _ _ _ (by unfold ent; omega)).trans (h10 h)

/-! ## The history ring -/

theorem actStore_ring (o : Otp) (y : Sys) (x : Fin 8) (i : Nat) (v : Bytes) :
    y.actStore o (0x4848 + x.val) i v =
      match i with
      | 2 => some (plainR (y.ringHold x.val (unLe v)))
      | 7 => some (if v.length = 8 then plainR (y.ringExtract o x.val (rdLe v 0 4) (rdLe v 4 4)) else y.refuse .type)
      | _ => none := by
  unfold Sys.actStore
  dsimp only
  rw [if_neg (by omega), if_neg (by omega), if_pos (by omega), Nat.add_sub_cancel_left] <;> rfl

theorem acting_ring (o : Otp) (y : Sys) (w : Writer) (x : Fin 8) {i : Nat} (hi : i < 256) (v : Bytes) :
    acting o y w (ent (0x4848 + x.val) i) v = y.actStore o (0x4848 + x.val) i v := acting_store (by omega) hi

theorem isRwc_ring (x : Fin 8) : isRwc (ent (0x4848 + x.val) 2) = false ∧ isRwc (ent (0x4848 + x.val) 7) = false := by
  revert x
  decide +kernel

theorem plainKey_ring (x : Fin 8) {e : Nat} (he : e < 256) : plainKey (ent (0x4848 + x.val) e) :=
  .inr (.inr (.inr (.inr (.inl (by rw [ent_div _ he]; omega)))))

theorem Sys.ringHold_spec {x n : Nat} (hn : n ≤ 1) : (y.ringHold x n).1 = .ok ∧
    SameBut [.rings] (only [ent (0x4848 + x) 2]) (only []) y (y.ringHold x n).2 ∧ (y.ringHold x n).2.rd (ent (0x4848 + x) 2) = n ∧
    ∀ j, (y.ringHold x n).2.ring j = if j = x then { y.ring x with told := false } else y.ring j := by
  unfold Sys.ringHold
  rw [if_neg (by omega)]
  refine ⟨rfl, ?_, ?_, fun j => Sys.ring_setRing ..⟩
  · simp
  · simp

theorem ringHold_holds (s : State) (w : Writer) (x : Fin 8) (c : Instr) (n : Nat)
    (hc : (c, n) ∈ ([(.ringHold w x, 1), (.ringRelease w x, 0)] : List (Instr × Nat))) (hg : Granted s w (ent (0x4848 + x.val) 2) (le 1 n)) :
    Completes c s fun t => t.sys.rd (ent (0x4848 + x.val) 2) = n ∧ t.sys.ring x.val = { s.sys.ring x.val with told := false } ∧
      (∀ j, j ≠ x.val → t.sys.ring j = s.sys.ring j) ∧ t.otp = s.otp ∧ t.pending = s.pending := by
  have hw : writeOf c = some (w, ent (0x4848 + x.val) 2, le 1 n) ∧ n ≤ 1 ∧ unLe (le 1 n) = n := by
    rcases List.mem_cons.1 hc with h | h
    · cases h
      exact ⟨rfl, by decide, by decide⟩
    · cases List.mem_singleton.1 h
      exact ⟨rfl, by decide, by decide⟩
  obtain ⟨hw, hn, hval⟩ := hw
  obtain ⟨hok, hsame, hrd, hring⟩ := Sys.ringHold_spec (y := s.sys) (x := x.val) hn
  have hact := (acting_ring s.otp s.sys w x (by decide) (le 1 n)).trans (actStore_ring s.otp s.sys x 2 (le 1 n))
  simp only [hval] at hact
  obtain ⟨-, t, hexec, hfollow, hotp, hpending⟩ := acting_does (p := True) hw hg.1 (isRwc_ring x).1 (plainKey_ring x (by decide))
    (by unfold ent; omega) hact fun _ =>
      ⟨hok, congrArg Boot.due (hsame.1 .boot (by simp)).symm, congrArg Denval.saving (hsame.1 .den (by simp)).symm, trivial⟩
  have hrings (j : Nat) : t.sys.ring j = if j = x.val then { s.sys.ring x.val with told := false } else s.sys.ring j :=
    (congrArg (fun l => tget (fun _ => ring0) l j) (hfollow.same.1 .rings (by simp)).symm).trans (hring j)
  exact ⟨t, hexec, (hfollow.rd_eq (not_followNums (by decide) (by omega))).trans hrd, (hrings _).trans (if_pos rfl),
    fun j hj => (hrings j).trans (if_neg hj), hotp, hpending⟩

theorem rdLe_two (a b : BitVec 32) : (le 4 a.toNat ++ le 4 b.toNat).length = 8 ∧ rdLe (le 4 a.toNat ++ le 4 b.toNat) 0 4 = a.toNat ∧
    rdLe (le 4 a.toNat ++ le 4 b.toNat) 4 4 = b.toNat := by
  refine ⟨by simp [le_length], ?_, ?_⟩
  · rw [rdLe, List.drop_zero, List.take_append_of_le_length (by simp [le_length]), List.take_of_length_le (by simp [le_length]), unLe_toNat a 4 (by decide)]
  · rw [rdLe, List.drop_append_of_le_length (by simp [le_length]), List.drop_of_length_le (by simp [le_length]), List.nil_append,
      List.take_of_length_le (by simp [le_length]), unLe_toNat b 4 (by decide)]

theorem acting_extract (o : Otp) (y : Sys) (w : Writer) (x : Fin 8) (a b : BitVec 32) :
    acting o y w (ent (0x4848 + x.val) 7) (le 4 a.toNat ++ le 4 b.toNat) = some (plainR (y.ringExtract o x.val a.toNat b.toNat)) := by
  obtain ⟨hlen, ha, hb⟩ := rdLe_two a b
  rw [acting_ring o y w x (by decide), actStore_ring]
  simp only [hlen, ha, hb, if_true]

/-- An extract of frames that the ring holds, while the context's clip is open. -/
theorem Sys.ringExtract_open {x a b : Nat} (hopen : (y.recording x).slot.isSome = true)
    (hne : ((y.ring x).frames.filter fun f => decide (a ≤ f.frame) && decide (f.frame ≤ b)) ≠ []) :
    y.ringExtract o x a b = (.ok, (y.handRing x ((y.ring x).frames.filter fun f => decide (a ≤ f.frame) && decide (f.frame ≤ b))).raise 0x0E07 x
      (ev [(0, 1, x), (4, 4, a), (8, 4, b),
        (12, 4, ((y.ring x).frames.filter fun f => decide (a ≤ f.frame) && decide (f.frame ≤ b)).length)])) := by
  obtain ⟨f, l, hl⟩ := List.exists_cons_of_ne_nil hne
  simp [Sys.ringExtract, hl, hopen]

theorem Sys.ringExtract_none {x a b : Nat}
    (hnone : ((y.ring x).frames.filter fun f => decide (a ≤ f.frame) && decide (f.frame ≤ b)) = []) : y.ringExtract o x a b = (.range, y) := by
  simp [Sys.ringExtract, hnone]

theorem ringExtract_nothing (s : State) (w : Writer) (x : Fin 8) (a b : BitVec 32)
    (h : ∀ f ∈ (s.sys.ring x.val).frames, f.frame < a.toNat ∨ b.toNat < f.frame) :
    ¬ Granted s w (ent (0x4848 + x.val) 7) (le 4 a.toNat ++ le 4 b.toNat) := by
  intro hg
  have hnone : ((s.sys.ring x.val).frames.filter fun f => decide (a.toNat ≤ f.frame) && decide (f.frame ≤ b.toNat)) = [] := by
    refine List.filter_eq_nil_iff.2 fun f hf => ?_
    have := h f hf
    simp
    omega
  have hok := acts_of_admitted hg.1 (isRwc_ring x).2 (acting_extract ..) (by simp [plainR, Sys.ringExtract_none hnone])
  simp [plainR, Sys.ringExtract_none hnone] at hok

theorem Sys.ringExtract_spec {x a b : Nat} (hr : plainR (y.ringExtract o x a b) = r) (hok : r.1 = .ok ∨ r.1 = .overbudget)
    (hopen : (y.recording x).slot.isSome = true) :
    let l := (y.ring x).frames.filter fun f => decide (a ≤ f.frame) && decide (f.frame ≤ b)
    let z := y.handRing x l
    r.1 = .ok ∧ r.2.2.boot.due = y.boot.due ∧ r.2.2.den.saving = y.den.saving ∧ r.2.1 = [] ∧ r.2.2.media = z.media ∧ r.2.2.rings = z.rings := by
  intro l z
  have hz : Touches [.tx, .log, .dram, .mem, .media, .rings] y z := (touches_handRing y x l (fun _ h => h)).2 (.refl y)
  by_cases hne : l = []
  · rw [Sys.ringExtract_none hne] at hr
    subst hr
    exact absurd hok (by simp [plainR])
  · rw [Sys.ringExtract_open hopen hne] at hr
    subst hr
    have hdue : z.boot.due = y.boot.due := by
      obtain ⟨_, _, _, hboot⟩ := hz.steady (by simp)
      rw [hboot]
    refine ⟨rfl, (congrArg Boot.due (Sys.raise_boot ..)).trans hdue, ?_, rfl, ?_, ?_⟩
    · exact (congrArg Denval.saving (Sys.raise_den ..)).trans (congrArg Denval.saving (hz.facet .den (by simp) (by simp))).symm
    · exact Sys.raise_media ..
    · exact Sys.raise_rings ..

theorem ringExtract_hands (s : State) (w : Writer) (x : Fin 8) (a b : BitVec 32) :
    let l := (s.sys.ring x.val).frames.filter fun f => decide (a.toNat ≤ f.frame) && decide (f.frame ≤ b.toNat)
    let z := s.sys.handRing x.val l
    Granted s w (ent (0x4848 + x.val) 7) (le 4 a.toNat ++ le 4 b.toNat) → (s.sys.recording x.val).slot.isSome = true →
    Completes (.ringExtract w x a b) s fun t =>
      t.sys.media = z.media ∧ t.sys.rings = z.rings ∧ t.otp = s.otp ∧ t.pending = s.pending := by
  intro l z hg hopen
  obtain ⟨⟨hops, hmedia, hrings⟩, t, hexec, hfollow, hotp, hpending⟩ := acting_does (c := .ringExtract w x a b) rfl hg.1 (isRwc_ring x).2
    (plainKey_ring x (by decide)) (by unfold ent; omega) (acting_extract ..) fun h => Sys.ringExtract_spec rfl h hopen
  exact ⟨t, hexec, ((hfollow.same.1 .media (by simp) : _ = t.sys.media).symm).trans hmedia,
    ((hfollow.same.1 .rings (by simp) : _ = t.sys.rings).symm).trans hrings, by rw [hotp, hops]; rfl, hpending⟩

/-! ## A held tail -/

theorem heldTailDiscard_discards (s : State) (n : Fin 64) (h : (s.sys.zc n.val).tail ≠ []) (hroom : Room s) : Completes (.heldTailDiscard n) s fun t =>
    t.sys.zc n.val = { s.sys.zc n.val with tail := [] } ∧ (∀ j, j ≠ n.val → t.sys.zc j = s.sys.zc j) ∧
    Logs s t 0x0E06 n.val (ev [(0, 1, n.val), (4, 4, (s.sys.zc n.val).tail.length)]) ∧ Leaves [.zcs, .log] (only []) (only []) s t := by
  have hruns : Runs (.heldTailDiscard n) s ((s.sys.setZc n.val { s.sys.zc n.val with tail := [] }).raise 0x0E06 n.val
      (ev [(0, 1, n.val), (4, 4, (s.sys.zc n.val).tail.length)])) := by
    have hfull : ¬ (s.sys.zc n.val).tail.isEmpty = true := by rwa [List.isEmpty_iff]
    rw [Runs, exec_heldTailDiscard, execHeldTailDiscard, onSys_eq, Sys.discardTail]
    exact congrArg (fun z : Sys => Host.Outcome.next { s with sys := z }) (if_neg hfull)
  have hzc (j : Nat) (data : Bytes) : ((s.sys.setZc n.val { s.sys.zc n.val with tail := [] }).raise 0x0E06 n.val data).zc j =
      if j = n.val then { s.sys.zc n.val with tail := [] } else s.sys.zc j :=
    (congrArg (fun l => tget (fun _ => zc0) l j) (Sys.raise_zcs ..)).trans (Sys.zc_setZc ..)
  refine ⟨_, hruns, (hzc ..).trans (if_pos rfl), fun j hj => (hzc ..).trans (if_neg hj), ?_, rfl, rfl, ?_⟩
  · simp only [Logs]
    rw [Sys.log_raise _ _ _ _ (by exact hroom)]
    rfl
  · simp

/-- Settles O52. -/
theorem codersJobsAndTheRing : Obligations.CodersJobsAndTheRing := by
  unfold Obligations.CodersJobsAndTheRing
  refine ⟨rawStripeCoded_none, rawStripeCoded_codes, rawStripeCoded_waits, fun s n d i b h => ?_, fun s n d i b h => ?_, fun s n d i b hop hstart => ?_,
    compressJob_does, expandJob_does, fun s n h => ?_, heldTailDiscard_discards, ringHold_holds, ringExtract_nothing, ringExtract_hands⟩
  · rw [Runs, exec_compressJob, execCompressJob, onSys_eq]
    exact congrArg (fun z : Sys => Host.Outcome.next { s with sys := z }) (if_pos h)
  · rw [Runs, exec_expandJob, execExpandJob, onSys_eq]
    exact congrArg (fun z : Sys => Host.Outcome.next { s with sys := z }) (if_pos h)
  · rw [Runs, exec_compressJob, execCompressJob, onSys_eq]
    refine congrArg (fun z : Sys => Host.Outcome.next { s with sys := z }) ?_
    extract_lets m
    rw [if_neg (not_not_intro hop)]
    exact if_pos hstart
  · rw [Runs, exec_heldTailDiscard, execHeldTailDiscard, onSys_eq, Sys.discardTail]
    exact congrArg (fun z : Sys => Host.Outcome.next { s with sys := z }) (if_pos (List.isEmpty_iff.2 h))

end Sys2Proof.Machine
end

section
/-!
PROOFS. Which facets the operations of the model can change, from the callee to the caller: one lemma per operation, which peels it off a state.
-/

namespace Sys2Proof.Machine

variable {fs : List Facet} {x w : Sys}

theorem touches_queueReset (y : Sys) (q : Nat) (hs : ∀ p ∈ [Facet.tx, .log, .dram, .mem, .media], p ∈ fs) : Touches fs x (Sys.queueReset y q) ↔ Touches fs x y := by
  refine Touches.peel (gs := [Facet.tx, .log, .dram, .mem, .media]) ?_ hs
  unfold Sys.queueReset
  simp (maxDischargeDepth := 7) [↓touches_primitives, ↓touches_closeClip, ↓touches_settle, ↓touches_sets, ↓touches_fields, ↓touches_foldl]

theorem touches_commitJournal (y : Sys)  (hs : ∀ p ∈ [Facet.mram], p ∈ fs) : Touches fs x (Sys.commitJournal y) ↔ Touches fs x y := by
  refine Touches.peel (gs := [Facet.mram]) ?_ hs
  unfold Sys.commitJournal
  simp [↓touches_primitives, ↓touches_fields]

end Sys2Proof.Machine
end

section
/-!
PROOFS. Which entries the operations of the model can write, from the callee to the caller: one lemma per operation, which peels it off a state.
-/

namespace Sys2Proof.Machine

variable {ps : List Spot} {x w : Sys}

theorem writes_showLog (y : Sys) (q : Nat) (hs : ∀ p ∈ [Spot.above 0x4910 10, .above 0x4920 1], p ∈ ps) : Writes ps x (Sys.showLog y q) ↔ Writes ps x y := by
  refine Writes.peel (qs := [Spot.above 0x4910 10, .above 0x4920 1]) ?_ hs
  unfold Sys.showLog
  simp [↓writes_primitives, covered_above]

theorem writes_freezeQ (y : Sys) (q : Nat) (op : Nat) (flags : Nat) (tag : Nat) (epoch : Nat) (status : Nat) (drive : Nat) (sct : Nat) (sc : Nat) (block : Nat) (lba : Nat) (blocks : Nat) (irq : Bool) (hs : ∀ p ∈ [Spot.above 0x4910 1, .above 0x4910 10, .above 0x4910 4, .above 0x4910 9, .above 0x4920 1, .above 0x4920 2, .above 0x4920 3], p ∈ ps) : Writes ps x (Sys.freezeQ y q op flags tag epoch status drive sct sc block lba blocks irq) ↔ Writes ps x y := by
  refine Writes.peel (qs := [Spot.above 0x4910 1, .above 0x4910 10, .above 0x4910 4, .above 0x4910 9, .above 0x4920 1, .above 0x4920 2, .above 0x4920 3]) ?_ hs
  unfold Sys.freezeQ
  simp [↓writes_primitives, covered_above, ↓writes_post, ↓writes_showLog, ↓writes_sets]

theorem writes_rejectEntry (y : Sys) (q : Nat) (e : Bytes) (status : Nat) (hs : ∀ p ∈ [Spot.above 0x4910 1, .above 0x4910 10, .above 0x4910 4, .above 0x4910 9, .above 0x4920 1, .above 0x4920 2, .above 0x4920 3], p ∈ ps) : Writes ps x (Sys.rejectEntry y q e status) ↔ Writes ps x y := by
  refine Writes.peel (qs := [Spot.above 0x4910 1, .above 0x4910 10, .above 0x4910 4, .above 0x4910 9, .above 0x4920 1, .above 0x4920 2, .above 0x4920 3]) ?_ hs
  unfold Sys.rejectEntry
  simp [↓writes_primitives, ↓writes_freezeQ, ↓writes_post]

theorem writes_commitJournal (y : Sys)  (hs : ∀ p ∈ [Spot.at 0x4950 5], p ∈ ps) : Writes ps x (Sys.commitJournal y) ↔ Writes ps x y := by
  refine Writes.peel (qs := [Spot.at 0x4950 5]) ?_ hs
  unfold Sys.commitJournal
  simp [↓writes_primitives, covered_at, ↓writes_fields]

end Sys2Proof.Machine
end

section
/-!
PROOFS. The media queues (O53).
-/

namespace Sys2Proof.Machine

variable {fs : List Facet} {y z : Sys} {s : State} {o : Otp} {v : Bytes} {r : Result} {w : Writer}

/-! ## Entries that are fetched -/

/-- Where the completions of a queue's entries, their refusals and the buffer's turn show. -/
def completionSpots : List Spot :=
  [.above 0x4910 1, .above 0x4910 10, .above 0x4910 4, .above 0x4910 9, .above 0x4920 1, .above 0x4920 2, .above 0x4920 3, .above 0x4910 7,
    .at 0x4950 3]

theorem writes_completions_settle (y : Sys) : Writes completionSpots y y.settle :=
  (writes_settle y (by simp [completionSpots])).2 (.refl y)

theorem writes_completions_reject (y : Sys) (q : Nat) (e : Bytes) (st : Nat) : Writes completionSpots y (y.rejectEntry q e st) :=
  (writes_rejectEntry y q e st (by simp [completionSpots])).2 (.refl y)

theorem writes_completions_post (y : Sys) (q tag st epoch blocks : Nat) (irq : Bool) : Writes completionSpots y (y.post q tag st epoch blocks irq) :=
  (writes_post y q tag st epoch blocks irq (by simp [completionSpots])).2 (.refl y)

/-- Completions leave the head of the submission ring, the epoch and the other counts. -/
theorem Writes.rd_queue (h : Writes completionSpots y z) {q e : Nat} (hq : q < 16) (he : e = 2 ∨ e = 3 ∨ e = 5 ∨ e = 6 ∨ e = 8) :
    z.rd (ent (0x4910 + q) e) = y.rd (ent (0x4910 + q) e) := by
  refine h.rd_eq fun p hp => ?_
  simp only [completionSpots, List.mem_cons, List.not_mem_nil, or_false] at hp
  rcases hp with rfl | rfl | rfl | rfl | rfl | rfl | rfl | rfl | rfl <;> simp only [Spot.hits, ent] <;> omega

/-- What a fetch shows: the head of the submission ring and the count of commands. -/
theorem Sys.rd_fetched (y : Sys) (q : Nat) :
    (y.fetched q).rd (ent (0x4910 + q) 3) = (y.rd (ent (0x4910 + q) 3) + 1) % max 1 (y.mq q).sqN ∧
    (y.fetched q).rd (ent (0x4910 + q) 5) = (y.rd (ent (0x4910 + q) 5) + 1) % 2 ^ 64 ∧
    (y.fetched q).rd (ent (0x4910 + q) 6) = y.rd (ent (0x4910 + q) 6) := by
  refine ⟨?_, ?_, ?_⟩ <;> simp [Sys.fetched, ent]

/-- A write that is taken into the buffer, as its entry says. -/
def Sys.takenWrite (y : Sys) (q : Nat) (e data : Bytes) : BufWrite :=
  let fits := decide (y.media.hostBuffered + 4096 * rdLe e 16 4 ≤ y.rd (ent 0x4950 2) * 1048576)
  { order := y.media.order, queue := q, tag := rdLe e 2 2, epoch := rdLe e 4 2, index := (rdLe e 1 1).testBit 0,
    ordered := (rdLe e 1 1).testBit 1, irq := (rdLe e 1 1).testBit 2, host := true, addr := 4096 * rdLe e 8 8,
    data := y.dmaRd (rdLe e 24 8) (4096 * rdLe e 16 4) data, waiting := if fits then none else some y.up, done := fits && !(rdLe e 1 1).testBit 1,
    pieces := y.writePieces (4096 * rdLe e 8 8) (4096 * rdLe e 16 4) }

/-- An entry of a write that is taken. -/
def Sys.takeWrite (y : Sys) (q : Nat) (e data : Bytes) : Sys :=
  let w := y.takenWrite q e data
  let z := { y with media := { y.media with order := y.media.order + 1, writes := y.media.writes ++ [w] } }
  let z := z.inc64 (ent (0x4910 + q) 6) (rdLe e 16 4)
  Sys.settle (if w.done then z.post q w.tag 0 w.epoch (rdLe e 16 4) w.irq else z)

theorem Sys.rd_takeWrite (y : Sys) {q : Nat} (hq : q < 16) (e data : Bytes) :
    (y.takeWrite q e data).rd (ent (0x4910 + q) 3) = y.rd (ent (0x4910 + q) 3) ∧
    (y.takeWrite q e data).rd (ent (0x4910 + q) 5) = y.rd (ent (0x4910 + q) 5) ∧
    (y.takeWrite q e data).rd (ent (0x4910 + q) 6) = (y.rd (ent (0x4910 + q) 6) + rdLe e 16 4) % 2 ^ 64 := by
  unfold Sys.takeWrite
  extract_lets w a m b
  have hb : Writes completionSpots b (Sys.settle (if w.done then b.post q w.tag 0 w.epoch (rdLe e 16 4) w.irq else b)) := by
    refine Writes.trans ?_ (writes_completions_settle _)
    split
    · exact writes_completions_post _ _ _ _ _ _ _
    · exact .refl b
  rw [hb.rd_queue hq (by simp), hb.rd_queue hq (by simp), hb.rd_queue hq (by simp)]
  exact ⟨(Sys.rd_wr ..).trans (if_neg (by unfold ent; omega)), (Sys.rd_wr ..).trans (if_neg (by unfold ent; omega)), (Sys.rd_wr ..).trans (if_pos rfl)⟩

/-- An entry of a read that is taken, or whose blocks no drive can give. -/
def Sys.takeRead (y : Sys) (q : Nat) (e : Bytes) : Sys :=
  let b := rdLe e 8 8
  let n := rdLe e 16 4
  let runs := (y.vol.runs b n).filter fun r => (List.range r.2.2.1).any fun i => (y.media.bufferedBlock (b + r.2.2.2 + i)).isNone
  if runs.any fun r => (y.readDrive r.1).isNone then y.rejectEntry q e 9
  else
    let ps : List Piece := runs.zipIdx.map fun r =>
      ⟨(y.readDrive r.1.1).getD 0, r.1.2.1, r.1.2.2.1, 4096 * r.1.2.2.2, some (y.media.nextCid + r.2)⟩
    let rd : MqRead :=
      { order := y.media.order, queue := q, tag := rdLe e 2 2, epoch := rdLe e 4 2, irq := (rdLe e 1 1).testBit 2, flags := rdLe e 1 1,
        block := b, count := n, dest := rdLe e 24 8,
        data := (List.range n).flatMap fun i => (y.media.bufferedBlock (b + i)).getD (List.replicate 4096 0), pieces := ps }
    let y := { y with media := { y.media with order := y.media.order + 1, nextCid := y.media.nextCid + ps.length,
                                              reads := y.media.reads ++ [rd] } }
    Sys.settle (ps.foldl (fun y p => y.send (.drive p.drive (p.cid.getD 0) 1 p.lba p.count [])) y)

theorem writes_takeRead (y : Sys) (q : Nat) (e : Bytes) : Writes completionSpots y (y.takeRead q e) := by
  unfold Sys.takeRead
  extract_lets b n runs ps rd m z
  split
  · exact writes_completions_reject _ _ _ _
  · refine Writes.trans ?_ (writes_completions_settle _)
    refine (writes_foldl _ _ fun v p _ => ?_).2 (.of_dict rfl rfl)
    exact .of_dict rfl rfl

/-- An entry of a flush that is taken. -/
def Sys.takeFlush (y : Sys) (q : Nat) (e : Bytes) : Sys :=
  let f : MqFlush := { order := y.media.order, queue := q, tag := rdLe e 2 2, epoch := rdLe e 4 2, irq := (rdLe e 1 1).testBit 2,
                       flags := rdLe e 1 1, issued := false, pieces := [] }
  Sys.settle { y with media := { y.media with order := y.media.order + 1, flushes := y.media.flushes ++ [f] } }

theorem mqEntry_runs (s : State) (q : Fin 16) (e d : Bytes) (f : Bool) (hf : s.sys.fetches q.val = true) :
    Runs (.mqWrite q e d f) s (if (s.sys.fetched q.val).entryStatus q.val 1 (slice e 0 64) f ≠ 0 then
      (s.sys.fetched q.val).rejectEntry q.val (slice e 0 64) ((s.sys.fetched q.val).entryStatus q.val 1 (slice e 0 64) f)
      else (s.sys.fetched q.val).takeWrite q.val (slice e 0 64) d) ∧
    Runs (.mqRead q e f) s (if (s.sys.fetched q.val).entryStatus q.val 2 (slice e 0 64) f ≠ 0 then
      (s.sys.fetched q.val).rejectEntry q.val (slice e 0 64) ((s.sys.fetched q.val).entryStatus q.val 2 (slice e 0 64) f)
      else (s.sys.fetched q.val).takeRead q.val (slice e 0 64)) ∧
    Runs (.mqFlush q e) s (if (s.sys.fetched q.val).entryStatus q.val 3 (slice e 0 64) false ≠ 0 then
      (s.sys.fetched q.val).rejectEntry q.val (slice e 0 64) ((s.sys.fetched q.val).entryStatus q.val 3 (slice e 0 64) false)
      else (s.sys.fetched q.val).takeFlush q.val (slice e 0 64)) := by
  have hfetch : ¬ (!s.sys.fetches q.val) = true := by rw [hf]; decide
  refine ⟨?_, ?_, ?_⟩
  · rw [Runs, exec_mqWrite, execMqWrite, onSys_eq]
    exact congrArg (fun z : Sys => Host.Outcome.next { s with sys := z }) (if_neg hfetch)
  · rw [Runs, exec_mqRead, execMqRead, onSys_eq]
    exact congrArg (fun z : Sys => Host.Outcome.next { s with sys := z }) (if_neg hfetch)
  · rw [Runs, exec_mqFlush, execMqFlush, onSys_eq]
    exact congrArg (fun z : Sys => Host.Outcome.next { s with sys := z }) (if_neg hfetch)

theorem mqEntry_counts (s : State) (q : Fin 16) (e d : Bytes) (f : Bool) (c : Instr) (hf : s.sys.fetches q.val = true)
    (hc : c ∈ ([.mqWrite q e d f, .mqRead q e f, .mqFlush q e] : List Instr)) : Completes c s fun t =>
      t.sys.rd (ent (0x4910 + q.val) 3) = (s.sys.rd (ent (0x4910 + q.val) 3) + 1) % max 1 (s.sys.mq q.val).sqN ∧
      t.sys.rd (ent (0x4910 + q.val) 5) = (s.sys.rd (ent (0x4910 + q.val) 5) + 1) % 2 ^ 64 ∧ t.otp = s.otp ∧ t.pending = s.pending := by
  obtain ⟨h3, h5, -⟩ := s.sys.rd_fetched q.val
  obtain ⟨hw, hr, hflush⟩ := mqEntry_runs s q e d f hf
  have hdone (z : Sys) (hz : z.rd (ent (0x4910 + q.val) 3) = (s.sys.fetched q.val).rd (ent (0x4910 + q.val) 3) ∧
      z.rd (ent (0x4910 + q.val) 5) = (s.sys.fetched q.val).rd (ent (0x4910 + q.val) 5)) (hruns : Runs c s z) : Completes c s fun t =>
      t.sys.rd (ent (0x4910 + q.val) 3) = (s.sys.rd (ent (0x4910 + q.val) 3) + 1) % max 1 (s.sys.mq q.val).sqN ∧
      t.sys.rd (ent (0x4910 + q.val) 5) = (s.sys.rd (ent (0x4910 + q.val) 5) + 1) % 2 ^ 64 ∧ t.otp = s.otp ∧ t.pending = s.pending :=
    ⟨_, hruns, hz.1.trans h3, hz.2.trans h5, rfl, rfl⟩
  have hspots (z : Sys) (h : Writes completionSpots (s.sys.fetched q.val) z) :
      z.rd (ent (0x4910 + q.val) 3) = (s.sys.fetched q.val).rd (ent (0x4910 + q.val) 3) ∧
      z.rd (ent (0x4910 + q.val) 5) = (s.sys.fetched q.val).rd (ent (0x4910 + q.val) 5) :=
    ⟨h.rd_queue q.isLt (by simp), h.rd_queue q.isLt (by simp)⟩
  simp only [List.mem_cons, List.not_mem_nil, or_false] at hc
  rcases hc with rfl | rfl | rfl
  · refine hdone _ ?_ hw
    split
    · exact hspots _ (writes_completions_reject _ _ _ _)
    · obtain ⟨t3, t5, -⟩ := (s.sys.fetched q.val).rd_takeWrite q.isLt (slice e 0 64) d
      exact ⟨t3, t5⟩
  · refine hdone _ (hspots _ ?_) hr
    split
    · exact writes_completions_reject _ _ _ _
    · exact writes_takeRead _ _ _
  · refine hdone _ (hspots _ ?_) hflush
    split
    · exact writes_completions_reject _ _ _ _
    · exact .trans (.of_dict rfl rfl) (writes_completions_settle _)

theorem mqEntry_rejects (s : State) (q : Fin 16) (e d : Bytes) (f : Bool) (c : Instr) (kind : Nat) (fault : Bool) (hf : s.sys.fetches q.val = true)
    (hc : (c, kind, fault) ∈ ([(.mqWrite q e d f, 1, f), (.mqRead q e f, 2, f), (.mqFlush q e, 3, false)] : List (Instr × Nat × Bool)))
    (hst : (s.sys.fetched q.val).entryStatus q.val kind (slice e 0 64) fault ≠ 0) :
    Runs c s ((s.sys.fetched q.val).rejectEntry q.val (slice e 0 64) ((s.sys.fetched q.val).entryStatus q.val kind (slice e 0 64) fault)) := by
  obtain ⟨hw, hr, hflush⟩ := mqEntry_runs s q e d f hf
  rcases List.mem_cons.1 hc with h | h
  · cases h
    rwa [if_pos hst] at hw
  rcases List.mem_cons.1 h with h | h
  · cases h
    rwa [if_pos hst] at hr
  · cases List.mem_singleton.1 h
    rwa [if_pos hst] at hflush

theorem mqWrite_counts (s : State) (q : Fin 16) (e d : Bytes) (f : Bool) (hf : s.sys.fetches q.val = true)
    (hst : (s.sys.fetched q.val).entryStatus q.val 1 (slice e 0 64) f = 0) : Completes (.mqWrite q e d f) s fun t =>
      t.sys.rd (ent (0x4910 + q.val) 6) = (s.sys.rd (ent (0x4910 + q.val) 6) + rdLe (slice e 0 64) 16 4) % 2 ^ 64 ∧
      t.otp = s.otp ∧ t.pending = s.pending := by
  obtain ⟨hruns, -⟩ := mqEntry_runs s q e d f hf
  rw [if_neg (not_not_intro hst)] at hruns
  obtain ⟨-, -, h6⟩ := s.sys.rd_fetched q.val
  obtain ⟨-, -, t6⟩ := (s.sys.fetched q.val).rd_takeWrite q.isLt (slice e 0 64) d
  exact ⟨_, hruns, by rw [t6, h6], rfl, rfl⟩

theorem mqEntry_waits (s : State) (q : Fin 16) (e d : Bytes) (f : Bool) (hf : s.sys.fetches q.val = false) :
    Runs (.mqWrite q e d f) s s.sys ∧ Runs (.mqRead q e f) s s.sys ∧ Runs (.mqFlush q e) s s.sys := by
  have hfetch : (!s.sys.fetches q.val) = true := by rw [hf]; rfl
  refine ⟨?_, ?_, ?_⟩
  · rw [Runs, exec_mqWrite, execMqWrite, onSys_eq]
    exact congrArg (fun z : Sys => Host.Outcome.next { s with sys := z }) (if_pos hfetch)
  · rw [Runs, exec_mqRead, execMqRead, onSys_eq]
    exact congrArg (fun z : Sys => Host.Outcome.next { s with sys := z }) (if_pos hfetch)
  · rw [Runs, exec_mqFlush, execMqFlush, onSys_eq]
    exact congrArg (fun z : Sys => Host.Outcome.next { s with sys := z }) (if_pos hfetch)

/-! ## Buffer space and completion heads -/

theorem mqBufferSpaceFreed_none (s : State) (q : Fin 16) (h : ∀ w ∈ s.sys.media.writes, w.queue = q.val → w.waiting = none) :
    Runs (.mqBufferSpaceFreed q) s s.sys := by
  have hnone : (s.sys.media.writes.find? fun w => w.queue == q.val && w.waiting.isSome) = none := by
    refine List.find?_eq_none.2 fun w hw => ?_
    have := h w hw
    simp only [Bool.and_eq_true, beq_iff_eq, not_and]
    intro hq
    simp [this hq]
  rw [Runs, exec_mqBufferSpaceFreed, execMqBufferSpaceFreed, onSys_eq]
  refine congrArg (fun z : Sys => Host.Outcome.next { s with sys := z }) ?_
  extract_lets i
  rw [hnone]

/-- A write that waited for space is taken into the buffer. -/
def Sys.takeWaiting (y : Sys) (q : Nat) (w : BufWrite) : Sys :=
  let us := (y.up - w.waiting.getD y.up) / 1000
  let set (u : BufWrite) : BufWrite := if u.order = w.order then { u with waiting := none, done := !u.ordered } else u
  let y := { y with media := { y.media with writes := y.media.writes.map set } }
  let y := y.inc64 (ent (0x4910 + q) 8) us
  let y := if w.ordered then y else y.post q w.tag 0 w.epoch (blocksOf w.addr w.data.length) w.irq
  y.settle

theorem Sys.rd_takeWaiting (y : Sys) {q : Nat} (hq : q < 16) (w : BufWrite) :
    (y.takeWaiting q w).rd (ent (0x4910 + q) 8) = (y.rd (ent (0x4910 + q) 8) + (y.up - w.waiting.getD y.up) / 1000) % 2 ^ 64 := by
  unfold Sys.takeWaiting
  extract_lets us set m a b c
  have hc : Writes completionSpots b c.settle := by
    refine Writes.trans ?_ (writes_completions_settle _)
    unfold c
    split
    · exact .refl b
    · exact writes_completions_post _ _ _ _ _ _ _
  rw [hc.rd_queue hq (by simp)]
  exact (Sys.rd_wr ..).trans (if_pos rfl)

theorem mqBufferSpaceFreed_frees (s : State) (q : Fin 16) (w : BufWrite) (u : Nat)
    (hw : (s.sys.media.writes.find? fun w => w.queue == q.val && w.waiting.isSome) = some w) (hu : w.waiting = some u)
    (hfits : s.sys.media.hostBuffered + w.data.length ≤ s.sys.rd (ent 0x4950 2) * 1048576) : Completes (.mqBufferSpaceFreed q) s fun t =>
      t.sys.rd (ent (0x4910 + q.val) 8) = (s.sys.rd (ent (0x4910 + q.val) 8) + (s.sys.up - u) / 1000) % 2 ^ 64 ∧
      t.otp = s.otp ∧ t.pending = s.pending := by
  have hruns : Runs (.mqBufferSpaceFreed q) s (s.sys.takeWaiting q.val w) := by
    rw [Runs, exec_mqBufferSpaceFreed, execMqBufferSpaceFreed, onSys_eq]
    refine congrArg (fun z : Sys => Host.Outcome.next { s with sys := z }) ?_
    extract_lets i
    rw [hw]
    exact if_neg (Nat.not_lt.2 hfits)
  exact ⟨_, hruns, by rw [Sys.rd_takeWaiting _ q.isLt, hu, Option.getD_some], rfl, rfl⟩

/-- The two states have the same queues, but for queue q, whose completion head is the same. -/
def SameHeads (q : Nat) (y z : Sys) : Prop := (z.mq q).cqHead = (y.mq q).cqHead ∧ ∀ j, j ≠ q → z.mq j = y.mq j

theorem SameHeads.trans {q : Nat} {x : Sys} (h : SameHeads q x y) (g : SameHeads q y z) : SameHeads q x z :=
  ⟨g.1.trans h.1, fun j hj => (g.2 j hj).trans (h.2 j hj)⟩

theorem Sys.mq_congr (h : y.media = z.media) (q : Nat) : z.mq q = y.mq q := by
  unfold Sys.mq
  rw [h]

theorem SameHeads.of_media {q : Nat} (h : y.media = z.media) : SameHeads q y z := ⟨congrArg Mq.cqHead (Sys.mq_congr h q), fun j _ => Sys.mq_congr h j⟩

theorem SameHeads.setMq {q : Nat} (y : Sys) {v : Mq} (h : v.cqHead = (y.mq q).cqHead) : SameHeads q y (y.setMq q v) := by
  refine ⟨?_, fun j hj => ?_⟩
  · rw [Sys.mq_setMq, if_pos rfl, h]
  · rw [Sys.mq_setMq, if_neg hj]

theorem media_dmaWr (y : Sys) (a : Nat) (b : Bytes) : y.media = (y.dmaWr a b).media :=
  ((touches_dmaWr y a b (fun _ h => h)).2 (.refl y)).facet .media (by simp) (by simp)

theorem media_mqPending (y : Sys) : y.media = y.mqPending.media :=
  ((touches_mqPending y).2 (.refl y)).facet (fs := []) .media (by simp) (by simp)

theorem media_sendVector (y : Sys) (n : Nat) : y.media = (y.sendVector n).media :=
  ((touches_sendVector y n (fun _ h => h)).2 (.refl y)).facet .media (by simp) (by simp)

theorem sameHeads_writeCq (y : Sys) (q : Nat) (e : Bytes) (irq : Bool) : SameHeads q y (y.writeCq q e irq) := by
  unfold Sys.writeCq
  extract_lets u tail e' a next b c
  have ha : SameHeads q y a := .of_media (media_dmaWr ..)
  have hu : u.cqHead = (a.mq q).cqHead := congrArg Mq.cqHead (Sys.mq_congr (media_dmaWr ..) q).symm
  have hb : SameHeads q a b := .setMq a hu
  have hc : SameHeads q y c := (ha.trans hb).trans (.of_media (Sys.wr_media ..).symm)
  split
  · exact hc.trans (.of_media ((media_mqPending c).trans (media_sendVector ..)))
  · exact hc

/-- The host's read of a completion queue up to a place: what waited for room goes in. -/
def Sys.readTo (y : Sys) (q head : Nat) : Sys :=
  let u := y.mq q
  let n := max 1 u.cqN
  let h := head % n
  let read (t : Nat) : Bool := decide ((t + n - u.cqHead % n) % n < (h + n - u.cqHead % n) % n)
  let y := Sys.mqPending (y.setMq q { u with cqHead := h, unread := u.unread.filter fun t => !read t })
  (y.mq q).held.foldl (fun y e =>
    if y.cqRoom q then (y.setMq q { y.mq q with held := (y.mq q).held.drop 1 }).writeCq q e.1 e.2 else y) y

theorem Sys.mq_readTo (y : Sys) (q h : Nat) :
    ((y.readTo q h).mq q).cqHead = h % max 1 (y.mq q).cqN ∧ ∀ j, j ≠ q → (y.readTo q h).mq j = y.mq j := by
  unfold Sys.readTo
  extract_lets u n k read b
  have hb (j : Nat) : b.mq j = if j = q then { u with cqHead := k, unread := u.unread.filter fun t => !read t } else y.mq j :=
    (Sys.mq_congr (media_mqPending _) j).trans (Sys.mq_setMq ..)
  have hfold : SameHeads q b ((b.mq q).held.foldl (fun y e =>
      if y.cqRoom q then (y.setMq q { y.mq q with held := (y.mq q).held.drop 1 }).writeCq q e.1 e.2 else y) b) := by
    refine List.foldlRecOn _ _ (motive := fun z : Sys => SameHeads q b z) ⟨rfl, fun _ _ => rfl⟩ fun z hz e _ => ?_
    have hset : SameHeads q z (z.setMq q { z.mq q with held := (z.mq q).held.drop 1 }) := SameHeads.setMq z rfl
    split
    · exact hz.trans (hset.trans (sameHeads_writeCq _ q e.1 e.2))
    · exact hz
  exact ⟨hfold.1.trans (by rw [hb, if_pos rfl]), fun j hj => (hfold.2 j hj).trans (by rw [hb, if_neg hj])⟩

theorem cqHeadWrite_moves (s : State) (q : Fin 16) (h : BitVec 32) : Completes (.cqHeadWrite q h) s fun t =>
    (t.sys.mq q.val).cqHead = h.toNat % max 1 (s.sys.mq q.val).cqN ∧ (∀ j, j ≠ q.val → t.sys.mq j = s.sys.mq j) ∧
    t.otp = s.otp ∧ t.pending = s.pending := by
  have hruns : Runs (.cqHeadWrite q h) s (s.sys.readTo q.val h.toNat) := by
    rw [Runs, exec_cqHeadWrite, execCqHeadWrite, onSys_eq]
    rfl
  obtain ⟨hhead, hothers⟩ := s.sys.mq_readTo q.val h.toNat
  exact ⟨_, hruns, hhead, hothers, rfl, rfl⟩

/-! ## RESTART and QUEUE RESET -/

theorem Sys.queueRestart_eq {q : Nat} (hst : y.rd (ent (0x4910 + q) 1) = 2) (hlog : (y.mq q).log = []) :
    y.queueRestart q = (.ok, (y.wr (ent (0x4910 + q) 1) 1).raise 0x0F02 q (ev [(0, 1, q)])) :=
  if_neg (by simp [hst, hlog])

theorem Sys.queueRestart_refused {q : Nat} (h : y.rd (ent (0x4910 + q) 1) ≠ 2 ∨ (y.mq q).log ≠ []) : y.queueRestart q = (.state, y) :=
  if_pos (h.imp id (by simp))

/-- RESTART and QUEUE RESET asked for by the host in BAR0. -/
theorem queueStep_host (s : State) (q v : Nat) (c : Instr) (hc : exec c s = queueStep s none q v) :
    Runs c s (if s.sys.rd (ent (0x4900 + q) 1) = 1 then (s.sys.queueCommand q v).2.2 else s.sys) := by
  rw [Runs, hc, queueStep, run_eq]
  rfl

/-- Every read that is in flight in the second state is in flight in the first, and the volume is the same. -/
structure Settled (y z : Sys) : Prop where
  reads : ∀ r ∈ z.media.reads, r ∈ y.media.reads
  vol : z.vol = y.vol

theorem Settled.refl (y : Sys) : Settled y y := ⟨fun _ h => h, rfl⟩

theorem Settled.trans {x : Sys} (h : Settled x y) (g : Settled y z) : Settled x z := ⟨fun r hr => h.reads r (g.reads r hr), g.vol.trans h.vol⟩

theorem Settled.of_same (h : z.media.reads = y.media.reads) (hv : z.vol = y.vol) : Settled y z := ⟨fun _ hr => h ▸ hr, hv⟩

theorem Settled.of_media (h : y.media = z.media) : Settled y z := .of_same (congrArg Media.reads h.symm) (congrArg Media.volume h.symm)

theorem Settled.foldl {α : Type} (f : Sys → α → Sys) (l : List α) (h : ∀ z a, Settled z (f z a)) (y : Sys) : Settled y (l.foldl f y) :=
  List.foldlRecOn l f (motive := fun z => Settled y z) (.refl y) fun z hz a _ => hz.trans (h z a)

theorem settled_wr (y : Sys) (k v : Nat) : Settled y (y.wr k v) := .of_same rfl rfl

theorem settled_writeCq (y : Sys) (q : Nat) (e : Bytes) (irq : Bool) : Settled y (y.writeCq q e irq) := by
  unfold Sys.writeCq
  extract_lets u tail e' a next b c
  have hc : Settled y c := .trans (.of_media (media_dmaWr y (u.cqBase + 16 * tail) e')) (.of_same rfl rfl)
  split
  · exact hc.trans (.of_media ((media_mqPending c).trans (media_sendVector ..)))
  · exact hc

theorem settled_post (y : Sys) (q tag st epoch blocks : Nat) (irq : Bool) : Settled y (y.post q tag st epoch blocks irq) := by
  unfold Sys.post
  split
  · exact .refl y
  · dsimp only
    split
    · exact settled_writeCq ..
    · exact .of_same rfl rfl

theorem settled_completeDone (y : Sys) : Settled y y.completeDone := by
  unfold Sys.completeDone
  extract_lets rs fs m a b
  have ha : Settled y a := ⟨fun _ hr => List.mem_of_mem_filter hr, rfl⟩
  have hread (z : Sys) (r : MqRead) :
      Settled z (((z.dmaWr r.dest r.data).post r.queue r.tag 0 r.epoch r.count r.irq).inc64 (ent (0x4910 + r.queue) 7) r.count) :=
    have hpost : Settled z ((z.dmaWr r.dest r.data).post r.queue r.tag 0 r.epoch r.count r.irq) :=
      .trans (.of_media (media_dmaWr z r.dest r.data)) (settled_post ..)
    hpost.trans (settled_wr ..)
  have hb : Settled a b := .foldl _ _ hread a
  exact (ha.trans hb).trans (.foldl _ _ (fun z f => settled_post ..) b)

theorem settled_issueWrite (y : Sys) (w : BufWrite) : Settled y (y.issueWrite w) := by
  unfold Sys.issueWrite
  split
  · exact .refl y
  · refine .foldl _ _ (fun z p => ?_) y
    split
    · exact .refl z
    · exact .of_same rfl rfl

theorem settled_issueFlushes (y : Sys) : Settled y y.issueFlushes := by
  unfold Sys.issueFlushes
  refine .foldl _ _ (fun z f => ?_) y
  split
  · exact .refl z
  · extract_lets ds ps set m a
    refine .trans (y := a) (.of_same rfl rfl) (.foldl _ _ (fun v p => ?_) a)
    exact .of_same rfl rfl

theorem settled_retireWrites (y : Sys) : Settled y y.retireWrites := by
  unfold Sys.retireWrites
  extract_lets ws m a
  have hfold : Settled a (ws.foldl (fun y w =>
      if w.done then y else y.post w.queue w.tag 0 w.epoch (blocksOf w.addr w.data.length) w.irq) a) := by
    refine .foldl _ _ (fun z w => ?_) a
    split
    · exact .refl z
    · exact settled_post ..
  have ha : Settled y a := .of_same rfl rfl
  exact (ha.trans hfold).trans (settled_wr ..)

theorem settled_settle (y : Sys) : Settled y y.settle :=
  ((settled_retireWrites y).trans (.foldl _ _ (fun z w => settled_issueWrite z w) _)).trans
    ((settled_issueFlushes _).trans (settled_completeDone _))

theorem settled_recWrite (y : Sys) (x a : Nat) (b : Bytes) (index : Bool) : Settled y (y.recWrite x a b index) := by
  have hput : Settled y (y.putWrite (y.recQueue x) a b index index) := by
    unfold Sys.putWrite
    extract_lets w
    have hw : Settled y { y with media := { y.media with order := y.media.order + 1, writes := y.media.writes ++ [w] } } := .of_same rfl rfl
    exact hw.trans (settled_settle _)
  exact hput.trans (.trans (settled_wr ..) (settled_wr ..))

/-- Every read that is in flight in the second state is in flight in the first, and the volume has its members and its rebuild. -/
structure Closing (y z : Sys) : Prop where
  reads : ∀ r ∈ z.media.reads, r ∈ y.media.reads
  members : z.vol.members = y.vol.members
  rebuild : z.vol.rebuild = y.vol.rebuild

theorem Settled.closing (h : Settled y z) : Closing y z := ⟨h.reads, congrArg Volume.members h.vol, congrArg Volume.rebuild h.vol⟩

theorem Closing.trans {x : Sys} (h : Closing x y) (g : Closing y z) : Closing x z :=
  ⟨fun r hr => h.reads r (g.reads r hr), g.members.trans h.members, g.rebuild.trans h.rebuild⟩

theorem Closing.foldl {α : Type} (f : Sys → α → Sys) (l : List α) (h : ∀ z a, Closing z (f z a)) (y : Sys) : Closing y (l.foldl f y) :=
  List.foldlRecOn l f (motive := fun z => Closing y z) (Settled.refl y).closing fun z hz a _ => hz.trans (h z a)

theorem closing_setClip (y : Sys) (c : Clip) : Closing y (y.setClip c) := ⟨fun _ h => h, rfl, rfl⟩

theorem closing_wr (y : Sys) (k v : Nat) : Closing y (y.wr k v) := (settled_wr y k v).closing

theorem closing_closeClip (y : Sys) (x st reason after : Nat) : Closing y (y.closeClip x st reason after) := by
  unfold Sys.closeClip
  extract_lets r
  split
  · exact closing_wr ..
  · extract_lets c d e f g
    have he : Closing y e := by
      unfold e
      split
      · exact (closing_setClip y d).trans (settled_recWrite ..).closing
      · exact closing_setClip y d
    have hf : Closing e f := ⟨fun _ h => h, rfl, rfl⟩
    have hg : Closing y g := (he.trans hf).trans (.trans (closing_wr ..) (closing_wr ..))
    exact hg.trans (Settled.of_media (Sys.raise_media ..).symm).closing

/-- A reset of a queue that runs or is frozen drops its reads and takes it to RESETTING. -/
theorem Sys.queueReset_resets {q : Nat} (hq : q < 16) (h : y.rd (ent (0x4910 + q) 1) = 1 ∨ y.rd (ent (0x4910 + q) 1) = 2) :
    (y.queueReset q).rd (ent (0x4910 + q) 1) = 3 ∧ ∀ r ∈ (y.queueReset q).media.reads, r.queue ≠ q := by
  have hst : ¬ (y.rd (ent (0x4910 + q) 1) = 0 ∨ y.rd (ent (0x4910 + q) 1) = 3) := by omega
  unfold Sys.queueReset
  extract_lets st m gone lost u a keep n b c
  rw [if_neg hst]
  have hb : ∀ r ∈ b.media.reads, r.queue ≠ q := fun r hr => by simpa using List.of_mem_filter (p := fun r : MqRead => r.queue != q) hr
  have hc : Settled b c := (settled_wr b _ _).trans (settled_settle _)
  have hclose : Closing c ((List.range 16).foldl (fun y x => if (y.recording x).slot.isSome && y.recQueue x == q then y.closeClip x 3 3 0 else y) c) := by
    refine .foldl _ _ (fun z x => ?_) c
    split
    · exact closing_closeClip ..
    · exact (Settled.refl z).closing
  have hrdc : c.rd (ent (0x4910 + q) 1) = 3 := by
    have hs : Writes _ _ c := (writes_settle (b.wr (ent (0x4910 + q) 1) 3) (fun _ h => h)).2 (.refl _)
    rw [hs.rd_eq (by simp [Spot.hits, ent]; omega)]
    exact (Sys.rd_wr ..).trans (if_pos rfl)
  refine ⟨?_, fun r hr => hb r (hc.reads r (hclose.reads r hr))⟩
  refine Eq.trans ?_ hrdc
  refine Writes.rd_eq (ps := [.above 0x4910 4, .above 0x4910 5, .above 0x4910 6, .above 0x4910 7, .above 0x4960 3, .at 0x4948 11, .at 0x4950 3]) ?_
    (by simp [Spot.hits, ent]; omega)
  refine (writes_foldl _ _ fun z x _ => ?_).2 (.refl c)
  split
  · exact (writes_closeClip z x 3 3 0 (fun _ h => h)).2 (.refl z)
  · exact .refl z

theorem Sys.queueReset_idle {q : Nat} (h : y.rd (ent (0x4910 + q) 1) = 0 ∨ y.rd (ent (0x4910 + q) 1) = 3) : y.queueReset q = y := if_pos h

theorem Sys.queueReset_command (y : Sys) (q : Nat) : (y.queueCommand q 2).2.2 = y.queueReset q := rfl

theorem acting_queue (o : Otp) (y : Sys) (w : Writer) (q : Fin 16) (v : Bytes) :
    acting o y w (ent (0x4900 + q.val) 8) v = some (y.queueCommand q.val (unLe v)) := by
  rw [acting_store (by omega) (by decide)]
  unfold Sys.actStore
  dsimp only
  rw [if_neg (by omega), if_neg (by omega), if_neg (by omega), if_pos (by omega), Nat.add_sub_cancel_left]

theorem isRwc_queue (q : Fin 16) : isRwc (ent (0x4900 + q.val) 8) = false := by
  revert q
  decide +kernel

theorem plainKey_queue (q : Fin 16) : plainKey (ent (0x4900 + q.val) 8) :=
  .inr (.inr (.inr (.inr (.inl (by rw [ent_div _ (by decide)]; omega)))))

theorem Sys.queueRestart_spec {q : Nat} (hr : plainR (y.queueRestart q) = r) (hok : r.1 = .ok ∨ r.1 = .overbudget) :
    r.1 = .ok ∧ r.2.2.boot.due = y.boot.due ∧ r.2.2.den.saving = y.den.saving ∧ r.2.1 = [] ∧ y.rd (ent (0x4910 + q) 1) = 2 ∧ (y.mq q).log = [] ∧
    r.2.2.rd (ent (0x4910 + q) 1) = 1 := by
  by_cases h : y.rd (ent (0x4910 + q) 1) ≠ 2 ∨ (y.mq q).log ≠ []
  · rw [Sys.queueRestart_refused h] at hr
    subst hr
    exact absurd hok (by simp [plainR])
  · push Not at h
    rw [Sys.queueRestart_eq h.1 h.2] at hr
    subst hr
    exact ⟨rfl, by simp [plainR], by simp [plainR], rfl, h.1, h.2, by simp [plainR]⟩

theorem queueRestart_restarts (s : State) (w : Writer) (q : Fin 16) (hg : Granted s w (ent (0x4900 + q.val) 8) (le 2 1)) :
    Completes (.queueRestart (some w) q) s fun t =>
      s.sys.rd (ent (0x4910 + q.val) 1) = 2 ∧ (s.sys.mq q.val).log = [] ∧ t.sys.rd (ent (0x4910 + q.val) 1) = 1 ∧ t.otp = s.otp ∧ t.pending = s.pending := by
  obtain ⟨⟨hops, hst, hlog, hrd⟩, t, hexec, hfollow, hotp, hpending⟩ := acting_does (c := .queueRestart (some w) q) rfl hg.1 (isRwc_queue q)
    (plainKey_queue q) (by unfold ent; omega) (acting_queue ..) fun h => Sys.queueRestart_spec rfl h
  exact ⟨t, hexec, hst, hlog, (hfollow.rd_eq (not_followNums (by decide) (by omega))).trans hrd, by rw [hotp, hops]; rfl, hpending⟩

theorem queueReset_resets (s : State) (w : Writer) (q : Fin 16) (hg : Granted s w (ent (0x4900 + q.val) 8) (le 2 2))
    (hst : s.sys.rd (ent (0x4910 + q.val) 1) = 1 ∨ s.sys.rd (ent (0x4910 + q.val) 1) = 2) : Completes (.queueReset (some w) q) s fun t =>
      t.sys.rd (ent (0x4910 + q.val) 1) = 3 ∧ (∀ r ∈ t.sys.media.reads, r.queue ≠ q.val) ∧ t.otp = s.otp ∧ t.pending = s.pending := by
  obtain ⟨hrd, hreads⟩ := Sys.queueReset_resets q.isLt hst
  have htouch := (touches_queueReset s.sys q.val (fun _ h => h)).2 (.refl s.sys)
  obtain ⟨-, t, hexec, hfollow, hotp, hpending⟩ := acting_does (c := .queueReset (some w) q) (p := True) rfl hg.1 (isRwc_queue q)
    (plainKey_queue q) (by unfold ent; omega) (acting_queue ..) fun _ => by
      refine ⟨rfl, ?_, congrArg Denval.saving (htouch.facet .den (by simp) (by simp)).symm, trivial⟩
      obtain ⟨_, _, _, hboot⟩ := htouch.steady (by simp)
      exact (congrArg Boot.due hboot : (s.sys.queueReset q.val).boot.due = _)
  have hmedia : (s.sys.queueReset q.val).media = t.sys.media := hfollow.same.1 .media (by simp)
  exact ⟨t, hexec, (hfollow.rd_eq (not_followNums (by decide) (by omega))).trans hrd, hmedia ▸ hreads, hotp, hpending⟩

/-! ## The end of a reset, and the error log -/

theorem queueResetDone_runs (s : State) (q : Fin 16) (h : s.sys.rd (ent (0x4910 + q.val) 1) = 3) (hroom : Room s) :
    Completes (.queueResetDone q) s fun t =>
    t.sys.rd (ent (0x4910 + q.val) 1) = (if s.sys.rd (ent (0x4900 + q.val) 1) = 0 then 0 else 1) ∧
    t.sys.rd (ent (0x4910 + q.val) 2) = (s.sys.rd (ent (0x4910 + q.val) 2) + 1) % 65536 ∧
    t.sys.rd (ent (0x4910 + q.val) 3) = 0 ∧ t.sys.rd (ent (0x4910 + q.val) 4) = 0 ∧
    Logs s t 0x0F03 q.val (ev [(0, 1, q.val), (2, 2, (s.sys.rd (ent (0x4910 + q.val) 2) + 1) % 65536), (4, 4, (s.sys.mq q.val).lostW),
      (8, 4, (s.sys.mq q.val).lostR)]) ∧ t.otp = s.otp ∧ t.pending = s.pending := by
  obtain ⟨z, hruns, hz⟩ : ∃ z, Runs (.queueResetDone q) s z ∧ z = s.sys.queueResetDone q.val :=
    ⟨_, by rw [Runs, exec_queueResetDone, execQueueResetDone, onSys_eq], rfl⟩
  rw [Sys.queueResetDone, if_neg (not_not_intro h)] at hz
  extract_lets u epoch a b c d e at hz
  have ha : a.log = s.sys.log ∧ a.t96 = s.sys.t96 ∧ ∀ k, a.rd k = s.sys.rd k := by
    have ht : Touches [] (s.sys.setMq q.val (s.sys.loadRings q.val)) a := (touches_mqPending _).2 (.refl _)
    have hw : Writes [] (s.sys.setMq q.val (s.sys.loadRings q.val)) a := (writes_mqPending _).2 (.refl _)
    exact ⟨(ht.facet .log (by simp) (by simp)).symm, (ht.facet .t96 (by simp) (by simp)).symm, fun k => hw.rd_eq (by simp)⟩
  obtain ⟨hlog, ht96, hrd⟩ := ha
  have hc (k : Nat) : c.rd k = if k = ent (0x4910 + q.val) 10 then (b.mq q.val).log.length else if k = ent (0x4910 + q.val) 4 then 0 else
      if k = ent (0x4910 + q.val) 3 then 0 else if k = ent (0x4910 + q.val) 2 then epoch else s.sys.rd k := by
    simp only [c, b, Sys.showLog, Sys.rd_wr, Sys.rd_wrB, hrd]
  have howner : c.rd (ent (0x4900 + q.val) 1) = s.sys.rd (ent (0x4900 + q.val) 1) := by
    rw [hc, if_neg (by unfold ent; omega), if_neg (by unfold ent; omega), if_neg (by unfold ent; omega), if_neg (by unfold ent; omega)]
  have hd (k : Nat) : d.rd k = if k = ent (0x4910 + q.val) 1 then if s.sys.rd (ent (0x4900 + q.val) 1) = 0 then 0 else 1 else c.rd k := by
    rw [← howner]
    exact Sys.rd_wr ..
  have hzd {k : Nat} (hk : k ≠ ent 0x4950 5) : z.rd k = d.rd k := by
    rw [hz, Sys.rd_raise]
    exact (Sys.rd_wr ..).trans (if_neg hk)
  have hzlog : z.log.pending = s.sys.log.pending ++ [⟨s.sys.t96, 0x0F03, severity 0x0F03, q.val, ev [(0, 1, q.val), (2, 2, epoch), (4, 4, u.lostW),
      (8, 4, u.lostR)]⟩] := by
    have hel : e.log = s.sys.log := hlog
    have het : e.t96 = s.sys.t96 := ht96
    rw [hz, Sys.log_raise _ _ _ _ (by rw [hel]; exact hroom), hel, het]
  refine ⟨_, hruns, ?_, ?_, ?_, ?_, hzlog, rfl, rfl⟩
  · rw [hzd (by unfold ent; omega), hd, if_pos rfl]
  · rw [hzd (by unfold ent; omega), hd, if_neg (by unfold ent; omega), hc, if_neg (by unfold ent; omega), if_neg (by unfold ent; omega),
      if_neg (by unfold ent; omega), if_pos rfl]
  · rw [hzd (by unfold ent; omega), hd, if_neg (by unfold ent; omega), hc, if_neg (by unfold ent; omega), if_neg (by unfold ent; omega), if_pos rfl]
  · rw [hzd (by unfold ent; omega), hd, if_neg (by unfold ent; omega), hc, if_neg (by unfold ent; omega), if_pos rfl]

theorem errorLogRead_reads (s : State) (q : Fin 16) : Completes (.errorLogRead q) s fun t =>
    (t.sys.mq q.val).log = (s.sys.mq q.val).log.drop 1 ∧ (∀ j, j ≠ q.val → t.sys.mq j = s.sys.mq j) ∧
    t.sys.rd (ent (0x4910 + q.val) 0x0A) = (s.sys.mq q.val).log.length - 1 ∧
    t.sys.rdB (ent (0x4920 + q.val) 1) = ((s.sys.mq q.val).log.drop 1).headD [] ∧
    Leaves [.media] (only [ent (0x4910 + q.val) 0x0A]) (only [ent (0x4920 + q.val) 1]) s t := by
  have hruns : Runs (.errorLogRead q) s ((s.sys.setMq q.val { s.sys.mq q.val with log := (s.sys.mq q.val).log.drop 1 }).showLog q.val) := by
    rw [Runs, exec_errorLogRead, execErrorLogRead, onSys_eq]
    rfl
  have hmq (j : Nat) : ((s.sys.setMq q.val { s.sys.mq q.val with log := (s.sys.mq q.val).log.drop 1 }).showLog q.val).mq j =
      if j = q.val then { s.sys.mq q.val with log := (s.sys.mq q.val).log.drop 1 } else s.sys.mq j := Sys.mq_setMq ..
  refine ⟨_, hruns, ?_, fun j hj => (hmq j).trans (if_neg hj), ?_, ?_, rfl, rfl, ?_⟩
  · exact congrArg Mq.log ((hmq _).trans (if_pos rfl))
  · simp [Sys.showLog]
  · simp [Sys.showLog]
  · simp [Sys.showLog]

/-- Settles O53. -/
theorem mediaQueuesFetchFreezeAndReset : Obligations.MediaQueuesFetchFreezeAndReset := by
  unfold Obligations.MediaQueuesFetchFreezeAndReset
  refine ⟨mqEntry_waits, mqEntry_counts, mqEntry_rejects, mqWrite_counts, mqBufferSpaceFreed_none, mqBufferSpaceFreed_frees, cqHeadWrite_moves,
    fun s q howner hst hlog hroom => ?_, fun s q h => ?_, fun s q h => ?_, fun s q howner h => ?_, fun s q h => ⟨?_, ?_⟩, queueRestart_restarts,
    queueReset_resets, queueResetDone_runs, fun s q h => ?_, errorLogRead_reads⟩
  · have hruns := queueStep_host s q.val 1 (.queueRestart none q) rfl
    rw [if_pos howner, Sys.queueCommand, if_pos rfl, plainR, Sys.queueRestart_eq hst hlog] at hruns
    refine ⟨_, hruns, by simp, ?_, rfl, rfl, by simp⟩
    simp only [Logs]
    rw [Sys.log_raise _ _ _ _ (by exact hroom)]
    rfl
  · have hruns := queueStep_host s q.val 1 (.queueRestart none q) rfl
    rwa [Sys.queueCommand, if_pos rfl, plainR, Sys.queueRestart_refused h, ite_self] at hruns
  · have hruns := queueStep_host s q.val 2 (.queueReset none q) rfl
    rwa [Sys.queueReset_command, Sys.queueReset_idle h, ite_self] at hruns
  · have hruns := queueStep_host s q.val 2 (.queueReset none q) rfl
    rw [if_pos howner, Sys.queueReset_command] at hruns
    obtain ⟨hrd, hreads⟩ := Sys.queueReset_resets q.isLt h
    exact ⟨_, hruns, hrd, hreads, rfl, rfl⟩
  · have hruns := queueStep_host s q.val 1 (.queueRestart none q) rfl
    rwa [if_neg h] at hruns
  · have hruns := queueStep_host s q.val 2 (.queueReset none q) rfl
    rwa [if_neg h] at hruns
  · rw [Runs, exec_queueResetDone, execQueueResetDone, onSys_eq, Sys.queueResetDone, if_pos h]

end Sys2Proof.Machine
end

section
/-!
PROOFS. Which facets the operations of the model can change, from the callee to the caller: one lemma per operation, which peels it off a state.
-/

namespace Sys2Proof.Machine

variable {fs : List Facet} {x w : Sys}

theorem touches_addLost (y : Sys) (units : List Nat) : Touches fs x (Sys.addLost y units) ↔ Touches fs x y := by
  refine Touches.peel (gs := []) ?_ (by simp)
  unfold Sys.addLost
  simp [↓touches_primitives]

theorem touches_dropColumn (y : Sys) (c : Nat) : Touches fs x (Sys.dropColumn y c) ↔ Touches fs x y := by
  refine Touches.peel (gs := []) ?_ (by simp)
  unfold Sys.dropColumn
  simp [↓touches_addLost]

theorem touches_volumeCheck (y : Sys)  (hs : ∀ p ∈ [Facet.tx, .log, .dram, .mem, .media], p ∈ fs) : Touches fs x (Sys.volumeCheck y) ↔ Touches fs x y := by
  refine Touches.peel (gs := [Facet.tx, .log, .dram, .mem, .media]) ?_ hs
  unfold Sys.volumeCheck
  dsimp only
  repeat' split
  all_goals simp (maxDischargeDepth := 7) [↓touches_primitives, ↓touches_closeClip, ↓touches_dropColumn, ↓touches_foldl]

theorem touches_directWrite (y : Sys) (d : Nat) (op : Nat) (lba : Nat) (count : Nat) (data : Bytes) (hs : ∀ p ∈ [Facet.tx, .media], p ∈ fs) : Touches fs x (Sys.directWrite y d op lba count data) ↔ Touches fs x y := by
  refine Touches.peel (gs := [Facet.tx, .media]) ?_ hs
  unfold Sys.directWrite
  simp [↓touches_primitives, ↓touches_showBuffered, ↓touches_fields]

theorem touches_writeHeaders (y : Sys) (die : Nat) (hs : ∀ p ∈ [Facet.tx, .media], p ∈ fs) : Touches fs x (Sys.writeHeaders y die) ↔ Touches fs x y := by
  refine Touches.peel (gs := [Facet.tx, .media]) ?_ hs
  unfold Sys.writeHeaders
  simp (maxDischargeDepth := 7) [↓touches_primitives, ↓touches_directWrite, ↓touches_foldl]

end Sys2Proof.Machine
end

section
/-!
PROOFS. Which entries the operations of the model can write, from the callee to the caller: one lemma per operation, which peels it off a state.
-/

namespace Sys2Proof.Machine

variable {ps : List Spot} {x w : Sys}

theorem writes_addLost (y : Sys) (units : List Nat) (hs : ∀ p ∈ [Spot.at 0x4950 6, .at 0x4950 7], p ∈ ps) : Writes ps x (Sys.addLost y units) ↔ Writes ps x y := by
  refine Writes.peel (qs := [Spot.at 0x4950 6, .at 0x4950 7]) ?_ hs
  unfold Sys.addLost
  simp [↓writes_primitives, covered_at]

theorem writes_dropColumn (y : Sys) (c : Nat) (hs : ∀ p ∈ [Spot.at 0x4950 6, .at 0x4950 7], p ∈ ps) : Writes ps x (Sys.dropColumn y c) ↔ Writes ps x y := by
  refine Writes.peel (qs := [Spot.at 0x4950 6, .at 0x4950 7]) ?_ hs
  unfold Sys.dropColumn
  simp [↓writes_addLost]

theorem writes_volumeCheck (y : Sys)  (hs : ∀ p ∈ [Spot.above 0x4910 4, .above 0x4910 5, .above 0x4910 6, .above 0x4910 7, .above 0x4960 3, .at 0x4948 11, .at 0x4948 4, .at 0x4950 3, .at 0x4950 6, .at 0x4950 7], p ∈ ps) : Writes ps x (Sys.volumeCheck y) ↔ Writes ps x y := by
  refine Writes.peel (qs := [Spot.above 0x4910 4, .above 0x4910 5, .above 0x4910 6, .above 0x4910 7, .above 0x4960 3, .at 0x4948 11, .at 0x4948 4, .at 0x4950 3, .at 0x4950 6, .at 0x4950 7]) ?_ hs
  unfold Sys.volumeCheck
  dsimp only
  repeat' split
  all_goals simp (maxDischargeDepth := 7) [↓writes_primitives, covered_at, covered_above, ↓writes_closeClip, ↓writes_dropColumn, ↓writes_foldl]

theorem writes_directWrite (y : Sys) (d : Nat) (op : Nat) (lba : Nat) (count : Nat) (data : Bytes) (hs : ∀ p ∈ [Spot.at 0x4950 3], p ∈ ps) : Writes ps x (Sys.directWrite y d op lba count data) ↔ Writes ps x y := by
  refine Writes.peel (qs := [Spot.at 0x4950 3]) ?_ hs
  unfold Sys.directWrite
  simp [↓writes_primitives, ↓writes_showBuffered, ↓writes_fields]

theorem writes_writeHeaders (y : Sys) (die : Nat) (hs : ∀ p ∈ [Spot.at 0x4950 3], p ∈ ps) : Writes ps x (Sys.writeHeaders y die) ↔ Writes ps x y := by
  refine Writes.peel (qs := [Spot.at 0x4950 3]) ?_ hs
  unfold Sys.writeHeaders
  simp (maxDischargeDepth := 7) [↓writes_primitives, ↓writes_directWrite, ↓writes_foldl]

end Sys2Proof.Machine
end

section
/-!
PROOFS. Drives, the volume, clips and the journal (O54).
-/

namespace Sys2Proof.Machine

variable {fs : List Facet} {y z : Sys} {s : State} {o : Otp} {r : Result} {w : Writer}

/-! ## Drives are lost -/

theorem Sys.loseDrive_idle {d : Nat} (h : y.takesWrites d = false) (cause : Nat) : y.loseDrive o d cause = y := if_pos (by simp [h])

/-- A drive that is lost and no member of the volume. -/
theorem Sys.loseDrive_eq {d : Nat} (h : y.takesWrites d = true) (hm : y.vol.members.contains d = false) (cause : Nat) :
    y.loseDrive o d cause = (y.wr (ent (0x4940 + d) 1) 2).raise 0x0F05 d (ev [(0, 1, d), (1, 1, cause)]) := by
  unfold Sys.loseDrive
  rw [if_neg (by simp [h])]
  exact if_pos (by
    rw [Bool.not_eq_true']
    exact (congrArg (fun m : Media => m.volume.members.contains d) (Sys.raise_media ..)).trans hm)

theorem driveLinkDown_loses (s : State) (d : Fin 4) (h : s.sys.takesWrites d.val = true) (hm : s.sys.vol.members.contains d.val = false) (hroom : Room s) :
    Completes (.driveLinkDown d) s fun t =>
      t.sys.rd (ent (0x4940 + d.val) 1) = 2 ∧ Logs s t 0x0F05 d.val (ev [(0, 1, d.val), (1, 1, 0)]) ∧
      Leaves [.log] (only [ent (0x4940 + d.val) 1]) (only []) s t := by
  have hruns : Runs (.driveLinkDown d) s ((s.sys.wr (ent (0x4940 + d.val) 1) 2).raise 0x0F05 d.val (ev [(0, 1, d.val), (1, 1, 0)])) := by
    rw [Runs, exec_driveLinkDown, execDriveLinkDown, onSys_eq, Sys.loseDrive_eq h hm]
  refine ⟨_, hruns, by simp, ?_, rfl, rfl, by simp⟩
  simp only [Logs]
  rw [Sys.log_raise _ _ _ _ (by exact hroom)]
  rfl

theorem driveTimeout_loses (s : State) (d : Fin 4) (h : s.sys.takesWrites d.val = true) (hm : s.sys.vol.members.contains d.val = false) (hroom : Room s) :
    Completes (.driveTimeout d) s fun t =>
      t.sys.rd (ent (0x4940 + d.val) 1) = 2 ∧ Logs s t 0x0F05 d.val (ev [(0, 1, d.val), (1, 1, 2)]) ∧
      t.sys.rd (ent (0x4940 + d.val) 8) = (s.sys.rd (ent (0x4940 + d.val) 8) + 1) % 2 ^ 32 ∧
      Leaves [.log] (only [ent (0x4940 + d.val) 1, ent (0x4940 + d.val) 8]) (only []) s t := by
  have htakes : (s.sys.inc (ent (0x4940 + d.val) 8)).takesWrites d.val = true := by
    rw [← h]
    simp [Sys.takesWrites, Sys.driveState]
  have hruns : Runs (.driveTimeout d) s (((s.sys.inc (ent (0x4940 + d.val) 8)).wr (ent (0x4940 + d.val) 1) 2).raise 0x0F05 d.val
      (ev [(0, 1, d.val), (1, 1, 2)])) := by
    rw [Runs, exec_driveTimeout, execDriveTimeout, onSys_eq, Sys.loseDrive_eq htakes hm]
  refine ⟨_, hruns, by simp, ?_, by simp, rfl, rfl, by simp⟩
  simp only [Logs]
  rw [Sys.log_raise _ _ _ _ (by exact hroom)]
  rfl

/-! ## Commands that drives complete -/

theorem driveCommandDone_write (s : State) (d : Fin 4) (n : BitVec 32) (v : Bytes) (w : BufWrite) :
    let is (p : Piece) : Bool := p.drive == d.val && p.cid == some n.toNat
    (∀ w ∈ s.sys.media.direct, w.drive ≠ d.val ∨ w.cid ≠ n.toNat) → (s.sys.media.writes.find? fun w => w.pieces.any is) = some w →
    Runs (.driveCommandDone d n 0 0 v false) s
      (Sys.settle { s.sys with media := { s.sys.media with
        writes := s.sys.media.writes.map fun w => { w with pieces := w.pieces.filter fun p => !is p } } }) := by
  intro is hdirect hw
  have hnone : ¬ (s.sys.media.direct.any fun w => w.drive == d.val && w.cid == n.toNat) = true := by
    rw [List.any_eq_true]
    rintro ⟨u, hu, hmine⟩
    have := hdirect u hu
    simp only [Bool.and_eq_true, beq_iff_eq] at hmine
    tauto
  rw [Runs, exec_driveCommandDone, execDriveCommandDone, onSys_eq]
  refine congrArg (fun z : Sys => Host.Outcome.next { s with sys := z }) ?_
  extract_lets i ok is' m mine
  rw [if_neg (by decide), if_neg hnone, hw]
  exact if_pos ⟨rfl, rfl⟩

theorem driveCommandDone_nothing (s : State) (d : Fin 4) (n : BitVec 32) (a b : BitVec 8) (v : Bytes) (hw : s.sys.media.writes = [])
    (hr : s.sys.media.reads = []) (hf : s.sys.media.flushes = []) (hd : s.sys.media.direct = []) : Runs (.driveCommandDone d n a b v false) s s.sys := by
  rw [Runs, exec_driveCommandDone, execDriveCommandDone, onSys_eq]
  simp [hw, hr, hf, hd]

theorem driveCommandDone_direct (s : State) (d : Fin 4) (n : BitVec 32) (a b : BitVec 8) (v : Bytes) (w : DirectWrite) (hw : w ∈ s.sys.media.direct)
    (hdrive : w.drive = d.val) (hcid : w.cid = n.toNat) :
    let m := { s.sys.media with direct := s.sys.media.direct.filter fun w => !(w.drive == d.val && w.cid == n.toNat) }
    let y := ({ s.sys with media := m } : Sys).wr (ent 0x4950 3) m.buffered
    Runs (.driveCommandDone d n a b v false) s (if a = 0 ∧ b = 0 then y else Sys.loseDrive s.otp y d.val 3) := by
  intro m y
  have hmine : (s.sys.media.direct.any fun w => w.drive == d.val && w.cid == n.toNat) = true :=
    List.any_eq_true.2 ⟨w, hw, by simp [hdrive, hcid]⟩
  rw [Runs, exec_driveCommandDone, execDriveCommandDone, onSys_eq]
  refine congrArg (fun z : Sys => Host.Outcome.next { s with sys := z }) ?_
  extract_lets i ok is' m' mine
  rw [if_neg (by decide)]
  exact if_pos hmine

/-! ## The volume is attached and detached -/

theorem volumeAttach_busy (s : State) (p : BitVec 4) (c : Instr) (h : s.sys.rd (ent 0x4948 4) ≠ 0)
    (hc : c ∈ ([.volumeCreate p, .volumeAttach p] : List Instr)) : Runs c s s.sys := by
  simp only [List.mem_cons, List.not_mem_nil, or_false] at hc
  rcases hc with rfl | rfl
  · rw [Runs, exec_volumeCreate, execVolumeCreate, onSys_eq, Sys.volumeAttach, if_pos h]
  · rw [Runs, exec_volumeAttach, execVolumeAttach, onSys_eq, Sys.volumeAttach, if_pos h]

theorem volumeAttach_begins (s : State) (p : BitVec 4) (h : s.sys.rd (ent 0x4948 4) = 0) :
    Runs (.volumeAttach p) s (Sys.finishBringUp s.otp (s.sys.beginAttach p false) []) := by
  rw [Runs, exec_volumeAttach, execVolumeAttach, onSys_eq, Sys.volumeAttach, if_neg (not_not_intro h)]
  rfl

theorem volumeCreate_begins (s : State) (p : BitVec 4) (h : s.sys.rd (ent 0x4948 4) = 0)
    (hfit : layoutDrives (s.sys.rd (ent 0x4948 2)) ((List.range 4).filter fun d => (s.sys.rd (ent 0x4948 3)).testBit d).length = true) :
    Runs (.volumeCreate p) s (Sys.finishBringUp s.otp (s.sys.beginAttach p true) []) := by
  have hfits : ¬ (true && !layoutDrives (s.sys.rd (ent 0x4948 2)) ((List.range 4).filter fun d => (s.sys.rd (ent 0x4948 3)).testBit d).length) = true := by
    rw [hfit]
    decide
  rw [Runs, exec_volumeCreate, execVolumeCreate, onSys_eq, Sys.volumeAttach, if_neg (not_not_intro h)]
  exact congrArg (fun q : Status × Sys => Host.Outcome.next { s with sys := q.2 }) (if_neg hfits)

theorem Sys.finishBringUp_waits {l : List DirEntry} (h : y.vol.awaiting ≠ []) : y.finishBringUp o l = y :=
  if_pos (by rw [Bool.not_eq_true', List.isEmpty_eq_false_iff]; exact h)

/-- Drives that bring-up waits for. -/
theorem Sys.beginAttach_spec (y : Sys) (p : BitVec 4) (creating : Bool) (hfault : y.boot.strapFault = false) :
    (y.beginAttach p creating).rd (ent 0x4948 4) = 1 ∧
    (y.beginAttach p creating).vol.awaiting = (List.range 4).filter fun d => p.getLsbD d := by
  unfold Sys.beginAttach
  extract_lets ds v a b
  refine ⟨(Sys.rd_wr ..).trans (if_pos rfl), ?_⟩
  have hb : Settled a b := .foldl _ _ (fun z d => settled_wr ..) a
  have hvol : (b.wr (ent 0x4948 4) 1).vol = { volume0 with awaiting := ds, creating := creating } := hb.vol
  rw [hvol]
  unfold ds
  simp only [hfault, Bool.not_false, Bool.and_true]

theorem volumeAttach_waits (s : State) (p : BitVec 4) (h : s.sys.rd (ent 0x4948 4) = 0) (hfault : s.sys.boot.strapFault = false) (hp : p ≠ 0) :
    Completes (.volumeAttach p) s fun t =>
    t.sys.rd (ent 0x4948 4) = 1 ∧ t.sys.vol.awaiting = (List.range 4).filter (fun d => p.getLsbD d) ∧ t.otp = s.otp ∧ t.pending = s.pending := by
  have hne : ((List.range 4).filter fun d => p.getLsbD d) ≠ [] := by
    revert p
    decide
  obtain ⟨hrd, hawait⟩ := s.sys.beginAttach_spec p false hfault
  have hruns := volumeAttach_begins s p h
  rw [Sys.finishBringUp_waits (by rw [hawait]; exact hne)] at hruns
  exact ⟨_, hruns, hrd, hawait, rfl, rfl⟩

/-- The volume with one more drive of those it awaits. -/
def Volume.joined (v : Volume) (d cap : Nat) (header : Bytes) : Volume :=
  { v with awaiting := v.awaiting.filter (· != d), headers := v.headers ++ [(d, header)], capacities := v.capacities ++ [(d, cap)] }

/-- A drive of the volume that is ready. -/
def Sys.driveReady (y : Sys) (d cap link : Nat) (header model serial : Bytes) : Sys :=
  let y := (y.wr (ent (0x4940 + d) 5) link).setVol (y.vol.joined d cap header)
  ((y.wr (ent (0x4940 + d) 2) cap).wrB (ent (0x4940 + d) 3) model).wrB (ent (0x4940 + d) 4) serial

theorem Sys.driveReady_spec (y : Sys) (d cap link : Nat) (header model serial : Bytes) :
    (y.driveReady d cap link header model serial).vol = y.vol.joined d cap header ∧
    (y.driveReady d cap link header model serial).rd (ent (0x4940 + d) 2) = cap ∧
    (y.driveReady d cap link header model serial).rd (ent (0x4940 + d) 5) = link ∧
    (y.driveReady d cap link header model serial).rdB (ent (0x4940 + d) 3) = model ∧
    (y.driveReady d cap link header model serial).rdB (ent (0x4940 + d) 4) = serial ∧
    SameBut [.media] (only ([2, 5].map (ent (0x4940 + d)))) (only ([3, 4].map (ent (0x4940 + d)))) y (y.driveReady d cap link header model serial) := by
  refine ⟨rfl, ?_, ?_, ?_, ?_, ?_⟩ <;> simp [Sys.driveReady]

theorem attachDriveReady_runs (s : State) (d : Fin 4) (i : DriveInfo) (hst : s.sys.rd (ent 0x4948 4) = 1)
    (hin : s.sys.vol.awaiting.contains d.val = true) (hmore : s.sys.vol.awaiting.filter (· != d.val) ≠ []) :
    Runs (.attachDriveReady d true i) s
      (s.sys.driveReady d.val i.capacity.toNat i.link.toNat (slice i.header 0 4096) i.model i.serial) := by
  have hguard : ¬ (s.sys.rd (ent 0x4948 4) ≠ 1 ∨ (!s.sys.vol.awaiting.contains d.val) = true) := by simp only [hst, hin]; decide
  rw [Runs, exec_attachDriveReady, execAttachDriveReady, onSys_eq]
  refine congrArg (fun z : Sys => Host.Outcome.next { s with sys := z }) ?_
  extract_lets e v
  rw [if_neg hguard, if_neg (by decide)]
  exact Sys.finishBringUp_waits (y := s.sys.driveReady d.val i.capacity.toNat i.link.toNat (slice i.header 0 4096) i.model i.serial) hmore

theorem attachDriveReady_joins (s : State) (d : Fin 4) (i : DriveInfo) (hst : s.sys.rd (ent 0x4948 4) = 1)
    (hin : s.sys.vol.awaiting.contains d.val = true) (hmore : s.sys.vol.awaiting.filter (· != d.val) ≠ []) :
    Completes (.attachDriveReady d true i) s fun t =>
      t.sys.vol = { s.sys.vol with
        awaiting := s.sys.vol.awaiting.filter (· != d.val), headers := s.sys.vol.headers ++ [(d.val, slice i.header 0 4096)],
        capacities := s.sys.vol.capacities ++ [(d.val, i.capacity.toNat)] } ∧
      t.sys.rd (ent (0x4940 + d.val) 2) = i.capacity.toNat ∧ t.sys.rd (ent (0x4940 + d.val) 5) = i.link.toNat ∧
      t.sys.rdB (ent (0x4940 + d.val) 3) = i.model ∧ t.sys.rdB (ent (0x4940 + d.val) 4) = i.serial ∧
      Leaves [.media] (only ([2, 5].map (ent (0x4940 + d.val)))) (only ([3, 4].map (ent (0x4940 + d.val)))) s t := by
  obtain ⟨header, hheader⟩ : ∃ h, slice i.header 0 4096 = h := ⟨_, rfl⟩
  have hruns := attachDriveReady_runs s d i hst hin hmore
  rw [hheader] at hruns
  obtain ⟨hvol, hcap, hlink, hmodel, hserial, hsame⟩ := s.sys.driveReady_spec d.val i.capacity.toNat i.link.toNat header i.model i.serial
  rw [hheader]
  exact ⟨_, hruns, hvol, hcap, hlink, hmodel, hserial, rfl, rfl, hsame⟩

theorem attachDriveReady_unawaited (s : State) (d : Fin 4) (ok : Bool) (i : DriveInfo) (h : s.sys.vol.awaiting.contains d.val = false) :
    Runs (.attachDriveReady d ok i) s s.sys := by
  rw [Runs, exec_attachDriveReady, execAttachDriveReady, onSys_eq]
  refine congrArg (fun z : Sys => Host.Outcome.next { s with sys := z }) ?_
  extract_lets e v
  exact if_pos (.inr (by rw [h]; rfl))

theorem volumeDetach_refused (s : State) (x : Nat) (hx : x < 16) (h : s.sys.rd (ent (0x4960 + x) 1) = 1) : Runs .volumeDetach s s.sys := by
  have hany : ((List.range 16).any fun x => s.sys.rd (ent (0x4960 + x) 1) == 1) = true :=
    List.any_eq_true.2 ⟨x, List.mem_range.2 hx, by simp [h]⟩
  rw [Runs, exec_volumeDetach, execVolumeDetach, onSys_eq, Sys.volumeDetach, if_pos hany]

/-- The drives of a volume that is detached. -/
def Sys.drivesOff (y : Sys) : Sys := (List.range 4).foldl (fun y d => if y.driveState d = 0 then y else y.wr (ent (0x4940 + d) 1) 0) y

theorem Sys.driveState_drivesOff (y : Sys) {d : Nat} (hd : d < 4) : y.drivesOff.driveState d = 0 := by
  have hstep (z : Sys) (e : Nat) : (if z.driveState e = 0 then z else z.wr (ent (0x4940 + e) 1) 0).driveState d =
      if d = e then 0 else z.driveState d := by
    by_cases hde : d = e
    · subst hde
      split
      · rwa [if_pos rfl]
      · rw [if_pos rfl, Sys.driveState, if_pos hd]
        exact (Sys.rd_wr ..).trans (if_pos rfl)
    · rw [if_neg hde]
      split
      · rfl
      · rw [Sys.driveState, Sys.driveState, if_pos hd, if_pos hd]
        exact (Sys.rd_wr ..).trans (if_neg (by unfold ent; omega))
  have hall (l : List Nat) (z : Sys) : (l.foldl (fun y d => if y.driveState d = 0 then y else y.wr (ent (0x4940 + d) 1) 0) z).driveState d =
      if d ∈ l then 0 else z.driveState d := by
    induction l generalizing z with
    | nil => rfl
    | cons e l ih =>
      rw [List.foldl_cons, ih, hstep]
      by_cases hl : d ∈ l <;> simp [hl]
  exact (hall _ y).trans (if_pos (List.mem_range.2 hd))

theorem Sys.volumeDetach_eq (h : ∀ x, x < 16 → y.rd (ent (0x4960 + x) 1) ≠ 1) : y.volumeDetach.2 =
    Sys.commitJournal (((((y.drivesOff.setVol volume0).wr (ent 0x4948 4) 0).wr (ent 0x4948 0x0A) 0).wr (ent 0x4948 0x0B) 0).wr (ent 0x4948 0x0C) 0) := by
  have hnone : ¬ ((List.range 16).any fun x => y.rd (ent (0x4960 + x) 1) == 1) = true := by
    rw [List.any_eq_true]
    rintro ⟨x, hx, heq⟩
    exact h x (List.mem_range.1 hx) (by simpa using heq)
  exact congrArg Prod.snd (if_neg hnone)

theorem Sys.vol_setVol (y : Sys) (v : Volume) : (y.setVol v).vol = v := rfl

theorem sameBut_commitJournal (y : Sys) : SameBut [.mram] (only [ent 0x4950 5]) (only []) y y.commitJournal := by
  have h : SameBut [.mram] (only [ent 0x4950 5]) (only []) y { y with mram := { y.mram with journal := some y.journalNow } } :=
    .of_facets rfl rfl fun p hp => by cases p with | mram => simp at hp | _ => rfl
  exact h.trans (sameBut_wr _ _ _ (by simp))

theorem Sys.rd_commitJournal (y : Sys) {k : Nat} (hk : k ≠ ent 0x4950 5) : y.commitJournal.rd k = y.rd k :=
  (sameBut_commitJournal y).2.1 k (by simpa using hk)

theorem settled_commitJournal (y : Sys) : Settled y y.commitJournal := .of_same rfl rfl

theorem volumeDetach_detaches (s : State) (h : ∀ x, x < 16 → s.sys.rd (ent (0x4960 + x) 1) ≠ 1) : Completes .volumeDetach s fun t =>
    t.sys.vol = volume0 ∧ t.sys.rd (ent 0x4948 4) = 0 ∧ (∀ d, d < 4 → t.sys.driveState d = 0) ∧ t.otp = s.otp ∧ t.pending = s.pending := by
  obtain ⟨z, hruns, hz⟩ : ∃ z, Runs .volumeDetach s z ∧ z = s.sys.volumeDetach.2 := ⟨_, by rw [Runs, exec_volumeDetach, execVolumeDetach, onSys_eq], rfl⟩
  rw [Sys.volumeDetach_eq h] at hz
  have hrd (k : Nat) (hk : k ≠ ent 0x4950 5) (hk' : ∀ e ∈ [10, 11, 12], k ≠ ent 0x4948 e) :
      z.rd k = if k = ent 0x4948 4 then 0 else s.sys.drivesOff.rd k := by
    simp only [List.forall_mem_cons, List.not_mem_nil, false_implies, implies_true, and_true] at hk'
    obtain ⟨h10, h11, h12⟩ := hk'
    have hj : z.rd k = (((((s.sys.drivesOff.setVol volume0).wr (ent 0x4948 4) 0).wr (ent 0x4948 0x0A) 0).wr (ent 0x4948 0x0B) 0).wr
        (ent 0x4948 0x0C) 0).rd k := by
      rw [hz]
      exact Sys.rd_commitJournal _ hk
    rw [hj, Sys.rd_wr, if_neg h12, Sys.rd_wr, if_neg h11, Sys.rd_wr, if_neg h10, Sys.rd_wr, Sys.rd_setVol]
  refine ⟨_, hruns, ?_, ?_, fun d hd => ?_, rfl, rfl⟩
  · have hset : Settled (s.sys.drivesOff.setVol volume0) z := by
      rw [hz]
      refine .trans ?_ (settled_commitJournal _)
      refine .trans ?_ (settled_wr _ _ _)
      refine .trans ?_ (settled_wr _ _ _)
      refine .trans ?_ (settled_wr _ _ _)
      exact settled_wr _ _ _
    exact hset.vol.trans (Sys.vol_setVol ..)
  · exact (hrd _ (by decide) (by decide)).trans (if_pos rfl)
  · have hoff := s.sys.driveState_drivesOff hd
    unfold Sys.driveState at hoff ⊢
    rw [if_pos hd] at hoff ⊢
    rw [hrd _ (by unfold ent; omega) (by simp [ent]; omega), if_neg (by unfold ent; omega), hoff]

/-! ## Rebuilds -/

theorem settled_directWrite (y : Sys) (d op lba count : Nat) (v : Bytes) : Settled y (y.directWrite d op lba count v) := .of_same rfl rfl

theorem settled_writeHeaders (y : Sys) (die : Nat) : Settled y (y.writeHeaders die) := by
  refine .foldl _ _ (fun z m => ?_) y
  split
  · exact settled_directWrite ..
  · exact .refl z

theorem volumeRebuild_refused (s : State) (h : s.sys.rebuildMember (s.sys.rd (ent 0x4948 7)) = none ∨ s.sys.vol.mirrored = false ∨
    s.sys.volumeUp = false ∨ s.sys.vol.rebuild.isSome = true) : Runs .volumeRebuild s s.sys := by
  rw [Runs, exec_volumeRebuild, execVolumeRebuild, onSys_eq]
  refine congrArg (fun z : Sys => Host.Outcome.next { s with sys := z }) ?_
  unfold Sys.volumeRebuild
  extract_lets d
  cases hm : s.sys.rebuildMember d with
  | none => rfl
  | some m =>
    rcases h with h | h | h | h
    · exact absurd (h.symm.trans hm) (by simp)
    all_goals simp [h]

theorem volumeRebuild_begins (s : State) (m : Nat) : let d := s.sys.rd (ent 0x4948 7)
    s.sys.rebuildMember d = some m → s.sys.vol.mirrored = true → s.sys.takesWrites d = false → s.sys.volumeUp = true → s.sys.vol.rebuild = none →
    Completes .volumeRebuild s fun t =>
      t.sys.vol.rebuild = some (m, s.sys.up) ∧ t.sys.vol.members = s.sys.vol.members.set m d ∧ t.sys.rd (ent (0x4940 + d) 1) = 3 ∧
      t.sys.rd (ent 0x4948 9) = 0 ∧ t.otp = s.otp ∧ t.pending = s.pending := by
  intro d hm hmirror htakes hup hnone
  have hguard : ¬ (!s.sys.vol.mirrored || s.sys.takesWrites d || !s.sys.volumeUp || s.sys.vol.rebuild.isSome) = true := by
    simp [hmirror, htakes, hup, hnone]
  obtain ⟨a, ha⟩ : ∃ a, a = ((s.sys.setVol { s.sys.vol with members := s.sys.vol.members.set m d, rebuild := some (m, s.sys.up) }).wr
    (ent (0x4940 + d) 1) 3).wr (ent 0x4948 9) 0 := ⟨_, rfl⟩
  have hruns : Runs .volumeRebuild s (a.writeHeaders s.otp.dieId).commitJournal := by
    rw [ha, Runs, exec_volumeRebuild, execVolumeRebuild, onSys_eq]
    refine congrArg (fun z : Sys => Host.Outcome.next { s with sys := z }) ?_
    unfold Sys.volumeRebuild
    extract_lets e
    rw [hm]
    exact congrArg Prod.snd (if_neg hguard)
  have hvol : (a.writeHeaders s.otp.dieId).vol = a.vol := (settled_writeHeaders ..).vol
  have hrd (i e : Nat) (he : e = 1 ∨ e = 9) : (a.writeHeaders s.otp.dieId).commitJournal.rd (ent i e) = a.rd (ent i e) := by
    have hw : Writes _ a (a.writeHeaders s.otp.dieId) := (writes_writeHeaders a _ (fun _ h => h)).2 (.refl a)
    have hj : Writes _ _ (a.writeHeaders s.otp.dieId).commitJournal := (writes_commitJournal (a.writeHeaders s.otp.dieId) (fun _ h => h)).2 (.refl _)
    rw [hj.rd_eq (by simp [Spot.hits, ent]; omega), hw.rd_eq (by simp [Spot.hits, ent]; omega)]
  have hvola : a.vol = { s.sys.vol with members := s.sys.vol.members.set m d, rebuild := some (m, s.sys.up) } := by
    rw [ha]
    rfl
  refine ⟨_, hruns, ?_, ?_, ?_, ?_, rfl, rfl⟩
  · exact (congrArg Volume.rebuild (hvol.trans hvola) : (a.writeHeaders s.otp.dieId).vol.rebuild = _)
  · exact (congrArg Volume.members (hvol.trans hvola) : (a.writeHeaders s.otp.dieId).vol.members = _)
  · rw [hrd _ _ (.inl rfl), ha]
    exact ((Sys.rd_wr ..).trans (if_neg (by unfold ent; omega))).trans ((Sys.rd_wr ..).trans (if_pos rfl))
  · rw [hrd _ _ (.inr rfl), ha]
    exact (Sys.rd_wr ..).trans (if_pos rfl)

theorem closing_raise (y : Sys) (code src : Nat) (v : Bytes) : Closing y (y.raise code src v) := (Settled.of_media (Sys.raise_media ..).symm).closing

theorem settled_dropColumn (y : Sys) (c : Nat) : Settled y (y.dropColumn c) := .of_same rfl rfl

theorem closing_volumeCheck (y : Sys) : Closing y y.volumeCheck := by
  unfold Sys.volumeCheck
  extract_lets lost st
  split
  · exact (Settled.refl y).closing
  · split
    · split
      · exact (Settled.refl y).closing
      · extract_lets a b
        have ha : Closing y a := (settled_dropColumn ..).closing
        have hb : Closing a b := (closing_wr ..).trans (closing_raise ..)
        refine (ha.trans hb).trans (.foldl _ _ (fun z x => ?_) b)
        split
        · exact closing_closeClip ..
        · split
          · exact closing_wr ..
          · exact (Settled.refl z).closing
    · split
      · exact closing_wr ..
      · split
        · exact (Settled.refl y).closing
        · exact (closing_wr ..).trans (closing_raise ..)

theorem rebuildComplete_ends (s : State) (m u : Nat) (hm : s.sys.vol.rebuild = some (m, u))
    (hst : s.sys.driveState (s.sys.vol.members.getD m 255) = 3) : Completes .rebuildComplete s fun t =>
    t.sys.vol.rebuild = none ∧ t.sys.rd (ent 0x4948 9) = 100 ∧ t.otp = s.otp ∧ t.pending = s.pending := by
  obtain ⟨a, ha⟩ : ∃ a, a = ((s.sys.setVol { s.sys.vol with rebuild := none, gen := s.sys.vol.gen + 1 }).wr
    (ent (0x4940 + s.sys.vol.members.getD m 255) 1) 1).wr (ent 0x4948 9) 100 := ⟨_, rfl⟩
  obtain ⟨b, hb⟩ : ∃ b, b = (a.writeHeaders s.otp.dieId).volumeCheck := ⟨_, rfl⟩
  have hruns : Runs .rebuildComplete s (b.commitJournal.raise 0x0F08 (s.sys.vol.members.getD m 255)
      (ev [(0, 1, s.sys.vol.members.getD m 255), (4, 4, (b.commitJournal.up - u) / 1000000000)])) := by
    rw [hb, ha, Runs, exec_rebuildComplete, execRebuildComplete, onSys_eq, hm]
    exact congrArg (fun z : Sys => Host.Outcome.next { s with sys := z }) (if_neg (not_not_intro hst))
  have hclose : Closing a b := hb ▸ (settled_writeHeaders a _).closing.trans (closing_volumeCheck _)
  have hrda : a.rd (ent 0x4948 9) = 100 := by
    rw [ha]
    exact (Sys.rd_wr ..).trans (if_pos rfl)
  have hrdb : b.rd (ent 0x4948 9) = a.rd (ent 0x4948 9) := by
    have hw : Writes _ a (a.writeHeaders s.otp.dieId) := (writes_writeHeaders a _ (fun _ h => h)).2 (.refl a)
    have hv : Writes _ (a.writeHeaders s.otp.dieId) b := hb ▸ (writes_volumeCheck (a.writeHeaders s.otp.dieId) (fun _ h => h)).2 (.refl _)
    rw [hv.rd_eq (by simp [Spot.hits, ent]), hw.rd_eq (by simp [Spot.hits, ent])]
  refine ⟨_, hruns, ?_, ?_, rfl, rfl⟩
  · refine (closing_raise ..).rebuild.trans (hclose.rebuild.trans ?_)
    rw [ha]
    rfl
  · rw [Sys.rd_raise]
    exact ((Sys.rd_wr ..).trans (if_neg (by decide))).trans (hrdb.trans hrda)

/-! ## Clips, the journal and lost ranges -/

/-- The drives deallocate a clip's extents. -/
def Sys.deallocate (y : Sys) (c : Clip) : Sys :=
  (c.extents.flatMap fun e => y.vol.runs (extentBlock e) 262144).foldl (fun y r =>
    ((y.vol.columnDrives r.1).filter y.takesWrites).foldl (fun y d => y.driveRange d 3 r.2.1 r.2.2.1) y) y

theorem settled_deallocate (y : Sys) (c : Clip) : Settled y (y.deallocate c) :=
  .foldl _ _ (fun z _ => .foldl _ _ (fun _ _ => settled_directWrite ..) z) y

theorem Sys.clipDelete_eq {id : Nat} {c : Clip} (hc : ((y.vol.directory.map (·.2)).find? fun c => c.id == id) = some c) (hst : c.state ≠ 1) :
    y.clipDelete id = (.ok, (((y.deallocate c).setVol { (y.deallocate c).vol with
      directory := (y.deallocate c).vol.directory.filter fun p => p.1 != c.slot }).putWrite 16 (4096 * c.slot) (List.replicate 4096 0) true true).showExtents) := by
  unfold Sys.clipDelete
  rw [hc]
  exact if_neg hst

theorem settled_putWrite (y : Sys) (q a : Nat) (v : Bytes) (index ordered : Bool) : Settled y (y.putWrite q a v index ordered) := by
  unfold Sys.putWrite
  extract_lets w
  have hw : Settled y { y with media := { y.media with order := y.media.order + 1, writes := y.media.writes ++ [w] } } := .of_same rfl rfl
  exact hw.trans (settled_settle _)

theorem clipDelete_deletes (s : State) (id : BitVec 64) (c : Clip) (hc : ((s.sys.vol.directory.map (·.2)).find? fun c => c.id == id.toNat) = some c)
    (hst : c.state ≠ 1) : Completes (.clipDelete id) s fun t =>
      t.sys.vol.directory = s.sys.vol.directory.filter (fun p => p.1 != c.slot) ∧ t.otp = s.otp ∧ t.pending = s.pending := by
  obtain ⟨z, hz⟩ : ∃ z, z = (s.sys.clipDelete id.toNat).2 := ⟨_, rfl⟩
  have hruns : Runs (.clipDelete id) s z := by rw [Runs, exec_clipDelete, execClipDelete, onSys_eq, hz]
  rw [Sys.clipDelete_eq hc hst] at hz
  refine ⟨_, hruns, ?_, rfl, rfl⟩
  have hvol : z.vol = { (s.sys.deallocate c).vol with directory := (s.sys.deallocate c).vol.directory.filter fun p => p.1 != c.slot } := by
    rw [hz]
    exact ((settled_wr ..).vol.trans (settled_putWrite ..).vol).trans (Sys.vol_setVol ..)
  exact (congrArg Volume.directory hvol).trans (congrArg (fun v : Volume => v.directory.filter fun p => p.1 != c.slot) (settled_deallocate ..).vol)

/-- Settles O54. -/
theorem drivesAndVolumesComeAndGo : Obligations.DrivesAndVolumesComeAndGo := by
  unfold Obligations.DrivesAndVolumesComeAndGo
  refine ⟨fun s d h => ?_, driveLinkDown_loses, driveTimeout_loses, fun s d => ?_, fun s d n a b v => ?_, driveCommandDone_write,
    driveCommandDone_nothing, driveCommandDone_direct, volumeAttach_busy, volumeAttach_begins, volumeCreate_begins, volumeAttach_waits,
    attachDriveReady_joins, attachDriveReady_unawaited, volumeDetach_refused, volumeDetach_detaches, volumeRebuild_refused, volumeRebuild_begins,
    fun s h => ?_, rebuildComplete_ends, fun s id h => ?_, clipDelete_deletes, fun s id c hc hst => ?_, fun s => ?_, fun s x h => ?_,
    fun s x n c hn hc => ?_, fun s => ?_, fun s v h => ?_⟩
  · rw [Runs, exec_driveLinkDown, execDriveLinkDown, onSys_eq, Sys.loseDrive_idle h]
  · rw [Runs, exec_driveTimeout, execDriveTimeout, onSys_eq]
  · rw [Runs, exec_driveCommandDone, execDriveCommandDone, onSys_eq]
    rfl
  · rw [Runs, exec_rebuildComplete, execRebuildComplete, onSys_eq, h]
  · have hnone : ((s.sys.vol.directory.map (·.2)).find? fun c => c.id == id.toNat) = none := by
      refine List.find?_eq_none.2 fun c hc => ?_
      obtain ⟨p, hp, rfl⟩ := List.mem_map.1 hc
      simpa using h p hp
    rw [Runs, exec_clipDelete, execClipDelete, onSys_eq, Sys.clipDelete, hnone]
  · rw [Runs, exec_clipDelete, execClipDelete, onSys_eq, Sys.clipDelete, hc]
    exact congrArg (fun q : Status × Sys => Host.Outcome.next { s with sys := q.2 }) (if_pos hst)
  · rw [Completes, exec_journalCommit, execJournalCommit, onSys_eq]
    exact ⟨_, rfl, rfl, (Sys.rd_wr ..).trans (if_pos rfl), rfl, rfl, sameBut_commitJournal _⟩
  · rw [Runs, exec_recordCheckpoint, execRecordCheckpoint, onSys_eq, Sys.checkpoint, h]
    rfl
  · rw [Runs, exec_recordCheckpoint, execRecordCheckpoint, onSys_eq, Sys.checkpoint, hn, Option.bind_some, hc]
  · rw [Completes, exec_lostRangesClear, execLostRangesClear, onSys_eq]
    refine ⟨_, rfl, ?_, ?_, rfl, rfl, ?_⟩ <;> simp [Sys.lostClear]
  · have hv : v.toNat ≠ 1 := fun h1 => h (BitVec.eq_of_toNat_eq h1)
    rw [Runs, exec_lostRangesClear, execLostRangesClear, onSys_eq, Sys.lostClear, if_neg hv]

end Sys2Proof.Machine
end

section
/-!
PROOFS. Which facets the operations of the model can change, from the callee to the caller: one lemma per operation, which peels it off a state.
-/

namespace Sys2Proof.Machine

variable {fs : List Facet} {x w : Sys}

theorem touches_rankTo (y : Sys) (r : Nat) (s : RankState) : Touches fs x (Sys.rankTo y r s) ↔ Touches fs x y := by
  refine Touches.peel (gs := []) ?_ (by simp)
  unfold Sys.rankTo
  simp [↓touches_primitives]

theorem touches_showDram (y : Sys)  : Touches fs x (Sys.showDram y) ↔ Touches fs x y := by
  refine Touches.peel (gs := []) ?_ (by simp)
  unfold Sys.showDram
  dsimp only
  repeat' split
  all_goals simp (maxDischargeDepth := 7) [↓touches_primitives]

theorem touches_migStart (y : Sys) (r : Nat) (cause : Nat) (hs : ∀ p ∈ [Facet.log, .mram], p ∈ fs) : Touches fs x (Sys.migStart y r cause) ↔ Touches fs x y := by
  refine Touches.peel (gs := [Facet.log, .mram]) ?_ hs
  unfold Sys.migStart
  dsimp only
  repeat' split
  all_goals simp [↓touches_primitives, ↓touches_rankTo, ↓touches_showDram, ↓touches_sets]

theorem touches_rankOut (y : Sys) (r : Nat) (cause : RankCause) (hs : ∀ p ∈ [Facet.log, .mram], p ∈ fs) : Touches fs x (Sys.rankOut y r cause) ↔ Touches fs x y := by
  refine Touches.peel (gs := [Facet.log, .mram]) ?_ hs
  unfold Sys.rankOut
  simp [↓touches_primitives, ↓touches_migStart, ↓touches_showDram, ↓touches_fields]

end Sys2Proof.Machine
end

section
/-!
PROOFS. Which entries the operations of the model can write, from the callee to the caller: one lemma per operation, which peels it off a state.
-/

namespace Sys2Proof.Machine

variable {ps : List Spot} {x w : Sys}

theorem writes_rankTo (y : Sys) (r : Nat) (s : RankState) (hs : ∀ p ∈ [Spot.above 0x4B10 1], p ∈ ps) : Writes ps x (Sys.rankTo y r s) ↔ Writes ps x y := by
  refine Writes.peel (qs := [Spot.above 0x4B10 1]) ?_ hs
  unfold Sys.rankTo
  simp [↓writes_primitives, covered_above]

theorem writes_showDram (y : Sys)  (hs : ∀ p ∈ [Spot.at 0x4B00 1, .at 0x4B00 4, .at 0x4B01 1, .at 0x4B01 2, .at 0x4B01 3, .at 0x4B01 4, .at 0x4B01 5, .at 0x4B01 8], p ∈ ps) : Writes ps x (Sys.showDram y) ↔ Writes ps x y := by
  refine Writes.peel (qs := [Spot.at 0x4B00 1, .at 0x4B00 4, .at 0x4B01 1, .at 0x4B01 2, .at 0x4B01 3, .at 0x4B01 4, .at 0x4B01 5, .at 0x4B01 8]) ?_ hs
  unfold Sys.showDram
  dsimp only
  repeat' split
  all_goals simp (maxDischargeDepth := 7) [↓writes_primitives, covered_at]

theorem writes_migStart (y : Sys) (r : Nat) (cause : Nat) (hs : ∀ p ∈ [Spot.above 0x4B10 1, .above 0x4B10 11, .above 0x4B10 2, .at 0x4B00 1, .at 0x4B00 4, .at 0x4B01 1, .at 0x4B01 2, .at 0x4B01 3, .at 0x4B01 4, .at 0x4B01 5, .at 0x4B01 6, .at 0x4B01 7] ++ [Spot.at 0x4B01 8], p ∈ ps) : Writes ps x (Sys.migStart y r cause) ↔ Writes ps x y := by
  refine Writes.peel (qs := [Spot.above 0x4B10 1, .above 0x4B10 11, .above 0x4B10 2, .at 0x4B00 1, .at 0x4B00 4, .at 0x4B01 1, .at 0x4B01 2, .at 0x4B01 3, .at 0x4B01 4, .at 0x4B01 5, .at 0x4B01 6, .at 0x4B01 7] ++ [Spot.at 0x4B01 8]) ?_ hs
  unfold Sys.migStart
  dsimp only
  repeat' split
  all_goals simp [↓writes_primitives, covered_at, covered_above, ↓writes_rankTo, ↓writes_showDram, ↓writes_sets]

theorem writes_rankOut (y : Sys) (r : Nat) (cause : RankCause) (hs : ∀ p ∈ [Spot.above 0x4B10 1, .above 0x4B10 11, .above 0x4B10 2, .at 0x4B00 1, .at 0x4B00 4, .at 0x4B01 1, .at 0x4B01 2, .at 0x4B01 3, .at 0x4B01 4, .at 0x4B01 5, .at 0x4B01 6, .at 0x4B01 7] ++ [Spot.at 0x4B01 8], p ∈ ps) : Writes ps x (Sys.rankOut y r cause) ↔ Writes ps x y := by
  refine Writes.peel (qs := [Spot.above 0x4B10 1, .above 0x4B10 11, .above 0x4B10 2, .at 0x4B00 1, .at 0x4B00 4, .at 0x4B01 1, .at 0x4B01 2, .at 0x4B01 3, .at 0x4B01 4, .at 0x4B01 5, .at 0x4B01 6, .at 0x4B01 7] ++ [Spot.at 0x4B01 8]) ?_ hs
  unfold Sys.rankOut
  simp [↓writes_primitives, covered_above, ↓writes_migStart, ↓writes_showDram, ↓writes_fields]

end Sys2Proof.Machine
end

section
/-!
PROOFS. DRAM ranks (O55).
-/

namespace Sys2Proof.Machine

variable {fs : List Facet} {y z : Sys} {s : State} {o : Otp} {r : Result} {w : Writer}

/-! ## Errors found -/

/-- Leaving service does not change a rank's counts of errors. -/
theorem Sys.rd_rankOut (y : Sys) (r : Nat) (cause : RankCause) {j e : Nat} (hj : j < 18) (he : e = 3 ∨ e = 5 ∨ e = 6) :
    (y.rankOut r cause).rd (rankKey j e) = y.rd (rankKey j e) := by
  have hw : Writes _ y (y.rankOut r cause) := (writes_rankOut y r cause (fun _ h => h)).2 (.refl y)
  refine hw.rd_eq fun p hp => ?_
  simp only [List.cons_append, List.nil_append, List.mem_cons, List.not_mem_nil, or_false] at hp
  rcases hp with rfl | rfl | rfl | rfl | rfl | rfl | rfl | rfl | rfl | rfl | rfl | rfl | rfl <;> simp only [Spot.hits, rankKey, ent] <;> omega

theorem Sys.rd_eccCorrect (y : Sys) {r : Nat} (hr : r < 18) (ch line addr : Nat) :
    (y.eccCorrect r ch line addr).rd (rankKey r 3) = (y.rd (rankKey r 3) + 1) % 2 ^ 64 := by
  unfold Sys.eccCorrect
  extract_lets a e e' l others m b c d
  have hd : d.rd (rankKey r 3) = (y.rd (rankKey r 3) + 1) % 2 ^ 64 := by
    unfold d
    rw [Sys.rd_raiseLimited]
    exact ((Sys.rd_wr ..).trans (if_neg (by simp only [rankKey, ent]; omega))).trans ((Sys.rd_wr ..).trans (if_pos rfl))
  split
  · rw [Sys.rd_rankOut _ _ _ hr (.inl rfl), Sys.rd_raise, hd]
  · exact hd

theorem Sys.rd_showDram (y : Sys) {k : Nat} (hk : k / 256 ≠ 0x4B00 ∧ k / 256 ≠ 0x4B01) : y.showDram.rd k = y.rd k := by
  have hw : Writes _ y y.showDram := (writes_showDram y (fun _ h => h)).2 (.refl y)
  refine hw.rd_eq fun p hp => ?_
  simp only [List.mem_cons, List.not_mem_nil, or_false] at hp
  rcases hp with rfl | rfl | rfl | rfl | rfl | rfl | rfl | rfl <;> simp only [Spot.hits, ent] <;> omega

theorem rankKey_div {r e : Nat} (he : e < 256) : rankKey r e / 256 = 0x4B10 + r := ent_div _ he

theorem rankKey_apart {r j e i : Nat} (he : e < 256) (hi : i < 256) (h : e ≠ i) : rankKey r e ≠ rankKey j i := by
  simp only [rankKey, ent]
  omega

theorem Sys.rd_eccPoison (y : Sys) {r : Nat} (hr : r < 18) (ch q addr : Nat) (cause : RankCause) :
    (y.eccPoison r ch q addr cause).rd (rankKey r (if cause = .address then 6 else 5)) =
      (y.rd (rankKey r (if cause = .address then 6 else 5)) + 1) % 2 ^ 32 := by
  obtain ⟨e, he⟩ : ∃ e, (if cause = .address then 6 else 5) = e := ⟨_, rfl⟩
  have hcase : e = 5 ∨ e = 6 := by
    subst he
    split <;> simp
  unfold Sys.eccPoison
  rw [he]
  extract_lets m a b c d f g
  have ha (k : Nat) : a.rd k = y.rd k := by
    unfold a
    split <;> rfl
  have hd : d.rd (rankKey r e) = (y.rd (rankKey r e) + 1) % 2 ^ 32 := by
    unfold d
    rw [Sys.rd_raiseLimited]
    exact ((Sys.rd_wr ..).trans (if_neg (rankKey_apart (by omega) (by decide) (by omega)))).trans ((Sys.rd_wr ..).trans ((if_pos rfl).trans (by rw [ha])))
  have hf : f.rd (rankKey r e) = d.rd (rankKey r e) :=
    ((Sys.rd_wr _ _ _ _).trans (if_neg (rankKey_apart (by omega) (by decide) (by omega)))).trans
      ((Sys.rd_wr d _ _ _).trans (if_neg (rankKey_apart (by omega) (by decide) (by omega))))
  have hg : g.rd (rankKey r e) = f.rd (rankKey r e) := by
    unfold g
    split
    · exact (Sys.rd_wr f _ _ _).trans (if_neg (rankKey_apart (by omega) (by decide) (by omega)))
    · rfl
  split
  · rw [Sys.rd_showDram _ (by rw [rankKey_div (by omega)]; omega), hg, hf, hd]
  · rw [Sys.rd_rankOut _ _ _ hr (by omega), hd]

theorem patrolScrub_finds (s : State) (r : Fin 18) (ch : Fin 4) (l : BitVec 32) (q : Fin 8) (hst : s.sys.rd (ent (0x4B10 + r.val) 1) ≤ 3)
    (hl : l.toNat < 47185920) :
    (Completes (.patrolScrub r ch l q .corrected) s fun t =>
      t.sys.rd (ent (0x4B10 + r.val) 3) = (s.sys.rd (ent (0x4B10 + r.val) 3) + 1) % 2 ^ 64 ∧ t.otp = s.otp ∧ t.pending = s.pending) ∧
    (Completes (.patrolScrub r ch l q .uncorrectable) s fun t =>
      t.sys.rd (ent (0x4B10 + r.val) 5) = (s.sys.rd (ent (0x4B10 + r.val) 5) + 1) % 2 ^ 32 ∧ t.otp = s.otp ∧ t.pending = s.pending) ∧
    Completes (.patrolScrub r ch l q .addressError) s fun t =>
      t.sys.rd (ent (0x4B10 + r.val) 6) = (s.sys.rd (ent (0x4B10 + r.val) 6) + 1) % 2 ^ 32 ∧ t.otp = s.otp ∧ t.pending = s.pending := by
  have hguard : ¬ (s.sys.rd (rankKey r.val 1) > 3 || decide (47185920 ≤ l.toNat)) = true := by
    simp only [Bool.or_eq_true, decide_eq_true_eq, rankKey, not_or, Nat.not_lt, Nat.not_le]
    exact ⟨hst, hl⟩
  refine ⟨?_, ?_, ?_⟩
  · rw [Completes, exec_patrolScrub, execPatrolScrub, onSys_eq]
    dsimp only
    rw [if_neg hguard]
    exact ⟨_, rfl, Sys.rd_eccCorrect _ r.isLt .., rfl, rfl⟩
  · rw [Completes, exec_patrolScrub, execPatrolScrub, onSys_eq]
    dsimp only
    rw [if_neg hguard]
    exact ⟨_, rfl, Sys.rd_eccPoison _ r.isLt _ _ _ _, rfl, rfl⟩
  · rw [Completes, exec_patrolScrub, execPatrolScrub, onSys_eq]
    dsimp only
    rw [if_neg hguard]
    exact ⟨_, rfl, Sys.rd_eccPoison _ r.isLt _ _ _ _, rfl, rfl⟩

/-! ## Rank commands -/

theorem acting_rank (o : Otp) (y : Sys) (w : Writer) (v : Bytes) : acting o y w (ent 0x4B00 9) v = some (y.rankCommand (unLe v)) := by
  rw [acting_store (by decide) (by decide)]
  rfl

theorem acting_trainingClear (o : Otp) (y : Sys) (w : Writer) : acting o y w (ent 0x4B00 0x0C) (le 1 1) = some (okR y.trainingClear) := by
  rw [acting_store (by decide) (by decide)]
  rfl

theorem isRwc_rank : isRwc (ent 0x4B00 9) = false ∧ isRwc (ent 0x4B00 0x0C) = false := by decide +kernel

theorem plainKey_rank {e : Nat} (he : e < 256) : plainKey (ent 0x4B00 e) :=
  .inr (.inr (.inr (.inr (.inr (.inl (by rw [ent_div _ he]; omega))))))

/-- What a command for a rank does, where it is not refused: its outcome is a state in which the module goes on. -/
theorem rank_does {c : Instr} {n : Nat} (hw : writeOf c = some (w, ent 0x4B00 9, le 2 n)) (hg : Granted s w (ent 0x4B00 9) (le 2 n)) (hn : n < 65536)
    {q : Status × Sys} (hq : s.sys.rankCommand n = plainR q) {p : Prop} (hp : q.1 = .ok ∨ q.1 = .overbudget → q.1 = .ok ∧ q.2.boot.due = s.sys.boot.due ∧
      q.2.den.saving = s.sys.den.saving ∧ p) :
    p ∧ Completes c s fun t => Followed q.2 t.sys ∧ t.otp = s.otp ∧ t.pending = s.pending := by
  have hact := acting_rank s.otp s.sys w (le 2 n)
  rw [unLe_le, Nat.mod_eq_of_lt (show n < 256 ^ 2 from hn), hq] at hact
  exact acting_does hw hg.1 isRwc_rank.1 (plainKey_rank (by decide)) (by decide) hact hp

theorem rank_refused {n : Nat} (hn : n < 65536) {q : Status × Sys} (hq : s.sys.rankCommand n = plainR q) (h : q.1 = .state) :
    ¬ Granted s w (ent 0x4B00 9) (le 2 n) := by
  intro hg
  have hact := acting_rank s.otp s.sys w (le 2 n)
  rw [unLe_le, Nat.mod_eq_of_lt (show n < 256 ^ 2 from hn), hq] at hact
  have hok := acts_of_admitted hg.1 isRwc_rank.1 hact (by rw [plainR, h]; decide)
  rw [plainR, h] at hok
  exact absurd hok (by decide)

theorem Followed.rd_dram (h : Followed y z) {k : Nat} (hk : 0x4B00 ≤ k / 256 ∧ k / 256 < 0x4C00) : z.rd k = y.rd k := by
  refine h.rd_eq ?_
  simp only [followNums, ent, List.mem_cons, List.not_mem_nil, or_false]
  omega

theorem Touches.due (h : Touches fs y z) (hb : .boot ∉ fs) : z.boot.due = y.boot.due := by
  obtain ⟨_, _, _, hboot⟩ := h.steady hb
  rw [hboot]

theorem rankMigrate_starts (s : State) (w : Writer) : let r := s.sys.rd (ent 0x4B00 0x0A)
    Granted s w (ent 0x4B00 9) (le 2 1) → Completes (.rankMigrate w) s fun t =>
      s.sys.rankIs r .active = true ∧ t.sys.mem = (s.sys.rankOut r .command).mem ∧ t.sys.mram.mig = (s.sys.rankOut r .command).mram.mig ∧
      (∀ k, 0x4B00 ≤ k / 256 → k / 256 < 0x4C00 → t.sys.rd k = (s.sys.rankOut r .command).rd k) ∧ t.otp = s.otp ∧ t.pending = s.pending := by
  intro r hg
  have hout : Touches [.log, .mram] s.sys (s.sys.rankOut r .command) := (touches_rankOut s.sys r .command (fun _ h => h)).2 (.refl s.sys)
  obtain ⟨⟨hactive, hq⟩, t, hexec, hfollow, hotp, hpending⟩ := rank_does (c := .rankMigrate w) (n := 1) rfl hg (by decide) (q := s.sys.rankMigrate) rfl
    (p := s.sys.rankIs r .active = true ∧ s.sys.rankMigrate.2 = s.sys.rankOut r .command) fun h => by
      unfold Sys.rankMigrate at h ⊢
      extract_lets at h ⊢
      split at h
      next hgo =>
        rw [if_pos hgo]
        exact ⟨rfl, hout.due (by simp), congrArg Denval.saving (hout.facet .den (by simp) (by simp)).symm, (Bool.and_eq_true_iff.1 hgo).1, rfl⟩
      · simp at h
  rw [hq] at hfollow
  exact ⟨t, hexec, hactive, (hfollow.same.1 .mem (by simp)).symm, congrArg Mram.mig (hfollow.same.1 .mram (by simp)).symm,
    fun k h1 h2 => hfollow.rd_dram ⟨h1, h2⟩, hotp, hpending⟩

theorem rankCommand_refused (s : State) (w : Writer) : let r := s.sys.rd (ent 0x4B00 0x0A)
    (s.sys.rankIs r .active = false → ¬ Granted s w (ent 0x4B00 9) (le 2 1)) ∧
    (s.sys.rankIs r .out = false → s.sys.rankIs r .retired = false → ¬ Granted s w (ent 0x4B00 9) (le 2 2)) ∧
    (s.sys.rankIs r .spare = false → s.sys.rankIs r .out = false → s.sys.rankIs r .retired = false → ¬ Granted s w (ent 0x4B00 9) (le 2 3)) := by
  intro r
  refine ⟨fun h => ?_, fun h h' => ?_, fun h h' h'' => ?_⟩
  · exact rank_refused (n := 1) (by decide) (q := s.sys.rankMigrate) rfl (by simp [Sys.rankMigrate, r, h])
  · exact rank_refused (n := 2) (by decide) (q := s.sys.rankRetest) rfl (by simp [Sys.rankRetest, r, h, h'])
  · exact rank_refused (n := 3) (by decide) (q := s.sys.rankScan) rfl (by simp [Sys.rankScan, r, h, h', h''])

theorem rankRetest_starts (s : State) (w : Writer) : let r := s.sys.rd (ent 0x4B00 0x0A)
    Granted s w (ent 0x4B00 9) (le 2 2) → Completes (.rankRetest w) s fun t =>
      t.sys.mem = (s.sys.retestStart r).mem ∧ (∀ k, 0x4B00 ≤ k / 256 → k / 256 < 0x4C00 → t.sys.rd k = (s.sys.retestStart r).rd k) ∧
      t.otp = s.otp ∧ t.pending = s.pending := by
  intro r hg
  obtain ⟨hq, t, hexec, hfollow, hotp, hpending⟩ := rank_does (c := .rankRetest w) (n := 2) rfl hg (by decide) (q := s.sys.rankRetest) rfl
    (p := s.sys.rankRetest.2 = s.sys.retestStart r) fun h => by
      unfold Sys.rankRetest at h ⊢
      extract_lets at h ⊢
      split at h
      next hgo =>
        rw [if_pos hgo]
        exact ⟨rfl, rfl, rfl, rfl⟩
      · simp at h
  rw [hq] at hfollow
  exact ⟨t, hexec, (hfollow.same.1 .mem (by simp)).symm, fun k h1 h2 => hfollow.rd_dram ⟨h1, h2⟩, hotp, hpending⟩

theorem rankMarginScan_starts (s : State) (w : Writer) : let r := s.sys.rd (ent 0x4B00 0x0A)
    Granted s w (ent 0x4B00 9) (le 2 3) → Completes (.rankMarginScan w) s fun t =>
      t.sys.mem = { s.sys.mem with scan := some r } ∧ t.otp = s.otp ∧ t.pending = s.pending := by
  intro r hg
  obtain ⟨hq, t, hexec, hfollow, hotp, hpending⟩ := rank_does (c := .rankMarginScan w) (n := 3) rfl hg (by decide) (q := s.sys.rankScan) rfl
    (p := s.sys.rankScan.2.mem = { s.sys.mem with scan := some r }) fun h => by
      unfold Sys.rankScan at h ⊢
      extract_lets at h ⊢
      split at h
      next hgo =>
        rw [if_pos hgo]
        exact ⟨rfl, rfl, rfl, rfl⟩
      · simp at h
  exact ⟨t, hexec, ((hfollow.same.1 .mem (by simp) : _ = t.sys.mem).symm).trans hq, hotp, hpending⟩

theorem trainingCacheClear_clears (s : State) (w : Writer) (hg : Granted s w (ent 0x4B00 0x0C) (le 1 1)) : Completes (.trainingCacheClear w) s fun t =>
    t.sys.mram.training = [] ∧ t.sys.rd (ent 0x4B40 3) = 0 ∧ t.otp = s.otp ∧ t.pending = s.pending := by
  obtain ⟨-, t, hexec, hfollow, hotp, hpending⟩ := acting_does (c := .trainingCacheClear w) (p := True) rfl hg.1 isRwc_rank.2 (plainKey_rank (by decide))
    (by decide) (acting_trainingClear ..) fun _ => ⟨rfl, rfl, rfl, trivial⟩
  have hmram : s.sys.trainingClear.mram = t.sys.mram := hfollow.same.1 .mram (by simp)
  exact ⟨t, hexec, by rw [← hmram]; rfl, (hfollow.rd_dram (by decide)).trans ((Sys.rd_wr ..).trans (if_pos rfl)), hotp, hpending⟩

/-! ## Blocks, retests and scans that are done -/

theorem migrationBlockDone_checks (s : State) (m : Migration) (n : BitVec 32) (hm : s.sys.mram.mig = some m) (hrun : s.sys.rd (ent 0x4B01 1) = 1)
    (hleft : m.checked + 1 < 45) : Completes (.migrationBlockDone false n) s fun t =>
      t.sys.mram.mig = some { m with checked := m.checked + 1, recopied := false } ∧ t.sys.rd (ent 0x4B01 5) = m.checked + 1 ∧
      t.sys.rd (ent 0x4B01 7) = (s.sys.rd (ent 0x4B01 7) + n.toNat) % 2 ^ 32 ∧ t.otp = s.otp ∧ t.pending = s.pending := by
  obtain ⟨a, ha⟩ : ∃ a, a = (s.sys.incBy (ent 0x4B01 7) n.toNat).setMig (some { m with checked := m.checked + 1, recopied := false }) := ⟨_, rfl⟩
  have hruns : Runs (.migrationBlockDone false n) s a.showDram := by
    rw [Runs, exec_migrationBlockDone, execMigrationBlockDone, onSys_eq, ha]
    simp only [hm]
    rw [if_neg (not_not_intro hrun), if_neg (by decide)]
    exact congrArg (fun z : Sys => Host.Outcome.next { s with sys := z }) (if_neg (show ¬ 45 ≤ m.checked + 1 by omega))
  have hmig : a.mram.mig = some { m with checked := m.checked + 1, recopied := false } := by rw [ha]; rfl
  refine ⟨_, hruns, ?_, ?_, ?_, rfl, rfl⟩
  · have hmram : a.mram = a.showDram.mram := ((touches_showDram a).2 (.refl a)).facet (fs := []) .mram (by simp) (by simp)
    exact (congrArg Mram.mig hmram).symm.trans hmig
  · simp [Sys.showDram, hmig]
  · have hw : Writes _ a a.showDram := (writes_showDram a (fun _ h => h)).2 (.refl a)
    rw [hw.rd_eq (by simp [Spot.hits, ent]), ha]
    exact (Sys.rd_wr ..).trans (if_pos rfl)

theorem log_showDram (y : Sys) : y.log = y.showDram.log := ((touches_showDram y).2 (.refl y)).facet (fs := []) .log (by simp) (by simp)

theorem t96_showDram (y : Sys) : y.t96 = y.showDram.t96 := ((touches_showDram y).2 (.refl y)).facet (fs := []) .t96 (by simp) (by simp)

theorem Sys.rd_rank_showDram (y : Sys) (r e : Nat) (code src : Nat) (v : Bytes) (he : e < 256) :
    (y.showDram.raise code src v).rd (rankKey r e) = y.rd (rankKey r e) := by
  rw [Sys.rd_raise, Sys.rd_showDram _ (by rw [rankKey_div he]; omega)]

theorem retestDone_passes (s : State) (r : Fin 18) (n : BitVec 32) (hst : s.sys.rankIs r.val .retest = true) (hn : n.toNat < 16) (hroom : Room s) :
    Completes (.retestDone r false n) s fun t =>
      t.sys.rankIs r.val .spare = true ∧ t.sys.rd (ent (0x4B10 + r.val) 8) = 1 ∧ t.sys.rd (ent (0x4B10 + r.val) 9) = s.sys.t96 ∧
      t.sys.rd (ent (0x4B10 + r.val) 0x0B) = 0 ∧ Logs s t 0x100A r.val (ev [(0, 1, r.val), (1, 1, 0), (4, 4, n.toNat)]) ∧
      t.otp = s.otp ∧ t.pending = s.pending := by
  obtain ⟨a, ha⟩ : ∃ a, a = (((((s.sys.wr (rankKey r.val 8) 1).wr (rankKey r.val 9) s.sys.t96).rankTo r.val .spare).wr (rankKey r.val 0x0B) 0).wr
    (rankKey r.val 7) 0) := ⟨_, rfl⟩
  have hruns : Runs (.retestDone r false n) s (a.showDram.raise 0x100A r.val (ev [(0, 1, r.val), (1, 1, 0), (4, 4, n.toNat)])) := by
    have hpass : (!false && decide (n.toNat < 16)) = true := by simpa using hn
    rw [Runs, exec_retestDone, execRetestDone, onSys_eq, ha]
    simp only [hst, hpass, Bool.not_true, Bool.false_eq_true, if_false, if_true]
  have hlog : a.log = s.sys.log := by rw [ha]; rfl
  have ht : a.t96 = s.sys.t96 := by rw [ha]; rfl
  refine ⟨_, hruns, ?_, ?_, ?_, ?_, ?_, rfl, rfl⟩
  · rw [Sys.rankIs, Sys.rd_rank_showDram _ _ _ _ _ _ (by decide), ha]
    simp [Sys.rankTo]
  · rw [← rankKey, Sys.rd_rank_showDram _ _ _ _ _ _ (by decide), ha]
    simp [Sys.rankTo]
  · rw [← rankKey, Sys.rd_rank_showDram _ _ _ _ _ _ (by decide), ha]
    simp [Sys.rankTo]
  · rw [← rankKey, Sys.rd_rank_showDram _ _ _ _ _ _ (by decide), ha]
    simp
  · simp only [Logs]
    rw [Sys.log_raise _ _ _ _ (by rw [← log_showDram, hlog]; exact hroom), ← log_showDram, ← t96_showDram, hlog, ht]

theorem retestDone_retires (s : State) (r : Fin 18) (e : Bool) (n : BitVec 32) (hst : s.sys.rankIs r.val .retest = true)
    (hbad : e = true ∨ 16 ≤ n.toNat) (hroom : Room s) : Completes (.retestDone r e n) s fun t =>
      t.sys.rankIs r.val .retired = true ∧ t.sys.rd (ent (0x4B10 + r.val) 8) = 2 ∧
      Logs s t 0x100A r.val (ev [(0, 1, r.val), (1, 1, 1), (4, 4, n.toNat)]) ∧ t.otp = s.otp ∧ t.pending = s.pending := by
  obtain ⟨a, ha⟩ : ∃ a, a = ((s.sys.wr (rankKey r.val 8) 2).wr (rankKey r.val 9) s.sys.t96).rankTo r.val .retired := ⟨_, rfl⟩
  have hruns : Runs (.retestDone r e n) s (a.showDram.raise 0x100A r.val (ev [(0, 1, r.val), (1, 1, 1), (4, 4, n.toNat)])) := by
    have hfail : (!e && decide (n.toNat < 16)) = false := by
      rcases hbad with rfl | h
      · rfl
      · rw [decide_eq_false (by omega), Bool.and_false]
    rw [Runs, exec_retestDone, execRetestDone, onSys_eq, ha]
    simp only [hst, hfail, Bool.not_true, Bool.false_eq_true, if_false]
  have hlog : a.log = s.sys.log := by rw [ha]; rfl
  have ht : a.t96 = s.sys.t96 := by rw [ha]; rfl
  refine ⟨_, hruns, ?_, ?_, ?_, rfl, rfl⟩
  · rw [Sys.rankIs, Sys.rd_rank_showDram _ _ _ _ _ _ (by decide), ha]
    simp [Sys.rankTo]
  · rw [← rankKey, Sys.rd_rank_showDram _ _ _ _ _ _ (by decide), ha]
    simp [Sys.rankTo]
  · simp only [Logs]
    rw [Sys.log_raise _ _ _ _ (by rw [← log_showDram, hlog]; exact hroom), ← log_showDram, ← t96_showDram, hlog, ht]

theorem sameBut_mem (y : Sys) (m : DramMem) : SameBut [.mem] (only []) (only []) y { y with mem := m } :=
  .of_facets rfl rfl fun p hp => by cases p with | mem => simp at hp | _ => rfl

theorem marginScanDone_tells (s : State) (r : Nat) (l : List (BitVec 16)) (h : s.sys.mem.scan = some r) (hroom : Room s) :
    Completes (.marginScanDone l) s fun t =>
    t.sys.rdB (ent (0x4B10 + r) 0x0A) = slice (l.flatMap fun v => le 2 v.toNat) 0 32 ∧ t.sys.mem = { s.sys.mem with scan := none } ∧
    Logs s t 0x1010 r (ev [(0, 1, r)]) ∧ Leaves [.mem, .log] (only []) (only [ent (0x4B10 + r) 0x0A]) s t := by
  have hruns : Runs (.marginScanDone l) s ((Sys.wrB { s.sys with mem := { s.sys.mem with scan := none } } (rankKey r 0x0A)
      (slice (l.flatMap fun v => le 2 v.toNat) 0 32)).raise 0x1010 r (ev [(0, 1, r)])) := by
    rw [Runs, exec_marginScanDone, execMarginScanDone, onSys_eq]
    simp only [h]
  refine ⟨_, hruns, ?_, ?_, ?_, rfl, rfl, ?_⟩
  · rw [Sys.rdB_raise]
    exact (Sys.rdB_wrB ..).trans (if_pos rfl)
  · exact (Sys.raise_mem ..).trans (Sys.wrB_mem ..)
  · simp only [Logs]
    rw [Sys.log_raise _ _ _ _ (by exact hroom)]
    rfl
  · rw [sameBut_raise_iff _ _ _ (by simp), sameBut_wrB_iff _ _ (by simp)]
    exact (sameBut_mem ..).mono (by simp) (fun _ h => h) (fun _ h => by simp at h)

/-! ## Refresh and training -/

theorem refreshRateChange_excluded (s : State) (p : Fin 9) (hex : s.sys.rdBit (ent 0x2101 9) p.val = true) (hnow : s.sys.rd (ent (0x4B30 + p.val) 2) ≠ 4)
    (hroom : Room s) : Completes (.refreshRateChange p) s fun t =>
      t.sys.rd (ent (0x4B30 + p.val) 2) = 4 ∧
      t.sys.rd (ent (0x4B30 + p.val) 5) = (s.sys.rd (ent (0x4B30 + p.val) 5) + 1) % 2 ^ 32 ∧
      Logs s t 0x100E p.val (ev [(0, 1, p.val), (1, 1, 4), (2, 2, ofI 16 (s.sys.rdI (ent (0x4B30 + p.val) 1) / 10))]) ∧
      Leaves [.log] (only ([2, 5].map (ent (0x4B30 + p.val)))) (only []) s t := by
  have hruns : Runs (.refreshRateChange p) s (((s.sys.wr (ent (0x4B30 + p.val) 2) 4).inc (ent (0x4B30 + p.val) 5)).raise 0x100E p.val
      (ev [(0, 1, p.val), (1, 1, 4), (2, 2, ofI 16 (s.sys.rdI (ent (0x4B30 + p.val) 1) / 10))])) := by
    rw [Runs, exec_refreshRateChange, execRefreshRateChange, onSys_eq]
    simp only [hex, if_true]
    rw [if_neg (Ne.symm hnow)]
  refine ⟨_, hruns, by simp, by simp, ?_, rfl, rfl, by simp⟩
  simp only [Logs]
  rw [Sys.log_raise _ _ _ _ (by exact hroom)]
  rfl

theorem refreshRateChange_rises (s : State) (p : Fin 9) (hex : s.sys.rdBit (ent 0x2101 9) p.val = false)
    (hlow : s.sys.rd (ent (0x4B30 + p.val) 2) < refreshFor (s.sys.rdI (ent (0x4B30 + p.val) 1)) 0) : Completes (.refreshRateChange p) s fun t =>
      t.sys.rd (ent (0x4B30 + p.val) 2) = refreshFor (s.sys.rdI (ent (0x4B30 + p.val) 1)) 0 ∧
      Leaves [.log] (only ([2, 5].map (ent (0x4B30 + p.val)))) (only []) s t := by
  obtain ⟨m, hm⟩ : ∃ m, refreshFor (s.sys.rdI (ent (0x4B30 + p.val) 1)) 0 = m := ⟨_, rfl⟩
  rw [hm] at hlow ⊢
  have hruns : Runs (.refreshRateChange p) s (((s.sys.wr (ent (0x4B30 + p.val) 2) m).inc (ent (0x4B30 + p.val) 5)).raise 0x100E p.val
      (ev [(0, 1, p.val), (1, 1, m), (2, 2, ofI 16 (s.sys.rdI (ent (0x4B30 + p.val) 1) / 10))])) := by
    rw [Runs, exec_refreshRateChange, execRefreshRateChange, onSys_eq]
    simp only [hex, hm, Bool.false_eq_true, if_false, hlow, if_true]
    rw [if_neg (by omega)]
  exact ⟨_, hruns, by simp, rfl, rfl, by simp⟩

/-- A package's timing is corrected, and centred anew where it has moved more than 20 °C. -/
def Sys.centreTiming (p : Nat) (y : Sys) : Sys :=
  let t := y.rdI (ent (0x4B30 + p) 1)
  let c := (y.mem.centred.lookup p).getD t
  let c := if 2000 < (t - c).natAbs then t else c
  { y with mem := { y.mem with centred := (p, c) :: y.mem.centred.filter fun q => q.1 != p } }

/-- The package's timing is centred within 20 °C of its reading. -/
def Sys.centred (y : Sys) (p : Nat) : Prop := ∃ c, y.mem.centred.lookup p = some c ∧ (y.rdI (ent (0x4B30 + p) 1) - c).natAbs ≤ 2000

theorem Sys.centred_centreTiming (y : Sys) (p : Nat) : (y.centreTiming p).centred p := by
  unfold Sys.centreTiming
  extract_lets t c c' m
  refine ⟨c', by simp, ?_⟩
  change (t - c').natAbs ≤ 2000
  unfold c'
  split <;> omega

theorem Sys.centred_centreTiming_other {p q : Nat} (h : y.centred p) (hpq : p ≠ q) : (y.centreTiming q).centred p := by
  obtain ⟨c, hc, hnear⟩ := h
  refine ⟨c, ?_, hnear⟩
  unfold Sys.centreTiming
  extract_lets t d e m
  have hfilter (l : List (Nat × Int)) : (l.filter fun a => a.1 != q).lookup p = l.lookup p := by
    induction l with
    | nil => rfl
    | cons a l ih =>
      by_cases ha : a.1 = q
      · have hp : (p == a.1) = false := by simpa [ha] using hpq
        rw [List.filter_cons_of_neg (by simp [ha]), ih, List.lookup_cons, hp]
      · rw [List.filter_cons_of_pos (by simp [ha]), List.lookup_cons, List.lookup_cons, ih]
  have hne : (p == q) = false := by simpa using hpq
  change ((q, e) :: y.mem.centred.filter fun a => a.1 != q).lookup p = some c
  rw [List.lookup_cons, hne]
  exact (hfilter _).trans hc

theorem Sys.centred_upto (y : Sys) (n : Nat) : (∀ p, p < n → (upto n (fun p y => y.centreTiming p) y).centred p) ∧
    ∃ m, upto n (fun p y => y.centreTiming p) y = { y with mem := m } := by
  induction n with
  | zero => exact ⟨nofun, y.mem, rfl⟩
  | succ n ih =>
    obtain ⟨hc, m, hm⟩ := ih
    have hsucc : upto (n + 1) (fun p y => y.centreTiming p) y = (upto n (fun p y => y.centreTiming p) y).centreTiming n := by
      unfold upto
      rw [List.range_succ, List.foldl_append]
      rfl
    rw [hsucc]
    refine ⟨fun p hp => ?_, ?_⟩
    · rcases Nat.lt_succ_iff_lt_or_eq.1 hp with h | rfl
      · exact Sys.centred_centreTiming_other (hc p h) (Nat.ne_of_lt h)
      · exact Sys.centred_centreTiming ..
    · rw [hm]
      exact ⟨_, rfl⟩

theorem dqsDriftCheck_centres (s : State) : Completes .dqsDriftCheck s fun t =>
    (∀ p, p < 9 → ∃ c, t.sys.mem.centred.lookup p = some c ∧ (s.sys.rdI (ent (0x4B30 + p) 1) - c).natAbs ≤ 2000) ∧
    Leaves [.mem] (only []) (only []) s t := by
  have hruns : Runs .dqsDriftCheck s (upto 9 (fun p y => y.centreTiming p) s.sys) := by
    rw [Runs, exec_dqsDriftCheck, execDqsDriftCheck, onSys_eq]
    rfl
  obtain ⟨hc, m, hm⟩ := s.sys.centred_upto 9
  rw [hm] at hruns hc
  exact ⟨_, hruns, hc, rfl, rfl, sameBut_mem ..⟩

/-- Settles O55. -/
theorem dramRanksAreScrubbedMovedAndTested : Obligations.DramRanksAreScrubbedMovedAndTested := by
  unfold Obligations.DramRanksAreScrubbedMovedAndTested
  refine ⟨fun s r ch l q => ?_, patrolScrub_finds, fun s r ch l q f h => ?_, rankMigrate_starts, rankCommand_refused, migrationBlockDone_checks,
    fun s m n hm hrun hr => ?_, fun s m n hm hrun hr => ?_, fun s b n h => ?_, rankRetest_starts, rankMarginScan_starts, retestDone_passes,
    retestDone_retires, marginScanDone_tells, fun s => ?_, refreshRateChange_excluded, refreshRateChange_rises, dqsDriftCheck_centres,
    trainingCacheClear_clears⟩
  · rw [Runs, exec_patrolScrub, execPatrolScrub, onSys_eq]
    simp only [ite_self]
  · have hguard : (s.sys.rd (rankKey r.val 1) > 3 || decide (47185920 ≤ l.toNat)) = true := by
      rw [Bool.or_eq_true]
      exact .inl (decide_eq_true h)
    rw [Runs, exec_patrolScrub, execPatrolScrub, onSys_eq]
    exact congrArg (fun z : Sys => Host.Outcome.next { s with sys := z }) (if_pos hguard)
  · have hruns : Runs (.migrationBlockDone true n) s (s.sys.setMig (some { m with recopied := true })) := by
      rw [Runs, exec_migrationBlockDone, execMigrationBlockDone, onSys_eq]
      simp only [hm, hrun, hr, ne_eq, not_true_eq_false, if_false, if_true, Bool.false_eq_true]
    exact ⟨_, hruns, rfl, rfl, rfl, .of_facets rfl rfl fun p hp => by cases p with | mram => simp at hp | _ => rfl⟩
  · rw [Runs, exec_migrationBlockDone, execMigrationBlockDone, onSys_eq]
    simp only [hm, hrun, hr, ne_eq, not_true_eq_false, if_false, if_true]
  · rw [Runs, exec_migrationBlockDone, execMigrationBlockDone, onSys_eq]
    simp only [h]
  · rw [Completes, exec_dramInitDone, execDramInitDone, onSys_eq]
    exact ⟨_, rfl, rfl, rfl, rfl, sameBut_mem ..⟩

end Sys2Proof.Machine
end

section
/-!
PROOFS. Position channels (O56).
-/

namespace Sys2Proof.Machine

variable {fs : List Facet} {nums blobs : Nat → Prop} {y z : Sys} {s : State}

/-! ## Interrupts and flags of a channel -/

theorem sameBut_irqPos (y : Sys) (n b : Nat) : SameBut [.boot, .tx] (only []) (only [ent 0x1311 4]) y (y.irqPos n b) := by
  unfold Sys.irqPos
  split
  · exact (sameBut_wrB y (ent 0x1311 4) _ (by simp)).trans (sameBut_classRaised _ .position (by simp) (by simp))
  · exact .refl y

theorem Sys.rd_irqPos (y : Sys) (n b k : Nat) : (y.irqPos n b).rd k = y.rd k := (sameBut_irqPos y n b).2.1 k (by simp)

theorem Sys.positions_irqPos (y : Sys) (n b : Nat) : (y.irqPos n b).positions = y.positions := ((sameBut_irqPos y n b).1 .positions (by simp)).symm

theorem Sys.pos_congr (h : z.positions = y.positions) (n : Nat) : z.pos n = y.pos n := by
  unfold Sys.pos
  rw [h]

theorem Sys.posHas_posFlag (y : Sys) (n : Nat) (f g : PosFlag) (v : Bool) : (y.posFlag n f v).posHas n g = if g = f then v else y.posHas n g := by
  simp only [Sys.posHas, Sys.posFlag, Sys.rdBit_eq, Sys.wrBit_eq, Sys.rd_wr, if_true, testBit_putBit]
  cases f <;> cases g <;> simp [PosFlag.bit]

theorem Sys.posHas_congr {n : Nat} (h : z.rd (pfStat n 3) = y.rd (pfStat n 3)) (f : PosFlag) : z.posHas n f = y.posHas n f := by
  simp only [Sys.posHas, Sys.rdBit_eq, h]

theorem Sys.rd_posFlag (y : Sys) (n : Nat) (f : PosFlag) (v : Bool) {k : Nat} (hk : k ≠ pfStat n 3) : (y.posFlag n f v).rd k = y.rd k :=
  (Sys.rd_wr ..).trans (if_neg hk)

theorem pfStat_ne (n m : Nat) {i j : Nat} (hi : i < 256) (hj : j < 256) (h : i ≠ j) : pfStat n i ≠ pfStat m j := by
  simp only [pfStat, ent]
  omega

theorem pfCfg_ne_pfStat {n m : Nat} (hn : n < 24) (i j : Nat) (hi : i < 256) (hj : j < 256) : pfCfg n i ≠ pfStat m j := by
  simp only [pfCfg, pfStat, ent]
  omega

/-! ## Counts -/

/-- The channel has the levels of its inputs and its last edge, but for the history of its counts. -/
structure SameEdges (u v : PosCh) : Prop where
  a : v.a = u.a
  b : v.b = u.b
  lastEdge : v.lastEdge = u.lastEdge

theorem Sys.posTravel_spec (y : Sys) (n : Nat) : (y.posTravel n).rd (pfStat n 2) = y.rd (pfStat n 2) ∧ SameEdges (y.pos n) ((y.posTravel n).pos n) := by
  unfold Sys.posTravel
  extract_lets u N
  split
  · refine ⟨?_, ?_⟩
    · rw [Sys.rd_raise, Sys.rd_posFlag _ _ _ _ (pfStat_ne _ _ (by decide) (by decide) (by decide)), Sys.rd_setPos]
    · have hpos : (((y.setPos n { u with told := true }).posFlag n .refMissing true).raise 0x1203 n (ev [(0, 1, n), (4, 4, y.rd (pfStat n 2))])).pos n =
          { u with told := true } :=
        (Sys.pos_congr ((Sys.raise_positions ..).trans (Sys.wr_positions ..)) n).trans ((Sys.pos_setPos ..).trans (if_pos rfl))
      rw [hpos]
      exact ⟨rfl, rfl, rfl⟩
  · exact ⟨rfl, rfl, rfl, rfl⟩

theorem Sys.posCount_spec (y : Sys) (n : Nat) {k : Int} (hk : k ≠ 0) :
    (y.posCount n k).rd (pfStat n 2) = ofI 32 ((y.rd (pfStat n 2) : Int) + k) ∧ SameEdges (y.pos n) ((y.posCount n k).pos n) := by
  unfold Sys.posCount
  rw [if_neg hk]
  extract_lets p down a b u c
  have ha : a.positions = y.positions := by
    unfold a
    split
    · rfl
    · exact (Sys.positions_irqPos ..).trans (Sys.wr_positions ..)
  have hb : b.positions = y.positions := ((Sys.wr_positions ..).trans (Sys.wr_positions ..)).trans ha
  have hrd : b.rd (pfStat n 2) = p :=
    (Sys.rd_posFlag _ _ _ _ (pfStat_ne _ _ (by decide) (by decide) (by decide))).trans ((Sys.rd_wr ..).trans (if_pos rfl))
  have hc : SameEdges (y.pos n) (c.pos n) := by
    have hu : u = y.pos n := Sys.pos_congr hb n
    have hpos : c.pos n = { u with
        hist := trimHist (b.up - b.rd (pfCfg n 0x1C) * 1000) ((b.up, p) :: u.hist), travel := u.travel + k.natAbs } := (Sys.pos_setPos ..).trans (if_pos rfl)
    rw [hpos, ← hu]
    exact ⟨rfl, rfl, rfl⟩
  obtain ⟨htravel, hedges⟩ := c.posTravel_spec n
  exact ⟨htravel.trans ((Sys.rd_setPos ..).trans hrd), hedges.a.trans hc.a, hedges.b.trans hc.b, hedges.lastEdge.trans hc.lastEdge⟩

/-- QUADRATURE_COUNT on a running channel, from the state with the levels taken. -/
def Sys.quadMove (y : Sys) (n step : Nat) (counts : Bool) : Sys :=
  match step with
  | 0 => y
  | 2 => y.posPhaseError n
  | 1 => if counts then y.posCount n (y.posSigned n 1) else y
  | _ => if counts then y.posCount n (y.posSigned n (-1)) else y

theorem quadratureCount_runs (n : Fin 24) (a b : Bool) (hheld : s.sys.posHeld = false) (hmode : s.sys.rd (pfCfg n.val 1) = 1) :
    Runs (.quadratureCount n a b) s ((s.sys.setPos n.val { s.sys.pos n.val with a := a, b := b }).quadMove n.val
      ((quadPlace a b + 4 - quadPlace (s.sys.pos n.val).a (s.sys.pos n.val).b) % 4)
      (match (s.sys.setPos n.val { s.sys.pos n.val with a := a, b := b }).rd (pfCfg n.val 3) with
        | 2 => true | 1 => a != (s.sys.pos n.val).a | _ => a && !(s.sys.pos n.val).a)) := by
  have hguard : ¬ (s.sys.posHeld || !s.sys.posMode n.val 1) = true := by simp [hheld, Sys.posMode, hmode]
  rw [Runs, exec_quadratureCount, execQuadratureCount, onSys_eq]
  exact congrArg (fun z : Sys => Host.Outcome.next { s with sys := z }) (if_neg hguard)

theorem quadratureCount_idle (n : Fin 24) (a b : Bool) (h : s.sys.posHeld = true ∨ s.sys.rd (pfCfg n.val 1) ≠ 1) :
    Runs (.quadratureCount n a b) s s.sys := by
  have hguard : (s.sys.posHeld || !s.sys.posMode n.val 1) = true := by
    rcases h with h | h
    · simp [h]
    · simp [Sys.posMode, h]
  rw [Runs, exec_quadratureCount, execQuadratureCount, onSys_eq]
  exact congrArg (fun z : Sys => Host.Outcome.next { s with sys := z }) (if_pos hguard)

theorem quadratureCount_steps (s : State) (n : Fin 24) (a b : Bool) (hheld : s.sys.posHeld = false) (hmode : s.sys.rd (ent (0x2600 + n.val) 1) = 1)
    (hall : s.sys.rd (ent (0x2600 + n.val) 3) = 2) (hstep : (quadPlace a b + 4 - quadPlace (s.sys.pos n.val).a (s.sys.pos n.val).b) % 4 = 1) :
    Completes (.quadratureCount n a b) s fun t =>
      t.sys.rd (ent (0x2620 + n.val) 2) =
        ofI 32 ((s.sys.rd (ent (0x2620 + n.val) 2) : Int) + (if s.sys.rd (ent (0x2600 + n.val) 4) = 1 then -1 else 1)) ∧
      (t.sys.pos n.val).a = a ∧ (t.sys.pos n.val).b = b ∧ t.otp = s.otp ∧ t.pending = s.pending := by
  have hruns := quadratureCount_runs n a b hheld hmode
  rw [hstep, Sys.rd_setPos, pfCfg, hall] at hruns
  obtain ⟨u, hu⟩ : ∃ u, u = s.sys.setPos n.val { s.sys.pos n.val with a := a, b := b } := ⟨_, rfl⟩
  rw [← hu] at hruns
  have hk : u.posSigned n.val 1 = if s.sys.rd (ent (0x2600 + n.val) 4) = 1 then -1 else 1 := by
    rw [hu, Sys.posSigned, Sys.rd_setPos]
  obtain ⟨hrd, hedges⟩ := u.posCount_spec n.val (k := u.posSigned n.val 1) (by rw [hk]; split <;> decide)
  have hpos : u.pos n.val = { s.sys.pos n.val with a := a, b := b } := by rw [hu, Sys.pos_setPos, if_pos rfl]
  rw [hpos] at hedges
  refine ⟨_, hruns, ?_, hedges.a, hedges.b, rfl, rfl⟩
  rw [← pfStat]
  exact hrd.trans (by rw [hk, hu, Sys.rd_setPos])

theorem Sys.posPhaseError_spec (y : Sys) (n : Nat) :
    (y.posPhaseError n).rd (pfStat n 9) = (y.rd (pfStat n 9) + 1) % 2 ^ 32 ∧ (y.posPhaseError n).rd (pfStat n 2) = y.rd (pfStat n 2) ∧
    (y.posPhaseError n).posHas n .phaseError = true := by
  unfold Sys.posPhaseError
  extract_lets m
  have hrd : ∀ k, (m.raiseLimited n 0x1201 n (ev [(0, 1, n), (4, 4, m.rd (pfStat n 2))])).rd k =
      ((y.posFlag n .phaseError true).inc (pfStat n 9)).rd k := fun k => (Sys.rd_raiseLimited ..).trans (Sys.rd_irqPos ..)
  refine ⟨?_, ?_, ?_⟩
  · rw [hrd, Sys.inc_eq, Sys.rd_wr, if_pos rfl, Sys.rd_posFlag _ _ _ _ (pfStat_ne _ _ (by decide) (by decide) (by decide))]
  · rw [hrd, Sys.inc_eq, Sys.rd_wr, if_neg (pfStat_ne _ _ (by decide) (by decide) (by decide)),
      Sys.rd_posFlag _ _ _ _ (pfStat_ne _ _ (by decide) (by decide) (by decide))]
  · have h3 : (m.raiseLimited n 0x1201 n (ev [(0, 1, n), (4, 4, m.rd (pfStat n 2))])).rd (pfStat n 3) = (y.posFlag n .phaseError true).rd (pfStat n 3) := by
      rw [hrd, Sys.inc_eq, Sys.rd_wr, if_neg (pfStat_ne _ _ (by decide) (by decide) (by decide))]
    rw [Sys.posHas_congr h3, Sys.posHas_posFlag, if_pos rfl]

theorem quadratureCount_errs (s : State) (n : Fin 24) (a b : Bool) (hheld : s.sys.posHeld = false) (hmode : s.sys.rd (ent (0x2600 + n.val) 1) = 1)
    (hstep : (quadPlace a b + 4 - quadPlace (s.sys.pos n.val).a (s.sys.pos n.val).b) % 4 = 2) :
    Completes (.quadratureCount n a b) s fun t =>
      t.sys.rd (ent (0x2620 + n.val) 9) = (s.sys.rd (ent (0x2620 + n.val) 9) + 1) % 2 ^ 32 ∧
      t.sys.rd (ent (0x2620 + n.val) 2) = s.sys.rd (ent (0x2620 + n.val) 2) ∧ t.sys.posHas n.val .phaseError = true ∧
      t.otp = s.otp ∧ t.pending = s.pending := by
  have hruns := quadratureCount_runs n a b hheld hmode
  rw [hstep] at hruns
  obtain ⟨herrs, hplace, hflag⟩ := (s.sys.setPos n.val { s.sys.pos n.val with a := a, b := b }).posPhaseError_spec n.val
  simp only [Sys.rd_setPos] at herrs hplace
  exact ⟨_, hruns, herrs, hplace, hflag, rfl, rfl⟩

/-! ## Toothed wheels -/

theorem toothEdge_idle (n : Fin 24) (b : Bool) (h : s.sys.posHeld = true ∨ s.sys.rd (pfCfg n.val 1) ≠ 2) : Runs (.toothEdge n b) s s.sys := by
  have hguard : (s.sys.posHeld || !s.sys.posMode n.val 2) = true := by
    rcases h with h | h
    · simp [h]
    · simp [Sys.posMode, h]
  rw [Runs, exec_toothEdge, execToothEdge, onSys_eq]
  exact congrArg (fun z : Sys => Host.Outcome.next { s with sys := z }) (if_pos hguard)

theorem toothEdge_counts (s : State) (n : Fin 24) (b : Bool) (hheld : s.sys.posHeld = false) (hmode : s.sys.rd (ent (0x2600 + n.val) 1) = 2)
    (hkind : s.sys.rd (ent (0x2600 + n.val) 0x11) = 0) (hdir : s.sys.rd (ent (0x2600 + n.val) 0x14) = 0) (hinv : s.sys.rd (ent (0x2600 + n.val) 4) ≠ 1) :
    Completes (.toothEdge n b) s fun t =>
      t.sys.rd (ent (0x2620 + n.val) 2) = ofI 32 ((s.sys.rd (ent (0x2620 + n.val) 2) : Int) + 1) ∧
      (t.sys.pos n.val).lastEdge = some s.sys.up ∧ t.otp = s.otp ∧ t.pending = s.pending := by
  obtain ⟨u, hu⟩ : ∃ u, u = s.sys.setPos n.val { s.sys.pos n.val with
    a := true, b := b, lastEdge := some s.sys.up, lastGap := (s.sys.pos n.val).lastEdge.map fun t => s.sys.up - t, untested := false } := ⟨_, rfl⟩
  have hk : u.posSigned n.val 1 = 1 := by rw [hu, Sys.posSigned, Sys.rd_setPos, pfCfg, if_neg hinv]
  have hruns : Runs (.toothEdge n b) s (u.posCount n.val 1) := by
    have hguard : ¬ (s.sys.posHeld || !s.sys.posMode n.val 2) = true := by simp [hheld, Sys.posMode, hmode]
    rw [Runs, exec_toothEdge, execToothEdge, onSys_eq]
    refine congrArg (fun z : Sys => Host.Outcome.next { s with sys := z }) ?_
    refine (if_neg hguard).trans ?_
    simp only [pfCfg, hkind, hdir, false_and, if_false, Nat.zero_ne_one, ← hu, hk, show ¬ (0 : Nat) = 2 by decide]
  obtain ⟨hrd, hedges⟩ := u.posCount_spec n.val (k := 1) (by decide)
  refine ⟨_, hruns, ?_, ?_, rfl, rfl⟩
  · rw [← pfStat]
    exact hrd.trans (by rw [hu, Sys.rd_setPos])
  · rw [hedges.lastEdge, hu, Sys.pos_setPos, if_pos rfl]

/-! ## Sine and cosine -/

theorem sincosSample_idle (n : Fin 24) (x z : BitVec 12) (h : s.sys.posHeld = true ∨ s.sys.rd (pfCfg n.val 1) ≠ 3) :
    Runs (.sincosSample n x z) s s.sys := by
  have hguard : (s.sys.posHeld || !s.sys.posMode n.val 3) = true := by
    rcases h with h | h
    · simp [h]
    · simp [Sys.posMode, h]
  rw [Runs, exec_sincosSample, execSincosSample, onSys_eq]
  exact congrArg (fun z : Sys => Host.Outcome.next { s with sys := z }) (if_pos hguard)

theorem sincosSample_runs (n : Fin 24) (x z : BitVec 12) (hheld : s.sys.posHeld = false) (hmode : s.sys.rd (pfCfg n.val 1) = 3)
    {v : Rat × Rat} (hv : s.sys.corrected n.val x.toInt z.toInt = v) {rr : Rat} (hrr : v.1 * v.1 + v.2 * v.2 = rr) {r : Nat}
    (hr : execSincosSample.iroot2 rr.floor.toNat = r) :
    Runs (.sincosSample n x z) s
      (if rr < (s.sys.rd (pfCfg n.val 0x19) : Rat) * (s.sys.rd (pfCfg n.val 0x19) : Rat) ∨
          (s.sys.rd (pfCfg n.val 0x1A) : Rat) * (s.sys.rd (pfCfg n.val 0x1A) : Rat) < rr then
        (s.sys.wr (pfStat n.val 0x0F) r).amplitudeBad n.val r
      else (s.sys.wr (pfStat n.val 0x0F) r).sincosGood n.val (angleOf v.1 v.2 x.toInt z.toInt)) := by
  have hguard : ¬ (s.sys.posHeld || !s.sys.posMode n.val 3) = true := by simp [hheld, Sys.posMode, hmode]
  have hcfg : ∀ i, i < 256 → (s.sys.wr (pfStat n.val 0x0F) r).rd (pfCfg n.val i) = s.sys.rd (pfCfg n.val i) := fun i hi =>
    (Sys.rd_wr ..).trans (if_neg (pfCfg_ne_pfStat n.isLt _ _ hi (by decide)))
  rw [Runs, exec_sincosSample, execSincosSample, onSys_eq]
  refine congrArg (fun z : Sys => Host.Outcome.next { s with sys := z }) ?_
  refine (if_neg hguard).trans ?_
  simp only [hv, hrr, hr, hcfg _ (show 0x19 < 256 by decide), hcfg _ (show 0x1A < 256 by decide)]

theorem sincosSample_dark (s : State) (n : Fin 24) (x z : BitVec 12) (hheld : s.sys.posHeld = false) (hmode : s.sys.rd (ent (0x2600 + n.val) 1) = 3)
    (hsin : (s.sys.corrected n.val x.toInt z.toInt).1 = 0) (hcos : (s.sys.corrected n.val x.toInt z.toInt).2 = 0)
    (hlow : 0 < s.sys.rd (ent (0x2600 + n.val) 0x19)) :
    Runs (.sincosSample n x z) s ((s.sys.wr (ent (0x2620 + n.val) 0x0F) 0).amplitudeBad n.val 0) := by
  have hruns := sincosSample_runs (r := 0) (rr := 0) n x z hheld hmode (hv := rfl) (by rw [hsin, hcos]; norm_num) (by decide +kernel)
  have hbelow : (0 : Rat) < (s.sys.rd (pfCfg n.val 0x19) : Rat) * (s.sys.rd (pfCfg n.val 0x19) : Rat) := by
    have : (0 : Rat) < (s.sys.rd (pfCfg n.val 0x19) : Rat) := by exact_mod_cast hlow
    exact mul_pos this this
  rw [if_pos (.inl hbelow)] at hruns
  exact hruns

theorem sincosSample_inside (s : State) (n : Fin 24) (x z : BitVec 12) (hheld : s.sys.posHeld = false) (hmode : s.sys.rd (ent (0x2600 + n.val) 1) = 3) :
    let v := s.sys.corrected n.val x.toInt z.toInt
    let rr := v.1 * v.1 + v.2 * v.2
    (s.sys.rd (ent (0x2600 + n.val) 0x19) : Rat) * (s.sys.rd (ent (0x2600 + n.val) 0x19) : Rat) ≤ rr →
    rr ≤ (s.sys.rd (ent (0x2600 + n.val) 0x1A) : Rat) * (s.sys.rd (ent (0x2600 + n.val) 0x1A) : Rat) →
    Completes (.sincosSample n x z) s fun t =>
      (∃ r, t.sys = (s.sys.wr (ent (0x2620 + n.val) 0x0F) r).sincosGood n.val (angleOf v.1 v.2 x.toInt z.toInt)) ∧
      t.otp = s.otp ∧ t.pending = s.pending := by
  intro v rr hlow hhigh
  have hruns := sincosSample_runs n x z hheld hmode (v := v) rfl (rr := rr) rfl rfl
  rw [if_neg (not_or.2 ⟨not_lt.2 hlow, not_lt.2 hhigh⟩)] at hruns
  exact ⟨_, hruns, ⟨_, rfl⟩, rfl, rfl⟩

/-! ## Index -/

theorem indexLatch_idle (n : Fin 24) (up : Bool) (h : s.sys.posHeld = true ∨ s.sys.rd (pfCfg n.val 7) ≠ 1 ∨ s.sys.rd (pfCfg n.val 1) = 0) :
    Runs (.indexLatch n up) s s.sys := by
  rw [Runs, exec_indexLatch, execIndexLatch, onSys_eq]
  refine congrArg (fun z : Sys => Host.Outcome.next { s with sys := z }) (if_pos ?_)
  rcases h with h | h | h
  · exact .inl h
  · exact .inr (.inr (.inl h))
  · exact .inr (.inl (by simp [Sys.posMode, h]))

/-- A check for drift keeps the latch and its time, the count of latches and the channel's own state. -/
theorem Sys.driftCheck_keeps (y : Sys) (n latch : Nat) :
    (∀ k, k ≠ pfStat n 8 → k ≠ pfStat n 3 → (y.driftCheck n latch).rd k = y.rd k) ∧ (y.driftCheck n latch).positions = y.positions := by
  unfold Sys.driftCheck
  extract_lets N d drift m
  split
  · exact ⟨fun _ _ _ => rfl, rfl⟩
  have hm : ∀ k, k ≠ pfStat n 8 → m.rd k = y.rd k := fun k hk => (Sys.rd_wr ..).trans (if_neg hk)
  split
  · refine ⟨fun k h8 h3 => ?_, ?_⟩
    · rw [Sys.rd_irqPos, Sys.rd_raise, Sys.rd_posFlag _ _ _ _ h3, hm k h8]
    · exact (Sys.positions_irqPos ..).trans ((Sys.raise_positions ..).trans (Sys.wr_positions ..))
  · exact ⟨fun k h8 _ => hm k h8, rfl⟩

theorem Sys.posIndex_spec (y : Sys) (n : Nat) :
    (y.posIndex n).rd (pfStat n 5) = y.rd (pfStat n 2) ∧ (y.posIndex n).rd (pfStat n 6) = y.t96 ∧
    (y.posIndex n).rd (pfStat n 0x0B) = (y.rd (pfStat n 0x0B) + 1) % 2 ^ 32 ∧ ((y.posIndex n).pos n).armed = false ∧
    ((y.pos n).armed = true → (y.posIndex n).rd (pfStat n 7) = y.rd (pfStat n 2) ∧ (y.posIndex n).posHas n .refValid = true) := by
  unfold Sys.posIndex
  extract_lets p a u b
  have hu : u = y.pos n := Sys.pos_congr (Sys.positions_irqPos ..) n
  have hb : ∀ k, b.rd k = (((y.wr (pfStat n 5) p).wr (pfStat n 6) y.t96).inc (pfStat n 0x0B)).rd k := fun k => (Sys.rd_setPos ..).trans (Sys.rd_irqPos ..)
  have hpos : b.pos n = { u with armed := false, travel := 0, told := false } := (Sys.pos_setPos ..).trans (if_pos rfl)
  have hne : ∀ {i j : Nat}, i < 256 → j < 256 → i ≠ j → pfStat n i ≠ pfStat n j := fun hi hj h => pfStat_ne n n hi hj h
  have h5 : b.rd (pfStat n 5) = p := by
    rw [hb, Sys.inc_eq, Sys.rd_wr, if_neg (hne (by decide) (by decide) (by decide)), Sys.rd_wr, if_neg (hne (by decide) (by decide) (by decide)),
      Sys.rd_wr, if_pos rfl]
  have h6 : b.rd (pfStat n 6) = y.t96 := by
    rw [hb, Sys.inc_eq, Sys.rd_wr, if_neg (hne (by decide) (by decide) (by decide)), Sys.rd_wr, if_pos rfl]
  have hB : b.rd (pfStat n 0x0B) = (y.rd (pfStat n 0x0B) + 1) % 2 ^ 32 := by
    rw [hb, Sys.inc_eq, Sys.rd_wr, if_pos rfl, Sys.rd_wr, if_neg (hne (by decide) (by decide) (by decide)), Sys.rd_wr,
      if_neg (hne (by decide) (by decide) (by decide))]
  have hunarmed : (b.pos n).armed = false := by rw [hpos]
  split
  next harmed =>
    have hrd : ∀ k, k ≠ pfStat n 3 → k ≠ pfStat n 7 →
        (((b.wr (pfStat n 7) p).posFlag n .refValid true).raise 0x1206 n (ev [(0, 1, n), (4, 4, p)])).rd k = b.rd k := fun k h3 h7 => by
      rw [Sys.rd_raise, Sys.rd_posFlag _ _ _ _ h3, Sys.rd_wr, if_neg h7]
    refine ⟨(hrd _ (hne (by decide) (by decide) (by decide)) (hne (by decide) (by decide) (by decide))).trans h5,
      (hrd _ (hne (by decide) (by decide) (by decide)) (hne (by decide) (by decide) (by decide))).trans h6,
      (hrd _ (hne (by decide) (by decide) (by decide)) (hne (by decide) (by decide) (by decide))).trans hB, ?_, fun _ => ⟨?_, ?_⟩⟩
    · have hpositions : (((b.wr (pfStat n 7) p).posFlag n .refValid true).raise 0x1206 n (ev [(0, 1, n), (4, 4, p)])).positions = b.positions :=
        (Sys.raise_positions ..).trans ((Sys.wr_positions ..).trans (Sys.wr_positions ..))
      rw [Sys.pos_congr hpositions, hunarmed]
    · rw [Sys.rd_raise, Sys.rd_posFlag _ _ _ _ (hne (by decide) (by decide) (by decide)), Sys.rd_wr, if_pos rfl]
    · rw [Sys.posHas_congr (Sys.rd_raise ..), Sys.posHas_posFlag, if_pos rfl]
  next harmed =>
    obtain ⟨hrd, hposs⟩ := b.driftCheck_keeps n p
    refine ⟨(hrd _ (hne (by decide) (by decide) (by decide)) (hne (by decide) (by decide) (by decide))).trans h5,
      (hrd _ (hne (by decide) (by decide) (by decide)) (hne (by decide) (by decide) (by decide))).trans h6,
      (hrd _ (hne (by decide) (by decide) (by decide)) (hne (by decide) (by decide) (by decide))).trans hB, ?_, fun h => ?_⟩
    · rw [Sys.pos_congr hposs, hunarmed]
    · exact absurd (hu ▸ h) harmed

theorem indexLatch_latches (s : State) (n : Fin 24) (hheld : s.sys.posHeld = false) (hmode : s.sys.rd (ent (0x2600 + n.val) 1) = 1)
    (hindex : s.sys.rd (ent (0x2600 + n.val) 7) = 1) (hedge : s.sys.rd (ent (0x2600 + n.val) 8) = 0) (hgate : s.sys.rd (ent (0x2600 + n.val) 0x0A) = 0) :
    Completes (.indexLatch n true) s fun t =>
      t.sys.rd (ent (0x2620 + n.val) 5) = s.sys.rd (ent (0x2620 + n.val) 2) ∧ t.sys.rd (ent (0x2620 + n.val) 6) = s.sys.t96 ∧
      t.sys.rd (ent (0x2620 + n.val) 0x0B) = (s.sys.rd (ent (0x2620 + n.val) 0x0B) + 1) % 2 ^ 32 ∧ (t.sys.pos n.val).armed = false ∧
      ((s.sys.pos n.val).armed = true → t.sys.rd (ent (0x2620 + n.val) 7) = s.sys.rd (ent (0x2620 + n.val) 2) ∧
        t.sys.posHas n.val .refValid = true) ∧ t.otp = s.otp ∧ t.pending = s.pending := by
  have hruns : Runs (.indexLatch n true) s (s.sys.posIndex n.val) := by
    rw [Runs, exec_indexLatch, execIndexLatch, onSys_eq]
    refine congrArg (fun z : Sys => Host.Outcome.next { s with sys := z }) (if_neg ?_)
    simp [hheld, Sys.posMode, hmode, hindex, hedge, hgate]
  obtain ⟨h5, h6, hB, harmed, href⟩ := s.sys.posIndex_spec n.val
  exact ⟨_, hruns, h5, h6, hB, harmed, href, rfl, rfl⟩

/-! ## Commands of the host -/

theorem referenceArm_arms (s : State) (n : Fin 24) : Completes (.referenceArm n) s fun t =>
    t.sys.pos n.val = { s.sys.pos n.val with armed := true } ∧ (∀ j, j ≠ n.val → t.sys.pos j = s.sys.pos j) ∧
    Leaves [.positions] (only []) (only []) s t := by
  rw [Completes, exec_referenceArm, execReferenceArm, onSys_eq]
  exact ⟨_, rfl, (Sys.pos_setPos ..).trans (if_pos rfl), fun j h => (Sys.pos_setPos ..).trans (if_neg h), rfl, rfl, sameBut_setPos _ _ (by simp)⟩

theorem Sys.rd_posCorrect (y : Sys) (n v k : Nat) :
    (y.posCorrect n v).rd k = if k = pfStat n 2 then (y.rd (pfStat n 2) + v) % 2 ^ 32 else y.rd k :=
  (Sys.rd_setPos ..).trans (Sys.rd_wr ..)

theorem sameBut_posCorrect (y : Sys) (n v : Nat) : SameBut [.positions] (only [pfStat n 2]) (only []) y (y.posCorrect n v) :=
  (sameBut_wr y (pfStat n 2) _ (by simp)).trans (sameBut_setPos n _ (by simp))

theorem positionCorrect_moves (s : State) (n : Fin 24) (v : BitVec 32) : Completes (.positionCorrect n v) s fun t =>
    t.sys.rd (ent (0x2620 + n.val) 2) = (s.sys.rd (ent (0x2620 + n.val) 2) + v.toNat) % 2 ^ 32 ∧
    Leaves [.positions] (only [ent (0x2620 + n.val) 2]) (only []) s t := by
  rw [Completes, exec_positionCorrect, execPositionCorrect, onSys_eq]
  exact ⟨_, rfl, (Sys.rd_posCorrect ..).trans (if_pos rfl), rfl, rfl, sameBut_posCorrect ..⟩

theorem positionShift_moves (s : State) (n : Fin 24) (v : BitVec 32) : Completes (.positionShift n v) s fun t =>
    t.sys.rd (ent (0x2620 + n.val) 2) = (s.sys.rd (ent (0x2620 + n.val) 2) + v.toNat) % 2 ^ 32 ∧
    t.sys.rd (ent (0x2620 + n.val) 7) = (s.sys.rd (ent (0x2620 + n.val) 7) + v.toNat) % 2 ^ 32 ∧
    Leaves [.positions] (only [ent (0x2620 + n.val) 2, ent (0x2620 + n.val) 7]) (only []) s t := by
  have hne : pfStat n.val 2 ≠ pfStat n.val 7 := pfStat_ne _ _ (by decide) (by decide) (by decide)
  rw [Completes, exec_positionShift, execPositionShift, onSys_eq]
  refine ⟨_, rfl, ?_, ?_, rfl, rfl, ?_⟩
  · exact (Sys.rd_wr ..).trans ((if_neg hne).trans ((Sys.rd_posCorrect ..).trans (if_pos rfl)))
  · exact (Sys.rd_wr ..).trans (if_pos rfl)
  · exact ((sameBut_posCorrect s.sys n.val v.toNat).mono (by simp) (fun _ h => by simp at h ⊢; exact .inl h) (fun _ h => h)).trans
      (sameBut_wr _ _ _ (by simp))

theorem positionClearFlags_clears (s : State) (n : Fin 24) : Completes (.positionClearFlags n) s fun t =>
    t.sys.posHas n.val .phaseError = false ∧ t.sys.posHas n.val .drift = false ∧ t.sys.posHas n.val .amplitude = false ∧
    t.sys.posHas n.val .refMissing = false ∧ t.sys.posHas n.val .refValid = s.sys.posHas n.val .refValid ∧
    Leaves [] (only [ent (0x2620 + n.val) 3]) (only []) s t := by
  have hflag : ∀ (y : Sys) (f : PosFlag), SameBut [] (only [pfStat n.val 3]) (only []) y (y.posFlag n.val f false) := fun y f =>
    sameBut_wr y _ _ (by simp)
  rw [Completes, exec_positionClearFlags, execPositionClearFlags, onSys_eq]
  refine ⟨_, rfl, ?_, ?_, ?_, ?_, ?_, rfl, rfl, (((hflag _ _).trans (hflag _ _)).trans (hflag _ _)).trans (hflag _ _)⟩ <;>
    simp [Sys.posClear, Sys.posHas_posFlag]

/-! ## Probes -/

theorem probeLatch_idle (n : Fin 24) (up : Bool) (h : s.sys.posHeld = true) : Runs (.probeLatch n up) s s.sys := by
  rw [Runs, exec_probeLatch, execProbeLatch, onSys_eq]
  exact congrArg (fun z : Sys => Host.Outcome.next { s with sys := z }) (if_pos (Or.inl h))

/-- A running channel whose probe source is a TIO ball takes both edges. -/
theorem probeLatch_runs (n : Fin 24) (up : Bool) (hheld : s.sys.posHeld = false) (hmode : s.sys.rd (pfCfg n.val 1) ≠ 0)
    (hsrc : s.sys.rd (pfCfg n.val 0x0E) = 2) (hedge : s.sys.rd (pfCfg n.val 0x10) = 2) :
    Runs (.probeLatch n up) s (if 16 ≤ (s.sys.pos n.val).probes.length then (s.sys.inc (pfStat n.val 0x0D)).raiseLimited n.val 0x1205 n.val (ev [(0, 1, n.val)])
      else Sys.irqPos ((s.sys.setPos n.val { s.sys.pos n.val with probes := (s.sys.pos n.val).probes ++
        [le 12 s.sys.t96 ++ le 4 (s.sys.rd (pfStat n.val 2)) ++ le 4 (if up then 0 else 1)] }).showProbe n.val) n.val 1) := by
  rw [Runs, exec_probeLatch, execProbeLatch, onSys_eq]
  refine congrArg (fun z : Sys => Host.Outcome.next { s with sys := z }) (if_neg ?_)
  simp [hheld, Sys.posMode, hmode, hsrc, hedge]

theorem probeLatch_queues (s : State) (n : Fin 24) (up : Bool) (hheld : s.sys.posHeld = false) (hmode : s.sys.rd (ent (0x2600 + n.val) 1) ≠ 0)
    (hsrc : s.sys.rd (ent (0x2600 + n.val) 0x0E) = 2) (hedge : s.sys.rd (ent (0x2600 + n.val) 0x10) = 2) (hroom : (s.sys.pos n.val).probes.length < 16) :
    Completes (.probeLatch n up) s fun t =>
      (t.sys.pos n.val).probes = (s.sys.pos n.val).probes ++
        [le 12 s.sys.t96 ++ le 4 (s.sys.rd (ent (0x2620 + n.val) 2)) ++ le 4 (if up then 0 else 1)] ∧ t.otp = s.otp ∧ t.pending = s.pending := by
  have hruns := probeLatch_runs n up hheld hmode hsrc hedge
  rw [if_neg (by omega)] at hruns
  refine ⟨_, hruns, ?_, rfl, rfl⟩
  rw [Sys.pos_congr (Sys.positions_irqPos ..)]
  exact congrArg PosCh.probes ((Sys.pos_setPos ..).trans (if_pos rfl))

theorem probeLatch_overruns (s : State) (n : Fin 24) (up : Bool) (hheld : s.sys.posHeld = false) (hmode : s.sys.rd (ent (0x2600 + n.val) 1) ≠ 0)
    (hsrc : s.sys.rd (ent (0x2600 + n.val) 0x0E) = 2) (hedge : s.sys.rd (ent (0x2600 + n.val) 0x10) = 2) (hfull : 16 ≤ (s.sys.pos n.val).probes.length) :
    Completes (.probeLatch n up) s fun t =>
      t.sys.rd (ent (0x2620 + n.val) 0x0D) = (s.sys.rd (ent (0x2620 + n.val) 0x0D) + 1) % 2 ^ 32 ∧ t.sys.positions = s.sys.positions ∧
      t.otp = s.otp ∧ t.pending = s.pending := by
  have hruns := probeLatch_runs n up hheld hmode hsrc hedge
  rw [if_pos hfull] at hruns
  refine ⟨_, hruns, ?_, ?_, rfl, rfl⟩
  · exact (Sys.rd_raiseLimited ..).trans ((congrArg (fun z : Sys => z.rd (pfStat n.val 0x0D)) (Sys.inc_eq ..)).trans ((Sys.rd_wr ..).trans (if_pos rfl)))
  · exact (Sys.raiseLimited_positions ..).trans (Sys.wr_positions ..)

theorem probeFifoRead_takes (s : State) (n : Fin 24) : Completes (.probeFifoRead n) s fun t =>
    (t.sys.pos n.val).probes = (s.sys.pos n.val).probes.drop 1 ∧
    t.sys.rdB (ent (0x2620 + n.val) 0x0C) = ((s.sys.pos n.val).probes.drop 1).headD [] ∧
    Leaves [.positions] (only []) (only [ent (0x2620 + n.val) 0x0C]) s t := by
  have hpos : (s.sys.setPos n.val { s.sys.pos n.val with probes := (s.sys.pos n.val).probes.drop 1 }).pos n.val =
      { s.sys.pos n.val with probes := (s.sys.pos n.val).probes.drop 1 } := (Sys.pos_setPos ..).trans (if_pos rfl)
  rw [Completes, exec_probeFifoRead, execProbeFifoRead, onSys_eq]
  refine ⟨_, rfl, congrArg PosCh.probes hpos, ?_, rfl, rfl, ?_⟩
  · exact (Sys.rdB_wrB ..).trans ((if_pos rfl).trans (by rw [hpos]))
  · exact (sameBut_setPos _ _ (by simp)).trans (sameBut_wrB _ _ _ (by simp))

/-! ## Speed -/

theorem speedUpdate_rests (s : State) (n : Fin 24) (hmode : s.sys.rd (ent (0x2600 + n.val) 1) ≠ 0)
    (h : (s.sys.pos n.val).hist = [] ∨ s.sys.posHas n.val .stopped = true) :
    Runs (.speedUpdate n) s (s.sys.wr (ent (0x2620 + n.val) 4) 0) := by
  have hguard : ¬ s.sys.posMode n.val 0 = true := by simp [Sys.posMode, hmode]
  rw [Runs, exec_speedUpdate, execSpeedUpdate, onSys_eq]
  refine congrArg (fun z : Sys => Host.Outcome.next { s with sys := z }) ((if_neg hguard).trans ?_)
  cases hhist : (s.sys.pos n.val).hist with
  | nil => rfl
  | cons te r => exact if_pos (h.resolve_left (by simp [hhist]))

theorem speedUpdate_single (s : State) (n : Fin 24) (l : Nat × Nat) (hmode : s.sys.rd (ent (0x2600 + n.val) 1) ≠ 0)
    (hhist : (s.sys.pos n.val).hist = [l]) (hmoving : s.sys.posHas n.val .stopped = false) :
    Runs (.speedUpdate n) s (s.sys.wr (ent (0x2620 + n.val) 4) (speedOf l l)) := by
  have hguard : ¬ s.sys.posMode n.val 0 = true := by simp [Sys.posMode, hmode]
  rw [Runs, exec_speedUpdate, execSpeedUpdate, onSys_eq]
  refine congrArg (fun z : Sys => Host.Outcome.next { s with sys := z }) ((if_neg hguard).trans ?_)
  simp only [hhist]
  exact if_neg (by simp [hmoving])

theorem stopTimeout_stops (s : State) (n : Fin 24) (hmode : s.sys.rd (ent (0x2600 + n.val) 1) ≠ 0) (hmoving : s.sys.posHas n.val .stopped = false) :
    Completes (.stopTimeout n) s fun t =>
    t.sys.rd (ent (0x2620 + n.val) 4) = 0 ∧ t.sys.posHas n.val .stopped = true ∧ t.otp = s.otp ∧ t.pending = s.pending := by
  have hruns : Runs (.stopTimeout n) s (Sys.irqPos ((s.sys.wr (pfStat n.val 4) 0).posFlag n.val .stopped true) n.val 5) := by
    rw [Runs, exec_stopTimeout, execStopTimeout, onSys_eq]
    refine congrArg (fun z : Sys => Host.Outcome.next { s with sys := z }) (if_neg ?_)
    simp [Sys.posMode, hmode, hmoving]
  refine ⟨_, hruns, ?_, ?_, rfl, rfl⟩
  · exact (Sys.rd_irqPos ..).trans ((Sys.rd_posFlag _ _ _ _ (pfStat_ne _ _ (by decide) (by decide) (by decide))).trans ((Sys.rd_wr ..).trans (if_pos rfl)))
  · rw [Sys.posHas_congr (Sys.rd_irqPos ..), Sys.posHas_posFlag, if_pos rfl]

theorem stopTimeout_idle (s : State) (n : Fin 24) (h : s.sys.posHas n.val .stopped = true) : Runs (.stopTimeout n) s s.sys := by
  rw [Runs, exec_stopTimeout, execStopTimeout, onSys_eq]
  exact congrArg (fun z : Sys => Host.Outcome.next { s with sys := z }) (if_pos (Or.inr h))

/-! ## The obligation -/

theorem heldInputs_idle (s : State) (n : Fin 24) (a b : Bool) (x z : BitVec 12) (c : Instr) (h : s.sys.posHeld = true)
    (hc : c ∈ ([.quadratureCount n a b, .toothEdge n b, .sincosSample n x z, .indexLatch n a, .probeLatch n a] : List Instr)) : Runs c s s.sys := by
  simp only [List.mem_cons, List.not_mem_nil, or_false] at hc
  rcases hc with rfl | rfl | rfl | rfl | rfl
  · exact quadratureCount_idle n a b (.inl h)
  · exact toothEdge_idle n b (.inl h)
  · exact sincosSample_idle n x z (.inl h)
  · exact indexLatch_idle n a (.inl h)
  · exact probeLatch_idle n a h

/-- Settles O56. -/
theorem positionChannelsCountAndLatch : Obligations.PositionChannelsCountAndLatch := by
  unfold Obligations.PositionChannelsCountAndLatch
  exact ⟨fun s n a b h => quadratureCount_idle n a b (.inr h), quadratureCount_steps, quadratureCount_errs, toothEdge_counts,
    fun s n b h => toothEdge_idle n b (.inr h), sincosSample_dark, sincosSample_inside, fun s n x z h => sincosSample_idle n x z (.inr h),
    indexLatch_latches, fun s n up h => indexLatch_idle n up (.inr h), referenceArm_arms, positionCorrect_moves, positionShift_moves,
    positionClearFlags_clears, probeLatch_queues, probeLatch_overruns, probeFifoRead_takes, speedUpdate_rests, speedUpdate_single,
    stopTimeout_stops, stopTimeout_idle, heldInputs_idle⟩

end Sys2Proof.Machine
end

section
/-!
PROOFS. Garos links (O57).
-/

namespace Sys2Proof.Machine

variable {fs : List Facet} {nums blobs : Nat → Prop} {y z : Sys} {s : State}

/-! ## The control channel -/

theorem garosLinkHello_idle (s : State) (k : Fin 4) (die : BitVec 64) (st n : BitVec 8) (h : Bytes)
    (hoff : s.sys.rd (ent (0x4C08 + k.val) 1) = 0 ∨ s.sys.boot.phase ≠ .running) : Runs (.garosLinkHello k die st n h) s s.sys := by
  rw [Runs, exec_garosLinkHello, execGarosLinkHello, onSys_eq]
  exact congrArg (fun z : Sys => Host.Outcome.next { s with sys := z }) (if_pos hoff)

theorem garosLinkHello_refuses (s : State) (k : Fin 4) (die : BitVec 64) (st n : BitVec 8) (h : Bytes) (c : Nat)
    (hon : s.sys.rd (ent (0x4C08 + k.val) 1) ≠ 0) (hphase : s.sys.boot.phase = .running) (hrefused : s.sys.rd (ent (0x4C08 + k.val) 1) ≠ 4)
    (hfault : s.sys.formationFault st.toNat n.toNat = some c) (hc : c ≠ 3) (hroom : Room s) :
    Completes (.garosLinkHello k die st n h) s fun t =>
      t.sys.rd (ent (0x4C08 + k.val) 1) = 4 ∧ Logs s t 0x140E k.val (ev [(0, 1, k.val), (1, 1, c)]) ∧
      Leaves [.log] (only [ent (0x4C08 + k.val) 1]) (only []) s t := by
  have hguard : ¬ (s.sys.rd (ent (0x4C08 + k.val) 1) = 0 ∨ s.sys.boot.phase ≠ .running) := by simp [hon, hphase]
  have hruns : Runs (.garosLinkHello k die st n h) s ((s.sys.wr (ent (0x4C08 + k.val) 1) 4).raise 0x140E k.val (ev [(0, 1, k.val), (1, 1, c)])) := by
    rw [Runs, exec_garosLinkHello, execGarosLinkHello, onSys_eq]
    refine congrArg (fun z : Sys => Host.Outcome.next { s with sys := z }) ((if_neg hguard).trans ?_)
    simp only [hfault]
    exact (if_neg hrefused).trans (if_neg hc)
  refine ⟨_, hruns, ?_, ?_, rfl, rfl, ?_⟩
  · exact (Sys.rd_raise ..).trans ((Sys.rd_wr ..).trans (if_pos rfl))
  · simp only [Logs]
    rw [Sys.log_raise _ _ _ _ (by exact hroom)]
    rfl
  · rw [sameBut_raise_iff _ _ _ (by simp)]
    exact sameBut_wr _ _ _ (by simp)

/-- The entries that name the partner of link k. -/
def Sys.partnerShown (y : Sys) (k kind die straps : Nat) : Sys :=
  ((y.wr (ent (0x4C08 + k) 2) kind).wr (ent (0x4C08 + k) 3) die).wr (ent (0x4C08 + k) 4) straps

theorem Sys.formed_twin (y : Sys) (k : Nat) (h : y.linkKind k = 2) : y.formed k = y := if_pos (Or.inr h)

theorem garosLinkHello_opens (s : State) (k : Fin 4) (die : BitVec 64) (st n : BitVec 8) (h : Bytes)
    (hon : s.sys.rd (ent (0x4C08 + k.val) 1) ≠ 0) (hdown : s.sys.rd (ent (0x4C08 + k.val) 1) ≠ 2) (hphase : s.sys.boot.phase = .running)
    (hfault : s.sys.formationFault st.toNat n.toNat = none) (hkind : s.sys.partnerKind st.toNat = 2) (hroom : Room s) :
    Completes (.garosLinkHello k die st n h) s fun t =>
      t.sys.rd (ent (0x4C08 + k.val) 1) = 2 ∧ t.sys.rd (ent (0x4C08 + k.val) 2) = 2 ∧ t.sys.rd (ent (0x4C08 + k.val) 3) = die.toNat ∧
      t.sys.rd (ent (0x4C08 + k.val) 4) = st.toNat ∧ t.sys.rd (ent 0x4C01 7) = die.toNat ∧
      Logs s t 0x1401 k.val (ev [(0, 1, k.val), (1, 1, 2), (8, 8, die.toNat)]) ∧
      t.sys.tx = s.sys.tx ++ [.garos k.val 0 Ctl.resync.num (s.sys.link k.val).next (le 1 0 ++ le 1 s.sys.twinRole ++ le 12 s.sys.twin.since)] ∧
      Leaves [.links, .log, .tx] (only (ent 0x4C01 7 :: [1, 2, 3, 4].map (ent (0x4C08 + k.val)))) (only []) s t := by
  have hguard : ¬ (s.sys.rd (ent (0x4C08 + k.val) 1) = 0 ∨ s.sys.boot.phase ≠ .running) := by simp [hon, hphase]
  obtain ⟨a, ha⟩ : ∃ a, a = (s.sys.partnerShown k.val 2 die.toNat st.toNat).wr (ent 0x4C01 7) die.toNat := ⟨_, rfl⟩
  obtain ⟨b, hb⟩ : ∃ b, b = (a.setLink k.val { a.link k.val with downAt := none, cond := false, misses := 0, heard := [] }).wr
      (ent (0x4C08 + k.val) 1) 2 := ⟨_, rfl⟩
  obtain ⟨c, hc⟩ : ∃ c, c = b.raise 0x1401 k.val (ev [(0, 1, k.val), (1, 1, 2), (8, 8, die.toNat)]) := ⟨_, rfl⟩
  have hrdc : ∀ i, c.rd i = if i = ent (0x4C08 + k.val) 1 then 2 else if i = ent 0x4C01 7 then die.toNat else
      if i = ent (0x4C08 + k.val) 4 then st.toNat else if i = ent (0x4C08 + k.val) 3 then die.toNat else
      if i = ent (0x4C08 + k.val) 2 then 2 else s.sys.rd i := fun i => by
    rw [hc, Sys.rd_raise, hb, Sys.rd_wr, Sys.rd_setLink, ha, Sys.rd_wr, Sys.partnerShown, Sys.rd_wr, Sys.rd_wr, Sys.rd_wr]
  have hlink : (c.link k.val).next = (s.sys.link k.val).next := by
    have hlinks : c.links = (a.setLink k.val { a.link k.val with downAt := none, cond := false, misses := 0, heard := [] }).links := by
      rw [hc, Sys.raise_links, hb, Sys.wr_links]
    rw [Sys.link, hlinks, ← Sys.link, Sys.link_setLink, if_pos rfl, ha]
    rfl
  have hruns : Runs (.garosLinkHello k die st n h) s (c.control k.val .resync (le 1 0 ++ le 1 c.twinRole ++ le 12 c.twin.since)) := by
    rw [Runs, exec_garosLinkHello, execGarosLinkHello, onSys_eq]
    refine congrArg (fun z : Sys => Host.Outcome.next { s with sys := z }) ((if_neg hguard).trans ?_)
    simp only [hfault, hkind, if_true]
    refine (if_neg hdown).trans ?_
    have hformed : c.formed k.val = c := c.formed_twin k.val ((hrdc _).trans (by simp [ent]; omega))
    subst hc hb ha
    exact congrArg (fun z : Sys => z.control k.val .resync (le 1 0 ++ le 1 z.twinRole ++ le 12 z.twin.since)) hformed
  have hs : SameBut [.links, .log] (only (ent 0x4C01 7 :: [1, 2, 3, 4].map (ent (0x4C08 + k.val)))) (only []) s.sys c := by
    rw [hc, sameBut_raise_iff _ _ _ (by simp), hb]
    refine SameBut.trans ?_ (sameBut_wr _ _ _ (by simp))
    refine SameBut.trans ?_ (sameBut_setLink _ _ (by simp))
    rw [ha, Sys.partnerShown]
    exact (((sameBut_wr _ _ _ (by simp)).trans (sameBut_wr _ _ _ (by simp))).trans (sameBut_wr _ _ _ (by simp))).trans (sameBut_wr _ _ _ (by simp))
  have hcontrol := Sys.control_garos c (show k.val ≠ 4 by omega) .resync (le 1 0 ++ le 1 c.twinRole ++ le 12 c.twin.since)
  have hrd : ∀ i, (c.control k.val .resync (le 1 0 ++ le 1 c.twinRole ++ le 12 c.twin.since)).rd i = c.rd i := fun i => by rw [hcontrol]; rfl
  refine ⟨_, hruns, ?_, ?_, ?_, ?_, ?_, ?_, ?_, rfl, rfl, ?_⟩
  · exact (hrd _).trans ((hrdc _).trans (if_pos rfl))
  · exact (hrd _).trans ((hrdc _).trans (by simp [ent]; omega))
  · exact (hrd _).trans ((hrdc _).trans (by simp [ent]))
  · exact (hrd _).trans ((hrdc _).trans (by simp [ent]; omega))
  · exact (hrd _).trans ((hrdc _).trans (by simp [ent]; omega))
  · have hlog : b.log = s.sys.log := by rw [hb, ha]; rfl
    simp only [Logs]
    rw [hcontrol]
    change c.log.pending = _
    rw [hc, Sys.log_raise _ _ _ _ (by rw [hlog]; exact hroom), hlog, hb, ha]
    rfl
  · have htx : c.tx = s.sys.tx := by rw [hc, Sys.raise_tx, hb, ha]; rfl
    have htwin : c.twin = s.sys.twin := by rw [hc, Sys.raise_twin, hb, ha]; rfl
    have hrole : c.twinRole = s.sys.twinRole := hs.2.1 (ent 0x4C01 2) (by simp [ent]; omega)
    rw [hcontrol, ← hlink, ← hrole, ← htwin, ← htx]
    rfl
  · exact (hs.mono (by simp) (fun _ h => h) (fun _ h => h)).trans (sameBut_control _ _ _ _ (by simp) (by simp) (by simp))

/-! ## Control frames -/

/-- GAROS_CONTROL_FRAME on an open link: no acknowledgement. -/
def Sys.controlIn (o : Otp) (y : Sys) (k n kind : Nat) (b : Bytes) (checkOk : Bool) : List OtpOp × Sys :=
  match y.controlSeq k n checkOk with
  | .lost => ([], y.inc (ent (0x4C08 + k) 8))
  | .again => ([], y.send (.garos k 0 255 n []))
  | .fresh => if y.relayWaits k kind b then ([], y) else Sys.controlEffect o ((y.expectNext k 0 n).send (.garos k 0 255 n [])) k kind b

theorem garosControlFrame_runs (s : State) (k : Fin 4) (q : BitVec 16) (kind : BitVec 8) (b : Bytes) (checkOk : Bool)
    (hup : s.sys.rd (ent (0x4C08 + k.val) 1) = 2) :
    exec (.garosControlFrame k q false kind b checkOk) s =
      .next { s with
        otp := s.otp.applyAll (Sys.controlIn s.otp s.sys k.val q.toNat kind.toNat b checkOk).1
        sys := (Sys.controlIn s.otp s.sys k.val q.toNat kind.toNat b checkOk).2 } := by
  have hguard : ¬ (s.sys.rd (ent (0x4C08 + k.val) 1) = 0 ∨ (s.sys.rd (ent (0x4C08 + k.val) 1) ≠ 2 ∧ kind ≠ 0)) := by simp [hup]
  rw [exec_garosControlFrame, execGarosControlFrame, run_eq]
  refine congrArg (fun r : List OtpOp × Sys => Host.Outcome.next { s with otp := s.otp.applyAll r.1, sys := r.2 }) ((if_neg hguard).trans ?_)
  unfold Sys.controlIn
  cases s.sys.controlSeq k.val q.toNat checkOk <;> rfl

theorem garosControlFrame_acked (s : State) (k : Fin 4) (q : BitVec 16) (kind : BitVec 8) (b : Bytes) (hup : s.sys.rd (ent (0x4C08 + k.val) 1) = 2) :
    Completes (.garosControlFrame k q true kind b true) s fun t =>
      (t.sys.link k.val).unacked = (s.sys.link k.val).unacked.filter (fun f => f.seq != q.toNat) ∧ Leaves [.links] (only []) (only []) s t := by
  have hguard : ¬ (s.sys.rd (ent (0x4C08 + k.val) 1) = 0 ∨ (s.sys.rd (ent (0x4C08 + k.val) 1) ≠ 2 ∧ kind ≠ 0)) := by simp [hup]
  have hruns : Runs (.garosControlFrame k q true kind b true) s (s.sys.acked k.val q.toNat) := by
    rw [Runs, exec_garosControlFrame, execGarosControlFrame, run_eq]
    exact congrArg (fun r : List OtpOp × Sys => Host.Outcome.next { s with otp := s.otp.applyAll r.1, sys := r.2 }) (if_neg hguard)
  exact ⟨_, hruns, congrArg Link.unacked ((Sys.link_setLink ..).trans (if_pos rfl)), rfl, rfl, sameBut_setLink _ _ (by simp)⟩

theorem garosControlFrame_answers (s : State) (k : Fin 4) (q : BitVec 16) (kind : BitVec 8) (b : Bytes) (hup : s.sys.rd (ent (0x4C08 + k.val) 1) = 2) :
    (Completes (.garosControlFrame k q true kind b true) s fun t =>
      (t.sys.link k.val).unacked = (s.sys.link k.val).unacked.filter (fun f => f.seq != q.toNat) ∧ Leaves [.links] (only []) (only []) s t) ∧
    (Completes (.garosControlFrame k q false kind b false) s fun t =>
      t.sys.rd (ent (0x4C08 + k.val) 8) = (s.sys.rd (ent (0x4C08 + k.val) 8) + 1) % 2 ^ 32 ∧
      Leaves [] (only [ent (0x4C08 + k.val) 8]) (only []) s t) ∧
    (s.sys.controlSeq k.val q.toNat true = .again →
      Runs (.garosControlFrame k q false kind b true) s (s.sys.send (.garos k.val 0 255 q.toNat []))) ∧
    (s.sys.controlSeq k.val q.toNat true = .fresh → s.sys.relayWaits k.val kind.toNat b = true → Runs (.garosControlFrame k q false kind b true) s s.sys) ∧
    (s.sys.controlSeq k.val q.toNat true = .fresh → s.sys.relayWaits k.val kind.toNat b = false →
      let r := Sys.controlEffect s.otp ((s.sys.expectNext k.val 0 q.toNat).send (.garos k.val 0 255 q.toNat [])) k.val kind.toNat b
      exec (.garosControlFrame k q false kind b true) s = .next { s with otp := s.otp.applyAll r.1, sys := r.2 }) := by
  refine ⟨garosControlFrame_acked s k q kind b hup, ?_, fun hseq => ?_, fun hseq hwaits => ?_, fun hseq hwaits => ?_⟩
  · have hruns := garosControlFrame_runs s k q kind b false hup
    have hlost : s.sys.controlSeq k.val q.toNat false = .lost := rfl
    simp only [Sys.controlIn, hlost] at hruns
    refine ⟨_, hruns, ?_, rfl, rfl, ?_⟩
    · rw [Sys.inc_eq]
      exact (Sys.rd_wr ..).trans (if_pos rfl)
    · exact sameBut_wr _ _ _ (by simp)
  · rw [Runs, garosControlFrame_runs s k q kind b true hup, Sys.controlIn, hseq]
    rfl
  · rw [Runs, garosControlFrame_runs s k q kind b true hup, Sys.controlIn, hseq]
    simp only [hwaits, if_true]
    rfl
  · intro r
    rw [garosControlFrame_runs s k q kind b true hup, Sys.controlIn, hseq]
    simp only [hwaits, Bool.false_eq_true, if_false]
    rfl

theorem garosControlResend_one (s : State) (k : Fin 4) (f : CtlFrame) (hup : s.sys.rd (ent (0x4C08 + k.val) 1) = 2)
    (hone : (s.sys.link k.val).unacked = [f]) : Completes (.garosControlResend k) s fun t =>
      t.sys.tx = s.sys.tx ++ [.garos k.val 0 f.kind f.seq f.body] ∧ (t.sys.link k.val).unacked = [{ f with resends := f.resends + 1 }] ∧
      Leaves [.links, .tx] (only []) (only []) s t := by
  have hruns : Runs (.garosControlResend k) s ((s.sys.setLink k.val { s.sys.link k.val with unacked := [{ f with resends := f.resends + 1 }] }).send
      (.garos k.val 0 f.kind f.seq f.body)) := by
    rw [Runs, exec_garosControlResend, execGarosControlResend, onSys_eq]
    refine congrArg (fun z : Sys => Host.Outcome.next { s with sys := z }) ?_
    simp [hup, hone]
  exact ⟨_, hruns, rfl, congrArg Link.unacked ((Sys.link_setLink ..).trans (if_pos rfl)), rfl, rfl,
    (sameBut_setLink _ _ (by simp)).trans (sameBut_send _ _ (by simp))⟩

/-! ## Store and window frames -/

theorem Sys.channelFrame_fits (y : Sys) {k chan seq : Nat} (h : ((y.link k).expect.lookup chan).getD seq = seq) :
    y.channelFrame k chan seq true = (true, y.expectNext k chan seq) := by
  simp [Sys.channelFrame, h]

theorem Sys.channelFrame_bad (y : Sys) (k chan seq : Nat) :
    y.channelFrame k chan seq false = (false, (y.expectNext k chan seq).inc (ent (0x4C08 + k) 8)) := by
  simp [Sys.channelFrame]

theorem Sys.dropStores_complete (y : Sys) (x n : Nat) :
    ∀ st ∈ (y.dropStores x n).stores, st.ctx = x → ∀ b ∈ st.bufs, b.frame = n → b.complete = true := by
  intro st hst hx b hb hn
  obtain ⟨u, -, rfl⟩ := List.mem_map.1 hst
  split at hx
  next h =>
    rw [if_pos h] at hb
    have hkept := (List.mem_filter.1 hb).2
    simpa [hn] using hkept
  next h => exact absurd (beq_iff_eq.2 hx) h

theorem sameBut_dropStores (y : Sys) (x n : Nat) : SameBut [.stores] (only []) (only []) y (y.dropStores x n) :=
  .of_facets rfl rfl fun p hp => by cases p with | stores => simp at hp | _ => rfl

theorem garosStoreFrame_damaged (s : State) (k : Fin 4) (q : BitVec 16) (x : Fin 16) (n : BitVec 32) (g : List StoreGroup) (last : Bool)
    (hup : s.sys.garosUp k.val = true) : Completes (.garosStoreFrame k q x n g last false) s fun t =>
      t.sys.rd (ent (0x4C08 + k.val) 8) = (s.sys.rd (ent (0x4C08 + k.val) 8) + 1) % 2 ^ 32 ∧
      (∀ st ∈ t.sys.stores, st.ctx = x.val → ∀ b ∈ st.bufs, b.frame = n.toNat → b.complete = true) ∧
      Leaves [.links, .stores] (only [ent (0x4C08 + k.val) 8]) (only []) s t := by
  have hruns : Runs (.garosStoreFrame k q x n g last false) s
      (((s.sys.expectNext k.val 2 q.toNat).inc (ent (0x4C08 + k.val) 8)).dropStores x.val n.toNat) := by
    rw [Runs, exec_garosStoreFrame, execGarosStoreFrame, onSys_eq]
    refine congrArg (fun z : Sys => Host.Outcome.next { s with sys := z }) ?_
    simp only [hup, Bool.not_true, Bool.false_eq_true, if_false, Sys.channelFrame_bad, Bool.not_false, if_true]
  refine ⟨_, hruns, ?_, Sys.dropStores_complete _ _ _, rfl, rfl, ?_⟩
  · rw [Sys.inc_eq]
    exact (Sys.rd_wr ..).trans (if_pos rfl)
  · refine SameBut.trans ?_ ((sameBut_dropStores _ _ _).mono (by simp) (fun _ h => by simp at h) (fun _ h => h))
    exact (sameBut_setLink _ _ (by simp)).trans (sameBut_wr _ _ _ (by simp))

theorem garosStoreFrame_joins (s : State) (k : Fin 4) (q : BitVec 16) (x : Fin 16) (n : BitVec 32) (g : List StoreGroup) (f : Frame)
    (hup : s.sys.garosUp k.val = true) (hseq : ((s.sys.link k.val).expect.lookup 2).getD q.toNat = q.toNat)
    (hframe : s.sys.frame? x.val n.toNat = some f) (hlive : f.abandoned = false) :
    Runs (.garosStoreFrame k q x n g false true) s (g.foldl (fun (y : Sys) (h : StoreGroup) =>
      y.commitHeld x.val n.toNat h.line.toNat h.col.toNat ⟨h.binding.val, h.lanes, h.px.map BitVec.toNat⟩) (s.sys.expectNext k.val 2 q.toNat)) := by
  have hhere : (s.sys.expectNext k.val 2 q.toNat).frame? x.val n.toNat = some f := hframe
  rw [Runs, exec_garosStoreFrame, execGarosStoreFrame, onSys_eq]
  refine congrArg (fun z : Sys => Host.Outcome.next { s with sys := z }) ?_
  simp only [hup, Bool.not_true, Bool.false_eq_true, if_false, Sys.channelFrame_fits s.sys hseq, hhere, Option.any_some, hlive, Bool.not_false, Bool.true_or]

/-- GAROS_WINDOW_FRAME in its order on an open link. -/
def Sys.windowAnswered (y : Sys) (k q a : Nat) (w : WindowAccess) : Sys :=
  let size := match w with | .read n => n.toNat | .write b => b.length
  if !(a / 2 ^ 60 == 4 + y.arrayPos) || !dmaOk (a % 2 ^ 38) size then y.send (.garos k 3 1 q [])
  else match w with
    | .read n => if y.dmaPoisoned (a % 2 ^ 38) n.toNat then y.send (.garos k 3 1 q []) else y.send (.garos k 3 0 q (y.dramRd (a % 2 ^ 38) n.toNat))
    | .write b => (y.dramWr (a % 2 ^ 38) b).send (.garos k 3 0 q [])

theorem garosWindowFrame_runs (s : State) (k : Fin 4) (q : BitVec 16) (a : BitVec 64) (w : WindowAccess) (hup : s.sys.garosUp k.val = true)
    (hseq : ((s.sys.link k.val).expect.lookup 3).getD q.toNat = q.toNat) :
    Runs (.garosWindowFrame k q a w true) s ((s.sys.expectNext k.val 3 q.toNat).windowAnswered k.val q.toNat a.toNat w) := by
  rw [Runs, exec_garosWindowFrame, execGarosWindowFrame.eq_def, onSys_eq]
  refine congrArg (fun z : Sys => Host.Outcome.next { s with sys := z }) ?_
  simp only [hup, Bool.not_true, Bool.false_eq_true, if_false, Sys.channelFrame_fits s.sys hseq]
  cases w <;> rfl

theorem garosWindowFrame_reads (s : State) (k : Fin 4) (q : BitVec 16) (a : BitVec 64) (n : BitVec 16) (hup : s.sys.garosUp k.val = true)
    (hseq : ((s.sys.link k.val).expect.lookup 3).getD q.toNat = q.toNat) (hmine : a.toNat / 2 ^ 60 = 4 + s.sys.arrayPos)
    (hok : dmaOk (a.toNat % 2 ^ 38) n.toNat = true) (hclean : s.sys.dmaPoisoned (a.toNat % 2 ^ 38) n.toNat = false) :
    Completes (.garosWindowFrame k q a (.read n) true) s fun t =>
      t.sys.tx = s.sys.tx ++ [.garos k.val 3 0 q.toNat (s.sys.dramRd (a.toNat % 2 ^ 38) n.toNat)] ∧ Leaves [.links, .tx] (only []) (only []) s t := by
  have hruns := garosWindowFrame_runs s k q a (.read n) hup hseq
  obtain ⟨y, hy⟩ : ∃ y, y = s.sys.expectNext k.val 3 q.toNat := ⟨_, rfl⟩
  have hpos : y.arrayPos = s.sys.arrayPos := by rw [hy]; rfl
  have hpoison : y.dmaPoisoned (a.toNat % 2 ^ 38) n.toNat = s.sys.dmaPoisoned (a.toNat % 2 ^ 38) n.toNat := by rw [hy]; rfl
  have hread : y.dramRd (a.toNat % 2 ^ 38) n.toNat = s.sys.dramRd (a.toNat % 2 ^ 38) n.toNat := by rw [hy]; rfl
  have htx : y.tx = s.sys.tx := by rw [hy]; rfl
  have hs : SameBut [.links, .tx] (only []) (only []) s.sys y := by
    rw [hy]
    exact sameBut_setLink _ _ (by simp)
  rw [← hy] at hruns
  simp only [Sys.windowAnswered, hpos, hmine, beq_self_eq_true, Bool.not_true, hok, Bool.or_false, Bool.false_eq_true, if_false, hpoison, hclean, hread] at hruns
  exact ⟨_, hruns, by rw [Sys.tx_send, htx], rfl, rfl, hs.trans (sameBut_send _ _ (by simp))⟩

theorem garosWindowFrame_writes (s : State) (k : Fin 4) (q : BitVec 16) (a : BitVec 64) (b : Bytes) (hup : s.sys.garosUp k.val = true)
    (hseq : ((s.sys.link k.val).expect.lookup 3).getD q.toNat = q.toNat) (hmine : a.toNat / 2 ^ 60 = 4 + s.sys.arrayPos)
    (hok : dmaOk (a.toNat % 2 ^ 38) b.length = true) : Runs (.garosWindowFrame k q a (.write b) true) s
      (((s.sys.expectNext k.val 3 q.toNat).dramWr (a.toNat % 2 ^ 38) b).send (.garos k.val 3 0 q.toNat [])) := by
  have hruns := garosWindowFrame_runs s k q a (.write b) hup hseq
  obtain ⟨y, hy⟩ : ∃ y, y = s.sys.expectNext k.val 3 q.toNat := ⟨_, rfl⟩
  have hpos : y.arrayPos = s.sys.arrayPos := by rw [hy]; rfl
  rw [← hy] at hruns ⊢
  simpa only [Sys.windowAnswered, hpos, hmine, beq_self_eq_true, Bool.not_true, hok, Bool.or_false, Bool.false_eq_true, if_false] using hruns

theorem garosWindowFrame_refuses (s : State) (k : Fin 4) (q : BitVec 16) (a : BitVec 64) (w : WindowAccess) (hup : s.sys.garosUp k.val = true)
    (hseq : ((s.sys.link k.val).expect.lookup 3).getD q.toNat = q.toNat) (hother : a.toNat / 2 ^ 60 ≠ 4 + s.sys.arrayPos) :
    Runs (.garosWindowFrame k q a w true) s ((s.sys.expectNext k.val 3 q.toNat).send (.garos k.val 3 1 q.toNat [])) := by
  have hruns := garosWindowFrame_runs s k q a w hup hseq
  obtain ⟨y, hy⟩ : ∃ y, y = s.sys.expectNext k.val 3 q.toNat := ⟨_, rfl⟩
  have hpos : y.arrayPos = s.sys.arrayPos := by rw [hy]; rfl
  rw [← hy] at hruns ⊢
  have hnot : (a.toNat / 2 ^ 60 == 4 + y.arrayPos) = false := by simpa [hpos] using hother
  simpa only [Sys.windowAnswered, hnot, Bool.not_false, Bool.true_or, if_true] using hruns

/-! ## Markers -/

theorem garosMarkerSend_stamps (s : State) (k : Fin 4) (hup : s.sys.garosUp k.val = true) : Completes (.garosMarkerSend k) s fun t =>
    let n := ((s.sys.link k.val).sentMarker.1 + 1) % 2 ^ 32
    (t.sys.link k.val).sentMarker = (n, s.sys.t96) ∧
    t.sys.tx = s.sys.tx ++ [.garos k.val 4 0 n [], .garos k.val 0 Ctl.stamps.num (s.sys.link k.val).next (le 4 n ++ le 12 s.sys.t96)] ∧
    Leaves [.links, .tx] (only []) (only []) s t := by
  obtain ⟨n, hn⟩ : ∃ n, n = ((s.sys.link k.val).sentMarker.1 + 1) % 2 ^ 32 := ⟨_, rfl⟩
  obtain ⟨a, ha⟩ : ∃ a, a = (s.sys.setLink k.val { s.sys.link k.val with sentMarker := (n, s.sys.t96) }).send (.garos k.val 4 0 n []) := ⟨_, rfl⟩
  have hruns : Runs (.garosMarkerSend k) s (a.control k.val .stamps (le 4 n ++ le 12 s.sys.t96)) := by
    rw [Runs, exec_garosMarkerSend, execGarosMarkerSend, onSys_eq]
    refine congrArg (fun z : Sys => Host.Outcome.next { s with sys := z }) ?_
    simp only [hup, Bool.not_true, Bool.false_eq_true, if_false]
    subst ha hn
    rfl
  have hlink : a.link k.val = { s.sys.link k.val with sentMarker := (n, s.sys.t96) } := by
    rw [ha]
    exact (Sys.link_setLink ..).trans (if_pos rfl)
  have htx : a.tx = s.sys.tx ++ [.garos k.val 4 0 n []] := by rw [ha]; rfl
  have hs : SameBut [.links, .tx] (only []) (only []) s.sys a := by
    rw [ha]
    exact (sameBut_setLink _ _ (by simp)).trans (sameBut_send _ _ (by simp))
  rw [Sys.control_garos _ (show k.val ≠ 4 by omega), hlink] at hruns
  refine ⟨_, hruns, ?_, ?_, rfl, rfl, (hs.trans (sameBut_setLink _ _ (by simp))).trans (sameBut_send _ _ (by simp))⟩
  · rw [← hn]
    exact congrArg Link.sentMarker ((Sys.link_setLink ..).trans (if_pos rfl))
  · rw [← hn, Sys.tx_send]
    change a.tx ++ _ = _
    rw [htx, List.append_assoc]
    rfl

theorem garosTimeMarker_shows (s : State) (k : Fin 4) (a b c d : BitVec 96) (hup : s.sys.garosUp k.val = true)
    (hsource : s.sys.timeSources.contains 5 = false) :
    let p := markerPair a.toNat b.toNat c.toNat d.toNat (s.sys.rdI (ent (0x4C08 + k.val) 5))
    Runs (.garosTimeMarker k a b c d) s
      ((s.sys.wrI (ent (0x4C08 + k.val) 6) (satI32 (unitsPs p.1))).wr (ent (0x4C08 + k.val) 7) (min 0xFFFFFFFF (unitsPs p.2).toNat)) := by
  intro p
  obtain ⟨y, hy⟩ : ∃ y, y = (s.sys.wrI (ent (0x4C08 + k.val) 6) (satI32 (unitsPs p.1))).wr (ent (0x4C08 + k.val) 7)
    (min 0xFFFFFFFF (unitsPs p.2).toNat) := ⟨_, rfl⟩
  have hrd : ∀ i ∈ [ent 0x2010 1, ent 0x2301 1, ent 0x2301 2, ent 0x4C01 2, ent 0x4C01 6], y.rd i = s.sys.rd i := fun i hi => by
    simp only [ent, List.mem_cons, List.not_mem_nil, or_false] at hi
    rw [hy, Sys.rd_wr, if_neg (by unfold ent; omega), Sys.wrI_eq, Sys.rd_wr, if_neg (by unfold ent; omega)]
  have hfollowed : ¬ (y.timeSources.contains 5 ∧ y.garosTimeLink k.val) := by
    rw [Sys.timeSources_congr hrd, hsource]
    simp
  have hguard : ¬ (!s.sys.garosUp k.val) = true := by simp [hup]
  rw [Runs, exec_garosTimeMarker, execGarosTimeMarker, onSys_eq]
  refine congrArg (fun z : Sys => Host.Outcome.next { s with sys := z }) ((if_neg hguard).trans ?_)
  rw [hy] at hfollowed
  exact if_neg hfollowed

theorem garosMarkers_down (s : State) (k : Fin 4) (a b c d : BitVec 96) (hdown : s.sys.garosUp k.val = false) :
    Runs (.garosTimeMarker k a b c d) s s.sys ∧ Runs (.garosMarkerSend k) s s.sys := by
  have hguard : (!s.sys.garosUp k.val) = true := by simp [hdown]
  constructor
  · rw [Runs, exec_garosTimeMarker, execGarosTimeMarker, onSys_eq]
    exact congrArg (fun z : Sys => Host.Outcome.next { s with sys := z }) (if_pos hguard)
  · rw [Runs, exec_garosMarkerSend, execGarosMarkerSend, onSys_eq]
    exact congrArg (fun z : Sys => Host.Outcome.next { s with sys := z }) (if_pos hguard)

/-- Settles O57. -/
theorem linksOpenAndCarryTheirChannels : Obligations.LinksOpenAndCarryTheirChannels := by
  unfold Obligations.LinksOpenAndCarryTheirChannels
  exact ⟨garosLinkHello_idle, garosLinkHello_refuses, garosLinkHello_opens, garosControlFrame_answers, garosControlResend_one, garosStoreFrame_damaged,
    garosStoreFrame_joins, garosWindowFrame_reads, garosWindowFrame_writes, garosWindowFrame_refuses, garosMarkerSend_stamps, garosTimeMarker_shows,
    garosMarkers_down⟩

end Sys2Proof.Machine
end

section
/-!
PROOFS. Heartbeats and the loss of a partner (O58).
-/

namespace Sys2Proof.Machine

variable {fs : List Facet} {nums blobs : Nat → Prop} {y z : Sys} {s : State}

/-! ## Heartbeats -/

theorem Sys.link_congr (h : z.links = y.links) (k : Nat) : z.link k = y.link k := by
  unfold Sys.link
  rw [h]

theorem marionetteSend_sends (s : State) (k : Fin 4) (hup : s.sys.garosUp k.val = true) (hstep : s.sys.power.step < 4) :
    Completes (.marionetteSend k) s fun t =>
    (t.sys.link k.val).hbOut = ((s.sys.link k.val).hbOut + 1) % 65536 ∧
    t.sys.tx = s.sys.tx ++ [.garos k.val 0 Ctl.heartbeat.num (s.sys.link k.val).next (s.sys.marionette k.val)] ∧
    Leaves [.links, .tx] (only []) (only []) s t := by
  obtain ⟨a, ha⟩ : ∃ a, a = s.sys.setLink k.val { s.sys.link k.val with hbOut := ((s.sys.link k.val).hbOut + 1) % 65536 } := ⟨_, rfl⟩
  have hguard : ¬ ((!s.sys.garosUp k.val) = true ∨ 4 ≤ s.sys.power.step) := by simp [hup, hstep]
  have hruns : Runs (.marionetteSend k) s (a.control k.val .heartbeat (s.sys.marionette k.val)) := by
    rw [Runs, exec_marionetteSend, execMarionetteSend, onSys_eq, ha]
    exact congrArg (fun z : Sys => Host.Outcome.next { s with sys := z }) (if_neg hguard)
  have hlink : a.link k.val = { s.sys.link k.val with hbOut := ((s.sys.link k.val).hbOut + 1) % 65536 } := by
    rw [ha]
    exact (Sys.link_setLink ..).trans (if_pos rfl)
  have hs : SameBut [.links, .tx] (only []) (only []) s.sys a := by
    rw [ha]
    exact sameBut_setLink _ _ (by simp)
  have htx : a.tx = s.sys.tx := by rw [ha]; rfl
  rw [Sys.control_garos _ (show k.val ≠ 4 by omega), hlink] at hruns
  refine ⟨_, hruns, congrArg Link.hbOut ((Sys.link_setLink ..).trans (if_pos rfl)), ?_, rfl, rfl,
    (hs.trans (sameBut_setLink _ _ (by simp))).trans (sameBut_send _ _ (by simp))⟩
  rw [Sys.tx_send, ← htx]
  rfl

theorem marionetteSend_down (s : State) (k : Fin 4) (hdown : s.sys.garosUp k.val = false) : Runs (.marionetteSend k) s s.sys := by
  have hguard : (!s.sys.garosUp k.val) = true ∨ 4 ≤ s.sys.power.step := by simp [hdown]
  rw [Runs, exec_marionetteSend, execMarionetteSend, onSys_eq]
  exact congrArg (fun z : Sys => Host.Outcome.next { s with sys := z }) (if_pos hguard)

theorem marionetteReceive_ignored (s : State) (k : Fin 4) (h : Bytes)
    (hbad : s.sys.garosUp k.val = false ∨ h.length ≠ 96 ∨ rdLe h 0 1 ≠ 1) : Runs (.marionetteReceive k h) s s.sys := by
  have hguard : (!s.sys.garosUp k.val) = true ∨ h.length ≠ 96 ∨ rdLe h 0 1 ≠ 1 := hbad.imp_left fun hdown => by simp [hdown]
  rw [Runs, exec_marionetteReceive, execMarionetteReceive, onSys_eq]
  exact congrArg (fun z : Sys => Host.Outcome.next { s with sys := z }) (if_pos hguard)

theorem Sys.rd_originIs (y : Sys) (src : Nat) (trace : Bool) (n : Nat) {k : Nat} (h : k ∉ [ent 0x2300 2, ent 0x2300 6, ent 0x2303 1, ent 0x2303 2]) :
    (y.originIs src trace n).rd k = y.rd k := by
  simp only [List.mem_cons, List.not_mem_nil, or_false, not_or] at h
  obtain ⟨h2, hshown⟩ := h
  unfold Sys.originIs
  extract_lets a
  split
  · rw [Sys.rd_showTime _ (by simpa using hshown), Sys.wrBit_eq, Sys.rd_wr, if_neg h2]
    rfl
  · rfl

/-- A heartbeat is noted on its link. -/
def Sys.beatHeard (y : Sys) (k : Nat) (h : Bytes) : Sys :=
  y.setLink k { y.link k with heard := h, heardAt := y.up, hbIn := (rdLe h 4 2 + 1) % 65536, misses := 0, cond := false }

theorem marionetteReceive_runs (s : State) (k : Fin 4) (h : Bytes) (hup : s.sys.garosUp k.val = true) (hlen : h.length = 96) (hversion : rdLe h 0 1 = 1)
    {y : Sys} (hy : y = s.sys.beatHeard k.val h) {z : Sys} (hz : z = if y.timeSources.contains 5 ∧ y.garosTimeLink k.val then
      y.originIs 5 ((rdLe h 6 1).testBit 6) (((y.time.origin.lookup 5).map (·.2)).getD 0xA0) else y) :
    Runs (.marionetteReceive k h) s
      (if z.linkKind k.val = 2 then z.twinHeard s.otp h else if z.view.role = 3 then z.memberHeard s.otp k.val h else z) := by
  have hguard : ¬ ((!s.sys.garosUp k.val) = true ∨ h.length ≠ 96 ∨ rdLe h 0 1 ≠ 1) := by simp [hup, hlen, hversion]
  rw [Runs, exec_marionetteReceive, execMarionetteReceive, onSys_eq]
  subst hz hy
  exact congrArg (fun z : Sys => Host.Outcome.next { s with sys := z }) (if_neg hguard)

theorem marionetteReceive_noted (s : State) (k : Fin 4) (h : Bytes) (hup : s.sys.garosUp k.val = true) (hlen : h.length = 96) (hversion : rdLe h 0 1 = 1)
    (hkind : s.sys.linkKind k.val ≠ 2) (hrole : s.sys.view.role ≠ 3) : Completes (.marionetteReceive k h) s fun t =>
      t.sys.link k.val = { s.sys.link k.val with
        heard := h, heardAt := s.sys.up, hbIn := (rdLe h 4 2 + 1) % 65536, misses := 0, cond := false } ∧
      (∀ j, j ≠ k.val → t.sys.link j = s.sys.link j) ∧ Leaves [.links] (only []) (only []) s t := by
  obtain ⟨y, hy⟩ : ∃ y, y = s.sys.beatHeard k.val h := ⟨_, rfl⟩
  have hkind' : y.linkKind k.val ≠ 2 := by rw [hy]; exact hkind
  have hrole' : y.view.role ≠ 3 := by rw [hy]; exact hrole
  have hother : y.garosTimeLink k.val = false := by
    unfold Sys.garosTimeLink
    split
    · exact beq_eq_false_iff_ne.2 hkind'
    · simp [hrole']
  have hruns := marionetteReceive_runs s k h hup hlen hversion hy rfl
  simp only [hother, Bool.false_eq_true, and_false, if_false, hkind', hrole'] at hruns
  refine ⟨_, hruns, ?_, fun j hj => ?_, rfl, rfl, ?_⟩
  · rw [hy]
    exact (Sys.link_setLink ..).trans (if_pos rfl)
  · rw [hy]
    exact (Sys.link_setLink ..).trans (if_neg hj)
  · rw [hy]
    exact sameBut_setLink _ _ (by simp)

theorem marionetteReceive_twin (s : State) (k : Fin 4) (h : Bytes) (hup : s.sys.garosUp k.val = true) (hlen : h.length = 96) (hversion : rdLe h 0 1 = 1)
    (hkind : s.sys.linkKind k.val = 2) :
    let y := s.sys.setLink k.val { s.sys.link k.val with
      heard := h, heardAt := s.sys.up, hbIn := (rdLe h 4 2 + 1) % 65536, misses := 0, cond := false }
    Runs (.marionetteReceive k h) s (Sys.twinHeard s.otp (if y.timeSources.contains 5 = true ∧ y.garosTimeLink k.val = true then
      y.originIs 5 ((rdLe h 6 1).testBit 6) (((y.time.origin.lookup 5).map (·.2)).getD 0xA0) else y) h) := by
  intro y
  obtain ⟨z, hz⟩ : ∃ z, z = if y.timeSources.contains 5 ∧ y.garosTimeLink k.val then
      y.originIs 5 ((rdLe h 6 1).testBit 6) (((y.time.origin.lookup 5).map (·.2)).getD 0xA0) else y := ⟨_, rfl⟩
  have hkind' : z.linkKind k.val = 2 := by
    have hy : y.linkKind k.val = 2 := hkind
    rw [hz]
    split
    · exact (y.rd_originIs 5 _ _ (by simp [ent]; omega)).trans hy
    · exact hy
  have hruns := marionetteReceive_runs s k h hup hlen hversion (y := y) rfl hz
  rw [if_pos hkind', hz] at hruns
  exact hruns

/-! ## The link condition -/

theorem Sys.linkCondition_spec (y : Sys) (k : Nat) :
    (y.linkCondition k).links = (y.setLink k { y.link k with cond := true }).links ∧
    ∀ i, i ≠ ent 0x4C01 3 → i ≠ ent 0x4C01 4 → (y.linkCondition k).rd i = y.rd i := by
  unfold Sys.linkCondition
  extract_lets l a
  split
  · have hlinks : ((a.setTwinState 4).raise 0x140C k (ev [(0, 1, k)])).links = a.links := (Sys.raise_links ..).trans (Sys.wr_links ..)
    refine ⟨?_, fun i h3 h4 => ?_⟩
    · exact (((touches_rearm _ (fun _ h => h)).2 (.refl _)).facet .links (by simp) (by simp)).symm.trans hlinks
    · refine (((writes_rearm _ (fun _ h => h)).2 (.refl _)).rd_eq (by simp [Spot.hits, ent] at h4 ⊢; omega)).trans ?_
      rw [Sys.rd_raise]
      exact (Sys.rd_wr ..).trans (if_neg h3)
  · exact ⟨rfl, fun _ _ _ => rfl⟩

theorem Sys.noticed_congr {k : Nat} (hl : (z.link k).notice = (y.link k).notice) (ht : z.twin = y.twin) (hu : z.up = y.up) : z.noticed k = y.noticed k := by
  unfold Sys.noticed
  rw [hl, ht, hu]

/-- MARIONETTE_MISS on an open link: the miss is counted. -/
def Sys.beatMissed (y : Sys) (k : Nat) : Sys :=
  (y.inc (ent (0x4C08 + k) 9)).setLink k { y.link k with misses := (y.link k).misses + 1, hbIn := ((y.link k).hbIn + 1) % 65536 }

theorem Sys.link_beatMissed (y : Sys) (k : Nat) :
    (y.beatMissed k).link k = { y.link k with misses := (y.link k).misses + 1, hbIn := ((y.link k).hbIn + 1) % 65536 } :=
  (Sys.link_setLink ..).trans (if_pos rfl)

theorem Sys.noticed_beatMissed (y : Sys) (k : Nat) : (y.beatMissed k).noticed k = y.noticed k :=
  Sys.noticed_congr (by rw [y.link_beatMissed k]) rfl rfl

theorem marionetteMiss_runs (s : State) (k : Fin 4) (hup : s.sys.garosUp k.val = true) :
    Runs (.marionetteMiss k) s (if (s.sys.link k.val).misses + 1 < 4 ∨ (s.sys.beatMissed k.val).noticed k.val then s.sys.beatMissed k.val
      else ((s.sys.beatMissed k.val).garosDown k.val 1).linkCondition k.val) := by
  have hguard : ¬ (!s.sys.garosUp k.val) = true := by simp [hup]
  rw [Runs, exec_marionetteMiss, execMarionetteMiss, onSys_eq]
  exact congrArg (fun z : Sys => Host.Outcome.next { s with sys := z }) (if_neg hguard)

theorem marionetteMiss_counts (s : State) (k : Fin 4) (hup : s.sys.garosUp k.val = true) (hfew : (s.sys.link k.val).misses < 3) :
    Completes (.marionetteMiss k) s fun t =>
    t.sys.link k.val = { s.sys.link k.val with misses := (s.sys.link k.val).misses + 1, hbIn := ((s.sys.link k.val).hbIn + 1) % 65536 } ∧
    t.sys.rd (ent (0x4C08 + k.val) 9) = (s.sys.rd (ent (0x4C08 + k.val) 9) + 1) % 2 ^ 32 ∧
    Leaves [.links] (only [ent (0x4C08 + k.val) 9]) (only []) s t := by
  have hruns := marionetteMiss_runs s k hup
  rw [if_pos (Or.inl (by omega))] at hruns
  refine ⟨_, hruns, s.sys.link_beatMissed k.val, ?_, rfl, rfl, ?_⟩
  · refine (Sys.rd_setLink ..).trans ?_
    rw [Sys.inc_eq]
    exact (Sys.rd_wr ..).trans (if_pos rfl)
  · exact SameBut.trans (b := s.sys.inc (ent (0x4C08 + k.val) 9)) (sameBut_wr _ _ _ (by simp)) (sameBut_setLink _ _ (by simp))

theorem Sys.garosDown_spec (y : Sys) (k cause : Nat) (hk : k < 4) (hup : y.rd (ent (0x4C08 + k) 1) = 2) :
    (y.garosDown k cause).rd (ent (0x4C08 + k) 1) = 3 ∧ ((y.garosDown k cause).link k).downAt = some y.up := by
  unfold Sys.garosDown
  rw [if_neg (by simp [hup])]
  extract_lets a l b c
  have hrd : c.rd (ent (0x4C08 + k) 1) = 3 := (Sys.rd_raise ..).trans ((Sys.rd_setLink ..).trans ((Sys.rd_wr ..).trans (if_pos rfl)))
  have hlinks : c.links = b.links := Sys.raise_links ..
  have hlink : (c.link k).downAt = some y.up := by
    rw [Sys.link_congr hlinks]
    exact congrArg Link.downAt ((Sys.link_setLink ..).trans (if_pos rfl))
  split
  · have hfault : Touches [Facet.log, .mram, .time] c (c.sourceFault 5 0) := (touches_sourceFault _ _ _ (fun _ h => h)).2 (.refl _)
    have hwrites := (writes_sourceFault c 5 0 (fun _ h => h)).2 (.refl c)
    refine ⟨?_, ?_⟩
    · refine (Sys.rd_showTime _ (by simp [ent]; omega)).trans (.trans ?_ hrd)
      exact hwrites.rd_eq (by simp [Spot.hits, ent]; omega)
    · refine Eq.trans (congrArg Link.downAt (Sys.link_congr ?_ k)) hlink
      exact (hfault.facet .links (by simp) (by simp)).symm
  · exact ⟨hrd, hlink⟩

theorem garosUp_iff (y : Sys) (k : Nat) : y.garosUp k = true ↔ y.rd (ent (0x4C08 + k) 1) = 2 := beq_iff_eq

theorem marionetteMiss_fourth (s : State) (k : Fin 4) (hup : s.sys.garosUp k.val = true) (hmany : 3 ≤ (s.sys.link k.val).misses)
    (hnotice : s.sys.noticed k.val = false) : Completes (.marionetteMiss k) s fun t =>
      t.sys.rd (ent (0x4C08 + k.val) 1) = 3 ∧ (t.sys.link k.val).cond = true ∧ (t.sys.link k.val).downAt = some s.sys.up ∧
      t.otp = s.otp ∧ t.pending = s.pending := by
  have hruns := marionetteMiss_runs s k hup
  rw [Sys.noticed_beatMissed, hnotice, if_neg (by simp; omega)] at hruns
  have hopen : (s.sys.beatMissed k.val).rd (ent (0x4C08 + k.val) 1) = 2 := by
    rw [Sys.beatMissed, Sys.rd_setLink, Sys.inc_eq, Sys.rd_wr, if_neg (by unfold ent; omega)]
    exact (garosUp_iff ..).1 hup
  obtain ⟨hstate, hdown⟩ := (s.sys.beatMissed k.val).garosDown_spec k.val 1 k.isLt hopen
  obtain ⟨hlinks, hrd⟩ := ((s.sys.beatMissed k.val).garosDown k.val 1).linkCondition_spec k.val
  have hlink := (Sys.link_congr hlinks k.val).trans ((Sys.link_setLink ..).trans (if_pos rfl))
  refine ⟨_, hruns, ?_, ?_, ?_, rfl, rfl⟩
  · rw [hrd _ (by unfold ent; omega) (by unfold ent; omega), hstate]
  · rw [hlink]
  · rw [hlink]
    exact hdown

theorem partnerLinkDownTimeout_idle (s : State) (k : Fin 4) (h : s.sys.rd (ent (0x4C08 + k.val) 1) ≠ 3 ∨ s.sys.noticed k.val = true) :
    Runs (.partnerLinkDownTimeout k) s s.sys := by
  rw [Runs, exec_partnerLinkDownTimeout, execPartnerLinkDownTimeout, onSys_eq]
  exact congrArg (fun z : Sys => Host.Outcome.next { s with sys := z }) (if_pos h)

theorem partnerLinkDownTimeout_sets (s : State) (k : Fin 4) (hdown : s.sys.rd (ent (0x4C08 + k.val) 1) = 3) (hnotice : s.sys.noticed k.val = false) :
    Completes (.partnerLinkDownTimeout k) s fun t =>
    t.sys.link k.val = { s.sys.link k.val with cond := true } ∧ t.otp = s.otp ∧ t.pending = s.pending := by
  have hguard : ¬ (s.sys.rd (ent (0x4C08 + k.val) 1) ≠ 3 ∨ s.sys.noticed k.val = true) := by simp [hdown, hnotice]
  have hruns : Runs (.partnerLinkDownTimeout k) s (s.sys.linkCondition k.val) := by
    rw [Runs, exec_partnerLinkDownTimeout, execPartnerLinkDownTimeout, onSys_eq]
    exact congrArg (fun z : Sys => Host.Outcome.next { s with sys := z }) (if_neg hguard)
  refine ⟨_, hruns, ?_, rfl, rfl⟩
  exact (Sys.link_congr (s.sys.linkCondition_spec k.val).1 k.val).trans ((Sys.link_setLink ..).trans (if_pos rfl))

/-! ## Silence, loss and notices -/

theorem partnerHeartbeatSilent_noted (s : State) (h : s.sys.rd (ent 0x4C00 5) ≠ 0xFF) : Completes .partnerHeartbeatSilent s fun t =>
    t.sys.twin = { s.sys.twin with silent := true } ∧ Leaves [.twin] (only []) (only []) s t := by
  have hinput : s.sys.beatInput = true := bne_iff_ne.2 h
  have hruns : Runs .partnerHeartbeatSilent s (s.sys.onTwin fun t => { t with silent := true }) := by
    rw [Runs, exec_partnerHeartbeatSilent, execPartnerHeartbeatSilent, onSys_eq]
    exact congrArg (fun z : Sys => Host.Outcome.next { s with sys := z }) (if_pos hinput)
  exact ⟨_, hruns, rfl, rfl, rfl, .of_facets rfl rfl fun p hp => by cases p with | twin => simp at hp | _ => rfl⟩

theorem partnerHeartbeatSilent_idle (s : State) (h : s.sys.rd (ent 0x4C00 5) = 0xFF) : Runs .partnerHeartbeatSilent s s.sys := by
  have hinput : ¬ s.sys.beatInput = true := by simp [Sys.beatInput, h]
  rw [Runs, exec_partnerHeartbeatSilent, execPartnerHeartbeatSilent, onSys_eq]
  exact congrArg (fun z : Sys => Host.Outcome.next { s with sys := z }) (if_neg hinput)

theorem partnerLost_idle (s : State) (k : Fin 4) (h : s.sys.linkKind k.val = 0 ∨ s.sys.lostNow k.val = false) : Runs (.partnerLost k) s s.sys := by
  have hguard : s.sys.linkKind k.val = 0 ∨ (!s.sys.lostNow k.val) = true := h.imp_right fun hstands => by simp [hstands]
  rw [Runs, exec_partnerLost, execPartnerLost, onSys_eq]
  exact congrArg (fun z : Sys => Host.Outcome.next { s with sys := z }) (if_pos hguard)

theorem partnerLost_clears (s : State) (k : Fin 4) (hkind : s.sys.linkKind k.val ≠ 0) (hlost : s.sys.lostNow k.val = true) :
    Completes (.partnerLost k) s fun t =>
    (t.sys.link k.val).notice = false ∧ (t.sys.link k.val).cond = false ∧ t.otp = s.otp ∧ t.pending = s.pending := by
  have hguard : ¬ (s.sys.linkKind k.val = 0 ∨ (!s.sys.lostNow k.val) = true) := by simp [hkind, hlost]
  obtain ⟨y, hy⟩ : ∃ y, y = if s.sys.linkKind k.val = 2 then s.sys.twinLost else (s.sys.memberLost s.otp k.val).askAnswer k.val true := ⟨_, rfl⟩
  have hruns : Runs (.partnerLost k) s (y.setLink k.val { y.link k.val with notice := false, cond := false }) := by
    rw [Runs, exec_partnerLost, execPartnerLost, onSys_eq, hy]
    exact congrArg (fun z : Sys => Host.Outcome.next { s with sys := z }) (if_neg hguard)
  have hlink : (y.setLink k.val { y.link k.val with notice := false, cond := false }).link k.val = { y.link k.val with notice := false, cond := false } :=
    (Sys.link_setLink ..).trans (if_pos rfl)
  exact ⟨_, hruns, by rw [hlink], by rw [hlink], rfl, rfl⟩

theorem standbyNotice_noted (s : State) (k : Fin 4) (hup : s.sys.garosUp k.val = true) : Completes (.standbyNotice k) s fun t =>
    t.sys.link k.val = { s.sys.link k.val with notice := true } ∧ t.sys.twin = { s.sys.twin with exitAt := none } ∧
    Leaves [.links, .twin] (only []) (only []) s t := by
  have hguard : ¬ (!s.sys.garosUp k.val) = true := by simp [hup]
  have hruns : Runs (.standbyNotice k) s
      (Sys.onTwin (s.sys.setLink k.val { s.sys.link k.val with notice := true }) fun t => { t with exitAt := none }) := by
    rw [Runs, exec_standbyNotice, execStandbyNotice, onSys_eq]
    exact congrArg (fun z : Sys => Host.Outcome.next { s with sys := z }) (if_neg hguard)
  refine ⟨_, hruns, (Sys.link_setLink ..).trans (if_pos rfl), rfl, rfl, rfl, ?_⟩
  exact (sameBut_setLink k.val { s.sys.link k.val with notice := true } (by simp)).trans
    (.of_facets rfl rfl fun p hp => by cases p with | twin => simp at hp | _ => rfl)

/-- Settles O58. -/
theorem heartbeatsTellWhenAPartnerIsLost : Obligations.HeartbeatsTellWhenAPartnerIsLost := by
  unfold Obligations.HeartbeatsTellWhenAPartnerIsLost
  exact ⟨marionetteSend_sends, marionetteSend_down, marionetteReceive_ignored, marionetteReceive_noted, marionetteReceive_twin, marionetteMiss_counts,
    marionetteMiss_fourth, partnerLinkDownTimeout_idle, partnerLinkDownTimeout_sets, partnerHeartbeatSilent_noted, partnerHeartbeatSilent_idle,
    partnerLost_idle, partnerLost_clears, standbyNotice_noted⟩

end Sys2Proof.Machine
end

section
/-!
PROOFS. Which facets the operations of the model can change, from the callee to the caller: one lemma per operation, which peels it off a state.
-/

namespace Sys2Proof.Machine

variable {fs : List Facet} {x w : Sys}

theorem touches_portState (y : Sys) (n : Nat) (hs : ∀ p ∈ [Facet.ports], p ∈ fs) : Touches fs x (Sys.portState y n) ↔ Touches fs x y := by
  refine Touches.peel (gs := [Facet.ports]) ?_ hs
  unfold Sys.portState
  simp [↓touches_primitives, ↓touches_sets]

theorem touches_setPtpState_iff (y : Sys) (p : Nat) (st : PortState) (hs : ∀ p ∈ [Facet.log], p ∈ fs) : Touches fs x (Sys.setPtpState y p st) ↔ Touches fs x y :=
  Touches.peel (touches_setPtpState y p st (by simp)) hs

theorem touches_bmca_iff (y : Sys) (die : Nat) (hs : ∀ p ∈ [Facet.log, .mram, .time], p ∈ fs) : Touches fs x (Sys.bmca y die) ↔ Touches fs x y :=
  Touches.peel (touches_bmca y die) hs

theorem touches_ptpRestart (y : Sys) (die : Nat) (hs : ∀ p ∈ [Facet.log, .mram, .time, .ptp], p ∈ fs) : Touches fs x (Sys.ptpRestart y die) ↔ Touches fs x y := by
  refine Touches.peel (gs := [Facet.log, .mram, .time, .ptp]) ?_ hs
  unfold Sys.ptpRestart
  simp (maxDischargeDepth := 7) [↓touches_primitives, ↓touches_bmca_iff, ↓touches_setPtpState_iff, ↓touches_sets, ↓touches_foldl]

theorem touches_setTwinState (y : Sys) (n : Nat) : Touches fs x (Sys.setTwinState y n) ↔ Touches fs x y := by
  refine Touches.peel (gs := []) ?_ (by simp)
  unfold Sys.setTwinState
  simp [↓touches_primitives]

theorem touches_sourcesChanged (y : Sys)  (hs : ∀ p ∈ [Facet.log, .mram, .time], p ∈ fs) : Touches fs x (Sys.sourcesChanged y) ↔ Touches fs x y := by
  refine Touches.peel (gs := [Facet.log, .mram, .time]) ?_ hs
  unfold Sys.sourcesChanged
  simp [↓touches_primitives, ↓touches_disqualify, ↓touches_reselect]

theorem touches_felleySilent (y : Sys)  (hs : ∀ p ∈ [Facet.lanes], p ∈ fs) : Touches fs x (Sys.felleySilent y) ↔ Touches fs x y := by
  refine Touches.peel (gs := [Facet.lanes]) ?_ hs
  unfold Sys.felleySilent
  simp (maxDischargeDepth := 7) [↓touches_primitives, ↓touches_sets, ↓touches_foldl]

theorem touches_resyncStep (y : Sys) (n : Nat) (hs : ∀ p ∈ [Facet.log, .twin], p ∈ fs) : Touches fs x (Sys.resyncStep y n) ↔ Touches fs x y := by
  refine Touches.peel (gs := [Facet.log, .twin]) ?_ hs
  unfold Sys.resyncStep
  simp [↓touches_primitives, ↓touches_sets]

theorem touches_resyncStart (y : Sys) (o : Otp) (cause : Nat) (hs : ∀ p ∈ [Facet.tx, .log, .mram, .ports, .links, .lanes, .time, .ptp, .twin], p ∈ fs) : Touches fs x (Sys.resyncStart y o cause) ↔ Touches fs x y := by
  refine Touches.peel (gs := [Facet.tx, .log, .mram, .ports, .links, .lanes, .time, .ptp, .twin]) ?_ hs
  unfold Sys.resyncStart
  simp (maxDischargeDepth := 7) [↓touches_primitives, ↓touches_controlTwin, ↓touches_felleySilent, ↓touches_portState, ↓touches_ptpRestart, ↓touches_rearm, ↓touches_resyncStep, ↓touches_setTwinState, ↓touches_sourcesChanged, ↓touches_sets, ↓touches_foldl]

theorem touches_felleyTransmit (y : Sys)  (hs : ∀ p ∈ [Facet.tx, .log, .links, .lanes], p ∈ fs) : Touches fs x (Sys.felleyTransmit y) ↔ Touches fs x y := by
  refine Touches.peel (gs := [Facet.tx, .log, .links, .lanes]) ?_ hs
  unfold Sys.felleyTransmit
  repeat' split
  all_goals simp (maxDischargeDepth := 7) [↓touches_primitives, ↓touches_linkHello, ↓touches_sets, ↓touches_foldl]

theorem touches_becomePrimary (y : Sys)  (hs : ∀ p ∈ [Facet.log, .mram, .ctxs, .time, .twin], p ∈ fs) : Touches fs x (Sys.becomePrimary y) ↔ Touches fs x y := by
  refine Touches.peel (gs := [Facet.log, .mram, .ctxs, .time, .twin]) ?_ hs
  unfold Sys.becomePrimary
  dsimp only
  repeat' split
  all_goals simp (maxDischargeDepth := 7) [↓touches_primitives, ↓touches_reselect, ↓touches_setTwinState, ↓touches_showTime, ↓touches_sourceFault, ↓touches_sets, ↓touches_foldl]

end Sys2Proof.Machine
end

section
/-!
PROOFS. Which entries the operations of the model can write, from the callee to the caller: one lemma per operation, which peels it off a state.
-/

namespace Sys2Proof.Machine

variable {ps : List Spot} {x w : Sys}

theorem writes_portState (y : Sys) (n : Nat) (hs : ∀ p ∈ [Spot.above 0x3028 9], p ∈ ps) : Writes ps x (Sys.portState y n) ↔ Writes ps x y := by
  refine Writes.peel (qs := [Spot.above 0x3028 9]) ?_ hs
  unfold Sys.portState
  simp [↓writes_primitives, covered_above, ↓writes_sets]

theorem writes_setParent (y : Sys) (gm : Nat) (cls : Nat) (steps : Nat) (slave : Bool) (hs : ∀ p ∈ [Spot.at 0x2300 2, .at 0x2300 3, .at 0x2300 4, .at 0x2300 5, .at 0x2300 6, .at 0x2300 8, .at 0x2300 9, .at 0x2303 1, .at 0x2303 2, .at 0x2303 3, .at 0x2303 4], p ∈ ps) : Writes ps x (Sys.setParent y gm cls steps slave) ↔ Writes ps x y := by
  refine Writes.peel (qs := [Spot.at 0x2300 2, .at 0x2300 3, .at 0x2300 4, .at 0x2300 5, .at 0x2300 6, .at 0x2300 8, .at 0x2300 9, .at 0x2303 1, .at 0x2303 2, .at 0x2303 3, .at 0x2303 4]) ?_ hs
  unfold Sys.setParent
  simp [↓writes_primitives, covered_at, ↓writes_sourceFault]

theorem writes_setPtpState (y : Sys) (p : Nat) (st : PortState) (hs : ∀ p ∈ [Spot.at 0x2303 7], p ∈ ps) : Writes ps x (Sys.setPtpState y p st) ↔ Writes ps x y := by
  refine Writes.peel (qs := [Spot.at 0x2303 7]) ?_ hs
  unfold Sys.setPtpState
  simp [↓writes_primitives, covered_at]

theorem writes_bmca (y : Sys) (die : Nat) (hs : ∀ p ∈ [Spot.at 0x2300 2, .at 0x2300 3, .at 0x2300 4, .at 0x2300 5, .at 0x2300 6, .at 0x2300 8, .at 0x2300 9, .at 0x2303 1, .at 0x2303 2, .at 0x2303 3, .at 0x2303 4, .at 0x2303 7], p ∈ ps) : Writes ps x (Sys.bmca y die) ↔ Writes ps x y := by
  refine Writes.peel (qs := [Spot.at 0x2300 2, .at 0x2300 3, .at 0x2300 4, .at 0x2300 5, .at 0x2300 6, .at 0x2300 8, .at 0x2300 9, .at 0x2303 1, .at 0x2303 2, .at 0x2303 3, .at 0x2303 4, .at 0x2303 7]) ?_ hs
  unfold Sys.bmca
  extract_lets own best z
  have hports : Writes [Spot.at 0x2300 2, .at 0x2300 3, .at 0x2300 4, .at 0x2300 5, .at 0x2300 6, .at 0x2300 8, .at 0x2300 9, .at 0x2303 1, .at 0x2303 2, .at 0x2303 3, .at 0x2303 4, .at 0x2303 7] y z := by
    refine (writes_foldl _ _ fun v p _ => ?_).2 (.refl y)
    clear_value own best
    dsimp only
    repeat' split
    all_goals simp [↓writes_setParent, ↓writes_setPtpState]
  split
  · exact (writes_setParent _ _ _ _ _ (by simp)).2 hports
  · exact hports

theorem writes_ptpRestart (y : Sys) (die : Nat) (hs : ∀ p ∈ [Spot.at 0x2300 2, .at 0x2300 3, .at 0x2300 4, .at 0x2300 5, .at 0x2300 6, .at 0x2300 8, .at 0x2300 9, .at 0x2303 1, .at 0x2303 2, .at 0x2303 3, .at 0x2303 4, .at 0x2303 7], p ∈ ps) : Writes ps x (Sys.ptpRestart y die) ↔ Writes ps x y := by
  refine Writes.peel (qs := [Spot.at 0x2300 2, .at 0x2300 3, .at 0x2300 4, .at 0x2300 5, .at 0x2300 6, .at 0x2300 8, .at 0x2300 9, .at 0x2303 1, .at 0x2303 2, .at 0x2303 3, .at 0x2303 4, .at 0x2303 7]) ?_ hs
  unfold Sys.ptpRestart
  simp (maxDischargeDepth := 7) [↓writes_primitives, ↓writes_bmca, ↓writes_setPtpState, ↓writes_sets, ↓writes_foldl]

theorem writes_sourcesChanged (y : Sys)  (hs : ∀ p ∈ [Spot.at 0x2300 2, .at 0x2300 3, .at 0x2300 4, .at 0x2300 5, .at 0x2300 6, .at 0x2300 8, .at 0x2300 9, .at 0x2303 1, .at 0x2303 2], p ∈ ps) : Writes ps x (Sys.sourcesChanged y) ↔ Writes ps x y := by
  refine Writes.peel (qs := [Spot.at 0x2300 2, .at 0x2300 3, .at 0x2300 4, .at 0x2300 5, .at 0x2300 6, .at 0x2300 8, .at 0x2300 9, .at 0x2303 1, .at 0x2303 2]) ?_ hs
  unfold Sys.sourcesChanged
  simp [↓writes_primitives, ↓writes_disqualify, ↓writes_reselect]

theorem writes_felleySilent (y : Sys)  : Writes ps x (Sys.felleySilent y) ↔ Writes ps x y := by
  refine Writes.peel (qs := []) ?_ (by simp)
  unfold Sys.felleySilent
  simp (maxDischargeDepth := 7) [↓writes_primitives, ↓writes_sets, ↓writes_foldl]

theorem writes_resyncStep (y : Sys) (n : Nat) : Writes ps x (Sys.resyncStep y n) ↔ Writes ps x y := by
  refine Writes.peel (qs := []) ?_ (by simp)
  unfold Sys.resyncStep
  simp [↓writes_primitives, ↓writes_sets]

theorem writes_felleyTransmit (y : Sys)  : Writes ps x (Sys.felleyTransmit y) ↔ Writes ps x y := by
  refine Writes.peel (qs := []) ?_ (by simp)
  unfold Sys.felleyTransmit
  repeat' split
  all_goals simp (maxDischargeDepth := 7) [↓writes_primitives, ↓writes_linkHello, ↓writes_sets, ↓writes_foldl]

theorem writes_tellMember (y : Sys) (k : Nat) : Writes ps x (Sys.tellMember y k) ↔ Writes ps x y := by
  refine Writes.peel (qs := []) ?_ (by simp)
  unfold Sys.tellMember
  simp [↓writes_control]

end Sys2Proof.Machine
end

section
/-!
PROOFS. The roles of twins and arrays (O59).
-/

namespace Sys2Proof.Machine

variable {fs : List Facet} {nums blobs : Nat → Prop} {y z : Sys} {s : State} {w : Writer}

/-! ## The takeover instant -/

theorem takeoverInstant_idle (s : State) (h : s.sys.twin.taking = none) : Runs .takeoverInstant s s.sys := by
  rw [Runs, exec_takeoverInstant, execTakeoverInstant, onSys_eq]
  simp [h]

theorem sameBut_portStates (y : Sys) :
    SameBut [.ports] (only ((List.range 8).map fun n => ent (0x3028 + n) 9)) (only []) y ((List.range 8).foldl (fun (y : Sys) (n : Nat) => y.portState n) y) :=
  SameBut.foldl _ _ (fun z n hn => sameBut_portState z n (by simp) (List.mem_map.2 ⟨n, hn, rfl⟩)) y

/-- Recordings that a takeover does not start. -/
def Sys.recordsTried (y : Sys) : Sys :=
  if y.rd (ent 0x4C00 7) = 1 then y
  else (List.range 16).foldl (fun (y : Sys) (x : Nat) => if (y.recording x).slot.isNone then y.setRec x { y.recording x with tried := true } else y) y

theorem sameBut_recordsTried (y : Sys) : SameBut [.media] (only []) (only []) y y.recordsTried := by
  unfold Sys.recordsTried
  split
  · exact .refl y
  · refine SameBut.foldl _ _ (fun z x _ => ?_) y
    split
    · exact .of_facets rfl rfl fun p hp => by cases p with | media => simp at hp | _ => rfl
    · exact .refl z

/-- The takeover's own entries, before the ports show it. -/
def Sys.takeoverShown (y : Sys) : Sys :=
  let y := Sys.felleyTransmit (y.onTwin fun t => { t with taking := none, open_ := [] })
  let y := (y.inc (ent 0x4C01 8)).wr (ent 0x4C01 9) y.t96
  (List.range 8).foldl (fun (y : Sys) (x : Nat) => y.setCtx x { y.ctx x with fullList := true }) y

theorem Sys.takeoverShown_spec (y : Sys) : y.takeoverShown.twin = { y.twin with taking := none, open_ := [] } ∧
    y.takeoverShown.rd (ent 0x4C01 8) = (y.rd (ent 0x4C01 8) + 1) % 2 ^ 32 ∧ y.takeoverShown.rd (ent 0x4C01 9) = y.t96 := by
  unfold Sys.takeoverShown
  extract_lets a b
  have ha : Touches [.tx, .log, .links, .lanes] (y.onTwin fun t => { t with taking := none, open_ := [] }) a :=
    (touches_felleyTransmit _ (fun _ h => h)).2 (.refl _)
  have hrd : ∀ k, a.rd k = y.rd k := fun k => ((writes_felleyTransmit (ps := []) _).2 (.refl _)).rd_eq (by simp)
  have ht : a.t96 = y.t96 := (ha.facet .t96 (by simp) (by simp)).symm
  have hb : SameBut [.ctxs] (only []) (only []) b ((List.range 8).foldl (fun (y : Sys) (x : Nat) => y.setCtx x { y.ctx x with fullList := true }) b) :=
    SameBut.foldl _ _ (fun z x _ => sameBut_setCtx _ _ (by simp)) b
  refine ⟨?_, ?_, ?_⟩
  · exact (hb.1 .twin (by simp)).symm.trans (ha.facet .twin (by simp) (by simp)).symm
  · refine (hb.2.1 _ (by simp)).trans ((Sys.rd_wr ..).trans ((if_neg (by unfold ent; omega)).trans ?_))
    rw [Sys.inc_eq, Sys.rd_wr, if_pos rfl, hrd]
  · exact (hb.2.1 _ (by simp)).trans ((Sys.rd_wr ..).trans ((if_pos rfl).trans ht))

theorem Sys.takeoverInstant_eq (o : Otp) (y : Sys) :
    y.takeoverInstant o = Sys.ptpRestart ((List.range 8).foldl (fun (y : Sys) (n : Nat) => y.portState n) y.takeoverShown.recordsTried) o.dieId := rfl

theorem takeoverInstant_takes (s : State) (h : s.sys.twin.taking ≠ none) : Completes .takeoverInstant s fun t =>
    t.sys.twin.taking = none ∧ t.sys.twin.open_ = [] ∧ t.sys.rd (ent 0x4C01 8) = (s.sys.rd (ent 0x4C01 8) + 1) % 2 ^ 32 ∧
    t.sys.rd (ent 0x4C01 9) = s.sys.t96 ∧ t.otp = s.otp ∧ t.pending = s.pending := by
  have hsome : s.sys.twin.taking.isSome = true := Option.isSome_iff_ne_none.2 h
  have hruns : Runs .takeoverInstant s (s.sys.takeoverInstant s.otp) := by
    rw [Runs, exec_takeoverInstant, execTakeoverInstant, onSys_eq]
    exact congrArg (fun z : Sys => Host.Outcome.next { s with sys := z }) (if_pos hsome)
  obtain ⟨htwin, hcount, htime⟩ := s.sys.takeoverShown_spec
  obtain ⟨a, ha⟩ : ∃ a, a = (List.range 8).foldl (fun (y : Sys) (n : Nat) => y.portState n) s.sys.takeoverShown.recordsTried := ⟨_, rfl⟩
  have hs : SameBut [.media, .ports] (only ((List.range 8).map fun n => ent (0x3028 + n) 9)) (only []) s.sys.takeoverShown a := by
    rw [ha]
    exact ((sameBut_recordsTried _).mono (by simp) (fun _ h => by simp at h) (fun _ h => h)).trans
      ((sameBut_portStates _).mono (by simp) (fun _ h => h) (fun _ h => h))
  have hrd : ∀ i, i = 8 ∨ i = 9 → (a.ptpRestart s.otp.dieId).rd (ent 0x4C01 i) = s.sys.takeoverShown.rd (ent 0x4C01 i) := fun i hi => by
    refine Eq.trans (((writes_ptpRestart a s.otp.dieId (fun _ h => h)).2 (.refl a)).rd_eq (by simp [Spot.hits, ent]; omega)) (hs.2.1 _ ?_)
    simp only [only, List.mem_map, List.mem_range, ent]
    rintro ⟨n, hn, he⟩
    omega
  have htwins : (a.ptpRestart s.otp.dieId).twin = s.sys.takeoverShown.twin :=
    (((touches_ptpRestart a s.otp.dieId (fun _ h => h)).2 (.refl a)).facet .twin (by simp) (by simp)).symm.trans (hs.1 .twin (by simp)).symm
  rw [Sys.takeoverInstant_eq, ← ha] at hruns
  refine ⟨_, hruns, ?_, ?_, ?_, ?_, rfl, rfl⟩
  · rw [htwins, htwin]
  · rw [htwins, htwin]
  · rw [hrd 8 (.inl rfl), hcount]
  · rw [hrd 9 (.inr rfl), htime]

/-! ## Takeover and resynchronisation by command -/

theorem acting_twin (o : Otp) (y : Sys) (w : Writer) (v : Bytes) :
    acting o y w (ent 0x4C00 8) v = some (if unLe v = 1 then plainR y.twinTakeover else plainR (y.twinResync o)) := by
  rw [acting_store (by decide) (by decide)]
  rfl

theorem isRwc_twin : isRwc (ent 0x4C00 8) = false := by decide +kernel

theorem plainKey_twin : plainKey (ent 0x4C00 8) := .inr (.inr (.inr (.inr (.inr (.inr (.inl (by decide)))))))

theorem acting_twinTakeover (s : State) (w : Writer) : acting s.otp s.sys w (ent 0x4C00 8) (le 2 1) = some (plainR s.sys.twinTakeover) :=
  (acting_twin ..).trans (by rw [unLe_le]; rfl)

theorem acting_twinResync (s : State) (w : Writer) : acting s.otp s.sys w (ent 0x4C00 8) (le 2 2) = some (plainR (s.sys.twinResync s.otp)) :=
  (acting_twin ..).trans (by rw [unLe_le]; rfl)

theorem twinTakeover_refused (s : State) (w : Writer) (h : s.sys.rd (ent 0x4C01 3) ≠ 5) : ¬ Granted s w (ent 0x4C00 8) (le 2 1) := by
  intro hg
  have hq : s.sys.twinTakeover = (.state, s.sys) := if_pos h
  have hok := acts_of_admitted hg.1 isRwc_twin (acting_twinTakeover s w) (by rw [hq]; exact nofun)
  rw [hq] at hok
  exact absurd hok nofun

theorem twinResync_refused (s : State) (w : Writer) (h : s.sys.rd (ent 0x4C01 2) ≠ 2) : ¬ Granted s w (ent 0x4C00 8) (le 2 2) := by
  intro hg
  have hq : s.sys.twinResync s.otp = (.state, s.sys) := if_pos h
  have hok := acts_of_admitted hg.1 isRwc_twin (acting_twinResync s w) (by rw [hq]; exact nofun)
  rw [hq] at hok
  exact absurd hok nofun

theorem Touches.saving (h : Touches fs y z) (hd : .den ∉ fs) : z.den.saving = y.den.saving := congrArg Denval.saving (h.facet .den hd (by simp)).symm

theorem Sys.becomePrimary_spec (y : Sys) : y.becomePrimary.rd (ent 0x4C01 2) = 1 ∧ y.becomePrimary.rd (ent 0x4C01 3) = 1 ∧
    y.becomePrimary.twin.taking = some y.up := by
  unfold Sys.becomePrimary
  extract_lets heard a b c d
  have hb : ∀ k, b.rd k = if k = ent 0x4C01 4 then 0 else if k = ent 0x4C01 3 then 1 else if k = ent 0x4C01 2 then 1 else a.rd k := fun k => by
    simp only [b, Sys.rd_wr, Sys.setTwinState]
  have ha : Touches [.log, .mram, .time] y a := (touches_sourceFault y 5 0 (fun _ h => h)).2 (.refl y)
  have hd : SameBut [.ctxs] (only []) (only []) c d := SameBut.foldl _ _ (fun z x _ => sameBut_setCtx _ _ (by simp)) c
  have hend : Writes [.at 0x2300 2, .at 0x2300 3, .at 0x2300 4, .at 0x2300 5, .at 0x2300 6, .at 0x2300 8, .at 0x2300 9, .at 0x2303 1, .at 0x2303 2] d
      d.reselect.showTime := by simp [↓writes_showTime, ↓writes_reselect]
  have hkeep : Touches [.log, .mram, .time] d d.reselect.showTime := by simp [↓touches_showTime, ↓touches_reselect]
  have hrd : ∀ i, i = 2 ∨ i = 3 → d.reselect.showTime.rd (ent 0x4C01 i) = b.rd (ent 0x4C01 i) := fun i hi =>
    (hend.rd_eq (by simp [Spot.hits, ent]; omega)).trans (hd.2.1 _ (by simp))
  refine ⟨?_, ?_, ?_⟩
  · rw [hrd 2 (.inl rfl), hb]
    simp [ent]
  · rw [hrd 3 (.inr rfl), hb]
    simp [ent]
  · rw [← hkeep.facet .twin (by simp) (by simp), ← hd.1 .twin (by simp)]
    exact congrArg some (ha.facet .up (by simp) (by simp)).symm

theorem twinTakeover_takes (s : State) (w : Writer) (hg : Granted s w (ent 0x4C00 8) (le 2 1)) : Completes (.twinTakeover w) s fun t =>
    t.sys.rd (ent 0x4C01 2) = 1 ∧ t.sys.rd (ent 0x4C01 3) = 1 ∧ t.sys.twin.taking = some s.sys.up ∧ t.otp = s.otp ∧ t.pending = s.pending := by
  obtain ⟨u, hu⟩ : ∃ u, u = s.sys.becomePrimary.lostEvent 1 false := ⟨_, rfl⟩
  have htouch : Touches [.log, .mram, .ctxs, .time, .twin] s.sys u := by
    rw [hu]
    simp [Sys.lostEvent, ↓touches_primitives, ↓touches_becomePrimary]
  obtain ⟨hq, t, hexec, hfollow, hotp, hpending⟩ := acting_does (c := .twinTakeover w) rfl hg.1 isRwc_twin plainKey_twin (by unfold ent; omega)
    (acting_twinTakeover s w) (p := s.sys.twinTakeover.2 = u) fun h => by
      unfold Sys.twinTakeover at h ⊢
      split at h
      · simp [plainR] at h
      next horphan =>
        rw [if_neg horphan, ← hu]
        exact ⟨rfl, htouch.due (by simp), htouch.saving (by simp), rfl⟩
  obtain ⟨hrole, hstate, htaking⟩ := s.sys.becomePrimary_spec
  have hrd : ∀ i, i = 2 ∨ i = 3 → t.sys.rd (ent 0x4C01 i) = s.sys.becomePrimary.rd (ent 0x4C01 i) := fun i hi => by
    refine (hfollow.rd_eq (by simp [followNums, ent]; omega)).trans ?_
    change s.sys.twinTakeover.2.rd _ = _
    rw [hq, hu]
    exact Sys.rd_raise ..
  refine ⟨t, hexec, (hrd 2 (.inl rfl)).trans hrole, (hrd 3 (.inr rfl)).trans hstate, ?_, hotp, hpending⟩
  rw [hfollow.taking]
  change s.sys.twinTakeover.2.twin.taking = _
  rw [hq, hu, ← htaking]
  exact congrArg Twin.taking (Sys.raise_twin ..)

theorem Sys.resyncStart_spec (y : Sys) (o : Otp) (cause : Nat) : (y.resyncStart o cause).rd (ent 0x4C01 2) = 2 ∧
    (y.resyncStart o cause).rd (ent 0x4C01 3) = 3 ∧ (y.resyncStart o cause).twin.step = 1 ∧ (y.resyncStart o cause).twin.cause = cause := by
  unfold Sys.resyncStart
  extract_lets a b c
  have ha : ∀ k, a.rd k = if k = ent 0x4C01 3 then 3 else if k = ent 0x4C01 2 then 2 else y.rd k := fun k => by
    refine ((writes_felleySilent (ps := []) _).2 (.refl _)).rd_eq (by simp) |>.trans ?_
    simp only [Sys.rd_wr, Sys.setTwinState]
  have hc : SameBut [.ports] (only ((List.range 8).map fun n => ent (0x3028 + n) 9)) (only []) b c := sameBut_portStates b
  have hend : Writes [.at 0x2300 2, .at 0x2300 3, .at 0x2300 4, .at 0x2300 5, .at 0x2300 6, .at 0x2300 8, .at 0x2300 9, .at 0x2303 1, .at 0x2303 2,
      .at 0x2303 3, .at 0x2303 4, .at 0x2303 7, .at 0x4C01 4] (c.resyncStep 1)
      (((c.resyncStep 1).ptpRestart o.dieId).sourcesChanged.controlTwin .resync [1]).rearm := by
    simp [↓writes_rearm, ↓writes_controlTwin, ↓writes_sourcesChanged, ↓writes_ptpRestart]
  have hkeep : Touches [.tx, .log, .mram, .links, .time, .ptp] (c.resyncStep 1)
      (((c.resyncStep 1).ptpRestart o.dieId).sourcesChanged.controlTwin .resync [1]).rearm := by
    simp [↓touches_rearm, ↓touches_controlTwin, ↓touches_sourcesChanged, ↓touches_ptpRestart]
  have hrd : ∀ i, i = 2 ∨ i = 3 → (((c.resyncStep 1).ptpRestart o.dieId).sourcesChanged.controlTwin .resync [1]).rearm.rd (ent 0x4C01 i) =
      a.rd (ent 0x4C01 i) := fun i hi => by
    have hstep : ∀ k, (c.resyncStep 1).rd k = c.rd k := fun k => ((writes_resyncStep (ps := []) c 1).2 (.refl c)).rd_eq (by simp)
    have hb : ∀ k, b.rd k = a.rd k := fun k => Sys.rd_onTwin a _ k
    rw [hend.rd_eq (by simp [Spot.hits, ent]; omega), hstep, ← hb]
    refine hc.2.1 _ ?_
    simp only [only, List.mem_map, List.mem_range, ent]
    rintro ⟨n, hn, he⟩
    omega
  have htwin : (((c.resyncStep 1).ptpRestart o.dieId).sourcesChanged.controlTwin .resync [1]).rearm.twin = { b.twin with step := 1 } := by
    refine (hkeep.facet .twin (by simp) (by simp)).symm.trans ((Sys.raise_twin ..).trans ?_)
    exact congrArg (fun t : Twin => { t with step := 1 }) (hc.1 .twin (by simp)).symm
  refine ⟨?_, ?_, ?_, ?_⟩
  · rw [hrd 2 (.inl rfl), ha]
    simp [ent]
  · rw [hrd 3 (.inr rfl), ha]
    simp [ent]
  · rw [htwin]
  · exact (congrArg Twin.cause htwin).trans rfl

theorem twinResync_starts (s : State) (w : Writer) (hg : Granted s w (ent 0x4C00 8) (le 2 2)) : Completes (.twinResync w) s fun t =>
    t.sys.rd (ent 0x4C01 2) = 2 ∧ t.sys.rd (ent 0x4C01 3) = 3 ∧ t.sys.twin.step = 1 ∧ t.sys.twin.cause = 0 ∧ t.otp = s.otp ∧ t.pending = s.pending := by
  obtain ⟨u, hu⟩ : ∃ u, u = s.sys.resyncStart s.otp 0 := ⟨_, rfl⟩
  have htouch : Touches [.tx, .log, .mram, .ports, .links, .lanes, .time, .ptp, .twin] s.sys u := by
    rw [hu]
    simp [↓touches_resyncStart]
  obtain ⟨hq, t, hexec, hfollow, hotp, hpending⟩ := acting_does (c := .twinResync w) rfl hg.1 isRwc_twin plainKey_twin (by unfold ent; omega)
    (acting_twinResync s w) (p := (s.sys.twinResync s.otp).2 = u) fun h => by
      unfold Sys.twinResync at h ⊢
      split at h
      · simp [plainR] at h
      next hshadow =>
        rw [if_neg hshadow, ← hu]
        exact ⟨rfl, htouch.due (by simp), htouch.saving (by simp), rfl⟩
  obtain ⟨hrole, hstate, hstep, hcause⟩ := s.sys.resyncStart_spec s.otp 0
  have hrd : ∀ i, i = 2 ∨ i = 3 → t.sys.rd (ent 0x4C01 i) = u.rd (ent 0x4C01 i) := fun i hi => by
    refine (hfollow.rd_eq (by simp [followNums, ent]; omega)).trans ?_
    change (s.sys.twinResync s.otp).2.rd _ = _
    rw [hq]
  rw [← hu] at hrole hstate hstep hcause
  have htwin : (s.sys.twinResync s.otp).2.twin = u.twin := by rw [hq]
  exact ⟨t, hexec, (hrd 2 (.inl rfl)).trans hrole, (hrd 3 (.inr rfl)).trans hstate, hfollow.step.trans ((congrArg Twin.step htwin).trans hstep),
    hfollow.cause.trans ((congrArg Twin.cause htwin).trans hcause), hotp, hpending⟩

/-! ## Mirrored units -/

/-- The unit that PRIMARY sends, with the members that a twin mirrors. -/
def mirroredUnitOf (b : Bytes) : CommitUnit := { unitIn b 2 with members := (unitIn b 2).members.filter fun m => mirrored m.1 }

/-- MIRRORED_UNIT on SHADOW: where the unit waits. -/
def Sys.mirrorTaken (o : Otp) (y : Sys) (number live : Nat) (u : CommitUnit) : Sys :=
  match y.unitHome u with
  | .context x => (y.mirrorLatched o u x live).mirrorAnswer number .ok
  | .output c => (y.stage { u with scope := .output c }).mirrorAnswer number .ok
  | .lockGroup l => (y.stage { u with scope := .lockGroup l }).mirrorAnswer number .ok
  | _ => y.onDen fun d => { d with units := d.units ++ [{ u with mirror := some number }] }

theorem mirroredUnit_idle (s : State) (n l : BitVec 32) (u : Bytes) (h : s.sys.rd (ent 0x4C01 2) ≠ 2) : exec (.mirroredUnit n l u) s = .next s := by
  rw [exec_mirroredUnit, execMirroredUnit, onSys_eq]
  exact congrArg (fun z : Sys => Host.Outcome.next { s with sys := z }) (if_pos (Or.inl h))

theorem mirroredUnit_runs (s : State) (n l : BitVec 32) (u : Bytes) (hrole : s.sys.rd (ent 0x4C01 2) = 2)
    (hstate : s.sys.rd (ent 0x4C01 3) = 2 ∨ s.sys.rd (ent 0x4C01 3) = 3) :
    Runs (.mirroredUnit n l u) s (s.sys.mirrorTaken s.otp n.toNat l.toNat (mirroredUnitOf u)) := by
  have hguard : ¬ (s.sys.twinRole ≠ 2 ∨ (s.sys.twinState ≠ 2 ∧ s.sys.twinState ≠ 3)) := by
    simp only [Sys.twinRole, Sys.twinState]
    omega
  rw [Runs, exec_mirroredUnit, execMirroredUnit, onSys_eq]
  refine congrArg (fun z : Sys => Host.Outcome.next { s with sys := z }) ((if_neg hguard).trans ?_)
  unfold Sys.mirrorTaken mirroredUnitOf
  rfl

theorem Sys.mirrorAnswer_applied (y : Sys) {n : Nat} (hn : n ≠ 0) (st : Status) : (y.mirrorAnswer n st).twin.applied = n := by
  unfold Sys.mirrorAnswer
  rw [if_neg hn]
  have hkeep : Touches [.tx, .log, .links] (y.onTwin fun t => { t with applied := n })
      ((y.onTwin fun t => { t with applied := n }).controlTwin .mirrorAck (le 4 n ++ le 1 st.code)).rearm := by
    simp [↓touches_rearm, ↓touches_controlTwin]
  rw [← hkeep.facet .twin (by simp) (by simp)]
  rfl

theorem mirroredUnit_latched (s : State) (n l : BitVec 32) (u : Bytes) (x : Nat) (hrole : s.sys.rd (ent 0x4C01 2) = 2)
    (hstate : s.sys.rd (ent 0x4C01 3) = 2 ∨ s.sys.rd (ent 0x4C01 3) = 3) :
    let q := unitIn u 2
    let v := { q with members := q.members.filter fun m => mirrored m.1 }
    s.sys.unitHome v = .context x → n ≠ 0 → Completes (.mirroredUnit n l u) s fun t =>
      t.sys.twin.applied = n.toNat ∧ t.otp = s.otp ∧ t.pending = s.pending := by
  intro q v hhome hn
  have hruns := mirroredUnit_runs s n l u hrole hstate
  have hn' : n.toNat ≠ 0 := fun h => hn (BitVec.eq_of_toNat_eq h)
  refine ⟨_, hruns, ?_, rfl, rfl⟩
  change (s.sys.mirrorTaken s.otp n.toNat l.toNat v).twin.applied = _
  simp only [Sys.mirrorTaken, hhome]
  exact Sys.mirrorAnswer_applied _ hn' _

theorem mirroredUnit_commits (s : State) (n l : BitVec 32) (u : Bytes) (hrole : s.sys.rd (ent 0x4C01 2) = 2)
    (hstate : s.sys.rd (ent 0x4C01 3) = 2 ∨ s.sys.rd (ent 0x4C01 3) = 3) :
    let q := unitIn u 2
    let v := { q with members := q.members.filter fun m => mirrored m.1 }
    s.sys.unitHome v = .immediate → Completes (.mirroredUnit n l u) s fun t =>
      t.sys.den = { s.sys.den with units := s.sys.den.units ++ [{ v with mirror := some n.toNat }] } ∧ Leaves [.den] (only []) (only []) s t := by
  intro q v hhome
  have hruns := mirroredUnit_runs s n l u hrole hstate
  have htaken : s.sys.mirrorTaken s.otp n.toNat l.toNat (mirroredUnitOf u) =
      s.sys.onDen fun d => { d with units := d.units ++ [{ v with mirror := some n.toNat }] } := by
    change s.sys.mirrorTaken s.otp n.toNat l.toNat v = _
    simp only [Sys.mirrorTaken, hhome]
  rw [htaken] at hruns
  exact ⟨_, hruns, rfl, rfl, rfl, .of_facets rfl rfl fun p hp => by cases p with | den => simp at hp | _ => rfl⟩

theorem mirroredUnit_output (s : State) (n l : BitVec 32) (u : Bytes) (c : Nat) (hrole : s.sys.rd (ent 0x4C01 2) = 2)
    (hstate : s.sys.rd (ent 0x4C01 3) = 2 ∨ s.sys.rd (ent 0x4C01 3) = 3) :
    let q := unitIn u 2
    let v := { q with members := q.members.filter fun m => mirrored m.1 }
    s.sys.unitHome v = .output c →
      Runs (.mirroredUnit n l u) s ((s.sys.stage { v with scope := .output c }).mirrorAnswer n.toNat .ok) := by
  intro q v hhome
  have htaken : s.sys.mirrorTaken s.otp n.toNat l.toNat (mirroredUnitOf u) = (s.sys.stage { v with scope := .output c }).mirrorAnswer n.toNat .ok := by
    change s.sys.mirrorTaken s.otp n.toNat l.toNat v = _
    simp only [Sys.mirrorTaken, hhome]
  exact htaken ▸ mirroredUnit_runs s n l u hrole hstate

theorem mirroredUnit_lockGroup (s : State) (n l : BitVec 32) (u : Bytes) (c : Nat) (hrole : s.sys.rd (ent 0x4C01 2) = 2)
    (hstate : s.sys.rd (ent 0x4C01 3) = 2 ∨ s.sys.rd (ent 0x4C01 3) = 3) :
    let q := unitIn u 2
    let v := { q with members := q.members.filter fun m => mirrored m.1 }
    s.sys.unitHome v = .lockGroup c →
      Runs (.mirroredUnit n l u) s ((s.sys.stage { v with scope := .lockGroup c }).mirrorAnswer n.toNat .ok) := by
  intro q v hhome
  have htaken : s.sys.mirrorTaken s.otp n.toNat l.toNat (mirroredUnitOf u) = (s.sys.stage { v with scope := .lockGroup c }).mirrorAnswer n.toNat .ok := by
    change s.sys.mirrorTaken s.otp n.toNat l.toNat v = _
    simp only [Sys.mirrorTaken, hhome]
  exact htaken ▸ mirroredUnit_runs s n l u hrole hstate

theorem generationClose_closes (s : State) (x : Fin 16) (n : BitVec 32) : Completes (.generationClose x n) s fun t =>
    t.sys.twin = { s.sys.twin with open_ := s.sys.twin.open_.filter fun p => p != (x.val, n.toNat) } ∧ Leaves [.twin] (only []) (only []) s t := by
  rw [Completes, exec_generationClose, execGenerationClose, onSys_eq]
  exact ⟨_, rfl, rfl, rfl, rfl, .of_facets rfl rfl fun p hp => by cases p with | twin => simp at hp | _ => rfl⟩

/-! ## Formation -/

theorem arrayFormationTimeout_idle (s : State) (h : s.sys.rd (ent 0x4C01 1) ≠ 1) : Runs .arrayFormationTimeout s s.sys := by
  rw [Runs, exec_arrayFormationTimeout, execArrayFormationTimeout, onSys_eq]
  exact congrArg (fun z : Sys => Host.Outcome.next { s with sys := z }) (if_pos h)

/-- The head tells every member of its array what it has. -/
def Sys.tellMembers (y : Sys) : Sys :=
  if y.arrayHead then (List.range 4).foldl (fun y m => if y.garosUp m && y.linkKind m != 2 then y.tellMember m else y) y else y

theorem writes_tellMembers (y : Sys) : Writes [] y y.tellMembers := by
  unfold Sys.tellMembers
  split
  · refine (writes_foldl _ _ fun z m _ => ?_).2 (.refl y)
    split
    · exact (writes_tellMember z m).2 (.refl z)
    · exact .refl z
  · exact .refl y

theorem Sys.rd_actingHead (y : Sys) (o : Otp) (p : Nat) : (y.actingHead o p).rd (ent 0x4C01 6) = p ∧ (y.actingHead o p).rd (ent 0x4C01 1) = y.rd (ent 0x4C01 1) := by
  unfold Sys.actingHead
  split
  next h => exact ⟨h, rfl⟩
  · obtain ⟨a, ha⟩ : ∃ a, a = (y.wr (ent 0x4C01 6) p).raise 0x1410 255 (ev [(0, 1, p)]) := ⟨_, rfl⟩
    have hend : Writes [.at 0x2300 2, .at 0x2300 3, .at 0x2300 4, .at 0x2300 5, .at 0x2300 6, .at 0x2300 8, .at 0x2300 9, .at 0x2303 1, .at 0x2303 2,
        .at 0x2303 3, .at 0x2303 4, .at 0x2303 7] a (a.ptpRestart o.dieId).sourcesChanged := by
      simp [↓writes_sourcesChanged, ↓writes_ptpRestart]
    rw [← ha]
    refine ⟨(hend.rd_eq (by simp [Spot.hits, ent])).trans ?_, (hend.rd_eq (by simp [Spot.hits, ent])).trans ?_⟩
    · rw [ha, Sys.rd_raise, Sys.rd_wr, if_pos rfl]
    · rw [ha, Sys.rd_raise, Sys.rd_wr, if_neg (by decide)]

theorem arrayFormationTimeout_degrades (s : State) (h : s.sys.rd (ent 0x4C01 1) = 1) : Completes .arrayFormationTimeout s fun t =>
    t.sys.rd (ent 0x4C01 1) = 3 ∧ t.sys.rd (ent 0x4C01 6) = ((List.range 4).find? s.sys.present).getD s.sys.arrayPos ∧
    t.otp = s.otp ∧ t.pending = s.pending := by
  obtain ⟨a, ha⟩ : ∃ a, a = s.sys.arrayTo 3 := ⟨_, rfl⟩
  have hrd : ∀ k, a.rd k = if k = ent 0x4C01 1 then 3 else s.sys.rd k := fun k => by
    rw [ha, Sys.arrayTo, if_neg (by omega), Sys.rd_raise, Sys.rd_wr]
  have hpresent : a.present = s.sys.present := by
    funext p
    simp only [Sys.present, Sys.rdBit_eq, hrd, if_neg (show ent 0x4C01 5 ≠ ent 0x4C01 1 by decide)]
  have hpos : a.arrayPos = s.sys.arrayPos := by
    simp only [Sys.arrayPos, hrd, if_neg (show ent 0x2010 1 ≠ ent 0x4C01 1 by decide)]
  obtain ⟨p, hp⟩ : ∃ p, p = ((List.range 4).find? s.sys.present).getD s.sys.arrayPos := ⟨_, rfl⟩
  have hruns : Runs .arrayFormationTimeout s (a.actingHead s.otp p).tellMembers := by
    rw [Runs, exec_arrayFormationTimeout, execArrayFormationTimeout, onSys_eq, hp, ← hpresent, ← hpos, ha]
    have hforming : ¬ s.sys.rd (ent 0x4C01 1) ≠ 1 := not_not.2 h
    exact congrArg (fun z : Sys => Host.Outcome.next { s with sys := z }) (if_neg hforming)
  obtain ⟨hhead, hstate⟩ := a.rd_actingHead s.otp p
  have htold := writes_tellMembers (a.actingHead s.otp p)
  refine ⟨_, hruns, ?_, ?_, rfl, rfl⟩
  · rw [htold.rd_eq (by simp), hstate, hrd, if_pos rfl]
  · rw [htold.rd_eq (by simp), hhead, hp]

theorem twinFormationWindow_idle (s : State) (h : s.sys.twinOn = false ∨ s.sys.twinRole ≠ 0) : Runs .twinFormationWindow s s.sys := by
  have hguard : (!s.sys.twinOn) = true ∨ s.sys.twinRole ≠ 0 := h.imp_left fun hoff => by simp [hoff]
  rw [Runs, exec_twinFormationWindow, execTwinFormationWindow, onSys_eq]
  exact congrArg (fun z : Sys => Host.Outcome.next { s with sys := z }) (if_pos hguard)

/-- What a module that forms does after its window, by what it has heard. -/
def Sys.formAfter (o : Otp) (y : Sys) (heard : Bytes) : Sys :=
  if rdLe heard 1 1 = 1 then y.resyncStart o 0
  else if !heard.isEmpty ∧ twinIndex (y.rd (ent 0x2010 1)) = 1 then y
  else y.takeRole o 1 1

theorem twinFormationWindow_runs (s : State) (hon : s.sys.twinOn = true) (hrole : s.sys.twinRole = 0) :
    Runs .twinFormationWindow s (s.sys.formAfter s.otp (match s.sys.twinLink with | some k => (s.sys.link k).heard | none => [])) := by
  have hguard : ¬ ((!s.sys.twinOn) = true ∨ s.sys.twinRole ≠ 0) := by simp [hon, hrole]
  rw [Runs, exec_twinFormationWindow, execTwinFormationWindow, onSys_eq]
  exact congrArg (fun z : Sys => Host.Outcome.next { s with sys := z }) (if_neg hguard)

theorem Sys.takeRole_spec (y : Sys) (o : Otp) (role state : Nat) : (y.takeRole o role state).rd (ent 0x4C01 2) = role ∧
    (y.takeRole o role state).rd (ent 0x4C01 3) = state ∧ (y.takeRole o role state).twin.since = y.t96 := by
  unfold Sys.takeRole
  extract_lets a b
  have ha : ∀ k, a.rd k = if k = ent 0x4C01 3 then state else if k = ent 0x4C01 2 then role else y.rd k := fun k => by
    simp only [a, Sys.rd_wr, Sys.setTwinState]
  have hend : Writes [.above 0x3028 9, .at 0x2300 2, .at 0x2300 3, .at 0x2300 4, .at 0x2300 5, .at 0x2300 6, .at 0x2300 8, .at 0x2300 9, .at 0x2303 1,
      .at 0x2303 2, .at 0x2303 3, .at 0x2303 4, .at 0x2303 7] b ((upto 8 (fun n y => y.portState n) b).ptpRestart o.dieId).sourcesChanged.showTime := by
    rw [writes_showTime _ (by simp), writes_sourcesChanged _ (by simp), writes_ptpRestart _ _ (by simp)]
    simp [↓writes_upto, ↓writes_portState]
  have hkeep : Touches [.log, .mram, .ports, .time, .ptp] b ((upto 8 (fun n y => y.portState n) b).ptpRestart o.dieId).sourcesChanged.showTime := by
    rw [touches_showTime, touches_sourcesChanged _ (by simp), touches_ptpRestart _ _ (by simp)]
    simp [↓touches_upto, ↓touches_portState]
  refine ⟨?_, ?_, ?_⟩
  · refine (hend.rd_eq (by simp [Spot.hits, ent])).trans ((ha _).trans ?_)
    rw [if_neg (by decide), if_pos rfl]
  · exact (hend.rd_eq (by simp [Spot.hits, ent])).trans ((ha _).trans (if_pos rfl))
  · exact congrArg Twin.since (hkeep.facet .twin (by simp) (by simp)).symm

theorem twinFormationWindow_leads (s : State) (hon : s.sys.twinOn = true) (hrole : s.sys.twinRole = 0)
    (hsilent : ∀ k, s.sys.twinLink = some k → (s.sys.link k).heard = []) : Completes .twinFormationWindow s fun t =>
      t.sys.rd (ent 0x4C01 2) = 1 ∧ t.sys.rd (ent 0x4C01 3) = 1 ∧ t.sys.twin.since = s.sys.t96 ∧ t.otp = s.otp ∧ t.pending = s.pending := by
  have hheard : (match s.sys.twinLink with | some k => (s.sys.link k).heard | none => []) = [] := by
    split
    next k hk => exact hsilent k hk
    · rfl
  have hruns := twinFormationWindow_runs s hon hrole
  have hform : s.sys.formAfter s.otp [] = s.sys.takeRole s.otp 1 1 := by
    rw [Sys.formAfter, if_neg (by decide), if_neg (by simp)]
  rw [hheard, hform] at hruns
  obtain ⟨h2, h3, hsince⟩ := s.sys.takeRole_spec s.otp 1 1
  exact ⟨_, hruns, h2, h3, hsince, rfl, rfl⟩

theorem twinFormationWindow_follows (s : State) (k : Nat) (hon : s.sys.twinOn = true) (hrole : s.sys.twinRole = 0) (hlink : s.sys.twinLink = some k)
    (hheard : rdLe (s.sys.link k).heard 1 1 = 1) : Runs .twinFormationWindow s (s.sys.resyncStart s.otp 0) := by
  have hruns := twinFormationWindow_runs s hon hrole
  simp only [hlink] at hruns
  rwa [Sys.formAfter, if_pos hheard] at hruns

/-- Settles O59. -/
theorem twinsAndArraysTakeTheirRoles : Obligations.TwinsAndArraysTakeTheirRoles := by
  unfold Obligations.TwinsAndArraysTakeTheirRoles
  exact ⟨takeoverInstant_idle, takeoverInstant_takes, twinTakeover_refused, twinTakeover_takes, twinResync_refused, twinResync_starts, mirroredUnit_idle,
    fun s n l u hr hs => mirroredUnit_commits s n l u hr hs, fun s n l u c hr hs => mirroredUnit_output s n l u c hr hs,
    fun s n l u c hr hs => mirroredUnit_lockGroup s n l u c hr hs, fun s n l u x hr hs => mirroredUnit_latched s n l u x hr hs, generationClose_closes,
    arrayFormationTimeout_idle, arrayFormationTimeout_degrades, twinFormationWindow_idle, twinFormationWindow_leads, twinFormationWindow_follows⟩

end Sys2Proof.Machine
end

section
/-!
PROOFS. The Felley link (O60).
-/

namespace Sys2Proof.Machine

variable {fs : List Facet} {nums blobs : Nat → Prop} {y z : Sys} {s : State} {w : Writer}

/-! ## Hello -/

theorem felleyLinkHello_idle (s : State) (r : Fin 4) (l t i n : BitVec 8) (die : BitVec 64) (h : s.sys.rd (ent 0x4D00 1) = 0) :
    Runs (.felleyLinkHello r l die t i n) s s.sys := by
  rw [Runs, exec_felleyLinkHello, execFelleyLinkHello, onSys_eq]
  exact congrArg (fun z : Sys => Host.Outcome.next { s with sys := z }) (if_pos h)

theorem felleyLinkHello_refuses (s : State) (r : Fin 4) (l t i n : BitVec 8) (die : BitVec 64) (hon : s.sys.rd (ent 0x4D00 1) ≠ 0)
    (hroles : ¬ ((s.sys.view.role = 1 ∧ r.val = 2) ∨ (s.sys.view.role = 2 ∧ r.val = 1))) (hstate : s.sys.rd (ent 0x4D01 1) ≠ 4) (hroom : Room s) :
    Completes (.felleyLinkHello r l die t i n) s fun u =>
      u.sys.rd (ent 0x4D01 1) = 4 ∧ Logs s u 0x1503 255 (ev [(0, 1, 0)]) ∧ Leaves [.log] (only [ent 0x4D01 1]) (only []) s u := by
  have hguard : (!decide ((s.sys.view.role = 1 ∧ r.val = 2) ∨ (s.sys.view.role = 2 ∧ r.val = 1))) = true := by rw [decide_eq_false hroles]; rfl
  have hruns : Runs (.felleyLinkHello r l die t i n) s ((s.sys.wr (ent 0x4D01 1) 4).raise 0x1503 255 (ev [(0, 1, 0)])) := by
    rw [Runs, exec_felleyLinkHello, execFelleyLinkHello, onSys_eq]
    exact congrArg (fun z : Sys => Host.Outcome.next { s with sys := z }) ((if_neg hon).trans ((if_pos hguard).trans (if_neg hstate)))
  refine ⟨_, hruns, (Sys.rd_raise ..).trans ((Sys.rd_wr ..).trans (if_pos rfl)), ?_, rfl, rfl, ?_⟩
  · simp only [Logs]
    rw [Sys.log_raise _ _ _ _ (by exact hroom)]
    rfl
  · rw [sameBut_raise_iff _ _ _ (by simp)]
    exact sameBut_wr _ _ _ (by simp)

/-- The entries that name the partner, and what the link keeps of it. -/
def Sys.felleyKnown (y : Sys) (role die index node : Nat) : Sys :=
  (((y.wr (ent 0x4D01 2) role).wr (ent 0x4D01 3) die).wr (ent 0x4D01 4) index).setLink 4
    { y.link 4 with node := node, peerDown := false, downAt := none, expect := [] }

/-- The link is UP, and the time that it was down is shown. -/
def Sys.felleyUp (y : Sys) (downAt : Option Nat) : Sys :=
  let y := y.wr (ent 0x4D01 1) 2
  match downAt with | some t => y.wr (ent 0x4D01 0x0A) ((y.up - t) / 1000 % 2 ^ 32) | none => y

/-- The events of a link that opens. -/
def Sys.felleyTold (y : Sys) (lanes role index die node : Nat) : Sys :=
  let y := y.raise 0x1501 255 (ev [(0, 1, lanes), (1, 1, role), (2, 1, index), (8, 8, die)])
  if node = y.rd (ent 0x1100 1) then y.raise 0x1509 255 (ev [(0, 1, node)]) else y

theorem Sys.rd_felleyUp (y : Sys) (d : Option Nat) {k : Nat} (hk : k ≠ ent 0x4D01 0x0A) : (y.felleyUp d).rd k = if k = ent 0x4D01 1 then 2 else y.rd k := by
  cases d with
  | none => exact Sys.rd_wr ..
  | some t => exact (Sys.rd_wr ..).trans ((if_neg hk).trans (Sys.rd_wr ..))

theorem sameBut_felleyUp (y : Sys) (d : Option Nat) : SameBut [] (only [ent 0x4D01 1, ent 0x4D01 0x0A]) (only []) y (y.felleyUp d) := by
  cases d with
  | none => exact sameBut_wr _ _ _ (by simp)
  | some t => exact (sameBut_wr _ _ _ (by simp)).trans (sameBut_wr _ _ _ (by simp))

theorem sameBut_felleyTold (y : Sys) (lanes role index die node : Nat) :
    SameBut [.log] (only []) (only []) y (y.felleyTold lanes role index die node) := by
  unfold Sys.felleyTold
  extract_lets a
  have ha : SameBut [.log] (only []) (only []) y a := (sameBut_raise_iff _ _ _ (by simp)).2 (.refl y)
  split
  · exact (sameBut_raise_iff _ _ _ (by simp)).2 ha
  · exact ha

theorem felleyLinkHello_opens (s : State) (r : Fin 4) (l t i n : BitVec 8) (die : BitVec 64) (hl : l ≠ 0)
    (hroles : (s.sys.view.role = 1 ∧ r.val = 2) ∨ (s.sys.view.role = 2 ∧ r.val = 1)) (hlanes : l.toNat = s.sys.rd (ent 0x4D00 1))
    (hstate : s.sys.rd (ent 0x4D01 1) ≠ 2) :
    Completes (.felleyLinkHello r l die t i n) s fun u =>
      u.sys.rd (ent 0x4D01 1) = 2 ∧ u.sys.rd (ent 0x4D01 2) = r.val ∧ u.sys.rd (ent 0x4D01 3) = die.toNat ∧
      u.sys.rd (ent 0x4D01 4) = (if t = 0xFF then 0xFF else i.toNat) ∧ (u.sys.link 4).node = n.toNat ∧ (u.sys.link 4).peerDown = false ∧
      Leaves [.links, .log] (only ([1, 2, 3, 4, 0x0A].map (ent 0x4D01))) (only []) s u := by
  obtain ⟨index, hindex⟩ : ∃ index, index = if t = 0xFF then 0xFF else i.toNat := ⟨_, rfl⟩
  obtain ⟨a, ha⟩ : ∃ a, a = s.sys.felleyKnown r.val die.toNat index n.toNat := ⟨_, rfl⟩
  obtain ⟨b, hb⟩ : ∃ b, b = a.felleyUp (s.sys.link 4).downAt := ⟨_, rfl⟩
  have hon : ¬ s.sys.rd (ent 0x4D00 1) = 0 := fun h => hl (BitVec.eq_of_toNat_eq (hlanes.trans h))
  have hfits : ¬ (!decide ((s.sys.view.role = 1 ∧ r.val = 2) ∨ (s.sys.view.role = 2 ∧ r.val = 1))) = true := by rw [decide_eq_true hroles]; decide
  have hsame : ¬ l.toNat ≠ s.sys.rd (ent 0x4D00 1) := not_not.2 hlanes
  have hruns : Runs (.felleyLinkHello r l die t i n) s (b.felleyTold l.toNat r.val index die.toNat n.toNat) := by
    rw [Runs, exec_felleyLinkHello, execFelleyLinkHello, onSys_eq]
    refine congrArg (fun z : Sys => Host.Outcome.next { s with sys := z }) ((if_neg hon).trans ((if_neg hfits).trans ((if_neg hsame).trans ?_)))
    simp only [if_neg hstate]
    rw [hb, ha, hindex]
    rfl
  have hknown : SameBut [.links] (only ([2, 3, 4].map (ent 0x4D01))) (only []) s.sys a := by
    rw [ha, Sys.felleyKnown]
    refine SameBut.trans ?_ (sameBut_setLink _ _ (by simp))
    exact ((sameBut_wr _ _ _ (by simp)).trans (sameBut_wr _ _ _ (by simp))).trans (sameBut_wr _ _ _ (by simp))
  have hup : SameBut [] (only [ent 0x4D01 1, ent 0x4D01 0x0A]) (only []) a b := hb ▸ sameBut_felleyUp a _
  have htold := sameBut_felleyTold b l.toNat r.val index die.toNat n.toNat
  have hrd : ∀ j, j < 10 → (b.felleyTold l.toNat r.val index die.toNat n.toNat).rd (ent 0x4D01 j) = if ent 0x4D01 j = ent 0x4D01 1 then 2 else
      if ent 0x4D01 j = ent 0x4D01 4 then index else if ent 0x4D01 j = ent 0x4D01 3 then die.toNat else
      if ent 0x4D01 j = ent 0x4D01 2 then r.val else s.sys.rd (ent 0x4D01 j) := fun j hj => by
    rw [htold.2.1 _ (by simp), hb, Sys.rd_felleyUp _ _ (by unfold ent; omega), ha, Sys.felleyKnown, Sys.rd_setLink, Sys.rd_wr, Sys.rd_wr, Sys.rd_wr]
  have hlink : (b.felleyTold l.toNat r.val index die.toNat n.toNat).link 4 =
      { s.sys.link 4 with node := n.toNat, peerDown := false, downAt := none, expect := [] } := by
    rw [Sys.link_congr (htold.1 .links (by simp)).symm, Sys.link_congr (hup.1 .links (by simp)).symm, ha]
    exact (Sys.link_setLink ..).trans (if_pos rfl)
  refine ⟨_, hruns, ?_, ?_, ?_, ?_, by rw [hlink], by rw [hlink], rfl, rfl, ?_⟩
  · rw [hrd 1 (by decide), if_pos rfl]
  · rw [hrd 2 (by decide)]
    simp [ent]
  · rw [hrd 3 (by decide)]
    simp [ent]
  · rw [hrd 4 (by decide), ← hindex]
    simp [ent]
  · exact ((hknown.mono (by simp) (by simp [ent]) (fun _ h => h)).trans (hup.mono (by simp) (by simp [ent]) (fun _ h => h))).trans
      (htold.mono (by simp) (by simp) (fun _ h => h))

/-! ## Control frames -/

theorem felleyControlFrame_acked (s : State) (q : BitVec 16) (kind : BitVec 8) (b : Bytes) (hup : s.sys.rd (ent 0x4D01 1) = 2) :
    Completes (.felleyControlFrame q true kind b true) s fun t =>
      (t.sys.link 4).unacked = (s.sys.link 4).unacked.filter (fun f => f.seq != q.toNat) ∧ Leaves [.links] (only []) (only []) s t := by
  have hguard : ¬ (s.sys.rd (ent 0x4D01 1) = 0 ∨ (s.sys.rd (ent 0x4D01 1) ≠ 2 ∧ kind ≠ 0)) := by simp [hup]
  have hruns : Runs (.felleyControlFrame q true kind b true) s (s.sys.acked 4 q.toNat) := by
    rw [Runs, exec_felleyControlFrame, execFelleyControlFrame, onSys_eq]
    exact congrArg (fun z : Sys => Host.Outcome.next { s with sys := z }) (if_neg hguard)
  exact ⟨_, hruns, congrArg Link.unacked ((Sys.link_setLink ..).trans (if_pos rfl)), rfl, rfl, sameBut_setLink _ _ (by simp)⟩

/-- FELLEY_CONTROL_FRAME on an open link: no acknowledgement. -/
def Sys.felleyControlIn (o : Otp) (y : Sys) (n kind : Nat) (b : Bytes) (checkOk : Bool) : Sys :=
  match y.controlSeq 4 n checkOk with
  | .lost => y.inc (ent 0x4D01 7)
  | .again => y.send (.felley 255 n 255 [])
  | .fresh => if y.relayWaits 4 kind b then y else Sys.felleyEffect o ((y.expectNext 4 255 n).send (.felley 255 n 255 [])) kind b

theorem felleyControlFrame_runs (s : State) (q : BitVec 16) (kind : BitVec 8) (b : Bytes) (checkOk : Bool) (hup : s.sys.rd (ent 0x4D01 1) = 2) :
    Runs (.felleyControlFrame q false kind b checkOk) s (Sys.felleyControlIn s.otp s.sys q.toNat kind.toNat b checkOk) := by
  have hguard : ¬ (s.sys.rd (ent 0x4D01 1) = 0 ∨ (s.sys.rd (ent 0x4D01 1) ≠ 2 ∧ kind ≠ 0)) := by simp [hup]
  rw [Runs, exec_felleyControlFrame, execFelleyControlFrame, onSys_eq]
  refine congrArg (fun z : Sys => Host.Outcome.next { s with sys := z }) ((if_neg hguard).trans ?_)
  unfold Sys.felleyControlIn
  cases s.sys.controlSeq 4 q.toNat checkOk <;> rfl

theorem felleyControlFrame_answers (s : State) (q : BitVec 16) (kind : BitVec 8) (b : Bytes) (hup : s.sys.rd (ent 0x4D01 1) = 2) :
    (Completes (.felleyControlFrame q true kind b true) s fun t =>
      (t.sys.link 4).unacked = (s.sys.link 4).unacked.filter (fun f => f.seq != q.toNat) ∧ Leaves [.links] (only []) (only []) s t) ∧
    (Completes (.felleyControlFrame q false kind b false) s fun t =>
      t.sys.rd (ent 0x4D01 7) = (s.sys.rd (ent 0x4D01 7) + 1) % 2 ^ 32 ∧ Leaves [] (only [ent 0x4D01 7]) (only []) s t) ∧
    (s.sys.controlSeq 4 q.toNat true = .again → Runs (.felleyControlFrame q false kind b true) s (s.sys.send (.felley 255 q.toNat 255 []))) ∧
    (s.sys.controlSeq 4 q.toNat true = .fresh → s.sys.relayWaits 4 kind.toNat b = false → Runs (.felleyControlFrame q false kind b true) s
      (Sys.felleyEffect s.otp ((s.sys.expectNext 4 255 q.toNat).send (.felley 255 q.toNat 255 [])) kind.toNat b)) := by
  refine ⟨felleyControlFrame_acked s q kind b hup, ?_, fun hseq => ?_, fun hseq hwaits => ?_⟩
  · have hruns := felleyControlFrame_runs s q kind b false hup
    have hlost : s.sys.controlSeq 4 q.toNat false = .lost := rfl
    simp only [Sys.felleyControlIn, hlost] at hruns
    refine ⟨_, hruns, ?_, rfl, rfl, sameBut_wr _ _ _ (by simp)⟩
    rw [Sys.inc_eq]
    exact (Sys.rd_wr ..).trans (if_pos rfl)
  · have hruns := felleyControlFrame_runs s q kind b true hup
    simpa only [Sys.felleyControlIn, hseq] using hruns
  · have hruns := felleyControlFrame_runs s q kind b true hup
    simpa only [Sys.felleyControlIn, hseq, hwaits, Bool.false_eq_true, if_false] using hruns

theorem felleyControlResend_idle (s : State) (h : (s.sys.link 4).unacked = [] ∨ (s.sys.link 4).peerDown = true) : Runs .felleyControlResend s s.sys := by
  rw [Runs, exec_felleyControlResend, execFelleyControlResend, onSys_eq]
  refine congrArg (fun z : Sys => Host.Outcome.next { s with sys := z }) ?_
  cases hwait : (s.sys.link 4).unacked with
  | nil => simp only [hwait]
  | cons f r => simp only [hwait, h.resolve_left (by simp [hwait]), if_true]

/-- A link whose unacknowledged frames have been sent again. -/
def Link.resent (l : Link) : Link := { l with unacked := l.unacked.map fun f => { f with resends := f.resends + 1 } }

/-- A link whose partner's direction is given up. -/
def Link.givenUp (l : Link) : Link := { l with peerDown := true, unacked := l.unacked.map fun (f : CtlFrame) => { f with resends := 0 } }

/-- The unacknowledged frames go out again, but not from SHADOW. -/
def Sys.felleyResent (y : Sys) (l : Link) : Sys :=
  let y := (y.setLink 4 l.resent).incBy (ent 0x4D01 8) l.unacked.length
  if y.isShadow then y else l.unacked.foldl (fun (y : Sys) (f : CtlFrame) => y.send (.felley 255 f.seq f.kind f.body)) y

theorem felleyControlResend_runs {f : CtlFrame} {l : List CtlFrame} (hwait : (s.sys.link 4).unacked = f :: l) (hpeer : (s.sys.link 4).peerDown = false) :
    Runs .felleyControlResend s (if 8 ≤ f.resends then
      ((s.sys.setLink 4 (s.sys.link 4).givenUp).inc (ent 0x4D01 9)).raise 0x1502 255 (ev [(0, 1, 2)]) else s.sys.felleyResent (s.sys.link 4)) := by
  have hguard : ¬ (s.sys.link 4).peerDown = true := by simp [hpeer]
  rw [Runs, exec_felleyControlResend, execFelleyControlResend, onSys_eq]
  refine congrArg (fun z : Sys => Host.Outcome.next { s with sys := z }) ?_
  dsimp only
  split
  next h => exact absurd (h.symm.trans hwait) nofun
  next g r h =>
    obtain ⟨rfl, -⟩ := List.cons.inj (h.symm.trans hwait)
    exact if_neg hguard

theorem felleyControlResend_again (s : State) (f : CtlFrame) (hone : (s.sys.link 4).unacked = [f]) (hpeer : (s.sys.link 4).peerDown = false)
    (hfew : f.resends < 8) (hlead : s.sys.isShadow = false) : Completes .felleyControlResend s fun t =>
      t.sys.tx = s.sys.tx ++ [.felley 255 f.seq f.kind f.body] ∧ (t.sys.link 4).unacked = [{ f with resends := f.resends + 1 }] ∧
      t.sys.rd (ent 0x4D01 8) = (s.sys.rd (ent 0x4D01 8) + 1) % 2 ^ 32 ∧ Leaves [.links, .tx] (only [ent 0x4D01 8]) (only []) s t := by
  obtain ⟨a, ha⟩ : ∃ a, a = (s.sys.setLink 4 (s.sys.link 4).resent).incBy (ent 0x4D01 8) 1 := ⟨_, rfl⟩
  have hlead' : ¬ a.isShadow = true := by
    have hrole : a.rd (ent 0x4C01 2) = s.sys.rd (ent 0x4C01 2) := by rw [ha, Sys.incBy_eq, Sys.rd_wr, if_neg (by decide), Sys.rd_setLink]
    have htwin : a.twin = s.sys.twin := by rw [ha]; rfl
    rw [Sys.isShadow, Sys.roleShadow, hrole, htwin, ← Sys.roleShadow, ← Sys.isShadow, hlead]
    decide
  have hruns := felleyControlResend_runs hone hpeer
  rw [if_neg (by omega), Sys.felleyResent, hone, List.length_singleton, ← ha] at hruns
  simp only [if_neg hlead', List.foldl_cons, List.foldl_nil] at hruns
  have hlink : a.link 4 = (s.sys.link 4).resent := by
    rw [ha]
    exact (Sys.link_setLink ..).trans (if_pos rfl)
  refine ⟨_, hruns, ?_, ?_, ?_, rfl, rfl, ?_⟩
  · rw [Sys.tx_send, ha]
    rfl
  · refine (congrArg Link.unacked hlink).trans ?_
    rw [Link.resent, hone]
    rfl
  · rw [Sys.rd_send, ha, Sys.incBy_eq, Sys.rd_wr, if_pos rfl, Sys.rd_setLink]
  · rw [ha]
    exact ((sameBut_setLink _ _ (by simp)).trans (sameBut_wr _ _ _ (by simp))).trans (sameBut_send _ _ (by simp))

theorem felleyControlResend_givesUp (s : State) (f : CtlFrame) (l : List CtlFrame) (hwait : (s.sys.link 4).unacked = f :: l)
    (hpeer : (s.sys.link 4).peerDown = false) (hmany : 8 ≤ f.resends) (hroom : Room s) : Completes .felleyControlResend s fun t =>
      (t.sys.link 4).peerDown = true ∧ t.sys.rd (ent 0x4D01 9) = (s.sys.rd (ent 0x4D01 9) + 1) % 2 ^ 32 ∧
      Logs s t 0x1502 255 (ev [(0, 1, 2)]) ∧ Leaves [.links, .log] (only [ent 0x4D01 9]) (only []) s t := by
  have hruns := felleyControlResend_runs hwait hpeer
  rw [if_pos hmany] at hruns
  have hlink : ((s.sys.setLink 4 (s.sys.link 4).givenUp).inc (ent 0x4D01 9)).link 4 = (s.sys.link 4).givenUp := (Sys.link_setLink ..).trans (if_pos rfl)
  refine ⟨_, hruns, ?_, ?_, ?_, rfl, rfl, ?_⟩
  · rw [Sys.link_congr (Sys.raise_links ..), hlink, Link.givenUp]
  · rw [Sys.rd_raise, Sys.inc_eq, Sys.rd_wr, if_pos rfl, Sys.rd_setLink]
  · simp only [Logs]
    rw [Sys.log_raise _ _ _ _ (by exact hroom)]
    rfl
  · rw [sameBut_raise_iff _ _ _ (by simp)]
    exact (sameBut_setLink _ _ (by simp)).trans (sameBut_wr _ _ _ (by simp))

/-! ## Streams -/

/-- Two states whose streams differ at most in the number of the next frame of stream k. -/
structure SameStreams (k : Nat) (y z : Sys) : Prop where
  same : SameBut [.felley, .tx] (only []) (only []) y z
  queue : (z.fstream k).queue = (y.fstream k).queue
  served : (z.fstream k).served = (y.fstream k).served
  others : ∀ j, j ≠ k → z.fstream j = y.fstream j
  longer : y.tx.length ≤ z.tx.length

/-- One frame of a message of stream k. -/
def Sys.felleyFrame (y : Sys) (k n i : Nat) (msg : Bytes) : Sys :=
  let u := y.fstream k
  let flags := (if i = 0 then 2 else 0) + (if i + 1 = n then 4 else 0)
  (y.setFstream k { u with seq := (u.seq + 1) % 65536 }).send (.felley k u.seq flags ((msg.drop (8192 * i)).take 8192))

theorem SameStreams.felleyFrame {k : Nat} (h : SameStreams k y z) (n i : Nat) (msg : Bytes) :
    SameStreams k y (z.felleyFrame k n i msg) ∧ z.tx.length < (z.felleyFrame k n i msg).tx.length := by
  have hk : (z.felleyFrame k n i msg).fstream k = { z.fstream k with seq := ((z.fstream k).seq + 1) % 65536 } :=
    (Sys.fstream_setFstream ..).trans (if_pos rfl)
  have htx : (z.felleyFrame k n i msg).tx.length = z.tx.length + 1 := by
    simp only [Sys.felleyFrame, Sys.tx_send, List.length_append, List.length_singleton]
    rfl
  refine ⟨⟨?_, ?_, ?_, fun j hj => ?_, ?_⟩, by omega⟩
  · exact h.same.trans ((sameBut_setFstream _ _ (by simp)).trans (sameBut_send _ _ (by simp)))
  · rw [hk, h.queue]
  · rw [hk, h.served]
  · exact ((Sys.fstream_setFstream ..).trans (if_neg hj)).trans (h.others j hj)
  · have := h.longer
    omega

theorem SameStreams.foldl {k : Nat} (n : Nat) (msg : Bytes) : ∀ (l : List Nat) {z : Sys}, SameStreams k y z →
    SameStreams k y (l.foldl (fun z i => z.felleyFrame k n i msg) z)
  | [], _, h => h
  | i :: l, _, h => SameStreams.foldl n msg l (h.felleyFrame n i msg).1

theorem Sys.felleyFrames_spec (y : Sys) (k : Nat) (msg : Bytes) : SameStreams k y (y.felleyFrames k msg) ∧ y.tx.length < (y.felleyFrames k msg).tx.length := by
  obtain ⟨m, hm⟩ : ∃ m, max 1 ((msg.length + 8191) / 8192) = m + 1 := Nat.exists_eq_succ_of_ne_zero (by omega)
  have heq : y.felleyFrames k msg = (List.range (m + 1)).foldl (fun z i => z.felleyFrame k (m + 1) i msg) y := by
    rw [← hm]
    rfl
  obtain ⟨hfirst, hlonger⟩ := SameStreams.felleyFrame (⟨.refl y, rfl, rfl, fun _ _ => rfl, le_rfl⟩ : SameStreams k y y) (m + 1) 0 msg
  have hrest := SameStreams.foldl (m + 1) msg ((List.range m).map Nat.succ)
    (⟨.refl _, rfl, rfl, fun _ _ => rfl, le_rfl⟩ : SameStreams k (y.felleyFrame k (m + 1) 0 msg) (y.felleyFrame k (m + 1) 0 msg))
  rw [heq, List.range_succ_eq_map, List.foldl_cons]
  refine ⟨⟨hfirst.same.trans hrest.same, hrest.queue.trans hfirst.queue, hrest.served.trans hfirst.served, fun j hj => (hrest.others j hj).trans
    (hfirst.others j hj), hfirst.longer.trans hrest.longer⟩, ?_⟩
  exact lt_of_lt_of_le hlonger hrest.longer

/-- The message at the head of stream k's queue goes out. -/
def Sys.streamServed (y : Sys) (k : Nat) (msg : Bytes) (rest : List (Nat × Bytes)) : Sys :=
  ((y.setFstream k { y.fstream k with queue := rest, served := (y.fstream k).served + 1 }).felleyFrames k msg).inc64 (ent (0x4D10 + k) 6) 1

theorem Sys.noAudio (h : ∀ j, j < 64 → (y.fstream j).kind = 5 → (y.fstream j).queue = []) (k : Nat) :
    ((List.range 64).find? fun k => (y.fstream k).kind == 5 && !(y.fstream k).queue.isEmpty).getD k = k := by
  have hnone : ((List.range 64).find? fun k => (y.fstream k).kind == 5 && !(y.fstream k).queue.isEmpty) = none := by
    refine List.find?_eq_none.2 fun j hj hfound => ?_
    rw [Bool.and_eq_true, beq_iff_eq] at hfound
    rw [h j (List.mem_range.1 hj) hfound.1] at hfound
    exact absurd hfound.2 (by decide)
  rw [hnone]
  rfl

theorem felleyStreamSend_empty (s : State) (k : Fin 64) (haudio : ∀ j, j < 64 → (s.sys.fstream j).kind = 5 → (s.sys.fstream j).queue = [])
    (hqueue : (s.sys.fstream k.val).queue = []) : Runs (.felleyStreamSend k) s s.sys := by
  rw [Runs, exec_felleyStreamSend, execFelleyStreamSend, onSys_eq]
  refine congrArg (fun z : Sys => Host.Outcome.next { s with sys := z }) ?_
  simp only [Sys.noAudio haudio, hqueue]

theorem felleyStreamSend_serves (s : State) (k : Fin 64) (haudio : ∀ j, j < 64 → (s.sys.fstream j).kind = 5 → (s.sys.fstream j).queue = [])
    (hqueue : (s.sys.fstream k.val).queue ≠ []) : Completes (.felleyStreamSend k) s fun t =>
      (t.sys.fstream k.val).queue = (s.sys.fstream k.val).queue.drop 1 ∧ (t.sys.fstream k.val).served = (s.sys.fstream k.val).served + 1 ∧
      t.sys.rd (ent (0x4D10 + k.val) 6) = (s.sys.rd (ent (0x4D10 + k.val) 6) + 1) % 2 ^ 64 ∧ s.sys.tx.length < t.sys.tx.length ∧
      (∀ j, j ≠ k.val → t.sys.fstream j = s.sys.fstream j) ∧ Leaves [.felley, .tx] (only [ent (0x4D10 + k.val) 6]) (only []) s t := by
  obtain ⟨m, r, hqr⟩ := List.exists_cons_of_ne_nil hqueue
  have hruns : Runs (.felleyStreamSend k) s (s.sys.streamServed k.val m.2 r) := by
    rw [Runs, exec_felleyStreamSend, execFelleyStreamSend, onSys_eq]
    refine congrArg (fun z : Sys => Host.Outcome.next { s with sys := z }) ?_
    simp only [Sys.noAudio haudio, hqr, Sys.streamServed]
  obtain ⟨a, ha⟩ : ∃ a, a = s.sys.setFstream k.val { s.sys.fstream k.val with queue := r, served := (s.sys.fstream k.val).served + 1 } := ⟨_, rfl⟩
  have hak : a.fstream k.val = { s.sys.fstream k.val with queue := r, served := (s.sys.fstream k.val).served + 1 } := by
    rw [ha]
    exact (Sys.fstream_setFstream ..).trans (if_pos rfl)
  have hs : SameBut [.felley, .tx] (only []) (only []) s.sys a := by
    rw [ha]
    exact sameBut_setFstream _ _ (by simp)
  obtain ⟨hframes, hlonger⟩ := a.felleyFrames_spec k.val m.2
  rw [Sys.streamServed, ← ha] at hruns
  refine ⟨_, hruns, ?_, ?_, ?_, ?_, fun j hj => ?_, rfl, rfl, ?_⟩
  · rw [hqr]
    exact hframes.queue.trans (by rw [hak]; rfl)
  · exact hframes.served.trans (by rw [hak])
  · rw [Sys.inc64_eq, Sys.rd_wr, if_pos rfl, hframes.same.2.1 _ (by simp), hs.2.1 _ (by simp)]
  · refine lt_of_eq_of_lt ?_ hlonger
    rw [ha]
    rfl
  · refine (hframes.others j hj).trans ?_
    rw [ha]
    exact (Sys.fstream_setFstream ..).trans (if_neg hj)
  · exact ((hs.trans hframes.same).mono (by simp) (fun _ h => by simp at h) (fun _ h => h)).trans (sameBut_wr _ _ _ (by simp))

theorem felleyStreamFrame_down (s : State) (k : Fin 64) (q : BitVec 16) (a b : Bool) (p : Bytes) (ok : Bool) (h : s.sys.rd (ent 0x4D01 1) ≠ 2) :
    Runs (.felleyStreamFrame k q a b p ok) s s.sys := by
  rw [Runs, exec_felleyStreamFrame, execFelleyStreamFrame, onSys_eq]
  exact congrArg (fun z : Sys => Host.Outcome.next { s with sys := z }) (if_pos h)

/-- The next number that stream k's frames are expected to have. -/
def Sys.streamExpects (y : Sys) (k q : Nat) : Sys :=
  y.setLink 4 { y.link 4 with expect := (k, (q + 1) % 65536) :: (y.link 4).expect.filter fun p => p.1 != k }

theorem felleyStreamFrame_begins (s : State) (k : Fin 64) (q : BitVec 16) (p : Bytes) (hup : s.sys.rd (ent 0x4D01 1) = 2)
    (hseq : ((s.sys.link 4).expect.lookup k.val).getD q.toNat = q.toNat) (hpart : (s.sys.fstream k.val).part = [])
    (hwhole : (s.sys.fstream k.val).damaged = false) :
    Completes (.felleyStreamFrame k q true false p true) s fun t =>
      (t.sys.fstream k.val).part = p ∧ (t.sys.fstream k.val).damaged = false ∧ (t.sys.link 4).expect.lookup k.val = some ((q.toNat + 1) % 65536) ∧
      t.sys.rd (ent (0x4D10 + k.val) 8) = (s.sys.rd (ent (0x4D10 + k.val) 8) + 1) % 2 ^ 64 ∧
      Leaves [.felley, .links] (only [ent (0x4D10 + k.val) 8]) (only []) s t := by
  obtain ⟨a, ha⟩ : ∃ a, a = (s.sys.streamExpects k.val q.toNat).inc64 (ent (0x4D10 + k.val) 8) 1 := ⟨_, rfl⟩
  have hak : a.fstream k.val = s.sys.fstream k.val := by rw [ha]; rfl
  have hgap : (q.toNat + 65536 - q.toNat) % 65536 = 0 := by omega
  have hruns : Runs (.felleyStreamFrame k q true false p true) s (a.setFstream k.val { a.fstream k.val with part := p, damaged := false }) := by
    rw [Runs, exec_felleyStreamFrame, execFelleyStreamFrame, onSys_eq]
    refine congrArg (fun z : Sys => Host.Outcome.next { s with sys := z }) ((if_neg (not_not.2 hup)).trans ?_)
    have hkept : (s.sys.setLink 4 { s.sys.link 4 with
        expect := (k.val, (q.toNat + 1) % 65536) :: (s.sys.link 4).expect.filter fun p => p.1 != k.val }).fstream k.val = s.sys.fstream k.val := rfl
    simp only [hseq, hgap, hkept, hpart, hwhole, Bool.not_true, Bool.false_eq_true, ne_eq, not_true_eq_false, or_self, if_false, List.isEmpty_nil,
      Bool.or_self, Bool.and_false, false_and, Bool.not_false, if_true, ha]
    rfl
  refine ⟨_, hruns, ?_, ?_, ?_, ?_, rfl, rfl, ?_⟩
  · exact congrArg FelleyStream.part ((Sys.fstream_setFstream ..).trans (if_pos rfl))
  · exact congrArg FelleyStream.damaged ((Sys.fstream_setFstream ..).trans (if_pos rfl))
  · have hlink : a.link 4 = { s.sys.link 4 with expect := (k.val, (q.toNat + 1) % 65536) :: (s.sys.link 4).expect.filter fun p => p.1 != k.val } := by
      rw [ha]
      exact (Sys.link_setLink ..).trans (if_pos rfl)
    change (a.link 4).expect.lookup k.val = _
    rw [hlink]
    exact List.lookup_cons_self
  · rw [Sys.rd_setFstream, ha, Sys.inc64_eq, Sys.rd_wr, if_pos rfl]
    rfl
  · refine SameBut.trans (b := a) ?_ (sameBut_setFstream _ _ (by simp))
    rw [ha]
    exact (sameBut_setLink _ _ (by simp)).trans (sameBut_wr _ _ _ (by simp))

theorem felleyStreamFrame_damaged (s : State) (k : Fin 64) (q : BitVec 16) (a : Bool) (p : Bytes) (hup : s.sys.rd (ent 0x4D01 1) = 2) :
    Completes (.felleyStreamFrame k q a false p false) s fun t =>
      (t.sys.fstream k.val).damaged = true ∧ t.sys.rd (ent (0x4D10 + k.val) 9) = (s.sys.rd (ent (0x4D10 + k.val) 9) + 1) % 2 ^ 32 ∧
      t.sys.rd (ent 0x4D01 7) = (s.sys.rd (ent 0x4D01 7) + 1) % 2 ^ 32 ∧
      Leaves [.felley, .links, .log] (only [ent (0x4D10 + k.val) 9, ent 0x4D01 7]) (only []) s t := by
  obtain ⟨b, hb⟩ : ∃ b, b = (s.sys.streamExpects k.val q.toNat).felleyLost k.val 0 1 := ⟨_, rfl⟩
  have hruns : Runs (.felleyStreamFrame k q a false p false) s
      (b.setFstream k.val { s.sys.fstream k.val with damaged := true, part := (s.sys.fstream k.val).part }) := by
    rw [Runs, exec_felleyStreamFrame, execFelleyStreamFrame, onSys_eq]
    refine congrArg (fun z : Sys => Host.Outcome.next { s with sys := z }) ((if_neg (not_not.2 hup)).trans ?_)
    refine (if_pos (Or.inl rfl)).trans ?_
    refine (if_neg (by simp)).trans ?_
    rw [hb]
    rfl
  have hlost : b = (((s.sys.streamExpects k.val q.toNat).inc (ent (0x4D10 + k.val) 9)).inc (ent 0x4D01 7)).raiseLimited k.val 0x1504 k.val
      (ev [(0, 1, k.val), (1, 1, 0), (4, 4, 1)]) := hb
  have hrd : ∀ j, b.rd j = (((s.sys.streamExpects k.val q.toNat).inc (ent (0x4D10 + k.val) 9)).inc (ent 0x4D01 7)).rd j := fun j => by
    rw [hlost, Sys.rd_raiseLimited]
  have hne : ent 0x4D01 7 ≠ ent (0x4D10 + k.val) 9 := by
    unfold ent
    omega
  refine ⟨_, hruns, ?_, ?_, ?_, rfl, rfl, ?_⟩
  · exact congrArg FelleyStream.damaged ((Sys.fstream_setFstream ..).trans (if_pos rfl))
  · rw [Sys.rd_setFstream, hrd, Sys.inc_eq, Sys.rd_wr, if_neg hne.symm, Sys.inc_eq, Sys.rd_wr, if_pos rfl]
    rfl
  · rw [Sys.rd_setFstream, hrd, Sys.inc_eq, Sys.rd_wr, if_pos rfl, Sys.inc_eq, Sys.rd_wr, if_neg hne]
    rfl
  · refine SameBut.trans (b := b) ?_ (sameBut_setFstream _ _ (by simp))
    rw [hlost, sameBut_raiseLimited_iff _ _ _ _ (by simp)]
    exact ((sameBut_setLink _ _ (by simp)).trans (sameBut_wr _ _ _ (by simp))).trans (sameBut_wr _ _ _ (by simp))

theorem felleyFrameInfo_short (s : State) (k : Fin 16) (b : Bytes) (h : b.length ≠ 64) : Runs (.felleyFrameInfo k b) s s.sys := by
  rw [Runs, exec_felleyFrameInfo, execFelleyFrameInfo, onSys_eq]
  exact congrArg (fun z : Sys => Host.Outcome.next { s with sys := z }) (if_pos (Or.inl h))

theorem felleyFrameInfo_kept (s : State) (k : Fin 16) (b : Bytes) (hlen : b.length = 64) (hdir : s.sys.felleyCfg k.val 0 = 2) :
    Completes (.felleyFrameInfo k b) s fun t =>
    t.sys.fstream k.val = { s.sys.fstream k.val with info := b, dir := 2, kind := s.sys.felleyCfg k.val 1 } ∧
    (∀ j, j ≠ k.val → t.sys.fstream j = s.sys.fstream j) ∧ Leaves [.felley] (only []) (only []) s t := by
  have hguard : ¬ (b.length ≠ 64 ∨ s.sys.felleyCfg k.val 0 ≠ 2) := by simp [hlen, hdir]
  have hruns : Runs (.felleyFrameInfo k b) s
      (s.sys.setFstream k.val { s.sys.fstream k.val with info := b, dir := 2, kind := s.sys.felleyCfg k.val 1 }) := by
    rw [Runs, exec_felleyFrameInfo, execFelleyFrameInfo, onSys_eq]
    exact congrArg (fun z : Sys => Host.Outcome.next { s with sys := z }) (if_neg hguard)
  exact ⟨_, hruns, (Sys.fstream_setFstream ..).trans (if_pos rfl), fun j hj => (Sys.fstream_setFstream ..).trans (if_neg hj), rfl, rfl,
    sameBut_setFstream _ _ (by simp)⟩

/-! ## Time and provenance -/

theorem felleyTimeMarker_down (s : State) (a b c d : BitVec 96) (h : s.sys.rd (ent 0x4D01 1) ≠ 2) : Runs (.felleyTimeMarker a b c d) s s.sys := by
  rw [Runs, exec_felleyTimeMarker, execFelleyTimeMarker, onSys_eq]
  exact congrArg (fun z : Sys => Host.Outcome.next { s with sys := z }) (if_pos h)

theorem felleyTimeMarker_shows (s : State) (a b c d : BitVec 96) (hup : s.sys.rd (ent 0x4D01 1) = 2) (hsource : s.sys.timeSources.contains 4 = false) :
    let p := markerPair a.toNat b.toNat c.toNat d.toNat (s.sys.rdI s.sys.felleyAsymKey)
    Runs (.felleyTimeMarker a b c d) s ((s.sys.wrI (ent 0x4D01 5) (unitsPs p.1)).wr (ent 0x4D01 6) (min 0xFFFFFFFF (unitsPs p.2).toNat)) := by
  intro p
  obtain ⟨y, hy⟩ : ∃ y, y = (s.sys.wrI (ent 0x4D01 5) (unitsPs p.1)).wr (ent 0x4D01 6) (min 0xFFFFFFFF (unitsPs p.2).toNat) := ⟨_, rfl⟩
  have hrd : ∀ i ∈ [ent 0x2010 1, ent 0x2301 1, ent 0x2301 2, ent 0x4C01 2, ent 0x4C01 6], y.rd i = s.sys.rd i := fun i hi => by
    simp only [ent, List.mem_cons, List.not_mem_nil, or_false] at hi
    rw [hy, Sys.rd_wr, if_neg (by unfold ent; omega), Sys.wrI_eq, Sys.rd_wr, if_neg (by unfold ent; omega)]
  have hfollowed : ¬ y.timeSources.contains 4 = true := by
    rw [Sys.timeSources_congr hrd, hsource]
    decide
  rw [Runs, exec_felleyTimeMarker, execFelleyTimeMarker, onSys_eq]
  refine congrArg (fun z : Sys => Host.Outcome.next { s with sys := z }) ((if_neg (not_not.2 hup)).trans ?_)
  rw [hy] at hfollowed
  exact if_neg hfollowed

theorem upstreamManifestTimeout_idle (s : State) (x : Fin 16) (h : ∀ f ∈ s.sys.frames, f.ctx = x.val → f.upWait = false) :
    Runs (.upstreamManifestTimeout x) s s.sys := by
  have hnone : (s.sys.frames.find? fun f => f.ctx == x.val && f.upWait) = none := by
    refine List.find?_eq_none.2 fun f hf hwaits => ?_
    rw [Bool.and_eq_true, beq_iff_eq] at hwaits
    rw [h f hf hwaits.1] at hwaits
    exact absurd hwaits.2 (by decide)
  rw [Runs, exec_upstreamManifestTimeout, execUpstreamManifestTimeout, onSys_eq]
  refine congrArg (fun z : Sys => Host.Outcome.next { s with sys := z }) ?_
  simp only [hnone]

theorem upstreamManifestTimeout_ends (s : State) (x : Fin 16) (f : Frame) (hf : (s.sys.frames.find? fun f => f.ctx == x.val && f.upWait) = some f)
    (hroom : Room s) : Completes (.upstreamManifestTimeout x) s fun t =>
      (∀ g ∈ t.sys.frames, g.ctx = f.ctx → g.num = f.num → g.upWait = false) ∧ Logs s t 0x1506 x.val (ev [(0, 1, x.val), (4, 4, f.num)]) ∧
      Leaves [.frames, .log] (only []) (only []) s t := by
  obtain ⟨y, hy⟩ : ∃ y, y = s.sys.onFrame f.ctx f.num fun f => { f with upWait := false } := ⟨_, rfl⟩
  have hruns : Runs (.upstreamManifestTimeout x) s (y.raise 0x1506 x.val (ev [(0, 1, x.val), (4, 4, f.num)])) := by
    rw [Runs, exec_upstreamManifestTimeout, execUpstreamManifestTimeout, onSys_eq]
    refine congrArg (fun z : Sys => Host.Outcome.next { s with sys := z }) ?_
    simp only [hf, hy]
  refine ⟨_, hruns, fun g hg hctx hnum => ?_, ?_, rfl, rfl, ?_⟩
  · have hframes : (y.raise 0x1506 x.val (ev [(0, 1, x.val), (4, 4, f.num)])).frames = y.frames := Sys.raise_frames ..
    rw [hframes, hy] at hg
    obtain ⟨e, -, rfl⟩ := List.mem_map.1 hg
    split at hctx
    next h => rw [if_pos h]
    next h =>
      rw [if_neg h] at hnum
      exact absurd (by simp [hctx, hnum]) h
  · simp only [Logs]
    rw [hy, Sys.log_raise _ _ _ _ (by exact hroom)]
    rfl
  · rw [sameBut_raise_iff _ _ _ (by simp), hy]
    exact .of_facets rfl rfl fun p hp => by cases p with | frames => simp at hp | _ => rfl

/-! ## Calibration -/

theorem acting_felley (s : State) (w : Writer) : acting s.otp s.sys w (ent 0x4D00 6) (le 2 1) = some (plainR s.sys.felleyCalibrate) := by
  rw [acting_store (by decide) (by decide)]
  rfl

theorem isRwc_felley : isRwc (ent 0x4D00 6) = false := by decide +kernel

theorem plainKey_felley : plainKey (ent 0x4D00 6) := .inr (.inr (.inr (.inr (.inr (.inr (.inr (by decide)))))))

theorem felleyCalibrate_refused (s : State) (w : Writer)
    (h : s.sys.view.role ≠ 1 ∨ s.sys.tbState ≠ 2 ∨ 32 ≤ s.sys.rd (ent 0x4D00 5) ∨ s.sys.tioFn (s.sys.rd (ent 0x4D00 5)) ≠ 7) :
    ¬ Granted s w (ent 0x4D00 6) (le 2 1) := by
  intro hg
  have hq : s.sys.felleyCalibrate = (.state, s.sys) := if_pos h
  have hok := acts_of_admitted hg.1 isRwc_felley (acting_felley s w) (by rw [hq]; exact nofun)
  rw [hq] at hok
  exact absurd hok nofun

/-- The stamps of a calibration that starts. -/
def Sys.calibrates (y : Sys) : Sys := (y.wr (ent 0x4D01 0x0C) 1).setLink 4 { y.link 4 with heads := [], bases := [] }

theorem felleyCalibrate_starts (s : State) (w : Writer) (hg : Granted s w (ent 0x4D00 6) (le 2 1)) : Completes (.felleyCalibrate w) s fun t =>
    t.sys.rd (ent 0x4D01 0x0C) = 1 ∧ (t.sys.link 4).heads = [] ∧ (t.sys.link 4).bases = [] ∧ t.otp = s.otp ∧ t.pending = s.pending := by
  obtain ⟨hq, t, hexec, hfollow, hotp, hpending⟩ := acting_does (c := .felleyCalibrate w) rfl hg.1 isRwc_felley plainKey_felley (by unfold ent; omega)
    (acting_felley s w) (p := s.sys.felleyCalibrate.2 = s.sys.calibrates) fun h => by
      unfold Sys.felleyCalibrate at h ⊢
      extract_lets at h ⊢
      split at h
      · simp [plainR] at h
      next hgo =>
        rw [if_neg hgo]
        exact ⟨rfl, rfl, rfl, rfl⟩
  have hlink : t.sys.link 4 = { s.sys.link 4 with heads := [], bases := [] } := by
    rw [hfollow.felley]
    change s.sys.felleyCalibrate.2.link 4 = _
    rw [hq]
    exact (Sys.link_setLink ..).trans (if_pos rfl)
  refine ⟨t, hexec, ?_, by rw [hlink], by rw [hlink], hotp, hpending⟩
  refine (hfollow.rd_eq (by simp [followNums, ent])).trans ?_
  change s.sys.felleyCalibrate.2.rd _ = _
  rw [hq]
  exact (Sys.rd_setLink ..).trans ((Sys.rd_wr ..).trans (if_pos rfl))

/-- A calibration whose pulse pairs are in. -/
def Sys.calibrated (y : Sys) (d : List Int) : Sys :=
  let index := if y.rd (ent 0x4D01 4) = 1 then 1 else 0
  let old := y.rdI y.felleyAsymKey
  let z := y.setLink 4 { y.link 4 with heads := [], bases := [] }
  if d.length < 56 ∨ 20000 < d.foldl max (d.headD 0) - d.foldl min (d.headD 0) then
    (z.wr (ent 0x4D01 0x0C) 3).raise 0x1507 255 (ev [(0, 1, index), (1, 1, 1), (4, 4, ofI 32 old)])
  else
    ((z.wrI z.felleyAsymKey (old + 2 * d.sum / d.length)).wr (ent 0x4D01 0x0C) 2).raise 0x1507 255
      (ev [(0, 1, index), (4, 4, ofI 32 (old + 2 * d.sum / d.length)), (8, 4, ofI 32 (2 * d.sum / d.length))])

theorem felleyCalibrationDone_runs (s : State) (h : s.sys.rd (ent 0x4D01 0x0C) = 1) :
    Runs .felleyCalibrationDone s (s.sys.calibrated ((pulsePairs (s.sys.link 4).heads (s.sys.link 4).bases).take 64)) := by
  rw [Runs, exec_felleyCalibrationDone, execFelleyCalibrationDone, onSys_eq]
  exact congrArg (fun z : Sys => Host.Outcome.next { s with sys := z }) (if_neg (not_not.2 h))

theorem felleyCalibrationDone_fails (s : State) (h : s.sys.rd (ent 0x4D01 0x0C) = 1)
    (hfew : (pulsePairs (s.sys.link 4).heads (s.sys.link 4).bases).length < 56) (hroom : Room s) : Completes .felleyCalibrationDone s fun t =>
      t.sys.rd (ent 0x4D01 0x0C) = 3 ∧ (t.sys.link 4).heads = [] ∧
      Logs s t 0x1507 255 (ev [(0, 1, if s.sys.rd (ent 0x4D01 4) = 1 then 1 else 0), (1, 1, 1), (4, 4, ofI 32 (s.sys.rdI s.sys.felleyAsymKey))]) ∧
      Leaves [.links, .log] (only [ent 0x4D01 0x0C]) (only []) s t := by
  have hruns := felleyCalibrationDone_runs s h
  obtain ⟨d, hd⟩ : ∃ d, d = (pulsePairs (s.sys.link 4).heads (s.sys.link 4).bases).take 64 := ⟨_, rfl⟩
  have hlen : d.length < 56 := by
    rw [hd, List.length_take]
    omega
  rw [← hd, Sys.calibrated] at hruns
  simp only [hlen, true_or, if_true] at hruns
  refine ⟨_, hruns, ?_, ?_, ?_, rfl, rfl, ?_⟩
  · rw [Sys.rd_raise, Sys.rd_wr, if_pos rfl]
  · exact congrArg Link.heads ((Sys.link_congr ((Sys.raise_links ..).trans (Sys.wr_links ..)) 4).trans ((Sys.link_setLink ..).trans (if_pos rfl)))
  · simp only [Logs]
    rw [Sys.log_raise _ _ _ _ (by exact hroom)]
    rfl
  · rw [sameBut_raise_iff _ _ _ (by simp)]
    exact (sameBut_setLink _ _ (by simp)).trans (sameBut_wr _ _ _ (by simp))

theorem Sys.felleyAsymKey_lt (y : Sys) : y.felleyAsymKey < ent 0x4D01 0 := by
  unfold Sys.felleyAsymKey ent
  split <;> omega

theorem felleyCalibrationDone_corrects (s : State) (h : s.sys.rd (ent 0x4D01 0x0C) = 1) :
    let d := (pulsePairs (s.sys.link 4).heads (s.sys.link 4).bases).take 64
    56 ≤ d.length → d.foldl max (d.headD 0) - d.foldl min (d.headD 0) ≤ 20000 → Completes .felleyCalibrationDone s fun t =>
      t.sys.rd (ent 0x4D01 0x0C) = 2 ∧
      t.sys.rd s.sys.felleyAsymKey = ofI 32 (satI32 (s.sys.rdI s.sys.felleyAsymKey + 2 * d.sum / d.length)) ∧
      Leaves [.links, .log] (only [ent 0x4D01 0x0C, s.sys.felleyAsymKey]) (only []) s t := by
  intro d hmany hclose
  have hruns := felleyCalibrationDone_runs s h
  have hfits : ¬ (d.length < 56 ∨ 20000 < d.foldl max (d.headD 0) - d.foldl min (d.headD 0)) := by omega
  have hne : s.sys.felleyAsymKey ≠ ent 0x4D01 0x0C := by
    have := s.sys.felleyAsymKey_lt
    unfold ent at *
    omega
  obtain ⟨z, hz⟩ : ∃ z, z = s.sys.setLink 4 { s.sys.link 4 with heads := [], bases := [] } := ⟨_, rfl⟩
  have hkey : z.felleyAsymKey = s.sys.felleyAsymKey := by rw [hz]; rfl
  change Runs .felleyCalibrationDone s (s.sys.calibrated d) at hruns
  rw [Sys.calibrated] at hruns
  simp only [if_neg hfits, ← hz, hkey] at hruns
  refine ⟨_, hruns, ?_, ?_, rfl, rfl, ?_⟩
  · rw [Sys.rd_raise, Sys.rd_wr, if_pos rfl]
  · rw [Sys.rd_raise, Sys.rd_wr, if_neg hne, Sys.wrI_eq, Sys.rd_wr, if_pos rfl]
  · rw [sameBut_raise_iff _ _ _ (by simp), hz]
    exact ((sameBut_setLink _ _ (by simp)).trans (sameBut_wr _ _ _ (by simp))).trans (sameBut_wr _ _ _ (by simp))

/-- Settles O60. -/
theorem felleyCarriesControlStreamsAndTime : Obligations.FelleyCarriesControlStreamsAndTime := by
  unfold Obligations.FelleyCarriesControlStreamsAndTime
  exact ⟨felleyLinkHello_idle, felleyLinkHello_refuses, felleyLinkHello_opens, felleyControlFrame_answers, felleyControlResend_idle,
    felleyControlResend_again, felleyControlResend_givesUp, felleyStreamSend_empty, felleyStreamSend_serves, felleyStreamFrame_down,
    felleyStreamFrame_begins, felleyStreamFrame_damaged, felleyFrameInfo_short, felleyFrameInfo_kept, felleyTimeMarker_down, felleyTimeMarker_shows,
    upstreamManifestTimeout_idle, upstreamManifestTimeout_ends, felleyCalibrate_starts, felleyCalibrate_refused, felleyCalibrationDone_fails,
    felleyCalibrationDone_corrects⟩

end Sys2Proof.Machine
end

section
/-!
PROOFS. The governor's window and its ceilings (O15): the demand on a rail does not read the governor's own entries.
-/

namespace Sys2Proof.Machine

variable {g g' : Gen} {y z : Sys} {s : State} {w : Writer}

/-! ## Demand and the governor's entries -/

/-- Both generations have the same octets everywhere, the same role, and the same numbers from the lanes' pages on. -/
structure SameReads (g g' : Gen) : Prop where
  rd : ∀ {i e : Nat}, 0x2400 ≤ i → g'.rd (ent i e) = g.rd (ent i e)
  rdB : ∀ k : Nat, g'.rdB k = g.rdB k
  role : g'.role = g.role

theorem SameReads.active (h : SameReads g g') : g'.active = g.active := by
  funext x
  simp (disch := omega) only [Gen.active, h.rd]

theorem SameReads.period (h : SameReads g g') : g'.period = g.period := by
  funext x
  simp (disch := omega) only [Gen.period, h.rd]

theorem SameReads.fps (h : SameReads g g') : g'.fps = g.fps := by
  funext x
  simp (disch := omega) only [Gen.fps, h.period]

theorem SameReads.height (h : SameReads g g') : g'.height = g.height := by
  funext x
  simp (disch := omega) only [Gen.height, h.rd, h.rdB]

theorem SameReads.winTop (h : SameReads g g') : g'.winTop = g.winTop := by
  funext x
  simp (disch := omega) only [Gen.winTop, h.rd]

theorem SameReads.winHeight (h : SameReads g g') : g'.winHeight = g.winHeight := by
  funext x
  simp (disch := omega) only [Gen.winHeight, h.height, h.rd, h.winTop]

theorem SameReads.bandLines (h : SameReads g g') : g'.bandLines = g.bandLines := by
  funext x
  simp (disch := omega) only [Gen.bandLines, h.rd, h.role, h.winHeight]

theorem SameReads.linesTaken (h : SameReads g g') : g'.linesTaken = g.linesTaken := by
  funext x
  simp (disch := omega) only [Gen.linesTaken, h.bandLines, h.height, h.rd, h.role]

theorem SameReads.width (h : SameReads g g') : g'.width = g.width := by
  funext x
  simp (disch := omega) only [Gen.width, h.rd, h.rdB]

theorem SameReads.frameRate (h : SameReads g g') : g'.frameRate = g.frameRate := by
  funext x
  simp (disch := omega) only [Gen.frameRate, h.fps, h.linesTaken, h.width]

theorem SameReads.rawOn (h : SameReads g g') : g'.rawOn = g.rawOn := by
  simp (disch := omega) only [Gen.rawOn, h.active, h.rd]

theorem SameReads.running (h : SameReads g g') : g'.running = g.running := by
  simp (disch := omega) only [Gen.running, h.active]

theorem SameReads.rcuLoad (h : SameReads g g') : g'.rcuLoad = g.rcuLoad := by
  simp (disch := omega) only [Gen.rcuLoad, h.active, h.frameRate, h.rawOn, h.rd, h.running]

theorem SameReads.decLuma (h : SameReads g g') : g'.decLuma = g.decLuma := by
  funext p
  simp (disch := omega) only [Gen.decLuma, h.frameRate]

theorem SameReads.decOn (h : SameReads g g') : g'.decOn = g.decOn := by
  simp (disch := omega) only [Gen.decOn, h.rd]

theorem SameReads.es (h : SameReads g g') : g'.es = g.es := by
  funext e i
  simp (disch := omega) only [Gen.es, h.rd]

theorem SameReads.winLeft (h : SameReads g g') : g'.winLeft = g.winLeft := by
  funext x
  simp (disch := omega) only [Gen.winLeft, h.rd]

theorem SameReads.winWidth (h : SameReads g g') : g'.winWidth = g.winWidth := by
  funext x
  simp (disch := omega) only [Gen.winWidth, h.rd, h.width, h.winLeft]

theorem SameReads.binding (h : SameReads g g') : g'.binding = g.binding := by
  funext x n
  simp (disch := omega) only [Gen.binding, h.rdB, h.winHeight, h.winWidth]

theorem SameReads.esLuma (h : SameReads g g') : g'.esLuma = g.esLuma := by
  funext e
  simp (disch := omega) only [Gen.esLuma, h.binding, h.es, h.fps]

theorem SameReads.esOn (h : SameReads g g') : g'.esOn = g.esOn := by
  simp (disch := omega) only [Gen.esOn, h.es]

theorem SameReads.coreStreams (h : SameReads g g') : g'.coreStreams = g.coreStreams := by
  funext c
  simp (disch := omega) only [Gen.coreStreams, h.decLuma, h.decOn, h.es, h.esLuma, h.esOn, h.fps, h.rd]

theorem SameReads.coreLoad (h : SameReads g g') : g'.coreLoad = g.coreLoad := by
  funext c
  simp (disch := omega) only [Gen.coreLoad, h.coreStreams]

theorem SameReads.hevcLoad (h : SameReads g g') : g'.hevcLoad = g.hevcLoad := by
  simp (disch := omega) only [Gen.hevcLoad, h.coreLoad, h.decLuma, h.decOn, h.esLuma, h.esOn]

theorem SameReads.auRate (h : SameReads g g') : g'.auRate = g.auRate := by
  funext e
  simp (disch := omega) only [Gen.auRate, h.es, h.fps]

theorem SameReads.depthOf (h : SameReads g g') : g'.depthOf = g.depthOf := by
  funext x
  simp (disch := omega) only [Gen.depthOf, h.rd]

theorem SameReads.packedRate (h : SameReads g g') : g'.packedRate = g.packedRate := by
  funext x
  simp (disch := omega) only [Gen.packedRate, h.depthOf, h.frameRate]

theorem SameReads.rawDest (h : SameReads g g') : g'.rawDest = g.rawDest := by
  funext n b
  simp (disch := omega) only [Gen.rawDest, h.rd]

theorem SameReads.rawRate (h : SameReads g g') : g'.rawRate = g.rawRate := by
  funext n
  simp (disch := omega) only [Gen.rawRate, h.packedRate, h.rd]

theorem SameReads.usesRfe (h : SameReads g g') : g'.usesRfe = g.usesRfe := by
  funext x
  simp (disch := omega) only [Gen.usesRfe, h.rd]

theorem SameReads.rawRunning (h : SameReads g g') : g'.rawRunning = g.rawRunning := by
  simp (disch := omega) only [Gen.rawRunning, h.running, h.usesRfe]

theorem SameReads.hashLoad (h : SameReads g g') : g'.hashLoad = g.hashLoad := by
  simp (disch := omega) only [Gen.hashLoad, h.auRate, h.esOn, h.packedRate, h.rawDest, h.rawOn, h.rawRate, h.rawRunning]

theorem SameReads.windowPixels (h : SameReads g g') : g'.windowPixels = g.windowPixels := by
  funext x
  simp (disch := omega) only [Gen.windowPixels, h.bandLines, h.winWidth]

theorem SameReads.windowRate (h : SameReads g g') : g'.windowRate = g.windowRate := by
  funext x
  simp (disch := omega) only [Gen.windowRate, h.fps, h.windowPixels]

theorem SameReads.image (h : SameReads g g') : g'.image = g.image := by
  funext s
  simp (disch := omega) only [Gen.image, h.rdB]

theorem SameReads.lookSlot (h : SameReads g g') : g'.lookSlot = g.lookSlot := by
  funext x
  simp (disch := omega) only [Gen.lookSlot, h.rd]

theorem SameReads.hasLook (h : SameReads g g') : g'.hasLook = g.hasLook := by
  funext x
  simp (disch := omega) only [Gen.hasLook, h.image, h.lookSlot]

theorem SameReads.bandFirst (h : SameReads g g') : g'.bandFirst = g.bandFirst := by
  funext x
  simp (disch := omega) only [Gen.bandFirst, h.rd, h.role]

theorem SameReads.outLines (h : SameReads g g') : g'.outLines = g.outLines := by
  funext x b
  simp (disch := omega) only [Gen.outLines, h.bandFirst, h.bandLines, h.winHeight]

theorem SameReads.stripeH (h : SameReads g g') : g'.stripeH = g.stripeH := by
  funext x
  simp (disch := omega) only [Gen.stripeH, h.rd]

theorem SameReads.stripes (h : SameReads g g') : g'.stripes = g.stripes := by
  funext x
  simp (disch := omega) only [Gen.stripes, h.bandLines, h.stripeH]

theorem SameReads.stripeLines (h : SameReads g g') : g'.stripeLines = g.stripeLines := by
  funext x k
  simp (disch := omega) only [Gen.stripeLines, h.bandLines, h.stripeH, h.stripes]

theorem SameReads.stripeMax (h : SameReads g g') : g'.stripeMax = g.stripeMax := by
  funext x
  simp (disch := omega) only [Gen.stripeMax, h.stripeLines, h.stripes]

theorem SameReads.segWidth (h : SameReads g g') : g'.segWidth = g.segWidth := by
  funext x
  simp (disch := omega) only [Gen.segWidth, h.stripeMax]

theorem SameReads.segs (h : SameReads g g') : g'.segs = g.segs := by
  funext x
  simp (disch := omega) only [Gen.segs, h.segWidth, h.winWidth]

theorem SameReads.groups (h : SameReads g g') : g'.groups = g.groups := by
  funext x b
  simp (disch := omega) only [Gen.groups, h.outLines, h.segWidth, h.segs]

theorem SameReads.frameOps (h : SameReads g g') : g'.frameOps = g.frameOps := by
  funext x kind
  simp (disch := omega) only [Gen.frameOps, h.binding, h.groups, h.image, h.lookSlot, h.stripes]

theorem SameReads.reserve (h : SameReads g g') : g'.reserve = g.reserve := by
  funext x
  simp (disch := omega) only [Gen.reserve, h.segs, h.usesRfe]

theorem SameReads.reserveSum (h : SameReads g g') : g'.reserveSum = g.reserveSum := by
  funext l
  simp (disch := omega) only [Gen.reserveSum, h.active, h.reserve]

/-! ## The demand on a rail -/

/-- Both states have the same numbers from the lanes' pages on. -/
structure SameHigh (y z : Sys) : Prop where
  rd : ∀ {i e : Nat}, 0x2400 ≤ i → z.rd (ent i e) = y.rd (ent i e)

theorem SameHigh.rfeLoad (hy : SameHigh y z) (hg : SameReads g g') : z.rfeLoad g' = y.rfeLoad g := by
  simp (disch := omega) only [Sys.rfeLoad, hy.rd, hg.rd, hg.rawRunning, hg.windowRate]

theorem SameHigh.troupesIn (hy : SameHigh y z) : z.troupesIn = y.troupesIn := by
  have hrun : z.troupeRun = y.troupeRun := by
    funext t
    simp (disch := omega) only [Sys.troupeRun, Sys.domainRun, hy.rd]
  rw [Sys.troupesIn, Sys.troupesIn, hrun]

theorem SameHigh.colourLoad (hy : SameHigh y z) (hg : SameReads g g') : z.colourLoad g' = y.colourLoad g := by
  simp only [Sys.colourLoad, hy.troupesIn, hg.running, hg.hasLook, hg.frameOps, hg.fps, hg.reserveSum]

theorem filter_tagged {α : Type} (p : Nat → Bool) (c : Nat) (l : List α) :
    (l.map fun a => (c, a)).filter (fun d => p d.1) = if p c then l.map fun a => (c, a) else [] := by
  rw [List.filter_map]
  by_cases h : p c = true
  · simp [h, Function.comp_def]
  · simp [h, Function.comp_def]

/-- The shares of the colour engines and of the other fabric blocks do not read the governor's entries. -/
theorem SameHigh.railDemand (hy : SameHigh y z) (hg : SameReads g g') : z.railDemand g' = y.railDemand g := by
  have hfilter : ∀ p : Nat → Bool, p 0 = false → p 6 = false → p 7 = false → p 8 = false → p 9 = false →
      (z.demands g').filter (fun d => p d.1) = (y.demands g).filter (fun d => p d.1) := fun p h0 h6 h7 h8 h9 => by
    simp only [Sys.demands, List.filter_append, filter_tagged, h0, h7, h8, h9, Bool.false_eq_true, if_false, hy.rfeLoad hg, hy.colourLoad hg, hg.rcuLoad,
      hg.hevcLoad, hg.hashLoad, List.filter_cons, h6]
  unfold Sys.railDemand
  simp only [hfilter (fun c => c == 2) rfl rfl rfl rfl rfl, hfilter (fun c => c == 1 || (decide (3 ≤ c) && decide (c ≤ 5))) rfl rfl rfl rfl rfl]

/-! ## The dictionary that a commit would make live -/

/-- The two states differ at most in numbers below the lanes' pages, the role excepted. -/
structure SameEntries (y z : Sys) : Prop extends SameHigh y z where
  rdB : ∀ k : Nat, z.rdB k = y.rdB k
  straps : z.rd (ent 0x2010 1) = y.rd (ent 0x2010 1)

theorem SameEntries.wr (h : SameEntries y z) (k v : Nat) : SameEntries (y.wr k v) (z.wr k v) := by
  refine ⟨⟨fun {i e} hi => ?_⟩, h.rdB, ?_⟩
  · rw [Sys.rd_wr, Sys.rd_wr, h.rd hi]
  · rw [Sys.rd_wr, Sys.rd_wr, h.straps]

theorem SameEntries.wrB (h : SameEntries y z) (k : Nat) (v : Bytes) : SameEntries (y.wrB k v) (z.wrB k v) :=
  ⟨⟨h.rd⟩, fun j => by rw [Sys.rdB_wrB, Sys.rdB_wrB, h.rdB], h.straps⟩

theorem SameEntries.putEntry (h : SameEntries y z) (k : Nat) (v : Bytes) : SameEntries (y.putEntry k v) (z.putEntry k v) := by
  unfold Sys.putEntry
  cases keyDef k with
  | none => exact h
  | some r =>
    dsimp only
    cases r.type with
    | str | blob _ => exact h.wrB k v
    | _ => exact h.wr k (unLe v)

theorem SameEntries.foldl {α : Type} {f : Sys → α → Sys} (hf : ∀ {y z : Sys} (a : α), SameEntries y z → SameEntries (f y a) (f z a)) :
    ∀ (l : List α) {y z : Sys}, SameEntries y z → SameEntries (l.foldl f y) (l.foldl f z)
  | [], _, _, h => h
  | a :: l, _, _, h => SameEntries.foldl hf l (hf a h)

theorem SameEntries.planned (h : SameEntries y z) (hl : z.den.latched = y.den.latched) : SameEntries y.planned z.planned := by
  unfold Sys.planned
  rw [hl]
  exact SameEntries.foldl (fun u h => SameEntries.foldl (fun m h => h.putEntry m.1 m.2) u.members h) _ h

theorem SameEntries.view (h : SameEntries y z) : SameReads y.view z.view :=
  ⟨fun hi => h.rd hi, h.rdB, congrArg (· % 4) h.straps⟩

/-- A commit that changes no number from the lanes' pages on asks for no other voltage. -/
theorem SameEntries.demand (h : SameEntries y z) (hl : z.den.latched = y.den.latched) :
    z.railDemand z.planned.view = y.railDemand y.planned.view := h.toSameHigh.railDemand (h.planned hl).view

theorem SameEntries.of_wr (y : Sys) {k v : Nat} (hk : k < ent 0x2400 0) (hrole : k ≠ ent 0x2010 1) : SameEntries y (y.wr k v) := by
  refine ⟨⟨fun {i e} hi => (Sys.rd_wr ..).trans (if_neg ?_)⟩, fun _ => rfl, (Sys.rd_wr ..).trans (if_neg (Ne.symm hrole))⟩
  unfold ent at *
  omega

theorem SameEntries.trans {x : Sys} (h : SameEntries x y) (g : SameEntries y z) : SameEntries x z :=
  ⟨⟨fun hi => (g.rd hi).trans (h.rd hi)⟩, fun k => (g.rdB k).trans (h.rdB k), g.straps.trans h.straps⟩

/-! ## A write that asks for no other voltage -/

theorem Sys.raiseAhead_same (y : Sys) (x : Nat) (target : Option Nat) {before after : Nat × Nat} (h : after = before) :
    y.raiseAhead x target before after = y := by
  subst h
  simp [Sys.raiseAhead]

/-- What follows the unit of a command's write is one count in the dictionary. -/
theorem writes_afterWrite (z y : Sys) (w : Writer) (k : Nat) (v : Bytes) : Writes [.at 0x1104 4] z (z.afterUnit (writeUnit y w k v, .ok, 0, 0)) := by
  have hanswer (z : Sys) : z.answer (writeUnit y w k v) .ok 0 0 = z := by
    unfold Sys.answer
    simp [writeUnit]
  unfold Sys.afterUnit
  simp only [show (writeUnit y w k v).position = none from rfl, show (writeUnit y w k v).gtag = 0 from rfl, show ¬ Status.ok = .superseded by decide,
    if_false, if_true, ne_eq, not_true_eq_false, true_or, hanswer]
  have hmirror : Writes [.at 0x1104 4] z (((z.inc64 (ent 0x1104 4) 1).shareArray (z.inc64 (ent 0x1104 4) 1).arrayPos (writeUnit y w k v).members).mirrorUnit
      (writeUnit y w k v) .ok).2 := by
    rw [writes_mirrorUnit, writes_shareArray]
    exact fun j hj => ⟨(Sys.rd_wr ..).trans (if_neg (hj (.at 0x1104 4) (by simp))), rfl⟩
  generalize ((z.inc64 (ent 0x1104 4) 1).shareArray (z.inc64 (ent 0x1104 4) 1).arrayPos (writeUnit y w k v).members).mirrorUnit (writeUnit y w k v) .ok = m
    at hmirror ⊢
  split
  · exact hmirror
  · split
    · exact hmirror
    · exact hmirror

/-- A granted write of a plain entry that asks for no other voltage: the numbers that stand after it are those of the entry's own effect. -/
theorem write_quiet {c : Instr} {k : Nat} {v : Bytes} {r : Result} (hw : writeOf c = some (w, k, v)) (hk : isRwc k = false) (hcur : k ≠ ent 0x1300 5)
    (hplain : plainKey k) (ha : Admitted s w k v) (hr : s.sys.entryApply s.otp w k v = r) (hok : r.1 = .ok) (hdue : r.2.2.boot.due = none)
    (hsave : r.2.2.den.saving = s.sys.den.saving) (hdemand : r.2.2.railDemand r.2.2.planned.view = s.sys.railDemand s.sys.planned.view) :
    Completes c s fun t => (∀ j, j < ent 0x4D01 0 → j ≠ ent 0x1104 4 → t.sys.rd j = r.2.2.rd j) ∧ t.otp = s.otp.applyAll r.2.1 ∧ t.pending = s.pending := by
  have hg : Granted s w k v := .of_plain ha hk hplain (hr ▸ hok)
  obtain ⟨⟨hphase, harr, -⟩, hgo⟩ := hg
  have hm : s.sys.mirrorOnly w k = false := Sys.mirrorOnly_of_tableCheck ((Sys.arrival_ok_iff hk).1 harr).1
  obtain ⟨-, -, hdone⟩ := Sys.commitUnit_one s.otp s.sys w k v hk
  rw [Sys.commitMember_apply hk hm, hr] at hdone
  have hd := hdone hgo r.2.2 (Sys.prepare_of_plainKey hplain _ _)
  rw [Sys.committed, Sys.raiseAhead_same _ _ _ hdemand] at hd
  obtain ⟨d, hdd⟩ : ∃ d, d = r.2.2.showRates [(k, v)] := ⟨_, rfl⟩
  rw [← hdd] at hd
  have hfollow : Followed r.2.2 d := hdd ▸ followed_showRates ..
  have hrates : Writes [.above 0x4D10 5, .at 0x4D01 11] r.2.2 d := by
    rw [hdd]
    exact (writes_showRates _ _ (by simp)).2 (.refl _)
  have hstore : d.storeSlot s.sys = d := by
    rw [Sys.storeSlot, show d.den = r.2.2.den from (hfollow.same.1 .den (by simp)).symm, hsave]
    cases s.sys.den.saving <;> rfl
  have hafter := hfollow.trans (followed_afterUnit d s.sys w k v .ok 0 0 (.inl rfl))
  have hreset : Sys.resetDue (d.afterUnit (writeUnit s.sys w k v, .ok, 0, 0)) = d.afterUnit (writeUnit s.sys w k v, .ok, 0, 0) := by
    rw [Sys.resetDue, show (d.afterUnit (writeUnit s.sys w k v, .ok, 0, 0)).boot = r.2.2.boot from (hafter.same.1 .boot (by simp)).symm, hdue]
  have hexec : exec c s = .next { s with
      otp := s.otp.applyAll r.2.1, sys := d.afterUnit (writeUnit s.sys w k v, .ok, 0, 0) } := by
    rw [exec_of_writeOf hw, writeStep, run_eq]
    simp only [Sys.writeNow, hphase, ne_eq, not_true_eq_false, if_false, harr, hcur, hd, hstore, hreset]
  refine ⟨_, hexec, fun j hj hne => ?_, rfl, rfl⟩
  refine ((writes_afterWrite d s.sys w k v).rd_eq (by simpa [Spot.hits] using hne)).trans (hrates.rd_eq ?_)
  simp only [Spot.hits, List.mem_cons, List.not_mem_nil, or_false, forall_eq_or_imp, forall_eq, ent] at hj ⊢
  omega

/-! ## Ceilings -/

theorem ceilKey_fits (r : RailName) : isRwc (ceilKey r) = false ∧ plainKey (ceilKey r) ∧ ceilKey r ≠ ent 0x1300 5 := by
  cases r
  · exact ⟨by decide +kernel, .inl (by decide), by decide⟩
  · exact ⟨by decide +kernel, .inl (by decide), by decide⟩

theorem acting_ceiling (o : Otp) (y : Sys) (w : Writer) (r : RailName) (v : Bytes) : acting o y w (ceilKey r) v = none := by
  unfold ceilKey
  rw [acting_system (by decide) (by cases r <;> decide)]
  cases r <;> rfl

theorem Sys.ownRule_ceiling (y : Sys) (r : RailName) (v : Bytes) : y.ownRule (ceilKey r) v = Status.range.unless (y.ceilingOk r (unLe v)) := by
  have hi : ceilKey r / 256 = 0x2200 := by cases r <;> decide
  have hsys : y.ruleSystem 0x2200 (ceilKey r % 256) (unLe v) = Status.range.unless (y.ceilingOk r (unLe v)) := by cases r <;> rfl
  unfold Sys.ownRule
  simp only [hi, hsys]
  by_cases hok : Status.range.unless (y.ceilingOk r (unLe v)) = .ok
  · have hunits (i : Nat) : y.ruleUnits 0x2200 i (unLe v) = .ok := by unfold Sys.ruleUnits; simp
    have hcontext (i : Nat) : y.ruleContext 0x2200 i (unLe v) v = .ok := by unfold Sys.ruleContext; simp
    have houtput (i : Nat) : Sys.ruleOutput 0x2200 i (unLe v) v = .ok := by unfold Sys.ruleOutput; simp
    have hstore (i : Nat) : y.ruleStore 0x2200 i (unLe v) = .ok := by unfold Sys.ruleStore; simp
    simp [Status.first, hok, hunits, hcontext, houtput, hstore]
  · exact if_neg hok

/-- What a write of a ceiling does: it is refused where the value does not fit, and otherwise it is the ceiling. -/
theorem Sys.entryWrite_ceiling (o : Otp) (y : Sys) (w : Writer) (r : RailName) (v : Bytes) :
    y.entryWrite o w (ceilKey r) v = if y.ceilingOk r (unLe v) then okR (y.putLive o (ceilKey r) v) else y.refuse .range := by
  have hnone := acting_ceiling o y w r v
  unfold acting at hnone
  unfold Sys.entryWrite Sys.entryEffect
  simp only [hnone, Sys.ownRule_ceiling]
  cases y.ceilingOk r (unLe v) <;> rfl

theorem Sys.entryApply_ceiling (o : Otp) (y : Sys) (w : Writer) (r : RailName) (v : Bytes) :
    y.entryApply o w (ceilKey r) v = okR (y.putLive o (ceilKey r) v) := by
  have hnone := acting_ceiling o y w r v
  unfold acting at hnone
  unfold Sys.entryApply Sys.entryEffect
  simp only [hnone, Sys.ownRule_ceiling]
  cases y.ceilingOk r (unLe v) <;> rfl

theorem Sys.putEntry_ceiling (y : Sys) (r : RailName) (v : Bytes) : y.putEntry (ceilKey r) v = y.wr (ceilKey r) (unLe v) := by
  have hkey : (keyDef (ceilKey r)).map (·.type) = some .u16 := by cases r <;> decide +kernel
  obtain ⟨d, hd, ht⟩ := Option.map_eq_some_iff.1 hkey
  simp only [Sys.putEntry, hd, ht]

theorem Sys.putLive_ceiling (o : Otp) (y : Sys) (r : RailName) (v : Bytes) : y.putLive o (ceilKey r) v = y.ceilingWritten r (unLe v) := by
  have hrd : (y.wr (ceilKey r) (unLe v)).rd (ceilKey r) = unLe v := (Sys.rd_wr ..).trans (if_pos rfl)
  rw [Sys.putLive, Sys.putEntry_ceiling]
  refine Eq.trans ?_ (congrArg (y.ceilingWritten r) hrd)
  cases r <;> rfl

/-- A ceiling in AUTO mode: a rail above it falls to it, and nothing else moves. -/
theorem Sys.ceilingWritten_auto (y : Sys) (r : RailName) (v : Nat) (hauto : y.govFixed = false) :
    (y.ceilingWritten r v).rd (ceilKey r) = v ∧ (y.ceilingWritten r v).rd (railKey r) = min v (y.rd (railKey r)) ∧
    SameEntries y (y.ceilingWritten r v) ∧ (y.ceilingWritten r v).boot = y.boot ∧ (y.ceilingWritten r v).den = y.den := by
  have hne : railKey r ≠ ceilKey r := by cases r <;> decide
  have hstate : ceilKey r ≠ railStateKey r := by cases r <;> decide
  have hrail : railKey r ≠ railStateKey r := railKey_ne_railStateKey r
  have hlow : ∀ k ∈ [ceilKey r, railKey r, railStateKey r], k < ent 0x2400 0 ∧ k ≠ ent 0x2010 1 := by cases r <;> decide
  have hput : SameEntries y (y.wr (ceilKey r) v) := .of_wr y (hlow _ (by simp)).1 (hlow _ (by simp)).2
  obtain ⟨z, hz⟩ : ∃ z, z = y.wr (ceilKey r) v := ⟨_, rfl⟩
  have hfixed : z.govFixed = false := by
    have : ent 0x2200 1 ≠ ceilKey r := by cases r <;> decide
    rw [hz, Sys.govFixed, Sys.rd_wr, if_neg this]
    exact hauto
  have hzr : z.rd (railKey r) = y.rd (railKey r) := by rw [hz, Sys.rd_wr, if_neg hne]
  have hzc : z.rd (ceilKey r) = v := by rw [hz, Sys.rd_wr, if_pos rfl]
  have hzb : z.boot = y.boot ∧ z.den = y.den := by rw [hz]; exact ⟨rfl, rfl⟩
  unfold Sys.ceilingWritten
  rw [← hz] at hput ⊢
  simp only [hfixed, Bool.false_eq_true, if_false, hzr]
  split
  next hlt =>
    refine ⟨(Sys.rd_wr ..).trans ((if_neg hne.symm).trans hzc), (Sys.rd_wr ..).trans ((if_pos rfl).trans (by omega)),
      hput.trans (.of_wr z (hlow _ (by simp)).1 (hlow _ (by simp)).2), hzb⟩
  next hge =>
    split
    · have hrd : ∀ k, (z.ceilingCleared r).rd k = if k = railStateKey r then 0 else z.rd k := fun k => (Sys.rd_raise ..).trans (Sys.rd_wr ..)
      refine ⟨(hrd _).trans ((if_neg hstate).trans hzc), (hrd _).trans ((if_neg hrail).trans (by omega)), hput.trans ⟨⟨fun hi => ?_⟩, fun k => ?_, ?_⟩, ?_, ?_⟩
      · refine (hrd _).trans (if_neg ?_)
        have := (hlow (railStateKey r) (by simp)).1
        unfold ent at *
        omega
      · exact Sys.rdB_raise ..
      · exact (hrd _).trans (if_neg (hlow _ (by simp)).2.symm)
      · exact (Sys.raise_boot ..).trans hzb.1
      · exact (Sys.raise_den ..).trans hzb.2
    · exact ⟨hzc, by omega, hput, hzb⟩

theorem railCeilingWrite_takes (s : State) (w : Writer) (system : Bool) (value : BitVec 16) (hauto : s.sys.govFixed = false) :
    let r := if system then RailName.s else RailName.t
    Admitted s w (ceilKey r) (le 2 value.toNat) →
    Completes (.railCeilingWrite w system value) s fun t =>
      t.sys.rd (ceilKey r) = value.toNat ∧ t.sys.rd (railKey r) = min value.toNat (s.sys.rd (railKey r)) ∧ t.otp = s.otp ∧ t.pending = s.pending := by
  intro r ha
  have hvalue : unLe (le 2 value.toNat) = value.toNat := by rw [unLe_le]; exact Nat.mod_eq_of_lt value.isLt
  have hw : writeOf (.railCeilingWrite w system value) = some (w, ceilKey r, le 2 value.toNat) := by cases system <;> rfl
  obtain ⟨hrwc, hplain, hcur⟩ := ceilKey_fits r
  obtain ⟨hceil, hrail, hsame, hboot, hden⟩ := s.sys.ceilingWritten_auto r value.toNat hauto
  have hr : s.sys.entryApply s.otp w (ceilKey r) (le 2 value.toNat) = okR (s.sys.ceilingWritten r value.toNat) := by
    rw [Sys.entryApply_ceiling, Sys.putLive_ceiling, hvalue]
  obtain ⟨t, hexec, hrd, hotp, hpending⟩ := write_quiet hw hrwc hcur hplain ha hr rfl ((congrArg Boot.due hboot).trans ha.2.2)
    (congrArg Denval.saving hden) (hsame.demand (congrArg Denval.latched hden))
  have hlow : ∀ k ∈ [ceilKey r, railKey r], k < ent 0x4D01 0 ∧ k ≠ ent 0x1104 4 := by cases r <;> decide
  exact ⟨t, hexec, (hrd _ (hlow _ (by simp)).1 (hlow _ (by simp)).2).trans hceil, (hrd _ (hlow _ (by simp)).1 (hlow _ (by simp)).2).trans hrail, hotp,
    hpending⟩

theorem railCeiling_refused (s : State) (w : Writer) (r : RailName) (n : Nat) (hn : n < 65536)
    (hbad : n < 6000 ∨ 9500 < n ∨ n % 25 ≠ 0 ∨ n < s.sys.rd (floorKey r)) : (s.sys.arrival s.otp w (ceilKey r) (le 2 n)).1 ≠ .ok := by
  intro harr
  obtain ⟨-, hwrite⟩ := (Sys.arrival_ok_iff (ceilKey_fits r).1).1 harr
  have hno : s.sys.ceilingOk r n = false := by
    simp only [Sys.ceilingOk, Bool.and_eq_false_iff, decide_eq_false_iff_not, beq_eq_false_iff_ne, not_le]
    omega
  rw [Sys.entryWrite_ceiling, unLe_le, Nat.mod_eq_of_lt (show n < 256 ^ 2 from hn), hno] at hwrite
  rcases hwrite with h | h <;> exact absurd h nofun

/-! ## The window of AUTO mode (R53) -/

/-- Nothing has moved the rail, and the governor's own record is as it was. -/
structure KeepsRail (r : RailName) (y z : Sys) : Prop where
  gov : z.gov = y.gov
  rd : z.rd (railKey r) = y.rd (railKey r)

namespace KeepsRail

variable {r : RailName} {y z w : Sys}

theorem refl (r : RailName) (y : Sys) : KeepsRail r y y := ⟨rfl, rfl⟩

theorem trans (h : KeepsRail r y z) (g : KeepsRail r z w) : KeepsRail r y w := ⟨g.gov.trans h.gov, g.rd.trans h.rd⟩

theorem wr (y : Sys) {k : Nat} (v : Nat) (hk : railKey r ≠ k) : KeepsRail r y (y.wr k v) := ⟨rfl, (Sys.rd_wr ..).trans (if_neg hk)⟩

theorem railState (r : RailName) (y : Sys) (v : Nat) : KeepsRail r y (y.wr (railStateKey r) v) := wr y v (railKey_ne_railStateKey r)

theorem stateUnless (r : RailName) (y : Sys) (v : Nat) : KeepsRail r y (if y.rd (railStateKey r) = 1 then y else y.wr (railStateKey r) v) := by
  split
  · exact refl r y
  · exact railState r y v

theorem raiseLimited (r : RailName) (y : Sys) (key code source : Nat) (data : Bytes) : KeepsRail r y (y.raiseLimited key code source data) :=
  have h := sameBut_raiseLimited (fs := [.log]) (nums := only []) (blobs := only []) y key code source data (by simp)
  ⟨(h.1 .gov (by simp)).symm, h.2.1 _ (by simp [only])⟩

theorem ceilingCleared (r : RailName) (y : Sys) : KeepsRail r y (y.ceilingCleared r) :=
  (railState r y 0).trans
    (have h := sameBut_raise (fs := [.log]) (nums := only []) (blobs := only []) (y.wr (railStateKey r) 0) _ _ _ (by simp)
     ⟨(h.1 .gov (by simp)).symm, h.2.1 _ (by simp [only])⟩)

theorem raiseBlocked (r : RailName) (y : Sys) (m : Int) : KeepsRail r y (y.raiseBlocked r m) :=
  have counted (a : Sys) : KeepsRail r a (a.inc (ent 0x2201 0x0C)) := wr a _ (railKey_ne_heldCount r)
  ((stateUnless r y 2).trans (counted _)).trans (raiseLimited r _ _ _ _ _)

theorem railAtCeiling (r : RailName) (y : Sys) (m : Int) : KeepsRail r y (y.railAtCeiling r m) := by
  have counted (a : Sys) : KeepsRail r a (a.inc (ent 0x2201 0x0B)) := wr a _ (railKey_ne_ceilingCount r)
  unfold Sys.railAtCeiling
  split
  · exact refl r y
  · exact ((railState r y 1).trans (counted _)).trans (raiseLimited r _ _ _ _ _)

end KeepsRail

/-- Where R53 puts a rail for which no prediction stands. -/
def windowTarget (y : Sys) (r : RailName) : Nat :=
  let v := y.rd (railKey r)
  let down := max (y.rd (floorKey r)) (v - 25)
  let lowered := if 8 ≤ (y.rail r).calm + 1 ∧ (y.rd (ent 0x2202 1) = 0 ∨ down ≤ v) then down else v
  match (y.rail r).minSlack with
  | none => lowered
  | some m =>
    if m.rat < (y.rd (ent 0x2200 2) : Rat) / 100 then
      (if y.rd (ent 0x2202 1) ≠ 0 then v else min (y.rd (ceilKey r)) (v + 25 * raiseSteps (y.rd (ent 0x2200 2)) m))
    else if (y.rd (ent 0x2200 3) : Rat) / 100 < m.rat then lowered else v

/-- The window's work on a rail leaves the other rail's record and the current limit alone. -/
structure KeepsOther (r : RailName) (y z : Sys) : Prop where
  limited : z.gov.limited = y.gov.limited
  rail : ∀ q, q ≠ r → z.rail q = y.rail q

theorem KeepsOther.setRail_of_gov {r : RailName} {y z : Sys} {x : Rail} (h : z.gov = (y.setRail r x).gov) : KeepsOther r y z := by
  refine ⟨?_, fun q hq => ?_⟩
  · rw [h]; cases r <;> rfl
  · cases r <;> cases q <;> first | exact absurd rfl hq | (simp only [Sys.rail, h]; rfl)

/-- A lowering or a raise that ends at `v`. -/
theorem KeepsRail.lands_railTo {r : RailName} {y z w : Sys} {x : Rail} {v : Nat} (h : KeepsRail r (y.setRail r x) z)
    (g : KeepsRail r (z.railTo r v) w) : w.rd (railKey r) = v ∧ KeepsOther r y w :=
  ⟨g.rd.trans ((Sys.rd_wr ..).trans (if_pos rfl)), .setRail_of_gov (g.gov.trans h.gov)⟩

theorem KeepsRail.lands {r : RailName} {y z : Sys} {x : Rail} (h : KeepsRail r (y.setRail r x) z) :
    z.rd (railKey r) = y.rd (railKey r) ∧ KeepsOther r y z :=
  ⟨h.rd.trans (Sys.rd_setRail ..), .setRail_of_gov h.gov⟩

theorem Sys.powerLimited_setRail (y : Sys) (r : RailName) (x : Rail) : (y.setRail r x).powerLimited = y.powerLimited := by cases r <;> rfl

theorem Sys.powerLimited_iff (y : Sys) : y.powerLimited = true ↔ y.rd (ent 0x2202 1) ≠ 0 := by simp [Sys.powerLimited, Sys.skip]

/-- A window that wants no raise: the rail is lowered after eight calm windows, and else stays. -/
theorem Sys.govAutoRail_calm (y : Sys) (r : RailName) (hw : (y.rail r).watches = [])
    (hshort : ∀ m, (y.rail r).minSlack = some m → ¬ m.rat < (y.rd (ent 0x2200 2) : Rat) / 100) :
    (y.govAutoRail r).rd (railKey r) = windowTarget y r ∧ KeepsOther r y (y.govAutoRail r) := by
  have hpred : (y.rail r).predicted = none := by simp [Rail.predicted, hw]
  unfold Sys.govAutoRail
  extract_lets x v ceil floor upper short least m pre z bySlack byPre quiet above calm z' down w
  have hno : short = false := by
    unfold short x
    cases hm : (y.rail r).minSlack with
    | none => rfl
    | some m => exact decide_eq_false (hshort m hm)
  have hpre : pre = false := by simp only [pre, x, hpred]
  simp only [hno, hpre, Bool.or_false, Bool.false_eq_true, if_false]
  have htarget : windowTarget y r =
      if 8 ≤ calm ∧ (y.rd (ent 0x2202 1) = 0 ∨ max (y.rd (floorKey r)) (v - 25) ≤ v) then max (y.rd (floorKey r)) (v - 25) else v := by
    unfold windowTarget calm above x
    cases hm : (y.rail r).minSlack with
    | none => simp only [if_true, v]
    | some m => by_cases ha : (y.rd (ent 0x2200 3) : Rat) / 100 < m.rat <;> simp [hshort m hm, ha, upper, v]
  have hfree : (!z'.powerLimited) = true ↔ y.rd (ent 0x2202 1) = 0 := by
    rw [Sys.powerLimited_setRail, Bool.not_eq_true', ← Bool.not_eq_true, Sys.powerLimited_iff, not_not]
  have hw' : w.rd (railKey r) = windowTarget y r ∧ KeepsOther r y w := by
    have hdown : down = max (y.rd (floorKey r)) (v - 25) := congrArg (max · (v - 25)) (Sys.rd_setRail ..)
    rw [htarget, ← hdown]
    unfold w
    simp only [x, hpred, Option.all_none, Bool.and_true, Bool.and_eq_true, Bool.or_eq_true, decide_eq_true_eq, hfree, ge_iff_le]
    split
    · exact (KeepsRail.refl r z').lands_railTo (.refl r _)
    · exact (KeepsRail.refl r z').lands
  have hlast : KeepsRail r w (if w.rd (railStateKey r) = 1 then (if quiet ≥ 8 then w.ceilingCleared r else w) else w.wr (railStateKey r) 0) := by
    split
    · split
      · exact .ceilingCleared r w
      · exact .refl r w
    · exact .railState r w 0
  exact ⟨hlast.rd.trans hw'.1, ⟨(congrArg Gov.limited hlast.gov).trans hw'.2.limited, fun q hq => by
    rw [← hw'.2.rail q hq]
    cases q <;> simp only [Sys.rail, hlast.gov]⟩⟩

/-- A window that wants a raise: none while a power limit is active, and else by the steps of its shortfall. -/
theorem Sys.govAutoRail_short (y : Sys) (r : RailName) (hw : (y.rail r).watches = []) (hceil : y.rd (railKey r) ≤ y.rd (ceilKey r)) {m : Slack}
    (hm : (y.rail r).minSlack = some m) (hshort : m.rat < (y.rd (ent 0x2200 2) : Rat) / 100) :
    (y.govAutoRail r).rd (railKey r) = windowTarget y r ∧ KeepsOther r y (y.govAutoRail r) := by
  have hpred : (y.rail r).predicted = none := by simp [Rail.predicted, hw]
  have htarget : windowTarget y r = if y.rd (ent 0x2202 1) ≠ 0 then y.rd (railKey r) else
      min (y.rd (ceilKey r)) (y.rd (railKey r) + 25 * raiseSteps (y.rd (ent 0x2200 2)) m) := by
    simp only [windowTarget, hm, hshort, if_true]
  unfold Sys.govAutoRail
  extract_lets x v ceil floor upper short least m' pre z bySlack byPre quiet above calm z' down w
  have hyes : short = true := by
    simp only [short, x, hm]
    exact decide_eq_true hshort
  have hpre : pre = false := by simp only [pre, x, hpred]
  have hleast : least = m := by simp only [least, x, hm, Option.getD_some]
  rw [htarget]
  simp only [hyes, Bool.true_or, if_true]
  split
  next hl =>
    rw [Sys.powerLimited_setRail, Sys.powerLimited_iff] at hl
    rw [if_pos hl]
    exact (KeepsRail.raiseBlocked r z m').lands
  next hl =>
    rw [Sys.powerLimited_setRail, Sys.powerLimited_iff] at hl
    rw [if_neg hl]
    split
    next hat =>
      have hstay : min (y.rd (ceilKey r)) (y.rd (railKey r) + 25 * raiseSteps (y.rd (ent 0x2200 2)) m) = y.rd (railKey r) := by omega
      rw [hstay]
      exact (KeepsRail.railAtCeiling r z m').lands
    next hbelow =>
      have hv : min ceil (max bySlack byPre) = min (y.rd (ceilKey r)) (y.rd (railKey r) + 25 * raiseSteps (y.rd (ent 0x2200 2)) m) := by
        simp only [bySlack, byPre, hyes, hpre, hleast, if_true, Bool.false_eq_true, if_false]
        rw [Nat.max_eq_left (Nat.le_add_right ..)]
      rw [hv]
      exact (KeepsRail.stateUnless r z 0).lands_railTo (.refl r _)

theorem Sys.govAutoRail_lands (y : Sys) (r : RailName) (hw : (y.rail r).watches = []) (hceil : y.rd (railKey r) ≤ y.rd (ceilKey r)) :
    (y.govAutoRail r).rd (railKey r) = windowTarget y r ∧ KeepsOther r y (y.govAutoRail r) := by
  by_cases h : ∃ m, (y.rail r).minSlack = some m ∧ m.rat < (y.rd (ent 0x2200 2) : Rat) / 100
  · obtain ⟨m, hm, hshort⟩ := h
    exact y.govAutoRail_short r hw hceil hm hshort
  · exact y.govAutoRail_calm r hw fun m hm hshort => h ⟨m, hm, hshort⟩

/-- What the window reads of a rail. -/
structure SameWindow (r : RailName) (y z : Sys) : Prop where
  rail : z.rail r = y.rail r
  rd : ∀ k ∈ [railKey r, ceilKey r, floorKey r, ent 0x2200 2, ent 0x2200 3, ent 0x2202 1], z.rd k = y.rd k

theorem SameWindow.target {r : RailName} {y z : Sys} (h : SameWindow r y z) : windowTarget z r = windowTarget y r := by
  obtain ⟨hrail, hrd⟩ := h
  simp only [List.mem_cons, List.not_mem_nil, or_false, forall_eq_or_imp, forall_eq] at hrd
  obtain ⟨hv, hceil, hfloor, hlow, hupper, hskip⟩ := hrd
  simp only [windowTarget, hrail, hv, hceil, hfloor, hlow, hupper, hskip]

/-- One rail at the end of a window, with AUTO mode and no current limit. -/
theorem Sys.govRail_lands (y : Sys) (r : RailName) (hauto : y.rd (ent 0x2200 1) = 0) (hfree : y.gov.limited = false) (hw : (y.rail r).watches = [])
    (hceil : y.rd (railKey r) ≤ y.rd (ceilKey r)) :
    (y.govRail r).rd (railKey r) = windowTarget y r ∧ KeepsOther r y (y.govRail r) := by
  unfold Sys.govRail
  extract_lets z
  have hkeys : ∀ k ∈ [railKey r, ceilKey r, floorKey r, ent 0x2200 2, ent 0x2200 3, ent 0x2202 1, ent 0x2200 1], k ≠ railSlackKey r := by
    cases r <;> decide
  have hrd : ∀ k ∈ [railKey r, ceilKey r, floorKey r, ent 0x2200 2, ent 0x2200 3, ent 0x2202 1, ent 0x2200 1], z.rd k = y.rd k := by
    intro k hk
    unfold z
    split
    · exact (Sys.rd_wr ..).trans (if_neg (hkeys k hk))
    · rfl
  have hgov : z.gov = y.gov := by
    unfold z
    split <;> rfl
  have hrail (q : RailName) : z.rail q = y.rail q := by cases q <;> simp only [Sys.rail, hgov]
  clear_value z
  have hfixed : z.govFixed = false := by simp [Sys.govFixed, hrd _ (show ent 0x2200 1 ∈ _ by simp), hauto]
  simp only [hgov, hfree, hfixed, Bool.false_eq_true, if_false]
  obtain ⟨hland, hlimited, hother⟩ := z.govAutoRail_lands r (by rw [hrail, hw]) (by rwa [hrd _ (by simp), hrd _ (by simp)])
  have hsame : SameWindow r y z := ⟨hrail r, fun k hk => hrd k (by
    simp only [List.mem_cons, List.not_mem_nil, or_false] at hk ⊢
    tauto)⟩
  exact ⟨hland.trans hsame.target, hlimited.trans (congrArg Gov.limited hgov), fun q hq => (hother q hq).trans (hrail q)⟩

/-- Both rails at the end of a window: the work on one leaves what the other's reads. -/
theorem Sys.govRails_land (y : Sys) (hauto : y.rd (ent 0x2200 1) = 0) (hfree : y.gov.limited = false) (hw : ∀ r, (y.rail r).watches = [])
    (hceil : ∀ r, y.rd (railKey r) ≤ y.rd (ceilKey r)) (r : RailName) :
    ((y.govRail .t).govRail .s).rd (railKey r) = windowTarget y r := by
  obtain ⟨ht, hlimited, hother⟩ := y.govRail_lands .t hauto hfree (hw .t) (hceil .t)
  have hframe := RespectsLimit.govRail .t y
  have hkeys : ∀ k ∈ [railKey .s, ceilKey .s, floorKey .s, ent 0x2200 2, ent 0x2200 3, ent 0x2202 1, ent 0x2200 1], k ∉ railWindowKeys .t := by decide
  have hrd k hk := hframe.rd_of_notMem (hkeys k hk)
  have hs := (y.govRail .t).govRail_lands .s ((hrd _ (by simp)).trans hauto) (hlimited.trans hfree) (by rw [hother .s nofun, hw])
    (by rw [hrd _ (by simp), hrd _ (by simp)]; exact hceil .s)
  cases r with
  | t => exact ((RespectsLimit.govRail .s (y.govRail .t)).rd_of_notMem railKey_t_notMem_railWindowKeys_s).trans ht
  | s =>
    have hsame : SameWindow .s y (y.govRail .t) := ⟨hother .s nofun, fun k hk => hrd k (by
      simp only [List.mem_cons, List.not_mem_nil, or_false] at hk ⊢
      tauto)⟩
    exact hs.1.trans hsame.target

theorem governorWindow_lands (s : State) (hauto : s.sys.rd (ent 0x2200 1) = 0) (hfree : s.sys.gov.limited = false)
    (hw : ∀ r, (s.sys.rail r).watches = []) (hceil : ∀ r, s.sys.rd (railKey r) ≤ s.sys.rd (ceilKey r)) :
    Completes .governorWindow s fun t => ∀ r, t.sys.rd (railKey r) = windowTarget s.sys r := by
  refine ⟨_, rfl, fun r => ?_⟩
  dsimp only
  split
  · simpa only [Sys.inc64_eq, Sys.rd_wr, railKey_ne_ceilingTime, if_false] using s.sys.govRails_land hauto hfree hw hceil r
  · exact s.sys.govRails_land hauto hfree hw hceil r

/-- Settles O15. -/
theorem governorMovesTheRails : Obligations.GovernorMovesTheRails := by
  unfold Obligations.GovernorMovesTheRails
  exact ⟨governorWindow_lands, railCeilingWrite_takes, railCeiling_refused⟩

end Sys2Proof.Machine
end

section
/-!
PROOFS. The state right after reset (O4): its entries are read off the tables, and its fuse array is the delivered one.
-/

namespace Sys2Proof.Machine

/-- The delivered array: the two states of manufacture, and nothing else fused (R167). -/
theorem fuseInv_delivered : FuseInv Otp.delivered := by
  have hcal (k : Nat) : Otp.delivered.calEpoch k = 0 := rfl
  refine ⟨by decide, by decide, by decide, by decide, fun k => ?_, fun k _ => hcal k⟩
  rw [hcal]
  omega

/-- Settles O4. -/
theorem resetHoldsTheDeliveredValues : Obligations.ResetHoldsTheDeliveredValues := by
  unfold Obligations.ResetHoldsTheDeliveredValues
  refine ⟨?_, rfl, rfl, rfl, rfl, rfl, rfl, rfl, fuseInv_delivered⟩
  decide +kernel

end Sys2Proof.Machine
end

section
/-!
PROOFS. Which facets the operations of the model can change, from the callee to the caller: one lemma per operation, which peels it off a state.
-/

namespace Sys2Proof.Machine

variable {fs : List Facet} {x w : Sys}

theorem touches_askEnd (y : Sys) (st : Status) (hs : ∀ p ∈ [Facet.tx, .log, .den, .links, .mailboxes, .power, .twin], p ∈ fs) : Touches fs x (Sys.askEnd y st) ↔ Touches fs x y := by
  refine Touches.peel (gs := [Facet.tx, .log, .den, .links, .mailboxes, .power, .twin]) ?_ hs
  unfold Sys.askEnd
  dsimp only
  repeat' split
  all_goals simp [↓touches_answer, ↓touches_sets]

theorem touches_domainExit (y : Sys) (d : Nat) (hs : ∀ p ∈ [Facet.log, .power], p ∈ fs) : Touches fs x (Sys.domainExit y d) ↔ Touches fs x y := by
  refine Touches.peel (gs := [Facet.log, .power]) ?_ hs
  unfold Sys.domainExit
  dsimp only
  repeat' split
  all_goals simp [↓touches_primitives, ↓touches_domTo, ↓touches_sets]

theorem touches_domainEntered (y : Sys) (d : Nat) (e : DomEntry) (hs : ∀ p ∈ [Facet.tx, .log, .gov, .mram, .frames, .ctxs, .igs, .stores, .holds, .channels, .sdis, .edps, .pathsDown, .links, .lanes, .power, .zcs, .time, .felley, .encs, .decs], p ∈ fs) : Touches fs x (Sys.domainEntered y d e) ↔ Touches fs x y := by
  refine Touches.peel (gs := [Facet.tx, .log, .gov, .mram, .frames, .ctxs, .igs, .stores, .holds, .channels, .sdis, .edps, .pathsDown, .links, .lanes, .power, .zcs, .time, .felley, .encs, .decs]) ?_ hs
  unfold Sys.domainEntered
  simp [↓touches_primitives, ↓touches_domTo, ↓touches_domainExit, ↓touches_domainStop, ↓touches_sets]

theorem touches_deviceTo (y : Sys) (n : Nat) : Touches fs x (Sys.deviceTo y n) ↔ Touches fs x y := by
  refine Touches.peel (gs := []) ?_ (by simp)
  unfold Sys.deviceTo
  simp [↓touches_primitives]

theorem touches_timeOff (y : Sys)  (hs : ∀ p ∈ [Facet.mram, .time], p ∈ fs) : Touches fs x (Sys.timeOff y) ↔ Touches fs x y := by
  refine Touches.peel (gs := [Facet.mram, .time]) ?_ hs
  unfold Sys.timeOff
  simp [↓touches_primitives, ↓touches_beginHold, ↓touches_trefGone, ↓touches_sets]

theorem touches_timeDormant (y : Sys)  (hs : ∀ p ∈ [Facet.mram, .time], p ∈ fs) : Touches fs x (Sys.timeDormant y) ↔ Touches fs x y := by
  refine Touches.peel (gs := [Facet.mram, .time]) ?_ hs
  unfold Sys.timeDormant
  simp [↓touches_primitives, ↓touches_driftFreq, ↓touches_setTbState, ↓touches_timeOff, ↓touches_sets]

theorem touches_enterDormant (y : Sys)  (hs : ∀ p ∈ [Facet.log, .boot, .mram, .power, .dram, .time], p ∈ fs) : Touches fs x (Sys.enterDormant y) ↔ Touches fs x y := by
  refine Touches.peel (gs := [Facet.log, .boot, .mram, .power, .dram, .time]) ?_ hs
  unfold Sys.enterDormant
  extract_lets y1 y2 y3
  have hlast : SameBut [.boot, .dram] (fun _ => True) (fun _ => True) y3
      { y3 with boot := { y3.boot with phase := .dormant, heartbeat := false, pwrGood := false, intLow := false, epLink := false }, dram := [] } :=
    .of_facets rfl rfl fun p hp => by cases p with | boot | dram => simp at hp | _ => rfl
  refine Touches.trans ?_ (hlast.touches (by simp))
  unfold y3 y2 y1
  simp [↓touches_primitives, ↓touches_domTo, ↓touches_timeDormant, ↓touches_sets]

theorem touches_timeStandby (y : Sys)  (hs : ∀ p ∈ [Facet.log, .mram, .time], p ∈ fs) : Touches fs x (Sys.timeStandby y) ↔ Touches fs x y := by
  refine Touches.peel (gs := [Facet.log, .mram, .time]) ?_ hs
  unfold Sys.timeStandby
  simp (maxDischargeDepth := 7) [↓touches_sourceFault, ↓touches_foldl]

theorem touches_migResume (y : Sys)  : Touches fs x (Sys.migResume y) ↔ Touches fs x y := by
  refine Touches.peel (gs := []) ?_ (by simp)
  unfold Sys.migResume
  simp [↓touches_primitives]

theorem touches_resumeAll (y : Sys)  (hs : ∀ p ∈ [Facet.log, .edps], p ∈ fs) : Touches fs x (Sys.resumeAll y) ↔ Touches fs x y := by
  refine Touches.peel (gs := [Facet.log, .edps]) ?_ hs
  unfold Sys.resumeAll
  simp (maxDischargeDepth := 7) [↓touches_primitives, ↓touches_edpPower, ↓touches_migResume, ↓touches_upto]

theorem touches_activeDone (y : Sys)  (hs : ∀ p ∈ [Facet.log, .stores, .edps, .power, .rings, .twin], p ∈ fs) : Touches fs x (Sys.activeDone y) ↔ Touches fs x y := by
  refine Touches.peel (gs := [Facet.log, .stores, .edps, .power, .rings, .twin]) ?_ hs
  unfold Sys.activeDone
  extract_lets c us old y1 y2 y3
  split
  · exact .refl y
  · simp only [touches_resumeAll _ (show ∀ p ∈ [Facet.log, .edps], p ∈ [Facet.log, .stores, .edps, .power, .rings, .twin] by simp)]
    have hlast : SameBut [.stores, .rings] (fun _ => True) (fun _ => True) y2 y3 := by
      unfold y3
      split
      · exact .refl y2
      · exact .of_facets rfl rfl fun p hp => by cases p with | stores | rings => simp at hp | _ => rfl
    have hmoved : Touches [.log, .stores, .edps, .power, .rings, .twin] y y3 := by
      refine Touches.trans ?_ (hlast.touches (by simp))
      unfold y2 y1
      simp [↓touches_primitives, ↓touches_deviceTo, ↓touches_sets]
    clear_value y3
    simpa [↓touches_primitives] using hmoved

theorem touches_exitAll (y : Sys) (c : WakeCause) (from_ : Nat) (hs : ∀ p ∈ [Facet.log, .stores, .edps, .power, .rings, .twin], p ∈ fs) : Touches fs x (Sys.exitAll y c from_) ↔ Touches fs x y := by
  refine Touches.peel (gs := [Facet.log, .stores, .edps, .power, .rings, .twin]) ?_ hs
  unfold Sys.exitAll
  simp (maxDischargeDepth := 7) [↓touches_primitives, ↓touches_activeDone, ↓touches_deviceTo, ↓touches_domainExit, ↓touches_sets, ↓touches_foldl]

theorem touches_wakeStandby (y : Sys) (source : Nat) (port : Nat) (hs : ∀ p ∈ [Facet.log, .stores, .edps, .power, .rings, .twin], p ∈ fs) : Touches fs x (Sys.wakeStandby y source port) ↔ Touches fs x y := by
  refine Touches.peel (gs := [Facet.log, .stores, .edps, .power, .rings, .twin]) ?_ hs
  unfold Sys.wakeStandby
  simp [↓touches_primitives, ↓touches_exitAll]

theorem touches_standbyReached (y : Sys)  (hs : ∀ p ∈ [Facet.log, .boot, .mram, .stores, .edps, .power, .dram, .rings, .time, .twin], p ∈ fs) : Touches fs x (Sys.standbyReached y) ↔ Touches fs x y := by
  refine Touches.peel (gs := [Facet.log, .boot, .mram, .stores, .edps, .power, .dram, .rings, .time, .twin]) ?_ hs
  unfold Sys.standbyReached
  simp [↓touches_primitives, ↓touches_deviceTo, ↓touches_enterDormant, ↓touches_timeStandby, ↓touches_wakeStandby, ↓touches_sets]

theorem touches_powerTick (y : Sys)  (hs : ∀ p ∈ [Facet.tx, .log, .boot, .gov, .mram, .frames, .ctxs, .igs, .stores, .holds, .channels, .sdis, .edps, .pathsDown, .links, .lanes, .power, .dram, .rings, .zcs, .time, .twin, .felley, .encs, .decs], p ∈ fs) : Touches fs x (Sys.powerTick y) ↔ Touches fs x y := by
  refine Touches.peel (gs := [Facet.tx, .log, .boot, .gov, .mram, .frames, .ctxs, .igs, .stores, .holds, .channels, .sdis, .edps, .pathsDown, .links, .lanes, .power, .dram, .rings, .zcs, .time, .twin, .felley, .encs, .decs]) ?_ hs
  unfold Sys.powerTick
  simp (maxDischargeDepth := 7) [↓touches_primitives, ↓touches_domainEntered, ↓touches_domainWait, ↓touches_standbyReached, ↓touches_sets, ↓touches_foldl]

theorem touches_powerPasses (y : Sys)  (hs : ∀ p ∈ [Facet.tx, .log, .boot, .gov, .den, .mram, .frames, .ctxs, .igs, .stores, .holds, .channels, .sdis, .edps, .pathsDown, .links, .lanes, .mailboxes, .power, .dram, .rings, .zcs, .time, .twin, .felley, .encs, .decs], p ∈ fs) : Touches fs x (Sys.powerPasses y) ↔ Touches fs x y := by
  refine Touches.peel (gs := [Facet.tx, .log, .boot, .gov, .den, .mram, .frames, .ctxs, .igs, .stores, .holds, .channels, .sdis, .edps, .pathsDown, .links, .lanes, .mailboxes, .power, .dram, .rings, .zcs, .time, .twin, .felley, .encs, .decs]) ?_ hs
  unfold Sys.powerPasses
  simp [↓touches_primitives, ↓touches_askEnd, ↓touches_powerTick]

end Sys2Proof.Machine
end

section
/-!
PROOFS. A step on an empty queue (O2): the clock goes on, and the power-state entry that goes on with it leaves the clock alone.
-/

namespace Sys2Proof.Machine

/-- The clock of a block that has power and is not in Dormant. -/
theorem Sys.tick_clock {y : Sys} (hoff : y.boot.phase ≠ .off) :
    y.tick.up = y.up + 2 ∧ y.tick.t96 = (y.t96 + y.rd (ent 0x2300 3)) % 2 ^ 96 := by
  unfold Sys.tick
  rw [if_neg hoff]
  extract_lets z
  split
  · exact ⟨rfl, rfl⟩
  · have hkept := (touches_powerPasses (x := z) z (fun _ => id)).2 (.refl z)
    exact ⟨(hkept.facet .up (by simp) (by simp)).symm, (hkept.facet .t96 (by simp) (by simp)).symm⟩

/-- Settles O2. -/
theorem anEmptyQueueTicks : Obligations.AnEmptyQueueTicks := by
  unfold Obligations.AnEmptyQueueTicks
  intro s hs
  refine ⟨tick s, by rw [step, hs], hs, rfl, Sys.tick_clock, fun hoff => ?_, fun hdormant => ?_⟩
  · have hsame : s.sys.tick = s.sys := if_pos hoff
    rw [tick, hsame]
  · have hdark : s.sys.tick = { s.sys with t96 := (s.sys.t96 + s.sys.rd (ent 0x2300 3)) % 2 ^ 96, up := s.sys.up + 2 } :=
      (if_neg (by rw [hdormant]; decide)).trans (if_pos hdormant)
    rw [tick, hdark]

end Sys2Proof.Machine
end

section
/-!
PROOFS. Which facets the operations of the model can change, from the callee to the caller: one lemma per operation, which peels it off a state.
-/

namespace Sys2Proof.Machine

variable {fs : List Facet} {x w : Sys}

@[simp] theorem okR_sys (y : Sys) : (okR y).2.2 = y := rfl
@[simp] theorem plainR_sys (p : Status × Sys) : (plainR p).2.2 = p.2 := by
  obtain ⟨st, z⟩ := p
  rfl

/-- What the keys of the module are: the security record and MRAM. -/
theorem touches_keys (y : Sys) (m : Mram) (k : Security) (hs : ∀ p ∈ [Facet.sec, .mram], p ∈ fs) :
    Touches fs x { y with mram := m, sec := k } ↔ Touches fs x y := by
  have hset : SameBut [.sec, .mram] (fun _ => True) (fun _ => True) y { y with mram := m, sec := k } :=
    .of_facets rfl rfl fun p hp => by cases p with | sec | mram => simp at hp | _ => rfl
  exact (hset.touches fun _ => id).peel hs

theorem touches_showUsers (y : Sys)  : Touches fs x (Sys.showUsers y) ↔ Touches fs x y := by
  refine Touches.peel (gs := []) ?_ (by simp)
  unfold Sys.showUsers
  simp (maxDischargeDepth := 7) [↓touches_primitives, ↓touches_upto]

theorem touches_wantTables (y : Sys) (entries : List Nat) (hs : ∀ p ∈ [Facet.pages], p ∈ fs) : Touches fs x (Sys.wantTables y entries) ↔ Touches fs x y := by
  refine Touches.peel (gs := [Facet.pages]) ?_ hs
  unfold Sys.wantTables
  simp (maxDischargeDepth := 7) [↓touches_primitives, ↓touches_placeTables, ↓touches_showPages, ↓touches_fields, ↓touches_foldl]

theorem touches_showResident (y : Sys)  : Touches fs x (Sys.showResident y) ↔ Touches fs x y := by
  refine Touches.peel (gs := []) ?_ (by simp)
  unfold Sys.showResident
  simp [↓touches_primitives]

theorem touches_startInput (y : Sys) (p : Nat) (hs : ∀ p ∈ [Facet.ctxs, .decs], p ∈ fs) : Touches fs x (Sys.startInput y p) ↔ Touches fs x y := by
  refine Touches.peel (gs := [Facet.ctxs, .decs]) ?_ hs
  unfold Sys.startInput
  simp [↓touches_primitives, ↓touches_sets, ↓touches_fields]

theorem touches_overEvent (y : Sys) (w : Writer) (b : Nat × Nat) (hs : ∀ p ∈ [Facet.log], p ∈ fs) : Touches fs x (Sys.overEvent y w b) ↔ Touches fs x y := by
  refine Touches.peel (gs := [Facet.log]) ?_ hs
  unfold Sys.overEvent
  simp [↓touches_primitives]

theorem touches_freeBytes (y : Sys) (n : Nat) : Touches fs x (Sys.freeBytes y n).2 ↔ Touches fs x y := by
  refine Touches.peel (gs := []) ?_ (by simp)
  unfold Sys.freeBytes
  simp [↓touches_fields]

theorem touches_drawKey (y : Sys)  : Touches fs x (Sys.drawKey y).2.2 ↔ Touches fs x y := by
  refine Touches.peel (gs := []) ?_ (by simp)
  unfold Sys.drawKey
  simp [↓touches_freeBytes]

theorem touches_factoryKey (y : Sys) (o : Otp) (hs : ∀ p ∈ [Facet.sec, .mram], p ∈ fs) : Touches fs x (Sys.factoryKey o y) ↔ Touches fs x y := by
  refine Touches.peel (gs := [Facet.sec, .mram]) ?_ hs
  unfold Sys.factoryKey
  extract_lets p pub body z m k z'
  have hdrawn : Touches [.sec, .mram] y z := (touches_drawKey y).2 (.refl y)
  have hkeys : Touches [.sec, .mram] y z' := by
    unfold z'
    clear_value z
    exact (touches_keys z _ _ fun _ => id).2 hdrawn
  clear_value z'
  simpa [↓touches_primitives] using hkeys

theorem touches_eraseKeys (y : Sys)  (hs : ∀ p ∈ [Facet.sec, .mram], p ∈ fs) : Touches fs x (Sys.eraseKeys y) ↔ Touches fs x y := by
  refine Touches.peel (gs := [Facet.sec, .mram]) ?_ hs
  unfold Sys.eraseKeys
  extract_lets y1 y2 y3 y4
  have herased : Touches [.sec, .mram] y y4 := by
    unfold y4 y3 y2 y1
    simp (maxDischargeDepth := 7) [↓touches_primitives, ↓touches_foldl]
  clear_value y4
  exact (touches_keys y4 _ _ fun _ => id).2 herased

theorem touches_refuse (y : Sys) (st : Status) : Touches fs x (Sys.refuse y st).2.2 ↔ Touches fs x y := by
  refine Touches.peel (gs := []) ?_ (by simp)
  unfold Sys.refuse
  simp

theorem touches_transit (y : Sys) (o : Otp) (w : Writer) (target : Nat) (hs : ∀ p ∈ [Facet.log, .boot, .sec, .mram], p ∈ fs) : Touches fs x (Sys.transit o y w target).2.2 ↔ Touches fs x y := by
  refine Touches.peel (gs := [Facet.log, .boot, .sec, .mram]) ?_ hs
  unfold Sys.transit
  extract_lets life y1 root ops y2 m y3 y4
  simp only [↓touches_snd_snd_ite, Sys.refuse]
  refine ⟨fun _ => .refl y, fun _ => ⟨fun _ => .refl y, fun _ => ⟨fun _ => .refl y, fun _ => ?_⟩⟩⟩
  have herased : Touches [.log, .boot, .sec, .mram] y y1 := by
    unfold y1
    simp [↓touches_primitives, ↓touches_eraseKeys, ↓touches_factoryKey]
  have hdrawn : Touches [.log, .boot, .sec, .mram] y y2 := by
    unfold y2 root
    simp [↓touches_primitives, ↓touches_freeBytes, herased]
  clear_value y2
  have hdone : Touches [.log, .boot, .sec, .mram] y y4 := by
    unfold y4 y3
    simpa [↓touches_primitives, ↓touches_fields] using hdrawn
  clear_value y4
  simpa [↓touches_fields] using hdone

theorem touches_rekey (y : Sys) (o : Otp) (v : Nat) (hs : ∀ p ∈ [Facet.log, .sec, .mram], p ∈ fs) : Touches fs x (Sys.rekey o y v).2.2 ↔ Touches fs x y := by
  refine Touches.peel (gs := [Facet.log, .sec, .mram]) ?_ hs
  unfold Sys.rekey
  extract_lets p y1 m k y2 body y3
  simp only [↓touches_snd_snd_ite, Sys.refuse]
  refine ⟨fun _ => .refl y, fun _ => ⟨fun _ => .refl y, fun _ => ⟨fun _ => .refl y, fun _ => ?_⟩⟩⟩
  have hdrawn : Touches [.log, .sec, .mram] y y1 := (touches_drawKey y).2 (.refl y)
  have hkept : Touches [.log, .sec, .mram] y y2 := by
    unfold y2
    clear_value y1
    exact (touches_keys y1 _ _ (by simp)).2 hdrawn
  unfold y3
  clear_value y2
  simpa [↓touches_primitives] using hkept

theorem touches_installCertificate (y : Sys) (o : Otp) (c : Bytes) (hs : ∀ p ∈ [Facet.log, .sec, .mram], p ∈ fs) : Touches fs x (Sys.installCertificate o y c).2.2 ↔ Touches fs x y := by
  refine Touches.peel (gs := [Facet.log, .sec, .mram]) ?_ hs
  unfold Sys.installCertificate
  split
  · exact .refl y
  · split
    · exact .refl y
    · extract_lets serial chains y1 c0 y2 m k y3
      split
      · exact .refl y
      · have hchains : Touches [.log, .sec, .mram] y y2 := by
          unfold y2 y1
          simp (maxDischargeDepth := 7) [↓touches_primitives, ↓touches_sets, ↓touches_foldl]
        have hkeys : Touches [.log, .sec, .mram] y y3 := by
          unfold y3
          clear_value y2
          exact (touches_keys y2 _ _ (by simp)).2 hchains
        clear_value y3
        simpa [↓touches_primitives] using hkeys

theorem touches_raiseEpoch (y : Sys) (o : Otp) (v : Nat) (hs : ∀ p ∈ [Facet.log], p ∈ fs) : Touches fs x (Sys.raiseEpoch o y v).2.2 ↔ Touches fs x y := by
  refine Touches.peel (gs := [Facet.log]) ?_ hs
  unfold Sys.raiseEpoch
  simp [↓touches_primitives, ↓touches_refuse, ↓touches_snd_snd_ite]

theorem touches_writeRoot (y : Sys) (o : Otp) (w : Writer) (v : Bytes) (hs : ∀ p ∈ [Facet.log], p ∈ fs) : Touches fs x (Sys.writeRoot o y w v).2.2 ↔ Touches fs x y := by
  refine Touches.peel (gs := [Facet.log]) ?_ hs
  unfold Sys.writeRoot
  simp [↓touches_primitives, ↓touches_refuse, ↓touches_snd_snd_ite]

theorem touches_acknowledge (y : Sys) (path : Nat) (source : Nat) (session : Nat) : Touches fs x (Sys.acknowledge y path source session) ↔ Touches fs x y := by
  refine Touches.peel (gs := []) ?_ (by simp)
  unfold Sys.acknowledge
  simp [↓touches_primitives, ↓touches_updateInt]

theorem touches_testFence (y : Sys)  (hs : ∀ p ∈ [Facet.tx, .log, .gov, .frames, .ctxs, .stores, .channels, .links], p ∈ fs) : Touches fs x (Sys.testFence y) ↔ Touches fs x y := by
  refine Touches.peel (gs := [Facet.tx, .log, .gov, .frames, .ctxs, .stores, .channels, .links]) ?_ hs
  unfold Sys.testFence
  repeat' split
  all_goals simp [↓touches_primitives, ↓touches_checkSeams, ↓touches_shutOutCheck]

theorem touches_startTest (y : Sys) (w : Writer) (code : Nat) (i : Nat) (hs : ∀ p ∈ [Facet.tx, .log, .boot, .gov, .frames, .ctxs, .stores, .channels, .links], p ∈ fs) : Touches fs x (Sys.startTest y w code i).2 ↔ Touches fs x y := by
  refine Touches.peel (gs := [Facet.tx, .log, .boot, .gov, .frames, .ctxs, .stores, .channels, .links]) ?_ hs
  unfold Sys.startTest
  dsimp only
  repeat' split
  all_goals simp [↓touches_primitives, ↓touches_overEvent, ↓touches_testFence, ↓touches_fields]

theorem touches_recipientsChanged (y : Sys)  (hs : ∀ p ∈ [Facet.log], p ∈ fs) : Touches fs x (Sys.recipientsChanged y) ↔ Touches fs x y := by
  refine Touches.peel (gs := [Facet.log]) ?_ hs
  unfold Sys.recipientsChanged
  simp [↓touches_primitives]

theorem touches_writeEncryption (y : Sys) (v : Nat) (hs : ∀ p ∈ [Facet.log], p ∈ fs) : Touches fs x (Sys.writeEncryption y v).2.2 ↔ Touches fs x y := by
  refine Touches.peel (gs := [Facet.log]) ?_ hs
  unfold Sys.writeEncryption
  simp [↓touches_primitives, ↓touches_recipientsChanged, ↓touches_refuse, ↓touches_snd_snd_ite]

theorem touches_writeRecipient (y : Sys) (i : Nat) (v : Bytes) (hs : ∀ p ∈ [Facet.log], p ∈ fs) : Touches fs x (Sys.writeRecipient y i v).2.2 ↔ Touches fs x y := by
  refine Touches.peel (gs := [Facet.log]) ?_ hs
  unfold Sys.writeRecipient
  simp [↓touches_primitives, ↓touches_recipientsChanged, ↓touches_refuse, ↓touches_snd_snd_ite]

theorem touches_attest (y : Sys) (v : Bytes) (hs : ∀ p ∈ [Facet.sec], p ∈ fs) : Touches fs x (Sys.attest y v).2.2 ↔ Touches fs x y := by
  refine Touches.peel (gs := [Facet.sec]) ?_ hs
  unfold Sys.attest
  simp [↓touches_refuse, ↓touches_fields, ↓touches_snd_snd_ite]

theorem touches_testEnd (y : Sys) (result : Nat) (detail : Nat) (hs : ∀ p ∈ [Facet.log, .boot], p ∈ fs) : Touches fs x (Sys.testEnd y result detail) ↔ Touches fs x y := by
  refine Touches.peel (gs := [Facet.log, .boot]) ?_ hs
  unfold Sys.testEnd
  dsimp only
  repeat' split
  all_goals simp [↓touches_primitives, ↓touches_fields]

theorem touches_domainReset (y : Sys) (d : Nat) (hs : ∀ p ∈ [Facet.tx, .log, .boot, .gov, .mram, .frames, .ctxs, .igs, .troupes, .stores, .holds, .engines, .pages, .channels, .sdis, .edps, .pathsDown, .links, .lanes, .mailboxes, .zcs, .time, .launches, .felley, .encs, .decs], p ∈ fs) : Touches fs x (Sys.domainReset y d).2 ↔ Touches fs x y := by
  refine Touches.peel (gs := [Facet.tx, .log, .boot, .gov, .mram, .frames, .ctxs, .igs, .troupes, .stores, .holds, .engines, .pages, .channels, .sdis, .edps, .pathsDown, .links, .lanes, .mailboxes, .zcs, .time, .launches, .felley, .encs, .decs]) ?_ hs
  unfold Sys.domainReset
  extract_lets y1 b y2 aimed gone y3 y4 y5 y6
  split
  · exact .refl y
  · have hended : Touches [Facet.tx, .log, .boot, .gov, .mram, .frames, .ctxs, .igs, .troupes, .stores, .holds, .engines, .pages, .channels, .sdis, .edps, .pathsDown, .links, .lanes, .mailboxes, .zcs, .time, .launches, .felley, .encs, .decs] y y1 := by
      unfold y1
      simp [↓touches_primitives, ↓touches_testEnd]
    have hreset : Touches [Facet.tx, .log, .boot, .gov, .mram, .frames, .ctxs, .igs, .troupes, .stores, .holds, .engines, .pages, .channels, .sdis, .edps, .pathsDown, .links, .lanes, .mailboxes, .zcs, .time, .launches, .felley, .encs, .decs] y y2 := by
      unfold y2
      clear_value y1
      simpa [↓touches_fields] using hended
    unfold y6 y5 y4 y3
    clear_value y2
    dsimp only
    split
    · simpa [↓touches_fenceTroupe] using hreset
    · simp (maxDischargeDepth := 7) [↓touches_primitives, ↓touches_domainStop, ↓touches_emptyPair, ↓touches_launchDiscard, ↓touches_setLaunches,
        ↓touches_foldl, hreset]

theorem touches_resetCommand (y : Sys) (v : Nat) (hs : ∀ p ∈ [Facet.tx, .log, .boot, .gov, .mram, .frames, .ctxs, .igs, .troupes, .stores, .holds, .engines, .pages, .channels, .sdis, .edps, .pathsDown, .links, .lanes, .mailboxes, .zcs, .time, .launches, .felley, .encs, .decs], p ∈ fs) : Touches fs x (Sys.resetCommand y v).2.2 ↔ Touches fs x y := by
  refine Touches.peel (gs := [Facet.tx, .log, .boot, .gov, .mram, .frames, .ctxs, .igs, .troupes, .stores, .holds, .engines, .pages, .channels, .sdis, .edps, .pathsDown, .links, .lanes, .mailboxes, .zcs, .time, .launches, .felley, .encs, .decs]) ?_ hs
  unfold Sys.resetCommand
  simp [↓touches_domainReset, ↓touches_fields, ↓touches_snd_snd_ite]

theorem touches_audioStep (y : Sys)  (hs : ∀ p ∈ [Facet.audioOut], p ∈ fs) : Touches fs x (Sys.audioStep y) ↔ Touches fs x y := by
  refine Touches.peel (gs := [Facet.audioOut]) ?_ hs
  unfold Sys.audioStep
  simp (maxDischargeDepth := 7) [↓touches_sets, ↓touches_foldl]

theorem touches_stepTime (y : Sys) (o : Int) (cause : Nat) (hs : ∀ p ∈ [Facet.t96, .log, .time, .tios, .audioOut], p ∈ fs) : Touches fs x (Sys.stepTime y o cause) ↔ Touches fs x y := by
  refine Touches.peel (gs := [Facet.t96, .log, .time, .tios, .audioOut]) ?_ hs
  unfold Sys.stepTime
  simp [↓touches_primitives, ↓touches_audioStep, ↓touches_sets, ↓touches_fields]

theorem touches_applyOffset (y : Sys) (o : Int) (cause : Nat) (hs : ∀ p ∈ [Facet.t96, .log, .time, .tios, .audioOut], p ∈ fs) : Touches fs x (Sys.applyOffset y o cause) ↔ Touches fs x y := by
  refine Touches.peel (gs := [Facet.t96, .log, .time, .tios, .audioOut]) ?_ hs
  unfold Sys.applyOffset
  simp [↓touches_primitives, ↓touches_carryTime, ↓touches_stepTime, ↓touches_sets]

theorem touches_setTimeOfDay (y : Sys) (v : Nat) (hs : ∀ p ∈ [Facet.t96, .log, .time, .tios, .audioOut], p ∈ fs) : Touches fs x (Sys.setTimeOfDay y v) ↔ Touches fs x y := by
  refine Touches.peel (gs := [Facet.t96, .log, .time, .tios, .audioOut]) ?_ hs
  unfold Sys.setTimeOfDay
  simp [↓touches_primitives, ↓touches_applyOffset, ↓touches_showTime, ↓touches_sets]

theorem touches_submitLaunch (y : Sys) (b : Bytes) (session : Nat) (rank : Nat) (hs : ∀ p ∈ [Facet.log, .launches], p ∈ fs) : Touches fs x (Sys.submitLaunch y b session rank).2 ↔ Touches fs x y := by
  refine Touches.peel (gs := [Facet.log, .launches]) ?_ hs
  unfold Sys.submitLaunch
  simp [↓touches_primitives, ↓touches_setLaunches, ↓touches_snd_ite]

theorem touches_free (y : Sys) (w : Nat) : Touches fs x (Sys.free y w).2 ↔ Touches fs x y := by
  refine Touches.peel (gs := []) ?_ (by simp)
  unfold Sys.free
  simp [↓touches_fields]

theorem touches_cancelLaunches (y : Sys) (p : Launch → Bool) (hs : ∀ p ∈ [Facet.launches], p ∈ fs) : Touches fs x (Sys.cancelLaunches y p).2 ↔ Touches fs x y := by
  refine Touches.peel (gs := [Facet.launches]) ?_ hs
  unfold Sys.cancelLaunches
  extract_lets n r
  split
  · exact .refl y
  · have hfree : Touches [.launches] y r.2 := by
      refine Touches.foldl_snd (a := (([] : List Launch), y)) _ _ fun a e _ => ?_
      split
      · exact .refl _
      · split
        · exact (touches_free a.2 1).2 (.refl _)
        · exact .refl _
    clear_value r
    simpa [↓touches_primitives, ↓touches_setLaunches] using hfree

theorem touches_cancelOwn (y : Sys) (id : Nat) (session : Nat) (hs : ∀ p ∈ [Facet.launches], p ∈ fs) : Touches fs x (Sys.cancelOwn y id session).2 ↔ Touches fs x y := by
  refine Touches.peel (gs := [Facet.launches]) ?_ hs
  unfold Sys.cancelOwn
  simp [↓touches_cancelLaunches]

theorem touches_cancelAny (y : Sys) (id : Nat) (hs : ∀ p ∈ [Facet.launches], p ∈ fs) : Touches fs x (Sys.cancelAny y id).2 ↔ Touches fs x y := by
  refine Touches.peel (gs := [Facet.launches]) ?_ hs
  unfold Sys.cancelAny
  simp [↓touches_cancelLaunches]

theorem touches_cancelEvery (y : Sys) (v : Nat) (hs : ∀ p ∈ [Facet.launches], p ∈ fs) : Touches fs x (Sys.cancelEvery y v).2 ↔ Touches fs x y := by
  refine Touches.peel (gs := [Facet.launches]) ?_ hs
  unfold Sys.cancelEvery
  simp [↓touches_cancelLaunches, ↓touches_snd_ite]

theorem touches_lanePolarity (y : Sys) (n : Nat) (v : Nat) (hs : ∀ p ∈ [Facet.lanes], p ∈ fs) : Touches fs x (Sys.lanePolarity y n v) ↔ Touches fs x y := by
  refine Touches.peel (gs := [Facet.lanes]) ?_ hs
  unfold Sys.lanePolarity
  simp [↓touches_primitives, ↓touches_laneFlag, ↓touches_sets]

theorem touches_laneAdapt (y : Sys) (n : Nat) (v : Nat) : Touches fs x (Sys.laneAdapt y n v) ↔ Touches fs x y := by
  refine Touches.peel (gs := []) ?_ (by simp)
  unfold Sys.laneAdapt
  simp [↓touches_primitives, ↓touches_showFrozen]

theorem touches_eyeScan (y : Sys) (n : Nat) (r : Bytes) : Touches fs x (Sys.eyeScan y n r).2 ↔ Touches fs x y := by
  refine Touches.peel (gs := []) ?_ (by simp)
  unfold Sys.eyeScan
  simp [↓touches_primitives, ↓touches_snd_ite]

theorem touches_laneLost (y : Sys) (n : Nat) (step : Nat) (resume : Bool) (hs : ∀ p ∈ [Facet.tx, .log, .gov, .mram, .frames, .ctxs, .igs, .stores, .channels, .pathsDown, .links, .lanes, .time, .felley], p ∈ fs) : Touches fs x (Sys.laneLost y n step resume) ↔ Touches fs x y := by
  refine Touches.peel (gs := [Facet.tx, .log, .gov, .mram, .frames, .ctxs, .igs, .stores, .channels, .pathsDown, .links, .lanes, .time, .felley]) ?_ hs
  unfold Sys.laneLost
  simp [↓touches_primitives, ↓touches_laneDown, ↓touches_laneFlag, ↓touches_laneTo, ↓touches_sets]

theorem touches_laneRestart (y : Sys) (n : Nat) (hs : ∀ p ∈ [Facet.tx, .log, .gov, .mram, .frames, .ctxs, .igs, .stores, .channels, .pathsDown, .links, .lanes, .time, .felley], p ∈ fs) : Touches fs x (Sys.laneRestart y n) ↔ Touches fs x y := by
  refine Touches.peel (gs := [Facet.tx, .log, .gov, .mram, .frames, .ctxs, .igs, .stores, .channels, .pathsDown, .links, .lanes, .time, .felley]) ?_ hs
  unfold Sys.laneRestart
  simp [↓touches_primitives, ↓touches_laneLost]

theorem touches_ingestRate (y : Sys) (g : Nat) (v : Nat) (hs : ∀ p ∈ [Facet.tx, .log, .gov, .mram, .frames, .ctxs, .igs, .stores, .channels, .pathsDown, .links, .lanes, .time, .felley], p ∈ fs) : Touches fs x (Sys.ingestRate y g v).2 ↔ Touches fs x y := by
  refine Touches.peel (gs := [Facet.tx, .log, .gov, .mram, .frames, .ctxs, .igs, .stores, .channels, .pathsDown, .links, .lanes, .time, .felley]) ?_ hs
  unfold Sys.ingestRate
  simp (maxDischargeDepth := 7) [↓touches_primitives, ↓touches_laneRestart, ↓touches_foldl, ↓touches_snd_ite]

theorem touches_showMap (y : Sys) (n : Nat) : Touches fs x (Sys.showMap y n) ↔ Touches fs x y := by
  refine Touches.peel (gs := []) ?_ (by simp)
  unfold Sys.showMap
  repeat' split
  all_goals simp [↓touches_primitives]

theorem touches_clearMaps (y : Sys) (l : List Nat) (hs : ∀ p ∈ [Facet.lanes], p ∈ fs) : Touches fs x (Sys.clearMaps y l) ↔ Touches fs x y := by
  refine Touches.peel (gs := [Facet.lanes]) ?_ hs
  unfold Sys.clearMaps
  simp (maxDischargeDepth := 7) [↓touches_primitives, ↓touches_laneFlag, ↓touches_showMap, ↓touches_sets, ↓touches_foldl]

theorem touches_retrain (y : Sys) (r : Nat) (v : Nat) (hs : ∀ p ∈ [Facet.lanes], p ∈ fs) : Touches fs x (Sys.retrain y r v).2 ↔ Touches fs x y := by
  refine Touches.peel (gs := [Facet.lanes]) ?_ hs
  unfold Sys.retrain
  simp [↓touches_clearMaps, ↓touches_snd_ite]

theorem touches_showLinks (y : Sys)  : Touches fs x (Sys.showLinks y) ↔ Touches fs x y := by
  refine Touches.peel (gs := []) ?_ (by simp)
  unfold Sys.showLinks
  dsimp only
  repeat' split
  all_goals simp (maxDischargeDepth := 7) [↓touches_primitives, ↓touches_foldl]

theorem touches_quadsChanged (y : Sys) (die : Nat) (old : Nat → Nat) (hs : ∀ p ∈ [Facet.tx, .log, .gov, .mram, .frames, .ctxs, .igs, .stores, .channels, .pathsDown, .links, .lanes, .mailboxes, .power, .time, .ptp, .felley], p ∈ fs) : Touches fs x (Sys.quadsChanged y die old) ↔ Touches fs x y := by
  refine Touches.peel (gs := [Facet.tx, .log, .gov, .mram, .frames, .ctxs, .igs, .stores, .channels, .pathsDown, .links, .lanes, .mailboxes, .power, .time, .ptp, .felley]) ?_ hs
  unfold Sys.quadsChanged
  extract_lets moved z
  have hmoved : Touches [Facet.tx, .log, .gov, .mram, .frames, .ctxs, .igs, .stores, .channels, .pathsDown, .links, .lanes, .mailboxes, .power, .time, .ptp, .felley] y z := by
    refine (touches_foldl _ _ fun u q _ => ?_).2 (.refl y)
    extract_lets u1 u2 f u3 u4 u5 d was exits v p v2 u6
    have hleft : Touches [Facet.tx, .log, .gov, .mram, .frames, .ctxs, .igs, .stores, .channels, .pathsDown, .links, .lanes, .mailboxes, .power, .time, .ptp, .felley] u u1 := by
      unfold u1
      split <;> simp [↓touches_felleyDown, ↓touches_garosDown, ↓touches_quadPathsDown]
    have hdark : Touches [Facet.tx, .log, .gov, .mram, .frames, .ctxs, .igs, .stores, .channels, .pathsDown, .links, .lanes, .mailboxes, .power, .time, .ptp, .felley] u u2 := by
      refine (touches_foldl _ _ fun v n _ => ?_).2 hleft
      simp [↓touches_laneTo, ↓touches_laneFlag, ↓touches_sets]
    have hshown : Touches [Facet.tx, .log, .gov, .mram, .frames, .ctxs, .igs, .stores, .channels, .pathsDown, .links, .lanes, .mailboxes, .power, .time, .ptp, .felley] u u5 := by
      unfold u5 u4 u3
      clear_value u2
      simpa [↓touches_primitives, ↓touches_emptyPair] using hdark
    have hdomain : Touches [Facet.tx, .log, .gov, .mram, .frames, .ctxs, .igs, .stores, .channels, .pathsDown, .links, .lanes, .mailboxes, .power, .time, .ptp, .felley] u u6 := by
      unfold u6 v2 p v
      clear_value u5
      simp [↓touches_primitives, ↓touches_fields, hshown]
    clear_value u6
    simp (maxDischargeDepth := 7) [↓touches_primitives, ↓touches_foldl, ↓touches_laneTo, ↓touches_laneRequest, hdomain]
  clear_value z
  simp [↓touches_primitives, ↓touches_ptpRestart, ↓touches_showLinks, hmoved]

theorem touches_quadFunction (y : Sys) (die : Nat) (q : Nat) (v : Nat) (hs : ∀ p ∈ [Facet.tx, .log, .gov, .mram, .frames, .ctxs, .igs, .stores, .channels, .pathsDown, .links, .lanes, .mailboxes, .power, .time, .ptp, .felley], p ∈ fs) : Touches fs x (Sys.quadFunction y die q v) ↔ Touches fs x y := by
  refine Touches.peel (gs := [Facet.tx, .log, .gov, .mram, .frames, .ctxs, .igs, .stores, .channels, .pathsDown, .links, .lanes, .mailboxes, .power, .time, .ptp, .felley]) ?_ hs
  unfold Sys.quadFunction
  simp [↓touches_primitives, ↓touches_quadsChanged]

theorem touches_prbsOut (y : Sys) (q : Nat) (hs : ∀ p ∈ [Facet.tx, .lanes], p ∈ fs) : Touches fs x (Sys.prbsOut y q) ↔ Touches fs x y := by
  refine Touches.peel (gs := [Facet.tx, .lanes]) ?_ hs
  unfold Sys.prbsOut
  simp (maxDischargeDepth := 7) [↓touches_primitives, ↓touches_sets, ↓touches_foldl]

theorem touches_posArm (y : Sys) (n : Nat) (v : Nat) (hs : ∀ p ∈ [Facet.positions], p ∈ fs) : Touches fs x (Sys.posArm y n v).2 ↔ Touches fs x y := by
  refine Touches.peel (gs := [Facet.positions]) ?_ hs
  unfold Sys.posArm
  simp [↓touches_sets, ↓touches_snd_ite]

theorem touches_posCorrect (y : Sys) (n : Nat) (v : Nat) (hs : ∀ p ∈ [Facet.positions], p ∈ fs) : Touches fs x (Sys.posCorrect y n v) ↔ Touches fs x y := by
  refine Touches.peel (gs := [Facet.positions]) ?_ hs
  unfold Sys.posCorrect
  simp [↓touches_primitives, ↓touches_sets]

theorem touches_posShift (y : Sys) (n : Nat) (v : Nat) (hs : ∀ p ∈ [Facet.positions], p ∈ fs) : Touches fs x (Sys.posShift y n v) ↔ Touches fs x y := by
  refine Touches.peel (gs := [Facet.positions]) ?_ hs
  unfold Sys.posShift
  simp [↓touches_primitives, ↓touches_posCorrect]

theorem touches_posFlag (y : Sys) (n : Nat) (f : PosFlag) (v : Bool) : Touches fs x (Sys.posFlag y n f v) ↔ Touches fs x y := by
  refine Touches.peel (gs := []) ?_ (by simp)
  unfold Sys.posFlag
  simp [↓touches_primitives]

theorem touches_posClear (y : Sys) (n : Nat) (v : Nat) : Touches fs x (Sys.posClear y n v).2 ↔ Touches fs x y := by
  refine Touches.peel (gs := []) ?_ (by simp)
  unfold Sys.posClear
  simp [↓touches_posFlag, ↓touches_snd_ite]

theorem touches_standby (y : Sys) (dormant : Bool) (forced : Bool) (hs : ∀ p ∈ [Facet.tx, .log, .boot, .links, .power, .twin], p ∈ fs) : Touches fs x (Sys.standby y dormant forced).2 ↔ Touches fs x y := by
  refine Touches.peel (gs := [Facet.tx, .log, .boot, .links, .power, .twin]) ?_ hs
  unfold Sys.standby
  simp [↓touches_primitives, ↓touches_controlAll, ↓touches_deviceTo, ↓touches_testEnd, ↓touches_sets, ↓touches_snd_ite]

theorem touches_powerWrite (y : Sys) (dormant : Bool) (hs : ∀ p ∈ [Facet.tx, .log, .boot, .links, .power, .twin], p ∈ fs) : Touches fs x (Sys.powerWrite y dormant).2 ↔ Touches fs x y := by
  refine Touches.peel (gs := [Facet.tx, .log, .boot, .links, .power, .twin]) ?_ hs
  unfold Sys.powerWrite
  simp (maxDischargeDepth := 7) [↓touches_control, ↓touches_standby, ↓touches_sets, ↓touches_foldl, ↓touches_snd_ite]

theorem touches_powerCommand (y : Sys) (v : Nat) (hs : ∀ p ∈ [Facet.tx, .log, .boot, .stores, .edps, .links, .power, .rings, .twin], p ∈ fs) : Touches fs x (Sys.powerCommand y v).2.2 ↔ Touches fs x y := by
  refine Touches.peel (gs := [Facet.tx, .log, .boot, .stores, .edps, .links, .power, .rings, .twin]) ?_ hs
  unfold Sys.powerCommand
  simp [↓touches_powerWrite, ↓touches_wakeStandby, ↓touches_snd_snd_ite]

theorem touches_takeGroups (y : Sys) (x : Nat) (mask : Nat) : Touches fs w (Sys.takeGroups y x mask) ↔ Touches fs w y := by
  refine Touches.peel (gs := []) ?_ (by simp)
  unfold Sys.takeGroups
  simp (maxDischargeDepth := 7) [↓touches_primitives, ↓touches_foldl]

theorem touches_enableCtx (y : Sys) (x : Nat) (hs : ∀ p ∈ [Facet.ctxs], p ∈ fs) : Touches fs w (Sys.enableCtx y x) ↔ Touches fs w y := by
  refine Touches.peel (gs := [Facet.ctxs]) ?_ hs
  unfold Sys.enableCtx
  simp [↓touches_takeGroups, ↓touches_sets]

theorem touches_setCtxMode (y : Sys) (x : Nat) (m : CtxMode) (hs : ∀ p ∈ [Facet.log, .ctxs], p ∈ fs) : Touches fs w (Sys.setCtxMode y x m) ↔ Touches fs w y := by
  refine Touches.peel (gs := [Facet.log, .ctxs]) ?_ hs
  unfold Sys.setCtxMode
  dsimp only
  repeat' split
  all_goals simp [↓touches_primitives, ↓touches_enableCtx, ↓touches_setCtxState, ↓touches_sets]

theorem touches_portSend (y : Sys) (n : Nat) (body : Bytes) (hs : ∀ p ∈ [Facet.tx], p ∈ fs) : Touches fs x (Sys.portSend y n body) ↔ Touches fs x y := by
  refine Touches.peel (gs := [Facet.tx]) ?_ hs
  unfold Sys.portSend
  simp [↓touches_primitives]

theorem touches_portNext (y : Sys) (n : Nat) (hs : ∀ p ∈ [Facet.tx, .ports], p ∈ fs) : Touches fs x (Sys.portNext y n) ↔ Touches fs x y := by
  refine Touches.peel (gs := [Facet.tx, .ports]) ?_ hs
  unfold Sys.portNext
  dsimp only
  repeat' split
  all_goals simp [↓touches_portSend, ↓touches_portState, ↓touches_sets]

theorem touches_hostTransaction (y : Sys) (n : Nat) (req : Bytes) (hs : ∀ p ∈ [Facet.tx, .ports], p ∈ fs) : Touches fs x (Sys.hostTransaction y n req).2 ↔ Touches fs x y := by
  refine Touches.peel (gs := [Facet.tx, .ports]) ?_ hs
  unfold Sys.hostTransaction
  simp [↓touches_primitives, ↓touches_portNext, ↓touches_sets, ↓touches_snd_ite]

theorem touches_showImage (y : Sys) (s : Nat) (img : Bytes) (signer : Nat) : Touches fs x (Sys.showImage y s img signer) ↔ Touches fs x y := by
  refine Touches.peel (gs := []) ?_ (by simp)
  unfold Sys.showImage
  simp [↓touches_primitives]

theorem touches_makeResident (y : Sys) (s : Nat) {z : Sys} (h : y.makeResident s = some z) (hs : ∀ p ∈ [Facet.engines, .resident], p ∈ fs) :
    Touches fs x z ↔ Touches fs x y :=
  ((sameBut_makeResident h).touches (by simp)).peel hs

theorem touches_writeImage (y : Sys) (o : Otp) (s : Nat) (img : Bytes) (hs : ∀ p ∈ [Facet.log, .engines, .resident], p ∈ fs) : Touches fs x (Sys.writeImage o y s img).2.2 ↔ Touches fs x y := by
  refine Touches.peel (gs := [Facet.log, .engines, .resident]) ?_ hs
  unfold Sys.writeImage
  dsimp only
  repeat' split
  case h_1 h => simp [↓touches_makeResident _ _ h, ↓touches_showImage, ↓touches_fields]
  all_goals simp [↓touches_primitives, ↓touches_refuse, ↓touches_showImage, ↓touches_showResident, ↓touches_fields]

theorem touches_dropResident (y : Sys)  (hs : ∀ p ∈ [Facet.resident], p ∈ fs) : Touches fs x (Sys.dropResident y) ↔ Touches fs x y := by
  refine Touches.peel (gs := [Facet.resident]) ?_ hs
  unfold Sys.dropResident
  simp [↓touches_showResident, ↓touches_fields]

theorem touches_keepResident (y : Sys) (s : Nat) (v : Nat) (hs : ∀ p ∈ [Facet.engines, .resident], p ∈ fs) : Touches fs x (Sys.keepResident y s v).2 ↔ Touches fs x y := by
  refine Touches.peel (gs := [Facet.engines, .resident]) ?_ hs
  unfold Sys.keepResident
  repeat' split
  case h_1 h => simp [↓touches_primitives, ↓touches_makeResident _ _ h]
  all_goals simp [↓touches_primitives, ↓touches_dropResident]

theorem touches_commitCal (y : Sys) (o : Otp) (s : Nat) (hs : ∀ p ∈ [Facet.log, .mram], p ∈ fs) : Touches fs x (commitCal o y s).2.2 ↔ Touches fs x y := by
  refine Touches.peel (gs := [Facet.log, .mram]) ?_ hs
  unfold commitCal
  simp [↓touches_primitives, ↓touches_fields, ↓touches_snd_snd_ite]

theorem touches_revertStaging (y : Sys) (s : Nat) (v : Nat) : Touches fs x (Sys.revertStaging y s v).2 ↔ Touches fs x y := by
  refine Touches.peel (gs := []) ?_ (by simp)
  unfold Sys.revertStaging
  simp (maxDischargeDepth := 7) [↓touches_primitives, ↓touches_upto, ↓touches_snd_ite]

theorem touches_showPersistent (y : Sys)  : Touches fs x (Sys.showPersistent y) ↔ Touches fs x y := by
  refine Touches.peel (gs := []) ?_ (by simp)
  unfold Sys.showPersistent
  simp [↓touches_primitives]

theorem touches_tableHeader (y : Sys) (e : Nat) (h : Bytes) (hs : ∀ p ∈ [Facet.tables], p ∈ fs) : Touches fs x (Sys.tableHeader y e h).2 ↔ Touches fs x y := by
  refine Touches.peel (gs := [Facet.tables]) ?_ hs
  unfold Sys.tableHeader
  simp [↓touches_primitives, ↓touches_showPersistent, ↓touches_sets, ↓touches_snd_ite]

theorem touches_tableData (y : Sys) (e : Nat) (v : Bytes) (hs : ∀ p ∈ [Facet.tables], p ∈ fs) : Touches fs x (Sys.tableData y e v).2 ↔ Touches fs x y := by
  refine Touches.peel (gs := [Facet.tables]) ?_ hs
  unfold Sys.tableData
  dsimp only
  repeat' split
  all_goals simp [↓touches_sets]

theorem touches_tableGenerate (y : Sys) (e : Nat) (v : Bytes) (hs : ∀ p ∈ [Facet.tables], p ∈ fs) : Touches fs x (Sys.tableGenerate y e v).2 ↔ Touches fs x y := by
  refine Touches.peel (gs := [Facet.tables]) ?_ hs
  unfold Sys.tableGenerate
  simp [↓touches_primitives, ↓touches_showPersistent, ↓touches_sets, ↓touches_snd_ite]

theorem touches_tableSeal (y : Sys) (e : Nat) (v : Nat) (hs : ∀ p ∈ [Facet.log], p ∈ fs) : Touches fs x (Sys.tableSeal y e v).2 ↔ Touches fs x y := by
  refine Touches.peel (gs := [Facet.log]) ?_ hs
  unfold Sys.tableSeal
  dsimp only
  repeat' split
  all_goals simp [↓touches_primitives]

theorem touches_tablePersistent (y : Sys) (e : Nat) (v : Nat) : Touches fs x (Sys.tablePersistent y e v).2 ↔ Touches fs x y := by
  refine Touches.peel (gs := []) ?_ (by simp)
  unfold Sys.tablePersistent
  simp [↓touches_primitives, ↓touches_showPersistent, ↓touches_snd_ite]

theorem touches_markKeep (y : Sys) (e : Nat) (m : Nat) (frame : Nat) (hs : ∀ p ∈ [Facet.encs], p ∈ fs) : Touches fs x (Sys.markKeep y e m frame).2 ↔ Touches fs x y := by
  refine Touches.peel (gs := [Facet.encs]) ?_ hs
  unfold Sys.markKeep
  simp [↓touches_sets, ↓touches_snd_ite]

theorem touches_markRelease (y : Sys) (e : Nat) (m : Nat) (hs : ∀ p ∈ [Facet.log, .encs], p ∈ fs) : Touches fs x (Sys.markRelease y e m).2 ↔ Touches fs x y := by
  refine Touches.peel (gs := [Facet.log, .encs]) ?_ hs
  unfold Sys.markRelease
  dsimp only
  repeat' split
  all_goals simp [↓touches_markEvent, ↓touches_showMarks, ↓touches_sets]

theorem touches_markCommand (y : Sys) (e : Nat) (v : Bytes) (hs : ∀ p ∈ [Facet.log, .encs], p ∈ fs) : Touches fs x (Sys.markCommand y e v).2.2 ↔ Touches fs x y := by
  refine Touches.peel (gs := [Facet.log, .encs]) ?_ hs
  unfold Sys.markCommand
  simp [↓touches_markKeep, ↓touches_markRelease, ↓touches_refuse, ↓touches_snd_snd_ite]

theorem touches_recover (y : Sys) (e : Nat) (m : Option Nat) (report : Bool) (hs : ∀ p ∈ [Facet.encs], p ∈ fs) : Touches fs x (Sys.recover y e m report) ↔ Touches fs x y := by
  refine Touches.peel (gs := [Facet.encs]) ?_ hs
  unfold Sys.recover
  simp [↓touches_sets]

theorem touches_seek (y : Sys) (p : Nat) (v : Nat) (hs : ∀ p ∈ [Facet.zcs, .decs], p ∈ fs) : Touches fs x (Sys.seek y p v).2 ↔ Touches fs x y := by
  refine Touches.peel (gs := [Facet.zcs, .decs]) ?_ hs
  unfold Sys.seek
  simp (maxDischargeDepth := 7) [↓touches_primitives, ↓touches_decWait, ↓touches_sets, ↓touches_foldl, ↓touches_snd_ite]

theorem touches_ringHold (y : Sys) (x : Nat) (v : Nat) (hs : ∀ p ∈ [Facet.rings], p ∈ fs) : Touches fs w (Sys.ringHold y x v).2 ↔ Touches fs w y := by
  refine Touches.peel (gs := [Facet.rings]) ?_ hs
  unfold Sys.ringHold
  simp [↓touches_primitives, ↓touches_sets, ↓touches_snd_ite]

theorem touches_refuseClip (y : Sys) (x : Nat) (reason : Nat) (hs : ∀ p ∈ [Facet.log, .media], p ∈ fs) : Touches fs w (Sys.refuseClip y x reason) ↔ Touches fs w y := by
  refine Touches.peel (gs := [Facet.log, .media]) ?_ hs
  unfold Sys.refuseClip
  simp [↓touches_primitives, ↓touches_sets]

theorem touches_checkpoint (y : Sys) (x : Nat) (hs : ∀ p ∈ [Facet.tx, .dram, .mem, .media], p ∈ fs) : Touches fs w (Sys.checkpoint y x) ↔ Touches fs w y := by
  refine Touches.peel (gs := [Facet.tx, .dram, .mem, .media]) ?_ hs
  unfold Sys.checkpoint
  repeat' split
  all_goals simp [↓touches_writeEntry]

theorem touches_openClip (y : Sys) (o : Otp) (x : Nat) (frame : Nat) (latch : Nat) (extract : Bool) (hs : ∀ p ∈ [Facet.tx, .log, .mram, .dram, .mem, .media], p ∈ fs) : Touches fs w (Sys.openClip o y x frame latch extract) ↔ Touches fs w y := by
  refine Touches.peel (gs := [Facet.tx, .log, .mram, .dram, .mem, .media]) ?_ hs
  unfold Sys.openClip
  split
  · exact .refl y
  · split
    · exact (touches_refuseClip _ _ _ (by simp)).2 (.refl y)
    · next slot e h1 h2 h3 =>
      extract_lets id enc k g key record y1 flags c m y2 r y3 y4 y5
      have hkeyed : Touches [.tx, .log, .mram, .dram, .mem, .media] y y1 := by
        unfold y1 g k
        simp [↓touches_primitives, ↓touches_freeBytes]
      have hopened : Touches [.tx, .log, .mram, .dram, .mem, .media] y y4 := by
        unfold y4 y3 y2
        clear_value y1
        simpa [↓touches_fields, ↓touches_sets, ↓touches_setClip] using hkeyed
      have hheader : Touches [.tx, .log, .mram, .dram, .mem, .media] y y5 := (touches_recWrite _ _ _ _ _ (by simp)).2 hopened
      clear_value y5 record
      split
      · exact (touches_refuseClip _ _ _ (by simp)).2 (.refl y)
      · simp [↓touches_primitives, ↓touches_showExtents, ↓touches_checkpoint, ↓touches_placeChunk, hheader]
    · exact .refl y

theorem touches_ringExtract (y : Sys) (o : Otp) (x : Nat) (first : Nat) (last : Nat) (hs : ∀ p ∈ [Facet.tx, .log, .mram, .dram, .mem, .media, .rings], p ∈ fs) : Touches fs w (Sys.ringExtract o y x first last).2 ↔ Touches fs w y := by
  refine Touches.peel (gs := [Facet.tx, .log, .mram, .dram, .mem, .media, .rings]) ?_ hs
  unfold Sys.ringExtract
  dsimp only
  repeat' split
  all_goals simp [↓touches_primitives, ↓touches_closeClip, ↓touches_handRing, ↓touches_openClip]

theorem touches_queueRestart (y : Sys) (q : Nat) (hs : ∀ p ∈ [Facet.log], p ∈ fs) : Touches fs x (Sys.queueRestart y q).2 ↔ Touches fs x y := by
  refine Touches.peel (gs := [Facet.log]) ?_ hs
  unfold Sys.queueRestart
  simp [↓touches_primitives, ↓touches_snd_ite]

theorem touches_queueCommand (y : Sys) (q : Nat) (v : Nat) (hs : ∀ p ∈ [Facet.tx, .log, .dram, .mem, .media], p ∈ fs) : Touches fs x (Sys.queueCommand y q v).2.2 ↔ Touches fs x y := by
  refine Touches.peel (gs := [Facet.tx, .log, .dram, .mem, .media]) ?_ hs
  unfold Sys.queueCommand
  simp [↓touches_queueReset, ↓touches_queueRestart, ↓touches_snd_snd_ite]

theorem touches_beginAttach (y : Sys) (present : BitVec 4) (creating : Bool) (hs : ∀ p ∈ [Facet.media], p ∈ fs) : Touches fs x (Sys.beginAttach y present creating) ↔ Touches fs x y := by
  refine Touches.peel (gs := [Facet.media]) ?_ hs
  unfold Sys.beginAttach
  simp (maxDischargeDepth := 7) [↓touches_primitives, ↓touches_sets, ↓touches_foldl]

theorem touches_driveRange (y : Sys) (d : Nat) (op : Nat) (lba : Nat) (count : Nat) (hs : ∀ p ∈ [Facet.tx, .media], p ∈ fs) : Touches fs x (Sys.driveRange y d op lba count) ↔ Touches fs x y := by
  refine Touches.peel (gs := [Facet.tx, .media]) ?_ hs
  unfold Sys.driveRange
  simp [↓touches_directWrite]

theorem touches_volumeOn (y : Sys)  (hs : ∀ p ∈ [Facet.tx, .log, .mram, .dram, .mem, .media], p ∈ fs) : Touches fs x (Sys.volumeOn y) ↔ Touches fs x y := by
  refine Touches.peel (gs := [Facet.tx, .log, .mram, .dram, .mem, .media]) ?_ hs
  unfold Sys.volumeOn
  simp [↓touches_primitives, ↓touches_commitJournal, ↓touches_showExtents, ↓touches_volumeCheck]

theorem touches_tellDrive (y : Sys) (d : Nat) (result : Nat) (hs : ∀ p ∈ [Facet.log], p ∈ fs) : Touches fs x (Sys.tellDrive y d result) ↔ Touches fs x y := by
  refine Touches.peel (gs := [Facet.log]) ?_ hs
  unfold Sys.tellDrive
  simp [↓touches_primitives]

theorem touches_finishCreate (y : Sys) (o : Otp) (hs : ∀ p ∈ [Facet.tx, .log, .mram, .dram, .mem, .media], p ∈ fs) : Touches fs x (Sys.finishCreate o y) ↔ Touches fs x y := by
  refine Touches.peel (gs := [Facet.tx, .log, .mram, .dram, .mem, .media]) ?_ hs
  unfold Sys.finishCreate
  simp (maxDischargeDepth := 7) [↓touches_primitives, ↓touches_driveRange, ↓touches_freeBytes, ↓touches_tellDrive, ↓touches_volumeOn, ↓touches_writeHeaders, ↓touches_sets, ↓touches_foldl]

theorem touches_readJournal (y : Sys)  (hs : ∀ p ∈ [Facet.log], p ∈ fs) : Touches fs x (Sys.readJournal y) ↔ Touches fs x y := by
  refine Touches.peel (gs := [Facet.log]) ?_ hs
  unfold Sys.readJournal
  repeat' split
  all_goals simp [↓touches_primitives, ↓touches_addLost]

theorem touches_recoverClip (y : Sys) (c : Clip) (hs : ∀ p ∈ [Facet.tx, .log, .dram, .mem, .media], p ∈ fs) : Touches fs x (Sys.recoverClip y c) ↔ Touches fs x y := by
  refine Touches.peel (gs := [Facet.tx, .log, .dram, .mem, .media]) ?_ hs
  unfold Sys.recoverClip
  simp [↓touches_primitives, ↓touches_putWrite, ↓touches_setClip]

theorem touches_finishAttach (y : Sys) (o : Otp) (entries : List DirEntry) (hs : ∀ p ∈ [Facet.tx, .log, .mram, .dram, .mem, .media], p ∈ fs) : Touches fs x (Sys.finishAttach o y entries) ↔ Touches fs x y := by
  refine Touches.peel (gs := [Facet.tx, .log, .mram, .dram, .mem, .media]) ?_ hs
  unfold Sys.finishAttach
  dsimp only
  repeat' split
  all_goals simp (maxDischargeDepth := 7) [↓touches_primitives, ↓touches_commitJournal, ↓touches_readJournal, ↓touches_recoverClip, ↓touches_tellDrive, ↓touches_volumeOn, ↓touches_writeHeaders, ↓touches_sets, ↓touches_foldl]

theorem touches_finishBringUp (y : Sys) (o : Otp) (entries : List DirEntry) (hs : ∀ p ∈ [Facet.tx, .log, .mram, .dram, .mem, .media], p ∈ fs) : Touches fs x (Sys.finishBringUp o y entries) ↔ Touches fs x y := by
  refine Touches.peel (gs := [Facet.tx, .log, .mram, .dram, .mem, .media]) ?_ hs
  unfold Sys.finishBringUp
  simp [↓touches_primitives, ↓touches_finishAttach, ↓touches_finishCreate]

theorem touches_volumeAttach (y : Sys) (o : Otp) (present : BitVec 4) (creating : Bool) (hs : ∀ p ∈ [Facet.tx, .log, .mram, .dram, .mem, .media], p ∈ fs) : Touches fs x (Sys.volumeAttach o y present creating).2 ↔ Touches fs x y := by
  refine Touches.peel (gs := [Facet.tx, .log, .mram, .dram, .mem, .media]) ?_ hs
  unfold Sys.volumeAttach
  simp [↓touches_beginAttach, ↓touches_finishBringUp, ↓touches_snd_ite]

theorem touches_volumeDetach (y : Sys)  (hs : ∀ p ∈ [Facet.mram, .media], p ∈ fs) : Touches fs x (Sys.volumeDetach y).2 ↔ Touches fs x y := by
  refine Touches.peel (gs := [Facet.mram, .media]) ?_ hs
  unfold Sys.volumeDetach
  simp (maxDischargeDepth := 7) [↓touches_primitives, ↓touches_commitJournal, ↓touches_sets, ↓touches_foldl, ↓touches_snd_ite]

theorem touches_volumeRebuild (y : Sys) (o : Otp) (hs : ∀ p ∈ [Facet.tx, .mram, .media], p ∈ fs) : Touches fs x (Sys.volumeRebuild o y).2 ↔ Touches fs x y := by
  refine Touches.peel (gs := [Facet.tx, .mram, .media]) ?_ hs
  unfold Sys.volumeRebuild
  dsimp only
  repeat' split
  all_goals simp [↓touches_primitives, ↓touches_commitJournal, ↓touches_writeHeaders, ↓touches_sets]

theorem touches_volumeCommand (y : Sys) (o : Otp) (v : Nat) (hs : ∀ p ∈ [Facet.tx, .log, .mram, .dram, .mem, .media], p ∈ fs) : Touches fs x (Sys.volumeCommand o y v).2.2 ↔ Touches fs x y := by
  refine Touches.peel (gs := [Facet.tx, .log, .mram, .dram, .mem, .media]) ?_ hs
  unfold Sys.volumeCommand
  repeat' split
  all_goals simp [↓touches_volumeAttach, ↓touches_volumeDetach, ↓touches_volumeRebuild]

theorem touches_clipDelete (y : Sys) (id : Nat) (hs : ∀ p ∈ [Facet.tx, .dram, .mem, .media], p ∈ fs) : Touches fs x (Sys.clipDelete y id).2 ↔ Touches fs x y := by
  refine Touches.peel (gs := [Facet.tx, .dram, .mem, .media]) ?_ hs
  unfold Sys.clipDelete
  split
  · exact .refl y
  · next c hc =>
    split
    · exact .refl y
    · extract_lets y1 v y2
      have hruns : Touches [.tx, .dram, .mem, .media] y y1 := by
        refine (touches_foldl _ _ fun z r _ => ?_).2 (.refl y)
        exact (touches_foldl _ _ fun z d _ => (touches_driveRange _ _ _ _ _ (by simp)).2 (.refl z)).2 (.refl z)
      have hgone : Touches [.tx, .dram, .mem, .media] y y2 := by
        unfold y2
        clear_value y1
        simpa [↓touches_sets] using hruns
      clear_value y2
      exact (touches_showExtents _).2 ((touches_putWrite _ _ _ _ _ _ (by simp)).2 hgone)

theorem touches_lostClear (y : Sys) (v : Nat) : Touches fs x (Sys.lostClear y v).2 ↔ Touches fs x y := by
  refine Touches.peel (gs := []) ?_ (by simp)
  unfold Sys.lostClear
  simp [↓touches_primitives, ↓touches_snd_ite]

theorem touches_rankMigrate (y : Sys)  (hs : ∀ p ∈ [Facet.log, .mram], p ∈ fs) : Touches fs x (Sys.rankMigrate y).2 ↔ Touches fs x y := by
  refine Touches.peel (gs := [Facet.log, .mram]) ?_ hs
  unfold Sys.rankMigrate
  simp [↓touches_rankOut, ↓touches_snd_ite]

theorem touches_retestStart (y : Sys) (r : Nat) : Touches fs x (Sys.retestStart y r) ↔ Touches fs x y := by
  refine Touches.peel (gs := []) ?_ (by simp)
  unfold Sys.retestStart
  simp [↓touches_rankTo]

theorem touches_rankRetest (y : Sys)  : Touches fs x (Sys.rankRetest y).2 ↔ Touches fs x y := by
  refine Touches.peel (gs := []) ?_ (by simp)
  unfold Sys.rankRetest
  simp [↓touches_retestStart, ↓touches_snd_ite]

theorem touches_rankScan (y : Sys)  (hs : ∀ p ∈ [Facet.mem], p ∈ fs) : Touches fs x (Sys.rankScan y).2 ↔ Touches fs x y := by
  refine Touches.peel (gs := [Facet.mem]) ?_ hs
  unfold Sys.rankScan
  simp [↓touches_fields, ↓touches_snd_ite]

theorem touches_rankCommand (y : Sys) (v : Nat) (hs : ∀ p ∈ [Facet.log, .mram, .mem], p ∈ fs) : Touches fs x (Sys.rankCommand y v).2.2 ↔ Touches fs x y := by
  refine Touches.peel (gs := [Facet.log, .mram, .mem]) ?_ hs
  unfold Sys.rankCommand
  repeat' split
  all_goals simp [↓touches_rankMigrate, ↓touches_rankRetest, ↓touches_rankScan]

theorem touches_trainingClear (y : Sys)  (hs : ∀ p ∈ [Facet.mram], p ∈ fs) : Touches fs x (Sys.trainingClear y) ↔ Touches fs x y := by
  refine Touches.peel (gs := [Facet.mram]) ?_ hs
  unfold Sys.trainingClear
  simp [↓touches_primitives, ↓touches_fields]

theorem touches_lostEvent (y : Sys) (role : Nat) (orphan : Bool) (hs : ∀ p ∈ [Facet.log], p ∈ fs) : Touches fs x (Sys.lostEvent y role orphan) ↔ Touches fs x y := by
  refine Touches.peel (gs := [Facet.log]) ?_ hs
  unfold Sys.lostEvent
  dsimp only
  repeat' split
  all_goals simp [↓touches_primitives]

theorem touches_twinTakeover (y : Sys)  (hs : ∀ p ∈ [Facet.log, .mram, .ctxs, .time, .twin], p ∈ fs) : Touches fs x (Sys.twinTakeover y).2 ↔ Touches fs x y := by
  refine Touches.peel (gs := [Facet.log, .mram, .ctxs, .time, .twin]) ?_ hs
  unfold Sys.twinTakeover
  simp [↓touches_becomePrimary, ↓touches_lostEvent, ↓touches_snd_ite]

theorem touches_twinResync (y : Sys) (o : Otp) (hs : ∀ p ∈ [Facet.tx, .log, .mram, .ports, .links, .lanes, .time, .ptp, .twin], p ∈ fs) : Touches fs x (Sys.twinResync y o).2 ↔ Touches fs x y := by
  refine Touches.peel (gs := [Facet.tx, .log, .mram, .ports, .links, .lanes, .time, .ptp, .twin]) ?_ hs
  unfold Sys.twinResync
  simp [↓touches_resyncStart, ↓touches_snd_ite]

theorem touches_felleyCalibrate (y : Sys)  (hs : ∀ p ∈ [Facet.links], p ∈ fs) : Touches fs x (Sys.felleyCalibrate y).2 ↔ Touches fs x y := by
  refine Touches.peel (gs := [Facet.links]) ?_ hs
  unfold Sys.felleyCalibrate
  simp [↓touches_primitives, ↓touches_sets, ↓touches_snd_ite]

theorem touches_felleyRestart (y : Sys)  (hs : ∀ p ∈ [Facet.tx, .log, .gov, .mram, .frames, .ctxs, .igs, .stores, .channels, .pathsDown, .links, .lanes, .time, .felley], p ∈ fs) : Touches fs x (Sys.felleyRestart y) ↔ Touches fs x y := by
  refine Touches.peel (gs := [Facet.tx, .log, .gov, .mram, .frames, .ctxs, .igs, .stores, .channels, .pathsDown, .links, .lanes, .time, .felley]) ?_ hs
  unfold Sys.felleyRestart
  simp (maxDischargeDepth := 7) [↓touches_laneRestart, ↓touches_foldl]

theorem touches_shedEdp (y : Sys) (p : Nat) (on : Bool) (hs : ∀ p ∈ [Facet.log, .edps], p ∈ fs) : Touches fs x (Sys.shedEdp y p on) ↔ Touches fs x y := by
  refine Touches.peel (gs := [Facet.log, .edps]) ?_ hs
  unfold Sys.shedEdp
  simp [↓touches_primitives, ↓touches_edpOff, ↓touches_edpPower, ↓touches_sets]

theorem touches_encStop (y : Sys) (e : Nat) (hs : ∀ p ∈ [Facet.log, .encs], p ∈ fs) : Touches fs x (Sys.encStop y e) ↔ Touches fs x y := by
  refine Touches.peel (gs := [Facet.log, .encs]) ?_ hs
  unfold Sys.encStop
  simp [↓touches_primitives, ↓touches_dropMarks, ↓touches_sets]

theorem touches_shedEncode (y : Sys) (k : Nat) (on : Bool) (hs : ∀ p ∈ [Facet.log, .encs], p ∈ fs) : Touches fs x (Sys.shedEncode y k on) ↔ Touches fs x y := by
  refine Touches.peel (gs := [Facet.log, .encs]) ?_ hs
  unfold Sys.shedEncode
  simp (maxDischargeDepth := 7) [↓touches_primitives, ↓touches_encResume, ↓touches_encStop, ↓touches_foldl]

theorem touches_shedDecode (y : Sys) (k : Nat) (on : Bool) (hs : ∀ p ∈ [Facet.decs], p ∈ fs) : Touches fs x (Sys.shedDecode y k on) ↔ Touches fs x y := by
  refine Touches.peel (gs := [Facet.decs]) ?_ hs
  unfold Sys.shedDecode
  simp (maxDischargeDepth := 7) [↓touches_primitives, ↓touches_sets, ↓touches_foldl]

theorem touches_shedLoad (y : Sys) (sub : Nat) (i : Nat) (on : Bool) (hs : ∀ p ∈ [Facet.tx, .log, .edps, .dram, .mem, .media, .encs, .decs], p ∈ fs) : Touches fs x (Sys.shedLoad y sub i on) ↔ Touches fs x y := by
  refine Touches.peel (gs := [Facet.tx, .log, .edps, .dram, .mem, .media, .encs, .decs]) ?_ hs
  unfold Sys.shedLoad
  repeat' split
  all_goals simp (maxDischargeDepth := 7) [↓touches_primitives, ↓touches_closeClip, ↓touches_shedDecode, ↓touches_shedEdp, ↓touches_shedEncode, ↓touches_foldl]

theorem touches_setShed (y : Sys) (want : Nat → Nat) (hs : ∀ p ∈ [Facet.tx, .log, .sup, .edps, .dram, .mem, .media, .encs, .decs], p ∈ fs) : Touches fs x (Sys.setShed y want) ↔ Touches fs x y := by
  refine Touches.peel (gs := [Facet.tx, .log, .sup, .edps, .dram, .mem, .media, .encs, .decs]) ?_ hs
  unfold Sys.setShed
  simp (maxDischargeDepth := 7) [↓touches_primitives, ↓touches_shedLoad, ↓touches_showSdo, ↓touches_showStream, ↓touches_sets, ↓touches_foldl, ↓touches_upto]

theorem touches_shedNow (y : Sys)  (hs : ∀ p ∈ [Facet.tx, .log, .sup, .edps, .dram, .mem, .media, .encs, .decs], p ∈ fs) : Touches fs x (Sys.shedNow y) ↔ Touches fs x y := by
  refine Touches.peel (gs := [Facet.tx, .log, .sup, .edps, .dram, .mem, .media, .encs, .decs]) ?_ hs
  unfold Sys.shedNow
  simp [↓touches_primitives, ↓touches_setShed]

theorem touches_govFixedRail (y : Sys) (r : RailName) : Touches fs x (Sys.govFixedRail y r) ↔ Touches fs x y := by
  refine Touches.peel (gs := []) ?_ (by simp)
  unfold Sys.govFixedRail
  simp [↓touches_primitives, ↓touches_railTo]

theorem touches_ceilingCleared (y : Sys) (r : RailName) (hs : ∀ p ∈ [Facet.log], p ∈ fs) : Touches fs x (Sys.ceilingCleared y r) ↔ Touches fs x y := by
  refine Touches.peel (gs := [Facet.log]) ?_ hs
  unfold Sys.ceilingCleared
  simp [↓touches_primitives]

theorem touches_ceilingWritten (y : Sys) (r : RailName) (v : Nat) (hs : ∀ p ∈ [Facet.log], p ∈ fs) : Touches fs x (Sys.ceilingWritten y r v) ↔ Touches fs x y := by
  refine Touches.peel (gs := [Facet.log]) ?_ hs
  unfold Sys.ceilingWritten
  simp [↓touches_primitives, ↓touches_ceilingCleared, ↓touches_govFixedRail, ↓touches_railTo]

theorem touches_posRestart (y : Sys) (n : Nat) (hs : ∀ p ∈ [Facet.positions], p ∈ fs) : Touches fs x (Sys.posRestart y n) ↔ Touches fs x y := by
  refine Touches.peel (gs := [Facet.positions]) ?_ hs
  unfold Sys.posRestart
  simp [↓touches_primitives, ↓touches_posFlag, ↓touches_sets]

theorem touches_portModeWritten (y : Sys) (n : Nat) (old : Nat) (hs : ∀ p ∈ [Facet.ports], p ∈ fs) : Touches fs x (Sys.portModeWritten y n old) ↔ Touches fs x y := by
  refine Touches.peel (gs := [Facet.ports]) ?_ hs
  unfold Sys.portModeWritten
  simp [↓touches_primitives, ↓touches_portState, ↓touches_sets]

theorem touches_releaseUnused (y : Sys)  (hs : ∀ p ∈ [Facet.resident, .pages], p ∈ fs) : Touches fs x (Sys.releaseUnused y) ↔ Touches fs x y := by
  refine Touches.peel (gs := [Facet.resident, .pages]) ?_ hs
  unfold Sys.releaseUnused
  simp [↓touches_dropResident, ↓touches_freeTables, ↓touches_showUsers]

theorem touches_inputChanged (y : Sys) (p : Nat) (s : Nat) (hs : ∀ p ∈ [Facet.ctxs, .decs], p ∈ fs) : Touches fs x (Sys.inputChanged y p s) ↔ Touches fs x y := by
  refine Touches.peel (gs := [Facet.ctxs, .decs]) ?_ hs
  unfold Sys.inputChanged
  simp [↓touches_primitives, ↓touches_decWait, ↓touches_startInput]

theorem touches_recordLive (y : Sys) (x : Nat) (hs : ∀ p ∈ [Facet.media], p ∈ fs) : Touches fs w (Sys.recordLive y x) ↔ Touches fs w y := by
  refine Touches.peel (gs := [Facet.media]) ?_ hs
  unfold Sys.recordLive
  simp [↓touches_primitives, ↓touches_sets]

theorem touches_lookChanged (y : Sys) (x : Nat) (hs : ∀ p ∈ [Facet.ctxs], p ∈ fs) : Touches fs w (Sys.lookChanged y x) ↔ Touches fs w y := by
  refine Touches.peel (gs := [Facet.ctxs]) ?_ hs
  unfold Sys.lookChanged
  simp [↓touches_primitives, ↓touches_sets]

theorem touches_contextLive (was : Sys) (y : Sys) (k : Nat) (hs : ∀ p ∈ [Facet.log, .ctxs, .media, .zcs, .decs], p ∈ fs) : Touches fs x (Sys.contextLive was y k) ↔ Touches fs x y := by
  refine Touches.peel (gs := [Facet.log, .ctxs, .media, .zcs, .decs]) ?_ hs
  unfold Sys.contextLive
  simp [↓touches_primitives, ↓touches_discardTail, ↓touches_inputChanged, ↓touches_lookChanged, ↓touches_recordLive]

theorem touches_superseded (y : Sys) (u : CommitUnit) (v : CommitUnit) (k : Nat) (hs : ∀ p ∈ [Facet.log], p ∈ fs) : Touches fs x (Sys.superseded y u v k) ↔ Touches fs x y := by
  refine Touches.peel (gs := [Facet.log]) ?_ hs
  unfold Sys.superseded
  simp [↓touches_primitives]

theorem touches_ringPut (y : Sys) (r : EventRecord) (hs : ∀ p ∈ [Facet.mram], p ∈ fs) : Touches fs x (Sys.ringPut y r) ↔ Touches fs x y := by
  refine Touches.peel (gs := [Facet.mram]) ?_ hs
  unfold Sys.ringPut
  simp [↓touches_primitives, ↓touches_fields]

theorem touches_logFlush (y : Sys)  (hs : ∀ p ∈ [Facet.log, .mram], p ∈ fs) : Touches fs x (Sys.logFlush y) ↔ Touches fs x y := by
  refine Touches.peel (gs := [Facet.log, .mram]) ?_ hs
  unfold Sys.logFlush
  simp (maxDischargeDepth := 7) [↓touches_ringPut, ↓touches_fields, ↓touches_foldl]

theorem touches_domainsOff (y : Sys)  (hs : ∀ p ∈ [Facet.channels, .sdis, .edps, .pathsDown, .links, .lanes, .power, .ptp, .felley], p ∈ fs) : Touches fs x (Sys.domainsOff y) ↔ Touches fs x y := by
  refine Touches.peel (gs := [Facet.channels, .sdis, .edps, .pathsDown, .links, .lanes, .power, .ptp, .felley]) ?_ hs
  unfold Sys.domainsOff
  extract_lets l y1 y2 y3 y4 y5
  have hset (z : Sys) (c : List (Nat × Channel)) (v : Power) : SameBut [.channels, .sdis, .edps, .pathsDown, .links, .power, .ptp, .felley] (fun _ => True)
      (fun _ => True) z { z with links := [], edps := [], sdis := [], pathsDown := [], felley := [], ptp := [], channels := c, power := v } :=
    .of_facets rfl rfl fun p hp => by cases p with | channels | sdis | edps | pathsDown | links | power | ptp | felley => simp at hp | _ => rfl
  have hdark : Touches [Facet.channels, .sdis, .edps, .pathsDown, .links, .lanes, .power, .ptp, .felley] y y5 := by
    unfold y5 y4 y3 y2 y1
    simp (maxDischargeDepth := 7) [↓touches_primitives, ↓touches_laneTo, ↓touches_sets, ↓touches_upto]
  clear_value y5
  exact hdark.trans ((hset y5 _ _).touches (fs := [Facet.channels, .sdis, .edps, .pathsDown, .links, .lanes, .power, .ptp, .felley]) (by simp))

theorem touches_powerDown (y : Sys) (p : BootPhase) (hs : ∀ p ∈ [Facet.boot, .sec, .channels, .sdis, .edps, .pathsDown, .links, .lanes, .mailboxes, .power, .dram, .ptp, .felley], p ∈ fs) : Touches fs x (Sys.powerDown y p) ↔ Touches fs x y := by
  refine Touches.peel (gs := [Facet.boot, .sec, .channels, .sdis, .edps, .pathsDown, .links, .lanes, .mailboxes, .power, .dram, .ptp, .felley]) ?_ hs
  unfold Sys.powerDown
  extract_lets y1 b v
  have hset (z : Sys) (b : Boot) (v : Power) (k : Security) : SameBut [.boot, .sec, .mailboxes, .power, .dram] (fun _ => True) (fun _ => True) z
      { z with boot := b, dram := [], mailboxes := [], power := v, sec := k } :=
    .of_facets rfl rfl fun p hp => by cases p with | boot | sec | mailboxes | power | dram => simp at hp | _ => rfl
  refine (touches_showSdo _).2 (Touches.trans ?_ ((hset y1 _ _ _).touches (by simp)))
  exact (touches_domainsOff y (by simp)).2 (.refl y)

end Sys2Proof.Machine
end

section
/-!
PROOFS. The queue of units: nothing that a commit does puts a unit into the queue, and a reset empties it.
-/

namespace Sys2Proof.Machine

variable {x y z : Sys} {o : Otp}

/-- No unit waits for its slot. -/
def NoUnits (y : Sys) : Prop := y.den.units = []

/-- Every facet but that of Denval. -/
def notDen : List Facet :=
  [.t96, .up, .tx, .log, .boot, .sup, .gov, .sec, .mram, .frames, .ctxs, .igs, .ports, .troupes, .rfes, .stores, .holds, .engines, .resident, .tables,
    .pages, .channels, .sdis, .edps, .pathsDown, .links, .lanes, .mailboxes, .power, .dram, .mem, .media, .rings, .zcs, .positions, .time, .ptp, .tios, .twin,
    .thermal, .launches, .audioIn, .audioOut, .felley, .encs, .decs, .cores, .turn]

theorem Touches.noUnits (h : Touches notDen y z) : NoUnits z ↔ NoUnits y := by
  have hden : y.den = z.den := h.facet .den (by decide) (by decide)
  rw [NoUnits, NoUnits, hden]

theorem noUnits_foldl {α : Type} (g : Sys → α → Sys) (l : List α) (h : ∀ z a, NoUnits (g z a) ↔ NoUnits z) : NoUnits (l.foldl g y) ↔ NoUnits y := by
  induction l generalizing y with
  | nil => rfl
  | cons a r ih => exact ih.trans (h y a)

/-! ## Operations on Denval that leave the queue alone -/

theorem noUnits_setCursor (y : Sys) (p r s v : Nat) : NoUnits (y.setCursor p r s v) ↔ NoUnits y := by
  unfold Sys.setCursor
  split <;> rfl

theorem noUnits_closeSession (y : Sys) (id : Nat) : NoUnits (y.closeSession id) ↔ NoUnits y :=
  ((touches_showSessions _).2 (.refl _)).noUnits.trans .rfl

theorem noUnits_closePath (y : Sys) (p : Nat → Bool) : NoUnits (y.closePath p) ↔ NoUnits y := .rfl

theorem noUnits_storeSlot (y was : Sys) : NoUnits (y.storeSlot was) ↔ NoUnits y := by
  unfold Sys.storeSlot
  split <;> rfl

theorem noUnits_raise (y : Sys) (c n : Nat) (d : Bytes) : NoUnits (y.raise c n d) ↔ NoUnits y := by rw [NoUnits, NoUnits, Sys.raise_den]

theorem noUnits_eraseLog (y : Sys) (session : Nat) : NoUnits (y.eraseLog session) ↔ NoUnits y :=
  ((touches_updateInt _).2 (.refl _)).noUnits.trans .rfl

theorem noUnits_credGone (y : Sys) (ids : List Nat) (id : Nat) : NoUnits (y.credGone ids id) ↔ NoUnits y := noUnits_raise ..

theorem noUnits_addressChanged (y : Sys) (leased : Bool) : NoUnits (y.addressChanged leased) ↔ NoUnits y := .rfl

/-! ## Answers -/

theorem noUnits_control (y : Sys) (k : Nat) (c : Ctl) (b : Bytes) : NoUnits (y.control k c b) ↔ NoUnits y :=
  ((touches_control y k c b (by decide)).2 (.refl y)).noUnits

theorem noUnits_frameRaw (y : Sys) (path dest word : Nat) (body : Bytes) : NoUnits (y.frameRaw path dest word body) ↔ NoUnits y := by
  unfold Sys.frameRaw
  dsimp only
  split
  · exact ((touches_mailSend y _ _ (by decide)).2 (.refl y)).noUnits
  · split
    · exact ((touches_controlTwin y _ _ (by decide)).2 (.refl y)).noUnits
    · repeat' split
      all_goals rfl

theorem noUnits_frameOut (y : Sys) (path dest dst : Nat) (f : Func) (tag : Nat) (body : Bytes) : NoUnits (y.frameOut path dest dst f tag body) ↔ NoUnits y := by
  unfold Sys.frameOut
  dsimp only
  split
  · exact noUnits_control ..
  · exact noUnits_frameRaw ..

theorem noUnits_reply (y : Sys) (path source node session : Nat) (f : Func) (tag : Nat) (payload : Bytes) :
    NoUnits (y.reply path source node session f tag payload) ↔ NoUnits y := by
  unfold Sys.reply
  extract_lets b
  split
  · exact noUnits_frameOut ..
  · split
    · rfl
    · extract_lets n y1 body y2
      have hsent : NoUnits y2 ↔ NoUnits y := noUnits_frameOut ..
      split
      · exact (noUnits_closeSession ..).trans hsent
      · exact hsent

theorem noUnits_lastAnswered (y : Sys) (sid counter : Nat) : NoUnits (y.lastAnswered sid counter) ↔ NoUnits y := by
  unfold Sys.lastAnswered
  split
  · exact noUnits_closeSession ..
  · rfl

theorem noUnits_answer (y : Sys) (u : CommitUnit) (st : Status) (k pos : Nat) : NoUnits (y.answer u st k pos) ↔ NoUnits y := by
  unfold Sys.answer
  extract_lets k'
  repeat' split
  · exact ((touches_mirrorAnswer y _ _ (by decide)).2 (.refl y)).noUnits
  · exact ((touches_frontReply y _ _ _ _ _ (by decide)).2 (.refl y)).noUnits
  · rfl
  · exact ((touches_sayOk y _ (by decide)).2 (.refl y)).noUnits
  · exact ((touches_sayError y _ (by decide)).2 (.refl y)).noUnits
  · exact (noUnits_lastAnswered ..).trans (noUnits_reply ..)

theorem noUnits_afterUnit (y : Sys) (r : CommitUnit × Status × Nat × Nat) : NoUnits (y.afterUnit r) ↔ NoUnits y := by
  unfold Sys.afterUnit
  extract_lets u st n yf y1 y2 y3 y4 m
  split
  · split
    · exact noUnits_answer ..
    · exact noUnits_control ..
  · have hcounted : NoUnits y1 ↔ NoUnits y := by
      unfold y1
      split <;> rfl
    have hgroup : NoUnits y3 ↔ NoUnits y1 := by
      unfold y3 y2
      split <;> rfl
    have hshared : NoUnits y4 ↔ NoUnits y3 := ((touches_shareArray y3 _ _ (by decide)).2 (.refl _)).noUnits
    have hmirrored : NoUnits m.2 ↔ NoUnits y4 := by
      unfold m
      split
      · rfl
      · exact ((touches_mirrorUnit y4 _ _ (by decide)).2 (.refl _)).noUnits
    have hall : NoUnits m.2 ↔ NoUnits y := hmirrored.trans (hshared.trans (hgroup.trans hcounted))
    clear_value m
    repeat' split
    · exact hall
    · exact hall
    · exact (noUnits_answer ..).trans hall
    · exact (noUnits_answer ..).trans hcounted

/-! ## What the entries do -/

/-- The result of an entry's effect leaves the queue alone. -/
def Unqueuing (y : Sys) (r : Result) : Prop := NoUnits r.2.2 ↔ NoUnits y

theorem Touches.unqueuing {r : Result} (h : Touches notDen y r.2.2) : Unqueuing y r := h.noUnits

theorem unqueuing_plainR {p : Status × Sys} (h : Touches notDen y p.2) : Unqueuing y (plainR p) := h.noUnits

theorem unqueuing_okR (h : Touches notDen y z) : Unqueuing y (okR z) := h.noUnits

theorem unqueuing_storeCommand (y : Sys) (v : Nat) : Unqueuing y (plainR (y.storeCommand v)) := by
  unfold Sys.storeCommand
  repeat' split
  all_goals exact .rfl

theorem unqueuing_writeCredential (o : Otp) (y : Sys) (w : Writer) (i : Nat) (v : Bytes) : Unqueuing y (y.writeCredential o w i v) := by
  unfold Sys.writeCredential
  extract_lets k old ids z
  repeat' split
  · exact .rfl
  · exact .rfl
  · exact (noUnits_credGone ..).trans (noUnits_raise ..)
  · exact .rfl
  · exact .rfl
  · exact noUnits_raise ..

theorem unqueuing_revoke (y : Sys) (id : Nat) : Unqueuing y (y.revoke id) := by
  unfold Sys.revoke
  extract_lets ids l
  repeat' split
  · exact .rfl
  · exact .rfl
  · exact .rfl
  · exact noUnits_credGone ..

theorem unqueuing_logCommand (y : Sys) (w : Writer) (v : Nat) : Unqueuing y (y.logCommand w v) := by
  unfold Sys.logCommand
  repeat' split
  · exact unqueuing_okR ((touches_acknowledge y _ _ _).2 (.refl y))
  · exact .rfl
  · exact noUnits_eraseLog ..

theorem unqueuing_actIdentity {w : Writer} {i s : Nat} {v : Bytes} {r : Result} (h : y.actIdentity o w i s v = some r) : Unqueuing y r := by
  unfold Sys.actIdentity at h
  dsimp only at h
  repeat' split at h
  all_goals cases h
  · exact ((touches_transit y _ _ _ (by decide)).2 (.refl y)).unqueuing
  · exact ((touches_rekey y _ _ (by decide)).2 (.refl y)).unqueuing
  · exact ((touches_installCertificate y _ _ (by decide)).2 (.refl y)).unqueuing
  · exact ((touches_raiseEpoch y _ _ (by decide)).2 (.refl y)).unqueuing
  · exact unqueuing_storeCommand ..
  · exact ((touches_writeRoot y _ _ _ (by decide)).2 (.refl y)).unqueuing
  · exact unqueuing_writeCredential ..
  · exact unqueuing_revoke ..
  · exact noUnits_setCursor ..
  · exact unqueuing_logCommand ..
  · exact unqueuing_plainR ((touches_startTest y _ _ _ (by decide)).2 (.refl y))
  · exact ((touches_writeEncryption y _ (by decide)).2 (.refl y)).unqueuing
  · exact ((touches_writeRecipient y _ _ (by decide)).2 (.refl y)).unqueuing
  · exact ((touches_attest y _ (by decide)).2 (.refl y)).unqueuing

/-- What an action does where the entry has one stays outside Denval. -/
def Keeps (y : Sys) (q : Option Result) : Prop := ∀ r, q = some r → Touches notDen y r.2.2

@[simp] theorem keeps_none (y : Sys) : Keeps y none := fun _ h => absurd h (Option.some_ne_none _).symm
@[simp] theorem keeps_some (y : Sys) (r : Result) : Keeps y (some r) ↔ Touches notDen y r.2.2 := by simp [Keeps]

theorem Keeps.ite {c : Prop} [Decidable c] {a b : Option Result} (ha : c → Keeps y a) (hb : ¬ c → Keeps y b) : Keeps y (if c then a else b) := by
  split
  next h => exact ha h
  next h => exact hb h

theorem keeps_actSystem (o : Otp) (y : Sys) (w : Writer) (i s : Nat) (v : Bytes) : Keeps y (y.actSystem o w i s v) := by
  unfold Sys.actSystem
  extract_lets n
  repeat' first | refine .ite (fun _ => ?_) (fun _ => ?_) | split
  all_goals simp [notDen, ↓touches_primitives, ↓touches_refuse, ↓touches_resetCommand, ↓touches_setTimeOfDay, ↓touches_submitLaunch, ↓touches_cancelOwn, ↓touches_cancelAny, ↓touches_cancelEvery, ↓touches_laneRequest, ↓touches_lanePolarity, ↓touches_laneAdapt, ↓touches_eyeScan, ↓touches_ingestRate, ↓touches_retrain, ↓touches_quadFunction, ↓touches_prbsOut, ↓touches_posArm, ↓touches_posCorrect, ↓touches_posShift, ↓touches_posClear, ↓touches_powerCommand]

theorem keeps_actFrame (o : Otp) (y : Sys) (i s : Nat) (v : Bytes) : Keeps y (y.actFrame o i s v) := by
  unfold Sys.actFrame
  extract_lets n
  repeat' first | refine .ite (fun _ => ?_) (fun _ => ?_) | split
  all_goals simp [notDen, ↓touches_setCtxMode, ↓touches_hostTransaction, ↓touches_writeImage, ↓touches_keepResident, ↓touches_commitCal, ↓touches_revertStaging, ↓touches_tableHeader, ↓touches_tableData, ↓touches_tableGenerate, ↓touches_tableSeal, ↓touches_tablePersistent]

theorem keeps_actStore (o : Otp) (y : Sys) (i s : Nat) (v : Bytes) : Keeps y (y.actStore o i s v) := by
  unfold Sys.actStore
  extract_lets n
  repeat' first | refine .ite (fun _ => ?_) (fun _ => ?_) | split
  all_goals simp [notDen, ↓touches_refuse, ↓touches_markCommand, ↓touches_recover, ↓touches_seek, ↓touches_ringHold, ↓touches_ringExtract, ↓touches_queueCommand, ↓touches_volumeCommand, ↓touches_clipDelete, ↓touches_lostClear, ↓touches_rankCommand, ↓touches_trainingClear, ↓touches_twinTakeover, ↓touches_twinResync, ↓touches_felleyCalibrate, ↓touches_felleyRestart]

/-! ## Entries that take their value -/

theorem noUnits_wr (y : Sys) (k v : Nat) : NoUnits (y.wr k v) ↔ NoUnits y := .rfl

theorem noUnits_putEntry (y : Sys) (k : Nat) (v : Bytes) : NoUnits (y.putEntry k v) ↔ NoUnits y := by
  unfold Sys.putEntry
  repeat' split
  all_goals rfl

/-- What an entry's new value sets off outside Denval. -/
theorem noUnits_others :
    (∀ (y : Sys), NoUnits (y.updateInt) ↔ NoUnits y) ∧
    (∀ (y : Sys), NoUnits (y.shedNow) ↔ NoUnits y) ∧
    (∀ (y : Sys), NoUnits (y.sourcesChanged) ↔ NoUnits y) ∧
    (∀ (y : Sys) o, NoUnits (y.ptpRestart o) ↔ NoUnits y) ∧
    (∀ (y : Sys) n v, NoUnits (y.setTio n v) ↔ NoUnits y) ∧
    (∀ (y : Sys) n, NoUnits (y.posRestart n) ↔ NoUnits y) ∧
    (∀ (y : Sys) n v, NoUnits (y.portModeWritten n v) ↔ NoUnits y) ∧
    (∀ (y : Sys), NoUnits (y.releaseUnused) ↔ NoUnits y) ∧
    (∀ (y : Sys) n g, NoUnits (y.followChannel n g) ↔ NoUnits y) ∧
    (∀ (y : Sys) n v, NoUnits (y.edpOff n v) ↔ NoUnits y) ∧
    (∀ (y : Sys) n, NoUnits (y.edpPower n) ↔ NoUnits y) ∧
    (∀ (y : Sys) n, NoUnits (y.showStream n) ↔ NoUnits y) ∧
    (∀ (y : Sys), NoUnits (y.showSdo) ↔ NoUnits y) ∧
    (∀ (y : Sys) n, NoUnits (y.queueReset n) ↔ NoUnits y) ∧
    (∀ (y : Sys) r v, NoUnits (y.ceilingWritten r v) ↔ NoUnits y) ∧
    (∀ (was y : Sys) k, NoUnits (was.contextLive y k) ↔ NoUnits y) ∧
    (∀ (y : Sys) n v, NoUnits (y.setZc n v) ↔ NoUnits y) ∧
    (∀ (y : Sys) k v, NoUnits (y.wr k v) ↔ NoUnits y) ∧
    (∀ (y : Sys) k v, NoUnits (y.wrB k v) ↔ NoUnits y) ∧
    (∀ (y : Sys) v, NoUnits { y with tios := v } ↔ NoUnits y) ∧
    (∀ (y : Sys) v, NoUnits { y with sdis := v } ↔ NoUnits y) :=
  ⟨fun y => ((touches_updateInt y).2 (.refl y)).noUnits,
    fun y => ((touches_shedNow y (by decide)).2 (.refl y)).noUnits,
    fun y => ((touches_sourcesChanged y (by decide)).2 (.refl y)).noUnits,
    fun y _ => ((touches_ptpRestart y _ (by decide)).2 (.refl y)).noUnits,
    fun _ _ _ => .rfl,
    fun y _ => ((touches_posRestart y _ (by decide)).2 (.refl y)).noUnits,
    fun y _ _ => ((touches_portModeWritten y _ _ (by decide)).2 (.refl y)).noUnits,
    fun y => ((touches_releaseUnused y (by decide)).2 (.refl y)).noUnits,
    fun y _ _ => ((touches_followChannel y _ _ (by decide)).2 (.refl y)).noUnits,
    fun y _ _ => ((touches_edpOff y _ _ (by decide)).2 (.refl y)).noUnits,
    fun y _ => ((touches_edpPower y _ (by decide)).2 (.refl y)).noUnits,
    fun y _ => ((touches_showStream y _).2 (.refl y)).noUnits,
    fun y => ((touches_showSdo y).2 (.refl y)).noUnits,
    fun y _ => ((touches_queueReset y _ (by decide)).2 (.refl y)).noUnits,
    fun y _ _ => ((touches_ceilingWritten y _ _ (by decide)).2 (.refl y)).noUnits,
    fun was y _ => ((touches_contextLive was y _ (by decide)).2 (.refl y)).noUnits,
    fun _ _ _ => .rfl,
    fun _ _ _ => .rfl,
    fun _ _ _ => .rfl,
    fun _ _ => .rfl,
    fun _ _ => .rfl⟩

theorem noUnits_iff_ite {c : Prop} [Decidable c] {p : Prop} (ha : c → (NoUnits y ↔ p)) (hb : ¬ c → (NoUnits z ↔ p)) : NoUnits (if c then y else z) ↔ p := by
  split
  next h => exact ha h
  next h => exact hb h

theorem noUnits_entryLive (o : Otp) (was y : Sys) (k : Nat) (h : NoUnits was ↔ NoUnits y) : NoUnits (Sys.entryLive o was y k) ↔ NoUnits y := by
  unfold Sys.entryLive
  extract_lets i s in_ n bus
  have hbus : NoUnits bus ↔ NoUnits y := .rfl
  have hstreams : NoUnits (upto 8 (fun n y => y.showStream n) y.showSdo) ↔ NoUnits y :=
    (noUnits_foldl _ _ fun z n => ((touches_showStream z n).2 (.refl z)).noUnits).trans ((touches_showSdo y).2 (.refl y)).noUnits
  have hclock : NoUnits (Sys.showTime (if s = 1 ∨ s = 2 then y.sourcesChanged else y)) ↔ NoUnits y :=
    ((touches_showTime _).2 (.refl _)).noUnits.trans
      (noUnits_iff_ite (fun _ => ((touches_sourcesChanged y (by decide)).2 (.refl y)).noUnits) fun _ => .rfl)
  clear_value bus
  repeat' with_reducible refine noUnits_iff_ite (fun _ => ?_) (fun _ => ?_)
  all_goals simp [noUnits_addressChanged, noUnits_closePath, noUnits_others, h, hbus, hclock, hstreams]

theorem noUnits_putLive (o : Otp) (y : Sys) (k : Nat) (v : Bytes) : NoUnits (y.putLive o k v) ↔ NoUnits y :=
  (noUnits_entryLive o y _ k (noUnits_putEntry y k v).symm).trans (noUnits_putEntry y k v)

theorem unqueuing_entryEffect (o : Otp) (y : Sys) (w : Writer) (k : Nat) (v : Bytes) (ranges : Bool) : Unqueuing y (y.entryEffect o w k v ranges) := by
  unfold Sys.entryEffect
  extract_lets i s st
  split
  next r hr =>
    simp only [Option.orElse_eq_some] at hr
    obtain h | ⟨-, h | ⟨-, h | ⟨-, h⟩⟩⟩ := hr
    · exact unqueuing_actIdentity h
    · exact (keeps_actSystem _ _ _ _ _ _ _ h).unqueuing
    · exact (keeps_actFrame _ _ _ _ _ _ h).unqueuing
    · exact (keeps_actStore _ _ _ _ _ _ h).unqueuing
  next =>
    split
    · exact noUnits_putLive ..
    · exact .rfl

theorem unqueuing_commitMember (o : Otp) (y : Sys) (w : Writer) (m : Nat × Bytes) (lose : Bool) : Unqueuing y (y.commitMember o w m lose) := by
  have hentry : Unqueuing y (y.entryApply o w m.1 m.2) := unqueuing_entryEffect ..
  unfold Sys.commitMember
  extract_lets st r
  repeat' split
  · exact .rfl
  · exact .rfl
  · exact .rfl
  · exact hentry
  · exact noUnits_putLive ..
  · exact hentry

/-! ## Units -/

theorem noUnits_commitMembers (o : Otp) (w : Writer) (lose : Nat → Bool) (l : List (Nat × Bytes)) (n : Nat) (ops : List OtpOp) (y : Sys) :
    NoUnits (Sys.commitMembers o w lose l n ops y).sys ↔ NoUnits y := by
  induction l generalizing n ops y with
  | nil => rfl
  | cons m r ih =>
    have hm := unqueuing_commitMember (o.applyAll ops) y w m (lose m.1)
    unfold Sys.commitMembers
    dsimp only
    split
    · exact (ih ..).trans hm
    · exact hm

theorem noUnits_groupRefused (y : Sys) (r : Done) : NoUnits (y.groupRefused r) ↔ NoUnits y := by
  unfold Sys.groupRefused
  repeat' split
  · exact noUnits_raise ..
  · rfl
  · rfl

theorem noUnits_prepare {m : Nat × Bytes} (h : y.prepare m = some z) : NoUnits z ↔ NoUnits y := by
  unfold Sys.prepare at h
  extract_lets i at h
  split at h
  · exact ((sameBut_makeResident h).touches (by decide)).noUnits
  · split at h
    · cases h
      exact ((touches_showUsers _).2 ((touches_wantTables y _ (by decide)).2 (.refl y))).noUnits
    · cases h
      rfl

theorem noUnits_stage (y : Sys) (u : CommitUnit) : NoUnits (y.stage u) ↔ NoUnits y := by
  unfold Sys.stage
  extract_lets same gone z
  refine (noUnits_foldl _ _ fun a p => ?_).trans ((noUnits_foldl _ _ fun a t => ((touches_groupReplaced a t (by decide)).2 (.refl a)).noUnits).trans .rfl)
  exact noUnits_iff_ite (fun _ => ((touches_startInput a p (by decide)).2 (.refl a)).noUnits) fun _ => .rfl

/-- One step of the preparation: what has failed stays so. -/
def prepareNext (r : Nat ⊕ Sys) (m : (Nat × Bytes) × Nat) : Nat ⊕ Sys :=
  match r with
  | .inl i => .inl i
  | .inr y => match y.prepare m.1 with | some z => .inr z | none => .inl m.2

theorem foldl_prepareNext_inl (l : List ((Nat × Bytes) × Nat)) (i : Nat) : l.foldl prepareNext (.inl i) = .inl i := by
  induction l with
  | nil => rfl
  | cons m r ih => exact ih

theorem noUnits_prepareNext (l : List ((Nat × Bytes) × Nat)) (h : l.foldl prepareNext (.inr y) = .inr z) : NoUnits z ↔ NoUnits y := by
  induction l generalizing y with
  | nil =>
    cases h
    rfl
  | cons m r ih =>
    rw [List.foldl_cons, prepareNext] at h
    cases hm : y.prepare m.1 with
    | none =>
      rw [hm] at h
      exact absurd ((foldl_prepareNext_inl r m.2).symm.trans h) nofun
    | some x =>
      rw [hm] at h
      exact (ih h).trans (noUnits_prepare hm)

theorem noUnits_prepareAll {l : List (Nat × Bytes)} (h : y.prepareAll l = .inr z) : NoUnits z ↔ NoUnits y := noUnits_prepareNext _ h

theorem noUnits_raiseAhead (y : Sys) (x : Nat) (target : Option Nat) (before after : Nat × Nat) : NoUnits (y.raiseAhead x target before after) ↔ NoUnits y :=
  ((touches_raiseAhead y _ _ _ _ (by decide)).2 (.refl y)).noUnits

theorem noUnits_showRates (y : Sys) (l : List (Nat × Bytes)) : NoUnits (y.showRates l) ↔ NoUnits y :=
  ((touches_showRates y l).2 (.refl y)).noUnits

theorem noUnits_overEvent (y : Sys) (w : Writer) (b : Nat × Nat) : NoUnits (y.overEvent w b) ↔ NoUnits y :=
  ((touches_overEvent y _ _ (by decide)).2 (.refl y)).noUnits

/-- A unit that is committed, staged or refused. -/
theorem noUnits_commitUnit (o : Otp) (y : Sys) (u : CommitUnit) (lose : Nat → Bool) : NoUnits (y.commitUnit o u lose).sys ↔ NoUnits y := by
  have hover (b : Option (Nat × Nat)) : NoUnits (match b with | some b => y.overEvent u.writer b | none => y) ↔ NoUnits y := by
    split
    · exact noUnits_overEvent ..
    · rfl
  unfold Sys.commitUnit
  extract_lets w fail at_ home before target room upTo own unit r own' wanted
  have hr : NoUnits r.sys ↔ NoUnits y := noUnits_commitMembers ..
  split
  · rfl
  · split
    · split
      · exact hover _
      · split
        · rfl
        next z hz =>
          refine (noUnits_showRates ..).trans ((noUnits_raiseAhead ..).trans ?_)
          exact noUnits_iff_ite (fun _ => noUnits_prepareAll hz) fun _ => (noUnits_stage ..).trans (noUnits_prepareAll hz)
    · split
      · refine noUnits_iff_ite (fun _ => noUnits_iff_ite (fun _ => hr) fun _ => ?_) fun _ => hover _
        exact noUnits_groupRefused y r
      · split
        · rfl
        next z hz => exact (noUnits_showRates ..).trans ((noUnits_raiseAhead ..).trans ((noUnits_prepareAll hz).trans hr))

/-! ## Slots -/

theorem noUnits_superseded (y : Sys) (u v : CommitUnit) (k : Nat) : NoUnits (y.superseded u v k) ↔ NoUnits y :=
  ((touches_superseded y _ _ _ (by decide)).2 (.refl y)).noUnits

theorem noUnits_runSlot (units : List CommitUnit) (refused : List Nat) (l : List (CommitUnit × Nat)) (o : Otp) (ops : List OtpOp) (y : Sys)
    (acc : List (CommitUnit × Status × Nat × Nat)) : NoUnits (Sys.runSlot units refused l o ops y acc).2.2 ↔ NoUnits y := by
  induction l generalizing o ops y acc with
  | nil => rfl
  | cons p r ih =>
    obtain ⟨u, i⟩ := p
    unfold Sys.runSlot
    extract_lets lose lost d fine z st
    have hd : NoUnits d.sys ↔ NoUnits y := by
      unfold d
      split
      · rfl
      · exact noUnits_commitUnit ..
    have hz : NoUnits z ↔ NoUnits y := by
      refine noUnits_iff_ite (fun _ => (noUnits_foldl _ _ fun a m => ?_).trans hd) fun _ => hd
      split
      · exact noUnits_superseded ..
      · rfl
    split
    · exact ih ..
    · exact (ih ..).trans hz

theorem noUnits_settleSlot (o : Otp) (y : Sys) (units : List CommitUnit) (fuel more : Nat) (refused : List Nat) :
    NoUnits (y.settleSlot o units fuel more refused).2.2 ↔ NoUnits y := by
  induction fuel generalizing more refused with
  | zero => exact noUnits_runSlot ..
  | succ n ih =>
    unfold Sys.settleSlot
    extract_lets r bad all
    have hr : NoUnits r.2.2 ↔ NoUnits y := noUnits_runSlot ..
    repeat' split
    · exact hr
    · exact ih ..
    · exact hr
    · exact ih ..

/-! ## Resets -/

theorem noUnits_dropDenval (y : Sys) : NoUnits y.dropDenval := rfl

theorem noUnits_mailReset (y : Sys) : NoUnits y.mailReset ↔ NoUnits y :=
  ((sameBut_mailReset (fs := notDen) (nums := fun _ => True) (blobs := fun _ => True) y (by decide) (by decide) (by decide)).touches fun _ => id).noUnits

/-- A warm reset discards the units with the rest of Denval (R125). -/
theorem noUnits_warmStart (y : Sys) (c : Nat) : NoUnits (y.warmStart c) := by
  unfold Sys.warmStart
  extract_lets from_ y0 y1 y2 m y3 y4 y5 y6 y7 l y8 y9 y10 y11 y12 y13 y14 y15 y16 y17 y18 y19
  have h0 : NoUnits y0 := (noUnits_mailReset _).2 (noUnits_dropDenval _)
  have hqueues : NoUnits y2 := by
    have hclips : Touches notDen y0 y1 := by
      unfold y1
      simp (maxDischargeDepth := 7) [notDen, ↓touches_primitives, ↓touches_foldl, ↓touches_closeClip]
    have hreset : Touches notDen y1 y2 := by
      unfold y2
      clear_value y1
      simp (maxDischargeDepth := 7) [notDen, ↓touches_foldl, ↓touches_queueReset]
    exact hreset.noUnits.2 (hclips.noUnits.2 h0)
  have hsaving : NoUnits y4 := by
    have hbroken : NoUnits y3 := by
      unfold y3 m
      clear_value y2
      split
      · exact hqueues
      · exact hqueues
    unfold y4
    clear_value y3
    exact ((touches_setLaunches _ _ (by decide)).2 (.refl _)).noUnits.2 hbroken
  have hrest : NoUnits y10 := by
    have h : Touches notDen y4 y10 := by
      unfold y10 y9 y8 y7 y6 y5
      clear_value y4
      simp (maxDischargeDepth := 7) [notDen, ↓touches_primitives, ↓touches_foldl, ↓touches_upto, ↓touches_dramRetain, ↓touches_deviceTo, ↓touches_laneTo,
        ↓touches_sets]
    exact h.noUnits.2 hsaving
  have hunits : NoUnits y16 := by
    have h : Touches notDen y10 y16 := by
      unfold y16 y15 y14 y13 y12 y11
      clear_value y10
      simp (maxDischargeDepth := 7) [notDen, ↓touches_primitives, ↓touches_upto, ↓touches_decWait, ↓touches_clearEngines, ↓touches_sets]
    exact h.noUnits.2 hrest
  have hflushed : NoUnits y19 := by
    unfold y19 y18 y17
    clear_value y16
    exact ((touches_logFlush _ (by decide)).2 (.refl _)).noUnits.2 hunits
  clear_value y19
  exact ((touches_showSdo _).2 (.refl _)).noUnits.2 hflushed

theorem noUnits_coldStart (y : Sys) (c : Nat) : NoUnits (y.coldStart c) := by
  unfold Sys.coldStart
  extract_lets y0 m y1 y2 y3 b
  have hdropped : NoUnits y0 := noUnits_dropDenval _
  have hsaving : NoUnits y1 := by
    unfold y1 m
    clear_value y0
    split
    · exact hdropped
    · exact hdropped
  clear_value y1
  have hflushed : NoUnits y2 := ((touches_logFlush _ (by decide)).2 (.refl _)).noUnits.2 hsaving
  clear_value y2
  have hdown : NoUnits y3 := ((touches_powerDown _ _ (by decide)).2 (.refl _)).noUnits.2 hflushed
  clear_value y3
  exact hdown

theorem noUnits_resetDue (y : Sys) (h : NoUnits y) : NoUnits y.resetDue := by
  unfold Sys.resetDue
  split
  · exact noUnits_warmStart ..
  · exact noUnits_coldStart ..
  · exact h

/-! ## The commit instant -/

theorem noUnits_commitSlot (o : Otp) (y : Sys) (units : List CommitUnit) (h : NoUnits y) : NoUnits (y.commitSlot o units).2 := by
  unfold Sys.commitSlot
  extract_lets r
  refine noUnits_resetDue _ ((noUnits_foldl _ _ fun z u => noUnits_afterUnit z u).2 ?_)
  exact (noUnits_storeSlot _ _).2 ((noUnits_settleSlot ..).2 h)

/-- A lone unit is taken at its commit instant (R126). -/
theorem commitInstant_takes (o : Otp) (y : Sys) {u : CommitUnit} (h : y.den.units = [u]) : NoUnits (y.commitInstant o).2 := by
  have hhere : ([u].filter fun v => v.slot == u.slot).mergeSort CommitUnit.le = [u] := by simp
  have htaken : takeSlot [u] 0 0 = ([u], []) := by simp [takeSlot]
  have hempty : NoUnits (y.onDen fun d => { d with units := [] ++ d.units.filter fun v => v.slot != u.slot }) := by
    simp [NoUnits, Sys.onDen, h]
  unfold Sys.commitInstant
  rw [h]
  simp only [List.foldl_cons, List.foldl_nil, Nat.min_self, hhere, htaken, List.map_nil, List.isEmpty_nil, if_true]
  exact noUnits_commitSlot _ _ _ ((noUnits_wr ..).2 hempty)

end Sys2Proof.Machine
end

section
/-!
PROOFS. Writes that are committed (O26): a command's write is a unit of its own slot, and the entries of the fuses fuse what they say.
-/

namespace Sys2Proof.Machine

variable {s : State} {c : Instr} {w : Writer} {k : Nat} {v : Bytes}

/-! ## Writes as units -/

/-- An admitted write is a unit of its own slot. -/
theorem write_commits (hw : writeOf c = some (w, k, v)) (hphase : s.sys.boot.phase = .running) (harr : (s.sys.arrival s.otp w k v).1 = .ok)
    (hcur : k ≠ ent 0x1300 5) :
    let u := writeUnit s.sys w k v
    let d := s.sys.commitUnit s.otp u fun _ => false
    exec c s = .next { s with
      otp := s.otp.applyAll d.ops, sys := Sys.resetDue ((d.sys.storeSlot s.sys).afterUnit (u, d.status, d.key, d.pos)) } := by
  intro u d
  rw [exec_of_writeOf hw, writeStep, run_eq]
  simp only [Sys.writeNow, hphase, ne_eq, not_true_eq_false, if_false, harr, hcur, u, d]

theorem write_refused (hw : writeOf c = some (w, k, v)) (hphase : s.sys.boot.phase = .running) (harr : (s.sys.arrival s.otp w k v).1 ≠ .ok) :
    Runs c s (s.sys.arrival s.otp w k v).2 := by
  rw [Runs, exec_of_writeOf hw, writeStep, run_eq]
  simp only [Sys.writeNow, hphase, ne_eq, not_true_eq_false, if_false, harr, not_false_eq_true, if_true]
  rfl

theorem write_beforeRunning (hw : writeOf c = some (w, k, v)) (hphase : s.sys.boot.phase ≠ .running) : Runs c s s.sys := by
  rw [Runs, exec_of_writeOf hw, writeStep, run_eq]
  simp only [Sys.writeNow, hphase, ne_eq, not_false_eq_true, if_true]
  rfl

/-- A session that is put back under its own number is the one that is found. -/
theorem Sys.session?_setSession {y : Sys} {i : Nat} {g e : Session} (h : y.session? i = some g) (he : e.id = g.id) : (y.setSession e).session? i = some e := by
  have hid := Sys.id_of_session? h
  have hi : i ≠ 0 := by
    rintro rfl
    simp [Sys.session?] at h
  simp only [Sys.session?, if_neg hi] at h ⊢
  have hput : (fun t : Session => t.id == i) ∘ (fun t => if t.id == e.id then e else t) = fun t => t.id == i := by
    funext t
    simp only [Function.comp_apply, beq_iff_eq, he, hid]
    split <;> simp_all
  rw [Sys.setSession, Sys.onDen, List.find?_map, hput, h, Option.map_some, he, beq_self_eq_true, if_pos rfl]

/-- The reader's place after it was set. -/
theorem Sys.cursorOf_setCursor (y : Sys) (path source session v : Nat) : (y.setCursor path source session v).cursorOf path source session = v := by
  unfold Sys.setCursor
  split
  next g hg =>
    unfold Sys.cursorOf
    rw [Sys.session?_setSession (e := { g with cursor := v }) hg rfl]
  next hnone =>
    have hsame : (y.onDen fun d => { d with cursors0 := (sourceKey path source, v) :: d.cursors0.filter fun p => p.1 != sourceKey path source }).session?
        session = none := hnone
    unfold Sys.cursorOf
    rw [hsame]
    simp [Sys.onDen]

theorem sameBut_setCursor (y : Sys) (path source session v : Nat) : SameBut [.den] (only []) (only []) y (y.setCursor path source session v) := by
  unfold Sys.setCursor
  split
  · exact sameBut_onDen _ (by simp)
  · exact sameBut_onDen _ (by simp)

theorem eventCursorWrite_sets (s : State) (w : Writer) (n : BitVec 32) (hphase : s.sys.boot.phase = .running)
    (harr : (s.sys.arrival s.otp w (ent 0x1300 5) (le 4 n.toNat)).1 = .ok) :
    Completes (.eventCursorWrite w n) s fun t =>
      t.sys.cursorOf w.path.val 0 w.session.toNat = n.toNat ∧ Leaves [.den] (only []) (only []) s t := by
  have hvalue : unLe (le 4 n.toNat) = n.toNat := by rw [unLe_le]; exact Nat.mod_eq_of_lt n.isLt
  have hexec : exec (.eventCursorWrite w n) s = .next { s with sys := s.sys.setCursor w.path.val 0 w.session.toNat n.toNat } := by
    rw [exec_of_writeOf rfl, writeStep, run_eq]
    simp only [Sys.writeNow, hphase, ne_eq, not_true_eq_false, if_false, harr, if_true, hvalue]
    rfl
  exact ⟨_, hexec, Sys.cursorOf_setCursor .., rfl, rfl, sameBut_setCursor ..⟩

theorem commitInstant_idle (s : State) (h : s.sys.den.units = []) :
    Completes .commitInstant s fun t =>
      t.sys.rd (ent 0x1100 6) = s.sys.ns / 100000 * 100000 * 2 ^ 32 ∧ Leaves [] (only [ent 0x1100 6]) (only []) s t := by
  have hidle : s.sys.commitInstant s.otp = ([], s.sys.wr (ent 0x1100 6) (s.sys.ns / 100000 * 100000 * 2 ^ 32)) := by
    unfold Sys.commitInstant
    rw [h]
  refine ⟨{ s with sys := s.sys.wr (ent 0x1100 6) (s.sys.ns / 100000 * 100000 * 2 ^ 32) }, ?_, (Sys.rd_wr ..).trans (if_pos rfl), rfl, rfl,
    sameBut_wr _ _ _ (by simp [only])⟩
  rw [exec_commitInstant, execCommitInstant, run_eq, hidle]
  rfl

/-! ## The fuses -/

theorem le_foldl_max {n : Nat} (l : List Nat) (a : Nat) (h : n ≤ a ∨ n ∈ l) : n ≤ l.foldl max a := by
  induction l generalizing a with
  | nil => exact h.resolve_right (by simp)
  | cons b r ih =>
    refine ih _ ?_
    rcases h with h | h
    · exact .inl (h.trans (le_max_left a b))
    · rcases List.mem_cons.1 h with rfl | h
      · exact .inl (le_max_right a n)
      · exact .inr h

/-- A state above the present one has not been programmed. -/
theorem Otp.notMem_of_life_lt {o : Otp} {n : Nat} (h : o.life < n) : n ∉ o.stateFuses :=
  fun hn => absurd h (not_lt.2 (le_foldl_max _ _ (.inr hn)))

/-- The states that a transition may lead to lie above the present one (R168). -/
theorem lt_of_mem_transitions {life n : Nat} (h : n ∈ transitions life) : life < n ∧ n ≤ 6 := by
  unfold transitions at h
  split at h <;> simp at h <;> omega

theorem Otp.stateFuses_programState {o : Otp} {n : Nat} (hlt : o.life < n) (hle : n ≤ 6) : (o.apply (.programState n)).stateFuses = o.stateFuses ++ [n] := by
  have hnot : o.stateFuses.contains n = false := by simpa using Otp.notMem_of_life_lt hlt
  have hok : ¬ (n = 0 ∨ 6 < n ∨ o.stateFuses.contains n = true) := by
    rw [hnot]
    simp
    omega
  rw [Otp.apply, if_neg hok]

theorem Otp.applyAll_append (o : Otp) (a b : List OtpOp) : o.applyAll (a ++ b) = (o.applyAll a).applyAll b := List.foldl_append ..

/-- Only the programming of a state adds to the state fuses. -/
theorem Otp.stateFuses_apply {o : Otp} {p : OtpOp} (h : ∀ n, p ≠ .programState n) : (o.apply p).stateFuses = o.stateFuses := by
  unfold Otp.apply
  split
  next n => exact absurd rfl (h n)
  all_goals repeat' split
  all_goals rfl

theorem Otp.stateFuses_applyAll (l : List OtpOp) (o : Otp) (h : ∀ p ∈ l, ∀ n, p ≠ .programState n) : (o.applyAll l).stateFuses = o.stateFuses := by
  induction l generalizing o with
  | nil => rfl
  | cons p r ih => exact (ih (o.apply p) fun q hq => h q (by simp [hq])).trans (Otp.stateFuses_apply (h p (by simp)))

/-- What a transition fuses: the state, and the erasure of the customer root with it where the target calls for it. -/
theorem applyAll_transitionFuses {o : Otp} {n : Nat} (hlt : o.life < n) (hle : n ≤ 6) :
    (o.applyAll (transitionFuses n)).stateFuses = o.stateFuses ++ [n] ∧ (n = 5 ∨ n = 6 → (o.applyAll (transitionFuses n)).rootErased = true) := by
  have hroot (q : Otp) : (q.apply (.programState n)).rootErased = q.rootErased := by
    unfold Otp.apply
    dsimp only
    split <;> rfl
  unfold transitionFuses
  split
  next h =>
    have herased : (o.apply .eraseRoot).life < n := hlt
    exact ⟨Otp.stateFuses_programState herased hle, fun _ => hroot _⟩
  next h => exact ⟨Otp.stateFuses_programState hlt hle, fun h' => absurd h' h⟩

/-- A transition that is not refused leads to a state above the present one, and its last fuses are those of the state. -/
theorem Sys.transit_admitted (o : Otp) (y : Sys) (w : Writer) (n : Nat) : (y.transit o w n).1 = .ok ∨ (y.transit o w n).1 = .overbudget →
    (y.transit o w n).1 = .ok ∧ n ∈ transitions o.life ∧
      ∃ l, (∀ p ∈ l, ∀ m, p ≠ .programState m) ∧ (y.transit o w n).2.1 = l ++ transitionFuses n := by
  unfold Sys.transit
  extract_lets life y1 root ops
  split
  · nofun
  · split
    · nofun
    next hmem =>
      split
      · nofun
      · refine fun _ => ⟨rfl, by simpa using hmem, _, ?_, rfl⟩
        intro p hp m
        rcases List.mem_append.1 hp with h | h
        · split at h
          · simp_all
          · simp at h
        · split at h
          · simp_all
          · simp at h

theorem lifeCycleTransition_programs (s : State) (w : Writer) (n : BitVec 16) (ha : Admitted s w (ent 0x1001 2) (le 2 n.toNat)) :
    Completes (.lifeCycleTransition w n) s fun t =>
      t.otp.stateFuses = s.otp.stateFuses ++ [n.toNat] ∧ (n.toNat = 5 ∨ n.toNat = 6 → t.otp.rootErased = true) ∧ t.pending = s.pending := by
  have hk : isRwc (ent 0x1001 2) = false := by decide +kernel
  have hp : plainKey (ent 0x1001 2) := .inl (by decide)
  have hvalue : unLe (le 2 n.toNat) = n.toNat := by rw [unLe_le]; exact Nat.mod_eq_of_lt n.isLt
  have hacts : acting s.otp s.sys w (ent 0x1001 2) (le 2 n.toNat) = some (s.sys.transit s.otp w n.toNat) := by
    rw [acting_identity (by decide) (by decide)]
    exact congrArg (fun v => some (s.sys.transit s.otp w v)) hvalue
  have hr : s.sys.entryApply s.otp w (ent 0x1001 2) (le 2 n.toNat) = s.sys.transit s.otp w n.toNat := Sys.entryEffect_of_acting hacts false
  obtain ⟨r, hres⟩ : ∃ r, r = s.sys.transit s.otp w n.toNat := ⟨_, rfl⟩
  have hstatus : r.1 = .ok ∨ r.1 = .overbudget := by
    have hwrite := ((Sys.arrival_ok_iff hk).1 ha.2.1).2
    rw [Sys.entryWrite, Sys.entryEffect_of_acting hacts, ← hres] at hwrite
    exact hwrite.symm
  obtain ⟨hok, hmem, l, hl, hops⟩ := Sys.transit_admitted _ _ _ _ (hres ▸ hstatus)
  obtain ⟨-, z, d, -, -, hexec⟩ := write_spec (c := .lifeCycleTransition w n) rfl hk (by decide) (.of_plain ha hk hp (by rw [hr]; exact hok)) hr
  obtain ⟨hlt, hle⟩ := lt_of_mem_transitions hmem
  have hsame : (s.otp.applyAll l).stateFuses = s.otp.stateFuses := Otp.stateFuses_applyAll l _ hl
  have hlife : (s.otp.applyAll l).life < n.toNat := by rwa [Otp.life, hsame]
  obtain ⟨hfuses, hroot⟩ := applyAll_transitionFuses hlife hle
  rw [← Otp.applyAll_append, ← hops] at hfuses hroot
  exact ⟨_, hexec, hfuses.trans (by rw [hsame]), hroot, rfl⟩

/-! ### Keys, epochs and the customer root -/

/-- REKEY fuses one change and leaves a pending key. -/
theorem Sys.rekey_admitted (o : Otp) (y : Sys) : (y.rekey o 1).1 = .ok ∨ (y.rekey o 1).1 = .overbudget →
    (y.rekey o 1).1 = .ok ∧ (y.rekey o 1).2.2.boot.due = y.boot.due ∧ (y.rekey o 1).2.2.den.saving = y.den.saving ∧
      o.rekeys < 8 ∧ (y.rekey o 1).2.1 = [.fuseRekey] ∧ (y.rekey o 1).2.2.sec.pending.isSome = true := by
  have hkept : Touches [.log, .sec, .mram] y (y.rekey o 1).2.2 := (touches_rekey y o 1 fun _ => id).2 (.refl y)
  have hboot : (y.rekey o 1).2.2.boot.due = y.boot.due := Touches.due hkept (by simp)
  have hden : (y.rekey o 1).2.2.den.saving = y.den.saving := congrArg Denval.saving (hkept.facet .den (by simp) (by simp)).symm
  revert hboot hden
  clear hkept
  unfold Sys.rekey
  extract_lets q y1 m k y2 body y3
  split
  · nofun
  · split
    · nofun
    · split
      · nofun
      next hleft =>
        refine fun hboot hden _ => ⟨rfl, hboot, hden, ?_, rfl, ?_⟩
        · unfold Otp.rekeysLeft at hleft
          omega
        · exact (congrArg (fun k : Security => k.pending.isSome) (Sys.raise_sec ..)).trans rfl

theorem rekey_fuses (s : State) (w : Writer) (ha : Admitted s w (ent 0x1002 1) (le 2 1)) :
    Completes (.rekey w) s fun t => t.otp = { s.otp with rekeys := s.otp.rekeys + 1 } ∧ t.sys.sec.pending.isSome = true := by
  have hk : isRwc (ent 0x1002 1) = false := by decide +kernel
  have hacts : acting s.otp s.sys w (ent 0x1002 1) (le 2 1) = some (s.sys.rekey s.otp 1) := acting_identity (by decide) (by decide)
  obtain ⟨⟨hleft, hops, hpending⟩, t, hexec, hfollow, hotp, -⟩ := acting_does (c := .rekey w) rfl ha hk (.inl (by decide)) (by decide) hacts
    (s.sys.rekey_admitted s.otp)
  refine ⟨t, hexec, ?_, ?_⟩
  · rw [hotp, hops]
    exact if_pos hleft
  · rw [← (hfollow.same.1 .sec (by simp) : _ = t.sys.sec)]
    exact hpending

theorem Sys.raiseEpoch_admitted (o : Otp) (y : Sys) (n : Nat) : (y.raiseEpoch o n).1 = .ok ∨ (y.raiseEpoch o n).1 = .overbudget →
    (y.raiseEpoch o n).1 = .ok ∧ (y.raiseEpoch o n).2.2.boot.due = y.boot.due ∧ (y.raiseEpoch o n).2.2.den.saving = y.den.saving ∧
      o.epochs.length < 64 ∧ o.epoch < n ∧ (y.raiseEpoch o n).2.1 = [.fuseEpoch n] := by
  unfold Sys.raiseEpoch
  split
  · nofun
  next habove =>
    split
    · nofun
    · split
      · nofun
      next hleft =>
        refine fun _ => ⟨rfl, congrArg Boot.due (Sys.raise_boot ..), congrArg Denval.saving (Sys.raise_den ..), ?_, not_le.1 habove, rfl⟩
        unfold Otp.epochsLeft at hleft
        omega

theorem epochRaise_fuses (s : State) (w : Writer) (e : BitVec 8) (ha : Admitted s w (ent 0x1003 1) (le 1 e.toNat)) :
    Completes (.epochRaise w e) s fun t =>
      t.otp = { s.otp with epochs := s.otp.epochs ++ [e.toNat] } ∧ t.otp.epoch = e.toNat ∧ s.otp.epoch < e.toNat := by
  have hk : isRwc (ent 0x1003 1) = false := by decide +kernel
  have hvalue : unLe (le 1 e.toNat) = e.toNat := by rw [unLe_le]; exact Nat.mod_eq_of_lt e.isLt
  have hacts : acting s.otp s.sys w (ent 0x1003 1) (le 1 e.toNat) = some (s.sys.raiseEpoch s.otp e.toNat) := by
    rw [acting_identity (by decide) (by decide)]
    exact congrArg (fun v => some (s.sys.raiseEpoch s.otp v)) hvalue
  obtain ⟨⟨hroom, habove, hops⟩, t, hexec, -, hotp, -⟩ := acting_does (c := .epochRaise w e) rfl ha hk (.inl (by decide)) (by decide) hacts
    (s.sys.raiseEpoch_admitted s.otp e.toNat)
  have hfused : t.otp = { s.otp with epochs := s.otp.epochs ++ [e.toNat] } := by
    rw [hotp, hops]
    exact if_pos hroom
  refine ⟨t, hexec, hfused, ?_, habove⟩
  rw [hfused]
  simp [Otp.epoch]

/-- CUSTOMER_ROOT_WRITE: the root is the one that is fused already, or it is fused, and PROVISIONED with it (R175). -/
theorem Sys.writeRoot_admitted (o : Otp) (y : Sys) (w : Writer) (v : Bytes) : (y.writeRoot o w v).1 = .ok ∨ (y.writeRoot o w v).1 = .overbudget →
    (y.writeRoot o w v).1 = .ok ∧ (y.writeRoot o w v).2.2.boot.due = y.boot.due ∧ (y.writeRoot o w v).2.2.den.saving = y.den.saving ∧
      (o.root = some v ∧ (y.writeRoot o w v).2.1 = [] ∨ o.root = none ∧ (y.writeRoot o w v).2.1 = [.fuseRoot v, .programState 3]) := by
  unfold Sys.writeRoot
  split
  · nofun
  · split
    · nofun
    · split
      · nofun
      · split
        next hroot => exact fun _ => ⟨rfl, rfl, rfl, .inl ⟨hroot, rfl⟩⟩
        · split
          · nofun
          next hleft =>
            refine fun _ => ⟨rfl, congrArg Boot.due (Sys.raise_boot ..), congrArg Denval.saving (Sys.raise_den ..), .inr ⟨?_, rfl⟩⟩
            unfold Otp.rootLeft at hleft
            cases hroot : o.root with
            | none => rfl
            | some r => simp [hroot] at hleft

theorem mem_stateFuses_programState (o : Otp) {n : Nat} (h0 : n ≠ 0) (h6 : n ≤ 6) : n ∈ (o.apply (.programState n)).stateFuses := by
  rw [Otp.apply]
  split
  next h =>
    have hhas : o.stateFuses.contains n = true := (h.resolve_left h0).resolve_left (by omega)
    simpa using hhas
  next => simp

theorem customerRootWrite_fuses (s : State) (w : Writer) (r : Bytes) (ha : Admitted s w (ent 0x1200 1) r) :
    Completes (.customerRootWrite w r) s fun t => t.otp.root = some r ∧ (s.otp.root = none → 3 ∈ t.otp.stateFuses) := by
  have hk : isRwc (ent 0x1200 1) = false := by decide +kernel
  have hacts : acting s.otp s.sys w (ent 0x1200 1) r = some (s.sys.writeRoot s.otp w r) := acting_identity (by decide) (by decide)
  obtain ⟨hroot, t, hexec, -, hotp, -⟩ := acting_does (c := .customerRootWrite w r) rfl ha hk (.inl (by decide)) (by decide) hacts
    (s.sys.writeRoot_admitted s.otp w r)
  refine ⟨t, hexec, ?_⟩
  rcases hroot with ⟨hsame, hops⟩ | ⟨hnone, hops⟩
  · rw [hotp, hops]
    exact ⟨hsame, fun hnone => absurd (hsame.symm.trans hnone) nofun⟩
  · have hfused : s.otp.apply (.fuseRoot r) = { s.otp with root := some r } := by
      unfold Otp.apply
      simp only [hnone]
    have hall : t.otp = Otp.apply { s.otp with root := some r } (.programState 3) := by
      rw [hotp, hops]
      exact congrArg (Otp.apply · (.programState 3)) hfused
    rw [hall]
    refine ⟨?_, fun _ => mem_stateFuses_programState _ (by decide) (by decide)⟩
    rw [Otp.apply]
    split <;> rfl

/-! ### The certificate -/

/-- CERTIFICATE_INSTALL: the pending key is the device key, under the next serial (R171). -/
theorem Sys.installCertificate_admitted (o : Otp) (y : Sys) (v : Bytes) :
    (y.installCertificate o v).1 = .ok ∨ (y.installCertificate o v).1 = .overbudget →
    (y.installCertificate o v).1 = .ok ∧ (y.installCertificate o v).2.2.boot.due = y.boot.due ∧
      (y.installCertificate o v).2.2.den.saving = y.den.saving ∧ (y.installCertificate o v).2.1 = [] ∧
      (y.installCertificate o v).2.2.sec.key = y.sec.pending ∧ (y.installCertificate o v).2.2.sec.pending = none ∧
      (y.installCertificate o v).2.2.mram.pendingKey = none ∧ (y.installCertificate o v).2.2.rdB (ent 0x1000 3) = v ∧
      (y.installCertificate o v).2.2.rd (ent 0x1000 5) = y.keySerial + 1 := by
  have hkept : Touches [.log, .sec, .mram] y (y.installCertificate o v).2.2 := (touches_installCertificate y o v fun _ => id).2 (.refl y)
  have hboot : (y.installCertificate o v).2.2.boot.due = y.boot.due := Touches.due hkept (by simp)
  have hden : (y.installCertificate o v).2.2.den.saving = y.den.saving := congrArg Denval.saving (hkept.facet .den (by simp) (by simp)).symm
  revert hboot hden
  clear hkept
  unfold Sys.installCertificate
  split
  · nofun
  · split
    · nofun
    next key hkey =>
      extract_lets serial chains y1 c0 y2 m k y3
      split
      · nofun
      · intro hboot hden _
        have hchains : SameBut [.sec] (only []) (only []) y1 y2 := .foldl _ _ (fun _ _ _ => sameBut_setChain _ _ (by simp)) y1
        have hcert : y1.rdB (ent 0x1000 3) = v := by simp [y1, ent]
        have hserial : y1.rd (ent 0x1000 5) = y.keySerial + 1 := (Sys.rd_wrB ..).trans ((Sys.rd_wr ..).trans (if_pos rfl))
        clear_value y2 y1 serial chains
        have hrd : y3.rd (ent 0x1000 5) = y.keySerial + 1 := (hchains.2.1 _ (by simp [only])).trans hserial
        have hrdB : y3.rdB (ent 0x1000 3) = v := (hchains.2.2 _ (by simp [only])).trans hcert
        have hkey' : y3.sec.key = y.sec.pending := hkey.symm
        have hpending : y3.sec.pending = none := rfl
        have hmram : y3.mram.pendingKey = none := rfl
        clear_value y3
        exact ⟨rfl, hboot, hden, rfl, by rwa [Sys.raise_sec], by rwa [Sys.raise_sec], by rwa [Sys.raise_mram], by rwa [Sys.rdB_raise], by rwa [Sys.rd_raise]⟩

theorem certificateInstall_activates (s : State) (w : Writer) (v : Bytes) (ha : Admitted s w (ent 0x1002 4) v) :
    Completes (.certificateInstall w v) s fun t =>
      t.sys.sec.key = s.sys.sec.pending ∧ t.sys.sec.pending = none ∧ t.sys.mram.pendingKey = none ∧ t.sys.rdB (ent 0x1000 3) = v ∧
      t.sys.rd (ent 0x1000 5) = s.sys.keySerial + 1 ∧ t.otp = s.otp := by
  have hk : isRwc (ent 0x1002 4) = false := by decide +kernel
  have hacts : acting s.otp s.sys w (ent 0x1002 4) v = some (s.sys.installCertificate s.otp v) := acting_identity (by decide) (by decide)
  obtain ⟨⟨hops, hkey, hpending, hmram, hcert, hserial⟩, t, hexec, hfollow, hotp, -⟩ :=
    acting_does (c := .certificateInstall w v) rfl ha hk (.inl (by decide)) (by decide) hacts (s.sys.installCertificate_admitted s.otp v)
  have hsec := hfollow.same.1 .sec (by simp)
  have hmem := hfollow.same.1 .mram (by simp)
  refine ⟨t, hexec, ?_, ?_, ?_, (hfollow.rdB_eq _).trans hcert, (hfollow.rd_eq (by simp [followNums, ent])).trans hserial, by rw [hotp, hops]; rfl⟩
  · exact (congrArg Security.key hsec).symm.trans hkey
  · exact (congrArg Security.pending hsec).symm.trans hpending
  · exact (congrArg Mram.pendingKey hmem).symm.trans hmram

theorem commitInstant_takesOne (s : State) (u : CommitUnit) (h : s.sys.den.units = [u]) :
    Completes .commitInstant s fun t => t.sys.den.units = [] :=
  ⟨_, rfl, commitInstant_takes s.otp s.sys h⟩

/-- Settles O26. -/
theorem writesAreCommittedAndFusesFollow : Obligations.WritesAreCommittedAndFusesFollow := by
  unfold Obligations.WritesAreCommittedAndFusesFollow
  exact ⟨⟨fun _ _ _ _ _ => write_commits, fun _ _ _ _ _ => write_refused, fun _ _ _ _ _ => write_beforeRunning, eventCursorWrite_sets, commitInstant_idle,
      commitInstant_takesOne⟩,
    lifeCycleTransition_programs, rekey_fuses, epochRaise_fuses, customerRootWrite_fuses, certificateInstall_activates⟩

end Sys2Proof.Machine
end
